-- ==== Sys2Proof/Word.lean ====
section
/-! DEFINITION. Words, bytes and the plainest bit arithmetic of the model. -/

namespace Sys2Proof

/-- A 64-bit register or header word. -/
abbrev Word := BitVec 64

/-- One byte of a payload, of pool memory or of a local buffer. -/
abbrev Byte := BitVec 8

end Sys2Proof
end

