-- ==== Sys2Proof/Syntax.lean ====
section
/-! DEFINITION. The commands of the block: one constructor of `Instr` for every row of spec/opcode_table.json, with the values that an event or a write carries, and the types of those values. -/

namespace Sys2Proof

/-- The two parts of R1. -/
inductive Part where
  | sw   -- the DRV-CS512 switch
  | ep   -- the DRV-NE64 endpoint
deriving DecidableEq, Repr

/-- A packet: the header fields of R293 and the payload. `rsv` gathers the reserved header bits. -/
structure Packet where
  dst : Nat := 0
  src : Nat := 0
  tc : Nat := 0
  op : Nat := 0
  tag : Nat := 0
  addr : Word := 0
  len : Nat := 0
  ctx : Nat := 0
  ptn : Nat := 0
  scope : Nat := 0
  colour : Nat := 0
  lane : Bool := false
  mark : Bool := false
  vol : Bool := false
  uncached : Bool := false
  resend : Bool := false
  srcSw : Bool := false
  status : Nat := 0
  aux : Nat := 0
  crc : BitVec 32 := 0
  rsv : Nat := 0
  payload : List Byte := []
deriving DecidableEq, Repr

/-- A CAP message of capability exchange (R332). `credits` holds the fourteen cell counts in order; `farReq` is the loopback request of R339. -/
structure CapMsg where
  kind : Nat := 0
  axis : Nat := 0
  plane : Nat := 0
  nodeValid : Bool := false
  nodeId : Nat := 0
  switchId : Nat := 0
  port : Nat := 0
  lanesGood : Nat := 0
  rates : Nat := 0
  trained : Nat := 0
  fecRs2 : Bool := true
  encAllow : Bool := false
  encRequire : Bool := false
  fShed : Bool := true
  fFarLb : Bool := false
  fLanes : Bool := true
  credits : List Nat := []
  minLanes : Nat := 1
  farReq : Bool := false
deriving DecidableEq, Repr

/-- What a SEAL flit says of its group (R317): the counter of the first flit, and how many flits it covers. -/
structure SealGroup where
  first : Nat
  count : Nat
deriving DecidableEq, Repr

/-- How an endpoint joins a herd's step (R203, R234): whether it stands by as a spare, and whether a region is attached to the herd. -/
structure HerdRole where
  spare : Bool
  region : Bool
deriving DecidableEq, Repr

/-- A key-exchange message (R315): version, nonce, ML-KEM key or ciphertext, identity public key, signature. -/
structure KexMsg where
  version : Nat := 1
  nonce : List Byte := []
  kem : List Byte := []
  pub : List Byte := []
  sig : List Byte := []
deriving DecidableEq, Repr

/-- The paths to the registers (R505). -/
inductive Path where
  | host | csr | sideband | remote
deriving DecidableEq, Repr

/-- One axis of the fabric. -/
inductive Axis where
  | x | y | z
deriving DecidableEq, Repr


/-- Who writes or reads a register that distinguishes its users: the path, and for remote control space the issuing endpoint and its context (R183). -/
structure Origin where
  path : Path
  node : Nat := 0
  ctx : Nat := 0
deriving DecidableEq, Repr
/-- The commands of the block, one for each row of the table. DESIGN CHOICE, log 5. -/
inductive Instr where
  /-- RESET_RELEASE (R488). -/
  | resetRelease (p : Part) (samples : List Nat)
  /-- STANDBY_POWER_ON (R518). -/
  | standbyPowerOn (p : Part) (samples : List Nat)
  /-- STARTUP_STEP_DONE (R488). -/
  | startupStepDone (bad : List Nat) (imageOk : Bool)
  /-- ENDPOINT_STARTUP_STEP_DONE (R490). -/
  | endpointStartupStepDone (modules : Nat)
  /-- RST_N_PULSE (R519). -/
  | rstNPulse (p : Part) (ns : Nat)
  /-- RST_COLD (R487). -/
  | rstCold (path : Path)
  /-- RST_WARM (R487). -/
  | rstWarm (path : Path)
  /-- RST_FABRIC (R487). -/
  | rstFabric (path : Path)
  /-- EP_RST_WARM (R492). -/
  | epRstWarm (path : Path)
  /-- EP_RST_FABRIC (R492). -/
  | epRstFabric (path : Path)
  /-- MAIN_RAILS_LOST (R469). -/
  | mainRailsLost (p : Part)
  /-- LAYOUT_WRITE (R20). -/
  | layoutWrite (path : Path) (x : Word)
  /-- SWITCH_GROUP_WRITE (R24). -/
  | switchGroupWrite (path : Path) (x : Word)
  /-- REF_LOSS (R477). -/
  | refLoss (p : Part)
  /-- REF_RETURN (R477). -/
  | refReturn (p : Part) (ppm : Nat)
  /-- HOLDOVER_EXPIRY (R477). -/
  | holdoverExpiry (p : Part)
  /-- PLL_LOCK_LOSS (R477). -/
  | pllLockLoss (p : Part)
  /-- PWR_ALERT_ASSERT (R481). -/
  | pwrAlertAssert
  /-- PWR_ALERT_DEASSERT (R481). -/
  | pwrAlertDeassert
  /-- THERM_ALERT_ASSERT (R481). -/
  | thermAlertAssert
  /-- THERM_ALERT_DEASSERT (R481). -/
  | thermAlertDeassert
  /-- THERM_P3_DELAY_EXPIRY (R481). -/
  | thermP3DelayExpiry
  /-- PWR_CAP_CHANGE (R520). -/
  | pwrCapChange (cap : Nat)
  /-- FORCE_LEVEL_WRITE (R481). -/
  | forceLevelWrite (path : Path) (x : Word)
  /-- THROTTLE_HOLD_EXPIRY (R484). -/
  | throttleHoldExpiry
  /-- POWER_CONTROL_SAMPLE (R483). -/
  | powerControlSample (p : Part) (watts : Nat)
  /-- DIE_SENSOR_SAMPLE (R485). -/
  | dieSensorSample (p : Part) (temps : List Nat)
  /-- HBM_STACK_THROTTLE (R140). -/
  | hbmStackThrottle (n celsius : Nat)
  /-- TACKUP_DETECT_PROBE (R328). -/
  | tackupDetectProbe (p : Part) (n mask : Nat) (rates : Option Nat)
  /-- TACKUP_PREAMBLE_TMO (R328). -/
  | tackupPreambleTmo (p : Part) (n : Nat)
  /-- LANE_EQ_PASS (R330). -/
  | laneEqPass (p : Part) (n lane snr : Nat) (inverted : Bool) (there farMin : Nat)
  /-- EQ_TIMER_EXPIRY (R330). -/
  | eqTimerExpiry (p : Part) (n : Nat)
  /-- FLIT_LOCK (R328). -/
  | flitLock (p : Part) (n : Nat)
  /-- LOCK_TMO (R328). -/
  | lockTmo (p : Part) (n : Nat)
  /-- CAP_RECEIVE (R333). -/
  | capReceive (p : Part) (n : Nat) (m : CapMsg)
  /-- REFUSE_RECEIVE (R333). -/
  | refuseReceive (p : Part) (n code : Nat)
  /-- PING_RECEIVE (R334). -/
  | pingReceive (p : Part) (n stamp : Nat)
  /-- PONG_RECEIVE (R334). -/
  | pongReceive (p : Part) (n stamp : Nat)
  /-- READY_RECEIVE (R328). -/
  | readyReceive (p : Part) (n : Nat)
  /-- CAPX_TMO (R328). -/
  | capxTmo (p : Part) (n : Nat)
  /-- TACK_RETRY_TIMER (R329). -/
  | tackRetryTimer (p : Part) (n : Nat)
  /-- PARTNER_REDETECT (R329). -/
  | partnerRedetect (p : Part) (n absent : Nat)
  /-- FPT_RESTART (R342). -/
  | fptRestart (path : Path) (p : Part) (n : Nat)
  /-- FPT_RETRAIN (R335). -/
  | fptRetrain (path : Path) (p : Part) (n : Nat)
  /-- FPT_DISABLE (R342). -/
  | fptDisable (path : Path) (p : Part) (n v : Nat)
  /-- RETRAIN_SET_RECEIVE (R335). -/
  | retrainSetReceive (p : Part) (n : Nat)
  /-- RETRAIN_COMPLETE (R335). -/
  | retrainComplete (p : Part) (n relocked : Nat)
  /-- RETRAIN_TIMEOUT (R335). -/
  | retrainTimeout (p : Part) (n : Nat)
  /-- RETRAIN_BITLOCK_TMO (R456). -/
  | retrainBitlockTmo (p : Part) (n : Nat)
  /-- SHED_WINDOW_EXPIRY (R336). -/
  | shedWindowExpiry (p : Part) (n : Nat)
  /-- LANE_LOCK_LOSS (R457). -/
  | laneLockLoss (p : Part) (n lane : Nat)
  /-- SHED_RECEIVE (R337). -/
  | shedReceive (p : Part) (n mask last : Nat)
  /-- SHED_ACK_RECEIVE (R337). -/
  | shedAckReceive (p : Part) (n mask last : Nat)
  /-- SHED_GO_RECEIVE (R337). -/
  | shedGoReceive (p : Part) (n : Nat)
  /-- FIFO_SLIP (R327). -/
  | fifoSlip (p : Part) (n : Nat)
  /-- SIGNAL_LOSS (R457). -/
  | signalLoss (p : Part) (n : Nat)
  /-- FLIT_RECEIVE (R308). -/
  | flitReceive (p : Part) (n : Nat) (w : List Byte)
  /-- NAK_RECEIVE (R309). -/
  | nakReceive (p : Part) (n ack : Nat)
  /-- REPLAY_TIMER_EXPIRY (R310). -/
  | replayTimerExpiry (p : Part) (n : Nat)
  /-- GROUP_CLOSE (R317). -/
  | groupClose (p : Part) (n : Nat)
  /-- SEAL_RECEIVE (R318). -/
  | sealReceive (p : Part) (n header : Nat) (tag : List Byte) (group : SealGroup)
  /-- KEX_INIT_RECEIVE (R315). -/
  | kexInitReceive (p : Part) (n : Nat) (m : KexMsg)
  /-- KEX_RESP_RECEIVE (R315). -/
  | kexRespReceive (p : Part) (n : Nat) (m : KexMsg)
  /-- KEX_TIMEOUT (R315). -/
  | kexTimeout (p : Part) (n : Nat)
  /-- REKEY_REQUEST (R320). -/
  | rekeyRequest (path : Path) (p : Part) (n : Nat)
  /-- REKEY_SOFT_POINT (R320). -/
  | rekeySoftPoint (p : Part) (n : Nat)
  /-- KEY_EXHAUSTED (R321). -/
  | keyExhausted (p : Part) (n : Nat)
  /-- SWITCH_PACKET_ARRIVAL (R273). -/
  | switchPacketArrival (n : Nat) (k : Packet)
  /-- CREDIT_RESERVE (R248). -/
  | creditReserve (id : Nat)
  /-- EGRESS_PACKET_START (R249). -/
  | egressPacketStart (id : Nat)
  /-- SRAM_UNCORRECTABLE (R253). -/
  | sramUncorrectable (structure_ id : Nat) (mid : Option Nat)
  /-- MID_FENCE_SET (R269). -/
  | midFenceSet (path : Path) (hi : Bool) (v : Word)
  /-- CONG_NOTICE_RECEIVE (R362). -/
  | congNoticeReceive (k : Packet)
  /-- MCAST_COPY_SEND (R259). -/
  | mcastCopySend (id : Nat)
  /-- LOSSY_RESIDUE_EXPIRY (R260). -/
  | lossyResidueExpiry (group : Nat)
  /-- COMBINE_WINDOW_EXPIRY (R262). -/
  | combineWindowExpiry (p line : Nat)
  /-- COMBINE_ISSUE (R262). -/
  | combineIssue (p line : Nat)
  /-- SWITCH_REQ_TIMEOUT (R266). -/
  | switchReqTimeout (id : Nat)
  /-- OUTCOME_RECORD_EXPIRY (R265). -/
  | outcomeRecordExpiry (src tag : Nat)
  /-- OUTCOME_RELEASE_RECEIVE (R360). -/
  | outcomeReleaseReceive (p : Part) (k : Packet)
  /-- PMAP_WRITE (R281). -/
  | pmapWrite (path : Path) (axis : Nat) (v : Word)
  /-- DRAIN_PROBE_RECEIVE (R282). -/
  | drainProbeReceive (n : Nat) (k : Packet)
  /-- PROBE_ANSWER (R282). -/
  | probeAnswer (n tag : Nat)
  /-- PROBE_ACK_RECEIVE (R281). -/
  | probeAckReceive (k : Packet)
  /-- FLIP_SETTLE_EXPIRY (R281). -/
  | flipSettleExpiry (tag : Nat)
  /-- ROUTE_DOWN_RECEIVE (R286). -/
  | routeDownReceive (k : Packet)
  /-- ROUTE_UP_RECEIVE (R286). -/
  | routeUpReceive (k : Packet)
  /-- PORT_ACTIVE_RECEIVE (R285). -/
  | portActiveReceive (n : Nat)
  /-- ROUTE_OK_WRITE (R285). -/
  | routeOkWrite (path : Path)
  /-- PARTNER_IDENTITY_VERIFIED (R285). -/
  | partnerIdentityVerified (p : Part) (n : Nat) (ok : Bool) (digest : List Byte)
  /-- RTE_PORT_DISABLE (R291). -/
  | rtePortDisable (path : Path) (v : Nat)
  /-- CGT_ENABLE_WRITE (R288). -/
  | cgtEnableWrite (path : Path) (v : Nat)
  /-- TELEMETRY_WINDOW_CLOSE (R288). -/
  | telemetryWindowClose
  /-- RELAY_PACKET (R274). -/
  | relayPacket (arrived : Option Nat) (k : Packet)
  /-- MEM_REQ (R46). -/
  | memReq (id queue op addr len : Nat) (data : List Byte) (vol cached : Bool)
  /-- DOORBELL (R345). -/
  | doorbell (q v : Nat)
  /-- CSR (R505). -/
  | csr (write : Bool) (page off size : Nat) (x : Word)
  /-- ACC_CPL (R346). -/
  | accCpl (id answer : Nat) (data : List Byte)
  /-- ACC_TIMEOUT (R346). -/
  | accTimeout (id : Nat)
  /-- DISCARD_ACK (R84). -/
  | discardAck (id : Nat)
  /-- UCIE_DOWN (R347). -/
  | ucieDown
  /-- UCIE_UP (R347). -/
  | ucieUp (modules rate : Nat)
  /-- Q_TAIL_WRITE (R348). -/
  | qTailWrite (path : Path) (v : Nat)
  /-- Q_ENABLE_WRITE (R348). -/
  | qEnableWrite (path : Path) (v : Word)
  /-- DESCRIPTOR_FETCH (R350). -/
  | descriptorFetch (q : Nat) (desc : List Word)
  /-- DESCRIPTOR_FETCH_FAIL (R350). -/
  | descriptorFetchFail (q : Nat)
  /-- CMD_NOP (R349). -/
  | cmdNop (q : Nat)
  /-- CMD_GET (R350). -/
  | cmdGet (q : Nat)
  /-- CMD_PUT (R350). -/
  | cmdPut (q : Nat)
  /-- CMD_ATOMIC (R349). -/
  | cmdAtomic (q : Nat)
  /-- CMD_SYNC_ADD (R351). -/
  | cmdSyncAdd (q : Nat)
  /-- CMD_SYNC_SET (R351). -/
  | cmdSyncSet (q : Nat)
  /-- CMD_SYNC_READ (R351). -/
  | cmdSyncRead (q : Nat)
  /-- CMD_SYNC_WAIT (R351). -/
  | cmdSyncWait (q : Nat)
  /-- CMD_SYNC_SET_CLEAR (R351). -/
  | cmdSyncSetClear (q : Nat)
  /-- CMD_HERD (R352). -/
  | cmdHerd (q : Nat) (desc : List Word) (slot : Nat) (e0 e1 : Word) (nodes : List Nat) (role : HerdRole)
  /-- CMD_GATHER (R352). -/
  | cmdGather (q : Nat)
  /-- CMD_SCATTER_ADD (R352). -/
  | cmdScatterAdd (q : Nat)
  /-- CMD_KSTART (R351). -/
  | cmdKstart (q : Nat)
  /-- CMD_KEND (R351). -/
  | cmdKend (q : Nat)
  /-- LOCAL_WAIT_TMO (R351). -/
  | localWaitTmo (q : Nat)
  /-- COMMAND_COMPLETE (R353). -/
  | commandComplete (q : Nat)
  /-- ANSWER_RECEIVE (R358). -/
  | answerReceive (k : Packet)
  /-- GATHER_ROW_RECEIVE (R352). -/
  | gatherRowReceive (k : Packet)
  /-- RESEND_TIMER (R358). -/
  | resendTimer (tag : Nat)
  /-- REQUEST_TIMEOUT (R358). -/
  | requestTimeout (tag : Nat)
  /-- TAG_HOLD_EXPIRY (R357). -/
  | tagHoldExpiry (tag : Nat)
  /-- OUTCOME_RELEASE_SEND (R360). -/
  | outcomeReleaseSend (kind target : Nat)
  /-- DDP_RECORD_EXPIRY (R359). -/
  | ddpRecordExpiry (src tag : Nat)
  /-- BRIDLE_INCREASE (R362). -/
  | bridleIncrease (ix : Nat)
  /-- WINDOW_REQUEST (R54). -/
  | windowRequest (k : Packet)
  /-- WIN_INV_WRITE (R55). -/
  | winInvWrite (path : Path) (v : Word)
  /-- WIN_VALID_SET (R51). -/
  | winValidSet (path : Path) (v : Word)
  /-- WIN_VALID_CLEAR (R55). -/
  | winValidClear (path : Path) (v : Word)
  /-- GNT_VALID_SET (R52). -/
  | gntValidSet (path : Path) (v : Word)
  /-- AP_VALID_SET (R48). -/
  | apValidSet (path : Path) (n : Nat) (v : Word)
  /-- AP_VALID_CLEAR (R49). -/
  | apValidClear (path : Path) (n : Nat) (v : Word)
  /-- ATC_FLUSH (R50). -/
  | atcFlush (path : Path)
  /-- TABLE_READ_COMPLETE (R47). -/
  | tableReadComplete (k : Packet)
  /-- INVAL_RECEIVE (R60). -/
  | invalReceive (k : Packet)
  /-- INVAL_ACK_SEND (R60). -/
  | invalAckSend
  /-- ACN_ENABLE_WRITE (R66). -/
  | acnEnableWrite (path : Path) (v : Word)
  /-- ACN_EPOCH_EXPIRY (R66). -/
  | acnEpochExpiry
  /-- RANGE_VALID_SET (R65). -/
  | rangeValidSet (path : Path) (r : Nat) (v : Word)
  /-- EPC_NODE_ID_WRITE (R366). -/
  | epcNodeIdWrite (path : Path) (v : Nat)
  /-- SYNC_ADD (R197). -/
  | syncAdd (p : Part) (queue : Nat) (k : Packet)
  /-- SYNC_SET (R197). -/
  | syncSet (p : Part) (queue : Nat) (k : Packet)
  /-- SYNC_SET_CLEAR (R197). -/
  | syncSetClear (p : Part) (queue : Nat) (k : Packet)
  /-- SYNC_READ (R197). -/
  | syncRead (p : Part) (queue : Nat) (k : Packet)
  /-- SYNC_WAIT (R197). -/
  | syncWait (p : Part) (queue : Nat) (k : Packet)
  /-- SYNC_WAIT_TIMEOUT (R197). -/
  | syncWaitTimeout (p : Part) (src tag : Nat)
  /-- SYN_ACQ_READ (R213). -/
  | synAcqRead (path : Path)
  /-- SYN_ADD_WRITE (R213). -/
  | synAddWrite (path : Path) (v : Word)
  /-- SYN_ERROR_CLEAR (R198). -/
  | synErrorClear (path : Path) (p : Part)
  /-- POOL_READ (R119). -/
  | poolRead (k : Packet) (media : List (Nat × Bool))
  /-- POOL_WRITE (R119). -/
  | poolWrite (k : Packet) (media : List (Nat × Bool))
  /-- POOL_ATOMIC (R92). -/
  | poolAtomic (k : Packet) (media : List (Nat × Bool))
  /-- READ_SHARED (R123). -/
  | readShared (k : Packet)
  /-- READ_OWN (R123). -/
  | readOwn (k : Packet)
  /-- UPGRADE (R123). -/
  | upgrade (k : Packet)
  /-- WRITEBACK (R126). -/
  | writeback (k : Packet)
  /-- CLEAN_EVICT (R126). -/
  | cleanEvict (k : Packet)
  /-- SNOOP_RECEIVE (R123). -/
  | snoopReceive (k : Packet)
  /-- SNP_RSP_RECEIVE (R123). -/
  | snpRspReceive (k : Packet)
  /-- SNOOP_TIMEOUT (R130). -/
  | snoopTimeout (slot : Nat)
  /-- AGT_FENCE_WRITE (R130). -/
  | agtFenceWrite (path : Path)
  /-- AGT_READMIT_WRITE (R134). -/
  | agtReadmitWrite (path : Path)
  /-- OL_CLEAR_WRITE (R133). -/
  | olClearWrite (o : Origin) (v : Word)
  /-- OL_REC1_READ (R143). -/
  | olRec1Read (path : Path)
  /-- GRAN_RETIRE (R142). -/
  | granRetire (path : Path)
  /-- DRAIN_END (R136). -/
  | drainEnd (p : Nat)
  /-- SCRUB_GRANULE_DONE (R138). -/
  | scrubGranuleDone (g : Nat)
  /-- PATROL_PASS (R139). -/
  | patrolPass (media : List (Nat × Bool))
  /-- HBM_STACK_LOST (R141). -/
  | hbmStackLost (n : Nat)
  /-- BULK_FILL_COMPLETE (R113). -/
  | bulkFillComplete (id : Nat) (ok : Bool) (data : List Byte)
  /-- BULK_WRITEBACK_COMPLETE (R115). -/
  | bulkWritebackComplete (id : Nat) (ok : Bool)
  /-- BULK_PORT_DOWN (R115). -/
  | bulkPortDown (n : Nat)
  /-- BULK_PORT_UP (R393). -/
  | bulkPortUp (n serial bytes : Nat)
  /-- PREFETCH_HINT (R113). -/
  | prefetchHint (k : Packet) (busy : Bool)
  /-- BULK_DEV_TIMEOUT (R394). -/
  | bulkDevTimeout (id : Nat)
  /-- GATHER_REQUEST (R236). -/
  | gatherRequest (k : Packet)
  /-- SCATTER_ADD_REQUEST (R237). -/
  | scatterAddRequest (k : Packet)
  /-- CTL_READ (R41). -/
  | ctlRead (p : Part) (k : Packet)
  /-- CTL_WRITE (R41). -/
  | ctlWrite (p : Part) (k : Packet)
  /-- CORE_RESIDUE_FAULT (R172). -/
  | coreResidueFault (c : Nat) (selfCheck : Bool) (work : Option (Nat × Nat))
  /-- RDC_FENCE_WRITE (R175). -/
  | rdcFenceWrite (path : Path) (c : Nat)
  /-- RDC_READMIT_WRITE (R175). -/
  | rdcReadmitWrite (path : Path) (c : Nat)
  /-- RDC_SELFTEST_WRITE (R174). -/
  | rdcSelftestWrite (path : Path) (c : Nat)
  /-- SELFTEST_COMPLETE (R174). -/
  | selftestComplete (c : Nat) (pass : Bool) (failFmt : Nat)
  /-- HRD_CLAIM_READ (R183). -/
  | hrdClaimRead (o : Origin)
  /-- STAGE_CLAIM_TIMEOUT (R183). -/
  | stageClaimTimeout (svc : Bool)
  /-- HERD_CREATE (R184). -/
  | herdCreate (o : Origin) (i : Nat)
  /-- HERD_DESTROY (R186). -/
  | herdDestroy (o : Origin) (i : Nat)
  /-- HERD_ABORT_CMD (R186). -/
  | herdAbortCmd (o : Origin) (i : Nat)
  /-- HERD_SWAP_CMD (R203). -/
  | herdSwapCmd (o : Origin) (i v k : Nat) (atStep : Bool)
  /-- HERD_CONTRIB (R190). -/
  | herdContrib (k : Packet)
  /-- HERD_PARTIAL (R190). -/
  | herdPartial (k : Packet)
  /-- HERD_RESULT (R192). -/
  | herdResult (p : Part) (k : Packet)
  /-- HERD_JOIN (R188). -/
  | herdJoin (k : Packet)
  /-- HERD_COUNTS (R199). -/
  | herdCounts (p : Part) (k : Packet)
  /-- HERD_RECORD (R200). -/
  | herdRecord (k : Packet)
  /-- CHUNK_REDUCED (R193). -/
  | chunkReduced (herd chunk core : Nat)
  /-- HERD_SIGNAL_RECEIVE (R195). -/
  | herdSignalReceive (k : Packet)
  /-- HERD_CPL_RECEIVE (R196). -/
  | herdCplReceive (p : Part) (k : Packet)
  /-- HERD_ABORT_RECEIVE (R207). -/
  | herdAbortReceive (p : Part) (k : Packet)
  /-- HERD_SWAP_RECEIVE (R203). -/
  | herdSwapReceive (k : Packet)
  /-- HERD_ACK_RECEIVE (R209). -/
  | herdAckReceive (k : Packet)
  /-- HERD_TIMER_EXPIRY (R205). -/
  | herdTimerExpiry (i : Nat)
  /-- ABORTING_TIMEOUT (R209). -/
  | abortingTimeout (i : Nat)
  /-- SVC_CLAIM_READ (R239). -/
  | svcClaimRead (o : Origin)
  /-- SVC_LOAD (R230). -/
  | svcLoad (o : Origin) (slot : Nat)
  /-- SVC_UNLOAD (R230). -/
  | svcUnload (o : Origin) (slot : Nat)
  /-- SVC_ATTACH (R226). -/
  | svcAttach (o : Origin) (i : Nat)
  /-- SVC_DETACH (R227). -/
  | svcDetach (o : Origin) (i : Nat)
  /-- SVC_CONST (R225). -/
  | svcConst (o : Origin) (i : Nat)
  /-- SVC_SEAL (R232). -/
  | svcSeal (o : Origin) (g : Nat)
  /-- SVC_UNSEAL (R233). -/
  | svcUnseal (o : Origin) (g : Nat)
  /-- SVC_TABLE_SET (R235). -/
  | svcTableSet (o : Origin) (t : Nat)
  /-- SVC_TABLE_CLR (R239). -/
  | svcTableClr (o : Origin) (t : Nat)
  /-- PROGRAM_CHUNK_DONE (R222). -/
  | programChunkDone (i c core : Nat)
  /-- REGION_HASH_DONE (R233). -/
  | regionHashDone (bulk : List (Nat × List Byte))
  /-- ATT_COMMIT_WRITE (R224). -/
  | attCommitWrite (path : Path) (v : Word)
  /-- MEM_RD (R380). -/
  | memRd (dpa mv : Nat)
  /-- MEM_INV (R380). -/
  | memInv (dpa : Nat)
  /-- MEM_WR (R380). -/
  | memWr (dpa mask : Nat) (data : List Byte)
  /-- MEM_CLN_EVCT (R380). -/
  | memClnEvct (dpa : Nat)
  /-- MEM_SPEC_RD (R380). -/
  | memSpecRd (dpa : Nat)
  /-- BI_RSP (R382). -/
  | biRsp (dpa : Nat) (shared : Bool)
  /-- BI_CONFLICT (R383). -/
  | biConflict (dpa : Nat)
  /-- INV_SUBMIT (R386). -/
  | invSubmit (desc : List Byte)
  /-- INVAL_ACK_RECEIVE (R62). -/
  | invalAckReceive (k : Packet)
  /-- INVAL_TIMEOUT (R62). -/
  | invalTimeout (serial : Nat)
  /-- INV_RECORD_WRITE (R387). -/
  | invRecordWrite
  /-- HOST_LINK_DOWN (R377). -/
  | hostLinkDown (cause : Nat)
  /-- HDM_COMMIT (R379). -/
  | hdmCommit (dec hpa dpa size ways : Nat) (db : Bool)
  /-- BI_EN_WRITE (R384). -/
  | biEnWrite (path : Path) (v : Bool)
  /-- IDE_CHECK_FAIL (R388). -/
  | ideCheckFail
  /-- TSP_GET_VERSION (R389). -/
  | tspGetVersion
  /-- TSP_GET_CAPABILITIES (R389). -/
  | tspGetCapabilities
  /-- TSP_SET_CONFIG (R389). -/
  | tspSetConfig (v : Nat)
  /-- TSP_LOCK_CONFIG (R390). -/
  | tspLockConfig
  /-- TSP_GET_REPORT (R389). -/
  | tspGetReport
  /-- IDENTIFY_MEMORY_DEVICE (R376). -/
  | identifyMemoryDevice
  /-- GET_SUPPORTED_LOGS (R376). -/
  | getSupportedLogs
  /-- GET_LOG (R376). -/
  | getLog
  /-- GET_EVENT_RECORDS (R376). -/
  | getEventRecords
  /-- CLEAR_EVENT_RECORDS (R376). -/
  | clearEventRecords (all : Bool) (handles : List Nat)
  /-- GET_EVENT_INTERRUPT_POLICY (R376). -/
  | getEventInterruptPolicy
  /-- SET_EVENT_INTERRUPT_POLICY (R376). -/
  | setEventInterruptPolicy (v : Nat)
  /-- GET_HEALTH_INFO (R376). -/
  | getHealthInfo
  /-- GET_TIMESTAMP (R376). -/
  | getTimestamp
  /-- SET_TIMESTAMP (R376). -/
  | setTimestamp (v : Nat)
  /-- CXD_DEVICE_DETECT (R392). -/
  | cxdDeviceDetect (n kind serial bytes : Nat) (ide : Bool) (width rate : Nat)
  /-- CXD_RESTART (R396). -/
  | cxdRestart (path : Path) (n : Nat)
  /-- DCT_BEGIN (R417). -/
  | dctBegin (path : Path) (scope : Nat)
  /-- DCT_REC_WRITE (R417). -/
  | dctRecWrite (path : Path) (x : Word)
  /-- DCT_SEAL (R417). -/
  | dctSeal (path : Path)
  /-- DCT_CANCEL (R419). -/
  | dctCancel (path : Path)
  /-- SIG_START (R418). -/
  | sigStart (path : Path) (role : Nat)
  /-- SIG_DATA_WRITE (R418). -/
  | sigDataWrite (path : Path) (x : Word)
  /-- SIG_SUBMIT (R418). -/
  | sigSubmit (path : Path) (role : Nat)
  /-- SIG_VERIFY_DONE (R419). -/
  | sigVerifyDone
  /-- DCT_WINDOW_EXPIRY (R419). -/
  | dctWindowExpiry
  /-- BINDING_SET_RECEIVE (R422). -/
  | bindingSetReceive (link sid : Nat) (seq : Word) (ctxs : List (Nat × Word)) (mask : Word) (digest : List Byte)
  /-- BINDING_ACK_RECEIVE (R422). -/
  | bindingAckReceive (n : Nat)
  /-- BINDING_RESEND_TIMER (R422). -/
  | bindingResendTimer (n : Nat)
  /-- IMAGE_WRITE_DONE (R425). -/
  | imageWriteDone
  /-- SPDM_GET_VERSION (R402). -/
  | spdmGetVersion (p : Part) (who : Nat)
  /-- SPDM_GET_CAPABILITIES (R402). -/
  | spdmGetCapabilities (p : Part) (who : Nat)
  /-- SPDM_NEGOTIATE_ALGORITHMS (R402). -/
  | spdmNegotiateAlgorithms (p : Part) (who : Nat)
  /-- SPDM_GET_DIGESTS (R402). -/
  | spdmGetDigests (p : Part) (who : Nat)
  /-- SPDM_GET_CERTIFICATE (R402). -/
  | spdmGetCertificate (p : Part) (who slot offset length : Nat)
  /-- SPDM_CHALLENGE (R402). -/
  | spdmChallenge (p : Part) (who slot : Nat) (nonce : List Byte)
  /-- SPDM_GET_MEASUREMENTS (R403). -/
  | spdmGetMeasurements (p : Part) (who index : Nat) (raw : Bool) (nonce : List Byte)
  /-- SPDM_KEY_EXCHANGE (R402). -/
  | spdmKeyExchange (p : Part) (who : Nat) (exchange : List Byte)
  /-- SPDM_FINISH (R402). -/
  | spdmFinish (p : Part) (who : Nat) (right : Bool)
  /-- SPDM_END_SESSION (R402). -/
  | spdmEndSession (p : Part) (who : Nat)
  /-- SPDM_VENDOR_DEFINED (R402). -/
  | spdmVendorDefined (p : Part) (who : Nat) (ide : Option (Nat × Bool))
  /-- SPDM_REFUSED_REQUEST (R402). -/
  | spdmRefusedRequest (p : Part) (who : Nat)
  /-- WATCHDOG_EXPIRY (R433). -/
  | watchdogExpiry (c : Nat)
  /-- WDT_PET (R452). -/
  | wdtPet (c mask : Nat)
  /-- SEC_WATCHDOG_EXPIRY (R434). -/
  | secWatchdogExpiry (p : Part)
  /-- CORE_RESTART_DONE (R433). -/
  | coreRestartDone (c : Nat)
  /-- HELLO (R437). -/
  | hello
  /-- GOODBYE (R438). -/
  | goodbye
  /-- CTX_RECLAIM (R440). -/
  | ctxReclaim
  /-- CTX_RESET (R440). -/
  | ctxReset
  /-- FW_STAGE (R444). -/
  | fwStage
  /-- FW_ACTIVATE (R445). -/
  | fwActivate
  /-- FW_CANCEL (R445). -/
  | fwCancel
  /-- FW_CONFIRM (R447). -/
  | fwConfirm
  /-- FW_CONFIRM_WRITE (R452). -/
  | fwConfirmWrite
  /-- PLDM_FW_UPDATE (R444). -/
  | pldmFwUpdate (len : Nat)
  /-- PLDM_ACTIVATE_FIRMWARE (R445). -/
  | pldmActivateFirmware
  /-- PLDM_CANCEL_UPDATE (R445). -/
  | pldmCancelUpdate
  /-- STAGING_DONE (R444). -/
  | stagingDone (img : List Byte)
  /-- ACTIVATION_P0_WAIT_EXPIRY (R445). -/
  | activationP0WaitExpiry
  /-- SAFE_POINT_REACHED (R445). -/
  | safePointReached
  /-- SAFE_POINT_TIMEOUT (R445). -/
  | safePointTimeout
  /-- IMAGE_RESTART_DONE (R445). -/
  | imageRestartDone
  /-- TRIAL_CONFIRM_TIMER (R447). -/
  | trialConfirmTimer
  /-- HB_BEAT (R438). -/
  | hbBeat (path : Path) (id : Nat)
  /-- HB_WINDOW_CLOSE (R438). -/
  | hbWindowClose
  /-- CONTEXT_QUIESCE (R439). -/
  | contextQuiesce
  /-- I3C_ADDRESS_ASSIGN (R448). -/
  | i3cAddressAssign (addr : Nat)
  /-- SB_REGISTER_ACCESS (R450). -/
  | sbRegisterAccess (write : Bool) (page off size : Nat) (x : Word)
  /-- MCTP_CONTROL (R449). -/
  | mctpControl (intact : Bool)
  /-- PLDM_MONITORING (R449). -/
  | pldmMonitoring
  /-- PAGE_ENABLE_WRITE (R500). -/
  | pageEnableWrite (path : Path) (p : Part) (page v : Nat)
  /-- PAGE_SOFT_RESET (R501). -/
  | pageSoftReset (path : Path) (p : Part) (page : Nat)
  /-- SOFT_RESET_DONE (R501). -/
  | softResetDone (p : Part) (page : Nat)
  /-- PAGE_FENCE (R502). -/
  | pageFence (path : Path) (p : Part) (page : Nat)
  /-- INT_FORCE_WRITE (R497). -/
  | intForceWrite (path : Path) (p : Part) (page : Nat) (x : Word)
  /-- ERR_COUNT_WRITE (R497). -/
  | errCountWrite (path : Path) (p : Part) (page : Nat) (x : Word)
  /-- ERR_LOG_CLEAR (R513). -/
  | errLogClear (path : Path) (p : Part)
  /-- ERR_LOG3_READ (R513). -/
  | errLog3Read (path : Path) (p : Part)
  /-- REGISTER_WRITE (R503). -/
  | registerWrite (o : Origin) (p : Part) (page off size : Nat) (x : Word)
  /-- HOST_LINK_UP (R375). -/
  | hostLinkUp (width rate : Nat) (cxl : Bool)
  /-- IMAGE_RESTART_TIMEOUT (R447). -/
  | imageRestartTimeout
  /-- TABLE_ECC_FATAL (R464). -/
  | tableEccFatal (page : Nat)
  /-- SECURITY_CORE_FATAL_ALARM (R464). -/
  | securityCoreFatalAlarm
  /-- MAIN_RAILS_ON (R521). -/
  | mainRailsOn (p : Part)
  /-- STANDBY_POWER_OFF (R518). -/
  | standbyPowerOff (p : Part)
  /-- PATTERN_CHECKER_LOCK (R340). -/
  | patternCheckerLock (p : Part) (n lane : Nat)
  /-- REKEY_CTRL_RECEIVE (R320). -/
  | rekeyCtrlReceive (p : Part) (n : Nat)
  /-- TAP_INSTRUCTION_LOAD (R531). -/
  | tapInstructionLoad (p : Part) (code : Nat) (samples : List Nat)
  /-- TAP_RESET (R530). -/
  | tapReset (p : Part) (samples : List Nat)
  /-- UCIE_DEGRADE (R344). -/
  | ucieDegrade (modules rate : Nat)
  /-- BACKLOG_AVERAGE_UPDATE (R255). -/
  | backlogAverageUpdate
  /-- OL_CLEAR_DONE (R143). -/
  | olClearDone
  /-- TSP_REFUSED_REQUEST (R389). -/
  | tspRefusedRequest
  /-- MEMDEV_UNSUPPORTED_COMMAND (R376). -/
  | memdevUnsupportedCommand
  /-- CONGESTION_NOTICE_INTERVAL (R258). -/
  | congestionNoticeInterval (p : Part) (src tc : Nat)
deriving DecidableEq, Repr

end Sys2Proof
end

