-- ==== Sys2Proof/Decode.lean ====
section
/-! DEFINITION. The command that a word of spec/opcode_table.json spells. No row of the table gives bits, so no word spells a command. -/

namespace Sys2Proof

/-- The command of a table word: none, since no row of the table has bits. DESIGN CHOICE, log 3. -/
def decodeTableWord (nbits w : Nat) : Option Instr :=
  match nbits, w with
  | _, _ => none

end Sys2Proof
end

