-- ==== Sys2Proof/Machine/SMap.lean ====
section
/-! DEFINITION. Sparse maps by key: sorted lists of key and value pairs with no repeats, so that equal maps are equal data. Pool memory, register files and every table of the two parts are held so. -/

namespace Sys2Proof.Machine

/-- A sparse map: keys strictly rising. -/
abbrev SMap (α : Type) := List (Nat × α)

/-- The value held under a key. -/
def lookup {α : Type} : SMap α → Nat → Option α
  | [], _ => none
  | (k, v) :: r, q => if q = k then some v else lookup r q

/-- Stores a value under a key, keeping the keys strictly rising. -/
def insertAt {α : Type} : SMap α → Nat → α → SMap α
  | [], q, x => [(q, x)]
  | (k, v) :: r, q, x =>
    if q < k then (q, x) :: (k, v) :: r
    else if q = k then (q, x) :: r
    else (k, v) :: insertAt r q x

/-- Removes a key. -/
def removeAt {α : Type} : SMap α → Nat → SMap α
  | [], _ => []
  | (k, v) :: r, q => if q = k then r else (k, v) :: removeAt r q

/-- The keys rise strictly: the one canonical form. -/
def rising {α : Type} : SMap α → Bool
  | [] => true
  | (_, _) :: [] => true
  | (k, _) :: (k', v') :: r => k < k' && rising ((k', v') :: r)

/-- Every value passed through a function of key and value. -/
def mapVals {α β : Type} (f : Nat → α → β) (m : SMap α) : SMap β :=
  m.map fun p => (p.1, f p.1 p.2)

/-- The entries whose key and value pass a test. -/
def keepIf {α : Type} (f : Nat → α → Bool) (m : SMap α) : SMap α :=
  m.filter fun p => f p.1 p.2

/-- Bits `lo` up to `lo + w - 1` of a number. -/
def bitsOf (n lo w : Nat) : Nat := (n >>> lo) % 2 ^ w

/-- A word with bits `lo` up to `lo + w - 1` replaced by the low `w` bits of `v`. -/
def setBits (x : Word) (lo w v : Nat) : Word :=
  let m : Word := BitVec.ofNat 64 ((2 ^ w - 1) <<< lo)
  (x &&& ~~~m) ||| (BitVec.ofNat 64 ((v % 2 ^ w) <<< lo))

/-- Bits of a word as a number. -/
def getBits (x : Word) (lo w : Nat) : Nat := (x.toNat >>> lo) % 2 ^ w

end Sys2Proof.Machine
end

