-- ==== Sys2Proof/Machine/Flags.lean ====
section
/-! DEFINITION. The flag byte of reduction arithmetic (R167) and every rule that raises one of its bits (R161, R163, R166). -/

namespace Sys2Proof.Machine

def fINVALID : Nat := 1
def fOVERFLOW : Nat := 2
def fUNDERFLOW : Nat := 4
def fSATURATE : Nat := 8
def fNAN_INPUT : Nat := 16
def fINF_INPUT : Nat := 32
def fDECODE_OVF : Nat := 64

/-- A flag raised when a condition holds. -/
def flagIf (c : Bool) (f : Nat) : Nat := if c then f else 0

/-- Flags of two results together. -/
def flagOr (a b : Nat) : Nat := a ||| b

/-- Whether a flag byte holds a flag. -/
def hasFlag (fl f : Nat) : Bool := fl &&& f != 0

/-- The reason that the counters of RDC.FLAG_CNT group together (R175): OVERFLOW or DECODE_OVF. -/
def overflowed (fl : Nat) : Bool := hasFlag fl fOVERFLOW || hasFlag fl fDECODE_OVF

end Sys2Proof.Machine
end

