-- ==== Sys2Proof/Config.lean ====
section
/-! DEFINITION. What an implementation fixes and the spec leaves open: the free values (opaque constants without a body, of which nothing can be proved) and the cryptographic functions, whose algorithms the spec names and does not give. -/

namespace Sys2Proof.Config

/-- A fresh free value: the n-th value that the spec leaves open. DESIGN CHOICE, log 10, 59. -/
opaque freeNat : Nat → Nat

/-- SHA3-512 of a byte string (R315, R414). DESIGN CHOICE, log 11. -/
opaque sha3 : List Byte → List Byte

/-- SHAKE256 of a byte string, at an output length (R316). DESIGN CHOICE, log 11. -/
opaque shake256 : List Byte → Nat → List Byte

/-- ML-DSA-87 verification: public key, digest, signature (R315, R419). DESIGN CHOICE, log 11. -/
opaque mldsaVerify : List Byte → List Byte → List Byte → Bool

/-- ML-DSA-87 signature of a digest under the key of a 32-byte seed (R398). -/
opaque mldsaSign : List Byte → List Byte → List Byte

/-- The ML-DSA-87 public key of a 32-byte seed, 2,592 bytes (R398). -/
opaque mldsaKey : List Byte → List Byte

/-- A part's unique device secret, 32 bytes (R397). DESIGN CHOICE, log 11. -/
opaque uds : Part → List Byte

/-- The SHA3-512 digest of a part's boot ROM: measurement block 0 (R403). -/
opaque romDigest : Part → List Byte

/-- The SHA3-512 digest of the endpoint's security-core ROM and its fused patch: measurement block 3 (R403). -/
opaque secRomDigest : List Byte

/-- A part's certificate chain (R399): the identity public key and measurements 0 to 3. DESIGN CHOICE, log 11. -/
opaque certChain : Part → List Byte → List Byte → List Byte

/-- The digest of the image-signing key held in the boot ROM (R442). DESIGN CHOICE, log 11. -/
opaque imageSigner : List Byte

/-- A part's serial number (GLB.SERIAL, a fuse; R512). DESIGN CHOICE, log 12. -/
opaque serial : Part → BitVec 64

/-- A fresh ML-KEM-1024 encapsulation key, 1,568 bytes. DESIGN CHOICE, log 61. -/
opaque kemKey : Nat → List Byte

/-- The ciphertext of a fresh shared secret under an encapsulation key. DESIGN CHOICE, log 61. -/
opaque kemCipher : List Byte → Nat → List Byte

/-- The shared secret that the responder drew with a ciphertext. DESIGN CHOICE, log 11. -/
opaque kemSecret : List Byte → Nat → List Byte

/-- The shared secret that the initiator recovers from a ciphertext with the key of a draw. DESIGN CHOICE, log 11. -/
opaque kemRecover : List Byte → Nat → List Byte

/-- A fresh 32-byte nonce. DESIGN CHOICE, log 61. -/
opaque nonce : Nat → List Byte

/-- The AES-256-GCM key stream of a key and IV, at a byte count (R317). -/
opaque gcmStream : List Byte → List Byte → Nat → List Byte

/-- The AES-256-GCM tag: key, IV, additional data, ciphertext (R317). DESIGN CHOICE, log 11. -/
opaque gcmTag : List Byte → List Byte → List Byte → List Byte → List Byte

/-- The bytes of a link-control message whose layout the spec does not give (R328, R333, R334). DESIGN CHOICE, log 52. -/
opaque ctrlBytes : Nat → Nat → List Byte

/-- The directory set of a line (R122 gives the sets and ways, and no index function). DESIGN CHOICE, log 60. -/
opaque dirSet : Nat → Nat

/-- The cells of a class that an internal port's sink takes beyond one packet of 18 (R248 gives the sink's credit and not its size). DESIGN CHOICE, log 192. -/
opaque sinkRoom : Nat → Nat → Nat

/-- The integer that a NaN becomes in an integer output of so many bytes (R161 and R162 state none). DESIGN CHOICE, log 108. -/
opaque nanInt : Nat → Nat

end Sys2Proof.Config
end

