-- ==== Sys2Proof/Machine/RegFile.lean ====
section
/-! DEFINITION. What a register is to the model: its place, its reset value, its fields and access types (R497, R503), and the register file that holds the values. -/

namespace Sys2Proof.Machine

/-- A register: the first page of its block, the offset in the page, the value after cold reset. -/
structure Reg where
  page : Nat
  off : Nat
  reset : Nat
deriving DecidableEq, Repr

/-- A field of a register: lowest bit and width. -/
structure Fld where
  reg : Reg
  lo : Nat
  w : Nat
deriving DecidableEq, Repr

/-- The access types of R503. -/
inductive Acc where
  | ro | rw | rw1c | rw1s | wo | rwl | rws
deriving DecidableEq, Repr

/-- One row of a register table: lowest bit, width, access type, value after cold reset. -/
structure FieldDesc where
  lo : Nat
  w : Nat
  acc : Acc
  reset : Nat
deriving DecidableEq, Repr

/-- The parts whose page holds a register. -/
inductive Holder where
  | both | switchOnly | endpointOnly
deriving DecidableEq, Repr

/-- One register table of the spec: the register, how many consecutive 8-byte copies it names, whether it is 8 bytes wide, which part holds it, and its fields. -/
structure RegDesc where
  reg : Reg
  count : Nat
  wide : Bool
  holder : Holder
  fields : List FieldDesc
deriving DecidableEq, Repr

/-- The values of a part's registers, by the key of `Reg.key`. A key that is not listed reads as the register's reset value. -/
abbrev RegFile := SMap Word

/-- The key of a register: the instance of its page, the bank chosen by its selector, the page, and the offset. -/
def Reg.key (r : Reg) (bank inst : Nat) : Nat := (inst * 2 ^ 24 + bank) * 2 ^ 24 + (r.page * 4096 + r.off % 4096)

/-- A register's value. DESIGN CHOICE, log 7. -/
def RegFile.read (m : RegFile) (r : Reg) (bank inst : Nat) : Word :=
  (lookup m (r.key bank inst)).getD (BitVec.ofNat 64 r.reset)

/-- Stores a register's value. -/
def RegFile.write (m : RegFile) (r : Reg) (bank inst : Nat) (x : Word) : RegFile :=
  insertAt m (r.key bank inst) x

/-- The register `k` places of 8 bytes above (the copies that one table names). -/
def Reg.word (r : Reg) (k : Nat) : Reg := { r with off := r.off + 8 * k }

/-- A field shifted to the register `d` bytes above (lane sub-pages, apertures, counter ranges). -/
def Fld.shift (f : Fld) (d : Nat) : Fld := { f with reg := { f.reg with off := f.reg.off + d } }

end Sys2Proof.Machine
end

