-- ==== Sys2Proof/Machine/RegNames.lean ====
section
/-! DEFINITION. The register constants of both parts, one per register and one per field of the register tables of spec/ (R497, R509, R510 give the pages; each chapter its own block). A `Reg` holds page, offset and reset value; a `Fld` its register, lowest bit and width. -/

namespace Sys2Proof.Machine

/-- `APT.ATC_CTL`, R50 of 02_addresses_and_windows.md. -/
def APT_ATC_CTL : Reg := ⟨0x31, 0x40, 0⟩
def APT_ATC_CTL_FLUSH : Fld := ⟨APT_ATC_CTL, 0, 1⟩
def APT_ATC_CTL_FLUSH_BUSY : Fld := ⟨APT_ATC_CTL, 1, 1⟩
/-- `APT.ATC_STS`, R50 of 02_addresses_and_windows.md. -/
def APT_ATC_STS : Reg := ⟨0x31, 0x44, 0⟩
def APT_ATC_STS_ENTRIES : Fld := ⟨APT_ATC_STS, 0, 14⟩
def APT_ATC_STS_FILLS : Fld := ⟨APT_ATC_STS, 14, 18⟩
/-- `APT.AP_CTL`, R50 of 02_addresses_and_windows.md. -/
def APT_AP_CTL : Reg := ⟨0x31, 0x100, 0x10000⟩
def APT_AP_CTL_VALID : Fld := ⟨APT_AP_CTL, 0, 1⟩
def APT_AP_CTL_MODE : Fld := ⟨APT_AP_CTL, 1, 1⟩
def APT_AP_CTL_WRITE_EN : Fld := ⟨APT_AP_CTL, 2, 1⟩
def APT_AP_CTL_ATOMIC_EN : Fld := ⟨APT_AP_CTL, 3, 1⟩
def APT_AP_CTL_CTX : Fld := ⟨APT_AP_CTL, 6, 10⟩
def APT_AP_CTL_DRAINED : Fld := ⟨APT_AP_CTL, 16, 1⟩
/-- `APT.AP_LBASE`, R50 of 02_addresses_and_windows.md. -/
def APT_AP_LBASE : Reg := ⟨0x31, 0x108, 0⟩
def APT_AP_LBASE_LBASE : Fld := ⟨APT_AP_LBASE, 21, 31⟩
/-- `APT.AP_SIZE`, R50 of 02_addresses_and_windows.md. -/
def APT_AP_SIZE : Reg := ⟨0x31, 0x110, 0⟩
def APT_AP_SIZE_PAGES_M1 : Fld := ⟨APT_AP_SIZE, 0, 20⟩
/-- `APT.AP_TARGET`, R50 of 02_addresses_and_windows.md. -/
def APT_AP_TARGET : Reg := ⟨0x31, 0x118, 0⟩
def APT_AP_TARGET_TARGET : Fld := ⟨APT_AP_TARGET, 0, 64⟩
/-- `WIN.WIN_SEL`, R56 of 02_addresses_and_windows.md. -/
def WIN_WIN_SEL : Reg := ⟨0x30, 0x40, 0⟩
def WIN_WIN_SEL_WINDOW : Fld := ⟨WIN_WIN_SEL, 0, 9⟩
/-- `WIN.WIN_CTL`, R56 of 02_addresses_and_windows.md. -/
def WIN_WIN_CTL : Reg := ⟨0x30, 0x48, 0x800⟩
def WIN_WIN_CTL_VALID : Fld := ⟨WIN_WIN_CTL, 0, 1⟩
def WIN_WIN_CTL_SUBTBL_EN : Fld := ⟨WIN_WIN_CTL, 1, 1⟩
def WIN_WIN_CTL_DEF_R : Fld := ⟨WIN_WIN_CTL, 2, 1⟩
def WIN_WIN_CTL_DEF_W : Fld := ⟨WIN_WIN_CTL, 3, 1⟩
def WIN_WIN_CTL_DEF_A : Fld := ⟨WIN_WIN_CTL, 4, 1⟩
def WIN_WIN_CTL_PARTITION : Fld := ⟨WIN_WIN_CTL, 5, 6⟩
def WIN_WIN_CTL_DRAINED : Fld := ⟨WIN_WIN_CTL, 11, 1⟩
/-- `WIN.WIN_LBASE`, R56 of 02_addresses_and_windows.md. -/
def WIN_WIN_LBASE : Reg := ⟨0x30, 0x50, 0⟩
def WIN_WIN_LBASE_LBASE : Fld := ⟨WIN_WIN_LBASE, 21, 31⟩
/-- `WIN.WIN_SIZE`, R56 of 02_addresses_and_windows.md. -/
def WIN_WIN_SIZE : Reg := ⟨0x30, 0x58, 0⟩
def WIN_WIN_SIZE_PAGES_M1 : Fld := ⟨WIN_WIN_SIZE, 0, 15⟩
/-- `WIN.WIN_SUBTBL`, R56 of 02_addresses_and_windows.md. -/
def WIN_WIN_SUBTBL : Reg := ⟨0x30, 0x60, 0⟩
def WIN_WIN_SUBTBL_SUBTBL : Fld := ⟨WIN_WIN_SUBTBL, 3, 49⟩
/-- `WIN.GNT_SEL`, R56 of 02_addresses_and_windows.md. -/
def WIN_GNT_SEL : Reg := ⟨0x30, 0x80, 0⟩
def WIN_GNT_SEL_ENTRY : Fld := ⟨WIN_GNT_SEL, 0, 13⟩
/-- `WIN.GNT_ENTRY`, R56 of 02_addresses_and_windows.md. -/
def WIN_GNT_ENTRY : Reg := ⟨0x30, 0x88, 0⟩
def WIN_GNT_ENTRY_VALID : Fld := ⟨WIN_GNT_ENTRY, 0, 1⟩
def WIN_GNT_ENTRY_R : Fld := ⟨WIN_GNT_ENTRY, 1, 1⟩
def WIN_GNT_ENTRY_W : Fld := ⟨WIN_GNT_ENTRY, 2, 1⟩
def WIN_GNT_ENTRY_A : Fld := ⟨WIN_GNT_ENTRY, 3, 1⟩
def WIN_GNT_ENTRY_WINDOW : Fld := ⟨WIN_GNT_ENTRY, 4, 9⟩
def WIN_GNT_ENTRY_CTX : Fld := ⟨WIN_GNT_ENTRY, 13, 10⟩
/-- `WIN.WIN_INV`, R56 of 02_addresses_and_windows.md. -/
def WIN_WIN_INV : Reg := ⟨0x30, 0xa0, 0⟩
def WIN_WIN_INV_WINDOW : Fld := ⟨WIN_WIN_INV, 0, 9⟩
def WIN_WIN_INV_FIRST_PAGE : Fld := ⟨WIN_WIN_INV, 9, 15⟩
def WIN_WIN_INV_PAGE_COUNT : Fld := ⟨WIN_WIN_INV, 24, 16⟩
def WIN_WIN_INV_ALL : Fld := ⟨WIN_WIN_INV, 62, 1⟩
def WIN_WIN_INV_BUSY : Fld := ⟨WIN_WIN_INV, 63, 1⟩
/-- `ACN.ACN_CTL`, R69 of 02_addresses_and_windows.md. -/
def ACN_ACN_CTL : Reg := ⟨0x32, 0x40, 0⟩
def ACN_ACN_CTL_ENABLE : Fld := ⟨ACN_ACN_CTL, 0, 1⟩
def ACN_ACN_CTL_COUNT_POOL : Fld := ⟨ACN_ACN_CTL, 1, 1⟩
def ACN_ACN_CTL_COUNT_WIN : Fld := ⟨ACN_ACN_CTL, 2, 1⟩
/-- `ACN.ACN_EPOCH`, R69 of 02_addresses_and_windows.md. -/
def ACN_ACN_EPOCH : Reg := ⟨0x32, 0x48, 0x2ab98⟩
def ACN_ACN_EPOCH_LENGTH : Fld := ⟨ACN_ACN_EPOCH, 0, 32⟩
/-- `ACN.ACN_EPOCH_NUM`, R69 of 02_addresses_and_windows.md. -/
def ACN_ACN_EPOCH_NUM : Reg := ⟨0x32, 0x50, 0⟩
def ACN_ACN_EPOCH_NUM_NUM : Fld := ⟨ACN_ACN_EPOCH_NUM, 0, 32⟩
/-- `ACN.RING_BASE`, R69 of 02_addresses_and_windows.md. -/
def ACN_RING_BASE : Reg := ⟨0x32, 0x58, 0⟩
def ACN_RING_BASE_BASE : Fld := ⟨ACN_RING_BASE, 12, 40⟩
/-- `ACN.RING_CFG`, R69 of 02_addresses_and_windows.md. -/
def ACN_RING_CFG : Reg := ⟨0x32, 0x60, 6⟩
def ACN_RING_CFG_LOG2_ENTRIES : Fld := ⟨ACN_RING_CFG, 0, 5⟩
/-- `ACN.RING_PROD`, R69 of 02_addresses_and_windows.md. -/
def ACN_RING_PROD : Reg := ⟨0x32, 0x64, 0⟩
def ACN_RING_PROD_PROD : Fld := ⟨ACN_RING_PROD, 0, 32⟩
/-- `ACN.RING_CONS`, R69 of 02_addresses_and_windows.md. -/
def ACN_RING_CONS : Reg := ⟨0x32, 0x68, 0⟩
def ACN_RING_CONS_CONS : Fld := ⟨ACN_RING_CONS, 0, 32⟩
/-- `ACN.RING_DROP`, R69 of 02_addresses_and_windows.md. -/
def ACN_RING_DROP : Reg := ⟨0x32, 0x6c, 0⟩
def ACN_RING_DROP_DROPS : Fld := ⟨ACN_RING_DROP, 0, 32⟩
/-- `ACN.CNT_SEL`, R69 of 02_addresses_and_windows.md. -/
def ACN_CNT_SEL : Reg := ⟨0x32, 0x70, 0⟩
def ACN_CNT_SEL_SLOT : Fld := ⟨ACN_CNT_SEL, 0, 18⟩
/-- `ACN.CNT_VAL`, R69 of 02_addresses_and_windows.md. -/
def ACN_CNT_VAL : Reg := ⟨0x32, 0x74, 0⟩
def ACN_CNT_VAL_COUNT : Fld := ⟨ACN_CNT_VAL, 0, 16⟩
def ACN_CNT_VAL_RECORDED : Fld := ⟨ACN_CNT_VAL, 16, 1⟩
/-- `ACN.RNG_CTL`, R69 of 02_addresses_and_windows.md. -/
def ACN_RNG_CTL : Reg := ⟨0x32, 0x100, 0⟩
def ACN_RNG_CTL_VALID : Fld := ⟨ACN_RNG_CTL, 0, 1⟩
def ACN_RNG_CTL_KIND : Fld := ⟨ACN_RNG_CTL, 1, 1⟩
def ACN_RNG_CTL_THRESHOLD : Fld := ⟨ACN_RNG_CTL, 2, 16⟩
/-- `ACN.RNG_BASE`, R69 of 02_addresses_and_windows.md. -/
def ACN_RNG_BASE : Reg := ⟨0x32, 0x108, 0⟩
def ACN_RNG_BASE_BASE : Fld := ⟨ACN_RNG_BASE, 0, 64⟩
/-- `ACN.RNG_PAGES`, R69 of 02_addresses_and_windows.md. -/
def ACN_RNG_PAGES : Reg := ⟨0x32, 0x110, 0⟩
def ACN_RNG_PAGES_PAGES_M1 : Fld := ⟨ACN_RNG_PAGES, 0, 18⟩
/-- `ACN.RNG_SLOT`, R69 of 02_addresses_and_windows.md. -/
def ACN_RNG_SLOT : Reg := ⟨0x32, 0x118, 0⟩
def ACN_RNG_SLOT_FIRST_SLOT : Fld := ⟨ACN_RNG_SLOT, 0, 18⟩
/-- `EPC.SCOPE_MM_CNT`, R90 of 03_memory_model.md. -/
def EPC_SCOPE_MM_CNT : Reg := ⟨4, 0x180, 0⟩
def EPC_SCOPE_MM_CNT_COUNT : Fld := ⟨EPC_SCOPE_MM_CNT, 0, 32⟩
/-- `EPC.SCOPE_MM_LAST0`, R90 of 03_memory_model.md. -/
def EPC_SCOPE_MM_LAST0 : Reg := ⟨4, 0x188, 0⟩
def EPC_SCOPE_MM_LAST0_REL_SCOPE : Fld := ⟨EPC_SCOPE_MM_LAST0, 0, 2⟩
def EPC_SCOPE_MM_LAST0_ACQ_SCOPE : Fld := ⟨EPC_SCOPE_MM_LAST0, 2, 2⟩
def EPC_SCOPE_MM_LAST0_REL_KIND : Fld := ⟨EPC_SCOPE_MM_LAST0, 4, 2⟩
def EPC_SCOPE_MM_LAST0_REL_NODE : Fld := ⟨EPC_SCOPE_MM_LAST0, 6, 17⟩
def EPC_SCOPE_MM_LAST0_REL_QUEUE : Fld := ⟨EPC_SCOPE_MM_LAST0, 23, 8⟩
def EPC_SCOPE_MM_LAST0_ACQ_QUEUE : Fld := ⟨EPC_SCOPE_MM_LAST0, 31, 8⟩
def EPC_SCOPE_MM_LAST0_VALID : Fld := ⟨EPC_SCOPE_MM_LAST0, 63, 1⟩
/-- `EPC.SCOPE_MM_LAST1`, R90 of 03_memory_model.md. -/
def EPC_SCOPE_MM_LAST1 : Reg := ⟨4, 0x190, 0⟩
def EPC_SCOPE_MM_LAST1_SYNC_INDEX : Fld := ⟨EPC_SCOPE_MM_LAST1, 0, 14⟩
def EPC_SCOPE_MM_LAST1_HOLDER_KIND : Fld := ⟨EPC_SCOPE_MM_LAST1, 14, 1⟩
def EPC_SCOPE_MM_LAST1_HOLDER_ID : Fld := ⟨EPC_SCOPE_MM_LAST1, 15, 17⟩
def EPC_SCOPE_MM_LAST1_TICK : Fld := ⟨EPC_SCOPE_MM_LAST1, 32, 32⟩
/-- `POL.GRAN_SEL`, R142 of 04_pool_memory.md. -/
def POL_GRAN_SEL : Reg := ⟨0x30, 0x40, 0⟩
def POL_GRAN_SEL_INDEX : Fld := ⟨POL_GRAN_SEL, 0, 17⟩
def POL_GRAN_SEL_TIER : Fld := ⟨POL_GRAN_SEL, 17, 1⟩
/-- `POL.GRAN_STS`, R142 of 04_pool_memory.md. -/
def POL_GRAN_STS : Reg := ⟨0x30, 0x48, 2⟩
def POL_GRAN_STS_STATE : Fld := ⟨POL_GRAN_STS, 0, 3⟩
def POL_GRAN_STS_PARTITION : Fld := ⟨POL_GRAN_STS, 3, 6⟩
def POL_GRAN_STS_INDEX : Fld := ⟨POL_GRAN_STS, 9, 12⟩
def POL_GRAN_STS_USE : Fld := ⟨POL_GRAN_STS, 21, 1⟩
/-- `POL.GRAN_CTL`, R142 of 04_pool_memory.md. -/
def POL_GRAN_CTL : Reg := ⟨0x30, 0x4c, 0⟩
def POL_GRAN_CTL_RETIRE : Fld := ⟨POL_GRAN_CTL, 0, 1⟩
/-- `POL.MAP_SEL`, R142 of 04_pool_memory.md. -/
def POL_MAP_SEL : Reg := ⟨0x30, 0x50, 0⟩
def POL_MAP_SEL_PARTITION : Fld := ⟨POL_MAP_SEL, 0, 6⟩
def POL_MAP_SEL_TABLE : Fld := ⟨POL_MAP_SEL, 6, 1⟩
def POL_MAP_SEL_INDEX : Fld := ⟨POL_MAP_SEL, 7, 12⟩
/-- `POL.MAP_ENTRY`, R142 of 04_pool_memory.md. -/
def POL_MAP_ENTRY : Reg := ⟨0x30, 0x58, 0⟩
def POL_MAP_ENTRY_GRANULE : Fld := ⟨POL_MAP_ENTRY, 0, 18⟩
def POL_MAP_ENTRY_VALID : Fld := ⟨POL_MAP_ENTRY, 31, 1⟩
/-- `POL.PTN_STS`, R142 of 04_pool_memory.md. -/
def POL_PTN_STS : Reg := ⟨0x30, 0x60, 0⟩
def POL_PTN_STS_STATE : Fld := ⟨POL_PTN_STS, 0, 2⟩
def POL_PTN_STS_INFLIGHT : Fld := ⟨POL_PTN_STS, 2, 20⟩
/-- `POL.DRAIN_CFG`, R142 of 04_pool_memory.md. -/
def POL_DRAIN_CFG : Reg := ⟨0x30, 0x64, 0x445c⟩
def POL_DRAIN_CFG_TICKS : Fld := ⟨POL_DRAIN_CFG, 0, 32⟩
/-- `POL.SCRUB_CTL`, R142 of 04_pool_memory.md. -/
def POL_SCRUB_CTL : Reg := ⟨0x30, 0x68, 0x1802⟩
def POL_SCRUB_CTL_ZERO_SHARE : Fld := ⟨POL_SCRUB_CTL, 0, 4⟩
def POL_SCRUB_CTL_PATROL_HOURS : Fld := ⟨POL_SCRUB_CTL, 8, 8⟩
/-- `POL.SCRUB_STS`, R142 of 04_pool_memory.md. -/
def POL_SCRUB_STS : Reg := ⟨0x30, 0x70, 0xdf9⟩
def POL_SCRUB_STS_ZERO_BUSY : Fld := ⟨POL_SCRUB_STS, 0, 1⟩
def POL_SCRUB_STS_HBM_DIRTY : Fld := ⟨POL_SCRUB_STS, 1, 11⟩
def POL_SCRUB_STS_BULK_DIRTY : Fld := ⟨POL_SCRUB_STS, 12, 18⟩
def POL_SCRUB_STS_PATROL_PASSES : Fld := ⟨POL_SCRUB_STS, 32, 32⟩
/-- `DIR.AGT_SEL`, R143 of 04_pool_memory.md. -/
def DIR_AGT_SEL : Reg := ⟨0x31, 0x40, 0⟩
def DIR_AGT_SEL_SLOT : Fld := ⟨DIR_AGT_SEL, 0, 6⟩
/-- `DIR.AGT_ENTRY`, R143 of 04_pool_memory.md. -/
def DIR_AGT_ENTRY : Reg := ⟨0x31, 0x48, 0⟩
def DIR_AGT_ENTRY_VALID : Fld := ⟨DIR_AGT_ENTRY, 0, 1⟩
def DIR_AGT_ENTRY_KIND : Fld := ⟨DIR_AGT_ENTRY, 1, 1⟩
def DIR_AGT_ENTRY_NODE : Fld := ⟨DIR_AGT_ENTRY, 2, 17⟩
/-- `DIR.AGT_STS`, R143 of 04_pool_memory.md. -/
def DIR_AGT_STS : Reg := ⟨0x31, 0x4c, 0⟩
def DIR_AGT_STS_STATE : Fld := ⟨DIR_AGT_STS, 0, 2⟩
def DIR_AGT_STS_CAUSE : Fld := ⟨DIR_AGT_STS, 2, 3⟩
def DIR_AGT_STS_ENTRIES : Fld := ⟨DIR_AGT_STS, 5, 23⟩
/-- `DIR.AGT_CTL`, R143 of 04_pool_memory.md. -/
def DIR_AGT_CTL : Reg := ⟨0x31, 0x50, 0⟩
def DIR_AGT_CTL_READMIT : Fld := ⟨DIR_AGT_CTL, 0, 1⟩
def DIR_AGT_CTL_FENCE : Fld := ⟨DIR_AGT_CTL, 1, 1⟩
/-- `DIR.SNOOP_TMO`, R143 of 04_pool_memory.md. -/
def DIR_SNOOP_TMO : Reg := ⟨0x31, 0x54, 0x445c⟩
def DIR_SNOOP_TMO_TICKS : Fld := ⟨DIR_SNOOP_TMO, 0, 32⟩
/-- `DIR.OCC`, R143 of 04_pool_memory.md. -/
def DIR_OCC : Reg := ⟨0x31, 0x58, 0⟩
def DIR_OCC_VALID : Fld := ⟨DIR_OCC, 0, 23⟩
def DIR_OCC_EXCL : Fld := ⟨DIR_OCC, 23, 23⟩
/-- `DIR.EVICT_CNT`, R143 of 04_pool_memory.md. -/
def DIR_EVICT_CNT : Reg := ⟨0x31, 0x60, 0⟩
def DIR_EVICT_CNT_COUNT : Fld := ⟨DIR_EVICT_CNT, 0, 32⟩
/-- `DIR.WB_DISCARD`, R143 of 04_pool_memory.md. -/
def DIR_WB_DISCARD : Reg := ⟨0x31, 0x64, 0⟩
def DIR_WB_DISCARD_COUNT : Fld := ⟨DIR_WB_DISCARD, 0, 32⟩
/-- `DIR.OL_REC0`, R143 of 04_pool_memory.md. -/
def DIR_OL_REC0 : Reg := ⟨0x31, 0x80, 0⟩
def DIR_OL_REC0_LINE : Fld := ⟨DIR_OL_REC0, 7, 33⟩
def DIR_OL_REC0_PARTITION : Fld := ⟨DIR_OL_REC0, 40, 6⟩
def DIR_OL_REC0_CAUSE : Fld := ⟨DIR_OL_REC0, 46, 3⟩
/-- `DIR.OL_REC1`, R143 of 04_pool_memory.md. -/
def DIR_OL_REC1 : Reg := ⟨0x31, 0x88, 0⟩
def DIR_OL_REC1_SLOT : Fld := ⟨DIR_OL_REC1, 0, 6⟩
def DIR_OL_REC1_VALID : Fld := ⟨DIR_OL_REC1, 31, 1⟩
def DIR_OL_REC1_TICK : Fld := ⟨DIR_OL_REC1, 32, 32⟩
/-- `DIR.OL_STS`, R143 of 04_pool_memory.md. -/
def DIR_OL_STS : Reg := ⟨0x31, 0x90, 0⟩
def DIR_OL_STS_DEPTH : Fld := ⟨DIR_OL_STS, 0, 11⟩
def DIR_OL_STS_OVF_USED : Fld := ⟨DIR_OL_STS, 11, 11⟩
def DIR_OL_STS_FLAGGED : Fld := ⟨DIR_OL_STS, 32, 32⟩
/-- `DIR.OL_DROP`, R143 of 04_pool_memory.md. -/
def DIR_OL_DROP : Reg := ⟨0x31, 0x98, 0⟩
def DIR_OL_DROP_COUNT : Fld := ⟨DIR_OL_DROP, 0, 32⟩
/-- `DIR.OL_CLEAR`, R143 of 04_pool_memory.md. -/
def DIR_OL_CLEAR : Reg := ⟨0x31, 0xa0, 0⟩
def DIR_OL_CLEAR_PARTITION : Fld := ⟨DIR_OL_CLEAR, 0, 6⟩
def DIR_OL_CLEAR_ALL : Fld := ⟨DIR_OL_CLEAR, 6, 1⟩
def DIR_OL_CLEAR_LINE : Fld := ⟨DIR_OL_CLEAR, 7, 33⟩
def DIR_OL_CLEAR_BUSY : Fld := ⟨DIR_OL_CLEAR, 63, 1⟩
/-- `BLK.PORT_STS`, R144 of 04_pool_memory.md. -/
def BLK_PORT_STS : Reg := ⟨0x32, 0x40, 0⟩
def BLK_PORT_STS_UP0 : Fld := ⟨BLK_PORT_STS, 0, 1⟩
def BLK_PORT_STS_UP1 : Fld := ⟨BLK_PORT_STS, 1, 1⟩
def BLK_PORT_STS_GRAN0 : Fld := ⟨BLK_PORT_STS, 2, 17⟩
def BLK_PORT_STS_GRAN1 : Fld := ⟨BLK_PORT_STS, 19, 17⟩
/-- `BLK.CFG`, R144 of 04_pool_memory.md. -/
def BLK_CFG : Reg := ⟨0x32, 0x48, 3⟩
def BLK_CFG_NOALLOC_TC5 : Fld := ⟨BLK_CFG, 0, 1⟩
def BLK_CFG_PREFETCH_EN : Fld := ⟨BLK_CFG, 1, 1⟩
/-- `BLK.PSEL`, R144 of 04_pool_memory.md. -/
def BLK_PSEL : Reg := ⟨0x32, 0x4c, 0⟩
def BLK_PSEL_PARTITION : Fld := ⟨BLK_PSEL, 0, 6⟩
/-- `BLK.HITS`, R144 of 04_pool_memory.md. -/
def BLK_HITS : Reg := ⟨0x32, 0x50, 0⟩
def BLK_HITS_COUNT : Fld := ⟨BLK_HITS, 0, 64⟩
/-- `BLK.MISSES`, R144 of 04_pool_memory.md. -/
def BLK_MISSES : Reg := ⟨0x32, 0x58, 0⟩
def BLK_MISSES_COUNT : Fld := ⟨BLK_MISSES, 0, 64⟩
/-- `BLK.VICTIMS`, R144 of 04_pool_memory.md. -/
def BLK_VICTIMS : Reg := ⟨0x32, 0x60, 0⟩
def BLK_VICTIMS_COUNT : Fld := ⟨BLK_VICTIMS, 0, 64⟩
/-- `BLK.PINNED`, R144 of 04_pool_memory.md. -/
def BLK_PINNED : Reg := ⟨0x32, 0x68, 0⟩
def BLK_PINNED_SLOTS : Fld := ⟨BLK_PINNED, 0, 30⟩
/-- `HBM.STS`, R145 of 04_pool_memory.md. -/
def HBM_STS : Reg := ⟨0x40, 0x40, 0⟩
def HBM_STS_TRAINED : Fld := ⟨HBM_STS, 0, 1⟩
def HBM_STS_THROTTLED : Fld := ⟨HBM_STS, 1, 1⟩
def HBM_STS_TEMP : Fld := ⟨HBM_STS, 8, 8⟩
/-- `HBM.ECC_CE`, R145 of 04_pool_memory.md. -/
def HBM_ECC_CE : Reg := ⟨0x40, 0x44, 0⟩
def HBM_ECC_CE_COUNT : Fld := ⟨HBM_ECC_CE, 0, 32⟩
/-- `HBM.ECC_UE`, R145 of 04_pool_memory.md. -/
def HBM_ECC_UE : Reg := ⟨0x40, 0x48, 0⟩
def HBM_ECC_UE_COUNT : Fld := ⟨HBM_ECC_UE, 0, 32⟩
/-- `HBM.ERR_ADDR`, R145 of 04_pool_memory.md. -/
def HBM_ERR_ADDR : Reg := ⟨0x40, 0x50, 0⟩
def HBM_ERR_ADDR_LINE : Fld := ⟨HBM_ERR_ADDR, 0, 30⟩
def HBM_ERR_ADDR_KIND : Fld := ⟨HBM_ERR_ADDR, 30, 1⟩
def HBM_ERR_ADDR_VALID : Fld := ⟨HBM_ERR_ADDR, 31, 1⟩
def HBM_ERR_ADDR_TICK : Fld := ⟨HBM_ERR_ADDR, 32, 32⟩
/-- `HBM.SPARES`, R145 of 04_pool_memory.md. -/
def HBM_SPARES : Reg := ⟨0x40, 0x58, 0⟩
def HBM_SPARES_LEFT : Fld := ⟨HBM_SPARES, 0, 8⟩
def HBM_SPARES_USED : Fld := ⟨HBM_SPARES, 8, 8⟩
/-- `RDC.STS`, R175 of 05_reduction_arithmetic.md. -/
def RDC_STS : Reg := ⟨0x300, 0x40, 2⟩
def RDC_STS_STATE : Fld := ⟨RDC_STS, 0, 2⟩
def RDC_STS_CAUSE : Fld := ⟨RDC_STS, 2, 3⟩
def RDC_STS_CONTEXTS : Fld := ⟨RDC_STS, 5, 11⟩
/-- `RDC.CTL`, R175 of 05_reduction_arithmetic.md. -/
def RDC_CTL : Reg := ⟨0x300, 0x48, 0⟩
def RDC_CTL_FENCE : Fld := ⟨RDC_CTL, 0, 1⟩
def RDC_CTL_READMIT : Fld := ⟨RDC_CTL, 1, 1⟩
def RDC_CTL_SELFTEST : Fld := ⟨RDC_CTL, 2, 1⟩
/-- `RDC.FENCE_REC`, R175 of 05_reduction_arithmetic.md. -/
def RDC_FENCE_REC : Reg := ⟨0x300, 0x50, 0⟩
def RDC_FENCE_REC_CAUSE : Fld := ⟨RDC_FENCE_REC, 0, 3⟩
def RDC_FENCE_REC_VALID : Fld := ⟨RDC_FENCE_REC, 31, 1⟩
def RDC_FENCE_REC_TICK : Fld := ⟨RDC_FENCE_REC, 32, 32⟩
/-- `RDC.SELFTEST_STS`, R175 of 05_reduction_arithmetic.md. -/
def RDC_SELFTEST_STS : Reg := ⟨0x300, 0x58, 1⟩
def RDC_SELFTEST_STS_BUSY : Fld := ⟨RDC_SELFTEST_STS, 0, 1⟩
def RDC_SELFTEST_STS_PASS : Fld := ⟨RDC_SELFTEST_STS, 1, 1⟩
def RDC_SELFTEST_STS_FAIL : Fld := ⟨RDC_SELFTEST_STS, 2, 1⟩
def RDC_SELFTEST_STS_FAIL_FMT : Fld := ⟨RDC_SELFTEST_STS, 3, 5⟩
/-- `RDC.DUTY`, R175 of 05_reduction_arithmetic.md. -/
def RDC_DUTY : Reg := ⟨0x300, 0x5c, 0x40⟩
def RDC_DUTY_ALLOWED : Fld := ⟨RDC_DUTY, 0, 7⟩
/-- `RDC.OPS`, R175 of 05_reduction_arithmetic.md. -/
def RDC_OPS : Reg := ⟨0x300, 0x60, 0⟩
def RDC_OPS_COUNT : Fld := ⟨RDC_OPS, 0, 64⟩
/-- `RDC.CHUNKS`, R175 of 05_reduction_arithmetic.md. -/
def RDC_CHUNKS : Reg := ⟨0x300, 0x68, 0⟩
def RDC_CHUNKS_COUNT : Fld := ⟨RDC_CHUNKS, 0, 64⟩
/-- `RDC.RESIDUE_ERR`, R175 of 05_reduction_arithmetic.md. -/
def RDC_RESIDUE_ERR : Reg := ⟨0x300, 0x70, 0⟩
def RDC_RESIDUE_ERR_COUNT : Fld := ⟨RDC_RESIDUE_ERR, 0, 64⟩
/-- `RDC.FLAG_CNT`, R175 of 05_reduction_arithmetic.md. -/
def RDC_FLAG_CNT : Reg := ⟨0x300, 0x78, 0⟩
def RDC_FLAG_CNT_INVALID : Fld := ⟨RDC_FLAG_CNT, 0, 16⟩
def RDC_FLAG_CNT_OVERFLOW : Fld := ⟨RDC_FLAG_CNT, 16, 16⟩
def RDC_FLAG_CNT_SATURATE : Fld := ⟨RDC_FLAG_CNT, 32, 16⟩
def RDC_FLAG_CNT_NAN_INPUT : Fld := ⟨RDC_FLAG_CNT, 48, 16⟩
/-- `HRD.CLAIM`, R212 of 06_herds.md. -/
def HRD_CLAIM : Reg := ⟨0x20, 0x40, 0⟩
def HRD_CLAIM_HELD : Fld := ⟨HRD_CLAIM, 0, 1⟩
def HRD_CLAIM_CLAIMANT : Fld := ⟨HRD_CLAIM, 1, 17⟩
def HRD_CLAIM_KIND : Fld := ⟨HRD_CLAIM, 18, 2⟩
def HRD_CLAIM_CTX : Fld := ⟨HRD_CLAIM, 20, 10⟩
/-- `HRD.CMD`, R212 of 06_herds.md. -/
def HRD_CMD : Reg := ⟨0x20, 0x48, 0⟩
def HRD_CMD_OPCODE : Fld := ⟨HRD_CMD, 0, 4⟩
def HRD_CMD_HERD : Fld := ⟨HRD_CMD, 4, 12⟩
def HRD_CMD_SLOT : Fld := ⟨HRD_CMD, 16, 7⟩
def HRD_CMD_SPARE : Fld := ⟨HRD_CMD, 23, 3⟩
def HRD_CMD_AT_STEP : Fld := ⟨HRD_CMD, 26, 1⟩
/-- `HRD.CMD_STS`, R212 of 06_herds.md. -/
def HRD_CMD_STS : Reg := ⟨0x20, 0x4c, 0⟩
def HRD_CMD_STS_STATUS : Fld := ⟨HRD_CMD_STS, 0, 8⟩
def HRD_CMD_STS_DETAIL : Fld := ⟨HRD_CMD_STS, 8, 8⟩
def HRD_CMD_STS_BUSY : Fld := ⟨HRD_CMD_STS, 16, 1⟩
/-- `HRD.SLOT_SEL`, R212 of 06_herds.md. -/
def HRD_SLOT_SEL : Reg := ⟨0x20, 0x50, 0⟩
def HRD_SLOT_SEL_INDEX : Fld := ⟨HRD_SLOT_SEL, 0, 8⟩
/-- `HRD.VIEW_SEL`, R212 of 06_herds.md. -/
def HRD_VIEW_SEL : Reg := ⟨0x20, 0x58, 0⟩
def HRD_VIEW_SEL_HERD : Fld := ⟨HRD_VIEW_SEL, 0, 12⟩
def HRD_VIEW_SEL_SLOT : Fld := ⟨HRD_VIEW_SEL, 12, 7⟩
/-- `HRD.DESC`, R212 of 06_herds.md. -/
def HRD_DESC : Reg := ⟨0x20, 0x80, 0⟩
def HRD_DESC_WORD : Fld := ⟨HRD_DESC, 0, 64⟩
/-- `HRD.SLOT_W0`, R212 of 06_herds.md. -/
def HRD_SLOT_W0 : Reg := ⟨0x20, 0xc0, 0⟩
def HRD_SLOT_W0_WORD : Fld := ⟨HRD_SLOT_W0, 0, 64⟩
/-- `HRD.SLOT_W1`, R212 of 06_herds.md. -/
def HRD_SLOT_W1 : Reg := ⟨0x20, 0xc8, 0⟩
def HRD_SLOT_W1_WORD : Fld := ⟨HRD_SLOT_W1, 0, 64⟩
/-- `HRD.HERD_STS`, R212 of 06_herds.md. -/
def HRD_HERD_STS : Reg := ⟨0x20, 0x100, 0⟩
def HRD_HERD_STS_STATE : Fld := ⟨HRD_HERD_STS, 0, 2⟩
def HRD_HERD_STS_REASON : Fld := ⟨HRD_HERD_STS, 2, 3⟩
def HRD_HERD_STS_STREAMED : Fld := ⟨HRD_HERD_STS, 5, 1⟩
def HRD_HERD_STS_FAILED_OVER : Fld := ⟨HRD_HERD_STS, 6, 1⟩
def HRD_HERD_STS_LAST_SLOT : Fld := ⟨HRD_HERD_STS, 7, 7⟩
def HRD_HERD_STS_STEP : Fld := ⟨HRD_HERD_STS, 32, 32⟩
/-- `HRD.HERD_PROG`, R212 of 06_herds.md. -/
def HRD_HERD_PROG : Reg := ⟨0x20, 0x108, 0⟩
def HRD_HERD_PROG_CHUNKS : Fld := ⟨HRD_HERD_PROG, 0, 32⟩
def HRD_HERD_PROG_UNITS : Fld := ⟨HRD_HERD_PROG, 32, 12⟩
/-- `HRD.HERD_DISC`, R212 of 06_herds.md. -/
def HRD_HERD_DISC : Reg := ⟨0x20, 0x110, 0⟩
def HRD_HERD_DISC_STALE : Fld := ⟨HRD_HERD_DISC, 0, 16⟩
def HRD_HERD_DISC_TWIN : Fld := ⟨HRD_HERD_DISC, 16, 16⟩
def HRD_HERD_DISC_SKIVED : Fld := ⟨HRD_HERD_DISC, 32, 32⟩
/-- `HRD.SLOT_LATE`, R212 of 06_herds.md. -/
def HRD_SLOT_LATE : Reg := ⟨0x20, 0x118, 0⟩
def HRD_SLOT_LATE_LAST : Fld := ⟨HRD_SLOT_LATE, 0, 32⟩
def HRD_SLOT_LATE_MAX : Fld := ⟨HRD_SLOT_LATE, 32, 32⟩
/-- `HRD.SLOT_LSUM`, R212 of 06_herds.md. -/
def HRD_SLOT_LSUM : Reg := ⟨0x20, 0x120, 0⟩
def HRD_SLOT_LSUM_SUM : Fld := ⟨HRD_SLOT_LSUM, 0, 64⟩
/-- `HRD.TOTALS`, R212 of 06_herds.md. -/
def HRD_TOTALS : Reg := ⟨0x20, 0x128, 0x1000000⟩
def HRD_TOTALS_HERDS : Fld := ⟨HRD_TOTALS, 0, 13⟩
def HRD_TOTALS_FREE_UNITS : Fld := ⟨HRD_TOTALS, 13, 12⟩
/-- `HRD.SIG_MISMATCH`, R212 of 06_herds.md. -/
def HRD_SIG_MISMATCH : Reg := ⟨0x20, 0x130, 0⟩
def HRD_SIG_MISMATCH_COUNT : Fld := ⟨HRD_SIG_MISMATCH, 0, 32⟩
/-- `SYN.SEL`, R213 of 06_herds.md. -/
def SYN_SEL : Reg := ⟨0x21, 0x40, 0⟩
def SYN_SEL_INDEX : Fld := ⟨SYN_SEL, 0, 14⟩
/-- `SYN.CFG`, R213 of 06_herds.md. -/
def SYN_CFG : Reg := ⟨0x21, 0x48, 0⟩
def SYN_CFG_ENABLE : Fld := ⟨SYN_CFG, 0, 1⟩
def SYN_CFG_PARTITION : Fld := ⟨SYN_CFG, 1, 6⟩
def SYN_CFG_HERD_BOUND : Fld := ⟨SYN_CFG, 7, 1⟩
def SYN_CFG_HERD : Fld := ⟨SYN_CFG, 8, 12⟩
/-- `SYN.VALUE`, R213 of 06_herds.md. -/
def SYN_VALUE : Reg := ⟨0x21, 0x50, 0⟩
def SYN_VALUE_VALUE : Fld := ⟨SYN_VALUE, 0, 64⟩
/-- `SYN.ACQ`, R213 of 06_herds.md. -/
def SYN_ACQ : Reg := ⟨0x21, 0x58, 0⟩
def SYN_ACQ_VALUE : Fld := ⟨SYN_ACQ, 0, 64⟩
/-- `SYN.ADD`, R213 of 06_herds.md. -/
def SYN_ADD : Reg := ⟨0x21, 0x60, 0⟩
def SYN_ADD_ADDEND : Fld := ⟨SYN_ADD, 0, 64⟩
/-- `SYN.STS`, R213 of 06_herds.md. -/
def SYN_STS : Reg := ⟨0x21, 0x68, 0⟩
def SYN_STS_ERROR : Fld := ⟨SYN_STS, 0, 1⟩
def SYN_STS_REASON : Fld := ⟨SYN_STS, 1, 3⟩
def SYN_STS_REL_SCOPE : Fld := ⟨SYN_STS, 4, 2⟩
def SYN_STS_REL_KIND : Fld := ⟨SYN_STS, 6, 2⟩
def SYN_STS_REL_NODE : Fld := ⟨SYN_STS, 8, 17⟩
def SYN_STS_REL_QUEUE : Fld := ⟨SYN_STS, 25, 8⟩
/-- `SYN.HOST_SCOPE`, R213 of 06_herds.md. -/
def SYN_HOST_SCOPE : Reg := ⟨0x21, 0x70, 3⟩
def SYN_HOST_SCOPE_SCOPE : Fld := ⟨SYN_HOST_SCOPE, 0, 2⟩
/-- `SYN.HOST_MM_CNT`, R213 of 06_herds.md. -/
def SYN_HOST_MM_CNT : Reg := ⟨0x21, 0x78, 0⟩
def SYN_HOST_MM_CNT_COUNT : Fld := ⟨SYN_HOST_MM_CNT, 0, 32⟩
/-- `SYN.HOST_MM_LAST`, R213 of 06_herds.md. -/
def SYN_HOST_MM_LAST : Reg := ⟨0x21, 0x80, 0⟩
def SYN_HOST_MM_LAST_SYNC_INDEX : Fld := ⟨SYN_HOST_MM_LAST, 0, 14⟩
def SYN_HOST_MM_LAST_REL_SCOPE : Fld := ⟨SYN_HOST_MM_LAST, 14, 2⟩
def SYN_HOST_MM_LAST_ACQ_SCOPE : Fld := ⟨SYN_HOST_MM_LAST, 16, 2⟩
def SYN_HOST_MM_LAST_REL_KIND : Fld := ⟨SYN_HOST_MM_LAST, 18, 2⟩
def SYN_HOST_MM_LAST_REL_NODE : Fld := ⟨SYN_HOST_MM_LAST, 20, 17⟩
def SYN_HOST_MM_LAST_REL_QUEUE : Fld := ⟨SYN_HOST_MM_LAST, 37, 8⟩
def SYN_HOST_MM_LAST_VALID : Fld := ⟨SYN_HOST_MM_LAST, 63, 1⟩
/-- `SYN.WAITS`, R213 of 06_herds.md. -/
def SYN_WAITS : Reg := ⟨0x21, 0x88, 0⟩
def SYN_WAITS_OUTSTANDING : Fld := ⟨SYN_WAITS, 0, 13⟩
def SYN_WAITS_REFUSED : Fld := ⟨SYN_WAITS, 32, 32⟩
/-- `SVC.CLAIM`, R239 of 07_update_programs.md. -/
def SVC_CLAIM : Reg := ⟨0x22, 0x40, 0⟩
def SVC_CLAIM_HELD : Fld := ⟨SVC_CLAIM, 0, 1⟩
def SVC_CLAIM_CLAIMANT : Fld := ⟨SVC_CLAIM, 1, 17⟩
def SVC_CLAIM_KIND : Fld := ⟨SVC_CLAIM, 18, 2⟩
def SVC_CLAIM_CTX : Fld := ⟨SVC_CLAIM, 20, 10⟩
/-- `SVC.CMD`, R239 of 07_update_programs.md. -/
def SVC_CMD : Reg := ⟨0x22, 0x48, 0⟩
def SVC_CMD_OPCODE : Fld := ⟨SVC_CMD, 0, 4⟩
def SVC_CMD_INDEX : Fld := ⟨SVC_CMD, 4, 8⟩
def SVC_CMD_HERD : Fld := ⟨SVC_CMD, 12, 12⟩
/-- `SVC.CMD_STS`, R239 of 07_update_programs.md. -/
def SVC_CMD_STS : Reg := ⟨0x22, 0x4c, 0⟩
def SVC_CMD_STS_STATUS : Fld := ⟨SVC_CMD_STS, 0, 8⟩
def SVC_CMD_STS_DETAIL : Fld := ⟨SVC_CMD_STS, 8, 8⟩
def SVC_CMD_STS_INSTR : Fld := ⟨SVC_CMD_STS, 16, 6⟩
def SVC_CMD_STS_BUSY : Fld := ⟨SVC_CMD_STS, 22, 1⟩
/-- `SVC.VIEW_SEL`, R239 of 07_update_programs.md. -/
def SVC_VIEW_SEL : Reg := ⟨0x22, 0x50, 0⟩
def SVC_VIEW_SEL_SLOT : Fld := ⟨SVC_VIEW_SEL, 0, 8⟩
def SVC_VIEW_SEL_TABLE : Fld := ⟨SVC_VIEW_SEL, 8, 8⟩
def SVC_VIEW_SEL_HERD : Fld := ⟨SVC_VIEW_SEL, 16, 12⟩
def SVC_VIEW_SEL_REGION : Fld := ⟨SVC_VIEW_SEL, 28, 6⟩
def SVC_VIEW_SEL_DIGEST_OF : Fld := ⟨SVC_VIEW_SEL, 34, 1⟩
/-- `SVC.PRG_STS`, R239 of 07_update_programs.md. -/
def SVC_PRG_STS : Reg := ⟨0x22, 0x58, 0⟩
def SVC_PRG_STS_LOADED : Fld := ⟨SVC_PRG_STS, 0, 1⟩
def SVC_PRG_STS_CONTEXT : Fld := ⟨SVC_PRG_STS, 1, 10⟩
def SVC_PRG_STS_LANE_OPS : Fld := ⟨SVC_PRG_STS, 11, 8⟩
def SVC_PRG_STS_ATTACHED : Fld := ⟨SVC_PRG_STS, 19, 11⟩
/-- `SVC.ATT_STS`, R239 of 07_update_programs.md. -/
def SVC_ATT_STS : Reg := ⟨0x22, 0x60, 0⟩
def SVC_ATT_STS_ATTACHED : Fld := ⟨SVC_ATT_STS, 0, 1⟩
def SVC_ATT_STS_KIND : Fld := ⟨SVC_ATT_STS, 1, 1⟩
def SVC_ATT_STS_BANKED : Fld := ⟨SVC_ATT_STS, 2, 1⟩
def SVC_ATT_STS_BROKEN : Fld := ⟨SVC_ATT_STS, 3, 1⟩
def SVC_ATT_STS_SLOT : Fld := ⟨SVC_ATT_STS, 4, 8⟩
def SVC_ATT_STS_CONST_PENDING : Fld := ⟨SVC_ATT_STS, 12, 1⟩
def SVC_ATT_STS_CHUNKS_DONE : Fld := ⟨SVC_ATT_STS, 32, 32⟩
/-- `SVC.ATT_COMMIT`, R239 of 07_update_programs.md. -/
def SVC_ATT_COMMIT : Reg := ⟨0x22, 0x68, 0⟩
def SVC_ATT_COMMIT_COMMITTED : Fld := ⟨SVC_ATT_COMMIT, 0, 64⟩
/-- `SVC.RGN_STS`, R239 of 07_update_programs.md. -/
def SVC_RGN_STS : Reg := ⟨0x22, 0x70, 0⟩
def SVC_RGN_STS_STATE : Fld := ⟨SVC_RGN_STS, 0, 2⟩
def SVC_RGN_STS_PARTITION : Fld := ⟨SVC_RGN_STS, 2, 6⟩
def SVC_RGN_STS_ATTACHED : Fld := ⟨SVC_RGN_STS, 8, 1⟩
def SVC_RGN_STS_HASHED : Fld := ⟨SVC_RGN_STS, 32, 32⟩
/-- `SVC.RGN_RANGE`, R239 of 07_update_programs.md. -/
def SVC_RGN_RANGE : Reg := ⟨0x22, 0x78, 0⟩
def SVC_RGN_RANGE_OFFSET : Fld := ⟨SVC_RGN_RANGE, 0, 19⟩
def SVC_RGN_RANGE_PAGES : Fld := ⟨SVC_RGN_RANGE, 19, 20⟩
/-- `SVC.TBL_STS`, R239 of 07_update_programs.md. -/
def SVC_TBL_STS : Reg := ⟨0x22, 0x80, 0⟩
def SVC_TBL_STS_VALID : Fld := ⟨SVC_TBL_STS, 0, 1⟩
def SVC_TBL_STS_PARTITION : Fld := ⟨SVC_TBL_STS, 1, 6⟩
def SVC_TBL_STS_FMT : Fld := ⟨SVC_TBL_STS, 7, 2⟩
def SVC_TBL_STS_GATHER_EN : Fld := ⟨SVC_TBL_STS, 9, 1⟩
def SVC_TBL_STS_SCATTER_EN : Fld := ⟨SVC_TBL_STS, 10, 1⟩
def SVC_TBL_STS_ROW_UNITS : Fld := ⟨SVC_TBL_STS, 11, 8⟩
def SVC_TBL_STS_ROWS : Fld := ⟨SVC_TBL_STS, 32, 32⟩
/-- `SVC.TOTALS`, R239 of 07_update_programs.md. -/
def SVC_TOTALS : Reg := ⟨0x22, 0x88, 0⟩
def SVC_TOTALS_PROGRAMS : Fld := ⟨SVC_TOTALS, 0, 9⟩
def SVC_TOTALS_ATTACHMENTS : Fld := ⟨SVC_TOTALS, 9, 11⟩
def SVC_TOTALS_REGIONS : Fld := ⟨SVC_TOTALS, 20, 7⟩
def SVC_TOTALS_TABLES : Fld := ⟨SVC_TOTALS, 27, 9⟩
/-- `SVC.DIGEST`, R239 of 07_update_programs.md. -/
def SVC_DIGEST : Reg := ⟨0x22, 0xc0, 0⟩
def SVC_DIGEST_BYTES : Fld := ⟨SVC_DIGEST, 0, 64⟩
/-- `SVC.STAGE`, R239 of 07_update_programs.md. -/
def SVC_STAGE : Reg := ⟨0x22, 0x200, 0⟩
def SVC_STAGE_WORD : Fld := ⟨SVC_STAGE, 0, 64⟩
/-- `XBR.STS`, R269 of 08_switch_core.md. -/
def XBR_STS : Reg := ⟨0x10, 0x40, 0⟩
def XBR_STS_PHASE : Fld := ⟨XBR_STS, 0, 7⟩
def XBR_STS_RUNNING : Fld := ⟨XBR_STS, 7, 1⟩
def XBR_STS_MID_FENCED : Fld := ⟨XBR_STS, 8, 8⟩
/-- `XBR.MID_FENCE0`, R269 of 08_switch_core.md. -/
def XBR_MID_FENCE0 : Reg := ⟨0x10, 0x48, 0⟩
def XBR_MID_FENCE0_FENCED : Fld := ⟨XBR_MID_FENCE0, 0, 64⟩
/-- `XBR.MID_FENCE1`, R269 of 08_switch_core.md. -/
def XBR_MID_FENCE1 : Reg := ⟨0x10, 0x50, 0⟩
def XBR_MID_FENCE1_FENCED : Fld := ⟨XBR_MID_FENCE1, 0, 64⟩
/-- `XBR.ECC`, R269 of 08_switch_core.md. -/
def XBR_ECC : Reg := ⟨0x10, 0x58, 0⟩
def XBR_ECC_CE : Fld := ⟨XBR_ECC, 0, 32⟩
def XBR_ECC_UE : Fld := ⟨XBR_ECC, 32, 32⟩
/-- `XBR.RESEQ`, R269 of 08_switch_core.md. -/
def XBR_RESEQ : Reg := ⟨0x10, 0x60, 0⟩
def XBR_RESEQ_PEAK : Fld := ⟨XBR_RESEQ, 0, 9⟩
/-- `XBR.CELLS`, R269 of 08_switch_core.md. -/
def XBR_CELLS : Reg := ⟨0x10, 0x68, 0⟩
def XBR_CELLS_COUNT : Fld := ⟨XBR_CELLS, 0, 64⟩
/-- `BUF.PSEL`, R270 of 08_switch_core.md. -/
def BUF_PSEL : Reg := ⟨0x11, 0x40, 0⟩
def BUF_PSEL_PORT : Fld := ⟨BUF_PSEL, 0, 7⟩
def BUF_PSEL_TC : Fld := ⟨BUF_PSEL, 7, 3⟩
def BUF_PSEL_VIEW : Fld := ⟨BUF_PSEL, 10, 1⟩
/-- `BUF.PORT_INFO`, R270 of 08_switch_core.md. -/
def BUF_PORT_INFO : Reg := ⟨0x11, 0x48, 0⟩
def BUF_PORT_INFO_CELLS : Fld := ⟨BUF_PORT_INFO, 0, 14⟩
def BUF_PORT_INFO_RTT : Fld := ⟨BUF_PORT_INFO, 16, 14⟩
/-- `BUF.GIRTH`, R270 of 08_switch_core.md. -/
def BUF_GIRTH : Reg := ⟨0x11, 0x50, 0⟩
def BUF_GIRTH_CELLS : Fld := ⟨BUF_GIRTH, 0, 14⟩
/-- `BUF.OCC`, R270 of 08_switch_core.md. -/
def BUF_OCC : Reg := ⟨0x11, 0x58, 0⟩
def BUF_OCC_NOW : Fld := ⟨BUF_OCC, 0, 17⟩
def BUF_OCC_PEAK : Fld := ⟨BUF_OCC, 32, 17⟩
/-- `BUF.AVG`, R270 of 08_switch_core.md. -/
def BUF_AVG : Reg := ⟨0x11, 0x60, 0⟩
def BUF_AVG_AVG : Fld := ⟨BUF_AVG, 0, 17⟩
/-- `BUF.MARKS`, R270 of 08_switch_core.md. -/
def BUF_MARKS : Reg := ⟨0x11, 0x68, 0⟩
def BUF_MARKS_MARKED : Fld := ⟨BUF_MARKS, 0, 32⟩
def BUF_MARKS_DROPPED : Fld := ⟨BUF_MARKS, 32, 32⟩
/-- `BUF.RED_CFG`, R270 of 08_switch_core.md. -/
def BUF_RED_CFG : Reg := ⟨0x11, 0x70, 0xd⟩
def BUF_RED_CFG_ENABLE : Fld := ⟨BUF_RED_CFG, 0, 1⟩
def BUF_RED_CFG_WEIGHT : Fld := ⟨BUF_RED_CFG, 1, 4⟩
/-- `BUF.PROF_G`, R270 of 08_switch_core.md. -/
def BUF_PROF_G : Reg := ⟨0x11, 0x74, 0x23010⟩
def BUF_PROF_G_MIN : Fld := ⟨BUF_PROF_G, 0, 7⟩
def BUF_PROF_G_MAX : Fld := ⟨BUF_PROF_G, 8, 7⟩
def BUF_PROF_G_PMAX : Fld := ⟨BUF_PROF_G, 16, 5⟩
/-- `BUF.PROF_Y`, R270 of 08_switch_core.md. -/
def BUF_PROF_Y : Reg := ⟨0x11, 0x78, 0x42008⟩
def BUF_PROF_Y_MIN : Fld := ⟨BUF_PROF_Y, 0, 7⟩
def BUF_PROF_Y_MAX : Fld := ⟨BUF_PROF_Y, 8, 7⟩
def BUF_PROF_Y_PMAX : Fld := ⟨BUF_PROF_Y, 16, 5⟩
/-- `BUF.PROF_R`, R270 of 08_switch_core.md. -/
def BUF_PROF_R : Reg := ⟨0x11, 0x7c, 0x81004⟩
def BUF_PROF_R_MIN : Fld := ⟨BUF_PROF_R, 0, 7⟩
def BUF_PROF_R_MAX : Fld := ⟨BUF_PROF_R, 8, 7⟩
def BUF_PROF_R_PMAX : Fld := ⟨BUF_PROF_R, 16, 5⟩
/-- `BUF.MCAST`, R270 of 08_switch_core.md. -/
def BUF_MCAST : Reg := ⟨0x11, 0x80, 0⟩
def BUF_MCAST_RESIDUE : Fld := ⟨BUF_MCAST, 0, 13⟩
def BUF_MCAST_LOSSY_DROP : Fld := ⟨BUF_MCAST, 32, 32⟩
/-- `CMB.CFG`, R271 of 08_switch_core.md. -/
def CMB_CFG : Reg := ⟨0x13, 0x40, 0x3820⟩
def CMB_CFG_WINDOW : Fld := ⟨CMB_CFG, 0, 11⟩
def CMB_CFG_READ_EN : Fld := ⟨CMB_CFG, 11, 1⟩
def CMB_CFG_INT_EN : Fld := ⟨CMB_CFG, 12, 1⟩
def CMB_CFG_FADD_EN : Fld := ⟨CMB_CFG, 13, 1⟩
/-- `CMB.STS`, R271 of 08_switch_core.md. -/
def CMB_STS : Reg := ⟨0x13, 0x48, 0⟩
def CMB_STS_OPEN : Fld := ⟨CMB_STS, 0, 14⟩
def CMB_STS_PEAK : Fld := ⟨CMB_STS, 16, 14⟩
/-- `CMB.GROUPS`, R271 of 08_switch_core.md. -/
def CMB_GROUPS : Reg := ⟨0x13, 0x50, 0⟩
def CMB_GROUPS_COUNT : Fld := ⟨CMB_GROUPS, 0, 64⟩
/-- `CMB.MERGED`, R271 of 08_switch_core.md. -/
def CMB_MERGED : Reg := ⟨0x13, 0x58, 0⟩
def CMB_MERGED_COUNT : Fld := ⟨CMB_MERGED, 0, 64⟩
/-- `CMB.NOENTRY`, R271 of 08_switch_core.md. -/
def CMB_NOENTRY : Reg := ⟨0x13, 0x60, 0⟩
def CMB_NOENTRY_COUNT : Fld := ⟨CMB_NOENTRY, 0, 32⟩
/-- `CMB.OUT_STS`, R271 of 08_switch_core.md. -/
def CMB_OUT_STS : Reg := ⟨0x13, 0x68, 0⟩
def CMB_OUT_STS_RECORDS : Fld := ⟨CMB_OUT_STS, 0, 16⟩
def CMB_OUT_STS_REFUSED : Fld := ⟨CMB_OUT_STS, 32, 32⟩
/-- `CMB.OUT_HITS`, R271 of 08_switch_core.md. -/
def CMB_OUT_HITS : Reg := ⟨0x13, 0x70, 0⟩
def CMB_OUT_HITS_ANSWERED : Fld := ⟨CMB_OUT_HITS, 0, 32⟩
def CMB_OUT_HITS_EXPIRED : Fld := ⟨CMB_OUT_HITS, 32, 32⟩
/-- `CMB.REQ_TMO`, R271 of 08_switch_core.md. -/
def CMB_REQ_TMO : Reg := ⟨0x13, 0x78, 0x155cc⟩
def CMB_REQ_TMO_TICKS : Fld := ⟨CMB_REQ_TMO, 0, 32⟩
/-- `CMB.OUT_HOLD`, R271 of 08_switch_core.md. -/
def CMB_OUT_HOLD : Reg := ⟨0x13, 0x7c, 0x2ab98⟩
def CMB_OUT_HOLD_TICKS : Fld := ⟨CMB_OUT_HOLD, 0, 32⟩
/-- `RTE.PORT_SEL`, R291 of 09_routing_telemetry.md. -/
def RTE_PORT_SEL : Reg := ⟨0x14, 0x40, 0⟩
def RTE_PORT_SEL_PORT : Fld := ⟨RTE_PORT_SEL, 0, 7⟩
/-- `RTE.PORT_STS`, R291 of 09_routing_telemetry.md. -/
def RTE_PORT_STS : Reg := ⟨0x14, 0x48, 0⟩
def RTE_PORT_STS_STATE : Fld := ⟨RTE_PORT_STS, 0, 2⟩
def RTE_PORT_STS_ID_OK : Fld := ⟨RTE_PORT_STS, 2, 1⟩
def RTE_PORT_STS_ROUTE_OK : Fld := ⟨RTE_PORT_STS, 3, 1⟩
def RTE_PORT_STS_MEMBER_OK : Fld := ⟨RTE_PORT_STS, 4, 1⟩
def RTE_PORT_STS_PARTNER : Fld := ⟨RTE_PORT_STS, 5, 17⟩
/-- `RTE.PORT_CTL`, R291 of 09_routing_telemetry.md. -/
def RTE_PORT_CTL : Reg := ⟨0x14, 0x4c, 0⟩
def RTE_PORT_CTL_ROUTE_OK : Fld := ⟨RTE_PORT_CTL, 0, 1⟩
def RTE_PORT_CTL_DISABLE : Fld := ⟨RTE_PORT_CTL, 1, 1⟩
def RTE_PORT_CTL_NEIGHBOR : Fld := ⟨RTE_PORT_CTL, 2, 17⟩
def RTE_PORT_CTL_NEIGHBOR_VALID : Fld := ⟨RTE_PORT_CTL, 19, 1⟩
/-- `RTE.ROUTE_SEL`, R291 of 09_routing_telemetry.md. -/
def RTE_ROUTE_SEL : Reg := ⟨0x14, 0x50, 0⟩
def RTE_ROUTE_SEL_COORD : Fld := ⟨RTE_ROUTE_SEL, 0, 6⟩
/-- `RTE.ROUTE`, R291 of 09_routing_telemetry.md. -/
def RTE_ROUTE : Reg := ⟨0x14, 0x54, 0⟩
def RTE_ROUTE_PORT : Fld := ⟨RTE_ROUTE, 0, 7⟩
def RTE_ROUTE_VALID : Fld := ⟨RTE_ROUTE, 7, 1⟩
/-- `RTE.LANE1`, R291 of 09_routing_telemetry.md. -/
def RTE_LANE1 : Reg := ⟨0x14, 0x58, 0x448444⟩
def RTE_LANE1_SHARE : Fld := ⟨RTE_LANE1, 0, 24⟩
/-- `RTE.DISC`, R291 of 09_routing_telemetry.md. -/
def RTE_DISC : Reg := ⟨0x14, 0x60, 0⟩
def RTE_DISC_QUARANTINE : Fld := ⟨RTE_DISC, 0, 16⟩
def RTE_DISC_NO_ROUTE : Fld := ⟨RTE_DISC, 16, 16⟩
def RTE_DISC_UTURN : Fld := ⟨RTE_DISC, 32, 16⟩
def RTE_DISC_PORT_FLUSH : Fld := ⟨RTE_DISC, 48, 16⟩
/-- `RTE.PROBES`, R291 of 09_routing_telemetry.md. -/
def RTE_PROBES : Reg := ⟨0x14, 0x68, 0⟩
def RTE_PROBES_ANSWERED : Fld := ⟨RTE_PROBES, 0, 32⟩
def RTE_PROBES_NOTICES : Fld := ⟨RTE_PROBES, 32, 32⟩
/-- `CGT.CTL`, R292 of 09_routing_telemetry.md. -/
def CGT_CTL : Reg := ⟨0x12, 0x40, 0⟩
def CGT_CTL_ENABLE : Fld := ⟨CGT_CTL, 0, 1⟩
/-- `CGT.WIN_LEN`, R292 of 09_routing_telemetry.md. -/
def CGT_WIN_LEN : Reg := ⟨0x12, 0x44, 0x2ab98⟩
def CGT_WIN_LEN_TICKS : Fld := ⟨CGT_WIN_LEN, 0, 32⟩
/-- `CGT.WIN_NUM`, R292 of 09_routing_telemetry.md. -/
def CGT_WIN_NUM : Reg := ⟨0x12, 0x48, 0⟩
def CGT_WIN_NUM_NUM : Fld := ⟨CGT_WIN_NUM, 0, 32⟩
def CGT_WIN_NUM_OPEN_TICK : Fld := ⟨CGT_WIN_NUM, 32, 32⟩
/-- `CGT.SEL`, R292 of 09_routing_telemetry.md. -/
def CGT_SEL : Reg := ⟨0x12, 0x50, 0⟩
def CGT_SEL_PORT : Fld := ⟨CGT_SEL, 0, 7⟩
def CGT_SEL_TC : Fld := ⟨CGT_SEL, 7, 3⟩
def CGT_SEL_BIN : Fld := ⟨CGT_SEL, 10, 3⟩
/-- `CGT.HIST`, R292 of 09_routing_telemetry.md. -/
def CGT_HIST : Reg := ⟨0x12, 0x58, 0⟩
def CGT_HIST_TICKS : Fld := ⟨CGT_HIST, 0, 32⟩
/-- `CGT.CELLS`, R292 of 09_routing_telemetry.md. -/
def CGT_CELLS : Reg := ⟨0x12, 0x60, 0⟩
def CGT_CELLS_SENT : Fld := ⟨CGT_CELLS, 0, 32⟩
def CGT_CELLS_STALLED : Fld := ⟨CGT_CELLS, 32, 32⟩
/-- `CGT.MAP`, R292 of 09_routing_telemetry.md. -/
def CGT_MAP : Reg := ⟨0x12, 0x80, 0⟩
def CGT_MAP_LEVELS : Fld := ⟨CGT_MAP, 0, 64⟩
/-- `CGT.PUSH`, R292 of 09_routing_telemetry.md. -/
def CGT_PUSH : Reg := ⟨0x12, 0xa0, 0⟩
def CGT_PUSH_ENABLE : Fld := ⟨CGT_PUSH, 0, 1⟩
def CGT_PUSH_COLLECTOR : Fld := ⟨CGT_PUSH, 1, 17⟩
/-- `CGT.PUSH_STS`, R292 of 09_routing_telemetry.md. -/
def CGT_PUSH_STS : Reg := ⟨0x12, 0xa8, 0⟩
def CGT_PUSH_STS_SENT : Fld := ⟨CGT_PUSH_STS, 0, 32⟩
def CGT_PUSH_STS_SKIPPED : Fld := ⟨CGT_PUSH_STS, 32, 32⟩
/-- `LNK.CFG`, R322 of 10_link_layer.md. -/
def LNK_CFG : Reg := ⟨0x280, 0x40, 0x801⟩
def LNK_CFG_ENC_ALLOW : Fld := ⟨LNK_CFG, 0, 1⟩
def LNK_CFG_ENC_REQUIRE : Fld := ⟨LNK_CFG, 1, 1⟩
def LNK_CFG_RETRY_LIMIT : Fld := ⟨LNK_CFG, 8, 8⟩
/-- `LNK.REPLAY_TMO`, R322 of 10_link_layer.md. -/
def LNK_REPLAY_TMO : Reg := ⟨0x280, 0x44, 0x36b⟩
def LNK_REPLAY_TMO_TICKS : Fld := ⟨LNK_REPLAY_TMO, 0, 16⟩
/-- `LNK.STS`, R322 of 10_link_layer.md. -/
def LNK_STS : Reg := ⟨0x280, 0x48, 0⟩
def LNK_STS_STATE : Fld := ⟨LNK_STS, 0, 3⟩
def LNK_STS_KP_TX : Fld := ⟨LNK_STS, 3, 1⟩
def LNK_STS_KP_RX : Fld := ⟨LNK_STS, 4, 1⟩
def LNK_STS_INITIATOR : Fld := ⟨LNK_STS, 5, 1⟩
def LNK_STS_REPLAY_FILL : Fld := ⟨LNK_STS, 6, 13⟩
def LNK_STS_KEY_EPOCH : Fld := ⟨LNK_STS, 32, 16⟩
/-- `LNK.TX_CTR`, R322 of 10_link_layer.md. -/
def LNK_TX_CTR : Reg := ⟨0x280, 0x50, 0⟩
def LNK_TX_CTR_COUNT : Fld := ⟨LNK_TX_CTR, 0, 41⟩
/-- `LNK.REKEY`, R322 of 10_link_layer.md. -/
def LNK_REKEY : Reg := ⟨0x280, 0x58, 0x2700⟩
def LNK_REKEY_REQUEST : Fld := ⟨LNK_REKEY, 0, 1⟩
def LNK_REKEY_BUSY : Fld := ⟨LNK_REKEY, 1, 1⟩
def LNK_REKEY_SOFT_LOG2 : Fld := ⟨LNK_REKEY, 8, 6⟩
/-- `LNK.RETRY`, R322 of 10_link_layer.md. -/
def LNK_RETRY : Reg := ⟨0x280, 0x60, 0⟩
def LNK_RETRY_NAK_SENT : Fld := ⟨LNK_RETRY, 0, 32⟩
def LNK_RETRY_REPLAYS : Fld := ⟨LNK_RETRY, 32, 32⟩
/-- `LNK.FLIT_ERR`, R322 of 10_link_layer.md. -/
def LNK_FLIT_ERR : Reg := ⟨0x280, 0x68, 0⟩
def LNK_FLIT_ERR_CRC_FAIL : Fld := ⟨LNK_FLIT_ERR, 0, 32⟩
def LNK_FLIT_ERR_FEC_FAIL : Fld := ⟨LNK_FLIT_ERR, 32, 32⟩
/-- `LNK.SEAL_ERR`, R322 of 10_link_layer.md. -/
def LNK_SEAL_ERR : Reg := ⟨0x280, 0x70, 0⟩
def LNK_SEAL_ERR_AUTH_FAIL : Fld := ⟨LNK_SEAL_ERR, 0, 32⟩
def LNK_SEAL_ERR_HDR_DISCARD : Fld := ⟨LNK_SEAL_ERR, 32, 32⟩
/-- `LNK.PEER_ID`, R322 of 10_link_layer.md. -/
def LNK_PEER_ID : Reg := ⟨0x280, 0x80, 0⟩
def LNK_PEER_ID_BYTES : Fld := ⟨LNK_PEER_ID, 0, 64⟩
/-- `FPT.CFG`, R342 of 11_lanes_tackup.md. -/
def FPT_CFG : Reg := ⟨0x200, 0x40, 0x28008⟩
def FPT_CFG_RATE_MAX : Fld := ⟨FPT_CFG, 0, 2⟩
def FPT_CFG_REACH : Fld := ⟨FPT_CFG, 2, 2⟩
def FPT_CFG_MIN_LANES : Fld := ⟨FPT_CFG, 4, 5⟩
def FPT_CFG_TACK_LIMIT : Fld := ⟨FPT_CFG, 12, 4⟩
def FPT_CFG_ALLOW_FAR_LB : Fld := ⟨FPT_CFG, 16, 1⟩
def FPT_CFG_SHED_EN : Fld := ⟨FPT_CFG, 17, 1⟩
/-- `FPT.CTL`, R342 of 11_lanes_tackup.md. -/
def FPT_CTL : Reg := ⟨0x200, 0x48, 0⟩
def FPT_CTL_RESTART : Fld := ⟨FPT_CTL, 0, 1⟩
def FPT_CTL_RETRAIN : Fld := ⟨FPT_CTL, 1, 1⟩
def FPT_CTL_DISABLE : Fld := ⟨FPT_CTL, 2, 1⟩
def FPT_CTL_LPBK : Fld := ⟨FPT_CTL, 4, 2⟩
/-- `FPT.STS`, R342 of 11_lanes_tackup.md. -/
def FPT_STS : Reg := ⟨0x200, 0x50, 0⟩
def FPT_STS_STAGE : Fld := ⟨FPT_STS, 0, 3⟩
def FPT_STS_RATE : Fld := ⟨FPT_STS, 3, 2⟩
def FPT_STS_REACH : Fld := ⟨FPT_STS, 5, 1⟩
def FPT_STS_RETRAINING : Fld := ⟨FPT_STS, 6, 1⟩
def FPT_STS_SHEDDING : Fld := ⟨FPT_STS, 7, 1⟩
def FPT_STS_WIDTH : Fld := ⟨FPT_STS, 8, 5⟩
def FPT_STS_FAULT : Fld := ⟨FPT_STS, 13, 4⟩
def FPT_STS_LANES : Fld := ⟨FPT_STS, 32, 16⟩
/-- `FPT.PARTNER`, R342 of 11_lanes_tackup.md. -/
def FPT_PARTNER : Reg := ⟨0x200, 0x58, 0⟩
def FPT_PARTNER_KIND : Fld := ⟨FPT_PARTNER, 0, 3⟩
def FPT_PARTNER_AXIS : Fld := ⟨FPT_PARTNER, 3, 2⟩
def FPT_PARTNER_PLANE : Fld := ⟨FPT_PARTNER, 5, 1⟩
def FPT_PARTNER_NODE_VALID : Fld := ⟨FPT_PARTNER, 6, 1⟩
def FPT_PARTNER_NODE_ID : Fld := ⟨FPT_PARTNER, 7, 17⟩
def FPT_PARTNER_SWITCH_ID : Fld := ⟨FPT_PARTNER, 24, 16⟩
def FPT_PARTNER_PORT : Fld := ⟨FPT_PARTNER, 40, 7⟩
def FPT_PARTNER_RATES : Fld := ⟨FPT_PARTNER, 47, 3⟩
def FPT_PARTNER_ENC_ALLOW : Fld := ⟨FPT_PARTNER, 50, 1⟩
def FPT_PARTNER_ENC_REQUIRE : Fld := ⟨FPT_PARTNER, 51, 1⟩
def FPT_PARTNER_FEATURES : Fld := ⟨FPT_PARTNER, 52, 3⟩
/-- `FPT.RTT`, R342 of 11_lanes_tackup.md. -/
def FPT_RTT : Reg := ⟨0x200, 0x60, 0⟩
def FPT_RTT_NS : Fld := ⟨FPT_RTT, 0, 14⟩
/-- `FPT.TIMES`, R342 of 11_lanes_tackup.md. -/
def FPT_TIMES : Reg := ⟨0x200, 0x68, 0⟩
def FPT_TIMES_TACK_TICKS : Fld := ⟨FPT_TIMES, 0, 32⟩
def FPT_TIMES_RETRAIN_TICKS : Fld := ⟨FPT_TIMES, 32, 32⟩
/-- `FPT.EVENTS`, R342 of 11_lanes_tackup.md. -/
def FPT_EVENTS : Reg := ⟨0x200, 0x70, 0⟩
def FPT_EVENTS_TACKUPS : Fld := ⟨FPT_EVENTS, 0, 16⟩
def FPT_EVENTS_RETRAINS : Fld := ⟨FPT_EVENTS, 16, 16⟩
def FPT_EVENTS_SHEDS : Fld := ⟨FPT_EVENTS, 32, 16⟩
def FPT_EVENTS_FAILS : Fld := ⟨FPT_EVENTS, 48, 16⟩
/-- `FPT.SHED_CFG`, R342 of 11_lanes_tackup.md. -/
def FPT_SHED_CFG : Reg := ⟨0x200, 0x78, 0xaf0100⟩
def FPT_SHED_CFG_THRESH : Fld := ⟨FPT_SHED_CFG, 0, 16⟩
def FPT_SHED_CFG_WINDOW : Fld := ⟨FPT_SHED_CFG, 16, 16⟩
/-- `FPT.TMO`, R342 of 11_lanes_tackup.md. -/
def FPT_TMO : Reg := ⟨0x200, 0x80, 0x1ab3f0⟩
def FPT_TMO_EQ : Fld := ⟨FPT_TMO, 0, 32⟩
/-- `QAD.CFG`, R343 of 11_lanes_tackup.md. -/
def QAD_CFG : Reg := ⟨0x100, 0x40, 1⟩
def QAD_CFG_TX_SLEW : Fld := ⟨QAD_CFG, 0, 2⟩
/-- `QAD.STS`, R343 of 11_lanes_tackup.md. -/
def QAD_STS : Reg := ⟨0x100, 0x48, 0⟩
def QAD_STS_PLL_LOCK : Fld := ⟨QAD_STS, 0, 1⟩
def QAD_STS_CAL_DONE : Fld := ⟨QAD_STS, 1, 1⟩
def QAD_STS_IN_USE : Fld := ⟨QAD_STS, 2, 4⟩
/-- `QAD.LANE_STS`, R343 of 11_lanes_tackup.md. -/
def QAD_LANE_STS : Reg := ⟨0x100, 0x200, 0⟩
def QAD_LANE_STS_STATE : Fld := ⟨QAD_LANE_STS, 0, 3⟩
def QAD_LANE_STS_POL_INV : Fld := ⟨QAD_LANE_STS, 3, 1⟩
def QAD_LANE_STS_EQ_PASS : Fld := ⟨QAD_LANE_STS, 4, 1⟩
def QAD_LANE_STS_SNR : Fld := ⟨QAD_LANE_STS, 8, 8⟩
/-- `QAD.LANE_TX_EQ`, R343 of 11_lanes_tackup.md. -/
def QAD_LANE_TX_EQ : Reg := ⟨0x100, 0x208, 0⟩
def QAD_LANE_TX_EQ_PRE2 : Fld := ⟨QAD_LANE_TX_EQ, 0, 6⟩
def QAD_LANE_TX_EQ_PRE1 : Fld := ⟨QAD_LANE_TX_EQ, 8, 6⟩
def QAD_LANE_TX_EQ_MAIN : Fld := ⟨QAD_LANE_TX_EQ, 16, 6⟩
def QAD_LANE_TX_EQ_POST1 : Fld := ⟨QAD_LANE_TX_EQ, 24, 6⟩
def QAD_LANE_TX_EQ_OVERRIDE : Fld := ⟨QAD_LANE_TX_EQ, 31, 1⟩
/-- `QAD.LANE_RX_EQ`, R343 of 11_lanes_tackup.md. -/
def QAD_LANE_RX_EQ : Reg := ⟨0x100, 0x210, 0⟩
def QAD_LANE_RX_EQ_CTLE : Fld := ⟨QAD_LANE_RX_EQ, 0, 6⟩
def QAD_LANE_RX_EQ_DFE1 : Fld := ⟨QAD_LANE_RX_EQ, 8, 6⟩
/-- `QAD.LANE_SYM_CE`, R343 of 11_lanes_tackup.md. -/
def QAD_LANE_SYM_CE : Reg := ⟨0x100, 0x218, 0⟩
def QAD_LANE_SYM_CE_COUNT : Fld := ⟨QAD_LANE_SYM_CE, 0, 32⟩
def QAD_LANE_SYM_CE_WIN_LAST : Fld := ⟨QAD_LANE_SYM_CE, 32, 32⟩
/-- `QAD.LANE_LOCK_LOSS`, R343 of 11_lanes_tackup.md. -/
def QAD_LANE_LOCK_LOSS : Reg := ⟨0x100, 0x220, 0⟩
def QAD_LANE_LOCK_LOSS_COUNT : Fld := ⟨QAD_LANE_LOCK_LOSS, 0, 16⟩
/-- `QAD.LANE_PAT_CTL`, R343 of 11_lanes_tackup.md. -/
def QAD_LANE_PAT_CTL : Reg := ⟨0x100, 0x228, 0⟩
def QAD_LANE_PAT_CTL_GEN : Fld := ⟨QAD_LANE_PAT_CTL, 0, 2⟩
def QAD_LANE_PAT_CTL_CHK : Fld := ⟨QAD_LANE_PAT_CTL, 2, 2⟩
def QAD_LANE_PAT_CTL_CHK_LOCK : Fld := ⟨QAD_LANE_PAT_CTL, 4, 1⟩
/-- `QAD.LANE_PAT_ERR`, R343 of 11_lanes_tackup.md. -/
def QAD_LANE_PAT_ERR : Reg := ⟨0x100, 0x230, 0⟩
def QAD_LANE_PAT_ERR_ERRORS : Fld := ⟨QAD_LANE_PAT_ERR, 0, 32⟩
def QAD_LANE_PAT_ERR_MBITS : Fld := ⟨QAD_LANE_PAT_ERR, 32, 32⟩
/-- `EPC.ID`, R368 of 12_endpoint.md. -/
def EPC_ID : Reg := ⟨4, 0x40, 0⟩
def EPC_ID_NODE_ID : Fld := ⟨EPC_ID, 0, 17⟩
def EPC_ID_NODE_VALID : Fld := ⟨EPC_ID, 17, 1⟩
def EPC_ID_LINK_MODE : Fld := ⟨EPC_ID, 18, 3⟩
/-- `EPC.REQ_TMO`, R368 of 12_endpoint.md. -/
def EPC_REQ_TMO : Reg := ⟨4, 0x48, 0x155cc⟩
def EPC_REQ_TMO_TICKS : Fld := ⟨EPC_REQ_TMO, 0, 32⟩
/-- `EPC.INJ_STS`, R368 of 12_endpoint.md. -/
def EPC_INJ_STS : Reg := ⟨4, 0x50, 0⟩
def EPC_INJ_STS_TAGS_ORD : Fld := ⟨EPC_INJ_STS, 0, 16⟩
def EPC_INJ_STS_TAGS_NI : Fld := ⟨EPC_INJ_STS, 16, 16⟩
def EPC_INJ_STS_TAG_WAITS : Fld := ⟨EPC_INJ_STS, 32, 32⟩
/-- `QUE.QSEL`, R369 of 12_endpoint.md. -/
def QUE_QSEL : Reg := ⟨0x20, 0x40, 0⟩
def QUE_QSEL_QUEUE : Fld := ⟨QUE_QSEL, 0, 8⟩
/-- `QUE.Q_CFG`, R369 of 12_endpoint.md. -/
def QUE_Q_CFG : Reg := ⟨0x20, 0x48, 0x80008⟩
def QUE_Q_CFG_ENABLE : Fld := ⟨QUE_Q_CFG, 0, 1⟩
def QUE_Q_CFG_LOG2_SIZE : Fld := ⟨QUE_Q_CFG, 1, 5⟩
def QUE_Q_CFG_CTX : Fld := ⟨QUE_Q_CFG, 6, 10⟩
def QUE_Q_CFG_COLOUR : Fld := ⟨QUE_Q_CFG, 16, 2⟩
def QUE_Q_CFG_BULK : Fld := ⟨QUE_Q_CFG, 18, 1⟩
def QUE_Q_CFG_WEIGHT : Fld := ⟨QUE_Q_CFG, 19, 4⟩
/-- `QUE.Q_BASE`, R369 of 12_endpoint.md. -/
def QUE_Q_BASE : Reg := ⟨0x20, 0x50, 0⟩
def QUE_Q_BASE_BASE : Fld := ⟨QUE_Q_BASE, 12, 40⟩
/-- `QUE.Q_CPL`, R369 of 12_endpoint.md. -/
def QUE_Q_CPL : Reg := ⟨0x20, 0x58, 0⟩
def QUE_Q_CPL_BASE : Fld := ⟨QUE_Q_CPL, 4, 48⟩
/-- `QUE.Q_DONE_ADDR`, R369 of 12_endpoint.md. -/
def QUE_Q_DONE_ADDR : Reg := ⟨0x20, 0x60, 0⟩
def QUE_Q_DONE_ADDR_EN : Fld := ⟨QUE_Q_DONE_ADDR, 0, 1⟩
def QUE_Q_DONE_ADDR_ADDR : Fld := ⟨QUE_Q_DONE_ADDR, 3, 49⟩
/-- `QUE.Q_TAIL`, R369 of 12_endpoint.md. -/
def QUE_Q_TAIL : Reg := ⟨0x20, 0x68, 0⟩
def QUE_Q_TAIL_INDEX : Fld := ⟨QUE_Q_TAIL, 0, 32⟩
/-- `QUE.Q_HEAD`, R369 of 12_endpoint.md. -/
def QUE_Q_HEAD : Reg := ⟨0x20, 0x6c, 0⟩
def QUE_Q_HEAD_INDEX : Fld := ⟨QUE_Q_HEAD, 0, 32⟩
/-- `QUE.Q_DONE`, R369 of 12_endpoint.md. -/
def QUE_Q_DONE : Reg := ⟨0x20, 0x70, 0⟩
def QUE_Q_DONE_INDEX : Fld := ⟨QUE_Q_DONE, 0, 32⟩
/-- `QUE.Q_STS`, R369 of 12_endpoint.md. -/
def QUE_Q_STS : Reg := ⟨0x20, 0x78, 0⟩
def QUE_Q_STS_STATE : Fld := ⟨QUE_Q_STS, 0, 2⟩
def QUE_Q_STS_REASON : Fld := ⟨QUE_Q_STS, 2, 2⟩
def QUE_Q_STS_IN_FLIGHT : Fld := ⟨QUE_Q_STS, 16, 16⟩
/-- `QUE.Q_LOST`, R369 of 12_endpoint.md. -/
def QUE_Q_LOST : Reg := ⟨0x20, 0x80, 0⟩
def QUE_Q_LOST_FIRST : Fld := ⟨QUE_Q_LOST, 0, 32⟩
def QUE_Q_LOST_COUNT : Fld := ⟨QUE_Q_LOST, 32, 17⟩
/-- `RLY.PMAP_X`, R370 of 12_endpoint.md. -/
def RLY_PMAP_X : Reg := ⟨0x10, 0x40, 0xaaaaaaaaaaaaaaaa⟩
def RLY_PMAP_X_PLANE : Fld := ⟨RLY_PMAP_X, 0, 64⟩
/-- `RLY.PMAP_Y`, R370 of 12_endpoint.md. -/
def RLY_PMAP_Y : Reg := ⟨0x10, 0x48, 0xaaaaaaaaaaaaaaaa⟩
def RLY_PMAP_Y_PLANE : Fld := ⟨RLY_PMAP_Y, 0, 64⟩
/-- `RLY.PMAP_Z`, R370 of 12_endpoint.md. -/
def RLY_PMAP_Z : Reg := ⟨0x10, 0x50, 0xaaaaaaaaaaaaaaaa⟩
def RLY_PMAP_Z_PLANE : Fld := ⟨RLY_PMAP_Z, 0, 64⟩
/-- `RLY.FLIP_SETTLE`, R370 of 12_endpoint.md. -/
def RLY_FLIP_SETTLE : Reg := ⟨0x10, 0x58, 0x6d6⟩
def RLY_FLIP_SETTLE_TICKS : Fld := ⟨RLY_FLIP_SETTLE, 0, 32⟩
/-- `RLY.LANE1`, R370 of 12_endpoint.md. -/
def RLY_LANE1 : Reg := ⟨0x10, 0x5c, 0x448444⟩
def RLY_LANE1_SHARE : Fld := ⟨RLY_LANE1, 0, 24⟩
/-- `RLY.DOWN_SEL`, R370 of 12_endpoint.md. -/
def RLY_DOWN_SEL : Reg := ⟨0x10, 0x60, 1⟩
def RLY_DOWN_SEL_AXIS : Fld := ⟨RLY_DOWN_SEL, 0, 2⟩
def RLY_DOWN_SEL_PLANE : Fld := ⟨RLY_DOWN_SEL, 2, 1⟩
/-- `RLY.DOWN_MAP`, R370 of 12_endpoint.md. -/
def RLY_DOWN_MAP : Reg := ⟨0x10, 0x68, 0⟩
def RLY_DOWN_MAP_DOWN : Fld := ⟨RLY_DOWN_MAP, 0, 64⟩
/-- `RLY.SPLIT_SEL`, R370 of 12_endpoint.md. -/
def RLY_SPLIT_SEL : Reg := ⟨0x10, 0x70, 0⟩
def RLY_SPLIT_SEL_ENTRY : Fld := ⟨RLY_SPLIT_SEL, 0, 6⟩
/-- `RLY.SPLIT_ENTRY`, R370 of 12_endpoint.md. -/
def RLY_SPLIT_ENTRY : Reg := ⟨0x10, 0x78, 0⟩
def RLY_SPLIT_ENTRY_MATCH : Fld := ⟨RLY_SPLIT_ENTRY, 0, 17⟩
def RLY_SPLIT_ENTRY_MASK : Fld := ⟨RLY_SPLIT_ENTRY, 17, 17⟩
def RLY_SPLIT_ENTRY_LINK : Fld := ⟨RLY_SPLIT_ENTRY, 34, 3⟩
def RLY_SPLIT_ENTRY_TURN : Fld := ⟨RLY_SPLIT_ENTRY, 37, 1⟩
def RLY_SPLIT_ENTRY_VALID : Fld := ⟨RLY_SPLIT_ENTRY, 38, 1⟩
/-- `RLY.DISC`, R370 of 12_endpoint.md. -/
def RLY_DISC : Reg := ⟨0x10, 0x80, 0⟩
def RLY_DISC_LANE_TURN : Fld := ⟨RLY_DISC, 0, 32⟩
def RLY_DISC_NO_ROUTE : Fld := ⟨RLY_DISC, 32, 32⟩
/-- `RLY.RELAYED`, R370 of 12_endpoint.md. -/
def RLY_RELAYED : Reg := ⟨0x10, 0x88, 0⟩
def RLY_RELAYED_COUNT : Fld := ⟨RLY_RELAYED, 0, 64⟩
/-- `BRD.SEL`, R371 of 12_endpoint.md. -/
def BRD_SEL : Reg := ⟨0x11, 0x40, 0⟩
def BRD_SEL_TC : Fld := ⟨BRD_SEL, 0, 2⟩
def BRD_SEL_DEST : Fld := ⟨BRD_SEL, 2, 2⟩
/-- `BRD.CFG`, R371 of 12_endpoint.md. -/
def BRD_CFG : Reg := ⟨0x11, 0x48, 0x814040⟩
def BRD_CFG_MIN_RATE : Fld := ⟨BRD_CFG, 0, 14⟩
def BRD_CFG_DEC_SHIFT : Fld := ⟨BRD_CFG, 14, 4⟩
def BRD_CFG_INC_STEP : Fld := ⟨BRD_CFG, 18, 14⟩
/-- `BRD.TIMING`, R371 of 12_endpoint.md. -/
def BRD_TIMING : Reg := ⟨0x11, 0x4c, 0x4000af⟩
def BRD_TIMING_INC_TICKS : Fld := ⟨BRD_TIMING, 0, 16⟩
def BRD_TIMING_BURST : Fld := ⟨BRD_TIMING, 16, 16⟩
/-- `BRD.RATE`, R371 of 12_endpoint.md. -/
def BRD_RATE : Reg := ⟨0x11, 0x50, 0x3fff⟩
def BRD_RATE_RATE : Fld := ⟨BRD_RATE, 0, 14⟩
/-- `BRD.STATS`, R371 of 12_endpoint.md. -/
def BRD_STATS : Reg := ⟨0x11, 0x58, 0⟩
def BRD_STATS_MARKS : Fld := ⟨BRD_STATS, 0, 32⟩
def BRD_STATS_HELD_TICKS : Fld := ⟨BRD_STATS, 32, 32⟩
/-- `BRD.IGNORED`, R371 of 12_endpoint.md. -/
def BRD_IGNORED : Reg := ⟨0x11, 0x60, 0⟩
def BRD_IGNORED_COUNT : Fld := ⟨BRD_IGNORED, 0, 32⟩
/-- `DDP.CFG`, R372 of 12_endpoint.md. -/
def DDP_CFG : Reg := ⟨0x22, 0x40, 0x2ab98⟩
def DDP_CFG_HOLD : Fld := ⟨DDP_CFG, 0, 32⟩
/-- `DDP.STS`, R372 of 12_endpoint.md. -/
def DDP_STS : Reg := ⟨0x22, 0x48, 0⟩
def DDP_STS_RECORDS : Fld := ⟨DDP_STS, 0, 15⟩
def DDP_STS_REFUSED : Fld := ⟨DDP_STS, 32, 32⟩
/-- `DDP.HITS`, R372 of 12_endpoint.md. -/
def DDP_HITS : Reg := ⟨0x22, 0x50, 0⟩
def DDP_HITS_ANSWERED : Fld := ⟨DDP_HITS, 0, 32⟩
def DDP_HITS_EXPIRED : Fld := ⟨DDP_HITS, 32, 32⟩
/-- `DDP.RESEND`, R372 of 12_endpoint.md. -/
def DDP_RESEND : Reg := ⟨0x22, 0x58, 0⟩
def DDP_RESEND_SENT : Fld := ⟨DDP_RESEND, 0, 32⟩
def DDP_RESEND_TIMEOUTS : Fld := ⟨DDP_RESEND, 32, 32⟩
/-- `DDP.RELEASE`, R372 of 12_endpoint.md. -/
def DDP_RELEASE : Reg := ⟨0x22, 0x60, 0⟩
def DDP_RELEASE_SENT : Fld := ⟨DDP_RELEASE, 0, 32⟩
def DDP_RELEASE_RECEIVED : Fld := ⟨DDP_RELEASE, 32, 32⟩
/-- `UCI.STS`, R373 of 12_endpoint.md. -/
def UCI_STS : Reg := ⟨0x40, 0x40, 0⟩
def UCI_STS_UP : Fld := ⟨UCI_STS, 0, 1⟩
def UCI_STS_MODULES : Fld := ⟨UCI_STS, 1, 8⟩
def UCI_STS_RATE : Fld := ⟨UCI_STS, 9, 2⟩
/-- `UCI.CFG`, R373 of 12_endpoint.md. -/
def UCI_CFG : Reg := ⟨0x40, 0x48, 0x445c⟩
def UCI_CFG_ACC_TMO : Fld := ⟨UCI_CFG, 0, 32⟩
/-- `UCI.ERR`, R373 of 12_endpoint.md. -/
def UCI_ERR : Reg := ⟨0x40, 0x50, 0⟩
def UCI_ERR_CRC_RETRY : Fld := ⟨UCI_ERR, 0, 32⟩
def UCI_ERR_ACC_TIMEOUT : Fld := ⟨UCI_ERR, 32, 32⟩
/-- `UCI.EVENTS`, R373 of 12_endpoint.md. -/
def UCI_EVENTS : Reg := ⟨0x40, 0x58, 0⟩
def UCI_EVENTS_DOWNS : Fld := ⟨UCI_EVENTS, 0, 16⟩
def UCI_EVENTS_DEGRADES : Fld := ⟨UCI_EVENTS, 16, 16⟩
/-- `CXU.STS`, R395 of 13_cxl_ports.md. -/
def CXU_STS : Reg := ⟨0x50, 0x40, 0⟩
def CXU_STS_UP : Fld := ⟨CXU_STS, 0, 1⟩
def CXU_STS_CXL_MODE : Fld := ⟨CXU_STS, 1, 1⟩
def CXU_STS_WIDTH : Fld := ⟨CXU_STS, 2, 5⟩
def CXU_STS_RATE : Fld := ⟨CXU_STS, 7, 3⟩
def CXU_STS_BI_EN : Fld := ⟨CXU_STS, 10, 1⟩
def CXU_STS_IDE_IO : Fld := ⟨CXU_STS, 11, 1⟩
def CXU_STS_IDE_CM : Fld := ⟨CXU_STS, 12, 1⟩
def CXU_STS_TSP : Fld := ⟨CXU_STS, 13, 2⟩
/-- `CXU.HDM_SEL`, R395 of 13_cxl_ports.md. -/
def CXU_HDM_SEL : Reg := ⟨0x50, 0x48, 0⟩
def CXU_HDM_SEL_DECODER : Fld := ⟨CXU_HDM_SEL, 0, 5⟩
/-- `CXU.HDM_VIEW`, R395 of 13_cxl_ports.md. -/
def CXU_HDM_VIEW : Reg := ⟨0x50, 0x50, 0⟩
def CXU_HDM_VIEW_COMMITTED : Fld := ⟨CXU_HDM_VIEW, 0, 1⟩
def CXU_HDM_VIEW_DB : Fld := ⟨CXU_HDM_VIEW, 1, 1⟩
def CXU_HDM_VIEW_PARTITION : Fld := ⟨CXU_HDM_VIEW, 2, 6⟩
def CXU_HDM_VIEW_SLICES : Fld := ⟨CXU_HDM_VIEW, 8, 20⟩
def CXU_HDM_VIEW_FIRST_SLICE : Fld := ⟨CXU_HDM_VIEW, 28, 12⟩
/-- `CXU.HOST_ERR0`, R395 of 13_cxl_ports.md. -/
def CXU_HOST_ERR0 : Reg := ⟨0x50, 0x58, 0⟩
def CXU_HOST_ERR0_DPA : Fld := ⟨CXU_HOST_ERR0, 6, 40⟩
def CXU_HOST_ERR0_STATUS : Fld := ⟨CXU_HOST_ERR0, 46, 8⟩
def CXU_HOST_ERR0_WRITE : Fld := ⟨CXU_HOST_ERR0, 54, 1⟩
def CXU_HOST_ERR0_VALID : Fld := ⟨CXU_HOST_ERR0, 63, 1⟩
/-- `CXU.HOST_ERR1`, R395 of 13_cxl_ports.md. -/
def CXU_HOST_ERR1 : Reg := ⟨0x50, 0x60, 0⟩
def CXU_HOST_ERR1_TICK : Fld := ⟨CXU_HOST_ERR1, 0, 32⟩
def CXU_HOST_ERR1_COUNT : Fld := ⟨CXU_HOST_ERR1, 32, 32⟩
/-- `CXU.INV_SUBMIT`, R395 of 13_cxl_ports.md. -/
def CXU_INV_SUBMIT : Reg := ⟨0x50, 0x80, 0⟩
def CXU_INV_SUBMIT_DESC : Fld := ⟨CXU_INV_SUBMIT, 0, 64⟩
/-- `CXU.INV_RING_BASE`, R395 of 13_cxl_ports.md. -/
def CXU_INV_RING_BASE : Reg := ⟨0x50, 0xa0, 0⟩
def CXU_INV_RING_BASE_BASE : Fld := ⟨CXU_INV_RING_BASE, 12, 52⟩
/-- `CXU.INV_CFG`, R395 of 13_cxl_ports.md. -/
def CXU_INV_CFG : Reg := ⟨0x50, 0xa8, 0xc⟩
def CXU_INV_CFG_ENABLE : Fld := ⟨CXU_INV_CFG, 0, 1⟩
def CXU_INV_CFG_LOG2_ENTRIES : Fld := ⟨CXU_INV_CFG, 1, 4⟩
/-- `CXU.INV_PROD`, R395 of 13_cxl_ports.md. -/
def CXU_INV_PROD : Reg := ⟨0x50, 0xac, 0⟩
def CXU_INV_PROD_INDEX : Fld := ⟨CXU_INV_PROD, 0, 32⟩
/-- `CXU.INV_CONS`, R395 of 13_cxl_ports.md. -/
def CXU_INV_CONS : Reg := ⟨0x50, 0xb0, 0⟩
def CXU_INV_CONS_INDEX : Fld := ⟨CXU_INV_CONS, 0, 32⟩
/-- `CXU.INV_TMO`, R395 of 13_cxl_ports.md. -/
def CXU_INV_TMO : Reg := ⟨0x50, 0xb4, 0x2ab98⟩
def CXU_INV_TMO_TICKS : Fld := ⟨CXU_INV_TMO, 0, 32⟩
/-- `CXU.INV_STS`, R395 of 13_cxl_ports.md. -/
def CXU_INV_STS : Reg := ⟨0x50, 0xb8, 0⟩
def CXU_INV_STS_OUTSTANDING : Fld := ⟨CXU_INV_STS, 0, 7⟩
def CXU_INV_STS_REFUSED : Fld := ⟨CXU_INV_STS, 32, 32⟩
/-- `CXD.STS`, R396 of 13_cxl_ports.md. -/
def CXD_STS : Reg := ⟨0x51, 0x40, 0⟩
def CXD_STS_UP : Fld := ⟨CXD_STS, 0, 1⟩
def CXD_STS_WIDTH : Fld := ⟨CXD_STS, 1, 5⟩
def CXD_STS_RATE : Fld := ⟨CXD_STS, 6, 3⟩
def CXD_STS_IDE : Fld := ⟨CXD_STS, 9, 1⟩
def CXD_STS_FAULT_HELD : Fld := ⟨CXD_STS, 10, 1⟩
def CXD_STS_FAULT : Fld := ⟨CXD_STS, 11, 4⟩
/-- `CXD.CTL`, R396 of 13_cxl_ports.md. -/
def CXD_CTL : Reg := ⟨0x51, 0x48, 0⟩
def CXD_CTL_RESTART : Fld := ⟨CXD_CTL, 0, 1⟩
/-- `CXD.CFG`, R396 of 13_cxl_ports.md. -/
def CXD_CFG : Reg := ⟨0x51, 0x4c, 0⟩
def CXD_CFG_IDE_REQUIRE : Fld := ⟨CXD_CFG, 0, 1⟩
/-- `CXD.CAPACITY`, R396 of 13_cxl_ports.md. -/
def CXD_CAPACITY : Reg := ⟨0x51, 0x50, 0⟩
def CXD_CAPACITY_BYTES : Fld := ⟨CXD_CAPACITY, 0, 48⟩
/-- `CXD.SERIAL`, R396 of 13_cxl_ports.md. -/
def CXD_SERIAL : Reg := ⟨0x51, 0x58, 0⟩
def CXD_SERIAL_SERIAL : Fld := ⟨CXD_SERIAL, 0, 64⟩
/-- `CXD.DEV_TMO`, R396 of 13_cxl_ports.md. -/
def CXD_DEV_TMO : Reg := ⟨0x51, 0x60, 0x445c⟩
def CXD_DEV_TMO_TICKS : Fld := ⟨CXD_DEV_TMO, 0, 32⟩
/-- `CXD.ERRS`, R396 of 13_cxl_ports.md. -/
def CXD_ERRS : Reg := ⟨0x51, 0x68, 0⟩
def CXD_ERRS_FILL : Fld := ⟨CXD_ERRS, 0, 32⟩
def CXD_ERRS_WRITEBACK : Fld := ⟨CXD_ERRS, 32, 32⟩
/-- `CXD.ERR_ADDR`, R396 of 13_cxl_ports.md. -/
def CXD_ERR_ADDR : Reg := ⟨0x51, 0x70, 0⟩
def CXD_ERR_ADDR_DPA : Fld := ⟨CXD_ERR_ADDR, 7, 37⟩
def CXD_ERR_ADDR_KIND : Fld := ⟨CXD_ERR_ADDR, 44, 2⟩
def CXD_ERR_ADDR_VALID : Fld := ⟨CXD_ERR_ADDR, 46, 1⟩
/-- `SEC.STS`, R426 of 14_security.md. -/
def SEC_STS : Reg := ⟨6, 0x40, 0⟩
def SEC_STS_LIFECYCLE : Fld := ⟨SEC_STS, 0, 2⟩
def SEC_STS_DEVID_READY : Fld := ⟨SEC_STS, 2, 1⟩
def SEC_STS_ALIAS_READY : Fld := ⟨SEC_STS, 3, 1⟩
/-- `SEC.DEVID`, R426 of 14_security.md. -/
def SEC_DEVID : Reg := ⟨6, 0x80, 0⟩
def SEC_DEVID_BYTES : Fld := ⟨SEC_DEVID, 0, 64⟩
/-- `SEC.ALIAS`, R426 of 14_security.md. -/
def SEC_ALIAS : Reg := ⟨6, 0xc0, 0⟩
def SEC_ALIAS_BYTES : Fld := ⟨SEC_ALIAS, 0, 64⟩
/-- `SEC.EVENTS`, R426 of 14_security.md. -/
def SEC_EVENTS : Reg := ⟨6, 0x100, 0⟩
def SEC_EVENTS_SPDM_FAIL : Fld := ⟨SEC_EVENTS, 0, 32⟩
def SEC_EVENTS_SIG_FAIL : Fld := ⟨SEC_EVENTS, 32, 32⟩
/-- `SEC.PEER_SEL`, R426 of 14_security.md. -/
def SEC_PEER_SEL : Reg := ⟨6, 0x108, 0⟩
def SEC_PEER_SEL_PORT : Fld := ⟨SEC_PEER_SEL, 0, 7⟩
/-- `SEC.PEER`, R426 of 14_security.md. -/
def SEC_PEER : Reg := ⟨6, 0x140, 0⟩
def SEC_PEER_BYTES : Fld := ⟨SEC_PEER, 0, 64⟩
/-- `ATT.SEL`, R427 of 14_security.md. -/
def ATT_SEL : Reg := ⟨7, 0x40, 0⟩
def ATT_SEL_BLOCK : Fld := ⟨ATT_SEL, 0, 3⟩
/-- `ATT.BLK_STS`, R427 of 14_security.md. -/
def ATT_BLK_STS : Reg := ⟨7, 0x48, 0⟩
def ATT_BLK_STS_PRESENT : Fld := ⟨ATT_BLK_STS, 0, 1⟩
def ATT_BLK_STS_CHANGES : Fld := ⟨ATT_BLK_STS, 32, 32⟩
/-- `ATT.GEN`, R427 of 14_security.md. -/
def ATT_GEN : Reg := ⟨7, 0x50, 0⟩
def ATT_GEN_COUNT : Fld := ⟨ATT_GEN, 0, 64⟩
/-- `ATT.DIGEST`, R427 of 14_security.md. -/
def ATT_DIGEST : Reg := ⟨7, 0x80, 0⟩
def ATT_DIGEST_BYTES : Fld := ⟨ATT_DIGEST, 0, 64⟩
/-- `DCT.STS`, R428 of 14_security.md. -/
def DCT_STS : Reg := ⟨8, 0x40, 0⟩
def DCT_STS_STATE : Fld := ⟨DCT_STS, 0, 2⟩
def DCT_STS_STAGER : Fld := ⟨DCT_STS, 2, 1⟩
def DCT_STS_TENANT_OK : Fld := ⟨DCT_STS, 3, 1⟩
def DCT_STS_OPERATOR_OK : Fld := ⟨DCT_STS, 4, 1⟩
def DCT_STS_VERIFYING : Fld := ⟨DCT_STS, 5, 1⟩
def DCT_STS_FAILS : Fld := ⟨DCT_STS, 6, 3⟩
def DCT_STS_IMG_STALE : Fld := ⟨DCT_STS, 9, 1⟩
def DCT_STS_IMG_FAIL : Fld := ⟨DCT_STS, 10, 1⟩
/-- `DCT.SEQ`, R428 of 14_security.md. -/
def DCT_SEQ : Reg := ⟨8, 0x48, 0⟩
def DCT_SEQ_SEQ : Fld := ⟨DCT_SEQ, 0, 64⟩
/-- `DCT.STAGE_CTL`, R428 of 14_security.md. -/
def DCT_STAGE_CTL : Reg := ⟨8, 0x50, 0⟩
def DCT_STAGE_CTL_BEGIN : Fld := ⟨DCT_STAGE_CTL, 0, 1⟩
def DCT_STAGE_CTL_SEAL : Fld := ⟨DCT_STAGE_CTL, 1, 1⟩
def DCT_STAGE_CTL_CANCEL : Fld := ⟨DCT_STAGE_CTL, 2, 1⟩
def DCT_STAGE_CTL_SCOPE : Fld := ⟨DCT_STAGE_CTL, 3, 7⟩
/-- `DCT.REC_IDX`, R428 of 14_security.md. -/
def DCT_REC_IDX : Reg := ⟨8, 0x58, 0⟩
def DCT_REC_IDX_INDEX : Fld := ⟨DCT_REC_IDX, 0, 12⟩
def DCT_REC_IDX_COUNT : Fld := ⟨DCT_REC_IDX, 12, 13⟩
/-- `DCT.REC_W0`, R428 of 14_security.md. -/
def DCT_REC_W0 : Reg := ⟨8, 0x60, 0⟩
def DCT_REC_W0_WORD : Fld := ⟨DCT_REC_W0, 0, 64⟩
/-- `DCT.REC_W1`, R428 of 14_security.md. -/
def DCT_REC_W1 : Reg := ⟨8, 0x68, 0⟩
def DCT_REC_W1_WORD : Fld := ⟨DCT_REC_W1, 0, 64⟩
/-- `DCT.DIGEST`, R428 of 14_security.md. -/
def DCT_DIGEST : Reg := ⟨8, 0x80, 0⟩
def DCT_DIGEST_BYTES : Fld := ⟨DCT_DIGEST, 0, 64⟩
/-- `DCT.SIG_CTL`, R428 of 14_security.md. -/
def DCT_SIG_CTL : Reg := ⟨8, 0xc0, 0⟩
def DCT_SIG_CTL_ROLE : Fld := ⟨DCT_SIG_CTL, 0, 1⟩
def DCT_SIG_CTL_START : Fld := ⟨DCT_SIG_CTL, 1, 1⟩
def DCT_SIG_CTL_SUBMIT : Fld := ⟨DCT_SIG_CTL, 2, 1⟩
/-- `DCT.SIG_DATA`, R428 of 14_security.md. -/
def DCT_SIG_DATA : Reg := ⟨8, 0xc8, 0⟩
def DCT_SIG_DATA_BYTES : Fld := ⟨DCT_SIG_DATA, 0, 64⟩
/-- `DCT.RESULT`, R428 of 14_security.md. -/
def DCT_RESULT : Reg := ⟨8, 0xd0, 0⟩
def DCT_RESULT_STATUS : Fld := ⟨DCT_RESULT, 0, 8⟩
def DCT_RESULT_DETAIL : Fld := ⟨DCT_RESULT, 8, 8⟩
def DCT_RESULT_RECORD : Fld := ⟨DCT_RESULT, 16, 12⟩
def DCT_RESULT_TICK : Fld := ⟨DCT_RESULT, 32, 32⟩
/-- `DCT.WINDOW`, R428 of 14_security.md. -/
def DCT_WINDOW : Reg := ⟨8, 0xd8, 0x684ee180⟩
def DCT_WINDOW_TICKS : Fld := ⟨DCT_WINDOW, 0, 32⟩
/-- `DCT.PEND`, R428 of 14_security.md. -/
def DCT_PEND : Reg := ⟨8, 0xe0, 0⟩
def DCT_PEND_PENDING : Fld := ⟨DCT_PEND, 0, 6⟩
def DCT_PEND_DELIVERED : Fld := ⟨DCT_PEND, 32, 32⟩
/-- `DCT.OPKEY_SEL`, R428 of 14_security.md. -/
def DCT_OPKEY_SEL : Reg := ⟨8, 0xe8, 0⟩
def DCT_OPKEY_SEL_SLOT : Fld := ⟨DCT_OPKEY_SEL, 0, 2⟩
def DCT_OPKEY_SEL_PROGRAMMED : Fld := ⟨DCT_OPKEY_SEL, 2, 1⟩
def DCT_OPKEY_SEL_IN_FORCE : Fld := ⟨DCT_OPKEY_SEL, 3, 1⟩
/-- `DCT.OPKEY`, R428 of 14_security.md. -/
def DCT_OPKEY : Reg := ⟨8, 0x100, 0⟩
def DCT_OPKEY_BYTES : Fld := ⟨DCT_OPKEY, 0, 64⟩
/-- `DCT.OPKEY_NEW`, R428 of 14_security.md. -/
def DCT_OPKEY_NEW : Reg := ⟨8, 0x140, 0⟩
def DCT_OPKEY_NEW_BYTES : Fld := ⟨DCT_OPKEY_NEW, 0, 64⟩
/-- `PTN.SEL`, R429 of 14_security.md. -/
def PTN_SEL : Reg := ⟨9, 0x40, 0⟩
def PTN_SEL_PARTITION : Fld := ⟨PTN_SEL, 0, 6⟩
/-- `PTN.ENTRY`, R429 of 14_security.md. -/
def PTN_ENTRY : Reg := ⟨9, 0x48, 0⟩
def PTN_ENTRY_VALID : Fld := ⟨PTN_ENTRY, 0, 1⟩
def PTN_ENTRY_MODE : Fld := ⟨PTN_ENTRY, 1, 1⟩
def PTN_ENTRY_SIZE_M1 : Fld := ⟨PTN_ENTRY, 2, 12⟩
def PTN_ENTRY_SHARE_LOG2 : Fld := ⟨PTN_ENTRY, 14, 4⟩
def PTN_ENTRY_CACHEABLE : Fld := ⟨PTN_ENTRY, 18, 1⟩
def PTN_ENTRY_OWNER : Fld := ⟨PTN_ENTRY, 19, 1⟩
def PTN_ENTRY_HOST_CTX : Fld := ⟨PTN_ENTRY, 20, 10⟩
def PTN_ENTRY_RECLAIM : Fld := ⟨PTN_ENTRY, 30, 1⟩
/-- `PTN.TKEY`, R429 of 14_security.md. -/
def PTN_TKEY : Reg := ⟨9, 0x80, 0⟩
def PTN_TKEY_BYTES : Fld := ⟨PTN_TKEY, 0, 64⟩
/-- `PTN.ROS_SEL`, R429 of 14_security.md. -/
def PTN_ROS_SEL : Reg := ⟨9, 0xc0, 0⟩
def PTN_ROS_SEL_ENTRY : Fld := ⟨PTN_ROS_SEL, 0, 14⟩
/-- `PTN.ROS_ENTRY`, R429 of 14_security.md. -/
def PTN_ROS_ENTRY : Reg := ⟨9, 0xc8, 0⟩
def PTN_ROS_ENTRY_VALID : Fld := ⟨PTN_ROS_ENTRY, 0, 1⟩
def PTN_ROS_ENTRY_NODE : Fld := ⟨PTN_ROS_ENTRY, 1, 17⟩
/-- `PTN.ROS_MASK`, R429 of 14_security.md. -/
def PTN_ROS_MASK : Reg := ⟨9, 0xd0, 0⟩
def PTN_ROS_MASK_PARTITIONS : Fld := ⟨PTN_ROS_MASK, 0, 64⟩
/-- `CTX.SEL`, R430 of 14_security.md. -/
def CTX_SEL : Reg := ⟨0xa, 0x40, 0⟩
def CTX_SEL_CONTEXT : Fld := ⟨CTX_SEL, 0, 10⟩
/-- `CTX.ENTRY`, R430 of 14_security.md. -/
def CTX_ENTRY : Reg := ⟨0xa, 0x48, 0⟩
def CTX_ENTRY_VALID : Fld := ⟨CTX_ENTRY, 0, 1⟩
def CTX_ENTRY_PARTITION : Fld := ⟨CTX_ENTRY, 1, 6⟩
def CTX_ENTRY_CTL_PRIV : Fld := ⟨CTX_ENTRY, 7, 1⟩
def CTX_ENTRY_HOST : Fld := ⟨CTX_ENTRY, 8, 1⟩
/-- `CTX.STS`, R430 of 14_security.md. -/
def CTX_STS : Reg := ⟨0xa, 0x50, 0⟩
def CTX_STS_ORPHANED : Fld := ⟨CTX_STS, 0, 1⟩
def CTX_STS_QUIESCED : Fld := ⟨CTX_STS, 1, 1⟩
def CTX_STS_HERDS : Fld := ⟨CTX_STS, 2, 13⟩
/-- `CTX.TOTALS`, R430 of 14_security.md. -/
def CTX_TOTALS : Reg := ⟨0xa, 0x58, 0⟩
def CTX_TOTALS_BOUND : Fld := ⟨CTX_TOTALS, 0, 11⟩
def CTX_TOTALS_ORPHANED : Fld := ⟨CTX_TOTALS, 11, 11⟩
/-- `CTX.PTN_MASK`, R430 of 14_security.md. -/
def CTX_PTN_MASK : Reg := ⟨0xa, 0x60, 0⟩
def CTX_PTN_MASK_PARTITIONS : Fld := ⟨CTX_PTN_MASK, 0, 64⟩
/-- `CTX.APPLIED_SW`, R430 of 14_security.md. -/
def CTX_APPLIED_SW : Reg := ⟨0xa, 0x68, 0⟩
def CTX_APPLIED_SW_SWITCH : Fld := ⟨CTX_APPLIED_SW, 0, 16⟩
/-- `CTX.APPLIED_SEQ`, R430 of 14_security.md. -/
def CTX_APPLIED_SEQ : Reg := ⟨0xa, 0x70, 0⟩
def CTX_APPLIED_SEQ_SEQ : Fld := ⟨CTX_APPLIED_SEQ, 0, 64⟩
/-- `MGT.CORE_STS`, R452 of 15_firmware_management.md. -/
def MGT_CORE_STS : Reg := ⟨4, 0x40, 0⟩
def MGT_CORE_STS_CORE : Fld := ⟨MGT_CORE_STS, 0, 8⟩
def MGT_CORE_STS_SECURITY : Fld := ⟨MGT_CORE_STS, 8, 2⟩
def MGT_CORE_STS_SLOT : Fld := ⟨MGT_CORE_STS, 10, 1⟩
def MGT_CORE_STS_RECOVERY : Fld := ⟨MGT_CORE_STS, 11, 1⟩
/-- `MGT.WDT_CFG`, R452 of 15_firmware_management.md. -/
def MGT_WDT_CFG : Reg := ⟨4, 0x48, 0x10b0760⟩
def MGT_WDT_CFG_TIMEOUT : Fld := ⟨MGT_WDT_CFG, 0, 32⟩
/-- `MGT.WDT_PET`, R452 of 15_firmware_management.md. -/
def MGT_WDT_PET : Reg := ⟨4, 0x4c, 0⟩
def MGT_WDT_PET_CORE : Fld := ⟨MGT_WDT_PET, 0, 4⟩
/-- `MGT.WDT_EVT`, R452 of 15_firmware_management.md. -/
def MGT_WDT_EVT : Reg := ⟨4, 0x50, 0⟩
def MGT_WDT_EVT_COUNT : Fld := ⟨MGT_WDT_EVT, 0, 16⟩
def MGT_WDT_EVT_LAST_CORE : Fld := ⟨MGT_WDT_EVT, 16, 3⟩
def MGT_WDT_EVT_TICK : Fld := ⟨MGT_WDT_EVT, 32, 32⟩
/-- `MGT.HB`, R452 of 15_firmware_management.md. -/
def MGT_HB : Reg := ⟨4, 0x58, 0⟩
def MGT_HB_SESSION : Fld := ⟨MGT_HB, 0, 32⟩
/-- `MGT.HB_CFG`, R452 of 15_firmware_management.md. -/
def MGT_HB_CFG : Reg := ⟨4, 0x5c, 0x10b0760⟩
def MGT_HB_CFG_PERIOD : Fld := ⟨MGT_HB_CFG, 0, 32⟩
/-- `MGT.HB_STS`, R452 of 15_firmware_management.md. -/
def MGT_HB_STS : Reg := ⟨4, 0x60, 8⟩
def MGT_HB_STS_MISSES : Fld := ⟨MGT_HB_STS, 0, 2⟩
def MGT_HB_STS_ARMED : Fld := ⟨MGT_HB_STS, 2, 1⟩
def MGT_HB_STS_ORPHANED : Fld := ⟨MGT_HB_STS, 3, 1⟩
def MGT_HB_STS_BAD : Fld := ⟨MGT_HB_STS, 4, 12⟩
def MGT_HB_STS_SESSION : Fld := ⟨MGT_HB_STS, 32, 32⟩
/-- `MGT.MB_CMD`, R452 of 15_firmware_management.md. -/
def MGT_MB_CMD : Reg := ⟨4, 0x80, 0⟩
def MGT_MB_CMD_OPCODE : Fld := ⟨MGT_MB_CMD, 0, 8⟩
/-- `MGT.MB_STS`, R452 of 15_firmware_management.md. -/
def MGT_MB_STS : Reg := ⟨4, 0x84, 0⟩
def MGT_MB_STS_STATUS : Fld := ⟨MGT_MB_STS, 0, 8⟩
def MGT_MB_STS_BUSY : Fld := ⟨MGT_MB_STS, 8, 1⟩
/-- `MGT.FEAT`, R452 of 15_firmware_management.md. -/
def MGT_FEAT : Reg := ⟨4, 0x88, 0⟩
def MGT_FEAT_AGREED : Fld := ⟨MGT_FEAT, 0, 64⟩
/-- `MGT.FW_STS`, R452 of 15_firmware_management.md. -/
def MGT_FW_STS : Reg := ⟨4, 0x90, 0⟩
def MGT_FW_STS_STAGED : Fld := ⟨MGT_FW_STS, 0, 1⟩
def MGT_FW_STS_STAGE_BUSY : Fld := ⟨MGT_FW_STS, 1, 1⟩
def MGT_FW_STS_STAGE_STATUS : Fld := ⟨MGT_FW_STS, 2, 8⟩
def MGT_FW_STS_ACT_STATE : Fld := ⟨MGT_FW_STS, 10, 3⟩
def MGT_FW_STS_RUN_SVN : Fld := ⟨MGT_FW_STS, 13, 8⟩
def MGT_FW_STS_FUSED_SVN : Fld := ⟨MGT_FW_STS, 21, 8⟩
def MGT_FW_STS_STAGED_KIB : Fld := ⟨MGT_FW_STS, 32, 32⟩
/-- `MGT.FW_CFG`, R452 of 15_firmware_management.md. -/
def MGT_FW_CFG : Reg := ⟨4, 0x98, 0⟩
def MGT_FW_CFG_MANUAL_CONFIRM : Fld := ⟨MGT_FW_CFG, 0, 1⟩
def MGT_FW_CFG_CONFIRM : Fld := ⟨MGT_FW_CFG, 1, 1⟩
/-- `MGT.FW_VER`, R452 of 15_firmware_management.md. -/
def MGT_FW_VER : Reg := ⟨4, 0xa0, 0⟩
def MGT_FW_VER_RUNNING : Fld := ⟨MGT_FW_VER, 0, 32⟩
def MGT_FW_VER_STAGED : Fld := ⟨MGT_FW_VER, 32, 32⟩
/-- `MGT.MB_REQ`, R452 of 15_firmware_management.md. -/
def MGT_MB_REQ : Reg := ⟨4, 0x100, 0⟩
def MGT_MB_REQ_WORD : Fld := ⟨MGT_MB_REQ, 0, 64⟩
/-- `MGT.MB_RSP`, R452 of 15_firmware_management.md. -/
def MGT_MB_RSP : Reg := ⟨4, 0x180, 0⟩
def MGT_MB_RSP_WORD : Fld := ⟨MGT_MB_RSP, 0, 64⟩
/-- `SBP.STS`, R453 of 15_firmware_management.md. -/
def SBP_STS : Reg := ⟨5, 0x40, 1⟩
def SBP_STS_MODE : Fld := ⟨SBP_STS, 0, 2⟩
def SBP_STS_DYN_ADDR : Fld := ⟨SBP_STS, 2, 7⟩
def SBP_STS_STATIC_ADDR : Fld := ⟨SBP_STS, 9, 7⟩
def SBP_STS_MAIN_UP : Fld := ⟨SBP_STS, 16, 1⟩
def SBP_STS_FW_UP : Fld := ⟨SBP_STS, 17, 1⟩
/-- `SBP.CFG`, R453 of 15_firmware_management.md. -/
def SBP_CFG : Reg := ⟨5, 0x48, 7⟩
def SBP_CFG_I3C_EN : Fld := ⟨SBP_CFG, 0, 1⟩
def SBP_CFG_IBI_EN : Fld := ⟨SBP_CFG, 1, 1⟩
def SBP_CFG_LOG_EN : Fld := ⟨SBP_CFG, 2, 1⟩
/-- `SBP.ALERT`, R453 of 15_firmware_management.md. -/
def SBP_ALERT : Reg := ⟨5, 0x4c, 0⟩
def SBP_ALERT_PAGE : Fld := ⟨SBP_ALERT, 0, 10⟩
def SBP_ALERT_PENDING : Fld := ⟨SBP_ALERT, 10, 1⟩
/-- `SBP.COUNTS`, R453 of 15_firmware_management.md. -/
def SBP_COUNTS : Reg := ⟨5, 0x58, 0⟩
def SBP_COUNTS_MESSAGES : Fld := ⟨SBP_COUNTS, 0, 32⟩
def SBP_COUNTS_ERRORS : Fld := ⟨SBP_COUNTS, 32, 32⟩
/-- `CLK.STS`, R491 of 17_clocks_power_startup.md. -/
def CLK_STS : Reg := ⟨1, 0x40, 0⟩
def CLK_STS_REF_PRESENT : Fld := ⟨CLK_STS, 0, 1⟩
def CLK_STS_PLL_LOCK : Fld := ⟨CLK_STS, 1, 1⟩
def CLK_STS_HOLDOVER : Fld := ⟨CLK_STS, 2, 1⟩
/-- `CLK.LTC`, R491 of 17_clocks_power_startup.md. -/
def CLK_LTC : Reg := ⟨1, 0x48, 0⟩
def CLK_LTC_TICKS : Fld := ⟨CLK_LTC, 0, 64⟩
/-- `CLK.MON`, R491 of 17_clocks_power_startup.md. -/
def CLK_MON : Reg := ⟨1, 0x50, 0⟩
def CLK_MON_HOLDOVERS : Fld := ⟨CLK_MON, 0, 16⟩
def CLK_MON_REF_PPM : Fld := ⟨CLK_MON, 16, 16⟩
/-- `PWR.STS`, R492 of 17_clocks_power_startup.md. -/
def PWR_STS : Reg := ⟨2, 0x40, 0⟩
def PWR_STS_LEVEL : Fld := ⟨PWR_STS, 0, 2⟩
def PWR_STS_DEMAND : Fld := ⟨PWR_STS, 2, 2⟩
def PWR_STS_PWR_ALERT : Fld := ⟨PWR_STS, 4, 1⟩
def PWR_STS_THERM_ALERT : Fld := ⟨PWR_STS, 5, 1⟩
def PWR_STS_CAP : Fld := ⟨PWR_STS, 6, 2⟩
def PWR_STS_OVER_LIMIT : Fld := ⟨PWR_STS, 8, 1⟩
def PWR_STS_FILLING : Fld := ⟨PWR_STS, 9, 1⟩
/-- `PWR.DRAW`, R492 of 17_clocks_power_startup.md. -/
def PWR_DRAW : Reg := ⟨2, 0x48, 0⟩
def PWR_DRAW_NOW : Fld := ⟨PWR_DRAW, 0, 16⟩
def PWR_DRAW_AVG : Fld := ⟨PWR_DRAW, 16, 16⟩
def PWR_DRAW_LIMIT : Fld := ⟨PWR_DRAW, 32, 16⟩
def PWR_DRAW_P_NOM : Fld := ⟨PWR_DRAW, 48, 16⟩
/-- `PWR.CTL`, R492 of 17_clocks_power_startup.md. -/
def PWR_CTL : Reg := ⟨2, 0x50, 4⟩
def PWR_CTL_FORCE_LEVEL : Fld := ⟨PWR_CTL, 0, 2⟩
def PWR_CTL_BURNISH_EN : Fld := ⟨PWR_CTL, 2, 1⟩
/-- `PWR.BURNISH`, R492 of 17_clocks_power_startup.md. -/
def PWR_BURNISH : Reg := ⟨2, 0x58, 0x6446⟩
def PWR_BURNISH_FLOOR_PCT : Fld := ⟨PWR_BURNISH, 0, 7⟩
def PWR_BURNISH_SLOPE_W : Fld := ⟨PWR_BURNISH, 8, 12⟩
/-- `PWR.HOLD`, R492 of 17_clocks_power_startup.md. -/
def PWR_HOLD : Reg := ⟨2, 0x5c, 0x1ab3f0⟩
def PWR_HOLD_TICKS : Fld := ⟨PWR_HOLD, 0, 32⟩
/-- `PWR.THERM_CFG`, R492 of 17_clocks_power_startup.md. -/
def PWR_THERM_CFG : Reg := ⟨2, 0x60, 0x10b0760⟩
def PWR_THERM_CFG_P3_DELAY : Fld := ⟨PWR_THERM_CFG, 0, 32⟩
/-- `PWR.TEMP`, R492 of 17_clocks_power_startup.md. -/
def PWR_TEMP : Reg := ⟨2, 0x68, 0⟩
def PWR_TEMP_DIE_MAX : Fld := ⟨PWR_TEMP, 0, 8⟩
def PWR_TEMP_SENSOR : Fld := ⟨PWR_TEMP, 8, 4⟩
/-- `PWR.EVENTS`, R492 of 17_clocks_power_startup.md. -/
def PWR_EVENTS : Reg := ⟨2, 0x70, 0⟩
def PWR_EVENTS_P1 : Fld := ⟨PWR_EVENTS, 0, 16⟩
def PWR_EVENTS_P2 : Fld := ⟨PWR_EVENTS, 16, 16⟩
def PWR_EVENTS_P3 : Fld := ⟨PWR_EVENTS, 32, 16⟩
def PWR_EVENTS_FILLER_US : Fld := ⟨PWR_EVENTS, 48, 16⟩
/-- `PWR.EP_RST`, R492 of 17_clocks_power_startup.md. -/
def PWR_EP_RST : Reg := ⟨2, 0x80, 0⟩
def PWR_EP_RST_WARM : Fld := ⟨PWR_EP_RST, 0, 1⟩
def PWR_EP_RST_FABRIC : Fld := ⟨PWR_EP_RST, 1, 1⟩
def PWR_EP_RST_READY : Fld := ⟨PWR_EP_RST, 2, 1⟩
/-- `RST.CTL`, R493 of 17_clocks_power_startup.md. -/
def RST_CTL : Reg := ⟨3, 0x40, 0⟩
def RST_CTL_COLD : Fld := ⟨RST_CTL, 0, 1⟩
def RST_CTL_WARM : Fld := ⟨RST_CTL, 1, 1⟩
def RST_CTL_FABRIC : Fld := ⟨RST_CTL, 2, 1⟩
/-- `RST.STS`, R493 of 17_clocks_power_startup.md. -/
def RST_STS : Reg := ⟨3, 0x48, 3⟩
def RST_STS_STEP : Fld := ⟨RST_STS, 0, 4⟩
def RST_STS_FABRIC_READY : Fld := ⟨RST_STS, 4, 1⟩
def RST_STS_LAST_LEVEL : Fld := ⟨RST_STS, 5, 2⟩
def RST_STS_READY_TICK : Fld := ⟨RST_STS, 32, 32⟩
/-- `RST.CAUSE`, R493 of 17_clocks_power_startup.md. -/
def RST_CAUSE : Reg := ⟨3, 0x50, 0⟩
def RST_CAUSE_LAST : Fld := ⟨RST_CAUSE, 0, 3⟩
def RST_CAUSE_WARM_COUNT : Fld := ⟨RST_CAUSE, 16, 16⟩
/-- `RST.STRAPS`, R493 of 17_clocks_power_startup.md. -/
def RST_STRAPS : Reg := ⟨3, 0x58, 0⟩
def RST_STRAPS_ROLE : Fld := ⟨RST_STRAPS, 0, 2⟩
def RST_STRAPS_PLANE_SEL : Fld := ⟨RST_STRAPS, 2, 1⟩
def RST_STRAPS_SB_ADDR : Fld := ⟨RST_STRAPS, 3, 3⟩
/-- `HDR.PAGE_ID`, R497 of 18_register_pages.md. -/
def HDR_PAGE_ID : Reg := ⟨0, 0, 0x10000⟩
def HDR_PAGE_ID_BLOCK : Fld := ⟨HDR_PAGE_ID, 0, 8⟩
def HDR_PAGE_ID_INSTANCE : Fld := ⟨HDR_PAGE_ID, 8, 8⟩
def HDR_PAGE_ID_VERSION : Fld := ⟨HDR_PAGE_ID, 16, 8⟩
def HDR_PAGE_ID_PART : Fld := ⟨HDR_PAGE_ID, 24, 8⟩
/-- `HDR.PAGE_CAP`, R497 of 18_register_pages.md. -/
def HDR_PAGE_CAP : Reg := ⟨0, 4, 0⟩
def HDR_PAGE_CAP_RWL_PRESENT : Fld := ⟨HDR_PAGE_CAP, 0, 1⟩
def HDR_PAGE_CAP_SB_WRITE : Fld := ⟨HDR_PAGE_CAP, 1, 1⟩
def HDR_PAGE_CAP_REMOTE_READ : Fld := ⟨HDR_PAGE_CAP, 2, 1⟩
def HDR_PAGE_CAP_REMOTE_WRITE : Fld := ⟨HDR_PAGE_CAP, 3, 1⟩
def HDR_PAGE_CAP_STANDBY : Fld := ⟨HDR_PAGE_CAP, 4, 1⟩
def HDR_PAGE_CAP_ENABLE_CTL : Fld := ⟨HDR_PAGE_CAP, 5, 1⟩
def HDR_PAGE_CAP_SOFT_RESET : Fld := ⟨HDR_PAGE_CAP, 6, 1⟩
def HDR_PAGE_CAP_SUBPAGES : Fld := ⟨HDR_PAGE_CAP, 8, 3⟩
/-- `HDR.PAGE_CTL`, R497 of 18_register_pages.md. -/
def HDR_PAGE_CTL : Reg := ⟨0, 8, 1⟩
def HDR_PAGE_CTL_ENABLE : Fld := ⟨HDR_PAGE_CTL, 0, 1⟩
def HDR_PAGE_CTL_SOFT_RESET : Fld := ⟨HDR_PAGE_CTL, 1, 1⟩
def HDR_PAGE_CTL_FENCE : Fld := ⟨HDR_PAGE_CTL, 2, 1⟩
/-- `HDR.PAGE_STS`, R497 of 18_register_pages.md. -/
def HDR_PAGE_STS : Reg := ⟨0, 0xc, 0⟩
def HDR_PAGE_STS_READY : Fld := ⟨HDR_PAGE_STS, 0, 1⟩
def HDR_PAGE_STS_FENCED : Fld := ⟨HDR_PAGE_STS, 1, 1⟩
def HDR_PAGE_STS_FAULT : Fld := ⟨HDR_PAGE_STS, 2, 1⟩
def HDR_PAGE_STS_RESETTING : Fld := ⟨HDR_PAGE_STS, 3, 1⟩
/-- `HDR.INT_CAUSE`, R497 of 18_register_pages.md. -/
def HDR_INT_CAUSE : Reg := ⟨0, 0x10, 0⟩
def HDR_INT_CAUSE_CAUSE : Fld := ⟨HDR_INT_CAUSE, 0, 32⟩
/-- `HDR.INT_MASK`, R497 of 18_register_pages.md. -/
def HDR_INT_MASK : Reg := ⟨0, 0x14, 0xffffffff⟩
def HDR_INT_MASK_MASK : Fld := ⟨HDR_INT_MASK, 0, 32⟩
/-- `HDR.INT_FORCE`, R497 of 18_register_pages.md. -/
def HDR_INT_FORCE : Reg := ⟨0, 0x18, 0⟩
def HDR_INT_FORCE_FORCE : Fld := ⟨HDR_INT_FORCE, 0, 32⟩
/-- `HDR.INT_ROUTE`, R497 of 18_register_pages.md. -/
def HDR_INT_ROUTE : Reg := ⟨0, 0x1c, 0⟩
def HDR_INT_ROUTE_VECTOR : Fld := ⟨HDR_INT_ROUTE, 0, 11⟩
def HDR_INT_ROUTE_VEC_EN : Fld := ⟨HDR_INT_ROUTE, 16, 1⟩
def HDR_INT_ROUTE_SB_EN : Fld := ⟨HDR_INT_ROUTE, 17, 1⟩
/-- `HDR.ERR_FIRST`, R497 of 18_register_pages.md. -/
def HDR_ERR_FIRST : Reg := ⟨0, 0x20, 0⟩
def HDR_ERR_FIRST_CODE : Fld := ⟨HDR_ERR_FIRST, 0, 16⟩
def HDR_ERR_FIRST_VALID : Fld := ⟨HDR_ERR_FIRST, 16, 1⟩
def HDR_ERR_FIRST_TICK : Fld := ⟨HDR_ERR_FIRST, 32, 32⟩
/-- `HDR.ERR_COUNT`, R497 of 18_register_pages.md. -/
def HDR_ERR_COUNT : Reg := ⟨0, 0x28, 0⟩
def HDR_ERR_COUNT_COUNT : Fld := ⟨HDR_ERR_COUNT, 0, 32⟩
/-- `HDR.LOCK`, R497 of 18_register_pages.md. -/
def HDR_LOCK : Reg := ⟨0, 0x30, 0⟩
def HDR_LOCK_STATE : Fld := ⟨HDR_LOCK, 0, 2⟩
def HDR_LOCK_SEQ_LOW : Fld := ⟨HDR_LOCK, 16, 16⟩
/-- `GLB.ID`, R512 of 18_register_pages.md. -/
def GLB_ID : Reg := ⟨0, 0x40, 0⟩
def GLB_ID_PART : Fld := ⟨GLB_ID, 0, 16⟩
def GLB_ID_STEP_NUM : Fld := ⟨GLB_ID, 16, 4⟩
def GLB_ID_STEP_LETTER : Fld := ⟨GLB_ID, 20, 4⟩
/-- `GLB.SERIAL`, R512 of 18_register_pages.md. -/
def GLB_SERIAL : Reg := ⟨0, 0x48, 0⟩
def GLB_SERIAL_SERIAL : Fld := ⟨GLB_SERIAL, 0, 64⟩
/-- `GLB.STS`, R512 of 18_register_pages.md. -/
def GLB_STS : Reg := ⟨0, 0x50, 0⟩
def GLB_STS_STRAP_FAULT : Fld := ⟨GLB_STS, 0, 1⟩
def GLB_STS_MAIN_UP : Fld := ⟨GLB_STS, 1, 1⟩
/-- `GLB.SWITCH_GROUP`, R512 of 18_register_pages.md. -/
def GLB_SWITCH_GROUP : Reg := ⟨0, 0x58, 0⟩
def GLB_SWITCH_GROUP_GROUP : Fld := ⟨GLB_SWITCH_GROUP, 0, 12⟩
def GLB_SWITCH_GROUP_WRITTEN : Fld := ⟨GLB_SWITCH_GROUP, 12, 1⟩
def GLB_SWITCH_GROUP_ACTIVE : Fld := ⟨GLB_SWITCH_GROUP, 16, 12⟩
def GLB_SWITCH_GROUP_PENDING : Fld := ⟨GLB_SWITCH_GROUP, 28, 1⟩
/-- `GLB.LAYOUT`, R512 of 18_register_pages.md. -/
def GLB_LAYOUT : Reg := ⟨0, 0x60, 0⟩
def GLB_LAYOUT_X4 : Fld := ⟨GLB_LAYOUT, 0, 1⟩
def GLB_LAYOUT_ACTIVE_X4 : Fld := ⟨GLB_LAYOUT, 1, 1⟩
def GLB_LAYOUT_PENDING : Fld := ⟨GLB_LAYOUT, 2, 1⟩
/-- `ERR.LOG_STS`, R513 of 18_register_pages.md. -/
def ERR_LOG_STS : Reg := ⟨0xb, 0x40, 0⟩
def ERR_LOG_STS_DEPTH : Fld := ⟨ERR_LOG_STS, 0, 9⟩
def ERR_LOG_STS_DROPS : Fld := ⟨ERR_LOG_STS, 32, 32⟩
/-- `ERR.LOG_CTL`, R513 of 18_register_pages.md. -/
def ERR_LOG_CTL : Reg := ⟨0xb, 0x48, 0⟩
def ERR_LOG_CTL_CLEAR : Fld := ⟨ERR_LOG_CTL, 0, 1⟩
/-- `ERR.LATEST`, R513 of 18_register_pages.md. -/
def ERR_LATEST : Reg := ⟨0xb, 0x50, 0⟩
def ERR_LATEST_CODE : Fld := ⟨ERR_LATEST, 0, 16⟩
def ERR_LATEST_PAGE : Fld := ⟨ERR_LATEST, 16, 10⟩
def ERR_LATEST_TICK : Fld := ⟨ERR_LATEST, 32, 32⟩
/-- `ERR.LOG`, R513 of 18_register_pages.md. -/
def ERR_LOG : Reg := ⟨0xb, 0x80, 0⟩
def ERR_LOG_WORD : Fld := ⟨ERR_LOG, 0, 64⟩

end Sys2Proof.Machine
end

