-- ==== Sys2Proof/Machine/State.lean ====
section
/-! DEFINITION. The state of the block: one DRV-CS512 switch and one DRV-NE64 endpoint, everything the spec gives them, the record of what they sent, and the queue of waiting commands. Every software-visible register field lives in the register file of its part, under the bank of its selector; what no register shows is held in typed fields. -/

namespace Sys2Proof.Machine

/-- One error record (R470). -/
structure ErrRec where
  code : Nat
  sev : Nat
  rung : Option Nat
  esc : Bool
  page : Nat
  status : Nat
  reason : Nat
  ltc : Nat
  d0 : Nat
  d1 : Nat
deriving DecidableEq, Repr

/-- A flit in the replay buffer, exactly as sent (R307): its SEQ and its 256 bytes. -/
structure TxFlit where
  seq : Nat
  bytes : List Byte
deriving DecidableEq, Repr

/-- The keys and counters of one encrypted link (R316 to R320). -/
structure LinkKeys where
  tx : List Byte := []
  rx : List Byte := []
  txSalt : List Byte := []
  rxSalt : List Byte := []
  oldRx : List Byte := []
  oldRxSalt : List Byte := []
  txCtr : Nat := 0
  rxCtr : Nat := 0
  groupFirst : Nat := 0
  groupAad : List Byte := []
  groupCt : List Byte := []
  groupCount : Nat := 0
  groupHasData : Bool := false
  held : List (List Byte) := []
  failedAt : Option Nat := none
deriving DecidableEq, Repr

/-- A key exchange in progress (R315). -/
structure Kex where
  running : Bool := false
  start : Nat := 0
  draw : Nat := 0
  initDigestInput : List Byte := []
deriving DecidableEq, Repr

/-- A lane shed in progress (R337). -/
structure Shed where
  mask : Nat := 0
  sent : Bool := false
  acked : Bool := false
  gone : Bool := false
  partnerGone : Bool := false
  partnerLast : Nat := 0
  thenRetrain : Bool := false
deriving DecidableEq, Repr

/-- What one fabric port or link holds that no register shows: the stages of tack-up, retrain and shed, and the link layer. `txq` holds the packets that wait, each with the link it came in on; `ctl` the CTRL and KEX flits that wait for room in the replay buffer, as type and payload; `cur` the payloads of the flits still to be sent of the packet in progress, `ready` how many of them may go (R249), `head` whether the next one begins the packet; `scr` the state of each lane's scrambler (R324); `loop` the loopback that the latest RESTART took from CTL.LPBK (R339). -/
structure Port where
  timer : Nat := 0
  detected : Nat := 0
  preamble : Bool := false
  partnerRates : Nat := 0
  passHere : Nat := 0
  passThere : Nat := 0
  farMin : Nat := 1
  long : Bool := false
  attempts : Nat := 0
  detectEnd : Nat := 0
  cfg : Word := 0
  encCfg : Word := 0
  loop : Nat := 0
  capSent : Option CapMsg := none
  capGot : Option CapMsg := none
  readySent : Bool := false
  readyGot : Bool := false
  pongs : Nat := 0
  rttSum : Nat := 0
  retrain : Option Nat := none
  escalate : Bool := false
  shed : Option Shed := none
  slips : List Nat := []
  seq : Nat := 0
  expect : Nat := 0
  base : Nat := 0
  replay : List TxFlit := []
  ackAt : Nat := 0
  replayFirst : Nat := 0
  replayRuns : Nat := 0
  nakSent : Option Nat := none
  txq : List (Option Nat × Packet) := []
  ctl : List (Nat × List Byte) := []
  cur : List (List Byte) := []
  ready : Nat := 0
  head : Bool := false
  scr : SMap Nat := []
  crNext : Nat := 0
  winCount : SMap Nat := []
  winOpen : Nat := 0
  nakAt : Nat := 0
  assembling : List Byte := []
  credit : List Nat := []
  owed : List Nat := []
  encrypted : Bool := false
  keys : LinkKeys := {}
  kex : Kex := {}
deriving DecidableEq, Repr

/-- The instructions of the test access port (R530). DESIGN CHOICE, log 181. -/
inductive TapInstr where
  | bypass | idcode | sample | extest | extestPulse | extestTrain | highz | clamp | internal
deriving DecidableEq, Repr

/-- The ordered sets of R335 and R337. -/
inductive OrdSet where
  | retrain
  | shed (mask last : Nat)
  | shedAck (mask last : Nat)
  | shedGo
deriving DecidableEq, Repr

/-- What a part has sent or driven, one entry for each thing that leaves it. DESIGN CHOICE, log 80, 179. -/
inductive Out where
  /-- A flit on a link: its 272 wire bytes. -/
  | flit (p : Part) (port : Nat) (wire : List Byte)
  /-- A packet handed to a link's transmitter. -/
  | packet (p : Part) (port : Nat) (pkt : Packet)
  /-- A packet released by a link's receiver. -/
  | received (p : Part) (port : Nat) (pkt : Packet)
  /-- A packet that leaves the switch's crossbar at an internal port. -/
  | toSink (port : Nat) (pkt : Packet)
  /-- An ordered set on every active lane of a link. -/
  | ordSet (p : Part) (port : Nat) (o : OrdSet)
  /-- A CAP message sent in a CTRL flit. -/
  | cap (p : Part) (port : Nat) (m : CapMsg)
  /-- A link-control message other than CAP: kind (1 REFUSE, 2 PING, 3 PONG, 4 READY, 5 rekey request) and value. -/
  | ctrl (p : Part) (port : Nat) (kind value : Nat)
  /-- A key-exchange message: false INIT, true RESP. -/
  | kex (p : Part) (port : Nat) (resp : Bool) (m : KexMsg)
  /-- An interrupt: MSI-X vector of the switch, INTR vector of the endpoint. -/
  | interrupt (p : Part) (vector : Nat)
  /-- A side-band alert: true in-band, false SB_ALERT_N. -/
  | alert (ibi : Bool) (page : Nat)
  /-- The fabric transmitters fall silent. -/
  | silence (p : Part)
  /-- The completion of a register access on a path that returns one (R533): status and data. -/
  | regDone (p : Part) (path : Path) (status : Nat) (data : Word)
  /-- An answer of the switch to a CXL.mem request of the host: DPA, response (0 Cmp, 1 Cmp-S, 2 Cmp-E), data (R380). -/
  | hostMem (dpa rsp : Nat) (data : List Byte)
  /-- An ERR_NONFATAL message on CXL.io (R381). -/
  | hostNonFatal
  /-- A back-invalidate snoop to the host: true BISnpInvBlk, false BISnpDataBlk (R382). -/
  | biSnoop (inv : Bool) (dpa : Nat)
  /-- BIConflictAck (R383). -/
  | biConflictAck (dpa : Nat)
  /-- An access to a bulk device (R113): the number of the access, the port, write or read, the DPA, the data written. -/
  | bulk (id port : Nat) (write : Bool) (dpa : Nat) (data : List Byte)
  /-- The zero scrub of a bulk granule: the port and the granule (R138). -/
  | bulkZero (port gran : Nat)
  /-- A write by DMA into host memory. -/
  | hostDma (addr : Nat) (data : List Byte)
  /-- ACC_RD (R345): the number of the access, the local address, the bytes. -/
  | accRd (id addr len : Nat)
  /-- ACC_WR. -/
  | accWr (addr : Nat) (data : List Byte)
  /-- ACC_ATOMIC: the opcode of R300, the size, the operands. -/
  | accAtomic (id addr op size : Nat) (data : List Byte)
  /-- DISCARD: `pool` asks for the copies of pool lines too (R84, R135). -/
  | discard (id : Nat) (pool : Bool)
  /-- MEM_CPL: the request's number at the accelerator, status, data. -/
  | memCpl (id status : Nat) (data : List Byte)
  /-- A commit of an HDM decoder: whether it took, or Error Not Committed (R379). -/
  | hdmCommit (dec : Nat) (ok : Bool)
  /-- The answer to a memory-device command (R376): the command (0 Identify Memory Device, 1 Get Supported Logs, 2 Get Log, 3 Get Event Records, 4 Clear Event Records, 5 Get Event Interrupt Policy, 6 Set Event Interrupt Policy, 7 Get Health Info, 8 Get Timestamp, 9 Set Timestamp, 10 any other), whether it succeeded (other opcodes complete Unsupported), and what the answer tells. -/
  | memDev (cmd : Nat) (ok : Bool) (data : List Nat)
  /-- The answer to a TSP request (R389): 0 Get Version, 1 Get Target Capabilities, 2 Set Target Configuration, 3 Lock Target Configuration, 4 Get Target Configuration Report, 5 any other. -/
  | tsp (req : Nat) (ok : Bool) (data : List Nat)
  /-- The response to an SPDM request: the part, the requester (0 the host's DOE mailbox, 1 MCTP on the side-band, 16 + n the partner of port n), the request (0 GET_VERSION, 1 GET_CAPABILITIES, 2 NEGOTIATE_ALGORITHMS, 3 GET_DIGESTS, 4 GET_CERTIFICATE, 5 CHALLENGE, 6 GET_MEASUREMENTS, 7 KEY_EXCHANGE, 8 FINISH, 9 END_SESSION, 10 VENDOR_DEFINED_REQUEST, 11 one that R402 refuses), and the error (0 none, 1 UnsupportedRequest, 2 UnexpectedRequest, 3 another). -/
  | spdm (p : Part) (who req error : Nat) (data : List Byte)
  /-- A binding set sent to the partner of a switch port (R422): SEQ, the entries, the mask. -/
  | binding (port node : Nat) (seq : Word) (ctxs : List (Nat × Word)) (mask : Word)
  /-- The endpoint's acknowledgement of a binding set, on a link (R422). -/
  | bindingAck (link : Nat) (seq : Word)
  /-- A PLDM response on the side-band port (R444, R449): the request (0 base or MCTP control, 1 monitoring, 2 RequestUpdate, 3 ActivateFirmware, 4 CancelUpdate), the outcome (0 SUCCESS, 1 ERROR_NOT_READY, 2 ALREADY_IN_UPDATE_MODE, 3 refused), and what a monitoring response tells. -/
  | pldm (req code : Nat) (data : List Nat)
  /-- THERM_TRIP_N driven (true low). -/
  | thermTrip (p : Part) (low : Bool)
deriving DecidableEq, Repr

/-! ### Sync objects (R197, R354) -/

/-- Who waits on a sync object: a request from another part, or a command of the endpoint's own queue. -/
inductive Waiter where
  | remote (pkt : Packet)
  | own (queue index : Nat)
deriving DecidableEq, Repr

/-- An outstanding WAIT: the object, the target, the queue that waits, who waits, and the tick of its arrival. -/
structure SyncWait where
  idx : Nat
  queue : Nat
  target : Word
  who : Waiter
  at_ : Nat
deriving DecidableEq, Repr

/-- What a part's sync objects hold beyond the SYN page: the waits in order, and the objects that hold a release record (R88). -/
structure SyncSt where
  waits : List SyncWait := []
  recs : List Nat := []
deriving DecidableEq, Repr

/-- What both parts hold alike. `idSeed` is the seed of the identity key, empty before it is derived, and `cdi1` the first compound device identifier (R398). `spdm` holds, by requester, how far the SPDM negotiation has come (1 version, 2 capabilities, 3 algorithms) and the session (1 handshake, 2 open). DESIGN CHOICE, log 181. -/
structure Chip where
  regs : RegFile := []
  ltc : Word := 0
  log : List ErrRec := []
  ports : SMap Port := []
  standbyUp : Bool := false
  mainUp : Bool := false
  rstLow : Bool := false
  inReset : Bool := true
  step : Nat := 3
  tripLow : Bool := false
  holdover : Option Nat := none
  tap : TapInstr := .idcode
  startHeld : Bool := false
  pageResets : SMap Nat := []
  sync : SyncSt := {}
  spdm : SMap (Nat × Nat) := []
  idSeed : List Byte := []
  cdi1 : List Byte := []
deriving DecidableEq, Repr

/-- Where a packet leaves the crossbar (R240, R241): a fabric port or an internal port. -/
inductive Egress where
  | fabric (port : Nat)
  | inner (port : Nat)
deriving DecidableEq, Repr

/-- A packet of the switch from its virtual output queue to its start at the egress (R243 to R252), oldest first in its list. `origin` is the ingress fabric port, or none for a packet of the switch itself, which enters the crossbar at the internal port `inner` (R241); `group` names a multicast packet whose copy this is (R259); `waitsJoin` holds a herd result back (R260). `sent` counts the cells that have crossed stage one, `rel` those released in order to the egress, `no` numbers the packets in the order in which they began to cross, 0 before; `begun` says that the packet has started on its link. -/
structure QEntry where
  id : Nat
  origin : Option Nat
  egress : Egress
  pkt : Packet
  cells : Nat
  reserved : Bool
  at_ : Nat
  group : Option Nat
  waitsJoin : Bool
  inner : Nat := 64
  sent : Nat := 0
  rel : Nat := 0
  no : Nat := 0
  begun : Bool := false
deriving DecidableEq, Repr

/-- A cell in a middle buffer or a resequencer: its packet, its place in the packet, the cycle at which stage one wrote it (R250 to R252). -/
structure XCell where
  id : Nat
  ix : Nat
  at_ : Nat
deriving DecidableEq, Repr

/-- Where one chooser of R242 stands: the cells it has served since TC7, the classes of the last seven, the turn among TC3, TC0 and TC5 with their deficits, and the egress served last in each class. -/
structure Sched where
  n : Nat := 0
  recent : List Nat := []
  turn : Nat := 0
  deficit : List Nat := [8, 0, 0]
  last : SMap Nat := []
deriving DecidableEq, Repr

/-- A non-negative dyadic number `num / 2^exp`: the average A of R255, exactly. -/
structure Dyad where
  num : Nat := 0
  exp : Nat := 0
deriving DecidableEq, Repr

/-- Marks counted for one source and class since its last congestion notice (R258). -/
structure MarkCount where
  marks : Nat := 0
  last : Option Nat := none
deriving DecidableEq, Repr

/-- A drain probe waiting for the packets that arrived before it (R282). -/
structure Probe where
  port : Nat
  pkt : Packet
  before : Nat
deriving DecidableEq, Repr

/-- The switch's queues, crossbar, congestion state, telemetry and power control that no register shows. `cycle` is the XCLK cycle number t of R250; `mids` holds the cells in the middle buffers by buffer × 128 + output, oldest first; `reseq` those in the resequencers by output; `ins` and `outs` where the choosers of the crossbar inputs and of the egress ports stand. -/
structure SwCore where
  queue : List QEntry := []
  nextId : Nat := 0
  cycle : Nat := 0
  nextNo : Nat := 1
  mids : SMap (List XCell) := []
  reseq : SMap (List XCell) := []
  ins : SMap Sched := []
  outs : SMap Sched := []
  avgs : SMap Dyad := []
  powerMark : Nat := 0
  marked : SMap MarkCount := []
  probes : List Probe := []
  live : SMap Nat := []
  liveMarked : List Nat := []
  liveOpen : Nat := 0
  holdFrom : Option Nat := none
  thermFrom : Option Nat := none
  sensorDemand : Nat := 0
  p0From : Nat := 0
  average : List Nat := []
  fillTicks : Nat := 0
deriving DecidableEq, Repr

/-- A flip of plane-map buckets in progress at the endpoint (R281, R283): the axis, the buckets as a 64-bit mask, the plane they leave, the probe's tag and whether it is awaited, the tick from which the settle runs, how long it lasts, and the destination coordinate it is limited to, if any. -/
structure Flip where
  axis : Nat
  buckets : Nat
  old : Nat
  tag : Nat
  awaiting : Bool
  settleFrom : Option Nat
  settle : Nat
  coord : Option Nat
deriving DecidableEq, Repr

/-- One bridle's bucket (R362): tokens in bytes at a tick, the tick from which the next increase is counted, and the last increase, as its tick and the RATE before it. -/
structure Bridle where
  tokens : Int := 0
  at_ : Nat := 0
  incFrom : Nat := 0
  rose : Option (Nat × Nat) := none
deriving DecidableEq, Repr

/-- The relay router and the bridles beyond their registers: the links opened to every class (a mask), the flips, the packets that a flip holds with their axis, bucket, the link they came in on and whether they are yet to be counted as relayed, the packets that wait on a bridle, the tick of the node ID's adoption with the links that offered it in that tick, and the tick of a clash of offers (R26), the mesh binding in force (R423), and a binding applied (R490). -/
structure Relay where
  opened : Nat := 0
  flips : List Flip := []
  heldPk : List (Nat × Nat × Option Nat × Bool × Packet) := []
  probeTag : Nat := 0
  bridles : SMap Bridle := []
  bridled : List Packet := []
  marked : SMap MarkCount := []
  adopted : Option (Nat × List Nat) := none
  clash : Option Nat := none
  mesh : Bool := false
  bound : Bool := false
deriving DecidableEq, Repr

/-- The recorded outcome of a request performed (R265, R359). -/
structure Outcome where
  src : Nat
  tag : Nat
  status : Nat
  data : List Byte
  aux : Nat
  at_ : Nat
deriving DecidableEq, Repr

/-! ### The pool (R102 to R145, R261 to R266) -/

/-- Who asks the home for an access: a packet from the fabric; the host, with the kind of its request and its byte mask; a line of a gather; a stream access of a program; a prefetch hint; the home's own fill for an owner-lost mark; the data that a slot gave back, with whether its WRITEBACK waits for the answer. -/
inductive Asker where
  | fabric
  | host (kind mask : Nat)
  | gather (g line : Nat)
  | prog (herd chunk n : Nat)
  | hint
  | mark
  | back (slot : Nat) (ans : Bool)
deriving DecidableEq, Repr

/-- What is asked of the home; `back` is the write of data that a holder gave back (R123). -/
inductive PKind where
  | read | write | atomic | readShared | readOwn | upgrade | scatter | fill | back
deriving DecidableEq, Repr

/-- One request held at the home: its packet, who asked, and the tick of its arrival. -/
structure Member where
  pkt : Packet
  asker : Asker
  at_ : Nat
deriving DecidableEq, Repr

/-- An entry of the home queue (R124): a request, or a combining entry with its members (R262). `got` holds lines read past the cache, `direct` the lines written past it, `acks` the device's acknowledgements awaited, `result` the answers that wait for them, `fail` a failed fill, `evict` the directory entry that it evicts; a combining entry that waits for its issue is `parked`. -/
structure PReq where
  id : Nat
  kind : PKind
  ptn : Nat
  off : Nat
  len : Nat
  members : List Member
  comb : Bool := false
  isSealed : Bool := false
  issued : Bool := false
  opened : Nat := 0
  got : SMap (List Byte) := []
  direct : List Nat := []
  acks : Nat := 0
  result : List (Nat × List Byte × Nat) := []
  fail : Option Nat := none
  counted : Bool := false
  evict : Option Nat := none
  parked : Bool := false
deriving DecidableEq, Repr

/-- A recall in progress on a line (state B of R123): whether the snoop invalidates, the slots yet to answer as a mask, those snooped again after a failed answer, those not yet sent, write-back data taken, and the tick of each snoop. -/
structure Recall where
  inv : Bool
  wait : Nat
  again : Nat := 0
  unsent : Nat := 0
  wb : Bool := false
  sent : SMap Nat := []
deriving DecidableEq, Repr

/-- A directory entry (R122, R123): exclusive or shared, the sharers as a mask, the halves that the host holds (R380), the order of its last use, and its recall. -/
structure DirEntry where
  excl : Bool
  sharers : Nat
  halves : Nat := 0
  used : Nat := 0
  recalling : Option Recall := none
deriving DecidableEq, Repr

/-- A slot of a BACKED partition's cache (R112 to R114). -/
structure CacheSlot where
  tag : Nat
  dirty : Bool
  stuck : Bool
  ptn : Nat
deriving DecidableEq, Repr

/-- An access to a bulk device (R113, R115): the port and the line, the data of a write, the cache slot it fills or writes back, the request it serves. -/
structure BulkOp where
  id : Nat
  port : Nat
  ptn : Nat
  line : Nat
  write : Bool
  data : List Byte
  slot : Option Nat
  req : Option Nat
  at_ : Nat
deriving DecidableEq, Repr

/-- A record of the owner-lost log (R131, R143). -/
structure OLRec where
  line : Nat
  cause : Nat
  slot : Nat
  tick : Nat
deriving DecidableEq, Repr

/-- A gather in progress (R236): its request, the table's row size and base, the indices, the lines read with their status, and the lines outstanding. -/
structure Gather where
  id : Nat
  pkt : Packet
  at_ : Nat
  row : Nat
  base : Nat
  rows : Nat
  indices : List Nat
  lines : SMap (Nat × List Byte)
  left : Nat
deriving DecidableEq, Repr

/-- A release by the host that waits for its earlier accesses (R83, R213): the object, the value added, the scope, and the number below which the host's requests stand before it. -/
structure HostAdd where
  idx : Nat
  value : Word
  scope : Nat
  before : Nat
deriving DecidableEq, Repr

/-- The pool of the switch. `mem` holds HBM bytes that are not zero, by granule × 2^28 + offset; `decay` the lines with an error, true uncorrectable; `dir` and `lost` are keyed by partition × 2^33 + line; `dead` counts the owner-lost lines left in granules whose partition has gone, until their zero scrub; `spent` holds the snoops (line, slot) that a write-back has answered and whose own answer is still to come (R125); `adds` the host's releases that wait. -/
structure Pool where
  mem : List Host.Cell := []
  decay : SMap Bool := []
  slots : SMap CacheSlot := []
  dir : SMap DirEntry := []
  lost : SMap Nat := []
  olLog : List OLRec := []
  queue : List PReq := []
  gathers : List Gather := []
  bulk : List BulkOp := []
  outcomes : List Outcome := []
  nextId : Nat := 0
  use_ : Nat := 0
  drains : SMap (Nat × Nat) := []
  recalls : SMap (Nat × Nat) := []
  spent : List (Nat × Nat) := []
  adds : List HostAdd := []
  dead : SMap Nat := []
  devMiss : SMap Nat := []
  serials : SMap Nat := []
  stackLost : Bool := false
  held : Bool := false
deriving DecidableEq, Repr

/-! ### Programs and pool services (R214 to R239) -/

/-- A loaded program: its image of 64 words, its context, its digest, its lane-operations. -/
structure Prog where
  image : List Nat
  ctx : Nat
  digest : List Byte
  ops : Nat
deriving DecidableEq, Repr

/-- A stream of an attachment (R221). -/
structure Stream where
  base0 : Nat
  base1 : Nat
  ptn : Nat
  fmt : Nat
  store : Bool
  valid : Bool
deriving DecidableEq, Repr

/-- An attachment of a herd (R224 to R227). `finishing` holds the step and the store accesses of a chunk whose step has aborted while they were being performed (R222). -/
structure Attach where
  region : Bool
  slot : Nat
  banked : Bool
  broken : Bool := false
  streams : List Stream := []
  consts : List Nat := []
  staged : Option (Nat × List Nat) := none
  committed : Nat := 0
  chunksDone : Nat := 0
  finishing : Option (Nat × List Nat) := none
deriving DecidableEq, Repr

/-- A region (R232, R233): `done` true SEALED, false SEALING; while SEALING, the tick from which it is being hashed. -/
structure Region where
  ptn : Nat
  off : Nat
  len : Nat
  done : Bool
  digest : List Byte := []
  ctx : Nat
  from_ : Option Nat := none
deriving DecidableEq, Repr

/-- A gather or scatter table (R235). -/
structure Table where
  ptn : Nat
  base : Nat
  fmt : Nat
  gather : Bool
  scatter : Bool
  units : Nat
  rows : Nat
deriving DecidableEq, Repr

/-- A stage of commands (R183, R239): the claimant as kind, node and context, and the tick of the claim or of the claimant's last write. -/
structure Stage where
  claim : Option (Nat × Nat × Nat) := none
  at_ : Nat := 0
deriving DecidableEq, Repr

/-- The service core of the switch. -/
structure Svc where
  progs : SMap Prog := []
  atts : SMap Attach := []
  regions : SMap Region := []
  hashing : List Nat := []
  tables : SMap Table := []
  stage : Stage := {}
deriving DecidableEq, Repr

/-! ### Herds (R176 to R213) -/

/-- A piece of data on its way into a chunk: the packets by index (HERD_CONTRIB and HERD_PARTIAL), the tick at which it became complete, and whether it is a twin's contribution that is not used (R204). -/
structure Piece where
  pkts : SMap (List Byte) := []
  done : Option Nat := none
  dead : Bool := false
deriving DecidableEq, Repr

/-- A chunk in work: the pieces by contributor (slot × 4 + place), the shard that a herd above the first stage works on, the results of its shards that came from above, whether it has been reduced, its sum in an attached program's keeping, its flags, the pool accesses it waits for and their data, and the cores that failed it. -/
structure Chunk where
  shard : Nat := 0
  pieces : SMap Piece := []
  down : SMap Piece := []
  reduced : Bool := false
  out : List Byte := []
  flags : Nat := 0
  waits : List Nat := []
  loads : SMap (List Byte) := []
  asked : Bool := false
  stores : Bool := false
  fails : Nat := 0
deriving DecidableEq, Repr

/-- A swap of a slot (R203): the slot, the first chunk that the spare contributes, the endpoint replaced and the one that holds the slot. -/
structure Swap where
  slot : Nat
  first : Nat
  old : Nat
  new : Nat
deriving DecidableEq, Repr

/-- The end of a step that a herd keeps (R189): 0 completed, else the reason, and the completion record that each member was sent (R196). -/
structure StepEnd where
  step : Nat
  outcome : Nat
  flags : Nat := 0
  records : SMap (List Byte) := []
deriving DecidableEq, Repr

/-- A herd that is not FREE. States: 1 IDLE, 2 RUNNING, 3 ABORTING. `base` is the lowest chunk whose result has not left, `gone` the later chunks that have; `cpls` the up-links whose completion has come (R196); `upNodes` the relaying endpoints of the up-links as created; `signals` the signals sent to each member, `counts` what each member's slot received and lost (R199 to R201); `cores` the core assigned to each chunk of the step (R172, R241); `ending` a command that waits: 1 ABORT, 2 DESTROY; `moved` that the running or last step is one that failed over to this standby, `busyFor` a failed-over step that found the standby not IDLE (R210). -/
structure Herd where
  state : Nat := 1
  desc : List Word := []
  slots : SMap (Word × Word) := []
  sig : Nat := 0
  units : Nat := 0
  step : Nat := 0
  reason : Nat := 0
  failedOver : Bool := false
  lastSlot : Nat := 0
  doneChunks : Nat := 0
  base : Nat := 0
  gone : List Nat := []
  cpls : List Nat := []
  upNodes : SMap Nat := []
  stale : Nat := 0
  twin : Nat := 0
  skived : Nat := 0
  late : SMap (Nat × Nat) := []
  lsum : SMap Nat := []
  timerFrom : Nat := 0
  work : SMap Chunk := []
  joined : List Nat := []
  asked : Option (Nat × Nat) := none
  decided : Option Nat := none
  decidedAt : Nat := 0
  abortAt : Nat := 0
  acked : List Nat := []
  outcomes : List StepEnd := []
  swap : Option (Nat × Nat) := none
  swapped : List Swap := []
  ending : Nat := 0
  flags : Nat := 0
  twinLost : List Nat := []
  counts : SMap (List Nat) := []
  signals : SMap Nat := []
  cores : SMap Nat := []
  finished : Bool := false
  moved : Bool := false
  busyFor : Option Nat := none
deriving DecidableEq, Repr

/-- The herds of the switch, the HRD stage with its slot entries, the command that waits, the lane-operations of each core below a unit of 144, and the herd that each core served last (R231). -/
structure Herds where
  opsRem : SMap Nat := []
  herds : SMap Herd := []
  stage : Stage := {}
  entries : SMap (Word × Word) := []
  running : Option (Nat × Nat) := none
  turn : SMap Nat := []
deriving DecidableEq, Repr

/-! ### The endpoint's commands (R348 to R353) -/

/-- A command of a queue between its fetch and its completion. `stage`: 0 fetched, 1 issued, 2 done, 3 completed without a record while the attachment was down (R347). `mark` is the place of its issue in the order of the queue's accesses; `open_` counts its packets without an answer; `fails` holds the failed packets by byte position; `phase` 1 awaits a DISCARD_ACK, 2 waits on a local sync object since tick `at_`; `size` is the row size of a gather. -/
structure Cmd where
  queue : Nat
  index : Nat
  desc : List Word
  stage : Nat := 0
  mark : Nat := 0
  open_ : Nat := 0
  fails : SMap Nat := []
  status : Nat := 0
  verdict : Bool := false
  resent : Bool := false
  failed : Nat := 0
  value : Word := 0
  record : List Byte := []
  phase : Nat := 0
  at_ : Nat := 0
deriving DecidableEq, Repr

/-- Who asks for an access to the accelerator's memory: the data of a packet of a command; the operands of a 16-byte CAS or the index list of a gather; a read of a herd member (kind, chunk or destination, packet or record); a window request; a sub-table entry. -/
inductive AccFor where
  | data (acc : Nat)
  | memb (queue index kind a b : Nat)
  | window (id : Nat)
  | subtbl (key : Nat)
deriving DecidableEq, Repr

/-- An ACC_RD (`op` 0) or ACC_ATOMIC (`op` its opcode) that has no answer yet (R345, R346). -/
structure AccOp where
  id : Nat
  for_ : AccFor
  op : Nat
  addr : Nat
  len : Nat
  at_ : Nat
deriving DecidableEq, Repr

/-- One access of an agent of the endpoint on its way to its target: a MEM_REQ (`mem` its number at the accelerator) or a packet of command `index` at byte position `pos`. `ord` is its place in the queue's program order. `op` 0 is a release that sends nothing. `stage`: 0 to be translated, 1 waits for its table entry, 2 waits for its data or its order, 3 waits for a tag, 4 sent. `via` names the cached table entry it used and `apt` its aperture. -/
structure Access where
  id : Nat
  queue : Nat
  ord : Nat
  mem : Option Nat := none
  index : Nat := 0
  pos : Nat := 0
  op : Nat
  addr : Nat := 0
  direct : Bool := false
  fab : Word := 0
  stage : Nat := 0
  hasData : Bool := true
  data : List Byte := []
  len : Nat := 0
  vol : Bool := false
  cached : Bool := false
  noKeep : Bool := false
  sentOp : Nat := 0
  bulk : Bool := false
  release : Bool := false
  ctx : Nat := 0
  ptn : Nat := 0
  scope : Nat := 0
  aux : Nat := 0
  via : Option Nat := none
  apt : Option Nat := none
deriving DecidableEq, Repr

/-- What an outstanding request is for: an access, or the read of a translation-table entry, each by its number. -/
inductive ReqFor where
  | acc (id : Nat)
  | xlate (id : Nat)
deriving DecidableEq, Repr

/-- A request of the endpoint that has no answer yet (R357, R358): its first copy, the ticks of the first and the last copy, the resends sent, the resend times passed, and the bad answers received. -/
structure Req where
  tag : Nat
  pkt : Packet
  for_ : ReqFor
  first : Nat
  last : Nat
  resends : Nat := 0
  times : Nat := 0
  bad : Nat := 0
deriving DecidableEq, Repr

/-- A read of a translation-table entry in progress (R47): its own number, the aperture, the page's number in it, and whether an invalidation covered the page meanwhile. -/
structure Xlate where
  id : Nat
  key : Nat
  apt : Nat
  page : Nat
  again : Bool := false
  tagged : Bool := false
deriving DecidableEq, Repr

/-- A window request that has passed its first checks (R54): the window, the sub-table entry it uses, and whether it still waits for that entry. -/
structure WinReq where
  id : Nat
  pkt : Packet
  win : Nat
  key : Option Nat
  waiting : Bool
deriving DecidableEq, Repr

/-- A copy of a pool line in the accelerator's caches (R76, R123). -/
structure Copy where
  excl : Bool
  dirty : Bool
  data : List Byte
deriving DecidableEq, Repr

/-- An ALL_TO_ALL member: the counts, the addresses of its lists, its receive buffer and drop bitmap, its offsets and grants, the records it is to receive, the parts received, the parts still to be sent, whether it has joined the end of the data phase, and the packets of the offsets and grants that have come (R199 to R201). -/
structure A2a where
  counts : List Nat := []
  recv : Nat := 0
  bitmap : Nat := 0
  listsAt : Nat := 0
  offs : List Nat := []
  grants : List Nat := []
  expect : Option Nat := none
  got : List (Nat × Nat) := []
  left : Nat := 0
  joined : Bool := false
  parts : SMap (List Byte) := []
deriving DecidableEq, Repr

/-- A member's part in one step (R187, R352): its command, the herd as the endpoint knows it, the slot, the nodes of the ranks, what has been received, the signals that wait and those applied, the completion that waits, and whether the herd sends an attached region (R234). DESIGN CHOICE, log 109. -/
structure Memb where
  queue : Nat
  index : Nat
  sid : Nat
  herd : Nat
  step : Nat
  sync : Nat
  geo : Herd
  slot : Nat
  nodes : List Nat := []
  src : Nat := 0
  dst : Nat := 0
  region : Bool := false
  idle : Bool := false
  stopped : Bool := false
  moved : Bool := false
  got : SMap Nat := []
  signals : List (Nat × Nat) := []
  applied : List Nat := []
  cpl : Option (List Byte) := none
  a2a : A2a := {}
deriving DecidableEq, Repr

/-- A release of outcome records to come (R360): the target, the tag, the tick of the completion. -/
structure Release where
  kind : Nat
  target : Nat
  tag : Nat
  at_ : Nat
deriving DecidableEq, Repr

/-- The endpoint's own traffic beyond its registers: the queue served last with the commands of its turn (R350), accesses and their order, accelerator accesses, requests and tags, translations, windows, copies of pool lines, access counters, herd members. `flush` and `winInv` hold the accesses that a flush and a window invalidation wait for; `invals` the invalidations to acknowledge, each with the tick of its arrival. -/
structure Traffic where
  nextId : Nat := 1
  turn : Nat := 0
  served : Nat := 0
  accs : List Access := []
  ops : List AccOp := []
  ordPtr : Nat := 0
  niPtr : Nat := 32768
  held : SMap Nat := []
  releases : List Release := []
  atc : SMap Word := []
  xlates : List Xlate := []
  flush : List Nat := []
  invals : List (Packet × Nat × List Nat) := []
  wins : List WinReq := []
  wcache : SMap Word := []
  wfills : List Nat := []
  winInv : List Nat := []
  copies : SMap Copy := []
  discards : SMap (Nat × Nat) := []
  counts : SMap Nat := []
  recorded : List Nat := []
  epochAt : Nat := 0
  membs : List Memb := []
  swaps : List (Nat × Nat × Nat × Nat) := []
deriving DecidableEq, Repr

/-- An invalidation of the host (R58, R59): its descriptor, the members still to acknowledge and those without a route, the tick of its submission, whether its record is discarded (R377), and, once it has completed, the status, MISSING, FIRST_MISSING and LTC of its record. -/
structure Inval where
  serial : Nat
  silent : Bool := false
  tag : Nat
  ptn : Nat
  waits : List Nat
  unreach : List Nat
  at_ : Nat
  done : Option (Nat × Nat × Nat × Nat) := none
deriving DecidableEq, Repr

/-- The CXL ports beyond their registers: host addresses of the decoders, event records with their handles, the event interrupt policy, the timestamp and the tick at which it was set, the TSP configuration, the number of the next invalidation, and the devices seen at the downstream ports (kind, serial number, capacity, whether IDE can be established, width, rate). -/
structure Cxl where
  hpa : SMap Nat := []
  events : SMap Nat := []
  nextHandle : Nat := 1
  policy : Nat := 0
  stamp : Nat := 0
  stampAt : Nat := 0
  config : Nat := 0
  nextInval : Nat := 0
  devices : SMap (List Nat) := []
deriving DecidableEq, Repr

/-- An endpoint's binding set (R422): its context entries and its partition mask. -/
structure EpSet where
  ctxs : SMap Word := []
  mask : Word := 0
deriving DecidableEq, Repr

/-- A binding set not yet acknowledged: the tick at which it was last sent, whether its first copy has gone, and the partitions whose removal issued it (R408, R422). -/
structure Delivery where
  at_ : Nat
  sent : Bool := true
  removals : List Nat := []
deriving DecidableEq, Repr

/-- The configuration image in the SPI NOR (R425): the RWL registers that are not zero, the binding sets, SEQ. -/
structure CfgImage where
  regs : SMap Word := []
  sets : SMap EpSet := []
  seq : Word := 0
deriving DecidableEq, Repr

/-- A signature presented: its role (1 operator), the bytes, the tick of its arrival (R418). -/
structure Sig where
  role : Nat
  bytes : List Byte
  at_ : Nat
deriving DecidableEq, Repr

/-- Dual control beyond its registers: the records staged, the scope, the tick of the seal, the digest and SEQ sealed, the signature buffers of the host and of the BMC, the signatures to verify in order of arrival, the operator key digests fused, the binding sets by node, the deliveries by port, and the image in flash. DESIGN CHOICE, log 9. -/
structure Dct where
  recs : SMap Nat := []
  scope : Nat := 0
  sealedAt : Nat := 0
  digest : List Byte := []
  bufHost : List Byte := []
  bufBmc : List Byte := []
  sigs : List Sig := []
  opKeys : List (List Byte) := []
  sets : SMap EpSet := []
  pend : SMap Delivery := []
  image : Option CfgImage := none
deriving DecidableEq, Repr

/-- Firmware beyond its registers (R431 to R447). Kinds: 1 loader, 2 firmware, 3 security core; slots: 0 A, 1 B. `flash` holds the images of the SPI NOR by kind × 2 + slot; `active` the slot marked ACTIVE, `staged` the slot STAGED, `running` the slot that runs and `trials` the tick from which a trial's 60 s count, all by kind; `fused` the anti-rollback counters. `staging` is who stages (0 the host, 1 the BMC) and the length told; `actAt` the tick at which WAIT_SAFE or RESTARTING was entered; `slips` the watchdog expiries during the trial. `pets` holds the tick of the last pet by core, `expiries` the ticks of each core's expiries. `session` is the ID last given, `major` its interface; `beats` the open heartbeat window: its first tick, its length, whether it holds a beat. DESIGN CHOICE, log 9. -/
structure Fw where
  flash : SMap (List Byte) := []
  active : SMap Nat := []
  staged : SMap Nat := []
  running : SMap Nat := []
  trials : SMap Nat := []
  fused : SMap Nat := []
  staging : Option (Nat × Nat) := none
  actAt : Nat := 0
  slips : Nat := 0
  pets : SMap Nat := []
  expiries : SMap (List Nat) := []
  session : Nat := 0
  major : Nat := 0
  beats : Option (Nat × Nat × Bool) := none
deriving DecidableEq, Repr

/-- The switch beyond its registers. -/
structure SwState where
  core : SwCore := {}
  pool : Pool := {}
  svc : Svc := {}
  hrd : Herds := {}
  invals : List Inval := []
  cxl : Cxl := {}
  dct : Dct := {}
  fw : Fw := {}
deriving DecidableEq, Repr

/-- The endpoint beyond its registers; `secHalted` is whether its security core is halted (R434). -/
structure EpState where
  rly : Relay := {}
  cmds : List Cmd := []
  ddp : List Outcome := []
  reqs : List Req := []
  ag : Traffic := {}
  secHalted : Bool := false
deriving DecidableEq, Repr

/-- The whole block. `out` lists what the parts have sent, oldest first; `free` counts the free values drawn; `pending` is the queue of waiting commands, first in first out. DESIGN CHOICE, log 179. -/
structure State where
  swc : Chip := {}
  epc : Chip := {}
  sw : SwState := {}
  ep : EpState := {}
  out : List Out := []
  free : Nat := 0
  pending : List Instr := []
deriving DecidableEq, Repr

/-- Who raises a fault: no command of this block does. The spec gives every command an effect, and no command acts on an address that the spec says does not exist. Safe. -/
inductive Fault where
  /-- Raised by nothing. Safe: the machine never stops here. -/
  | none
deriving DecidableEq, Repr

/-- The reasons a command has no meaning. -/
inductive Refusal where
  /-- Raised by the arms of `exec` whose command has no meaning yet. Safe: nothing runs. -/
  | notModelled (mnemonic : String)
deriving DecidableEq, Repr

/-- The registers of the switch that reset does not leave at the reset values of their tables: the identification, the fused lifecycle (PRODUCTION), the static address of the side-band port with SB_ADDR 0, and the main rails' flag. DESIGN CHOICE, log 7, 12. -/
def State.resetSwRegs : RegFile :=
  let f : RegFile := RegFile.write [] GLB_ID 0 0 0x00100512
  (f.write SEC_STS 0 0 1).write SBP_STS 0 0 (1 + 0x58 * 2 ^ 9 + 2 ^ 16)

/-- The same registers of the endpoint. DESIGN CHOICE, log 7. -/
def State.resetEpRegs : RegFile :=
  let f : RegFile := RegFile.write [] GLB_ID 0 0 0x00010064
  f.write SEC_STS 0 0 1

/-- The block at cold reset: both rails of both parts up and RST_N low (R487, R519); every register at the reset value of its table, every table, queue and buffer empty. DESIGN CHOICE, log 3, 8, 9. -/
def State.reset : State :=
  { swc := { regs := State.resetSwRegs, standbyUp := true, mainUp := true, rstLow := true, inReset := true, step := 3 },
    epc := { regs := State.resetEpRegs, standbyUp := true, mainUp := true, rstLow := true, inReset := true, step := 1 } }

end Sys2Proof.Machine
end

