-- ==== Sys2Proof/Machine/Ops.lean ====
section
/-! DEFINITION. The named operations over the state that every family shares: registers, local time, free values, what leaves the parts, error records (R470 to R472), causes and interrupts (R498, R499). -/

namespace Sys2Proof.Machine

/-- The half of the state that a part's registers and clocks live in. -/
def State.chip (s : State) : Part → Chip
  | .sw => s.swc
  | .ep => s.epc

/-- The state with a part's half changed. -/
def State.onChip (s : State) (p : Part) (f : Chip → Chip) : State :=
  match p with
  | .sw => { s with swc := f s.swc }
  | .ep => { s with epc := f s.epc }

/-- The state changed when a condition holds. -/
def State.when (s : State) (c : Bool) (f : State → State) : State := if c then f s else s

/-- A part's local tick counter as a number (R9). -/
def State.now (s : State) (p : Part) : Nat := (s.chip p).ltc.toNat

/-- A register's value; `b` is the bank of its selector, `i` its instance. DESIGN CHOICE, log 7. -/
def State.rd (s : State) (p : Part) (r : Reg) (b : Nat := 0) (i : Nat := 0) : Word :=
  (s.chip p).regs.read r b i

/-- Stores a register's value. -/
def State.wr (s : State) (p : Part) (r : Reg) (x : Word) (b : Nat := 0) (i : Nat := 0) : State :=
  s.onChip p fun c => { c with regs := c.regs.write r b i x }

/-- A field's value. -/
def State.get (s : State) (p : Part) (f : Fld) (b : Nat := 0) (i : Nat := 0) : Nat :=
  getBits (s.rd p f.reg b i) f.lo f.w

/-- Stores a field, leaving the register's other bits. -/
def State.put (s : State) (p : Part) (f : Fld) (v : Nat) (b : Nat := 0) (i : Nat := 0) : State :=
  s.wr p f.reg (setBits (s.rd p f.reg b i) f.lo f.w v) b i

/-- Whether a one-bit field is set. -/
def State.flag (s : State) (p : Part) (f : Fld) (b : Nat := 0) (i : Nat := 0) : Bool :=
  s.get p f b i != 0

/-- Adds to a counter that holds at its all-ones value. -/
def State.count (s : State) (p : Part) (f : Fld) (n : Nat := 1) (b : Nat := 0) (i : Nat := 0) : State :=
  s.put p f (min (s.get p f b i + n) (2 ^ f.w - 1)) b i

/-- Adds to a counter that wraps. -/
def State.addWrap (s : State) (p : Part) (f : Fld) (n : Nat := 1) (b : Nat := 0) (i : Nat := 0) : State :=
  s.put p f (s.get p f b i + n) b i

/-- Raises a peak field to a value. -/
def State.peak (s : State) (p : Part) (f : Fld) (n : Nat) (b : Nat := 0) (i : Nat := 0) : State :=
  s.put p f (max (s.get p f b i) n) b i

/-- Records something that leaves a part. DESIGN CHOICE, log 179. -/
def State.emit (s : State) (o : Out) : State := { s with out := s.out ++ [o] }

/-- The next free value. DESIGN CHOICE, log 10. -/
def State.draw (s : State) : Nat := Config.freeNat s.free

/-- The state after a free value has been drawn. DESIGN CHOICE, log 10. -/
def State.drawn (s : State) : State := { s with free := s.free + 1 }

/-- A port's hidden state. -/
def State.port (s : State) (p : Part) (n : Nat) : Port := (lookup (s.chip p).ports n).getD {}

/-- Changes a port's hidden state. -/
def State.onPort (s : State) (p : Part) (n : Nat) (f : Port → Port) : State :=
  s.onChip p fun c => { c with ports := insertAt c.ports n (f ((lookup c.ports n).getD {})) }

/-- Changes the switch's queues and congestion state. -/
def State.onCore (s : State) (f : SwCore → SwCore) : State :=
  { s with sw := { s.sw with core := f s.sw.core } }

/-- Changes the pool. -/
def State.onPool (s : State) (f : Pool → Pool) : State := { s with sw := { s.sw with pool := f s.sw.pool } }

/-- Whether `d` ticks have passed since `t` on a part's counter, under R11 and R13. DESIGN CHOICE, log 5, 180. DEDUCED, log 6. -/
def State.due (s : State) (p : Part) (t d : Nat) : Bool := t + d ≤ s.now p

/-- The page indices of the blocks (R509, R510). -/
def pgGlb : Nat := 0x000
def pgClk : Nat := 0x001
def pgPwr : Nat := 0x002
def pgRst : Nat := 0x003
def pgMgt : Nat := 0x004
def pgEpc : Nat := 0x004
def pgSbp : Nat := 0x005
def pgSec : Nat := 0x006
def pgAtt : Nat := 0x007
def pgDct : Nat := 0x008
def pgPtn : Nat := 0x009
def pgCtx : Nat := 0x00A
def pgErr : Nat := 0x00B
def pgXbr : Nat := 0x010
def pgRly : Nat := 0x010
def pgBuf : Nat := 0x011
def pgBrd : Nat := 0x011
def pgCgt : Nat := 0x012
def pgCmb : Nat := 0x013
def pgRte : Nat := 0x014
def pgHrd : Nat := 0x020
def pgQue : Nat := 0x020
def pgSyn : Nat := 0x021
def pgSvc : Nat := 0x022
def pgDdp : Nat := 0x022
def pgPol : Nat := 0x030
def pgWin : Nat := 0x030
def pgDir : Nat := 0x031
def pgApt : Nat := 0x031
def pgBlk : Nat := 0x032
def pgAcn : Nat := 0x032
def pgHbm : Nat := 0x040
def pgUci : Nat := 0x040
def pgCxu : Nat := 0x050
def pgCxd : Nat := 0x051
def pgQad : Nat := 0x100
def pgFpt : Nat := 0x200
def pgLnk : Nat := 0x280
def pgRdc : Nat := 0x300

/-- The error codes of R472. DESIGN CHOICE, log 32. -/
inductive Err where
  | laneShed | linkRetrain | linkDown | tackFail | cabling | modeMismatch | encMismatch | fecMismatch
  | kexFail | sealAuth | fifoSlip | planeFailover | idFail | sramUe | midFence | hbmUe | hbmStackLost
  | bulkPortFault | bulkWbFail | agentFenced | partitionStop | coreFence | herdAbort | herdFailover
  | e2eCrc | reqMalformed | invalLateAck | secCoreHalt | cfgImageFail | wdtRestart | coreHalt
  | writeRefused | ucieDown | accTimeout | hostLinkDown | ideFail | throttle | strapFault | switchReset
deriving DecidableEq, Repr

/-- The CODE of an error code (R472). -/
def Err.code : Err → Nat
  | .laneShed => 0x0101 | .linkRetrain => 0x0102 | .linkDown => 0x0103 | .tackFail => 0x0104
  | .cabling => 0x0105 | .modeMismatch => 0x0106 | .encMismatch => 0x0107 | .fecMismatch => 0x0108
  | .kexFail => 0x0109 | .sealAuth => 0x010A | .fifoSlip => 0x010B | .planeFailover => 0x0201
  | .idFail => 0x0202 | .sramUe => 0x0301 | .midFence => 0x0302 | .hbmUe => 0x0401
  | .hbmStackLost => 0x0402 | .bulkPortFault => 0x0403 | .bulkWbFail => 0x0404
  | .agentFenced => 0x0501 | .partitionStop => 0x0502 | .coreFence => 0x0601 | .herdAbort => 0x0602
  | .herdFailover => 0x0603 | .e2eCrc => 0x0701 | .reqMalformed => 0x0702 | .invalLateAck => 0x0703
  | .secCoreHalt => 0x0801 | .cfgImageFail => 0x0802 | .wdtRestart => 0x0901 | .coreHalt => 0x0902
  | .writeRefused => 0x0903 | .ucieDown => 0x0A01 | .accTimeout => 0x0A02 | .hostLinkDown => 0x0A03
  | .ideFail => 0x0A04 | .throttle => 0x0B01 | .strapFault => 0x0B02 | .switchReset => 0x0B03

/-- The SEVERITY of an error code (R472): 0 INFO, 1 CORRECTED, 2 RECOVERED, 3 CONTAINED, 4 FATAL. LINK_DOWN and SEC_CORE_HALT take theirs where they are raised. -/
def Err.sev : Err → Nat
  | .laneShed => 1
  | .linkRetrain | .linkDown | .sealAuth | .fifoSlip | .planeFailover | .midFence | .coreFence
  | .herdFailover => 2
  | .tackFail | .reqMalformed | .invalLateAck | .wdtRestart | .writeRefused | .accTimeout | .throttle => 0
  | .switchReset => 4
  | .cabling | .modeMismatch | .encMismatch | .fecMismatch | .kexFail | .idFail | .sramUe | .hbmUe
  | .hbmStackLost | .bulkPortFault | .bulkWbFail | .agentFenced | .partitionStop | .herdAbort
  | .e2eCrc | .secCoreHalt | .cfgImageFail | .coreHalt | .ucieDown | .hostLinkDown | .ideFail
  | .strapFault => 3

/-- Raises a side-band alert for a page: SBP.ALERT holds the oldest (R453). DESIGN CHOICE, log 28. -/
def State.alertSideband (s : State) (page : Nat) : State :=
  if s.flag .sw SBP_ALERT_PENDING then s
  else
    let s := (s.put .sw SBP_ALERT_PAGE page).put .sw SBP_ALERT_PENDING 1
    if s.get .sw SBP_STS_MODE == 2 then
      if s.flag .sw SBP_CFG_IBI_EN then s.emit (.alert true page) else s
    else if s.get .sw SBP_STS_MODE == 1 then s.emit (.alert false page) else s

/-- The unmasked causes of a page. -/
def State.unmasked (s : State) (p : Part) (page : Nat) : Word :=
  s.rd p HDR_INT_CAUSE 0 page &&& ~~~ s.rd p HDR_INT_MASK 0 page

/-- Delivers a page's interrupt as INT_ROUTE says (R499). DEDUCED, log 40. -/
def State.deliver (s : State) (p : Part) (page : Nat) : State :=
  let s := s.when (s.flag p HDR_INT_ROUTE_VEC_EN 0 page) fun s =>
    s.emit (.interrupt p (s.get p HDR_INT_ROUTE_VECTOR 0 page))
  s.when (p == .sw && s.flag p HDR_INT_ROUTE_SB_EN 0 page) fun s => s.alertSideband page

/-- Applies a change of a page's cause or mask and raises the interrupt when the unmasked causes leave zero (R499). -/
def State.withCauses (s : State) (p : Part) (page : Nat) (f : State → State) : State :=
  let t := f s
  t.when (s.unmasked p page == 0 && t.unmasked p page != 0) fun t => t.deliver p page

/-- Sets a cause bit of a page. -/
def State.cause (s : State) (p : Part) (page bit : Nat) : State :=
  s.withCauses p page fun s => s.wr p HDR_INT_CAUSE (setBits (s.rd p HDR_INT_CAUSE 0 page) bit 1 1) 0 page

/-- The header's account of an event: ERR_COUNT, ERR_FIRST and ERR.LATEST (R471, R498, R513). -/
def State.note (s : State) (p : Part) (page code : Nat) : State :=
  let t := s.now p
  let s := s.count p HDR_ERR_COUNT_COUNT 1 0 page
  let s := s.when (!s.flag p HDR_ERR_FIRST_VALID 0 page) fun s =>
    ((s.put p HDR_ERR_FIRST_CODE code 0 page).put p HDR_ERR_FIRST_VALID 1 0 page).put p HDR_ERR_FIRST_TICK t 0 page
  ((s.put p ERR_LATEST_CODE code).put p ERR_LATEST_PAGE page).put p ERR_LATEST_TICK t

/-- The lowest severity present in a log. -/
def lowestSev (l : List ErrRec) : Nat := l.foldl (fun m r => min m r.sev) 4

/-- The log without its oldest record of a severity. -/
def dropOldest (sev : Nat) : List ErrRec → List ErrRec
  | [] => []
  | r :: rs => if r.sev == sev then rs else r :: dropOldest sev rs

/-- Whether a record precedes another: earlier tick, or the same tick and a lower page (R471). -/
def recBefore (a b : ErrRec) : Bool := a.ltc < b.ltc || (a.ltc == b.ltc && a.page ≤ b.page)

/-- Places a record in the log: by tick, and within one tick in ascending page order (R471). -/
def placeRec (r : ErrRec) : List ErrRec → List ErrRec
  | [] => [r]
  | x :: xs => if recBefore x r then x :: placeRec r xs else r :: x :: xs

/-- Writes a record to the log of 256 records, as R471 gives it. -/
def State.logRec (s : State) (p : Part) (r : ErrRec) : State :=
  let l := (s.chip p).log
  let s :=
    if l.length < 256 then s.onChip p fun c => { c with log := placeRec r l }
    else if r.sev < 4 then
      (s.count p ERR_LOG_STS_DROPS).cause p pgErr 3
    else s.onChip p fun c => { c with log := placeRec r (dropOldest (lowestSev l) l) }
  let kept : Bool := decide (l.length < 256) || decide (4 ≤ r.sev)
  if kept && 2 ≤ r.sev then s.cause p pgErr (r.sev - 2) else s

/-- An event of a page: its header, and its record when its severity is CORRECTED or above (R471). DESIGN CHOICE, log 32. -/
def State.event (s : State) (p : Part) (page : Nat) (e : Err) (d0 : Nat := 0) (d1 : Nat := 0)
    (sev : Option Nat := none) (rung : Option Nat := none) (esc : Bool := false)
    (status : Nat := 0) (reason : Nat := 0) : State :=
  let v := sev.getD e.sev
  let r : ErrRec := { code := e.code, sev := v, rung := rung, esc := esc, page := page, status := status,
                      reason := reason, ltc := s.now p, d0 := d0, d1 := d1 }
  let s := s.note p page e.code
  if v == 0 then s else s.logRec p r

/-- A measurement block of a part has changed (R404): `ATT.GEN` and the block's own count. -/
def State.attested (s : State) (p : Part) (block : Nat) : State :=
  (s.count p ATT_BLK_STS_CHANGES 1 (block + 1)).addWrap p ATT_GEN_COUNT

/-- The state of a control core: 0 BOOT, 1 RUNNING, 2 RESTARTING, 3 HALTED. -/
def State.cpuState (s : State) (c : Nat) : Nat := getBits (s.rd .sw MGT_CORE_STS) (2 * c) 2

/-- Whether a control core runs. -/
def State.cpuUp (s : State) (c : Nat) : Bool := s.cpuState c == 1

/-- Whether a control core takes new commands: it runs, and no activation waits for its safe point (R432, R445). DEDUCED, log 112, 176. -/
def State.cpuServes (s : State) (c : Nat) : Bool := s.cpuUp c && s.get .sw MGT_FW_STS_ACT_STATE != 2

/-- Whether a part's security core is halted (R434). DEDUCED, log 174. -/
def State.secHalted (s : State) (p : Part) : Bool :=
  match p with
  | .sw => s.get .sw MGT_CORE_STS_SECURITY == 3
  | .ep => s.ep.secHalted

/-- A part's identity public key (R399). -/
def State.idKey (s : State) (p : Part) : List Byte := Config.mldsaKey (s.chip p).idSeed

/-- A part's signature of a digest under its identity key. -/
def State.sign (s : State) (p : Part) (digest : List Byte) : List Byte := Config.mldsaSign (s.chip p).idSeed digest

/-- A write or command ignored or refused and recorded: code WRITE_REFUSED in ERR_FIRST and ERR_COUNT only (R472, R498). -/
def State.refuse (s : State) (p : Part) (page : Nat) : State := s.note p page Err.writeRefused.code

end Sys2Proof.Machine
end

