-- ==== Sys2Proof/Machine/Operands.lean ====
section
/-! DEFINITION. The operand forms: opcodes and classes (R300), fabric addresses (R38), identities (R14, R22), the packet header (R293 to R298), CRC-32C, CRC-64 and the Reed-Solomon code of the flit (R305, R306), and the packets a part builds. -/

namespace Sys2Proof.Machine

/-! ### Bytes -/

/-- The low `n` bytes of a number, least significant first (R6). -/
def leBytes : Nat → Nat → List Byte
  | 0, _ => []
  | n + 1, v => BitVec.ofNat 8 v :: leBytes n (v / 256)

/-- A little-endian byte string as a number. -/
def leNat : List Byte → Nat
  | [] => 0
  | b :: bs => b.toNat + 256 * leNat bs

/-- `n` bytes from position `k`, zeros where the string ends. -/
def slice (bs : List Byte) (k n : Nat) : List Byte :=
  (bs.drop k).take n ++ List.replicate (n - (bs.length - k)) 0

/-- The little-endian number of `n` bytes at position `k`. -/
def natAt (bs : List Byte) (k n : Nat) : Nat := leNat ((bs.drop k).take n)

/-- A string with the bytes at `k` replaced. -/
def patch (bs : List Byte) (k : Nat) (x : List Byte) : List Byte :=
  bs.take k ++ List.replicate (k - bs.length) 0 ++ x ++ bs.drop (k + x.length)

/-- Cuts a string into pieces of `n` bytes; `fuel` bounds the pieces. -/
def pieces (n : Nat) : Nat → List Byte → List (List Byte)
  | 0, _ => []
  | fuel + 1, bs => if bs.isEmpty then [] else bs.take n :: pieces n fuel (bs.drop n)

/-- The numbers 0 to n - 1. -/
def upTo (n : Nat) : List Nat := List.range n

/-- The number of set bits among the low `n`. -/
def popCount (n m : Nat) : Nat := ((upTo n).filter fun i => m.testBit i).length

/-- Divides rounding up. -/
def ceilDiv (a b : Nat) : Nat := (a + b - 1) / b

/-! ### Checks -/

/-- One bit of a reflected CRC. -/
def crcBit (w poly : Nat) (c : BitVec w) : BitVec w :=
  if c.getLsbD 0 then (c >>> 1) ^^^ BitVec.ofNat w poly else c >>> 1

/-- One byte of a reflected CRC. -/
def crcByte (w poly : Nat) (c : BitVec w) (b : Byte) : BitVec w :=
  let f := crcBit w poly
  f (f (f (f (f (f (f (f (c ^^^ b.setWidth w))))))))

/-- CRC-32C (R298): the reflected form of 0x1EDC_6F41. -/
def crc32c (bs : List Byte) : BitVec 32 :=
  ~~~ bs.foldl (crcByte 32 0x82F63B78) 0xFFFFFFFF

/-- CRC-64 of a flit (R305): the reflected form of 0x42F0_E1EB_A9EA_3693. -/
def crc64 (bs : List Byte) : BitVec 64 :=
  ~~~ bs.foldl (crcByte 64 0xC96C5795D7870F42) 0xFFFFFFFFFFFFFFFF

/-! ### The field GF(2^8) and RS(136,128) (R306) -/

/-- Multiplication by α: x^8 + x^4 + x^3 + x^2 + 1. -/
def gfX (a : Nat) : Nat := if a < 128 then 2 * a else (2 * a - 256) ^^^ 0x1D

/-- Multiplication in GF(2^8), by the bits of the second factor. -/
def gfMulN : Nat → Nat → Nat → Nat
  | 0, _, _ => 0
  | n + 1, a, b => (if b % 2 == 1 then a else 0) ^^^ gfMulN n (gfX a) (b / 2)

/-- Multiplication in GF(2^8). -/
def gfMul (a b : Nat) : Nat := gfMulN 8 a b

/-- Powers in GF(2^8). -/
def gfPow (a : Nat) : Nat → Nat
  | 0 => 1
  | n + 1 => gfMul a (gfPow a n)

/-- The inverse in GF(2^8): a^254. -/
def gfInv (a : Nat) : Nat := gfPow a 254

/-- A polynomial's value by Horner's rule, highest coefficient first. -/
def gfEval (cs : List Nat) (x : Nat) : Nat := cs.foldl (fun acc c => gfMul acc x ^^^ c) 0

/-- The generator polynomial with roots α^0 to α^7, highest coefficient first, leading 1 included. -/
def rsGen : List Nat :=
  (upTo 8).foldl (fun g i =>
    (List.zipWith (· ^^^ ·) (g ++ [0]) (0 :: g.map (gfMul (gfPow 2 i))))) [1]

/-- One step of polynomial division by the generator: eight remainder bytes and the next data byte. -/
def rsStep (rem : List Nat) (d : Nat) : List Nat :=
  let f := d ^^^ rem.headD 0
  List.zipWith (· ^^^ ·) (rem.drop 1 ++ [0]) (rsGen.drop 1 |>.map (gfMul f))

/-- The eight parity bytes of 128 data bytes. PRESUMED, log 50. -/
def rsParity (ds : List Nat) : List Nat := ds.foldl rsStep (List.replicate 8 0)

/-- The eight syndromes of a code word. -/
def rsSyndromes (cw : List Nat) : List Nat := (upTo 8).map fun i => gfEval cw (gfPow 2 i)

/-- One round of the Berlekamp-Massey algorithm: locator, previous locator, length, gap and previous discrepancy, lowest coefficient first. -/
def bmStep (syn : List Nat) (st : List Nat × List Nat × Nat × Nat × Nat) (n : Nat) :
    List Nat × List Nat × Nat × Nat × Nat :=
  let (c, b, l, m, bb) := st
  let d := (upTo (l + 1)).foldl (fun acc i => acc ^^^ gfMul (c.getD i 0) (syn.getD (n - i) 0)) 0
  if d == 0 then (c, b, l, m + 1, bb)
  else
    let k := gfMul d (gfInv bb)
    let sh := List.replicate m 0 ++ b.map (gfMul k)
    let w := max c.length sh.length
    let c' := (upTo w).map fun i => c.getD i 0 ^^^ sh.getD i 0
    if 2 * l ≤ n then (c', c, n + 1 - l, 1, d) else (c', b, l, m + 1, bb)

/-- Decodes one code word of 136 bytes, first byte highest power: the corrected word and the positions corrected, or none when the code cannot correct it (up to four byte errors). PRESUMED, log 50. -/
def rsDecode (cw : List Nat) : Option (List Nat × List Nat) :=
  let syn := rsSyndromes cw
  if syn.all (· == 0) then some (cw, [])
  else
    let (c, _, l, _, _) := (upTo 8).foldl (bmStep syn) ([1], [1], 0, 1, 1)
    if 4 < l then none
    else
      let omega := (upTo 8).map fun k =>
        (upTo (k + 1)).foldl (fun acc i => acc ^^^ gfMul (c.getD i 0) (syn.getD (k - i) 0)) 0
      -- position j from the end has locator α^j
      let errs := (upTo 136).filter fun j => gfEval c.reverse (gfPow 2 ((255 - j) % 255)) == 0
      if errs.length != l then none
      else
        let deriv := (upTo c.length).map fun i => if i % 2 == 0 then c.getD (i + 1) 0 else 0
        let fix := errs.map fun j =>
          let xi := gfPow 2 ((255 - j) % 255)
          (j, gfMul (gfMul (gfPow 2 j) (gfEval omega.reverse xi)) (gfInv (gfEval deriv.reverse xi)))
        let cw' := (upTo 136).map fun k =>
          cw.getD k 0 ^^^ ((fix.find? fun e => e.1 + k == 135).map (·.2)).getD 0
        if (rsSyndromes cw').all (· == 0) then some (cw', errs.map (135 - ·)) else none

/-- The bytes at the even or odd places. -/
def everyOther : Bool → List Byte → List Byte
  | _, [] => []
  | true, b :: bs => b :: everyOther false bs
  | false, _ :: bs => everyOther true bs

/-- The 16 parity bytes of a 256-byte flit: code 0 over the even bytes, code 1 over the odd. PRESUMED, log 50. -/
def flitParity (f : List Byte) : List Byte :=
  let par (b : Bool) := (rsParity ((everyOther b f).map (·.toNat))).map (BitVec.ofNat 8)
  par true ++ par false

/-- The received 272 wire bytes decoded: the corrected 256 bytes and the places (0 to 271) of the bytes corrected, or none. -/
def fecDecode (w : List Byte) : Option (List Byte × List Nat) :=
  let f := slice w 0 256
  let word (b : Bool) (k : Nat) := ((everyOther b f) ++ slice w k 8).map (·.toNat)
  match rsDecode (word true 256), rsDecode (word false 264) with
  | some (c0, e0), some (c1, e1) =>
    let d0 := c0.take 128
    let d1 := c1.take 128
    let place (odd : Nat) (base : Nat) (k : Nat) := if k < 128 then 2 * k + odd else base + (k - 128)
    some ((List.zipWith (fun a b => [BitVec.ofNat 8 a, BitVec.ofNat 8 b]) d0 d1).flatten,
      e0.map (place 0 256) ++ e1.map (place 1 264))
  | _, _ => none

/-! ### Opcodes (R300) -/

def opREAD : Nat := 0x01
def opWRITE : Nat := 0x02
def opREAD_SHARED : Nat := 0x03
def opREAD_OWN : Nat := 0x04
def opUPGRADE : Nat := 0x05
def opWRITEBACK : Nat := 0x06
def opCLEAN_EVICT : Nat := 0x07
def opGATHER : Nat := 0x08
def opSCATTER_ADD : Nat := 0x09
def opCTL_READ : Nat := 0x0A
def opCTL_WRITE : Nat := 0x0B
def opSWAP : Nat := 0x10
def opCAS : Nat := 0x11
def opFETCH_ADD : Nat := 0x12
def opADD : Nat := 0x13
def opFETCH_AND : Nat := 0x14
def opFETCH_OR : Nat := 0x15
def opFETCH_XOR : Nat := 0x16
def opFETCH_MIN_S : Nat := 0x17
def opFETCH_MIN_U : Nat := 0x18
def opFETCH_MAX_S : Nat := 0x19
def opFETCH_MAX_U : Nat := 0x1A
def opFADD_FP32 : Nat := 0x1B
def opFADD_FP64 : Nat := 0x1C
def opFADD_BF16X2 : Nat := 0x1D
def opFADD_FP16X2 : Nat := 0x1E
def opFETCH_FADD : Nat := 0x1F
def opFMIN : Nat := 0x20
def opFMAX : Nat := 0x21
def opCPL : Nat := 0x40
def opCPL_DATA : Nat := 0x41
def opGATHER_ROW : Nat := 0x42
def opSNP_RSP : Nat := 0x43
def opSNP_INV : Nat := 0x48
def opSNP_DATA : Nat := 0x49
def opSYNC_ADD : Nat := 0x50
def opSYNC_SET : Nat := 0x51
def opSYNC_READ : Nat := 0x52
def opSYNC_WAIT : Nat := 0x53
def opHERD_CONTRIB : Nat := 0x60
def opHERD_PARTIAL : Nat := 0x61
def opHERD_RESULT : Nat := 0x62
def opHERD_JOIN : Nat := 0x63
def opHERD_COUNTS : Nat := 0x64
def opHERD_RECORD : Nat := 0x65
def opHERD_SIGNAL : Nat := 0x68
def opHERD_ABORT : Nat := 0x69
def opHERD_SWAP : Nat := 0x6A
def opHERD_CPL : Nat := 0x6B
def opHERD_ACK : Nat := 0x6C
def opINVAL : Nat := 0x70
def opINVAL_ACK : Nat := 0x71
def opCONG_NOTICE : Nat := 0x72
def opDRAIN_PROBE : Nat := 0x73
def opPROBE_ACK : Nat := 0x74
def opPORT_ACTIVE : Nat := 0x75
def opROUTE_DOWN : Nat := 0x76
def opROUTE_UP : Nat := 0x77
def opOUTCOME_RELEASE : Nat := 0x78
def opPREFETCH : Nat := 0x80
def opMIGRATE_HINT : Nat := 0x81
def opMGMT : Nat := 0x90
def opCGT_MAP : Nat := 0x91

/-- The class of an opcode (R300); WRITE may also travel on TC5. -/
def opClass (op : Nat) : Option Nat :=
  if op == 0x0A || op == 0x0B then some 4
  else if 0x01 ≤ op && op ≤ 0x09 then some 0
  else if 0x10 ≤ op && op ≤ 0x21 then some 0
  else if 0x40 ≤ op && op ≤ 0x43 then some 1
  else if op == 0x48 || op == 0x49 then some 2
  else if 0x50 ≤ op && op ≤ 0x53 then some 4
  else if 0x60 ≤ op && op ≤ 0x65 then some 3
  else if 0x68 ≤ op && op ≤ 0x6C then some 4
  else if 0x70 ≤ op && op ≤ 0x78 then some 4
  else if op == 0x80 || op == 0x81 then some 6
  else if op == 0x90 || op == 0x91 then some 7
  else none

/-- Whether a class is one that R300 allows for an opcode. -/
def classOk (op tc : Nat) : Bool := opClass op == some tc || (op == opWRITE && tc == 5)

def isAtomic (op : Nat) : Bool := 0x10 ≤ op && op ≤ 0x21

def isSyncOp (op : Nat) : Bool := 0x50 ≤ op && op ≤ 0x53

def isHerdOp (op : Nat) : Bool := (0x60 ≤ op && op ≤ 0x65) || (0x68 ≤ op && op ≤ 0x6C)

def isAnswer (op : Nat) : Bool := 0x40 ≤ op && op ≤ 0x43

/-- The opcodes that R300 says are answered by a completion. -/
def isRequest (op : Nat) : Bool :=
  (0x01 ≤ op && op ≤ 0x0B) || isAtomic op || isSyncOp op

/-- The opcodes that ask for an answer: those that a completion answers, snoops and invalidations (R295, R300). -/
def isAsked (op : Nat) : Bool := isRequest op || op == opSNP_INV || op == opSNP_DATA || op == opINVAL

/-- Whether an atomic's answer carries the old value (R91, R300). -/
def returnsOld (op : Nat) : Bool :=
  op == opSWAP || op == opCAS || op == opFETCH_ADD || (opFETCH_AND ≤ op && op ≤ opFETCH_MAX_U) || op == opFETCH_FADD

/-- The operand size of an atomic whose payload is `len` bytes, when R91 lists it. -/
def atomicSize (op len : Nat) : Option Nat :=
  let n := if op == opCAS then len / 2 else len
  let even := !(op == opCAS) || len % 2 == 0
  let ok :=
    if op == opCAS then n == 4 || n == 8 || n == 16
    else if op == opFADD_FP32 || op == opFADD_BF16X2 || op == opFADD_FP16X2 then n == 4
    else if op == opFADD_FP64 then n == 8
    else n == 4 || n == 8
  if isAtomic op && even && ok then some n else none

/-- The non-idempotent requests of R357: atomics, VOLATILE writes, SCATTER_ADD, SYNC ADD, SET and SET_CLEAR. -/
def nonIdempotent (k : Packet) : Bool :=
  isAtomic k.op || (k.op == opWRITE && k.vol) || k.op == opSCATTER_ADD || k.op == opSYNC_ADD || k.op == opSYNC_SET

/-! ### Statuses (R473) -/

def stOK : Nat := 0x00
def stNO_MAPPING : Nat := 0x01
def stPERMISSION : Nat := 0x02
def stOWNER_LOST : Nat := 0x03
def stTIMEOUT : Nat := 0x04
def stABORTED : Nat := 0x05
def stINTEGRITY : Nat := 0x06
def stPARTITION_CLOSING : Nat := 0x07
def stRETRY : Nat := 0x08
def stUNSUPPORTED : Nat := 0x09
def stCAPACITY_DROP : Nat := 0x0A
def stUNREACHABLE : Nat := 0x0B
def stHELD : Nat := 0x0C
def stSTALE_CONTEXT : Nat := 0x0D

/-! ### Abort reasons (R475) -/

def rsTIMEOUT : Nat := 1
def rsMEMBER_LOST : Nat := 2
def rsINTEGRITY : Nat := 3
def rsFENCED : Nat := 4
def rsPOWER : Nat := 5
def rsREVOKED : Nat := 6

/-- The order of precedence of R208, first taken first. -/
def reasonRank (r : Nat) : Nat :=
  if r == rsINTEGRITY then 0 else if r == rsREVOKED then 1 else if r == rsPOWER then 2
  else if r == rsFENCED then 3 else if r == rsMEMBER_LOST then 4 else 5

/-- The reason taken of two that arise together (R208). -/
def strongerReason (a b : Nat) : Nat := if reasonRank a ≤ reasonRank b then a else b

/-! ### Identities (R14, R22) -/

/-- A coordinate (z.y.x) on an axis numbered 1 X, 2 Y, 3 Z. -/
def coordOf (axis node : Nat) : Nat :=
  if axis == 1 then bitsOf node 0 5 else if axis == 2 then bitsOf node 5 6 else bitsOf node 11 6

/-- The node ID of coordinates. -/
def nodeOf (z y x : Nat) : Nat := (z % 64) * 2048 + (y % 64) * 32 + x % 32

/-- The axis of a switch ID. -/
def swAxis (sid : Nat) : Nat := bitsOf sid 14 2

/-- The plane of a switch ID. -/
def swPlane (sid : Nat) : Nat := bitsOf sid 13 1

/-- Whether a switch ID names a switch (R23). -/
def swIdValid (sid : Nat) : Bool :=
  swAxis sid != 0 && bitsOf sid 12 1 == 0 && (swAxis sid == 1 || bitsOf sid 11 1 == 0)

/-- The node ID at coordinate `c` of a switch's own axis and its group on the others (R22, R25). -/
def nodeAt (sid c : Nat) : Nat :=
  let g := bitsOf sid 0 12
  if swAxis sid == 1 then nodeOf (bitsOf g 6 6) (bitsOf g 0 6) c
  else if swAxis sid == 2 then nodeOf (bitsOf g 5 6) c (bitsOf g 0 5)
  else nodeOf c (bitsOf g 5 6) (bitsOf g 0 5)

/-- The landing endpoint of a switch for a source node (R31). -/
def landing (sid src : Nat) : Nat := nodeAt sid (coordOf (swAxis sid) src)

/-- The native link of an axis and plane (R17). -/
def linkOf (axis plane : Nat) : Nat := 2 * (axis - 1) + plane

/-- The bucket of R279. -/
def bucket (axis src dst oc : Nat) : Nat :=
  let k := ((axis <<< 40) ||| (src <<< 20) ||| (dst <<< 3) ||| oc) % 2 ^ 64
  let k := (k * 0x9E3779B97F4A7C15) % 2 ^ 64
  let k := k ^^^ (k >>> 29)
  let k := (k * 0xBF58476D1CE4E5B9) % 2 ^ 64
  k >>> 58

/-! ### Fabric addresses (R38) -/

/-- The spaces of R38, with their fields. -/
inductive Place where
  | window (node window off : Nat)
  | pool (sid ptn off : Nat)
  | control (kind id mid off : Nat)
  | reserved
deriving DecidableEq, Repr

/-- A fabric address taken apart (R38). -/
def placeOf (a : Word) : Place :=
  let sp := getBits a 62 2
  if sp == 0 then .window (getBits a 45 17) (getBits a 36 9) (getBits a 0 36)
  else if sp == 1 then .pool (getBits a 46 16) (getBits a 40 6) (getBits a 0 40)
  else if sp == 2 then .control (getBits a 61 1) (getBits a 44 17) (getBits a 24 20) (getBits a 0 24)
  else .reserved

/-- A pool-space address. -/
def poolAddr (sid ptn off : Nat) : Word :=
  BitVec.ofNat 64 (2 ^ 62 + (sid % 2 ^ 16) * 2 ^ 46 + (ptn % 64) * 2 ^ 40 + off % 2 ^ 40)

/-- A target-form address (R296): kind 0 endpoint, 1 switch; the low 44 bits as the opcode says. -/
def targetForm (kind id low : Nat) : Word :=
  BitVec.ofNat 64 (2 ^ 63 + (kind % 2) * 2 ^ 61 + (id % 2 ^ 17) * 2 ^ 44 + low % 2 ^ 44)

/-- Whether an opcode carries a target-form address. -/
def usesTargetForm (op : Nat) : Bool :=
  isSyncOp op || isHerdOp op || (0x70 ≤ op && op ≤ 0x78) || op == opMGMT || op == opCGT_MAP

/-- The switch ID that a packet's ADDRESS names, when its target is a switch (R295). -/
def targetSwitch (k : Packet) : Option Nat :=
  if isAnswer k.op && k.op != opSNP_RSP then none
  else match placeOf k.addr with
    | .pool sid _ _ => some sid
    | .control 1 id _ _ => some (id % 2 ^ 16)
    | _ => none

/-! ### The header (R293) -/

def b2n (b : Bool) : Nat := if b then 1 else 0

/-- The FLAGS field (R294). -/
def flagsOf (k : Packet) : Nat :=
  k.colour % 4 + 4 * b2n k.lane + 8 * b2n k.mark + 16 * b2n k.vol + 32 * b2n k.uncached
    + 64 * b2n k.resend + 128 * b2n k.srcSw

/-- The first 28 header bytes of a packet. -/
def headerBytes (k : Packet) : List Byte :=
  let w0 := k.dst % 2 ^ 17 + (k.src % 2 ^ 17) * 2 ^ 17 + (k.tc % 8) * 2 ^ 34 + (k.op % 256) * 2 ^ 37 + (k.tag % 2 ^ 16) * 2 ^ 45
  let w2 := k.len % 2 ^ 13 + (k.ctx % 1024) * 2 ^ 13 + (k.ptn % 64) * 2 ^ 23 + (k.scope % 4) * 2 ^ 29
    + (flagsOf k) * 2 ^ 31 + (k.status % 256) * 2 ^ 47
  leBytes 8 w0 ++ leBytes 8 k.addr.toNat ++ leBytes 8 w2 ++ leBytes 4 k.aux

/-- The E2E_CRC of a packet (R298): LANE and MARK taken as zero. -/
def e2eCrc (k : Packet) : BitVec 32 :=
  crc32c (headerBytes { k with lane := false, mark := false } ++ k.payload)

/-- The packet with its E2E_CRC, as its source builds it. -/
def sealPkt (k : Packet) : Packet := { k with crc := e2eCrc k }

/-- Whether the consuming part finds the E2E_CRC good. -/
def crcOk (k : Packet) : Bool := k.crc == e2eCrc k

/-- The wire bytes of a packet. -/
def packetBytes (k : Packet) : List Byte := headerBytes k ++ leBytes 4 k.crc.toNat ++ k.payload

/-- A packet read from its wire bytes. -/
def packetOfBytes (bs : List Byte) : Packet :=
  let w0 := natAt bs 0 8
  let w2 := natAt bs 16 8
  let fl := bitsOf w2 31 16
  let len := bitsOf w2 0 13
  { dst := bitsOf w0 0 17, src := bitsOf w0 17 17, tc := bitsOf w0 34 3, op := bitsOf w0 37 8, tag := bitsOf w0 45 16,
    addr := BitVec.ofNat 64 (natAt bs 8 8), len := len, ctx := bitsOf w2 13 10, ptn := bitsOf w2 23 6,
    scope := bitsOf w2 29 2, colour := bitsOf fl 0 2, lane := fl.testBit 2, mark := fl.testBit 3, vol := fl.testBit 4,
    uncached := fl.testBit 5, resend := fl.testBit 6, srcSw := fl.testBit 7, status := bitsOf w2 47 8,
    aux := natAt bs 24 4, crc := BitVec.ofNat 32 (natAt bs 28 4),
    rsv := bitsOf w0 61 3 + 8 * bitsOf w2 55 9 + 4096 * bitsOf fl 8 8,
    payload := bs.drop 32 }

/-- The payload length of a packet: LENGTH, or none for the opcodes that carry no payload (R296). -/
def payloadLen (op len : Nat) : Nat :=
  if op == opREAD || (opREAD_SHARED ≤ op && op ≤ opUPGRADE) || op == opCLEAN_EVICT || op == opCTL_READ
    || op == opCPL || op == opSNP_INV || op == opSNP_DATA || op == opPORT_ACTIVE || op == opROUTE_DOWN || op == opROUTE_UP
  then 0 else len

/-- Whether LENGTH agrees with the opcode (R296, R299). -/
def lenAgrees (op len : Nat) : Bool :=
  if (opREAD_SHARED ≤ op && op ≤ opUPGRADE) || op == opCLEAN_EVICT || op == opWRITEBACK || op == opSNP_INV || op == opSNP_DATA
  then len == 128
  else if op == opSNP_RSP then len == 0 || len == 128
  else if op == opPORT_ACTIVE || op == opROUTE_DOWN || op == opROUTE_UP then len == 0
  else if op == opSYNC_ADD || op == opSYNC_SET || op == opSYNC_WAIT then len == 8
  else if op == opSYNC_READ then len == 0
  else if op == opCTL_READ || op == opCTL_WRITE then len == 4 || len == 8
  else if isAtomic op then (atomicSize op len).isSome
  else if isHerdOp op then 16 ≤ len
  else true

/-- The checks of R299 on a received packet. -/
def headerOk (k : Packet) : Bool :=
  (opClass k.op).isSome && classOk k.op k.tc && decide (k.len ≤ 4096) && lenAgrees k.op k.len && k.rsv == 0

/-- The flits of credit of a packet with `l` bytes of payload (R248). -/
def cellsOf (l : Nat) : Nat := ceilDiv (32 + l) 240

/-- Whether bytes `off` to `off + len - 1` lie in one 4 KiB block (R39). -/
def inBlock (off len : Nat) : Bool := len == 0 || off / 4096 == (off + len - 1) / 4096

/-! ### Target-form fields -/

/-- The herd index of a herd packet's target form (R296). -/
def herdIx (k : Packet) : Nat := getBits k.addr 0 12

/-- The slot of a herd packet's target form. -/
def herdSlot (k : Packet) : Nat := getBits k.addr 12 7

/-- The prefix of a herd packet (R297): signature, step, chunk, packet index, shard. -/
structure HerdPrefix where
  sig : Nat
  step : Nat
  chunk : Nat
  pkt : Nat
  shard : Nat
deriving DecidableEq, Repr

def herdPrefix (k : Packet) : HerdPrefix :=
  ⟨natAt k.payload 0 4, natAt k.payload 4 4, natAt k.payload 8 4, natAt k.payload 12 2, natAt k.payload 14 1⟩

/-- The sixteen bytes of a prefix. -/
def HerdPrefix.bytes (h : HerdPrefix) : List Byte :=
  leBytes 4 h.sig ++ leBytes 4 h.step ++ leBytes 4 h.chunk ++ leBytes 2 h.pkt ++ leBytes 1 h.shard ++ [0]

/-! ### Answers -/

/-- The answer to a request: a completion under its TAG with its ADDRESS, from `src` (a switch ID when `sw`); data makes it CPL_DATA (R296, R300). DST is the request's source, or the landing endpoint of the source switch computed from `src` (R295). -/
def answer (sw : Bool) (src : Nat) (k : Packet) (status : Nat) (data : List Byte := []) (aux : Nat := 0) : Packet :=
  sealPkt { dst := if k.srcSw then landing k.src src else k.src, src := src, tc := 1,
            op := if data.isEmpty then opCPL else opCPL_DATA, tag := k.tag, addr := k.addr, len := data.length,
            ctx := k.ctx, ptn := k.ptn, srcSw := sw, status := status, aux := aux, payload := data }

end Sys2Proof.Machine
end

