-- ==== Sys2Proof/Machine/Fabric.lean ====
section
/-! DEFINITION. The fabric operations that every family shares: port geometry (R17, R19 to R21, R33, R34), girths and credits (R245, R246, R276), the link transmitter (R301 to R307, R317), the switch's queues (R243 to R249, R272) and the endpoint's relay step (R274 to R283). -/

namespace Sys2Proof.Machine

/-! ### Geometry -/

/-- The widths of the endpoint's links in each LINK_MODE (R17, R33), in order of instance. -/
def epWidths (mode : Nat) : List Nat :=
  if mode == 0 then [16, 16, 8, 8, 8, 8]
  else if mode == 1 then [16, 16, 16, 16]
  else if mode == 2 then [8, 8, 8, 8, 8, 8, 8, 8]
  else if mode == 3 then [16, 16, 8, 8, 8, 8]
  else if mode == 4 then [16, 8, 8, 8, 8, 8, 8]
  else if mode == 5 then [8, 8, 8, 8, 4, 4, 4, 4]
  else if mode == 6 then [4, 4, 4, 4, 4, 4, 4, 4]
  else []

/-- The switch's axis: 0 unassigned, 1 X, 2 Y, 3 Z (R19). -/
def State.swAxisNo (s : State) : Nat := s.get .sw RST_STRAPS_ROLE

/-- Whether the x4 layout is in force (R20). -/
def State.x4 (s : State) : Bool := s.flag .sw GLB_LAYOUT_ACTIVE_X4

/-- The switch ID (R22). -/
def State.switchId (s : State) : Nat :=
  s.get .sw RST_STRAPS_ROLE * 2 ^ 14 + s.get .sw RST_STRAPS_PLANE_SEL * 2 ^ 13 + s.get .sw GLB_SWITCH_GROUP_ACTIVE

/-- Whether the endpoint runs in split mode (R33). -/
def State.split (s : State) : Bool := s.get .ep EPC_ID_LINK_MODE != 0

/-- The endpoint's node ID. -/
def State.nodeId (s : State) : Nat := s.get .ep EPC_ID_NODE_ID

/-- The widths of a part's ports in order of instance. -/
def State.widths (s : State) : Part → List Nat
  | .sw =>
    if s.swAxisNo == 0 then []
    else if s.x4 then List.replicate 128 4
    else if s.swAxisNo == 1 then List.replicate 32 16
    else List.replicate 64 8
  | .ep => epWidths (s.get .ep EPC_ID_LINK_MODE)

/-- The width of a port; 0 when the layout does not use it (R21). -/
def State.width (s : State) (p : Part) (n : Nat) : Nat := (s.widths p).getD n 0

/-- The first lane of a port. -/
def State.laneBase (s : State) (p : Part) (n : Nat) : Nat := ((s.widths p).take n).sum

/-- The ports of a part. -/
def State.portList (s : State) (p : Part) : List Nat := upTo (s.widths p).length

/-- The port's mask of all its lanes. -/
def State.allLanes (s : State) (p : Part) (n : Nat) : Nat := 2 ^ s.width p n - 1

/-- The stage of a port (R342). -/
def State.stage (s : State) (p : Part) (n : Nat) : Nat := s.get p FPT_STS_STAGE 0 n

/-- MIN_LANES of a port as its register holds it: its reset value is a quarter of the width (R342). -/
def State.minLanesSet (s : State) (p : Part) (n : Nat) : Nat :=
  let m := s.get p FPT_CFG_MIN_LANES 0 n
  if m == 0 then s.width p n / 4 else m

/-- MIN_LANES in force on a port, as CFG stood when tack-up began (R342). -/
def State.minLanes (s : State) (p : Part) (n : Nat) : Nat :=
  let m := getBits (s.port p n).cfg 4 5
  if m == 0 then s.width p n / 4 else m

/-- The bank of BUF, CGT and like registers for a port, a class and a view. -/
def bankPC (port tc : Nat) (view : Nat := 0) : Nat := 1 + (port * 8 + tc) * 2 + view

/-- The girth of a class at cold reset, for a width (R246). -/
def girthDefault (width tc : Nat) : Nat :=
  ([2048, 2560, 1024, 3584, 256, 2048, 512, 256].getD tc 0) * width / 16

/-- The girth of a port and class (R245, R246). -/
def State.girth (s : State) (port tc : Nat) : Nat :=
  match lookup s.swc.regs (BUF_GIRTH.key (bankPC port tc) 0) with
  | some x => getBits x 0 14
  | none => girthDefault (s.width .sw port) tc

/-- The cells of lane 1 of a class: max(18, ⌊G × share / 16⌋) (R276). -/
def lane1Cells (girth share : Nat) : Nat := max 18 (girth * share / 16)

/-- The fourteen cell counts that a port advertises: TC0 lane 0, TC0 lane 1, … TC5 lane 1, TC6, TC7 (R276, R332). -/
def State.credits (s : State) (p : Part) (n : Nat) : List Nat :=
  let g (tc : Nat) := match p with
    | .sw => s.girth n tc
    | .ep => girthDefault (s.width .ep n) tc
  let share (tc : Nat) := match p with
    | .sw => bitsOf (s.get .sw RTE_LANE1_SHARE) (4 * tc) 4
    | .ep => bitsOf (s.get .ep RLY_LANE1_SHARE) (4 * tc) 4
  ((upTo 6).map fun tc => [g tc - lane1Cells (g tc) (share tc), lane1Cells (g tc) (share tc)]).flatten ++ [g 6, g 7]

/-- The credit counter of a class and lane among the fourteen. -/
def creditIx (tc : Nat) (lane : Bool) : Nat := if tc < 6 then 2 * tc + b2n lane else 6 + tc

/-- A list with an element changed. -/
def bumpAt (l : List Nat) (i : Nat) (f : Nat → Nat) : List Nat :=
  let l := l ++ List.replicate (i + 1 - l.length) 0
  l.set i (f (l.getD i 0))

/-- The lanes of a credit counter on a link: a single count per class where F_LANES is not in force (R333). -/
def State.laneOf (s : State) (p : Part) (n : Nat) (lane : Bool) : Bool :=
  let both := match (s.port p n).capSent, (s.port p n).capGot with
    | some a, some b => a.fLanes && b.fLanes
    | _, _ => true
  lane && both

/-! ### The link transmitter -/

/-- The replay buffer's capacity: 1,024 flits for each quad (R307). DESIGN CHOICE, log 64. -/
def State.replayCap (s : State) (p : Part) (n : Nat) : Nat := 1024 * (s.width p n / 4)

/-- Bytes xored pairwise. -/
def xorBytes (a b : List Byte) : List Byte := List.zipWith (· ^^^ ·) a b

/-- The 256 bytes of a flit (R301, R302, R305). -/
def flitBytes (type seq ack crIx crCells start : Nat) (kp : Bool) (payload : List Byte) : List Byte :=
  let crTc := if crIx < 12 then crIx / 2 else crIx - 6
  let crLane := if crIx < 12 then crIx % 2 else 0
  let h := type % 16 + (seq % 16384) * 2 ^ 4 + (ack % 16384) * 2 ^ 18 + crTc * 2 ^ 32 + crLane * 2 ^ 35
    + (crCells % 4096) * 2 ^ 36 + (start % 2 ^ 15) * 2 ^ 48 + b2n kp * 2 ^ 63
  let body := leBytes 8 h ++ slice payload 0 240
  body ++ leBytes 8 (crc64 body).toNat

/-- The next credit to return: the counter and what has accumulated for it, in turn (R302). -/
def nextCredit (pt : Port) : Nat × Nat :=
  let order := (upTo 14).map fun k => (pt.crNext + k) % 14
  match order.find? fun i => pt.owed.getD i 0 != 0 with
  | some i => (i, min (pt.owed.getD i 0) 4095)
  | none => (pt.crNext, 0)

/-- Whether a link sends no flits now: from its SHED or SHED_ACK to its SHED_GO (R337), and in a retrain (R335). Flits that take a SEQ meanwhile wait in the replay buffer. DEDUCED, log 182. -/
def State.mute (s : State) (p : Part) (n : Nat) : Bool :=
  s.flag p FPT_STS_RETRAINING 0 n || match (s.port p n).shed with
    | some sh => !sh.gone
    | none => false

/-- One step of the scrambler with polynomial x^58 + x^39 + 1 (R324). -/
def scramStep (x : Nat) : Nat := (2 * x + (x / 2 ^ 57 % 2 + x / 2 ^ 38 % 2) % 2) % 2 ^ 58

/-- The scrambler after `k` bits. -/
def scramRun : Nat → Nat → Nat
  | 0, x => x
  | k + 1, x => scramRun k (scramStep x)

/-- The scramblers of a link seeded with each active lane's position among the active lanes (R324). -/
def State.seedLanes (s : State) (p : Part) (n : Nat) : State :=
  let ls := (upTo (s.width p n)).filter fun i => (s.get p FPT_STS_LANES 0 n).testBit i
  s.onPort p n fun pt => { pt with scr := (ls.zip (upTo ls.length)) }

/-- Emits a flit on the wire with its parity; each active lane's scrambler goes on by the bits that the lane carries (R301, R324). DEDUCED, log 51, 182. DESIGN CHOICE, log 187. -/
def State.wire (s : State) (p : Part) (n : Nat) (f : List Byte) : State :=
  s.when (!s.mute p n) fun s =>
    let s := s.emit (.flit p n (f ++ flitParity f))
    s.onPort p n fun pt =>
      { pt with scr := (pt.scr.zip (upTo pt.scr.length)).map fun e =>
          (e.1.1, scramRun (8 * ((272 + pt.scr.length - 1 - e.2) / pt.scr.length)) e.1.2) }

/-- Whether an AES-GCM key is installed for sending. -/
def Port.sealing (pt : Port) : Bool := pt.encrypted && !pt.keys.tx.isEmpty

/-- Sends one flit: a SEQ, the latest ACK and a credit; encrypted into the open group on a sealed link; kept for replay (R302, R307, R317). Types: 0 IDLE, 1 DATA, 2 SEAL, 4 CTRL, 5 KEX. -/
def State.sendFlit (s : State) (p : Part) (n type start : Nat) (payload : List Byte) : State :=
  let pt := s.port p n
  let cr := nextCredit pt
  let enc := pt.sealing && type != 2
  let k := pt.keys
  let first := if k.groupCount == 0 then k.txCtr else k.groupFirst
  let iv := k.txSalt ++ leBytes 8 first
  let pl := slice payload 0 240
  let body := if enc then
      xorBytes pl ((Config.gcmStream k.tx iv (240 * (k.groupCount + 1))).drop (240 * k.groupCount)) else pl
  let f := flitBytes type pt.seq (pt.base + 16383) cr.1 cr.2 start (s.flag p LNK_STS_KP_TX 0 n && pt.sealing) body
  let k' := if !pt.sealing then k
    else if enc then
      { k with txCtr := k.txCtr + 1, groupFirst := first, groupCount := k.groupCount + 1,
               groupAad := k.groupAad ++ f.take 8, groupCt := k.groupCt ++ body,
               groupHasData := k.groupHasData || type == 1 }
    else { k with txCtr := k.txCtr + 1, groupCount := 0, groupAad := [], groupCt := [], groupHasData := false }
  let s := s.onPort p n fun pt =>
    { pt with seq := (pt.seq + 1) % 16384, replay := pt.replay ++ [⟨pt.seq, f⟩],
              ackAt := if pt.replay.isEmpty then s.now p else pt.ackAt,
              owed := bumpAt pt.owed cr.1 (· - cr.2), crNext := (cr.1 + 1) % 14, keys := k' }
  let s := s.put p LNK_STS_REPLAY_FILL (s.port p n).replay.length 0 n
  let s := s.when pt.sealing fun s => s.put p LNK_TX_CTR_COUNT k'.txCtr 0 n
  s.wire p n f

/-- Closes the open group with a SEAL flit: tag, first counter, count (R317). -/
def State.closeGroup (s : State) (p : Part) (n : Nat) : State :=
  let k := (s.port p n).keys
  if k.groupCount == 0 then s
  else
    let iv := k.txSalt ++ leBytes 8 k.groupFirst
    let tag := slice (Config.gcmTag k.tx iv k.groupAad k.groupCt) 0 16
    s.sendFlit p n 2 0 (tag ++ leBytes 8 k.groupFirst ++ leBytes 1 k.groupCount)

/-- Sends a flit and closes the group after its 64th (R317). -/
def State.sendGrouped (s : State) (p : Part) (n type start : Nat) (payload : List Byte) : State :=
  let s := s.sendFlit p n type start payload
  if (s.port p n).keys.groupCount == 64 then s.closeGroup p n else s

/-- Sends an unnumbered NAK naming the last accepted SEQ, under the sender's key phase (R302, R303, R309). DEDUCED, log 51. -/
def State.sendNak (s : State) (p : Part) (n : Nat) : State :=
  let pt := s.port p n
  let f := flitBytes 3 0 (pt.base + 16383) 0 0 0 (s.flag p LNK_STS_KP_TX 0 n && pt.sealing) []
  (s.count p LNK_RETRY_NAK_SENT 1 0 n).wire p n f

/-- Whether a flit that takes a SEQ may be sent: the replay buffer has room for it, and for the SEAL of its group, and the key's counter stays below 2^40 (R307, R321). -/
def State.flitRoom (s : State) (p : Part) (n : Nat) : Bool :=
  let pt := s.port p n
  let k := if pt.sealing then 2 else 1
  decide (pt.replay.length + k ≤ s.replayCap p n) && (!pt.sealing || decide (pt.keys.txCtr + k ≤ 2 ^ 40))

/-- Sends a CTRL or KEX flit, or lets it wait for room behind those that wait (R307). -/
def State.sendControl (s : State) (p : Part) (n type : Nat) (payload : List Byte) : State :=
  if (s.port p n).ctl.isEmpty && s.flitRoom p n then s.sendGrouped p n type 0 payload
  else s.onPort p n fun pt => { pt with ctl := pt.ctl ++ [(type, payload)] }

/-- Sends the control flits that wait, while there is room; the number bounds them. -/
def State.flushCtl : Nat → Part → Nat → State → State
  | 0, _, _, s => s
  | fuel + 1, p, n, s =>
    match (s.port p n).ctl with
    | [] => s
    | x :: rest =>
      if s.flitRoom p n then
        State.flushCtl fuel p n ((s.onPort p n fun pt => { pt with ctl := rest }).sendGrouped p n x.1 0 x.2)
      else s

/-- The payloads of the flits of one packet: fifteen slots each, the header in slot 0 of the first (R304). -/
def flitPayloads (k : Packet) : List (List Byte) :=
  let bs := packetBytes k
  pieces 240 (bs.length / 240 + 1) bs

/-- The rank of a class in the order of service (R242). DESIGN CHOICE, log 56. -/
def classRank (tc : Nat) : Nat :=
  if tc == 4 then 0 else if tc == 2 then 1 else if tc == 1 then 2
  else if tc == 3 || tc == 0 || tc == 5 then 3 else if tc == 7 then 4 else 5

/-- Whether the link layer carries packets: CLEAR, SEALED or REKEY (R322), no retrain and no shed in progress. -/
def State.carries (s : State) (p : Part) (n : Nat) : Bool :=
  let st := s.get p LNK_STS_STATE 0 n
  (st == 2 || st == 3 || st == 4) && s.stage p n == 5 && !s.flag p FPT_STS_RETRAINING 0 n && !s.flag p FPT_STS_SHEDDING 0 n

/-- The packet of an endpoint's link that leaves next: the first of the best rank whose class and lane have credit, none of its class and lane before it. DESIGN CHOICE, log 56. -/
def State.nextToSend (s : State) (p : Part) (n : Nat) : Option (Option Nat × Packet) :=
  let pt := s.port p n
  let ready (k : Packet) : Bool :=
    decide (cellsOf k.payload.length ≤ pt.credit.getD (creditIx k.tc (s.laneOf p n k.lane)) 0)
  let heads := pt.txq.filter fun x =>
    ready x.2 && ((pt.txq.find? fun j => j.2.tc == x.2.tc && j.2.lane == x.2.lane).elim true (· == x))
  heads.foldl (fun b x => match b with
    | none => some x
    | some j => if classRank x.2.tc < classRank j.2.tc then some x else some j) none

/-- Whether a link has DATA to send now (R317): a flit of the packet in progress, or a packet that may start. -/
def State.dataReady (s : State) (p : Part) (n : Nat) : Bool :=
  let pt := s.port p n
  if !pt.cur.isEmpty then pt.ready != 0
  else match p with
    | .ep => (s.nextToSend .ep n).isSome
    | .sw => s.sw.core.queue.any fun q => q.egress == .fabric n && !q.begun && min 2 q.cells ≤ q.rel

/-- Loads a packet into a link's transmitter: `ready` of its flits may go at once (R249, R304). -/
def State.loadPacket (s : State) (p : Part) (n : Nat) (k : Packet) (ready : Nat) : State :=
  s.onPort p n fun pt => { pt with cur := flitPayloads k, ready := ready, head := true }

/-- Sends the flits of the packet in progress that are ready, while there is room; the number bounds them. -/
def State.feed : Nat → Part → Nat → State → State
  | 0, _, _, s => s
  | fuel + 1, p, n, s =>
    let pt := s.port p n
    match pt.cur with
    | [] => s
    | x :: rest =>
      if pt.ready == 0 || !s.flitRoom p n || !s.carries p n then s
      else
        let s := s.onPort p n fun pt => { pt with cur := rest, ready := pt.ready - 1, head := false }
        State.feed fuel p n (s.sendGrouped p n 1 (b2n pt.head) x)

/-- Sends what waits for a link while the replay buffer and the credit have room: the packet in progress, then at an endpoint the packets behind it; `fuel` bounds the packets. -/
def State.pump : Nat → Part → Nat → State → State
  | 0, _, _, s => s
  | fuel + 1, p, n, s =>
    let s := s.feed ((s.port p n).cur.length) p n
    if !s.carries p n || !(s.port p n).cur.isEmpty || p == .sw then s
    else match s.nextToSend p n with
      | none => s
      | some x =>
        let k := x.2
        let c := cellsOf k.payload.length
        let s := s.onPort p n fun pt =>
          { pt with txq := pt.txq.erase x, credit := bumpAt pt.credit (creditIx k.tc (s.laneOf p n k.lane)) (· - c) }
        State.pump fuel p n (s.loadPacket p n k (flitPayloads k).length)

/-- Sends all that a link may send: the control flits that wait, then the packets. -/
def State.pumpAll (s : State) (p : Part) (n : Nat) : State :=
  (s.flushCtl ((s.port p n).ctl.length) p n).pump ((s.port p n).txq.length + 1) p n

/-- Hands a packet of the endpoint to a link's transmitter, with the link it came in on. -/
def State.transmit (s : State) (n : Nat) (k : Packet) (arrived : Option Nat := none) : State :=
  let s := s.emit (.packet .ep n k)
  let s := s.onPort .ep n fun pt => { pt with txq := pt.txq ++ [(arrived, k)] }
  s.pumpAll .ep n

/-- Takes the packets that wait for a link and pass a test out of its transmitter. -/
def State.pullTx (s : State) (n : Nat) (f : Packet → Bool) : State :=
  s.onPort .ep n fun pt => { pt with txq := pt.txq.filter fun x => !f x.2 }

/-- Owes a link partner the credit of a packet that has left its buffer (R248). -/
def State.owe (s : State) (p : Part) (n : Nat) (k : Packet) : State :=
  s.onPort p n fun pt =>
    { pt with owed := bumpAt pt.owed (creditIx k.tc (s.laneOf p n k.lane)) (· + cellsOf k.payload.length) }

/-- Sends a link-control message in a CTRL flit (R303). DESIGN CHOICE, log 52. -/
def State.sendCtrl (s : State) (p : Part) (n kind value : Nat) : State :=
  (s.sendControl p n 4 (Config.ctrlBytes kind value)).emit (.ctrl p n kind value)

/-! ### The switch's queues -/

/-- The state of a switch port: 0 DOWN, 1 QUARANTINED, 2 ACTIVE (R284). -/
def State.portState (s : State) (n : Nat) : Nat := s.get .sw RTE_PORT_STS_STATE (n + 1)

/-- The egress port for a destination node (R272). -/
def State.egressOf (s : State) (dst : Nat) : Option Nat :=
  let c := coordOf s.swAxisNo dst
  if s.x4 then
    if s.flag .sw RTE_ROUTE_VALID (c + 1) then some (s.get .sw RTE_ROUTE_PORT (c + 1)) else none
  else some c

/-- The internal port of a packet for this switch (R241). -/
def sinkOf (k : Packet) (core : Nat) : Nat :=
  if isSyncOp k.op then 64 + getBits k.addr 0 14 % 64
  else if k.op == opHERD_CONTRIB || k.op == opHERD_PARTIAL || k.op == opHERD_JOIN then 64 + core % 64
  else match placeOf k.addr with
    | .pool _ ptn off => 64 + (bitsOf off 7 6 ^^^ ptn)
    | _ => 64

/-- Whether a HERD_ABORT is the report of a discarded packet (R534): its chunk index is 2. PRESUMED, log 88. -/
def discardReport (k : Packet) : Bool := k.op == opHERD_ABORT && (herdPrefix k).chunk == 2

/-- Whether it is the report that a relay sends back to a switch over the link the packet came in on: its source is its own landing endpoint (R534). -/
def relayReport (k : Packet) : Bool := discardReport k && !k.srcSw && k.dst == k.src

/-- Whether a herd packet whose address names a switch is for the endpoint that DST names: it comes from that very switch, or it is an ALL_TO_ALL record, or the report of a discarded packet to an endpoint (R178, R200, R534). -/
def herdForEndpoint (k : Packet) : Bool :=
  isHerdOp k.op && ((discardReport k && !relayReport k) || (if k.srcSw then targetSwitch k == some k.src else k.op == opHERD_RECORD))

/-- Whether a packet is for this switch: its address names it and it is not on its way to an endpoint (R200, R272), or it is a relay's report to it (R534). -/
def State.forSwitch (s : State) (k : Packet) : Bool :=
  relayReport k || (!herdForEndpoint k && match placeOf k.addr with
    | .pool sid _ _ => sid == s.switchId
    | .control 1 id _ _ => id == s.switchId
    | _ => false)

/-- Whether a packet is still in its queue: its last cell has not crossed stage one (R243). -/
def QEntry.waiting (q : QEntry) : Bool := q.sent < q.cells

/-- The cells held for an egress and a class in every ingress queue: the backlog B (R255). -/
def State.backlog (s : State) (e : Egress) (tc : Nat) : Nat :=
  ((s.sw.core.queue.filter fun q => q.waiting && q.origin.isSome && q.egress == e && q.pkt.tc == tc).map (·.cells)).sum

/-- The cells a class holds in a port's ingress queues (R245). -/
def State.ingressCells (s : State) (port tc : Nat) : Nat :=
  ((s.sw.core.queue.filter fun q => q.waiting && q.origin == some port && q.pkt.tc == tc).map (·.cells)).sum

/-- The internal port at which a packet of the switch enters the crossbar: that of the slice whose line it names; 64 where the spec names no slice or core (R241). DESIGN CHOICE, log 188. -/
def State.sourcePort (s : State) (k : Packet) : Nat :=
  match placeOf k.addr with
  | .pool sid ptn off => if sid == s.switchId then 64 + (bitsOf off 7 6 ^^^ ptn) else 64
  | _ => 64

/-- Places a packet in a virtual output queue; `inner` is the internal port of one that the switch originates. DESIGN CHOICE, log 64. -/
def State.enqueue (s : State) (origin : Option Nat) (e : Egress) (k : Packet) (group : Option Nat := none)
    (waits : Bool := false) (inner : Nat := 64) : State :=
  let c := cellsOf k.payload.length
  let s := s.onCore fun q =>
    { q with queue := q.queue ++ [{ id := q.nextId, origin := origin, egress := e, pkt := k, cells := c, reserved := false,
                                    at_ := s.swc.ltc.toNat, group := group, waitsJoin := waits, inner := inner }],
             nextId := q.nextId + 1 }
  let s := match origin with
    | some n => s.peak .sw BUF_OCC_PEAK (s.ingressCells n k.tc) (bankPC n k.tc 0)
    | none => s
  match e with
  | .fabric n => s.peak .sw BUF_OCC_PEAK (s.backlog e k.tc) (bankPC n k.tc 1)
  | .inner _ => s

/-- Gives back the credit that a packet reserved at a fabric egress and has not used (R248). -/
def State.unreserve (s : State) (q : QEntry) : State :=
  match q.egress with
  | .fabric n => s.when (q.reserved && !q.begun) fun s => s.onPort .sw n fun pt =>
      { pt with credit := bumpAt pt.credit (creditIx q.pkt.tc (s.laneOf .sw n q.pkt.lane)) (· + q.cells) }
  | .inner _ => s

/-- Discards the queued packets that a test picks, with their cells in the crossbar; the credit of each that was still in an ingress queue is returned, and so is what it had reserved (R248, R253, R286). -/
def State.dropQueued (s : State) (f : QEntry → Bool) : State :=
  let l := s.sw.core.queue.filter f
  let s := l.foldl (fun s q =>
    let s := s.unreserve q
    match q.origin with
    | some m => s.when q.waiting fun s => s.owe .sw m q.pkt
    | none => s) s
  let gone (x : XCell) : Bool := l.any fun q => q.id == x.id
  let sift (m : SMap (List XCell)) : SMap (List XCell) :=
    (m.map fun e => (e.1, e.2.filter fun x => !gone x)).filter fun e => !e.2.isEmpty
  s.onCore fun c => { c with queue := c.queue.filter fun q => !f q, mids := sift c.mids, reseq := sift c.reseq }

/-- The node ID of the partner of a switch port. -/
def State.partnerOf (s : State) (n : Nat) : Nat := s.get .sw RTE_PORT_STS_PARTNER (n + 1)

/-- Whether a switch port takes a packet that leaves by it: every one while ACTIVE, one of TC7 of the switch's own for the partner while QUARANTINED (R273, R284). -/
def State.portTakes (s : State) (n : Nat) (own : Bool) (k : Packet) : Bool :=
  s.portState n == 2 || (s.portState n == 1 && own && k.tc == 7 && k.dst == s.partnerOf n)

/-- Sends a packet that the switch originates: through the port of the destination's coordinate on its own axis, discarded when that port does not take it (R31, R272, R284, R295). -/
def State.swSend (s : State) (k : Packet) (inner : Nat := s.sourcePort k) (group : Option Nat := none) : State :=
  match s.egressOf k.dst with
  | none => s.count .sw RTE_DISC_NO_ROUTE
  | some n =>
    if s.portTakes n true k then s.enqueue none (.fabric n) k group false inner
    else s.count .sw RTE_DISC_NO_ROUTE

/-- Sends the copies of one multicast packet of the switch (R259). -/
def State.swMulticast (s : State) (ks : List Packet) : State :=
  let g := s.sw.core.nextId
  ks.foldl (fun s k => s.swSend k (s.sourcePort k) (some g)) s

/-- The switch answers a request, from the internal port that took it; a request whose source is a switch gets nothing (R241, R295). -/
def State.swAnswer (s : State) (k : Packet) (status : Nat) (data : List Byte := []) (aux : Nat := 0) : State :=
  if k.srcSw then s else s.swSend (answer true s.switchId k status data aux) (sinkOf k 0)

/-! ### The endpoint's relay step -/

/-- Whether a link carries packets of a class: tacked up and opened by PORT_ACTIVE, or TC7 (R285, R331). -/
def State.linkUsable (s : State) (n tc : Nat) : Bool :=
  let up := s.stage .ep n == 5 && s.get .ep LNK_STS_STATE 0 n != 1 && s.get .ep LNK_STS_STATE 0 n != 0
  up && (tc == 7 || s.ep.rly.opened.testBit n)

/-- The plane map of an axis (R280). -/
def State.planeMap (s : State) (axis : Nat) : Word :=
  if axis == 1 then s.rd .ep RLY_PMAP_X else if axis == 2 then s.rd .ep RLY_PMAP_Y else s.rd .ep RLY_PMAP_Z

/-- The bank of RLY.DOWN_MAP for an axis and plane. -/
def downBank (axis plane : Nat) : Nat := axis * 2 + plane

/-- Whether a coordinate is marked down on an axis and plane (R286). -/
def State.markedDown (s : State) (axis plane c : Nat) : Bool :=
  (s.rd .ep RLY_DOWN_MAP (downBank axis plane)).getLsbD c

/-- The effective plane of a bucket for a destination coordinate (R280). -/
def State.effPlane (s : State) (axis b c tc : Nat) : Option Nat :=
  let m := b2n ((s.planeMap axis).getLsbD b)
  let ok (pl : Nat) : Bool := s.linkUsable (linkOf axis pl) tc && !s.markedDown axis pl c
  if ok m then some m else if ok (1 - m) then some (1 - m) else none

/-- The next hop of a packet at the endpoint (R274): delivered here, a link with the bucket that chose it, or no route. -/
inductive Hop where
  | here
  | link (n : Nat) (axis : Nat) (bucket : Option Nat) (coord : Nat)
  | none
deriving DecidableEq, Repr

/-- The link toward a switch: its axis and its plane (R31). -/
def State.switchLink (s : State) (sid tc : Nat) : Hop :=
  let n := linkOf (swAxis sid) (swPlane sid)
  if s.linkUsable n tc then .link n (swAxis sid) Option.none 0 else .none

/-- The first valid entry of the split relay table that matches (R366): its link and TURN. -/
def State.splitEntry (s : State) (dst : Nat) : Option (Nat × Bool) :=
  let hit (e : Nat) : Bool :=
    let m := s.get .ep RLY_SPLIT_ENTRY_MASK (e + 1)
    s.flag .ep RLY_SPLIT_ENTRY_VALID (e + 1) && (dst &&& m) == (s.get .ep RLY_SPLIT_ENTRY_MATCH (e + 1) &&& m)
  ((upTo 64).find? hit).map fun e => (s.get .ep RLY_SPLIT_ENTRY_LINK (e + 1), s.flag .ep RLY_SPLIT_ENTRY_TURN (e + 1))

/-- The first axis on which this endpoint's coordinate differs from a packet's destination, the bucket and the coordinate there (R28, R274, R279). -/
def State.hopKey (s : State) (k : Packet) : Nat × Nat × Nat :=
  let me := s.nodeId
  let axis := if coordOf 1 me != coordOf 1 k.dst then 1 else if coordOf 2 me != coordOf 2 k.dst then 2 else 3
  (axis, bucket axis k.src k.dst k.tc, coordOf axis k.dst)

/-- The link of that axis, on the effective plane of the bucket (R274, R280). -/
def State.towards (s : State) (k : Packet) : Hop :=
  let h := s.hopKey k
  match s.effPlane h.1 h.2.1 h.2.2 k.tc with
  | some pl => .link (linkOf h.1 pl) h.1 (some h.2.1) h.2.2
  | none => .none

/-- The switch that the address of a packet names. -/
def addrSwitch (k : Packet) : Option Nat :=
  match placeOf k.addr with
  | .pool sid _ _ => some sid
  | .control 1 id _ _ => some (id % 2 ^ 16)
  | _ => none

/-- The switch to which a packet goes on from its DST endpoint, if it does. A completion that an endpoint sends is for the switch its address names when this endpoint has no request outstanding under its TAG and ADDRESS (R295). -/
def State.beyond (s : State) (k : Packet) : Option Nat :=
  if herdForEndpoint k then none
  else if k.op == opCPL && !k.srcSw && k.status == stUNREACHABLE then
    if s.ep.reqs.any fun r => r.tag == k.tag && r.pkt.addr == k.addr then none else addrSwitch k
  else targetSwitch k

/-- Chooses the next hop and plane in native mode (R274, R280). -/
def State.nativeHop (s : State) (k : Packet) : Hop :=
  match s.beyond k with
  | some sid =>
    if !swIdValid sid then .none
    else if k.dst == s.nodeId then s.switchLink sid k.tc
    else s.towards k
  | none => if k.dst == s.nodeId then .here else s.towards k

/-- The flip that holds a packet of an axis and bucket, unless its coordinate is marked down (R281, R286). DEDUCED, log 65. -/
def State.heldBy (s : State) (axis b c : Nat) : Bool :=
  s.ep.rly.flips.any fun f => f.axis == axis && f.buckets.testBit b && (f.coord.elim true (· == c))
    && !(s.markedDown axis 0 c || s.markedDown axis 1 c)

/-- Changes the relay's hidden state. -/
def State.onRly (s : State) (f : Relay → Relay) : State := { s with ep := { s.ep with rly := f s.ep.rly } }

/-- Holds the packets of flipped buckets that wait for a link (R281): "at the tick of the change, it stops sending". -/
def State.holdTx (s : State) (n : Nat) : State :=
  let held (k : Packet) : Bool := k.dst != s.nodeId && s.heldBy (s.hopKey k).1 (s.hopKey k).2.1 (s.hopKey k).2.2
  let go := (s.port .ep n).txq.filter fun x => held x.2
  (s.onRly fun r => { r with heldPk := r.heldPk ++ go.map fun x => ((s.hopKey x.2).1, (s.hopKey x.2).2.1, x.1, false, x.2) }).pullTx n held

/-- The herd-discard report of R534: a HERD_ABORT with reason MEMBER_LOST, the step, and the herd of the discarded packet, marked as a report. PRESUMED, log 88. -/
def herdDiscardReport (sw : Bool) (src dst : Nat) (k : Packet) : Option Packet :=
  if isHerdOp k.op && k.op != opHERD_ABORT && k.op != opHERD_ACK && k.op != opHERD_SIGNAL && k.op != opHERD_CPL then
    let h := herdPrefix k
    let pre : HerdPrefix := { h with chunk := 2, pkt := rsMEMBER_LOST }
    some (sealPkt { dst := dst, src := src, tc := 4, op := opHERD_ABORT, tag := k.tag, addr := k.addr, len := 16,
                    ctx := k.ctx, ptn := k.ptn, srcSw := sw, payload := pre.bytes })
  else none

/-- Sends a packet from the endpoint onto the link chosen by R274, or holds it; `arrived` is the link it came in on, none for the endpoint's own; `first` says that it has not been on its way out before, so that it counts as relayed and its lane is set now (R275); `fuel` bounds the answers that a discard sends. -/
def State.epRoute : Nat → Option Nat → Bool → Packet → State → State
  | 0, _, _, _, s => s
  | fuel + 1, arrived, first, k, s =>
    let relays (s : State) : State := s.when (first && arrived.isSome) fun s => s.addWrap .ep RLY_RELAYED_COUNT
    let noRoute (s : State) : State :=
      let s := s.count .ep RLY_DISC_NO_ROUTE
      if isAsked k.op then
        if k.srcSw then
          -- back over the switch's landing endpoint, from this endpoint's own coordinate (R295)
          let a := answer false s.nodeId k stUNREACHABLE
          if a.dst == s.nodeId then match s.switchLink k.src 1 with
            | .link n _ _ _ => s.transmit n a
            | _ => s
          else State.epRoute fuel none true a s
        else State.epRoute fuel none true (answer false s.nodeId k stUNREACHABLE) s
      else if k.srcSw then match herdDiscardReport false s.nodeId s.nodeId k, arrived with
        | some r, some n => s.transmit n r
        | _, _ => s
      else match herdDiscardReport false s.nodeId k.src k with
        | some r => State.epRoute fuel none true r s
        | none => s
    let onto (n axis : Nat) (s : State) : State :=
      let lower := match arrived with
        | some a => first && axis < a / 2 + 1
        | none => false
      if lower && k.lane then s.count .ep RLY_DISC_LANE_TURN
      else (relays s).transmit n (if lower then { k with lane := true } else k) arrived
    if s.split then
      if k.dst == s.nodeId && (s.beyond k).isNone then s.emit (.received .ep 255 k)
      else if (s.beyond k).any fun sid => !swIdValid sid then noRoute s
      else match s.splitEntry k.dst with
        | none => noRoute s
        | some (n, turn) =>
          if first && turn && k.lane then s.count .ep RLY_DISC_LANE_TURN
          else if !s.linkUsable n k.tc then noRoute s
          else (relays s).transmit n { k with lane := k.lane || (first && turn) } arrived
    else match s.nativeHop k with
      | .here => s.emit (.received .ep 255 k)
      | .none => noRoute s
      | .link n axis b c =>
        match b with
        | some b =>
          if s.heldBy axis b c then
            s.onRly fun r => { r with heldPk := r.heldPk ++ [(axis, b, arrived, first, k)] }
          else onto n axis s
        | none => onto n axis s

/-- Sends a packet of the endpoint's own, or one that has just arrived on a link, on its way; the credit of the buffer that it leaves goes back (R248). -/
def State.epForward (fuel : Nat) (arrived : Option Nat) (k : Packet) (s : State) : State :=
  State.epRoute fuel arrived true k (match arrived with
    | some n => s.owe .ep n k
    | none => s)

/-- The class of bridle of a packet: 0 rack, 1 row, 2 hall, 3 switch (R361). -/
def State.destClass (s : State) (k : Packet) : Nat :=
  if (s.beyond k).isSome then 3
  else if coordOf 3 k.dst != coordOf 3 s.nodeId then 2
  else if coordOf 2 k.dst != coordOf 2 s.nodeId then 1 else 0

/-- The bridle index of a class and destination class, or none for an unbridled class (R361). -/
def bridleIx (tc dest : Nat) : Option Nat :=
  if tc == 0 then some dest else if tc == 3 then some (4 + dest) else if tc == 5 then some (8 + dest) else none

/-- A bridle with its bucket brought up to a tick: RATE bytes per tick up to BURST (R362). -/
def State.bridleNow (s : State) (ix : Nat) : Bridle :=
  let b := (lookup s.ep.rly.bridles ix).getD { tokens := 256 * s.get .ep BRD_TIMING_BURST, at_ := 0, incFrom := 0 }
  let now := s.now .ep
  let gain : Int := (s.get .ep BRD_RATE_RATE (ix + 1) : Int) * ((now - b.at_ : Nat) : Int)
  { b with tokens := min (b.tokens + gain) (256 * s.get .ep BRD_TIMING_BURST), at_ := now }

/-- The bridle of a packet of the endpoint's own, if it has one (R361). -/
def State.bridleOf (s : State) (k : Packet) : Option Nat := bridleIx k.tc (s.destClass k)

/-- Whether a bridle holds: its bucket is below zero and its RATE limits (R362). -/
def State.bridleHolds (s : State) (ix : Nat) : Bool :=
  (s.bridleNow ix).tokens < 0 && s.get .ep BRD_RATE_RATE (ix + 1) < 8572

/-- The queue that a packet of the endpoint's own comes from: a request by its tag, a herd packet by its member. -/
def State.queueOfPkt (s : State) (k : Packet) : Option Nat :=
  if 0x60 ≤ k.op && k.op ≤ 0x6C then
    (s.ep.ag.membs.find? fun m => some m.sid == addrSwitch k && m.herd == herdIx k && m.step == (herdPrefix k).step).map (·.queue)
  else match s.ep.reqs.find? fun r => r.tag == k.tag && r.pkt.op == k.op && r.pkt.addr == k.addr with
    | some r => match r.for_ with
      | .acc id => (s.ep.ag.accs.find? fun q => q.id == id).map (·.queue)
      | .xlate _ => none
    | none => none

/-- Whether a queue is held: one of its packets waits on a bridle (R362). -/
def State.queueHeld (s : State) (q : Nat) : Bool := s.ep.rly.bridled.any fun j => s.queueOfPkt j == some q

/-- Whether some packet of a list is the first of its queue there and waits on a bridle; `seen` are the queues before it. -/
def State.headOn (s : State) (ix : Nat) : List Nat → List Packet → Bool
  | _, [] => false
  | seen, k :: ks =>
    match s.queueOfPkt k with
    | some q => (!seen.contains q && s.bridleOf k == some ix) || s.headOn ix (q :: seen) ks
    | none => s.bridleOf k == some ix || s.headOn ix seen ks

/-- A packet goes through its bridle, if it has one, into the relay. -/
def State.passBridle (s : State) (k : Packet) : State :=
  let s := match s.bridleOf k with
    | none => s
    | some ix =>
      let b := s.bridleNow ix
      s.onRly fun r => { r with bridles := insertAt r.bridles ix { b with tokens := b.tokens - (32 + k.payload.length : Nat) } }
  s.epForward 3 none k

/-- Injects a packet of the endpoint's own: through its bridle when its class has one (R361, R362), then the relay step. A packet whose bridle is below zero, or that finds one waiting on the same bridle, waits, and one whose queue is held; a hint is red (R363). -/
def State.epInject (s : State) (k : Packet) : State :=
  let k := if k.tc == 6 && k.colour != 2 then sealPkt { k with colour := 2 } else k
  let waits := (s.bridleOf k).any fun ix => s.bridleHolds ix || s.headOn ix [] s.ep.rly.bridled
  if waits || (s.queueOfPkt k).any s.queueHeld then s.onRly fun r => { r with bridled := r.bridled ++ [k] }
  else s.passBridle k

/-- The endpoint answers a request. -/
def State.epAnswer (s : State) (k : Packet) (status : Nat) (data : List Byte := []) (aux : Nat := 0) : State :=
  s.epForward 3 none (answer false s.nodeId k status data aux)

/-- A part answers a request. -/
def State.reply (s : State) (p : Part) (k : Packet) (status : Nat) (data : List Byte := []) (aux : Nat := 0) : State :=
  match p with
  | .sw => s.swAnswer k status data aux
  | .ep => s.epAnswer k status data aux

/-! ### Congestion notices (R258) -/

/-- Adds a congestion mark to what the part has counted for a source and class, and sends a notice unless one went out within 16 ticks (R258). -/
def State.markCount (s : State) (p : Part) (src tc : Nat) : MarkCount :=
  (lookup (match p with
    | .sw => s.sw.core.marked
    | .ep => s.ep.rly.marked) (src * 8 + tc)).getD {}

def State.putMark (s : State) (p : Part) (src tc : Nat) (m : MarkCount) : State :=
  match p with
  | .sw => s.onCore fun c => { c with marked := insertAt c.marked (src * 8 + tc) m }
  | .ep => s.onRly fun r => { r with marked := insertAt r.marked (src * 8 + tc) m }

/-- A congestion notice to a source: its class and the marks it covers (R258). DESIGN CHOICE, log 53. -/
def State.noticePkt (s : State) (p : Part) (dst tc marks : Nat) : Packet :=
  sealPkt { dst := dst, src := if p == .sw then s.switchId else s.nodeId, srcSw := p == .sw, tc := 4, op := opCONG_NOTICE,
            addr := targetForm 0 dst 0, len := 8, payload := leBytes 4 tc ++ leBytes 4 marks }

/-- Sends the notice for the marks counted. -/
def State.sendNotice (s : State) (p : Part) (src tc marks : Nat) : State :=
  let s := s.putMark p src tc { marks := 0, last := some (s.now p) }
  let k := s.noticePkt p src tc marks
  match p with
  | .sw => s.swSend k
  | .ep => s.epForward 3 none k

/-- The part consumes a packet: a mark on it counts toward a notice (R258). -/
def State.consume (s : State) (p : Part) (k : Packet) : State :=
  if !k.mark || k.srcSw then s
  else
    let m := s.markCount p k.src k.tc
    match m.last with
    | some t => if s.due p t 16 then s.sendNotice p k.src k.tc (m.marks + 1) else s.putMark p k.src k.tc { m with marks := m.marks + 1 }
    | none => s.sendNotice p k.src k.tc (m.marks + 1)

/-- A consumer has found a bad E2E_CRC: it records the source, the tag and the opcode (R313, R472). -/
def State.crcFail (s : State) (p : Part) (k : Packet) : State :=
  s.event p pgErr .e2eCrc (k.src + k.tag * 2 ^ 17) k.op

end Sys2Proof.Machine
end

