-- ==== Sys2Proof/Machine/RegPath.lean ====
section
/-! DEFINITION. The paths to the registers (R494, R495, R505 to R508, R533): which page and register a path reaches, and the frame that every register write goes through. -/

namespace Sys2Proof.Machine

/-- The pages of a part: first index, instances, block code (R509, R510). -/
def pageMap : Part → List (Nat × Nat × Nat)
  | .sw =>
    [(0x000, 1, 0x01), (0x001, 1, 0x02), (0x002, 1, 0x03), (0x003, 1, 0x04), (0x004, 1, 0x05), (0x005, 1, 0x06),
     (0x006, 1, 0x07), (0x007, 1, 0x08), (0x008, 1, 0x09), (0x009, 1, 0x0A), (0x00A, 1, 0x0B), (0x00B, 1, 0x0C)] ++
    [(0x010, 1, 0x10), (0x011, 1, 0x11), (0x012, 1, 0x12), (0x013, 1, 0x13), (0x014, 1, 0x14), (0x020, 1, 0x20),
     (0x021, 1, 0x21), (0x022, 1, 0x22), (0x030, 1, 0x30), (0x031, 1, 0x31), (0x032, 1, 0x32)] ++
    [(0x040, 6, 0x40), (0x050, 1, 0x50), (0x051, 2, 0x51), (0x100, 128, 0x60), (0x200, 128, 0x61), (0x280, 128, 0x62),
     (0x300, 64, 0x70)]
  | .ep =>
    [(0x000, 1, 0x01), (0x001, 1, 0x02), (0x002, 1, 0x03), (0x004, 1, 0x80), (0x006, 1, 0x07), (0x007, 1, 0x08),
     (0x00A, 1, 0x0B), (0x00B, 1, 0x0C), (0x010, 1, 0x81), (0x011, 1, 0x82), (0x020, 1, 0x83), (0x021, 1, 0x21)] ++
    [(0x022, 1, 0x84), (0x030, 1, 0x85), (0x031, 1, 0x86), (0x032, 1, 0x87), (0x040, 1, 0x88), (0x100, 16, 0x60),
     (0x200, 8, 0x61), (0x280, 8, 0x62)]

/-- The entry of the page map that holds a page. -/
def pageEntry (p : Part) (page : Nat) : Option (Nat × Nat × Nat) :=
  (pageMap p).find? fun e => e.1 ≤ page && page < e.1 + e.2.1

/-- Whether a page is mapped (R494). -/
def pageMapped (p : Part) (page : Nat) : Bool := (pageEntry p page).isSome

/-- Whether an instance page is one that the part's layout does not use (R21). -/
def State.pageUnused (s : State) (p : Part) (page : Nat) : Bool :=
  if pgFpt ≤ page && page < pgLnk then s.width p (page - pgFpt) == 0
  else if pgLnk ≤ page && page < pgRdc then s.width p (page - pgLnk) == 0
  else false

/-- Whether a page's reset is in progress; it ends within 1,750 ticks (R501). -/
def State.resetting (s : State) (p : Part) (page : Nat) : Bool :=
  (lookup (s.chip p).pageResets page).any fun t => !s.due p t 1750

/-- The registers whose writes R506 keeps to the host BAR. Signature registers depend on ROLE and are judged where they are written. -/
def hostOnly (p : Part) (page off : Nat) : Bool :=
  p == .sw && (
    (page == pgMgt && (off == 0x58 || off == 0x80 || (0x100 ≤ off && off < 0x180)))
    || (page == pgCxu && 0x80 ≤ off && off < 0xC0)
    || (page == pgSyn && (off == 0x60 || off == 0x70)))

/-- The registers whose writes R506 and R453 keep to the side-band. -/
def sidebandOnly (p : Part) (page off : Nat) : Bool :=
  p == .sw && (
    (page == pgSbp && 0x40 ≤ off)
    || (page == pgDct && off == 0xD8)
    || (page == pgGlb && (off == 0x58 || off == 0x60)))

/-- The registers that remote control space may write (R508). -/
def remoteWritable (p : Part) (page off : Nat) : Bool :=
  match p with
  | .sw =>
    let pages := page == pgHrd || page == pgSvc || page == pgSyn || page == pgRte || page == pgCgt || page == pgBuf || page == pgCmb
    let partly := (page == pgXbr && (off == 0x48 || off == 0x50)) || (page == pgDir && off == 0xA0)
    if off < 0x40 then (pages || page == pgXbr || page == pgDir) && (off == 0x10 || off == 0x28)
    else (pages && !(page == pgSyn && (off == 0x60 || off == 0x70))) || partly
  | .ep =>
    let pages := page == pgRly || page == pgBrd || page == pgSyn || page == pgAcn
    if off < 0x40 then pages && (off == 0x10 || off == 0x28) else pages

/-- The registers that remote control space may read (R508). -/
def remoteReadable (p : Part) (page off : Nat) : Bool :=
  match p with
  | .sw =>
    pageMapped p page && page != pgSbp && !(page == pgMgt && 0x100 ≤ off && off < 0x200)
      && !(page == pgDct && ((0x50 ≤ off && off < 0x70) || (0xC0 ≤ off && off < 0xD0)))
  | .ep => pageMapped p page

/-- The standby subset of R507; an 8-byte register of it may be read as two halves (R495). -/
def standbySubset (page off : Nat) : Bool :=
  page == pgSbp || (page == pgGlb && (off == 0x40 || off == 0x48 || off == 0x4C || off == 0x50))
    || (page == pgErr && (off == 0x40 || off == 0x44 || off == 0x50 || off == 0x54 || (0x80 ≤ off && off < 0xA0)))

/-- Whether the main side serves the side-band: main rails up and step 3 of start-up past (R507). -/
def State.mainServes (s : State) : Bool := s.swc.mainUp && 3 < s.swc.step

/-- A register access completes on a path that returns a completion (R533). Remote accesses are answered by their packet. -/
def State.regDone (s : State) (p : Part) (path : Path) (status : Nat) (data : Word := 0) : State :=
  match path with
  | .csr | .sideband => s.emit (.regDone p path status data)
  | .host | .remote => s

/-- What a write came to: the state, and whether it took effect. -/
abbrev Written := State × Bool

/-- A write that a rule refuses: recorded, and nothing else changes (R504). -/
def State.refused (s : State) (p : Part) (page : Nat) : Written := (s.refuse p page, false)

/-- The frame of every register write: the path's reach, the page's fence, page reset and layout, then the write itself (R494, R501, R502, R505 to R508). It answers whether the write took effect and whether it was unreachable. -/
def State.writeFrame (s : State) (path : Path) (p : Part) (page off : Nat) (w : State → Written) : State × Nat :=
  if path == .sideband && !s.mainServes && !standbySubset page off then (s, stUNREACHABLE)
  else if !pageMapped p page then (s, stPERMISSION)
  else if path == .remote && !remoteWritable p page off then (s.refuse p page, stPERMISSION)
  else if hostOnly p page off && path != .host then (s.refuse p page, stPERMISSION)
  else if sidebandOnly p page off && path != .sideband then (s.refuse p page, stPERMISSION)
  else if 0x40 ≤ off && s.flag p HDR_PAGE_CTL_FENCE 0 page then (s.refuse p page, stPERMISSION)
  else if 0x40 ≤ off && s.resetting p page then (s.refuse p page, stPERMISSION)
  else if 0x40 ≤ off && s.pageUnused p page then (s.refuse p page, stPERMISSION)
  else
    let r := w s
    (r.1, if r.2 then stOK else stPERMISSION)

/-- Whether a path leads to a part (R505). DESIGN CHOICE, log 16. -/
def pathServes (path : Path) (p : Part) : Bool :=
  match path with
  | .host | .sideband => p == .sw
  | .csr => p == .ep
  | .remote => true

/-- A register write by one path that leads to the part, completed as R533 says. -/
def State.writeBy (s : State) (path : Path) (p : Part) (page off : Nat) (w : State → Written) : State :=
  if !pathServes path p then s
  else
    let r := s.writeFrame path p page off w
    r.1.regDone p path r.2

/-- The frame of every register read: the path's reach, then the read itself with its side effect (R494, R507, R508). It answers the status and the data. -/
def State.readFrame (s : State) (path : Path) (p : Part) (page off : Nat) (f : State → State × Word) : State × Nat × Word :=
  if path == .sideband && !s.mainServes && !standbySubset page off then (s, stUNREACHABLE, 0)
  else if !pageMapped p page then (s, if path == .host || path == .csr then stOK else stPERMISSION, 0)
  else if path == .remote && !remoteReadable p page off then (s, stPERMISSION, 0)
  else
    let r := f s
    (r.1, stOK, r.2)

/-- A register read by one path that leads to the part; the data goes back on it. Remote reads are answered by their packet. -/
def State.readBy (s : State) (path : Path) (p : Part) (page off : Nat) (f : State → State × Word) : State :=
  if !pathServes path p then s
  else
    let r := s.readFrame path p page off f
    if path == .remote then r.1 else r.1.emit (.regDone p path r.2.1 r.2.2)

end Sys2Proof.Machine
end

