-- ==== Sys2Proof/Machine/Sync.lean ====
section
/-! DEFINITION. Sync objects of both parts (R81 to R89, R197, R198, R213, R354 to R356) and the outcome store that makes a non-idempotent request take effect once (R97, R265, R359). -/

namespace Sys2Proof.Machine

/-! ### Outcome records (R265, R359) -/

/-- A part's outcome records. -/
def State.outcomes (s : State) : Part → List Outcome
  | .sw => s.sw.pool.outcomes
  | .ep => s.ep.ddp

/-- Changes a part's outcome records. -/
def State.onOutcomes (s : State) (p : Part) (f : List Outcome → List Outcome) : State :=
  match p with
  | .sw => s.onPool fun q => { q with outcomes := f q.outcomes }
  | .ep => { s with ep := { s.ep with ddp := f s.ep.ddp } }

/-- The record of a source and tag. -/
def State.outcomeOf (s : State) (p : Part) (k : Packet) : Option Outcome :=
  (s.outcomes p).find? fun o => o.src == k.src && o.tag == k.tag

/-- How many outcome records a part holds at most. -/
def outcomeCap : Part → Nat
  | .sw => 32768
  | .ep => 16384

/-- How long a part keeps a record: CMB.OUT_HOLD at the switch, DDP.CFG.HOLD at the endpoint (R266, R359). -/
def State.outHold (s : State) : Part → Nat
  | .sw => s.get .sw CMB_OUT_HOLD_TICKS
  | .ep => s.get .ep DDP_CFG_HOLD

/-- Whether a record's hold has passed: from that tick on it matches nothing (R13). -/
def State.outLate (s : State) (p : Part) (o : Outcome) : Bool := s.due p o.at_ (s.outHold p)

/-- The records that a part still holds. -/
def State.outHeld (s : State) (p : Part) : List Outcome := (s.outcomes p).filter fun o => !s.outLate p o

/-- Removes the record of a source and tag and counts it as expired (R265, R359). -/
def State.outExpire (s : State) (p : Part) (src tag : Nat) : State :=
  let s := s.onOutcomes p fun l => l.filter fun o => !(o.src == src && o.tag == tag)
  match p with
  | .sw => s.count .sw CMB_OUT_HITS_EXPIRED
  | .ep => s.count .ep DDP_HITS_EXPIRED

/-- Records the outcome of a request performed. -/
def State.keepOutcome (s : State) (p : Part) (k : Packet) (status : Nat) (data : List Byte) (aux : Nat) : State :=
  s.onOutcomes p fun l => l ++ [⟨k.src, k.tag, status, data, aux, s.now p⟩]

/-- A duplicate answered from its record, or absorbed at the endpoint (R265, R372). -/
def State.countHit (s : State) (p : Part) : State :=
  match p with
  | .sw => s.count .sw CMB_OUT_HITS_ANSWERED
  | .ep => s.count .ep DDP_HITS_ANSWERED

/-- A request refused because the store is full. -/
def State.countFull (s : State) (p : Part) : State :=
  match p with
  | .sw => s.count .sw CMB_OUT_STS_REFUSED
  | .ep => s.count .ep DDP_STS_REFUSED

/-- The first guard of a non-idempotent request at its target: a duplicate takes the recorded outcome, unless the record's hold has passed (R265, R359). -/
def State.dedup (s : State) (p : Part) (k : Packet) (f : State → State) : State :=
  match s.outcomeOf p k with
  | some o =>
    if s.outLate p o then f (s.outExpire p k.src k.tag)
    else (s.countHit p).reply p k o.status o.data o.aux
  | none => f s

/-- The requests accepted at a part that will need a record. -/
def State.owedRecords (s : State) : Part → Nat
  | .sw =>
    let due (m : Member) : Bool := (match m.asker with
      | .fabric => true
      | _ => false) && nonIdempotent m.pkt
    ((s.sw.pool.queue.map (·.members)).flatten.filter due).length + (s.sw.pool.gathers.filter fun g => nonIdempotent g.pkt).length
  | .ep => (s.ep.ag.ops.filter fun o => o.op != 0 && (match o.for_ with
    | .window _ => true
    | _ => false)).length

/-- The last guard of a non-idempotent request: RETRY when no record could be kept for it beside those held and those owed (R265). -/
def State.room (s : State) (p : Part) (k : Packet) (f : State → State) : State :=
  if outcomeCap p ≤ (s.outHeld p).length + s.owedRecords p then (s.countFull p).reply p k stRETRY else f s

/-! ### Commands of the endpoint's own queues -/

/-- Changes a command of a queue. -/
def State.onCmd (s : State) (q i : Nat) (f : Cmd → Cmd) : State :=
  { s with ep := { s.ep with cmds := s.ep.cmds.map fun c => if c.queue == q && c.index == i then f c else c } }

/-- A command of a queue. -/
def State.cmd (s : State) (q i : Nat) : Option Cmd := s.ep.cmds.find? fun c => c.queue == q && c.index == i

/-- Completes a command (R353); its record is written by COMMAND_COMPLETE. -/
def State.cmdDone (s : State) (q i status : Nat) (value : Word := 0) (verdict : Bool := false) : State :=
  s.onCmd q i fun c => { c with stage := 2, status := status, value := value, verdict := verdict }

/-! ### The happens-before judgement (R81 to R88) -/

/-- An agent as R88 records it: kind 0 endpoint queue, 1 host, 2 switch. -/
structure Agent where
  kind : Nat
  node : Nat
  queue : Nat
deriving DecidableEq, Repr

/-- Changes a part's sync state. -/
def State.onSync (s : State) (p : Part) (f : SyncSt → SyncSt) : State :=
  s.onChip p fun c => { c with sync := f c.sync }

/-- The bank of a sync object's registers. -/
def synBank (idx : Nat) : Nat := idx + 1

/-- The scope at which a part performs an operation: DOMAIN at an endpoint is DEVICE (R82). -/
def scopeAt (p : Part) (scope : Nat) : Nat := if p == .ep && scope == 2 then 1 else scope

/-- The state of an agent slot: 0 EMPTY, 1 ACTIVE, 2 RECALLING, 3 FENCED (R143). -/
def State.slotState (s : State) (i : Nat) : Nat := s.get .sw DIR_AGT_STS_STATE (i + 1)

/-- Whether a slot names an agent: a valid entry, or one whose removal still runs (R120). -/
def State.agentListed (s : State) (i : Nat) : Bool := s.flag .sw DIR_AGT_ENTRY_VALID (i + 1) || s.slotState i == 2

/-- The agent slot that names an endpoint, and the host's slot. -/
def State.agentSlot (s : State) (node : Nat) : Option Nat :=
  (upTo 64).find? fun i => s.agentListed i && s.get .sw DIR_AGT_ENTRY_KIND (i + 1) == 0
    && s.get .sw DIR_AGT_ENTRY_NODE (i + 1) == node

/-- The host table's slot, where it has one (R201). DEDUCED, log 83. -/
def State.hostSlot (s : State) : Option Nat :=
  (upTo 64).find? fun i => s.agentListed i && s.get .sw DIR_AGT_ENTRY_KIND (i + 1) == 1

/-- Whether an agent is in the domain of this switch at this tick (R86). -/
def State.inDomain (s : State) (a : Agent) : Bool :=
  if a.kind == 2 then a.node == s.switchId
  else
    let slot := if a.kind == 1 then s.hostSlot else s.agentSlot a.node
    slot.elim false fun i => s.slotState i == 1

/-- The release record of an object: scope and agent. -/
def State.relRecord (s : State) (p : Part) (idx : Nat) : Nat × Agent :=
  let b := synBank idx
  (s.get p SYN_STS_REL_SCOPE b, ⟨s.get p SYN_STS_REL_KIND b, s.get p SYN_STS_REL_NODE b, s.get p SYN_STS_REL_QUEUE b⟩)

/-- Whether an object holds a release record. -/
def State.hasRecord (s : State) (p : Part) (idx : Nat) : Bool := (s.chip p).sync.recs.contains idx

/-- The verdict of an acquire at a scope by an agent (R86 to R88): happens-before, or no record. -/
def State.verdict (s : State) (p : Part) (idx scope : Nat) (a : Agent) : Bool :=
  if !s.hasRecord p idx then true
  else
    let r := s.relRecord p idx
    let eff := min r.1 (scopeAt p scope)
    let both := r.2.kind == 0 && a.kind == 0 && r.2.node == a.node
    if eff == 3 then true
    else if eff == 2 then p == .sw && s.inDomain r.2 && s.inDomain a
    else if eff == 1 then both
    else both && r.2.queue == a.queue

/-- Records the most recent release of an object (R88). -/
def State.setRelease (s : State) (p : Part) (idx scope : Nat) (a : Agent) : State :=
  let b := synBank idx
  let s := (s.put p SYN_STS_REL_SCOPE (scopeAt p scope) b).put p SYN_STS_REL_KIND a.kind b
  let s := (s.put p SYN_STS_REL_NODE (if a.kind == 1 then 0 else a.node) b).put p SYN_STS_REL_QUEUE (if a.kind == 0 then a.queue else 0) b
  s.onSync p fun y => { y with recs := if y.recs.contains idx then y.recs else y.recs ++ [idx] }

/-- Counts a mismatch at the acquiring endpoint (R88, R90): the release, the acquire, and the object's holder. -/
def State.epMismatch (s : State) (rel : Nat × Agent) (acqScope acqQueue idx kind id : Nat) : State :=
  let s := s.count .ep EPC_SCOPE_MM_CNT_COUNT
  let s := (s.put .ep EPC_SCOPE_MM_LAST0_REL_SCOPE rel.1).put .ep EPC_SCOPE_MM_LAST0_ACQ_SCOPE acqScope
  let s := (s.put .ep EPC_SCOPE_MM_LAST0_REL_KIND rel.2.kind).put .ep EPC_SCOPE_MM_LAST0_REL_NODE rel.2.node
  let s := (s.put .ep EPC_SCOPE_MM_LAST0_REL_QUEUE rel.2.queue).put .ep EPC_SCOPE_MM_LAST0_ACQ_QUEUE acqQueue
  let s := (s.put .ep EPC_SCOPE_MM_LAST0_VALID 1).put .ep EPC_SCOPE_MM_LAST1_SYNC_INDEX idx
  let s := (s.put .ep EPC_SCOPE_MM_LAST1_HOLDER_KIND kind).put .ep EPC_SCOPE_MM_LAST1_HOLDER_ID id
  s.put .ep EPC_SCOPE_MM_LAST1_TICK (s.now .ep)

/-- The release record as the second 8 bytes of an answer (R296). -/
def State.recordWord (s : State) (p : Part) (idx : Nat) : Nat :=
  if s.hasRecord p idx then
    let r := s.relRecord p idx
    r.1 + 4 * r.2.kind + 16 * r.2.node + 2 ^ 21 * r.2.queue + 2 ^ 29
  else 0

/-! ### The operations (R197) -/

/-- An object's value. -/
def State.synValue (s : State) (p : Part) (idx : Nat) : Word := s.rd p SYN_VALUE (synBank idx)

/-- Whether an object serves a partition: enabled and owned by it. -/
def State.synOwned (s : State) (p : Part) (idx ptn : Nat) : Bool :=
  idx < (if p == .sw then 16384 else 4096)
    && s.flag p SYN_CFG_ENABLE (synBank idx) && s.get p SYN_CFG_PARTITION (synBank idx) == ptn

/-- Whether an object is in its error state. -/
def State.synError (s : State) (p : Part) (idx : Nat) : Bool := s.flag p SYN_STS_ERROR (synBank idx)

/-- The reason of an object's error state. -/
def State.synReason (s : State) (p : Part) (idx : Nat) : Nat := s.get p SYN_STS_REASON (synBank idx)

/-- Whether a value has reached a target: (value − t) mod 2^64 < 2^63. -/
def reached (v t : Word) : Bool := (v - t).toNat < 2 ^ 63

/-- The agent of a request. -/
def agentOf (k : Packet) (queue : Nat) : Agent := if k.srcSw then ⟨2, k.src, 0⟩ else ⟨0, k.src, queue⟩

/-- The answer of a satisfied acquire. -/
def State.acquireAnswer (s : State) (p : Part) (idx : Nat) (k : Packet) (queue : Nat) : State :=
  let v := s.verdict p idx k.scope (agentOf k queue)
  s.reply p k stOK (leBytes 8 (s.synValue p idx).toNat ++ leBytes 8 (s.recordWord p idx)) (b2n v)

/-- The answer of an acquire at an object in error: the reason stands in AUX [3:1]. -/
def State.errorAnswer (s : State) (p : Part) (idx : Nat) (k : Packet) : State :=
  s.reply p k stABORTED [] (2 * s.synReason p idx)

/-- The scope of a SYNC command of the endpoint's queues: descriptor word 0, [19:18]. -/
def cmdScope (c : Cmd) : Nat := getBits (c.desc.getD 0 0) 18 2

/-- A command's acquire has its value (R84): at SYSTEM scope it completes at the accelerator's acknowledgement of a DISCARD, at any other scope at once. -/
def State.acquireDone (s : State) (q i : Nat) (value : Word) (verdict : Bool) : State :=
  let scope := (s.cmd q i).elim 3 fun c => if getBits (c.desc.getD 0 0) 0 8 == 4 then cmdScope c else 3
  if scope != 3 then s.cmdDone q i stOK value verdict
  else
    let id := s.ep.ag.nextId
    let s := { s with ep := { s.ep with ag := { s.ep.ag with nextId := id + 1, discards := insertAt s.ep.ag.discards id (q, i) } } }
    (s.onCmd q i fun c => { c with phase := 1, value := value, verdict := verdict }).emit (.discard id false)

/-- A command's own acquire of a local object: the value, the verdict, the count of a mismatch. DEDUCED, log 139. -/
def State.ownAcquire (s : State) (idx q i : Nat) : State :=
  let scope := (s.cmd q i).elim 3 cmdScope
  let v := s.verdict .ep idx scope ⟨0, s.nodeId, q⟩
  let s := s.when (!v) fun s => s.epMismatch (s.relRecord .ep idx) scope q idx 0 s.nodeId
  s.acquireDone q i (s.synValue .ep idx) v

/-- Answers one waiter whose target is reached. Commands of the endpoint's own queues wait at the endpoint alone. -/
def State.satisfy (s : State) (p : Part) (w : SyncWait) : State :=
  match w.who with
  | .remote k => s.acquireAnswer p w.idx k w.queue
  | .own q i =>
    match p with
    | .sw => s
    | .ep => s.ownAcquire w.idx q i

/-- The timeout of a part that holds requests: CMB.REQ_TMO at the switch, EPC.REQ_TMO at the endpoint (R266, R354). -/
def State.holdTmo (s : State) : Part → Nat
  | .sw => s.get .sw CMB_REQ_TMO_TICKS
  | .ep => s.get .ep EPC_REQ_TMO_TICKS

/-- WAIT_TMO of a command: 0 means none (R349). -/
def waitTmo (c : Cmd) : Nat := getBits (c.desc.getD 6 0) 0 34

/-- Whether a wait's timeout has come (R13): the holder's for another part's, WAIT_TMO for one of the endpoint's own (R351, R354). -/
def State.waitLate (s : State) (p : Part) (w : SyncWait) : Bool :=
  match w.who with
  | .remote _ => s.due p w.at_ (s.holdTmo p)
  | .own q i => (s.cmd q i).any fun c => waitTmo c != 0 && s.due p w.at_ (waitTmo c)

/-- Ends one wait of an object in error: ABORTED, or TIMEOUT for one whose timeout has come. -/
def State.abortWait (s : State) (p : Part) (w : SyncWait) : State :=
  let late := s.waitLate p w
  match w.who with
  | .remote k => if late then s.reply p k stTIMEOUT else s.errorAnswer p w.idx k
  | .own q i =>
    match p with
    | .sw => s
    | .ep => s.cmdDone q i (if late then stTIMEOUT else stABORTED)

/-- Completes every wait of an object whose target its value has reached, but for those whose timeout has come (R13). -/
def State.wake (s : State) (p : Part) (idx : Nat) : State :=
  let v := s.synValue p idx
  let hit (w : SyncWait) : Bool := w.idx == idx && reached v w.target && !s.waitLate p w
  let go := (s.chip p).sync.waits.filter hit
  let s := s.onSync p fun y => { y with waits := y.waits.filter fun w => !hit w }
  go.foldl (fun s w => s.satisfy p w) s

/-- A release on an object: its new value, the record, the waits it satisfies. -/
def State.release (s : State) (p : Part) (idx : Nat) (v : Word) (scope : Nat) (a : Agent) : State :=
  ((s.wr p SYN_VALUE v (synBank idx)).setRelease p idx scope a).wake p idx

/-- An object enters its error state (R198, R355): every wait on it completes ABORTED. -/
def State.synEnterError (s : State) (p : Part) (idx reason : Nat) : State :=
  let s := (s.put p SYN_STS_ERROR 1 (synBank idx)).put p SYN_STS_REASON reason (synBank idx)
  let go := (s.chip p).sync.waits.filter fun w => w.idx == idx
  let s := s.onSync p fun y => { y with waits := y.waits.filter fun w => w.idx != idx }
  go.foldl (fun s w => s.abortWait p w) s

/-- An object leaves its error state. -/
def State.synClearError (s : State) (p : Part) (idx : Nat) : State :=
  (s.put p SYN_STS_ERROR 0 (synBank idx)).put p SYN_STS_REASON 0 (synBank idx)

/-- The switch advances an object for a herd: a release at SYSTEM scope by the switch (R89, R194). An object in error keeps its value. -/
def State.synAdvance (s : State) (idx : Nat) : State :=
  if s.flag .sw SYN_CFG_ENABLE (synBank idx) && !s.synError .sw idx then
    s.release .sw idx (s.synValue .sw idx + 1) 3 ⟨2, s.switchId, 0⟩
  else s

/-- The index of a sync request. -/
def synIx (k : Packet) : Nat := getBits k.addr 0 14

/-- What every sync request passes first: its CRC (R313), enable and owner, and the binding to a herd for an update by a context (R197). -/
def State.syncGuard (s : State) (p : Part) (k : Packet) (update : Bool) (f : State → State) : State :=
  let s := s.consume p k
  let rest (s : State) : State :=
    if !s.synOwned p (synIx k) k.ptn then s.reply p k stPERMISSION
    else if update && p == .sw && s.flag .sw SYN_CFG_HERD_BOUND (synBank (synIx k)) then s.reply p k stPERMISSION
    else f s
  if !crcOk k then (s.crcFail p k).reply p k stINTEGRITY
  else if update then s.dedup p k rest else rest s

/-- ADD, SET and SET_CLEAR: performed once, recorded, answered (R197). -/
def State.syncUpdate (s : State) (p : Part) (k : Packet) (queue : Nat) (v : Word → Word) : State :=
  let idx := synIx k
  s.syncGuard p k true fun s =>
    if s.synError p idx then s.errorAnswer p idx k
    else s.room p k fun s =>
      let s := (s.release p idx (v (s.synValue p idx)) k.scope (agentOf k queue)).keepOutcome p k stOK [] 0
      s.reply p k stOK

/-! ### The SYN pages (R213, R356) -/

/-- The object that a part's SYN.SEL names. -/
def State.synSel (s : State) (p : Part) : Nat := if p == .sw then s.get .sw SYN_SEL_INDEX else s.get .ep SYN_SEL_INDEX % 4096

/-- The judged read of SYN.ACQ: an acquire by the host (R88, R213). -/
def State.hostAcquire (s : State) : State :=
  let idx := s.synSel .sw
  let scope := s.get .sw SYN_HOST_SCOPE_SCOPE
  if s.verdict .sw idx scope ⟨1, 0, 0⟩ then s
  else
    let r := s.relRecord .sw idx
    let s := s.count .sw SYN_HOST_MM_CNT_COUNT
    let s := (s.put .sw SYN_HOST_MM_LAST_SYNC_INDEX idx).put .sw SYN_HOST_MM_LAST_REL_SCOPE r.1
    let s := (s.put .sw SYN_HOST_MM_LAST_ACQ_SCOPE scope).put .sw SYN_HOST_MM_LAST_REL_KIND r.2.kind
    let s := (s.put .sw SYN_HOST_MM_LAST_REL_NODE r.2.node).put .sw SYN_HOST_MM_LAST_REL_QUEUE r.2.queue
    s.put .sw SYN_HOST_MM_LAST_VALID 1

/-- SYN_ACQ_READ (R213): a read of SYN.ACQ; from the host BAR it is the host's acquire (R506). The value is returned to the reader. -/
def synAcqRead (path : Path) (s : State) : State :=
  s.readBy path .sw pgSyn 0x58 fun s =>
    (s.when (path == .host) State.hostAcquire, s.synValue .sw (s.synSel .sw))

def execSynAcqRead (path : Path) (s : State) : Host.Outcome State Fault Refusal := .next (synAcqRead path s)

/-- Whether the home still holds a request of the host that stands before a number. -/
def State.hostBefore (s : State) (n : Nat) : Bool :=
  s.sw.pool.queue.any fun r => r.id < n && r.members.any fun m => match m.asker with
    | .host _ _ => true
    | _ => false

/-- A release of the host is performed; an object that meanwhile is disabled or in error refuses it. -/
def State.doAdd (s : State) (a : HostAdd) : State :=
  if !s.flag .sw SYN_CFG_ENABLE (synBank a.idx) || s.synError .sw a.idx then s.refuse .sw pgSyn
  else s.release .sw a.idx (s.synValue .sw a.idx + a.value) a.scope ⟨1, 0, 0⟩

/-- Performs the host's releases whose earlier accesses have all completed (R83), in order. -/
def State.hostAdds (s : State) : State :=
  let go := s.sw.pool.adds.takeWhile fun a => !s.hostBefore a.before
  let s := s.onPool fun q => { q with adds := q.adds.drop go.length }
  go.foldl State.doAdd s

/-- SYN.ADD: a release by the host at HOST_SCOPE, under R197; it waits for the host's earlier accesses (R83). -/
def State.hostAdd (s : State) (v : Word) : Written :=
  let idx := s.synSel .sw
  if !s.flag .sw SYN_CFG_ENABLE (synBank idx) || s.synError .sw idx then s.refused .sw pgSyn
  else
    let a : HostAdd := ⟨idx, v, s.get .sw SYN_HOST_SCOPE_SCOPE, s.sw.pool.nextId⟩
    ((s.onPool fun q => { q with adds := q.adds ++ [a] }).hostAdds, true)

/-- SYN_ADD_WRITE (R213). -/
def synAddWrite (path : Path) (v : Word) (s : State) : State :=
  s.writeBy path .sw pgSyn 0x60 fun s => s.hostAdd v

def execSynAddWrite (path : Path) (v : Word) (s : State) : Host.Outcome State Fault Refusal := .next (synAddWrite path v s)

/-- SYN_ERROR_CLEAR (R198, R355): 1 written to SYN.STS.ERROR of the selected object. -/
def synErrorClear (path : Path) (p : Part) (s : State) : State :=
  s.writeBy path p pgSyn 0x68 fun s => (s.synClearError p (s.synSel p), true)

def execSynErrorClear (path : Path) (p : Part) (s : State) : Host.Outcome State Fault Refusal := .next (synErrorClear path p s)

/-- SYN.CFG of the selected object written: a bound object's is refused; setting ENABLE clears the release record (R88, R213). -/
def State.setSynCfg (s : State) (p : Part) (v : Word) : Written :=
  let idx := s.synSel p
  if p == .sw && s.flag .sw SYN_CFG_HERD_BOUND (synBank idx) then s.refused p pgSyn
  else
    let was := s.flag p SYN_CFG_ENABLE (synBank idx)
    let s := (s.put p SYN_CFG_ENABLE (getBits v 0 1) (synBank idx)).put p SYN_CFG_PARTITION (getBits v 1 6) (synBank idx)
    let s := s.when (!was && v.getLsbD 0) fun s =>
      let s := s.wr p SYN_STS (setBits (s.rd p SYN_STS (synBank idx)) 4 29 0) (synBank idx)
      s.onSync p fun y => { y with recs := y.recs.filter (· != idx) }
    (s, true)

end Sys2Proof.Machine
end

