-- ==== Sys2Proof/Machine/HerdOps.lean ====
section
/-! DEFINITION. The operations that the herd commands share: the descriptor and the slots (R180, R181), the packets between herds and to members, abort and failover (R206 to R210), the end of a step. -/

namespace Sys2Proof.Machine

/-! ### The descriptor (R180) -/

def Herd.w (h : Herd) (k : Nat) : Word := h.desc.getD k 0
def Herd.op (h : Herd) : Nat := getBits (h.w 0) 0 4
def Herd.inFmt (h : Herd) : Nat := getBits (h.w 0) 4 5
def Herd.outFmt (h : Herd) : Nat := getBits (h.w 0) 9 5
def Herd.operator (h : Herd) : Nat := getBits (h.w 0) 14 2
def Herd.compact (h : Herd) : Bool := (h.w 0).getLsbD 16
def Herd.sr (h : Herd) : Bool := (h.w 0).getLsbD 17
def Herd.sat (h : Herd) : Bool := (h.w 0).getLsbD 18
def Herd.inFormat (h : Herd) : Bool := (h.w 0).getLsbD 19
def Herd.algo (h : Herd) : Nat := getBits (h.w 0) 20 2
def Herd.isRoot (h : Herd) : Bool := (h.w 0).getLsbD 22
def Herd.straggler (h : Herd) : Nat := getBits (h.w 0) 23 2
def Herd.failover (h : Herd) : Bool := (h.w 0).getLsbD 25

/-- Whether a lost path means a failover: FAILOVER is set, and the running step has not failed over to this herd already (R210). -/
def Herd.mayMove (h : Herd) : Bool := h.failover && !(h.moved && h.state != 1)

def Herd.slotCount (h : Herd) : Nat := getBits (h.w 0) 26 7 + 1
def Herd.hsync (h : Herd) : Nat := getBits (h.w 0) 33 14
def Herd.ctx (h : Herd) : Nat := getBits (h.w 0) 47 10
def Herd.seed (h : Herd) : Nat := (h.w 1).toNat
def Herd.shards (h : Herd) : Nat := getBits (h.w 2) 32 8
def Herd.timeout (h : Herd) : Nat := getBits (h.w 3) 0 34
def Herd.length (h : Herd) : Nat := getBits (h.w 4) 0 40
def Herd.threshold (h : Herd) : Nat := getBits (h.w 5) 0 25
def Herd.chunkBytes (h : Herd) : Nat := getBits (h.w 5) 25 25
def Herd.depth (h : Herd) : Nat := getBits (h.w 5) 50 3
def Herd.rootRank (h : Herd) : Nat := getBits (h.w 6) 0 17
def Herd.cap (h : Herd) : Nat := getBits (h.w 6) 17 16
def Herd.recUnits (h : Herd) : Nat := getBits (h.w 6) 33 8
def Herd.rankBase (h : Herd) : Nat := getBits (h.w 7) 0 17
def Herd.rankStride (h : Herd) : Nat := getBits (h.w 7) 17 17
def Herd.ranks (h : Herd) : Nat := getBits (h.w 7) 34 17 + 1

/-- Whether a herd works in chunks and shards: the choice of R191. -/
def Herd.streamed (h : Herd) : Bool := h.algo == 2 || (h.algo == 0 && h.threshold < h.length)

/-! ### Slots (R176, R181) -/

/-- A slot's two words. -/
def Herd.entry (h : Herd) (i : Nat) : Word × Word := (lookup h.slots i).getD (0, 0)
def Herd.slotValid (h : Herd) (i : Nat) : Bool := (h.entry i).1.getLsbD 0
def Herd.isChild (h : Herd) (i : Nat) : Bool := (h.entry i).1.getLsbD 1
def Herd.node (h : Herd) (i : Nat) : Nat := getBits (h.entry i).1 2 17
def Herd.slotSync (h : Herd) (i : Nat) : Nat := getBits (h.entry i).1 19 12
def Herd.childSwitch (h : Herd) (i : Nat) : Nat := getBits (h.entry i).1 31 16
def Herd.childHerd (h : Herd) (i : Nat) : Nat := getBits (h.entry i).1 47 12
def Herd.twinValid (h : Herd) (i : Nat) : Bool := (h.entry i).1.getLsbD 59
def Herd.upSlot (h : Herd) (i : Nat) : Nat := getBits (h.entry i).2 0 7
def Herd.upSwitch (h : Herd) (i : Nat) : Nat := getBits (h.entry i).2 7 16
def Herd.upHerd (h : Herd) (i : Nat) : Nat := getBits (h.entry i).2 23 12
def Herd.twinNode (h : Herd) (i : Nat) : Nat := getBits (h.entry i).2 35 17
def Herd.twinSync (h : Herd) (i : Nat) : Nat := getBits (h.entry i).2 52 12

/-- The valid slots, in slot order. -/
def Herd.validSlots (h : Herd) : List Nat := (upTo h.slotCount).filter h.slotValid

/-- The slots that carry an up-link, in slot order. -/
def Herd.ups (h : Herd) : List Nat := h.validSlots.filter fun i => h.upSwitch i != 0

/-- Whether the herd is of the first stage: its slots are member slots. -/
def Herd.firstStage (h : Herd) : Bool := h.validSlots.any fun i => !h.isChild i

/-- The endpoints that contribute at a slot: its NODE, and its twin. -/
def Herd.contributors (h : Herd) (i : Nat) : List Nat :=
  h.node i :: (if !h.isChild i && h.twinValid i then [h.twinNode i] else [])

/-- The slot and place (0 NODE, 1 twin) of a member endpoint. -/
def Herd.placeOfNode (h : Herd) (node : Nat) : Option (Nat × Nat) :=
  let ms := h.validSlots.filter fun i => !h.isChild i
  match ms.find? fun i => h.node i == node with
  | some i => some (i, 0)
  | none => (ms.find? fun i => h.twinValid i && h.twinNode i == node).map fun i => (i, 1)

/-- The relaying endpoint of a slot's up-link: the NODE of its creation, whose port leads to UP_SWITCH (R178). DEDUCED, log 94. -/
def Herd.upNode (h : Herd) (i : Nat) : Nat := (lookup h.upNodes i).getD (h.node i)

/-- The rank of a slot (R179). -/
def Herd.rankOf (h : Herd) (i : Nat) : Nat := h.rankBase + i * h.rankStride

/-! ### The herds of the switch -/

/-- A herd that is not FREE. -/
def State.herd (s : State) (i : Nat) : Option Herd := lookup s.sw.hrd.herds i

/-- Changes the herds' state. -/
def State.onHrd (s : State) (f : Herds → Herds) : State := { s with sw := { s.sw with hrd := f s.sw.hrd } }

/-- Stores a herd. -/
def State.putHerd (s : State) (i : Nat) (h : Herd) : State := s.onHrd fun x => { x with herds := insertAt x.herds i h }

/-- Changes a herd. -/
def State.onHerd (s : State) (i : Nat) (f : Herd → Herd) : State :=
  match s.herd i with
  | some h => s.putHerd i (f h)
  | none => s

/-- Changes the service core. -/
def State.onSvc (s : State) (f : Svc → Svc) : State := { s with sw := { s.sw with svc := f s.sw.svc } }

/-- A herd's attachment. -/
def State.attach (s : State) (i : Nat) : Option Attach := lookup s.sw.svc.atts i

/-- Changes a herd's attachment. -/
def State.onAttach (s : State) (i : Nat) (f : Attach → Attach) : State :=
  s.onSvc fun v => match lookup v.atts i with
    | some a => { v with atts := insertAt v.atts i (f a) }
    | none => v

/-- The partition of a context at the switch, when it is bound (R405, R406). -/
def State.ctxPtn (s : State) (ctx : Nat) : Option Nat :=
  if s.flag .sw CTX_ENTRY_VALID (ctx + 1) then some (s.get .sw CTX_ENTRY_PARTITION (ctx + 1)) else none

/-- Whether a context is orphaned (R439). -/
def State.orphaned (s : State) (ctx : Nat) : Bool := s.flag .sw CTX_STS_ORPHANED (ctx + 1)

/-- Whether the port toward an endpoint is ACTIVE. -/
def State.portUpTo (s : State) (node : Nat) : Bool := (s.egressOf node).elim false fun n => s.portState n == 2

/-- The scratch units of 64 KiB that no herd holds (R185, R212). -/
def State.freeUnits (s : State) : Nat := 2048 - (s.sw.hrd.herds.map fun e => e.2.units).sum

/-! ### Packets (R178, R296, R297) -/

/-- A herd packet from this switch by way of an endpoint, in the target form of a switch, herd and slot. RESEND marks the packets of a step that failed over to this herd. PRESUMED, log 184. -/
def State.herdPkt (s : State) (op node sid herd slot : Nat) (pre : HerdPrefix) (data : List Byte) (h : Herd) : Packet :=
  sealPkt { dst := node, src := s.switchId, srcSw := true, tc := if op < 0x68 then 3 else 4, op := op,
            addr := targetForm 1 sid (herd % 4096 + (slot % 128) * 4096), len := 16 + data.length, ctx := h.ctx,
            ptn := (s.ctxPtn h.ctx).getD 0, resend := h.moved, payload := pre.bytes ++ data }

/-- The chain signature: CRC-32C of the descriptor's chain-wide fields in word and bit order, the other bits zero (R182). -/
def chainSig (d : List Word) : Nat :=
  let m : List Nat := [0x000000000 + (2 ^ 22 - 1) + 2 ^ 25, 2 ^ 64 - 1, 2 ^ 40 - 1, 0, 2 ^ 40 - 1, 2 ^ 50 - 1, 2 ^ 41 - 1, (2 ^ 17 - 1) * 2 ^ 34]
  (crc32c ((d.zip m).map fun e => leBytes 8 (e.1.toNat &&& e.2)).flatten).toNat

/-- The prefix of a herd's packets: signature and step filled in. -/
def Herd.pre (h : Herd) (chunk pkt shard : Nat) : HerdPrefix := ⟨h.sig, h.step, chunk, pkt, shard⟩

/-- The internal port of the core that works on a chunk, where a herd's results and signals enter the crossbar; 64 for a chunk that no core has (R241). -/
def Herd.corePort (h : Herd) (pre : HerdPrefix) : Nat := 64 + (lookup h.cores pre.chunk).getD 0

/-- Sends a packet to a member of a herd. -/
def State.toMember (s : State) (i slot node op : Nat) (pre : HerdPrefix) (data : List Byte) (h : Herd) : State :=
  s.swSend (s.herdPkt op node s.switchId i slot pre data h) (h.corePort pre)

/-- Sends a packet up the link of a slot. -/
def State.toParent (s : State) (slot op : Nat) (pre : HerdPrefix) (data : List Byte) (h : Herd) : State :=
  s.swSend (s.herdPkt op (h.upNode slot) (h.upSwitch slot) (h.upHerd slot) (h.upSlot slot) pre data h) (h.corePort pre)

/-- Sends a packet down to the child herd of a slot. The slot field names this herd's slot. -/
def State.toChild (s : State) (slot op : Nat) (pre : HerdPrefix) (data : List Byte) (h : Herd) : State :=
  s.swSend (s.herdPkt op (h.node slot) (h.childSwitch slot) (h.childHerd slot) slot pre data h) (h.corePort pre)

/-- The completion record of R196. PRESUMED, log 88. -/
def cplRecord (status flags reason : Nat) (swappedOut twinLost : Bool) (step dropped count : Nat) : List Byte :=
  leBytes 4 (status + flags * 2 ^ 8 + reason * 2 ^ 16 + b2n swappedOut * 2 ^ 19 + b2n twinLost * 2 ^ 20)
    ++ leBytes 4 step ++ leBytes 4 dropped ++ leBytes 4 count

/-- Completes a member's command by a HERD_CPL toward the sender of a packet, where the herd refuses it (R189, R190, R211). PRESUMED, log 92. -/
def State.refuseMember (s : State) (k : Packet) (status reason : Nat) (swappedOut twinLost : Bool := false) : State :=
  let h := herdPrefix k
  s.swSend (sealPkt { dst := k.src, src := s.switchId, srcSw := true, tc := 4, op := opHERD_CPL,
                      addr := k.addr, len := 32, ctx := k.ctx, ptn := k.ptn,
                      payload := h.bytes ++ cplRecord status 0 reason swappedOut twinLost h.step 0 0 })

/-! ### Abort and failover (R206 to R210) -/

/-- The prefix of a HERD_ABORT: the reason in the packet index, with the bits that a member's record takes from its herd above it; 1 in the chunk index for a failover. PRESUMED, log 88. -/
def Herd.abortPre (h : Herd) (reason : Nat) (fo : Bool) (bits : Nat := 0) : HerdPrefix := h.pre (b2n fo) (reason + 8 * bits) 0

/-- Whether an endpoint was replaced by a spare in this step (R196). -/
def Herd.swappedOut (h : Herd) (node : Nat) : Bool := h.swapped.any fun w => w.old == node

/-- SWAPPED_OUT and TWIN_LOST of a member's record, as the bits of its HERD_ABORT. PRESUMED, log 88. -/
def Herd.memberBits (h : Herd) (node : Nat) : Nat := b2n (h.swappedOut node) + 2 * b2n (h.twinLost.contains node)

/-- Sends an abort request up every up-link but one. -/
def State.askUp (s : State) (h : Herd) (reason : Nat) (fo : Bool) (except : Option Nat := none) : State :=
  (h.ups.filter fun u => some u != except).foldl (fun s u => s.toParent u opHERD_ABORT (h.abortPre reason fo) [] h) s

/-- The members of a slot that hear of an abort: the contributors, and an endpoint replaced in this step. -/
def Herd.hearers (h : Herd) (i : Nat) : List Nat :=
  h.contributors i ++ ((h.swapped.filter fun w => w.slot == i).map (·.old))

/-- The endpoints of the member slots that take part in the step: contributors, and endpoints replaced in it. DEDUCED, log 91. -/
def Herd.recipients (h : Herd) : List (Nat × Nat) :=
  ((h.validSlots.filter fun v => !h.isChild v).map fun v => (h.hearers v).map fun n => (v, n)).flatten

/-- Sends the decision down to every member and child herd. -/
def State.tellDown (s : State) (i : Nat) (h : Herd) (reason : Nat) (fo : Bool) : State :=
  h.validSlots.foldl (fun s v =>
    if h.isChild v then s.toChild v opHERD_ABORT (h.abortPre reason fo) [] h
    else (h.hearers v).foldl (fun s n => s.toMember i v n opHERD_ABORT (h.abortPre reason fo (h.memberBits n)) [] h) s) s

/-- A completion of the HRD command that waits (R212), and the end of the claim (R183). -/
def State.hrdDone (s : State) (status detail : Nat) : State :=
  let s := (s.put .sw HRD_CMD_STS_STATUS status).put .sw HRD_CMD_STS_DETAIL detail
  let s := s.put .sw HRD_CMD_STS_BUSY 0
  let s := (upTo 8).foldl (fun s k => s.wr .sw (HRD_DESC.word k) 0) s
  s.onHrd fun x => { x with running := none, stage := {}, entries := [] }

/-- Frees a herd: its scratch, HSYNC and attachment (R186, R227). -/
def State.freeHerd (s : State) (i : Nat) : State :=
  match s.herd i with
  | some h =>
    let s := (s.put .sw SYN_CFG_HERD_BOUND 0 (synBank h.hsync)).put .sw SYN_CFG_HERD 0 (synBank h.hsync)
    let s := s.onHrd fun x => { x with herds := removeAt x.herds i }
    s.onSvc fun v => { v with atts := removeAt v.atts i }
  | none => s

/-- The outcome of the step that ends joins the last 64 (R189): 0 completed, else the reason. -/
def Herd.record (h : Herd) (outcome : Nat) (flags : Nat := 0) (records : SMap (List Byte) := []) : Herd :=
  { h with outcomes := (⟨h.step, outcome, flags, records⟩ :: h.outcomes).take 64 }

/-- Whether every reachable slot has acknowledged the abort (R209). -/
def State.allAcked (s : State) (h : Herd) : Bool :=
  h.validSlots.all fun v =>
    if h.isChild v then !s.portUpTo (h.node v) || h.acked.contains (2 ^ 17 + v)
    else (h.contributors v).all fun n => !s.portUpTo n || h.acked.contains n

/-- A herd leaves ABORTING (R209): the step is consumed, the acknowledgement goes up, and a command that waited completes (R186). -/
def State.leaveAborting (s : State) (i : Nat) : State :=
  match s.herd i with
  | some h =>
    let s := h.ups.foldl (fun s u => s.toParent u opHERD_ACK (h.pre 0 0 0) [] h) s
    let rs := h.recipients.foldl (fun m e =>
      insertAt m e.2 (cplRecord stABORTED 0 h.reason (h.swappedOut e.2) (h.twinLost.contains e.2) h.step 0 0)) []
    let h' := { h.record h.reason 0 rs with
      state := 1, step := (h.step + 1) % 2 ^ 32, work := [], joined := [], asked := none, decided := none, acked := [],
      cpls := [], swapped := [], flags := 0, twinLost := [], counts := [], signals := [], cores := [], finished := false, ending := 0 }
    let s := s.putHerd i h'
    let s := s.when (h.ending == 2) fun s => s.freeHerd i
    s.when (h.ending != 0) fun s => if s.sw.hrd.running.isSome then s.hrdDone stOK 0 else s
  | none => s

/-- Ends ABORTING when the last acknowledgement is in. -/
def State.checkAcked (s : State) (i : Nat) : State :=
  match s.herd i with
  | some h => if h.state == 3 && h.decided.isSome && s.allAcked h then s.leaveAborting i else s
  | none => s

/-- Drops the copies of a herd's results that wait in the switch's queues (R260). DEDUCED, log 95. -/
def State.dropResidue (s : State) (i : Nat) : State :=
  s.dropQueued fun q => q.waitsJoin && q.origin.isNone && herdIx q.pkt == i

/-- The stores of a chunk that are being performed when its step aborts: they run on and the chunk completes with them (R222, R224). -/
def State.keepStores (s : State) (i : Nat) : State :=
  match s.herd i with
  | some h => match h.work.find? fun e => e.2.stores && !e.2.waits.isEmpty with
    | some e => s.onAttach i fun a => { a with finishing := some (h.step, e.2.waits) }
    | none => s
  | none => s

/-- Takes a decision at a herd (R207, R210): the reason, or a failover; `via` is the up-link it came through, or the one whose loss it answers. -/
def State.decideHerd (s : State) (i reason : Nat) (fo : Bool) (via : Option Nat) : State :=
  match s.herd i with
  | some h =>
    let now := s.now .sw
    let h' := { h with state := 3, reason := reason, failedOver := fo, decided := some reason, decidedAt := now,
                       abortAt := if h.state == 3 then h.abortAt else now, work := [], acked := [] }
    let s := ((s.keepStores i).putHerd i h').dropResidue i
    let s := s.when (!fo) fun s => s.synEnterError .sw h.hsync reason
    let s := s.event .sw pgHrd (if fo then .herdFailover else .herdAbort) i h.step (rung := some (if fo then 3 else 5)) (reason := reason)
    let s := s.tellDown i h reason fo
    let s := s.when (!h.isRoot && h.firstStage) fun s => s.askUp h reason fo via
    s.checkAcked i
  | none => s

/-- The reason that a herd took at this tick: decided, or asked for and not decided yet. -/
def Herd.tickReason (h : Herd) (now : Nat) : Option Nat :=
  if h.decided.isSome then (if h.decidedAt == now && !h.failedOver then some h.reason else none)
  else h.asked.bind fun a => if a.2 == now then some a.1 else none

/-- The herd with the reason that it took at this tick replaced. -/
def Herd.withReason (h : Herd) (reason : Nat) : Herd :=
  if h.decided.isSome then { h with reason := reason, decided := some reason }
  else { h with asked := h.asked.map fun a => (reason, a.2) }

/-- Two conditions of one tick: the stronger reason replaces the one decided or asked for at this tick (R208). -/
def State.restate (s : State) (i reason : Nat) : State :=
  match s.herd i with
  | some h =>
    if (h.tickReason (s.now .sw)).any fun r => reasonRank reason < reasonRank r then
      let mend (q : QEntry) : QEntry :=
        if q.origin.isNone && q.pkt.op == opHERD_ABORT && q.at_ == s.now .sw && (herdPrefix q.pkt).sig == h.sig
            && (herdPrefix q.pkt).step == h.step then
          { q with pkt := sealPkt { q.pkt with payload := (h.abortPre reason false ((herdPrefix q.pkt).pkt / 8)).bytes } }
        else q
      let s := s.onCore fun c => { c with queue := c.queue.map mend }
      let s := s.when h.decided.isSome fun s => s.put .sw SYN_STS_REASON reason (synBank h.hsync)
      s.onHerd i fun h => h.withReason reason
    else s
  | none => s

/-- A condition that aborts a running step (R206, R207): a root decides it, another herd stops its chunks and asks up. A herd whose results have all left holds a step that has completed at the root: no condition aborts it (R208). `path` marks the loss of a herd or of a path between herds, which FAILOVER covers (R210). DEDUCED, log 93. -/
def State.herdCondition (s : State) (i reason : Nat) (path : Bool := false) : State :=
  match s.herd i with
  | some h =>
    if h.state == 2 && h.finished then s
    else if h.state == 2 then
      if h.isRoot then s.decideHerd i reason (path && h.mayMove && (s.attach i).isNone) none
      else
        let s := s.putHerd i { h with state := 3, asked := some (reason, s.now .sw), abortAt := s.now .sw, work := [] }
        (s.dropResidue i).askUp h reason (path && h.mayMove)
    else if h.state == 3 then s.restate i reason
    else s
  | none => s

/-- An up-link of a running herd, or of one that has asked for an abort, is unreachable (R207, R534): the herd decides for its own subtree, and sends the decision on over its other up-links. -/
def State.upLost (s : State) (i slot : Nat) : State :=
  match s.herd i with
  | some h =>
    if h.state == 1 || h.decided.isSome || h.finished then s
    else s.decideHerd i rsMEMBER_LOST h.mayMove (some slot)
  | none => s

/-- Whether a member slot still has a contributor whose port is ACTIVE (R204, R207). -/
def State.memberAlive (s : State) (h : Herd) (v : Nat) : Bool := (h.contributors v).any fun n => s.portUpTo n

/-- The loss that a slot's port means for a herd: none, a lost member, or a lost path. -/
inductive SlotLoss where
  | none | member | child | up
deriving DecidableEq, Repr

/-- Judges the port of a slot (R206, R207). -/
def State.slotLoss (s : State) (h : Herd) (v : Nat) : SlotLoss :=
  if h.isChild v then
    if s.portUpTo (h.node v) then .none else if h.upSwitch v != 0 then .up else .child
  else if !s.memberAlive h v then .member
  else if h.upSwitch v != 0 && !s.portUpTo (h.upNode v) then .up
  else .none

/-- Acts on the loss of a slot. -/
def State.actOnLoss (s : State) (i v : Nat) : SlotLoss → State
  | .none => s
  | .member => s.herdCondition i rsMEMBER_LOST
  | .child => s.herdCondition i rsMEMBER_LOST true
  | .up => s.upLost i v

/-- A switch port has left ACTIVE: every herd in a step judges the slots bound to it, and an abort that waits for them may end (R206, R207, R209). -/
def State.herdsPortLost (s : State) (n : Nat) : State :=
  s.sw.hrd.herds.foldl (fun s e =>
    let h := e.2
    let at_ (v : Nat) : Bool := (h.upNode v :: h.contributors v).any fun m => s.egressOf m == some n
    let s := (h.validSlots.filter at_).foldl (fun s v =>
      match s.herd e.1 with
      | some h' =>
        if h'.state == 2 then s.actOnLoss e.1 v (s.slotLoss h' v)
        else s.when (s.slotLoss h' v == .up) fun s => s.upLost e.1 v
      | none => s) s
    s.checkAcked e.1) s

/-- Every running herd that passes a test aborts with a reason. -/
def State.abortHerds (s : State) (reason : Nat) (f : Nat → Herd → Bool) : State :=
  s.sw.hrd.herds.foldl (fun s e => if f e.1 e.2 then s.herdCondition e.1 reason else s) s

/-- A third fault overlaps two on the link of a port (R463): every running herd whose chain uses the port aborts with MEMBER_LOST, whatever standby or twin it has. DEDUCED, log 185. -/
def State.thirdFault (s : State) (p : Part) (n : Nat) : State :=
  match p with
  | .sw => s.abortHerds rsMEMBER_LOST fun _ h =>
      h.validSlots.any fun v => (h.upNode v :: h.contributors v).any fun m => s.egressOf m == some n
  | .ep => s

/-- The partitions that a herd's program, its streams or its region use. -/
def State.attachPtns (s : State) (i : Nat) : List Nat :=
  match s.attach i with
  | some a =>
    if a.region then ((lookup s.sw.svc.regions a.slot).map (·.ptn)).toList
    else (a.streams.filter (·.valid)).map (·.ptn)
  | none => []

/-- A partition enters CLOSING: the herds that use it or are bound to it abort with REVOKED, and their attachments break (R136, R227). -/
def State.revokeHerds (s : State) (p : Nat) : State :=
  let s := s.sw.hrd.herds.foldl (fun s e =>
    if (s.attachPtns e.1).contains p then s.onAttach e.1 fun a => { a with broken := true } else s) s
  s.abortHerds rsREVOKED fun i h => s.ctxPtn h.ctx == some p || (s.attachPtns i).contains p

end Sys2Proof.Machine
end

