-- ==== Sys2Proof/Machine/Cores.lean ====
section
/-! DEFINITION. The reduction cores (R171 to R175): fences, self-test, readmission and the counters of a core. -/

namespace Sys2Proof.Machine

/-- The state of a core: 0 ACTIVE, 1 FENCED, 2 SELFTEST. -/
def State.coreState (s : State) (c : Nat) : Nat := s.get .sw RDC_STS_STATE 0 c

/-- Whether a core takes work. -/
def State.coreActive (s : State) (c : Nat) : Bool := c < 64 && s.coreState c == 0

/-- Whether a herd's operation needs arithmetic. -/
def Herd.reducing (h : Herd) : Bool := h.op == 0 || h.op == 1 || h.op == 4

/-- With no core ACTIVE, every herd that needs arithmetic aborts (R173). -/
def State.noCoreLeft (s : State) : State :=
  if (upTo 64).any s.coreActive then s else s.abortHerds rsINTEGRITY fun _ h => h.reducing

/-- A core leaves service: its state, cause and record, and a CORE_FENCE record at L4 (R172, R175). -/
def State.fenceCore (s : State) (c cause : Nat) : State :=
  let s := (s.put .sw RDC_STS_STATE 1 0 c).put .sw RDC_STS_CAUSE cause 0 c
  let s := (s.put .sw RDC_FENCE_REC_CAUSE cause 0 c).put .sw RDC_FENCE_REC_VALID 1 0 c
  let s := s.put .sw RDC_FENCE_REC_TICK (s.now .sw % 2 ^ 32) 0 c
  -- its chunks go to the cores that remain
  let s := s.onHrd fun x => { x with herds := x.herds.map fun e => (e.1, { e.2 with cores := e.2.cores.filter fun m => m.2 != c }) }
  (s.event .sw (pgRdc + c) .coreFence c cause (rung := some 4)).noCoreLeft

/-- CORE_RESIDUE_FAULT (R172, R173): a residue mismatch, or a wrong self-check, with the herd and chunk that the core was reducing, if any. The chunk is reduced again from its start; at its second failed check the herd aborts. -/
def coreResidueFault (c : Nat) (selfCheck : Bool) (work : Option (Nat × Nat)) (s : State) : State :=
  if !s.coreActive c then s
  else
    let s := s.when (!selfCheck) fun s => s.addWrap .sw RDC_RESIDUE_ERR_COUNT 1 0 c
    let hit : Option (Nat × Nat × Herd × Chunk) := work.bind fun w => (s.herd w.1).bind fun h =>
      (lookup h.work w.2).map fun x => (w.1, w.2, h, x)
    match hit with
    | some (i, n, h, x) =>
      let again : Bool := x.fails != 0
      let s := s.putHerd i { h with work := insertAt h.work n { x with fails := x.fails + 1 } }
      let s := s.fenceCore c (if again then 5 else if selfCheck then 2 else 1)
      s.when again fun s => s.herdCondition i rsINTEGRITY
    | none => s.fenceCore c (if selfCheck then 2 else 1)

def execCoreResidueFault (c : Nat) (selfCheck : Bool) (work : Option (Nat × Nat)) (s : State) : Host.Outcome State Fault Refusal := .next (coreResidueFault c selfCheck work s)

/-- RDC.CTL.FENCE (R175): cause SOFTWARE; no effect on a core that is not ACTIVE. -/
def State.rdcFence (s : State) (c : Nat) : Written := (if s.coreState c == 0 then s.fenceCore c 3 else s, true)

/-- RDC_FENCE_WRITE. -/
def rdcFenceWrite (path : Path) (c : Nat) (s : State) : State :=
  s.writeBy path .sw (pgRdc + c) 0x48 fun s => s.rdcFence c

def execRdcFenceWrite (path : Path) (c : Nat) (s : State) : Host.Outcome State Fault Refusal := .next (rdcFenceWrite path c s)

/-- RDC.CTL.READMIT (R175): a FENCED core whose last self-test passed. -/
def State.rdcReadmit (s : State) (c : Nat) : Written :=
  if s.coreState c == 1 && s.flag .sw RDC_SELFTEST_STS_PASS 0 c && !s.flag .sw RDC_SELFTEST_STS_BUSY 0 c then
    (s.put .sw RDC_STS_STATE 0 0 c, true)
  else s.refused .sw (pgRdc + c)

/-- RDC_READMIT_WRITE. -/
def rdcReadmitWrite (path : Path) (c : Nat) (s : State) : State :=
  s.writeBy path .sw (pgRdc + c) 0x48 fun s => s.rdcReadmit c

def execRdcReadmitWrite (path : Path) (c : Nat) (s : State) : Host.Outcome State Fault Refusal := .next (rdcReadmitWrite path c s)

/-- RDC.CTL.SELFTEST (R174, R175): of a FENCED core with no self-test running. -/
def State.rdcSelftest (s : State) (c : Nat) : Written :=
  if s.coreState c == 1 && !s.flag .sw RDC_SELFTEST_STS_BUSY 0 c then
    ((s.put .sw RDC_SELFTEST_STS_BUSY 1 0 c), true)
  else s.refused .sw (pgRdc + c)

/-- RDC_SELFTEST_WRITE. -/
def rdcSelftestWrite (path : Path) (c : Nat) (s : State) : State :=
  s.writeBy path .sw (pgRdc + c) 0x48 fun s => s.rdcSelftest c

def execRdcSelftestWrite (path : Path) (c : Nat) (s : State) : Host.Outcome State Fault Refusal := .next (rdcSelftestWrite path c s)

/-- SELFTEST_COMPLETE (R174): the result of a self-test, with the format of the first failing vector. At reset a core that passes becomes ACTIVE and one that fails is FENCED with cause SELFTEST_FAIL; later the core stays FENCED until it is readmitted. DEDUCED, log 107. -/
def selftestComplete (c : Nat) (pass : Bool) (failFmt : Nat) (s : State) : State :=
  if 64 ≤ c || !s.flag .sw RDC_SELFTEST_STS_BUSY 0 c then s
  else
    let s := (s.put .sw RDC_SELFTEST_STS_BUSY 0 0 c).put .sw RDC_SELFTEST_STS_PASS (b2n pass) 0 c
    let s := (s.put .sw RDC_SELFTEST_STS_FAIL (b2n !pass) 0 c).put .sw RDC_SELFTEST_STS_FAIL_FMT (if pass then 0 else failFmt) 0 c
    if s.coreState c == 2 then
      if pass then s.put .sw RDC_STS_STATE 0 0 c else s.fenceCore c 4
    else s

def execSelftestComplete (c : Nat) (pass : Bool) (failFmt : Nat) (s : State) : Host.Outcome State Fault Refusal := .next (selftestComplete c pass failFmt s)

/-! ### The counters of a core (R175) -/

/-- Adds lane-operations to a core: units of 144, the rest kept. DEDUCED, log 99. -/
def State.addOps (s : State) (c ops : Nat) : State :=
  let t := (lookup s.sw.hrd.opsRem c).getD 0 + ops
  (s.addWrap .sw RDC_OPS_COUNT (t / 144) 0 c).onHrd fun x => { x with opsRem := insertAt x.opsRem c (t % 144) }

/-- Charges a row's additions, one lane-operation for each element, to an ACTIVE core (R237). The core is a free value. DESIGN CHOICE, log 118. -/
def State.rowOps (s : State) (n : Nat) : State :=
  let can := (upTo 64).filter s.coreActive
  if can.isEmpty then s else (s.addOps (can.getD (s.draw % can.length) 0) n).drawn

/-- A chunk completed on a core, with the flags that it raised there. -/
def State.coreChunk (s : State) (c fl : Nat) : State :=
  let s := s.addWrap .sw RDC_CHUNKS_COUNT 1 0 c
  let s := s.when (hasFlag fl fINVALID) fun s => s.count .sw RDC_FLAG_CNT_INVALID 1 0 c
  let s := s.when (overflowed fl) fun s => s.count .sw RDC_FLAG_CNT_OVERFLOW 1 0 c
  let s := s.when (hasFlag fl fSATURATE) fun s => s.count .sw RDC_FLAG_CNT_SATURATE 1 0 c
  s.when (hasFlag fl fNAN_INPUT) fun s => s.count .sw RDC_FLAG_CNT_NAN_INPUT 1 0 c

end Sys2Proof.Machine
end

