-- ==== Sys2Proof/Machine/Fp.lean ====
section
/-! DEFINITION. Floating-point values, exactly: formats (R152), decoding, rounding to nearest even and stochastic rounding (R161, R164, R165), addition, multiplication with one rounding, minimum and maximum (R94, R154, R166, R168, R219). -/

namespace Sys2Proof.Machine

/-- A floating-point value: NaN, an infinity, or (-1)^neg × man × 2^exp. Zero keeps its sign. -/
inductive FV where
  | nan
  | inf (neg : Bool)
  | fin (neg : Bool) (man : Nat) (exp : Int)
deriving DecidableEq, Repr

/-- How a format treats its highest exponent (R152): as IEEE 754, as FP8 E4M3, or with no special codes. -/
inductive Special where
  | ieee | e4m3 | none
deriving DecidableEq, Repr

/-- A floating-point format: exponent bits, fraction bits, bias, special codes. -/
structure FpFmt where
  e : Nat
  m : Nat
  bias : Nat
  sp : Special
deriving DecidableEq, Repr

def fpE4M3 : FpFmt := ⟨4, 3, 7, .e4m3⟩
def fpE5M2 : FpFmt := ⟨5, 2, 15, .ieee⟩
def fp16 : FpFmt := ⟨5, 10, 15, .ieee⟩
def bf16 : FpFmt := ⟨8, 7, 127, .ieee⟩
def fp32 : FpFmt := ⟨8, 23, 127, .ieee⟩
def fp64 : FpFmt := ⟨11, 52, 1023, .ieee⟩
def fpE3M2 : FpFmt := ⟨3, 2, 3, .none⟩
def fpE2M3 : FpFmt := ⟨2, 3, 1, .none⟩
def fpE2M1 : FpFmt := ⟨2, 1, 1, .none⟩

/-- The bits of an element of a format. -/
def FpFmt.bits (f : FpFmt) : Nat := 1 + f.e + f.m

/-- The largest finite magnitude as significand and exponent. -/
def FpFmt.maxFin (f : FpFmt) : Nat × Int :=
  match f.sp with
  | .ieee => (2 ^ (f.m + 1) - 1, (2 ^ f.e - 2 : Int) - f.bias - f.m)
  | .e4m3 => (2 ^ (f.m + 1) - 2, (2 ^ f.e - 1 : Int) - f.bias - f.m)
  | .none => (2 ^ (f.m + 1) - 1, (2 ^ f.e - 1 : Int) - f.bias - f.m)

/-- The exponent of the smallest spacing: that of the subnormals. -/
def FpFmt.minExp (f : FpFmt) : Int := 1 - f.bias - f.m

/-- The value of a code (R152). -/
def fpDecode (f : FpFmt) (code : Nat) : FV :=
  let s := code.testBit (f.e + f.m)
  let ex := bitsOf code f.m f.e
  let fr := bitsOf code 0 f.m
  let top := ex == 2 ^ f.e - 1
  let plain : FV := if ex == 0 then .fin s fr f.minExp else .fin s (2 ^ f.m + fr) (f.minExp + ex - 1)
  match f.sp with
  | .ieee => if top then (if fr == 0 then .inf s else .nan) else plain
  | .e4m3 => if top && fr == 2 ^ f.m - 1 then .nan else plain
  | .none => plain

/-- The canonical quiet NaN of a format (R94, R162). -/
def fpNaN (f : FpFmt) : Nat :=
  match f.sp with
  | .ieee => (2 ^ f.e - 1) * 2 ^ f.m + 2 ^ (f.m - 1)
  | .e4m3 => 2 ^ (f.e + f.m) - 1
  | .none => 0

/-- The place of the leading bit of a nonzero number. -/
def msb (n : Nat) : Nat := Nat.log2 n

/-- n × 2^k as a number, discarding what falls below one. -/
def shiftTo (n : Nat) (k : Int) : Nat := if 0 ≤ k then n <<< k.toNat else n >>> (-k).toNat

/-- The spacing exponent of a format at a nonzero magnitude. -/
def FpFmt.spacing (f : FpFmt) (man : Nat) (exp : Int) : Int := max ((msb man : Int) + exp - f.m) f.minExp

/-- A magnitude cut to a format's spacing: whole units, and whether anything remains below, at or above one half. -/
structure Cut where
  units : Nat
  exp : Int
  exact : Bool
  half : Bool      -- the remainder is at least one half
  tie : Bool       -- the remainder is exactly one half
  frac32 : Nat     -- floor of the remainder × 2^32
deriving DecidableEq, Repr

/-- Cuts man × 2^exp at a spacing exponent. -/
def cutAt (man : Nat) (exp e : Int) : Cut :=
  if e ≤ exp then ⟨man <<< (exp - e).toNat, e, true, false, false, 0⟩
  else
    let k := (e - exp).toNat
    let u := man >>> k
    let r := man % 2 ^ k
    ⟨u, e, r == 0, 2 ^ k ≤ 2 * r, 2 * r == 2 ^ k, r * 2 ^ 32 / 2 ^ k⟩

/-- Rounds a cut: to nearest even, or stochastically with the word r (R165). -/
def Cut.rounded (c : Cut) (sr : Option Nat) : Nat :=
  if c.exact then c.units
  else match sr with
    | some r => if 2 ^ 32 ≤ c.frac32 + r then c.units + 1 else c.units
    | none => if c.tie then c.units + c.units % 2 else if c.half then c.units + 1 else c.units

/-- Compares man × 2^exp with another such magnitude: less. -/
def magLt (a : Nat) (ea : Int) (b : Nat) (eb : Int) : Bool :=
  let e := min ea eb
  a <<< (ea - e).toNat < b <<< (eb - e).toNat

/-- A rounded value with the flags that its rounding raised. -/
structure Rounded where
  v : FV
  fl : Nat
deriving DecidableEq, Repr

/-- Rounds a value to a format (R161): RNE, or SR with the word r. A finite result beyond the format overflows to an infinity, to the E4M3 NaN, or with `sat` to ±448; element formats clamp. -/
def roundFp (f : FpFmt) (sat : Bool) (sr : Option Nat) (v : FV) : Rounded :=
  let past (s : Bool) : FV :=
    match f.sp with
    | .ieee => .inf s
    | .e4m3 => if sat then .fin s f.maxFin.1 f.maxFin.2 else .nan
    | .none => .fin s f.maxFin.1 f.maxFin.2
  match v with
  | .nan => ⟨.nan, 0⟩
  | .inf s => if f.sp == .ieee then ⟨.inf s, 0⟩ else ⟨past s, fOVERFLOW⟩
  | .fin s 0 _ => ⟨.fin s 0 f.minExp, 0⟩
  | .fin s man exp =>
    let c := cutAt man exp (f.spacing man exp)
    let u := c.rounded sr
    if magLt f.maxFin.1 f.maxFin.2 u c.exp then ⟨past s, fOVERFLOW⟩
    else ⟨.fin s u c.exp, flagIf (!c.exact && decide (u < 2 ^ f.m) && c.exp == f.minExp) fUNDERFLOW⟩

/-- The code of a value that the format holds. -/
def fpEncode (f : FpFmt) (v : FV) : Nat :=
  let sgn (s : Bool) : Nat := if s then 2 ^ (f.e + f.m) else 0
  match v with
  | .nan => fpNaN f
  | .inf s => sgn s + (2 ^ f.e - 1) * 2 ^ f.m
  | .fin s 0 _ => sgn s
  | .fin s man exp =>
    let e := f.spacing man exp
    let u := shiftTo man (exp - e)
    if u < 2 ^ f.m then sgn s + u
    else sgn s + (e - f.minExp + 1).toNat * 2 ^ f.m + (u - 2 ^ f.m)

/-- The exact sum of two finite values as sign, magnitude and exponent; zero sums take + unless both are −0. -/
def exactAdd (s1 : Bool) (m1 : Nat) (e1 : Int) (s2 : Bool) (m2 : Nat) (e2 : Int) : FV :=
  let e := min e1 e2
  let a := m1 <<< (e1 - e).toNat
  let b := m2 <<< (e2 - e).toNat
  if s1 == s2 then .fin s1 (a + b) e
  else if a == b then .fin false 0 e
  else if b < a then .fin s1 (a - b) e
  else .fin s2 (b - a) e

/-- The exact sum under IEEE 754, INVALID where opposite infinities meet. -/
def fvAdd (a b : FV) : Rounded :=
  match a, b with
  | .nan, _ => ⟨.nan, 0⟩
  | _, .nan => ⟨.nan, 0⟩
  | .inf s, .inf t => if s == t then ⟨.inf s, 0⟩ else ⟨.nan, fINVALID⟩
  | .inf s, _ => ⟨.inf s, 0⟩
  | _, .inf t => ⟨.inf t, 0⟩
  | .fin s1 m1 e1, .fin s2 m2 e2 => ⟨exactAdd s1 m1 e1 s2 m2 e2, 0⟩

/-- The exact product under IEEE 754, INVALID for zero times infinity. -/
def fvMul (a b : FV) : Rounded :=
  match a, b with
  | .nan, _ => ⟨.nan, 0⟩
  | _, .nan => ⟨.nan, 0⟩
  | .inf s, .inf t => ⟨.inf (s != t), 0⟩
  | .inf s, .fin t m _ => if m == 0 then ⟨.nan, fINVALID⟩ else ⟨.inf (s != t), 0⟩
  | .fin s m _, .inf t => if m == 0 then ⟨.nan, fINVALID⟩ else ⟨.inf (s != t), 0⟩
  | .fin s1 m1 e1, .fin s2 m2 e2 => ⟨.fin (s1 != s2) (m1 * m2) (e1 + e2), 0⟩

/-- The sign flipped. -/
def fvNeg : FV → FV
  | .nan => .nan
  | .inf s => .inf (!s)
  | .fin s m e => .fin (!s) m e

/-- Rounds an intermediate result with RNE; an operation to zero or a subnormal raises nothing. -/
def roundOp (f : FpFmt) (x : Rounded) : Rounded :=
  let r := roundFp f false none x.v
  ⟨r.v, x.fl ||| (r.fl &&& fOVERFLOW)⟩

/-- Addition in a format (R94, R154). -/
def fpAdd (f : FpFmt) (a b : FV) : Rounded := roundOp f (fvAdd a b)

/-- Multiplication in a format (R219). -/
def fpMul (f : FpFmt) (a b : FV) : Rounded := roundOp f (fvMul a b)

/-- a × b + c rounded once (R218). -/
def fpFma (f : FpFmt) (a b c : FV) : Rounded :=
  let p := fvMul a b
  let r := fvAdd p.v c
  roundOp f ⟨r.v, p.fl ||| r.fl⟩

/-- The signed value as a pair: less, with −0 below +0 when `zeros` says so. -/
def fvLt (zeros : Bool) (a b : FV) : Bool :=
  match a, b with
  | .nan, _ => false
  | _, .nan => false
  | .inf s, .inf t => s && !t
  | .inf s, _ => s
  | _, .inf t => !t
  | .fin s1 m1 e1, .fin s2 m2 e2 =>
    if m1 == 0 && m2 == 0 then zeros && s1 && !s2
    else if m1 == 0 then !s2
    else if m2 == 0 then s1
    else if s1 != s2 then s1
    else if s1 then magLt m2 e2 m1 e1 else magLt m1 e1 m2 e2

/-- MIN of R168: any NaN gives NaN, −0 orders below +0. -/
def fvMin (a b : FV) : FV := if a == .nan || b == .nan then .nan else if fvLt true b a then b else a

/-- MAX of R168. -/
def fvMax (a b : FV) : FV := if a == .nan || b == .nan then .nan else if fvLt true a b then b else a

/-- FMIN of R94: the operand that is not NaN when exactly one is. -/
def fvMinNum (a b : FV) : FV := if a == .nan then b else if b == .nan then a else if fvLt true b a then b else a

/-- FMAX of R94. -/
def fvMaxNum (a b : FV) : FV := if a == .nan then b else if b == .nan then a else if fvLt true a b then b else a

/-! ### Floating-point atomics (R91, R94) -/

/-- The sum of two codes of a format, rounded once to nearest even. -/
def codeAdd (f : FpFmt) (a b : Nat) : Nat := fpEncode f (fpAdd f (fpDecode f a) (fpDecode f b)).v

/-- The sum of two packed words of two 16-bit lanes. -/
def packedAdd (f : FpFmt) (a b : Nat) : Nat :=
  codeAdd f (a % 65536) (b % 65536) + 65536 * codeAdd f (bitsOf a 16 16) (bitsOf b 16 16)

/-- The format of a 4- or 8-byte floating-point atomic. -/
def fpOfSize (n : Nat) : FpFmt := if n == 8 then fp64 else fp32

/-- FMIN and FMAX on codes. -/
def codeMin (f : FpFmt) (a b : Nat) : Nat := fpEncode f (fvMinNum (fpDecode f a) (fpDecode f b))

def codeMax (f : FpFmt) (a b : Nat) : Nat := fpEncode f (fvMaxNum (fpDecode f a) (fpDecode f b))

/-! ### The random word of stochastic rounding (R164) -/

def srMix (z : Nat) : Nat :=
  let z := ((z ^^^ (z >>> 30)) * 0xBF58476D1CE4E5B9) % 2 ^ 64
  let z := ((z ^^^ (z >>> 27)) * 0x94D049BB133111EB) % 2 ^ 64
  z ^^^ (z >>> 31)

/-- sr_word(seed, step, e). -/
def srWord (seed step e : Nat) : Nat :=
  let z := (seed % 2 ^ 64) ^^^ ((step * 0x9E3779B97F4A7C15) % 2 ^ 64)
  let z := srMix (z ^^^ (e % 2 ^ 64))
  let z := srMix ((z + 0x6A09E667F3BCC909) % 2 ^ 64)
  z >>> 32

end Sys2Proof.Machine
end

