-- ==== Sys2Proof/Machine/Memory.lean ====
section
/-! DEFINITION. Pool memory and its place (R102 to R112): the bytes of HBM in one canonical form, the partition maps, granule states, ECC, and the atomics performed at the home (R91 to R94). -/

namespace Sys2Proof.Machine

/-! ### Bytes of HBM -/

/-- What an address that nothing has written reads as: zero, because a granule is mapped only after its zero scrub (R138). DESIGN CHOICE, log 67. -/
def Memory.unlisted : Byte := 0

/-- The canonical form: addresses strictly rising, and no entry equal to what an unlisted address reads as. -/
def Memory.wf (m : List Host.Cell) : Bool := rising m && m.all fun c => c.2 != Memory.unlisted

/-- One byte. DESIGN CHOICE, log 67. -/
def Memory.readByte (m : List Host.Cell) (a : Nat) : Byte := (lookup m a).getD Memory.unlisted

/-- `n` bytes from an address. -/
def Memory.read (m : List Host.Cell) (a n : Nat) : List Byte := (upTo n).map fun i => Memory.readByte m (a + i)

/-- Stores one byte, keeping the canonical form. -/
def Memory.writeByte (m : List Host.Cell) (a : Nat) (b : Byte) : List Host.Cell :=
  if b = Memory.unlisted then removeAt m a else insertAt m a b

/-- Stores bytes from an address. -/
def Memory.write (m : List Host.Cell) : Nat → List Byte → List Host.Cell
  | _, [] => m
  | a, b :: bs => Memory.write (Memory.writeByte m a b) (a + 1) bs

/-- Zeroes every byte from `a` to `a + n - 1` (the zero scrub). -/
def Memory.zero (m : List Host.Cell) (a n : Nat) : List Host.Cell := keepIf (fun k _ => k < a || a + n ≤ k) m

/-! ### The pool's state -/

/-- The state of a partition: 0 UNDEFINED, 1 OPEN, 2 CLOSING (R109). -/
def State.ptnState (s : State) (p : Nat) : Nat := s.get .sw POL_PTN_STS_STATE (p + 1)

/-- The size of a partition in bytes (R105). -/
def State.ptnSize (s : State) (p : Nat) : Nat := (s.get .sw PTN_ENTRY_SIZE_M1 (p + 1) + 1) * 2 ^ 28

/-- Whether a partition is BACKED. -/
def State.ptnBacked (s : State) (p : Nat) : Bool := s.flag .sw PTN_ENTRY_MODE (p + 1)

/-- The bank of POL.MAP_ENTRY for a partition, table (0 slices, 1 share) and index. -/
def mapBank (p table i : Nat) : Nat := 1 + (p * 2 + table) * 4096 + i

/-- The granule that an entry of a map names, tier in bit 17 (R106). -/
def State.granuleOf (s : State) (p table i : Nat) : Nat := s.get .sw POL_MAP_ENTRY_GRANULE (mapBank p table i)

/-- The bank of POL.GRAN_STS for a granule, tier in bit 17. -/
def granBank (g : Nat) : Nat := 1 + g

/-- The granules that a bulk port offers; none before it first comes up (R110, R111). -/
def State.bulkCount (s : State) (port : Nat) : Nat :=
  if port == 0 then s.get .sw BLK_PORT_STS_GRAN0 else s.get .sw BLK_PORT_STS_GRAN1

/-- Whether a downstream port is up. -/
def State.bulkUp (s : State) (port : Nat) : Bool :=
  if port == 0 then s.flag .sw BLK_PORT_STS_UP0 else s.flag .sw BLK_PORT_STS_UP1

/-- A granule's state (R110): 0 RESERVED, 1 FREE_CLEAN, 2 FREE_DIRTY, 3 SCRUBBING, 4 ASSIGNED, 5 RETIRED. -/
def State.granState (s : State) (g : Nat) : Nat :=
  let bulk := g.testBit 17
  let here := if bulk then bitsOf g 0 16 < s.bulkCount (bitsOf g 16 1) else bitsOf g 0 17 < 1788
  if here && !(!bulk && s.sw.pool.held) then s.get .sw POL_GRAN_STS_STATE (granBank g) else 0

/-- Stores a granule's state. -/
def State.setGran (s : State) (g st : Nat) (ptn index use : Nat := 0) : State :=
  let b := granBank g
  let s := (s.put .sw POL_GRAN_STS_STATE st b).put .sw POL_GRAN_STS_PARTITION ptn b
  (s.put .sw POL_GRAN_STS_INDEX index b).put .sw POL_GRAN_STS_USE use b

/-- The key of a line: partition and line index (R122). -/
def lineKey (p line : Nat) : Nat := p * 2 ^ 33 + line

/-- The HBM line of a partition's line (R103, R112): its slice's granule, or the granule of its share entry. -/
def State.hbmLine (s : State) (p line : Nat) : Nat :=
  let n := line / 2 ^ 21
  let g := if s.ptnBacked p then s.granuleOf p 1 (n % 2 ^ s.get .sw PTN_ENTRY_SHARE_LOG2 (p + 1)) else s.granuleOf p 0 n
  bitsOf g 0 17 * 2 ^ 21 + line % 2 ^ 21

/-- The tag of a BACKED line (R112). -/
def State.lineTag (s : State) (p line : Nat) : Nat := line / 2 ^ 21 / 2 ^ s.get .sw PTN_ENTRY_SHARE_LOG2 (p + 1)

/-- The bulk port and granule of a BACKED line (R111). -/
def State.bulkPlace (s : State) (p line : Nat) : Nat × Nat :=
  let g := s.granuleOf p 0 (line / 2 ^ 21)
  (bitsOf g 16 1, bitsOf g 0 16)

/-- The 128 bytes of an HBM line. -/
def State.hbmRead (s : State) (hl : Nat) : List Byte := Memory.read s.sw.pool.mem (hl * 128) 128

/-- Stores the 128 bytes of an HBM line with fresh ECC. -/
def State.hbmWrite (s : State) (hl : Nat) (bs : List Byte) : State :=
  s.onPool fun p => { p with mem := Memory.write p.mem (hl * 128) bs, decay := removeAt p.decay hl }

/-- New media errors join the lines already decayed (R104); a line that is uncorrectable stays so until it is rewritten whole. DEDUCED, log 68. -/
def State.decayed (s : State) (media : List (Nat × Bool)) : State :=
  s.onPool fun p => { p with decay := media.foldl (fun m e => insertAt m e.1 (e.2 || (lookup m e.1).getD false)) p.decay }

/-- A read of an HBM line as its controller accounts for it (R104): the counts, the record, and whether the line is uncorrectable. DEDUCED, log 68. -/
def State.eccRead (s : State) (hl : Nat) : State × Bool :=
  match lookup s.sw.pool.decay hl with
  | none => (s, false)
  | some ue =>
    let k := hl % 6
    let s := s.count .sw (if ue then HBM_ECC_UE_COUNT else HBM_ECC_CE_COUNT) 1 0 k
    let s := (s.put .sw HBM_ERR_ADDR_LINE (hl / 6) 0 k).put .sw HBM_ERR_ADDR_KIND (b2n ue) 0 k
    let s := (s.put .sw HBM_ERR_ADDR_VALID 1 0 k).put .sw HBM_ERR_ADDR_TICK (s.now .sw) 0 k
    (s.when ue fun s => s.event .sw (pgHbm + k) .hbmUe k (hl / 6), ue)

/-! ### Atomics (R91 to R94) -/

/-- Two's complement of `n` bytes. -/
def signedOf (n v : Nat) : Int := if 2 ^ (8 * n - 1) ≤ v then (v : Int) - 2 ^ (8 * n) else v

/-- The new value of an atomic of `n` bytes: the old value and the operands. -/
def atomicNew (op n old a b : Nat) : Nat :=
  let m := 2 ^ (8 * n)
  if op == opSWAP then a
  else if op == opCAS then (if old == a then b else old)
  else if op == opFETCH_ADD || op == opADD then (old + a) % m
  else if op == opFETCH_AND then old &&& a
  else if op == opFETCH_OR then old ||| a
  else if op == opFETCH_XOR then old ^^^ a
  else if op == opFETCH_MIN_S then (if signedOf n a < signedOf n old then a else old)
  else if op == opFETCH_MIN_U then min old a
  else if op == opFETCH_MAX_S then (if signedOf n old < signedOf n a then a else old)
  else if op == opFETCH_MAX_U then max old a
  else if op == opFADD_FP32 then codeAdd fp32 old a
  else if op == opFADD_FP64 then codeAdd fp64 old a
  else if op == opFADD_BF16X2 then packedAdd bf16 old a
  else if op == opFADD_FP16X2 then packedAdd fp16 old a
  else if op == opFETCH_FADD then codeAdd (fpOfSize n) old a
  else if op == opFMIN then codeMin (fpOfSize n) old a
  else if op == opFMAX then codeMax (fpOfSize n) old a
  else old

/-- The operands of an atomic's payload. -/
def atomicArgs (k : Packet) (n : Nat) : Nat × Nat := (natAt k.payload 0 n, natAt k.payload n n)

/-- One element of a table's format added (R237): 0 FP32, 1 BF16, 2 FP16, 3 INT32. -/
def tableAdd (fmt a b : Nat) : Nat :=
  if fmt == 0 then codeAdd fp32 a b else if fmt == 1 then codeAdd bf16 a b
  else if fmt == 2 then codeAdd fp16 a b else (a + b) % 2 ^ 32

/-- The bytes of an element of a table's format. -/
def tableSize (fmt : Nat) : Nat := if fmt == 1 || fmt == 2 then 2 else 4

/-- A row with another row added element by element. -/
def rowAdd (fmt : Nat) (old add : List Byte) : List Byte :=
  let z := tableSize fmt
  ((upTo (old.length / z)).map fun i => leBytes z (tableAdd fmt (natAt old (i * z) z) (natAt add (i * z) z))).flatten

end Sys2Proof.Machine
end

