-- ==== Sys2Proof/Machine/Home.lean ====
section
/-! DEFINITION. The home of the pool's lines (R112 to R132, R261 to R264): the directory with its recalls, the cache in front of the bulk tier, owner-lost lines, and the home queue that performs each request as one access. -/

namespace Sys2Proof.Machine

/-! ### Lines and holders -/

/-- The bit of a slot in a sharer vector. -/
def slotBit (i : Nat) : Nat := 2 ^ i

/-- A vector without the bits of another. -/
def lessBits (a b : Nat) : Nat := a - (a &&& b)

/-- The slots of a vector. -/
def slotsOf (m : Nat) : List Nat := (upTo 64).filter fun i => m.testBit i

/-- The partition and the line of a key. -/
def keyPtn (key : Nat) : Nat := key / 2 ^ 33
def keyLine (key : Nat) : Nat := key % 2 ^ 33

/-- The line indices of a request. -/
def PReq.lines (r : PReq) : List Nat :=
  let a := r.off / 128
  let b := (r.off + max r.len 1 - 1) / 128
  (upTo (b + 1 - a)).map (a + ·)

/-- Whether two requests touch one line. -/
def PReq.meets (a b : PReq) : Bool :=
  a.ptn == b.ptn && a.off / 128 ≤ (b.off + max b.len 1 - 1) / 128 && b.off / 128 ≤ (a.off + max a.len 1 - 1) / 128

/-- Whether a request covers a line whole. -/
def PReq.covers (r : PReq) (line : Nat) : Bool := r.off ≤ line * 128 && line * 128 + 128 ≤ r.off + r.len

/-- A directory entry. -/
def State.dirAt (s : State) (key : Nat) : Option DirEntry := lookup s.sw.pool.dir key

/-- Stores a directory entry; an entry without holders is freed (R122). -/
def State.putDir (s : State) (key : Nat) (e : DirEntry) : State :=
  s.onPool fun p => { p with dir := if e.sharers == 0 then removeAt p.dir key else insertAt p.dir key e }

/-- The number of directory entries that name a slot (R143). -/
def State.slotEntries (s : State) (i : Nat) : Nat := (s.sw.pool.dir.filter fun e => e.2.sharers.testBit i).length

/-- The agent slot of a request's sender. -/
def State.memberSlot (s : State) (m : Member) : Option Nat :=
  match m.asker with
  | .host _ _ => s.hostSlot
  | .fabric => if m.pkt.srcSw then none else s.agentSlot m.pkt.src
  | _ => none

/-- Whether a member is the host's. -/
def Member.isHost (m : Member) : Bool := match m.asker with
  | .host _ _ => true
  | _ => false

/-- The slot of the first member of a request. -/
def State.reqSlot (s : State) (r : PReq) : Option Nat := r.members.head?.bind s.memberSlot

/-- Whether the first member of a request is the host's. -/
def PReq.isHost (r : PReq) : Bool := r.members.any Member.isHost

/-- Whether a request asks for a cached copy. -/
def PKind.caching : PKind → Bool
  | .readShared | .readOwn | .upgrade => true
  | _ => false

/-- What the home does for a request: a caching request that R118 does not allow, or whose partition is CLOSING (R136), is an uncached read. -/
def State.effKind (s : State) (r : PReq) : PKind :=
  let admitted := (s.reqSlot r).any (fun i => s.slotState i == 1) && s.flag .sw PTN_ENTRY_CACHEABLE (r.ptn + 1)
    && s.ptnState r.ptn == 1
  if r.kind.caching && !admitted then .read else r.kind

/-! ### Owner-lost lines (R131, R132) -/

/-- Whether a line is owner-lost. -/
def State.isLost (s : State) (key : Nat) : Bool := (lookup s.sw.pool.lost key).isSome

/-- The line of a partition that a slot of its share holds (R112). -/
def State.slotLine (s : State) (hl : Nat) (c : CacheSlot) : Nat :=
  let sh := s.get .sw PTN_ENTRY_SHARE_LOG2 (c.ptn + 1)
  let i := ((upTo (2 ^ sh)).find? fun i => bitsOf (s.granuleOf c.ptn 1 i) 0 17 == hl / 2 ^ 21).getD 0
  (c.tag * 2 ^ sh + i) * 2 ^ 21 + hl % 2 ^ 21

/-- A slot of the cache is pinned (R114): owner-lost, or dirty and not writable back because its port is down, its write-back failed, or its data is uncorrectable. -/
def State.pinned (s : State) (hl : Nat) (c : CacheSlot) : Bool :=
  let line := s.slotLine hl c
  s.isLost (lineKey c.ptn line)
    || (c.dirty && (c.stuck || !s.bulkUp (s.bulkPlace c.ptn line).1 || (lookup s.sw.pool.decay hl) == some true))

/-- The slot of a BACKED line when it holds that line. -/
def State.hitSlot (s : State) (p line : Nat) : Option CacheSlot :=
  match lookup s.sw.pool.slots (s.hbmLine p line) with
  | some c => if c.ptn == p && c.tag == s.lineTag p line then some c else none
  | none => none

/-- A partition enters CLOSING (R136) at this tick, with a drain length: its invalidations complete (R62) and its herds abort. -/
def State.startDrain (s : State) (p d : Nat) : State :=
  let now := s.now .sw
  let s := s.put .sw POL_PTN_STS_STATE 2 (p + 1)
  let s := s.onPool fun q => { q with drains := insertAt q.drains p (now, d) }
  let close (v : Inval) : Inval :=
    if v.ptn == p && v.done.isNone then
      let miss := v.waits ++ v.unreach
      { v with done := some (stPARTITION_CLOSING, miss.length, miss.foldl min (miss.headD 0), now) }
    else v
  let s := { s with sw := { s.sw with invals := s.sw.invals.map close } }
  s.revokeHerds p

/-- A partition is stopped at rung L6 (R136): CLOSING with drain length 0, and a record with the cause (1 overflow, 2 HBM stack). DEDUCED, log 164. -/
def State.stopPartition (s : State) (p cause : Nat) : State :=
  if s.ptnState p == 0 then s
  else
    let s := s.event .sw pgPol .partitionStop p cause (rung := some 6)
    if s.ptnState p == 1 then s.startDrain p 0
    else s.onPool fun q => { q with drains := insertAt q.drains p (s.now .sw, 0) }

/-- An owner-lost flag that the cache cannot hold goes to the overflow table of 1,024 lines; a full table stops the partition (R131). -/
def State.overflowLost (s : State) (key : Nat) : State :=
  if (s.sw.pool.lost.filter fun e => e.2 == 1).length < 1024 then
    s.onPool fun p => { p with lost := insertAt p.lost key 1 }
  else s.stopPartition (keyPtn key) 1

/-- Adds an entry to the home queue. -/
def State.queueReq (s : State) (kind : PKind) (ptn off len : Nat) (ms : List Member) (comb : Bool := false) : State :=
  s.onPool fun p =>
    { p with queue := p.queue ++ [{ id := p.nextId, kind := kind, ptn := ptn, off := off, len := len, members := ms,
                                    comb := comb, opened := s.now .sw }],
             nextId := p.nextId + 1 }

/-- A packet that stands for an access of the switch itself. -/
def ownPkt : Packet := { dst := 0, src := 0, tc := 0, op := 0 }

/-- Marks a line owner-lost (R131). DEDUCED, log 73. -/
def State.markLost (s : State) (key cause slot : Nat) : State :=
  let p := keyPtn key
  let line := keyLine key
  let s := s.onPool fun q => { q with dir := removeAt q.dir key, lost := insertAt q.lost key 0 }
  let s :=
    if s.sw.pool.olLog.length < 1024 then
      s.onPool fun q => { q with olLog := q.olLog ++ [⟨key, cause, slot, s.now .sw % 2 ^ 32⟩] }
    else s.count .sw DIR_OL_DROP_COUNT
  if !s.ptnBacked p || (s.hitSlot p line).isSome then s
  else
    let hl := s.hbmLine p line
    if (lookup s.sw.pool.slots hl).any (s.pinned hl) || !s.bulkUp (s.bulkPlace p line).1 then s.overflowLost key
    else s.queueReq .fill p (line * 128) 128 [⟨ownPkt, .mark, s.now .sw⟩]

/-- Clears the owner-lost flag of a line (R132, R133). -/
def State.clearLost (s : State) (key : Nat) : State := s.onPool fun p => { p with lost := removeAt p.lost key }

/-! ### Losing an agent (R120, R130) -/

/-- A holder has gone from an entry: the recall no longer waits for it. -/
def DirEntry.without (e : DirEntry) (i : Nat) (host : Bool) : DirEntry :=
  { e with halves := if host then 0 else e.halves,
           sharers := lessBits e.sharers (slotBit i),
           recalling := e.recalling.map fun r => { r with wait := lessBits r.wait (slotBit i), unsent := lessBits r.unsent (slotBit i) } }

/-- The recall of an entry ends when nobody is left to answer. -/
def DirEntry.ended (e : DirEntry) : DirEntry :=
  match e.recalling with
  | some r => if r.wait == 0 then { e with recalling := none } else e
  | none => e

/-- Whether a slot names the host. -/
def State.slotHost (s : State) (i : Nat) : Bool := s.get .sw DIR_AGT_ENTRY_KIND (i + 1) == 1

/-- A slot leaves every entry: the lines it held in X become owner-lost with a cause, its shared copies are forgotten (R130). -/
def State.dropSlot (s : State) (i cause : Nat) : State :=
  (s.sw.pool.dir.filter fun e => e.2.sharers.testBit i).foldl (fun s e =>
    match s.dirAt e.1 with
    | some d => if d.excl then s.markLost e.1 cause i else s.putDir e.1 (d.without i (s.slotHost i)).ended
    | none => s) s

/-- The home loses an agent and fences its slot with a cause (R130). A slot whose removal runs becomes EMPTY instead (R120). -/
def State.fenceAgent (s : State) (i cause : Nat) : State :=
  if s.slotState i == 1 || s.slotState i == 2 then
    let removing := s.slotState i == 2
    let s := s.dropSlot i cause
    let s := s.event .sw pgDir .agentFenced i cause
    let s := s.onPool fun p => { p with recalls := removeAt p.recalls i }
    let s := s.onPool fun p => { p with spent := p.spent.filter (·.2 != i) }
    (s.put .sw DIR_AGT_STS_STATE (if removing then 0 else 3) (i + 1)).put .sw DIR_AGT_STS_CAUSE cause (i + 1)
  else s

/-- A removal ends (R120): at its last answer, or at the snoop timeout with cause REMOVED for what is still held. -/
def State.endRemoval (s : State) (i : Nat) : State :=
  let s := s.dropSlot i 5
  let s := s.onPool fun p => { p with recalls := removeAt p.recalls i, spent := p.spent.filter (·.2 != i) }
  s.put .sw DIR_AGT_STS_STATE 0 (i + 1)

/-! ### Snoops (R121, R123, R128) -/

/-- The back-invalidates outstanding to the host. -/
def State.biOut (s : State) : Nat :=
  match s.hostSlot with
  | some h => (s.sw.pool.dir.filter fun e => e.2.recalling.any fun r => r.wait.testBit h && !r.unsent.testBit h).length
  | none => 0

/-- The snoop packet to an endpoint. -/
def State.snoopPkt (s : State) (key slot : Nat) (inv : Bool) : Packet :=
  sealPkt { dst := s.get .sw DIR_AGT_ENTRY_NODE (slot + 1), src := s.switchId, srcSw := true, tc := 2,
            op := if inv then opSNP_INV else opSNP_DATA, tag := slot, addr := poolAddr s.switchId (keyPtn key) (keyLine key * 128),
            len := 128, ptn := keyPtn key }

/-- Changes an entry's recall. -/
def State.onRecall (s : State) (key : Nat) (f : Recall → Recall) : State :=
  match s.dirAt key with
  | some e => s.putDir key { e with recalling := e.recalling.map f }
  | none => s

/-- Sends one snoop of a recall: a BISnp to the host while fewer than 1,024 are outstanding, a packet to an endpoint; an endpoint without an ACTIVE egress is lost at once (R130). -/
def State.sendSnoop (s : State) (key slot : Nat) : State :=
  match (s.dirAt key).bind (·.recalling) with
  | none => s
  | some r =>
    if !r.unsent.testBit slot then s else
    let mark (s : State) : State := s.onRecall key fun r =>
      { r with unsent := lessBits r.unsent (slotBit slot), sent := insertAt r.sent slot (s.now .sw) }
    if s.slotHost slot then
      if s.biOut < 1024 then (mark s).emit (.biSnoop r.inv (keyPtn key * 2 ^ 40 + keyLine key * 128)) else s
    else if s.portUpTo (s.get .sw DIR_AGT_ENTRY_NODE (slot + 1)) then (mark s).swSend (s.snoopPkt key slot r.inv)
    else s.fenceAgent slot 1

/-- Sends what a recall has not yet sent. -/
def State.sendSnoops (s : State) (key : Nat) : State :=
  match (s.dirAt key).bind (·.recalling) with
  | some r => (slotsOf r.unsent).foldl (fun s i => s.sendSnoop key i) s
  | none => s

/-- Starts a recall of a line from the holders of a vector. -/
def State.recallLine (s : State) (key : Nat) (inv : Bool) (who : Nat) : State :=
  match s.dirAt key with
  | some e =>
    let who := who &&& e.sharers
    if who == 0 then s else
    let s := s.putDir key { e with recalling := some { inv := inv, wait := who, unsent := who } }
    s.sendSnoops key
  | none => s

/-- The snoops that a request needs of an entry (R123): whether they invalidate, and whom they reach. -/
def snoopNeed (k : PKind) (me : Nat) (host : Bool) (e : DirEntry) : Option (Bool × Nat) :=
  let others := lessBits e.sharers me
  let mine := e.sharers == me
  let some' (inv : Bool) (m : Nat) : Option (Bool × Nat) := if m == 0 then none else some (inv, m)
  match k with
  | .read => if e.excl then some' false e.sharers else none
  | .write | .atomic | .scatter => if host && mine && e.excl then none else some' true e.sharers
  | .readShared => if e.excl && !(host && mine) then some' false e.sharers else none
  | .readOwn => if e.excl then (if host && mine then none else some' true e.sharers) else some' true others
  | .upgrade => if e.excl then (if mine then none else some' true e.sharers) else some' true others
  | .fill | .back => none

/-! ### Directory sets (R122, R124) -/

/-- The entries of a line's set. DESIGN CHOICE, log 60. -/
def State.setOf (s : State) (key : Nat) : SMap DirEntry :=
  s.sw.pool.dir.filter fun e => Config.dirSet e.1 == Config.dirSet key

/-- The least recently used entry of a set that is not in B. DESIGN CHOICE, log 81. -/
def lruVictim (l : SMap DirEntry) : Option Nat :=
  ((l.filter fun e => e.2.recalling.isNone).foldl (fun b e => match b with
    | none => some e
    | some c => if e.2.used < c.2.used then some e else some c) none).map (·.1)

/-- Changes an entry of the home queue. -/
def State.onReq (s : State) (id : Nat) (f : PReq → PReq) : State :=
  s.onPool fun p => { p with queue := p.queue.map fun r => if r.id == id then f r else r }

/-- Makes room in a set for a new entry: true when a way is free, otherwise a victim is recalled and the request waits. DESIGN CHOICE, log 81. -/
def State.wayFree (s : State) (r : PReq) (key : Nat) : State × Bool :=
  if (s.dirAt key).isSome || (s.setOf key).length < 16 then (s, true)
  else if r.evict.any fun v => (s.dirAt v).any fun e => e.recalling.isSome then (s, false)
  else match lruVictim (s.setOf key) with
    | none => (s, false)
    | some v =>
      let s := s.count .sw DIR_EVICT_CNT_COUNT
      let s := s.onReq r.id fun r => { r with evict := some v }
      (s.recallLine v true ((s.dirAt v).elim 0 (·.sharers)), false)

/-! ### The place of a line (R113 to R115) -/

/-- Where a line stands for an access. -/
inductive Pres where
  /-- In HBM: an own granule, or the slot of the cache. -/
  | inHbm
  /-- Past the cache, at the device. -/
  | bypass
  /-- Not yet there. -/
  | waits
  /-- Refused. -/
  | fails (status : Nat)
deriving DecidableEq, Repr

/-- The DPA of a line at its device (R392). -/
def State.bulkDpa (s : State) (p line : Nat) : Nat := (s.bulkPlace p line).2 * 2 ^ 28 + line % 2 ^ 21 * 128

/-- Sends an access to a bulk device. DESIGN CHOICE, log 80. -/
def State.bulkAccess (s : State) (p line : Nat) (data : Option (List Byte)) (slot req : Option Nat) : State :=
  let port := (s.bulkPlace p line).1
  let id := s.sw.pool.nextId
  let s := s.onPool fun q =>
    { q with bulk := q.bulk ++ [⟨id, port, p, line, data.isSome, data.getD [], slot, req, s.now .sw⟩], nextId := id + 1 }
  s.emit (.bulk id port data.isSome (s.bulkDpa p line) (data.getD []))

/-- Whether a read of a bulk line is outstanding for a request. -/
def State.bulkAsked (s : State) (p line id : Nat) : Bool :=
  s.sw.pool.bulk.any fun b => b.req == some id && !b.write && b.ptn == p && b.line == line

/-- Changes a slot of the cache. -/
def State.putSlot (s : State) (hl : Nat) (c : Option CacheSlot) : State :=
  s.onPool fun p => { p with slots := match c with
    | some c => insertAt p.slots hl c
    | none => removeAt p.slots hl }

/-- Writes a dirty slot back to its device; the slot keeps its data until the device has answered (R113, R115). The victim is read under ECC (R104), and counts in VICTIMS as its write-back starts (R144). DEDUCED, log 68. DESIGN CHOICE, log 202. -/
def State.writeBack (s : State) (hl : Nat) (c : CacheSlot) : State :=
  if s.sw.pool.bulk.any fun b => b.write && b.slot == some hl then s
  else
    let x := s.eccRead hl
    if x.2 then x.1 else
    let s := x.1.addWrap .sw BLK_VICTIMS_COUNT 1 (c.ptn + 1)
    s.bulkAccess c.ptn (s.slotLine hl c) (some (s.hbmRead hl)) (some hl) none

/-- Brings a line of a request into place. `full` says that the request writes the line whole: it takes the slot when it stores the line. -/
def State.present (s : State) (r : PReq) (line : Nat) (full tc5 : Bool) : State × Pres :=
  if !s.ptnBacked r.ptn then (s, .inHbm)
  else
    let hl := s.hbmLine r.ptn line
    let up := s.bulkUp (s.bulkPlace r.ptn line).1
    let slot := lookup s.sw.pool.slots hl
    let hit := (s.hitSlot r.ptn line).isSome
    if full && tc5 && s.flag .sw BLK_CFG_NOALLOC_TC5 then (s, if up then .bypass else .fails stUNREACHABLE)
    else if hit then (s, .inHbm)
    else if !up then (s, .fails stUNREACHABLE)
    else if slot.any (s.pinned hl) then
      if r.kind == .fill then (s, .fails stRETRY)
      else if full || (lookup r.got line).isSome then (s, .bypass)
      else if s.bulkAsked r.ptn line r.id then (s, .waits)
      else (s.bulkAccess r.ptn line none none (some r.id), .waits)
    else if s.sw.pool.bulk.any fun b => b.slot == some hl then (s, .waits)
    else match slot with
      | some c =>
        if c.dirty then (s.writeBack hl c, .waits)
        else if full then (s, .inHbm)
        else ((s.putSlot hl none).bulkAccess r.ptn line none (some hl) (some r.id), .waits)
      | none =>
        if full then (s, .inHbm)
        else (s.bulkAccess r.ptn line none (some hl) (some r.id), .waits)

/-- Counts hits and misses of a request's lines once (R144): every access that reaches the cache counts, a fill and a bypassing write included. DESIGN CHOICE, log 202. -/
def State.countCache (s : State) (r : PReq) : State :=
  if r.counted || !s.ptnBacked r.ptn then s
  else
    let hits := (r.lines.filter fun l => (s.hitSlot r.ptn l).isSome).length
    let s := s.addWrap .sw BLK_HITS_COUNT hits (r.ptn + 1)
    let s := s.addWrap .sw BLK_MISSES_COUNT (r.lines.length - hits) (r.ptn + 1)
    s.onReq r.id fun r => { r with counted := true }

/-- The bytes of a line in its place. -/
def State.lineBytes (s : State) (r : PReq) (line : Nat) : Pres → List Byte
  | .bypass => (lookup r.got line).getD []
  | _ => s.hbmRead (s.hbmLine r.ptn line)

/-- Stores a line in its place. Past the cache it goes to the device, and a slot that holds the line is dropped. -/
def State.storeLine (s : State) (r : PReq) (line : Nat) (bs : List Byte) : Pres → State
  | .bypass =>
    let hl := s.hbmLine r.ptn line
    let s := if (s.hitSlot r.ptn line).isSome then s.putSlot hl none else s
    let s := s.bulkAccess r.ptn line (some bs) none (some r.id)
    s.onReq r.id fun r => { r with acks := r.acks + 1 }
  | _ =>
    let hl := s.hbmLine r.ptn line
    let s := s.hbmWrite hl bs
    if s.ptnBacked r.ptn then s.putSlot hl (some ⟨s.lineTag r.ptn line, true, false, r.ptn⟩) else s

/-! ### Answers -/

/-- Answers a fabric request; the answer to a caching request served uncached says so (R118). -/
def State.poolAnswer (s : State) (k : Packet) (status : Nat) (data : List Byte) (aux : Nat) (uncached : Bool) : State :=
  if k.srcSw then s
  else
    let a := answer true s.switchId k status data aux
    s.swSend (if uncached then sealPkt { a with uncached := true } else a)

/-- Whether a line that a holder gives back can be stored at once: its memory is HBM, it stands in its slot, or the slot is free to take it. -/
def State.backNow (s : State) (p line : Nat) : Bool :=
  let hl := s.hbmLine p line
  !s.ptnBacked p || (s.hitSlot p line).isSome ||
    (!(s.sw.pool.bulk.any fun b => b.slot == some hl) && !((lookup s.sw.pool.slots hl).any fun c => c.dirty || s.pinned hl c))

/-- Modified data that a holder gave back goes to memory (R123): a full-line write (R113), made at once where the line's place takes it, and otherwise before every other request of the home queue, behind the write-back of the slot's victim. `ask` is the WRITEBACK that completes when the write has been made. DEDUCED, log 73. -/
def State.takeData (s : State) (key slot : Nat) (bs : List Byte) (ask : Option Packet) : State :=
  let p := keyPtn key
  let line := keyLine key
  if s.backNow p line then
    let hl := s.hbmLine p line
    let s := s.hbmWrite hl bs
    let s := if s.ptnBacked p then s.putSlot hl (some ⟨s.lineTag p line, true, false, p⟩) else s
    match ask with
    | some k => s.poolAnswer k stOK [] 0 false
    | none => s
  else
    let now := s.now .sw
    let m : Member := ⟨{ ask.getD ownPkt with payload := bs }, .back slot ask.isSome, now⟩
    s.onPool fun q =>
      { q with queue := { id := q.nextId, kind := .back, ptn := p, off := line * 128, len := 128, members := [m], opened := now } :: q.queue,
               nextId := q.nextId + 1 }

/-- Answers a request of the host (R380, R381). Kinds: 0 read I, 1 read S, 2 read A, 3 MemInv, 4 write, 5 MemClnEvct, 6 write-back. -/
def State.hostAnswer (s : State) (kind dpa status : Nat) (data : List Byte) (uncached : Bool) : State :=
  let rsp := if uncached then 0 else if kind == 1 then 1 else if kind == 2 || kind == 3 then 2 else 0
  if !s.flag .sw CXU_STS_UP then s
  else if status == stOK then s.emit (.hostMem dpa rsp data)
  else
    let wr := 4 ≤ kind
    let bad : List Byte := if kind ≤ 2 then List.replicate 64 0xFF else []
    let s := s.emit (.hostMem dpa 0 bad)
    let s := (s.put .sw CXU_HOST_ERR0_DPA (dpa / 64)).put .sw CXU_HOST_ERR0_STATUS status
    let s := (s.put .sw CXU_HOST_ERR0_WRITE (b2n wr)).put .sw CXU_HOST_ERR0_VALID 1
    let s := (s.put .sw CXU_HOST_ERR1_TICK (s.now .sw)).count .sw CXU_HOST_ERR1_COUNT
    (s.emit .hostNonFatal).cause .sw pgCxu 0

/-- One row of a gather: the lowest status that is not OK among its lines, and its bytes. -/
def Gather.rowOf (g : Gather) (i : Nat) : Nat × List Byte :=
  if g.rows ≤ i then (stNO_MAPPING, [])
  else
    let off := g.base + i * g.row
    let a := off / 128
    let ls := (upTo ((off + g.row - 1) / 128 + 1 - a)).map (a + ·)
    let got := ls.map fun l => (lookup g.lines l).getD (stTIMEOUT, [])
    match got.find? fun e => e.1 != stOK with
    | some e => (e.1, [])
    | none => (stOK, slice ((got.map (·.2)).flatten) (off % 128) g.row)

/-- The rows of a gather go out, and its completion (R236). DEDUCED, log 72. -/
def State.endGather (s : State) (g : Gather) : State :=
  let rows := g.indices.map g.rowOf
  let r := rows.foldl (fun (acc : State × Nat × Nat × Nat) e =>
    let (s, n, st, bad) := acc
    if e.1 == stOK then
      let a := answer true s.switchId g.pkt stOK e.2 n
      (s.swSend (sealPkt { a with op := opGATHER_ROW }), n + 1, st, bad)
    else (s, n + 1, if st == stOK then e.1 else st, bad + 1)) (s, 0, stOK, 0)
  r.1.poolAnswer g.pkt r.2.2.1 [] r.2.2.2 false

/-- A scatter-add has applied its last row (R237). -/
def State.endScatter (s : State) (g : Gather) : State :=
  let st := (upTo g.indices.length).map fun n =>
    if g.rows ≤ g.indices.getD n 0 then stNO_MAPPING else ((lookup g.lines n).getD (stTIMEOUT, [])).1
  let bad := st.filter (· != stOK)
  let status := bad.headD stOK
  (s.keepOutcome .sw g.pkt status [] bad.length).poolAnswer g.pkt status [] bad.length false

/-- One line of a gather, or one row of a scatter-add, has its result. -/
def State.gatherPart (s : State) (id n status : Nat) (data : List Byte) : State :=
  match s.sw.pool.gathers.find? (·.id == id) with
  | none => s
  | some g =>
    let g := { g with lines := insertAt g.lines n (status, data), left := g.left - 1 }
    if g.left == 0 then
      let s := s.onPool fun p => { p with gathers := p.gathers.filter (·.id != id) }
      if g.pkt.op == opGATHER then s.endGather g else s.endScatter g
    else s.onPool fun p => { p with gathers := p.gathers.map fun h => if h.id == id then g else h }

/-- A store of a chunk whose step has aborted has been performed: with its last one the chunk is done (R222, R224). -/
def Attach.stored (a : Attach) (step n : Nat) : Attach :=
  match a.finishing with
  | some (t, l) =>
    if t != step then a
    else if (l.filter (· != n)).isEmpty then { a with finishing := none, chunksDone := a.chunksDone + 1 }
    else { a with finishing := some (t, l.filter (· != n)) }
  | none => a

/-- A stream access of a program has its result (R221, R222): its data joins the chunk's loads, or the herd aborts. The access names the chunk and the step it belongs to. -/
def State.streamDone (s : State) (herd at_ n status : Nat) (data : List Byte) : State :=
  let chunk := at_ % 2 ^ 32
  let step := at_ / 2 ^ 32
  if (s.herd herd).any fun h => h.step == step && h.state == 2 then
    if status == stOK then
      s.onHerd herd fun h => match lookup h.work chunk with
        | some c =>
          let loads := if data.isEmpty then c.loads else insertAt c.loads n data
          { h with work := insertAt h.work chunk { c with waits := c.waits.filter (· != n), loads := loads } }
        | none => h
    else s.herdCondition herd (if status == stPARTITION_CLOSING then rsREVOKED else rsINTEGRITY)
  else s.when (status == stOK) fun s => s.onAttach herd fun a => a.stored step n

/-- Answers one member. A request that is not idempotent leaves its outcome record (R265); a READ, merged or not, leaves none. DEDUCED, log 195. -/
def State.answerMember (s : State) (r : PReq) (m : Member) (status : Nat) (data : List Byte) (aux : Nat) (uncached : Bool) : State :=
  match m.asker with
  | .fabric =>
    let s := if status == stOK && nonIdempotent m.pkt then s.keepOutcome .sw m.pkt status data aux else s
    s.poolAnswer m.pkt status data aux uncached
  | .host kind _ => s.hostAnswer kind (r.ptn * 2 ^ 40 + r.off) status data uncached
  | .gather g n => s.gatherPart g n status data
  | .prog h c n => s.streamDone h c n status data
  | .hint => s
  | .mark => if status == stOK || !s.isLost (lineKey r.ptn (r.off / 128)) then s else s.overflowLost (lineKey r.ptn (r.off / 128))
  | .back slot ans =>
    let s := if status == stOK || status == stABORTED then s else s.markLost (lineKey r.ptn (r.off / 128)) 6 slot
    if ans then s.poolAnswer m.pkt status [] 0 false else s

/-- A request of the queue completes: it leaves the queue and every member is answered. -/
def State.finishReq (s : State) (r : PReq) (res : List (Nat × List Byte × Nat)) (uncached : Bool := false) : State :=
  let s := s.onPool fun p => { p with queue := p.queue.filter (·.id != r.id) }
  ((upTo r.members.length).zip r.members).foldl (fun s e =>
    let x := res.getD e.1 (res.headD (stOK, [], 0))
    s.answerMember r e.2 x.1 x.2.1 x.2.2 uncached) s

/-- A request completes with one status for all. -/
def State.failReq (s : State) (r : PReq) (status : Nat) : State := s.finishReq r [(status, [], 0)]

/-! ### Performing a request -/

/-- Counts a combining entry at its issue (R271). -/
def State.countGroup (s : State) (r : PReq) : State :=
  if r.comb && 2 ≤ r.members.length then
    (s.addWrap .sw CMB_GROUPS_COUNT).addWrap .sw CMB_MERGED_COUNT (r.members.length - 1)
  else s

/-- Stores the bytes of a request over its lines; lines covered whole lose the owner-lost flag. -/
def State.storeBytes (s : State) (r : PReq) (ps : List (Nat × Pres)) (bs : List Byte) : State :=
  ps.foldl (fun s e =>
    let line := e.1
    let base := line * 128
    let lo := max r.off base
    let hi := min (r.off + bs.length) (base + 128)
    let old := if r.covers line then [] else s.lineBytes r line e.2
    let new := slice (patch old (lo - base) (slice bs (lo - r.off) (hi - lo))) 0 128
    let s := s.storeLine r line new e.2
    if r.covers line then s.clearLost (lineKey r.ptn line) else s) s

/-- Holds the results back until the device has acknowledged the lines written past the cache (R113). -/
def State.finishOrWait (s : State) (r : PReq) (res : List (Nat × List Byte × Nat)) (uncached : Bool) : State :=
  match s.sw.pool.queue.find? (·.id == r.id) with
  | some r' => if r'.acks == 0 then s.finishReq r res uncached else s.onReq r.id fun x => { x with result := res, issued := true }
  | none => s

/-- Records a grant in the directory (R123): the line's entry names the requester, exclusive or shared, and the halves that the host holds (R380). Of the uses of an entry only a grant refreshes its age for R124. DESIGN CHOICE, log 197. -/
def State.grant (s : State) (r : PReq) (slot : Nat) (excl : Bool) : State :=
  let key := lineKey r.ptn (r.off / 128)
  let old := s.dirAt key
  let sh := if excl then slotBit slot else (old.elim 0 (·.sharers)) ||| slotBit slot
  let half := if r.isHost then 2 ^ bitsOf r.off 6 1 else 0
  let halves := (if excl && !r.isHost then 0 else old.elim 0 (·.halves)) ||| half
  let ex := excl || (old.any (·.excl) && r.isHost)
  let s := s.putDir key { excl := ex, sharers := sh, halves := halves, used := s.sw.pool.use_ }
  s.onPool fun p => { p with use_ := p.use_ + 1 }

/-- The results of an atomic group (R98 to R100): the new value, and what each member is given. -/
def groupAtomic (r : PReq) (old : Nat) : Nat × List (Nat × List Byte × Nat) :=
  let n := r.len
  let op := (r.members.head?.map (·.pkt.op)).getD 0
  let args := r.members.map fun m => atomicArgs m.pkt n
  match args with
  | [a] => (atomicNew op n old a.1 a.2, [(stOK, if returnsOld op then leBytes n old else [], 0)])
  | _ =>
    if op == opADD || op == opFETCH_ADD then
      let f := args.foldl (fun (acc : Nat × List (Nat × List Byte × Nat)) a =>
        ((acc.1 + a.1) % 2 ^ (8 * n), acc.2 ++ [(stOK, if returnsOld op then leBytes n acc.1 else [], 0)])) (old, [])
      f
    else
      let sum := (args.drop 1).foldl (fun x a => atomicNew op n x a.1 0) ((args.headD (0, 0)).1)
      (atomicNew op n old sum 0, args.map fun _ => (stOK, [], 0))

/-- Reads the lines of a request under ECC: the state with the errors accounted for, and whether a line is uncorrectable. -/
def State.eccLines (s : State) (r : PReq) (ps : List (Nat × Pres)) (f : Nat → Bool) : State × Bool :=
  ps.foldl (fun acc e =>
    if e.2 == .inHbm && f e.1 then
      let x := acc.1.eccRead (s.hbmLine r.ptn e.1)
      (x.1, acc.2 || x.2)
    else acc) (s, false)

/-- Performs a request whose lines are in place as one access. -/
def State.performReq (s : State) (r : PReq) (kind : PKind) (ps : List (Nat × Pres)) : State :=
  let s := s.countGroup r
  let un := r.kind.caching && kind == .read
  let all := (ps.map fun e => s.lineBytes r e.1 e.2).flatten
  let own (m : Member) : List Byte := match m.asker with
    | .fabric | .host _ _ => slice all (getBits m.pkt.addr 0 40 - r.off / 128 * 128) (if m.isHost then 64 else m.pkt.len)
    | _ => slice all (r.off % 128) r.len
  match kind with
  | .read =>
    let x := s.eccLines r ps fun _ => true
    if x.2 then x.1.failReq r stINTEGRITY else x.1.finishReq r (r.members.map fun m => (stOK, own m, 0)) un
  | .write | .back =>
    let x := s.eccLines r ps fun l => !r.covers l
    if x.2 then x.1.failReq r stINTEGRITY
    else
      let k := (r.members.head?.map (·.pkt)).getD ownPkt
      let data := match (r.members.head?.map (·.asker)).getD .fabric with
        | .host _ mask =>
          (upTo r.len).map fun i => if mask.testBit i then k.payload.getD i 0 else all.getD (r.off % 128 + i) 0
        | _ => slice k.payload 0 r.len
      (x.1.storeBytes r ps data).finishOrWait r [(stOK, [], 0)] false
  | .atomic =>
    let x := s.eccLines r ps fun _ => true
    if x.2 then x.1.failReq r stINTEGRITY
    else
      let g := groupAtomic r (natAt all (r.off % 128) r.len)
      (x.1.storeBytes r ps (leBytes r.len g.1)).finishOrWait r g.2 false
  | .scatter =>
    let x := s.eccLines r ps fun l => !r.covers l
    let y := if x.2 then x else x.1.eccLines r ps r.covers
    if y.2 then y.1.failReq r stINTEGRITY
    else
      let k := (r.members.head?.map (·.pkt)).getD ownPkt
      let new := rowAdd k.aux (slice all (r.off % 128) r.len) (slice k.payload 0 r.len)
      ((y.1.storeBytes r ps new).rowOps (r.len / (if k.aux == 1 || k.aux == 2 then 2 else 4))).finishOrWait r [(stOK, [], 0)] false
  | .readShared =>
    let x := s.eccLines r ps fun _ => true
    if x.2 then x.1.failReq r stINTEGRITY
    else
      let s := x.1.grant r ((s.reqSlot r).getD 0) false
      s.finishReq r (r.members.map fun m => (stOK, own m, 0))
  | .readOwn | .upgrade =>
    let slot := (s.reqSlot r).getD 0
    let e := s.dirAt (lineKey r.ptn (r.off / 128))
    let listed := kind == .upgrade && e.any (·.sharers.testBit slot)
    if listed then
      (s.grant r slot true).finishReq r [(stOK, [], 0)]
    else
      let x := s.eccLines r ps fun _ => true
      if x.2 then x.1.failReq r stINTEGRITY
      else
        let quiet := r.members.any fun m => match m.asker with
          | .host k _ => k == 3
          | _ => false
        (x.1.grant r slot true).finishReq r (r.members.map fun m => (stOK, if quiet then [] else own m, 0))
  | .fill => s.finishReq r [(stOK, [], 0)]

/-- Whether a request must wait behind an earlier one: one that touches a line of its own (R124), or an earlier row of its scatter-add (R237). -/
def State.blocked (s : State) (r : PReq) : Bool :=
  let sameScatter (q : PReq) : Bool := q.kind == .scatter && r.kind == .scatter
    && (q.members.map (·.pkt.src)) == (r.members.map (·.pkt.src)) && (q.members.map (·.pkt.tag)) == (r.members.map (·.pkt.tag))
  (s.sw.pool.queue.takeWhile fun q => q.id != r.id).any fun q => q.meets r || sameScatter q

/-- The status of owner-lost lines for a request (R132). -/
def State.lostStatus (s : State) (r : PReq) : Bool :=
  r.kind != .fill && r.lines.any fun l => s.isLost (lineKey r.ptn l) && !((r.kind == .write) && r.covers l)

/-- Whether a request writes a line whole, without a byte mask. -/
def PReq.writesWhole (r : PReq) (line : Nat) : Bool := (r.kind == .write || r.kind == .back) && r.covers line

/-- Brings every line of a request into place. -/
def State.presentAll (s : State) (r : PReq) : State × List (Nat × Pres) :=
  let tc5 := r.members.any fun m => m.pkt.tc == 5
  r.lines.foldl (fun acc l =>
    let r' := (acc.1.sw.pool.queue.find? (·.id == r.id)).getD r
    let x := acc.1.present r' l (r.writesWhole l) tc5
    (x.1, acc.2 ++ [(l, x.2)])) (s, [])

/-- The place comes before the perform. -/
def State.placeAndPerform (s : State) (r : PReq) (kind : PKind) : State :=
  let s := s.countCache r
  let x := s.presentAll r
  match x.2.findSome? fun e => match e.2 with
    | .fails st => some st
    | _ => none with
  | some st => s.failReq r st
  | none =>
    if x.2.any fun e => e.2 == .waits then x.1
    else x.1.performReq r kind x.2

/-- A request that meets an owner-lost line completes OWNER_LOST; an uncorrectable line that it would have read is still counted and recorded (R104, R132). -/
def State.failLost (s : State) (r : PReq) : State :=
  let here (l : Nat) : Bool := !s.ptnBacked r.ptn || (s.hitSlot r.ptn l).isSome
  let ps : List (Nat × Pres) := (r.lines.filter here).map fun l => (l, .inHbm)
  (s.eccLines r ps fun l => !(r.kind == .write && r.covers l)).1.failReq r stOWNER_LOST

/-- Tries one request of the home queue: its recalls, its directory way, its lines, then the access. -/
def State.tryReq (s : State) (r : PReq) : State :=
  if r.issued then (if r.acks == 0 then (match r.fail with
    | some st => s.failReq r st
    | none => s.finishReq r r.result) else s)
  else match r.fail with
    | some st => s.failReq r st
    | none =>
      if r.kind == .back then s.placeAndPerform r .back
      else if s.lostStatus r then s.failLost r
      else
        let kind := s.effKind r
        let me := (s.reqSlot r).elim 0 slotBit
        let keys := r.lines.map (lineKey r.ptn)
        if keys.any fun k => (s.dirAt k).any (·.recalling.isSome) then s
        else
          let needs := keys.filterMap fun k => ((s.dirAt k).bind (snoopNeed kind me r.isHost)).map fun n => (k, n)
          if !needs.isEmpty then needs.foldl (fun s n => s.recallLine n.1 n.2.1 n.2.2) s
          else if kind.caching then
            let w := s.wayFree r (keys.headD 0)
            if w.2 then w.1.placeAndPerform r kind else w.1
          else s.placeAndPerform r kind

/-! ### The sweep and the settling of the queue -/

/-- Whether a line must be given up by its holders whatever is asked: its partition is CLOSING (R136), or it is held in X and lies in a region being sealed (R233). The vector of holders to recall, with a removed or orphaned slot's own copies (R120, R130). -/
def State.sweepMask (s : State) (key : Nat) (e : DirEntry) : Nat :=
  if s.ptnState (keyPtn key) == 2 then e.sharers
  else if e.excl && s.sw.svc.regions.any fun g => g.2.ptn == keyPtn key && g.2.off ≤ keyLine key * 128
      && keyLine key * 128 < g.2.off + g.2.len then e.sharers
  else (s.sw.pool.recalls.map fun c => e.sharers &&& slotBit c.1).foldl (· ||| ·) 0

/-- Starts the recalls that drains, removals and sealing ask for, and sends the back-invalidates that waited. -/
def State.sweep (s : State) : State :=
  s.sw.pool.dir.foldl (fun s e =>
    match s.dirAt e.1 with
    | some d =>
      if d.recalling.isSome then s.sendSnoops e.1
      else
        let m := s.sweepMask e.1 d
        if m == 0 then s else s.recallLine e.1 true m
    | none => s) s

/-- Removals whose slot no entry names any more end (R120), and so does the recall of a lost host that has returned every line (R439). DEDUCED, log 83. -/
def State.endRemovals (s : State) : State :=
  s.sw.pool.recalls.foldl (fun s c =>
    if s.slotEntries c.1 != 0 then s
    else if c.2.2 == 5 then s.endRemoval c.1
    else s.onPool fun p => { p with recalls := removeAt p.recalls c.1 }) s

/-- One pass over the home queue in its order. -/
def State.pass (s : State) : State :=
  s.sw.pool.queue.foldl (fun s q =>
    match s.sw.pool.queue.find? (·.id == q.id) with
    | some r => if r.parked || s.blocked r then s else s.tryReq r
    | none => s) s

/-- Lets the home go on until nothing moves; `fuel` bounds the passes. -/
def State.settleN : Nat → State → State
  | 0, s => s
  | n + 1, s => if s.sw.pool.queue.isEmpty && s.sw.pool.dir.isEmpty then s.endRemovals else State.settleN n (s.sweep.pass.endRemovals)

/-- Whether a line's key lies in a region. -/
def Region.has (r : Region) (key : Nat) : Bool :=
  keyPtn key == r.ptn && r.off ≤ keyLine key * 128 && keyLine key * 128 < r.off + r.len

/-- Whether a line of a region is held in X, which the hash waits for (R233). -/
def State.heldIn (s : State) (r : Region) : Bool := s.sw.pool.dir.any fun e => e.2.excl && r.has e.1

/-- The 2 MiB pages of a region hashed by a tick (R233, R239): 50.4 GB/s is 288 bytes in each tick. DEDUCED, log 29. -/
def Region.hashed (r : Region) (now : Nat) : Nat :=
  if r.done then r.len / 2 ^ 21 else match r.from_ with
    | some t => min (r.len / 2 ^ 21) ((now - t) * 288 / 2 ^ 21)
    | none => 0

/-- The hash engine begins on the region that heads its queue, once no line of it is held in X (R233). -/
def State.hashWake (s : State) : State :=
  match s.sw.svc.hashing with
  | [] => s
  | g :: _ => match lookup s.sw.svc.regions g with
    | some r =>
      if r.from_.isSome || s.heldIn r then s
      else s.onSvc fun v => { v with regions := insertAt v.regions g { r with from_ := some (s.now .sw) } }
    | none => s

/-- Lets the home go on until nothing moves, then the host's releases that waited for it (R83) and the hash engine (R233). -/
def State.settle (s : State) : State := (State.settleN (2 * s.sw.pool.queue.length + 6) s).hostAdds.hashWake

end Sys2Proof.Machine
end

