-- ==== Sys2Proof/Machine/Pool.lean ====
section
/-! DEFINITION. The commands of pool memory and the coherence domain (R57, R102 to R145, R235 to R238, R261 to R266, R313). -/

namespace Sys2Proof.Machine

/-! ### Arrival -/

/-- The status of R57 for a request of a context at a partition and offset, covering `n` bytes. -/
def State.poolCheck (s : State) (ctx hdrPtn p off n : Nat) : Nat :=
  if hdrPtn != p then stPERMISSION
  else if s.ptnState p == 0 then stNO_MAPPING
  else if s.orphaned ctx then stSTALE_CONTEXT
  else if s.ctxPtn ctx != some p then stPERMISSION
  else if s.ptnState p == 2 then stPARTITION_CLOSING
  else if s.ptnSize p < off + n then stNO_MAPPING
  else stOK

/-- Whether a request is accepted already and not yet completed (R265). -/
def State.accepted (s : State) (k : Packet) : Bool :=
  let same (j : Packet) : Bool := j.src == k.src && j.tag == k.tag && j.srcSw == k.srcSw
  s.sw.pool.gathers.any (fun g => same g.pkt) ||
    s.sw.pool.queue.any fun r => r.members.any fun m => match m.asker with
      | .fabric => same m.pkt
      | _ => false

/-- What every pool request passes first: the congestion mark, the CRC (R313), the duplicates (R265), the block rule (R39), the checks of R57. `n` is the number of bytes accessed; `blk` says whether R39 applies to them. -/
def State.poolGuard (s : State) (k : Packet) (n : Nat) (blk : Bool) (f : Nat → Nat → State → State) : State :=
  let s := s.consume .sw k
  if !crcOk k then (s.crcFail .sw k).swAnswer k stINTEGRITY
  else match placeOf k.addr with
    | .pool sid p off =>
      if sid != s.switchId then s.swAnswer k stUNREACHABLE
      else if s.accepted k then s
      else
        let rest (s : State) : State :=
          if blk && !inBlock off n then (s.event .sw pgErr .reqMalformed k.src k.op).swAnswer k stUNSUPPORTED
          else
            let st := s.poolCheck k.ctx k.ptn p off n
            if st != stOK then s.swAnswer k st else f p off s
        if nonIdempotent k then s.dedup .sw k rest else rest s
    | _ => s.swAnswer k stUNSUPPORTED

/-- Whether a range meets a region that is SEALING or SEALED (R233). DEDUCED, log 69. -/
def State.sealedRange (s : State) (p off n : Nat) : Bool :=
  s.sw.svc.regions.any fun g => g.2.ptn == p && g.2.off < off + n && off < g.2.off + g.2.len

/-- Whether a request is of a kind that combines, and its range is one that does (R262). -/
def combines (k : Packet) (off n : Nat) : Bool :=
  if k.op == opREAD || k.op == opGATHER then 1 ≤ n && off / 128 == (off + n - 1) / 128
  else k.op == opADD || k.op == opFETCH_ADD || k.op == opFADD_FP32 || k.op == opFADD_FP64 || k.op == opFADD_BF16X2 || k.op == opFADD_FP16X2

/-- Whether a request opens an entry: the window and the enable of its kind (R264). -/
def State.opens (s : State) (k : Packet) : Bool :=
  s.get .sw CMB_CFG_WINDOW != 0 &&
    (if k.op == opREAD || k.op == opGATHER then s.flag .sw CMB_CFG_READ_EN
     else if k.op == opADD || k.op == opFETCH_ADD then s.flag .sw CMB_CFG_INT_EN
     else s.flag .sw CMB_CFG_FADD_EN)

/-- The bytes that two entries share. -/
def bytesMeet (a : PReq) (p off n : Nat) : Bool := a.ptn == p && a.off < off + n && off < a.off + a.len

/-- An arriving access seals the open entries that it touches and that cannot take it (R262). -/
def State.sealOthers (s : State) (p off n : Nat) (keep : Option Nat) : State :=
  let close (r : PReq) : PReq :=
    if r.comb && some r.id != keep && bytesMeet r p off n then { r with isSealed := true } else r
  s.onPool fun q => { q with queue := q.queue.map close }

/-- Entries of the combining table in use. DEDUCED, log 74. -/
def State.combOpen (s : State) : Nat := (s.sw.pool.queue.filter (·.comb)).length

/-- Whether an entry is open to a request of the same kind, range, operation and partition at this tick (R98, R261, R262): it still waits for its issue, which seals it. -/
def State.takes (s : State) (r : PReq) (kind : PKind) (p off n op : Nat) : Bool :=
  r.comb && r.parked && !r.isSealed && r.kind == kind && r.ptn == p && r.off == off && r.len == n && r.members.length < 256
    && !s.due .sw r.opened (s.get .sw CMB_CFG_WINDOW) && !r.issued && r.result.isEmpty
    && (kind == .read || r.members.any fun m => m.pkt.op == op)

/-- A request joins its combining entry, or opens one, or is queued alone; then the home goes on (R124, R262). The range of a combined read is its whole line. The enables act on entries opened after they are written (R264). -/
def State.enterHome (s : State) (kind : PKind) (p off n : Nat) (m : Member) : State :=
  let can := combines m.pkt off n
  let off' := if can && kind == .read then off / 128 * 128 else off
  let n' := if can && kind == .read then 128 else n
  let home := if can then s.sw.pool.queue.find? fun r => s.takes r kind p off' n' m.pkt.op else none
  let s := s.sealOthers p off n (home.map (·.id))
  match home with
  | some r =>
    s.onReq r.id fun r => { r with members := r.members ++ [m], isSealed := r.members.length == 255 }
  | none =>
    if can && s.opens m.pkt && s.combOpen < 8192 then
      let probe : PReq := { id := 0, kind := kind, ptn := p, off := off', len := n', members := [] }
      let busy := s.sw.pool.queue.any (·.meets probe) || probe.lines.any fun l => (s.dirAt (lineKey p l)).any (·.recalling.isSome)
      let s := s.queueReq kind p off' n' [m] true
      let s := s.onPool fun q => { q with queue := q.queue.map fun r => if r.id + 1 == q.nextId then { r with parked := busy } else r }
      (s.peak .sw CMB_STS_PEAK s.combOpen).settle
    else
      let s := s.when (can && s.opens m.pkt) fun s => s.count .sw CMB_NOENTRY_COUNT
      (s.queueReq kind p off n [m]).settle

/-- A request of the fabric, stamped with its arrival. -/
def State.fabricMember (s : State) (k : Packet) : Member := ⟨k, .fabric, s.now .sw⟩

/-! ### Reads, writes, atomics -/

/-- POOL_READ (R119, R261): an uncached or volatile read. `media` lists lines with errors found by now, true uncorrectable. -/
def poolRead (k : Packet) (media : List (Nat × Bool)) (s : State) : State :=
  (s.decayed media).poolGuard k k.len true fun p off s => s.enterHome .read p off k.len (s.fabricMember k)

def execPoolRead (k : Packet) (media : List (Nat × Bool)) (s : State) : Host.Outcome State Fault Refusal := .next (poolRead k media s)

/-- POOL_WRITE (R113, R119, R132, R233): a write of up to 4 KiB, as a whole. -/
def poolWrite (k : Packet) (media : List (Nat × Bool)) (s : State) : State :=
  (s.decayed media).poolGuard k k.len true fun p off s =>
    if s.sealedRange p off k.len then s.swAnswer k stPERMISSION
    else
      let go (s : State) : State := s.enterHome .write p off k.len (s.fabricMember k)
      if k.vol then s.room .sw k go else go s

def execPoolWrite (k : Packet) (media : List (Nat × Bool)) (s : State) : Host.Outcome State Fault Refusal := .next (poolWrite k media s)

/-- POOL_ATOMIC (R91, R92, R98): performed at the home after the recall of its line, or combined. -/
def poolAtomic (k : Packet) (media : List (Nat × Bool)) (s : State) : State :=
  let n := (atomicSize k.op k.len).getD 0
  (s.decayed media).poolGuard k (max n 1) true fun p off s =>
    if n == 0 || off % n != 0 then s.swAnswer k stUNSUPPORTED
    else if s.sealedRange p off n then s.swAnswer k stPERMISSION
    else s.room .sw k fun s => s.enterHome .atomic p off n (s.fabricMember k)

def execPoolAtomic (k : Packet) (media : List (Nat × Bool)) (s : State) : Host.Outcome State Fault Refusal := .next (poolAtomic k media s)

/-! ### Coherence requests -/

/-- READ_SHARED (R118, R123). -/
def readShared (k : Packet) (s : State) : State :=
  s.poolGuard k 128 true fun p off s => s.enterHome .readShared p (off / 128 * 128) 128 (s.fabricMember k)

def execReadShared (k : Packet) (s : State) : Host.Outcome State Fault Refusal := .next (readShared k s)

/-- A request for ownership; in a region being sealed or sealed it is refused as a write (R233). DEDUCED, log 69, 76. -/
def State.ownRequest (s : State) (kind : PKind) (k : Packet) : State :=
  s.poolGuard k 128 true fun p off s =>
    if s.sealedRange p (off / 128 * 128) 128 then s.swAnswer k stPERMISSION
    else s.enterHome kind p (off / 128 * 128) 128 (s.fabricMember k)

/-- READ_OWN (R123). -/
def readOwn (k : Packet) (s : State) : State := s.ownRequest .readOwn k

def execReadOwn (k : Packet) (s : State) : Host.Outcome State Fault Refusal := .next (readOwn k s)

/-- UPGRADE (R123). DEDUCED, log 76. -/
def upgrade (k : Packet) (s : State) : State := s.ownRequest .upgrade k

def execUpgrade (k : Packet) (s : State) : Host.Outcome State Fault Refusal := .next (upgrade k s)

/-- SNOOP_TIMEOUT (R120, R130): a slot has a snoop, or its removal or recall, at the snoop timeout. DEDUCED, log 6. -/
def snoopTimeout (slot : Nat) (s : State) : State :=
  let t := s.get .sw DIR_SNOOP_TMO_TICKS
  let late := s.sw.pool.dir.any fun e => e.2.recalling.any fun r =>
    r.wait.testBit slot && !r.unsent.testBit slot && (lookup r.sent slot).any fun a => s.due .sw a t
  match lookup s.sw.pool.recalls slot with
  | some (start, cause) =>
    if s.due .sw start t || late then (if cause == 5 then s.endRemoval slot else s.fenceAgent slot cause).settle else s
  | none => if late then (s.fenceAgent slot 3).settle else s

/-- Whether a slot is the owner of a line in X, and not fenced (R126). -/
def State.ownsLine (s : State) (key : Nat) (slot : Option Nat) : Bool :=
  slot.any fun i => (s.slotState i == 1 || s.slotState i == 2) && (s.dirAt key).any fun e => e.excl && e.sharers == slotBit i

/-- A write-back answers the snoop that is outstanding to its sender (R125): the slot has given up the line, and the answer that the snoop itself still brings is ignored. -/
def State.answeredByBack (s : State) (key slot : Nat) : State :=
  match s.dirAt key with
  | some e => match e.recalling with
    | some r =>
      if r.wait.testBit slot then
        let s := s.putDir key ({ e.without slot (s.slotHost slot) with excl := false } : DirEntry).ended
        if r.unsent.testBit slot then s else s.onPool fun q => { q with spent := q.spent ++ [(key, slot)] }
      else s
    | none => s
  | none => s

/-- The owner gives a line up or back: outside a recall its entry is freed (R123); under a recall its data answers the snoop (R125). `keep` says that the host still holds its other half, and then its snoop stays outstanding (R380, R382). DEDUCED, log 75. -/
def State.ownerBack (s : State) (key slot keep : Nat) : State :=
  match s.dirAt key with
  | some e => match e.recalling with
    | some r =>
      if keep == 0 then s.answeredByBack key slot
      else if r.wait.testBit slot then s.putDir key { e with halves := keep, recalling := some { r with wb := true } } else s
    | none => if keep == 0 then s.putDir key { e with sharers := 0, halves := 0 } else s.putDir key { e with halves := keep }
  | none => s

/-- The status of R57 for data that comes back for a line; a CLOSING partition still takes what its owner gives up (R136). DEDUCED, log 205. -/
def State.returnCheck (s : State) (ctx hdrPtn p line : Nat) (slot : Option Nat) : Nat :=
  let st := s.poolCheck ctx hdrPtn p (line * 128) 128
  if st == stPARTITION_CLOSING && s.ownsLine (lineKey p line) slot then stOK else st

/-- What WRITEBACK and CLEAN_EVICT pass first: the mark, the CRC, the checks of R57, the snoop timeout of their sender (R13), the owner (R126). DEDUCED, log 77, 205. -/
def State.returnGuard (s : State) (k : Packet) (f : Nat → Nat → State → State) : State :=
  let s := s.consume .sw k
  if !crcOk k then (s.crcFail .sw k).swAnswer k stINTEGRITY
  else match placeOf k.addr with
    | .pool sid p off =>
      if sid != s.switchId then s.swAnswer k stUNREACHABLE
      else
        let line := off / 128
        let slot := s.agentSlot k.src
        let s := slot.elim s fun i => snoopTimeout i s
        let st := s.returnCheck k.ctx k.ptn p line slot
        if st != stOK then s.swAnswer k st
        else if s.ownsLine (lineKey p line) slot then f (lineKey p line) (slot.getD 0) s
        else (s.count .sw DIR_WB_DISCARD_COUNT).swAnswer k stOK
    | _ => s.swAnswer k stUNSUPPORTED

/-- WRITEBACK (R123, R125, R126): completes OK when its data is written. DEDUCED, log 75. -/
def writeback (k : Packet) (s : State) : State :=
  s.returnGuard k fun key slot s => ((s.ownerBack key slot 0).takeData key slot (slice k.payload 0 128) (some k)).settle

def execWriteback (k : Packet) (s : State) : Host.Outcome State Fault Refusal := .next (writeback k s)

/-- The owner gives up a clean line (R123). A line under recall stays until the snoop's answer. -/
def State.dropClean (s : State) (key : Nat) (keep : Nat) : State :=
  match s.dirAt key with
  | some e =>
    if e.recalling.isSome then s
    else if keep == 0 then s.putDir key { e with sharers := 0, halves := 0 } else s.putDir key { e with halves := keep }
  | none => s

/-- CLEAN_EVICT (R123, R126). -/
def cleanEvict (k : Packet) (s : State) : State :=
  s.returnGuard k fun key _ s => ((s.dropClean key 0).swAnswer k stOK).settle

def execCleanEvict (k : Packet) (s : State) : Host.Outcome State Fault Refusal := .next (cleanEvict k s)

/-! ### Snoop answers -/

/-- A slot has answered a snoop: it gives up the line on an invalidation, and stays a sharer after SNP_DATA (R123). -/
def State.answered (s : State) (key slot : Nat) (data : Option (List Byte)) : State :=
  let s := match data with
    | some bs => s.takeData key slot bs none
    | none => s
  match s.dirAt key with
  | some e => match e.recalling with
    | some r =>
      let e := if r.inv then e.without slot (s.slotHost slot)
        else { e with recalling := some { r with wait := lessBits r.wait (slotBit slot) } }
      s.putDir key ({ e with excl := false } : DirEntry).ended
    | none => s
  | none => s

/-- The answer of a slot to its snoop: 0 MISS, 1 ACK, 2 DATA, and a failed CRC (R123, R125, R130, R313). The MISS of a snoop that a write-back has answered is ignored (R125). DEDUCED, log 78. -/
def State.snoopAnswer (s : State) (key slot kind : Nat) (bs : List Byte) (ok : Bool) : State :=
  let was := s.sw.pool.spent.contains (key, slot)
  let s := s.onPool fun q => { q with spent := q.spent.erase (key, slot) }
  if was && (kind == 0 || !ok) then s else
  match (s.dirAt key).bind (·.recalling) with
  | none => s
  | some r =>
    if !r.wait.testBit slot || r.unsent.testBit slot then s
    else
      let x := (s.dirAt key).any (·.excl)
      let again := r.again.testBit slot
      if !ok && !again then
        let s := s.onRecall key fun r => { r with again := r.again ||| slotBit slot, sent := insertAt r.sent slot (s.now .sw) }
        if s.portUpTo (s.get .sw DIR_AGT_ENTRY_NODE (slot + 1)) then s.swSend (s.snoopPkt key slot r.inv) else s.fenceAgent slot 1
      else if x && !r.wb && ((again && kind != 2) || !ok) then s.markLost key 6 slot
      else s.answered key slot (if kind == 2 && ok && !r.wb then some bs else none)

/-- Whether a slot has a snoop of a line outstanding. -/
def State.snooped (s : State) (key slot : Nat) : Bool :=
  ((s.dirAt key).bind (·.recalling)).any fun r => r.wait.testBit slot && !r.unsent.testBit slot

/-- Whether a completion answers nothing that the switch has outstanding to its source: no snoop, and no invalidation. -/
def State.strayCpl (s : State) (k : Packet) : Bool :=
  match placeOf k.addr with
  | .pool _ p off => !(k.tag < 64 && s.snooped (lineKey p (off / 128)) k.tag)
  | _ => !(s.sw.invals.any fun v => v.serial == k.tag && v.done.isNone && v.waits.contains k.src)

/-- SNP_RSP_RECEIVE (R123, R130, R313): a snoop answer, or a completion UNREACHABLE for a snoop; the snoop timeout of the slot comes first (R13). DEDUCED, log 78. -/
def snpRspReceive (k : Packet) (s : State) : State :=
  let s := s.consume .sw k
  if k.op == opCPL then
    if !crcOk k then s.crcFail .sw k
    else if k.status == stINTEGRITY && s.strayCpl k then s.count .sw HDR_ERR_COUNT_COUNT 1 0 pgErr
    else match placeOf k.addr with
      | .pool _ p off =>
        let s := if k.tag < 64 then snoopTimeout k.tag s else s
        if k.status == stUNREACHABLE && k.tag < 64 && s.snooped (lineKey p (off / 128)) k.tag then (s.fenceAgent k.tag 1).settle else s
      | _ => s
  else match placeOf k.addr with
    | .pool _ p off =>
      let ok := crcOk k
      let s := s.when (!ok) fun s => s.crcFail .sw k
      match s.agentSlot k.src with
      | some slot => ((snoopTimeout slot s).snoopAnswer (lineKey p (off / 128)) slot (k.aux % 4) (slice k.payload 0 128) ok).settle
      | none => s
    | _ => s

def execSnpRspReceive (k : Packet) (s : State) : Host.Outcome State Fault Refusal := .next (snpRspReceive k s)

def execSnoopTimeout (slot : Nat) (s : State) : Host.Outcome State Fault Refusal := .next (snoopTimeout slot s)

/-- FENCE of DIR.AGT_CTL on the selected slot (R130): an agent that is ACTIVE or being removed is lost with cause SOFTWARE. DEDUCED, log 79. -/
def State.agtFence (s : State) : State := (s.fenceAgent (s.get .sw DIR_AGT_SEL_SLOT) 4).settle

/-- AGT_FENCE_WRITE (R130). -/
def agtFenceWrite (path : Path) (s : State) : State := s.writeBy path .sw pgDir 0x50 fun s => (s.agtFence, true)

def execAgtFenceWrite (path : Path) (s : State) : Host.Outcome State Fault Refusal := .next (agtFenceWrite path s)

/-- READMIT of DIR.AGT_CTL on the selected slot (R134). -/
def State.agtReadmit (s : State) : Written :=
  let i := s.get .sw DIR_AGT_SEL_SLOT
  if s.slotState i == 3 then (s.put .sw DIR_AGT_STS_STATE 1 (i + 1), true) else s.refused .sw pgDir

/-- AGT_READMIT_WRITE (R134). -/
def agtReadmitWrite (path : Path) (s : State) : State := s.writeBy path .sw pgDir 0x50 State.agtReadmit

def execAgtReadmitWrite (path : Path) (s : State) : Host.Outcome State Fault Refusal := .next (agtReadmitWrite path s)

/-- The switch's own port has left ACTIVE: the agents behind it are lost with cause LINK_DOWN (R130). -/
def State.agentsPortLost (s : State) (n : Nat) : State :=
  let at_ (i : Nat) : Bool := (s.slotState i == 1 || s.slotState i == 2) && !s.slotHost i
    && s.egressOf (s.get .sw DIR_AGT_ENTRY_NODE (i + 1)) == some n
  (((upTo 64).filter at_).foldl (fun s i => s.fenceAgent i 1) s).settle

/-! ### Owner-lost lines -/

/-- Whether a context holds the control privilege at a part (R406). -/
def State.ctlPriv (s : State) (p : Part) (ctx : Nat) : Bool := s.flag p CTX_ENTRY_VALID (ctx + 1) && s.flag p CTX_ENTRY_CTL_PRIV (ctx + 1)

/-- Whether a writer has control privilege over a partition (R133): the host and the side-band over every one, a remote context over its own. DEDUCED, log 31. -/
def State.controls (s : State) (o : Origin) (p : Nat) : Bool :=
  o.path != .remote || (s.ctlPriv .sw o.ctx && s.ctxPtn o.ctx == some p)

/-- A write of DIR.OL_CLEAR starts a clear with its fields, unless one is in progress or the writer has no control privilege over the partition (R133, R143). -/
def State.olClear (s : State) (o : Origin) (v : Word) : Written :=
  if s.flag .sw DIR_OL_CLEAR_BUSY || !s.controls o (getBits v 0 6) then s.refused .sw pgDir
  else
    let s := (s.put .sw DIR_OL_CLEAR_PARTITION (getBits v 0 6)).put .sw DIR_OL_CLEAR_ALL (getBits v 6 1)
    ((s.put .sw DIR_OL_CLEAR_LINE (getBits v 7 33)).put .sw DIR_OL_CLEAR_BUSY 1, true)

/-- OL_CLEAR_WRITE (R133). -/
def olClearWrite (o : Origin) (v : Word) (s : State) : State := s.writeBy o.path .sw pgDir 0xA0 fun s => s.olClear o v

def execOlClearWrite (o : Origin) (v : Word) (s : State) : Host.Outcome State Fault Refusal := .next (olClearWrite o v s)

/-- OL_CLEAR_DONE (R133, R143): the flags named are cleared and BUSY falls. -/
def olClearDone (s : State) : State :=
  if !s.flag .sw DIR_OL_CLEAR_BUSY then s
  else
    let p := s.get .sw DIR_OL_CLEAR_PARTITION
    let one := lineKey p (s.get .sw DIR_OL_CLEAR_LINE)
    let s := if s.flag .sw DIR_OL_CLEAR_ALL then s.onPool fun q => { q with lost := keepIf (fun k _ => keyPtn k != p) q.lost }
      else s.clearLost one
    (s.put .sw DIR_OL_CLEAR_BUSY 0).settle

def execOlClearDone (s : State) : Host.Outcome State Fault Refusal := .next (olClearDone s)

/-- DIR.OL_REC0 and DIR.OL_REC1 as they read: the oldest record (R143). -/
def State.olRec0 (s : State) : Word :=
  match s.sw.pool.olLog with
  | r :: _ => BitVec.ofNat 64 (keyLine r.line * 2 ^ 7 + keyPtn r.line * 2 ^ 40 + r.cause * 2 ^ 46)
  | [] => 0

def State.olRec1 (s : State) : Word :=
  match s.sw.pool.olLog with
  | r :: _ => BitVec.ofNat 64 (r.slot + 2 ^ 31 + r.tick * 2 ^ 32)
  | [] => 0

/-- A read of OL_REC1 removes the oldest record (R143). -/
def State.readOlRec1 (s : State) : State × Word :=
  (s.onPool fun p => { p with olLog := p.olLog.drop 1 }, s.olRec1)

/-- OL_REC1_READ (R143). -/
def olRec1Read (path : Path) (s : State) : State := s.readBy path .sw pgDir 0x88 State.readOlRec1

def execOlRec1Read (path : Path) (s : State) : Host.Outcome State Fault Refusal := .next (olRec1Read path s)

/-! ### Granules, drains, scrubs -/

/-- The granule that POL.GRAN_SEL names, tier in bit 17. -/
def State.granSel (s : State) : Nat := s.get .sw POL_GRAN_SEL_TIER * 2 ^ 17 + s.get .sw POL_GRAN_SEL_INDEX

/-- RETIRE of POL.GRAN_CTL (R110, R142). -/
def State.granRetire (s : State) : Written :=
  let g := s.granSel
  if s.granState g == 1 || s.granState g == 2 then (s.setGran g 5, true) else s.refused .sw pgPol

/-- GRAN_RETIRE (R142). -/
def granRetire (path : Path) (s : State) : State := s.writeBy path .sw pgPol 0x4C State.granRetire

def execGranRetire (path : Path) (s : State) : Host.Outcome State Fault Refusal := .next (granRetire path s)

/-- The HBM granules that can be scrubbed, in ascending order, then the bulk granules (R138). -/
def State.firstDirty (s : State) : Option Nat :=
  let dirty (g : Nat) : Bool := s.granState g == 2
  let hbm := if s.sw.pool.stackLost then none else (upTo 1788).find? dirty
  hbm.orElse fun _ =>
    let port (n : Nat) : Option Nat :=
      if s.bulkUp n then ((upTo (s.bulkCount n)).find? fun g => dirty (2 ^ 17 + n * 2 ^ 16 + g)).map (2 ^ 17 + n * 2 ^ 16 + ·) else none
    (port 0).orElse fun _ => port 1

/-- The zero scrub takes its next granule when it is on none (R138). -/
def State.scrubNext (s : State) (busy : Bool := false) : State :=
  if busy then s
  else match s.firstDirty with
    | some g => s.setGran g 3
    | none => s

/-- Whether the scrub is on a granule: some listed granule is SCRUBBING. -/
def State.scrubBusy (s : State) : Bool :=
  s.swc.regs.any fun e => e.1 % 2 ^ 24 == POL_GRAN_STS.page * 4096 + POL_GRAN_STS.off && getBits e.2 0 3 == 3

/-- The scrub goes on to a dirty granule if it stands. -/
def State.scrubWake (s : State) : State := s.scrubNext s.scrubBusy

/-- SCRUB_GRANULE_DONE (R133, R138): the granule being zeroed is clean; its owner-lost flags and errors are gone. Control core 2 sequences the scrubs (R431). DESIGN CHOICE, log 80. DEDUCED, log 82. -/
def scrubGranuleDone (g : Nat) (s : State) : State :=
  if s.granState g != 3 || !s.cpuUp 2 then s
  else
    let s := s.setGran g 1
    let s := if g.testBit 17 then s.emit (.bulkZero (bitsOf g 16 1) (bitsOf g 0 16))
      else s.onPool fun p =>
        { p with mem := Memory.zero p.mem (g * 2 ^ 28) (2 ^ 28), decay := keepIf (fun l _ => l / 2 ^ 21 != g) p.decay,
                 dead := removeAt p.dead g }
    s.scrubNext

def execScrubGranuleDone (g : Nat) (s : State) : Host.Outcome State Fault Refusal := .next (scrubGranuleDone g s)

/-- PATROL_PASS (R139): every ASSIGNED HBM line has been read; corrected lines are rewritten, uncorrectable ones recorded. DEDUCED, log 82. -/
def patrolPass (media : List (Nat × Bool)) (s : State) : State :=
  if s.get .sw POL_SCRUB_CTL_PATROL_HOURS == 0 || !s.cpuUp 2 then s
  else
    let s := s.decayed media
    let s := s.sw.pool.decay.foldl (fun s e =>
      if s.granState (e.1 / 2 ^ 21) == 4 then
        let s := (s.eccRead e.1).1
        if e.2 then s else s.onPool fun p => { p with decay := removeAt p.decay e.1 }
      else s) s
    s.addWrap .sw POL_SCRUB_STS_PATROL_PASSES

def execPatrolPass (media : List (Nat × Bool)) (s : State) : Host.Outcome State Fault Refusal := .next (patrolPass media s)

/-- The granules that a partition's maps name. -/
def State.ptnGranules (s : State) (p : Nat) : List Nat :=
  let valid (t i : Nat) : Bool := s.flag .sw POL_MAP_ENTRY_VALID (mapBank p t i)
  let tab (t n : Nat) := ((upTo n).filter (valid t)).map (s.granuleOf p t)
  tab 0 (s.get .sw PTN_ENTRY_SIZE_M1 (p + 1) + 1) ++ (if s.ptnBacked p then tab 1 (2 ^ s.get .sw PTN_ENTRY_SHARE_LOG2 (p + 1)) else [])

/-- Requests of a partition that are still in flight complete with a status. -/
def State.flushPtn (s : State) (p st : Nat) : State :=
  (s.sw.pool.queue.filter (·.ptn == p)).foldl (fun s r => match s.sw.pool.queue.find? (·.id == r.id) with
    | some r => s.failReq r st
    | none => s) s

/-- The home's side of the end of a drain (R136): requests in flight abort, agents with unanswered recalls are fenced, lines held in X are lost with cause CLOSED, the granules become FREE_DIRTY, the regions FREE (R233), the partition UNDEFINED. -/
def State.drainHome (s : State) (p : Nat) : State :=
  let s := s.flushPtn p stABORTED
  let mine := s.sw.pool.dir.filter fun e => keyPtn e.1 == p
  let late := (mine.map fun e => (e.2.recalling.map (·.wait)).getD 0).foldl (· ||| ·) 0
  let ex := mine.filter (·.2.excl)
  let logged := ex.foldl (fun (s : State) e =>
    let slot := (slotsOf e.2.sharers).headD 0
    if s.sw.pool.olLog.length < 1024 then
      s.onPool fun q => { q with olLog := q.olLog ++ [⟨e.1, 7, slot, s.now .sw % 2 ^ 32⟩] }
    else s.count .sw DIR_OL_DROP_COUNT) s
  let flagged := (ex.map (·.1)) ++ ((s.sw.pool.lost.filter fun e => keyPtn e.1 == p && e.2 == 0).map (·.1))
  let dead := flagged.foldl (fun m k =>
    let g := s.hbmLine p (keyLine k) / 2 ^ 21
    insertAt m g ((lookup m g).getD 0 + 1)) s.sw.pool.dead
  let s := logged.onPool fun q =>
    { q with dir := keepIf (fun k _ => keyPtn k != p) q.dir, lost := keepIf (fun k _ => keyPtn k != p) q.lost, dead := dead,
             slots := keepIf (fun _ c => c.ptn != p) q.slots, drains := removeAt q.drains p }
  let s := (slotsOf late).foldl (fun s i => s.fenceAgent i 3) s
  let s := (s.ptnGranules p).foldl (fun s g => s.setGran g 2) s
  let s := s.onSvc fun v => { v with regions := keepIf (fun _ g => g.ptn != p) v.regions,
                                     hashing := v.hashing.filter fun r => (lookup v.regions r).any (·.ptn != p) }
  ((s.put .sw POL_PTN_STS_STATE 0 (p + 1)).scrubWake).settle

/-- The zero scrub leaves the HBM granule that it is on and goes on with the bulk tier: it does not run on HBM while a stack is lost (R141). DEDUCED, log 183. -/
def State.scrubStand (s : State) : State :=
  match (upTo 1788).find? fun g => s.granState g == 3 with
  | some g => (s.setGran g 2).scrubNext
  | none => s

/-- HBM_STACK_LOST (R141): every partition stops at rung L6. -/
def hbmStackLost (n : Nat) (s : State) : State :=
  if 6 ≤ n then s
  else
    let s := (s.put .sw HBM_STS_TRAINED 0 0 n).put .sw HDR_PAGE_STS_FAULT 1 0 (pgHbm + n)
    let s := s.event .sw (pgHbm + n) .hbmStackLost n
    let s := (s.onPool fun p => { p with stackLost := true }).scrubStand
    ((upTo 64).foldl (fun s p => s.stopPartition p 2) s).settle

def execHbmStackLost (n : Nat) (s : State) : Host.Outcome State Fault Refusal := .next (hbmStackLost n s)

/-! ### The bulk tier -/

/-- Records an error of a bulk device on its port's page (R394, R396): kind 0 fill, 1 write-back, 2 timeout. -/
def State.bulkErr (s : State) (b : BulkOp) (kind : Nat) : State :=
  let n := b.port
  let s := s.count .sw (if b.write then CXD_ERRS_WRITEBACK else CXD_ERRS_FILL) 1 0 n
  let s := (s.put .sw CXD_ERR_ADDR_DPA (s.bulkDpa b.ptn b.line / 128) 0 n).put .sw CXD_ERR_ADDR_KIND kind 0 n
  let s := s.put .sw CXD_ERR_ADDR_VALID 1 0 n
  s.when b.write fun s => s.event .sw (pgCxd + n) .bulkWbFail n (s.bulkDpa b.ptn b.line)

/-- Takes an access off the list. -/
def State.bulkOff (s : State) (b : BulkOp) : State := s.onPool fun p => { p with bulk := p.bulk.filter (·.id != b.id) }

/-- An access to a bulk device has failed with a status for the request it serves; a slot stays dirty and pinned (R115). -/
def State.bulkFail (s : State) (b : BulkOp) (st : Nat) (stick : Bool) : State :=
  let s := s.bulkOff b
  let s := match b.slot with
    | some hl => if b.write && stick then
        match lookup s.sw.pool.slots hl with
        | some c => s.putSlot hl (some { c with stuck := true })
        | none => s
      else s
    | none => s
  match b.req with
  | some id => s.onReq id fun r => { r with fail := some st, acks := if b.write then r.acks - 1 else r.acks }
  | none => s

/-- Whether a bulk device has not answered an access in time: from DEV_TMO on its answer counts for nothing (R13, R394). -/
def State.bulkLate (s : State) (b : BulkOp) : Bool := s.due .sw b.at_ (s.get .sw CXD_DEV_TMO_TICKS 0 b.port)

/-- A downstream port leaves service: what was on its way fails UNREACHABLE, dirty slots stay (R115). A granule of the port that is being zeroed stays SCRUBBING until the port returns. DESIGN CHOICE, log 198. -/
def State.bulkDown (s : State) (n : Nat) : State :=
  let s := (s.put .sw (if n == 0 then BLK_PORT_STS_UP0 else BLK_PORT_STS_UP1) 0).put .sw CXD_STS_UP 0 0 n
  ((s.sw.pool.bulk.filter (·.port == n)).foldl (fun s b => s.bulkFail b stUNREACHABLE false) s).settle

/-- Holds a downstream port in FAULT with a code (R391 to R394). -/
def State.cxdFault (s : State) (n code : Nat) : State :=
  let s := ((s.put .sw CXD_STS_FAULT_HELD 1 0 n).put .sw CXD_STS_FAULT code 0 n).bulkDown n
  s.event .sw (pgCxd + n) .bulkPortFault n code

/-- An access has had no answer for DEV_TMO ticks: it fails, and the sixteenth in a row takes the port down (R394). -/
def State.bulkExpire (s : State) (b : BulkOp) : State :=
  let n := (lookup s.sw.pool.devMiss b.port).getD 0 + 1
  let s := (s.bulkErr b 2).bulkFail b stINTEGRITY true
  let s := s.onPool fun p => { p with devMiss := insertAt p.devMiss b.port n }
  if 16 ≤ n then s.cxdFault b.port 8 else s.settle

/-- BULK_FILL_COMPLETE (R113, R115): the device returns a line, or poison or an error. -/
def bulkFillComplete (id : Nat) (ok : Bool) (data : List Byte) (s : State) : State :=
  match s.sw.pool.bulk.find? fun b => b.id == id && !b.write with
  | none => s
  | some b =>
    if s.bulkLate b then s.bulkExpire b
    else if !ok then ((s.bulkErr b 0).bulkFail b stINTEGRITY false).settle
    else
      let s := (s.bulkOff b).onPool fun p => { p with devMiss := removeAt p.devMiss b.port }
      let bs := slice data 0 128
      let s := match b.slot, b.req with
        | some hl, _ =>
          if s.ptnState b.ptn != 0 && s.hbmLine b.ptn b.line == hl then
            (s.hbmWrite hl bs).putSlot hl (some ⟨s.lineTag b.ptn b.line, false, false, b.ptn⟩)
          else s
        | none, some r => s.onReq r fun r => { r with got := insertAt r.got b.line bs }
        | none, none => s
      s.settle

def execBulkFillComplete (id : Nat) (ok : Bool) (data : List Byte) (s : State) : Host.Outcome State Fault Refusal := .next (bulkFillComplete id ok data s)

/-- BULK_WRITEBACK_COMPLETE (R113, R115): the device has acknowledged a write or a write-back, or failed it. -/
def bulkWritebackComplete (id : Nat) (ok : Bool) (s : State) : State :=
  match s.sw.pool.bulk.find? fun b => b.id == id && b.write with
  | none => s
  | some b =>
    if s.bulkLate b then s.bulkExpire b
    else if !ok then ((s.bulkErr b 1).bulkFail b stINTEGRITY true).settle
    else
      let s := (s.bulkOff b).onPool fun p => { p with devMiss := removeAt p.devMiss b.port }
      let s := match b.slot, b.req with
        | some hl, _ => match lookup s.sw.pool.slots hl with
          | some c =>
            if c.ptn == b.ptn && s.slotLine hl c == b.line && s.hbmRead hl == b.data then
              s.putSlot hl (some { c with dirty := false, stuck := false })
            else s
          | none => s
        | none, some r => s.onReq r fun r => { r with acks := r.acks - 1 }
        | none, none => s
      s.settle

def execBulkWritebackComplete (id : Nat) (ok : Bool) (s : State) : Host.Outcome State Fault Refusal := .next (bulkWritebackComplete id ok s)

/-- BULK_PORT_DOWN (R115). -/
def bulkPortDown (n : Nat) (s : State) : State := if 2 ≤ n then s else s.bulkDown n

def execBulkPortDown (n : Nat) (s : State) : Host.Outcome State Fault Refusal := .next (bulkPortDown n s)

/-- The bank of the first granule of a port. -/
def portGran (n : Nat) : Nat := 2 ^ 17 + n * 2 ^ 16

/-- Whether a port has an ASSIGNED granule. -/
def State.portAssigned (s : State) (n : Nat) : Bool := (upTo (s.bulkCount n)).any fun g => s.granState (portGran n + g) == 4

/-- Every granule of a port becomes FREE_DIRTY: the state that an unwritten GRAN_STS reads. -/
def State.portDirty (s : State) (n : Nat) : State :=
  s.onChip .sw fun c => { c with regs := keepIf (fun k _ =>
    !(k % 2 ^ 24 == POL_GRAN_STS.page * 4096 + POL_GRAN_STS.off && granBank (portGran n) ≤ k / 2 ^ 24
      && k / 2 ^ 24 < granBank (portGran n) + 2 ^ 16)) c.regs }

/-- Writes back the dirty slots of a port that has returned (R115). -/
def State.retryDirty (s : State) (n : Nat) : State :=
  s.sw.pool.slots.foldl (fun s e =>
    if e.2.dirty && (s.bulkPlace e.2.ptn (s.slotLine e.1 e.2)).1 == n then
      let c := { e.2 with stuck := false }
      if (lookup s.sw.pool.decay e.1) == some true then s else (s.putSlot e.1 (some c)).writeBack e.1 c
    else s) s

/-- The last steps of a bring-up (R392, R393): the serial number is compared, the granule count set, the port marked up. -/
def State.bulkBringUp (s : State) (n serial bytes : Nat) : State :=
  let old := lookup s.sw.pool.serials n
  if old.any (· != serial) && s.portAssigned n then s.cxdFault n 6
  else
    let s := s.when (old != some serial) fun s =>
      (s.portDirty n).onPool fun p => { p with serials := insertAt p.serials n serial }
    let count := min (bytes / 2 ^ 28) 65536
    let s := (s.put .sw CXD_CAPACITY_BYTES bytes 0 n).put .sw CXD_SERIAL_SERIAL serial 0 n
    let s := (s.put .sw CXD_STS_FAULT_HELD 0 0 n).put .sw CXD_STS_FAULT 0 0 n
    let s := s.put .sw (if n == 0 then BLK_PORT_STS_GRAN0 else BLK_PORT_STS_GRAN1) count
    let s := (s.put .sw (if n == 0 then BLK_PORT_STS_UP0 else BLK_PORT_STS_UP1) 1).put .sw CXD_STS_UP 1 0 n
    let s := s.onPool fun p => { p with devMiss := removeAt p.devMiss n }
    ((s.retryDirty n).scrubWake).settle

/-- BULK_PORT_UP (R115, R393): a port returns with a device of a serial number and capacity. A port held in FAULT waits for its RESTART. -/
def bulkPortUp (n serial bytes : Nat) (s : State) : State :=
  if 2 ≤ n || s.bulkUp n || s.flag .sw CXD_STS_FAULT_HELD 0 n then s else s.bulkBringUp n serial bytes

def execBulkPortUp (n serial bytes : Nat) (s : State) : Host.Outcome State Fault Refusal := .next (bulkPortUp n serial bytes s)

/-- BULK_DEV_TIMEOUT (R394): the device has not answered an access for DEV_TMO ticks; the sixteenth in a row takes the port down. -/
def bulkDevTimeout (id : Nat) (s : State) : State :=
  match s.sw.pool.bulk.find? (·.id == id) with
  | none => s
  | some b => if s.bulkLate b then s.bulkExpire b else s

def execBulkDevTimeout (id : Nat) (s : State) : Host.Outcome State Fault Refusal := .next (bulkDevTimeout id s)

/-- PREFETCH_HINT (R113, R313): a hint on TC6 fills an absent line of a BACKED partition without a response; `busy` says that the port queue is more than half full. -/
def prefetchHint (k : Packet) (busy : Bool) (s : State) : State :=
  let s := s.consume .sw k
  if !crcOk k then s.crcFail .sw k
  else match placeOf k.addr with
    | .pool sid p off =>
      let ok := sid == s.switchId && s.poolCheck k.ctx k.ptn p off 0 == stOK && off < s.ptnSize p
      if ok && s.flag .sw BLK_CFG_PREFETCH_EN && !busy && s.ptnBacked p && (s.hitSlot p (off / 128)).isNone then
        (s.queueReq .fill p (off / 128 * 128) 128 [⟨ownPkt, .hint, s.now .sw⟩]).settle
      else s
    | _ => s

def execPrefetchHint (k : Packet) (busy : Bool) (s : State) : Host.Outcome State Fault Refusal := .next (prefetchHint k busy s)

/-! ### Combining, timeouts, outcome records -/

/-- COMBINE_WINDOW_EXPIRY (R262): the open entries of a line whose window has ended are sealed. DEDUCED, log 74. -/
def combineWindowExpiry (p line : Nat) (s : State) : State :=
  let w := s.get .sw CMB_CFG_WINDOW
  let close (r : PReq) : PReq :=
    if r.comb && bytesMeet r p (line * 128) 128 && s.due .sw r.opened w then { r with isSealed := true } else r
  s.onPool fun q => { q with queue := q.queue.map close }

def execCombineWindowExpiry (p line : Nat) (s : State) : Host.Outcome State Fault Refusal := .next (combineWindowExpiry p line s)

/-- COMBINE_ISSUE (R262 to R264): the slice reaches the first entry of a line's order that waits for its issue. DEDUCED, log 74. -/
def combineIssue (p line : Nat) (s : State) : State :=
  match s.sw.pool.queue.find? fun r => r.parked && bytesMeet r p (line * 128) 128 with
  | some r => if s.blocked r then s else (s.onReq r.id fun r => { r with parked := false }).settle
  | none => s

def execCombineIssue (p line : Nat) (s : State) : Host.Outcome State Fault Refusal := .next (combineIssue p line s)

/-- Whether the request timeout bounds a member: not the write of data that a holder gave back. -/
def Member.bounded (m : Member) : Bool := match m.asker with
  | .back _ _ => false
  | _ => true

/-- The record of a fabric member that completes TIMEOUT after its access has been performed (R97, R265): a later copy gets the same answer. -/
def State.lateRecord (s : State) (m : Member) : State :=
  match m.asker with
  | .fabric => if nonIdempotent m.pkt then s.keepOutcome .sw m.pkt stTIMEOUT [] 0 else s
  | _ => s

/-- SWITCH_REQ_TIMEOUT (R124, R266): the members of an entry of the home queue that have waited for CMB.REQ_TMO complete TIMEOUT. -/
def switchReqTimeout (id : Nat) (s : State) : State :=
  match s.sw.pool.queue.find? (·.id == id) with
  | none => s
  | some r =>
    let t := s.get .sw CMB_REQ_TMO_TICKS
    let isLate (m : Member) : Bool := m.bounded && s.due .sw m.at_ t
    let late := r.members.filter isLate
    if late.isEmpty then s
    else
      let left := r.members.filter fun m => !isLate m
      let kept := ((r.members.zip r.result).filter fun e => !isLate e.1).map (·.2)
      let s := if left.isEmpty then s.onPool fun p => { p with queue := p.queue.filter (·.id != id) }
        else s.onReq id fun r => { r with members := left, result := if r.result.length == r.members.length then kept else r.result }
      -- one whose access has been performed leaves a record (R97, R101)
      let s := s.when r.issued fun s => late.foldl (fun s m => s.lateRecord m) s
      (late.foldl (fun s m => s.answerMember r m stTIMEOUT [] 0 false) s).settle

def execSwitchReqTimeout (id : Nat) (s : State) : Host.Outcome State Fault Refusal := .next (switchReqTimeout id s)

/-- OUTCOME_RECORD_EXPIRY (R265, R266): a record of the switch has been held for OUT_HOLD ticks. -/
def outcomeRecordExpiry (src tag : Nat) (s : State) : State :=
  if (s.outcomes .sw).any fun o => o.src == src && o.tag == tag && s.outLate .sw o then s.outExpire .sw src tag else s

def execOutcomeRecordExpiry (src tag : Nat) (s : State) : Host.Outcome State Fault Refusal := .next (outcomeRecordExpiry src tag s)

/-- OUTCOME_RELEASE_RECEIVE (R313, R360): the records of the tags named are removed. -/
def outcomeReleaseReceive (p : Part) (k : Packet) (s : State) : State :=
  let s := s.consume p k
  if !crcOk k then s.crcFail p k
  else
    let tags := (upTo (min 120 (k.payload.length / 2))).map fun i => natAt k.payload (2 * i) 2
    let s := s.when (p == .ep) fun s => s.count .ep DDP_RELEASE_RECEIVED tags.length
    s.onOutcomes p fun l => l.filter fun o => !(o.src == k.src && tags.contains o.tag)

def execOutcomeReleaseReceive (p : Part) (k : Packet) (s : State) : Host.Outcome State Fault Refusal := .next (outcomeReleaseReceive p k s)

/-! ### Gather and scatter-add (R235 to R238) -/

/-- The table whose base a request names. -/
def State.tableAt (s : State) (p off : Nat) : Option Table :=
  (s.sw.svc.tables.find? fun e => e.2.ptn == p && e.2.base == off).map (·.2)

/-- The bytes of a table's row: 16-byte units, 0 for 256. -/
def Table.rowBytes (t : Table) : Nat := 16 * (if t.units == 0 then 256 else t.units)

/-- Whether the switch is at throttle level P3. DEDUCED, log 71. -/
def State.powerHeld (s : State) : Bool := s.get .sw PWR_STS_LEVEL == 3

/-- The checks of R238 and R235 after those of R57. DEDUCED, log 71. -/
def State.tableGuard (s : State) (k : Packet) (f : Table → State → State) : State :=
  s.poolGuard k 0 false fun p off s =>
    if s.powerHeld then s.swAnswer k stHELD
    else match s.tableAt p off with
      | none => s.swAnswer k stNO_MAPPING
      | some t => if (if k.op == opGATHER then t.gather else t.scatter) then f t s else s.swAnswer k stUNSUPPORTED

/-- Enters a gather or a scatter-add with its parts outstanding. -/
def State.openGather (s : State) (k : Packet) (t : Table) (idx : List Nat) (left : Nat) : State × Gather :=
  let g : Gather := { id := s.sw.pool.nextId, pkt := k, at_ := s.now .sw, row := t.rowBytes, base := t.base, rows := t.rows,
                      indices := idx, lines := [], left := left }
  (s.onPool fun p => { p with gathers := p.gathers ++ [g], nextId := p.nextId + 1 }, g)

/-- The lines of the rows that a gather reads, each once, in order of first use. -/
def gatherLines (t : Table) (idx : List Nat) : List Nat :=
  let rowLines (i : Nat) : List Nat :=
    let off := t.base + i * t.rowBytes
    (upTo ((off + t.rowBytes - 1) / 128 + 1 - off / 128)).map (off / 128 + ·)
  ((idx.filter (· < t.rows)).map rowLines).flatten.eraseDups

/-- GATHER_REQUEST (R235, R236). DEDUCED, log 70. -/
def gatherRequest (k : Packet) (s : State) : State :=
  s.tableGuard k fun t s =>
    let n := k.aux
    if n == 0 || 1024 < n || k.len < 4 * n then s.swAnswer k stUNSUPPORTED
    else
      let idx := (upTo n).map fun i => natAt k.payload (4 * i) 4
      let ls := gatherLines t idx
      let x := s.openGather k t idx ls.length
      if ls.isEmpty then
        (x.1.onPool fun p => { p with gathers := p.gathers.filter (·.id != x.2.id) }).endGather x.2
      else ls.foldl (fun s l => s.enterHome .read k.ptn (l * 128) 128 ⟨k, .gather x.2.id l, s.now .sw⟩) x.1

def execGatherRequest (k : Packet) (s : State) : Host.Outcome State Fault Refusal := .next (gatherRequest k s)

/-- The number of rows of a scatter-add payload: 16 × ⌈n/4⌉ + n × row bytes is its length. -/
def scatterRows (len row : Nat) : Option Nat := (upTo 257).find? fun n => n != 0 && 16 * ceilDiv n 4 + n * row == len

/-- SCATTER_ADD_REQUEST (R237): each row is one access, in list order. DEDUCED, log 70. -/
def scatterAddRequest (k : Packet) (s : State) : State :=
  s.tableGuard k fun t s =>
    match scatterRows k.len t.rowBytes with
    | none => s.swAnswer k stUNSUPPORTED
    | some n => s.room .sw k fun s =>
      let idx := (upTo n).map fun i => natAt k.payload (4 * i) 4
      let ok := (upTo n).filter fun i => idx.getD i 0 < t.rows
      let x := s.openGather k t idx ok.length
      if ok.isEmpty then (x.1.onPool fun p => { p with gathers := p.gathers.filter (·.id != x.2.id) }).endScatter x.2
      else
        let rowAt (i : Nat) : List Byte := slice k.payload (16 * ceilDiv n 4 + i * t.rowBytes) t.rowBytes
        (ok.foldl (fun s i =>
          let off := t.base + idx.getD i 0 * t.rowBytes
          let m : Member := ⟨{ k with payload := rowAt i, aux := t.fmt }, .gather x.2.id i, s.now .sw⟩
          (s.sealOthers k.ptn off t.rowBytes none).queueReq .scatter k.ptn off t.rowBytes [m]) x.1).settle

def execScatterAddRequest (k : Packet) (s : State) : Host.Outcome State Fault Refusal := .next (scatterAddRequest k s)

end Sys2Proof.Machine
end

