-- ==== Sys2Proof/Machine/Reduce.lean ====
section
/-! DEFINITION. Reduction arithmetic as functions of bytes (R149 to R169): formats, decoding, the canonical tree, carry formats, final rounding, MX blocks, in-format mode. -/

namespace Sys2Proof.Machine

/-! ### Formats (R149, R151, R152) -/

def fmtInt (f : Nat) : Bool := f ≤ 3
def fmtMx (f : Nat) : Bool := 0x10 ≤ f && f ≤ 0x15
def fmtFloat (f : Nat) : Bool := 0x08 ≤ f && f ≤ 0x0D
def fmtKnown (f : Nat) : Bool := fmtInt f || fmtFloat f || fmtMx f

/-- The floating-point format of a code, or of the elements of an MX code. -/
def fmtFp (f : Nat) : FpFmt :=
  if f == 0x08 || f == 0x10 then fpE4M3 else if f == 0x09 || f == 0x11 then fpE5M2
  else if f == 0x0A then fp16 else if f == 0x0B then bf16 else if f == 0x0D then fp64
  else if f == 0x12 then fpE3M2 else if f == 0x13 then fpE2M3 else if f == 0x14 then fpE2M1 else fp32

/-- The bits of an MX element. -/
def mxBits (f : Nat) : Nat := if f == 0x12 || f == 0x13 then 6 else if f == 0x14 then 4 else 8

/-- The bytes of an element that is not MX. -/
def elemBytes (f : Nat) : Nat := if fmtInt f then 2 ^ f else (fmtFp f).bits / 8

/-- The bytes of a tile of 256 MX elements. -/
def tileBytes (f : Nat) : Nat := 8 + 32 * mxBits f

/-- The bytes of a vector of `n` elements. -/
def vecBytes (f n : Nat) : Nat := if fmtMx f then n / 256 * tileBytes f else n * elemBytes f

/-- The elements of a vector of `n` bytes. -/
def vecElems (f n : Nat) : Nat := if fmtMx f then n / tileBytes f * 256 else n / elemBytes f

/-- Whether a vector of `n` bytes is whole elements, and whole tiles. -/
def vecWhole (f n : Nat) : Bool := if fmtMx f then n % tileBytes f == 0 else n % elemBytes f == 0

/-! ### Values -/

/-- An accumulated value: an integer, or a floating-point value. -/
inductive AV where
  | int (v : Int)
  | fp (v : FV)
deriving DecidableEq, Repr

/-- The accumulation format of a floating-point input (R154). -/
def accFp (f : Nat) : FpFmt := if f == 0x0C || f == 0x0D then fp64 else fp32

/-- The bytes of an accumulator, which is also the WIDE carry (R154). -/
def accBytes (f : Nat) : Nat :=
  if f == 0 then 4 else if f == 1 || f == 2 then 8 else if f == 3 then 16 else (accFp f).bits / 8

/-- The low `n` bytes of a number, least significant first. -/
def byteList : Nat → Nat → List (BitVec 8)
  | 0, _ => []
  | n + 1, v => BitVec.ofNat 8 v :: byteList n (v / 256)

/-- A little-endian byte string as a number. -/
def byteNat : List (BitVec 8) → Nat
  | [] => 0
  | b :: bs => b.toNat + 256 * byteNat bs

/-- Cuts a string into `k` pieces of `n` bytes. -/
def cutBytes (n : Nat) : Nat → List (BitVec 8) → List (List (BitVec 8))
  | 0, _ => []
  | k + 1, bs => bs.take n :: cutBytes n k (bs.drop n)

/-- Two's complement of `n` bytes read. -/
def intOf (n v : Nat) : Int := if 2 ^ (8 * n - 1) ≤ v then (v : Int) - 2 ^ (8 * n) else v

/-- Two's complement of `n` bytes written. -/
def intCode (n : Nat) (v : Int) : Nat := (v % (2 ^ (8 * n) : Int)).toNat

/-- The flags of an input element (R166). -/
def inputFlags (v : FV) : Nat := match v with
  | .nan => fNAN_INPUT
  | .inf _ => fINF_INPUT
  | .fin _ _ _ => 0

/-- An MX element of a block (R153): its value in FP32 and the flags of its decoding. -/
def mxDecode (f scale code : Nat) : FV × Nat :=
  if scale == 255 then (.nan, fNAN_INPUT)
  else
    let e : Int := (scale : Int) - 127
    let v : FV := if f == 0x15 then
        let i := intOf 1 code
        .fin (i < 0) i.natAbs (-6)
      else fpDecode (fmtFp f) code
    match v with
    | .nan => (.nan, fNAN_INPUT)
    | .inf s => (.inf s, fINF_INPUT)
    | .fin s m x =>
      if m != 0 && magLt fp32.maxFin.1 fp32.maxFin.2 m (x + e) then (.inf s, fDECODE_OVF) else (.fin s m (x + e), 0)

/-- The 32 elements of a block: its scale, and its element bytes read as one number. -/
def mxBlock (f scale : Nat) (bs : List (BitVec 8)) : List (FV × Nat) :=
  let n := byteNat bs
  let w := mxBits f
  (List.range 32).map fun j => mxDecode f scale (bitsOf n (w * j) w)

/-- The 256 elements of a tile (R151). -/
def mxTile (f : Nat) (bs : List (BitVec 8)) : List (FV × Nat) :=
  let scales := bs.take 8
  let blocks := cutBytes (4 * mxBits f) 8 (bs.drop 8)
  ((scales.zip blocks).map fun e => mxBlock f e.1.toNat e.2).flatten

/-- Decodes a vector of `n` elements (R151 to R153): the values, and the flags raised. -/
def decodeVec (f n : Nat) (bs : List (BitVec 8)) : List AV × Nat :=
  if fmtMx f then
    let l := ((cutBytes (tileBytes f) (n / 256) bs).map (mxTile f)).flatten
    (l.map fun e => .fp e.1, l.foldl (fun a e => a ||| e.2) 0)
  else if fmtInt f then
    ((cutBytes (elemBytes f) n bs).map fun b => .int (intOf (elemBytes f) (byteNat b)), 0)
  else
    let l := (cutBytes (elemBytes f) n bs).map fun b => fpDecode (fmtFp f) (byteNat b)
    (l.map .fp, l.foldl (fun a v => a ||| inputFlags v) 0)

/-! ### MX blocks (R163) -/

/-- emax of an element format. -/
def mxEmax (f : Nat) : Int :=
  if f == 0x10 then 8 else if f == 0x11 then 15 else if f == 0x12 then 4 else if f == 0x13 then 2
  else if f == 0x14 then 2 else 0

/-- The exponent of the leading bit of a finite nonzero value. -/
def topExp (v : FV) : Option Int := match v with
  | .fin _ m e => if m == 0 then none else some ((msb m : Int) + e)
  | _ => none

/-- One element of a block at shared exponent `se`: its code and the flags of step 5 and 6. -/
def mxElem (f : Nat) (se : Int) (clamped : Bool) (sr : Option Nat) (v : FV) : Nat × Nat :=
  match v with
  | .fin s m e =>
    if f == 0x15 then
      if m == 0 then (0, 0)
      else
        let c := cutAt m (e - se) (-6)
        let u := c.rounded sr
        let past := decide (127 < u)
        let u := min u 127
        (intCode 1 (if s then -(u : Int) else u), flagIf (past && clamped) fOVERFLOW ||| flagIf (u == 0 && !c.exact) fUNDERFLOW)
    else
      let fm := fmtFp f
      if m == 0 then (fpEncode fm (.fin s 0 0), 0)
      else
        let c := cutAt m (e - se) (fm.spacing m (e - se))
        let u := c.rounded sr
        if magLt fm.maxFin.1 fm.maxFin.2 u c.exp then (fpEncode fm (.fin s fm.maxFin.1 fm.maxFin.2), flagIf clamped fOVERFLOW)
        else (fpEncode fm (.fin s u c.exp), flagIf (!c.exact && decide (u < 2 ^ fm.m) && c.exp == fm.minExp) fUNDERFLOW)
  | _ => (0, 0)

/-- A block of 32 values: its scale byte, its element codes, the flags. -/
def mxEncodeBlock (f : Nat) (vs : List (FV × Option Nat)) : Nat × List Nat × Nat :=
  if vs.any fun e => match e.1 with
    | .fin _ _ _ => false
    | _ => true then (255, vs.map fun _ => 0, 0)
  else
    let tops := vs.filterMap fun e => topExp e.1
    match tops with
    | [] => (0, vs.map fun e => (mxElem f (-127) false e.2 e.1).1, 0)
    | t :: ts =>
      let raw := ts.foldl max t - mxEmax f
      let se := max (-127) (min 127 raw)
      let es := vs.map fun e => mxElem f se (decide (127 < raw)) e.2 e.1
      ((se + 127).toNat, es.map (·.1), es.foldl (fun a e => a ||| e.2) 0)

/-- The bytes of a block's elements. -/
def mxBlockBytes (f : Nat) (codes : List Nat) : List (BitVec 8) :=
  let w := mxBits f
  byteList (4 * w) ((codes.foldr (fun c acc => acc * 2 ^ w + c) 0))

/-- Cuts a list into `k` pieces of `n`. -/
def cutList {α : Type} (n : Nat) : Nat → List α → List (List α)
  | 0, _ => []
  | k + 1, l => l.take n :: cutList n k (l.drop n)

/-- A tile of 256 values encoded. -/
def mxEncodeTile (f : Nat) (vs : List (FV × Option Nat)) : List (BitVec 8) × Nat :=
  let bs := (cutList 32 8 vs).map (mxEncodeBlock f)
  (bs.map (fun b => BitVec.ofNat 8 b.1) ++ (bs.map fun b => mxBlockBytes f b.2.1).flatten, bs.foldl (fun a b => a ||| b.2.2) 0)

/-- Whole tiles encoded. -/
def mxEncode (f : Nat) (vs : List (FV × Option Nat)) : List (BitVec 8) × Nat :=
  let ts := (cutList 256 (vs.length / 256) vs).map (mxEncodeTile f)
  ((ts.map (·.1)).flatten, ts.foldl (fun a t => a ||| t.2) 0)

/-! ### Rounding to an output format (R161 to R165) -/

/-- The floating-point reading of a value. -/
def AV.toFv : AV → FV
  | .fp v => v
  | .int v => .fin (v < 0) v.natAbs 0

/-- A value rounded to an integer output of `n` bytes, saturated, with UNDERFLOW when a nonzero value rounds to zero (R166). R162 lists no floating-point input with an integer output, and R150 refuses none: the value is rounded, and an infinity saturates. DESIGN CHOICE, log 203. A NaN has no integer: the code is free. DESIGN CHOICE, log 108. -/
def roundInt (n : Nat) (sr : Option Nat) (v : AV) : Nat × Nat :=
  let hi : Int := 2 ^ (8 * n - 1) - 1
  let lo : Int := -(2 ^ (8 * n - 1))
  let sat (x : Int) : Nat × Nat :=
    if hi < x then (intCode n hi, fSATURATE) else if x < lo then (intCode n lo, fSATURATE) else (intCode n x, 0)
  match v with
  | .int x => sat x
  | .fp .nan => (Config.nanInt n % 2 ^ (8 * n), 0)
  | .fp (.inf s) => (intCode n (if s then lo else hi), fSATURATE)
  | .fp (.fin s m e) =>
    let u := (cutAt m e 0).rounded sr
    let u := if (cutAt m e 0).exp == 0 then u else u <<< e.toNat
    let r := sat (if s then -(u : Int) else u)
    (r.1, r.2 ||| flagIf (m != 0 && u == 0) fUNDERFLOW)

/-- How a result is rounded: output format, saturation of E4M3, and for stochastic rounding the seed and the step. -/
structure Rounding where
  fmt : Nat
  sat : Bool
  sr : Option (Nat × Nat)
deriving DecidableEq, Repr

/-- The random word of an element (R164). -/
def Rounding.word (r : Rounding) (e : Nat) : Option Nat := r.sr.map fun x => srWord x.1 x.2 e

/-- The final rounding of a vector whose first element has index `e0`: the bytes and the flags. -/
def finalRound (r : Rounding) (e0 : Nat) (vs : List AV) : List (BitVec 8) × Nat :=
  let ix := (List.range vs.length).zip vs
  if fmtMx r.fmt then mxEncode r.fmt (ix.map fun e => (e.2.toFv, r.word (e0 + e.1)))
  else
    let one (e : Nat × AV) : Nat × Nat :=
      if fmtInt r.fmt then roundInt (elemBytes r.fmt) (r.word (e0 + e.1)) e.2
      else
        let x := roundFp (fmtFp r.fmt) r.sat (r.word (e0 + e.1)) e.2.toFv
        (fpEncode (fmtFp r.fmt) x.v, x.fl)
    let cs := ix.map one
    ((cs.map fun c => byteList (elemBytes r.fmt) c.1).flatten, cs.foldl (fun a c => a ||| c.2) 0)

/-! ### The tree (R156) and its additions (R154, R168, R169) -/

/-- The balanced tree over 2^n leaves; an absent leaf is the identity. -/
def treeRed {α : Type} (f : α → α → α) : Nat → List (Option α) → Option α
  | 0, l => (l.head?).join
  | n + 1, l =>
    match treeRed f n (l.take (2 ^ n)), treeRed f n (l.drop (2 ^ n)) with
    | none, b => b
    | a, none => a
    | some a, some b => some (f a b)

/-- The levels of the tree of a slot count: the smallest power of two that is at least it. -/
def treeLevels (slots : Nat) : Nat := if slots ≤ 1 then 0 else Nat.log2 (slots - 1) + 1

/-- What a herd's descriptor says of its arithmetic. -/
structure ArithMode where
  inFmt : Nat
  outFmt : Nat
  operator : Nat
  compact : Bool
  inFormat : Bool
  sat : Bool
deriving DecidableEq, Repr

/-- One addition, minimum or maximum of two accumulated values. -/
def ArithMode.join (m : ArithMode) (a b : AV) : AV × Nat :=
  match a, b with
  | .int x, .int y =>
    if m.operator == 1 then (.int (min x y), 0)
    else if m.operator == 2 then (.int (max x y), 0)
    else if m.inFormat then
      let n := elemBytes m.inFmt
      let hi : Int := 2 ^ (8 * n - 1) - 1
      let lo : Int := -(2 ^ (8 * n - 1))
      let s := x + y
      if hi < s then (.int hi, fSATURATE) else if s < lo then (.int lo, fSATURATE) else (.int s, 0)
    else (.int (x + y), 0)
  | x, y =>
    let x := x.toFv
    let y := y.toFv
    if m.operator == 1 then (.fp (fvMin x y), 0)
    else if m.operator == 2 then (.fp (fvMax x y), 0)
    else if m.inFormat then
      let s := fvAdd x y
      let r := roundFp (fmtFp m.inFmt) m.sat none s.v
      (.fp r.v, s.fl ||| (r.fl &&& fOVERFLOW))
    else
      let r := fpAdd (accFp m.inFmt) x y
      (.fp r.v, r.fl)

/-- A vector and the flags raised so far. -/
abbrev VecFl := List AV × Nat

/-- Two vectors added element by element. -/
def ArithMode.joinVec (m : ArithMode) (a b : VecFl) : VecFl :=
  let l := List.zipWith m.join a.1 b.1
  (l.map (·.1), l.foldl (fun f e => f ||| e.2) (a.2 ||| b.2))

/-- An MX vector inside a stage in in-format mode: its blocks, or the values that MIN or MAX has chosen from decoded blocks. -/
inductive MxVec where
  | blocks (bs : List (BitVec 8))
  | values (l : List FV)
deriving DecidableEq, Repr

/-- The values of an MX vector of `n` elements, with the DECODE_OVF of its blocks (R153). -/
def MxVec.decoded (f n : Nat) : MxVec → List FV × Nat
  | .blocks bs =>
    let d := decodeVec f n bs
    (d.1.map AV.toFv, d.2 &&& fDECODE_OVF)
  | .values l => (l, 0)

/-- The blocks of an MX vector; chosen values take a fresh scale (R163, R168). -/
def MxVec.encoded (f : Nat) : MxVec → List (BitVec 8) × Nat
  | .blocks bs => (bs, 0)
  | .values l =>
    let e := mxEncode f (l.map fun v => (v, none))
    (e.1, e.2 &&& fOVERFLOW)

/-- Two MX vectors joined in in-format mode (R169): a sum is added element by element and re-encoded under R163; MIN and MAX choose and never round (R168). A sum of two decoded elements is exact: only its re-encoding rounds it. DESIGN CHOICE, log 204. -/
def ArithMode.joinMx (m : ArithMode) (n : Nat) (a b : MxVec × Nat) : MxVec × Nat :=
  let x := a.1.decoded m.inFmt n
  let y := b.1.decoded m.inFmt n
  let fl := a.2 ||| b.2 ||| x.2 ||| y.2
  if m.operator == 1 then (.values (List.zipWith fvMin x.1 y.1), fl)
  else if m.operator == 2 then (.values (List.zipWith fvMax x.1 y.1), fl)
  else
    let l := List.zipWith fvAdd x.1 y.1
    let e := (MxVec.values (l.map (·.v))).encoded m.inFmt
    (.blocks e.1, l.foldl (fun f v => f ||| v.fl) fl ||| e.2)

/-! ### Carry (R155) -/

/-- The bytes of a partial of `n` elements. -/
def ArithMode.carryBytes (m : ArithMode) (n : Nat) : Nat :=
  if m.inFormat then vecBytes m.inFmt n else if m.compact then 2 * n else n * accBytes m.inFmt

/-- A vector in its carry format. -/
def ArithMode.toCarry (m : ArithMode) (v : VecFl) : List (BitVec 8) × Nat :=
  if m.inFormat then
    let one (x : AV) : List (BitVec 8) := match x with
      | .int i => byteList (elemBytes m.inFmt) (intCode (elemBytes m.inFmt) i)
      | .fp y => byteList (elemBytes m.inFmt) (fpEncode (fmtFp m.inFmt) y)
    ((v.1.map one).flatten, v.2)
  else if m.compact then
    let l := v.1.map fun x =>
      let r := roundFp bf16 false none x.toFv
      (fpEncode bf16 r.v, r.fl)
    ((l.map fun c => byteList 2 c.1).flatten, l.foldl (fun f c => f ||| c.2) v.2)
  else
    let one (x : AV) : List (BitVec 8) := match x with
      | .int i => byteList (accBytes m.inFmt) (intCode (accBytes m.inFmt) i)
      | .fp y => byteList (accBytes m.inFmt) (fpEncode (accFp m.inFmt) y)
    ((v.1.map one).flatten, v.2)

/-- A partial of `n` elements read back exactly. -/
def ArithMode.fromCarry (m : ArithMode) (n : Nat) (bs : List (BitVec 8)) : List AV :=
  if m.inFormat then (decodeVec m.inFmt n bs).1
  else if m.compact then (cutBytes 2 n bs).map fun b => .fp (fpDecode bf16 (byteNat b))
  else
    let z := accBytes m.inFmt
    (cutBytes z n bs).map fun b =>
      if fmtInt m.inFmt then .int (intOf z (byteNat b)) else .fp (fpDecode (accFp m.inFmt) (byteNat b))

/-- What a stage makes of its leaves: a vector in the accumulation format, or MX blocks in in-format mode. -/
inductive StageSum where
  | acc (v : VecFl)
  | mx (v : List (BitVec 8) × Nat)
deriving DecidableEq, Repr

/-- The sum of a stage over its slots (R156): the leaves as received, `first` when they are contributions; an absent slot is none. A tree without leaves gives +0. -/
def ArithMode.stage (m : ArithMode) (first : Bool) (n slots : Nat) (leaves : List (Option (List (BitVec 8) × Nat))) : StageSum :=
  let lv := treeLevels slots
  if m.inFormat && fmtMx m.inFmt then
    let l := leaves.map fun x => x.map fun b =>
      (MxVec.blocks b.1, b.2 ||| (if first then (decodeVec m.inFmt n b.1).2 else 0))
    match treeRed (m.joinMx n) lv l with
    | some v =>
      let e := v.1.encoded m.inFmt
      .mx (e.1, v.2 ||| e.2)
    | none => .mx (List.replicate (vecBytes m.inFmt n) 0, 0)
  else
    let l := leaves.map fun x => x.map fun b =>
      if first then
        let d := decodeVec m.inFmt n b.1
        (d.1, d.2 ||| b.2)
      else (m.fromCarry n b.1, b.2)
    let zero : AV := if fmtInt m.inFmt then .int 0 else .fp (.fin false 0 0)
    .acc ((treeRed m.joinVec lv l).getD (List.replicate n zero, 0))

/-- The partial that leaves a stage. -/
def ArithMode.partialOf (m : ArithMode) : StageSum → List (BitVec 8) × Nat
  | .acc v => m.toCarry v
  | .mx v => v

/-- The result that leaves the last stage (R157): the final rounding, or in in-format mode the bits as they are. -/
def ArithMode.resultOf (m : ArithMode) (r : Rounding) (e0 : Nat) : StageSum → List (BitVec 8) × Nat
  | .acc v =>
    if m.inFormat then m.toCarry v
    else
      let x := finalRound r e0 v.1
      (x.1, x.2 ||| v.2)
  | .mx v => v

/-! ### Lane-operations (R147, R170) -/

/-- Twice the lane-operations of one contribution's element at the first stage. -/
def laneOps (f : Nat) : Nat :=
  if f == 1 || f == 2 then 2 else if f == 3 || f == 0x0C || f == 0x0D then 4 else 1

/-- The lane-operations of one partial's element at a later stage. -/
def carryOps (f : Nat) (compact : Bool) : Nat :=
  if compact then 1 else if f == 0 then 1 else if f == 1 || f == 2 then 2 else if f == 3 then 4
  else if f == 0x0C || f == 0x0D then 4 else 1

/-- The lane-operations of `n` elements from `k` slots. DEDUCED, log 99. -/
def ArithMode.ops (m : ArithMode) (first : Bool) (n k : Nat) : Nat :=
  let one := if first || m.inFormat then laneOps m.inFmt else carryOps m.inFmt m.compact
  n * k * one * (if m.inFormat then (if fmtMx m.inFmt then 4 else 2) else 1)

end Sys2Proof.Machine
end

