-- ==== Sys2Proof/Machine/Program.lean ====
section
/-! DEFINITION. Update programs as functions of bits (R215 to R222): the instruction word, the check of an image (R230), one lane's run, RCP and RSQ, and the streams of an attachment. -/

namespace Sys2Proof.Machine

/-! ### The instruction word (R217, R218) -/

/-- An instruction word taken apart. -/
structure PInstr where
  opc : Nat
  dst : Nat
  a : Nat
  b : Nat
  c : Nat
  na : Bool
  nc : Bool
  mode : Nat
deriving DecidableEq, Repr

/-- Reads a word of a program. -/
def pInstr (w : Nat) : PInstr :=
  ⟨bitsOf w 0 6, bitsOf w 6 4, bitsOf w 10 5, bitsOf w 15 5, bitsOf w 20 5, w.testBit 25, w.testBit 26, bitsOf w 27 5⟩

def pLD : Nat := 0x0B
def pST : Nat := 0x0C
def pRND : Nat := 0x0D

/-- The lane-operations of an opcode. -/
def pOps (opc : Nat) : Nat :=
  if opc == 0 || opc == pLD || opc == pST then 0 else if opc == 0x09 then 2 else if opc == 0x0A then 3 else 1

/-- Which fields an opcode uses: DST, A, B, C, NA, NC, MODE. DEDUCED, log 100. -/
def pUses (opc : Nat) : List Bool :=
  if opc == 0x00 then [false, false, false, false, false, false, false]
  else if opc == 0x01 || opc == 0x02 || opc == 0x04 || opc == 0x05 then [true, true, true, false, true, true, false]
  else if opc == 0x03 then [true, true, true, true, true, true, false]
  else if opc == 0x06 then [true, true, true, true, false, false, false]
  else if opc == 0x07 then [true, true, true, false, true, false, true]
  else if opc == 0x08 then [true, true, false, false, true, false, true]
  else if opc == 0x09 || opc == 0x0A then [true, true, false, false, true, false, false]
  else if opc == pLD then [true, false, false, false, false, false, true]
  else if opc == pST then [false, true, false, false, true, false, true]
  else [false, true, false, false, true, false, false]

/-- Whether a word passes the checks of R230 on its own. -/
def pWordOk (w : Nat) : Bool :=
  let i := pInstr w
  let vals := [i.dst, i.a, i.b, i.c, b2n i.na, b2n i.nc, i.mode]
  let modeOk :=
    if i.opc == 0x07 then i.mode < 8
    else if i.opc == 0x08 then i.mode == 0x08 || i.mode == 0x09 || i.mode == 0x0A || i.mode == 0x0B
    else if i.opc == pLD || i.opc == pST then i.mode < 8
    else true
  i.opc ≤ 0x0D && ((pUses i.opc).zip vals).all (fun e => e.1 || e.2 == 0) && modeOk

/-- The first word that LOAD refuses (R230): a bad word, or a second RND; an image without RND is refused at its last word. DEDUCED, log 100. -/
def firstBad (image : List Nat) : Option Nat :=
  let rnds := (upTo image.length).filter fun k => (pInstr (image.getD k 0)).opc == pRND
  let bads := (upTo image.length).filter fun k => !pWordOk (image.getD k 0)
  match bads ++ rnds.drop 1 with
  | [] => if rnds.isEmpty then some (image.length - 1) else none
  | x :: xs => some (xs.foldl min x)

/-- The lane-operations of a program: L. -/
def laneOpsOf (image : List Nat) : Nat := (image.map fun w => pOps (pInstr w).opc).sum

/-! ### RCP and RSQ (R220) -/

/-- Entry `i` of the RCP seed table, at 12 significant bits: value × 2^−12. -/
def rcpSeed (i : Nat) : FV := .fin false ((2 ^ 19 / (65 + 2 * i) + 1) / 2) (-12)

/-- The integer square root, by bisection over `bits` bits. -/
def isqrt : Nat → Nat → Nat → Nat
  | 0, _, r => r
  | bits + 1, n, r =>
    let t := r + 2 ^ bits
    isqrt bits n (if t * t ≤ n then t else r)

/-- Entry `i` of the RSQ seed table. -/
def rsqSeed (i : Nat) : FV :=
  let x := if i < 16 then 2 ^ 26 * 32 / (33 + 2 * i) else 2 ^ 26 * 16 / (33 + 2 * (i - 16))
  .fin false ((isqrt 14 x 0 + 1) / 2) (-12)

/-- A value times a power of two, exactly. -/
def fvScale (v : FV) (n : Int) : FV :=
  match v with
  | .fin s m e => .fin s m (e + n)
  | w => w

/-- A value with a sign. -/
def fvSign (s : Bool) : FV → FV
  | .fin _ m e => .fin s m e
  | .inf _ => .inf s
  | .nan => .nan

/-- rcp(x) of an FP32 code. -/
def rcp (x : Nat) : FV :=
  let s := x.testBit 31
  let ex := bitsOf x 23 8
  if fpDecode fp32 x == .nan then .nan
  else if ex == 0 then .inf s
  else if 253 ≤ ex then .fin s 0 0
  else
    let m := fpDecode fp32 (0x3F800000 + bitsOf x 0 23)
    let seed := rcpSeed (bitsOf x 18 5)
    let t := (fpFma fp32 (fvNeg m) seed (.fin false 2 0)).v
    let y := (fpMul fp32 seed t).v
    fvSign s (fvScale y (127 - (ex : Int)))

/-- rsq(x) of an FP32 code, and its flags. -/
def rsq (x : Nat) : FV × Nat :=
  let v := fpDecode fp32 x
  let ex := bitsOf x 23 8
  if v == .nan then (.nan, 0)
  else if x == 0x80000000 then (.inf true, 0)
  else if x.testBit 31 then (.nan, fINVALID)
  else if ex == 0 then (.inf false, 0)
  else if v == .inf false then (.fin false 0 0, 0)
  else
    let q := (ex + 1) % 2
    let m := fvScale (fpDecode fp32 (0x3F800000 + bitsOf x 0 23)) q
    let seed := rsqSeed (16 * q + bitsOf x 19 4)
    let ss := (fpMul fp32 seed seed).v
    let t := (fpFma fp32 (fvNeg (fvScale m (-1))) ss (.fin false 3 (-1))).v
    let y := (fpMul fp32 seed t).v
    (fvScale y (-(((ex : Int) - 127 - q) / 2)), 0)

/-! ### One lane (R216 to R219) -/

/-- The lane of a program: its registers as FP32 codes, what it stores by stream, what it emits, its flags. -/
structure Lane where
  v : List Nat
  st : SMap Nat := []
  out : FV := .fin false 0 0
  fl : Nat := 0
deriving DecidableEq, Repr

/-- A format's code of a value rounded as CVT does, and its flags: OVERFLOW and no other. -/
def cvtCode (f : FpFmt) (x : Nat) : Nat × Nat :=
  let r := roundFp f false none (fpDecode fp32 x)
  (fpEncode f r.v, r.fl &&& fOVERFLOW)

/-- The format of a stream: 0 FP32, 1 BF16, 2 FP16. -/
def streamFp (fmt : Nat) : FpFmt := if fmt == 1 then bf16 else if fmt == 2 then fp16 else fp32

/-- The bytes of a stream's element. -/
def streamSize (fmt : Nat) : Nat := if fmt == 0 then 4 else 2

/-- Whether a comparison holds (R218, R219). -/
def cmpHolds (mode : Nat) (a b : FV) : Bool :=
  let un := a == .nan || b == .nan
  let lt := fvLt false a b
  let gt := fvLt false b a
  let eq := !lt && !gt
  if mode == 0 then !un && eq else if mode == 1 then un || !eq else if mode == 2 then !un && lt
  else if mode == 3 then !un && (lt || eq) else if mode == 4 then !un && gt
  else if mode == 5 then !un && (gt || eq) else if mode == 6 then !un else un

/-- The OVERFLOW and INVALID of an operation: the flags that R219 lets a program raise. DEDUCED, log 100. -/
def progFlags (fl : Nat) : Nat := fl &&& (fOVERFLOW ||| fINVALID)

/-- One instruction on one lane. `k` holds the constants, `ld` the lane's element of each load stream as an FP32 code, `fmts` the streams' formats. DEDUCED, log 100. -/
def laneStep (k : List Nat) (ld fmts : List Nat) (l : Lane) (w : Nat) : Lane :=
  let i := pInstr w
  let src (x : Nat) : Nat := if x < 16 then l.v.getD x 0 else k.getD (x - 16) 0
  let neg (c : Bool) (x : Nat) : Nat := if c then x ^^^ 0x80000000 else x
  let a := neg i.na (src i.a)
  let b := src i.b
  let c := src i.c
  let av := fpDecode fp32 a
  let bv := fpDecode fp32 (neg i.nc b)
  let set (x fl : Nat) : Lane := { l with v := l.v.set i.dst x, fl := l.fl ||| fl }
  let num (r : Rounded) : Lane := set (fpEncode fp32 r.v) (progFlags r.fl)
  if i.opc == 0x00 then l
  else if i.opc == 0x01 then num (fpAdd fp32 av bv)
  else if i.opc == 0x02 then num (fpMul fp32 av bv)
  else if i.opc == 0x03 then num (fpFma fp32 av (fpDecode fp32 b) (fpDecode fp32 (neg i.nc c)))
  else if i.opc == 0x04 then set (fpEncode fp32 (fvMin av bv)) 0
  else if i.opc == 0x05 then set (fpEncode fp32 (fvMax av bv)) 0
  else if i.opc == 0x06 then set (if c != 0 then src i.a else b) 0
  else if i.opc == 0x07 then set (if cmpHolds i.mode av (fpDecode fp32 b) then 0xFFFFFFFF else 0) 0
  else if i.opc == 0x08 then
    let f := if i.mode == 0x08 then fpE4M3 else if i.mode == 0x09 then fpE5M2 else if i.mode == 0x0A then fp16 else bf16
    let x := cvtCode f a
    set (fpEncode fp32 (fpDecode f x.1)) x.2
  else if i.opc == 0x09 then set (fpEncode fp32 (rcp a)) 0
  else if i.opc == 0x0A then
    let x := rsq a
    set (fpEncode fp32 x.1) x.2
  else if i.opc == pLD then set (ld.getD i.mode 0) 0
  else if i.opc == pST then
    let x := cvtCode (streamFp (fmts.getD i.mode 0)) a
    { l with st := insertAt l.st i.mode (if fmts.getD i.mode 0 == 0 then a else x.1), fl := l.fl ||| (if fmts.getD i.mode 0 == 0 then 0 else x.2) }
  else { l with out := av }

/-- The run of one lane from the sum s of its element (R216). -/
def laneRun (image k : List Nat) (ld fmts : List Nat) (s : FV) : Lane :=
  let r := roundFp fp32 false none s
  image.foldl (laneStep k ld fmts)
    { v := fpEncode fp32 r.v :: List.replicate 15 0, fl := r.fl &&& fOVERFLOW }

/-! ### Streams (R221, R224) -/

/-- The base in force of a stream: loads read the bank of COMMITTED, stores write the other (R224). -/
def Attach.base (a : Attach) (st : Stream) : Nat :=
  if !a.banked then st.base0
  else
    let n := if st.store then a.committed + 1 else a.committed
    if n % 2 == 0 then st.base0 else st.base1

/-- The streams that a program names with an opcode. -/
def namedStreams (image : List Nat) (opc : Nat) : List Nat :=
  (upTo 8).filter fun n => image.any fun w => (pInstr w).opc == opc && (pInstr w).mode == n

/-- The accesses of a byte range, cut at 4 KiB blocks: offset and length; `fuel` bounds them. -/
def blockCuts : Nat → Nat → Nat → List (Nat × Nat)
  | 0, _, _ => []
  | fuel + 1, off, n =>
    if n == 0 then []
    else
      let k := min n (4096 - off % 4096)
      (off, k) :: blockCuts fuel (off + k) (n - k)

/-- The number of an access of a chunk: its stream and its place in the stream's range. -/
def accessNo (stream j : Nat) : Nat := stream * 2 ^ 24 + j

/-- Issues the pool accesses of a chunk as uncached accesses of the switch (R223): each number, its partition, range and, for a store, its data. -/
def State.streamAccess (s : State) (herd chunk : Nat) (l : List (Nat × Nat × Nat × Nat × Option (List Byte))) : State :=
  let s := s.onHerd herd fun h => match lookup h.work chunk with
    | some c => { h with work := insertAt h.work chunk { c with waits := l.map (·.1) } }
    | none => h
  l.foldl (fun s x =>
    let step := ((s.herd herd).map (·.step)).getD 0
    let m : Member := ⟨{ ownPkt with len := x.2.2.2.1, payload := x.2.2.2.2.getD [] }, .prog herd (step * 2 ^ 32 + chunk) x.1, s.now .sw⟩
    s.enterHome (if x.2.2.2.2.isSome then .write else .read) x.2.1 x.2.2.1 x.2.2.2.1 m) s

/-- The accesses of one stream over `n` local indices from `i`. -/
def streamCuts (no base ptn z i n : Nat) (data : Option (List Byte)) : List (Nat × Nat × Nat × Nat × Option (List Byte)) :=
  let off := base + i * z
  let cs := blockCuts (n * z / 4096 + 2) off (n * z)
  ((upTo cs.length).zip cs).map fun e =>
    (accessNo no e.1, ptn, e.2.1, e.2.2, data.map fun d => slice d (e.2.1 - off) e.2.2)

/-- The bytes of a stream's loads, joined in order. -/
def loadedBytes (loads : SMap (List Byte)) (no : Nat) : List Byte :=
  ((loads.filter fun e => e.1 / 2 ^ 24 == no).map (·.2)).flatten

/-- A program's run over a chunk's shard (R215, R222): the sums, the loads by stream; the values emitted, the bytes of each store stream, the flags. -/
def progRun (image k : List Nat) (streams : List Stream) (loads : SMap (List Byte)) (sums : List FV) :
    List FV × List Lane × Nat :=
  let fmts := streams.map (·.fmt)
  let bytes := (upTo 8).map fun n => loadedBytes loads n
  let lane (e : Nat × FV) : Lane :=
    let ld := (upTo 8).map fun n =>
      let f := fmts.getD n 0
      let x := natAt (bytes.getD n []) (e.1 * streamSize f) (streamSize f)
      if f == 0 then x else fpEncode fp32 (fpDecode (streamFp f) x)
    laneRun image k ld fmts e.2
  let ls := ((upTo sums.length).zip sums).map lane
  (ls.map (·.out), ls, ls.foldl (fun a l => a ||| l.fl) 0)

/-- The bytes that a store stream takes: every lane stores, for an instruction of the program runs on every lane. -/
def storedBytes (ls : List Lane) (fmt no : Nat) : List Byte :=
  (ls.map fun l => leBytes (streamSize fmt) ((lookup l.st no).getD 0)).flatten

end Sys2Proof.Machine
end

