-- ==== Sys2Proof/Machine/HerdStep.lean ====
section
/-! DEFINITION. The running step of a herd (R188 to R204): the geometry of chunks and shards, the pieces that arrive, the start of a step, what goes up, what goes down, signals and completions. -/

namespace Sys2Proof.Machine

/-! ### Geometry (R187, R192) -/

/-- The data bytes of one herd packet behind its prefix. PRESUMED, log 87. -/
def herdData : Nat := 4080

/-- The chunk index of a signal that an operation sends once in a step (R195). -/
def onceChunk : Nat := 0xFFFFFFFF

/-- Whether an operation moves whole vectors without arithmetic. -/
def Herd.moving (h : Herd) : Bool := h.op == 2 || h.op == 3

/-- Whether shards and chunks are cut at whole tiles. -/
def Herd.tiled (h : Herd) : Bool := fmtMx h.inFmt || fmtMx h.outFmt

/-- The elements of LENGTH. -/
def Herd.elems (h : Herd) : Nat := vecElems h.inFmt h.length

/-- The elements of a whole chunk: E of R185. -/
def Herd.chunkElems (h : Herd) : Nat :=
  if !h.streamed then h.elems
  else
    let n := vecElems h.inFmt h.chunkBytes
    min h.elems (if h.tiled then n / 256 * 256 else n)

/-- The chunks of a step: BARRIER has one, ALL_TO_ALL one for each phase. -/
def Herd.nChunks (h : Herd) : Nat :=
  if h.op == 5 then 1 else if h.op == 6 then 2
  else if h.chunkElems == 0 then 1 else ceilDiv h.elems h.chunkElems

/-- The elements of chunk `c`: its first and one past its last. DEDUCED, log 84. -/
def Herd.chunkRange (h : Herd) (c : Nat) : Nat × Nat :=
  (min (c * h.chunkElems) h.elems, min ((c + 1) * h.chunkElems) h.elems)

/-- The shards in which this herd sees a chunk: a root of the first stage works on the whole chunk. DEDUCED, log 86. -/
def Herd.shardCount (h : Herd) : Nat := if h.isRoot && h.firstStage then 1 else if h.streamed then max 1 h.shards else 1

/-- The elements of a shard: q of R192. DEDUCED, log 85. -/
def Herd.q (h : Herd) : Nat :=
  let n := ceilDiv h.chunkElems h.shardCount
  if h.tiled then ceilDiv n 256 * 256 else n

/-- The elements of shard `k` of chunk `c`. DEDUCED, log 85. -/
def Herd.shardRange (h : Herd) (c k : Nat) : Nat × Nat :=
  let r := h.chunkRange c
  (min (r.1 + k * h.q) r.2, min (r.1 + (k + 1) * h.q) r.2)

/-- The elements that this herd reduces of a chunk: all of it at the first stage, its shard above. DEDUCED, log 86. -/
def Herd.workRange (h : Herd) (c shard : Nat) : Nat × Nat :=
  if h.firstStage then h.chunkRange c else h.shardRange c shard

/-- The arithmetic of the herd. -/
def Herd.mode (h : Herd) : ArithMode := ⟨h.inFmt, h.outFmt, h.operator, h.compact, h.inFormat, h.sat⟩

/-- The final rounding of the herd. -/
def Herd.rounding (h : Herd) : Rounding :=
  ⟨h.outFmt, h.sat, if h.sr then some (h.seed, h.step) else none⟩

/-- The bytes of a member's contribution to a chunk, or of a rank's segment of it. DEDUCED, log 84. -/
def Herd.inBytes (h : Herd) (c : Nat) : Nat :=
  let r := h.chunkRange c
  vecBytes h.inFmt (r.2 - r.1)

/-- The bytes of the piece that a slot brings to a chunk: counts, a contribution, a partial with its flag byte, the image of all ranks. -/
def Herd.pieceBytes (h : Herd) (v c shard : Nat) : Nat :=
  if h.op == 5 then 0
  else if h.op == 6 then (if c != 0 then 0 else if h.isChild v then 4 * h.ranks else 2 * h.ranks)
  else if !h.isChild v then h.inBytes c
  else if h.op == 2 then h.ranks * h.inBytes c
  else if h.op == 3 then h.inBytes c
  else
    let r := h.workRange c shard
    h.mode.carryBytes (r.2 - r.1) + 1

/-- The bytes of the result of a shard. -/
def Herd.resultBytes (h : Herd) (c shard : Nat) : Nat :=
  if h.op == 5 then 0
  else if h.op == 6 then (if c == 0 then 8 * h.ranks else 0)
  else if h.op == 2 then h.ranks * h.inBytes c
  else if h.op == 3 then h.inBytes c
  else
    let r := h.shardRange c shard
    vecBytes h.outFmt (r.2 - r.1)

/-- The packets of `n` bytes: at least one. PRESUMED, log 87. -/
def packetsOf (n : Nat) : Nat := max 1 (ceilDiv n herdData)

/-- The data of each packet of a byte string, in order: at least one packet. PRESUMED, log 87. -/
def packetData (bs : List Byte) : List (List Byte) :=
  if bs.isEmpty then [[]] else pieces herdData (bs.length / herdData + 1) bs

/-- The place of a packet in its piece: its index, counted on past 16 bits (R297). PRESUMED, log 87. -/
def pktPlace (pkts : SMap (List Byte)) (ix : Nat) : Nat :=
  let held (k : Nat) : Bool := (lookup pkts (ix + 65536 * k)).isSome
  ix + 65536 * (((upTo (pkts.length / 65536 + 1)).find? fun k => !held k).getD (pkts.length / 65536 + 1))

/-- A piece with a packet added, complete when all its packets are in. -/
def Piece.add (p : Piece) (ix size now : Nat) (data : List Byte) : Piece :=
  let pkts := insertAt p.pkts (pktPlace p.pkts ix) data
  { p with pkts := pkts, done := if packetsOf size ≤ pkts.length then some (p.done.getD now) else p.done }

/-- The bytes of a complete piece. -/
def Piece.bytes (p : Piece) (size : Nat) : List Byte := slice ((p.pkts.map (·.2)).flatten) 0 size

/-- The key of a contributor of a chunk: its slot and its place, 0 NODE and 1 twin. -/
def pieceKey (v place : Nat) : Nat := v * 4 + place

/-- The complete piece that a slot brings, if it has one. -/
def Chunk.slotPiece (x : Chunk) (v : Nat) : Option Piece :=
  let ok (p : Nat) : Option Piece := (lookup x.pieces (pieceKey v p)).filter fun q => q.done.isSome && !q.dead
  match ok 0 with
  | some q => some q
  | none => ok 1

/-- A chunk in work, fresh if no packet of it has arrived. -/
def Herd.chunk (h : Herd) (c : Nat) : Chunk := (lookup h.work c).getD {}

/-- Whether a chunk's result has left downward. -/
def Herd.left (h : Herd) (c : Nat) : Bool := c < h.base || h.gone.contains c

/-- Whether a chunk lies in the window of DEPTH chunks (R193). -/
def Herd.inWindow (h : Herd) (c : Nat) : Bool :=
  let before := (c - h.base) - (h.gone.filter (· < c)).length
  before < (if h.streamed then h.depth else if h.op == 6 then 2 else 1)

/-- Whether a packet of a herd's data is of a chunk beyond the window of DEPTH chunks, in the running step or the one that it would start: it waits where it is (R193). -/
def State.beyondWindow (s : State) (k : Packet) : Bool :=
  (k.op == opHERD_CONTRIB || k.op == opHERD_PARTIAL) && (s.herd (herdIx k)).any fun h =>
    let g : Herd := if h.state == 1 then { h with base := 0, gone := [] } else h
    let pre := herdPrefix k
    h.state != 3 && pre.step == h.step && decide (pre.chunk < h.nChunks) && !g.left pre.chunk && !g.inWindow pre.chunk

/-- Counts a contribution discarded for its twin, once for each: with `again` false; its sender is marked TWIN_LOST (R204). -/
def Herd.twinLoss (h : Herd) (node : Nat) (again : Bool) : Herd :=
  { h with twin := if again then h.twin else min (h.twin + 1) 0xFFFF,
           twinLost := if h.twinLost.contains node then h.twinLost else h.twinLost ++ [node] }

/-- Discards the piece of a contributor (R204). -/
def State.twinDiscard (s : State) (i c key node : Nat) : State :=
  s.onHerd i fun h =>
    let x := h.chunk c
    let p := (lookup x.pieces key).getD {}
    { h.twinLoss node p.dead with work := insertAt h.work c { x with pieces := insertAt x.pieces key { pkts := [], done := none, dead := true } } }

/-- Whether a region is attached to the herd, which then needs no contribution (R234). -/
def State.regionOf (s : State) (i : Nat) : Option Region :=
  (s.attach i).bind fun a => if a.region then lookup s.sw.svc.regions a.slot else none

/-- Whether every piece that a chunk needs is complete: one from every valid slot, and for BROADCAST one from any. -/
def State.chunkReady (s : State) (i : Nat) (h : Herd) (c : Nat) : Bool :=
  let x := h.chunk c
  if h.op == 3 then (s.regionOf i).isSome || h.validSlots.any fun v => (x.slotPiece v).isSome
  else !h.validSlots.isEmpty && h.validSlots.all fun v => (x.slotPiece v).isSome

/-! ### The start of a step (R189, R203, R206, R225) -/

/-- The entry of a slot with another endpoint: NODE and SYNC replaced. DEDUCED, log 94. -/
def swapEntry (w0 spare : Word) : Word :=
  setBits (setBits w0 2 17 (getBits spare 2 17)) 19 12 (getBits spare 19 12)

/-- The herd with a slot and a spare exchanged (R203). -/
def Herd.exchange (h : Herd) (v k : Nat) : Herd :=
  let e := h.entry v
  let sp := h.entry (128 + k)
  { h with slots := insertAt (insertAt h.slots v (swapEntry e.1 sp.1, e.2)) (128 + k) (swapEntry sp.1 e.1, sp.2) }

/-- Sends a join marker up every up-link. PRESUMED, log 90. -/
def State.joinUp (s : State) (h : Herd) (c : Nat) : State :=
  h.ups.foldl (fun s u => s.toParent u opHERD_JOIN (h.pre c 0 0) [] h) s

/-- The constants of an attachment whose APPLY_STEP has come (R225), and its count of chunks cleared. -/
def Attach.started (a : Attach) (step : Nat) : Attach :=
  let a := { a with chunksDone := 0, finishing := none }
  match a.staged with
  | some (t, ks) => if t ≤ step then { a with consts := ks, staged := none } else a
  | none => a

/-- Whether a partition that a herd uses, or to which its context is bound, is CLOSING (R136). -/
def State.herdClosing (s : State) (i : Nat) (h : Herd) : Bool :=
  (s.ctxPtn h.ctx).any (fun p => s.ptnState p == 2) || (s.attachPtns i).any fun p => s.ptnState p == 2

/-- Starts the expected step at its first arrival (R189): the timer is armed, HSYNC leaves its error state (R198), a swap for the step is made (R203), the constants change (R225), a BROKEN attachment or a CLOSING partition aborts it (R136, R227), and so does the lack of an ACTIVE core for arithmetic (R173), and the port of every valid slot and up-link is checked (R206). `moved` marks a step that failed over to this standby (R210). PRESUMED, log 90. -/
def State.startStep (s : State) (i : Nat) (moved : Bool) : State :=
  match s.herd i with
  | some h =>
    if h.state != 1 then s
    else
      let h := match h.swap with
        | some (v, k) => { h.exchange v k with swap := none }
        | none => h
      let h := { h with state := 2, timerFrom := s.now .sw, work := [], joined := [], doneChunks := 0, base := 0, gone := [],
                        cpls := [], late := h.late.map fun e => (e.1, e.2.1, 0), failedOver := false, moved := moved, skived := 0, flags := 0, swapped := [],
                        twinLost := [], counts := [], signals := [], finished := false }
      let s := (s.putHerd i h).synClearError .sw h.hsync
      let s := s.onAttach i fun a => a.started h.step
      let s := s.when (h.op == 3) fun s => s.joinUp h 0
      let s := s.when (h.reducing && !(upTo 64).any s.coreActive) fun s => s.herdCondition i rsINTEGRITY
      let s := s.when ((s.attach i).any (·.broken) || s.herdClosing i h) fun s => s.herdCondition i rsREVOKED
      h.validSlots.foldl (fun s v => match s.herd i with
        | some g => if g.state == 2 then s.actOnLoss i v (s.slotLoss g v) else s
        | none => s) s
  | none => s

/-! ### Members (R188, R259, R260) -/

/-- The multicast packet that a copy of a herd result belongs to: one packet for every member that gets the same bytes (R259). -/
def State.resultGroup (s : State) (k : Packet) : Nat :=
  ((s.sw.core.queue.find? fun q => q.group.isSome && q.pkt.op == k.op && herdIx q.pkt == herdIx k && q.pkt.payload == k.payload).bind
    (·.group)).getD s.sw.core.nextId

/-- Sends a result, signal or completion to a member; before the member's first packet of the step it waits (R188, R260). -/
def State.toMemberW (s : State) (i v node op : Nat) (pre : HerdPrefix) (data : List Byte) (h : Herd) : State :=
  let k := s.herdPkt op node s.switchId i v pre data h
  match s.egressOf node with
  | some n =>
    if s.portState n == 2 then
      s.enqueue none (.fabric n) k (if op == opHERD_RESULT then some (s.resultGroup k) else none) (!h.joined.contains node) (h.corePort pre)
    else s.count .sw RTE_DISC_NO_ROUTE
  | none => s.count .sw RTE_DISC_NO_ROUTE

/-- A member's first packet of the step has arrived: what waits for it may leave. PRESUMED, log 89. -/
def State.memberJoins (s : State) (i node : Nat) : State :=
  let s := s.onCore fun c => { c with queue := c.queue.map fun q =>
    if q.waitsJoin && q.origin.isNone && q.pkt.dst == node && herdIx q.pkt == i then { q with waitsJoin := false } else q }
  s.onHerd i fun h => if h.joined.contains node then h else { h with joined := h.joined ++ [node] }

/-- Whether results of the herd wait for a member. -/
def State.memberWaits (s : State) (i node : Nat) : Bool :=
  s.sw.core.queue.any fun q => q.waitsJoin && q.origin.isNone && q.pkt.dst == node && herdIx q.pkt == i

/-- The first chunk whose results an endpoint receives: a spare swapped in receives from c_s onward. -/
def Herd.firstChunk (h : Herd) (node : Nat) : Nat := ((h.swapped.find? fun w => w.new == node).map (·.first)).getD 0

/-- The segment of a rank in REDUCE_SCATTER, in elements. -/
def Herd.segment (h : Herd) (rank : Nat) : Nat × Nat :=
  let m := h.elems / h.ranks
  (rank * m, (rank + 1) * m)

/-- The bytes of a shard's result that a member at a slot receives: none, or the data itself, or its segment's part. -/
def Herd.memberPart (h : Herd) (v c shard : Nat) (data : List Byte) : Option (List Byte) :=
  let r := h.rankOf v
  if h.op == 0 || h.op == 2 || h.op == 3 then some data
  else if h.op == 4 then (if r == h.rootRank then some data else none)
  else if h.op == 1 then
    let a := h.shardRange c shard
    let g := h.segment r
    let lo := max a.1 g.1
    let hi := min a.2 g.2
    if hi ≤ lo then none
    else some (slice data (vecBytes h.outFmt (lo - a.1)) (vecBytes h.outFmt (hi - lo)))
  else none

/-- The result packets of a chunk that a member at a slot receives. -/
def Herd.memberPkts (h : Herd) (v c : Nat) : Nat :=
  ((upTo h.shardCount).map fun k =>
    match h.memberPart v c k (List.replicate (h.resultBytes c k) 0) with
    | some d => packetsOf d.length
    | none => 0).sum

/-- Sends the packets of a byte string to a member. -/
def State.resultTo (s : State) (i v node op c shard : Nat) (data : List Byte) (h : Herd) : State :=
  let ds := packetData data
  ((upTo ds.length).zip ds).foldl (fun s e => s.toMemberW i v node op (h.pre c e.1 shard) e.2 h) s

/-! ### All-to-all (R199 to R201) -/

/-- A vector of `w`-byte numbers. PRESUMED, log 88. -/
def numsOf (w n : Nat) (bs : List Byte) : List Nat := (upTo n).map fun k => natAt bs (k * w) w

/-- Two vectors added. -/
def addNums (a b : List Nat) : List Nat := List.zipWith (· + ·) a b

/-- The counts that a slot brings, for each destination. PRESUMED, log 88. -/
def Herd.slotCounts (h : Herd) (x : Chunk) (v : Nat) : List Nat :=
  let w := if h.isChild v then 4 else 2
  match x.slotPiece v with
  | some p => numsOf w h.ranks (p.bytes (w * h.ranks))
  | none => List.replicate h.ranks 0

/-- The totals of the herd's slots. -/
def Herd.totals (h : Herd) (x : Chunk) : List Nat :=
  h.validSlots.foldl (fun t v => addNums t (h.slotCounts x v)) (List.replicate h.ranks 0)

/-- The offsets of a slot: those given to the herd and the counts of the slots before it (R199). -/
def Herd.slotOffsets (h : Herd) (x : Chunk) (base : List Nat) (v : Nat) : List Nat :=
  (h.validSlots.filter (· < v)).foldl (fun t u => addNums t (h.slotCounts x u)) base

/-- The grant of a count at an offset (R199). -/
def grantOf (cap n o : Nat) : Nat := min n (cap - o)

/-- Sends the result of the count phase: offsets and totals to a child; to a member the records it will receive, and for each destination its offset and its grant. PRESUMED, log 88. -/
def State.countsDown (s : State) (i : Nat) (h : Herd) (base totals : List Nat) : State :=
  let x := h.chunk 0
  h.validSlots.foldl (fun s v =>
    let off := h.slotOffsets x base v
    if h.isChild v then
      let ds := packetData ((off.map (leBytes 4)).flatten ++ (totals.map (leBytes 4)).flatten)
      ((upTo ds.length).zip ds).foldl (fun s e => s.toChild v opHERD_COUNTS (h.pre 0 e.1 0) e.2 h) s
    else
      let n := h.slotCounts x v
      let got := min h.cap (totals.getD (h.rankOf v) 0)
      let gr := (n.zip off).map fun e => grantOf h.cap e.1 e.2
      let lost := ((n.zip gr).map fun e => e.1 - e.2).sum
      let data := leBytes 4 got ++ ((off.zip gr).map fun e => leBytes 4 e.1 ++ leBytes 4 e.2).flatten
      let s := s.onHerd i fun h => { h with counts := insertAt h.counts v [got, lost], skived := (h.skived + lost) % 2 ^ 32 }
      (h.hearers v).foldl (fun s m => s.resultTo i v m opHERD_COUNTS 0 0 data h) s) s

/-! ### Signals and completion (R194 to R196) -/

/-- Counts a signal sent to a member. -/
def State.signalled (s : State) (i node : Nat) : State :=
  s.onHerd i fun h => { h with signals := insertAt h.signals node ((lookup h.signals node).getD 0 + 1) }

/-- Whether every chunk of a rank's segment has left (REDUCE_SCATTER). -/
def Herd.segmentLeft (h : Herd) (rank : Nat) : Bool :=
  let g := h.segment rank
  (upTo h.nChunks).all fun c =>
    let r := h.chunkRange c
    h.left c || r.2 ≤ g.1 || g.2 ≤ r.1

/-- The packets of a member's whole segment. -/
def Herd.segmentPkts (h : Herd) (v node : Nat) : Nat :=
  ((upTo h.nChunks).map fun c => if c < h.firstChunk node then 0 else h.memberPkts v c).sum

/-- Sends the signals that chunk `c` brings to the members (R194): one for the chunk, or the one of the step. -/
def State.signalMembers (s : State) (i c : Nat) : State :=
  match s.herd i with
  | none => s
  | some h =>
    let all : Bool := h.nChunks ≤ h.doneChunks
    h.recipients.foldl (fun s e =>
      let v := e.1
      let node := e.2
      let had := (lookup h.signals node).isSome
      let send (ix n : Nat) : State := (s.toMemberW i v node opHERD_SIGNAL (h.pre ix n 0) [] h).signalled i node
      if c < h.firstChunk node then s
      else if h.op == 0 || h.moving || (h.op == 4 && h.rankOf v == h.rootRank) then send c (h.memberPkts v c)
      else if h.op == 1 then
        if !had && h.segmentLeft (h.rankOf v) then send onceChunk (h.segmentPkts v node) else s
      else if all && !had then send onceChunk 0
      else s) s

/-- Whether a slot's members have joined the step. DEDUCED, log 95. -/
def Herd.slotJoined (h : Herd) (v : Nat) : Bool := (h.contributors v).any h.joined.contains

/-- The FLAGS byte of the completions: zero for an operation without arithmetic. -/
def Herd.flagByte (h : Herd) : Nat := if h.reducing then h.flags else 0

/-- The completion record of a member of a step that has ended well (R196). -/
def Herd.memberRecord (h : Herd) (v node : Nat) : List Byte :=
  let cnt := (lookup h.counts v).getD [0, 0]
  let lost := cnt.getD 1 0
  cplRecord (if lost != 0 then stCAPACITY_DROP else stOK) h.flagByte 0 (h.swappedOut node) (h.twinLost.contains node) h.step
    (if h.op == 6 then lost else 0) (if h.op == 6 then cnt.getD 0 0 else (lookup h.signals node).getD 0)

/-- Sends the completions of a step that has ended well and returns the herd to IDLE (R189, R196). PRESUMED, log 89. DEDUCED, log 95. -/
def State.endStep (s : State) (i : Nat) : State :=
  match s.herd i with
  | none => s
  | some h =>
    let rs := h.recipients.map fun e => (e.1, e.2, h.memberRecord e.1 e.2)
    let s := (h.validSlots.filter h.isChild).foldl (fun s v =>
      s.toChild v opHERD_CPL (h.pre 0 0 0) (cplRecord stOK h.flagByte 0 false false h.step 0 0) h) s
    let s := rs.foldl (fun s e => s.toMemberW i e.1 e.2.1 opHERD_CPL (h.pre 0 0 0) e.2.2 h) s
    let s := s.onAttach i fun a => { a with committed := (a.committed + 1) % 2 ^ 64 }
    let s := s.putHerd i { h.record 0 h.flagByte (rs.foldl (fun m e => insertAt m e.2.1 e.2.2) []) with state := 1, step := (h.step + 1) % 2 ^ 32, work := [], joined := [], cores := [], ending := 0 }
    let s := s.when (h.ending == 2) fun s => s.freeHerd i
    s.when (h.ending != 0) fun s => s.hrdDone stOK 0

/-- Whether the completion of an up-link is in, or can no longer come: its port is not ACTIVE. -/
def State.upDone (s : State) (h : Herd) (u : Nat) : Bool := h.cpls.contains u || !s.portUpTo (h.upNode u)

/-- Ends the step when every chunk has left, every up-link has completed and every member slot that is still there has joined. DEDUCED, log 95. -/
def State.tryEnd (s : State) (i : Nat) : State :=
  match s.herd i with
  | none => s
  | some h =>
    let joined := h.validSlots.all fun v => h.isChild v || h.slotJoined v || !s.memberAlive h v
    if h.state == 2 && h.nChunks ≤ h.doneChunks && (h.isRoot || h.ups.all (s.upDone h)) && joined then s.endStep i
    else s

/-- Ends the steps whose results have all left and that waited only for a port that is gone. DEDUCED, log 95. -/
def State.endWaiting (s : State) : State :=
  s.sw.hrd.herds.foldl (fun s e => s.when e.2.finished fun s => s.tryEnd e.1) s

/-- The herd timers that have run out by now: the step's, TIMEOUT ticks after its last arming (R205, R206), or that of an ABORTING herd, one TIMEOUT without a decision or since it entered ABORTING (R207, R209). An expiry stands before an event of its own tick (R13). A step whose results have all left ends there (R208). DEDUCED, log 6, 95. -/
def State.herdDue (s : State) (i : Nat) : State :=
  match s.herd i with
  | none => s
  | some h =>
    if h.state == 2 && s.due .sw h.timerFrom h.timeout then
      if h.finished then s.endStep i else s.herdCondition i rsTIMEOUT
    else if h.state == 3 && s.due .sw h.abortAt h.timeout then
      let s := s.when h.decided.isNone fun s => s.decideHerd i rsMEMBER_LOST h.mayMove none
      match s.herd i with
      | some g => if g.state == 3 then s.leaveAborting i else s
      | none => s
    else s

/-- A chunk's result has left downward (R193, R194, R205): its buffers free, HSYNC advances, the members hear, the timer is armed again. -/
def State.chunkLeft (s : State) (i c : Nat) : State :=
  match s.herd i with
  | none => s
  | some h =>
    if h.left c || h.state != 2 then s
    else
      let gone := c :: h.gone
      let base := (upTo (gone.length + 1)).foldl (fun b _ => if gone.contains b then b + 1 else b) h.base
      let n := h.doneChunks + 1
      let s := s.putHerd i { h with work := removeAt h.work c, base := base, gone := gone.filter (base ≤ ·), doneChunks := n,
                                    timerFrom := s.now .sw, finished := h.nChunks ≤ n }
      let once := h.op == 5 || h.op == 6
      let s := s.when (!once || h.nChunks ≤ n) fun s => s.synAdvance h.hsync
      (s.signalMembers i c).tryEnd i

/-- The result of a shard goes down: to every child herd, and to the members that are to receive it (R192); when its last shard is down the chunk has left. DEDUCED, log 91. -/
def State.deliverDown (s : State) (i c shard : Nat) (data : List Byte) : State :=
  match s.herd i with
  | none => s
  | some h =>
    let s := h.validSlots.foldl (fun s v =>
      if h.isChild v then
        let ds := packetData data
        ((upTo ds.length).zip ds).foldl (fun s e => s.toChild v opHERD_RESULT (h.pre c e.1 shard) e.2 h) s
      else match h.memberPart v c shard data with
        | none => s
        | some d => (h.hearers v).foldl (fun s n =>
            if c < h.firstChunk n then s else s.resultTo i v n opHERD_RESULT c shard d h) s) s
    let x := h.chunk c
    let x := { x with down := insertAt x.down shard { done := some (s.now .sw) } }
    let s := s.onHerd i fun h => { h with work := insertAt h.work c x }
    let need := if h.firstStage && !h.isRoot then (upTo h.shardCount) else [shard]
    if need.all fun k => ((lookup x.down k).bind (·.done)).isSome then s.chunkLeft i c else s

/-! ### Reduction (R155 to R160, R192) -/

/-- Sends the packets of a byte string up a slot's link. PRESUMED, log 87. -/
def State.sendUp (s : State) (u op c shard : Nat) (data : List Byte) (h : Herd) : State :=
  let ds := packetData data
  ((upTo ds.length).zip ds).foldl (fun s e => s.toParent u op (h.pre c e.1 shard) e.2 h) s

/-- Lateness of a chunk (R202): the last and the largest of the step, the running sum, and the slot that came last. -/
def Herd.withLateness (h : Herd) (x : Chunk) : Herd :=
  let ts := h.validSlots.filterMap fun v => ((x.slotPiece v).bind (·.done)).map fun t => (v, t)
  match ts with
  | [] => h
  | e :: es =>
    let first := es.foldl (fun m f => min m f.2) e.2
    let last := es.foldl (fun m f => if m.2 ≤ f.2 then f else m) e
    ts.foldl (fun h f =>
      let l := f.2 - first
      { h with late := insertAt h.late f.1 (min l (2 ^ 32 - 1), min (max l ((lookup h.late f.1).getD (0, 0)).2) (2 ^ 32 - 1)),
               lsum := insertAt h.lsum f.1 (((lookup h.lsum f.1).getD 0 + l) % 2 ^ 64) })
      { h with lastSlot := last.1 }

/-- The image of all ranks' segments of a chunk: each member's bytes at its rank, each child's image joined in, absent ranks zero. DEDUCED, log 84. -/
def Herd.image (h : Herd) (x : Chunk) (c : Nat) : List Byte :=
  let n := h.inBytes c
  let zero : List Byte := List.replicate (h.ranks * n) 0
  h.validSlots.foldl (fun im v =>
    match x.slotPiece v with
    | none => im
    | some p =>
      if h.isChild v then List.zipWith (· ||| ·) im (p.bytes (h.ranks * n))
      else patch im (h.rankOf v * n) (p.bytes n)) zero

/-- The sum of a chunk over the herd's slots, and the flags that came with partials. -/
def Herd.sum (h : Herd) (x : Chunk) (c : Nat) : StageSum × Nat :=
  let r := h.workRange c x.shard
  let n := r.2 - r.1
  let cb := h.mode.carryBytes n
  let leaf (v : Nat) : Option (List Byte × Nat) :=
    if !h.slotValid v then none
    else (x.slotPiece v).map fun p =>
      if h.isChild v then (p.bytes cb, 0) else (p.bytes (vecBytes h.inFmt n), 0)
  let below := h.validSlots.foldl (fun a v =>
    if h.isChild v then a ||| ((x.slotPiece v).map fun p => ((p.bytes (cb + 1)).getD cb 0).toNat).getD 0 else a) 0
  (h.mode.stage h.firstStage n h.slotCount ((upTo h.slotCount).map leaf), below)

/-- The accumulated values of a stage's sum. -/
def StageSum.values : StageSum → List AV × Nat
  | .acc v => v
  | .mx v => ([], v.2)

/-- The streams of an attachment that a program reads or writes, with their numbers. -/
def Attach.used (a : Attach) (image : List Nat) (opc : Nat) : List (Nat × Stream) :=
  (namedStreams image opc).filterMap fun n => (a.streams[n]?).map fun st => (n, st)

/-- The loads of a chunk's program (R221, R222). -/
def State.progLoads (s : State) (i c : Nat) (h : Herd) (a : Attach) : State :=
  let image := ((lookup s.sw.svc.progs a.slot).map (·.image)).getD []
  let x := h.chunk c
  let r := h.workRange c x.shard
  let l := ((a.used image pLD).map fun e =>
    streamCuts e.1 (a.base e.2) e.2.ptn (streamSize e.2.fmt) (c * h.q) (r.2 - r.1) none).flatten
  s.streamAccess i c l

/-- The reads of a region's chunk (R234). -/
def State.regionLoads (s : State) (i c : Nat) (h : Herd) (g : Region) : State :=
  let r := h.chunkRange c
  s.streamAccess i c (streamCuts 0 (g.off + vecBytes h.inFmt r.1) g.ptn 1 0 (h.inBytes c) none)

/-- What a reducing chunk comes to at this herd: the partials of its shards go up, or the root rounds it and sends it down, or an attached program takes the sum (R157, R214). -/
def State.reduceChunk (s : State) (i c core : Nat) (h : Herd) : State :=
  let x := h.chunk c
  let r := h.workRange c x.shard
  let n := r.2 - r.1
  let sm := h.sum x c
  let m := h.mode
  let prog : Bool := h.isRoot && (s.attach i).isSome
  -- under a program the final rounding is the program's (R228), and a partial group costs as a full one (R215)
  let s := s.addOps core (if prog then m.ops h.firstStage (ceilDiv n 144 * 144) (h.validSlots.length - 1) else m.ops h.firstStage n h.validSlots.length)
  let keep (s : State) (own : Nat) (f : Chunk → Chunk) : State :=
    s.onHerd i fun h => { h with flags := h.flags ||| own ||| sm.2, work := insertAt h.work c (f { x with reduced := true, flags := own }) }
  if h.isRoot then
    match s.attach i with
    | some a =>
      let v := sm.1.values
      let bytes := (({ m with compact := false }).toCarry (v.1, 0)).1
      let s := keep s v.2 fun x => { x with out := bytes }
      match s.herd i with
      | some g => s.progLoads i c g a
      | none => s
    | none =>
      let o := m.resultOf h.rounding r.1 sm.1
      let s := (keep s o.2 id).coreChunk core o.2
      s.deliverDown i c x.shard o.1
  else
    let p := m.partialOf sm.1
    let s := (keep s p.2 id).coreChunk core p.2
    let fl := p.2 ||| sm.2
    if h.firstStage then
      let us := h.ups
      ((upTo us.length).zip us).foldl (fun s e =>
        let a := h.shardRange c e.1
        let part := slice p.1 (m.carryBytes (a.1 - r.1)) (m.carryBytes (a.2 - a.1))
        s.sendUp e.2 opHERD_PARTIAL c e.1 (part ++ leBytes 1 fl) h) s
    else h.ups.foldl (fun s u => s.sendUp u opHERD_PARTIAL c x.shard (p.1 ++ leBytes 1 fl) h) s

/-- A chunk of an operation without arithmetic: its data goes up, or from a root down (R160, R199, R234). -/
def State.moveChunk (s : State) (i c : Nat) (h : Herd) : State :=
  let x := h.chunk c
  let s := s.onHerd i fun h => { h with work := insertAt h.work c { x with reduced := true } }
  if h.op == 5 || (h.op == 6 && c != 0) then
    if h.isRoot then s.deliverDown i c 0 [] else s.joinUp h c
  else if h.op == 6 then
    let t := h.totals x
    if h.isRoot then (s.countsDown i h (List.replicate h.ranks 0) t).chunkLeft i c
    else h.ups.foldl (fun s u => s.sendUp u opHERD_COUNTS c 0 (t.map (leBytes 4)).flatten h) s
  else
    let data := if h.op == 2 then h.image x c
      else match (h.validSlots.filterMap x.slotPiece).head? with
        | some p => p.bytes (h.inBytes c)
        | none => []
    if h.isRoot then s.deliverDown i c 0 data
    else h.ups.foldl (fun s u => s.sendUp u opHERD_PARTIAL c 0 data h) s

/-- A chunk of an attached region: its reads are issued, and once they are in it goes down (R234). -/
def State.regionChunk (s : State) (i c : Nat) (h : Herd) (g : Region) : State :=
  let x := h.chunk c
  let s := if x.asked then s
    else (s.putHerd i { h with work := insertAt h.work c { x with asked := true } }).regionLoads i c h g
  match s.herd i with
  | some k =>
    let y := k.chunk c
    if k.state == 2 && y.asked && y.waits.isEmpty && !y.reduced then
      let s := s.onHerd i fun h => { h with work := insertAt h.work c { y with reduced := true } }
      s.deliverDown i c 0 (slice (loadedBytes y.loads 0) 0 (h.inBytes c))
    else s
  | none => s

/-- A twin has been used for a chunk: what NODE has brought of it is discarded (R204). -/
def State.settleTwins (s : State) (i c : Nat) : State :=
  match s.herd i with
  | none => s
  | some h => h.validSlots.foldl (fun s v =>
      let x := h.chunk c
      let own := (lookup x.pieces (pieceKey v 0)).getD {}
      let twin := (lookup x.pieces (pieceKey v 1)).getD {}
      s.when (h.twinValid v && twin.done.isSome && !twin.dead && own.done.isNone && !own.dead && !own.pkts.isEmpty) fun s =>
        s.twinDiscard i c (pieceKey v 0) (h.node v)) s

/-- Whether a herd has a chunk that a core could reduce now: complete, in the window, and assigned to it or to none. -/
def State.readyFor (s : State) (core i : Nat) (h : Herd) : Bool :=
  h.state == 2 && h.reducing && h.work.any fun e =>
    !e.2.reduced && e.1 < h.nChunks && !h.left e.1 && h.inWindow e.1 && s.chunkReady i h e.1 && (lookup h.cores e.1).all (· == core)

/-- Whether a herd is next in the round robin of a core: the first with a ready chunk after the herd served last (R231). DESIGN CHOICE, log 118. -/
def State.inTurn (s : State) (core i : Nat) : Bool :=
  let last := lookup s.sw.hrd.turn core
  let can := (s.sw.hrd.herds.filter fun e => s.readyFor core e.1 e.2).map (·.1)
  match last with
  | some t => ((can.find? (t < ·)).or can.head?) == some i
  | none => can.head? == some i

/-- CHUNK_REDUCED (R193): a chunk whose contributions are complete has been reduced by the core that it is assigned to, an ACTIVE one whose turn it is (R231), or moved; its result goes up or down. -/
def chunkReduced (i c core : Nat) (s : State) : State :=
  let s := s.herdDue i
  match s.herd i with
  | none => s
  | some h =>
    let x := h.chunk c
    if h.state != 2 || h.nChunks ≤ c || h.left c || x.reduced || !h.inWindow c || !s.chunkReady i h c then s
    else match s.regionOf i with
      | some g => s.regionChunk i c h g
      | none =>
        let go (s : State) : State :=
          let s := (s.settleTwins i c).onHerd i fun h => h.withLateness x
          match s.herd i with
          | some h => if h.reducing then s.reduceChunk i c core h else s.moveChunk i c h
          | none => s
        if !h.reducing then go s
        else if s.coreActive core && (lookup h.cores c).all (· == core) && s.inTurn core i then
          let s := s.onHrd fun x => { x with turn := insertAt x.turn core i }
          go (s.onHerd i fun h => { h with cores := insertAt h.cores c core })
        else s

def execChunkReduced (herd chunk core : Nat) (s : State) : Host.Outcome State Fault Refusal := .next (chunkReduced herd chunk core s)

end Sys2Proof.Machine
end

