-- ==== Sys2Proof/Machine/Herds.lean ====
section
/-! DEFINITION. The herd packets that arrive at the switch, the herd timers and the HRD commands (R183 to R213, R534). The member's side of HERD_RESULT, HERD_COUNTS, HERD_CPL and HERD_ABORT stands with the endpoint's commands. -/

namespace Sys2Proof.Machine

/-! ### Arrivals from members (R189, R190, R203, R204) -/

/-- A packet at an ABORTING herd: the sender hears the decision, when there is one. DEDUCED, log 98. -/
def State.toldAborted (s : State) (i v : Nat) (h : Herd) (k : Packet) : State :=
  if h.decided.isNone then s
  else if h.failedOver then s.toMember i v k.src opHERD_ABORT (h.abortPre h.reason true) [] h
  else s.refuseMember k stABORTED h.reason (h.swappedOut k.src) (h.twinLost.contains k.src)

/-- Whether a packet of a step that failed over to this standby found it not IDLE at the step's first arrival (R210). DEDUCED, log 184. -/
def Herd.standbyBusy (h : Herd) (k : Packet) : Bool :=
  let t := (herdPrefix k).step
  k.resend && (h.busyFor == some t || (h.state != 1 && !(h.moved && h.step == t) && !(h.outcomes.any fun e => e.step == t)))

/-- A standby that is not IDLE aborts the failed-over step with MEMBER_LOST: its sender is told, and once the herds above (R207, R210). -/
def State.refuseMoved (s : State) (i v : Nat) (h : Herd) (k : Packet) : State :=
  let t := (herdPrefix k).step
  let g := { h with step := t, moved := true }
  let s := s.onHerd i fun h => { h with busyFor := some t }
  let s := if h.isChild v then s.toChild v opHERD_ABORT (g.abortPre rsMEMBER_LOST false) [] g
    else s.toMember i v k.src opHERD_ABORT (g.abortPre rsMEMBER_LOST false) [] g
  s.when (h.busyFor != some t) fun s => s.askUp g rsMEMBER_LOST false

/-- Counts a packet of a step that has ended (R189). -/
def State.stalePacket (s : State) (i : Nat) : State := s.onHerd i fun h => { h with stale := min (h.stale + 1) 0xFFFF }

/-- A member's packet of a step that has ended (R189): counted; results that still wait for the member leave, otherwise the outcome of the step completes its command, with the record that the member was sent. DEDUCED, log 98. -/
def State.staleMember (s : State) (i v : Nat) (h : Herd) (k : Packet) : State :=
  let s := s.stalePacket i
  if s.memberWaits i k.src then s.memberJoins i k.src
  else match h.outcomes.find? fun e => e.step == (herdPrefix k).step with
    | some e =>
      let r := (lookup e.records k.src).getD (cplRecord (if e.outcome == 0 then stOK else stABORTED) e.flags e.outcome false false e.step 0 0)
      s.toMember i v k.src opHERD_CPL ⟨h.sig, e.step, 0, 0, 0⟩ r h
    | none => s.refuseMember k stABORTED rsTIMEOUT

/-- A packet of a later step than the expected one: refused, counted in ERR_COUNT. DEDUCED, log 97. -/
def State.earlyPacket (s : State) : State := s.count .sw HDR_ERR_COUNT_COUNT 1 0 pgHrd

/-- The slot and place of a member that may send: NODE or TWIN_NODE of a member slot, or an endpoint replaced in this step (place 2). -/
def Herd.senderOf (h : Herd) (node : Nat) : Option (Nat × Nat) :=
  match h.placeOfNode node with
  | some x => some x
  | none => (h.swapped.find? fun w => w.old == node).map fun w => (w.slot, 2)

/-- The herd as a packet of a step finds it: IDLE with a swap due at the next step (R203), the entries as that step has them; an IDLE standby that is behind takes the step that moves to it as its expected one (R210). DEDUCED, log 184. -/
def Herd.facing (h : Herd) (k : Packet) : Herd :=
  let t := (herdPrefix k).step
  let h := if k.resend && h.state == 1 && h.step < t then { h with step := t } else h
  match h.swap with
  | some (v, j) => if h.state == 1 && h.step ≤ t then h.exchange v j else h
  | none => h

/-- An IDLE standby that is behind takes up the step that moves to it (R210). DEDUCED, log 184. -/
def State.takeUp (s : State) (i : Nat) (k : Packet) : State :=
  let t := (herdPrefix k).step
  s.onHerd i fun h => if k.resend && h.state == 1 && h.step < t then { h with step := t } else h

/-- The checks of R190 in order on a packet of a member, but for its CRC; timers that have run out by now come first (R13). A packet that passes goes on with its herd, slot and place. -/
def State.memberCheck (s : State) (k : Packet) (f : Nat → Herd → Nat → Nat → State → State) : State :=
  let i := herdIx k
  let s := (s.consume .sw k).herdDue i
  let pre := herdPrefix k
  match s.herd i with
  | none => s.refuseMember k stNO_MAPPING 0
  | some h0 =>
    let h := h0.facing k
    match h.senderOf k.src with
    | none => s.refuseMember k stPERMISSION 0
    | some (v, place) =>
      if s.ctxPtn h.ctx != some k.ptn then s.refuseMember k stPERMISSION 0
      else if s.orphaned h.ctx then s.refuseMember k stSTALE_CONTEXT 0
      else if h.standbyBusy k then s.refuseMoved i v h k
      else if pre.step < h.step then s.staleMember i v h k
      else if h.step < pre.step then s.earlyPacket.refuseMember k stRETRY 0
      else f i h v place (s.takeUp i k)

/-- A packet of a member that takes part in a step: past the checks of R190 it starts the step if need be, joins its sender and goes on. -/
def State.memberGuard (s : State) (k : Packet) (f : Nat → Nat → Nat → State → State) : State :=
  s.memberCheck k fun i h v place s =>
    if h.state == 3 then s.toldAborted i v h k
    else if h.state == 1 && s.powerHeld then s.refuseMember k stHELD 0
    else
      let s := s.startStep i k.resend
      if !crcOk k then (s.crcFail .sw k).herdCondition i rsINTEGRITY
      else match s.herd i with
        | some g => if g.state == 2 then f i v place (s.memberJoins i k.src) else s
        | none => s

/-- Whether an endpoint's contribution to a chunk counts for its slot: before its replacement, and from its swap on (R203). -/
def Herd.ownsChunk (h : Herd) (node c : Nat) : Bool :=
  (h.swapped.all fun w => w.old != node || c < w.first) && (h.swapped.all fun w => w.new != node || w.first ≤ c)

/-- Adds a packet to the piece of a contributor. Of twins the piece that completes first is used, NODE's when both complete at one tick; a packet for the other is discarded as it arrives (R204). -/
def State.addPiece (s : State) (i v place c ix : Nat) (node : Nat) (data : List Byte) : State :=
  match s.herd i with
  | none => s
  | some h =>
    let x := h.chunk c
    let key := pieceKey v place
    let other := pieceKey v (1 - place)
    let p := (lookup x.pieces key).getD {}
    let o := (lookup x.pieces other).getD {}
    let won : Option Nat := if o.dead then none else o.done
    let late : Bool := won.any fun t => place == 1 || x.reduced || t != s.now .sw
    if p.dead || late then s.twinDiscard i c key node
    else if p.done.isSome then s
    else
      let q := p.add ix (h.pieceBytes v c x.shard) (s.now .sw) data
      let s := s.onHerd i fun h => { h with work := insertAt h.work c { x with pieces := insertAt x.pieces key q } }
      s.when (q.done.isSome && place == 0 && !o.pkts.isEmpty && !o.dead) fun s => s.twinDiscard i c other (h.twinNode v)

/-- Whether a member at a slot contributes data to a chunk of the operation. -/
def State.contributes (s : State) (i : Nat) (h : Herd) (v : Nat) : Bool :=
  h.reducing || h.op == 2 || (h.op == 3 && h.rankOf v == h.rootRank && (s.regionOf i).isNone)

/-- HERD_CONTRIB (R188 to R190, R203, R204): a packet of a member's contribution. Beyond the window of DEPTH chunks it waits in its queue (R193). DEDUCED, log 63. -/
def herdContrib (k : Packet) (s : State) : State :=
  let pre := herdPrefix k
  if (s.herdDue (herdIx k)).beyondWindow k then s.herdDue (herdIx k)
  else s.memberGuard k fun i v place s =>
    match s.herd i with
    | none => s
    | some h =>
      if h.nChunks ≤ pre.chunk || !s.contributes i h v then s
      else if !h.ownsChunk k.src pre.chunk then s.stalePacket i
      else if h.left pre.chunk then
        if h.twinValid v then s.onHerd i fun h => h.twinLoss k.src (pre.pkt != 0)
        else s.stalePacket i
      else s.addPiece i v (if place == 2 then 0 else place) pre.chunk pre.pkt k.src (k.payload.drop 16)

def execHerdContrib (k : Packet) (s : State) : Host.Outcome State Fault Refusal := .next (herdContrib k s)

/-! ### Arrivals between herds (R178, R182) -/

/-- The slot at which a packet of a child herd arrives. -/
def Herd.childSlot (h : Herd) (k : Packet) : Option Nat :=
  let v := herdSlot k
  if v < h.slotCount && h.slotValid v && h.isChild v && h.childSwitch v == k.src then some v else none

/-- The slot whose up-link a packet of a parent herd came down: the parent names the slot that the up-link feeds. -/
def Herd.upLinkOf (h : Herd) (k : Packet) : Option Nat :=
  h.ups.find? fun u => h.upSwitch u == k.src && h.upSlot u == herdSlot k

/-- Counts a packet discarded for its signature (R182). -/
def State.sigMismatch (s : State) : State := s.count .sw HRD_SIG_MISMATCH_COUNT

/-- A packet of a child herd: timers that have run out (R13), signature, slot, step, power (R182, R189, R211), then its effect. A child refused HELD is told by a completion. PRESUMED, log 92. -/
def State.childGuard (s : State) (k : Packet) (f : Nat → Nat → State → State) : State :=
  let i := herdIx k
  let s := (s.consume .sw k).herdDue i
  let pre := herdPrefix k
  match s.herd i with
  | none => s
  | some h0 =>
    let h := h0.facing k
    match h.childSlot k with
    | none => s
    | some v =>
      if pre.sig != h.sig then s.sigMismatch
      else if h.standbyBusy k then s.refuseMoved i v h k
      else if pre.step < h.step then s.stalePacket i
      else if h.step < pre.step then s.earlyPacket
      else if h.state == 3 then s
      else if h.state == 1 && s.powerHeld then s.toChild v opHERD_CPL (h.pre 0 0 0) (cplRecord stHELD 0 0 false false h.step 0 0) h
      else
        let s := s.takeUp i k
        let s := s.startStep i k.resend
        if !crcOk k then (s.crcFail .sw k).herdCondition i rsINTEGRITY
        else match s.herd i with
          | some g => if g.state == 2 then f i v s else s
          | none => s

/-- Adds a packet of a child herd to its slot's piece. -/
def State.addPartial (s : State) (i v : Nat) (k : Packet) (c shard : Nat) (data : List Byte) : State :=
  match s.herd i with
  | none => s
  | some h =>
    if h.nChunks ≤ c || h.left c then s
    else
      let x := { h.chunk c with shard := shard }
      let s := s.putHerd i { h with work := insertAt h.work c x }
      s.addPiece i v 0 c (herdPrefix k).pkt k.src data

/-- HERD_PARTIAL (R178, R182, R189): a packet of a child herd's partial. Beyond the window of DEPTH chunks it waits in its queue (R193). DEDUCED, log 63. -/
def herdPartial (k : Packet) (s : State) : State :=
  if (s.herdDue (herdIx k)).beyondWindow k then s.herdDue (herdIx k)
  else s.childGuard k fun i v s => s.addPartial i v k (herdPrefix k).chunk (herdPrefix k).shard (k.payload.drop 16)

def execHerdPartial (k : Packet) (s : State) : Host.Outcome State Fault Refusal := .next (herdPartial k s)

/-- HERD_JOIN (R187, R188, R199): a join marker of a member, or of a child herd. In a BARRIER, and in the second phase of ALL_TO_ALL, it is what the slot brings. -/
def herdJoin (k : Packet) (s : State) : State :=
  let c := (herdPrefix k).chunk
  let brings (h : Herd) : Bool := (h.op == 5 && c == 0) || (h.op == 6 && c == 1)
  if k.srcSw then
    s.childGuard k fun i v s => match s.herd i with
      | some h => if brings h then s.addPartial i v k c 0 [] else s
      | none => s
  else
    s.memberGuard k fun i v place s => match s.herd i with
      | some h =>
        if brings h && !h.left c && h.ownsChunk k.src c then s.addPiece i v (if place == 2 then 0 else place) c 0 k.src []
        else s.tryEnd i
      | none => s

def execHerdJoin (k : Packet) (s : State) : Host.Outcome State Fault Refusal := .next (herdJoin k s)

/-- A packet from the parent herd: timers that have run out (R13), signature, up-link, step, then its effect; it starts an expected step and is never refused for power (R189, R211). -/
def State.parentGuard (s : State) (k : Packet) (starts : Bool) (f : Nat → Nat → State → State) : State :=
  let i := herdIx k
  let s := (s.consume .sw k).herdDue i
  let pre := herdPrefix k
  match s.herd i with
  | none => s
  | some h =>
    match h.upLinkOf k with
    | none => s
    | some u =>
      if pre.sig != h.sig then s.sigMismatch
      else if pre.step < h.step then s.stalePacket i
      else if h.step < pre.step then s.earlyPacket
      else if h.state == 3 then s
      else
        let s := s.when starts fun s => s.startStep i k.resend
        if !crcOk k then (s.crcFail .sw k).herdCondition i rsINTEGRITY
        else match s.herd i with
          | some g => if g.state == 2 then f i u s else s
          | none => s

/-- Collects a packet of a shard's result; once complete it answers the bytes. -/
def State.collectDown (s : State) (i : Nat) (k : Packet) (c shard size : Nat) : State × Option (List Byte) :=
  match s.herd i with
  | none => (s, none)
  | some h =>
    if h.nChunks ≤ c || h.left c then (s, none)
    else
      let x := h.chunk c
      let p := (lookup x.down shard).getD {}
      if p.done.isSome then (s, none)
      else
        let q := p.add (herdPrefix k).pkt size (s.now .sw) (k.payload.drop 16)
        let s := s.putHerd i { h with work := insertAt h.work c { x with down := insertAt x.down shard { q with done := none } } }
        (s, if q.done.isSome then some (q.bytes size) else none)

/-- HERD_RESULT at the switch (R178, R192): a packet of a shard's result from the parent herd; a whole shard goes on down. -/
def State.herdResultSw (s : State) (k : Packet) : State :=
  let pre := herdPrefix k
  s.parentGuard k true fun i _ s =>
    match s.herd i with
    | none => s
    | some h =>
      let x := s.collectDown i k pre.chunk pre.shard (h.resultBytes pre.chunk pre.shard)
      match x.2 with
      | some data => x.1.deliverDown i pre.chunk pre.shard data
      | none => x.1

/-- The offsets and totals of the parent, passed on once all of them have come (R199). -/
def State.countsFromUp (s : State) (i : Nat) (k : Packet) : State :=
  match s.herd i with
  | none => s
  | some h =>
    let x := s.collectDown i k (herdPrefix k).chunk (herdPrefix k).shard (h.resultBytes 0 0)
    match x.2 with
    | some data =>
      let off := numsOf 4 h.ranks data
      let tot := numsOf 4 h.ranks (data.drop (4 * h.ranks))
      (x.1.countsDown i h off tot).chunkLeft i 0
    | none => x.1

/-- The counts of a member, as a contribution to the counting round (R199). -/
def State.countsOfMember (s : State) (i v place : Nat) (k : Packet) : State :=
  match s.herd i with
  | some h =>
    if h.op == 6 && !h.left 0 && h.ownsChunk k.src 0 then
      s.addPiece i v (if place == 2 then 0 else place) 0 (herdPrefix k).pkt k.src (k.payload.drop 16)
    else s
  | none => s

/-- HERD_COUNTS at the switch (R199): the counts of a member or of a child herd, or the offsets and totals from the parent. -/
def State.herdCountsSw (s : State) (k : Packet) : State :=
  let down : Bool := (s.herd (herdIx k)).any fun h => k.srcSw && (h.upLinkOf k).isSome && (h.childSlot k).isNone
  if down then s.parentGuard k true fun i _ s => s.countsFromUp i k
  else if k.srcSw then s.childGuard k fun i v s => s.addPartial i v k 0 0 (k.payload.drop 16)
  else s.memberGuard k fun i v place s => s.countsOfMember i v place k

/-- HERD_CPL at the switch (R196, R211): the parent's completion of the step, with its flags; HELD when the parent refused to start it. -/
def State.herdCplSw (s : State) (k : Packet) : State :=
  s.parentGuard k false fun i u s =>
    let w := natAt k.payload 16 4
    if bitsOf w 0 8 == stHELD then s.herdCondition i rsPOWER
    else
      let s := s.onHerd i fun h => { h with flags := h.flags ||| bitsOf w 8 8, cpls := if h.cpls.contains u then h.cpls else h.cpls ++ [u] }
      s.tryEnd i

/-! ### Abort messages (R207 to R210, R534) -/

/-- A request or a condition at a herd that has not started the step counts at its root too (R207). -/
def State.requestAbort (s : State) (i reason : Nat) (fo : Bool) : State :=
  match s.herd i with
  | none => s
  | some h =>
    if h.state == 1 then
      if h.isRoot then s.decideHerd i reason (fo && h.mayMove && (s.attach i).isNone) none
      else
        let s := s.putHerd i { h with state := 3, asked := some (reason, s.now .sw), abortAt := s.now .sw, work := [] }
        s.askUp h reason (fo && h.mayMove)
    else s.herdCondition i reason fo

/-- A decision from the parent reaches a herd: the first is taken, and one of the same tick that is stronger replaces it (R207, R208). -/
def State.takeDecision (s : State) (i u reason : Nat) (fo : Bool) : State :=
  match s.herd i with
  | none => s
  | some h => if h.decided.isSome then s.restate i reason else s.decideHerd i reason fo (some u)

/-- A relay reports a discarded packet to this switch (R534): every herd whose up-link or child slot names the packet's target treats the path as unreachable. -/
def State.relayLoss (s : State) (k : Packet) : State :=
  match targetSwitch k with
  | none => s
  | some sid =>
    let pre := herdPrefix k
    s.sw.hrd.herds.foldl (fun s e =>
      let h := e.2
      if h.step != pre.step then s
      else
        let s := (h.ups.filter fun u => h.upSwitch u == sid && h.upHerd u == herdIx k && h.upSlot u == herdSlot k).foldl
          (fun s u => s.upLost e.1 u) s
        let kids := h.validSlots.filter fun v => h.isChild v && h.childSwitch v == sid && h.childHerd v == herdIx k && v == herdSlot k
        s.when (!kids.isEmpty) fun s => s.herdCondition e.1 rsMEMBER_LOST true) s

/-- A packet of a child or a parent herd outside a step's flow: its slot or up-link, then signature and step (R182, R189). -/
def State.herdCheck (s : State) (k : Packet) (f : Nat → Herd → State → State) : State :=
  let i := herdIx k
  let s := (s.consume .sw k).herdDue i
  let pre := herdPrefix k
  match s.herd i with
  | none => s
  | some h0 =>
    let h := h0.facing k
    if (h.childSlot k).isNone && (h.upLinkOf k).isNone then s
    else if pre.sig != h.sig then s.sigMismatch
    else if pre.step < h.step then s.stalePacket i
    else if h.step < pre.step then s.earlyPacket
    else f i h (s.takeUp i k)

/-- HERD_ABORT at the switch (R189, R190, R207, R534): a member's or a child's request, a parent's decision, or a relay's report. One that fails its CRC aborts a running step. -/
def State.herdAbortSw (s : State) (k : Packet) : State :=
  let pre := herdPrefix k
  if relayReport k then
    let s := s.consume .sw k
    if crcOk k then s.relayLoss k else s.crcFail .sw k
  else if k.srcSw then
    s.herdCheck k fun i h s =>
      if !crcOk k then (s.crcFail .sw k).herdCondition i rsINTEGRITY
      else if (h.childSlot k).isSome then s.requestAbort i (pre.pkt % 8) (pre.chunk == 1)
      else match h.upLinkOf k with
        | some u => s.takeDecision i u (pre.pkt % 8) (pre.chunk == 1)
        | none => s
  else
    s.memberCheck k fun i _ _ _ s =>
      if !crcOk k then (s.crcFail .sw k).herdCondition i rsINTEGRITY
      else s.requestAbort i (pre.pkt % 8) false

/-- Notes an acknowledgement; the last one ends the abort (R209). -/
def State.acknowledged (s : State) (i n : Nat) : State :=
  match s.herd i with
  | some h =>
    if h.state == 3 then (s.putHerd i { h with acked := if h.acked.contains n then h.acked else h.acked ++ [n] }).checkAcked i else s
  | none => s

/-- HERD_ACK_RECEIVE (R189, R190, R209): a member's endpoint or a child herd acknowledges the abort; the last acknowledgement ends it. -/
def herdAckReceive (k : Packet) (s : State) : State :=
  if k.srcSw then
    s.herdCheck k fun i h s =>
      if !crcOk k then s.crcFail .sw k
      else match h.childSlot k with
        | some v => s.acknowledged i (2 ^ 17 + v)
        | none => s
  else
    s.memberCheck k fun i _ _ _ s => if !crcOk k then s.crcFail .sw k else s.acknowledged i k.src

def execHerdAckReceive (k : Packet) (s : State) : Host.Outcome State Fault Refusal := .next (herdAckReceive k s)

/-- HERD_TIMER_EXPIRY (R205, R206): TIMEOUT ticks after the last arming. DEDUCED, log 6. -/
def herdTimerExpiry (i : Nat) (s : State) : State :=
  if (s.herd i).any fun h => h.state == 2 then s.herdDue i else s

def execHerdTimerExpiry (i : Nat) (s : State) : Host.Outcome State Fault Refusal := .next (herdTimerExpiry i s)

/-- ABORTING_TIMEOUT (R207, R209): one TIMEOUT without a decision, the herd decides MEMBER_LOST or a failover for its own subtree; one TIMEOUT after it entered ABORTING it returns to IDLE. -/
def abortingTimeout (i : Nat) (s : State) : State :=
  if (s.herd i).any fun h => h.state == 3 then s.herdDue i else s

def execAbortingTimeout (i : Nat) (s : State) : Host.Outcome State Fault Refusal := .next (abortingTimeout i s)

/-! ### The stages of commands (R183, R239) -/

/-- The claimant of a request: kind (0 context, 1 host, 2 BMC), node and context. -/
def claimantOf (o : Origin) : Nat × Nat × Nat :=
  match o.path with
  | .remote => (0, o.node, o.ctx)
  | .sideband => (2, 0, 0)
  | .host | .csr => (1, 0, 0)

/-- How long a claim stands after its last access. -/
def claimTicks : Nat := 1750000

/-- The HRD stage is cleared and its claim ends. -/
def State.clearHrdStage (s : State) : State :=
  let s := (upTo 8).foldl (fun s k => s.wr .sw (HRD_DESC.word k) 0) s
  s.onHrd fun x => { x with stage := {}, entries := [] }

/-- The SVC stage is cleared and its claim ends. -/
def State.clearSvcStage (s : State) : State :=
  let s := (upTo 64).foldl (fun s k => s.wr .sw (SVC_STAGE.word k) 0) s
  s.onSvc fun v => { v with stage := {} }

/-- Whether a stage's claim has lapsed at this tick (R13, R183). -/
def State.claimOver (s : State) (g : Stage) : Bool := g.claim.isSome && s.due .sw g.at_ claimTicks

/-- The HRD stage with a lapsed claim ended. DEDUCED, log 105. -/
def State.hrdFresh (s : State) : State := if s.claimOver s.sw.hrd.stage then s.clearHrdStage else s

/-- The SVC stage with a lapsed claim ended. DEDUCED, log 105. -/
def State.svcFresh (s : State) : State := if s.claimOver s.sw.svc.stage then s.clearSvcStage else s

/-- The word of CLAIM for a claimant, HELD as the reader is told. -/
def claimWord (held : Bool) (c : Option (Nat × Nat × Nat)) : Word :=
  match c with
  | some (k, n, x) => BitVec.ofNat 64 (b2n held + 2 * n + 2 ^ 18 * k + 2 ^ 20 * x)
  | none => 0

/-- A read of HRD.CLAIM: it claims a free stage for the reader (R183). -/
def State.readHrdClaim (s : State) (o : Origin) : State × Word :=
  let s := s.hrdFresh
  match s.sw.hrd.stage.claim with
  | some c => (s, claimWord false (some c))
  | none =>
    let c := claimantOf o
    (s.onHrd fun x => { x with stage := { claim := some c, at_ := s.now .sw } }, claimWord true (some c))

/-- HRD_CLAIM_READ. -/
def hrdClaimRead (o : Origin) (s : State) : State := s.readBy o.path .sw pgHrd 0x40 fun s => s.readHrdClaim o

def execHrdClaimRead (o : Origin) (s : State) : Host.Outcome State Fault Refusal := .next (hrdClaimRead o s)

/-- STAGE_CLAIM_TIMEOUT (R183, R239): the claim of the HRD stage, or of the SVC stage, lapses. DEDUCED, log 6. -/
def stageClaimTimeout (svc : Bool) (s : State) : State := if svc then s.svcFresh else s.hrdFresh

def execStageClaimTimeout (svc : Bool) (s : State) : Host.Outcome State Fault Refusal := .next (stageClaimTimeout svc s)

/-- A write of the HRD stage or of HRD.CMD: only the claimant's counts while a claim stands (R183). DEDUCED, log 105. -/
def State.hrdStageWrite (s : State) (o : Origin) (f : State → Written) : Written :=
  let s := s.hrdFresh
  match s.sw.hrd.stage.claim with
  | some c =>
    if c != claimantOf o then (s.count .sw HDR_ERR_COUNT_COUNT 1 0 pgHrd, false)
    else f (s.onHrd fun x => { x with stage := { x.stage with at_ := s.now .sw } })
  | none => f s

/-- A write to HRD.CMD: ignored as a whole while a command is in progress (R212). The host needs HOST_HERDS (R436), and a command that core 1 cannot take completes RETRY (R432, R445). DESIGN CHOICE, log 106. DEDUCED, log 112. -/
def State.hrdCmd (s : State) (o : Origin) (f : State → State) : Written :=
  s.hrdStageWrite o fun s =>
    if s.flag .sw HRD_CMD_STS_BUSY then s.refused .sw pgHrd
    else if o.path == .host && !(s.rd .sw MGT_FEAT).getLsbD 2 then (s.hrdDone stUNSUPPORTED 0, true)
    else if !s.cpuServes 1 then (s.hrdDone stRETRY 0, true)
    else (f s, true)

/-! ### CREATE (R182, R184, R185) -/

/-- The port that an endpoint is joined to: by its coordinates, or in the x4 layout by the programmed neighbour (R19, R184). -/
def State.joinedPort (s : State) (node : Nat) : Option Nat :=
  if s.x4 then
    (upTo 128).find? fun n => s.flag .sw RTE_PORT_CTL_NEIGHBOR_VALID (n + 1) && s.get .sw RTE_PORT_CTL_NEIGHBOR (n + 1) == node
  else
    let c := coordOf s.swAxisNo node
    if s.swAxisNo != 0 && nodeAt s.switchId c == node && c < (s.widths .sw).length then some c else none

/-- Every endpoint that the entries name: NODE, TWIN_NODE and spares. -/
def Herd.named (h : Herd) : List Nat :=
  (h.validSlots.map h.contributors).flatten ++ (((upTo 8).filter fun k => h.slotValid (128 + k)).map fun k => h.node (128 + k))

/-- Whether every entry of a list is there once. -/
def distinct : List Nat → Bool
  | [] => true
  | x :: xs => !xs.contains x && distinct xs

/-- Whether a descriptor or an entry breaks R150, a code list or a zero field. -/
def Herd.badFields (h : Herd) : Bool :=
  let rsv := getBits (h.w 0) 57 7 != 0 || getBits (h.w 2) 40 24 != 0 || getBits (h.w 3) 34 30 != 0 || getBits (h.w 4) 40 24 != 0
    || getBits (h.w 5) 53 11 != 0 || getBits (h.w 6) 41 23 != 0 || getBits (h.w 7) 51 13 != 0
  let slots := (h.slots.any fun e => getBits e.2.1 60 4 != 0)
    || (upTo 8).any fun k => let e := h.entry (128 + k); getBits e.1 1 1 != 0 || getBits e.1 31 33 != 0 || e.2 != 0
  let codes := 6 < h.op || !fmtKnown h.inFmt || !fmtKnown h.outFmt || h.operator == 3 || h.algo == 3 || h.straggler == 3
  let narrow := h.inFmt == 0x08 || h.inFmt == 0x09 || fmtMx h.inFmt
  let arith := (fmtInt h.inFmt && h.outFmt != h.inFmt) || (h.compact && !narrow) || (h.sr && h.inFormat)
    || (h.inFormat && h.outFmt != h.inFmt) || (h.tiled && h.op < 5 && h.elems % 256 != 0)
  let chunk := h.depth == 0 || 4 < h.depth || h.chunkBytes % 4096 != 0 || h.chunkBytes < 4096 || 2 ^ 24 < h.chunkBytes
  rsv || slots || codes || arith || chunk

/-- Whether a length or count lies outside the operation's limits (R180, R187, R191). -/
def Herd.badLimits (h : Herd) : Bool :=
  let vector : Bool := h.op ≤ 4
  let len := if vector then h.length == 0 || !vecWhole h.inFmt h.length else h.length != 0
  let moves := (h.moving || h.op == 6) && h.outFmt != h.inFmt
  let shards := h.shards == 0 || 128 < h.shards || (h.moving && h.shards != 1)
  let seg := h.op == 1 && (h.elems % h.ranks != 0 || (h.tiled && h.elems / h.ranks % 256 != 0))
  let a2a := h.op == 6 && (4096 < h.ranks || h.cap == 0)
  let oneShot := h.op != 6 && !h.streamed && (h.shards != 1 || 2 ^ 24 < h.length)
  len || moves || shards || seg || a2a || oneShot || 2 ^ 24 < h.threshold || 2 ^ 17 < h.ranks

/-- Whether the up-links are wrong (R184). -/
def Herd.badUps (h : Herd) (axis : Nat) : Bool :=
  let us := h.ups
  let late := us.any fun u => swAxis (h.upSwitch u) ≤ axis
  if h.isRoot then !us.isEmpty
  else if h.firstStage then us.length != h.shards || (us.any h.isChild) || late
  else us.length != 1 || late

/-- The bytes of scratch that a herd needs (R185). -/
def Herd.scratch (h : Herd) : Nat :=
  let depth := if h.streamed then h.depth else 1
  let sp := h.validSlots.length + (h.validSlots.filter fun v => !h.isChild v && h.twinValid v).length
  if h.op == 5 then 0
  else if h.op == 6 then 2 * sp * h.ranks
  else if h.moving then depth * h.chunkBytes
  else
    let e := h.chunkElems
    if h.firstStage then depth * (sp * vecBytes h.inFmt e + h.mode.carryBytes e)
    else depth * (sp + 1) * h.mode.carryBytes (ceilDiv e (max 1 h.shards))

/-- The herd that the stage describes. -/
def State.stagedHerd (s : State) : Herd :=
  let d := (upTo 8).map fun k => s.rd .sw (HRD_DESC.word k)
  let t := getBits (d.getD 3 0) 0 34
  let d := d.set 3 (setBits (d.getD 3 0) 0 34 (min (max t 1750) 10500000000))
  let h : Herd := { desc := d, slots := s.sw.hrd.entries }
  { h with sig := chainSig d, step := getBits (d.getD 2 0) 0 32,
           upNodes := h.ups.map fun u => (u, h.node u) }

/-- The first check of R184 that fails: status and DETAIL. -/
def State.createCheck (s : State) (i : Nat) (h : Herd) : Nat × Nat :=
  let ports := h.named.map s.joinedPort
  let twins := h.validSlots.any fun v => !h.isChild v && h.twinValid v
  let spares := (upTo 8).any fun k => h.slotValid (128 + k)
  let b := synBank h.hsync
  if s.powerHeld then (stHELD, 9)
  else if (s.herd i).isSome then (stRETRY, 1)
  else if s.orphaned h.ctx then (stSTALE_CONTEXT, 8)
  else if (s.ctxPtn h.ctx).isNone then (stPERMISSION, 8)
  else if h.badFields || h.badLimits then (stUNSUPPORTED, 2)
  else if ports.any (·.isNone) || !distinct (ports.filterMap id) then (stUNSUPPORTED, 3)
  else if h.badUps s.swAxisNo then (stUNSUPPORTED, 4)
  else if (twins && h.straggler != 2) || (spares && h.straggler != 1) then (stUNSUPPORTED, 3)
  else if !s.flag .sw SYN_CFG_ENABLE b || some (s.get .sw SYN_CFG_PARTITION b) != s.ctxPtn h.ctx || s.flag .sw SYN_CFG_HERD_BOUND b then
    (stPERMISSION, 5)
  else if s.freeUnits < ceilDiv h.scratch 65536 then (stRETRY, 6)
  else (stOK, 0)

/-- CREATE: the checks, the scratch, HSYNC, the signature; the herd is IDLE at START_STEP. -/
def State.createHerd (s : State) (i : Nat) : State :=
  let h := s.stagedHerd
  let c := s.createCheck i h
  if c.1 != stOK then s.hrdDone c.1 c.2
  else
    let s := s.putHerd i { h with units := ceilDiv h.scratch 65536 }
    let s := (s.put .sw SYN_CFG_HERD_BOUND 1 (synBank h.hsync)).put .sw SYN_CFG_HERD i (synBank h.hsync)
    s.hrdDone stOK 0

/-- HERD_CREATE (R184): a write to HRD.CMD with OPCODE CREATE. -/
def herdCreate (o : Origin) (i : Nat) (s : State) : State :=
  s.writeBy o.path .sw pgHrd 0x48 fun s => s.hrdCmd o fun s => s.createHerd (i % 4096)

def execHerdCreate (o : Origin) (i : Nat) (s : State) : Host.Outcome State Fault Refusal := .next (herdCreate o i s)

/-! ### DESTROY, ABORT, SWAP (R186, R203) -/

/-- A command that waits for its herd to be IDLE: 1 ABORT, 2 DESTROY. DESIGN CHOICE, log 106. -/
def State.awaitIdle (s : State) (i opc : Nat) : State :=
  let s := (s.put .sw HRD_CMD_STS_BUSY 1).onHrd fun x => { x with running := some (opc, i) }
  s.onHerd i fun h => { h with ending := opc }

/-- DESTROY. -/
def State.destroyHerd (s : State) (i : Nat) : State :=
  match s.herd i with
  | none => s.hrdDone stNO_MAPPING 11
  | some h =>
    if h.state == 1 then (s.freeHerd i).hrdDone stOK 0
    else if h.state == 2 then (s.awaitIdle i 2).herdCondition i rsFENCED
    else s.awaitIdle i 2

/-- HERD_DESTROY (R186). -/
def herdDestroy (o : Origin) (i : Nat) (s : State) : State :=
  s.writeBy o.path .sw pgHrd 0x48 fun s => s.hrdCmd o fun s => s.destroyHerd (i % 4096)

def execHerdDestroy (o : Origin) (i : Nat) (s : State) : Host.Outcome State Fault Refusal := .next (herdDestroy o i s)

/-- ABORT. -/
def State.abortHerd (s : State) (i : Nat) : State :=
  match s.herd i with
  | none => s.hrdDone stNO_MAPPING 11
  | some h =>
    if h.state == 1 then s.hrdDone stOK 0
    else if h.state == 2 then (s.awaitIdle i 1).herdCondition i rsFENCED
    else s.awaitIdle i 1

/-- HERD_ABORT_CMD (R186). -/
def herdAbortCmd (o : Origin) (i : Nat) (s : State) : State :=
  s.writeBy o.path .sw pgHrd 0x48 fun s => s.hrdCmd o fun s => s.abortHerd (i % 4096)

def execHerdAbortCmd (o : Origin) (i : Nat) (s : State) : Host.Outcome State Fault Refusal := .next (herdAbortCmd o i s)

/-- c_s: the lowest chunk for which none of the slot's contribution has arrived (R203). -/
def Herd.freshChunk (h : Herd) (v : Nat) : Nat :=
  let none_ (c : Nat) : Bool :=
    !h.left c && [0, 1].all fun p => ((lookup (h.chunk c).pieces (pieceKey v p)).map fun q => q.pkts.isEmpty).getD true
  ((upTo (h.gone.length + h.work.length + 1)).map (h.base + ·) |>.find? none_).getD h.base

/-- SWAP: at once in a running step, with a notice to the spare's endpoint that carries the step and c_s; otherwise, or with AT_STEP, at the next step. DEDUCED, log 96. -/
def State.swapSlot (s : State) (i v k : Nat) (atStep : Bool) : State :=
  match s.herd i with
  | none => s.hrdDone stNO_MAPPING 11
  | some h =>
    if !(v < h.slotCount && h.slotValid v && !h.isChild v) || !h.slotValid (128 + k) then s.hrdDone stUNSUPPORTED 3
    else if h.swap.isSome then s.hrdDone stRETRY 10
    else if h.state == 2 && !atStep then
      let c := h.freshChunk v
      let w : Swap := { slot := v, first := c, old := h.node v, new := h.node (128 + k) }
      let h := { h.exchange v k with swapped := h.swapped ++ [w] }
      let s := s.putHerd i h
      (s.toMember i v w.new opHERD_SWAP (h.pre c 0 0) [] h).hrdDone stOK 0
    else if h.state == 1 && !atStep then
      let g := h.exchange v k
      ((s.putHerd i g).toMember i v (g.node v) opHERD_SWAP (g.pre 0 0 0) [] g).hrdDone stOK 0
    else (s.putHerd i { h with swap := some (v, k) }).hrdDone stOK 0

/-- HERD_SWAP_CMD (R203). -/
def herdSwapCmd (o : Origin) (i v k : Nat) (atStep : Bool) (s : State) : State :=
  s.writeBy o.path .sw pgHrd 0x48 fun s => s.hrdCmd o fun s => s.swapSlot (i % 4096) (v % 128) (k % 8) atStep

def execHerdSwapCmd (o : Origin) (i v k : Nat) (atStep : Bool) (s : State) : Host.Outcome State Fault Refusal := .next (herdSwapCmd o i v k atStep s)

/-- HRD.CMD as a register write: OPCODE chooses the command; other values are ignored and recorded (R212). -/
def State.writeHrdCmd (s : State) (o : Origin) (x : Word) : Written :=
  let i := getBits x 4 12
  let op := getBits x 0 4
  if op == 1 then s.hrdCmd o fun s => s.createHerd i
  else if op == 2 then s.hrdCmd o fun s => s.destroyHerd i
  else if op == 3 then s.hrdCmd o fun s => s.abortHerd i
  else if op == 4 then s.hrdCmd o fun s => s.swapSlot i (getBits x 16 7) (getBits x 23 3) (x.getLsbD 26)
  else s.hrdStageWrite o fun s => s.refused .sw pgHrd

end Sys2Proof.Machine
end

