-- ==== Sys2Proof/Machine/EpOps.lean ====
section
/-! DEFINITION. What the endpoint does for its own agents: accesses to the accelerator's memory (R345, R346), apertures and the translation cache (R42 to R49), access counters (R64 to R68), tags and requests (R357 to R360), copies of pool lines (R76, R123), and the pipeline of accesses with its ordering rules (R73, R83, R350). -/

namespace Sys2Proof.Machine

/-! ### State -/

/-- Changes the endpoint's traffic. -/
def State.onAg (s : State) (f : Traffic → Traffic) : State := { s with ep := { s.ep with ag := f s.ep.ag } }

/-- Whether the UCIe attachment is up. -/
def State.uciUp (s : State) : Bool := s.flag .ep UCI_STS_UP

/-- The next number for an access or an accelerator access. -/
def State.newId (s : State) : Nat := s.ep.ag.nextId

/-- The number taken. -/
def State.tookId (s : State) : State := s.onAg fun a => { a with nextId := a.nextId + 1 }

/-- The partition to which the endpoint binds a context, if it does (R43, R406). -/
def State.epCtxPtn (s : State) (ctx : Nat) : Option Nat :=
  if s.flag .ep CTX_ENTRY_VALID (ctx + 1) then some (s.get .ep CTX_ENTRY_PARTITION (ctx + 1)) else none

/-! ### The accelerator's memory (R345) -/

/-- Sends an ACC_RD for what asks it. -/
def State.accRead (s : State) (for_ : AccFor) (addr len : Nat) : State :=
  let id := s.newId
  let s := s.tookId.onAg fun a => { a with ops := a.ops ++ [⟨id, for_, 0, addr, len, s.now .ep⟩] }
  s.when s.uciUp fun s => s.emit (.accRd id addr len)

/-- Writes the accelerator's memory; nothing is written while the attachment is down. -/
def State.accWrite (s : State) (addr : Nat) (data : List Byte) : State :=
  s.when (s.uciUp && !data.isEmpty) fun s => s.emit (.accWr addr data)

/-- Completes a MEM_REQ at the accelerator. -/
def State.memCpl (s : State) (id status : Nat) (data : List Byte) : State :=
  s.when s.uciUp fun s => s.emit (.memCpl id status data)

/-! ### Apertures (R42 to R50) -/

/-- A field of an aperture. -/
def apF (f : Fld) (n : Nat) : Fld := f.shift (0x20 * n)

/-- The first accelerator address of an aperture. -/
def State.apBase (s : State) (n : Nat) : Nat := s.get .ep (apF APT_AP_LBASE_LBASE n) * 2 ^ 21

/-- The bytes of an aperture. -/
def State.apSize (s : State) (n : Nat) : Nat := (s.get .ep (apF APT_AP_SIZE_PAGES_M1 n) + 1) * 2 ^ 21

/-- TARGET of an aperture. -/
def State.apTarget (s : State) (n : Nat) : Nat := s.get .ep (apF APT_AP_TARGET_TARGET n)

/-- The valid aperture that covers an accelerator address. DEDUCED, log 119. -/
def State.apertureOf (s : State) (a : Nat) : Option Nat :=
  (upTo 64).find? fun n => s.flag .ep (apF APT_AP_CTL_VALID n) && s.apBase n ≤ a && a < s.apBase n + s.apSize n

/-- The key of a cached table entry: partition, context, accelerator page (R47). -/
def atcKey (ptn ctx page : Nat) : Nat := (ptn * 1024 + ctx) * 2 ^ 31 + page

/-- What a translation comes to: a status, a table entry to be read, or a fabric address with its context and partition. -/
inductive Xl where
  | bad (status : Nat)
  | wait (key apt page : Nat)
  | to (fab : Word) (apt ctx ptn : Nat) (via : Option Nat)
deriving DecidableEq, Repr

/-- Whether an opcode writes. -/
def isWriteOp (op : Nat) : Bool := op == opWRITE || op == opWRITEBACK || op == opCTL_WRITE

/-- The checks of R46 on an access, and its translation (R44). -/
def State.translate (s : State) (q : Access) : Xl :=
  match s.apertureOf q.addr with
  | none => .bad stNO_MAPPING
  | some n =>
    let ctx := s.get .ep (apF APT_AP_CTL_CTX n)
    match s.epCtxPtn ctx with
    | none => .bad stPERMISSION
    | some p =>
      if isWriteOp q.op && !s.flag .ep (apF APT_AP_CTL_WRITE_EN n) then .bad stPERMISSION
      else if isAtomic q.op && !s.flag .ep (apF APT_AP_CTL_ATOMIC_EN n) then .bad stPERMISSION
      else if !s.flag .ep (apF APT_AP_CTL_MODE n) then
        .to (BitVec.ofNat 64 (s.apTarget n + (q.addr - s.apBase n))) n ctx p none
      else
        let key := atcKey p ctx (q.addr / 2 ^ 21)
        match lookup s.ep.ag.atc key with
        | some e =>
          if (isWriteOp q.op && !e.getLsbD 1) || (isAtomic q.op && !e.getLsbD 2) then .bad stPERMISSION
          else .to (BitVec.ofNat 64 (getBits e 21 43 * 2 ^ 21 + q.addr % 2 ^ 21)) n ctx p (some key)
        | none => .wait key n ((q.addr - s.apBase n) / 2 ^ 21)

/-- Whether a table entry maps a page: VALID, and PAGE in window or pool space (R46). -/
def entryOk (e : Word) : Bool := e.getLsbD 0 && !e.getLsbD 63

/-- Keeps a table entry in the translation cache of 8,192 entries; a full cache gives up an entry that a free value picks. DESIGN CHOICE, log 125. -/
def State.atcKeep (s : State) (key : Nat) (e : Word) : State :=
  let full : Bool := 8192 ≤ s.ep.ag.atc.length && (lookup s.ep.ag.atc key).isNone
  let victim := (s.ep.ag.atc.getD (s.draw % 8192) (0, 0)).1
  let s := if full then (s.onAg fun a => { a with atc := removeAt a.atc victim }).drawn else s
  s.onAg fun a => { a with atc := insertAt a.atc key e }

/-! ### Access counters (R64 to R68) -/

/-- A field of a counter range. -/
def rngF (f : Fld) (r : Nat) : Fld := f.shift (0x20 * r)

/-- The kind of a range, its first page and its window (WINDOW ranges). -/
def State.rngFirst (s : State) (r : Nat) : Nat :=
  let b := s.get .ep (rngF ACN_RNG_BASE_BASE r)
  if s.flag .ep (rngF ACN_RNG_CTL_KIND r) then bitsOf b 0 9 * 2 ^ 43 + bitsOf b 9 15 else b / 2 ^ 21

/-- The bytes of a hot-page record (R67). -/
def hotRecord (page count range kind phase epoch : Nat) : List Byte :=
  leBytes 8 page ++ leBytes 2 count ++ leBytes 2 (range + 16 * kind + 2 ^ 15 * phase) ++ leBytes 4 epoch

/-- Writes a hot-page record to the ring, or drops it when the ring is full or the attachment is down (R67, R68, R347). -/
def State.hotPage (s : State) (page count range kind slot : Nat) : State :=
  let size := 2 ^ s.get .ep ACN_RING_CFG_LOG2_ENTRIES
  let prod := s.get .ep ACN_RING_PROD_PROD
  let full : Bool := (prod + 2 ^ 32 - s.get .ep ACN_RING_CONS_CONS) % 2 ^ 32 == size
  if full || !s.uciUp then (s.count .ep ACN_RING_DROP_DROPS).cause .ep pgAcn 1
  else
    let r := hotRecord page count range kind (1 - prod / size % 2) (s.get .ep ACN_ACN_EPOCH_NUM_NUM)
    let s := s.accWrite (s.get .ep ACN_RING_BASE_BASE * 4096 + 16 * (prod % size)) r
    let s := (s.addWrap .ep ACN_RING_PROD_PROD).onAg fun a => { a with recorded := a.recorded ++ [slot] }
    s.cause .ep pgAcn 0

/-- Ends the epochs whose windows the tick has passed: a new one begins with every count and flag at zero (R11, R66). -/
def State.acnRoll (s : State) : State :=
  let n := s.get .ep ACN_ACN_EPOCH_LENGTH
  if s.flag .ep ACN_ACN_CTL_ENABLE && s.due .ep s.ep.ag.epochAt n then
    let k := if n == 0 then 1 else (s.now .ep - s.ep.ag.epochAt) / n
    (s.addWrap .ep ACN_ACN_EPOCH_NUM_NUM k).onAg fun a => { a with counts := [], recorded := [], epochAt := a.epochAt + k * n }
  else s

/-- Counts a packet to a page in the range that covers it, in the epoch of its tick (R64, R66, R67). `place` is the page's number in the range's own numbering, `page` its fabric address. -/
def State.acnHit (s : State) (kind place page : Nat) : State :=
  let on := s.flag .ep ACN_ACN_CTL_ENABLE && s.flag .ep (if kind == 0 then ACN_ACN_CTL_COUNT_POOL else ACN_ACN_CTL_COUNT_WIN)
  let covers (r : Nat) : Bool :=
    s.flag .ep (rngF ACN_RNG_CTL_VALID r) && s.get .ep (rngF ACN_RNG_CTL_KIND r) == kind
      && s.rngFirst r ≤ place && place ≤ s.rngFirst r + s.get .ep (rngF ACN_RNG_PAGES_PAGES_M1 r)
  if !on then s
  else match (upTo 16).find? covers with
    | none => s
    | some r =>
      let s := s.acnRoll
      let slot := s.get .ep (rngF ACN_RNG_SLOT_FIRST_SLOT r) + (place - s.rngFirst r)
      let was := (lookup s.ep.ag.counts slot).getD 0
      let n := min (was + 1) 0xFFFF
      let s := s.onAg fun a => { a with counts := insertAt a.counts slot n }
      let t := s.get .ep (rngF ACN_RNG_CTL_THRESHOLD r)
      if was != n && n == t && t != 0 && !s.ep.ag.recorded.contains slot then s.hotPage page n r kind slot else s

/-- Counts a request packet that the endpoint sends to pool space. -/
def State.acnSent (s : State) (k : Packet) : State :=
  match placeOf k.addr with
  | .pool _ _ _ => s.acnHit 0 (k.addr.toNat / 2 ^ 21) (k.addr.toNat / 2 ^ 21 * 2 ^ 21)
  | _ => s

/-! ### Tags (R357) -/

/-- Whether a tag held since a tick still awaits reuse: for 2 × REQ_TMO from its last copy (R357). -/
def State.tagHeld (s : State) (at_ : Nat) : Bool := !s.due .ep at_ (2 * s.get .ep EPC_REQ_TMO_TICKS)

/-- Whether a tag is in use or awaits reuse. -/
def State.tagBusy (s : State) (t : Nat) : Bool :=
  s.ep.reqs.any (·.tag == t) || (lookup s.ep.ag.held t).any s.tagHeld

/-- The first free tag at or after `t` among the ordinary half; `fuel` bounds the search. -/
def State.freeOrd : Nat → Nat → State → Option Nat
  | 0, _, _ => none
  | fuel + 1, t, s => if s.tagBusy (t % 32768) then State.freeOrd fuel (t + 1) s else some (t % 32768)

/-- The tag that a request takes: an ordinary one, or the next of the non-idempotent half in ascending order. DEDUCED, log 131. -/
def State.nextTag (s : State) (ni : Bool) : Option Nat :=
  if ni then (if s.tagBusy s.ep.ag.niPtr then none else some s.ep.ag.niPtr)
  else s.freeOrd 32768 s.ep.ag.ordPtr

/-- The pointers past a tag taken. DEDUCED, log 131. -/
def State.tookTag (s : State) (t : Nat) : State :=
  s.onAg fun a =>
    let a := { a with held := removeAt a.held t }
    if t < 32768 then { a with ordPtr := (t + 1) % 32768 } else { a with niPtr := 32768 + (t + 1) % 32768 }

/-- Sends a request under a tag. -/
def State.sendReq (s : State) (for_ : ReqFor) (k : Packet) (tag : Nat) : State :=
  let k := sealPkt { k with tag := tag }
  let now := s.now .ep
  let s := (s.tookTag tag).acnSent k
  let s := { s with ep := { s.ep with reqs := s.ep.reqs ++ [({ tag := tag, pkt := k, for_ := for_, first := now, last := now } : Req)] } }
  s.epInject k

/-- A request that is resent under R358 when it has no answer. DEDUCED, log 132. -/
def resendable (k : Packet) : Bool :=
  k.op == opREAD || k.op == opCTL_READ || k.op == opSYNC_READ || k.op == opGATHER || nonIdempotent k

/-- Changes a request. -/
def State.onEpReq (s : State) (tag : Nat) (f : Req → Req) : State :=
  { s with ep := { s.ep with reqs := s.ep.reqs.map fun r => if r.tag == tag then f r else r } }

/-- Sends a request once more, with RESEND set and its tag (R358, R313). DEDUCED, log 132. -/
def State.resendReq (s : State) (r : Req) : State :=
  let k := sealPkt { r.pkt with resend := true }
  let s := (s.onEpReq r.tag fun r => { r with resends := r.resends + 1, last := s.now .ep }).count .ep DDP_RESEND_SENT
  (s.acnSent k).epInject k

/-- The part that a request acts on: kind 0 endpoint, 1 switch, and its ID. -/
def targetOf (k : Packet) : Nat × Nat :=
  match placeOf k.addr with
  | .window n _ _ => (0, n)
  | .pool sid _ _ => (1, sid)
  | .control kind id _ _ => (kind, if kind == 1 then id % 2 ^ 16 else id)
  | .reserved => (0, k.dst)

/-- A request has ended: its tag is free, or held for 2 × REQ_TMO from its last copy; the outcome of a non-idempotent request answered on its first copy is to be released (R357, R360). -/
def State.endReq (s : State) (r : Req) (timedOut : Bool) : State :=
  let ni := nonIdempotent r.pkt
  let hold := ni || timedOut || r.resends != 0
  let s := { s with ep := { s.ep with reqs := s.ep.reqs.filter (·.tag != r.tag) } }
  let s := s.when hold fun s => s.onAg fun a => { a with held := insertAt a.held r.tag r.last }
  s.when (ni && !timedOut && r.resends == 0) fun s =>
    let t := targetOf r.pkt
    s.onAg fun a => { a with releases := a.releases ++ [⟨t.1, t.2, r.tag, s.now .ep⟩] }

/-! ### Packets of accesses -/

/-- The endpoint to which a packet for a fabric address goes: the node of a window or control address, or the landing endpoint of a switch (R31, R295). -/
def State.dstOf (s : State) (a : Word) : Nat :=
  match placeOf a with
  | .window n _ _ => n
  | .pool sid _ _ => landing sid s.nodeId
  | .control 1 id _ _ => landing (id % 2 ^ 16) s.nodeId
  | .control _ id _ _ => id
  | .reserved => s.nodeId

/-- Whether a fabric address lies in control space and names a register. -/
def inControl (a : Word) : Bool := getBits a 62 2 == 2

/-- The opcode with which an access travels: control space is read and written by CTL_READ and CTL_WRITE (R41). -/
def travelOp (op : Nat) (fab : Word) : Nat :=
  if inControl fab && op == opREAD then opCTL_READ else if inControl fab && op == opWRITE then opCTL_WRITE else op

/-- The class of an access: TC5 for a write of a bulk queue that is not volatile, else its opcode's (R350). -/
def Access.tc (q : Access) (op : Nat) : Nat := if op == opWRITE && q.bulk && !q.vol then 5 else (opClass op).getD 0

/-- The packet of an access. -/
def State.accPkt (s : State) (q : Access) (op : Nat) (fab : Word) (len : Nat) (data : List Byte) : Packet :=
  { dst := s.dstOf fab, src := s.nodeId, tc := q.tc op, op := op, addr := fab, len := len, ctx := q.ctx, ptn := q.ptn,
    scope := q.scope, colour := s.get .ep QUE_Q_CFG_COLOUR (q.queue + 1), vol := q.vol, aux := q.aux, payload := data }

/-! ### Completing accesses and commands -/

/-- A descriptor word of a command. -/
def Cmd.w (c : Cmd) (k : Nat) : Nat := (c.desc.getD k 0).toNat
def Cmd.op (c : Cmd) : Nat := bitsOf (c.w 0) 0 8
def Cmd.subop (c : Cmd) : Nat := bitsOf (c.w 0) 8 8
def Cmd.vol (c : Cmd) : Bool := (c.w 0).testBit 16
def Cmd.direct (c : Cmd) : Bool := (c.w 0).testBit 17
def Cmd.fence (c : Cmd) : Bool := (c.w 0).testBit 20
def Cmd.signalEn (c : Cmd) : Bool := (c.w 0).testBit 21
def Cmd.signal (c : Cmd) : Nat := bitsOf (c.w 0) 22 12
def Cmd.localAddr (c : Cmd) : Nat := bitsOf (c.w 2) 0 52
def Cmd.length (c : Cmd) : Nat := bitsOf (c.w 3) 0 40

/-- The status of a command: that of its lowest-addressed failed packet, else OK (R350). -/
def Cmd.outcome (c : Cmd) : Nat := match c.fails with
  | (_, st) :: _ => st
  | [] => stOK

/-- A command with no packet outstanding is done. -/
def State.cmdSettle (s : State) (q i : Nat) : State :=
  match s.cmd q i with
  | some c => if c.stage == 1 && c.open_ == 0 && c.phase == 0 then s.cmdDone q i c.outcome c.value c.verdict else s
  | none => s

/-- The effect of a completed packet of a command on the command and on local memory. -/
def State.cmdTakes (s : State) (q : Access) (status : Nat) (data : List Byte) (aux : Nat) (resent : Bool) : State :=
  let s := s.onCmd q.queue q.index fun c =>
    { c with open_ := c.open_ - 1, resent := c.resent || resent, fails := if status != stOK then insertAt c.fails q.pos status else c.fails }
  match s.cmd q.queue q.index with
  | none => s
  | some c =>
    let s :=
      if q.op == opGATHER || q.op == opSCATTER_ADD then s.onCmd q.queue q.index fun c => { c with failed := aux % 2 ^ 16 }
      else if status != stOK then s
      else if q.op == opREAD then s.accWrite (c.localAddr + q.pos) data
      else if isAtomic q.op && returnsOld q.op then
        let s := s.onCmd q.queue q.index fun c => { c with value := BitVec.ofNat 64 (natAt data 0 8) }
        s.when (q.op == opCAS && c.length == 16) fun s => s.accWrite c.localAddr (slice data 0 16)
      else s
    if q.op == opSYNC_READ || q.op == opSYNC_WAIT then
      if status != stOK then s.cmdSettle q.queue q.index
      else
        let v : Bool := aux % 2 == 1
        let r := natAt data 8 8
        let t := targetOf { addr := q.fab }
        let s := s.when (!v) fun s =>
          s.epMismatch (bitsOf r 0 2, ⟨bitsOf r 2 2, bitsOf r 4 17, bitsOf r 21 8⟩) q.scope q.queue (getBits q.fab 0 14) t.1 t.2
        s.acquireDone q.queue q.index (BitVec.ofNat 64 (natAt data 0 8)) v
    else s.cmdSettle q.queue q.index

/-- The command number of an access that no command waits for: a write-back, or the release of a SIGNAL. -/
def noCmd : Nat := 2 ^ 32

/-- Removes an access. -/
def State.dropAcc (s : State) (id : Nat) : State := s.onAg fun a => { a with accs := a.accs.filter (·.id != id) }

/-- An access by its number. -/
def State.access (s : State) (id : Nat) : Option Access := s.ep.ag.accs.find? fun q => q.id == id

/-- Completes an access (R75). -/
def State.finish (s : State) (id status : Nat) (data : List Byte := []) (aux : Nat := 0) (resent : Bool := false) : State :=
  match s.access id with
  | none => s
  | some q =>
    let s := s.dropAcc id
    match q.mem with
    | some m => s.memCpl m status (if status == stOK then data else [])
    | none => if q.index == noCmd then s else s.cmdTakes q status data aux resent

/-- Changes an access. -/
def State.onAcc (s : State) (id : Nat) (f : Access → Access) : State :=
  s.onAg fun a => { a with accs := a.accs.map fun q => if q.id == id then f q else q }

/-! ### Copies of pool lines (R76, R118, R123) -/

/-- The key of the line of a fabric address. -/
def epLine (a : Word) : Nat := a.toNat / 128

/-- The copy that covers an access. -/
def State.copyOf (s : State) (a : Word) : Option Copy := lookup s.ep.ag.copies (epLine a)

/-- Keeps a copy. DESIGN CHOICE, log 122. -/
def State.keepCopy (s : State) (a : Word) (c : Copy) : State := s.onAg fun t => { t with copies := insertAt t.copies (epLine a) c }

/-- Whether an access may use a copy: a cached one to pool space, within one line, not volatile. -/
def Access.usesCopy (q : Access) : Bool :=
  q.cached && !q.vol && getBits q.fab 62 2 == 1 && q.fab.toNat % 128 + q.len ≤ 128

/-- A line's address. -/
def lineAddr (a : Word) : Word := BitVec.ofNat 64 (a.toNat / 128 * 128)

/-! ### The order of accesses (R73, R79, R83, R350) -/

/-- Whether an access comes earlier in program order. DEDUCED, log 128. -/
def Access.before (e q : Access) : Bool := e.queue == q.queue && (e.ord < q.ord || (e.ord == q.ord && e.id < q.id))

/-- The bytes that an access names overlap another's. -/
def Access.meets (e q : Access) : Bool :=
  e.fab.toNat < q.fab.toNat + q.len && q.fab.toNat < e.fab.toNat + e.len

/-- Whether a command stops later accesses of its queue until it completes: KSTART, SYNC READ and WAIT (R79, R84, R351). -/
def Cmd.blocks (c : Cmd) : Bool := c.op == 8 || (c.op == 4 && (c.subop == 2 || c.subop == 3))

/-- Whether an earlier acquire of the queue holds an access back. -/
def State.acquireHolds (s : State) (q : Access) : Bool :=
  s.ep.cmds.any fun c => c.queue == q.queue && c.stage == 1 && c.blocks && c.mark < q.ord

/-- Whether an access writes. -/
def Access.writes (e : Access) : Bool := isWriteOp e.op || isAtomic e.op

/-- Whether an earlier access holds one back (R73): one whose place is not known yet, one that it overlaps and that has not been sent, one that it overlaps in another class when either writes (R350), or, with copies, any that touches the same line. DEDUCED, log 128. -/
def State.orderHolds (s : State) (q : Access) : Bool :=
  s.ep.ag.accs.any fun e =>
    e.before q && e.op != 0 && (
      e.stage < 2
      || (e.meets q && (e.stage < 4 || ((e.writes || q.writes) && e.tc (travelOp e.op e.fab) != q.tc (travelOp q.op q.fab))))
      || ((e.cached || q.cached) && epLine e.fab == epLine q.fab))

/-- Whether a scope orders an access: DOMAIN orders the pool lines of the object's switch (R81), and at an endpoint's object it is DEVICE (R82). -/
def State.scopeOrders (e q : Access) : Bool :=
  q.scope != 2 || (targetOf { addr := q.fab }).1 == 0 || match placeOf e.fab with
    | .pool sid _ _ => (1, sid) == targetOf { addr := q.fab }
    | _ => e.stage < 2

/-- Whether an earlier access holds a release back (R83). DEDUCED, log 129. -/
def State.releaseHolds (s : State) (q : Access) : Bool :=
  s.ep.ag.accs.any fun e => e.before q && (e.op == 0 || State.scopeOrders e q)

/-- The modified copies that a release writes back first: those of its switch at DOMAIN, all at SYSTEM (R83). -/
def State.dirtyFor (s : State) (q : Access) : List (Nat × Copy) :=
  s.ep.ag.copies.filter fun e =>
    e.2.dirty && (q.scope == 3 || (q.scope == 2 && (1, bitsOf (e.1 * 128) 46 16) == targetOf { addr := q.fab }))

/-! ### Releases on the endpoint's own objects (R197, R354) -/

/-- Performs a sync update of the endpoint's own queues on an object of its own. -/
def State.localSync (s : State) (q : Access) : State :=
  let idx := getBits q.fab 0 14
  let me : Agent := ⟨0, s.nodeId, q.queue⟩
  let x : Word := BitVec.ofNat 64 (natAt q.data 0 8)
  let clear : Bool := q.op == opSYNC_SET && q.aux == 1
  let value (s : State) (st : Nat) : State :=
    let s := s.onCmd q.queue q.index fun c => { c with value := s.synValue .ep idx }
    s.finish q.id st
  if !s.synOwned .ep idx q.ptn then s.finish q.id stPERMISSION
  else if s.synError .ep idx && !clear then s.finish q.id stABORTED
  else
    let s := s.when clear fun s => s.synClearError .ep idx
    let v := if q.op == opSYNC_ADD then s.synValue .ep idx + x else x
    value (s.release .ep idx v q.scope me) stOK

/-- Whether an access is a sync operation on an object of this endpoint. DEDUCED, log 139. -/
def State.ownObject (s : State) (q : Access) : Bool :=
  isSyncOp q.op && match placeOf q.fab with
    | .control 0 id _ _ => id == s.nodeId
    | _ => false

/-! ### The pipeline -/

/-- Sends the packet of an access when a tag is free; a request that finds none waits and is counted once (R357). -/
def State.sendAcc (s : State) (q : Access) (op : Nat) (fab : Word) (len : Nat) (data : List Byte) : State :=
  let k := s.accPkt q op fab len data
  match s.nextTag (nonIdempotent k) with
  | some t => (s.onAcc q.id fun q => { q with stage := 4, sentOp := op }).sendReq (.acc q.id) k t
  | none => if q.stage == 3 then s else (s.onAcc q.id fun q => { q with stage := 3 }).count .ep EPC_INJ_STS_TAG_WAITS

/-- A write-back of a copy ahead of a release, as an access of the same queue. DESIGN CHOICE, log 122. -/
def State.epWriteBack (s : State) (q : Access) (e : Nat × Copy) : State :=
  let id := s.newId
  let s := s.tookId
  let fab : Word := BitVec.ofNat 64 (e.1 * 128)
  s.onAg fun a =>
    { a with copies := removeAt a.copies e.1,
             accs := a.accs ++ [{ id := id, queue := q.queue, ord := q.ord - 1, index := noCmd, op := opWRITEBACK,
                                  fab := fab, stage := 2, data := e.2.data, len := 128, ctx := q.ctx, ptn := bitsOf (e.1 * 128) 40 6,
                                  release := true, direct := true }] }

/-- An access that may use a copy (R76, R123): a load that hits is served, a store that hits an exclusive copy modifies it, a dropped line is written back or reported; every other case asks the home. DESIGN CHOICE, log 122. -/
def State.runCached (s : State) (q : Access) : State :=
  let off := q.fab.toNat % 128
  match s.copyOf q.fab with
  | some c =>
    if q.op == opREAD then s.finish q.id stOK (slice c.data off q.len)
    else if q.op == opCLEAN_EVICT then
      if !c.excl then (s.onAg fun a => { a with copies := removeAt a.copies (epLine q.fab) }).finish q.id stOK
      else
        let t := s.sendAcc q (if c.dirty then opWRITEBACK else opCLEAN_EVICT) (lineAddr q.fab) 128 (if c.dirty then c.data else [])
        t.when (t.ep.reqs.length != s.ep.reqs.length) fun t => t.onAg fun a => { a with copies := removeAt a.copies (epLine q.fab) }
    else if c.excl then (s.keepCopy q.fab { c with data := patch c.data off q.data, dirty := true }).finish q.id stOK
    else s.sendAcc q opUPGRADE (lineAddr q.fab) 128 []
  | none =>
    if q.op == opCLEAN_EVICT then s.finish q.id stOK
    else s.sendAcc q (if q.op == opREAD then opREAD_SHARED else opREAD_OWN) (lineAddr q.fab) 128 []

/-- The answer of the home to a cached access: a copy is kept unless the answer is marked UNCACHED or a snoop came first (R118); a store that got no ownership goes uncached. -/
def State.cachedAnswer (s : State) (q : Access) (status : Nat) (data : List Byte) (uncached resent : Bool) : State :=
  let off := q.fab.toNat % 128
  let keep := !uncached && !q.noKeep
  if status != stOK || q.sentOp == opWRITEBACK || q.sentOp == opCLEAN_EVICT then s.finish q.id status [] 0 resent
  else
    let line := if data.isEmpty then (s.copyOf q.fab).map (·.data) else some (slice data 0 128)
    if q.op == opREAD then
      let s := s.when (keep && !data.isEmpty) fun s => s.keepCopy q.fab ⟨false, false, slice data 0 128⟩
      s.finish q.id stOK (slice data off q.len) 0 resent
    else match keep, line with
      | true, some d => (s.keepCopy q.fab ⟨true, true, patch d off q.data⟩).finish q.id stOK [] 0 resent
      | _, _ => s.onAcc q.id fun q => { q with cached := false, stage := 2, noKeep := false }

/-- One transition of an access, if it can make one. DEDUCED, log 124. -/
def State.driveOne (s : State) (q : Access) : State :=
  if q.stage == 0 then
    if q.op == 0 then s.onAcc q.id fun q => { q with stage := 2 }
    else if q.direct then
      if getBits q.fab 62 2 == 3 then s.finish q.id stUNSUPPORTED else s.onAcc q.id fun q => { q with stage := 2 }
    else match s.translate q with
      | .bad st => s.finish q.id st
      | .to fab n ctx ptn via =>
        if getBits fab 62 2 == 3 then s.finish q.id stUNSUPPORTED
        else s.onAcc q.id fun q => { q with fab := fab, ctx := ctx, ptn := ptn, via := via, apt := some n, stage := 2 }
      | .wait key n page =>
        let s := s.onAcc q.id fun q => { q with stage := 1, via := some key }
        if s.ep.ag.xlates.any (·.key == key) then s
        else s.tookId.onAg fun a => { a with xlates := a.xlates ++ [{ id := s.newId, key := key, apt := n, page := page }] }
  else if q.stage == 1 then
    if s.ep.ag.xlates.any fun x => some x.key == q.via then s else s.onAcc q.id fun q => { q with stage := 0, via := none }
  else if q.stage == 4 || !q.hasData then s
  else if s.acquireHolds q || s.orderHolds q then s
  else if q.release && q.op != opWRITEBACK && (s.releaseHolds q || !(s.dirtyFor q).isEmpty) then
    if s.releaseHolds q then s else (s.dirtyFor q).foldl (fun s e => s.epWriteBack q e) s
  else if q.op == 0 then s.finish q.id stOK
  else if s.ownObject q then s.localSync q
  else if q.usesCopy then s.runCached q
  else if q.op == opCLEAN_EVICT then s.finish q.id stOK
  else
    let len := if q.data.isEmpty && q.op != opWRITE then q.len else q.data.length
    s.sendAcc q (travelOp q.op q.fab) q.fab len q.data

/-- Sends the table reads that have no tag yet: volatile reads to the table's home (R47). -/
def State.driveXlate (s : State) (x : Xlate) : State :=
  if x.tagged then s
  else
    let ctx := s.get .ep (apF APT_AP_CTL_CTX x.apt)
    let fab : Word := BitVec.ofNat 64 (s.apTarget x.apt + 8 * x.page)
    let k : Packet := { dst := s.dstOf fab, src := s.nodeId, tc := 0, op := opREAD, addr := fab, len := 8, ctx := ctx,
                        ptn := (s.epCtxPtn ctx).getD 0, vol := true }
    match s.nextTag false with
    | none => s
    | some t =>
      let s := s.onAg fun a => { a with xlates := a.xlates.map fun y => if y.id == x.id then { y with tagged := true } else y }
      (s.count .ep APT_ATC_STS_FILLS).sendReq (.xlate x.id) k t

/-- One pass over the accesses and the table reads. -/
def State.drivePass (s : State) : State :=
  let s := (s.ep.ag.accs.map (·.id)).foldl (fun s id => match s.access id with
    | some q => s.driveOne q
    | none => s) s
  s.ep.ag.xlates.foldl (fun s x => s.driveXlate x) s

/-- Passes until nothing moves; `fuel` bounds them. -/
def State.driveN : Nat → State → State
  | 0, s => s
  | fuel + 1, s =>
    let t := s.drivePass
    if t.ep.ag.accs == s.ep.ag.accs && t.ep.ag.xlates == s.ep.ag.xlates then t else State.driveN fuel t

/-- Moves every access that can move. -/
def State.drive (s : State) : State := s.driveN (4 * s.ep.ag.accs.length + 4)

/-- Adds an access, numbered next. DEDUCED, log 124. -/
def State.addAcc (s : State) (q : Access) : State :=
  let id := s.newId
  s.tookId.onAg fun a => { a with accs := a.accs ++ [{ q with id := id }] }

end Sys2Proof.Machine
end

