-- ==== Sys2Proof/Machine/Member.lean ====
section
/-! DEFINITION. The endpoint as a member of herds (R187 to R201, R207 to R210, R352, R355, R534): what a member sends in a step, where results and records are written, signals, completion, abort and failover, and what the endpoint does when it has no path left. -/

namespace Sys2Proof.Machine

/-! ### Members and their packets -/

/-- Changes the member of a command. -/
def State.onMemb (s : State) (q i : Nat) (f : Memb → Memb) : State :=
  s.onAg fun a => { a with membs := a.membs.map fun m => if m.queue == q && m.index == i then f m else m }

/-- The member of a command. -/
def State.memb (s : State) (q i : Nat) : Option Memb := s.ep.ag.membs.find? fun m => m.queue == q && m.index == i

/-- The member in a step of a herd at a switch. -/
def State.membOf (s : State) (sid herd step : Nat) : Option Memb :=
  s.ep.ag.membs.find? fun m => m.sid == sid && m.herd == herd && m.step == step

/-- The rank of a member. -/
def Memb.rank (m : Memb) : Nat := m.geo.rankOf m.slot

/-- The prefix of a member's packets. -/
def Memb.pre (m : Memb) (chunk pkt shard : Nat) : HerdPrefix := ⟨chainSig m.geo.desc, m.step, chunk, pkt, shard⟩

/-- A herd packet of a member, to an endpoint. RESEND marks what it sends again to the standby (R210). PRESUMED, log 184. -/
def State.membPkt (s : State) (m : Memb) (op dst : Nat) (pre : HerdPrefix) (data : List Byte) : Packet :=
  let ctx := s.get .ep QUE_Q_CFG_CTX (m.queue + 1)
  sealPkt { dst := dst, src := s.nodeId, tc := if op < 0x68 then 3 else 4, op := op,
            addr := targetForm 1 m.sid (m.herd % 4096 + (m.slot % 128) * 4096), len := 16 + data.length, ctx := ctx,
            ptn := (s.epCtxPtn ctx).getD 0, colour := s.get .ep QUE_Q_CFG_COLOUR (m.queue + 1), resend := m.moved, payload := pre.bytes ++ data }

/-- Sends a packet to the member's herd. -/
def State.membSend (s : State) (m : Memb) (op : Nat) (pre : HerdPrefix) (data : List Byte) : State :=
  s.epInject (s.membPkt m op (landing m.sid s.nodeId) pre data)

/-- Sends the herd an abort request with a reason (R187, R207, R347, R534). -/
def State.membAsk (s : State) (m : Memb) (reason : Nat) : State := s.membSend m opHERD_ABORT (m.pre 0 reason 0) []

/-! ### What a member sends (R187, R188, R200) -/

/-- The first byte of chunk `c` in a member's own vector. -/
def Memb.chunkOff (m : Memb) (c : Nat) : Nat := vecBytes m.geo.inFmt (m.geo.chunkRange c).1

/-- Reads the packets of one chunk of the source buffer. -/
def State.readChunk (s : State) (m : Memb) (c : Nat) : State :=
  let n := m.geo.inBytes c
  (upTo (packetsOf n)).foldl (fun s p =>
    s.accRead (.memb m.queue m.index 0 c p) (m.src + m.chunkOff c + herdData * p) (min herdData (n - herdData * p))) s

/-- Begins a member's part from a chunk on: a join marker for a role that sends nothing, as every role of a herd that sends a region (R234), the blocks of ALL_TO_ALL, or the vector. -/
def State.membStart (s : State) (m : Memb) (first : Nat) : State :=
  if m.geo.op == 5 || (m.geo.op == 3 && (m.region || m.rank != m.geo.rootRank)) then s.membSend m opHERD_JOIN (m.pre 0 0 0) []
  else if m.geo.op == 6 then s.accRead (.memb m.queue m.index 1 0 0) m.src 64
  else ((upTo m.geo.nChunks).filter (first ≤ ·)).foldl (fun s c => s.readChunk m c) s

/-- The bytes of an ALL_TO_ALL record. PRESUMED, log 110. -/
def Memb.recBytes (m : Memb) : Nat := 16 * (if m.geo.recUnits == 0 then 256 else m.geo.recUnits)

/-- Every granted record of an ALL_TO_ALL member has been sent and received: it joins the end of the data phase (R200). -/
def State.a2aCheck (s : State) (q i : Nat) : State :=
  match s.memb q i with
  | some m =>
    let whole := m.a2a.expect.elim false fun e => m.a2a.got.length == e * packetsOf m.recBytes
    if whole && m.a2a.left == 0 && !m.a2a.joined && !m.stopped then
      (s.onMemb q i fun m => { m with a2a := { m.a2a with joined := true } }).membSend m opHERD_JOIN (m.pre 1 0 0) []
    else s
  | none => s

/-- Reads the granted records of every destination (R200). PRESUMED, log 110. -/
def State.readRecords (s : State) (m : Memb) (lists : List Nat) : State :=
  let n := m.recBytes
  (upTo m.geo.ranks).foldl (fun s d =>
    (upTo (m.a2a.grants.getD d 0)).foldl (fun s j =>
      (upTo (packetsOf n)).foldl (fun s p =>
        s.accRead (.memb m.queue m.index 4 d (2 * j + p)) (lists.getD d 0 + j * n + herdData * p) (min herdData (n - herdData * p))) s) s) s

/-- The accelerator's answer to a member's read: a contribution, the blocks of ALL_TO_ALL, or a record. -/
def State.membData (s : State) (q i kind a b : Nat) (data : List Byte) : State :=
  match s.memb q i with
  | none => s
  | some m =>
    if m.stopped then s
    else if kind == 0 then s.membSend m opHERD_CONTRIB (m.pre a (b % 65536) 0) data
    else if kind == 1 then
      let s := s.onMemb q i fun m => { m with a2a := { m.a2a with listsAt := natAt data 8 8, recv := natAt data 16 8, bitmap := natAt data 24 8 } }
      s.accRead (.memb q i 2 0 0) (natAt data 0 8) (2 * m.geo.ranks)
    else if kind == 2 then
      let s := s.onMemb q i fun m => { m with a2a := { m.a2a with counts := numsOf 2 m.geo.ranks data } }
      let ds := packetData data
      ((upTo ds.length).zip ds).foldl (fun s e => s.membSend m opHERD_COUNTS (m.pre 0 e.1 0) e.2) s
    else if kind == 3 then
      let l := numsOf 8 m.geo.ranks data
      s.readRecords m l
    else
      let s := s.epInject (s.membPkt m opHERD_RECORD (m.nodes.getD a 0) (m.pre (m.a2a.offs.getD a 0 + b / 2) (b % 2) 0) data)
      (s.onMemb q i fun m => { m with a2a := { m.a2a with left := m.a2a.left - 1 } }).a2aCheck q i

/-- A member's source data cannot be read: it stops sending for the step and asks for an abort (R187). -/
def State.membFault (s : State) (q i : Nat) : State :=
  match s.memb q i with
  | some m =>
    if m.stopped then s else (s.onMemb q i fun m => { m with stopped := true }).membAsk m rsINTEGRITY
  | none => s

/-! ### Signals, completion and abort (R194 to R196, R355) -/

/-- Forgets the reads of a member. -/
def State.dropReads (s : State) (q i : Nat) : State :=
  let mine (o : AccOp) : Bool := match o.for_ with
    | .memb a b _ _ _ => a == q && b == i
    | _ => false
  s.onAg fun a => { a with ops := a.ops.filter fun o => !mine o }

/-- Ends a member's part: its command is done with a record of R196. PRESUMED, log 89. -/
def State.membDone (s : State) (m : Memb) (record : List Byte) : State :=
  let s := (s.onAg fun a => { a with membs := a.membs.filter fun x => !(x.queue == m.queue && x.index == m.index) }).dropReads m.queue m.index
  (s.onCmd m.queue m.index fun c => { c with record := record }).cmdDone m.queue m.index (natAt record 0 1)

/-- The records that an ALL_TO_ALL member has received whole. -/
def Memb.received (m : Memb) : Nat :=
  ((m.a2a.got.map (·.1)).eraseDups.filter fun j => (m.a2a.got.filter fun e => e.1 == j).length == packetsOf m.recBytes).length

/-- The records of an ALL_TO_ALL member that were skived (R201), as far as it knows its grants. -/
def Memb.skived (m : Memb) : Nat := if m.a2a.expect.isSome then ((m.a2a.counts.zip m.a2a.grants).map fun e => e.1 - e.2).sum else 0

/-- The step has aborted for a member: its sync object enters its error state and its command completes ABORTED (R187, R196, R198); `bits` are SWAPPED_OUT and TWIN_LOST. -/
def State.membAbort (s : State) (m : Memb) (reason : Nat) (bits : Nat := 0) : State :=
  let s := s.synEnterError .ep m.sync reason
  let moves : Bool := m.geo.op == 6
  s.membDone m (cplRecord stABORTED 0 reason (bits.testBit 0) (bits.testBit 1) m.step (if moves then m.skived else 0)
    (if moves then m.received else m.applied.length))

/-- Advances a member's sync object for its switch: a release at SYSTEM scope by the switch (R89). -/
def State.membSignal (s : State) (m : Memb) : State :=
  if s.flag .ep SYN_CFG_ENABLE (synBank m.sync) && !s.synError .ep m.sync then
    s.release .ep m.sync (s.synValue .ep m.sync + 1) 3 ⟨2, m.sid, 0⟩
  else s

/-- The result packets that a member has written of a chunk, or of the step (R195). -/
def Memb.written (m : Memb) (c : Nat) : Nat :=
  if c == onceChunk then (m.got.map (·.2)).sum else (lookup m.got c).getD 0

/-- Applies the signals whose result packets are all written, then the completion that waits for them (R195, R196). -/
def State.membApply (s : State) (q i : Nat) : State :=
  match s.memb q i with
  | none => s
  | some m =>
    let go := m.signals.filter fun e => e.2 ≤ m.written e.1
    let s := go.foldl (fun s _ => s.membSignal m) s
    let s := s.onMemb q i fun m => { m with signals := m.signals.filter fun e => !go.contains e, applied := m.applied ++ go.map (·.1) }
    match s.memb q i with
    | some m => match m.cpl with
      | some r => if m.signals.isEmpty then s.membDone m r else s
      | none => s
    | none => s

/-! ### Results (R192, R200, R208) -/

/-- The places of a packet's bytes in an ALL_GATHER image: each rank's part of the chunk goes to the rank's segment; `fuel` bounds the parts. -/
def gatherPlaces (length chunkOff inB : Nat) : Nat → Nat → List Byte → List (Nat × List Byte)
  | 0, _, _ => []
  | fuel + 1, x, data =>
    if data.isEmpty || inB == 0 then []
    else
      let n := min data.length (inB - x % inB)
      (x / inB * length + chunkOff + x % inB, data.take n) :: gatherPlaces length chunkOff inB fuel (x + n) (data.drop n)

/-- Where the bytes of a result packet go, as offsets in the destination buffer. -/
def Memb.places (m : Memb) (c shard pkt : Nat) (data : List Byte) : List (Nat × List Byte) :=
  let g := m.geo
  let x := herdData * pkt
  if g.op == 2 then gatherPlaces g.length (m.chunkOff c) (g.inBytes c) (data.length + 1) x data
  else if g.op == 3 then [(m.chunkOff c + x, data)]
  else
    let lo := (g.shardRange c shard).1
    if g.op == 1 then [(vecBytes g.outFmt (lo - (g.segment m.rank).1) + x, data)]
    else [(vecBytes g.outFmt lo + x, data)]

/-- Writes a result packet and counts it. -/
def State.membResult (s : State) (m : Memb) (pre : HerdPrefix) (data : List Byte) : State :=
  let s := (m.places pre.chunk pre.shard pre.pkt data).foldl (fun s e => s.accWrite (m.dst + e.1) e.2) s
  (s.onMemb m.queue m.index fun m => { m with got := insertAt m.got pre.chunk ((lookup m.got pre.chunk).getD 0 + 1) }).membApply m.queue m.index

/-- The bits of a list, least significant first, as bytes. -/
def bitBytes : Nat → List Bool → List Byte
  | 0, _ => []
  | fuel + 1, bs =>
    if bs.isEmpty then []
    else BitVec.ofNat 8 ((bs.take 8).foldr (fun b acc => b2n b + 2 * acc) 0) :: bitBytes fuel (bs.drop 8)

/-- The offsets and grants of the count phase are in: the drop bitmap, the zero bytes behind the records to come, the reads of the granted records (R199 to R201). PRESUMED, log 110. -/
def State.a2aGranted (s : State) (m : Memb) (data : List Byte) : State :=
  let r := m.geo.ranks
  let got := natAt data 0 4
  let offs := (upTo r).map fun d => natAt data (4 + 8 * d) 4
  let grants := (upTo r).map fun d => natAt data (8 + 8 * d) 4
  let n := m.recBytes
  let lost := (upTo r).map fun d => decide (grants.getD d 0 < m.a2a.counts.getD d 0)
  let s := s.when (lost.any id) fun s => s.accWrite m.a2a.bitmap (bitBytes (r + 1) lost)
  let s := s.accWrite (m.a2a.recv + got * n) (List.replicate ((m.geo.cap - got) * n) 0)
  let left := grants.sum * packetsOf n
  let s := s.onMemb m.queue m.index fun m => { m with a2a := { m.a2a with offs := offs, grants := grants, expect := some got, left := left } }
  let s := s.when (0 < left) fun s => s.accRead (.memb m.queue m.index 3 0 0) m.a2a.listsAt (8 * r)
  s.a2aCheck m.queue m.index

/-- Takes a packet of the offsets and grants. -/
def State.membCounts (s : State) (m : Memb) (pre : HerdPrefix) (data : List Byte) : State :=
  let parts := insertAt m.a2a.parts pre.pkt data
  let s := s.onMemb m.queue m.index fun m => { m with a2a := { m.a2a with parts := parts } }
  let n := 4 + 8 * m.geo.ranks
  if parts.length < packetsOf n || m.a2a.expect.isSome then s
  else s.a2aGranted m (slice ((parts.map (·.2)).flatten) 0 n)

/-- Writes a record at its position (R200). PRESUMED, log 111. -/
def State.membRecord (s : State) (m : Memb) (pre : HerdPrefix) (data : List Byte) : State :=
  let s := s.accWrite (m.a2a.recv + pre.chunk * m.recBytes + herdData * pre.pkt) data
  let at_ := (pre.chunk, pre.pkt)
  (s.onMemb m.queue m.index fun m =>
    { m with a2a := { m.a2a with got := if m.a2a.got.contains at_ then m.a2a.got else m.a2a.got ++ [at_] } }).a2aCheck m.queue m.index

/-! ### Failover and lost paths (R187, R210, R63, R135) -/

/-- Whether the endpoint has a path to a switch. -/
def State.hasPath (s : State) (sid : Nat) : Bool :=
  let k : Packet := { dst := landing sid s.nodeId, src := s.nodeId, tc := 3, op := opHERD_CONTRIB, addr := targetForm 1 sid 0 }
  if s.split then (s.splitEntry k.dst).elim false fun e => s.linkUsable e.1 k.tc
  else s.nativeHop k != .none

/-- A member resends the step from chunk 0 to the standby herd: the plane bit of the switch ID inverted (R210). With no path there, its command ends (R187). -/
def State.membFailover (s : State) (m : Memb) : State :=
  let m' := { m with sid := m.sid ^^^ 2 ^ 13, moved := true, stopped := false, idle := false, got := [], signals := [], cpl := none, a2a := {} }
  let s := (s.dropReads m.queue m.index).onMemb m.queue m.index fun _ => m'
  if s.hasPath m'.sid then s.membStart m' 0 else s.membAbort m' rsMEMBER_LOST

/-- Completes the members that have no path left to their herd's switch (R187). -/
def State.membersPath (s : State) : State :=
  s.ep.ag.membs.foldl (fun s m => if s.hasPath m.sid then s else s.membAbort m rsMEMBER_LOST) s

/-- Drops every entry of the translation cache: requests translated with one and not yet sent are translated again, and a table read in progress is made again (R47, R60). DEDUCED, log 138. -/
def State.atcDropAll (s : State) : State :=
  s.onAg fun a =>
    { a with atc := [], xlates := a.xlates.map fun x => { x with again := true },
             accs := a.accs.map fun q => if q.stage < 4 && q.via.isSome && q.stage != 1 then { q with stage := 0, via := none } else q }

/-- What the endpoint does when a link has gone down: with its last link it drops its ATC and its copies and has the accelerator discard its own, before it sends anything again (R63, R135); members without a path are told (R187). DEDUCED, log 138. -/
def State.epLinkLost (s : State) : State :=
  let s := s.when ((s.portList .ep).all fun m => s.stage .ep m != 5) fun s =>
    let id := s.newId
    ((s.tookId.atcDropAll).onAg fun a => { a with copies := [] }).emit (.discard id true)
  s.membersPath.drive

end Sys2Proof.Machine
end

