-- ==== Sys2Proof/Machine/Requests.lean ====
section
/-! DEFINITION. The life of the endpoint's requests: answers, bad answers, resends, timeouts, tags and releases (R313, R357 to R360, R474), the rows of a gather (R352), the snoops that the accelerator's copies answer (R123), the MEM_REQ of the accelerator (R46, R345) and translation (R47, R60). -/

namespace Sys2Proof.Machine

/-! ### Answers -/

/-- A translation-table read has ended (R46, R47): a read that an invalidation overtook is made again, a good entry is kept, and otherwise what waits for it completes NO_MAPPING. -/
def State.xlateDone (s : State) (id status : Nat) (data : List Byte) : State :=
  match s.ep.ag.xlates.find? (·.id == id) with
  | none => s
  | some x =>
    let key := x.key
    if x.again then
      s.onAg fun a => { a with xlates := a.xlates.map fun y => if y.id == id then { y with again := false, tagged := false } else y }
    else
      let s := s.onAg fun a => { a with xlates := a.xlates.filter (·.id != id) }
      let e : Word := BitVec.ofNat 64 (natAt data 0 8)
      if status == stOK && entryOk e then s.atcKeep key e
      else
        let s := s.when (status != stOK) fun s => s.note .ep pgApt status
        let waits := s.ep.ag.accs.filter fun q => q.stage == 1 && q.via == some key
        waits.foldl (fun s q => s.finish q.id stNO_MAPPING) s

/-- Ends a request with a status. -/
def State.completeReq (s : State) (r : Req) (timedOut : Bool) (status : Nat) (data : List Byte) (aux : Nat) (uncached : Bool) : State :=
  let s := s.endReq r timedOut
  let s := match r.for_ with
    | .xlate id => s.xlateDone id status data
    | .acc id => match s.access id with
      | some q => if q.usesCopy then s.cachedAnswer q status data uncached (r.resends != 0) else s.finish id status data aux (r.resends != 0)
      | none => s
  s.drive

/-- An answer fails its CRC at the requesting endpoint (R313). -/
def State.badAnswer (s : State) (r : Req) (k : Packet) : State :=
  let s := s.crcFail .ep k
  if !resendable r.pkt || r.bad != 0 then s.completeReq r false stINTEGRITY [] 0 false
  else
    let s := s.onEpReq r.tag fun r => { r with bad := 1 }
    if r.resends < 3 then s.resendReq r else s

/-- The request outstanding to which an answer belongs: its TAG and its ADDRESS. -/
def State.reqOf (s : State) (k : Packet) : Option Req := s.ep.reqs.find? fun r => r.tag == k.tag && r.pkt.addr == k.addr

/-- Whether a request is a translation-table read. -/
def Req.isXlate (r : Req) : Bool := match r.for_ with
  | .xlate _ => true
  | .acc _ => false

/-- Takes an answer for a request: a status that no part sends counts as a failed check (R474). -/
def State.takeAnswer (s : State) (r : Req) (k : Packet) : State :=
  if !crcOk k then s.badAnswer r k
  else if 0x0E ≤ k.status then
    (s.event .ep pgErr .e2eCrc (k.src + k.tag * 2 ^ 17) k.status).completeReq r false stINTEGRITY [] 0 false
  else s.completeReq r false k.status k.payload k.aux k.uncached

/-- Whether the first copy of a request still waits on a bridle: its times run from the tick at which that copy goes (R358, R362). -/
def State.unsent (s : State) (r : Req) : Bool := s.ep.rly.bridled.contains r.pkt

/-- Whether a request's timeout has come: an answer from T + REQ_TMO on finds the request completed TIMEOUT (R13, R358). -/
def State.reqLate (s : State) (r : Req) : Bool := s.due .ep r.first (s.get .ep EPC_REQ_TMO_TICKS) && !s.unsent r

/-- A request completes TIMEOUT (R358). -/
def State.reqExpire (s : State) (r : Req) : State := (s.count .ep DDP_RESEND_TIMEOUTS).completeReq r true stTIMEOUT [] 0 false

/-- An answer to no request: discarded; an INTEGRITY completion is counted (R313). -/
def State.strayAnswer (s : State) (k : Packet) : State :=
  if k.status == stINTEGRITY then s.count .ep HDR_ERR_COUNT_COUNT 1 0 pgErr else s

/-- An answer to a request of an access (`table` false) or of a table read. -/
def State.answerTo (s : State) (k : Packet) (table : Bool) : State :=
  match s.reqOf k with
  | some r =>
    if r.isXlate != table then s
    else if s.reqLate r then (s.reqExpire r).strayAnswer k
    else s.takeAnswer r k
  | none => if table then s else s.strayAnswer k

/-- ANSWER_RECEIVE (R358): the first answer completes the request; later ones, and answers to no request, are discarded, and an INTEGRITY completion of the latter kind is counted (R313). -/
def answerReceive (k : Packet) (s : State) : State := (s.consume .ep k).answerTo k false

def execAnswerReceive (k : Packet) (s : State) : Host.Outcome State Fault Refusal := .next (answerReceive k s)

/-- TABLE_READ_COMPLETE (R47): the answer to a translation-table read. -/
def tableReadComplete (k : Packet) (s : State) : State := (s.consume .ep k).answerTo k true

def execTableReadComplete (k : Packet) (s : State) : Host.Outcome State Fault Refusal := .next (tableReadComplete k s)

/-- GATHER_ROW_RECEIVE (R352): row k is written at LOCAL + k × row size. -/
def gatherRowReceive (k : Packet) (s : State) : State :=
  let s := s.consume .ep k
  match s.reqOf k with
  | some r =>
    if r.pkt.op != opGATHER then s
    else if s.reqLate r then s.reqExpire r
    else if !crcOk k then s.badAnswer r k
    else match r.for_ with
      | .acc id => match s.access id with
        | some q => (s.cmd q.queue q.index).elim s fun c => s.accWrite (c.localAddr + k.aux * k.len) k.payload
        | none => s
      | .xlate _ => s
  | none => s

def execGatherRowReceive (k : Packet) (s : State) : Host.Outcome State Fault Refusal := .next (gatherRowReceive k s)

/-! ### Timers (R357 to R360) -/

/-- RESEND_TIMER (R358): a quarter of REQ_TMO has passed once more without an answer; a request that may be resent is, while fewer than three resends have gone. -/
def resendTimer (tag : Nat) (s : State) : State :=
  match s.ep.reqs.find? (·.tag == tag) with
  | some r =>
    if s.reqLate r then s.reqExpire r
    else if r.times < 3 && s.due .ep r.first ((r.times + 1) * s.get .ep EPC_REQ_TMO_TICKS / 4) && !s.unsent r then
      let s := s.onEpReq tag fun r => { r with times := r.times + 1 }
      if resendable r.pkt && r.resends < 3 then s.resendReq r else s
    else s
  | none => s

def execResendTimer (tag : Nat) (s : State) : Host.Outcome State Fault Refusal := .next (resendTimer tag s)

/-- REQUEST_TIMEOUT (R358): at T + REQ_TMO the request completes TIMEOUT. -/
def requestTimeout (tag : Nat) (s : State) : State :=
  match s.ep.reqs.find? (·.tag == tag) with
  | some r => if s.reqLate r then s.reqExpire r else s
  | none => s

def execRequestTimeout (tag : Nat) (s : State) : Host.Outcome State Fault Refusal := .next (requestTimeout tag s)

/-- TAG_HOLD_EXPIRY (R357): 2 × REQ_TMO from the last copy, the tag is free again. -/
def tagHoldExpiry (tag : Nat) (s : State) : State :=
  match lookup s.ep.ag.held tag with
  | some t => if s.tagHeld t then s else (s.onAg fun a => { a with held := removeAt a.held tag }).drive
  | none => s

def execTagHoldExpiry (tag : Nat) (s : State) : Host.Outcome State Fault Refusal := .next (tagHoldExpiry tag s)

/-- OUTCOME_RELEASE_SEND (R360): one packet of up to 120 tags for one target, oldest first. -/
def outcomeReleaseSend (kind target : Nat) (s : State) : State :=
  let mine (r : Release) : Bool := r.kind == kind && r.target == target
  let go := (s.ep.ag.releases.filter mine).take 120
  if go.isEmpty then s
  else
    let a := targetForm kind target 0
    let k := sealPkt { dst := s.dstOf a, src := s.nodeId, tc := 4, op := opOUTCOME_RELEASE, addr := a, len := 2 * go.length,
                       payload := (go.map fun r => leBytes 2 r.tag).flatten }
    let s := s.onAg fun a => { a with releases := a.releases.filter fun r => !go.contains r }
    (s.count .ep DDP_RELEASE_SENT go.length).epInject k

def execOutcomeReleaseSend (kind target : Nat) (s : State) : Host.Outcome State Fault Refusal := .next (outcomeReleaseSend kind target s)

/-- DDP_RECORD_EXPIRY (R359): a record is removed HOLD ticks after the request was performed. -/
def ddpRecordExpiry (src tag : Nat) (s : State) : State :=
  if (s.outcomes .ep).any fun o => o.src == src && o.tag == tag && s.outLate .ep o then s.outExpire .ep src tag else s

def execDdpRecordExpiry (src tag : Nat) (s : State) : Host.Outcome State Fault Refusal := .next (ddpRecordExpiry src tag s)

/-! ### MEM_REQ (R46, R345) -/

/-- MEM_REQ: the accelerator's request number, its queue, the opcode (READ, WRITE, an atomic of R300, or CLEAN_EVICT for a line that the accelerator's caches give up), the accelerator address, the bytes, the data or operands, VOLATILE, and whether the accelerator asks for a coherent copy. DESIGN CHOICE, log 122. DEDUCED, log 136. -/
def memReq (id queue op addr len : Nat) (data : List Byte) (vol cached : Bool) (s : State) : State :=
  let ok : Bool := (op == opREAD || op == opWRITE || op == opCLEAN_EVICT || (isAtomic op && (atomicSize op data.length).isSome))
  let fits : Bool := 1 ≤ len && len ≤ 256 && addr / 256 == (addr + len - 1) / 256 && (op != opWRITE || data.length == len)
  if !s.uciUp then s
  else if !ok || !fits then s.memCpl id stUNSUPPORTED []
  else
    (s.addAcc { id := 0, queue := queue % 256, ord := s.newId, mem := some id, op := op, addr := addr, len := len, data := data,
                vol := vol, cached := cached && !isAtomic op }).drive

def execMemReq (id queue op addr len : Nat) (data : List Byte) (vol cached : Bool) (s : State) : Host.Outcome State Fault Refusal :=
  .next (memReq id queue op addr len data vol cached s)

/-! ### Snoops (R123) -/

/-- The answer to a snoop: 0 MISS, 1 ACK, 2 DATA with the line. DESIGN CHOICE, log 122. -/
def State.epSnoopAnswer (s : State) (k : Packet) (rsp : Nat) (data : List Byte) : State :=
  s.epForward 3 none (sealPkt { dst := landing k.src s.nodeId, src := s.nodeId, tc := 1, op := opSNP_RSP, tag := k.tag, addr := k.addr,
                                len := data.length, ctx := k.ctx, ptn := k.ptn, aux := rsp, payload := data })

/-- SNOOP_RECEIVE (R123): DATA for a line held modified, ACK for one held clean, MISS otherwise; SNP_INV takes the copy away, SNP_DATA leaves it shared. An access that still waits for a copy of the line keeps none. DESIGN CHOICE, log 123. -/
def snoopReceive (k : Packet) (s : State) : State :=
  let s := s.consume .ep k
  if !s.uciUp then s
  else if !crcOk k then (s.crcFail .ep k).reply .ep k stINTEGRITY
  else
    let line := epLine k.addr
    let s := s.onAg fun a =>
      { a with accs := a.accs.map fun q => if q.stage == 4 && q.usesCopy && epLine q.fab == line then { q with noKeep := true } else q }
    match lookup s.ep.ag.copies line with
    | none => s.epSnoopAnswer k 0 []
    | some c =>
      let s := s.onAg fun a =>
        { a with copies := if k.op == opSNP_INV then removeAt a.copies line else insertAt a.copies line { c with excl := false, dirty := false } }
      if c.dirty then s.epSnoopAnswer k 2 c.data else s.epSnoopAnswer k 1 []

def execSnoopReceive (k : Packet) (s : State) : Host.Outcome State Fault Refusal := .next (snoopReceive k s)

/-! ### Invalidations (R60) -/

/-- Whether an invalidation covers a cached entry: its partition, its context or all, its pages or all (R58). -/
def invalCovers (d : List Byte) (key : Nat) : Bool :=
  let w := natAt d 0 8
  let page := key % 2 ^ 31
  let ctx := key / 2 ^ 31 % 1024
  let ptn := key / 2 ^ 41
  let first := natAt d 8 8 / 2 ^ 21
  ptn == bitsOf w 16 6 && (bitsOf w 32 1 == 1 || ctx == bitsOf w 22 10)
    && (bitsOf w 33 1 == 1 || (first ≤ page && page < first + natAt d 16 4))

/-- Drops the cached entries that a test picks: what was translated with one and not yet sent is translated again, and a table read in progress is made again (R47, R60). -/
def State.atcDrop (s : State) (f : Nat → Bool) : State :=
  s.onAg fun a =>
    { a with atc := keepIf (fun k _ => !f k) a.atc,
             xlates := a.xlates.map fun x => if f x.key && x.tagged then { x with again := true } else x,
             accs := a.accs.map fun q =>
               if (q.stage == 2 || q.stage == 3) && q.via.any f then { q with stage := 0, via := none } else q }

/-- The accesses sent with an entry that a test picks and not yet complete. -/
def State.atcUsers (s : State) (f : Nat → Bool) : List Nat :=
  (s.ep.ag.accs.filter fun q => q.stage == 4 && q.via.any f).map (·.id)

/-- Whether any of some accesses is still there. -/
def State.anyLeft (s : State) (l : List Nat) : Bool := s.ep.ag.accs.any fun q => l.contains q.id

/-- INVAL_RECEIVE (R60): the matching entries are dropped; the acknowledgement waits for the requests sent with one. Those of one tick wait alike for the requests of all of them. PRESUMED, log 137. -/
def invalReceive (k : Packet) (s : State) : State :=
  let s := s.consume .ep k
  if !crcOk k then (s.crcFail .ep k).reply .ep k stINTEGRITY
  else
    let f (key : Nat) : Bool := invalCovers k.payload key
    let now := s.now .ep
    let users := s.atcUsers f ++ ((s.ep.ag.invals.filter fun e => e.2.1 == now).map (·.2.2)).flatten
    ((s.atcDrop f).onAg fun a =>
      { a with invals := (a.invals.map fun e => if e.2.1 == now then (e.1, now, users) else e) ++ [(k, now, users)] }).drive

def execInvalReceive (k : Packet) (s : State) : Host.Outcome State Fault Refusal := .next (invalReceive k s)

/-- INVAL_ACK_SEND (R60): the oldest invalidation whose requests have all completed is acknowledged on TC4. -/
def invalAckSend (s : State) : State :=
  match s.ep.ag.invals.find? fun e => !s.anyLeft e.2.2 with
  | none => s
  | some e =>
    let k := e.1
    let s := s.onAg fun a => { a with invals := a.invals.erase e }
    s.epForward 3 none (sealPkt { dst := landing k.src s.nodeId, src := s.nodeId, tc := 4, op := opINVAL_ACK, tag := k.tag,
                                  addr := targetForm 1 k.src 0, ptn := k.ptn, ctx := k.ctx })

def execInvalAckSend (s : State) : Host.Outcome State Fault Refusal := .next (invalAckSend s)

end Sys2Proof.Machine
end

