-- ==== Sys2Proof/Machine/Windows.lean ====
section
/-! DEFINITION. Inbound windows and grants (R51 to R56), the registers of apertures, windows and counter ranges that check what they take (R48, R49, R55, R65 to R68), and the accelerator's answers (R345, R346). -/

namespace Sys2Proof.Machine

/-! ### The window check (R52 to R54) -/

/-- The key of a cached sub-table entry: window and page. -/
def subKey (win page : Nat) : Nat := win * 2 ^ 15 + page

/-- The valid grant entry of a window and context: R, W, A as bits (R52). -/
def State.grantOf (s : State) (win ctx : Nat) : Option Nat :=
  (s.epc.regs.find? fun e =>
    e.1 % 2 ^ 24 == WIN_GNT_ENTRY.page * 4096 + WIN_GNT_ENTRY.off && getBits e.2 0 1 == 1 && getBits e.2 4 9 == win
      && getBits e.2 13 10 == ctx).map fun e => getBits e.2 1 3

/-- The permissions of a context on a window: its grant, else the defaults. -/
def State.winPerm (s : State) (win ctx : Nat) : Nat :=
  (s.grantOf win ctx).getD (getBits (s.rd .ep WIN_WIN_CTL (win + 1)) 2 3)

/-- The bit of the permission that an opcode needs: 0 read, 1 write, 2 atomic. -/
def permBit (op : Nat) : Nat := if op == opREAD then 0 else if op == opWRITE then 1 else 2

/-- The bytes that a window request touches. -/
def touched (k : Packet) : Nat := if isAtomic k.op then (atomicSize k.op k.len).getD 0 else k.len

/-- The first check of R39 and R54 that a window-space request fails, if any. DEDUCED, log 133. -/
def State.winRefusal (s : State) (k : Packet) : Option Nat :=
  match placeOf k.addr with
  | .window _ w off =>
    let n := touched k
    let b := w + 1
    if !(k.op == opREAD || k.op == opWRITE || (isAtomic k.op && (atomicSize k.op k.len).isSome)) then some stUNSUPPORTED
    else if !inBlock off n || (isAtomic k.op && off % n != 0) then some stUNSUPPORTED
    else if !s.flag .ep WIN_WIN_CTL_VALID b then some stNO_MAPPING
    else if s.get .ep WIN_WIN_CTL_PARTITION b != k.ptn then some stPERMISSION
    else if (s.get .ep WIN_WIN_SIZE_PAGES_M1 b + 1) * 2 ^ 21 < off + n then some stNO_MAPPING
    else if !(s.winPerm w k.ctx).testBit (permBit k.op) then some stPERMISSION
    else none
  | _ => some stUNSUPPORTED

/-- The local address of an offset, when the window has it: LBASE, or the cached sub-table entry (R53). -/
def State.winLocal (s : State) (w off : Nat) : Option Nat :=
  if !s.flag .ep WIN_WIN_CTL_SUBTBL_EN (w + 1) then some (s.get .ep WIN_WIN_LBASE_LBASE (w + 1) * 2 ^ 21 + off)
  else (lookup s.ep.ag.wcache (subKey w (off / 2 ^ 21))).map fun e => getBits e 21 31 * 2 ^ 21 + off % 2 ^ 21

/-- Removes a window request. -/
def State.dropWin (s : State) (id : Nat) : State := s.onAg fun a => { a with wins := a.wins.filter fun w => w.id != id }

/-- Performs an accepted window request over UCIe (R54, R92): a read or an atomic asks the accelerator, a write is sent and completes. A non-idempotent one keeps its outcome (R359). DEDUCED, log 134. -/
def State.winPerform (s : State) (x : WinReq) (addr : Nat) : State :=
  let k := x.pkt
  let page := k.addr.toNat / 2 ^ 21 * 2 ^ 21
  let s := (s.dropWin x.id).acnHit 1 (x.win * 2 ^ 43 + getBits k.addr 21 15) page
  let ask (s : State) : State := s.onAg fun a => { a with wins := a.wins ++ [{ x with waiting := false }] }
  if k.op == opREAD then (ask s).accRead (.window x.id) addr k.len
  else if k.op == opWRITE then
    if k.vol then s.room .ep k fun s => ((s.accWrite addr k.payload).keepOutcome .ep k stOK [] 0).reply .ep k stOK
    else (s.accWrite addr k.payload).reply .ep k stOK
  else s.room .ep k fun s =>
    let id := s.newId
    let n := touched k
    let s := (ask s).tookId.onAg fun a => { a with ops := a.ops ++ [⟨id, .window x.id, k.op, addr, n, s.now .ep⟩] }
    s.emit (.accAtomic id addr k.op n k.payload)

/-- Reads a sub-table entry, unless the read is in progress (R53). DESIGN CHOICE, log 125. -/
def State.subFill (s : State) (key : Nat) : State :=
  if s.ep.ag.wfills.contains key then s
  else
    let w := key / 2 ^ 15
    (s.onAg fun a => { a with wfills := a.wfills ++ [key] }).accRead (.subtbl key)
      (s.get .ep WIN_WIN_SUBTBL_SUBTBL (w + 1) * 8 + 8 * (key % 2 ^ 15)) 8

/-- WINDOW_REQUEST (R54): checked, then performed, or rejected with the status of the first check that fails. DEDUCED, log 133. -/
def windowRequest (k : Packet) (s : State) : State :=
  let s := s.consume .ep k
  let ni := nonIdempotent k
  let run (s : State) : State :=
    match s.winRefusal k with
    | some st =>
      let s := s.when (st == stPERMISSION && (match placeOf k.addr with
        | .window _ w _ => s.get .ep WIN_WIN_CTL_PARTITION (w + 1) != k.ptn
        | _ => false)) fun s => s.count .ep HDR_ERR_COUNT_COUNT 1 0 pgWin
      let crossed : Bool := match placeOf k.addr with
        | .window _ _ off => !inBlock off (touched k)
        | _ => false
      (s.when crossed fun s => s.event .ep pgErr .reqMalformed k.src k.op).reply .ep k st
    | none =>
      let w := getBits k.addr 36 9
      let off := getBits k.addr 0 36
      let key := if s.flag .ep WIN_WIN_CTL_SUBTBL_EN (w + 1) then some (subKey w (off / 2 ^ 21)) else none
      let x : WinReq := { id := s.newId, pkt := k, win := w, key := key, waiting := true }
      let s := s.tookId.onAg fun a => { a with wins := a.wins ++ [x] }
      match s.winLocal w off with
      | some addr => s.winPerform x addr
      | none => s.subFill (subKey w (off / 2 ^ 21))
  if !s.uciUp then s.reply .ep k stUNREACHABLE
  else if !crcOk k then (s.crcFail .ep k).reply .ep k stINTEGRITY
  else if ni && s.ep.ag.wins.any fun x => x.pkt.src == k.src && x.pkt.tag == k.tag then s.countHit .ep
  else if ni then s.dedup .ep k run else run s

def execWindowRequest (k : Packet) (s : State) : Host.Outcome State Fault Refusal := .next (windowRequest k s)

/-! ### The accelerator's answers (R345, R346) -/

/-- A sub-table read has ended: a good entry is kept in the cache of 2,048 (a full cache gives up an entry that a free value picks); the requests that wait for it go on, or complete NO_MAPPING (R53, R54). DEDUCED, log 126. -/
def State.subDone (s : State) (key : Nat) (entry : Option Word) : State :=
  let s := s.onAg fun a => { a with wfills := a.wfills.filter (· != key) }
  let waits := s.ep.ag.wins.filter fun x => x.waiting && x.key == some key
  let good := entry.filter fun e => e.getLsbD 0 && s.flag .ep WIN_WIN_CTL_VALID (key / 2 ^ 15 + 1)
  match good with
  | some e =>
    let victim := (s.ep.ag.wcache.getD (s.draw % 2048) (0, 0)).1
    let s := if 2048 ≤ s.ep.ag.wcache.length then (s.onAg fun a => { a with wcache := removeAt a.wcache victim }).drawn else s
    let s := s.onAg fun a => { a with wcache := insertAt a.wcache key e }
    waits.foldl (fun s x => match s.winLocal x.win (getBits x.pkt.addr 0 36) with
      | some addr => s.winPerform x addr
      | none => (s.dropWin x.id).reply .ep x.pkt stNO_MAPPING) s
  | none => waits.foldl (fun s x => (s.dropWin x.id).reply .ep x.pkt stNO_MAPPING) s

/-- An accelerator access has ended: `status` OK with its data, or the status that the request concerned takes (R346). DEDUCED, log 121. -/
def State.accDone (s : State) (o : AccOp) (status : Nat) (data : List Byte) : State :=
  let s := s.onAg fun a => { a with ops := a.ops.filter fun x => x.id != o.id }
  let s := match o.for_ with
    | .data id =>
      if status == stOK then s.onAcc id fun q => { q with hasData := true, data := slice data 0 o.len } else s.finish id status
    | .memb q i kind a b => if status == stOK then s.membData q i kind a b (slice data 0 o.len) else s.membFault q i
    | .subtbl key => s.subDone key (if status == stOK then some (BitVec.ofNat 64 (natAt data 0 8)) else none)
    | .window id => match s.ep.ag.wins.find? fun (x : WinReq) => x.id == id with
      | none => s
      | some x =>
        let s := s.dropWin id
        let d := if status == stOK && (o.op == 0 || returnsOld o.op) then slice data 0 o.len else []
        -- one that timed out may have been performed: its resend gets the same answer (R97)
        let s := s.when ((status == stOK || status == stTIMEOUT) && nonIdempotent x.pkt) fun s => s.keepOutcome .ep x.pkt status d 0
        s.reply .ep x.pkt status d
  s.drive

/-- An accelerator access that has no answer within ACC_TMO: the request concerned completes TIMEOUT, and the access is counted (R346). DEDUCED, log 140. -/
def State.accExpire (s : State) (o : AccOp) : State :=
  let s := (s.count .ep UCI_ERR_ACC_TIMEOUT).event .ep pgUci .accTimeout o.addr
  s.accDone o stTIMEOUT []

/-- Whether an accelerator access is out of time (R13, R346). -/
def State.accLate (s : State) (o : AccOp) : Bool := s.due .ep o.at_ (s.get .ep UCI_CFG_ACC_TMO)

/-- ACC_CPL (R346): the accelerator's answer: 0 OK, 1 FAULT, 2 UNSUPPORTED. A late answer finds nothing and is discarded. -/
def accCpl (id answer : Nat) (data : List Byte) (s : State) : State :=
  match s.ep.ag.ops.find? fun o => o.id == id with
  | some o =>
    if s.accLate o then s.accExpire o
    else s.accDone o (if answer == 0 then stOK else if answer == 1 then stINTEGRITY else stUNSUPPORTED) data
  | none => s

def execAccCpl (id answer : Nat) (data : List Byte) (s : State) : Host.Outcome State Fault Refusal := .next (accCpl id answer data s)

/-- ACC_TIMEOUT (R346): no answer within ACC_TMO. -/
def accTimeout (id : Nat) (s : State) : State :=
  match s.ep.ag.ops.find? fun o => o.id == id with
  | some o => if s.accLate o then s.accExpire o else s
  | none => s

def execAccTimeout (id : Nat) (s : State) : Host.Outcome State Fault Refusal := .next (accTimeout id s)

/-- DISCARD_ACK (R84): the acquire that asked for the DISCARD completes. -/
def discardAck (id : Nat) (s : State) : State :=
  match lookup s.ep.ag.discards id with
  | some (q, i) =>
    let s := s.onAg fun a => { a with discards := removeAt a.discards id }
    match s.cmd q i with
    | some c => ((s.onCmd q i fun c => { c with phase := 0 }).cmdDone q i stOK c.value c.verdict).drive
    | none => s
  | none => s

def execDiscardAck (id : Nat) (s : State) : Host.Outcome State Fault Refusal := .next (discardAck id s)

/-! ### Window registers (R51, R52, R55) -/

/-- The window that WIN_SEL names. -/
def State.winSel (s : State) : Nat := s.get .ep WIN_WIN_SEL_WINDOW

/-- Drops the cached sub-table entries that a test picks; a read of one that is in progress is made again (R55). -/
def State.subDrop (s : State) (f : Nat → Bool) : State :=
  let redo := s.ep.ag.wfills.filter f
  let s := s.onAg fun a =>
    { a with wcache := keepIf (fun k _ => !f k) a.wcache, wfills := a.wfills.filter fun k => !f k,
             ops := a.ops.filter fun o => match o.for_ with
               | .subtbl k => !f k
               | _ => true }
  redo.foldl (fun s k => s.subFill k) s

/-- Closes a window: VALID alone changes, its cached entries and the sub-table reads in progress go, and the requests that wait for one complete NO_MAPPING (R49, R54, R55). -/
def State.closeWindow (s : State) (w : Nat) : State :=
  let mine (k : Nat) : Bool := k / 2 ^ 15 == w
  let waits := s.ep.ag.wins.filter fun x => x.waiting && x.win == w
  let s := (s.put .ep WIN_WIN_CTL_VALID 0 (w + 1)).onAg fun a =>
    { a with wcache := keepIf (fun k _ => !mine k) a.wcache, wfills := a.wfills.filter fun k => !mine k,
             ops := a.ops.filter fun o => match o.for_ with
               | .subtbl k => !mine k
               | _ => true }
  waits.foldl (fun s x => (s.dropWin x.id).reply .ep x.pkt stNO_MAPPING) s

/-- WIN_CTL of the selected window written (R51, R55). DEDUCED, log 135. -/
def State.setWinCtl (s : State) (v : Word) : Written :=
  let w := s.winSel
  let ptn := getBits v 5 6
  if s.flag .ep WIN_WIN_CTL_VALID (w + 1) then
    if v.getLsbD 0 then s.refused .ep pgWin else (s.closeWindow w, true)
  else if v.getLsbD 0 && !(s.rd .ep CTX_PTN_MASK).getLsbD ptn then s.refused .ep pgWin
  else (s.wr .ep WIN_WIN_CTL (BitVec.ofNat 64 (getBits v 0 11)) (w + 1), true)

/-- WIN_VALID_SET (R51): WIN_CTL of the selected window written with VALID set. -/
def winValidSet (path : Path) (v : Word) (s : State) : State :=
  s.writeBy path .ep pgWin 0x48 fun s => s.setWinCtl (setBits v 0 1 1)

def execWinValidSet (path : Path) (v : Word) (s : State) : Host.Outcome State Fault Refusal := .next (winValidSet path v s)

/-- WIN_VALID_CLEAR (R55): WIN_CTL of the selected window written with VALID clear. -/
def winValidClear (path : Path) (v : Word) (s : State) : State :=
  s.writeBy path .ep pgWin 0x48 fun s => s.setWinCtl (setBits v 0 1 0)

def execWinValidClear (path : Path) (v : Word) (s : State) : Host.Outcome State Fault Refusal := .next (winValidClear path v s)

/-- A register of the selected window other than WIN_CTL written: ignored and recorded while the window is open (R55). -/
def State.setWinReg (s : State) (r : Reg) (v : Word) : Written :=
  let w := s.winSel
  if s.flag .ep WIN_WIN_CTL_VALID (w + 1) then s.refused .ep pgWin else (s.wr .ep r v (w + 1), true)

/-- GNT_ENTRY of the selected entry written: a duplicate of another valid entry is refused (R52). -/
def State.setGrant (s : State) (v : Word) : Written :=
  let e := s.get .ep WIN_GNT_SEL_ENTRY
  let dup : Bool := s.epc.regs.any fun x =>
    x.1 % 2 ^ 24 == WIN_GNT_ENTRY.page * 4096 + WIN_GNT_ENTRY.off && x.1 != WIN_GNT_ENTRY.key (e + 1) 0
      && getBits x.2 0 1 == 1 && getBits x.2 4 19 == getBits v 4 19
  if v.getLsbD 0 && dup then s.refused .ep pgWin
  else (s.wr .ep WIN_GNT_ENTRY (BitVec.ofNat 64 (getBits v 0 23)) (e + 1), true)

/-- GNT_VALID_SET (R52). -/
def gntValidSet (path : Path) (v : Word) (s : State) : State :=
  s.writeBy path .ep pgWin 0x88 fun s => s.setGrant (setBits v 0 1 1)

def execGntValidSet (path : Path) (v : Word) (s : State) : Host.Outcome State Fault Refusal := .next (gntValidSet path v s)

/-- Whether a WIN_INV write covers a cached sub-table entry: ALL, or its window and page (R55, R56). -/
def winInvCovers (v : Word) (key : Nat) : Bool :=
  let page := key % 2 ^ 15
  let first := getBits v 9 15
  let n := getBits v 24 16
  v.getLsbD 62 || (key / 2 ^ 15 == getBits v 0 9 && first ≤ page && (n == 0 || page < first + n))

/-- Whether the last WIN_INV is still in progress: a request that uses an entry it dropped remains. -/
def State.winInvBusy (s : State) : Bool := s.ep.ag.wins.any fun x => s.ep.ag.winInv.contains x.id

/-- WIN_INV written (R55). DEDUCED, log 126. -/
def State.setWinInv (s : State) (v : Word) : Written :=
  if s.winInvBusy then s.refused .ep pgWin
  else
    let f (key : Nat) : Bool := winInvCovers v key
    let users := (s.ep.ag.wins.filter fun x => !x.waiting && x.key.any f).map fun x => x.id
    let s := s.wr .ep WIN_WIN_INV (setBits (setBits v 40 22 0) 63 1 0)
    ((s.subDrop f).onAg fun a => { a with winInv := users }, true)

/-- WIN_INV_WRITE (R55). -/
def winInvWrite (path : Path) (v : Word) (s : State) : State :=
  s.writeBy path .ep pgWin 0xA0 fun s => s.setWinInv v

def execWinInvWrite (path : Path) (v : Word) (s : State) : Host.Outcome State Fault Refusal := .next (winInvWrite path v s)

/-! ### Aperture registers (R48, R49, R50) -/

/-- Whether two ranges of first place and length overlap. -/
def rangesMeet (a n b m : Nat) : Bool := a < b + m && b < a + n

/-- The conditions of R48 on setting VALID of an aperture. A control target of R41 is one part's 16 MiB: whether the address names a part that exists is left to the target. DESIGN CHOICE, log 186. -/
def State.apRefused (s : State) (n : Nat) (paged : Bool) : Bool :=
  let t := s.apTarget n
  let size := s.apSize n
  let clash : Bool := (upTo 64).any fun m =>
    m != n && s.flag .ep (apF APT_AP_CTL_VALID m) && rangesMeet (s.apBase n) size (s.apBase m) (s.apSize m)
  let last := t + size - 1
  let sp := t / 2 ^ 62
  let bad : Bool :=
    if paged then t % 8 != 0 || sp != 1
    else t % 4096 != 0 || (if sp == 0 then t / 2 ^ 36 != last / 2 ^ 36 else if sp == 1 then t / 2 ^ 40 != last / 2 ^ 40
      else if sp == 2 then t / 2 ^ 24 != last / 2 ^ 24 else true)
  clash || bad

/-- The offset of a register of aperture n. -/
def apOff (n off : Nat) : Nat := 0x100 + 0x20 * n + off

/-- AP_CTL of aperture n written (R48, R49). DEDUCED, log 135. -/
def State.setApCtl (s : State) (n : Nat) (v : Word) : Written :=
  let r : Reg := (apF APT_AP_CTL_VALID n).reg
  if s.flag .ep (apF APT_AP_CTL_VALID n) then
    if v.getLsbD 0 then s.refused .ep pgApt
    else
      let base := s.apBase n / 2 ^ 21
      let size := s.apSize n / 2 ^ 21
      let ctx := s.get .ep (apF APT_AP_CTL_CTX n)
      let mine (key : Nat) : Bool := key / 2 ^ 31 % 1024 == ctx && base ≤ key % 2 ^ 31 && key % 2 ^ 31 < base + size
      let s := s.put .ep (apF APT_AP_CTL_VALID n) 0
      let s := s.onAg fun a =>
        { a with atc := keepIf (fun k _ => !mine k) a.atc, xlates := a.xlates.filter fun x => x.apt != n,
                 accs := a.accs.map fun q =>
                   if (q.stage == 2 || q.stage == 3) && q.apt == some n then { q with stage := 0, via := none } else q }
      (s.drive, true)
  else if v.getLsbD 0 && s.apRefused n (v.getLsbD 1) then s.refused .ep pgApt
  else (s.wr .ep r (BitVec.ofNat 64 (getBits v 0 4 + getBits v 6 10 * 64)), true)

/-- AP_VALID_SET (R48): AP_CTL of aperture n written with VALID set. -/
def apValidSet (path : Path) (n : Nat) (v : Word) (s : State) : State :=
  s.writeBy path .ep pgApt (apOff (n % 64) 0) fun s => s.setApCtl (n % 64) (setBits v 0 1 1)

def execApValidSet (path : Path) (n : Nat) (v : Word) (s : State) : Host.Outcome State Fault Refusal := .next (apValidSet path n v s)

/-- AP_VALID_CLEAR (R49): AP_CTL of aperture n written with VALID clear. -/
def apValidClear (path : Path) (n : Nat) (v : Word) (s : State) : State :=
  s.writeBy path .ep pgApt (apOff (n % 64) 0) fun s => s.setApCtl (n % 64) (setBits v 0 1 0)

def execApValidClear (path : Path) (n : Nat) (v : Word) (s : State) : Host.Outcome State Fault Refusal := .next (apValidClear path n v s)

/-- Another register of an aperture written: ignored and recorded while the aperture is valid (R48). -/
def State.setApReg (s : State) (n : Nat) (r : Reg) (v : Word) : Written :=
  if s.flag .ep (apF APT_AP_CTL_VALID n) then s.refused .ep pgApt
  else (s.wr .ep { r with off := r.off + 0x20 * n } v, true)

/-- Drops the whole ATC, with the completion rule of R55: the flush is busy while a request sent with a dropped entry remains. -/
def State.atcFlush (s : State) : State :=
  let users := s.atcUsers fun _ => true
  ((s.atcDrop fun _ => true).onAg fun a => { a with flush := users }).drive

/-- ATC_FLUSH (R50): 1 written to APT.ATC_CTL.FLUSH. -/
def atcFlush (path : Path) (s : State) : State := s.writeBy path .ep pgApt 0x40 fun s => (s.atcFlush, true)

def execAtcFlush (path : Path) (s : State) : Host.Outcome State Fault Refusal := .next (atcFlush path s)

/-! ### Access-counter registers (R65 to R69) -/

/-- ACN_CTL written: setting ENABLE zeroes RING_DROP, ACN_EPOCH_NUM and every count, and opens the first epoch (R66, R69). -/
def State.setAcnCtl (s : State) (v : Word) : State :=
  let was := s.flag .ep ACN_ACN_CTL_ENABLE
  let s := s.wr .ep ACN_ACN_CTL (BitVec.ofNat 64 (getBits v 0 3))
  s.when (v.getLsbD 0 && !was) fun s =>
    ((s.put .ep ACN_RING_DROP_DROPS 0).put .ep ACN_ACN_EPOCH_NUM_NUM 0).onAg fun a =>
      { a with counts := [], recorded := [], epochAt := s.now .ep }

/-- ACN_ENABLE_WRITE (R66). -/
def acnEnableWrite (path : Path) (v : Word) (s : State) : State :=
  s.writeBy path .ep pgAcn 0x40 fun s => (s.setAcnCtl v, true)

def execAcnEnableWrite (path : Path) (v : Word) (s : State) : Host.Outcome State Fault Refusal := .next (acnEnableWrite path v s)

/-- ACN_EPOCH_EXPIRY (R66): the epoch ends and the next begins with every count and flag at zero. -/
def acnEpochExpiry (s : State) : State := s.acnRoll

def execAcnEpochExpiry (s : State) : Host.Outcome State Fault Refusal := .next (acnEpochExpiry s)

/-- The conditions of R65 on setting VALID of a counter range. -/
def State.rngRefused (s : State) (r kind : Nat) : Bool :=
  let slot (q : Nat) : Nat := s.get .ep (rngF ACN_RNG_SLOT_FIRST_SLOT q)
  let pages (q : Nat) : Nat := s.get .ep (rngF ACN_RNG_PAGES_PAGES_M1 q) + 1
  let first (q k : Nat) : Nat :=
    let b := s.get .ep (rngF ACN_RNG_BASE_BASE q)
    if k == 1 then bitsOf b 0 9 * 2 ^ 43 + bitsOf b 9 15 else b / 2 ^ 21
  262144 < slot r + pages r || (upTo 16).any fun q =>
    q != r && s.flag .ep (rngF ACN_RNG_CTL_VALID q) &&
      (rangesMeet (slot r) (pages r) (slot q) (pages q)
        || (s.get .ep (rngF ACN_RNG_CTL_KIND q) == kind && rangesMeet (first r kind) (pages r) (first q kind) (pages q)))

/-- RNG_CTL of range r written (R65). DEDUCED, log 135. -/
def State.setRange (s : State) (r : Nat) (v : Word) : Written :=
  if v.getLsbD 0 && s.rngRefused r (getBits v 1 1) then s.refused .ep pgAcn
  else (s.wr .ep (rngF ACN_RNG_CTL_VALID r).reg (BitVec.ofNat 64 (getBits v 0 18)), true)

/-- RANGE_VALID_SET (R65). -/
def rangeValidSet (path : Path) (r : Nat) (v : Word) (s : State) : State :=
  s.writeBy path .ep pgAcn (apOff (r % 16) 0) fun s => s.setRange (r % 16) (setBits v 0 1 1)

def execRangeValidSet (path : Path) (r : Nat) (v : Word) (s : State) : Host.Outcome State Fault Refusal := .next (rangeValidSet path r v s)

end Sys2Proof.Machine
end

