-- ==== Sys2Proof/Machine/Queues.lean ====
section
/-! DEFINITION. The endpoint's command queues (R348 to R353): their registers, the fetch of descriptors, the meaning of each command, and its completion. -/

namespace Sys2Proof.Machine

/-! ### Queue registers (R348, R369) -/

/-- The state of a queue: 0 DISABLED, 1 RUNNING, 2 STOPPED. -/
def State.queueState (s : State) (q : Nat) : Nat := s.get .ep QUE_Q_STS_STATE (q + 1)

/-- Sets the state of a queue and its reason: 0 none, 1 OVERRUN, 2 FETCH, 3 UCIE_DOWN. -/
def State.setQueueState (s : State) (q st reason : Nat) : State :=
  (s.put .ep QUE_Q_STS_STATE st (q + 1)).put .ep QUE_Q_STS_REASON reason (q + 1)

/-- TAIL written, by software or by a DOORBELL: more than 2^n commands beyond DONE stop the queue (R348). -/
def State.setTail (s : State) (q v : Nat) : State :=
  let s := s.put .ep QUE_Q_TAIL_INDEX v (q + 1)
  let ahead := (v % 2 ^ 32 + 2 ^ 32 - s.get .ep QUE_Q_DONE_INDEX (q + 1)) % 2 ^ 32
  if 2 ^ s.get .ep QUE_Q_CFG_LOG2_SIZE (q + 1) < ahead then s.setQueueState q 2 1 else s

/-- DOORBELL (R345): writes Q_TAIL of one queue. -/
def doorbell (q v : Nat) (s : State) : State := if s.uciUp then s.setTail (q % 256) v else s

def execDoorbell (q v : Nat) (s : State) : Host.Outcome State Fault Refusal := .next (doorbell q v s)

/-- The queue that QSEL names. -/
def State.queueSel (s : State) : Nat := s.get .ep QUE_QSEL_QUEUE

/-- Q_TAIL_WRITE (R348): TAIL of the selected queue. -/
def qTailWrite (path : Path) (v : Nat) (s : State) : State :=
  s.writeBy path .ep pgQue 0x68 fun s => (s.setTail s.queueSel v, true)

def execQTailWrite (path : Path) (v : Nat) (s : State) : Host.Outcome State Fault Refusal := .next (qTailWrite path v s)

/-- A value as a range stores it. -/
def clamp (lo hi v : Nat) : Nat := max lo (min hi v)

/-- Q_CFG of the selected queue written: ENABLE needs a bound context; while it is 1 only a write that clears it is taken; clearing it is the way out of STOPPED (R348, R369). DEDUCED, log 117. -/
def State.setQueueCfg (s : State) (v : Word) : Written :=
  let q := s.queueSel
  let v := setBits v 1 5 (clamp 4 16 (getBits v 1 5))
  let v := setBits v 16 2 (min 2 (getBits v 16 2))
  let v := setBits v 19 4 (max 1 (getBits v 19 4))
  let v : Word := BitVec.ofNat 64 (getBits v 0 23)
  let was := s.flag .ep QUE_Q_CFG_ENABLE (q + 1)
  if v.getLsbD 0 then
    if was || (s.epCtxPtn (getBits v 6 10)).isNone then s.refused .ep pgQue
    else
      let s := s.wr .ep QUE_Q_CFG v (q + 1)
      (if s.queueState q == 2 then s else s.setQueueState q 1 0, true)
  else
    let s := s.wr .ep QUE_Q_CFG v (q + 1)
    (if was || s.queueState q == 2 then s.setQueueState q 0 0 else s, true)

/-- Q_ENABLE_WRITE (R348): Q_CFG of the selected queue written. -/
def qEnableWrite (path : Path) (v : Word) (s : State) : State :=
  s.writeBy path .ep pgQue 0x48 fun s => s.setQueueCfg v

def execQEnableWrite (path : Path) (v : Word) (s : State) : Host.Outcome State Fault Refusal := .next (qEnableWrite path v s)

/-- Q_BASE, Q_CPL or Q_DONE_ADDR of the selected queue written: ignored and recorded while ENABLE is 1 (R369). -/
def State.setQueueReg (s : State) (r : Reg) (v : Word) : Written :=
  let q := s.queueSel
  if s.flag .ep QUE_Q_CFG_ENABLE (q + 1) then s.refused .ep pgQue else (s.wr .ep r v (q + 1), true)

/-! ### Fetching (R349, R350) -/

/-- The fields that a descriptor's opcode uses are defined, and the others are zero (R349). DEDUCED, log 115. -/
def Cmd.wellFormed (c : Cmd) : Bool :=
  let op := c.op
  let sub := c.subop
  let moves := op == 1 || op == 2 || op == 3
  let table := op == 6 || op == 7
  let wide := op == 3 && sub == opCAS && c.length == 16
  let zero (b : Bool) (n : Nat) : Bool := b || n == 0
  let w0 := c.w 0
  let heads := decide (op ≤ 9) && (if op == 3 then isAtomic sub else if op == 4 then decide (sub ≤ 4) else sub == 0)
    && zero (moves || table) (bitsOf w0 16 1) && zero moves (bitsOf w0 17 1) && zero (op == 4 || c.signalEn) (bitsOf w0 18 2)
    && zero c.signalEn (bitsOf w0 22 12) && bitsOf w0 34 30 == 0
  let addrs := zero (moves || table || op == 4) (c.w 1) || (op == 5 && bitsOf (c.w 1) 40 24 == 0)
  let locals := bitsOf (c.w 2) 52 12 == 0 && zero (op == 1 || op == 2 || op == 5 || table || wide) (c.w 2)
  let lens := bitsOf (c.w 3) 40 24 == 0 && zero (moves || op == 5 || table) (c.w 3)
  let opers := zero ((op == 3 && !wide) || (op == 4 && sub != 2)) (c.w 4) || (op == 5 && bitsOf (c.w 4) 32 32 == 0)
  let swaps := zero ((op == 3 && sub == opCAS && !wide) || op == 5 || op == 6) (c.w 5)
  let waits := bitsOf (c.w 6) 34 30 == 0 && zero (op == 4 && sub == 3) (c.w 6)
  heads && addrs && locals && lens && opers && swaps && waits && c.w 7 == 0

/-- Whether a queue has a descriptor to fetch: RUNNING, with HEAD behind TAIL, and the attachment up. DEDUCED, log 117. -/
def State.mayFetch (s : State) (q : Nat) : Bool :=
  s.uciUp && s.queueState q == 1 && s.get .ep QUE_Q_HEAD_INDEX (q + 1) != s.get .ep QUE_Q_TAIL_INDEX (q + 1)

/-- The place of an index in a queue's ring. -/
def State.ringPlace (s : State) (q i : Nat) : Nat := i % 2 ^ s.get .ep QUE_Q_CFG_LOG2_SIZE (q + 1)

/-- Asks the accelerator for the descriptor at HEAD. -/
def State.askDesc (s : State) (q : Nat) : State :=
  let h := s.get .ep QUE_Q_HEAD_INDEX (q + 1)
  s.tookId.emit (.accRd s.newId (s.get .ep QUE_Q_BASE_BASE (q + 1) * 4096 + 64 * s.ringPlace q h) 64)

/-- DESCRIPTOR_FETCH (R350): the descriptor at HEAD, read by ACC_RD, with the eight words that the accelerator answers. A reserved OP or SUBOP, or a nonzero unused field, completes UNSUPPORTED. DESIGN CHOICE, log 114. DEDUCED, log 116. -/
def descriptorFetch (q : Nat) (desc : List Word) (s : State) : State :=
  let q := q % 256
  if !s.mayFetch q then s
  else
    let h := s.get .ep QUE_Q_HEAD_INDEX (q + 1)
    let c : Cmd := { queue := q, index := h, desc := (upTo 8).map fun k => desc.getD k 0 }
    let c := if c.wellFormed then c else { c with stage := 2, status := stUNSUPPORTED }
    let s := (s.askDesc q).addWrap .ep QUE_Q_HEAD_INDEX 1 (q + 1)
    { s with ep := { s.ep with cmds := s.ep.cmds ++ [c] } }

def execDescriptorFetch (q : Nat) (desc : List Word) (s : State) : Host.Outcome State Fault Refusal := .next (descriptorFetch q desc s)

/-- DESCRIPTOR_FETCH_FAIL (R350): the queue stops with reason FETCH. DESIGN CHOICE, log 114. -/
def descriptorFetchFail (q : Nat) (s : State) : State :=
  let q := q % 256
  if s.mayFetch q then (s.askDesc q).setQueueState q 2 2 else s

def execDescriptorFetchFail (q : Nat) (s : State) : Host.Outcome State Fault Refusal := .next (descriptorFetchFail q s)

/-! ### Issue (R350) -/

/-- The command that a queue issues next: its first one that has been fetched and not issued, unless the queue does not run, an earlier acquire is outstanding, FENCE holds it, or a bridle holds the queue (R349, R350, R362). DESIGN CHOICE, log 118. -/
def State.nextCmd (s : State) (q : Nat) : Option Cmd :=
  match s.ep.cmds.find? fun c => c.queue == q && c.stage == 0 with
  | none => none
  | some c =>
    let before := s.ep.cmds.filter fun e => e.queue == q && e.stage == 1
    if s.uciUp && s.queueState q == 1 && !(before.any Cmd.blocks) && !(c.fence && !before.isEmpty) && !s.queueHeld q then some c else none

/-- The queues with a command ready. -/
def State.readyQueues (s : State) : List Nat := ((s.ep.cmds.map (·.queue)).eraseDups).filter fun q => (s.nextCmd q).isSome

/-- Whether the queue served last has commands of its turn left: a turn is as many as its WEIGHT. DEDUCED, log 207. -/
def State.turnLeft (s : State) : Bool := s.ep.ag.served < s.get .ep QUE_Q_CFG_WEIGHT (s.ep.ag.turn + 1)

/-- Whether a weighted round-robin serves a queue next: the one served last while its turn lasts and it is ready, else the next ready one in the order of numbers (R350). DEDUCED, log 207. -/
def State.queueTurn (s : State) (q : Nat) : Bool :=
  let l := s.readyQueues
  let last := s.ep.ag.turn
  if s.turnLeft && l.contains last then q == last
  else l.all fun o => (q + 255 - last) % 256 ≤ (o + 255 - last) % 256

/-- The queue that the round-robin has served. -/
def State.tookTurn (s : State) (q : Nat) : State :=
  let n := if s.turnLeft && q == s.ep.ag.turn then s.ep.ag.served + 1 else 1
  s.onAg fun a => { a with turn := q, served := n }

/-- The command that a queue issues now, if it is the queue's turn. -/
def State.nextIssue (s : State) (q : Nat) : Option Cmd := if s.queueTurn q then s.nextCmd q else none

/-- Issues the next command of a queue when it is the one named: it takes its place in the queue's order, and its packets follow. DEDUCED, log 117, 120. -/
def State.issue (s : State) (q : Nat) (is : Cmd → Bool) (f : Cmd → State → State) : State :=
  match s.nextIssue q with
  | none => s
  | some c =>
    if !is c then s
    else
      let m := s.newId
      let s := (s.tookTurn q).tookId.onCmd q c.index fun c => { c with stage := 1, mark := m }
      ((f { c with stage := 1, mark := m } s).cmdSettle q c.index).drive

/-- The context of a queue. DEDUCED, log 120. -/
def State.queueCtx (s : State) (q : Nat) : Nat := s.get .ep QUE_Q_CFG_CTX (q + 1)

/-- A command fails as a whole. DEDUCED, log 116. -/
def State.cmdFail (s : State) (c : Cmd) (status : Nat) : State :=
  s.onCmd c.queue c.index fun c => { c with fails := insertAt c.fails 0 status }

/-- Adds a packet of a command to the pipeline. -/
def State.addPkt (s : State) (c : Cmd) (q : Access) : State :=
  (s.addAcc { q with queue := c.queue, ord := c.mark, index := c.index }).onCmd c.queue c.index fun c => { c with open_ := c.open_ + 1 }

/-- Adds a packet whose data is read from the accelerator's memory first. DEDUCED, log 121. -/
def State.addRead (s : State) (c : Cmd) (q : Access) (addr len : Nat) : State :=
  let id := s.newId
  (s.addPkt c { q with hasData := false }).accRead (.data id) addr len

/-- Runs a command under its queue's context, which must be bound (R43, R348). DEDUCED, log 119. -/
def State.underCtx (s : State) (c : Cmd) (f : Nat → Nat → State → State) : State :=
  let ctx := s.queueCtx c.queue
  match s.epCtxPtn ctx with
  | some p => f ctx p s
  | none => s.cmdFail c stPERMISSION

/-- The packets of a GET or PUT: cut at every 4 KiB of address, as offset from its start and length (R39, R350). -/
def Cmd.cuts (c : Cmd) : List (Nat × Nat) :=
  let a := c.w 1
  (blockCuts (c.length / 4096 + 2) a c.length).map fun e => (e.1 - a, e.2)

/-- The access of a packet of a command at an offset of its TARGET. -/
def Cmd.piece (c : Cmd) (op pos len ctx ptn : Nat) : Access :=
  { id := 0, queue := c.queue, ord := c.mark, pos := pos, op := op, addr := c.w 1 + pos, direct := c.direct,
    fab := BitVec.ofNat 64 (if c.direct then c.w 1 + pos else 0), len := len, vol := c.vol, ctx := ctx, ptn := ptn }

/-- CMD_NOP (R349). -/
def cmdNop (q : Nat) (s : State) : State := s.issue q (fun c => c.op == 0) fun _ s => s

def execCmdNop (q : Nat) (s : State) : Host.Outcome State Fault Refusal := .next (cmdNop q s)

/-- CMD_GET (R350): reads fabric data, in packets, into the local buffer. -/
def cmdGet (q : Nat) (s : State) : State :=
  s.issue q (fun c => c.op == 1) fun c s => s.underCtx c fun ctx ptn s =>
    c.cuts.foldl (fun s e => s.addPkt c (c.piece opREAD e.1 e.2 ctx ptn)) s

def execCmdGet (q : Nat) (s : State) : Host.Outcome State Fault Refusal := .next (cmdGet q s)

/-- CMD_PUT (R350): writes the local buffer to the fabric, on TC5 for a bulk queue without VOLATILE. -/
def cmdPut (q : Nat) (s : State) : State :=
  s.issue q (fun c => c.op == 2) fun c s => s.underCtx c fun ctx ptn s =>
    let bulk := s.flag .ep QUE_Q_CFG_BULK (q + 1)
    c.cuts.foldl (fun s e => s.addRead c { c.piece opWRITE e.1 e.2 ctx ptn with bulk := bulk } (c.localAddr + e.1) e.2) s

def execCmdPut (q : Nat) (s : State) : Host.Outcome State Fault Refusal := .next (cmdPut q s)

/-- CMD_ATOMIC (R349): one atomic of R91; a 16-byte CAS takes its operands from LOCAL. -/
def cmdAtomic (q : Nat) (s : State) : State :=
  s.issue q (fun c => c.op == 3) fun c s => s.underCtx c fun ctx ptn s =>
    let n := c.length
    let cas := c.subop == opCAS
    if atomicSize c.subop (if cas then 2 * n else n) != some n then s.cmdFail c stUNSUPPORTED
    else
      let p := c.piece c.subop 0 n ctx ptn
      if n == 16 then s.addRead c p c.localAddr 32
      else s.addPkt c { p with data := leBytes n (c.w 4) ++ (if cas then leBytes n (c.w 5) else []) }

def execCmdAtomic (q : Nat) (s : State) : Host.Outcome State Fault Refusal := .next (cmdAtomic q s)

/-- The sync access of a command: TARGET is a target form naming the object (R296, R349). -/
def State.syncPiece (s : State) (c : Cmd) (op : Nat) (release : Bool) (data : List Byte) (aux ctx ptn : Nat) : State :=
  if !inControl (c.desc.getD 1 0) then s.cmdFail c stUNSUPPORTED
  else
    s.addPkt c { id := 0, queue := c.queue, ord := c.mark, op := op, direct := true, fab := c.desc.getD 1 0, len := data.length,
                   data := data, release := release, scope := cmdScope c, aux := aux, ctx := ctx, ptn := ptn }

/-- A release on a sync object: issued once every earlier access that its scope orders has completed (R83, R351). -/
def State.cmdRelease (s : State) (q sub op aux : Nat) : State :=
  s.issue q (fun c => c.op == 4 && c.subop == sub) fun c s => s.underCtx c fun ctx ptn s =>
    s.syncPiece c op true (leBytes 8 (c.w 4)) aux ctx ptn

/-- CMD_SYNC_ADD (R351). -/
def cmdSyncAdd (q : Nat) (s : State) : State := s.cmdRelease q 0 opSYNC_ADD 0

def execCmdSyncAdd (q : Nat) (s : State) : Host.Outcome State Fault Refusal := .next (cmdSyncAdd q s)

/-- CMD_SYNC_SET (R351). -/
def cmdSyncSet (q : Nat) (s : State) : State := s.cmdRelease q 1 opSYNC_SET 0

def execCmdSyncSet (q : Nat) (s : State) : Host.Outcome State Fault Refusal := .next (cmdSyncSet q s)

/-- CMD_SYNC_SET_CLEAR (R351): travels as SYNC_SET with CLEAR set. -/
def cmdSyncSetClear (q : Nat) (s : State) : State := s.cmdRelease q 4 opSYNC_SET 1

def execCmdSyncSetClear (q : Nat) (s : State) : Host.Outcome State Fault Refusal := .next (cmdSyncSetClear q s)

/-- An acquire on a sync object: of this endpoint's own, judged at once (with `wait`, when its target is reached); of another part, by a request on TC4 (R351, R354). -/
def State.cmdAcquire (s : State) (q sub : Nat) (wait : Bool) : State :=
  s.issue q (fun c => c.op == 4 && c.subop == sub) fun c s => s.underCtx c fun ctx ptn s =>
    let t := c.desc.getD 1 0
    let idx := getBits t 0 14
    let target := c.desc.getD 4 0
    let own : Bool := match placeOf t with
      | .control 0 id _ _ => id == s.nodeId
      | _ => false
    if !own then s.syncPiece c (if wait then opSYNC_WAIT else opSYNC_READ) false (if wait then leBytes 8 target.toNat else []) 0 ctx ptn
    else if !s.synOwned .ep idx ptn then s.cmdFail c stPERMISSION
    else if s.synError .ep idx then s.cmdFail c stABORTED
    else if !wait || reached (s.synValue .ep idx) target then s.ownAcquire idx q c.index
    else
      (s.onCmd q c.index fun c => { c with phase := 2, at_ := s.now .ep }).onSync .ep fun y =>
        { y with waits := y.waits ++ [⟨idx, q, target, .own q c.index, s.now .ep⟩] }

/-- CMD_SYNC_READ (R351). -/
def cmdSyncRead (q : Nat) (s : State) : State := s.cmdAcquire q 2 false

def execCmdSyncRead (q : Nat) (s : State) : Host.Outcome State Fault Refusal := .next (cmdSyncRead q s)

/-- CMD_SYNC_WAIT (R351): blocks the queue until it completes. -/
def cmdSyncWait (q : Nat) (s : State) : State := s.cmdAcquire q 3 true

def execCmdSyncWait (q : Nat) (s : State) : Host.Outcome State Fault Refusal := .next (cmdSyncWait q s)

/-- LOCAL_WAIT_TMO (R351): a WAIT on a local object has lasted WAIT_TMO ticks and completes TIMEOUT. -/
def localWaitTmo (q : Nat) (s : State) : State :=
  let past (c : Cmd) : Bool :=
    c.queue == q && c.stage == 1 && c.phase == 2 && waitTmo c != 0 && s.due .ep c.at_ (waitTmo c)
  match s.ep.cmds.find? past with
  | some c =>
    let s := s.onSync .ep fun y => { y with waits := y.waits.filter fun w => w.who != .own q c.index }
    (s.cmdDone q c.index stTIMEOUT).drive
  | none => s

def execLocalWaitTmo (q : Nat) (s : State) : Host.Outcome State Fault Refusal := .next (localWaitTmo q s)

/-- CMD_GATHER (R352): the index list at OPERAND1 goes to the table at TARGET. -/
def cmdGather (q : Nat) (s : State) : State :=
  s.issue q (fun c => c.op == 6) fun c s => s.underCtx c fun ctx ptn s =>
    let n := c.length
    if n == 0 || 1024 < n then s.cmdFail c stUNSUPPORTED
    else s.addRead c { c.piece opGATHER 0 (4 * n) ctx ptn with direct := true, fab := c.desc.getD 1 0, aux := n } (c.w 5 % 2 ^ 52) (4 * n)

def execCmdGather (q : Nat) (s : State) : Host.Outcome State Fault Refusal := .next (cmdGather q s)

/-- CMD_SCATTER_ADD (R352): LENGTH bytes at LOCAL, laid out as R237, go to the table at TARGET. -/
def cmdScatterAdd (q : Nat) (s : State) : State :=
  s.issue q (fun c => c.op == 7) fun c s => s.underCtx c fun ctx ptn s =>
    let n := c.length
    if n == 0 || 4096 < n then s.cmdFail c stUNSUPPORTED
    else s.addRead c { c.piece opSCATTER_ADD 0 n ctx ptn with direct := true, fab := c.desc.getD 1 0 } c.localAddr n

def execCmdScatterAdd (q : Nat) (s : State) : Host.Outcome State Fault Refusal := .next (cmdScatterAdd q s)

/-- CMD_KSTART (R79, R351): a SYSTEM-scope acquire; it completes at the accelerator's acknowledgement of a DISCARD. -/
def cmdKstart (q : Nat) (s : State) : State := s.issue q (fun c => c.op == 8) fun c s => s.acquireDone q c.index 0 false

def execCmdKstart (q : Nat) (s : State) : Host.Outcome State Fault Refusal := .next (cmdKstart q s)

/-- CMD_KEND (R80, R351): a SYSTEM-scope release; its completion reports the kernel complete. -/
def cmdKend (q : Nat) (s : State) : State :=
  s.issue q (fun c => c.op == 9) fun c s => s.addPkt c { id := 0, queue := q, ord := c.mark, op := 0, release := true, scope := 3, direct := true }

def execCmdKend (q : Nat) (s : State) : Host.Outcome State Fault Refusal := .next (cmdKend q s)

/-! ### Completion (R353) -/

/-- The completion record of a command. -/
def Cmd.recordBytes (c : Cmd) : List Byte :=
  if c.op == 5 && !c.record.isEmpty then c.record
  else
    let w := c.status + b2n c.verdict * 2 ^ 8 + b2n c.resent * 2 ^ 9 + c.failed * 2 ^ 16
    leBytes 8 w ++ leBytes 8 c.value.toNat

/-- SIGNAL of a command that completes OK: a release at SCOPE on an object of the endpoint (R349). DEDUCED, log 129. -/
def State.cmdSignal (s : State) (c : Cmd) : State :=
  if c.signalEn && c.status == stOK then
    (s.addAcc { id := 0, queue := c.queue, ord := c.mark, index := noCmd, op := opSYNC_ADD, direct := true,
                fab := targetForm 0 s.nodeId c.signal, data := leBytes 8 1, len := 8, release := true, scope := cmdScope c,
                ptn := (s.epCtxPtn (s.queueCtx c.queue)).getD 64 })
  else s

/-- DONE advances past a command, and goes to memory when Q_DONE_ADDR.EN is set. DEDUCED, log 127. -/
def State.advanceDone (s : State) (q : Nat) : State :=
  let s := s.addWrap .ep QUE_Q_DONE_INDEX 1 (q + 1)
  s.when (s.flag .ep QUE_Q_DONE_ADDR_EN (q + 1)) fun s =>
    s.accWrite (s.get .ep QUE_Q_DONE_ADDR_ADDR (q + 1) * 8) (leBytes 8 (s.get .ep QUE_Q_DONE_INDEX (q + 1)))

/-- Removes a command. DEDUCED, log 130. -/
def State.dropCmd (s : State) (q i : Nat) : State :=
  { s with ep := { s.ep with cmds := s.ep.cmds.filter fun c => !(c.queue == q && c.index == i) } }

/-- COMMAND_COMPLETE (R353): the oldest command of a queue, when it is done: its record is written, then DONE advances. While the attachment is down its completion is discarded (R347). DEDUCED, log 130. -/
def commandComplete (q : Nat) (s : State) : State :=
  match s.ep.cmds.find? fun c => c.queue == q && c.stage != 3 with
  | none => s
  | some c =>
    if c.stage != 2 then s
    else
      let s := s.cmdSignal c
      let s :=
        if !s.uciUp then s.onCmd q c.index fun c => { c with stage := 3 }
        else
          let s := s.accWrite (s.get .ep QUE_Q_CPL_BASE (q + 1) * 16 + 16 * s.ringPlace q c.index) c.recordBytes
          (s.dropCmd q c.index).advanceDone q
      s.drive

def execCommandComplete (q : Nat) (s : State) : Host.Outcome State Fault Refusal := .next (commandComplete q s)

/-! ### The attachment (R344, R347, R373) -/

/-- Every queue that runs stops with reason UCIE_DOWN. -/
def State.stopQueues (s : State) : State :=
  (upTo 256).foldl (fun s q => if s.queueState q == 1 then s.setQueueState q 2 3 else s) s

/-- A window request outstanding on the attachment completes TIMEOUT; an atomic that was sent may have been performed, so that its resend gets the same answer (R97, R347). -/
def State.winLost (s : State) (x : WinReq) : State :=
  (s.when (!x.waiting && nonIdempotent x.pkt) fun s => s.keepOutcome .ep x.pkt stTIMEOUT [] 0).reply .ep x.pkt stTIMEOUT

/-- UCIE_DOWN (R347). -/
def ucieDown (s : State) : State :=
  if !s.uciUp then s
  else
    let mods := s.get .ep UCI_STS_MODULES
    let s := (s.event .ep pgUci .ucieDown mods).count .ep UCI_EVENTS_DOWNS
    let s := s.put .ep UCI_STS_MODULES 0
    let wins := s.ep.ag.wins
    let reads := s.ep.ag.accs.filter fun q => !q.hasData
    let acks := s.ep.ag.discards
    let s := s.onAg fun a => { a with wins := [], wfills := [], ops := [], discards := [] }
    let s := wins.foldl State.winLost s
    let s := s.put .ep UCI_STS_UP 0
    let s := reads.foldl (fun s q => s.finish q.id stTIMEOUT) s
    let s := acks.foldl (fun s e => s.cmdDone e.2.1 e.2.2 stTIMEOUT) s
    let s := s.ep.ag.membs.foldl (fun s m => (s.onMemb m.queue m.index fun m => { m with stopped := true }).membAsk m rsMEMBER_LOST) s
    s.stopQueues.drive

def execUcieDown (s : State) : Host.Outcome State Fault Refusal := .next (ucieDown s)

/-- A queue after the return of the attachment: DISABLED, DONE past the commands whose completion was discarded, HEAD after the last command issued, Q_LOST (R347). -/
def State.repairQueue (s : State) (q : Nat) : State :=
  let mine := s.ep.cmds.filter fun c => c.queue == q
  let lost := mine.filter fun c => c.stage == 3
  let waiting := mine.filter fun c => c.stage == 0
  if mine.isEmpty && s.queueState q == 0 && !s.flag .ep QUE_Q_CFG_ENABLE (q + 1) && s.rd .ep QUE_Q_LOST (q + 1) == 0 then s
  else
    let s := { s with ep := { s.ep with cmds := s.ep.cmds.filter fun c => !(c.queue == q && (c.stage == 0 || c.stage == 3)) } }
    let s := (s.setQueueState q 0 0).put .ep QUE_Q_CFG_ENABLE 0 (q + 1)
    let s := s.addWrap .ep QUE_Q_DONE_INDEX lost.length (q + 1)
    let s := match waiting with
      | c :: _ => s.put .ep QUE_Q_HEAD_INDEX c.index (q + 1)
      | [] => s
    (s.put .ep QUE_Q_LOST_FIRST ((lost.head?.map (·.index)).getD 0) (q + 1)).put .ep QUE_Q_LOST_COUNT lost.length (q + 1)

/-- UCIE_UP (R347): the modules active and the rate; queues are repaired, the ATC is flushed, and the accelerator discards its copies of fabric data. DEDUCED, log 130. -/
def ucieUp (modules rate : Nat) (s : State) : State :=
  if s.uciUp then s
  else
    let s := ((s.put .ep UCI_STS_UP 1).put .ep UCI_STS_MODULES modules).put .ep UCI_STS_RATE rate
    let s := (upTo 256).foldl (fun s q => s.repairQueue q) s
    let s := s.tookId.emit (.discard s.newId false)
    s.atcFlush

def execUcieUp (modules rate : Nat) (s : State) : Host.Outcome State Fault Refusal := .next (ucieUp modules rate s)

/-- UCIE_DEGRADE (R344): the attachment loses modules or degrades its rate and runs on. -/
def ucieDegrade (modules rate : Nat) (s : State) : State :=
  if !s.uciUp then s
  else ((s.put .ep UCI_STS_MODULES modules).put .ep UCI_STS_RATE rate).count .ep UCI_EVENTS_DEGRADES

def execUcieDegrade (modules rate : Nat) (s : State) : Host.Outcome State Fault Refusal := .next (ucieDegrade modules rate s)

end Sys2Proof.Machine
end

