-- ==== Sys2Proof/Machine/MemberRows.lean ====
section
/-! DEFINITION. The herd command of a queue and the herd packets that reach an endpoint or a switch (R187, R192, R195, R196, R199, R200, R203, R207, R352, R534). -/

namespace Sys2Proof.Machine

/-- The swap notice kept for a member of a spare (R203), if it has come. -/
def State.swapNotice (s : State) (sid herd step : Nat) : Option Nat :=
  (s.ep.ag.swaps.find? fun e => e.1 == sid && e.2.1 == herd && e.2.2.1 == step).map fun e => e.2.2.2

/-- CMD_HERD (R352): the member's part in one step. The event brings what the runtime knows of the herd: its descriptor, the member's slot and slot entry, the node of every rank, whether the endpoint stands by as a spare, and whether a region is attached to the herd (R234). At issue the sync object named leaves its error state; one not enabled for the queue's partition is refused. DESIGN CHOICE, log 109. -/
def cmdHerd (q : Nat) (desc : List Word) (slot : Nat) (e0 e1 : Word) (nodes : List Nat) (role : HerdRole) (s : State) : State :=
  s.issue q (fun c => c.op == 5) fun c s => s.underCtx c fun _ ptn s =>
    let sync := bitsOf (c.w 1) 28 12
    let sid := bitsOf (c.w 1) 0 16
    if !s.synOwned .ep sync ptn then s.cmdFail c stPERMISSION
    else
      let s := s.synClearError .ep sync
      let m : Memb := { queue := q, index := c.index, sid := sid, herd := bitsOf (c.w 1) 16 12, step := bitsOf (c.w 4) 0 32,
                        sync := sync, geo := { desc := desc, slots := [(slot, (e0, e1))] }, slot := slot, nodes := nodes, region := role.region,
                        src := c.w 5 % 2 ^ 52, dst := c.localAddr }
      let note := s.swapNotice m.sid m.herd m.step
      let m := { m with idle := role.spare && note.isNone }
      let s := s.onAg fun a => { a with membs := a.membs ++ [m], swaps := a.swaps.filter fun e => !(e.1 == m.sid && e.2.1 == m.herd && e.2.2.1 == m.step) }
      let s := s.onCmd q c.index fun c => { c with phase := 3 }
      if !s.hasPath sid then s.membAbort m rsMEMBER_LOST
      else if m.idle then s
      else s.membStart m (note.getD 0)

def execCmdHerd (q : Nat) (desc : List Word) (slot : Nat) (e0 e1 : Word) (nodes : List Nat) (role : HerdRole) (s : State) :
    Host.Outcome State Fault Refusal := .next (cmdHerd q desc slot e0 e1 nodes role s)

/-- A herd packet with the member that it is for: a bad CRC is reported to the herd (R313). -/
def State.membTake (s : State) (k : Packet) (m? : Option Memb) (f : Memb → State → State) : State :=
  match m? with
  | some m => if !crcOk k then (s.crcFail .ep k).membAsk m rsINTEGRITY else (f m s).drive
  | none => if !crcOk k then s.crcFail .ep k else s

/-- What every herd packet passes first at a member's endpoint: its mark, its CRC, and the member it names. -/
def State.membGuard (s : State) (k : Packet) (f : Memb → State → State) : State :=
  let s := s.consume .ep k
  s.membTake k ((addrSwitch k).bind fun sid => s.membOf sid (herdIx k) (herdPrefix k).step) f

/-- HERD_RESULT (R192): at a herd, from its parent; at a member, written to its buffer. -/
def herdResult (p : Part) (k : Packet) (s : State) : State :=
  match p with
  | .sw => s.herdResultSw k
  | .ep => s.membGuard k fun m s => s.membResult m (herdPrefix k) (k.payload.drop 16)

def execHerdResult (p : Part) (k : Packet) (s : State) : Host.Outcome State Fault Refusal := .next (herdResult p k s)

/-- HERD_COUNTS (R199): at a herd, counts from below or totals from above; at a member, its offsets and grants. -/
def herdCounts (p : Part) (k : Packet) (s : State) : State :=
  match p with
  | .sw => s.herdCountsSw k
  | .ep => s.membGuard k fun m s => s.membCounts m (herdPrefix k) (k.payload.drop 16)

def execHerdCounts (p : Part) (k : Packet) (s : State) : Host.Outcome State Fault Refusal := .next (herdCounts p k s)

/-- The member that a record is for: in the same step of the same chain, which the signature tells (R182); of several the one in the herd that the record names, else one on that plane. PRESUMED, log 111. -/
def State.recordMemb (s : State) (k : Packet) : Option Memb :=
  let h := herdPrefix k
  let sid := (addrSwitch k).getD 0
  let l := s.ep.ag.membs.filter fun m => m.step == h.step && chainSig m.geo.desc == h.sig
  ((l.find? fun m => m.sid == sid && m.herd == herdIx k).or (l.find? fun m => m.sid.testBit 13 == sid.testBit 13)).or l.head?

/-- HERD_RECORD (R200): an ALL_TO_ALL record is written at its position. PRESUMED, log 111. -/
def herdRecord (k : Packet) (s : State) : State :=
  (s.consume .ep k).membTake k ((s.consume .ep k).recordMemb k) fun m s => s.membRecord m (herdPrefix k) (k.payload.drop 16)

def execHerdRecord (k : Packet) (s : State) : Host.Outcome State Fault Refusal := .next (herdRecord k s)

/-- HERD_SIGNAL_RECEIVE (R195): the signal of a chunk, applied once, after the chunk's result packets have been written. -/
def herdSignalReceive (k : Packet) (s : State) : State :=
  s.membGuard k fun m s =>
    let h := herdPrefix k
    if m.applied.contains h.chunk || m.signals.any fun e => e.1 == h.chunk then s
    else (s.onMemb m.queue m.index fun m => { m with signals := m.signals ++ [(h.chunk, h.pkt)] }).membApply m.queue m.index

def execHerdSignalReceive (k : Packet) (s : State) : Host.Outcome State Fault Refusal := .next (herdSignalReceive k s)

/-- HERD_CPL_RECEIVE (R196): at a herd, the completion of the herd above; at a member, the record of its command, taken after its signals when the step has ended well; ABORTED is an abort that has reached it (R198). -/
def herdCplReceive (p : Part) (k : Packet) (s : State) : State :=
  match p with
  | .sw => s.herdCplSw k
  | .ep => s.membGuard k fun m s =>
    let r := slice k.payload 16 16
    let st := natAt r 0 1
    if st == stOK || st == stCAPACITY_DROP then
      (s.onMemb m.queue m.index fun m => { m with cpl := some r }).membApply m.queue m.index
    else if st == stABORTED then s.membAbort m (bitsOf (natAt r 0 4) 16 3) (bitsOf (natAt r 0 4) 19 2)
    else s.membDone m r

def execHerdCplReceive (p : Part) (k : Packet) (s : State) : Host.Outcome State Fault Refusal := .next (herdCplReceive p k s)

/-- The acknowledgement of an abort (R209). -/
def State.membAck (s : State) (k : Packet) : State :=
  s.epForward 3 none (sealPkt { dst := landing k.src s.nodeId, src := s.nodeId, tc := 4, op := opHERD_ACK, tag := k.tag, addr := k.addr,
                                len := 16, ctx := k.ctx, ptn := k.ptn, payload := k.payload.take 16 })

/-- HERD_ABORT at an endpoint: the decision of the member's herd is acknowledged and taken, as an abort or a failover (R198, R207, R210); a report of a discarded packet makes the endpoint ask its herd for an abort (R534). -/
def State.membAbortIn (s : State) (k : Packet) : State :=
  let s := s.consume .ep k
  let h := herdPrefix k
  let m? := (addrSwitch k).bind fun sid => s.membOf sid (herdIx k) h.step
  if !crcOk k then
    let s := s.crcFail .ep k
    m?.elim s fun m => s.membAsk m rsINTEGRITY
  else if !discardReport k && k.srcSw && addrSwitch k == some k.src then
    let s := s.membAck k
    match m? with
    | none => s
    | some m => (if h.chunk != 0 then s.membFailover m else s.membAbort m (h.pkt % 8) (h.pkt / 8)).drive
  else match m? with
    | some m => s.membAsk m rsMEMBER_LOST
    | none => s

/-- HERD_ABORT_RECEIVE (R207). -/
def herdAbortReceive (p : Part) (k : Packet) (s : State) : State :=
  match p with
  | .sw => s.herdAbortSw k
  | .ep => s.membAbortIn k

def execHerdAbortReceive (p : Part) (k : Packet) (s : State) : Host.Outcome State Fault Refusal := .next (herdAbortReceive p k s)

/-- HERD_SWAP_RECEIVE (R203): the spare's endpoint contributes from chunk c_s on, now or once its command is posted. -/
def herdSwapReceive (k : Packet) (s : State) : State :=
  let s := s.consume .ep k
  let h := herdPrefix k
  let sid := (addrSwitch k).getD 0
  if !crcOk k then s.crcFail .ep k
  else match s.membOf sid (herdIx k) h.step with
    | some m =>
      if m.idle then ((s.onMemb m.queue m.index fun m => { m with idle := false }).membStart { m with idle := false } h.chunk).drive else s
    | none => s.onAg fun a => { a with swaps := a.swaps ++ [(sid, herdIx k, h.step, h.chunk)] }

def execHerdSwapReceive (k : Packet) (s : State) : Host.Outcome State Fault Refusal := .next (herdSwapReceive k s)

end Sys2Proof.Machine
end

