-- ==== Sys2Proof/Machine/RegMap.lean ====
section
/-! DEFINITION. The register map of both parts: every register of the tables of spec/ with its bit ranges, access types (R503) and the parts that hold it. -/

namespace Sys2Proof.Machine

/-- The registers of the APT page, in table order. -/
def regMapAPT : List RegDesc :=
  [⟨APT_ATC_CTL, 1, false, .both,
     [⟨0, 1, .wo, 0⟩, ⟨1, 1, .ro, 0⟩]⟩,
   ⟨APT_ATC_STS, 1, false, .both,
     [⟨0, 14, .ro, 0⟩, ⟨14, 18, .ro, 0⟩]⟩,
   ⟨APT_AP_CTL, 1, false, .both,
     [⟨0, 1, .rw, 0⟩, ⟨1, 1, .rw, 0⟩, ⟨2, 1, .rw, 0⟩, ⟨3, 1, .rw, 0⟩, ⟨6, 10, .rw, 0⟩, ⟨16, 1, .ro, 1⟩]⟩,
   ⟨APT_AP_LBASE, 1, true, .both,
     [⟨21, 31, .rw, 0⟩]⟩,
   ⟨APT_AP_SIZE, 1, false, .both,
     [⟨0, 20, .rw, 0⟩]⟩,
   ⟨APT_AP_TARGET, 1, true, .both,
     [⟨0, 64, .rw, 0⟩]⟩]

/-- The registers of the WIN page, in table order. -/
def regMapWIN : List RegDesc :=
  [⟨WIN_WIN_SEL, 1, false, .both,
     [⟨0, 9, .rw, 0⟩]⟩,
   ⟨WIN_WIN_CTL, 1, false, .both,
     [⟨0, 1, .rw, 0⟩, ⟨1, 1, .rw, 0⟩, ⟨2, 1, .rw, 0⟩, ⟨3, 1, .rw, 0⟩, ⟨4, 1, .rw, 0⟩, ⟨5, 6, .rw, 0⟩, ⟨11, 1, .ro, 1⟩]⟩,
   ⟨WIN_WIN_LBASE, 1, true, .both,
     [⟨21, 31, .rw, 0⟩]⟩,
   ⟨WIN_WIN_SIZE, 1, false, .both,
     [⟨0, 15, .rw, 0⟩]⟩,
   ⟨WIN_WIN_SUBTBL, 1, true, .both,
     [⟨3, 49, .rw, 0⟩]⟩,
   ⟨WIN_GNT_SEL, 1, false, .both,
     [⟨0, 13, .rw, 0⟩]⟩,
   ⟨WIN_GNT_ENTRY, 1, false, .both,
     [⟨0, 1, .rw, 0⟩, ⟨1, 1, .rw, 0⟩, ⟨2, 1, .rw, 0⟩, ⟨3, 1, .rw, 0⟩, ⟨4, 9, .rw, 0⟩, ⟨13, 10, .rw, 0⟩]⟩,
   ⟨WIN_WIN_INV, 1, true, .both,
     [⟨0, 9, .rw, 0⟩, ⟨9, 15, .rw, 0⟩, ⟨24, 16, .rw, 0⟩, ⟨62, 1, .rw, 0⟩, ⟨63, 1, .ro, 0⟩]⟩]

/-- The registers of the ACN page, in table order. -/
def regMapACN : List RegDesc :=
  [⟨ACN_ACN_CTL, 1, false, .both,
     [⟨0, 1, .rw, 0⟩, ⟨1, 1, .rw, 0⟩, ⟨2, 1, .rw, 0⟩]⟩,
   ⟨ACN_ACN_EPOCH, 1, false, .both,
     [⟨0, 32, .rw, 0x2ab98⟩]⟩,
   ⟨ACN_ACN_EPOCH_NUM, 1, false, .both,
     [⟨0, 32, .ro, 0⟩]⟩,
   ⟨ACN_RING_BASE, 1, true, .both,
     [⟨12, 40, .rw, 0⟩]⟩,
   ⟨ACN_RING_CFG, 1, false, .both,
     [⟨0, 5, .rw, 6⟩]⟩,
   ⟨ACN_RING_PROD, 1, false, .both,
     [⟨0, 32, .ro, 0⟩]⟩,
   ⟨ACN_RING_CONS, 1, false, .both,
     [⟨0, 32, .rw, 0⟩]⟩,
   ⟨ACN_RING_DROP, 1, false, .both,
     [⟨0, 32, .ro, 0⟩]⟩,
   ⟨ACN_CNT_SEL, 1, false, .both,
     [⟨0, 18, .rw, 0⟩]⟩,
   ⟨ACN_CNT_VAL, 1, false, .both,
     [⟨0, 16, .ro, 0⟩, ⟨16, 1, .ro, 0⟩]⟩,
   ⟨ACN_RNG_CTL, 1, false, .both,
     [⟨0, 1, .rw, 0⟩, ⟨1, 1, .rw, 0⟩, ⟨2, 16, .rw, 0⟩]⟩,
   ⟨ACN_RNG_BASE, 1, true, .both,
     [⟨0, 64, .rw, 0⟩]⟩] ++
  [⟨ACN_RNG_PAGES, 1, false, .both,
     [⟨0, 18, .rw, 0⟩]⟩,
   ⟨ACN_RNG_SLOT, 1, false, .both,
     [⟨0, 18, .rw, 0⟩]⟩]

/-- The registers of the EPC page, in table order. -/
def regMapEPC : List RegDesc :=
  [⟨EPC_SCOPE_MM_CNT, 1, false, .both,
     [⟨0, 32, .rw, 0⟩]⟩,
   ⟨EPC_SCOPE_MM_LAST0, 1, true, .both,
     [⟨0, 2, .ro, 0⟩, ⟨2, 2, .ro, 0⟩, ⟨4, 2, .ro, 0⟩, ⟨6, 17, .ro, 0⟩, ⟨23, 8, .ro, 0⟩, ⟨31, 8, .ro, 0⟩, ⟨63, 1, .rw1c, 0⟩]⟩,
   ⟨EPC_SCOPE_MM_LAST1, 1, true, .both,
     [⟨0, 14, .ro, 0⟩, ⟨14, 1, .ro, 0⟩, ⟨15, 17, .ro, 0⟩, ⟨32, 32, .ro, 0⟩]⟩,
   ⟨EPC_ID, 1, false, .both,
     [⟨0, 17, .rw, 0⟩, ⟨17, 1, .ro, 0⟩, ⟨18, 3, .ro, 0⟩]⟩,
   ⟨EPC_REQ_TMO, 1, false, .both,
     [⟨0, 32, .rw, 0x155cc⟩]⟩,
   ⟨EPC_INJ_STS, 1, true, .both,
     [⟨0, 16, .ro, 0⟩, ⟨16, 16, .ro, 0⟩, ⟨32, 32, .ro, 0⟩]⟩]

/-- The registers of the POL page, in table order. -/
def regMapPOL : List RegDesc :=
  [⟨POL_GRAN_SEL, 1, false, .both,
     [⟨0, 17, .rw, 0⟩, ⟨17, 1, .rw, 0⟩]⟩,
   ⟨POL_GRAN_STS, 1, false, .both,
     [⟨0, 3, .ro, 2⟩, ⟨3, 6, .ro, 0⟩, ⟨9, 12, .ro, 0⟩, ⟨21, 1, .ro, 0⟩]⟩,
   ⟨POL_GRAN_CTL, 1, false, .both,
     [⟨0, 1, .wo, 0⟩]⟩,
   ⟨POL_MAP_SEL, 1, false, .both,
     [⟨0, 6, .rw, 0⟩, ⟨6, 1, .rw, 0⟩, ⟨7, 12, .rw, 0⟩]⟩,
   ⟨POL_MAP_ENTRY, 1, false, .both,
     [⟨0, 18, .rwl, 0⟩, ⟨31, 1, .rwl, 0⟩]⟩,
   ⟨POL_PTN_STS, 1, false, .both,
     [⟨0, 2, .ro, 0⟩, ⟨2, 20, .ro, 0⟩]⟩,
   ⟨POL_DRAIN_CFG, 1, false, .both,
     [⟨0, 32, .rw, 0x445c⟩]⟩,
   ⟨POL_SCRUB_CTL, 1, false, .both,
     [⟨0, 4, .rw, 2⟩, ⟨8, 8, .rw, 0x18⟩]⟩,
   ⟨POL_SCRUB_STS, 1, true, .both,
     [⟨0, 1, .ro, 1⟩, ⟨1, 11, .ro, 0x6fc⟩, ⟨12, 18, .ro, 0⟩, ⟨32, 32, .ro, 0⟩]⟩]

/-- The registers of the DIR page, in table order. -/
def regMapDIR : List RegDesc :=
  [⟨DIR_AGT_SEL, 1, false, .both,
     [⟨0, 6, .rw, 0⟩]⟩,
   ⟨DIR_AGT_ENTRY, 1, false, .both,
     [⟨0, 1, .rwl, 0⟩, ⟨1, 1, .rwl, 0⟩, ⟨2, 17, .rwl, 0⟩]⟩,
   ⟨DIR_AGT_STS, 1, false, .both,
     [⟨0, 2, .ro, 0⟩, ⟨2, 3, .ro, 0⟩, ⟨5, 23, .ro, 0⟩]⟩,
   ⟨DIR_AGT_CTL, 1, false, .both,
     [⟨0, 1, .wo, 0⟩, ⟨1, 1, .wo, 0⟩]⟩,
   ⟨DIR_SNOOP_TMO, 1, false, .both,
     [⟨0, 32, .rw, 0x445c⟩]⟩,
   ⟨DIR_OCC, 1, true, .both,
     [⟨0, 23, .ro, 0⟩, ⟨23, 23, .ro, 0⟩]⟩,
   ⟨DIR_EVICT_CNT, 1, false, .both,
     [⟨0, 32, .ro, 0⟩]⟩,
   ⟨DIR_WB_DISCARD, 1, false, .both,
     [⟨0, 32, .ro, 0⟩]⟩,
   ⟨DIR_OL_REC0, 1, true, .both,
     [⟨7, 33, .ro, 0⟩, ⟨40, 6, .ro, 0⟩, ⟨46, 3, .ro, 0⟩]⟩,
   ⟨DIR_OL_REC1, 1, true, .both,
     [⟨0, 6, .ro, 0⟩, ⟨31, 1, .ro, 0⟩, ⟨32, 32, .ro, 0⟩]⟩,
   ⟨DIR_OL_STS, 1, true, .both,
     [⟨0, 11, .ro, 0⟩, ⟨11, 11, .ro, 0⟩, ⟨32, 32, .ro, 0⟩]⟩,
   ⟨DIR_OL_DROP, 1, false, .both,
     [⟨0, 32, .ro, 0⟩]⟩] ++
  [⟨DIR_OL_CLEAR, 1, true, .both,
     [⟨0, 6, .rw, 0⟩, ⟨6, 1, .rw, 0⟩, ⟨7, 33, .rw, 0⟩, ⟨63, 1, .ro, 0⟩]⟩]

/-- The registers of the BLK page, in table order. -/
def regMapBLK : List RegDesc :=
  [⟨BLK_PORT_STS, 1, true, .both,
     [⟨0, 1, .ro, 0⟩, ⟨1, 1, .ro, 0⟩, ⟨2, 17, .ro, 0⟩, ⟨19, 17, .ro, 0⟩]⟩,
   ⟨BLK_CFG, 1, false, .both,
     [⟨0, 1, .rw, 1⟩, ⟨1, 1, .rw, 1⟩]⟩,
   ⟨BLK_PSEL, 1, false, .both,
     [⟨0, 6, .rw, 0⟩]⟩,
   ⟨BLK_HITS, 1, true, .both,
     [⟨0, 64, .ro, 0⟩]⟩,
   ⟨BLK_MISSES, 1, true, .both,
     [⟨0, 64, .ro, 0⟩]⟩,
   ⟨BLK_VICTIMS, 1, true, .both,
     [⟨0, 64, .ro, 0⟩]⟩,
   ⟨BLK_PINNED, 1, false, .both,
     [⟨0, 30, .ro, 0⟩]⟩]

/-- The registers of the HBM page, in table order. -/
def regMapHBM : List RegDesc :=
  [⟨HBM_STS, 1, false, .both,
     [⟨0, 1, .ro, 0⟩, ⟨1, 1, .ro, 0⟩, ⟨8, 8, .ro, 0⟩]⟩,
   ⟨HBM_ECC_CE, 1, false, .both,
     [⟨0, 32, .rw, 0⟩]⟩,
   ⟨HBM_ECC_UE, 1, false, .both,
     [⟨0, 32, .rw, 0⟩]⟩,
   ⟨HBM_ERR_ADDR, 1, true, .both,
     [⟨0, 30, .ro, 0⟩, ⟨30, 1, .ro, 0⟩, ⟨31, 1, .rw1c, 0⟩, ⟨32, 32, .ro, 0⟩]⟩,
   ⟨HBM_SPARES, 1, false, .both,
     [⟨0, 8, .ro, 0⟩, ⟨8, 8, .ro, 0⟩]⟩]

/-- The registers of the RDC page, in table order. -/
def regMapRDC : List RegDesc :=
  [⟨RDC_STS, 1, false, .both,
     [⟨0, 2, .ro, 2⟩, ⟨2, 3, .ro, 0⟩, ⟨5, 11, .ro, 0⟩]⟩,
   ⟨RDC_CTL, 1, false, .both,
     [⟨0, 1, .wo, 0⟩, ⟨1, 1, .wo, 0⟩, ⟨2, 1, .wo, 0⟩]⟩,
   ⟨RDC_FENCE_REC, 1, true, .both,
     [⟨0, 3, .rws, 0⟩, ⟨31, 1, .rws, 0⟩, ⟨32, 32, .rws, 0⟩]⟩,
   ⟨RDC_SELFTEST_STS, 1, false, .both,
     [⟨0, 1, .ro, 1⟩, ⟨1, 1, .ro, 0⟩, ⟨2, 1, .ro, 0⟩, ⟨3, 5, .ro, 0⟩]⟩,
   ⟨RDC_DUTY, 1, false, .both,
     [⟨0, 7, .ro, 0x40⟩]⟩,
   ⟨RDC_OPS, 1, true, .both,
     [⟨0, 64, .ro, 0⟩]⟩,
   ⟨RDC_CHUNKS, 1, true, .both,
     [⟨0, 64, .ro, 0⟩]⟩,
   ⟨RDC_RESIDUE_ERR, 1, true, .both,
     [⟨0, 64, .ro, 0⟩]⟩,
   ⟨RDC_FLAG_CNT, 1, true, .both,
     [⟨0, 16, .rw, 0⟩, ⟨16, 16, .rw, 0⟩, ⟨32, 16, .rw, 0⟩, ⟨48, 16, .rw, 0⟩]⟩]

/-- The registers of the HRD page, in table order. -/
def regMapHRD : List RegDesc :=
  [⟨HRD_CLAIM, 1, false, .both,
     [⟨0, 1, .ro, 0⟩, ⟨1, 17, .ro, 0⟩, ⟨18, 2, .ro, 0⟩, ⟨20, 10, .ro, 0⟩]⟩,
   ⟨HRD_CMD, 1, false, .both,
     [⟨0, 4, .wo, 0⟩, ⟨4, 12, .wo, 0⟩, ⟨16, 7, .wo, 0⟩, ⟨23, 3, .wo, 0⟩, ⟨26, 1, .wo, 0⟩]⟩,
   ⟨HRD_CMD_STS, 1, false, .both,
     [⟨0, 8, .ro, 0⟩, ⟨8, 8, .ro, 0⟩, ⟨16, 1, .ro, 0⟩]⟩,
   ⟨HRD_SLOT_SEL, 1, false, .both,
     [⟨0, 8, .rw, 0⟩]⟩,
   ⟨HRD_VIEW_SEL, 1, false, .both,
     [⟨0, 12, .rw, 0⟩, ⟨12, 7, .rw, 0⟩]⟩,
   ⟨HRD_DESC, 8, true, .both,
     [⟨0, 64, .rw, 0⟩]⟩,
   ⟨HRD_SLOT_W0, 1, true, .both,
     [⟨0, 64, .rw, 0⟩]⟩,
   ⟨HRD_SLOT_W1, 1, true, .both,
     [⟨0, 64, .rw, 0⟩]⟩,
   ⟨HRD_HERD_STS, 1, true, .both,
     [⟨0, 2, .ro, 0⟩, ⟨2, 3, .ro, 0⟩, ⟨5, 1, .ro, 0⟩, ⟨6, 1, .ro, 0⟩, ⟨7, 7, .ro, 0⟩, ⟨32, 32, .ro, 0⟩]⟩,
   ⟨HRD_HERD_PROG, 1, true, .both,
     [⟨0, 32, .ro, 0⟩, ⟨32, 12, .ro, 0⟩]⟩,
   ⟨HRD_HERD_DISC, 1, true, .both,
     [⟨0, 16, .ro, 0⟩, ⟨16, 16, .ro, 0⟩, ⟨32, 32, .ro, 0⟩]⟩,
   ⟨HRD_SLOT_LATE, 1, true, .both,
     [⟨0, 32, .ro, 0⟩, ⟨32, 32, .ro, 0⟩]⟩] ++
  [⟨HRD_SLOT_LSUM, 1, true, .both,
     [⟨0, 64, .rw, 0⟩]⟩,
   ⟨HRD_TOTALS, 1, true, .both,
     [⟨0, 13, .ro, 0⟩, ⟨13, 12, .ro, 0x800⟩]⟩,
   ⟨HRD_SIG_MISMATCH, 1, false, .both,
     [⟨0, 32, .ro, 0⟩]⟩]

/-- The registers of the SYN page, in table order. -/
def regMapSYN : List RegDesc :=
  [⟨SYN_SEL, 1, false, .both,
     [⟨0, 14, .rw, 0⟩]⟩,
   ⟨SYN_CFG, 1, false, .both,
     [⟨0, 1, .rw, 0⟩, ⟨1, 6, .rw, 0⟩, ⟨7, 1, .ro, 0⟩, ⟨8, 12, .ro, 0⟩]⟩,
   ⟨SYN_VALUE, 1, true, .both,
     [⟨0, 64, .ro, 0⟩]⟩,
   ⟨SYN_ACQ, 1, true, .both,
     [⟨0, 64, .ro, 0⟩]⟩,
   ⟨SYN_ADD, 1, true, .both,
     [⟨0, 64, .wo, 0⟩]⟩,
   ⟨SYN_STS, 1, true, .both,
     [⟨0, 1, .rw1c, 0⟩, ⟨1, 3, .ro, 0⟩, ⟨4, 2, .ro, 0⟩, ⟨6, 2, .ro, 0⟩, ⟨8, 17, .ro, 0⟩, ⟨25, 8, .ro, 0⟩]⟩,
   ⟨SYN_HOST_SCOPE, 1, false, .both,
     [⟨0, 2, .rw, 3⟩]⟩,
   ⟨SYN_HOST_MM_CNT, 1, false, .both,
     [⟨0, 32, .rw, 0⟩]⟩,
   ⟨SYN_HOST_MM_LAST, 1, true, .both,
     [⟨0, 14, .ro, 0⟩, ⟨14, 2, .ro, 0⟩, ⟨16, 2, .ro, 0⟩, ⟨18, 2, .ro, 0⟩, ⟨20, 17, .ro, 0⟩, ⟨37, 8, .ro, 0⟩, ⟨63, 1, .rw1c, 0⟩]⟩,
   ⟨SYN_WAITS, 1, true, .both,
     [⟨0, 13, .ro, 0⟩, ⟨32, 32, .ro, 0⟩]⟩]

/-- The registers of the SVC page, in table order. -/
def regMapSVC : List RegDesc :=
  [⟨SVC_CLAIM, 1, false, .both,
     [⟨0, 1, .ro, 0⟩, ⟨1, 17, .ro, 0⟩, ⟨18, 2, .ro, 0⟩, ⟨20, 10, .ro, 0⟩]⟩,
   ⟨SVC_CMD, 1, false, .both,
     [⟨0, 4, .wo, 0⟩, ⟨4, 8, .wo, 0⟩, ⟨12, 12, .wo, 0⟩]⟩,
   ⟨SVC_CMD_STS, 1, false, .both,
     [⟨0, 8, .ro, 0⟩, ⟨8, 8, .ro, 0⟩, ⟨16, 6, .ro, 0⟩, ⟨22, 1, .ro, 0⟩]⟩,
   ⟨SVC_VIEW_SEL, 1, true, .both,
     [⟨0, 8, .rw, 0⟩, ⟨8, 8, .rw, 0⟩, ⟨16, 12, .rw, 0⟩, ⟨28, 6, .rw, 0⟩, ⟨34, 1, .rw, 0⟩]⟩,
   ⟨SVC_PRG_STS, 1, true, .both,
     [⟨0, 1, .ro, 0⟩, ⟨1, 10, .ro, 0⟩, ⟨11, 8, .ro, 0⟩, ⟨19, 11, .ro, 0⟩]⟩,
   ⟨SVC_ATT_STS, 1, true, .both,
     [⟨0, 1, .ro, 0⟩, ⟨1, 1, .ro, 0⟩, ⟨2, 1, .ro, 0⟩, ⟨3, 1, .ro, 0⟩, ⟨4, 8, .ro, 0⟩, ⟨12, 1, .ro, 0⟩, ⟨32, 32, .ro, 0⟩]⟩,
   ⟨SVC_ATT_COMMIT, 1, true, .both,
     [⟨0, 64, .rw, 0⟩]⟩,
   ⟨SVC_RGN_STS, 1, true, .both,
     [⟨0, 2, .ro, 0⟩, ⟨2, 6, .ro, 0⟩, ⟨8, 1, .ro, 0⟩, ⟨32, 32, .ro, 0⟩]⟩,
   ⟨SVC_RGN_RANGE, 1, true, .both,
     [⟨0, 19, .ro, 0⟩, ⟨19, 20, .ro, 0⟩]⟩,
   ⟨SVC_TBL_STS, 1, true, .both,
     [⟨0, 1, .ro, 0⟩, ⟨1, 6, .ro, 0⟩, ⟨7, 2, .ro, 0⟩, ⟨9, 1, .ro, 0⟩, ⟨10, 1, .ro, 0⟩, ⟨11, 8, .ro, 0⟩, ⟨32, 32, .ro, 0⟩]⟩,
   ⟨SVC_TOTALS, 1, true, .both,
     [⟨0, 9, .ro, 0⟩, ⟨9, 11, .ro, 0⟩, ⟨20, 7, .ro, 0⟩, ⟨27, 9, .ro, 0⟩]⟩,
   ⟨SVC_DIGEST, 8, true, .both,
     [⟨0, 64, .ro, 0⟩]⟩] ++
  [⟨SVC_STAGE, 64, true, .both,
     [⟨0, 64, .rw, 0⟩]⟩]

/-- The registers of the XBR page, in table order. -/
def regMapXBR : List RegDesc :=
  [⟨XBR_STS, 1, false, .both,
     [⟨0, 7, .ro, 0⟩, ⟨7, 1, .ro, 0⟩, ⟨8, 8, .ro, 0⟩]⟩,
   ⟨XBR_MID_FENCE0, 1, true, .both,
     [⟨0, 64, .rw1s, 0⟩]⟩,
   ⟨XBR_MID_FENCE1, 1, true, .both,
     [⟨0, 64, .rw1s, 0⟩]⟩,
   ⟨XBR_ECC, 1, true, .both,
     [⟨0, 32, .rw, 0⟩, ⟨32, 32, .rw, 0⟩]⟩,
   ⟨XBR_RESEQ, 1, false, .both,
     [⟨0, 9, .rw, 0⟩]⟩,
   ⟨XBR_CELLS, 1, true, .both,
     [⟨0, 64, .ro, 0⟩]⟩]

/-- The registers of the BUF page, in table order. -/
def regMapBUF : List RegDesc :=
  [⟨BUF_PSEL, 1, false, .both,
     [⟨0, 7, .rw, 0⟩, ⟨7, 3, .rw, 0⟩, ⟨10, 1, .rw, 0⟩]⟩,
   ⟨BUF_PORT_INFO, 1, false, .both,
     [⟨0, 14, .ro, 0⟩, ⟨16, 14, .ro, 0⟩]⟩,
   ⟨BUF_GIRTH, 1, false, .both,
     [⟨0, 14, .rw, 0⟩]⟩,
   ⟨BUF_OCC, 1, true, .both,
     [⟨0, 17, .ro, 0⟩, ⟨32, 17, .rw, 0⟩]⟩,
   ⟨BUF_AVG, 1, false, .both,
     [⟨0, 17, .ro, 0⟩]⟩,
   ⟨BUF_MARKS, 1, true, .both,
     [⟨0, 32, .ro, 0⟩, ⟨32, 32, .ro, 0⟩]⟩,
   ⟨BUF_RED_CFG, 1, false, .both,
     [⟨0, 1, .rw, 1⟩, ⟨1, 4, .rw, 6⟩]⟩,
   ⟨BUF_PROF_G, 1, false, .both,
     [⟨0, 7, .rw, 0x10⟩, ⟨8, 7, .rw, 0x30⟩, ⟨16, 5, .rw, 2⟩]⟩,
   ⟨BUF_PROF_Y, 1, false, .both,
     [⟨0, 7, .rw, 8⟩, ⟨8, 7, .rw, 0x20⟩, ⟨16, 5, .rw, 4⟩]⟩,
   ⟨BUF_PROF_R, 1, false, .both,
     [⟨0, 7, .rw, 4⟩, ⟨8, 7, .rw, 0x10⟩, ⟨16, 5, .rw, 8⟩]⟩,
   ⟨BUF_MCAST, 1, true, .both,
     [⟨0, 13, .ro, 0⟩, ⟨32, 32, .ro, 0⟩]⟩]

/-- The registers of the CMB page, in table order. -/
def regMapCMB : List RegDesc :=
  [⟨CMB_CFG, 1, false, .both,
     [⟨0, 11, .rw, 0x20⟩, ⟨11, 1, .rw, 1⟩, ⟨12, 1, .rw, 1⟩, ⟨13, 1, .rw, 1⟩]⟩,
   ⟨CMB_STS, 1, false, .both,
     [⟨0, 14, .ro, 0⟩, ⟨16, 14, .rw, 0⟩]⟩,
   ⟨CMB_GROUPS, 1, true, .both,
     [⟨0, 64, .ro, 0⟩]⟩,
   ⟨CMB_MERGED, 1, true, .both,
     [⟨0, 64, .ro, 0⟩]⟩,
   ⟨CMB_NOENTRY, 1, false, .both,
     [⟨0, 32, .ro, 0⟩]⟩,
   ⟨CMB_OUT_STS, 1, true, .both,
     [⟨0, 16, .ro, 0⟩, ⟨32, 32, .ro, 0⟩]⟩,
   ⟨CMB_OUT_HITS, 1, true, .both,
     [⟨0, 32, .ro, 0⟩, ⟨32, 32, .ro, 0⟩]⟩,
   ⟨CMB_REQ_TMO, 1, false, .both,
     [⟨0, 32, .rw, 0x155cc⟩]⟩,
   ⟨CMB_OUT_HOLD, 1, false, .both,
     [⟨0, 32, .rw, 0x2ab98⟩]⟩]

/-- The registers of the RTE page, in table order. -/
def regMapRTE : List RegDesc :=
  [⟨RTE_PORT_SEL, 1, false, .both,
     [⟨0, 7, .rw, 0⟩]⟩,
   ⟨RTE_PORT_STS, 1, false, .both,
     [⟨0, 2, .ro, 0⟩, ⟨2, 1, .ro, 0⟩, ⟨3, 1, .ro, 0⟩, ⟨4, 1, .ro, 0⟩, ⟨5, 17, .ro, 0⟩]⟩,
   ⟨RTE_PORT_CTL, 1, false, .both,
     [⟨0, 1, .rw1s, 0⟩, ⟨1, 1, .rw, 0⟩, ⟨2, 17, .rw, 0⟩, ⟨19, 1, .rw, 0⟩]⟩,
   ⟨RTE_ROUTE_SEL, 1, false, .both,
     [⟨0, 6, .rw, 0⟩]⟩,
   ⟨RTE_ROUTE, 1, false, .both,
     [⟨0, 7, .rw, 0⟩, ⟨7, 1, .rw, 0⟩]⟩,
   ⟨RTE_LANE1, 1, false, .both,
     [⟨0, 24, .rw, 0x448444⟩]⟩,
   ⟨RTE_DISC, 1, true, .both,
     [⟨0, 16, .ro, 0⟩, ⟨16, 16, .ro, 0⟩, ⟨32, 16, .ro, 0⟩, ⟨48, 16, .ro, 0⟩]⟩,
   ⟨RTE_PROBES, 1, true, .both,
     [⟨0, 32, .ro, 0⟩, ⟨32, 32, .ro, 0⟩]⟩]

/-- The registers of the CGT page, in table order. -/
def regMapCGT : List RegDesc :=
  [⟨CGT_CTL, 1, false, .both,
     [⟨0, 1, .rw, 0⟩]⟩,
   ⟨CGT_WIN_LEN, 1, false, .both,
     [⟨0, 32, .rw, 0x2ab98⟩]⟩,
   ⟨CGT_WIN_NUM, 1, true, .both,
     [⟨0, 32, .ro, 0⟩, ⟨32, 32, .ro, 0⟩]⟩,
   ⟨CGT_SEL, 1, false, .both,
     [⟨0, 7, .rw, 0⟩, ⟨7, 3, .rw, 0⟩, ⟨10, 3, .rw, 0⟩]⟩,
   ⟨CGT_HIST, 1, false, .both,
     [⟨0, 32, .ro, 0⟩]⟩,
   ⟨CGT_CELLS, 1, true, .both,
     [⟨0, 32, .ro, 0⟩, ⟨32, 32, .ro, 0⟩]⟩,
   ⟨CGT_MAP, 4, true, .both,
     [⟨0, 64, .ro, 0⟩]⟩,
   ⟨CGT_PUSH, 1, false, .both,
     [⟨0, 1, .rw, 0⟩, ⟨1, 17, .rw, 0⟩]⟩,
   ⟨CGT_PUSH_STS, 1, true, .both,
     [⟨0, 32, .ro, 0⟩, ⟨32, 32, .ro, 0⟩]⟩]

/-- The registers of the LNK page, in table order. -/
def regMapLNK : List RegDesc :=
  [⟨LNK_CFG, 1, false, .both,
     [⟨0, 1, .rw, 1⟩, ⟨1, 1, .rw, 0⟩, ⟨8, 8, .rw, 8⟩]⟩,
   ⟨LNK_REPLAY_TMO, 1, false, .both,
     [⟨0, 16, .rw, 0x36b⟩]⟩,
   ⟨LNK_STS, 1, true, .both,
     [⟨0, 3, .ro, 0⟩, ⟨3, 1, .ro, 0⟩, ⟨4, 1, .ro, 0⟩, ⟨5, 1, .ro, 0⟩, ⟨6, 13, .ro, 0⟩, ⟨32, 16, .ro, 0⟩]⟩,
   ⟨LNK_TX_CTR, 1, true, .both,
     [⟨0, 41, .ro, 0⟩]⟩,
   ⟨LNK_REKEY, 1, false, .both,
     [⟨0, 1, .wo, 0⟩, ⟨1, 1, .ro, 0⟩, ⟨8, 6, .rw, 0x27⟩]⟩,
   ⟨LNK_RETRY, 1, true, .both,
     [⟨0, 32, .ro, 0⟩, ⟨32, 32, .ro, 0⟩]⟩,
   ⟨LNK_FLIT_ERR, 1, true, .both,
     [⟨0, 32, .ro, 0⟩, ⟨32, 32, .ro, 0⟩]⟩,
   ⟨LNK_SEAL_ERR, 1, true, .both,
     [⟨0, 32, .ro, 0⟩, ⟨32, 32, .ro, 0⟩]⟩,
   ⟨LNK_PEER_ID, 8, true, .both,
     [⟨0, 64, .ro, 0⟩]⟩]

/-- The registers of the FPT page, in table order. -/
def regMapFPT : List RegDesc :=
  [⟨FPT_CFG, 1, false, .both,
     [⟨0, 2, .rw, 0⟩, ⟨2, 2, .rw, 2⟩, ⟨4, 5, .rw, 0⟩, ⟨12, 4, .rw, 8⟩, ⟨16, 1, .rw, 0⟩, ⟨17, 1, .rw, 1⟩]⟩,
   ⟨FPT_CTL, 1, false, .both,
     [⟨0, 1, .wo, 0⟩, ⟨1, 1, .wo, 0⟩, ⟨2, 1, .rw, 0⟩, ⟨4, 2, .rw, 0⟩]⟩,
   ⟨FPT_STS, 1, true, .both,
     [⟨0, 3, .ro, 0⟩, ⟨3, 2, .ro, 0⟩, ⟨5, 1, .ro, 0⟩, ⟨6, 1, .ro, 0⟩, ⟨7, 1, .ro, 0⟩, ⟨8, 5, .ro, 0⟩, ⟨13, 4, .ro, 0⟩, ⟨32, 16, .ro, 0⟩]⟩,
   ⟨FPT_PARTNER, 1, true, .both,
     [⟨0, 3, .ro, 0⟩, ⟨3, 2, .ro, 0⟩, ⟨5, 1, .ro, 0⟩, ⟨6, 1, .ro, 0⟩, ⟨7, 17, .ro, 0⟩, ⟨24, 16, .ro, 0⟩, ⟨40, 7, .ro, 0⟩, ⟨47, 3, .ro, 0⟩, ⟨50, 1, .ro, 0⟩, ⟨51, 1, .ro, 0⟩, ⟨52, 3, .ro, 0⟩]⟩,
   ⟨FPT_RTT, 1, false, .both,
     [⟨0, 14, .ro, 0⟩]⟩,
   ⟨FPT_TIMES, 1, true, .both,
     [⟨0, 32, .ro, 0⟩, ⟨32, 32, .ro, 0⟩]⟩,
   ⟨FPT_EVENTS, 1, true, .both,
     [⟨0, 16, .ro, 0⟩, ⟨16, 16, .ro, 0⟩, ⟨32, 16, .ro, 0⟩, ⟨48, 16, .ro, 0⟩]⟩,
   ⟨FPT_SHED_CFG, 1, false, .both,
     [⟨0, 16, .rw, 0x100⟩, ⟨16, 16, .rw, 0xaf⟩]⟩,
   ⟨FPT_TMO, 1, false, .both,
     [⟨0, 32, .rw, 0x1ab3f0⟩]⟩]

/-- The registers of the QAD page, in table order. -/
def regMapQAD : List RegDesc :=
  [⟨QAD_CFG, 1, false, .both,
     [⟨0, 2, .rw, 1⟩]⟩,
   ⟨QAD_STS, 1, false, .both,
     [⟨0, 1, .ro, 0⟩, ⟨1, 1, .ro, 0⟩, ⟨2, 4, .ro, 0⟩]⟩,
   ⟨QAD_LANE_STS, 1, false, .both,
     [⟨0, 3, .ro, 0⟩, ⟨3, 1, .ro, 0⟩, ⟨4, 1, .ro, 0⟩, ⟨8, 8, .ro, 0⟩]⟩,
   ⟨QAD_LANE_TX_EQ, 1, false, .both,
     [⟨0, 6, .rw, 0⟩, ⟨8, 6, .rw, 0⟩, ⟨16, 6, .rw, 0⟩, ⟨24, 6, .rw, 0⟩, ⟨31, 1, .rw, 0⟩]⟩,
   ⟨QAD_LANE_RX_EQ, 1, false, .both,
     [⟨0, 6, .ro, 0⟩, ⟨8, 6, .ro, 0⟩]⟩,
   ⟨QAD_LANE_SYM_CE, 1, true, .both,
     [⟨0, 32, .rw, 0⟩, ⟨32, 32, .ro, 0⟩]⟩,
   ⟨QAD_LANE_LOCK_LOSS, 1, false, .both,
     [⟨0, 16, .ro, 0⟩]⟩,
   ⟨QAD_LANE_PAT_CTL, 1, false, .both,
     [⟨0, 2, .rw, 0⟩, ⟨2, 2, .rw, 0⟩, ⟨4, 1, .ro, 0⟩]⟩,
   ⟨QAD_LANE_PAT_ERR, 1, true, .both,
     [⟨0, 32, .rw, 0⟩, ⟨32, 32, .rw, 0⟩]⟩]

/-- The registers of the QUE page, in table order. -/
def regMapQUE : List RegDesc :=
  [⟨QUE_QSEL, 1, false, .both,
     [⟨0, 8, .rw, 0⟩]⟩,
   ⟨QUE_Q_CFG, 1, false, .both,
     [⟨0, 1, .rw, 0⟩, ⟨1, 5, .rw, 4⟩, ⟨6, 10, .rw, 0⟩, ⟨16, 2, .rw, 0⟩, ⟨18, 1, .rw, 0⟩, ⟨19, 4, .rw, 1⟩]⟩,
   ⟨QUE_Q_BASE, 1, true, .both,
     [⟨12, 40, .rw, 0⟩]⟩,
   ⟨QUE_Q_CPL, 1, true, .both,
     [⟨4, 48, .rw, 0⟩]⟩,
   ⟨QUE_Q_DONE_ADDR, 1, true, .both,
     [⟨0, 1, .rw, 0⟩, ⟨3, 49, .rw, 0⟩]⟩,
   ⟨QUE_Q_TAIL, 1, false, .both,
     [⟨0, 32, .rw, 0⟩]⟩,
   ⟨QUE_Q_HEAD, 1, false, .both,
     [⟨0, 32, .ro, 0⟩]⟩,
   ⟨QUE_Q_DONE, 1, false, .both,
     [⟨0, 32, .ro, 0⟩]⟩,
   ⟨QUE_Q_STS, 1, false, .both,
     [⟨0, 2, .ro, 0⟩, ⟨2, 2, .ro, 0⟩, ⟨16, 16, .ro, 0⟩]⟩,
   ⟨QUE_Q_LOST, 1, true, .both,
     [⟨0, 32, .ro, 0⟩, ⟨32, 17, .ro, 0⟩]⟩]

/-- The registers of the RLY page, in table order. -/
def regMapRLY : List RegDesc :=
  [⟨RLY_PMAP_X, 1, true, .both,
     [⟨0, 64, .rw, 0xaaaaaaaaaaaaaaaa⟩]⟩,
   ⟨RLY_PMAP_Y, 1, true, .both,
     [⟨0, 64, .rw, 0xaaaaaaaaaaaaaaaa⟩]⟩,
   ⟨RLY_PMAP_Z, 1, true, .both,
     [⟨0, 64, .rw, 0xaaaaaaaaaaaaaaaa⟩]⟩,
   ⟨RLY_FLIP_SETTLE, 1, false, .both,
     [⟨0, 32, .rw, 0x6d6⟩]⟩,
   ⟨RLY_LANE1, 1, false, .both,
     [⟨0, 24, .rw, 0x448444⟩]⟩,
   ⟨RLY_DOWN_SEL, 1, false, .both,
     [⟨0, 2, .rw, 1⟩, ⟨2, 1, .rw, 0⟩]⟩,
   ⟨RLY_DOWN_MAP, 1, true, .both,
     [⟨0, 64, .ro, 0⟩]⟩,
   ⟨RLY_SPLIT_SEL, 1, false, .both,
     [⟨0, 6, .rw, 0⟩]⟩,
   ⟨RLY_SPLIT_ENTRY, 1, true, .both,
     [⟨0, 17, .rw, 0⟩, ⟨17, 17, .rw, 0⟩, ⟨34, 3, .rw, 0⟩, ⟨37, 1, .rw, 0⟩, ⟨38, 1, .rw, 0⟩]⟩,
   ⟨RLY_DISC, 1, true, .both,
     [⟨0, 32, .ro, 0⟩, ⟨32, 32, .ro, 0⟩]⟩,
   ⟨RLY_RELAYED, 1, true, .both,
     [⟨0, 64, .ro, 0⟩]⟩]

/-- The registers of the BRD page, in table order. -/
def regMapBRD : List RegDesc :=
  [⟨BRD_SEL, 1, false, .both,
     [⟨0, 2, .rw, 0⟩, ⟨2, 2, .rw, 0⟩]⟩,
   ⟨BRD_CFG, 1, false, .both,
     [⟨0, 14, .rw, 0x40⟩, ⟨14, 4, .rw, 5⟩, ⟨18, 14, .rw, 0x20⟩]⟩,
   ⟨BRD_TIMING, 1, false, .both,
     [⟨0, 16, .rw, 0xaf⟩, ⟨16, 16, .rw, 0x40⟩]⟩,
   ⟨BRD_RATE, 1, false, .both,
     [⟨0, 14, .rw, 0x3fff⟩]⟩,
   ⟨BRD_STATS, 1, true, .both,
     [⟨0, 32, .ro, 0⟩, ⟨32, 32, .ro, 0⟩]⟩,
   ⟨BRD_IGNORED, 1, false, .both,
     [⟨0, 32, .ro, 0⟩]⟩]

/-- The registers of the DDP page, in table order. -/
def regMapDDP : List RegDesc :=
  [⟨DDP_CFG, 1, false, .both,
     [⟨0, 32, .rw, 0x2ab98⟩]⟩,
   ⟨DDP_STS, 1, true, .both,
     [⟨0, 15, .ro, 0⟩, ⟨32, 32, .ro, 0⟩]⟩,
   ⟨DDP_HITS, 1, true, .both,
     [⟨0, 32, .ro, 0⟩, ⟨32, 32, .ro, 0⟩]⟩,
   ⟨DDP_RESEND, 1, true, .both,
     [⟨0, 32, .ro, 0⟩, ⟨32, 32, .ro, 0⟩]⟩,
   ⟨DDP_RELEASE, 1, true, .both,
     [⟨0, 32, .ro, 0⟩, ⟨32, 32, .ro, 0⟩]⟩]

/-- The registers of the UCI page, in table order. -/
def regMapUCI : List RegDesc :=
  [⟨UCI_STS, 1, false, .both,
     [⟨0, 1, .ro, 0⟩, ⟨1, 8, .ro, 0⟩, ⟨9, 2, .ro, 0⟩]⟩,
   ⟨UCI_CFG, 1, false, .both,
     [⟨0, 32, .rw, 0x445c⟩]⟩,
   ⟨UCI_ERR, 1, true, .both,
     [⟨0, 32, .ro, 0⟩, ⟨32, 32, .ro, 0⟩]⟩,
   ⟨UCI_EVENTS, 1, false, .both,
     [⟨0, 16, .ro, 0⟩, ⟨16, 16, .ro, 0⟩]⟩]

/-- The registers of the CXU page, in table order. -/
def regMapCXU : List RegDesc :=
  [⟨CXU_STS, 1, false, .both,
     [⟨0, 1, .ro, 0⟩, ⟨1, 1, .ro, 0⟩, ⟨2, 5, .ro, 0⟩, ⟨7, 3, .ro, 0⟩, ⟨10, 1, .rw, 0⟩, ⟨11, 1, .ro, 0⟩, ⟨12, 1, .ro, 0⟩, ⟨13, 2, .ro, 0⟩]⟩,
   ⟨CXU_HDM_SEL, 1, false, .both,
     [⟨0, 5, .rw, 0⟩]⟩,
   ⟨CXU_HDM_VIEW, 1, true, .both,
     [⟨0, 1, .ro, 0⟩, ⟨1, 1, .ro, 0⟩, ⟨2, 6, .ro, 0⟩, ⟨8, 20, .ro, 0⟩, ⟨28, 12, .ro, 0⟩]⟩,
   ⟨CXU_HOST_ERR0, 1, true, .both,
     [⟨6, 40, .ro, 0⟩, ⟨46, 8, .ro, 0⟩, ⟨54, 1, .ro, 0⟩, ⟨63, 1, .rw1c, 0⟩]⟩,
   ⟨CXU_HOST_ERR1, 1, true, .both,
     [⟨0, 32, .ro, 0⟩, ⟨32, 32, .rw, 0⟩]⟩,
   ⟨CXU_INV_SUBMIT, 4, true, .both,
     [⟨0, 64, .wo, 0⟩]⟩,
   ⟨CXU_INV_RING_BASE, 1, true, .both,
     [⟨12, 52, .rw, 0⟩]⟩,
   ⟨CXU_INV_CFG, 1, false, .both,
     [⟨0, 1, .rw, 0⟩, ⟨1, 4, .rw, 6⟩]⟩,
   ⟨CXU_INV_PROD, 1, false, .both,
     [⟨0, 32, .ro, 0⟩]⟩,
   ⟨CXU_INV_CONS, 1, false, .both,
     [⟨0, 32, .rw, 0⟩]⟩,
   ⟨CXU_INV_TMO, 1, false, .both,
     [⟨0, 32, .rw, 0x2ab98⟩]⟩,
   ⟨CXU_INV_STS, 1, true, .both,
     [⟨0, 7, .ro, 0⟩, ⟨32, 32, .ro, 0⟩]⟩]

/-- The registers of the CXD page, in table order. -/
def regMapCXD : List RegDesc :=
  [⟨CXD_STS, 1, false, .both,
     [⟨0, 1, .ro, 0⟩, ⟨1, 5, .ro, 0⟩, ⟨6, 3, .ro, 0⟩, ⟨9, 1, .ro, 0⟩, ⟨10, 1, .ro, 0⟩, ⟨11, 4, .ro, 0⟩]⟩,
   ⟨CXD_CTL, 1, false, .both,
     [⟨0, 1, .wo, 0⟩]⟩,
   ⟨CXD_CFG, 1, false, .both,
     [⟨0, 1, .rw, 0⟩]⟩,
   ⟨CXD_CAPACITY, 1, true, .both,
     [⟨0, 48, .ro, 0⟩]⟩,
   ⟨CXD_SERIAL, 1, true, .both,
     [⟨0, 64, .ro, 0⟩]⟩,
   ⟨CXD_DEV_TMO, 1, false, .both,
     [⟨0, 32, .rw, 0x445c⟩]⟩,
   ⟨CXD_ERRS, 1, true, .both,
     [⟨0, 32, .ro, 0⟩, ⟨32, 32, .ro, 0⟩]⟩,
   ⟨CXD_ERR_ADDR, 1, true, .both,
     [⟨7, 37, .ro, 0⟩, ⟨44, 2, .ro, 0⟩, ⟨46, 1, .rw1c, 0⟩]⟩]

/-- The registers of the SEC page, in table order. -/
def regMapSEC : List RegDesc :=
  [⟨SEC_STS, 1, false, .both,
     [⟨0, 2, .ro, 0⟩, ⟨2, 1, .ro, 0⟩, ⟨3, 1, .ro, 0⟩]⟩,
   ⟨SEC_DEVID, 8, true, .both,
     [⟨0, 64, .ro, 0⟩]⟩,
   ⟨SEC_ALIAS, 8, true, .both,
     [⟨0, 64, .ro, 0⟩]⟩,
   ⟨SEC_EVENTS, 1, true, .both,
     [⟨0, 32, .ro, 0⟩, ⟨32, 32, .ro, 0⟩]⟩,
   ⟨SEC_PEER_SEL, 1, false, .both,
     [⟨0, 7, .rw, 0⟩]⟩,
   ⟨SEC_PEER, 8, true, .both,
     [⟨0, 64, .ro, 0⟩]⟩]

/-- The registers of the ATT page, in table order. -/
def regMapATT : List RegDesc :=
  [⟨ATT_SEL, 1, false, .both,
     [⟨0, 3, .rw, 0⟩]⟩,
   ⟨ATT_BLK_STS, 1, true, .both,
     [⟨0, 1, .ro, 0⟩, ⟨32, 32, .ro, 0⟩]⟩,
   ⟨ATT_GEN, 1, true, .both,
     [⟨0, 64, .ro, 0⟩]⟩,
   ⟨ATT_DIGEST, 8, true, .both,
     [⟨0, 64, .ro, 0⟩]⟩]

/-- The registers of the DCT page, in table order. -/
def regMapDCT : List RegDesc :=
  [⟨DCT_STS, 1, false, .both,
     [⟨0, 2, .ro, 0⟩, ⟨2, 1, .ro, 0⟩, ⟨3, 1, .ro, 0⟩, ⟨4, 1, .ro, 0⟩, ⟨5, 1, .ro, 0⟩, ⟨6, 3, .ro, 0⟩, ⟨9, 1, .ro, 0⟩, ⟨10, 1, .ro, 0⟩]⟩,
   ⟨DCT_SEQ, 1, true, .both,
     [⟨0, 64, .ro, 0⟩]⟩,
   ⟨DCT_STAGE_CTL, 1, false, .both,
     [⟨0, 1, .wo, 0⟩, ⟨1, 1, .wo, 0⟩, ⟨2, 1, .wo, 0⟩, ⟨3, 7, .wo, 0⟩]⟩,
   ⟨DCT_REC_IDX, 1, false, .both,
     [⟨0, 12, .rw, 0⟩, ⟨12, 13, .ro, 0⟩]⟩,
   ⟨DCT_REC_W0, 1, true, .both,
     [⟨0, 64, .rw, 0⟩]⟩,
   ⟨DCT_REC_W1, 1, true, .both,
     [⟨0, 64, .rw, 0⟩]⟩,
   ⟨DCT_DIGEST, 8, true, .both,
     [⟨0, 64, .ro, 0⟩]⟩,
   ⟨DCT_SIG_CTL, 1, false, .both,
     [⟨0, 1, .rw, 0⟩, ⟨1, 1, .wo, 0⟩, ⟨2, 1, .wo, 0⟩]⟩,
   ⟨DCT_SIG_DATA, 1, true, .both,
     [⟨0, 64, .wo, 0⟩]⟩,
   ⟨DCT_RESULT, 1, true, .both,
     [⟨0, 8, .ro, 0⟩, ⟨8, 8, .ro, 0⟩, ⟨16, 12, .ro, 0⟩, ⟨32, 32, .ro, 0⟩]⟩,
   ⟨DCT_WINDOW, 1, false, .both,
     [⟨0, 32, .rw, 0x684ee180⟩]⟩,
   ⟨DCT_PEND, 1, true, .both,
     [⟨0, 6, .ro, 0⟩, ⟨32, 32, .ro, 0⟩]⟩] ++
  [⟨DCT_OPKEY_SEL, 1, false, .both,
     [⟨0, 2, .rw, 0⟩, ⟨2, 1, .ro, 0⟩, ⟨3, 1, .ro, 0⟩]⟩,
   ⟨DCT_OPKEY, 8, true, .both,
     [⟨0, 64, .ro, 0⟩]⟩,
   ⟨DCT_OPKEY_NEW, 8, true, .both,
     [⟨0, 64, .rwl, 0⟩]⟩]

/-- The registers of the PTN page, in table order. -/
def regMapPTN : List RegDesc :=
  [⟨PTN_SEL, 1, false, .both,
     [⟨0, 6, .rw, 0⟩]⟩,
   ⟨PTN_ENTRY, 1, false, .both,
     [⟨0, 1, .rwl, 0⟩, ⟨1, 1, .rwl, 0⟩, ⟨2, 12, .rwl, 0⟩, ⟨14, 4, .rwl, 0⟩, ⟨18, 1, .rwl, 0⟩, ⟨19, 1, .rwl, 0⟩, ⟨20, 10, .rwl, 0⟩, ⟨30, 1, .rwl, 0⟩]⟩,
   ⟨PTN_TKEY, 8, true, .both,
     [⟨0, 64, .rwl, 0⟩]⟩,
   ⟨PTN_ROS_SEL, 1, false, .both,
     [⟨0, 14, .rw, 0⟩]⟩,
   ⟨PTN_ROS_ENTRY, 1, false, .both,
     [⟨0, 1, .rwl, 0⟩, ⟨1, 17, .rwl, 0⟩]⟩,
   ⟨PTN_ROS_MASK, 1, true, .both,
     [⟨0, 64, .rwl, 0⟩]⟩]

/-- The registers of the CTX page, in table order. -/
def regMapCTX : List RegDesc :=
  [⟨CTX_SEL, 1, false, .both,
     [⟨0, 10, .rw, 0⟩]⟩,
   ⟨CTX_ENTRY, 1, false, .both,
     [⟨0, 1, .rwl, 0⟩, ⟨1, 6, .rwl, 0⟩, ⟨7, 1, .rwl, 0⟩, ⟨8, 1, .rwl, 0⟩]⟩,
   ⟨CTX_STS, 1, false, .switchOnly,
     [⟨0, 1, .ro, 0⟩, ⟨1, 1, .ro, 0⟩, ⟨2, 13, .ro, 0⟩]⟩,
   ⟨CTX_TOTALS, 1, false, .both,
     [⟨0, 11, .ro, 0⟩, ⟨11, 11, .ro, 0⟩]⟩,
   ⟨CTX_PTN_MASK, 1, true, .endpointOnly,
     [⟨0, 64, .rwl, 0⟩]⟩,
   ⟨CTX_APPLIED_SW, 1, false, .endpointOnly,
     [⟨0, 16, .ro, 0⟩]⟩,
   ⟨CTX_APPLIED_SEQ, 1, true, .endpointOnly,
     [⟨0, 64, .ro, 0⟩]⟩]

/-- The registers of the MGT page, in table order. -/
def regMapMGT : List RegDesc :=
  [⟨MGT_CORE_STS, 1, false, .both,
     [⟨0, 8, .ro, 0⟩, ⟨8, 2, .ro, 0⟩, ⟨10, 1, .ro, 0⟩, ⟨11, 1, .ro, 0⟩]⟩,
   ⟨MGT_WDT_CFG, 1, false, .both,
     [⟨0, 32, .rw, 0x10b0760⟩]⟩,
   ⟨MGT_WDT_PET, 1, false, .both,
     [⟨0, 4, .wo, 0⟩]⟩,
   ⟨MGT_WDT_EVT, 1, true, .both,
     [⟨0, 16, .rws, 0⟩, ⟨16, 3, .rws, 0⟩, ⟨32, 32, .rws, 0⟩]⟩,
   ⟨MGT_HB, 1, false, .both,
     [⟨0, 32, .wo, 0⟩]⟩,
   ⟨MGT_HB_CFG, 1, false, .both,
     [⟨0, 32, .rw, 0x10b0760⟩]⟩,
   ⟨MGT_HB_STS, 1, true, .both,
     [⟨0, 2, .ro, 0⟩, ⟨2, 1, .ro, 0⟩, ⟨3, 1, .ro, 1⟩, ⟨4, 12, .ro, 0⟩, ⟨32, 32, .ro, 0⟩]⟩,
   ⟨MGT_MB_CMD, 1, false, .both,
     [⟨0, 8, .wo, 0⟩]⟩,
   ⟨MGT_MB_STS, 1, false, .both,
     [⟨0, 8, .ro, 0⟩, ⟨8, 1, .ro, 0⟩]⟩,
   ⟨MGT_FEAT, 1, true, .both,
     [⟨0, 64, .ro, 0⟩]⟩,
   ⟨MGT_FW_STS, 1, true, .both,
     [⟨0, 1, .ro, 0⟩, ⟨1, 1, .ro, 0⟩, ⟨2, 8, .ro, 0⟩, ⟨10, 3, .ro, 0⟩, ⟨13, 8, .ro, 0⟩, ⟨21, 8, .ro, 0⟩, ⟨32, 32, .ro, 0⟩]⟩,
   ⟨MGT_FW_CFG, 1, false, .both,
     [⟨0, 1, .rw, 0⟩, ⟨1, 1, .wo, 0⟩]⟩] ++
  [⟨MGT_FW_VER, 1, true, .both,
     [⟨0, 32, .ro, 0⟩, ⟨32, 32, .ro, 0⟩]⟩,
   ⟨MGT_MB_REQ, 16, true, .both,
     [⟨0, 64, .rw, 0⟩]⟩,
   ⟨MGT_MB_RSP, 16, true, .both,
     [⟨0, 64, .ro, 0⟩]⟩]

/-- The registers of the SBP page, in table order. -/
def regMapSBP : List RegDesc :=
  [⟨SBP_STS, 1, false, .both,
     [⟨0, 2, .ro, 1⟩, ⟨2, 7, .ro, 0⟩, ⟨9, 7, .ro, 0⟩, ⟨16, 1, .ro, 0⟩, ⟨17, 1, .ro, 0⟩]⟩,
   ⟨SBP_CFG, 1, false, .both,
     [⟨0, 1, .rw, 1⟩, ⟨1, 1, .rw, 1⟩, ⟨2, 1, .rw, 1⟩]⟩,
   ⟨SBP_ALERT, 1, false, .both,
     [⟨0, 10, .ro, 0⟩, ⟨10, 1, .rw1c, 0⟩]⟩,
   ⟨SBP_COUNTS, 1, true, .both,
     [⟨0, 32, .ro, 0⟩, ⟨32, 32, .ro, 0⟩]⟩]

/-- The registers of the CLK page, in table order. -/
def regMapCLK : List RegDesc :=
  [⟨CLK_STS, 1, false, .both,
     [⟨0, 1, .ro, 0⟩, ⟨1, 1, .ro, 0⟩, ⟨2, 1, .ro, 0⟩]⟩,
   ⟨CLK_LTC, 1, true, .both,
     [⟨0, 64, .ro, 0⟩]⟩,
   ⟨CLK_MON, 1, false, .both,
     [⟨0, 16, .ro, 0⟩, ⟨16, 16, .ro, 0⟩]⟩]

/-- The registers of the PWR page, in table order. -/
def regMapPWR : List RegDesc :=
  [⟨PWR_STS, 1, false, .both,
     [⟨0, 2, .ro, 0⟩, ⟨2, 2, .ro, 0⟩, ⟨4, 1, .ro, 0⟩, ⟨5, 1, .ro, 0⟩, ⟨6, 2, .ro, 0⟩, ⟨8, 1, .ro, 0⟩, ⟨9, 1, .ro, 0⟩]⟩,
   ⟨PWR_DRAW, 1, true, .both,
     [⟨0, 16, .ro, 0⟩, ⟨16, 16, .ro, 0⟩, ⟨32, 16, .ro, 0⟩, ⟨48, 16, .ro, 0⟩]⟩,
   ⟨PWR_CTL, 1, false, .both,
     [⟨0, 2, .rw, 0⟩, ⟨2, 1, .rw, 1⟩]⟩,
   ⟨PWR_BURNISH, 1, false, .both,
     [⟨0, 7, .rw, 0x46⟩, ⟨8, 12, .rw, 0x64⟩]⟩,
   ⟨PWR_HOLD, 1, false, .both,
     [⟨0, 32, .rw, 0x1ab3f0⟩]⟩,
   ⟨PWR_THERM_CFG, 1, false, .both,
     [⟨0, 32, .rw, 0x10b0760⟩]⟩,
   ⟨PWR_TEMP, 1, false, .both,
     [⟨0, 8, .ro, 0⟩, ⟨8, 4, .ro, 0⟩]⟩,
   ⟨PWR_EVENTS, 1, true, .both,
     [⟨0, 16, .ro, 0⟩, ⟨16, 16, .ro, 0⟩, ⟨32, 16, .ro, 0⟩, ⟨48, 16, .ro, 0⟩]⟩,
   ⟨PWR_EP_RST, 1, false, .endpointOnly,
     [⟨0, 1, .wo, 0⟩, ⟨1, 1, .wo, 0⟩, ⟨2, 1, .ro, 0⟩]⟩]

/-- The registers of the RST page, in table order. -/
def regMapRST : List RegDesc :=
  [⟨RST_CTL, 1, false, .both,
     [⟨0, 1, .wo, 0⟩, ⟨1, 1, .wo, 0⟩, ⟨2, 1, .wo, 0⟩]⟩,
   ⟨RST_STS, 1, true, .both,
     [⟨0, 4, .ro, 3⟩, ⟨4, 1, .ro, 0⟩, ⟨5, 2, .ro, 0⟩, ⟨32, 32, .ro, 0⟩]⟩,
   ⟨RST_CAUSE, 1, false, .both,
     [⟨0, 3, .rws, 0⟩, ⟨16, 16, .rws, 0⟩]⟩,
   ⟨RST_STRAPS, 1, false, .both,
     [⟨0, 2, .ro, 0⟩, ⟨2, 1, .ro, 0⟩, ⟨3, 3, .ro, 0⟩]⟩]

/-- The registers of the HDR page, in table order. -/
def regMapHDR : List RegDesc :=
  [⟨HDR_PAGE_ID, 1, false, .both,
     [⟨0, 8, .ro, 0⟩, ⟨8, 8, .ro, 0⟩, ⟨16, 8, .ro, 1⟩, ⟨24, 8, .ro, 0⟩]⟩,
   ⟨HDR_PAGE_CAP, 1, false, .both,
     [⟨0, 1, .ro, 0⟩, ⟨1, 1, .ro, 0⟩, ⟨2, 1, .ro, 0⟩, ⟨3, 1, .ro, 0⟩, ⟨4, 1, .ro, 0⟩, ⟨5, 1, .ro, 0⟩, ⟨6, 1, .ro, 0⟩, ⟨8, 3, .ro, 0⟩]⟩,
   ⟨HDR_PAGE_CTL, 1, false, .both,
     [⟨0, 1, .rw, 1⟩, ⟨1, 1, .wo, 0⟩, ⟨2, 1, .rw1s, 0⟩]⟩,
   ⟨HDR_PAGE_STS, 1, false, .both,
     [⟨0, 1, .ro, 0⟩, ⟨1, 1, .ro, 0⟩, ⟨2, 1, .ro, 0⟩, ⟨3, 1, .ro, 0⟩]⟩,
   ⟨HDR_INT_CAUSE, 1, false, .both,
     [⟨0, 32, .rw1c, 0⟩]⟩,
   ⟨HDR_INT_MASK, 1, false, .both,
     [⟨0, 32, .rw, 0xffffffff⟩]⟩,
   ⟨HDR_INT_FORCE, 1, false, .both,
     [⟨0, 32, .wo, 0⟩]⟩,
   ⟨HDR_INT_ROUTE, 1, false, .both,
     [⟨0, 11, .rw, 0⟩, ⟨16, 1, .rw, 0⟩, ⟨17, 1, .rw, 0⟩]⟩,
   ⟨HDR_ERR_FIRST, 1, true, .both,
     [⟨0, 16, .ro, 0⟩, ⟨16, 1, .ro, 0⟩, ⟨32, 32, .ro, 0⟩]⟩,
   ⟨HDR_ERR_COUNT, 1, false, .both,
     [⟨0, 32, .rw, 0⟩]⟩,
   ⟨HDR_LOCK, 1, false, .both,
     [⟨0, 2, .ro, 0⟩, ⟨16, 16, .ro, 0⟩]⟩]

/-- The registers of the GLB page, in table order. -/
def regMapGLB : List RegDesc :=
  [⟨GLB_ID, 1, false, .both,
     [⟨0, 16, .ro, 0⟩, ⟨16, 4, .ro, 0⟩, ⟨20, 4, .ro, 0⟩]⟩,
   ⟨GLB_SERIAL, 1, true, .both,
     [⟨0, 64, .ro, 0⟩]⟩,
   ⟨GLB_STS, 1, false, .both,
     [⟨0, 1, .ro, 0⟩, ⟨1, 1, .ro, 0⟩]⟩,
   ⟨GLB_SWITCH_GROUP, 1, false, .switchOnly,
     [⟨0, 12, .rws, 0⟩, ⟨12, 1, .ro, 0⟩, ⟨16, 12, .ro, 0⟩, ⟨28, 1, .ro, 0⟩]⟩,
   ⟨GLB_LAYOUT, 1, false, .switchOnly,
     [⟨0, 1, .rws, 0⟩, ⟨1, 1, .ro, 0⟩, ⟨2, 1, .ro, 0⟩]⟩]

/-- The registers of the ERR page, in table order. -/
def regMapERR : List RegDesc :=
  [⟨ERR_LOG_STS, 1, true, .both,
     [⟨0, 9, .ro, 0⟩, ⟨32, 32, .ro, 0⟩]⟩,
   ⟨ERR_LOG_CTL, 1, false, .both,
     [⟨0, 1, .wo, 0⟩]⟩,
   ⟨ERR_LATEST, 1, true, .both,
     [⟨0, 16, .ro, 0⟩, ⟨16, 10, .ro, 0⟩, ⟨32, 32, .ro, 0⟩]⟩,
   ⟨ERR_LOG, 4, true, .both,
     [⟨0, 64, .ro, 0⟩]⟩]

end Sys2Proof.Machine
end

