-- ==== Sys2Proof/Machine/PortLoss.lean ====
section
/-! DEFINITION. A link going down and what follows from it: the lost sequence state (R311), the port leaving ACTIVE (R283, R286), the endpoint's move to the other plane (R283, R287) and the loss of its copies with its last link (R63, R135). -/

namespace Sys2Proof.Machine

/-- Shifts a lane field to its sub-page (R343). -/
def laneFld (f : Fld) (lane : Nat) : Fld := f.shift (0x100 * (lane % 4))

/-- A field of a lane's sub-page. -/
def State.laneGet (s : State) (p : Part) (lane : Nat) (f : Fld) : Nat := s.get p (laneFld f lane) 0 (lane / 4)

/-- Stores a field of a lane's sub-page. -/
def State.lanePut (s : State) (p : Part) (lane : Nat) (f : Fld) (v : Nat) : State := s.put p (laneFld f lane) v 0 (lane / 4)

/-- Sets the state of the lanes of a port that a mask names: LANE_STS.STATE, and QAD.STS.IN_USE for the lanes of a link; a pattern checker runs only in LOOPBACK (R340). -/
def State.lanesTo (s : State) (p : Part) (n mask st : Nat) : State :=
  (upTo (s.width p n)).foldl (fun s i =>
    if mask.testBit i then
      let l := s.laneBase p n + i
      let s := s.lanePut p l QAD_LANE_STS_STATE st
      let s := s.when (st != 6) fun s => s.lanePut p l QAD_LANE_PAT_CTL_CHK_LOCK 0
      let q := s.get p QAD_STS_IN_USE 0 (l / 4)
      let bit := 2 ^ (l % 4)
      s.put p QAD_STS_IN_USE (if st == 0 then q &&& (15 ^^^ bit) else q ||| bit) 0 (l / 4)
    else s) s

/-- A notice of a port's coordinate to the endpoint of another port: ROUTE_DOWN or ROUTE_UP (R286, R296). -/
def State.routeNotice (s : State) (op port dst : Nat) : Packet :=
  sealPkt { dst := dst, src := s.switchId, tc := 4, op := op, addr := targetForm 0 dst 0, srcSw := true,
            aux := s.swAxisNo + 4 * s.get .sw RST_STRAPS_PLANE_SEL + 8 * port }

/-- Multicasts ROUTE_DOWN or ROUTE_UP for a port to the endpoints of the other ACTIVE ports, each through its own port (R259, R285, R286). DEDUCED, log 54. -/
def State.routeNotices (s : State) (op port : Nat) : State :=
  let g := s.sw.core.nextId
  (s.portList .sw).foldl (fun s m =>
    if m != port && s.portState m == 2 then
      (s.enqueue none (.fabric m) (s.routeNotice op (coordOf s.swAxisNo (s.partnerOf port)) (s.partnerOf m)) (some g)).count .sw RTE_PROBES_NOTICES
    else s) s

/-- A switch port enters DOWN: the release conditions are cleared, the packets queued for it and from it are discarded with their credit returned, and a port that was ACTIVE is announced (R283, R285, R286); the agents and the herd members behind it are lost (R130, R206). -/
def State.leaveActive (s : State) (n : Nat) : State :=
  let was := s.portState n
  -- a packet that has begun to cross from the port is no longer held in its ingress queues alone, and goes on (R249)
  let gone (q : QEntry) : Bool := q.egress == .fabric n || (q.origin == some n && q.sent == 0)
  let lost := (s.sw.core.queue.filter gone).length
  let s := s.when (was == 2) fun s => s.routeNotices opROUTE_DOWN n
  let s := (s.count .sw RTE_DISC_PORT_FLUSH lost).dropQueued gone
  let s := s.onCore fun c => { c with probes := c.probes.filter (·.port != n) }
  let s := s.wr .sw RTE_PORT_STS 0 (n + 1)
  let s := s.put .sw RTE_PORT_CTL_ROUTE_OK 0 (n + 1)
  let s := { s with sw := { s.sw with dct := { s.sw.dct with pend := removeAt s.sw.dct.pend n } } }
  let s := s.put .sw DCT_PEND_PENDING s.sw.dct.pend.length
  s.when (was == 2) fun s => ((s.agentsPortLost n).herdsPortLost n).endWaiting

/-- Stores CTX fields that the mesh binding gives (R423). -/
def State.meshBind (s : State) : State :=
  let s := (s.put .ep CTX_ENTRY_VALID 1 1).put .ep CTX_ENTRY_PARTITION 0 1
  let s := (s.put .ep CTX_ENTRY_CTL_PRIV 1 1).wr .ep CTX_PTN_MASK 1
  let s := (s.wr .ep CTX_APPLIED_SW 0).wr .ep CTX_APPLIED_SEQ 0
  (s.attested .ep 4).onRly fun r => { r with mesh := true }

/-- Whether the committed roster holds a node (R285): some valid entry of the PTN page names it. -/
def State.inRoster (s : State) (node : Nat) : Bool :=
  s.swc.regs.any fun e =>
    e.1 % 2 ^ 24 == PTN_ROS_ENTRY.page * 4096 + PTN_ROS_ENTRY.off && getBits e.2 0 1 == 1 && getBits e.2 1 17 == node

/-- The settle of R281 on the link that is left: FLIP_SETTLE × 200 / r. -/
def State.settleTicks (s : State) (link : Nat) : Nat :=
  s.get .ep RLY_FLIP_SETTLE_TICKS * 2 ^ s.get .ep FPT_STS_RATE 0 link

/-- The buckets of an axis whose mapped plane is `pl`, as a mask. -/
def State.bucketsOn (s : State) (axis pl : Nat) : Nat :=
  if pl == 1 then (s.planeMap axis).toNat else 2 ^ 64 - 1 - (s.planeMap axis).toNat

/-- The endpoint's buckets leave a link that has gone down: no probe, the settle from the loss (R283). -/
def State.leavePlane (s : State) (link : Nat) : State :=
  if s.split then s
  else
    let axis := link / 2 + 1
    let pl := link % 2
    let now := s.now .ep
    let t := s.settleTicks link
    s.onRly fun r =>
      { r with opened := r.opened &&& (255 ^^^ 2 ^ link),
               flips := (r.flips.map fun f =>
                  if f.axis == axis && f.old == pl && f.awaiting then
                    { f with awaiting := false, settleFrom := some now, settle := t } else f)
                 ++ (if r.opened.testBit link then
                  [⟨axis, s.bucketsOn axis pl, pl, r.probeTag, false, some now, t, none⟩] else []),
               probeTag := r.probeTag + 1 }

/-- The severity of a LINK_DOWN record: RECOVERED when the traffic has another path (R472). -/
def State.linkDownSev (s : State) (p : Part) (n : Nat) : Nat :=
  match p with
  | .sw => if s.x4 then 3 else 2
  | .ep => if !s.split && s.stage .ep (if n % 2 == 0 then n + 1 else n - 1) == 5 then 2 else 3

/-- A link goes down. `fault` is its FPT fault code, none when software takes it down; `next` the stage it enters: 0 held, 1 a new tack-up under CFG as it now stands, 6 FAULT. Both replay buffers, the keys and the partner's figures go with it (R311, R322, R342); the packets of an endpoint that only waited for the link take another way (R283, R287). -/
def State.linkLost (s : State) (p : Part) (n next : Nat) (fault : Option Nat) (esc : Bool := false) : State :=
  let was := s.stage p n
  let lanes := s.get p FPT_STS_LANES 0 n
  let waits := (s.port p n).txq
  let s := match fault with
    | some f =>
      let s := s.put p FPT_STS_FAULT f 0 n
      if was == 5 then s.event p (pgFpt + n) .linkDown f lanes (sev := some (s.linkDownSev p n)) (rung := some 3) (esc := esc) else s
    | none => s
  let s := s.when (p == .ep && was == 5) fun s => s.leavePlane n
  let s := s.when (p == .sw) fun s => s.leaveActive n
  let s := s.lanesTo p n (s.allLanes p n) (if next == 1 then 1 else 0)
  let s := s.onPort p n fun pt =>
    { ({} : Port) with timer := s.now p, attempts := pt.attempts, slips := pt.slips, loop := pt.loop,
                       cfg := if next == 1 then s.rd p FPT_CFG 0 n else 0, encCfg := if next == 1 then s.rd p LNK_CFG 0 n else 0 }
  let s := (((s.put p FPT_STS_STAGE next 0 n).put p FPT_STS_WIDTH 0 0 n).put p FPT_STS_LANES 0 0 n).put p FPT_STS_RETRAINING 0 0 n
  let s := (s.put p FPT_STS_SHEDDING 0 0 n).wr p FPT_PARTNER 0 0 n
  let s := (s.put p FPT_RTT_NS 0 0 n).wr p LNK_STS 0 0 n
  let s := (s.wr p LNK_TX_CTR 0 0 n).put p LNK_REKEY_BUSY 0 0 n
  let s := (upTo 8).foldl (fun s k => s.wr p (LNK_PEER_ID.word k) 0 0 n) s
  let s := (upTo 8).foldl (fun s k => s.wr p (SEC_PEER.word k) 0 (n + 1)) s
  let s := s.onChip p fun c => { c with spdm := removeAt c.spdm (16 + n) }
  let s := s.when (was == 5) fun s => s.attested p 7
  let s := s.when (p == .ep) fun s => waits.foldl (fun s x => State.epRoute 3 x.1 false x.2 s) s
  s.when (p == .ep && was == 5) fun s => s.epLinkLost

end Sys2Proof.Machine
end

