-- ==== Sys2Proof/Machine/Link.lean ====
section
/-! DEFINITION. The link layer (R301 to R322): receiving flits, link retry, encryption groups, key exchange and rekey. -/

namespace Sys2Proof.Machine

/-! ### Retrain and shed as the link layer starts them (R310, R335, R336) -/

/-- Starts a retrain of an ACTIVE link (R335); one that a shed delays begins after both SHED_GO sets have passed (R337). `send` says whether this side sends the ordered set. DEDUCED, log 57. -/
def State.startRetrain (s : State) (p : Part) (n : Nat) (send : Bool) (esc : Bool := false) : State :=
  if s.stage p n != 5 || s.flag p FPT_STS_RETRAINING 0 n then s
  else match (s.port p n).shed with
    | some sh => s.onPort p n fun pt => { pt with shed := some { sh with thenRetrain := true }, escalate := pt.escalate || esc }
    | none =>
      let s := s.onPort p n fun pt => { pt with retrain := some (s.now p), escalate := pt.escalate || esc }
      let s := s.put p FPT_STS_RETRAINING 1 0 n
      let s := s.lanesTo p n (s.get p FPT_STS_LANES 0 n) 3
      s.when send fun s => s.emit (.ordSet p n .retrain)

/-- Sequence numbers compared modulo 16,384: how far `a` lies beyond `b`. -/
def seqDiff (a b : Nat) : Nat := (a + 16384 - b % 16384) % 16384

/-- Resends every unacknowledged flit from a SEQ onward, in order (R309), and asks for a retrain when the same first SEQ has been replayed RETRY_LIMIT times without ACK advance (R310). -/
def State.replayFrom (s : State) (p : Part) (n seq : Nat) : State :=
  let pt := s.port p n
  let fs := pt.replay.filter fun f => seqDiff f.seq seq < 8192
  match fs with
  | [] => s
  | f :: _ =>
    let runs := if pt.replayRuns != 0 && pt.replayFirst == f.seq then pt.replayRuns + 1 else 1
    let s := s.count p LNK_RETRY_REPLAYS 1 0 n
    let s := s.onPort p n fun pt => { pt with replayFirst := f.seq, replayRuns := runs, ackAt := s.now p }
    let s := fs.foldl (fun s f => s.wire p n f.bytes) s
    let limit := max 1 (s.get p LNK_CFG_RETRY_LIMIT 0 n)
    s.when (decide (limit ≤ runs)) fun s => s.startRetrain p n true

/-- An ACK takes effect: every flit up to it leaves the replay buffer; a value that does not advance is ignored (R308). -/
def State.takeAck (s : State) (p : Part) (n ack : Nat) : State :=
  let pt := s.port p n
  let left := pt.replay.filter fun f => !(seqDiff ack f.seq < 8192)
  if left.length == pt.replay.length then s
  else
    let s := s.onPort p n fun pt => { pt with replay := left, ackAt := s.now p, replayRuns := 0 }
    s.put p LNK_STS_REPLAY_FILL left.length 0 n

/-- Credit returned by the partner for a class and lane (R302). -/
def State.takeCredit (s : State) (p : Part) (n crTc crLane cells : Nat) : State :=
  let ix := creditIx crTc (s.laneOf p n (crLane == 1))
  s.onPort p n fun pt => { pt with credit := bumpAt pt.credit ix (· + cells) }

/-- A packet whole at the receiver: checked under R299, then released to the part, or discarded with UNSUPPORTED. -/
def State.packetIn (s : State) (p : Part) (n : Nat) (k : Packet) : State :=
  if headerOk k then s.emit (.received p n k)
  else
    let s := (s.count p LNK_SEAL_ERR_HDR_DISCARD 1 0 n).owe p n k
    let s := s.event p (pgLnk + n) .reqMalformed k.src k.op
    s.when (isAsked k.op) fun s => s.reply p k stUNSUPPORTED

/-- One payload slot of a DATA flit (R304): the start of a packet, a piece of the packet in progress, or empty. -/
def State.slotIn (s : State) (p : Part) (n : Nat) (start : Bool) (bs : List Byte) : State :=
  let cur := (s.port p n).assembling
  let cur := if start then bs else if cur.isEmpty then [] else cur ++ bs
  if cur.length < 32 then s.onPort p n fun pt => { pt with assembling := cur }
  else
    let k := packetOfBytes cur
    let want := 32 + payloadLen k.op k.len
    if cur.length < want then s.onPort p n fun pt => { pt with assembling := cur }
    else
      let s := s.onPort p n fun pt => { pt with assembling := [] }
      s.packetIn p n (packetOfBytes (cur.take want))

/-- The contents of an accepted flit take effect: its ACK, its credit, its packets (R302, R308). -/
def State.flitContents (s : State) (p : Part) (n : Nat) (f : List Byte) : State :=
  let h := natAt f 0 8
  let s := s.takeAck p n (bitsOf h 18 14)
  let s := s.takeCredit p n (bitsOf h 32 3) (bitsOf h 35 1) (bitsOf h 36 12)
  let s := if bitsOf h 0 4 == 1 then
      (upTo 15).foldl (fun s i => s.slotIn p n (h.testBit (48 + i)) (slice f (8 + 16 * i) 16)) s
    else s
  s.pumpAll p n

/-- A NAK is sent once for a SEQ until its replay arrives or the replay timer would have acted (R309). -/
def State.nakFor (s : State) (p : Part) (n : Nat) : State :=
  let pt := s.port p n
  let fresh := pt.nakSent != some pt.expect || s.due p pt.nakAt (s.get p LNK_REPLAY_TMO_TICKS 0 n)
  s.when fresh fun s =>
    (s.onPort p n fun pt => { pt with nakSent := some pt.expect, nakAt := s.now p }).sendNak p n

/-- A NAK arrives: replay from ACK + 1; it frees nothing (R309). -/
def State.nakIn (s : State) (p : Part) (n ack : Nat) : State := s.replayFrom p n ((ack + 1) % 16384)

/-- Decrypts the payload of flit `i` of a group. DEDUCED, log 62. -/
def openFlit (key iv : List Byte) (i : Nat) (f : List Byte) : List Byte :=
  f.take 8 ++ xorBytes (slice f 8 240) ((Config.gcmStream key iv (240 * (i + 1))).drop (240 * i)) ++ f.drop 248

/-- A SEAL verifies, decrypts and releases its group, or the group is discarded and named in a NAK; a second failure of the same group takes the link down (R318, R319). DEDUCED, log 58, 62. -/
def State.sealIn (s : State) (p : Part) (n : Nat) (tag : List Byte) (first count : Nat) : State :=
  let pt := s.port p n
  let k := pt.keys
  match k.held with
  | [] => s.onPort p n fun pt => { pt with base := pt.expect }
  | f0 :: _ =>
    -- KP of each flit selects the key: the new keys' phase is the one this side sends (R320)
    let old := (natAt f0 0 8).testBit 63 != s.flag p LNK_STS_KP_TX 0 n && !k.oldRx.isEmpty
    let key := if old then k.oldRx else k.rx
    let iv := (if old then k.oldRxSalt else k.rxSalt) ++ leBytes 8 first
    let aad := (k.held.map (·.take 8)).flatten
    let ct := (k.held.map fun f => slice f 8 240).flatten
    if k.held.length == count && slice (Config.gcmTag key iv aad ct) 0 16 == tag then
      let fs := k.held
      let s := s.onPort p n fun pt =>
        { pt with keys := { pt.keys with held := [], failedAt := none, rxCtr := first + count + 1,
                                         oldRx := if old then pt.keys.oldRx else [] }, base := pt.expect }
      let r := fs.foldl (fun (a : State × Nat) f => (a.1.flitContents p n (openFlit key iv a.2 f), a.2 + 1)) (s, 0)
      r.1.put p LNK_STS_KP_RX (b2n ((natAt f0 0 8).testBit 63)) 0 n
    else
      let s := s.count p LNK_SEAL_ERR_AUTH_FAIL 1 0 n
      if k.failedAt == some first then
        let s := s.event p (pgLnk + n) .sealAuth first
        s.linkLost p n 1 (some (s.get p FPT_STS_FAULT 0 n))
      else
        let seq := bitsOf (natAt f0 0 8) 4 14
        let s := s.onPort p n fun pt =>
          { pt with keys := { pt.keys with held := [], failedAt := some first }, expect := seq, nakSent := none }
        s.nakFor p n

/-- The active lanes of a link, in lane order (R301). -/
def State.activeLanes (s : State) (p : Part) (n : Nat) : List Nat :=
  (upTo (s.width p n)).filter fun i => (s.get p FPT_STS_LANES 0 n).testBit i

/-- Sheds the lanes of a mask when shedding is available and leaves MIN_LANES, otherwise retrains (R336). -/
def State.shedLanes (s : State) (p : Part) (n mask : Nat) (esc : Bool := false) : State :=
  let pt := s.port p n
  let lanes := s.get p FPT_STS_LANES 0 n
  let both := match pt.capSent, pt.capGot with
    | some a, some b => a.fShed && b.fShed
    | _, _ => false
  let left := popCount 16 (lanes &&& (65535 ^^^ mask))
  if both && pt.cfg.getLsbD 17 && s.minLanes p n ≤ left then
    let s := s.put p FPT_STS_SHEDDING 1 0 n
    let s := s.onPort p n fun pt => { pt with shed := some { mask := mask, sent := true }, escalate := esc }
    s.emit (.ordSet p n (.shed mask ((pt.base + 16383) % 16384)))
  else s.startRetrain p n true esc

/-- The windows of R336 that have ended by now: each lane's count moves to WIN_LAST, and lanes over THRESH are shed. A shed found during a retrain is a lane that fails to relock (R337), one found during a shed waits and retrains (R461). A symbol corrected at a window's end or later counts in the next (R11). -/
def State.shedWindow (s : State) (p : Part) (n : Nat) : State :=
  let pt := s.port p n
  let win := s.get p FPT_SHED_CFG_WINDOW 0 n
  if s.stage p n == 5 && s.due p pt.winOpen win then
    let ls := s.activeLanes p n
    let thr := s.get p FPT_SHED_CFG_THRESH 0 n
    let past := (s.now p - pt.winOpen) / max 1 win
    let bad := ls.foldl (fun m i => if thr < (lookup pt.winCount i).getD 0 then m ||| 2 ^ i else m) 0
    -- of several windows that have passed the latest saw nothing
    let s := ls.foldl (fun s i =>
      s.lanePut p (s.laneBase p n + i) QAD_LANE_SYM_CE_WIN_LAST (if past ≤ 1 then (lookup pt.winCount i).getD 0 else 0)) s
    let s := s.onPort p n fun pt => { pt with winCount := [], winOpen := pt.winOpen + past * win }
    if bad == 0 || pt.retrain.isSome then s
    else match pt.shed with
      | some sh =>
        (s.when pt.escalate fun s => s.thirdFault p n).onPort p n fun pt =>
          { pt with shed := some { sh with thenRetrain := true }, escalate := true }
      | none => s.shedLanes p n bad
  else s

/-- Symbol statistics: each corrected byte counts on the lane that carried it (R301, R306, R343). Where the lanes do not divide a flit, the lane of its first byte is open. DESIGN CHOICE, log 59. -/
def State.countSymbols (s : State) (p : Part) (n : Nat) (places : List Nat) : State :=
  let ls := s.activeLanes p n
  if ls.isEmpty || places.isEmpty then s
  else
    let open_ := 272 % ls.length != 0
    let from_ := if open_ then s.draw else 0
    places.foldl (fun s k =>
    let i := ls.getD ((from_ + k) % ls.length) 0
    let l := s.laneBase p n + i
    let s := s.lanePut p l QAD_LANE_SYM_CE_COUNT (min (s.laneGet p l QAD_LANE_SYM_CE_COUNT + 1) (2 ^ 32 - 1))
    s.onPort p n fun pt => { pt with winCount := insertAt pt.winCount i (((lookup pt.winCount i).getD 0) + 1) }) (s.when open_ State.drawn)

/-- Whether the receiver of a link takes flits: from flit lock on, and not while a shed discards them (R328, R337). -/
def State.receives (s : State) (p : Part) (n : Nat) : Bool :=
  let stg := s.stage p n
  decide (3 ≤ stg) && decide (stg ≤ 5) && !(match (s.port p n).shed with
    | some sh => !sh.partnerGone
    | none => false)

/-- A flit whose FEC and CRC-64 have passed (R308, R309): accepted in sequence, discarded as a repeat, or rejected. -/
def State.flitGood (s : State) (p : Part) (n : Nat) (f : List Byte) : State :=
  let pt := s.port p n
  let h := natAt f 0 8
  let type := bitsOf h 0 4
  if type == 3 then s.nakIn p n (bitsOf h 18 14)
  else
    let d := seqDiff (bitsOf h 4 14) pt.expect
    if d == 0 then
      let s := s.onPort p n fun pt => { pt with expect := (pt.expect + 1) % 16384, nakSent := none }
      if pt.encrypted && !pt.keys.rx.isEmpty then
        if type == 2 then
          let s := s.sealIn p n (slice f 8 16) (natAt f 24 8) (natAt f 32 1)
          let pt := s.port p n
          -- accepted with its group: the ACK and the credit that it carries itself (R308)
          if pt.base == (bitsOf h 4 14 + 1) % 16384 && s.stage p n == 5 then s.flitContents p n f else s
        else s.onPort p n fun pt => { pt with keys := { pt.keys with held := pt.keys.held ++ [f] } }
      else
        let s := s.onPort p n fun pt => { pt with base := pt.expect }
        s.flitContents p n f
    else if 8192 ≤ d then s
    else s.nakFor p n

/-- A flit arrives (R308, R309): decoded, checked, then taken in sequence. -/
def State.flitIn (s : State) (p : Part) (n : Nat) (w : List Byte) : State :=
  let s := s.shedWindow p n
  if !s.receives p n then s
  else match fecDecode w with
    | none => (s.count p LNK_FLIT_ERR_FEC_FAIL 1 0 n).nakFor p n
    | some (f, places) =>
      let s := s.countSymbols p n places
      if crc64 (f.take 248) != BitVec.ofNat 64 (natAt f 248 8) || 5 < bitsOf (natAt f 0 8) 0 4 then
        (s.count p LNK_FLIT_ERR_CRC_FAIL 1 0 n).nakFor p n
      else s.flitGood p n f

/-! ### Key exchange (R315, R316, R320) -/

/-- The signed fields of a key-exchange message. -/
def kexFields (m : KexMsg) : List Byte := BitVec.ofNat 8 m.version :: m.nonce ++ m.kem ++ m.pub

/-- The whole message as bytes. -/
def kexBytes (m : KexMsg) : List Byte := kexFields m ++ m.sig

/-- Sends a key-exchange message in KEX flits. -/
def State.sendKex (s : State) (p : Part) (n : Nat) (resp : Bool) (m : KexMsg) : State :=
  let ps := pieces 240 38 (kexBytes m)
  (ps.foldl (fun s x => s.sendControl p n 5 x) s).emit (.kex p n resp m)

/-- The initiator starts an exchange: INIT with a fresh nonce and encapsulation key. A halted security core starts none (R434). DESIGN CHOICE, log 61. -/
def State.startKex (s : State) (p : Part) (n : Nat) : State :=
  if s.secHalted p then s
  else
  let m : KexMsg := { nonce := slice (Config.nonce s.free) 0 32, kem := slice (Config.kemKey s.free) 0 1568,
                      pub := slice (s.idKey p) 0 2592 }
  let m := { m with sig := slice (s.sign p (Config.sha3 (kexFields m))) 0 4627 }
  let s := s.onPort p n fun pt => { pt with kex := ⟨true, s.now p, s.free, kexBytes m⟩ }
  s.drawn.sendKex p n false m

/-- Installs the derived keys: counters at 0, the old receive key kept on a rekey, KP inverted then (R316, R320). -/
def State.installKeys (s : State) (p : Part) (n : Nat) (ss h : List Byte) : State :=
  let d := Config.shake256 (ss ++ h ++ ("RONLYN-LINK-KEYS".toList.map fun c => BitVec.ofNat 8 c.toNat)) 72
  let k0 := slice d 0 32
  let k1 := slice d 32 32
  let s0 := slice d 64 4
  let s1 := slice d 68 4
  let ini := s.flag p LNK_STS_INITIATOR 0 n
  let rekey := s.get p LNK_STS_STATE 0 n == 4
  let s := s.when rekey fun s => s.closeGroup p n
  let s := s.onPort p n fun pt =>
    { pt with kex := {}, keys := { tx := if ini then k0 else k1, rx := if ini then k1 else k0,
                                   txSalt := if ini then s0 else s1, rxSalt := if ini then s1 else s0,
                                   oldRx := if rekey then pt.keys.rx else [], oldRxSalt := if rekey then pt.keys.rxSalt else [],
                                   held := pt.keys.held } }
  let s := s.when rekey fun s => s.put p LNK_STS_KP_TX (1 - s.get p LNK_STS_KP_TX 0 n) 0 n
  let s := ((s.put p LNK_STS_STATE 3 0 n).count p LNK_STS_KEY_EPOCH 1 0 n).attested p 7
  (s.put p LNK_TX_CTR_COUNT 0 0 n).put p LNK_REKEY_BUSY 0 0 n

/-- Records the digest of the partner's identity public key (R315). -/
def State.recordPeer (s : State) (p : Part) (n : Nat) (pub : List Byte) : State :=
  let d := slice (Config.sha3 pub) 0 64
  (upTo 8).foldl (fun s k => s.wr p (LNK_PEER_ID.word k) (BitVec.ofNat 64 (natAt d (8 * k) 8)) 0 n) s

/-- A failed exchange takes the link down (R315). One of tack-up ends the attempt: it counts, and after TACK_LIMIT failures the port waits (R328, R329). -/
def State.kexFailed (s : State) (p : Part) (n step : Nat) : State :=
  let s := s.event p (pgLnk + n) .kexFail step
  if s.get p LNK_STS_STATE 0 n == 1 then
    let s := (s.count p FPT_EVENTS_FAILS 1 0 n).onPort p n fun pt => { pt with attempts := pt.attempts + 1 }
    let pt := s.port p n
    s.linkLost p n (if pt.attempts < max 1 (getBits pt.cfg 12 4) then 1 else 0) (some 9)
  else s.linkLost p n 1 (some 9)

/-- Whether an exchange runs or may begin on a link: in KEX, SEALED or REKEY. -/
def State.kexStage (s : State) (p : Part) (n : Nat) : Bool :=
  let st := s.get p LNK_STS_STATE 0 n
  s.stage p n == 5 && (st == 1 || st == 3 || st == 4)

/-- The initiator starts a rekey unless one is running (R320); a halted security core starts none (R434). -/
def State.startRekey (s : State) (p : Part) (n : Nat) : State :=
  if s.get p LNK_STS_STATE 0 n == 3 && s.flag p LNK_STS_INITIATOR 0 n && s.stage p n == 5 && !s.secHalted p then
    ((s.put p LNK_STS_STATE 4 0 n).put p LNK_REKEY_BUSY 1 0 n).startKex p n
  else s

end Sys2Proof.Machine
end

