-- ==== Sys2Proof/Machine/Tackup.lean ====
section
/-! DEFINITION. Tack-up (R328 to R334), retraining and shedding (R335 to R338, R456, R457, R461), loopbacks (R339, R340), and the commands of the lanes and the link layer. -/

namespace Sys2Proof.Machine

/-! ### The page of a port -/

/-- Whether a port may tack up now: tack-up has begun on the part, and nothing holds the port DOWN (R24, R33, R35, R291, R342, R401, R441, R500). DEDUCED, log 176. -/
def State.mayTack (s : State) (p : Part) (n : Nat) : Bool :=
  s.width p n != 0 && s.get p SEC_STS_LIFECYCLE != 0 && !s.flag p FPT_CTL_DISABLE 0 n && s.flag p HDR_PAGE_CTL_ENABLE 0 (pgFpt + n) && !(s.chip p).inReset
  && match p with
    | .sw => decide (10 ≤ s.swc.step) && !s.flag .sw MGT_CORE_STS_RECOVERY && s.flag .sw GLB_SWITCH_GROUP_WRITTEN && !s.flag .sw RTE_PORT_CTL_DISABLE (n + 1)
        && (!s.x4 || s.flag .sw RTE_PORT_CTL_NEIGHBOR_VALID (n + 1))
    | .ep => decide (4 ≤ s.epc.step) && (!s.split || s.flag .ep EPC_ID_NODE_VALID)

/-- Starts stage 1, or the loopback that the latest RESTART took; the fields of CFG take effect (R328, R339, R342). -/
def State.startTack (s : State) (p : Part) (n : Nat) : State :=
  if !s.mayTack p n then s.put p FPT_STS_STAGE 0 0 n
  else
    let lp := (s.port p n).loop
    let s := s.onPort p n fun pt =>
      { ({} : Port) with timer := s.now p, attempts := pt.attempts, loop := pt.loop, long := pt.long, slips := pt.slips,
                         cfg := s.rd p FPT_CFG 0 n, encCfg := s.rd p LNK_CFG 0 n }
    let s := s.put p LNK_STS_REPLAY_FILL 0 0 n
    if lp == 1 || lp == 2 then (s.put p FPT_STS_STAGE 7 0 n).lanesTo p n (s.allLanes p n) 6
    else (s.put p FPT_STS_STAGE 1 0 n).lanesTo p n (s.allLanes p n) 1

/-- An attempt ends: counted, recorded, and the port returns to stage 1, or waits after TACK_LIMIT failures (R329). A port in AUTO reach tries LONG after EQ_FAIL (R330). -/
def State.attemptFailed (s : State) (p : Part) (n code : Nat) : State :=
  let st := s.stage p n
  let pt := s.port p n
  let tries := pt.attempts + 1
  let auto := getBits pt.cfg 2 2 == 2
  let s := (s.count p FPT_EVENTS_FAILS 1 0 n).put p FPT_STS_FAULT code 0 n
  let s := s.event p (pgFpt + n) .tackFail st code
  let s := s.lanesTo p n (s.allLanes p n) 0
  let s := (s.put p FPT_STS_LANES 0 0 n).put p FPT_STS_WIDTH 0 0 n
  let s := s.onPort p n fun pt =>
    { ({} : Port) with attempts := tries, long := auto && code == 2 && !pt.long, timer := s.now p, slips := pt.slips, cfg := pt.cfg, encCfg := pt.encCfg,
                       loop := pt.loop }
  -- the port is DOWN: its partner's figures and its round trip read zero (R342)
  let s := ((s.wr p FPT_PARTNER 0 0 n).put p FPT_RTT_NS 0 0 n).put p LNK_STS_REPLAY_FILL 0 0 n
  if tries < max 1 (getBits pt.cfg 12 4) then s.startTack p n else s.put p FPT_STS_STAGE 0 0 n

/-- The fabric-ready judgement of R489 and R490. -/
def State.readyCheck (s : State) (p : Part) : State :=
  match p with
  | .sw =>
    let settled (n : Nat) : Bool :=
      let st := s.stage .sw n
      (s.port .sw n).detected == 0 || st == 6 || s.portState n == 2
        || (s.portState n == 1 && s.flag .sw RTE_PORT_STS_ID_OK (n + 1))
    if decide (12 ≤ s.swc.step) && !s.flag .sw RST_STS_FABRIC_READY && (s.portList .sw).all settled then
      (s.put .sw RST_STS_FABRIC_READY 1).put .sw RST_STS_READY_TICK (s.now .sw)
    else s
  | .ep =>
    let settled (n : Nat) : Bool :=
      let st := s.stage .ep n
      (s.port .ep n).detected == 0 || st == 6 || (st == 5 && s.ep.rly.opened.testBit n)
    if (s.portList .ep).any (fun n => (s.port .ep n).detected != 0) && (s.portList .ep).all settled
        && (s.ep.rly.bound || s.ep.rly.mesh) then
      s.put .ep PWR_EP_RST_READY 1
    else s

/-- A port ends in FAULT after a refusal: no further attempt (R329, R333). -/
def State.refuseLink (s : State) (p : Part) (n code : Nat) (tell : Bool) (e : Err) (d0 d1 : Nat) : State :=
  let s := s.when tell fun s => s.sendCtrl p n 1 code
  let s := (s.count p FPT_EVENTS_FAILS 1 0 n).put p FPT_STS_FAULT code 0 n
  let s := s.event p (pgFpt + n) e d0 d1
  let s := s.lanesTo p n (s.allLanes p n) 0
  let s := ((s.put p FPT_STS_STAGE 6 0 n).put p FPT_STS_LANES 0 0 n).put p FPT_STS_WIDTH 0 0 n
  s.readyCheck p

/-- Tack-up completes: a switch port enters QUARANTINED; a split-mode link to another endpoint opens to every class, and S0 to an endpoint applies the mesh binding (R284, R285, R331, R423). -/
def State.tackComplete (s : State) (p : Part) (n : Nat) : State :=
  let s := (s.count p FPT_EVENTS_TACKUPS 1 0 n).put p FPT_TIMES_TACK_TICKS (s.now p - (s.port p n).detectEnd) 0 n
  let s := (s.onPort p n fun pt => { pt with attempts := 0 }).attested p 7
  match p with
  | .sw =>
    -- a native endpoint has adopted the node ID that the port offers, or held it already (R25)
    let node := if s.x4 then s.get .sw FPT_PARTNER_NODE_ID 0 n else nodeAt s.switchId n
    let s := (s.put .sw RTE_PORT_STS_STATE 1 (n + 1)).put .sw RTE_PORT_STS_PARTNER node (n + 1)
    let s := s.put .sw RTE_PORT_STS_MEMBER_OK (b2n (s.inRoster node)) (n + 1)
    s.readyCheck .sw
  | .ep =>
    let kind := s.get .ep FPT_PARTNER_KIND 0 n
    let toEp := s.split && (kind == 1 || kind == 4)
    let s := s.when toEp fun s => s.onRly fun r => { r with opened := r.opened ||| 2 ^ n }
    let s := s.when (toEp && n == 0 && !s.ep.rly.mesh) fun s => s.meshBind
    s.readyCheck .ep

/-- Lanes of a mask that are active, their scramblers seeded, the rest powered down (R324, R330). -/
def State.useLanes (s : State) (p : Part) (n mask : Nat) : State :=
  let s := s.lanesTo p n (s.allLanes p n &&& (s.allLanes p n ^^^ mask)) 0
  ((s.put p FPT_STS_LANES mask 0 n).put p FPT_STS_WIDTH (popCount 16 mask) 0 n).seedLanes p n

/-- The rates a side enables, as a mask: 50, 100, 200 Gb/s (R330). -/
def ratesUpTo (rateMax : Nat) : Nat := if rateMax == 0 then 7 else if rateMax == 1 then 3 else 1

/-- The highest rate in a mask, encoded as RATE_MAX. -/
def bestRate (m : Nat) : Option Nat := if m.testBit 2 then some 0 else if m.testBit 1 then some 1 else if m.testBit 0 then some 2 else none

/-- The choice of R330: the lanes that passed at both ends, or the next lower common rate, or EQ_FAIL. -/
def State.chooseLanes (s : State) (p : Part) (n : Nat) : State :=
  let pt := s.port p n
  let both := pt.passHere &&& pt.passThere
  let need := max (s.minLanes p n) pt.farMin
  if need ≤ popCount 16 both then
    let s := (s.useLanes p n both).lanesTo p n both 3
    (s.put p FPT_STS_STAGE 3 0 n).onPort p n fun pt => { pt with timer := s.now p }
  else
    let rate := s.get p FPT_STS_RATE 0 n
    let common := ratesUpTo (getBits pt.cfg 0 2) &&& pt.partnerRates
    match bestRate (common % 2 ^ (2 - rate)) with
    | some r =>
      let s := (s.put p FPT_STS_RATE r 0 n)
      s.onPort p n fun pt => { pt with timer := s.now p, passHere := 0, passThere := 0 }
    | none => s.attemptFailed p n 2

/-- The partner's preamble is heard: both sides move to the highest common rate and equalise (R330). -/
def State.takePreamble (s : State) (p : Part) (n rates : Nat) : State :=
  let pt := s.port p n
  match bestRate (ratesUpTo (getBits pt.cfg 0 2) &&& rates) with
  | some r =>
    let s := s.put p FPT_STS_RATE r 0 n
    s.onPort p n fun pt => { pt with preamble := false, partnerRates := rates, timer := s.now p }
  | none => s.attemptFailed p n 2

/-! ### Capability exchange -/

/-- The CAP message that a part sends on a port (R332). -/
def State.ownCap (s : State) (p : Part) (n : Nat) : CapMsg :=
  let pt := s.port p n
  let base : CapMsg :=
    { port := n, lanesGood := s.get p FPT_STS_LANES 0 n, rates := ratesUpTo (getBits pt.cfg 0 2), trained := s.get p FPT_STS_RATE 0 n,
      encAllow := pt.encCfg.getLsbD 0, encRequire := pt.encCfg.getLsbD 1, fFarLb := pt.cfg.getLsbD 16,
      credits := s.credits p n, minLanes := s.minLanes p n, farReq := pt.loop == 3 }
  match p with
  | .sw =>
    { base with kind := if s.x4 then 3 else 2, axis := s.swAxisNo, plane := s.get .sw RST_STRAPS_PLANE_SEL, nodeValid := true,
                nodeId := if s.x4 then s.get .sw RTE_PORT_CTL_NEIGHBOR (n + 1) else nodeAt s.switchId n, switchId := s.switchId }
  | .ep =>
    { base with kind := if s.split then 1 else 0, axis := if s.split then 0 else n / 2 + 1, plane := if s.split then 0 else n % 2,
                nodeValid := s.flag .ep EPC_ID_NODE_VALID, nodeId := s.nodeId }

/-- The allowed KIND pairs (R333). -/
def kindsOk (a b : Nat) : Bool :=
  (a == 0 && b == 2) || (a == 2 && b == 0) || (a == 1 && (b == 1 || b == 4 || b == 3)) || (b == 1 && (a == 4 || a == 3))

/-- The first rule of R333 that refuses a link, by its fault code: 6 MODE_MISMATCH, 5 CABLING, 8 FEC_MISMATCH, 7 ENC_MISMATCH. -/
def capFault (own far : CapMsg) (clash : Bool) (held : Option Nat) : Option Nat :=
  let cab :=
    if own.kind == 0 then
      own.axis != far.axis || own.plane != far.plane || clash || (match held with
        | some id => id != far.nodeId
        | none => false)
    else if own.kind == 2 then
      own.axis != far.axis || own.plane != far.plane || (far.nodeValid && far.nodeId != own.nodeId)
    else if own.kind == 3 || (own.kind == 1 && far.kind == 3) then far.nodeId != own.nodeId
    else false
  if !kindsOk own.kind far.kind then some 6
  else if cab then some 5
  else if !own.fecRs2 || !far.fecRs2 then some 8
  else if (own.encRequire && !far.encAllow) || (far.encRequire && !own.encAllow) then some 7
  else none

/-- The error of a refusal fault. -/
def faultErr (code : Nat) : Err :=
  if code == 5 then .cabling else if code == 6 then .modeMismatch else if code == 7 then .encMismatch else .fecMismatch

/-- Stores the partner's figures (R342). -/
def State.putPartner (s : State) (p : Part) (n : Nat) (m : CapMsg) : State :=
  let w := m.kind % 8 + (m.axis % 4) * 2 ^ 3 + (m.plane % 2) * 2 ^ 5 + b2n m.nodeValid * 2 ^ 6 + (m.nodeId % 2 ^ 17) * 2 ^ 7
    + (m.switchId % 2 ^ 16) * 2 ^ 24 + (m.port % 128) * 2 ^ 40 + (m.rates % 8) * 2 ^ 47 + b2n m.encAllow * 2 ^ 50
    + b2n m.encRequire * 2 ^ 51 + b2n m.fShed * 2 ^ 52 + b2n m.fFarLb * 2 ^ 53 + b2n m.fLanes * 2 ^ 54
  s.wr p FPT_PARTNER (BitVec.ofNat 64 w) 0 n

/-- The credits that a partner advertises, one count per class where F_LANES is not in force (R333). -/
def creditsFrom (own far : CapMsg) : List Nat :=
  if own.fLanes && far.fLanes then far.credits
  else ((upTo 6).map fun tc => [far.credits.getD (2 * tc) 0 + far.credits.getD (2 * tc + 1) 0, 0]).flatten ++ far.credits.drop 12

/-- READY is sent once the messages agree and the round trip is measured; with both READYs the link enters stage 5, and tack-up completes unless the link is encrypted (R328, R331). -/
def State.tryReady (s : State) (p : Part) (n : Nat) : State :=
  let pt := s.port p n
  let s := if pt.capGot.isSome && pt.pongs == 16 && !pt.readySent then
      (s.onPort p n fun pt => { pt with readySent := true }).sendCtrl p n 4 0 else s
  let pt := s.port p n
  if pt.readySent && pt.readyGot && s.stage p n == 4 then
    let s := (s.put p FPT_STS_STAGE 5 0 n).lanesTo p n (s.get p FPT_STS_LANES 0 n) 4
    let s := s.onPort p n fun pt => { pt with winCount := [], winOpen := s.now p }
    if pt.encrypted then
      let far := pt.capGot.getD {}
      let ini := if p == .sw then true else if far.kind == 2 || far.kind == 3 then false else decide (s.nodeId < far.nodeId)
      let s := (s.put p LNK_STS_STATE 1 0 n).put p LNK_STS_INITIATOR (b2n ini) 0 n
      let s := s.onPort p n fun pt => { pt with kex := { pt.kex with running := true, start := s.now p } }
      if ini then s.startKex p n else s
    else (s.put p LNK_STS_STATE 2 0 n).tackComplete p n
  else s

/-- The partner's CAP is evaluated (R333), with the adoption of the node ID (R25, R26): a link completes capability exchange, for the adoption, when the partner's CAP has been evaluated, and a link refused for another reason counts among those of its tick that offered an ID. DESIGN CHOICE, log 189. A split link wider than the x4-layout port across from it is refused (R35). DEDUCED, log 190. -/
def State.capIn (s : State) (p : Part) (n : Nat) (m : CapMsg) : State :=
  let pt := s.port p n
  if s.stage p n != 4 || pt.capGot.isSome then s
  else
    let own := pt.capSent.getD (s.ownCap p n)
    let s := s.putPartner p n m
    let now := s.now p
    let held := if p == .ep && s.flag .ep EPC_ID_NODE_VALID then some s.nodeId else none
    let rly := s.ep.rly
    -- two links with different offers in one tick: neither is adopted (R26)
    let sameTick := p == .ep && !s.split && (match rly.adopted with
      | some (t, l) => t == now && !l.contains n && held != some m.nodeId
      | none => false)
    let clash := p == .ep && (rly.clash == some now || sameTick)
    if own.farReq || m.farReq then
      -- far-end loopback needs the other side to allow it (R339)
      if (m.farReq && !own.fFarLb) || (own.farReq && !m.fFarLb) then s.refuseLink p n 6 true .modeMismatch own.kind m.kind
      else (s.put p FPT_STS_STAGE 7 0 n).lanesTo p n (s.get p FPT_STS_LANES 0 n) 6
    else match (if own.kind == 1 && m.kind == 3 && 4 < s.width p n then some 6 else capFault own m clash held) with
    | some code =>
      let d := if code == 5 then (s.nodeId, m.nodeId) else if code == 6 then (own.kind, m.kind) else (0, 0)
      let s := s.refuseLink p n code true (faultErr code) d.1 d.2
      if sameTick then
        let ls := (rly.adopted.getD (0, [])).2
        let s := s.onRly fun r => { r with adopted := none, clash := some now }
        let s := ls.foldl (fun s l => s.refuseLink .ep l 5 true .cabling s.nodeId m.nodeId) s
        (s.put .ep EPC_ID_NODE_VALID 0).put .ep EPC_ID_NODE_ID 0
      else s
    | none =>
      let s := if p == .ep && !s.split && held.isNone then
          let s := (s.put .ep EPC_ID_NODE_ID m.nodeId).put .ep EPC_ID_NODE_VALID 1
          s.onRly fun r => { r with adopted := some (now, [n]) }
        else s.when (p == .ep) fun s => s.onRly fun r =>
          { r with adopted := r.adopted.map fun a => if a.1 == now then (now, a.2 ++ [n]) else a }
      let s := s.onPort p n fun pt =>
        { pt with capGot := some m, credit := creditsFrom own m, encrypted := own.encAllow && m.encAllow }
      s.tryReady p n

/-- Flit lock: the sequence starts at 0, and stage 4 sends CAP and sixteen PINGs (R328, R332, R334). -/
def State.flitLocked (s : State) (p : Part) (n : Nat) : State :=
  let m := s.ownCap p n
  let now := s.now p
  let s := s.put p FPT_STS_STAGE 4 0 n
  let s := s.onPort p n fun pt =>
    { pt with timer := now, seq := 0, expect := 0, base := 0, replay := [], capSent := some m, capGot := none,
              readySent := false, readyGot := false, pongs := 0, rttSum := 0, ackAt := now,
              owed := [], assembling := [], ctl := [], cur := [], ready := 0 }
  let s := (s.sendControl p n 4 (Config.ctrlBytes 0 n)).emit (.cap p n m)
  (upTo 16).foldl (fun s _ => s.sendCtrl p n 2 now) s

/-! ### The end of a shed (R337) -/

/-- Ends a shed once this side has switched and the partner's SHED_GO has passed. -/
def State.shedDone (s : State) (p : Part) (n : Nat) : State :=
  match (s.port p n).shed with
  | none => s
  | some sh =>
    if sh.gone && sh.partnerGone then
      let s := s.put p FPT_STS_SHEDDING 0 0 n
      let esc := (s.port p n).escalate
      let s := s.onPort p n fun pt => { pt with shed := none, escalate := false }
      let s := s.count p FPT_EVENTS_SHEDS (popCount 16 sh.mask) 0 n
      let s := s.event p (pgFpt + n) .laneShed sh.mask (s.get p FPT_STS_WIDTH 0 n) (rung := some 1)
      if sh.thenRetrain then s.startRetrain p n true esc else s.pumpAll p n
    else s

/-- Switches the transmitter: SHED_GO, then flits over the remaining lanes from the SEQ after the partner's last (R337). -/
def State.shedGo (s : State) (p : Part) (n : Nat) : State :=
  match (s.port p n).shed with
  | none => s
  | some sh =>
    if sh.gone || (sh.sent && !sh.acked) then s
    else
      let lanes := s.get p FPT_STS_LANES 0 n &&& (65535 ^^^ sh.mask)
      let s := s.lanesTo p n sh.mask 5
      let s := ((s.put p FPT_STS_LANES lanes 0 n).put p FPT_STS_WIDTH (popCount 16 lanes) 0 n).seedLanes p n
      let s := s.onPort p n fun pt => { pt with shed := some { sh with gone := true } }
      let s := s.emit (.ordSet p n .shedGo)
      let s := s.replayFrom p n ((sh.partnerLast + 1) % 16384)
      s.shedDone p n

/-! ### The commands: tack-up -/

/-- TACKUP_DETECT_PROBE (R328): the lanes that found the partner, and the partner's preamble where it is heard. -/
def tackupDetectProbe (p : Part) (n mask : Nat) (rates : Option Nat) (s : State) : State :=
  let st := s.stage p n
  let pt := s.port p n
  if p == .sw && !s.cpuUp 0 then s
  else if st == 1 && s.due p pt.timer 1750 then
    let mask := mask &&& s.allLanes p n
    if s.minLanes p n ≤ popCount 16 mask then
      let s := (s.put p FPT_STS_STAGE 2 0 n).lanesTo p n mask 2
      let reach := if getBits pt.cfg 2 2 == 2 then b2n pt.long else getBits pt.cfg 2 2
      let s := (s.put p FPT_STS_REACH reach 0 n).put p FPT_STS_RATE 2 0 n
      let s := s.onPort p n fun pt =>
        { pt with detected := mask, preamble := true, timer := s.now p, detectEnd := s.now p, passHere := 0, passThere := 0 }
      match rates with
      | some r => s.takePreamble p n r
      | none => s
    else s.onPort p n fun pt => { pt with timer := s.now p, detected := mask }
  else if st == 2 && pt.preamble && !s.due p pt.timer 17500 then
    match rates with
    | some r => s.takePreamble p n r
    | none => s
  else s

def execTackupDetectProbe (p : Part) (n mask : Nat) (rates : Option Nat) (s : State) : Host.Outcome State Fault Refusal :=
  .next (tackupDetectProbe p n mask rates s)

/-- TACKUP_PREAMBLE_TMO (R328): 17,500 ticks without a common preamble. -/
def tackupPreambleTmo (p : Part) (n : Nat) (s : State) : State :=
  let pt := s.port p n
  if s.stage p n == 2 && pt.preamble && s.due p pt.timer 17500 then s.attemptFailed p n 1 else s

def execTackupPreambleTmo (p : Part) (n : Nat) (s : State) : Host.Outcome State Fault Refusal := .next (tackupPreambleTmo p n s)

/-- The settings that adaptation finds for a lane (R330, R343), free values; taps that OVERRIDE fixes stay. DESIGN CHOICE, log 59. -/
def State.adaptLane (s : State) (p : Part) (l : Nat) : State :=
  let eq := s.draw
  let s := if s.get p (laneFld QAD_LANE_TX_EQ_OVERRIDE l) 0 (l / 4) == 1 then s
    else (((s.lanePut p l QAD_LANE_TX_EQ_PRE2 eq).lanePut p l QAD_LANE_TX_EQ_PRE1 (eq / 2 ^ 6)).lanePut p l QAD_LANE_TX_EQ_MAIN (eq / 2 ^ 12)).lanePut
      p l QAD_LANE_TX_EQ_POST1 (eq / 2 ^ 18)
  ((s.lanePut p l QAD_LANE_RX_EQ_CTLE (eq / 2 ^ 24)).lanePut p l QAD_LANE_RX_EQ_DFE1 (eq / 2 ^ 30)).drawn

/-- LANE_EQ_PASS (R330): a lane's SNR in units of 0.125 dB, its polarity, and the partner's mask of passed lanes with its MIN_LANES. -/
def laneEqPass (p : Part) (n lane snr : Nat) (inverted : Bool) (there farMin : Nat) (s : State) : State :=
  let pt := s.port p n
  if s.stage p n == 2 && !pt.preamble && !s.due p pt.timer (s.get p FPT_TMO_EQ 0 n) && pt.detected.testBit lane then
    let l := s.laneBase p n + lane
    let pass := decide (136 ≤ snr)
    let s := (s.lanePut p l QAD_LANE_STS_SNR snr).lanePut p l QAD_LANE_STS_POL_INV (b2n inverted)
    let s := (s.lanePut p l QAD_LANE_STS_EQ_PASS (b2n pass)).adaptLane p l
    let s := s.onPort p n fun pt =>
      { pt with passHere := if pass then pt.passHere ||| 2 ^ lane else pt.passHere, passThere := pt.passThere ||| there, farMin := farMin }
    let pt := s.port p n
    if pt.passHere &&& pt.passThere &&& pt.detected == pt.detected then s.chooseLanes p n else s
  else s

def execLaneEqPass (p : Part) (n lane snr : Nat) (inverted : Bool) (there farMin : Nat) (s : State) :
    Host.Outcome State Fault Refusal := .next (laneEqPass p n lane snr inverted there farMin s)

/-- EQ_TIMER_EXPIRY (R330). -/
def eqTimerExpiry (p : Part) (n : Nat) (s : State) : State :=
  let pt := s.port p n
  if s.stage p n == 2 && !pt.preamble && s.due p pt.timer (s.get p FPT_TMO_EQ 0 n) then s.chooseLanes p n else s

def execEqTimerExpiry (p : Part) (n : Nat) (s : State) : Host.Outcome State Fault Refusal := .next (eqTimerExpiry p n s)

/-- FLIT_LOCK (R328). -/
def flitLock (p : Part) (n : Nat) (s : State) : State :=
  if s.stage p n == 3 && !s.due p (s.port p n).timer 17500 then s.flitLocked p n else s

def execFlitLock (p : Part) (n : Nat) (s : State) : Host.Outcome State Fault Refusal := .next (flitLock p n s)

/-- LOCK_TMO (R328): 17,500 ticks without flit lock. -/
def lockTmo (p : Part) (n : Nat) (s : State) : State :=
  if s.stage p n == 3 && s.due p (s.port p n).timer 17500 then s.attemptFailed p n 3 else s

def execLockTmo (p : Part) (n : Nat) (s : State) : Host.Outcome State Fault Refusal := .next (lockTmo p n s)

/-- CAP_RECEIVE (R333). -/
def capReceive (p : Part) (n : Nat) (m : CapMsg) (s : State) : State :=
  if s.due p (s.port p n).timer 35000 then s else s.capIn p n m

def execCapReceive (p : Part) (n : Nat) (m : CapMsg) (s : State) : Host.Outcome State Fault Refusal := .next (capReceive p n m s)

/-- REFUSE_RECEIVE (R333). -/
def refuseReceive (p : Part) (n code : Nat) (s : State) : State :=
  if s.stage p n == 4 then
    let far := s.get p FPT_PARTNER_NODE_ID 0 n
    let d := if code == 5 then (if p == .ep then s.nodeId else nodeAt s.switchId n, far)
      else if code == 6 then ((s.ownCap p n).kind, s.get p FPT_PARTNER_KIND 0 n) else (0, 0)
    s.refuseLink p n code false (faultErr code) d.1 d.2
  else s

def execRefuseReceive (p : Part) (n code : Nat) (s : State) : Host.Outcome State Fault Refusal := .next (refuseReceive p n code s)

/-- PING_RECEIVE (R334): returned at once. -/
def pingReceive (p : Part) (n stamp : Nat) (s : State) : State :=
  if s.stage p n == 4 then s.sendCtrl p n 3 stamp else s

def execPingReceive (p : Part) (n stamp : Nat) (s : State) : Host.Outcome State Fault Refusal := .next (pingReceive p n stamp s)

/-- PONG_RECEIVE (R334): after sixteen, the round trip in ns, rounded up. -/
def pongReceive (p : Part) (n stamp : Nat) (s : State) : State :=
  let pt := s.port p n
  if s.stage p n == 4 && pt.pongs < 16 && !s.due p pt.timer 35000 then
    let sum := pt.rttSum + (s.now p - stamp)
    let s := s.onPort p n fun pt => { pt with pongs := pt.pongs + 1, rttSum := sum }
    if pt.pongs + 1 == 16 then (s.put p FPT_RTT_NS (ceilDiv (sum * 1000) (16 * 175)) 0 n).tryReady p n else s
  else s

def execPongReceive (p : Part) (n stamp : Nat) (s : State) : Host.Outcome State Fault Refusal := .next (pongReceive p n stamp s)

/-- READY_RECEIVE (R328). -/
def readyReceive (p : Part) (n : Nat) (s : State) : State :=
  if s.stage p n == 4 && !s.due p (s.port p n).timer 35000 then
    (s.onPort p n fun pt => { pt with readyGot := true }).tryReady p n
  else s

def execReadyReceive (p : Part) (n : Nat) (s : State) : Host.Outcome State Fault Refusal := .next (readyReceive p n s)

/-- CAPX_TMO (R328): 35,000 ticks without READY both ways. -/
def capxTmo (p : Part) (n : Nat) (s : State) : State :=
  if s.stage p n == 4 && s.due p (s.port p n).timer 35000 then s.attemptFailed p n 4 else s

def execCapxTmo (p : Part) (n : Nat) (s : State) : Host.Outcome State Fault Refusal := .next (capxTmo p n s)

/-- TACK_RETRY_TIMER (R329): one attempt every 175,000,000 ticks after the limit. -/
def tackRetryTimer (p : Part) (n : Nat) (s : State) : State :=
  let pt := s.port p n
  if s.stage p n == 0 && pt.attempts != 0 && s.due p pt.timer 175000000 then s.startTack p n else s

def execTackRetryTimer (p : Part) (n : Nat) (s : State) : Host.Outcome State Fault Refusal := .next (tackRetryTimer p n s)

/-- PARTNER_REDETECT (R329): the probes found the partner absent for so many ticks, then present. -/
def partnerRedetect (p : Part) (n absent : Nat) (s : State) : State :=
  if s.stage p n == 6 && 1750 ≤ absent then (s.onPort p n fun pt => { pt with attempts := 0, long := false }).startTack p n else s

def execPartnerRedetect (p : Part) (n absent : Nat) (s : State) : Host.Outcome State Fault Refusal :=
  .next (partnerRedetect p n absent s)

/-! ### The node ID of a split-mode endpoint (R35) -/

/-- EPC.ID written: in split mode the node ID is taken while every link is DOWN, and the links that waited for it tack up; otherwise the write is refused; in native mode it is ignored (R35, R366, R368). -/
def State.setNodeId (s : State) (v : Nat) : Written :=
  if !s.split then (s, false)
  else if (s.portList .ep).all fun n => s.stage .ep n == 0 then
    let was := s.flag .ep EPC_ID_NODE_VALID
    let s := (s.put .ep EPC_ID_NODE_ID (v % 2 ^ 17)).put .ep EPC_ID_NODE_VALID 1
    (s.when (!was) fun s => (s.portList .ep).foldl (fun s n => s.startTack .ep n) s, true)
  else s.refused .ep pgEpc

/-- EPC_NODE_ID_WRITE (R366). -/
def epcNodeIdWrite (path : Path) (v : Nat) (s : State) : State :=
  s.writeBy path .ep pgEpc 0x40 fun s => s.setNodeId v

def execEpcNodeIdWrite (path : Path) (v : Nat) (s : State) : Host.Outcome State Fault Refusal := .next (epcNodeIdWrite path v s)

/-! ### The commands: CTL of a port (R335, R339, R342) -/

/-- RESTART: takes the link down if it is up, then starts stage 1 or the loopback that LPBK selects now. -/
def State.portRestart (s : State) (p : Part) (n : Nat) : State :=
  let s := if 0 < s.stage p n then s.linkLost p n 0 none else s
  (s.onPort p n fun pt => { pt with attempts := 0, long := false, slips := [], loop := s.get p FPT_CTL_LPBK 0 n }).startTack p n

def fptRestart (path : Path) (p : Part) (n : Nat) (s : State) : State :=
  s.writeBy path p (pgFpt + n) 0x48 fun s => (s.portRestart p n, true)

def execFptRestart (path : Path) (p : Part) (n : Nat) (s : State) : Host.Outcome State Fault Refusal := .next (fptRestart path p n s)

def fptRetrain (path : Path) (p : Part) (n : Nat) (s : State) : State :=
  s.writeBy path p (pgFpt + n) 0x48 fun s => (s.startRetrain p n true, true)

def execFptRetrain (path : Path) (p : Part) (n : Nat) (s : State) : Host.Outcome State Fault Refusal := .next (fptRetrain path p n s)

/-- DISABLE silences the transmitters and holds the port DOWN, or releases it. -/
def State.portDisable (s : State) (p : Part) (n v : Nat) : State :=
  let s := s.put p FPT_CTL_DISABLE v 0 n
  if v == 1 then if 0 < s.stage p n then s.linkLost p n 0 none else s
  else if s.stage p n == 0 then s.startTack p n else s

def fptDisable (path : Path) (p : Part) (n v : Nat) (s : State) : State :=
  s.writeBy path p (pgFpt + n) 0x48 fun s => (s.portDisable p n v, true)

def execFptDisable (path : Path) (p : Part) (n v : Nat) (s : State) : Host.Outcome State Fault Refusal := .next (fptDisable path p n v s)

/-! ### The commands: retrain and shed -/

/-- RETRAIN_SET_RECEIVE (R335). -/
def retrainSetReceive (p : Part) (n : Nat) (s : State) : State := s.startRetrain p n false

def execRetrainSetReceive (p : Part) (n : Nat) (s : State) : Host.Outcome State Fault Refusal := .next (retrainSetReceive p n s)

/-- RETRAIN_COMPLETE (R335): the lanes that relocked; the rest are dropped while MIN_LANES remain. -/
def retrainComplete (p : Part) (n relocked : Nat) (s : State) : State :=
  match (s.port p n).retrain with
  | some t =>
    if s.due p t 2625 then s
    else
      let lanes := s.get p FPT_STS_LANES 0 n
      let left := lanes &&& relocked
      if s.minLanes p n ≤ popCount 16 left then
        let esc := (s.port p n).escalate
        let s := s.useLanes p n left
        let s := (s.lanesTo p n left 4).put p FPT_STS_RETRAINING 0 0 n
        let s := (s.count p FPT_EVENTS_RETRAINS 1 0 n).put p FPT_TIMES_RETRAIN_TICKS (s.now p - t) 0 n
        let s := s.onPort p n fun pt => { pt with retrain := none, escalate := false, replayRuns := 0, ackAt := s.now p }
        let s := s.event p (pgFpt + n) .linkRetrain (popCount 16 (lanes ^^^ left)) (s.now p - t) (rung := some 2) (esc := esc)
        -- the first flit after a retrain names the last accepted SEQ (R311)
        (s.sendNak p n).pumpAll p n
      else s.linkLost p n 1 (some 10)
  | none => s

def execRetrainComplete (p : Part) (n relocked : Nat) (s : State) : Host.Outcome State Fault Refusal :=
  .next (retrainComplete p n relocked s)

/-- RETRAIN_TIMEOUT (R335): 2,625 ticks. -/
def retrainTimeout (p : Part) (n : Nat) (s : State) : State :=
  match (s.port p n).retrain with
  | some t => if s.due p t 2625 then s.linkLost p n 1 (some 10) else s
  | none => s

def execRetrainTimeout (p : Part) (n : Nat) (s : State) : Host.Outcome State Fault Refusal := .next (retrainTimeout p n s)

/-- RETRAIN_BITLOCK_TMO (R456): no lane has bit lock 1,050 ticks into a retrain. -/
def retrainBitlockTmo (p : Part) (n : Nat) (s : State) : State :=
  match (s.port p n).retrain with
  | some t => if s.due p t 1050 then s.linkLost p n 1 (some 10) else s
  | none => s

def execRetrainBitlockTmo (p : Part) (n : Nat) (s : State) : Host.Outcome State Fault Refusal := .next (retrainBitlockTmo p n s)

/-- SHED_WINDOW_EXPIRY (R336, R337, R461): the window of every lane ends. -/
def shedWindowExpiry (p : Part) (n : Nat) (s : State) : State := s.shedWindow p n

def execShedWindowExpiry (p : Part) (n : Nat) (s : State) : Host.Outcome State Fault Refusal := .next (shedWindowExpiry p n s)

/-- Counts a loss of lock on a lane of a link (R343). -/
def State.lockLost (s : State) (p : Part) (n lane : Nat) : State :=
  let l := s.laneBase p n + lane
  s.lanePut p l QAD_LANE_LOCK_LOSS_COUNT (min (s.laneGet p l QAD_LANE_LOCK_LOSS_COUNT + 1) 65535)

/-- LANE_LOCK_LOSS (R457, R461, R463): a shed; during a shed a retrain one rung higher; during a retrain the link goes down with fault ESCALATED; a third overlapping fault aborts the herds of the link. DEDUCED, log 185. -/
def laneLockLoss (p : Part) (n lane : Nat) (s : State) : State :=
  if s.stage p n == 5 && (s.get p FPT_STS_LANES 0 n).testBit lane then
    let s := s.lockLost p n lane
    let pt := s.port p n
    let s := s.when pt.escalate fun s => s.thirdFault p n
    if pt.retrain.isSome then s.linkLost p n 1 (some 14) (esc := true)
    else match pt.shed with
      | some sh => s.onPort p n fun pt => { pt with shed := some { sh with thenRetrain := true }, escalate := true }
      | none => s.shedLanes p n (2 ^ lane)
  else s

def execLaneLockLoss (p : Part) (n lane : Nat) (s : State) : Host.Outcome State Fault Refusal := .next (laneLockLoss p n lane s)

/-- SHED_RECEIVE (R337): answered with SHED_ACK carrying the union of crossing masks. -/
def shedReceive (p : Part) (n mask last : Nat) (s : State) : State :=
  if s.stage p n == 5 && (s.port p n).retrain.isNone then
    let pt := s.port p n
    let sh := pt.shed.getD {}
    let m := sh.mask ||| mask
    let s := s.put p FPT_STS_SHEDDING 1 0 n
    let s := s.onPort p n fun pt => { pt with shed := some { sh with mask := m, partnerLast := last } }
    let s := s.emit (.ordSet p n (.shedAck m ((pt.base + 16383) % 16384)))
    s.shedGo p n
  else s

def execShedReceive (p : Part) (n mask last : Nat) (s : State) : Host.Outcome State Fault Refusal := .next (shedReceive p n mask last s)

/-- SHED_ACK_RECEIVE (R337). -/
def shedAckReceive (p : Part) (n mask last : Nat) (s : State) : State :=
  match (s.port p n).shed with
  | some sh =>
    if sh.sent && !sh.acked then
      (s.onPort p n fun pt =>
        { pt with shed := some { sh with mask := sh.mask ||| mask, acked := true, partnerLast := last } }).shedGo p n
    else s
  | none => s

def execShedAckReceive (p : Part) (n mask last : Nat) (s : State) : Host.Outcome State Fault Refusal :=
  .next (shedAckReceive p n mask last s)

/-- SHED_GO_RECEIVE (R337): the receiver switches to the new striping. -/
def shedGoReceive (p : Part) (n : Nat) (s : State) : State :=
  match (s.port p n).shed with
  | some sh => (s.onPort p n fun pt => { pt with shed := some { sh with partnerGone := true } }).shedDone p n
  | none => s

def execShedGoReceive (p : Part) (n : Nat) (s : State) : Host.Outcome State Fault Refusal := .next (shedGoReceive p n s)

/-- FIFO_SLIP (R327, R461, R463): a loss of lock on every lane, and a retrain, or during a retrain the loss of the link; the eighth slip in 175,000,000 ticks takes the port down with FIFO_SLIP. -/
def fifoSlip (p : Part) (n : Nat) (s : State) : State :=
  if s.stage p n == 5 then
    let now := s.now p
    let slips := ((s.port p n).slips.filter fun t => now < t + 175000000) ++ [now]
    let s := s.onPort p n fun pt => { pt with slips := slips }
    let s := s.event p (pgFpt + n) .fifoSlip slips.length
    let s := (s.activeLanes p n).foldl (fun s i => s.lockLost p n i) s
    let s := s.when (s.port p n).escalate fun s => s.thirdFault p n
    if 8 ≤ slips.length then (s.linkLost p n 6 (some 11)).readyCheck p
    else if (s.port p n).retrain.isSome then s.linkLost p n 1 (some 14) (esc := true)
    else s.startRetrain p n true (s.port p n).shed.isSome
  else s

def execFifoSlip (p : Part) (n : Nat) (s : State) : Host.Outcome State Fault Refusal := .next (fifoSlip p n s)

/-- SIGNAL_LOSS (R457, R463): every lane of the link lost signal for 350 ticks. -/
def signalLoss (p : Part) (n : Nat) (s : State) : State :=
  if s.stage p n == 5 then (s.when (s.port p n).escalate fun s => s.thirdFault p n).linkLost p n 1 (some 13) else s

def execSignalLoss (p : Part) (n : Nat) (s : State) : Host.Outcome State Fault Refusal := .next (signalLoss p n s)

/-- PATTERN_CHECKER_LOCK (R340): a lane's checker locks in LOOPBACK. -/
def patternCheckerLock (p : Part) (n lane : Nat) (s : State) : State :=
  let l := s.laneBase p n + lane
  if s.stage p n == 7 && lane < s.width p n && s.laneGet p l QAD_LANE_PAT_CTL_CHK != 0 then
    s.lanePut p l QAD_LANE_PAT_CTL_CHK_LOCK 1
  else s

def execPatternCheckerLock (p : Part) (n lane : Nat) (s : State) : Host.Outcome State Fault Refusal :=
  .next (patternCheckerLock p n lane s)

/-! ### The commands: the link layer -/

/-- FLIT_RECEIVE (R308): the 272 wire bytes of a flit. -/
def execFlitReceive (p : Part) (n : Nat) (w : List Byte) (s : State) : Host.Outcome State Fault Refusal := .next (s.flitIn p n w)

/-- NAK_RECEIVE (R309); discarded during a shed (R337). -/
def nakReceive (p : Part) (n ack : Nat) (s : State) : State :=
  let st := s.stage p n
  let shedding := match (s.port p n).shed with
    | some sh => !sh.partnerGone
    | none => false
  if 3 ≤ st && st ≤ 5 && !shedding then s.nakIn p n ack else s

def execNakReceive (p : Part) (n ack : Nat) (s : State) : Host.Outcome State Fault Refusal := .next (nakReceive p n ack s)

/-- REPLAY_TIMER_EXPIRY (R310): no ACK advance for REPLAY_TMO ticks with unacknowledged flits held. DEDUCED, log 6, 182. -/
def replayTimerExpiry (p : Part) (n : Nat) (s : State) : State :=
  let pt := s.port p n
  match pt.replay with
  | f :: _ => if s.due p pt.ackAt (s.get p LNK_REPLAY_TMO_TICKS 0 n) && !s.mute p n then s.replayFrom p n f.seq else s
  | [] => s

def execReplayTimerExpiry (p : Part) (n : Nat) (s : State) : Host.Outcome State Fault Refusal := .next (replayTimerExpiry p n s)

/-- GROUP_CLOSE (R317): after the 64th flit, or with a DATA flit in the group and no DATA ready. -/
def groupClose (p : Part) (n : Nat) (s : State) : State :=
  let pt := s.port p n
  if pt.sealing && (pt.keys.groupCount == 64 || (pt.keys.groupHasData && !s.dataReady p n)) then s.closeGroup p n else s

def execGroupClose (p : Part) (n : Nat) (s : State) : Host.Outcome State Fault Refusal := .next (groupClose p n s)

/-- SEAL_RECEIVE (R308, R318): a SEAL flit whose checks have passed, by its header, the tag, the counter of the group's first flit and the group's count. -/
def sealReceive (p : Part) (n header : Nat) (tag : List Byte) (group : SealGroup) (s : State) : State :=
  if s.receives p n then
    s.flitGood p n (leBytes 8 (header / 16 * 16 + 2) ++ slice tag 0 16 ++ leBytes 8 group.first ++ leBytes 1 group.count ++ slice [] 0 223)
  else s

def execSealReceive (p : Part) (n header : Nat) (tag : List Byte) (group : SealGroup) (s : State) : Host.Outcome State Fault Refusal :=
  .next (sealReceive p n header tag group s)

/-- KEX_INIT_RECEIVE (R315): the responder verifies INIT, records its partner, sends RESP and installs the keys. -/
def kexInitReceive (p : Part) (n : Nat) (m : KexMsg) (s : State) : State :=
  let kx := (s.port p n).kex
  if !s.kexStage p n || s.flag p LNK_STS_INITIATOR 0 n || (kx.running && s.due p kx.start 350000) || s.secHalted p then s
  else if !Config.mldsaVerify m.pub (Config.sha3 (kexFields m)) m.sig then s.kexFailed p n 1
  else
    let first := s.get p LNK_STS_STATE 0 n == 1
    let s := s.when (!first) fun s => (s.put p LNK_STS_STATE 4 0 n).put p LNK_REKEY_BUSY 1 0 n
    let s := s.recordPeer p n m.pub
    let r : KexMsg := { nonce := slice (Config.nonce s.free) 0 32, kem := slice (Config.kemCipher m.kem s.free) 0 1568,
                        pub := slice (s.idKey p) 0 2592 }
    let r := { r with sig := slice (s.sign p (Config.sha3 (kexBytes m ++ kexFields r))) 0 4627 }
    let ss := Config.kemSecret m.kem s.free
    let s := s.drawn.sendKex p n true r
    let s := s.installKeys p n ss (Config.sha3 (kexBytes m ++ kexBytes r))
    if first then s.tackComplete p n else s

def execKexInitReceive (p : Part) (n : Nat) (m : KexMsg) (s : State) : Host.Outcome State Fault Refusal := .next (kexInitReceive p n m s)

/-- KEX_RESP_RECEIVE (R315, R316): the initiator verifies RESP and both sides hold the keys. -/
def kexRespReceive (p : Part) (n : Nat) (m : KexMsg) (s : State) : State :=
  let kx := (s.port p n).kex
  if !s.kexStage p n || !s.flag p LNK_STS_INITIATOR 0 n || !kx.running || s.due p kx.start 350000 || s.secHalted p then s
  else if !Config.mldsaVerify m.pub (Config.sha3 (kx.initDigestInput ++ kexFields m)) m.sig then s.kexFailed p n 2
  else
    let first := s.get p LNK_STS_STATE 0 n == 1
    let s := s.recordPeer p n m.pub
    let ss := Config.kemRecover m.kem kx.draw
    let s := s.installKeys p n ss (Config.sha3 (kx.initDigestInput ++ kexBytes m))
    if first then s.tackComplete p n else s

def execKexRespReceive (p : Part) (n : Nat) (m : KexMsg) (s : State) : Host.Outcome State Fault Refusal := .next (kexRespReceive p n m s)

/-- KEX_TIMEOUT (R315): 350,000 ticks from the start of the exchange. -/
def kexTimeout (p : Part) (n : Nat) (s : State) : State :=
  let kx := (s.port p n).kex
  if s.kexStage p n && kx.running && s.due p kx.start 350000 then s.kexFailed p n 3 else s

def execKexTimeout (p : Part) (n : Nat) (s : State) : Host.Outcome State Fault Refusal := .next (kexTimeout p n s)

/-- REKEY.REQUEST (R320, R322): ignored unless the link is SEALED; a responder's request travels as a CTRL message. -/
def State.rekeyRequest (s : State) (p : Part) (n : Nat) : State :=
  if s.get p LNK_STS_STATE 0 n != 3 then s
  else if s.flag p LNK_STS_INITIATOR 0 n then s.startRekey p n
  else s.sendCtrl p n 5 0

def rekeyRequestWrite (path : Path) (p : Part) (n : Nat) (s : State) : State :=
  s.writeBy path p (pgLnk + n) 0x58 fun s => (s.rekeyRequest p n, true)

def execRekeyRequest (path : Path) (p : Part) (n : Nat) (s : State) : Host.Outcome State Fault Refusal :=
  .next (rekeyRequestWrite path p n s)

/-- REKEY_SOFT_POINT (R320): either direction's counter has reached 2^SOFT_LOG2. -/
def rekeySoftPoint (p : Part) (n : Nat) (s : State) : State :=
  let k := (s.port p n).keys
  if 2 ^ s.get p LNK_REKEY_SOFT_LOG2 0 n ≤ max k.txCtr k.rxCtr then s.startRekey p n else s

def execRekeySoftPoint (p : Part) (n : Nat) (s : State) : Host.Outcome State Fault Refusal := .next (rekeySoftPoint p n s)

/-- REKEY_CTRL_RECEIVE (R320). -/
def execRekeyCtrlReceive (p : Part) (n : Nat) (s : State) : Host.Outcome State Fault Refusal := .next (s.startRekey p n)

/-- KEY_EXHAUSTED (R321): a counter has reached 2^40. -/
def keyExhausted (p : Part) (n : Nat) (s : State) : State :=
  let k := (s.port p n).keys
  if s.stage p n == 5 && 2 ^ 40 ≤ max k.txCtr k.rxCtr then s.linkLost p n 1 (some (s.get p FPT_STS_FAULT 0 n)) else s

def execKeyExhausted (p : Part) (n : Nat) (s : State) : Host.Outcome State Fault Refusal := .next (keyExhausted p n s)

end Sys2Proof.Machine
end

