-- ==== Sys2Proof/Machine/Xbar.lean ====
section
/-! DEFINITION. The crossbar of the switch (R240 to R242, R250 to R252): its ports, the service order of its choosers, the middle buffers of its two stages and the resequencers. -/

namespace Sys2Proof.Machine

/-! ### The service order (R242) -/

/-- What waits at a chooser: its class, its egress, its cells, and the packet's number. -/
structure Cand where
  tc : Nat
  egress : Nat
  cells : Nat
  id : Nat
deriving DecidableEq, Repr

/-- The candidate of a class in round-robin order of egress port: the first beyond the egress served last, otherwise the first. -/
def rrPick (last tc : Nat) (l : List Cand) : Option Cand :=
  let least (l : List Cand) : Option Cand := l.foldl (fun b x => match b with
    | none => some x
    | some y => if x.egress < y.egress then some x else some y) none
  let mine := l.filter fun x => x.tc == tc
  match least (mine.filter fun x => last < x.egress) with
  | some x => some x
  | none => least mine

/-- The classes of rank 4 with their weights. -/
def drrClass (turn : Nat) : Nat := [3, 0, 5].getD turn 0
def drrWeight (turn : Nat) : Nat := [8, 4, 1].getD turn 0

/-- Deficit round robin in cells among the classes of rank 4: the class served, the turn and the deficits after it; `need` is the cells of each class's candidate, 0 for none; the number bounds the turns. -/
def drr : Nat → Nat → List Nat → (Nat → Nat) → Option (Nat × Nat × List Nat)
  | 0, _, _, _ => none
  | fuel + 1, turn, d, need =>
    let k := need (drrClass turn)
    let have_ := d.getD turn 0
    if k != 0 && k ≤ have_ then some (drrClass turn, turn, d.set turn (have_ - k))
    else
      let d := if k == 0 then d.set turn 0 else d
      let t := (turn + 1) % 3
      drr fuel t (if need (drrClass t) != 0 then d.set t (d.getD t 0 + drrWeight t) else d) need

/-- The class that a chooser serves next among the candidates, with its rank-4 state after it (R242): TC7 once 63 cells of others have passed; TC4 unless one of the last seven cells was TC4 and another class waits; TC2; TC1; rank 4; TC7; TC6. -/
def Sched.classNext (d : Sched) (l : List Cand) : Option (Nat × Nat × List Nat) :=
  let waits (tc : Nat) : Bool := l.any fun x => x.tc == tc
  let take (tc : Nat) : Option (Nat × Nat × List Nat) := some (tc, d.turn, d.deficit)
  if 63 ≤ d.n && waits 7 then take 7
  else if waits 4 && (!d.recent.contains 4 || l.all fun x => x.tc == 4) then take 4
  else if waits 2 then take 2
  else if waits 1 then take 1
  else match drr 64 d.turn d.deficit (fun tc => ((rrPick ((lookup d.last tc).getD 0) tc l).map (·.cells)).getD 0) with
    | some r => some r
    | none => if waits 7 then take 7 else if waits 6 then take 6 else if waits 4 then take 4 else none

/-- The choice among candidates, and the chooser after it. An egress is numbered from 1 up. -/
def Sched.pick (d : Sched) (l : List Cand) : Option (Cand × Sched) :=
  match d.classNext l with
  | none => none
  | some (tc, turn, deficit) =>
    (rrPick ((lookup d.last tc).getD 0) tc l).map fun x =>
      (x, { n := if tc == 7 then 0 else d.n + x.cells, recent := ((List.replicate x.cells tc) ++ d.recent).take 7, turn := turn, deficit := deficit,
            last := insertAt d.last tc x.egress })

/-! ### Crossbar ports (R240, R241) -/

/-- The crossbar ports of a fabric port, by the width of the layout's ports: two for x16, one for x8, half of one for x4. -/
def xports (width n : Nat) : List Nat :=
  if width == 16 then [2 * n, 2 * n + 1] else if width == 4 then [n / 2] else [n]

/-- The crossbar inputs at which a packet may cross. -/
def QEntry.inputs (width : Nat) (q : QEntry) : List Nat := match q.origin with
  | some n => xports width n
  | none => [q.inner]

/-- The crossbar outputs to which its cells may go. -/
def QEntry.outputs (width : Nat) (q : QEntry) : List Nat := match q.egress with
  | .fabric n => xports width n
  | .inner p => [p]

/-- A number for each egress, from 1 up. -/
def Egress.no : Egress → Nat
  | .fabric n => n + 1
  | .inner p => p + 129

/-- Whether two packets stand in one line: one ingress, egress and class, and one lane, since lane 1 never waits on lane 0 (R277); the copies of multicast packets of one egress and class stand in a line of their own (R259). -/
def QEntry.sameLine (x q : QEntry) : Bool :=
  x.egress == q.egress && x.pkt.tc == q.pkt.tc && x.group.isSome == q.group.isSome
    && (q.group.isSome || (x.origin == q.origin && x.inner == q.inner && x.pkt.lane == q.pkt.lane))

/-- Whether two packets are of one stream of R252: one ingress, egress and class; for multicast copies, one egress and class. -/
def QEntry.sameStream (x q : QEntry) : Bool :=
  x.egress == q.egress && x.pkt.tc == q.pkt.tc && x.group.isSome == q.group.isSome
    && (q.group.isSome || (x.origin == q.origin && x.inner == q.inner))

/-- Whether a packet is the first of its line that still waits. -/
def SwCore.isHead (c : SwCore) (q : QEntry) : Bool :=
  match c.queue.find? fun x => x.waiting && x.sameLine q with
  | some x => x.id == q.id
  | none => false

/-! ### The two stages (R250, R251) -/

/-- Whether middle buffer `m` has room for a cell to output `o`: 2 cells for each output. -/
def SwCore.midRoom (c : SwCore) (m o : Nat) : Bool := ((lookup c.mids (m * 128 + o)).getD []).length < 2

/-- The first of a packet's outputs that has room in a middle buffer. -/
def SwCore.midFor (c : SwCore) (width m : Nat) (q : QEntry) : Option Nat := (q.outputs width).find? fun o => c.midRoom m o

/-- Whether the next cell of a packet may cross stage one at input `i` into middle buffer `m`: the packet is eligible and the first of its line, and the buffer has room. -/
def SwCore.mayCross (c : SwCore) (width i m : Nat) (q : QEntry) : Bool :=
  q.reserved && q.waiting && (q.inputs width).contains i && c.isHead q && (c.midFor width m q).isSome

/-- Stage one at input `i` in cycle t: one eligible cell that has room in middle buffer (i + t) mod 128, chosen under R242; a fenced buffer is skipped (R253). -/
def SwCore.stageOne (width fenced : Nat) (c : SwCore) (i : Nat) : SwCore :=
  let m := (i + c.cycle) % 128
  if fenced.testBit m then c
  else
    let can := c.queue.filter fun q => c.mayCross width i m q
    match ((lookup c.ins i).getD {}).pick (can.map fun q => ⟨q.pkt.tc, q.egress.no, 1, q.id⟩) with
    | none => c
    | some (x, d) => match can.find? fun q => q.id == x.id with
      | none => c
      | some q =>
        let o := (c.midFor width m q).getD 0
        { c with
          mids := insertAt c.mids (m * 128 + o) ((lookup c.mids (m * 128 + o)).getD [] ++ [⟨q.id, q.sent, c.cycle⟩]),
          queue := c.queue.map fun y => if y.id == q.id then { y with sent := y.sent + 1, no := if y.no == 0 then c.nextNo else y.no } else y,
          nextNo := if q.no == 0 then c.nextNo + 1 else c.nextNo,
          ins := insertAt c.ins i d }

/-- Stage two at middle buffer `m` in cycle t: its oldest cell for output (m - t) mod 128, written in an earlier cycle, goes to that output's resequencer of 256 cells. -/
def SwCore.stageTwo (c : SwCore) (m : Nat) : SwCore :=
  let o := (m + 128 - c.cycle % 128) % 128
  let line := (lookup c.reseq o).getD []
  match (lookup c.mids (m * 128 + o)).getD [] with
  | [] => c
  | x :: rest =>
    if x.at_ < c.cycle && line.length < 256 then
      { c with mids := if rest.isEmpty then removeAt c.mids (m * 128 + o) else insertAt c.mids (m * 128 + o) rest,
               reseq := insertAt c.reseq o (line ++ [x]) }
    else c

/-! ### The resequencers (R252) -/

/-- Whether a cell in a resequencer is the next of its stream: its packet's earlier cells and every packet of the stream that began to cross before have been released. -/
def SwCore.inOrder (c : SwCore) (x : XCell) : Bool :=
  match c.queue.find? fun q => q.id == x.id with
  | none => true
  | some q => q.rel == x.ix && c.queue.all fun y => !(y.sameStream q && y.no != 0 && y.no < q.no) || y.rel == y.cells

/-- Releases cells in order; the number bounds them. -/
def SwCore.releaseN : Nat → SwCore → SwCore
  | 0, c => c
  | fuel + 1, c =>
    match c.reseq.find? fun e => e.2.any fun x => c.inOrder x with
    | none => c
    | some (o, l) => match l.find? fun x => c.inOrder x with
      | none => c
      | some x =>
        let rest := l.erase x
        SwCore.releaseN fuel
          { c with reseq := if rest.isEmpty then removeAt c.reseq o else insertAt c.reseq o rest,
                   queue := c.queue.map fun q => if q.id == x.id then { q with rel := q.rel + 1 } else q }

/-- The cells in some buffers. -/
def cellsIn (m : SMap (List XCell)) : Nat := (m.map fun e => e.2.length).sum

/-- The fullest of some buffers. -/
def fullest (m : SMap (List XCell)) : Nat := m.foldl (fun n e => max n e.2.length) 0

/-- What a run of the crossbar gives: the queues after it, the cells that crossed stage two, the largest resequencer seen. -/
structure XRun where
  core : SwCore
  moved : Nat := 0
  top : Nat := 0
deriving DecidableEq, Repr

/-- One XCLK cycle: stage two, the releases, stage one. -/
def XRun.cycle (width fenced : Nat) (r : XRun) : XRun :=
  let c := r.core
  let ms := (c.mids.map fun e => e.1 / 128).eraseDups
  let c' := ms.foldl SwCore.stageTwo c
  let moved := cellsIn c.mids - cellsIn c'.mids
  let top := fullest c'.reseq
  let c' := c'.releaseN (cellsIn c'.reseq)
  let is := ((c'.queue.filter fun q => q.reserved && q.waiting).map fun q => q.inputs width).flatten.eraseDups
  let c' := is.foldl (SwCore.stageOne width fenced) c'
  { core := { c' with cycle := c.cycle + 1 }, moved := r.moved + moved, top := max r.top top }

/-- A number of XCLK cycles. -/
def XRun.cycles (width fenced : Nat) : Nat → XRun → XRun
  | 0, r => r
  | k + 1, r => XRun.cycles width fenced k (r.cycle width fenced)

/-! ### The crossbar in the switch -/

/-- Whether the crossbar runs. -/
def State.xbarRuns (s : State) : Bool := !s.swc.inReset && decide (3 < s.swc.step)

/-- The middle buffers fenced, as a mask of 128 bits (R253). -/
def State.fencedMids (s : State) : Nat := (s.rd .sw XBR_MID_FENCE0).toNat + (s.rd .sw XBR_MID_FENCE1).toNat * 2 ^ 64

/-- Whether another copy of a multicast packet is still held (R259). -/
def State.copyHeld (s : State) (q : QEntry) : Bool := match q.group with
  | some g => s.sw.core.queue.any fun x => x.waiting && x.group == some g
  | none => false

/-- Hands the cells that the crossbar has released to the transmitters of their links, for the packets that have started there (R249); a packet whose last cell has gone leaves the list. -/
def State.feedPort (s : State) (old : List QEntry) (q : QEntry) : State :=
  match q.egress with
  | .fabric n =>
    let was := ((old.find? fun x => x.id == q.id).map (·.rel)).getD q.rel
    (s.onPort .sw n fun pt => { pt with ready := pt.ready + (q.rel - was) }).pumpAll .sw n
  | .inner _ => s

/-- The XCLK cycles of one tick: eight (R250 to R252). The packets whose last cell has crossed stage one leave their ingress queues and their credit goes back (R243, R248); the cells are counted; the words corrected meanwhile are a free value (R253). DESIGN CHOICE, log 191. -/
def State.xbarTick (s : State) : State :=
  if !s.xbarRuns then s
  else
    let old := s.sw.core.queue
    let r := XRun.cycles ((s.widths .sw).headD 8) s.fencedMids 8 { core := s.sw.core }
    let s := s.onCore fun _ => r.core
    let s := old.foldl (fun s q =>
      let left := q.waiting && !(r.core.queue.any fun x => x.id == q.id && x.waiting)
      match q.origin with
      | some n => s.when (left && !s.copyHeld q) fun s => s.owe .sw n q.pkt
      | none => s) s
    let s := (s.addWrap .sw XBR_CELLS_COUNT r.moved).peak .sw XBR_RESEQ_PEAK r.top
    let s := s.when (r.moved != 0) fun s => (s.count .sw XBR_ECC_CE s.draw).drawn
    let s := (r.core.queue.filter fun q => q.begun).foldl (fun s q => s.feedPort old q) s
    s.onCore fun c => { c with queue := c.queue.filter fun q => !(q.begun && q.rel == q.cells) }

end Sys2Proof.Machine
end

