-- ==== Sys2Proof/Machine/SwitchCore.lean ====
section
/-! DEFINITION. The switch core and the routing of both parts: arrival and queueing (R273), marking (R254 to R258), credits and egress (R248, R249), multicast residue (R259, R260), the plane flips (R281 to R283), port release (R284 to R286), bridles (R361, R362) and congestion maps (R288 to R290). -/

namespace Sys2Proof.Machine

/-! ### Congestion maps (R288 to R290) -/

/-- The register file without the readable bank. -/
def dropBank (m : RegFile) : RegFile :=
  let at_ (r : Reg) : Nat := r.page * 4096 + r.off
  let gone := [at_ CGT_HIST, at_ CGT_CELLS] ++ (upTo 4).map fun k => at_ (CGT_MAP.word k)
  keepIf (fun k _ => !gone.contains (k % 2 ^ 24)) m

/-- CGT.CTL.ENABLE written: setting it, while it is clear, zeroes both banks and opens window 0. -/
def State.setCgtEnable (s : State) (v : Nat) : State :=
  let was := s.flag .sw CGT_CTL_ENABLE
  let s := s.put .sw CGT_CTL_ENABLE v
  if v == 1 && !was then
    let s := s.onChip .sw fun c => { c with regs := dropBank c.regs }
    let s := s.onCore fun c => { c with live := [], liveMarked := [], liveOpen := s.now .sw }
    s.wr .sw CGT_WIN_NUM 0
  else s

/-- CGT_ENABLE_WRITE (R288). -/
def cgtEnableWrite (path : Path) (v : Nat) (s : State) : State :=
  s.writeBy path .sw pgCgt 0x40 fun s => (s.setCgtEnable (v % 2), true)

def execCgtEnableWrite (path : Path) (v : Nat) (s : State) : Host.Outcome State Fault Refusal := .next (cgtEnableWrite path v s)

/-- The bank of CGT.HIST for a port, class and bin. -/
def bankHist (n tc bin : Nat) : Nat := 1 + (n * 8 + tc) * 8 + bin

/-- The level of an egress and class in a window of `len` ticks (R289). -/
def congLevel (live : SMap Nat) (marked : List Nat) (n tc len : Nat) : Nat :=
  let cnt (i : Nat) : Nat := (lookup live ((n * 8 + tc) * 16 + i)).getD 0
  let hi := cnt 5 + cnt 6 + cnt 7
  if len ≤ 8 * hi then 3 else if len ≤ 8 * (hi + cnt 3 + cnt 4) then 2 else if marked.contains (n * 8 + tc) then 1 else 0

/-- The map word of 32 ports of a class. -/
def mapWord (live : SMap Nat) (marked ports : List Nat) (tc k len : Nat) : Nat :=
  ((upTo 32).map fun j => if ports.contains (32 * k + j) then congLevel live marked (32 * k + j) tc len * 4 ^ j else 0).sum

/-- TELEMETRY_WINDOW_CLOSE (R288 to R290): the window ends once its last tick is past. DEDUCED, log 66, 176. -/
def telemetryWindowClose (s : State) : State :=
  let c := s.sw.core
  let len := s.get .sw CGT_WIN_LEN_TICKS
  if !s.flag .sw CGT_CTL_ENABLE || !s.due .sw c.liveOpen len then s
  else
    let ports := s.portList .sw
    let s := s.onChip .sw fun c => { c with regs := dropBank c.regs }
    let s := c.live.foldl (fun s e =>
      let pc := e.1 / 16
      let i := e.1 % 16
      if i < 8 then s.put .sw CGT_HIST_TICKS e.2 (1 + pc * 8 + i)
      else s.put .sw (if i == 8 then CGT_CELLS_SENT else CGT_CELLS_STALLED) (min e.2 (2 ^ 32 - 1)) (bankPC (pc / 8) (pc % 8))) s
    let word (tc k : Nat) : Nat := mapWord c.live c.liveMarked ports tc k len
    let s := (upTo 8).foldl (fun s tc => (upTo 4).foldl (fun s k =>
      s.wr .sw (CGT_MAP.word k) (BitVec.ofNat 64 (word tc k)) (tc + 1)) s) s
    let num := s.get .sw CGT_WIN_NUM_NUM
    let s := (s.addWrap .sw CGT_WIN_NUM_NUM).put .sw CGT_WIN_NUM_OPEN_TICK c.liveOpen
    let s := s.onCore fun c => { c with live := [], liveMarked := [], liveOpen := c.liveOpen + len }
    if s.flag .sw CGT_PUSH_ENABLE && s.cpuUp 3 then
      let old (q : QEntry) : Bool := q.pkt.op == opCGT_MAP && q.origin.isNone && !q.begun
      let s := s.when (s.sw.core.queue.any old) fun s => (s.dropQueued old).count .sw CGT_PUSH_STS_SKIPPED
      let dst := s.get .sw CGT_PUSH_COLLECTOR
      let pl := leBytes 4 num ++ leBytes 4 c.liveOpen ++ leBytes 4 (s.get .sw PWR_STS_LEVEL) ++ leBytes 4 (s.get .sw XBR_STS_MID_FENCED)
        ++ ((upTo 8).map fun tc => ((upTo 4).map fun k => leBytes 8 (word tc k)).flatten).flatten
      s.swSend (sealPkt { dst := dst, src := s.switchId, srcSw := true, tc := 7, op := opCGT_MAP, addr := targetForm 0 dst 0,
                          len := 272, payload := pl })
    else s

/-- Closes the windows that have ended by now, one for each length passed: an event stamped at a window's end or later counts in the next (R11, R288). The number bounds them. -/
def State.teleRollN : Nat → State → State
  | 0, s => s
  | fuel + 1, s =>
    if s.flag .sw CGT_CTL_ENABLE && s.due .sw s.sw.core.liveOpen (s.get .sw CGT_WIN_LEN_TICKS) then
      State.teleRollN fuel (telemetryWindowClose s)
    else s

/-- Brings the telemetry window up to this tick (R11, R288). -/
def State.teleRoll (s : State) : State :=
  s.teleRollN ((s.now .sw - s.sw.core.liveOpen) / max 1 (s.get .sw CGT_WIN_LEN_TICKS) + 1)

/-- Notes that a packet of an egress port and class was marked or dropped in this window (R289). -/
def State.noteMarked (s : State) (e : Egress) (tc : Nat) : State :=
  match e with
  | .fabric m => s.when (s.flag .sw CGT_CTL_ENABLE) fun s =>
      s.teleRoll.onCore fun c =>
        { c with liveMarked := if c.liveMarked.contains (m * 8 + tc) then c.liveMarked else c.liveMarked ++ [m * 8 + tc] }
  | .inner _ => s

/-- Adds to a live count of an egress port and class (R288). -/
def State.liveAdd (s : State) (n tc ix k : Nat) : State :=
  s.when (s.flag .sw CGT_CTL_ENABLE) fun s =>
    s.teleRoll.onCore fun c =>
      { c with live := insertAt c.live ((n * 8 + tc) * 16 + ix) ((lookup c.live ((n * 8 + tc) * 16 + ix)).getD 0 + k) }

def execTelemetryWindowClose (s : State) : Host.Outcome State Fault Refusal := .next (telemetryWindowClose s)

/-! ### Marks and notices -/

/-- The register with the RED profile of a colour (R256). -/
def profileOf (colour : Nat) : Reg := if colour == 0 then BUF_PROF_G else if colour == 1 then BUF_PROF_Y else BUF_PROF_R

/-- The judgement of R256 on occupancy x = A / G as exact fractions: none for p = 0, some true for p = 1, some false between, and where a girth of 0 with no backlog leaves x without a value. DESIGN CHOICE, log 55. -/
def judge (a : Dyad) (g minv maxv pmax : Nat) : Option Bool :=
  -- x = num / (2^exp * g), compared with min / 64 and max / 64
  let x := 64 * a.num
  let d := 2 ^ a.exp * g
  if x == 0 && d == 0 then some false
  else if x < minv * d then none
  else if x < maxv * d then (if x == minv * d then none else some false)
  else if x < 2 * maxv * d then some (pmax == 16)
  else some true

/-! ### Arrival (R273) -/

/-- A packet discarded at a fabric port returns its credit. -/
def State.discardAt (s : State) (n : Nat) (k : Packet) (f : Fld) : State := (s.count .sw f).owe .sw n k

/-- Marks or drops an arriving packet (R245, R254 to R257, R483), then queues it. DESIGN CHOICE, log 55. -/
def State.judgeAndQueue (s : State) (n : Nat) (e : Egress) (k : Packet) : State :=
  let power := (k.tc == 0 || k.tc == 3 || k.tc == 5) && s.sw.core.powerMark != 0
  let pv : Bool := power && (s.sw.core.powerMark == 255 || s.draw % 2 == 1)
  let s := s.when (power && s.sw.core.powerMark != 255) State.drawn
  let red := match e with
    | .fabric m =>
      if s.flag .sw BUF_RED_CFG_ENABLE then
        let pr := s.rd .sw (profileOf k.colour)
        judge ((lookup s.sw.core.avgs (m * 8 + k.tc)).getD {}) (s.girth m k.tc) (getBits pr 0 7) (getBits pr 8 7) (getBits pr 16 5)
      else none
    | .inner _ => none
  let rv : Bool := match red with
    | none => false
    | some true => true
    | some false => s.draw % 2 == 1
  let s := s.when (red == some false) State.drawn
  let note (s : State) : State := s.noteMarked e k.tc
  let counted (f : Fld) (s : State) : State := match e with
    | .fabric m => s.count .sw f 1 (bankPC m k.tc 1)
    | .inner _ => s
  if 6 ≤ k.tc then
    if rv || s.girth n k.tc < s.ingressCells n k.tc + cellsOf k.payload.length then
      let s := note s
      let s := if rv then counted BUF_MARKS_DROPPED s else s.count .sw BUF_MARKS_DROPPED 1 (bankPC n k.tc 0)
      s.owe .sw n k
    else s.enqueue (some n) e k
  else if rv || pv then
    (counted BUF_MARKS_MARKED (note s)).enqueue (some n) e { k with mark := true }
  else s.enqueue (some n) e k

/-- Reports a herd packet discarded in transit at the switch (R534): toward an endpoint sender only. -/
def State.reportDiscard (s : State) (k : Packet) : State :=
  if k.srcSw then s
  else match herdDiscardReport true s.switchId k.src k with
    | some r => s.swSend r
    | none => s

/-- The internal port of a packet for this switch (R241): for a herd's data the port of the core assigned to the chunk, an ACTIVE one assigned with its first packet. DESIGN CHOICE, log 118. -/
def State.sinkFor (s : State) (k : Packet) : Nat × State :=
  if k.op == opHERD_CONTRIB || k.op == opHERD_PARTIAL || k.op == opHERD_JOIN then
    let x := (herdPrefix k).chunk
    let i := herdIx k
    match (s.herd i).bind fun h => lookup h.cores x with
    | some c => (sinkOf k c, s)
    | none =>
      let can := (upTo 64).filter s.coreActive
      let c := can.getD (s.draw % can.length) 0
      (sinkOf k c, s.drawn.onHerd i fun h => { h with cores := insertAt h.cores x c })
  else (sinkOf k 0, s)

/-- SWITCH_PACKET_ARRIVAL (R273): a packet arrives on fabric port `n`. DEDUCED, log 63. -/
def switchPacketArrival (n : Nat) (k : Packet) (s : State) : State :=
  let st := s.portState n
  if st == 0 then s
  else if st == 1 && !(k.tc == 7 && s.forSwitch k && !k.srcSw && k.src == s.partnerOf n) then s.discardAt n k RTE_DISC_QUARANTINE
  else if s.forSwitch k then (s.sinkFor k).2.judgeAndQueue n (.inner (s.sinkFor k).1) k
  else if (addrSwitch k).any fun sid => !swIdValid sid then lost s
  else
    let e := s.egressOf k.dst
    if e == some n then s.discardAt n k RTE_DISC_UTURN
    else match e with
      | some m =>
        if s.portState m == 2 then s.judgeAndQueue n (.fabric m) k else lost s
      | none => lost s
where
  lost (s : State) : State :=
    let s := s.discardAt n k RTE_DISC_NO_ROUTE
    let s := s.when (isRequest k.op && !k.srcSw) fun s => s.swAnswer k stUNREACHABLE
    s.reportDiscard k

def execSwitchPacketArrival (n : Nat) (k : Packet) (s : State) : Host.Outcome State Fault Refusal := .next (switchPacketArrival n k s)

/-! ### Credits and egress (R248, R249, R252) -/

/-- A queued packet by its number. -/
def State.queued (s : State) (id : Nat) : Option QEntry := s.sw.core.queue.find? (·.id == id)

/-- The cells that an internal sink has reserved for a class and not yet taken. -/
def State.sinkHeld (s : State) (p tc : Nat) : Nat :=
  ((s.sw.core.queue.filter fun x => x.reserved && x.egress == .inner p && x.pkt.tc == tc).map (·.cells)).sum

/-- Whether the egress of a queued packet has credit for all its flits: the link partner's, or the sink's, which takes one packet at least and more as it is built, and no data of a chunk beyond its herd's window (R193, R248, R273, R284). DESIGN CHOICE, log 192. -/
def State.hasCredit (s : State) (q : QEntry) : Bool :=
  match q.egress with
  | .fabric n =>
    s.portTakes n q.origin.isNone q.pkt
      && q.cells ≤ (s.port .sw n).credit.getD (creditIx q.pkt.tc (s.laneOf .sw n q.pkt.lane)) 0
  | .inner p =>
    let need := s.sinkHeld p q.pkt.tc + q.cells
    !s.beyondWindow q.pkt && (decide (need ≤ 18) || decide (need ≤ 18 + Config.sinkRoom p q.pkt.tc))

/-- Reserves a packet's credit at its next hop. -/
def State.reserve (s : State) (q : QEntry) : State :=
  let s := match q.egress with
    | .fabric n => s.onPort .sw n fun pt =>
        { pt with credit := bumpAt pt.credit (creditIx q.pkt.tc (s.laneOf .sw n q.pkt.lane)) (· - q.cells) }
    | .inner _ => s
  s.onCore fun c => { c with queue := c.queue.map fun x => if x.id == q.id then { x with reserved := true } else x }

/-- Whether fewer than 4,096 multicast packets before a copy's own hold residue (R260). -/
def State.residueRoom (s : State) (q : QEntry) : Bool :=
  match q.group with
  | some g => decide ((((s.sw.core.queue.filter (·.waiting)).filterMap fun x => x.group).eraseDups.filter fun j => decide (j < g)).length < 4096)
  | none => true

/-- CREDIT_RESERVE (R248). -/
def creditReserve (id : Nat) (s : State) : State :=
  match s.queued id with
  | some q => if !q.reserved && !q.waitsJoin && s.hasCredit q && s.residueRoom q then s.reserve q else s
  | none => s

def execCreditReserve (id : Nat) (s : State) : Host.Outcome State Fault Refusal := .next (creditReserve id s)

/-- The packets that may start at an egress port: their first two cells, or their only one, are in order there, and the link is between packets (R249). -/
def State.startable (s : State) (n : Nat) : List QEntry :=
  if (s.port .sw n).cur.isEmpty then
    s.sw.core.queue.filter fun q => q.egress == .fabric n && !q.begun && min 2 q.cells ≤ q.rel
  else []

/-- Where the chooser of an egress port stands once it has chosen a packet, or none where R242 gives another class its turn. -/
def State.egressPick (s : State) (n : Nat) (q : QEntry) : Option Sched :=
  let cand (x : QEntry) : Cand := ⟨x.pkt.tc, 1, x.cells, x.id⟩
  match ((lookup s.sw.core.outs n).getD {}).pick (cand q :: ((s.startable n).erase q).map cand) with
  | some (x, d) => if x.id == q.id then some d else none
  | none => none

/-- A packet starts on its link: the egress sends it as one run of flits, as its cells come (R249). -/
def State.startOnLink (s : State) (n : Nat) (q : QEntry) (d : Sched) : State :=
  let s := s.liveAdd n q.pkt.tc 8 q.cells
  let s := s.when (q.pkt.op == opCGT_MAP && q.origin.isNone) fun s => s.count .sw CGT_PUSH_STS_SENT
  let s := s.onCore fun c =>
    { c with outs := insertAt c.outs n d,
             queue := if q.rel == q.cells then c.queue.filter fun x => x.id != q.id
               else c.queue.map fun x => if x.id == q.id then { x with begun := true } else x }
  ((s.emit (.packet .sw n q.pkt)).loadPacket .sw n q.pkt q.rel).pumpAll .sw n

/-- A packet whose cells are in order at its egress leaves by it: on its link when R242 gives its class the turn, or, whole, into its internal sink. -/
def State.depart (s : State) (q : QEntry) : State :=
  match q.egress with
  | .fabric n =>
    if (s.startable n).any fun x => x.id == q.id then
      match s.egressPick n q with
      | some d => s.startOnLink n q d
      | none => s
    else s
  | .inner p =>
    if q.rel == q.cells then
      (s.onCore fun c => { c with queue := c.queue.filter fun x => x.id != q.id }).emit (.toSink p q.pkt)
    else s

/-- EGRESS_PACKET_START (R249): a packet whose first two cells are in order at its egress starts there. -/
def egressPacketStart (id : Nat) (s : State) : State :=
  match s.queued id with
  | some q => s.depart q
  | none => s

def execEgressPacketStart (id : Nat) (s : State) : Host.Outcome State Fault Refusal := .next (egressPacketStart id s)

/-- MCAST_COPY_SEND (R259, R260): a multicast copy whose member has joined takes its credit, crosses the crossbar on its own, and leaves once its cells are in order at its egress. -/
def mcastCopySend (id : Nat) (s : State) : State :=
  match s.queued id with
  | some q =>
    if q.group.isNone || q.waitsJoin then s
    else if q.reserved then s.depart q
    else s.when (s.hasCredit q && s.residueRoom q) fun s => s.reserve q
  | none => s

def execMcastCopySend (id : Nat) (s : State) : Host.Outcome State Fault Refusal := .next (mcastCopySend id s)

/-- LOSSY_RESIDUE_EXPIRY (R260): TC6 or TC7 residue older than 1,750 ticks. -/
def lossyResidueExpiry (group : Nat) (s : State) : State :=
  let old (q : QEntry) : Bool := q.group == some group && 6 ≤ q.pkt.tc && q.sent == 0 && s.due .sw q.at_ 1750
  match s.sw.core.queue.filter old with
  | [] => s
  | l => ((l.foldl (fun s q => s.noteMarked q.egress q.pkt.tc) s).dropQueued old).count .sw BUF_MCAST_LOSSY_DROP

def execLossyResidueExpiry (group : Nat) (s : State) : Host.Outcome State Fault Refusal := .next (lossyResidueExpiry group s)

/-- The bits of a middle-buffer mask as the pair of registers. -/
def State.fenceMid (s : State) (b : Nat) : State :=
  let r := if b < 64 then XBR_MID_FENCE0 else XBR_MID_FENCE1
  let s := s.wr .sw r (setBits (s.rd .sw r) (b % 64) 1 1)
  s.put .sw XBR_STS_MID_FENCED (popCount 64 (s.rd .sw XBR_MID_FENCE0).toNat + popCount 64 (s.rd .sw XBR_MID_FENCE1).toNat)

/-- The write-one-to-set of a MID_FENCE register. -/
def State.setMidFence (s : State) (hi : Bool) (v : Word) : State :=
  (upTo 64).foldl (fun s i => if v.getLsbD i then s.fenceMid (i + if hi then 64 else 0) else s) s

/-- MID_FENCE_SET (R269): software writes MID_FENCE0 (`hi` false) or MID_FENCE1. -/
def midFenceSet (path : Path) (hi : Bool) (v : Word) (s : State) : State :=
  s.writeBy path .sw pgXbr (if hi then 0x50 else 0x48) fun s => (s.setMidFence hi v, true)

def execMidFenceSet (path : Path) (hi : Bool) (v : Word) (s : State) : Host.Outcome State Fault Refusal := .next (midFenceSet path hi v s)

/-- The bin of an occupancy B / G (R288); `free` where a girth of 0 with no backlog leaves B / G without a value. DESIGN CHOICE, log 55. -/
def occBin (b g free : Nat) : Nat :=
  if b == 0 && g == 0 then free % 8
  else if 16 * b < g then 0 else if 8 * b < g then 1 else if 4 * b < g then 2 else if 2 * b < g then 3
  else if b < g then 4 else if b < 2 * g then 5 else if b < 4 * g then 6 else 7

/-- One egress and class in one tick: the average of R255, the histogram bin and the stall count of R288. -/
def State.backlogTick (s : State) (n tc : Nat) : State :=
  let b := s.backlog (.fabric n) tc
  let a := (lookup s.sw.core.avgs (n * 8 + tc)).getD {}
  let w := s.get .sw BUF_RED_CFG_WEIGHT
  let a' : Dyad := if a.num == 0 && b == 0 then {} else ⟨a.num * (2 ^ w - 1) + b * 2 ^ a.exp, a.exp + w⟩
  let s := s.onCore fun c => { c with avgs := if a'.num == 0 then removeAt c.avgs (n * 8 + tc) else insertAt c.avgs (n * 8 + tc) a' }
  if s.flag .sw CGT_CTL_ENABLE then
    let s := (s.liveAdd n tc (occBin b (s.girth n tc) s.draw) 1).when (b == 0 && s.girth n tc == 0) State.drawn
    let held (q : QEntry) : Bool := q.waiting && q.egress == .fabric n && q.pkt.tc == tc
    let stalled := s.sw.core.queue.any fun q => held q && !q.reserved
    let free := s.sw.core.queue.any fun q => held q && (q.reserved || s.hasCredit q)
    s.when (stalled && !free) fun s => s.liveAdd n tc 9 1
  else s

/-- BACKLOG_AVERAGE_UPDATE (R255, R288). -/
def backlogAverageUpdate (s : State) : State :=
  (s.portList .sw).foldl (fun s n => (upTo 8).foldl (fun s tc => s.backlogTick n tc) s) s

def execBacklogAverageUpdate (s : State) : Host.Outcome State Fault Refusal := .next (backlogAverageUpdate s)

/-- CONGESTION_NOTICE_INTERVAL (R258): the 16-tick interval of a source and class ends. -/
def congestionNoticeInterval (p : Part) (src tc : Nat) (s : State) : State :=
  let m := s.markCount p src tc
  match m.last with
  | some t => if s.due p t 16 && m.marks != 0 then s.sendNotice p src tc m.marks else s
  | none => s

def execCongestionNoticeInterval (p : Part) (src tc : Nat) (s : State) : Host.Outcome State Fault Refusal :=
  .next (congestionNoticeInterval p src tc s)

/-! ### Plane flips (R281 to R283) -/

/-- Starts the flip of some buckets away from a plane: a drain probe over its link to the switch (R281). DEDUCED, log 65. -/
def State.startFlip (s : State) (axis buckets old : Nat) (coord : Option Nat := none) : State :=
  let n := linkOf axis old
  if buckets == 0 || !s.linkUsable n 4 then s
  else
    let tag := s.ep.rly.probeTag % 65536
    let sid := s.get .ep FPT_PARTNER_SWITCH_ID 0 n
    let k := sealPkt { dst := s.nodeId, src := s.nodeId, tc := 4, op := opDRAIN_PROBE, tag := tag, addr := targetForm 1 sid 0 }
    let s := s.onRly fun r =>
      { r with flips := r.flips ++ [⟨axis, buckets, old, tag, true, none, 0, coord⟩], probeTag := r.probeTag + 1 }
    (s.holdTx n).transmit n k

/-- Sends the held packets that no flip holds any longer, in order. -/
def State.releaseHeld (s : State) : State :=
  let stay (x : Nat × Nat × Option Nat × Bool × Packet) : Bool := s.heldBy x.1 x.2.1 (coordOf x.1 x.2.2.2.2.dst)
  let go := s.ep.rly.heldPk.filter fun x => !stay x
  let s := s.onRly fun r => { r with heldPk := r.heldPk.filter stay }
  go.foldl (fun s x => State.epRoute 3 x.2.2.1 x.2.2.2.1 x.2.2.2.2 s) s

/-- The register of an axis's plane map. -/
def pmapReg (axis : Nat) : Reg := if axis == 1 then RLY_PMAP_X else if axis == 2 then RLY_PMAP_Y else RLY_PMAP_Z

/-- A new plane map: each changed bucket flips (R281). -/
def State.setPlaneMap (s : State) (axis : Nat) (v : Word) : State :=
  let old := s.planeMap axis
  let toB := (v &&& ~~~old).toNat
  let toA := (old &&& ~~~v).toNat
  let s := s.startFlip axis toB 0
  let s := s.startFlip axis toA 1
  s.wr .ep (pmapReg axis) v

/-- PMAP_WRITE (R281): axis 1 X, 2 Y, 3 Z. -/
def pmapWrite (path : Path) (axis : Nat) (v : Word) (s : State) : State :=
  s.writeBy path .ep pgRly (0x38 + 8 * axis) fun s => (s.setPlaneMap axis v, true)

def execPmapWrite (path : Path) (axis : Nat) (v : Word) (s : State) : Host.Outcome State Fault Refusal := .next (pmapWrite path axis v s)

/-- DRAIN_PROBE_RECEIVE (R273, R282). -/
def drainProbeReceive (n : Nat) (k : Packet) (s : State) : State :=
  let st := s.portState n
  if st == 0 then s
  else if st == 1 then s.discardAt n k RTE_DISC_QUARANTINE
  else (s.onCore fun c => { c with probes := c.probes ++ [⟨n, k, c.nextId⟩] }).owe .sw n k

def execDrainProbeReceive (n : Nat) (k : Packet) (s : State) : Host.Outcome State Fault Refusal := .next (drainProbeReceive n k s)

/-- PROBE_ANSWER (R282): every packet that arrived on the port before the probe has crossed stage one. -/
def probeAnswer (n tag : Nat) (s : State) : State :=
  match s.sw.core.probes.find? fun b => b.port == n && b.pkt.tag == tag with
  | some b =>
    if s.sw.core.queue.any fun q => q.waiting && q.origin == some n && q.id < b.before then s
    else
      let s := s.onCore fun c => { c with probes := c.probes.erase b }
      let a := sealPkt { dst := b.pkt.src, src := s.switchId, srcSw := true, tc := 4, op := opPROBE_ACK, tag := tag,
                         addr := targetForm 0 b.pkt.src 0 }
      (s.swSend a).count .sw RTE_PROBES_ANSWERED
  | none => s

def execProbeAnswer (n tag : Nat) (s : State) : Host.Outcome State Fault Refusal := .next (probeAnswer n tag s)

/-- PROBE_ACK_RECEIVE (R281): the settle starts. -/
def probeAckReceive (k : Packet) (s : State) : State :=
  let now := s.now .ep
  s.onRly fun r => { r with flips := r.flips.map fun f =>
    if f.tag == k.tag && f.awaiting then
      { f with awaiting := false, settleFrom := some now, settle := s.settleTicks (linkOf f.axis f.old) } else f }

def execProbeAckReceive (k : Packet) (s : State) : Host.Outcome State Fault Refusal := .next (probeAckReceive k s)

/-- FLIP_SETTLE_EXPIRY (R281): the settle of the flip with this probe tag has ended. DEDUCED, log 65. -/
def flipSettleExpiry (tag : Nat) (s : State) : State :=
  let past (f : Flip) : Bool := f.tag == tag && !f.awaiting && (match f.settleFrom with
    | some t => s.due .ep t f.settle
    | none => false)
  if s.ep.rly.flips.any past then
    (s.onRly fun r => { r with flips := r.flips.filter fun f => !past f }).releaseHeld
  else s

def execFlipSettleExpiry (tag : Nat) (s : State) : Host.Outcome State Fault Refusal := .next (flipSettleExpiry tag s)

/-- ROUTE_DOWN_RECEIVE (R286): the coordinate is marked down; the packets to it that a flip holds, or that wait for the marked plane's link, go on at once by the other plane. DEDUCED, log 54. -/
def routeDownReceive (k : Packet) (s : State) : State :=
  let axis := bitsOf k.aux 0 2
  let pl := bitsOf k.aux 2 1
  let c := bitsOf k.aux 3 6
  let b := downBank axis pl
  let s := s.wr .ep RLY_DOWN_MAP (setBits (s.rd .ep RLY_DOWN_MAP b) c 1 1) b
  let s := s.event .ep pgRly .planeFailover (axis + 4 * pl + 8 * c) (rung := some 3)
  let s := s.releaseHeld
  let n := linkOf axis pl
  let there (k : Packet) : Bool := !s.split && k.dst != s.nodeId && (s.hopKey k).1 == axis && (s.hopKey k).2.2 == c
  let go := (s.port .ep n).txq.filter fun x => there x.2
  (go.foldl (fun s x => State.epRoute 3 x.1 false x.2 s) (s.pullTx n there)).membersPath

def execRouteDownReceive (k : Packet) (s : State) : Host.Outcome State Fault Refusal := .next (routeDownReceive k s)

/-- ROUTE_UP_RECEIVE (R286): the mark clears, and the buckets mapped to that plane flip back for the coordinate. -/
def routeUpReceive (k : Packet) (s : State) : State :=
  let axis := bitsOf k.aux 0 2
  let pl := bitsOf k.aux 2 1
  let c := bitsOf k.aux 3 6
  let b := downBank axis pl
  let was := s.markedDown axis pl c
  let s := s.wr .ep RLY_DOWN_MAP (setBits (s.rd .ep RLY_DOWN_MAP b) c 1 0) b
  s.when (was && s.linkUsable (linkOf axis pl) 4) fun s => s.startFlip axis (s.bucketsOn axis pl) (1 - pl) (some c)

def execRouteUpReceive (k : Packet) (s : State) : Host.Outcome State Fault Refusal := .next (routeUpReceive k s)

/-- PORT_ACTIVE_RECEIVE (R285): the link opens to every class, and the buckets mapped to its plane flip back to it (R281). -/
def portActiveReceive (n : Nat) (s : State) : State :=
  if s.stage .ep n != 5 then s
  else
    let was := s.ep.rly.opened.testBit n
    let s := s.onRly fun r => { r with opened := r.opened ||| 2 ^ n }
    let s := s.when (!was && !s.split) fun s => s.startFlip (n / 2 + 1) (s.bucketsOn (n / 2 + 1) (n % 2)) (1 - n % 2)
    s.readyCheck .ep

def execPortActiveReceive (n : Nat) (s : State) : Host.Outcome State Fault Refusal := .next (portActiveReceive n s)

/-! ### Port release (R284, R285, R291) -/

/-- The port becomes ACTIVE once its three conditions hold: PORT_ACTIVE to the partner, ROUTE_UP to the others. -/
def State.tryActivate (s : State) (n : Nat) : State :=
  let b := n + 1
  if s.portState n == 1 && s.flag .sw RTE_PORT_STS_ID_OK b && s.flag .sw RTE_PORT_STS_ROUTE_OK b && s.flag .sw RTE_PORT_STS_MEMBER_OK b then
    let s := s.put .sw RTE_PORT_STS_STATE 2 b
    let node := s.partnerOf n
    let s := s.enqueue none (.fabric n) (sealPkt { dst := node, src := s.switchId, srcSw := true, tc := 4, op := opPORT_ACTIVE,
                                                   addr := targetForm 0 node 0, aux := n })
    (s.routeNotices opROUTE_UP n).readyCheck .sw
  else s

/-- ROUTE_OK of a port is written. -/
def State.setRouteOk (s : State) (n : Nat) : State :=
  ((s.put .sw RTE_PORT_CTL_ROUTE_OK 1 (n + 1)).put .sw RTE_PORT_STS_ROUTE_OK 1 (n + 1)).tryActivate n

/-- ROUTE_OK_WRITE (R285): on the port that RTE.PORT_SEL names. -/
def routeOkWrite (path : Path) (s : State) : State :=
  s.writeBy path .sw pgRte 0x4C fun s => (s.setRouteOk (s.get .sw RTE_PORT_SEL_PORT), true)

def execRouteOkWrite (path : Path) (s : State) : Host.Outcome State Fault Refusal := .next (routeOkWrite path s)

/-- Whether the identity that SPDM verified matches the digest of the key exchange (R315). -/
def State.peerMatches (s : State) (n : Nat) (digest : List Byte) : Bool :=
  !(s.port .sw n).encrypted
    || (upTo 8).all fun k => s.rd .sw (LNK_PEER_ID.word k) 0 n == BitVec.ofNat 64 (natAt digest (8 * k) 8)

/-- PARTNER_IDENTITY_VERIFIED (R285): the SPDM exchange over TC7 ended; `digest` is the partner's alias digest. -/
def partnerIdentityVerified (n : Nat) (ok : Bool) (digest : List Byte) (s : State) : State :=
  if s.portState n != 1 then s
  else if ok && s.peerMatches n digest then
    let s := s.put .sw RTE_PORT_STS_ID_OK 1 (n + 1)
    let s := (upTo 8).foldl (fun s k => s.wr .sw (SEC_PEER.word k) (BitVec.ofNat 64 (natAt digest (8 * k) 8)) (n + 1)) s
    (s.tryActivate n).readyCheck .sw
  else
    let s := s.count .sw SEC_EVENTS_SPDM_FAIL
    s.event .sw pgRte .idFail (natAt digest 0 8) (natAt digest 8 8)

/-- RTE.PORT_CTL.DISABLE of a port is written. -/
def State.rteDisable (s : State) (n v : Nat) : State :=
  let s := s.put .sw RTE_PORT_CTL_DISABLE v (n + 1)
  if v == 1 then if 0 < s.stage .sw n then s.linkLost .sw n 0 none else s
  else if s.stage .sw n == 0 then s.startTack .sw n else s

/-- RTE_PORT_DISABLE (R291): on the port that RTE.PORT_SEL names. -/
def rtePortDisable (path : Path) (v : Nat) (s : State) : State :=
  s.writeBy path .sw pgRte 0x4C fun s => (s.rteDisable (s.get .sw RTE_PORT_SEL_PORT) (v % 2), true)

def execRtePortDisable (path : Path) (v : Nat) (s : State) : Host.Outcome State Fault Refusal := .next (rtePortDisable path v s)

/-! ### The endpoint's relay and bridles -/

/-- RELAY_PACKET (R274): a packet that arrives on a link, or with none one that the endpoint injects. -/
def execRelayPacket (arrived : Option Nat) (k : Packet) (s : State) : Host.Outcome State Fault Refusal :=
  .next (if arrived.isSome then s.epForward 3 arrived k else s.epInject k)

/-- CONG_NOTICE_RECEIVE (R361, R362). DESIGN CHOICE, log 53. -/
def congNoticeReceive (k : Packet) (s : State) : State :=
  let tc := natAt k.payload 0 4
  let m := natAt k.payload 4 4
  let dest := if k.srcSw then 3
    else if coordOf 3 k.src != coordOf 3 s.nodeId then 2
    else if coordOf 2 k.src != coordOf 2 s.nodeId then 1 else 0
  match bridleIx tc dest with
  | some ix =>
    let b := ix + 1
    let bn := s.bridleNow ix
    -- an increase of this very tick gives way to the notice
    let rate := match bn.rose with
      | some (t, before) => if t == s.now .ep then before else s.get .ep BRD_RATE_RATE b
      | none => s.get .ep BRD_RATE_RATE b
    let r := min rate 8571
    let cut := ceilDiv (r * m) (2 ^ s.get .ep BRD_CFG_DEC_SHIFT)
    let s := s.onRly fun rl => { rl with bridles := insertAt rl.bridles ix { bn with incFrom := s.now .ep, rose := none } }
    let s := s.put .ep BRD_RATE_RATE (max (r - cut) (s.get .ep BRD_CFG_MIN_RATE)) b
    s.count .ep BRD_STATS_MARKS m b
  | none => if tc == 1 || tc == 2 || tc == 4 then s.count .ep BRD_IGNORED_COUNT else s

def execCongNoticeReceive (k : Packet) (s : State) : Host.Outcome State Fault Refusal := .next (congNoticeReceive k s)

/-- BRIDLE_INCREASE (R362): INC_TICKS without a notice for the bridle. -/
def bridleIncrease (ix : Nat) (s : State) : State :=
  let b := s.bridleNow ix
  let d := s.get .ep BRD_TIMING_INC_TICKS
  if ix < 12 && s.due .ep b.incFrom d then
    let rate := s.get .ep BRD_RATE_RATE (ix + 1)
    let s := s.onRly fun r => { r with bridles := insertAt r.bridles ix { b with incFrom := b.incFrom + d, rose := some (b.incFrom + d, rate) } }
    s.put .ep BRD_RATE_RATE (min (s.get .ep BRD_RATE_RATE (ix + 1) + s.get .ep BRD_CFG_INC_STEP) 16383) (ix + 1)
  else s

def execBridleIncrease (ix : Nat) (s : State) : Host.Outcome State Fault Refusal := .next (bridleIncrease ix s)

end Sys2Proof.Machine
end

