-- ==== Sys2Proof/Machine/Power.lean ====
section
/-! DEFINITION. Throttle levels, the power controller and the sensors (R480 to R486, R520, R140), and the uncorrectable error of the packet memories (R253). -/

namespace Sys2Proof.Machine

/-! ### The budget (R480) -/

/-- Whether a switch port runs in LONG reach. -/
def State.longReach (s : State) (n : Nat) : Bool :=
  let r := getBits (s.port .sw n).cfg FPT_CFG_REACH.lo FPT_CFG_REACH.w
  r == 1 || (r == 2 && (s.port .sw n).long)

/-- P_NOM in tenths of a watt: 1,000 W plus 0.30 W for each lane that runs in LONG reach. DESIGN CHOICE, log 34. -/
def State.pNom (s : State) : Nat :=
  10000 + 3 * ((s.portList .sw).map fun n =>
    if s.stage .sw n == 5 && s.longReach n then popCount 16 (s.get .sw FPT_STS_LANES 0 n) else 0).sum

/-- The percent of P_NOM that a level allows (R482). -/
def levelPct (level : Nat) : Nat := if level == 0 then 100 else if level == 1 then 85 else if level == 2 then 60 else 35

/-- The limit of a level in tenths of a watt. -/
def State.limit (s : State) (level : Nat) : Nat := s.pNom * levelPct level / 100

/-- Stores P_NOM and the limit of the level in force, in whole watts. DESIGN CHOICE, log 34. -/
def State.showLimit (s : State) : State :=
  (s.put .sw PWR_DRAW_P_NOM (s.pNom / 10)).put .sw PWR_DRAW_LIMIT (s.limit (s.get .sw PWR_STS_LEVEL) / 10)

/-! ### The level in force (R481, R482, R484) -/

/-- Whether the switch evaluates its demands: out of reset and past step 3 (R520). -/
def State.powered (s : State) : Bool := s.swc.mainUp && !s.swc.inReset && 4 ≤ s.swc.step

/-- The level that THERM_ALERT_N demands: P2, and P3 once its delay has run out (R481). DEDUCED, log 36. -/
def State.thermDemand (s : State) : Nat :=
  if s.flag .sw PWR_STS_THERM_ALERT then (if s.sw.core.thermFrom.isSome then 2 else 3) else 0

/-- The highest level demanded (R481). -/
def State.demand (s : State) : Nat :=
  [s.get .sw PWR_STS_CAP, if s.flag .sw PWR_STS_PWR_ALERT then 3 else 0, s.thermDemand, min 3 s.sw.core.sensorDemand,
   s.get .sw PWR_CTL_FORCE_LEVEL].foldl max 0

/-- Array duty of every core, in sixty-fourths (R148, R483). -/
def State.setDuty (s : State) (d : Nat) : State := (upTo 64).foldl (fun s c => s.put .sw RDC_DUTY_ALLOWED d 0 c) s

/-- The switch enters a level: counted, recorded, and the mechanisms of the level at once in force; marking at P1 begins only after duty has reached its floor (R482 to R484). An activation that waits for its safe point is deferred again when P0 is left (R445). DEDUCED, log 33. -/
def State.enterLevel (s : State) (v pin : Nat) : State :=
  let old := s.get .sw PWR_STS_LEVEL
  let now := s.now .sw
  let s := s.put .sw PWR_STS_LEVEL v
  let s := s.event .sw pgPwr .throttle (old + 256 * v) pin
  let s := if v == 1 then s.count .sw PWR_EVENTS_P1 else if v == 2 then s.count .sw PWR_EVENTS_P2
    else if v == 3 then s.count .sw PWR_EVENTS_P3 else s
  let s := s.when (2 ≤ v) fun s => s.setDuty 8
  let s := s.when (v == 0) fun s => s.setDuty 64
  let s := s.onCore fun c =>
    { c with powerMark := if v == 3 then 255 else if v == 0 || (v == 1 && old == 0) then 0 else c.powerMark,
             p0From := if v == 0 then now else c.p0From }
  let s := s.when (0 < v) fun s => s.put .sw PWR_STS_FILLING 0
  let s := s.when (0 < v && s.get .sw MGT_FW_STS_ACT_STATE == 2) fun s => (s.put .sw MGT_FW_STS_ACT_STATE 1).cause .sw pgMgt 4
  s.showLimit

/-- The level falls one step when the hold has run out, and the hold runs again (R484). -/
def State.holdOver (s : State) : State :=
  match s.sw.core.holdFrom with
  | some t =>
    let l := s.get .sw PWR_STS_LEVEL
    if s.powered && 0 < l && s.due .sw t (s.get .sw PWR_HOLD_TICKS) then
      let now := s.now .sw
      let s := s.enterLevel (l - 1) 0
      s.onCore fun c => { c with holdFrom := if s.demand < l - 1 then some now else none }
    else s
  | none => s

/-- The demands are judged again: a rise takes effect at once; with the demand at or below the next lower level the hold runs; any other demand cancels it (R484), unless it comes at the end of the hold or later (R13). DEDUCED, log 36. -/
def State.judgeDemand (s : State) (pin : Nat) : State :=
  if !s.powered then s
  else
    let s := s.holdOver
    let d := s.demand
    let l := s.get .sw PWR_STS_LEVEL
    let now := s.now .sw
    let s := s.put .sw PWR_STS_DEMAND d
    if l < d then (s.enterLevel d pin).onCore fun c => { c with holdFrom := none }
    else if d < l then s.onCore fun c => { c with holdFrom := some (c.holdFrom.getD now) }
    else s.onCore fun c => { c with holdFrom := none }

/-- PWR_ALERT_ASSERT (R481). -/
def pwrAlertAssert (s : State) : State := (s.put .sw PWR_STS_PWR_ALERT 1).judgeDemand 1

def execPwrAlertAssert (s : State) : Host.Outcome State Fault Refusal := .next (pwrAlertAssert s)

/-- PWR_ALERT_DEASSERT (R481). -/
def pwrAlertDeassert (s : State) : State := (s.put .sw PWR_STS_PWR_ALERT 0).judgeDemand 1

def execPwrAlertDeassert (s : State) : Host.Outcome State Fault Refusal := .next (pwrAlertDeassert s)

/-- THERM_ALERT_ASSERT (R481): the delay runs from a new assertion. -/
def thermAlertAssert (s : State) : State :=
  if s.flag .sw PWR_STS_THERM_ALERT then s
  else
    let now := s.now .sw
    ((s.put .sw PWR_STS_THERM_ALERT 1).onCore fun c => { c with thermFrom := some now }).judgeDemand 2

def execThermAlertAssert (s : State) : Host.Outcome State Fault Refusal := .next (thermAlertAssert s)

/-- THERM_P3_DELAY_EXPIRY (R481): THERM_ALERT_N has stayed low for P3_DELAY ticks. DEDUCED, log 38. -/
def thermP3DelayExpiry (s : State) : State :=
  match s.sw.core.thermFrom with
  | some t =>
    if s.flag .sw PWR_STS_THERM_ALERT && s.due .sw t (s.get .sw PWR_THERM_CFG_P3_DELAY) then
      (s.onCore fun c => { c with thermFrom := none }).judgeDemand 2
    else s
  | none => s

def execThermP3DelayExpiry (s : State) : Host.Outcome State Fault Refusal := .next (thermP3DelayExpiry s)

/-- THERM_ALERT_DEASSERT (R481): a delay that ends at this tick or has ended demands P3 first (R13). -/
def thermAlertDeassert (s : State) : State :=
  (((thermP3DelayExpiry s).put .sw PWR_STS_THERM_ALERT 0).onCore fun c => { c with thermFrom := none }).judgeDemand 2

def execThermAlertDeassert (s : State) : Host.Outcome State Fault Refusal := .next (thermAlertDeassert s)

/-- PWR_CAP_CHANGE (R481, R520). -/
def pwrCapChange (cap : Nat) (s : State) : State := (s.put .sw PWR_STS_CAP cap).judgeDemand 3

def execPwrCapChange (cap : Nat) (s : State) : Host.Outcome State Fault Refusal := .next (pwrCapChange cap s)

/-- PWR.CTL is written (R492). -/
def State.setPwrCtl (s : State) (x : Word) : State :=
  let s := (s.put .sw PWR_CTL_FORCE_LEVEL (getBits x 0 2)).put .sw PWR_CTL_BURNISH_EN (getBits x 2 1)
  (s.when (!s.flag .sw PWR_CTL_BURNISH_EN) fun s => s.put .sw PWR_STS_FILLING 0).judgeDemand 4

/-- FORCE_LEVEL_WRITE (R481): a write of PWR.CTL. -/
def forceLevelWrite (path : Path) (x : Word) (s : State) : State :=
  s.writeBy path .sw pgPwr 0x50 fun s => (s.setPwrCtl x, true)

def execForceLevelWrite (path : Path) (x : Word) (s : State) : Host.Outcome State Fault Refusal := .next (forceLevelWrite path x s)

/-- THROTTLE_HOLD_EXPIRY (R484): the level falls one step, and the hold runs again. -/
def throttleHoldExpiry (s : State) : State := s.holdOver

def execThrottleHoldExpiry (s : State) : Host.Outcome State Fault Refusal := .next (throttleHoldExpiry s)

/-! ### The power controller (R483, R486) -/

/-- A free value within a range of numbers. DESIGN CHOICE, log 35. -/
def State.between (s : State) (lo hi : Nat) : Nat := if hi ≤ lo then lo else lo + s.draw % (hi - lo + 1)

/-- The array duty in force. -/
def State.duty (s : State) : Nat := s.get .sw RDC_DUTY_ALLOWED 0 0

/-- The mechanisms grow stronger: at P1 duty falls before marking begins; at P2 and P3 marking rises. By how much is free. DESIGN CHOICE, log 35. -/
def State.harder (s : State) : State :=
  let l := s.get .sw PWR_STS_LEVEL
  if l == 1 && 8 < s.duty then (s.setDuty (s.between 8 (s.duty - 1))).drawn
  else
    let m := s.sw.core.powerMark
    (s.onCore fun c => { c with powerMark := if m < 255 then s.between (m + 1) 255 else 255 }).drawn

/-- The mechanisms ease off: marking first, and at P1 duty once no packet is marked. By how much is free. DESIGN CHOICE, log 35. -/
def State.easier (s : State) : State :=
  let l := s.get .sw PWR_STS_LEVEL
  let m := s.sw.core.powerMark
  if 0 < m then (s.onCore fun c => { c with powerMark := s.between 0 m }).drawn
  else if l == 1 then (s.setDuty (s.between s.duty 64)).drawn else s

/-- At P0 with burnish: the filler below the floor, counted in milliseconds, and the slope's duty and marking, which are free (R486). -/
def State.burnish (s : State) (now avg rise : Nat) : State :=
  if !s.flag .sw PWR_CTL_BURNISH_EN then (s.put .sw PWR_STS_FILLING 0).setDuty 64 |>.onCore fun c => { c with powerMark := 0 }
  else
    let fill := now * 100 < avg * s.get .sw PWR_BURNISH_FLOOR_PCT
    let s := s.put .sw PWR_STS_FILLING (b2n fill)
    let t := s.sw.core.fillTicks + if fill then 1 else 0
    let s := s.when (1000 ≤ t) fun s => s.count .sw PWR_EVENTS_FILLER_US
    let s := s.onCore fun c => { c with fillTicks := t % 1000 }
    -- a rise of more than SLOPE_W / 10 per microsecond is limited by duty and marking
    if s.get .sw PWR_BURNISH_SLOPE_W < 10 * rise then
      let s := (s.setDuty (s.between 8 64)).drawn
      (s.onCore fun c => { c with powerMark := s.between 0 255 }).drawn
    else (s.setDuty 64).onCore fun c => { c with powerMark := 0 }

/-- POWER_CONTROL_SAMPLE (R483, R486): a measured draw in watts. The endpoint only shows it. DESIGN CHOICE, log 35. -/
def powerControlSample (p : Part) (watts : Nat) (s : State) : State :=
  match p with
  | .ep => s.put .ep PWR_DRAW_NOW watts
  | .sw =>
    if !s.powered then s
    else
      let before := s.get .sw PWR_DRAW_NOW
      let l := s.get .sw PWR_STS_LEVEL
      let list := (s.sw.core.average ++ [watts]).drop (s.sw.core.average.length + 1 - 10000)
      let avg := list.sum / list.length
      let s := s.onCore fun c => { c with average := list }
      let s := (s.put .sw PWR_DRAW_NOW watts).put .sw PWR_DRAW_AVG avg
      let s := s.showLimit
      let past := s.limit l < 10 * watts
      if l == 0 then (s.put .sw PWR_STS_OVER_LIMIT 0).burnish watts avg (watts - before)
      else
        let full := s.duty == 8 && s.sw.core.powerMark == 255
        let s := s.put .sw PWR_STS_OVER_LIMIT (b2n (past && full))
        if past then (if full then s else s.harder) else s.easier

def execPowerControlSample (p : Part) (watts : Nat) (s : State) : Host.Outcome State Fault Refusal := .next (powerControlSample p watts s)

/-! ### Sensors -/

/-- The level that the hottest die sensor demands, with 3 °C of hysteresis (R481, R485). DEDUCED, log 36. -/
def sensorLevel (old t : Nat) : Nat :=
  let up := if 110 ≤ t then 3 else if 105 ≤ t then 2 else if 100 ≤ t then 1 else 0
  let keep := if old == 3 && 107 < t then 3 else if 2 ≤ old && 102 < t then 2 else if 1 ≤ old && 97 < t then 1 else 0
  max up keep

/-- HBM_STACK_THROTTLE (R140): a stack's temperature. -/
def hbmStackThrottle (n celsius : Nat) (s : State) : State :=
  if 6 ≤ n then s
  else
    let s := s.put .sw HBM_STS_TEMP celsius 0 n
    if 95 ≤ celsius then s.put .sw HBM_STS_THROTTLED 1 0 n
    else if celsius < 90 then s.put .sw HBM_STS_THROTTLED 0 0 n
    else s

def execHbmStackThrottle (n celsius : Nat) (s : State) : Host.Outcome State Fault Refusal := .next (hbmStackThrottle n celsius s)

/-! ### Packet memories (R253) -/

/-- The herd abort that follows a herd packet destroyed in the switch: at its own herd, or reported toward the sender with reason INTEGRITY. DEDUCED, log 113. -/
def State.herdPacketLost (s : State) (k : Packet) : State :=
  let sid := (addrSwitch k).getD s.switchId
  if sid == s.switchId then s.herdCondition (herdIx k) rsINTEGRITY
  else
    let pre : HerdPrefix := { herdPrefix k with pkt := rsINTEGRITY }
    s.swSend (sealPkt { dst := k.src, src := s.switchId, tc := 4, op := opHERD_ABORT, tag := k.tag, addr := k.addr, len := 16,
                        ctx := k.ctx, ptn := k.ptn, srcSw := true, payload := pre.bytes })

/-- SRAM_UNCORRECTABLE (R253): an uncorrectable error in a cell of a queued packet, in the structure numbered `structure_`, and in a middle buffer when `mid` names one. DEDUCED, log 113. -/
def sramUncorrectable (structure_ id : Nat) (mid : Option Nat) (s : State) : State :=
  match s.queued id with
  | none => s
  | some q =>
    let k := q.pkt
    let s := s.count .sw XBR_ECC_UE
    -- a packet that has started on its link is never cut short (R249)
    let s := s.when (!q.begun) fun s => s.dropQueued fun x => x.id == id
    let s := s.when (!q.begun && decide (k.tc < 6)) fun s =>
      let s := s.event .sw pgXbr .sramUe structure_ (k.src + k.tag * 2 ^ 17)
      if isHerdOp k.op then s.herdPacketLost k
      else if isAsked k.op then s.swAnswer k stINTEGRITY
      else s.swSend (answer true s.switchId { k with src := k.dst, srcSw := false } stINTEGRITY)
    match mid with
    | some b => if b < 128 then (s.fenceMid b).event .sw pgXbr .midFence b else s
    | none => s

def execSramUncorrectable (structure_ id : Nat) (mid : Option Nat) (s : State) : Host.Outcome State Fault Refusal := .next (sramUncorrectable structure_ id mid s)

end Sys2Proof.Machine
end

