-- ==== Sys2Proof/Machine/Cxl.lean ====
section
/-! DEFINITION. The CXL ports (R374 to R394): the host's memory requests, back-invalidate, decoders, the invalidation queue (R58 to R62), the memory-device commands, TSP, and the bring-up of the bulk devices. -/

namespace Sys2Proof.Machine

/-- Changes what the CXL ports hold beyond their registers. -/
def State.onCxl (s : State) (f : Cxl → Cxl) : State := { s with sw := { s.sw with cxl := f s.sw.cxl } }

/-- Whether the host's CXL.mem requests reach the switch (R375). -/
def State.cxlMem (s : State) : Bool := s.flag .sw CXU_STS_UP && s.flag .sw CXU_STS_CXL_MODE

/-! ### Host memory requests (R378 to R381) -/

/-- Whether a partition is defined and the host's own. -/
def State.hostOwned (s : State) (p : Nat) : Bool := p < 64 && s.ptnState p == 1 && s.get .sw PTN_ENTRY_OWNER (p + 1) == 0

/-- Whether a partition is offered as HDM-DB (R385). -/
def State.hdmDb (s : State) (p : Nat) : Bool :=
  s.hostOwned p && s.hostSlot.any (fun i => s.slotState i == 1) && s.flag .sw PTN_ENTRY_CACHEABLE (p + 1) && s.flag .sw CXU_STS_BI_EN

/-- Whether a committed HDM-DB decoder covers a DPA. -/
def State.dbDecoder (s : State) (dpa : Nat) : Bool :=
  (upTo 32).any fun d =>
    let b := d + 1
    let base := s.get .sw CXU_HDM_VIEW_PARTITION b * 2 ^ 40 + s.get .sw CXU_HDM_VIEW_FIRST_SLICE b * 2 ^ 28
    s.flag .sw CXU_HDM_VIEW_COMMITTED b && s.flag .sw CXU_HDM_VIEW_DB b
      && base ≤ dpa && dpa < base + s.get .sw CXU_HDM_VIEW_SLICES b * 2 ^ 28

/-- Whether the host may cache a DPA: it is served as HDM-DB. Every other range is served uncached (R385). DESIGN CHOICE, log 141. -/
def State.hostCaches (s : State) (dpa : Nat) : Bool := s.hdmDb (dpa / 2 ^ 40) && s.dbDecoder dpa

/-- The check of a host request (R57, R380, R390). DESIGN CHOICE, log 141. -/
def State.hostCheck (s : State) (dpa : Nat) : Nat :=
  let p := dpa / 2 ^ 40
  let ctx := s.get .sw PTN_ENTRY_HOST_CTX (p + 1)
  if s.get .sw CXU_STS_TSP == 2 then stPERMISSION
  else if 64 ≤ p || s.ptnState p == 0 then stNO_MAPPING
  else if s.get .sw PTN_ENTRY_OWNER (p + 1) == 1 then stPERMISSION
  else if !s.orphaned ctx && !s.flag .sw CTX_ENTRY_HOST (ctx + 1) then stPERMISSION
  else s.poolCheck ctx p p (dpa % 2 ^ 40) 64

/-- Whether a host request gives up what the host holds of a line: a write of a half that it owns, or MEM_CLN_EVCT by the owner. -/
def State.hostReturns (s : State) (kind a : Nat) : Bool :=
  let key := lineKey (a / 2 ^ 40) (a % 2 ^ 40 / 128)
  s.ownsLine key s.hostSlot && (kind == 5 || (kind == 4 && ((s.dirAt key).elim 0 (·.halves)).testBit (bitsOf a 6 1)))

/-- What every host request passes first: `kind` as in `hostAnswer`; then the home takes it, or it fails as R381 says. A CLOSING partition still takes what the host gives up (R136); a snoop timeout of the host comes before what it gives up (R13). DEDUCED, log 142, 205. -/
def State.hostGuard (s : State) (kind dpa : Nat) (f : Nat → Nat → State → State) : State :=
  if !s.cxlMem then s
  else
    let a := dpa / 64 * 64
    let s := if 4 ≤ kind then s.hostSlot.elim s fun i => snoopTimeout i s else s
    let st := s.hostCheck a
    let st := if st == stPARTITION_CLOSING && s.hostReturns kind a then stOK else st
    if st != stOK then s.hostAnswer kind a st [] false else f (a / 2 ^ 40) (a % 2 ^ 40) s

/-- A member for a request of the host: its half line, its data and mask. DESIGN CHOICE, log 141. -/
def State.hostMember (s : State) (kind off mask : Nat) (data : List Byte) : Member :=
  ⟨{ ownPkt with addr := BitVec.ofNat 64 off, len := 64, payload := data }, .host kind mask, s.now .sw⟩

/-- A request of the host that the home performs: never combined. -/
def State.hostQueue (s : State) (k : PKind) (p off n : Nat) (m : Member) : State :=
  (s.sealOthers p off n none).queueReq k p off n [m] |>.settle

/-- MEM_RD (R380): MetaValue 0 I, 1 S, 2 A. -/
def memRd (dpa mv : Nat) (s : State) : State :=
  s.hostGuard (min mv 2) dpa fun p off s =>
    let c := s.hostCaches (p * 2 ^ 40 + off)
    let m := s.hostMember (min mv 2) off 0 []
    let line := off / 128 * 128
    if mv == 0 || !c then s.hostQueue .read p off 64 (s.hostMember 0 off 0 [])
    else if mv == 1 then s.hostQueue .readShared p line 128 m
    else if s.sealedRange p line 128 then s.hostAnswer 2 (p * 2 ^ 40 + off) stPERMISSION [] false
    else s.hostQueue .readOwn p line 128 m

def execMemRd (dpa mv : Nat) (s : State) : Host.Outcome State Fault Refusal := .next (memRd dpa mv s)

/-- MEM_INV (R380): an UPGRADE. -/
def memInv (dpa : Nat) (s : State) : State :=
  s.hostGuard 3 dpa fun p off s =>
    let line := off / 128 * 128
    if !s.hostCaches (p * 2 ^ 40 + off) then s.hostAnswer 3 (p * 2 ^ 40 + off) stOK [] true
    else if s.sealedRange p line 128 then s.hostAnswer 3 (p * 2 ^ 40 + off) stPERMISSION [] false
    else s.hostQueue .upgrade p line 128 (s.hostMember 3 off 0 [])

def execMemInv (dpa : Nat) (s : State) : Host.Outcome State Fault Refusal := .next (memInv dpa s)

/-- The halves that the host holds of a line after it gives one up. DEDUCED, log 143. -/
def State.otherHalf (s : State) (key off : Nat) : Nat := ((s.dirAt key).elim 0 (·.halves)) &&& (3 - 2 ^ bitsOf off 6 1)

/-- The host gives its modified half back: at once where the line stands in HBM, otherwise as the first write of the home queue; it is the data of an outstanding snoop (R125, R127, R380). The half cannot be merged into an uncorrectable line: the write fails INTEGRITY (R104). DEDUCED, log 143, 144. -/
def State.hostWriteBack (s : State) (p off mask : Nat) (data : List Byte) : State :=
  let key := lineKey p (off / 128)
  let slot := s.hostSlot.getD 0
  let s := s.ownerBack key slot (s.otherHalf key off)
  if !s.ptnBacked p || (s.hitSlot p (off / 128)).isSome then
    let hl := s.hbmLine p (off / 128)
    let x := s.eccRead hl
    if x.2 then (x.1.hostAnswer 4 (p * 2 ^ 40 + off) stINTEGRITY [] false).settle
    else
      let old := s.hbmRead hl
      let half := (upTo 64).map fun i => if mask.testBit i then data.getD i 0 else old.getD (off % 128 + i) 0
      ((x.1.takeData key slot (patch old (off % 128) half) none).hostAnswer 4 (p * 2 ^ 40 + off) stOK [] false).settle
  else
    let m := s.hostMember 6 off mask data
    let s := s.onPool fun q =>
      { q with queue := { id := q.nextId, kind := .write, ptn := p, off := off, len := 64, members := [m], opened := m.at_ } :: q.queue,
               nextId := q.nextId + 1 }
    s.settle

/-- MEM_WR (R380): 64 bytes under a mask; a write-back when the host owns the line, an uncached write otherwise. -/
def memWr (dpa mask : Nat) (data : List Byte) (s : State) : State :=
  s.hostGuard 4 dpa fun p off s =>
    let key := lineKey p (off / 128)
    if s.ownsLine key s.hostSlot && ((s.dirAt key).elim 0 (·.halves)).testBit (bitsOf off 6 1) then s.hostWriteBack p off mask data
    else if s.sealedRange p off 64 then s.hostAnswer 4 (p * 2 ^ 40 + off) stPERMISSION [] false
    else s.hostQueue .write p off 64 (s.hostMember 4 off mask data)

def execMemWr (dpa mask : Nat) (data : List Byte) (s : State) : Host.Outcome State Fault Refusal := .next (memWr dpa mask data s)

/-- MEM_CLN_EVCT (R126, R380). DEDUCED, log 143. -/
def memClnEvct (dpa : Nat) (s : State) : State :=
  s.hostGuard 5 dpa fun p off s =>
    let key := lineKey p (off / 128)
    let s := if s.ownsLine key s.hostSlot then s.dropClean key (s.otherHalf key off) else s.count .sw DIR_WB_DISCARD_COUNT
    (s.hostAnswer 5 (p * 2 ^ 40 + off) stOK [] false).settle

def execMemClnEvct (dpa : Nat) (s : State) : Host.Outcome State Fault Refusal := .next (memClnEvct dpa s)

/-- MEM_SPEC_RD (R380): ignored. -/
def memSpecRd (dpa : Nat) (s : State) : State := let _ := dpa; s

def execMemSpecRd (dpa : Nat) (s : State) : Host.Outcome State Fault Refusal := .next (memSpecRd dpa s)

/-- BI_RSP (R382): BIRspS keeps the line shared, BIRspI gives it up; the answer to a snoop that a write-back has answered is ignored (R125), and the snoop timeout comes first (R13). -/
def biRsp (dpa : Nat) (shared : Bool) (s : State) : State :=
  let key := lineKey (dpa / 2 ^ 40) (dpa % 2 ^ 40 / 128)
  let s := if s.cxlMem then s.hostSlot.elim s fun i => snoopTimeout i s else s
  match s.hostSlot, (s.dirAt key).bind (·.recalling) with
  | some h, none => if s.cxlMem then s.onPool fun q => { q with spent := q.spent.erase (key, h) } else s
  | some h, some r =>
    if s.cxlMem && s.sw.pool.spent.contains (key, h) then s.onPool fun q => { q with spent := q.spent.erase (key, h) }
    else if !s.cxlMem || !r.wait.testBit h || r.unsent.testBit h || (shared && r.inv) then s
    else
      let s := s.snoopAnswer key h 0 [] true
      let s := match s.dirAt key with
        | some e => if !shared && !r.inv && e.recalling.isNone then s.putDir key (e.without h true) else s
        | none => s
      s.settle
  | _, _ => s

def execBiRsp (dpa : Nat) (shared : Bool) (s : State) : Host.Outcome State Fault Refusal := .next (biRsp dpa shared s)

/-- BI_CONFLICT (R383): BIConflictAck follows every completion already sent. DEDUCED, log 145. -/
def biConflict (dpa : Nat) (s : State) : State := if s.cxlMem then s.emit (.biConflictAck (dpa / 128 * 128)) else s

def execBiConflict (dpa : Nat) (s : State) : Host.Outcome State Fault Refusal := .next (biConflict dpa s)

/-! ### Decoders, BI, the link (R377, R379, R384, R390) -/

/-- Whether TSP has locked the target: writes to decoders, BI enables and IDE settings are refused (R390). -/
def State.tspLocked (s : State) : Bool := s.get .sw CXU_STS_TSP == 1

/-- Whether a decoder's commit fails (R379). PRESUMED, log 146. -/
def State.hdmBad (s : State) (dpa size ways : Nat) (db : Bool) : Bool :=
  let p := dpa / 2 ^ 40
  ways != 1 || size == 0 || size % 2 ^ 28 != 0 || dpa % 2 ^ 28 != 0 || !s.hostOwned p
    || s.ptnSize p < dpa % 2 ^ 40 + size || (db && !s.hdmDb p)

/-- HDM_COMMIT (R379): decoder, host address, DPA, size in bytes, interleave ways, HDM-DB or HDM-H. PRESUMED, log 146. -/
def hdmCommit (dec hpa dpa size ways : Nat) (db : Bool) (s : State) : State :=
  if !s.cxlMem || 32 ≤ dec then s
  else if s.tspLocked then s.refuse .sw pgCxu
  else if s.hdmBad dpa size ways db then s.emit (.hdmCommit dec false)
  else
    let b := dec + 1
    let s := (s.put .sw CXU_HDM_VIEW_COMMITTED 1 b).put .sw CXU_HDM_VIEW_DB (b2n db) b
    let s := (s.put .sw CXU_HDM_VIEW_PARTITION (dpa / 2 ^ 40) b).put .sw CXU_HDM_VIEW_SLICES (size / 2 ^ 28) b
    let s := s.put .sw CXU_HDM_VIEW_FIRST_SLICE (dpa % 2 ^ 40 / 2 ^ 28) b
    (s.onCxl fun c => { c with hpa := insertAt c.hpa dec hpa }).emit (.hdmCommit dec true)

def execHdmCommit (dec hpa dpa size ways : Nat) (db : Bool) (s : State) : Host.Outcome State Fault Refusal := .next (hdmCommit dec hpa dpa size ways db s)

/-- Whether any committed decoder is HDM-DB. -/
def State.anyDb (s : State) : Bool :=
  (upTo 32).any fun d => s.flag .sw CXU_HDM_VIEW_COMMITTED (d + 1) && s.flag .sw CXU_HDM_VIEW_DB (d + 1)

/-- The host slot is fenced with a cause (R130). -/
def State.fenceHost (s : State) (cause : Nat) : State :=
  match s.hostSlot with
  | some i => (s.fenceAgent i cause).settle
  | none => s

/-- CXU.STS.BI_EN is written (R384, R390). -/
def State.setBiEn (s : State) (v : Bool) : Written :=
  if s.tspLocked then s.refused .sw pgCxu
  else
    let t := s.put .sw CXU_STS_BI_EN (b2n v)
    (if s.flag .sw CXU_STS_BI_EN && !v && s.anyDb then t.fenceHost 4 else t, true)

/-- BI_EN_WRITE. -/
def biEnWrite (path : Path) (v : Bool) (s : State) : State := s.writeBy path .sw pgCxu 0x40 fun s => s.setBiEn v

def execBiEnWrite (path : Path) (v : Bool) (s : State) : Host.Outcome State Fault Refusal := .next (biEnWrite path v s)

/-- The registers that face the host return to their reset values (R377). DEDUCED, log 147. -/
def State.hostReset (s : State) : State :=
  let s := (upTo 32).foldl (fun s d => s.wr .sw CXU_HDM_VIEW 0 (d + 1)) s
  let s := (s.wr .sw CXU_STS 0).wr .sw CXU_INV_RING_BASE 0
  let s := ((s.wr .sw CXU_INV_CFG (BitVec.ofNat 64 CXU_INV_CFG.reset)).wr .sw CXU_INV_PROD 0).wr .sw CXU_INV_CONS 0
  let s := (s.wr .sw CXU_INV_TMO (BitVec.ofNat 64 CXU_INV_TMO.reset)).wr .sw CXU_INV_STS 0
  let s := s.onCxl fun c => { c with hpa := [], events := [], policy := 0, stamp := 0, stampAt := 0, config := 0 }
  let s := s.onChip .sw fun c => { c with spdm := removeAt c.spdm 0 }
  { s with sw := { s.sw with invals := (s.sw.invals.filter (·.done.isNone)).map fun v => { v with silent := true } } }

/-- The upstream link goes down (R377): the host slot is fenced, the registers that face the host reset. DEDUCED, log 49, 147. -/
def State.hostDown (s : State) (cause : Nat) : State :=
  if !s.flag .sw CXU_STS_UP then s
  else
    let s := s.event .sw pgCxu .hostLinkDown cause
    (s.hostReset).fenceHost 1

/-- HOST_LINK_DOWN (R377): 0 loss of the link, 1 hot reset, 2 secondary bus reset, 3 fundamental reset. -/
def hostLinkDown (cause : Nat) (s : State) : State := s.hostDown cause

def execHostLinkDown (cause : Nat) (s : State) : Host.Outcome State Fault Refusal := .next (hostLinkDown cause s)

/-- HOST_LINK_UP (R374, R375): the upstream link trains at a width and a rate, in CXL mode or as PCIe only; below 32 GT/s there is no CXL mode. -/
def hostLinkUp (width rate : Nat) (cxl : Bool) (s : State) : State :=
  if s.swc.inReset || s.swc.step < 9 || s.flag .sw CXU_STS_UP || !([1, 2, 4, 8, 16].contains width) then s
  else
    let s := (s.put .sw CXU_STS_UP 1).put .sw CXU_STS_CXL_MODE (b2n (cxl && rate < 3))
    (s.put .sw CXU_STS_WIDTH width).put .sw CXU_STS_RATE (min rate 3)

def execHostLinkUp (width rate : Nat) (cxl : Bool) (s : State) : Host.Outcome State Fault Refusal := .next (hostLinkUp width rate cxl s)

/-- IDE_CHECK_FAIL (R388): the link goes down. -/
def ideCheckFail (s : State) : State :=
  if s.flag .sw CXU_STS_IDE_IO || s.flag .sw CXU_STS_IDE_CM then (s.event .sw pgCxu .ideFail 0).hostDown 0 else s

def execIdeCheckFail (s : State) : Host.Outcome State Fault Refusal := .next (ideCheckFail s)

/-! ### The invalidation queue (R58 to R62, R386, R387) -/

/-- Invalidations outstanding: those without a written record. -/
def State.invOut (s : State) : Nat := (s.sw.invals.filter fun v => !v.silent).length

/-- The endpoint member set of a partition: the valid roster entries whose mask holds it, in entry order (R411). -/
def State.memberSet (s : State) (p : Nat) : List Nat :=
  s.swc.regs.filterMap fun e =>
    let entry := e.1 / 2 ^ 24
    if e.1 % 2 ^ 24 == PTN_ROS_ENTRY.page * 4096 + PTN_ROS_ENTRY.off && getBits e.2 0 1 == 1
      && (s.rd .sw PTN_ROS_MASK entry).getLsbD p then some (getBits e.2 1 17) else none

/-- The lowest of a list of nodes. -/
def lowest (l : List Nat) : Nat := l.foldl min (l.headD 0)

/-- The bytes of a completion record (R387). -/
def invRecord (tag status missing first ltc phase : Nat) : List Byte :=
  leBytes 8 (tag + status * 2 ^ 16 + missing * 2 ^ 24 + first * 2 ^ 42 + phase * 2 ^ 63) ++ leBytes 8 ltc

/-- The entries of the ring. -/
def State.invRing (s : State) : Nat := 2 ^ s.get .sw CXU_INV_CFG_LOG2_ENTRIES

/-- Whether the ring has room for a record. -/
def State.invRoom (s : State) : Bool :=
  (s.get .sw CXU_INV_PROD_INDEX + 2 ^ 32 - s.get .sw CXU_INV_CONS_INDEX) % 2 ^ 32 < s.invRing

/-- Writes one record by DMA, then advances INV_PROD and raises the cause (R387). DEDUCED, log 148. -/
def State.writeInvRecord (s : State) (tag status missing first ltc : Nat) : State :=
  let n := s.get .sw CXU_INV_PROD_INDEX
  let phase := 1 - n / s.invRing % 2
  let addr := s.get .sw CXU_INV_RING_BASE_BASE * 4096 + 16 * (n % s.invRing)
  let s := s.emit (.hostDma addr (invRecord tag status missing first ltc phase))
  (s.put .sw CXU_INV_PROD_INDEX (n + 1)).cause .sw pgCxu 1

/-- Completes an invalidation: its record waits to be written, or is discarded after a loss of the link. DEDUCED, log 148. -/
def State.endInval (s : State) (v : Inval) (status : Nat) (missing : List Nat) : State :=
  let now := s.now .sw
  let l := if v.silent then s.sw.invals.filter (·.serial != v.serial)
    else s.sw.invals.map fun x =>
      if x.serial == v.serial then { x with done := some (status, missing.length, lowest missing, now) } else x
  { s with sw := { s.sw with invals := l } }

/-- The invalidation packet to a member: the descriptor, under the number of the invalidation (R59). PRESUMED, log 137. -/
def State.invalPkt (s : State) (v : Nat) (ctx p node : Nat) (desc : List Byte) : Packet :=
  sealPkt { dst := node, src := s.switchId, srcSw := true, tc := 4, op := opINVAL, tag := v % 2 ^ 16, addr := targetForm 0 node 0,
            len := 32, ctx := ctx, ptn := p, payload := desc }

/-- A submission that passes the checks: the snapshot, the multicast, the timer (R59, R62). DEDUCED, log 149. -/
def State.startInval (s : State) (desc : List Byte) (tag p ctx : Nat) : State :=
  let all := s.memberSet p
  let reach := all.filter s.portUpTo
  let un := all.filter fun m => !s.portUpTo m
  let n := s.sw.cxl.nextInval
  let v : Inval := { serial := n, tag := tag, ptn := p, waits := reach, unreach := un, at_ := s.now .sw }
  let s := s.onCxl fun c => { c with nextInval := (n + 1) % 2 ^ 16 }
  let s := { s with sw := { s.sw with invals := s.sw.invals ++ [v] } }
  let s := s.swMulticast (reach.map fun m => s.invalPkt n ctx p m desc)
  if reach.isEmpty then s.endInval v (if un.isEmpty then stOK else stUNREACHABLE) un else s

/-- INV_SUBMIT (R58, R386, R387): one write by the host; `desc` holds its bytes. DEDUCED, log 148, 149. -/
def invSubmit (desc : List Byte) (s : State) : State :=
  if !s.flag .sw CXU_STS_UP then s
  else if desc.length != 32 then s.refuse .sw pgCxu
  else if s.flag .sw HDR_PAGE_CTL_FENCE 0 pgCxu || s.resetting .sw pgCxu then s.refuse .sw pgCxu
  else
    let d := leNat desc
    let tag := bitsOf d 0 16
    let p := bitsOf d 16 6
    let reserved := bitsOf d 34 30 != 0 || (bitsOf d 33 1 == 0 && bitsOf d 64 21 != 0) || bitsOf d 116 12 != 0 || bitsOf d 160 96 != 0
    if !s.flag .sw CXU_INV_CFG_ENABLE then s.count .sw CXU_INV_STS_REFUSED
    else if 64 ≤ s.invOut then
      let s := s.count .sw CXU_INV_STS_REFUSED
      if s.invRoom then s.writeInvRecord tag stRETRY 0 0 (s.now .sw) else s
    else
      let quick (st : Nat) : State :=
        let n := s.sw.cxl.nextInval
        let v : Inval := { serial := n, tag := tag, ptn := p, waits := [], unreach := [], at_ := s.now .sw, done := some (st, 0, 0, s.now .sw) }
        { s with sw := { s.sw with invals := s.sw.invals ++ [v], cxl := { s.sw.cxl with nextInval := (n + 1) % 2 ^ 16 } } }
      if (bitsOf d 33 1 == 0 && bitsOf d 128 32 == 0) || reserved || s.ptnState p == 0 || s.get .sw PTN_ENTRY_OWNER (p + 1) == 1 then quick stUNSUPPORTED
      else if s.ptnState p == 2 then quick stPARTITION_CLOSING
      else s.startInval desc tag p (bitsOf d 22 10)

def execInvSubmit (desc : List Byte) (s : State) : Host.Outcome State Fault Refusal := .next (invSubmit desc s)

/-- Whether the timer of an invalidation has expired (R13, R62). -/
def State.invalLate (s : State) (v : Inval) : Bool := s.due .sw v.at_ (s.get .sw CXU_INV_TMO_TICKS)

/-- An invalidation completes at its expiry (R62). -/
def State.invalExpire (s : State) (v : Inval) : State := s.endInval v stTIMEOUT (v.waits ++ v.unreach)

/-- INVAL_ACK_RECEIVE (R62): the last acknowledgement before expiry completes the invalidation; a late one is counted. -/
def invalAckReceive (k : Packet) (s : State) : State :=
  let s := s.consume .sw k
  if !crcOk k then s.crcFail .sw k
  else match s.sw.invals.find? fun v => v.serial == k.tag && v.done.isNone && v.waits.contains k.src with
    | none => s.event .sw pgCxu .invalLateAck k.src k.tag
    | some v =>
      if s.invalLate v then (s.invalExpire v).event .sw pgCxu .invalLateAck k.src k.tag
      else
      let v' := { v with waits := v.waits.filter (· != k.src) }
      let s := { s with sw := { s.sw with invals := s.sw.invals.map fun x => if x.serial == v.serial then v' else x } }
      if v'.waits.isEmpty then s.endInval v' (if v.unreach.isEmpty then stOK else stUNREACHABLE) v.unreach else s

def execInvalAckReceive (k : Packet) (s : State) : Host.Outcome State Fault Refusal := .next (invalAckReceive k s)

/-- INVAL_TIMEOUT (R62): the timer of an invalidation has expired. -/
def invalTimeout (serial : Nat) (s : State) : State :=
  match s.sw.invals.find? fun v => v.serial == serial && v.done.isNone with
  | none => s
  | some v => if s.invalLate v then s.invalExpire v else s

def execInvalTimeout (serial : Nat) (s : State) : Host.Outcome State Fault Refusal := .next (invalTimeout serial s)

/-- INV_RECORD_WRITE (R387): the record that has waited longest is written once the ring has room. -/
def invRecordWrite (s : State) : State :=
  let ready := s.sw.invals.filterMap fun v => v.done.map fun d => (v, d)
  let first := ready.foldl (fun b x => match b with
    | none => some x
    | some y => if x.2.2.2.2 < y.2.2.2.2 then some x else some y) (none : Option (Inval × Nat × Nat × Nat × Nat))
  match first with
  | none => s
  | some (v, st, miss, low, ltc) =>
    if s.invRoom && s.flag .sw CXU_STS_UP then
      let s := { s with sw := { s.sw with invals := s.sw.invals.filter (·.serial != v.serial) } }
      s.writeInvRecord v.tag st miss low ltc
    else s

def execInvRecordWrite (s : State) : Host.Outcome State Fault Refusal := .next (invRecordWrite s)

/-! ### Memory-device commands (R376) -/

/-- Posts an informational event record for a partition whose range has changed; the interrupt follows its policy (R378). -/
def State.postEvent (s : State) (p : Nat) : State :=
  let h := s.sw.cxl.nextHandle
  let s := s.onCxl fun c => { c with events := insertAt c.events h p, nextHandle := h + 1 }
  if s.sw.cxl.policy % 4 == 1 then s.emit (.interrupt .sw (s.sw.cxl.policy / 16 % 16)) else s

/-- A memory-device command reaches the function over CXL.io. PRESUMED, log 150. -/
def State.memDevCmd (s : State) (f : State → State) : State := if s.flag .sw CXU_STS_UP then f s else s

/-- The capacity of the host's ranges in units of 256 MiB. -/
def State.hostCapacity (s : State) : Nat :=
  (((upTo 64).filter s.hostOwned).map fun p => s.get .sw PTN_ENTRY_SIZE_M1 (p + 1) + 1).sum

/-- IDENTIFY_MEMORY_DEVICE: the volatile capacity of the ranges offered. -/
def identifyMemoryDevice (s : State) : State := s.memDevCmd fun s => s.emit (.memDev 0 true [s.hostCapacity])

def execIdentifyMemoryDevice (s : State) : Host.Outcome State Fault Refusal := .next (identifyMemoryDevice s)

/-- GET_SUPPORTED_LOGS: one log, the command effects log. -/
def getSupportedLogs (s : State) : State := s.memDevCmd fun s => s.emit (.memDev 1 true [1])

def execGetSupportedLogs (s : State) : Host.Outcome State Fault Refusal := .next (getSupportedLogs s)

/-- GET_LOG: the command effects log, the commands of R376. -/
def getLog (s : State) : State := s.memDevCmd fun s => s.emit (.memDev 2 true (upTo 10))

def execGetLog (s : State) : Host.Outcome State Fault Refusal := .next (getLog s)

/-- GET_EVENT_RECORDS: the handles and partitions of the records held. -/
def getEventRecords (s : State) : State :=
  s.memDevCmd fun s => s.emit (.memDev 3 true ((s.sw.cxl.events.map fun e => [e.1, e.2]).flatten))

def execGetEventRecords (s : State) : Host.Outcome State Fault Refusal := .next (getEventRecords s)

/-- CLEAR_EVENT_RECORDS: the records of the handles named, or all. -/
def clearEventRecords (all : Bool) (handles : List Nat) (s : State) : State :=
  s.memDevCmd fun s =>
    (s.onCxl fun c => { c with events := keepIf (fun k _ => !all && !handles.contains k) c.events }).emit (.memDev 4 true [])

def execClearEventRecords (all : Bool) (handles : List Nat) (s : State) : Host.Outcome State Fault Refusal := .next (clearEventRecords all handles s)

/-- GET_EVENT_INTERRUPT_POLICY. -/
def getEventInterruptPolicy (s : State) : State := s.memDevCmd fun s => s.emit (.memDev 5 true [s.sw.cxl.policy])

def execGetEventInterruptPolicy (s : State) : Host.Outcome State Fault Refusal := .next (getEventInterruptPolicy s)

/-- SET_EVENT_INTERRUPT_POLICY: the policy of the informational log. PRESUMED, log 150. -/
def setEventInterruptPolicy (v : Nat) (s : State) : State :=
  s.memDevCmd fun s => (s.onCxl fun c => { c with policy := v % 256 }).emit (.memDev 6 true [])

def execSetEventInterruptPolicy (v : Nat) (s : State) : Host.Outcome State Fault Refusal := .next (setEventInterruptPolicy v s)

/-- GET_HEALTH_INFO: what it tells is free. PRESUMED, log 150. -/
def getHealthInfo (s : State) : State := s.memDevCmd fun s => (s.emit (.memDev 7 true [s.draw])).drawn

def execGetHealthInfo (s : State) : Host.Outcome State Fault Refusal := .next (getHealthInfo s)

/-- GET_TIMESTAMP: the value set, advanced by the nanoseconds since; 0 when it has not been set. A tick is 40/7 ns (R9). PRESUMED, log 151. -/
def getTimestamp (s : State) : State :=
  s.memDevCmd fun s =>
    let t := if s.sw.cxl.stamp == 0 then 0 else (s.sw.cxl.stamp + (s.now .sw - s.sw.cxl.stampAt) * 40 / 7) % 2 ^ 64
    s.emit (.memDev 8 true [t])

def execGetTimestamp (s : State) : Host.Outcome State Fault Refusal := .next (getTimestamp s)

/-- SET_TIMESTAMP: nanoseconds. PRESUMED, log 151. -/
def setTimestamp (v : Nat) (s : State) : State :=
  s.memDevCmd fun s => (s.onCxl fun c => { c with stamp := v % 2 ^ 64, stampAt := s.now .sw }).emit (.memDev 9 true [])

def execSetTimestamp (v : Nat) (s : State) : Host.Outcome State Fault Refusal := .next (setTimestamp v s)

/-- MEMDEV_UNSUPPORTED_COMMAND: every other opcode completes Unsupported. -/
def memdevUnsupportedCommand (s : State) : State := s.memDevCmd fun s => s.emit (.memDev 10 false [])

def execMemdevUnsupportedCommand (s : State) : Host.Outcome State Fault Refusal := .next (memdevUnsupportedCommand s)

/-! ### TSP (R389, R390) -/

/-- A TSP request travels in the host's secured SPDM session (R376). DEDUCED, log 152. -/
def State.tspReq (s : State) (f : State → State) : State :=
  if s.flag .sw CXU_STS_UP && (lookup s.swc.spdm 0).any (·.2 == 2) then f s else s

/-- TSP_GET_VERSION. -/
def tspGetVersion (s : State) : State := s.tspReq fun s => s.emit (.tsp 0 true [])

def execTspGetVersion (s : State) : Host.Outcome State Fault Refusal := .next (tspGetVersion s)

/-- TSP_GET_CAPABILITIES. -/
def tspGetCapabilities (s : State) : State := s.tspReq fun s => s.emit (.tsp 1 true [])

def execTspGetCapabilities (s : State) : Host.Outcome State Fault Refusal := .next (tspGetCapabilities s)

/-- TSP_SET_CONFIG (R389, R390): in CONFIG_UNLOCKED it sets the configuration; in ERROR it returns the target to CONFIG_UNLOCKED; in CONFIG_LOCKED it is refused and recorded. DEDUCED, log 152. -/
def tspSetConfig (v : Nat) (s : State) : State :=
  s.tspReq fun s =>
    if s.tspLocked then (s.refuse .sw pgCxu).emit (.tsp 2 false [])
    else ((s.put .sw CXU_STS_TSP 0).onCxl fun c => { c with config := v }).emit (.tsp 2 true [])

def execTspSetConfig (v : Nat) (s : State) : Host.Outcome State Fault Refusal := .next (tspSetConfig v s)

/-- TSP_LOCK_CONFIG (R389, R390): from CONFIG_UNLOCKED. DEDUCED, log 152. -/
def tspLockConfig (s : State) : State :=
  s.tspReq fun s =>
    if s.get .sw CXU_STS_TSP == 0 then (s.put .sw CXU_STS_TSP 1).emit (.tsp 3 true []) else s.emit (.tsp 3 false [])

def execTspLockConfig (s : State) : Host.Outcome State Fault Refusal := .next (tspLockConfig s)

/-- TSP_GET_REPORT (R389): the decoders, the IDE state, BI_EN; the measurement blocks travel with it. -/
def tspGetReport (s : State) : State :=
  s.tspReq fun s => s.emit (.tsp 4 true
    (((upTo 32).map fun d => [(lookup s.sw.cxl.hpa d).getD 0, (s.rd .sw CXU_HDM_VIEW (d + 1)).toNat]).flatten
      ++ [s.get .sw CXU_STS_IDE_IO, s.get .sw CXU_STS_IDE_CM, s.get .sw CXU_STS_BI_EN]))

def execTspGetReport (s : State) : Host.Outcome State Fault Refusal := .next (tspGetReport s)

/-- TSP_REFUSED_REQUEST (R389). -/
def tspRefusedRequest (s : State) : State := s.tspReq fun s => s.emit (.tsp 5 false [])

def execTspRefusedRequest (s : State) : Host.Outcome State Fault Refusal := .next (tspRefusedRequest s)

/-! ### The downstream ports (R391 to R393, R396) -/

/-- Runs the bring-up of a port on the device that stands there (R391, R392). DEDUCED, log 153. -/
def State.cxdBringUp (s : State) (n : Nat) : State :=
  match lookup s.sw.cxl.devices n with
  | some [kind, serial, bytes, ide, width, rate] =>
    if kind != 0 then s.cxdFault n kind
    else if bytes < 2 ^ 28 then s.cxdFault n 7
    else if s.flag .sw CXD_CFG_IDE_REQUIRE 0 n && ide == 0 then (s.event .sw (pgCxd + n) .ideFail (n + 1)).cxdFault n 5
    else
      let s := (s.put .sw CXD_STS_WIDTH width 0 n).put .sw CXD_STS_RATE rate 0 n
      let s := s.put .sw CXD_STS_IDE (b2n (s.flag .sw CXD_CFG_IDE_REQUIRE 0 n)) 0 n
      s.bulkBringUp n serial bytes
  | _ => s.cxdFault n 1

/-- Whether a downstream port may come up: after step 9, control core 0 running, its page enabled (R392, R431, R500). -/
def State.cxdMay (s : State) (n : Nat) : Bool :=
  n < 2 && !s.swc.inReset && 9 < s.swc.step && s.cpuUp 0 && s.flag .sw HDR_PAGE_CTL_ENABLE 0 (pgCxd + n)

/-- CXD_DEVICE_DETECT (R391, R392): kind 0 a single-logical-device Type-3, 2 not Type-3, 3 multi-logical device or switch, 4 no CXL; the serial number, the volatile capacity, whether IDE can be established, the width, the rate. A port held in FAULT with DEVICE_CHANGED waits for its RESTART. DEDUCED, log 153. -/
def cxdDeviceDetect (n kind serial bytes : Nat) (ide : Bool) (width rate : Nat) (s : State) : State :=
  if 2 ≤ n then s
  else
    let s := s.onCxl fun c => { c with devices := insertAt c.devices n [kind, serial, bytes, b2n ide, width, rate] }
    if s.cxdMay n && !s.bulkUp n && s.get .sw CXD_STS_FAULT 0 n != 6 then s.cxdBringUp n else s

def execCxdDeviceDetect (n kind serial bytes : Nat) (ide : Bool) (width rate : Nat) (s : State) : Host.Outcome State Fault Refusal :=
  .next (cxdDeviceDetect n kind serial bytes ide width rate s)

/-- CXDn.CTL.RESTART (R396): the port goes down and is brought up again. DEDUCED, log 153. -/
def State.cxdRestartPort (s : State) (n : Nat) : State :=
  let s := if s.bulkUp n then s.bulkDown n else s
  if s.cxdMay n then s.cxdBringUp n else s

/-- CXD_RESTART (R393, R396). -/
def cxdRestart (path : Path) (n : Nat) (s : State) : State :=
  if 2 ≤ n then s else s.writeBy path .sw (pgCxd + n) 0x48 fun s => (s.cxdRestartPort n, true)

def execCxdRestart (path : Path) (n : Nat) (s : State) : Host.Outcome State Fault Refusal := .next (cxdRestart path n s)

end Sys2Proof.Machine
end

