-- ==== Sys2Proof/Machine/Services.lean ====
section
/-! DEFINITION. Update programs and pool services (R214 to R239): the SVC commands, the run of a program over a chunk, the hashing of regions. -/

namespace Sys2Proof.Machine

/-! ### The SVC stage and its commands (R183, R239) -/

/-- A read of SVC.CLAIM: it claims a free stage for the reader. -/
def State.readSvcClaim (s : State) (o : Origin) : State × Word :=
  let s := s.svcFresh
  match s.sw.svc.stage.claim with
  | some c => (s, claimWord false (some c))
  | none =>
    let c := claimantOf o
    (s.onSvc fun v => { v with stage := { claim := some c, at_ := s.now .sw } }, claimWord true (some c))

/-- SVC_CLAIM_READ. -/
def svcClaimRead (o : Origin) (s : State) : State := s.readBy o.path .sw pgSvc 0x40 fun s => s.readSvcClaim o

def execSvcClaimRead (o : Origin) (s : State) : Host.Outcome State Fault Refusal := .next (svcClaimRead o s)

/-- A write of the SVC stage or of SVC.CMD: only the claimant's counts while a claim stands. -/
def State.svcStageWrite (s : State) (o : Origin) (f : State → Written) : Written :=
  let s := s.svcFresh
  match s.sw.svc.stage.claim with
  | some c =>
    if c != claimantOf o then (s.count .sw HDR_ERR_COUNT_COUNT 1 0 pgSvc, false)
    else f (s.onSvc fun v => { v with stage := { v.stage with at_ := s.now .sw } })
  | none => f s

/-- The completion of an SVC command: the status, the end of the claim. -/
def State.svcDone (s : State) (status detail : Nat) (instr : Nat := 0) : State :=
  let s := (s.put .sw SVC_CMD_STS_STATUS status).put .sw SVC_CMD_STS_DETAIL detail
  (s.put .sw SVC_CMD_STS_INSTR instr).clearSvcStage

/-- A write to SVC.CMD: every command completes at once, so BUSY stands only in a state that no run reaches. The host needs HOST_SERVICES (R436), and a command that core 1 cannot take completes RETRY (R432, R445). DESIGN CHOICE, log 106. DEDUCED, log 112. -/
def State.svcCmd (s : State) (o : Origin) (f : State → State) : Written :=
  s.svcStageWrite o fun s =>
    if s.flag .sw SVC_CMD_STS_BUSY then s.refused .sw pgSvc
    else if o.path == .host && !(s.rd .sw MGT_FEAT).getLsbD 3 then (s.svcDone stUNSUPPORTED 0, true)
    else if !s.cpuServes 1 then (s.svcDone stRETRY 0, true)
    else (f s, true)

/-- A stage word. -/
def State.stageWord (s : State) (k : Nat) : Word := s.rd .sw (SVC_STAGE.word k)

/-- The attachments that use a program slot. -/
def State.slotUsers (s : State) (slot : Nat) : Nat := (s.sw.svc.atts.filter fun e => !e.2.region && e.2.slot == slot).length

/-! ### LOAD and UNLOAD (R230) -/

/-- The image that the stage holds: word 2k low, 2k + 1 high. -/
def State.stagedImage (s : State) : List Nat :=
  ((upTo 32).map fun k => [getBits (s.stageWord k) 0 32, getBits (s.stageWord k) 32 32]).flatten

/-- LOAD. -/
def State.loadProgram (s : State) (slot : Nat) : State :=
  let ctx := getBits (s.stageWord 32) 0 10
  let image := s.stagedImage
  if s.powerHeld then s.svcDone stHELD 9
  else if (lookup s.sw.svc.progs slot).isSome then s.svcDone stRETRY 1
  else if (s.ctxPtn ctx).isNone then s.svcDone stPERMISSION 8
  else match firstBad image with
    | some k => s.svcDone stUNSUPPORTED 3 k
    | none =>
      let digest := Config.sha3 ((image.map (leBytes 4)).flatten)
      let s := s.onSvc fun v => { v with progs := insertAt v.progs slot { image := image, ctx := ctx, digest := digest, ops := laneOpsOf image } }
      (s.attested .sw 5).svcDone stOK 0

/-- SVC_LOAD (R230): a write to SVC.CMD with OPCODE LOAD. -/
def svcLoad (o : Origin) (slot : Nat) (s : State) : State :=
  s.writeBy o.path .sw pgSvc 0x48 fun s => s.svcCmd o fun s => s.loadProgram (slot % 256)

def execSvcLoad (o : Origin) (slot : Nat) (s : State) : Host.Outcome State Fault Refusal := .next (svcLoad o slot s)

/-- UNLOAD: refused while the slot has attachments (R227). DEDUCED, log 102. -/
def State.unloadProgram (s : State) (slot : Nat) : State :=
  if s.slotUsers slot != 0 then s.svcDone stRETRY 1
  else ((s.onSvc fun v => { v with progs := removeAt v.progs slot }).attested .sw 5).svcDone stOK 0

/-- SVC_UNLOAD (R230). -/
def svcUnload (o : Origin) (slot : Nat) (s : State) : State :=
  s.writeBy o.path .sw pgSvc 0x48 fun s => s.svcCmd o fun s => s.unloadProgram (slot % 256)

def execSvcUnload (o : Origin) (slot : Nat) (s : State) : Host.Outcome State Fault Refusal := .next (svcUnload o slot s)

/-! ### ATTACH, DETACH, CONST (R224 to R227) -/

/-- The streams that the stage describes. -/
def State.stagedStreams (s : State) : List Stream :=
  (upTo 8).map fun n =>
    let a := s.stageWord (1 + 2 * n)
    let b := s.stageWord (2 + 2 * n)
    { base0 := getBits a 0 40, base1 := getBits b 0 40, ptn := getBits a 40 6, fmt := getBits a 46 2,
      store := a.getLsbD 48, valid := a.getLsbD 49 }

/-- The constants that the stage holds. -/
def State.stagedConsts (s : State) : List Nat :=
  ((upTo 8).map fun k => [getBits (s.stageWord (17 + k)) 0 32, getBits (s.stageWord (17 + k)) 32 32]).flatten

/-- The attachment that the stage describes. -/
def State.stagedAttach (s : State) : Attach :=
  let w := s.stageWord 0
  { region := w.getLsbD 8, slot := getBits w 0 8, banked := w.getLsbD 9,
    streams := s.stagedStreams, consts := s.stagedConsts }

/-- The byte ranges that a stream covers over M local indices: both banks when the attachment is BANKED. -/
def Attach.ranges (a : Attach) (m : Nat) (st : Stream) : List (Nat × Nat) :=
  let n := m * streamSize st.fmt
  (st.base0, n) :: (if a.banked then [(st.base1, n)] else [])

/-- Whether two byte ranges overlap. -/
def overlap (a b : Nat × Nat) : Bool := a.1 < b.1 + b.2 && b.1 < a.1 + a.2

/-- Whether a range of a partition meets a region, or a table that allows scatter-adds. -/
def State.meetsRegion (s : State) (p : Nat) (r : Nat × Nat) (except : Option Nat := none) : Bool :=
  s.sw.svc.regions.any fun g => some g.1 != except && g.2.ptn == p && overlap r (g.2.off, g.2.len)

def State.meetsScatter (s : State) (p : Nat) (r : Nat × Nat) : Bool :=
  s.sw.svc.tables.any fun t => t.2.scatter && t.2.ptn == p && overlap r (t.2.base, t.2.rows * t.2.rowBytes)

/-- Whether a store stream of the attachment overlaps what R226 protects. -/
def State.badOverlap (s : State) (a : Attach) (m : Nat) : Bool :=
  let vs := (upTo 8).zip a.streams |>.filter (·.2.valid)
  (vs.filter (·.2.store)).any fun e =>
    let st := e.2
    let rs := a.ranges m st
    (vs.any fun f =>
      let same := !f.2.store && f.2.ptn == st.ptn && f.2.base0 == st.base0 && (!a.banked || f.2.base1 == st.base1) && f.2.fmt == st.fmt
      f.1 != e.1 && f.2.ptn == st.ptn && !same && rs.any fun r => (a.ranges m f.2).any (overlap r))
    || rs.any fun r => s.meetsRegion st.ptn r || s.meetsScatter st.ptn r

/-- Whether the stage words of an attachment hold a misaligned base or a nonzero reserved field, or the program names a stream that is not valid or of the other direction; a region has no streams. -/
def State.badStreams (s : State) (a : Attach) (image : List Nat) : Bool :=
  let w := s.stageWord 0
  let rsv := getBits w 10 54 != 0 || (upTo 8).any fun n =>
    getBits (s.stageWord (1 + 2 * n)) 50 14 != 0 || getBits (s.stageWord (2 + 2 * n)) 40 24 != 0
  let st (n : Nat) : Option Stream := a.streams[n]?
  let ld := (namedStreams image pLD).any fun n => !(st n).any fun x => x.valid && !x.store
  let sto := (namedStreams image pST).any fun n => !(st n).any fun x => x.valid && x.store
  let mis := a.streams.any fun x => x.valid && (x.base0 % 128 != 0 || x.base1 % 128 != 0 || x.fmt == 3)
  rsv || (!a.region && (ld || sto || mis))

/-- Whether the herd cannot carry an attachment (R226, R234). -/
def Herd.unsuitable (h : Herd) (region : Bool) : Bool :=
  let op := if region then h.op != 3 else !h.reducing
  !h.isRoot || op || fmtInt h.inFmt || h.inFormat || h.failover

/-- The first check of R226 that fails: status and DETAIL. DEDUCED, log 102. -/
def State.attachCheck (s : State) (i : Nat) (a : Attach) : Nat × Nat :=
  if s.powerHeld then (stHELD, 9)
  else match s.herd i with
    | none => (stRETRY, 1)
    | some h =>
      let prog := lookup s.sw.svc.progs a.slot
      let image := (prog.map (·.image)).getD []
      let m := h.nChunks * h.q
      let vs := a.streams.filter (·.valid)
      let ptns := if a.region then ((lookup s.sw.svc.regions a.slot).map (·.ptn)).toList else vs.map (·.ptn)
      if h.state != 1 || (s.attach i).isSome || 1024 ≤ s.sw.svc.atts.length then (stRETRY, 1)
      else if s.orphaned h.ctx then (stSTALE_CONTEXT, 8)
      else if (if a.region then !(lookup s.sw.svc.regions a.slot).any (·.done) else prog.all fun p => p.ctx != h.ctx) then (stPERMISSION, 8)
      else if h.unsuitable a.region then (stUNSUPPORTED, 4)
      else if a.region && !(lookup s.sw.svc.regions a.slot).any (fun g => h.length ≤ g.len) then (stUNSUPPORTED, 4)
      else if s.badStreams a image then (stUNSUPPORTED, 5)
      else if ptns.any fun p => s.ptnState p != 1 || s.ctxPtn h.ctx != some p then (stPERMISSION, 6)
      else if !a.region && vs.any fun st => (a.ranges m st).any fun r => s.ptnSize st.ptn < r.1 + r.2 then (stNO_MAPPING, 6)
      else if !a.region && s.badOverlap a m then (stPERMISSION, 7)
      else (stOK, 0)

/-- ATTACH: from the next step, with COMMITTED 0. -/
def State.attachHerd (s : State) (i : Nat) : State :=
  let a := s.stagedAttach
  let c := s.attachCheck i a
  if c.1 != stOK then s.svcDone c.1 c.2
  else (s.onSvc fun v => { v with atts := insertAt v.atts i a }).svcDone stOK 0

/-- SVC_ATTACH (R226). -/
def svcAttach (o : Origin) (i : Nat) (s : State) : State :=
  s.writeBy o.path .sw pgSvc 0x48 fun s => s.svcCmd o fun s => s.attachHerd (i % 4096)

def execSvcAttach (o : Origin) (i : Nat) (s : State) : Host.Outcome State Fault Refusal := .next (svcAttach o i s)

/-- DETACH: on an IDLE herd; RETRY while it is in a step (R227). DEDUCED, log 102. -/
def State.detachHerd (s : State) (i : Nat) : State :=
  if (s.herd i).any fun h => h.state != 1 then s.svcDone stRETRY 1
  else (s.onSvc fun v => { v with atts := removeAt v.atts i }).svcDone stOK 0

/-- SVC_DETACH (R227). -/
def svcDetach (o : Origin) (i : Nat) (s : State) : State :=
  s.writeBy o.path .sw pgSvc 0x48 fun s => s.svcCmd o fun s => s.detachHerd (i % 4096)

def execSvcDetach (o : Origin) (i : Nat) (s : State) : Host.Outcome State Fault Refusal := .next (svcDetach o i s)

/-- CONST: sixteen values staged with their APPLY_STEP; a set not yet applied is replaced (R225). DEDUCED, log 102. -/
def State.stageConsts (s : State) (i : Nat) : State :=
  if s.powerHeld then s.svcDone stHELD 9
  else if (s.attach i).isNone then s.svcDone stUNSUPPORTED 4
  else (s.onAttach i fun a => { a with staged := some (getBits (s.stageWord 25) 0 32, s.stagedConsts) }).svcDone stOK 0

/-- SVC_CONST (R225). -/
def svcConst (o : Origin) (i : Nat) (s : State) : State :=
  s.writeBy o.path .sw pgSvc 0x48 fun s => s.svcCmd o fun s => s.stageConsts (i % 4096)

def execSvcConst (o : Origin) (i : Nat) (s : State) : Host.Outcome State Fault Refusal := .next (svcConst o i s)

/-- SVC.ATT_COMMIT of the herd that SVC.VIEW_SEL names: while it is IDLE (R224). -/
def State.setCommitted (s : State) (v : Word) : Written :=
  let i := s.get .sw SVC_VIEW_SEL_HERD
  if (s.herd i).any fun h => h.state == 1 then (s.onAttach i fun a => { a with committed := v.toNat }, true)
  else s.refused .sw pgSvc

/-- ATT_COMMIT_WRITE (R224). -/
def attCommitWrite (path : Path) (v : Word) (s : State) : State :=
  s.writeBy path .sw pgSvc 0x68 fun s => s.setCommitted v

def execAttCommitWrite (path : Path) (v : Word) (s : State) : Host.Outcome State Fault Refusal := .next (attCommitWrite path v s)

/-! ### Regions (R232 to R234) -/

/-- Whether a claimant may use a partition: OPEN, and for a context bound to it. DEDUCED, log 103. -/
def State.mayUse (s : State) (o : Origin) (p : Nat) : Bool :=
  s.ptnState p == 1 && (o.path != .remote || s.ctxPtn o.ctx == some p)

/-- SEAL: the region enters SEALING; the home recalls the lines of its range that are held in X. -/
def State.sealRegion (s : State) (o : Origin) (g : Nat) : State :=
  let p := getBits (s.stageWord 0) 0 6
  let off := getBits (s.stageWord 1) 0 40
  let len := getBits (s.stageWord 2) 0 41
  let stores := s.sw.svc.atts.any fun e => match s.herd e.1 with
    | some h => e.2.streams.any fun st => st.valid && st.store && !e.2.region && st.ptn == p
        && (e.2.ranges (h.nChunks * h.q) st).any (overlap (off, len))
    | none => false
  if s.powerHeld then s.svcDone stHELD 9
  else if 63 < g || off % 2 ^ 21 != 0 || len % 2 ^ 21 != 0 || len == 0 then s.svcDone stUNSUPPORTED 2
  else if (lookup s.sw.svc.regions g).isSome then s.svcDone stRETRY 1
  else if s.ptnSize p < off + len then s.svcDone stNO_MAPPING 6
  else if !s.mayUse o p then s.svcDone stPERMISSION 6
  else if stores || s.meetsRegion p (off, len) || s.meetsScatter p (off, len) then s.svcDone stPERMISSION 7
  else
    let r : Region := { ptn := p, off := off, len := len, done := false, ctx := o.ctx }
    let s := s.onSvc fun v => { v with regions := insertAt v.regions g r, hashing := v.hashing ++ [g] }
    let held := s.sw.pool.dir.filter fun e => e.2.excl && e.2.recalling.isNone && r.has e.1
    let s := held.foldl (fun s e => s.recallLine e.1 false e.2.sharers) s
    s.settle.svcDone stOK 0

/-- SVC_SEAL (R232, R233). -/
def svcSeal (o : Origin) (g : Nat) (s : State) : State :=
  s.writeBy o.path .sw pgSvc 0x48 fun s => s.svcCmd o fun s => s.sealRegion o (g % 256)

def execSvcSeal (o : Origin) (g : Nat) (s : State) : Host.Outcome State Fault Refusal := .next (svcSeal o g s)

/-- UNSEAL: of a SEALED region that is not attached (R233). -/
def State.unsealRegion (s : State) (g : Nat) : State :=
  let attached := s.sw.svc.atts.any fun e => e.2.region && e.2.slot == g
  if (lookup s.sw.svc.regions g).any (·.done) && !attached then
    ((s.onSvc fun v => { v with regions := removeAt v.regions g }).attested .sw 6).svcDone stOK 0
  else s.svcDone stRETRY 1

/-- SVC_UNSEAL (R233). -/
def svcUnseal (o : Origin) (g : Nat) (s : State) : State :=
  s.writeBy o.path .sw pgSvc 0x48 fun s => s.svcCmd o fun s => s.unsealRegion (g % 256)

def execSvcUnseal (o : Origin) (g : Nat) (s : State) : Host.Outcome State Fault Refusal := .next (svcUnseal o g s)

/-- The bytes of a line as the hash engine reads them: from HBM, or from the bulk device, which answers them. DESIGN CHOICE, log 104. -/
def State.hashLine (s : State) (p line : Nat) (bulk : SMap (List Byte)) : List Byte :=
  if s.ptnBacked p then
    match s.hitSlot p line with
    | some _ => s.hbmRead (s.hbmLine p line)
    | none => slice ((lookup bulk line).getD []) 0 128
  else s.hbmRead (s.hbmLine p line)

/-- Whether the hash of a region finds a line that reads INTEGRITY: uncorrectable in HBM, or of the bulk tier with no data from its device. -/
def State.hashBad (s : State) (r : Region) (line : Nat) (bulk : SMap (List Byte)) : Bool :=
  if !s.ptnBacked r.ptn || (s.hitSlot r.ptn line).isSome then lookup s.sw.pool.decay (s.hbmLine r.ptn line) == some true
  else (lookup bulk line).isNone

/-- Whether the hash of a region waits for a bulk port that is down. -/
def State.hashWaits (s : State) (r : Region) (line : Nat) : Bool :=
  s.ptnBacked r.ptn && (s.hitSlot r.ptn line).isNone && !s.bulkUp (s.bulkPlace r.ptn line).1

/-- REGION_HASH_DONE (R233): the hash of the region that heads the queue ends; `bulk` holds the lines that came from the bulk device. A line that is owner-lost or uncorrectable, or that the device did not give, returns the region to FREE. It waits for the lines held in X and for a bulk port that is down. DESIGN CHOICE, log 104. -/
def regionHashDone (bulk : List (Nat × List Byte)) (s : State) : State :=
  match s.sw.svc.hashing with
  | [] => s
  | g :: rest =>
    match lookup s.sw.svc.regions g with
    | none => (s.onSvc fun v => { v with hashing := rest }).hashWake
    | some r =>
      let lines := (upTo (r.len / 128)).map (r.off / 128 + ·)
      if s.heldIn r || lines.any (s.hashWaits r) then s
      else
        let lost := s.sw.pool.lost.any fun e => r.has e.1
        let bad := !lost && lines.any fun l => s.hashBad r l bulk
        let t := s.onSvc fun v => { v with hashing := rest }
        if lost || bad then
          ((t.onSvc fun v => { v with regions := removeAt v.regions g }).note .sw pgSvc (if lost then stOWNER_LOST else stINTEGRITY)).hashWake
        else
          let digest := Config.sha3 ((lines.map fun l => s.hashLine r.ptn l bulk).flatten)
          ((t.onSvc fun v => { v with regions := insertAt v.regions g { r with done := true, digest := digest } }).attested .sw 6).hashWake

def execRegionHashDone (bulk : List (Nat × List Byte)) (s : State) : Host.Outcome State Fault Refusal := .next (regionHashDone bulk s)

/-! ### Tables (R235) -/

/-- TABLE_SET. DEDUCED, log 102. -/
def State.setTable (s : State) (o : Origin) (t : Nat) : State :=
  let w := s.stageWord 0
  let n : Table := { ptn := getBits w 0 6, base := getBits (s.stageWord 1) 0 40, fmt := getBits w 6 2, gather := w.getLsbD 8,
                     scatter := w.getLsbD 9, units := getBits w 10 8, rows := getBits (s.stageWord 2) 0 32 }
  let r := (n.base, n.rows * n.rowBytes)
  if s.powerHeld then s.svcDone stHELD 9
  else if (lookup s.sw.svc.tables t).isSome then s.svcDone stRETRY 1
  else if n.base % 128 != 0 then s.svcDone stUNSUPPORTED 2
  else if s.ptnSize n.ptn < r.1 + r.2 then s.svcDone stNO_MAPPING 6
  else if !s.mayUse o n.ptn then s.svcDone stPERMISSION 6
  else if n.scatter && s.meetsRegion n.ptn r then s.svcDone stPERMISSION 7
  else (s.onSvc fun v => { v with tables := insertAt v.tables t n }).svcDone stOK 0

/-- SVC_TABLE_SET (R235). -/
def svcTableSet (o : Origin) (t : Nat) (s : State) : State :=
  s.writeBy o.path .sw pgSvc 0x48 fun s => s.svcCmd o fun s => s.setTable o (t % 256)

def execSvcTableSet (o : Origin) (t : Nat) (s : State) : Host.Outcome State Fault Refusal := .next (svcTableSet o t s)

/-- TABLE_CLR. -/
def State.clearTable (s : State) (t : Nat) : State :=
  (s.onSvc fun v => { v with tables := removeAt v.tables t }).svcDone stOK 0

/-- SVC_TABLE_CLR (R239). -/
def svcTableClr (o : Origin) (t : Nat) (s : State) : State :=
  s.writeBy o.path .sw pgSvc 0x48 fun s => s.svcCmd o fun s => s.clearTable (t % 256)

def execSvcTableClr (o : Origin) (t : Nat) (s : State) : Host.Outcome State Fault Refusal := .next (svcTableClr o t s)

/-- SVC.CMD as a register write (R239). -/
def State.writeSvcCmd (s : State) (o : Origin) (x : Word) : Written :=
  let ix := getBits x 4 8
  let i := getBits x 12 12
  let op := getBits x 0 4
  if op == 1 then s.svcCmd o fun s => s.loadProgram ix
  else if op == 2 then s.svcCmd o fun s => s.unloadProgram ix
  else if op == 3 then s.svcCmd o fun s => s.attachHerd i
  else if op == 4 then s.svcCmd o fun s => s.detachHerd i
  else if op == 5 then s.svcCmd o fun s => s.stageConsts i
  else if op == 6 then s.svcCmd o fun s => s.sealRegion o ix
  else if op == 7 then s.svcCmd o fun s => s.unsealRegion ix
  else if op == 8 then s.svcCmd o fun s => s.setTable o ix
  else if op == 9 then s.svcCmd o fun s => s.clearTable ix
  else s.svcStageWrite o fun s => s.refused .sw pgSvc

/-! ### A program's run over a chunk (R215, R222) -/

/-- The results of a chunk leave the root once its stores have been performed. -/
def State.releaseChunk (s : State) (i c : Nat) : State :=
  match s.herd i with
  | none => s
  | some h =>
    let x := h.chunk c
    if h.state == 2 && x.stores && x.waits.isEmpty then
      let s := s.onAttach i fun a => { a with chunksDone := a.chunksDone + 1 }
      s.deliverDown i c x.shard x.out
    else s

/-- Runs the program over the chunk's shard, which completes it on its core, and issues its stores (R175, R215). DEDUCED, log 101. -/
def State.runProgram (s : State) (i c core : Nat) (h : Herd) (a : Attach) (p : Prog) : State :=
  let x := h.chunk c
  let r := h.workRange c x.shard
  let n := r.2 - r.1
  let sums := (({ h.mode with compact := false }).fromCarry n x.out).map AV.toFv
  let run := progRun p.image a.consts a.streams x.loads sums
  let o := finalRound h.rounding r.1 (run.1.map .fp)
  let fl := run.2.2 ||| o.2
  let ops := ceilDiv n 144 * 144 * (p.ops + (if accFp h.inFmt == fp64 then 1 else 0))
  let s := ((s.addOps core ops).coreChunk core (x.flags ||| fl)).onHerd i fun h =>
    { h with flags := h.flags ||| fl, work := insertAt h.work c { x with out := o.1, stores := true, loads := [] } }
  let stores := ((a.used p.image pST).map fun e =>
    streamCuts e.1 (a.base e.2) e.2.ptn (streamSize e.2.fmt) (c * h.q) n (some (storedBytes run.2.1 e.2.fmt e.1))).flatten
  (s.streamAccess i c stores).releaseChunk i c

/-- PROGRAM_CHUNK_DONE (R222): in chunk order, the program has run, on the core that the chunk is assigned to, over a chunk whose sums and loads are in; its stores are performed and then its results are released. Stores that wait at the home release the results at a further event. DEDUCED, log 101. -/
def programChunkDone (i c core : Nat) (s : State) : State :=
  let s := s.herdDue i
  match s.herd i, s.attach i with
  | some h, some a =>
    let x := h.chunk c
    if h.state != 2 || a.region || c != h.base || !x.reduced || !x.waits.isEmpty then s
    else if x.stores then s.releaseChunk i c
    else match lookup s.sw.svc.progs a.slot with
      | some p => if s.coreActive core && (lookup h.cores c).all (· == core) then s.runProgram i c core h a p else s
      | none => s
  | _, _ => s

def execProgramChunkDone (i c core : Nat) (s : State) : Host.Outcome State Fault Refusal := .next (programChunkDone i c core s)

end Sys2Proof.Machine
end

