-- ==== Sys2Proof/Machine/Dct.lean ====
section
/-! DEFINITION. Dual control (R404 to R425): staging and signatures, the check and the commit of a change, the end of a drain, and the binding sets of the endpoints. -/

namespace Sys2Proof.Machine

/-- Changes what dual control holds beyond its registers. -/
def State.onDct (s : State) (f : Dct → Dct) : State := { s with sw := { s.sw with dct := f s.sw.dct } }

/-- The state of dual control: 0 IDLE, 1 STAGING, 2 SEALED. -/
def State.dctState (s : State) : Nat := s.get .sw DCT_STS_STATE

/-! ### Records (R412, R413) -/

/-- A record's fields. -/
structure DctRec where
  value : Word
  off : Nat
  page : Nat
  ep : Bool
  node : Nat
  sel : Nat
deriving DecidableEq, Repr

/-- The fields of a record of 128 bits. -/
def dctRec (r : Nat) : DctRec :=
  ⟨BitVec.ofNat 64 r, bitsOf r 64 12, bitsOf r 76 10, bitsOf r 86 1 == 1, bitsOf r 87 17, bitsOf r 104 24⟩

/-- The number of records staged. -/
def State.recCount (s : State) : Nat := s.get .sw DCT_REC_IDX_COUNT

/-- The records staged, in order; an index never written is a record of zeros. -/
def State.dctRecs (s : State) : List DctRec := (upTo s.recCount).map fun i => dctRec ((lookup s.sw.dct.recs i).getD 0)

/-- The RWL fields of a register as a mask. -/
def rwlMask (r : Reg) (ep : Bool) : Word :=
  if r == PTN_ENTRY then 0x7FFFFFFF
  else if r == PTN_ROS_ENTRY then 0x3FFFF
  else if r == CTX_ENTRY then (if ep then 0xFF else 0x1FF)
  else if r == POL_MAP_ENTRY then 0x8003FFFF
  else if r == DIR_AGT_ENTRY then 0x7FFFF
  else 0xFFFFFFFFFFFFFFFF

/-- The RWL register that a record names (R413): the register, its bank, and whether SELECT is in range. -/
def DctRec.target (r : DctRec) : Option (Reg × Nat × Bool) :=
  let tkey := r.page == pgPtn && 0x80 ≤ r.off && r.off < 0xC0 && r.off % 8 == 0
  let opkey := r.page == pgDct && 0x140 ≤ r.off && r.off < 0x180 && r.off % 8 == 0
  if r.ep then
    if r.page == pgCtx && r.off == 0x48 then some (CTX_ENTRY, r.sel + 1, r.sel < 1024)
    else if r.page == pgCtx && r.off == 0x60 then some (CTX_PTN_MASK, 0, true)
    else none
  else if r.page == pgPtn && r.off == 0x48 then some (PTN_ENTRY, r.sel + 1, r.sel < 64)
  else if tkey then some (PTN_TKEY.word ((r.off - 0x80) / 8), r.sel + 1, r.sel < 64)
  else if r.page == pgPtn && r.off == 0xC8 then some (PTN_ROS_ENTRY, r.sel + 1, r.sel < 16384)
  else if r.page == pgPtn && r.off == 0xD0 then some (PTN_ROS_MASK, r.sel + 1, r.sel < 16384)
  else if r.page == pgCtx && r.off == 0x48 then some (CTX_ENTRY, r.sel + 1, r.sel < 1024)
  else if r.page == pgPol && r.off == 0x58 then
    let t := bitsOf r.sel 6 1
    let i := bitsOf r.sel 7 12
    some (POL_MAP_ENTRY, mapBank (r.sel % 64) t i, r.sel < 2 ^ 19 && (t == 0 || i < 512))
  else if r.page == pgDir && r.off == 0x48 then some (DIR_AGT_ENTRY, r.sel + 1, r.sel < 64)
  else if opkey then some (DCT_OPKEY_NEW.word ((r.off - 0x140) / 8), 0, true)
  else none

/-- The value that a record stores in a register of the switch: its RWL fields. A removal of a partition or of an agent clears VALID alone (R410). DEDUCED, log 156. -/
def DctRec.newValue (r : DctRec) (reg : Reg) (old : Word) : Word :=
  let v := r.value &&& rwlMask reg false
  if (reg == PTN_ENTRY || reg == DIR_AGT_ENTRY) && old.getLsbD 0 && !v.getLsbD 0 then setBits old 0 1 0 else v

/-- The switch's registers after the records, in order. -/
def State.writeRecs (s : State) (rs : List DctRec) : State :=
  rs.foldl (fun s r => match r.ep, r.target with
    | false, some (reg, b, _) => s.wr .sw reg (r.newValue reg (s.rd .sw reg b)) b
    | _, _ => s) s

/-- A binding set after the records that name its endpoint. -/
def EpSet.after (e : EpSet) (node : Nat) (rs : List DctRec) : EpSet :=
  rs.foldl (fun e r =>
    if !r.ep || r.node != node then e
    else if r.off == 0x60 then { e with mask := r.value }
    else
      let v := r.value &&& rwlMask CTX_ENTRY true
      { e with ctxs := if v == 0 then removeAt e.ctxs r.sel else insertAt e.ctxs r.sel v }) e

/-- The set held for an endpoint. -/
def State.epSet (s : State) (node : Nat) : EpSet := (lookup s.sw.dct.sets node).getD {}

/-- The endpoints that a change names. -/
def namedNodes (rs : List DctRec) : List Nat := ((rs.filter (·.ep)).map (·.node)).eraseDups

/-! ### The check of a change (R107, R117, R406, R411, R414, R420) -/

/-- The index of the first record that fails a test. DESIGN CHOICE, log 154. -/
def firstRec (rs : List DctRec) (bad : DctRec → Bool) : Option Nat := rs.findIdx? bad

/-- Whether a context entry's value binds its context to a partition. -/
def bindsTo (v : Word) (p : Nat) : Bool := v.getLsbD 0 && getBits v 1 6 == p

/-- Whether a mask changes only bit P. -/
def onlyBit (old new : Word) (p : Nat) : Bool := (upTo 64).all fun i => i == p || old.getLsbD i == new.getLsbD i

/-- Whether a record lies outside the scope of its change (R414). DEDUCED, log 156. -/
def State.outOfScope (s : State) (scope : Nat) (r : DctRec) : Bool :=
  match r.target with
  | none => true
  | some (reg, b, _) =>
    let old := s.rd .sw reg b
    if scope == 65 then !(r.page == pgDct)
    else if r.page == pgDct then true
    else if scope == 64 then
      if r.ep then true
      else if reg == PTN_ROS_ENTRY then s.rd .sw PTN_ROS_MASK b != 0
      else if reg == PTN_ROS_MASK then old != 0 || r.value != 0
      else true
    else if r.ep then
      let e := s.epSet r.node
      if r.off == 0x60 then !onlyBit e.mask r.value scope
      else !(bindsTo ((lookup e.ctxs r.sel).getD 0) scope || getBits r.value 1 6 == scope)
    else if r.page == pgPtn && r.off < 0xC0 then r.sel != scope
    else if reg == PTN_ROS_MASK then !onlyBit old r.value scope
    else if reg == PTN_ROS_ENTRY then true
    else if reg == CTX_ENTRY then !(bindsTo old scope || getBits r.value 1 6 == scope)
    else if reg == POL_MAP_ENTRY then r.sel % 64 != scope
    else false

/-- Whether an OPKEY change carries its 8 records, and a slot is left for them (R414, R415). DEDUCED, log 155. -/
def State.badOpkey (s : State) (scope : Nat) (rs : List DctRec) : Bool :=
  scope == 65 && (rs.length != 8 || !((upTo 8).all fun k => rs.any fun r => r.off == 0x140 + 8 * k) || 4 ≤ s.sw.dct.opKeys.length)

/-- The port at which this switch is the source of an endpoint's bindings (R420, R423): the plane A X switch, or the binding switch of a split endpoint's link S0. -/
def State.bindingPort (s : State) (node : Nat) : Option Nat :=
  (s.portList .sw).find? fun n =>
    s.portState n != 0 && s.flag .sw RTE_PORT_STS_ID_OK (n + 1) && s.partnerOf n == node
      && (if s.x4 then s.get .sw FPT_PARTNER_KIND 0 n == 1 && s.get .sw FPT_PARTNER_PORT 0 n == 0
          else s.swAxisNo == 1 && s.get .sw RST_STRAPS_PLANE_SEL == 0)

/-- Whether a delivery to an endpoint is pending. -/
def State.deliveryPending (s : State) (node : Nat) : Bool := (s.bindingPort node).any fun n => (lookup s.sw.dct.pend n).isSome

/-- Whether a delivery that the removal of a partition issued is pending (R422). -/
def State.removalPending (s : State) (p : Nat) : Bool := s.sw.dct.pend.any fun e => e.2.removals.contains p

/-- Whether a record defines a partition or binds a context or an endpoint to one whose removal is still being delivered. DEDUCED, log 156. -/
def State.bindsRemoved (s : State) (r : DctRec) : Bool :=
  match r.target with
  | none => false
  | some (reg, b, _) =>
    if r.ep then
      if r.off == 0x60 then (upTo 64).any fun p => r.value.getLsbD p && !(s.epSet r.node).mask.getLsbD p && s.removalPending p
      else r.value.getLsbD 0 && s.removalPending (getBits r.value 1 6)
    else if reg == PTN_ENTRY then r.value.getLsbD 0 && !(s.rd .sw reg b).getLsbD 0 && s.removalPending r.sel
    else if reg == CTX_ENTRY then r.value.getLsbD 0 && s.removalPending (getBits r.value 1 6)
    else false

/-- The valid entries of a partition's map, index and granule. -/
def State.mapEntries (s : State) (p table : Nat) : List (Nat × Nat) :=
  s.swc.regs.filterMap fun e =>
    let b := e.1 / 2 ^ 24
    if e.1 % 2 ^ 24 == POL_MAP_ENTRY.page * 4096 + POL_MAP_ENTRY.off && getBits e.2 31 1 == 1
      && mapBank p table 0 ≤ b && b < mapBank p table 0 + 4096 then some (b - mapBank p table 0, getBits e.2 0 18) else none

/-- Whether a list names something twice. -/
def repeats (l : List Nat) : Bool := match l with
  | [] => false
  | a :: r => r.contains a || repeats r

/-- Whether a record maps a granule that it may not (R107, R111, R141). -/
def State.badGranule (s : State) (r : DctRec) : Bool :=
  match r.target with
  | some (reg, b, _) =>
    if reg == POL_MAP_ENTRY && r.value.getLsbD 31 then
      let g := getBits r.value 0 18
      let old := s.rd .sw reg b
      let same := old.getLsbD 31 && getBits old 0 18 == g
      let lost := !g.testBit 17 && s.sw.pool.stackLost
      let down := g.testBit 17 && !s.bulkUp (bitsOf g 16 1)
      lost || down || !(same || s.granState g == 1)
    else false
  | none => false

/-- Whether the map of a partition fits its entry after the change (R107). `t` is the state with the records stored. -/
def State.badMap (s t : State) (p : Nat) : Bool :=
  let e := t.rd .sw PTN_ENTRY (p + 1)
  let o := s.rd .sw PTN_ENTRY (p + 1)
  let slices := t.mapEntries p 0
  let share := t.mapEntries p 1
  let size := getBits e 2 12 + 1
  let backed := e.getLsbD 1
  let k := getBits e 14 4
  let kept := (s.mapEntries p 0).all slices.contains && (s.mapEntries p 1).all share.contains
    && slices.length == (s.mapEntries p 0).length && share.length == (s.mapEntries p 1).length
  if !e.getLsbD 0 then
    -- undefined: nothing is mapped; a change that removes the partition leaves its maps to the drain (R136)
    if o.getLsbD 0 && s.ptnState p == 1 then !kept else s.ptnState p == 0 && !(slices.isEmpty && share.isEmpty)
  else
    let tier := slices.any fun x => x.2.testBit 17 != backed
    let range := slices.length != size || slices.any fun x => size ≤ x.1
    let sh := backed && (9 < k || share.length != 2 ^ k || share.any fun x => 2 ^ k ≤ x.1 || x.2.testBit 17)
    let same := s.ptnState p == 1 && (e.getLsbD 1 != o.getLsbD 1 || getBits e 14 4 != getBits o 14 4 || size < getBits o 2 12 + 1
      || !((s.mapEntries p 0).all slices.contains && (s.mapEntries p 1).all share.contains))
    let lost := backed && !o.getLsbD 0 && s.sw.pool.stackLost
    tier || range || sh || same || lost

/-- The first record that fails R107. DEDUCED, log 157. -/
def State.poolBad (s t : State) (scope : Nat) (rs : List DctRec) : Option Nat :=
  let onPtn (r : DctRec) : Bool := !r.ep && ((r.page == pgPtn && r.off == 0x48) || (r.page == pgPol && r.off == 0x58))
  let granules := (rs.filter fun r => !r.ep && r.page == pgPol && r.value.getLsbD 31).map fun r => getBits r.value 0 18
  match firstRec rs s.badGranule with
  | some i => some i
  | none =>
    if repeats granules then firstRec rs fun r => !r.ep && r.page == pgPol
    else if scope < 64 && rs.any onPtn && State.badMap s t scope then firstRec rs onPtn
    else if scope < 64 && s.ptnState scope == 2 then some 0
    else none

/-- The first record that fails the agent list's rules (R117, R120). A node whose old slot is still RECALLING may be added in another slot. DESIGN CHOICE, log 199. -/
def State.agentBad (s t : State) (rs : List DctRec) : Option Nat :=
  let agt (r : DctRec) : Bool := !r.ep && r.page == pgDir
  let valid := (upTo 64).filter fun i => t.flag .sw DIR_AGT_ENTRY_VALID (i + 1)
  let hosts := valid.filter fun i => t.get .sw DIR_AGT_ENTRY_KIND (i + 1) == 1
  let nodes := (valid.filter fun i => t.get .sw DIR_AGT_ENTRY_KIND (i + 1) == 0).map fun i => t.get .sw DIR_AGT_ENTRY_NODE (i + 1)
  let bad (r : DctRec) : Bool :=
    let st := s.slotState r.sel
    let old := s.rd .sw DIR_AGT_ENTRY (r.sel + 1)
    let other := getBits old 1 1 != getBits r.value 1 1 || (getBits r.value 1 1 == 0 && getBits old 2 17 != getBits r.value 2 17)
    agt r && (st == 2 || ((st == 1 || st == 3) && r.value.getLsbD 0 && other))
  match firstRec rs bad with
  | some i => some i
  | none => if rs.any agt && (1 < hosts.length || repeats nodes) then firstRec rs agt else none

/-- The first record that fails the rules of contexts and roster (R406, R411). DEDUCED, log 157. -/
def State.contextBad (s t : State) (rs : List DctRec) : Option Nat :=
  let ros (r : DctRec) : Bool := !r.ep && r.page == pgPtn && r.off == 0xC8
  let nodes := t.swc.regs.filterMap fun e =>
    if e.1 % 2 ^ 24 == PTN_ROS_ENTRY.page * 4096 + PTN_ROS_ENTRY.off && getBits e.2 0 1 == 1 then some (getBits e.2 1 17) else none
  let hostBad (p : Nat) : Bool :=
    let e := t.rd .sw PTN_ENTRY (p + 1)
    let c := t.rd .sw CTX_ENTRY (getBits e 20 10 + 1)
    e.getLsbD 0 && !e.getLsbD 19 && !(bindsTo c p && c.getLsbD 8)
  let bad (r : DctRec) : Bool :=
    (!r.ep && r.page == pgPtn && r.off == 0x48 && hostBad r.sel)
      || (!r.ep && r.page == pgCtx && (upTo 64).any fun p => s.hostOwned p && t.get .sw PTN_ENTRY_HOST_CTX (p + 1) == r.sel && hostBad p)
  match firstRec rs bad with
  | some i => some i
  | none => if rs.any ros && repeats nodes then firstRec rs ros else none

/-- The check of R420: none when the change passes, otherwise DETAIL and the first failing record. DESIGN CHOICE, log 154. -/
def State.dctCheck (s : State) (scope : Nat) (rs : List DctRec) : Option (Nat × Nat) :=
  let t := s.writeRecs rs
  let epBad (r : DctRec) : Bool := r.ep && ((s.bindingPort r.node).isNone || s.deliveryPending r.node)
  let tag (d : Nat) (x : Option Nat) : Option (Nat × Nat) := x.map fun i => (d, i)
  ((tag 2 (firstRec rs fun r => r.target.isNone)).orElse fun _ =>
    (tag 3 (firstRec rs fun r => r.target.any fun x => !x.2.2)).orElse fun _ =>
    (tag 4 (firstRec rs (s.outOfScope scope))).orElse fun _ =>
    (if s.badOpkey scope rs then some (4, 0) else none).orElse fun _ =>
    (tag 5 (firstRec rs fun r => epBad r || s.bindsRemoved r)).orElse fun _ =>
    (tag 6 (s.poolBad t scope rs)).orElse fun _ =>
    (tag 7 (s.agentBad t rs)).orElse fun _ => tag 8 (s.contextBad t rs))

/-! ### Binding sets (R422) -/

/-- Shows the number of deliveries. -/
def State.showPend (s : State) : State := s.put .sw DCT_PEND_PENDING s.sw.dct.pend.length

/-- Sends an endpoint its whole binding set at a port, and awaits its acknowledgement. DEDUCED, log 40. -/
def State.deliver' (s : State) (n : Nat) (removals : List Nat) : State :=
  let node := s.partnerOf n
  let e := s.epSet node
  let now := s.now .sw
  let old := (lookup s.sw.dct.pend n).elim [] (·.removals)
  let s := s.onDct fun d => { d with pend := insertAt d.pend n ⟨now, true, (old ++ removals).eraseDups⟩ }
  (s.emit (.binding n node (s.rd .sw DCT_SEQ) e.ctxs e.mask)).showPend

/-- Delivers the set of an endpoint when its port is verified; otherwise the set goes once ID_OK is set. DEDUCED, log 162. -/
def State.deliverTo (s : State) (node : Nat) (removals : List Nat) : State :=
  match s.bindingPort node with
  | some n => s.deliver' n removals
  | none => s

/-- BINDING_RESEND_TIMER (R422). -/
def bindingResendTimer (n : Nat) (s : State) : State :=
  match lookup s.sw.dct.pend n with
  | some d => if s.due .sw d.at_ 175000 && !s.secHalted .sw then s.deliver' n [] else s
  | none => s

def execBindingResendTimer (n : Nat) (s : State) : Host.Outcome State Fault Refusal := .next (bindingResendTimer n s)

/-- BINDING_ACK_RECEIVE (R422): from the partner of a port. -/
def bindingAckReceive (n : Nat) (s : State) : State :=
  match lookup s.sw.dct.pend n with
  | some _ => ((s.onDct fun d => { d with pend := removeAt d.pend n }).count .sw DCT_PEND_DELIVERED).showPend
  | none => s

def execBindingAckReceive (n : Nat) (s : State) : Host.Outcome State Fault Refusal := .next (bindingAckReceive n s)

/-- PARTNER_IDENTITY_VERIFIED (R285, R422): at the switch ID_OK brings the partner its binding set; at the endpoint the digest of the link's partner is kept. DEDUCED, log 162. -/
def partnerVerified (p : Part) (n : Nat) (ok : Bool) (digest : List Byte) (s : State) : State :=
  match p with
  | .sw =>
    if !s.cpuUp 0 || s.secHalted .sw then s
    else
    let s := partnerIdentityVerified n ok digest s
    if ok && s.flag .sw RTE_PORT_STS_ID_OK (n + 1) && s.bindingPort (s.partnerOf n) == some n && (lookup s.sw.dct.pend n).isNone then
      s.deliver' n [] else s
  | .ep =>
    if s.stage .ep n != 5 then s
    else if ok then
      (upTo 8).foldl (fun s k => s.wr .ep (SEC_PEER.word k) (BitVec.ofNat 64 (natAt digest (8 * k) 8)) (n + 1)) s
    else s.count .ep SEC_EVENTS_SPDM_FAIL

def execPartnerIdentityVerified (p : Part) (n : Nat) (ok : Bool) (digest : List Byte) (s : State) : Host.Outcome State Fault Refusal :=
  .next (partnerVerified p n ok digest s)

/-- The endpoint's context table and mask replaced in one step; the windows of partitions that leave the mask close (R407, R422). -/
def State.applySet (s : State) (ctxs : List (Nat × Word)) (mask : Word) : State :=
  let isCtx (k : Nat) : Bool := k % 2 ^ 24 == CTX_ENTRY.page * 4096 + CTX_ENTRY.off
  let s := s.onChip .ep fun c => { c with regs := keepIf (fun k _ => !isCtx k) c.regs }
  let s := ctxs.foldl (fun s e => if e.1 < 1024 then s.wr .ep CTX_ENTRY (e.2 &&& rwlMask CTX_ENTRY true) (e.1 + 1) else s) s
  let s := s.wr .ep CTX_PTN_MASK mask
  (upTo 1024).foldl (fun s w =>
    if s.flag .ep WIN_WIN_CTL_VALID (w + 1) && !mask.getLsbD (getBits (s.rd .ep WIN_WIN_CTL (w + 1)) 5 6) then s.closeWindow w else s) s

/-- BINDING_SET_RECEIVE (R422, R423): a set that arrives on a link in the session of a switch; `digest` is the alias digest of the session's peer. DEDUCED, log 162. -/
def bindingSetReceive (link sid : Nat) (seq : Word) (ctxs : List (Nat × Word)) (mask : Word) (digest : List Byte) (s : State) : State :=
  let any := (upTo 8).any fun k => s.rd .ep (SEC_PEER.word k) (link + 1) != 0
  let known := any && (upTo 8).all fun k => s.rd .ep (SEC_PEER.word k) (link + 1) == BitVec.ofNat 64 (natAt digest (8 * k) 8)
  if s.ep.rly.mesh || link != 0 || !known || s.stage .ep link != 5 then s.count .ep SEC_EVENTS_SPDM_FAIL
  else
    let s := s.applySet ctxs mask
    let s := (s.wr .ep CTX_APPLIED_SEQ seq).put .ep CTX_APPLIED_SW_SWITCH sid
    let s := s.put .ep HDR_LOCK_SEQ_LOW (seq.toNat % 2 ^ 16) 0 pgCtx
    let s := (s.attested .ep 4).onRly fun r => { r with bound := true }
    ((s.emit (.bindingAck link seq)).readyCheck .ep).drive

def execBindingSetReceive (link sid : Nat) (seq : Word) (ctxs : List (Nat × Word)) (mask : Word) (digest : List Byte) (s : State) :
    Host.Outcome State Fault Refusal := .next (bindingSetReceive link sid seq ctxs mask digest s)

/-! ### The image (R404, R425) -/

/-- Whether a key names a register that the configuration image holds. DEDUCED, log 46. -/
def imageKey (k : Nat) : Bool :=
  let at_ := k % 2 ^ 24
  let here (r : Reg) : Bool := at_ == r.page * 4096 + r.off
  here PTN_ENTRY || (upTo 8).any (fun i => here (PTN_TKEY.word i)) || here PTN_ROS_ENTRY || here PTN_ROS_MASK || here CTX_ENTRY
    || here POL_MAP_ENTRY || here DIR_AGT_ENTRY

/-- The configuration as it stands. DEDUCED, log 46, 163. -/
def State.config (s : State) : CfgImage :=
  { regs := keepIf (fun k v => imageKey k && v != 0) s.swc.regs, sets := s.sw.dct.sets, seq := s.rd .sw DCT_SEQ }

/-- Protection set-up has changed: the image is to be written, block 4 changes (R404, R425). -/
def State.configChanged (s : State) : State := (s.put .sw DCT_STS_IMG_STALE 1).attested .sw 4

/-- IMAGE_WRITE_DONE (R425). DEDUCED, log 163. -/
def imageWriteDone (s : State) : State :=
  if s.flag .sw DCT_STS_IMG_STALE && !s.secHalted .sw then
    (s.onDct fun d => { d with image := some s.config }).put .sw DCT_STS_IMG_STALE 0
  else s

def execImageWriteDone (s : State) : Host.Outcome State Fault Refusal := .next (imageWriteDone s)

/-! ### Commit -/

/-- The agents of a change: an EMPTY slot is filled, a removed one goes into RECALLING (R120). -/
def State.commitAgents (s old : State) (rs : List DctRec) : State :=
  (rs.filter fun r => !r.ep && r.page == pgDir).foldl (fun s r =>
    let i := r.sel
    let was := old.flag .sw DIR_AGT_ENTRY_VALID (i + 1)
    let is := s.flag .sw DIR_AGT_ENTRY_VALID (i + 1)
    if !was && is && s.slotState i == 0 then s.put .sw DIR_AGT_STS_STATE 1 (i + 1)
    else if was && !is && s.slotState i != 2 then
      (s.put .sw DIR_AGT_STS_STATE 2 (i + 1)).onPool fun p => { p with recalls := insertAt p.recalls i (s.now .sw, 5) }
    else s) s

/-- The granules that a partition's maps name become ASSIGNED to it (R110). -/
def State.assignMaps (s : State) (p : Nat) : State :=
  let s := (s.mapEntries p 0).foldl (fun s e => s.setGran e.2 4 p e.1 0) s
  (s.mapEntries p 1).foldl (fun s e => s.setGran e.2 4 p e.1 1) s

/-- A change to a host-owned partition or to the host slot reaches CXL: an event record, and TSP in ERROR when locked (R378, R390). -/
def State.hostSideChanged (s old : State) (scope : Nat) (rs : List DctRec) : State :=
  let range := scope < 64 && (old.hostOwned scope || s.hostOwned scope)
    && old.rd .sw PTN_ENTRY (scope + 1) != s.rd .sw PTN_ENTRY (scope + 1)
  let slot := rs.any fun r => !r.ep && r.page == pgDir
    && (old.get .sw DIR_AGT_ENTRY_KIND (r.sel + 1) == 1 || s.get .sw DIR_AGT_ENTRY_KIND (r.sel + 1) == 1)
    && old.rd .sw DIR_AGT_ENTRY (r.sel + 1) != s.rd .sw DIR_AGT_ENTRY (r.sel + 1)
  let s := s.when range fun s => s.postEvent scope
  s.when ((range || slot) && s.tspLocked) fun s => s.put .sw CXU_STS_TSP 2

/-- The cache counters of a partition that becomes defined are zero (R144). -/
def State.zeroBlk (s : State) (p : Nat) : State :=
  ((s.wr .sw BLK_HITS 0 (p + 1)).wr .sw BLK_MISSES 0 (p + 1)).wr .sw BLK_VICTIMS 0 (p + 1)

/-- The partition of a change: defined, grown or removed (R107, R108, R136, R410). DEDUCED, log 164. -/
def State.commitPartition (s old : State) (p : Nat) : State :=
  let was := old.flag .sw PTN_ENTRY_VALID (p + 1)
  let is := s.flag .sw PTN_ENTRY_VALID (p + 1)
  if is then ((s.when (!was) fun s => s.zeroBlk p).put .sw POL_PTN_STS_STATE 1 (p + 1)).assignMaps p
  else if was && old.ptnState p == 1 then
    (s.event .sw pgPol .partitionStop p 3).startDrain p (s.get .sw POL_DRAIN_CFG_TICKS)
  else s

/-- Ports in quarantine whose partner the roster now names (R285). -/
def State.commitRoster (s : State) : State :=
  (s.portList .sw).foldl (fun s n =>
    if s.portState n == 1 && s.inRoster (s.partnerOf n) then (s.put .sw RTE_PORT_STS_MEMBER_OK 1 (n + 1)).tryActivate n else s) s

/-- A change ends (R421): the result, IDLE, and SEQ when it was sealed. -/
def State.endChange (s : State) (status detail rec : Nat) : State :=
  let isSealed := s.dctState == 2
  let s := ((s.put .sw DCT_RESULT_STATUS status).put .sw DCT_RESULT_DETAIL detail).put .sw DCT_RESULT_RECORD rec
  let s := s.put .sw DCT_RESULT_TICK (s.now .sw)
  let s := s.wr .sw DCT_STS (setBits (s.rd .sw DCT_STS) 0 9 0)
  let s := (upTo 8).foldl (fun s k => s.wr .sw (DCT_DIGEST.word k) 0) s
  let s := s.put .sw DCT_REC_IDX_COUNT 0
  let s := s.onDct fun d => { d with recs := [], digest := [], sigs := [] }
  s.when isSealed fun s => s.addWrap .sw DCT_SEQ_SEQ

/-- A change that passes takes effect as one act (R407, R420, R421). DEDUCED, log 161. -/
def State.applyChange (s : State) (scope : Nat) (rs : List DctRec) : State :=
  let old := s
  let nodes := namedNodes rs
  let moved := (rs.filter fun r => !r.ep && r.page == pgCtx && r.off == 0x48).map (·.sel)
  let s := s.writeRecs rs
  let s := s.when (scope == 65) fun s => s.onDct fun d =>
    { d with opKeys := d.opKeys ++ [((upTo 8).map fun k => leBytes 8 (s.rd .sw (DCT_OPKEY_NEW.word k)).toNat).flatten] }
  let s := s.onDct fun d => { d with sets := nodes.foldl (fun m n => insertAt m n (((lookup m n).getD {}).after n rs)) d.sets }
  let s := s.endChange stOK 0 0
  let s := rs.foldl (fun s r => if r.ep then s else s.put .sw HDR_LOCK_SEQ_LOW (s.get .sw DCT_SEQ_SEQ % 2 ^ 16) 0 r.page) s
  let s := s.when (scope < 64 && rs.any fun r => !r.ep && (r.page == pgPtn || r.page == pgPol)) fun s => s.commitPartition old scope
  let s := s.abortHerds rsREVOKED fun _ h => moved.contains h.ctx && old.ctxPtn h.ctx != s.ctxPtn h.ctx
  let s := s.commitAgents old rs
  let s := s.hostSideChanged old scope rs
  let s := s.commitRoster
  let s := s.configChanged
  (nodes.foldl (fun s n => s.deliverTo n []) s).settle

/-- The change is checked as a whole, then applied or refused (R420). R107 and R117 report in the POL page. DEDUCED, log 161. -/
def State.commitChange (s : State) : State :=
  let rs := s.dctRecs
  let scope := s.sw.dct.scope
  match s.dctCheck scope rs with
  | some (d, i) => (s.when (d == 6 || d == 7) fun s => s.refuse .sw pgPol).endChange stUNSUPPORTED d i
  | none => s.applyChange scope rs

/-! ### Signatures required (R414 to R416, R419) -/

/-- Whether a change is the reclamation of R416 at this tick. -/
def State.reclaims (s : State) : Bool :=
  let p := s.sw.dct.scope
  p < 64 && s.flag .sw PTN_ENTRY_RECLAIM (p + 1) && s.orphaned (s.get .sw PTN_ENTRY_HOST_CTX (p + 1))
    && (match s.dctRecs with
      | [r] => (r.target.map (·.1)) == some PTN_ENTRY && !r.ep && r.sel == p && !r.value.getLsbD 0
      | _ => false)

/-- Whether a role's signature is required: 0 tenant, 1 operator. DEDUCED, log 155. -/
def State.sigNeeded (s : State) (role : Nat) : Bool :=
  let scope := s.sw.dct.scope
  if role == 0 then scope < 64 && !s.reclaims
  else !(scope == 65 && s.sw.dct.opKeys.isEmpty)

/-- Whether a role is verified. -/
def State.sigOk (s : State) (role : Nat) : Bool :=
  if role == 0 then s.flag .sw DCT_STS_TENANT_OK else s.flag .sw DCT_STS_OPERATOR_OK

/-- The key digest that a role must present (R414, R415): the tenant key in force, or the one that the change installs when it defines the partition; the operator key in force. -/
def State.keyDigest (s : State) (role : Nat) : List Byte :=
  if role == 1 then s.sw.dct.opKeys.getLastD []
  else
    let b := s.sw.dct.scope + 1
    let t := if s.flag .sw PTN_ENTRY_VALID b || s.ptnState s.sw.dct.scope != 0 then s else s.writeRecs s.dctRecs
    ((upTo 8).map fun k => leBytes 8 (t.rd .sw (PTN_TKEY.word k) b).toNat).flatten

/-- Commits once every required signature is verified; a halted security core commits nothing (R434). -/
def State.tryCommit (s : State) : State :=
  if s.dctState == 2 && !s.secHalted .sw && (upTo 2).all fun r => !s.sigNeeded r || s.sigOk r then s.commitChange else s

/-- Whether the window of the sealed change has ended. DEDUCED, log 160. -/
def State.windowOver (s : State) : Bool := s.dctState == 2 && s.due .sw s.sw.dct.sealedAt (s.get .sw DCT_WINDOW_TICKS)

/-- Whether the signatures that have arrived could still complete the change. The reclamation of R416 is judged when the operator's signature is verified: after that the tenant's is needed. DEDUCED, log 160. -/
def State.stillArriving (s : State) : Bool :=
  let needed (r : Nat) : Bool := s.sigNeeded r || (r == 0 && decide (s.sw.dct.scope < 64) && s.sigOk 1)
  (upTo 2).all fun r => !needed r || s.sigOk r || s.sw.dct.sigs.any (·.role == r)

/-- DCT_WINDOW_EXPIRY (R419): the change ends TIMEOUT at S + W, unless the signatures that it needs have arrived and are being verified. DEDUCED, log 160. -/
def dctWindowExpiry (s : State) : State :=
  if s.windowOver && !s.stillArriving then s.endChange stTIMEOUT 10 0 else s

def execDctWindowExpiry (s : State) : Host.Outcome State Fault Refusal := .next (dctWindowExpiry s)

/-- SIG_VERIFY_DONE (R418, R419): the signature that arrived first is verified: the key's digest, then the signature. DEDUCED, log 174. -/
def sigVerifyDone (s : State) : State :=
  match (if s.secHalted .sw then [] else s.sw.dct.sigs) with
  | [] => s
  | g :: rest =>
    let s := s.onDct fun d => { d with sigs := rest }
    let s := s.put .sw DCT_STS_VERIFYING (b2n (!rest.isEmpty))
    if s.sigOk g.role then s
    else
      let key := slice g.bytes 0 2592
      let keyOk := Config.sha3 key == s.keyDigest g.role
      if keyOk && Config.mldsaVerify key s.sw.dct.digest (slice g.bytes 2592 4627) then
        let s := s.put .sw (if g.role == 0 then DCT_STS_TENANT_OK else DCT_STS_OPERATOR_OK) 1
        s.tryCommit
      else
        let s := (s.count .sw SEC_EVENTS_SIG_FAIL).addWrap .sw DCT_STS_FAILS
        if 4 ≤ s.get .sw DCT_STS_FAILS then s.endChange stPERMISSION (if keyOk then 9 else 12) 0
        else dctWindowExpiry s

def execSigVerifyDone (s : State) : Host.Outcome State Fault Refusal := .next (sigVerifyDone s)

/-! ### Staging (R417 to R419) -/

/-- The party of a path: 0 the host, 1 the BMC. -/
def partyOf (path : Path) : Nat := if path == .sideband then 1 else 0

/-- BEGIN (R417), after the end of a sealed change whose window has passed (R13); a halted security core refuses it (R434). -/
def State.dctBeginW (s : State) (path : Path) (scope : Nat) : Written :=
  let s := dctWindowExpiry s
  if s.dctState != 0 || 65 < scope || s.secHalted .sw then s.refused .sw pgDct
  else
    let s := (s.put .sw DCT_STS_STATE 1).put .sw DCT_STS_STAGER (partyOf path)
    ((s.put .sw DCT_REC_IDX_COUNT 0).onDct fun d => { d with recs := [], scope := scope, sigs := [] }, true)

/-- DCT_BEGIN. -/
def dctBegin (path : Path) (scope : Nat) (s : State) : State := s.writeBy path .sw pgDct 0x50 fun s => s.dctBeginW path (scope % 128)

def execDctBegin (path : Path) (scope : Nat) (s : State) : Host.Outcome State Fault Refusal := .next (dctBegin path scope s)

/-- Whether a party may stage: STAGING, and it began the change. -/
def State.mayStage (s : State) (path : Path) : Bool := s.dctState == 1 && s.get .sw DCT_STS_STAGER == partyOf path

/-- A write of REC_W0. DEDUCED, log 158. -/
def State.dctW0 (s : State) (path : Path) (x : Word) : Written :=
  if s.mayStage path then (s.wr .sw DCT_REC_W0 x, true) else s.refused .sw pgDct

/-- A write of REC_W1 stores the record and advances the index (R417). -/
def State.dctW1 (s : State) (path : Path) (x : Word) : Written :=
  if !s.mayStage path then s.refused .sw pgDct
  else
    let i := s.get .sw DCT_REC_IDX_INDEX
    let r := (s.rd .sw DCT_REC_W0).toNat + x.toNat * 2 ^ 64
    let s := s.onDct fun d => { d with recs := insertAt d.recs i r }
    ((s.put .sw DCT_REC_IDX_COUNT (max s.recCount (i + 1))).put .sw DCT_REC_IDX_INDEX (i + 1), true)

/-- DCT_REC_WRITE. -/
def dctRecWrite (path : Path) (x : Word) (s : State) : State := s.writeBy path .sw pgDct 0x68 fun s => s.dctW1 path x

def execDctRecWrite (path : Path) (x : Word) (s : State) : Host.Outcome State Fault Refusal := .next (dctRecWrite path x s)

/-- The digest of a change: its header and its records (R412). DEDUCED, log 158. -/
def State.changeDigest (s : State) : List Byte :=
  let name : List Byte := [0x52, 0x4F, 0x4E, 0x4C, 0x59, 0x4E, 0x2D, 0x44, 0x43, 0x54, 0x2D, 0x31]
  let head := name ++ leBytes 2 s.switchId ++ leBytes 1 s.sw.dct.scope ++ [0] ++ leBytes 2 s.recCount ++ List.replicate 6 0
    ++ leBytes 8 (s.rd .sw DCT_SEQ).toNat
  Config.sha3 (head ++ ((upTo s.recCount).map fun i => leBytes 16 ((lookup s.sw.dct.recs i).getD 0)).flatten)

/-- SEAL (R417): the digest, the window; a change that needs no signature commits (R415). -/
def State.dctSealW (s : State) (path : Path) : Written :=
  if !s.mayStage path || s.recCount == 0 then s.refused .sw pgDct
  else
    let g := s.changeDigest
    let now := s.now .sw
    let s := (s.put .sw DCT_STS_STATE 2).onDct fun d => { d with digest := g, sealedAt := now }
    let s := (upTo 8).foldl (fun s k => s.wr .sw (DCT_DIGEST.word k) (BitVec.ofNat 64 (natAt g (8 * k) 8))) s
    (s.tryCommit, true)

/-- DCT_SEAL. -/
def dctSeal (path : Path) (s : State) : State := s.writeBy path .sw pgDct 0x50 fun s => s.dctSealW path

def execDctSeal (path : Path) (s : State) : Host.Outcome State Fault Refusal := .next (dctSeal path s)

/-- CANCEL (R419): from either path; ignored in IDLE, which the end of the window brings first (R13). -/
def State.dctCancelW (s : State) : Written :=
  let s := dctWindowExpiry s
  if s.dctState == 0 then s.refused .sw pgDct else (s.endChange stABORTED 11 0, true)

/-- DCT_CANCEL. -/
def dctCancel (path : Path) (s : State) : State := s.writeBy path .sw pgDct 0x50 State.dctCancelW

def execDctCancel (path : Path) (s : State) : Host.Outcome State Fault Refusal := .next (dctCancel path s)

/-- Whether a role's signature may come by a path (R418, R506). DEDUCED, log 159. -/
def rolePath (role : Nat) (path : Path) : Bool := if role == 1 then path == .sideband else path == .host

/-- Changes the signature buffer of a path. DEDUCED, log 159. -/
def State.onBuf (s : State) (path : Path) (f : List Byte → List Byte) : State :=
  s.onDct fun d => if path == .sideband then { d with bufBmc := f d.bufBmc } else { d with bufHost := f d.bufHost }

/-- START (R418): the buffer of the writing path is emptied. -/
def State.sigStartW (s : State) (path : Path) (role : Nat) : Written :=
  if rolePath role path then ((s.put .sw DCT_SIG_CTL_ROLE role).onBuf path fun _ => [], true) else s.refused .sw pgDct

/-- SIG_START. -/
def sigStart (path : Path) (role : Nat) (s : State) : State := s.writeBy path .sw pgDct 0xC0 fun s => s.sigStartW path (role % 2)

def execSigStart (path : Path) (role : Nat) (s : State) : Host.Outcome State Fault Refusal := .next (sigStart path role s)

/-- A write of SIG_DATA: the next 8 bytes of the buffer of the path; bytes past 7,219 are ignored (R418). -/
def State.sigDataW (s : State) (path : Path) (x : Word) : Written :=
  if path == .host || path == .sideband then (s.onBuf path fun b => (b ++ leBytes 8 x.toNat).take 7219, true) else s.refused .sw pgDct

/-- SIG_DATA_WRITE. -/
def sigDataWrite (path : Path) (x : Word) (s : State) : State := s.writeBy path .sw pgDct 0xC8 fun s => s.sigDataW path x

def execSigDataWrite (path : Path) (x : Word) (s : State) : Host.Outcome State Fault Refusal := .next (sigDataWrite path x s)

/-- SUBMIT (R418, R419): ignored unless SEALED; a role already verified is ignored, and so is a signature that arrives after the window. -/
def State.sigSubmitW (s : State) (path : Path) (role : Nat) : Written :=
  let s := dctWindowExpiry s
  if !rolePath role path || s.dctState != 2 || s.secHalted .sw then s.refused .sw pgDct
  else
    let s := s.put .sw DCT_SIG_CTL_ROLE role
    if s.sigOk role || s.windowOver then (s, true)
    else
      let buf := if path == .sideband then s.sw.dct.bufBmc else s.sw.dct.bufHost
      let g : Sig := ⟨role, slice buf 0 7219, s.now .sw⟩
      ((s.onDct fun d => { d with sigs := d.sigs ++ [g] }).put .sw DCT_STS_VERIFYING 1, true)

/-- SIG_SUBMIT. -/
def sigSubmit (path : Path) (role : Nat) (s : State) : State := s.writeBy path .sw pgDct 0xC0 fun s => s.sigSubmitW path (role % 2)

def execSigSubmit (path : Path) (role : Nat) (s : State) : Host.Outcome State Fault Refusal := .next (sigSubmit path role s)

/-- A write of DCT.STAGE_CTL, CANCEL before SEAL before BEGIN. -/
def State.writeStageCtl (s : State) (path : Path) (x : Word) : Written :=
  if x.getLsbD 2 then s.dctCancelW
  else if x.getLsbD 1 then s.dctSealW path
  else if x.getLsbD 0 then s.dctBeginW path (getBits x 3 7)
  else (s, true)

/-- A write of DCT.SIG_CTL. -/
def State.writeSigCtl (s : State) (path : Path) (x : Word) : Written :=
  let role := getBits x 0 1
  if x.getLsbD 1 then
    let a := s.sigStartW path role
    if x.getLsbD 2 && a.2 then a.1.sigSubmitW path role else a
  else if x.getLsbD 2 then s.sigSubmitW path role
  else if rolePath role path then (s.put .sw DCT_SIG_CTL_ROLE role, true) else s.refused .sw pgDct

/-! ### The end of a drain (R136, R407, R408) -/

/-- A herd whose partition has ended is destroyed whatever its state; a command that waits for it ends. -/
def State.endHerd (s : State) (i : Nat) : State :=
  let waits := s.sw.hrd.running.any fun r => r.2 == i
  let s := s.freeHerd i
  if waits then (s.onHrd fun x => { x with running := none }).hrdDone stOK 0 else s

/-- The switch's own bindings to a partition are cleared: its entry and key, its maps, its contexts, its bit of every roster mask; its herds and programs go (R408). -/
def State.clearBindings (s : State) (p : Nat) : State :=
  let mine := s.sw.hrd.herds.filter fun e => s.ctxPtn e.2.ctx == some p
  let bound (c : Nat) : Bool := s.ctxPtn c == some p
  let progs := keepIf (fun _ (g : Prog) => bound g.ctx) s.sw.svc.progs
  let s := mine.foldl (fun s e => s.endHerd e.1) s
  let s := s.onSvc fun v => { v with progs := keepIf (fun k _ => (lookup progs k).isNone) v.progs }
  let here (r : Reg) (k : Nat) : Bool := k % 2 ^ 24 == r.page * 4096 + r.off
  let gone (k : Nat) (v : Word) : Bool :=
    let b := k / 2 ^ 24
    ((here PTN_ENTRY k || (upTo 8).any fun i => here (PTN_TKEY.word i) k) && b == p + 1)
      || (here POL_MAP_ENTRY k && mapBank p 0 0 ≤ b && b < mapBank p 1 0 + 4096)
      || (here CTX_ENTRY k && bindsTo v p)
  let s := s.onChip .sw fun c => { c with regs := keepIf (fun k v => !gone k v) c.regs }
  let s := s.onChip .sw fun c => { c with regs := mapVals (fun k v => if here PTN_ROS_MASK k then setBits v p 1 0 else v) c.regs }
  let s := s.attested .sw 5
  s.attested .sw 6

/-- The endpoints whose sets name a partition lose it, and are told (R408). -/
def State.clearSets (s : State) (p : Nat) : State :=
  let names (e : EpSet) : Bool := e.mask.getLsbD p || e.ctxs.any fun c => bindsTo c.2 p
  let hit := (s.sw.dct.sets.filter fun e => names e.2).map (·.1)
  let clean (e : EpSet) : EpSet := { ctxs := keepIf (fun _ v => !bindsTo v p) e.ctxs, mask := setBits e.mask p 1 0 }
  let s := s.onDct fun d => { d with sets := mapVals (fun _ e => if names e then clean e else e) d.sets }
  hit.foldl (fun s n => s.deliverTo n [p]) s

/-- DRAIN_END (R136, R408): C + D of a partition's drain. DEDUCED, log 174. -/
def drainEnd (p : Nat) (s : State) : State :=
  match lookup s.sw.pool.drains p with
  | some (t, d) =>
    if s.due .sw t d then ((((s.drainHome p).clearBindings p).configChanged).clearSets p).settle else s
  | none => s

def execDrainEnd (p : Nat) (s : State) : Host.Outcome State Fault Refusal := .next (drainEnd p s)

end Sys2Proof.Machine
end

