-- ==== Sys2Proof/Machine/Spdm.lean ====
section
/-! DEFINITION. Identity and attestation (R397 to R404): the keys of a part, its measurement blocks, and its SPDM responder. -/

namespace Sys2Proof.Machine

/-! ### Measurements (R403, R404) -/

/-- The eight words of a digest stored in registers, as bytes (R426). -/
def State.digestAt (s : State) (p : Part) (r : Reg) (b : Nat := 0) (i : Nat := 0) : List Byte :=
  ((upTo 8).map fun k => leBytes 8 (s.rd p (r.word k) b i).toNat).flatten

/-- Stores a digest of 64 bytes in eight registers. -/
def State.putDigest (s : State) (p : Part) (r : Reg) (d : List Byte) : State :=
  (upTo 8).foldl (fun s k => s.wr p (r.word k) (BitVec.ofNat 64 (natAt d (8 * k) 8))) s

/-- The image that runs of a kind: 1 loader, 2 firmware, 3 security core. -/
def State.runningImage (s : State) (kind : Nat) : List Byte :=
  match lookup s.sw.fw.running kind with
  | some slot => (lookup s.sw.fw.flash (kind * 2 + slot)).getD []
  | none => []

/-- The bytes of the configuration image's body (R404): SEQ, the operator key slot in force, and every register that it holds. DESIGN CHOICE, log 166. -/
def State.configBody (s : State) : List Byte :=
  let c := s.config
  leBytes 8 c.seq.toNat ++ leBytes 1 s.sw.dct.opKeys.length
    ++ (c.regs.map fun e => leBytes 8 e.1 ++ leBytes 8 e.2.toNat).flatten

/-- The bytes of the endpoint's binding set and APPLIED_SEQ. -/
def State.boundBytes (s : State) : List Byte :=
  let ctxs := s.epc.regs.filter fun e => e.1 % 2 ^ 24 == CTX_ENTRY.page * 4096 + CTX_ENTRY.off && e.2 != 0
  (ctxs.map fun e => leBytes 2 (e.1 / 2 ^ 24 - 1) ++ leBytes 1 e.2.toNat).flatten
    ++ leBytes 8 (s.rd .ep CTX_PTN_MASK).toNat ++ leBytes 8 (s.rd .ep CTX_APPLIED_SEQ).toNat

/-- The manifest of loaded programs, sorted by context and then slot (R230, R403). -/
def State.progManifest (s : State) : List Byte :=
  let of (c : Nat) := (s.sw.svc.progs.filter fun e => e.2.ctx == c).map fun e => leBytes 2 c ++ leBytes 1 e.1 ++ slice e.2.digest 0 64
  ((upTo 1024).map fun c => (of c).flatten).flatten

/-- The manifest of SEALED regions, in region order (R233, R403). -/
def State.regionManifest (s : State) : List Byte :=
  ((s.sw.svc.regions.filter fun e => e.2.done).map fun e =>
    leBytes 1 e.1 ++ leBytes 1 e.2.ptn ++ leBytes 8 e.2.off ++ leBytes 8 e.2.len ++ slice e.2.digest 0 64).flatten

/-- The link manifest, in port order (R403). -/
def State.linkManifest (s : State) (p : Part) : List Byte :=
  ((s.portList p).map fun n =>
    leBytes 1 n ++ leBytes 1 (s.get p LNK_STS_STATE 0 n) ++ leBytes 2 (s.get p LNK_STS_KEY_EPOCH 0 n)
      ++ s.digestAt p LNK_PEER_ID 0 n).flatten

/-- The manifest that a block's digest covers: blocks 5, 6 and 7. DESIGN CHOICE, log 166. -/
def State.manifest (s : State) (p : Part) (n : Nat) : Option (List Byte) :=
  match p, n with
  | .sw, 5 => some s.progManifest
  | .sw, 6 => some s.regionManifest
  | p, 7 => some (s.linkManifest p)
  | _, _ => none

/-- The value of a measurement block, or none where the block is absent (R403). -/
def State.measure (s : State) (p : Part) (n : Nat) : Option (List Byte) :=
  match p, n with
  | p, 0 => some (Config.romDigest p)
  | .sw, 1 => some (Config.sha3 (s.runningImage 1))
  | .sw, 2 => some (Config.sha3 (s.runningImage 2))
  | .sw, 3 => some (Config.sha3 (s.runningImage 3))
  | .ep, 3 => some Config.secRomDigest
  | .sw, 4 => some (Config.sha3 s.configBody)
  | .ep, 4 => some (Config.sha3 s.boundBytes)
  | p, n => (s.manifest p n).map Config.sha3

/-! ### Keys (R398, R399, R401) -/

/-- A name of the key derivation as bytes. -/
def asciiBytes (t : String) : List Byte := t.toList.map fun c => BitVec.ofNat 8 c.toNat

/-- A measurement as it enters a derivation: an absent block is left out. DESIGN CHOICE, log 166. -/
def State.measured (s : State) (p : Part) (n : Nat) : List Byte := (s.measure p n).getD []

/-- Whether a part derives keys: PRODUCTION only (R401). -/
def State.derives (s : State) (p : Part) : Bool := s.get p SEC_STS_LIFECYCLE == 1

/-- The boot ROM derives the DeviceID key and CDI1. -/
def State.deriveDevice (s : State) (p : Part) : State :=
  if !s.derives p then s
  else
    let seed := Config.shake256 (Config.uds p ++ asciiBytes "RONLYN-DEVID") 32
    let cdi := Config.shake256 (Config.uds p ++ s.measured p 0 ++ s.measured p 1) 64
    let s := s.onChip p fun c => { c with cdi1 := cdi }
    (s.putDigest p SEC_DEVID (slice (Config.sha3 (Config.mldsaKey seed)) 0 64)).put p SEC_STS_DEVID_READY 1

/-- The security core derives CDI2 and the identity key from the CDI1 it holds, and certifies the key. -/
def State.deriveIdentity (s : State) (p : Part) : State :=
  if !s.derives p then s
  else
    let cdi2 := Config.shake256 ((s.chip p).cdi1 ++ s.measured p 2 ++ s.measured p 3) 64
    let seed := Config.shake256 (cdi2 ++ asciiBytes "RONLYN-ALIAS") 32
    let s := s.onChip p fun c => { c with idSeed := seed }
    (s.putDigest p SEC_ALIAS (slice (Config.sha3 (Config.mldsaKey seed)) 0 64)).put p SEC_STS_ALIAS_READY 1

/-- The chain of certificate slot 0. -/
def State.chain (s : State) (p : Part) : List Byte :=
  Config.certChain p (s.idKey p) (s.measured p 0 ++ s.measured p 1 ++ s.measured p 2 ++ s.measured p 3)

/-! ### The responder (R402) -/

/-- Whether a requester reaches the part: 0 the host's DOE mailbox, 1 the side-band, 16 + n the partner of port n. -/
def State.spdmReach (s : State) (p : Part) (who : Nat) : Bool :=
  match p with
  | .sw => (who == 0 && s.flag .sw CXU_STS_UP) || (who == 1 && s.swc.standbyUp) || (16 ≤ who && who < 144 && s.stage .sw (who - 16) == 5)
  | .ep => 16 ≤ who && who < 24 && s.stage .ep (who - 16) == 5

/-- How far a requester's negotiation and session have come. -/
def State.spdmAt (s : State) (p : Part) (who : Nat) : Nat × Nat := (lookup (s.chip p).spdm who).getD (0, 0)

/-- Stores a requester's negotiation and session. PRESUMED, log 165. -/
def State.spdmTo (s : State) (p : Part) (who level session : Nat) : State :=
  s.onChip p fun c => { c with spdm := insertAt c.spdm who (level, session) }

/-- The side-band counts a message received (R453). -/
def State.sbMessage (s : State) : State := s.count .sw SBP_COUNTS_MESSAGES

/-- Answers an SPDM request; `level` and `session` are what the request needs, `key` whether it needs the identity key. A decommissioned part and a halted security core answer with an error, and the side-band is refused while the main side is down (R401, R434, R449). PRESUMED, log 165. -/
def State.spdmAnswer (s : State) (p : Part) (who req level : Nat) (session : Option Nat) (key : Bool)
    (body : State → State × Nat × List Byte) : State :=
  if !s.spdmReach p who then s
  else
    let s := s.when (p == .sw && who == 1) State.sbMessage
    let at_ := s.spdmAt p who
    let bad := session.any (· != at_.2)
    if s.get p SEC_STS_LIFECYCLE == 2 || s.secHalted p || (s.chip p).inReset || (who == 1 && !s.mainServes) then s.emit (.spdm p who req 3 [])
    else if at_.1 < level || bad then s.emit (.spdm p who req 2 [])
    else if key && !s.flag p SEC_STS_ALIAS_READY then s.emit (.spdm p who req 3 [])
    else
      let r := body s
      r.1.emit (.spdm p who req r.2.1 r.2.2)

/-- SPDM_GET_VERSION: version 1.4; the negotiation begins again. -/
def spdmGetVersion (p : Part) (who : Nat) (s : State) : State :=
  s.spdmAnswer p who 0 0 none false fun s => (s.spdmTo p who 1 0, 0, [0x14])

def execSpdmGetVersion (p : Part) (who : Nat) (s : State) : Host.Outcome State Fault Refusal := .next (spdmGetVersion p who s)

/-- SPDM_GET_CAPABILITIES. -/
def spdmGetCapabilities (p : Part) (who : Nat) (s : State) : State :=
  s.spdmAnswer p who 1 1 none false fun s => (s.spdmTo p who 2 0, 0, [])

def execSpdmGetCapabilities (p : Part) (who : Nat) (s : State) : Host.Outcome State Fault Refusal := .next (spdmGetCapabilities p who s)

/-- SPDM_NEGOTIATE_ALGORITHMS: ML-DSA-87, SHA3-512, ML-KEM-1024. -/
def spdmNegotiateAlgorithms (p : Part) (who : Nat) (s : State) : State :=
  s.spdmAnswer p who 2 2 none false fun s => (s.spdmTo p who 3 0, 0, [])

def execSpdmNegotiateAlgorithms (p : Part) (who : Nat) (s : State) : Host.Outcome State Fault Refusal := .next (spdmNegotiateAlgorithms p who s)

/-- SPDM_GET_DIGESTS: slot 0, the only slot populated. -/
def spdmGetDigests (p : Part) (who : Nat) (s : State) : State :=
  s.spdmAnswer p who 3 3 none true fun s => (s, 0, Config.sha3 (s.chain p))

def execSpdmGetDigests (p : Part) (who : Nat) (s : State) : Host.Outcome State Fault Refusal := .next (spdmGetDigests p who s)

/-- SPDM_GET_CERTIFICATE of a slot: bytes of the chain of slot 0. -/
def spdmGetCertificate (p : Part) (who slot offset length : Nat) (s : State) : State :=
  s.spdmAnswer p who 4 3 none true fun s => if slot == 0 then (s, 0, ((s.chain p).drop offset).take length) else (s, 3, [])

def execSpdmGetCertificate (p : Part) (who slot offset length : Nat) (s : State) : Host.Outcome State Fault Refusal :=
  .next (spdmGetCertificate p who slot offset length s)

/-- SPDM_CHALLENGE: the digest of the chain, signed with the requester's nonce. PRESUMED, log 165. -/
def spdmChallenge (p : Part) (who slot : Nat) (nonce : List Byte) (s : State) : State :=
  s.spdmAnswer p who 5 3 none true fun s =>
    if slot == 0 then
      let d := Config.sha3 (s.chain p)
      (s, 0, d ++ s.sign p (Config.sha3 (nonce ++ d)))
    else (s, 3, [])

def execSpdmChallenge (p : Part) (who slot : Nat) (nonce : List Byte) (s : State) : Host.Outcome State Fault Refusal :=
  .next (spdmChallenge p who slot nonce s)

/-- One reported block: its index n + 1 and its digest, or the manifest with the raw bit-stream option. -/
def State.reportBlock (s : State) (p : Part) (raw : Bool) (n : Nat) : List Byte :=
  match s.measure p n with
  | none => []
  | some d => leBytes 1 (n + 1) ++ (if raw then (s.manifest p n).getD d else d)

/-- SPDM_GET_MEASUREMENTS (R403): index 0 asks for the number of blocks, 255 for all, n + 1 for block n; the values are those current when the response is signed. -/
def spdmGetMeasurements (p : Part) (who index : Nat) (raw : Bool) (nonce : List Byte) (s : State) : State :=
  s.spdmAnswer p who 6 3 none true fun s =>
    let present := (upTo 8).filter fun n => (s.measure p n).isSome
    let signed (d : List Byte) : List Byte := d ++ s.sign p (Config.sha3 (nonce ++ d))
    if index == 0 then (s, 0, signed [BitVec.ofNat 8 present.length])
    else if index == 255 then (s, 0, signed ((present.map (s.reportBlock p raw)).flatten))
    else if present.contains (index - 1) then (s, 0, signed (s.reportBlock p raw (index - 1)))
    else (s, 3, [])

def execSpdmGetMeasurements (p : Part) (who index : Nat) (raw : Bool) (nonce : List Byte) (s : State) : Host.Outcome State Fault Refusal :=
  .next (spdmGetMeasurements p who index raw nonce s)

/-- SPDM_KEY_EXCHANGE: a handshake begins; the response is signed. -/
def spdmKeyExchange (p : Part) (who : Nat) (exchange : List Byte) (s : State) : State :=
  s.spdmAnswer p who 7 3 none true fun s =>
    let c := slice (Config.kemCipher exchange s.free) 0 1568
    let s := s.drawn
    (s.spdmTo p who 3 1, 0, c ++ s.sign p (Config.sha3 (exchange ++ c)))

def execSpdmKeyExchange (p : Part) (who : Nat) (exchange : List Byte) (s : State) : Host.Outcome State Fault Refusal :=
  .next (spdmKeyExchange p who exchange s)

/-- SPDM_FINISH: the session opens when the requester's verification data is right; otherwise the exchange has failed. PRESUMED, log 165. DEDUCED, log 167. -/
def spdmFinish (p : Part) (who : Nat) (right : Bool) (s : State) : State :=
  s.spdmAnswer p who 8 3 (some 1) true fun s =>
    if right then (s.spdmTo p who 3 2, 0, []) else ((s.spdmTo p who 3 0).count p SEC_EVENTS_SPDM_FAIL, 3, [])

def execSpdmFinish (p : Part) (who : Nat) (right : Bool) (s : State) : Host.Outcome State Fault Refusal := .next (spdmFinish p who right s)

/-- SPDM_END_SESSION. -/
def spdmEndSession (p : Part) (who : Nat) (s : State) : State :=
  s.spdmAnswer p who 9 3 (some 2) true fun s => (s.spdmTo p who 3 0, 0, [])

def execSpdmEndSession (p : Part) (who : Nat) (s : State) : Host.Outcome State Fault Refusal := .next (spdmEndSession p who s)

/-- SPDM_VENDOR_DEFINED: IDE_KM from the host's session starts or stops the IDE stream of CXL.io (0) or of CXL.cachemem (1) at the upstream port; TSP's lock refuses it (R388, R390). DESIGN CHOICE, log 168. -/
def spdmVendorDefined (p : Part) (who : Nat) (ide : Option (Nat × Bool)) (s : State) : State :=
  match ide with
  | none => s.spdmAnswer p who 10 3 none false fun s => (s, 0, [])
  | some (stream, on) =>
    s.spdmAnswer p who 10 3 (some 2) true fun s =>
      if p == .ep || who != 0 then (s, 3, [])
      else if s.tspLocked then (s.refuse .sw pgCxu, 3, [])
      else (s.put .sw (if stream == 0 then CXU_STS_IDE_IO else CXU_STS_IDE_CM) (b2n on), 0, [])

def execSpdmVendorDefined (p : Part) (who : Nat) (ide : Option (Nat × Bool)) (s : State) : Host.Outcome State Fault Refusal :=
  .next (spdmVendorDefined p who ide s)

/-- SPDM_REFUSED_REQUEST: PSK_EXCHANGE, SET_CERTIFICATE and GET_CSR are refused with UnsupportedRequest. -/
def spdmRefusedRequest (p : Part) (who : Nat) (s : State) : State :=
  s.spdmAnswer p who 11 0 none false fun s => (s, 1, [])

def execSpdmRefusedRequest (p : Part) (who : Nat) (s : State) : Host.Outcome State Fault Refusal := .next (spdmRefusedRequest p who s)

end Sys2Proof.Machine
end

