-- ==== Sys2Proof/Machine/Firmware.lean ====
section
/-! DEFINITION. The control complex (R431 to R449): watchdogs, the Treujo mailbox, heartbeat and orphaning, firmware images, staging, activation and confirmation, and the messages of the side-band port. -/

namespace Sys2Proof.Machine

/-- Changes what firmware holds beyond its registers. -/
def State.onFw (s : State) (f : Fw → Fw) : State := { s with sw := { s.sw with fw := f s.sw.fw } }

/-- Stores the state of a control core; SBP.STS.FW_UP shows core 3. -/
def State.setCpu (s : State) (c v : Nat) : State :=
  let s := s.wr .sw MGT_CORE_STS (setBits (s.rd .sw MGT_CORE_STS) (2 * c) 2 v)
  s.when (c == 3) fun s => s.put .sw SBP_STS_FW_UP (b2n (v == 1))

/-- A core pets its watchdog. -/
def State.pet (s : State) (c : Nat) : State :=
  let now := s.now .sw
  s.onFw fun f => { f with pets := insertAt f.pets c now }

/-- A control core runs. -/
def State.cpuRuns (s : State) (c : Nat) : State := (s.setCpu c 1).pet c

/-! ### Images (R441 to R443) -/

/-- The bytes of the image in a slot. -/
def State.image (s : State) (kind slot : Nat) : List Byte := (lookup s.sw.fw.flash (kind * 2 + slot)).getD []

/-- An image's SVN. -/
def imgSvn (i : List Byte) : Nat := natAt i 5 1

/-- An image's interface major version. -/
def imgMajor (i : List Byte) : Nat := natAt i 6 1

/-- An image's highest interface minor version. -/
def imgMinor (i : List Byte) : Nat := natAt i 7 1

/-- An image's VERSION. -/
def imgVersion (i : List Byte) : Nat := natAt i 8 4

/-- An image's supported feature bitmap. -/
def imgFeatures (i : List Byte) : Nat := natAt i 0x50 8

/-- The size of a slot of a kind in bytes (R441). -/
def slotSize (kind : Nat) : Nat := if kind == 1 then 512 * 1024 else if kind == 2 then 12 * 2 ^ 20 else 2 ^ 20

/-- Whether an image is of a kind: MAGIC and KIND (R442). -/
def imgOfKind (i : List Byte) (kind : Nat) : Bool := i.take 4 == asciiBytes "TRJO" && natAt i 4 1 == kind

/-- Whether an image's signer, signature and body are right (R442). -/
def imgSigned (i : List Byte) : Bool :=
  let key := slice i 0x100 2592
  let len := natAt i 0x0C 4
  Config.sha3 key == Config.imageSigner && Config.mldsaVerify key (Config.sha3 (i.take 256)) (slice i 0x0C00 4627)
    && decide (8192 + len ≤ i.length) && Config.sha3 ((i.drop 8192).take len) == slice i 0x10 64

/-- The anti-rollback counter of a kind. -/
def State.fusedSvn (s : State) (kind : Nat) : Nat := (lookup s.sw.fw.fused kind).getD 0

/-- Whether the image in a slot verifies (R442, R443). -/
def State.verifies (s : State) (kind slot : Nat) : Bool :=
  let i := s.image kind slot
  imgOfKind i kind && imgSigned i && s.fusedSvn kind ≤ imgSvn i

/-- The slot marked ACTIVE of a kind. -/
def State.activeSlot (s : State) (kind : Nat) : Nat := (lookup s.sw.fw.active kind).getD 0

/-- The firmware that runs. -/
def State.firmware (s : State) : List Byte := s.runningImage 2

/-- The registers that tell of the firmware that runs and of the one STAGED. -/
def State.showFw (s : State) : State :=
  let i := s.firmware
  let s := (s.put .sw MGT_FW_STS_RUN_SVN (imgSvn i)).put .sw MGT_FW_STS_FUSED_SVN (s.fusedSvn 2)
  let s := (s.put .sw MGT_FW_VER_RUNNING (imgVersion i)).put .sw MGT_CORE_STS_SLOT ((lookup s.sw.fw.running 2).getD 0)
  match lookup s.sw.fw.staged 2 with
  | some k => (s.put .sw MGT_FW_STS_STAGED 1).put .sw MGT_FW_VER_STAGED (imgVersion (s.image 2 k))
  | none => (s.put .sw MGT_FW_STS_STAGED 0).put .sw MGT_FW_VER_STAGED 0

/-- The firmware status changes (R452). -/
def State.fwChanged (s : State) : State := s.showFw.cause .sw pgMgt 4

/-- The state of an activation: 0 NONE, 1 HELD, 2 WAIT_SAFE, 3 RESTARTING, 4 TRIAL, 5 REVERTED. -/
def State.actState (s : State) : Nat := s.get .sw MGT_FW_STS_ACT_STATE

/-- The activation enters a state at this tick. -/
def State.actTo (s : State) (v : Nat) : State :=
  let now := s.now .sw
  ((s.put .sw MGT_FW_STS_ACT_STATE v).onFw fun f => { f with actAt := now }).fwChanged

/-! ### The mailbox (R435, R436) -/

/-- A mailbox command completes. DEDUCED, log 169. -/
def State.mbDone (s : State) (status : Nat) : State :=
  ((s.put .sw MGT_MB_STS_STATUS status).put .sw MGT_MB_STS_BUSY 0).cause .sw pgMgt 2

/-- A word of the request. -/
def State.mbReq (s : State) (k : Nat) : Nat := (s.rd .sw (MGT_MB_REQ.word k)).toNat

/-- Stores a word of the response. -/
def State.mbRsp (s : State) (k v : Nat) : State := s.wr .sw (MGT_MB_RSP.word k) (BitVec.ofNat 64 v)

/-- Whether a session is in force. -/
def State.inSession (s : State) : Bool := s.flag .sw MGT_HB_STS_ARMED

/-! ### Staging -/

/-- A staging ends: its outcome, and whoever asked for it is told (R444). -/
def State.stageEnd (s : State) (status : Nat) : State :=
  let who := s.sw.fw.staging.map (·.1)
  let s := s.onFw fun f => { f with staging := none }
  let s := ((s.put .sw MGT_FW_STS_STAGE_BUSY 0).put .sw MGT_FW_STS_STAGE_STATUS status).fwChanged
  match who with
  | some 0 => s.mbDone status
  | some _ => s.emit (.pldm 2 (if status == stOK then 0 else 3) [status])
  | none => s

/-! ### Watchdogs (R431 to R434) -/

/-- The tack-up attempts in stages 1 to 4 are abandoned, not counted, and begin again at stage 1 (R431). -/
def State.abandonTacks (s : State) : State :=
  (s.portList .sw).foldl (fun s n =>
    let st := s.stage .sw n
    if 1 ≤ st && st ≤ 4 then (s.lanesTo .sw n (s.allLanes .sw n) 0).startTack .sw n else s) s

/-- What a core leaves undone when it is reset: its commands in progress complete RETRY with DETAIL 0 (R431, R432). -/
def State.cpuLeaves (s : State) (c : Nat) : State :=
  if c == 0 then s.abandonTacks
  else if c == 1 then
    match s.sw.hrd.running with
    | some (_, i) => (s.onHerd i fun h => { h with ending := 0 }).hrdDone stRETRY 0
    | none => s
  else if c == 3 then
    if s.sw.fw.staging.isSome then s.stageEnd stRETRY
    else if s.flag .sw MGT_MB_STS_BUSY then s.mbDone stRETRY else s
  else s

/-- The session after the control cores have come up in another image (R446): the agreed bitmap shrinks to what the image supports, or the session ends and the heartbeat windows count from now. -/
def State.takeOver (s : State) : State :=
  let i := s.firmware
  let now := s.now .sw
  if !s.inSession then s
  else if imgMajor i == s.sw.fw.major then
    (s.wr .sw MGT_FEAT (s.rd .sw MGT_FEAT &&& BitVec.ofNat 64 (imgFeatures i))).cause .sw pgMgt 3
  else
    let s := (s.wr .sw MGT_FEAT 0).put .sw MGT_HB_STS_ARMED 0
    let s := s.put .sw MGT_HB_STS_MISSES 0
    let len := s.get .sw MGT_HB_CFG_PERIOD
    s.onFw fun f => { f with beats := some (now, len, false) }

/-- The firmware that runs has changed: block 2 and the identity key change, and with them block 7; SPDM sessions end (R404, R445). DEDUCED, log 177. -/
def State.firmwareMeasured (s : State) : State :=
  let s := s.deriveIdentity .sw
  let s := s.onChip .sw fun c => { c with spdm := mapVals (fun _ v => (v.1, 0)) c.spdm }
  (s.attested .sw 2).attested .sw 7

/-- All four control cores restart. -/
def State.cpusRestart (s : State) : State := (upTo 4).foldl (fun s c => (s.cpuLeaves c).setCpu c 2) s

/-- The switch reverts (R447): the trial images are no longer STAGED, and the control cores restart into the previous ACTIVE firmware. DEDUCED, log 172. -/
def State.revert (s : State) : State :=
  let firm := s.actState == 3 || s.actState == 4
  let tried := s.actState == 4
  let ran := lookup s.sw.fw.running 2
  let old := s.activeSlot 2
  let gone := s.sw.fw.trials.map (·.1)
  let s := s.onFw fun f => { f with trials := [], slips := 0, staged := keepIf (fun k _ => !gone.contains k && !(firm && k == 2)) f.staged }
  if firm then
    let s := s.onFw fun f => { f with running := insertAt f.running 2 old }
    let s := s.cpusRestart
    let s := s.when (ran != some old) State.firmwareMeasured
    let s := s.when (tried && ran != some old) State.takeOver
    s.actTo 5
  else s.fwChanged

/-- An expiry is recorded: the core and the tick; of two in one tick the higher core number stays (R433). -/
def State.wdtEvent (s : State) (c : Nat) : State :=
  let t := s.now .sw % 2 ^ 32
  let same := s.get .sw MGT_WDT_EVT_TICK == t && s.get .sw MGT_WDT_EVT_COUNT != 0
  let s := s.count .sw MGT_WDT_EVT_COUNT
  (s.put .sw MGT_WDT_EVT_LAST_CORE (if same then max c (s.get .sw MGT_WDT_EVT_LAST_CORE) else c)).put .sw MGT_WDT_EVT_TICK t

/-- The images in trial are confirmed (R447): marked ACTIVE, their counters advance. DEDUCED, log 170, 172. -/
def State.confirm (s : State) : State :=
  let firm := s.actState == 4
  let ks := s.sw.fw.trials.map (·.1)
  let s := ks.foldl (fun s k =>
    let slot := (lookup s.sw.fw.running k).getD 0
    let svn := max (s.fusedSvn k) (imgSvn (s.image k slot))
    s.onFw fun f => { f with active := insertAt f.active k slot, fused := insertAt f.fused k svn, staged := removeAt f.staged k }) s
  let s := s.onFw fun f => { f with trials := [], slips := 0 }
  if firm then s.actTo 0 else s.fwChanged

/-- TRIAL_CONFIRM_TIMER (R447): 60 s without an expiry, unless confirmation is by command only. DEDUCED, log 172. -/
def trialConfirmTimer (s : State) : State :=
  if !s.flag .sw MGT_FW_CFG_MANUAL_CONFIRM && !s.sw.fw.trials.isEmpty
    && s.sw.fw.trials.all fun t => s.due .sw t.2 10500000000 then s.confirm else s

def execTrialConfirmTimer (s : State) : Host.Outcome State Fault Refusal := .next (trialConfirmTimer s)

/-- Whether a control core that runs has not been petted in time (R433). -/
def State.wdtLate (s : State) (c : Nat) : Bool :=
  c < 4 && s.cpuUp c && s.due .sw ((lookup s.sw.fw.pets c).getD 0) (s.get .sw MGT_WDT_CFG_TIMEOUT)

/-- WATCHDOG_EXPIRY (R433, R447): of a control core that has not been petted for TIMEOUT ticks; a trial whose time has passed is confirmed first (R13). -/
def watchdogExpiry (c : Nat) (s : State) : State :=
  let now := s.now .sw
  if !s.wdtLate c then s
  else
    let s := (trialConfirmTimer s).wdtEvent c
    let recent := ((lookup s.sw.fw.expiries c).getD []).filter fun t => now < t + 175000000
    let s := s.onFw fun f => { f with expiries := insertAt f.expiries c (recent ++ [now]) }
    let s := s.cpuLeaves c
    if 2 ≤ recent.length && s.sw.fw.trials.isEmpty then
      ((s.setCpu c 3).event .sw pgMgt .coreHalt c).cause .sw pgMgt 1
    else
      let s := ((s.setCpu c 2).event .sw pgMgt .wdtRestart c).cause .sw pgMgt 0
      if s.sw.fw.trials.isEmpty then s
      else if 1 ≤ s.sw.fw.slips then s.revert
      else s.onFw fun f => { f with slips := f.slips + 1, trials := mapVals (fun _ _ => now) f.trials }

def execWatchdogExpiry (c : Nat) (s : State) : Host.Outcome State Fault Refusal := .next (watchdogExpiry c s)

/-- WDT_PET (R452): a write of WDT_PET by a core; only its own bit counts, and a pet at the expiry or later comes too late (R13). -/
def wdtPet (c mask : Nat) (s : State) : State :=
  if s.wdtLate c then watchdogExpiry c s
  else if c < 4 && mask.testBit c && s.cpuUp c then s.pet c else s

def execWdtPet (c mask : Nat) (s : State) : Host.Outcome State Fault Refusal := .next (wdtPet c mask s)

/-- SEC_WATCHDOG_EXPIRY (R434): the security core is halted. DEDUCED, log 173. -/
def secWatchdogExpiry (p : Part) (s : State) : State :=
  if s.secHalted p then s
  else match p with
    | .sw =>
      if s.get .sw MGT_CORE_STS_SECURITY == 1 then
        ((s.put .sw MGT_CORE_STS_SECURITY 3).wdtEvent 4).event .sw pgSec .secCoreHalt (sev := some 3)
      else s
    | .ep =>
      if s.epc.inReset || s.epc.step < 3 then s
      else ({ s with ep := { s.ep with secHalted := true } }).event .ep pgSec .secCoreHalt (sev := some 4)

def execSecWatchdogExpiry (p : Part) (s : State) : Host.Outcome State Fault Refusal := .next (secWatchdogExpiry p s)

/-- CORE_RESTART_DONE (R433): a control core resumes its tasks from the state held in hardware. -/
def coreRestartDone (c : Nat) (s : State) : State :=
  if c < 4 && s.cpuState c == 2 && s.actState != 3 then
    let s := s.cpuRuns c
    if c == 0 then s.abandonTacks else s
  else s

def execCoreRestartDone (c : Nat) (s : State) : Host.Outcome State Fault Refusal := .next (coreRestartDone c s)

/-! ### Sessions, heartbeat, orphaning (R437 to R440) -/

/-- The contexts of the host: VALID with HOST set. -/
def State.hostCtxs (s : State) : List Nat :=
  (upTo 1024).filter fun c => s.flag .sw CTX_ENTRY_VALID (c + 1) && s.flag .sw CTX_ENTRY_HOST (c + 1)

/-- The host is orphaned (R439): the session ends; its contexts are orphaned, their running herds abort with FENCED, and the host slot is recalled. -/
def State.orphanHost (s : State) : State :=
  let cs := s.hostCtxs
  let now := s.now .sw
  let s := (s.wr .sw MGT_FEAT 0).put .sw MGT_HB_STS_ARMED 0
  let s := ((s.put .sw MGT_HB_STS_MISSES 0).put .sw MGT_HB_STS_ORPHANED 1).onFw fun f => { f with beats := none }
  let s := cs.foldl (fun s c => if s.orphaned c then s else (s.put .sw CTX_STS_ORPHANED 1 (c + 1)).put .sw CTX_STS_QUIESCED 0 (c + 1)) s
  let s := s.abortHerds rsFENCED fun _ h => cs.contains h.ctx
  match s.hostSlot with
  | some i =>
    if s.slotState i == 1 then (s.onPool fun p => { p with recalls := insertAt p.recalls i (now, 2) }).settle else s
  | none => s

/-- One heartbeat window closes (R438). -/
def State.windowClose (s : State) : State :=
  match s.sw.fw.beats with
  | some (t, len, beat) =>
    if !s.due .sw t len then s
    else
      let next := s.get .sw MGT_HB_CFG_PERIOD
      let s := s.onFw fun f => { f with beats := some (t + len, next, false) }
      if beat then s.put .sw MGT_HB_STS_MISSES 0
      else if 2 ≤ s.get .sw MGT_HB_STS_MISSES then s.orphanHost
      else s.put .sw MGT_HB_STS_MISSES (s.get .sw MGT_HB_STS_MISSES + 1)
  | none => s

/-- HB_WINDOW_CLOSE (R438). -/
def execHbWindowClose (s : State) : Host.Outcome State Fault Refusal := .next s.windowClose

/-- The windows that have ended by this tick close first (R13). -/
def State.hbFresh (s : State) : State := s.windowClose.windowClose.windowClose.windowClose

/-- A write of MGT.HB (R438). -/
def State.beatW (s : State) (id : Nat) : Written :=
  let s := s.hbFresh
  if s.inSession && id == s.get .sw MGT_HB_STS_SESSION then
    (s.onFw fun f => { f with beats := f.beats.map fun b => (b.1, b.2.1, true) }, true)
  else (s.count .sw MGT_HB_STS_BAD, true)

/-- A beat that does not come by the host BAR is counted (R438). -/
def State.strayBeat (s : State) (path : Path) (p : Part) (page off : Nat) : State :=
  s.when (p == .sw && page == pgMgt && off == 0x58 && path != .host && path != .csr && (path != .sideband || s.mainServes)) fun s =>
    s.count .sw MGT_HB_STS_BAD

/-- HB_BEAT (R438): a beat from any path but the host BAR is ignored and counted. -/
def hbBeat (path : Path) (id : Nat) (s : State) : State :=
  if path == .host then s.writeBy path .sw pgMgt 0x58 fun s => s.beatW id
  else (s.strayBeat path .sw pgMgt 0x58).writeBy path .sw pgMgt 0x58 fun s => (s, false)

def execHbBeat (path : Path) (id : Nat) (s : State) : Host.Outcome State Fault Refusal := .next (hbBeat path id s)

/-- HELLO (R437): agrees a minor version and a bitmap, and opens the next session; a session in force is replaced without a change of its windows. DEDUCED, log 175. -/
def State.doHello (s : State) : State :=
  let i := s.firmware
  let major := bitsOf (s.mbReq 0) 16 16
  let minor := bitsOf (s.mbReq 0) 0 16
  if major != imgMajor i then ((s.mbRsp 0 (imgMinor i + imgMajor i * 2 ^ 16)).mbDone stUNSUPPORTED)
  else
    let id := (s.sw.fw.session + 1) % 2 ^ 32
    let agreed := s.mbReq 1 &&& imgFeatures i
    let live := s.inSession
    let now := s.now .sw
    let len := s.get .sw MGT_HB_CFG_PERIOD
    let s := s.onFw fun f => { f with session := id, major := major, beats := if live then f.beats else some (now, len, false) }
    let s := (s.wr .sw MGT_FEAT (BitVec.ofNat 64 agreed)).put .sw MGT_HB_STS_SESSION id
    let s := s.put .sw MGT_HB_STS_ARMED 1
    let s := s.when (!live) fun s => (s.put .sw MGT_HB_STS_MISSES 0).put .sw MGT_HB_STS_ORPHANED 0
    (((s.mbRsp 0 (min minor (imgMinor i) + major * 2 ^ 16)).mbRsp 1 agreed).mbRsp 2 id).mbDone stOK

/-- GOODBYE (R438). -/
def State.doGoodbye (s : State) : State := s.orphanHost.mbDone stOK

/-- The contexts that CTX_RECLAIM and CTX_RESET name, those that are not orphaned skipped; none for a context that is not the host's or not bound. -/
def State.reclaimList (s : State) : Option (List Nat) :=
  let hs := s.hostCtxs
  let c := bitsOf (s.mbReq 0) 0 10
  if (s.mbReq 0).testBit 10 then some (hs.filter s.orphaned)
  else if hs.contains c then some (if s.orphaned c then [c] else [])
  else none

/-- Brings contexts back (R440); `reset` destroys their herds and unloads their programs first. -/
def State.reclaim (s : State) (reset : Bool) : State :=
  match s.reclaimList with
  | none => s.mbDone stPERMISSION
  | some cs =>
    if cs.any fun c => !s.flag .sw CTX_STS_QUIESCED (c + 1) then s.mbDone stRETRY
    else
      let s := s.when reset fun s =>
        let mine := s.sw.hrd.herds.filter fun e => cs.contains e.2.ctx
        let s := mine.foldl (fun s e => s.endHerd e.1) s
        let some' := s.sw.svc.progs.any fun e => cs.contains e.2.ctx
        let s := s.onSvc fun v => { v with progs := keepIf (fun _ (g : Prog) => !cs.contains g.ctx) v.progs }
        s.when some' fun s => s.attested .sw 5
      let s := cs.foldl (fun s c => s.wr .sw CTX_STS 0 (c + 1)) s
      (s.mbRsp 0 cs.length).mbDone stOK

/-- Whether a context has a request in flight at the switch (R439). -/
def State.ctxBusy (s : State) (c : Nat) : Bool :=
  (s.sw.pool.queue.any fun r => r.members.any fun m => match m.asker with
    | .host _ _ => s.get .sw PTN_ENTRY_HOST_CTX (r.ptn + 1) == c
    | .fabric => m.pkt.ctx == c
    | _ => false)
  || (s.sw.pool.gathers.any fun g => g.pkt.ctx == c)
  || s.swc.sync.waits.any fun w => match w.who with
    | .remote k => k.ctx == c
    | .own _ _ => false

/-- CONTEXT_QUIESCE (R439): no herd of the contexts is RUNNING or ABORTING, no request of theirs is in flight, and the recall of the host slot has ended. -/
def contextQuiesce (s : State) : State :=
  let cs := s.hostCtxs.filter s.orphaned
  let herds := s.sw.hrd.herds.any fun e => cs.contains e.2.ctx && e.2.state != 1
  let recalling := s.hostSlot.any fun i => (lookup s.sw.pool.recalls i).isSome
  if herds || recalling || cs.any s.ctxBusy then s
  else cs.foldl (fun s c => s.put .sw CTX_STS_QUIESCED 1 (c + 1)) s

def execContextQuiesce (s : State) : Host.Outcome State Fault Refusal := .next (contextQuiesce s)

/-! ### Activation and confirmation (R445 to R447) -/

/-- An activation is asked for: the status that the requester sees. DEDUCED, log 170, 171. -/
def State.activate (s : State) : State × Nat :=
  let a := s.actState
  if a != 0 && a != 5 then (s, stRETRY)
  else if (lookup s.sw.fw.staged 2).isNone then (s, stUNSUPPORTED)
  else if s.get .sw PWR_STS_LEVEL != 0 then (s.actTo 1, stHELD)
  else (s.actTo 2, stOK)

/-- An activation is cancelled in HELD or WAIT_SAFE, and refused in RESTARTING or TRIAL. DEDUCED, log 170, 171. -/
def State.cancelAct (s : State) : State × Nat :=
  let a := s.actState
  if a == 1 || a == 2 then (s.actTo 0, stOK)
  else if a == 3 || a == 4 then (s, stRETRY)
  else (s, stOK)

/-- ACTIVATION_P0_WAIT_EXPIRY (R445): P0 has stayed for 175,000,000 ticks since it was entered. -/
def activationP0WaitExpiry (s : State) : State :=
  if s.actState == 1 && s.get .sw PWR_STS_LEVEL == 0 && s.due .sw s.sw.core.p0From 175000000 then s.actTo 2 else s

def execActivationP0WaitExpiry (s : State) : Host.Outcome State Fault Refusal := .next (activationP0WaitExpiry s)

/-- Whether no command is in progress and no port is in stages 2 to 4. -/
def State.safePoint (s : State) : Bool :=
  !s.flag .sw HRD_CMD_STS_BUSY && !s.flag .sw SVC_CMD_STS_BUSY && !s.flag .sw MGT_MB_STS_BUSY && s.sw.fw.staging.isNone
    && (s.portList .sw).all fun n => let st := s.stage .sw n; st < 2 || 4 < st

/-- SAFE_POINT_TIMEOUT (R445): 175,000,000 ticks in WAIT_SAFE. -/
def safePointTimeout (s : State) : State :=
  if s.actState == 2 && s.due .sw s.sw.fw.actAt 175000000 then s.actTo 1 else s

def execSafePointTimeout (s : State) : Host.Outcome State Fault Refusal := .next (safePointTimeout s)

/-- The firmware STAGED becomes the one that runs. -/
def State.runStaged (s : State) : State :=
  match lookup s.sw.fw.staged 2 with
  | some slot => s.onFw fun f => { f with running := insertAt f.running 2 slot }
  | none => s

/-- SAFE_POINT_REACHED (R404, R445): the control cores reset into the new image, which the security core measures, unless the time for it has run out (R13). DEDUCED, log 177. -/
def safePointReached (s : State) : State :=
  let s := safePointTimeout s
  if s.actState == 2 && s.safePoint then (s.cpusRestart.runStaged.firmwareMeasured).actTo 3 else s

def execSafePointReached (s : State) : Host.Outcome State Fault Refusal := .next (safePointReached s)

/-- The ports tack up after a recovery has ended, where start-up has reached step 10. -/
def State.tackAll (s : State) : State :=
  (s.portList .sw).foldl (fun s n => if s.stage .sw n == 0 then s.startTack .sw n else s) s

/-- IMAGE_RESTART_DONE (R445, R446): the new image runs on all four cores, and its trial begins. -/
def imageRestartDone (s : State) : State :=
  if s.actState != 3 then s
  else if s.due .sw s.sw.fw.actAt 175000000 then s.revert
  else match lookup s.sw.fw.staged 2 with
    | some _ =>
      let now := s.now .sw
      let s := s.onFw fun f => { f with trials := insertAt f.trials 2 now, slips := 0 }
      let s := (upTo 4).foldl State.cpuRuns s
      let s := s.put .sw MGT_CORE_STS_RECOVERY 0
      let s := s.takeOver.actTo 4
      s.tackAll.abandonTacks
    | none => s

def execImageRestartDone (s : State) : Host.Outcome State Fault Refusal := .next (imageRestartDone s)

/-- IMAGE_RESTART_TIMEOUT (R447): the image does not run within 175,000,000 ticks of RESTARTING. -/
def imageRestartTimeout (s : State) : State :=
  if s.actState == 3 && s.due .sw s.sw.fw.actAt 175000000 then s.revert else s

def execImageRestartTimeout (s : State) : Host.Outcome State Fault Refusal := .next (imageRestartTimeout s)

/-- A write of CONFIRM confirms an image in trial and is ignored otherwise (R452). -/
def State.confirmW (s : State) : Written := (if s.sw.fw.trials.isEmpty then s else s.confirm, true)

/-- FW_CONFIRM_WRITE (R447): from the side-band. -/
def fwConfirmWrite (s : State) : State := s.writeBy .sideband .sw pgMgt 0x98 State.confirmW

def execFwConfirmWrite (s : State) : Host.Outcome State Fault Refusal := .next (fwConfirmWrite s)

/-! ### Mailbox commands -/

/-- The feature bit that a command needs (R436). -/
def mbFeature (op : Nat) : Option Nat :=
  if op == 3 || op == 4 then some 0 else if 0x10 ≤ op && op ≤ 0x13 then some 1 else none

/-- FW_STAGE (R444): one staging at a time. DEDUCED, log 169, 170. -/
def State.doStage (s : State) : State :=
  if s.sw.fw.staging.isSome then s.mbDone stRETRY
  else
    let len := bitsOf (s.mbReq 1) 0 32
    let s := s.onFw fun f => { f with staging := some (0, len) }
    ((s.put .sw MGT_FW_STS_STAGE_BUSY 1).put .sw MGT_MB_STS_BUSY 1).fwChanged

/-- A mailbox command of the host: ignored and recorded while one runs; UNSUPPORTED before a session, without its feature bit, or when the opcode is none; RETRY when core 3 takes no command, which in WAIT_SAFE holds of every command but FW_CANCEL (R432, R445). DEDUCED, log 112, 169. -/
def State.mailbox (s : State) (op : Nat) : Written :=
  if s.flag .sw MGT_MB_STS_BUSY then s.refused .sw pgMgt
  else
    let s := s.hbFresh
    let s := (upTo 16).foldl (fun s k => s.mbRsp k 0) s
    if !s.cpuServes 3 && !(op == 0x12 && s.cpuUp 3) then (s.mbDone stRETRY, true)
    else if op == 1 then (s.doHello, true)
    else if !s.inSession then (s.mbDone stUNSUPPORTED, true)
    else if (mbFeature op).any fun b => !(s.rd .sw MGT_FEAT).getLsbD b then (s.mbDone stUNSUPPORTED, true)
    else if op == 2 then (s.doGoodbye, true)
    else if op == 3 then (s.reclaim false, true)
    else if op == 4 then (s.reclaim true, true)
    else if op == 0x10 then (s.doStage, true)
    else if op == 0x11 then
      let r := s.activate
      (r.1.mbDone r.2, true)
    else if op == 0x12 then
      let r := s.cancelAct
      (r.1.mbDone r.2, true)
    else if op == 0x13 then (if s.sw.fw.trials.isEmpty then s.mbDone stUNSUPPORTED else s.confirm.mbDone stOK, true)
    else (s.mbDone stUNSUPPORTED, true)

/-- A write of MGT.MB_CMD from the host BAR. -/
def State.mbWrite (s : State) (op : Nat) : State := s.writeBy .host .sw pgMgt 0x80 fun s => s.mailbox op

/-- HELLO. -/
def hello (s : State) : State := s.mbWrite 0x01

def execHello (s : State) : Host.Outcome State Fault Refusal := .next (hello s)

/-- GOODBYE. -/
def goodbye (s : State) : State := s.mbWrite 0x02

def execGoodbye (s : State) : Host.Outcome State Fault Refusal := .next (goodbye s)

/-- CTX_RECLAIM. -/
def ctxReclaim (s : State) : State := s.mbWrite 0x03

def execCtxReclaim (s : State) : Host.Outcome State Fault Refusal := .next (ctxReclaim s)

/-- CTX_RESET. -/
def ctxReset (s : State) : State := s.mbWrite 0x04

def execCtxReset (s : State) : Host.Outcome State Fault Refusal := .next (ctxReset s)

/-- FW_STAGE. -/
def fwStage (s : State) : State := s.mbWrite 0x10

def execFwStage (s : State) : Host.Outcome State Fault Refusal := .next (fwStage s)

/-- FW_ACTIVATE. -/
def fwActivate (s : State) : State := s.mbWrite 0x11

def execFwActivate (s : State) : Host.Outcome State Fault Refusal := .next (fwActivate s)

/-- FW_CANCEL. -/
def fwCancel (s : State) : State := s.mbWrite 0x12

def execFwCancel (s : State) : Host.Outcome State Fault Refusal := .next (fwCancel s)

/-- FW_CONFIRM. -/
def fwConfirm (s : State) : State := s.mbWrite 0x13

def execFwConfirm (s : State) : Host.Outcome State Fault Refusal := .next (fwConfirm s)

/-- STAGING_DONE (R442 to R444): the image as it was read has been written to the inactive slot of its kind, and verified. -/
def stagingDone (img : List Byte) (s : State) : State :=
  match s.sw.fw.staging with
  | none => s
  | some (_, len) =>
    if s.secHalted .sw then s
    else
      let kind := natAt img 4 1
      let s := s.put .sw MGT_FW_STS_STAGED_KIB (ceilDiv img.length 1024)
      if kind == 0 || 3 < kind || img.take 4 != asciiBytes "TRJO" || slotSize kind < max img.length len then s.stageEnd stUNSUPPORTED
      else if (lookup s.sw.fw.trials kind).isSome || (kind == 2 && 1 ≤ s.actState && s.actState ≤ 4) then s.stageEnd stRETRY
      else
        let slot := 1 - s.activeSlot kind
        let s := s.onFw fun f => { f with flash := insertAt f.flash (kind * 2 + slot) img, staged := removeAt f.staged kind }
        if !imgSigned img then s.stageEnd stINTEGRITY
        else if imgSvn img < s.fusedSvn kind then s.stageEnd stPERMISSION
        else (s.onFw fun f => { f with staged := insertAt f.staged kind slot }).stageEnd stOK

def execStagingDone (img : List Byte) (s : State) : Host.Outcome State Fault Refusal := .next (stagingDone img s)

/-! ### The side-band port (R448, R449) -/

/-- Whether core 3, or the loader in recovery, serves PLDM; otherwise the outcome: refused with the main rails off, ERROR_NOT_READY. -/
def State.pldmServes (s : State) (loader : Bool) : Option Nat :=
  if !s.mainServes then some 3
  else if s.cpuServes 3 || (loader && s.flag .sw MGT_CORE_STS_RECOVERY) then none
  else some 1

/-- A PLDM request on the side-band port. DESIGN CHOICE, log 178. -/
def State.pldmReq (s : State) (req : Nat) (loader : Bool) (f : State → State) : State :=
  if !s.swc.standbyUp then s
  else
    let s := s.sbMessage
    match s.pldmServes loader with
    | some c => s.emit (.pldm req c [])
    | none => f s

/-- PLDM_FW_UPDATE (R444): the BMC asks to stage an image of a length. -/
def pldmFwUpdate (len : Nat) (s : State) : State :=
  s.pldmReq 2 true fun s =>
    if s.sw.fw.staging.isSome then s.emit (.pldm 2 2 [])
    else ((s.onFw fun f => { f with staging := some (1, len) }).put .sw MGT_FW_STS_STAGE_BUSY 1).fwChanged

def execPldmFwUpdate (len : Nat) (s : State) : Host.Outcome State Fault Refusal := .next (pldmFwUpdate len s)

/-- PLDM_ACTIVATE_FIRMWARE (R445). -/
def pldmActivateFirmware (s : State) : State :=
  s.pldmReq 3 true fun s =>
    let r := s.activate
    r.1.emit (.pldm 3 (if r.2 == stOK || r.2 == stHELD then 0 else 3) [r.2])

def execPldmActivateFirmware (s : State) : Host.Outcome State Fault Refusal := .next (pldmActivateFirmware s)

/-- PLDM_CANCEL_UPDATE (R445): core 3 takes it in WAIT_SAFE too. DEDUCED, log 171. -/
def pldmCancelUpdate (s : State) : State :=
  let cancel (s : State) : State :=
    let r := s.cancelAct
    r.1.emit (.pldm 4 (if r.2 == stOK then 0 else 3) [r.2])
  if s.swc.standbyUp && s.mainServes && s.cpuUp 3 then cancel s.sbMessage else s.pldmReq 4 true cancel

def execPldmCancelUpdate (s : State) : Host.Outcome State Fault Refusal := .next (pldmCancelUpdate s)

/-- I3C_ADDRESS_ASSIGN (R448): ENTDAA or SETDASA; the port runs as an I3C target while I3C_EN is set. -/
def i3cAddressAssign (addr : Nat) (s : State) : State :=
  if s.swc.standbyUp && s.flag .sw SBP_CFG_I3C_EN then (s.put .sw SBP_STS_MODE 2).put .sw SBP_STS_DYN_ADDR addr else s

def execI3cAddressAssign (addr : Nat) (s : State) : Host.Outcome State Fault Refusal := .next (i3cAddressAssign addr s)

/-- MCTP_CONTROL (R449): an MCTP control or PLDM base message; one with a bad PEC, length or sequence is dropped. DESIGN CHOICE, log 178. -/
def mctpControl (intact : Bool) (s : State) : State :=
  if !s.swc.standbyUp then s
  else if intact then s.sbMessage.emit (.pldm 0 0 [])
  else s.count .sw SBP_COUNTS_ERRORS

def execMctpControl (intact : Bool) (s : State) : Host.Outcome State Fault Refusal := .next (mctpControl intact s)

/-- PLDM_MONITORING (R449, R485): the trip; with the main side up the hottest sensor, the draw, the throttle level and the state of every port. -/
def pldmMonitoring (s : State) : State :=
  if !s.swc.standbyUp then s
  else
    let s := s.sbMessage
    let trip := b2n s.swc.tripLow
    if !s.mainServes then s.emit (.pldm 1 0 [trip])
    else if s.cpuServes 3 || s.flag .sw MGT_CORE_STS_RECOVERY then
      s.emit (.pldm 1 0 ([trip, s.get .sw PWR_TEMP_DIE_MAX, s.get .sw PWR_DRAW_NOW, s.get .sw PWR_STS_LEVEL]
        ++ (s.portList .sw).map s.portState))
    else s.emit (.pldm 1 1 [])

def execPldmMonitoring (s : State) : Host.Outcome State Fault Refusal := .next (pldmMonitoring s)

end Sys2Proof.Machine
end

