-- ==== Sys2Proof/Machine/Reset.lean ====
section
/-! DEFINITION. Rails, resets and start-up (R19, R20, R24, R464, R469, R476 to R479, R485, R487 to R490, R517 to R521), the clock monitor, the die sensors, and the test port (R530, R531). -/

namespace Sys2Proof.Machine

/-! ### What a reset keeps (R487, R503) -/

/-- The page of a register key, its instance counted in. -/
def keyPage (k : Nat) : Nat := k / 4096 % 4096 + k / 2 ^ 48

/-- The offset of a register key. -/
def keyOff (k : Nat) : Nat := k % 4096

/-- Whether a key names a register. -/
def isReg (r : Reg) (k : Nat) : Bool := k % 2 ^ 24 == r.page * 4096 + r.off

/-- The registers fixed or fused: GLB.ID and the lifecycle. GLB.SERIAL is a constant of the part. -/
def State.fixedRegs (s : State) (p : Part) : RegFile :=
  let c := (s.chip p).regs
  let f : RegFile := RegFile.write [] GLB_ID 0 0 (c.read GLB_ID 0 0)
  f.write SEC_STS 0 0 (c.read SEC_STS 0 0 &&& 3)

/-- Copies bits of a register into a file. -/
def copyReg (r : Reg) (mask : Word) (old f : RegFile) : RegFile :=
  f.write r 0 0 ((old.read r 0 0 &&& mask) ||| (f.read r 0 0 &&& ~~~mask))

/-- The same for a register of a page instance. -/
def copyInst (r : Reg) (n : Nat) (mask : Word) (old f : RegFile) : RegFile :=
  f.write r 0 n ((old.read r 0 n &&& mask) ||| (f.read r 0 n &&& ~~~mask))

/-- The registers of the switch's standby domain. -/
def standbyKey (k : Nat) : Bool := keyPage k == pgSbp || isReg ERR_LOG_STS k

/-- The registers that a warm reset keeps beside the fixed ones: the RWS fields, the straps, the standby domain; on the endpoint the link mode and the log's drop count. DEDUCED, log 42. -/
def warmKey (p : Part) (k : Nat) : Bool :=
  match p with
  | .sw => standbyKey k || isReg RST_CAUSE k || isReg RST_STRAPS k || isReg MGT_WDT_EVT k || isReg GLB_SWITCH_GROUP k || isReg GLB_LAYOUT k
      || (pgRdc ≤ keyPage k && keyPage k < pgRdc + 64 && keyOff k == RDC_FENCE_REC.off)
  | .ep => isReg ERR_LOG_STS k

/-- The registers after a cold reset: fixed ones, SB_ADDR and the static address, and the levels of the pins. -/
def State.coldRegs (s : State) (p : Part) : RegFile :=
  let old := (s.chip p).regs
  let f := s.fixedRegs p
  match p with
  | .sw => copyReg RST_STRAPS 0x38 old (copyReg SBP_STS 0xFE00 old (copyReg PWR_STS 0xF0 old f))
  | .ep => f

/-- The registers after a warm reset. DEDUCED, log 42. -/
def State.warmRegs (s : State) (p : Part) : RegFile :=
  let old := (s.chip p).regs
  let kept := keepIf (fun k _ => warmKey p k) old
  let f := (s.fixedRegs p).foldl (fun m e => insertAt m e.1 e.2) kept
  match p with
  | .sw => copyReg PWR_STS 0xF0 old ((upTo 6).foldl (fun f n => copyInst HBM_SPARES n 0xFFFF old f) f)
  | .ep => copyReg EPC_ID 0x1C0000 old (copyReg GLB_STS 1 old f)

/-- A part's half after a reset: the step at which start-up begins, and whether it waits in reset. -/
def State.resetChip (s : State) (p : Part) (regs : RegFile) (cold held : Bool) (step : Nat) : State :=
  s.onChip p fun c =>
    { c with regs := regs, ltc := if cold then 0 else c.ltc, log := if cold then [] else c.log, ports := [], pageResets := [],
             sync := {}, spdm := [], idSeed := [], cdi1 := [], holdover := none, inReset := held, step := step, startHeld := false }

/-- What lies outside the registers and outlives a reset: the flash and its boot marks, the fuses, the devices that stand at the downstream ports, a thermal alert in progress; the serial numbers of the devices until a cold reset (R393). DEDUCED, log 38. -/
def State.resetSw (s : State) (cold : Bool) : State :=
  let f := s.sw.fw
  let d := s.sw.dct
  { s with sw := { fw := { flash := f.flash, active := f.active, staged := f.staged, fused := f.fused },
                   dct := { opKeys := d.opKeys, image := d.image }, cxl := { devices := s.sw.cxl.devices },
                   pool := { serials := if cold then [] else s.sw.pool.serials },
                   core := { thermFrom := s.sw.core.thermFrom } } }

/-- The hidden state of a part after a reset. -/
def State.resetHidden (s : State) (p : Part) (cold : Bool) : State :=
  match p with
  | .sw => s.resetSw cold
  | .ep => { s with ep := {} }

/-- The first step of start-up (R488, R490). DEDUCED, log 41. -/
def firstStep : Part → Nat
  | .sw => 3
  | .ep => 1

/-- The register that shows the step of start-up. -/
def State.toStep (s : State) (p : Part) (n : Nat) : State :=
  let s := s.onChip p fun c => { c with step := n }
  s.when (p == .sw) fun s => s.put .sw RST_STS_STEP n

/-- A cold reset: the part waits for the release of reset (R487, R519). DEDUCED, log 41. -/
def State.coldReset (s : State) (p : Part) : State :=
  let s := s.emit (.silence p)
  let regs := s.coldRegs p
  let s := (s.resetChip p regs true true (firstStep p)).resetHidden p true
  s.when (p == .sw) fun s => s.put .sw SBP_STS_MAIN_UP (b2n s.swc.mainUp)

/-- A warm reset: start-up begins at step 4, on the endpoint at its fuse load; the group and the layout stored come into force (R487, R512). DEDUCED, log 41. -/
def State.warmReset (s : State) (p : Part) (cause : Nat) : State :=
  let s := s.emit (.silence p)
  match p with
  | .sw =>
    let s := s.hostDown 0
    let regs := s.warmRegs .sw
    let s := ((s.resetChip .sw regs false false 4).resetSw false).toStep .sw 4
    let s := (s.put .sw RST_CAUSE_LAST cause).count .sw RST_CAUSE_WARM_COUNT
    let s := s.put .sw RST_STS_LAST_LEVEL 1
    let s := (s.put .sw GLB_SWITCH_GROUP_ACTIVE (s.get .sw GLB_SWITCH_GROUP_GROUP)).put .sw GLB_SWITCH_GROUP_PENDING 0
    let s := (s.put .sw GLB_LAYOUT_ACTIVE_X4 (s.get .sw GLB_LAYOUT_X4)).put .sw GLB_LAYOUT_PENDING 0
    let s := (s.put .sw GLB_STS_MAIN_UP 1).put .sw SBP_STS_FW_UP 0
    s.judgeDemand 0
  | .ep =>
    let regs := s.warmRegs .ep
    let s := ((s.resetChip .ep regs false false 2).resetHidden .ep false)
    s.put .ep GLB_STS_MAIN_UP 1

/-- Rung L7 (R464): a FATAL record with its cause, then a warm reset. -/
def State.toL7 (s : State) (p : Part) (cause : Nat) (page : Nat := 0) : State :=
  if (s.chip p).inReset then s
  else (s.event p (if p == .sw then pgRst else pgPwr) .switchReset cause page (rung := if p == .sw then some 7 else none)).warmReset p cause

/-- A part stops and is held in reset: rails lost, or the thermal trip (R469, R485). The standby domain goes on. DEDUCED, log 49. -/
def State.stopMain (s : State) (p : Part) : State :=
  let s := s.emit (.silence p)
  let old := (s.chip p).regs
  let kept := keepIf (fun k _ => standbyKey k) old
  let regs := (s.fixedRegs p).foldl (fun m e => insertAt m e.1 e.2) kept
  let regs := if p == .sw then copyReg RST_STRAPS 0x38 old (copyReg PWR_STS 0xF0 old regs) else regs
  let s := s.onChip p fun c =>
    { c with regs := regs, ports := [], pageResets := [], sync := {}, spdm := [], idSeed := [], cdi1 := [], holdover := none, inReset := true,
             step := firstStep p, startHeld := false }
  let s := s.resetHidden p true
  s.when (p == .sw) fun s => s.put .sw SBP_STS_FW_UP 0

/-! ### Rails (R469, R479, R518, R521) -/

/-- Whether all samples of a strap agree (R518). -/
def allAgree (l : List Nat) : Bool := l.all (· == l.headD 0)

/-- The samples packed for a record, three bits each. -/
def packSamples (l : List Nat) : Nat := l.foldr (fun x a => x % 8 + 8 * a) 0

/-- STANDBY_POWER_ON (R518): on the switch the samples of SB_ADDR give the static address. -/
def standbyPowerOn (p : Part) (samples : List Nat) (s : State) : State :=
  if (s.chip p).standbyUp then s
  else
    let s := s.onChip p fun c => { c with standbyUp := true }
    match p with
    | .ep => s
    | .sw =>
      let ok := allAgree samples
      let v := if ok then samples.headD 0 % 8 else 0
      let s := (s.put .sw RST_STRAPS_SB_ADDR v).put .sw SBP_STS_STATIC_ADDR (0x58 + v)
      if ok then s else s.event .sw pgSbp .strapFault (packSamples samples)

def execStandbyPowerOn (p : Part) (samples : List Nat) (s : State) : Host.Outcome State Fault Refusal := .next (standbyPowerOn p samples s)

/-- STANDBY_POWER_OFF (R518): the tray keeps the standby rail while a main rail is up (R479). DEDUCED, log 48. -/
def standbyPowerOff (p : Part) (s : State) : State :=
  if (s.chip p).mainUp || !(s.chip p).standbyUp then s
  else
    let f := s.fixedRegs p
    s.onChip p fun c => { c with standbyUp := false, regs := f, log := [], tripLow := false }

def execStandbyPowerOff (p : Part) (s : State) : Host.Outcome State Fault Refusal := .next (standbyPowerOff p s)

/-- MAIN_RAILS_LOST (R469, R479). -/
def mainRailsLost (p : Part) (s : State) : State :=
  if !(s.chip p).mainUp then s
  else
    let s := s.onChip p fun c => { c with mainUp := false }
    let s := s.stopMain p
    s.when (p == .sw) fun s => s.put .sw SBP_STS_MAIN_UP 0

def execMainRailsLost (p : Part) (s : State) : Host.Outcome State Fault Refusal := .next (mainRailsLost p s)

/-- MAIN_RAILS_ON (R487, R521): a cold reset; a THERM_TRIP_N held low is released. RST_N is low. -/
def mainRailsOn (p : Part) (s : State) : State :=
  if (s.chip p).mainUp || !(s.chip p).standbyUp then s
  else
    let s := s.onChip p fun c => { c with mainUp := true, rstLow := true }
    let s := s.when (s.chip p).tripLow fun s => (s.onChip p fun c => { c with tripLow := false }).emit (.thermTrip p false)
    s.coldReset p

def execMainRailsOn (p : Part) (s : State) : Host.Outcome State Fault Refusal := .next (mainRailsOn p s)

/-! ### Release of reset and start-up of the switch (R24, R425, R488, R489) -/

/-- The straps are taken and start-up begins (R33, R517, R518): on the switch ROLE in [1:0] and PLANE_SEL in [2] of each sample, on the endpoint LINK_MODE. -/
def State.begin (s : State) (p : Part) (samples : List Nat) : State :=
  let s := s.onChip p fun c => { c with inReset := false, startHeld := false }
  let ok := allAgree samples
  let v := samples.headD 0 % 8
  let s := s.put p GLB_STS_MAIN_UP 1
  let s := (s.put p CLK_STS_REF_PRESENT 1).put p CLK_STS_PLL_LOCK 1
  match p with
  | .sw =>
    let s := (s.put .sw RST_STRAPS_ROLE (if ok then v % 4 else 0)).put .sw RST_STRAPS_PLANE_SEL (if ok then v / 4 else 0)
    if ok then s else s.event .sw pgRst .strapFault (packSamples samples)
  | .ep =>
    let v := if ok then v else 7
    let s := s.put .ep EPC_ID_LINK_MODE v
    if v == 7 then (s.put .ep GLB_STS_STRAP_FAULT 1).event .ep pgGlb .strapFault v else s

/-- Whether a test instruction drives the pins (R531). DEDUCED, log 47. -/
def TapInstr.drives : TapInstr → Bool
  | .extest | .extestPulse | .extestTrain | .highz | .clamp => true
  | _ => false

/-- RESET_RELEASE (R488, R490, R519, R531): RST_N rises; a part whose test port drives its pins stays in reset, and so does a part that has tripped (R485). DESIGN CHOICE, log 181. -/
def resetRelease (p : Part) (samples : List Nat) (s : State) : State :=
  let c := s.chip p
  if !c.mainUp || !c.inReset || c.tripLow then s
  else
    let s := s.onChip p fun c => { c with rstLow := false }
    if c.tap.drives then s.onChip p fun c => { c with startHeld := true } else s.begin p samples

def execResetRelease (p : Part) (samples : List Nat) (s : State) : Host.Outcome State Fault Refusal := .next (resetRelease p samples s)

/-- Tack-up begins on every port: the group and the layout stored come into force (R24, R246, R512). -/
def State.beginTack (s : State) : State :=
  let s := (s.put .sw GLB_SWITCH_GROUP_ACTIVE (s.get .sw GLB_SWITCH_GROUP_GROUP)).put .sw GLB_SWITCH_GROUP_PENDING 0
  -- a change of layout puts the girths back to the values of R246
  let s := s.when (s.get .sw GLB_LAYOUT_X4 != s.get .sw GLB_LAYOUT_ACTIVE_X4) fun s =>
    s.onChip .sw fun c => { c with regs := keepIf (fun k _ => !isReg BUF_GIRTH k) c.regs }
  let s := (s.put .sw GLB_LAYOUT_ACTIVE_X4 (s.get .sw GLB_LAYOUT_X4)).put .sw GLB_LAYOUT_PENDING 0
  s.tackAll

/-- The slot that boots of a kind, and whether as a trial (R441, R444): a staged loader or security-core image first; then the slot marked ACTIVE, then the other, as each verifies. DEDUCED, log 44. -/
def State.bootSlot (s : State) (kind : Nat) : Option (Nat × Bool) :=
  let a := s.activeSlot kind
  let staged := (if kind == 2 then none else lookup s.sw.fw.staged kind).filter fun k => s.verifies kind k
  match staged with
  | some k => some (k, true)
  | none => if s.verifies kind a then some (a, false) else if s.verifies kind (1 - a) then some (1 - a, false) else none

/-- A kind boots from a slot. DEDUCED, log 44. -/
def State.boots (s : State) (kind : Nat) (b : Nat × Bool) : State :=
  let now := s.now .sw
  s.onFw fun f => { f with running := insertAt f.running kind b.1, trials := if b.2 then insertAt f.trials kind now else f.trials }

/-- The granules that an image maps. -/
def CfgImage.granules (c : CfgImage) : List Nat :=
  c.regs.filterMap fun e => if isReg POL_MAP_ENTRY e.1 && getBits e.2 31 1 == 1 then some (getBits e.2 0 18) else none

/-- Whether a register of an image belongs to a partition that maps an HBM granule: it is not applied while a stack has failed training (R141). -/
def CfgImage.needsHbm (c : CfgImage) (k : Nat) : Bool :=
  let maps (p : Nat) : Bool := c.regs.any fun e =>
    let b := e.1 / 2 ^ 24
    isReg POL_MAP_ENTRY e.1 && getBits e.2 31 1 == 1 && getBits e.2 17 1 == 0 && mapBank p 0 0 ≤ b && b < mapBank p 1 0 + 4096
  let b := k / 2 ^ 24
  if isReg POL_MAP_ENTRY k then (upTo 64).any fun p => mapBank p 0 0 ≤ b && b < mapBank p 1 0 + 4096 && maps p
  else if isReg PTN_ENTRY k || (upTo 8).any (fun i => isReg (PTN_TKEY.word i) k) then maps (b - 1)
  else false

/-- Whether every granule that the image maps has been zeroed (R425). A RESERVED bulk granule is waited for, since it is never mapped (R110); the HBM granules of a stack that failed training are not, since their partitions are not applied (R141). DEDUCED, log 206. -/
def State.imageReady (s : State) (c : CfgImage) : Bool :=
  c.granules.all fun g => s.granState g == 1 || (s.sw.pool.held && !g.testBit 17)

/-- The image is applied as one commit (R425): its registers, its sets and SEQ; its partitions are OPEN and its agents ACTIVE. DEDUCED, log 46. -/
def State.applyImage (s : State) (c : CfgImage) : State :=
  let held := s.sw.pool.held
  let take := keepIf (fun k _ => imageKey k && !(held && c.needsHbm k)) c.regs
  let s := s.onChip .sw fun x => { x with regs := take.foldl (fun m e => insertAt m e.1 e.2) x.regs }
  let s := (s.wr .sw DCT_SEQ c.seq).onDct fun d => { d with sets := c.sets }
  let s := [pgPtn, pgCtx, pgPol, pgDir].foldl (fun s g => s.put .sw HDR_LOCK_SEQ_LOW (c.seq.toNat % 2 ^ 16) 0 g) s
  let s := (upTo 64).foldl (fun s p =>
    if s.flag .sw PTN_ENTRY_VALID (p + 1) then ((s.zeroBlk p).put .sw POL_PTN_STS_STATE 1 (p + 1)).assignMaps p else s) s
  let s := (upTo 64).foldl (fun s i => if s.flag .sw DIR_AGT_ENTRY_VALID (i + 1) then s.put .sw DIR_AGT_STS_STATE 1 (i + 1) else s) s
  (s.attested .sw 4).commitRoster

/-- Step 11 (R425, R438): an image that fails verification is not loaded; the host's contexts start orphaned and quiesced. None while its granules are still being zeroed. DEDUCED, log 45. -/
def State.loadImage (s : State) (imageOk : Bool) : Option State :=
  let done (s : State) : State := s.hostCtxs.foldl (fun s c => s.wr .sw CTX_STS 3 (c + 1)) s
  match s.sw.dct.image with
  | none => some s
  | some c =>
    if !imageOk then some ((s.put .sw DCT_STS_IMG_FAIL 1).event .sw pgDct .cfgImageFail)
    else if s.imageReady c then some (done (s.applyImage c))
    else none

/-- HBM training at step 8 (R141): the stacks that fail are lost, and every HBM granule is held RESERVED; the zero scrub begins. The repair rows that a stack has left are a free value, set at a cold start (R145). DEDUCED, log 25. -/
def State.trainHbm (s : State) (bad : List Nat) : State :=
  let s := (upTo 6).foldl (fun s n =>
    let s := if s.get .sw RST_STS_LAST_LEVEL == 0 then (s.put .sw HBM_SPARES_LEFT s.draw 0 n).drawn else s
    if bad.contains n then (s.put .sw HDR_PAGE_STS_FAULT 1 0 (pgHbm + n)).event .sw (pgHbm + n) .hbmStackLost n
    else s.put .sw HBM_STS_TRAINED 1 0 n) s
  let lost := (upTo 6).any bad.contains
  (s.onPool fun p => { p with held := lost, stackLost := lost }).scrubWake

/-- The bulk ports are brought up after step 9 (R392). -/
def State.bringUpBulk (s : State) : State :=
  s.sw.cxl.devices.foldl (fun s e => if s.cxdMay e.1 && !s.bulkUp e.1 then s.cxdBringUp e.1 else s) s

/-- The switch enters step 10; without a role it goes on to step 11 (R24, R488). DEDUCED, log 43. -/
def State.enterTen (s : State) : State :=
  let s := (s.toStep .sw 10).bringUpBulk
  if s.swAxisNo == 0 then s.toStep .sw 11 else if s.flag .sw GLB_SWITCH_GROUP_WRITTEN then s.beginTack else s

/-- STARTUP_STEP_DONE (R488, R489): the step in progress finishes. `bad` names the HBM stacks that failed training at step 8; `imageOk` is whether the configuration image verified at step 11. A step whose conditions are not met has not finished. DEDUCED, log 44. -/
def startupStepDone (bad : List Nat) (imageOk : Bool) (s : State) : State :=
  if s.swc.inReset then s
  else
    let now := s.now .sw
    match s.swc.step with
    | 3 =>
      let s := s.toStep .sw 4
      let s := s.when (s.flag .sw PWR_STS_THERM_ALERT) fun s => s.onCore fun c => { c with thermFrom := some now }
      s.judgeDemand 0
    | 4 =>
      let s := (s.put .sw CLK_STS_REF_PRESENT 1).put .sw CLK_STS_PLL_LOCK 1
      (s.put .sw MGT_FW_STS_FUSED_SVN (s.fusedSvn 2)).toStep .sw 5
    | 5 =>
      match s.bootSlot 1 with
      | some b => ((s.boots 1 b).deriveDevice .sw).toStep .sw 6
      | none => s
    | 6 =>
      match s.bootSlot 3 with
      | some b =>
        let s := s.boots 3 b
        let s := match s.bootSlot 2 with
          | some f => s.boots 2 f
          | none => s
        let s := (s.put .sw MGT_CORE_STS_SECURITY 1).deriveIdentity .sw
        let s := (upTo 64).foldl (fun s c => (s.put .sw RDC_STS_STATE 2 0 c).put .sw RDC_SELFTEST_STS_BUSY 1 0 c) s
        s.showFw.toStep .sw 7
      | none => s
    | 7 =>
      if (upTo 64).any fun c => s.coreState c == 2 then s
      else
        let s := if (lookup s.sw.fw.running 2).isSome then (upTo 4).foldl State.cpuRuns s else s.put .sw MGT_CORE_STS_RECOVERY 1
        s.toStep .sw 8
    | 8 => (s.trainHbm bad).toStep .sw 9
    | 9 => s.enterTen
    | 10 =>
      if !s.flag .sw GLB_SWITCH_GROUP_WRITTEN then s
      else if s.get .sw RST_STS_LAST_LEVEL == 2 then (s.toStep .sw 12).readyCheck .sw
      else s.toStep .sw 11
    | 11 =>
      match s.loadImage imageOk with
      | some t => (t.toStep .sw 12).readyCheck .sw
      | none => s
    | _ => s

def execStartupStepDone (bad : List Nat) (imageOk : Bool) (s : State) : Host.Outcome State Fault Refusal := .next (startupStepDone bad imageOk s)

/-- Whether tack-up has begun on the switch (R24). -/
def State.tackBegun (s : State) : Bool := s.swAxisNo != 0 && 10 ≤ s.swc.step && s.flag .sw GLB_SWITCH_GROUP_WRITTEN

/-- A write of GLB.SWITCH_GROUP (R24, R512): it enables step 10; once tack-up has begun the value is stored, pending and recorded. -/
def State.setGroup (s : State) (x : Word) : Written :=
  if x.getLsbD 11 && 2 ≤ s.swAxisNo then s.refused .sw pgGlb
  else
    let begun := s.tackBegun
    let s := s.put .sw GLB_SWITCH_GROUP_GROUP (getBits x 0 12)
    if begun then
      let pend := s.get .sw GLB_SWITCH_GROUP_GROUP != s.get .sw GLB_SWITCH_GROUP_ACTIVE
      ((s.put .sw GLB_SWITCH_GROUP_PENDING (b2n pend)).refuse .sw pgGlb, true)
    else
      let s := s.put .sw GLB_SWITCH_GROUP_WRITTEN 1
      let pend := s.get .sw GLB_SWITCH_GROUP_GROUP != s.get .sw GLB_SWITCH_GROUP_ACTIVE
      let s := s.put .sw GLB_SWITCH_GROUP_PENDING (b2n pend)
      (if s.tackBegun then s.beginTack else s, true)

/-- SWITCH_GROUP_WRITE. -/
def switchGroupWrite (path : Path) (x : Word) (s : State) : State := s.writeBy path .sw pgGlb 0x58 fun s => s.setGroup x

def execSwitchGroupWrite (path : Path) (x : Word) (s : State) : Host.Outcome State Fault Refusal := .next (switchGroupWrite path x s)

/-- A write of GLB.LAYOUT (R20, R512). -/
def State.setLayout (s : State) (x : Word) : Written :=
  let s := s.put .sw GLB_LAYOUT_X4 (getBits x 0 1)
  let s := s.put .sw GLB_LAYOUT_PENDING (b2n (s.get .sw GLB_LAYOUT_X4 != s.get .sw GLB_LAYOUT_ACTIVE_X4))
  (if s.tackBegun then s.refuse .sw pgGlb else s, true)

/-- LAYOUT_WRITE. -/
def layoutWrite (path : Path) (x : Word) (s : State) : State := s.writeBy path .sw pgGlb 0x60 fun s => s.setLayout x

def execLayoutWrite (path : Path) (x : Word) (s : State) : Host.Outcome State Fault Refusal := .next (layoutWrite path x s)

/-! ### Start-up of the endpoint (R490) -/

/-- ENDPOINT_STARTUP_STEP_DONE: `modules` is how many UCIe modules have trained at step 3. -/
def endpointStartupStepDone (modules : Nat) (s : State) : State :=
  if s.epc.inReset then s
  else match s.epc.step with
    | 1 => s.toStep .ep 2
    | 2 =>
      let s := (s.put .ep CLK_STS_REF_PRESENT 1).put .ep CLK_STS_PLL_LOCK 1
      ((s.deriveDevice .ep).deriveIdentity .ep).toStep .ep 3
    | 3 =>
      let s := s.toStep .ep 4
      let s := s.when (0 < modules) fun s => (s.put .ep UCI_STS_UP 1).put .ep UCI_STS_MODULES modules
      (s.portList .ep).foldl (fun s n => if s.stage .ep n == 0 then s.startTack .ep n else s) s
    | 4 => if s.ep.rly.bound || s.ep.rly.mesh then (s.toStep .ep 5).readyCheck .ep else s
    | _ => s.readyCheck .ep

def execEndpointStartupStepDone (modules : Nat) (s : State) : Host.Outcome State Fault Refusal := .next (endpointStartupStepDone modules s)

/-! ### The resets (R487, R492, R493, R519) -/

/-- RST_N_PULSE (R519): `ns` is how long RST_N stays low after filtering; below 1 µs it is ignored. -/
def rstNPulse (p : Part) (ns : Nat) (s : State) : State :=
  if ns < 1000 || !(s.chip p).mainUp then s
  else (s.onChip p fun c => { c with rstLow := true }).coldReset p

def execRstNPulse (p : Part) (ns : Nat) (s : State) : Host.Outcome State Fault Refusal := .next (rstNPulse p ns s)

/-- RST.CTL.COLD, from the side-band only (R493). -/
def State.rstColdW (s : State) (path : Path) : Written := if path == .sideband then (s.coldReset .sw, true) else s.refused .sw pgRst

/-- RST_COLD. -/
def rstCold (path : Path) (s : State) : State := s.writeBy path .sw pgRst 0x40 fun s => s.rstColdW path

def execRstCold (path : Path) (s : State) : Host.Outcome State Fault Refusal := .next (rstCold path s)

/-- RST.CTL.WARM: rung L7 with cause 4. -/
def State.rstWarmW (s : State) : Written := (s.toL7 .sw 4, true)

/-- RST_WARM. -/
def rstWarm (path : Path) (s : State) : State := s.writeBy path .sw pgRst 0x40 State.rstWarmW

def execRstWarm (path : Path) (s : State) : Host.Outcome State Fault Refusal := .next (rstWarm path s)

/-- The registers of the fabric ports return to their reset values; FENCE stays (R487, R502). -/
def State.clearFabric (s : State) (p : Part) : State :=
  let mine (k : Nat) : Bool :=
    let g := keyPage k
    (pgQad ≤ g && g < pgQad + 128) || (pgFpt ≤ g && g < pgFpt + 128) || (pgLnk ≤ g && g < pgLnk + 128)
      || g == (if p == .sw then pgRte else pgRly)
  s.onChip p fun c =>
    { c with regs := mapVals (fun k v => if mine k then (v &&& 4) ||| 1 else v)
                       (keepIf (fun k _ => !mine k || keyOff k == HDR_PAGE_CTL.off) c.regs), ports := [] }

/-- A fabric reset (R487): every link goes down, the endpoint releases its node ID and its bindings, and tack-up begins again. DEDUCED, log 43. -/
def State.fabricReset (s : State) (p : Part) : State :=
  if (s.chip p).inReset then s
  else
    let s := (s.portList p).foldl (fun s n => if s.stage p n == 0 then s else s.linkLost p n 0 none) s
    let s := s.clearFabric p
    match p with
    | .sw =>
      let s := ((s.put .sw RST_STS_FABRIC_READY 0).put .sw RST_STS_READY_TICK 0).put .sw RST_STS_LAST_LEVEL 2
      let s := if 10 ≤ s.swc.step then s.toStep .sw 10 else s
      s.tackAll
    | .ep =>
      let s := ((s.put .ep EPC_ID_NODE_ID 0).put .ep EPC_ID_NODE_VALID 0).put .ep PWR_EP_RST_READY 0
      let s := (s.applySet [] 0).wr .ep CTX_APPLIED_SEQ 0
      let s := ((s.wr .ep CTX_APPLIED_SW 0).put .ep HDR_LOCK_SEQ_LOW 0 0 pgCtx).attested .ep 4
      let s := s.onRly fun r => { bridles := r.bridles, bridled := r.bridled, marked := r.marked }
      let s := if 4 ≤ s.epc.step then s.toStep .ep 4 else s
      ((s.portList .ep).foldl (fun s n => s.startTack .ep n) s).drive

/-- RST.CTL.FABRIC. -/
def State.rstFabricW (s : State) : Written := (s.fabricReset .sw, true)

/-- RST_FABRIC. -/
def rstFabric (path : Path) (s : State) : State := s.writeBy path .sw pgRst 0x40 State.rstFabricW

def execRstFabric (path : Path) (s : State) : Host.Outcome State Fault Refusal := .next (rstFabric path s)

/-- PWR.EP_RST.WARM. -/
def State.epWarmW (s : State) : Written := (if s.epc.inReset then s else s.warmReset .ep 0, true)

/-- EP_RST_WARM. -/
def epRstWarm (path : Path) (s : State) : State := s.writeBy path .ep pgPwr 0x80 State.epWarmW

def execEpRstWarm (path : Path) (s : State) : Host.Outcome State Fault Refusal := .next (epRstWarm path s)

/-- PWR.EP_RST.FABRIC. -/
def State.epFabricW (s : State) : Written := (s.fabricReset .ep, true)

/-- EP_RST_FABRIC. -/
def epRstFabric (path : Path) (s : State) : State := s.writeBy path .ep pgPwr 0x80 State.epFabricW

def execEpRstFabric (path : Path) (s : State) : Host.Outcome State Fault Refusal := .next (epRstFabric path s)

/-- TABLE_ECC_FATAL (R457, R464): the page of the block whose array failed: DIR, PTN, CTX, RTE or HRD. -/
def tableEccFatal (page : Nat) (s : State) : State :=
  if [pgDir, pgPtn, pgCtx, pgRte, pgHrd].contains page then s.toL7 .sw 1 page else s

def execTableEccFatal (page : Nat) (s : State) : Host.Outcome State Fault Refusal := .next (tableEccFatal page s)

/-- SECURITY_CORE_FATAL_ALARM (R457, R464). -/
def securityCoreFatalAlarm (s : State) : State := s.toL7 .sw 3

def execSecurityCoreFatalAlarm (s : State) : Host.Outcome State Fault Refusal := .next (securityCoreFatalAlarm s)

/-! ### The clock monitor (R477) -/

/-- REF_LOSS (R477): holdover begins, with an INFO record whose code the spec does not name. DEDUCED, log 37. -/
def refLoss (p : Part) (s : State) : State :=
  let c := s.chip p
  if c.inReset || c.holdover.isSome then s
  else
    let now := s.now p
    let s := s.onChip p fun c => { c with holdover := some now }
    let s := (s.put p CLK_STS_HOLDOVER 1).put p CLK_STS_REF_PRESENT 0
    (s.note p pgClk (s.draw % 65536)).drawn

def execRefLoss (p : Part) (s : State) : Host.Outcome State Fault Refusal := .next (refLoss p s)

/-- REF_RETURN (R477): within 17,500 ticks the PLL relocks without a frequency step. `ppm` is the mean offset measured. DEDUCED, log 37. -/
def refReturn (p : Part) (ppm : Nat) (s : State) : State :=
  match (s.chip p).holdover with
  | some t =>
    if s.due p t 17500 then s
    else
      let s := s.onChip p fun c => { c with holdover := none }
      let s := (s.put p CLK_STS_HOLDOVER 0).put p CLK_STS_REF_PRESENT 1
      (s.put p CLK_MON_REF_PPM ppm).count p CLK_MON_HOLDOVERS
  | none => s

def execRefReturn (p : Part) (ppm : Nat) (s : State) : Host.Outcome State Fault Refusal := .next (refReturn p ppm s)

/-- HOLDOVER_EXPIRY (R477): 17,500 ticks in holdover. DEDUCED, log 37. -/
def holdoverExpiry (p : Part) (s : State) : State :=
  match (s.chip p).holdover with
  | some t => if s.due p t 17500 then s.toL7 p 2 else s
  | none => s

def execHoldoverExpiry (p : Part) (s : State) : Host.Outcome State Fault Refusal := .next (holdoverExpiry p s)

/-- PLL_LOCK_LOSS (R477). -/
def pllLockLoss (p : Part) (s : State) : State := s.toL7 p 2

def execPllLockLoss (p : Part) (s : State) : Host.Outcome State Fault Refusal := .next (pllLockLoss p s)

/-! ### The die sensors (R481, R485) -/

/-- The hottest of a list of readings and its place. DESIGN CHOICE, log 39. -/
def hottest (l : List Nat) : Nat × Nat :=
  let m := l.foldl max 0
  (m, (l.findIdx? (· == m)).getD 0)

/-- The thermal trip (R485): silent, THERM_TRIP_N low, held in reset until the main rails are cycled. -/
def State.trip (s : State) (p : Part) : State :=
  let s := (s.onChip p fun c => { c with tripLow := true }).emit (.thermTrip p true)
  s.stopMain p

/-- DIE_SENSOR_SAMPLE (R481, R485): the readings of the die sensors, 16 on the switch and 4 on the endpoint, in °C. DEDUCED, log 40. -/
def dieSensorSample (p : Part) (temps : List Nat) (s : State) : State :=
  if (s.chip p).inReset then s
  else
    let h := hottest (temps.take (if p == .sw then 16 else 4))
    let old := s.get p PWR_TEMP_DIE_MAX
    let s := (s.put p PWR_TEMP_DIE_MAX h.1).put p PWR_TEMP_SENSOR h.2
    if 120 ≤ h.1 then s.trip p
    else match p with
      | .sw =>
        let lv := sensorLevel s.sw.core.sensorDemand h.1
        (s.onCore fun c => { c with sensorDemand := lv }).judgeDemand 5
      | .ep => if old < 105 && 105 ≤ h.1 then s.deliver .ep pgPwr else s

def execDieSensorSample (p : Part) (temps : List Nat) (s : State) : Host.Outcome State Fault Refusal := .next (dieSensorSample p temps s)

/-! ### The test port (R530, R531) -/

/-- The number that IDCODE gives: the version, the part number, the manufacturer, and 1. -/
def State.idcode (s : State) (p : Part) : Nat :=
  (4 * s.get p GLB_ID_STEP_LETTER + s.get p GLB_ID_STEP_NUM) * 2 ^ 28 + s.get p GLB_ID_PART * 2 ^ 12 + 0x55F * 2 + 1

/-- The instruction that the port takes for one loaded: pin-driving ones only while RST_N is low, internal ones only on a MANUFACTURE part. DEDUCED, log 47. -/
def State.tapTakes (s : State) (p : Part) (i : TapInstr) : TapInstr :=
  let low := (s.chip p).rstLow
  let made := s.get p SEC_STS_LIFECYCLE == 0
  if i.drives then (if made || low then i else .bypass)
  else if i == .internal && !made then .bypass
  else i

/-- The port is in an instruction; a start-up that was held begins when the port drives no pins any more. -/
def State.tapTo (s : State) (p : Part) (i : TapInstr) (samples : List Nat) : State :=
  let s := s.onChip p fun c => { c with tap := i }
  if (s.chip p).startHeld && !i.drives then s.begin p samples else s

/-- TAP_INSTRUCTION_LOAD (R530, R531): the code of an instruction (0 BYPASS, 1 IDCODE, 2 SAMPLE/PRELOAD, 3 EXTEST, 4 EXTEST_PULSE, 5 EXTEST_TRAIN, 6 HIGHZ, 7 CLAMP, any other internal), and the strap samples that a start-up held takes when it begins. -/
def tapInstructionLoad (p : Part) (code : Nat) (samples : List Nat) (s : State) : State :=
  let i : TapInstr := match code with
    | 0 => .bypass
    | 1 => .idcode
    | 2 => .sample
    | 3 => .extest
    | 4 => .extestPulse
    | 5 => .extestTrain
    | 6 => .highz
    | 7 => .clamp
    | _ => .internal
  s.tapTo p (s.tapTakes p i) samples

def execTapInstructionLoad (p : Part) (code : Nat) (samples : List Nat) (s : State) : Host.Outcome State Fault Refusal :=
  .next (tapInstructionLoad p code samples s)

/-- TAP_RESET (R530): Test-Logic-Reset, with IDCODE selected. -/
def tapReset (p : Part) (samples : List Nat) (s : State) : State := s.tapTo p .idcode samples

def execTapReset (p : Part) (samples : List Nat) (s : State) : Host.Outcome State Fault Refusal := .next (tapReset p samples s)

end Sys2Proof.Machine
end

