-- ==== Sys2Proof/Machine/SyncRows.lean ====
section
/-! DEFINITION. The sync requests of other parts, at the switch or at the endpoint that holds the object (R197, R354), and the end of their waits. -/

namespace Sys2Proof.Machine

/-- SYNC_ADD (R197, R354): at the switch or the endpoint that holds the object. Here and in the four commands below `queue` is the queue of the releasing or acquiring agent (R88), for which a packet has no field. DESIGN CHOICE, log 196. -/
def syncAdd (p : Part) (queue : Nat) (k : Packet) (s : State) : State :=
  (s.syncUpdate p k queue fun v => v + BitVec.ofNat 64 (natAt k.payload 0 8)).when (p == .ep) State.drive

def execSyncAdd (p : Part) (queue : Nat) (k : Packet) (s : State) : Host.Outcome State Fault Refusal := .next (syncAdd p queue k s)

/-- SYNC_SET (R197, R354). DESIGN CHOICE, log 196. -/
def syncSet (p : Part) (queue : Nat) (k : Packet) (s : State) : State :=
  (s.syncUpdate p k queue fun _ => BitVec.ofNat 64 (natAt k.payload 0 8)).when (p == .ep) State.drive

def execSyncSet (p : Part) (queue : Nat) (k : Packet) (s : State) : Host.Outcome State Fault Refusal := .next (syncSet p queue k s)

/-- SYNC_SET_CLEAR (R197, R354): sets the value and leaves the error state. DESIGN CHOICE, log 196. -/
def syncSetClear (p : Part) (queue : Nat) (k : Packet) (s : State) : State :=
  let idx := synIx k
  let r := s.syncGuard p k true fun s => s.room p k fun s =>
    let s := s.synClearError p idx
    let s := (s.release p idx (BitVec.ofNat 64 (natAt k.payload 0 8)) k.scope (agentOf k queue)).keepOutcome p k stOK [] 0
    s.reply p k stOK
  r.when (p == .ep) State.drive

def execSyncSetClear (p : Part) (queue : Nat) (k : Packet) (s : State) : Host.Outcome State Fault Refusal := .next (syncSetClear p queue k s)

/-- SYNC_READ (R197): the value and the verdict. DESIGN CHOICE, log 196. -/
def syncRead (p : Part) (queue : Nat) (k : Packet) (s : State) : State :=
  let idx := synIx k
  s.syncGuard p k false fun s => if s.synError p idx then s.errorAnswer p idx k else s.acquireAnswer p idx k queue

def execSyncRead (p : Part) (queue : Nat) (k : Packet) (s : State) : Host.Outcome State Fault Refusal := .next (syncRead p queue k s)

/-- The waits from other parts outstanding at a part. -/
def State.remoteWaits (s : State) (p : Part) : Nat :=
  ((s.chip p).sync.waits.filter fun w => match w.who with
    | .remote _ => true
    | .own _ _ => false).length

/-- SYNC_WAIT (R197, R354): completes at once, is held, or is refused. DESIGN CHOICE, log 196. -/
def syncWait (p : Part) (queue : Nat) (k : Packet) (s : State) : State :=
  let idx := synIx k
  let t : Word := BitVec.ofNat 64 (natAt k.payload 0 8)
  s.syncGuard p k false fun s =>
    if s.synError p idx then s.errorAnswer p idx k
    else if (if p == .sw then 4096 else 1024) ≤ s.remoteWaits p then (s.count p SYN_WAITS_REFUSED).reply p k stRETRY
    else if reached (s.synValue p idx) t then s.acquireAnswer p idx k queue
    else s.onSync p fun y => { y with waits := y.waits ++ [⟨idx, queue, t, .remote k, s.now p⟩] }

def execSyncWait (p : Part) (queue : Nat) (k : Packet) (s : State) : Host.Outcome State Fault Refusal := .next (syncWait p queue k s)

/-- SYNC_WAIT_TIMEOUT (R197, R266): the wait of a source and tag has reached the holder's request timeout. -/
def syncWaitTimeout (p : Part) (src tag : Nat) (s : State) : State :=
  let past (w : SyncWait) : Bool := match w.who with
    | .remote k => k.src == src && k.tag == tag && s.due p w.at_ (s.holdTmo p)
    | .own _ _ => false
  match (s.chip p).sync.waits.find? past with
  | some w =>
    let s := s.onSync p fun y => { y with waits := y.waits.erase w }
    match w.who with
    | .remote k => s.reply p k stTIMEOUT
    | .own _ _ => s
  | none => s

def execSyncWaitTimeout (p : Part) (src tag : Nat) (s : State) : Host.Outcome State Fault Refusal := .next (syncWaitTimeout p src tag s)

end Sys2Proof.Machine
end

