-- ==== Sys2Proof/Machine/RegView.lean ====
section
/-! DEFINITION. The registers as they read (R494, R495, R497, R501): which register occupies an offset, the bank that its selector chooses, the registers whose value is worked out from the state, and the read of one register. -/

namespace Sys2Proof.Machine

/-! ### Which register occupies an offset -/

/-- The register table of a block code (R509, R510). -/
def blockRegs (code : Nat) : List RegDesc :=
  if code == 0x01 then regMapGLB else if code == 0x02 then regMapCLK else if code == 0x03 then regMapPWR
  else if code == 0x04 then regMapRST else if code == 0x05 then regMapMGT else if code == 0x06 then regMapSBP
  else if code == 0x07 then regMapSEC else if code == 0x08 then regMapATT else if code == 0x09 then regMapDCT
  else if code == 0x0A then regMapPTN else if code == 0x0B then regMapCTX else if code == 0x0C then regMapERR
  else if code == 0x10 then regMapXBR else if code == 0x11 then regMapBUF else if code == 0x12 then regMapCGT
  else if code == 0x13 then regMapCMB else if code == 0x14 then regMapRTE else if code == 0x20 then regMapHRD
  else if code == 0x21 then regMapSYN else if code == 0x22 then regMapSVC else if code == 0x30 then regMapPOL
  else if code == 0x31 then regMapDIR else if code == 0x32 then regMapBLK else if code == 0x40 then regMapHBM
  else if code == 0x50 then regMapCXU else if code == 0x51 then regMapCXD else if code == 0x60 then regMapQAD
  else if code == 0x61 then regMapFPT else if code == 0x62 then regMapLNK else if code == 0x70 then regMapRDC
  else if code == 0x80 then regMapEPC else if code == 0x81 then regMapRLY else if code == 0x82 then regMapBRD
  else if code == 0x83 then regMapQUE else if code == 0x84 then regMapDDP else if code == 0x85 then regMapWIN
  else if code == 0x86 then regMapAPT else if code == 0x87 then regMapACN else if code == 0x88 then regMapUCI
  else []

/-- The block code of a page, 0 where the page is absent. -/
def pageCode (p : Part) (page : Nat) : Nat := ((pageEntry p page).map fun e => e.2.2).getD 0

/-- The instance of a page within its block. -/
def pageInst (p : Part) (page : Nat) : Nat := ((pageEntry p page).map fun e => page - e.1).getD 0

/-- Whether a part's page holds a register: the endpoint's PWR and SYN pages leave some out (R356, R492). -/
def holds (p : Part) (d : RegDesc) : Bool :=
  match p with
  | .sw => d.holder != .endpointOnly
  | .ep => d.holder != .switchOnly
      && !(d.reg.page == pgPwr && d.reg.off != PWR_DRAW.off && d.reg.off != PWR_TEMP.off && d.reg.off != PWR_EP_RST.off)
      && !(d.reg.page == pgSyn && [0x58, 0x60, 0x70, 0x78, 0x80].contains d.reg.off)

/-- The distance of a repeated group of registers from the first: the lane sub-pages of QAD (R343), the apertures (R50), the counter ranges (R69). -/
def groupShift (code off : Nat) : Nat :=
  if code == 0x60 && 0x200 ≤ off && off < 0x600 then (off - 0x200) / 0x100 * 0x100
  else if code == 0x86 && 0x100 ≤ off && off < 0x900 then (off - 0x100) / 0x20 * 0x20
  else if code == 0x87 && 0x100 ≤ off && off < 0x300 then (off - 0x100) / 0x20 * 0x20
  else 0

/-- The register that covers an offset of a page: its table, its instance, its distance as a group, its number among the copies of the table, and the byte of it that the offset names. -/
structure RegPlace where
  desc : RegDesc
  inst : Nat
  shift : Nat
  word : Nat
  byte : Nat
deriving DecidableEq, Repr

/-- How many bytes a table covers. -/
def RegDesc.size (d : RegDesc) : Nat := if d.wide then 8 * d.count else 4

/-- The place of an offset, if a register of the part occupies it. DEDUCED, log 14. -/
def placeAt (p : Part) (page off : Nat) : Option RegPlace :=
  let code := pageCode p page
  let sh := if off < 0x40 then 0 else groupShift code off
  let o := off - sh
  let tab := if off < 0x40 then regMapHDR else blockRegs code
  let inst := if off < 0x40 then page else pageInst p page
  (tab.find? fun d => holds p d && d.reg.off ≤ o && o < d.reg.off + d.size).map fun d =>
    { desc := d, inst := inst, shift := sh, word := (o - d.reg.off) / 8, byte := (o - d.reg.off) % 8 }

/-- The register of a place. -/
def RegPlace.reg (l : RegPlace) : Reg := { l.desc.reg with off := l.desc.reg.off + l.shift + 8 * l.word }

/-- The bridle that BRD.SEL names (R361, R371). -/
def State.brdSel (s : State) : Nat := min 2 (s.get .ep BRD_SEL_TC) * 4 + s.get .ep BRD_SEL_DEST

/-- The bank of a register: what its page's selector names, or 0. -/
def State.bankOf (s : State) (p : Part) (r : Reg) : Nat :=
  let o := r.off
  if o < 0x40 then 0
  else match p with
  | .ep =>
    if r.page == pgWin then
      if o == 0x88 then s.get .ep WIN_GNT_SEL_ENTRY + 1 else if 0x48 ≤ o && o ≤ 0x60 then s.winSel + 1 else 0
    else if r.page == pgSyn then (if 0x48 ≤ o && o ≤ 0x68 then synBank (s.synSel .ep) else 0)
    else if r.page == pgQue then (if 0x48 ≤ o then s.queueSel + 1 else 0)
    else if r.page == pgRly then
      if o == 0x68 then downBank (s.get .ep RLY_DOWN_SEL_AXIS) (s.get .ep RLY_DOWN_SEL_PLANE)
      else if o == 0x78 then s.get .ep RLY_SPLIT_SEL_ENTRY + 1 else 0
    else if r.page == pgBrd then (if o == 0x50 || o == 0x58 then s.brdSel + 1 else 0)
    else if r.page == pgSec then (if 0x140 ≤ o then s.get .ep SEC_PEER_SEL_PORT + 1 else 0)
    else if r.page == pgAtt then (if o == 0x48 then s.get .ep ATT_SEL_BLOCK + 1 else 0)
    else if r.page == pgCtx then (if o == 0x48 then s.get .ep CTX_SEL_CONTEXT + 1 else 0)
    else 0
  | .sw =>
    if r.page == pgPol then
      if o == 0x48 then granBank s.granSel
      else if o == 0x58 then mapBank (s.get .sw POL_MAP_SEL_PARTITION) (s.get .sw POL_MAP_SEL_TABLE) (s.get .sw POL_MAP_SEL_INDEX)
      else if o == 0x60 then s.get .sw POL_MAP_SEL_PARTITION + 1 else 0
    else if r.page == pgDir then (if o == 0x48 || o == 0x4C then s.get .sw DIR_AGT_SEL_SLOT + 1 else 0)
    else if r.page == pgBlk then (if 0x50 ≤ o && o ≤ 0x60 then s.get .sw BLK_PSEL_PARTITION + 1 else 0)
    else if r.page == pgSyn then (if 0x48 ≤ o && o ≤ 0x68 then synBank (s.synSel .sw) else 0)
    else if r.page == pgBuf then
      let view := if o == 0x58 || o == 0x68 then s.get .sw BUF_PSEL_VIEW else 0
      if 0x48 ≤ o && o ≤ 0x68 then bankPC (s.get .sw BUF_PSEL_PORT) (s.get .sw BUF_PSEL_TC) view else 0
    else if r.page == pgCgt then
      if o == 0x58 then bankHist (s.get .sw CGT_SEL_PORT) (s.get .sw CGT_SEL_TC) (s.get .sw CGT_SEL_BIN)
      else if o == 0x60 then bankPC (s.get .sw CGT_SEL_PORT) (s.get .sw CGT_SEL_TC)
      else if 0x80 ≤ o && o < 0xA0 then s.get .sw CGT_SEL_TC + 1 else 0
    else if r.page == pgRte then
      if o == 0x48 || o == 0x4C then s.get .sw RTE_PORT_SEL_PORT + 1
      else if o == 0x54 then s.get .sw RTE_ROUTE_SEL_COORD + 1 else 0
    else if r.page == pgCxu then (if o == 0x50 then s.get .sw CXU_HDM_SEL_DECODER + 1 else 0)
    else if r.page == pgSec then (if 0x140 ≤ o then s.get .sw SEC_PEER_SEL_PORT + 1 else 0)
    else if r.page == pgAtt then (if o == 0x48 then s.get .sw ATT_SEL_BLOCK + 1 else 0)
    else if r.page == pgPtn then
      if 0xC8 ≤ o then s.get .sw PTN_ROS_SEL_ENTRY + 1 else if o == 0x48 || (0x80 ≤ o && o < 0xC0) then s.get .sw PTN_SEL_PARTITION + 1 else 0
    else if r.page == pgCtx then (if o == 0x48 || o == 0x50 then s.get .sw CTX_SEL_CONTEXT + 1 else 0)
    else 0

/-! ### The header as it reads (R497) -/

/-- The pages whose ENABLE is writable: FPT, QAD, RDC, CXD (R500). -/
def enableCtl (code : Nat) : Bool := code == 0x61 || code == 0x60 || code == 0x70 || code == 0x51

/-- The blocks that refuse a page reset (R501). -/
def resetRefused (code : Nat) : Bool :=
  [0x01, 0x02, 0x03, 0x04, 0x05, 0x06, 0x07, 0x08, 0x09, 0x0A, 0x0B, 0x0C, 0x20, 0x21, 0x22, 0x30, 0x31, 0x80, 0x83, 0x85, 0x86].contains code

/-- PAGE_ID. -/
def pageId (p : Part) (page : Nat) : Nat :=
  pageCode p page + pageInst p page * 2 ^ 8 + 2 ^ 16 + (if p == .sw then 1 else 2) * 2 ^ 24

/-- Whether remote control space may write something of a page. -/
def remotePage (p : Part) (page : Nat) : Bool := remoteWritable p page 0x10

/-- PAGE_CAP. -/
def pageCap (p : Part) (page : Nat) : Nat :=
  let code := pageCode p page
  let rwl := (blockRegs code).any fun d => holds p d && d.fields.any fun f => f.acc == .rwl
  b2n rwl + 2 * b2n (p == .sw) + 4 * b2n (remoteReadable p page 0) + 8 * b2n (remotePage p page)
    + 16 * b2n (p == .sw && (page == pgSbp || page == pgGlb || page == pgErr)) + 32 * b2n (enableCtl code)
    + 64 * b2n (!resetRefused code) + 256 * (if code == 0x60 then 4 else 0)

/-- The step of start-up after which a block serves (R488, R490). DESIGN CHOICE, log 20. -/
def readyStep (p : Part) (code : Nat) : Nat :=
  match p with
  | .sw =>
    if code == 0x06 then 0
    else if code == 0x07 || code == 0x08 || code == 0x09 || code == 0x0A || code == 0x0B then 6
    else if code == 0x05 || code == 0x70 || code == 0x20 || code == 0x22 then 7
    else if code == 0x60 || code == 0x61 || code == 0x62 || code == 0x40 || code == 0x30 || code == 0x31 then 8
    else if code == 0x50 || code == 0x51 || code == 0x32 then 9 else 3
  | .ep => if code == 0x60 || code == 0x61 || code == 0x62 || code == 0x88 then 3 else if code == 0x07 || code == 0x08 || code == 0x0B then 2 else 1

/-- Whether the block of a page holds a fault: a port in FAULT, a core FENCED, a bulk port held in FAULT, or the fault kept in the header (a stack lost). -/
def State.pageFault (s : State) (p : Part) (page : Nat) : Bool :=
  let code := pageCode p page
  let n := pageInst p page
  if code == 0x61 then s.stage p n == 6
  else if code == 0x70 then s.coreState n == 1
  else if code == 0x51 then s.flag .sw CXD_STS_FAULT_HELD 0 n
  else s.flag p HDR_PAGE_STS_FAULT 0 page

/-- Whether the block of a page has finished start-up and serves. DESIGN CHOICE, log 20. -/
def State.pageReady (s : State) (p : Part) (page : Nat) : Bool :=
  let code := pageCode p page
  let up := if p == .sw && code == 0x06 then s.swc.standbyUp else !(s.chip p).inReset && readyStep p code < (s.chip p).step
  up && !s.pageUnused p page && !s.resetting p page

/-- Whether a staged or sealed change has a record for a page (R497). DEDUCED, log 26. -/
def State.pageStaged (s : State) (page : Nat) : Bool :=
  (s.dctState == 1 || s.dctState == 2) && s.dctRecs.any fun r => !r.ep && r.page == page

/-- The header registers that are worked out, by offset. -/
def State.headerView (s : State) (p : Part) (page off : Nat) : Option Nat :=
  if off == 0x00 then some (pageId p page)
  else if off == 0x04 then some (pageCap p page)
  else if off == 0x0C then
    some (b2n (s.pageReady p page) + 2 * b2n (s.flag p HDR_PAGE_CTL_FENCE 0 page) + 4 * b2n (s.pageFault p page)
      + 8 * b2n (s.resetting p page))
  else if off == 0x30 then
    some ((if p == .sw && s.pageStaged page then 1 else 0) + s.get p HDR_LOCK_SEQ_LOW 0 page * 2 ^ 16)
  else none

/-! ### Block registers that are worked out -/

/-- The four words of a record of the error log (R470). -/
def ErrRec.words (r : ErrRec) : List Nat :=
  [r.code + r.sev * 2 ^ 16 + (r.rung.getD 0) * 2 ^ 19 + b2n r.rung.isSome * 2 ^ 22 + b2n r.esc * 2 ^ 23 + r.page * 2 ^ 24
     + r.status * 2 ^ 34 + r.reason * 2 ^ 42,
   r.ltc, r.d0, r.d1]

/-- The herd whose numbers HRD shows, and its slot. -/
def State.viewHerd (s : State) : Option Herd := s.herd (s.get .sw HRD_VIEW_SEL_HERD)

/-- The HRD page (R183, R212). DEDUCED, log 27. -/
def State.hrdView (s : State) (off : Nat) : Option Nat :=
  let h := s.viewHerd
  let v := s.get .sw HRD_VIEW_SEL_SLOT
  let e := (lookup s.sw.hrd.entries (s.get .sw HRD_SLOT_SEL_INDEX)).getD (0, 0)
  if off == 0xC0 then some e.1.toNat
  else if off == 0xC8 then some e.2.toNat
  else if off == 0x100 then some (h.elim 0 fun h =>
    h.state + h.reason * 2 ^ 2 + b2n h.streamed * 2 ^ 5 + b2n (h.failedOver || h.moved) * 2 ^ 6 + h.lastSlot % 2 ^ 7 * 2 ^ 7 + h.step % 2 ^ 32 * 2 ^ 32)
  else if off == 0x108 then some (h.elim 0 fun h => h.doneChunks % 2 ^ 32 + h.units % 2 ^ 12 * 2 ^ 32)
  else if off == 0x110 then some (h.elim 0 fun h =>
    min h.stale 0xFFFF + min h.twin 0xFFFF * 2 ^ 16 + min h.skived (2 ^ 32 - 1) * 2 ^ 32)
  else if off == 0x118 then some (h.elim 0 fun h =>
    let l := (lookup h.late v).getD (0, 0)
    min l.1 (2 ^ 32 - 1) + min l.2 (2 ^ 32 - 1) * 2 ^ 32)
  else if off == 0x120 then some (h.elim 0 fun h => (lookup h.lsum v).getD 0 % 2 ^ 64)
  else if off == 0x128 then some (s.sw.hrd.herds.length + s.freeUnits * 2 ^ 13)
  else none

/-- The SVC page (R239). DEDUCED, log 29. -/
def State.svcView (s : State) (off : Nat) : Option Nat :=
  let c := s.sw.svc
  let slot := s.get .sw SVC_VIEW_SEL_SLOT
  let region := s.get .sw SVC_VIEW_SEL_REGION
  let i := s.get .sw SVC_VIEW_SEL_HERD
  let a := s.attach i
  let g := lookup c.regions region
  if off == 0x58 then some ((lookup c.progs slot).elim 0 fun q => 1 + q.ctx * 2 + q.ops % 2 ^ 8 * 2 ^ 11 + s.slotUsers slot * 2 ^ 19)
  else if off == 0x60 then some (a.elim 0 fun a =>
    1 + b2n a.region * 2 + b2n a.banked * 4 + b2n a.broken * 8 + a.slot * 2 ^ 4 + b2n a.staged.isSome * 2 ^ 12
      + a.chunksDone % 2 ^ 32 * 2 ^ 32)
  else if off == 0x68 then some (a.elim 0 fun a => a.committed % 2 ^ 64)
  else if off == 0x70 then some (g.elim 0 fun g =>
    (if g.done then 2 else 1) + g.ptn * 4 + b2n (c.atts.any fun e => e.2.region && e.2.slot == region) * 2 ^ 8
      + (g.hashed (s.now .sw)) * 2 ^ 32)
  else if off == 0x78 then some (g.elim 0 fun g => g.off / 2 ^ 21 + g.len / 2 ^ 21 * 2 ^ 19)
  else if off == 0x80 then some ((lookup c.tables (s.get .sw SVC_VIEW_SEL_TABLE)).elim 0 fun t =>
    1 + t.ptn * 2 + t.fmt * 2 ^ 7 + b2n t.gather * 2 ^ 9 + b2n t.scatter * 2 ^ 10 + t.units % 2 ^ 8 * 2 ^ 11 + t.rows * 2 ^ 32)
  else if off == 0x88 then some (c.progs.length + c.atts.length * 2 ^ 9 + c.regions.length * 2 ^ 20 + c.tables.length * 2 ^ 27)
  else if 0xC0 ≤ off && off < 0x100 then
    let d := if s.flag .sw SVC_VIEW_SEL_DIGEST_OF then g.elim [] fun g => g.digest else (lookup c.progs slot).elim [] fun q => q.digest
    some (natAt d (off - 0xC0) 8)
  else none

/-- The bulk granules in a state between two. -/
def State.bulkDirty (s : State) : Nat :=
  let port (n : Nat) : Nat := ((upTo (s.bulkCount n)).filter fun g =>
    let st := s.granState (2 ^ 17 + n * 2 ^ 16 + g)
    st == 2 || st == 3).length
  port 0 + port 1

/-- Accepted requests of a partition that have not completed (R142): those of the fabric and of the host, each gather and scatter-add once. DEDUCED, log 25. -/
def State.inFlight (s : State) (p : Nat) : Nat :=
  let counts (m : Member) : Bool := match m.asker with
    | .fabric | .host _ _ | .back _ true => true
    | _ => false
  (((s.sw.pool.queue.filter (·.ptn == p)).map (·.members)).flatten.filter counts).length
    + (s.sw.pool.gathers.filter fun g => g.pkt.ptn == p).length

/-- The POL, DIR and BLK pages (R142 to R144). BLK.PINNED counts the pinned slots of every partition. DESIGN CHOICE, log 201. -/
def State.poolView (s : State) (page off : Nat) : Option Nat :=
  let q := s.sw.pool
  if page == pgPol then
    if off == 0x48 then
      if s.granState s.granSel == 0 then some 0 else none
    else if off == 0x60 then
      let p := s.get .sw POL_MAP_SEL_PARTITION
      some (s.ptnState p + min (s.inFlight p) 0xFFFFF * 4)
    else if off == 0x70 then
      let hbm := ((upTo 1788).filter fun g => s.granState g == 2 || s.granState g == 3).length
      some (b2n (s.scrubBusy || s.firstDirty.isSome) + hbm * 2 + s.bulkDirty * 2 ^ 12 + s.get .sw POL_SCRUB_STS_PATROL_PASSES * 2 ^ 32)
    else none
  else if page == pgDir then
    if off == 0x4C then
      let i := s.get .sw DIR_AGT_SEL_SLOT
      some (getBits (s.rd .sw DIR_AGT_STS (i + 1)) 0 5 + s.slotEntries i * 2 ^ 5)
    else if off == 0x58 then some (q.dir.length + (q.dir.filter fun e => e.2.excl && e.2.recalling.isNone).length * 2 ^ 23)
    else if off == 0x80 then some s.olRec0.toNat
    else if off == 0x88 then some s.olRec1.toNat
    else if off == 0x90 then
      some (q.olLog.length + (q.lost.filter fun e => e.2 == 1).length * 2 ^ 11 + (q.lost.length + (q.dead.map (·.2)).sum) * 2 ^ 32)
    else none
  else if page == pgBlk && off == 0x68 then some (q.slots.filter fun e => s.pinned e.1 e.2).length
  else none

/-- The multicast packets that still hold a copy (R259, R260). -/
def State.residues (s : State) : Nat := (((s.sw.core.queue.filter (·.waiting)).filterMap fun q => q.group).eraseDups).length

/-- The switch core's pages: XBR, BUF, CMB, RTE. -/
def State.coreView (s : State) (page off : Nat) : Option Nat :=
  let n := s.get .sw BUF_PSEL_PORT
  let tc := s.get .sw BUF_PSEL_TC
  let ingress := s.get .sw BUF_PSEL_VIEW == 0
  if page == pgXbr && off == 0x40 then
    some (s.sw.core.cycle % 128 + b2n (!s.swc.inReset && 3 < s.swc.step) * 2 ^ 7 + s.get .sw XBR_STS_MID_FENCED * 2 ^ 8)
  else if page == pgBuf then
    if off == 0x48 then some (768 * s.width .sw n + s.get .sw FPT_RTT_NS 0 n * 2 ^ 16)
    else if off == 0x50 then some (s.girth n tc)
    else if off == 0x58 then
      some ((if ingress then s.ingressCells n tc else s.backlog (.fabric n) tc) + s.get .sw BUF_OCC_PEAK (bankPC n tc (if ingress then 0 else 1)) * 2 ^ 32)
    else if off == 0x60 then
      let a := (lookup s.sw.core.avgs (n * 8 + tc)).getD {}
      some (if ingress then 0 else a.num / 2 ^ a.exp)
    else if off == 0x80 then some (s.residues + s.get .sw BUF_MCAST_LOSSY_DROP * 2 ^ 32)
    else none
  else if page == pgCmb then
    if off == 0x48 then some (s.combOpen + s.get .sw CMB_STS_PEAK * 2 ^ 16)
    else if off == 0x68 then some ((s.outHeld .sw).length + s.get .sw CMB_OUT_STS_REFUSED * 2 ^ 32)
    else none
  else if page == pgRte && off == 0x54 && !s.x4 then
    let c := s.get .sw RTE_ROUTE_SEL_COORD
    some (c + b2n (c < (s.widths .sw).length) * 2 ^ 7)
  else none

/-- The contexts bound at a part. -/
def State.boundCtxs (s : State) (p : Part) : Nat := ((upTo 1024).filter fun c => s.flag p CTX_ENTRY_VALID (c + 1)).length

/-- The security and context pages of both parts: SEC has none; ATT, DCT, CTX. -/
def State.secView (s : State) (p : Part) (page off : Nat) : Option Nat :=
  if page == pgAtt then
    let b := s.get p ATT_SEL_BLOCK
    if off == 0x48 then some (b2n (s.measure p b).isSome + s.get p ATT_BLK_STS_CHANGES (b + 1) * 2 ^ 32)
    else if 0x80 ≤ off && off < 0xC0 then some (natAt (s.measured p b) (off - 0x80) 8)
    else none
  else if page == pgCtx then
    let c := s.get p CTX_SEL_CONTEXT
    if off == 0x50 && p == .sw then
      some (getBits (s.rd .sw CTX_STS (c + 1)) 0 2 + (s.sw.hrd.herds.filter fun e => e.2.ctx == c).length * 4)
    else if off == 0x58 then
      some (s.boundCtxs p + (if p == .sw then ((upTo 1024).filter fun c => s.orphaned c).length else 0) * 2 ^ 11)
    else none
  else if p == .sw && page == pgDct then
    let i := s.get .sw DCT_REC_IDX_INDEX
    let slot := s.get .sw DCT_OPKEY_SEL_SLOT
    let keys := s.sw.dct.opKeys
    if off == 0x60 then some ((lookup s.sw.dct.recs i).elim (s.rd .sw DCT_REC_W0).toNat fun r => r % 2 ^ 64)
    else if off == 0x68 then some ((lookup s.sw.dct.recs i).elim 0 fun r => r / 2 ^ 64)
    else if off == 0xE8 then some (slot + b2n (slot < keys.length) * 4 + b2n (slot + 1 == keys.length) * 8)
    else if 0x100 ≤ off && off < 0x140 then some (natAt (keys.getD slot []) (off - 0x100) 8)
    else none
  else none

/-- The endpoint's own pages: APT, WIN, ACN, EPC, QUE, DDP. DEDUCED, log 25. -/
def State.epView (s : State) (page off shift : Nat) : Option Nat :=
  let a := s.ep.ag
  if page == pgApt then
    if off == 0x40 then some (2 * b2n (a.flush.any fun id => (s.access id).isSome))
    else if off == 0x44 then some (a.atc.length + s.get .ep APT_ATC_STS_FILLS * 2 ^ 14)
    else if off == 0x100 then
      let n := shift / 0x20
      some (getBits (s.rd .ep (apF APT_AP_CTL_VALID n).reg) 0 16 + b2n (!a.accs.any fun q => q.apt == some n && q.stage == 4) * 2 ^ 16)
    else none
  else if page == pgWin then
    if off == 0x48 then some (getBits (s.rd .ep WIN_WIN_CTL (s.winSel + 1)) 0 11 + b2n (!a.wins.any fun w => w.win == s.winSel) * 2 ^ 11)
    else if off == 0xA0 then some (getBits (s.rd .ep WIN_WIN_INV) 0 63 + b2n s.winInvBusy * 2 ^ 63)
    else none
  else if page == pgAcn && off == 0x74 then
    let slot := s.get .ep ACN_CNT_SEL_SLOT
    some ((lookup a.counts slot).getD 0 + b2n (a.recorded.contains slot) * 2 ^ 16)
  else if page == pgEpc && off == 0x50 then
    let held := a.held.filter fun e => s.tagHeld e.2
    let ord := (s.ep.reqs.filter fun r => r.tag < 32768).length + (held.filter fun e => e.1 < 32768).length
    let ni := (s.ep.reqs.filter fun r => 32768 ≤ r.tag).length + (held.filter fun e => 32768 ≤ e.1).length
    some (ord + ni * 2 ^ 16 + s.get .ep EPC_INJ_STS_TAG_WAITS * 2 ^ 32)
  else if page == pgQue && off == 0x78 then
    let q := s.queueSel
    let n := (s.ep.cmds.filter fun c => c.queue == q && c.stage == 1).length
    some (getBits (s.rd .ep QUE_Q_STS (q + 1)) 0 4 + n * 2 ^ 16)
  else if page == pgDdp && off == 0x48 then some ((s.outHeld .ep).length + s.get .ep DDP_STS_REFUSED * 2 ^ 32)
  else if page == pgPwr && off == 0x48 then some (s.get .ep PWR_DRAW_NOW)
  else none

/-- The transmit PLL of a quad: locked once SerDes calibration is past, while ENABLE holds the quad powered (R488, R490, R500). -/
def State.quadUp (s : State) (p : Part) (q : Nat) : Bool :=
  !(s.chip p).inReset && (if p == .sw then 8 else 3) < (s.chip p).step && s.flag p HDR_PAGE_CTL_ENABLE 0 (pgQad + q)
    && s.flag p CLK_STS_PLL_LOCK

/-- The pages that both parts have: CLK, GLB, ERR, QAD, FPT, SYN. -/
def State.bothView (s : State) (p : Part) (code off inst word : Nat) : Option Nat :=
  if code == 0x02 && off == 0x48 then some (s.chip p).ltc.toNat
  else if code == 0x01 && off == 0x48 then some (Config.serial p).toNat
  else if code == 0x0C && off == 0x40 then some ((s.chip p).log.length + s.get p ERR_LOG_STS_DROPS * 2 ^ 32)
  else if code == 0x0C && off == 0x80 then some ((s.chip p).log.head?.elim 0 fun r => r.words.getD word 0)
  else if code == 0x60 && off == 0x48 then
    some (b2n (s.quadUp p inst) + 2 * b2n (s.quadUp p inst) + s.get p QAD_STS_IN_USE 0 inst * 4)
  else if code == 0x61 && off == 0x40 then
    some (setBits (s.rd p FPT_CFG 0 inst) 4 5 (s.minLanesSet p inst)).toNat
  else if code == 0x21 && off == 0x58 then some (s.synValue p (s.synSel p)).toNat
  else if code == 0x21 && off == 0x88 then some (s.remoteWaits p + s.get p SYN_WAITS_REFUSED * 2 ^ 32)
  else none

/-- CXU.INV_STS, the claim registers, and the other views of the switch. -/
def State.swView (s : State) (page off : Nat) : Option Nat :=
  if page == pgCxu && off == 0xB8 then some (s.invOut + s.get .sw CXU_INV_STS_REFUSED * 2 ^ 32)
  else if page == pgHrd then s.hrdView off
  else if page == pgSvc then s.svcView off
  else if page == pgPol || page == pgDir || page == pgBlk then s.poolView page off
  else if page == pgXbr || page == pgBuf || page == pgCmb || page == pgRte then s.coreView page off
  else none

/-- The value of a register that is worked out. DEDUCED, log 26. -/
def State.viewOf (s : State) (p : Part) (page : Nat) (l : RegPlace) : Option Nat :=
  let r := l.desc.reg
  let off := if l.desc.reg.off == ERR_LOG.off && pageCode p page == 0x0C then r.off else r.off + 8 * l.word
  if r.off < 0x40 then s.headerView p page r.off
  else match s.bothView p (pageCode p page) off l.inst l.word with
    | some v => some v
    | none => match s.secView p page off with
      | some v => some v
      | none => if p == .sw then s.swView page off else s.epView page off l.shift

/-- The readable bits of a register: WO fields read zero (R503). -/
def RegDesc.readMask (d : RegDesc) : Word :=
  d.fields.foldl (fun m f => if f.acc == .wo then m else setBits m f.lo f.w (2 ^ f.w - 1)) 0

/-- The whole value of a register as it reads, without a side effect; block registers read zero during a page reset (R501). -/
def State.regValue (s : State) (p : Part) (page : Nat) (l : RegPlace) : Word :=
  if 0x40 ≤ l.desc.reg.off && s.resetting p page then 0
  else match s.viewOf p page l with
    | some v => BitVec.ofNat 64 v
    | none => s.rd p l.reg (s.bankOf p l.desc.reg) l.inst &&& l.desc.readMask

/-- The contexts resident on a core (R172, R175): none without a herd, and none on a core that is not ACTIVE; which core holds which context the spec leaves open. DESIGN CHOICE, log 24. -/
def State.rdcStsRead (s : State) (c : Nat) : State × Word :=
  if s.sw.hrd.herds.isEmpty || !s.coreActive c then (s, BitVec.ofNat 64 (getBits (s.rd .sw RDC_STS 0 c) 0 5))
  else (s.drawn, BitVec.ofNat 64 (getBits (s.rd .sw RDC_STS 0 c) 0 5 + s.draw % 1025 * 2 ^ 5))

/-- Removes the oldest record of a part's error log (R513). -/
def State.dropLog (s : State) (p : Part) : State := s.onChip p fun c => { c with log := c.log.drop 1 }

/-- A read of byte 0 of a register, with its side effect (R495, R506): the claims, the removal of a record, the acquire. DESIGN CHOICE, log 17. -/
def State.readReg (s : State) (o : Origin) (p : Part) (page : Nat) (l : RegPlace) : State × Word :=
  let v := s.regValue p page l
  let off := l.desc.reg.off + 8 * l.word
  if 0x40 ≤ off && s.resetting p page then (s, 0)
  else if p == .sw && page == pgHrd && off == 0x40 then s.readHrdClaim o
  else if p == .sw && page == pgSvc && off == 0x40 then s.readSvcClaim o
  else if p == .sw && page == pgDir && off == 0x88 then s.readOlRec1
  else if p == .sw && page == pgSyn && off == 0x58 then (s.when (o.path == .host) State.hostAcquire, v)
  else if page == pgErr && off == 0x98 then (s.dropLog p, v)
  else if p == .sw && pageCode p page == 0x70 && off == 0x40 then s.rdcStsRead (pageInst p page)
  else (s, v)

/-- The 4 bytes at an offset that is a multiple of 4; side effects go with byte 0. -/
def State.read4 (s : State) (o : Origin) (p : Part) (page off : Nat) : State × Nat :=
  match placeAt p page off with
  | none => (s, 0)
  | some l =>
    if l.byte == 0 then
      let r := s.readReg o p page l
      (r.1, getBits r.2 0 32)
    else (s, getBits (s.regValue p page l) 32 32)

/-- The 8 bytes at an offset that is a multiple of 8: an 8-byte register at once, or two 4-byte ones. -/
def State.read8 (s : State) (o : Origin) (p : Part) (page off : Nat) : State × Word :=
  match placeAt p page off with
  | some l =>
    if l.desc.wide then s.readReg o p page l
    else
      let a := s.readReg o p page l
      let b := a.1.read4 o p page (off + 4)
      (b.1, BitVec.ofNat 64 (getBits a.2 0 32 + b.2 * 2 ^ 32))
  | none =>
    let b := s.read4 o p page (off + 4)
    (b.1, BitVec.ofNat 64 (b.2 * 2 ^ 32))

/-- A read of 4 or 8 bytes of a mapped page. -/
def State.readBytes (s : State) (o : Origin) (p : Part) (page off size : Nat) : State × Word :=
  if size == 8 then s.read8 o p page off
  else
    let r := s.read4 o p page off
    (r.1, BitVec.ofNat 64 r.2)

end Sys2Proof.Machine
end

