-- ==== Sys2Proof/Machine/RegAccess.lean ====
section
/-! DEFINITION. Access to any register: the write of one register by its access type or by the rule of its own (R495, R503, R504), the common header and page resets (R497 to R502), the error log (R513), and the messages that carry an access: CSR, side-band and remote control space (R41, R345, R450, R505 to R508, R533). -/

namespace Sys2Proof.Machine

/-! ### Writes by access type (R503) -/

/-- What a write stores, field by field. -/
def RegDesc.stored (d : RegDesc) (old x : Word) : Word :=
  d.fields.foldl (fun m f =>
    let v := getBits x f.lo f.w
    let o := getBits old f.lo f.w
    match f.acc with
    | .rw | .rws => setBits m f.lo f.w v
    | .rw1c => setBits m f.lo f.w (o &&& (2 ^ f.w - 1 - v))
    | .rw1s => setBits m f.lo f.w (o ||| v)
    | .ro | .wo | .rwl => m) old

/-- Whether a write would change a field that only dual control changes. -/
def RegDesc.changesLocked (d : RegDesc) (old x : Word) : Bool :=
  d.fields.any fun f => f.acc == .rwl && getBits old f.lo f.w != getBits x f.lo f.w

/-- A write by the access types of the register's fields. -/
def State.plainWrite (s : State) (p : Part) (page : Nat) (l : RegPlace) (x : Word) : Written :=
  let b := s.bankOf p l.desc.reg
  let old := s.rd p l.reg b l.inst
  if l.desc.fields.any fun f => f.acc == .rwl then
    if l.desc.changesLocked old x then s.refused p page else (s, false)
  else if l.desc.fields.all fun f => f.acc == .ro then (s, false)
  else (s.wr p l.reg (l.desc.stored old x) b l.inst, true)

/-- A value with a field raised to a floor: "values below … are stored as …". -/
def floorField (lo w least : Nat) (x : Word) : Word := setBits x lo w (max least (getBits x lo w))

/-- A value with a field brought into a range: "stored as the nearer limit". -/
def rangeField (lo w least most : Nat) (x : Word) : Word := setBits x lo w (clamp least most (getBits x lo w))

/-- A value with one encoding of a field stored as another. -/
def swapField (lo w bad good : Nat) (x : Word) : Word := if getBits x lo w == bad then setBits x lo w good else x

/-! ### Registers whose value a rule stores as another -/

/-- A profile of BUF: MIN and MAX in 64ths, PMAX in 16ths (R260). -/
def storedProfile (x : Word) : Word :=
  let lo := min 64 (getBits x 0 7)
  let hi := getBits x 8 7
  setBits (setBits (setBits x 0 7 lo) 8 7 (if lo < hi then hi else lo + 1)) 16 5 (clamp 1 16 (getBits x 16 5))

/-- The value that a write stores where a rule of the register gives limits, by block code and offset. -/
def limited (code off : Nat) (x : Word) : Word :=
  match code, off with
  | 0x87, 0x48 => floorField 0 32 1750 x
  | 0x87, 0x60 => rangeField 0 5 6 16 x
  | 0x80, 0x48 => floorField 0 32 1750 x
  | 0x30, 0x68 => swapField 0 4 0 1 x
  | 0x31, 0x54 => floorField 0 32 1750 x
  | 0x20, 0x50 => rangeField 0 8 0 135 x
  | 0x11, 0x70 => rangeField 1 4 0 12 x
  | 0x11, 0x74 => storedProfile x
  | 0x11, 0x78 => storedProfile x
  | 0x11, 0x7C => storedProfile x
  | 0x13, 0x40 => rangeField 0 11 0 1024 x
  | 0x13, 0x78 => floorField 0 32 1750 x
  | 0x13, 0x7C => floorField 0 32 3500 x
  | 0x12, 0x44 => floorField 0 32 1750 x
  | 0x62, 0x40 => swapField 8 8 0 1 x
  | 0x62, 0x44 => floorField 0 16 175 x
  | 0x62, 0x58 => rangeField 8 6 20 39 x
  | 0x61, 0x40 => swapField 12 4 0 1 (swapField 4 5 0 1 (swapField 2 2 3 2 (swapField 0 2 3 2 x)))
  | 0x61, 0x78 => floorField 16 16 35 x
  | 0x61, 0x80 => floorField 0 32 175000 x
  | 0x60, 0x228 => swapField 2 2 3 0 (swapField 0 2 3 0 x)
  | 0x50, 0xA8 => rangeField 1 4 6 12 x
  | 0x50, 0xB4 => floorField 0 32 1750 x
  | 0x51, 0x60 => floorField 0 32 1750 x
  | 0x09, 0xD8 => floorField 0 32 175000000 x
  | 0x05, 0x48 => floorField 0 32 175000 x
  | 0x05, 0x5C => rangeField 0 32 1750000 1750000000 x
  | 0x03, 0x58 => swapField 8 12 0 1 (rangeField 0 7 0 95 x)
  | 0x03, 0x5C => floorField 0 32 17500 x
  | 0x81, 0x58 => floorField 0 32 175 x
  | 0x81, 0x60 => swapField 0 2 0 1 x
  | 0x82, 0x40 => swapField 0 2 3 2 x
  | 0x82, 0x48 => rangeField 14 4 1 12 (swapField 0 14 0 1 x)
  | 0x82, 0x4C => swapField 16 16 0 1 (swapField 0 16 0 1 x)
  | 0x84, 0x40 => floorField 0 32 3500 x
  | 0x88, 0x48 => floorField 0 32 175 x
  | _, _ => x

/-! ### Registers with a rule of their own -/

/-- Whether every port of a part is DOWN: at the switch by the state of R284, at the endpoint, which has no such state, while no link is up. DEDUCED, log 194. -/
def State.allDown (s : State) (p : Part) : Bool :=
  match p with
  | .sw => (s.portList .sw).all fun n => s.portState n == 0
  | .ep => (s.portList .ep).all fun n => s.stage .ep n != 5

/-- Whether a lane-1 share leaves each lane of TC0 to TC5 at least 18 cells on every port (R276). -/
def State.shareFits (s : State) (p : Part) (x : Word) : Bool :=
  let g (n tc : Nat) : Nat := match p with
    | .sw => s.girth n tc
    | .ep => girthDefault (s.width .ep n) tc
  (s.portList p).all fun n => (upTo 6).all fun tc => 18 + lane1Cells (g n tc) (getBits x (4 * tc) 4) ≤ g n tc

/-- Whether a girth keeps the limits of R245 and R276: the sum within 768 cells a lane, 36 cells for TC0 to TC5 with 18 on each lane. -/
def State.girthFits (s : State) (n tc g : Nat) : Bool :=
  let others := ((upTo 8).map fun t => if t == tc then g else s.girth n t).sum
  let share := bitsOf (s.get .sw RTE_LANE1_SHARE) (4 * tc) 4
  decide (others ≤ 768 * s.width .sw n) && (decide (6 ≤ tc) || decide (36 ≤ g ∧ 18 + lane1Cells g share ≤ g))

/-- BUF.GIRTH of the port and class that BUF.PSEL names (R245). -/
def State.setGirth (s : State) (x : Word) : Written :=
  let n := s.get .sw BUF_PSEL_PORT
  let tc := s.get .sw BUF_PSEL_TC
  let g := getBits x 0 14
  if s.stage .sw n == 5 || !s.girthFits n tc g then s.refused .sw pgBuf
  else (s.put .sw BUF_GIRTH_CELLS g (bankPC n tc), true)

/-- RTE.PORT_CTL of the port that RTE.PORT_SEL names (R285, R291): a change of NEIGHBOR or NEIGHBOR_VALID while the port is not DOWN is refused. DEDUCED, log 18. -/
def State.setPortCtl (s : State) (x : Word) : Written :=
  let n := s.get .sw RTE_PORT_SEL_PORT
  let b := n + 1
  let was := s.flag .sw RTE_PORT_CTL_NEIGHBOR_VALID b
  let moved := getBits x 2 18 != getBits (s.rd .sw RTE_PORT_CTL b) 2 18
  if moved && s.portState n != 0 then s.refused .sw pgRte
  else
    let s := (s.put .sw RTE_PORT_CTL_NEIGHBOR (getBits x 2 17) b).put .sw RTE_PORT_CTL_NEIGHBOR_VALID (getBits x 19 1) b
    let s := if getBits x 1 1 != s.get .sw RTE_PORT_CTL_DISABLE b then s.rteDisable n (getBits x 1 1) else s
    let s := s.when (x.getLsbD 0) fun s => s.setRouteOk n
    (s.when (!was && x.getLsbD 19 && s.stage .sw n == 0) fun s => s.startTack .sw n, true)

/-- FPT.CFG: MIN_LANES is at most the width of the port (R342). -/
def State.setPortCfg (s : State) (p : Part) (page n : Nat) (l : RegPlace) (x : Word) : Written :=
  s.plainWrite p page l (setBits x 4 5 (min (max 1 (s.width p n)) (getBits x 4 5)))

/-- Whether a port is not DOWN: its tack-up is complete (R284, R331). -/
def State.portUp (s : State) (p : Part) (n : Nat) : Bool :=
  match p with
  | .sw => s.portState n != 0
  | .ep => s.stage .ep n == 5

/-- FPT.CTL (R335, R339, R342): the loopback is stored while the port is DOWN, and otherwise recorded as refused, then DISABLE, RESTART and RETRAIN act. DESIGN CHOICE, log 22. -/
def State.setPortCommand (s : State) (p : Part) (n : Nat) (x : Word) : Written :=
  let lp := getBits x 4 2
  let s := if lp == s.get p FPT_CTL_LPBK 0 n then s else if s.portUp p n then s.refuse p (pgFpt + n) else s.put p FPT_CTL_LPBK lp 0 n
  let s := if getBits x 2 1 != s.get p FPT_CTL_DISABLE 0 n then s.portDisable p n (getBits x 2 1) else s
  let s := s.when (x.getLsbD 0) fun s => s.portRestart p n
  (s.when (x.getLsbD 1) fun s => s.startRetrain p n true, true)

/-- QAD.LANE_TX_EQ (R343): with OVERRIDE clear, writes to the taps are ignored. DEDUCED, log 19. -/
def State.setTxEq (s : State) (p : Part) (page : Nat) (l : RegPlace) (x : Word) : Written :=
  if x.getLsbD 31 then s.plainWrite p page l x
  else
    let old := s.rd p l.reg 0 l.inst
    if old.getLsbD 31 then (s.wr p l.reg (setBits old 31 1 0) 0 l.inst, true) else (s, false)

/-- LNK.REKEY: the soft point, and a request (R320). -/
def State.setRekey (s : State) (p : Part) (page n : Nat) (l : RegPlace) (x : Word) : Written :=
  let r := s.plainWrite p page l x
  (r.1.when (x.getLsbD 0) fun s => s.rekeyRequest p n, r.2)

/-- CXU.INV_CFG (R58, R387): the ring does not change while ENABLE is 1, and enabling needs the agreed feature INVALIDATION. -/
def State.setInvCfg (s : State) (page : Nat) (l : RegPlace) (x : Word) : Written :=
  let on := s.flag .sw CXU_INV_CFG_ENABLE
  if !(s.rd .sw MGT_FEAT).getLsbD 4 then s.refused .sw page
  else if on && x.getLsbD 0 then s.refused .sw page
  else if on then (s.put .sw CXU_INV_CFG_ENABLE 0, true)
  else s.plainWrite .sw page l x

/-- SBP.CFG (R448): with I3C_EN cleared the port is an SMBus target, without a dynamic address. -/
def State.setSbpCfg (s : State) (page : Nat) (l : RegPlace) (x : Word) : Written :=
  let r := s.plainWrite .sw page l x
  (r.1.when (!x.getLsbD 0) fun s => (s.put .sw SBP_STS_MODE 1).put .sw SBP_STS_DYN_ADDR 0, r.2)

/-- The switch's pages in order. -/
def switchPages : List Nat := (pageMap .sw).foldr (fun e acc => (upTo e.2.1).map (e.1 + ·) ++ acc) []

/-- SBP.ALERT (R453): clearing PENDING raises the alert again for another page whose unmasked cause is routed to the side-band. DESIGN CHOICE, log 28. -/
def State.setAlert (s : State) (x : Word) : Written :=
  if x.getLsbD 10 && s.flag .sw SBP_ALERT_PENDING then
    let old := s.get .sw SBP_ALERT_PAGE
    let s := s.put .sw SBP_ALERT_PENDING 0
    match switchPages.find? fun g => g != old && s.flag .sw HDR_INT_ROUTE_SB_EN 0 g && s.unmasked .sw g != 0 with
    | some g => (s.alertSideband g, true)
    | none => (s, true)
  else (s, true)

/-- BRD.RATE of the selected bridle: its bucket is brought to this tick first, and the quiet intervals that have passed raise the value written no more (R362, R371). -/
def State.setRate (s : State) (x : Word) : Written :=
  let ix := s.brdSel
  let b := s.bridleNow ix
  let d := s.get .ep BRD_TIMING_INC_TICKS
  let b := { b with incFrom := b.incFrom + (s.now .ep - b.incFrom) / d * d, rose := none }
  let s := s.onRly fun r => { r with bridles := insertAt r.bridles ix b }
  (s.put .ep BRD_RATE_RATE (getBits x 0 14) (ix + 1), true)

/-- ERR.LOG_CTL.CLEAR (R513). -/
def State.clearLog (s : State) (p : Part) : State := (s.onChip p fun c => { c with log := [] }).put p ERR_LOG_STS_DROPS 0

/-- The control register that acts on a write of 1 to one of its bits: the commands of RST.CTL and PWR.EP_RST, the deepest reset first (R492, R493). DESIGN CHOICE, log 22. -/
def State.setRstCtl (s : State) (path : Path) (x : Word) : Written :=
  if x.getLsbD 0 then s.rstColdW path
  else if x.getLsbD 1 then s.rstWarmW
  else if x.getLsbD 2 then s.rstFabricW
  else (s, true)

/-- PWR.EP_RST. DESIGN CHOICE, log 22. -/
def State.setEpRst (s : State) (x : Word) : Written :=
  if x.getLsbD 0 then s.epWarmW else if x.getLsbD 1 then s.epFabricW else (s, true)

/-- The command of one bit of a written word, after those of the bits before it; the write takes effect when every command that it gives does. -/
def Written.also (w : Written) (on : Bool) (f : State → Written) : Written :=
  if on then
    let r := f w.1
    (r.1, w.2 && r.2)
  else w

/-- RDC.CTL (R175): FENCE, READMIT and SELFTEST act or are refused in the order of their bits. DESIGN CHOICE, log 200. -/
def State.setCoreCtl (s : State) (c : Nat) (x : Word) : Written :=
  let w : Written := (s, true)
  ((w.also (x.getLsbD 0) fun s => s.rdcFence c).also (x.getLsbD 1) fun s => s.rdcReadmit c).also (x.getLsbD 2) fun s => s.rdcSelftest c

/-- DIR.AGT_CTL (R143): READMIT and FENCE act or are refused in the order of their bits. DESIGN CHOICE, log 200. -/
def State.setAgtCtl (s : State) (x : Word) : Written :=
  let w : Written := (s, true)
  (w.also (x.getLsbD 0) State.agtReadmit).also (x.getLsbD 1) fun s => (s.agtFence, true)

/-- MGT.FW_CFG (R447): MANUAL_CONFIRM is stored; CONFIRM acts from the side-band only. -/
def State.setFwCfg (s : State) (path : Path) (x : Word) : Written :=
  if x.getLsbD 1 && path != .sideband then s.refused .sw pgMgt
  else
    let s := s.put .sw MGT_FW_CFG_MANUAL_CONFIRM (getBits x 0 1)
    if x.getLsbD 1 then s.confirmW else (s, true)

/-- A change of a page whose rule keeps it while a flag is set: ignored and recorded. -/
def State.unless (s : State) (busy : Bool) (p : Part) (page : Nat) (l : RegPlace) (x : Word) : Written :=
  if busy then s.refused p page else s.plainWrite p page l x

/-- HRD.SLOT_LSUM of the slot that HRD.VIEW_SEL names. -/
def State.setLateSum (s : State) (x : Word) : Written :=
  let i := s.get .sw HRD_VIEW_SEL_HERD
  match s.herd i with
  | some h => (s.putHerd i { h with lsum := insertAt h.lsum (s.get .sw HRD_VIEW_SEL_SLOT) x.toNat }, true)
  | none => (s, true)

/-- The HRD and SVC pages: writes of the stages by the claimant (R183, R212, R239). -/
def State.stagedWrite (s : State) (o : Origin) (page off : Nat) (l : RegPlace) (x : Word) : Option Written :=
  if page == pgHrd then
    if off == 0x48 then some (s.writeHrdCmd o x)
    else if 0x80 ≤ off && off < 0xC0 then some (s.hrdStageWrite o fun s => s.plainWrite .sw page l x)
    else if off == 0xC0 || off == 0xC8 then
      some (s.hrdStageWrite o fun s =>
        let i := s.get .sw HRD_SLOT_SEL_INDEX
        let e := (lookup s.sw.hrd.entries i).getD (0, 0)
        let e := if off == 0xC0 then (x, e.2) else (e.1, x)
        (s.onHrd fun h => { h with entries := insertAt h.entries i e }, true))
    else if off == 0x120 then some (s.setLateSum x)
    else none
  else if page == pgSvc then
    if off == 0x48 then some (s.writeSvcCmd o x)
    else if off == 0x68 then some (s.setCommitted x)
    else if 0x200 ≤ off then some (s.svcStageWrite o fun s => s.plainWrite .sw page l x)
    else none
  else none

/-- The pages of both parts with writes of their own: QAD, FPT, LNK, SYN, ERR. -/
def State.ownWriteBoth (s : State) (p : Part) (page code off : Nat) (l : RegPlace) (x : Word) : Option Written :=
  let n := l.inst
  match code, off with
  | 0x60, 0x208 => some (s.setTxEq p page l x)
  | 0x61, 0x40 => some (s.setPortCfg p page n l x)
  | 0x61, 0x48 => some (s.setPortCommand p n x)
  | 0x62, 0x58 => some (s.setRekey p page n l x)
  | 0x21, 0x48 => some (s.setSynCfg p x)
  | 0x21, 0x68 => some (s.when (x.getLsbD 0) fun s => s.synClearError p (s.synSel p), true)
  | 0x0C, 0x48 => some (s.when (x.getLsbD 0) fun s => s.clearLog p, true)
  | _, _ => none

/-- The pages of the switch with writes of their own. -/
def State.ownWriteSw (s : State) (path : Path) (page code off : Nat) (l : RegPlace) (x : Word) : Option Written :=
  match code, off with
  | 0x01, 0x58 => some (s.setGroup x)
  | 0x01, 0x60 => some (s.setLayout x)
  | 0x03, 0x50 => some (s.setPwrCtl x, true)
  | 0x04, 0x40 => some (s.setRstCtl path x)
  | 0x05, 0x4C => some (s, false)
  | 0x05, 0x58 => some (s.beatW (getBits x 0 32))
  | 0x05, 0x80 => some (s.mailbox (getBits x 0 8))
  | 0x05, 0x98 => some (s.setFwCfg path x)
  | 0x06, 0x48 => some (s.setSbpCfg page l x)
  | 0x06, 0x4C => some (s.setAlert x)
  | 0x21, 0x60 => some (s.hostAdd x)
  | 0x09, 0x50 => some (s.writeStageCtl path x)
  | 0x09, 0x60 => some (s.dctW0 path x)
  | 0x09, 0x68 => some (s.dctW1 path x)
  | 0x09, 0xC0 => some (s.writeSigCtl path x)
  | 0x09, 0xC8 => some (s.sigDataW path x)
  | 0x09, 0xD8 => some (s.unless (s.dctState != 0) .sw page l x)
  | 0x10, 0x48 => some (s.setMidFence false x, true)
  | 0x10, 0x50 => some (s.setMidFence true x, true)
  | 0x11, 0x50 => some (s.setGirth x)
  | 0x12, 0x40 => some (s.setCgtEnable (getBits x 0 1), true)
  | 0x12, 0x44 => some (s.unless (s.flag .sw CGT_CTL_ENABLE) .sw page l x)
  | 0x14, 0x4C => some (s.setPortCtl x)
  | 0x14, 0x54 => if s.x4 then none else some (s, false)
  | 0x14, 0x58 => some (s.unless (!s.allDown .sw || !s.shareFits .sw x) .sw page l x)
  | 0x30, 0x4C => some (if x.getLsbD 0 then s.granRetire else (s, true))
  | 0x31, 0x50 => some (s.setAgtCtl x)
  | 0x50, 0x40 => some (s.setBiEn (x.getLsbD 10))
  | 0x50, 0x80 => some (s.refused .sw page)
  | 0x50, 0xA0 => some (s.unless (s.flag .sw CXU_INV_CFG_ENABLE) .sw page l x)
  | 0x50, 0xA8 => some (s.setInvCfg page l x)
  | 0x51, 0x48 => some (s.when (x.getLsbD 0) fun s => s.cxdRestartPort l.inst, true)
  | 0x70, 0x48 => some (s.setCoreCtl l.inst x)
  | _, _ => none

/-- The pages of the endpoint with writes of their own. -/
def State.ownWriteEp (s : State) (page code off : Nat) (l : RegPlace) (x : Word) : Option Written :=
  let n := l.shift / 0x20
  match code, off with
  | 0x86, 0x40 => some (s.when (x.getLsbD 0) State.atcFlush, true)
  | 0x86, 0x100 => some (s.setApCtl n x)
  | 0x86, 0x108 => some (s.setApReg n l.desc.reg (l.desc.stored 0 x))
  | 0x86, 0x110 => some (s.setApReg n l.desc.reg (l.desc.stored 0 x))
  | 0x86, 0x118 => some (s.setApReg n l.desc.reg (l.desc.stored 0 x))
  | 0x85, 0x48 => some (s.setWinCtl x)
  | 0x85, 0x50 => some (s.setWinReg l.desc.reg (l.desc.stored 0 x))
  | 0x85, 0x58 => some (s.setWinReg l.desc.reg (l.desc.stored 0 x))
  | 0x85, 0x60 => some (s.setWinReg l.desc.reg (l.desc.stored 0 x))
  | 0x85, 0x88 => some (s.setGrant x)
  | 0x85, 0xA0 => some (s.setWinInv x)
  | 0x87, 0x40 => some (s.setAcnCtl x, true)
  | 0x87, 0x48 => some (s.unless (s.flag .ep ACN_ACN_CTL_ENABLE) .ep page l x)
  | 0x87, 0x58 => some (s.unless (s.flag .ep ACN_ACN_CTL_ENABLE) .ep page l x)
  | 0x87, 0x60 => some (s.unless (s.flag .ep ACN_ACN_CTL_ENABLE) .ep page l x)
  | 0x87, 0x100 => some (s.setRange n x)
  | 0x80, 0x40 => some (s.setNodeId (getBits x 0 17))
  | 0x03, 0x80 => some (s.setEpRst x)
  | 0x83, 0x48 => some (s.setQueueCfg x)
  | 0x83, 0x50 => some (s.setQueueReg l.desc.reg (l.desc.stored 0 x))
  | 0x83, 0x58 => some (s.setQueueReg l.desc.reg (l.desc.stored 0 x))
  | 0x83, 0x60 => some (s.setQueueReg l.desc.reg (l.desc.stored 0 x))
  | 0x83, 0x68 => some (s.setTail s.queueSel (getBits x 0 32), true)
  | 0x81, 0x40 => some (s.setPlaneMap 1 x, true)
  | 0x81, 0x48 => some (s.setPlaneMap 2 x, true)
  | 0x81, 0x50 => some (s.setPlaneMap 3 x, true)
  | 0x81, 0x5C => some (s.unless (!s.allDown .ep || !s.shareFits .ep x) .ep page l x)
  | 0x81, 0x78 => if s.split then none else some (s, false)
  | 0x82, 0x50 => some (s.setRate x)
  | _, _ => none

/-- A write of a block register: by its own rule where it has one, by its access types otherwise. -/
def State.blockWrite (s : State) (o : Origin) (p : Part) (page : Nat) (l : RegPlace) (x : Word) : Written :=
  let code := pageCode p page
  let off := l.desc.reg.off
  let x := limited code off x
  let own := match p with
    | .sw => if code == 0x31 && off == 0xA0 then some (s.olClear o x)
      else (s.stagedWrite o page off l x).orElse fun _ => s.ownWriteSw o.path page code off l x
    | .ep => s.ownWriteEp page code off l x
  match own with
  | some w => w
  | none => (s.ownWriteBoth p page code off l x).getD (s.plainWrite p page l x)

/-! ### The common header (R497 to R502) -/

/-- Counters among the read-only registers of the pages that take a page reset (R501). -/
def counterRegs : List Reg :=
  [FPT_EVENTS, RDC_OPS, RDC_CHUNKS, RDC_RESIDUE_ERR, CMB_GROUPS, CMB_MERGED, CMB_NOENTRY, CMB_OUT_STS, CMB_OUT_HITS, RTE_DISC,
   RTE_PROBES, UCI_ERR, UCI_EVENTS, RLY_DISC, RLY_RELAYED, DDP_STS, DDP_HITS, DDP_RESEND, DDP_RELEASE] ++
  [LNK_RETRY, LNK_FLIT_ERR, LNK_SEAL_ERR, QAD_LANE_LOCK_LOSS, BLK_HITS, BLK_MISSES, BLK_VICTIMS, CXD_ERRS, CGT_PUSH_STS,
   BRD_STATS, BRD_IGNORED, XBR_CELLS, BUF_MARKS, BUF_MCAST, CXU_INV_STS, ACN_RING_DROP]

/-- Whether a register's own rule makes it unwritable now, so that a page reset leaves it (R501). `b` is its bank, `inst` its instance. DEDUCED, log 23. -/
def State.locked (s : State) (code off b : Nat) (x : Word) : Bool :=
  if code == 0x10 then off == 0x48 || off == 0x50
  else if code == 0x11 then off == 0x50 && s.stage .sw ((b - 1) / 16) == 5
  else if code == 0x14 then (off == 0x58 && !s.allDown .sw) || (off == 0x54 && !s.x4)
  else if code == 0x81 then off == 0x5C && !s.allDown .ep
  else if code == 0x12 then off == 0x44 && s.flag .sw CGT_CTL_ENABLE
  else if code == 0x87 then s.flag .ep ACN_ACN_CTL_ENABLE && (off == 0x48 || off == 0x58 || off == 0x60)
  else if code == 0x50 then (off == 0xA0 && s.flag .sw CXU_INV_CFG_ENABLE) || (off == 0x40 && s.tspLocked)
  else if code == 0x60 then off == 0x208 && !x.getLsbD 31
  else false

/-- The value of a register after a page reset: RW and RW1S fields and counters at their reset values. -/
def RegDesc.afterReset (d : RegDesc) (x : Word) : Word :=
  let rst := BitVec.ofNat 64 d.reg.reset
  d.fields.foldl (fun m f =>
    if f.acc == .rw || f.acc == .rw1s || (f.acc == .ro && counterRegs.contains d.reg) then
      setBits m f.lo f.w (getBits rst f.lo f.w) else m) x

/-- One register of the page under a page reset; NEIGHBOR of RTE.PORT_CTL stays while its port is not DOWN, and LOG2_ENTRIES of CXU.INV_CFG while ENABLE is 1. -/
def State.resetOne (s : State) (p : Part) (page k : Nat) (x : Word) : Word :=
  let code := pageCode p page
  let b := k / 2 ^ 24 % 2 ^ 24
  match placeAt p page (keyOff k) with
  | none => x
  | some l =>
    if s.locked code l.desc.reg.off b x then x
    else
      let y := l.desc.afterReset x
      if code == 0x14 && l.desc.reg.off == 0x4C && s.portState (b - 1) != 0 then setBits y 2 18 (getBits x 2 18)
      else if code == 0x50 && l.desc.reg.off == 0xA8 && x.getLsbD 0 then setBits y 1 4 (getBits x 1 4)
      else y

/-- The fields of a page return to their reset values; a girth without an entry is its default (R246, R501). DEDUCED, log 23. -/
def State.resetFields (s : State) (p : Part) (page : Nat) : State :=
  let mine (k : Nat) : Bool := keyPage k == page && 0x40 ≤ keyOff k
  let girth (k : Nat) : Bool := pageCode p page == 0x11 && keyOff k == 0x50
  let drop (k : Nat) : Bool := mine k && girth k && !s.locked 0x11 0x50 (k / 2 ^ 24) 0
  let put (k : Nat) (x : Word) : Word := if mine k && !girth k then s.resetOne p page k x else x
  s.onChip p fun c => { c with regs := mapVals put (keepIf (fun k _ => !drop k) c.regs) }

/-- The ports that use a quad. -/
def State.quadPorts (s : State) (p : Part) (q : Nat) : List Nat :=
  (s.portList p).filter fun n => s.laneBase p n < 4 * q + 4 && 4 * q < s.laneBase p n + s.width p n

/-- What a page's rules do when its fields return to their reset values, before the fields do: plane maps flip, the bridles' buckets come to this tick, the back-invalidate enable clears. DEDUCED, log 23. -/
def State.beforeReset (s : State) (p : Part) (code : Nat) : State :=
  match p with
  | .sw => if code == 0x50 then (s.setBiEn false).1 else s
  | .ep =>
    if code == 0x81 then
      (upTo 3).foldl (fun s a => s.setPlaneMap (a + 1) (BitVec.ofNat 64 (pmapReg (a + 1)).reset)) s
    else if code == 0x82 then
      (upTo 12).foldl (fun s ix =>
        let b := s.bridleNow ix
        s.onRly fun r => { r with bridles := insertAt r.bridles ix b }) s
    else s

/-- The further effects of a page reset (R501): the links of the page go down and restart, the core is fenced; a port that DISABLE held is released, and a bulk port that ENABLE held down is brought up (R500). DEDUCED, log 23. -/
def State.afterReset (s : State) (p : Part) (code inst : Nat) (freed : List Nat) : State :=
  if code == 0x61 || code == 0x62 then s.portRestart p inst
  else if code == 0x60 then (s.quadPorts p inst).foldl (fun s n => s.portRestart p n) s
  else
    match p with
    | .sw =>
      if code == 0x70 then (s.rdcFence inst).1
      else if code == 0x51 then freed.foldl (fun s n => if s.cxdMay n then s.cxdBringUp n else s) s
      else freed.foldl (fun s n => if s.stage .sw n == 0 then s.startTack .sw n else s) s
    | .ep => s

/-- A page reset (R501): ENABLE, where it is writable, is one of the page's RW fields. DEDUCED, log 23. -/
def State.pageReset (s : State) (p : Part) (page : Nat) : State :=
  let code := pageCode p page
  let freed := if code == 0x14 then (s.portList .sw).filter fun n => s.flag .sw RTE_PORT_CTL_DISABLE (n + 1)
    else if code == 0x51 && !s.flag p HDR_PAGE_CTL_ENABLE 0 page then [pageInst p page] else []
  let s := (s.beforeReset p code).resetFields p page
  let s := s.when (enableCtl code) fun s => s.put p HDR_PAGE_CTL_ENABLE 1 0 page
  let s := s.withCauses p page fun s => s.wr p HDR_INT_CAUSE 0 0 page
  let s := s.afterReset p code (pageInst p page) freed
  let now := s.now p
  s.onChip p fun c => { c with pageResets := insertAt c.pageResets page now }

/-- PAGE_CTL.ENABLE changed on a page where it is writable (R500). -/
def State.setEnable (s : State) (p : Part) (page v : Nat) : Written :=
  let code := pageCode p page
  let n := pageInst p page
  let store (s : State) : State := s.put p HDR_PAGE_CTL_ENABLE v 0 page
  if code == 0x61 then
    let s := store s
    (if v == 0 then if 0 < s.stage p n then s.linkLost p n 0 none else s
     else if s.stage p n == 0 then s.startTack p n else s, true)
  else if code == 0x60 then
    if v == 0 && s.get p QAD_STS_IN_USE 0 n != 0 then s.refused p page else (store s, true)
  else
    match p with
    | .sw =>
      if code == 0x70 then
        let r := if v == 0 then s.rdcFence n else s.rdcReadmit n
        (if r.2 then store r.1 else r.1, r.2)
      else
        let s := store s
        (if v == 0 then if s.bulkUp n then s.bulkDown n else s else if s.cxdMay n then s.cxdBringUp n else s, true)
    | .ep => (store s, true)

/-- A write of PAGE_CTL (R497, R500 to R502). DEDUCED, log 21. -/
def State.writePageCtl (s : State) (p : Part) (page : Nat) (x : Word) : Written :=
  let code := pageCode p page
  let en := getBits x 0 1
  let moves := enableCtl code && en != s.get p HDR_PAGE_CTL_ENABLE 0 page
  if s.flag p HDR_PAGE_CTL_FENCE 0 page && (moves || x.getLsbD 1) then s.refused p page
  else if x.getLsbD 1 && resetRefused code then s.refused p page
  else
    let r := if moves then s.setEnable p page en else (s, true)
    if !r.2 then r
    else
      let s := r.1.when (x.getLsbD 2) fun s => s.put p HDR_PAGE_CTL_FENCE 1 0 page
      (s.when (x.getLsbD 1) fun s => s.pageReset p page, true)

/-- INT_FORCE sets causes without a record (R497). -/
def State.forceCauses (s : State) (p : Part) (page : Nat) (x : Word) : State :=
  s.withCauses p page fun s => s.wr p HDR_INT_CAUSE (s.rd p HDR_INT_CAUSE 0 page ||| BitVec.ofNat 64 (getBits x 0 32)) 0 page

/-- A write of ERR_COUNT sets the count and clears ERR_FIRST.VALID (R497). -/
def State.setErrCount (s : State) (p : Part) (page : Nat) (x : Word) : State :=
  (s.put p HDR_ERR_COUNT_COUNT (getBits x 0 32) 0 page).put p HDR_ERR_FIRST_VALID 0 0 page

/-- A write of a header register. -/
def State.headerWrite (s : State) (p : Part) (page off : Nat) (x : Word) : Written :=
  let v : Word := BitVec.ofNat 64 (getBits x 0 32)
  if off == 0x08 then s.writePageCtl p page x
  else if off == 0x10 then (s.withCauses p page fun s => s.wr p HDR_INT_CAUSE (s.rd p HDR_INT_CAUSE 0 page &&& ~~~v) 0 page, true)
  else if off == 0x14 then (s.withCauses p page fun s => s.wr p HDR_INT_MASK v 0 page, true)
  else if off == 0x18 then (s.forceCauses p page x, true)
  else if off == 0x1C then
    let m : Word := if p == .sw then 0x307FF else 0x107FF
    (s.withCauses p page fun s => s.wr p HDR_INT_ROUTE (x &&& m) 0 page, true)
  else if off == 0x28 then (s.setErrCount p page x, true)
  else (s, false)

/-! ### One register, by any path (R495) -/

/-- A write of the whole of one register. -/
def State.writeReg (s : State) (o : Origin) (p : Part) (page : Nat) (l : RegPlace) (x : Word) : Written :=
  if l.desc.reg.off < 0x40 then s.headerWrite p page l.desc.reg.off x else s.blockWrite o p page l x

/-- A 4-byte write: an offset that no register occupies ignores it, and a register of 8 bytes refuses it (R494, R495). -/
def State.write4 (s : State) (o : Origin) (p : Part) (page off : Nat) (x : Word) : State × Nat :=
  (s.strayBeat o.path p page off).writeFrame o.path p page off fun s =>
    match placeAt p page off with
    | none => (s, false)
    | some l => if l.desc.wide then s.refused p page else s.writeReg o p page l x

/-- A write of 4 or 8 bytes: an 8-byte register at once, or two registers of 4 bytes. DEDUCED, log 14, 15. -/
def State.writeBytes (s : State) (o : Origin) (p : Part) (page off size : Nat) (x : Word) : State × Nat :=
  let both : State × Nat :=
    let a := s.write4 o p page off (BitVec.ofNat 64 (getBits x 0 32))
    let b := a.1.write4 o p page (off + 4) (BitVec.ofNat 64 (getBits x 32 32))
    (b.1, if b.2 == stOK then stOK else a.2)
  if size != 8 then s.write4 o p page off x
  else match placeAt p page off with
    | some l => if l.desc.wide then s.writeFrame o.path p page off fun s => s.writeReg o p page l x else both
    | none => both

/-- Whether an access has a size of 4 or 8 bytes, is aligned to it and lies in the page (R495). DEDUCED, log 13. -/
def sizeOk (off size : Nat) : Bool := (size == 4 || size == 8) && off % size == 0 && off < 4096

/-- An access by one of the paths, and its completion on a path that returns one (R495, R505, R533). A bad size or alignment reads zero on the host BAR and records a write in GLB, or in CXU where it meets INV_SUBMIT (R386); on the other paths it completes UNSUPPORTED. DEDUCED, log 13. -/
def State.regAccess (s : State) (o : Origin) (p : Part) (write : Bool) (page off size : Nat) (x : Word) : State × Nat × Word :=
  if !sizeOk off size then
    if o.path == .host then
      (if write then s.refuse p (if page == pgCxu && 0x60 < off && off < 0xA0 then pgCxu else pgGlb) else s, stOK, 0)
    else (s, stUNSUPPORTED, 0)
  else if write then
    let r := s.writeBytes o p page off size x
    (r.1, r.2, 0)
  else s.readFrame o.path p page off fun s => s.readBytes o p page off size

/-- An access whose completion goes back on its path. -/
def State.accessDone (s : State) (o : Origin) (p : Part) (write : Bool) (page off size : Nat) (x : Word) : State :=
  let r := s.regAccess o p write page off size x
  r.1.regDone p o.path r.2.1 r.2.2

/-! ### The rows -/

/-- CSR (R345, R505): the accelerator's access to the endpoint's control region. DESIGN CHOICE, log 17. -/
def csr (write : Bool) (page off size : Nat) (x : Word) (s : State) : State := s.accessDone { path := .csr } .ep write page off size x

def execCsr (write : Bool) (page off size : Nat) (x : Word) (s : State) : Host.Outcome State Fault Refusal := .next (csr write page off size x s)

/-- SB_REGISTER_ACCESS (R450). -/
def sbRegisterAccess (write : Bool) (page off size : Nat) (x : Word) (s : State) : State :=
  s.accessDone { path := .sideband } .sw write page off size x

def execSbRegisterAccess (write : Bool) (page off size : Nat) (x : Word) (s : State) : Host.Outcome State Fault Refusal :=
  .next (sbRegisterAccess write page off size x s)

/-- Whether a control-space request is formed as R41 says: no bit of [43:24], [60] zero for a switch, a naturally aligned size of 4 or 8. -/
def ctlFormed (kind id mid off len : Nat) : Bool :=
  mid == 0 && !(kind == 1 && id.testBit 16) && (len == 4 || len == 8) && off % len == 0

/-- Whether an identity is the part's own. DEDUCED, log 31. -/
def State.isTarget (s : State) (p : Part) (kind id : Nat) : Bool :=
  match p with
  | .sw => kind == 1 && id == s.switchId
  | .ep => kind == 0 && id == s.nodeId

/-- A control-space request that has arrived at a part (R41, R406, R508); one that crosses a 4 KiB boundary is recorded (R39). DEDUCED, log 31. -/
def State.control (s : State) (p : Part) (k : Packet) (write : Bool) : State :=
  let s := s.consume p k
  if !crcOk k then (s.crcFail p k).reply p k stINTEGRITY
  else match placeOf k.addr with
    | .control kind id mid off =>
      if 4096 < off % 4096 + k.len then (s.event p pgErr .reqMalformed k.src k.op).reply p k stUNSUPPORTED
      else if !ctlFormed kind id mid off k.len then s.reply p k stUNSUPPORTED
      else if !s.isTarget p kind id then s.reply p k stUNREACHABLE
      else if p == .sw && s.orphaned k.ctx then s.reply p k stSTALE_CONTEXT
      else if !s.ctlPriv p k.ctx then s.reply p k stPERMISSION
      else
        let o : Origin := { path := .remote, node := k.src, ctx := k.ctx }
        let r := s.regAccess o p write (off / 4096) (off % 4096) k.len (BitVec.ofNat 64 (natAt k.payload 0 k.len))
        r.1.reply p k r.2.1 (if !write && r.2.1 == stOK then leBytes k.len r.2.2.toNat else [])
    | _ => s.reply p k stUNSUPPORTED

/-- CTL_READ. DESIGN CHOICE, log 17. -/
def ctlRead (p : Part) (k : Packet) (s : State) : State := s.control p k false

def execCtlRead (p : Part) (k : Packet) (s : State) : Host.Outcome State Fault Refusal := .next (ctlRead p k s)

/-- CTL_WRITE. -/
def ctlWrite (p : Part) (k : Packet) (s : State) : State := s.control p k true

def execCtlWrite (p : Part) (k : Packet) (s : State) : Host.Outcome State Fault Refusal := .next (ctlWrite p k s)

/-- PAGE_ENABLE_WRITE (R500): a write of PAGE_CTL that sets or clears ENABLE. -/
def pageEnableWrite (path : Path) (p : Part) (page v : Nat) (s : State) : State :=
  s.writeBy path p page 0x08 fun s => s.writePageCtl p page (BitVec.ofNat 64 (v % 2))

def execPageEnableWrite (path : Path) (p : Part) (page v : Nat) (s : State) : Host.Outcome State Fault Refusal := .next (pageEnableWrite path p page v s)

/-- The value of PAGE_CTL with ENABLE as it stands and one more bit. -/
def State.ctlWith (s : State) (p : Part) (page bit : Nat) : Word := BitVec.ofNat 64 (s.get p HDR_PAGE_CTL_ENABLE 0 page + 2 ^ bit)

/-- PAGE_SOFT_RESET (R501). -/
def pageSoftReset (path : Path) (p : Part) (page : Nat) (s : State) : State :=
  s.writeBy path p page 0x08 fun s => s.writePageCtl p page (s.ctlWith p page 1)

def execPageSoftReset (path : Path) (p : Part) (page : Nat) (s : State) : Host.Outcome State Fault Refusal := .next (pageSoftReset path p page s)

/-- SOFT_RESET_DONE (R501): within 1,750 ticks of its start. -/
def softResetDone (p : Part) (page : Nat) (s : State) : State :=
  s.onChip p fun c => { c with pageResets := removeAt c.pageResets page }

def execSoftResetDone (p : Part) (page : Nat) (s : State) : Host.Outcome State Fault Refusal := .next (softResetDone p page s)

/-- PAGE_FENCE (R502). -/
def pageFence (path : Path) (p : Part) (page : Nat) (s : State) : State :=
  s.writeBy path p page 0x08 fun s => s.writePageCtl p page (s.ctlWith p page 2)

def execPageFence (path : Path) (p : Part) (page : Nat) (s : State) : Host.Outcome State Fault Refusal := .next (pageFence path p page s)

/-- INT_FORCE_WRITE (R497). -/
def intForceWrite (path : Path) (p : Part) (page : Nat) (x : Word) (s : State) : State :=
  s.writeBy path p page 0x18 fun s => (s.forceCauses p page x, true)

def execIntForceWrite (path : Path) (p : Part) (page : Nat) (x : Word) (s : State) : Host.Outcome State Fault Refusal := .next (intForceWrite path p page x s)

/-- ERR_COUNT_WRITE (R497). -/
def errCountWrite (path : Path) (p : Part) (page : Nat) (x : Word) (s : State) : State :=
  s.writeBy path p page 0x28 fun s => (s.setErrCount p page x, true)

def execErrCountWrite (path : Path) (p : Part) (page : Nat) (x : Word) (s : State) : Host.Outcome State Fault Refusal := .next (errCountWrite path p page x s)

/-- ERR_LOG_CLEAR (R513). -/
def errLogClear (path : Path) (p : Part) (s : State) : State := s.writeBy path p pgErr 0x48 fun s => (s.clearLog p, true)

def execErrLogClear (path : Path) (p : Part) (s : State) : Host.Outcome State Fault Refusal := .next (errLogClear path p s)

/-- The last word of the oldest record. -/
def State.logWord3 (s : State) (p : Part) : Word := BitVec.ofNat 64 ((s.chip p).log.head?.elim 0 fun r => r.words.getD 3 0)

/-- ERR_LOG3_READ (R495, R513): the word, and the oldest record goes. -/
def errLog3Read (path : Path) (p : Part) (s : State) : State := s.readBy path p pgErr 0x98 fun s => (s.dropLog p, s.logWord3 p)

def execErrLog3Read (path : Path) (p : Part) (s : State) : Host.Outcome State Fault Refusal := .next (errLog3Read path p s)

/-- REGISTER_WRITE (R503): a write of any register by any path that leads to the part. -/
def registerWrite (o : Origin) (p : Part) (page off size : Nat) (x : Word) (s : State) : State :=
  if pathServes o.path p then s.accessDone o p true page off size x else s

def execRegisterWrite (o : Origin) (p : Part) (page off size : Nat) (x : Word) (s : State) : Host.Outcome State Fault Refusal :=
  .next (registerWrite o p page off size x s)

end Sys2Proof.Machine
end

