-- ==== Sys2Proof/Machine/Clock.lean ====
section
/-! DEFINITION. Time: what a tick of a part does when no command waits (R9, R362, R371, R478). -/

namespace Sys2Proof.Machine

/-- How far the local tick counter goes in one step: one MCLK cycle, or seven counts of the crystal while MCLK is absent (R9, R478). A part held in reset, or without its standby rail, does not count. DESIGN CHOICE, log 1. -/
def State.tickStep (s : State) (p : Part) : Nat :=
  let c := s.chip p
  if c.inReset || !c.standbyUp then 0 else if s.flag p CLK_STS_PLL_LOCK then 1 else 7

/-- The counter of a part goes on. DESIGN CHOICE, log 1. -/
def State.tickPart (s : State) (p : Part) : State :=
  let d := s.tickStep p
  s.onChip p fun c => { c with ltc := c.ltc + BitVec.ofNat 64 d }

/-- The first copy of a request leaves its bridle: its times run from this tick (R358). A copy sent again moves the last one. -/
def State.stampReq (s : State) (k : Packet) : State :=
  let now := s.now .ep
  { s with ep := { s.ep with reqs := s.ep.reqs.map fun r =>
      if r.tag == k.tag && r.pkt.op == k.op && r.pkt.addr == k.addr then { r with first := if k.resend then r.first else now, last := now } else r } }

/-- Serves the bridles: the packets that wait go in order, each while its bucket is at or above zero, but for those behind one of their queue that stays; a tick in which a packet waits on a bridle is counted once for it (R362, R371). `ixs` are the bridles that hold a packet in this tick and `qs` the queues held. DESIGN CHOICE, log 1. -/
def State.serveBridles : List Packet → List Nat → List Nat → State → State
  | [], ixs, _, s => ixs.foldl (fun s ix => s.count .ep BRD_STATS_HELD_TICKS 1 (ix + 1)) s
  | k :: ks, ixs, qs, s =>
    let q := s.queueOfPkt k
    let ix := s.bridleOf k
    if q.any qs.contains then State.serveBridles ks ixs qs s
    else if ix.any fun i => ixs.contains i || s.bridleHolds i then
      State.serveBridles ks (ixs ++ (ix.filter fun i => !ixs.contains i).toList) (q.toList ++ qs) s
    else
      let s := (s.onRly fun r => { r with bridled := r.bridled.erase k }).stampReq k
      State.serveBridles ks ixs qs (s.passBridle k)

/-- A tick of a link: what waits goes out; with nothing to send, the SEAL of a group that holds data, else an IDLE flit, which carries the latest ACK and credit (R303, R304, R317). DESIGN CHOICE, log 193. -/
def State.linkTick (s : State) (p : Part) (n : Nat) : State :=
  if (s.stage p n != 4 && s.stage p n != 5) || s.mute p n then s
  else
    let t := s.pumpAll p n
    let pt := t.port p n
    if pt.seq != (s.port p n).seq then t
    else if pt.sealing && pt.keys.groupHasData && !t.dataReady p n then t.closeGroup p n
    else if t.flitRoom p n then t.sendGrouped p n 0 0 []
    else t

/-- A tick of the pattern checkers of a port in LOOPBACK: each that has locked counts bit errors and the bits compared (R340), both free values. DESIGN CHOICE, log 25. -/
def State.patternTick (s : State) (p : Part) (n : Nat) : State :=
  if s.stage p n != 7 then s
  else (upTo (s.width p n)).foldl (fun s i =>
    let l := s.laneBase p n + i
    if s.laneGet p l QAD_LANE_PAT_CTL_CHK_LOCK == 1 then
      let add (f : Fld) (k : Nat) (s : State) : State := s.lanePut p l f (min (s.laneGet p l f + k) (2 ^ 32 - 1))
      (add QAD_LANE_PAT_ERR_MBITS (s.draw / 2 ^ 32) (add QAD_LANE_PAT_ERR_ERRORS (s.draw % 2 ^ 32) s)).drawn
    else s) s

/-- A tick of every port of a part. DESIGN CHOICE, log 193. -/
def State.linkTicks (s : State) (p : Part) : State := (s.portList p).foldl (fun s n => (s.linkTick p n).patternTick p n) s

/-- A tick without a command: the counters, the crossbar, the links, the bridles. DESIGN CHOICE, log 1, 191, 193. -/
def State.tick (s : State) : State :=
  let s := (((s.tickPart .sw).tickPart .ep).xbarTick.linkTicks .sw).linkTicks .ep
  if s.epc.inReset then s
  else State.serveBridles s.ep.rly.bridled [] [] s

end Sys2Proof.Machine
end

