-- ==== Sys2Proof/Machine/Dispatch.lean ====
section
/-! DEFINITION. One arm for each command: a direct call of its meaning. -/

namespace Sys2Proof.Machine

open Sys2Proof

def exec (i : Instr) (s : State) : Host.Outcome State Fault Refusal :=
  match i with
  | .resetRelease p samples => Sys2Proof.Machine.execResetRelease p samples s
  | .standbyPowerOn p samples => Sys2Proof.Machine.execStandbyPowerOn p samples s
  | .startupStepDone bad imageOk => Sys2Proof.Machine.execStartupStepDone bad imageOk s
  | .endpointStartupStepDone modules => Sys2Proof.Machine.execEndpointStartupStepDone modules s
  | .rstNPulse p ns => Sys2Proof.Machine.execRstNPulse p ns s
  | .rstCold path => Sys2Proof.Machine.execRstCold path s
  | .rstWarm path => Sys2Proof.Machine.execRstWarm path s
  | .rstFabric path => Sys2Proof.Machine.execRstFabric path s
  | .epRstWarm path => Sys2Proof.Machine.execEpRstWarm path s
  | .epRstFabric path => Sys2Proof.Machine.execEpRstFabric path s
  | .mainRailsLost p => Sys2Proof.Machine.execMainRailsLost p s
  | .layoutWrite path x => Sys2Proof.Machine.execLayoutWrite path x s
  | .switchGroupWrite path x => Sys2Proof.Machine.execSwitchGroupWrite path x s
  | .refLoss p => Sys2Proof.Machine.execRefLoss p s
  | .refReturn p ppm => Sys2Proof.Machine.execRefReturn p ppm s
  | .holdoverExpiry p => Sys2Proof.Machine.execHoldoverExpiry p s
  | .pllLockLoss p => Sys2Proof.Machine.execPllLockLoss p s
  | .pwrAlertAssert => Sys2Proof.Machine.execPwrAlertAssert s
  | .pwrAlertDeassert => Sys2Proof.Machine.execPwrAlertDeassert s
  | .thermAlertAssert => Sys2Proof.Machine.execThermAlertAssert s
  | .thermAlertDeassert => Sys2Proof.Machine.execThermAlertDeassert s
  | .thermP3DelayExpiry => Sys2Proof.Machine.execThermP3DelayExpiry s
  | .pwrCapChange cap => Sys2Proof.Machine.execPwrCapChange cap s
  | .forceLevelWrite path x => Sys2Proof.Machine.execForceLevelWrite path x s
  | .throttleHoldExpiry => Sys2Proof.Machine.execThrottleHoldExpiry s
  | .powerControlSample p watts => Sys2Proof.Machine.execPowerControlSample p watts s
  | .dieSensorSample p temps => Sys2Proof.Machine.execDieSensorSample p temps s
  | .hbmStackThrottle n celsius => Sys2Proof.Machine.execHbmStackThrottle n celsius s
  | .tackupDetectProbe p n mask rates => Sys2Proof.Machine.execTackupDetectProbe p n mask rates s
  | .tackupPreambleTmo p n => Sys2Proof.Machine.execTackupPreambleTmo p n s
  | .laneEqPass p n lane snr inverted there farMin => Sys2Proof.Machine.execLaneEqPass p n lane snr inverted there farMin s
  | .eqTimerExpiry p n => Sys2Proof.Machine.execEqTimerExpiry p n s
  | .flitLock p n => Sys2Proof.Machine.execFlitLock p n s
  | .lockTmo p n => Sys2Proof.Machine.execLockTmo p n s
  | .capReceive p n m => Sys2Proof.Machine.execCapReceive p n m s
  | .refuseReceive p n code => Sys2Proof.Machine.execRefuseReceive p n code s
  | .pingReceive p n stamp => Sys2Proof.Machine.execPingReceive p n stamp s
  | .pongReceive p n stamp => Sys2Proof.Machine.execPongReceive p n stamp s
  | .readyReceive p n => Sys2Proof.Machine.execReadyReceive p n s
  | .capxTmo p n => Sys2Proof.Machine.execCapxTmo p n s
  | .tackRetryTimer p n => Sys2Proof.Machine.execTackRetryTimer p n s
  | .partnerRedetect p n absent => Sys2Proof.Machine.execPartnerRedetect p n absent s
  | .fptRestart path p n => Sys2Proof.Machine.execFptRestart path p n s
  | .fptRetrain path p n => Sys2Proof.Machine.execFptRetrain path p n s
  | .fptDisable path p n v => Sys2Proof.Machine.execFptDisable path p n v s
  | .retrainSetReceive p n => Sys2Proof.Machine.execRetrainSetReceive p n s
  | .retrainComplete p n relocked => Sys2Proof.Machine.execRetrainComplete p n relocked s
  | .retrainTimeout p n => Sys2Proof.Machine.execRetrainTimeout p n s
  | .retrainBitlockTmo p n => Sys2Proof.Machine.execRetrainBitlockTmo p n s
  | .shedWindowExpiry p n => Sys2Proof.Machine.execShedWindowExpiry p n s
  | .laneLockLoss p n lane => Sys2Proof.Machine.execLaneLockLoss p n lane s
  | .shedReceive p n mask last => Sys2Proof.Machine.execShedReceive p n mask last s
  | .shedAckReceive p n mask last => Sys2Proof.Machine.execShedAckReceive p n mask last s
  | .shedGoReceive p n => Sys2Proof.Machine.execShedGoReceive p n s
  | .fifoSlip p n => Sys2Proof.Machine.execFifoSlip p n s
  | .signalLoss p n => Sys2Proof.Machine.execSignalLoss p n s
  | .flitReceive p n w => Sys2Proof.Machine.execFlitReceive p n w s
  | .nakReceive p n ack => Sys2Proof.Machine.execNakReceive p n ack s
  | .replayTimerExpiry p n => Sys2Proof.Machine.execReplayTimerExpiry p n s
  | .groupClose p n => Sys2Proof.Machine.execGroupClose p n s
  | .sealReceive p n header tag group => Sys2Proof.Machine.execSealReceive p n header tag group s
  | .kexInitReceive p n m => Sys2Proof.Machine.execKexInitReceive p n m s
  | .kexRespReceive p n m => Sys2Proof.Machine.execKexRespReceive p n m s
  | .kexTimeout p n => Sys2Proof.Machine.execKexTimeout p n s
  | .rekeyRequest path p n => Sys2Proof.Machine.execRekeyRequest path p n s
  | .rekeySoftPoint p n => Sys2Proof.Machine.execRekeySoftPoint p n s
  | .keyExhausted p n => Sys2Proof.Machine.execKeyExhausted p n s
  | .switchPacketArrival n k => Sys2Proof.Machine.execSwitchPacketArrival n k s
  | .creditReserve id => Sys2Proof.Machine.execCreditReserve id s
  | .egressPacketStart id => Sys2Proof.Machine.execEgressPacketStart id s
  | .sramUncorrectable structure_ id mid => Sys2Proof.Machine.execSramUncorrectable structure_ id mid s
  | .midFenceSet path hi v => Sys2Proof.Machine.execMidFenceSet path hi v s
  | .congNoticeReceive k => Sys2Proof.Machine.execCongNoticeReceive k s
  | .mcastCopySend id => Sys2Proof.Machine.execMcastCopySend id s
  | .lossyResidueExpiry group => Sys2Proof.Machine.execLossyResidueExpiry group s
  | .combineWindowExpiry p line => Sys2Proof.Machine.execCombineWindowExpiry p line s
  | .combineIssue p line => Sys2Proof.Machine.execCombineIssue p line s
  | .switchReqTimeout id => Sys2Proof.Machine.execSwitchReqTimeout id s
  | .outcomeRecordExpiry src tag => Sys2Proof.Machine.execOutcomeRecordExpiry src tag s
  | .outcomeReleaseReceive p k => Sys2Proof.Machine.execOutcomeReleaseReceive p k s
  | .pmapWrite path axis v => Sys2Proof.Machine.execPmapWrite path axis v s
  | .drainProbeReceive n k => Sys2Proof.Machine.execDrainProbeReceive n k s
  | .probeAnswer n tag => Sys2Proof.Machine.execProbeAnswer n tag s
  | .probeAckReceive k => Sys2Proof.Machine.execProbeAckReceive k s
  | .flipSettleExpiry tag => Sys2Proof.Machine.execFlipSettleExpiry tag s
  | .routeDownReceive k => Sys2Proof.Machine.execRouteDownReceive k s
  | .routeUpReceive k => Sys2Proof.Machine.execRouteUpReceive k s
  | .portActiveReceive n => Sys2Proof.Machine.execPortActiveReceive n s
  | .routeOkWrite path => Sys2Proof.Machine.execRouteOkWrite path s
  | .partnerIdentityVerified p n ok digest => Sys2Proof.Machine.execPartnerIdentityVerified p n ok digest s
  | .rtePortDisable path v => Sys2Proof.Machine.execRtePortDisable path v s
  | .cgtEnableWrite path v => Sys2Proof.Machine.execCgtEnableWrite path v s
  | .telemetryWindowClose => Sys2Proof.Machine.execTelemetryWindowClose s
  | .relayPacket arrived k => Sys2Proof.Machine.execRelayPacket arrived k s
  | .memReq id queue op addr len data vol cached => Sys2Proof.Machine.execMemReq id queue op addr len data vol cached s
  | .doorbell q v => Sys2Proof.Machine.execDoorbell q v s
  | .csr write page off size x => Sys2Proof.Machine.execCsr write page off size x s
  | .accCpl id answer data => Sys2Proof.Machine.execAccCpl id answer data s
  | .accTimeout id => Sys2Proof.Machine.execAccTimeout id s
  | .discardAck id => Sys2Proof.Machine.execDiscardAck id s
  | .ucieDown => Sys2Proof.Machine.execUcieDown s
  | .ucieUp modules rate => Sys2Proof.Machine.execUcieUp modules rate s
  | .qTailWrite path v => Sys2Proof.Machine.execQTailWrite path v s
  | .qEnableWrite path v => Sys2Proof.Machine.execQEnableWrite path v s
  | .descriptorFetch q desc => Sys2Proof.Machine.execDescriptorFetch q desc s
  | .descriptorFetchFail q => Sys2Proof.Machine.execDescriptorFetchFail q s
  | .cmdNop q => Sys2Proof.Machine.execCmdNop q s
  | .cmdGet q => Sys2Proof.Machine.execCmdGet q s
  | .cmdPut q => Sys2Proof.Machine.execCmdPut q s
  | .cmdAtomic q => Sys2Proof.Machine.execCmdAtomic q s
  | .cmdSyncAdd q => Sys2Proof.Machine.execCmdSyncAdd q s
  | .cmdSyncSet q => Sys2Proof.Machine.execCmdSyncSet q s
  | .cmdSyncRead q => Sys2Proof.Machine.execCmdSyncRead q s
  | .cmdSyncWait q => Sys2Proof.Machine.execCmdSyncWait q s
  | .cmdSyncSetClear q => Sys2Proof.Machine.execCmdSyncSetClear q s
  | .cmdHerd q desc slot e0 e1 nodes role => Sys2Proof.Machine.execCmdHerd q desc slot e0 e1 nodes role s
  | .cmdGather q => Sys2Proof.Machine.execCmdGather q s
  | .cmdScatterAdd q => Sys2Proof.Machine.execCmdScatterAdd q s
  | .cmdKstart q => Sys2Proof.Machine.execCmdKstart q s
  | .cmdKend q => Sys2Proof.Machine.execCmdKend q s
  | .localWaitTmo q => Sys2Proof.Machine.execLocalWaitTmo q s
  | .commandComplete q => Sys2Proof.Machine.execCommandComplete q s
  | .answerReceive k => Sys2Proof.Machine.execAnswerReceive k s
  | .gatherRowReceive k => Sys2Proof.Machine.execGatherRowReceive k s
  | .resendTimer tag => Sys2Proof.Machine.execResendTimer tag s
  | .requestTimeout tag => Sys2Proof.Machine.execRequestTimeout tag s
  | .tagHoldExpiry tag => Sys2Proof.Machine.execTagHoldExpiry tag s
  | .outcomeReleaseSend kind target => Sys2Proof.Machine.execOutcomeReleaseSend kind target s
  | .ddpRecordExpiry src tag => Sys2Proof.Machine.execDdpRecordExpiry src tag s
  | .bridleIncrease ix => Sys2Proof.Machine.execBridleIncrease ix s
  | .windowRequest k => Sys2Proof.Machine.execWindowRequest k s
  | .winInvWrite path v => Sys2Proof.Machine.execWinInvWrite path v s
  | .winValidSet path v => Sys2Proof.Machine.execWinValidSet path v s
  | .winValidClear path v => Sys2Proof.Machine.execWinValidClear path v s
  | .gntValidSet path v => Sys2Proof.Machine.execGntValidSet path v s
  | .apValidSet path n v => Sys2Proof.Machine.execApValidSet path n v s
  | .apValidClear path n v => Sys2Proof.Machine.execApValidClear path n v s
  | .atcFlush path => Sys2Proof.Machine.execAtcFlush path s
  | .tableReadComplete k => Sys2Proof.Machine.execTableReadComplete k s
  | .invalReceive k => Sys2Proof.Machine.execInvalReceive k s
  | .invalAckSend => Sys2Proof.Machine.execInvalAckSend s
  | .acnEnableWrite path v => Sys2Proof.Machine.execAcnEnableWrite path v s
  | .acnEpochExpiry => Sys2Proof.Machine.execAcnEpochExpiry s
  | .rangeValidSet path r v => Sys2Proof.Machine.execRangeValidSet path r v s
  | .epcNodeIdWrite path v => Sys2Proof.Machine.execEpcNodeIdWrite path v s
  | .syncAdd p queue k => Sys2Proof.Machine.execSyncAdd p queue k s
  | .syncSet p queue k => Sys2Proof.Machine.execSyncSet p queue k s
  | .syncSetClear p queue k => Sys2Proof.Machine.execSyncSetClear p queue k s
  | .syncRead p queue k => Sys2Proof.Machine.execSyncRead p queue k s
  | .syncWait p queue k => Sys2Proof.Machine.execSyncWait p queue k s
  | .syncWaitTimeout p src tag => Sys2Proof.Machine.execSyncWaitTimeout p src tag s
  | .synAcqRead path => Sys2Proof.Machine.execSynAcqRead path s
  | .synAddWrite path v => Sys2Proof.Machine.execSynAddWrite path v s
  | .synErrorClear path p => Sys2Proof.Machine.execSynErrorClear path p s
  | .poolRead k media => Sys2Proof.Machine.execPoolRead k media s
  | .poolWrite k media => Sys2Proof.Machine.execPoolWrite k media s
  | .poolAtomic k media => Sys2Proof.Machine.execPoolAtomic k media s
  | .readShared k => Sys2Proof.Machine.execReadShared k s
  | .readOwn k => Sys2Proof.Machine.execReadOwn k s
  | .upgrade k => Sys2Proof.Machine.execUpgrade k s
  | .writeback k => Sys2Proof.Machine.execWriteback k s
  | .cleanEvict k => Sys2Proof.Machine.execCleanEvict k s
  | .snoopReceive k => Sys2Proof.Machine.execSnoopReceive k s
  | .snpRspReceive k => Sys2Proof.Machine.execSnpRspReceive k s
  | .snoopTimeout slot => Sys2Proof.Machine.execSnoopTimeout slot s
  | .agtFenceWrite path => Sys2Proof.Machine.execAgtFenceWrite path s
  | .agtReadmitWrite path => Sys2Proof.Machine.execAgtReadmitWrite path s
  | .olClearWrite o v => Sys2Proof.Machine.execOlClearWrite o v s
  | .olRec1Read path => Sys2Proof.Machine.execOlRec1Read path s
  | .granRetire path => Sys2Proof.Machine.execGranRetire path s
  | .drainEnd p => Sys2Proof.Machine.execDrainEnd p s
  | .scrubGranuleDone g => Sys2Proof.Machine.execScrubGranuleDone g s
  | .patrolPass media => Sys2Proof.Machine.execPatrolPass media s
  | .hbmStackLost n => Sys2Proof.Machine.execHbmStackLost n s
  | .bulkFillComplete id ok data => Sys2Proof.Machine.execBulkFillComplete id ok data s
  | .bulkWritebackComplete id ok => Sys2Proof.Machine.execBulkWritebackComplete id ok s
  | .bulkPortDown n => Sys2Proof.Machine.execBulkPortDown n s
  | .bulkPortUp n serial bytes => Sys2Proof.Machine.execBulkPortUp n serial bytes s
  | .prefetchHint k busy => Sys2Proof.Machine.execPrefetchHint k busy s
  | .bulkDevTimeout id => Sys2Proof.Machine.execBulkDevTimeout id s
  | .gatherRequest k => Sys2Proof.Machine.execGatherRequest k s
  | .scatterAddRequest k => Sys2Proof.Machine.execScatterAddRequest k s
  | .ctlRead p k => Sys2Proof.Machine.execCtlRead p k s
  | .ctlWrite p k => Sys2Proof.Machine.execCtlWrite p k s
  | .coreResidueFault c selfCheck work => Sys2Proof.Machine.execCoreResidueFault c selfCheck work s
  | .rdcFenceWrite path c => Sys2Proof.Machine.execRdcFenceWrite path c s
  | .rdcReadmitWrite path c => Sys2Proof.Machine.execRdcReadmitWrite path c s
  | .rdcSelftestWrite path c => Sys2Proof.Machine.execRdcSelftestWrite path c s
  | .selftestComplete c pass failFmt => Sys2Proof.Machine.execSelftestComplete c pass failFmt s
  | .hrdClaimRead o => Sys2Proof.Machine.execHrdClaimRead o s
  | .stageClaimTimeout svc => Sys2Proof.Machine.execStageClaimTimeout svc s
  | .herdCreate o j => Sys2Proof.Machine.execHerdCreate o j s
  | .herdDestroy o j => Sys2Proof.Machine.execHerdDestroy o j s
  | .herdAbortCmd o j => Sys2Proof.Machine.execHerdAbortCmd o j s
  | .herdSwapCmd o j v k atStep => Sys2Proof.Machine.execHerdSwapCmd o j v k atStep s
  | .herdContrib k => Sys2Proof.Machine.execHerdContrib k s
  | .herdPartial k => Sys2Proof.Machine.execHerdPartial k s
  | .herdResult p k => Sys2Proof.Machine.execHerdResult p k s
  | .herdJoin k => Sys2Proof.Machine.execHerdJoin k s
  | .herdCounts p k => Sys2Proof.Machine.execHerdCounts p k s
  | .herdRecord k => Sys2Proof.Machine.execHerdRecord k s
  | .chunkReduced herd chunk core => Sys2Proof.Machine.execChunkReduced herd chunk core s
  | .herdSignalReceive k => Sys2Proof.Machine.execHerdSignalReceive k s
  | .herdCplReceive p k => Sys2Proof.Machine.execHerdCplReceive p k s
  | .herdAbortReceive p k => Sys2Proof.Machine.execHerdAbortReceive p k s
  | .herdSwapReceive k => Sys2Proof.Machine.execHerdSwapReceive k s
  | .herdAckReceive k => Sys2Proof.Machine.execHerdAckReceive k s
  | .herdTimerExpiry j => Sys2Proof.Machine.execHerdTimerExpiry j s
  | .abortingTimeout j => Sys2Proof.Machine.execAbortingTimeout j s
  | .svcClaimRead o => Sys2Proof.Machine.execSvcClaimRead o s
  | .svcLoad o slot => Sys2Proof.Machine.execSvcLoad o slot s
  | .svcUnload o slot => Sys2Proof.Machine.execSvcUnload o slot s
  | .svcAttach o j => Sys2Proof.Machine.execSvcAttach o j s
  | .svcDetach o j => Sys2Proof.Machine.execSvcDetach o j s
  | .svcConst o j => Sys2Proof.Machine.execSvcConst o j s
  | .svcSeal o g => Sys2Proof.Machine.execSvcSeal o g s
  | .svcUnseal o g => Sys2Proof.Machine.execSvcUnseal o g s
  | .svcTableSet o t => Sys2Proof.Machine.execSvcTableSet o t s
  | .svcTableClr o t => Sys2Proof.Machine.execSvcTableClr o t s
  | .programChunkDone j c core => Sys2Proof.Machine.execProgramChunkDone j c core s
  | .regionHashDone bulk => Sys2Proof.Machine.execRegionHashDone bulk s
  | .attCommitWrite path v => Sys2Proof.Machine.execAttCommitWrite path v s
  | .memRd dpa mv => Sys2Proof.Machine.execMemRd dpa mv s
  | .memInv dpa => Sys2Proof.Machine.execMemInv dpa s
  | .memWr dpa mask data => Sys2Proof.Machine.execMemWr dpa mask data s
  | .memClnEvct dpa => Sys2Proof.Machine.execMemClnEvct dpa s
  | .memSpecRd dpa => Sys2Proof.Machine.execMemSpecRd dpa s
  | .biRsp dpa shared => Sys2Proof.Machine.execBiRsp dpa shared s
  | .biConflict dpa => Sys2Proof.Machine.execBiConflict dpa s
  | .invSubmit desc => Sys2Proof.Machine.execInvSubmit desc s
  | .invalAckReceive k => Sys2Proof.Machine.execInvalAckReceive k s
  | .invalTimeout serial => Sys2Proof.Machine.execInvalTimeout serial s
  | .invRecordWrite => Sys2Proof.Machine.execInvRecordWrite s
  | .hostLinkDown cause => Sys2Proof.Machine.execHostLinkDown cause s
  | .hdmCommit dec hpa dpa size ways db => Sys2Proof.Machine.execHdmCommit dec hpa dpa size ways db s
  | .biEnWrite path v => Sys2Proof.Machine.execBiEnWrite path v s
  | .ideCheckFail => Sys2Proof.Machine.execIdeCheckFail s
  | .tspGetVersion => Sys2Proof.Machine.execTspGetVersion s
  | .tspGetCapabilities => Sys2Proof.Machine.execTspGetCapabilities s
  | .tspSetConfig v => Sys2Proof.Machine.execTspSetConfig v s
  | .tspLockConfig => Sys2Proof.Machine.execTspLockConfig s
  | .tspGetReport => Sys2Proof.Machine.execTspGetReport s
  | .identifyMemoryDevice => Sys2Proof.Machine.execIdentifyMemoryDevice s
  | .getSupportedLogs => Sys2Proof.Machine.execGetSupportedLogs s
  | .getLog => Sys2Proof.Machine.execGetLog s
  | .getEventRecords => Sys2Proof.Machine.execGetEventRecords s
  | .clearEventRecords all handles => Sys2Proof.Machine.execClearEventRecords all handles s
  | .getEventInterruptPolicy => Sys2Proof.Machine.execGetEventInterruptPolicy s
  | .setEventInterruptPolicy v => Sys2Proof.Machine.execSetEventInterruptPolicy v s
  | .getHealthInfo => Sys2Proof.Machine.execGetHealthInfo s
  | .getTimestamp => Sys2Proof.Machine.execGetTimestamp s
  | .setTimestamp v => Sys2Proof.Machine.execSetTimestamp v s
  | .cxdDeviceDetect n kind serial bytes ide width rate => Sys2Proof.Machine.execCxdDeviceDetect n kind serial bytes ide width rate s
  | .cxdRestart path n => Sys2Proof.Machine.execCxdRestart path n s
  | .dctBegin path scope => Sys2Proof.Machine.execDctBegin path scope s
  | .dctRecWrite path x => Sys2Proof.Machine.execDctRecWrite path x s
  | .dctSeal path => Sys2Proof.Machine.execDctSeal path s
  | .dctCancel path => Sys2Proof.Machine.execDctCancel path s
  | .sigStart path role => Sys2Proof.Machine.execSigStart path role s
  | .sigDataWrite path x => Sys2Proof.Machine.execSigDataWrite path x s
  | .sigSubmit path role => Sys2Proof.Machine.execSigSubmit path role s
  | .sigVerifyDone => Sys2Proof.Machine.execSigVerifyDone s
  | .dctWindowExpiry => Sys2Proof.Machine.execDctWindowExpiry s
  | .bindingSetReceive link sid seq ctxs mask digest => Sys2Proof.Machine.execBindingSetReceive link sid seq ctxs mask digest s
  | .bindingAckReceive n => Sys2Proof.Machine.execBindingAckReceive n s
  | .bindingResendTimer n => Sys2Proof.Machine.execBindingResendTimer n s
  | .imageWriteDone => Sys2Proof.Machine.execImageWriteDone s
  | .spdmGetVersion p who => Sys2Proof.Machine.execSpdmGetVersion p who s
  | .spdmGetCapabilities p who => Sys2Proof.Machine.execSpdmGetCapabilities p who s
  | .spdmNegotiateAlgorithms p who => Sys2Proof.Machine.execSpdmNegotiateAlgorithms p who s
  | .spdmGetDigests p who => Sys2Proof.Machine.execSpdmGetDigests p who s
  | .spdmGetCertificate p who slot offset length => Sys2Proof.Machine.execSpdmGetCertificate p who slot offset length s
  | .spdmChallenge p who slot nonce => Sys2Proof.Machine.execSpdmChallenge p who slot nonce s
  | .spdmGetMeasurements p who index raw nonce => Sys2Proof.Machine.execSpdmGetMeasurements p who index raw nonce s
  | .spdmKeyExchange p who exchange => Sys2Proof.Machine.execSpdmKeyExchange p who exchange s
  | .spdmFinish p who right => Sys2Proof.Machine.execSpdmFinish p who right s
  | .spdmEndSession p who => Sys2Proof.Machine.execSpdmEndSession p who s
  | .spdmVendorDefined p who ide => Sys2Proof.Machine.execSpdmVendorDefined p who ide s
  | .spdmRefusedRequest p who => Sys2Proof.Machine.execSpdmRefusedRequest p who s
  | .watchdogExpiry c => Sys2Proof.Machine.execWatchdogExpiry c s
  | .wdtPet c mask => Sys2Proof.Machine.execWdtPet c mask s
  | .secWatchdogExpiry p => Sys2Proof.Machine.execSecWatchdogExpiry p s
  | .coreRestartDone c => Sys2Proof.Machine.execCoreRestartDone c s
  | .hello => Sys2Proof.Machine.execHello s
  | .goodbye => Sys2Proof.Machine.execGoodbye s
  | .ctxReclaim => Sys2Proof.Machine.execCtxReclaim s
  | .ctxReset => Sys2Proof.Machine.execCtxReset s
  | .fwStage => Sys2Proof.Machine.execFwStage s
  | .fwActivate => Sys2Proof.Machine.execFwActivate s
  | .fwCancel => Sys2Proof.Machine.execFwCancel s
  | .fwConfirm => Sys2Proof.Machine.execFwConfirm s
  | .fwConfirmWrite => Sys2Proof.Machine.execFwConfirmWrite s
  | .pldmFwUpdate len => Sys2Proof.Machine.execPldmFwUpdate len s
  | .pldmActivateFirmware => Sys2Proof.Machine.execPldmActivateFirmware s
  | .pldmCancelUpdate => Sys2Proof.Machine.execPldmCancelUpdate s
  | .stagingDone img => Sys2Proof.Machine.execStagingDone img s
  | .activationP0WaitExpiry => Sys2Proof.Machine.execActivationP0WaitExpiry s
  | .safePointReached => Sys2Proof.Machine.execSafePointReached s
  | .safePointTimeout => Sys2Proof.Machine.execSafePointTimeout s
  | .imageRestartDone => Sys2Proof.Machine.execImageRestartDone s
  | .trialConfirmTimer => Sys2Proof.Machine.execTrialConfirmTimer s
  | .hbBeat path id => Sys2Proof.Machine.execHbBeat path id s
  | .hbWindowClose => Sys2Proof.Machine.execHbWindowClose s
  | .contextQuiesce => Sys2Proof.Machine.execContextQuiesce s
  | .i3cAddressAssign addr => Sys2Proof.Machine.execI3cAddressAssign addr s
  | .sbRegisterAccess write page off size x => Sys2Proof.Machine.execSbRegisterAccess write page off size x s
  | .mctpControl intact => Sys2Proof.Machine.execMctpControl intact s
  | .pldmMonitoring => Sys2Proof.Machine.execPldmMonitoring s
  | .pageEnableWrite path p page v => Sys2Proof.Machine.execPageEnableWrite path p page v s
  | .pageSoftReset path p page => Sys2Proof.Machine.execPageSoftReset path p page s
  | .softResetDone p page => Sys2Proof.Machine.execSoftResetDone p page s
  | .pageFence path p page => Sys2Proof.Machine.execPageFence path p page s
  | .intForceWrite path p page x => Sys2Proof.Machine.execIntForceWrite path p page x s
  | .errCountWrite path p page x => Sys2Proof.Machine.execErrCountWrite path p page x s
  | .errLogClear path p => Sys2Proof.Machine.execErrLogClear path p s
  | .errLog3Read path p => Sys2Proof.Machine.execErrLog3Read path p s
  | .registerWrite o p page off size x => Sys2Proof.Machine.execRegisterWrite o p page off size x s
  | .hostLinkUp width rate cxl => Sys2Proof.Machine.execHostLinkUp width rate cxl s
  | .imageRestartTimeout => Sys2Proof.Machine.execImageRestartTimeout s
  | .tableEccFatal page => Sys2Proof.Machine.execTableEccFatal page s
  | .securityCoreFatalAlarm => Sys2Proof.Machine.execSecurityCoreFatalAlarm s
  | .mainRailsOn p => Sys2Proof.Machine.execMainRailsOn p s
  | .standbyPowerOff p => Sys2Proof.Machine.execStandbyPowerOff p s
  | .patternCheckerLock p n lane => Sys2Proof.Machine.execPatternCheckerLock p n lane s
  | .rekeyCtrlReceive p n => Sys2Proof.Machine.execRekeyCtrlReceive p n s
  | .tapInstructionLoad p code samples => Sys2Proof.Machine.execTapInstructionLoad p code samples s
  | .tapReset p samples => Sys2Proof.Machine.execTapReset p samples s
  | .ucieDegrade modules rate => Sys2Proof.Machine.execUcieDegrade modules rate s
  | .backlogAverageUpdate => Sys2Proof.Machine.execBacklogAverageUpdate s
  | .olClearDone => Sys2Proof.Machine.execOlClearDone s
  | .tspRefusedRequest => Sys2Proof.Machine.execTspRefusedRequest s
  | .memdevUnsupportedCommand => Sys2Proof.Machine.execMemdevUnsupportedCommand s
  | .congestionNoticeInterval p src tc => Sys2Proof.Machine.execCongestionNoticeInterval p src tc s

end Sys2Proof.Machine
end

