-- ==== Sys2Proof/WellFormed.lean ====
section
/-! DEFINITION. The operands that a command may carry: field widths of R293, port, page and table numbers of the two parts, lengths of fixed messages. The meanings are claimed for well-formed commands; a test harness or a sender builds no others. -/

namespace Sys2Proof

/-- A port number of a part: 128 on the switch, 8 on the endpoint (R17, R20). DESIGN CHOICE, log 4. -/
def portOk (p : Part) (n : Nat) : Bool :=
  match p with
  | .sw => decide (n < 128)
  | .ep => decide (n < 8)

/-- A packet's fields fit their widths and its payload fits LENGTH (R293 to R296). DESIGN CHOICE, log 4. -/
def Packet.wf (k : Packet) : Bool :=
  let ids := decide (k.dst < 2 ^ 17) && decide (k.src < 2 ^ 17) && decide (k.tc < 8) && decide (k.op < 256) && decide (k.tag < 2 ^ 16)
  let rest := decide (k.len < 2 ^ 13) && decide (k.ctx < 1024) && decide (k.ptn < 64) && decide (k.scope < 4) && decide (k.colour < 4)
  ids && rest && decide (k.status < 256) && decide (k.aux < 2 ^ 32) && decide (k.rsv < 2 ^ 20) && decide (k.payload.length ≤ k.len)

/-- A user's node and context fit their widths; only remote control space names them (R183). -/
def Origin.wf (o : Origin) : Bool := decide (o.node < 2 ^ 17) && decide (o.ctx < 1024)

/-- A CAP message's fields fit their widths (R332). -/
def CapMsg.wf (m : CapMsg) : Bool :=
  decide (m.kind < 8) && decide (m.axis < 4) && decide (m.plane < 2) && decide (m.nodeId < 2 ^ 17) && decide (m.switchId < 2 ^ 16)
    && decide (m.port < 128) && decide (m.lanesGood < 2 ^ 16) && decide (m.rates < 8) && decide (m.trained < 4) && m.credits.length == 14

/-- A key-exchange message's nonce has 32 bytes (R315). -/
def KexMsg.wf (m : KexMsg) : Bool := m.nonce.length == 32

/-- Whether a command's operands are in range. DESIGN CHOICE, log 4. -/
def Instr.wf (i : Instr) : Bool :=
  match i with
  | .resetRelease _ _ => true
  | .standbyPowerOn _ _ => true
  | .startupStepDone _ _ => true
  | .endpointStartupStepDone modules => decide (modules < 9)
  | .rstNPulse _ _ => true
  | .rstCold _ => true
  | .rstWarm _ => true
  | .rstFabric _ => true
  | .epRstWarm _ => true
  | .epRstFabric _ => true
  | .mainRailsLost _ => true
  | .layoutWrite _ _ => true
  | .switchGroupWrite _ _ => true
  | .refLoss _ => true
  | .refReturn _ _ => true
  | .holdoverExpiry _ => true
  | .pllLockLoss _ => true
  | .pwrAlertAssert => true
  | .pwrAlertDeassert => true
  | .thermAlertAssert => true
  | .thermAlertDeassert => true
  | .thermP3DelayExpiry => true
  | .pwrCapChange cap => decide (cap < 4)
  | .forceLevelWrite _ _ => true
  | .throttleHoldExpiry => true
  | .powerControlSample _ watts => decide (watts < 65536)
  | .dieSensorSample _ _ => true
  | .hbmStackThrottle n celsius => decide (n < 6) && decide (celsius < 256)
  | .tackupDetectProbe p n mask _ => portOk p n && decide (mask < 65536)
  | .tackupPreambleTmo p n => portOk p n
  | .laneEqPass p n lane snr _ there farMin => portOk p n && decide (lane < 16) && decide (snr < 256) && decide (there < 65536) && decide (farMin < 17)
  | .eqTimerExpiry p n => portOk p n
  | .flitLock p n => portOk p n
  | .lockTmo p n => portOk p n
  | .capReceive p n m => portOk p n && m.wf
  | .refuseReceive p n code => portOk p n && decide (code < 16)
  | .pingReceive p n _ => portOk p n
  | .pongReceive p n _ => portOk p n
  | .readyReceive p n => portOk p n
  | .capxTmo p n => portOk p n
  | .tackRetryTimer p n => portOk p n
  | .partnerRedetect p n _ => portOk p n
  | .fptRestart _ p n => portOk p n
  | .fptRetrain _ p n => portOk p n
  | .fptDisable _ p n v => portOk p n && decide (v < 2)
  | .retrainSetReceive p n => portOk p n
  | .retrainComplete p n relocked => portOk p n && decide (relocked < 65536)
  | .retrainTimeout p n => portOk p n
  | .retrainBitlockTmo p n => portOk p n
  | .shedWindowExpiry p n => portOk p n
  | .laneLockLoss p n lane => portOk p n && decide (lane < 16)
  | .shedReceive p n mask last => portOk p n && decide (mask < 65536) && decide (last < 16384)
  | .shedAckReceive p n mask last => portOk p n && decide (mask < 65536) && decide (last < 16384)
  | .shedGoReceive p n => portOk p n
  | .fifoSlip p n => portOk p n
  | .signalLoss p n => portOk p n
  | .flitReceive p n w => portOk p n && w.length == 272
  | .nakReceive p n ack => portOk p n && decide (ack < 16384)
  | .replayTimerExpiry p n => portOk p n
  | .groupClose p n => portOk p n
  | .sealReceive p n header tag _ => portOk p n && header < 2 ^ 64 && tag.length == 16
  | .kexInitReceive p n m => portOk p n && m.wf
  | .kexRespReceive p n m => portOk p n && m.wf
  | .kexTimeout p n => portOk p n
  | .rekeyRequest _ p n => portOk p n
  | .rekeySoftPoint p n => portOk p n
  | .keyExhausted p n => portOk p n
  | .switchPacketArrival n k => decide (n < 128) && k.wf
  | .creditReserve _ => true
  | .egressPacketStart _ => true
  | .sramUncorrectable _ _ _ => true
  | .midFenceSet _ _ _ => true
  | .congNoticeReceive k => k.wf
  | .mcastCopySend _ => true
  | .lossyResidueExpiry _ => true
  | .combineWindowExpiry p _ => decide (p < 64)
  | .combineIssue p _ => decide (p < 64)
  | .switchReqTimeout _ => true
  | .outcomeRecordExpiry src tag => decide (src < 131072) && decide (tag < 65536)
  | .outcomeReleaseReceive _ k => k.wf
  | .pmapWrite _ axis _ => decide (1 ≤ axis) && decide (axis ≤ 3)
  | .drainProbeReceive n k => decide (n < 128) && k.wf
  | .probeAnswer n tag => decide (n < 128) && decide (tag < 65536)
  | .probeAckReceive k => k.wf
  | .flipSettleExpiry tag => decide (tag < 65536)
  | .routeDownReceive k => k.wf
  | .routeUpReceive k => k.wf
  | .portActiveReceive n => decide (n < 8)
  | .routeOkWrite _ => true
  | .partnerIdentityVerified p n _ digest => portOk p n && digest.length == 64
  | .rtePortDisable _ v => decide (v < 2)
  | .cgtEnableWrite _ v => decide (v < 2)
  | .telemetryWindowClose => true
  | .relayPacket _ k => k.wf
  | .memReq _ queue op addr len data _ _ => decide (queue < 256) && decide (op < 256) && decide (addr < 4503599627370496) && decide (len < 257) && decide (data.length ≤ 256)
  | .doorbell q v => decide (q < 256) && decide (v < 4294967296)
  | .csr _ page _ _ _ => decide (page < 4096)
  | .accCpl _ answer _ => decide (answer < 3)
  | .accTimeout _ => true
  | .discardAck _ => true
  | .ucieDown => true
  | .ucieUp modules rate => decide (modules < 9) && decide (rate < 4)
  | .qTailWrite _ v => decide (v < 4294967296)
  | .qEnableWrite _ _ => true
  | .descriptorFetch q desc => decide (q < 256) && desc.length == 8
  | .descriptorFetchFail q => decide (q < 256)
  | .cmdNop q => decide (q < 256)
  | .cmdGet q => decide (q < 256)
  | .cmdPut q => decide (q < 256)
  | .cmdAtomic q => decide (q < 256)
  | .cmdSyncAdd q => decide (q < 256)
  | .cmdSyncSet q => decide (q < 256)
  | .cmdSyncRead q => decide (q < 256)
  | .cmdSyncWait q => decide (q < 256)
  | .cmdSyncSetClear q => decide (q < 256)
  | .cmdHerd q desc slot _ _ _ _ => decide (q < 256) && desc.length == 8 && decide (slot < 128)
  | .cmdGather q => decide (q < 256)
  | .cmdScatterAdd q => decide (q < 256)
  | .cmdKstart q => decide (q < 256)
  | .cmdKend q => decide (q < 256)
  | .localWaitTmo q => decide (q < 256)
  | .commandComplete q => decide (q < 256)
  | .answerReceive k => k.wf
  | .gatherRowReceive k => k.wf
  | .resendTimer tag => decide (tag < 65536)
  | .requestTimeout tag => decide (tag < 65536)
  | .tagHoldExpiry tag => decide (tag < 65536)
  | .outcomeReleaseSend _ target => decide (target < 131072)
  | .ddpRecordExpiry src tag => decide (src < 131072) && decide (tag < 65536)
  | .bridleIncrease ix => decide (ix < 12)
  | .windowRequest k => k.wf
  | .winInvWrite _ _ => true
  | .winValidSet _ _ => true
  | .winValidClear _ _ => true
  | .gntValidSet _ _ => true
  | .apValidSet _ n _ => decide (n < 64)
  | .apValidClear _ n _ => decide (n < 64)
  | .atcFlush _ => true
  | .tableReadComplete k => k.wf
  | .invalReceive k => k.wf
  | .invalAckSend => true
  | .acnEnableWrite _ _ => true
  | .acnEpochExpiry => true
  | .rangeValidSet _ r _ => decide (r < 16)
  | .epcNodeIdWrite _ v => decide (v < 131072)
  | .syncAdd _ queue k => decide (queue < 256) && k.wf
  | .syncSet _ queue k => decide (queue < 256) && k.wf
  | .syncSetClear _ queue k => decide (queue < 256) && k.wf
  | .syncRead _ queue k => decide (queue < 256) && k.wf
  | .syncWait _ queue k => decide (queue < 256) && k.wf
  | .syncWaitTimeout _ src tag => decide (src < 131072) && decide (tag < 65536)
  | .synAcqRead _ => true
  | .synAddWrite _ _ => true
  | .synErrorClear _ _ => true
  | .poolRead k _ => k.wf
  | .poolWrite k _ => k.wf
  | .poolAtomic k _ => k.wf
  | .readShared k => k.wf
  | .readOwn k => k.wf
  | .upgrade k => k.wf
  | .writeback k => k.wf
  | .cleanEvict k => k.wf
  | .snoopReceive k => k.wf
  | .snpRspReceive k => k.wf
  | .snoopTimeout slot => decide (slot < 64)
  | .agtFenceWrite _ => true
  | .agtReadmitWrite _ => true
  | .olClearWrite _ _ => true
  | .olRec1Read _ => true
  | .granRetire _ => true
  | .drainEnd p => decide (p < 64)
  | .scrubGranuleDone g => decide (g < 262144)
  | .patrolPass _ => true
  | .hbmStackLost n => decide (n < 6)
  | .bulkFillComplete _ _ _ => true
  | .bulkWritebackComplete _ _ => true
  | .bulkPortDown n => decide (n < 2)
  | .bulkPortUp n _ _ => decide (n < 2)
  | .prefetchHint k _ => k.wf
  | .bulkDevTimeout _ => true
  | .gatherRequest k => k.wf
  | .scatterAddRequest k => k.wf
  | .ctlRead _ k => k.wf
  | .ctlWrite _ k => k.wf
  | .coreResidueFault c _ _ => decide (c < 64)
  | .rdcFenceWrite _ c => decide (c < 64)
  | .rdcReadmitWrite _ c => decide (c < 64)
  | .rdcSelftestWrite _ c => decide (c < 64)
  | .selftestComplete c _ failFmt => decide (c < 64) && decide (failFmt < 32)
  | .hrdClaimRead o => o.wf
  | .stageClaimTimeout _ => true
  | .herdCreate o i => o.wf && decide (i < 4096)
  | .herdDestroy o i => o.wf && decide (i < 4096)
  | .herdAbortCmd o i => o.wf && decide (i < 4096)
  | .herdSwapCmd o i v k _ => o.wf && decide (i < 4096) && decide (v < 128) && decide (k < 8)
  | .herdContrib k => k.wf
  | .herdPartial k => k.wf
  | .herdResult _ k => k.wf
  | .herdJoin k => k.wf
  | .herdCounts _ k => k.wf
  | .herdRecord k => k.wf
  | .chunkReduced herd _ core => decide (herd < 4096) && decide (core < 64)
  | .herdSignalReceive k => k.wf
  | .herdCplReceive _ k => k.wf
  | .herdAbortReceive _ k => k.wf
  | .herdSwapReceive k => k.wf
  | .herdAckReceive k => k.wf
  | .herdTimerExpiry i => decide (i < 4096)
  | .abortingTimeout i => decide (i < 4096)
  | .svcClaimRead o => o.wf
  | .svcLoad o slot => o.wf && decide (slot < 256)
  | .svcUnload o slot => o.wf && decide (slot < 256)
  | .svcAttach o i => o.wf && decide (i < 4096)
  | .svcDetach o i => o.wf && decide (i < 4096)
  | .svcConst o i => o.wf && decide (i < 4096)
  | .svcSeal o g => o.wf && decide (g < 256)
  | .svcUnseal o g => o.wf && decide (g < 256)
  | .svcTableSet o t => o.wf && decide (t < 64)
  | .svcTableClr o t => o.wf && decide (t < 64)
  | .programChunkDone i _ core => decide (i < 4096) && decide (core < 64)
  | .regionHashDone _ => true
  | .attCommitWrite _ _ => true
  | .memRd dpa mv => decide (dpa < 2 ^ 52) && decide (mv < 4)
  | .memInv dpa => decide (dpa < 2 ^ 52)
  | .memWr dpa mask data => decide (dpa < 2 ^ 52) && decide (mask < 18446744073709551616) && data.length == 64
  | .memClnEvct dpa => decide (dpa < 2 ^ 52)
  | .memSpecRd dpa => decide (dpa < 2 ^ 52)
  | .biRsp dpa _ => decide (dpa < 2 ^ 52)
  | .biConflict dpa => decide (dpa < 2 ^ 52)
  | .invSubmit desc => desc.length == 32
  | .invalAckReceive k => k.wf
  | .invalTimeout _ => true
  | .invRecordWrite => true
  | .hostLinkDown _ => true
  | .hdmCommit dec _ dpa _ _ _ => decide (dec < 32) && decide (dpa < 2 ^ 52)
  | .biEnWrite _ _ => true
  | .ideCheckFail => true
  | .tspGetVersion => true
  | .tspGetCapabilities => true
  | .tspSetConfig v => decide (v < 65536)
  | .tspLockConfig => true
  | .tspGetReport => true
  | .identifyMemoryDevice => true
  | .getSupportedLogs => true
  | .getLog => true
  | .getEventRecords => true
  | .clearEventRecords _ _ => true
  | .getEventInterruptPolicy => true
  | .setEventInterruptPolicy v => decide (v < 4294967296)
  | .getHealthInfo => true
  | .getTimestamp => true
  | .setTimestamp v => decide (v < 18446744073709551616)
  | .cxdDeviceDetect n kind _ _ _ _ _ => decide (n < 2) && decide (kind < 5)
  | .cxdRestart _ n => decide (n < 2)
  | .dctBegin _ scope => decide (scope < 128)
  | .dctRecWrite _ _ => true
  | .dctSeal _ => true
  | .dctCancel _ => true
  | .sigStart _ role => decide (role < 2)
  | .sigDataWrite _ _ => true
  | .sigSubmit _ role => decide (role < 2)
  | .sigVerifyDone => true
  | .dctWindowExpiry => true
  | .bindingSetReceive link sid _ _ _ digest => decide (link < 8) && decide (sid < 65536) && digest.length == 64
  | .bindingAckReceive n => decide (n < 128)
  | .bindingResendTimer n => decide (n < 128)
  | .imageWriteDone => true
  | .spdmGetVersion _ who => decide (who < 144)
  | .spdmGetCapabilities _ who => decide (who < 144)
  | .spdmNegotiateAlgorithms _ who => decide (who < 144)
  | .spdmGetDigests _ who => decide (who < 144)
  | .spdmGetCertificate _ who slot _ _ => decide (who < 144) && decide (slot < 8)
  | .spdmChallenge _ who slot _ => decide (who < 144) && decide (slot < 8)
  | .spdmGetMeasurements _ who _ _ _ => decide (who < 144)
  | .spdmKeyExchange _ who _ => decide (who < 144)
  | .spdmFinish _ who _ => decide (who < 144)
  | .spdmEndSession _ who => decide (who < 144)
  | .spdmVendorDefined _ who _ => decide (who < 144)
  | .spdmRefusedRequest _ who => decide (who < 144)
  | .watchdogExpiry c => decide (c < 4)
  | .wdtPet c mask => decide (c < 4) && decide (mask < 16)
  | .secWatchdogExpiry _ => true
  | .coreRestartDone c => decide (c < 4)
  | .hello => true
  | .goodbye => true
  | .ctxReclaim => true
  | .ctxReset => true
  | .fwStage => true
  | .fwActivate => true
  | .fwCancel => true
  | .fwConfirm => true
  | .fwConfirmWrite => true
  | .pldmFwUpdate len => decide (len < 4294967296)
  | .pldmActivateFirmware => true
  | .pldmCancelUpdate => true
  | .stagingDone _ => true
  | .activationP0WaitExpiry => true
  | .safePointReached => true
  | .safePointTimeout => true
  | .imageRestartDone => true
  | .trialConfirmTimer => true
  | .hbBeat _ id => decide (id < 4294967296)
  | .hbWindowClose => true
  | .contextQuiesce => true
  | .i3cAddressAssign addr => decide (addr < 128)
  | .sbRegisterAccess _ page _ _ _ => decide (page < 4096)
  | .mctpControl _ => true
  | .pldmMonitoring => true
  | .pageEnableWrite _ _ page v => decide (page < 4096) && decide (v < 2)
  | .pageSoftReset _ _ page => decide (page < 4096)
  | .softResetDone _ page => decide (page < 4096)
  | .pageFence _ _ page => decide (page < 4096)
  | .intForceWrite _ _ page _ => decide (page < 4096)
  | .errCountWrite _ _ page _ => decide (page < 4096)
  | .errLogClear _ _ => true
  | .errLog3Read _ _ => true
  | .registerWrite o _ page _ _ _ => o.wf && decide (page < 4096)
  | .hostLinkUp _ _ _ => true
  | .imageRestartTimeout => true
  | .tableEccFatal page => decide (page < 4096)
  | .securityCoreFatalAlarm => true
  | .mainRailsOn _ => true
  | .standbyPowerOff _ => true
  | .patternCheckerLock p n lane => portOk p n && decide (lane < 16)
  | .rekeyCtrlReceive p n => portOk p n
  | .tapInstructionLoad _ _ _ => true
  | .tapReset _ _ => true
  | .ucieDegrade modules rate => decide (modules < 9) && decide (rate < 4)
  | .backlogAverageUpdate => true
  | .olClearDone => true
  | .tspRefusedRequest => true
  | .memdevUnsupportedCommand => true
  | .congestionNoticeInterval _ src tc => decide (src < 131072) && decide (tc < 8)

end Sys2Proof
end

