-- ==== Sys2Proof/Safety.lean ====
section
/-! DEFINITION. What claims about runs are stated in: the commands of a queue that are well formed, the parts' fixed words, the memory and register forms that every state of a run keeps, and the sender's view of a run. -/

namespace Sys2Proof.Machine

/-- Every waiting command carries operands in range. -/
def State.commandsWf (s : State) : Bool := s.pending.all Instr.wf

/-- What is fixed in a part for its whole life: the identification registers (R512). -/
def State.identity (s : State) : Word × Word := (s.rd .sw GLB_ID, s.rd .ep GLB_ID)

/-- The identification that this model's parts carry: a B0 switch and an A1 endpoint (R512). -/
def State.IdentityOk (s : State) : Prop := s.identity = (0x00100512, 0x00010064)

/-- A command runs: it ends in a next state, not in a fault or a refusal. -/
def Runs (c : Instr) (s : State) : Prop := ∃ t, exec c s = .next t

/-- A command runs on a state and what it leads to holds a claim. -/
def Does (c : Instr) (s : State) (claim : State → Prop) : Prop := ∃ t, exec c s = .next t ∧ claim t

/-- A command runs on a state by an effect that holds a claim, after which every access of the endpoint that can move does. -/
def Drives (c : Instr) (s : State) (claim : State → Prop) : Prop := ∃ u, exec c s = .next u.drive ∧ claim u

/-- A command runs on a state by an effect that holds a claim, after which the home of the pool goes on until nothing moves. -/
def Settles (c : Instr) (s : State) (claim : State → Prop) : Prop := ∃ u, exec c s = .next u.settle ∧ claim u

/-- A write by a path to a register of a part reaches the register: the path leads to the part and carries the write now, the page is mapped and used, no rule keeps the register from the path, and neither FENCE nor a page reset holds the page (R494, R495, R501, R502, R505 to R508). -/
def State.writeOpen (s : State) (path : Path) (p : Part) (page off : Nat) : Bool :=
  pathServes path p && (path != .sideband || s.mainServes || standbySubset page off) && pageMapped p page
    && (path != .remote || remoteWritable p page off) && (!hostOnly p page off || path == .host)
    && (!sidebandOnly p page off || path == .sideband)
    && (decide (off < 0x40)
      || (!s.flag p HDR_PAGE_CTL_FENCE 0 page && (lookup (s.chip p).pageResets page).isNone && !s.pageUnused p page))

/-- Whether a write of `size` bytes by an origin names a whole block register that its access types alone govern: the register is at the offset, no rule of its own takes the value, and it has fields that software writes and none that only dual control does (R495, R503). -/
def State.plainReg (s : State) (o : Origin) (p : Part) (page off size : Nat) (l : RegPlace) (x : Word) : Bool :=
  let code := pageCode p page
  let y := limited code l.desc.reg.off x
  let own := match p with
    | .sw => (s.stagedWrite o page l.desc.reg.off l y).isSome || (s.ownWriteSw o.path page code l.desc.reg.off l y).isSome
    | .ep => (s.ownWriteEp page code l.desc.reg.off l y).isSome
  sizeOk off size && decide (placeAt p page off = some l) && l.desc.wide == (size == 8) && decide (0x40 ≤ l.desc.reg.off) && !own
    && (s.ownWriteBoth p page code l.desc.reg.off l y).isNone && !l.desc.fields.any (·.acc == .rwl) && !l.desc.fields.all (·.acc == .ro)

/-- The value that a register at a place holds once a write has been stored by its access types and limits. -/
def State.plainValue (s : State) (p : Part) (page : Nat) (l : RegPlace) (x : Word) : Word :=
  l.desc.stored (s.rd p l.reg (s.bankOf p l.desc.reg) l.inst) (limited (pageCode p page) l.desc.reg.off x)

/-- The key and the salt under which a link opens a group whose first flit is `f`: the old ones while the flit's key phase is not the receiver's and an old key is kept (R320). -/
def State.sealKey (s : State) (p : Part) (n : Nat) (f : List Byte) : List Byte × List Byte :=
  let k := (s.port p n).keys
  if (natAt f 0 8).testBit 63 != s.flag p LNK_STS_KP_RX 0 n && !k.oldRx.isEmpty then (k.oldRx, k.oldRxSalt) else (k.rx, k.rxSalt)

/-- The status of the first of a list of checks that fails. -/
def firstFailing (l : List (Bool × Nat)) : Option Nat := (l.find? (·.1)).map (·.2)

/-- The checks of R57 in their order, for a request that covers `n` bytes at an offset of a partition of a switch. -/
def State.poolChecks (s : State) (k : Packet) (sid p off n : Nat) : List (Bool × Nat) :=
  [(decide (sid ≠ s.switchId), stUNREACHABLE), (decide (p ≠ k.ptn), stPERMISSION), (decide (s.ptnState p = 0), stNO_MAPPING),
   (s.orphaned k.ctx, stSTALE_CONTEXT), (decide (s.ctxPtn k.ctx ≠ some p), stPERMISSION),
   (decide (s.ptnState p = 2), stPARTITION_CLOSING), (decide (s.ptnSize p < off + n), stNO_MAPPING)]

/-- The checks of R54 in their order, down to the permission of R52, for a request at an offset of a window. -/
def State.windowChecks (s : State) (k : Packet) (w off : Nat) : List (Bool × Nat) :=
  [(!(k.op == opREAD || k.op == opWRITE || (isAtomic k.op && (atomicSize k.op k.len).isSome)), stUNSUPPORTED),
   (!s.flag .ep WIN_WIN_CTL_VALID (w + 1), stNO_MAPPING), (decide (s.get .ep WIN_WIN_CTL_PARTITION (w + 1) ≠ k.ptn), stPERMISSION),
   (decide ((s.get .ep WIN_WIN_SIZE_PAGES_M1 (w + 1) + 1) * 2 ^ 21 < off + touched k), stNO_MAPPING),
   (!(s.winPerm w k.ctx).testBit (permBit k.op), stPERMISSION)]

/-- A pool request comes in that the home has not accepted yet: unmarked, its CRC right, at an offset of a partition of this switch (R57, R265, R313). -/
def State.poolReach (s : State) (k : Packet) (p off : Nat) : Bool :=
  !k.mark && crcOk k && placeOf k.addr == .pool s.switchId p off && !s.accepted k

/-- Such a request covers `n` bytes of one block, and passes the checks of R57 (R39). -/
def State.poolOpen (s : State) (k : Packet) (p off n : Nat) : Bool :=
  s.poolReach k p off && inBlock off n && s.poolCheck k.ctx k.ptn p off n == stOK

/-- A part can record a request: it holds no record of its source and tag, or one whose hold has passed, and has room beside the records it holds and those it owes (R265, R359). -/
def State.recordsOpen (s : State) (p : Part) (k : Packet) : Bool :=
  (s.outcomeOf p k).all (s.outLate p) && decide ((s.outHeld p).length + s.owedRecords p < outcomeCap p)

/-- A request is queued alone: it does not combine, or no entry takes it and it opens none (R262, R264). -/
def State.goesAlone (s : State) (kind : PKind) (p off n : Nat) (k : Packet) : Bool :=
  let from_ := if kind == .read then off / 128 * 128 else off
  !combines k off n
    || ((s.sw.pool.queue.find? fun r => s.takes r kind p from_ (if kind == .read then 128 else n) k.op).isNone
      && !(s.opens k && decide (s.combOpen < 8192)))

/-- No snoop, removal or recall of a slot has reached its timeout (R120, R130). -/
def State.snoopsInTime (s : State) (slot : Nat) : Bool :=
  (lookup s.sw.pool.recalls slot).isNone && !s.sw.pool.dir.any fun e => e.2.recalling.any fun r =>
    r.wait.testBit slot && !r.unsent.testBit slot && (lookup r.sent slot).any fun a => s.due .sw a (s.get .sw DIR_SNOOP_TMO_TICKS)

/-- A write of HRD.CMD by an origin is carried out: it reaches the register, the stage is free or the writer's, no command is in progress, the host has its feature, core 1 serves (R183, R432, R436). -/
def State.hrdOpen (s : State) (o : Origin) : Bool :=
  s.writeOpen o.path .sw pgHrd 0x48 && (s.sw.hrd.stage.claim.all (· == claimantOf o)) && !s.claimOver s.sw.hrd.stage
    && !s.flag .sw HRD_CMD_STS_BUSY && (o.path != .host || (s.rd .sw MGT_FEAT).getLsbD 2) && s.cpuServes 1

/-- The same of SVC.CMD (R239). -/
def State.svcOpen (s : State) (o : Origin) : Bool :=
  s.writeOpen o.path .sw pgSvc 0x48 && (s.sw.svc.stage.claim.all (· == claimantOf o)) && !s.claimOver s.sw.svc.stage
    && !s.flag .sw SVC_CMD_STS_BUSY && (o.path != .host || (s.rd .sw MGT_FEAT).getLsbD 3) && s.cpuServes 1

/-- No timer of a herd has run out (R205, R207, R209). -/
def State.herdInTime (s : State) (i : Nat) : Bool :=
  (s.herd i).all fun h => !(h.state == 2 && s.due .sw h.timerFrom h.timeout) && !(h.state == 3 && s.due .sw h.abortAt h.timeout)

/-- A packet reaches its herd in its expected step: unmarked or of a switch, its CRC right, no timer of the herd out, the herd not a standby in another step (R189, R205, R210, R313). -/
def State.herdReach (s : State) (k : Packet) (h : Herd) : Bool :=
  (!k.mark || k.srcSw) && crcOk k && s.herd (herdIx k) == some h && s.herdInTime (herdIx k) && !h.standbyBusy k
    && (herdPrefix k).step == h.step

/-- A packet of a member at a slot and place passes the checks of R190. -/
def State.memberTurn (s : State) (k : Packet) (h : Herd) (v place : Nat) : Bool :=
  s.herdReach k h && h.senderOf k.src == some (v, place) && s.ctxPtn h.ctx == some k.ptn && !s.orphaned h.ctx

/-- A packet between herds passes the checks of R182 and R189, but for its slot. -/
def State.herdTurn (s : State) (k : Packet) (h : Herd) : Bool := k.srcSw && s.herdReach k h && (herdPrefix k).sig == h.sig

/-- The components of the state: of each part its registers (all of them, the headers of its pages, or the block of one page code), its clock, its error log, its ports, its sync objects and the rest of its half; of the switch its crossbar, the pool's bytes and the rest of the pool, the loaded programs and the other services, the herds and the rest of their page, the host's side (CXL and its invalidations), the binding sets with the operator keys and the configuration image and the rest of dual control, the firmware images with the active slots and the anti-rollback counters and the rest of the firmware; of the endpoint its relay, its commands, its outcome records, its requests, its agents' traffic and its security core; what the block has sent, and the free values drawn. -/
inductive Comp where
  | regs (p : Part) | hdr (p : Part) | page (p : Part) (code : Nat)
  | ltc (p : Part) | log (p : Part) | ports (p : Part) | sync (p : Part) | chip (p : Part)
  | core | mem | pool | progs | svc | herds | hrd | host | bindings | dct | images | fw
  | rly | cmds | ddp | reqs | ag | sec
  | sent | free
deriving DecidableEq, Repr

/-- Two components have something in common: all registers of a part with any of them, otherwise a component with itself. -/
def Comp.meets (x y : Comp) : Bool :=
  match x, y with
  | .regs p, .hdr q | .regs p, .page q _ | .hdr p, .regs q | .page p _, .regs q => p == q
  | x, y => x == y

/-- The component that holds the register of a key: offsets below 0x40 of page code 0 stand for the headers of all pages. -/
def regComp (p : Part) (k : Nat) : Comp :=
  if k % 2 ^ 24 < 0x40 then .hdr p else .page p (k % 2 ^ 24 / 4096)

/-- The component that holds a register, whatever its bank and instance. -/
def Reg.comp (r : Reg) (p : Part) : Comp := regComp p (r.key 0 0)

/-- A part's half without its registers, clock, log, ports and sync objects. -/
def Chip.rest (c : Chip) : Chip := { c with regs := [], ltc := 0, log := [], ports := [], sync := {} }

/-- The pool without its bytes. -/
def Pool.rest (p : Pool) : Pool := { p with mem := [] }

/-- The services without the programs. -/
def Svc.rest (v : Svc) : Svc := { v with progs := [] }

/-- The herds' page without the herds. -/
def Herds.rest (h : Herds) : Herds := { h with herds := [] }

/-- What dual control has put in force: the binding sets, the operator keys and the configuration image. -/
def Dct.held (d : Dct) : SMap EpSet × List (List Byte) × Option CfgImage := (d.sets, d.opKeys, d.image)

/-- Dual control without what it has put in force. -/
def Dct.rest (d : Dct) : Dct := { d with sets := [], opKeys := [], image := none }

/-- What a part boots from: the images, the active slots and the anti-rollback counters. -/
def Fw.held (f : Fw) : SMap (List Byte) × SMap Nat × SMap Nat := (f.flash, f.active, f.fused)

/-- The firmware without what a part boots from. -/
def Fw.rest (f : Fw) : Fw := { f with flash := [], active := [], fused := [] }

/-- Two states hold the same in a component. -/
def State.sameIn (s t : State) : Comp → Prop
  | .regs p => (t.chip p).regs = (s.chip p).regs
  | .hdr p => ∀ (r : Reg) (b i : Nat), r.comp p = .hdr p → t.rd p r b i = s.rd p r b i
  | .page p code => ∀ (r : Reg) (b i : Nat), r.comp p = .page p code → t.rd p r b i = s.rd p r b i
  | .ltc p => (t.chip p).ltc = (s.chip p).ltc
  | .log p => (t.chip p).log = (s.chip p).log
  | .ports p => (t.chip p).ports = (s.chip p).ports
  | .sync p => (t.chip p).sync = (s.chip p).sync
  | .chip p => (t.chip p).rest = (s.chip p).rest
  | .core => t.sw.core = s.sw.core
  | .mem => t.sw.pool.mem = s.sw.pool.mem
  | .pool => t.sw.pool.rest = s.sw.pool.rest
  | .progs => t.sw.svc.progs = s.sw.svc.progs
  | .svc => t.sw.svc.rest = s.sw.svc.rest
  | .herds => t.sw.hrd.herds = s.sw.hrd.herds
  | .hrd => t.sw.hrd.rest = s.sw.hrd.rest
  | .host => t.sw.invals = s.sw.invals ∧ t.sw.cxl = s.sw.cxl
  | .bindings => t.sw.dct.held = s.sw.dct.held
  | .dct => t.sw.dct.rest = s.sw.dct.rest
  | .images => t.sw.fw.held = s.sw.fw.held
  | .fw => t.sw.fw.rest = s.sw.fw.rest
  | .rly => t.ep.rly = s.ep.rly
  | .cmds => t.ep.cmds = s.ep.cmds
  | .ddp => t.ep.ddp = s.ep.ddp
  | .reqs => t.ep.reqs = s.ep.reqs
  | .ag => t.ep.ag = s.ep.ag
  | .sec => t.ep.secHalted = s.ep.secHalted
  | .sent => t.out = s.out
  | .free => t.free = s.free

/-- One of two lists, by the part. -/
def byPart {α : Type} (p : Part) (a b : α) : α :=
  match p with
  | .sw => a
  | .ep => b

/-- The components that a command may change; every other component it leaves as it was. -/
def mayChange (c : Instr) : List Comp :=
  match c with
  | .resetRelease p _ | .tapInstructionLoad p _ _ | .tapReset p _ =>
    byPart p [.hdr .sw, .page .sw pgGlb, .page .sw pgClk, .page .sw pgRst, .page .sw pgSbp, .page .sw pgErr, .log .sw, .chip .sw, .sent] [.hdr .ep,
     .page .ep pgGlb, .page .ep pgClk, .page .ep pgEpc, .page .ep pgErr, .log .ep, .chip .ep, .sent]
  | .standbyPowerOn p _ => byPart p [.hdr .sw, .page .sw pgRst, .page .sw pgSbp, .page .sw pgErr, .log .sw, .chip .sw, .sent] [.chip .ep]
  | .startupStepDone _ _ =>
    [.regs .sw, .log .sw, .ports .sw, .sync .sw, .chip .sw, .core, .mem, .pool, .svc, .herds, .hrd, .host, .bindings, .fw, .sent, .free]
  | .endpointStartupStepDone _ =>
    [.page .ep pgClk, .page .ep pgPwr, .page .ep pgSec, .page .ep pgUci, .page .ep pgQad, .page .ep pgFpt, .page .ep pgLnk, .ports .ep, .chip .ep]
  | .rstNPulse p _ | .mainRailsLost p | .dieSensorSample p _ | .mainRailsOn p =>
    byPart p [.regs .sw, .ltc .sw, .log .sw, .ports .sw, .sync .sw, .chip .sw, .core, .mem, .pool, .progs, .svc, .herds, .hrd, .host, .bindings, .dct,
     .images, .fw, .sent] [.regs .ep, .ltc .ep, .log .ep, .ports .ep, .sync .ep, .chip .ep, .rly, .cmds, .ddp, .reqs, .ag, .sec, .sent]
  | .rstCold _ =>
    [.regs .sw, .ltc .sw, .log .sw, .ports .sw, .sync .sw, .chip .sw, .core, .mem, .pool, .progs, .svc, .herds, .hrd, .host, .bindings, .dct, .images,
     .fw, .sent]
  | .rstWarm _ | .sbRegisterAccess _ _ _ _ _ | .tableEccFatal _ | .securityCoreFatalAlarm =>
    [.regs .sw, .ltc .sw, .log .sw, .ports .sw, .sync .sw, .chip .sw, .core, .mem, .pool, .progs, .svc, .herds, .hrd, .host, .bindings, .dct, .images,
     .fw, .sent, .free]
  | .rstFabric _ =>
    [.regs .sw, .ltc .sw, .log .sw, .ports .sw, .sync .sw, .chip .sw, .core, .mem, .pool, .svc, .herds, .hrd, .host, .dct, .sent, .free]
  | .epRstWarm _ => [.regs .ep, .ltc .ep, .log .ep, .ports .ep, .sync .ep, .chip .ep, .rly, .cmds, .ddp, .reqs, .ag, .sec, .sent]
  | .epRstFabric _ => [.regs .ep, .ltc .ep, .log .ep, .ports .ep, .sync .ep, .chip .ep, .rly, .cmds, .reqs, .ag, .sent]
  | .layoutWrite _ _ => [.hdr .sw, .page .sw pgGlb, .page .sw pgErr, .sent]
  | .switchGroupWrite _ _ => [.regs .sw, .ports .sw, .sent]
  | .refLoss p => [.hdr p, .page p pgClk, .page p pgErr, .chip p, .free]
  | .refReturn p _ => [.page p pgClk, .chip p]
  | .holdoverExpiry p | .pllLockLoss p =>
    byPart p [.regs .sw, .ltc .sw, .log .sw, .ports .sw, .sync .sw, .chip .sw, .core, .mem, .pool, .progs, .svc, .herds, .hrd, .host, .bindings, .dct,
     .images, .fw, .sent, .free] [.regs .ep, .ltc .ep, .log .ep, .ports .ep, .sync .ep, .chip .ep, .rly, .cmds, .ddp, .reqs, .ag, .sec, .sent]
  | .pwrAlertAssert | .pwrAlertDeassert | .thermAlertAssert | .thermAlertDeassert | .thermP3DelayExpiry | .pwrCapChange _ | .forceLevelWrite _ _
    | .throttleHoldExpiry => [.hdr .sw, .page .sw pgPwr, .page .sw pgMgt, .page .sw pgSbp, .page .sw pgErr, .page .sw pgRdc, .log .sw, .core, .sent]
  | .powerControlSample p _ => byPart p [.page .sw pgPwr, .page .sw pgRdc, .core, .free] [.page .ep pgPwr]
  | .hbmStackThrottle _ _ => [.page .sw pgHbm]
  | .tackupDetectProbe p _ _ _ | .tackupPreambleTmo p _ | .eqTimerExpiry p _ | .lockTmo p _ | .capxTmo p _ | .shedReceive p _ _ _
    | .shedAckReceive p _ _ _ | .shedGoReceive p _ =>
    byPart p [.hdr .sw, .page .sw pgSbp, .page .sw pgErr, .page .sw pgQad, .page .sw pgFpt, .page .sw pgLnk, .log .sw, .ports .sw, .sent] [.hdr .ep,
     .page .ep pgErr, .page .ep pgQad, .page .ep pgFpt, .page .ep pgLnk, .log .ep, .ports .ep, .sent]
  | .laneEqPass p _ _ _ _ _ _ =>
    byPart p [.hdr .sw, .page .sw pgSbp, .page .sw pgErr, .page .sw pgQad, .page .sw pgFpt, .page .sw pgLnk, .log .sw, .ports .sw, .sent, .free]
     [.hdr .ep, .page .ep pgErr, .page .ep pgQad, .page .ep pgFpt, .page .ep pgLnk, .log .ep, .ports .ep, .sent, .free]
  | .flitLock p _ => [.page p pgFpt, .page p pgLnk, .ports p, .sent]
  | .capReceive p _ _ =>
    byPart p [.hdr .sw, .page .sw pgRst, .page .sw pgSbp, .page .sw pgAtt, .page .sw pgErr, .page .sw pgRte, .page .sw pgQad, .page .sw pgFpt,
     .page .sw pgLnk, .log .sw, .ports .sw, .sent, .free] [.hdr .ep, .page .ep pgPwr, .page .ep pgEpc, .page .ep pgAtt, .page .ep pgCtx,
     .page .ep pgErr, .page .ep pgQad, .page .ep pgFpt, .page .ep pgLnk, .log .ep, .ports .ep, .rly, .sent, .free]
  | .refuseReceive p _ _ =>
    byPart p [.hdr .sw, .page .sw pgRst, .page .sw pgSbp, .page .sw pgErr, .page .sw pgQad, .page .sw pgFpt, .page .sw pgLnk, .log .sw, .ports .sw,
     .sent] [.hdr .ep, .page .ep pgPwr, .page .ep pgErr, .page .ep pgQad, .page .ep pgFpt, .page .ep pgLnk, .log .ep, .ports .ep, .sent]
  | .pingReceive p _ _ | .groupClose p _ => [.page p pgLnk, .ports p, .sent]
  | .pongReceive p _ _ | .readyReceive p _ =>
    byPart p [.page .sw pgRst, .page .sw pgAtt, .page .sw pgRte, .page .sw pgQad, .page .sw pgFpt, .page .sw pgLnk, .ports .sw, .sent, .free]
     [.page .ep pgPwr, .page .ep pgAtt, .page .ep pgCtx, .page .ep pgQad, .page .ep pgFpt, .page .ep pgLnk, .ports .ep, .rly, .sent, .free]
  | .tackRetryTimer p _ | .partnerRedetect p _ _ => [.page p pgQad, .page p pgFpt, .page p pgLnk, .ports p]
  | .fptRestart _ p _ | .fptDisable _ p _ _ | .retrainComplete p _ _ | .retrainTimeout p _ | .retrainBitlockTmo p _ | .laneLockLoss p _ _
    | .signalLoss p _ | .sealReceive p _ _ _ _ | .kexTimeout p _ | .keyExhausted p _ =>
    byPart p [.hdr .sw, .page .sw pgSbp, .page .sw pgSec, .page .sw pgAtt, .page .sw pgDct, .page .sw pgErr, .page .sw pgBuf, .page .sw pgCmb,
     .page .sw pgRte, .page .sw pgHrd, .page .sw pgSyn, .page .sw pgPol, .page .sw pgDir, .page .sw pgBlk, .page .sw pgHbm, .page .sw pgCxu,
     .page .sw pgQad, .page .sw pgFpt, .page .sw pgLnk, .page .sw pgRdc, .log .sw, .ports .sw, .sync .sw, .chip .sw, .core, .mem, .pool, .svc, .herds,
     .hrd, .host, .dct, .sent, .free] [.hdr .ep, .page .ep pgEpc, .page .ep pgSec, .page .ep pgAtt, .page .ep pgErr, .page .ep pgRly, .page .ep pgSyn,
     .page .ep pgApt, .page .ep pgAcn, .page .ep pgQad, .page .ep pgFpt, .page .ep pgLnk, .log .ep, .ports .ep, .sync .ep, .chip .ep, .rly, .cmds,
     .reqs, .ag, .sent]
  | .fptRetrain _ p _ => [.hdr p, .page p pgErr, .page p pgQad, .page p pgFpt, .ports p, .sent]
  | .retrainSetReceive p _ => [.page p pgQad, .page p pgFpt, .ports p, .sent]
  | .shedWindowExpiry p _ =>
    byPart p [.hdr .sw, .page .sw pgSbp, .page .sw pgErr, .page .sw pgBuf, .page .sw pgRte, .page .sw pgHrd, .page .sw pgSyn, .page .sw pgQad,
     .page .sw pgFpt, .log .sw, .ports .sw, .sync .sw, .core, .svc, .herds, .hrd, .sent] [.page .ep pgQad, .page .ep pgFpt, .ports .ep, .sent]
  | .fifoSlip p _ =>
    byPart p [.hdr .sw, .page .sw pgRst, .page .sw pgSbp, .page .sw pgSec, .page .sw pgAtt, .page .sw pgDct, .page .sw pgErr, .page .sw pgBuf,
     .page .sw pgCmb, .page .sw pgRte, .page .sw pgHrd, .page .sw pgSyn, .page .sw pgPol, .page .sw pgDir, .page .sw pgBlk, .page .sw pgHbm,
     .page .sw pgCxu, .page .sw pgQad, .page .sw pgFpt, .page .sw pgLnk, .page .sw pgRdc, .log .sw, .ports .sw, .sync .sw, .chip .sw, .core, .mem,
     .pool, .svc, .herds, .hrd, .host, .dct, .sent, .free] [.hdr .ep, .page .ep pgPwr, .page .ep pgEpc, .page .ep pgSec, .page .ep pgAtt,
     .page .ep pgErr, .page .ep pgRly, .page .ep pgSyn, .page .ep pgApt, .page .ep pgAcn, .page .ep pgQad, .page .ep pgFpt, .page .ep pgLnk, .log .ep,
     .ports .ep, .sync .ep, .chip .ep, .rly, .cmds, .reqs, .ag, .sent]
  | .flitReceive p _ _ =>
    byPart p [.hdr .sw, .page .sw pgSbp, .page .sw pgSec, .page .sw pgAtt, .page .sw pgDct, .page .sw pgErr, .page .sw pgBuf, .page .sw pgCmb,
     .page .sw pgRte, .page .sw pgHrd, .page .sw pgSyn, .page .sw pgPol, .page .sw pgDir, .page .sw pgBlk, .page .sw pgHbm, .page .sw pgCxu,
     .page .sw pgQad, .page .sw pgFpt, .page .sw pgLnk, .page .sw pgRdc, .log .sw, .ports .sw, .sync .sw, .chip .sw, .core, .mem, .pool, .svc, .herds,
     .hrd, .host, .dct, .sent, .free] [.hdr .ep, .page .ep pgEpc, .page .ep pgSec, .page .ep pgAtt, .page .ep pgErr, .page .ep pgRly, .page .ep pgSyn,
     .page .ep pgApt, .page .ep pgAcn, .page .ep pgQad, .page .ep pgFpt, .page .ep pgLnk, .log .ep, .ports .ep, .sync .ep, .chip .ep, .rly, .cmds,
     .reqs, .ag, .sent, .free]
  | .nakReceive p _ _ | .replayTimerExpiry p _ => [.page p pgQad, .page p pgFpt, .page p pgLnk, .ports p, .sent]
  | .kexInitReceive p _ _ =>
    byPart p [.hdr .sw, .page .sw pgRst, .page .sw pgSbp, .page .sw pgSec, .page .sw pgAtt, .page .sw pgDct, .page .sw pgErr, .page .sw pgBuf,
     .page .sw pgCmb, .page .sw pgRte, .page .sw pgHrd, .page .sw pgSyn, .page .sw pgPol, .page .sw pgDir, .page .sw pgBlk, .page .sw pgHbm,
     .page .sw pgCxu, .page .sw pgQad, .page .sw pgFpt, .page .sw pgLnk, .page .sw pgRdc, .log .sw, .ports .sw, .sync .sw, .chip .sw, .core, .mem,
     .pool, .svc, .herds, .hrd, .host, .dct, .sent, .free] [.hdr .ep, .page .ep pgPwr, .page .ep pgEpc, .page .ep pgSec, .page .ep pgAtt,
     .page .ep pgCtx, .page .ep pgErr, .page .ep pgRly, .page .ep pgSyn, .page .ep pgApt, .page .ep pgAcn, .page .ep pgQad, .page .ep pgFpt,
     .page .ep pgLnk, .log .ep, .ports .ep, .sync .ep, .chip .ep, .rly, .cmds, .reqs, .ag, .sent, .free]
  | .kexRespReceive p _ _ =>
    byPart p [.hdr .sw, .page .sw pgRst, .page .sw pgSbp, .page .sw pgSec, .page .sw pgAtt, .page .sw pgDct, .page .sw pgErr, .page .sw pgBuf,
     .page .sw pgCmb, .page .sw pgRte, .page .sw pgHrd, .page .sw pgSyn, .page .sw pgPol, .page .sw pgDir, .page .sw pgBlk, .page .sw pgHbm,
     .page .sw pgCxu, .page .sw pgQad, .page .sw pgFpt, .page .sw pgLnk, .page .sw pgRdc, .log .sw, .ports .sw, .sync .sw, .chip .sw, .core, .mem,
     .pool, .svc, .herds, .hrd, .host, .dct, .sent, .free] [.hdr .ep, .page .ep pgPwr, .page .ep pgEpc, .page .ep pgSec, .page .ep pgAtt,
     .page .ep pgCtx, .page .ep pgErr, .page .ep pgRly, .page .ep pgSyn, .page .ep pgApt, .page .ep pgAcn, .page .ep pgQad, .page .ep pgFpt,
     .page .ep pgLnk, .log .ep, .ports .ep, .sync .ep, .chip .ep, .rly, .cmds, .reqs, .ag, .sent]
  | .rekeyRequest _ p _ => [.hdr p, .page p pgErr, .page p pgLnk, .ports p, .sent, .free]
  | .rekeySoftPoint p _ | .rekeyCtrlReceive p _ => [.page p pgLnk, .ports p, .sent, .free]
  | .switchPacketArrival _ _ => [.page .sw pgBuf, .page .sw pgCgt, .page .sw pgRte, .ports .sw, .core, .herds, .free]
  | .creditReserve _ => [.ports .sw, .core]
  | .egressPacketStart _ | .mcastCopySend _ => [.page .sw pgBuf, .page .sw pgCgt, .page .sw pgRte, .page .sw pgLnk, .ports .sw, .core, .sent]
  | .sramUncorrectable _ _ _ =>
    [.hdr .sw, .page .sw pgSbp, .page .sw pgErr, .page .sw pgXbr, .page .sw pgBuf, .page .sw pgRte, .page .sw pgHrd, .page .sw pgSyn, .log .sw,
     .ports .sw, .sync .sw, .core, .svc, .herds, .hrd, .sent]
  | .midFenceSet _ _ _ => [.hdr .sw, .page .sw pgErr, .page .sw pgXbr, .sent]
  | .congNoticeReceive _ | .bridleIncrease _ => [.page .ep pgBrd, .rly]
  | .lossyResidueExpiry _ | .telemetryWindowClose => [.page .sw pgBuf, .page .sw pgCgt, .page .sw pgRte, .ports .sw, .core]
  | .combineWindowExpiry _ _ => [.pool]
  | .combineIssue _ _ | .switchReqTimeout _ | .poolRead _ _ | .poolWrite _ _ | .poolAtomic _ _ | .readShared _ | .readOwn _ | .upgrade _
    | .writeback _ | .cleanEvict _ | .snpRspReceive _ | .snoopTimeout _ | .agtFenceWrite _ | .hbmStackLost _ | .prefetchHint _ _
    | .gatherRequest _ | .scatterAddRequest _ | .chunkReduced _ _ _ | .programChunkDone _ _ _ | .memRd _ _ | .memInv _ | .memWr _ _ _
    | .memClnEvct _ | .biRsp _ _ | .biEnWrite _ _ | .olClearDone =>
    [.hdr .sw, .page .sw pgSbp, .page .sw pgErr, .page .sw pgBuf, .page .sw pgCmb, .page .sw pgRte, .page .sw pgHrd, .page .sw pgSyn, .page .sw pgPol,
     .page .sw pgDir, .page .sw pgBlk, .page .sw pgHbm, .page .sw pgCxu, .page .sw pgRdc, .log .sw, .ports .sw, .sync .sw, .core, .mem, .pool, .svc,
     .herds, .hrd, .host, .sent, .free]
  | .outcomeRecordExpiry _ _ => [.page .sw pgCmb, .pool]
  | .outcomeReleaseReceive p _ =>
    byPart p [.hdr .sw, .page .sw pgSbp, .page .sw pgErr, .page .sw pgBuf, .page .sw pgRte, .log .sw, .core, .pool, .sent] [.hdr .ep, .page .ep pgErr,
     .page .ep pgRly, .page .ep pgDdp, .page .ep pgLnk, .log .ep, .ports .ep, .rly, .ddp, .sent]
  | .pmapWrite _ _ _ => [.hdr .ep, .page .ep pgErr, .page .ep pgRly, .page .ep pgLnk, .ports .ep, .rly, .sent]
  | .drainProbeReceive _ _ => [.page .sw pgRte, .ports .sw, .core]
  | .probeAnswer _ _ => [.page .sw pgBuf, .page .sw pgRte, .core]
  | .probeAckReceive _ => [.rly]
  | .flipSettleExpiry _ | .routeUpReceive _ | .relayPacket _ _ => [.page .ep pgRly, .page .ep pgLnk, .ports .ep, .rly, .sent]
  | .routeDownReceive _ =>
    [.hdr .ep, .page .ep pgErr, .page .ep pgRly, .page .ep pgSyn, .page .ep pgLnk, .log .ep, .ports .ep, .sync .ep, .rly, .cmds, .ag, .sent]
  | .portActiveReceive _ => [.page .ep pgPwr, .page .ep pgLnk, .ports .ep, .rly, .sent]
  | .routeOkWrite _ => [.hdr .sw, .page .sw pgRst, .page .sw pgErr, .page .sw pgBuf, .page .sw pgRte, .core, .sent]
  | .partnerIdentityVerified p _ _ _ =>
    byPart p [.hdr .sw, .page .sw pgRst, .page .sw pgSbp, .page .sw pgSec, .page .sw pgDct, .page .sw pgErr, .page .sw pgBuf, .page .sw pgRte, .log .sw,
     .core, .dct, .sent] [.page .ep pgSec]
  | .rtePortDisable _ _ =>
    [.hdr .sw, .page .sw pgSbp, .page .sw pgSec, .page .sw pgAtt, .page .sw pgDct, .page .sw pgErr, .page .sw pgBuf, .page .sw pgCmb, .page .sw pgRte,
     .page .sw pgHrd, .page .sw pgSyn, .page .sw pgPol, .page .sw pgDir, .page .sw pgBlk, .page .sw pgHbm, .page .sw pgCxu, .page .sw pgQad,
     .page .sw pgFpt, .page .sw pgLnk, .page .sw pgRdc, .log .sw, .ports .sw, .sync .sw, .chip .sw, .core, .mem, .pool, .svc, .herds, .hrd, .host,
     .dct, .sent, .free]
  | .cgtEnableWrite _ _ => [.hdr .sw, .page .sw pgErr, .page .sw pgCgt, .core, .sent]
  | .memReq _ _ _ _ _ _ _ _ | .discardAck _ | .cmdNop _ | .cmdGet _ | .cmdPut _ | .cmdAtomic _ | .cmdSyncAdd _ | .cmdSyncSet _ | .cmdSyncRead _
    | .cmdSyncWait _ | .cmdSyncSetClear _ | .cmdHerd _ _ _ _ _ _ _ | .cmdGather _ | .cmdScatterAdd _ | .cmdKstart _ | .cmdKend _ | .localWaitTmo _
    | .tagHoldExpiry _ =>
    [.hdr .ep, .page .ep pgEpc, .page .ep pgRly, .page .ep pgSyn, .page .ep pgApt, .page .ep pgAcn, .page .ep pgLnk, .ports .ep, .sync .ep, .rly,
     .cmds, .reqs, .ag, .sent]
  | .doorbell _ _ => [.page .ep pgQue]
  | .csr _ _ _ _ _ => [.regs .ep, .ltc .ep, .log .ep, .ports .ep, .sync .ep, .chip .ep, .rly, .cmds, .ddp, .reqs, .ag, .sec, .sent, .free]
  | .accCpl _ _ _ | .accTimeout _ =>
    [.hdr .ep, .page .ep pgEpc, .page .ep pgErr, .page .ep pgRly, .page .ep pgSyn, .page .ep pgDdp, .page .ep pgApt, .page .ep pgAcn, .page .ep pgUci,
     .page .ep pgLnk, .log .ep, .ports .ep, .sync .ep, .rly, .cmds, .ddp, .reqs, .ag, .sent, .free]
  | .ucieDown =>
    [.hdr .ep, .page .ep pgEpc, .page .ep pgErr, .page .ep pgRly, .page .ep pgQue, .page .ep pgSyn, .page .ep pgApt, .page .ep pgAcn, .page .ep pgUci,
     .page .ep pgLnk, .log .ep, .ports .ep, .sync .ep, .rly, .cmds, .ddp, .reqs, .ag, .sent]
  | .ucieUp _ _ =>
    [.hdr .ep, .page .ep pgEpc, .page .ep pgRly, .page .ep pgQue, .page .ep pgSyn, .page .ep pgApt, .page .ep pgAcn, .page .ep pgUci, .page .ep pgLnk,
     .ports .ep, .sync .ep, .rly, .cmds, .reqs, .ag, .sent]
  | .qTailWrite _ _ | .qEnableWrite _ _ => [.hdr .ep, .page .ep pgErr, .page .ep pgQue, .sent]
  | .descriptorFetch _ _ => [.page .ep pgQue, .cmds, .ag, .sent]
  | .descriptorFetchFail _ => [.page .ep pgQue, .ag, .sent]
  | .commandComplete _ =>
    [.hdr .ep, .page .ep pgEpc, .page .ep pgRly, .page .ep pgQue, .page .ep pgSyn, .page .ep pgApt, .page .ep pgAcn, .page .ep pgLnk, .ports .ep,
     .sync .ep, .rly, .cmds, .reqs, .ag, .sent]
  | .answerReceive _ | .gatherRowReceive _ | .tableReadComplete _ =>
    [.hdr .ep, .page .ep pgEpc, .page .ep pgErr, .page .ep pgRly, .page .ep pgSyn, .page .ep pgDdp, .page .ep pgApt, .page .ep pgAcn, .page .ep pgLnk,
     .log .ep, .ports .ep, .sync .ep, .rly, .cmds, .reqs, .ag, .sent, .free]
  | .resendTimer _ | .requestTimeout _ =>
    [.hdr .ep, .page .ep pgEpc, .page .ep pgErr, .page .ep pgRly, .page .ep pgSyn, .page .ep pgDdp, .page .ep pgApt, .page .ep pgAcn, .page .ep pgLnk,
     .ports .ep, .sync .ep, .rly, .cmds, .reqs, .ag, .sent, .free]
  | .outcomeReleaseSend _ _ => [.page .ep pgRly, .page .ep pgDdp, .page .ep pgLnk, .ports .ep, .rly, .ag, .sent]
  | .ddpRecordExpiry _ _ => [.page .ep pgDdp, .ddp]
  | .windowRequest _ =>
    [.hdr .ep, .page .ep pgErr, .page .ep pgRly, .page .ep pgDdp, .page .ep pgAcn, .page .ep pgLnk, .log .ep, .ports .ep, .rly, .ddp, .ag, .sent]
  | .winInvWrite _ _ => [.hdr .ep, .page .ep pgErr, .page .ep pgWin, .ag, .sent]
  | .winValidSet _ _ | .winValidClear _ _ =>
    [.hdr .ep, .page .ep pgErr, .page .ep pgRly, .page .ep pgWin, .page .ep pgLnk, .ports .ep, .rly, .ag, .sent]
  | .gntValidSet _ _ => [.hdr .ep, .page .ep pgErr, .page .ep pgWin, .sent]
  | .apValidSet _ _ _ | .apValidClear _ _ _ | .atcFlush _ =>
    [.hdr .ep, .page .ep pgEpc, .page .ep pgErr, .page .ep pgRly, .page .ep pgSyn, .page .ep pgApt, .page .ep pgAcn, .page .ep pgLnk, .ports .ep,
     .sync .ep, .rly, .cmds, .reqs, .ag, .sent]
  | .invalReceive _ | .herdRecord _ | .herdSignalReceive _ | .herdSwapReceive _ =>
    [.hdr .ep, .page .ep pgEpc, .page .ep pgErr, .page .ep pgRly, .page .ep pgSyn, .page .ep pgApt, .page .ep pgAcn, .page .ep pgLnk, .log .ep,
     .ports .ep, .sync .ep, .rly, .cmds, .reqs, .ag, .sent]
  | .invalAckSend => [.page .ep pgRly, .page .ep pgLnk, .ports .ep, .rly, .ag, .sent]
  | .acnEnableWrite _ _ => [.hdr .ep, .page .ep pgErr, .page .ep pgAcn, .ag, .sent]
  | .acnEpochExpiry => [.page .ep pgAcn, .ag]
  | .rangeValidSet _ _ _ => [.hdr .ep, .page .ep pgErr, .page .ep pgAcn, .sent]
  | .epcNodeIdWrite _ _ => [.hdr .ep, .page .ep pgEpc, .page .ep pgErr, .page .ep pgQad, .page .ep pgFpt, .page .ep pgLnk, .ports .ep, .sent]
  | .syncAdd p _ _ | .syncSet p _ _ | .syncSetClear p _ _ =>
    byPart p [.hdr .sw, .page .sw pgSbp, .page .sw pgErr, .page .sw pgBuf, .page .sw pgCmb, .page .sw pgRte, .page .sw pgSyn, .log .sw, .sync .sw,
     .core, .pool, .sent] [.hdr .ep, .page .ep pgEpc, .page .ep pgErr, .page .ep pgRly, .page .ep pgSyn, .page .ep pgDdp, .page .ep pgApt,
     .page .ep pgAcn, .page .ep pgLnk, .log .ep, .ports .ep, .sync .ep, .rly, .cmds, .ddp, .reqs, .ag, .sent]
  | .syncRead p _ _ =>
    byPart p [.hdr .sw, .page .sw pgSbp, .page .sw pgErr, .page .sw pgBuf, .page .sw pgCmb, .page .sw pgRte, .log .sw, .core, .pool, .sent] [.hdr .ep,
     .page .ep pgErr, .page .ep pgRly, .page .ep pgDdp, .page .ep pgLnk, .log .ep, .ports .ep, .rly, .ddp, .sent]
  | .syncWait p _ _ =>
    byPart p [.hdr .sw, .page .sw pgSbp, .page .sw pgErr, .page .sw pgBuf, .page .sw pgCmb, .page .sw pgRte, .page .sw pgSyn, .log .sw, .sync .sw,
     .core, .pool, .sent] [.hdr .ep, .page .ep pgErr, .page .ep pgRly, .page .ep pgSyn, .page .ep pgDdp, .page .ep pgLnk, .log .ep, .ports .ep,
     .sync .ep, .rly, .ddp, .sent]
  | .syncWaitTimeout p _ _ =>
    byPart p [.page .sw pgBuf, .page .sw pgRte, .sync .sw, .core] [.page .ep pgRly, .page .ep pgLnk, .ports .ep, .sync .ep, .rly, .sent]
  | .synAcqRead _ => [.page .sw pgSyn, .sent]
  | .synAddWrite _ _ => [.hdr .sw, .page .sw pgErr, .page .sw pgBuf, .page .sw pgRte, .page .sw pgSyn, .sync .sw, .core, .pool, .sent]
  | .synErrorClear _ p => [.hdr p, .page p pgErr, .page p pgSyn, .sent]
  | .snoopReceive _ => [.hdr .ep, .page .ep pgErr, .page .ep pgRly, .page .ep pgLnk, .log .ep, .ports .ep, .rly, .ag, .sent]
  | .agtReadmitWrite _ | .olClearWrite _ _ => [.hdr .sw, .page .sw pgErr, .page .sw pgDir, .sent]
  | .olRec1Read _ => [.pool, .sent]
  | .granRetire _ => [.hdr .sw, .page .sw pgErr, .page .sw pgPol, .sent]
  | .drainEnd _ =>
    [.hdr .sw, .page .sw pgSbp, .page .sw pgAtt, .page .sw pgDct, .page .sw pgPtn, .page .sw pgCtx, .page .sw pgErr, .page .sw pgBuf, .page .sw pgCmb,
     .page .sw pgRte, .page .sw pgHrd, .page .sw pgSyn, .page .sw pgPol, .page .sw pgDir, .page .sw pgBlk, .page .sw pgHbm, .page .sw pgCxu,
     .page .sw pgRdc, .log .sw, .ports .sw, .sync .sw, .core, .mem, .pool, .progs, .svc, .herds, .hrd, .host, .bindings, .dct, .sent, .free]
  | .scrubGranuleDone _ => [.page .sw pgPol, .mem, .pool, .sent]
  | .patrolPass _ => [.hdr .sw, .page .sw pgSbp, .page .sw pgErr, .page .sw pgPol, .page .sw pgHbm, .log .sw, .pool, .sent]
  | .bulkFillComplete _ _ _ | .bulkWritebackComplete _ _ | .bulkPortDown _ | .bulkPortUp _ _ _ | .bulkDevTimeout _
    | .cxdDeviceDetect _ _ _ _ _ _ _ | .cxdRestart _ _ =>
    [.hdr .sw, .page .sw pgSbp, .page .sw pgErr, .page .sw pgBuf, .page .sw pgCmb, .page .sw pgRte, .page .sw pgHrd, .page .sw pgSyn, .page .sw pgPol,
     .page .sw pgDir, .page .sw pgBlk, .page .sw pgHbm, .page .sw pgCxu, .page .sw pgCxd, .page .sw pgRdc, .log .sw, .ports .sw, .sync .sw, .core,
     .mem, .pool, .svc, .herds, .hrd, .host, .sent, .free]
  | .ctlRead p _ | .ctlWrite p _ | .registerWrite _ p _ _ _ _ =>
    byPart p [.regs .sw, .ltc .sw, .log .sw, .ports .sw, .sync .sw, .chip .sw, .core, .mem, .pool, .progs, .svc, .herds, .hrd, .host, .bindings, .dct,
     .images, .fw, .sent, .free] [.regs .ep, .ltc .ep, .log .ep, .ports .ep, .sync .ep, .chip .ep, .rly, .cmds, .ddp, .reqs, .ag, .sec, .sent, .free]
  | .coreResidueFault _ _ _ | .rdcFenceWrite _ _ | .selftestComplete _ _ _ =>
    [.hdr .sw, .page .sw pgSbp, .page .sw pgErr, .page .sw pgBuf, .page .sw pgRte, .page .sw pgHrd, .page .sw pgSyn, .page .sw pgRdc, .log .sw,
     .ports .sw, .sync .sw, .core, .svc, .herds, .hrd, .sent]
  | .rdcReadmitWrite _ _ | .rdcSelftestWrite _ _ => [.hdr .sw, .page .sw pgErr, .page .sw pgRdc, .sent]
  | .hrdClaimRead _ => [.page .sw pgHrd, .hrd, .sent]
  | .stageClaimTimeout _ => [.page .sw pgHrd, .page .sw pgSvc, .svc, .hrd]
  | .herdCreate _ _ => [.hdr .sw, .page .sw pgErr, .page .sw pgHrd, .page .sw pgSyn, .herds, .hrd, .sent]
  | .herdDestroy _ _ | .herdAbortCmd _ _ | .herdContrib _ | .herdPartial _ | .herdJoin _ | .herdAckReceive _ | .herdTimerExpiry _
    | .abortingTimeout _ =>
    [.hdr .sw, .page .sw pgSbp, .page .sw pgErr, .page .sw pgBuf, .page .sw pgRte, .page .sw pgHrd, .page .sw pgSyn, .log .sw, .ports .sw, .sync .sw,
     .core, .svc, .herds, .hrd, .sent]
  | .herdSwapCmd _ _ _ _ _ => [.hdr .sw, .page .sw pgErr, .page .sw pgBuf, .page .sw pgRte, .page .sw pgHrd, .core, .herds, .hrd, .sent]
  | .herdResult p _ | .herdCounts p _ | .herdCplReceive p _ | .herdAbortReceive p _ =>
    byPart p [.hdr .sw, .page .sw pgSbp, .page .sw pgErr, .page .sw pgBuf, .page .sw pgRte, .page .sw pgHrd, .page .sw pgSyn, .log .sw, .ports .sw,
     .sync .sw, .core, .svc, .herds, .hrd, .sent] [.hdr .ep, .page .ep pgEpc, .page .ep pgErr, .page .ep pgRly, .page .ep pgSyn, .page .ep pgApt,
     .page .ep pgAcn, .page .ep pgLnk, .log .ep, .ports .ep, .sync .ep, .rly, .cmds, .reqs, .ag, .sent]
  | .svcClaimRead _ => [.page .sw pgSvc, .svc, .sent]
  | .svcLoad _ _ | .svcUnload _ _ => [.hdr .sw, .page .sw pgAtt, .page .sw pgErr, .page .sw pgSvc, .progs, .svc, .sent]
  | .svcAttach _ _ | .svcDetach _ _ | .svcConst _ _ | .svcTableSet _ _ | .svcTableClr _ _ => [.hdr .sw, .page .sw pgErr, .page .sw pgSvc, .svc, .sent]
  | .svcSeal _ _ =>
    [.hdr .sw, .page .sw pgSbp, .page .sw pgErr, .page .sw pgBuf, .page .sw pgCmb, .page .sw pgRte, .page .sw pgHrd, .page .sw pgSyn, .page .sw pgSvc,
     .page .sw pgPol, .page .sw pgDir, .page .sw pgBlk, .page .sw pgHbm, .page .sw pgCxu, .page .sw pgRdc, .log .sw, .ports .sw, .sync .sw, .core,
     .mem, .pool, .svc, .herds, .hrd, .host, .sent, .free]
  | .svcUnseal _ _ => [.hdr .sw, .page .sw pgAtt, .page .sw pgErr, .page .sw pgSvc, .svc, .sent]
  | .regionHashDone _ => [.hdr .sw, .page .sw pgAtt, .page .sw pgErr, .svc]
  | .attCommitWrite _ _ => [.hdr .sw, .page .sw pgErr, .svc, .sent]
  | .memSpecRd _ => []
  | .biConflict _ | .tspGetVersion | .tspGetCapabilities | .tspGetReport | .identifyMemoryDevice | .getSupportedLogs | .getLog | .getEventRecords
    | .getEventInterruptPolicy | .getTimestamp | .tspRefusedRequest | .memdevUnsupportedCommand => [.sent]
  | .invSubmit _ => [.hdr .sw, .page .sw pgSbp, .page .sw pgErr, .page .sw pgBuf, .page .sw pgRte, .page .sw pgCxu, .core, .host, .sent]
  | .invalAckReceive _ => [.hdr .sw, .page .sw pgSbp, .page .sw pgErr, .page .sw pgBuf, .page .sw pgRte, .log .sw, .core, .host, .sent]
  | .invalTimeout _ => [.host]
  | .invRecordWrite => [.hdr .sw, .page .sw pgSbp, .page .sw pgCxu, .host, .sent]
  | .hostLinkDown _ | .ideCheckFail =>
    [.hdr .sw, .page .sw pgSbp, .page .sw pgErr, .page .sw pgBuf, .page .sw pgCmb, .page .sw pgRte, .page .sw pgHrd, .page .sw pgSyn, .page .sw pgPol,
     .page .sw pgDir, .page .sw pgBlk, .page .sw pgHbm, .page .sw pgCxu, .page .sw pgRdc, .log .sw, .ports .sw, .sync .sw, .chip .sw, .core, .mem,
     .pool, .svc, .herds, .hrd, .host, .sent, .free]
  | .hdmCommit _ _ _ _ _ _ | .tspSetConfig _ => [.hdr .sw, .page .sw pgErr, .page .sw pgCxu, .host, .sent]
  | .tspLockConfig => [.page .sw pgCxu, .sent]
  | .clearEventRecords _ _ | .setEventInterruptPolicy _ | .setTimestamp _ => [.host, .sent]
  | .getHealthInfo => [.sent, .free]
  | .dctBegin _ _ | .dctRecWrite _ _ | .dctCancel _ | .sigStart _ _ | .sigSubmit _ _ => [.hdr .sw, .page .sw pgDct, .page .sw pgErr, .dct, .sent]
  | .dctSeal _ | .sigVerifyDone =>
    [.regs .sw, .log .sw, .ports .sw, .sync .sw, .core, .mem, .pool, .svc, .herds, .hrd, .host, .bindings, .dct, .sent, .free]
  | .sigDataWrite _ _ => [.hdr .sw, .page .sw pgErr, .dct, .sent]
  | .dctWindowExpiry | .bindingAckReceive _ => [.page .sw pgDct, .dct]
  | .bindingSetReceive _ _ _ _ _ _ =>
    [.hdr .ep, .page .ep pgPwr, .page .ep pgEpc, .page .ep pgSec, .page .ep pgAtt, .page .ep pgCtx, .page .ep pgRly, .page .ep pgSyn, .page .ep pgWin,
     .page .ep pgApt, .page .ep pgAcn, .page .ep pgLnk, .ports .ep, .sync .ep, .rly, .cmds, .reqs, .ag, .sent]
  | .bindingResendTimer _ => [.page .sw pgDct, .dct, .sent]
  | .imageWriteDone => [.page .sw pgDct, .bindings]
  | .spdmGetVersion p _ | .spdmGetCapabilities p _ | .spdmNegotiateAlgorithms p _ | .spdmEndSession p _ =>
    byPart p [.page .sw pgSbp, .chip .sw, .sent] [.chip .ep, .sent]
  | .spdmGetDigests p _ | .spdmGetCertificate p _ _ _ _ | .spdmChallenge p _ _ _ | .spdmGetMeasurements p _ _ _ _ | .spdmRefusedRequest p _ =>
    byPart p [.page .sw pgSbp, .sent] [.sent]
  | .spdmKeyExchange p _ _ => byPart p [.page .sw pgSbp, .chip .sw, .sent, .free] [.chip .ep, .sent, .free]
  | .spdmFinish p _ _ => byPart p [.page .sw pgSbp, .page .sw pgSec, .chip .sw, .sent] [.page .ep pgSec, .chip .ep, .sent]
  | .spdmVendorDefined p _ _ => byPart p [.hdr .sw, .page .sw pgSbp, .page .sw pgErr, .page .sw pgCxu, .sent] [.sent]
  | .watchdogExpiry _ | .wdtPet _ _ =>
    [.hdr .sw, .page .sw pgMgt, .page .sw pgSbp, .page .sw pgSec, .page .sw pgAtt, .page .sw pgErr, .page .sw pgHrd, .page .sw pgQad, .page .sw pgFpt,
     .page .sw pgLnk, .log .sw, .ports .sw, .chip .sw, .herds, .hrd, .images, .fw, .sent]
  | .secWatchdogExpiry p =>
    byPart p [.hdr .sw, .page .sw pgMgt, .page .sw pgSbp, .page .sw pgErr, .log .sw, .sent] [.hdr .ep, .page .ep pgErr, .log .ep, .sec, .sent]
  | .coreRestartDone _ => [.page .sw pgMgt, .page .sw pgSbp, .page .sw pgQad, .page .sw pgFpt, .page .sw pgLnk, .ports .sw, .fw]
  | .hello | .goodbye | .ctxReclaim | .ctxReset | .fwStage | .fwActivate | .fwCancel | .fwConfirm =>
    [.hdr .sw, .page .sw pgMgt, .page .sw pgSbp, .page .sw pgAtt, .page .sw pgCtx, .page .sw pgErr, .page .sw pgBuf, .page .sw pgCmb, .page .sw pgRte,
     .page .sw pgHrd, .page .sw pgSyn, .page .sw pgPol, .page .sw pgDir, .page .sw pgBlk, .page .sw pgHbm, .page .sw pgCxu, .page .sw pgRdc, .log .sw,
     .ports .sw, .sync .sw, .core, .mem, .pool, .progs, .svc, .herds, .hrd, .host, .images, .fw, .sent, .free]
  | .fwConfirmWrite => [.hdr .sw, .page .sw pgMgt, .page .sw pgSbp, .page .sw pgErr, .images, .fw, .sent]
  | .pldmFwUpdate _ | .pldmActivateFirmware | .pldmCancelUpdate | .activationP0WaitExpiry | .safePointTimeout =>
    [.hdr .sw, .page .sw pgMgt, .page .sw pgSbp, .fw, .sent]
  | .stagingDone _ | .trialConfirmTimer => [.hdr .sw, .page .sw pgMgt, .page .sw pgSbp, .images, .fw, .sent]
  | .safePointReached | .imageRestartDone | .imageRestartTimeout =>
    [.hdr .sw, .page .sw pgMgt, .page .sw pgSbp, .page .sw pgSec, .page .sw pgAtt, .page .sw pgHrd, .page .sw pgQad, .page .sw pgFpt, .page .sw pgLnk,
     .ports .sw, .chip .sw, .herds, .hrd, .fw, .sent]
  | .hbBeat _ _ | .hbWindowClose =>
    [.hdr .sw, .page .sw pgMgt, .page .sw pgSbp, .page .sw pgCtx, .page .sw pgErr, .page .sw pgBuf, .page .sw pgCmb, .page .sw pgRte, .page .sw pgHrd,
     .page .sw pgSyn, .page .sw pgPol, .page .sw pgDir, .page .sw pgBlk, .page .sw pgHbm, .page .sw pgCxu, .page .sw pgRdc, .log .sw, .ports .sw,
     .sync .sw, .core, .mem, .pool, .svc, .herds, .hrd, .host, .fw, .sent, .free]
  | .contextQuiesce => [.page .sw pgCtx]
  | .i3cAddressAssign _ => [.page .sw pgSbp]
  | .mctpControl _ | .pldmMonitoring => [.page .sw pgSbp, .sent]
  | .pageEnableWrite _ p _ _ | .pageSoftReset _ p _ | .pageFence _ p _ =>
    byPart p [.regs .sw, .log .sw, .ports .sw, .sync .sw, .chip .sw, .core, .mem, .pool, .svc, .herds, .hrd, .host, .dct, .sent, .free] [.regs .ep,
     .log .ep, .ports .ep, .sync .ep, .chip .ep, .rly, .cmds, .reqs, .ag, .sent]
  | .softResetDone p _ => [.chip p]
  | .intForceWrite _ p _ _ => byPart p [.hdr .sw, .page .sw pgSbp, .page .sw pgErr, .sent] [.hdr .ep, .page .ep pgErr, .sent]
  | .errCountWrite _ p _ _ => [.hdr p, .page p pgErr, .sent]
  | .errLogClear _ p => [.hdr p, .page p pgErr, .log p, .sent]
  | .errLog3Read _ p => [.log p, .sent]
  | .hostLinkUp _ _ _ => [.page .sw pgCxu]
  | .standbyPowerOff p => [.regs p, .log p, .chip p]
  | .patternCheckerLock p _ _ => [.page p pgQad]
  | .ucieDegrade _ _ => [.page .ep pgUci]
  | .backlogAverageUpdate => [.page .sw pgBuf, .page .sw pgCgt, .page .sw pgRte, .ports .sw, .core, .free]
  | .congestionNoticeInterval p _ _ => byPart p [.page .sw pgBuf, .page .sw pgRte, .core] [.page .ep pgRly, .page .ep pgLnk, .ports .ep, .rly, .sent]

/-- The queue with a command put at its end, as a sender does. DESIGN CHOICE, log 2. -/
def State.send (s : State) (c : Instr) : State := { s with pending := s.pending ++ [c] }

end Sys2Proof.Machine
end

