-- ==== Sys2Proof/Certificates/Slice0/Obligations.lean ====
section
/-! DEFINITION. The statements about the block that are to be proved. A statement about rows says, for each row that it names, that `exec` answers a next state on every operand and state that meets the conditions in front, and what that state holds: `Does` for a row that ends there, `Drives` and `Settles` for a row after which every access that can move does. -/

open Sys2Proof Sys2Proof.Machine

/-- O1. Rails, release of reset and the resets run. Each command of rails, reset release, start-up and reset, with its conditions on the state alone, ends in a next state that holds what the rule gives: RST_N and reset of the part, the step of start-up, the straps, the local tick counter and the error log of a cold reset, the rung and cause of a warm reset. Each of these commands is shown to end in a next state: resetRelease, standbyPowerOn, standbyPowerOff, mainRailsLost, mainRailsOn, startupStepDone, endpointStartupStepDone, rstNPulse, rstCold, rstWarm, rstFabric, epRstWarm, epRstFabric. Rests on R487, R488, R490, R492, R493, R518, R519, R521, R469, R479, R33, R517. -/
def Obligations.ResetRowsComplete : Prop :=
  (∀ (p : Part) (samples : List Nat) (s : State), (s.chip p).mainUp = true → (s.chip p).inReset = true → (s.chip p).tripLow = false → (s.chip p).tap.drives = false →
    Does (.resetRelease p samples) s fun t => (t.chip p).inReset = false ∧ (t.chip p).rstLow = false ∧ t.flag p GLB_STS_MAIN_UP = true) ∧
  (∀ (samples : List Nat) (s : State), s.swc.mainUp = true → s.swc.inReset = true → s.swc.tripLow = false → s.swc.tap.drives = false → allAgree samples = true →
    Does (.resetRelease .sw samples) s fun t => t.get .sw RST_STRAPS_ROLE = samples.headD 0 % 4) ∧
  (∀ (p : Part) (samples : List Nat) (s : State), (s.chip p).standbyUp = false →
    Does (.standbyPowerOn p samples) s fun t => (t.chip p).standbyUp = true) ∧
  (∀ (samples : List Nat) (s : State), s.swc.standbyUp = false →
    Does (.standbyPowerOn .sw samples) s fun t => t.get .sw RST_STRAPS_SB_ADDR = (if allAgree samples then samples.headD 0 % 8 else 0) ∧ t.get .sw SBP_STS_STATIC_ADDR = 0x58 + (if allAgree samples then samples.headD 0 % 8 else 0)) ∧
  (∀ (p : Part) (s : State), (s.chip p).mainUp = false → (s.chip p).standbyUp = true →
    Does (.standbyPowerOff p) s fun t => (t.chip p).standbyUp = false ∧ (t.chip p).log = [] ∧ t.rd p GLB_ID = s.rd p GLB_ID) ∧
  (∀ (p : Part) (s : State), (s.chip p).mainUp = true →
    Does (.mainRailsLost p) s fun t => (t.chip p).mainUp = false ∧ (t.chip p).inReset = true ∧ (t.chip p).ports = []) ∧
  (∀ (p : Part) (s : State), (s.chip p).mainUp = false → (s.chip p).standbyUp = true →
    Does (.mainRailsOn p) s fun t => (t.chip p).mainUp = true ∧ (t.chip p).rstLow = true ∧ (t.chip p).inReset = true ∧ (t.chip p).tripLow = false ∧ (t.chip p).ltc = 0) ∧
  (∀ (bad : List Nat) (imageOk : Bool) (s : State), s.swc.inReset = false → s.swc.step = 3 →
    Does (.startupStepDone bad imageOk) s fun t => t.swc.step = 4) ∧
  (∀ (bad : List Nat) (imageOk : Bool) (s : State), s.swc.inReset = false → s.swc.step = 4 →
    Does (.startupStepDone bad imageOk) s fun t => t.swc.step = 5 ∧ t.get .sw RST_STS_STEP = 5) ∧
  (∀ (bad : List Nat) (imageOk : Bool) (s : State), s.swc.inReset = false → s.swc.step = 8 →
    Does (.startupStepDone bad imageOk) s fun t => t.swc.step = 9 ∧ t.get .sw RST_STS_STEP = 9) ∧
  (∀ (modules : Nat) (s : State), s.epc.inReset = false → s.epc.step = 1 →
    Does (.endpointStartupStepDone modules) s fun t => t.epc.step = 2) ∧
  (∀ (p : Part) (ns : Nat) (s : State), 1000 ≤ ns → (s.chip p).mainUp = true →
    Does (.rstNPulse p ns) s fun t => (t.chip p).rstLow = true ∧ (t.chip p).inReset = true ∧ (t.chip p).ltc = 0 ∧ (t.chip p).log = [] ∧ (t.chip p).step = firstStep p) ∧
  (∀ (s : State), s.writeOpen .sideband .sw pgRst 0x40 = true →
    Does (.rstCold .sideband) s fun t => t.swc.inReset = true ∧ t.swc.ltc = 0 ∧ t.swc.log = [] ∧ t.swc.step = 3) ∧
  (∀ (path : Path) (s : State), s.writeOpen path .sw pgRst 0x40 = true → s.swc.inReset = false →
    Does (.rstWarm path) s fun t => t.swc.inReset = false ∧ t.swc.step = 4 ∧ t.swc.ports = [] ∧ t.swc.ltc = s.swc.ltc ∧ t.get .sw RST_CAUSE_LAST = 4) ∧
  (∀ (path : Path) (s : State), s.writeOpen path .sw pgRst 0x40 = true → s.swc.inReset = false →
    Does (.rstFabric path) s fun t => t.get .sw RST_STS_LAST_LEVEL = 2 ∧ t.flag .sw RST_STS_FABRIC_READY = false) ∧
  (∀ (path : Path) (s : State), s.writeOpen path .ep pgPwr 0x80 = true → s.epc.inReset = false →
    Does (.epRstWarm path) s fun t => t.epc.step = 2 ∧ t.epc.ports = [] ∧ t.flag .ep GLB_STS_MAIN_UP = true) ∧
  (∀ (path : Path) (s : State), s.writeOpen path .ep pgPwr 0x80 = true → s.epc.inReset = false →
    Does (.epRstFabric path) s fun t => t.get .ep EPC_ID_NODE_ID = 0)

/-- O2. The clock monitor, the fatal alarms, the test port, the group, the layout and the restarts of a port run. Loss and return of the reference, the end of holdover, loss of PLL lock and the fatal alarms have the effect of R477 and R464; the test port takes the instruction that R530 and R531 allow; writes of GLB.SWITCH_GROUP and GLB.LAYOUT are stored. A port whose exchange of capabilities runs out of time, whose retry timer expires or whose partner answers again, and a write of FPT.CTL, stop and start its tack-up (R328, R329, R342). Each of these commands is shown to end in a next state: refLoss, refReturn, holdoverExpiry, pllLockLoss, tableEccFatal, securityCoreFatalAlarm, tapReset, tapInstructionLoad, switchGroupWrite, layoutWrite, capxTmo, tackRetryTimer, partnerRedetect, fptRestart, fptDisable, fptRetrain. Rests on R477, R464, R530, R531, R20, R24, R512, R328, R329, R342. -/
def Obligations.ClockRowsComplete : Prop :=
  (∀ (p : Part) (s : State), (s.chip p).inReset = false → (s.chip p).holdover = none →
    Does (.refLoss p) s fun t => (t.chip p).holdover = some (s.now p) ∧ t.free = s.free + 1) ∧
  (∀ (p : Part) (ppm : Nat) (u : Nat) (s : State), (s.chip p).holdover = some u → s.due p u 17500 = false →
    Does (.refReturn p ppm) s fun t => (t.chip p).holdover = none ∧ t.get p CLK_MON_REF_PPM = ppm % 2 ^ 16 ∧ t.flag p CLK_STS_HOLDOVER = false ∧ t.flag p CLK_STS_REF_PRESENT = true) ∧
  (∀ (p : Part) (u : Nat) (s : State), (s.chip p).inReset = false → (s.chip p).holdover = some u → s.due p u 17500 = true →
    Does (.holdoverExpiry p) s fun t => (t.chip p).holdover = none ∧ (t.chip p).step = (if p = .sw then 4 else 2)) ∧
  (∀ (p : Part) (s : State), (s.chip p).inReset = false →
    Does (.pllLockLoss p) s fun t => (t.chip p).holdover = none ∧ (t.chip p).step = (if p = .sw then 4 else 2)) ∧
  (∀ (page : Nat) (s : State), s.swc.inReset = false → page ∈ [pgDir, pgPtn, pgCtx, pgRte, pgHrd] →
    Does (.tableEccFatal page) s fun t => t.swc.step = 4 ∧ t.get .sw RST_CAUSE_LAST = 1) ∧
  (∀ (s : State), s.swc.inReset = false →
    Does (.securityCoreFatalAlarm) s fun t => t.swc.step = 4 ∧ t.get .sw RST_CAUSE_LAST = 3) ∧
  (∀ (p : Part) (samples : List Nat) (s : State), (s.chip p).startHeld = false →
    Does (.tapReset p samples) s fun t => (t.chip p).tap = .idcode) ∧
  (∀ (p : Part) (samples : List Nat) (s : State), (s.chip p).startHeld = false →
    Does (.tapInstructionLoad p 0 samples) s fun t => (t.chip p).tap = .bypass) ∧
  (∀ (p : Part) (samples : List Nat) (s : State), (s.chip p).startHeld = false → s.get p SEC_STS_LIFECYCLE ≠ 0 →
    Does (.tapInstructionLoad p 3 samples) s fun t => (t.chip p).tap = (if (s.chip p).rstLow then .extest else .bypass)) ∧
  (∀ (x : Word) (s : State), s.writeOpen .sideband .sw pgGlb 0x58 = true → s.swc.step < 10 → x.getLsbD 11 = false →
    Does (.switchGroupWrite .sideband x) s fun t => t.get .sw GLB_SWITCH_GROUP_GROUP = getBits x 0 12 ∧ t.flag .sw GLB_SWITCH_GROUP_WRITTEN = true) ∧
  (∀ (x : Word) (s : State), s.writeOpen .sideband .sw pgGlb 0x60 = true →
    Does (.layoutWrite .sideband x) s fun t => t.get .sw GLB_LAYOUT_X4 = getBits x 0 1) ∧
  (∀ (p : Part) (n : Nat) (s : State), s.stage p n = 4 → s.due p (s.port p n).timer 35000 = true →
    Does (.capxTmo p n) s fun t => (t.port p n).attempts = (s.port p n).attempts + 1 ∧ t.get p FPT_STS_FAULT 0 n = 4) ∧
  (∀ (p : Part) (n : Nat) (s : State), s.stage p n = 0 → (s.port p n).attempts ≠ 0 → s.due p (s.port p n).timer 175000000 = true → s.mayTack p n = true → s.get p FPT_CTL_LPBK 0 n = 0 →
    Does (.tackRetryTimer p n) s fun t => t.stage p n = 1) ∧
  (∀ (p : Part) (n : Nat) (absent : Nat) (s : State), s.stage p n = 6 → 1750 ≤ absent → s.mayTack p n = true → s.get p FPT_CTL_LPBK 0 n = 0 →
    Does (.partnerRedetect p n absent) s fun t => t.stage p n = 1) ∧
  (∀ (path : Path) (p : Part) (n : Nat) (s : State), s.writeOpen path p (pgFpt + n) 0x48 = true → s.stage p n = 0 → s.mayTack p n = true → s.get p FPT_CTL_LPBK 0 n = 0 →
    Does (.fptRestart path p n) s fun t => t.stage p n = 1 ∧ (t.port p n).attempts = 0) ∧
  (∀ (path : Path) (p : Part) (n : Nat) (s : State), s.writeOpen path p (pgFpt + n) 0x48 = true → s.stage p n = 0 →
    Does (.fptDisable path p n 1) s fun t => t.stage p n = 0 ∧ t.flag p FPT_CTL_DISABLE 0 n = true) ∧
  (∀ (path : Path) (n : Nat) (s : State), s.writeOpen path .sw (pgFpt + n) 0x48 = true → 0 < s.stage .sw n →
    Does (.fptDisable path .sw n 1) s fun t => t.stage .sw n = 0 ∧ t.get .sw FPT_STS_LANES 0 n = 0) ∧
  (∀ (path : Path) (p : Part) (n : Nat) (s : State), s.writeOpen path p (pgFpt + n) 0x48 = true → s.stage p n = 5 → s.flag p FPT_STS_RETRAINING 0 n = false → (s.port p n).shed = none →
    Does (.fptRetrain path p n) s fun t => (t.port p n).retrain = some (s.now p) ∧ t.flag p FPT_STS_RETRAINING 0 n = true ∧ Out.ordSet p n .retrain ∈ t.out)

/-- O3. Throttle demands, levels and samples run, and telemetry windows open and close. The pins, PWR.CTL and PWR_CAP raise and withdraw their demands (R481, R520), a demand above the level in force takes effect at once (R484), the level falls one step when the hold has run (R484), the samples are shown (R483, R485, R140). The telemetry of the switch is turned on and off, and a window closes into its results (R288). Each of these commands is shown to end in a next state: pwrAlertAssert, pwrAlertDeassert, thermAlertAssert, thermAlertDeassert, thermP3DelayExpiry, pwrCapChange, forceLevelWrite, throttleHoldExpiry, powerControlSample, dieSensorSample, hbmStackThrottle, cgtEnableWrite, telemetryWindowClose. Rests on R481, R482, R484, R483, R485, R140, R520, R288. -/
def Obligations.PowerRowsComplete : Prop :=
  (∀ (s : State), s.powered = true →
    Does (.pwrAlertAssert) s fun t => t.flag .sw PWR_STS_PWR_ALERT = true ∧ t.get .sw PWR_STS_DEMAND = 3 ∧ t.get .sw PWR_STS_LEVEL = 3) ∧
  (∀ (s : State), s.powered = true →
    Does (.pwrAlertDeassert) s fun t => t.flag .sw PWR_STS_PWR_ALERT = false) ∧
  (∀ (s : State), s.powered = true → s.flag .sw PWR_STS_THERM_ALERT = false →
    Does (.thermAlertAssert) s fun t => t.flag .sw PWR_STS_THERM_ALERT = true ∧ t.sw.core.thermFrom = some (s.now .sw) ∧ 2 ≤ t.get .sw PWR_STS_LEVEL) ∧
  (∀ (s : State), s.powered = true →
    Does (.thermAlertDeassert) s fun t => t.flag .sw PWR_STS_THERM_ALERT = false ∧ t.sw.core.thermFrom = none) ∧
  (∀ (u : Nat) (s : State), s.powered = true → s.sw.core.thermFrom = some u → s.flag .sw PWR_STS_THERM_ALERT = true → s.due .sw u (s.get .sw PWR_THERM_CFG_P3_DELAY) = true →
    Does (.thermP3DelayExpiry) s fun t => t.get .sw PWR_STS_LEVEL = 3 ∧ t.get .sw PWR_STS_DEMAND = 3) ∧
  (∀ (cap : Nat) (s : State), s.powered = true → cap < 4 →
    Does (.pwrCapChange cap) s fun t => t.get .sw PWR_STS_CAP = cap ∧ cap ≤ t.get .sw PWR_STS_LEVEL) ∧
  (∀ (path : Path) (x : Word) (s : State), s.writeOpen path .sw pgPwr 0x50 = true → s.powered = true →
    Does (.forceLevelWrite path x) s fun t => t.get .sw PWR_CTL_FORCE_LEVEL = getBits x 0 2 ∧ getBits x 0 2 ≤ t.get .sw PWR_STS_LEVEL) ∧
  (∀ (u : Nat) (s : State), s.powered = true → s.sw.core.holdFrom = some u → 0 < s.get .sw PWR_STS_LEVEL → s.due .sw u (s.get .sw PWR_HOLD_TICKS) = true →
    Does (.throttleHoldExpiry) s fun t => t.get .sw PWR_STS_LEVEL = s.get .sw PWR_STS_LEVEL - 1) ∧
  (∀ (watts : Nat) (s : State), watts < 65536 →
    Does (.powerControlSample .ep watts) s fun t => t.get .ep PWR_DRAW_NOW = watts) ∧
  (∀ (watts : Nat) (s : State), watts < 65536 → s.powered = true →
    Does (.powerControlSample .sw watts) s fun t => t.get .sw PWR_DRAW_NOW = watts) ∧
  (∀ (temps : List Nat) (s : State), s.epc.inReset = false → (hottest (temps.take 4)).1 < 120 →
    Does (.dieSensorSample .ep temps) s fun t => t.get .ep PWR_TEMP_DIE_MAX = (hottest (temps.take 4)).1) ∧
  (∀ (p : Part) (temps : List Nat) (s : State), (s.chip p).inReset = false → 120 ≤ (hottest (temps.take 4)).1 →
    Does (.dieSensorSample p temps) s fun t => (t.chip p).tripLow = true ∧ (t.chip p).inReset = true) ∧
  (∀ (n : Nat) (celsius : Nat) (s : State), n < 6 → celsius < 256 →
    Does (.hbmStackThrottle n celsius) s fun t => t.get .sw HBM_STS_TEMP 0 n = celsius ∧ t.flag .sw HBM_STS_THROTTLED 0 n = (if 95 ≤ celsius then true else if celsius < 90 then false else s.flag .sw HBM_STS_THROTTLED 0 n)) ∧
  (∀ (path : Path) (s : State), s.writeOpen path .sw pgCgt 0x40 = true → s.flag .sw CGT_CTL_ENABLE = true →
    Does (.cgtEnableWrite path 1) s fun t => t.flag .sw CGT_CTL_ENABLE = true ∧ t.sw.core.live = s.sw.core.live) ∧
  (∀ (path : Path) (b : Nat) (s : State), s.writeOpen path .sw pgCgt 0x40 = true → s.flag .sw CGT_CTL_ENABLE = false →
    Does (.cgtEnableWrite path 1) s fun t => t.flag .sw CGT_CTL_ENABLE = true ∧ t.get .sw CGT_WIN_NUM_NUM = 0 ∧ t.sw.core.live = [] ∧ t.sw.core.liveOpen = s.now .sw ∧ t.get .sw CGT_HIST_TICKS b = 0) ∧
  (∀ (s : State), s.flag .sw CGT_CTL_ENABLE = true → s.due .sw s.sw.core.liveOpen (s.get .sw CGT_WIN_LEN_TICKS) = true → s.flag .sw CGT_PUSH_ENABLE = false →
    Does (.telemetryWindowClose) s fun t => t.get .sw CGT_WIN_NUM_NUM = (s.get .sw CGT_WIN_NUM_NUM + 1) % 2 ^ CGT_WIN_NUM_NUM.w ∧ t.sw.core.live = [] ∧ t.sw.core.liveOpen = s.sw.core.liveOpen + s.get .sw CGT_WIN_LEN_TICKS)

/-- O4. Tack-up runs from detection to READY, and its stage timers end it. Detection, equalisation, flit lock, the exchange of CAP, PING, PONG and READY move a port through its stages; each stage timer ends the attempt with its fault code. Each of these commands is shown to end in a next state: tackupDetectProbe, tackupPreambleTmo, laneEqPass, eqTimerExpiry, flitLock, lockTmo, capReceive, refuseReceive, pingReceive, pongReceive, readyReceive. Rests on R328, R329, R330, R331, R333, R334. -/
def Obligations.TackupRowsComplete : Prop :=
  (∀ (p : Part) (n : Nat) (mask : Nat) (s : State), (p = .sw → s.cpuUp 0 = true) → s.stage p n = 1 → s.due p (s.port p n).timer 1750 = true → s.minLanes p n ≤ popCount 16 (mask &&& s.allLanes p n) →
    Does (.tackupDetectProbe p n mask none) s fun t => t.stage p n = 2 ∧ (t.port p n).detected = mask &&& s.allLanes p n ∧ (t.port p n).preamble = true) ∧
  (∀ (p : Part) (n : Nat) (s : State), s.stage p n = 2 → (s.port p n).preamble = true → s.due p (s.port p n).timer 17500 = true →
    Does (.tackupPreambleTmo p n) s fun t => (t.port p n).attempts = (s.port p n).attempts + 1 ∧ t.get p FPT_STS_FAULT 0 n = 1) ∧
  (∀ (p : Part) (n : Nat) (lane : Nat) (snr : Nat) (inverted : Bool) (there : Nat) (farMin : Nat) (s : State), s.stage p n = 2 → (s.port p n).preamble = false → s.due p (s.port p n).timer (s.get p FPT_TMO_EQ 0 n) = false → (s.port p n).detected.testBit lane = true → 136 ≤ snr → ((s.port p n).passHere ||| 2 ^ lane) &&& ((s.port p n).passThere ||| there) &&& (s.port p n).detected ≠ (s.port p n).detected →
    Does (.laneEqPass p n lane snr inverted there farMin) s fun t => (t.port p n).passHere = (s.port p n).passHere ||| 2 ^ lane ∧ (t.port p n).passThere = (s.port p n).passThere ||| there ∧ (t.port p n).farMin = farMin) ∧
  (∀ (p : Part) (n : Nat) (s : State), s.stage p n = 2 → (s.port p n).preamble = false → s.due p (s.port p n).timer (s.get p FPT_TMO_EQ 0 n) = true → max (s.minLanes p n) (s.port p n).farMin ≤ popCount 16 ((s.port p n).passHere &&& (s.port p n).passThere) →
    Does (.eqTimerExpiry p n) s fun t => t.stage p n = 3 ∧ t.get p FPT_STS_LANES 0 n = ((s.port p n).passHere &&& (s.port p n).passThere) % 2 ^ 16) ∧
  (∀ (p : Part) (n : Nat) (s : State), s.stage p n = 3 → s.due p (s.port p n).timer 17500 = false →
    Does (.flitLock p n) s fun t => t.stage p n = 4 ∧ (t.port p n).capSent = some (s.ownCap p n) ∧ (t.port p n).capGot = none ∧ Out.cap p n (s.ownCap p n) ∈ t.out) ∧
  (∀ (p : Part) (n : Nat) (s : State), s.stage p n = 3 → s.due p (s.port p n).timer 17500 = true →
    Does (.lockTmo p n) s fun t => (t.port p n).attempts = (s.port p n).attempts + 1 ∧ t.get p FPT_STS_FAULT 0 n = 3) ∧
  (∀ (n : Nat) (m : CapMsg) (own : CapMsg) (s : State), s.due .sw (s.port .sw n).timer 35000 = false → s.stage .sw n = 4 → (s.port .sw n).capGot = none → (s.port .sw n).capSent = some own → own.farReq = false → m.farReq = false → capFault own m false none = none → (s.port .sw n).pongs ≠ 16 → (s.port .sw n).readySent = false →
    Does (.capReceive .sw n m) s fun t => (t.port .sw n).capGot = some m ∧ (t.port .sw n).encrypted = (own.encAllow && m.encAllow) ∧ (t.port .sw n).credit = creditsFrom own m) ∧
  (∀ (n : Nat) (m : CapMsg) (own : CapMsg) (code : Nat) (s : State), s.due .sw (s.port .sw n).timer 35000 = false → s.stage .sw n = 4 → (s.port .sw n).capGot = none → (s.port .sw n).capSent = some own → own.farReq = false → m.farReq = false → capFault own m false none = some code →
    Does (.capReceive .sw n m) s fun t => t.stage .sw n = 6 ∧ t.get .sw FPT_STS_FAULT 0 n = code) ∧
  (∀ (p : Part) (n : Nat) (code : Nat) (s : State), s.stage p n = 4 → code < 16 →
    Does (.refuseReceive p n code) s fun t => t.stage p n = 6 ∧ t.get p FPT_STS_FAULT 0 n = code) ∧
  (∀ (p : Part) (n : Nat) (stamp : Nat) (s : State), s.stage p n = 4 →
    Does (.pingReceive p n stamp) s fun t => Out.ctrl p n 3 stamp ∈ t.out) ∧
  (∀ (p : Part) (n : Nat) (stamp : Nat) (s : State), s.stage p n = 4 → s.due p (s.port p n).timer 35000 = false → (s.port p n).pongs < 15 →
    Does (.pongReceive p n stamp) s fun t => (t.port p n).pongs = (s.port p n).pongs + 1 ∧ (t.port p n).rttSum = (s.port p n).rttSum + (s.now p - stamp)) ∧
  (∀ (p : Part) (n : Nat) (s : State), s.stage p n = 4 → s.due p (s.port p n).timer 35000 = false → (s.port p n).readySent = true → (s.port p n).encrypted = false →
    Does (.readyReceive p n) s fun t => t.stage p n = 5 ∧ t.get p LNK_STS_STATE 0 n = 2 ∧ (t.port p n).readyGot = true)

/-- O5. Retrains, sheds, slips and losses of signal run. A retrain begins, completes on the lanes that relocked, or takes the link down; a shed runs through its ordered sets; a lane, a FIFO slip and a loss of signal have the effects of R327, R335 to R337, R456 and R457; a pattern checker locks in LOOPBACK (R340). Each of these commands is shown to end in a next state: retrainSetReceive, retrainComplete, retrainTimeout, retrainBitlockTmo, signalLoss, shedWindowExpiry, laneLockLoss, shedReceive, shedAckReceive, shedGoReceive, fifoSlip, patternCheckerLock. Rests on R327, R335, R336, R337, R340, R456, R457. -/
def Obligations.LinkUpkeepRowsComplete : Prop :=
  (∀ (p : Part) (n : Nat) (s : State), s.stage p n = 5 → s.flag p FPT_STS_RETRAINING 0 n = false → (s.port p n).shed = none →
    Does (.retrainSetReceive p n) s fun t => (t.port p n).retrain = some (s.now p) ∧ t.flag p FPT_STS_RETRAINING 0 n = true ∧ t.out = s.out) ∧
  (∀ (p : Part) (n : Nat) (relocked : Nat) (u : Nat) (s : State), (s.port p n).retrain = some u → s.due p u 2625 = false → s.minLanes p n ≤ popCount 16 (s.get p FPT_STS_LANES 0 n &&& relocked) →
    Does (.retrainComplete p n relocked) s fun t => (t.port p n).retrain = none ∧ t.get p FPT_STS_LANES 0 n = s.get p FPT_STS_LANES 0 n &&& relocked) ∧
  (∀ (n : Nat) (u : Nat) (s : State), (s.port .sw n).retrain = some u → s.due .sw u 2625 = true →
    Does (.retrainTimeout .sw n) s fun t => t.stage .sw n = 1 ∧ t.get .sw FPT_STS_LANES 0 n = 0 ∧ (t.port .sw n).replay = [] ∧ t.get .sw LNK_STS_STATE 0 n = 0) ∧
  (∀ (n : Nat) (u : Nat) (s : State), (s.port .sw n).retrain = some u → s.due .sw u 1050 = true →
    Does (.retrainBitlockTmo .sw n) s fun t => t.stage .sw n = 1 ∧ t.get .sw FPT_STS_LANES 0 n = 0 ∧ (t.port .sw n).replay = [] ∧ t.get .sw LNK_STS_STATE 0 n = 0) ∧
  (∀ (n : Nat) (s : State), s.stage .sw n = 5 →
    Does (.signalLoss .sw n) s fun t => t.stage .sw n = 1 ∧ t.get .sw FPT_STS_LANES 0 n = 0 ∧ (t.port .sw n).replay = [] ∧ t.get .sw LNK_STS_STATE 0 n = 0) ∧
  (∀ (p : Part) (n : Nat) (s : State), s.stage p n = 5 → s.due p (s.port p n).winOpen (s.get p FPT_SHED_CFG_WINDOW 0 n) = true → (s.port p n).winCount = [] →
    Does (.shedWindowExpiry p n) s fun t => (t.port p n).winOpen = (s.port p n).winOpen + (s.now p - (s.port p n).winOpen) / max 1 (s.get p FPT_SHED_CFG_WINDOW 0 n) * s.get p FPT_SHED_CFG_WINDOW 0 n ∧ (t.port p n).winCount = [] ∧ (t.port p n).shed = (s.port p n).shed) ∧
  (∀ (p : Part) (n : Nat) (lane : Nat) (a b : CapMsg) (s : State), s.stage p n = 5 → (s.get p FPT_STS_LANES 0 n).testBit lane = true → (s.port p n).retrain = none → (s.port p n).shed = none → (s.port p n).capSent = some a → (s.port p n).capGot = some b → a.fShed = true → b.fShed = true → (s.port p n).cfg.getLsbD 17 = true → s.minLanes p n ≤ popCount 16 (s.get p FPT_STS_LANES 0 n &&& (65535 ^^^ 2 ^ lane)) →
    Does (.laneLockLoss p n lane) s fun t => (t.port p n).shed = some { mask := 2 ^ lane, sent := true } ∧ t.flag p FPT_STS_SHEDDING 0 n = true) ∧
  (∀ (p : Part) (n : Nat) (mask : Nat) (last : Nat) (s : State), s.stage p n = 5 → (s.port p n).retrain = none → (s.port p n).shed = none →
    Does (.shedReceive p n mask last) s fun t => Out.ordSet p n (.shedAck mask (((s.port p n).base + 16383) % 16384)) ∈ t.out ∧ Out.ordSet p n .shedGo ∈ t.out) ∧
  (∀ (p : Part) (n : Nat) (mask : Nat) (last : Nat) (sh : Shed) (s : State), (s.port p n).shed = some sh → sh.sent = true → sh.acked = false → sh.gone = false →
    Does (.shedAckReceive p n mask last) s fun t => Out.ordSet p n .shedGo ∈ t.out) ∧
  (∀ (p : Part) (n : Nat) (sh : Shed) (s : State), (s.port p n).shed = some sh → sh.gone = false →
    Does (.shedGoReceive p n) s fun t => (t.port p n).shed = some { sh with partnerGone := true }) ∧
  (∀ (p : Part) (n : Nat) (s : State), s.stage p n = 5 → (s.port p n).slips.length < 7 → s.flag p FPT_STS_RETRAINING 0 n = false → (s.port p n).retrain = none → (s.port p n).escalate = false → (s.port p n).shed = none →
    Does (.fifoSlip p n) s fun t => s.now p ∈ (t.port p n).slips ∧ (t.port p n).retrain = some (s.now p)) ∧
  (∀ (p : Part) (n : Nat) (lane : Nat) (s : State), s.stage p n = 7 → lane < s.width p n → s.laneGet p (s.laneBase p n + lane) QAD_LANE_PAT_CTL_CHK ≠ 0 →
    Does (.patternCheckerLock p n lane) s fun t => t.laneGet p (s.laneBase p n + lane) QAD_LANE_PAT_CTL_CHK_LOCK = 1)

/-- O6. Flits, replays, encryption groups and key messages run. A flit in sequence is accepted and one that cannot be decoded is counted (R308, R306); a NAK and the replay timer replay (R309, R310); groups close and are released or discarded (R317, R318); the messages of a key exchange have the effects of R315. Each of these commands is shown to end in a next state: flitReceive, nakReceive, replayTimerExpiry, groupClose, sealReceive, kexInitReceive, kexRespReceive. Rests on R306, R308, R309, R310, R315, R317, R318. -/
def Obligations.LinkLayerRowsComplete : Prop :=
  (∀ (p : Part) (n : Nat) (w : List Byte) (s : State), 3 ≤ s.stage p n → s.stage p n ≤ 5 → (s.port p n).shed = none → fecDecode w = none →
    Does (.flitReceive p n w) s fun t => t.get p LNK_FLIT_ERR_FEC_FAIL 0 n = min (s.get p LNK_FLIT_ERR_FEC_FAIL 0 n + 1) (2 ^ LNK_FLIT_ERR_FEC_FAIL.w - 1) ∧ (t.port p n).expect = (s.port p n).expect) ∧
  (∀ (p : Part) (n : Nat) (w : List Byte) (f : List Byte) (places : List Nat) (s : State), 3 ≤ s.stage p n → s.stage p n ≤ 5 → (s.port p n).shed = none → fecDecode w = some (f, places) → crc64 (f.take 248) = BitVec.ofNat 64 (natAt f 248 8) → bitsOf (natAt f 0 8) 0 4 = 0 → bitsOf (natAt f 0 8) 4 14 = (s.port p n).expect → (s.port p n).expect < 16384 → (s.port p n).encrypted = false →
    Does (.flitReceive p n w) s fun t => (t.port p n).expect = ((s.port p n).expect + 1) % 16384) ∧
  (∀ (p : Part) (n : Nat) (ack : Nat) (s : State), 3 ≤ s.stage p n → s.stage p n ≤ 5 → (s.port p n).replay.filter (fun f => seqDiff f.seq ((ack + 1) % 16384) < 8192) ≠ [] →
    Does (.nakReceive p n ack) s fun t => t.get p LNK_RETRY_REPLAYS 0 n = min (s.get p LNK_RETRY_REPLAYS 0 n + 1) (2 ^ LNK_RETRY_REPLAYS.w - 1)) ∧
  (∀ (p : Part) (n : Nat) (f : TxFlit) (fs : List TxFlit) (s : State), (s.port p n).replay = f :: fs → s.mute p n = false → s.due p (s.port p n).ackAt (s.get p LNK_REPLAY_TMO_TICKS 0 n) = true →
    Does (.replayTimerExpiry p n) s fun t => t.get p LNK_RETRY_REPLAYS 0 n = min (s.get p LNK_RETRY_REPLAYS 0 n + 1) (2 ^ LNK_RETRY_REPLAYS.w - 1) ∧ (t.port p n).replayFirst = f.seq) ∧
  (∀ (p : Part) (n : Nat) (s : State), (s.port p n).sealing = true → (s.port p n).keys.groupCount = 64 →
    Does (.groupClose p n) s fun t => (t.port p n).keys.groupCount = 0 ∧ (t.port p n).keys.txCtr = (s.port p n).keys.txCtr + 1 ∧ (t.port p n).seq = ((s.port p n).seq + 1) % 16384) ∧
  (∀ (n : Nat) (header : Nat) (tag : List Byte) (group : SealGroup) (s : State), s.receives .sw n = true → (s.port .sw n).encrypted = true → (s.port .sw n).keys.rx ≠ [] → seqDiff (bitsOf header 4 14) (s.port .sw n).expect = 0 → group.first < 2 ^ 64 → (s.port .sw n).keys.held ≠ [] → group.count % 256 ≠ (s.port .sw n).keys.held.length → (s.port .sw n).keys.failedAt ≠ some group.first →
    Does (.sealReceive .sw n header tag group) s fun t => (t.port .sw n).keys.held = [] ∧ (t.port .sw n).keys.failedAt = some group.first ∧ t.get .sw LNK_SEAL_ERR_AUTH_FAIL 0 n = min (s.get .sw LNK_SEAL_ERR_AUTH_FAIL 0 n + 1) (2 ^ LNK_SEAL_ERR_AUTH_FAIL.w - 1)) ∧
  (∀ (p : Part) (n : Nat) (header : Nat) (tag : List Byte) (group : SealGroup) (f : List Byte) (fs : List (List Byte)) (s : State), s.receives p n = true → (s.port p n).encrypted = true → (s.port p n).keys.rx ≠ [] → seqDiff (bitsOf header 4 14) (s.port p n).expect = 0 → group.first < 2 ^ 64 → (s.port p n).keys.held = f :: fs → group.count = (f :: fs).length → group.count < 256 → (f :: fs).all (fun g => bitsOf (natAt g 0 8) 0 4 != 1) = true → slice (Config.gcmTag (s.sealKey p n f).1 ((s.sealKey p n f).2 ++ leBytes 8 group.first) ((f :: fs).map (·.take 8)).flatten ((f :: fs).map fun g => slice g 8 240).flatten) 0 16 = tag →
    Does (.sealReceive p n header tag group) s fun t => (t.port p n).keys.held = [] ∧ (t.port p n).keys.failedAt = none ∧ (t.port p n).keys.rxCtr = group.first + group.count + 1) ∧
  (∀ (n : Nat) (m : KexMsg) (s : State), s.kexStage .sw n = true → s.secHalted .sw = false → s.flag .sw LNK_STS_INITIATOR 0 n = false → ((s.port .sw n).kex.running && s.due .sw (s.port .sw n).kex.start 350000) = false →
    Does (.kexInitReceive .sw n m) s fun t => t.get .sw LNK_STS_STATE 0 n = (if Config.mldsaVerify m.pub (Config.sha3 (kexFields m)) m.sig then 3 else 0) ∧ t.stage .sw n = (if Config.mldsaVerify m.pub (Config.sha3 (kexFields m)) m.sig then 5 else (if s.get .sw LNK_STS_STATE 0 n = 1 ∧ max 1 (getBits (s.port .sw n).cfg 12 4) ≤ (s.port .sw n).attempts + 1 then 0 else 1))) ∧
  (∀ (n : Nat) (m : KexMsg) (s : State), s.kexStage .sw n = true → s.secHalted .sw = false → s.flag .sw LNK_STS_INITIATOR 0 n = true → (s.port .sw n).kex.running = true → s.due .sw (s.port .sw n).kex.start 350000 = false →
    Does (.kexRespReceive .sw n m) s fun t => t.get .sw LNK_STS_STATE 0 n = (if Config.mldsaVerify m.pub (Config.sha3 ((s.port .sw n).kex.initDigestInput ++ kexFields m)) m.sig then 3 else 0))

/-- O7. Arrival, queueing, credits and departure run. A packet that arrives at a switch port is queued or discarded by the rule that names it; a queued packet reserves its credit, starts at its egress and leaves its queue; residue, uncorrectable cells and fences of the middle stage have the effects of R253, R260 and R269. Each of these commands is shown to end in a next state: switchPacketArrival, creditReserve, egressPacketStart, mcastCopySend, lossyResidueExpiry, sramUncorrectable, midFenceSet, backlogAverageUpdate, congestionNoticeInterval. Rests on R248, R249, R253, R255, R258, R259, R260, R269, R273. -/
def Obligations.SwitchCoreRowsComplete : Prop :=
  (∀ (n : Nat) (k : Packet) (s : State), s.portState n = 2 → s.forSwitch k = true → k.tc < 6 → s.sw.core.powerMark = 0 →
    Does (.switchPacketArrival n k) s fun t => t.sw.core.queue.map (fun q => (q.pkt, q.origin, q.egress)) = s.sw.core.queue.map (fun q => (q.pkt, q.origin, q.egress)) ++ [(k, some n, .inner (s.sinkFor k).1)]) ∧
  (∀ (n : Nat) (k : Packet) (s : State), s.portState n = 2 → s.forSwitch k = false → (addrSwitch k).any (fun sid => !swIdValid sid) = false → s.egressOf k.dst = some n →
    Does (.switchPacketArrival n k) s fun t => t.get .sw RTE_DISC_UTURN = min (s.get .sw RTE_DISC_UTURN + 1) (2 ^ RTE_DISC_UTURN.w - 1) ∧ t.sw.core.queue = s.sw.core.queue) ∧
  (∀ (id : Nat) (q : QEntry) (s : State), s.queued id = some q → q.reserved = false → q.waitsJoin = false → s.hasCredit q = true → s.residueRoom q = true →
    Does (.creditReserve id) s fun t => t.sw.core.queue = s.sw.core.queue.map fun x => if x.id == q.id then { x with reserved := true } else x) ∧
  (∀ (id : Nat) (q : QEntry) (m : Nat) (s : State), s.queued id = some q → q.rel = q.cells → q.egress = .inner m →
    Does (.egressPacketStart id) s fun t => t.sw.core.queue = s.sw.core.queue.filter (·.id != q.id) ∧ Out.toSink m q.pkt ∈ t.out) ∧
  (∀ (id : Nat) (q : QEntry) (m : Nat) (d : Sched) (s : State), s.queued id = some q → (s.startable m).any (fun x => x.id == q.id) = true → s.egressPick m q = some d → q.egress = .fabric m →
    Does (.egressPacketStart id) s fun t => Out.packet .sw m q.pkt ∈ t.out ∧ t.sw.core.queue.all (fun x => x.id != q.id || x.begun) = true ∧ lookup t.sw.core.outs m = some d) ∧
  (∀ (id : Nat) (q : QEntry) (m : Nat) (d : Sched) (s : State), s.queued id = some q → q.group.isSome = true → q.waitsJoin = false → q.reserved = true → (s.startable m).any (fun x => x.id == q.id) = true → s.egressPick m q = some d → q.egress = .fabric m →
    Does (.mcastCopySend id) s fun t => Out.packet .sw m q.pkt ∈ t.out ∧ t.sw.core.queue.all (fun x => x.id != q.id || x.begun) = true ∧ lookup t.sw.core.outs m = some d) ∧
  (∀ (id : Nat) (q : QEntry) (s : State), s.queued id = some q → q.group.isSome = true → q.waitsJoin = false → q.reserved = false → s.hasCredit q = true → s.residueRoom q = true →
    Does (.mcastCopySend id) s fun t => t.sw.core.queue = s.sw.core.queue.map fun x => if x.id == q.id then { x with reserved := true } else x) ∧
  (∀ (group : Nat) (s : State),
    Does (.lossyResidueExpiry group) s fun t => t.sw.core.queue.all (fun q => !(q.group == some group && 6 ≤ q.pkt.tc && q.sent == 0 && s.due .sw q.at_ 1750)) = true) ∧
  (∀ (group : Nat) (s : State), s.flag .sw CGT_CTL_ENABLE = false →
    Does (.lossyResidueExpiry group) s fun t => t.sw.core.queue = s.sw.core.queue.filter fun q => !(q.group == some group && 6 ≤ q.pkt.tc && q.sent == 0 && s.due .sw q.at_ 1750)) ∧
  (∀ (structure_ : Nat) (id : Nat) (q : QEntry) (s : State), s.queued id = some q → q.begun = false → 6 ≤ q.pkt.tc →
    Does (.sramUncorrectable structure_ id none) s fun t => t.get .sw XBR_ECC_UE = min (s.get .sw XBR_ECC_UE + 1) (2 ^ XBR_ECC_UE.w - 1) ∧ t.sw.core.queue = s.sw.core.queue.filter fun x => !(x.id == id)) ∧
  (∀ (structure_ : Nat) (id : Nat) (q : QEntry) (m : Nat) (s : State), s.queued id = some q → q.begun = false → q.pkt.tc < 6 → isHerdOp q.pkt.op = false → isAsked q.pkt.op = true → q.pkt.srcSw = false → s.egressOf q.pkt.src = some m → s.portState m = 2 →
    Does (.sramUncorrectable structure_ id none) s fun t => t.sw.core.queue.getLast?.map (·.pkt) = some (answer true s.switchId q.pkt stINTEGRITY)) ∧
  (∀ (path : Path) (v : Word) (s : State), s.writeOpen path .sw pgXbr 0x48 = true →
    Does (.midFenceSet path false v) s fun t => t.rd .sw XBR_MID_FENCE0 = s.rd .sw XBR_MID_FENCE0 ||| v) ∧
  (∀ (n tc : Nat) (s : State), n ∈ s.portList .sw → tc < 8 → 0 < s.backlog (.fabric n) tc →
    Does (.backlogAverageUpdate) s fun t => lookup t.sw.core.avgs (n * 8 + tc) = some ⟨((lookup s.sw.core.avgs (n * 8 + tc)).getD {}).num * (2 ^ s.get .sw BUF_RED_CFG_WEIGHT - 1) + s.backlog (.fabric n) tc * 2 ^ ((lookup s.sw.core.avgs (n * 8 + tc)).getD {}).exp, ((lookup s.sw.core.avgs (n * 8 + tc)).getD {}).exp + s.get .sw BUF_RED_CFG_WEIGHT⟩) ∧
  (∀ (p : Part) (src : Nat) (tc : Nat) (u : Nat) (s : State), (s.markCount p src tc).last = some u → s.due p u 16 = true → (s.markCount p src tc).marks ≠ 0 →
    Does (.congestionNoticeInterval p src tc) s fun t => t.markCount p src tc = { marks := 0, last := some (s.now p) })

/-- O8. Plane flips, notices and port release run. A plane map is stored and its flips run through probe, acknowledgement and settle (R281, R282); ROUTE_DOWN and ROUTE_UP mark and clear a coordinate (R286); a port becomes ACTIVE when its conditions hold (R285), by messages and by writes of its controls (R291). Each of these commands is shown to end in a next state: pmapWrite, drainProbeReceive, probeAnswer, probeAckReceive, flipSettleExpiry, routeDownReceive, routeUpReceive, portActiveReceive, routeOkWrite, partnerIdentityVerified, rtePortDisable. Rests on R281, R282, R285, R286, R291. -/
def Obligations.RoutingRowsComplete : Prop :=
  (∀ (path : Path) (axis : Nat) (v : Word) (s : State), s.writeOpen path .ep pgRly (0x38 + 8 * axis) = true → axis = 1 ∨ axis = 2 ∨ axis = 3 →
    Does (.pmapWrite path axis v) s fun t => t.planeMap axis = v) ∧
  (∀ (n : Nat) (k : Packet) (s : State), s.portState n = 2 →
    Does (.drainProbeReceive n k) s fun t => t.sw.core.probes = s.sw.core.probes ++ [⟨n, k, s.sw.core.nextId⟩]) ∧
  (∀ (n : Nat) (k : Packet) (s : State), s.portState n = 1 →
    Does (.drainProbeReceive n k) s fun t => t.get .sw RTE_DISC_QUARANTINE = min (s.get .sw RTE_DISC_QUARANTINE + 1) (2 ^ RTE_DISC_QUARANTINE.w - 1) ∧ t.sw.core.probes = s.sw.core.probes) ∧
  (∀ (n : Nat) (tag : Nat) (b : Probe) (s : State), s.sw.core.probes.find? (fun b => b.port == n && b.pkt.tag == tag) = some b → s.sw.core.queue.any (fun q => q.waiting && q.origin == some n && q.id < b.before) = false →
    Does (.probeAnswer n tag) s fun t => t.sw.core.probes = s.sw.core.probes.erase b ∧ t.get .sw RTE_PROBES_ANSWERED = min (s.get .sw RTE_PROBES_ANSWERED + 1) (2 ^ RTE_PROBES_ANSWERED.w - 1)) ∧
  (∀ (k : Packet) (f : Flip) (s : State), f ∈ s.ep.rly.flips → f.tag = k.tag → f.awaiting = true →
    Does (.probeAckReceive k) s fun t => { f with awaiting := false, settleFrom := some (s.now .ep), settle := s.settleTicks (linkOf f.axis f.old) } ∈ t.ep.rly.flips) ∧
  (∀ (tag : Nat) (f : Flip) (u : Nat) (s : State), f ∈ s.ep.rly.flips → f.tag = tag → f.awaiting = false → f.settleFrom = some u → s.due .ep u f.settle = true →
    Does (.flipSettleExpiry tag) s fun t => f ∉ t.ep.rly.flips) ∧
  (∀ (k : Packet) (s : State), s.ep.rly.heldPk = [] → s.ep.ag.membs = [] →
    Does (.routeDownReceive k) s fun t => t.markedDown (bitsOf k.aux 0 2) (bitsOf k.aux 2 1) (bitsOf k.aux 3 6) = true) ∧
  (∀ (k : Packet) (s : State),
    Does (.routeUpReceive k) s fun t => t.markedDown (bitsOf k.aux 0 2) (bitsOf k.aux 2 1) (bitsOf k.aux 3 6) = false) ∧
  (∀ (n : Nat) (s : State), s.stage .ep n = 5 →
    Does (.portActiveReceive n) s fun t => t.ep.rly.opened.testBit n = true) ∧
  (∀ (path : Path) (s : State), s.writeOpen path .sw pgRte 0x4C = true → s.portState (s.get .sw RTE_PORT_SEL_PORT) = 1 → s.flag .sw RTE_PORT_STS_ID_OK (s.get .sw RTE_PORT_SEL_PORT + 1) = true → s.flag .sw RTE_PORT_STS_MEMBER_OK (s.get .sw RTE_PORT_SEL_PORT + 1) = true →
    Does (.routeOkWrite path) s fun t => t.portState (s.get .sw RTE_PORT_SEL_PORT) = 2 ∧ t.flag .sw RTE_PORT_STS_ROUTE_OK (s.get .sw RTE_PORT_SEL_PORT + 1) = true) ∧
  (∀ (n : Nat) (digest : List Byte) (s : State), s.cpuUp 0 = true → s.secHalted .sw = false → s.portState n = 1 →
    Does (.partnerIdentityVerified .sw n false digest) s fun t => t.portState n = 1 ∧ t.get .sw SEC_EVENTS_SPDM_FAIL = min (s.get .sw SEC_EVENTS_SPDM_FAIL + 1) (2 ^ SEC_EVENTS_SPDM_FAIL.w - 1)) ∧
  (∀ (n : Nat) (digest : List Byte) (s : State), s.cpuUp 0 = true → s.secHalted .sw = false → s.portState n = 1 → s.peerMatches n digest = true → s.flag .sw RTE_PORT_STS_MEMBER_OK (n + 1) = false →
    Does (.partnerIdentityVerified .sw n true digest) s fun t => t.flag .sw RTE_PORT_STS_ID_OK (n + 1) = true ∧ t.portState n = 1) ∧
  (∀ (path : Path) (s : State), s.writeOpen path .sw pgRte 0x4C = true → s.stage .sw (s.get .sw RTE_PORT_SEL_PORT) = 0 →
    Does (.rtePortDisable path 1) s fun t => t.flag .sw RTE_PORT_CTL_DISABLE (s.get .sw RTE_PORT_SEL_PORT + 1) = true ∧ t.stage .sw (s.get .sw RTE_PORT_SEL_PORT) = 0)

/-- O9. The accelerator attachment runs, and the commands of kernels, gathers and scatter-adds are issued. A MEM_REQ joins the accesses in order, a DOORBELL writes TAIL (R345), an answer or a timeout of the accelerator ends the access that asked (R346), the acknowledgement of a DISCARD completes the acquire (R84), and the attachment goes down, returns and degrades (R344, R347). KSTART asks for a DISCARD and KEND queues its release (R351); GATHER and SCATTER_ADD put their packets in order (R352). Each of these commands is shown to end in a next state: memReq, doorbell, accCpl, accTimeout, discardAck, ucieDown, ucieUp, ucieDegrade, cmdGather, cmdScatterAdd, cmdKstart, cmdKend. Rests on R84, R344, R345, R346, R347, R351, R352. -/
def Obligations.AcceleratorRowsComplete : Prop :=
  (∀ (id : Nat) (queue : Nat) (op : Nat) (addr : Nat) (len : Nat) (data : List Byte) (vol : Bool) (cached : Bool) (s : State), s.uciUp = true → op = opREAD ∨ (op = opWRITE ∧ data.length = len) → 1 ≤ len → len ≤ 256 → addr / 256 = (addr + len - 1) / 256 →
    Drives (.memReq id queue op addr len data vol cached) s fun u => u.ep.ag.accs = s.ep.ag.accs ++ [({ id := s.newId, queue := queue % 256, ord := s.newId, mem := some id, op := op, addr := addr, len := len, data := data, vol := vol, cached := cached } : Access)]) ∧
  (∀ (q : Nat) (v : Nat) (s : State), s.uciUp = true →
    Does (.doorbell q v) s fun t => t.get .ep QUE_Q_TAIL_INDEX (q % 256 + 1) = v % 2 ^ 32) ∧
  (∀ (id : Nat) (answer : Nat) (data : List Byte) (o : AccOp) (w : Nat) (x : WinReq) (s : State), s.ep.ag.ops.find? (fun o => o.id == id) = some o → o.for_ = .window w → s.ep.ag.wins.find? (fun x => x.id == w) = some x →
    Drives (.accCpl id answer data) s fun u => u.ep.ag.wins = s.ep.ag.wins.filter fun y => y.id != w ∧ u.ep.ag.ops = s.ep.ag.ops.filter fun y => y.id != o.id) ∧
  (∀ (id : Nat) (answer : Nat) (data : List Byte) (o : AccOp) (a : Nat) (s : State), s.ep.ag.ops.find? (fun o => o.id == id) = some o → o.for_ = .data a → s.accLate o = false → answer = 0 →
    Drives (.accCpl id answer data) s fun u => u.ep.ag.accs = s.ep.ag.accs.map fun q => if q.id == a then { q with hasData := true, data := slice data 0 o.len } else q) ∧
  (∀ (id : Nat) (o : AccOp) (w : Nat) (x : WinReq) (s : State), s.ep.ag.ops.find? (fun o => o.id == id) = some o → o.for_ = .window w → s.ep.ag.wins.find? (fun x => x.id == w) = some x → s.due .ep o.at_ (s.get .ep UCI_CFG_ACC_TMO) = true →
    Drives (.accTimeout id) s fun u => u.ep.ag.wins = s.ep.ag.wins.filter fun y => y.id != w ∧ u.ep.ag.ops = s.ep.ag.ops.filter fun y => y.id != o.id) ∧
  (∀ (id : Nat) (q i : Nat) (c : Cmd) (s : State), lookup s.ep.ag.discards id = some (q, i) → s.cmd q i = some c →
    Drives (.discardAck id) s fun u => u.cmd q i = some { c with phase := 0, stage := 2, status := stOK }) ∧
  (∀ (s : State), s.uciUp = true →
    Drives (.ucieDown) s fun u => u.flag .ep UCI_STS_UP = false ∧ u.ep.ag.wins = [] ∧ u.ep.ag.ops = []) ∧
  (∀ (modules : Nat) (rate : Nat) (s : State), s.uciUp = false →
    Drives (.ucieUp modules rate) s fun u => u.flag .ep UCI_STS_UP = true ∧ u.ep.ag.atc = [] ∧ Out.discard s.newId false ∈ u.out) ∧
  (∀ (modules : Nat) (rate : Nat) (s : State), s.uciUp = true →
    Does (.ucieDegrade modules rate) s fun t => t.get .ep UCI_STS_MODULES = modules % 2 ^ 8 ∧ t.get .ep UCI_STS_RATE = rate % 2 ^ 2 ∧ t.flag .ep UCI_STS_UP = true) ∧
  (∀ (q : Nat) (c : Cmd) (ptn : Nat) (s : State), s.nextIssue q = some c → s.cmd q c.index = some c → c.op = 6 → s.epCtxPtn (s.queueCtx q) = some ptn → 1 ≤ c.length → c.length ≤ 1024 →
    Drives (.cmdGather q) s fun u => u.ep.ag.accs.map (fun a => (a.op, a.len, a.aux, a.fab, a.hasData)) = s.ep.ag.accs.map (fun a => (a.op, a.len, a.aux, a.fab, a.hasData)) ++ [(opGATHER, 4 * c.length, c.length, c.desc.getD 1 0, false)]) ∧
  (∀ (q : Nat) (c : Cmd) (ptn : Nat) (s : State), s.nextIssue q = some c → s.cmd q c.index = some c → c.op = 7 → s.epCtxPtn (s.queueCtx q) = some ptn → 1 ≤ c.length → c.length ≤ 4096 →
    Drives (.cmdScatterAdd q) s fun u => u.ep.ag.accs.map (fun a => (a.op, a.len, a.fab, a.hasData)) = s.ep.ag.accs.map (fun a => (a.op, a.len, a.fab, a.hasData)) ++ [(opSCATTER_ADD, c.length, c.desc.getD 1 0, false)]) ∧
  (∀ (q : Nat) (c : Cmd) (s : State), s.nextIssue q = some c → s.cmd q c.index = some c → c.op = 8 →
    Drives (.cmdKstart q) s fun u => Out.discard (s.newId + 1) false ∈ u.out) ∧
  (∀ (q : Nat) (c : Cmd) (s : State), s.nextIssue q = some c → s.cmd q c.index = some c → c.op = 9 →
    Drives (.cmdKend q) s fun u => u.ep.ag.accs.map (fun a => (a.op, a.release, a.scope, a.queue, a.index)) = s.ep.ag.accs.map (fun a => (a.op, a.release, a.scope, a.queue, a.index)) ++ [(0, true, 3, c.queue, c.index)])

/-- O10. Queues are written, descriptors fetched and commands completed, the relay forwards, and bridles are cut and rise. TAIL and ENABLE of the selected queue are written (R348), a descriptor is fetched at HEAD or its fetch stops the queue (R350), a local WAIT times out (R351), and the oldest command that is done writes its record and advances DONE (R353). A packet that arrives at a relay is delivered or forwarded (R274); a notice cuts a bridle and time raises it (R361, R362). Each of these commands is shown to end in a next state: qTailWrite, qEnableWrite, descriptorFetch, descriptorFetchFail, localWaitTmo, commandComplete, relayPacket, congNoticeReceive, bridleIncrease. Rests on R348, R350, R351, R353, R274, R361, R362. -/
def Obligations.QueueRowsComplete : Prop :=
  (∀ (path : Path) (v : Nat) (s : State), s.writeOpen path .ep pgQue 0x68 = true →
    Does (.qTailWrite path v) s fun t => t.get .ep QUE_Q_TAIL_INDEX (s.queueSel + 1) = v % 2 ^ 32) ∧
  (∀ (path : Path) (v : Word) (s : State), s.writeOpen path .ep pgQue 0x48 = true → v.getLsbD 0 = true → s.flag .ep QUE_Q_CFG_ENABLE (s.queueSel + 1) = false → (s.epCtxPtn (getBits v 6 10)).isSome = true →
    Does (.qEnableWrite path v) s fun t => t.queueState s.queueSel = 1 ∧ t.flag .ep QUE_Q_CFG_ENABLE (s.queueSel + 1) = true ∧ t.queueCtx s.queueSel = getBits v 6 10) ∧
  (∀ (path : Path) (v : Word) (s : State), s.writeOpen path .ep pgQue 0x48 = true → v.getLsbD 0 = false → s.flag .ep QUE_Q_CFG_ENABLE (s.queueSel + 1) = true →
    Does (.qEnableWrite path v) s fun t => t.queueState s.queueSel = 0 ∧ t.flag .ep QUE_Q_CFG_ENABLE (s.queueSel + 1) = false) ∧
  (∀ (q : Nat) (desc : List Word) (s : State), s.mayFetch (q % 256) = true →
    Does (.descriptorFetch q desc) s fun t => t.ep.cmds.map (fun c => (c.queue, c.index)) = s.ep.cmds.map (fun c => (c.queue, c.index)) ++ [(q % 256, s.get .ep QUE_Q_HEAD_INDEX (q % 256 + 1))] ∧ t.get .ep QUE_Q_HEAD_INDEX (q % 256 + 1) = (s.get .ep QUE_Q_HEAD_INDEX (q % 256 + 1) + 1) % 2 ^ 32) ∧
  (∀ (q : Nat) (s : State), s.mayFetch (q % 256) = true →
    Does (.descriptorFetchFail q) s fun t => t.queueState (q % 256) = 2 ∧ t.get .ep QUE_Q_STS_REASON (q % 256 + 1) = 2) ∧
  (∀ (q : Nat) (c : Cmd) (s : State), s.ep.cmds.find? (fun c => c.queue == q && c.stage == 1 && c.phase == 2 && bitsOf (c.w 6) 0 34 != 0 && s.due .ep c.at_ (bitsOf (c.w 6) 0 34)) = some c → s.cmd q c.index = some c →
    Drives (.localWaitTmo q) s fun u => u.cmd q c.index = some { c with stage := 2, status := stTIMEOUT, value := 0, verdict := false }) ∧
  (∀ (q : Nat) (c : Cmd) (s : State), s.ep.cmds.find? (fun c => c.queue == q && c.stage != 3) = some c → c.stage = 2 → c.signalEn = false → s.uciUp = true →
    Drives (.commandComplete q) s fun u => u.cmd q c.index = none ∧ u.get .ep QUE_Q_DONE_INDEX (q + 1) = (s.get .ep QUE_Q_DONE_INDEX (q + 1) + 1) % 2 ^ 32 ∧ Out.accWr (s.get .ep QUE_Q_CPL_BASE (q + 1) * 16 + 16 * s.ringPlace q c.index) c.recordBytes ∈ u.out) ∧
  (∀ (k : Packet) (m : Nat) (s : State), s.split = false → s.nativeHop k = .here →
    Does (.relayPacket (some m) k) s fun t => Out.received .ep 255 k ∈ t.out) ∧
  (∀ (k : Packet) (ix : Nat) (s : State), k.srcSw = true → bridleIx (natAt k.payload 0 4) 3 = some ix → (s.bridleNow ix).rose.all (fun r => r.1 != s.now .ep) = true →
    Does (.congNoticeReceive k) s fun t => t.get .ep BRD_RATE_RATE (ix + 1) = max (min (s.get .ep BRD_RATE_RATE (ix + 1)) 8571 - ceilDiv (min (s.get .ep BRD_RATE_RATE (ix + 1)) 8571 * natAt k.payload 4 4) (2 ^ s.get .ep BRD_CFG_DEC_SHIFT)) (s.get .ep BRD_CFG_MIN_RATE)) ∧
  (∀ (k : Packet) (ix r : Nat) (s : State), k.srcSw = true → bridleIx (natAt k.payload 0 4) 3 = some ix → (s.bridleNow ix).rose = some (s.now .ep, r) →
    Does (.congNoticeReceive k) s fun t => t.get .ep BRD_RATE_RATE (ix + 1) = max (min r 8571 - ceilDiv (min r 8571 * natAt k.payload 4 4) (2 ^ s.get .ep BRD_CFG_DEC_SHIFT)) (s.get .ep BRD_CFG_MIN_RATE)) ∧
  (∀ (ix : Nat) (s : State), ix < 12 → s.due .ep (s.bridleNow ix).incFrom (s.get .ep BRD_TIMING_INC_TICKS) = true →
    Does (.bridleIncrease ix) s fun t => t.get .ep BRD_RATE_RATE (ix + 1) = min (s.get .ep BRD_RATE_RATE (ix + 1) + s.get .ep BRD_CFG_INC_STEP) 16383)

/-- O11. The next command of a queue is issued: NOP, GET, PUT, ATOMIC and the sync commands. For these OPs the queue issues its next command: NOP completes at once (R349), GET, PUT, ATOMIC and the SYNC commands put their packets in order (R350 to R352). Each of these commands is shown to end in a next state: cmdNop, cmdGet, cmdPut, cmdAtomic, cmdSyncAdd, cmdSyncSet, cmdSyncSetClear, cmdSyncRead, cmdSyncWait. Rests on R43, R349, R350, R351, R352. -/
def Obligations.CommandRowsComplete : Prop :=
  (∀ (q : Nat) (c : Cmd) (s : State), s.nextIssue q = some c → s.cmd q c.index = some c → c.op = 0 → c.open_ = 0 → c.phase = 0 → c.fails = [] →
    Drives (.cmdNop q) s fun u => u.cmd q c.index = some { c with stage := 2, mark := s.newId, status := stOK }) ∧
  (∀ (q : Nat) (c : Cmd) (ptn : Nat) (s : State), s.nextIssue q = some c → s.cmd q c.index = some c → c.op = 1 → s.epCtxPtn (s.queueCtx q) = some ptn →
    Drives (.cmdGet q) s fun u => u.ep.ag.accs.map (fun a => (a.op, a.pos, a.len, a.queue, a.index)) = s.ep.ag.accs.map (fun a => (a.op, a.pos, a.len, a.queue, a.index)) ++ c.cuts.map fun e => (opREAD, e.1, e.2, c.queue, c.index)) ∧
  (∀ (q : Nat) (c : Cmd) (ptn : Nat) (s : State), s.nextIssue q = some c → s.cmd q c.index = some c → c.op = 2 → s.epCtxPtn (s.queueCtx q) = some ptn →
    Drives (.cmdPut q) s fun u => u.ep.ag.accs.map (fun a => (a.op, a.pos, a.len, a.queue, a.index, a.hasData)) = s.ep.ag.accs.map (fun a => (a.op, a.pos, a.len, a.queue, a.index, a.hasData)) ++ c.cuts.map fun e => (opWRITE, e.1, e.2, c.queue, c.index, false)) ∧
  (∀ (q : Nat) (c : Cmd) (ptn : Nat) (s : State), s.nextIssue q = some c → s.cmd q c.index = some c → c.op = 3 → s.epCtxPtn (s.queueCtx q) = some ptn → atomicSize c.subop (if c.subop == opCAS then 2 * c.length else c.length) = some c.length → c.length ≠ 16 →
    Drives (.cmdAtomic q) s fun u => u.ep.ag.accs.map (fun a => (a.op, a.pos, a.len, a.data)) = s.ep.ag.accs.map (fun a => (a.op, a.pos, a.len, a.data)) ++ [(c.subop, 0, c.length, leBytes c.length (c.w 4) ++ (if c.subop == opCAS then leBytes c.length (c.w 5) else []))]) ∧
  (∀ (q : Nat) (c : Cmd) (ptn : Nat) (s : State), s.nextIssue q = some c → s.cmd q c.index = some c → c.op = 4 → c.subop = 0 → inControl (c.desc.getD 1 0) = true → s.epCtxPtn (s.queueCtx q) = some ptn →
    Drives (.cmdSyncAdd q) s fun u => u.ep.ag.accs.map (fun a => (a.op, a.fab, a.data, a.release, a.aux, a.scope)) = s.ep.ag.accs.map (fun a => (a.op, a.fab, a.data, a.release, a.aux, a.scope)) ++ [(opSYNC_ADD, c.desc.getD 1 0, leBytes 8 (c.w 4), true, 0, cmdScope c)]) ∧
  (∀ (q : Nat) (c : Cmd) (ptn : Nat) (s : State), s.nextIssue q = some c → s.cmd q c.index = some c → c.op = 4 → c.subop = 1 → inControl (c.desc.getD 1 0) = true → s.epCtxPtn (s.queueCtx q) = some ptn →
    Drives (.cmdSyncSet q) s fun u => u.ep.ag.accs.map (fun a => (a.op, a.fab, a.data, a.release, a.aux, a.scope)) = s.ep.ag.accs.map (fun a => (a.op, a.fab, a.data, a.release, a.aux, a.scope)) ++ [(opSYNC_SET, c.desc.getD 1 0, leBytes 8 (c.w 4), true, 0, cmdScope c)]) ∧
  (∀ (q : Nat) (c : Cmd) (ptn : Nat) (s : State), s.nextIssue q = some c → s.cmd q c.index = some c → c.op = 4 → c.subop = 4 → inControl (c.desc.getD 1 0) = true → s.epCtxPtn (s.queueCtx q) = some ptn →
    Drives (.cmdSyncSetClear q) s fun u => u.ep.ag.accs.map (fun a => (a.op, a.fab, a.data, a.release, a.aux, a.scope)) = s.ep.ag.accs.map (fun a => (a.op, a.fab, a.data, a.release, a.aux, a.scope)) ++ [(opSYNC_SET, c.desc.getD 1 0, leBytes 8 (c.w 4), true, 1, cmdScope c)]) ∧
  (∀ (q : Nat) (c : Cmd) (ptn sid x y : Nat) (s : State), s.nextIssue q = some c → s.cmd q c.index = some c → c.op = 4 → c.subop = 2 → inControl (c.desc.getD 1 0) = true → placeOf (c.desc.getD 1 0) = .control 1 sid x y → s.epCtxPtn (s.queueCtx q) = some ptn →
    Drives (.cmdSyncRead q) s fun u => u.ep.ag.accs.map (fun a => (a.op, a.fab, a.data, a.release, a.scope)) = s.ep.ag.accs.map (fun a => (a.op, a.fab, a.data, a.release, a.scope)) ++ [(opSYNC_READ, c.desc.getD 1 0, [], false, cmdScope c)]) ∧
  (∀ (q : Nat) (c : Cmd) (ptn sid x y : Nat) (s : State), s.nextIssue q = some c → s.cmd q c.index = some c → c.op = 4 → c.subop = 3 → inControl (c.desc.getD 1 0) = true → placeOf (c.desc.getD 1 0) = .control 1 sid x y → s.epCtxPtn (s.queueCtx q) = some ptn →
    Drives (.cmdSyncWait q) s fun u => u.ep.ag.accs.map (fun a => (a.op, a.fab, a.data, a.release, a.scope)) = s.ep.ag.accs.map (fun a => (a.op, a.fab, a.data, a.release, a.scope)) ++ [(opSYNC_WAIT, c.desc.getD 1 0, leBytes 8 (c.desc.getD 4 0).toNat, false, cmdScope c)])

/-- O12. Answers, resends, timeouts and releases of requests run. The first answer completes its request (R358), a translation entry is kept (R47), a row of a gather is written at its place (R352), an unanswered request is resent and times out (R358), a held tag is freed (R357), outcome records are released and expire (R359, R360), and a snoop and an invalidation are answered (R60, R123). Each of these commands is shown to end in a next state: answerReceive, tableReadComplete, gatherRowReceive, resendTimer, requestTimeout, tagHoldExpiry, outcomeReleaseSend, ddpRecordExpiry, snoopReceive, invalReceive, invalAckSend. Rests on R47, R60, R123, R352, R357, R358, R359, R360. -/
def Obligations.RequestRowsComplete : Prop :=
  (∀ (k : Packet) (r : Req) (id m : Nat) (q : Access) (s : State), k.mark = false → s.reqOf k = some r → s.reqLate r = false → crcOk k = true → k.status < 0xE → r.for_ = .acc id → s.access id = some q → q.usesCopy = false → q.mem = some m → s.uciUp = true →
    Drives (.answerReceive k) s fun u => Out.memCpl m k.status (if k.status == stOK then k.payload else []) ∈ u.out ∧ u.ep.reqs = s.ep.reqs.filter fun x => x.tag != r.tag) ∧
  (∀ (k : Packet) (r : Req) (id : Nat) (x : Xlate) (s : State), k.mark = false → s.reqOf k = some r → s.reqLate r = false → crcOk k = true → k.status < 0xE → k.status = stOK → r.for_ = .xlate id → s.ep.ag.xlates.find? (fun x => x.id == id) = some x → x.again = false → entryOk (BitVec.ofNat 64 (natAt k.payload 0 8)) = true →
    Drives (.tableReadComplete k) s fun u => lookup u.ep.ag.atc x.key = some (BitVec.ofNat 64 (natAt k.payload 0 8))) ∧
  (∀ (k : Packet) (r : Req) (id : Nat) (q : Access) (c : Cmd) (s : State), k.mark = false → s.reqOf k = some r → s.reqLate r = false → crcOk k = true → r.pkt.op = opGATHER → r.for_ = .acc id → s.access id = some q → s.cmd q.queue q.index = some c → s.uciUp = true → k.payload ≠ [] →
    Does (.gatherRowReceive k) s fun t => Out.accWr (c.localAddr + k.aux * k.len) k.payload ∈ t.out) ∧
  (∀ (tag : Nat) (r : Req) (s : State), s.ep.reqs.find? (fun r => r.tag == tag) = some r → s.reqLate r = false → s.unsent r = false → r.times < 3 → s.due .ep r.first ((r.times + 1) * s.get .ep EPC_REQ_TMO_TICKS / 4) = true → resendable r.pkt = true → r.resends < 3 →
    Does (.resendTimer tag) s fun t => t.ep.reqs = s.ep.reqs.map fun x => if x.tag == tag then { x with times := x.times + 1, resends := x.resends + 1, last := s.now .ep } else x) ∧
  (∀ (tag : Nat) (r : Req) (s : State), s.ep.reqs.find? (fun r => r.tag == tag) = some r → s.unsent r = false → s.due .ep r.first (s.get .ep EPC_REQ_TMO_TICKS) = true →
    Drives (.requestTimeout tag) s fun u => u.ep.reqs = s.ep.reqs.filter fun x => x.tag != tag ∧ u.ep.ag.held = insertAt s.ep.ag.held tag r.last) ∧
  (∀ (tag : Nat) (h : Nat) (s : State), lookup s.ep.ag.held tag = some h → s.due .ep h (2 * s.get .ep EPC_REQ_TMO_TICKS) = true →
    Drives (.tagHoldExpiry tag) s fun u => u.ep.ag.held = removeAt s.ep.ag.held tag) ∧
  (∀ (kind : Nat) (target : Nat) (s : State), s.ep.ag.releases.any (fun r => r.kind == kind && r.target == target) = true →
    Does (.outcomeReleaseSend kind target) s fun t => t.ep.ag.releases = s.ep.ag.releases.filter fun r => !((s.ep.ag.releases.filter fun r => r.kind == kind && r.target == target).take 120).contains r) ∧
  (∀ (src : Nat) (tag : Nat) (o : Outcome) (s : State), s.ep.ddp.find? (fun o => o.src == src && o.tag == tag) = some o → s.due .ep o.at_ (s.get .ep DDP_CFG_HOLD) = true →
    Does (.ddpRecordExpiry src tag) s fun t => t.ep.ddp = s.ep.ddp.filter fun o => !(o.src == src && o.tag == tag) ∧ t.get .ep DDP_HITS_EXPIRED = min (s.get .ep DDP_HITS_EXPIRED + 1) (2 ^ DDP_HITS_EXPIRED.w - 1)) ∧
  (∀ (k : Packet) (c : Copy) (s : State), k.mark = false → s.uciUp = true → crcOk k = true → k.op = opSNP_INV → lookup s.ep.ag.copies (epLine k.addr) = some c →
    Does (.snoopReceive k) s fun t => t.ep.ag.copies = removeAt s.ep.ag.copies (epLine k.addr)) ∧
  (∀ (k : Packet) (s : State), k.mark = false → crcOk k = true →
    Drives (.invalReceive k) s fun u => u.ep.ag.atc = keepIf (fun key _ => !invalCovers k.payload key) s.ep.ag.atc ∧ u.ep.ag.invals.getLast? = some (k, s.now .ep, (s.atcUsers fun key => invalCovers k.payload key) ++ ((s.ep.ag.invals.filter fun e => e.2.1 == s.now .ep).map (·.2.2)).flatten) ∧ u.ep.ag.invals.map (·.1) = s.ep.ag.invals.map (·.1) ++ [k]) ∧
  (∀ (e : Packet × Nat × List Nat) (s : State), s.ep.ag.invals.find? (fun e => !s.anyLeft e.2.2) = some e →
    Does (.invalAckSend) s fun t => t.ep.ag.invals = s.ep.ag.invals.erase e)

/-- O13. Windows, grants, apertures and access counters are written and used. An admitted window read asks the accelerator (R54); windows, grants, apertures, counter ranges and the node ID are set, cleared and invalidated by the conditions of their rules (R48 to R55, R65, R66, R366). Each of these commands is shown to end in a next state: windowRequest, winValidSet, winValidClear, gntValidSet, winInvWrite, apValidSet, apValidClear, atcFlush, acnEnableWrite, acnEpochExpiry, rangeValidSet, epcNodeIdWrite. Rests on R48, R49, R50, R51, R52, R54, R55, R65, R66, R366. -/
def Obligations.WindowRowsComplete : Prop :=
  (∀ (k : Packet) (addr : Nat) (s : State), k.mark = false → s.uciUp = true → crcOk k = true → k.op = opREAD → s.winRefusal k = none → s.winLocal (getBits k.addr 36 9) (getBits k.addr 0 36) = some addr →
    Does (.windowRequest k) s fun t => Out.accRd (s.newId + 1) addr k.len ∈ t.out) ∧
  (∀ (path : Path) (v : Word) (s : State), s.writeOpen path .ep pgWin 0x48 = true → s.flag .ep WIN_WIN_CTL_VALID (s.winSel + 1) = false → (s.rd .ep CTX_PTN_MASK).getLsbD (getBits v 5 6) = true →
    Does (.winValidSet path v) s fun t => t.flag .ep WIN_WIN_CTL_VALID (s.winSel + 1) = true ∧ t.get .ep WIN_WIN_CTL_PARTITION (s.winSel + 1) = getBits v 5 6) ∧
  (∀ (path : Path) (v : Word) (s : State), s.writeOpen path .ep pgWin 0x48 = true → s.flag .ep WIN_WIN_CTL_VALID (s.winSel + 1) = true →
    Does (.winValidClear path v) s fun t => t.flag .ep WIN_WIN_CTL_VALID (s.winSel + 1) = false ∧ t.ep.ag.wcache = keepIf (fun k _ => !(k / 2 ^ 15 == s.winSel)) s.ep.ag.wcache) ∧
  (∀ (path : Path) (v : Word) (s : State), s.writeOpen path .ep pgWin 0x88 = true → s.epc.regs.all (fun x => !(x.1 % 2 ^ 24 == WIN_GNT_ENTRY.page * 4096 + WIN_GNT_ENTRY.off && getBits x.2 0 1 == 1) || x.1 == WIN_GNT_ENTRY.key (s.get .ep WIN_GNT_SEL_ENTRY + 1) 0 || getBits x.2 4 19 != getBits v 4 19) = true →
    Does (.gntValidSet path v) s fun t => t.flag .ep WIN_GNT_ENTRY_VALID (s.get .ep WIN_GNT_SEL_ENTRY + 1) = true ∧ t.get .ep WIN_GNT_ENTRY_WINDOW (s.get .ep WIN_GNT_SEL_ENTRY + 1) = getBits v 4 9) ∧
  (∀ (path : Path) (v : Word) (s : State), s.writeOpen path .ep pgWin 0xA0 = true → s.winInvBusy = false →
    Does (.winInvWrite path v) s fun t => t.ep.ag.wcache = keepIf (fun k _ => !winInvCovers v k) s.ep.ag.wcache) ∧
  (∀ (path : Path) (n : Nat) (v : Word) (s : State), n < 64 → s.writeOpen path .ep pgApt (apOff n 0) = true → s.flag .ep (apF APT_AP_CTL_VALID n) = false → s.apRefused n (v.getLsbD 1) = false →
    Does (.apValidSet path n v) s fun t => t.flag .ep (apF APT_AP_CTL_VALID n) = true ∧ t.get .ep (apF APT_AP_CTL_CTX n) = getBits v 6 10) ∧
  (∀ (path : Path) (n : Nat) (v : Word) (s : State), n < 64 → s.writeOpen path .ep pgApt (apOff n 0) = true → s.flag .ep (apF APT_AP_CTL_VALID n) = true →
    Does (.apValidClear path n v) s fun t => t.flag .ep (apF APT_AP_CTL_VALID n) = false) ∧
  (∀ (path : Path) (s : State), s.writeOpen path .ep pgApt 0x40 = true →
    Does (.atcFlush path) s fun t => t.ep.ag.atc = []) ∧
  (∀ (path : Path) (v : Word) (s : State), s.writeOpen path .ep pgAcn 0x40 = true → v.getLsbD 0 = true → s.flag .ep ACN_ACN_CTL_ENABLE = false →
    Does (.acnEnableWrite path v) s fun t => t.flag .ep ACN_ACN_CTL_ENABLE = true ∧ t.ep.ag.counts = [] ∧ t.ep.ag.recorded = [] ∧ t.get .ep ACN_ACN_EPOCH_NUM_NUM = 0 ∧ t.get .ep ACN_RING_DROP_DROPS = 0 ∧ t.ep.ag.epochAt = s.now .ep) ∧
  (∀ (s : State), s.get .ep ACN_ACN_EPOCH_LENGTH ≠ 0 → s.flag .ep ACN_ACN_CTL_ENABLE = true → s.due .ep s.ep.ag.epochAt (s.get .ep ACN_ACN_EPOCH_LENGTH) = true →
    Does (.acnEpochExpiry) s fun t => t.get .ep ACN_ACN_EPOCH_NUM_NUM = (s.get .ep ACN_ACN_EPOCH_NUM_NUM + (s.now .ep - s.ep.ag.epochAt) / s.get .ep ACN_ACN_EPOCH_LENGTH) % 2 ^ ACN_ACN_EPOCH_NUM_NUM.w ∧ t.ep.ag.counts = [] ∧ t.ep.ag.recorded = [] ∧ t.ep.ag.epochAt = s.ep.ag.epochAt + (s.now .ep - s.ep.ag.epochAt) / s.get .ep ACN_ACN_EPOCH_LENGTH * s.get .ep ACN_ACN_EPOCH_LENGTH) ∧
  (∀ (path : Path) (r : Nat) (v : Word) (s : State), r < 16 → s.writeOpen path .ep pgAcn (apOff r 0) = true → s.rngRefused r (getBits v 1 1) = false →
    Does (.rangeValidSet path r v) s fun t => t.flag .ep (rngF ACN_RNG_CTL_VALID r) = true ∧ t.get .ep (rngF ACN_RNG_CTL_THRESHOLD r) = getBits v 2 16) ∧
  (∀ (path : Path) (v : Nat) (s : State), s.writeOpen path .ep pgEpc 0x40 = true → s.split = true → (s.portList .ep).all (fun n => s.stage .ep n == 0) = true →
    Does (.epcNodeIdWrite path v) s fun t => t.get .ep EPC_ID_NODE_ID = v % 2 ^ 17 ∧ t.flag .ep EPC_ID_NODE_VALID = true)

/-- O14. Sync objects are updated, read, waited on and judged. An update sets the value of the object and is recorded (R197), a read is answered with value, record and verdict (R88, R197), a wait is held or ends by its timeout (R197, R266), and the host adds, acquires and clears errors (R198, R213). Each of these commands is shown to end in a next state: syncAdd, syncSet, syncSetClear, syncRead, syncWait, syncWaitTimeout, synAcqRead, synAddWrite, synErrorClear. Rests on R197, R198, R213, R266, R354. -/
def Obligations.SyncRowsComplete : Prop :=
  (∀ (queue : Nat) (k : Packet) (s : State), k.mark = false → crcOk k = true → s.synOwned .sw (synIx k) k.ptn = true → s.recordsOpen .sw k = true → s.flag .sw SYN_CFG_HERD_BOUND (synBank (synIx k)) = false → s.synError .sw (synIx k) = false →
    Does (.syncAdd .sw queue k) s fun t => t.synValue .sw (synIx k) = s.synValue .sw (synIx k) + BitVec.ofNat 64 (natAt k.payload 0 8)) ∧
  (∀ (queue : Nat) (k : Packet) (s : State), k.mark = false → crcOk k = true → s.synOwned .sw (synIx k) k.ptn = true → s.recordsOpen .sw k = true → s.flag .sw SYN_CFG_HERD_BOUND (synBank (synIx k)) = false → s.synError .sw (synIx k) = false →
    Does (.syncSet .sw queue k) s fun t => t.synValue .sw (synIx k) = BitVec.ofNat 64 (natAt k.payload 0 8)) ∧
  (∀ (queue : Nat) (k : Packet) (s : State), k.mark = false → crcOk k = true → s.synOwned .sw (synIx k) k.ptn = true → s.recordsOpen .sw k = true → s.flag .sw SYN_CFG_HERD_BOUND (synBank (synIx k)) = false →
    Does (.syncSetClear .sw queue k) s fun t => t.synValue .sw (synIx k) = BitVec.ofNat 64 (natAt k.payload 0 8) ∧ t.synError .sw (synIx k) = false) ∧
  (∀ (queue : Nat) (k : Packet) (s : State), k.mark = false → crcOk k = true → s.synOwned .ep (synIx k) k.ptn = true → s.recordsOpen .ep k = true → s.synError .ep (synIx k) = false →
    Drives (.syncAdd .ep queue k) s fun u => u.synValue .ep (synIx k) = s.synValue .ep (synIx k) + BitVec.ofNat 64 (natAt k.payload 0 8)) ∧
  (∀ (queue : Nat) (k : Packet) (s : State), k.mark = false → crcOk k = true → s.synOwned .ep (synIx k) k.ptn = true → s.recordsOpen .ep k = true → s.synError .ep (synIx k) = false →
    Drives (.syncSet .ep queue k) s fun u => u.synValue .ep (synIx k) = BitVec.ofNat 64 (natAt k.payload 0 8)) ∧
  (∀ (queue : Nat) (k : Packet) (s : State), k.mark = false → crcOk k = true → s.synOwned .ep (synIx k) k.ptn = true → s.recordsOpen .ep k = true →
    Drives (.syncSetClear .ep queue k) s fun u => u.synValue .ep (synIx k) = BitVec.ofNat 64 (natAt k.payload 0 8) ∧ u.synError .ep (synIx k) = false) ∧
  (∀ (p : Part) (queue : Nat) (k : Packet) (s : State), k.mark = false → crcOk k = true → s.synOwned p (synIx k) k.ptn = true → s.synError p (synIx k) = false →
    Does (.syncRead p queue k) s fun t => t = s.reply p k stOK (leBytes 8 (s.synValue p (synIx k)).toNat ++ leBytes 8 (s.recordWord p (synIx k))) (b2n (s.verdict p (synIx k) k.scope (agentOf k queue)))) ∧
  (∀ (p : Part) (queue : Nat) (k : Packet) (s : State), k.mark = false → crcOk k = true → s.synOwned p (synIx k) k.ptn = true → s.synError p (synIx k) = false → reached (s.synValue p (synIx k)) (BitVec.ofNat 64 (natAt k.payload 0 8)) = false → s.remoteWaits p < (if p = .sw then 4096 else 1024) →
    Does (.syncWait p queue k) s fun t => (t.chip p).sync.waits = (s.chip p).sync.waits ++ [⟨synIx k, queue, BitVec.ofNat 64 (natAt k.payload 0 8), .remote k, s.now p⟩]) ∧
  (∀ (p : Part) (src : Nat) (tag : Nat) (w : SyncWait) (k : Packet) (s : State), w ∈ (s.chip p).sync.waits → w.who = .remote k → k.src = src → k.tag = tag → s.due p w.at_ (s.holdTmo p) = true →
    Does (.syncWaitTimeout p src tag) s fun t => (t.chip p).sync.waits.length = (s.chip p).sync.waits.length - 1) ∧
  (∀ (path : Path) (s : State), path = .host ∨ (path = .sideband ∧ s.mainServes = true) →
    Does (.synAcqRead path) s fun t => Out.regDone .sw path stOK (s.synValue .sw (s.synSel .sw)) ∈ t.out) ∧
  (∀ (path : Path) (v : Word) (s : State), s.writeOpen path .sw pgSyn 0x60 = true → s.flag .sw SYN_CFG_ENABLE (synBank (s.synSel .sw)) = true → s.synError .sw (s.synSel .sw) = false → s.sw.pool.adds = [] → s.hostBefore s.sw.pool.nextId = false →
    Does (.synAddWrite path v) s fun t => t.synValue .sw (s.synSel .sw) = s.synValue .sw (s.synSel .sw) + v) ∧
  (∀ (path : Path) (v : Word) (s : State), s.writeOpen path .sw pgSyn 0x60 = true → s.flag .sw SYN_CFG_ENABLE (synBank (s.synSel .sw)) = true → s.synError .sw (s.synSel .sw) = false → s.sw.pool.adds = [] → s.hostBefore s.sw.pool.nextId = true →
    Does (.synAddWrite path v) s fun t => t.sw.pool.adds = [⟨s.synSel .sw, v, s.get .sw SYN_HOST_SCOPE_SCOPE, s.sw.pool.nextId⟩] ∧ t.synValue .sw (s.synSel .sw) = s.synValue .sw (s.synSel .sw)) ∧
  (∀ (path : Path) (p : Part) (s : State), s.writeOpen path p pgSyn 0x68 = true →
    Does (.synErrorClear path p) s fun t => t.synError p (s.synSel p) = false ∧ t.synReason p (s.synSel p) = 0)

/-- O15. Pool requests enter the home queue. A request that passes the checks enters the home queue, after which the home goes on (R124); one of the kind, range and operation of an open entry joins it (R262); a gather reads each of its lines once (R236) and a scatter-add queues a write for every row (R237). Each of these commands is shown to end in a next state: poolRead, poolWrite, poolAtomic, readShared, readOwn, upgrade, gatherRequest, scatterAddRequest. Rests on R57, R113, R119, R123, R124, R236, R237, R262. -/
def Obligations.PoolRequestRowsComplete : Prop :=
  (∀ (k : Packet) (media : List (Nat × Bool)) (p off : Nat) (s : State), s.poolOpen k p off k.len = true → k.op = opREAD → s.goesAlone .read p off k.len k = true →
    Settles (.poolRead k media) s fun u => u.sw.pool.queue.getLast? = some { id := s.sw.pool.nextId, kind := .read, ptn := p, off := off, len := k.len, members := [⟨k, .fabric, s.now .sw⟩], opened := s.now .sw }) ∧
  (∀ (k : Packet) (media : List (Nat × Bool)) (p off : Nat) (s : State), s.poolOpen k p off k.len = true → k.op = opREAD → combines k off k.len = true → (s.sw.pool.queue.find? fun r => s.takes r .read p (off / 128 * 128) 128 opREAD) = none → s.opens k = true → s.combOpen < 8192 →
    Settles (.poolRead k media) s fun u => u.sw.pool.queue.getLast?.any (fun r => r.comb && r.off == off / 128 * 128 && r.len == 128 && r.members == [⟨k, .fabric, s.now .sw⟩]) = true) ∧
  (∀ (k : Packet) (media : List (Nat × Bool)) (p off : Nat) (r : PReq) (s : State), s.poolOpen k p off k.len = true → k.op = opREAD → combines k off k.len = true → (s.sw.pool.queue.find? fun r => s.takes r .read p (off / 128 * 128) 128 opREAD) = some r →
    Does (.poolRead k media) s fun t => t.sw.pool.queue.any (fun x => x.id == r.id && x.members == r.members ++ [⟨k, .fabric, s.now .sw⟩]) = true) ∧
  (∀ (k : Packet) (media : List (Nat × Bool)) (p off : Nat) (s : State), s.poolOpen k p off k.len = true → k.op = opWRITE → s.sealedRange p off k.len = false → (k.vol = true → s.recordsOpen .sw k = true) →
    Settles (.poolWrite k media) s fun u => u.sw.pool.queue.getLast? = some { id := s.sw.pool.nextId, kind := .write, ptn := p, off := off, len := k.len, members := [⟨k, .fabric, s.now .sw⟩], opened := s.now .sw }) ∧
  (∀ (k : Packet) (media : List (Nat × Bool)) (p off n : Nat) (s : State), s.poolOpen k p off n = true → isAtomic k.op = true → atomicSize k.op k.len = some n → 0 < n → off % n = 0 → s.sealedRange p off n = false → s.recordsOpen .sw k = true → s.goesAlone .atomic p off n k = true →
    Settles (.poolAtomic k media) s fun u => u.sw.pool.queue.getLast? = some { id := s.sw.pool.nextId, kind := .atomic, ptn := p, off := off, len := n, members := [⟨k, .fabric, s.now .sw⟩], opened := s.now .sw }) ∧
  (∀ (k : Packet) (p off : Nat) (s : State), s.poolOpen k p off 128 = true → k.op = opREAD_SHARED →
    Settles (.readShared k) s fun u => u.sw.pool.queue.getLast? = some { id := s.sw.pool.nextId, kind := .readShared, ptn := p, off := off / 128 * 128, len := 128, members := [⟨k, .fabric, s.now .sw⟩], opened := s.now .sw }) ∧
  (∀ (k : Packet) (p off : Nat) (s : State), s.poolOpen k p off 128 = true → k.op = opREAD_OWN → s.sealedRange p (off / 128 * 128) 128 = false →
    Settles (.readOwn k) s fun u => u.sw.pool.queue.getLast? = some { id := s.sw.pool.nextId, kind := .readOwn, ptn := p, off := off / 128 * 128, len := 128, members := [⟨k, .fabric, s.now .sw⟩], opened := s.now .sw }) ∧
  (∀ (k : Packet) (p off : Nat) (s : State), s.poolOpen k p off 128 = true → k.op = opUPGRADE → s.sealedRange p (off / 128 * 128) 128 = false →
    Settles (.upgrade k) s fun u => u.sw.pool.queue.getLast? = some { id := s.sw.pool.nextId, kind := .upgrade, ptn := p, off := off / 128 * 128, len := 128, members := [⟨k, .fabric, s.now .sw⟩], opened := s.now .sw }) ∧
  (∀ (k : Packet) (p off : Nat) (tb : Table) (l : Nat) (ls : List Nat) (s : State), s.poolReach k p off = true → s.poolCheck k.ctx k.ptn p off 0 = stOK → s.powerHeld = false → s.tableAt p off = some tb → k.op = opGATHER → tb.gather = true → 1 ≤ k.aux → k.aux ≤ 1024 → 4 * k.aux ≤ k.len → gatherLines tb ((upTo k.aux).map fun i => natAt k.payload (4 * i) 4) = l :: ls →
    Does (.gatherRequest k) s fun t => t = (l :: ls).foldl (fun a x => a.enterHome .read k.ptn (x * 128) 128 ⟨k, .gather s.sw.pool.nextId x, s.now .sw⟩) (s.openGather k tb ((upTo k.aux).map fun i => natAt k.payload (4 * i) 4) (l :: ls).length).1) ∧
  (∀ (k : Packet) (p off n : Nat) (tb : Table) (s : State), s.poolReach k p off = true → s.poolCheck k.ctx k.ptn p off 0 = stOK → s.powerHeld = false → s.tableAt p off = some tb → k.op = opSCATTER_ADD → tb.scatter = true → scatterRows k.len tb.rowBytes = some n → s.recordsOpen .sw k = true → (upTo n).all (fun i => natAt k.payload (4 * i) 4 < tb.rows) = true → 0 < n →
    Settles (.scatterAddRequest k) s fun u => u.sw.pool.queue.map (fun r => (r.off, r.len)) = s.sw.pool.queue.map (fun r => (r.off, r.len)) ++ (upTo n).map fun i => (tb.base + natAt k.payload (4 * i) 4 * tb.rowBytes, tb.rowBytes))

/-- O16. Owners, snoops, fences and owner-lost lines run, and the host gives up a line. The owner returns a line (R123, R126), a snoop answer ends its wait (R123), a late one fences the agent (R130), software fences and readmits a slot (R130, R134), owner-lost flags are cleared (R133) and their log is read (R143). A clean eviction of the host enters the home as an eviction (R380, R385). Each of these commands is shown to end in a next state: writeback, cleanEvict, snpRspReceive, snoopTimeout, agtFenceWrite, agtReadmitWrite, olClearWrite, olClearDone, olRec1Read, memClnEvct. Rests on R123, R126, R130, R133, R134, R143, R380, R385. -/
def Obligations.CoherenceRowsComplete : Prop :=
  (∀ (k : Packet) (p off slot : Nat) (e : DirEntry) (s : State), k.mark = false → crcOk k = true → placeOf k.addr = .pool s.switchId p off → s.agentSlot k.src = some slot → s.snoopsInTime slot = true → s.returnCheck k.ctx k.ptn p (off / 128) (some slot) = stOK → s.ownsLine (lineKey p (off / 128)) (some slot) = true → s.dirAt (lineKey p (off / 128)) = some e → e.recalling = none → s.ptnBacked p = false →
    Settles (.writeback k) s fun u => u.sw.pool.mem = Memory.write s.sw.pool.mem (s.hbmLine p (off / 128) * 128) (slice k.payload 0 128) ∧ u.sw.pool.dir = removeAt s.sw.pool.dir (lineKey p (off / 128))) ∧
  (∀ (k : Packet) (p off slot : Nat) (e : DirEntry) (s : State), k.mark = false → crcOk k = true → placeOf k.addr = .pool s.switchId p off → s.agentSlot k.src = some slot → s.snoopsInTime slot = true → s.returnCheck k.ctx k.ptn p (off / 128) (some slot) = stOK → s.ownsLine (lineKey p (off / 128)) (some slot) = true → s.dirAt (lineKey p (off / 128)) = some e → e.recalling = none →
    Settles (.cleanEvict k) s fun u => u.sw.pool.dir = removeAt s.sw.pool.dir (lineKey p (off / 128)) ∧ u.sw.pool.mem = s.sw.pool.mem) ∧
  (∀ (k : Packet) (sid p off slot : Nat) (e : DirEntry) (r : Recall) (s : State), k.mark = false → crcOk k = true → k.op = opSNP_RSP → k.aux % 4 = 1 → placeOf k.addr = .pool sid p off → s.agentSlot k.src = some slot → s.snoopsInTime slot = true → s.dirAt (lineKey p (off / 128)) = some e → e.recalling = some r → r.inv = true → r.wait.testBit slot = true → r.unsent.testBit slot = false → r.again.testBit slot = false →
    Settles (.snpRspReceive k) s fun u => u = (s.onPool fun q => { q with spent := q.spent.erase (lineKey p (off / 128), slot) }).putDir (lineKey p (off / 128)) ({ e.without slot (s.slotHost slot) with excl := false } : DirEntry).ended) ∧
  (∀ (slot : Nat) (s : State), lookup s.sw.pool.recalls slot = none → s.slotState slot = 1 → s.sw.pool.dir.any (fun e => e.2.recalling.any fun r => r.wait.testBit slot && !r.unsent.testBit slot && (lookup r.sent slot).any fun a => s.due .sw a (s.get .sw DIR_SNOOP_TMO_TICKS)) = true →
    Settles (.snoopTimeout slot) s fun u => u.slotState slot = 3 ∧ u.get .sw DIR_AGT_STS_CAUSE (slot + 1) = 3) ∧
  (∀ (path : Path) (s : State), s.writeOpen path .sw pgDir 0x50 = true → s.slotState (s.get .sw DIR_AGT_SEL_SLOT) = 1 →
    Does (.agtFenceWrite path) s fun t => ∃ u : State, t = u.settle.regDone .sw path stOK ∧ u.slotState (s.get .sw DIR_AGT_SEL_SLOT) = 3 ∧ u.get .sw DIR_AGT_STS_CAUSE (s.get .sw DIR_AGT_SEL_SLOT + 1) = 4) ∧
  (∀ (path : Path) (s : State), s.writeOpen path .sw pgDir 0x50 = true → s.slotState (s.get .sw DIR_AGT_SEL_SLOT) = 3 →
    Does (.agtReadmitWrite path) s fun t => t.slotState (s.get .sw DIR_AGT_SEL_SLOT) = 1) ∧
  (∀ (o : Origin) (v : Word) (s : State), s.writeOpen o.path .sw pgDir 0xA0 = true → s.controls o (getBits v 0 6) = true → s.flag .sw DIR_OL_CLEAR_BUSY = false →
    Does (.olClearWrite o v) s fun t => t.flag .sw DIR_OL_CLEAR_BUSY = true ∧ t.get .sw DIR_OL_CLEAR_LINE = getBits v 7 33 ∧ t.flag .sw DIR_OL_CLEAR_ALL = v.getLsbD 6) ∧
  (∀ (s : State), s.flag .sw DIR_OL_CLEAR_BUSY = true →
    Settles (.olClearDone) s fun u => u.flag .sw DIR_OL_CLEAR_BUSY = false ∧ u.sw.pool.lost = (if s.flag .sw DIR_OL_CLEAR_ALL then keepIf (fun k _ => keyPtn k != s.get .sw DIR_OL_CLEAR_PARTITION) s.sw.pool.lost else removeAt s.sw.pool.lost (lineKey (s.get .sw DIR_OL_CLEAR_PARTITION) (s.get .sw DIR_OL_CLEAR_LINE)))) ∧
  (∀ (path : Path) (s : State), path = .host ∨ (path = .sideband ∧ s.mainServes = true) →
    Does (.olRec1Read path) s fun t => t.sw.pool.olLog = s.sw.pool.olLog.drop 1 ∧ Out.regDone .sw path stOK s.olRec1 ∈ t.out) ∧
  (∀ (dpa : Nat) (s : State), s.cxlMem = true → s.hostCheck (dpa / 64 * 64) = stOK → s.hostSlot.all s.snoopsInTime = true → s.ownsLine (lineKey (dpa / 64 * 64 / 2 ^ 40) ((dpa / 64 * 64 % 2 ^ 40) / 128)) s.hostSlot = true → s.otherHalf (lineKey (dpa / 64 * 64 / 2 ^ 40) ((dpa / 64 * 64 % 2 ^ 40) / 128)) (dpa / 64 * 64 % 2 ^ 40) = 0 → ((s.dirAt (lineKey (dpa / 64 * 64 / 2 ^ 40) ((dpa / 64 * 64 % 2 ^ 40) / 128))).bind (·.recalling)) = none →
    Settles (.memClnEvct dpa) s fun u => u.sw.pool.dir = removeAt s.sw.pool.dir (lineKey (dpa / 64 * 64 / 2 ^ 40) ((dpa / 64 * 64 % 2 ^ 40) / 128)) ∧ u.sw.pool.mem = s.sw.pool.mem)

/-- O17. Granules, drains, scrubs and the bulk tier run; BI responses of the host end their waits. Granules are retired and scrubbed (R138, R142), a drain ends (R136), the patrol passes (R139), a lost stack stops the partitions (R141), and the bulk tier fills, writes back, times out, goes down and returns (R113, R115, R392 to R394). A speculative read of the host is ignored (R380), its BI response ends the wait for it (R382) and a conflict is acknowledged (R383). Each of these commands is shown to end in a next state: granRetire, drainEnd, scrubGranuleDone, patrolPass, hbmStackLost, bulkFillComplete, bulkWritebackComplete, bulkPortDown, bulkPortUp, bulkDevTimeout, prefetchHint, memSpecRd, biRsp, biConflict. Rests on R113, R115, R136, R138, R139, R141, R142, R393, R394, R380, R382, R383. -/
def Obligations.TierRowsComplete : Prop :=
  (∀ (path : Path) (s : State), s.writeOpen path .sw pgPol 0x4C = true → s.granState s.granSel = 1 ∨ s.granState s.granSel = 2 →
    Does (.granRetire path) s fun t => t.granState s.granSel = 5) ∧
  (∀ (p : Nat) (a d : Nat) (s : State), lookup s.sw.pool.drains p = some (a, d) → s.due .sw a d = true →
    Settles (.drainEnd p) s fun u => u = (((s.drainHome p).clearBindings p).configChanged).clearSets p) ∧
  (∀ (g : Nat) (s : State), s.granState g = 3 → s.cpuUp 2 = true →
    Does (.scrubGranuleDone g) s fun t => t.granState g = 1 ∧ t.sw.pool.mem = (if g.testBit 17 then s.sw.pool.mem else Memory.zero s.sw.pool.mem (g * 2 ^ 28) (2 ^ 28))) ∧
  (∀ (media : List (Nat × Bool)) (s : State), s.get .sw POL_SCRUB_CTL_PATROL_HOURS ≠ 0 → s.cpuUp 2 = true →
    Does (.patrolPass media) s fun t => t.get .sw POL_SCRUB_STS_PATROL_PASSES = (s.get .sw POL_SCRUB_STS_PATROL_PASSES + 1) % 2 ^ POL_SCRUB_STS_PATROL_PASSES.w) ∧
  (∀ (n : Nat) (s : State), n < 6 →
    Settles (.hbmStackLost n) s fun u => u.sw.pool.stackLost = true ∧ u.flag .sw HBM_STS_TRAINED 0 n = false) ∧
  (∀ (id : Nat) (data : List Byte) (b : BulkOp) (hl : Nat) (s : State), s.sw.pool.bulk.find? (fun b => b.id == id && !b.write) = some b → s.bulkLate b = false → b.slot = some hl → s.ptnState b.ptn ≠ 0 → s.hbmLine b.ptn b.line = hl →
    Settles (.bulkFillComplete id true data) s fun u => lookup u.sw.pool.slots hl = some ⟨s.lineTag b.ptn b.line, false, false, b.ptn⟩ ∧ u.sw.pool.mem = Memory.write s.sw.pool.mem (hl * 128) (slice data 0 128)) ∧
  (∀ (id : Nat) (b : BulkOp) (hl : Nat) (c : CacheSlot) (s : State), s.sw.pool.bulk.find? (fun b => b.id == id && b.write) = some b → s.bulkLate b = false → b.slot = some hl → lookup s.sw.pool.slots hl = some c → c.ptn = b.ptn → s.slotLine hl c = b.line → s.hbmRead hl = b.data →
    Settles (.bulkWritebackComplete id true) s fun u => lookup u.sw.pool.slots hl = some { c with dirty := false, stuck := false }) ∧
  (∀ (n : Nat) (s : State), n < 2 →
    Settles (.bulkPortDown n) s fun u => u.bulkUp n = false) ∧
  (∀ (n : Nat) (serial : Nat) (bytes : Nat) (s : State), n < 2 → s.bulkUp n = false → s.flag .sw CXD_STS_FAULT_HELD 0 n = false → lookup s.sw.pool.serials n = none ∨ lookup s.sw.pool.serials n = some serial →
    Settles (.bulkPortUp n serial bytes) s fun u => u.bulkUp n = true ∧ lookup u.sw.pool.serials n = some serial) ∧
  (∀ (id : Nat) (b : BulkOp) (s : State), s.sw.pool.bulk.find? (fun b => b.id == id) = some b → s.due .sw b.at_ (s.get .sw CXD_DEV_TMO_TICKS 0 b.port) = true → (lookup s.sw.pool.devMiss b.port).getD 0 < 15 →
    Settles (.bulkDevTimeout id) s fun u => lookup u.sw.pool.devMiss b.port = some ((lookup s.sw.pool.devMiss b.port).getD 0 + 1) ∧ u.sw.pool.bulk = s.sw.pool.bulk.filter fun x => x.id != b.id) ∧
  (∀ (k : Packet) (p off : Nat) (s : State), k.mark = false → crcOk k = true → placeOf k.addr = .pool s.switchId p off → s.poolCheck k.ctx k.ptn p off 0 = stOK → off < s.ptnSize p → s.flag .sw BLK_CFG_PREFETCH_EN = true → s.ptnBacked p = true → s.hitSlot p (off / 128) = none →
    Settles (.prefetchHint k false) s fun u => u = s.queueReq .fill p (off / 128 * 128) 128 [⟨ownPkt, .hint, s.now .sw⟩]) ∧
  (∀ (dpa : Nat) (s : State),
    Does (.memSpecRd dpa) s fun t => t = s) ∧
  (∀ (dpa : Nat) (slot : Nat) (e : DirEntry) (r : Recall) (s : State), s.cxlMem = true → s.hostSlot = some slot → s.snoopsInTime slot = true → s.sw.pool.spent.contains (lineKey (dpa / 2 ^ 40) (dpa % 2 ^ 40 / 128), slot) = false → s.dirAt (lineKey (dpa / 2 ^ 40) (dpa % 2 ^ 40 / 128)) = some e → e.recalling = some r → r.inv = true → r.wait.testBit slot = true → r.unsent.testBit slot = false → r.again.testBit slot = false →
    Settles (.biRsp dpa false) s fun u => u = s.putDir (lineKey (dpa / 2 ^ 40) (dpa % 2 ^ 40 / 128)) ({ e.without slot true with excl := false } : DirEntry).ended) ∧
  (∀ (dpa : Nat) (s : State), s.cxlMem = true →
    Does (.biConflict dpa) s fun t => Out.biConflictAck (dpa / 128 * 128) ∈ t.out)

/-- O18. A read, a write and an atomic of HBM take effect on exactly their bytes; combined groups are issued and time out; outcome records end. With nothing else at the home, a read of HBM is answered with the bytes stored, a write of HBM stores its payload and changes no other byte, and a FETCH_ADD stores the sum modulo the operand size, changes no other byte, and answers with the old value (R92, R119). A combining window expires and its group is issued (R262), a request of the switch runs out of time (R266), and an outcome record is released or expires (R265). Each of these commands is shown to end in a next state: poolRead, poolWrite, poolAtomic, combineWindowExpiry, combineIssue, switchReqTimeout, outcomeRecordExpiry, outcomeReleaseReceive. Rests on R92, R119, R262, R265, R266. -/
def Obligations.PoolAccessServed : Prop :=
  (∀ (k : Packet) (p off : Nat) (s : State), s.poolOpen k p off k.len = true → k.op = opREAD → s.portUpTo k.src = true → k.srcSw = false → s.sw.pool.queue = [] → s.sw.pool.dir = [] → s.sw.pool.recalls = [] → s.sw.pool.lost = [] → s.sw.pool.decay = [] → s.ptnBacked p = false → off / 128 = (off + k.len - 1) / 128 → 0 < k.len →
    Does (.poolRead k []) s fun t => answer true s.switchId k stOK (Memory.read s.sw.pool.mem (s.hbmLine p (off / 128) * 128 + off % 128) k.len) ∈ t.sw.core.queue.map (·.pkt) ∧ t.sw.pool.mem = s.sw.pool.mem) ∧
  (∀ (k : Packet) (p off : Nat) (s : State), s.poolOpen k p off k.len = true → k.op = opWRITE → k.vol = false → s.sealedRange p off k.len = false → k.payload.length = k.len → s.sw.pool.queue = [] → s.sw.pool.dir = [] → s.sw.pool.recalls = [] → s.sw.pool.lost = [] → s.sw.pool.decay = [] → s.ptnBacked p = false → off / 128 = (off + k.len - 1) / 128 → 0 < k.len →
    Does (.poolWrite k []) s fun t => Memory.read t.sw.pool.mem (s.hbmLine p (off / 128) * 128 + off % 128) k.len = k.payload ∧ ∀ a, a < (s.hbmLine p (off / 128) * 128 + off % 128) ∨ (s.hbmLine p (off / 128) * 128 + off % 128) + k.len ≤ a → Memory.readByte t.sw.pool.mem a = Memory.readByte s.sw.pool.mem a) ∧
  (∀ (k : Packet) (p off n : Nat) (s : State), s.poolOpen k p off n = true → k.op = opFETCH_ADD → atomicSize k.op k.len = some n → off % n = 0 → s.sealedRange p off n = false → s.recordsOpen .sw k = true → s.portUpTo k.src = true → k.srcSw = false → s.sw.pool.queue = [] → s.sw.pool.dir = [] → s.sw.pool.recalls = [] → s.sw.pool.lost = [] → s.sw.pool.decay = [] → s.ptnBacked p = false → off / 128 = (off + n - 1) / 128 → 0 < n →
    Does (.poolAtomic k []) s fun t => Memory.read t.sw.pool.mem (s.hbmLine p (off / 128) * 128 + off % 128) n = leBytes n ((natAt (Memory.read s.sw.pool.mem (s.hbmLine p (off / 128) * 128 + off % 128) n) 0 n + natAt k.payload 0 n) % 2 ^ (8 * n)) ∧ ∀ a, a < (s.hbmLine p (off / 128) * 128 + off % 128) ∨ (s.hbmLine p (off / 128) * 128 + off % 128) + n ≤ a → Memory.readByte t.sw.pool.mem a = Memory.readByte s.sw.pool.mem a ∧ answer true s.switchId k stOK (Memory.read s.sw.pool.mem (s.hbmLine p (off / 128) * 128 + off % 128) n) ∈ t.sw.core.queue.map (·.pkt)) ∧
  (∀ (p : Nat) (line : Nat) (s : State),
    Does (.combineWindowExpiry p line) s fun t => t.sw.pool.queue = s.sw.pool.queue.map fun r => if r.comb && bytesMeet r p (line * 128) 128 && s.due .sw r.opened (s.get .sw CMB_CFG_WINDOW) then { r with isSealed := true } else r) ∧
  (∀ (p : Nat) (line : Nat) (r : PReq) (s : State), s.sw.pool.queue.find? (fun r => r.parked && bytesMeet r p (line * 128) 128) = some r → s.blocked r = false →
    Settles (.combineIssue p line) s fun u => u = s.onReq r.id fun r => { r with parked := false }) ∧
  (∀ (id : Nat) (r : PReq) (s : State), s.sw.pool.queue.find? (fun r => r.id == id) = some r → r.members ≠ [] → r.members.all (fun m => m.asker == .fabric && s.due .sw m.at_ (s.get .sw CMB_REQ_TMO_TICKS)) = true →
    Settles (.switchReqTimeout id) s fun u => u.sw.pool.queue = s.sw.pool.queue.filter fun x => x.id != id) ∧
  (∀ (src : Nat) (tag : Nat) (s : State), s.sw.pool.outcomes.any (fun o => o.src == src && o.tag == tag && s.due .sw o.at_ (s.get .sw CMB_OUT_HOLD_TICKS)) = true →
    Does (.outcomeRecordExpiry src tag) s fun t => t.sw.pool.outcomes = s.sw.pool.outcomes.filter fun o => !(o.src == src && o.tag == tag) ∧ t.get .sw CMB_OUT_HITS_EXPIRED = min (s.get .sw CMB_OUT_HITS_EXPIRED + 1) (2 ^ CMB_OUT_HITS_EXPIRED.w - 1)) ∧
  (∀ (p : Part) (k : Packet) (s : State), k.mark = false → crcOk k = true →
    Does (.outcomeReleaseReceive p k) s fun t => t.outcomes p = (s.outcomes p).filter fun o => !(o.src == k.src && ((upTo (min 120 (k.payload.length / 2))).map fun i => natAt k.payload (2 * i) 2).contains o.tag))

/-- O19. Register accesses run, and a page is enabled and disabled. A write by any path of a register that its access types govern stores each field by its type (R503), reads answer with the value (R495, R533), and ENABLE of a page acts as its rule says (R497). Each of these commands is shown to end in a next state: csr, sbRegisterAccess, registerWrite, ctlRead, ctlWrite, pageEnableWrite. Rests on R41, R345, R450, R495, R497, R503, R513, R533. -/
def Obligations.RegisterRowsComplete : Prop :=
  (∀ (page : Nat) (off : Nat) (size : Nat) (x : Word) (l : RegPlace) (s : State), s.writeOpen .csr .ep page off = true → s.plainReg { path := .csr } .ep page off size l x = true →
    Does (.csr true page off size x) s fun t => t.rd .ep l.reg (s.bankOf .ep l.desc.reg) l.inst = s.plainValue .ep page l x ∧ Out.regDone .ep .csr stOK 0 ∈ t.out) ∧
  (∀ (page : Nat) (off : Nat) (size : Nat) (x : Word) (s : State), sizeOk off size = true → pageMapped .ep page = true →
    Does (.csr false page off size x) s fun t => Out.regDone .ep .csr stOK (s.readBytes { path := .csr } .ep page off size).2 ∈ t.out) ∧
  (∀ (page : Nat) (off : Nat) (size : Nat) (x : Word) (l : RegPlace) (s : State), s.writeOpen .sideband .sw page off = true → s.plainReg { path := .sideband } .sw page off size l x = true →
    Does (.sbRegisterAccess true page off size x) s fun t => t.rd .sw l.reg (s.bankOf .sw l.desc.reg) l.inst = s.plainValue .sw page l x ∧ Out.regDone .sw .sideband stOK 0 ∈ t.out) ∧
  (∀ (page : Nat) (off : Nat) (size : Nat) (x : Word) (s : State), s.mainServes = true ∨ standbySubset page off = true → sizeOk off size = true → pageMapped .sw page = true →
    Does (.sbRegisterAccess false page off size x) s fun t => Out.regDone .sw .sideband stOK (s.readBytes { path := .sideband } .sw page off size).2 ∈ t.out) ∧
  (∀ (o : Origin) (p : Part) (page : Nat) (off : Nat) (size : Nat) (x : Word) (l : RegPlace) (s : State), s.writeOpen o.path p page off = true → s.plainReg o p page off size l x = true →
    Does (.registerWrite o p page off size x) s fun t => t.rd p l.reg (s.bankOf p l.desc.reg) l.inst = s.plainValue p page l x) ∧
  (∀ (p : Part) (k : Packet) (kind id mid off : Nat) (s : State), k.mark = false → crcOk k = true → placeOf k.addr = .control kind id mid off → ctlFormed kind id mid off k.len = true → s.isTarget p kind id = true → (p = .sw → s.orphaned k.ctx = false) → s.ctlPriv p k.ctx = true →
    Does (.ctlRead p k) s fun t => t = (s.regAccess { path := .remote, node := k.src, ctx := k.ctx } p false (off / 4096) (off % 4096) k.len (BitVec.ofNat 64 (natAt k.payload 0 k.len))).1.reply p k (s.regAccess { path := .remote, node := k.src, ctx := k.ctx } p false (off / 4096) (off % 4096) k.len (BitVec.ofNat 64 (natAt k.payload 0 k.len))).2.1 (if (s.regAccess { path := .remote, node := k.src, ctx := k.ctx } p false (off / 4096) (off % 4096) k.len (BitVec.ofNat 64 (natAt k.payload 0 k.len))).2.1 == stOK then leBytes k.len (s.regAccess { path := .remote, node := k.src, ctx := k.ctx } p false (off / 4096) (off % 4096) k.len (BitVec.ofNat 64 (natAt k.payload 0 k.len))).2.2.toNat else [])) ∧
  (∀ (p : Part) (k : Packet) (kind id mid off page : Nat) (x : Word) (l : RegPlace) (s : State), k.mark = false → crcOk k = true → placeOf k.addr = .control kind id mid off → ctlFormed kind id mid off k.len = true → s.isTarget p kind id = true → (p = .sw → s.orphaned k.ctx = false) → s.ctlPriv p k.ctx = true → page = off / 4096 → x = BitVec.ofNat 64 (natAt k.payload 0 k.len) → s.writeOpen .remote p page (off % 4096) = true → s.plainReg { path := .remote, node := k.src, ctx := k.ctx } p page (off % 4096) k.len l x = true →
    Does (.ctlWrite p k) s fun t => ∃ u : State, t = u.reply p k stOK ∧ u.rd p l.reg (s.bankOf p l.desc.reg) l.inst = s.plainValue p page l x) ∧
  (∀ (path : Path) (p : Part) (page : Nat) (v : Nat) (s : State), s.writeOpen path p page 0x08 = true → pageCode p page = 0x60 → s.flag p HDR_PAGE_CTL_FENCE 0 page = false → v % 2 = 1 ∨ s.get p QAD_STS_IN_USE 0 (pageInst p page) = 0 →
    Does (.pageEnableWrite path p page v) s fun t => t.get p HDR_PAGE_CTL_ENABLE 0 page = v % 2) ∧
  (∀ (path : Path) (p : Part) (page : Nat) (v : Nat) (s : State), s.writeOpen path p page 0x08 = true → pageCode p page = 0x61 → s.flag p HDR_PAGE_CTL_FENCE 0 page = false → v % 2 = 1 → s.stage p (pageInst p page) ≠ 0 →
    Does (.pageEnableWrite path p page v) s fun t => t.get p HDR_PAGE_CTL_ENABLE 0 page = 1)

/-- O20. A member command starts its part; chunks are reduced, run and hashed; a reduction core leaves service, tests itself and returns. A failed check and FENCE put an ACTIVE core FENCED with its cause (R172, R175); SELFTEST starts and ends a self-test (R174); READMIT returns a FENCED core that passed (R175). HERD registers the part of a member in its step (R352); a chunk is reduced (R193), run by its program (R224), and a region is hashed (R233). Each of these commands is shown to end in a next state: coreResidueFault, rdcFenceWrite, rdcReadmitWrite, rdcSelftestWrite, selftestComplete, cmdHerd, chunkReduced, programChunkDone, regionHashDone. Rests on R172, R174, R175, R193, R224, R233, R352. -/
def Obligations.CoreRowsComplete : Prop :=
  (∀ (c : Nat) (selfCheck : Bool) (work : Option (Nat × Nat)) (s : State), s.coreActive c = true → work = none →
    Does (.coreResidueFault c selfCheck work) s fun t => t.coreState c = 1 ∧ t.get .sw RDC_STS_CAUSE 0 c = (if selfCheck then 2 else 1) ∧ t.flag .sw RDC_FENCE_REC_VALID 0 c = true) ∧
  (∀ (path : Path) (c : Nat) (s : State), c < 64 → s.writeOpen path .sw (pgRdc + c) 0x48 = true → s.coreState c = 0 →
    Does (.rdcFenceWrite path c) s fun t => t.coreState c = 1 ∧ t.get .sw RDC_STS_CAUSE 0 c = 3) ∧
  (∀ (path : Path) (c : Nat) (s : State), c < 64 → s.writeOpen path .sw (pgRdc + c) 0x48 = true → s.coreState c = 1 → s.flag .sw RDC_SELFTEST_STS_PASS 0 c = true → s.flag .sw RDC_SELFTEST_STS_BUSY 0 c = false →
    Does (.rdcReadmitWrite path c) s fun t => t.coreState c = 0) ∧
  (∀ (path : Path) (c : Nat) (s : State), c < 64 → s.writeOpen path .sw (pgRdc + c) 0x48 = true → s.coreState c = 1 → s.flag .sw RDC_SELFTEST_STS_BUSY 0 c = false →
    Does (.rdcSelftestWrite path c) s fun t => t.flag .sw RDC_SELFTEST_STS_BUSY 0 c = true) ∧
  (∀ (c : Nat) (pass : Bool) (failFmt : Nat) (s : State), c < 64 → s.flag .sw RDC_SELFTEST_STS_BUSY 0 c = true →
    Does (.selftestComplete c pass failFmt) s fun t => t.flag .sw RDC_SELFTEST_STS_BUSY 0 c = false ∧ t.flag .sw RDC_SELFTEST_STS_PASS 0 c = pass ∧ t.flag .sw RDC_SELFTEST_STS_FAIL 0 c = !pass ∧ (s.coreState c = 2 → t.coreState c = if pass then 0 else 1) ∧ (s.coreState c = 1 → t.coreState c = 1)) ∧
  (∀ (q : Nat) (desc : List Word) (slot : Nat) (e0 : Word) (e1 : Word) (nodes : List Nat) (role : HerdRole) (c : Cmd) (ptn : Nat) (s : State), s.nextIssue q = some c → s.cmd q c.index = some c → c.op = 5 → s.epCtxPtn (s.queueCtx q) = some ptn → c.open_ = 0 → s.synOwned .ep (bitsOf (c.w 1) 28 12) ptn = true → s.swapNotice (bitsOf (c.w 1) 0 16) (bitsOf (c.w 1) 16 12) (bitsOf (c.w 4) 0 32) = none → s.hasPath (bitsOf (c.w 1) 0 16) = true →
    Drives (.cmdHerd q desc slot e0 e1 nodes role) s fun u => u.ep.ag.membs.map (fun m => ((m.queue, m.index, m.sid), (m.herd, m.step, m.slot, m.idle))) = s.ep.ag.membs.map (fun m => ((m.queue, m.index, m.sid), (m.herd, m.step, m.slot, m.idle))) ++ [((q, c.index, bitsOf (c.w 1) 0 16), (bitsOf (c.w 1) 16 12, bitsOf (c.w 4) 0 32, slot, role.spare))]) ∧
  (∀ (herd : Nat) (chunk : Nat) (core : Nat) (h : Herd) (s : State), s.herd herd = some h → s.herdInTime herd = true → h.state = 2 → chunk < h.nChunks → h.left chunk = false → (h.chunk chunk).reduced = false → h.inWindow chunk = true → s.chunkReady herd h chunk = true → s.attach herd = none → h.isRoot = false → (h.reducing = false ∨ (s.coreActive core = true ∧ (lookup h.cores chunk).all (· == core) = true ∧ s.inTurn core herd = true)) → h.op ≠ 6 →
    Does (.chunkReduced herd chunk core) s fun t => ((t.herd herd).bind fun g => lookup g.work chunk).map (·.reduced) = some true ∧ (h.reducing = false ∨ t.get .sw RDC_CHUNKS_COUNT 0 core = (s.get .sw RDC_CHUNKS_COUNT 0 core + 1) % 2 ^ RDC_CHUNKS_COUNT.w)) ∧
  (∀ (i : Nat) (c : Nat) (core : Nat) (h : Herd) (a : Attach) (s : State), s.herd i = some h → s.herdInTime i = true → s.attach i = some a → h.state = 2 → a.region = false → c = h.base → (h.chunk c).reduced = true → (h.chunk c).waits = [] → (h.chunk c).stores = true → h.ending = 0 →
    Does (.programChunkDone i c core) s fun t => (t.attach i).map (·.chunksDone) = some (a.chunksDone + 1)) ∧
  (∀ (bulk : List (Nat × List Byte)) (g : Nat) (rest : List Nat) (r : Region) (s : State), s.sw.svc.hashing = g :: rest → lookup s.sw.svc.regions g = some r → s.heldIn r = false → s.sw.pool.lost.any (fun e => r.has e.1) = false → ((upTo (r.len / 128)).map (r.off / 128 + ·)).all (fun l => !s.hashWaits r l && !s.hashBad r l bulk) = true →
    Does (.regionHashDone bulk) s fun X => lookup X.sw.svc.regions g = some { r with done := true, digest := Config.sha3 (((upTo (r.len / 128)).map fun l => s.hashLine r.ptn (r.off / 128 + l) bulk).flatten) } ∧ X.sw.svc.hashing = rest)

/-- O21. The stages of the herds and of the services are claimed and lapse, the commands of the herd stage act on a herd, and ATT.COMMIT is written. A free stage is claimed by its reader and a claim lapses (R183); CREATE, DESTROY, ABORT and SWAP act on a herd (R184, R186, R203). The stage of the services is claimed and lapses by the same rule, and a write of ATT.COMMIT acts on its attachment (R224). Each of these commands is shown to end in a next state: hrdClaimRead, stageClaimTimeout, herdCreate, herdDestroy, herdAbortCmd, herdSwapCmd, svcClaimRead, attCommitWrite. Rests on R183, R184, R186, R203, R224. -/
def Obligations.HerdStageRowsComplete : Prop :=
  (∀ (o : Origin) (s : State), (o.path = .host ∨ o.path = .remote ∨ (o.path = .sideband ∧ s.mainServes = true)) → s.sw.hrd.stage.claim = none →
    Does (.hrdClaimRead o) s fun t => t.sw.hrd.stage.claim = some (claimantOf o) ∧ t.sw.hrd.stage.at_ = s.now .sw) ∧
  (∀ (s : State), s.claimOver s.sw.hrd.stage = true →
    Does (.stageClaimTimeout false) s fun t => t.sw.hrd.stage.claim = none ∧ t.sw.hrd.entries = []) ∧
  (∀ (o : Origin) (i : Nat) (s : State), s.hrdOpen o = true → s.createCheck (i % 4096) s.stagedHerd = (stOK, 0) →
    Does (.herdCreate o i) s fun t => (t.herd (i % 4096)) = some { s.stagedHerd with units := ceilDiv s.stagedHerd.scratch 65536 } ∧ t.sw.hrd.stage.claim = none ∧ t.get .sw HRD_CMD_STS_STATUS = stOK) ∧
  (∀ (o : Origin) (i : Nat) (h : Herd) (s : State), s.hrdOpen o = true → s.herd (i % 4096) = some h → h.state = 1 →
    Does (.herdDestroy o i) s fun t => t.herd (i % 4096) = none ∧ t.attach (i % 4096) = none) ∧
  (∀ (o : Origin) (i : Nat) (h : Herd) (s : State), s.hrdOpen o = true → s.herd (i % 4096) = some h → h.state = 2 → h.isRoot = false → h.finished = false →
    Does (.herdDestroy o i) s fun t => t.flag .sw HRD_CMD_STS_BUSY = true ∧ t.sw.hrd.running = some (2, i % 4096) ∧ (t.herd (i % 4096)).map (fun g => (g.state, g.ending)) = some (3, 2)) ∧
  (∀ (o : Origin) (i : Nat) (h : Herd) (s : State), s.hrdOpen o = true → s.herd (i % 4096) = some h → h.state = 1 →
    Does (.herdAbortCmd o i) s fun t => t.get .sw HRD_CMD_STS_STATUS = stOK ∧ t.herd (i % 4096) = some h) ∧
  (∀ (o : Origin) (i : Nat) (h : Herd) (s : State), s.hrdOpen o = true → s.herd (i % 4096) = some h → h.state = 2 → h.isRoot = false → h.finished = false →
    Does (.herdAbortCmd o i) s fun t => t.flag .sw HRD_CMD_STS_BUSY = true ∧ (t.herd (i % 4096)).map (fun g => (g.state, g.asked)) = some (3, some (rsFENCED, s.now .sw))) ∧
  (∀ (o : Origin) (i : Nat) (v : Nat) (k : Nat) (atStep : Bool) (h : Herd) (s : State), s.hrdOpen o = true → s.herd (i % 4096) = some h → v % 128 < h.slotCount → h.slotValid (v % 128) = true → h.isChild (v % 128) = false → h.slotValid (128 + k % 8) = true → h.swap = none → (h.state = 3 ∨ atStep = true) →
    Does (.herdSwapCmd o i v k atStep) s fun t => t.herd (i % 4096) = some { h with swap := some (v % 128, k % 8) }) ∧
  (∀ (o : Origin) (i : Nat) (v : Nat) (k : Nat) (atStep : Bool) (h : Herd) (s : State), s.hrdOpen o = true → s.herd (i % 4096) = some h → v % 128 < h.slotCount → h.slotValid (v % 128) = true → h.isChild (v % 128) = false → h.slotValid (128 + k % 8) = true → h.swap = none → h.state = 1 → atStep = false →
    Does (.herdSwapCmd o i v k atStep) s fun t => t.herd (i % 4096) = some (h.exchange (v % 128) (k % 8))) ∧
  (∀ (o : Origin) (i : Nat) (v : Nat) (k : Nat) (atStep : Bool) (h : Herd) (s : State), s.hrdOpen o = true → s.herd (i % 4096) = some h → v % 128 < h.slotCount → h.slotValid (v % 128) = true → h.isChild (v % 128) = false → h.slotValid (128 + k % 8) = true → h.swap = none → h.state = 2 → atStep = false →
    Does (.herdSwapCmd o i v k atStep) s fun t => (t.herd (i % 4096)).map (fun g => (g.swapped.length, (g.entry (v % 128)).1)) = some (h.swapped.length + 1, swapEntry (h.entry (v % 128)).1 (h.entry (128 + k % 8)).1)) ∧
  (∀ (o : Origin) (s : State), (o.path = .host ∨ o.path = .remote ∨ (o.path = .sideband ∧ s.mainServes = true)) → s.sw.svc.stage.claim = none →
    Does (.svcClaimRead o) s fun t => t.sw.svc.stage.claim = some (claimantOf o) ∧ t.sw.svc.stage.at_ = s.now .sw) ∧
  (∀ (s : State), s.claimOver s.sw.svc.stage = true →
    Does (.stageClaimTimeout true) s fun t => t.sw.svc.stage.claim = none) ∧
  (∀ (path : Path) (v : Word) (h : Herd) (a : Attach) (s : State), s.writeOpen path .sw pgSvc 0x68 = true → s.herd (s.get .sw SVC_VIEW_SEL_HERD) = some h → h.state = 1 → s.attach (s.get .sw SVC_VIEW_SEL_HERD) = some a →
    Does (.attCommitWrite path v) s fun t => t.attach (s.get .sw SVC_VIEW_SEL_HERD) = some { a with committed := v.toNat })

/-- O22. The commands of the service stage make and remove programs, attachments, regions and tables. LOAD, UNLOAD, ATTACH, DETACH, CONST, SEAL, UNSEAL, TABLE_SET and TABLE_CLR act on the service core (R225 to R239). Each of these commands is shown to end in a next state: svcLoad, svcUnload, svcAttach, svcDetach, svcConst, svcSeal, svcUnseal, svcTableSet, svcTableClr. Rests on R225, R226, R230, R232, R235, R239. -/
def Obligations.ServiceStageRowsComplete : Prop :=
  (∀ (o : Origin) (slot : Nat) (s : State), s.svcOpen o = true → s.powerHeld = false → lookup s.sw.svc.progs (slot % 256) = none → (s.ctxPtn (getBits (s.stageWord 32) 0 10)).isSome = true → firstBad s.stagedImage = none →
    Does (.svcLoad o slot) s fun t => (lookup t.sw.svc.progs (slot % 256)).map (fun p => (p.image, p.ctx)) = some (s.stagedImage, getBits (s.stageWord 32) 0 10) ∧ t.get .sw SVC_CMD_STS_STATUS = stOK) ∧
  (∀ (o : Origin) (slot : Nat) (s : State), s.svcOpen o = true → s.slotUsers (slot % 256) = 0 →
    Does (.svcUnload o slot) s fun t => t.sw.svc.progs = removeAt s.sw.svc.progs (slot % 256) ∧ t.get .sw SVC_CMD_STS_STATUS = stOK) ∧
  (∀ (o : Origin) (i : Nat) (s : State), s.svcOpen o = true → s.attachCheck (i % 4096) s.stagedAttach = (stOK, 0) →
    Does (.svcAttach o i) s fun t => t.attach (i % 4096) = some s.stagedAttach ∧ t.get .sw SVC_CMD_STS_STATUS = stOK) ∧
  (∀ (o : Origin) (i : Nat) (s : State), s.svcOpen o = true → (s.herd (i % 4096)).any (fun h => h.state != 1) = false →
    Does (.svcDetach o i) s fun t => t.sw.svc.atts = removeAt s.sw.svc.atts (i % 4096) ∧ t.get .sw SVC_CMD_STS_STATUS = stOK) ∧
  (∀ (o : Origin) (i : Nat) (a : Attach) (s : State), s.svcOpen o = true → s.powerHeld = false → s.attach (i % 4096) = some a →
    Does (.svcConst o i) s fun t => t.attach (i % 4096) = some { a with staged := some (getBits (s.stageWord 25) 0 32, s.stagedConsts) } ∧ t.get .sw SVC_CMD_STS_STATUS = stOK) ∧
  (∀ (o : Origin) (g : Nat) (s : State), s.svcOpen o = true → s.powerHeld = false → g % 256 < 64 → getBits (s.stageWord 1) 0 40 % 2 ^ 21 = 0 → getBits (s.stageWord 2) 0 41 % 2 ^ 21 = 0 → getBits (s.stageWord 2) 0 41 ≠ 0 → lookup s.sw.svc.regions (g % 256) = none → getBits (s.stageWord 1) 0 40 + getBits (s.stageWord 2) 0 41 ≤ s.ptnSize (getBits (s.stageWord 0) 0 6) → s.mayUse o (getBits (s.stageWord 0) 0 6) = true → s.sw.svc.atts = [] → s.meetsRegion (getBits (s.stageWord 0) 0 6) (getBits (s.stageWord 1) 0 40, getBits (s.stageWord 2) 0 41) = false → s.meetsScatter (getBits (s.stageWord 0) 0 6) (getBits (s.stageWord 1) 0 40, getBits (s.stageWord 2) 0 41) = false →
    Does (.svcSeal o g) s fun t => (lookup t.sw.svc.regions (g % 256)).map (fun r => (r.ptn, r.off, r.len, r.done, r.ctx)) = some (getBits (s.stageWord 0) 0 6, getBits (s.stageWord 1) 0 40, getBits (s.stageWord 2) 0 41, false, o.ctx) ∧ t.sw.svc.hashing = s.sw.svc.hashing ++ [g % 256]) ∧
  (∀ (o : Origin) (g : Nat) (s : State), s.svcOpen o = true → (lookup s.sw.svc.regions (g % 256)).any (·.done) = true → s.sw.svc.atts.any (fun e => e.2.region && e.2.slot == g % 256) = false →
    Does (.svcUnseal o g) s fun t => t.sw.svc.regions = removeAt s.sw.svc.regions (g % 256) ∧ t.get .sw SVC_CMD_STS_STATUS = stOK) ∧
  (∀ (o : Origin) (t : Nat) (s : State), s.svcOpen o = true → s.powerHeld = false → lookup s.sw.svc.tables (t % 256) = none → getBits (s.stageWord 1) 0 40 % 128 = 0 → getBits (s.stageWord 1) 0 40 + (getBits (s.stageWord 2) 0 32 * ({ ptn := 0, base := 0, fmt := getBits (s.stageWord 0) 6 2, gather := false, scatter := false, units := getBits (s.stageWord 0) 10 8, rows := 0 } : Table).rowBytes) ≤ s.ptnSize (getBits (s.stageWord 0) 0 6) → s.mayUse o (getBits (s.stageWord 0) 0 6) = true → ((s.stageWord 0).getLsbD 9 = true → s.meetsRegion (getBits (s.stageWord 0) 0 6) (getBits (s.stageWord 1) 0 40, (getBits (s.stageWord 2) 0 32 * ({ ptn := 0, base := 0, fmt := getBits (s.stageWord 0) 6 2, gather := false, scatter := false, units := getBits (s.stageWord 0) 10 8, rows := 0 } : Table).rowBytes)) = false) →
    Does (.svcTableSet o t) s fun X => lookup X.sw.svc.tables (t % 256) = some { ptn := getBits (s.stageWord 0) 0 6, base := getBits (s.stageWord 1) 0 40, fmt := getBits (s.stageWord 0) 6 2, gather := (s.stageWord 0).getLsbD 8, scatter := (s.stageWord 0).getLsbD 9, units := getBits (s.stageWord 0) 10 8, rows := getBits (s.stageWord 2) 0 32 } ∧ X.get .sw SVC_CMD_STS_STATUS = stOK) ∧
  (∀ (o : Origin) (t : Nat) (s : State), s.svcOpen o = true →
    Does (.svcTableClr o t) s fun X => X.sw.svc.tables = removeAt s.sw.svc.tables (t % 256))

/-- O23. What arrives at a running herd is taken. A contribution, a partial, a join marker, counts and a result join their chunk (R188 to R192, R199). Each of these commands is shown to end in a next state: herdContrib, herdPartial, herdJoin, herdResult, herdCounts. Rests on R188, R190, R192, R199, R222. -/
def Obligations.HerdArrivalRowsComplete : Prop :=
  (∀ (k : Packet) (h : Herd) (v place : Nat) (q : Piece) (s : State), s.memberTurn k h v place = true → h.state = 2 → (lookup (h.chunk (herdPrefix k).chunk).pieces (pieceKey v place)).getD {} = q → q.done = none → q.dead = false → place < 2 → lookup (h.chunk (herdPrefix k).chunk).pieces (pieceKey v (1 - place)) = none → (herdPrefix k).chunk < h.nChunks → s.contributes (herdIx k) h v = true → h.ownsChunk k.src (herdPrefix k).chunk = true → h.left (herdPrefix k).chunk = false → h.inWindow (herdPrefix k).chunk = true →
    Does (.herdContrib k) s fun t => ((t.herd (herdIx k)).bind fun g => lookup g.work (herdPrefix k).chunk) = some { h.chunk (herdPrefix k).chunk with pieces := insertAt (h.chunk (herdPrefix k).chunk).pieces (pieceKey v place) (q.add (herdPrefix k).pkt (h.pieceBytes v (herdPrefix k).chunk (h.chunk (herdPrefix k).chunk).shard) (s.now .sw) (k.payload.drop 16)) }) ∧
  (∀ (k : Packet) (h : Herd) (v : Nat) (q : Piece) (s : State), s.herdTurn k h = true → h.childSlot k = some v → h.state = 2 → (lookup (h.chunk (herdPrefix k).chunk).pieces (pieceKey v 0)).getD {} = q → q.done = none → q.dead = false → lookup (h.chunk (herdPrefix k).chunk).pieces (pieceKey v 1) = none → (herdPrefix k).chunk < h.nChunks → h.left (herdPrefix k).chunk = false → h.inWindow (herdPrefix k).chunk = true →
    Does (.herdPartial k) s fun t => ((t.herd (herdIx k)).bind fun g => lookup g.work (herdPrefix k).chunk) = some { h.chunk (herdPrefix k).chunk with shard := (herdPrefix k).shard, pieces := insertAt (h.chunk (herdPrefix k).chunk).pieces (pieceKey v 0) (q.add (herdPrefix k).pkt (h.pieceBytes v (herdPrefix k).chunk (herdPrefix k).shard) (s.now .sw) (k.payload.drop 16)) }) ∧
  (∀ (k : Packet) (h : Herd) (v place : Nat) (s : State), k.srcSw = false → s.memberTurn k h v place = true → h.state = 2 → h.op ≠ 5 → h.op ≠ 6 → h.doneChunks < h.nChunks →
    Does (.herdJoin k) s fun t => (t.herd (herdIx k)).map (·.joined) = some (if h.joined.contains k.src then h.joined else h.joined ++ [k.src])) ∧
  (∀ (k : Packet) (h : Herd) (v place : Nat) (q : Piece) (s : State), k.srcSw = false → s.memberTurn k h v place = true → h.state = 2 → (lookup (h.chunk 0).pieces (pieceKey v place)).getD {} = q → q.done = none → q.dead = false → place < 2 → lookup (h.chunk 0).pieces (pieceKey v (1 - place)) = none → h.op = 5 → (herdPrefix k).chunk = 0 → h.left 0 = false → h.ownsChunk k.src 0 = true →
    Does (.herdJoin k) s fun t => ((t.herd (herdIx k)).bind fun g => lookup g.work 0) = some { h.chunk 0 with pieces := insertAt (h.chunk 0).pieces (pieceKey v place) (q.add 0 (h.pieceBytes v 0 (h.chunk 0).shard) (s.now .sw) []) }) ∧
  (∀ (k : Packet) (h : Herd) (v : Nat) (q : Piece) (s : State), s.herdTurn k h = true → h.upLinkOf k = some v → h.state = 2 → (herdPrefix k).chunk < h.nChunks → h.left (herdPrefix k).chunk = false → (lookup (h.chunk (herdPrefix k).chunk).down (herdPrefix k).shard).getD {} = q → q.done = none → (q.add (herdPrefix k).pkt (h.resultBytes (herdPrefix k).chunk (herdPrefix k).shard) (s.now .sw) (k.payload.drop 16)).done = none →
    Does (.herdResult .sw k) s fun t => ((t.herd (herdIx k)).bind fun g => lookup g.work (herdPrefix k).chunk) = some { h.chunk (herdPrefix k).chunk with down := insertAt (h.chunk (herdPrefix k).chunk).down (herdPrefix k).shard (q.add (herdPrefix k).pkt (h.resultBytes (herdPrefix k).chunk (herdPrefix k).shard) (s.now .sw) (k.payload.drop 16)) }) ∧
  (∀ (k : Packet) (h : Herd) (v place : Nat) (q : Piece) (s : State), k.srcSw = false → s.memberTurn k h v place = true → h.state = 2 → (lookup (h.chunk 0).pieces (pieceKey v place)).getD {} = q → q.done = none → q.dead = false → place < 2 → lookup (h.chunk 0).pieces (pieceKey v (1 - place)) = none → h.op = 6 → h.left 0 = false → h.ownsChunk k.src 0 = true →
    Does (.herdCounts .sw k) s fun t => ((t.herd (herdIx k)).bind fun g => lookup g.work 0) = some { h.chunk 0 with pieces := insertAt (h.chunk 0).pieces (pieceKey v place) (q.add (herdPrefix k).pkt (h.pieceBytes v 0 (h.chunk 0).shard) (s.now .sw) (k.payload.drop 16)) })

/-- O24. What reaches a herd member is taken. A result, counts and a record reach the buffers of the member (R192, R199, R200), a signal waits for its packets (R195), a completion and a decision end the part of the member (R196, R207), and a swap notice is kept (R203). Each of these commands is shown to end in a next state: herdResult, herdCounts, herdRecord, herdSignalReceive, herdCplReceive, herdAbortReceive, herdSwapReceive. Rests on R192, R195, R196, R199, R200, R203, R207. -/
def Obligations.HerdMemberRowsComplete : Prop :=
  (∀ (k : Packet) (sid : Nat) (m : Memb) (s : State), k.mark = false → crcOk k = true → addrSwitch k = some sid → s.membOf sid (herdIx k) (herdPrefix k).step = some m → s.uciUp = true → s.memb m.queue m.index = some m → m.signals = [] → m.cpl = none →
    Drives (.herdResult .ep k) s fun u => (u.memb m.queue m.index).map (·.got) = some (insertAt m.got (herdPrefix k).chunk ((lookup m.got (herdPrefix k).chunk).getD 0 + 1)) ∧ ∀ e ∈ m.places (herdPrefix k).chunk (herdPrefix k).shard (herdPrefix k).pkt (k.payload.drop 16), e.2 ≠ [] → Out.accWr (m.dst + e.1) e.2 ∈ u.out) ∧
  (∀ (k : Packet) (sid : Nat) (m : Memb) (s : State), k.mark = false → crcOk k = true → addrSwitch k = some sid → s.membOf sid (herdIx k) (herdPrefix k).step = some m → s.memb m.queue m.index = some m → (insertAt m.a2a.parts (herdPrefix k).pkt (k.payload.drop 16)).length < packetsOf (4 + 8 * m.geo.ranks) →
    Drives (.herdCounts .ep k) s fun u => (u.memb m.queue m.index).map (·.a2a.parts) = some (insertAt m.a2a.parts (herdPrefix k).pkt (k.payload.drop 16))) ∧
  (∀ (k : Packet) (m : Memb) (s : State), k.mark = false → crcOk k = true → s.recordMemb k = some m → s.uciUp = true → s.memb m.queue m.index = some m → m.a2a.expect = none → k.payload.drop 16 ≠ [] →
    Drives (.herdRecord k) s fun u => Out.accWr (m.a2a.recv + (herdPrefix k).chunk * m.recBytes + herdData * (herdPrefix k).pkt) (k.payload.drop 16) ∈ u.out ∧ ((u.memb m.queue m.index).map fun x => x.a2a.got.contains ((herdPrefix k).chunk, (herdPrefix k).pkt)) = some true) ∧
  (∀ (k : Packet) (sid : Nat) (m : Memb) (s : State), k.mark = false → crcOk k = true → addrSwitch k = some sid → s.membOf sid (herdIx k) (herdPrefix k).step = some m → s.memb m.queue m.index = some m → m.applied.contains (herdPrefix k).chunk = false → m.signals = [] → m.written (herdPrefix k).chunk < (herdPrefix k).pkt → m.cpl = none →
    Drives (.herdSignalReceive k) s fun u => (u.memb m.queue m.index).map (·.signals) = some [((herdPrefix k).chunk, (herdPrefix k).pkt)]) ∧
  (∀ (k : Packet) (sid : Nat) (m : Memb) (s : State), k.mark = false → crcOk k = true → addrSwitch k = some sid → s.membOf sid (herdIx k) (herdPrefix k).step = some m → s.memb m.queue m.index = some m → m.applied.contains (herdPrefix k).chunk = false → m.signals = [] → (herdPrefix k).pkt ≤ m.written (herdPrefix k).chunk → m.cpl = none → s.flag .ep SYN_CFG_ENABLE (synBank m.sync) = true → s.synError .ep m.sync = false →
    Drives (.herdSignalReceive k) s fun u => u.synValue .ep m.sync = s.synValue .ep m.sync + 1 ∧ (u.memb m.queue m.index).map (·.applied) = some (m.applied ++ [(herdPrefix k).chunk])) ∧
  (∀ (k : Packet) (sid : Nat) (m : Memb) (s : State), k.mark = false → crcOk k = true → addrSwitch k = some sid → s.membOf sid (herdIx k) (herdPrefix k).step = some m → natAt k.payload 16 1 = stABORTED →
    Drives (.herdCplReceive .ep k) s fun u => u.ep.ag.membs = s.ep.ag.membs.filter fun x => !(x.queue == m.queue && x.index == m.index) ∧ u.synError .ep m.sync = true ∧ u.synReason .ep m.sync = bitsOf (natAt k.payload 16 4) 16 3 ∧ ∀ c, s.cmd m.queue m.index = some c → (u.cmd m.queue m.index).map (fun d => (d.stage, d.status)) = some (2, stABORTED)) ∧
  (∀ (k : Packet) (sid : Nat) (m : Memb) (s : State), k.mark = false → crcOk k = true → addrSwitch k = some sid → s.membOf sid (herdIx k) (herdPrefix k).step = some m → s.memb m.queue m.index = some m → natAt k.payload 16 1 = stOK → m.signals = [] →
    Drives (.herdCplReceive .ep k) s fun u => u.ep.ag.membs = s.ep.ag.membs.filter fun x => !(x.queue == m.queue && x.index == m.index)) ∧
  (∀ (k : Packet) (m : Memb) (s : State), k.mark = false → crcOk k = true → k.srcSw = true → addrSwitch k = some k.src → s.membOf k.src (herdIx k) (herdPrefix k).step = some m → (herdPrefix k).chunk = 0 →
    Drives (.herdAbortReceive .ep k) s fun u => u.ep.ag.membs = s.ep.ag.membs.filter fun x => !(x.queue == m.queue && x.index == m.index) ∧ u.synError .ep m.sync = true ∧ u.synReason .ep m.sync = (herdPrefix k).pkt % 8) ∧
  (∀ (k : Packet) (sid : Nat) (s : State), k.mark = false → crcOk k = true → addrSwitch k = some sid → s.membOf sid (herdIx k) (herdPrefix k).step = none →
    Does (.herdSwapReceive k) s fun t => t.ep.ag.swaps = s.ep.ag.swaps ++ [(sid, herdIx k, (herdPrefix k).step, (herdPrefix k).chunk)])

/-- O25. Requests of the host over CXL.mem run at the home. A read, an invalidate and a write of the host enter the home as reads, upgrades and writes (R380, R385). Each of these commands is shown to end in a next state: memRd, memInv, memWr. Rests on R380, R385. -/
def Obligations.HostMemoryRowsComplete : Prop :=
  (∀ (dpa : Nat) (mv : Nat) (s : State), s.cxlMem = true → s.hostCheck (dpa / 64 * 64) = stOK → (mv = 0 ∨ s.hostCaches ((dpa / 64 * 64 / 2 ^ 40) * 2 ^ 40 + (dpa / 64 * 64 % 2 ^ 40)) = false) →
    Settles (.memRd dpa mv) s fun u => u = (s.sealOthers (dpa / 64 * 64 / 2 ^ 40) (dpa / 64 * 64 % 2 ^ 40) 64 none).queueReq .read (dpa / 64 * 64 / 2 ^ 40) (dpa / 64 * 64 % 2 ^ 40) 64 [s.hostMember 0 (dpa / 64 * 64 % 2 ^ 40) 0 []]) ∧
  (∀ (dpa : Nat) (mv : Nat) (s : State), s.cxlMem = true → s.hostCheck (dpa / 64 * 64) = stOK → mv = 1 → s.hostCaches ((dpa / 64 * 64 / 2 ^ 40) * 2 ^ 40 + (dpa / 64 * 64 % 2 ^ 40)) = true →
    Settles (.memRd dpa mv) s fun u => u = (s.sealOthers (dpa / 64 * 64 / 2 ^ 40) ((dpa / 64 * 64 % 2 ^ 40) / 128 * 128) 128 none).queueReq .readShared (dpa / 64 * 64 / 2 ^ 40) ((dpa / 64 * 64 % 2 ^ 40) / 128 * 128) 128 [s.hostMember 1 (dpa / 64 * 64 % 2 ^ 40) 0 []]) ∧
  (∀ (dpa : Nat) (mv : Nat) (s : State), s.cxlMem = true → s.hostCheck (dpa / 64 * 64) = stOK → 2 ≤ mv → s.hostCaches ((dpa / 64 * 64 / 2 ^ 40) * 2 ^ 40 + (dpa / 64 * 64 % 2 ^ 40)) = true → s.sealedRange (dpa / 64 * 64 / 2 ^ 40) ((dpa / 64 * 64 % 2 ^ 40) / 128 * 128) 128 = false →
    Settles (.memRd dpa mv) s fun u => u = (s.sealOthers (dpa / 64 * 64 / 2 ^ 40) ((dpa / 64 * 64 % 2 ^ 40) / 128 * 128) 128 none).queueReq .readOwn (dpa / 64 * 64 / 2 ^ 40) ((dpa / 64 * 64 % 2 ^ 40) / 128 * 128) 128 [s.hostMember 2 (dpa / 64 * 64 % 2 ^ 40) 0 []]) ∧
  (∀ (dpa : Nat) (s : State), s.cxlMem = true → s.hostCheck (dpa / 64 * 64) = stOK → s.hostCaches ((dpa / 64 * 64 / 2 ^ 40) * 2 ^ 40 + (dpa / 64 * 64 % 2 ^ 40)) = true → s.sealedRange (dpa / 64 * 64 / 2 ^ 40) ((dpa / 64 * 64 % 2 ^ 40) / 128 * 128) 128 = false →
    Settles (.memInv dpa) s fun u => u = (s.sealOthers (dpa / 64 * 64 / 2 ^ 40) ((dpa / 64 * 64 % 2 ^ 40) / 128 * 128) 128 none).queueReq .upgrade (dpa / 64 * 64 / 2 ^ 40) ((dpa / 64 * 64 % 2 ^ 40) / 128 * 128) 128 [s.hostMember 3 (dpa / 64 * 64 % 2 ^ 40) 0 []]) ∧
  (∀ (dpa : Nat) (mask : Nat) (data : List Byte) (s : State), s.cxlMem = true → s.hostCheck (dpa / 64 * 64) = stOK → s.hostSlot.all s.snoopsInTime = true → (s.ownsLine (lineKey (dpa / 64 * 64 / 2 ^ 40) ((dpa / 64 * 64 % 2 ^ 40) / 128)) s.hostSlot && ((s.dirAt (lineKey (dpa / 64 * 64 / 2 ^ 40) ((dpa / 64 * 64 % 2 ^ 40) / 128))).elim 0 (·.halves)).testBit (bitsOf (dpa / 64 * 64 % 2 ^ 40) 6 1)) = false → s.sealedRange (dpa / 64 * 64 / 2 ^ 40) (dpa / 64 * 64 % 2 ^ 40) 64 = false →
    Settles (.memWr dpa mask data) s fun u => u = (s.sealOthers (dpa / 64 * 64 / 2 ^ 40) (dpa / 64 * 64 % 2 ^ 40) 64 none).queueReq .write (dpa / 64 * 64 / 2 ^ 40) (dpa / 64 * 64 % 2 ^ 40) 64 [s.hostMember 4 (dpa / 64 * 64 % 2 ^ 40) mask data]) ∧
  (∀ (dpa : Nat) (mask : Nat) (data : List Byte) (s : State), s.cxlMem = true → s.hostCheck (dpa / 64 * 64) = stOK → s.hostSlot.all s.snoopsInTime = true → (s.ownsLine (lineKey (dpa / 64 * 64 / 2 ^ 40) ((dpa / 64 * 64 % 2 ^ 40) / 128)) s.hostSlot && ((s.dirAt (lineKey (dpa / 64 * 64 / 2 ^ 40) ((dpa / 64 * 64 % 2 ^ 40) / 128))).elim 0 (·.halves)).testBit (bitsOf (dpa / 64 * 64 % 2 ^ 40) 6 1)) = true → s.ptnBacked (dpa / 64 * 64 / 2 ^ 40) = false → lookup s.sw.pool.decay (s.hbmLine (dpa / 64 * 64 / 2 ^ 40) ((dpa / 64 * 64 % 2 ^ 40) / 128)) ≠ some true →
    Settles (.memWr dpa mask data) s fun u => u.sw.pool.mem = Memory.write s.sw.pool.mem (s.hbmLine (dpa / 64 * 64 / 2 ^ 40) ((dpa / 64 * 64 % 2 ^ 40) / 128) * 128) (patch (s.hbmRead (s.hbmLine (dpa / 64 * 64 / 2 ^ 40) ((dpa / 64 * 64 % 2 ^ 40) / 128))) ((dpa / 64 * 64 % 2 ^ 40) % 128) ((upTo 64).map fun i => if mask.testBit i then data.getD i 0 else (s.hbmRead (s.hbmLine (dpa / 64 * 64 / 2 ^ 40) ((dpa / 64 * 64 % 2 ^ 40) / 128))).getD ((dpa / 64 * 64 % 2 ^ 40) % 128 + i) 0)) ∧ Out.hostMem (dpa / 64 * 64) 0 [] ∈ u.out)

/-- O26. The upstream port and its decoders run, and an invalidation of the host is submitted. The link comes up and goes down (R375, R377), a decoder commits (R379), BI is enabled (R384), IDE takes the link down (R388), and an invalidation is submitted (R58, R386). Each of these commands is shown to end in a next state: hostLinkUp, hostLinkDown, ideCheckFail, hdmCommit, biEnWrite, invSubmit. Rests on R58, R375, R377, R379, R384, R386, R388. -/
def Obligations.HostPortRowsComplete : Prop :=
  (∀ (width : Nat) (rate : Nat) (cxl : Bool) (s : State), s.swc.inReset = false → 9 ≤ s.swc.step → s.flag .sw CXU_STS_UP = false → [1, 2, 4, 8, 16].contains width = true →
    Does (.hostLinkUp width rate cxl) s fun t => t.flag .sw CXU_STS_UP = true ∧ t.flag .sw CXU_STS_CXL_MODE = (cxl && decide (rate < 3)) ∧ t.get .sw CXU_STS_WIDTH = width) ∧
  (∀ (cause : Nat) (s : State), s.flag .sw CXU_STS_UP = true → s.hostSlot = none →
    Does (.hostLinkDown cause) s fun t => t.flag .sw CXU_STS_UP = false ∧ t.sw.cxl.hpa = [] ∧ t.sw.cxl.events = []) ∧
  (∀ (cause : Nat) (i : Nat) (s : State), s.flag .sw CXU_STS_UP = true → s.hostSlot = some i → s.slotState i = 1 →
    Settles (.hostLinkDown cause) s fun u => u.slotState i = 3 ∧ u.get .sw DIR_AGT_STS_CAUSE (i + 1) = 1) ∧
  (∀ (s : State), s.flag .sw CXU_STS_UP = true → (s.flag .sw CXU_STS_IDE_IO || s.flag .sw CXU_STS_IDE_CM) = true → s.hostSlot = none →
    Does (.ideCheckFail) s fun t => t.flag .sw CXU_STS_UP = false) ∧
  (∀ (dec : Nat) (hpa : Nat) (dpa : Nat) (size : Nat) (ways : Nat) (db : Bool) (s : State), s.cxlMem = true → dec < 32 → s.tspLocked = false → s.hdmBad dpa size ways db = false →
    Does (.hdmCommit dec hpa dpa size ways db) s fun t => t.flag .sw CXU_HDM_VIEW_COMMITTED (dec + 1) = true ∧ t.flag .sw CXU_HDM_VIEW_DB (dec + 1) = db ∧ t.get .sw CXU_HDM_VIEW_PARTITION (dec + 1) = dpa / 2 ^ 40 % 2 ^ CXU_HDM_VIEW_PARTITION.w ∧ t.get .sw CXU_HDM_VIEW_FIRST_SLICE (dec + 1) = dpa % 2 ^ 40 / 2 ^ 28 % 2 ^ CXU_HDM_VIEW_FIRST_SLICE.w ∧ Out.hdmCommit dec true ∈ t.out) ∧
  (∀ (path : Path) (v : Bool) (s : State), s.writeOpen path .sw pgCxu 0x40 = true → s.tspLocked = false → v = true →
    Does (.biEnWrite path v) s fun t => t.flag .sw CXU_STS_BI_EN = true) ∧
  (∀ (path : Path) (v : Bool) (s : State), s.writeOpen path .sw pgCxu 0x40 = true → s.tspLocked = false → v = false → s.anyDb = false →
    Does (.biEnWrite path v) s fun t => t.flag .sw CXU_STS_BI_EN = false) ∧
  (∀ (desc : List Byte) (n : Nat) (ns : List Nat) (s : State), s.flag .sw CXU_STS_UP = true → desc.length = 32 → s.flag .sw HDR_PAGE_CTL_FENCE 0 pgCxu = false → lookup s.swc.pageResets pgCxu = none → s.flag .sw CXU_INV_CFG_ENABLE = true → s.invOut < 64 → (bitsOf (leNat desc) 33 1 = 1 ∨ bitsOf (leNat desc) 128 32 ≠ 0) → bitsOf (leNat desc) 34 30 = 0 → bitsOf (leNat desc) 64 21 = 0 → bitsOf (leNat desc) 116 12 = 0 → bitsOf (leNat desc) 160 96 = 0 → s.get .sw PTN_ENTRY_OWNER ((bitsOf (leNat desc) 16 6) + 1) ≠ 1 → s.ptnState (bitsOf (leNat desc) 16 6) = 1 → s.memberSet (bitsOf (leNat desc) 16 6) = n :: ns → (n :: ns).all s.portUpTo = true →
    Does (.invSubmit desc) s fun t => t.sw.invals = s.sw.invals ++ [{ serial := s.sw.cxl.nextInval, tag := bitsOf (leNat desc) 0 16, ptn := (bitsOf (leNat desc) 16 6), waits := n :: ns, unreach := [], at_ := s.now .sw }]) ∧
  (∀ (desc : List Byte) (s : State), s.flag .sw CXU_STS_UP = true → desc.length = 32 → s.flag .sw HDR_PAGE_CTL_FENCE 0 pgCxu = false → lookup s.swc.pageResets pgCxu = none → s.flag .sw CXU_INV_CFG_ENABLE = true → s.invOut < 64 → (bitsOf (leNat desc) 33 1 = 1 ∨ bitsOf (leNat desc) 128 32 ≠ 0) → bitsOf (leNat desc) 34 30 = 0 → bitsOf (leNat desc) 64 21 = 0 → bitsOf (leNat desc) 116 12 = 0 → bitsOf (leNat desc) 160 96 = 0 → s.get .sw PTN_ENTRY_OWNER ((bitsOf (leNat desc) 16 6) + 1) ≠ 1 → s.ptnState (bitsOf (leNat desc) 16 6) = 2 →
    Does (.invSubmit desc) s fun t => t.sw.invals = s.sw.invals ++ [{ serial := s.sw.cxl.nextInval, tag := bitsOf (leNat desc) 0 16, ptn := (bitsOf (leNat desc) 16 6), waits := [], unreach := [], at_ := s.now .sw, done := some (stPARTITION_CLOSING, 0, 0, s.now .sw) }])

/-- O27. Memory-device commands and TSP requests are answered, and downstream ports come up. Each memory-device command of the list and every other one is answered (R376), each TSP request is answered by the state of the target (R389, R390), and a device that passes the checks brings its port up (R392, R396). Each of these commands is shown to end in a next state: identifyMemoryDevice, getSupportedLogs, getLog, getEventRecords, clearEventRecords, getEventInterruptPolicy, setEventInterruptPolicy, getHealthInfo, getTimestamp, setTimestamp, memdevUnsupportedCommand, tspGetVersion, tspGetCapabilities, tspSetConfig, tspLockConfig, tspGetReport, tspRefusedRequest, cxdDeviceDetect, cxdRestart. Rests on R376, R389, R390, R392, R396. -/
def Obligations.HostFunctionRowsComplete : Prop :=
  (∀ (s : State), s.flag .sw CXU_STS_UP = true →
    Does (.identifyMemoryDevice) s fun t => Out.memDev 0 true [s.hostCapacity] ∈ t.out) ∧
  (∀ (s : State), s.flag .sw CXU_STS_UP = true →
    Does (.getSupportedLogs) s fun t => Out.memDev 1 true [1] ∈ t.out) ∧
  (∀ (s : State), s.flag .sw CXU_STS_UP = true →
    Does (.getLog) s fun t => Out.memDev 2 true [0, 1, 2, 3, 4, 5, 6, 7, 8, 9] ∈ t.out) ∧
  (∀ (s : State), s.flag .sw CXU_STS_UP = true →
    Does (.getEventRecords) s fun t => Out.memDev 3 true ((s.sw.cxl.events.map fun e => [e.1, e.2]).flatten) ∈ t.out ∧ t.sw.cxl.events = s.sw.cxl.events) ∧
  (∀ (all : Bool) (handles : List Nat) (s : State), s.flag .sw CXU_STS_UP = true →
    Does (.clearEventRecords all handles) s fun t => ∀ h, lookup t.sw.cxl.events h = if all || handles.contains h then none else lookup s.sw.cxl.events h) ∧
  (∀ (s : State), s.flag .sw CXU_STS_UP = true →
    Does (.getEventInterruptPolicy) s fun t => Out.memDev 5 true [s.sw.cxl.policy] ∈ t.out) ∧
  (∀ (v : Nat) (s : State), s.flag .sw CXU_STS_UP = true →
    Does (.setEventInterruptPolicy v) s fun t => t.sw.cxl.policy = v % 256 ∧ Out.memDev 6 true [] ∈ t.out) ∧
  (∀ (s : State), s.flag .sw CXU_STS_UP = true →
    Does (.getHealthInfo) s fun t => Out.memDev 7 true [s.draw] ∈ t.out) ∧
  (∀ (s : State), s.flag .sw CXU_STS_UP = true →
    Does (.getTimestamp) s fun t => Out.memDev 8 true [if s.sw.cxl.stamp = 0 then 0 else (s.sw.cxl.stamp + (s.now .sw - s.sw.cxl.stampAt) * 40 / 7) % 2 ^ 64] ∈ t.out) ∧
  (∀ (v : Nat) (s : State), s.flag .sw CXU_STS_UP = true →
    Does (.setTimestamp v) s fun t => t.sw.cxl.stamp = v % 2 ^ 64 ∧ t.sw.cxl.stampAt = s.now .sw) ∧
  (∀ (s : State), s.flag .sw CXU_STS_UP = true →
    Does (.memdevUnsupportedCommand) s fun t => Out.memDev 10 false [] ∈ t.out) ∧
  (∀ (s : State), s.flag .sw CXU_STS_UP = true → (lookup s.swc.spdm 0).any (·.2 == 2) = true →
    Does (.tspGetVersion) s fun t => Out.tsp 0 true [] ∈ t.out) ∧
  (∀ (s : State), s.flag .sw CXU_STS_UP = true → (lookup s.swc.spdm 0).any (·.2 == 2) = true →
    Does (.tspGetCapabilities) s fun t => Out.tsp 1 true [] ∈ t.out) ∧
  (∀ (v : Nat) (s : State), s.flag .sw CXU_STS_UP = true → (lookup s.swc.spdm 0).any (·.2 == 2) = true → s.tspLocked = false →
    Does (.tspSetConfig v) s fun t => t.get .sw CXU_STS_TSP = 0 ∧ t.sw.cxl.config = v ∧ Out.tsp 2 true [] ∈ t.out) ∧
  (∀ (s : State), s.flag .sw CXU_STS_UP = true → (lookup s.swc.spdm 0).any (·.2 == 2) = true → s.get .sw CXU_STS_TSP = 0 →
    Does (.tspLockConfig) s fun t => t.get .sw CXU_STS_TSP = 1 ∧ Out.tsp 3 true [] ∈ t.out) ∧
  (∀ (s : State), s.flag .sw CXU_STS_UP = true → (lookup s.swc.spdm 0).any (·.2 == 2) = true →
    Does (.tspGetReport) s fun t => Out.tsp 4 true (((upTo 32).map fun d => [(lookup s.sw.cxl.hpa d).getD 0, (s.rd .sw CXU_HDM_VIEW (d + 1)).toNat]).flatten ++ [s.get .sw CXU_STS_IDE_IO, s.get .sw CXU_STS_IDE_CM, s.get .sw CXU_STS_BI_EN]) ∈ t.out) ∧
  (∀ (s : State), s.flag .sw CXU_STS_UP = true → (lookup s.swc.spdm 0).any (·.2 == 2) = true →
    Does (.tspRefusedRequest) s fun t => Out.tsp 5 false [] ∈ t.out ∧ t.get .sw CXU_STS_TSP = s.get .sw CXU_STS_TSP) ∧
  (∀ (n : Nat) (serial : Nat) (bytes : Nat) (ide : Bool) (width : Nat) (rate : Nat) (s : State), s.cxdMay n = true → 2 ^ 28 ≤ bytes → (s.flag .sw CXD_CFG_IDE_REQUIRE 0 n = false ∨ ide = true) → s.flag .sw CXD_STS_FAULT_HELD 0 n = false → (lookup s.sw.pool.serials n = none ∨ lookup s.sw.pool.serials n = some serial) → s.bulkUp n = false → s.get .sw CXD_STS_FAULT 0 n ≠ 6 →
    Does (.cxdDeviceDetect n 0 serial bytes ide width rate) s fun t => t.bulkUp n = true ∧ lookup t.sw.pool.serials n = some serial) ∧
  (∀ (path : Path) (n : Nat) (serial bytes ide width rate : Nat) (s : State), s.writeOpen path .sw (pgCxd + n) 0x48 = true → lookup s.sw.cxl.devices n = some [0, serial, bytes, ide, width, rate] → s.bulkUp n = false → s.cxdMay n = true → 2 ^ 28 ≤ bytes → (s.flag .sw CXD_CFG_IDE_REQUIRE 0 n = false ∨ ide ≠ 0) → s.flag .sw CXD_STS_FAULT_HELD 0 n = false → (lookup s.sw.pool.serials n = none ∨ lookup s.sw.pool.serials n = some serial) →
    Does (.cxdRestart path n) s fun t => t.bulkUp n = true ∧ lookup t.sw.pool.serials n = some serial)

/-- O28. A change is begun, filled, sealed, signed and ended. BEGIN, the records, SEAL and CANCEL move the change (R417, R419, R421), signatures are gathered, presented and verified (R418, R419), and the window ends it (R419). Each of these commands is shown to end in a next state: dctBegin, dctRecWrite, dctSeal, dctCancel, sigStart, sigDataWrite, sigSubmit, sigVerifyDone, dctWindowExpiry. Rests on R417, R418, R419, R421. -/
def Obligations.StagingRowsComplete : Prop :=
  (∀ (path : Path) (scope : Nat) (s : State), s.writeOpen path .sw pgDct 0x50 = true → s.dctState = 0 → scope % 128 ≤ 65 → s.secHalted .sw = false →
    Does (.dctBegin path scope) s fun t => t.dctState = 1 ∧ t.get .sw DCT_STS_STAGER = partyOf path ∧ t.sw.dct.scope = scope % 128 ∧ t.sw.dct.recs = [] ∧ t.recCount = 0) ∧
  (∀ (path : Path) (x : Word) (s : State), s.writeOpen path .sw pgDct 0x68 = true → s.mayStage path = true → s.get .sw DCT_REC_IDX_INDEX < 1023 → s.recCount < 1024 →
    Does (.dctRecWrite path x) s fun t => lookup t.sw.dct.recs (s.get .sw DCT_REC_IDX_INDEX) = some ((s.rd .sw DCT_REC_W0).toNat + x.toNat * 2 ^ 64) ∧ t.get .sw DCT_REC_IDX_INDEX = s.get .sw DCT_REC_IDX_INDEX + 1 ∧ t.recCount = max s.recCount (s.get .sw DCT_REC_IDX_INDEX + 1)) ∧
  (∀ (path : Path) (s : State), s.writeOpen path .sw pgDct 0x50 = true → s.mayStage path = true → s.recCount ≠ 0 → s.sw.dct.scope < 64 → s.sigNeeded 1 = true → s.sigOk 1 = false →
    Does (.dctSeal path) s fun t => t.dctState = 2 ∧ t.sw.dct.sealedAt = s.now .sw ∧ t.sw.dct.digest = s.changeDigest) ∧
  (∀ (path : Path) (s : State), s.writeOpen path .sw pgDct 0x50 = true → s.dctState ≠ 0 →
    Does (.dctCancel path) s fun t => t.dctState = 0 ∧ t.get .sw DCT_RESULT_STATUS = stABORTED ∧ t.get .sw DCT_RESULT_DETAIL = 11 ∧ t.sw.dct.recs = []) ∧
  (∀ (path : Path) (role : Nat) (s : State), s.writeOpen path .sw pgDct 0xC0 = true → rolePath (role % 2) path = true →
    Does (.sigStart path role) s fun t => (if path = .sideband then t.sw.dct.bufBmc else t.sw.dct.bufHost) = [] ∧ t.get .sw DCT_SIG_CTL_ROLE = role % 2) ∧
  (∀ (path : Path) (x : Word) (s : State), s.writeOpen path .sw pgDct 0xC8 = true → path = .host ∨ path = .sideband →
    Does (.sigDataWrite path x) s fun t => (if path = .sideband then t.sw.dct.bufBmc else t.sw.dct.bufHost) = ((if path = .sideband then s.sw.dct.bufBmc else s.sw.dct.bufHost) ++ leBytes 8 x.toNat).take 7219) ∧
  (∀ (path : Path) (role : Nat) (s : State), s.writeOpen path .sw pgDct 0xC0 = true → rolePath (role % 2) path = true → s.dctState = 2 → s.secHalted .sw = false → s.sigOk (role % 2) = false → s.windowOver = false →
    Does (.sigSubmit path role) s fun t => t.sw.dct.sigs = s.sw.dct.sigs ++ [⟨role % 2, slice (if path = .sideband then s.sw.dct.bufBmc else s.sw.dct.bufHost) 0 7219, s.now .sw⟩] ∧ t.flag .sw DCT_STS_VERIFYING = true) ∧
  (∀ (g : Sig) (rest : List Sig) (s : State), s.secHalted .sw = false → s.sw.dct.sigs = g :: rest → g.role < 2 → s.sigOk g.role = false → s.dctState = 2 → s.sigNeeded (1 - g.role) = true → s.sigOk (1 - g.role) = false → s.get .sw DCT_STS_FAILS < 3 → s.windowOver = false →
    Does (.sigVerifyDone) s fun t => t.sw.dct.sigs = rest ∧ t.sigOk g.role = (Config.sha3 (slice g.bytes 0 2592) == s.keyDigest g.role && Config.mldsaVerify (slice g.bytes 0 2592) s.sw.dct.digest (slice g.bytes 2592 4627)) ∧ t.get .sw DCT_STS_FAILS = s.get .sw DCT_STS_FAILS + b2n (!(Config.sha3 (slice g.bytes 0 2592) == s.keyDigest g.role && Config.mldsaVerify (slice g.bytes 0 2592) s.sw.dct.digest (slice g.bytes 2592 4627)))) ∧
  (∀ (s : State), s.windowOver = true → s.stillArriving = false →
    Does (.dctWindowExpiry) s fun t => t.dctState = 0 ∧ t.get .sw DCT_RESULT_STATUS = stTIMEOUT ∧ t.rd .sw DCT_SEQ = s.rd .sw DCT_SEQ + 1)

/-- O29. Binding sets travel, the image is written, PLDM commands move the firmware, and the common header of a page acts. A set is resent, applied in one step and acknowledged, and the acknowledgement ends the delivery (R407, R422, R423); the image takes the configuration as it stands (R425). PLDM commands update, activate and cancel an image and answer the monitors (R452, R447); SOFT_RESET and FENCE of a page, INT_FORCE, ERR_COUNT and the error log act as their rules say (R497 to R502). Each of these commands is shown to end in a next state: bindingResendTimer, bindingAckReceive, bindingSetReceive, imageWriteDone, pageSoftReset, softResetDone, pageFence, intForceWrite, errCountWrite, errLogClear, errLog3Read, pldmFwUpdate, pldmActivateFirmware, pldmCancelUpdate, pldmMonitoring. Rests on R407, R422, R423, R425, R447, R452, R497, R500, R501, R502. -/
def Obligations.BindingRowsComplete : Prop :=
  (∀ (n : Nat) (d : Delivery) (s : State), lookup s.sw.dct.pend n = some d → s.due .sw d.at_ 175000 = true → s.secHalted .sw = false →
    Does (.bindingResendTimer n) s fun t => Out.binding n (s.partnerOf n) (s.rd .sw DCT_SEQ) (s.epSet (s.partnerOf n)).ctxs (s.epSet (s.partnerOf n)).mask ∈ t.out ∧ (lookup t.sw.dct.pend n).map (·.at_) = some (s.now .sw)) ∧
  (∀ (n : Nat) (s : State), (lookup s.sw.dct.pend n).isSome = true →
    Does (.bindingAckReceive n) s fun t => t.sw.dct.pend = removeAt s.sw.dct.pend n ∧ t.get .sw DCT_PEND_DELIVERED = min (s.get .sw DCT_PEND_DELIVERED + 1) (2 ^ DCT_PEND_DELIVERED.w - 1)) ∧
  (∀ (link : Nat) (sid : Nat) (seq : Word) (ctxs : List (Nat × Word)) (mask : Word) (digest : List Byte) (s : State), s.ep.rly.mesh = false → link = 0 → s.stage .ep 0 = 5 → (upTo 8).any (fun k => s.rd .ep (SEC_PEER.word k) 1 != 0) = true → (upTo 8).all (fun k => s.rd .ep (SEC_PEER.word k) 1 == BitVec.ofNat 64 (natAt digest (8 * k) 8)) = true →
    Drives (.bindingSetReceive link sid seq ctxs mask digest) s fun u => u.rd .ep CTX_PTN_MASK = mask ∧ u.rd .ep CTX_APPLIED_SEQ = seq ∧ u.ep.rly.bound = true ∧ Out.bindingAck link seq ∈ u.out) ∧
  (∀ (s : State), s.flag .sw DCT_STS_IMG_STALE = true → s.secHalted .sw = false →
    Does (.imageWriteDone) s fun t => t.sw.dct.image = some s.config ∧ t.flag .sw DCT_STS_IMG_STALE = false) ∧
  (∀ (path : Path) (p : Part) (page : Nat) (s : State), s.writeOpen path p page 0x08 = true → s.flag p HDR_PAGE_CTL_FENCE 0 page = false → resetRefused (pageCode p page) = false →
    Does (.pageSoftReset path p page) s fun t => lookup (t.chip p).pageResets page = some (s.now p)) ∧
  (∀ (p : Part) (page : Nat) (s : State),
    Does (.softResetDone p page) s fun t => (t.chip p).pageResets = removeAt (s.chip p).pageResets page) ∧
  (∀ (path : Path) (p : Part) (page : Nat) (s : State), s.writeOpen path p page 0x08 = true →
    Does (.pageFence path p page) s fun t => t.flag p HDR_PAGE_CTL_FENCE 0 page = true) ∧
  (∀ (path : Path) (p : Part) (page : Nat) (x : Word) (s : State), s.writeOpen path p page 0x18 = true →
    Does (.intForceWrite path p page x) s fun t => t.rd p HDR_INT_CAUSE 0 page = s.rd p HDR_INT_CAUSE 0 page ||| BitVec.ofNat 64 (getBits x 0 32) ∧ (t.chip p).log = (s.chip p).log) ∧
  (∀ (path : Path) (p : Part) (page : Nat) (x : Word) (s : State), s.writeOpen path p page 0x28 = true →
    Does (.errCountWrite path p page x) s fun t => t.get p HDR_ERR_COUNT_COUNT 0 page = getBits x 0 32 ∧ t.flag p HDR_ERR_FIRST_VALID 0 page = false) ∧
  (∀ (path : Path) (p : Part) (s : State), s.writeOpen path p pgErr 0x48 = true →
    Does (.errLogClear path p) s fun t => (t.chip p).log = [] ∧ t.get p ERR_LOG_STS_DROPS = 0) ∧
  (∀ (path : Path) (p : Part) (s : State), pathServes path p = true → path ≠ .remote →
    Does (.errLog3Read path p) s fun t => (t.chip p).log = (s.chip p).log.drop 1 ∧ Out.regDone p path stOK (s.logWord3 p) ∈ t.out) ∧
  (∀ (len : Nat) (s : State), s.swc.standbyUp = true → s.pldmServes true = none → s.sw.fw.staging = none →
    Does (.pldmFwUpdate len) s fun t => t.sw.fw.staging = some (1, len) ∧ t.flag .sw MGT_FW_STS_STAGE_BUSY = true) ∧
  (∀ (slot : Nat) (s : State), s.swc.standbyUp = true → s.pldmServes true = none → s.actState = 0 ∨ s.actState = 5 → lookup s.sw.fw.staged 2 = some slot → s.get .sw PWR_STS_LEVEL = 0 →
    Does (.pldmActivateFirmware) s fun t => t.actState = 2 ∧ Out.pldm 3 0 [stOK] ∈ t.out) ∧
  (∀ (s : State), s.swc.standbyUp = true → s.mainServes = true → s.cpuUp 3 = true → s.actState = 1 ∨ s.actState = 2 →
    Does (.pldmCancelUpdate) s fun t => t.actState = 0 ∧ Out.pldm 4 0 [stOK] ∈ t.out) ∧
  (∀ (s : State), s.swc.standbyUp = true → s.mainServes = true → s.cpuServes 3 = true ∨ s.flag .sw MGT_CORE_STS_RECOVERY = true →
    Does (.pldmMonitoring) s fun t => Out.pldm 1 0 ([b2n s.swc.tripLow, s.get .sw PWR_TEMP_DIE_MAX, s.get .sw PWR_DRAW_NOW, s.get .sw PWR_STS_LEVEL] ++ (s.portList .sw).map s.portState) ∈ t.out) ∧
  (∀ (s : State), s.swc.standbyUp = true → s.mainServes = false →
    Does (.pldmMonitoring) s fun t => Out.pldm 1 0 [b2n s.swc.tripLow] ∈ t.out)

/-- O30. SPDM requests are answered in the order of the negotiation. Each request of R402 that comes at its place in the negotiation and session is answered and moves it on; measurements are those that stand (R403). Each of these commands is shown to end in a next state: spdmGetVersion, spdmGetCapabilities, spdmNegotiateAlgorithms, spdmGetDigests, spdmGetCertificate, spdmChallenge, spdmGetMeasurements, spdmKeyExchange, spdmFinish, spdmEndSession. Rests on R402, R403. -/
def Obligations.IdentityRowsComplete : Prop :=
  (∀ (p : Part) (who : Nat) (s : State), s.spdmReach p who = true → s.get p SEC_STS_LIFECYCLE ≠ 2 → s.secHalted p = false → (s.chip p).inReset = false → (who ≠ 1 ∨ s.mainServes = true) →
    Does (.spdmGetVersion p who) s fun t => t.spdmAt p who = (1, 0) ∧ Out.spdm p who 0 0 ([0x14]) ∈ t.out) ∧
  (∀ (p : Part) (who : Nat) (s : State), s.spdmReach p who = true → s.get p SEC_STS_LIFECYCLE ≠ 2 → s.secHalted p = false → (s.chip p).inReset = false → (who ≠ 1 ∨ s.mainServes = true) → 1 ≤ (s.spdmAt p who).1 →
    Does (.spdmGetCapabilities p who) s fun t => t.spdmAt p who = (2, 0) ∧ Out.spdm p who 1 0 ([]) ∈ t.out) ∧
  (∀ (p : Part) (who : Nat) (s : State), s.spdmReach p who = true → s.get p SEC_STS_LIFECYCLE ≠ 2 → s.secHalted p = false → (s.chip p).inReset = false → (who ≠ 1 ∨ s.mainServes = true) → 2 ≤ (s.spdmAt p who).1 →
    Does (.spdmNegotiateAlgorithms p who) s fun t => t.spdmAt p who = (3, 0) ∧ Out.spdm p who 2 0 ([]) ∈ t.out) ∧
  (∀ (p : Part) (who : Nat) (s : State), s.spdmReach p who = true → s.get p SEC_STS_LIFECYCLE ≠ 2 → s.secHalted p = false → (s.chip p).inReset = false → (who ≠ 1 ∨ s.mainServes = true) → 3 ≤ (s.spdmAt p who).1 → s.flag p SEC_STS_ALIAS_READY = true →
    Does (.spdmGetDigests p who) s fun t => Out.spdm p who 3 0 (Config.sha3 (s.chain p)) ∈ t.out) ∧
  (∀ (p : Part) (who : Nat) (offset : Nat) (length : Nat) (s : State), s.spdmReach p who = true → s.get p SEC_STS_LIFECYCLE ≠ 2 → s.secHalted p = false → (s.chip p).inReset = false → (who ≠ 1 ∨ s.mainServes = true) → 3 ≤ (s.spdmAt p who).1 → s.flag p SEC_STS_ALIAS_READY = true →
    Does (.spdmGetCertificate p who 0 offset length) s fun t => Out.spdm p who 4 0 (((s.chain p).drop offset).take length) ∈ t.out) ∧
  (∀ (p : Part) (who : Nat) (nonce : List Byte) (s : State), s.spdmReach p who = true → s.get p SEC_STS_LIFECYCLE ≠ 2 → s.secHalted p = false → (s.chip p).inReset = false → (who ≠ 1 ∨ s.mainServes = true) → 3 ≤ (s.spdmAt p who).1 → s.flag p SEC_STS_ALIAS_READY = true →
    Does (.spdmChallenge p who 0 nonce) s fun t => Out.spdm p who 5 0 (Config.sha3 (s.chain p) ++ s.sign p (Config.sha3 (nonce ++ Config.sha3 (s.chain p)))) ∈ t.out) ∧
  (∀ (p : Part) (who : Nat) (raw : Bool) (nonce : List Byte) (n : Nat) (s : State), s.spdmReach p who = true → s.get p SEC_STS_LIFECYCLE ≠ 2 → s.secHalted p = false → (s.chip p).inReset = false → (who ≠ 1 ∨ s.mainServes = true) → 3 ≤ (s.spdmAt p who).1 → s.flag p SEC_STS_ALIAS_READY = true → n < 8 → (s.measure p n).isSome = true →
    Does (.spdmGetMeasurements p who ((n + 1)) raw nonce) s fun t => Out.spdm p who 6 0 (s.reportBlock p raw n ++ s.sign p (Config.sha3 (nonce ++ s.reportBlock p raw n))) ∈ t.out) ∧
  (∀ (p : Part) (who : Nat) (exchange : List Byte) (s : State), s.spdmReach p who = true → s.get p SEC_STS_LIFECYCLE ≠ 2 → s.secHalted p = false → (s.chip p).inReset = false → (who ≠ 1 ∨ s.mainServes = true) → 3 ≤ (s.spdmAt p who).1 → s.flag p SEC_STS_ALIAS_READY = true →
    Does (.spdmKeyExchange p who exchange) s fun t => (t.spdmAt p who) = (3, 1) ∧ Out.spdm p who 7 0 (slice (Config.kemCipher exchange s.free) 0 1568 ++ s.drawn.sign p (Config.sha3 (exchange ++ slice (Config.kemCipher exchange s.free) 0 1568))) ∈ t.out) ∧
  (∀ (p : Part) (who : Nat) (s : State), s.spdmReach p who = true → s.get p SEC_STS_LIFECYCLE ≠ 2 → s.secHalted p = false → (s.chip p).inReset = false → (who ≠ 1 ∨ s.mainServes = true) → 3 ≤ (s.spdmAt p who).1 → (s.spdmAt p who).2 = 1 → s.flag p SEC_STS_ALIAS_READY = true →
    Does (.spdmFinish p who true) s fun t => t.spdmAt p who = (3, 2) ∧ Out.spdm p who 8 0 ([]) ∈ t.out) ∧
  (∀ (p : Part) (who : Nat) (s : State), s.spdmReach p who = true → s.get p SEC_STS_LIFECYCLE ≠ 2 → s.secHalted p = false → (s.chip p).inReset = false → (who ≠ 1 ∨ s.mainServes = true) → 3 ≤ (s.spdmAt p who).1 → (s.spdmAt p who).2 = 2 → s.flag p SEC_STS_ALIAS_READY = true →
    Does (.spdmEndSession p who) s fun t => t.spdmAt p who = (3, 0) ∧ Out.spdm p who 9 0 ([]) ∈ t.out)

/-- O31. The control cores and the session of the host run, and the side-band port answers. Watchdogs expire and cores resume (R433, R434), HELLO, GOODBYE, reclaiming and the heartbeat move the session of the host (R437 to R440), and the side-band port takes its address and answers (R448, R449). Each of these commands is shown to end in a next state: watchdogExpiry, wdtPet, secWatchdogExpiry, coreRestartDone, hello, goodbye, ctxReclaim, ctxReset, hbBeat, hbWindowClose, contextQuiesce, i3cAddressAssign, mctpControl. Rests on R433, R434, R437, R438, R439, R440, R448, R449. -/
def Obligations.CoreAndSessionRowsComplete : Prop :=
  (∀ (c : Nat) (s : State), c < 4 → c ≠ 1 → s.cpuUp c = true → s.due .sw ((lookup s.sw.fw.pets c).getD 0) (s.get .sw MGT_WDT_CFG_TIMEOUT) = true → s.sw.fw.trials = [] → lookup s.sw.fw.expiries c = none → s.sw.fw.staging = none → s.flag .sw MGT_MB_STS_BUSY = false →
    Does (.watchdogExpiry c) s fun t => t.cpuState c = 2 ∧ lookup t.sw.fw.expiries c = some [s.now .sw] ∧ t.get .sw MGT_WDT_EVT_TICK = s.now .sw % 2 ^ 32) ∧
  (∀ (c : Nat) (s : State), c = 2 → s.cpuUp c = true → s.due .sw ((lookup s.sw.fw.pets c).getD 0) (s.get .sw MGT_WDT_CFG_TIMEOUT) = true → s.sw.fw.trials = [] → 2 ≤ (((lookup s.sw.fw.expiries c).getD []).filter fun t => s.now .sw < t + 175000000).length →
    Does (.watchdogExpiry c) s fun t => t.cpuState c = 3) ∧
  (∀ (c : Nat) (mask : Nat) (s : State), s.wdtLate c = false → c < 4 → mask.testBit c = true → s.cpuUp c = true →
    Does (.wdtPet c mask) s fun t => lookup t.sw.fw.pets c = some (s.now .sw)) ∧
  (∀ (s : State), s.get .sw MGT_CORE_STS_SECURITY = 1 →
    Does (.secWatchdogExpiry .sw) s fun t => t.secHalted .sw = true) ∧
  (∀ (s : State), s.ep.secHalted = false → s.epc.inReset = false → 3 ≤ s.epc.step →
    Does (.secWatchdogExpiry .ep) s fun t => t.ep.secHalted = true) ∧
  (∀ (c : Nat) (s : State), c < 4 → c ≠ 0 → s.cpuState c = 2 → s.actState ≠ 3 →
    Does (.coreRestartDone c) s fun t => t.cpuState c = 1 ∧ lookup t.sw.fw.pets c = some (s.now .sw)) ∧
  (∀ (s : State), s.writeOpen .host .sw pgMgt 0x80 = true → s.flag .sw MGT_MB_STS_BUSY = false → s.cpuServes 3 = true → s.hbFresh = s → bitsOf (s.mbReq 0) 16 16 = imgMajor s.firmware →
    Does (.hello) s fun t => t.inSession = true ∧ t.get .sw MGT_HB_STS_SESSION = (s.sw.fw.session + 1) % 2 ^ 32 ∧ t.rd .sw MGT_FEAT = BitVec.ofNat 64 (s.mbReq 1 &&& imgFeatures s.firmware) ∧ t.get .sw MGT_MB_STS_STATUS = stOK) ∧
  (∀ (s : State), s.writeOpen .host .sw pgMgt 0x80 = true → s.flag .sw MGT_MB_STS_BUSY = false → s.cpuServes 3 = true → s.hbFresh = s → s.inSession = true →
    Does (.goodbye) s fun t => t.inSession = false ∧ t.flag .sw MGT_HB_STS_ORPHANED = true ∧ t.sw.fw.beats = none ∧ t.get .sw MGT_MB_STS_STATUS = stOK) ∧
  (∀ (cs : List Nat) (s : State), s.writeOpen .host .sw pgMgt 0x80 = true → s.flag .sw MGT_MB_STS_BUSY = false → s.cpuServes 3 = true → s.hbFresh = s → s.inSession = true → (s.rd .sw MGT_FEAT).getLsbD 0 = true → s.reclaimList = some cs → cs.all (fun c => s.flag .sw CTX_STS_QUIESCED (c + 1)) = true →
    Does (.ctxReclaim) s fun t => ∀ c ∈ cs, t.orphaned c = false ∧ t.get .sw MGT_MB_STS_STATUS = stOK) ∧
  (∀ (cs : List Nat) (s : State), s.writeOpen .host .sw pgMgt 0x80 = true → s.flag .sw MGT_MB_STS_BUSY = false → s.cpuServes 3 = true → s.hbFresh = s → s.inSession = true → (s.rd .sw MGT_FEAT).getLsbD 0 = true → s.reclaimList = some cs → cs.all (fun c => s.flag .sw CTX_STS_QUIESCED (c + 1)) = true →
    Does (.ctxReset) s fun t => ∀ c ∈ cs, t.orphaned c = false ∧ ∀ e ∈ t.sw.svc.progs, e.2.ctx ∉ cs ∧ t.get .sw MGT_MB_STS_STATUS = stOK) ∧
  (∀ (id : Nat) (s : State), s.writeOpen .host .sw pgMgt 0x58 = true → s.hbFresh = s → s.inSession = true → id = s.get .sw MGT_HB_STS_SESSION →
    Does (.hbBeat .host id) s fun t => t.sw.fw.beats = s.sw.fw.beats.map fun b => (b.1, b.2.1, true)) ∧
  (∀ (at_ len : Nat) (beat : Bool) (s : State), s.sw.fw.beats = some (at_, len, beat) → s.due .sw at_ len = true → (beat = true ∨ s.get .sw MGT_HB_STS_MISSES < 2) →
    Does (.hbWindowClose) s fun t => t.sw.fw.beats = some (at_ + len, s.get .sw MGT_HB_CFG_PERIOD, false) ∧ t.get .sw MGT_HB_STS_MISSES = if beat then 0 else s.get .sw MGT_HB_STS_MISSES + 1) ∧
  (∀ (s : State), s.sw.hrd.herds = [] → s.sw.pool.queue = [] → s.sw.pool.gathers = [] → s.sw.pool.recalls = [] → s.swc.sync.waits = [] →
    Does (.contextQuiesce) s fun t => ∀ c ∈ s.hostCtxs, s.orphaned c = true → t.flag .sw CTX_STS_QUIESCED (c + 1) = true) ∧
  (∀ (addr : Nat) (s : State), s.swc.standbyUp = true → s.flag .sw SBP_CFG_I3C_EN = true →
    Does (.i3cAddressAssign addr) s fun t => t.get .sw SBP_STS_MODE = 2 ∧ t.get .sw SBP_STS_DYN_ADDR = addr % 2 ^ SBP_STS_DYN_ADDR.w) ∧
  (∀ (s : State), s.swc.standbyUp = true →
    Does (.mctpControl true) s fun t => Out.pldm 0 0 [] ∈ t.out ∧ t.get .sw SBP_COUNTS_MESSAGES = min (s.get .sw SBP_COUNTS_MESSAGES + 1) (2 ^ SBP_COUNTS_MESSAGES.w - 1))

/-- O32. The images of the firmware are staged, activated, confirmed and given up. An image is staged, activated at a safe point, confirmed or given up, by the mailbox and by the register (R444 to R447). Each of these commands is shown to end in a next state: fwStage, fwActivate, fwCancel, fwConfirm, fwConfirmWrite, trialConfirmTimer, stagingDone, activationP0WaitExpiry, safePointReached, safePointTimeout, imageRestartDone, imageRestartTimeout. Rests on R444, R445, R447. -/
def Obligations.ImageRowsComplete : Prop :=
  (∀ (s : State), s.writeOpen .host .sw pgMgt 0x80 = true → s.flag .sw MGT_MB_STS_BUSY = false → s.cpuServes 3 = true → s.hbFresh = s → s.inSession = true → (s.rd .sw MGT_FEAT).getLsbD 1 = true → s.sw.fw.staging = none →
    Does (.fwStage) s fun t => t.sw.fw.staging = some (0, bitsOf (s.mbReq 1) 0 32) ∧ t.flag .sw MGT_FW_STS_STAGE_BUSY = true ∧ t.flag .sw MGT_MB_STS_BUSY = true) ∧
  (∀ (slot : Nat) (s : State), s.writeOpen .host .sw pgMgt 0x80 = true → s.flag .sw MGT_MB_STS_BUSY = false → s.cpuServes 3 = true → s.hbFresh = s → s.inSession = true → (s.rd .sw MGT_FEAT).getLsbD 1 = true → s.actState = 0 ∨ s.actState = 5 → lookup s.sw.fw.staged 2 = some slot → s.get .sw PWR_STS_LEVEL = 0 →
    Does (.fwActivate) s fun t => t.actState = 2 ∧ t.get .sw MGT_MB_STS_STATUS = stOK) ∧
  (∀ (slot : Nat) (s : State), s.writeOpen .host .sw pgMgt 0x80 = true → s.flag .sw MGT_MB_STS_BUSY = false → s.cpuServes 3 = true → s.hbFresh = s → s.inSession = true → (s.rd .sw MGT_FEAT).getLsbD 1 = true → s.actState = 0 ∨ s.actState = 5 → lookup s.sw.fw.staged 2 = some slot → s.get .sw PWR_STS_LEVEL ≠ 0 →
    Does (.fwActivate) s fun t => t.actState = 1 ∧ t.get .sw MGT_MB_STS_STATUS = stHELD) ∧
  (∀ (s : State), s.writeOpen .host .sw pgMgt 0x80 = true → s.flag .sw MGT_MB_STS_BUSY = false → s.cpuUp 3 = true → s.hbFresh = s → s.inSession = true → (s.rd .sw MGT_FEAT).getLsbD 1 = true → s.actState = 1 ∨ s.actState = 2 →
    Does (.fwCancel) s fun t => t.actState = 0 ∧ t.get .sw MGT_MB_STS_STATUS = stOK) ∧
  (∀ (slot at_ : Nat) (s : State), s.writeOpen .host .sw pgMgt 0x80 = true → s.flag .sw MGT_MB_STS_BUSY = false → s.cpuServes 3 = true → s.hbFresh = s → s.inSession = true → (s.rd .sw MGT_FEAT).getLsbD 1 = true → s.sw.fw.trials = [(2, at_)] → lookup s.sw.fw.running 2 = some slot → s.actState = 4 →
    Does (.fwConfirm) s fun t => t.sw.fw.trials = [] ∧ lookup t.sw.fw.active 2 = some slot ∧ t.actState = 0) ∧
  (∀ (slot at_ : Nat) (s : State), s.writeOpen .sideband .sw pgMgt 0x98 = true → s.sw.fw.trials = [(2, at_)] → lookup s.sw.fw.running 2 = some slot → s.actState = 4 →
    Does (.fwConfirmWrite) s fun t => t.sw.fw.trials = [] ∧ lookup t.sw.fw.active 2 = some slot ∧ t.actState = 0) ∧
  (∀ (slot at_ : Nat) (s : State), s.flag .sw MGT_FW_CFG_MANUAL_CONFIRM = false → s.due .sw at_ 10500000000 = true → s.sw.fw.trials = [(2, at_)] → lookup s.sw.fw.running 2 = some slot → s.actState = 4 →
    Does (.trialConfirmTimer) s fun t => t.sw.fw.trials = [] ∧ lookup t.sw.fw.active 2 = some slot ∧ t.actState = 0) ∧
  (∀ (img : List Byte) (who len : Nat) (s : State), s.sw.fw.staging = some (who, len) → s.secHalted .sw = false → natAt img 4 1 = 2 → img.take 4 = asciiBytes "TRJO" → img.length ≤ 12 * 2 ^ 20 → len ≤ 12 * 2 ^ 20 → lookup s.sw.fw.trials 2 = none → s.actState = 0 →
    Does (.stagingDone img) s fun t => t.sw.fw.staging = none ∧ lookup t.sw.fw.flash (2 * 2 + (1 - s.activeSlot 2)) = some img ∧ lookup t.sw.fw.staged 2 = (if imgSigned img ∧ s.fusedSvn 2 ≤ imgSvn img then some (1 - s.activeSlot 2) else none) ∧ t.get .sw MGT_FW_STS_STAGE_STATUS = (if imgSigned img = false then stINTEGRITY else if imgSvn img < s.fusedSvn 2 then stPERMISSION else stOK)) ∧
  (∀ (s : State), s.actState = 1 → s.get .sw PWR_STS_LEVEL = 0 → s.due .sw s.sw.core.p0From 175000000 = true →
    Does (.activationP0WaitExpiry) s fun t => t.actState = 2) ∧
  (∀ (slot : Nat) (s : State), s.actState = 2 → s.due .sw s.sw.fw.actAt 175000000 = false → s.safePoint = true → s.sw.hrd.running = none → lookup s.sw.fw.staged 2 = some slot →
    Does (.safePointReached) s fun t => t.actState = 3 ∧ lookup t.sw.fw.running 2 = some slot ∧ ∀ c, c < 4 → t.cpuState c = 2) ∧
  (∀ (s : State), s.actState = 2 → s.due .sw s.sw.fw.actAt 175000000 = true →
    Does (.safePointTimeout) s fun t => t.actState = 1) ∧
  (∀ (slot : Nat) (s : State), s.actState = 3 → s.due .sw s.sw.fw.actAt 175000000 = false → lookup s.sw.fw.staged 2 = some slot →
    Does (.imageRestartDone) s fun t => lookup t.sw.fw.running 2 = lookup s.sw.fw.running 2 ∧ lookup t.sw.fw.trials 2 = some (s.now .sw) ∧ t.actState = 4) ∧
  (∀ (s : State), s.actState = 3 → s.due .sw s.sw.fw.actAt 175000000 = true →
    Does (.imageRestartTimeout) s fun t => lookup t.sw.fw.running 2 = some (s.activeSlot 2) ∧ t.sw.fw.trials = [] ∧ t.actState = 5)

/-- O33. A pool request that fails a check gets the status of the first check that fails, and nothing else happens. For READ, WRITE, atomics, READ_SHARED, READ_OWN, UPGRADE, GATHER and SCATTER_ADD in pool space: with the first failing check of R57 the switch does nothing but answer that status (the marks of R258 apart). Rests on R57. -/
def Obligations.PoolRequestsCheckedInOrder : Prop :=
  (∀ (k : Packet) (media : List (Nat × Bool)) (sid p off v : Nat) (s : State), placeOf k.addr = .pool sid p off → crcOk k = true → s.accepted k = false → (nonIdempotent k = true → s.outcomeOf .sw k = none) → inBlock off k.len = true → firstFailing (s.poolChecks k sid p off k.len) = some v →
    Does (.poolRead k media) s fun t => t = ((s.decayed media).consume .sw k).swAnswer k v) ∧
  (∀ (k : Packet) (media : List (Nat × Bool)) (sid p off v : Nat) (s : State), placeOf k.addr = .pool sid p off → crcOk k = true → s.accepted k = false → (nonIdempotent k = true → s.outcomeOf .sw k = none) → inBlock off k.len = true → firstFailing (s.poolChecks k sid p off k.len) = some v →
    Does (.poolWrite k media) s fun t => t = ((s.decayed media).consume .sw k).swAnswer k v) ∧
  (∀ (k : Packet) (media : List (Nat × Bool)) (sid p off v : Nat) (s : State), placeOf k.addr = .pool sid p off → crcOk k = true → s.accepted k = false → (nonIdempotent k = true → s.outcomeOf .sw k = none) → inBlock off (max ((atomicSize k.op k.len).getD 0) 1) = true → firstFailing (s.poolChecks k sid p off (max ((atomicSize k.op k.len).getD 0) 1)) = some v →
    Does (.poolAtomic k media) s fun t => t = ((s.decayed media).consume .sw k).swAnswer k v) ∧
  (∀ (k : Packet) (sid p off v : Nat) (s : State), placeOf k.addr = .pool sid p off → crcOk k = true → s.accepted k = false → (nonIdempotent k = true → s.outcomeOf .sw k = none) → inBlock off 128 = true → firstFailing (s.poolChecks k sid p off 128) = some v →
    Does (.readShared k) s fun t => t = (s.consume .sw k).swAnswer k v) ∧
  (∀ (k : Packet) (sid p off v : Nat) (s : State), placeOf k.addr = .pool sid p off → crcOk k = true → s.accepted k = false → (nonIdempotent k = true → s.outcomeOf .sw k = none) → inBlock off 128 = true → firstFailing (s.poolChecks k sid p off 128) = some v →
    Does (.readOwn k) s fun t => t = (s.consume .sw k).swAnswer k v) ∧
  (∀ (k : Packet) (sid p off v : Nat) (s : State), placeOf k.addr = .pool sid p off → crcOk k = true → s.accepted k = false → (nonIdempotent k = true → s.outcomeOf .sw k = none) → inBlock off 128 = true → firstFailing (s.poolChecks k sid p off 128) = some v →
    Does (.upgrade k) s fun t => t = (s.consume .sw k).swAnswer k v) ∧
  (∀ (k : Packet) (sid p off v : Nat) (s : State), placeOf k.addr = .pool sid p off → crcOk k = true → s.accepted k = false → (nonIdempotent k = true → s.outcomeOf .sw k = none) → firstFailing (s.poolChecks k sid p off 0) = some v →
    Does (.gatherRequest k) s fun t => t = (s.consume .sw k).swAnswer k v) ∧
  (∀ (k : Packet) (sid p off v : Nat) (s : State), placeOf k.addr = .pool sid p off → crcOk k = true → s.accepted k = false → (nonIdempotent k = true → s.outcomeOf .sw k = none) → firstFailing (s.poolChecks k sid p off 0) = some v →
    Does (.scatterAddRequest k) s fun t => t = (s.consume .sw k).swAnswer k v)

/-- O34. A window request that fails a check completes with the status of the first one and never touches memory; invalidations end. With the link to the accelerator up, the first failing check of R54 down to the permission of R52 decides the status; the request is answered and nothing is asked of the accelerator; a header partition that differs is counted. An invalidation is acknowledged or times out (R62, R386) and its record is written to the ring of the host (R387). Each of these commands is shown to end in a next state: windowRequest, invalAckReceive, invalTimeout, invRecordWrite. Rests on R54, R62, R386, R387. -/
def Obligations.WindowRequestsRejectedInOrder : Prop :=
  (∀ (k : Packet) (n w off v : Nat) (s : State), s.uciUp = true → crcOk k = true → placeOf k.addr = .window n w off → inBlock off (touched k) = true → (isAtomic k.op = true → off % touched k = 0) → (nonIdempotent k = true → s.outcomeOf .ep k = none ∧ s.ep.ag.wins.any (fun x => x.pkt.src == k.src && x.pkt.tag == k.tag) = false) → firstFailing (s.windowChecks k w off) = some v →
    Does (.windowRequest k) s fun t => t = ((s.consume .ep k).when (decide (v = stPERMISSION ∧ s.get .ep WIN_WIN_CTL_PARTITION (w + 1) ≠ k.ptn)) fun s => s.count .ep HDR_ERR_COUNT_COUNT 1 0 pgWin).reply .ep k v) ∧
  (∀ (k : Packet) (v : Inval) (s : State), k.mark = false → crcOk k = true → s.sw.invals.find? (fun v => v.serial == k.tag && v.done.isNone && v.waits.contains k.src) = some v → s.invalLate v = false → v.waits.filter (· != k.src) ≠ [] →
    Does (.invalAckReceive k) s fun t => t.sw.invals = s.sw.invals.map fun x => if x.serial == v.serial then { v with waits := v.waits.filter (· != k.src) } else x) ∧
  (∀ (k : Packet) (v : Inval) (s : State), k.mark = false → crcOk k = true → s.sw.invals.find? (fun v => v.serial == k.tag && v.done.isNone && v.waits.contains k.src) = some v → s.invalLate v = false → v.waits.filter (· != k.src) = [] → v.silent = false →
    Does (.invalAckReceive k) s fun t => (t.sw.invals.find? fun x => x.serial == v.serial).map (·.done) = some (some ((if v.unreach.isEmpty then stOK else stUNREACHABLE), v.unreach.length, lowest v.unreach, s.now .sw))) ∧
  (∀ (serial : Nat) (v : Inval) (s : State), s.sw.invals.find? (fun v => v.serial == serial && v.done.isNone) = some v → v.silent = false → s.due .sw v.at_ (s.get .sw CXU_INV_TMO_TICKS) = true →
    Does (.invalTimeout serial) s fun t => (t.sw.invals.find? fun x => x.serial == v.serial).map (·.done) = some (some (stTIMEOUT, (v.waits ++ v.unreach).length, lowest (v.waits ++ v.unreach), s.now .sw))) ∧
  (∀ (v : Inval) (st miss low at_ : Nat) (s : State), s.sw.invals = [v] → v.done = some (st, miss, low, at_) → s.invRoom = true → s.flag .sw CXU_STS_UP = true →
    Does (.invRecordWrite) s fun t => Out.hostDma (s.get .sw CXU_INV_RING_BASE_BASE * 4096 + 16 * (s.get .sw CXU_INV_PROD_INDEX % s.invRing)) (invRecord v.tag st miss low at_ (1 - s.get .sw CXU_INV_PROD_INDEX / s.invRing % 2)) ∈ t.out ∧ t.sw.invals = [] ∧ t.get .sw CXU_INV_PROD_INDEX = (s.get .sw CXU_INV_PROD_INDEX + 1) % 2 ^ CXU_INV_PROD_INDEX.w)

/-- O35. A register write that is refused changes nothing but the record of the refusal. On the CSR and side-band paths: a write to a page under FENCE (R502), to a register of 8 bytes by 4 (R495), and to an absent page or of a bad size leaves the state as it was but for the record in ERR_FIRST where the rules ask for one (R494, R498), and completes with its status; a read of an absent register reads zero and changes nothing. Rests on R494, R495, R498, R502, R533. -/
def Obligations.RefusedRegisterWritesOnlyRecord : Prop :=
  (∀ (page : Nat) (off : Nat) (size : Nat) (x : Word) (s : State), size = 4 → off % 4 = 0 → 0x40 ≤ off → off < 4096 → pageMapped .ep page = true → hostOnly .ep page off = false → sidebandOnly .ep page off = false → s.flag .ep HDR_PAGE_CTL_FENCE 0 page = true →
    Does (.csr true page off size x) s fun t => t = (s.refuse .ep page).regDone .ep .csr stPERMISSION) ∧
  (∀ (page : Nat) (off : Nat) (size : Nat) (x : Word) (l : RegPlace) (s : State), size = 4 → off % 4 = 0 → off < 4096 → s.writeOpen .csr .ep page off = true → placeAt .ep page off = some l → l.desc.wide = true →
    Does (.csr true page off size x) s fun t => t = (s.refuse .ep page).regDone .ep .csr stPERMISSION) ∧
  (∀ (page : Nat) (off : Nat) (size : Nat) (x : Word) (s : State), sizeOk off size = true → pageMapped .ep page = false →
    Does (.csr true page off size x) s fun t => t = s.regDone .ep .csr stPERMISSION) ∧
  (∀ (write : Bool) (page : Nat) (off : Nat) (size : Nat) (x : Word) (s : State), sizeOk off size = false →
    Does (.csr write page off size x) s fun t => t = s.regDone .ep .csr stUNSUPPORTED) ∧
  (∀ (page : Nat) (off : Nat) (size : Nat) (x : Word) (s : State), size = 4 → off % 4 = 0 → off < 4096 → pageMapped .ep page = true → placeAt .ep page off = none →
    Does (.csr false page off size x) s fun t => t = s.regDone .ep .csr stOK 0) ∧
  (∀ (page : Nat) (off : Nat) (size : Nat) (x : Word) (s : State), s.mainServes = true → size = 4 → off % 4 = 0 → 0x40 ≤ off → off < 4096 → pageMapped .sw page = true → hostOnly .sw page off = false → s.flag .sw HDR_PAGE_CTL_FENCE 0 page = true →
    Does (.sbRegisterAccess true page off size x) s fun t => t = (s.refuse .sw page).regDone .sw .sideband stPERMISSION) ∧
  (∀ (page : Nat) (off : Nat) (size : Nat) (x : Word) (l : RegPlace) (s : State), s.mainServes = true → size = 4 → off % 4 = 0 → off < 4096 → s.writeOpen .sideband .sw page off = true → placeAt .sw page off = some l → l.desc.wide = true →
    Does (.sbRegisterAccess true page off size x) s fun t => t = (s.refuse .sw page).regDone .sw .sideband stPERMISSION) ∧
  (∀ (page : Nat) (off : Nat) (size : Nat) (x : Word) (s : State), s.mainServes = true → sizeOk off size = true → pageMapped .sw page = false →
    Does (.sbRegisterAccess true page off size x) s fun t => t = s.regDone .sw .sideband stPERMISSION) ∧
  (∀ (write : Bool) (page : Nat) (off : Nat) (size : Nat) (x : Word) (s : State), sizeOk off size = false →
    Does (.sbRegisterAccess write page off size x) s fun t => t = s.regDone .sw .sideband stUNSUPPORTED) ∧
  (∀ (page : Nat) (off : Nat) (size : Nat) (x : Word) (s : State), s.mainServes = true → size = 4 → off % 4 = 0 → off < 4096 → pageMapped .sw page = true → placeAt .sw page off = none →
    Does (.sbRegisterAccess false page off size x) s fun t => t = s.regDone .sw .sideband stOK 0) ∧
  (∀ (page : Nat) (off : Nat) (size : Nat) (x : Word) (s : State), sizeOk off size = true → pageMapped .ep page = false →
    Does (.csr false page off size x) s fun t => t = s.regDone .ep .csr stOK 0) ∧
  (∀ (page : Nat) (off : Nat) (size : Nat) (x : Word) (s : State), s.mainServes = true → sizeOk off size = true → pageMapped .sw page = false →
    Does (.sbRegisterAccess false page off size x) s fun t => t = s.regDone .sw .sideband stPERMISSION 0)

/-- O36. At throttle level P3 new collectives and services are refused with HELD; those that run are ended by completions, aborts and timers. CREATE, LOAD, ATTACH, CONST, SEAL and TABLE_SET complete HELD with DETAIL 9 and make nothing, and an accepted gather or scatter-add is answered HELD (R211, R238). A herd that runs notes a completion from above (R196), sends an abort request up (R207), leaves ABORTING at its last acknowledgement (R209), and its timers expire (R205, R209). Each of these commands is shown to end in a next state: herdCreate, svcLoad, svcAttach, svcConst, svcSeal, svcTableSet, gatherRequest, scatterAddRequest, herdCplReceive, herdAbortReceive, herdAckReceive, herdTimerExpiry, abortingTimeout. Rests on R211, R238, R196, R205, R207, R209. -/
def Obligations.PowerLevelP3Holds : Prop :=
  (∀ (o : Origin) (i : Nat) (s : State), s.hrdOpen o = true → s.powerHeld = true →
    Does (.herdCreate o i) s fun t => t.get .sw HRD_CMD_STS_STATUS = stHELD ∧ t.get .sw HRD_CMD_STS_DETAIL = 9 ∧ t.sw.hrd.herds = s.sw.hrd.herds) ∧
  (∀ (o : Origin) (slot : Nat) (s : State), s.svcOpen o = true → s.powerHeld = true →
    Does (.svcLoad o slot) s fun X => X.get .sw SVC_CMD_STS_STATUS = stHELD ∧ X.get .sw SVC_CMD_STS_DETAIL = 9 ∧ X.sw.svc.progs = s.sw.svc.progs) ∧
  (∀ (o : Origin) (i : Nat) (s : State), s.svcOpen o = true → s.powerHeld = true →
    Does (.svcAttach o i) s fun X => X.get .sw SVC_CMD_STS_STATUS = stHELD ∧ X.get .sw SVC_CMD_STS_DETAIL = 9 ∧ X.sw.svc.atts = s.sw.svc.atts) ∧
  (∀ (o : Origin) (i : Nat) (s : State), s.svcOpen o = true → s.powerHeld = true →
    Does (.svcConst o i) s fun X => X.get .sw SVC_CMD_STS_STATUS = stHELD ∧ X.get .sw SVC_CMD_STS_DETAIL = 9 ∧ X.sw.svc.atts = s.sw.svc.atts) ∧
  (∀ (o : Origin) (g : Nat) (s : State), s.svcOpen o = true → s.powerHeld = true →
    Does (.svcSeal o g) s fun X => X.get .sw SVC_CMD_STS_STATUS = stHELD ∧ X.get .sw SVC_CMD_STS_DETAIL = 9 ∧ X.sw.svc.regions = s.sw.svc.regions) ∧
  (∀ (o : Origin) (t : Nat) (s : State), s.svcOpen o = true → s.powerHeld = true →
    Does (.svcTableSet o t) s fun X => X.get .sw SVC_CMD_STS_STATUS = stHELD ∧ X.get .sw SVC_CMD_STS_DETAIL = 9 ∧ X.sw.svc.tables = s.sw.svc.tables) ∧
  (∀ (k : Packet) (p off : Nat) (s : State), s.powerHeld = true → k.mark = false → crcOk k = true → placeOf k.addr = .pool s.switchId p off → s.accepted k = false → (nonIdempotent k = true → s.outcomeOf .sw k = none) → s.poolCheck k.ctx k.ptn p off 0 = stOK →
    Does (.gatherRequest k) s fun t => t = s.swAnswer k stHELD) ∧
  (∀ (k : Packet) (p off : Nat) (s : State), s.powerHeld = true → k.mark = false → crcOk k = true → placeOf k.addr = .pool s.switchId p off → s.accepted k = false → (nonIdempotent k = true → s.outcomeOf .sw k = none) → s.poolCheck k.ctx k.ptn p off 0 = stOK →
    Does (.scatterAddRequest k) s fun t => t = s.swAnswer k stHELD) ∧
  (∀ (k : Packet) (h : Herd) (v : Nat) (s : State), s.herdTurn k h = true → h.upLinkOf k = some v → h.state = 2 → natAt k.payload 16 1 = stOK → h.doneChunks < h.nChunks →
    Does (.herdCplReceive .sw k) s fun t => (t.herd (herdIx k)).map (·.cpls) = some (if h.cpls.contains v then h.cpls else h.cpls ++ [v])) ∧
  (∀ (k : Packet) (h : Herd) (v place : Nat) (s : State), k.srcSw = false → relayReport k = false → s.memberTurn k h v place = true → h.state = 2 ∨ (h.state = 1 ∧ h.swap = none) → h.isRoot = false → (h.state = 2 → h.finished = false) →
    Does (.herdAbortReceive .sw k) s fun t => (t.herd (herdIx k)).map (fun g => (g.state, g.asked, g.work)) = some (3, some ((herdPrefix k).pkt % 8, s.now .sw), [])) ∧
  (∀ (k : Packet) (h : Herd) (v place : Nat) (s : State), k.srcSw = false → s.memberTurn k h v place = true → h.state = 3 → s.allAcked { h with acked := if h.acked.contains k.src then h.acked else h.acked ++ [k.src] } = false →
    Does (.herdAckReceive k) s fun t => (t.herd (herdIx k)).map (·.acked) = some (if h.acked.contains k.src then h.acked else h.acked ++ [k.src])) ∧
  (∀ (k : Packet) (h : Herd) (v place : Nat) (s : State), k.srcSw = false → s.memberTurn k h v place = true → h.state = 3 → h.decided.isSome = true → h.ending = 0 → s.allAcked { h with acked := if h.acked.contains k.src then h.acked else h.acked ++ [k.src] } = true →
    Does (.herdAckReceive k) s fun t => (t.herd (herdIx k)).map (fun g => (g.state, g.step, g.work)) = some (1, (h.step + 1) % 2 ^ 32, [])) ∧
  (∀ (i : Nat) (h : Herd) (s : State), s.herd i = some h → h.state = 2 → s.due .sw h.timerFrom h.timeout = true → h.isRoot = false → h.finished = false →
    Does (.herdTimerExpiry i) s fun t => (t.herd i).map (fun g => (g.state, g.asked, g.work)) = some (3, some (rsTIMEOUT, s.now .sw), [])) ∧
  (∀ (i : Nat) (h : Herd) (s : State), s.herd i = some h → h.state = 3 → s.due .sw h.abortAt h.timeout = true → h.decided.isSome = true → h.ending = 0 →
    Does (.abortingTimeout i) s fun t => (t.herd i).map (fun g => (g.state, g.step, g.work)) = some (1, (h.step + 1) % 2 ^ 32, []))

/-- O37. With its security core halted a part verifies, commits and negotiates nothing. Dual control refuses BEGIN and SUBMIT with a record, no signature is verified and so no change commits, no rekey is started, and SPDM requests complete with an error (R434). Rests on R434. -/
def Obligations.HaltedSecurityCoreRefuses : Prop :=
  (∀ (path : Path) (scope : Nat) (s : State), s.writeOpen path .sw pgDct 0x50 = true → s.windowOver = false → s.secHalted .sw = true →
    Does (.dctBegin path scope) s fun t => t = (s.refuse .sw pgDct).regDone .sw path stPERMISSION) ∧
  (∀ (path : Path) (role : Nat) (s : State), s.writeOpen path .sw pgDct 0xC0 = true → s.windowOver = false → s.secHalted .sw = true →
    Does (.sigSubmit path role) s fun t => t = (s.refuse .sw pgDct).regDone .sw path stPERMISSION) ∧
  (∀ (s : State), s.secHalted .sw = true →
    Does (.sigVerifyDone) s fun t => t = s) ∧
  (∀ (s : State), s.secHalted .sw = true →
    Does (.imageWriteDone) s fun t => t = s) ∧
  (∀ (p : Part) (n : Nat) (s : State), s.secHalted p = true →
    Does (.rekeySoftPoint p n) s fun t => t = s) ∧
  (∀ (p : Part) (n : Nat) (s : State), s.secHalted p = true →
    Does (.rekeyCtrlReceive p n) s fun t => t = s) ∧
  (∀ (p : Part) (who : Nat) (s : State), s.spdmReach p who = true → s.secHalted p = true →
    Does (.spdmGetVersion p who) s fun t => t = (s.when (p == .sw && who == 1) State.sbMessage).emit (.spdm p who 0 3 [])) ∧
  (∀ (p : Part) (who : Nat) (s : State), s.spdmReach p who = true → s.secHalted p = true →
    Does (.spdmGetCapabilities p who) s fun t => t = (s.when (p == .sw && who == 1) State.sbMessage).emit (.spdm p who 1 3 [])) ∧
  (∀ (p : Part) (who : Nat) (s : State), s.spdmReach p who = true → s.secHalted p = true →
    Does (.spdmNegotiateAlgorithms p who) s fun t => t = (s.when (p == .sw && who == 1) State.sbMessage).emit (.spdm p who 2 3 [])) ∧
  (∀ (p : Part) (who : Nat) (s : State), s.spdmReach p who = true → s.secHalted p = true →
    Does (.spdmGetDigests p who) s fun t => t = (s.when (p == .sw && who == 1) State.sbMessage).emit (.spdm p who 3 3 [])) ∧
  (∀ (p : Part) (who : Nat) (slot : Nat) (offset : Nat) (length : Nat) (s : State), s.spdmReach p who = true → s.secHalted p = true →
    Does (.spdmGetCertificate p who slot offset length) s fun t => t = (s.when (p == .sw && who == 1) State.sbMessage).emit (.spdm p who 4 3 [])) ∧
  (∀ (p : Part) (who : Nat) (slot : Nat) (nonce : List Byte) (s : State), s.spdmReach p who = true → s.secHalted p = true →
    Does (.spdmChallenge p who slot nonce) s fun t => t = (s.when (p == .sw && who == 1) State.sbMessage).emit (.spdm p who 5 3 [])) ∧
  (∀ (p : Part) (who : Nat) (index : Nat) (raw : Bool) (nonce : List Byte) (s : State), s.spdmReach p who = true → s.secHalted p = true →
    Does (.spdmGetMeasurements p who index raw nonce) s fun t => t = (s.when (p == .sw && who == 1) State.sbMessage).emit (.spdm p who 6 3 [])) ∧
  (∀ (p : Part) (who : Nat) (exchange : List Byte) (s : State), s.spdmReach p who = true → s.secHalted p = true →
    Does (.spdmKeyExchange p who exchange) s fun t => t = (s.when (p == .sw && who == 1) State.sbMessage).emit (.spdm p who 7 3 [])) ∧
  (∀ (p : Part) (who : Nat) (right : Bool) (s : State), s.spdmReach p who = true → s.secHalted p = true →
    Does (.spdmFinish p who right) s fun t => t = (s.when (p == .sw && who == 1) State.sbMessage).emit (.spdm p who 8 3 [])) ∧
  (∀ (p : Part) (who : Nat) (s : State), s.spdmReach p who = true → s.secHalted p = true →
    Does (.spdmEndSession p who) s fun t => t = (s.when (p == .sw && who == 1) State.sbMessage).emit (.spdm p who 9 3 [])) ∧
  (∀ (p : Part) (who : Nat) (ide : Option (Nat × Bool)) (s : State), s.spdmReach p who = true → s.secHalted p = true →
    Does (.spdmVendorDefined p who ide) s fun t => t = (s.when (p == .sw && who == 1) State.sbMessage).emit (.spdm p who 10 3 [])) ∧
  (∀ (p : Part) (who : Nat) (s : State), s.spdmReach p who = true → s.secHalted p = true →
    Does (.spdmRefusedRequest p who) s fun t => t = (s.when (p == .sw && who == 1) State.sbMessage).emit (.spdm p who 11 3 []))

/-- O38. A locked target refuses decoders, BI and IDE settings with a record; link keys are renewed; vendor-defined and refused SPDM requests are answered. While TSP holds the state CONFIG_LOCKED, a commit of an HDM decoder and a write of BI_EN are refused with a record in CXU, and so is an IDE_KM request of the host (R390). Otherwise the security core acts: a key exchange that runs out of time, the start and the messages of a rekey and an exhausted key have the effects of R315, R316, R320 and R321; IDE_KM turns the streams on and off (R388), and a refused SPDM request is answered with its error (R402). Each of these commands is shown to end in a next state: hdmCommit, biEnWrite, spdmVendorDefined, kexTimeout, rekeyRequest, rekeySoftPoint, rekeyCtrlReceive, keyExhausted, spdmRefusedRequest. Rests on R390, R315, R316, R320, R321, R388, R402. -/
def Obligations.LockedTargetRefusesHostSetUp : Prop :=
  (∀ (dec : Nat) (hpa : Nat) (dpa : Nat) (size : Nat) (ways : Nat) (db : Bool) (s : State), s.get .sw CXU_STS_TSP = 1 → s.cxlMem = true → dec < 32 →
    Does (.hdmCommit dec hpa dpa size ways db) s fun t => t = s.refuse .sw pgCxu) ∧
  (∀ (path : Path) (v : Bool) (s : State), s.get .sw CXU_STS_TSP = 1 → s.writeOpen path .sw pgCxu 0x40 = true →
    Does (.biEnWrite path v) s fun t => t = (s.refuse .sw pgCxu).regDone .sw path stPERMISSION) ∧
  (∀ (stream : Nat) (on : Bool) (s : State), s.get .sw CXU_STS_TSP = 1 → s.flag .sw CXU_STS_UP = true → s.get .sw SEC_STS_LIFECYCLE ≠ 2 → s.secHalted .sw = false → s.swc.inReset = false → 3 ≤ (s.spdmAt .sw 0).1 → (s.spdmAt .sw 0).2 = 2 → s.flag .sw SEC_STS_ALIAS_READY = true →
    Does (.spdmVendorDefined .sw 0 ((some (stream, on)))) s fun t => t = (s.refuse .sw pgCxu).emit (.spdm .sw 0 10 3 [])) ∧
  (∀ (n : Nat) (s : State), s.kexStage .sw n = true → (s.port .sw n).kex.running = true → s.due .sw (s.port .sw n).kex.start 350000 = true →
    Does (.kexTimeout .sw n) s fun t => t.stage .sw n = (if s.get .sw LNK_STS_STATE 0 n = 1 ∧ max 1 (getBits (s.port .sw n).cfg 12 4) ≤ (s.port .sw n).attempts + 1 then 0 else 1) ∧ t.get .sw FPT_STS_FAULT 0 n = 9 ∧ t.get .sw FPT_STS_LANES 0 n = 0 ∧ (t.port .sw n).replay = [] ∧ t.get .sw LNK_STS_STATE 0 n = 0) ∧
  (∀ (path : Path) (p : Part) (n : Nat) (s : State), s.writeOpen path p (pgLnk + n) 0x58 = true → s.get p LNK_STS_STATE 0 n = 3 → s.flag p LNK_STS_INITIATOR 0 n = false →
    Does (.rekeyRequest path p n) s fun t => Out.ctrl p n 5 0 ∈ t.out) ∧
  (∀ (path : Path) (p : Part) (n : Nat) (s : State), s.writeOpen path p (pgLnk + n) 0x58 = true → s.get p LNK_STS_STATE 0 n = 3 → s.flag p LNK_STS_INITIATOR 0 n = true → s.stage p n = 5 → s.secHalted p = false →
    Does (.rekeyRequest path p n) s fun t => t.get p LNK_STS_STATE 0 n = 4 ∧ t.flag p LNK_REKEY_BUSY 0 n = true ∧ (t.port p n).kex.running = true) ∧
  (∀ (p : Part) (n : Nat) (s : State), 2 ^ s.get p LNK_REKEY_SOFT_LOG2 0 n ≤ max (s.port p n).keys.txCtr (s.port p n).keys.rxCtr → s.get p LNK_STS_STATE 0 n = 3 → s.flag p LNK_STS_INITIATOR 0 n = true → s.stage p n = 5 → s.secHalted p = false →
    Does (.rekeySoftPoint p n) s fun t => t.get p LNK_STS_STATE 0 n = 4 ∧ t.flag p LNK_REKEY_BUSY 0 n = true ∧ (t.port p n).kex.running = true) ∧
  (∀ (p : Part) (n : Nat) (s : State), s.get p LNK_STS_STATE 0 n = 3 → s.flag p LNK_STS_INITIATOR 0 n = true → s.stage p n = 5 → s.secHalted p = false →
    Does (.rekeyCtrlReceive p n) s fun t => t.get p LNK_STS_STATE 0 n = 4 ∧ t.flag p LNK_REKEY_BUSY 0 n = true ∧ (t.port p n).kex.running = true) ∧
  (∀ (n : Nat) (s : State), s.stage .sw n = 5 → 2 ^ 40 ≤ max (s.port .sw n).keys.txCtr (s.port .sw n).keys.rxCtr →
    Does (.keyExhausted .sw n) s fun t => t.stage .sw n = 1 ∧ t.get .sw FPT_STS_LANES 0 n = 0 ∧ (t.port .sw n).replay = [] ∧ t.get .sw LNK_STS_STATE 0 n = 0) ∧
  (∀ (p : Part) (who : Nat) (s : State), s.spdmReach p who = true → s.get p SEC_STS_LIFECYCLE ≠ 2 → s.secHalted p = false → (s.chip p).inReset = false → (who ≠ 1 ∨ s.mainServes = true) → 3 ≤ (s.spdmAt p who).1 →
    Does (.spdmVendorDefined p who none) s fun t => Out.spdm p who 10 0 ([]) ∈ t.out) ∧
  (∀ (stream : Nat) (on : Bool) (s : State), s.flag .sw CXU_STS_UP = true → s.get .sw SEC_STS_LIFECYCLE ≠ 2 → s.secHalted .sw = false → s.swc.inReset = false → 3 ≤ (s.spdmAt .sw 0).1 → (s.spdmAt .sw 0).2 = 2 → s.flag .sw SEC_STS_ALIAS_READY = true → s.tspLocked = false →
    Does (.spdmVendorDefined .sw 0 ((some (stream, on)))) s fun t => t.flag .sw (if stream = 0 then CXU_STS_IDE_IO else CXU_STS_IDE_CM) = on) ∧
  (∀ (p : Part) (who : Nat) (s : State), s.spdmReach p who = true → s.get p SEC_STS_LIFECYCLE ≠ 2 → s.secHalted p = false → (s.chip p).inReset = false → (who ≠ 1 ∨ s.mainServes = true) →
    Does (.spdmRefusedRequest p who) s fun t => Out.spdm p who 11 1 ([]) ∈ t.out ∧ t.spdmAt p who = s.spdmAt p who)

/-- O39. A step runs the command at the front of the queue on the state with the rest of the queue. For every command, queue and state: step with that command in front of that queue is exec of the command on the state whose queue is the rest. Rests on opcode_table.json. -/
def Obligations.StepRunsTheFrontCommand : Prop :=
  (∀ (c : Instr) (q : List Instr) (s : State), step { s with pending := c :: q } = exec c { s with pending := q })

/-- O40. With no command waiting a tick passes: the counters, the crossbar and the links go on. The model's choice (log entries 1, 191, 193): on an empty queue a step is a tick. Each part's LTC advances by 1, by 7 while its MCLK is absent, and by 0 in reset or without standby (R9, R478). Of the switch nothing but its crossbar, its links and its registers goes on: pool, herds, services, host side, dual control and firmware stay, and so do log and sync objects; with nothing in its crossbar only the eight cycles of a tick pass there. The queue stays empty. Rests on R9, R478. -/
def Obligations.IdleStepLetsTimePass : Prop :=
  (∀ s : State, s.pending = [] → ∃ t, step s = .next t ∧ t.pending = [] ∧ t.sw = { s.sw with core := t.sw.core } ∧ t.swc = { s.swc with ltc := t.swc.ltc, regs := t.swc.regs, ports := t.swc.ports } ∧
    (s.sw.core.queue = [] → s.sw.core.mids = [] → s.sw.core.reseq = [] → t.sw.core = { s.sw.core with cycle := s.sw.core.cycle + (if s.xbarRuns then 8 else 0) }) ∧
    ∀ p, (t.chip p).ltc = (s.chip p).ltc + BitVec.ofNat 64 (if (s.chip p).inReset ∨ (s.chip p).standbyUp = false then 0 else if s.get p CLK_STS_PLL_LOCK = 1 then 1 else 7))

/-- O41. At cold reset every register reads the reset value of its table, and everything else is empty. State.reset: all registers but GLB.ID, SEC.STS and SBP.STS read the reset values of the tables, each of which is put together from its fields; both parts are held in reset with their counters at zero, and every table, queue, log and memory is empty. Reset values that the spec does not give are choices of the model (log entries 7 and 8). Rests on R487, R497, R512. -/
def Obligations.ResetLeavesTableValues : Prop :=
  (∀ (p : Part) (r : Reg) (b i : Nat), r.key b i ≠ GLB_ID.key 0 0 → r.key b i ≠ SEC_STS.key 0 0 → r.key b i ≠ SBP_STS.key 0 0 →
    State.reset.rd p r b i = BitVec.ofNat 64 r.reset) ∧
  (∀ c < 256, ∀ d ∈ blockRegs c, d.fields.foldl (fun m f => setBits m f.lo f.w f.reset) 0 = BitVec.ofNat 64 d.reg.reset) ∧
  (∀ p, (State.reset.chip p).inReset = true ∧ (State.reset.chip p).ltc = 0 ∧ (State.reset.chip p).log = [] ∧ (State.reset.chip p).ports = []) ∧
  (State.reset.sw = {} ∧ State.reset.ep = {} ∧ State.reset.out = [] ∧ State.reset.pending = [])

/-- O42. At reset the parts read as the switch and the endpoint that the manual describes. State.reset reads GLB.ID 0x00100512 on the switch and 0x00010064 on the endpoint (R512). Rests on R512. -/
def Obligations.ResetShowsTheIdentification : Prop :=
  State.reset.IdentityOk

/-- O43. The check codes have their check values and their coverage. CRC-32C and CRC-64 of "123456789" have the values of R298 and R305; E2E_CRC does not depend on LANE and MARK, and a packet that its source seals passes the check whatever a part in transit does to those two. Rests on R298, R305. -/
def Obligations.CheckCodesMatchTheSpec : Prop :=
  (crc32c [0x31, 0x32, 0x33, 0x34, 0x35, 0x36, 0x37, 0x38, 0x39] = 0xE3069283) ∧
  (crc64 [0x31, 0x32, 0x33, 0x34, 0x35, 0x36, 0x37, 0x38, 0x39] = 0x995DC9BBDF1939FA) ∧
  (∀ (k : Packet) (lane mark : Bool), e2eCrc { k with lane := lane, mark := mark } = e2eCrc k) ∧
  (∀ (k : Packet) (lane mark : Bool), crcOk { sealPkt k with lane := lane, mark := mark } = true)

/-- O44. A packet read back from its wire bytes is the packet. For every packet whose fields fit their places in the header of R293 and R294, with the reserved bits zero, reading its wire bytes gives every field and the payload back. Rests on R293, R294. -/
def Obligations.PacketRoundTrip : Prop :=
  (∀ k : Packet, k.dst < 2 ^ 17 → k.src < 2 ^ 17 → k.tc < 8 → k.op < 256 → k.tag < 2 ^ 16 → k.len < 2 ^ 13 → k.ctx < 1024 → k.ptn < 64 → k.scope < 4 →
    k.colour < 4 → k.status < 256 → k.aux < 2 ^ 32 → k.rsv = 0 → packetOfBytes (packetBytes k) = k)

/-- O45. Every header field stands at the bits that the layout gives it. The 32 header bytes of a packet, read as one number with the first byte lowest, hold each field of R293 and each flag of R294 at its bits, and zero at the reserved bits. Rests on R293, R294. -/
def Obligations.HeaderFieldsInTheirPlaces : Prop :=
  (∀ k : Packet, (packetBytes k).length = 32 + k.payload.length ∧ (packetBytes k).drop 32 = k.payload ∧
    bitsOf (leNat ((packetBytes k).take 32)) 0 17 = k.dst % 2 ^ 17 ∧
    bitsOf (leNat ((packetBytes k).take 32)) 17 17 = k.src % 2 ^ 17 ∧
    bitsOf (leNat ((packetBytes k).take 32)) 34 3 = k.tc % 2 ^ 3 ∧
    bitsOf (leNat ((packetBytes k).take 32)) 37 8 = k.op % 2 ^ 8 ∧
    bitsOf (leNat ((packetBytes k).take 32)) 45 16 = k.tag % 2 ^ 16 ∧
    bitsOf (leNat ((packetBytes k).take 32)) 61 3 = 0 ∧
    bitsOf (leNat ((packetBytes k).take 32)) 64 64 = k.addr.toNat ∧
    bitsOf (leNat ((packetBytes k).take 32)) 128 13 = k.len % 2 ^ 13 ∧
    bitsOf (leNat ((packetBytes k).take 32)) 141 10 = k.ctx % 2 ^ 10 ∧
    bitsOf (leNat ((packetBytes k).take 32)) 151 6 = k.ptn % 2 ^ 6 ∧
    bitsOf (leNat ((packetBytes k).take 32)) 157 2 = k.scope % 2 ^ 2 ∧
    bitsOf (leNat ((packetBytes k).take 32)) 159 2 = k.colour % 2 ^ 2 ∧
    bitsOf (leNat ((packetBytes k).take 32)) 161 1 = b2n k.lane ∧
    bitsOf (leNat ((packetBytes k).take 32)) 162 1 = b2n k.mark ∧
    bitsOf (leNat ((packetBytes k).take 32)) 163 1 = b2n k.vol ∧
    bitsOf (leNat ((packetBytes k).take 32)) 164 1 = b2n k.uncached ∧
    bitsOf (leNat ((packetBytes k).take 32)) 165 1 = b2n k.resend ∧
    bitsOf (leNat ((packetBytes k).take 32)) 166 1 = b2n k.srcSw ∧
    bitsOf (leNat ((packetBytes k).take 32)) 167 8 = 0 ∧
    bitsOf (leNat ((packetBytes k).take 32)) 175 8 = k.status % 2 ^ 8 ∧
    bitsOf (leNat ((packetBytes k).take 32)) 183 9 = 0 ∧
    bitsOf (leNat ((packetBytes k).take 32)) 192 32 = k.aux % 2 ^ 32 ∧
    bitsOf (leNat ((packetBytes k).take 32)) 224 32 = k.crc.toNat)

/-- O46. The prefix of a herd packet stands in the first sixteen payload bytes. The prefix bytes of R297 read back as signature, step, chunk, packet index and shard, byte 15 is zero, and the rest of the payload follows. Rests on R297. -/
def Obligations.HerdPrefixInItsPlace : Prop :=
  (∀ (h : HerdPrefix) (k : Packet) (data : List Byte), h.sig < 2 ^ 32 → h.step < 2 ^ 32 → h.chunk < 2 ^ 32 → h.pkt < 2 ^ 16 → h.shard < 256 →
    herdPrefix { k with payload := h.bytes ++ data } = h ∧ h.bytes.length = 16 ∧ natAt (h.bytes ++ data) 15 1 = 0 ∧ (h.bytes ++ data).drop 16 = data)

/-- O47. Fabric addresses come apart into the fields they were made from. An address of each space of R38, built from its fields, is read back as that space with those fields; the reserved space reads as reserved. Rests on R38. -/
def Obligations.FabricAddressesTakenApart : Prop :=
  (∀ sid ptn off : Nat, sid < 2 ^ 16 → ptn < 64 → off < 2 ^ 40 → placeOf (poolAddr sid ptn off) = .pool sid ptn off) ∧
  (∀ node w off : Nat, node < 2 ^ 17 → w < 512 → off < 2 ^ 36 → placeOf (BitVec.ofNat 64 (node * 2 ^ 45 + w * 2 ^ 36 + off)) = .window node w off) ∧
  (∀ kind id low : Nat, kind < 2 → id < 2 ^ 17 → low < 2 ^ 44 → placeOf (targetForm kind id low) = .control kind id (low / 2 ^ 24) (low % 2 ^ 24)) ∧
  (∀ x : Nat, x < 2 ^ 62 → placeOf (BitVec.ofNat 64 (3 * 2 ^ 62 + x)) = .reserved)

/-- O48. Node IDs and coordinates name each other. Every 17-bit value is the node ID of exactly one coordinate (z.y.x) with x from 0 to 31 and y and z from 0 to 63, which stand at the bits of R14. Rests on R14. -/
def Obligations.NodeIdsNameCoordinates : Prop :=
  (∀ id < 2 ^ 17, coordOf 1 id < 32 ∧ coordOf 2 id < 64 ∧ coordOf 3 id < 64 ∧ nodeOf (coordOf 3 id) (coordOf 2 id) (coordOf 1 id) = id) ∧
  (∀ z < 64, ∀ y < 64, ∀ x < 32, nodeOf z y x < 2 ^ 17 ∧ nodeOf z y x = z * 2 ^ 11 + y * 2 ^ 5 + x ∧ coordOf 3 (nodeOf z y x) = z ∧ coordOf 2 (nodeOf z y x) = y ∧ coordOf 1 (nodeOf z y x) = x)

/-- O49. The landing endpoint has the source coordinate on the axis of the switch and the group of the switch on the other two. For a valid switch ID and any source: on the axis of the switch the landing endpoint has the coordinate of the source; on the other axes its coordinates are the group of the switch, the same for every source; the worked example of R31 comes out. Rests on R22, R31. -/
def Obligations.LandingKeepsTheAxisCoordinate : Prop :=
  (∀ (sid src : Nat), swIdValid sid = true → coordOf (swAxis sid) (landing sid src) = coordOf (swAxis sid) src) ∧
  (∀ (sid src a : Nat), swIdValid sid = true → 1 ≤ a → a ≤ 3 → a ≠ swAxis sid →
    coordOf a (landing sid src) = (if a = 3 then (if swAxis sid = 1 then bitsOf sid 6 6 else bitsOf sid 5 6) else if a = 2 then (if swAxis sid = 1 then bitsOf sid 0 6 else bitsOf sid 5 6) else bitsOf sid 0 5)) ∧
  (landing 0xA075 (nodeOf 3 10 5) = nodeOf 3 10 21)

/-- O50. Integer atomics are exact: sums wrap, comparisons are signed or unsigned as the opcode says. In words of 32 and of 64 bits: FETCH_ADD and ADD are the sum modulo 2^n, the logical operations act bit by bit, MIN and MAX compare as two's complement or as unsigned numbers, CAS stores the second operand only over an equal value. Rests on R91, R93. -/
def Obligations.IntegerAtomicsExact : Prop :=
  (∀ old a b : Nat, old < 2 ^ 32 → a < 2 ^ 32 → b < 2 ^ 32 →
    BitVec.ofNat 32 (atomicNew opFETCH_ADD 4 old a b) = BitVec.ofNat 32 old + BitVec.ofNat 32 a ∧
    atomicNew opADD 4 old a b = atomicNew opFETCH_ADD 4 old a b ∧
    atomicNew opFETCH_ADD 4 old a b < 2 ^ 32 ∧
    BitVec.ofNat 32 (atomicNew opFETCH_AND 4 old a b) = BitVec.ofNat 32 old &&& BitVec.ofNat 32 a ∧
    BitVec.ofNat 32 (atomicNew opFETCH_OR 4 old a b) = BitVec.ofNat 32 old ||| BitVec.ofNat 32 a ∧
    BitVec.ofNat 32 (atomicNew opFETCH_XOR 4 old a b) = BitVec.ofNat 32 old ^^^ BitVec.ofNat 32 a ∧
    (BitVec.ofNat 32 (atomicNew opFETCH_MIN_S 4 old a b)).toInt = min (BitVec.ofNat 32 old).toInt (BitVec.ofNat 32 a).toInt ∧
    (BitVec.ofNat 32 (atomicNew opFETCH_MAX_S 4 old a b)).toInt = max (BitVec.ofNat 32 old).toInt (BitVec.ofNat 32 a).toInt ∧
    (BitVec.ofNat 32 (atomicNew opFETCH_MIN_U 4 old a b)).toNat = min old a ∧
    (BitVec.ofNat 32 (atomicNew opFETCH_MAX_U 4 old a b)).toNat = max old a ∧
    atomicNew opSWAP 4 old a b = a ∧
    atomicNew opCAS 4 old a b = (if old = a then b else old)) ∧
  (∀ old a b : Nat, old < 2 ^ 64 → a < 2 ^ 64 → b < 2 ^ 64 →
    BitVec.ofNat 64 (atomicNew opFETCH_ADD 8 old a b) = BitVec.ofNat 64 old + BitVec.ofNat 64 a ∧
    atomicNew opADD 8 old a b = atomicNew opFETCH_ADD 8 old a b ∧
    atomicNew opFETCH_ADD 8 old a b < 2 ^ 64 ∧
    BitVec.ofNat 64 (atomicNew opFETCH_AND 8 old a b) = BitVec.ofNat 64 old &&& BitVec.ofNat 64 a ∧
    BitVec.ofNat 64 (atomicNew opFETCH_OR 8 old a b) = BitVec.ofNat 64 old ||| BitVec.ofNat 64 a ∧
    BitVec.ofNat 64 (atomicNew opFETCH_XOR 8 old a b) = BitVec.ofNat 64 old ^^^ BitVec.ofNat 64 a ∧
    (BitVec.ofNat 64 (atomicNew opFETCH_MIN_S 8 old a b)).toInt = min (BitVec.ofNat 64 old).toInt (BitVec.ofNat 64 a).toInt ∧
    (BitVec.ofNat 64 (atomicNew opFETCH_MAX_S 8 old a b)).toInt = max (BitVec.ofNat 64 old).toInt (BitVec.ofNat 64 a).toInt ∧
    (BitVec.ofNat 64 (atomicNew opFETCH_MIN_U 8 old a b)).toNat = min old a ∧
    (BitVec.ofNat 64 (atomicNew opFETCH_MAX_U 8 old a b)).toNat = max old a ∧
    atomicNew opSWAP 8 old a b = a ∧
    atomicNew opCAS 8 old a b = (if old = a then b else old))

/-- O51. A combined group of integer adds gives what its members would one after another. For a group of ADD or FETCH_ADD of 4 or 8 bytes: the final value is that of performing the members one by one in their order, and member k of a FETCH_ADD group is given the value that stood before its own add. Rests on R99. -/
def Obligations.CombinedAddsMatchASerialOrder : Prop :=
  (∀ (r : PReq) (op old : Nat), r.members.all (fun m => m.pkt.op == op) = true → r.members ≠ [] → (op = opADD ∨ op = opFETCH_ADD) → (r.len = 4 ∨ r.len = 8) → old < 2 ^ (8 * r.len) →
    (groupAtomic r old).1 = r.members.foldl (fun v m => atomicNew op r.len v (atomicArgs m.pkt r.len).1 0) old ∧ (groupAtomic r old).2.length = r.members.length ∧
    ∀ i < r.members.length, (groupAtomic r old).2[i]? = some (stOK, if op = opFETCH_ADD then leBytes r.len ((r.members.take i).foldl (fun v m => atomicNew op r.len v (atomicArgs m.pkt r.len).1 0) old) else [], 0))

/-- O52. ERR_COUNT counts every event and ERR_FIRST keeps the first. An event of a page adds one to its ERR_COUNT, which holds at its all-ones value, and sets ERR_FIRST with its code and tick only while VALID is clear; a refused write is an event with code WRITE_REFUSED. Rests on R498. -/
def Obligations.ErrorHeaderKeepsTheFirst : Prop :=
  (∀ (s : State) (p : Part) (page d0 d1 status reason : Nat) (e : Err) (sev rung : Option Nat) (esc : Bool),
    (s.event p page e d0 d1 sev rung esc status reason).get p HDR_ERR_COUNT_COUNT 0 page = min (s.get p HDR_ERR_COUNT_COUNT 0 page + 1) (2 ^ 32 - 1) ∧
    (s.flag p HDR_ERR_FIRST_VALID 0 page = true → (s.event p page e d0 d1 sev rung esc status reason).rd p HDR_ERR_FIRST 0 page = s.rd p HDR_ERR_FIRST 0 page) ∧
    (s.flag p HDR_ERR_FIRST_VALID 0 page = false → (s.event p page e d0 d1 sev rung esc status reason).flag p HDR_ERR_FIRST_VALID 0 page = true ∧ (s.event p page e d0 d1 sev rung esc status reason).get p HDR_ERR_FIRST_CODE 0 page = e.code ∧
      (s.event p page e d0 d1 sev rung esc status reason).get p HDR_ERR_FIRST_TICK 0 page = s.now p % 2 ^ HDR_ERR_FIRST_TICK.w)) ∧
  (∀ (s : State) (p : Part) (page : Nat), (s.refuse p page).get p HDR_ERR_COUNT_COUNT 0 page = min (s.get p HDR_ERR_COUNT_COUNT 0 page + 1) (2 ^ 32 - 1) ∧
    (s.flag p HDR_ERR_FIRST_VALID 0 page = true → (s.refuse p page).rd p HDR_ERR_FIRST 0 page = s.rd p HDR_ERR_FIRST 0 page) ∧
    (s.flag p HDR_ERR_FIRST_VALID 0 page = false → (s.refuse p page).flag p HDR_ERR_FIRST_VALID 0 page = true ∧ (s.refuse p page).get p HDR_ERR_FIRST_CODE 0 page = Err.writeRefused.code ∧
      (s.refuse p page).get p HDR_ERR_FIRST_TICK 0 page = s.now p % 2 ^ HDR_ERR_FIRST_TICK.w))

/-- O53. A plain write stores every field of a register by its access type. For every register of the tables: RW and RWS fields take the written bits, RW1C bits written 1 are cleared, RW1S bits written 1 are set, RO, WO and RWL fields and all bits outside the fields keep their value (R503). Rests on R503. -/
def Obligations.FieldsStoredByAccessType : Prop :=
  (∀ c < 256, ∀ d ∈ blockRegs c, ∀ f ∈ d.fields, ∀ old x : Word, getBits (d.stored old x) f.lo f.w = (match f.acc with
    | .rw | .rws => getBits x f.lo f.w
    | .rw1c => getBits (old &&& ~~~x) f.lo f.w
    | .rw1s => getBits (old ||| x) f.lo f.w
    | .ro | .wo | .rwl => getBits old f.lo f.w)) ∧
  (∀ c < 256, ∀ d ∈ blockRegs c, ∀ i < 64, (∀ f ∈ d.fields, i < f.lo ∨ f.lo + f.w ≤ i) → ∀ old x : Word, (d.stored old x).getLsbD i = old.getLsbD i)

/-- O54. The error log holds at most 256 records in order, drops below FATAL when full and overwrites the least for FATAL. Writing a record keeps the log at 256 or fewer and in order of tick and page; with room it is added; full, a record below FATAL leaves the log as it was, is counted and sets the log-full cause, and a FATAL one takes the place of the oldest record of the lowest severity present. Rests on R471. -/
def Obligations.ErrorLogKeepsItsForm : Prop :=
  (∀ (s : State) (p : Part) (r : ErrRec), (s.chip p).log.length ≤ 256 → ((s.logRec p r).chip p).log.length ≤ 256) ∧
  (∀ (s : State) (p : Part) (r : ErrRec), (s.chip p).log.Pairwise (fun a b => recBefore a b = true) → ((s.logRec p r).chip p).log.Pairwise (fun a b => recBefore a b = true)) ∧
  (∀ (s : State) (p : Part) (r : ErrRec), (s.chip p).log.length < 256 → ((s.logRec p r).chip p).log.Perm (r :: (s.chip p).log)) ∧
  (∀ (s : State) (p : Part) (r : ErrRec), 256 ≤ (s.chip p).log.length → r.sev < 4 → ((s.logRec p r).chip p).log = (s.chip p).log ∧ (s.logRec p r).get p ERR_LOG_STS_DROPS = min (s.get p ERR_LOG_STS_DROPS + 1) (2 ^ ERR_LOG_STS_DROPS.w - 1) ∧
    (s.logRec p r).rd p HDR_INT_CAUSE 0 pgErr = setBits (s.rd p HDR_INT_CAUSE 0 pgErr) 3 1 1) ∧
  (∀ (s : State) (p : Part) (r : ErrRec), 256 ≤ (s.chip p).log.length → r.sev = 4 → (∀ x ∈ (s.chip p).log, x.sev ≤ 4) → ∃ a x b, (s.chip p).log = a ++ x :: b ∧ (∀ y ∈ a, x.sev < y.sev) ∧ (∀ y ∈ b, x.sev ≤ y.sev) ∧ ((s.logRec p r).chip p).log.Perm (r :: (a ++ b)))

/-- O55. Every code that is no NaN decodes to a value that encodes and rounds back to it. In each of the nine floating-point formats, a code that does not decode to NaN encodes back to itself, and rounding its value to the same format is exact and raises no flag. Rests on R152, R161. -/
def Obligations.MinifloatCodesRoundTrip : Prop :=
  (∀ f ∈ [fpE4M3, fpE5M2, fp16, bf16, fp32, fp64, fpE3M2, fpE2M3, fpE2M1], ∀ c < 2 ^ f.bits, fpDecode f c ≠ .nan → fpEncode f (fpDecode f c) = c) ∧
  (∀ f ∈ [fpE4M3, fpE5M2, fp16, bf16, fp32, fp64, fpE3M2, fpE2M3, fpE2M1], ∀ c < 2 ^ f.bits, ∀ sat : Bool, ∀ sr : Option Nat, (∃ n m e, fpDecode f c = .fin n m e) →
    fpEncode f (roundFp f sat sr (fpDecode f c)).v = c ∧ (roundFp f sat sr (fpDecode f c)).fl = 0)

/-- O56. No command and no tick changes the identification of the parts. A step from a state whose parts read the identification of R512 leads to such a state; moreover no step changes GLB.ID of either part. Rests on R512. -/
def Obligations.IdentificationNeverChanges : Prop :=
  (∀ s t : State, s.IdentityOk → step s = .next t → t.IdentityOk) ∧
  (∀ s t : State, step s = .next t → t.rd .sw GLB_ID = s.rd .sw GLB_ID ∧ t.rd .ep GLB_ID = s.rd .ep GLB_ID)

/-- O57. A command changes nothing of the queue of waiting commands. For every command: the queue after it is the queue before it. Rests on opcode_table.json. -/
def Obligations.CommandsLeaveTheQueueAlone : Prop :=
  (∀ (c : Instr) (s t : State), exec c s = .next t → t.pending = s.pending)

/-- O58. The memory of the pool keeps its one canonical form. From any state whose pool memory lists rising addresses and no zero byte, a step leads to such a state; a byte written reads back, and every other byte reads as before. Reset memory has the form. Rests on R102, R103. -/
def Obligations.PoolMemoryKeepsItsForm : Prop :=
  (∀ s t : State, Memory.wf s.sw.pool.mem = true → step s = .next t → Memory.wf t.sw.pool.mem = true) ∧
  (∀ (m : List Host.Cell) (a b : Nat) (bs : List Byte), Memory.readByte (Memory.write m a bs) b = if a ≤ b ∧ b < a + bs.length then bs.getD (b - a) 0 else Memory.readByte m b) ∧
  (Memory.wf State.reset.sw.pool.mem = true)

/-- O59. Every command ends in a next state, whatever its operands and whatever state it finds. For every command and every state, exec answers a next state: no command of the table ends in a fault or a refusal. Rests on opcode_table.json. -/
def Obligations.EveryCommandRuns : Prop :=
  (∀ (c : Instr) (s : State), Runs c s)

/-- O60. A command leaves every register block and every other component that is not listed for it as it was. For each command, mayChange lists the register blocks and the other components of State that its rules let it touch. From any state to which a command leads, every register of a block that the list does not meet reads as before, in every bank and instance, and every component that it does not meet (pool bytes, herds, programs, ports, sync objects, logs, queues, sessions, what was sent) is what it was. Rests on opcode_table.json, R494, R103, R471. -/
def Obligations.OnlyListedComponentsChange : Prop :=
  (∀ (c : Instr) (s t : State), exec c s = .next t → ∀ x : Comp, (mayChange c).all (fun y => !y.meets x) = true → s.sameIn t x)
end

