-- ==== Sys2Proof/Laws/FixedBase.lean ====
section
/-! SUPPORT. What no command changes: the identification words of both parts (R512) and the queue; the lemmas that the files Fixed… build on. -/

set_option Elab.async false
set_option linter.all false

namespace Sys2Proof.Machine

/-- The identification words of both parts and the queue. -/
def State.keep (s : State) : Word × Word × List Instr :=
  (s.swc.regs.read GLB_ID 0 0, s.epc.regs.read GLB_ID 0 0, s.pending)

/-- The identification word of a part's half. -/
def Chip.ident (c : Chip) : Word := c.regs.read GLB_ID 0 0

theorem lookup_insertAt {α : Type} (m : SMap α) (k q : Nat) (x : α) :
    lookup (insertAt m k x) q = if q = k then some x else lookup m q := by
  induction m with
  | nil => simp [insertAt, lookup]
  | cons p r ih =>
    obtain ⟨a, v⟩ := p
    simp only [insertAt]
    split
    · simp [lookup]
    · split
      · rename_i h; subst h; simp only [lookup]; split <;> rfl
      · rename_i h; simp only [lookup, ih]; split
        · rename_i g; subst g; rw [if_neg (Ne.symm h)]
        · rfl

theorem read_write (m : RegFile) (r q : Reg) (b i c j : Nat) (x : Word) :
    (m.write r b i x).read q c j = if q.key c j = r.key b i then x else m.read q c j := by
  simp only [RegFile.read, RegFile.write, lookup_insertAt]; split <;> simp

theorem ident_write (m : RegFile) (r : Reg) (b i : Nat) (x : Word) (h : r.page ≠ 0 ∨ r.off % 4096 ≠ 64) :
    (m.write r b i x).read GLB_ID 0 0 = m.read GLB_ID 0 0 := by
  rw [read_write, if_neg]
  simp only [Reg.key, GLB_ID]
  omega

@[simp] theorem onChip_keep (s : State) (p : Part) (f : Chip → Chip) (h : ∀ c, (f c).regs.read GLB_ID 0 0 = c.regs.read GLB_ID 0 0) :
    (s.onChip p f).keep = s.keep := by cases p <;> simp [State.onChip, State.keep, h]

@[simp] theorem onChip_keep' (s : State) (p : Part) (f : Chip → Chip) (h : ∀ c, (f c).regs = c.regs) :
    (s.onChip p f).keep = s.keep := onChip_keep s p f fun c => by rw [h]

@[simp] theorem wr_keep (s : State) (p : Part) (r : Reg) (x : Word) (b i : Nat) (h : r.page ≠ 0 ∨ r.off % 4096 ≠ 64) :
    (s.wr p r x b i).keep = s.keep := by
  simp only [State.wr]; exact onChip_keep _ _ _ fun c => ident_write _ _ _ _ _ h

@[simp] theorem put_keep (s : State) (p : Part) (f : Fld) (v b i : Nat) (h : f.reg.page ≠ 0 ∨ f.reg.off % 4096 ≠ 64) :
    (s.put p f v b i).keep = s.keep := by simp only [State.put]; exact wr_keep _ _ _ _ _ _ h

@[simp] theorem ite_keep (c : Prop) [Decidable c] (a b : State) : (if c then a else b).keep = if c then a.keep else b.keep := by
  split <;> rfl

@[simp] theorem foldl_keep {α : Type} (l : List α) (s : State) (f : State → α → State) (h : ∀ s a, (f s a).keep = s.keep) :
    (l.foldl f s).keep = s.keep := by
  induction l generalizing s with
  | nil => rfl
  | cons a l ih => simp [ih, h]

@[simp] theorem when_keep (s : State) (c : Bool) (f : State → State) (h : (f s).keep = s.keep) : (s.when c f).keep = s.keep := by
  cases c <;> simp [State.when, h]

@[simp] theorem emit_keep (s : State) (o : Out) : (s.emit o).keep = s.keep := id rfl
@[simp] theorem drawn_keep (s : State) : s.drawn.keep = s.keep := id rfl
@[simp] theorem mk_keep (a b : Chip) (c : SwState) (d : EpState) (e : List Out) (f : Nat) (g : List Instr) :
    (State.mk a b c d e f g).keep = (a.regs.read GLB_ID 0 0, b.regs.read GLB_ID 0 0, g) := id rfl
@[simp] theorem keep_eta (s : State) : (s.swc.regs.read GLB_ID 0 0, s.epc.regs.read GLB_ID 0 0, s.pending) = s.keep := id rfl
@[simp] theorem ite_fst {α β : Type} (c : Prop) [Decidable c] (a b : α × β) : (if c then a else b).1 = if c then a.1 else b.1 := by
  split <;> rfl
@[simp] theorem option_elim_keep {α : Type} (o : Option α) (s : State) (f : α → State) (h : ∀ a, (f a).keep = s.keep) :
    (o.elim s f).keep = s.keep := by cases o <;> simp [h]
@[simp] theorem shift_page (f : Fld) (d : Nat) : (f.shift d).reg.page = f.reg.page := id rfl
@[simp] theorem word_page (r : Reg) (k : Nat) : (r.word k).page = r.page := id rfl
@[simp] theorem laneFld_page (f : Fld) (l : Nat) : (laneFld f l).reg.page = f.reg.page := id rfl
@[simp] theorem foldl_fst_keep {α β : Type} (l : List α) (x : State × β) (f : State × β → α → State × β)
    (h : ∀ s a, (f s a).1.keep = s.1.keep) : (l.foldl f x).1.keep = x.1.keep := by
  induction l generalizing x with
  | nil => rfl
  | cons a l ih => simp [ih, h]

theorem lookup_keepIf {α : Type} (f : Nat → α → Bool) (m : SMap α) (q : Nat) (h : ∀ v, f q v = true) :
    lookup (keepIf f m) q = lookup m q := by
  induction m with
  | nil => rfl
  | cons a r ih =>
    obtain ⟨k, v⟩ := a
    simp only [keepIf, List.filter_cons] at ih ⊢
    split
    · simp only [lookup, ih]
    · rename_i g
      simp only [lookup, ih]
      rw [if_neg]
      rintro rfl
      exact g (h v)

theorem lookup_mapVals {α β : Type} (f : Nat → α → β) (m : SMap α) (q : Nat) :
    lookup (mapVals f m) q = (lookup m q).map (f q) := by
  induction m with
  | nil => rfl
  | cons a r ih =>
    obtain ⟨k, v⟩ := a
    simp only [mapVals, List.map_cons] at ih ⊢
    simp only [lookup, ih]
    split
    · rename_i g; subst g; rfl
    · rfl

/-- The key of the identification register. -/
theorem ident_key : GLB_ID.key 0 0 = 64 := by decide

theorem read_ident (m : RegFile) : m.read GLB_ID 0 0 = (lookup m 64).getD 0 := by
  simp only [RegFile.read, ident_key]; rfl

theorem keepIf_ident (f : Nat → Word → Bool) (m : RegFile) (h : ∀ v, f 64 v = true) :
    RegFile.read (keepIf f m) GLB_ID 0 0 = m.read GLB_ID 0 0 := by
  rw [read_ident, read_ident, lookup_keepIf _ _ _ h]

theorem mapVals_ident (f : Nat → Word → Word) (m : RegFile) (h : ∀ v, f 64 v = v) :
    RegFile.read (mapVals f m) GLB_ID 0 0 = m.read GLB_ID 0 0 := by
  rw [read_ident, read_ident, lookup_mapVals]
  cases lookup m 64 <;> simp [h]

theorem insertAt_ident (m : RegFile) (k : Nat) (x : Word) (h : k ≠ 64) :
    RegFile.read (insertAt m k x) GLB_ID 0 0 = m.read GLB_ID 0 0 := by
  rw [read_ident, read_ident, lookup_insertAt, if_neg (Ne.symm h)]

theorem fold_insert_ident (l : RegFile) (m : RegFile) (h : ∀ e ∈ l, e.1 ≠ 64) :
    RegFile.read (l.foldl (fun m e => insertAt m e.1 e.2) m) GLB_ID 0 0 = m.read GLB_ID 0 0 := by
  induction l generalizing m with
  | nil => rfl
  | cons a l ih =>
    simp only [List.foldl_cons]
    rw [ih _ fun e he => h e (List.mem_cons_of_mem _ he), insertAt_ident _ _ _ (h a (List.mem_cons_self ..))]

theorem fixed_ident (s : State) (p : Part) : (s.fixedRegs p).read GLB_ID 0 0 = (s.chip p).regs.read GLB_ID 0 0 := by
  simp only [State.fixedRegs]
  rw [ident_write _ _ _ _ _ (by decide), read_write]
  simp

theorem sec_key : SEC_STS.key 0 0 = 24640 := by decide

theorem fixed_over_ident (s : State) (p : Part) (m : RegFile) :
    RegFile.read ((s.fixedRegs p).foldl (fun m e => insertAt m e.1 e.2) m) GLB_ID 0 0 = (s.chip p).regs.read GLB_ID 0 0 := by
  simp only [State.fixedRegs, RegFile.write, ident_key, sec_key, insertAt]
  rw [if_neg (by decide), if_neg (by decide)]
  simp only [List.foldl_cons, List.foldl_nil]
  rw [insertAt_ident _ _ _ (by decide), read_ident, lookup_insertAt, if_pos rfl]
  rfl

theorem copyReg_ident (r : Reg) (mask : Word) (old f : RegFile) (h : r.page ≠ 0 ∨ r.off % 4096 ≠ 64) :
    (copyReg r mask old f).read GLB_ID 0 0 = f.read GLB_ID 0 0 := ident_write _ _ _ _ _ h

/-- A part's half changed with its identification word as it was. -/
theorem onChip_keep_at (s : State) (p : Part) (f : Chip → Chip) (h : (f (s.chip p)).regs.read GLB_ID 0 0 = (s.chip p).regs.read GLB_ID 0 0) :
    (s.onChip p f).keep = s.keep := by
  cases p
  · exact Prod.ext h rfl
  · exact Prod.ext rfl (Prod.ext h rfl)

end Sys2Proof.Machine
end

