-- ==== Sys2Proof/Laws/FixedFabric.lean ====
section
/-! SUPPORT. Every operation of shared operations, packets and the fabric leaves the identification words and the queue as they were. -/

set_option Elab.async false
set_option linter.all false

namespace Sys2Proof.Machine

@[simp] theorem State_count_keep (s : State) (p : Part) (f : Fld) (n b i : Nat) (h : f.reg.page ≠ 0 ∨ f.reg.off % 4096 ≠ 64) :
    (s.count p f n b i).keep = s.keep := put_keep _ _ _ _ _ _ h

@[simp] theorem State_addWrap_keep (s : State) (p : Part) (f : Fld) (n b i : Nat) (h : f.reg.page ≠ 0 ∨ f.reg.off % 4096 ≠ 64) :
    (s.addWrap p f n b i).keep = s.keep := put_keep _ _ _ _ _ _ h

@[simp] theorem State_peak_keep (s : State) (p : Part) (f : Fld) (n b i : Nat) (h : f.reg.page ≠ 0 ∨ f.reg.off % 4096 ≠ 64) :
    (s.peak p f n b i).keep = s.keep := put_keep _ _ _ _ _ _ h

@[simp] theorem State_onPort_keep (s : State) (p : Part) (n : Nat) (f : Port → Port) :
    (State.onPort s p n f).keep = s.keep := by
  first
  | (simp +decide [State.onPort]; done)
  | (unfold State.onPort; (repeat' split) <;> (try dsimp only) <;> simp +decide [State.onPort]; done)

@[simp] theorem State_onCore_keep (s : State) (f : SwCore → SwCore) :
    (State.onCore s f).keep = s.keep := by
  first
  | (simp +decide [State.onCore]; done)
  | (unfold State.onCore; (repeat' split) <;> (try dsimp only) <;> simp +decide [State.onCore]; done)

@[simp] theorem State_onPool_keep (s : State) (f : Pool → Pool) :
    (State.onPool s f).keep = s.keep := by
  first
  | (simp +decide [State.onPool]; done)
  | (unfold State.onPool; (repeat' split) <;> (try dsimp only) <;> simp +decide [State.onPool]; done)

@[simp] theorem State_alertSideband_keep (s : State) (page : Nat) :
    (State.alertSideband s page).keep = s.keep := by
  first
  | (simp only [State.alertSideband]; (repeat' split) <;> simp +decide [State.alertSideband]; done)
  | (unfold State.alertSideband; (repeat' split) <;> (try dsimp only) <;> simp +decide [State.alertSideband]; done)

@[simp] theorem State_deliver_keep (s : State) (p : Part) (page : Nat) :
    (State.deliver s p page).keep = s.keep := by
  first
  | (simp +decide [State.deliver]; done)
  | (unfold State.deliver; (repeat' split) <;> (try dsimp only) <;> simp +decide [State.deliver]; done)

@[simp] theorem State_withCauses_keep (s : State) (p : Part) (page : Nat) (f : State → State) (h : ∀ s, (f s).keep = s.keep) :
    (s.withCauses p page f).keep = s.keep := by
  simp only [State.withCauses]; rw [when_keep _ _ _ (by simp)]; exact h s

@[simp] theorem State_cause_keep (s : State) (p : Part) (page bit : Nat) :
    (State.cause s p page bit).keep = s.keep := by
  first
  | (simp +decide [State.cause]; done)
  | (unfold State.cause; (repeat' split) <;> (try dsimp only) <;> simp +decide [State.cause]; done)

@[simp] theorem State_note_keep (s : State) (p : Part) (page code : Nat) :
    (State.note s p page code).keep = s.keep := by
  first
  | (simp +decide [State.note]; done)
  | (unfold State.note; (repeat' split) <;> (try dsimp only) <;> simp +decide [State.note]; done)

@[simp] theorem State_logRec_keep (s : State) (p : Part) (r : ErrRec) :
    (State.logRec s p r).keep = s.keep := by
  first
  | (simp +decide [State.logRec]; done)
  | (unfold State.logRec; (repeat' split) <;> (try dsimp only) <;> simp +decide [State.logRec]; done)

@[simp] theorem State_event_keep (s : State) (p : Part) (page : Nat) (e : Err) (d0 : Nat) (d1 : Nat) (sev : Option Nat) (rung : Option Nat) (esc : Bool) (status : Nat) (reason : Nat) :
    (State.event s p page e d0 d1 sev rung esc status reason).keep = s.keep := by
  first
  | (simp +decide [State.event]; done)
  | (unfold State.event; (repeat' split) <;> (try dsimp only) <;> simp +decide [State.event]; done)

@[simp] theorem State_attested_keep (s : State) (p : Part) (block : Nat) :
    (State.attested s p block).keep = s.keep := by
  first
  | (simp +decide [State.attested]; done)
  | (unfold State.attested; (repeat' split) <;> (try dsimp only) <;> simp +decide [State.attested]; done)

@[simp] theorem State_refuse_keep (s : State) (p : Part) (page : Nat) :
    (State.refuse s p page).keep = s.keep := by
  first
  | (simp +decide [State.refuse]; done)
  | (unfold State.refuse; (repeat' split) <;> (try dsimp only) <;> simp +decide [State.refuse]; done)

@[simp] theorem State_seedLanes_keep (s : State) (p : Part) (n : Nat) :
    (State.seedLanes s p n).keep = s.keep := by
  first
  | (simp +decide [State.seedLanes]; done)
  | (unfold State.seedLanes; (repeat' split) <;> (try dsimp only) <;> simp +decide [State.seedLanes]; done)

@[simp] theorem State_wire_keep (s : State) (p : Part) (n : Nat) (f : List Byte) :
    (State.wire s p n f).keep = s.keep := by
  first
  | (simp +decide [State.wire]; done)
  | (unfold State.wire; (repeat' split) <;> (try dsimp only) <;> simp +decide [State.wire]; done)

@[simp] theorem State_sendFlit_keep (s : State) (p : Part) (n type start : Nat) (payload : List Byte) :
    (State.sendFlit s p n type start payload).keep = s.keep := by
  first
  | (simp +decide [State.sendFlit]; done)
  | (unfold State.sendFlit; (repeat' split) <;> (try dsimp only) <;> simp +decide [State.sendFlit]; done)

@[simp] theorem State_closeGroup_keep (s : State) (p : Part) (n : Nat) :
    (State.closeGroup s p n).keep = s.keep := by
  first
  | (simp +decide [State.closeGroup]; done)
  | (unfold State.closeGroup; (repeat' split) <;> (try dsimp only) <;> simp +decide [State.closeGroup]; done)

@[simp] theorem State_sendGrouped_keep (s : State) (p : Part) (n type start : Nat) (payload : List Byte) :
    (State.sendGrouped s p n type start payload).keep = s.keep := by
  first
  | (simp +decide [State.sendGrouped]; done)
  | (unfold State.sendGrouped; (repeat' split) <;> (try dsimp only) <;> simp +decide [State.sendGrouped]; done)

@[simp] theorem State_sendNak_keep (s : State) (p : Part) (n : Nat) :
    (State.sendNak s p n).keep = s.keep := by
  first
  | (simp +decide [State.sendNak]; done)
  | (unfold State.sendNak; (repeat' split) <;> (try dsimp only) <;> simp +decide [State.sendNak]; done)

@[simp] theorem State_sendControl_keep (s : State) (p : Part) (n type : Nat) (payload : List Byte) :
    (State.sendControl s p n type payload).keep = s.keep := by
  first
  | (simp +decide [State.sendControl]; done)
  | (unfold State.sendControl; (repeat' split) <;> (try dsimp only) <;> simp +decide [State.sendControl]; done)

@[simp] theorem State_flushCtl_keep (fuel : Nat) (p : Part) (n : Nat) (s : State) : (State.flushCtl fuel p n s).keep = s.keep := by
  induction fuel generalizing s with
  | zero => rfl
  | succ f ih => unfold State.flushCtl; (repeat' split) <;> simp [ih]

@[simp] theorem State_loadPacket_keep (s : State) (p : Part) (n : Nat) (k : Packet) (ready : Nat) :
    (State.loadPacket s p n k ready).keep = s.keep := by
  first
  | (simp +decide [State.loadPacket]; done)
  | (unfold State.loadPacket; (repeat' split) <;> (try dsimp only) <;> simp +decide [State.loadPacket]; done)

@[simp] theorem State_feed_keep (fuel : Nat) (p : Part) (n : Nat) (s : State) : (State.feed fuel p n s).keep = s.keep := by
  induction fuel generalizing s with
  | zero => rfl
  | succ f ih => unfold State.feed; dsimp only; (repeat' split) <;> simp [ih]

@[simp] theorem State_pump_keep (fuel : Nat) (p : Part) (n : Nat) (s : State) : (State.pump fuel p n s).keep = s.keep := by
  induction fuel generalizing s with
  | zero => rfl
  | succ f ih => unfold State.pump; dsimp only; (repeat' split) <;> simp [ih]

@[simp] theorem State_pumpAll_keep (s : State) (p : Part) (n : Nat) :
    (State.pumpAll s p n).keep = s.keep := by
  first
  | (simp +decide [State.pumpAll]; done)
  | (unfold State.pumpAll; (repeat' split) <;> (try dsimp only) <;> simp +decide [State.pumpAll]; done)

@[simp] theorem State_transmit_keep (s : State) (n : Nat) (k : Packet) (arrived : Option Nat) :
    (State.transmit s n k arrived).keep = s.keep := by
  first
  | (simp +decide [State.transmit]; done)
  | (unfold State.transmit; (repeat' split) <;> (try dsimp only) <;> simp +decide [State.transmit]; done)

@[simp] theorem State_pullTx_keep (s : State) (n : Nat) (f : Packet → Bool) :
    (State.pullTx s n f).keep = s.keep := by
  first
  | (simp +decide [State.pullTx]; done)
  | (unfold State.pullTx; (repeat' split) <;> (try dsimp only) <;> simp +decide [State.pullTx]; done)

@[simp] theorem State_owe_keep (s : State) (p : Part) (n : Nat) (k : Packet) :
    (State.owe s p n k).keep = s.keep := by
  first
  | (simp +decide [State.owe]; done)
  | (unfold State.owe; (repeat' split) <;> (try dsimp only) <;> simp +decide [State.owe]; done)

@[simp] theorem State_sendCtrl_keep (s : State) (p : Part) (n kind value : Nat) :
    (State.sendCtrl s p n kind value).keep = s.keep := by
  first
  | (simp +decide [State.sendCtrl]; done)
  | (unfold State.sendCtrl; (repeat' split) <;> (try dsimp only) <;> simp +decide [State.sendCtrl]; done)

@[simp] theorem State_enqueue_keep (s : State) (origin : Option Nat) (e : Egress) (k : Packet) (group : Option Nat) (waits : Bool) (inner : Nat) :
    (State.enqueue s origin e k group waits inner).keep = s.keep := by
  first
  | (unfold State.enqueue; (repeat' split) <;> (try dsimp only) <;> simp +decide [State.enqueue]; done)
  | (simp +decide [State.enqueue]; done)

@[simp] theorem State_unreserve_keep (s : State) (q : QEntry) :
    (State.unreserve s q).keep = s.keep := by
  first
  | (simp +decide [State.unreserve]; done)
  | (unfold State.unreserve; (repeat' split) <;> (try dsimp only) <;> simp +decide [State.unreserve]; done)

@[simp] theorem State_dropQueued_keep (s : State) (f : QEntry → Bool) :
    (State.dropQueued s f).keep = s.keep := by
  unfold State.dropQueued; repeat' (first | (simp +decide [State.dropQueued]; done) | (intros; split) | (intros; first | refine Eq.trans (foldl_keep _ _ _ fun _ _ => ?_) ?_ | refine Eq.trans (foldl_fst_keep _ _ _ fun _ _ => ?_) ?_ | refine Eq.trans (when_keep _ _ _ ?_) ?_) | dsimp only | simp +decide [State.dropQueued])

@[simp] theorem State_swSend_keep (s : State) (k : Packet) (inner : Nat) (group : Option Nat) :
    (State.swSend s k inner group).keep = s.keep := by
  first
  | (unfold State.swSend; (repeat' split) <;> (try dsimp only) <;> simp +decide [State.swSend]; done)
  | (simp +decide [State.swSend]; done)

@[simp] theorem State_swMulticast_keep (s : State) (ks : List Packet) :
    (State.swMulticast s ks).keep = s.keep := by
  first
  | (simp +decide [State.swMulticast]; done)
  | (unfold State.swMulticast; (repeat' split) <;> (try dsimp only) <;> simp +decide [State.swMulticast]; done)

@[simp] theorem State_swAnswer_keep (s : State) (k : Packet) (status : Nat) (data : List Byte) (aux : Nat) :
    (State.swAnswer s k status data aux).keep = s.keep := by
  first
  | (simp +decide [State.swAnswer]; done)
  | (unfold State.swAnswer; (repeat' split) <;> (try dsimp only) <;> simp +decide [State.swAnswer]; done)

@[simp] theorem State_onRly_keep (s : State) (f : Relay → Relay) :
    (State.onRly s f).keep = s.keep := by
  first
  | (simp +decide [State.onRly]; done)
  | (unfold State.onRly; (repeat' split) <;> (try dsimp only) <;> simp +decide [State.onRly]; done)

@[simp] theorem State_holdTx_keep (s : State) (n : Nat) :
    (State.holdTx s n).keep = s.keep := by
  first
  | (simp +decide [State.holdTx]; done)
  | (unfold State.holdTx; (repeat' split) <;> (try dsimp only) <;> simp +decide [State.holdTx]; done)

@[simp] theorem State_epRoute_keep (fuel : Nat) (a : Option Nat) (b : Bool) (k : Packet) (s : State) : (State.epRoute fuel a b k s).keep = s.keep := by
  induction fuel generalizing a b k s with
  | zero => rfl
  | succ f ih =>
    unfold State.epRoute
    extract_lets relays noRoute onto
    have hR : ∀ s, (relays s).keep = s.keep := fun s => when_keep _ _ _ (by simp [RLY_RELAYED_COUNT, RLY_RELAYED])
    have hN : ∀ s, (noRoute s).keep = s.keep := by
      intro s
      simp only [noRoute]
      (repeat' split) <;> simp [ih, RLY_DISC_NO_ROUTE, RLY_DISC]
    have hO : ∀ n x s, (onto n x s).keep = s.keep := by
      intro n x s
      simp only [onto]
      (repeat' split) <;> simp [hR, RLY_DISC_LANE_TURN, RLY_DISC]
    clear_value noRoute onto relays
    (repeat' split) <;> first
      | (simp [hN, hO, hR, RLY_DISC_LANE_TURN, RLY_DISC]; done)
      | simp

@[simp] theorem State_epForward_keep (fuel : Nat) (a : Option Nat) (k : Packet) (s : State) : (State.epForward fuel a k s).keep = s.keep := by
  unfold State.epForward; cases a <;> simp

@[simp] theorem State_passBridle_keep (s : State) (k : Packet) :
    (State.passBridle s k).keep = s.keep := by
  first
  | (simp +decide [State.passBridle]; done)
  | (unfold State.passBridle; (repeat' split) <;> (try dsimp only) <;> simp +decide [State.passBridle]; done)

@[simp] theorem State_epInject_keep (s : State) (k : Packet) :
    (State.epInject s k).keep = s.keep := by
  first
  | (unfold State.epInject; (repeat' split) <;> (try dsimp only) <;> simp +decide [State.epInject]; done)
  | (simp +decide [State.epInject]; done)

@[simp] theorem State_epAnswer_keep (s : State) (k : Packet) (status : Nat) (data : List Byte) (aux : Nat) :
    (State.epAnswer s k status data aux).keep = s.keep := by
  first
  | (simp +decide [State.epAnswer]; done)
  | (unfold State.epAnswer; (repeat' split) <;> (try dsimp only) <;> simp +decide [State.epAnswer]; done)

@[simp] theorem State_reply_keep (s : State) (p : Part) (k : Packet) (status : Nat) (data : List Byte) (aux : Nat) :
    (State.reply s p k status data aux).keep = s.keep := by
  first
  | (unfold State.reply; (repeat' split) <;> (try dsimp only) <;> simp +decide [State.reply]; done)
  | (simp +decide [State.reply]; done)

@[simp] theorem State_putMark_keep (s : State) (p : Part) (src tc : Nat) (m : MarkCount) :
    (State.putMark s p src tc m).keep = s.keep := by
  first
  | (unfold State.putMark; (repeat' split) <;> (try dsimp only) <;> simp +decide [State.putMark]; done)
  | (simp +decide [State.putMark]; done)

@[simp] theorem State_sendNotice_keep (s : State) (p : Part) (src tc marks : Nat) :
    (State.sendNotice s p src tc marks).keep = s.keep := by
  first
  | (unfold State.sendNotice; (repeat' split) <;> (try dsimp only) <;> simp +decide [State.sendNotice]; done)
  | (simp +decide [State.sendNotice]; done)

@[simp] theorem State_consume_keep (s : State) (p : Part) (k : Packet) :
    (State.consume s p k).keep = s.keep := by
  first
  | (simp only [State.consume]; (repeat' split) <;> simp +decide [State.consume]; done)
  | (unfold State.consume; (repeat' split) <;> (try dsimp only) <;> simp +decide [State.consume]; done)

@[simp] theorem State_crcFail_keep (s : State) (p : Part) (k : Packet) :
    (State.crcFail s p k).keep = s.keep := by
  first
  | (simp +decide [State.crcFail]; done)
  | (unfold State.crcFail; (repeat' split) <;> (try dsimp only) <;> simp +decide [State.crcFail]; done)

@[simp] theorem State_regDone_keep (s : State) (p : Part) (path : Path) (status : Nat) (data : Word) :
    (State.regDone s p path status data).keep = s.keep := by
  first
  | (unfold State.regDone; (repeat' split) <;> (try dsimp only) <;> simp +decide [State.regDone]; done)
  | (simp +decide [State.regDone]; done)

@[simp] theorem State_refused_keep (s : State) (p : Part) (page : Nat) :
    (State.refused s p page).1.keep = s.keep := by
  first
  | (simp +decide [State.refused]; done)
  | (unfold State.refused; (repeat' split) <;> (try dsimp only) <;> simp +decide [State.refused]; done)

@[simp] theorem State_writeFrame_keep (s : State) (path : Path) (p : Part) (page off : Nat) (w : State → Written) (hw : ∀  s, (w  s).1.keep = s.keep) :
    (State.writeFrame s path p page off w).1.keep = s.keep := by
  first
  | (simp +decide [State.writeFrame, hw]; done)
  | (unfold State.writeFrame; (repeat' split) <;> (try dsimp only) <;> simp +decide [State.writeFrame, hw]; done)

@[simp] theorem State_writeBy_keep (s : State) (path : Path) (p : Part) (page off : Nat) (w : State → Written) (hw : ∀  s, (w  s).1.keep = s.keep) :
    (State.writeBy s path p page off w).keep = s.keep := by
  first
  | (simp +decide [State.writeBy, hw]; done)
  | (unfold State.writeBy; (repeat' split) <;> (try dsimp only) <;> simp +decide [State.writeBy, hw]; done)

@[simp] theorem State_readFrame_keep (s : State) (path : Path) (p : Part) (page off : Nat) (f : State → State × Word) (hf : ∀  s, (f  s).1.keep = s.keep) :
    (State.readFrame s path p page off f).1.keep = s.keep := by
  first
  | (simp +decide [State.readFrame, hf]; done)
  | (unfold State.readFrame; (repeat' split) <;> (try dsimp only) <;> simp +decide [State.readFrame, hf]; done)

@[simp] theorem State_readBy_keep (s : State) (path : Path) (p : Part) (page off : Nat) (f : State → State × Word) (hf : ∀  s, (f  s).1.keep = s.keep) :
    (State.readBy s path p page off f).keep = s.keep := by
  first
  | (simp +decide [State.readBy, hf]; done)
  | (unfold State.readBy; (repeat' split) <;> (try dsimp only) <;> simp +decide [State.readBy, hf]; done)

@[simp] theorem State_onOutcomes_keep (s : State) (p : Part) (f : List Outcome → List Outcome) :
    (State.onOutcomes s p f).keep = s.keep := by
  first
  | (unfold State.onOutcomes; (repeat' split) <;> (try dsimp only) <;> simp +decide [State.onOutcomes]; done)
  | (simp +decide [State.onOutcomes]; done)

@[simp] theorem State_outExpire_keep (s : State) (p : Part) (src tag : Nat) :
    (State.outExpire s p src tag).keep = s.keep := by
  first
  | (simp +decide [State.outExpire]; done)
  | (unfold State.outExpire; (repeat' split) <;> (try dsimp only) <;> simp +decide [State.outExpire]; done)

@[simp] theorem State_keepOutcome_keep (s : State) (p : Part) (k : Packet) (status : Nat) (data : List Byte) (aux : Nat) :
    (State.keepOutcome s p k status data aux).keep = s.keep := by
  first
  | (simp +decide [State.keepOutcome]; done)
  | (unfold State.keepOutcome; (repeat' split) <;> (try dsimp only) <;> simp +decide [State.keepOutcome]; done)

@[simp] theorem State_countHit_keep (s : State) (p : Part) :
    (State.countHit s p).keep = s.keep := by
  first
  | (unfold State.countHit; (repeat' split) <;> (try dsimp only) <;> simp +decide [State.countHit]; done)
  | (simp +decide [State.countHit]; done)

@[simp] theorem State_countFull_keep (s : State) (p : Part) :
    (State.countFull s p).keep = s.keep := by
  first
  | (unfold State.countFull; (repeat' split) <;> (try dsimp only) <;> simp +decide [State.countFull]; done)
  | (simp +decide [State.countFull]; done)

@[simp] theorem State_dedup_keep (s : State) (p : Part) (k : Packet) (f : State → State) (hf : ∀  s, (f  s).keep = s.keep) :
    (State.dedup s p k f).keep = s.keep := by
  first
  | (unfold State.dedup; (repeat' split) <;> (try dsimp only) <;> simp +decide [State.dedup, hf]; done)
  | (simp +decide [State.dedup, hf]; done)

@[simp] theorem State_room_keep (s : State) (p : Part) (k : Packet) (f : State → State) (hf : ∀  s, (f  s).keep = s.keep) :
    (State.room s p k f).keep = s.keep := by
  first
  | (simp +decide [State.room, hf]; done)
  | (unfold State.room; (repeat' split) <;> (try dsimp only) <;> simp +decide [State.room, hf]; done)

@[simp] theorem State_onCmd_keep (s : State) (q i : Nat) (f : Cmd → Cmd) :
    (State.onCmd s q i f).keep = s.keep := by
  first
  | (simp +decide [State.onCmd]; done)
  | (unfold State.onCmd; (repeat' split) <;> (try dsimp only) <;> simp +decide [State.onCmd]; done)

@[simp] theorem State_cmdDone_keep (s : State) (q i status : Nat) (value : Word) (verdict : Bool) :
    (State.cmdDone s q i status value verdict).keep = s.keep := by
  first
  | (simp +decide [State.cmdDone]; done)
  | (unfold State.cmdDone; (repeat' split) <;> (try dsimp only) <;> simp +decide [State.cmdDone]; done)

@[simp] theorem State_onSync_keep (s : State) (p : Part) (f : SyncSt → SyncSt) :
    (State.onSync s p f).keep = s.keep := by
  first
  | (simp +decide [State.onSync]; done)
  | (unfold State.onSync; (repeat' split) <;> (try dsimp only) <;> simp +decide [State.onSync]; done)

@[simp] theorem State_setRelease_keep (s : State) (p : Part) (idx scope : Nat) (a : Agent) :
    (State.setRelease s p idx scope a).keep = s.keep := by
  first
  | (simp +decide [State.setRelease]; done)
  | (unfold State.setRelease; (repeat' split) <;> (try dsimp only) <;> simp +decide [State.setRelease]; done)

@[simp] theorem State_epMismatch_keep (s : State) (rel : Nat × Agent) (acqScope acqQueue idx kind id : Nat) :
    (State.epMismatch s rel acqScope acqQueue idx kind id).keep = s.keep := by
  first
  | (simp +decide [State.epMismatch]; done)
  | (unfold State.epMismatch; (repeat' split) <;> (try dsimp only) <;> simp +decide [State.epMismatch]; done)

@[simp] theorem State_acquireAnswer_keep (s : State) (p : Part) (idx : Nat) (k : Packet) (queue : Nat) :
    (State.acquireAnswer s p idx k queue).keep = s.keep := by
  first
  | (simp +decide [State.acquireAnswer]; done)
  | (unfold State.acquireAnswer; (repeat' split) <;> (try dsimp only) <;> simp +decide [State.acquireAnswer]; done)

@[simp] theorem State_errorAnswer_keep (s : State) (p : Part) (idx : Nat) (k : Packet) :
    (State.errorAnswer s p idx k).keep = s.keep := by
  first
  | (simp +decide [State.errorAnswer]; done)
  | (unfold State.errorAnswer; (repeat' split) <;> (try dsimp only) <;> simp +decide [State.errorAnswer]; done)

@[simp] theorem State_acquireDone_keep (s : State) (q i : Nat) (value : Word) (verdict : Bool) :
    (State.acquireDone s q i value verdict).keep = s.keep := by
  first
  | (simp +decide [State.acquireDone]; done)
  | (unfold State.acquireDone; (repeat' split) <;> (try dsimp only) <;> simp +decide [State.acquireDone]; done)

@[simp] theorem State_ownAcquire_keep (s : State) (idx q i : Nat) :
    (State.ownAcquire s idx q i).keep = s.keep := by
  first
  | (simp +decide [State.ownAcquire]; done)
  | (unfold State.ownAcquire; (repeat' split) <;> (try dsimp only) <;> simp +decide [State.ownAcquire]; done)

@[simp] theorem State_satisfy_keep (s : State) (p : Part) (w : SyncWait) :
    (State.satisfy s p w).keep = s.keep := by
  first
  | (unfold State.satisfy; (repeat' split) <;> (try dsimp only) <;> simp +decide [State.satisfy]; done)
  | (simp +decide [State.satisfy]; done)

@[simp] theorem State_abortWait_keep (s : State) (p : Part) (w : SyncWait) :
    (State.abortWait s p w).keep = s.keep := by
  first
  | (unfold State.abortWait; (repeat' split) <;> (try dsimp only) <;> simp +decide [State.abortWait]; done)
  | (simp +decide [State.abortWait]; done)

@[simp] theorem State_wake_keep (s : State) (p : Part) (idx : Nat) :
    (State.wake s p idx).keep = s.keep := by
  first
  | (simp +decide [State.wake]; done)
  | (unfold State.wake; (repeat' split) <;> (try dsimp only) <;> simp +decide [State.wake]; done)

@[simp] theorem State_release_keep (s : State) (p : Part) (idx : Nat) (v : Word) (scope : Nat) (a : Agent) :
    (State.release s p idx v scope a).keep = s.keep := by
  first
  | (simp +decide [State.release]; done)
  | (unfold State.release; (repeat' split) <;> (try dsimp only) <;> simp +decide [State.release]; done)

@[simp] theorem State_synEnterError_keep (s : State) (p : Part) (idx reason : Nat) :
    (State.synEnterError s p idx reason).keep = s.keep := by
  first
  | (simp +decide [State.synEnterError]; done)
  | (unfold State.synEnterError; (repeat' split) <;> (try dsimp only) <;> simp +decide [State.synEnterError]; done)

@[simp] theorem State_synClearError_keep (s : State) (p : Part) (idx : Nat) :
    (State.synClearError s p idx).keep = s.keep := by
  first
  | (simp +decide [State.synClearError]; done)
  | (unfold State.synClearError; (repeat' split) <;> (try dsimp only) <;> simp +decide [State.synClearError]; done)

@[simp] theorem State_synAdvance_keep (s : State) (idx : Nat) :
    (State.synAdvance s idx).keep = s.keep := by
  first
  | (simp +decide [State.synAdvance]; done)
  | (unfold State.synAdvance; (repeat' split) <;> (try dsimp only) <;> simp +decide [State.synAdvance]; done)

@[simp] theorem State_syncGuard_keep (s : State) (p : Part) (k : Packet) (update : Bool) (f : State → State) (hf : ∀  s, (f  s).keep = s.keep) :
    (State.syncGuard s p k update f).keep = s.keep := by
  first
  | (simp +decide [State.syncGuard, hf]; done)
  | (unfold State.syncGuard; (repeat' split) <;> (try dsimp only) <;> simp +decide [State.syncGuard, hf]; done)

@[simp] theorem State_syncUpdate_keep (s : State) (p : Part) (k : Packet) (queue : Nat) (v : Word → Word) :
    (State.syncUpdate s p k queue v).keep = s.keep := by
  first
  | (simp +decide [State.syncUpdate]; done)
  | (unfold State.syncUpdate; (repeat' split) <;> (try dsimp only) <;> simp +decide [State.syncUpdate]; done)

@[simp] theorem State_hostAcquire_keep (s : State) :
    (State.hostAcquire s).keep = s.keep := by
  first
  | (simp only [State.hostAcquire]; (repeat' split) <;> simp +decide [State.hostAcquire]; done)
  | (unfold State.hostAcquire; (repeat' split) <;> (try dsimp only) <;> simp +decide [State.hostAcquire]; done)

theorem synAcqRead_keep (path : Path) (s : State) :
    (synAcqRead path s).keep = s.keep := by
  first
  | (simp +decide [synAcqRead]; done)
  | (unfold synAcqRead; (repeat' split) <;> (try dsimp only) <;> simp +decide [synAcqRead]; done)

@[simp] theorem State_doAdd_keep (s : State) (a : HostAdd) :
    (State.doAdd s a).keep = s.keep := by
  first
  | (simp +decide [State.doAdd]; done)
  | (unfold State.doAdd; (repeat' split) <;> (try dsimp only) <;> simp +decide [State.doAdd]; done)

@[simp] theorem State_hostAdds_keep (s : State) :
    (State.hostAdds s).keep = s.keep := by
  first
  | (simp +decide [State.hostAdds]; done)
  | (unfold State.hostAdds; (repeat' split) <;> (try dsimp only) <;> simp +decide [State.hostAdds]; done)

@[simp] theorem State_hostAdd_keep (s : State) (v : Word) :
    (State.hostAdd s v).1.keep = s.keep := by
  first
  | (simp +decide [State.hostAdd]; done)
  | (unfold State.hostAdd; (repeat' split) <;> (try dsimp only) <;> simp +decide [State.hostAdd]; done)

theorem synAddWrite_keep (path : Path) (v : Word) (s : State) :
    (synAddWrite path v s).keep = s.keep := by
  first
  | (simp +decide [synAddWrite]; done)
  | (unfold synAddWrite; (repeat' split) <;> (try dsimp only) <;> simp +decide [synAddWrite]; done)

theorem synErrorClear_keep (path : Path) (p : Part) (s : State) :
    (synErrorClear path p s).keep = s.keep := by
  first
  | (simp +decide [synErrorClear]; done)
  | (unfold synErrorClear; (repeat' split) <;> (try dsimp only) <;> simp +decide [synErrorClear]; done)

@[simp] theorem State_setSynCfg_keep (s : State) (p : Part) (v : Word) :
    (State.setSynCfg s p v).1.keep = s.keep := by
  first
  | (simp +decide [State.setSynCfg]; done)
  | (unfold State.setSynCfg; (repeat' split) <;> (try dsimp only) <;> simp +decide [State.setSynCfg]; done)

@[simp] theorem State_feedPort_keep (s : State) (old : List QEntry) (q : QEntry) : (s.feedPort old q).keep = s.keep := by
  unfold State.feedPort; split <;> simp

@[simp] theorem State_xbarTick_keep (s : State) : s.xbarTick.keep = s.keep := by
  unfold State.xbarTick
  extract_lets old r s1 s2 s3 s4 s5
  have h1 : s1.keep = s.keep := by simp [s1]
  have h2 : s2.keep = s1.keep := foldl_keep _ _ _ fun s q => by
    dsimp only; split
    · exact when_keep _ _ _ (by simp)
    · rfl
  have h3 : s3.keep = s2.keep := by simp [s3, XBR_CELLS_COUNT, XBR_CELLS, XBR_RESEQ_PEAK, XBR_RESEQ]
  have h4 : s4.keep = s3.keep := when_keep _ _ _ (by simp [XBR_ECC_CE, XBR_ECC])
  have h5 : s5.keep = s4.keep := foldl_keep _ _ _ fun s q => by simp
  clear_value s5 s4 s3 s2 s1 r
  split
  · rfl
  · rw [← h1, ← h2, ← h3, ← h4, ← h5]; simp

end Sys2Proof.Machine
end

