-- ==== Sys2Proof/Laws/FixedHerds.lean ====
section
/-! SUPPORT. Every operation of pool, reduction cores, herds and services leaves the identification words and the queue as they were. -/

set_option Elab.async false
set_option linter.all false

namespace Sys2Proof.Machine

@[simp] theorem State_onHrd_keep (s : State) (f : Herds → Herds) :
    (State.onHrd s f).keep = s.keep := by
  first
  | (simp +decide [State.onHrd]; done)
  | (unfold State.onHrd; (repeat' split) <;> (try dsimp only) <;> simp +decide [State.onHrd]; done)

@[simp] theorem State_putHerd_keep (s : State) (i : Nat) (h : Herd) :
    (State.putHerd s i h).keep = s.keep := by
  first
  | (simp +decide [State.putHerd]; done)
  | (unfold State.putHerd; (repeat' split) <;> (try dsimp only) <;> simp +decide [State.putHerd]; done)

@[simp] theorem State_onHerd_keep (s : State) (i : Nat) (f : Herd → Herd) :
    (State.onHerd s i f).keep = s.keep := by
  first
  | (unfold State.onHerd; (repeat' split) <;> (try dsimp only) <;> simp +decide [State.onHerd]; done)
  | (simp +decide [State.onHerd]; done)

@[simp] theorem State_onSvc_keep (s : State) (f : Svc → Svc) :
    (State.onSvc s f).keep = s.keep := by
  first
  | (simp +decide [State.onSvc]; done)
  | (unfold State.onSvc; (repeat' split) <;> (try dsimp only) <;> simp +decide [State.onSvc]; done)

@[simp] theorem State_onAttach_keep (s : State) (i : Nat) (f : Attach → Attach) :
    (State.onAttach s i f).keep = s.keep := by
  first
  | (simp +decide [State.onAttach]; done)
  | (unfold State.onAttach; (repeat' split) <;> (try dsimp only) <;> simp +decide [State.onAttach]; done)

@[simp] theorem State_toMember_keep (s : State) (i slot node op : Nat) (pre : HerdPrefix) (data : List Byte) (h : Herd) :
    (State.toMember s i slot node op pre data h).keep = s.keep := by
  first
  | (simp +decide [State.toMember]; done)
  | (unfold State.toMember; (repeat' split) <;> (try dsimp only) <;> simp +decide [State.toMember]; done)

@[simp] theorem State_toParent_keep (s : State) (slot op : Nat) (pre : HerdPrefix) (data : List Byte) (h : Herd) :
    (State.toParent s slot op pre data h).keep = s.keep := by
  first
  | (simp +decide [State.toParent]; done)
  | (unfold State.toParent; (repeat' split) <;> (try dsimp only) <;> simp +decide [State.toParent]; done)

@[simp] theorem State_toChild_keep (s : State) (slot op : Nat) (pre : HerdPrefix) (data : List Byte) (h : Herd) :
    (State.toChild s slot op pre data h).keep = s.keep := by
  first
  | (simp +decide [State.toChild]; done)
  | (unfold State.toChild; (repeat' split) <;> (try dsimp only) <;> simp +decide [State.toChild]; done)

@[simp] theorem State_refuseMember_keep (s : State) (k : Packet) (status reason : Nat) (swappedOut twinLost : Bool) :
    (State.refuseMember s k status reason swappedOut twinLost).keep = s.keep := by
  first
  | (simp +decide [State.refuseMember]; done)
  | (unfold State.refuseMember; (repeat' split) <;> (try dsimp only) <;> simp +decide [State.refuseMember]; done)

@[simp] theorem State_askUp_keep (s : State) (h : Herd) (reason : Nat) (fo : Bool) (except : Option Nat) :
    (State.askUp s h reason fo except).keep = s.keep := by
  first
  | (simp +decide [State.askUp]; done)
  | (unfold State.askUp; (repeat' split) <;> (try dsimp only) <;> simp +decide [State.askUp]; done)

@[simp] theorem State_tellDown_keep (s : State) (i : Nat) (h : Herd) (reason : Nat) (fo : Bool) :
    (State.tellDown s i h reason fo).keep = s.keep := by
  first
  | (simp +decide [State.tellDown]; done)
  | (unfold State.tellDown; (repeat' split) <;> (try dsimp only) <;> simp +decide [State.tellDown]; done)

@[simp] theorem State_hrdDone_keep (s : State) (status detail : Nat) :
    (State.hrdDone s status detail).keep = s.keep := by
  first
  | (simp +decide [State.hrdDone]; done)
  | (unfold State.hrdDone; (repeat' split) <;> (try dsimp only) <;> simp +decide [State.hrdDone]; done)

@[simp] theorem State_freeHerd_keep (s : State) (i : Nat) :
    (State.freeHerd s i).keep = s.keep := by
  first
  | (unfold State.freeHerd; (repeat' split) <;> (try dsimp only) <;> simp +decide [State.freeHerd]; done)
  | (simp +decide [State.freeHerd]; done)

@[simp] theorem State_leaveAborting_keep (s : State) (i : Nat) :
    (State.leaveAborting s i).keep = s.keep := by
  first
  | (unfold State.leaveAborting; (repeat' split) <;> (try dsimp only) <;> simp +decide [State.leaveAborting]; done)
  | (simp +decide [State.leaveAborting]; done)

@[simp] theorem State_checkAcked_keep (s : State) (i : Nat) :
    (State.checkAcked s i).keep = s.keep := by
  first
  | (unfold State.checkAcked; (repeat' split) <;> (try dsimp only) <;> simp +decide [State.checkAcked]; done)
  | (simp +decide [State.checkAcked]; done)

@[simp] theorem State_dropResidue_keep (s : State) (i : Nat) :
    (State.dropResidue s i).keep = s.keep := by
  first
  | (simp +decide [State.dropResidue]; done)
  | (unfold State.dropResidue; (repeat' split) <;> (try dsimp only) <;> simp +decide [State.dropResidue]; done)

@[simp] theorem State_keepStores_keep (s : State) (i : Nat) :
    (State.keepStores s i).keep = s.keep := by
  first
  | (simp +decide [State.keepStores]; done)
  | (unfold State.keepStores; (repeat' split) <;> (try dsimp only) <;> simp +decide [State.keepStores]; done)

@[simp] theorem State_decideHerd_keep (s : State) (i reason : Nat) (fo : Bool) (via : Option Nat) :
    (State.decideHerd s i reason fo via).keep = s.keep := by
  first
  | (unfold State.decideHerd; (repeat' split) <;> (try dsimp only) <;> simp +decide [State.decideHerd]; done)
  | (simp +decide [State.decideHerd]; done)

@[simp] theorem State_restate_keep (s : State) (i reason : Nat) :
    (State.restate s i reason).keep = s.keep := by
  first
  | (unfold State.restate; (repeat' split) <;> (try dsimp only) <;> simp +decide [State.restate]; done)
  | (simp +decide [State.restate]; done)

@[simp] theorem State_herdCondition_keep (s : State) (i reason : Nat) (path : Bool) :
    (State.herdCondition s i reason path).keep = s.keep := by
  first
  | (unfold State.herdCondition; (repeat' split) <;> (try dsimp only) <;> simp +decide [State.herdCondition]; done)
  | (simp +decide [State.herdCondition]; done)

@[simp] theorem State_upLost_keep (s : State) (i slot : Nat) :
    (State.upLost s i slot).keep = s.keep := by
  first
  | (unfold State.upLost; (repeat' split) <;> (try dsimp only) <;> simp +decide [State.upLost]; done)
  | (simp +decide [State.upLost]; done)

@[simp] theorem State_actOnLoss_keep (s : State) (i v : Nat) (x0 : SlotLoss) :
    (State.actOnLoss s i v x0).keep = s.keep := by
  first
  | (unfold State.actOnLoss; (repeat' split) <;> (try dsimp only) <;> simp +decide [State.actOnLoss]; done)
  | (simp +decide [State.actOnLoss]; done)

@[simp] theorem State_herdsPortLost_keep (s : State) (n : Nat) : (s.herdsPortLost n).keep = s.keep := by
  refine foldl_keep _ _ _ fun s e => ?_
  dsimp only
  rw [State_checkAcked_keep]
  refine foldl_keep _ _ _ fun s v => ?_
  split
  · split <;> simp
  · rfl

@[simp] theorem State_abortHerds_keep (s : State) (reason : Nat) (f : Nat → Herd → Bool) :
    (State.abortHerds s reason f).keep = s.keep := by
  first
  | (simp +decide [State.abortHerds]; done)
  | (unfold State.abortHerds; (repeat' split) <;> (try dsimp only) <;> simp +decide [State.abortHerds]; done)

@[simp] theorem State_thirdFault_keep (s : State) (p : Part) (n : Nat) :
    (State.thirdFault s p n).keep = s.keep := by
  first
  | (simp +decide [State.thirdFault]; done)
  | (unfold State.thirdFault; (repeat' split) <;> (try dsimp only) <;> simp +decide [State.thirdFault]; done)

@[simp] theorem State_revokeHerds_keep (s : State) (p : Nat) :
    (State.revokeHerds s p).keep = s.keep := by
  first
  | (simp +decide [State.revokeHerds]; done)
  | (unfold State.revokeHerds; (repeat' split) <;> (try dsimp only) <;> simp +decide [State.revokeHerds]; done)

@[simp] theorem State_noCoreLeft_keep (s : State) :
    (State.noCoreLeft s).keep = s.keep := by
  first
  | (simp +decide [State.noCoreLeft]; done)
  | (unfold State.noCoreLeft; (repeat' split) <;> (try dsimp only) <;> simp +decide [State.noCoreLeft]; done)

@[simp] theorem State_fenceCore_keep (s : State) (c cause : Nat) :
    (State.fenceCore s c cause).keep = s.keep := by
  first
  | (simp +decide [State.fenceCore]; done)
  | (unfold State.fenceCore; (repeat' split) <;> (try dsimp only) <;> simp +decide [State.fenceCore]; done)

theorem coreResidueFault_keep (c : Nat) (selfCheck : Bool) (work : Option (Nat × Nat)) (s : State) :
    (coreResidueFault c selfCheck work s).keep = s.keep := by
  first
  | (simp only [coreResidueFault]; (repeat' split) <;> simp +decide [coreResidueFault]; done)
  | (unfold coreResidueFault; (repeat' split) <;> (try dsimp only) <;> simp +decide [coreResidueFault]; done)

@[simp] theorem State_rdcFence_keep (s : State) (c : Nat) :
    (State.rdcFence s c).1.keep = s.keep := by
  first
  | (simp +decide [State.rdcFence]; done)
  | (unfold State.rdcFence; (repeat' split) <;> (try dsimp only) <;> simp +decide [State.rdcFence]; done)

theorem rdcFenceWrite_keep (path : Path) (c : Nat) (s : State) :
    (rdcFenceWrite path c s).keep = s.keep := by
  first
  | (simp +decide [rdcFenceWrite]; done)
  | (unfold rdcFenceWrite; (repeat' split) <;> (try dsimp only) <;> simp +decide [rdcFenceWrite]; done)

@[simp] theorem State_rdcReadmit_keep (s : State) (c : Nat) :
    (State.rdcReadmit s c).1.keep = s.keep := by
  first
  | (simp +decide [State.rdcReadmit]; done)
  | (unfold State.rdcReadmit; (repeat' split) <;> (try dsimp only) <;> simp +decide [State.rdcReadmit]; done)

theorem rdcReadmitWrite_keep (path : Path) (c : Nat) (s : State) :
    (rdcReadmitWrite path c s).keep = s.keep := by
  first
  | (simp +decide [rdcReadmitWrite]; done)
  | (unfold rdcReadmitWrite; (repeat' split) <;> (try dsimp only) <;> simp +decide [rdcReadmitWrite]; done)

@[simp] theorem State_rdcSelftest_keep (s : State) (c : Nat) :
    (State.rdcSelftest s c).1.keep = s.keep := by
  first
  | (simp +decide [State.rdcSelftest]; done)
  | (unfold State.rdcSelftest; (repeat' split) <;> (try dsimp only) <;> simp +decide [State.rdcSelftest]; done)

theorem rdcSelftestWrite_keep (path : Path) (c : Nat) (s : State) :
    (rdcSelftestWrite path c s).keep = s.keep := by
  first
  | (simp +decide [rdcSelftestWrite]; done)
  | (unfold rdcSelftestWrite; (repeat' split) <;> (try dsimp only) <;> simp +decide [rdcSelftestWrite]; done)

theorem selftestComplete_keep (c : Nat) (pass : Bool) (failFmt : Nat) (s : State) :
    (selftestComplete c pass failFmt s).keep = s.keep := by
  first
  | (simp +decide [selftestComplete]; done)
  | (unfold selftestComplete; (repeat' split) <;> (try dsimp only) <;> simp +decide [selftestComplete]; done)

@[simp] theorem State_addOps_keep (s : State) (c ops : Nat) :
    (State.addOps s c ops).keep = s.keep := by
  first
  | (simp +decide [State.addOps]; done)
  | (unfold State.addOps; (repeat' split) <;> (try dsimp only) <;> simp +decide [State.addOps]; done)

@[simp] theorem State_rowOps_keep (s : State) (n : Nat) :
    (State.rowOps s n).keep = s.keep := by
  first
  | (simp +decide [State.rowOps]; done)
  | (unfold State.rowOps; (repeat' split) <;> (try dsimp only) <;> simp +decide [State.rowOps]; done)

@[simp] theorem State_coreChunk_keep (s : State) (c fl : Nat) :
    (State.coreChunk s c fl).keep = s.keep := by
  first
  | (simp +decide [State.coreChunk]; done)
  | (unfold State.coreChunk; (repeat' split) <;> (try dsimp only) <;> simp +decide [State.coreChunk]; done)

@[simp] theorem State_setGran_keep (s : State) (g st : Nat) (ptn index use : Nat) :
    (State.setGran s g st ptn index use).keep = s.keep := by
  first
  | (simp +decide [State.setGran]; done)
  | (unfold State.setGran; (repeat' split) <;> (try dsimp only) <;> simp +decide [State.setGran]; done)

@[simp] theorem State_hbmWrite_keep (s : State) (hl : Nat) (bs : List Byte) :
    (State.hbmWrite s hl bs).keep = s.keep := by
  first
  | (simp +decide [State.hbmWrite]; done)
  | (unfold State.hbmWrite; (repeat' split) <;> (try dsimp only) <;> simp +decide [State.hbmWrite]; done)

@[simp] theorem State_decayed_keep (s : State) (media : List (Nat × Bool)) :
    (State.decayed s media).keep = s.keep := by
  first
  | (simp +decide [State.decayed]; done)
  | (unfold State.decayed; (repeat' split) <;> (try dsimp only) <;> simp +decide [State.decayed]; done)

@[simp] theorem State_eccRead_keep (s : State) (hl : Nat) :
    (State.eccRead s hl).1.keep = s.keep := by
  first
  | (unfold State.eccRead; (repeat' split) <;> (try dsimp only) <;> simp +decide [State.eccRead]; done)
  | (simp +decide [State.eccRead]; done)

@[simp] theorem State_putDir_keep (s : State) (key : Nat) (e : DirEntry) :
    (State.putDir s key e).keep = s.keep := by
  first
  | (simp +decide [State.putDir]; done)
  | (unfold State.putDir; (repeat' split) <;> (try dsimp only) <;> simp +decide [State.putDir]; done)

@[simp] theorem State_startDrain_keep (s : State) (p d : Nat) :
    (State.startDrain s p d).keep = s.keep := by
  first
  | (simp +decide [State.startDrain]; done)
  | (unfold State.startDrain; (repeat' split) <;> (try dsimp only) <;> simp +decide [State.startDrain]; done)

@[simp] theorem State_stopPartition_keep (s : State) (p cause : Nat) :
    (State.stopPartition s p cause).keep = s.keep := by
  first
  | (simp +decide [State.stopPartition]; done)
  | (unfold State.stopPartition; (repeat' split) <;> (try dsimp only) <;> simp +decide [State.stopPartition]; done)

@[simp] theorem State_overflowLost_keep (s : State) (key : Nat) :
    (State.overflowLost s key).keep = s.keep := by
  first
  | (simp +decide [State.overflowLost]; done)
  | (unfold State.overflowLost; (repeat' split) <;> (try dsimp only) <;> simp +decide [State.overflowLost]; done)

@[simp] theorem State_queueReq_keep (s : State) (kind : PKind) (ptn off len : Nat) (ms : List Member) (comb : Bool) :
    (State.queueReq s kind ptn off len ms comb).keep = s.keep := by
  first
  | (simp +decide [State.queueReq]; done)
  | (unfold State.queueReq; (repeat' split) <;> (try dsimp only) <;> simp +decide [State.queueReq]; done)

@[simp] theorem State_markLost_keep (s : State) (key cause slot : Nat) :
    (State.markLost s key cause slot).keep = s.keep := by
  first
  | (simp +decide [State.markLost]; done)
  | (unfold State.markLost; (repeat' split) <;> (try dsimp only) <;> simp +decide [State.markLost]; done)

@[simp] theorem State_clearLost_keep (s : State) (key : Nat) :
    (State.clearLost s key).keep = s.keep := by
  first
  | (simp +decide [State.clearLost]; done)
  | (unfold State.clearLost; (repeat' split) <;> (try dsimp only) <;> simp +decide [State.clearLost]; done)

@[simp] theorem State_dropSlot_keep (s : State) (i cause : Nat) :
    (State.dropSlot s i cause).keep = s.keep := by
  unfold State.dropSlot; repeat' (first | (simp +decide [State.dropSlot]; done) | (intros; split) | (intros; first | refine Eq.trans (foldl_keep _ _ _ fun _ _ => ?_) ?_ | refine Eq.trans (foldl_fst_keep _ _ _ fun _ _ => ?_) ?_ | refine Eq.trans (when_keep _ _ _ ?_) ?_) | dsimp only | simp +decide [State.dropSlot])

@[simp] theorem State_fenceAgent_keep (s : State) (i cause : Nat) :
    (State.fenceAgent s i cause).keep = s.keep := by
  first
  | (simp +decide [State.fenceAgent]; done)
  | (unfold State.fenceAgent; (repeat' split) <;> (try dsimp only) <;> simp +decide [State.fenceAgent]; done)

@[simp] theorem State_endRemoval_keep (s : State) (i : Nat) :
    (State.endRemoval s i).keep = s.keep := by
  first
  | (simp +decide [State.endRemoval]; done)
  | (unfold State.endRemoval; (repeat' split) <;> (try dsimp only) <;> simp +decide [State.endRemoval]; done)

@[simp] theorem State_onRecall_keep (s : State) (key : Nat) (f : Recall → Recall) :
    (State.onRecall s key f).keep = s.keep := by
  first
  | (unfold State.onRecall; (repeat' split) <;> (try dsimp only) <;> simp +decide [State.onRecall]; done)
  | (simp +decide [State.onRecall]; done)

@[simp] theorem State_sendSnoop_keep (s : State) (key slot : Nat) :
    (State.sendSnoop s key slot).keep = s.keep := by
  first
  | (unfold State.sendSnoop; (repeat' split) <;> (try dsimp only) <;> simp +decide [State.sendSnoop]; done)
  | (simp +decide [State.sendSnoop]; done)

@[simp] theorem State_sendSnoops_keep (s : State) (key : Nat) :
    (State.sendSnoops s key).keep = s.keep := by
  first
  | (unfold State.sendSnoops; (repeat' split) <;> (try dsimp only) <;> simp +decide [State.sendSnoops]; done)
  | (simp +decide [State.sendSnoops]; done)

@[simp] theorem State_recallLine_keep (s : State) (key : Nat) (inv : Bool) (who : Nat) :
    (State.recallLine s key inv who).keep = s.keep := by
  first
  | (unfold State.recallLine; (repeat' split) <;> (try dsimp only) <;> simp +decide [State.recallLine]; done)
  | (simp +decide [State.recallLine]; done)

@[simp] theorem State_onReq_keep (s : State) (id : Nat) (f : PReq → PReq) :
    (State.onReq s id f).keep = s.keep := by
  first
  | (simp +decide [State.onReq]; done)
  | (unfold State.onReq; (repeat' split) <;> (try dsimp only) <;> simp +decide [State.onReq]; done)

@[simp] theorem State_wayFree_keep (s : State) (r : PReq) (key : Nat) :
    (State.wayFree s r key).1.keep = s.keep := by
  first
  | (unfold State.wayFree; (repeat' split) <;> (try dsimp only) <;> simp +decide [State.wayFree]; done)
  | (simp +decide [State.wayFree]; done)

@[simp] theorem State_bulkAccess_keep (s : State) (p line : Nat) (data : Option (List Byte)) (slot req : Option Nat) :
    (State.bulkAccess s p line data slot req).keep = s.keep := by
  first
  | (simp +decide [State.bulkAccess]; done)
  | (unfold State.bulkAccess; (repeat' split) <;> (try dsimp only) <;> simp +decide [State.bulkAccess]; done)

@[simp] theorem State_putSlot_keep (s : State) (hl : Nat) (c : Option CacheSlot) :
    (State.putSlot s hl c).keep = s.keep := by
  first
  | (simp +decide [State.putSlot]; done)
  | (unfold State.putSlot; (repeat' split) <;> (try dsimp only) <;> simp +decide [State.putSlot]; done)

@[simp] theorem State_writeBack_keep (s : State) (hl : Nat) (c : CacheSlot) :
    (State.writeBack s hl c).keep = s.keep := by
  first
  | (simp +decide [State.writeBack]; done)
  | (unfold State.writeBack; (repeat' split) <;> (try dsimp only) <;> simp +decide [State.writeBack]; done)

@[simp] theorem State_present_keep (s : State) (r : PReq) (line : Nat) (full tc5 : Bool) :
    (State.present s r line full tc5).1.keep = s.keep := by
  first
  | (simp only [State.present]; (repeat' split) <;> simp +decide [State.present]; done)
  | (unfold State.present; (repeat' split) <;> (try dsimp only) <;> simp +decide [State.present]; done)

@[simp] theorem State_countCache_keep (s : State) (r : PReq) :
    (State.countCache s r).keep = s.keep := by
  first
  | (simp +decide [State.countCache]; done)
  | (unfold State.countCache; (repeat' split) <;> (try dsimp only) <;> simp +decide [State.countCache]; done)

@[simp] theorem State_storeLine_keep (s : State) (r : PReq) (line : Nat) (bs : List Byte) (x0 : Pres) :
    (State.storeLine s r line bs x0).keep = s.keep := by
  first
  | (unfold State.storeLine; (repeat' split) <;> (try dsimp only) <;> simp +decide [State.storeLine]; done)
  | (simp +decide [State.storeLine]; done)

@[simp] theorem State_poolAnswer_keep (s : State) (k : Packet) (status : Nat) (data : List Byte) (aux : Nat) (uncached : Bool) :
    (State.poolAnswer s k status data aux uncached).keep = s.keep := by
  first
  | (simp +decide [State.poolAnswer]; done)
  | (unfold State.poolAnswer; (repeat' split) <;> (try dsimp only) <;> simp +decide [State.poolAnswer]; done)

@[simp] theorem State_takeData_keep (s : State) (key slot : Nat) (bs : List Byte) (ask : Option Packet) :
    (State.takeData s key slot bs ask).keep = s.keep := by
  first
  | (simp only [State.takeData]; (repeat' split) <;> simp +decide [State.takeData]; done)
  | (unfold State.takeData; (repeat' split) <;> (try dsimp only) <;> simp +decide [State.takeData]; done)

@[simp] theorem State_hostAnswer_keep (s : State) (kind dpa status : Nat) (data : List Byte) (uncached : Bool) :
    (State.hostAnswer s kind dpa status data uncached).keep = s.keep := by
  first
  | (simp +decide [State.hostAnswer]; done)
  | (unfold State.hostAnswer; (repeat' split) <;> (try dsimp only) <;> simp +decide [State.hostAnswer]; done)

@[simp] theorem State_endGather_keep (s : State) (g : Gather) :
    (State.endGather s g).keep = s.keep := by
  first
  | (simp +decide [State.endGather]; done)
  | (unfold State.endGather; (repeat' split) <;> (try dsimp only) <;> simp +decide [State.endGather]; done)

@[simp] theorem State_endScatter_keep (s : State) (g : Gather) :
    (State.endScatter s g).keep = s.keep := by
  first
  | (simp +decide [State.endScatter]; done)
  | (unfold State.endScatter; (repeat' split) <;> (try dsimp only) <;> simp +decide [State.endScatter]; done)

@[simp] theorem State_gatherPart_keep (s : State) (id n status : Nat) (data : List Byte) :
    (State.gatherPart s id n status data).keep = s.keep := by
  first
  | (unfold State.gatherPart; (repeat' split) <;> (try dsimp only) <;> simp +decide [State.gatherPart]; done)
  | (simp +decide [State.gatherPart]; done)

@[simp] theorem State_streamDone_keep (s : State) (herd at_ n status : Nat) (data : List Byte) :
    (State.streamDone s herd at_ n status data).keep = s.keep := by
  first
  | (simp +decide [State.streamDone]; done)
  | (unfold State.streamDone; (repeat' split) <;> (try dsimp only) <;> simp +decide [State.streamDone]; done)

@[simp] theorem State_answerMember_keep (s : State) (r : PReq) (m : Member) (status : Nat) (data : List Byte) (aux : Nat) (uncached : Bool) :
    (State.answerMember s r m status data aux uncached).keep = s.keep := by
  first
  | (unfold State.answerMember; (repeat' split) <;> (try dsimp only) <;> simp +decide [State.answerMember]; done)
  | (simp +decide [State.answerMember]; done)

@[simp] theorem State_finishReq_keep (s : State) (r : PReq) (res : List (Nat × List Byte × Nat)) (uncached : Bool) :
    (State.finishReq s r res uncached).keep = s.keep := by
  first
  | (simp +decide [State.finishReq]; done)
  | (unfold State.finishReq; (repeat' split) <;> (try dsimp only) <;> simp +decide [State.finishReq]; done)

@[simp] theorem State_failReq_keep (s : State) (r : PReq) (status : Nat) :
    (State.failReq s r status).keep = s.keep := by
  first
  | (simp +decide [State.failReq]; done)
  | (unfold State.failReq; (repeat' split) <;> (try dsimp only) <;> simp +decide [State.failReq]; done)

@[simp] theorem State_countGroup_keep (s : State) (r : PReq) :
    (State.countGroup s r).keep = s.keep := by
  first
  | (simp +decide [State.countGroup]; done)
  | (unfold State.countGroup; (repeat' split) <;> (try dsimp only) <;> simp +decide [State.countGroup]; done)

@[simp] theorem State_storeBytes_keep (s : State) (r : PReq) (ps : List (Nat × Pres)) (bs : List Byte) :
    (State.storeBytes s r ps bs).keep = s.keep := by
  first
  | (simp +decide [State.storeBytes]; done)
  | (unfold State.storeBytes; (repeat' split) <;> (try dsimp only) <;> simp +decide [State.storeBytes]; done)

@[simp] theorem State_finishOrWait_keep (s : State) (r : PReq) (res : List (Nat × List Byte × Nat)) (uncached : Bool) :
    (State.finishOrWait s r res uncached).keep = s.keep := by
  first
  | (unfold State.finishOrWait; (repeat' split) <;> (try dsimp only) <;> simp +decide [State.finishOrWait]; done)
  | (simp +decide [State.finishOrWait]; done)

@[simp] theorem State_grant_keep (s : State) (r : PReq) (slot : Nat) (excl : Bool) :
    (State.grant s r slot excl).keep = s.keep := by
  first
  | (simp +decide [State.grant]; done)
  | (unfold State.grant; (repeat' split) <;> (try dsimp only) <;> simp +decide [State.grant]; done)

@[simp] theorem State_eccLines_keep (s : State) (r : PReq) (ps : List (Nat × Pres)) (f : Nat → Bool) :
    (State.eccLines s r ps f).1.keep = s.keep := by
  first
  | (simp +decide [State.eccLines]; done)
  | (unfold State.eccLines; (repeat' split) <;> (try dsimp only) <;> simp +decide [State.eccLines]; done)

@[simp] theorem State_performReq_keep (s : State) (r : PReq) (kind : PKind) (ps : List (Nat × Pres)) :
    (State.performReq s r kind ps).keep = s.keep := by
  first
  | (unfold State.performReq; (repeat' split) <;> (try dsimp only) <;> simp +decide [State.performReq]; done)
  | (simp +decide [State.performReq]; done)

@[simp] theorem State_presentAll_keep (s : State) (r : PReq) :
    (State.presentAll s r).1.keep = s.keep := by
  first
  | (simp +decide [State.presentAll]; done)
  | (unfold State.presentAll; (repeat' split) <;> (try dsimp only) <;> simp +decide [State.presentAll]; done)

@[simp] theorem State_placeAndPerform_keep (s : State) (r : PReq) (kind : PKind) :
    (State.placeAndPerform s r kind).keep = s.keep := by
  first
  | (simp only [State.placeAndPerform]; (repeat' split) <;> simp +decide [State.placeAndPerform]; done)
  | (unfold State.placeAndPerform; (repeat' split) <;> (try dsimp only) <;> simp +decide [State.placeAndPerform]; done)

@[simp] theorem State_failLost_keep (s : State) (r : PReq) :
    (State.failLost s r).keep = s.keep := by
  first
  | (simp +decide [State.failLost]; done)
  | (unfold State.failLost; (repeat' split) <;> (try dsimp only) <;> simp +decide [State.failLost]; done)

@[simp] theorem State_tryReq_keep (s : State) (r : PReq) :
    (State.tryReq s r).keep = s.keep := by
  first
  | (unfold State.tryReq; (repeat' split) <;> (try dsimp only) <;> simp +decide [State.tryReq]; done)
  | (simp +decide [State.tryReq]; done)

@[simp] theorem State_sweep_keep (s : State) :
    (State.sweep s).keep = s.keep := by
  unfold State.sweep; repeat' (first | (simp +decide [State.sweep]; done) | (intros; split) | (intros; first | refine Eq.trans (foldl_keep _ _ _ fun _ _ => ?_) ?_ | refine Eq.trans (foldl_fst_keep _ _ _ fun _ _ => ?_) ?_ | refine Eq.trans (when_keep _ _ _ ?_) ?_) | dsimp only | simp +decide [State.sweep])

@[simp] theorem State_endRemovals_keep (s : State) :
    (State.endRemovals s).keep = s.keep := by
  first
  | (simp +decide [State.endRemovals]; done)
  | (unfold State.endRemovals; (repeat' split) <;> (try dsimp only) <;> simp +decide [State.endRemovals]; done)

@[simp] theorem State_pass_keep (s : State) :
    (State.pass s).keep = s.keep := by
  unfold State.pass; repeat' (first | (simp +decide [State.pass]; done) | (intros; split) | (intros; first | refine Eq.trans (foldl_keep _ _ _ fun _ _ => ?_) ?_ | refine Eq.trans (foldl_fst_keep _ _ _ fun _ _ => ?_) ?_ | refine Eq.trans (when_keep _ _ _ ?_) ?_) | dsimp only | simp +decide [State.pass])

@[simp] theorem State_settleN_keep (n : Nat) (s : State) : (State.settleN n s).keep = s.keep := by
  induction n generalizing s with
  | zero => rfl
  | succ n ih => unfold State.settleN; split <;> simp [ih]

@[simp] theorem State_hashWake_keep (s : State) :
    (State.hashWake s).keep = s.keep := by
  first
  | (simp +decide [State.hashWake]; done)
  | (unfold State.hashWake; (repeat' split) <;> (try dsimp only) <;> simp +decide [State.hashWake]; done)

@[simp] theorem State_settle_keep (s : State) :
    (State.settle s).keep = s.keep := by
  first
  | (simp +decide [State.settle]; done)
  | (unfold State.settle; (repeat' split) <;> (try dsimp only) <;> simp +decide [State.settle]; done)

@[simp] theorem State_poolGuard_keep (s : State) (k : Packet) (n : Nat) (blk : Bool) (f : Nat → Nat → State → State) (hf : ∀ a0 a1 s, (f a0 a1 s).keep = s.keep) :
    (State.poolGuard s k n blk f).keep = s.keep := by
  first
  | (unfold State.poolGuard; (repeat' split) <;> (try dsimp only) <;> simp +decide [State.poolGuard, hf]; done)
  | (simp +decide [State.poolGuard, hf]; done)

@[simp] theorem State_sealOthers_keep (s : State) (p off n : Nat) (keep : Option Nat) :
    (State.sealOthers s p off n keep).keep = s.keep := by
  first
  | (simp +decide [State.sealOthers]; done)
  | (unfold State.sealOthers; (repeat' split) <;> (try dsimp only) <;> simp +decide [State.sealOthers]; done)

@[simp] theorem State_enterHome_keep (s : State) (kind : PKind) (p off n : Nat) (m : Member) :
    (State.enterHome s kind p off n m).keep = s.keep := by
  first
  | (simp only [State.enterHome]; (repeat' split) <;> simp +decide [State.enterHome]; done)
  | (unfold State.enterHome; (repeat' split) <;> (try dsimp only) <;> simp +decide [State.enterHome]; done)

theorem poolRead_keep (k : Packet) (media : List (Nat × Bool)) (s : State) :
    (poolRead k media s).keep = s.keep := by
  first
  | (simp +decide [poolRead]; done)
  | (unfold poolRead; (repeat' split) <;> (try dsimp only) <;> simp +decide [poolRead]; done)

theorem poolWrite_keep (k : Packet) (media : List (Nat × Bool)) (s : State) :
    (poolWrite k media s).keep = s.keep := by
  first
  | (simp +decide [poolWrite]; done)
  | (unfold poolWrite; (repeat' split) <;> (try dsimp only) <;> simp +decide [poolWrite]; done)

theorem poolAtomic_keep (k : Packet) (media : List (Nat × Bool)) (s : State) :
    (poolAtomic k media s).keep = s.keep := by
  first
  | (simp +decide [poolAtomic]; done)
  | (unfold poolAtomic; (repeat' split) <;> (try dsimp only) <;> simp +decide [poolAtomic]; done)

theorem readShared_keep (k : Packet) (s : State) :
    (readShared k s).keep = s.keep := by
  first
  | (simp +decide [readShared]; done)
  | (unfold readShared; (repeat' split) <;> (try dsimp only) <;> simp +decide [readShared]; done)

@[simp] theorem State_ownRequest_keep (s : State) (kind : PKind) (k : Packet) :
    (State.ownRequest s kind k).keep = s.keep := by
  first
  | (simp +decide [State.ownRequest]; done)
  | (unfold State.ownRequest; (repeat' split) <;> (try dsimp only) <;> simp +decide [State.ownRequest]; done)

theorem readOwn_keep (k : Packet) (s : State) :
    (readOwn k s).keep = s.keep := by
  first
  | (simp +decide [readOwn]; done)
  | (unfold readOwn; (repeat' split) <;> (try dsimp only) <;> simp +decide [readOwn]; done)

theorem upgrade_keep (k : Packet) (s : State) :
    (upgrade k s).keep = s.keep := by
  first
  | (simp +decide [upgrade]; done)
  | (unfold upgrade; (repeat' split) <;> (try dsimp only) <;> simp +decide [upgrade]; done)

@[simp] theorem snoopTimeout_keep (slot : Nat) (s : State) :
    (snoopTimeout slot s).keep = s.keep := by
  first
  | (simp only [snoopTimeout]; (repeat' split) <;> simp +decide [snoopTimeout]; done)
  | (unfold snoopTimeout; (repeat' split) <;> (try dsimp only) <;> simp +decide [snoopTimeout]; done)

@[simp] theorem State_answeredByBack_keep (s : State) (key slot : Nat) :
    (State.answeredByBack s key slot).keep = s.keep := by
  first
  | (simp +decide [State.answeredByBack]; done)
  | (unfold State.answeredByBack; (repeat' split) <;> (try dsimp only) <;> simp +decide [State.answeredByBack]; done)

@[simp] theorem State_ownerBack_keep (s : State) (key slot keep : Nat) :
    (State.ownerBack s key slot keep).keep = s.keep := by
  first
  | (simp +decide [State.ownerBack]; done)
  | (unfold State.ownerBack; (repeat' split) <;> (try dsimp only) <;> simp +decide [State.ownerBack]; done)

@[simp] theorem State_returnGuard_keep (s : State) (k : Packet) (f : Nat → Nat → State → State) (hf : ∀ a0 a1 s, (f a0 a1 s).keep = s.keep) :
    (State.returnGuard s k f).keep = s.keep := by
  unfold State.returnGuard; repeat' (first | (simp +decide [State.returnGuard, hf]; done) | (intros; split) | (intros; first | refine Eq.trans (foldl_keep _ _ _ fun _ _ => ?_) ?_ | refine Eq.trans (foldl_fst_keep _ _ _ fun _ _ => ?_) ?_ | refine Eq.trans (when_keep _ _ _ ?_) ?_) | dsimp only | simp +decide [State.returnGuard, hf])

theorem writeback_keep (k : Packet) (s : State) :
    (writeback k s).keep = s.keep := by
  first
  | (simp +decide [writeback]; done)
  | (unfold writeback; (repeat' split) <;> (try dsimp only) <;> simp +decide [writeback]; done)

@[simp] theorem State_dropClean_keep (s : State) (key : Nat) (keep : Nat) :
    (State.dropClean s key keep).keep = s.keep := by
  first
  | (unfold State.dropClean; (repeat' split) <;> (try dsimp only) <;> simp +decide [State.dropClean]; done)
  | (simp +decide [State.dropClean]; done)

theorem cleanEvict_keep (k : Packet) (s : State) :
    (cleanEvict k s).keep = s.keep := by
  first
  | (simp +decide [cleanEvict]; done)
  | (unfold cleanEvict; (repeat' split) <;> (try dsimp only) <;> simp +decide [cleanEvict]; done)

@[simp] theorem State_answered_keep (s : State) (key slot : Nat) (data : Option (List Byte)) :
    (State.answered s key slot data).keep = s.keep := by
  first
  | (simp only [State.answered]; (repeat' split) <;> simp +decide [State.answered]; done)
  | (unfold State.answered; (repeat' split) <;> (try dsimp only) <;> simp +decide [State.answered]; done)

@[simp] theorem State_snoopAnswer_keep (s : State) (key slot kind : Nat) (bs : List Byte) (ok : Bool) :
    (State.snoopAnswer s key slot kind bs ok).keep = s.keep := by
  first
  | (simp only [State.snoopAnswer]; (repeat' split) <;> simp +decide [State.snoopAnswer]; done)
  | (unfold State.snoopAnswer; (repeat' split) <;> (try dsimp only) <;> simp +decide [State.snoopAnswer]; done)

@[simp] theorem snpRspReceive_keep (k : Packet) (s : State) : (snpRspReceive k s).keep = s.keep := by
  have h1 : (s.consume .sw k).keep = s.keep := by simp
  unfold snpRspReceive
  generalize s.consume .sw k = s1 at h1
  have h2 : ((s1.when (!crcOk k) fun s => s.crcFail .sw k)).keep = s1.keep := by simp
  dsimp only
  (repeat' split) <;> first
    | exact h1
    | exact h2.trans h1
    | (simp [h1, HDR_ERR_COUNT_COUNT, HDR_ERR_COUNT]; done)
    | (dsimp only; split <;> first | exact h2.trans h1 | simp [h1, h2])

@[simp] theorem State_agtFence_keep (s : State) :
    (State.agtFence s).keep = s.keep := by
  first
  | (simp +decide [State.agtFence]; done)
  | (unfold State.agtFence; (repeat' split) <;> (try dsimp only) <;> simp +decide [State.agtFence]; done)

theorem agtFenceWrite_keep (path : Path) (s : State) :
    (agtFenceWrite path s).keep = s.keep := by
  first
  | (simp +decide [agtFenceWrite]; done)
  | (unfold agtFenceWrite; (repeat' split) <;> (try dsimp only) <;> simp +decide [agtFenceWrite]; done)

@[simp] theorem State_agtReadmit_keep (s : State) :
    (State.agtReadmit s).1.keep = s.keep := by
  first
  | (simp +decide [State.agtReadmit]; done)
  | (unfold State.agtReadmit; (repeat' split) <;> (try dsimp only) <;> simp +decide [State.agtReadmit]; done)

theorem agtReadmitWrite_keep (path : Path) (s : State) :
    (agtReadmitWrite path s).keep = s.keep := by
  first
  | (simp +decide [agtReadmitWrite]; done)
  | (unfold agtReadmitWrite; (repeat' split) <;> (try dsimp only) <;> simp +decide [agtReadmitWrite]; done)

@[simp] theorem State_agentsPortLost_keep (s : State) (n : Nat) :
    (State.agentsPortLost s n).keep = s.keep := by
  first
  | (simp +decide [State.agentsPortLost]; done)
  | (unfold State.agentsPortLost; (repeat' split) <;> (try dsimp only) <;> simp +decide [State.agentsPortLost]; done)

@[simp] theorem State_olClear_keep (s : State) (o : Origin) (v : Word) :
    (State.olClear s o v).1.keep = s.keep := by
  first
  | (unfold State.olClear; (repeat' split) <;> (try dsimp only) <;> simp +decide [State.olClear]; done)
  | (simp +decide [State.olClear]; done)

theorem olClearWrite_keep (o : Origin) (v : Word) (s : State) :
    (olClearWrite o v s).keep = s.keep := by
  first
  | (simp +decide [olClearWrite]; done)
  | (unfold olClearWrite; (repeat' split) <;> (try dsimp only) <;> simp +decide [olClearWrite]; done)

theorem olClearDone_keep (s : State) :
    (olClearDone s).keep = s.keep := by
  first
  | (unfold olClearDone; (repeat' split) <;> (try dsimp only) <;> simp +decide [olClearDone]; done)
  | (simp +decide [olClearDone]; done)

@[simp] theorem State_readOlRec1_keep (s : State) :
    (State.readOlRec1 s).1.keep = s.keep := by
  first
  | (simp +decide [State.readOlRec1]; done)
  | (unfold State.readOlRec1; (repeat' split) <;> (try dsimp only) <;> simp +decide [State.readOlRec1]; done)

theorem olRec1Read_keep (path : Path) (s : State) :
    (olRec1Read path s).keep = s.keep := by
  first
  | (simp +decide [olRec1Read]; done)
  | (unfold olRec1Read; (repeat' split) <;> (try dsimp only) <;> simp +decide [olRec1Read]; done)

@[simp] theorem State_granRetire_keep (s : State) :
    (State.granRetire s).1.keep = s.keep := by
  first
  | (simp +decide [State.granRetire]; done)
  | (unfold State.granRetire; (repeat' split) <;> (try dsimp only) <;> simp +decide [State.granRetire]; done)

theorem granRetire_keep (path : Path) (s : State) :
    (granRetire path s).keep = s.keep := by
  first
  | (simp +decide [granRetire]; done)
  | (unfold granRetire; (repeat' split) <;> (try dsimp only) <;> simp +decide [granRetire]; done)

@[simp] theorem State_scrubNext_keep (s : State) (busy : Bool) :
    (State.scrubNext s busy).keep = s.keep := by
  first
  | (unfold State.scrubNext; (repeat' split) <;> (try dsimp only) <;> simp +decide [State.scrubNext]; done)
  | (simp +decide [State.scrubNext]; done)

@[simp] theorem State_scrubWake_keep (s : State) :
    (State.scrubWake s).keep = s.keep := by
  first
  | (simp +decide [State.scrubWake]; done)
  | (unfold State.scrubWake; (repeat' split) <;> (try dsimp only) <;> simp +decide [State.scrubWake]; done)

theorem scrubGranuleDone_keep (g : Nat) (s : State) :
    (scrubGranuleDone g s).keep = s.keep := by
  first
  | (simp +decide [scrubGranuleDone]; done)
  | (unfold scrubGranuleDone; (repeat' split) <;> (try dsimp only) <;> simp +decide [scrubGranuleDone]; done)

theorem patrolPass_keep (media : List (Nat × Bool)) (s : State) :
    (patrolPass media s).keep = s.keep := by
  first
  | (simp +decide [patrolPass]; done)
  | (unfold patrolPass; (repeat' split) <;> (try dsimp only) <;> simp +decide [patrolPass]; done)

@[simp] theorem State_flushPtn_keep (s : State) (p st : Nat) :
    (State.flushPtn s p st).keep = s.keep := by
  unfold State.flushPtn; repeat' (first | (simp +decide [State.flushPtn]; done) | (intros; split) | (intros; first | refine Eq.trans (foldl_keep _ _ _ fun _ _ => ?_) ?_ | refine Eq.trans (foldl_fst_keep _ _ _ fun _ _ => ?_) ?_ | refine Eq.trans (when_keep _ _ _ ?_) ?_) | dsimp only | simp +decide [State.flushPtn])

@[simp] theorem State_drainHome_keep (s : State) (p : Nat) :
    (State.drainHome s p).keep = s.keep := by
  first
  | (simp +decide [State.drainHome]; done)
  | (unfold State.drainHome; (repeat' split) <;> (try dsimp only) <;> simp +decide [State.drainHome]; done)

@[simp] theorem State_scrubStand_keep (s : State) : s.scrubStand.keep = s.keep := by
  unfold State.scrubStand
  generalize (upTo 1788).find? (fun g => s.granState g == 3) = o
  cases o <;> simp

theorem hbmStackLost_keep (n : Nat) (s : State) :
    (hbmStackLost n s).keep = s.keep := by
  first
  | (simp +decide [hbmStackLost]; done)
  | (unfold hbmStackLost; (repeat' split) <;> (try dsimp only) <;> simp +decide [hbmStackLost]; done)

@[simp] theorem State_bulkErr_keep (s : State) (b : BulkOp) (kind : Nat) :
    (State.bulkErr s b kind).keep = s.keep := by
  first
  | (unfold State.bulkErr; (repeat' split) <;> (try dsimp only) <;> simp +decide [State.bulkErr]; done)
  | (simp +decide [State.bulkErr]; done)

@[simp] theorem State_bulkOff_keep (s : State) (b : BulkOp) :
    (State.bulkOff s b).keep = s.keep := by
  first
  | (simp +decide [State.bulkOff]; done)
  | (unfold State.bulkOff; (repeat' split) <;> (try dsimp only) <;> simp +decide [State.bulkOff]; done)

@[simp] theorem State_bulkFail_keep (s : State) (b : BulkOp) (st : Nat) (stick : Bool) :
    (State.bulkFail s b st stick).keep = s.keep := by
  first
  | (simp only [State.bulkFail]; (repeat' split) <;> simp +decide [State.bulkFail]; done)
  | (unfold State.bulkFail; (repeat' split) <;> (try dsimp only) <;> simp +decide [State.bulkFail]; done)

@[simp] theorem State_bulkDown_keep (s : State) (n : Nat) :
    (State.bulkDown s n).keep = s.keep := by
  first
  | (unfold State.bulkDown; (repeat' split) <;> (try dsimp only) <;> simp +decide [State.bulkDown]; done)
  | (simp +decide [State.bulkDown]; done)

@[simp] theorem State_cxdFault_keep (s : State) (n code : Nat) :
    (State.cxdFault s n code).keep = s.keep := by
  first
  | (simp +decide [State.cxdFault]; done)
  | (unfold State.cxdFault; (repeat' split) <;> (try dsimp only) <;> simp +decide [State.cxdFault]; done)

@[simp] theorem State_bulkExpire_keep (s : State) (b : BulkOp) :
    (State.bulkExpire s b).keep = s.keep := by
  first
  | (simp +decide [State.bulkExpire]; done)
  | (unfold State.bulkExpire; (repeat' split) <;> (try dsimp only) <;> simp +decide [State.bulkExpire]; done)

theorem bulkFillComplete_keep (id : Nat) (ok : Bool) (data : List Byte) (s : State) :
    (bulkFillComplete id ok data s).keep = s.keep := by
  first
  | (unfold bulkFillComplete; (repeat' split) <;> (try dsimp only) <;> simp +decide [bulkFillComplete]; done)
  | (simp +decide [bulkFillComplete]; done)

theorem bulkWritebackComplete_keep (id : Nat) (ok : Bool) (s : State) :
    (bulkWritebackComplete id ok s).keep = s.keep := by
  first
  | (simp only [bulkWritebackComplete]; (repeat' split) <;> simp +decide [bulkWritebackComplete]; done)
  | (unfold bulkWritebackComplete; (repeat' split) <;> (try dsimp only) <;> simp +decide [bulkWritebackComplete]; done)

theorem bulkPortDown_keep (n : Nat) (s : State) :
    (bulkPortDown n s).keep = s.keep := by
  first
  | (simp +decide [bulkPortDown]; done)
  | (unfold bulkPortDown; (repeat' split) <;> (try dsimp only) <;> simp +decide [bulkPortDown]; done)

@[simp] theorem State_portDirty_keep (s : State) (n : Nat) : (s.portDirty n).keep = s.keep := by
  refine onChip_keep _ _ _ fun _ => ?_
  dsimp only
  exact keepIf_ident _ _ fun _ => by simp [POL_GRAN_STS]

@[simp] theorem State_retryDirty_keep (s : State) (n : Nat) :
    (State.retryDirty s n).keep = s.keep := by
  first
  | (simp +decide [State.retryDirty]; done)
  | (unfold State.retryDirty; (repeat' split) <;> (try dsimp only) <;> simp +decide [State.retryDirty]; done)

@[simp] theorem State_bulkBringUp_keep (s : State) (n serial bytes : Nat) :
    (State.bulkBringUp s n serial bytes).keep = s.keep := by
  first
  | (unfold State.bulkBringUp; (repeat' split) <;> (try dsimp only) <;> simp +decide [State.bulkBringUp]; done)
  | (simp +decide [State.bulkBringUp]; done)

theorem bulkPortUp_keep (n serial bytes : Nat) (s : State) :
    (bulkPortUp n serial bytes s).keep = s.keep := by
  first
  | (simp +decide [bulkPortUp]; done)
  | (unfold bulkPortUp; (repeat' split) <;> (try dsimp only) <;> simp +decide [bulkPortUp]; done)

theorem bulkDevTimeout_keep (id : Nat) (s : State) :
    (bulkDevTimeout id s).keep = s.keep := by
  first
  | (unfold bulkDevTimeout; (repeat' split) <;> (try dsimp only) <;> simp +decide [bulkDevTimeout]; done)
  | (simp +decide [bulkDevTimeout]; done)

theorem prefetchHint_keep (k : Packet) (busy : Bool) (s : State) :
    (prefetchHint k busy s).keep = s.keep := by
  first
  | (unfold prefetchHint; (repeat' split) <;> (try dsimp only) <;> simp +decide [prefetchHint]; done)
  | (simp +decide [prefetchHint]; done)

theorem combineWindowExpiry_keep (p line : Nat) (s : State) :
    (combineWindowExpiry p line s).keep = s.keep := by
  first
  | (simp +decide [combineWindowExpiry]; done)
  | (unfold combineWindowExpiry; (repeat' split) <;> (try dsimp only) <;> simp +decide [combineWindowExpiry]; done)

theorem combineIssue_keep (p line : Nat) (s : State) :
    (combineIssue p line s).keep = s.keep := by
  first
  | (unfold combineIssue; (repeat' split) <;> (try dsimp only) <;> simp +decide [combineIssue]; done)
  | (simp +decide [combineIssue]; done)

@[simp] theorem State_lateRecord_keep (s : State) (m : Member) :
    (State.lateRecord s m).keep = s.keep := by
  first
  | (simp +decide [State.lateRecord]; done)
  | (unfold State.lateRecord; (repeat' split) <;> (try dsimp only) <;> simp +decide [State.lateRecord]; done)

theorem switchReqTimeout_keep (id : Nat) (s : State) :
    (switchReqTimeout id s).keep = s.keep := by
  first
  | (unfold switchReqTimeout; (repeat' split) <;> (try dsimp only) <;> simp +decide [switchReqTimeout]; done)
  | (simp +decide [switchReqTimeout]; done)

theorem outcomeRecordExpiry_keep (src tag : Nat) (s : State) :
    (outcomeRecordExpiry src tag s).keep = s.keep := by
  first
  | (simp +decide [outcomeRecordExpiry]; done)
  | (unfold outcomeRecordExpiry; (repeat' split) <;> (try dsimp only) <;> simp +decide [outcomeRecordExpiry]; done)

theorem outcomeReleaseReceive_keep (p : Part) (k : Packet) (s : State) :
    (outcomeReleaseReceive p k s).keep = s.keep := by
  first
  | (simp +decide [outcomeReleaseReceive]; done)
  | (unfold outcomeReleaseReceive; (repeat' split) <;> (try dsimp only) <;> simp +decide [outcomeReleaseReceive]; done)

@[simp] theorem State_tableGuard_keep (s : State) (k : Packet) (f : Table → State → State) (hf : ∀ a0 s, (f a0 s).keep = s.keep) :
    (State.tableGuard s k f).keep = s.keep := by
  unfold State.tableGuard; repeat' (first | (simp +decide [State.tableGuard, hf]; done) | (intros; split) | (intros; first | refine Eq.trans (State_poolGuard_keep _ _ _ _ _ (fun _ _ _ => ?_)) ?_ | refine Eq.trans (foldl_keep _ _ _ fun _ _ => ?_) ?_ | refine Eq.trans (foldl_fst_keep _ _ _ fun _ _ => ?_) ?_ | refine Eq.trans (when_keep _ _ _ ?_) ?_) | dsimp only | simp +decide [State.tableGuard, hf])

@[simp] theorem State_openGather_keep (s : State) (k : Packet) (t : Table) (idx : List Nat) (left : Nat) :
    (State.openGather s k t idx left).1.keep = s.keep := by
  first
  | (simp +decide [State.openGather]; done)
  | (unfold State.openGather; (repeat' split) <;> (try dsimp only) <;> simp +decide [State.openGather]; done)

theorem gatherRequest_keep (k : Packet) (s : State) :
    (gatherRequest k s).keep = s.keep := by
  first
  | (simp +decide [gatherRequest]; done)
  | (unfold gatherRequest; (repeat' split) <;> (try dsimp only) <;> simp +decide [gatherRequest]; done)

theorem scatterAddRequest_keep (k : Packet) (s : State) :
    (scatterAddRequest k s).keep = s.keep := by
  unfold scatterAddRequest; repeat' (first | (simp +decide [scatterAddRequest]; done) | (intros; split) | (intros; first | refine Eq.trans (State_tableGuard_keep _ _ _ (fun _ _ => ?_)) ?_ | refine Eq.trans (State_room_keep _ _ _ _ (fun _ => ?_)) ?_ | refine Eq.trans (foldl_keep _ _ _ fun _ _ => ?_) ?_ | refine Eq.trans (foldl_fst_keep _ _ _ fun _ _ => ?_) ?_ | refine Eq.trans (when_keep _ _ _ ?_) ?_) | dsimp only | simp +decide [scatterAddRequest])

@[simp] theorem State_streamAccess_keep (s : State) (herd chunk : Nat) (l : List (Nat × Nat × Nat × Nat × Option (List Byte))) :
    (State.streamAccess s herd chunk l).keep = s.keep := by
  first
  | (simp +decide [State.streamAccess]; done)
  | (unfold State.streamAccess; (repeat' split) <;> (try dsimp only) <;> simp +decide [State.streamAccess]; done)

@[simp] theorem State_twinDiscard_keep (s : State) (i c key node : Nat) :
    (State.twinDiscard s i c key node).keep = s.keep := by
  first
  | (simp +decide [State.twinDiscard]; done)
  | (unfold State.twinDiscard; (repeat' split) <;> (try dsimp only) <;> simp +decide [State.twinDiscard]; done)

@[simp] theorem State_joinUp_keep (s : State) (h : Herd) (c : Nat) :
    (State.joinUp s h c).keep = s.keep := by
  first
  | (simp +decide [State.joinUp]; done)
  | (unfold State.joinUp; (repeat' split) <;> (try dsimp only) <;> simp +decide [State.joinUp]; done)

@[simp] theorem State_startStep_keep (s : State) (i : Nat) (moved : Bool) :
    (State.startStep s i moved).keep = s.keep := by
  unfold State.startStep; repeat' (first | (simp +decide [State.startStep]; done) | (intros; split) | (intros; first | refine Eq.trans (foldl_keep _ _ _ fun _ _ => ?_) ?_ | refine Eq.trans (foldl_fst_keep _ _ _ fun _ _ => ?_) ?_ | refine Eq.trans (when_keep _ _ _ ?_) ?_) | dsimp only | simp +decide [State.startStep])

@[simp] theorem State_toMemberW_keep (s : State) (i v node op : Nat) (pre : HerdPrefix) (data : List Byte) (h : Herd) :
    (State.toMemberW s i v node op pre data h).keep = s.keep := by
  first
  | (unfold State.toMemberW; (repeat' split) <;> (try dsimp only) <;> simp +decide [State.toMemberW]; done)
  | (simp +decide [State.toMemberW]; done)

@[simp] theorem State_memberJoins_keep (s : State) (i node : Nat) :
    (State.memberJoins s i node).keep = s.keep := by
  first
  | (simp +decide [State.memberJoins]; done)
  | (unfold State.memberJoins; (repeat' split) <;> (try dsimp only) <;> simp +decide [State.memberJoins]; done)

@[simp] theorem State_resultTo_keep (s : State) (i v node op c shard : Nat) (data : List Byte) (h : Herd) :
    (State.resultTo s i v node op c shard data h).keep = s.keep := by
  first
  | (simp +decide [State.resultTo]; done)
  | (unfold State.resultTo; (repeat' split) <;> (try dsimp only) <;> simp +decide [State.resultTo]; done)

@[simp] theorem State_countsDown_keep (s : State) (i : Nat) (h : Herd) (base totals : List Nat) :
    (State.countsDown s i h base totals).keep = s.keep := by
  first
  | (simp +decide [State.countsDown]; done)
  | (unfold State.countsDown; (repeat' split) <;> (try dsimp only) <;> simp +decide [State.countsDown]; done)

@[simp] theorem State_signalled_keep (s : State) (i node : Nat) :
    (State.signalled s i node).keep = s.keep := by
  first
  | (simp +decide [State.signalled]; done)
  | (unfold State.signalled; (repeat' split) <;> (try dsimp only) <;> simp +decide [State.signalled]; done)

@[simp] theorem State_signalMembers_keep (s : State) (i c : Nat) :
    (State.signalMembers s i c).keep = s.keep := by
  first
  | (unfold State.signalMembers; (repeat' split) <;> (try dsimp only) <;> simp +decide [State.signalMembers]; done)
  | (simp +decide [State.signalMembers]; done)

@[simp] theorem State_endStep_keep (s : State) (i : Nat) :
    (State.endStep s i).keep = s.keep := by
  first
  | (unfold State.endStep; (repeat' split) <;> (try dsimp only) <;> simp +decide [State.endStep]; done)
  | (simp +decide [State.endStep]; done)

@[simp] theorem State_tryEnd_keep (s : State) (i : Nat) :
    (State.tryEnd s i).keep = s.keep := by
  first
  | (unfold State.tryEnd; (repeat' split) <;> (try dsimp only) <;> simp +decide [State.tryEnd]; done)
  | (simp +decide [State.tryEnd]; done)

@[simp] theorem State_endWaiting_keep (s : State) :
    (State.endWaiting s).keep = s.keep := by
  first
  | (simp +decide [State.endWaiting]; done)
  | (unfold State.endWaiting; (repeat' split) <;> (try dsimp only) <;> simp +decide [State.endWaiting]; done)

@[simp] theorem State_herdDue_keep (s : State) (i : Nat) :
    (State.herdDue s i).keep = s.keep := by
  first
  | (simp only [State.herdDue]; (repeat' split) <;> simp +decide [State.herdDue]; done)
  | (unfold State.herdDue; (repeat' split) <;> (try dsimp only) <;> simp +decide [State.herdDue]; done)

@[simp] theorem State_chunkLeft_keep (s : State) (i c : Nat) :
    (State.chunkLeft s i c).keep = s.keep := by
  first
  | (unfold State.chunkLeft; (repeat' split) <;> (try dsimp only) <;> simp +decide [State.chunkLeft]; done)
  | (simp +decide [State.chunkLeft]; done)

@[simp] theorem State_deliverDown_keep (s : State) (i c shard : Nat) (data : List Byte) : (s.deliverDown i c shard data).keep = s.keep := by
  unfold State.deliverDown
  split
  · rfl
  · rename_i h _
    extract_lets ds s1 x y s2 need
    have h1 : s1.keep = s.keep := by
      refine foldl_keep _ _ _ fun s v => ?_
      try dsimp only
      split
      · exact foldl_keep _ _ _ fun s e => by simp
      · split
        · rfl
        · refine foldl_keep _ _ _ fun s n => ?_
          split <;> simp
    have h2 : s2.keep = s1.keep := by simp [s2]
    clear_value s1 x y need
    rw [← h1, ← h2]
    clear_value s2
    split <;> simp

@[simp] theorem State_sendUp_keep (s : State) (u op c shard : Nat) (data : List Byte) (h : Herd) :
    (State.sendUp s u op c shard data h).keep = s.keep := by
  first
  | (simp +decide [State.sendUp]; done)
  | (unfold State.sendUp; (repeat' split) <;> (try dsimp only) <;> simp +decide [State.sendUp]; done)

@[simp] theorem State_progLoads_keep (s : State) (i c : Nat) (h : Herd) (a : Attach) :
    (State.progLoads s i c h a).keep = s.keep := by
  first
  | (simp +decide [State.progLoads]; done)
  | (unfold State.progLoads; (repeat' split) <;> (try dsimp only) <;> simp +decide [State.progLoads]; done)

@[simp] theorem State_regionLoads_keep (s : State) (i c : Nat) (h : Herd) (g : Region) :
    (State.regionLoads s i c h g).keep = s.keep := by
  first
  | (simp +decide [State.regionLoads]; done)
  | (unfold State.regionLoads; (repeat' split) <;> (try dsimp only) <;> simp +decide [State.regionLoads]; done)

@[simp] theorem State_reduceChunk_keep (s : State) (i c core : Nat) (h : Herd) :
    (State.reduceChunk s i c core h).keep = s.keep := by
  unfold State.reduceChunk; repeat' (first | (simp +decide [State.reduceChunk]; done) | (intros; split) | (intros; first | refine Eq.trans (foldl_keep _ _ _ fun _ _ => ?_) ?_ | refine Eq.trans (foldl_fst_keep _ _ _ fun _ _ => ?_) ?_ | refine Eq.trans (when_keep _ _ _ ?_) ?_) | dsimp only | simp +decide [State.reduceChunk])

@[simp] theorem State_moveChunk_keep (s : State) (i c : Nat) (h : Herd) :
    (State.moveChunk s i c h).keep = s.keep := by
  unfold State.moveChunk; repeat' (first | (simp +decide [State.moveChunk]; done) | (intros; split) | (intros; first | refine Eq.trans (foldl_keep _ _ _ fun _ _ => ?_) ?_ | refine Eq.trans (foldl_fst_keep _ _ _ fun _ _ => ?_) ?_ | refine Eq.trans (when_keep _ _ _ ?_) ?_) | dsimp only | simp +decide [State.moveChunk])

@[simp] theorem State_regionChunk_keep (s : State) (i c : Nat) (h : Herd) (g : Region) :
    (State.regionChunk s i c h g).keep = s.keep := by
  unfold State.regionChunk; repeat' (first | (simp +decide [State.regionChunk]; done) | (intros; split) | (intros; first | refine Eq.trans (foldl_keep _ _ _ fun _ _ => ?_) ?_ | refine Eq.trans (foldl_fst_keep _ _ _ fun _ _ => ?_) ?_ | refine Eq.trans (when_keep _ _ _ ?_) ?_) | dsimp only | simp +decide [State.regionChunk])

@[simp] theorem State_settleTwins_keep (s : State) (i c : Nat) :
    (State.settleTwins s i c).keep = s.keep := by
  first
  | (simp +decide [State.settleTwins]; done)
  | (unfold State.settleTwins; (repeat' split) <;> (try dsimp only) <;> simp +decide [State.settleTwins]; done)

theorem chunkReduced_keep (i c core : Nat) (s : State) :
    (chunkReduced i c core s).keep = s.keep := by
  first
  | (simp only [chunkReduced]; (repeat' split) <;> simp +decide [chunkReduced]; done)
  | (unfold chunkReduced; (repeat' split) <;> (try dsimp only) <;> simp +decide [chunkReduced]; done)

@[simp] theorem State_toldAborted_keep (s : State) (i v : Nat) (h : Herd) (k : Packet) :
    (State.toldAborted s i v h k).keep = s.keep := by
  first
  | (simp +decide [State.toldAborted]; done)
  | (unfold State.toldAborted; (repeat' split) <;> (try dsimp only) <;> simp +decide [State.toldAborted]; done)

@[simp] theorem State_refuseMoved_keep (s : State) (i v : Nat) (h : Herd) (k : Packet) :
    (State.refuseMoved s i v h k).keep = s.keep := by
  first
  | (simp +decide [State.refuseMoved]; done)
  | (unfold State.refuseMoved; (repeat' split) <;> (try dsimp only) <;> simp +decide [State.refuseMoved]; done)

@[simp] theorem State_stalePacket_keep (s : State) (i : Nat) :
    (State.stalePacket s i).keep = s.keep := by
  first
  | (simp +decide [State.stalePacket]; done)
  | (unfold State.stalePacket; (repeat' split) <;> (try dsimp only) <;> simp +decide [State.stalePacket]; done)

@[simp] theorem State_staleMember_keep (s : State) (i v : Nat) (h : Herd) (k : Packet) :
    (State.staleMember s i v h k).keep = s.keep := by
  first
  | (unfold State.staleMember; (repeat' split) <;> (try dsimp only) <;> simp +decide [State.staleMember]; done)
  | (simp +decide [State.staleMember]; done)

@[simp] theorem State_earlyPacket_keep (s : State) :
    (State.earlyPacket s).keep = s.keep := by
  first
  | (simp +decide [State.earlyPacket]; done)
  | (unfold State.earlyPacket; (repeat' split) <;> (try dsimp only) <;> simp +decide [State.earlyPacket]; done)

@[simp] theorem State_takeUp_keep (s : State) (i : Nat) (k : Packet) :
    (State.takeUp s i k).keep = s.keep := by
  first
  | (simp +decide [State.takeUp]; done)
  | (unfold State.takeUp; (repeat' split) <;> (try dsimp only) <;> simp +decide [State.takeUp]; done)

@[simp] theorem State_memberCheck_keep (s : State) (k : Packet) (f : Nat → Herd → Nat → Nat → State → State) (hf : ∀ a0 a1 a2 a3 s, (f a0 a1 a2 a3 s).keep = s.keep) :
    (State.memberCheck s k f).keep = s.keep := by
  first
  | (simp only [State.memberCheck]; (repeat' split) <;> simp +decide [State.memberCheck, hf]; done)
  | (unfold State.memberCheck; (repeat' split) <;> (try dsimp only) <;> simp +decide [State.memberCheck, hf]; done)

@[simp] theorem State_memberGuard_keep (s : State) (k : Packet) (f : Nat → Nat → Nat → State → State) (hf : ∀ a0 a1 a2 s, (f a0 a1 a2 s).keep = s.keep) :
    (State.memberGuard s k f).keep = s.keep := by
  unfold State.memberGuard; repeat' (first | (simp +decide [State.memberGuard, hf]; done) | (intros; split) | (intros; first | refine Eq.trans (State_memberCheck_keep _ _ _ (fun _ _ _ _ _ => ?_)) ?_ | refine Eq.trans (foldl_keep _ _ _ fun _ _ => ?_) ?_ | refine Eq.trans (foldl_fst_keep _ _ _ fun _ _ => ?_) ?_ | refine Eq.trans (when_keep _ _ _ ?_) ?_) | dsimp only | simp +decide [State.memberGuard, hf])

@[simp] theorem State_addPiece_keep (s : State) (i v place c ix : Nat) (node : Nat) (data : List Byte) :
    (State.addPiece s i v place c ix node data).keep = s.keep := by
  first
  | (simp only [State.addPiece]; (repeat' split) <;> simp +decide [State.addPiece]; done)
  | (unfold State.addPiece; (repeat' split) <;> (try dsimp only) <;> simp +decide [State.addPiece]; done)

theorem herdContrib_keep (k : Packet) (s : State) :
    (herdContrib k s).keep = s.keep := by
  unfold herdContrib; repeat' (first | (simp +decide [herdContrib]; done) | (intros; split) | (intros; first | refine Eq.trans (State_memberGuard_keep _ _ _ (fun _ _ _ _ => ?_)) ?_ | refine Eq.trans (foldl_keep _ _ _ fun _ _ => ?_) ?_ | refine Eq.trans (foldl_fst_keep _ _ _ fun _ _ => ?_) ?_ | refine Eq.trans (when_keep _ _ _ ?_) ?_) | dsimp only | simp +decide [herdContrib])

@[simp] theorem State_sigMismatch_keep (s : State) :
    (State.sigMismatch s).keep = s.keep := by
  first
  | (simp +decide [State.sigMismatch]; done)
  | (unfold State.sigMismatch; (repeat' split) <;> (try dsimp only) <;> simp +decide [State.sigMismatch]; done)

@[simp] theorem State_childGuard_keep (s : State) (k : Packet) (f : Nat → Nat → State → State) (hf : ∀ a0 a1 s, (f a0 a1 s).keep = s.keep) :
    (State.childGuard s k f).keep = s.keep := by
  first
  | (simp only [State.childGuard]; (repeat' split) <;> simp +decide [State.childGuard, hf]; done)
  | (unfold State.childGuard; (repeat' split) <;> (try dsimp only) <;> simp +decide [State.childGuard, hf]; done)

@[simp] theorem State_addPartial_keep (s : State) (i v : Nat) (k : Packet) (c shard : Nat) (data : List Byte) :
    (State.addPartial s i v k c shard data).keep = s.keep := by
  first
  | (unfold State.addPartial; (repeat' split) <;> (try dsimp only) <;> simp +decide [State.addPartial]; done)
  | (simp +decide [State.addPartial]; done)

theorem herdPartial_keep (k : Packet) (s : State) :
    (herdPartial k s).keep = s.keep := by
  first
  | (simp +decide [herdPartial]; done)
  | (unfold herdPartial; (repeat' split) <;> (try dsimp only) <;> simp +decide [herdPartial]; done)

theorem herdJoin_keep (k : Packet) (s : State) :
    (herdJoin k s).keep = s.keep := by
  unfold herdJoin; repeat' (first | (simp +decide [herdJoin]; done) | (intros; split) | (intros; first | refine Eq.trans (State_childGuard_keep _ _ _ (fun _ _ _ => ?_)) ?_ | refine Eq.trans (State_memberGuard_keep _ _ _ (fun _ _ _ _ => ?_)) ?_ | refine Eq.trans (foldl_keep _ _ _ fun _ _ => ?_) ?_ | refine Eq.trans (foldl_fst_keep _ _ _ fun _ _ => ?_) ?_ | refine Eq.trans (when_keep _ _ _ ?_) ?_) | dsimp only | simp +decide [herdJoin])

@[simp] theorem State_parentGuard_keep (s : State) (k : Packet) (starts : Bool) (f : Nat → Nat → State → State) (hf : ∀ a0 a1 s, (f a0 a1 s).keep = s.keep) :
    (State.parentGuard s k starts f).keep = s.keep := by
  first
  | (simp only [State.parentGuard]; (repeat' split) <;> simp +decide [State.parentGuard, hf]; done)
  | (unfold State.parentGuard; (repeat' split) <;> (try dsimp only) <;> simp +decide [State.parentGuard, hf]; done)

@[simp] theorem State_collectDown_keep (s : State) (i : Nat) (k : Packet) (c shard size : Nat) :
    (State.collectDown s i k c shard size).1.keep = s.keep := by
  first
  | (unfold State.collectDown; (repeat' split) <;> (try dsimp only) <;> simp +decide [State.collectDown]; done)
  | (simp +decide [State.collectDown]; done)

@[simp] theorem State_herdResultSw_keep (s : State) (k : Packet) :
    (State.herdResultSw s k).keep = s.keep := by
  unfold State.herdResultSw; repeat' (first | (simp +decide [State.herdResultSw]; done) | (intros; split) | (intros; first | refine Eq.trans (State_parentGuard_keep _ _ _ _ (fun _ _ _ => ?_)) ?_ | refine Eq.trans (foldl_keep _ _ _ fun _ _ => ?_) ?_ | refine Eq.trans (foldl_fst_keep _ _ _ fun _ _ => ?_) ?_ | refine Eq.trans (when_keep _ _ _ ?_) ?_) | dsimp only | simp +decide [State.herdResultSw])

@[simp] theorem State_countsFromUp_keep (s : State) (i : Nat) (k : Packet) :
    (State.countsFromUp s i k).keep = s.keep := by
  first
  | (simp only [State.countsFromUp]; (repeat' split) <;> simp +decide [State.countsFromUp]; done)
  | (unfold State.countsFromUp; (repeat' split) <;> (try dsimp only) <;> simp +decide [State.countsFromUp]; done)

@[simp] theorem State_countsOfMember_keep (s : State) (i v place : Nat) (k : Packet) :
    (State.countsOfMember s i v place k).keep = s.keep := by
  first
  | (simp +decide [State.countsOfMember]; done)
  | (unfold State.countsOfMember; (repeat' split) <;> (try dsimp only) <;> simp +decide [State.countsOfMember]; done)

@[simp] theorem State_herdCountsSw_keep (s : State) (k : Packet) :
    (State.herdCountsSw s k).keep = s.keep := by
  unfold State.herdCountsSw; repeat' (first | (simp +decide [State.herdCountsSw]; done) | (intros; split) | (intros; first | refine Eq.trans (State_parentGuard_keep _ _ _ _ (fun _ _ _ => ?_)) ?_ | refine Eq.trans (State_childGuard_keep _ _ _ (fun _ _ _ => ?_)) ?_ | refine Eq.trans (State_memberGuard_keep _ _ _ (fun _ _ _ _ => ?_)) ?_ | refine Eq.trans (foldl_keep _ _ _ fun _ _ => ?_) ?_ | refine Eq.trans (foldl_fst_keep _ _ _ fun _ _ => ?_) ?_ | refine Eq.trans (when_keep _ _ _ ?_) ?_) | dsimp only | simp +decide [State.herdCountsSw])

@[simp] theorem State_herdCplSw_keep (s : State) (k : Packet) :
    (State.herdCplSw s k).keep = s.keep := by
  first
  | (simp +decide [State.herdCplSw]; done)
  | (unfold State.herdCplSw; (repeat' split) <;> (try dsimp only) <;> simp +decide [State.herdCplSw]; done)

@[simp] theorem State_requestAbort_keep (s : State) (i reason : Nat) (fo : Bool) :
    (State.requestAbort s i reason fo).keep = s.keep := by
  first
  | (unfold State.requestAbort; (repeat' split) <;> (try dsimp only) <;> simp +decide [State.requestAbort]; done)
  | (simp +decide [State.requestAbort]; done)

@[simp] theorem State_takeDecision_keep (s : State) (i u reason : Nat) (fo : Bool) :
    (State.takeDecision s i u reason fo).keep = s.keep := by
  first
  | (unfold State.takeDecision; (repeat' split) <;> (try dsimp only) <;> simp +decide [State.takeDecision]; done)
  | (simp +decide [State.takeDecision]; done)

@[simp] theorem State_relayLoss_keep (s : State) (k : Packet) :
    (State.relayLoss s k).keep = s.keep := by
  first
  | (unfold State.relayLoss; (repeat' split) <;> (try dsimp only) <;> simp +decide [State.relayLoss]; done)
  | (simp +decide [State.relayLoss]; done)

@[simp] theorem State_herdCheck_keep (s : State) (k : Packet) (f : Nat → Herd → State → State) (hf : ∀ a0 a1 s, (f a0 a1 s).keep = s.keep) :
    (State.herdCheck s k f).keep = s.keep := by
  first
  | (simp only [State.herdCheck]; (repeat' split) <;> simp +decide [State.herdCheck, hf]; done)
  | (unfold State.herdCheck; (repeat' split) <;> (try dsimp only) <;> simp +decide [State.herdCheck, hf]; done)

@[simp] theorem State_herdAbortSw_keep (s : State) (k : Packet) :
    (State.herdAbortSw s k).keep = s.keep := by
  unfold State.herdAbortSw; repeat' (first | (simp +decide [State.herdAbortSw]; done) | (intros; split) | (intros; first | refine Eq.trans (State_herdCheck_keep _ _ _ (fun _ _ _ => ?_)) ?_ | refine Eq.trans (State_memberCheck_keep _ _ _ (fun _ _ _ _ _ => ?_)) ?_ | refine Eq.trans (foldl_keep _ _ _ fun _ _ => ?_) ?_ | refine Eq.trans (foldl_fst_keep _ _ _ fun _ _ => ?_) ?_ | refine Eq.trans (when_keep _ _ _ ?_) ?_) | dsimp only | simp +decide [State.herdAbortSw])

@[simp] theorem State_acknowledged_keep (s : State) (i n : Nat) :
    (State.acknowledged s i n).keep = s.keep := by
  first
  | (simp +decide [State.acknowledged]; done)
  | (unfold State.acknowledged; (repeat' split) <;> (try dsimp only) <;> simp +decide [State.acknowledged]; done)

theorem herdAckReceive_keep (k : Packet) (s : State) :
    (herdAckReceive k s).keep = s.keep := by
  unfold herdAckReceive; repeat' (first | (simp +decide [herdAckReceive]; done) | (intros; split) | (intros; first | refine Eq.trans (State_herdCheck_keep _ _ _ (fun _ _ _ => ?_)) ?_ | refine Eq.trans (State_memberCheck_keep _ _ _ (fun _ _ _ _ _ => ?_)) ?_ | refine Eq.trans (foldl_keep _ _ _ fun _ _ => ?_) ?_ | refine Eq.trans (foldl_fst_keep _ _ _ fun _ _ => ?_) ?_ | refine Eq.trans (when_keep _ _ _ ?_) ?_) | dsimp only | simp +decide [herdAckReceive])

theorem herdTimerExpiry_keep (i : Nat) (s : State) :
    (herdTimerExpiry i s).keep = s.keep := by
  first
  | (unfold herdTimerExpiry; (repeat' split) <;> (try dsimp only) <;> simp +decide [herdTimerExpiry]; done)
  | (simp +decide [herdTimerExpiry]; done)

theorem abortingTimeout_keep (i : Nat) (s : State) :
    (abortingTimeout i s).keep = s.keep := by
  first
  | (simp only [abortingTimeout]; (repeat' split) <;> simp +decide [abortingTimeout]; done)
  | (unfold abortingTimeout; (repeat' split) <;> (try dsimp only) <;> simp +decide [abortingTimeout]; done)

@[simp] theorem State_clearHrdStage_keep (s : State) :
    (State.clearHrdStage s).keep = s.keep := by
  first
  | (simp +decide [State.clearHrdStage]; done)
  | (unfold State.clearHrdStage; (repeat' split) <;> (try dsimp only) <;> simp +decide [State.clearHrdStage]; done)

@[simp] theorem State_clearSvcStage_keep (s : State) :
    (State.clearSvcStage s).keep = s.keep := by
  first
  | (simp +decide [State.clearSvcStage]; done)
  | (unfold State.clearSvcStage; (repeat' split) <;> (try dsimp only) <;> simp +decide [State.clearSvcStage]; done)

@[simp] theorem State_hrdFresh_keep (s : State) :
    (State.hrdFresh s).keep = s.keep := by
  first
  | (simp +decide [State.hrdFresh]; done)
  | (unfold State.hrdFresh; (repeat' split) <;> (try dsimp only) <;> simp +decide [State.hrdFresh]; done)

@[simp] theorem State_svcFresh_keep (s : State) :
    (State.svcFresh s).keep = s.keep := by
  first
  | (simp +decide [State.svcFresh]; done)
  | (unfold State.svcFresh; (repeat' split) <;> (try dsimp only) <;> simp +decide [State.svcFresh]; done)

@[simp] theorem State_readHrdClaim_keep (s : State) (o : Origin) :
    (State.readHrdClaim s o).1.keep = s.keep := by
  first
  | (simp only [State.readHrdClaim]; (repeat' split) <;> simp +decide [State.readHrdClaim]; done)
  | (unfold State.readHrdClaim; (repeat' split) <;> (try dsimp only) <;> simp +decide [State.readHrdClaim]; done)

theorem hrdClaimRead_keep (o : Origin) (s : State) :
    (hrdClaimRead o s).keep = s.keep := by
  first
  | (simp +decide [hrdClaimRead]; done)
  | (unfold hrdClaimRead; (repeat' split) <;> (try dsimp only) <;> simp +decide [hrdClaimRead]; done)

theorem stageClaimTimeout_keep (svc : Bool) (s : State) :
    (stageClaimTimeout svc s).keep = s.keep := by
  first
  | (simp +decide [stageClaimTimeout]; done)
  | (unfold stageClaimTimeout; (repeat' split) <;> (try dsimp only) <;> simp +decide [stageClaimTimeout]; done)

@[simp] theorem State_hrdStageWrite_keep (s : State) (o : Origin) (f : State → Written) (hf : ∀  s, (f  s).1.keep = s.keep) :
    (State.hrdStageWrite s o f).1.keep = s.keep := by
  first
  | (simp only [State.hrdStageWrite]; (repeat' split) <;> simp +decide [State.hrdStageWrite, hf]; done)
  | (unfold State.hrdStageWrite; (repeat' split) <;> (try dsimp only) <;> simp +decide [State.hrdStageWrite, hf]; done)

@[simp] theorem State_hrdCmd_keep (s : State) (o : Origin) (f : State → State) (hf : ∀  s, (f  s).keep = s.keep) :
    (State.hrdCmd s o f).1.keep = s.keep := by
  first
  | (simp +decide [State.hrdCmd, hf]; done)
  | (unfold State.hrdCmd; (repeat' split) <;> (try dsimp only) <;> simp +decide [State.hrdCmd, hf]; done)

@[simp] theorem State_createHerd_keep (s : State) (i : Nat) :
    (State.createHerd s i).keep = s.keep := by
  first
  | (simp +decide [State.createHerd]; done)
  | (unfold State.createHerd; (repeat' split) <;> (try dsimp only) <;> simp +decide [State.createHerd]; done)

theorem herdCreate_keep (o : Origin) (i : Nat) (s : State) :
    (herdCreate o i s).keep = s.keep := by
  first
  | (simp +decide [herdCreate]; done)
  | (unfold herdCreate; (repeat' split) <;> (try dsimp only) <;> simp +decide [herdCreate]; done)

@[simp] theorem State_awaitIdle_keep (s : State) (i opc : Nat) :
    (State.awaitIdle s i opc).keep = s.keep := by
  first
  | (simp +decide [State.awaitIdle]; done)
  | (unfold State.awaitIdle; (repeat' split) <;> (try dsimp only) <;> simp +decide [State.awaitIdle]; done)

@[simp] theorem State_destroyHerd_keep (s : State) (i : Nat) :
    (State.destroyHerd s i).keep = s.keep := by
  first
  | (unfold State.destroyHerd; (repeat' split) <;> (try dsimp only) <;> simp +decide [State.destroyHerd]; done)
  | (simp +decide [State.destroyHerd]; done)

theorem herdDestroy_keep (o : Origin) (i : Nat) (s : State) :
    (herdDestroy o i s).keep = s.keep := by
  first
  | (simp +decide [herdDestroy]; done)
  | (unfold herdDestroy; (repeat' split) <;> (try dsimp only) <;> simp +decide [herdDestroy]; done)

@[simp] theorem State_abortHerd_keep (s : State) (i : Nat) :
    (State.abortHerd s i).keep = s.keep := by
  first
  | (unfold State.abortHerd; (repeat' split) <;> (try dsimp only) <;> simp +decide [State.abortHerd]; done)
  | (simp +decide [State.abortHerd]; done)

theorem herdAbortCmd_keep (o : Origin) (i : Nat) (s : State) :
    (herdAbortCmd o i s).keep = s.keep := by
  first
  | (simp +decide [herdAbortCmd]; done)
  | (unfold herdAbortCmd; (repeat' split) <;> (try dsimp only) <;> simp +decide [herdAbortCmd]; done)

@[simp] theorem State_swapSlot_keep (s : State) (i v k : Nat) (atStep : Bool) :
    (State.swapSlot s i v k atStep).keep = s.keep := by
  first
  | (unfold State.swapSlot; (repeat' split) <;> (try dsimp only) <;> simp +decide [State.swapSlot]; done)
  | (simp +decide [State.swapSlot]; done)

theorem herdSwapCmd_keep (o : Origin) (i v k : Nat) (atStep : Bool) (s : State) :
    (herdSwapCmd o i v k atStep s).keep = s.keep := by
  first
  | (simp +decide [herdSwapCmd]; done)
  | (unfold herdSwapCmd; (repeat' split) <;> (try dsimp only) <;> simp +decide [herdSwapCmd]; done)

@[simp] theorem State_writeHrdCmd_keep (s : State) (o : Origin) (x : Word) :
    (State.writeHrdCmd s o x).1.keep = s.keep := by
  first
  | (simp +decide [State.writeHrdCmd]; done)
  | (unfold State.writeHrdCmd; (repeat' split) <;> (try dsimp only) <;> simp +decide [State.writeHrdCmd]; done)

@[simp] theorem State_readSvcClaim_keep (s : State) (o : Origin) :
    (State.readSvcClaim s o).1.keep = s.keep := by
  first
  | (simp only [State.readSvcClaim]; (repeat' split) <;> simp +decide [State.readSvcClaim]; done)
  | (unfold State.readSvcClaim; (repeat' split) <;> (try dsimp only) <;> simp +decide [State.readSvcClaim]; done)

theorem svcClaimRead_keep (o : Origin) (s : State) :
    (svcClaimRead o s).keep = s.keep := by
  first
  | (simp +decide [svcClaimRead]; done)
  | (unfold svcClaimRead; (repeat' split) <;> (try dsimp only) <;> simp +decide [svcClaimRead]; done)

@[simp] theorem State_svcStageWrite_keep (s : State) (o : Origin) (f : State → Written) (hf : ∀  s, (f  s).1.keep = s.keep) :
    (State.svcStageWrite s o f).1.keep = s.keep := by
  first
  | (simp only [State.svcStageWrite]; (repeat' split) <;> simp +decide [State.svcStageWrite, hf]; done)
  | (unfold State.svcStageWrite; (repeat' split) <;> (try dsimp only) <;> simp +decide [State.svcStageWrite, hf]; done)

@[simp] theorem State_svcDone_keep (s : State) (status detail : Nat) (instr : Nat) :
    (State.svcDone s status detail instr).keep = s.keep := by
  first
  | (simp +decide [State.svcDone]; done)
  | (unfold State.svcDone; (repeat' split) <;> (try dsimp only) <;> simp +decide [State.svcDone]; done)

@[simp] theorem State_svcCmd_keep (s : State) (o : Origin) (f : State → State) (hf : ∀  s, (f  s).keep = s.keep) :
    (State.svcCmd s o f).1.keep = s.keep := by
  first
  | (simp +decide [State.svcCmd, hf]; done)
  | (unfold State.svcCmd; (repeat' split) <;> (try dsimp only) <;> simp +decide [State.svcCmd, hf]; done)

@[simp] theorem State_loadProgram_keep (s : State) (slot : Nat) :
    (State.loadProgram s slot).keep = s.keep := by
  first
  | (simp only [State.loadProgram]; (repeat' split) <;> simp +decide [State.loadProgram]; done)
  | (unfold State.loadProgram; (repeat' split) <;> (try dsimp only) <;> simp +decide [State.loadProgram]; done)

theorem svcLoad_keep (o : Origin) (slot : Nat) (s : State) :
    (svcLoad o slot s).keep = s.keep := by
  first
  | (simp +decide [svcLoad]; done)
  | (unfold svcLoad; (repeat' split) <;> (try dsimp only) <;> simp +decide [svcLoad]; done)

@[simp] theorem State_unloadProgram_keep (s : State) (slot : Nat) :
    (State.unloadProgram s slot).keep = s.keep := by
  first
  | (simp +decide [State.unloadProgram]; done)
  | (unfold State.unloadProgram; (repeat' split) <;> (try dsimp only) <;> simp +decide [State.unloadProgram]; done)

theorem svcUnload_keep (o : Origin) (slot : Nat) (s : State) :
    (svcUnload o slot s).keep = s.keep := by
  first
  | (simp +decide [svcUnload]; done)
  | (unfold svcUnload; (repeat' split) <;> (try dsimp only) <;> simp +decide [svcUnload]; done)

@[simp] theorem State_attachHerd_keep (s : State) (i : Nat) :
    (State.attachHerd s i).keep = s.keep := by
  first
  | (simp +decide [State.attachHerd]; done)
  | (unfold State.attachHerd; (repeat' split) <;> (try dsimp only) <;> simp +decide [State.attachHerd]; done)

theorem svcAttach_keep (o : Origin) (i : Nat) (s : State) :
    (svcAttach o i s).keep = s.keep := by
  first
  | (simp +decide [svcAttach]; done)
  | (unfold svcAttach; (repeat' split) <;> (try dsimp only) <;> simp +decide [svcAttach]; done)

@[simp] theorem State_detachHerd_keep (s : State) (i : Nat) :
    (State.detachHerd s i).keep = s.keep := by
  first
  | (simp +decide [State.detachHerd]; done)
  | (unfold State.detachHerd; (repeat' split) <;> (try dsimp only) <;> simp +decide [State.detachHerd]; done)

theorem svcDetach_keep (o : Origin) (i : Nat) (s : State) :
    (svcDetach o i s).keep = s.keep := by
  first
  | (simp +decide [svcDetach]; done)
  | (unfold svcDetach; (repeat' split) <;> (try dsimp only) <;> simp +decide [svcDetach]; done)

@[simp] theorem State_stageConsts_keep (s : State) (i : Nat) :
    (State.stageConsts s i).keep = s.keep := by
  first
  | (simp +decide [State.stageConsts]; done)
  | (unfold State.stageConsts; (repeat' split) <;> (try dsimp only) <;> simp +decide [State.stageConsts]; done)

theorem svcConst_keep (o : Origin) (i : Nat) (s : State) :
    (svcConst o i s).keep = s.keep := by
  first
  | (simp +decide [svcConst]; done)
  | (unfold svcConst; (repeat' split) <;> (try dsimp only) <;> simp +decide [svcConst]; done)

@[simp] theorem State_setCommitted_keep (s : State) (v : Word) :
    (State.setCommitted s v).1.keep = s.keep := by
  first
  | (simp only [State.setCommitted]; (repeat' split) <;> simp +decide [State.setCommitted]; done)
  | (unfold State.setCommitted; (repeat' split) <;> (try dsimp only) <;> simp +decide [State.setCommitted]; done)

theorem attCommitWrite_keep (path : Path) (v : Word) (s : State) :
    (attCommitWrite path v s).keep = s.keep := by
  first
  | (simp +decide [attCommitWrite]; done)
  | (unfold attCommitWrite; (repeat' split) <;> (try dsimp only) <;> simp +decide [attCommitWrite]; done)

@[simp] theorem State_sealRegion_keep (s : State) (o : Origin) (g : Nat) :
    (State.sealRegion s o g).keep = s.keep := by
  first
  | (simp +decide [State.sealRegion]; done)
  | (unfold State.sealRegion; (repeat' split) <;> (try dsimp only) <;> simp +decide [State.sealRegion]; done)

theorem svcSeal_keep (o : Origin) (g : Nat) (s : State) :
    (svcSeal o g s).keep = s.keep := by
  first
  | (simp +decide [svcSeal]; done)
  | (unfold svcSeal; (repeat' split) <;> (try dsimp only) <;> simp +decide [svcSeal]; done)

@[simp] theorem State_unsealRegion_keep (s : State) (g : Nat) :
    (State.unsealRegion s g).keep = s.keep := by
  first
  | (simp +decide [State.unsealRegion]; done)
  | (unfold State.unsealRegion; (repeat' split) <;> (try dsimp only) <;> simp +decide [State.unsealRegion]; done)

theorem svcUnseal_keep (o : Origin) (g : Nat) (s : State) :
    (svcUnseal o g s).keep = s.keep := by
  first
  | (simp +decide [svcUnseal]; done)
  | (unfold svcUnseal; (repeat' split) <;> (try dsimp only) <;> simp +decide [svcUnseal]; done)

theorem regionHashDone_keep (bulk : List (Nat × List Byte)) (s : State) :
    (regionHashDone bulk s).keep = s.keep := by
  first
  | (unfold regionHashDone; (repeat' split) <;> (try dsimp only) <;> simp +decide [regionHashDone]; done)
  | (simp +decide [regionHashDone]; done)

@[simp] theorem State_setTable_keep (s : State) (o : Origin) (t : Nat) :
    (State.setTable s o t).keep = s.keep := by
  first
  | (simp +decide [State.setTable]; done)
  | (unfold State.setTable; (repeat' split) <;> (try dsimp only) <;> simp +decide [State.setTable]; done)

theorem svcTableSet_keep (o : Origin) (t : Nat) (s : State) :
    (svcTableSet o t s).keep = s.keep := by
  first
  | (simp +decide [svcTableSet]; done)
  | (unfold svcTableSet; (repeat' split) <;> (try dsimp only) <;> simp +decide [svcTableSet]; done)

@[simp] theorem State_clearTable_keep (s : State) (t : Nat) :
    (State.clearTable s t).keep = s.keep := by
  first
  | (simp +decide [State.clearTable]; done)
  | (unfold State.clearTable; (repeat' split) <;> (try dsimp only) <;> simp +decide [State.clearTable]; done)

theorem svcTableClr_keep (o : Origin) (t : Nat) (s : State) :
    (svcTableClr o t s).keep = s.keep := by
  first
  | (simp +decide [svcTableClr]; done)
  | (unfold svcTableClr; (repeat' split) <;> (try dsimp only) <;> simp +decide [svcTableClr]; done)

@[simp] theorem State_writeSvcCmd_keep (s : State) (o : Origin) (x : Word) :
    (State.writeSvcCmd s o x).1.keep = s.keep := by
  first
  | (simp +decide [State.writeSvcCmd]; done)
  | (unfold State.writeSvcCmd; (repeat' split) <;> (try dsimp only) <;> simp +decide [State.writeSvcCmd]; done)

@[simp] theorem State_releaseChunk_keep (s : State) (i c : Nat) :
    (State.releaseChunk s i c).keep = s.keep := by
  unfold State.releaseChunk; repeat' (first | (simp +decide [State.releaseChunk]; done) | (intros; split) | (intros; first | refine Eq.trans (foldl_keep _ _ _ fun _ _ => ?_) ?_ | refine Eq.trans (foldl_fst_keep _ _ _ fun _ _ => ?_) ?_ | refine Eq.trans (when_keep _ _ _ ?_) ?_) | dsimp only | simp +decide [State.releaseChunk])

@[simp] theorem State_runProgram_keep (s : State) (i c core : Nat) (h : Herd) (a : Attach) (p : Prog) :
    (State.runProgram s i c core h a p).keep = s.keep := by
  first
  | (simp +decide [State.runProgram]; done)
  | (unfold State.runProgram; (repeat' split) <;> (try dsimp only) <;> simp +decide [State.runProgram]; done)

theorem programChunkDone_keep (i c core : Nat) (s : State) :
    (programChunkDone i c core s).keep = s.keep := by
  first
  | (simp only [programChunkDone]; (repeat' split) <;> simp +decide [programChunkDone]; done)
  | (unfold programChunkDone; (repeat' split) <;> (try dsimp only) <;> simp +decide [programChunkDone]; done)

end Sys2Proof.Machine
end

