-- ==== Sys2Proof/Laws/FixedEndpoint.lean ====
section
/-! SUPPORT. Every operation of the endpoint leaves the identification words and the queue as they were. -/

set_option Elab.async false
set_option linter.all false

namespace Sys2Proof.Machine

@[simp] theorem State_onAg_keep (s : State) (f : Traffic → Traffic) :
    (State.onAg s f).keep = s.keep := by
  first
  | (simp +decide [State.onAg]; done)
  | (unfold State.onAg; (repeat' split) <;> (try dsimp only) <;> simp +decide [State.onAg]; done)

@[simp] theorem State_tookId_keep (s : State) :
    (State.tookId s).keep = s.keep := by
  first
  | (simp +decide [State.tookId]; done)
  | (unfold State.tookId; (repeat' split) <;> (try dsimp only) <;> simp +decide [State.tookId]; done)

@[simp] theorem State_accRead_keep (s : State) (for_ : AccFor) (addr len : Nat) :
    (State.accRead s for_ addr len).keep = s.keep := by
  first
  | (simp +decide [State.accRead]; done)
  | (unfold State.accRead; (repeat' split) <;> (try dsimp only) <;> simp +decide [State.accRead]; done)

@[simp] theorem State_accWrite_keep (s : State) (addr : Nat) (data : List Byte) :
    (State.accWrite s addr data).keep = s.keep := by
  first
  | (simp +decide [State.accWrite]; done)
  | (unfold State.accWrite; (repeat' split) <;> (try dsimp only) <;> simp +decide [State.accWrite]; done)

@[simp] theorem State_memCpl_keep (s : State) (id status : Nat) (data : List Byte) :
    (State.memCpl s id status data).keep = s.keep := by
  first
  | (simp +decide [State.memCpl]; done)
  | (unfold State.memCpl; (repeat' split) <;> (try dsimp only) <;> simp +decide [State.memCpl]; done)

@[simp] theorem State_atcKeep_keep (s : State) (key : Nat) (e : Word) :
    (State.atcKeep s key e).keep = s.keep := by
  first
  | (simp +decide [State.atcKeep]; done)
  | (unfold State.atcKeep; (repeat' split) <;> (try dsimp only) <;> simp +decide [State.atcKeep]; done)

@[simp] theorem State_hotPage_keep (s : State) (page count range kind slot : Nat) :
    (State.hotPage s page count range kind slot).keep = s.keep := by
  first
  | (simp +decide [State.hotPage]; done)
  | (unfold State.hotPage; (repeat' split) <;> (try dsimp only) <;> simp +decide [State.hotPage]; done)

@[simp] theorem State_acnRoll_keep (s : State) :
    (State.acnRoll s).keep = s.keep := by
  first
  | (simp +decide [State.acnRoll]; done)
  | (unfold State.acnRoll; (repeat' split) <;> (try dsimp only) <;> simp +decide [State.acnRoll]; done)

@[simp] theorem State_acnHit_keep (s : State) (kind place page : Nat) :
    (State.acnHit s kind place page).keep = s.keep := by
  first
  | (simp only [State.acnHit]; (repeat' split) <;> simp +decide [State.acnHit]; done)
  | (unfold State.acnHit; (repeat' split) <;> (try dsimp only) <;> simp +decide [State.acnHit]; done)

@[simp] theorem State_acnSent_keep (s : State) (k : Packet) :
    (State.acnSent s k).keep = s.keep := by
  first
  | (unfold State.acnSent; (repeat' split) <;> (try dsimp only) <;> simp +decide [State.acnSent]; done)
  | (simp +decide [State.acnSent]; done)

@[simp] theorem State_tookTag_keep (s : State) (t : Nat) :
    (State.tookTag s t).keep = s.keep := by
  first
  | (simp +decide [State.tookTag]; done)
  | (unfold State.tookTag; (repeat' split) <;> (try dsimp only) <;> simp +decide [State.tookTag]; done)

@[simp] theorem State_sendReq_keep (s : State) (for_ : ReqFor) (k : Packet) (tag : Nat) :
    (State.sendReq s for_ k tag).keep = s.keep := by
  first
  | (simp +decide [State.sendReq]; done)
  | (unfold State.sendReq; (repeat' split) <;> (try dsimp only) <;> simp +decide [State.sendReq]; done)

@[simp] theorem State_onEpReq_keep (s : State) (tag : Nat) (f : Req → Req) :
    (State.onEpReq s tag f).keep = s.keep := by
  first
  | (simp +decide [State.onEpReq]; done)
  | (unfold State.onEpReq; (repeat' split) <;> (try dsimp only) <;> simp +decide [State.onEpReq]; done)

@[simp] theorem State_resendReq_keep (s : State) (r : Req) :
    (State.resendReq s r).keep = s.keep := by
  first
  | (simp +decide [State.resendReq]; done)
  | (unfold State.resendReq; (repeat' split) <;> (try dsimp only) <;> simp +decide [State.resendReq]; done)

@[simp] theorem State_endReq_keep (s : State) (r : Req) (timedOut : Bool) :
    (State.endReq s r timedOut).keep = s.keep := by
  first
  | (simp +decide [State.endReq]; done)
  | (unfold State.endReq; (repeat' split) <;> (try dsimp only) <;> simp +decide [State.endReq]; done)

@[simp] theorem State_cmdSettle_keep (s : State) (q i : Nat) :
    (State.cmdSettle s q i).keep = s.keep := by
  first
  | (unfold State.cmdSettle; (repeat' split) <;> (try dsimp only) <;> simp +decide [State.cmdSettle]; done)
  | (simp +decide [State.cmdSettle]; done)

@[simp] theorem State_cmdTakes_keep (s : State) (q : Access) (status : Nat) (data : List Byte) (aux : Nat) (resent : Bool) :
    (State.cmdTakes s q status data aux resent).keep = s.keep := by
  first
  | (simp only [State.cmdTakes]; (repeat' split) <;> simp +decide [State.cmdTakes]; done)
  | (unfold State.cmdTakes; (repeat' split) <;> (try dsimp only) <;> simp +decide [State.cmdTakes]; done)

@[simp] theorem State_dropAcc_keep (s : State) (id : Nat) :
    (State.dropAcc s id).keep = s.keep := by
  first
  | (simp +decide [State.dropAcc]; done)
  | (unfold State.dropAcc; (repeat' split) <;> (try dsimp only) <;> simp +decide [State.dropAcc]; done)

@[simp] theorem State_finish_keep (s : State) (id status : Nat) (data : List Byte) (aux : Nat) (resent : Bool) :
    (State.finish s id status data aux resent).keep = s.keep := by
  first
  | (unfold State.finish; (repeat' split) <;> (try dsimp only) <;> simp +decide [State.finish]; done)
  | (simp +decide [State.finish]; done)

@[simp] theorem State_onAcc_keep (s : State) (id : Nat) (f : Access → Access) :
    (State.onAcc s id f).keep = s.keep := by
  first
  | (simp +decide [State.onAcc]; done)
  | (unfold State.onAcc; (repeat' split) <;> (try dsimp only) <;> simp +decide [State.onAcc]; done)

@[simp] theorem State_keepCopy_keep (s : State) (a : Word) (c : Copy) :
    (State.keepCopy s a c).keep = s.keep := by
  first
  | (simp +decide [State.keepCopy]; done)
  | (unfold State.keepCopy; (repeat' split) <;> (try dsimp only) <;> simp +decide [State.keepCopy]; done)

@[simp] theorem State_localSync_keep (s : State) (q : Access) :
    (State.localSync s q).keep = s.keep := by
  first
  | (simp +decide [State.localSync]; done)
  | (unfold State.localSync; (repeat' split) <;> (try dsimp only) <;> simp +decide [State.localSync]; done)

@[simp] theorem State_sendAcc_keep (s : State) (q : Access) (op : Nat) (fab : Word) (len : Nat) (data : List Byte) :
    (State.sendAcc s q op fab len data).keep = s.keep := by
  first
  | (simp only [State.sendAcc]; (repeat' split) <;> simp +decide [State.sendAcc]; done)
  | (unfold State.sendAcc; (repeat' split) <;> (try dsimp only) <;> simp +decide [State.sendAcc]; done)

@[simp] theorem State_epWriteBack_keep (s : State) (q : Access) (e : Nat × Copy) :
    (State.epWriteBack s q e).keep = s.keep := by
  first
  | (simp +decide [State.epWriteBack]; done)
  | (unfold State.epWriteBack; (repeat' split) <;> (try dsimp only) <;> simp +decide [State.epWriteBack]; done)

@[simp] theorem State_runCached_keep (s : State) (q : Access) :
    (State.runCached s q).keep = s.keep := by
  first
  | (unfold State.runCached; (repeat' split) <;> (try dsimp only) <;> simp +decide [State.runCached]; done)
  | (simp +decide [State.runCached]; done)

@[simp] theorem State_cachedAnswer_keep (s : State) (q : Access) (status : Nat) (data : List Byte) (uncached resent : Bool) :
    (State.cachedAnswer s q status data uncached resent).keep = s.keep := by
  first
  | (simp only [State.cachedAnswer]; (repeat' split) <;> simp +decide [State.cachedAnswer]; done)
  | (unfold State.cachedAnswer; (repeat' split) <;> (try dsimp only) <;> simp +decide [State.cachedAnswer]; done)

@[simp] theorem State_driveOne_keep (s : State) (q : Access) :
    (State.driveOne s q).keep = s.keep := by
  first
  | (unfold State.driveOne; (repeat' split) <;> (try dsimp only) <;> simp +decide [State.driveOne]; done)
  | (simp +decide [State.driveOne]; done)

@[simp] theorem State_driveXlate_keep (s : State) (x : Xlate) :
    (State.driveXlate s x).keep = s.keep := by
  first
  | (unfold State.driveXlate; (repeat' split) <;> (try dsimp only) <;> simp +decide [State.driveXlate]; done)
  | (simp +decide [State.driveXlate]; done)

@[simp] theorem State_drivePass_keep (s : State) :
    (State.drivePass s).keep = s.keep := by
  unfold State.drivePass; repeat' (first | (simp +decide [State.drivePass]; done) | (intros; split) | (intros; first | refine Eq.trans (foldl_keep _ _ _ fun _ _ => ?_) ?_ | refine Eq.trans (foldl_fst_keep _ _ _ fun _ _ => ?_) ?_ | refine Eq.trans (when_keep _ _ _ ?_) ?_) | dsimp only | simp +decide [State.drivePass])

@[simp] theorem State_driveN_keep (n : Nat) (s : State) : (State.driveN n s).keep = s.keep := by
  induction n generalizing s with
  | zero => rfl
  | succ n ih => unfold State.driveN; dsimp only; split <;> simp [ih]

@[simp] theorem State_drive_keep (s : State) :
    (State.drive s).keep = s.keep := by
  first
  | (simp +decide [State.drive]; done)
  | (unfold State.drive; (repeat' split) <;> (try dsimp only) <;> simp +decide [State.drive]; done)

@[simp] theorem State_addAcc_keep (s : State) (q : Access) :
    (State.addAcc s q).keep = s.keep := by
  first
  | (simp +decide [State.addAcc]; done)
  | (unfold State.addAcc; (repeat' split) <;> (try dsimp only) <;> simp +decide [State.addAcc]; done)

@[simp] theorem State_onMemb_keep (s : State) (q i : Nat) (f : Memb → Memb) :
    (State.onMemb s q i f).keep = s.keep := by
  first
  | (simp +decide [State.onMemb]; done)
  | (unfold State.onMemb; (repeat' split) <;> (try dsimp only) <;> simp +decide [State.onMemb]; done)

@[simp] theorem State_membSend_keep (s : State) (m : Memb) (op : Nat) (pre : HerdPrefix) (data : List Byte) :
    (State.membSend s m op pre data).keep = s.keep := by
  first
  | (simp +decide [State.membSend]; done)
  | (unfold State.membSend; (repeat' split) <;> (try dsimp only) <;> simp +decide [State.membSend]; done)

@[simp] theorem State_membAsk_keep (s : State) (m : Memb) (reason : Nat) :
    (State.membAsk s m reason).keep = s.keep := by
  first
  | (simp +decide [State.membAsk]; done)
  | (unfold State.membAsk; (repeat' split) <;> (try dsimp only) <;> simp +decide [State.membAsk]; done)

@[simp] theorem State_readChunk_keep (s : State) (m : Memb) (c : Nat) :
    (State.readChunk s m c).keep = s.keep := by
  first
  | (simp +decide [State.readChunk]; done)
  | (unfold State.readChunk; (repeat' split) <;> (try dsimp only) <;> simp +decide [State.readChunk]; done)

@[simp] theorem State_membStart_keep (s : State) (m : Memb) (first : Nat) :
    (State.membStart s m first).keep = s.keep := by
  first
  | (simp +decide [State.membStart]; done)
  | (unfold State.membStart; (repeat' split) <;> (try dsimp only) <;> simp +decide [State.membStart]; done)

@[simp] theorem State_a2aCheck_keep (s : State) (q i : Nat) :
    (State.a2aCheck s q i).keep = s.keep := by
  first
  | (unfold State.a2aCheck; (repeat' split) <;> (try dsimp only) <;> simp +decide [State.a2aCheck]; done)
  | (simp +decide [State.a2aCheck]; done)

@[simp] theorem State_readRecords_keep (s : State) (m : Memb) (lists : List Nat) :
    (State.readRecords s m lists).keep = s.keep := by
  unfold State.readRecords; repeat' (first | (simp +decide [State.readRecords]; done) | (intros; split) | (intros; first | refine Eq.trans (foldl_keep _ _ _ fun _ _ => ?_) ?_ | refine Eq.trans (foldl_fst_keep _ _ _ fun _ _ => ?_) ?_ | refine Eq.trans (when_keep _ _ _ ?_) ?_) | dsimp only | simp +decide [State.readRecords])

@[simp] theorem State_membData_keep (s : State) (q i kind a b : Nat) (data : List Byte) :
    (State.membData s q i kind a b data).keep = s.keep := by
  first
  | (unfold State.membData; (repeat' split) <;> (try dsimp only) <;> simp +decide [State.membData]; done)
  | (simp +decide [State.membData]; done)

@[simp] theorem State_membFault_keep (s : State) (q i : Nat) :
    (State.membFault s q i).keep = s.keep := by
  first
  | (unfold State.membFault; (repeat' split) <;> (try dsimp only) <;> simp +decide [State.membFault]; done)
  | (simp +decide [State.membFault]; done)

@[simp] theorem State_dropReads_keep (s : State) (q i : Nat) :
    (State.dropReads s q i).keep = s.keep := by
  first
  | (simp +decide [State.dropReads]; done)
  | (unfold State.dropReads; (repeat' split) <;> (try dsimp only) <;> simp +decide [State.dropReads]; done)

@[simp] theorem State_membDone_keep (s : State) (m : Memb) (record : List Byte) :
    (State.membDone s m record).keep = s.keep := by
  first
  | (simp +decide [State.membDone]; done)
  | (unfold State.membDone; (repeat' split) <;> (try dsimp only) <;> simp +decide [State.membDone]; done)

@[simp] theorem State_membAbort_keep (s : State) (m : Memb) (reason : Nat) (bits : Nat) :
    (State.membAbort s m reason bits).keep = s.keep := by
  first
  | (simp +decide [State.membAbort]; done)
  | (unfold State.membAbort; (repeat' split) <;> (try dsimp only) <;> simp +decide [State.membAbort]; done)

@[simp] theorem State_membSignal_keep (s : State) (m : Memb) :
    (State.membSignal s m).keep = s.keep := by
  first
  | (simp +decide [State.membSignal]; done)
  | (unfold State.membSignal; (repeat' split) <;> (try dsimp only) <;> simp +decide [State.membSignal]; done)

@[simp] theorem State_membApply_keep (s : State) (q i : Nat) :
    (State.membApply s q i).keep = s.keep := by
  first
  | (simp only [State.membApply]; (repeat' split) <;> simp +decide [State.membApply]; done)
  | (unfold State.membApply; (repeat' split) <;> (try dsimp only) <;> simp +decide [State.membApply]; done)

@[simp] theorem State_membResult_keep (s : State) (m : Memb) (pre : HerdPrefix) (data : List Byte) :
    (State.membResult s m pre data).keep = s.keep := by
  first
  | (simp +decide [State.membResult]; done)
  | (unfold State.membResult; (repeat' split) <;> (try dsimp only) <;> simp +decide [State.membResult]; done)

@[simp] theorem State_a2aGranted_keep (s : State) (m : Memb) (data : List Byte) :
    (State.a2aGranted s m data).keep = s.keep := by
  first
  | (simp +decide [State.a2aGranted]; done)
  | (unfold State.a2aGranted; (repeat' split) <;> (try dsimp only) <;> simp +decide [State.a2aGranted]; done)

@[simp] theorem State_membCounts_keep (s : State) (m : Memb) (pre : HerdPrefix) (data : List Byte) :
    (State.membCounts s m pre data).keep = s.keep := by
  first
  | (simp +decide [State.membCounts]; done)
  | (unfold State.membCounts; (repeat' split) <;> (try dsimp only) <;> simp +decide [State.membCounts]; done)

@[simp] theorem State_membRecord_keep (s : State) (m : Memb) (pre : HerdPrefix) (data : List Byte) :
    (State.membRecord s m pre data).keep = s.keep := by
  first
  | (simp +decide [State.membRecord]; done)
  | (unfold State.membRecord; (repeat' split) <;> (try dsimp only) <;> simp +decide [State.membRecord]; done)

@[simp] theorem State_membFailover_keep (s : State) (m : Memb) :
    (State.membFailover s m).keep = s.keep := by
  first
  | (simp +decide [State.membFailover]; done)
  | (unfold State.membFailover; (repeat' split) <;> (try dsimp only) <;> simp +decide [State.membFailover]; done)

@[simp] theorem State_membersPath_keep (s : State) :
    (State.membersPath s).keep = s.keep := by
  first
  | (simp +decide [State.membersPath]; done)
  | (unfold State.membersPath; (repeat' split) <;> (try dsimp only) <;> simp +decide [State.membersPath]; done)

@[simp] theorem State_atcDropAll_keep (s : State) :
    (State.atcDropAll s).keep = s.keep := by
  first
  | (simp +decide [State.atcDropAll]; done)
  | (unfold State.atcDropAll; (repeat' split) <;> (try dsimp only) <;> simp +decide [State.atcDropAll]; done)

@[simp] theorem State_epLinkLost_keep (s : State) :
    (State.epLinkLost s).keep = s.keep := by
  first
  | (simp +decide [State.epLinkLost]; done)
  | (unfold State.epLinkLost; (repeat' split) <;> (try dsimp only) <;> simp +decide [State.epLinkLost]; done)

@[simp] theorem State_xlateDone_keep (s : State) (id status : Nat) (data : List Byte) :
    (State.xlateDone s id status data).keep = s.keep := by
  first
  | (unfold State.xlateDone; (repeat' split) <;> (try dsimp only) <;> simp +decide [State.xlateDone]; done)
  | (simp +decide [State.xlateDone]; done)

@[simp] theorem State_completeReq_keep (s : State) (r : Req) (timedOut : Bool) (status : Nat) (data : List Byte) (aux : Nat) (uncached : Bool) :
    (State.completeReq s r timedOut status data aux uncached).keep = s.keep := by
  first
  | (simp only [State.completeReq]; (repeat' split) <;> simp +decide [State.completeReq]; done)
  | (unfold State.completeReq; (repeat' split) <;> (try dsimp only) <;> simp +decide [State.completeReq]; done)

@[simp] theorem State_badAnswer_keep (s : State) (r : Req) (k : Packet) :
    (State.badAnswer s r k).keep = s.keep := by
  first
  | (simp +decide [State.badAnswer]; done)
  | (unfold State.badAnswer; (repeat' split) <;> (try dsimp only) <;> simp +decide [State.badAnswer]; done)

@[simp] theorem State_takeAnswer_keep (s : State) (r : Req) (k : Packet) :
    (State.takeAnswer s r k).keep = s.keep := by
  first
  | (simp +decide [State.takeAnswer]; done)
  | (unfold State.takeAnswer; (repeat' split) <;> (try dsimp only) <;> simp +decide [State.takeAnswer]; done)

@[simp] theorem State_reqExpire_keep (s : State) (r : Req) :
    (State.reqExpire s r).keep = s.keep := by
  first
  | (simp +decide [State.reqExpire]; done)
  | (unfold State.reqExpire; (repeat' split) <;> (try dsimp only) <;> simp +decide [State.reqExpire]; done)

@[simp] theorem State_strayAnswer_keep (s : State) (k : Packet) :
    (State.strayAnswer s k).keep = s.keep := by
  first
  | (simp +decide [State.strayAnswer]; done)
  | (unfold State.strayAnswer; (repeat' split) <;> (try dsimp only) <;> simp +decide [State.strayAnswer]; done)

@[simp] theorem State_answerTo_keep (s : State) (k : Packet) (table : Bool) :
    (State.answerTo s k table).keep = s.keep := by
  first
  | (simp +decide [State.answerTo]; done)
  | (unfold State.answerTo; (repeat' split) <;> (try dsimp only) <;> simp +decide [State.answerTo]; done)

theorem answerReceive_keep (k : Packet) (s : State) :
    (answerReceive k s).keep = s.keep := by
  first
  | (simp only [answerReceive]; (repeat' split) <;> simp +decide [answerReceive]; done)
  | (unfold answerReceive; (repeat' split) <;> (try dsimp only) <;> simp +decide [answerReceive]; done)

theorem tableReadComplete_keep (k : Packet) (s : State) :
    (tableReadComplete k s).keep = s.keep := by
  first
  | (simp only [tableReadComplete]; (repeat' split) <;> simp +decide [tableReadComplete]; done)
  | (unfold tableReadComplete; (repeat' split) <;> (try dsimp only) <;> simp +decide [tableReadComplete]; done)

theorem gatherRowReceive_keep (k : Packet) (s : State) :
    (gatherRowReceive k s).keep = s.keep := by
  first
  | (simp only [gatherRowReceive]; (repeat' split) <;> simp +decide [gatherRowReceive]; done)
  | (unfold gatherRowReceive; (repeat' split) <;> (try dsimp only) <;> simp +decide [gatherRowReceive]; done)

theorem resendTimer_keep (tag : Nat) (s : State) :
    (resendTimer tag s).keep = s.keep := by
  first
  | (unfold resendTimer; (repeat' split) <;> (try dsimp only) <;> simp +decide [resendTimer]; done)
  | (simp +decide [resendTimer]; done)

theorem requestTimeout_keep (tag : Nat) (s : State) :
    (requestTimeout tag s).keep = s.keep := by
  first
  | (unfold requestTimeout; (repeat' split) <;> (try dsimp only) <;> simp +decide [requestTimeout]; done)
  | (simp +decide [requestTimeout]; done)

theorem tagHoldExpiry_keep (tag : Nat) (s : State) :
    (tagHoldExpiry tag s).keep = s.keep := by
  first
  | (unfold tagHoldExpiry; (repeat' split) <;> (try dsimp only) <;> simp +decide [tagHoldExpiry]; done)
  | (simp +decide [tagHoldExpiry]; done)

theorem outcomeReleaseSend_keep (kind target : Nat) (s : State) :
    (outcomeReleaseSend kind target s).keep = s.keep := by
  first
  | (simp +decide [outcomeReleaseSend]; done)
  | (unfold outcomeReleaseSend; (repeat' split) <;> (try dsimp only) <;> simp +decide [outcomeReleaseSend]; done)

theorem ddpRecordExpiry_keep (src tag : Nat) (s : State) :
    (ddpRecordExpiry src tag s).keep = s.keep := by
  first
  | (unfold ddpRecordExpiry; (repeat' split) <;> (try dsimp only) <;> simp +decide [ddpRecordExpiry]; done)
  | (simp +decide [ddpRecordExpiry]; done)

theorem memReq_keep (id queue op addr len : Nat) (data : List Byte) (vol cached : Bool) (s : State) :
    (memReq id queue op addr len data vol cached s).keep = s.keep := by
  first
  | (simp +decide [memReq]; done)
  | (unfold memReq; (repeat' split) <;> (try dsimp only) <;> simp +decide [memReq]; done)

@[simp] theorem State_epSnoopAnswer_keep (s : State) (k : Packet) (rsp : Nat) (data : List Byte) :
    (State.epSnoopAnswer s k rsp data).keep = s.keep := by
  first
  | (simp +decide [State.epSnoopAnswer]; done)
  | (unfold State.epSnoopAnswer; (repeat' split) <;> (try dsimp only) <;> simp +decide [State.epSnoopAnswer]; done)

theorem snoopReceive_keep (k : Packet) (s : State) :
    (snoopReceive k s).keep = s.keep := by
  first
  | (simp only [snoopReceive]; (repeat' split) <;> simp +decide [snoopReceive]; done)
  | (unfold snoopReceive; (repeat' split) <;> (try dsimp only) <;> simp +decide [snoopReceive]; done)

@[simp] theorem State_atcDrop_keep (s : State) (f : Nat → Bool) :
    (State.atcDrop s f).keep = s.keep := by
  first
  | (simp +decide [State.atcDrop]; done)
  | (unfold State.atcDrop; (repeat' split) <;> (try dsimp only) <;> simp +decide [State.atcDrop]; done)

theorem invalReceive_keep (k : Packet) (s : State) :
    (invalReceive k s).keep = s.keep := by
  first
  | (simp +decide [invalReceive]; done)
  | (unfold invalReceive; (repeat' split) <;> (try dsimp only) <;> simp +decide [invalReceive]; done)

theorem invalAckSend_keep (s : State) :
    (invalAckSend s).keep = s.keep := by
  first
  | (unfold invalAckSend; (repeat' split) <;> (try dsimp only) <;> simp +decide [invalAckSend]; done)
  | (simp +decide [invalAckSend]; done)

@[simp] theorem State_dropWin_keep (s : State) (id : Nat) :
    (State.dropWin s id).keep = s.keep := by
  first
  | (simp +decide [State.dropWin]; done)
  | (unfold State.dropWin; (repeat' split) <;> (try dsimp only) <;> simp +decide [State.dropWin]; done)

@[simp] theorem State_winPerform_keep (s : State) (x : WinReq) (addr : Nat) :
    (State.winPerform s x addr).keep = s.keep := by
  first
  | (simp +decide [State.winPerform]; done)
  | (unfold State.winPerform; (repeat' split) <;> (try dsimp only) <;> simp +decide [State.winPerform]; done)

@[simp] theorem State_subFill_keep (s : State) (key : Nat) :
    (State.subFill s key).keep = s.keep := by
  first
  | (simp +decide [State.subFill]; done)
  | (unfold State.subFill; (repeat' split) <;> (try dsimp only) <;> simp +decide [State.subFill]; done)

theorem windowRequest_keep (k : Packet) (s : State) :
    (windowRequest k s).keep = s.keep := by
  unfold windowRequest; repeat' (first | (simp +decide [windowRequest]; done) | (intros; split) | (intros; first | refine Eq.trans (State_dedup_keep _ _ _ _ (fun _ => ?_)) ?_ | refine Eq.trans (foldl_keep _ _ _ fun _ _ => ?_) ?_ | refine Eq.trans (foldl_fst_keep _ _ _ fun _ _ => ?_) ?_ | refine Eq.trans (when_keep _ _ _ ?_) ?_) | dsimp only | simp +decide [windowRequest])

@[simp] theorem State_subDone_keep (s : State) (key : Nat) (entry : Option Word) :
    (State.subDone s key entry).keep = s.keep := by
  unfold State.subDone; repeat' (first | (simp +decide [State.subDone]; done) | (intros; split) | (intros; first | refine Eq.trans (foldl_keep _ _ _ fun _ _ => ?_) ?_ | refine Eq.trans (foldl_fst_keep _ _ _ fun _ _ => ?_) ?_ | refine Eq.trans (when_keep _ _ _ ?_) ?_) | dsimp only | simp +decide [State.subDone])

@[simp] theorem State_accDone_keep (s : State) (o : AccOp) (status : Nat) (data : List Byte) :
    (State.accDone s o status data).keep = s.keep := by
  first
  | (simp only [State.accDone]; (repeat' split) <;> simp +decide [State.accDone]; done)
  | (unfold State.accDone; (repeat' split) <;> (try dsimp only) <;> simp +decide [State.accDone]; done)

@[simp] theorem State_accExpire_keep (s : State) (o : AccOp) :
    (State.accExpire s o).keep = s.keep := by
  first
  | (simp +decide [State.accExpire]; done)
  | (unfold State.accExpire; (repeat' split) <;> (try dsimp only) <;> simp +decide [State.accExpire]; done)

theorem accCpl_keep (id answer : Nat) (data : List Byte) (s : State) :
    (accCpl id answer data s).keep = s.keep := by
  first
  | (unfold accCpl; (repeat' split) <;> (try dsimp only) <;> simp +decide [accCpl]; done)
  | (simp +decide [accCpl]; done)

theorem accTimeout_keep (id : Nat) (s : State) :
    (accTimeout id s).keep = s.keep := by
  first
  | (unfold accTimeout; (repeat' split) <;> (try dsimp only) <;> simp +decide [accTimeout]; done)
  | (simp +decide [accTimeout]; done)

theorem discardAck_keep (id : Nat) (s : State) :
    (discardAck id s).keep = s.keep := by
  first
  | (simp only [discardAck]; (repeat' split) <;> simp +decide [discardAck]; done)
  | (unfold discardAck; (repeat' split) <;> (try dsimp only) <;> simp +decide [discardAck]; done)

@[simp] theorem State_subDrop_keep (s : State) (f : Nat → Bool) :
    (State.subDrop s f).keep = s.keep := by
  first
  | (simp +decide [State.subDrop]; done)
  | (unfold State.subDrop; (repeat' split) <;> (try dsimp only) <;> simp +decide [State.subDrop]; done)

@[simp] theorem State_closeWindow_keep (s : State) (w : Nat) :
    (State.closeWindow s w).keep = s.keep := by
  first
  | (simp +decide [State.closeWindow]; done)
  | (unfold State.closeWindow; (repeat' split) <;> (try dsimp only) <;> simp +decide [State.closeWindow]; done)

@[simp] theorem State_setWinCtl_keep (s : State) (v : Word) :
    (State.setWinCtl s v).1.keep = s.keep := by
  first
  | (simp +decide [State.setWinCtl]; done)
  | (unfold State.setWinCtl; (repeat' split) <;> (try dsimp only) <;> simp +decide [State.setWinCtl]; done)

theorem winValidSet_keep (path : Path) (v : Word) (s : State) :
    (winValidSet path v s).keep = s.keep := by
  first
  | (simp +decide [winValidSet]; done)
  | (unfold winValidSet; (repeat' split) <;> (try dsimp only) <;> simp +decide [winValidSet]; done)

theorem winValidClear_keep (path : Path) (v : Word) (s : State) :
    (winValidClear path v s).keep = s.keep := by
  first
  | (simp +decide [winValidClear]; done)
  | (unfold winValidClear; (repeat' split) <;> (try dsimp only) <;> simp +decide [winValidClear]; done)

@[simp] theorem State_setWinReg_keep (s : State) (r : Reg) (v : Word) (h : r.page ≠ 0) : (s.setWinReg r v).1.keep = s.keep := by
  unfold State.setWinReg; dsimp only; split <;> simp [h, wr_keep]

@[simp] theorem State_setGrant_keep (s : State) (v : Word) : (s.setGrant v).1.keep = s.keep := by
  unfold State.setGrant
  extract_lets e dup
  clear_value e dup
  split <;> simp [WIN_GNT_ENTRY]

theorem gntValidSet_keep (path : Path) (v : Word) (s : State) :
    (gntValidSet path v s).keep = s.keep := by
  first
  | (simp +decide [gntValidSet]; done)
  | (unfold gntValidSet; (repeat' split) <;> (try dsimp only) <;> simp +decide [gntValidSet]; done)

@[simp] theorem State_setWinInv_keep (s : State) (v : Word) :
    (State.setWinInv s v).1.keep = s.keep := by
  first
  | (simp +decide [State.setWinInv]; done)
  | (unfold State.setWinInv; (repeat' split) <;> (try dsimp only) <;> simp +decide [State.setWinInv]; done)

theorem winInvWrite_keep (path : Path) (v : Word) (s : State) :
    (winInvWrite path v s).keep = s.keep := by
  first
  | (simp +decide [winInvWrite]; done)
  | (unfold winInvWrite; (repeat' split) <;> (try dsimp only) <;> simp +decide [winInvWrite]; done)

@[simp] theorem State_setApCtl_keep (s : State) (n : Nat) (v : Word) : (s.setApCtl n v).1.keep = s.keep := by
  have hp : (apF APT_AP_CTL_VALID n).reg.page ≠ 0 := by simp [apF, APT_AP_CTL_VALID, APT_AP_CTL]
  unfold State.setApCtl
  dsimp only
  (repeat' split) <;> simp [hp]

theorem apValidSet_keep (path : Path) (n : Nat) (v : Word) (s : State) :
    (apValidSet path n v s).keep = s.keep := by
  first
  | (simp +decide [apValidSet]; done)
  | (unfold apValidSet; (repeat' split) <;> (try dsimp only) <;> simp +decide [apValidSet]; done)

theorem apValidClear_keep (path : Path) (n : Nat) (v : Word) (s : State) :
    (apValidClear path n v s).keep = s.keep := by
  first
  | (simp +decide [apValidClear]; done)
  | (unfold apValidClear; (repeat' split) <;> (try dsimp only) <;> simp +decide [apValidClear]; done)

@[simp] theorem State_setApReg_keep (s : State) (n : Nat) (r : Reg) (v : Word) (h : r.page ≠ 0) : (s.setApReg n r v).1.keep = s.keep := by
  unfold State.setApReg; split <;> simp [h]

@[simp] theorem State_atcFlush_keep (s : State) :
    (State.atcFlush s).keep = s.keep := by
  first
  | (simp +decide [State.atcFlush]; done)
  | (unfold State.atcFlush; (repeat' split) <;> (try dsimp only) <;> simp +decide [State.atcFlush]; done)

theorem atcFlush_keep (path : Path) (s : State) :
    (atcFlush path s).keep = s.keep := by
  first
  | (simp +decide [atcFlush]; done)
  | (unfold atcFlush; (repeat' split) <;> (try dsimp only) <;> simp +decide [atcFlush]; done)

@[simp] theorem State_setAcnCtl_keep (s : State) (v : Word) :
    (State.setAcnCtl s v).keep = s.keep := by
  first
  | (simp +decide [State.setAcnCtl]; done)
  | (unfold State.setAcnCtl; (repeat' split) <;> (try dsimp only) <;> simp +decide [State.setAcnCtl]; done)

theorem acnEnableWrite_keep (path : Path) (v : Word) (s : State) :
    (acnEnableWrite path v s).keep = s.keep := by
  first
  | (simp +decide [acnEnableWrite]; done)
  | (unfold acnEnableWrite; (repeat' split) <;> (try dsimp only) <;> simp +decide [acnEnableWrite]; done)

theorem acnEpochExpiry_keep (s : State) :
    (acnEpochExpiry s).keep = s.keep := by
  first
  | (simp +decide [acnEpochExpiry]; done)
  | (unfold acnEpochExpiry; (repeat' split) <;> (try dsimp only) <;> simp +decide [acnEpochExpiry]; done)

@[simp] theorem State_setRange_keep (s : State) (r : Nat) (v : Word) : (s.setRange r v).1.keep = s.keep := by
  have hp : (rngF ACN_RNG_CTL_VALID r).reg.page ≠ 0 := by simp [rngF, ACN_RNG_CTL_VALID, ACN_RNG_CTL]
  unfold State.setRange; split <;> simp [hp]

theorem rangeValidSet_keep (path : Path) (r : Nat) (v : Word) (s : State) :
    (rangeValidSet path r v s).keep = s.keep := by
  first
  | (simp +decide [rangeValidSet]; done)
  | (unfold rangeValidSet; (repeat' split) <;> (try dsimp only) <;> simp +decide [rangeValidSet]; done)

@[simp] theorem State_setQueueState_keep (s : State) (q st reason : Nat) :
    (State.setQueueState s q st reason).keep = s.keep := by
  first
  | (simp +decide [State.setQueueState]; done)
  | (unfold State.setQueueState; (repeat' split) <;> (try dsimp only) <;> simp +decide [State.setQueueState]; done)

@[simp] theorem State_setTail_keep (s : State) (q v : Nat) :
    (State.setTail s q v).keep = s.keep := by
  first
  | (simp only [State.setTail]; (repeat' split) <;> simp +decide [State.setTail]; done)
  | (unfold State.setTail; (repeat' split) <;> (try dsimp only) <;> simp +decide [State.setTail]; done)

theorem doorbell_keep (q v : Nat) (s : State) :
    (doorbell q v s).keep = s.keep := by
  first
  | (simp +decide [doorbell]; done)
  | (unfold doorbell; (repeat' split) <;> (try dsimp only) <;> simp +decide [doorbell]; done)

theorem qTailWrite_keep (path : Path) (v : Nat) (s : State) :
    (qTailWrite path v s).keep = s.keep := by
  first
  | (simp +decide [qTailWrite]; done)
  | (unfold qTailWrite; (repeat' split) <;> (try dsimp only) <;> simp +decide [qTailWrite]; done)

@[simp] theorem State_setQueueCfg_keep (s : State) (v : Word) :
    (State.setQueueCfg s v).1.keep = s.keep := by
  first
  | (simp +decide [State.setQueueCfg]; done)
  | (unfold State.setQueueCfg; (repeat' split) <;> (try dsimp only) <;> simp +decide [State.setQueueCfg]; done)

theorem qEnableWrite_keep (path : Path) (v : Word) (s : State) :
    (qEnableWrite path v s).keep = s.keep := by
  first
  | (simp +decide [qEnableWrite]; done)
  | (unfold qEnableWrite; (repeat' split) <;> (try dsimp only) <;> simp +decide [qEnableWrite]; done)

@[simp] theorem State_setQueueReg_keep (s : State) (r : Reg) (v : Word) (h : r.page ≠ 0) : (s.setQueueReg r v).1.keep = s.keep := by
  unfold State.setQueueReg; dsimp only; split <;> simp [h]

@[simp] theorem State_askDesc_keep (s : State) (q : Nat) :
    (State.askDesc s q).keep = s.keep := by
  first
  | (simp +decide [State.askDesc]; done)
  | (unfold State.askDesc; (repeat' split) <;> (try dsimp only) <;> simp +decide [State.askDesc]; done)

theorem descriptorFetch_keep (q : Nat) (desc : List Word) (s : State) :
    (descriptorFetch q desc s).keep = s.keep := by
  first
  | (simp +decide [descriptorFetch]; done)
  | (unfold descriptorFetch; (repeat' split) <;> (try dsimp only) <;> simp +decide [descriptorFetch]; done)

theorem descriptorFetchFail_keep (q : Nat) (s : State) :
    (descriptorFetchFail q s).keep = s.keep := by
  first
  | (simp +decide [descriptorFetchFail]; done)
  | (unfold descriptorFetchFail; (repeat' split) <;> (try dsimp only) <;> simp +decide [descriptorFetchFail]; done)

@[simp] theorem State_tookTurn_keep (s : State) (q : Nat) :
    (State.tookTurn s q).keep = s.keep := by
  first
  | (simp +decide [State.tookTurn]; done)
  | (unfold State.tookTurn; (repeat' split) <;> (try dsimp only) <;> simp +decide [State.tookTurn]; done)

@[simp] theorem State_issue_keep (s : State) (q : Nat) (is : Cmd → Bool) (f : Cmd → State → State) (hf : ∀ a0 s, (f a0 s).keep = s.keep) :
    (State.issue s q is f).keep = s.keep := by
  first
  | (unfold State.issue; (repeat' split) <;> (try dsimp only) <;> simp +decide [State.issue, hf]; done)
  | (simp +decide [State.issue, hf]; done)

@[simp] theorem State_cmdFail_keep (s : State) (c : Cmd) (status : Nat) :
    (State.cmdFail s c status).keep = s.keep := by
  first
  | (simp +decide [State.cmdFail]; done)
  | (unfold State.cmdFail; (repeat' split) <;> (try dsimp only) <;> simp +decide [State.cmdFail]; done)

@[simp] theorem State_addPkt_keep (s : State) (c : Cmd) (q : Access) :
    (State.addPkt s c q).keep = s.keep := by
  first
  | (simp +decide [State.addPkt]; done)
  | (unfold State.addPkt; (repeat' split) <;> (try dsimp only) <;> simp +decide [State.addPkt]; done)

@[simp] theorem State_addRead_keep (s : State) (c : Cmd) (q : Access) (addr len : Nat) :
    (State.addRead s c q addr len).keep = s.keep := by
  first
  | (simp +decide [State.addRead]; done)
  | (unfold State.addRead; (repeat' split) <;> (try dsimp only) <;> simp +decide [State.addRead]; done)

@[simp] theorem State_underCtx_keep (s : State) (c : Cmd) (f : Nat → Nat → State → State) (hf : ∀ a0 a1 s, (f a0 a1 s).keep = s.keep) :
    (State.underCtx s c f).keep = s.keep := by
  first
  | (simp only [State.underCtx]; (repeat' split) <;> simp +decide [State.underCtx, hf]; done)
  | (unfold State.underCtx; (repeat' split) <;> (try dsimp only) <;> simp +decide [State.underCtx, hf]; done)

theorem cmdNop_keep (q : Nat) (s : State) :
    (cmdNop q s).keep = s.keep := by
  first
  | (simp +decide [cmdNop]; done)
  | (unfold cmdNop; (repeat' split) <;> (try dsimp only) <;> simp +decide [cmdNop]; done)

theorem cmdGet_keep (q : Nat) (s : State) :
    (cmdGet q s).keep = s.keep := by
  unfold cmdGet; repeat' (first | (simp +decide [cmdGet]; done) | (intros; split) | (intros; first | refine Eq.trans (State_underCtx_keep _ _ _ (fun _ _ _ => ?_)) ?_ | refine Eq.trans (State_issue_keep _ _ _ _ (fun _ _ => ?_)) ?_ | refine Eq.trans (foldl_keep _ _ _ fun _ _ => ?_) ?_ | refine Eq.trans (foldl_fst_keep _ _ _ fun _ _ => ?_) ?_ | refine Eq.trans (when_keep _ _ _ ?_) ?_) | dsimp only | simp +decide [cmdGet])

theorem cmdPut_keep (q : Nat) (s : State) :
    (cmdPut q s).keep = s.keep := by
  unfold cmdPut; repeat' (first | (simp +decide [cmdPut]; done) | (intros; split) | (intros; first | refine Eq.trans (State_underCtx_keep _ _ _ (fun _ _ _ => ?_)) ?_ | refine Eq.trans (State_issue_keep _ _ _ _ (fun _ _ => ?_)) ?_ | refine Eq.trans (foldl_keep _ _ _ fun _ _ => ?_) ?_ | refine Eq.trans (foldl_fst_keep _ _ _ fun _ _ => ?_) ?_ | refine Eq.trans (when_keep _ _ _ ?_) ?_) | dsimp only | simp +decide [cmdPut])

theorem cmdAtomic_keep (q : Nat) (s : State) :
    (cmdAtomic q s).keep = s.keep := by
  first
  | (simp +decide [cmdAtomic]; done)
  | (unfold cmdAtomic; (repeat' split) <;> (try dsimp only) <;> simp +decide [cmdAtomic]; done)

@[simp] theorem State_syncPiece_keep (s : State) (c : Cmd) (op : Nat) (release : Bool) (data : List Byte) (aux ctx ptn : Nat) :
    (State.syncPiece s c op release data aux ctx ptn).keep = s.keep := by
  first
  | (simp +decide [State.syncPiece]; done)
  | (unfold State.syncPiece; (repeat' split) <;> (try dsimp only) <;> simp +decide [State.syncPiece]; done)

@[simp] theorem State_cmdRelease_keep (s : State) (q sub op aux : Nat) :
    (State.cmdRelease s q sub op aux).keep = s.keep := by
  first
  | (simp +decide [State.cmdRelease]; done)
  | (unfold State.cmdRelease; (repeat' split) <;> (try dsimp only) <;> simp +decide [State.cmdRelease]; done)

theorem cmdSyncAdd_keep (q : Nat) (s : State) :
    (cmdSyncAdd q s).keep = s.keep := by
  first
  | (simp +decide [cmdSyncAdd]; done)
  | (unfold cmdSyncAdd; (repeat' split) <;> (try dsimp only) <;> simp +decide [cmdSyncAdd]; done)

theorem cmdSyncSet_keep (q : Nat) (s : State) :
    (cmdSyncSet q s).keep = s.keep := by
  first
  | (simp +decide [cmdSyncSet]; done)
  | (unfold cmdSyncSet; (repeat' split) <;> (try dsimp only) <;> simp +decide [cmdSyncSet]; done)

theorem cmdSyncSetClear_keep (q : Nat) (s : State) :
    (cmdSyncSetClear q s).keep = s.keep := by
  first
  | (simp +decide [cmdSyncSetClear]; done)
  | (unfold cmdSyncSetClear; (repeat' split) <;> (try dsimp only) <;> simp +decide [cmdSyncSetClear]; done)

@[simp] theorem State_cmdAcquire_keep (s : State) (q sub : Nat) (wait : Bool) :
    (State.cmdAcquire s q sub wait).keep = s.keep := by
  first
  | (simp +decide [State.cmdAcquire]; done)
  | (unfold State.cmdAcquire; (repeat' split) <;> (try dsimp only) <;> simp +decide [State.cmdAcquire]; done)

theorem cmdSyncRead_keep (q : Nat) (s : State) :
    (cmdSyncRead q s).keep = s.keep := by
  first
  | (simp +decide [cmdSyncRead]; done)
  | (unfold cmdSyncRead; (repeat' split) <;> (try dsimp only) <;> simp +decide [cmdSyncRead]; done)

theorem cmdSyncWait_keep (q : Nat) (s : State) :
    (cmdSyncWait q s).keep = s.keep := by
  first
  | (simp +decide [cmdSyncWait]; done)
  | (unfold cmdSyncWait; (repeat' split) <;> (try dsimp only) <;> simp +decide [cmdSyncWait]; done)

theorem localWaitTmo_keep (q : Nat) (s : State) :
    (localWaitTmo q s).keep = s.keep := by
  first
  | (simp only [localWaitTmo]; (repeat' split) <;> simp +decide [localWaitTmo]; done)
  | (unfold localWaitTmo; (repeat' split) <;> (try dsimp only) <;> simp +decide [localWaitTmo]; done)

theorem cmdGather_keep (q : Nat) (s : State) :
    (cmdGather q s).keep = s.keep := by
  first
  | (simp +decide [cmdGather]; done)
  | (unfold cmdGather; (repeat' split) <;> (try dsimp only) <;> simp +decide [cmdGather]; done)

theorem cmdScatterAdd_keep (q : Nat) (s : State) :
    (cmdScatterAdd q s).keep = s.keep := by
  first
  | (simp +decide [cmdScatterAdd]; done)
  | (unfold cmdScatterAdd; (repeat' split) <;> (try dsimp only) <;> simp +decide [cmdScatterAdd]; done)

theorem cmdKstart_keep (q : Nat) (s : State) :
    (cmdKstart q s).keep = s.keep := by
  first
  | (simp +decide [cmdKstart]; done)
  | (unfold cmdKstart; (repeat' split) <;> (try dsimp only) <;> simp +decide [cmdKstart]; done)

theorem cmdKend_keep (q : Nat) (s : State) :
    (cmdKend q s).keep = s.keep := by
  first
  | (simp +decide [cmdKend]; done)
  | (unfold cmdKend; (repeat' split) <;> (try dsimp only) <;> simp +decide [cmdKend]; done)

@[simp] theorem State_cmdSignal_keep (s : State) (c : Cmd) :
    (State.cmdSignal s c).keep = s.keep := by
  first
  | (simp +decide [State.cmdSignal]; done)
  | (unfold State.cmdSignal; (repeat' split) <;> (try dsimp only) <;> simp +decide [State.cmdSignal]; done)

@[simp] theorem State_advanceDone_keep (s : State) (q : Nat) :
    (State.advanceDone s q).keep = s.keep := by
  first
  | (simp +decide [State.advanceDone]; done)
  | (unfold State.advanceDone; (repeat' split) <;> (try dsimp only) <;> simp +decide [State.advanceDone]; done)

@[simp] theorem State_dropCmd_keep (s : State) (q i : Nat) :
    (State.dropCmd s q i).keep = s.keep := by
  first
  | (simp +decide [State.dropCmd]; done)
  | (unfold State.dropCmd; (repeat' split) <;> (try dsimp only) <;> simp +decide [State.dropCmd]; done)

theorem commandComplete_keep (q : Nat) (s : State) :
    (commandComplete q s).keep = s.keep := by
  first
  | (unfold commandComplete; (repeat' split) <;> (try dsimp only) <;> simp +decide [commandComplete]; done)
  | (simp +decide [commandComplete]; done)

@[simp] theorem State_stopQueues_keep (s : State) :
    (State.stopQueues s).keep = s.keep := by
  first
  | (simp +decide [State.stopQueues]; done)
  | (unfold State.stopQueues; (repeat' split) <;> (try dsimp only) <;> simp +decide [State.stopQueues]; done)

@[simp] theorem State_winLost_keep (s : State) (x : WinReq) :
    (State.winLost s x).keep = s.keep := by
  first
  | (simp +decide [State.winLost]; done)
  | (unfold State.winLost; (repeat' split) <;> (try dsimp only) <;> simp +decide [State.winLost]; done)

theorem ucieDown_keep (s : State) :
    (ucieDown s).keep = s.keep := by
  first
  | (simp +decide [ucieDown]; done)
  | (unfold ucieDown; (repeat' split) <;> (try dsimp only) <;> simp +decide [ucieDown]; done)

@[simp] theorem State_repairQueue_keep (s : State) (q : Nat) :
    (State.repairQueue s q).keep = s.keep := by
  first
  | (simp only [State.repairQueue]; (repeat' split) <;> simp +decide [State.repairQueue]; done)
  | (unfold State.repairQueue; (repeat' split) <;> (try dsimp only) <;> simp +decide [State.repairQueue]; done)

theorem ucieUp_keep (modules rate : Nat) (s : State) :
    (ucieUp modules rate s).keep = s.keep := by
  first
  | (simp +decide [ucieUp]; done)
  | (unfold ucieUp; (repeat' split) <;> (try dsimp only) <;> simp +decide [ucieUp]; done)

theorem ucieDegrade_keep (modules rate : Nat) (s : State) :
    (ucieDegrade modules rate s).keep = s.keep := by
  first
  | (simp +decide [ucieDegrade]; done)
  | (unfold ucieDegrade; (repeat' split) <;> (try dsimp only) <;> simp +decide [ucieDegrade]; done)

theorem cmdHerd_keep (q : Nat) (desc : List Word) (slot : Nat) (e0 e1 : Word) (nodes : List Nat) (role : HerdRole) (s : State) :
    (cmdHerd q desc slot e0 e1 nodes role s).keep = s.keep := by
  first
  | (simp +decide [cmdHerd]; done)
  | (unfold cmdHerd; (repeat' split) <;> (try dsimp only) <;> simp +decide [cmdHerd]; done)

@[simp] theorem State_membTake_keep (s : State) (k : Packet) (m? : Option Memb) (f : Memb → State → State) (hf : ∀ a0 s, (f a0 s).keep = s.keep) :
    (State.membTake s k m? f).keep = s.keep := by
  first
  | (simp +decide [State.membTake, hf]; done)
  | (unfold State.membTake; (repeat' split) <;> (try dsimp only) <;> simp +decide [State.membTake, hf]; done)

@[simp] theorem State_membGuard_keep (s : State) (k : Packet) (f : Memb → State → State) (hf : ∀ a0 s, (f a0 s).keep = s.keep) :
    (State.membGuard s k f).keep = s.keep := by
  first
  | (simp only [State.membGuard]; (repeat' split) <;> simp +decide [State.membGuard, hf]; done)
  | (unfold State.membGuard; (repeat' split) <;> (try dsimp only) <;> simp +decide [State.membGuard, hf]; done)

theorem herdResult_keep (p : Part) (k : Packet) (s : State) :
    (herdResult p k s).keep = s.keep := by
  first
  | (unfold herdResult; (repeat' split) <;> (try dsimp only) <;> simp +decide [herdResult]; done)
  | (simp +decide [herdResult]; done)

theorem herdCounts_keep (p : Part) (k : Packet) (s : State) :
    (herdCounts p k s).keep = s.keep := by
  first
  | (unfold herdCounts; (repeat' split) <;> (try dsimp only) <;> simp +decide [herdCounts]; done)
  | (simp +decide [herdCounts]; done)

theorem herdRecord_keep (k : Packet) (s : State) :
    (herdRecord k s).keep = s.keep := by
  first
  | (simp +decide [herdRecord]; done)
  | (unfold herdRecord; (repeat' split) <;> (try dsimp only) <;> simp +decide [herdRecord]; done)

theorem herdSignalReceive_keep (k : Packet) (s : State) :
    (herdSignalReceive k s).keep = s.keep := by
  first
  | (simp +decide [herdSignalReceive]; done)
  | (unfold herdSignalReceive; (repeat' split) <;> (try dsimp only) <;> simp +decide [herdSignalReceive]; done)

theorem herdCplReceive_keep (p : Part) (k : Packet) (s : State) :
    (herdCplReceive p k s).keep = s.keep := by
  first
  | (unfold herdCplReceive; (repeat' split) <;> (try dsimp only) <;> simp +decide [herdCplReceive]; done)
  | (simp +decide [herdCplReceive]; done)

@[simp] theorem State_membAck_keep (s : State) (k : Packet) :
    (State.membAck s k).keep = s.keep := by
  first
  | (simp +decide [State.membAck]; done)
  | (unfold State.membAck; (repeat' split) <;> (try dsimp only) <;> simp +decide [State.membAck]; done)

@[simp] theorem State_membAbortIn_keep (s : State) (k : Packet) :
    (State.membAbortIn s k).keep = s.keep := by
  first
  | (simp only [State.membAbortIn]; (repeat' split) <;> simp +decide [State.membAbortIn]; done)
  | (unfold State.membAbortIn; (repeat' split) <;> (try dsimp only) <;> simp +decide [State.membAbortIn]; done)

theorem herdAbortReceive_keep (p : Part) (k : Packet) (s : State) :
    (herdAbortReceive p k s).keep = s.keep := by
  first
  | (unfold herdAbortReceive; (repeat' split) <;> (try dsimp only) <;> simp +decide [herdAbortReceive]; done)
  | (simp +decide [herdAbortReceive]; done)

theorem herdSwapReceive_keep (k : Packet) (s : State) :
    (herdSwapReceive k s).keep = s.keep := by
  first
  | (simp only [herdSwapReceive]; (repeat' split) <;> simp +decide [herdSwapReceive]; done)
  | (unfold herdSwapReceive; (repeat' split) <;> (try dsimp only) <;> simp +decide [herdSwapReceive]; done)

theorem syncAdd_keep (p : Part) (queue : Nat) (k : Packet) (s : State) :
    (syncAdd p queue k s).keep = s.keep := by
  first
  | (simp +decide [syncAdd]; done)
  | (unfold syncAdd; (repeat' split) <;> (try dsimp only) <;> simp +decide [syncAdd]; done)

theorem syncSet_keep (p : Part) (queue : Nat) (k : Packet) (s : State) :
    (syncSet p queue k s).keep = s.keep := by
  first
  | (simp +decide [syncSet]; done)
  | (unfold syncSet; (repeat' split) <;> (try dsimp only) <;> simp +decide [syncSet]; done)

theorem syncSetClear_keep (p : Part) (queue : Nat) (k : Packet) (s : State) :
    (syncSetClear p queue k s).keep = s.keep := by
  first
  | (simp +decide [syncSetClear]; done)
  | (unfold syncSetClear; (repeat' split) <;> (try dsimp only) <;> simp +decide [syncSetClear]; done)

theorem syncRead_keep (p : Part) (queue : Nat) (k : Packet) (s : State) :
    (syncRead p queue k s).keep = s.keep := by
  first
  | (simp +decide [syncRead]; done)
  | (unfold syncRead; (repeat' split) <;> (try dsimp only) <;> simp +decide [syncRead]; done)

theorem syncWait_keep (p : Part) (queue : Nat) (k : Packet) (s : State) :
    (syncWait p queue k s).keep = s.keep := by
  first
  | (simp +decide [syncWait]; done)
  | (unfold syncWait; (repeat' split) <;> (try dsimp only) <;> simp +decide [syncWait]; done)

theorem syncWaitTimeout_keep (p : Part) (src tag : Nat) (s : State) :
    (syncWaitTimeout p src tag s).keep = s.keep := by
  first
  | (simp only [syncWaitTimeout]; (repeat' split) <;> simp +decide [syncWaitTimeout]; done)
  | (unfold syncWaitTimeout; (repeat' split) <;> (try dsimp only) <;> simp +decide [syncWaitTimeout]; done)

end Sys2Proof.Machine
end

