-- ==== Sys2Proof/Laws/FixedLinks.lean ====
section
/-! SUPPORT. Every operation of links, tack-up, the switch core and power leaves the identification words and the queue as they were. -/

set_option Elab.async false
set_option linter.all false

namespace Sys2Proof.Machine

@[simp] theorem State_lanePut_keep (s : State) (p : Part) (lane : Nat) (f : Fld) (v : Nat) (h : f.reg.page ≠ 0) :
    (s.lanePut p lane f v).keep = s.keep := put_keep _ _ _ _ _ _ (Or.inl h)

@[simp] theorem State_lanesTo_keep (s : State) (p : Part) (n mask st : Nat) :
    (State.lanesTo s p n mask st).keep = s.keep := by
  unfold State.lanesTo; repeat' (first | (simp +decide [State.lanesTo]; done) | (intros; split) | (intros; first | refine Eq.trans (foldl_keep _ _ _ fun _ _ => ?_) ?_ | refine Eq.trans (foldl_fst_keep _ _ _ fun _ _ => ?_) ?_ | refine Eq.trans (when_keep _ _ _ ?_) ?_) | dsimp only | simp +decide [State.lanesTo])

@[simp] theorem State_routeNotices_keep (s : State) (op port : Nat) :
    (State.routeNotices s op port).keep = s.keep := by
  first
  | (simp +decide [State.routeNotices]; done)
  | (unfold State.routeNotices; (repeat' split) <;> (try dsimp only) <;> simp +decide [State.routeNotices]; done)

@[simp] theorem State_leaveActive_keep (s : State) (n : Nat) : (s.leaveActive n).keep = s.keep := by
  simp +decide only [State.leaveActive]
  refine Eq.trans (when_keep _ _ _ (by simp)) ?_
  simp +decide

@[simp] theorem State_meshBind_keep (s : State) :
    (State.meshBind s).keep = s.keep := by
  first
  | (simp +decide [State.meshBind]; done)
  | (unfold State.meshBind; (repeat' split) <;> (try dsimp only) <;> simp +decide [State.meshBind]; done)

@[simp] theorem State_leavePlane_keep (s : State) (link : Nat) :
    (State.leavePlane s link).keep = s.keep := by
  first
  | (simp +decide [State.leavePlane]; done)
  | (unfold State.leavePlane; (repeat' split) <;> (try dsimp only) <;> simp +decide [State.leavePlane]; done)

@[simp] theorem State_linkLost_keep (s : State) (p : Part) (n next : Nat) (fault : Option Nat) (esc : Bool) :
    (State.linkLost s p n next fault esc).keep = s.keep := by
  first
  | (simp only [State.linkLost]; (repeat' split) <;> simp +decide [State.linkLost]; done)
  | (unfold State.linkLost; (repeat' split) <;> (try dsimp only) <;> simp +decide [State.linkLost]; done)

@[simp] theorem State_startRetrain_keep (s : State) (p : Part) (n : Nat) (send : Bool) (esc : Bool) :
    (State.startRetrain s p n send esc).keep = s.keep := by
  first
  | (unfold State.startRetrain; (repeat' split) <;> (try dsimp only) <;> simp +decide [State.startRetrain]; done)
  | (simp +decide [State.startRetrain]; done)

@[simp] theorem State_replayFrom_keep (s : State) (p : Part) (n seq : Nat) :
    (State.replayFrom s p n seq).keep = s.keep := by
  first
  | (simp only [State.replayFrom]; (repeat' split) <;> simp +decide [State.replayFrom]; done)
  | (unfold State.replayFrom; (repeat' split) <;> (try dsimp only) <;> simp +decide [State.replayFrom]; done)

@[simp] theorem State_takeAck_keep (s : State) (p : Part) (n ack : Nat) :
    (State.takeAck s p n ack).keep = s.keep := by
  first
  | (simp +decide [State.takeAck]; done)
  | (unfold State.takeAck; (repeat' split) <;> (try dsimp only) <;> simp +decide [State.takeAck]; done)

@[simp] theorem State_takeCredit_keep (s : State) (p : Part) (n crTc crLane cells : Nat) :
    (State.takeCredit s p n crTc crLane cells).keep = s.keep := by
  first
  | (simp +decide [State.takeCredit]; done)
  | (unfold State.takeCredit; (repeat' split) <;> (try dsimp only) <;> simp +decide [State.takeCredit]; done)

@[simp] theorem State_packetIn_keep (s : State) (p : Part) (n : Nat) (k : Packet) :
    (State.packetIn s p n k).keep = s.keep := by
  first
  | (simp +decide [State.packetIn]; done)
  | (unfold State.packetIn; (repeat' split) <;> (try dsimp only) <;> simp +decide [State.packetIn]; done)

@[simp] theorem State_slotIn_keep (s : State) (p : Part) (n : Nat) (start : Bool) (bs : List Byte) :
    (State.slotIn s p n start bs).keep = s.keep := by
  first
  | (simp +decide [State.slotIn]; done)
  | (unfold State.slotIn; (repeat' split) <;> (try dsimp only) <;> simp +decide [State.slotIn]; done)

@[simp] theorem State_flitContents_keep (s : State) (p : Part) (n : Nat) (f : List Byte) :
    (State.flitContents s p n f).keep = s.keep := by
  first
  | (simp +decide [State.flitContents]; done)
  | (unfold State.flitContents; (repeat' split) <;> (try dsimp only) <;> simp +decide [State.flitContents]; done)

@[simp] theorem State_nakFor_keep (s : State) (p : Part) (n : Nat) :
    (State.nakFor s p n).keep = s.keep := by
  first
  | (simp +decide [State.nakFor]; done)
  | (unfold State.nakFor; (repeat' split) <;> (try dsimp only) <;> simp +decide [State.nakFor]; done)

@[simp] theorem State_nakIn_keep (s : State) (p : Part) (n ack : Nat) :
    (State.nakIn s p n ack).keep = s.keep := by
  first
  | (simp +decide [State.nakIn]; done)
  | (unfold State.nakIn; (repeat' split) <;> (try dsimp only) <;> simp +decide [State.nakIn]; done)

@[simp] theorem State_sealIn_keep (s : State) (p : Part) (n : Nat) (tag : List Byte) (first count : Nat) :
    (State.sealIn s p n tag first count).keep = s.keep := by
  first
  | (simp only [State.sealIn]; (repeat' split) <;> simp +decide [State.sealIn]; done)
  | (unfold State.sealIn; (repeat' split) <;> (try dsimp only) <;> simp +decide [State.sealIn]; done)

@[simp] theorem State_shedLanes_keep (s : State) (p : Part) (n mask : Nat) (esc : Bool) :
    (State.shedLanes s p n mask esc).keep = s.keep := by
  first
  | (simp +decide [State.shedLanes]; done)
  | (unfold State.shedLanes; (repeat' split) <;> (try dsimp only) <;> simp +decide [State.shedLanes]; done)

@[simp] theorem State_shedWindow_keep (s : State) (p : Part) (n : Nat) :
    (State.shedWindow s p n).keep = s.keep := by
  first
  | (simp only [State.shedWindow]; (repeat' split) <;> simp +decide [State.shedWindow]; done)
  | (unfold State.shedWindow; (repeat' split) <;> (try dsimp only) <;> simp +decide [State.shedWindow]; done)

@[simp] theorem State_countSymbols_keep (s : State) (p : Part) (n : Nat) (places : List Nat) :
    (State.countSymbols s p n places).keep = s.keep := by
  first
  | (simp +decide [State.countSymbols]; done)
  | (unfold State.countSymbols; (repeat' split) <;> (try dsimp only) <;> simp +decide [State.countSymbols]; done)

@[simp] theorem State_flitGood_keep (s : State) (p : Part) (n : Nat) (f : List Byte) :
    (State.flitGood s p n f).keep = s.keep := by
  first
  | (simp +decide [State.flitGood]; done)
  | (unfold State.flitGood; (repeat' split) <;> (try dsimp only) <;> simp +decide [State.flitGood]; done)

@[simp] theorem State_flitIn_keep (s : State) (p : Part) (n : Nat) (w : List Byte) :
    (State.flitIn s p n w).keep = s.keep := by
  first
  | (unfold State.flitIn; (repeat' split) <;> (try dsimp only) <;> simp +decide [State.flitIn]; done)
  | (simp +decide [State.flitIn]; done)

@[simp] theorem State_sendKex_keep (s : State) (p : Part) (n : Nat) (resp : Bool) (m : KexMsg) :
    (State.sendKex s p n resp m).keep = s.keep := by
  first
  | (simp +decide [State.sendKex]; done)
  | (unfold State.sendKex; (repeat' split) <;> (try dsimp only) <;> simp +decide [State.sendKex]; done)

@[simp] theorem State_startKex_keep (s : State) (p : Part) (n : Nat) :
    (State.startKex s p n).keep = s.keep := by
  first
  | (simp +decide [State.startKex]; done)
  | (unfold State.startKex; (repeat' split) <;> (try dsimp only) <;> simp +decide [State.startKex]; done)

@[simp] theorem State_installKeys_keep (s : State) (p : Part) (n : Nat) (ss h : List Byte) :
    (State.installKeys s p n ss h).keep = s.keep := by
  first
  | (simp +decide [State.installKeys]; done)
  | (unfold State.installKeys; (repeat' split) <;> (try dsimp only) <;> simp +decide [State.installKeys]; done)

@[simp] theorem State_recordPeer_keep (s : State) (p : Part) (n : Nat) (pub : List Byte) :
    (State.recordPeer s p n pub).keep = s.keep := by
  first
  | (simp +decide [State.recordPeer]; done)
  | (unfold State.recordPeer; (repeat' split) <;> (try dsimp only) <;> simp +decide [State.recordPeer]; done)

@[simp] theorem State_kexFailed_keep (s : State) (p : Part) (n step : Nat) :
    (State.kexFailed s p n step).keep = s.keep := by
  first
  | (simp +decide [State.kexFailed]; done)
  | (unfold State.kexFailed; (repeat' split) <;> (try dsimp only) <;> simp +decide [State.kexFailed]; done)

@[simp] theorem State_startRekey_keep (s : State) (p : Part) (n : Nat) :
    (State.startRekey s p n).keep = s.keep := by
  first
  | (simp +decide [State.startRekey]; done)
  | (unfold State.startRekey; (repeat' split) <;> (try dsimp only) <;> simp +decide [State.startRekey]; done)

@[simp] theorem State_startTack_keep (s : State) (p : Part) (n : Nat) :
    (State.startTack s p n).keep = s.keep := by
  first
  | (simp +decide [State.startTack]; done)
  | (unfold State.startTack; (repeat' split) <;> (try dsimp only) <;> simp +decide [State.startTack]; done)

@[simp] theorem State_attemptFailed_keep (s : State) (p : Part) (n code : Nat) :
    (State.attemptFailed s p n code).keep = s.keep := by
  first
  | (simp only [State.attemptFailed]; (repeat' split) <;> simp +decide [State.attemptFailed]; done)
  | (unfold State.attemptFailed; (repeat' split) <;> (try dsimp only) <;> simp +decide [State.attemptFailed]; done)

@[simp] theorem State_readyCheck_keep (s : State) (p : Part) :
    (State.readyCheck s p).keep = s.keep := by
  first
  | (unfold State.readyCheck; (repeat' split) <;> (try dsimp only) <;> simp +decide [State.readyCheck]; done)
  | (simp +decide [State.readyCheck]; done)

@[simp] theorem State_refuseLink_keep (s : State) (p : Part) (n code : Nat) (tell : Bool) (e : Err) (d0 d1 : Nat) :
    (State.refuseLink s p n code tell e d0 d1).keep = s.keep := by
  first
  | (simp +decide [State.refuseLink]; done)
  | (unfold State.refuseLink; (repeat' split) <;> (try dsimp only) <;> simp +decide [State.refuseLink]; done)

@[simp] theorem State_tackComplete_keep (s : State) (p : Part) (n : Nat) :
    (State.tackComplete s p n).keep = s.keep := by
  first
  | (unfold State.tackComplete; (repeat' split) <;> (try dsimp only) <;> simp +decide [State.tackComplete]; done)
  | (simp +decide [State.tackComplete]; done)

@[simp] theorem State_useLanes_keep (s : State) (p : Part) (n mask : Nat) :
    (State.useLanes s p n mask).keep = s.keep := by
  first
  | (simp +decide [State.useLanes]; done)
  | (unfold State.useLanes; (repeat' split) <;> (try dsimp only) <;> simp +decide [State.useLanes]; done)

@[simp] theorem State_chooseLanes_keep (s : State) (p : Part) (n : Nat) :
    (State.chooseLanes s p n).keep = s.keep := by
  first
  | (simp only [State.chooseLanes]; (repeat' split) <;> simp +decide [State.chooseLanes]; done)
  | (unfold State.chooseLanes; (repeat' split) <;> (try dsimp only) <;> simp +decide [State.chooseLanes]; done)

@[simp] theorem State_takePreamble_keep (s : State) (p : Part) (n rates : Nat) :
    (State.takePreamble s p n rates).keep = s.keep := by
  first
  | (simp only [State.takePreamble]; (repeat' split) <;> simp +decide [State.takePreamble]; done)
  | (unfold State.takePreamble; (repeat' split) <;> (try dsimp only) <;> simp +decide [State.takePreamble]; done)

@[simp] theorem State_putPartner_keep (s : State) (p : Part) (n : Nat) (m : CapMsg) :
    (State.putPartner s p n m).keep = s.keep := by
  first
  | (simp +decide [State.putPartner]; done)
  | (unfold State.putPartner; (repeat' split) <;> (try dsimp only) <;> simp +decide [State.putPartner]; done)

@[simp] theorem State_tryReady_keep (s : State) (p : Part) (n : Nat) :
    (State.tryReady s p n).keep = s.keep := by
  first
  | (simp +decide [State.tryReady]; done)
  | (unfold State.tryReady; (repeat' split) <;> (try dsimp only) <;> simp +decide [State.tryReady]; done)

@[simp] theorem State_capIn_keep (s : State) (p : Part) (n : Nat) (m : CapMsg) :
    (State.capIn s p n m).keep = s.keep := by
  first
  | (simp only [State.capIn]; (repeat' split) <;> simp +decide [State.capIn]; done)
  | (unfold State.capIn; (repeat' split) <;> (try dsimp only) <;> simp +decide [State.capIn]; done)

@[simp] theorem State_flitLocked_keep (s : State) (p : Part) (n : Nat) :
    (State.flitLocked s p n).keep = s.keep := by
  first
  | (simp +decide [State.flitLocked]; done)
  | (unfold State.flitLocked; (repeat' split) <;> (try dsimp only) <;> simp +decide [State.flitLocked]; done)

@[simp] theorem State_shedDone_keep (s : State) (p : Part) (n : Nat) :
    (State.shedDone s p n).keep = s.keep := by
  first
  | (unfold State.shedDone; (repeat' split) <;> (try dsimp only) <;> simp +decide [State.shedDone]; done)
  | (simp +decide [State.shedDone]; done)

@[simp] theorem State_shedGo_keep (s : State) (p : Part) (n : Nat) :
    (State.shedGo s p n).keep = s.keep := by
  first
  | (unfold State.shedGo; (repeat' split) <;> (try dsimp only) <;> simp +decide [State.shedGo]; done)
  | (simp +decide [State.shedGo]; done)

theorem tackupDetectProbe_keep (p : Part) (n mask : Nat) (rates : Option Nat) (s : State) :
    (tackupDetectProbe p n mask rates s).keep = s.keep := by
  first
  | (unfold tackupDetectProbe; (repeat' split) <;> (try dsimp only) <;> simp +decide [tackupDetectProbe]; done)
  | (simp +decide [tackupDetectProbe]; done)

theorem tackupPreambleTmo_keep (p : Part) (n : Nat) (s : State) :
    (tackupPreambleTmo p n s).keep = s.keep := by
  first
  | (simp +decide [tackupPreambleTmo]; done)
  | (unfold tackupPreambleTmo; (repeat' split) <;> (try dsimp only) <;> simp +decide [tackupPreambleTmo]; done)

@[simp] theorem State_adaptLane_keep (s : State) (p : Part) (l : Nat) :
    (State.adaptLane s p l).keep = s.keep := by
  first
  | (simp +decide [State.adaptLane]; done)
  | (unfold State.adaptLane; (repeat' split) <;> (try dsimp only) <;> simp +decide [State.adaptLane]; done)

theorem laneEqPass_keep (p : Part) (n lane snr : Nat) (inverted : Bool) (there farMin : Nat) (s : State) :
    (laneEqPass p n lane snr inverted there farMin s).keep = s.keep := by
  first
  | (simp +decide [laneEqPass]; done)
  | (unfold laneEqPass; (repeat' split) <;> (try dsimp only) <;> simp +decide [laneEqPass]; done)

theorem eqTimerExpiry_keep (p : Part) (n : Nat) (s : State) :
    (eqTimerExpiry p n s).keep = s.keep := by
  first
  | (simp +decide [eqTimerExpiry]; done)
  | (unfold eqTimerExpiry; (repeat' split) <;> (try dsimp only) <;> simp +decide [eqTimerExpiry]; done)

theorem flitLock_keep (p : Part) (n : Nat) (s : State) :
    (flitLock p n s).keep = s.keep := by
  first
  | (simp +decide [flitLock]; done)
  | (unfold flitLock; (repeat' split) <;> (try dsimp only) <;> simp +decide [flitLock]; done)

theorem lockTmo_keep (p : Part) (n : Nat) (s : State) :
    (lockTmo p n s).keep = s.keep := by
  first
  | (simp +decide [lockTmo]; done)
  | (unfold lockTmo; (repeat' split) <;> (try dsimp only) <;> simp +decide [lockTmo]; done)

theorem capReceive_keep (p : Part) (n : Nat) (m : CapMsg) (s : State) :
    (capReceive p n m s).keep = s.keep := by
  first
  | (simp +decide [capReceive]; done)
  | (unfold capReceive; (repeat' split) <;> (try dsimp only) <;> simp +decide [capReceive]; done)

theorem refuseReceive_keep (p : Part) (n code : Nat) (s : State) :
    (refuseReceive p n code s).keep = s.keep := by
  first
  | (simp +decide [refuseReceive]; done)
  | (unfold refuseReceive; (repeat' split) <;> (try dsimp only) <;> simp +decide [refuseReceive]; done)

theorem pingReceive_keep (p : Part) (n stamp : Nat) (s : State) :
    (pingReceive p n stamp s).keep = s.keep := by
  first
  | (simp +decide [pingReceive]; done)
  | (unfold pingReceive; (repeat' split) <;> (try dsimp only) <;> simp +decide [pingReceive]; done)

theorem pongReceive_keep (p : Part) (n stamp : Nat) (s : State) :
    (pongReceive p n stamp s).keep = s.keep := by
  first
  | (simp +decide [pongReceive]; done)
  | (unfold pongReceive; (repeat' split) <;> (try dsimp only) <;> simp +decide [pongReceive]; done)

theorem readyReceive_keep (p : Part) (n : Nat) (s : State) :
    (readyReceive p n s).keep = s.keep := by
  first
  | (simp +decide [readyReceive]; done)
  | (unfold readyReceive; (repeat' split) <;> (try dsimp only) <;> simp +decide [readyReceive]; done)

theorem capxTmo_keep (p : Part) (n : Nat) (s : State) :
    (capxTmo p n s).keep = s.keep := by
  first
  | (simp +decide [capxTmo]; done)
  | (unfold capxTmo; (repeat' split) <;> (try dsimp only) <;> simp +decide [capxTmo]; done)

theorem tackRetryTimer_keep (p : Part) (n : Nat) (s : State) :
    (tackRetryTimer p n s).keep = s.keep := by
  first
  | (simp +decide [tackRetryTimer]; done)
  | (unfold tackRetryTimer; (repeat' split) <;> (try dsimp only) <;> simp +decide [tackRetryTimer]; done)

theorem partnerRedetect_keep (p : Part) (n absent : Nat) (s : State) :
    (partnerRedetect p n absent s).keep = s.keep := by
  first
  | (simp +decide [partnerRedetect]; done)
  | (unfold partnerRedetect; (repeat' split) <;> (try dsimp only) <;> simp +decide [partnerRedetect]; done)

@[simp] theorem State_setNodeId_keep (s : State) (v : Nat) :
    (State.setNodeId s v).1.keep = s.keep := by
  first
  | (simp +decide [State.setNodeId]; done)
  | (unfold State.setNodeId; (repeat' split) <;> (try dsimp only) <;> simp +decide [State.setNodeId]; done)

theorem epcNodeIdWrite_keep (path : Path) (v : Nat) (s : State) :
    (epcNodeIdWrite path v s).keep = s.keep := by
  first
  | (simp +decide [epcNodeIdWrite]; done)
  | (unfold epcNodeIdWrite; (repeat' split) <;> (try dsimp only) <;> simp +decide [epcNodeIdWrite]; done)

@[simp] theorem State_portRestart_keep (s : State) (p : Part) (n : Nat) :
    (State.portRestart s p n).keep = s.keep := by
  first
  | (simp +decide [State.portRestart]; done)
  | (unfold State.portRestart; (repeat' split) <;> (try dsimp only) <;> simp +decide [State.portRestart]; done)

theorem fptRestart_keep (path : Path) (p : Part) (n : Nat) (s : State) :
    (fptRestart path p n s).keep = s.keep := by
  first
  | (simp +decide [fptRestart]; done)
  | (unfold fptRestart; (repeat' split) <;> (try dsimp only) <;> simp +decide [fptRestart]; done)

theorem fptRetrain_keep (path : Path) (p : Part) (n : Nat) (s : State) :
    (fptRetrain path p n s).keep = s.keep := by
  first
  | (simp +decide [fptRetrain]; done)
  | (unfold fptRetrain; (repeat' split) <;> (try dsimp only) <;> simp +decide [fptRetrain]; done)

@[simp] theorem State_portDisable_keep (s : State) (p : Part) (n v : Nat) :
    (State.portDisable s p n v).keep = s.keep := by
  first
  | (simp only [State.portDisable]; (repeat' split) <;> simp +decide [State.portDisable]; done)
  | (unfold State.portDisable; (repeat' split) <;> (try dsimp only) <;> simp +decide [State.portDisable]; done)

theorem fptDisable_keep (path : Path) (p : Part) (n v : Nat) (s : State) :
    (fptDisable path p n v s).keep = s.keep := by
  first
  | (simp +decide [fptDisable]; done)
  | (unfold fptDisable; (repeat' split) <;> (try dsimp only) <;> simp +decide [fptDisable]; done)

theorem retrainSetReceive_keep (p : Part) (n : Nat) (s : State) :
    (retrainSetReceive p n s).keep = s.keep := by
  first
  | (simp +decide [retrainSetReceive]; done)
  | (unfold retrainSetReceive; (repeat' split) <;> (try dsimp only) <;> simp +decide [retrainSetReceive]; done)

theorem retrainComplete_keep (p : Part) (n relocked : Nat) (s : State) :
    (retrainComplete p n relocked s).keep = s.keep := by
  first
  | (simp only [retrainComplete]; (repeat' split) <;> simp +decide [retrainComplete]; done)
  | (unfold retrainComplete; (repeat' split) <;> (try dsimp only) <;> simp +decide [retrainComplete]; done)

theorem retrainTimeout_keep (p : Part) (n : Nat) (s : State) :
    (retrainTimeout p n s).keep = s.keep := by
  first
  | (unfold retrainTimeout; (repeat' split) <;> (try dsimp only) <;> simp +decide [retrainTimeout]; done)
  | (simp +decide [retrainTimeout]; done)

theorem retrainBitlockTmo_keep (p : Part) (n : Nat) (s : State) :
    (retrainBitlockTmo p n s).keep = s.keep := by
  first
  | (unfold retrainBitlockTmo; (repeat' split) <;> (try dsimp only) <;> simp +decide [retrainBitlockTmo]; done)
  | (simp +decide [retrainBitlockTmo]; done)

theorem shedWindowExpiry_keep (p : Part) (n : Nat) (s : State) :
    (shedWindowExpiry p n s).keep = s.keep := by
  first
  | (simp only [shedWindowExpiry]; (repeat' split) <;> simp +decide [shedWindowExpiry]; done)
  | (unfold shedWindowExpiry; (repeat' split) <;> (try dsimp only) <;> simp +decide [shedWindowExpiry]; done)

@[simp] theorem State_lockLost_keep (s : State) (p : Part) (n lane : Nat) :
    (State.lockLost s p n lane).keep = s.keep := by
  first
  | (simp +decide [State.lockLost]; done)
  | (unfold State.lockLost; (repeat' split) <;> (try dsimp only) <;> simp +decide [State.lockLost]; done)

theorem laneLockLoss_keep (p : Part) (n lane : Nat) (s : State) :
    (laneLockLoss p n lane s).keep = s.keep := by
  first
  | (simp only [laneLockLoss]; (repeat' split) <;> simp +decide [laneLockLoss]; done)
  | (unfold laneLockLoss; (repeat' split) <;> (try dsimp only) <;> simp +decide [laneLockLoss]; done)

theorem shedReceive_keep (p : Part) (n mask last : Nat) (s : State) :
    (shedReceive p n mask last s).keep = s.keep := by
  first
  | (simp +decide [shedReceive]; done)
  | (unfold shedReceive; (repeat' split) <;> (try dsimp only) <;> simp +decide [shedReceive]; done)

theorem shedAckReceive_keep (p : Part) (n mask last : Nat) (s : State) :
    (shedAckReceive p n mask last s).keep = s.keep := by
  first
  | (unfold shedAckReceive; (repeat' split) <;> (try dsimp only) <;> simp +decide [shedAckReceive]; done)
  | (simp +decide [shedAckReceive]; done)

theorem shedGoReceive_keep (p : Part) (n : Nat) (s : State) :
    (shedGoReceive p n s).keep = s.keep := by
  first
  | (unfold shedGoReceive; (repeat' split) <;> (try dsimp only) <;> simp +decide [shedGoReceive]; done)
  | (simp +decide [shedGoReceive]; done)

theorem fifoSlip_keep (p : Part) (n : Nat) (s : State) :
    (fifoSlip p n s).keep = s.keep := by
  first
  | (simp +decide [fifoSlip]; done)
  | (unfold fifoSlip; (repeat' split) <;> (try dsimp only) <;> simp +decide [fifoSlip]; done)

theorem signalLoss_keep (p : Part) (n : Nat) (s : State) :
    (signalLoss p n s).keep = s.keep := by
  first
  | (simp +decide [signalLoss]; done)
  | (unfold signalLoss; (repeat' split) <;> (try dsimp only) <;> simp +decide [signalLoss]; done)

theorem patternCheckerLock_keep (p : Part) (n lane : Nat) (s : State) :
    (patternCheckerLock p n lane s).keep = s.keep := by
  first
  | (simp +decide [patternCheckerLock]; done)
  | (unfold patternCheckerLock; (repeat' split) <;> (try dsimp only) <;> simp +decide [patternCheckerLock]; done)

theorem nakReceive_keep (p : Part) (n ack : Nat) (s : State) :
    (nakReceive p n ack s).keep = s.keep := by
  first
  | (simp +decide [nakReceive]; done)
  | (unfold nakReceive; (repeat' split) <;> (try dsimp only) <;> simp +decide [nakReceive]; done)

theorem replayTimerExpiry_keep (p : Part) (n : Nat) (s : State) :
    (replayTimerExpiry p n s).keep = s.keep := by
  first
  | (simp only [replayTimerExpiry]; (repeat' split) <;> simp +decide [replayTimerExpiry]; done)
  | (unfold replayTimerExpiry; (repeat' split) <;> (try dsimp only) <;> simp +decide [replayTimerExpiry]; done)

theorem groupClose_keep (p : Part) (n : Nat) (s : State) :
    (groupClose p n s).keep = s.keep := by
  first
  | (simp +decide [groupClose]; done)
  | (unfold groupClose; (repeat' split) <;> (try dsimp only) <;> simp +decide [groupClose]; done)

theorem sealReceive_keep (p : Part) (n header : Nat) (tag : List Byte) (group : SealGroup) (s : State) :
    (sealReceive p n header tag group s).keep = s.keep := by
  first
  | (simp +decide [sealReceive]; done)
  | (unfold sealReceive; (repeat' split) <;> (try dsimp only) <;> simp +decide [sealReceive]; done)

theorem kexInitReceive_keep (p : Part) (n : Nat) (m : KexMsg) (s : State) :
    (kexInitReceive p n m s).keep = s.keep := by
  first
  | (simp +decide [kexInitReceive]; done)
  | (unfold kexInitReceive; (repeat' split) <;> (try dsimp only) <;> simp +decide [kexInitReceive]; done)

theorem kexRespReceive_keep (p : Part) (n : Nat) (m : KexMsg) (s : State) :
    (kexRespReceive p n m s).keep = s.keep := by
  first
  | (simp +decide [kexRespReceive]; done)
  | (unfold kexRespReceive; (repeat' split) <;> (try dsimp only) <;> simp +decide [kexRespReceive]; done)

theorem kexTimeout_keep (p : Part) (n : Nat) (s : State) :
    (kexTimeout p n s).keep = s.keep := by
  first
  | (simp +decide [kexTimeout]; done)
  | (unfold kexTimeout; (repeat' split) <;> (try dsimp only) <;> simp +decide [kexTimeout]; done)

@[simp] theorem State_rekeyRequest_keep (s : State) (p : Part) (n : Nat) :
    (State.rekeyRequest s p n).keep = s.keep := by
  first
  | (unfold State.rekeyRequest; (repeat' split) <;> (try dsimp only) <;> simp +decide [State.rekeyRequest]; done)
  | (simp +decide [State.rekeyRequest]; done)

@[simp] theorem rekeyRequestWrite_keep (path : Path) (p : Part) (n : Nat) (s : State) :
    (rekeyRequestWrite path p n s).keep = s.keep := by
  first
  | (simp +decide [rekeyRequestWrite]; done)
  | (unfold rekeyRequestWrite; (repeat' split) <;> (try dsimp only) <;> simp +decide [rekeyRequestWrite]; done)

theorem rekeySoftPoint_keep (p : Part) (n : Nat) (s : State) :
    (rekeySoftPoint p n s).keep = s.keep := by
  first
  | (simp only [rekeySoftPoint]; (repeat' split) <;> simp +decide [rekeySoftPoint]; done)
  | (unfold rekeySoftPoint; (repeat' split) <;> (try dsimp only) <;> simp +decide [rekeySoftPoint]; done)

theorem keyExhausted_keep (p : Part) (n : Nat) (s : State) :
    (keyExhausted p n s).keep = s.keep := by
  first
  | (simp +decide [keyExhausted]; done)
  | (unfold keyExhausted; (repeat' split) <;> (try dsimp only) <;> simp +decide [keyExhausted]; done)

theorem dropBank_ident (m : RegFile) : (dropBank m).read GLB_ID 0 0 = m.read GLB_ID 0 0 := by
  unfold dropBank
  extract_lets at_ gone
  have h : gone.contains (64 % 2 ^ 24) = false := by decide
  exact keepIf_ident _ _ fun _ => by rw [h]; rfl

@[simp] theorem dropBank_kept (s : State) : (s.onChip .sw fun c => { c with regs := dropBank c.regs }).keep = s.keep :=
  onChip_keep _ _ _ fun _ => dropBank_ident _

@[simp] theorem State_setCgtEnable_keep (s : State) (v : Nat) : (s.setCgtEnable v).keep = s.keep := by
  unfold State.setCgtEnable; dsimp only; split <;> simp [CGT_CTL_ENABLE, CGT_CTL, CGT_WIN_NUM]

theorem cgtEnableWrite_keep (path : Path) (v : Nat) (s : State) :
    (cgtEnableWrite path v s).keep = s.keep := by
  first
  | (simp +decide [cgtEnableWrite]; done)
  | (unfold cgtEnableWrite; (repeat' split) <;> (try dsimp only) <;> simp +decide [cgtEnableWrite]; done)

@[simp] theorem telemetryWindowClose_keep (s : State) : (telemetryWindowClose s).keep = s.keep := by
  unfold telemetryWindowClose
  extract_lets c len ports s1 s2 word s3 num s4 s5 old s6 dst pl
  have h1 : s1.keep = s.keep := dropBank_kept s
  have h2 : s2.keep = s1.keep := by
    refine foldl_keep _ _ _ fun s e => ?_
    dsimp only
    (repeat' split) <;> simp [CGT_HIST_TICKS, CGT_HIST, CGT_CELLS_SENT, CGT_CELLS_STALLED, CGT_CELLS]
  have h3 : s3.keep = s2.keep := foldl_keep _ _ _ fun s tc => foldl_keep _ _ _ fun s k => by simp [CGT_MAP]
  have h4 : s4.keep = s3.keep := by simp [s4, CGT_WIN_NUM_NUM, CGT_WIN_NUM_OPEN_TICK, CGT_WIN_NUM]
  have h5 : s5.keep = s4.keep := by simp [s5]
  have h6 : s6.keep = s5.keep := by simp [s6, CGT_PUSH_STS_SKIPPED, CGT_PUSH_STS]
  clear_value pl s6 s5 s4 s3 s2
  split
  · rfl
  · rw [← h1, ← h2, ← h3, ← h4, ← h5]
    split
    · rw [State_swSend_keep, h6]
    · rfl

@[simp] theorem State_teleRollN_keep (fuel : Nat) (s : State) : (State.teleRollN fuel s).keep = s.keep := by
  induction fuel generalizing s with
  | zero => rfl
  | succ f ih => unfold State.teleRollN; split <;> simp [ih]

@[simp] theorem State_teleRoll_keep (s : State) :
    (State.teleRoll s).keep = s.keep := by
  first
  | (simp +decide [State.teleRoll]; done)
  | (unfold State.teleRoll; (repeat' split) <;> (try dsimp only) <;> simp +decide [State.teleRoll]; done)

@[simp] theorem State_noteMarked_keep (s : State) (e : Egress) (tc : Nat) :
    (State.noteMarked s e tc).keep = s.keep := by
  first
  | (simp +decide [State.noteMarked]; done)
  | (unfold State.noteMarked; (repeat' split) <;> (try dsimp only) <;> simp +decide [State.noteMarked]; done)

@[simp] theorem State_liveAdd_keep (s : State) (n tc ix k : Nat) :
    (State.liveAdd s n tc ix k).keep = s.keep := by
  first
  | (simp +decide [State.liveAdd]; done)
  | (unfold State.liveAdd; (repeat' split) <;> (try dsimp only) <;> simp +decide [State.liveAdd]; done)

@[simp] theorem State_discardAt_keep (s : State) (n : Nat) (k : Packet) (f : Fld) (h : f.reg.page ≠ 0) : (s.discardAt n k f).keep = s.keep := by
  simp [State.discardAt, h]

@[simp] theorem State_judgeAndQueue_keep (s : State) (n : Nat) (e : Egress) (k : Packet) :
    (State.judgeAndQueue s n e k).keep = s.keep := by
  first
  | (unfold State.judgeAndQueue; (repeat' split) <;> (try dsimp only) <;> simp +decide [State.judgeAndQueue]; done)
  | (simp +decide [State.judgeAndQueue]; done)

@[simp] theorem State_reportDiscard_keep (s : State) (k : Packet) :
    (State.reportDiscard s k).keep = s.keep := by
  first
  | (unfold State.reportDiscard; (repeat' split) <;> (try dsimp only) <;> simp +decide [State.reportDiscard]; done)
  | (simp +decide [State.reportDiscard]; done)

@[simp] theorem switchPacketArrival_keep (n : Nat) (k : Packet) (s : State) : (switchPacketArrival n k s).keep = s.keep := by
  have hl : ∀ s, (switchPacketArrival.lost n k s).keep = s.keep := by
    intro s; simp [switchPacketArrival.lost, RTE_DISC_NO_ROUTE, RTE_DISC]
  have hs : (s.sinkFor k).2.keep = s.keep := by unfold State.sinkFor; (repeat' split) <;> (try dsimp only) <;> (try split) <;> simp
  unfold switchPacketArrival; dsimp only
  (repeat' split) <;> simp [hl, hs, RTE_DISC_QUARANTINE, RTE_DISC_UTURN, RTE_DISC]

@[simp] theorem State_reserve_keep (s : State) (q : QEntry) :
    (State.reserve s q).keep = s.keep := by
  first
  | (unfold State.reserve; (repeat' split) <;> (try dsimp only) <;> simp +decide [State.reserve]; done)
  | (simp +decide [State.reserve]; done)

theorem creditReserve_keep (id : Nat) (s : State) :
    (creditReserve id s).keep = s.keep := by
  first
  | (unfold creditReserve; (repeat' split) <;> (try dsimp only) <;> simp +decide [creditReserve]; done)
  | (simp +decide [creditReserve]; done)

@[simp] theorem State_startOnLink_keep (s : State) (n : Nat) (q : QEntry) (d : Sched) :
    (State.startOnLink s n q d).keep = s.keep := by
  first
  | (simp +decide [State.startOnLink]; done)
  | (unfold State.startOnLink; (repeat' split) <;> (try dsimp only) <;> simp +decide [State.startOnLink]; done)

@[simp] theorem State_depart_keep (s : State) (q : QEntry) :
    (State.depart s q).keep = s.keep := by
  first
  | (unfold State.depart; (repeat' split) <;> (try dsimp only) <;> simp +decide [State.depart]; done)
  | (simp +decide [State.depart]; done)

theorem egressPacketStart_keep (id : Nat) (s : State) :
    (egressPacketStart id s).keep = s.keep := by
  first
  | (unfold egressPacketStart; (repeat' split) <;> (try dsimp only) <;> simp +decide [egressPacketStart]; done)
  | (simp +decide [egressPacketStart]; done)

theorem mcastCopySend_keep (id : Nat) (s : State) :
    (mcastCopySend id s).keep = s.keep := by
  first
  | (unfold mcastCopySend; (repeat' split) <;> (try dsimp only) <;> simp +decide [mcastCopySend]; done)
  | (simp +decide [mcastCopySend]; done)

theorem lossyResidueExpiry_keep (group : Nat) (s : State) :
    (lossyResidueExpiry group s).keep = s.keep := by
  first
  | (simp only [lossyResidueExpiry]; (repeat' split) <;> simp +decide [lossyResidueExpiry]; done)
  | (unfold lossyResidueExpiry; (repeat' split) <;> (try dsimp only) <;> simp +decide [lossyResidueExpiry]; done)

@[simp] theorem State_fenceMid_keep (s : State) (b : Nat) :
    (State.fenceMid s b).keep = s.keep := by
  first
  | (unfold State.fenceMid; (repeat' split) <;> (try dsimp only) <;> simp +decide [State.fenceMid]; done)
  | (simp +decide [State.fenceMid]; done)

@[simp] theorem State_setMidFence_keep (s : State) (hi : Bool) (v : Word) :
    (State.setMidFence s hi v).keep = s.keep := by
  first
  | (simp +decide [State.setMidFence]; done)
  | (unfold State.setMidFence; (repeat' split) <;> (try dsimp only) <;> simp +decide [State.setMidFence]; done)

theorem midFenceSet_keep (path : Path) (hi : Bool) (v : Word) (s : State) :
    (midFenceSet path hi v s).keep = s.keep := by
  first
  | (simp +decide [midFenceSet]; done)
  | (unfold midFenceSet; (repeat' split) <;> (try dsimp only) <;> simp +decide [midFenceSet]; done)

@[simp] theorem State_backlogTick_keep (s : State) (n tc : Nat) :
    (State.backlogTick s n tc).keep = s.keep := by
  first
  | (simp +decide [State.backlogTick]; done)
  | (unfold State.backlogTick; (repeat' split) <;> (try dsimp only) <;> simp +decide [State.backlogTick]; done)

theorem backlogAverageUpdate_keep (s : State) :
    (backlogAverageUpdate s).keep = s.keep := by
  first
  | (simp +decide [backlogAverageUpdate]; done)
  | (unfold backlogAverageUpdate; (repeat' split) <;> (try dsimp only) <;> simp +decide [backlogAverageUpdate]; done)

theorem congestionNoticeInterval_keep (p : Part) (src tc : Nat) (s : State) :
    (congestionNoticeInterval p src tc s).keep = s.keep := by
  first
  | (simp only [congestionNoticeInterval]; (repeat' split) <;> simp +decide [congestionNoticeInterval]; done)
  | (unfold congestionNoticeInterval; (repeat' split) <;> (try dsimp only) <;> simp +decide [congestionNoticeInterval]; done)

@[simp] theorem State_startFlip_keep (s : State) (axis buckets old : Nat) (coord : Option Nat) :
    (State.startFlip s axis buckets old coord).keep = s.keep := by
  first
  | (simp +decide [State.startFlip]; done)
  | (unfold State.startFlip; (repeat' split) <;> (try dsimp only) <;> simp +decide [State.startFlip]; done)

@[simp] theorem State_releaseHeld_keep (s : State) :
    (State.releaseHeld s).keep = s.keep := by
  first
  | (unfold State.releaseHeld; (repeat' split) <;> (try dsimp only) <;> simp +decide [State.releaseHeld]; done)
  | (simp +decide [State.releaseHeld]; done)

@[simp] theorem State_setPlaneMap_keep (s : State) (x : Nat) (v : Word) : (s.setPlaneMap x v).keep = s.keep := by
  have hp : (pmapReg x).page ≠ 0 := by simp only [pmapReg]; (repeat' split) <;> simp [RLY_PMAP_X, RLY_PMAP_Y, RLY_PMAP_Z]
  simp [State.setPlaneMap, hp]

theorem pmapWrite_keep (path : Path) (axis : Nat) (v : Word) (s : State) :
    (pmapWrite path axis v s).keep = s.keep := by
  first
  | (simp +decide [pmapWrite]; done)
  | (unfold pmapWrite; (repeat' split) <;> (try dsimp only) <;> simp +decide [pmapWrite]; done)

theorem drainProbeReceive_keep (n : Nat) (k : Packet) (s : State) :
    (drainProbeReceive n k s).keep = s.keep := by
  first
  | (simp +decide [drainProbeReceive]; done)
  | (unfold drainProbeReceive; (repeat' split) <;> (try dsimp only) <;> simp +decide [drainProbeReceive]; done)

theorem probeAnswer_keep (n tag : Nat) (s : State) :
    (probeAnswer n tag s).keep = s.keep := by
  first
  | (unfold probeAnswer; (repeat' split) <;> (try dsimp only) <;> simp +decide [probeAnswer]; done)
  | (simp +decide [probeAnswer]; done)

theorem probeAckReceive_keep (k : Packet) (s : State) :
    (probeAckReceive k s).keep = s.keep := by
  first
  | (simp +decide [probeAckReceive]; done)
  | (unfold probeAckReceive; (repeat' split) <;> (try dsimp only) <;> simp +decide [probeAckReceive]; done)

theorem flipSettleExpiry_keep (tag : Nat) (s : State) :
    (flipSettleExpiry tag s).keep = s.keep := by
  first
  | (simp +decide [flipSettleExpiry]; done)
  | (unfold flipSettleExpiry; (repeat' split) <;> (try dsimp only) <;> simp +decide [flipSettleExpiry]; done)

theorem routeDownReceive_keep (k : Packet) (s : State) :
    (routeDownReceive k s).keep = s.keep := by
  first
  | (unfold routeDownReceive; (repeat' split) <;> (try dsimp only) <;> simp +decide [routeDownReceive]; done)
  | (simp +decide [routeDownReceive]; done)

theorem routeUpReceive_keep (k : Packet) (s : State) :
    (routeUpReceive k s).keep = s.keep := by
  first
  | (simp +decide [routeUpReceive]; done)
  | (unfold routeUpReceive; (repeat' split) <;> (try dsimp only) <;> simp +decide [routeUpReceive]; done)

theorem portActiveReceive_keep (n : Nat) (s : State) :
    (portActiveReceive n s).keep = s.keep := by
  first
  | (simp +decide [portActiveReceive]; done)
  | (unfold portActiveReceive; (repeat' split) <;> (try dsimp only) <;> simp +decide [portActiveReceive]; done)

@[simp] theorem State_tryActivate_keep (s : State) (n : Nat) :
    (State.tryActivate s n).keep = s.keep := by
  first
  | (simp +decide [State.tryActivate]; done)
  | (unfold State.tryActivate; (repeat' split) <;> (try dsimp only) <;> simp +decide [State.tryActivate]; done)

@[simp] theorem State_setRouteOk_keep (s : State) (n : Nat) :
    (State.setRouteOk s n).keep = s.keep := by
  first
  | (simp +decide [State.setRouteOk]; done)
  | (unfold State.setRouteOk; (repeat' split) <;> (try dsimp only) <;> simp +decide [State.setRouteOk]; done)

theorem routeOkWrite_keep (path : Path) (s : State) :
    (routeOkWrite path s).keep = s.keep := by
  first
  | (simp +decide [routeOkWrite]; done)
  | (unfold routeOkWrite; (repeat' split) <;> (try dsimp only) <;> simp +decide [routeOkWrite]; done)

@[simp] theorem partnerIdentityVerified_keep (n : Nat) (ok : Bool) (digest : List Byte) (s : State) :
    (partnerIdentityVerified n ok digest s).keep = s.keep := by
  first
  | (simp +decide [partnerIdentityVerified]; done)
  | (unfold partnerIdentityVerified; (repeat' split) <;> (try dsimp only) <;> simp +decide [partnerIdentityVerified]; done)

@[simp] theorem State_rteDisable_keep (s : State) (n v : Nat) :
    (State.rteDisable s n v).keep = s.keep := by
  first
  | (simp only [State.rteDisable]; (repeat' split) <;> simp +decide [State.rteDisable]; done)
  | (unfold State.rteDisable; (repeat' split) <;> (try dsimp only) <;> simp +decide [State.rteDisable]; done)

theorem rtePortDisable_keep (path : Path) (v : Nat) (s : State) :
    (rtePortDisable path v s).keep = s.keep := by
  first
  | (simp +decide [rtePortDisable]; done)
  | (unfold rtePortDisable; (repeat' split) <;> (try dsimp only) <;> simp +decide [rtePortDisable]; done)

theorem congNoticeReceive_keep (k : Packet) (s : State) :
    (congNoticeReceive k s).keep = s.keep := by
  first
  | (simp only [congNoticeReceive]; (repeat' split) <;> simp +decide [congNoticeReceive]; done)
  | (unfold congNoticeReceive; (repeat' split) <;> (try dsimp only) <;> simp +decide [congNoticeReceive]; done)

theorem bridleIncrease_keep (ix : Nat) (s : State) :
    (bridleIncrease ix s).keep = s.keep := by
  first
  | (simp +decide [bridleIncrease]; done)
  | (unfold bridleIncrease; (repeat' split) <;> (try dsimp only) <;> simp +decide [bridleIncrease]; done)

@[simp] theorem State_showLimit_keep (s : State) :
    (State.showLimit s).keep = s.keep := by
  first
  | (simp +decide [State.showLimit]; done)
  | (unfold State.showLimit; (repeat' split) <;> (try dsimp only) <;> simp +decide [State.showLimit]; done)

@[simp] theorem State_setDuty_keep (s : State) (d : Nat) :
    (State.setDuty s d).keep = s.keep := by
  first
  | (simp +decide [State.setDuty]; done)
  | (unfold State.setDuty; (repeat' split) <;> (try dsimp only) <;> simp +decide [State.setDuty]; done)

@[simp] theorem State_enterLevel_keep (s : State) (v pin : Nat) :
    (State.enterLevel s v pin).keep = s.keep := by
  first
  | (simp +decide [State.enterLevel]; done)
  | (unfold State.enterLevel; (repeat' split) <;> (try dsimp only) <;> simp +decide [State.enterLevel]; done)

@[simp] theorem State_holdOver_keep (s : State) :
    (State.holdOver s).keep = s.keep := by
  first
  | (simp +decide [State.holdOver]; done)
  | (unfold State.holdOver; (repeat' split) <;> (try dsimp only) <;> simp +decide [State.holdOver]; done)

@[simp] theorem State_judgeDemand_keep (s : State) (pin : Nat) :
    (State.judgeDemand s pin).keep = s.keep := by
  first
  | (simp only [State.judgeDemand]; (repeat' split) <;> simp +decide [State.judgeDemand]; done)
  | (unfold State.judgeDemand; (repeat' split) <;> (try dsimp only) <;> simp +decide [State.judgeDemand]; done)

theorem pwrAlertAssert_keep (s : State) :
    (pwrAlertAssert s).keep = s.keep := by
  first
  | (simp +decide [pwrAlertAssert]; done)
  | (unfold pwrAlertAssert; (repeat' split) <;> (try dsimp only) <;> simp +decide [pwrAlertAssert]; done)

theorem pwrAlertDeassert_keep (s : State) :
    (pwrAlertDeassert s).keep = s.keep := by
  first
  | (simp +decide [pwrAlertDeassert]; done)
  | (unfold pwrAlertDeassert; (repeat' split) <;> (try dsimp only) <;> simp +decide [pwrAlertDeassert]; done)

theorem thermAlertAssert_keep (s : State) :
    (thermAlertAssert s).keep = s.keep := by
  first
  | (unfold thermAlertAssert; (repeat' split) <;> (try dsimp only) <;> simp +decide [thermAlertAssert]; done)
  | (simp +decide [thermAlertAssert]; done)

@[simp] theorem thermP3DelayExpiry_keep (s : State) :
    (thermP3DelayExpiry s).keep = s.keep := by
  first
  | (unfold thermP3DelayExpiry; (repeat' split) <;> (try dsimp only) <;> simp +decide [thermP3DelayExpiry]; done)
  | (simp +decide [thermP3DelayExpiry]; done)

theorem thermAlertDeassert_keep (s : State) :
    (thermAlertDeassert s).keep = s.keep := by
  unfold thermAlertDeassert; repeat' (first | (simp +decide [thermAlertDeassert]; done) | (intros; split) | (intros; first | refine Eq.trans (foldl_keep _ _ _ fun _ _ => ?_) ?_ | refine Eq.trans (foldl_fst_keep _ _ _ fun _ _ => ?_) ?_ | refine Eq.trans (when_keep _ _ _ ?_) ?_) | dsimp only | simp +decide [thermAlertDeassert])

theorem pwrCapChange_keep (cap : Nat) (s : State) :
    (pwrCapChange cap s).keep = s.keep := by
  first
  | (simp +decide [pwrCapChange]; done)
  | (unfold pwrCapChange; (repeat' split) <;> (try dsimp only) <;> simp +decide [pwrCapChange]; done)

@[simp] theorem State_setPwrCtl_keep (s : State) (x : Word) :
    (State.setPwrCtl s x).keep = s.keep := by
  first
  | (simp +decide [State.setPwrCtl]; done)
  | (unfold State.setPwrCtl; (repeat' split) <;> (try dsimp only) <;> simp +decide [State.setPwrCtl]; done)

theorem forceLevelWrite_keep (path : Path) (x : Word) (s : State) :
    (forceLevelWrite path x s).keep = s.keep := by
  first
  | (simp +decide [forceLevelWrite]; done)
  | (unfold forceLevelWrite; (repeat' split) <;> (try dsimp only) <;> simp +decide [forceLevelWrite]; done)

theorem throttleHoldExpiry_keep (s : State) :
    (throttleHoldExpiry s).keep = s.keep := by
  first
  | (unfold throttleHoldExpiry; (repeat' split) <;> (try dsimp only) <;> simp +decide [throttleHoldExpiry]; done)
  | (simp +decide [throttleHoldExpiry]; done)

@[simp] theorem State_harder_keep (s : State) :
    (State.harder s).keep = s.keep := by
  first
  | (simp +decide [State.harder]; done)
  | (unfold State.harder; (repeat' split) <;> (try dsimp only) <;> simp +decide [State.harder]; done)

@[simp] theorem State_easier_keep (s : State) :
    (State.easier s).keep = s.keep := by
  first
  | (simp +decide [State.easier]; done)
  | (unfold State.easier; (repeat' split) <;> (try dsimp only) <;> simp +decide [State.easier]; done)

@[simp] theorem State_burnish_keep (s : State) (now avg rise : Nat) :
    (State.burnish s now avg rise).keep = s.keep := by
  first
  | (simp only [State.burnish]; (repeat' split) <;> simp +decide [State.burnish]; done)
  | (unfold State.burnish; (repeat' split) <;> (try dsimp only) <;> simp +decide [State.burnish]; done)

theorem powerControlSample_keep (p : Part) (watts : Nat) (s : State) :
    (powerControlSample p watts s).keep = s.keep := by
  first
  | (simp only [powerControlSample]; (repeat' split) <;> simp +decide [powerControlSample]; done)
  | (unfold powerControlSample; (repeat' split) <;> (try dsimp only) <;> simp +decide [powerControlSample]; done)

theorem hbmStackThrottle_keep (n celsius : Nat) (s : State) :
    (hbmStackThrottle n celsius s).keep = s.keep := by
  first
  | (simp +decide [hbmStackThrottle]; done)
  | (unfold hbmStackThrottle; (repeat' split) <;> (try dsimp only) <;> simp +decide [hbmStackThrottle]; done)

@[simp] theorem State_herdPacketLost_keep (s : State) (k : Packet) :
    (State.herdPacketLost s k).keep = s.keep := by
  first
  | (simp +decide [State.herdPacketLost]; done)
  | (unfold State.herdPacketLost; (repeat' split) <;> (try dsimp only) <;> simp +decide [State.herdPacketLost]; done)

theorem sramUncorrectable_keep (structure_ id : Nat) (mid : Option Nat) (s : State) :
    (sramUncorrectable structure_ id mid s).keep = s.keep := by
  first
  | (unfold sramUncorrectable; (repeat' split) <;> (try dsimp only) <;> simp +decide [sramUncorrectable]; done)
  | (simp +decide [sramUncorrectable]; done)

end Sys2Proof.Machine
end

