-- ==== Sys2Proof/Laws/FixedControl.lean ====
section
/-! SUPPORT. Every operation of CXL, dual control, SPDM and firmware leaves the identification words and the queue as they were. -/

set_option Elab.async false
set_option linter.all false

namespace Sys2Proof.Machine

@[simp] theorem State_onCxl_keep (s : State) (f : Cxl → Cxl) :
    (State.onCxl s f).keep = s.keep := by
  first
  | (simp +decide [State.onCxl]; done)
  | (unfold State.onCxl; (repeat' split) <;> (try dsimp only) <;> simp +decide [State.onCxl]; done)

@[simp] theorem State_hostGuard_keep (s : State) (kind dpa : Nat) (f : Nat → Nat → State → State) (h : ∀ a b s, (f a b s).keep = s.keep) :
    (s.hostGuard kind dpa f).keep = s.keep := by
  unfold State.hostGuard
  extract_lets a s1 st st2
  have h1 : s1.keep = s.keep := by
    simp only [s1]; split
    · exact option_elim_keep _ _ _ fun _ => by simp
    · rfl
  clear_value s1 st st2 a
  (repeat' split) <;> simp [h, h1]

@[simp] theorem State_hostQueue_keep (s : State) (k : PKind) (p off n : Nat) (m : Member) :
    (State.hostQueue s k p off n m).keep = s.keep := by
  first
  | (simp +decide [State.hostQueue]; done)
  | (unfold State.hostQueue; (repeat' split) <;> (try dsimp only) <;> simp +decide [State.hostQueue]; done)

theorem memRd_keep (dpa mv : Nat) (s : State) :
    (memRd dpa mv s).keep = s.keep := by
  first
  | (unfold memRd; (repeat' split) <;> (try dsimp only) <;> simp +decide [memRd]; done)
  | (simp +decide [memRd]; done)

theorem memInv_keep (dpa : Nat) (s : State) :
    (memInv dpa s).keep = s.keep := by
  first
  | (unfold memInv; (repeat' split) <;> (try dsimp only) <;> simp +decide [memInv]; done)
  | (simp +decide [memInv]; done)

@[simp] theorem State_hostWriteBack_keep (s : State) (p off mask : Nat) (data : List Byte) :
    (State.hostWriteBack s p off mask data).keep = s.keep := by
  first
  | (simp only [State.hostWriteBack]; (repeat' split) <;> simp +decide [State.hostWriteBack]; done)
  | (unfold State.hostWriteBack; (repeat' split) <;> (try dsimp only) <;> simp +decide [State.hostWriteBack]; done)

theorem memWr_keep (dpa mask : Nat) (data : List Byte) (s : State) :
    (memWr dpa mask data s).keep = s.keep := by
  first
  | (unfold memWr; (repeat' split) <;> (try dsimp only) <;> simp +decide [memWr]; done)
  | (simp +decide [memWr]; done)

theorem memClnEvct_keep (dpa : Nat) (s : State) :
    (memClnEvct dpa s).keep = s.keep := by
  unfold memClnEvct; repeat' (first | (simp +decide [memClnEvct]; done) | (intros; split) | (intros; first | refine Eq.trans (foldl_keep _ _ _ fun _ _ => ?_) ?_ | refine Eq.trans (foldl_fst_keep _ _ _ fun _ _ => ?_) ?_ | refine Eq.trans (when_keep _ _ _ ?_) ?_) | dsimp only | simp +decide [memClnEvct])

theorem memSpecRd_keep (dpa : Nat) (s : State) :
    (memSpecRd dpa s).keep = s.keep := by
  first
  | (simp +decide [memSpecRd]; done)
  | (unfold memSpecRd; (repeat' split) <;> (try dsimp only) <;> simp +decide [memSpecRd]; done)

@[simp] theorem biRsp_keep (dpa : Nat) (shared : Bool) (s : State) : (biRsp dpa shared s).keep = s.keep := by
  unfold biRsp
  extract_lets key s1
  have h1 : s1.keep = s.keep := by
    simp only [s1]; split
    · exact option_elim_keep _ _ _ fun _ => by simp
    · rfl
  clear_value s1 key
  dsimp only
  (repeat' split) <;> simp [h1]

theorem biConflict_keep (dpa : Nat) (s : State) :
    (biConflict dpa s).keep = s.keep := by
  first
  | (simp +decide [biConflict]; done)
  | (unfold biConflict; (repeat' split) <;> (try dsimp only) <;> simp +decide [biConflict]; done)

theorem hdmCommit_keep (dec hpa dpa size ways : Nat) (db : Bool) (s : State) :
    (hdmCommit dec hpa dpa size ways db s).keep = s.keep := by
  first
  | (simp +decide [hdmCommit]; done)
  | (unfold hdmCommit; (repeat' split) <;> (try dsimp only) <;> simp +decide [hdmCommit]; done)

@[simp] theorem State_fenceHost_keep (s : State) (cause : Nat) :
    (State.fenceHost s cause).keep = s.keep := by
  first
  | (unfold State.fenceHost; (repeat' split) <;> (try dsimp only) <;> simp +decide [State.fenceHost]; done)
  | (simp +decide [State.fenceHost]; done)

@[simp] theorem State_setBiEn_keep (s : State) (v : Bool) :
    (State.setBiEn s v).1.keep = s.keep := by
  first
  | (simp +decide [State.setBiEn]; done)
  | (unfold State.setBiEn; (repeat' split) <;> (try dsimp only) <;> simp +decide [State.setBiEn]; done)

theorem biEnWrite_keep (path : Path) (v : Bool) (s : State) :
    (biEnWrite path v s).keep = s.keep := by
  first
  | (simp +decide [biEnWrite]; done)
  | (unfold biEnWrite; (repeat' split) <;> (try dsimp only) <;> simp +decide [biEnWrite]; done)

@[simp] theorem State_hostReset_keep (s : State) :
    (State.hostReset s).keep = s.keep := by
  first
  | (simp +decide [State.hostReset]; done)
  | (unfold State.hostReset; (repeat' split) <;> (try dsimp only) <;> simp +decide [State.hostReset]; done)

@[simp] theorem State_hostDown_keep (s : State) (cause : Nat) :
    (State.hostDown s cause).keep = s.keep := by
  first
  | (simp +decide [State.hostDown]; done)
  | (unfold State.hostDown; (repeat' split) <;> (try dsimp only) <;> simp +decide [State.hostDown]; done)

theorem hostLinkDown_keep (cause : Nat) (s : State) :
    (hostLinkDown cause s).keep = s.keep := by
  first
  | (simp +decide [hostLinkDown]; done)
  | (unfold hostLinkDown; (repeat' split) <;> (try dsimp only) <;> simp +decide [hostLinkDown]; done)

theorem hostLinkUp_keep (width rate : Nat) (cxl : Bool) (s : State) :
    (hostLinkUp width rate cxl s).keep = s.keep := by
  first
  | (simp +decide [hostLinkUp]; done)
  | (unfold hostLinkUp; (repeat' split) <;> (try dsimp only) <;> simp +decide [hostLinkUp]; done)

theorem ideCheckFail_keep (s : State) :
    (ideCheckFail s).keep = s.keep := by
  first
  | (simp +decide [ideCheckFail]; done)
  | (unfold ideCheckFail; (repeat' split) <;> (try dsimp only) <;> simp +decide [ideCheckFail]; done)

@[simp] theorem State_writeInvRecord_keep (s : State) (tag status missing first ltc : Nat) :
    (State.writeInvRecord s tag status missing first ltc).keep = s.keep := by
  first
  | (simp +decide [State.writeInvRecord]; done)
  | (unfold State.writeInvRecord; (repeat' split) <;> (try dsimp only) <;> simp +decide [State.writeInvRecord]; done)

@[simp] theorem State_endInval_keep (s : State) (v : Inval) (status : Nat) (missing : List Nat) :
    (State.endInval s v status missing).keep = s.keep := by
  first
  | (simp +decide [State.endInval]; done)
  | (unfold State.endInval; (repeat' split) <;> (try dsimp only) <;> simp +decide [State.endInval]; done)

@[simp] theorem State_startInval_keep (s : State) (desc : List Byte) (tag p ctx : Nat) :
    (State.startInval s desc tag p ctx).keep = s.keep := by
  first
  | (simp +decide [State.startInval]; done)
  | (unfold State.startInval; (repeat' split) <;> (try dsimp only) <;> simp +decide [State.startInval]; done)

theorem invSubmit_keep (desc : List Byte) (s : State) :
    (invSubmit desc s).keep = s.keep := by
  first
  | (simp only [invSubmit]; (repeat' split) <;> simp +decide [invSubmit]; done)
  | (unfold invSubmit; (repeat' split) <;> (try dsimp only) <;> simp +decide [invSubmit]; done)

@[simp] theorem State_invalExpire_keep (s : State) (v : Inval) :
    (State.invalExpire s v).keep = s.keep := by
  first
  | (simp +decide [State.invalExpire]; done)
  | (unfold State.invalExpire; (repeat' split) <;> (try dsimp only) <;> simp +decide [State.invalExpire]; done)

theorem invalAckReceive_keep (k : Packet) (s : State) :
    (invalAckReceive k s).keep = s.keep := by
  first
  | (simp only [invalAckReceive]; (repeat' split) <;> simp +decide [invalAckReceive]; done)
  | (unfold invalAckReceive; (repeat' split) <;> (try dsimp only) <;> simp +decide [invalAckReceive]; done)

theorem invalTimeout_keep (serial : Nat) (s : State) :
    (invalTimeout serial s).keep = s.keep := by
  first
  | (unfold invalTimeout; (repeat' split) <;> (try dsimp only) <;> simp +decide [invalTimeout]; done)
  | (simp +decide [invalTimeout]; done)

theorem invRecordWrite_keep (s : State) :
    (invRecordWrite s).keep = s.keep := by
  first
  | (simp only [invRecordWrite]; (repeat' split) <;> simp +decide [invRecordWrite]; done)
  | (unfold invRecordWrite; (repeat' split) <;> (try dsimp only) <;> simp +decide [invRecordWrite]; done)

@[simp] theorem State_postEvent_keep (s : State) (p : Nat) :
    (State.postEvent s p).keep = s.keep := by
  first
  | (simp +decide [State.postEvent]; done)
  | (unfold State.postEvent; (repeat' split) <;> (try dsimp only) <;> simp +decide [State.postEvent]; done)

@[simp] theorem State_memDevCmd_keep (s : State) (f : State → State) (hf : ∀  s, (f  s).keep = s.keep) :
    (State.memDevCmd s f).keep = s.keep := by
  first
  | (unfold State.memDevCmd; (repeat' split) <;> (try dsimp only) <;> simp +decide [State.memDevCmd, hf]; done)
  | (simp +decide [State.memDevCmd, hf]; done)

theorem identifyMemoryDevice_keep (s : State) :
    (identifyMemoryDevice s).keep = s.keep := by
  first
  | (simp +decide [identifyMemoryDevice]; done)
  | (unfold identifyMemoryDevice; (repeat' split) <;> (try dsimp only) <;> simp +decide [identifyMemoryDevice]; done)

theorem getSupportedLogs_keep (s : State) :
    (getSupportedLogs s).keep = s.keep := by
  first
  | (simp +decide [getSupportedLogs]; done)
  | (unfold getSupportedLogs; (repeat' split) <;> (try dsimp only) <;> simp +decide [getSupportedLogs]; done)

theorem getLog_keep (s : State) :
    (getLog s).keep = s.keep := by
  first
  | (simp +decide [getLog]; done)
  | (unfold getLog; (repeat' split) <;> (try dsimp only) <;> simp +decide [getLog]; done)

theorem getEventRecords_keep (s : State) :
    (getEventRecords s).keep = s.keep := by
  first
  | (simp +decide [getEventRecords]; done)
  | (unfold getEventRecords; (repeat' split) <;> (try dsimp only) <;> simp +decide [getEventRecords]; done)

theorem clearEventRecords_keep (all : Bool) (handles : List Nat) (s : State) :
    (clearEventRecords all handles s).keep = s.keep := by
  first
  | (simp +decide [clearEventRecords]; done)
  | (unfold clearEventRecords; (repeat' split) <;> (try dsimp only) <;> simp +decide [clearEventRecords]; done)

theorem getEventInterruptPolicy_keep (s : State) :
    (getEventInterruptPolicy s).keep = s.keep := by
  first
  | (simp +decide [getEventInterruptPolicy]; done)
  | (unfold getEventInterruptPolicy; (repeat' split) <;> (try dsimp only) <;> simp +decide [getEventInterruptPolicy]; done)

theorem setEventInterruptPolicy_keep (v : Nat) (s : State) :
    (setEventInterruptPolicy v s).keep = s.keep := by
  first
  | (simp +decide [setEventInterruptPolicy]; done)
  | (unfold setEventInterruptPolicy; (repeat' split) <;> (try dsimp only) <;> simp +decide [setEventInterruptPolicy]; done)

theorem getHealthInfo_keep (s : State) :
    (getHealthInfo s).keep = s.keep := by
  first
  | (simp +decide [getHealthInfo]; done)
  | (unfold getHealthInfo; (repeat' split) <;> (try dsimp only) <;> simp +decide [getHealthInfo]; done)

theorem getTimestamp_keep (s : State) :
    (getTimestamp s).keep = s.keep := by
  first
  | (simp +decide [getTimestamp]; done)
  | (unfold getTimestamp; (repeat' split) <;> (try dsimp only) <;> simp +decide [getTimestamp]; done)

theorem setTimestamp_keep (v : Nat) (s : State) :
    (setTimestamp v s).keep = s.keep := by
  first
  | (simp +decide [setTimestamp]; done)
  | (unfold setTimestamp; (repeat' split) <;> (try dsimp only) <;> simp +decide [setTimestamp]; done)

theorem memdevUnsupportedCommand_keep (s : State) :
    (memdevUnsupportedCommand s).keep = s.keep := by
  first
  | (simp +decide [memdevUnsupportedCommand]; done)
  | (unfold memdevUnsupportedCommand; (repeat' split) <;> (try dsimp only) <;> simp +decide [memdevUnsupportedCommand]; done)

@[simp] theorem State_tspReq_keep (s : State) (f : State → State) (hf : ∀  s, (f  s).keep = s.keep) :
    (State.tspReq s f).keep = s.keep := by
  first
  | (simp +decide [State.tspReq, hf]; done)
  | (unfold State.tspReq; (repeat' split) <;> (try dsimp only) <;> simp +decide [State.tspReq, hf]; done)

theorem tspGetVersion_keep (s : State) :
    (tspGetVersion s).keep = s.keep := by
  first
  | (simp +decide [tspGetVersion]; done)
  | (unfold tspGetVersion; (repeat' split) <;> (try dsimp only) <;> simp +decide [tspGetVersion]; done)

theorem tspGetCapabilities_keep (s : State) :
    (tspGetCapabilities s).keep = s.keep := by
  first
  | (simp +decide [tspGetCapabilities]; done)
  | (unfold tspGetCapabilities; (repeat' split) <;> (try dsimp only) <;> simp +decide [tspGetCapabilities]; done)

theorem tspSetConfig_keep (v : Nat) (s : State) :
    (tspSetConfig v s).keep = s.keep := by
  first
  | (simp +decide [tspSetConfig]; done)
  | (unfold tspSetConfig; (repeat' split) <;> (try dsimp only) <;> simp +decide [tspSetConfig]; done)

theorem tspLockConfig_keep (s : State) :
    (tspLockConfig s).keep = s.keep := by
  first
  | (simp +decide [tspLockConfig]; done)
  | (unfold tspLockConfig; (repeat' split) <;> (try dsimp only) <;> simp +decide [tspLockConfig]; done)

theorem tspGetReport_keep (s : State) :
    (tspGetReport s).keep = s.keep := by
  first
  | (simp +decide [tspGetReport]; done)
  | (unfold tspGetReport; (repeat' split) <;> (try dsimp only) <;> simp +decide [tspGetReport]; done)

theorem tspRefusedRequest_keep (s : State) :
    (tspRefusedRequest s).keep = s.keep := by
  first
  | (simp +decide [tspRefusedRequest]; done)
  | (unfold tspRefusedRequest; (repeat' split) <;> (try dsimp only) <;> simp +decide [tspRefusedRequest]; done)

@[simp] theorem State_cxdBringUp_keep (s : State) (n : Nat) :
    (State.cxdBringUp s n).keep = s.keep := by
  first
  | (unfold State.cxdBringUp; (repeat' split) <;> (try dsimp only) <;> simp +decide [State.cxdBringUp]; done)
  | (simp +decide [State.cxdBringUp]; done)

theorem cxdDeviceDetect_keep (n kind serial bytes : Nat) (ide : Bool) (width rate : Nat) (s : State) :
    (cxdDeviceDetect n kind serial bytes ide width rate s).keep = s.keep := by
  first
  | (simp +decide [cxdDeviceDetect]; done)
  | (unfold cxdDeviceDetect; (repeat' split) <;> (try dsimp only) <;> simp +decide [cxdDeviceDetect]; done)

@[simp] theorem State_cxdRestartPort_keep (s : State) (n : Nat) :
    (State.cxdRestartPort s n).keep = s.keep := by
  first
  | (simp +decide [State.cxdRestartPort]; done)
  | (unfold State.cxdRestartPort; (repeat' split) <;> (try dsimp only) <;> simp +decide [State.cxdRestartPort]; done)

theorem cxdRestart_keep (path : Path) (n : Nat) (s : State) :
    (cxdRestart path n s).keep = s.keep := by
  first
  | (simp +decide [cxdRestart]; done)
  | (unfold cxdRestart; (repeat' split) <;> (try dsimp only) <;> simp +decide [cxdRestart]; done)

@[simp] theorem State_onDct_keep (s : State) (f : Dct → Dct) :
    (State.onDct s f).keep = s.keep := by
  first
  | (simp +decide [State.onDct]; done)
  | (unfold State.onDct; (repeat' split) <;> (try dsimp only) <;> simp +decide [State.onDct]; done)

@[simp] theorem State_writeRecs_keep (s : State) (rs : List DctRec) : (s.writeRecs rs).keep = s.keep := by
  refine foldl_keep _ _ _ fun s r => ?_
  split
  · rename_i reg b x h
    refine wr_keep _ _ _ _ _ _ (Or.inl ?_)
    unfold DctRec.target at h
    dsimp only at h
    (repeat' split at h) <;> (simp only [Option.some.injEq, Prod.mk.injEq, reduceCtorEq, false_and, and_false] at h) <;>
      (obtain ⟨rfl, -⟩ := h; simp [CTX_ENTRY, CTX_PTN_MASK, PTN_ENTRY, PTN_TKEY, PTN_ROS_ENTRY, PTN_ROS_MASK, POL_MAP_ENTRY, DIR_AGT_ENTRY, DCT_OPKEY_NEW])
  · rfl

@[simp] theorem State_showPend_keep (s : State) :
    (State.showPend s).keep = s.keep := by
  first
  | (simp +decide [State.showPend]; done)
  | (unfold State.showPend; (repeat' split) <;> (try dsimp only) <;> simp +decide [State.showPend]; done)

@[simp] theorem State_deliver'_keep (s : State) (n : Nat) (removals : List Nat) :
    (State.deliver' s n removals).keep = s.keep := by
  first
  | (simp +decide [State.deliver']; done)
  | (unfold State.deliver'; (repeat' split) <;> (try dsimp only) <;> simp +decide [State.deliver']; done)

@[simp] theorem State_deliverTo_keep (s : State) (node : Nat) (removals : List Nat) :
    (State.deliverTo s node removals).keep = s.keep := by
  first
  | (unfold State.deliverTo; (repeat' split) <;> (try dsimp only) <;> simp +decide [State.deliverTo]; done)
  | (simp +decide [State.deliverTo]; done)

theorem bindingResendTimer_keep (n : Nat) (s : State) :
    (bindingResendTimer n s).keep = s.keep := by
  first
  | (unfold bindingResendTimer; (repeat' split) <;> (try dsimp only) <;> simp +decide [bindingResendTimer]; done)
  | (simp +decide [bindingResendTimer]; done)

theorem bindingAckReceive_keep (n : Nat) (s : State) :
    (bindingAckReceive n s).keep = s.keep := by
  first
  | (unfold bindingAckReceive; (repeat' split) <;> (try dsimp only) <;> simp +decide [bindingAckReceive]; done)
  | (simp +decide [bindingAckReceive]; done)

@[simp] theorem partnerVerified_keep (p : Part) (n : Nat) (ok : Bool) (digest : List Byte) (s : State) :
    (partnerVerified p n ok digest s).keep = s.keep := by
  unfold partnerVerified; repeat' (first | (simp +decide [partnerVerified]; done) | (intros; split) | (intros; first | refine Eq.trans (foldl_keep _ _ _ fun _ _ => ?_) ?_ | refine Eq.trans (foldl_fst_keep _ _ _ fun _ _ => ?_) ?_ | refine Eq.trans (when_keep _ _ _ ?_) ?_) | dsimp only | simp +decide [partnerVerified])

@[simp] theorem State_applySet_keep (s : State) (ctxs : List (Nat × Word)) (mask : Word) : (s.applySet ctxs mask).keep = s.keep := by
  unfold State.applySet
  extract_lets isCtx s1 s2 s3
  have h1 : s1.keep = s.keep := by
    refine onChip_keep _ _ _ fun _ => ?_
    dsimp only
    exact keepIf_ident _ _ fun _ => by simp [isCtx, CTX_ENTRY]
  have h2 : s2.keep = s1.keep := foldl_keep _ _ _ fun s e => by split <;> simp [CTX_ENTRY]
  have h3 : s3.keep = s2.keep := wr_keep _ _ _ _ _ _ (by decide)
  rw [← h1, ← h2, ← h3]
  refine foldl_keep _ _ _ fun s w => ?_
  split <;> simp

theorem bindingSetReceive_keep (link sid : Nat) (seq : Word) (ctxs : List (Nat × Word)) (mask : Word) (digest : List Byte) (s : State) :
    (bindingSetReceive link sid seq ctxs mask digest s).keep = s.keep := by
  first
  | (simp +decide [bindingSetReceive]; done)
  | (unfold bindingSetReceive; (repeat' split) <;> (try dsimp only) <;> simp +decide [bindingSetReceive]; done)

@[simp] theorem State_configChanged_keep (s : State) :
    (State.configChanged s).keep = s.keep := by
  first
  | (simp +decide [State.configChanged]; done)
  | (unfold State.configChanged; (repeat' split) <;> (try dsimp only) <;> simp +decide [State.configChanged]; done)

theorem imageWriteDone_keep (s : State) :
    (imageWriteDone s).keep = s.keep := by
  first
  | (simp +decide [imageWriteDone]; done)
  | (unfold imageWriteDone; (repeat' split) <;> (try dsimp only) <;> simp +decide [imageWriteDone]; done)

@[simp] theorem State_commitAgents_keep (s old : State) (rs : List DctRec) :
    (State.commitAgents s old rs).keep = s.keep := by
  first
  | (simp +decide [State.commitAgents]; done)
  | (unfold State.commitAgents; (repeat' split) <;> (try dsimp only) <;> simp +decide [State.commitAgents]; done)

@[simp] theorem State_assignMaps_keep (s : State) (p : Nat) :
    (State.assignMaps s p).keep = s.keep := by
  first
  | (simp +decide [State.assignMaps]; done)
  | (unfold State.assignMaps; (repeat' split) <;> (try dsimp only) <;> simp +decide [State.assignMaps]; done)

@[simp] theorem State_hostSideChanged_keep (s old : State) (scope : Nat) (rs : List DctRec) :
    (State.hostSideChanged s old scope rs).keep = s.keep := by
  first
  | (simp +decide [State.hostSideChanged]; done)
  | (unfold State.hostSideChanged; (repeat' split) <;> (try dsimp only) <;> simp +decide [State.hostSideChanged]; done)

@[simp] theorem State_zeroBlk_keep (s : State) (p : Nat) :
    (State.zeroBlk s p).keep = s.keep := by
  first
  | (simp +decide [State.zeroBlk]; done)
  | (unfold State.zeroBlk; (repeat' split) <;> (try dsimp only) <;> simp +decide [State.zeroBlk]; done)

@[simp] theorem State_commitPartition_keep (s old : State) (p : Nat) :
    (State.commitPartition s old p).keep = s.keep := by
  first
  | (simp +decide [State.commitPartition]; done)
  | (unfold State.commitPartition; (repeat' split) <;> (try dsimp only) <;> simp +decide [State.commitPartition]; done)

@[simp] theorem State_commitRoster_keep (s : State) :
    (State.commitRoster s).keep = s.keep := by
  first
  | (simp +decide [State.commitRoster]; done)
  | (unfold State.commitRoster; (repeat' split) <;> (try dsimp only) <;> simp +decide [State.commitRoster]; done)

@[simp] theorem State_endChange_keep (s : State) (status detail rec : Nat) :
    (State.endChange s status detail rec).keep = s.keep := by
  first
  | (simp +decide [State.endChange]; done)
  | (unfold State.endChange; (repeat' split) <;> (try dsimp only) <;> simp +decide [State.endChange]; done)

@[simp] theorem State_applyChange_keep (s : State) (scope : Nat) (rs : List DctRec) :
    (State.applyChange s scope rs).keep = s.keep := by
  first
  | (simp +decide [State.applyChange]; done)
  | (unfold State.applyChange; (repeat' split) <;> (try dsimp only) <;> simp +decide [State.applyChange]; done)

@[simp] theorem State_commitChange_keep (s : State) :
    (State.commitChange s).keep = s.keep := by
  first
  | (simp only [State.commitChange]; (repeat' split) <;> simp +decide [State.commitChange]; done)
  | (unfold State.commitChange; (repeat' split) <;> (try dsimp only) <;> simp +decide [State.commitChange]; done)

@[simp] theorem State_tryCommit_keep (s : State) :
    (State.tryCommit s).keep = s.keep := by
  first
  | (simp +decide [State.tryCommit]; done)
  | (unfold State.tryCommit; (repeat' split) <;> (try dsimp only) <;> simp +decide [State.tryCommit]; done)

@[simp] theorem dctWindowExpiry_keep (s : State) :
    (dctWindowExpiry s).keep = s.keep := by
  first
  | (simp +decide [dctWindowExpiry]; done)
  | (unfold dctWindowExpiry; (repeat' split) <;> (try dsimp only) <;> simp +decide [dctWindowExpiry]; done)

theorem sigVerifyDone_keep (s : State) :
    (sigVerifyDone s).keep = s.keep := by
  unfold sigVerifyDone; repeat' (first | (simp +decide [sigVerifyDone]; done) | (intros; split) | (intros; first | refine Eq.trans (foldl_keep _ _ _ fun _ _ => ?_) ?_ | refine Eq.trans (foldl_fst_keep _ _ _ fun _ _ => ?_) ?_ | refine Eq.trans (when_keep _ _ _ ?_) ?_) | dsimp only | simp +decide [sigVerifyDone])

@[simp] theorem State_dctBeginW_keep (s : State) (path : Path) (scope : Nat) :
    (State.dctBeginW s path scope).1.keep = s.keep := by
  first
  | (simp +decide [State.dctBeginW]; done)
  | (unfold State.dctBeginW; (repeat' split) <;> (try dsimp only) <;> simp +decide [State.dctBeginW]; done)

theorem dctBegin_keep (path : Path) (scope : Nat) (s : State) :
    (dctBegin path scope s).keep = s.keep := by
  first
  | (simp +decide [dctBegin]; done)
  | (unfold dctBegin; (repeat' split) <;> (try dsimp only) <;> simp +decide [dctBegin]; done)

@[simp] theorem State_dctW0_keep (s : State) (path : Path) (x : Word) :
    (State.dctW0 s path x).1.keep = s.keep := by
  first
  | (simp +decide [State.dctW0]; done)
  | (unfold State.dctW0; (repeat' split) <;> (try dsimp only) <;> simp +decide [State.dctW0]; done)

@[simp] theorem State_dctW1_keep (s : State) (path : Path) (x : Word) :
    (State.dctW1 s path x).1.keep = s.keep := by
  first
  | (simp +decide [State.dctW1]; done)
  | (unfold State.dctW1; (repeat' split) <;> (try dsimp only) <;> simp +decide [State.dctW1]; done)

theorem dctRecWrite_keep (path : Path) (x : Word) (s : State) :
    (dctRecWrite path x s).keep = s.keep := by
  first
  | (simp +decide [dctRecWrite]; done)
  | (unfold dctRecWrite; (repeat' split) <;> (try dsimp only) <;> simp +decide [dctRecWrite]; done)

@[simp] theorem State_dctSealW_keep (s : State) (path : Path) :
    (State.dctSealW s path).1.keep = s.keep := by
  first
  | (simp +decide [State.dctSealW]; done)
  | (unfold State.dctSealW; (repeat' split) <;> (try dsimp only) <;> simp +decide [State.dctSealW]; done)

theorem dctSeal_keep (path : Path) (s : State) :
    (dctSeal path s).keep = s.keep := by
  first
  | (simp +decide [dctSeal]; done)
  | (unfold dctSeal; (repeat' split) <;> (try dsimp only) <;> simp +decide [dctSeal]; done)

@[simp] theorem State_dctCancelW_keep (s : State) :
    (State.dctCancelW s).1.keep = s.keep := by
  first
  | (simp +decide [State.dctCancelW]; done)
  | (unfold State.dctCancelW; (repeat' split) <;> (try dsimp only) <;> simp +decide [State.dctCancelW]; done)

theorem dctCancel_keep (path : Path) (s : State) :
    (dctCancel path s).keep = s.keep := by
  first
  | (simp +decide [dctCancel]; done)
  | (unfold dctCancel; (repeat' split) <;> (try dsimp only) <;> simp +decide [dctCancel]; done)

@[simp] theorem State_onBuf_keep (s : State) (path : Path) (f : List Byte → List Byte) :
    (State.onBuf s path f).keep = s.keep := by
  first
  | (simp +decide [State.onBuf]; done)
  | (unfold State.onBuf; (repeat' split) <;> (try dsimp only) <;> simp +decide [State.onBuf]; done)

@[simp] theorem State_sigStartW_keep (s : State) (path : Path) (role : Nat) :
    (State.sigStartW s path role).1.keep = s.keep := by
  first
  | (simp +decide [State.sigStartW]; done)
  | (unfold State.sigStartW; (repeat' split) <;> (try dsimp only) <;> simp +decide [State.sigStartW]; done)

theorem sigStart_keep (path : Path) (role : Nat) (s : State) :
    (sigStart path role s).keep = s.keep := by
  first
  | (simp +decide [sigStart]; done)
  | (unfold sigStart; (repeat' split) <;> (try dsimp only) <;> simp +decide [sigStart]; done)

@[simp] theorem State_sigDataW_keep (s : State) (path : Path) (x : Word) :
    (State.sigDataW s path x).1.keep = s.keep := by
  first
  | (simp +decide [State.sigDataW]; done)
  | (unfold State.sigDataW; (repeat' split) <;> (try dsimp only) <;> simp +decide [State.sigDataW]; done)

theorem sigDataWrite_keep (path : Path) (x : Word) (s : State) :
    (sigDataWrite path x s).keep = s.keep := by
  first
  | (simp +decide [sigDataWrite]; done)
  | (unfold sigDataWrite; (repeat' split) <;> (try dsimp only) <;> simp +decide [sigDataWrite]; done)

@[simp] theorem State_sigSubmitW_keep (s : State) (path : Path) (role : Nat) :
    (State.sigSubmitW s path role).1.keep = s.keep := by
  first
  | (simp +decide [State.sigSubmitW]; done)
  | (unfold State.sigSubmitW; (repeat' split) <;> (try dsimp only) <;> simp +decide [State.sigSubmitW]; done)

theorem sigSubmit_keep (path : Path) (role : Nat) (s : State) :
    (sigSubmit path role s).keep = s.keep := by
  first
  | (simp +decide [sigSubmit]; done)
  | (unfold sigSubmit; (repeat' split) <;> (try dsimp only) <;> simp +decide [sigSubmit]; done)

@[simp] theorem State_writeStageCtl_keep (s : State) (path : Path) (x : Word) :
    (State.writeStageCtl s path x).1.keep = s.keep := by
  first
  | (simp +decide [State.writeStageCtl]; done)
  | (unfold State.writeStageCtl; (repeat' split) <;> (try dsimp only) <;> simp +decide [State.writeStageCtl]; done)

@[simp] theorem State_writeSigCtl_keep (s : State) (path : Path) (x : Word) :
    (State.writeSigCtl s path x).1.keep = s.keep := by
  first
  | (simp +decide [State.writeSigCtl]; done)
  | (unfold State.writeSigCtl; (repeat' split) <;> (try dsimp only) <;> simp +decide [State.writeSigCtl]; done)

@[simp] theorem State_endHerd_keep (s : State) (i : Nat) :
    (State.endHerd s i).keep = s.keep := by
  first
  | (simp +decide [State.endHerd]; done)
  | (unfold State.endHerd; (repeat' split) <;> (try dsimp only) <;> simp +decide [State.endHerd]; done)

@[simp] theorem State_clearBindings_keep (s : State) (p : Nat) : (s.clearBindings p).keep = s.keep := by
  unfold State.clearBindings
  extract_lets mine bound progs s1 s2 here gone s3 s4 s5
  have h1 : s1.keep = s.keep := foldl_keep _ _ _ fun s e => by simp
  have h2 : s2.keep = s1.keep := by simp [s2]
  have hk : (upTo 8).any (fun i => here (PTN_TKEY.word i) 64) = false := by decide
  have h3 : s3.keep = s2.keep := by
    refine onChip_keep _ _ _ fun _ => ?_
    dsimp only
    refine keepIf_ident _ _ fun v => ?_
    simp only [gone, hk]
    simp [here, PTN_ENTRY, POL_MAP_ENTRY, CTX_ENTRY]
  have h4 : s4.keep = s3.keep := by
    refine onChip_keep _ _ _ fun _ => ?_
    dsimp only
    exact mapVals_ident _ _ fun _ => by simp [here, PTN_ROS_MASK]
  rw [← h1, ← h2, ← h3, ← h4]
  simp [s5]

@[simp] theorem State_clearSets_keep (s : State) (p : Nat) :
    (State.clearSets s p).keep = s.keep := by
  first
  | (simp +decide [State.clearSets]; done)
  | (unfold State.clearSets; (repeat' split) <;> (try dsimp only) <;> simp +decide [State.clearSets]; done)

theorem drainEnd_keep (p : Nat) (s : State) :
    (drainEnd p s).keep = s.keep := by
  first
  | (unfold drainEnd; (repeat' split) <;> (try dsimp only) <;> simp +decide [drainEnd]; done)
  | (simp +decide [drainEnd]; done)

@[simp] theorem State_putDigest_keep (s : State) (p : Part) (r : Reg) (d : List Byte) (h : r.page ≠ 0) : (s.putDigest p r d).keep = s.keep :=
  foldl_keep _ _ _ fun s k => by simp [h]

@[simp] theorem State_deriveDevice_keep (s : State) (p : Part) :
    (State.deriveDevice s p).keep = s.keep := by
  first
  | (simp +decide [State.deriveDevice]; done)
  | (unfold State.deriveDevice; (repeat' split) <;> (try dsimp only) <;> simp +decide [State.deriveDevice]; done)

@[simp] theorem State_deriveIdentity_keep (s : State) (p : Part) :
    (State.deriveIdentity s p).keep = s.keep := by
  first
  | (simp +decide [State.deriveIdentity]; done)
  | (unfold State.deriveIdentity; (repeat' split) <;> (try dsimp only) <;> simp +decide [State.deriveIdentity]; done)

@[simp] theorem State_spdmTo_keep (s : State) (p : Part) (who level session : Nat) :
    (State.spdmTo s p who level session).keep = s.keep := by
  first
  | (simp +decide [State.spdmTo]; done)
  | (unfold State.spdmTo; (repeat' split) <;> (try dsimp only) <;> simp +decide [State.spdmTo]; done)

@[simp] theorem State_sbMessage_keep (s : State) :
    (State.sbMessage s).keep = s.keep := by
  first
  | (simp +decide [State.sbMessage]; done)
  | (unfold State.sbMessage; (repeat' split) <;> (try dsimp only) <;> simp +decide [State.sbMessage]; done)

@[simp] theorem State_spdmAnswer_keep (s : State) (p : Part) (who req level : Nat) (session : Option Nat) (key : Bool) (body : State → State × Nat × List Byte) (hbody : ∀  s, (body  s).1.keep = s.keep) :
    (State.spdmAnswer s p who req level session key body).keep = s.keep := by
  first
  | (simp +decide [State.spdmAnswer, hbody]; done)
  | (unfold State.spdmAnswer; (repeat' split) <;> (try dsimp only) <;> simp +decide [State.spdmAnswer, hbody]; done)

theorem spdmGetVersion_keep (p : Part) (who : Nat) (s : State) :
    (spdmGetVersion p who s).keep = s.keep := by
  first
  | (simp +decide [spdmGetVersion]; done)
  | (unfold spdmGetVersion; (repeat' split) <;> (try dsimp only) <;> simp +decide [spdmGetVersion]; done)

theorem spdmGetCapabilities_keep (p : Part) (who : Nat) (s : State) :
    (spdmGetCapabilities p who s).keep = s.keep := by
  first
  | (simp +decide [spdmGetCapabilities]; done)
  | (unfold spdmGetCapabilities; (repeat' split) <;> (try dsimp only) <;> simp +decide [spdmGetCapabilities]; done)

theorem spdmNegotiateAlgorithms_keep (p : Part) (who : Nat) (s : State) :
    (spdmNegotiateAlgorithms p who s).keep = s.keep := by
  first
  | (simp +decide [spdmNegotiateAlgorithms]; done)
  | (unfold spdmNegotiateAlgorithms; (repeat' split) <;> (try dsimp only) <;> simp +decide [spdmNegotiateAlgorithms]; done)

theorem spdmGetDigests_keep (p : Part) (who : Nat) (s : State) :
    (spdmGetDigests p who s).keep = s.keep := by
  first
  | (simp +decide [spdmGetDigests]; done)
  | (unfold spdmGetDigests; (repeat' split) <;> (try dsimp only) <;> simp +decide [spdmGetDigests]; done)

theorem spdmGetCertificate_keep (p : Part) (who slot offset length : Nat) (s : State) :
    (spdmGetCertificate p who slot offset length s).keep = s.keep := by
  first
  | (simp +decide [spdmGetCertificate]; done)
  | (unfold spdmGetCertificate; (repeat' split) <;> (try dsimp only) <;> simp +decide [spdmGetCertificate]; done)

theorem spdmChallenge_keep (p : Part) (who slot : Nat) (nonce : List Byte) (s : State) :
    (spdmChallenge p who slot nonce s).keep = s.keep := by
  first
  | (simp +decide [spdmChallenge]; done)
  | (unfold spdmChallenge; (repeat' split) <;> (try dsimp only) <;> simp +decide [spdmChallenge]; done)

theorem spdmGetMeasurements_keep (p : Part) (who index : Nat) (raw : Bool) (nonce : List Byte) (s : State) :
    (spdmGetMeasurements p who index raw nonce s).keep = s.keep := by
  first
  | (simp +decide [spdmGetMeasurements]; done)
  | (unfold spdmGetMeasurements; (repeat' split) <;> (try dsimp only) <;> simp +decide [spdmGetMeasurements]; done)

theorem spdmKeyExchange_keep (p : Part) (who : Nat) (exchange : List Byte) (s : State) :
    (spdmKeyExchange p who exchange s).keep = s.keep := by
  first
  | (simp +decide [spdmKeyExchange]; done)
  | (unfold spdmKeyExchange; (repeat' split) <;> (try dsimp only) <;> simp +decide [spdmKeyExchange]; done)

theorem spdmFinish_keep (p : Part) (who : Nat) (right : Bool) (s : State) :
    (spdmFinish p who right s).keep = s.keep := by
  first
  | (simp +decide [spdmFinish]; done)
  | (unfold spdmFinish; (repeat' split) <;> (try dsimp only) <;> simp +decide [spdmFinish]; done)

theorem spdmEndSession_keep (p : Part) (who : Nat) (s : State) :
    (spdmEndSession p who s).keep = s.keep := by
  first
  | (simp +decide [spdmEndSession]; done)
  | (unfold spdmEndSession; (repeat' split) <;> (try dsimp only) <;> simp +decide [spdmEndSession]; done)

theorem spdmVendorDefined_keep (p : Part) (who : Nat) (ide : Option (Nat × Bool)) (s : State) :
    (spdmVendorDefined p who ide s).keep = s.keep := by
  first
  | (unfold spdmVendorDefined; (repeat' split) <;> (try dsimp only) <;> simp +decide [spdmVendorDefined]; done)
  | (simp +decide [spdmVendorDefined]; done)

theorem spdmRefusedRequest_keep (p : Part) (who : Nat) (s : State) :
    (spdmRefusedRequest p who s).keep = s.keep := by
  first
  | (simp +decide [spdmRefusedRequest]; done)
  | (unfold spdmRefusedRequest; (repeat' split) <;> (try dsimp only) <;> simp +decide [spdmRefusedRequest]; done)

@[simp] theorem State_onFw_keep (s : State) (f : Fw → Fw) :
    (State.onFw s f).keep = s.keep := by
  first
  | (simp +decide [State.onFw]; done)
  | (unfold State.onFw; (repeat' split) <;> (try dsimp only) <;> simp +decide [State.onFw]; done)

@[simp] theorem State_setCpu_keep (s : State) (c v : Nat) :
    (State.setCpu s c v).keep = s.keep := by
  first
  | (simp +decide [State.setCpu]; done)
  | (unfold State.setCpu; (repeat' split) <;> (try dsimp only) <;> simp +decide [State.setCpu]; done)

@[simp] theorem State_pet_keep (s : State) (c : Nat) :
    (State.pet s c).keep = s.keep := by
  first
  | (simp +decide [State.pet]; done)
  | (unfold State.pet; (repeat' split) <;> (try dsimp only) <;> simp +decide [State.pet]; done)

@[simp] theorem State_cpuRuns_keep (s : State) (c : Nat) :
    (State.cpuRuns s c).keep = s.keep := by
  first
  | (simp +decide [State.cpuRuns]; done)
  | (unfold State.cpuRuns; (repeat' split) <;> (try dsimp only) <;> simp +decide [State.cpuRuns]; done)

@[simp] theorem State_showFw_keep (s : State) :
    (State.showFw s).keep = s.keep := by
  first
  | (simp only [State.showFw]; (repeat' split) <;> simp +decide [State.showFw]; done)
  | (unfold State.showFw; (repeat' split) <;> (try dsimp only) <;> simp +decide [State.showFw]; done)

@[simp] theorem State_fwChanged_keep (s : State) :
    (State.fwChanged s).keep = s.keep := by
  first
  | (simp +decide [State.fwChanged]; done)
  | (unfold State.fwChanged; (repeat' split) <;> (try dsimp only) <;> simp +decide [State.fwChanged]; done)

@[simp] theorem State_actTo_keep (s : State) (v : Nat) :
    (State.actTo s v).keep = s.keep := by
  first
  | (simp +decide [State.actTo]; done)
  | (unfold State.actTo; (repeat' split) <;> (try dsimp only) <;> simp +decide [State.actTo]; done)

@[simp] theorem State_mbDone_keep (s : State) (status : Nat) :
    (State.mbDone s status).keep = s.keep := by
  first
  | (simp +decide [State.mbDone]; done)
  | (unfold State.mbDone; (repeat' split) <;> (try dsimp only) <;> simp +decide [State.mbDone]; done)

@[simp] theorem State_mbRsp_keep (s : State) (k v : Nat) :
    (State.mbRsp s k v).keep = s.keep := by
  first
  | (simp +decide [State.mbRsp]; done)
  | (unfold State.mbRsp; (repeat' split) <;> (try dsimp only) <;> simp +decide [State.mbRsp]; done)

@[simp] theorem State_stageEnd_keep (s : State) (status : Nat) :
    (State.stageEnd s status).keep = s.keep := by
  first
  | (simp only [State.stageEnd]; (repeat' split) <;> simp +decide [State.stageEnd]; done)
  | (unfold State.stageEnd; (repeat' split) <;> (try dsimp only) <;> simp +decide [State.stageEnd]; done)

@[simp] theorem State_abandonTacks_keep (s : State) :
    (State.abandonTacks s).keep = s.keep := by
  first
  | (simp +decide [State.abandonTacks]; done)
  | (unfold State.abandonTacks; (repeat' split) <;> (try dsimp only) <;> simp +decide [State.abandonTacks]; done)

@[simp] theorem State_cpuLeaves_keep (s : State) (c : Nat) :
    (State.cpuLeaves s c).keep = s.keep := by
  first
  | (unfold State.cpuLeaves; (repeat' split) <;> (try dsimp only) <;> simp +decide [State.cpuLeaves]; done)
  | (simp +decide [State.cpuLeaves]; done)

@[simp] theorem State_takeOver_keep (s : State) :
    (State.takeOver s).keep = s.keep := by
  first
  | (simp +decide [State.takeOver]; done)
  | (unfold State.takeOver; (repeat' split) <;> (try dsimp only) <;> simp +decide [State.takeOver]; done)

@[simp] theorem State_firmwareMeasured_keep (s : State) :
    (State.firmwareMeasured s).keep = s.keep := by
  first
  | (simp +decide [State.firmwareMeasured]; done)
  | (unfold State.firmwareMeasured; (repeat' split) <;> (try dsimp only) <;> simp +decide [State.firmwareMeasured]; done)

@[simp] theorem State_cpusRestart_keep (s : State) :
    (State.cpusRestart s).keep = s.keep := by
  first
  | (simp +decide [State.cpusRestart]; done)
  | (unfold State.cpusRestart; (repeat' split) <;> (try dsimp only) <;> simp +decide [State.cpusRestart]; done)

@[simp] theorem State_revert_keep (s : State) :
    (State.revert s).keep = s.keep := by
  first
  | (simp +decide [State.revert]; done)
  | (unfold State.revert; (repeat' split) <;> (try dsimp only) <;> simp +decide [State.revert]; done)

@[simp] theorem State_wdtEvent_keep (s : State) (c : Nat) :
    (State.wdtEvent s c).keep = s.keep := by
  first
  | (simp +decide [State.wdtEvent]; done)
  | (unfold State.wdtEvent; (repeat' split) <;> (try dsimp only) <;> simp +decide [State.wdtEvent]; done)

@[simp] theorem State_confirm_keep (s : State) :
    (State.confirm s).keep = s.keep := by
  first
  | (simp +decide [State.confirm]; done)
  | (unfold State.confirm; (repeat' split) <;> (try dsimp only) <;> simp +decide [State.confirm]; done)

@[simp] theorem trialConfirmTimer_keep (s : State) :
    (trialConfirmTimer s).keep = s.keep := by
  first
  | (unfold trialConfirmTimer; (repeat' split) <;> (try dsimp only) <;> simp +decide [trialConfirmTimer]; done)
  | (simp +decide [trialConfirmTimer]; done)

@[simp] theorem watchdogExpiry_keep (c : Nat) (s : State) : (watchdogExpiry c s).keep = s.keep := by
  unfold watchdogExpiry
  extract_lets now s1 recent s2 s3
  have h1 : s1.keep = s.keep := by simp [s1]
  have h2 : s2.keep = s1.keep := by simp [s2]
  have h3 : s3.keep = s2.keep := by simp [s3]
  clear_value s3 s2 s1 now recent
  split
  · rfl
  · split
    · simp [h1, h2, h3]
    · (repeat' split) <;> simp +zetaDelta [h1, h2, h3]

theorem wdtPet_keep (c mask : Nat) (s : State) :
    (wdtPet c mask s).keep = s.keep := by
  unfold wdtPet; repeat' (first | (simp +decide [wdtPet]; done) | (intros; split) | (intros; first | refine Eq.trans (foldl_keep _ _ _ fun _ _ => ?_) ?_ | refine Eq.trans (foldl_fst_keep _ _ _ fun _ _ => ?_) ?_ | refine Eq.trans (when_keep _ _ _ ?_) ?_) | dsimp only | simp +decide [wdtPet])

theorem secWatchdogExpiry_keep (p : Part) (s : State) :
    (secWatchdogExpiry p s).keep = s.keep := by
  first
  | (unfold secWatchdogExpiry; (repeat' split) <;> (try dsimp only) <;> simp +decide [secWatchdogExpiry]; done)
  | (simp +decide [secWatchdogExpiry]; done)

theorem coreRestartDone_keep (c : Nat) (s : State) :
    (coreRestartDone c s).keep = s.keep := by
  first
  | (simp +decide [coreRestartDone]; done)
  | (unfold coreRestartDone; (repeat' split) <;> (try dsimp only) <;> simp +decide [coreRestartDone]; done)

@[simp] theorem State_orphanHost_keep (s : State) : s.orphanHost.keep = s.keep := by
  unfold State.orphanHost
  extract_lets cs now s1 s2 s3 s4
  have h1 : s1.keep = s.keep := by simp [s1, MGT_FEAT, MGT_HB_STS_ARMED, MGT_HB_STS]
  have h2 : s2.keep = s1.keep := by simp [s2, MGT_HB_STS_MISSES, MGT_HB_STS_ORPHANED, MGT_HB_STS]
  have h3 : s3.keep = s2.keep := foldl_keep _ _ _ fun s c => by split <;> simp [CTX_STS_ORPHANED, CTX_STS_QUIESCED, CTX_STS]
  have h4 : s4.keep = s3.keep := by simp [s4]
  clear_value s4
  rw [← h1, ← h2, ← h3, ← h4]
  (repeat' split) <;> simp

@[simp] theorem State_windowClose_keep (s : State) :
    (State.windowClose s).keep = s.keep := by
  first
  | (simp only [State.windowClose]; (repeat' split) <;> simp +decide [State.windowClose]; done)
  | (unfold State.windowClose; (repeat' split) <;> (try dsimp only) <;> simp +decide [State.windowClose]; done)

@[simp] theorem State_hbFresh_keep (s : State) :
    (State.hbFresh s).keep = s.keep := by
  first
  | (simp +decide [State.hbFresh]; done)
  | (unfold State.hbFresh; (repeat' split) <;> (try dsimp only) <;> simp +decide [State.hbFresh]; done)

@[simp] theorem State_beatW_keep (s : State) (id : Nat) :
    (State.beatW s id).1.keep = s.keep := by
  first
  | (simp +decide [State.beatW]; done)
  | (unfold State.beatW; (repeat' split) <;> (try dsimp only) <;> simp +decide [State.beatW]; done)

@[simp] theorem State_strayBeat_keep (s : State) (path : Path) (p : Part) (page off : Nat) :
    (State.strayBeat s path p page off).keep = s.keep := by
  first
  | (simp +decide [State.strayBeat]; done)
  | (unfold State.strayBeat; (repeat' split) <;> (try dsimp only) <;> simp +decide [State.strayBeat]; done)

theorem hbBeat_keep (path : Path) (id : Nat) (s : State) :
    (hbBeat path id s).keep = s.keep := by
  first
  | (simp +decide [hbBeat]; done)
  | (unfold hbBeat; (repeat' split) <;> (try dsimp only) <;> simp +decide [hbBeat]; done)

@[simp] theorem State_doHello_keep (s : State) :
    (State.doHello s).keep = s.keep := by
  first
  | (simp +decide [State.doHello]; done)
  | (unfold State.doHello; (repeat' split) <;> (try dsimp only) <;> simp +decide [State.doHello]; done)

@[simp] theorem State_doGoodbye_keep (s : State) :
    (State.doGoodbye s).keep = s.keep := by
  first
  | (simp +decide [State.doGoodbye]; done)
  | (unfold State.doGoodbye; (repeat' split) <;> (try dsimp only) <;> simp +decide [State.doGoodbye]; done)

@[simp] theorem State_reclaim_keep (s : State) (reset : Bool) :
    (State.reclaim s reset).keep = s.keep := by
  first
  | (unfold State.reclaim; (repeat' split) <;> (try dsimp only) <;> simp +decide [State.reclaim]; done)
  | (simp +decide [State.reclaim]; done)

theorem contextQuiesce_keep (s : State) :
    (contextQuiesce s).keep = s.keep := by
  first
  | (simp +decide [contextQuiesce]; done)
  | (unfold contextQuiesce; (repeat' split) <;> (try dsimp only) <;> simp +decide [contextQuiesce]; done)

@[simp] theorem State_activate_keep (s : State) :
    (State.activate s).1.keep = s.keep := by
  first
  | (simp +decide [State.activate]; done)
  | (unfold State.activate; (repeat' split) <;> (try dsimp only) <;> simp +decide [State.activate]; done)

@[simp] theorem State_cancelAct_keep (s : State) :
    (State.cancelAct s).1.keep = s.keep := by
  first
  | (simp +decide [State.cancelAct]; done)
  | (unfold State.cancelAct; (repeat' split) <;> (try dsimp only) <;> simp +decide [State.cancelAct]; done)

theorem activationP0WaitExpiry_keep (s : State) :
    (activationP0WaitExpiry s).keep = s.keep := by
  first
  | (simp +decide [activationP0WaitExpiry]; done)
  | (unfold activationP0WaitExpiry; (repeat' split) <;> (try dsimp only) <;> simp +decide [activationP0WaitExpiry]; done)

@[simp] theorem safePointTimeout_keep (s : State) :
    (safePointTimeout s).keep = s.keep := by
  first
  | (simp +decide [safePointTimeout]; done)
  | (unfold safePointTimeout; (repeat' split) <;> (try dsimp only) <;> simp +decide [safePointTimeout]; done)

@[simp] theorem State_runStaged_keep (s : State) :
    (State.runStaged s).keep = s.keep := by
  first
  | (simp +decide [State.runStaged]; done)
  | (unfold State.runStaged; (repeat' split) <;> (try dsimp only) <;> simp +decide [State.runStaged]; done)

@[simp] theorem safePointReached_keep (s : State) : (safePointReached s).keep = s.keep := by
  unfold safePointReached
  extract_lets s1
  have h1 : s1.keep = s.keep := by simp [s1]
  clear_value s1
  split <;> simp [h1]

@[simp] theorem State_tackAll_keep (s : State) :
    (State.tackAll s).keep = s.keep := by
  first
  | (simp +decide [State.tackAll]; done)
  | (unfold State.tackAll; (repeat' split) <;> (try dsimp only) <;> simp +decide [State.tackAll]; done)

theorem imageRestartDone_keep (s : State) :
    (imageRestartDone s).keep = s.keep := by
  first
  | (unfold imageRestartDone; (repeat' split) <;> (try dsimp only) <;> simp +decide [imageRestartDone]; done)
  | (simp +decide [imageRestartDone]; done)

theorem imageRestartTimeout_keep (s : State) :
    (imageRestartTimeout s).keep = s.keep := by
  first
  | (simp +decide [imageRestartTimeout]; done)
  | (unfold imageRestartTimeout; (repeat' split) <;> (try dsimp only) <;> simp +decide [imageRestartTimeout]; done)

@[simp] theorem State_confirmW_keep (s : State) :
    (State.confirmW s).1.keep = s.keep := by
  first
  | (simp +decide [State.confirmW]; done)
  | (unfold State.confirmW; (repeat' split) <;> (try dsimp only) <;> simp +decide [State.confirmW]; done)

theorem fwConfirmWrite_keep (s : State) :
    (fwConfirmWrite s).keep = s.keep := by
  first
  | (simp +decide [fwConfirmWrite]; done)
  | (unfold fwConfirmWrite; (repeat' split) <;> (try dsimp only) <;> simp +decide [fwConfirmWrite]; done)

@[simp] theorem State_doStage_keep (s : State) :
    (State.doStage s).keep = s.keep := by
  first
  | (simp +decide [State.doStage]; done)
  | (unfold State.doStage; (repeat' split) <;> (try dsimp only) <;> simp +decide [State.doStage]; done)

@[simp] theorem State_mailbox_keep (s : State) (op : Nat) :
    (State.mailbox s op).1.keep = s.keep := by
  first
  | (simp +decide [State.mailbox]; done)
  | (unfold State.mailbox; (repeat' split) <;> (try dsimp only) <;> simp +decide [State.mailbox]; done)

@[simp] theorem State_mbWrite_keep (s : State) (op : Nat) :
    (State.mbWrite s op).keep = s.keep := by
  first
  | (simp +decide [State.mbWrite]; done)
  | (unfold State.mbWrite; (repeat' split) <;> (try dsimp only) <;> simp +decide [State.mbWrite]; done)

theorem hello_keep (s : State) :
    (hello s).keep = s.keep := by
  first
  | (simp +decide [hello]; done)
  | (unfold hello; (repeat' split) <;> (try dsimp only) <;> simp +decide [hello]; done)

theorem goodbye_keep (s : State) :
    (goodbye s).keep = s.keep := by
  first
  | (simp +decide [goodbye]; done)
  | (unfold goodbye; (repeat' split) <;> (try dsimp only) <;> simp +decide [goodbye]; done)

theorem ctxReclaim_keep (s : State) :
    (ctxReclaim s).keep = s.keep := by
  first
  | (simp +decide [ctxReclaim]; done)
  | (unfold ctxReclaim; (repeat' split) <;> (try dsimp only) <;> simp +decide [ctxReclaim]; done)

theorem ctxReset_keep (s : State) :
    (ctxReset s).keep = s.keep := by
  first
  | (simp +decide [ctxReset]; done)
  | (unfold ctxReset; (repeat' split) <;> (try dsimp only) <;> simp +decide [ctxReset]; done)

theorem fwStage_keep (s : State) :
    (fwStage s).keep = s.keep := by
  first
  | (simp +decide [fwStage]; done)
  | (unfold fwStage; (repeat' split) <;> (try dsimp only) <;> simp +decide [fwStage]; done)

theorem fwActivate_keep (s : State) :
    (fwActivate s).keep = s.keep := by
  first
  | (simp +decide [fwActivate]; done)
  | (unfold fwActivate; (repeat' split) <;> (try dsimp only) <;> simp +decide [fwActivate]; done)

theorem fwCancel_keep (s : State) :
    (fwCancel s).keep = s.keep := by
  first
  | (simp +decide [fwCancel]; done)
  | (unfold fwCancel; (repeat' split) <;> (try dsimp only) <;> simp +decide [fwCancel]; done)

theorem fwConfirm_keep (s : State) :
    (fwConfirm s).keep = s.keep := by
  first
  | (simp +decide [fwConfirm]; done)
  | (unfold fwConfirm; (repeat' split) <;> (try dsimp only) <;> simp +decide [fwConfirm]; done)

theorem stagingDone_keep (img : List Byte) (s : State) :
    (stagingDone img s).keep = s.keep := by
  first
  | (simp only [stagingDone]; (repeat' split) <;> simp +decide [stagingDone]; done)
  | (unfold stagingDone; (repeat' split) <;> (try dsimp only) <;> simp +decide [stagingDone]; done)

@[simp] theorem State_pldmReq_keep (s : State) (req : Nat) (loader : Bool) (f : State → State) (hf : ∀  s, (f  s).keep = s.keep) :
    (State.pldmReq s req loader f).keep = s.keep := by
  first
  | (simp only [State.pldmReq]; (repeat' split) <;> simp +decide [State.pldmReq, hf]; done)
  | (unfold State.pldmReq; (repeat' split) <;> (try dsimp only) <;> simp +decide [State.pldmReq, hf]; done)

theorem pldmFwUpdate_keep (len : Nat) (s : State) :
    (pldmFwUpdate len s).keep = s.keep := by
  first
  | (simp +decide [pldmFwUpdate]; done)
  | (unfold pldmFwUpdate; (repeat' split) <;> (try dsimp only) <;> simp +decide [pldmFwUpdate]; done)

theorem pldmActivateFirmware_keep (s : State) :
    (pldmActivateFirmware s).keep = s.keep := by
  first
  | (simp +decide [pldmActivateFirmware]; done)
  | (unfold pldmActivateFirmware; (repeat' split) <;> (try dsimp only) <;> simp +decide [pldmActivateFirmware]; done)

theorem pldmCancelUpdate_keep (s : State) :
    (pldmCancelUpdate s).keep = s.keep := by
  first
  | (simp +decide [pldmCancelUpdate]; done)
  | (unfold pldmCancelUpdate; (repeat' split) <;> (try dsimp only) <;> simp +decide [pldmCancelUpdate]; done)

theorem i3cAddressAssign_keep (addr : Nat) (s : State) :
    (i3cAddressAssign addr s).keep = s.keep := by
  first
  | (simp +decide [i3cAddressAssign]; done)
  | (unfold i3cAddressAssign; (repeat' split) <;> (try dsimp only) <;> simp +decide [i3cAddressAssign]; done)

theorem mctpControl_keep (intact : Bool) (s : State) :
    (mctpControl intact s).keep = s.keep := by
  first
  | (simp +decide [mctpControl]; done)
  | (unfold mctpControl; (repeat' split) <;> (try dsimp only) <;> simp +decide [mctpControl]; done)

theorem pldmMonitoring_keep (s : State) :
    (pldmMonitoring s).keep = s.keep := by
  first
  | (simp +decide [pldmMonitoring]; done)
  | (unfold pldmMonitoring; (repeat' split) <;> (try dsimp only) <;> simp +decide [pldmMonitoring]; done)

end Sys2Proof.Machine
end

