-- ==== Sys2Proof/Laws/FixedReset.lean ====
section
/-! SUPPORT. Every operation of resets, register accesses and the clock leaves the identification words and the queue as they were. -/

set_option Elab.async false
set_option linter.all false

namespace Sys2Proof.Machine

theorem State_resetChip_keep (s : State) (p : Part) (regs : RegFile) (cold held : Bool) (step : Nat)
    (h : regs.read GLB_ID 0 0 = (s.chip p).regs.read GLB_ID 0 0) : (s.resetChip p regs cold held step).keep = s.keep := by
  exact onChip_keep_at _ _ _ h

@[simp] theorem State_resetSw_keep (s : State) (cold : Bool) :
    (State.resetSw s cold).keep = s.keep := by
  first
  | (simp +decide [State.resetSw]; done)
  | (unfold State.resetSw; (repeat' split) <;> (try dsimp only) <;> simp +decide [State.resetSw]; done)

@[simp] theorem State_resetHidden_keep (s : State) (p : Part) (cold : Bool) :
    (State.resetHidden s p cold).keep = s.keep := by
  first
  | (unfold State.resetHidden; (repeat' split) <;> (try dsimp only) <;> simp +decide [State.resetHidden]; done)
  | (simp +decide [State.resetHidden]; done)

@[simp] theorem State_toStep_keep (s : State) (p : Part) (n : Nat) :
    (State.toStep s p n).keep = s.keep := by
  first
  | (simp +decide [State.toStep]; done)
  | (unfold State.toStep; (repeat' split) <;> (try dsimp only) <;> simp +decide [State.toStep]; done)

theorem coldRegs_ident (s : State) (p : Part) : (s.coldRegs p).read GLB_ID 0 0 = (s.chip p).regs.read GLB_ID 0 0 := by
  cases p
  · simp only [State.coldRegs]
    rw [copyReg_ident _ _ _ _ (by decide), copyReg_ident _ _ _ _ (by decide), copyReg_ident _ _ _ _ (by decide), fixed_ident]
  · exact fixed_ident _ _

theorem spares_ident (l : List Nat) (old f : RegFile) : (l.foldl (fun f n => copyInst HBM_SPARES n 0xFFFF old f) f).read GLB_ID 0 0 = f.read GLB_ID 0 0 := by
  induction l generalizing f with
  | nil => rfl
  | cons n l ih =>
    rw [List.foldl_cons, ih]
    exact ident_write _ _ _ _ _ (by decide)

theorem warmRegs_ident (s : State) (p : Part) : (s.warmRegs p).read GLB_ID 0 0 = (s.chip p).regs.read GLB_ID 0 0 := by
  cases p
  · simp only [State.warmRegs]
    rw [copyReg_ident _ _ _ _ (by decide), spares_ident, fixed_over_ident]
  · simp only [State.warmRegs]
    rw [copyReg_ident _ _ _ _ (by decide), copyReg_ident _ _ _ _ (by decide), fixed_over_ident]

@[simp] theorem State_coldReset_keep (s : State) (p : Part) : (s.coldReset p).keep = s.keep := by
  unfold State.coldReset
  extract_lets s1 regs s2
  have h1 : s1.keep = s.keep := by simp [s1]
  have h2 : s2.keep = s1.keep := by
    simp only [s2, State_resetHidden_keep]
    exact State_resetChip_keep _ _ _ _ _ _ (coldRegs_ident _ _)
  rw [when_keep _ _ _ (by simp [SBP_STS_MAIN_UP, SBP_STS]), h2, h1]

@[simp] theorem State_warmReset_keep (s : State) (p : Part) (cause : Nat) : (s.warmReset p cause).keep = s.keep := by
  cases p
  · have h2 : ∀ t : State, ((t.resetChip .sw (t.warmRegs .sw) false false 4).resetSw false).keep = t.keep := by
      intro t
      rw [State_resetSw_keep]
      exact State_resetChip_keep _ _ _ _ _ _ (warmRegs_ident _ _)
    simp only [State.warmReset]
    simp [h2, RST_CAUSE_LAST, RST_CAUSE, RST_CAUSE_WARM_COUNT, RST_STS_LAST_LEVEL, RST_STS, GLB_SWITCH_GROUP_ACTIVE, GLB_SWITCH_GROUP,
      GLB_SWITCH_GROUP_PENDING, GLB_LAYOUT_ACTIVE_X4, GLB_LAYOUT, GLB_LAYOUT_PENDING, GLB_STS_MAIN_UP, GLB_STS, SBP_STS_FW_UP, SBP_STS]
  · simp only [State.warmReset]
    rw [put_keep _ _ _ _ _ _ (by decide), State_resetHidden_keep]
    rw [State_resetChip_keep _ _ _ _ _ _ (warmRegs_ident _ _)]
    simp

@[simp] theorem State_toL7_keep (s : State) (p : Part) (cause : Nat) (page : Nat) :
    (State.toL7 s p cause page).keep = s.keep := by
  first
  | (simp +decide [State.toL7]; done)
  | (unfold State.toL7; (repeat' split) <;> (try dsimp only) <;> simp +decide [State.toL7]; done)

@[simp] theorem State_stopMain_keep (s : State) (p : Part) : (s.stopMain p).keep = s.keep := by
  unfold State.stopMain
  extract_lets s1 old kept regs1 regs s2 s3
  have h1 : s1.keep = s.keep := by simp [s1]
  have hr : regs.read GLB_ID 0 0 = (s1.chip p).regs.read GLB_ID 0 0 := by
    simp only [regs]
    split
    · rw [copyReg_ident _ _ _ _ (by decide), copyReg_ident _ _ _ _ (by decide)]; exact fixed_over_ident _ _ _
    · exact fixed_over_ident _ _ _
  have h2 : s2.keep = s1.keep := by
    simp only [s2]
    exact onChip_keep_at _ _ _ hr
  have h3 : s3.keep = s2.keep := State_resetHidden_keep _ _ _
  rw [when_keep _ _ _ (by simp [SBP_STS_FW_UP, SBP_STS]), h3, h2, h1]

theorem standbyPowerOn_keep (p : Part) (samples : List Nat) (s : State) :
    (standbyPowerOn p samples s).keep = s.keep := by
  first
  | (unfold standbyPowerOn; (repeat' split) <;> (try dsimp only) <;> simp +decide [standbyPowerOn]; done)
  | (simp +decide [standbyPowerOn]; done)

@[simp] theorem standbyPowerOff_keep (p : Part) (s : State) : (standbyPowerOff p s).keep = s.keep := by
  unfold standbyPowerOff
  split
  · rfl
  · refine onChip_keep_at _ _ _ ?_
    have h := fixed_ident s p
    dsimp only
    exact h

theorem mainRailsLost_keep (p : Part) (s : State) :
    (mainRailsLost p s).keep = s.keep := by
  first
  | (simp +decide [mainRailsLost]; done)
  | (unfold mainRailsLost; (repeat' split) <;> (try dsimp only) <;> simp +decide [mainRailsLost]; done)

theorem mainRailsOn_keep (p : Part) (s : State) :
    (mainRailsOn p s).keep = s.keep := by
  first
  | (simp +decide [mainRailsOn]; done)
  | (unfold mainRailsOn; (repeat' split) <;> (try dsimp only) <;> simp +decide [mainRailsOn]; done)

@[simp] theorem State_begin_keep (s : State) (p : Part) (samples : List Nat) :
    (State.begin s p samples).keep = s.keep := by
  first
  | (unfold State.begin; (repeat' split) <;> (try dsimp only) <;> simp +decide [State.begin]; done)
  | (simp +decide [State.begin]; done)

theorem resetRelease_keep (p : Part) (samples : List Nat) (s : State) :
    (resetRelease p samples s).keep = s.keep := by
  first
  | (simp +decide [resetRelease]; done)
  | (unfold resetRelease; (repeat' split) <;> (try dsimp only) <;> simp +decide [resetRelease]; done)

@[simp] theorem State_beginTack_keep (s : State) : s.beginTack.keep = s.keep := by
  unfold State.beginTack
  extract_lets s1 s2 s3
  have h1 : s1.keep = s.keep := by simp [s1, GLB_SWITCH_GROUP_ACTIVE, GLB_SWITCH_GROUP, GLB_SWITCH_GROUP_PENDING]
  have h2 : s2.keep = s1.keep := when_keep _ _ _ (onChip_keep _ _ _ fun _ => by
    dsimp only
    exact keepIf_ident _ _ fun _ => by decide)
  have h3 : s3.keep = s2.keep := by simp [s3, GLB_LAYOUT_ACTIVE_X4, GLB_LAYOUT, GLB_LAYOUT_PENDING]
  clear_value s3 s2 s1
  simp [h1, h2, h3]

@[simp] theorem State_boots_keep (s : State) (kind : Nat) (b : Nat × Bool) :
    (State.boots s kind b).keep = s.keep := by
  first
  | (simp +decide [State.boots]; done)
  | (unfold State.boots; (repeat' split) <;> (try dsimp only) <;> simp +decide [State.boots]; done)

@[simp] theorem State_applyImage_keep (s : State) (c : CfgImage) : (s.applyImage c).keep = s.keep := by
  unfold State.applyImage
  extract_lets held take s1 s2 s3 s4 s5
  have h1 : s1.keep = s.keep := by
    refine onChip_keep _ _ _ fun x => fold_insert_ident _ _ fun e he => ?_
    have := (List.mem_filter.mp he).2
    intro h
    rw [h] at this
    revert this
    have hk : imageKey 64 = false := by decide
    simp [hk]
  have h2 : s2.keep = s1.keep := by simp [s2, DCT_SEQ]
  have h3 : s3.keep = s2.keep := foldl_keep _ _ _ fun s c => by simp [HDR_LOCK_SEQ_LOW, HDR_LOCK]
  have h4 : s4.keep = s3.keep := foldl_keep _ _ _ fun s c => by split <;> simp [POL_PTN_STS_STATE, POL_PTN_STS]
  have h5 : s5.keep = s4.keep := foldl_keep _ _ _ fun s c => by split <;> simp [DIR_AGT_STS_STATE, DIR_AGT_STS]
  rw [← h1, ← h2, ← h3, ← h4, ← h5]
  simp

theorem State_loadImage_keep (s t : State) (ok : Bool) (h : s.loadImage ok = some t) : t.keep = s.keep := by
  unfold State.loadImage at h
  dsimp only at h
  (repeat' split at h) <;> simp only [Option.some.injEq, reduceCtorEq] at h
  · rw [← h]
  · rw [← h]; simp [DCT_STS_IMG_FAIL, DCT_STS]
  · rw [← h, foldl_keep _ _ _ fun s c => by simp [CTX_STS]]; simp

@[simp] theorem State_trainHbm_keep (s : State) (bad : List Nat) :
    (State.trainHbm s bad).keep = s.keep := by
  first
  | (simp +decide [State.trainHbm]; done)
  | (unfold State.trainHbm; (repeat' split) <;> (try dsimp only) <;> simp +decide [State.trainHbm]; done)

@[simp] theorem State_bringUpBulk_keep (s : State) :
    (State.bringUpBulk s).keep = s.keep := by
  first
  | (simp +decide [State.bringUpBulk]; done)
  | (unfold State.bringUpBulk; (repeat' split) <;> (try dsimp only) <;> simp +decide [State.bringUpBulk]; done)

@[simp] theorem State_enterTen_keep (s : State) :
    (State.enterTen s).keep = s.keep := by
  first
  | (simp only [State.enterTen]; (repeat' split) <;> simp +decide [State.enterTen]; done)
  | (unfold State.enterTen; (repeat' split) <;> (try dsimp only) <;> simp +decide [State.enterTen]; done)

@[simp] theorem startupStepDone_keep (bad : List Nat) (ok : Bool) (s : State) : (startupStepDone bad ok s).keep = s.keep := by
  have hf : ∀ t : State, ((upTo 64).foldl (fun s c => (s.put .sw RDC_STS_STATE 2 0 c).put .sw RDC_SELFTEST_STS_BUSY 1 0 c) t).keep = t.keep :=
    fun t => foldl_keep _ _ _ fun s c => by simp [RDC_STS_STATE, RDC_STS, RDC_SELFTEST_STS_BUSY, RDC_SELFTEST_STS]
  have hc : ∀ t : State, ((upTo 4).foldl State.cpuRuns t).keep = t.keep := fun t => foldl_keep _ _ _ fun s c => by simp
  unfold startupStepDone
  dsimp only
  (repeat' split) <;> first
    | rfl
    | (rename_i h; rw [State_readyCheck_keep, State_toStep_keep]; exact State_loadImage_keep _ _ _ h)
    | simp [hf, hc, CLK_STS_REF_PRESENT, CLK_STS_PLL_LOCK, CLK_STS, MGT_FW_STS_FUSED_SVN, MGT_FW_STS, MGT_CORE_STS_SECURITY, MGT_CORE_STS_RECOVERY, MGT_CORE_STS, SEC_DEVID, SEC_ALIAS]

@[simp] theorem State_setGroup_keep (s : State) (x : Word) :
    (State.setGroup s x).1.keep = s.keep := by
  first
  | (simp only [State.setGroup]; (repeat' split) <;> simp +decide [State.setGroup]; done)
  | (unfold State.setGroup; (repeat' split) <;> (try dsimp only) <;> simp +decide [State.setGroup]; done)

theorem switchGroupWrite_keep (path : Path) (x : Word) (s : State) :
    (switchGroupWrite path x s).keep = s.keep := by
  first
  | (simp +decide [switchGroupWrite]; done)
  | (unfold switchGroupWrite; (repeat' split) <;> (try dsimp only) <;> simp +decide [switchGroupWrite]; done)

@[simp] theorem State_setLayout_keep (s : State) (x : Word) :
    (State.setLayout s x).1.keep = s.keep := by
  first
  | (simp only [State.setLayout]; (repeat' split) <;> simp +decide [State.setLayout]; done)
  | (unfold State.setLayout; (repeat' split) <;> (try dsimp only) <;> simp +decide [State.setLayout]; done)

theorem layoutWrite_keep (path : Path) (x : Word) (s : State) :
    (layoutWrite path x s).keep = s.keep := by
  first
  | (simp +decide [layoutWrite]; done)
  | (unfold layoutWrite; (repeat' split) <;> (try dsimp only) <;> simp +decide [layoutWrite]; done)

theorem endpointStartupStepDone_keep (modules : Nat) (s : State) :
    (endpointStartupStepDone modules s).keep = s.keep := by
  first
  | (unfold endpointStartupStepDone; (repeat' split) <;> (try dsimp only) <;> simp +decide [endpointStartupStepDone]; done)
  | (simp +decide [endpointStartupStepDone]; done)

theorem rstNPulse_keep (p : Part) (ns : Nat) (s : State) :
    (rstNPulse p ns s).keep = s.keep := by
  first
  | (simp +decide [rstNPulse]; done)
  | (unfold rstNPulse; (repeat' split) <;> (try dsimp only) <;> simp +decide [rstNPulse]; done)

@[simp] theorem State_rstColdW_keep (s : State) (path : Path) :
    (State.rstColdW s path).1.keep = s.keep := by
  first
  | (simp +decide [State.rstColdW]; done)
  | (unfold State.rstColdW; (repeat' split) <;> (try dsimp only) <;> simp +decide [State.rstColdW]; done)

theorem rstCold_keep (path : Path) (s : State) :
    (rstCold path s).keep = s.keep := by
  first
  | (simp +decide [rstCold]; done)
  | (unfold rstCold; (repeat' split) <;> (try dsimp only) <;> simp +decide [rstCold]; done)

@[simp] theorem State_rstWarmW_keep (s : State) :
    (State.rstWarmW s).1.keep = s.keep := by
  first
  | (simp +decide [State.rstWarmW]; done)
  | (unfold State.rstWarmW; (repeat' split) <;> (try dsimp only) <;> simp +decide [State.rstWarmW]; done)

theorem rstWarm_keep (path : Path) (s : State) :
    (rstWarm path s).keep = s.keep := by
  first
  | (simp +decide [rstWarm]; done)
  | (unfold rstWarm; (repeat' split) <;> (try dsimp only) <;> simp +decide [rstWarm]; done)

@[simp] theorem State_clearFabric_keep (s : State) (p : Part) : (s.clearFabric p).keep = s.keep := by
  unfold State.clearFabric
  extract_lets mine
  have hm : mine 64 = false := by cases p <;> decide
  refine onChip_keep _ _ _ fun c => ?_
  dsimp only
  rw [mapVals_ident _ _ fun v => by simp [hm], keepIf_ident _ _ fun v => by simp [hm]]

@[simp] theorem State_fabricReset_keep (s : State) (p : Part) :
    (State.fabricReset s p).keep = s.keep := by
  first
  | (unfold State.fabricReset; (repeat' split) <;> (try dsimp only) <;> simp +decide [State.fabricReset]; done)
  | (simp +decide [State.fabricReset]; done)

@[simp] theorem State_rstFabricW_keep (s : State) :
    (State.rstFabricW s).1.keep = s.keep := by
  first
  | (simp +decide [State.rstFabricW]; done)
  | (unfold State.rstFabricW; (repeat' split) <;> (try dsimp only) <;> simp +decide [State.rstFabricW]; done)

theorem rstFabric_keep (path : Path) (s : State) :
    (rstFabric path s).keep = s.keep := by
  first
  | (simp +decide [rstFabric]; done)
  | (unfold rstFabric; (repeat' split) <;> (try dsimp only) <;> simp +decide [rstFabric]; done)

@[simp] theorem State_epWarmW_keep (s : State) :
    (State.epWarmW s).1.keep = s.keep := by
  first
  | (simp +decide [State.epWarmW]; done)
  | (unfold State.epWarmW; (repeat' split) <;> (try dsimp only) <;> simp +decide [State.epWarmW]; done)

theorem epRstWarm_keep (path : Path) (s : State) :
    (epRstWarm path s).keep = s.keep := by
  first
  | (simp +decide [epRstWarm]; done)
  | (unfold epRstWarm; (repeat' split) <;> (try dsimp only) <;> simp +decide [epRstWarm]; done)

@[simp] theorem State_epFabricW_keep (s : State) :
    (State.epFabricW s).1.keep = s.keep := by
  first
  | (simp +decide [State.epFabricW]; done)
  | (unfold State.epFabricW; (repeat' split) <;> (try dsimp only) <;> simp +decide [State.epFabricW]; done)

theorem epRstFabric_keep (path : Path) (s : State) :
    (epRstFabric path s).keep = s.keep := by
  first
  | (simp +decide [epRstFabric]; done)
  | (unfold epRstFabric; (repeat' split) <;> (try dsimp only) <;> simp +decide [epRstFabric]; done)

theorem tableEccFatal_keep (page : Nat) (s : State) :
    (tableEccFatal page s).keep = s.keep := by
  first
  | (simp +decide [tableEccFatal]; done)
  | (unfold tableEccFatal; (repeat' split) <;> (try dsimp only) <;> simp +decide [tableEccFatal]; done)

theorem securityCoreFatalAlarm_keep (s : State) :
    (securityCoreFatalAlarm s).keep = s.keep := by
  first
  | (simp +decide [securityCoreFatalAlarm]; done)
  | (unfold securityCoreFatalAlarm; (repeat' split) <;> (try dsimp only) <;> simp +decide [securityCoreFatalAlarm]; done)

theorem refLoss_keep (p : Part) (s : State) :
    (refLoss p s).keep = s.keep := by
  first
  | (simp +decide [refLoss]; done)
  | (unfold refLoss; (repeat' split) <;> (try dsimp only) <;> simp +decide [refLoss]; done)

theorem refReturn_keep (p : Part) (ppm : Nat) (s : State) :
    (refReturn p ppm s).keep = s.keep := by
  first
  | (unfold refReturn; (repeat' split) <;> (try dsimp only) <;> simp +decide [refReturn]; done)
  | (simp +decide [refReturn]; done)

theorem holdoverExpiry_keep (p : Part) (s : State) :
    (holdoverExpiry p s).keep = s.keep := by
  first
  | (unfold holdoverExpiry; (repeat' split) <;> (try dsimp only) <;> simp +decide [holdoverExpiry]; done)
  | (simp +decide [holdoverExpiry]; done)

theorem pllLockLoss_keep (p : Part) (s : State) :
    (pllLockLoss p s).keep = s.keep := by
  first
  | (simp +decide [pllLockLoss]; done)
  | (unfold pllLockLoss; (repeat' split) <;> (try dsimp only) <;> simp +decide [pllLockLoss]; done)

@[simp] theorem State_trip_keep (s : State) (p : Part) :
    (State.trip s p).keep = s.keep := by
  first
  | (simp +decide [State.trip]; done)
  | (unfold State.trip; (repeat' split) <;> (try dsimp only) <;> simp +decide [State.trip]; done)

theorem dieSensorSample_keep (p : Part) (temps : List Nat) (s : State) :
    (dieSensorSample p temps s).keep = s.keep := by
  first
  | (unfold dieSensorSample; (repeat' split) <;> (try dsimp only) <;> simp +decide [dieSensorSample]; done)
  | (simp +decide [dieSensorSample]; done)

@[simp] theorem State_tapTo_keep (s : State) (p : Part) (i : TapInstr) (samples : List Nat) :
    (State.tapTo s p i samples).keep = s.keep := by
  first
  | (simp +decide [State.tapTo]; done)
  | (unfold State.tapTo; (repeat' split) <;> (try dsimp only) <;> simp +decide [State.tapTo]; done)

theorem tapInstructionLoad_keep (p : Part) (code : Nat) (samples : List Nat) (s : State) :
    (tapInstructionLoad p code samples s).keep = s.keep := by
  first
  | (simp +decide [tapInstructionLoad]; done)
  | (unfold tapInstructionLoad; (repeat' split) <;> (try dsimp only) <;> simp +decide [tapInstructionLoad]; done)

theorem tapReset_keep (p : Part) (samples : List Nat) (s : State) :
    (tapReset p samples s).keep = s.keep := by
  first
  | (simp +decide [tapReset]; done)
  | (unfold tapReset; (repeat' split) <;> (try dsimp only) <;> simp +decide [tapReset]; done)

@[simp] theorem State_rdcStsRead_keep (s : State) (c : Nat) :
    (State.rdcStsRead s c).1.keep = s.keep := by
  first
  | (simp +decide [State.rdcStsRead]; done)
  | (unfold State.rdcStsRead; (repeat' split) <;> (try dsimp only) <;> simp +decide [State.rdcStsRead]; done)

@[simp] theorem State_dropLog_keep (s : State) (p : Part) :
    (State.dropLog s p).keep = s.keep := by
  first
  | (simp +decide [State.dropLog]; done)
  | (unfold State.dropLog; (repeat' split) <;> (try dsimp only) <;> simp +decide [State.dropLog]; done)

@[simp] theorem State_readReg_keep (s : State) (o : Origin) (p : Part) (page : Nat) (l : RegPlace) :
    (State.readReg s o p page l).1.keep = s.keep := by
  first
  | (simp +decide [State.readReg]; done)
  | (unfold State.readReg; (repeat' split) <;> (try dsimp only) <;> simp +decide [State.readReg]; done)

@[simp] theorem State_read4_keep (s : State) (o : Origin) (p : Part) (page off : Nat) :
    (State.read4 s o p page off).1.keep = s.keep := by
  first
  | (unfold State.read4; (repeat' split) <;> (try dsimp only) <;> simp +decide [State.read4]; done)
  | (simp +decide [State.read4]; done)

@[simp] theorem State_read8_keep (s : State) (o : Origin) (p : Part) (page off : Nat) :
    (State.read8 s o p page off).1.keep = s.keep := by
  first
  | (unfold State.read8; (repeat' split) <;> (try dsimp only) <;> simp +decide [State.read8]; done)
  | (simp +decide [State.read8]; done)

@[simp] theorem State_readBytes_keep (s : State) (o : Origin) (p : Part) (page off size : Nat) :
    (State.readBytes s o p page off size).1.keep = s.keep := by
  first
  | (simp +decide [State.readBytes]; done)
  | (unfold State.readBytes; (repeat' split) <;> (try dsimp only) <;> simp +decide [State.readBytes]; done)

/-- A place whose register is read-only or is not the identification. -/
def RegPlace.safe (l : RegPlace) : Prop := l.desc.fields.all (fun f => f.acc == .ro) = true ∨ l.reg.page ≠ 0 ∨ l.reg.off % 4096 ≠ 64

theorem State_plainWrite_keep (s : State) (p : Part) (page : Nat) (l : RegPlace) (x : Word) (h : l.safe) :
    (s.plainWrite p page l x).1.keep = s.keep := by
  unfold State.plainWrite
  dsimp only
  rcases h with h | h
  · simp only [h]; (repeat' split) <;> simp_all
  · (repeat' split) <;> simp [wr_keep _ _ _ _ _ _ h]

@[simp] theorem State_setGirth_keep (s : State) (x : Word) :
    (State.setGirth s x).1.keep = s.keep := by
  first
  | (simp +decide [State.setGirth]; done)
  | (unfold State.setGirth; (repeat' split) <;> (try dsimp only) <;> simp +decide [State.setGirth]; done)

@[simp] theorem State_setPortCtl_keep (s : State) (x : Word) :
    (State.setPortCtl s x).1.keep = s.keep := by
  first
  | (simp +decide [State.setPortCtl]; done)
  | (unfold State.setPortCtl; (repeat' split) <;> (try dsimp only) <;> simp +decide [State.setPortCtl]; done)

theorem State_setPortCfg_keep (s : State) (p : Part) (page n : Nat) (l : RegPlace) (x : Word) (h : l.safe) :
    (s.setPortCfg p page n l x).1.keep = s.keep := State_plainWrite_keep _ _ _ _ _ h

@[simp] theorem State_setPortCommand_keep (s : State) (p : Part) (n : Nat) (x : Word) :
    (State.setPortCommand s p n x).1.keep = s.keep := by
  first
  | (simp +decide [State.setPortCommand]; done)
  | (unfold State.setPortCommand; (repeat' split) <;> (try dsimp only) <;> simp +decide [State.setPortCommand]; done)

theorem State_setTxEq_keep (s : State) (p : Part) (page : Nat) (l : RegPlace) (x : Word) (h : l.safe) (hp : l.reg.page ≠ 0) :
    (s.setTxEq p page l x).1.keep = s.keep := by
  unfold State.setTxEq; dsimp only; (repeat' split) <;> simp [State_plainWrite_keep _ _ _ _ _ h, hp]

theorem State_setRekey_keep (s : State) (p : Part) (page n : Nat) (l : RegPlace) (x : Word) (h : l.safe) :
    (s.setRekey p page n l x).1.keep = s.keep := by
  unfold State.setRekey; simp [State_plainWrite_keep _ _ _ _ _ h]

theorem State_setInvCfg_keep (s : State) (page : Nat) (l : RegPlace) (x : Word) (h : l.safe) :
    (s.setInvCfg page l x).1.keep = s.keep := by
  unfold State.setInvCfg; dsimp only; (repeat' split) <;> simp [State_plainWrite_keep _ _ _ _ _ h, CXU_INV_CFG_ENABLE, CXU_INV_CFG]

theorem State_setSbpCfg_keep (s : State) (page : Nat) (l : RegPlace) (x : Word) (h : l.safe) :
    (s.setSbpCfg page l x).1.keep = s.keep := by
  unfold State.setSbpCfg; simp [State_plainWrite_keep _ _ _ _ _ h, SBP_STS_MODE, SBP_STS_DYN_ADDR, SBP_STS]

@[simp] theorem State_setAlert_keep (s : State) (x : Word) :
    (State.setAlert s x).1.keep = s.keep := by
  first
  | (simp only [State.setAlert]; (repeat' split) <;> simp +decide [State.setAlert]; done)
  | (unfold State.setAlert; (repeat' split) <;> (try dsimp only) <;> simp +decide [State.setAlert]; done)

@[simp] theorem State_setRate_keep (s : State) (x : Word) :
    (State.setRate s x).1.keep = s.keep := by
  first
  | (simp +decide [State.setRate]; done)
  | (unfold State.setRate; (repeat' split) <;> (try dsimp only) <;> simp +decide [State.setRate]; done)

@[simp] theorem State_clearLog_keep (s : State) (p : Part) :
    (State.clearLog s p).keep = s.keep := by
  first
  | (simp +decide [State.clearLog]; done)
  | (unfold State.clearLog; (repeat' split) <;> (try dsimp only) <;> simp +decide [State.clearLog]; done)

@[simp] theorem State_setRstCtl_keep (s : State) (path : Path) (x : Word) :
    (State.setRstCtl s path x).1.keep = s.keep := by
  first
  | (simp +decide [State.setRstCtl]; done)
  | (unfold State.setRstCtl; (repeat' split) <;> (try dsimp only) <;> simp +decide [State.setRstCtl]; done)

@[simp] theorem State_setEpRst_keep (s : State) (x : Word) :
    (State.setEpRst s x).1.keep = s.keep := by
  first
  | (simp +decide [State.setEpRst]; done)
  | (unfold State.setEpRst; (repeat' split) <;> (try dsimp only) <;> simp +decide [State.setEpRst]; done)

@[simp] theorem Written_also_keep (w : Written) (on : Bool) (f : State → Written) (h : ∀ s, (f s).1.keep = s.keep) :
    (w.also on f).1.keep = w.1.keep := by
  unfold Written.also; split
  · exact h _
  · rfl

@[simp] theorem State_setCoreCtl_keep (s : State) (c : Nat) (x : Word) :
    (State.setCoreCtl s c x).1.keep = s.keep := by
  unfold State.setCoreCtl; repeat' (first | (simp +decide [State.setCoreCtl]; done) | (intros; split) | (intros; first | refine Eq.trans (foldl_keep _ _ _ fun _ _ => ?_) ?_ | refine Eq.trans (foldl_fst_keep _ _ _ fun _ _ => ?_) ?_ | refine Eq.trans (when_keep _ _ _ ?_) ?_) | dsimp only | simp +decide [State.setCoreCtl])

@[simp] theorem State_setAgtCtl_keep (s : State) (x : Word) :
    (State.setAgtCtl s x).1.keep = s.keep := by
  unfold State.setAgtCtl; repeat' (first | (simp +decide [State.setAgtCtl]; done) | (intros; split) | (intros; first | refine Eq.trans (foldl_keep _ _ _ fun _ _ => ?_) ?_ | refine Eq.trans (foldl_fst_keep _ _ _ fun _ _ => ?_) ?_ | refine Eq.trans (when_keep _ _ _ ?_) ?_) | dsimp only | simp +decide [State.setAgtCtl])

@[simp] theorem State_setFwCfg_keep (s : State) (path : Path) (x : Word) :
    (State.setFwCfg s path x).1.keep = s.keep := by
  first
  | (simp +decide [State.setFwCfg]; done)
  | (unfold State.setFwCfg; (repeat' split) <;> (try dsimp only) <;> simp +decide [State.setFwCfg]; done)

theorem State_unless_keep (s : State) (busy : Bool) (p : Part) (page : Nat) (l : RegPlace) (x : Word) (h : l.safe) :
    (s.unless busy p page l x).1.keep = s.keep := by
  unfold State.unless; split <;> simp [State_plainWrite_keep _ _ _ _ _ h]

@[simp] theorem State_setLateSum_keep (s : State) (x : Word) :
    (State.setLateSum s x).1.keep = s.keep := by
  first
  | (simp only [State.setLateSum]; (repeat' split) <;> simp +decide [State.setLateSum]; done)
  | (unfold State.setLateSum; (repeat' split) <;> (try dsimp only) <;> simp +decide [State.setLateSum]; done)

/-- A result that, if there is one, keeps what stays. -/
def keeps (s : State) (o : Option Written) : Prop := ∀ w, o = some w → w.1.keep = s.keep

theorem keeps_some (s : State) (w : Written) (h : w.1.keep = s.keep) : keeps s (some w) := by
  intro x hx; simp only [Option.some.injEq] at hx; rw [← hx]; exact h

theorem keeps_none (s : State) : keeps s none := by intro x hx; cases hx

theorem stagedWrite_keeps (s : State) (o : Origin) (page off : Nat) (l : RegPlace) (x : Word) (h : l.safe) :
    keeps s (s.stagedWrite o page off l x) := by
  unfold State.stagedWrite
  (repeat' split) <;> first
    | exact keeps_none _
    | exact keeps_some _ _ (State_hrdStageWrite_keep _ _ _ fun _ => State_plainWrite_keep _ _ _ _ _ h)
    | exact keeps_some _ _ (State_svcStageWrite_keep _ _ _ fun _ => State_plainWrite_keep _ _ _ _ _ h)
    | exact keeps_some _ _ (by simp)

theorem ownWriteBoth_keeps (s : State) (p : Part) (page code off : Nat) (l : RegPlace) (x : Word) (h : l.safe)
    (hp : code = 0x60 → l.reg.page ≠ 0) : keeps s (s.ownWriteBoth p page code off l x) := by
  have h1 := fun s x => State_setPortCfg_keep s p page l.inst l x h
  have h2 := fun s x => State_setRekey_keep s p page l.inst l x h
  unfold State.ownWriteBoth
  extract_lets n
  split
  · exact keeps_some _ _ (State_setTxEq_keep _ _ _ _ _ h (hp rfl))
  · exact keeps_some _ _ (h1 _ _)
  · exact keeps_some _ _ (by simp)
  · exact keeps_some _ _ (h2 _ _)
  · exact keeps_some _ _ (by simp)
  · exact keeps_some _ _ (by simp)
  · exact keeps_some _ _ (by simp)
  · exact keeps_none _

theorem ownWriteSw_keeps (s : State) (path : Path) (page code off : Nat) (l : RegPlace) (x : Word) (h : l.safe) :
    keeps s (s.ownWriteSw path page code off l x) := by
  have h1 := fun s b x => State_unless_keep s b .sw page l x h
  have h2 := fun s x => State_setInvCfg_keep s page l x h
  have h3 := fun s x => State_setSbpCfg_keep s page l x h
  unfold State.ownWriteSw
  split <;> first
    | exact keeps_none _
    | (refine keeps_some _ _ ?_; simp [h1, h2, h3]; done)
    | (split <;> first | exact keeps_none _ | (refine keeps_some _ _ ?_; simp; done))
    | (refine keeps_some _ _ ?_; split <;> simp)

theorem ownWriteEp_keeps (s : State) (page code off : Nat) (l : RegPlace) (x : Word) (h : l.safe)
    (hp : code = 0x86 ∨ code = 0x85 ∨ code = 0x83 → l.desc.reg.page ≠ 0) : keeps s (s.ownWriteEp page code off l x) := by
  have h1 := fun s b x => State_unless_keep s b .ep page l x h
  have h2 := fun s n v hp => State_setApReg_keep s n l.desc.reg v hp
  have h3 := fun s v hp => State_setWinReg_keep s l.desc.reg v hp
  have h4 := fun s v hp => State_setQueueReg_keep s l.desc.reg v hp
  unfold State.ownWriteEp
  extract_lets n
  split <;> first
    | exact keeps_none _
    | (refine keeps_some _ _ ?_; simp [h1]; done)
    | (refine keeps_some _ _ ?_; have hq := hp (by simp); simp [h2, h3, h4, hq]; done)
    | (split <;> first | exact keeps_none _ | (refine keeps_some _ _ ?_; simp; done))

/-- What the tables say of the identification's place: only the GLB block and the header lie on page 0, and only GLB.ID lies at offset 40h there. -/
def descSafe (d : RegDesc) : Bool :=
  d.reg.page != 0 || d.fields.all (fun f => f.acc == .ro) || (d.reg.off + d.size ≤ 64) || (64 < d.reg.off && d.reg.off + d.size ≤ 4096)

theorem hdr_safe : regMapHDR.all (fun d => descSafe d && d.reg.off + d.size ≤ 64) = true := by decide

theorem block_none (code : Nat) (h : 256 ≤ code) : blockRegs code = [] := by
  have hb : ∀ k, k < 256 → (code == k) = false := fun k hk => by rw [beq_eq_false_iff_ne]; omega
  unfold blockRegs
  repeat (rw [if_neg (by rw [hb _ (by decide)]; decide)])

theorem block_safe (code : Nat) : (blockRegs code).all (fun d => descSafe d && (d.reg.page != 0 || code == 0x01)) = true := by
  by_cases hc : code < 256
  · have : (List.range 256).all (fun code => (blockRegs code).all (fun d => descSafe d && (d.reg.page != 0 || code == 0x01))) = true := by
      decide +kernel
    exact List.all_eq_true.mp this code (List.mem_range.mpr hc)
  · rw [block_none code (by omega)]; rfl

theorem place_facts (p : Part) (page off : Nat) (l : RegPlace) (h : placeAt p page off = some l) :
    l.safe ∧ (0x40 ≤ l.desc.reg.off → pageCode p page ≠ 1 → l.desc.reg.page ≠ 0) := by
  unfold placeAt at h
  dsimp only at h
  rw [Option.map_eq_some_iff] at h
  obtain ⟨d, hd, rfl⟩ := h
  have hm := List.mem_of_find?_eq_some hd
  have hf := List.find?_some hd
  simp only [Bool.and_eq_true, decide_eq_true_eq] at hf
  by_cases ho : off < 0x40
  · rw [if_pos ho] at hm
    rw [if_pos ho] at hf
    rw [if_pos ho]
    try rw [if_pos ho]
    have := List.all_eq_true.mp hdr_safe d hm
    simp only [Bool.and_eq_true, decide_eq_true_eq] at this
    obtain ⟨h1, h2⟩ := this
    refine ⟨Or.inr (Or.inr ?_), fun h => ?_⟩
    · simp only [RegPlace.reg]
      omega
    · have : 0 < d.size := by omega
      simp only at h; omega
  · rw [if_neg ho] at hm
    rw [if_neg ho] at hf
    rw [if_neg ho]
    try rw [if_neg ho]
    have := List.all_eq_true.mp (block_safe _) d hm
    simp only [Bool.and_eq_true, Bool.or_eq_true, descSafe, bne_iff_ne, ne_eq, decide_eq_true_eq, beq_iff_eq] at this
    obtain ⟨h1, h2⟩ := this
    refine ⟨?_, fun _ hc => ?_⟩
    · rcases h2 with h2 | h2
      · exact Or.inr (Or.inl h2)
      · have hs : groupShift (pageCode p page) off = 0 := by rw [h2]; rfl
        rw [hs] at hf
        try rw [hs]
        rcases h1 with ((h1 | h1) | h1) | h1
        · exact Or.inr (Or.inl h1)
        · exact Or.inl h1
        · refine Or.inr (Or.inr ?_)
          simp only [RegPlace.reg]; omega
        · refine Or.inr (Or.inr ?_)
          simp only [RegPlace.reg]; omega
    · rcases h2 with h2 | h2
      · exact h2
      · exact absurd h2 hc

theorem State_blockWrite_keep (s : State) (o : Origin) (p : Part) (page off : Nat) (l : RegPlace) (x : Word)
    (h : placeAt p page off = some l) (hb : 0x40 ≤ l.desc.reg.off) : (s.blockWrite o p page l x).1.keep = s.keep := by
  obtain ⟨hs, hp⟩ := place_facts _ _ _ _ h
  have hpg : ∀ c, c ≠ 1 → pageCode p page = c → l.desc.reg.page ≠ 0 := fun c hc e => hp hb (e ▸ hc)
  unfold State.blockWrite
  extract_lets code off' x' own
  have ho : keeps s own := by
    simp only [own]
    cases p
    · intro w hw
      change (if code == 0x31 && off' == 0xA0 then some (s.olClear o x')
        else (s.stagedWrite o page off' l x').orElse (fun _ => s.ownWriteSw o.path page code off' l x')) = some w at hw
      split at hw
      · exact keeps_some _ _ (by simp) _ hw
      cases he : s.stagedWrite o page off' l x' with
      | some v => rw [he] at hw; exact stagedWrite_keeps _ _ _ _ _ _ hs _ (he.trans hw)
      | none => rw [he] at hw; exact ownWriteSw_keeps _ _ _ _ _ _ _ hs _ hw
    · exact ownWriteEp_keeps _ _ _ _ _ _ hs fun e => by
        rcases e with e | e | e <;> exact hpg _ (by omega) e
  have hB : keeps s (s.ownWriteBoth p page code off' l x') :=
    ownWriteBoth_keeps _ _ _ _ _ _ _ hs fun e => by
      have := hpg _ (by omega) e
      simpa [RegPlace.reg] using this
  clear_value own
  split
  · exact ho _ rfl
  · cases he : s.ownWriteBoth p page code off' l x' with
    | some v => simpa using hB _ he
    | none => simpa using State_plainWrite_keep _ _ _ _ _ hs

theorem afterReset_ro (d : RegDesc) (x : Word) (h : d.fields.all (fun f => f.acc == .ro) = true) (hc : counterRegs.contains d.reg = false) :
    d.afterReset x = x := by
  unfold RegDesc.afterReset
  rw [hc]
  generalize d.fields = l at h
  induction l with
  | nil => rfl
  | cons a l ih =>
    simp only [List.all_cons, Bool.and_eq_true, beq_iff_eq] at h
    simp only [List.foldl_cons, h.1]
    exact ih h.2

theorem ident_place (p : Part) : (placeAt p 0 64).all (fun l => l.desc.fields.all (fun f => f.acc == .ro) && !counterRegs.contains l.desc.reg) = true := by
  cases p <;> decide +kernel

theorem State_resetOne_ident (s : State) (p : Part) (page : Nat) (x : Word) (h : keyPage 64 = page) : s.resetOne p page 64 x = x := by
  have h0 : page = 0 := by rw [← h]; decide
  subst h0
  have hk : keyOff 64 = 64 := by decide
  have hc : pageCode p 0 = 1 := by cases p <;> decide +kernel
  have hi := ident_place p
  unfold State.resetOne
  rw [hk, hc]
  dsimp only
  cases hl : placeAt p 0 64 with
  | none => rfl
  | some l =>
    rw [hl] at hi
    simp only [Option.all_some, Bool.and_eq_true, Bool.not_eq_true'] at hi
    dsimp only
    rw [afterReset_ro _ _ hi.1 hi.2]
    simp

@[simp] theorem State_resetFields_keep (s : State) (p : Part) (page : Nat) : (s.resetFields p page).keep = s.keep := by
  unfold State.resetFields
  dsimp only
  refine onChip_keep _ _ _ fun c => ?_
  dsimp only
  have hg : (keyOff 64 == 0x50) = false := by decide
  rw [mapVals_ident _ _ fun v => by
    simp only [hg, Bool.and_false, Bool.not_false, Bool.and_true]
    split
    · rename_i h; simp only [Bool.and_eq_true, beq_iff_eq] at h; exact State_resetOne_ident _ _ _ _ h.1
    · rfl]
  exact keepIf_ident _ _ fun v => by simp [hg]

@[simp] theorem State_beforeReset_keep (s : State) (p : Part) (code : Nat) :
    (State.beforeReset s p code).keep = s.keep := by
  first
  | (simp +decide [State.beforeReset]; done)
  | (unfold State.beforeReset; (repeat' split) <;> (try dsimp only) <;> simp +decide [State.beforeReset]; done)

@[simp] theorem State_afterReset_keep (s : State) (p : Part) (code inst : Nat) (freed : List Nat) :
    (State.afterReset s p code inst freed).keep = s.keep := by
  first
  | (simp +decide [State.afterReset]; done)
  | (unfold State.afterReset; (repeat' split) <;> (try dsimp only) <;> simp +decide [State.afterReset]; done)

@[simp] theorem State_pageReset_keep (s : State) (p : Part) (page : Nat) :
    (State.pageReset s p page).keep = s.keep := by
  first
  | (simp +decide [State.pageReset]; done)
  | (unfold State.pageReset; (repeat' split) <;> (try dsimp only) <;> simp +decide [State.pageReset]; done)

@[simp] theorem State_setEnable_keep (s : State) (p : Part) (page v : Nat) :
    (State.setEnable s p page v).1.keep = s.keep := by
  first
  | (simp only [State.setEnable]; (repeat' split) <;> simp +decide [State.setEnable]; done)
  | (unfold State.setEnable; (repeat' split) <;> (try dsimp only) <;> simp +decide [State.setEnable]; done)

@[simp] theorem State_writePageCtl_keep (s : State) (p : Part) (page : Nat) (x : Word) :
    (State.writePageCtl s p page x).1.keep = s.keep := by
  first
  | (simp +decide [State.writePageCtl]; done)
  | (unfold State.writePageCtl; (repeat' split) <;> (try dsimp only) <;> simp +decide [State.writePageCtl]; done)

@[simp] theorem State_forceCauses_keep (s : State) (p : Part) (page : Nat) (x : Word) :
    (State.forceCauses s p page x).keep = s.keep := by
  first
  | (simp +decide [State.forceCauses]; done)
  | (unfold State.forceCauses; (repeat' split) <;> (try dsimp only) <;> simp +decide [State.forceCauses]; done)

@[simp] theorem State_setErrCount_keep (s : State) (p : Part) (page : Nat) (x : Word) :
    (State.setErrCount s p page x).keep = s.keep := by
  first
  | (simp +decide [State.setErrCount]; done)
  | (unfold State.setErrCount; (repeat' split) <;> (try dsimp only) <;> simp +decide [State.setErrCount]; done)

@[simp] theorem State_headerWrite_keep (s : State) (p : Part) (page off : Nat) (x : Word) :
    (State.headerWrite s p page off x).1.keep = s.keep := by
  first
  | (simp +decide [State.headerWrite]; done)
  | (unfold State.headerWrite; (repeat' split) <;> (try dsimp only) <;> simp +decide [State.headerWrite]; done)

theorem State_writeReg_keep (s : State) (o : Origin) (p : Part) (page off : Nat) (l : RegPlace) (x : Word)
    (h : placeAt p page off = some l) : (s.writeReg o p page l x).1.keep = s.keep := by
  unfold State.writeReg
  split
  · simp
  · exact State_blockWrite_keep _ _ _ _ _ _ _ h (by omega)

@[simp] theorem State_write4_keep (s : State) (o : Origin) (p : Part) (page off : Nat) (x : Word) : (s.write4 o p page off x).1.keep = s.keep := by
  unfold State.write4
  rw [State_writeFrame_keep _ _ _ _ _ _ fun s => ?_]
  · simp
  · split
    · rfl
    · rename_i l hl; split
      · simp
      · exact State_writeReg_keep _ _ _ _ _ _ _ hl

@[simp] theorem State_writeBytes_keep (s : State) (o : Origin) (p : Part) (page off size : Nat) (x : Word) :
    (s.writeBytes o p page off size x).1.keep = s.keep := by
  unfold State.writeBytes
  dsimp only
  (repeat' split) <;> first
    | simp
    | (rename_i l hl _; exact State_writeFrame_keep _ _ _ _ _ _ fun s => State_writeReg_keep _ _ _ _ _ _ _ hl)

@[simp] theorem State_regAccess_keep (s : State) (o : Origin) (p : Part) (write : Bool) (page off size : Nat) (x : Word) :
    (State.regAccess s o p write page off size x).1.keep = s.keep := by
  first
  | (simp +decide [State.regAccess]; done)
  | (unfold State.regAccess; (repeat' split) <;> (try dsimp only) <;> simp +decide [State.regAccess]; done)

@[simp] theorem State_accessDone_keep (s : State) (o : Origin) (p : Part) (write : Bool) (page off size : Nat) (x : Word) :
    (State.accessDone s o p write page off size x).keep = s.keep := by
  first
  | (simp +decide [State.accessDone]; done)
  | (unfold State.accessDone; (repeat' split) <;> (try dsimp only) <;> simp +decide [State.accessDone]; done)

theorem csr_keep (write : Bool) (page off size : Nat) (x : Word) (s : State) :
    (csr write page off size x s).keep = s.keep := by
  first
  | (simp +decide [csr]; done)
  | (unfold csr; (repeat' split) <;> (try dsimp only) <;> simp +decide [csr]; done)

theorem sbRegisterAccess_keep (write : Bool) (page off size : Nat) (x : Word) (s : State) :
    (sbRegisterAccess write page off size x s).keep = s.keep := by
  first
  | (simp +decide [sbRegisterAccess]; done)
  | (unfold sbRegisterAccess; (repeat' split) <;> (try dsimp only) <;> simp +decide [sbRegisterAccess]; done)

@[simp] theorem State_control_keep (s : State) (p : Part) (k : Packet) (write : Bool) :
    (State.control s p k write).keep = s.keep := by
  first
  | (unfold State.control; (repeat' split) <;> (try dsimp only) <;> simp +decide [State.control]; done)
  | (simp +decide [State.control]; done)

theorem ctlRead_keep (p : Part) (k : Packet) (s : State) :
    (ctlRead p k s).keep = s.keep := by
  first
  | (simp +decide [ctlRead]; done)
  | (unfold ctlRead; (repeat' split) <;> (try dsimp only) <;> simp +decide [ctlRead]; done)

theorem ctlWrite_keep (p : Part) (k : Packet) (s : State) :
    (ctlWrite p k s).keep = s.keep := by
  first
  | (simp +decide [ctlWrite]; done)
  | (unfold ctlWrite; (repeat' split) <;> (try dsimp only) <;> simp +decide [ctlWrite]; done)

theorem pageEnableWrite_keep (path : Path) (p : Part) (page v : Nat) (s : State) :
    (pageEnableWrite path p page v s).keep = s.keep := by
  first
  | (simp +decide [pageEnableWrite]; done)
  | (unfold pageEnableWrite; (repeat' split) <;> (try dsimp only) <;> simp +decide [pageEnableWrite]; done)

theorem pageSoftReset_keep (path : Path) (p : Part) (page : Nat) (s : State) :
    (pageSoftReset path p page s).keep = s.keep := by
  first
  | (simp +decide [pageSoftReset]; done)
  | (unfold pageSoftReset; (repeat' split) <;> (try dsimp only) <;> simp +decide [pageSoftReset]; done)

theorem softResetDone_keep (p : Part) (page : Nat) (s : State) :
    (softResetDone p page s).keep = s.keep := by
  first
  | (simp +decide [softResetDone]; done)
  | (unfold softResetDone; (repeat' split) <;> (try dsimp only) <;> simp +decide [softResetDone]; done)

theorem pageFence_keep (path : Path) (p : Part) (page : Nat) (s : State) :
    (pageFence path p page s).keep = s.keep := by
  first
  | (simp +decide [pageFence]; done)
  | (unfold pageFence; (repeat' split) <;> (try dsimp only) <;> simp +decide [pageFence]; done)

theorem intForceWrite_keep (path : Path) (p : Part) (page : Nat) (x : Word) (s : State) :
    (intForceWrite path p page x s).keep = s.keep := by
  first
  | (simp +decide [intForceWrite]; done)
  | (unfold intForceWrite; (repeat' split) <;> (try dsimp only) <;> simp +decide [intForceWrite]; done)

theorem errCountWrite_keep (path : Path) (p : Part) (page : Nat) (x : Word) (s : State) :
    (errCountWrite path p page x s).keep = s.keep := by
  first
  | (simp +decide [errCountWrite]; done)
  | (unfold errCountWrite; (repeat' split) <;> (try dsimp only) <;> simp +decide [errCountWrite]; done)

theorem errLogClear_keep (path : Path) (p : Part) (s : State) :
    (errLogClear path p s).keep = s.keep := by
  first
  | (simp +decide [errLogClear]; done)
  | (unfold errLogClear; (repeat' split) <;> (try dsimp only) <;> simp +decide [errLogClear]; done)

theorem errLog3Read_keep (path : Path) (p : Part) (s : State) :
    (errLog3Read path p s).keep = s.keep := by
  first
  | (simp +decide [errLog3Read]; done)
  | (unfold errLog3Read; (repeat' split) <;> (try dsimp only) <;> simp +decide [errLog3Read]; done)

theorem registerWrite_keep (o : Origin) (p : Part) (page off size : Nat) (x : Word) (s : State) :
    (registerWrite o p page off size x s).keep = s.keep := by
  first
  | (simp +decide [registerWrite]; done)
  | (unfold registerWrite; (repeat' split) <;> (try dsimp only) <;> simp +decide [registerWrite]; done)

@[simp] theorem State_tickPart_keep (s : State) (p : Part) :
    (State.tickPart s p).keep = s.keep := by
  first
  | (simp +decide [State.tickPart]; done)
  | (unfold State.tickPart; (repeat' split) <;> (try dsimp only) <;> simp +decide [State.tickPart]; done)

@[simp] theorem State_stampReq_keep (s : State) (k : Packet) :
    (State.stampReq s k).keep = s.keep := by
  first
  | (simp +decide [State.stampReq]; done)
  | (unfold State.stampReq; (repeat' split) <;> (try dsimp only) <;> simp +decide [State.stampReq]; done)

@[simp] theorem State_serveBridles_keep (ks : List Packet) (ixs qs : List Nat) (s : State) : (State.serveBridles ks ixs qs s).keep = s.keep := by
  induction ks generalizing ixs qs s with
  | nil => exact foldl_keep _ _ _ fun s ix => by simp [BRD_STATS_HELD_TICKS, BRD_STATS]
  | cons k ks ih => unfold State.serveBridles; dsimp only; (repeat' split) <;> simp [ih]

@[simp] theorem State_linkTick_keep (s : State) (p : Part) (n : Nat) :
    (State.linkTick s p n).keep = s.keep := by
  first
  | (simp +decide [State.linkTick]; done)
  | (unfold State.linkTick; (repeat' split) <;> (try dsimp only) <;> simp +decide [State.linkTick]; done)

@[simp] theorem State_patternTick_keep (s : State) (p : Part) (n : Nat) :
    (State.patternTick s p n).keep = s.keep := by
  first
  | (simp +decide [State.patternTick]; done)
  | (unfold State.patternTick; (repeat' split) <;> (try dsimp only) <;> simp +decide [State.patternTick]; done)

@[simp] theorem State_linkTicks_keep (s : State) (p : Part) :
    (State.linkTicks s p).keep = s.keep := by
  first
  | (simp +decide [State.linkTicks]; done)
  | (unfold State.linkTicks; (repeat' split) <;> (try dsimp only) <;> simp +decide [State.linkTicks]; done)

@[simp] theorem State_tick_keep (s : State) :
    (State.tick s).keep = s.keep := by
  first
  | (unfold State.tick; (repeat' split) <;> (try dsimp only) <;> simp +decide [State.tick]; done)
  | (simp +decide [State.tick]; done)

end Sys2Proof.Machine
end

