-- ==== Sys2Proof/Laws/FrameBase.lean ====
section
/-! SUPPORT. What a watch on some components of the state shows, and the lemmas that the files Frame… build on: an operation that writes none of the watched components shows the same before and after. -/

set_option Elab.async false
set_option linter.all false

namespace Sys2Proof.Machine

/-- A value that a watch shows or leaves out. -/
def pick {α : Type} (b : Bool) (x : α) : Option α := if b then some x else none

@[simp] theorem pick_false {α : Type} (x : α) : pick false x = none := id rfl

/-- What is asked of a watch so that a component may change unseen. -/
def Off1 (wt : Comp → Bool) (c : Comp) : Prop :=
  match c with
  | .regs p => wt (.hdr p) = false ∧ ∀ n, wt (.page p n) = false
  | c => wt c = false

/-- None of the listed components is watched. -/
def Off (wt : Comp → Bool) : List Comp → Prop
  | [] => True
  | c :: l => Off1 wt c ∧ Off wt l

@[simp] theorem off_nil (wt : Comp → Bool) : Off wt [] = True := id rfl
@[simp] theorem off_cons (wt : Comp → Bool) (c : Comp) (l : List Comp) : Off wt (c :: l) = (Off1 wt c ∧ Off wt l) := id rfl
@[simp] theorem off1_regs (wt : Comp → Bool) (p : Part) : Off1 wt (.regs p) = (wt (.hdr p) = false ∧ ∀ n, wt (.page p n) = false) := id rfl
@[simp] theorem off1_hdr (wt : Comp → Bool) (p : Part) : Off1 wt (.hdr p) = (wt (.hdr p) = false) := id rfl
@[simp] theorem off1_page (wt : Comp → Bool) (p : Part) (n : Nat) : Off1 wt (.page p n) = (wt (.page p n) = false) := id rfl
@[simp] theorem off1_ltc (wt : Comp → Bool) (p : Part) : Off1 wt (.ltc p) = (wt (.ltc p) = false) := id rfl
@[simp] theorem off1_log (wt : Comp → Bool) (p : Part) : Off1 wt (.log p) = (wt (.log p) = false) := id rfl
@[simp] theorem off1_ports (wt : Comp → Bool) (p : Part) : Off1 wt (.ports p) = (wt (.ports p) = false) := id rfl
@[simp] theorem off1_sync (wt : Comp → Bool) (p : Part) : Off1 wt (.sync p) = (wt (.sync p) = false) := id rfl
@[simp] theorem off1_chip (wt : Comp → Bool) (p : Part) : Off1 wt (.chip p) = (wt (.chip p) = false) := id rfl
@[simp] theorem off1_core (wt : Comp → Bool) : Off1 wt .core = (wt .core = false) := id rfl
@[simp] theorem off1_mem (wt : Comp → Bool) : Off1 wt .mem = (wt .mem = false) := id rfl
@[simp] theorem off1_pool (wt : Comp → Bool) : Off1 wt .pool = (wt .pool = false) := id rfl
@[simp] theorem off1_progs (wt : Comp → Bool) : Off1 wt .progs = (wt .progs = false) := id rfl
@[simp] theorem off1_svc (wt : Comp → Bool) : Off1 wt .svc = (wt .svc = false) := id rfl
@[simp] theorem off1_herds (wt : Comp → Bool) : Off1 wt .herds = (wt .herds = false) := id rfl
@[simp] theorem off1_hrd (wt : Comp → Bool) : Off1 wt .hrd = (wt .hrd = false) := id rfl
@[simp] theorem off1_host (wt : Comp → Bool) : Off1 wt .host = (wt .host = false) := id rfl
@[simp] theorem off1_bindings (wt : Comp → Bool) : Off1 wt .bindings = (wt .bindings = false) := id rfl
@[simp] theorem off1_dct (wt : Comp → Bool) : Off1 wt .dct = (wt .dct = false) := id rfl
@[simp] theorem off1_images (wt : Comp → Bool) : Off1 wt .images = (wt .images = false) := id rfl
@[simp] theorem off1_fw (wt : Comp → Bool) : Off1 wt .fw = (wt .fw = false) := id rfl
@[simp] theorem off1_rly (wt : Comp → Bool) : Off1 wt .rly = (wt .rly = false) := id rfl
@[simp] theorem off1_cmds (wt : Comp → Bool) : Off1 wt .cmds = (wt .cmds = false) := id rfl
@[simp] theorem off1_ddp (wt : Comp → Bool) : Off1 wt .ddp = (wt .ddp = false) := id rfl
@[simp] theorem off1_reqs (wt : Comp → Bool) : Off1 wt .reqs = (wt .reqs = false) := id rfl
@[simp] theorem off1_ag (wt : Comp → Bool) : Off1 wt .ag = (wt .ag = false) := id rfl
@[simp] theorem off1_sec (wt : Comp → Bool) : Off1 wt .sec = (wt .sec = false) := id rfl
@[simp] theorem off1_sent (wt : Comp → Bool) : Off1 wt .sent = (wt .sent = false) := id rfl
@[simp] theorem off1_free (wt : Comp → Bool) : Off1 wt .free = (wt .free = false) := id rfl

theorem off_of (wt : Comp → Bool) (l : List Comp) (h : ∀ c ∈ l, Off1 wt c) : Off wt l := by
  induction l with
  | nil => trivial
  | cons a l ih => exact ⟨h a (List.mem_cons_self ..), ih fun c hc => h c (List.mem_cons_of_mem _ hc)⟩

/-- What a watch shows of a part's registers. -/
def regsView (wt : Comp → Bool) (p : Part) (m : RegFile) : RegFile := m.filter fun e => wt (regComp p e.1)

theorem regsView_off (wt : Comp → Bool) (p : Part) (m : RegFile) (h : wt (.hdr p) = false) (h' : ∀ n, wt (.page p n) = false) : regsView wt p m = [] := by
  refine List.filter_eq_nil_iff.2 fun e _ => ?_
  simp only [regComp]
  split <;> simp [h, h']

@[simp] theorem regsView_off_eq (wt : Comp → Bool) (p : Part) (m m' : RegFile) (h : wt (.hdr p) = false) (h' : ∀ n, wt (.page p n) = false) :
    (regsView wt p m = regsView wt p m') = True := by
  rw [regsView_off _ _ _ h h', regsView_off _ _ _ h h']; simp

theorem regComp_key (p : Part) (r : Reg) (b i : Nat) : regComp p (r.key b i) = r.comp p := by
  have h : r.key b i % 2 ^ 24 = r.key 0 0 % 2 ^ 24 := by simp only [Reg.key]; omega
  simp only [Reg.comp, regComp, h]

theorem filter_insertAt {α : Type} (f : Nat → Bool) (m : SMap α) (k : Nat) (x : α) (h : f k = false) :
    (insertAt m k x).filter (fun e => f e.1) = m.filter fun e => f e.1 := by
  induction m with
  | nil => simp [insertAt, h]
  | cons a m ih =>
    obtain ⟨j, v⟩ := a
    simp only [insertAt]
    split
    · simp [List.filter_cons, h]
    · split
      · rename_i e; subst e; simp [List.filter_cons, h]
      · simp only [List.filter_cons, ih]

theorem regsView_write (wt : Comp → Bool) (p : Part) (m : RegFile) (r : Reg) (b i : Nat) (x : Word) (h : Off1 wt (r.comp p)) :
    regsView wt p (m.write r b i x) = regsView wt p m := by
  refine filter_insertAt (fun k => wt (regComp p k)) m _ x ?_
  simp only [regComp_key]
  revert h
  simp only [Reg.comp, regComp]
  split <;> simp

theorem regsView_keepIf (wt : Comp → Bool) (p : Part) (m : RegFile) (f : Nat → Word → Bool) (h : ∀ k v, wt (regComp p k) = true → f k v = true) :
    regsView wt p (keepIf f m) = regsView wt p m := by
  simp only [keepIf, regsView, List.filter_filter]
  refine List.filter_congr fun e _ => ?_
  cases hk : wt (regComp p e.1)
  · rfl
  · rw [h _ _ hk]; rfl

theorem regsView_mapVals (wt : Comp → Bool) (p : Part) (m : RegFile) (f : Nat → Word → Word) (h : ∀ k v, wt (regComp p k) = true → f k v = v) :
    regsView wt p (mapVals f m) = regsView wt p m := by
  induction m with
  | nil => rfl
  | cons a m ih =>
    obtain ⟨k, v⟩ := a
    simp only [mapVals, regsView] at ih ⊢
    by_cases hk : wt (regComp p k) = true
    · simp [h k v hk, hk, List.filter_cons, ih]
    · simp [List.filter_cons, hk, ih]

theorem lookup_filter {α : Type} (f : Nat → Bool) (m : SMap α) (k : Nat) (h : f k = true) : lookup (m.filter fun e => f e.1) k = lookup m k := by
  induction m with
  | nil => rfl
  | cons a m ih =>
    obtain ⟨j, v⟩ := a
    by_cases hj : f j = true
    · simp [List.filter_cons, hj, lookup, ih]
    · have : k ≠ j := fun e => hj (e ▸ h)
      simp [List.filter_cons, hj, lookup, ih, this]

/-- A register that a watch shows reads the same in two files of which it shows the same. -/
theorem regsView_read {wt : Comp → Bool} {p : Part} {m m' : RegFile} (h : regsView wt p m = regsView wt p m') (r : Reg) (b i : Nat)
    (hr : wt (r.comp p) = true) : m.read r b i = m'.read r b i := by
  rw [← regComp_key p r b i] at hr
  simp only [RegFile.read]
  rw [← lookup_filter (fun k => wt (regComp p k)) m _ hr, ← lookup_filter (fun k => wt (regComp p k)) m' _ hr]
  exact congrArg (fun x => (lookup x _).getD _) h

@[simp] theorem off1_comp_all (wt : Comp → Bool) (p : Part) (r : Reg) (h : wt (.hdr p) = false) (h' : ∀ n, wt (.page p n) = false) :
    Off1 wt (r.comp p) := by
  simp only [Reg.comp, regComp]; split <;> simp [h, h']

@[simp] theorem off1_ite_fld (wt : Comp → Bool) (p : Part) (c : Prop) [Decidable c] (f g : Fld) (h : Off1 wt (f.reg.comp p)) (h' : Off1 wt (g.reg.comp p)) :
    Off1 wt ((if c then f else g).reg.comp p) := by
  by_cases hc : c
  · rw [if_pos hc]; exact h
  · rw [if_neg hc]; exact h'

@[simp] theorem off1_ite_reg (wt : Comp → Bool) (p : Part) (c : Prop) [Decidable c] (f g : Reg) (h : Off1 wt (f.comp p)) (h' : Off1 wt (g.comp p)) :
    Off1 wt ((if c then f else g).comp p) := by
  by_cases hc : c
  · rw [if_pos hc]; exact h
  · rw [if_neg hc]; exact h'

/-- A key at a register's place stands where the register does. -/
theorem regComp_at (p : Part) (k : Nat) (r : Reg) (h : k % 2 ^ 24 = r.page * 4096 + r.off) (h' : r.off < 4096 ∧ r.page < 4096) : regComp p k = r.comp p := by
  have e : r.key 0 0 % 2 ^ 24 = k % 2 ^ 24 := by simp only [Reg.key]; omega
  simp only [Reg.comp, regComp, e]

/-- A register of a page code other than 0 stands in the block of its code. -/
theorem page_comp (r : Reg) (p : Part) (h : r.page % 4096 ≠ 0) : r.comp p = .page p (r.page % 4096) := by
  have hk : ¬ r.key 0 0 % 2 ^ 24 < 0x40 := by simp only [Reg.key]; omega
  simp only [Reg.comp, regComp, if_neg hk]
  congr 1
  simp only [Reg.key]; omega

/-- A register of page code 0 below 0x40 stands in the headers. -/
theorem hdr_comp (r : Reg) (p : Part) (h : r.page = 0) (h' : r.off < 0x40) : r.comp p = .hdr p := by
  have hk : r.key 0 0 % 2 ^ 24 < 0x40 := by simp only [Reg.key]; omega
  simp only [Reg.comp, regComp, if_pos hk]

/-- Every other register of page code 0 stands in the block of GLB. -/
theorem glb_comp (r : Reg) (p : Part) (h : r.page = 0) (h' : 0x40 ≤ r.off ∧ r.off < 4096) : r.comp p = .page p 0 := by
  have hk : ¬ r.key 0 0 % 2 ^ 24 < 0x40 := by simp only [Reg.key]; omega
  simp only [Reg.comp, regComp, if_neg hk]
  congr 1
  simp only [Reg.key]; omega

/-- The words of a register stand in its block. -/
theorem word_comp (r : Reg) (k : Nat) (p : Part) (h : r.page % 4096 ≠ 0) : (r.word k).comp p = .page p (r.page % 4096) := by
  have hk : ¬ (r.word k).key 0 0 % 2 ^ 24 < 0x40 := by simp only [Reg.key, Reg.word]; omega
  simp only [Reg.comp, regComp, if_neg hk]
  congr 1
  simp only [Reg.key, Reg.word]; omega

/-- A shifted field stands in its register's block. -/
theorem shift_comp (f : Fld) (d : Nat) (p : Part) (h : f.reg.page % 4096 ≠ 0) : (f.shift d).reg.comp p = .page p (f.reg.page % 4096) := by
  have hk : ¬ (f.shift d).reg.key 0 0 % 2 ^ 24 < 0x40 := by simp only [Reg.key, Fld.shift]; omega
  simp only [Reg.comp, regComp, if_neg hk]
  congr 1
  simp only [Reg.key, Fld.shift]; omega

@[simp] theorem ACN_ACN_CTL_comp (p : Part) : ACN_ACN_CTL.comp p = .page p 0x32 := page_comp ACN_ACN_CTL p (by decide)
@[simp] theorem ACN_ACN_EPOCH_NUM_comp (p : Part) : ACN_ACN_EPOCH_NUM.comp p = .page p 0x32 := page_comp ACN_ACN_EPOCH_NUM p (by decide)
@[simp] theorem ACN_RING_DROP_comp (p : Part) : ACN_RING_DROP.comp p = .page p 0x32 := page_comp ACN_RING_DROP p (by decide)
@[simp] theorem ACN_RING_PROD_comp (p : Part) : ACN_RING_PROD.comp p = .page p 0x32 := page_comp ACN_RING_PROD p (by decide)
@[simp] theorem ACN_RNG_CTL_comp (p : Part) : ACN_RNG_CTL.comp p = .page p 0x32 := page_comp ACN_RNG_CTL p (by decide)
@[simp] theorem APT_AP_CTL_comp (p : Part) : APT_AP_CTL.comp p = .page p 0x31 := page_comp APT_AP_CTL p (by decide)
@[simp] theorem APT_ATC_STS_comp (p : Part) : APT_ATC_STS.comp p = .page p 0x31 := page_comp APT_ATC_STS p (by decide)
@[simp] theorem ATT_BLK_STS_comp (p : Part) : ATT_BLK_STS.comp p = .page p 0x7 := page_comp ATT_BLK_STS p (by decide)
@[simp] theorem ATT_GEN_comp (p : Part) : ATT_GEN.comp p = .page p 0x7 := page_comp ATT_GEN p (by decide)
@[simp] theorem BLK_HITS_comp (p : Part) : BLK_HITS.comp p = .page p 0x32 := page_comp BLK_HITS p (by decide)
@[simp] theorem BLK_MISSES_comp (p : Part) : BLK_MISSES.comp p = .page p 0x32 := page_comp BLK_MISSES p (by decide)
@[simp] theorem BLK_PORT_STS_comp (p : Part) : BLK_PORT_STS.comp p = .page p 0x32 := page_comp BLK_PORT_STS p (by decide)
@[simp] theorem BLK_VICTIMS_comp (p : Part) : BLK_VICTIMS.comp p = .page p 0x32 := page_comp BLK_VICTIMS p (by decide)
@[simp] theorem BRD_IGNORED_comp (p : Part) : BRD_IGNORED.comp p = .page p 0x11 := page_comp BRD_IGNORED p (by decide)
@[simp] theorem BRD_RATE_comp (p : Part) : BRD_RATE.comp p = .page p 0x11 := page_comp BRD_RATE p (by decide)
@[simp] theorem BRD_STATS_comp (p : Part) : BRD_STATS.comp p = .page p 0x11 := page_comp BRD_STATS p (by decide)
@[simp] theorem BUF_GIRTH_comp (p : Part) : BUF_GIRTH.comp p = .page p 0x11 := page_comp BUF_GIRTH p (by decide)
@[simp] theorem BUF_MARKS_comp (p : Part) : BUF_MARKS.comp p = .page p 0x11 := page_comp BUF_MARKS p (by decide)
@[simp] theorem BUF_MCAST_comp (p : Part) : BUF_MCAST.comp p = .page p 0x11 := page_comp BUF_MCAST p (by decide)
@[simp] theorem BUF_OCC_comp (p : Part) : BUF_OCC.comp p = .page p 0x11 := page_comp BUF_OCC p (by decide)
@[simp] theorem BUF_RED_CFG_comp (p : Part) : BUF_RED_CFG.comp p = .page p 0x11 := page_comp BUF_RED_CFG p (by decide)
@[simp] theorem CGT_CELLS_comp (p : Part) : CGT_CELLS.comp p = .page p 0x12 := page_comp CGT_CELLS p (by decide)
@[simp] theorem CGT_CTL_comp (p : Part) : CGT_CTL.comp p = .page p 0x12 := page_comp CGT_CTL p (by decide)
@[simp] theorem CGT_HIST_comp (p : Part) : CGT_HIST.comp p = .page p 0x12 := page_comp CGT_HIST p (by decide)
@[simp] theorem CGT_MAP_comp (p : Part) : CGT_MAP.comp p = .page p 0x12 := page_comp CGT_MAP p (by decide)
@[simp] theorem CGT_PUSH_STS_comp (p : Part) : CGT_PUSH_STS.comp p = .page p 0x12 := page_comp CGT_PUSH_STS p (by decide)
@[simp] theorem CGT_WIN_NUM_comp (p : Part) : CGT_WIN_NUM.comp p = .page p 0x12 := page_comp CGT_WIN_NUM p (by decide)
@[simp] theorem CLK_MON_comp (p : Part) : CLK_MON.comp p = .page p 0x1 := page_comp CLK_MON p (by decide)
@[simp] theorem CLK_STS_comp (p : Part) : CLK_STS.comp p = .page p 0x1 := page_comp CLK_STS p (by decide)
@[simp] theorem CMB_GROUPS_comp (p : Part) : CMB_GROUPS.comp p = .page p 0x13 := page_comp CMB_GROUPS p (by decide)
@[simp] theorem CMB_MERGED_comp (p : Part) : CMB_MERGED.comp p = .page p 0x13 := page_comp CMB_MERGED p (by decide)
@[simp] theorem CMB_NOENTRY_comp (p : Part) : CMB_NOENTRY.comp p = .page p 0x13 := page_comp CMB_NOENTRY p (by decide)
@[simp] theorem CMB_OUT_HITS_comp (p : Part) : CMB_OUT_HITS.comp p = .page p 0x13 := page_comp CMB_OUT_HITS p (by decide)
@[simp] theorem CMB_OUT_STS_comp (p : Part) : CMB_OUT_STS.comp p = .page p 0x13 := page_comp CMB_OUT_STS p (by decide)
@[simp] theorem CMB_STS_comp (p : Part) : CMB_STS.comp p = .page p 0x13 := page_comp CMB_STS p (by decide)
@[simp] theorem CTX_APPLIED_SEQ_comp (p : Part) : CTX_APPLIED_SEQ.comp p = .page p 0xa := page_comp CTX_APPLIED_SEQ p (by decide)
@[simp] theorem CTX_APPLIED_SW_comp (p : Part) : CTX_APPLIED_SW.comp p = .page p 0xa := page_comp CTX_APPLIED_SW p (by decide)
@[simp] theorem CTX_ENTRY_comp (p : Part) : CTX_ENTRY.comp p = .page p 0xa := page_comp CTX_ENTRY p (by decide)
@[simp] theorem CTX_PTN_MASK_comp (p : Part) : CTX_PTN_MASK.comp p = .page p 0xa := page_comp CTX_PTN_MASK p (by decide)
@[simp] theorem CTX_STS_comp (p : Part) : CTX_STS.comp p = .page p 0xa := page_comp CTX_STS p (by decide)
@[simp] theorem CXD_CAPACITY_comp (p : Part) : CXD_CAPACITY.comp p = .page p 0x51 := page_comp CXD_CAPACITY p (by decide)
@[simp] theorem CXD_ERRS_comp (p : Part) : CXD_ERRS.comp p = .page p 0x51 := page_comp CXD_ERRS p (by decide)
@[simp] theorem CXD_ERR_ADDR_comp (p : Part) : CXD_ERR_ADDR.comp p = .page p 0x51 := page_comp CXD_ERR_ADDR p (by decide)
@[simp] theorem CXD_SERIAL_comp (p : Part) : CXD_SERIAL.comp p = .page p 0x51 := page_comp CXD_SERIAL p (by decide)
@[simp] theorem CXD_STS_comp (p : Part) : CXD_STS.comp p = .page p 0x51 := page_comp CXD_STS p (by decide)
@[simp] theorem CXU_HDM_VIEW_comp (p : Part) : CXU_HDM_VIEW.comp p = .page p 0x50 := page_comp CXU_HDM_VIEW p (by decide)
@[simp] theorem CXU_HOST_ERR0_comp (p : Part) : CXU_HOST_ERR0.comp p = .page p 0x50 := page_comp CXU_HOST_ERR0 p (by decide)
@[simp] theorem CXU_HOST_ERR1_comp (p : Part) : CXU_HOST_ERR1.comp p = .page p 0x50 := page_comp CXU_HOST_ERR1 p (by decide)
@[simp] theorem CXU_INV_CFG_comp (p : Part) : CXU_INV_CFG.comp p = .page p 0x50 := page_comp CXU_INV_CFG p (by decide)
@[simp] theorem CXU_INV_CONS_comp (p : Part) : CXU_INV_CONS.comp p = .page p 0x50 := page_comp CXU_INV_CONS p (by decide)
@[simp] theorem CXU_INV_PROD_comp (p : Part) : CXU_INV_PROD.comp p = .page p 0x50 := page_comp CXU_INV_PROD p (by decide)
@[simp] theorem CXU_INV_RING_BASE_comp (p : Part) : CXU_INV_RING_BASE.comp p = .page p 0x50 := page_comp CXU_INV_RING_BASE p (by decide)
@[simp] theorem CXU_INV_STS_comp (p : Part) : CXU_INV_STS.comp p = .page p 0x50 := page_comp CXU_INV_STS p (by decide)
@[simp] theorem CXU_INV_TMO_comp (p : Part) : CXU_INV_TMO.comp p = .page p 0x50 := page_comp CXU_INV_TMO p (by decide)
@[simp] theorem CXU_STS_comp (p : Part) : CXU_STS.comp p = .page p 0x50 := page_comp CXU_STS p (by decide)
@[simp] theorem DCT_DIGEST_comp (p : Part) : DCT_DIGEST.comp p = .page p 0x8 := page_comp DCT_DIGEST p (by decide)
@[simp] theorem DCT_PEND_comp (p : Part) : DCT_PEND.comp p = .page p 0x8 := page_comp DCT_PEND p (by decide)
@[simp] theorem DCT_REC_IDX_comp (p : Part) : DCT_REC_IDX.comp p = .page p 0x8 := page_comp DCT_REC_IDX p (by decide)
@[simp] theorem DCT_REC_W0_comp (p : Part) : DCT_REC_W0.comp p = .page p 0x8 := page_comp DCT_REC_W0 p (by decide)
@[simp] theorem DCT_RESULT_comp (p : Part) : DCT_RESULT.comp p = .page p 0x8 := page_comp DCT_RESULT p (by decide)
@[simp] theorem DCT_SEQ_comp (p : Part) : DCT_SEQ.comp p = .page p 0x8 := page_comp DCT_SEQ p (by decide)
@[simp] theorem DCT_SIG_CTL_comp (p : Part) : DCT_SIG_CTL.comp p = .page p 0x8 := page_comp DCT_SIG_CTL p (by decide)
@[simp] theorem DCT_STS_comp (p : Part) : DCT_STS.comp p = .page p 0x8 := page_comp DCT_STS p (by decide)
@[simp] theorem DDP_HITS_comp (p : Part) : DDP_HITS.comp p = .page p 0x22 := page_comp DDP_HITS p (by decide)
@[simp] theorem DDP_RELEASE_comp (p : Part) : DDP_RELEASE.comp p = .page p 0x22 := page_comp DDP_RELEASE p (by decide)
@[simp] theorem DDP_RESEND_comp (p : Part) : DDP_RESEND.comp p = .page p 0x22 := page_comp DDP_RESEND p (by decide)
@[simp] theorem DDP_STS_comp (p : Part) : DDP_STS.comp p = .page p 0x22 := page_comp DDP_STS p (by decide)
@[simp] theorem DIR_AGT_STS_comp (p : Part) : DIR_AGT_STS.comp p = .page p 0x31 := page_comp DIR_AGT_STS p (by decide)
@[simp] theorem DIR_EVICT_CNT_comp (p : Part) : DIR_EVICT_CNT.comp p = .page p 0x31 := page_comp DIR_EVICT_CNT p (by decide)
@[simp] theorem DIR_OL_CLEAR_comp (p : Part) : DIR_OL_CLEAR.comp p = .page p 0x31 := page_comp DIR_OL_CLEAR p (by decide)
@[simp] theorem DIR_OL_DROP_comp (p : Part) : DIR_OL_DROP.comp p = .page p 0x31 := page_comp DIR_OL_DROP p (by decide)
@[simp] theorem DIR_WB_DISCARD_comp (p : Part) : DIR_WB_DISCARD.comp p = .page p 0x31 := page_comp DIR_WB_DISCARD p (by decide)
@[simp] theorem EPC_ID_comp (p : Part) : EPC_ID.comp p = .page p 0x4 := page_comp EPC_ID p (by decide)
@[simp] theorem EPC_INJ_STS_comp (p : Part) : EPC_INJ_STS.comp p = .page p 0x4 := page_comp EPC_INJ_STS p (by decide)
@[simp] theorem EPC_SCOPE_MM_CNT_comp (p : Part) : EPC_SCOPE_MM_CNT.comp p = .page p 0x4 := page_comp EPC_SCOPE_MM_CNT p (by decide)
@[simp] theorem EPC_SCOPE_MM_LAST0_comp (p : Part) : EPC_SCOPE_MM_LAST0.comp p = .page p 0x4 := page_comp EPC_SCOPE_MM_LAST0 p (by decide)
@[simp] theorem EPC_SCOPE_MM_LAST1_comp (p : Part) : EPC_SCOPE_MM_LAST1.comp p = .page p 0x4 := page_comp EPC_SCOPE_MM_LAST1 p (by decide)
@[simp] theorem ERR_LATEST_comp (p : Part) : ERR_LATEST.comp p = .page p 0xb := page_comp ERR_LATEST p (by decide)
@[simp] theorem ERR_LOG_STS_comp (p : Part) : ERR_LOG_STS.comp p = .page p 0xb := page_comp ERR_LOG_STS p (by decide)
@[simp] theorem FPT_CTL_comp (p : Part) : FPT_CTL.comp p = .page p 0x200 := page_comp FPT_CTL p (by decide)
@[simp] theorem FPT_EVENTS_comp (p : Part) : FPT_EVENTS.comp p = .page p 0x200 := page_comp FPT_EVENTS p (by decide)
@[simp] theorem FPT_PARTNER_comp (p : Part) : FPT_PARTNER.comp p = .page p 0x200 := page_comp FPT_PARTNER p (by decide)
@[simp] theorem FPT_RTT_comp (p : Part) : FPT_RTT.comp p = .page p 0x200 := page_comp FPT_RTT p (by decide)
@[simp] theorem FPT_STS_comp (p : Part) : FPT_STS.comp p = .page p 0x200 := page_comp FPT_STS p (by decide)
@[simp] theorem FPT_TIMES_comp (p : Part) : FPT_TIMES.comp p = .page p 0x200 := page_comp FPT_TIMES p (by decide)
@[simp] theorem GLB_LAYOUT_comp (p : Part) : GLB_LAYOUT.comp p = .page p 0x0 := glb_comp GLB_LAYOUT p (by decide) (by decide)
@[simp] theorem GLB_STS_comp (p : Part) : GLB_STS.comp p = .page p 0x0 := glb_comp GLB_STS p (by decide) (by decide)
@[simp] theorem GLB_SWITCH_GROUP_comp (p : Part) : GLB_SWITCH_GROUP.comp p = .page p 0x0 := glb_comp GLB_SWITCH_GROUP p (by decide) (by decide)
@[simp] theorem HBM_ECC_CE_comp (p : Part) : HBM_ECC_CE.comp p = .page p 0x40 := page_comp HBM_ECC_CE p (by decide)
@[simp] theorem HBM_ECC_UE_comp (p : Part) : HBM_ECC_UE.comp p = .page p 0x40 := page_comp HBM_ECC_UE p (by decide)
@[simp] theorem HBM_ERR_ADDR_comp (p : Part) : HBM_ERR_ADDR.comp p = .page p 0x40 := page_comp HBM_ERR_ADDR p (by decide)
@[simp] theorem HBM_SPARES_comp (p : Part) : HBM_SPARES.comp p = .page p 0x40 := page_comp HBM_SPARES p (by decide)
@[simp] theorem HBM_STS_comp (p : Part) : HBM_STS.comp p = .page p 0x40 := page_comp HBM_STS p (by decide)
@[simp] theorem HDR_ERR_COUNT_comp (p : Part) : HDR_ERR_COUNT.comp p = .hdr p := hdr_comp HDR_ERR_COUNT p (by decide) (by decide)
@[simp] theorem HDR_ERR_FIRST_comp (p : Part) : HDR_ERR_FIRST.comp p = .hdr p := hdr_comp HDR_ERR_FIRST p (by decide) (by decide)
@[simp] theorem HDR_INT_CAUSE_comp (p : Part) : HDR_INT_CAUSE.comp p = .hdr p := hdr_comp HDR_INT_CAUSE p (by decide) (by decide)
@[simp] theorem HDR_INT_MASK_comp (p : Part) : HDR_INT_MASK.comp p = .hdr p := hdr_comp HDR_INT_MASK p (by decide) (by decide)
@[simp] theorem HDR_INT_ROUTE_comp (p : Part) : HDR_INT_ROUTE.comp p = .hdr p := hdr_comp HDR_INT_ROUTE p (by decide) (by decide)
@[simp] theorem HDR_LOCK_comp (p : Part) : HDR_LOCK.comp p = .hdr p := hdr_comp HDR_LOCK p (by decide) (by decide)
@[simp] theorem HDR_PAGE_CTL_comp (p : Part) : HDR_PAGE_CTL.comp p = .hdr p := hdr_comp HDR_PAGE_CTL p (by decide) (by decide)
@[simp] theorem HDR_PAGE_STS_comp (p : Part) : HDR_PAGE_STS.comp p = .hdr p := hdr_comp HDR_PAGE_STS p (by decide) (by decide)
@[simp] theorem HRD_CMD_STS_comp (p : Part) : HRD_CMD_STS.comp p = .page p 0x20 := page_comp HRD_CMD_STS p (by decide)
@[simp] theorem HRD_DESC_comp (p : Part) : HRD_DESC.comp p = .page p 0x20 := page_comp HRD_DESC p (by decide)
@[simp] theorem HRD_SIG_MISMATCH_comp (p : Part) : HRD_SIG_MISMATCH.comp p = .page p 0x20 := page_comp HRD_SIG_MISMATCH p (by decide)
@[simp] theorem LNK_FLIT_ERR_comp (p : Part) : LNK_FLIT_ERR.comp p = .page p 0x280 := page_comp LNK_FLIT_ERR p (by decide)
@[simp] theorem LNK_PEER_ID_comp (p : Part) : LNK_PEER_ID.comp p = .page p 0x280 := page_comp LNK_PEER_ID p (by decide)
@[simp] theorem LNK_REKEY_comp (p : Part) : LNK_REKEY.comp p = .page p 0x280 := page_comp LNK_REKEY p (by decide)
@[simp] theorem LNK_RETRY_comp (p : Part) : LNK_RETRY.comp p = .page p 0x280 := page_comp LNK_RETRY p (by decide)
@[simp] theorem LNK_SEAL_ERR_comp (p : Part) : LNK_SEAL_ERR.comp p = .page p 0x280 := page_comp LNK_SEAL_ERR p (by decide)
@[simp] theorem LNK_STS_comp (p : Part) : LNK_STS.comp p = .page p 0x280 := page_comp LNK_STS p (by decide)
@[simp] theorem LNK_TX_CTR_comp (p : Part) : LNK_TX_CTR.comp p = .page p 0x280 := page_comp LNK_TX_CTR p (by decide)
@[simp] theorem MGT_CORE_STS_comp (p : Part) : MGT_CORE_STS.comp p = .page p 0x4 := page_comp MGT_CORE_STS p (by decide)
@[simp] theorem MGT_FEAT_comp (p : Part) : MGT_FEAT.comp p = .page p 0x4 := page_comp MGT_FEAT p (by decide)
@[simp] theorem MGT_FW_CFG_comp (p : Part) : MGT_FW_CFG.comp p = .page p 0x4 := page_comp MGT_FW_CFG p (by decide)
@[simp] theorem MGT_FW_STS_comp (p : Part) : MGT_FW_STS.comp p = .page p 0x4 := page_comp MGT_FW_STS p (by decide)
@[simp] theorem MGT_FW_VER_comp (p : Part) : MGT_FW_VER.comp p = .page p 0x4 := page_comp MGT_FW_VER p (by decide)
@[simp] theorem MGT_HB_STS_comp (p : Part) : MGT_HB_STS.comp p = .page p 0x4 := page_comp MGT_HB_STS p (by decide)
@[simp] theorem MGT_MB_RSP_comp (p : Part) : MGT_MB_RSP.comp p = .page p 0x4 := page_comp MGT_MB_RSP p (by decide)
@[simp] theorem MGT_MB_STS_comp (p : Part) : MGT_MB_STS.comp p = .page p 0x4 := page_comp MGT_MB_STS p (by decide)
@[simp] theorem MGT_WDT_EVT_comp (p : Part) : MGT_WDT_EVT.comp p = .page p 0x4 := page_comp MGT_WDT_EVT p (by decide)
@[simp] theorem POL_GRAN_STS_comp (p : Part) : POL_GRAN_STS.comp p = .page p 0x30 := page_comp POL_GRAN_STS p (by decide)
@[simp] theorem POL_MAP_ENTRY_comp (p : Part) : POL_MAP_ENTRY.comp p = .page p 0x30 := page_comp POL_MAP_ENTRY p (by decide)
@[simp] theorem POL_PTN_STS_comp (p : Part) : POL_PTN_STS.comp p = .page p 0x30 := page_comp POL_PTN_STS p (by decide)
@[simp] theorem POL_SCRUB_STS_comp (p : Part) : POL_SCRUB_STS.comp p = .page p 0x30 := page_comp POL_SCRUB_STS p (by decide)
@[simp] theorem PTN_ENTRY_comp (p : Part) : PTN_ENTRY.comp p = .page p 0x9 := page_comp PTN_ENTRY p (by decide)
@[simp] theorem PTN_ROS_MASK_comp (p : Part) : PTN_ROS_MASK.comp p = .page p 0x9 := page_comp PTN_ROS_MASK p (by decide)
@[simp] theorem PTN_TKEY_comp (p : Part) : PTN_TKEY.comp p = .page p 0x9 := page_comp PTN_TKEY p (by decide)
@[simp] theorem PWR_CTL_comp (p : Part) : PWR_CTL.comp p = .page p 0x2 := page_comp PWR_CTL p (by decide)
@[simp] theorem PWR_DRAW_comp (p : Part) : PWR_DRAW.comp p = .page p 0x2 := page_comp PWR_DRAW p (by decide)
@[simp] theorem PWR_EP_RST_comp (p : Part) : PWR_EP_RST.comp p = .page p 0x2 := page_comp PWR_EP_RST p (by decide)
@[simp] theorem PWR_EVENTS_comp (p : Part) : PWR_EVENTS.comp p = .page p 0x2 := page_comp PWR_EVENTS p (by decide)
@[simp] theorem PWR_STS_comp (p : Part) : PWR_STS.comp p = .page p 0x2 := page_comp PWR_STS p (by decide)
@[simp] theorem PWR_TEMP_comp (p : Part) : PWR_TEMP.comp p = .page p 0x2 := page_comp PWR_TEMP p (by decide)
@[simp] theorem QAD_LANE_LOCK_LOSS_comp (p : Part) : QAD_LANE_LOCK_LOSS.comp p = .page p 0x100 := page_comp QAD_LANE_LOCK_LOSS p (by decide)
@[simp] theorem QAD_LANE_PAT_CTL_comp (p : Part) : QAD_LANE_PAT_CTL.comp p = .page p 0x100 := page_comp QAD_LANE_PAT_CTL p (by decide)
@[simp] theorem QAD_LANE_PAT_ERR_comp (p : Part) : QAD_LANE_PAT_ERR.comp p = .page p 0x100 := page_comp QAD_LANE_PAT_ERR p (by decide)
@[simp] theorem QAD_LANE_RX_EQ_comp (p : Part) : QAD_LANE_RX_EQ.comp p = .page p 0x100 := page_comp QAD_LANE_RX_EQ p (by decide)
@[simp] theorem QAD_LANE_STS_comp (p : Part) : QAD_LANE_STS.comp p = .page p 0x100 := page_comp QAD_LANE_STS p (by decide)
@[simp] theorem QAD_LANE_SYM_CE_comp (p : Part) : QAD_LANE_SYM_CE.comp p = .page p 0x100 := page_comp QAD_LANE_SYM_CE p (by decide)
@[simp] theorem QAD_LANE_TX_EQ_comp (p : Part) : QAD_LANE_TX_EQ.comp p = .page p 0x100 := page_comp QAD_LANE_TX_EQ p (by decide)
@[simp] theorem QAD_STS_comp (p : Part) : QAD_STS.comp p = .page p 0x100 := page_comp QAD_STS p (by decide)
@[simp] theorem QUE_Q_CFG_comp (p : Part) : QUE_Q_CFG.comp p = .page p 0x20 := page_comp QUE_Q_CFG p (by decide)
@[simp] theorem QUE_Q_DONE_comp (p : Part) : QUE_Q_DONE.comp p = .page p 0x20 := page_comp QUE_Q_DONE p (by decide)
@[simp] theorem QUE_Q_HEAD_comp (p : Part) : QUE_Q_HEAD.comp p = .page p 0x20 := page_comp QUE_Q_HEAD p (by decide)
@[simp] theorem QUE_Q_LOST_comp (p : Part) : QUE_Q_LOST.comp p = .page p 0x20 := page_comp QUE_Q_LOST p (by decide)
@[simp] theorem QUE_Q_STS_comp (p : Part) : QUE_Q_STS.comp p = .page p 0x20 := page_comp QUE_Q_STS p (by decide)
@[simp] theorem QUE_Q_TAIL_comp (p : Part) : QUE_Q_TAIL.comp p = .page p 0x20 := page_comp QUE_Q_TAIL p (by decide)
@[simp] theorem RDC_CHUNKS_comp (p : Part) : RDC_CHUNKS.comp p = .page p 0x300 := page_comp RDC_CHUNKS p (by decide)
@[simp] theorem RDC_DUTY_comp (p : Part) : RDC_DUTY.comp p = .page p 0x300 := page_comp RDC_DUTY p (by decide)
@[simp] theorem RDC_FENCE_REC_comp (p : Part) : RDC_FENCE_REC.comp p = .page p 0x300 := page_comp RDC_FENCE_REC p (by decide)
@[simp] theorem RDC_FLAG_CNT_comp (p : Part) : RDC_FLAG_CNT.comp p = .page p 0x300 := page_comp RDC_FLAG_CNT p (by decide)
@[simp] theorem RDC_OPS_comp (p : Part) : RDC_OPS.comp p = .page p 0x300 := page_comp RDC_OPS p (by decide)
@[simp] theorem RDC_RESIDUE_ERR_comp (p : Part) : RDC_RESIDUE_ERR.comp p = .page p 0x300 := page_comp RDC_RESIDUE_ERR p (by decide)
@[simp] theorem RDC_SELFTEST_STS_comp (p : Part) : RDC_SELFTEST_STS.comp p = .page p 0x300 := page_comp RDC_SELFTEST_STS p (by decide)
@[simp] theorem RDC_STS_comp (p : Part) : RDC_STS.comp p = .page p 0x300 := page_comp RDC_STS p (by decide)
@[simp] theorem RLY_DISC_comp (p : Part) : RLY_DISC.comp p = .page p 0x10 := page_comp RLY_DISC p (by decide)
@[simp] theorem RLY_DOWN_MAP_comp (p : Part) : RLY_DOWN_MAP.comp p = .page p 0x10 := page_comp RLY_DOWN_MAP p (by decide)
@[simp] theorem RLY_PMAP_X_comp (p : Part) : RLY_PMAP_X.comp p = .page p 0x10 := page_comp RLY_PMAP_X p (by decide)
@[simp] theorem RLY_RELAYED_comp (p : Part) : RLY_RELAYED.comp p = .page p 0x10 := page_comp RLY_RELAYED p (by decide)
@[simp] theorem RST_CAUSE_comp (p : Part) : RST_CAUSE.comp p = .page p 0x3 := page_comp RST_CAUSE p (by decide)
@[simp] theorem RST_STRAPS_comp (p : Part) : RST_STRAPS.comp p = .page p 0x3 := page_comp RST_STRAPS p (by decide)
@[simp] theorem RST_STS_comp (p : Part) : RST_STS.comp p = .page p 0x3 := page_comp RST_STS p (by decide)
@[simp] theorem RTE_DISC_comp (p : Part) : RTE_DISC.comp p = .page p 0x14 := page_comp RTE_DISC p (by decide)
@[simp] theorem RTE_PORT_CTL_comp (p : Part) : RTE_PORT_CTL.comp p = .page p 0x14 := page_comp RTE_PORT_CTL p (by decide)
@[simp] theorem RTE_PORT_STS_comp (p : Part) : RTE_PORT_STS.comp p = .page p 0x14 := page_comp RTE_PORT_STS p (by decide)
@[simp] theorem RTE_PROBES_comp (p : Part) : RTE_PROBES.comp p = .page p 0x14 := page_comp RTE_PROBES p (by decide)
@[simp] theorem SBP_ALERT_comp (p : Part) : SBP_ALERT.comp p = .page p 0x5 := page_comp SBP_ALERT p (by decide)
@[simp] theorem SBP_COUNTS_comp (p : Part) : SBP_COUNTS.comp p = .page p 0x5 := page_comp SBP_COUNTS p (by decide)
@[simp] theorem SBP_STS_comp (p : Part) : SBP_STS.comp p = .page p 0x5 := page_comp SBP_STS p (by decide)
@[simp] theorem SEC_ALIAS_comp (p : Part) : SEC_ALIAS.comp p = .page p 0x6 := page_comp SEC_ALIAS p (by decide)
@[simp] theorem SEC_DEVID_comp (p : Part) : SEC_DEVID.comp p = .page p 0x6 := page_comp SEC_DEVID p (by decide)
@[simp] theorem SEC_EVENTS_comp (p : Part) : SEC_EVENTS.comp p = .page p 0x6 := page_comp SEC_EVENTS p (by decide)
@[simp] theorem SEC_PEER_comp (p : Part) : SEC_PEER.comp p = .page p 0x6 := page_comp SEC_PEER p (by decide)
@[simp] theorem SEC_STS_comp (p : Part) : SEC_STS.comp p = .page p 0x6 := page_comp SEC_STS p (by decide)
@[simp] theorem SVC_CMD_STS_comp (p : Part) : SVC_CMD_STS.comp p = .page p 0x22 := page_comp SVC_CMD_STS p (by decide)
@[simp] theorem SVC_STAGE_comp (p : Part) : SVC_STAGE.comp p = .page p 0x22 := page_comp SVC_STAGE p (by decide)
@[simp] theorem SYN_CFG_comp (p : Part) : SYN_CFG.comp p = .page p 0x21 := page_comp SYN_CFG p (by decide)
@[simp] theorem SYN_HOST_MM_CNT_comp (p : Part) : SYN_HOST_MM_CNT.comp p = .page p 0x21 := page_comp SYN_HOST_MM_CNT p (by decide)
@[simp] theorem SYN_HOST_MM_LAST_comp (p : Part) : SYN_HOST_MM_LAST.comp p = .page p 0x21 := page_comp SYN_HOST_MM_LAST p (by decide)
@[simp] theorem SYN_STS_comp (p : Part) : SYN_STS.comp p = .page p 0x21 := page_comp SYN_STS p (by decide)
@[simp] theorem SYN_VALUE_comp (p : Part) : SYN_VALUE.comp p = .page p 0x21 := page_comp SYN_VALUE p (by decide)
@[simp] theorem SYN_WAITS_comp (p : Part) : SYN_WAITS.comp p = .page p 0x21 := page_comp SYN_WAITS p (by decide)
@[simp] theorem UCI_ERR_comp (p : Part) : UCI_ERR.comp p = .page p 0x40 := page_comp UCI_ERR p (by decide)
@[simp] theorem UCI_EVENTS_comp (p : Part) : UCI_EVENTS.comp p = .page p 0x40 := page_comp UCI_EVENTS p (by decide)
@[simp] theorem UCI_STS_comp (p : Part) : UCI_STS.comp p = .page p 0x40 := page_comp UCI_STS p (by decide)
@[simp] theorem WIN_GNT_ENTRY_comp (p : Part) : WIN_GNT_ENTRY.comp p = .page p 0x30 := page_comp WIN_GNT_ENTRY p (by decide)
@[simp] theorem WIN_WIN_CTL_comp (p : Part) : WIN_WIN_CTL.comp p = .page p 0x30 := page_comp WIN_WIN_CTL p (by decide)
@[simp] theorem WIN_WIN_INV_comp (p : Part) : WIN_WIN_INV.comp p = .page p 0x30 := page_comp WIN_WIN_INV p (by decide)
@[simp] theorem XBR_CELLS_comp (p : Part) : XBR_CELLS.comp p = .page p 0x10 := page_comp XBR_CELLS p (by decide)
@[simp] theorem XBR_ECC_comp (p : Part) : XBR_ECC.comp p = .page p 0x10 := page_comp XBR_ECC p (by decide)
@[simp] theorem XBR_MID_FENCE0_comp (p : Part) : XBR_MID_FENCE0.comp p = .page p 0x10 := page_comp XBR_MID_FENCE0 p (by decide)
@[simp] theorem XBR_MID_FENCE1_comp (p : Part) : XBR_MID_FENCE1.comp p = .page p 0x10 := page_comp XBR_MID_FENCE1 p (by decide)
@[simp] theorem XBR_RESEQ_comp (p : Part) : XBR_RESEQ.comp p = .page p 0x10 := page_comp XBR_RESEQ p (by decide)
@[simp] theorem XBR_STS_comp (p : Part) : XBR_STS.comp p = .page p 0x10 := page_comp XBR_STS p (by decide)
@[simp] theorem ACN_ACN_EPOCH_NUM_NUM_reg : ACN_ACN_EPOCH_NUM_NUM.reg = ACN_ACN_EPOCH_NUM := id rfl
@[simp] theorem ACN_RING_DROP_DROPS_reg : ACN_RING_DROP_DROPS.reg = ACN_RING_DROP := id rfl
@[simp] theorem ACN_RING_PROD_PROD_reg : ACN_RING_PROD_PROD.reg = ACN_RING_PROD := id rfl
@[simp] theorem ACN_RNG_CTL_VALID_reg : ACN_RNG_CTL_VALID.reg = ACN_RNG_CTL := id rfl
@[simp] theorem APT_AP_CTL_CTX_reg : APT_AP_CTL_CTX.reg = APT_AP_CTL := id rfl
@[simp] theorem APT_AP_CTL_VALID_reg : APT_AP_CTL_VALID.reg = APT_AP_CTL := id rfl
@[simp] theorem APT_ATC_STS_FILLS_reg : APT_ATC_STS_FILLS.reg = APT_ATC_STS := id rfl
@[simp] theorem ATT_BLK_STS_CHANGES_reg : ATT_BLK_STS_CHANGES.reg = ATT_BLK_STS := id rfl
@[simp] theorem ATT_GEN_COUNT_reg : ATT_GEN_COUNT.reg = ATT_GEN := id rfl
@[simp] theorem BLK_HITS_COUNT_reg : BLK_HITS_COUNT.reg = BLK_HITS := id rfl
@[simp] theorem BLK_MISSES_COUNT_reg : BLK_MISSES_COUNT.reg = BLK_MISSES := id rfl
@[simp] theorem BLK_PORT_STS_GRAN0_reg : BLK_PORT_STS_GRAN0.reg = BLK_PORT_STS := id rfl
@[simp] theorem BLK_PORT_STS_GRAN1_reg : BLK_PORT_STS_GRAN1.reg = BLK_PORT_STS := id rfl
@[simp] theorem BLK_PORT_STS_UP0_reg : BLK_PORT_STS_UP0.reg = BLK_PORT_STS := id rfl
@[simp] theorem BLK_PORT_STS_UP1_reg : BLK_PORT_STS_UP1.reg = BLK_PORT_STS := id rfl
@[simp] theorem BLK_VICTIMS_COUNT_reg : BLK_VICTIMS_COUNT.reg = BLK_VICTIMS := id rfl
@[simp] theorem BRD_IGNORED_COUNT_reg : BRD_IGNORED_COUNT.reg = BRD_IGNORED := id rfl
@[simp] theorem BRD_RATE_RATE_reg : BRD_RATE_RATE.reg = BRD_RATE := id rfl
@[simp] theorem BRD_STATS_HELD_TICKS_reg : BRD_STATS_HELD_TICKS.reg = BRD_STATS := id rfl
@[simp] theorem BRD_STATS_MARKS_reg : BRD_STATS_MARKS.reg = BRD_STATS := id rfl
@[simp] theorem BUF_GIRTH_CELLS_reg : BUF_GIRTH_CELLS.reg = BUF_GIRTH := id rfl
@[simp] theorem BUF_MARKS_DROPPED_reg : BUF_MARKS_DROPPED.reg = BUF_MARKS := id rfl
@[simp] theorem BUF_MARKS_MARKED_reg : BUF_MARKS_MARKED.reg = BUF_MARKS := id rfl
@[simp] theorem BUF_MCAST_LOSSY_DROP_reg : BUF_MCAST_LOSSY_DROP.reg = BUF_MCAST := id rfl
@[simp] theorem BUF_OCC_PEAK_reg : BUF_OCC_PEAK.reg = BUF_OCC := id rfl
@[simp] theorem BUF_RED_CFG_ENABLE_reg : BUF_RED_CFG_ENABLE.reg = BUF_RED_CFG := id rfl
@[simp] theorem CGT_CELLS_SENT_reg : CGT_CELLS_SENT.reg = CGT_CELLS := id rfl
@[simp] theorem CGT_CELLS_STALLED_reg : CGT_CELLS_STALLED.reg = CGT_CELLS := id rfl
@[simp] theorem CGT_CTL_ENABLE_reg : CGT_CTL_ENABLE.reg = CGT_CTL := id rfl
@[simp] theorem CGT_HIST_TICKS_reg : CGT_HIST_TICKS.reg = CGT_HIST := id rfl
@[simp] theorem CGT_PUSH_STS_SENT_reg : CGT_PUSH_STS_SENT.reg = CGT_PUSH_STS := id rfl
@[simp] theorem CGT_PUSH_STS_SKIPPED_reg : CGT_PUSH_STS_SKIPPED.reg = CGT_PUSH_STS := id rfl
@[simp] theorem CGT_WIN_NUM_NUM_reg : CGT_WIN_NUM_NUM.reg = CGT_WIN_NUM := id rfl
@[simp] theorem CGT_WIN_NUM_OPEN_TICK_reg : CGT_WIN_NUM_OPEN_TICK.reg = CGT_WIN_NUM := id rfl
@[simp] theorem CLK_MON_HOLDOVERS_reg : CLK_MON_HOLDOVERS.reg = CLK_MON := id rfl
@[simp] theorem CLK_MON_REF_PPM_reg : CLK_MON_REF_PPM.reg = CLK_MON := id rfl
@[simp] theorem CLK_STS_HOLDOVER_reg : CLK_STS_HOLDOVER.reg = CLK_STS := id rfl
@[simp] theorem CLK_STS_PLL_LOCK_reg : CLK_STS_PLL_LOCK.reg = CLK_STS := id rfl
@[simp] theorem CLK_STS_REF_PRESENT_reg : CLK_STS_REF_PRESENT.reg = CLK_STS := id rfl
@[simp] theorem CMB_GROUPS_COUNT_reg : CMB_GROUPS_COUNT.reg = CMB_GROUPS := id rfl
@[simp] theorem CMB_MERGED_COUNT_reg : CMB_MERGED_COUNT.reg = CMB_MERGED := id rfl
@[simp] theorem CMB_NOENTRY_COUNT_reg : CMB_NOENTRY_COUNT.reg = CMB_NOENTRY := id rfl
@[simp] theorem CMB_OUT_HITS_ANSWERED_reg : CMB_OUT_HITS_ANSWERED.reg = CMB_OUT_HITS := id rfl
@[simp] theorem CMB_OUT_HITS_EXPIRED_reg : CMB_OUT_HITS_EXPIRED.reg = CMB_OUT_HITS := id rfl
@[simp] theorem CMB_OUT_STS_REFUSED_reg : CMB_OUT_STS_REFUSED.reg = CMB_OUT_STS := id rfl
@[simp] theorem CMB_STS_PEAK_reg : CMB_STS_PEAK.reg = CMB_STS := id rfl
@[simp] theorem CTX_APPLIED_SW_SWITCH_reg : CTX_APPLIED_SW_SWITCH.reg = CTX_APPLIED_SW := id rfl
@[simp] theorem CTX_ENTRY_CTL_PRIV_reg : CTX_ENTRY_CTL_PRIV.reg = CTX_ENTRY := id rfl
@[simp] theorem CTX_ENTRY_PARTITION_reg : CTX_ENTRY_PARTITION.reg = CTX_ENTRY := id rfl
@[simp] theorem CTX_ENTRY_VALID_reg : CTX_ENTRY_VALID.reg = CTX_ENTRY := id rfl
@[simp] theorem CTX_STS_ORPHANED_reg : CTX_STS_ORPHANED.reg = CTX_STS := id rfl
@[simp] theorem CTX_STS_QUIESCED_reg : CTX_STS_QUIESCED.reg = CTX_STS := id rfl
@[simp] theorem CXD_CAPACITY_BYTES_reg : CXD_CAPACITY_BYTES.reg = CXD_CAPACITY := id rfl
@[simp] theorem CXD_ERRS_FILL_reg : CXD_ERRS_FILL.reg = CXD_ERRS := id rfl
@[simp] theorem CXD_ERRS_WRITEBACK_reg : CXD_ERRS_WRITEBACK.reg = CXD_ERRS := id rfl
@[simp] theorem CXD_ERR_ADDR_DPA_reg : CXD_ERR_ADDR_DPA.reg = CXD_ERR_ADDR := id rfl
@[simp] theorem CXD_ERR_ADDR_KIND_reg : CXD_ERR_ADDR_KIND.reg = CXD_ERR_ADDR := id rfl
@[simp] theorem CXD_ERR_ADDR_VALID_reg : CXD_ERR_ADDR_VALID.reg = CXD_ERR_ADDR := id rfl
@[simp] theorem CXD_SERIAL_SERIAL_reg : CXD_SERIAL_SERIAL.reg = CXD_SERIAL := id rfl
@[simp] theorem CXD_STS_FAULT_reg : CXD_STS_FAULT.reg = CXD_STS := id rfl
@[simp] theorem CXD_STS_FAULT_HELD_reg : CXD_STS_FAULT_HELD.reg = CXD_STS := id rfl
@[simp] theorem CXD_STS_IDE_reg : CXD_STS_IDE.reg = CXD_STS := id rfl
@[simp] theorem CXD_STS_RATE_reg : CXD_STS_RATE.reg = CXD_STS := id rfl
@[simp] theorem CXD_STS_UP_reg : CXD_STS_UP.reg = CXD_STS := id rfl
@[simp] theorem CXD_STS_WIDTH_reg : CXD_STS_WIDTH.reg = CXD_STS := id rfl
@[simp] theorem CXU_HDM_VIEW_COMMITTED_reg : CXU_HDM_VIEW_COMMITTED.reg = CXU_HDM_VIEW := id rfl
@[simp] theorem CXU_HDM_VIEW_DB_reg : CXU_HDM_VIEW_DB.reg = CXU_HDM_VIEW := id rfl
@[simp] theorem CXU_HDM_VIEW_FIRST_SLICE_reg : CXU_HDM_VIEW_FIRST_SLICE.reg = CXU_HDM_VIEW := id rfl
@[simp] theorem CXU_HDM_VIEW_PARTITION_reg : CXU_HDM_VIEW_PARTITION.reg = CXU_HDM_VIEW := id rfl
@[simp] theorem CXU_HDM_VIEW_SLICES_reg : CXU_HDM_VIEW_SLICES.reg = CXU_HDM_VIEW := id rfl
@[simp] theorem CXU_HOST_ERR0_DPA_reg : CXU_HOST_ERR0_DPA.reg = CXU_HOST_ERR0 := id rfl
@[simp] theorem CXU_HOST_ERR0_STATUS_reg : CXU_HOST_ERR0_STATUS.reg = CXU_HOST_ERR0 := id rfl
@[simp] theorem CXU_HOST_ERR0_VALID_reg : CXU_HOST_ERR0_VALID.reg = CXU_HOST_ERR0 := id rfl
@[simp] theorem CXU_HOST_ERR0_WRITE_reg : CXU_HOST_ERR0_WRITE.reg = CXU_HOST_ERR0 := id rfl
@[simp] theorem CXU_HOST_ERR1_COUNT_reg : CXU_HOST_ERR1_COUNT.reg = CXU_HOST_ERR1 := id rfl
@[simp] theorem CXU_HOST_ERR1_TICK_reg : CXU_HOST_ERR1_TICK.reg = CXU_HOST_ERR1 := id rfl
@[simp] theorem CXU_INV_CFG_ENABLE_reg : CXU_INV_CFG_ENABLE.reg = CXU_INV_CFG := id rfl
@[simp] theorem CXU_INV_PROD_INDEX_reg : CXU_INV_PROD_INDEX.reg = CXU_INV_PROD := id rfl
@[simp] theorem CXU_INV_STS_REFUSED_reg : CXU_INV_STS_REFUSED.reg = CXU_INV_STS := id rfl
@[simp] theorem CXU_STS_BI_EN_reg : CXU_STS_BI_EN.reg = CXU_STS := id rfl
@[simp] theorem CXU_STS_CXL_MODE_reg : CXU_STS_CXL_MODE.reg = CXU_STS := id rfl
@[simp] theorem CXU_STS_IDE_CM_reg : CXU_STS_IDE_CM.reg = CXU_STS := id rfl
@[simp] theorem CXU_STS_IDE_IO_reg : CXU_STS_IDE_IO.reg = CXU_STS := id rfl
@[simp] theorem CXU_STS_RATE_reg : CXU_STS_RATE.reg = CXU_STS := id rfl
@[simp] theorem CXU_STS_TSP_reg : CXU_STS_TSP.reg = CXU_STS := id rfl
@[simp] theorem CXU_STS_UP_reg : CXU_STS_UP.reg = CXU_STS := id rfl
@[simp] theorem CXU_STS_WIDTH_reg : CXU_STS_WIDTH.reg = CXU_STS := id rfl
@[simp] theorem DCT_PEND_DELIVERED_reg : DCT_PEND_DELIVERED.reg = DCT_PEND := id rfl
@[simp] theorem DCT_PEND_PENDING_reg : DCT_PEND_PENDING.reg = DCT_PEND := id rfl
@[simp] theorem DCT_REC_IDX_COUNT_reg : DCT_REC_IDX_COUNT.reg = DCT_REC_IDX := id rfl
@[simp] theorem DCT_REC_IDX_INDEX_reg : DCT_REC_IDX_INDEX.reg = DCT_REC_IDX := id rfl
@[simp] theorem DCT_RESULT_DETAIL_reg : DCT_RESULT_DETAIL.reg = DCT_RESULT := id rfl
@[simp] theorem DCT_RESULT_RECORD_reg : DCT_RESULT_RECORD.reg = DCT_RESULT := id rfl
@[simp] theorem DCT_RESULT_STATUS_reg : DCT_RESULT_STATUS.reg = DCT_RESULT := id rfl
@[simp] theorem DCT_RESULT_TICK_reg : DCT_RESULT_TICK.reg = DCT_RESULT := id rfl
@[simp] theorem DCT_SEQ_SEQ_reg : DCT_SEQ_SEQ.reg = DCT_SEQ := id rfl
@[simp] theorem DCT_SIG_CTL_ROLE_reg : DCT_SIG_CTL_ROLE.reg = DCT_SIG_CTL := id rfl
@[simp] theorem DCT_STS_FAILS_reg : DCT_STS_FAILS.reg = DCT_STS := id rfl
@[simp] theorem DCT_STS_IMG_FAIL_reg : DCT_STS_IMG_FAIL.reg = DCT_STS := id rfl
@[simp] theorem DCT_STS_IMG_STALE_reg : DCT_STS_IMG_STALE.reg = DCT_STS := id rfl
@[simp] theorem DCT_STS_OPERATOR_OK_reg : DCT_STS_OPERATOR_OK.reg = DCT_STS := id rfl
@[simp] theorem DCT_STS_STAGER_reg : DCT_STS_STAGER.reg = DCT_STS := id rfl
@[simp] theorem DCT_STS_STATE_reg : DCT_STS_STATE.reg = DCT_STS := id rfl
@[simp] theorem DCT_STS_TENANT_OK_reg : DCT_STS_TENANT_OK.reg = DCT_STS := id rfl
@[simp] theorem DCT_STS_VERIFYING_reg : DCT_STS_VERIFYING.reg = DCT_STS := id rfl
@[simp] theorem DDP_HITS_ANSWERED_reg : DDP_HITS_ANSWERED.reg = DDP_HITS := id rfl
@[simp] theorem DDP_HITS_EXPIRED_reg : DDP_HITS_EXPIRED.reg = DDP_HITS := id rfl
@[simp] theorem DDP_RELEASE_RECEIVED_reg : DDP_RELEASE_RECEIVED.reg = DDP_RELEASE := id rfl
@[simp] theorem DDP_RELEASE_SENT_reg : DDP_RELEASE_SENT.reg = DDP_RELEASE := id rfl
@[simp] theorem DDP_RESEND_SENT_reg : DDP_RESEND_SENT.reg = DDP_RESEND := id rfl
@[simp] theorem DDP_RESEND_TIMEOUTS_reg : DDP_RESEND_TIMEOUTS.reg = DDP_RESEND := id rfl
@[simp] theorem DDP_STS_REFUSED_reg : DDP_STS_REFUSED.reg = DDP_STS := id rfl
@[simp] theorem DIR_AGT_STS_CAUSE_reg : DIR_AGT_STS_CAUSE.reg = DIR_AGT_STS := id rfl
@[simp] theorem DIR_AGT_STS_STATE_reg : DIR_AGT_STS_STATE.reg = DIR_AGT_STS := id rfl
@[simp] theorem DIR_EVICT_CNT_COUNT_reg : DIR_EVICT_CNT_COUNT.reg = DIR_EVICT_CNT := id rfl
@[simp] theorem DIR_OL_CLEAR_ALL_reg : DIR_OL_CLEAR_ALL.reg = DIR_OL_CLEAR := id rfl
@[simp] theorem DIR_OL_CLEAR_BUSY_reg : DIR_OL_CLEAR_BUSY.reg = DIR_OL_CLEAR := id rfl
@[simp] theorem DIR_OL_CLEAR_LINE_reg : DIR_OL_CLEAR_LINE.reg = DIR_OL_CLEAR := id rfl
@[simp] theorem DIR_OL_CLEAR_PARTITION_reg : DIR_OL_CLEAR_PARTITION.reg = DIR_OL_CLEAR := id rfl
@[simp] theorem DIR_OL_DROP_COUNT_reg : DIR_OL_DROP_COUNT.reg = DIR_OL_DROP := id rfl
@[simp] theorem DIR_WB_DISCARD_COUNT_reg : DIR_WB_DISCARD_COUNT.reg = DIR_WB_DISCARD := id rfl
@[simp] theorem EPC_ID_LINK_MODE_reg : EPC_ID_LINK_MODE.reg = EPC_ID := id rfl
@[simp] theorem EPC_ID_NODE_ID_reg : EPC_ID_NODE_ID.reg = EPC_ID := id rfl
@[simp] theorem EPC_ID_NODE_VALID_reg : EPC_ID_NODE_VALID.reg = EPC_ID := id rfl
@[simp] theorem EPC_INJ_STS_TAG_WAITS_reg : EPC_INJ_STS_TAG_WAITS.reg = EPC_INJ_STS := id rfl
@[simp] theorem EPC_SCOPE_MM_CNT_COUNT_reg : EPC_SCOPE_MM_CNT_COUNT.reg = EPC_SCOPE_MM_CNT := id rfl
@[simp] theorem EPC_SCOPE_MM_LAST0_ACQ_QUEUE_reg : EPC_SCOPE_MM_LAST0_ACQ_QUEUE.reg = EPC_SCOPE_MM_LAST0 := id rfl
@[simp] theorem EPC_SCOPE_MM_LAST0_ACQ_SCOPE_reg : EPC_SCOPE_MM_LAST0_ACQ_SCOPE.reg = EPC_SCOPE_MM_LAST0 := id rfl
@[simp] theorem EPC_SCOPE_MM_LAST0_REL_KIND_reg : EPC_SCOPE_MM_LAST0_REL_KIND.reg = EPC_SCOPE_MM_LAST0 := id rfl
@[simp] theorem EPC_SCOPE_MM_LAST0_REL_NODE_reg : EPC_SCOPE_MM_LAST0_REL_NODE.reg = EPC_SCOPE_MM_LAST0 := id rfl
@[simp] theorem EPC_SCOPE_MM_LAST0_REL_QUEUE_reg : EPC_SCOPE_MM_LAST0_REL_QUEUE.reg = EPC_SCOPE_MM_LAST0 := id rfl
@[simp] theorem EPC_SCOPE_MM_LAST0_REL_SCOPE_reg : EPC_SCOPE_MM_LAST0_REL_SCOPE.reg = EPC_SCOPE_MM_LAST0 := id rfl
@[simp] theorem EPC_SCOPE_MM_LAST0_VALID_reg : EPC_SCOPE_MM_LAST0_VALID.reg = EPC_SCOPE_MM_LAST0 := id rfl
@[simp] theorem EPC_SCOPE_MM_LAST1_HOLDER_ID_reg : EPC_SCOPE_MM_LAST1_HOLDER_ID.reg = EPC_SCOPE_MM_LAST1 := id rfl
@[simp] theorem EPC_SCOPE_MM_LAST1_HOLDER_KIND_reg : EPC_SCOPE_MM_LAST1_HOLDER_KIND.reg = EPC_SCOPE_MM_LAST1 := id rfl
@[simp] theorem EPC_SCOPE_MM_LAST1_SYNC_INDEX_reg : EPC_SCOPE_MM_LAST1_SYNC_INDEX.reg = EPC_SCOPE_MM_LAST1 := id rfl
@[simp] theorem EPC_SCOPE_MM_LAST1_TICK_reg : EPC_SCOPE_MM_LAST1_TICK.reg = EPC_SCOPE_MM_LAST1 := id rfl
@[simp] theorem ERR_LATEST_CODE_reg : ERR_LATEST_CODE.reg = ERR_LATEST := id rfl
@[simp] theorem ERR_LATEST_PAGE_reg : ERR_LATEST_PAGE.reg = ERR_LATEST := id rfl
@[simp] theorem ERR_LATEST_TICK_reg : ERR_LATEST_TICK.reg = ERR_LATEST := id rfl
@[simp] theorem ERR_LOG_STS_DROPS_reg : ERR_LOG_STS_DROPS.reg = ERR_LOG_STS := id rfl
@[simp] theorem FPT_CTL_DISABLE_reg : FPT_CTL_DISABLE.reg = FPT_CTL := id rfl
@[simp] theorem FPT_CTL_LPBK_reg : FPT_CTL_LPBK.reg = FPT_CTL := id rfl
@[simp] theorem FPT_EVENTS_FAILS_reg : FPT_EVENTS_FAILS.reg = FPT_EVENTS := id rfl
@[simp] theorem FPT_EVENTS_RETRAINS_reg : FPT_EVENTS_RETRAINS.reg = FPT_EVENTS := id rfl
@[simp] theorem FPT_EVENTS_SHEDS_reg : FPT_EVENTS_SHEDS.reg = FPT_EVENTS := id rfl
@[simp] theorem FPT_EVENTS_TACKUPS_reg : FPT_EVENTS_TACKUPS.reg = FPT_EVENTS := id rfl
@[simp] theorem FPT_RTT_NS_reg : FPT_RTT_NS.reg = FPT_RTT := id rfl
@[simp] theorem FPT_STS_FAULT_reg : FPT_STS_FAULT.reg = FPT_STS := id rfl
@[simp] theorem FPT_STS_LANES_reg : FPT_STS_LANES.reg = FPT_STS := id rfl
@[simp] theorem FPT_STS_RATE_reg : FPT_STS_RATE.reg = FPT_STS := id rfl
@[simp] theorem FPT_STS_REACH_reg : FPT_STS_REACH.reg = FPT_STS := id rfl
@[simp] theorem FPT_STS_RETRAINING_reg : FPT_STS_RETRAINING.reg = FPT_STS := id rfl
@[simp] theorem FPT_STS_SHEDDING_reg : FPT_STS_SHEDDING.reg = FPT_STS := id rfl
@[simp] theorem FPT_STS_STAGE_reg : FPT_STS_STAGE.reg = FPT_STS := id rfl
@[simp] theorem FPT_STS_WIDTH_reg : FPT_STS_WIDTH.reg = FPT_STS := id rfl
@[simp] theorem FPT_TIMES_RETRAIN_TICKS_reg : FPT_TIMES_RETRAIN_TICKS.reg = FPT_TIMES := id rfl
@[simp] theorem FPT_TIMES_TACK_TICKS_reg : FPT_TIMES_TACK_TICKS.reg = FPT_TIMES := id rfl
@[simp] theorem GLB_LAYOUT_ACTIVE_X4_reg : GLB_LAYOUT_ACTIVE_X4.reg = GLB_LAYOUT := id rfl
@[simp] theorem GLB_LAYOUT_PENDING_reg : GLB_LAYOUT_PENDING.reg = GLB_LAYOUT := id rfl
@[simp] theorem GLB_LAYOUT_X4_reg : GLB_LAYOUT_X4.reg = GLB_LAYOUT := id rfl
@[simp] theorem GLB_STS_MAIN_UP_reg : GLB_STS_MAIN_UP.reg = GLB_STS := id rfl
@[simp] theorem GLB_STS_STRAP_FAULT_reg : GLB_STS_STRAP_FAULT.reg = GLB_STS := id rfl
@[simp] theorem GLB_SWITCH_GROUP_ACTIVE_reg : GLB_SWITCH_GROUP_ACTIVE.reg = GLB_SWITCH_GROUP := id rfl
@[simp] theorem GLB_SWITCH_GROUP_GROUP_reg : GLB_SWITCH_GROUP_GROUP.reg = GLB_SWITCH_GROUP := id rfl
@[simp] theorem GLB_SWITCH_GROUP_PENDING_reg : GLB_SWITCH_GROUP_PENDING.reg = GLB_SWITCH_GROUP := id rfl
@[simp] theorem GLB_SWITCH_GROUP_WRITTEN_reg : GLB_SWITCH_GROUP_WRITTEN.reg = GLB_SWITCH_GROUP := id rfl
@[simp] theorem HBM_ECC_CE_COUNT_reg : HBM_ECC_CE_COUNT.reg = HBM_ECC_CE := id rfl
@[simp] theorem HBM_ECC_UE_COUNT_reg : HBM_ECC_UE_COUNT.reg = HBM_ECC_UE := id rfl
@[simp] theorem HBM_ERR_ADDR_KIND_reg : HBM_ERR_ADDR_KIND.reg = HBM_ERR_ADDR := id rfl
@[simp] theorem HBM_ERR_ADDR_LINE_reg : HBM_ERR_ADDR_LINE.reg = HBM_ERR_ADDR := id rfl
@[simp] theorem HBM_ERR_ADDR_TICK_reg : HBM_ERR_ADDR_TICK.reg = HBM_ERR_ADDR := id rfl
@[simp] theorem HBM_ERR_ADDR_VALID_reg : HBM_ERR_ADDR_VALID.reg = HBM_ERR_ADDR := id rfl
@[simp] theorem HBM_SPARES_LEFT_reg : HBM_SPARES_LEFT.reg = HBM_SPARES := id rfl
@[simp] theorem HBM_STS_TEMP_reg : HBM_STS_TEMP.reg = HBM_STS := id rfl
@[simp] theorem HBM_STS_THROTTLED_reg : HBM_STS_THROTTLED.reg = HBM_STS := id rfl
@[simp] theorem HBM_STS_TRAINED_reg : HBM_STS_TRAINED.reg = HBM_STS := id rfl
@[simp] theorem HDR_ERR_COUNT_COUNT_reg : HDR_ERR_COUNT_COUNT.reg = HDR_ERR_COUNT := id rfl
@[simp] theorem HDR_ERR_FIRST_CODE_reg : HDR_ERR_FIRST_CODE.reg = HDR_ERR_FIRST := id rfl
@[simp] theorem HDR_ERR_FIRST_TICK_reg : HDR_ERR_FIRST_TICK.reg = HDR_ERR_FIRST := id rfl
@[simp] theorem HDR_ERR_FIRST_VALID_reg : HDR_ERR_FIRST_VALID.reg = HDR_ERR_FIRST := id rfl
@[simp] theorem HDR_LOCK_SEQ_LOW_reg : HDR_LOCK_SEQ_LOW.reg = HDR_LOCK := id rfl
@[simp] theorem HDR_PAGE_CTL_ENABLE_reg : HDR_PAGE_CTL_ENABLE.reg = HDR_PAGE_CTL := id rfl
@[simp] theorem HDR_PAGE_CTL_FENCE_reg : HDR_PAGE_CTL_FENCE.reg = HDR_PAGE_CTL := id rfl
@[simp] theorem HDR_PAGE_STS_FAULT_reg : HDR_PAGE_STS_FAULT.reg = HDR_PAGE_STS := id rfl
@[simp] theorem HRD_CMD_STS_BUSY_reg : HRD_CMD_STS_BUSY.reg = HRD_CMD_STS := id rfl
@[simp] theorem HRD_CMD_STS_DETAIL_reg : HRD_CMD_STS_DETAIL.reg = HRD_CMD_STS := id rfl
@[simp] theorem HRD_CMD_STS_STATUS_reg : HRD_CMD_STS_STATUS.reg = HRD_CMD_STS := id rfl
@[simp] theorem HRD_SIG_MISMATCH_COUNT_reg : HRD_SIG_MISMATCH_COUNT.reg = HRD_SIG_MISMATCH := id rfl
@[simp] theorem LNK_FLIT_ERR_CRC_FAIL_reg : LNK_FLIT_ERR_CRC_FAIL.reg = LNK_FLIT_ERR := id rfl
@[simp] theorem LNK_FLIT_ERR_FEC_FAIL_reg : LNK_FLIT_ERR_FEC_FAIL.reg = LNK_FLIT_ERR := id rfl
@[simp] theorem LNK_REKEY_BUSY_reg : LNK_REKEY_BUSY.reg = LNK_REKEY := id rfl
@[simp] theorem LNK_RETRY_NAK_SENT_reg : LNK_RETRY_NAK_SENT.reg = LNK_RETRY := id rfl
@[simp] theorem LNK_RETRY_REPLAYS_reg : LNK_RETRY_REPLAYS.reg = LNK_RETRY := id rfl
@[simp] theorem LNK_SEAL_ERR_AUTH_FAIL_reg : LNK_SEAL_ERR_AUTH_FAIL.reg = LNK_SEAL_ERR := id rfl
@[simp] theorem LNK_SEAL_ERR_HDR_DISCARD_reg : LNK_SEAL_ERR_HDR_DISCARD.reg = LNK_SEAL_ERR := id rfl
@[simp] theorem LNK_STS_INITIATOR_reg : LNK_STS_INITIATOR.reg = LNK_STS := id rfl
@[simp] theorem LNK_STS_KEY_EPOCH_reg : LNK_STS_KEY_EPOCH.reg = LNK_STS := id rfl
@[simp] theorem LNK_STS_KP_RX_reg : LNK_STS_KP_RX.reg = LNK_STS := id rfl
@[simp] theorem LNK_STS_KP_TX_reg : LNK_STS_KP_TX.reg = LNK_STS := id rfl
@[simp] theorem LNK_STS_REPLAY_FILL_reg : LNK_STS_REPLAY_FILL.reg = LNK_STS := id rfl
@[simp] theorem LNK_STS_STATE_reg : LNK_STS_STATE.reg = LNK_STS := id rfl
@[simp] theorem LNK_TX_CTR_COUNT_reg : LNK_TX_CTR_COUNT.reg = LNK_TX_CTR := id rfl
@[simp] theorem MGT_CORE_STS_RECOVERY_reg : MGT_CORE_STS_RECOVERY.reg = MGT_CORE_STS := id rfl
@[simp] theorem MGT_CORE_STS_SECURITY_reg : MGT_CORE_STS_SECURITY.reg = MGT_CORE_STS := id rfl
@[simp] theorem MGT_CORE_STS_SLOT_reg : MGT_CORE_STS_SLOT.reg = MGT_CORE_STS := id rfl
@[simp] theorem MGT_FW_CFG_MANUAL_CONFIRM_reg : MGT_FW_CFG_MANUAL_CONFIRM.reg = MGT_FW_CFG := id rfl
@[simp] theorem MGT_FW_STS_ACT_STATE_reg : MGT_FW_STS_ACT_STATE.reg = MGT_FW_STS := id rfl
@[simp] theorem MGT_FW_STS_FUSED_SVN_reg : MGT_FW_STS_FUSED_SVN.reg = MGT_FW_STS := id rfl
@[simp] theorem MGT_FW_STS_RUN_SVN_reg : MGT_FW_STS_RUN_SVN.reg = MGT_FW_STS := id rfl
@[simp] theorem MGT_FW_STS_STAGED_reg : MGT_FW_STS_STAGED.reg = MGT_FW_STS := id rfl
@[simp] theorem MGT_FW_STS_STAGED_KIB_reg : MGT_FW_STS_STAGED_KIB.reg = MGT_FW_STS := id rfl
@[simp] theorem MGT_FW_STS_STAGE_BUSY_reg : MGT_FW_STS_STAGE_BUSY.reg = MGT_FW_STS := id rfl
@[simp] theorem MGT_FW_STS_STAGE_STATUS_reg : MGT_FW_STS_STAGE_STATUS.reg = MGT_FW_STS := id rfl
@[simp] theorem MGT_FW_VER_RUNNING_reg : MGT_FW_VER_RUNNING.reg = MGT_FW_VER := id rfl
@[simp] theorem MGT_FW_VER_STAGED_reg : MGT_FW_VER_STAGED.reg = MGT_FW_VER := id rfl
@[simp] theorem MGT_HB_STS_ARMED_reg : MGT_HB_STS_ARMED.reg = MGT_HB_STS := id rfl
@[simp] theorem MGT_HB_STS_BAD_reg : MGT_HB_STS_BAD.reg = MGT_HB_STS := id rfl
@[simp] theorem MGT_HB_STS_MISSES_reg : MGT_HB_STS_MISSES.reg = MGT_HB_STS := id rfl
@[simp] theorem MGT_HB_STS_ORPHANED_reg : MGT_HB_STS_ORPHANED.reg = MGT_HB_STS := id rfl
@[simp] theorem MGT_HB_STS_SESSION_reg : MGT_HB_STS_SESSION.reg = MGT_HB_STS := id rfl
@[simp] theorem MGT_MB_STS_BUSY_reg : MGT_MB_STS_BUSY.reg = MGT_MB_STS := id rfl
@[simp] theorem MGT_MB_STS_STATUS_reg : MGT_MB_STS_STATUS.reg = MGT_MB_STS := id rfl
@[simp] theorem MGT_WDT_EVT_COUNT_reg : MGT_WDT_EVT_COUNT.reg = MGT_WDT_EVT := id rfl
@[simp] theorem MGT_WDT_EVT_LAST_CORE_reg : MGT_WDT_EVT_LAST_CORE.reg = MGT_WDT_EVT := id rfl
@[simp] theorem MGT_WDT_EVT_TICK_reg : MGT_WDT_EVT_TICK.reg = MGT_WDT_EVT := id rfl
@[simp] theorem POL_GRAN_STS_INDEX_reg : POL_GRAN_STS_INDEX.reg = POL_GRAN_STS := id rfl
@[simp] theorem POL_GRAN_STS_PARTITION_reg : POL_GRAN_STS_PARTITION.reg = POL_GRAN_STS := id rfl
@[simp] theorem POL_GRAN_STS_STATE_reg : POL_GRAN_STS_STATE.reg = POL_GRAN_STS := id rfl
@[simp] theorem POL_GRAN_STS_USE_reg : POL_GRAN_STS_USE.reg = POL_GRAN_STS := id rfl
@[simp] theorem POL_PTN_STS_STATE_reg : POL_PTN_STS_STATE.reg = POL_PTN_STS := id rfl
@[simp] theorem POL_SCRUB_STS_PATROL_PASSES_reg : POL_SCRUB_STS_PATROL_PASSES.reg = POL_SCRUB_STS := id rfl
@[simp] theorem PWR_CTL_BURNISH_EN_reg : PWR_CTL_BURNISH_EN.reg = PWR_CTL := id rfl
@[simp] theorem PWR_CTL_FORCE_LEVEL_reg : PWR_CTL_FORCE_LEVEL.reg = PWR_CTL := id rfl
@[simp] theorem PWR_DRAW_AVG_reg : PWR_DRAW_AVG.reg = PWR_DRAW := id rfl
@[simp] theorem PWR_DRAW_LIMIT_reg : PWR_DRAW_LIMIT.reg = PWR_DRAW := id rfl
@[simp] theorem PWR_DRAW_NOW_reg : PWR_DRAW_NOW.reg = PWR_DRAW := id rfl
@[simp] theorem PWR_DRAW_P_NOM_reg : PWR_DRAW_P_NOM.reg = PWR_DRAW := id rfl
@[simp] theorem PWR_EP_RST_READY_reg : PWR_EP_RST_READY.reg = PWR_EP_RST := id rfl
@[simp] theorem PWR_EVENTS_FILLER_US_reg : PWR_EVENTS_FILLER_US.reg = PWR_EVENTS := id rfl
@[simp] theorem PWR_EVENTS_P1_reg : PWR_EVENTS_P1.reg = PWR_EVENTS := id rfl
@[simp] theorem PWR_EVENTS_P2_reg : PWR_EVENTS_P2.reg = PWR_EVENTS := id rfl
@[simp] theorem PWR_EVENTS_P3_reg : PWR_EVENTS_P3.reg = PWR_EVENTS := id rfl
@[simp] theorem PWR_STS_CAP_reg : PWR_STS_CAP.reg = PWR_STS := id rfl
@[simp] theorem PWR_STS_DEMAND_reg : PWR_STS_DEMAND.reg = PWR_STS := id rfl
@[simp] theorem PWR_STS_FILLING_reg : PWR_STS_FILLING.reg = PWR_STS := id rfl
@[simp] theorem PWR_STS_LEVEL_reg : PWR_STS_LEVEL.reg = PWR_STS := id rfl
@[simp] theorem PWR_STS_OVER_LIMIT_reg : PWR_STS_OVER_LIMIT.reg = PWR_STS := id rfl
@[simp] theorem PWR_STS_PWR_ALERT_reg : PWR_STS_PWR_ALERT.reg = PWR_STS := id rfl
@[simp] theorem PWR_STS_THERM_ALERT_reg : PWR_STS_THERM_ALERT.reg = PWR_STS := id rfl
@[simp] theorem PWR_TEMP_DIE_MAX_reg : PWR_TEMP_DIE_MAX.reg = PWR_TEMP := id rfl
@[simp] theorem PWR_TEMP_SENSOR_reg : PWR_TEMP_SENSOR.reg = PWR_TEMP := id rfl
@[simp] theorem QAD_LANE_LOCK_LOSS_COUNT_reg : QAD_LANE_LOCK_LOSS_COUNT.reg = QAD_LANE_LOCK_LOSS := id rfl
@[simp] theorem QAD_LANE_PAT_CTL_CHK_LOCK_reg : QAD_LANE_PAT_CTL_CHK_LOCK.reg = QAD_LANE_PAT_CTL := id rfl
@[simp] theorem QAD_LANE_PAT_ERR_ERRORS_reg : QAD_LANE_PAT_ERR_ERRORS.reg = QAD_LANE_PAT_ERR := id rfl
@[simp] theorem QAD_LANE_PAT_ERR_MBITS_reg : QAD_LANE_PAT_ERR_MBITS.reg = QAD_LANE_PAT_ERR := id rfl
@[simp] theorem QAD_LANE_RX_EQ_CTLE_reg : QAD_LANE_RX_EQ_CTLE.reg = QAD_LANE_RX_EQ := id rfl
@[simp] theorem QAD_LANE_RX_EQ_DFE1_reg : QAD_LANE_RX_EQ_DFE1.reg = QAD_LANE_RX_EQ := id rfl
@[simp] theorem QAD_LANE_STS_EQ_PASS_reg : QAD_LANE_STS_EQ_PASS.reg = QAD_LANE_STS := id rfl
@[simp] theorem QAD_LANE_STS_POL_INV_reg : QAD_LANE_STS_POL_INV.reg = QAD_LANE_STS := id rfl
@[simp] theorem QAD_LANE_STS_SNR_reg : QAD_LANE_STS_SNR.reg = QAD_LANE_STS := id rfl
@[simp] theorem QAD_LANE_STS_STATE_reg : QAD_LANE_STS_STATE.reg = QAD_LANE_STS := id rfl
@[simp] theorem QAD_LANE_SYM_CE_COUNT_reg : QAD_LANE_SYM_CE_COUNT.reg = QAD_LANE_SYM_CE := id rfl
@[simp] theorem QAD_LANE_SYM_CE_WIN_LAST_reg : QAD_LANE_SYM_CE_WIN_LAST.reg = QAD_LANE_SYM_CE := id rfl
@[simp] theorem QAD_LANE_TX_EQ_MAIN_reg : QAD_LANE_TX_EQ_MAIN.reg = QAD_LANE_TX_EQ := id rfl
@[simp] theorem QAD_LANE_TX_EQ_OVERRIDE_reg : QAD_LANE_TX_EQ_OVERRIDE.reg = QAD_LANE_TX_EQ := id rfl
@[simp] theorem QAD_LANE_TX_EQ_POST1_reg : QAD_LANE_TX_EQ_POST1.reg = QAD_LANE_TX_EQ := id rfl
@[simp] theorem QAD_LANE_TX_EQ_PRE1_reg : QAD_LANE_TX_EQ_PRE1.reg = QAD_LANE_TX_EQ := id rfl
@[simp] theorem QAD_LANE_TX_EQ_PRE2_reg : QAD_LANE_TX_EQ_PRE2.reg = QAD_LANE_TX_EQ := id rfl
@[simp] theorem QAD_STS_IN_USE_reg : QAD_STS_IN_USE.reg = QAD_STS := id rfl
@[simp] theorem QUE_Q_CFG_ENABLE_reg : QUE_Q_CFG_ENABLE.reg = QUE_Q_CFG := id rfl
@[simp] theorem QUE_Q_DONE_INDEX_reg : QUE_Q_DONE_INDEX.reg = QUE_Q_DONE := id rfl
@[simp] theorem QUE_Q_HEAD_INDEX_reg : QUE_Q_HEAD_INDEX.reg = QUE_Q_HEAD := id rfl
@[simp] theorem QUE_Q_LOST_COUNT_reg : QUE_Q_LOST_COUNT.reg = QUE_Q_LOST := id rfl
@[simp] theorem QUE_Q_LOST_FIRST_reg : QUE_Q_LOST_FIRST.reg = QUE_Q_LOST := id rfl
@[simp] theorem QUE_Q_STS_REASON_reg : QUE_Q_STS_REASON.reg = QUE_Q_STS := id rfl
@[simp] theorem QUE_Q_STS_STATE_reg : QUE_Q_STS_STATE.reg = QUE_Q_STS := id rfl
@[simp] theorem QUE_Q_TAIL_INDEX_reg : QUE_Q_TAIL_INDEX.reg = QUE_Q_TAIL := id rfl
@[simp] theorem RDC_CHUNKS_COUNT_reg : RDC_CHUNKS_COUNT.reg = RDC_CHUNKS := id rfl
@[simp] theorem RDC_DUTY_ALLOWED_reg : RDC_DUTY_ALLOWED.reg = RDC_DUTY := id rfl
@[simp] theorem RDC_FENCE_REC_CAUSE_reg : RDC_FENCE_REC_CAUSE.reg = RDC_FENCE_REC := id rfl
@[simp] theorem RDC_FENCE_REC_TICK_reg : RDC_FENCE_REC_TICK.reg = RDC_FENCE_REC := id rfl
@[simp] theorem RDC_FENCE_REC_VALID_reg : RDC_FENCE_REC_VALID.reg = RDC_FENCE_REC := id rfl
@[simp] theorem RDC_FLAG_CNT_INVALID_reg : RDC_FLAG_CNT_INVALID.reg = RDC_FLAG_CNT := id rfl
@[simp] theorem RDC_FLAG_CNT_NAN_INPUT_reg : RDC_FLAG_CNT_NAN_INPUT.reg = RDC_FLAG_CNT := id rfl
@[simp] theorem RDC_FLAG_CNT_OVERFLOW_reg : RDC_FLAG_CNT_OVERFLOW.reg = RDC_FLAG_CNT := id rfl
@[simp] theorem RDC_FLAG_CNT_SATURATE_reg : RDC_FLAG_CNT_SATURATE.reg = RDC_FLAG_CNT := id rfl
@[simp] theorem RDC_OPS_COUNT_reg : RDC_OPS_COUNT.reg = RDC_OPS := id rfl
@[simp] theorem RDC_RESIDUE_ERR_COUNT_reg : RDC_RESIDUE_ERR_COUNT.reg = RDC_RESIDUE_ERR := id rfl
@[simp] theorem RDC_SELFTEST_STS_BUSY_reg : RDC_SELFTEST_STS_BUSY.reg = RDC_SELFTEST_STS := id rfl
@[simp] theorem RDC_SELFTEST_STS_FAIL_reg : RDC_SELFTEST_STS_FAIL.reg = RDC_SELFTEST_STS := id rfl
@[simp] theorem RDC_SELFTEST_STS_FAIL_FMT_reg : RDC_SELFTEST_STS_FAIL_FMT.reg = RDC_SELFTEST_STS := id rfl
@[simp] theorem RDC_SELFTEST_STS_PASS_reg : RDC_SELFTEST_STS_PASS.reg = RDC_SELFTEST_STS := id rfl
@[simp] theorem RDC_STS_CAUSE_reg : RDC_STS_CAUSE.reg = RDC_STS := id rfl
@[simp] theorem RDC_STS_STATE_reg : RDC_STS_STATE.reg = RDC_STS := id rfl
@[simp] theorem RLY_DISC_LANE_TURN_reg : RLY_DISC_LANE_TURN.reg = RLY_DISC := id rfl
@[simp] theorem RLY_DISC_NO_ROUTE_reg : RLY_DISC_NO_ROUTE.reg = RLY_DISC := id rfl
@[simp] theorem RLY_RELAYED_COUNT_reg : RLY_RELAYED_COUNT.reg = RLY_RELAYED := id rfl
@[simp] theorem RST_CAUSE_LAST_reg : RST_CAUSE_LAST.reg = RST_CAUSE := id rfl
@[simp] theorem RST_CAUSE_WARM_COUNT_reg : RST_CAUSE_WARM_COUNT.reg = RST_CAUSE := id rfl
@[simp] theorem RST_STRAPS_PLANE_SEL_reg : RST_STRAPS_PLANE_SEL.reg = RST_STRAPS := id rfl
@[simp] theorem RST_STRAPS_ROLE_reg : RST_STRAPS_ROLE.reg = RST_STRAPS := id rfl
@[simp] theorem RST_STRAPS_SB_ADDR_reg : RST_STRAPS_SB_ADDR.reg = RST_STRAPS := id rfl
@[simp] theorem RST_STS_FABRIC_READY_reg : RST_STS_FABRIC_READY.reg = RST_STS := id rfl
@[simp] theorem RST_STS_LAST_LEVEL_reg : RST_STS_LAST_LEVEL.reg = RST_STS := id rfl
@[simp] theorem RST_STS_READY_TICK_reg : RST_STS_READY_TICK.reg = RST_STS := id rfl
@[simp] theorem RST_STS_STEP_reg : RST_STS_STEP.reg = RST_STS := id rfl
@[simp] theorem RTE_DISC_NO_ROUTE_reg : RTE_DISC_NO_ROUTE.reg = RTE_DISC := id rfl
@[simp] theorem RTE_DISC_PORT_FLUSH_reg : RTE_DISC_PORT_FLUSH.reg = RTE_DISC := id rfl
@[simp] theorem RTE_DISC_QUARANTINE_reg : RTE_DISC_QUARANTINE.reg = RTE_DISC := id rfl
@[simp] theorem RTE_DISC_UTURN_reg : RTE_DISC_UTURN.reg = RTE_DISC := id rfl
@[simp] theorem RTE_PORT_CTL_DISABLE_reg : RTE_PORT_CTL_DISABLE.reg = RTE_PORT_CTL := id rfl
@[simp] theorem RTE_PORT_CTL_NEIGHBOR_reg : RTE_PORT_CTL_NEIGHBOR.reg = RTE_PORT_CTL := id rfl
@[simp] theorem RTE_PORT_CTL_NEIGHBOR_VALID_reg : RTE_PORT_CTL_NEIGHBOR_VALID.reg = RTE_PORT_CTL := id rfl
@[simp] theorem RTE_PORT_CTL_ROUTE_OK_reg : RTE_PORT_CTL_ROUTE_OK.reg = RTE_PORT_CTL := id rfl
@[simp] theorem RTE_PORT_STS_ID_OK_reg : RTE_PORT_STS_ID_OK.reg = RTE_PORT_STS := id rfl
@[simp] theorem RTE_PORT_STS_MEMBER_OK_reg : RTE_PORT_STS_MEMBER_OK.reg = RTE_PORT_STS := id rfl
@[simp] theorem RTE_PORT_STS_PARTNER_reg : RTE_PORT_STS_PARTNER.reg = RTE_PORT_STS := id rfl
@[simp] theorem RTE_PORT_STS_ROUTE_OK_reg : RTE_PORT_STS_ROUTE_OK.reg = RTE_PORT_STS := id rfl
@[simp] theorem RTE_PORT_STS_STATE_reg : RTE_PORT_STS_STATE.reg = RTE_PORT_STS := id rfl
@[simp] theorem RTE_PROBES_ANSWERED_reg : RTE_PROBES_ANSWERED.reg = RTE_PROBES := id rfl
@[simp] theorem RTE_PROBES_NOTICES_reg : RTE_PROBES_NOTICES.reg = RTE_PROBES := id rfl
@[simp] theorem SBP_ALERT_PAGE_reg : SBP_ALERT_PAGE.reg = SBP_ALERT := id rfl
@[simp] theorem SBP_ALERT_PENDING_reg : SBP_ALERT_PENDING.reg = SBP_ALERT := id rfl
@[simp] theorem SBP_COUNTS_ERRORS_reg : SBP_COUNTS_ERRORS.reg = SBP_COUNTS := id rfl
@[simp] theorem SBP_COUNTS_MESSAGES_reg : SBP_COUNTS_MESSAGES.reg = SBP_COUNTS := id rfl
@[simp] theorem SBP_STS_DYN_ADDR_reg : SBP_STS_DYN_ADDR.reg = SBP_STS := id rfl
@[simp] theorem SBP_STS_FW_UP_reg : SBP_STS_FW_UP.reg = SBP_STS := id rfl
@[simp] theorem SBP_STS_MAIN_UP_reg : SBP_STS_MAIN_UP.reg = SBP_STS := id rfl
@[simp] theorem SBP_STS_MODE_reg : SBP_STS_MODE.reg = SBP_STS := id rfl
@[simp] theorem SBP_STS_STATIC_ADDR_reg : SBP_STS_STATIC_ADDR.reg = SBP_STS := id rfl
@[simp] theorem SEC_EVENTS_SIG_FAIL_reg : SEC_EVENTS_SIG_FAIL.reg = SEC_EVENTS := id rfl
@[simp] theorem SEC_EVENTS_SPDM_FAIL_reg : SEC_EVENTS_SPDM_FAIL.reg = SEC_EVENTS := id rfl
@[simp] theorem SEC_STS_ALIAS_READY_reg : SEC_STS_ALIAS_READY.reg = SEC_STS := id rfl
@[simp] theorem SEC_STS_DEVID_READY_reg : SEC_STS_DEVID_READY.reg = SEC_STS := id rfl
@[simp] theorem SVC_CMD_STS_DETAIL_reg : SVC_CMD_STS_DETAIL.reg = SVC_CMD_STS := id rfl
@[simp] theorem SVC_CMD_STS_INSTR_reg : SVC_CMD_STS_INSTR.reg = SVC_CMD_STS := id rfl
@[simp] theorem SVC_CMD_STS_STATUS_reg : SVC_CMD_STS_STATUS.reg = SVC_CMD_STS := id rfl
@[simp] theorem SYN_CFG_ENABLE_reg : SYN_CFG_ENABLE.reg = SYN_CFG := id rfl
@[simp] theorem SYN_CFG_HERD_reg : SYN_CFG_HERD.reg = SYN_CFG := id rfl
@[simp] theorem SYN_CFG_HERD_BOUND_reg : SYN_CFG_HERD_BOUND.reg = SYN_CFG := id rfl
@[simp] theorem SYN_CFG_PARTITION_reg : SYN_CFG_PARTITION.reg = SYN_CFG := id rfl
@[simp] theorem SYN_HOST_MM_CNT_COUNT_reg : SYN_HOST_MM_CNT_COUNT.reg = SYN_HOST_MM_CNT := id rfl
@[simp] theorem SYN_HOST_MM_LAST_ACQ_SCOPE_reg : SYN_HOST_MM_LAST_ACQ_SCOPE.reg = SYN_HOST_MM_LAST := id rfl
@[simp] theorem SYN_HOST_MM_LAST_REL_KIND_reg : SYN_HOST_MM_LAST_REL_KIND.reg = SYN_HOST_MM_LAST := id rfl
@[simp] theorem SYN_HOST_MM_LAST_REL_NODE_reg : SYN_HOST_MM_LAST_REL_NODE.reg = SYN_HOST_MM_LAST := id rfl
@[simp] theorem SYN_HOST_MM_LAST_REL_QUEUE_reg : SYN_HOST_MM_LAST_REL_QUEUE.reg = SYN_HOST_MM_LAST := id rfl
@[simp] theorem SYN_HOST_MM_LAST_REL_SCOPE_reg : SYN_HOST_MM_LAST_REL_SCOPE.reg = SYN_HOST_MM_LAST := id rfl
@[simp] theorem SYN_HOST_MM_LAST_SYNC_INDEX_reg : SYN_HOST_MM_LAST_SYNC_INDEX.reg = SYN_HOST_MM_LAST := id rfl
@[simp] theorem SYN_HOST_MM_LAST_VALID_reg : SYN_HOST_MM_LAST_VALID.reg = SYN_HOST_MM_LAST := id rfl
@[simp] theorem SYN_STS_ERROR_reg : SYN_STS_ERROR.reg = SYN_STS := id rfl
@[simp] theorem SYN_STS_REASON_reg : SYN_STS_REASON.reg = SYN_STS := id rfl
@[simp] theorem SYN_STS_REL_KIND_reg : SYN_STS_REL_KIND.reg = SYN_STS := id rfl
@[simp] theorem SYN_STS_REL_NODE_reg : SYN_STS_REL_NODE.reg = SYN_STS := id rfl
@[simp] theorem SYN_STS_REL_QUEUE_reg : SYN_STS_REL_QUEUE.reg = SYN_STS := id rfl
@[simp] theorem SYN_STS_REL_SCOPE_reg : SYN_STS_REL_SCOPE.reg = SYN_STS := id rfl
@[simp] theorem SYN_WAITS_REFUSED_reg : SYN_WAITS_REFUSED.reg = SYN_WAITS := id rfl
@[simp] theorem UCI_ERR_ACC_TIMEOUT_reg : UCI_ERR_ACC_TIMEOUT.reg = UCI_ERR := id rfl
@[simp] theorem UCI_EVENTS_DEGRADES_reg : UCI_EVENTS_DEGRADES.reg = UCI_EVENTS := id rfl
@[simp] theorem UCI_EVENTS_DOWNS_reg : UCI_EVENTS_DOWNS.reg = UCI_EVENTS := id rfl
@[simp] theorem UCI_STS_MODULES_reg : UCI_STS_MODULES.reg = UCI_STS := id rfl
@[simp] theorem UCI_STS_RATE_reg : UCI_STS_RATE.reg = UCI_STS := id rfl
@[simp] theorem UCI_STS_UP_reg : UCI_STS_UP.reg = UCI_STS := id rfl
@[simp] theorem WIN_WIN_CTL_VALID_reg : WIN_WIN_CTL_VALID.reg = WIN_WIN_CTL := id rfl
@[simp] theorem XBR_CELLS_COUNT_reg : XBR_CELLS_COUNT.reg = XBR_CELLS := id rfl
@[simp] theorem XBR_ECC_CE_reg : XBR_ECC_CE.reg = XBR_ECC := id rfl
@[simp] theorem XBR_ECC_UE_reg : XBR_ECC_UE.reg = XBR_ECC := id rfl
@[simp] theorem XBR_RESEQ_PEAK_reg : XBR_RESEQ_PEAK.reg = XBR_RESEQ := id rfl
@[simp] theorem XBR_STS_MID_FENCED_reg : XBR_STS_MID_FENCED.reg = XBR_STS := id rfl
@[simp] theorem ACN_RNG_CTL_VALID_shift (p : Part) (n : Nat) : (rngF ACN_RNG_CTL_VALID n).reg.comp p = .page p 0x32 := shift_comp ACN_RNG_CTL_VALID _ p (by decide)
@[simp] theorem APT_AP_CTL_VALID_shift (p : Part) (n : Nat) : (apF APT_AP_CTL_VALID n).reg.comp p = .page p 0x31 := shift_comp APT_AP_CTL_VALID _ p (by decide)
@[simp] theorem CGT_MAP_word (p : Part) (k : Nat) : (CGT_MAP.word k).comp p = .page p 0x12 := word_comp CGT_MAP k p (by decide)
@[simp] theorem DCT_DIGEST_word (p : Part) (k : Nat) : (DCT_DIGEST.word k).comp p = .page p 0x8 := word_comp DCT_DIGEST k p (by decide)
@[simp] theorem HRD_DESC_word (p : Part) (k : Nat) : (HRD_DESC.word k).comp p = .page p 0x20 := word_comp HRD_DESC k p (by decide)
@[simp] theorem LNK_PEER_ID_word (p : Part) (k : Nat) : (LNK_PEER_ID.word k).comp p = .page p 0x280 := word_comp LNK_PEER_ID k p (by decide)
@[simp] theorem MGT_MB_RSP_word (p : Part) (k : Nat) : (MGT_MB_RSP.word k).comp p = .page p 0x4 := word_comp MGT_MB_RSP k p (by decide)
@[simp] theorem PTN_TKEY_word (p : Part) (k : Nat) : (PTN_TKEY.word k).comp p = .page p 0x9 := word_comp PTN_TKEY k p (by decide)
@[simp] theorem QAD_LANE_LOCK_LOSS_COUNT_lane (p : Part) (l : Nat) : (laneFld QAD_LANE_LOCK_LOSS_COUNT l).reg.comp p = .page p 0x100 := shift_comp QAD_LANE_LOCK_LOSS_COUNT _ p (by decide)
@[simp] theorem QAD_LANE_PAT_CTL_CHK_LOCK_lane (p : Part) (l : Nat) : (laneFld QAD_LANE_PAT_CTL_CHK_LOCK l).reg.comp p = .page p 0x100 := shift_comp QAD_LANE_PAT_CTL_CHK_LOCK _ p (by decide)
@[simp] theorem QAD_LANE_PAT_ERR_ERRORS_lane (p : Part) (l : Nat) : (laneFld QAD_LANE_PAT_ERR_ERRORS l).reg.comp p = .page p 0x100 := shift_comp QAD_LANE_PAT_ERR_ERRORS _ p (by decide)
@[simp] theorem QAD_LANE_PAT_ERR_MBITS_lane (p : Part) (l : Nat) : (laneFld QAD_LANE_PAT_ERR_MBITS l).reg.comp p = .page p 0x100 := shift_comp QAD_LANE_PAT_ERR_MBITS _ p (by decide)
@[simp] theorem QAD_LANE_RX_EQ_CTLE_lane (p : Part) (l : Nat) : (laneFld QAD_LANE_RX_EQ_CTLE l).reg.comp p = .page p 0x100 := shift_comp QAD_LANE_RX_EQ_CTLE _ p (by decide)
@[simp] theorem QAD_LANE_RX_EQ_DFE1_lane (p : Part) (l : Nat) : (laneFld QAD_LANE_RX_EQ_DFE1 l).reg.comp p = .page p 0x100 := shift_comp QAD_LANE_RX_EQ_DFE1 _ p (by decide)
@[simp] theorem QAD_LANE_STS_EQ_PASS_lane (p : Part) (l : Nat) : (laneFld QAD_LANE_STS_EQ_PASS l).reg.comp p = .page p 0x100 := shift_comp QAD_LANE_STS_EQ_PASS _ p (by decide)
@[simp] theorem QAD_LANE_STS_POL_INV_lane (p : Part) (l : Nat) : (laneFld QAD_LANE_STS_POL_INV l).reg.comp p = .page p 0x100 := shift_comp QAD_LANE_STS_POL_INV _ p (by decide)
@[simp] theorem QAD_LANE_STS_SNR_lane (p : Part) (l : Nat) : (laneFld QAD_LANE_STS_SNR l).reg.comp p = .page p 0x100 := shift_comp QAD_LANE_STS_SNR _ p (by decide)
@[simp] theorem QAD_LANE_STS_STATE_lane (p : Part) (l : Nat) : (laneFld QAD_LANE_STS_STATE l).reg.comp p = .page p 0x100 := shift_comp QAD_LANE_STS_STATE _ p (by decide)
@[simp] theorem QAD_LANE_SYM_CE_COUNT_lane (p : Part) (l : Nat) : (laneFld QAD_LANE_SYM_CE_COUNT l).reg.comp p = .page p 0x100 := shift_comp QAD_LANE_SYM_CE_COUNT _ p (by decide)
@[simp] theorem QAD_LANE_SYM_CE_WIN_LAST_lane (p : Part) (l : Nat) : (laneFld QAD_LANE_SYM_CE_WIN_LAST l).reg.comp p = .page p 0x100 := shift_comp QAD_LANE_SYM_CE_WIN_LAST _ p (by decide)
@[simp] theorem QAD_LANE_TX_EQ_MAIN_lane (p : Part) (l : Nat) : (laneFld QAD_LANE_TX_EQ_MAIN l).reg.comp p = .page p 0x100 := shift_comp QAD_LANE_TX_EQ_MAIN _ p (by decide)
@[simp] theorem QAD_LANE_TX_EQ_OVERRIDE_lane (p : Part) (l : Nat) : (laneFld QAD_LANE_TX_EQ_OVERRIDE l).reg.comp p = .page p 0x100 := shift_comp QAD_LANE_TX_EQ_OVERRIDE _ p (by decide)
@[simp] theorem QAD_LANE_TX_EQ_POST1_lane (p : Part) (l : Nat) : (laneFld QAD_LANE_TX_EQ_POST1 l).reg.comp p = .page p 0x100 := shift_comp QAD_LANE_TX_EQ_POST1 _ p (by decide)
@[simp] theorem QAD_LANE_TX_EQ_PRE1_lane (p : Part) (l : Nat) : (laneFld QAD_LANE_TX_EQ_PRE1 l).reg.comp p = .page p 0x100 := shift_comp QAD_LANE_TX_EQ_PRE1 _ p (by decide)
@[simp] theorem QAD_LANE_TX_EQ_PRE2_lane (p : Part) (l : Nat) : (laneFld QAD_LANE_TX_EQ_PRE2 l).reg.comp p = .page p 0x100 := shift_comp QAD_LANE_TX_EQ_PRE2 _ p (by decide)
@[simp] theorem SEC_ALIAS_word (p : Part) (k : Nat) : (SEC_ALIAS.word k).comp p = .page p 0x6 := word_comp SEC_ALIAS k p (by decide)
@[simp] theorem SEC_DEVID_word (p : Part) (k : Nat) : (SEC_DEVID.word k).comp p = .page p 0x6 := word_comp SEC_DEVID k p (by decide)
@[simp] theorem SEC_PEER_word (p : Part) (k : Nat) : (SEC_PEER.word k).comp p = .page p 0x6 := word_comp SEC_PEER k p (by decide)
@[simp] theorem SVC_STAGE_word (p : Part) (k : Nat) : (SVC_STAGE.word k).comp p = .page p 0x22 := word_comp SVC_STAGE k p (by decide)
@[simp] theorem pmapReg_comp (axis : Nat) (p : Part) : (pmapReg axis).comp p = .page p 0x10 := by
  simp only [pmapReg]; split
  · exact page_comp _ p (by decide)
  · split <;> exact page_comp _ p (by decide)
/-- What a watch shows of a part's half. -/
def Chip.view (wt : Comp → Bool) (p : Part) (c : Chip) :=
  (regsView wt p c.regs, pick (wt (.ltc p)) c.ltc, pick (wt (.log p)) c.log, pick (wt (.ports p)) c.ports, pick (wt (.sync p)) c.sync, pick (wt (.chip p)) c.rest)

/-- What a watch shows of the pool. -/
def Pool.view (wt : Comp → Bool) (p : Pool) := (pick (wt .mem) p.mem, pick (wt .pool) p.rest)

/-- What a watch shows of the services. -/
def Svc.view (wt : Comp → Bool) (v : Svc) := (pick (wt .progs) v.progs, pick (wt .svc) v.rest)

/-- What a watch shows of the herds. -/
def Herds.view (wt : Comp → Bool) (h : Herds) := (pick (wt .herds) h.herds, pick (wt .hrd) h.rest)

/-- What a watch shows of dual control. -/
def Dct.view (wt : Comp → Bool) (d : Dct) := (pick (wt .bindings) d.held, pick (wt .dct) d.rest)

/-- What a watch shows of the firmware. -/
def Fw.view (wt : Comp → Bool) (f : Fw) := (pick (wt .images) f.held, pick (wt .fw) f.rest)

/-- What a watch shows of the switch beyond its registers. -/
def SwState.view (wt : Comp → Bool) (x : SwState) :=
  (pick (wt .core) x.core, x.pool.view wt, x.svc.view wt, x.hrd.view wt, pick (wt .host) (x.invals, x.cxl), x.dct.view wt, x.fw.view wt)

/-- What a watch shows of the endpoint beyond its registers. -/
def EpState.view (wt : Comp → Bool) (e : EpState) :=
  (pick (wt .rly) e.rly, pick (wt .cmds) e.cmds, pick (wt .ddp) e.ddp, pick (wt .reqs) e.reqs, pick (wt .ag) e.ag, pick (wt .sec) e.secHalted)

/-- What a watch shows of the block. -/
def State.view (wt : Comp → Bool) (s : State) :=
  (s.swc.view wt .sw, s.epc.view wt .ep, s.sw.view wt, s.ep.view wt, pick (wt .sent) s.out, pick (wt .free) s.free)

variable {wt : Comp → Bool}

theorem mk_view (a b : Chip) (c : SwState) (d : EpState) (e : List Out) (f : Nat) (g : List Instr) :
    (State.mk a b c d e f g).view wt = (a.view wt .sw, b.view wt .ep, c.view wt, d.view wt, pick (wt .sent) e, pick (wt .free) f) := id rfl
@[simp] theorem view_eta (s : State) :
    (s.swc.view wt .sw, s.epc.view wt .ep, s.sw.view wt, s.ep.view wt, pick (wt .sent) s.out, pick (wt .free) s.free) = s.view wt := id rfl

@[simp] theorem chipMk_view (p : Part) (a b c d e f g h i j k l m n o q r u) :
    (Chip.mk a b c d e f g h i j k l m n o q r u).view wt p = (regsView wt p a, pick (wt (.ltc p)) b, pick (wt (.log p)) c, pick (wt (.ports p)) d,
      pick (wt (.sync p)) o, pick (wt (.chip p)) (Chip.rest (Chip.mk a b c d e f g h i j k l m n o q r u))) := id rfl

theorem onChip_view (s : State) (p : Part) (f : Chip → Chip) (h : ∀ c, (f c).view wt p = c.view wt p) : (s.onChip p f).view wt = s.view wt := by
  cases p <;> simp only [State.onChip, State.view, h]

@[simp] theorem onChip_sw_view (s : State) (f : Chip → Chip) (h : ∀ c, (f c).view wt .sw = c.view wt .sw) : (s.onChip .sw f).view wt = s.view wt :=
  onChip_view s .sw f h
@[simp] theorem onChip_ep_view (s : State) (f : Chip → Chip) (h : ∀ c, (f c).view wt .ep = c.view wt .ep) : (s.onChip .ep f).view wt = s.view wt :=
  onChip_view s .ep f h

@[simp] theorem wr_sw_view (s : State) (r : Reg) (x : Word) (b i : Nat) (h : Off wt [r.comp .sw]) : (s.wr .sw r x b i).view wt = s.view wt := by
  simp only [State.wr]
  refine onChip_sw_view _ _ fun c => ?_
  simp only [Chip.view, Chip.rest, regsView_write _ _ _ _ _ _ _ h.1]
@[simp] theorem put_sw_view (s : State) (f : Fld) (v b i : Nat) (h : Off wt [f.reg.comp .sw]) : (s.put .sw f v b i).view wt = s.view wt := by
  simp only [State.put]; exact wr_sw_view _ _ _ _ _ h
@[simp] theorem wr_ep_view (s : State) (r : Reg) (x : Word) (b i : Nat) (h : Off wt [r.comp .ep]) : (s.wr .ep r x b i).view wt = s.view wt := by
  simp only [State.wr]
  refine onChip_ep_view _ _ fun c => ?_
  simp only [Chip.view, Chip.rest, regsView_write _ _ _ _ _ _ _ h.1]
@[simp] theorem put_ep_view (s : State) (f : Fld) (v b i : Nat) (h : Off wt [f.reg.comp .ep]) : (s.put .ep f v b i).view wt = s.view wt := by
  simp only [State.put]; exact wr_ep_view _ _ _ _ _ h

/-- A key that a watch shows is at no place of a register that it does not show. -/
theorem offPlace (p : Part) (k : Nat) (r : Reg) (hw : wt (regComp p k) = true) (h' : r.off < 4096 ∧ r.page < 4096) (h : Off1 wt (r.comp p)) :
    (k % 2 ^ 24 == r.page * 4096 + r.off) = false := by
  cases e : (k % 2 ^ 24 == r.page * 4096 + r.off)
  · rfl
  · rw [regComp_at p k r (eq_of_beq e) h'] at hw
    exfalso
    revert h hw
    simp only [Reg.comp, regComp]
    split <;> intro h hw <;> simp_all

@[simp] theorem setRegs_sw_view (s : State) (g : Chip → RegFile) (h : Off wt [.regs .sw]) :
    (s.onChip .sw fun c => { c with regs := g c }).view wt = s.view wt := by
  refine onChip_sw_view _ _ fun c => ?_
  simp only [Chip.view, Chip.rest, regsView_off _ _ _ h.1.1 h.1.2]

@[simp] theorem setRegs_ep_view (s : State) (g : Chip → RegFile) (h : Off wt [.regs .ep]) :
    (s.onChip .ep fun c => { c with regs := g c }).view wt = s.view wt := by
  refine onChip_ep_view _ _ fun c => ?_
  simp only [Chip.view, Chip.rest, regsView_off _ _ _ h.1.1 h.1.2]

@[simp] theorem Written_also_view (w : Written) (on : Bool) (f : State → Written) (h : ∀ s, (f s).1.view wt = s.view wt) :
    (w.also on f).1.view wt = w.1.view wt := by
  unfold Written.also; split
  · exact h _
  · rfl

/-- Registers that a watch does not show may go. -/
theorem dropRegs_view (s : State) (p : Part) (f : Nat → Word → Bool) (h : ∀ k v, wt (regComp p k) = true → f k v = true) :
    (s.onChip p fun c => { c with regs := keepIf f c.regs }).view wt = s.view wt :=
  onChip_view s p _ fun c => by simp only [Chip.view, Chip.rest, regsView_keepIf _ _ _ _ h]

/-- Registers that a watch does not show may change. -/
theorem mapRegs_view (s : State) (p : Part) (f : Nat → Word → Word) (h : ∀ k v, wt (regComp p k) = true → f k v = v) :
    (s.onChip p fun c => { c with regs := mapVals f c.regs }).view wt = s.view wt :=
  onChip_view s p _ fun c => by simp only [Chip.view, Chip.rest, regsView_mapVals _ _ _ _ h]

/-- The readable bank of the congestion maps stands in the block of CGT. -/
theorem dropBank_view (s : State) (h : Off1 wt (CGT_HIST.comp .sw)) :
    (s.onChip .sw fun c => { c with regs := dropBank c.regs }).view wt = s.view wt := by
  unfold dropBank
  refine dropRegs_view _ _ _ fun k v hw => ?_
  have hm (i : Nat) : (CGT_MAP.word i).comp .sw = CGT_HIST.comp .sw := (word_comp CGT_MAP i .sw (by decide)).trans (page_comp CGT_HIST .sw (by decide)).symm
  have hc : CGT_CELLS.comp .sw = CGT_HIST.comp .sw := (page_comp CGT_CELLS .sw (by decide)).trans (page_comp CGT_HIST .sw (by decide)).symm
  have e1 := offPlace .sw k CGT_HIST hw (by decide) h
  have e2 := offPlace .sw k CGT_CELLS hw (by decide) (by rw [hc]; exact h)
  have e3 : ∀ i ∈ upTo 4, (k % 2 ^ 24 == (CGT_MAP.word i).page * 4096 + (CGT_MAP.word i).off) = false := fun i hi =>
    offPlace .sw k (CGT_MAP.word i) hw (by simp only [upTo, List.mem_range] at hi; simp only [Reg.word, CGT_MAP]; omega) (by rw [hm i]; exact h)
  simp only [List.cons_append, List.nil_append, Bool.not_eq_true', List.contains_eq_any_beq]
  refine List.any_eq_false.2 fun i hi => ?_
  simp only [List.mem_cons, List.mem_map] at hi
  rw [Bool.not_eq_true]
  rcases hi with rfl | rfl | ⟨a, ha, rfl⟩
  · exact e1
  · exact e2
  · exact e3 a ha

@[simp] theorem ite_view (c : Prop) [Decidable c] (a b : State) : (if c then a else b).view wt = if c then a.view wt else b.view wt := by
  split <;> rfl

@[simp] theorem foldl_view {α : Type} (l : List α) (s : State) (f : State → α → State) (h : ∀ s a, (f s a).view wt = s.view wt) :
    (l.foldl f s).view wt = s.view wt := by
  induction l generalizing s with
  | nil => rfl
  | cons a l ih => simp [ih, h]

@[simp] theorem when_view (s : State) (c : Bool) (f : State → State) (h : (f s).view wt = s.view wt) : (s.when c f).view wt = s.view wt := by
  cases c <;> simp [State.when, h]

@[simp] theorem emit_view (s : State) (o : Out) (h : Off wt [.sent]) : (s.emit o).view wt = s.view wt := by
  simp at h; simp [State.emit, State.view, h]
@[simp] theorem drawn_view (s : State) (h : Off wt [.free]) : s.drawn.view wt = s.view wt := by
  simp at h; simp [State.drawn, State.view, h]
@[simp] theorem option_elim_view {α : Type} (o : Option α) (s : State) (f : α → State) (h : ∀ a, (f a).view wt = s.view wt) :
    (o.elim s f).view wt = s.view wt := by cases o <;> simp [h]
@[simp] theorem foldl_fst_view {α β : Type} (l : List α) (x : State × β) (f : State × β → α → State × β)
    (h : ∀ s a, (f s a).1.view wt = s.1.view wt) : (l.foldl f x).1.view wt = x.1.view wt := by
  induction l generalizing x with
  | nil => rfl
  | cons a l ih => simp [ih, h]

@[simp] theorem sw_beq_ep : (Part.sw == Part.ep) = false := id rfl
@[simp] theorem ep_beq_sw : (Part.ep == Part.sw) = false := id rfl
@[simp] theorem sw_beq_sw : (Part.sw == Part.sw) = true := id rfl
@[simp] theorem ep_beq_ep : (Part.ep == Part.ep) = true := id rfl

@[simp] theorem State_onCore_frame (s : State) (f : SwCore → SwCore) (h : Off wt [.core]) : (s.onCore f).view wt = s.view wt := by
  simp at h; simp [State.onCore, State.view, SwState.view, h, -view_eta]
@[simp] theorem State_onPool_frame (s : State) (f : Pool → Pool) (h : ∀ p, (f p).view wt = p.view wt) : (s.onPool f).view wt = s.view wt := by
  simp [State.onPool, State.view, SwState.view, h, -view_eta]
@[simp] theorem State_onSvc_frame (s : State) (f : Svc → Svc) (h : ∀ p, (f p).view wt = p.view wt) : (s.onSvc f).view wt = s.view wt := by
  simp [State.onSvc, State.view, SwState.view, h, -view_eta]
@[simp] theorem State_onHrd_frame (s : State) (f : Herds → Herds) (h : ∀ p, (f p).view wt = p.view wt) : (s.onHrd f).view wt = s.view wt := by
  simp [State.onHrd, State.view, SwState.view, h, -view_eta]
@[simp] theorem State_onDct_frame (s : State) (f : Dct → Dct) (h : ∀ p, (f p).view wt = p.view wt) : (s.onDct f).view wt = s.view wt := by
  simp [State.onDct, State.view, SwState.view, h, -view_eta]
@[simp] theorem State_onFw_frame (s : State) (f : Fw → Fw) (h : ∀ p, (f p).view wt = p.view wt) : (s.onFw f).view wt = s.view wt := by
  simp [State.onFw, State.view, SwState.view, h, -view_eta]
@[simp] theorem State_onCxl_frame (s : State) (f : Cxl → Cxl) (h : Off wt [.host]) : (s.onCxl f).view wt = s.view wt := by
  simp at h; simp [State.onCxl, State.view, SwState.view, h, -view_eta]
@[simp] theorem State_onRly_frame (s : State) (f : Relay → Relay) (h : Off wt [.rly]) : (s.onRly f).view wt = s.view wt := by
  simp at h; simp [State.onRly, State.view, EpState.view, h, -view_eta]
@[simp] theorem State_onAg_frame (s : State) (f : Traffic → Traffic) (h : Off wt [.ag]) : (s.onAg f).view wt = s.view wt := by
  simp at h; simp [State.onAg, State.view, EpState.view, h, -view_eta]

@[simp] theorem invals_view (s : State) (x : List Inval) (h : Off wt [.host]) :
    ({ s with sw := { s.sw with invals := x } } : State).view wt = s.view wt := by
  simp at h; simp [State.view, SwState.view, h, -view_eta]
@[simp] theorem hostBoth_view (s : State) (x : List Inval) (c : Cxl) (h : Off wt [.host]) :
    ({ s with sw := { s.sw with invals := x, cxl := c } } : State).view wt = s.view wt := by
  simp at h; simp [State.view, SwState.view, h, -view_eta]
@[simp] theorem pend_view (s : State) (x : SMap Delivery) (h : Off wt [.dct]) :
    ({ s with sw := { s.sw with dct := { s.sw.dct with pend := x } } } : State).view wt = s.view wt := by
  simp at h; simp [State.view, SwState.view, Dct.view, Dct.rest, Dct.held, h, -view_eta]
@[simp] theorem cmds_view (s : State) (x : List Cmd) (h : Off wt [.cmds]) :
    ({ s with ep := { s.ep with cmds := x } } : State).view wt = s.view wt := by
  simp at h; simp [State.view, EpState.view, h, -view_eta]
@[simp] theorem reqs_view (s : State) (x : List Req) (h : Off wt [.reqs]) :
    ({ s with ep := { s.ep with reqs := x } } : State).view wt = s.view wt := by
  simp at h; simp [State.view, EpState.view, h, -view_eta]
@[simp] theorem ag_view (s : State) (x : Traffic) (h : Off wt [.ag]) :
    ({ s with ep := { s.ep with ag := x } } : State).view wt = s.view wt := by
  simp at h; simp [State.view, EpState.view, h, -view_eta]
@[simp] theorem sec_view (s : State) (x : Bool) (h : Off wt [.sec]) :
    ({ s with ep := { s.ep with secHalted := x } } : State).view wt = s.view wt := by
  simp at h; simp [State.view, EpState.view, h, -view_eta]

@[simp] theorem when_true (s : State) (f : State → State) : s.when true f = f s := id rfl
@[simp] theorem when_false (s : State) (f : State → State) : s.when false f = s := id rfl

theorem pick_eq {α : Type} {b : Bool} {x y : α} (h : pick b x = pick b y) (hb : b = true) : x = y := by
  subst hb; simpa [pick] using h

/-- A watch that shows the same of two states says that they hold the same in every watched component. -/
theorem view_sameIn (s t : State) (h : t.view wt = s.view wt) (hr : ∀ p, wt (.regs p) = true → wt (.hdr p) = true ∧ ∀ n, wt (.page p n) = true)
    (c : Comp) (hc : wt c = true) : s.sameIn t c := by
  have full : ∀ (p : Part) (m : RegFile), wt (.regs p) = true → regsView wt p m = m := by
    intro p m hp
    obtain ⟨h1, h2⟩ := hr p hp
    refine List.filter_eq_self.2 fun e _ => ?_
    simp only [regComp]
    split <;> simp [h1, h2]
  simp only [State.view, Chip.view, SwState.view, EpState.view, Pool.view, Svc.view, Herds.view, Dct.view, Fw.view, Prod.mk.injEq] at h
  obtain ⟨⟨a1, a2, a3, a4, a5, a6⟩, ⟨b1, b2, b3, b4, b5, b6⟩, ⟨c1, ⟨c2, c3⟩, ⟨c4, c5⟩, ⟨c6, c7⟩, c8, ⟨c9, c10⟩, c11, c12⟩, ⟨e1, e2, e3, e4, e5, e6⟩, f1, f2⟩ := h
  cases c with
  | regs p => cases p with
    | sw => rw [full _ _ hc, full _ _ hc] at a1; exact a1
    | ep => rw [full _ _ hc, full _ _ hc] at b1; exact b1
  | hdr p => cases p with
    | sw => exact fun r b i e => regsView_read a1 r b i (e ▸ hc)
    | ep => exact fun r b i e => regsView_read b1 r b i (e ▸ hc)
  | page p n => cases p with
    | sw => exact fun r b i e => regsView_read a1 r b i (e ▸ hc)
    | ep => exact fun r b i e => regsView_read b1 r b i (e ▸ hc)
  | ltc p => cases p with
    | sw => exact pick_eq a2 hc
    | ep => exact pick_eq b2 hc
  | log p => cases p with
    | sw => exact pick_eq a3 hc
    | ep => exact pick_eq b3 hc
  | ports p => cases p with
    | sw => exact pick_eq a4 hc
    | ep => exact pick_eq b4 hc
  | sync p => cases p with
    | sw => exact pick_eq a5 hc
    | ep => exact pick_eq b5 hc
  | chip p => cases p with
    | sw => exact pick_eq a6 hc
    | ep => exact pick_eq b6 hc
  | core => exact pick_eq c1 hc
  | mem => exact pick_eq c2 hc
  | pool => exact pick_eq c3 hc
  | progs => exact pick_eq c4 hc
  | svc => exact pick_eq c5 hc
  | herds => exact pick_eq c6 hc
  | hrd => exact pick_eq c7 hc
  | host => have := pick_eq c8 hc; exact ⟨congrArg Prod.fst this, congrArg Prod.snd this⟩
  | bindings => exact pick_eq c9 hc
  | dct => exact pick_eq c10 hc
  | images => exact pick_eq c11 hc
  | fw => exact pick_eq c12 hc
  | rly => exact pick_eq e1 hc
  | cmds => exact pick_eq e2 hc
  | ddp => exact pick_eq e3 hc
  | reqs => exact pick_eq e4 hc
  | ag => exact pick_eq e5 hc
  | sec => exact pick_eq e6 hc
  | sent => exact pick_eq f1 hc
  | free => exact pick_eq f2 hc

end Sys2Proof.Machine
end

