-- ==== Sys2Proof/Laws/FrameFabric.lean ====
section
/-! SUPPORT. The components that each operation of shared operations, packets and the fabric may change. -/

set_option Elab.async false
set_option linter.all false

namespace Sys2Proof.Machine

variable {wt : Comp → Bool}

@[simp] theorem State_count_sw_frame (s : State) (f : Fld) (n : Nat) (b : Nat) (i : Nat) (hreg : Off wt [f.reg.comp .sw]) :
    (State.count s .sw f n b i).view wt = s.view wt := by
  simp only [off_cons, off_nil, and_true] at hreg
  simp [State.count, hreg, Chip.view, Chip.rest, Pool.view, Pool.rest, Svc.view, Svc.rest, Herds.view, Herds.rest, Dct.view, Dct.rest, Dct.held, Fw.view, Fw.rest, Fw.held]

@[simp] theorem State_count_ep_frame (s : State) (f : Fld) (n : Nat) (b : Nat) (i : Nat) (hreg : Off wt [f.reg.comp .ep]) :
    (State.count s .ep f n b i).view wt = s.view wt := by
  simp only [off_cons, off_nil, and_true] at hreg
  simp [State.count, hreg, Chip.view, Chip.rest, Pool.view, Pool.rest, Svc.view, Svc.rest, Herds.view, Herds.rest, Dct.view, Dct.rest, Dct.held, Fw.view, Fw.rest, Fw.held]

@[simp] theorem State_addWrap_sw_frame (s : State) (f : Fld) (n : Nat) (b : Nat) (i : Nat) (hreg : Off wt [f.reg.comp .sw]) :
    (State.addWrap s .sw f n b i).view wt = s.view wt := by
  simp only [off_cons, off_nil, and_true] at hreg
  simp [State.addWrap, hreg, Chip.view, Chip.rest, Pool.view, Pool.rest, Svc.view, Svc.rest, Herds.view, Herds.rest, Dct.view, Dct.rest, Dct.held, Fw.view, Fw.rest, Fw.held]

@[simp] theorem State_addWrap_ep_frame (s : State) (f : Fld) (n : Nat) (b : Nat) (i : Nat) (hreg : Off wt [f.reg.comp .ep]) :
    (State.addWrap s .ep f n b i).view wt = s.view wt := by
  simp only [off_cons, off_nil, and_true] at hreg
  simp [State.addWrap, hreg, Chip.view, Chip.rest, Pool.view, Pool.rest, Svc.view, Svc.rest, Herds.view, Herds.rest, Dct.view, Dct.rest, Dct.held, Fw.view, Fw.rest, Fw.held]

@[simp] theorem State_peak_sw_frame (s : State) (f : Fld) (n : Nat) (b : Nat) (i : Nat) (hreg : Off wt [f.reg.comp .sw]) :
    (State.peak s .sw f n b i).view wt = s.view wt := by
  simp only [off_cons, off_nil, and_true] at hreg
  simp [State.peak, hreg, Chip.view, Chip.rest, Pool.view, Pool.rest, Svc.view, Svc.rest, Herds.view, Herds.rest, Dct.view, Dct.rest, Dct.held, Fw.view, Fw.rest, Fw.held]

@[simp] theorem State_peak_ep_frame (s : State) (f : Fld) (n : Nat) (b : Nat) (i : Nat) (hreg : Off wt [f.reg.comp .ep]) :
    (State.peak s .ep f n b i).view wt = s.view wt := by
  simp only [off_cons, off_nil, and_true] at hreg
  simp [State.peak, hreg, Chip.view, Chip.rest, Pool.view, Pool.rest, Svc.view, Svc.rest, Herds.view, Herds.rest, Dct.view, Dct.rest, Dct.held, Fw.view, Fw.rest, Fw.held]

@[simp] theorem State_onPort_sw_frame (s : State) (n : Nat) (f : Port → Port) (hoff : Off wt [.ports .sw]) :
    (State.onPort s .sw n f).view wt = s.view wt := by
  simp at hoff
  simp [State.onPort, hoff, Chip.view, Chip.rest, Pool.view, Pool.rest, Svc.view, Svc.rest, Herds.view, Herds.rest, Dct.view, Dct.rest, Dct.held, Fw.view, Fw.rest, Fw.held]

@[simp] theorem State_onPort_ep_frame (s : State) (n : Nat) (f : Port → Port) (hoff : Off wt [.ports .ep]) :
    (State.onPort s .ep n f).view wt = s.view wt := by
  simp at hoff
  simp [State.onPort, hoff, Chip.view, Chip.rest, Pool.view, Pool.rest, Svc.view, Svc.rest, Herds.view, Herds.rest, Dct.view, Dct.rest, Dct.held, Fw.view, Fw.rest, Fw.held]

@[simp] theorem State_alertSideband_frame (s : State) (page : Nat) (hoff : Off wt [.page .sw 0x5, .sent]) :
    (State.alertSideband s page).view wt = s.view wt := by
  simp at hoff
  simp [State.alertSideband, hoff, Chip.view, Chip.rest, Pool.view, Pool.rest, Svc.view, Svc.rest, Herds.view, Herds.rest, Dct.view, Dct.rest, Dct.held, Fw.view, Fw.rest, Fw.held]

@[simp] theorem State_deliver_sw_frame (s : State) (page : Nat) (hoff : Off wt [.page .sw 0x5, .sent]) :
    (State.deliver s .sw page).view wt = s.view wt := by
  simp at hoff
  simp [State.deliver, hoff, Chip.view, Chip.rest, Pool.view, Pool.rest, Svc.view, Svc.rest, Herds.view, Herds.rest, Dct.view, Dct.rest, Dct.held, Fw.view, Fw.rest, Fw.held]

@[simp] theorem State_deliver_ep_frame (s : State) (page : Nat) (hoff : Off wt [.sent]) :
    (State.deliver s .ep page).view wt = s.view wt := by
  simp at hoff
  simp only [State.deliver, State.when, ep_beq_sw, Bool.false_and, Bool.false_eq_true, if_false]
  split <;> simp [hoff]

@[simp] theorem State_withCauses_sw_frame (s : State) (page : Nat) (f : State → State) (hoff : Off wt [.page .sw 0x5, .sent]) (hf : ∀  s, (f  s).view wt = s.view wt) :
    (State.withCauses s .sw page f).view wt = s.view wt := by
  simp at hoff
  simp [State.withCauses, hoff, hf, Chip.view, Chip.rest, Pool.view, Pool.rest, Svc.view, Svc.rest, Herds.view, Herds.rest, Dct.view, Dct.rest, Dct.held, Fw.view, Fw.rest, Fw.held]

@[simp] theorem State_withCauses_ep_frame (s : State) (page : Nat) (f : State → State) (hoff : Off wt [.sent]) (hf : ∀  s, (f  s).view wt = s.view wt) :
    (State.withCauses s .ep page f).view wt = s.view wt := by
  simp at hoff
  simp [State.withCauses, hoff, hf, Chip.view, Chip.rest, Pool.view, Pool.rest, Svc.view, Svc.rest, Herds.view, Herds.rest, Dct.view, Dct.rest, Dct.held, Fw.view, Fw.rest, Fw.held]

@[simp] theorem State_cause_sw_frame (s : State) (page bit : Nat) (hoff : Off wt [.hdr .sw, .page .sw 0x5, .sent]) :
    (State.cause s .sw page bit).view wt = s.view wt := by
  simp at hoff
  simp [State.cause, hoff, Chip.view, Chip.rest, Pool.view, Pool.rest, Svc.view, Svc.rest, Herds.view, Herds.rest, Dct.view, Dct.rest, Dct.held, Fw.view, Fw.rest, Fw.held]

@[simp] theorem State_cause_ep_frame (s : State) (page bit : Nat) (hoff : Off wt [.hdr .ep, .sent]) :
    (State.cause s .ep page bit).view wt = s.view wt := by
  simp at hoff
  simp [State.cause, hoff, Chip.view, Chip.rest, Pool.view, Pool.rest, Svc.view, Svc.rest, Herds.view, Herds.rest, Dct.view, Dct.rest, Dct.held, Fw.view, Fw.rest, Fw.held]

@[simp] theorem State_note_sw_frame (s : State) (page code : Nat) (hoff : Off wt [.hdr .sw, .page .sw 0xb]) :
    (State.note s .sw page code).view wt = s.view wt := by
  simp at hoff
  simp [State.note, hoff, Chip.view, Chip.rest, Pool.view, Pool.rest, Svc.view, Svc.rest, Herds.view, Herds.rest, Dct.view, Dct.rest, Dct.held, Fw.view, Fw.rest, Fw.held]

@[simp] theorem State_note_ep_frame (s : State) (page code : Nat) (hoff : Off wt [.hdr .ep, .page .ep 0xb]) :
    (State.note s .ep page code).view wt = s.view wt := by
  simp at hoff
  simp [State.note, hoff, Chip.view, Chip.rest, Pool.view, Pool.rest, Svc.view, Svc.rest, Herds.view, Herds.rest, Dct.view, Dct.rest, Dct.held, Fw.view, Fw.rest, Fw.held]

@[simp] theorem State_logRec_sw_frame (s : State) (r : ErrRec) (hoff : Off wt [.hdr .sw, .page .sw 0x5, .page .sw 0xb, .log .sw, .sent]) :
    (State.logRec s .sw r).view wt = s.view wt := by
  simp at hoff
  simp [State.logRec, hoff, Chip.view, Chip.rest, Pool.view, Pool.rest, Svc.view, Svc.rest, Herds.view, Herds.rest, Dct.view, Dct.rest, Dct.held, Fw.view, Fw.rest, Fw.held]

@[simp] theorem State_logRec_ep_frame (s : State) (r : ErrRec) (hoff : Off wt [.hdr .ep, .page .ep 0xb, .log .ep, .sent]) :
    (State.logRec s .ep r).view wt = s.view wt := by
  simp at hoff
  simp [State.logRec, hoff, Chip.view, Chip.rest, Pool.view, Pool.rest, Svc.view, Svc.rest, Herds.view, Herds.rest, Dct.view, Dct.rest, Dct.held, Fw.view, Fw.rest, Fw.held]

@[simp] theorem State_event_sw_frame (s : State) (page : Nat) (e : Err) (d0 : Nat) (d1 : Nat) (sev : Option Nat) (rung : Option Nat) (esc : Bool) (status : Nat) (reason : Nat) (hoff : Off wt [.hdr .sw, .page .sw 0x5, .page .sw 0xb, .log .sw, .sent]) :
    (State.event s .sw page e d0 d1 sev rung esc status reason).view wt = s.view wt := by
  simp at hoff
  simp [State.event, hoff, Chip.view, Chip.rest, Pool.view, Pool.rest, Svc.view, Svc.rest, Herds.view, Herds.rest, Dct.view, Dct.rest, Dct.held, Fw.view, Fw.rest, Fw.held]

@[simp] theorem State_event_ep_frame (s : State) (page : Nat) (e : Err) (d0 : Nat) (d1 : Nat) (sev : Option Nat) (rung : Option Nat) (esc : Bool) (status : Nat) (reason : Nat) (hoff : Off wt [.hdr .ep, .page .ep 0xb, .log .ep, .sent]) :
    (State.event s .ep page e d0 d1 sev rung esc status reason).view wt = s.view wt := by
  simp at hoff
  simp [State.event, hoff, Chip.view, Chip.rest, Pool.view, Pool.rest, Svc.view, Svc.rest, Herds.view, Herds.rest, Dct.view, Dct.rest, Dct.held, Fw.view, Fw.rest, Fw.held]

@[simp] theorem State_attested_sw_frame (s : State) (block : Nat) (hoff : Off wt [.page .sw 0x7]) :
    (State.attested s .sw block).view wt = s.view wt := by
  simp at hoff
  simp [State.attested, hoff, Chip.view, Chip.rest, Pool.view, Pool.rest, Svc.view, Svc.rest, Herds.view, Herds.rest, Dct.view, Dct.rest, Dct.held, Fw.view, Fw.rest, Fw.held]

@[simp] theorem State_attested_ep_frame (s : State) (block : Nat) (hoff : Off wt [.page .ep 0x7]) :
    (State.attested s .ep block).view wt = s.view wt := by
  simp at hoff
  simp [State.attested, hoff, Chip.view, Chip.rest, Pool.view, Pool.rest, Svc.view, Svc.rest, Herds.view, Herds.rest, Dct.view, Dct.rest, Dct.held, Fw.view, Fw.rest, Fw.held]

@[simp] theorem State_refuse_sw_frame (s : State) (page : Nat) (hoff : Off wt [.hdr .sw, .page .sw 0xb]) :
    (State.refuse s .sw page).view wt = s.view wt := by
  simp at hoff
  simp [State.refuse, hoff, Chip.view, Chip.rest, Pool.view, Pool.rest, Svc.view, Svc.rest, Herds.view, Herds.rest, Dct.view, Dct.rest, Dct.held, Fw.view, Fw.rest, Fw.held]

@[simp] theorem State_refuse_ep_frame (s : State) (page : Nat) (hoff : Off wt [.hdr .ep, .page .ep 0xb]) :
    (State.refuse s .ep page).view wt = s.view wt := by
  simp at hoff
  simp [State.refuse, hoff, Chip.view, Chip.rest, Pool.view, Pool.rest, Svc.view, Svc.rest, Herds.view, Herds.rest, Dct.view, Dct.rest, Dct.held, Fw.view, Fw.rest, Fw.held]

@[simp] theorem State_seedLanes_sw_frame (s : State) (n : Nat) (hoff : Off wt [.ports .sw]) :
    (State.seedLanes s .sw n).view wt = s.view wt := by
  simp at hoff
  simp [State.seedLanes, hoff, Chip.view, Chip.rest, Pool.view, Pool.rest, Svc.view, Svc.rest, Herds.view, Herds.rest, Dct.view, Dct.rest, Dct.held, Fw.view, Fw.rest, Fw.held]

@[simp] theorem State_seedLanes_ep_frame (s : State) (n : Nat) (hoff : Off wt [.ports .ep]) :
    (State.seedLanes s .ep n).view wt = s.view wt := by
  simp at hoff
  simp [State.seedLanes, hoff, Chip.view, Chip.rest, Pool.view, Pool.rest, Svc.view, Svc.rest, Herds.view, Herds.rest, Dct.view, Dct.rest, Dct.held, Fw.view, Fw.rest, Fw.held]

@[simp] theorem State_wire_sw_frame (s : State) (n : Nat) (f : List Byte) (hoff : Off wt [.ports .sw, .sent]) :
    (State.wire s .sw n f).view wt = s.view wt := by
  simp at hoff
  simp [State.wire, hoff, Chip.view, Chip.rest, Pool.view, Pool.rest, Svc.view, Svc.rest, Herds.view, Herds.rest, Dct.view, Dct.rest, Dct.held, Fw.view, Fw.rest, Fw.held]

@[simp] theorem State_wire_ep_frame (s : State) (n : Nat) (f : List Byte) (hoff : Off wt [.ports .ep, .sent]) :
    (State.wire s .ep n f).view wt = s.view wt := by
  simp at hoff
  simp [State.wire, hoff, Chip.view, Chip.rest, Pool.view, Pool.rest, Svc.view, Svc.rest, Herds.view, Herds.rest, Dct.view, Dct.rest, Dct.held, Fw.view, Fw.rest, Fw.held]

@[simp] theorem State_sendFlit_sw_frame (s : State) (n type start : Nat) (payload : List Byte) (hoff : Off wt [.page .sw 0x280, .ports .sw, .sent]) :
    (State.sendFlit s .sw n type start payload).view wt = s.view wt := by
  simp at hoff
  simp [State.sendFlit, hoff, Chip.view, Chip.rest, Pool.view, Pool.rest, Svc.view, Svc.rest, Herds.view, Herds.rest, Dct.view, Dct.rest, Dct.held, Fw.view, Fw.rest, Fw.held]

@[simp] theorem State_sendFlit_ep_frame (s : State) (n type start : Nat) (payload : List Byte) (hoff : Off wt [.page .ep 0x280, .ports .ep, .sent]) :
    (State.sendFlit s .ep n type start payload).view wt = s.view wt := by
  simp at hoff
  simp [State.sendFlit, hoff, Chip.view, Chip.rest, Pool.view, Pool.rest, Svc.view, Svc.rest, Herds.view, Herds.rest, Dct.view, Dct.rest, Dct.held, Fw.view, Fw.rest, Fw.held]

@[simp] theorem State_closeGroup_sw_frame (s : State) (n : Nat) (hoff : Off wt [.page .sw 0x280, .ports .sw, .sent]) :
    (State.closeGroup s .sw n).view wt = s.view wt := by
  simp at hoff
  simp [State.closeGroup, hoff, Chip.view, Chip.rest, Pool.view, Pool.rest, Svc.view, Svc.rest, Herds.view, Herds.rest, Dct.view, Dct.rest, Dct.held, Fw.view, Fw.rest, Fw.held]

@[simp] theorem State_closeGroup_ep_frame (s : State) (n : Nat) (hoff : Off wt [.page .ep 0x280, .ports .ep, .sent]) :
    (State.closeGroup s .ep n).view wt = s.view wt := by
  simp at hoff
  simp [State.closeGroup, hoff, Chip.view, Chip.rest, Pool.view, Pool.rest, Svc.view, Svc.rest, Herds.view, Herds.rest, Dct.view, Dct.rest, Dct.held, Fw.view, Fw.rest, Fw.held]

@[simp] theorem State_sendGrouped_sw_frame (s : State) (n type start : Nat) (payload : List Byte) (hoff : Off wt [.page .sw 0x280, .ports .sw, .sent]) :
    (State.sendGrouped s .sw n type start payload).view wt = s.view wt := by
  simp at hoff
  simp [State.sendGrouped, hoff, Chip.view, Chip.rest, Pool.view, Pool.rest, Svc.view, Svc.rest, Herds.view, Herds.rest, Dct.view, Dct.rest, Dct.held, Fw.view, Fw.rest, Fw.held]

@[simp] theorem State_sendGrouped_ep_frame (s : State) (n type start : Nat) (payload : List Byte) (hoff : Off wt [.page .ep 0x280, .ports .ep, .sent]) :
    (State.sendGrouped s .ep n type start payload).view wt = s.view wt := by
  simp at hoff
  simp [State.sendGrouped, hoff, Chip.view, Chip.rest, Pool.view, Pool.rest, Svc.view, Svc.rest, Herds.view, Herds.rest, Dct.view, Dct.rest, Dct.held, Fw.view, Fw.rest, Fw.held]

@[simp] theorem State_sendNak_sw_frame (s : State) (n : Nat) (hoff : Off wt [.page .sw 0x280, .ports .sw, .sent]) :
    (State.sendNak s .sw n).view wt = s.view wt := by
  simp at hoff
  simp [State.sendNak, hoff, Chip.view, Chip.rest, Pool.view, Pool.rest, Svc.view, Svc.rest, Herds.view, Herds.rest, Dct.view, Dct.rest, Dct.held, Fw.view, Fw.rest, Fw.held]

@[simp] theorem State_sendNak_ep_frame (s : State) (n : Nat) (hoff : Off wt [.page .ep 0x280, .ports .ep, .sent]) :
    (State.sendNak s .ep n).view wt = s.view wt := by
  simp at hoff
  simp [State.sendNak, hoff, Chip.view, Chip.rest, Pool.view, Pool.rest, Svc.view, Svc.rest, Herds.view, Herds.rest, Dct.view, Dct.rest, Dct.held, Fw.view, Fw.rest, Fw.held]

@[simp] theorem State_sendControl_sw_frame (s : State) (n type : Nat) (payload : List Byte) (hoff : Off wt [.page .sw 0x280, .ports .sw, .sent]) :
    (State.sendControl s .sw n type payload).view wt = s.view wt := by
  simp at hoff
  simp [State.sendControl, hoff, Chip.view, Chip.rest, Pool.view, Pool.rest, Svc.view, Svc.rest, Herds.view, Herds.rest, Dct.view, Dct.rest, Dct.held, Fw.view, Fw.rest, Fw.held]

@[simp] theorem State_sendControl_ep_frame (s : State) (n type : Nat) (payload : List Byte) (hoff : Off wt [.page .ep 0x280, .ports .ep, .sent]) :
    (State.sendControl s .ep n type payload).view wt = s.view wt := by
  simp at hoff
  simp [State.sendControl, hoff, Chip.view, Chip.rest, Pool.view, Pool.rest, Svc.view, Svc.rest, Herds.view, Herds.rest, Dct.view, Dct.rest, Dct.held, Fw.view, Fw.rest, Fw.held]

@[simp] theorem State_flushCtl_sw_frame (x0 : Nat) (x2 : Nat) (x3 : State) (hoff : Off wt [.page .sw 0x280, .ports .sw, .sent]) :
    (State.flushCtl x0 .sw x2 x3).view wt = x3.view wt := by
  simp at hoff
  induction x0 generalizing x3 with
  | zero => rfl
  | succ f ih => unfold State.flushCtl; (repeat' split) <;> simp [ih, hoff]

@[simp] theorem State_flushCtl_ep_frame (x0 : Nat) (x2 : Nat) (x3 : State) (hoff : Off wt [.page .ep 0x280, .ports .ep, .sent]) :
    (State.flushCtl x0 .ep x2 x3).view wt = x3.view wt := by
  simp at hoff
  induction x0 generalizing x3 with
  | zero => rfl
  | succ f ih => unfold State.flushCtl; (repeat' split) <;> simp [ih, hoff]

@[simp] theorem State_loadPacket_sw_frame (s : State) (n : Nat) (k : Packet) (ready : Nat) (hoff : Off wt [.ports .sw]) :
    (State.loadPacket s .sw n k ready).view wt = s.view wt := by
  simp at hoff
  simp [State.loadPacket, hoff, Chip.view, Chip.rest, Pool.view, Pool.rest, Svc.view, Svc.rest, Herds.view, Herds.rest, Dct.view, Dct.rest, Dct.held, Fw.view, Fw.rest, Fw.held]

@[simp] theorem State_loadPacket_ep_frame (s : State) (n : Nat) (k : Packet) (ready : Nat) (hoff : Off wt [.ports .ep]) :
    (State.loadPacket s .ep n k ready).view wt = s.view wt := by
  simp at hoff
  simp [State.loadPacket, hoff, Chip.view, Chip.rest, Pool.view, Pool.rest, Svc.view, Svc.rest, Herds.view, Herds.rest, Dct.view, Dct.rest, Dct.held, Fw.view, Fw.rest, Fw.held]

@[simp] theorem State_feed_sw_frame (x0 : Nat) (x2 : Nat) (x3 : State) (hoff : Off wt [.page .sw 0x280, .ports .sw, .sent]) :
    (State.feed x0 .sw x2 x3).view wt = x3.view wt := by
  simp at hoff
  induction x0 generalizing x3 with
  | zero => rfl
  | succ f ih => unfold State.feed; dsimp only; (repeat' split) <;> simp [ih, hoff]

@[simp] theorem State_feed_ep_frame (x0 : Nat) (x2 : Nat) (x3 : State) (hoff : Off wt [.page .ep 0x280, .ports .ep, .sent]) :
    (State.feed x0 .ep x2 x3).view wt = x3.view wt := by
  simp at hoff
  induction x0 generalizing x3 with
  | zero => rfl
  | succ f ih => unfold State.feed; dsimp only; (repeat' split) <;> simp [ih, hoff]

@[simp] theorem State_pump_sw_frame (x0 : Nat) (x2 : Nat) (x3 : State) (hoff : Off wt [.page .sw 0x280, .ports .sw, .sent]) :
    (State.pump x0 .sw x2 x3).view wt = x3.view wt := by
  simp at hoff
  induction x0 generalizing x3 with
  | zero => rfl
  | succ f ih =>
    unfold State.pump
    simp only [sw_beq_ep, ep_beq_ep, Bool.false_eq_true, if_true, if_false]
    (repeat' split) <;> simp [ih, hoff]

@[simp] theorem State_pump_ep_frame (x0 : Nat) (x2 : Nat) (x3 : State) (hoff : Off wt [.page .ep 0x280, .ports .ep, .sent]) :
    (State.pump x0 .ep x2 x3).view wt = x3.view wt := by
  simp at hoff
  induction x0 generalizing x3 with
  | zero => rfl
  | succ f ih =>
    unfold State.pump
    simp only [sw_beq_ep, ep_beq_ep, Bool.false_eq_true, if_true, if_false]
    (repeat' split) <;> simp [ih, hoff]

@[simp] theorem State_pumpAll_sw_frame (s : State) (n : Nat) (hoff : Off wt [.page .sw 0x280, .ports .sw, .sent]) :
    (State.pumpAll s .sw n).view wt = s.view wt := by
  simp at hoff
  simp [State.pumpAll, hoff, Chip.view, Chip.rest, Pool.view, Pool.rest, Svc.view, Svc.rest, Herds.view, Herds.rest, Dct.view, Dct.rest, Dct.held, Fw.view, Fw.rest, Fw.held]

@[simp] theorem State_pumpAll_ep_frame (s : State) (n : Nat) (hoff : Off wt [.page .ep 0x280, .ports .ep, .sent]) :
    (State.pumpAll s .ep n).view wt = s.view wt := by
  simp at hoff
  simp [State.pumpAll, hoff, Chip.view, Chip.rest, Pool.view, Pool.rest, Svc.view, Svc.rest, Herds.view, Herds.rest, Dct.view, Dct.rest, Dct.held, Fw.view, Fw.rest, Fw.held]

@[simp] theorem State_transmit_frame (s : State) (n : Nat) (k : Packet) (arrived : Option Nat) (hoff : Off wt [.page .ep 0x280, .ports .ep, .sent]) :
    (State.transmit s n k arrived).view wt = s.view wt := by
  simp at hoff
  simp [State.transmit, hoff, Chip.view, Chip.rest, Pool.view, Pool.rest, Svc.view, Svc.rest, Herds.view, Herds.rest, Dct.view, Dct.rest, Dct.held, Fw.view, Fw.rest, Fw.held]

@[simp] theorem State_pullTx_frame (s : State) (n : Nat) (f : Packet → Bool) (hoff : Off wt [.ports .ep]) :
    (State.pullTx s n f).view wt = s.view wt := by
  simp at hoff
  simp [State.pullTx, hoff, Chip.view, Chip.rest, Pool.view, Pool.rest, Svc.view, Svc.rest, Herds.view, Herds.rest, Dct.view, Dct.rest, Dct.held, Fw.view, Fw.rest, Fw.held]

@[simp] theorem State_owe_sw_frame (s : State) (n : Nat) (k : Packet) (hoff : Off wt [.ports .sw]) :
    (State.owe s .sw n k).view wt = s.view wt := by
  simp at hoff
  simp [State.owe, hoff, Chip.view, Chip.rest, Pool.view, Pool.rest, Svc.view, Svc.rest, Herds.view, Herds.rest, Dct.view, Dct.rest, Dct.held, Fw.view, Fw.rest, Fw.held]

@[simp] theorem State_owe_ep_frame (s : State) (n : Nat) (k : Packet) (hoff : Off wt [.ports .ep]) :
    (State.owe s .ep n k).view wt = s.view wt := by
  simp at hoff
  simp [State.owe, hoff, Chip.view, Chip.rest, Pool.view, Pool.rest, Svc.view, Svc.rest, Herds.view, Herds.rest, Dct.view, Dct.rest, Dct.held, Fw.view, Fw.rest, Fw.held]

@[simp] theorem State_sendCtrl_sw_frame (s : State) (n kind value : Nat) (hoff : Off wt [.page .sw 0x280, .ports .sw, .sent]) :
    (State.sendCtrl s .sw n kind value).view wt = s.view wt := by
  simp at hoff
  simp [State.sendCtrl, hoff, Chip.view, Chip.rest, Pool.view, Pool.rest, Svc.view, Svc.rest, Herds.view, Herds.rest, Dct.view, Dct.rest, Dct.held, Fw.view, Fw.rest, Fw.held]

@[simp] theorem State_sendCtrl_ep_frame (s : State) (n kind value : Nat) (hoff : Off wt [.page .ep 0x280, .ports .ep, .sent]) :
    (State.sendCtrl s .ep n kind value).view wt = s.view wt := by
  simp at hoff
  simp [State.sendCtrl, hoff, Chip.view, Chip.rest, Pool.view, Pool.rest, Svc.view, Svc.rest, Herds.view, Herds.rest, Dct.view, Dct.rest, Dct.held, Fw.view, Fw.rest, Fw.held]

@[simp] theorem State_enqueue_frame (s : State) (origin : Option Nat) (e : Egress) (k : Packet) (group : Option Nat) (waits : Bool) (inner : Nat) (hoff : Off wt [.page .sw 0x11, .core]) :
    (State.enqueue s origin e k group waits inner).view wt = s.view wt := by
  simp at hoff
  unfold State.enqueue; (try simp only [sw_beq_ep, ep_beq_sw, sw_beq_sw, ep_beq_ep, Bool.false_eq_true, Bool.true_and, Bool.false_and, if_true, if_false]); (repeat' split) <;> (try dsimp only) <;> first | contradiction | simp +decide [State.enqueue, hoff, Chip.view, Chip.rest, Pool.view, Pool.rest, Svc.view, Svc.rest, Herds.view, Herds.rest, Dct.view, Dct.rest, Dct.held, Fw.view, Fw.rest, Fw.held]

@[simp] theorem State_unreserve_frame (s : State) (q : QEntry) (hoff : Off wt [.ports .sw]) :
    (State.unreserve s q).view wt = s.view wt := by
  simp at hoff
  unfold State.unreserve; (try simp only [sw_beq_ep, ep_beq_sw, sw_beq_sw, ep_beq_ep, Bool.false_eq_true, Bool.true_and, Bool.false_and, if_true, if_false]); (repeat' split) <;> (try dsimp only) <;> first | contradiction | simp +decide [State.unreserve, hoff, Chip.view, Chip.rest, Pool.view, Pool.rest, Svc.view, Svc.rest, Herds.view, Herds.rest, Dct.view, Dct.rest, Dct.held, Fw.view, Fw.rest, Fw.held]

@[simp] theorem State_dropQueued_frame (s : State) (f : QEntry → Bool) (hoff : Off wt [.ports .sw, .core]) :
    (State.dropQueued s f).view wt = s.view wt := by
  simp at hoff
  unfold State.dropQueued; (try simp only [sw_beq_ep, ep_beq_sw, sw_beq_sw, ep_beq_ep, Bool.false_eq_true, Bool.true_and, Bool.false_and, if_true, if_false]); repeat' (first | contradiction | (simp +decide [State.dropQueued, hoff, Chip.view, Chip.rest, Pool.view, Pool.rest, Svc.view, Svc.rest, Herds.view, Herds.rest, Dct.view, Dct.rest, Dct.held, Fw.view, Fw.rest, Fw.held]; done) | (intros; split) | (intros; first | refine Eq.trans (foldl_view _ _ _ fun _ _ => ?_) ?_ | refine Eq.trans (foldl_fst_view _ _ _ fun _ _ => ?_) ?_ | refine Eq.trans (when_view _ _ _ ?_) ?_) | dsimp only | simp +decide [State.dropQueued, hoff])

@[simp] theorem State_swSend_frame (s : State) (k : Packet) (inner : Nat) (group : Option Nat) (hoff : Off wt [.page .sw 0x11, .page .sw 0x14, .core]) :
    (State.swSend s k inner group).view wt = s.view wt := by
  simp at hoff
  unfold State.swSend; (try simp only [sw_beq_ep, ep_beq_sw, sw_beq_sw, ep_beq_ep, Bool.false_eq_true, Bool.true_and, Bool.false_and, if_true, if_false]); (repeat' split) <;> (try dsimp only) <;> first | contradiction | simp +decide [State.swSend, hoff, Chip.view, Chip.rest, Pool.view, Pool.rest, Svc.view, Svc.rest, Herds.view, Herds.rest, Dct.view, Dct.rest, Dct.held, Fw.view, Fw.rest, Fw.held]

@[simp] theorem State_swMulticast_frame (s : State) (ks : List Packet) (hoff : Off wt [.page .sw 0x11, .page .sw 0x14, .core]) :
    (State.swMulticast s ks).view wt = s.view wt := by
  simp at hoff
  simp [State.swMulticast, hoff, Chip.view, Chip.rest, Pool.view, Pool.rest, Svc.view, Svc.rest, Herds.view, Herds.rest, Dct.view, Dct.rest, Dct.held, Fw.view, Fw.rest, Fw.held]

@[simp] theorem State_swAnswer_frame (s : State) (k : Packet) (status : Nat) (data : List Byte) (aux : Nat) (hoff : Off wt [.page .sw 0x11, .page .sw 0x14, .core]) :
    (State.swAnswer s k status data aux).view wt = s.view wt := by
  simp at hoff
  simp [State.swAnswer, hoff, Chip.view, Chip.rest, Pool.view, Pool.rest, Svc.view, Svc.rest, Herds.view, Herds.rest, Dct.view, Dct.rest, Dct.held, Fw.view, Fw.rest, Fw.held]

@[simp] theorem State_holdTx_frame (s : State) (n : Nat) (hoff : Off wt [.ports .ep, .rly]) :
    (State.holdTx s n).view wt = s.view wt := by
  simp at hoff
  simp [State.holdTx, hoff, Chip.view, Chip.rest, Pool.view, Pool.rest, Svc.view, Svc.rest, Herds.view, Herds.rest, Dct.view, Dct.rest, Dct.held, Fw.view, Fw.rest, Fw.held]

@[simp] theorem State_epRoute_frame (x0 : Nat) (x1 : Option Nat) (x2 : Bool) (x3 : Packet) (x4 : State) (hoff : Off wt [.page .ep 0x10, .page .ep 0x280, .ports .ep, .rly, .sent]) :
    (State.epRoute x0 x1 x2 x3 x4).view wt = x4.view wt := by
  simp at hoff
  induction x0 generalizing x1 x2 x3 x4 with
  | zero => rfl
  | succ f ih =>
    unfold State.epRoute
    extract_lets relays noRoute onto
    have hR : ∀ s, (relays s).view wt = s.view wt := fun s => when_view _ _ _ (by simp [hoff])
    have hN : ∀ s, (noRoute s).view wt = s.view wt := by
      intro s
      simp only [noRoute]
      (repeat' split) <;> simp [ih, hoff]
    have hO : ∀ n x s, (onto n x s).view wt = s.view wt := by
      intro n x s
      simp only [onto]
      (repeat' split) <;> simp [hR, hoff]
    clear_value noRoute onto relays
    (repeat' split) <;> simp [hN, hO, hR, hoff]

@[simp] theorem State_epForward_frame (fuel : Nat) (arrived : Option Nat) (k : Packet) (s : State) (hoff : Off wt [.page .ep 0x10, .page .ep 0x280, .ports .ep, .rly, .sent]) :
    (State.epForward fuel arrived k s).view wt = s.view wt := by
  simp at hoff
  unfold State.epForward
  cases arrived <;> simp [hoff]

@[simp] theorem State_passBridle_frame (s : State) (k : Packet) (hoff : Off wt [.page .ep 0x10, .page .ep 0x280, .ports .ep, .rly, .sent]) :
    (State.passBridle s k).view wt = s.view wt := by
  simp at hoff
  unfold State.passBridle
  dsimp only
  split <;> simp [hoff]

@[simp] theorem State_epInject_frame (s : State) (k : Packet) (hoff : Off wt [.page .ep 0x10, .page .ep 0x280, .ports .ep, .rly, .sent]) :
    (State.epInject s k).view wt = s.view wt := by
  simp at hoff
  unfold State.epInject; (try simp only [sw_beq_ep, ep_beq_sw, sw_beq_sw, ep_beq_ep, Bool.false_eq_true, Bool.true_and, Bool.false_and, if_true, if_false]); (repeat' split) <;> (try dsimp only) <;> first | contradiction | simp +decide [State.epInject, hoff, Chip.view, Chip.rest, Pool.view, Pool.rest, Svc.view, Svc.rest, Herds.view, Herds.rest, Dct.view, Dct.rest, Dct.held, Fw.view, Fw.rest, Fw.held]

@[simp] theorem State_epAnswer_frame (s : State) (k : Packet) (status : Nat) (data : List Byte) (aux : Nat) (hoff : Off wt [.page .ep 0x10, .page .ep 0x280, .ports .ep, .rly, .sent]) :
    (State.epAnswer s k status data aux).view wt = s.view wt := by
  simp at hoff
  simp [State.epAnswer, hoff, Chip.view, Chip.rest, Pool.view, Pool.rest, Svc.view, Svc.rest, Herds.view, Herds.rest, Dct.view, Dct.rest, Dct.held, Fw.view, Fw.rest, Fw.held]

@[simp] theorem State_reply_sw_frame (s : State) (k : Packet) (status : Nat) (data : List Byte) (aux : Nat) (hoff : Off wt [.page .sw 0x11, .page .sw 0x14, .core]) :
    (State.reply s .sw k status data aux).view wt = s.view wt := by
  simp at hoff
  simp [State.reply, hoff, Chip.view, Chip.rest, Pool.view, Pool.rest, Svc.view, Svc.rest, Herds.view, Herds.rest, Dct.view, Dct.rest, Dct.held, Fw.view, Fw.rest, Fw.held]

@[simp] theorem State_reply_ep_frame (s : State) (k : Packet) (status : Nat) (data : List Byte) (aux : Nat) (hoff : Off wt [.page .ep 0x10, .page .ep 0x280, .ports .ep, .rly, .sent]) :
    (State.reply s .ep k status data aux).view wt = s.view wt := by
  simp at hoff
  simp [State.reply, hoff, Chip.view, Chip.rest, Pool.view, Pool.rest, Svc.view, Svc.rest, Herds.view, Herds.rest, Dct.view, Dct.rest, Dct.held, Fw.view, Fw.rest, Fw.held]

@[simp] theorem State_putMark_sw_frame (s : State) (src tc : Nat) (m : MarkCount) (hoff : Off wt [.core]) :
    (State.putMark s .sw src tc m).view wt = s.view wt := by
  simp at hoff
  simp [State.putMark, hoff, Chip.view, Chip.rest, Pool.view, Pool.rest, Svc.view, Svc.rest, Herds.view, Herds.rest, Dct.view, Dct.rest, Dct.held, Fw.view, Fw.rest, Fw.held]

@[simp] theorem State_putMark_ep_frame (s : State) (src tc : Nat) (m : MarkCount) (hoff : Off wt [.rly]) :
    (State.putMark s .ep src tc m).view wt = s.view wt := by
  simp at hoff
  simp [State.putMark, hoff, Chip.view, Chip.rest, Pool.view, Pool.rest, Svc.view, Svc.rest, Herds.view, Herds.rest, Dct.view, Dct.rest, Dct.held, Fw.view, Fw.rest, Fw.held]

@[simp] theorem State_sendNotice_sw_frame (s : State) (src tc marks : Nat) (hoff : Off wt [.page .sw 0x11, .page .sw 0x14, .core]) :
    (State.sendNotice s .sw src tc marks).view wt = s.view wt := by
  simp at hoff
  simp [State.sendNotice, hoff, Chip.view, Chip.rest, Pool.view, Pool.rest, Svc.view, Svc.rest, Herds.view, Herds.rest, Dct.view, Dct.rest, Dct.held, Fw.view, Fw.rest, Fw.held]

@[simp] theorem State_sendNotice_ep_frame (s : State) (src tc marks : Nat) (hoff : Off wt [.page .ep 0x10, .page .ep 0x280, .ports .ep, .rly, .sent]) :
    (State.sendNotice s .ep src tc marks).view wt = s.view wt := by
  simp at hoff
  simp [State.sendNotice, hoff, Chip.view, Chip.rest, Pool.view, Pool.rest, Svc.view, Svc.rest, Herds.view, Herds.rest, Dct.view, Dct.rest, Dct.held, Fw.view, Fw.rest, Fw.held]

@[simp] theorem State_consume_sw_frame (s : State) (k : Packet) (hoff : Off wt [.page .sw 0x11, .page .sw 0x14, .core]) :
    (State.consume s .sw k).view wt = s.view wt := by
  simp at hoff
  unfold State.consume; (try simp only [sw_beq_ep, ep_beq_sw, sw_beq_sw, ep_beq_ep, Bool.false_eq_true, Bool.true_and, Bool.false_and, if_true, if_false]); (repeat' split) <;> (try dsimp only) <;> first | contradiction | simp +decide [State.consume, hoff, Chip.view, Chip.rest, Pool.view, Pool.rest, Svc.view, Svc.rest, Herds.view, Herds.rest, Dct.view, Dct.rest, Dct.held, Fw.view, Fw.rest, Fw.held]

@[simp] theorem State_consume_ep_frame (s : State) (k : Packet) (hoff : Off wt [.page .ep 0x10, .page .ep 0x280, .ports .ep, .rly, .sent]) :
    (State.consume s .ep k).view wt = s.view wt := by
  simp at hoff
  unfold State.consume; (try simp only [sw_beq_ep, ep_beq_sw, sw_beq_sw, ep_beq_ep, Bool.false_eq_true, Bool.true_and, Bool.false_and, if_true, if_false]); (repeat' split) <;> (try dsimp only) <;> first | contradiction | simp +decide [State.consume, hoff, Chip.view, Chip.rest, Pool.view, Pool.rest, Svc.view, Svc.rest, Herds.view, Herds.rest, Dct.view, Dct.rest, Dct.held, Fw.view, Fw.rest, Fw.held]

@[simp] theorem State_crcFail_sw_frame (s : State) (k : Packet) (hoff : Off wt [.hdr .sw, .page .sw 0x5, .page .sw 0xb, .log .sw, .sent]) :
    (State.crcFail s .sw k).view wt = s.view wt := by
  simp at hoff
  simp [State.crcFail, hoff, Chip.view, Chip.rest, Pool.view, Pool.rest, Svc.view, Svc.rest, Herds.view, Herds.rest, Dct.view, Dct.rest, Dct.held, Fw.view, Fw.rest, Fw.held]

@[simp] theorem State_crcFail_ep_frame (s : State) (k : Packet) (hoff : Off wt [.hdr .ep, .page .ep 0xb, .log .ep, .sent]) :
    (State.crcFail s .ep k).view wt = s.view wt := by
  simp at hoff
  simp [State.crcFail, hoff, Chip.view, Chip.rest, Pool.view, Pool.rest, Svc.view, Svc.rest, Herds.view, Herds.rest, Dct.view, Dct.rest, Dct.held, Fw.view, Fw.rest, Fw.held]

@[simp] theorem State_regDone_sw_frame (s : State) (path : Path) (status : Nat) (data : Word) (hoff : Off wt [.sent]) :
    (State.regDone s .sw path status data).view wt = s.view wt := by
  simp at hoff
  unfold State.regDone; (try simp only [sw_beq_ep, ep_beq_sw, sw_beq_sw, ep_beq_ep, Bool.false_eq_true, Bool.true_and, Bool.false_and, if_true, if_false]); (repeat' split) <;> (try dsimp only) <;> first | contradiction | simp +decide [State.regDone, hoff, Chip.view, Chip.rest, Pool.view, Pool.rest, Svc.view, Svc.rest, Herds.view, Herds.rest, Dct.view, Dct.rest, Dct.held, Fw.view, Fw.rest, Fw.held]

@[simp] theorem State_regDone_ep_frame (s : State) (path : Path) (status : Nat) (data : Word) (hoff : Off wt [.sent]) :
    (State.regDone s .ep path status data).view wt = s.view wt := by
  simp at hoff
  unfold State.regDone; (try simp only [sw_beq_ep, ep_beq_sw, sw_beq_sw, ep_beq_ep, Bool.false_eq_true, Bool.true_and, Bool.false_and, if_true, if_false]); (repeat' split) <;> (try dsimp only) <;> first | contradiction | simp +decide [State.regDone, hoff, Chip.view, Chip.rest, Pool.view, Pool.rest, Svc.view, Svc.rest, Herds.view, Herds.rest, Dct.view, Dct.rest, Dct.held, Fw.view, Fw.rest, Fw.held]

@[simp] theorem State_refused_sw_frame (s : State) (page : Nat) (hoff : Off wt [.hdr .sw, .page .sw 0xb]) :
    (State.refused s .sw page).1.view wt = s.view wt := by
  simp at hoff
  simp [State.refused, hoff, Chip.view, Chip.rest, Pool.view, Pool.rest, Svc.view, Svc.rest, Herds.view, Herds.rest, Dct.view, Dct.rest, Dct.held, Fw.view, Fw.rest, Fw.held]

@[simp] theorem State_refused_ep_frame (s : State) (page : Nat) (hoff : Off wt [.hdr .ep, .page .ep 0xb]) :
    (State.refused s .ep page).1.view wt = s.view wt := by
  simp at hoff
  simp [State.refused, hoff, Chip.view, Chip.rest, Pool.view, Pool.rest, Svc.view, Svc.rest, Herds.view, Herds.rest, Dct.view, Dct.rest, Dct.held, Fw.view, Fw.rest, Fw.held]

@[simp] theorem State_writeFrame_sw_frame (s : State) (path : Path) (page off : Nat) (w : State → Written) (hoff : Off wt [.hdr .sw, .page .sw 0xb]) (hw : ∀  s, (w  s).1.view wt = s.view wt) :
    (State.writeFrame s path .sw page off w).1.view wt = s.view wt := by
  simp at hoff
  unfold State.writeFrame; (try simp only [sw_beq_ep, ep_beq_sw, sw_beq_sw, ep_beq_ep, Bool.false_eq_true, Bool.true_and, Bool.false_and, if_true, if_false]); (repeat' split) <;> (try dsimp only) <;> first | contradiction | simp +decide [State.writeFrame, hoff, hw, Chip.view, Chip.rest, Pool.view, Pool.rest, Svc.view, Svc.rest, Herds.view, Herds.rest, Dct.view, Dct.rest, Dct.held, Fw.view, Fw.rest, Fw.held]

@[simp] theorem State_writeFrame_ep_frame (s : State) (path : Path) (page off : Nat) (w : State → Written) (hoff : Off wt [.hdr .ep, .page .ep 0xb]) (hw : ∀  s, (w  s).1.view wt = s.view wt) :
    (State.writeFrame s path .ep page off w).1.view wt = s.view wt := by
  simp at hoff
  unfold State.writeFrame; (try simp only [sw_beq_ep, ep_beq_sw, sw_beq_sw, ep_beq_ep, Bool.false_eq_true, Bool.true_and, Bool.false_and, if_true, if_false]); (repeat' split) <;> (try dsimp only) <;> first | contradiction | simp +decide [State.writeFrame, hoff, hw, Chip.view, Chip.rest, Pool.view, Pool.rest, Svc.view, Svc.rest, Herds.view, Herds.rest, Dct.view, Dct.rest, Dct.held, Fw.view, Fw.rest, Fw.held]

@[simp] theorem State_writeBy_sw_frame (s : State) (path : Path) (page off : Nat) (w : State → Written) (hoff : Off wt [.hdr .sw, .page .sw 0xb, .sent]) (hw : ∀  s, (w  s).1.view wt = s.view wt) :
    (State.writeBy s path .sw page off w).view wt = s.view wt := by
  simp at hoff
  unfold State.writeBy; (try simp only [sw_beq_ep, ep_beq_sw, sw_beq_sw, ep_beq_ep, Bool.false_eq_true, Bool.true_and, Bool.false_and, if_true, if_false]); (repeat' split) <;> (try dsimp only) <;> first | contradiction | simp +decide [State.writeBy, hoff, hw, Chip.view, Chip.rest, Pool.view, Pool.rest, Svc.view, Svc.rest, Herds.view, Herds.rest, Dct.view, Dct.rest, Dct.held, Fw.view, Fw.rest, Fw.held]

@[simp] theorem State_writeBy_ep_frame (s : State) (path : Path) (page off : Nat) (w : State → Written) (hoff : Off wt [.hdr .ep, .page .ep 0xb, .sent]) (hw : ∀  s, (w  s).1.view wt = s.view wt) :
    (State.writeBy s path .ep page off w).view wt = s.view wt := by
  simp at hoff
  unfold State.writeBy; (try simp only [sw_beq_ep, ep_beq_sw, sw_beq_sw, ep_beq_ep, Bool.false_eq_true, Bool.true_and, Bool.false_and, if_true, if_false]); (repeat' split) <;> (try dsimp only) <;> first | contradiction | simp +decide [State.writeBy, hoff, hw, Chip.view, Chip.rest, Pool.view, Pool.rest, Svc.view, Svc.rest, Herds.view, Herds.rest, Dct.view, Dct.rest, Dct.held, Fw.view, Fw.rest, Fw.held]

@[simp] theorem State_readFrame_sw_frame (s : State) (path : Path) (page off : Nat) (f : State → State × Word) (hf : ∀  s, (f  s).1.view wt = s.view wt) :
    (State.readFrame s path .sw page off f).1.view wt = s.view wt := by
  simp [State.readFrame, hf, Chip.view, Chip.rest, Pool.view, Pool.rest, Svc.view, Svc.rest, Herds.view, Herds.rest, Dct.view, Dct.rest, Dct.held, Fw.view, Fw.rest, Fw.held]

@[simp] theorem State_readFrame_ep_frame (s : State) (path : Path) (page off : Nat) (f : State → State × Word) (hf : ∀  s, (f  s).1.view wt = s.view wt) :
    (State.readFrame s path .ep page off f).1.view wt = s.view wt := by
  simp [State.readFrame, hf, Chip.view, Chip.rest, Pool.view, Pool.rest, Svc.view, Svc.rest, Herds.view, Herds.rest, Dct.view, Dct.rest, Dct.held, Fw.view, Fw.rest, Fw.held]

@[simp] theorem State_readBy_sw_frame (s : State) (path : Path) (page off : Nat) (f : State → State × Word) (hoff : Off wt [.sent]) (hf : ∀  s, (f  s).1.view wt = s.view wt) :
    (State.readBy s path .sw page off f).view wt = s.view wt := by
  simp at hoff
  simp [State.readBy, hoff, hf, Chip.view, Chip.rest, Pool.view, Pool.rest, Svc.view, Svc.rest, Herds.view, Herds.rest, Dct.view, Dct.rest, Dct.held, Fw.view, Fw.rest, Fw.held]

@[simp] theorem State_readBy_ep_frame (s : State) (path : Path) (page off : Nat) (f : State → State × Word) (hoff : Off wt [.sent]) (hf : ∀  s, (f  s).1.view wt = s.view wt) :
    (State.readBy s path .ep page off f).view wt = s.view wt := by
  simp at hoff
  simp [State.readBy, hoff, hf, Chip.view, Chip.rest, Pool.view, Pool.rest, Svc.view, Svc.rest, Herds.view, Herds.rest, Dct.view, Dct.rest, Dct.held, Fw.view, Fw.rest, Fw.held]

@[simp] theorem State_onOutcomes_sw_frame (s : State) (f : List Outcome → List Outcome) (hoff : Off wt [.pool]) :
    (State.onOutcomes s .sw f).view wt = s.view wt := by
  simp at hoff
  simp [State.onOutcomes, hoff, Chip.view, Chip.rest, Pool.view, Pool.rest, Svc.view, Svc.rest, Herds.view, Herds.rest, Dct.view, Dct.rest, Dct.held, Fw.view, Fw.rest, Fw.held]

@[simp] theorem State_onOutcomes_ep_frame (s : State) (f : List Outcome → List Outcome) (hoff : Off wt [.ddp]) :
    (State.onOutcomes s .ep f).view wt = s.view wt := by
  simp at hoff
  unfold State.onOutcomes; (try simp only [sw_beq_ep, ep_beq_sw, sw_beq_sw, ep_beq_ep, Bool.false_eq_true, Bool.true_and, Bool.false_and, if_true, if_false]); (repeat' split) <;> first | contradiction | simp +decide [State.onOutcomes, hoff, State.view, SwState.view, EpState.view, -view_eta]

@[simp] theorem State_outExpire_sw_frame (s : State) (src tag : Nat) (hoff : Off wt [.page .sw 0x13, .pool]) :
    (State.outExpire s .sw src tag).view wt = s.view wt := by
  simp at hoff
  simp [State.outExpire, hoff, Chip.view, Chip.rest, Pool.view, Pool.rest, Svc.view, Svc.rest, Herds.view, Herds.rest, Dct.view, Dct.rest, Dct.held, Fw.view, Fw.rest, Fw.held]

@[simp] theorem State_outExpire_ep_frame (s : State) (src tag : Nat) (hoff : Off wt [.page .ep 0x22, .ddp]) :
    (State.outExpire s .ep src tag).view wt = s.view wt := by
  simp at hoff
  simp [State.outExpire, hoff, Chip.view, Chip.rest, Pool.view, Pool.rest, Svc.view, Svc.rest, Herds.view, Herds.rest, Dct.view, Dct.rest, Dct.held, Fw.view, Fw.rest, Fw.held]

@[simp] theorem State_keepOutcome_sw_frame (s : State) (k : Packet) (status : Nat) (data : List Byte) (aux : Nat) (hoff : Off wt [.pool]) :
    (State.keepOutcome s .sw k status data aux).view wt = s.view wt := by
  simp at hoff
  simp [State.keepOutcome, hoff, Chip.view, Chip.rest, Pool.view, Pool.rest, Svc.view, Svc.rest, Herds.view, Herds.rest, Dct.view, Dct.rest, Dct.held, Fw.view, Fw.rest, Fw.held]

@[simp] theorem State_keepOutcome_ep_frame (s : State) (k : Packet) (status : Nat) (data : List Byte) (aux : Nat) (hoff : Off wt [.ddp]) :
    (State.keepOutcome s .ep k status data aux).view wt = s.view wt := by
  simp at hoff
  simp [State.keepOutcome, hoff, Chip.view, Chip.rest, Pool.view, Pool.rest, Svc.view, Svc.rest, Herds.view, Herds.rest, Dct.view, Dct.rest, Dct.held, Fw.view, Fw.rest, Fw.held]

@[simp] theorem State_countHit_sw_frame (s : State) (hoff : Off wt [.page .sw 0x13]) :
    (State.countHit s .sw).view wt = s.view wt := by
  simp at hoff
  simp [State.countHit, hoff, Chip.view, Chip.rest, Pool.view, Pool.rest, Svc.view, Svc.rest, Herds.view, Herds.rest, Dct.view, Dct.rest, Dct.held, Fw.view, Fw.rest, Fw.held]

@[simp] theorem State_countHit_ep_frame (s : State) (hoff : Off wt [.page .ep 0x22]) :
    (State.countHit s .ep).view wt = s.view wt := by
  simp at hoff
  simp [State.countHit, hoff, Chip.view, Chip.rest, Pool.view, Pool.rest, Svc.view, Svc.rest, Herds.view, Herds.rest, Dct.view, Dct.rest, Dct.held, Fw.view, Fw.rest, Fw.held]

@[simp] theorem State_countFull_sw_frame (s : State) (hoff : Off wt [.page .sw 0x13]) :
    (State.countFull s .sw).view wt = s.view wt := by
  simp at hoff
  simp [State.countFull, hoff, Chip.view, Chip.rest, Pool.view, Pool.rest, Svc.view, Svc.rest, Herds.view, Herds.rest, Dct.view, Dct.rest, Dct.held, Fw.view, Fw.rest, Fw.held]

@[simp] theorem State_countFull_ep_frame (s : State) (hoff : Off wt [.page .ep 0x22]) :
    (State.countFull s .ep).view wt = s.view wt := by
  simp at hoff
  simp [State.countFull, hoff, Chip.view, Chip.rest, Pool.view, Pool.rest, Svc.view, Svc.rest, Herds.view, Herds.rest, Dct.view, Dct.rest, Dct.held, Fw.view, Fw.rest, Fw.held]

@[simp] theorem State_dedup_sw_frame (s : State) (k : Packet) (f : State → State) (hoff : Off wt [.page .sw 0x11, .page .sw 0x13, .page .sw 0x14, .core, .pool]) (hf : ∀  s, (f  s).view wt = s.view wt) :
    (State.dedup s .sw k f).view wt = s.view wt := by
  simp at hoff
  unfold State.dedup; (try simp only [sw_beq_ep, ep_beq_sw, sw_beq_sw, ep_beq_ep, Bool.false_eq_true, Bool.true_and, Bool.false_and, if_true, if_false]); (repeat' split) <;> (try dsimp only) <;> first | contradiction | simp +decide [State.dedup, hoff, hf, Chip.view, Chip.rest, Pool.view, Pool.rest, Svc.view, Svc.rest, Herds.view, Herds.rest, Dct.view, Dct.rest, Dct.held, Fw.view, Fw.rest, Fw.held]

@[simp] theorem State_dedup_ep_frame (s : State) (k : Packet) (f : State → State) (hoff : Off wt [.page .ep 0x10, .page .ep 0x22, .page .ep 0x280, .ports .ep, .rly, .ddp, .sent]) (hf : ∀  s, (f  s).view wt = s.view wt) :
    (State.dedup s .ep k f).view wt = s.view wt := by
  simp at hoff
  unfold State.dedup; (try simp only [sw_beq_ep, ep_beq_sw, sw_beq_sw, ep_beq_ep, Bool.false_eq_true, Bool.true_and, Bool.false_and, if_true, if_false]); (repeat' split) <;> (try dsimp only) <;> first | contradiction | simp +decide [State.dedup, hoff, hf, Chip.view, Chip.rest, Pool.view, Pool.rest, Svc.view, Svc.rest, Herds.view, Herds.rest, Dct.view, Dct.rest, Dct.held, Fw.view, Fw.rest, Fw.held]

@[simp] theorem State_room_sw_frame (s : State) (k : Packet) (f : State → State) (hoff : Off wt [.page .sw 0x11, .page .sw 0x13, .page .sw 0x14, .core]) (hf : ∀  s, (f  s).view wt = s.view wt) :
    (State.room s .sw k f).view wt = s.view wt := by
  simp at hoff
  simp [State.room, hoff, hf, Chip.view, Chip.rest, Pool.view, Pool.rest, Svc.view, Svc.rest, Herds.view, Herds.rest, Dct.view, Dct.rest, Dct.held, Fw.view, Fw.rest, Fw.held]

@[simp] theorem State_room_ep_frame (s : State) (k : Packet) (f : State → State) (hoff : Off wt [.page .ep 0x10, .page .ep 0x22, .page .ep 0x280, .ports .ep, .rly, .sent]) (hf : ∀  s, (f  s).view wt = s.view wt) :
    (State.room s .ep k f).view wt = s.view wt := by
  simp at hoff
  simp [State.room, hoff, hf, Chip.view, Chip.rest, Pool.view, Pool.rest, Svc.view, Svc.rest, Herds.view, Herds.rest, Dct.view, Dct.rest, Dct.held, Fw.view, Fw.rest, Fw.held]

@[simp] theorem State_onCmd_frame (s : State) (q i : Nat) (f : Cmd → Cmd) (hoff : Off wt [.cmds]) :
    (State.onCmd s q i f).view wt = s.view wt := by
  simp at hoff
  unfold State.onCmd; (try simp only [sw_beq_ep, ep_beq_sw, sw_beq_sw, ep_beq_ep, Bool.false_eq_true, Bool.true_and, Bool.false_and, if_true, if_false]); (repeat' split) <;> first | contradiction | simp +decide [State.onCmd, hoff, State.view, SwState.view, EpState.view, -view_eta]

@[simp] theorem State_cmdDone_frame (s : State) (q i status : Nat) (value : Word) (verdict : Bool) (hoff : Off wt [.cmds]) :
    (State.cmdDone s q i status value verdict).view wt = s.view wt := by
  simp at hoff
  simp [State.cmdDone, hoff, Chip.view, Chip.rest, Pool.view, Pool.rest, Svc.view, Svc.rest, Herds.view, Herds.rest, Dct.view, Dct.rest, Dct.held, Fw.view, Fw.rest, Fw.held]

@[simp] theorem State_onSync_sw_frame (s : State) (f : SyncSt → SyncSt) (hoff : Off wt [.sync .sw]) :
    (State.onSync s .sw f).view wt = s.view wt := by
  simp at hoff
  simp [State.onSync, hoff, Chip.view, Chip.rest, Pool.view, Pool.rest, Svc.view, Svc.rest, Herds.view, Herds.rest, Dct.view, Dct.rest, Dct.held, Fw.view, Fw.rest, Fw.held]

@[simp] theorem State_onSync_ep_frame (s : State) (f : SyncSt → SyncSt) (hoff : Off wt [.sync .ep]) :
    (State.onSync s .ep f).view wt = s.view wt := by
  simp at hoff
  simp [State.onSync, hoff, Chip.view, Chip.rest, Pool.view, Pool.rest, Svc.view, Svc.rest, Herds.view, Herds.rest, Dct.view, Dct.rest, Dct.held, Fw.view, Fw.rest, Fw.held]

@[simp] theorem State_setRelease_sw_frame (s : State) (idx scope : Nat) (a : Agent) (hoff : Off wt [.page .sw 0x21, .sync .sw]) :
    (State.setRelease s .sw idx scope a).view wt = s.view wt := by
  simp at hoff
  simp [State.setRelease, hoff, Chip.view, Chip.rest, Pool.view, Pool.rest, Svc.view, Svc.rest, Herds.view, Herds.rest, Dct.view, Dct.rest, Dct.held, Fw.view, Fw.rest, Fw.held]

@[simp] theorem State_setRelease_ep_frame (s : State) (idx scope : Nat) (a : Agent) (hoff : Off wt [.page .ep 0x21, .sync .ep]) :
    (State.setRelease s .ep idx scope a).view wt = s.view wt := by
  simp at hoff
  simp [State.setRelease, hoff, Chip.view, Chip.rest, Pool.view, Pool.rest, Svc.view, Svc.rest, Herds.view, Herds.rest, Dct.view, Dct.rest, Dct.held, Fw.view, Fw.rest, Fw.held]

@[simp] theorem State_epMismatch_frame (s : State) (rel : Nat × Agent) (acqScope acqQueue idx kind id : Nat) (hoff : Off wt [.page .ep 0x4]) :
    (State.epMismatch s rel acqScope acqQueue idx kind id).view wt = s.view wt := by
  simp at hoff
  simp [State.epMismatch, hoff, Chip.view, Chip.rest, Pool.view, Pool.rest, Svc.view, Svc.rest, Herds.view, Herds.rest, Dct.view, Dct.rest, Dct.held, Fw.view, Fw.rest, Fw.held]

@[simp] theorem State_acquireAnswer_sw_frame (s : State) (idx : Nat) (k : Packet) (queue : Nat) (hoff : Off wt [.page .sw 0x11, .page .sw 0x14, .core]) :
    (State.acquireAnswer s .sw idx k queue).view wt = s.view wt := by
  simp at hoff
  simp [State.acquireAnswer, hoff, Chip.view, Chip.rest, Pool.view, Pool.rest, Svc.view, Svc.rest, Herds.view, Herds.rest, Dct.view, Dct.rest, Dct.held, Fw.view, Fw.rest, Fw.held]

@[simp] theorem State_acquireAnswer_ep_frame (s : State) (idx : Nat) (k : Packet) (queue : Nat) (hoff : Off wt [.page .ep 0x10, .page .ep 0x280, .ports .ep, .rly, .sent]) :
    (State.acquireAnswer s .ep idx k queue).view wt = s.view wt := by
  simp at hoff
  simp [State.acquireAnswer, hoff, Chip.view, Chip.rest, Pool.view, Pool.rest, Svc.view, Svc.rest, Herds.view, Herds.rest, Dct.view, Dct.rest, Dct.held, Fw.view, Fw.rest, Fw.held]

@[simp] theorem State_errorAnswer_sw_frame (s : State) (idx : Nat) (k : Packet) (hoff : Off wt [.page .sw 0x11, .page .sw 0x14, .core]) :
    (State.errorAnswer s .sw idx k).view wt = s.view wt := by
  simp at hoff
  simp [State.errorAnswer, hoff, Chip.view, Chip.rest, Pool.view, Pool.rest, Svc.view, Svc.rest, Herds.view, Herds.rest, Dct.view, Dct.rest, Dct.held, Fw.view, Fw.rest, Fw.held]

@[simp] theorem State_errorAnswer_ep_frame (s : State) (idx : Nat) (k : Packet) (hoff : Off wt [.page .ep 0x10, .page .ep 0x280, .ports .ep, .rly, .sent]) :
    (State.errorAnswer s .ep idx k).view wt = s.view wt := by
  simp at hoff
  simp [State.errorAnswer, hoff, Chip.view, Chip.rest, Pool.view, Pool.rest, Svc.view, Svc.rest, Herds.view, Herds.rest, Dct.view, Dct.rest, Dct.held, Fw.view, Fw.rest, Fw.held]

@[simp] theorem State_acquireDone_frame (s : State) (q i : Nat) (value : Word) (verdict : Bool) (hoff : Off wt [.cmds, .ag, .sent]) :
    (State.acquireDone s q i value verdict).view wt = s.view wt := by
  simp at hoff
  unfold State.acquireDone
  dsimp only
  split
  · simp [hoff]
  · rw [emit_view _ _ (by simp [hoff]), State_onCmd_frame _ _ _ _ (by simp [hoff]), ag_view _ _ (by simp [hoff])]

@[simp] theorem State_ownAcquire_frame (s : State) (idx q i : Nat) (hoff : Off wt [.page .ep 0x4, .cmds, .ag, .sent]) :
    (State.ownAcquire s idx q i).view wt = s.view wt := by
  simp at hoff
  simp [State.ownAcquire, hoff, Chip.view, Chip.rest, Pool.view, Pool.rest, Svc.view, Svc.rest, Herds.view, Herds.rest, Dct.view, Dct.rest, Dct.held, Fw.view, Fw.rest, Fw.held]

@[simp] theorem State_satisfy_sw_frame (s : State) (w : SyncWait) (hoff : Off wt [.page .sw 0x11, .page .sw 0x14, .core]) :
    (State.satisfy s .sw w).view wt = s.view wt := by
  simp at hoff
  unfold State.satisfy; (try simp only [sw_beq_ep, ep_beq_sw, sw_beq_sw, ep_beq_ep, Bool.false_eq_true, Bool.true_and, Bool.false_and, if_true, if_false]); (repeat' split) <;> (try dsimp only) <;> first | contradiction | simp +decide [State.satisfy, hoff, Chip.view, Chip.rest, Pool.view, Pool.rest, Svc.view, Svc.rest, Herds.view, Herds.rest, Dct.view, Dct.rest, Dct.held, Fw.view, Fw.rest, Fw.held]

@[simp] theorem State_satisfy_ep_frame (s : State) (w : SyncWait) (hoff : Off wt [.page .ep 0x4, .page .ep 0x10, .page .ep 0x280, .ports .ep, .rly, .cmds, .ag, .sent]) :
    (State.satisfy s .ep w).view wt = s.view wt := by
  simp at hoff
  unfold State.satisfy; (try simp only [sw_beq_ep, ep_beq_sw, sw_beq_sw, ep_beq_ep, Bool.false_eq_true, Bool.true_and, Bool.false_and, if_true, if_false]); (repeat' split) <;> (try dsimp only) <;> first | contradiction | simp +decide [State.satisfy, hoff, Chip.view, Chip.rest, Pool.view, Pool.rest, Svc.view, Svc.rest, Herds.view, Herds.rest, Dct.view, Dct.rest, Dct.held, Fw.view, Fw.rest, Fw.held]

@[simp] theorem State_abortWait_sw_frame (s : State) (w : SyncWait) (hoff : Off wt [.page .sw 0x11, .page .sw 0x14, .core]) :
    (State.abortWait s .sw w).view wt = s.view wt := by
  simp at hoff
  unfold State.abortWait; (try simp only [sw_beq_ep, ep_beq_sw, sw_beq_sw, ep_beq_ep, Bool.false_eq_true, Bool.true_and, Bool.false_and, if_true, if_false]); (repeat' split) <;> (try dsimp only) <;> first | contradiction | simp +decide [State.abortWait, hoff, Chip.view, Chip.rest, Pool.view, Pool.rest, Svc.view, Svc.rest, Herds.view, Herds.rest, Dct.view, Dct.rest, Dct.held, Fw.view, Fw.rest, Fw.held]

@[simp] theorem State_abortWait_ep_frame (s : State) (w : SyncWait) (hoff : Off wt [.page .ep 0x10, .page .ep 0x280, .ports .ep, .rly, .cmds, .sent]) :
    (State.abortWait s .ep w).view wt = s.view wt := by
  simp at hoff
  unfold State.abortWait; (try simp only [sw_beq_ep, ep_beq_sw, sw_beq_sw, ep_beq_ep, Bool.false_eq_true, Bool.true_and, Bool.false_and, if_true, if_false]); (repeat' split) <;> (try dsimp only) <;> first | contradiction | simp +decide [State.abortWait, hoff, Chip.view, Chip.rest, Pool.view, Pool.rest, Svc.view, Svc.rest, Herds.view, Herds.rest, Dct.view, Dct.rest, Dct.held, Fw.view, Fw.rest, Fw.held]

@[simp] theorem State_wake_sw_frame (s : State) (idx : Nat) (hoff : Off wt [.page .sw 0x11, .page .sw 0x14, .sync .sw, .core]) :
    (State.wake s .sw idx).view wt = s.view wt := by
  simp at hoff
  simp [State.wake, hoff, Chip.view, Chip.rest, Pool.view, Pool.rest, Svc.view, Svc.rest, Herds.view, Herds.rest, Dct.view, Dct.rest, Dct.held, Fw.view, Fw.rest, Fw.held]

@[simp] theorem State_wake_ep_frame (s : State) (idx : Nat) (hoff : Off wt [.page .ep 0x4, .page .ep 0x10, .page .ep 0x280, .ports .ep, .sync .ep, .rly, .cmds, .ag, .sent]) :
    (State.wake s .ep idx).view wt = s.view wt := by
  simp at hoff
  simp [State.wake, hoff, Chip.view, Chip.rest, Pool.view, Pool.rest, Svc.view, Svc.rest, Herds.view, Herds.rest, Dct.view, Dct.rest, Dct.held, Fw.view, Fw.rest, Fw.held]

@[simp] theorem State_release_sw_frame (s : State) (idx : Nat) (v : Word) (scope : Nat) (a : Agent) (hoff : Off wt [.page .sw 0x11, .page .sw 0x14, .page .sw 0x21, .sync .sw, .core]) :
    (State.release s .sw idx v scope a).view wt = s.view wt := by
  simp at hoff
  simp [State.release, hoff, Chip.view, Chip.rest, Pool.view, Pool.rest, Svc.view, Svc.rest, Herds.view, Herds.rest, Dct.view, Dct.rest, Dct.held, Fw.view, Fw.rest, Fw.held]

@[simp] theorem State_release_ep_frame (s : State) (idx : Nat) (v : Word) (scope : Nat) (a : Agent) (hoff : Off wt [.page .ep 0x4, .page .ep 0x10, .page .ep 0x21, .page .ep 0x280, .ports .ep, .sync .ep, .rly, .cmds, .ag, .sent]) :
    (State.release s .ep idx v scope a).view wt = s.view wt := by
  simp at hoff
  simp [State.release, hoff, Chip.view, Chip.rest, Pool.view, Pool.rest, Svc.view, Svc.rest, Herds.view, Herds.rest, Dct.view, Dct.rest, Dct.held, Fw.view, Fw.rest, Fw.held]

@[simp] theorem State_synEnterError_sw_frame (s : State) (idx reason : Nat) (hoff : Off wt [.page .sw 0x11, .page .sw 0x14, .page .sw 0x21, .sync .sw, .core]) :
    (State.synEnterError s .sw idx reason).view wt = s.view wt := by
  simp at hoff
  simp [State.synEnterError, hoff, Chip.view, Chip.rest, Pool.view, Pool.rest, Svc.view, Svc.rest, Herds.view, Herds.rest, Dct.view, Dct.rest, Dct.held, Fw.view, Fw.rest, Fw.held]

@[simp] theorem State_synEnterError_ep_frame (s : State) (idx reason : Nat) (hoff : Off wt [.page .ep 0x10, .page .ep 0x21, .page .ep 0x280, .ports .ep, .sync .ep, .rly, .cmds, .sent]) :
    (State.synEnterError s .ep idx reason).view wt = s.view wt := by
  simp at hoff
  simp [State.synEnterError, hoff, Chip.view, Chip.rest, Pool.view, Pool.rest, Svc.view, Svc.rest, Herds.view, Herds.rest, Dct.view, Dct.rest, Dct.held, Fw.view, Fw.rest, Fw.held]

@[simp] theorem State_synClearError_sw_frame (s : State) (idx : Nat) (hoff : Off wt [.page .sw 0x21]) :
    (State.synClearError s .sw idx).view wt = s.view wt := by
  simp at hoff
  simp [State.synClearError, hoff, Chip.view, Chip.rest, Pool.view, Pool.rest, Svc.view, Svc.rest, Herds.view, Herds.rest, Dct.view, Dct.rest, Dct.held, Fw.view, Fw.rest, Fw.held]

@[simp] theorem State_synClearError_ep_frame (s : State) (idx : Nat) (hoff : Off wt [.page .ep 0x21]) :
    (State.synClearError s .ep idx).view wt = s.view wt := by
  simp at hoff
  simp [State.synClearError, hoff, Chip.view, Chip.rest, Pool.view, Pool.rest, Svc.view, Svc.rest, Herds.view, Herds.rest, Dct.view, Dct.rest, Dct.held, Fw.view, Fw.rest, Fw.held]

@[simp] theorem State_synAdvance_frame (s : State) (idx : Nat) (hoff : Off wt [.page .sw 0x11, .page .sw 0x14, .page .sw 0x21, .sync .sw, .core]) :
    (State.synAdvance s idx).view wt = s.view wt := by
  simp at hoff
  simp [State.synAdvance, hoff, Chip.view, Chip.rest, Pool.view, Pool.rest, Svc.view, Svc.rest, Herds.view, Herds.rest, Dct.view, Dct.rest, Dct.held, Fw.view, Fw.rest, Fw.held]

@[simp] theorem State_syncGuard_sw_frame (s : State) (k : Packet) (update : Bool) (f : State → State) (hoff : Off wt [.hdr .sw, .page .sw 0x5, .page .sw 0xb, .page .sw 0x11, .page .sw 0x13, .page .sw 0x14, .log .sw, .core, .pool, .sent]) (hf : ∀  s, (f  s).view wt = s.view wt) :
    (State.syncGuard s .sw k update f).view wt = s.view wt := by
  simp at hoff
  simp [State.syncGuard, hoff, hf, Chip.view, Chip.rest, Pool.view, Pool.rest, Svc.view, Svc.rest, Herds.view, Herds.rest, Dct.view, Dct.rest, Dct.held, Fw.view, Fw.rest, Fw.held]

@[simp] theorem State_syncGuard_ep_frame (s : State) (k : Packet) (update : Bool) (f : State → State) (hoff : Off wt [.hdr .ep, .page .ep 0xb, .page .ep 0x10, .page .ep 0x22, .page .ep 0x280, .log .ep, .ports .ep, .rly, .ddp, .sent]) (hf : ∀  s, (f  s).view wt = s.view wt) :
    (State.syncGuard s .ep k update f).view wt = s.view wt := by
  simp at hoff
  simp [State.syncGuard, hoff, hf, Chip.view, Chip.rest, Pool.view, Pool.rest, Svc.view, Svc.rest, Herds.view, Herds.rest, Dct.view, Dct.rest, Dct.held, Fw.view, Fw.rest, Fw.held]

@[simp] theorem State_syncUpdate_sw_frame (s : State) (k : Packet) (queue : Nat) (v : Word → Word) (hoff : Off wt [.hdr .sw, .page .sw 0x5, .page .sw 0xb, .page .sw 0x11, .page .sw 0x13, .page .sw 0x14, .page .sw 0x21, .log .sw, .sync .sw, .core, .pool, .sent]) :
    (State.syncUpdate s .sw k queue v).view wt = s.view wt := by
  simp at hoff
  simp only [State.syncUpdate]
  refine State_syncGuard_sw_frame _ _ _ _ (by simp [hoff]) fun s => ?_
  split
  · simp [hoff]
  · refine State_room_sw_frame _ _ _ (by simp [hoff]) fun s => ?_
    simp [hoff]

@[simp] theorem State_syncUpdate_ep_frame (s : State) (k : Packet) (queue : Nat) (v : Word → Word) (hoff : Off wt [.hdr .ep, .page .ep 0x4, .page .ep 0xb, .page .ep 0x10, .page .ep 0x21, .page .ep 0x22, .page .ep 0x280, .log .ep, .ports .ep, .sync .ep, .rly, .cmds, .ddp, .ag, .sent]) :
    (State.syncUpdate s .ep k queue v).view wt = s.view wt := by
  simp at hoff
  simp only [State.syncUpdate]
  refine State_syncGuard_ep_frame _ _ _ _ (by simp [hoff]) fun s => ?_
  split
  · simp [hoff]
  · refine State_room_ep_frame _ _ _ (by simp [hoff]) fun s => ?_
    simp [hoff]

@[simp] theorem State_hostAcquire_frame (s : State) (hoff : Off wt [.page .sw 0x21]) :
    (State.hostAcquire s).view wt = s.view wt := by
  simp at hoff
  simp [State.hostAcquire, hoff, Chip.view, Chip.rest, Pool.view, Pool.rest, Svc.view, Svc.rest, Herds.view, Herds.rest, Dct.view, Dct.rest, Dct.held, Fw.view, Fw.rest, Fw.held]

theorem synAcqRead_frame (path : Path) (s : State) (hoff : Off wt [.page .sw 0x21, .sent]) :
    (synAcqRead path s).view wt = s.view wt := by
  simp at hoff
  unfold synAcqRead; (try simp only [sw_beq_ep, ep_beq_sw, sw_beq_sw, ep_beq_ep, Bool.false_eq_true, Bool.true_and, Bool.false_and, if_true, if_false]); repeat' (first | contradiction | (simp +decide [synAcqRead, hoff, Chip.view, Chip.rest, Pool.view, Pool.rest, Svc.view, Svc.rest, Herds.view, Herds.rest, Dct.view, Dct.rest, Dct.held, Fw.view, Fw.rest, Fw.held]; done) | (intros; split) | (intros; first | refine Eq.trans (State_readBy_ep_frame _ _ _ _ _ (by simp [hoff]) (fun _ => ?_)) ?_ | refine Eq.trans (State_readBy_sw_frame _ _ _ _ _ (by simp [hoff]) (fun _ => ?_)) ?_ | refine Eq.trans (foldl_view _ _ _ fun _ _ => ?_) ?_ | refine Eq.trans (foldl_fst_view _ _ _ fun _ _ => ?_) ?_ | refine Eq.trans (when_view _ _ _ ?_) ?_) | dsimp only | simp +decide [synAcqRead, hoff])

@[simp] theorem State_doAdd_frame (s : State) (a : HostAdd) (hoff : Off wt [.hdr .sw, .page .sw 0xb, .page .sw 0x11, .page .sw 0x14, .page .sw 0x21, .sync .sw, .core]) :
    (State.doAdd s a).view wt = s.view wt := by
  simp at hoff
  simp [State.doAdd, hoff, Chip.view, Chip.rest, Pool.view, Pool.rest, Svc.view, Svc.rest, Herds.view, Herds.rest, Dct.view, Dct.rest, Dct.held, Fw.view, Fw.rest, Fw.held]

@[simp] theorem State_hostAdds_frame (s : State) (hoff : Off wt [.hdr .sw, .page .sw 0xb, .page .sw 0x11, .page .sw 0x14, .page .sw 0x21, .sync .sw, .core, .pool]) :
    (State.hostAdds s).view wt = s.view wt := by
  simp at hoff
  simp [State.hostAdds, hoff, Chip.view, Chip.rest, Pool.view, Pool.rest, Svc.view, Svc.rest, Herds.view, Herds.rest, Dct.view, Dct.rest, Dct.held, Fw.view, Fw.rest, Fw.held]

@[simp] theorem State_hostAdd_frame (s : State) (v : Word) (hoff : Off wt [.hdr .sw, .page .sw 0xb, .page .sw 0x11, .page .sw 0x14, .page .sw 0x21, .sync .sw, .core, .pool]) :
    (State.hostAdd s v).1.view wt = s.view wt := by
  simp at hoff
  unfold State.hostAdd; (try simp only [sw_beq_ep, ep_beq_sw, sw_beq_sw, ep_beq_ep, Bool.false_eq_true, Bool.true_and, Bool.false_and, if_true, if_false]); (repeat' split) <;> (try dsimp only) <;> first | contradiction | simp +decide [State.hostAdd, hoff, Chip.view, Chip.rest, Pool.view, Pool.rest, Svc.view, Svc.rest, Herds.view, Herds.rest, Dct.view, Dct.rest, Dct.held, Fw.view, Fw.rest, Fw.held]

theorem synAddWrite_frame (path : Path) (v : Word) (s : State) (hoff : Off wt [.hdr .sw, .page .sw 0xb, .page .sw 0x11, .page .sw 0x14, .page .sw 0x21, .sync .sw, .core, .pool, .sent]) :
    (synAddWrite path v s).view wt = s.view wt := by
  simp at hoff
  simp [synAddWrite, hoff, Chip.view, Chip.rest, Pool.view, Pool.rest, Svc.view, Svc.rest, Herds.view, Herds.rest, Dct.view, Dct.rest, Dct.held, Fw.view, Fw.rest, Fw.held]

theorem synErrorClear_sw_frame (path : Path) (s : State) (hoff : Off wt [.hdr .sw, .page .sw 0xb, .page .sw 0x21, .sent]) :
    (synErrorClear path .sw s).view wt = s.view wt := by
  simp at hoff
  simp [synErrorClear, hoff, Chip.view, Chip.rest, Pool.view, Pool.rest, Svc.view, Svc.rest, Herds.view, Herds.rest, Dct.view, Dct.rest, Dct.held, Fw.view, Fw.rest, Fw.held]

theorem synErrorClear_ep_frame (path : Path) (s : State) (hoff : Off wt [.hdr .ep, .page .ep 0xb, .page .ep 0x21, .sent]) :
    (synErrorClear path .ep s).view wt = s.view wt := by
  simp at hoff
  simp [synErrorClear, hoff, Chip.view, Chip.rest, Pool.view, Pool.rest, Svc.view, Svc.rest, Herds.view, Herds.rest, Dct.view, Dct.rest, Dct.held, Fw.view, Fw.rest, Fw.held]

@[simp] theorem State_setSynCfg_sw_frame (s : State) (v : Word) (hoff : Off wt [.hdr .sw, .page .sw 0xb, .page .sw 0x21, .sync .sw]) :
    (State.setSynCfg s .sw v).1.view wt = s.view wt := by
  simp at hoff
  simp [State.setSynCfg, hoff, Chip.view, Chip.rest, Pool.view, Pool.rest, Svc.view, Svc.rest, Herds.view, Herds.rest, Dct.view, Dct.rest, Dct.held, Fw.view, Fw.rest, Fw.held]

@[simp] theorem State_setSynCfg_ep_frame (s : State) (v : Word) (hoff : Off wt [.page .ep 0x21, .sync .ep]) :
    (State.setSynCfg s .ep v).1.view wt = s.view wt := by
  simp at hoff
  simp [State.setSynCfg, hoff, Chip.view, Chip.rest, Pool.view, Pool.rest, Svc.view, Svc.rest, Herds.view, Herds.rest, Dct.view, Dct.rest, Dct.held, Fw.view, Fw.rest, Fw.held]

@[simp] theorem State_feedPort_frame (s : State) (old : List QEntry) (q : QEntry) (hoff : Off wt [.page .sw 0x280, .ports .sw, .sent]) :
    (State.feedPort s old q).view wt = s.view wt := by
  simp at hoff
  unfold State.feedPort
  dsimp only
  split <;> simp [hoff]

@[simp] theorem State_xbarTick_frame (s : State) (hoff : Off wt [.page .sw 0x10, .page .sw 0x280, .ports .sw, .core, .sent, .free]) :
    (State.xbarTick s).view wt = s.view wt := by
  simp at hoff
  unfold State.xbarTick
  extract_lets old r s1 s2 s3 s4 s5
  have h1 : s1.view wt = s.view wt := by simp [s1, hoff]
  have h2 : s2.view wt = s1.view wt := foldl_view _ _ _ fun s q => by
    dsimp only; split
    · exact when_view _ _ _ (by simp [hoff])
    · rfl
  have h3 : s3.view wt = s2.view wt := by simp [s3, hoff]
  have h4 : s4.view wt = s3.view wt := when_view _ _ _ (by simp [hoff])
  have h5 : s5.view wt = s4.view wt := foldl_view _ _ _ fun s q => by simp [hoff]
  clear_value s5 s4 s3 s2 s1 r
  split
  · rfl
  · rw [← h1, ← h2, ← h3, ← h4, ← h5]; simp [hoff]

end Sys2Proof.Machine
end

