-- ==== Sys2Proof/Laws/FrameHerds.lean ====
section
/-! SUPPORT. The components that each operation of pool, reduction cores, herds and services may change. -/

set_option Elab.async false
set_option linter.all false

namespace Sys2Proof.Machine

variable {wt : Comp → Bool}

@[simp] theorem State_putHerd_frame (s : State) (i : Nat) (h : Herd) (hoff : Off wt [.herds]) :
    (State.putHerd s i h).view wt = s.view wt := by
  simp at hoff
  simp [State.putHerd, hoff, Chip.view, Chip.rest, Pool.view, Pool.rest, Svc.view, Svc.rest, Herds.view, Herds.rest, Dct.view, Dct.rest, Dct.held, Fw.view, Fw.rest, Fw.held]

@[simp] theorem State_onHerd_frame (s : State) (i : Nat) (f : Herd → Herd) (hoff : Off wt [.herds]) :
    (State.onHerd s i f).view wt = s.view wt := by
  simp at hoff
  unfold State.onHerd; (try simp only [sw_beq_ep, ep_beq_sw, sw_beq_sw, ep_beq_ep, Bool.false_eq_true, Bool.true_and, Bool.false_and, if_true, if_false]); (repeat' split) <;> (try dsimp only) <;> first | contradiction | simp +decide [State.onHerd, hoff, Chip.view, Chip.rest, Pool.view, Pool.rest, Svc.view, Svc.rest, Herds.view, Herds.rest, Dct.view, Dct.rest, Dct.held, Fw.view, Fw.rest, Fw.held]

@[simp] theorem State_onAttach_frame (s : State) (i : Nat) (f : Attach → Attach) (hoff : Off wt [.svc]) :
    (State.onAttach s i f).view wt = s.view wt := by
  simp at hoff
  unfold State.onAttach
  refine State_onSvc_frame _ _ fun v => ?_
  split <;> simp [Svc.view, Svc.rest, hoff]

@[simp] theorem State_toMember_frame (s : State) (i slot node op : Nat) (pre : HerdPrefix) (data : List Byte) (h : Herd) (hoff : Off wt [.page .sw 0x11, .page .sw 0x14, .core]) :
    (State.toMember s i slot node op pre data h).view wt = s.view wt := by
  simp at hoff
  simp [State.toMember, hoff, Chip.view, Chip.rest, Pool.view, Pool.rest, Svc.view, Svc.rest, Herds.view, Herds.rest, Dct.view, Dct.rest, Dct.held, Fw.view, Fw.rest, Fw.held]

@[simp] theorem State_toParent_frame (s : State) (slot op : Nat) (pre : HerdPrefix) (data : List Byte) (h : Herd) (hoff : Off wt [.page .sw 0x11, .page .sw 0x14, .core]) :
    (State.toParent s slot op pre data h).view wt = s.view wt := by
  simp at hoff
  simp [State.toParent, hoff, Chip.view, Chip.rest, Pool.view, Pool.rest, Svc.view, Svc.rest, Herds.view, Herds.rest, Dct.view, Dct.rest, Dct.held, Fw.view, Fw.rest, Fw.held]

@[simp] theorem State_toChild_frame (s : State) (slot op : Nat) (pre : HerdPrefix) (data : List Byte) (h : Herd) (hoff : Off wt [.page .sw 0x11, .page .sw 0x14, .core]) :
    (State.toChild s slot op pre data h).view wt = s.view wt := by
  simp at hoff
  simp [State.toChild, hoff, Chip.view, Chip.rest, Pool.view, Pool.rest, Svc.view, Svc.rest, Herds.view, Herds.rest, Dct.view, Dct.rest, Dct.held, Fw.view, Fw.rest, Fw.held]

@[simp] theorem State_refuseMember_frame (s : State) (k : Packet) (status reason : Nat) (swappedOut twinLost : Bool) (hoff : Off wt [.page .sw 0x11, .page .sw 0x14, .core]) :
    (State.refuseMember s k status reason swappedOut twinLost).view wt = s.view wt := by
  simp at hoff
  simp [State.refuseMember, hoff, Chip.view, Chip.rest, Pool.view, Pool.rest, Svc.view, Svc.rest, Herds.view, Herds.rest, Dct.view, Dct.rest, Dct.held, Fw.view, Fw.rest, Fw.held]

@[simp] theorem State_askUp_frame (s : State) (h : Herd) (reason : Nat) (fo : Bool) (except : Option Nat) (hoff : Off wt [.page .sw 0x11, .page .sw 0x14, .core]) :
    (State.askUp s h reason fo except).view wt = s.view wt := by
  simp at hoff
  simp [State.askUp, hoff, Chip.view, Chip.rest, Pool.view, Pool.rest, Svc.view, Svc.rest, Herds.view, Herds.rest, Dct.view, Dct.rest, Dct.held, Fw.view, Fw.rest, Fw.held]

@[simp] theorem State_tellDown_frame (s : State) (i : Nat) (h : Herd) (reason : Nat) (fo : Bool) (hoff : Off wt [.page .sw 0x11, .page .sw 0x14, .core]) :
    (State.tellDown s i h reason fo).view wt = s.view wt := by
  simp at hoff
  unfold State.tellDown; (try simp only [sw_beq_ep, ep_beq_sw, sw_beq_sw, ep_beq_ep, Bool.false_eq_true, Bool.true_and, Bool.false_and, if_true, if_false]); repeat' (first | contradiction | (simp +decide [State.tellDown, hoff, Chip.view, Chip.rest, Pool.view, Pool.rest, Svc.view, Svc.rest, Herds.view, Herds.rest, Dct.view, Dct.rest, Dct.held, Fw.view, Fw.rest, Fw.held]; done) | (intros; split) | (intros; first | refine Eq.trans (foldl_view _ _ _ fun _ _ => ?_) ?_ | refine Eq.trans (foldl_fst_view _ _ _ fun _ _ => ?_) ?_ | refine Eq.trans (when_view _ _ _ ?_) ?_) | dsimp only | simp +decide [State.tellDown, hoff])

@[simp] theorem State_hrdDone_frame (s : State) (status detail : Nat) (hoff : Off wt [.page .sw 0x20, .hrd]) :
    (State.hrdDone s status detail).view wt = s.view wt := by
  simp at hoff
  simp [State.hrdDone, hoff, Chip.view, Chip.rest, Pool.view, Pool.rest, Svc.view, Svc.rest, Herds.view, Herds.rest, Dct.view, Dct.rest, Dct.held, Fw.view, Fw.rest, Fw.held]

@[simp] theorem State_freeHerd_frame (s : State) (i : Nat) (hoff : Off wt [.page .sw 0x21, .svc, .herds]) :
    (State.freeHerd s i).view wt = s.view wt := by
  simp at hoff
  unfold State.freeHerd; (try simp only [sw_beq_ep, ep_beq_sw, sw_beq_sw, ep_beq_ep, Bool.false_eq_true, Bool.true_and, Bool.false_and, if_true, if_false]); (repeat' split) <;> (try dsimp only) <;> first | contradiction | simp +decide [State.freeHerd, hoff, Chip.view, Chip.rest, Pool.view, Pool.rest, Svc.view, Svc.rest, Herds.view, Herds.rest, Dct.view, Dct.rest, Dct.held, Fw.view, Fw.rest, Fw.held]

@[simp] theorem State_leaveAborting_frame (s : State) (i : Nat) (hoff : Off wt [.page .sw 0x11, .page .sw 0x14, .page .sw 0x20, .page .sw 0x21, .core, .svc, .herds, .hrd]) :
    (State.leaveAborting s i).view wt = s.view wt := by
  simp at hoff
  unfold State.leaveAborting; (try simp only [sw_beq_ep, ep_beq_sw, sw_beq_sw, ep_beq_ep, Bool.false_eq_true, Bool.true_and, Bool.false_and, if_true, if_false]); (repeat' split) <;> (try dsimp only) <;> first | contradiction | simp +decide [State.leaveAborting, hoff, Chip.view, Chip.rest, Pool.view, Pool.rest, Svc.view, Svc.rest, Herds.view, Herds.rest, Dct.view, Dct.rest, Dct.held, Fw.view, Fw.rest, Fw.held]

@[simp] theorem State_checkAcked_frame (s : State) (i : Nat) (hoff : Off wt [.page .sw 0x11, .page .sw 0x14, .page .sw 0x20, .page .sw 0x21, .core, .svc, .herds, .hrd]) :
    (State.checkAcked s i).view wt = s.view wt := by
  simp at hoff
  unfold State.checkAcked; (try simp only [sw_beq_ep, ep_beq_sw, sw_beq_sw, ep_beq_ep, Bool.false_eq_true, Bool.true_and, Bool.false_and, if_true, if_false]); (repeat' split) <;> (try dsimp only) <;> first | contradiction | simp +decide [State.checkAcked, hoff, Chip.view, Chip.rest, Pool.view, Pool.rest, Svc.view, Svc.rest, Herds.view, Herds.rest, Dct.view, Dct.rest, Dct.held, Fw.view, Fw.rest, Fw.held]

@[simp] theorem State_dropResidue_frame (s : State) (i : Nat) (hoff : Off wt [.ports .sw, .core]) :
    (State.dropResidue s i).view wt = s.view wt := by
  simp at hoff
  simp [State.dropResidue, hoff, Chip.view, Chip.rest, Pool.view, Pool.rest, Svc.view, Svc.rest, Herds.view, Herds.rest, Dct.view, Dct.rest, Dct.held, Fw.view, Fw.rest, Fw.held]

@[simp] theorem State_keepStores_frame (s : State) (i : Nat) (hoff : Off wt [.svc]) :
    (State.keepStores s i).view wt = s.view wt := by
  simp at hoff
  unfold State.keepStores; (try simp only [sw_beq_ep, ep_beq_sw, sw_beq_sw, ep_beq_ep, Bool.false_eq_true, Bool.true_and, Bool.false_and, if_true, if_false]); (repeat' split) <;> (try dsimp only) <;> first | contradiction | simp +decide [State.keepStores, hoff, Chip.view, Chip.rest, Pool.view, Pool.rest, Svc.view, Svc.rest, Herds.view, Herds.rest, Dct.view, Dct.rest, Dct.held, Fw.view, Fw.rest, Fw.held]

@[simp] theorem State_decideHerd_frame (s : State) (i reason : Nat) (fo : Bool) (via : Option Nat) (hoff : Off wt [.hdr .sw, .page .sw 0x5, .page .sw 0xb, .page .sw 0x11, .page .sw 0x14, .page .sw 0x20, .page .sw 0x21, .log .sw, .ports .sw, .sync .sw, .core, .svc, .herds, .hrd, .sent]) :
    (State.decideHerd s i reason fo via).view wt = s.view wt := by
  simp at hoff
  unfold State.decideHerd; (try simp only [sw_beq_ep, ep_beq_sw, sw_beq_sw, ep_beq_ep, Bool.false_eq_true, Bool.true_and, Bool.false_and, if_true, if_false]); (repeat' split) <;> (try dsimp only) <;> first | contradiction | simp +decide [State.decideHerd, hoff, Chip.view, Chip.rest, Pool.view, Pool.rest, Svc.view, Svc.rest, Herds.view, Herds.rest, Dct.view, Dct.rest, Dct.held, Fw.view, Fw.rest, Fw.held]

@[simp] theorem State_restate_frame (s : State) (i reason : Nat) (hoff : Off wt [.page .sw 0x21, .core, .herds]) :
    (State.restate s i reason).view wt = s.view wt := by
  simp at hoff
  unfold State.restate; (try simp only [sw_beq_ep, ep_beq_sw, sw_beq_sw, ep_beq_ep, Bool.false_eq_true, Bool.true_and, Bool.false_and, if_true, if_false]); (repeat' split) <;> (try dsimp only) <;> first | contradiction | simp +decide [State.restate, hoff, Chip.view, Chip.rest, Pool.view, Pool.rest, Svc.view, Svc.rest, Herds.view, Herds.rest, Dct.view, Dct.rest, Dct.held, Fw.view, Fw.rest, Fw.held]

@[simp] theorem State_herdCondition_frame (s : State) (i reason : Nat) (path : Bool) (hoff : Off wt [.hdr .sw, .page .sw 0x5, .page .sw 0xb, .page .sw 0x11, .page .sw 0x14, .page .sw 0x20, .page .sw 0x21, .log .sw, .ports .sw, .sync .sw, .core, .svc, .herds, .hrd, .sent]) :
    (State.herdCondition s i reason path).view wt = s.view wt := by
  simp at hoff
  unfold State.herdCondition; (try simp only [sw_beq_ep, ep_beq_sw, sw_beq_sw, ep_beq_ep, Bool.false_eq_true, Bool.true_and, Bool.false_and, if_true, if_false]); (repeat' split) <;> (try dsimp only) <;> first | contradiction | simp +decide [State.herdCondition, hoff, Chip.view, Chip.rest, Pool.view, Pool.rest, Svc.view, Svc.rest, Herds.view, Herds.rest, Dct.view, Dct.rest, Dct.held, Fw.view, Fw.rest, Fw.held]

@[simp] theorem State_upLost_frame (s : State) (i slot : Nat) (hoff : Off wt [.hdr .sw, .page .sw 0x5, .page .sw 0xb, .page .sw 0x11, .page .sw 0x14, .page .sw 0x20, .page .sw 0x21, .log .sw, .ports .sw, .sync .sw, .core, .svc, .herds, .hrd, .sent]) :
    (State.upLost s i slot).view wt = s.view wt := by
  simp at hoff
  unfold State.upLost; (try simp only [sw_beq_ep, ep_beq_sw, sw_beq_sw, ep_beq_ep, Bool.false_eq_true, Bool.true_and, Bool.false_and, if_true, if_false]); (repeat' split) <;> (try dsimp only) <;> first | contradiction | simp +decide [State.upLost, hoff, Chip.view, Chip.rest, Pool.view, Pool.rest, Svc.view, Svc.rest, Herds.view, Herds.rest, Dct.view, Dct.rest, Dct.held, Fw.view, Fw.rest, Fw.held]

@[simp] theorem State_actOnLoss_frame (s : State) (i v : Nat) (x0 : SlotLoss) (hoff : Off wt [.hdr .sw, .page .sw 0x5, .page .sw 0xb, .page .sw 0x11, .page .sw 0x14, .page .sw 0x20, .page .sw 0x21, .log .sw, .ports .sw, .sync .sw, .core, .svc, .herds, .hrd, .sent]) :
    (State.actOnLoss s i v x0).view wt = s.view wt := by
  simp at hoff
  unfold State.actOnLoss; (try simp only [sw_beq_ep, ep_beq_sw, sw_beq_sw, ep_beq_ep, Bool.false_eq_true, Bool.true_and, Bool.false_and, if_true, if_false]); (repeat' split) <;> (try dsimp only) <;> first | contradiction | simp +decide [State.actOnLoss, hoff, Chip.view, Chip.rest, Pool.view, Pool.rest, Svc.view, Svc.rest, Herds.view, Herds.rest, Dct.view, Dct.rest, Dct.held, Fw.view, Fw.rest, Fw.held]

@[simp] theorem State_herdsPortLost_frame (s : State) (n : Nat) (hoff : Off wt [.hdr .sw, .page .sw 0x5, .page .sw 0xb, .page .sw 0x11, .page .sw 0x14, .page .sw 0x20, .page .sw 0x21, .log .sw, .ports .sw, .sync .sw, .core, .svc, .herds, .hrd, .sent]) :
    (State.herdsPortLost s n).view wt = s.view wt := by
  simp at hoff
  refine foldl_view _ _ _ fun s e => ?_
  dsimp only
  rw [State_checkAcked_frame _ _ (by simp [hoff])]
  refine foldl_view _ _ _ fun s v => ?_
  split
  · split <;> simp [hoff]
  · rfl

@[simp] theorem State_abortHerds_frame (s : State) (reason : Nat) (f : Nat → Herd → Bool) (hoff : Off wt [.hdr .sw, .page .sw 0x5, .page .sw 0xb, .page .sw 0x11, .page .sw 0x14, .page .sw 0x20, .page .sw 0x21, .log .sw, .ports .sw, .sync .sw, .core, .svc, .herds, .hrd, .sent]) :
    (State.abortHerds s reason f).view wt = s.view wt := by
  simp at hoff
  simp [State.abortHerds, hoff, Chip.view, Chip.rest, Pool.view, Pool.rest, Svc.view, Svc.rest, Herds.view, Herds.rest, Dct.view, Dct.rest, Dct.held, Fw.view, Fw.rest, Fw.held]

@[simp] theorem State_thirdFault_sw_frame (s : State) (n : Nat) (hoff : Off wt [.hdr .sw, .page .sw 0x5, .page .sw 0xb, .page .sw 0x11, .page .sw 0x14, .page .sw 0x20, .page .sw 0x21, .log .sw, .ports .sw, .sync .sw, .core, .svc, .herds, .hrd, .sent]) :
    (State.thirdFault s .sw n).view wt = s.view wt := by
  simp at hoff
  simp [State.thirdFault, hoff, Chip.view, Chip.rest, Pool.view, Pool.rest, Svc.view, Svc.rest, Herds.view, Herds.rest, Dct.view, Dct.rest, Dct.held, Fw.view, Fw.rest, Fw.held]

@[simp] theorem State_thirdFault_ep_frame (s : State) (n : Nat) :
    (State.thirdFault s .ep n).view wt = s.view wt := by
  simp [State.thirdFault, Chip.view, Chip.rest, Pool.view, Pool.rest, Svc.view, Svc.rest, Herds.view, Herds.rest, Dct.view, Dct.rest, Dct.held, Fw.view, Fw.rest, Fw.held]

@[simp] theorem State_revokeHerds_frame (s : State) (p : Nat) (hoff : Off wt [.hdr .sw, .page .sw 0x5, .page .sw 0xb, .page .sw 0x11, .page .sw 0x14, .page .sw 0x20, .page .sw 0x21, .log .sw, .ports .sw, .sync .sw, .core, .svc, .herds, .hrd, .sent]) :
    (State.revokeHerds s p).view wt = s.view wt := by
  simp at hoff
  simp [State.revokeHerds, hoff, Chip.view, Chip.rest, Pool.view, Pool.rest, Svc.view, Svc.rest, Herds.view, Herds.rest, Dct.view, Dct.rest, Dct.held, Fw.view, Fw.rest, Fw.held]

@[simp] theorem State_noCoreLeft_frame (s : State) (hoff : Off wt [.hdr .sw, .page .sw 0x5, .page .sw 0xb, .page .sw 0x11, .page .sw 0x14, .page .sw 0x20, .page .sw 0x21, .log .sw, .ports .sw, .sync .sw, .core, .svc, .herds, .hrd, .sent]) :
    (State.noCoreLeft s).view wt = s.view wt := by
  simp at hoff
  simp [State.noCoreLeft, hoff, Chip.view, Chip.rest, Pool.view, Pool.rest, Svc.view, Svc.rest, Herds.view, Herds.rest, Dct.view, Dct.rest, Dct.held, Fw.view, Fw.rest, Fw.held]

@[simp] theorem State_fenceCore_frame (s : State) (c cause : Nat) (hoff : Off wt [.hdr .sw, .page .sw 0x5, .page .sw 0xb, .page .sw 0x11, .page .sw 0x14, .page .sw 0x20, .page .sw 0x21, .page .sw 0x300, .log .sw, .ports .sw, .sync .sw, .core, .svc, .herds, .hrd, .sent]) :
    (State.fenceCore s c cause).view wt = s.view wt := by
  simp at hoff
  simp [State.fenceCore, hoff, Chip.view, Chip.rest, Pool.view, Pool.rest, Svc.view, Svc.rest, Herds.view, Herds.rest, Dct.view, Dct.rest, Dct.held, Fw.view, Fw.rest, Fw.held]

theorem coreResidueFault_frame (c : Nat) (selfCheck : Bool) (work : Option (Nat × Nat)) (s : State) (hoff : Off wt [.hdr .sw, .page .sw 0x5, .page .sw 0xb, .page .sw 0x11, .page .sw 0x14, .page .sw 0x20, .page .sw 0x21, .page .sw 0x300, .log .sw, .ports .sw, .sync .sw, .core, .svc, .herds, .hrd, .sent]) :
    (coreResidueFault c selfCheck work s).view wt = s.view wt := by
  simp at hoff
  unfold coreResidueFault; (try simp only [sw_beq_ep, ep_beq_sw, sw_beq_sw, ep_beq_ep, Bool.false_eq_true, Bool.true_and, Bool.false_and, if_true, if_false]); (repeat' split) <;> (try dsimp only) <;> first | contradiction | simp +decide [coreResidueFault, hoff, Chip.view, Chip.rest, Pool.view, Pool.rest, Svc.view, Svc.rest, Herds.view, Herds.rest, Dct.view, Dct.rest, Dct.held, Fw.view, Fw.rest, Fw.held]

@[simp] theorem State_rdcFence_frame (s : State) (c : Nat) (hoff : Off wt [.hdr .sw, .page .sw 0x5, .page .sw 0xb, .page .sw 0x11, .page .sw 0x14, .page .sw 0x20, .page .sw 0x21, .page .sw 0x300, .log .sw, .ports .sw, .sync .sw, .core, .svc, .herds, .hrd, .sent]) :
    (State.rdcFence s c).1.view wt = s.view wt := by
  simp at hoff
  simp [State.rdcFence, hoff, Chip.view, Chip.rest, Pool.view, Pool.rest, Svc.view, Svc.rest, Herds.view, Herds.rest, Dct.view, Dct.rest, Dct.held, Fw.view, Fw.rest, Fw.held]

theorem rdcFenceWrite_frame (path : Path) (c : Nat) (s : State) (hoff : Off wt [.hdr .sw, .page .sw 0x5, .page .sw 0xb, .page .sw 0x11, .page .sw 0x14, .page .sw 0x20, .page .sw 0x21, .page .sw 0x300, .log .sw, .ports .sw, .sync .sw, .core, .svc, .herds, .hrd, .sent]) :
    (rdcFenceWrite path c s).view wt = s.view wt := by
  simp at hoff
  simp [rdcFenceWrite, hoff, Chip.view, Chip.rest, Pool.view, Pool.rest, Svc.view, Svc.rest, Herds.view, Herds.rest, Dct.view, Dct.rest, Dct.held, Fw.view, Fw.rest, Fw.held]

@[simp] theorem State_rdcReadmit_frame (s : State) (c : Nat) (hoff : Off wt [.hdr .sw, .page .sw 0xb, .page .sw 0x300]) :
    (State.rdcReadmit s c).1.view wt = s.view wt := by
  simp at hoff
  simp [State.rdcReadmit, hoff, Chip.view, Chip.rest, Pool.view, Pool.rest, Svc.view, Svc.rest, Herds.view, Herds.rest, Dct.view, Dct.rest, Dct.held, Fw.view, Fw.rest, Fw.held]

theorem rdcReadmitWrite_frame (path : Path) (c : Nat) (s : State) (hoff : Off wt [.hdr .sw, .page .sw 0xb, .page .sw 0x300, .sent]) :
    (rdcReadmitWrite path c s).view wt = s.view wt := by
  simp at hoff
  simp [rdcReadmitWrite, hoff, Chip.view, Chip.rest, Pool.view, Pool.rest, Svc.view, Svc.rest, Herds.view, Herds.rest, Dct.view, Dct.rest, Dct.held, Fw.view, Fw.rest, Fw.held]

@[simp] theorem State_rdcSelftest_frame (s : State) (c : Nat) (hoff : Off wt [.hdr .sw, .page .sw 0xb, .page .sw 0x300]) :
    (State.rdcSelftest s c).1.view wt = s.view wt := by
  simp at hoff
  simp [State.rdcSelftest, hoff, Chip.view, Chip.rest, Pool.view, Pool.rest, Svc.view, Svc.rest, Herds.view, Herds.rest, Dct.view, Dct.rest, Dct.held, Fw.view, Fw.rest, Fw.held]

theorem rdcSelftestWrite_frame (path : Path) (c : Nat) (s : State) (hoff : Off wt [.hdr .sw, .page .sw 0xb, .page .sw 0x300, .sent]) :
    (rdcSelftestWrite path c s).view wt = s.view wt := by
  simp at hoff
  simp [rdcSelftestWrite, hoff, Chip.view, Chip.rest, Pool.view, Pool.rest, Svc.view, Svc.rest, Herds.view, Herds.rest, Dct.view, Dct.rest, Dct.held, Fw.view, Fw.rest, Fw.held]

theorem selftestComplete_frame (c : Nat) (pass : Bool) (failFmt : Nat) (s : State) (hoff : Off wt [.hdr .sw, .page .sw 0x5, .page .sw 0xb, .page .sw 0x11, .page .sw 0x14, .page .sw 0x20, .page .sw 0x21, .page .sw 0x300, .log .sw, .ports .sw, .sync .sw, .core, .svc, .herds, .hrd, .sent]) :
    (selftestComplete c pass failFmt s).view wt = s.view wt := by
  simp at hoff
  simp [selftestComplete, hoff, Chip.view, Chip.rest, Pool.view, Pool.rest, Svc.view, Svc.rest, Herds.view, Herds.rest, Dct.view, Dct.rest, Dct.held, Fw.view, Fw.rest, Fw.held]

@[simp] theorem State_addOps_frame (s : State) (c ops : Nat) (hoff : Off wt [.page .sw 0x300, .hrd]) :
    (State.addOps s c ops).view wt = s.view wt := by
  simp at hoff
  simp [State.addOps, hoff, Chip.view, Chip.rest, Pool.view, Pool.rest, Svc.view, Svc.rest, Herds.view, Herds.rest, Dct.view, Dct.rest, Dct.held, Fw.view, Fw.rest, Fw.held]

@[simp] theorem State_rowOps_frame (s : State) (n : Nat) (hoff : Off wt [.page .sw 0x300, .hrd, .free]) :
    (State.rowOps s n).view wt = s.view wt := by
  simp at hoff
  simp [State.rowOps, hoff, Chip.view, Chip.rest, Pool.view, Pool.rest, Svc.view, Svc.rest, Herds.view, Herds.rest, Dct.view, Dct.rest, Dct.held, Fw.view, Fw.rest, Fw.held]

@[simp] theorem State_coreChunk_frame (s : State) (c fl : Nat) (hoff : Off wt [.page .sw 0x300]) :
    (State.coreChunk s c fl).view wt = s.view wt := by
  simp at hoff
  simp [State.coreChunk, hoff, Chip.view, Chip.rest, Pool.view, Pool.rest, Svc.view, Svc.rest, Herds.view, Herds.rest, Dct.view, Dct.rest, Dct.held, Fw.view, Fw.rest, Fw.held]

@[simp] theorem State_setGran_frame (s : State) (g st : Nat) (ptn index use : Nat) (hoff : Off wt [.page .sw 0x30]) :
    (State.setGran s g st ptn index use).view wt = s.view wt := by
  simp at hoff
  simp [State.setGran, hoff, Chip.view, Chip.rest, Pool.view, Pool.rest, Svc.view, Svc.rest, Herds.view, Herds.rest, Dct.view, Dct.rest, Dct.held, Fw.view, Fw.rest, Fw.held]

@[simp] theorem State_hbmWrite_frame (s : State) (hl : Nat) (bs : List Byte) (hoff : Off wt [.mem, .pool]) :
    (State.hbmWrite s hl bs).view wt = s.view wt := by
  simp at hoff
  simp [State.hbmWrite, hoff, Chip.view, Chip.rest, Pool.view, Pool.rest, Svc.view, Svc.rest, Herds.view, Herds.rest, Dct.view, Dct.rest, Dct.held, Fw.view, Fw.rest, Fw.held]

@[simp] theorem State_decayed_frame (s : State) (media : List (Nat × Bool)) (hoff : Off wt [.pool]) :
    (State.decayed s media).view wt = s.view wt := by
  simp at hoff
  simp [State.decayed, hoff, Chip.view, Chip.rest, Pool.view, Pool.rest, Svc.view, Svc.rest, Herds.view, Herds.rest, Dct.view, Dct.rest, Dct.held, Fw.view, Fw.rest, Fw.held]

@[simp] theorem State_eccRead_frame (s : State) (hl : Nat) (hoff : Off wt [.hdr .sw, .page .sw 0x5, .page .sw 0xb, .page .sw 0x40, .log .sw, .sent]) :
    (State.eccRead s hl).1.view wt = s.view wt := by
  simp at hoff
  unfold State.eccRead; (try simp only [sw_beq_ep, ep_beq_sw, sw_beq_sw, ep_beq_ep, Bool.false_eq_true, Bool.true_and, Bool.false_and, if_true, if_false]); (repeat' split) <;> (try dsimp only) <;> first | contradiction | simp +decide [State.eccRead, hoff, Chip.view, Chip.rest, Pool.view, Pool.rest, Svc.view, Svc.rest, Herds.view, Herds.rest, Dct.view, Dct.rest, Dct.held, Fw.view, Fw.rest, Fw.held]

@[simp] theorem State_putDir_frame (s : State) (key : Nat) (e : DirEntry) (hoff : Off wt [.pool]) :
    (State.putDir s key e).view wt = s.view wt := by
  simp at hoff
  simp [State.putDir, hoff, Chip.view, Chip.rest, Pool.view, Pool.rest, Svc.view, Svc.rest, Herds.view, Herds.rest, Dct.view, Dct.rest, Dct.held, Fw.view, Fw.rest, Fw.held]

@[simp] theorem State_startDrain_frame (s : State) (p d : Nat) (hoff : Off wt [.hdr .sw, .page .sw 0x5, .page .sw 0xb, .page .sw 0x11, .page .sw 0x14, .page .sw 0x20, .page .sw 0x21, .page .sw 0x30, .log .sw, .ports .sw, .sync .sw, .core, .pool, .svc, .herds, .hrd, .host, .sent]) :
    (State.startDrain s p d).view wt = s.view wt := by
  simp at hoff
  unfold State.startDrain
  dsimp only
  rw [State_revokeHerds_frame _ _ (by simp [hoff]), invals_view _ _ (by simp [hoff])]
  simp [hoff, Pool.view, Pool.rest]

@[simp] theorem State_stopPartition_frame (s : State) (p cause : Nat) (hoff : Off wt [.hdr .sw, .page .sw 0x5, .page .sw 0xb, .page .sw 0x11, .page .sw 0x14, .page .sw 0x20, .page .sw 0x21, .page .sw 0x30, .log .sw, .ports .sw, .sync .sw, .core, .pool, .svc, .herds, .hrd, .host, .sent]) :
    (State.stopPartition s p cause).view wt = s.view wt := by
  simp at hoff
  simp [State.stopPartition, hoff, Chip.view, Chip.rest, Pool.view, Pool.rest, Svc.view, Svc.rest, Herds.view, Herds.rest, Dct.view, Dct.rest, Dct.held, Fw.view, Fw.rest, Fw.held]

@[simp] theorem State_overflowLost_frame (s : State) (key : Nat) (hoff : Off wt [.hdr .sw, .page .sw 0x5, .page .sw 0xb, .page .sw 0x11, .page .sw 0x14, .page .sw 0x20, .page .sw 0x21, .page .sw 0x30, .log .sw, .ports .sw, .sync .sw, .core, .pool, .svc, .herds, .hrd, .host, .sent]) :
    (State.overflowLost s key).view wt = s.view wt := by
  simp at hoff
  simp [State.overflowLost, hoff, Chip.view, Chip.rest, Pool.view, Pool.rest, Svc.view, Svc.rest, Herds.view, Herds.rest, Dct.view, Dct.rest, Dct.held, Fw.view, Fw.rest, Fw.held]

@[simp] theorem State_queueReq_frame (s : State) (kind : PKind) (ptn off len : Nat) (ms : List Member) (comb : Bool) (hoff : Off wt [.pool]) :
    (State.queueReq s kind ptn off len ms comb).view wt = s.view wt := by
  simp at hoff
  simp [State.queueReq, hoff, Chip.view, Chip.rest, Pool.view, Pool.rest, Svc.view, Svc.rest, Herds.view, Herds.rest, Dct.view, Dct.rest, Dct.held, Fw.view, Fw.rest, Fw.held]

@[simp] theorem State_markLost_frame (s : State) (key cause slot : Nat) (hoff : Off wt [.hdr .sw, .page .sw 0x5, .page .sw 0xb, .page .sw 0x11, .page .sw 0x14, .page .sw 0x20, .page .sw 0x21, .page .sw 0x30, .page .sw 0x31, .log .sw, .ports .sw, .sync .sw, .core, .pool, .svc, .herds, .hrd, .host, .sent]) :
    (State.markLost s key cause slot).view wt = s.view wt := by
  simp at hoff
  simp [State.markLost, hoff, Chip.view, Chip.rest, Pool.view, Pool.rest, Svc.view, Svc.rest, Herds.view, Herds.rest, Dct.view, Dct.rest, Dct.held, Fw.view, Fw.rest, Fw.held]

@[simp] theorem State_clearLost_frame (s : State) (key : Nat) (hoff : Off wt [.pool]) :
    (State.clearLost s key).view wt = s.view wt := by
  simp at hoff
  simp [State.clearLost, hoff, Chip.view, Chip.rest, Pool.view, Pool.rest, Svc.view, Svc.rest, Herds.view, Herds.rest, Dct.view, Dct.rest, Dct.held, Fw.view, Fw.rest, Fw.held]

@[simp] theorem State_dropSlot_frame (s : State) (i cause : Nat) (hoff : Off wt [.hdr .sw, .page .sw 0x5, .page .sw 0xb, .page .sw 0x11, .page .sw 0x14, .page .sw 0x20, .page .sw 0x21, .page .sw 0x30, .page .sw 0x31, .log .sw, .ports .sw, .sync .sw, .core, .pool, .svc, .herds, .hrd, .host, .sent]) :
    (State.dropSlot s i cause).view wt = s.view wt := by
  simp at hoff
  unfold State.dropSlot; (try simp only [sw_beq_ep, ep_beq_sw, sw_beq_sw, ep_beq_ep, Bool.false_eq_true, Bool.true_and, Bool.false_and, if_true, if_false]); repeat' (first | contradiction | (simp +decide [State.dropSlot, hoff, Chip.view, Chip.rest, Pool.view, Pool.rest, Svc.view, Svc.rest, Herds.view, Herds.rest, Dct.view, Dct.rest, Dct.held, Fw.view, Fw.rest, Fw.held]; done) | (intros; split) | (intros; first | refine Eq.trans (foldl_view _ _ _ fun _ _ => ?_) ?_ | refine Eq.trans (foldl_fst_view _ _ _ fun _ _ => ?_) ?_ | refine Eq.trans (when_view _ _ _ ?_) ?_) | dsimp only | simp +decide [State.dropSlot, hoff])

@[simp] theorem State_fenceAgent_frame (s : State) (i cause : Nat) (hoff : Off wt [.hdr .sw, .page .sw 0x5, .page .sw 0xb, .page .sw 0x11, .page .sw 0x14, .page .sw 0x20, .page .sw 0x21, .page .sw 0x30, .page .sw 0x31, .log .sw, .ports .sw, .sync .sw, .core, .pool, .svc, .herds, .hrd, .host, .sent]) :
    (State.fenceAgent s i cause).view wt = s.view wt := by
  simp at hoff
  simp [State.fenceAgent, hoff, Chip.view, Chip.rest, Pool.view, Pool.rest, Svc.view, Svc.rest, Herds.view, Herds.rest, Dct.view, Dct.rest, Dct.held, Fw.view, Fw.rest, Fw.held]

@[simp] theorem State_endRemoval_frame (s : State) (i : Nat) (hoff : Off wt [.hdr .sw, .page .sw 0x5, .page .sw 0xb, .page .sw 0x11, .page .sw 0x14, .page .sw 0x20, .page .sw 0x21, .page .sw 0x30, .page .sw 0x31, .log .sw, .ports .sw, .sync .sw, .core, .pool, .svc, .herds, .hrd, .host, .sent]) :
    (State.endRemoval s i).view wt = s.view wt := by
  simp at hoff
  simp [State.endRemoval, hoff, Chip.view, Chip.rest, Pool.view, Pool.rest, Svc.view, Svc.rest, Herds.view, Herds.rest, Dct.view, Dct.rest, Dct.held, Fw.view, Fw.rest, Fw.held]

@[simp] theorem State_onRecall_frame (s : State) (key : Nat) (f : Recall → Recall) (hoff : Off wt [.pool]) :
    (State.onRecall s key f).view wt = s.view wt := by
  simp at hoff
  unfold State.onRecall; (try simp only [sw_beq_ep, ep_beq_sw, sw_beq_sw, ep_beq_ep, Bool.false_eq_true, Bool.true_and, Bool.false_and, if_true, if_false]); (repeat' split) <;> (try dsimp only) <;> first | contradiction | simp +decide [State.onRecall, hoff, Chip.view, Chip.rest, Pool.view, Pool.rest, Svc.view, Svc.rest, Herds.view, Herds.rest, Dct.view, Dct.rest, Dct.held, Fw.view, Fw.rest, Fw.held]

@[simp] theorem State_sendSnoop_frame (s : State) (key slot : Nat) (hoff : Off wt [.hdr .sw, .page .sw 0x5, .page .sw 0xb, .page .sw 0x11, .page .sw 0x14, .page .sw 0x20, .page .sw 0x21, .page .sw 0x30, .page .sw 0x31, .log .sw, .ports .sw, .sync .sw, .core, .pool, .svc, .herds, .hrd, .host, .sent]) :
    (State.sendSnoop s key slot).view wt = s.view wt := by
  simp at hoff
  unfold State.sendSnoop; (try simp only [sw_beq_ep, ep_beq_sw, sw_beq_sw, ep_beq_ep, Bool.false_eq_true, Bool.true_and, Bool.false_and, if_true, if_false]); (repeat' split) <;> (try dsimp only) <;> first | contradiction | simp +decide [State.sendSnoop, hoff, Chip.view, Chip.rest, Pool.view, Pool.rest, Svc.view, Svc.rest, Herds.view, Herds.rest, Dct.view, Dct.rest, Dct.held, Fw.view, Fw.rest, Fw.held]

@[simp] theorem State_sendSnoops_frame (s : State) (key : Nat) (hoff : Off wt [.hdr .sw, .page .sw 0x5, .page .sw 0xb, .page .sw 0x11, .page .sw 0x14, .page .sw 0x20, .page .sw 0x21, .page .sw 0x30, .page .sw 0x31, .log .sw, .ports .sw, .sync .sw, .core, .pool, .svc, .herds, .hrd, .host, .sent]) :
    (State.sendSnoops s key).view wt = s.view wt := by
  simp at hoff
  unfold State.sendSnoops; (try simp only [sw_beq_ep, ep_beq_sw, sw_beq_sw, ep_beq_ep, Bool.false_eq_true, Bool.true_and, Bool.false_and, if_true, if_false]); (repeat' split) <;> (try dsimp only) <;> first | contradiction | simp +decide [State.sendSnoops, hoff, Chip.view, Chip.rest, Pool.view, Pool.rest, Svc.view, Svc.rest, Herds.view, Herds.rest, Dct.view, Dct.rest, Dct.held, Fw.view, Fw.rest, Fw.held]

@[simp] theorem State_recallLine_frame (s : State) (key : Nat) (inv : Bool) (who : Nat) (hoff : Off wt [.hdr .sw, .page .sw 0x5, .page .sw 0xb, .page .sw 0x11, .page .sw 0x14, .page .sw 0x20, .page .sw 0x21, .page .sw 0x30, .page .sw 0x31, .log .sw, .ports .sw, .sync .sw, .core, .pool, .svc, .herds, .hrd, .host, .sent]) :
    (State.recallLine s key inv who).view wt = s.view wt := by
  simp at hoff
  unfold State.recallLine; (try simp only [sw_beq_ep, ep_beq_sw, sw_beq_sw, ep_beq_ep, Bool.false_eq_true, Bool.true_and, Bool.false_and, if_true, if_false]); (repeat' split) <;> (try dsimp only) <;> first | contradiction | simp +decide [State.recallLine, hoff, Chip.view, Chip.rest, Pool.view, Pool.rest, Svc.view, Svc.rest, Herds.view, Herds.rest, Dct.view, Dct.rest, Dct.held, Fw.view, Fw.rest, Fw.held]

@[simp] theorem State_onReq_frame (s : State) (id : Nat) (f : PReq → PReq) (hoff : Off wt [.pool]) :
    (State.onReq s id f).view wt = s.view wt := by
  simp at hoff
  simp [State.onReq, hoff, Chip.view, Chip.rest, Pool.view, Pool.rest, Svc.view, Svc.rest, Herds.view, Herds.rest, Dct.view, Dct.rest, Dct.held, Fw.view, Fw.rest, Fw.held]

@[simp] theorem State_wayFree_frame (s : State) (r : PReq) (key : Nat) (hoff : Off wt [.hdr .sw, .page .sw 0x5, .page .sw 0xb, .page .sw 0x11, .page .sw 0x14, .page .sw 0x20, .page .sw 0x21, .page .sw 0x30, .page .sw 0x31, .log .sw, .ports .sw, .sync .sw, .core, .pool, .svc, .herds, .hrd, .host, .sent]) :
    (State.wayFree s r key).1.view wt = s.view wt := by
  simp at hoff
  unfold State.wayFree; (try simp only [sw_beq_ep, ep_beq_sw, sw_beq_sw, ep_beq_ep, Bool.false_eq_true, Bool.true_and, Bool.false_and, if_true, if_false]); (repeat' split) <;> (try dsimp only) <;> first | contradiction | simp +decide [State.wayFree, hoff, Chip.view, Chip.rest, Pool.view, Pool.rest, Svc.view, Svc.rest, Herds.view, Herds.rest, Dct.view, Dct.rest, Dct.held, Fw.view, Fw.rest, Fw.held]

@[simp] theorem State_bulkAccess_frame (s : State) (p line : Nat) (data : Option (List Byte)) (slot req : Option Nat) (hoff : Off wt [.pool, .sent]) :
    (State.bulkAccess s p line data slot req).view wt = s.view wt := by
  simp at hoff
  simp [State.bulkAccess, hoff, Chip.view, Chip.rest, Pool.view, Pool.rest, Svc.view, Svc.rest, Herds.view, Herds.rest, Dct.view, Dct.rest, Dct.held, Fw.view, Fw.rest, Fw.held]

@[simp] theorem State_putSlot_frame (s : State) (hl : Nat) (c : Option CacheSlot) (hoff : Off wt [.pool]) :
    (State.putSlot s hl c).view wt = s.view wt := by
  simp at hoff
  simp [State.putSlot, hoff, Chip.view, Chip.rest, Pool.view, Pool.rest, Svc.view, Svc.rest, Herds.view, Herds.rest, Dct.view, Dct.rest, Dct.held, Fw.view, Fw.rest, Fw.held]

@[simp] theorem State_writeBack_frame (s : State) (hl : Nat) (c : CacheSlot) (hoff : Off wt [.hdr .sw, .page .sw 0x5, .page .sw 0xb, .page .sw 0x32, .page .sw 0x40, .log .sw, .pool, .sent]) :
    (State.writeBack s hl c).view wt = s.view wt := by
  simp at hoff
  simp [State.writeBack, hoff, Chip.view, Chip.rest, Pool.view, Pool.rest, Svc.view, Svc.rest, Herds.view, Herds.rest, Dct.view, Dct.rest, Dct.held, Fw.view, Fw.rest, Fw.held]

@[simp] theorem State_present_frame (s : State) (r : PReq) (line : Nat) (full tc5 : Bool) (hoff : Off wt [.hdr .sw, .page .sw 0x5, .page .sw 0xb, .page .sw 0x32, .page .sw 0x40, .log .sw, .pool, .sent]) :
    (State.present s r line full tc5).1.view wt = s.view wt := by
  simp at hoff
  unfold State.present; (try simp only [sw_beq_ep, ep_beq_sw, sw_beq_sw, ep_beq_ep, Bool.false_eq_true, Bool.true_and, Bool.false_and, if_true, if_false]); (repeat' split) <;> (try dsimp only) <;> first | contradiction | simp +decide [State.present, hoff, Chip.view, Chip.rest, Pool.view, Pool.rest, Svc.view, Svc.rest, Herds.view, Herds.rest, Dct.view, Dct.rest, Dct.held, Fw.view, Fw.rest, Fw.held]

@[simp] theorem State_countCache_frame (s : State) (r : PReq) (hoff : Off wt [.page .sw 0x32, .pool]) :
    (State.countCache s r).view wt = s.view wt := by
  simp at hoff
  simp [State.countCache, hoff, Chip.view, Chip.rest, Pool.view, Pool.rest, Svc.view, Svc.rest, Herds.view, Herds.rest, Dct.view, Dct.rest, Dct.held, Fw.view, Fw.rest, Fw.held]

@[simp] theorem State_storeLine_frame (s : State) (r : PReq) (line : Nat) (bs : List Byte) (x0 : Pres) (hoff : Off wt [.mem, .pool, .sent]) :
    (State.storeLine s r line bs x0).view wt = s.view wt := by
  simp at hoff
  unfold State.storeLine; (try simp only [sw_beq_ep, ep_beq_sw, sw_beq_sw, ep_beq_ep, Bool.false_eq_true, Bool.true_and, Bool.false_and, if_true, if_false]); (repeat' split) <;> (try dsimp only) <;> first | contradiction | simp +decide [State.storeLine, hoff, Chip.view, Chip.rest, Pool.view, Pool.rest, Svc.view, Svc.rest, Herds.view, Herds.rest, Dct.view, Dct.rest, Dct.held, Fw.view, Fw.rest, Fw.held]

@[simp] theorem State_poolAnswer_frame (s : State) (k : Packet) (status : Nat) (data : List Byte) (aux : Nat) (uncached : Bool) (hoff : Off wt [.page .sw 0x11, .page .sw 0x14, .core]) :
    (State.poolAnswer s k status data aux uncached).view wt = s.view wt := by
  simp at hoff
  simp [State.poolAnswer, hoff, Chip.view, Chip.rest, Pool.view, Pool.rest, Svc.view, Svc.rest, Herds.view, Herds.rest, Dct.view, Dct.rest, Dct.held, Fw.view, Fw.rest, Fw.held]

@[simp] theorem State_takeData_frame (s : State) (key slot : Nat) (bs : List Byte) (ask : Option Packet) (hoff : Off wt [.page .sw 0x11, .page .sw 0x14, .core, .mem, .pool]) :
    (State.takeData s key slot bs ask).view wt = s.view wt := by
  simp at hoff
  unfold State.takeData; (try simp only [sw_beq_ep, ep_beq_sw, sw_beq_sw, ep_beq_ep, Bool.false_eq_true, Bool.true_and, Bool.false_and, if_true, if_false]); (repeat' split) <;> (try dsimp only) <;> first | contradiction | simp +decide [State.takeData, hoff, Chip.view, Chip.rest, Pool.view, Pool.rest, Svc.view, Svc.rest, Herds.view, Herds.rest, Dct.view, Dct.rest, Dct.held, Fw.view, Fw.rest, Fw.held]

@[simp] theorem State_hostAnswer_frame (s : State) (kind dpa status : Nat) (data : List Byte) (uncached : Bool) (hoff : Off wt [.hdr .sw, .page .sw 0x5, .page .sw 0x50, .sent]) :
    (State.hostAnswer s kind dpa status data uncached).view wt = s.view wt := by
  simp at hoff
  simp [State.hostAnswer, hoff, Chip.view, Chip.rest, Pool.view, Pool.rest, Svc.view, Svc.rest, Herds.view, Herds.rest, Dct.view, Dct.rest, Dct.held, Fw.view, Fw.rest, Fw.held]

@[simp] theorem State_endGather_frame (s : State) (g : Gather) (hoff : Off wt [.page .sw 0x11, .page .sw 0x14, .core]) :
    (State.endGather s g).view wt = s.view wt := by
  simp at hoff
  simp [State.endGather, hoff, Chip.view, Chip.rest, Pool.view, Pool.rest, Svc.view, Svc.rest, Herds.view, Herds.rest, Dct.view, Dct.rest, Dct.held, Fw.view, Fw.rest, Fw.held]

@[simp] theorem State_endScatter_frame (s : State) (g : Gather) (hoff : Off wt [.page .sw 0x11, .page .sw 0x14, .core, .pool]) :
    (State.endScatter s g).view wt = s.view wt := by
  simp at hoff
  simp [State.endScatter, hoff, Chip.view, Chip.rest, Pool.view, Pool.rest, Svc.view, Svc.rest, Herds.view, Herds.rest, Dct.view, Dct.rest, Dct.held, Fw.view, Fw.rest, Fw.held]

@[simp] theorem State_gatherPart_frame (s : State) (id n status : Nat) (data : List Byte) (hoff : Off wt [.page .sw 0x11, .page .sw 0x14, .core, .pool]) :
    (State.gatherPart s id n status data).view wt = s.view wt := by
  simp at hoff
  unfold State.gatherPart; (try simp only [sw_beq_ep, ep_beq_sw, sw_beq_sw, ep_beq_ep, Bool.false_eq_true, Bool.true_and, Bool.false_and, if_true, if_false]); (repeat' split) <;> (try dsimp only) <;> first | contradiction | simp +decide [State.gatherPart, hoff, Chip.view, Chip.rest, Pool.view, Pool.rest, Svc.view, Svc.rest, Herds.view, Herds.rest, Dct.view, Dct.rest, Dct.held, Fw.view, Fw.rest, Fw.held]

@[simp] theorem State_streamDone_frame (s : State) (herd at_ n status : Nat) (data : List Byte) (hoff : Off wt [.hdr .sw, .page .sw 0x5, .page .sw 0xb, .page .sw 0x11, .page .sw 0x14, .page .sw 0x20, .page .sw 0x21, .log .sw, .ports .sw, .sync .sw, .core, .svc, .herds, .hrd, .sent]) :
    (State.streamDone s herd at_ n status data).view wt = s.view wt := by
  simp at hoff
  simp [State.streamDone, hoff, Chip.view, Chip.rest, Pool.view, Pool.rest, Svc.view, Svc.rest, Herds.view, Herds.rest, Dct.view, Dct.rest, Dct.held, Fw.view, Fw.rest, Fw.held]

@[simp] theorem State_answerMember_frame (s : State) (r : PReq) (m : Member) (status : Nat) (data : List Byte) (aux : Nat) (uncached : Bool) (hoff : Off wt [.hdr .sw, .page .sw 0x5, .page .sw 0xb, .page .sw 0x11, .page .sw 0x14, .page .sw 0x20, .page .sw 0x21, .page .sw 0x30, .page .sw 0x31, .page .sw 0x50, .log .sw, .ports .sw, .sync .sw, .core, .pool, .svc, .herds, .hrd, .host, .sent]) :
    (State.answerMember s r m status data aux uncached).view wt = s.view wt := by
  simp at hoff
  unfold State.answerMember; (try simp only [sw_beq_ep, ep_beq_sw, sw_beq_sw, ep_beq_ep, Bool.false_eq_true, Bool.true_and, Bool.false_and, if_true, if_false]); (repeat' split) <;> (try dsimp only) <;> first | contradiction | simp +decide [State.answerMember, hoff, Chip.view, Chip.rest, Pool.view, Pool.rest, Svc.view, Svc.rest, Herds.view, Herds.rest, Dct.view, Dct.rest, Dct.held, Fw.view, Fw.rest, Fw.held]

@[simp] theorem State_finishReq_frame (s : State) (r : PReq) (res : List (Nat × List Byte × Nat)) (uncached : Bool) (hoff : Off wt [.hdr .sw, .page .sw 0x5, .page .sw 0xb, .page .sw 0x11, .page .sw 0x14, .page .sw 0x20, .page .sw 0x21, .page .sw 0x30, .page .sw 0x31, .page .sw 0x50, .log .sw, .ports .sw, .sync .sw, .core, .pool, .svc, .herds, .hrd, .host, .sent]) :
    (State.finishReq s r res uncached).view wt = s.view wt := by
  simp at hoff
  simp [State.finishReq, hoff, Chip.view, Chip.rest, Pool.view, Pool.rest, Svc.view, Svc.rest, Herds.view, Herds.rest, Dct.view, Dct.rest, Dct.held, Fw.view, Fw.rest, Fw.held]

@[simp] theorem State_failReq_frame (s : State) (r : PReq) (status : Nat) (hoff : Off wt [.hdr .sw, .page .sw 0x5, .page .sw 0xb, .page .sw 0x11, .page .sw 0x14, .page .sw 0x20, .page .sw 0x21, .page .sw 0x30, .page .sw 0x31, .page .sw 0x50, .log .sw, .ports .sw, .sync .sw, .core, .pool, .svc, .herds, .hrd, .host, .sent]) :
    (State.failReq s r status).view wt = s.view wt := by
  simp at hoff
  simp [State.failReq, hoff, Chip.view, Chip.rest, Pool.view, Pool.rest, Svc.view, Svc.rest, Herds.view, Herds.rest, Dct.view, Dct.rest, Dct.held, Fw.view, Fw.rest, Fw.held]

@[simp] theorem State_countGroup_frame (s : State) (r : PReq) (hoff : Off wt [.page .sw 0x13]) :
    (State.countGroup s r).view wt = s.view wt := by
  simp at hoff
  simp [State.countGroup, hoff, Chip.view, Chip.rest, Pool.view, Pool.rest, Svc.view, Svc.rest, Herds.view, Herds.rest, Dct.view, Dct.rest, Dct.held, Fw.view, Fw.rest, Fw.held]

@[simp] theorem State_storeBytes_frame (s : State) (r : PReq) (ps : List (Nat × Pres)) (bs : List Byte) (hoff : Off wt [.mem, .pool, .sent]) :
    (State.storeBytes s r ps bs).view wt = s.view wt := by
  simp at hoff
  simp [State.storeBytes, hoff, Chip.view, Chip.rest, Pool.view, Pool.rest, Svc.view, Svc.rest, Herds.view, Herds.rest, Dct.view, Dct.rest, Dct.held, Fw.view, Fw.rest, Fw.held]

@[simp] theorem State_finishOrWait_frame (s : State) (r : PReq) (res : List (Nat × List Byte × Nat)) (uncached : Bool) (hoff : Off wt [.hdr .sw, .page .sw 0x5, .page .sw 0xb, .page .sw 0x11, .page .sw 0x14, .page .sw 0x20, .page .sw 0x21, .page .sw 0x30, .page .sw 0x31, .page .sw 0x50, .log .sw, .ports .sw, .sync .sw, .core, .pool, .svc, .herds, .hrd, .host, .sent]) :
    (State.finishOrWait s r res uncached).view wt = s.view wt := by
  simp at hoff
  unfold State.finishOrWait; (try simp only [sw_beq_ep, ep_beq_sw, sw_beq_sw, ep_beq_ep, Bool.false_eq_true, Bool.true_and, Bool.false_and, if_true, if_false]); (repeat' split) <;> (try dsimp only) <;> first | contradiction | simp +decide [State.finishOrWait, hoff, Chip.view, Chip.rest, Pool.view, Pool.rest, Svc.view, Svc.rest, Herds.view, Herds.rest, Dct.view, Dct.rest, Dct.held, Fw.view, Fw.rest, Fw.held]

@[simp] theorem State_grant_frame (s : State) (r : PReq) (slot : Nat) (excl : Bool) (hoff : Off wt [.pool]) :
    (State.grant s r slot excl).view wt = s.view wt := by
  simp at hoff
  simp [State.grant, hoff, Chip.view, Chip.rest, Pool.view, Pool.rest, Svc.view, Svc.rest, Herds.view, Herds.rest, Dct.view, Dct.rest, Dct.held, Fw.view, Fw.rest, Fw.held]

@[simp] theorem State_eccLines_frame (s : State) (r : PReq) (ps : List (Nat × Pres)) (f : Nat → Bool) (hoff : Off wt [.hdr .sw, .page .sw 0x5, .page .sw 0xb, .page .sw 0x40, .log .sw, .sent]) :
    (State.eccLines s r ps f).1.view wt = s.view wt := by
  simp at hoff
  simp [State.eccLines, hoff, Chip.view, Chip.rest, Pool.view, Pool.rest, Svc.view, Svc.rest, Herds.view, Herds.rest, Dct.view, Dct.rest, Dct.held, Fw.view, Fw.rest, Fw.held]

@[simp] theorem State_performReq_frame (s : State) (r : PReq) (kind : PKind) (ps : List (Nat × Pres)) (hoff : Off wt [.hdr .sw, .page .sw 0x5, .page .sw 0xb, .page .sw 0x11, .page .sw 0x13, .page .sw 0x14, .page .sw 0x20, .page .sw 0x21, .page .sw 0x30, .page .sw 0x31, .page .sw 0x40, .page .sw 0x50, .page .sw 0x300, .log .sw, .ports .sw, .sync .sw, .core, .mem, .pool, .svc, .herds, .hrd, .host, .sent, .free]) :
    (State.performReq s r kind ps).view wt = s.view wt := by
  simp at hoff
  unfold State.performReq; (try simp only [sw_beq_ep, ep_beq_sw, sw_beq_sw, ep_beq_ep, Bool.false_eq_true, Bool.true_and, Bool.false_and, if_true, if_false]); (repeat' split) <;> (try dsimp only) <;> first | contradiction | simp +decide [State.performReq, hoff, Chip.view, Chip.rest, Pool.view, Pool.rest, Svc.view, Svc.rest, Herds.view, Herds.rest, Dct.view, Dct.rest, Dct.held, Fw.view, Fw.rest, Fw.held]

@[simp] theorem State_presentAll_frame (s : State) (r : PReq) (hoff : Off wt [.hdr .sw, .page .sw 0x5, .page .sw 0xb, .page .sw 0x32, .page .sw 0x40, .log .sw, .pool, .sent]) :
    (State.presentAll s r).1.view wt = s.view wt := by
  simp at hoff
  simp [State.presentAll, hoff, Chip.view, Chip.rest, Pool.view, Pool.rest, Svc.view, Svc.rest, Herds.view, Herds.rest, Dct.view, Dct.rest, Dct.held, Fw.view, Fw.rest, Fw.held]

@[simp] theorem State_placeAndPerform_frame (s : State) (r : PReq) (kind : PKind) (hoff : Off wt [.hdr .sw, .page .sw 0x5, .page .sw 0xb, .page .sw 0x11, .page .sw 0x13, .page .sw 0x14, .page .sw 0x20, .page .sw 0x21, .page .sw 0x30, .page .sw 0x31, .page .sw 0x32, .page .sw 0x40, .page .sw 0x50, .page .sw 0x300, .log .sw, .ports .sw, .sync .sw, .core, .mem, .pool, .svc, .herds, .hrd, .host, .sent, .free]) :
    (State.placeAndPerform s r kind).view wt = s.view wt := by
  simp at hoff
  unfold State.placeAndPerform; (try simp only [sw_beq_ep, ep_beq_sw, sw_beq_sw, ep_beq_ep, Bool.false_eq_true, Bool.true_and, Bool.false_and, if_true, if_false]); (repeat' split) <;> (try dsimp only) <;> first | contradiction | simp +decide [State.placeAndPerform, hoff, Chip.view, Chip.rest, Pool.view, Pool.rest, Svc.view, Svc.rest, Herds.view, Herds.rest, Dct.view, Dct.rest, Dct.held, Fw.view, Fw.rest, Fw.held]

@[simp] theorem State_failLost_frame (s : State) (r : PReq) (hoff : Off wt [.hdr .sw, .page .sw 0x5, .page .sw 0xb, .page .sw 0x11, .page .sw 0x14, .page .sw 0x20, .page .sw 0x21, .page .sw 0x30, .page .sw 0x31, .page .sw 0x40, .page .sw 0x50, .log .sw, .ports .sw, .sync .sw, .core, .pool, .svc, .herds, .hrd, .host, .sent]) :
    (State.failLost s r).view wt = s.view wt := by
  simp at hoff
  simp [State.failLost, hoff, Chip.view, Chip.rest, Pool.view, Pool.rest, Svc.view, Svc.rest, Herds.view, Herds.rest, Dct.view, Dct.rest, Dct.held, Fw.view, Fw.rest, Fw.held]

@[simp] theorem State_tryReq_frame (s : State) (r : PReq) (hoff : Off wt [.hdr .sw, .page .sw 0x5, .page .sw 0xb, .page .sw 0x11, .page .sw 0x13, .page .sw 0x14, .page .sw 0x20, .page .sw 0x21, .page .sw 0x30, .page .sw 0x31, .page .sw 0x32, .page .sw 0x40, .page .sw 0x50, .page .sw 0x300, .log .sw, .ports .sw, .sync .sw, .core, .mem, .pool, .svc, .herds, .hrd, .host, .sent, .free]) :
    (State.tryReq s r).view wt = s.view wt := by
  simp at hoff
  unfold State.tryReq; (try simp only [sw_beq_ep, ep_beq_sw, sw_beq_sw, ep_beq_ep, Bool.false_eq_true, Bool.true_and, Bool.false_and, if_true, if_false]); (repeat' split) <;> (try dsimp only) <;> first | contradiction | simp +decide [State.tryReq, hoff, Chip.view, Chip.rest, Pool.view, Pool.rest, Svc.view, Svc.rest, Herds.view, Herds.rest, Dct.view, Dct.rest, Dct.held, Fw.view, Fw.rest, Fw.held]

@[simp] theorem State_sweep_frame (s : State) (hoff : Off wt [.hdr .sw, .page .sw 0x5, .page .sw 0xb, .page .sw 0x11, .page .sw 0x14, .page .sw 0x20, .page .sw 0x21, .page .sw 0x30, .page .sw 0x31, .log .sw, .ports .sw, .sync .sw, .core, .pool, .svc, .herds, .hrd, .host, .sent]) :
    (State.sweep s).view wt = s.view wt := by
  simp at hoff
  unfold State.sweep; (try simp only [sw_beq_ep, ep_beq_sw, sw_beq_sw, ep_beq_ep, Bool.false_eq_true, Bool.true_and, Bool.false_and, if_true, if_false]); repeat' (first | contradiction | (simp +decide [State.sweep, hoff, Chip.view, Chip.rest, Pool.view, Pool.rest, Svc.view, Svc.rest, Herds.view, Herds.rest, Dct.view, Dct.rest, Dct.held, Fw.view, Fw.rest, Fw.held]; done) | (intros; split) | (intros; first | refine Eq.trans (foldl_view _ _ _ fun _ _ => ?_) ?_ | refine Eq.trans (foldl_fst_view _ _ _ fun _ _ => ?_) ?_ | refine Eq.trans (when_view _ _ _ ?_) ?_) | dsimp only | simp +decide [State.sweep, hoff])

@[simp] theorem State_endRemovals_frame (s : State) (hoff : Off wt [.hdr .sw, .page .sw 0x5, .page .sw 0xb, .page .sw 0x11, .page .sw 0x14, .page .sw 0x20, .page .sw 0x21, .page .sw 0x30, .page .sw 0x31, .log .sw, .ports .sw, .sync .sw, .core, .pool, .svc, .herds, .hrd, .host, .sent]) :
    (State.endRemovals s).view wt = s.view wt := by
  simp at hoff
  simp [State.endRemovals, hoff, Chip.view, Chip.rest, Pool.view, Pool.rest, Svc.view, Svc.rest, Herds.view, Herds.rest, Dct.view, Dct.rest, Dct.held, Fw.view, Fw.rest, Fw.held]

@[simp] theorem State_pass_frame (s : State) (hoff : Off wt [.hdr .sw, .page .sw 0x5, .page .sw 0xb, .page .sw 0x11, .page .sw 0x13, .page .sw 0x14, .page .sw 0x20, .page .sw 0x21, .page .sw 0x30, .page .sw 0x31, .page .sw 0x32, .page .sw 0x40, .page .sw 0x50, .page .sw 0x300, .log .sw, .ports .sw, .sync .sw, .core, .mem, .pool, .svc, .herds, .hrd, .host, .sent, .free]) :
    (State.pass s).view wt = s.view wt := by
  simp at hoff
  unfold State.pass; (try simp only [sw_beq_ep, ep_beq_sw, sw_beq_sw, ep_beq_ep, Bool.false_eq_true, Bool.true_and, Bool.false_and, if_true, if_false]); repeat' (first | contradiction | (simp +decide [State.pass, hoff, Chip.view, Chip.rest, Pool.view, Pool.rest, Svc.view, Svc.rest, Herds.view, Herds.rest, Dct.view, Dct.rest, Dct.held, Fw.view, Fw.rest, Fw.held]; done) | (intros; split) | (intros; first | refine Eq.trans (foldl_view _ _ _ fun _ _ => ?_) ?_ | refine Eq.trans (foldl_fst_view _ _ _ fun _ _ => ?_) ?_ | refine Eq.trans (when_view _ _ _ ?_) ?_) | dsimp only | simp +decide [State.pass, hoff])

@[simp] theorem State_settleN_frame (x0 : Nat) (x1 : State) (hoff : Off wt [.hdr .sw, .page .sw 0x5, .page .sw 0xb, .page .sw 0x11, .page .sw 0x13, .page .sw 0x14, .page .sw 0x20, .page .sw 0x21, .page .sw 0x30, .page .sw 0x31, .page .sw 0x32, .page .sw 0x40, .page .sw 0x50, .page .sw 0x300, .log .sw, .ports .sw, .sync .sw, .core, .mem, .pool, .svc, .herds, .hrd, .host, .sent, .free]) :
    (State.settleN x0 x1).view wt = x1.view wt := by
  simp at hoff
  induction x0 generalizing x1 with
  | zero => rfl
  | succ n ih => unfold State.settleN; split <;> simp [ih, hoff]

@[simp] theorem State_hashWake_frame (s : State) (hoff : Off wt [.svc]) :
    (State.hashWake s).view wt = s.view wt := by
  simp at hoff
  unfold State.hashWake; (try simp only [sw_beq_ep, ep_beq_sw, sw_beq_sw, ep_beq_ep, Bool.false_eq_true, Bool.true_and, Bool.false_and, if_true, if_false]); (repeat' split) <;> (try dsimp only) <;> first | contradiction | simp +decide [State.hashWake, hoff, Chip.view, Chip.rest, Pool.view, Pool.rest, Svc.view, Svc.rest, Herds.view, Herds.rest, Dct.view, Dct.rest, Dct.held, Fw.view, Fw.rest, Fw.held]

@[simp] theorem State_settle_frame (s : State) (hoff : Off wt [.hdr .sw, .page .sw 0x5, .page .sw 0xb, .page .sw 0x11, .page .sw 0x13, .page .sw 0x14, .page .sw 0x20, .page .sw 0x21, .page .sw 0x30, .page .sw 0x31, .page .sw 0x32, .page .sw 0x40, .page .sw 0x50, .page .sw 0x300, .log .sw, .ports .sw, .sync .sw, .core, .mem, .pool, .svc, .herds, .hrd, .host, .sent, .free]) :
    (State.settle s).view wt = s.view wt := by
  simp at hoff
  simp [State.settle, hoff, Chip.view, Chip.rest, Pool.view, Pool.rest, Svc.view, Svc.rest, Herds.view, Herds.rest, Dct.view, Dct.rest, Dct.held, Fw.view, Fw.rest, Fw.held]

@[simp] theorem State_poolGuard_frame (s : State) (k : Packet) (n : Nat) (blk : Bool) (f : Nat → Nat → State → State) (hoff : Off wt [.hdr .sw, .page .sw 0x5, .page .sw 0xb, .page .sw 0x11, .page .sw 0x13, .page .sw 0x14, .log .sw, .core, .pool, .sent]) (hf : ∀ a0 a1 s, (f a0 a1 s).view wt = s.view wt) :
    (State.poolGuard s k n blk f).view wt = s.view wt := by
  simp at hoff
  unfold State.poolGuard; (try simp only [sw_beq_ep, ep_beq_sw, sw_beq_sw, ep_beq_ep, Bool.false_eq_true, Bool.true_and, Bool.false_and, if_true, if_false]); (repeat' split) <;> (try dsimp only) <;> first | contradiction | simp +decide [State.poolGuard, hoff, hf, Chip.view, Chip.rest, Pool.view, Pool.rest, Svc.view, Svc.rest, Herds.view, Herds.rest, Dct.view, Dct.rest, Dct.held, Fw.view, Fw.rest, Fw.held]

@[simp] theorem State_sealOthers_frame (s : State) (p off n : Nat) (keep : Option Nat) (hoff : Off wt [.pool]) :
    (State.sealOthers s p off n keep).view wt = s.view wt := by
  simp at hoff
  simp [State.sealOthers, hoff, Chip.view, Chip.rest, Pool.view, Pool.rest, Svc.view, Svc.rest, Herds.view, Herds.rest, Dct.view, Dct.rest, Dct.held, Fw.view, Fw.rest, Fw.held]

@[simp] theorem State_enterHome_frame (s : State) (kind : PKind) (p off n : Nat) (m : Member) (hoff : Off wt [.hdr .sw, .page .sw 0x5, .page .sw 0xb, .page .sw 0x11, .page .sw 0x13, .page .sw 0x14, .page .sw 0x20, .page .sw 0x21, .page .sw 0x30, .page .sw 0x31, .page .sw 0x32, .page .sw 0x40, .page .sw 0x50, .page .sw 0x300, .log .sw, .ports .sw, .sync .sw, .core, .mem, .pool, .svc, .herds, .hrd, .host, .sent, .free]) :
    (State.enterHome s kind p off n m).view wt = s.view wt := by
  simp at hoff
  unfold State.enterHome; (try simp only [sw_beq_ep, ep_beq_sw, sw_beq_sw, ep_beq_ep, Bool.false_eq_true, Bool.true_and, Bool.false_and, if_true, if_false]); (repeat' split) <;> (try dsimp only) <;> first | contradiction | simp +decide [State.enterHome, hoff, Chip.view, Chip.rest, Pool.view, Pool.rest, Svc.view, Svc.rest, Herds.view, Herds.rest, Dct.view, Dct.rest, Dct.held, Fw.view, Fw.rest, Fw.held]

theorem poolRead_frame (k : Packet) (media : List (Nat × Bool)) (s : State) (hoff : Off wt [.hdr .sw, .page .sw 0x5, .page .sw 0xb, .page .sw 0x11, .page .sw 0x13, .page .sw 0x14, .page .sw 0x20, .page .sw 0x21, .page .sw 0x30, .page .sw 0x31, .page .sw 0x32, .page .sw 0x40, .page .sw 0x50, .page .sw 0x300, .log .sw, .ports .sw, .sync .sw, .core, .mem, .pool, .svc, .herds, .hrd, .host, .sent, .free]) :
    (poolRead k media s).view wt = s.view wt := by
  simp at hoff
  simp [poolRead, hoff, Chip.view, Chip.rest, Pool.view, Pool.rest, Svc.view, Svc.rest, Herds.view, Herds.rest, Dct.view, Dct.rest, Dct.held, Fw.view, Fw.rest, Fw.held]

theorem poolWrite_frame (k : Packet) (media : List (Nat × Bool)) (s : State) (hoff : Off wt [.hdr .sw, .page .sw 0x5, .page .sw 0xb, .page .sw 0x11, .page .sw 0x13, .page .sw 0x14, .page .sw 0x20, .page .sw 0x21, .page .sw 0x30, .page .sw 0x31, .page .sw 0x32, .page .sw 0x40, .page .sw 0x50, .page .sw 0x300, .log .sw, .ports .sw, .sync .sw, .core, .mem, .pool, .svc, .herds, .hrd, .host, .sent, .free]) :
    (poolWrite k media s).view wt = s.view wt := by
  simp at hoff
  unfold poolWrite; (try simp only [sw_beq_ep, ep_beq_sw, sw_beq_sw, ep_beq_ep, Bool.false_eq_true, Bool.true_and, Bool.false_and, if_true, if_false]); repeat' (first | contradiction | (simp +decide [poolWrite, hoff, Chip.view, Chip.rest, Pool.view, Pool.rest, Svc.view, Svc.rest, Herds.view, Herds.rest, Dct.view, Dct.rest, Dct.held, Fw.view, Fw.rest, Fw.held]; done) | (intros; split) | (intros; first | refine Eq.trans (State_poolGuard_frame _ _ _ _ _ (by simp [hoff]) (fun _ _ _ => ?_)) ?_ | refine Eq.trans (State_room_ep_frame _ _ _ (by simp [hoff]) (fun _ => ?_)) ?_ | refine Eq.trans (State_room_sw_frame _ _ _ (by simp [hoff]) (fun _ => ?_)) ?_ | refine Eq.trans (foldl_view _ _ _ fun _ _ => ?_) ?_ | refine Eq.trans (foldl_fst_view _ _ _ fun _ _ => ?_) ?_ | refine Eq.trans (when_view _ _ _ ?_) ?_) | dsimp only | simp +decide [poolWrite, hoff])

theorem poolAtomic_frame (k : Packet) (media : List (Nat × Bool)) (s : State) (hoff : Off wt [.hdr .sw, .page .sw 0x5, .page .sw 0xb, .page .sw 0x11, .page .sw 0x13, .page .sw 0x14, .page .sw 0x20, .page .sw 0x21, .page .sw 0x30, .page .sw 0x31, .page .sw 0x32, .page .sw 0x40, .page .sw 0x50, .page .sw 0x300, .log .sw, .ports .sw, .sync .sw, .core, .mem, .pool, .svc, .herds, .hrd, .host, .sent, .free]) :
    (poolAtomic k media s).view wt = s.view wt := by
  simp at hoff
  unfold poolAtomic; (try simp only [sw_beq_ep, ep_beq_sw, sw_beq_sw, ep_beq_ep, Bool.false_eq_true, Bool.true_and, Bool.false_and, if_true, if_false]); repeat' (first | contradiction | (simp +decide [poolAtomic, hoff, Chip.view, Chip.rest, Pool.view, Pool.rest, Svc.view, Svc.rest, Herds.view, Herds.rest, Dct.view, Dct.rest, Dct.held, Fw.view, Fw.rest, Fw.held]; done) | (intros; split) | (intros; first | refine Eq.trans (State_poolGuard_frame _ _ _ _ _ (by simp [hoff]) (fun _ _ _ => ?_)) ?_ | refine Eq.trans (State_room_ep_frame _ _ _ (by simp [hoff]) (fun _ => ?_)) ?_ | refine Eq.trans (State_room_sw_frame _ _ _ (by simp [hoff]) (fun _ => ?_)) ?_ | refine Eq.trans (foldl_view _ _ _ fun _ _ => ?_) ?_ | refine Eq.trans (foldl_fst_view _ _ _ fun _ _ => ?_) ?_ | refine Eq.trans (when_view _ _ _ ?_) ?_) | dsimp only | simp +decide [poolAtomic, hoff])

theorem readShared_frame (k : Packet) (s : State) (hoff : Off wt [.hdr .sw, .page .sw 0x5, .page .sw 0xb, .page .sw 0x11, .page .sw 0x13, .page .sw 0x14, .page .sw 0x20, .page .sw 0x21, .page .sw 0x30, .page .sw 0x31, .page .sw 0x32, .page .sw 0x40, .page .sw 0x50, .page .sw 0x300, .log .sw, .ports .sw, .sync .sw, .core, .mem, .pool, .svc, .herds, .hrd, .host, .sent, .free]) :
    (readShared k s).view wt = s.view wt := by
  simp at hoff
  simp [readShared, hoff, Chip.view, Chip.rest, Pool.view, Pool.rest, Svc.view, Svc.rest, Herds.view, Herds.rest, Dct.view, Dct.rest, Dct.held, Fw.view, Fw.rest, Fw.held]

@[simp] theorem State_ownRequest_frame (s : State) (kind : PKind) (k : Packet) (hoff : Off wt [.hdr .sw, .page .sw 0x5, .page .sw 0xb, .page .sw 0x11, .page .sw 0x13, .page .sw 0x14, .page .sw 0x20, .page .sw 0x21, .page .sw 0x30, .page .sw 0x31, .page .sw 0x32, .page .sw 0x40, .page .sw 0x50, .page .sw 0x300, .log .sw, .ports .sw, .sync .sw, .core, .mem, .pool, .svc, .herds, .hrd, .host, .sent, .free]) :
    (State.ownRequest s kind k).view wt = s.view wt := by
  simp at hoff
  simp [State.ownRequest, hoff, Chip.view, Chip.rest, Pool.view, Pool.rest, Svc.view, Svc.rest, Herds.view, Herds.rest, Dct.view, Dct.rest, Dct.held, Fw.view, Fw.rest, Fw.held]

theorem readOwn_frame (k : Packet) (s : State) (hoff : Off wt [.hdr .sw, .page .sw 0x5, .page .sw 0xb, .page .sw 0x11, .page .sw 0x13, .page .sw 0x14, .page .sw 0x20, .page .sw 0x21, .page .sw 0x30, .page .sw 0x31, .page .sw 0x32, .page .sw 0x40, .page .sw 0x50, .page .sw 0x300, .log .sw, .ports .sw, .sync .sw, .core, .mem, .pool, .svc, .herds, .hrd, .host, .sent, .free]) :
    (readOwn k s).view wt = s.view wt := by
  simp at hoff
  simp [readOwn, hoff, Chip.view, Chip.rest, Pool.view, Pool.rest, Svc.view, Svc.rest, Herds.view, Herds.rest, Dct.view, Dct.rest, Dct.held, Fw.view, Fw.rest, Fw.held]

theorem upgrade_frame (k : Packet) (s : State) (hoff : Off wt [.hdr .sw, .page .sw 0x5, .page .sw 0xb, .page .sw 0x11, .page .sw 0x13, .page .sw 0x14, .page .sw 0x20, .page .sw 0x21, .page .sw 0x30, .page .sw 0x31, .page .sw 0x32, .page .sw 0x40, .page .sw 0x50, .page .sw 0x300, .log .sw, .ports .sw, .sync .sw, .core, .mem, .pool, .svc, .herds, .hrd, .host, .sent, .free]) :
    (upgrade k s).view wt = s.view wt := by
  simp at hoff
  simp [upgrade, hoff, Chip.view, Chip.rest, Pool.view, Pool.rest, Svc.view, Svc.rest, Herds.view, Herds.rest, Dct.view, Dct.rest, Dct.held, Fw.view, Fw.rest, Fw.held]

@[simp] theorem snoopTimeout_frame (slot : Nat) (s : State) (hoff : Off wt [.hdr .sw, .page .sw 0x5, .page .sw 0xb, .page .sw 0x11, .page .sw 0x13, .page .sw 0x14, .page .sw 0x20, .page .sw 0x21, .page .sw 0x30, .page .sw 0x31, .page .sw 0x32, .page .sw 0x40, .page .sw 0x50, .page .sw 0x300, .log .sw, .ports .sw, .sync .sw, .core, .mem, .pool, .svc, .herds, .hrd, .host, .sent, .free]) :
    (snoopTimeout slot s).view wt = s.view wt := by
  simp at hoff
  unfold snoopTimeout; (try simp only [sw_beq_ep, ep_beq_sw, sw_beq_sw, ep_beq_ep, Bool.false_eq_true, Bool.true_and, Bool.false_and, if_true, if_false]); (repeat' split) <;> (try dsimp only) <;> first | contradiction | simp +decide [snoopTimeout, hoff, Chip.view, Chip.rest, Pool.view, Pool.rest, Svc.view, Svc.rest, Herds.view, Herds.rest, Dct.view, Dct.rest, Dct.held, Fw.view, Fw.rest, Fw.held]

@[simp] theorem State_answeredByBack_frame (s : State) (key slot : Nat) (hoff : Off wt [.pool]) :
    (State.answeredByBack s key slot).view wt = s.view wt := by
  simp at hoff
  unfold State.answeredByBack; (try simp only [sw_beq_ep, ep_beq_sw, sw_beq_sw, ep_beq_ep, Bool.false_eq_true, Bool.true_and, Bool.false_and, if_true, if_false]); (repeat' split) <;> (try dsimp only) <;> first | contradiction | simp +decide [State.answeredByBack, hoff, Chip.view, Chip.rest, Pool.view, Pool.rest, Svc.view, Svc.rest, Herds.view, Herds.rest, Dct.view, Dct.rest, Dct.held, Fw.view, Fw.rest, Fw.held]

@[simp] theorem State_ownerBack_frame (s : State) (key slot keep : Nat) (hoff : Off wt [.pool]) :
    (State.ownerBack s key slot keep).view wt = s.view wt := by
  simp at hoff
  unfold State.ownerBack; (try simp only [sw_beq_ep, ep_beq_sw, sw_beq_sw, ep_beq_ep, Bool.false_eq_true, Bool.true_and, Bool.false_and, if_true, if_false]); (repeat' split) <;> (try dsimp only) <;> first | contradiction | simp +decide [State.ownerBack, hoff, Chip.view, Chip.rest, Pool.view, Pool.rest, Svc.view, Svc.rest, Herds.view, Herds.rest, Dct.view, Dct.rest, Dct.held, Fw.view, Fw.rest, Fw.held]

@[simp] theorem State_returnGuard_frame (s : State) (k : Packet) (f : Nat → Nat → State → State) (hoff : Off wt [.hdr .sw, .page .sw 0x5, .page .sw 0xb, .page .sw 0x11, .page .sw 0x13, .page .sw 0x14, .page .sw 0x20, .page .sw 0x21, .page .sw 0x30, .page .sw 0x31, .page .sw 0x32, .page .sw 0x40, .page .sw 0x50, .page .sw 0x300, .log .sw, .ports .sw, .sync .sw, .core, .mem, .pool, .svc, .herds, .hrd, .host, .sent, .free]) (hf : ∀ a0 a1 s, (f a0 a1 s).view wt = s.view wt) :
    (State.returnGuard s k f).view wt = s.view wt := by
  simp at hoff
  unfold State.returnGuard; (try simp only [sw_beq_ep, ep_beq_sw, sw_beq_sw, ep_beq_ep, Bool.false_eq_true, Bool.true_and, Bool.false_and, if_true, if_false]); (repeat' split) <;> (try dsimp only) <;> first | contradiction | simp +decide [State.returnGuard, hoff, hf, Chip.view, Chip.rest, Pool.view, Pool.rest, Svc.view, Svc.rest, Herds.view, Herds.rest, Dct.view, Dct.rest, Dct.held, Fw.view, Fw.rest, Fw.held]

theorem writeback_frame (k : Packet) (s : State) (hoff : Off wt [.hdr .sw, .page .sw 0x5, .page .sw 0xb, .page .sw 0x11, .page .sw 0x13, .page .sw 0x14, .page .sw 0x20, .page .sw 0x21, .page .sw 0x30, .page .sw 0x31, .page .sw 0x32, .page .sw 0x40, .page .sw 0x50, .page .sw 0x300, .log .sw, .ports .sw, .sync .sw, .core, .mem, .pool, .svc, .herds, .hrd, .host, .sent, .free]) :
    (writeback k s).view wt = s.view wt := by
  simp at hoff
  simp [writeback, hoff, Chip.view, Chip.rest, Pool.view, Pool.rest, Svc.view, Svc.rest, Herds.view, Herds.rest, Dct.view, Dct.rest, Dct.held, Fw.view, Fw.rest, Fw.held]

@[simp] theorem State_dropClean_frame (s : State) (key : Nat) (keep : Nat) (hoff : Off wt [.pool]) :
    (State.dropClean s key keep).view wt = s.view wt := by
  simp at hoff
  unfold State.dropClean; (try simp only [sw_beq_ep, ep_beq_sw, sw_beq_sw, ep_beq_ep, Bool.false_eq_true, Bool.true_and, Bool.false_and, if_true, if_false]); (repeat' split) <;> (try dsimp only) <;> first | contradiction | simp +decide [State.dropClean, hoff, Chip.view, Chip.rest, Pool.view, Pool.rest, Svc.view, Svc.rest, Herds.view, Herds.rest, Dct.view, Dct.rest, Dct.held, Fw.view, Fw.rest, Fw.held]

theorem cleanEvict_frame (k : Packet) (s : State) (hoff : Off wt [.hdr .sw, .page .sw 0x5, .page .sw 0xb, .page .sw 0x11, .page .sw 0x13, .page .sw 0x14, .page .sw 0x20, .page .sw 0x21, .page .sw 0x30, .page .sw 0x31, .page .sw 0x32, .page .sw 0x40, .page .sw 0x50, .page .sw 0x300, .log .sw, .ports .sw, .sync .sw, .core, .mem, .pool, .svc, .herds, .hrd, .host, .sent, .free]) :
    (cleanEvict k s).view wt = s.view wt := by
  simp at hoff
  simp [cleanEvict, hoff, Chip.view, Chip.rest, Pool.view, Pool.rest, Svc.view, Svc.rest, Herds.view, Herds.rest, Dct.view, Dct.rest, Dct.held, Fw.view, Fw.rest, Fw.held]

@[simp] theorem State_answered_frame (s : State) (key slot : Nat) (data : Option (List Byte)) (hoff : Off wt [.page .sw 0x11, .page .sw 0x14, .core, .mem, .pool]) :
    (State.answered s key slot data).view wt = s.view wt := by
  simp at hoff
  unfold State.answered; (try simp only [sw_beq_ep, ep_beq_sw, sw_beq_sw, ep_beq_ep, Bool.false_eq_true, Bool.true_and, Bool.false_and, if_true, if_false]); (repeat' split) <;> (try dsimp only) <;> first | contradiction | simp +decide [State.answered, hoff, Chip.view, Chip.rest, Pool.view, Pool.rest, Svc.view, Svc.rest, Herds.view, Herds.rest, Dct.view, Dct.rest, Dct.held, Fw.view, Fw.rest, Fw.held]

@[simp] theorem State_snoopAnswer_frame (s : State) (key slot kind : Nat) (bs : List Byte) (ok : Bool) (hoff : Off wt [.hdr .sw, .page .sw 0x5, .page .sw 0xb, .page .sw 0x11, .page .sw 0x14, .page .sw 0x20, .page .sw 0x21, .page .sw 0x30, .page .sw 0x31, .log .sw, .ports .sw, .sync .sw, .core, .mem, .pool, .svc, .herds, .hrd, .host, .sent]) :
    (State.snoopAnswer s key slot kind bs ok).view wt = s.view wt := by
  simp at hoff
  unfold State.snoopAnswer; (try simp only [sw_beq_ep, ep_beq_sw, sw_beq_sw, ep_beq_ep, Bool.false_eq_true, Bool.true_and, Bool.false_and, if_true, if_false]); (repeat' split) <;> (try dsimp only) <;> first | contradiction | simp +decide [State.snoopAnswer, hoff, Chip.view, Chip.rest, Pool.view, Pool.rest, Svc.view, Svc.rest, Herds.view, Herds.rest, Dct.view, Dct.rest, Dct.held, Fw.view, Fw.rest, Fw.held]

theorem snpRspReceive_frame (k : Packet) (s : State) (hoff : Off wt [.hdr .sw, .page .sw 0x5, .page .sw 0xb, .page .sw 0x11, .page .sw 0x13, .page .sw 0x14, .page .sw 0x20, .page .sw 0x21, .page .sw 0x30, .page .sw 0x31, .page .sw 0x32, .page .sw 0x40, .page .sw 0x50, .page .sw 0x300, .log .sw, .ports .sw, .sync .sw, .core, .mem, .pool, .svc, .herds, .hrd, .host, .sent, .free]) :
    (snpRspReceive k s).view wt = s.view wt := by
  simp at hoff
  have h1 : (s.consume .sw k).view wt = s.view wt := by simp [hoff]
  unfold snpRspReceive
  generalize s.consume .sw k = s1 at h1
  have h2 : ((s1.when (!crcOk k) fun s => s.crcFail .sw k)).view wt = s1.view wt := by simp [hoff]
  dsimp only
  (repeat' split) <;> first
    | exact h1
    | exact h2.trans h1
    | (simp [h1, hoff]; done)
    | (dsimp only; split <;> first | exact h2.trans h1 | simp [h1, h2, hoff])

@[simp] theorem State_agtFence_frame (s : State) (hoff : Off wt [.hdr .sw, .page .sw 0x5, .page .sw 0xb, .page .sw 0x11, .page .sw 0x13, .page .sw 0x14, .page .sw 0x20, .page .sw 0x21, .page .sw 0x30, .page .sw 0x31, .page .sw 0x32, .page .sw 0x40, .page .sw 0x50, .page .sw 0x300, .log .sw, .ports .sw, .sync .sw, .core, .mem, .pool, .svc, .herds, .hrd, .host, .sent, .free]) :
    (State.agtFence s).view wt = s.view wt := by
  simp at hoff
  simp [State.agtFence, hoff, Chip.view, Chip.rest, Pool.view, Pool.rest, Svc.view, Svc.rest, Herds.view, Herds.rest, Dct.view, Dct.rest, Dct.held, Fw.view, Fw.rest, Fw.held]

theorem agtFenceWrite_frame (path : Path) (s : State) (hoff : Off wt [.hdr .sw, .page .sw 0x5, .page .sw 0xb, .page .sw 0x11, .page .sw 0x13, .page .sw 0x14, .page .sw 0x20, .page .sw 0x21, .page .sw 0x30, .page .sw 0x31, .page .sw 0x32, .page .sw 0x40, .page .sw 0x50, .page .sw 0x300, .log .sw, .ports .sw, .sync .sw, .core, .mem, .pool, .svc, .herds, .hrd, .host, .sent, .free]) :
    (agtFenceWrite path s).view wt = s.view wt := by
  simp at hoff
  simp [agtFenceWrite, hoff, Chip.view, Chip.rest, Pool.view, Pool.rest, Svc.view, Svc.rest, Herds.view, Herds.rest, Dct.view, Dct.rest, Dct.held, Fw.view, Fw.rest, Fw.held]

@[simp] theorem State_agtReadmit_frame (s : State) (hoff : Off wt [.hdr .sw, .page .sw 0xb, .page .sw 0x31]) :
    (State.agtReadmit s).1.view wt = s.view wt := by
  simp at hoff
  simp [State.agtReadmit, hoff, Chip.view, Chip.rest, Pool.view, Pool.rest, Svc.view, Svc.rest, Herds.view, Herds.rest, Dct.view, Dct.rest, Dct.held, Fw.view, Fw.rest, Fw.held]

theorem agtReadmitWrite_frame (path : Path) (s : State) (hoff : Off wt [.hdr .sw, .page .sw 0xb, .page .sw 0x31, .sent]) :
    (agtReadmitWrite path s).view wt = s.view wt := by
  simp at hoff
  simp [agtReadmitWrite, hoff, Chip.view, Chip.rest, Pool.view, Pool.rest, Svc.view, Svc.rest, Herds.view, Herds.rest, Dct.view, Dct.rest, Dct.held, Fw.view, Fw.rest, Fw.held]

@[simp] theorem State_agentsPortLost_frame (s : State) (n : Nat) (hoff : Off wt [.hdr .sw, .page .sw 0x5, .page .sw 0xb, .page .sw 0x11, .page .sw 0x13, .page .sw 0x14, .page .sw 0x20, .page .sw 0x21, .page .sw 0x30, .page .sw 0x31, .page .sw 0x32, .page .sw 0x40, .page .sw 0x50, .page .sw 0x300, .log .sw, .ports .sw, .sync .sw, .core, .mem, .pool, .svc, .herds, .hrd, .host, .sent, .free]) :
    (State.agentsPortLost s n).view wt = s.view wt := by
  simp at hoff
  simp [State.agentsPortLost, hoff, Chip.view, Chip.rest, Pool.view, Pool.rest, Svc.view, Svc.rest, Herds.view, Herds.rest, Dct.view, Dct.rest, Dct.held, Fw.view, Fw.rest, Fw.held]

@[simp] theorem State_olClear_frame (s : State) (o : Origin) (v : Word) (hoff : Off wt [.hdr .sw, .page .sw 0xb, .page .sw 0x31]) :
    (State.olClear s o v).1.view wt = s.view wt := by
  simp at hoff
  simp [State.olClear, hoff, Chip.view, Chip.rest, Pool.view, Pool.rest, Svc.view, Svc.rest, Herds.view, Herds.rest, Dct.view, Dct.rest, Dct.held, Fw.view, Fw.rest, Fw.held]

theorem olClearWrite_frame (o : Origin) (v : Word) (s : State) (hoff : Off wt [.hdr .sw, .page .sw 0xb, .page .sw 0x31, .sent]) :
    (olClearWrite o v s).view wt = s.view wt := by
  simp at hoff
  simp [olClearWrite, hoff, Chip.view, Chip.rest, Pool.view, Pool.rest, Svc.view, Svc.rest, Herds.view, Herds.rest, Dct.view, Dct.rest, Dct.held, Fw.view, Fw.rest, Fw.held]

theorem olClearDone_frame (s : State) (hoff : Off wt [.hdr .sw, .page .sw 0x5, .page .sw 0xb, .page .sw 0x11, .page .sw 0x13, .page .sw 0x14, .page .sw 0x20, .page .sw 0x21, .page .sw 0x30, .page .sw 0x31, .page .sw 0x32, .page .sw 0x40, .page .sw 0x50, .page .sw 0x300, .log .sw, .ports .sw, .sync .sw, .core, .mem, .pool, .svc, .herds, .hrd, .host, .sent, .free]) :
    (olClearDone s).view wt = s.view wt := by
  simp at hoff
  simp [olClearDone, hoff, Chip.view, Chip.rest, Pool.view, Pool.rest, Svc.view, Svc.rest, Herds.view, Herds.rest, Dct.view, Dct.rest, Dct.held, Fw.view, Fw.rest, Fw.held]

@[simp] theorem State_readOlRec1_frame (s : State) (hoff : Off wt [.pool]) :
    (State.readOlRec1 s).1.view wt = s.view wt := by
  simp at hoff
  simp [State.readOlRec1, hoff, Chip.view, Chip.rest, Pool.view, Pool.rest, Svc.view, Svc.rest, Herds.view, Herds.rest, Dct.view, Dct.rest, Dct.held, Fw.view, Fw.rest, Fw.held]

theorem olRec1Read_frame (path : Path) (s : State) (hoff : Off wt [.pool, .sent]) :
    (olRec1Read path s).view wt = s.view wt := by
  simp at hoff
  simp [olRec1Read, hoff, Chip.view, Chip.rest, Pool.view, Pool.rest, Svc.view, Svc.rest, Herds.view, Herds.rest, Dct.view, Dct.rest, Dct.held, Fw.view, Fw.rest, Fw.held]

@[simp] theorem State_granRetire_frame (s : State) (hoff : Off wt [.hdr .sw, .page .sw 0xb, .page .sw 0x30]) :
    (State.granRetire s).1.view wt = s.view wt := by
  simp at hoff
  simp [State.granRetire, hoff, Chip.view, Chip.rest, Pool.view, Pool.rest, Svc.view, Svc.rest, Herds.view, Herds.rest, Dct.view, Dct.rest, Dct.held, Fw.view, Fw.rest, Fw.held]

theorem granRetire_frame (path : Path) (s : State) (hoff : Off wt [.hdr .sw, .page .sw 0xb, .page .sw 0x30, .sent]) :
    (granRetire path s).view wt = s.view wt := by
  simp at hoff
  simp [granRetire, hoff, Chip.view, Chip.rest, Pool.view, Pool.rest, Svc.view, Svc.rest, Herds.view, Herds.rest, Dct.view, Dct.rest, Dct.held, Fw.view, Fw.rest, Fw.held]

@[simp] theorem State_scrubNext_frame (s : State) (busy : Bool) (hoff : Off wt [.page .sw 0x30]) :
    (State.scrubNext s busy).view wt = s.view wt := by
  simp at hoff
  unfold State.scrubNext; (try simp only [sw_beq_ep, ep_beq_sw, sw_beq_sw, ep_beq_ep, Bool.false_eq_true, Bool.true_and, Bool.false_and, if_true, if_false]); (repeat' split) <;> (try dsimp only) <;> first | contradiction | simp +decide [State.scrubNext, hoff, Chip.view, Chip.rest, Pool.view, Pool.rest, Svc.view, Svc.rest, Herds.view, Herds.rest, Dct.view, Dct.rest, Dct.held, Fw.view, Fw.rest, Fw.held]

@[simp] theorem State_scrubWake_frame (s : State) (hoff : Off wt [.page .sw 0x30]) :
    (State.scrubWake s).view wt = s.view wt := by
  simp at hoff
  simp [State.scrubWake, hoff, Chip.view, Chip.rest, Pool.view, Pool.rest, Svc.view, Svc.rest, Herds.view, Herds.rest, Dct.view, Dct.rest, Dct.held, Fw.view, Fw.rest, Fw.held]

theorem scrubGranuleDone_frame (g : Nat) (s : State) (hoff : Off wt [.page .sw 0x30, .mem, .pool, .sent]) :
    (scrubGranuleDone g s).view wt = s.view wt := by
  simp at hoff
  simp [scrubGranuleDone, hoff, Chip.view, Chip.rest, Pool.view, Pool.rest, Svc.view, Svc.rest, Herds.view, Herds.rest, Dct.view, Dct.rest, Dct.held, Fw.view, Fw.rest, Fw.held]

theorem patrolPass_frame (media : List (Nat × Bool)) (s : State) (hoff : Off wt [.hdr .sw, .page .sw 0x5, .page .sw 0xb, .page .sw 0x30, .page .sw 0x40, .log .sw, .pool, .sent]) :
    (patrolPass media s).view wt = s.view wt := by
  simp at hoff
  simp [patrolPass, hoff, Chip.view, Chip.rest, Pool.view, Pool.rest, Svc.view, Svc.rest, Herds.view, Herds.rest, Dct.view, Dct.rest, Dct.held, Fw.view, Fw.rest, Fw.held]

@[simp] theorem State_flushPtn_frame (s : State) (p st : Nat) (hoff : Off wt [.hdr .sw, .page .sw 0x5, .page .sw 0xb, .page .sw 0x11, .page .sw 0x14, .page .sw 0x20, .page .sw 0x21, .page .sw 0x30, .page .sw 0x31, .page .sw 0x50, .log .sw, .ports .sw, .sync .sw, .core, .pool, .svc, .herds, .hrd, .host, .sent]) :
    (State.flushPtn s p st).view wt = s.view wt := by
  simp at hoff
  unfold State.flushPtn; (try simp only [sw_beq_ep, ep_beq_sw, sw_beq_sw, ep_beq_ep, Bool.false_eq_true, Bool.true_and, Bool.false_and, if_true, if_false]); repeat' (first | contradiction | (simp +decide [State.flushPtn, hoff, Chip.view, Chip.rest, Pool.view, Pool.rest, Svc.view, Svc.rest, Herds.view, Herds.rest, Dct.view, Dct.rest, Dct.held, Fw.view, Fw.rest, Fw.held]; done) | (intros; split) | (intros; first | refine Eq.trans (foldl_view _ _ _ fun _ _ => ?_) ?_ | refine Eq.trans (foldl_fst_view _ _ _ fun _ _ => ?_) ?_ | refine Eq.trans (when_view _ _ _ ?_) ?_) | dsimp only | simp +decide [State.flushPtn, hoff])

@[simp] theorem State_drainHome_frame (s : State) (p : Nat) (hoff : Off wt [.hdr .sw, .page .sw 0x5, .page .sw 0xb, .page .sw 0x11, .page .sw 0x13, .page .sw 0x14, .page .sw 0x20, .page .sw 0x21, .page .sw 0x30, .page .sw 0x31, .page .sw 0x32, .page .sw 0x40, .page .sw 0x50, .page .sw 0x300, .log .sw, .ports .sw, .sync .sw, .core, .mem, .pool, .svc, .herds, .hrd, .host, .sent, .free]) :
    (State.drainHome s p).view wt = s.view wt := by
  simp at hoff
  simp [State.drainHome, hoff, Chip.view, Chip.rest, Pool.view, Pool.rest, Svc.view, Svc.rest, Herds.view, Herds.rest, Dct.view, Dct.rest, Dct.held, Fw.view, Fw.rest, Fw.held]

@[simp] theorem State_scrubStand_frame (s : State) (hoff : Off wt [.page .sw 0x30]) :
    (State.scrubStand s).view wt = s.view wt := by
  simp at hoff
  unfold State.scrubStand
  generalize (upTo 1788).find? (fun g => s.granState g == 3) = o
  cases o <;> simp [hoff]

theorem hbmStackLost_frame (n : Nat) (s : State) (hoff : Off wt [.hdr .sw, .page .sw 0x5, .page .sw 0xb, .page .sw 0x11, .page .sw 0x13, .page .sw 0x14, .page .sw 0x20, .page .sw 0x21, .page .sw 0x30, .page .sw 0x31, .page .sw 0x32, .page .sw 0x40, .page .sw 0x50, .page .sw 0x300, .log .sw, .ports .sw, .sync .sw, .core, .mem, .pool, .svc, .herds, .hrd, .host, .sent, .free]) :
    (hbmStackLost n s).view wt = s.view wt := by
  simp at hoff
  simp [hbmStackLost, hoff, Chip.view, Chip.rest, Pool.view, Pool.rest, Svc.view, Svc.rest, Herds.view, Herds.rest, Dct.view, Dct.rest, Dct.held, Fw.view, Fw.rest, Fw.held]

@[simp] theorem State_bulkErr_frame (s : State) (b : BulkOp) (kind : Nat) (hoff : Off wt [.hdr .sw, .page .sw 0x5, .page .sw 0xb, .page .sw 0x51, .log .sw, .sent]) :
    (State.bulkErr s b kind).view wt = s.view wt := by
  simp at hoff
  unfold State.bulkErr; (try simp only [sw_beq_ep, ep_beq_sw, sw_beq_sw, ep_beq_ep, Bool.false_eq_true, Bool.true_and, Bool.false_and, if_true, if_false]); (repeat' split) <;> (try dsimp only) <;> first | contradiction | simp +decide [State.bulkErr, hoff, Chip.view, Chip.rest, Pool.view, Pool.rest, Svc.view, Svc.rest, Herds.view, Herds.rest, Dct.view, Dct.rest, Dct.held, Fw.view, Fw.rest, Fw.held]

@[simp] theorem State_bulkOff_frame (s : State) (b : BulkOp) (hoff : Off wt [.pool]) :
    (State.bulkOff s b).view wt = s.view wt := by
  simp at hoff
  simp [State.bulkOff, hoff, Chip.view, Chip.rest, Pool.view, Pool.rest, Svc.view, Svc.rest, Herds.view, Herds.rest, Dct.view, Dct.rest, Dct.held, Fw.view, Fw.rest, Fw.held]

@[simp] theorem State_bulkFail_frame (s : State) (b : BulkOp) (st : Nat) (stick : Bool) (hoff : Off wt [.pool]) :
    (State.bulkFail s b st stick).view wt = s.view wt := by
  simp at hoff
  unfold State.bulkFail; (try simp only [sw_beq_ep, ep_beq_sw, sw_beq_sw, ep_beq_ep, Bool.false_eq_true, Bool.true_and, Bool.false_and, if_true, if_false]); (repeat' split) <;> (try dsimp only) <;> first | contradiction | simp +decide [State.bulkFail, hoff, Chip.view, Chip.rest, Pool.view, Pool.rest, Svc.view, Svc.rest, Herds.view, Herds.rest, Dct.view, Dct.rest, Dct.held, Fw.view, Fw.rest, Fw.held]

@[simp] theorem State_bulkDown_frame (s : State) (n : Nat) (hoff : Off wt [.hdr .sw, .page .sw 0x5, .page .sw 0xb, .page .sw 0x11, .page .sw 0x13, .page .sw 0x14, .page .sw 0x20, .page .sw 0x21, .page .sw 0x30, .page .sw 0x31, .page .sw 0x32, .page .sw 0x40, .page .sw 0x50, .page .sw 0x51, .page .sw 0x300, .log .sw, .ports .sw, .sync .sw, .core, .mem, .pool, .svc, .herds, .hrd, .host, .sent, .free]) :
    (State.bulkDown s n).view wt = s.view wt := by
  simp at hoff
  unfold State.bulkDown; (try simp only [sw_beq_ep, ep_beq_sw, sw_beq_sw, ep_beq_ep, Bool.false_eq_true, Bool.true_and, Bool.false_and, if_true, if_false]); (repeat' split) <;> (try dsimp only) <;> first | contradiction | simp +decide [State.bulkDown, hoff, Chip.view, Chip.rest, Pool.view, Pool.rest, Svc.view, Svc.rest, Herds.view, Herds.rest, Dct.view, Dct.rest, Dct.held, Fw.view, Fw.rest, Fw.held]

@[simp] theorem State_cxdFault_frame (s : State) (n code : Nat) (hoff : Off wt [.hdr .sw, .page .sw 0x5, .page .sw 0xb, .page .sw 0x11, .page .sw 0x13, .page .sw 0x14, .page .sw 0x20, .page .sw 0x21, .page .sw 0x30, .page .sw 0x31, .page .sw 0x32, .page .sw 0x40, .page .sw 0x50, .page .sw 0x51, .page .sw 0x300, .log .sw, .ports .sw, .sync .sw, .core, .mem, .pool, .svc, .herds, .hrd, .host, .sent, .free]) :
    (State.cxdFault s n code).view wt = s.view wt := by
  simp at hoff
  simp [State.cxdFault, hoff, Chip.view, Chip.rest, Pool.view, Pool.rest, Svc.view, Svc.rest, Herds.view, Herds.rest, Dct.view, Dct.rest, Dct.held, Fw.view, Fw.rest, Fw.held]

@[simp] theorem State_bulkExpire_frame (s : State) (b : BulkOp) (hoff : Off wt [.hdr .sw, .page .sw 0x5, .page .sw 0xb, .page .sw 0x11, .page .sw 0x13, .page .sw 0x14, .page .sw 0x20, .page .sw 0x21, .page .sw 0x30, .page .sw 0x31, .page .sw 0x32, .page .sw 0x40, .page .sw 0x50, .page .sw 0x51, .page .sw 0x300, .log .sw, .ports .sw, .sync .sw, .core, .mem, .pool, .svc, .herds, .hrd, .host, .sent, .free]) :
    (State.bulkExpire s b).view wt = s.view wt := by
  simp at hoff
  simp [State.bulkExpire, hoff, Chip.view, Chip.rest, Pool.view, Pool.rest, Svc.view, Svc.rest, Herds.view, Herds.rest, Dct.view, Dct.rest, Dct.held, Fw.view, Fw.rest, Fw.held]

theorem bulkFillComplete_frame (id : Nat) (ok : Bool) (data : List Byte) (s : State) (hoff : Off wt [.hdr .sw, .page .sw 0x5, .page .sw 0xb, .page .sw 0x11, .page .sw 0x13, .page .sw 0x14, .page .sw 0x20, .page .sw 0x21, .page .sw 0x30, .page .sw 0x31, .page .sw 0x32, .page .sw 0x40, .page .sw 0x50, .page .sw 0x51, .page .sw 0x300, .log .sw, .ports .sw, .sync .sw, .core, .mem, .pool, .svc, .herds, .hrd, .host, .sent, .free]) :
    (bulkFillComplete id ok data s).view wt = s.view wt := by
  simp at hoff
  unfold bulkFillComplete; (try simp only [sw_beq_ep, ep_beq_sw, sw_beq_sw, ep_beq_ep, Bool.false_eq_true, Bool.true_and, Bool.false_and, if_true, if_false]); (repeat' split) <;> (try dsimp only) <;> first | contradiction | simp +decide [bulkFillComplete, hoff, Chip.view, Chip.rest, Pool.view, Pool.rest, Svc.view, Svc.rest, Herds.view, Herds.rest, Dct.view, Dct.rest, Dct.held, Fw.view, Fw.rest, Fw.held]

theorem bulkWritebackComplete_frame (id : Nat) (ok : Bool) (s : State) (hoff : Off wt [.hdr .sw, .page .sw 0x5, .page .sw 0xb, .page .sw 0x11, .page .sw 0x13, .page .sw 0x14, .page .sw 0x20, .page .sw 0x21, .page .sw 0x30, .page .sw 0x31, .page .sw 0x32, .page .sw 0x40, .page .sw 0x50, .page .sw 0x51, .page .sw 0x300, .log .sw, .ports .sw, .sync .sw, .core, .mem, .pool, .svc, .herds, .hrd, .host, .sent, .free]) :
    (bulkWritebackComplete id ok s).view wt = s.view wt := by
  simp at hoff
  unfold bulkWritebackComplete; (try simp only [sw_beq_ep, ep_beq_sw, sw_beq_sw, ep_beq_ep, Bool.false_eq_true, Bool.true_and, Bool.false_and, if_true, if_false]); (repeat' split) <;> (try dsimp only) <;> first | contradiction | simp +decide [bulkWritebackComplete, hoff, Chip.view, Chip.rest, Pool.view, Pool.rest, Svc.view, Svc.rest, Herds.view, Herds.rest, Dct.view, Dct.rest, Dct.held, Fw.view, Fw.rest, Fw.held]

theorem bulkPortDown_frame (n : Nat) (s : State) (hoff : Off wt [.hdr .sw, .page .sw 0x5, .page .sw 0xb, .page .sw 0x11, .page .sw 0x13, .page .sw 0x14, .page .sw 0x20, .page .sw 0x21, .page .sw 0x30, .page .sw 0x31, .page .sw 0x32, .page .sw 0x40, .page .sw 0x50, .page .sw 0x51, .page .sw 0x300, .log .sw, .ports .sw, .sync .sw, .core, .mem, .pool, .svc, .herds, .hrd, .host, .sent, .free]) :
    (bulkPortDown n s).view wt = s.view wt := by
  simp at hoff
  simp [bulkPortDown, hoff, Chip.view, Chip.rest, Pool.view, Pool.rest, Svc.view, Svc.rest, Herds.view, Herds.rest, Dct.view, Dct.rest, Dct.held, Fw.view, Fw.rest, Fw.held]

@[simp] theorem State_portDirty_frame (s : State) (n : Nat) (hoff : Off wt [.page .sw 0x30]) :
    (State.portDirty s n).view wt = s.view wt := by
  simp at hoff
  unfold State.portDirty
  refine dropRegs_view _ _ _ fun k v hw => ?_
  cases h : (k % 2 ^ 24 == POL_GRAN_STS.page * 4096 + POL_GRAN_STS.off)
  · rfl
  · rw [regComp_at .sw k POL_GRAN_STS (eq_of_beq h) (by decide)] at hw
    simp [hoff] at hw

@[simp] theorem State_retryDirty_frame (s : State) (n : Nat) (hoff : Off wt [.hdr .sw, .page .sw 0x5, .page .sw 0xb, .page .sw 0x32, .page .sw 0x40, .log .sw, .pool, .sent]) :
    (State.retryDirty s n).view wt = s.view wt := by
  simp at hoff
  simp [State.retryDirty, hoff, Chip.view, Chip.rest, Pool.view, Pool.rest, Svc.view, Svc.rest, Herds.view, Herds.rest, Dct.view, Dct.rest, Dct.held, Fw.view, Fw.rest, Fw.held]

@[simp] theorem State_bulkBringUp_frame (s : State) (n serial bytes : Nat) (hoff : Off wt [.hdr .sw, .page .sw 0x5, .page .sw 0xb, .page .sw 0x11, .page .sw 0x13, .page .sw 0x14, .page .sw 0x20, .page .sw 0x21, .page .sw 0x30, .page .sw 0x31, .page .sw 0x32, .page .sw 0x40, .page .sw 0x50, .page .sw 0x51, .page .sw 0x300, .log .sw, .ports .sw, .sync .sw, .core, .mem, .pool, .svc, .herds, .hrd, .host, .sent, .free]) :
    (State.bulkBringUp s n serial bytes).view wt = s.view wt := by
  simp at hoff
  simp [State.bulkBringUp, hoff, Chip.view, Chip.rest, Pool.view, Pool.rest, Svc.view, Svc.rest, Herds.view, Herds.rest, Dct.view, Dct.rest, Dct.held, Fw.view, Fw.rest, Fw.held]

theorem bulkPortUp_frame (n serial bytes : Nat) (s : State) (hoff : Off wt [.hdr .sw, .page .sw 0x5, .page .sw 0xb, .page .sw 0x11, .page .sw 0x13, .page .sw 0x14, .page .sw 0x20, .page .sw 0x21, .page .sw 0x30, .page .sw 0x31, .page .sw 0x32, .page .sw 0x40, .page .sw 0x50, .page .sw 0x51, .page .sw 0x300, .log .sw, .ports .sw, .sync .sw, .core, .mem, .pool, .svc, .herds, .hrd, .host, .sent, .free]) :
    (bulkPortUp n serial bytes s).view wt = s.view wt := by
  simp at hoff
  simp [bulkPortUp, hoff, Chip.view, Chip.rest, Pool.view, Pool.rest, Svc.view, Svc.rest, Herds.view, Herds.rest, Dct.view, Dct.rest, Dct.held, Fw.view, Fw.rest, Fw.held]

theorem bulkDevTimeout_frame (id : Nat) (s : State) (hoff : Off wt [.hdr .sw, .page .sw 0x5, .page .sw 0xb, .page .sw 0x11, .page .sw 0x13, .page .sw 0x14, .page .sw 0x20, .page .sw 0x21, .page .sw 0x30, .page .sw 0x31, .page .sw 0x32, .page .sw 0x40, .page .sw 0x50, .page .sw 0x51, .page .sw 0x300, .log .sw, .ports .sw, .sync .sw, .core, .mem, .pool, .svc, .herds, .hrd, .host, .sent, .free]) :
    (bulkDevTimeout id s).view wt = s.view wt := by
  simp at hoff
  unfold bulkDevTimeout; (try simp only [sw_beq_ep, ep_beq_sw, sw_beq_sw, ep_beq_ep, Bool.false_eq_true, Bool.true_and, Bool.false_and, if_true, if_false]); (repeat' split) <;> (try dsimp only) <;> first | contradiction | simp +decide [bulkDevTimeout, hoff, Chip.view, Chip.rest, Pool.view, Pool.rest, Svc.view, Svc.rest, Herds.view, Herds.rest, Dct.view, Dct.rest, Dct.held, Fw.view, Fw.rest, Fw.held]

theorem prefetchHint_frame (k : Packet) (busy : Bool) (s : State) (hoff : Off wt [.hdr .sw, .page .sw 0x5, .page .sw 0xb, .page .sw 0x11, .page .sw 0x13, .page .sw 0x14, .page .sw 0x20, .page .sw 0x21, .page .sw 0x30, .page .sw 0x31, .page .sw 0x32, .page .sw 0x40, .page .sw 0x50, .page .sw 0x300, .log .sw, .ports .sw, .sync .sw, .core, .mem, .pool, .svc, .herds, .hrd, .host, .sent, .free]) :
    (prefetchHint k busy s).view wt = s.view wt := by
  simp at hoff
  unfold prefetchHint; (try simp only [sw_beq_ep, ep_beq_sw, sw_beq_sw, ep_beq_ep, Bool.false_eq_true, Bool.true_and, Bool.false_and, if_true, if_false]); (repeat' split) <;> (try dsimp only) <;> first | contradiction | simp +decide [prefetchHint, hoff, Chip.view, Chip.rest, Pool.view, Pool.rest, Svc.view, Svc.rest, Herds.view, Herds.rest, Dct.view, Dct.rest, Dct.held, Fw.view, Fw.rest, Fw.held]

theorem combineWindowExpiry_frame (p line : Nat) (s : State) (hoff : Off wt [.pool]) :
    (combineWindowExpiry p line s).view wt = s.view wt := by
  simp at hoff
  simp [combineWindowExpiry, hoff, Chip.view, Chip.rest, Pool.view, Pool.rest, Svc.view, Svc.rest, Herds.view, Herds.rest, Dct.view, Dct.rest, Dct.held, Fw.view, Fw.rest, Fw.held]

theorem combineIssue_frame (p line : Nat) (s : State) (hoff : Off wt [.hdr .sw, .page .sw 0x5, .page .sw 0xb, .page .sw 0x11, .page .sw 0x13, .page .sw 0x14, .page .sw 0x20, .page .sw 0x21, .page .sw 0x30, .page .sw 0x31, .page .sw 0x32, .page .sw 0x40, .page .sw 0x50, .page .sw 0x300, .log .sw, .ports .sw, .sync .sw, .core, .mem, .pool, .svc, .herds, .hrd, .host, .sent, .free]) :
    (combineIssue p line s).view wt = s.view wt := by
  simp at hoff
  unfold combineIssue; (try simp only [sw_beq_ep, ep_beq_sw, sw_beq_sw, ep_beq_ep, Bool.false_eq_true, Bool.true_and, Bool.false_and, if_true, if_false]); (repeat' split) <;> (try dsimp only) <;> first | contradiction | simp +decide [combineIssue, hoff, Chip.view, Chip.rest, Pool.view, Pool.rest, Svc.view, Svc.rest, Herds.view, Herds.rest, Dct.view, Dct.rest, Dct.held, Fw.view, Fw.rest, Fw.held]

@[simp] theorem State_lateRecord_frame (s : State) (m : Member) (hoff : Off wt [.pool]) :
    (State.lateRecord s m).view wt = s.view wt := by
  simp at hoff
  unfold State.lateRecord; (try simp only [sw_beq_ep, ep_beq_sw, sw_beq_sw, ep_beq_ep, Bool.false_eq_true, Bool.true_and, Bool.false_and, if_true, if_false]); (repeat' split) <;> (try dsimp only) <;> first | contradiction | simp +decide [State.lateRecord, hoff, Chip.view, Chip.rest, Pool.view, Pool.rest, Svc.view, Svc.rest, Herds.view, Herds.rest, Dct.view, Dct.rest, Dct.held, Fw.view, Fw.rest, Fw.held]

theorem switchReqTimeout_frame (id : Nat) (s : State) (hoff : Off wt [.hdr .sw, .page .sw 0x5, .page .sw 0xb, .page .sw 0x11, .page .sw 0x13, .page .sw 0x14, .page .sw 0x20, .page .sw 0x21, .page .sw 0x30, .page .sw 0x31, .page .sw 0x32, .page .sw 0x40, .page .sw 0x50, .page .sw 0x300, .log .sw, .ports .sw, .sync .sw, .core, .mem, .pool, .svc, .herds, .hrd, .host, .sent, .free]) :
    (switchReqTimeout id s).view wt = s.view wt := by
  simp at hoff
  unfold switchReqTimeout; (try simp only [sw_beq_ep, ep_beq_sw, sw_beq_sw, ep_beq_ep, Bool.false_eq_true, Bool.true_and, Bool.false_and, if_true, if_false]); repeat' (first | contradiction | (simp +decide [switchReqTimeout, hoff, Chip.view, Chip.rest, Pool.view, Pool.rest, Svc.view, Svc.rest, Herds.view, Herds.rest, Dct.view, Dct.rest, Dct.held, Fw.view, Fw.rest, Fw.held]; done) | (intros; split) | (intros; first | refine Eq.trans (foldl_view _ _ _ fun _ _ => ?_) ?_ | refine Eq.trans (foldl_fst_view _ _ _ fun _ _ => ?_) ?_ | refine Eq.trans (when_view _ _ _ ?_) ?_) | dsimp only | simp +decide [switchReqTimeout, hoff])

theorem outcomeRecordExpiry_frame (src tag : Nat) (s : State) (hoff : Off wt [.page .sw 0x13, .pool]) :
    (outcomeRecordExpiry src tag s).view wt = s.view wt := by
  simp at hoff
  simp [outcomeRecordExpiry, hoff, Chip.view, Chip.rest, Pool.view, Pool.rest, Svc.view, Svc.rest, Herds.view, Herds.rest, Dct.view, Dct.rest, Dct.held, Fw.view, Fw.rest, Fw.held]

theorem outcomeReleaseReceive_sw_frame (k : Packet) (s : State) (hoff : Off wt [.hdr .sw, .page .sw 0x5, .page .sw 0xb, .page .sw 0x11, .page .sw 0x14, .log .sw, .core, .pool, .sent]) :
    (outcomeReleaseReceive .sw k s).view wt = s.view wt := by
  simp at hoff
  simp only [outcomeReleaseReceive, State.when, sw_beq_ep, Bool.false_eq_true, if_false]
  split <;> simp [hoff]

theorem outcomeReleaseReceive_ep_frame (k : Packet) (s : State) (hoff : Off wt [.hdr .ep, .page .ep 0xb, .page .ep 0x10, .page .ep 0x22, .page .ep 0x280, .log .ep, .ports .ep, .rly, .ddp, .sent]) :
    (outcomeReleaseReceive .ep k s).view wt = s.view wt := by
  simp at hoff
  simp [outcomeReleaseReceive, hoff, Chip.view, Chip.rest, Pool.view, Pool.rest, Svc.view, Svc.rest, Herds.view, Herds.rest, Dct.view, Dct.rest, Dct.held, Fw.view, Fw.rest, Fw.held]

@[simp] theorem State_tableGuard_frame (s : State) (k : Packet) (f : Table → State → State) (hoff : Off wt [.hdr .sw, .page .sw 0x5, .page .sw 0xb, .page .sw 0x11, .page .sw 0x13, .page .sw 0x14, .log .sw, .core, .pool, .sent]) (hf : ∀ a0 s, (f a0 s).view wt = s.view wt) :
    (State.tableGuard s k f).view wt = s.view wt := by
  simp at hoff
  unfold State.tableGuard; (try simp only [sw_beq_ep, ep_beq_sw, sw_beq_sw, ep_beq_ep, Bool.false_eq_true, Bool.true_and, Bool.false_and, if_true, if_false]); repeat' (first | contradiction | (simp +decide [State.tableGuard, hoff, hf, Chip.view, Chip.rest, Pool.view, Pool.rest, Svc.view, Svc.rest, Herds.view, Herds.rest, Dct.view, Dct.rest, Dct.held, Fw.view, Fw.rest, Fw.held]; done) | (intros; split) | (intros; first | refine Eq.trans (State_poolGuard_frame _ _ _ _ _ (by simp [hoff]) (fun _ _ _ => ?_)) ?_ | refine Eq.trans (foldl_view _ _ _ fun _ _ => ?_) ?_ | refine Eq.trans (foldl_fst_view _ _ _ fun _ _ => ?_) ?_ | refine Eq.trans (when_view _ _ _ ?_) ?_) | dsimp only | simp +decide [State.tableGuard, hoff, hf])

@[simp] theorem State_openGather_frame (s : State) (k : Packet) (t : Table) (idx : List Nat) (left : Nat) (hoff : Off wt [.pool]) :
    (State.openGather s k t idx left).1.view wt = s.view wt := by
  simp at hoff
  simp [State.openGather, hoff, Chip.view, Chip.rest, Pool.view, Pool.rest, Svc.view, Svc.rest, Herds.view, Herds.rest, Dct.view, Dct.rest, Dct.held, Fw.view, Fw.rest, Fw.held]

theorem gatherRequest_frame (k : Packet) (s : State) (hoff : Off wt [.hdr .sw, .page .sw 0x5, .page .sw 0xb, .page .sw 0x11, .page .sw 0x13, .page .sw 0x14, .page .sw 0x20, .page .sw 0x21, .page .sw 0x30, .page .sw 0x31, .page .sw 0x32, .page .sw 0x40, .page .sw 0x50, .page .sw 0x300, .log .sw, .ports .sw, .sync .sw, .core, .mem, .pool, .svc, .herds, .hrd, .host, .sent, .free]) :
    (gatherRequest k s).view wt = s.view wt := by
  simp at hoff
  unfold gatherRequest; (try simp only [sw_beq_ep, ep_beq_sw, sw_beq_sw, ep_beq_ep, Bool.false_eq_true, Bool.true_and, Bool.false_and, if_true, if_false]); repeat' (first | contradiction | (simp +decide [gatherRequest, hoff, Chip.view, Chip.rest, Pool.view, Pool.rest, Svc.view, Svc.rest, Herds.view, Herds.rest, Dct.view, Dct.rest, Dct.held, Fw.view, Fw.rest, Fw.held]; done) | (intros; split) | (intros; first | refine Eq.trans (State_tableGuard_frame _ _ _ (by simp [hoff]) (fun _ _ => ?_)) ?_ | refine Eq.trans (foldl_view _ _ _ fun _ _ => ?_) ?_ | refine Eq.trans (foldl_fst_view _ _ _ fun _ _ => ?_) ?_ | refine Eq.trans (when_view _ _ _ ?_) ?_) | dsimp only | simp +decide [gatherRequest, hoff])

theorem scatterAddRequest_frame (k : Packet) (s : State) (hoff : Off wt [.hdr .sw, .page .sw 0x5, .page .sw 0xb, .page .sw 0x11, .page .sw 0x13, .page .sw 0x14, .page .sw 0x20, .page .sw 0x21, .page .sw 0x30, .page .sw 0x31, .page .sw 0x32, .page .sw 0x40, .page .sw 0x50, .page .sw 0x300, .log .sw, .ports .sw, .sync .sw, .core, .mem, .pool, .svc, .herds, .hrd, .host, .sent, .free]) :
    (scatterAddRequest k s).view wt = s.view wt := by
  simp at hoff
  unfold scatterAddRequest; (try simp only [sw_beq_ep, ep_beq_sw, sw_beq_sw, ep_beq_ep, Bool.false_eq_true, Bool.true_and, Bool.false_and, if_true, if_false]); repeat' (first | contradiction | (simp +decide [scatterAddRequest, hoff, Chip.view, Chip.rest, Pool.view, Pool.rest, Svc.view, Svc.rest, Herds.view, Herds.rest, Dct.view, Dct.rest, Dct.held, Fw.view, Fw.rest, Fw.held]; done) | (intros; split) | (intros; first | refine Eq.trans (State_tableGuard_frame _ _ _ (by simp [hoff]) (fun _ _ => ?_)) ?_ | refine Eq.trans (State_room_ep_frame _ _ _ (by simp [hoff]) (fun _ => ?_)) ?_ | refine Eq.trans (State_room_sw_frame _ _ _ (by simp [hoff]) (fun _ => ?_)) ?_ | refine Eq.trans (foldl_view _ _ _ fun _ _ => ?_) ?_ | refine Eq.trans (foldl_fst_view _ _ _ fun _ _ => ?_) ?_ | refine Eq.trans (when_view _ _ _ ?_) ?_) | dsimp only | simp +decide [scatterAddRequest, hoff])

@[simp] theorem State_streamAccess_frame (s : State) (herd chunk : Nat) (l : List (Nat × Nat × Nat × Nat × Option (List Byte))) (hoff : Off wt [.hdr .sw, .page .sw 0x5, .page .sw 0xb, .page .sw 0x11, .page .sw 0x13, .page .sw 0x14, .page .sw 0x20, .page .sw 0x21, .page .sw 0x30, .page .sw 0x31, .page .sw 0x32, .page .sw 0x40, .page .sw 0x50, .page .sw 0x300, .log .sw, .ports .sw, .sync .sw, .core, .mem, .pool, .svc, .herds, .hrd, .host, .sent, .free]) :
    (State.streamAccess s herd chunk l).view wt = s.view wt := by
  simp at hoff
  simp [State.streamAccess, hoff, Chip.view, Chip.rest, Pool.view, Pool.rest, Svc.view, Svc.rest, Herds.view, Herds.rest, Dct.view, Dct.rest, Dct.held, Fw.view, Fw.rest, Fw.held]

@[simp] theorem State_twinDiscard_frame (s : State) (i c key node : Nat) (hoff : Off wt [.herds]) :
    (State.twinDiscard s i c key node).view wt = s.view wt := by
  simp at hoff
  simp [State.twinDiscard, hoff, Chip.view, Chip.rest, Pool.view, Pool.rest, Svc.view, Svc.rest, Herds.view, Herds.rest, Dct.view, Dct.rest, Dct.held, Fw.view, Fw.rest, Fw.held]

@[simp] theorem State_joinUp_frame (s : State) (h : Herd) (c : Nat) (hoff : Off wt [.page .sw 0x11, .page .sw 0x14, .core]) :
    (State.joinUp s h c).view wt = s.view wt := by
  simp at hoff
  simp [State.joinUp, hoff, Chip.view, Chip.rest, Pool.view, Pool.rest, Svc.view, Svc.rest, Herds.view, Herds.rest, Dct.view, Dct.rest, Dct.held, Fw.view, Fw.rest, Fw.held]

@[simp] theorem State_startStep_frame (s : State) (i : Nat) (moved : Bool) (hoff : Off wt [.hdr .sw, .page .sw 0x5, .page .sw 0xb, .page .sw 0x11, .page .sw 0x14, .page .sw 0x20, .page .sw 0x21, .log .sw, .ports .sw, .sync .sw, .core, .svc, .herds, .hrd, .sent]) :
    (State.startStep s i moved).view wt = s.view wt := by
  simp at hoff
  unfold State.startStep; (try simp only [sw_beq_ep, ep_beq_sw, sw_beq_sw, ep_beq_ep, Bool.false_eq_true, Bool.true_and, Bool.false_and, if_true, if_false]); repeat' (first | contradiction | (simp +decide [State.startStep, hoff, Chip.view, Chip.rest, Pool.view, Pool.rest, Svc.view, Svc.rest, Herds.view, Herds.rest, Dct.view, Dct.rest, Dct.held, Fw.view, Fw.rest, Fw.held]; done) | (intros; split) | (intros; first | refine Eq.trans (foldl_view _ _ _ fun _ _ => ?_) ?_ | refine Eq.trans (foldl_fst_view _ _ _ fun _ _ => ?_) ?_ | refine Eq.trans (when_view _ _ _ ?_) ?_) | dsimp only | simp +decide [State.startStep, hoff])

@[simp] theorem State_toMemberW_frame (s : State) (i v node op : Nat) (pre : HerdPrefix) (data : List Byte) (h : Herd) (hoff : Off wt [.page .sw 0x11, .page .sw 0x14, .core]) :
    (State.toMemberW s i v node op pre data h).view wt = s.view wt := by
  simp at hoff
  unfold State.toMemberW; (try simp only [sw_beq_ep, ep_beq_sw, sw_beq_sw, ep_beq_ep, Bool.false_eq_true, Bool.true_and, Bool.false_and, if_true, if_false]); (repeat' split) <;> (try dsimp only) <;> first | contradiction | simp +decide [State.toMemberW, hoff, Chip.view, Chip.rest, Pool.view, Pool.rest, Svc.view, Svc.rest, Herds.view, Herds.rest, Dct.view, Dct.rest, Dct.held, Fw.view, Fw.rest, Fw.held]

@[simp] theorem State_memberJoins_frame (s : State) (i node : Nat) (hoff : Off wt [.core, .herds]) :
    (State.memberJoins s i node).view wt = s.view wt := by
  simp at hoff
  simp [State.memberJoins, hoff, Chip.view, Chip.rest, Pool.view, Pool.rest, Svc.view, Svc.rest, Herds.view, Herds.rest, Dct.view, Dct.rest, Dct.held, Fw.view, Fw.rest, Fw.held]

@[simp] theorem State_resultTo_frame (s : State) (i v node op c shard : Nat) (data : List Byte) (h : Herd) (hoff : Off wt [.page .sw 0x11, .page .sw 0x14, .core]) :
    (State.resultTo s i v node op c shard data h).view wt = s.view wt := by
  simp at hoff
  simp [State.resultTo, hoff, Chip.view, Chip.rest, Pool.view, Pool.rest, Svc.view, Svc.rest, Herds.view, Herds.rest, Dct.view, Dct.rest, Dct.held, Fw.view, Fw.rest, Fw.held]

@[simp] theorem State_countsDown_frame (s : State) (i : Nat) (h : Herd) (base totals : List Nat) (hoff : Off wt [.page .sw 0x11, .page .sw 0x14, .core, .herds]) :
    (State.countsDown s i h base totals).view wt = s.view wt := by
  simp at hoff
  unfold State.countsDown; (try simp only [sw_beq_ep, ep_beq_sw, sw_beq_sw, ep_beq_ep, Bool.false_eq_true, Bool.true_and, Bool.false_and, if_true, if_false]); repeat' (first | contradiction | (simp +decide [State.countsDown, hoff, Chip.view, Chip.rest, Pool.view, Pool.rest, Svc.view, Svc.rest, Herds.view, Herds.rest, Dct.view, Dct.rest, Dct.held, Fw.view, Fw.rest, Fw.held]; done) | (intros; split) | (intros; first | refine Eq.trans (foldl_view _ _ _ fun _ _ => ?_) ?_ | refine Eq.trans (foldl_fst_view _ _ _ fun _ _ => ?_) ?_ | refine Eq.trans (when_view _ _ _ ?_) ?_) | dsimp only | simp +decide [State.countsDown, hoff])

@[simp] theorem State_signalled_frame (s : State) (i node : Nat) (hoff : Off wt [.herds]) :
    (State.signalled s i node).view wt = s.view wt := by
  simp at hoff
  simp [State.signalled, hoff, Chip.view, Chip.rest, Pool.view, Pool.rest, Svc.view, Svc.rest, Herds.view, Herds.rest, Dct.view, Dct.rest, Dct.held, Fw.view, Fw.rest, Fw.held]

@[simp] theorem State_signalMembers_frame (s : State) (i c : Nat) (hoff : Off wt [.page .sw 0x11, .page .sw 0x14, .core, .herds]) :
    (State.signalMembers s i c).view wt = s.view wt := by
  simp at hoff
  unfold State.signalMembers; (try simp only [sw_beq_ep, ep_beq_sw, sw_beq_sw, ep_beq_ep, Bool.false_eq_true, Bool.true_and, Bool.false_and, if_true, if_false]); (repeat' split) <;> (try dsimp only) <;> first | contradiction | simp +decide [State.signalMembers, hoff, Chip.view, Chip.rest, Pool.view, Pool.rest, Svc.view, Svc.rest, Herds.view, Herds.rest, Dct.view, Dct.rest, Dct.held, Fw.view, Fw.rest, Fw.held]

@[simp] theorem State_endStep_frame (s : State) (i : Nat) (hoff : Off wt [.page .sw 0x11, .page .sw 0x14, .page .sw 0x20, .page .sw 0x21, .core, .svc, .herds, .hrd]) :
    (State.endStep s i).view wt = s.view wt := by
  simp at hoff
  unfold State.endStep
  split
  · rfl
  · rename_i h _
    extract_lets rs s1 s2 s3 s4 s5
    have h1 : s1.view wt = s.view wt := foldl_view _ _ _ fun s v => by simp [hoff]
    have h2 : s2.view wt = s1.view wt := foldl_view _ _ _ fun s e => by simp [hoff]
    have h3 : s3.view wt = s2.view wt := by simp [s3, hoff]
    have h5 : s5.view wt = s3.view wt := by simp [s5, hoff]
    clear_value s5 s3 s2 s1
    rw [← h1, ← h2, ← h3, ← h5]
    exact Eq.trans (when_view _ _ _ (by simp [hoff])) (when_view _ _ _ (by simp [hoff]))

@[simp] theorem State_tryEnd_frame (s : State) (i : Nat) (hoff : Off wt [.page .sw 0x11, .page .sw 0x14, .page .sw 0x20, .page .sw 0x21, .core, .svc, .herds, .hrd]) :
    (State.tryEnd s i).view wt = s.view wt := by
  simp at hoff
  unfold State.tryEnd; (try simp only [sw_beq_ep, ep_beq_sw, sw_beq_sw, ep_beq_ep, Bool.false_eq_true, Bool.true_and, Bool.false_and, if_true, if_false]); (repeat' split) <;> (try dsimp only) <;> first | contradiction | simp +decide [State.tryEnd, hoff, Chip.view, Chip.rest, Pool.view, Pool.rest, Svc.view, Svc.rest, Herds.view, Herds.rest, Dct.view, Dct.rest, Dct.held, Fw.view, Fw.rest, Fw.held]

@[simp] theorem State_endWaiting_frame (s : State) (hoff : Off wt [.page .sw 0x11, .page .sw 0x14, .page .sw 0x20, .page .sw 0x21, .core, .svc, .herds, .hrd]) :
    (State.endWaiting s).view wt = s.view wt := by
  simp at hoff
  unfold State.endWaiting; (try simp only [sw_beq_ep, ep_beq_sw, sw_beq_sw, ep_beq_ep, Bool.false_eq_true, Bool.true_and, Bool.false_and, if_true, if_false]); repeat' (first | contradiction | (simp +decide [State.endWaiting, hoff, Chip.view, Chip.rest, Pool.view, Pool.rest, Svc.view, Svc.rest, Herds.view, Herds.rest, Dct.view, Dct.rest, Dct.held, Fw.view, Fw.rest, Fw.held]; done) | (intros; split) | (intros; first | refine Eq.trans (foldl_view _ _ _ fun _ _ => ?_) ?_ | refine Eq.trans (foldl_fst_view _ _ _ fun _ _ => ?_) ?_ | refine Eq.trans (when_view _ _ _ ?_) ?_) | dsimp only | simp +decide [State.endWaiting, hoff])

@[simp] theorem State_herdDue_frame (s : State) (i : Nat) (hoff : Off wt [.hdr .sw, .page .sw 0x5, .page .sw 0xb, .page .sw 0x11, .page .sw 0x14, .page .sw 0x20, .page .sw 0x21, .log .sw, .ports .sw, .sync .sw, .core, .svc, .herds, .hrd, .sent]) :
    (State.herdDue s i).view wt = s.view wt := by
  simp at hoff
  unfold State.herdDue; (try simp only [sw_beq_ep, ep_beq_sw, sw_beq_sw, ep_beq_ep, Bool.false_eq_true, Bool.true_and, Bool.false_and, if_true, if_false]); (repeat' split) <;> (try dsimp only) <;> first | contradiction | simp +decide [State.herdDue, hoff, Chip.view, Chip.rest, Pool.view, Pool.rest, Svc.view, Svc.rest, Herds.view, Herds.rest, Dct.view, Dct.rest, Dct.held, Fw.view, Fw.rest, Fw.held]

@[simp] theorem State_chunkLeft_frame (s : State) (i c : Nat) (hoff : Off wt [.page .sw 0x11, .page .sw 0x14, .page .sw 0x20, .page .sw 0x21, .sync .sw, .core, .svc, .herds, .hrd]) :
    (State.chunkLeft s i c).view wt = s.view wt := by
  simp at hoff
  unfold State.chunkLeft; (try simp only [sw_beq_ep, ep_beq_sw, sw_beq_sw, ep_beq_ep, Bool.false_eq_true, Bool.true_and, Bool.false_and, if_true, if_false]); (repeat' split) <;> (try dsimp only) <;> first | contradiction | simp +decide [State.chunkLeft, hoff, Chip.view, Chip.rest, Pool.view, Pool.rest, Svc.view, Svc.rest, Herds.view, Herds.rest, Dct.view, Dct.rest, Dct.held, Fw.view, Fw.rest, Fw.held]

@[simp] theorem State_deliverDown_frame (s : State) (i c shard : Nat) (data : List Byte) (hoff : Off wt [.page .sw 0x11, .page .sw 0x14, .page .sw 0x20, .page .sw 0x21, .sync .sw, .core, .svc, .herds, .hrd]) :
    (State.deliverDown s i c shard data).view wt = s.view wt := by
  simp at hoff
  unfold State.deliverDown
  split
  · rfl
  · rename_i h _
    extract_lets ds s1 x y s2 need
    have h1 : s1.view wt = s.view wt := by
      refine foldl_view _ _ _ fun s v => ?_
      try dsimp only
      split
      · exact foldl_view _ _ _ fun s e => by simp [hoff]
      · split
        · rfl
        · refine foldl_view _ _ _ fun s n => ?_
          split <;> simp [hoff]
    have h2 : s2.view wt = s1.view wt := by simp [s2, hoff]
    clear_value s1 x y need
    rw [← h1, ← h2]
    clear_value s2
    split <;> simp [hoff]

@[simp] theorem State_sendUp_frame (s : State) (u op c shard : Nat) (data : List Byte) (h : Herd) (hoff : Off wt [.page .sw 0x11, .page .sw 0x14, .core]) :
    (State.sendUp s u op c shard data h).view wt = s.view wt := by
  simp at hoff
  simp [State.sendUp, hoff, Chip.view, Chip.rest, Pool.view, Pool.rest, Svc.view, Svc.rest, Herds.view, Herds.rest, Dct.view, Dct.rest, Dct.held, Fw.view, Fw.rest, Fw.held]

@[simp] theorem State_progLoads_frame (s : State) (i c : Nat) (h : Herd) (a : Attach) (hoff : Off wt [.hdr .sw, .page .sw 0x5, .page .sw 0xb, .page .sw 0x11, .page .sw 0x13, .page .sw 0x14, .page .sw 0x20, .page .sw 0x21, .page .sw 0x30, .page .sw 0x31, .page .sw 0x32, .page .sw 0x40, .page .sw 0x50, .page .sw 0x300, .log .sw, .ports .sw, .sync .sw, .core, .mem, .pool, .svc, .herds, .hrd, .host, .sent, .free]) :
    (State.progLoads s i c h a).view wt = s.view wt := by
  simp at hoff
  simp [State.progLoads, hoff, Chip.view, Chip.rest, Pool.view, Pool.rest, Svc.view, Svc.rest, Herds.view, Herds.rest, Dct.view, Dct.rest, Dct.held, Fw.view, Fw.rest, Fw.held]

@[simp] theorem State_regionLoads_frame (s : State) (i c : Nat) (h : Herd) (g : Region) (hoff : Off wt [.hdr .sw, .page .sw 0x5, .page .sw 0xb, .page .sw 0x11, .page .sw 0x13, .page .sw 0x14, .page .sw 0x20, .page .sw 0x21, .page .sw 0x30, .page .sw 0x31, .page .sw 0x32, .page .sw 0x40, .page .sw 0x50, .page .sw 0x300, .log .sw, .ports .sw, .sync .sw, .core, .mem, .pool, .svc, .herds, .hrd, .host, .sent, .free]) :
    (State.regionLoads s i c h g).view wt = s.view wt := by
  simp at hoff
  simp [State.regionLoads, hoff, Chip.view, Chip.rest, Pool.view, Pool.rest, Svc.view, Svc.rest, Herds.view, Herds.rest, Dct.view, Dct.rest, Dct.held, Fw.view, Fw.rest, Fw.held]

@[simp] theorem State_reduceChunk_frame (s : State) (i c core : Nat) (h : Herd) (hoff : Off wt [.hdr .sw, .page .sw 0x5, .page .sw 0xb, .page .sw 0x11, .page .sw 0x13, .page .sw 0x14, .page .sw 0x20, .page .sw 0x21, .page .sw 0x30, .page .sw 0x31, .page .sw 0x32, .page .sw 0x40, .page .sw 0x50, .page .sw 0x300, .log .sw, .ports .sw, .sync .sw, .core, .mem, .pool, .svc, .herds, .hrd, .host, .sent, .free]) :
    (State.reduceChunk s i c core h).view wt = s.view wt := by
  simp at hoff
  unfold State.reduceChunk; (try simp only [sw_beq_ep, ep_beq_sw, sw_beq_sw, ep_beq_ep, Bool.false_eq_true, Bool.true_and, Bool.false_and, if_true, if_false]); (repeat' split) <;> (try dsimp only) <;> first | contradiction | simp +decide [State.reduceChunk, hoff, Chip.view, Chip.rest, Pool.view, Pool.rest, Svc.view, Svc.rest, Herds.view, Herds.rest, Dct.view, Dct.rest, Dct.held, Fw.view, Fw.rest, Fw.held]

@[simp] theorem State_moveChunk_frame (s : State) (i c : Nat) (h : Herd) (hoff : Off wt [.page .sw 0x11, .page .sw 0x14, .page .sw 0x20, .page .sw 0x21, .sync .sw, .core, .svc, .herds, .hrd]) :
    (State.moveChunk s i c h).view wt = s.view wt := by
  simp at hoff
  simp [State.moveChunk, hoff, Chip.view, Chip.rest, Pool.view, Pool.rest, Svc.view, Svc.rest, Herds.view, Herds.rest, Dct.view, Dct.rest, Dct.held, Fw.view, Fw.rest, Fw.held]

@[simp] theorem State_regionChunk_frame (s : State) (i c : Nat) (h : Herd) (g : Region) (hoff : Off wt [.hdr .sw, .page .sw 0x5, .page .sw 0xb, .page .sw 0x11, .page .sw 0x13, .page .sw 0x14, .page .sw 0x20, .page .sw 0x21, .page .sw 0x30, .page .sw 0x31, .page .sw 0x32, .page .sw 0x40, .page .sw 0x50, .page .sw 0x300, .log .sw, .ports .sw, .sync .sw, .core, .mem, .pool, .svc, .herds, .hrd, .host, .sent, .free]) :
    (State.regionChunk s i c h g).view wt = s.view wt := by
  simp at hoff
  unfold State.regionChunk; (try simp only [sw_beq_ep, ep_beq_sw, sw_beq_sw, ep_beq_ep, Bool.false_eq_true, Bool.true_and, Bool.false_and, if_true, if_false]); (repeat' split) <;> (try dsimp only) <;> first | contradiction | simp +decide [State.regionChunk, hoff, Chip.view, Chip.rest, Pool.view, Pool.rest, Svc.view, Svc.rest, Herds.view, Herds.rest, Dct.view, Dct.rest, Dct.held, Fw.view, Fw.rest, Fw.held]

@[simp] theorem State_settleTwins_frame (s : State) (i c : Nat) (hoff : Off wt [.herds]) :
    (State.settleTwins s i c).view wt = s.view wt := by
  simp at hoff
  unfold State.settleTwins; (try simp only [sw_beq_ep, ep_beq_sw, sw_beq_sw, ep_beq_ep, Bool.false_eq_true, Bool.true_and, Bool.false_and, if_true, if_false]); repeat' (first | contradiction | (simp +decide [State.settleTwins, hoff, Chip.view, Chip.rest, Pool.view, Pool.rest, Svc.view, Svc.rest, Herds.view, Herds.rest, Dct.view, Dct.rest, Dct.held, Fw.view, Fw.rest, Fw.held]; done) | (intros; split) | (intros; first | refine Eq.trans (foldl_view _ _ _ fun _ _ => ?_) ?_ | refine Eq.trans (foldl_fst_view _ _ _ fun _ _ => ?_) ?_ | refine Eq.trans (when_view _ _ _ ?_) ?_) | dsimp only | simp +decide [State.settleTwins, hoff])

theorem chunkReduced_frame (i c core : Nat) (s : State) (hoff : Off wt [.hdr .sw, .page .sw 0x5, .page .sw 0xb, .page .sw 0x11, .page .sw 0x13, .page .sw 0x14, .page .sw 0x20, .page .sw 0x21, .page .sw 0x30, .page .sw 0x31, .page .sw 0x32, .page .sw 0x40, .page .sw 0x50, .page .sw 0x300, .log .sw, .ports .sw, .sync .sw, .core, .mem, .pool, .svc, .herds, .hrd, .host, .sent, .free]) :
    (chunkReduced i c core s).view wt = s.view wt := by
  simp at hoff
  unfold chunkReduced; (try simp only [sw_beq_ep, ep_beq_sw, sw_beq_sw, ep_beq_ep, Bool.false_eq_true, Bool.true_and, Bool.false_and, if_true, if_false]); (repeat' split) <;> (try dsimp only) <;> first | contradiction | simp +decide [chunkReduced, hoff, Chip.view, Chip.rest, Pool.view, Pool.rest, Svc.view, Svc.rest, Herds.view, Herds.rest, Dct.view, Dct.rest, Dct.held, Fw.view, Fw.rest, Fw.held]

@[simp] theorem State_toldAborted_frame (s : State) (i v : Nat) (h : Herd) (k : Packet) (hoff : Off wt [.page .sw 0x11, .page .sw 0x14, .core]) :
    (State.toldAborted s i v h k).view wt = s.view wt := by
  simp at hoff
  simp [State.toldAborted, hoff, Chip.view, Chip.rest, Pool.view, Pool.rest, Svc.view, Svc.rest, Herds.view, Herds.rest, Dct.view, Dct.rest, Dct.held, Fw.view, Fw.rest, Fw.held]

@[simp] theorem State_refuseMoved_frame (s : State) (i v : Nat) (h : Herd) (k : Packet) (hoff : Off wt [.page .sw 0x11, .page .sw 0x14, .core, .herds]) :
    (State.refuseMoved s i v h k).view wt = s.view wt := by
  simp at hoff
  simp [State.refuseMoved, hoff, Chip.view, Chip.rest, Pool.view, Pool.rest, Svc.view, Svc.rest, Herds.view, Herds.rest, Dct.view, Dct.rest, Dct.held, Fw.view, Fw.rest, Fw.held]

@[simp] theorem State_stalePacket_frame (s : State) (i : Nat) (hoff : Off wt [.herds]) :
    (State.stalePacket s i).view wt = s.view wt := by
  simp at hoff
  simp [State.stalePacket, hoff, Chip.view, Chip.rest, Pool.view, Pool.rest, Svc.view, Svc.rest, Herds.view, Herds.rest, Dct.view, Dct.rest, Dct.held, Fw.view, Fw.rest, Fw.held]

@[simp] theorem State_staleMember_frame (s : State) (i v : Nat) (h : Herd) (k : Packet) (hoff : Off wt [.page .sw 0x11, .page .sw 0x14, .core, .herds]) :
    (State.staleMember s i v h k).view wt = s.view wt := by
  simp at hoff
  unfold State.staleMember; (try simp only [sw_beq_ep, ep_beq_sw, sw_beq_sw, ep_beq_ep, Bool.false_eq_true, Bool.true_and, Bool.false_and, if_true, if_false]); (repeat' split) <;> (try dsimp only) <;> first | contradiction | simp +decide [State.staleMember, hoff, Chip.view, Chip.rest, Pool.view, Pool.rest, Svc.view, Svc.rest, Herds.view, Herds.rest, Dct.view, Dct.rest, Dct.held, Fw.view, Fw.rest, Fw.held]

@[simp] theorem State_earlyPacket_frame (s : State) (hoff : Off wt [.hdr .sw]) :
    (State.earlyPacket s).view wt = s.view wt := by
  simp at hoff
  simp [State.earlyPacket, hoff, Chip.view, Chip.rest, Pool.view, Pool.rest, Svc.view, Svc.rest, Herds.view, Herds.rest, Dct.view, Dct.rest, Dct.held, Fw.view, Fw.rest, Fw.held]

@[simp] theorem State_takeUp_frame (s : State) (i : Nat) (k : Packet) (hoff : Off wt [.herds]) :
    (State.takeUp s i k).view wt = s.view wt := by
  simp at hoff
  simp [State.takeUp, hoff, Chip.view, Chip.rest, Pool.view, Pool.rest, Svc.view, Svc.rest, Herds.view, Herds.rest, Dct.view, Dct.rest, Dct.held, Fw.view, Fw.rest, Fw.held]

@[simp] theorem State_memberCheck_frame (s : State) (k : Packet) (f : Nat → Herd → Nat → Nat → State → State) (hoff : Off wt [.hdr .sw, .page .sw 0x5, .page .sw 0xb, .page .sw 0x11, .page .sw 0x14, .page .sw 0x20, .page .sw 0x21, .log .sw, .ports .sw, .sync .sw, .core, .svc, .herds, .hrd, .sent]) (hf : ∀ a0 a1 a2 a3 s, (f a0 a1 a2 a3 s).view wt = s.view wt) :
    (State.memberCheck s k f).view wt = s.view wt := by
  simp at hoff
  unfold State.memberCheck; (try simp only [sw_beq_ep, ep_beq_sw, sw_beq_sw, ep_beq_ep, Bool.false_eq_true, Bool.true_and, Bool.false_and, if_true, if_false]); (repeat' split) <;> (try dsimp only) <;> first | contradiction | simp +decide [State.memberCheck, hoff, hf, Chip.view, Chip.rest, Pool.view, Pool.rest, Svc.view, Svc.rest, Herds.view, Herds.rest, Dct.view, Dct.rest, Dct.held, Fw.view, Fw.rest, Fw.held]

@[simp] theorem State_memberGuard_frame (s : State) (k : Packet) (f : Nat → Nat → Nat → State → State) (hoff : Off wt [.hdr .sw, .page .sw 0x5, .page .sw 0xb, .page .sw 0x11, .page .sw 0x14, .page .sw 0x20, .page .sw 0x21, .log .sw, .ports .sw, .sync .sw, .core, .svc, .herds, .hrd, .sent]) (hf : ∀ a0 a1 a2 s, (f a0 a1 a2 s).view wt = s.view wt) :
    (State.memberGuard s k f).view wt = s.view wt := by
  simp at hoff
  unfold State.memberGuard
  refine State_memberCheck_frame _ _ _ (by simp [hoff]) fun i h v place s => ?_
  dsimp only
  (repeat' split) <;> simp [hf, hoff]

@[simp] theorem State_addPiece_frame (s : State) (i v place c ix : Nat) (node : Nat) (data : List Byte) (hoff : Off wt [.herds]) :
    (State.addPiece s i v place c ix node data).view wt = s.view wt := by
  simp at hoff
  unfold State.addPiece; (try simp only [sw_beq_ep, ep_beq_sw, sw_beq_sw, ep_beq_ep, Bool.false_eq_true, Bool.true_and, Bool.false_and, if_true, if_false]); (repeat' split) <;> (try dsimp only) <;> first | contradiction | simp +decide [State.addPiece, hoff, Chip.view, Chip.rest, Pool.view, Pool.rest, Svc.view, Svc.rest, Herds.view, Herds.rest, Dct.view, Dct.rest, Dct.held, Fw.view, Fw.rest, Fw.held]

theorem herdContrib_frame (k : Packet) (s : State) (hoff : Off wt [.hdr .sw, .page .sw 0x5, .page .sw 0xb, .page .sw 0x11, .page .sw 0x14, .page .sw 0x20, .page .sw 0x21, .log .sw, .ports .sw, .sync .sw, .core, .svc, .herds, .hrd, .sent]) :
    (herdContrib k s).view wt = s.view wt := by
  simp at hoff
  unfold herdContrib; (try simp only [sw_beq_ep, ep_beq_sw, sw_beq_sw, ep_beq_ep, Bool.false_eq_true, Bool.true_and, Bool.false_and, if_true, if_false]); repeat' (first | contradiction | (simp +decide [herdContrib, hoff, Chip.view, Chip.rest, Pool.view, Pool.rest, Svc.view, Svc.rest, Herds.view, Herds.rest, Dct.view, Dct.rest, Dct.held, Fw.view, Fw.rest, Fw.held]; done) | (intros; split) | (intros; first | refine Eq.trans (State_memberGuard_frame _ _ _ (by simp [hoff]) (fun _ _ _ _ => ?_)) ?_ | refine Eq.trans (foldl_view _ _ _ fun _ _ => ?_) ?_ | refine Eq.trans (foldl_fst_view _ _ _ fun _ _ => ?_) ?_ | refine Eq.trans (when_view _ _ _ ?_) ?_) | dsimp only | simp +decide [herdContrib, hoff])

@[simp] theorem State_sigMismatch_frame (s : State) (hoff : Off wt [.page .sw 0x20]) :
    (State.sigMismatch s).view wt = s.view wt := by
  simp at hoff
  simp [State.sigMismatch, hoff, Chip.view, Chip.rest, Pool.view, Pool.rest, Svc.view, Svc.rest, Herds.view, Herds.rest, Dct.view, Dct.rest, Dct.held, Fw.view, Fw.rest, Fw.held]

@[simp] theorem State_childGuard_frame (s : State) (k : Packet) (f : Nat → Nat → State → State) (hoff : Off wt [.hdr .sw, .page .sw 0x5, .page .sw 0xb, .page .sw 0x11, .page .sw 0x14, .page .sw 0x20, .page .sw 0x21, .log .sw, .ports .sw, .sync .sw, .core, .svc, .herds, .hrd, .sent]) (hf : ∀ a0 a1 s, (f a0 a1 s).view wt = s.view wt) :
    (State.childGuard s k f).view wt = s.view wt := by
  simp at hoff
  unfold State.childGuard; (try simp only [sw_beq_ep, ep_beq_sw, sw_beq_sw, ep_beq_ep, Bool.false_eq_true, Bool.true_and, Bool.false_and, if_true, if_false]); (repeat' split) <;> (try dsimp only) <;> first | contradiction | simp +decide [State.childGuard, hoff, hf, Chip.view, Chip.rest, Pool.view, Pool.rest, Svc.view, Svc.rest, Herds.view, Herds.rest, Dct.view, Dct.rest, Dct.held, Fw.view, Fw.rest, Fw.held]

@[simp] theorem State_addPartial_frame (s : State) (i v : Nat) (k : Packet) (c shard : Nat) (data : List Byte) (hoff : Off wt [.herds]) :
    (State.addPartial s i v k c shard data).view wt = s.view wt := by
  simp at hoff
  unfold State.addPartial; (try simp only [sw_beq_ep, ep_beq_sw, sw_beq_sw, ep_beq_ep, Bool.false_eq_true, Bool.true_and, Bool.false_and, if_true, if_false]); (repeat' split) <;> (try dsimp only) <;> first | contradiction | simp +decide [State.addPartial, hoff, Chip.view, Chip.rest, Pool.view, Pool.rest, Svc.view, Svc.rest, Herds.view, Herds.rest, Dct.view, Dct.rest, Dct.held, Fw.view, Fw.rest, Fw.held]

theorem herdPartial_frame (k : Packet) (s : State) (hoff : Off wt [.hdr .sw, .page .sw 0x5, .page .sw 0xb, .page .sw 0x11, .page .sw 0x14, .page .sw 0x20, .page .sw 0x21, .log .sw, .ports .sw, .sync .sw, .core, .svc, .herds, .hrd, .sent]) :
    (herdPartial k s).view wt = s.view wt := by
  simp at hoff
  simp [herdPartial, hoff, Chip.view, Chip.rest, Pool.view, Pool.rest, Svc.view, Svc.rest, Herds.view, Herds.rest, Dct.view, Dct.rest, Dct.held, Fw.view, Fw.rest, Fw.held]

theorem herdJoin_frame (k : Packet) (s : State) (hoff : Off wt [.hdr .sw, .page .sw 0x5, .page .sw 0xb, .page .sw 0x11, .page .sw 0x14, .page .sw 0x20, .page .sw 0x21, .log .sw, .ports .sw, .sync .sw, .core, .svc, .herds, .hrd, .sent]) :
    (herdJoin k s).view wt = s.view wt := by
  simp at hoff
  unfold herdJoin; (try simp only [sw_beq_ep, ep_beq_sw, sw_beq_sw, ep_beq_ep, Bool.false_eq_true, Bool.true_and, Bool.false_and, if_true, if_false]); repeat' (first | contradiction | (simp +decide [herdJoin, hoff, Chip.view, Chip.rest, Pool.view, Pool.rest, Svc.view, Svc.rest, Herds.view, Herds.rest, Dct.view, Dct.rest, Dct.held, Fw.view, Fw.rest, Fw.held]; done) | (intros; split) | (intros; first | refine Eq.trans (State_childGuard_frame _ _ _ (by simp [hoff]) (fun _ _ _ => ?_)) ?_ | refine Eq.trans (State_memberGuard_frame _ _ _ (by simp [hoff]) (fun _ _ _ _ => ?_)) ?_ | refine Eq.trans (foldl_view _ _ _ fun _ _ => ?_) ?_ | refine Eq.trans (foldl_fst_view _ _ _ fun _ _ => ?_) ?_ | refine Eq.trans (when_view _ _ _ ?_) ?_) | dsimp only | simp +decide [herdJoin, hoff])

@[simp] theorem State_parentGuard_frame (s : State) (k : Packet) (starts : Bool) (f : Nat → Nat → State → State) (hoff : Off wt [.hdr .sw, .page .sw 0x5, .page .sw 0xb, .page .sw 0x11, .page .sw 0x14, .page .sw 0x20, .page .sw 0x21, .log .sw, .ports .sw, .sync .sw, .core, .svc, .herds, .hrd, .sent]) (hf : ∀ a0 a1 s, (f a0 a1 s).view wt = s.view wt) :
    (State.parentGuard s k starts f).view wt = s.view wt := by
  simp at hoff
  unfold State.parentGuard; (try simp only [sw_beq_ep, ep_beq_sw, sw_beq_sw, ep_beq_ep, Bool.false_eq_true, Bool.true_and, Bool.false_and, if_true, if_false]); (repeat' split) <;> (try dsimp only) <;> first | contradiction | simp +decide [State.parentGuard, hoff, hf, Chip.view, Chip.rest, Pool.view, Pool.rest, Svc.view, Svc.rest, Herds.view, Herds.rest, Dct.view, Dct.rest, Dct.held, Fw.view, Fw.rest, Fw.held]

@[simp] theorem State_collectDown_frame (s : State) (i : Nat) (k : Packet) (c shard size : Nat) (hoff : Off wt [.herds]) :
    (State.collectDown s i k c shard size).1.view wt = s.view wt := by
  simp at hoff
  unfold State.collectDown; (try simp only [sw_beq_ep, ep_beq_sw, sw_beq_sw, ep_beq_ep, Bool.false_eq_true, Bool.true_and, Bool.false_and, if_true, if_false]); (repeat' split) <;> (try dsimp only) <;> first | contradiction | simp +decide [State.collectDown, hoff, Chip.view, Chip.rest, Pool.view, Pool.rest, Svc.view, Svc.rest, Herds.view, Herds.rest, Dct.view, Dct.rest, Dct.held, Fw.view, Fw.rest, Fw.held]

@[simp] theorem State_herdResultSw_frame (s : State) (k : Packet) (hoff : Off wt [.hdr .sw, .page .sw 0x5, .page .sw 0xb, .page .sw 0x11, .page .sw 0x14, .page .sw 0x20, .page .sw 0x21, .log .sw, .ports .sw, .sync .sw, .core, .svc, .herds, .hrd, .sent]) :
    (State.herdResultSw s k).view wt = s.view wt := by
  simp at hoff
  unfold State.herdResultSw; (try simp only [sw_beq_ep, ep_beq_sw, sw_beq_sw, ep_beq_ep, Bool.false_eq_true, Bool.true_and, Bool.false_and, if_true, if_false]); repeat' (first | contradiction | (simp +decide [State.herdResultSw, hoff, Chip.view, Chip.rest, Pool.view, Pool.rest, Svc.view, Svc.rest, Herds.view, Herds.rest, Dct.view, Dct.rest, Dct.held, Fw.view, Fw.rest, Fw.held]; done) | (intros; split) | (intros; first | refine Eq.trans (State_parentGuard_frame _ _ _ _ (by simp [hoff]) (fun _ _ _ => ?_)) ?_ | refine Eq.trans (foldl_view _ _ _ fun _ _ => ?_) ?_ | refine Eq.trans (foldl_fst_view _ _ _ fun _ _ => ?_) ?_ | refine Eq.trans (when_view _ _ _ ?_) ?_) | dsimp only | simp +decide [State.herdResultSw, hoff])

@[simp] theorem State_countsFromUp_frame (s : State) (i : Nat) (k : Packet) (hoff : Off wt [.page .sw 0x11, .page .sw 0x14, .page .sw 0x20, .page .sw 0x21, .sync .sw, .core, .svc, .herds, .hrd]) :
    (State.countsFromUp s i k).view wt = s.view wt := by
  simp at hoff
  unfold State.countsFromUp; (try simp only [sw_beq_ep, ep_beq_sw, sw_beq_sw, ep_beq_ep, Bool.false_eq_true, Bool.true_and, Bool.false_and, if_true, if_false]); (repeat' split) <;> (try dsimp only) <;> first | contradiction | simp +decide [State.countsFromUp, hoff, Chip.view, Chip.rest, Pool.view, Pool.rest, Svc.view, Svc.rest, Herds.view, Herds.rest, Dct.view, Dct.rest, Dct.held, Fw.view, Fw.rest, Fw.held]

@[simp] theorem State_countsOfMember_frame (s : State) (i v place : Nat) (k : Packet) (hoff : Off wt [.herds]) :
    (State.countsOfMember s i v place k).view wt = s.view wt := by
  simp at hoff
  unfold State.countsOfMember; (try simp only [sw_beq_ep, ep_beq_sw, sw_beq_sw, ep_beq_ep, Bool.false_eq_true, Bool.true_and, Bool.false_and, if_true, if_false]); (repeat' split) <;> (try dsimp only) <;> first | contradiction | simp +decide [State.countsOfMember, hoff, Chip.view, Chip.rest, Pool.view, Pool.rest, Svc.view, Svc.rest, Herds.view, Herds.rest, Dct.view, Dct.rest, Dct.held, Fw.view, Fw.rest, Fw.held]

@[simp] theorem State_herdCountsSw_frame (s : State) (k : Packet) (hoff : Off wt [.hdr .sw, .page .sw 0x5, .page .sw 0xb, .page .sw 0x11, .page .sw 0x14, .page .sw 0x20, .page .sw 0x21, .log .sw, .ports .sw, .sync .sw, .core, .svc, .herds, .hrd, .sent]) :
    (State.herdCountsSw s k).view wt = s.view wt := by
  simp at hoff
  unfold State.herdCountsSw; (try simp only [sw_beq_ep, ep_beq_sw, sw_beq_sw, ep_beq_ep, Bool.false_eq_true, Bool.true_and, Bool.false_and, if_true, if_false]); repeat' (first | contradiction | (simp +decide [State.herdCountsSw, hoff, Chip.view, Chip.rest, Pool.view, Pool.rest, Svc.view, Svc.rest, Herds.view, Herds.rest, Dct.view, Dct.rest, Dct.held, Fw.view, Fw.rest, Fw.held]; done) | (intros; split) | (intros; first | refine Eq.trans (State_parentGuard_frame _ _ _ _ (by simp [hoff]) (fun _ _ _ => ?_)) ?_ | refine Eq.trans (State_childGuard_frame _ _ _ (by simp [hoff]) (fun _ _ _ => ?_)) ?_ | refine Eq.trans (State_memberGuard_frame _ _ _ (by simp [hoff]) (fun _ _ _ _ => ?_)) ?_ | refine Eq.trans (foldl_view _ _ _ fun _ _ => ?_) ?_ | refine Eq.trans (foldl_fst_view _ _ _ fun _ _ => ?_) ?_ | refine Eq.trans (when_view _ _ _ ?_) ?_) | dsimp only | simp +decide [State.herdCountsSw, hoff])

@[simp] theorem State_herdCplSw_frame (s : State) (k : Packet) (hoff : Off wt [.hdr .sw, .page .sw 0x5, .page .sw 0xb, .page .sw 0x11, .page .sw 0x14, .page .sw 0x20, .page .sw 0x21, .log .sw, .ports .sw, .sync .sw, .core, .svc, .herds, .hrd, .sent]) :
    (State.herdCplSw s k).view wt = s.view wt := by
  simp at hoff
  simp [State.herdCplSw, hoff, Chip.view, Chip.rest, Pool.view, Pool.rest, Svc.view, Svc.rest, Herds.view, Herds.rest, Dct.view, Dct.rest, Dct.held, Fw.view, Fw.rest, Fw.held]

@[simp] theorem State_requestAbort_frame (s : State) (i reason : Nat) (fo : Bool) (hoff : Off wt [.hdr .sw, .page .sw 0x5, .page .sw 0xb, .page .sw 0x11, .page .sw 0x14, .page .sw 0x20, .page .sw 0x21, .log .sw, .ports .sw, .sync .sw, .core, .svc, .herds, .hrd, .sent]) :
    (State.requestAbort s i reason fo).view wt = s.view wt := by
  simp at hoff
  unfold State.requestAbort; (try simp only [sw_beq_ep, ep_beq_sw, sw_beq_sw, ep_beq_ep, Bool.false_eq_true, Bool.true_and, Bool.false_and, if_true, if_false]); (repeat' split) <;> (try dsimp only) <;> first | contradiction | simp +decide [State.requestAbort, hoff, Chip.view, Chip.rest, Pool.view, Pool.rest, Svc.view, Svc.rest, Herds.view, Herds.rest, Dct.view, Dct.rest, Dct.held, Fw.view, Fw.rest, Fw.held]

@[simp] theorem State_takeDecision_frame (s : State) (i u reason : Nat) (fo : Bool) (hoff : Off wt [.hdr .sw, .page .sw 0x5, .page .sw 0xb, .page .sw 0x11, .page .sw 0x14, .page .sw 0x20, .page .sw 0x21, .log .sw, .ports .sw, .sync .sw, .core, .svc, .herds, .hrd, .sent]) :
    (State.takeDecision s i u reason fo).view wt = s.view wt := by
  simp at hoff
  unfold State.takeDecision; (try simp only [sw_beq_ep, ep_beq_sw, sw_beq_sw, ep_beq_ep, Bool.false_eq_true, Bool.true_and, Bool.false_and, if_true, if_false]); (repeat' split) <;> (try dsimp only) <;> first | contradiction | simp +decide [State.takeDecision, hoff, Chip.view, Chip.rest, Pool.view, Pool.rest, Svc.view, Svc.rest, Herds.view, Herds.rest, Dct.view, Dct.rest, Dct.held, Fw.view, Fw.rest, Fw.held]

@[simp] theorem State_relayLoss_frame (s : State) (k : Packet) (hoff : Off wt [.hdr .sw, .page .sw 0x5, .page .sw 0xb, .page .sw 0x11, .page .sw 0x14, .page .sw 0x20, .page .sw 0x21, .log .sw, .ports .sw, .sync .sw, .core, .svc, .herds, .hrd, .sent]) :
    (State.relayLoss s k).view wt = s.view wt := by
  simp at hoff
  unfold State.relayLoss; (try simp only [sw_beq_ep, ep_beq_sw, sw_beq_sw, ep_beq_ep, Bool.false_eq_true, Bool.true_and, Bool.false_and, if_true, if_false]); repeat' (first | contradiction | (simp +decide [State.relayLoss, hoff, Chip.view, Chip.rest, Pool.view, Pool.rest, Svc.view, Svc.rest, Herds.view, Herds.rest, Dct.view, Dct.rest, Dct.held, Fw.view, Fw.rest, Fw.held]; done) | (intros; split) | (intros; first | refine Eq.trans (foldl_view _ _ _ fun _ _ => ?_) ?_ | refine Eq.trans (foldl_fst_view _ _ _ fun _ _ => ?_) ?_ | refine Eq.trans (when_view _ _ _ ?_) ?_) | dsimp only | simp +decide [State.relayLoss, hoff])

@[simp] theorem State_herdCheck_frame (s : State) (k : Packet) (f : Nat → Herd → State → State) (hoff : Off wt [.hdr .sw, .page .sw 0x5, .page .sw 0xb, .page .sw 0x11, .page .sw 0x14, .page .sw 0x20, .page .sw 0x21, .log .sw, .ports .sw, .sync .sw, .core, .svc, .herds, .hrd, .sent]) (hf : ∀ a0 a1 s, (f a0 a1 s).view wt = s.view wt) :
    (State.herdCheck s k f).view wt = s.view wt := by
  simp at hoff
  unfold State.herdCheck; (try simp only [sw_beq_ep, ep_beq_sw, sw_beq_sw, ep_beq_ep, Bool.false_eq_true, Bool.true_and, Bool.false_and, if_true, if_false]); (repeat' split) <;> (try dsimp only) <;> first | contradiction | simp +decide [State.herdCheck, hoff, hf, Chip.view, Chip.rest, Pool.view, Pool.rest, Svc.view, Svc.rest, Herds.view, Herds.rest, Dct.view, Dct.rest, Dct.held, Fw.view, Fw.rest, Fw.held]

@[simp] theorem State_herdAbortSw_frame (s : State) (k : Packet) (hoff : Off wt [.hdr .sw, .page .sw 0x5, .page .sw 0xb, .page .sw 0x11, .page .sw 0x14, .page .sw 0x20, .page .sw 0x21, .log .sw, .ports .sw, .sync .sw, .core, .svc, .herds, .hrd, .sent]) :
    (State.herdAbortSw s k).view wt = s.view wt := by
  simp at hoff
  unfold State.herdAbortSw
  dsimp only
  split
  · split <;> simp [hoff]
  · split
    · refine State_herdCheck_frame _ _ _ (by simp [hoff]) fun i h s => ?_
      (repeat' split) <;> simp [hoff]
    · refine State_memberCheck_frame _ _ _ (by simp [hoff]) fun i h v place s => ?_
      split <;> simp [hoff]

@[simp] theorem State_acknowledged_frame (s : State) (i n : Nat) (hoff : Off wt [.page .sw 0x11, .page .sw 0x14, .page .sw 0x20, .page .sw 0x21, .core, .svc, .herds, .hrd]) :
    (State.acknowledged s i n).view wt = s.view wt := by
  simp at hoff
  unfold State.acknowledged; (try simp only [sw_beq_ep, ep_beq_sw, sw_beq_sw, ep_beq_ep, Bool.false_eq_true, Bool.true_and, Bool.false_and, if_true, if_false]); (repeat' split) <;> (try dsimp only) <;> first | contradiction | simp +decide [State.acknowledged, hoff, Chip.view, Chip.rest, Pool.view, Pool.rest, Svc.view, Svc.rest, Herds.view, Herds.rest, Dct.view, Dct.rest, Dct.held, Fw.view, Fw.rest, Fw.held]

theorem herdAckReceive_frame (k : Packet) (s : State) (hoff : Off wt [.hdr .sw, .page .sw 0x5, .page .sw 0xb, .page .sw 0x11, .page .sw 0x14, .page .sw 0x20, .page .sw 0x21, .log .sw, .ports .sw, .sync .sw, .core, .svc, .herds, .hrd, .sent]) :
    (herdAckReceive k s).view wt = s.view wt := by
  simp at hoff
  unfold herdAckReceive
  split
  · refine State_herdCheck_frame _ _ _ (by simp [hoff]) fun i h s => ?_
    (repeat' split) <;> simp [hoff]
  · refine State_memberCheck_frame _ _ _ (by simp [hoff]) fun i h v place s => ?_
    split <;> simp [hoff]

theorem herdTimerExpiry_frame (i : Nat) (s : State) (hoff : Off wt [.hdr .sw, .page .sw 0x5, .page .sw 0xb, .page .sw 0x11, .page .sw 0x14, .page .sw 0x20, .page .sw 0x21, .log .sw, .ports .sw, .sync .sw, .core, .svc, .herds, .hrd, .sent]) :
    (herdTimerExpiry i s).view wt = s.view wt := by
  simp at hoff
  unfold herdTimerExpiry; (try simp only [sw_beq_ep, ep_beq_sw, sw_beq_sw, ep_beq_ep, Bool.false_eq_true, Bool.true_and, Bool.false_and, if_true, if_false]); (repeat' split) <;> (try dsimp only) <;> first | contradiction | simp +decide [herdTimerExpiry, hoff, Chip.view, Chip.rest, Pool.view, Pool.rest, Svc.view, Svc.rest, Herds.view, Herds.rest, Dct.view, Dct.rest, Dct.held, Fw.view, Fw.rest, Fw.held]

theorem abortingTimeout_frame (i : Nat) (s : State) (hoff : Off wt [.hdr .sw, .page .sw 0x5, .page .sw 0xb, .page .sw 0x11, .page .sw 0x14, .page .sw 0x20, .page .sw 0x21, .log .sw, .ports .sw, .sync .sw, .core, .svc, .herds, .hrd, .sent]) :
    (abortingTimeout i s).view wt = s.view wt := by
  simp at hoff
  unfold abortingTimeout; (try simp only [sw_beq_ep, ep_beq_sw, sw_beq_sw, ep_beq_ep, Bool.false_eq_true, Bool.true_and, Bool.false_and, if_true, if_false]); (repeat' split) <;> (try dsimp only) <;> first | contradiction | simp +decide [abortingTimeout, hoff, Chip.view, Chip.rest, Pool.view, Pool.rest, Svc.view, Svc.rest, Herds.view, Herds.rest, Dct.view, Dct.rest, Dct.held, Fw.view, Fw.rest, Fw.held]

@[simp] theorem State_clearHrdStage_frame (s : State) (hoff : Off wt [.page .sw 0x20, .hrd]) :
    (State.clearHrdStage s).view wt = s.view wt := by
  simp at hoff
  simp [State.clearHrdStage, hoff, Chip.view, Chip.rest, Pool.view, Pool.rest, Svc.view, Svc.rest, Herds.view, Herds.rest, Dct.view, Dct.rest, Dct.held, Fw.view, Fw.rest, Fw.held]

@[simp] theorem State_clearSvcStage_frame (s : State) (hoff : Off wt [.page .sw 0x22, .svc]) :
    (State.clearSvcStage s).view wt = s.view wt := by
  simp at hoff
  simp [State.clearSvcStage, hoff, Chip.view, Chip.rest, Pool.view, Pool.rest, Svc.view, Svc.rest, Herds.view, Herds.rest, Dct.view, Dct.rest, Dct.held, Fw.view, Fw.rest, Fw.held]

@[simp] theorem State_hrdFresh_frame (s : State) (hoff : Off wt [.page .sw 0x20, .hrd]) :
    (State.hrdFresh s).view wt = s.view wt := by
  simp at hoff
  simp [State.hrdFresh, hoff, Chip.view, Chip.rest, Pool.view, Pool.rest, Svc.view, Svc.rest, Herds.view, Herds.rest, Dct.view, Dct.rest, Dct.held, Fw.view, Fw.rest, Fw.held]

@[simp] theorem State_svcFresh_frame (s : State) (hoff : Off wt [.page .sw 0x22, .svc]) :
    (State.svcFresh s).view wt = s.view wt := by
  simp at hoff
  simp [State.svcFresh, hoff, Chip.view, Chip.rest, Pool.view, Pool.rest, Svc.view, Svc.rest, Herds.view, Herds.rest, Dct.view, Dct.rest, Dct.held, Fw.view, Fw.rest, Fw.held]

@[simp] theorem State_readHrdClaim_frame (s : State) (o : Origin) (hoff : Off wt [.page .sw 0x20, .hrd]) :
    (State.readHrdClaim s o).1.view wt = s.view wt := by
  simp at hoff
  unfold State.readHrdClaim; (try simp only [sw_beq_ep, ep_beq_sw, sw_beq_sw, ep_beq_ep, Bool.false_eq_true, Bool.true_and, Bool.false_and, if_true, if_false]); (repeat' split) <;> (try dsimp only) <;> first | contradiction | simp +decide [State.readHrdClaim, hoff, Chip.view, Chip.rest, Pool.view, Pool.rest, Svc.view, Svc.rest, Herds.view, Herds.rest, Dct.view, Dct.rest, Dct.held, Fw.view, Fw.rest, Fw.held]

theorem hrdClaimRead_frame (o : Origin) (s : State) (hoff : Off wt [.page .sw 0x20, .hrd, .sent]) :
    (hrdClaimRead o s).view wt = s.view wt := by
  simp at hoff
  simp [hrdClaimRead, hoff, Chip.view, Chip.rest, Pool.view, Pool.rest, Svc.view, Svc.rest, Herds.view, Herds.rest, Dct.view, Dct.rest, Dct.held, Fw.view, Fw.rest, Fw.held]

theorem stageClaimTimeout_frame (svc : Bool) (s : State) (hoff : Off wt [.page .sw 0x20, .page .sw 0x22, .svc, .hrd]) :
    (stageClaimTimeout svc s).view wt = s.view wt := by
  simp at hoff
  simp [stageClaimTimeout, hoff, Chip.view, Chip.rest, Pool.view, Pool.rest, Svc.view, Svc.rest, Herds.view, Herds.rest, Dct.view, Dct.rest, Dct.held, Fw.view, Fw.rest, Fw.held]

@[simp] theorem State_hrdStageWrite_frame (s : State) (o : Origin) (f : State → Written) (hoff : Off wt [.hdr .sw, .page .sw 0x20, .hrd]) (hf : ∀  s, (f  s).1.view wt = s.view wt) :
    (State.hrdStageWrite s o f).1.view wt = s.view wt := by
  simp at hoff
  unfold State.hrdStageWrite; (try simp only [sw_beq_ep, ep_beq_sw, sw_beq_sw, ep_beq_ep, Bool.false_eq_true, Bool.true_and, Bool.false_and, if_true, if_false]); (repeat' split) <;> (try dsimp only) <;> first | contradiction | simp +decide [State.hrdStageWrite, hoff, hf, Chip.view, Chip.rest, Pool.view, Pool.rest, Svc.view, Svc.rest, Herds.view, Herds.rest, Dct.view, Dct.rest, Dct.held, Fw.view, Fw.rest, Fw.held]

@[simp] theorem State_hrdCmd_frame (s : State) (o : Origin) (f : State → State) (hoff : Off wt [.hdr .sw, .page .sw 0xb, .page .sw 0x20, .hrd]) (hf : ∀  s, (f  s).view wt = s.view wt) :
    (State.hrdCmd s o f).1.view wt = s.view wt := by
  simp at hoff
  simp [State.hrdCmd, hoff, hf, Chip.view, Chip.rest, Pool.view, Pool.rest, Svc.view, Svc.rest, Herds.view, Herds.rest, Dct.view, Dct.rest, Dct.held, Fw.view, Fw.rest, Fw.held]

@[simp] theorem State_createHerd_frame (s : State) (i : Nat) (hoff : Off wt [.page .sw 0x20, .page .sw 0x21, .herds, .hrd]) :
    (State.createHerd s i).view wt = s.view wt := by
  simp at hoff
  simp [State.createHerd, hoff, Chip.view, Chip.rest, Pool.view, Pool.rest, Svc.view, Svc.rest, Herds.view, Herds.rest, Dct.view, Dct.rest, Dct.held, Fw.view, Fw.rest, Fw.held]

theorem herdCreate_frame (o : Origin) (i : Nat) (s : State) (hoff : Off wt [.hdr .sw, .page .sw 0xb, .page .sw 0x20, .page .sw 0x21, .herds, .hrd, .sent]) :
    (herdCreate o i s).view wt = s.view wt := by
  simp at hoff
  unfold herdCreate; (try simp only [sw_beq_ep, ep_beq_sw, sw_beq_sw, ep_beq_ep, Bool.false_eq_true, Bool.true_and, Bool.false_and, if_true, if_false]); repeat' (first | contradiction | (simp +decide [herdCreate, hoff, Chip.view, Chip.rest, Pool.view, Pool.rest, Svc.view, Svc.rest, Herds.view, Herds.rest, Dct.view, Dct.rest, Dct.held, Fw.view, Fw.rest, Fw.held]; done) | (intros; split) | (intros; first | refine Eq.trans (State_hrdCmd_frame _ _ _ (by simp [hoff]) (fun _ => ?_)) ?_ | refine Eq.trans (State_writeBy_ep_frame _ _ _ _ _ (by simp [hoff]) (fun _ => ?_)) ?_ | refine Eq.trans (State_writeBy_sw_frame _ _ _ _ _ (by simp [hoff]) (fun _ => ?_)) ?_ | refine Eq.trans (foldl_view _ _ _ fun _ _ => ?_) ?_ | refine Eq.trans (foldl_fst_view _ _ _ fun _ _ => ?_) ?_ | refine Eq.trans (when_view _ _ _ ?_) ?_) | dsimp only | simp +decide [herdCreate, hoff])

@[simp] theorem State_awaitIdle_frame (s : State) (i opc : Nat) (hoff : Off wt [.page .sw 0x20, .herds, .hrd]) :
    (State.awaitIdle s i opc).view wt = s.view wt := by
  simp at hoff
  simp [State.awaitIdle, hoff, Chip.view, Chip.rest, Pool.view, Pool.rest, Svc.view, Svc.rest, Herds.view, Herds.rest, Dct.view, Dct.rest, Dct.held, Fw.view, Fw.rest, Fw.held]

@[simp] theorem State_destroyHerd_frame (s : State) (i : Nat) (hoff : Off wt [.hdr .sw, .page .sw 0x5, .page .sw 0xb, .page .sw 0x11, .page .sw 0x14, .page .sw 0x20, .page .sw 0x21, .log .sw, .ports .sw, .sync .sw, .core, .svc, .herds, .hrd, .sent]) :
    (State.destroyHerd s i).view wt = s.view wt := by
  simp at hoff
  unfold State.destroyHerd; (try simp only [sw_beq_ep, ep_beq_sw, sw_beq_sw, ep_beq_ep, Bool.false_eq_true, Bool.true_and, Bool.false_and, if_true, if_false]); (repeat' split) <;> (try dsimp only) <;> first | contradiction | simp +decide [State.destroyHerd, hoff, Chip.view, Chip.rest, Pool.view, Pool.rest, Svc.view, Svc.rest, Herds.view, Herds.rest, Dct.view, Dct.rest, Dct.held, Fw.view, Fw.rest, Fw.held]

theorem herdDestroy_frame (o : Origin) (i : Nat) (s : State) (hoff : Off wt [.hdr .sw, .page .sw 0x5, .page .sw 0xb, .page .sw 0x11, .page .sw 0x14, .page .sw 0x20, .page .sw 0x21, .log .sw, .ports .sw, .sync .sw, .core, .svc, .herds, .hrd, .sent]) :
    (herdDestroy o i s).view wt = s.view wt := by
  simp at hoff
  unfold herdDestroy; (try simp only [sw_beq_ep, ep_beq_sw, sw_beq_sw, ep_beq_ep, Bool.false_eq_true, Bool.true_and, Bool.false_and, if_true, if_false]); repeat' (first | contradiction | (simp +decide [herdDestroy, hoff, Chip.view, Chip.rest, Pool.view, Pool.rest, Svc.view, Svc.rest, Herds.view, Herds.rest, Dct.view, Dct.rest, Dct.held, Fw.view, Fw.rest, Fw.held]; done) | (intros; split) | (intros; first | refine Eq.trans (State_hrdCmd_frame _ _ _ (by simp [hoff]) (fun _ => ?_)) ?_ | refine Eq.trans (State_writeBy_ep_frame _ _ _ _ _ (by simp [hoff]) (fun _ => ?_)) ?_ | refine Eq.trans (State_writeBy_sw_frame _ _ _ _ _ (by simp [hoff]) (fun _ => ?_)) ?_ | refine Eq.trans (foldl_view _ _ _ fun _ _ => ?_) ?_ | refine Eq.trans (foldl_fst_view _ _ _ fun _ _ => ?_) ?_ | refine Eq.trans (when_view _ _ _ ?_) ?_) | dsimp only | simp +decide [herdDestroy, hoff])

@[simp] theorem State_abortHerd_frame (s : State) (i : Nat) (hoff : Off wt [.hdr .sw, .page .sw 0x5, .page .sw 0xb, .page .sw 0x11, .page .sw 0x14, .page .sw 0x20, .page .sw 0x21, .log .sw, .ports .sw, .sync .sw, .core, .svc, .herds, .hrd, .sent]) :
    (State.abortHerd s i).view wt = s.view wt := by
  simp at hoff
  unfold State.abortHerd; (try simp only [sw_beq_ep, ep_beq_sw, sw_beq_sw, ep_beq_ep, Bool.false_eq_true, Bool.true_and, Bool.false_and, if_true, if_false]); (repeat' split) <;> (try dsimp only) <;> first | contradiction | simp +decide [State.abortHerd, hoff, Chip.view, Chip.rest, Pool.view, Pool.rest, Svc.view, Svc.rest, Herds.view, Herds.rest, Dct.view, Dct.rest, Dct.held, Fw.view, Fw.rest, Fw.held]

theorem herdAbortCmd_frame (o : Origin) (i : Nat) (s : State) (hoff : Off wt [.hdr .sw, .page .sw 0x5, .page .sw 0xb, .page .sw 0x11, .page .sw 0x14, .page .sw 0x20, .page .sw 0x21, .log .sw, .ports .sw, .sync .sw, .core, .svc, .herds, .hrd, .sent]) :
    (herdAbortCmd o i s).view wt = s.view wt := by
  simp at hoff
  unfold herdAbortCmd; (try simp only [sw_beq_ep, ep_beq_sw, sw_beq_sw, ep_beq_ep, Bool.false_eq_true, Bool.true_and, Bool.false_and, if_true, if_false]); repeat' (first | contradiction | (simp +decide [herdAbortCmd, hoff, Chip.view, Chip.rest, Pool.view, Pool.rest, Svc.view, Svc.rest, Herds.view, Herds.rest, Dct.view, Dct.rest, Dct.held, Fw.view, Fw.rest, Fw.held]; done) | (intros; split) | (intros; first | refine Eq.trans (State_hrdCmd_frame _ _ _ (by simp [hoff]) (fun _ => ?_)) ?_ | refine Eq.trans (State_writeBy_ep_frame _ _ _ _ _ (by simp [hoff]) (fun _ => ?_)) ?_ | refine Eq.trans (State_writeBy_sw_frame _ _ _ _ _ (by simp [hoff]) (fun _ => ?_)) ?_ | refine Eq.trans (foldl_view _ _ _ fun _ _ => ?_) ?_ | refine Eq.trans (foldl_fst_view _ _ _ fun _ _ => ?_) ?_ | refine Eq.trans (when_view _ _ _ ?_) ?_) | dsimp only | simp +decide [herdAbortCmd, hoff])

@[simp] theorem State_swapSlot_frame (s : State) (i v k : Nat) (atStep : Bool) (hoff : Off wt [.page .sw 0x11, .page .sw 0x14, .page .sw 0x20, .core, .herds, .hrd]) :
    (State.swapSlot s i v k atStep).view wt = s.view wt := by
  simp at hoff
  unfold State.swapSlot; (try simp only [sw_beq_ep, ep_beq_sw, sw_beq_sw, ep_beq_ep, Bool.false_eq_true, Bool.true_and, Bool.false_and, if_true, if_false]); (repeat' split) <;> (try dsimp only) <;> first | contradiction | simp +decide [State.swapSlot, hoff, Chip.view, Chip.rest, Pool.view, Pool.rest, Svc.view, Svc.rest, Herds.view, Herds.rest, Dct.view, Dct.rest, Dct.held, Fw.view, Fw.rest, Fw.held]

theorem herdSwapCmd_frame (o : Origin) (i v k : Nat) (atStep : Bool) (s : State) (hoff : Off wt [.hdr .sw, .page .sw 0xb, .page .sw 0x11, .page .sw 0x14, .page .sw 0x20, .core, .herds, .hrd, .sent]) :
    (herdSwapCmd o i v k atStep s).view wt = s.view wt := by
  simp at hoff
  unfold herdSwapCmd; (try simp only [sw_beq_ep, ep_beq_sw, sw_beq_sw, ep_beq_ep, Bool.false_eq_true, Bool.true_and, Bool.false_and, if_true, if_false]); repeat' (first | contradiction | (simp +decide [herdSwapCmd, hoff, Chip.view, Chip.rest, Pool.view, Pool.rest, Svc.view, Svc.rest, Herds.view, Herds.rest, Dct.view, Dct.rest, Dct.held, Fw.view, Fw.rest, Fw.held]; done) | (intros; split) | (intros; first | refine Eq.trans (State_hrdCmd_frame _ _ _ (by simp [hoff]) (fun _ => ?_)) ?_ | refine Eq.trans (State_writeBy_ep_frame _ _ _ _ _ (by simp [hoff]) (fun _ => ?_)) ?_ | refine Eq.trans (State_writeBy_sw_frame _ _ _ _ _ (by simp [hoff]) (fun _ => ?_)) ?_ | refine Eq.trans (foldl_view _ _ _ fun _ _ => ?_) ?_ | refine Eq.trans (foldl_fst_view _ _ _ fun _ _ => ?_) ?_ | refine Eq.trans (when_view _ _ _ ?_) ?_) | dsimp only | simp +decide [herdSwapCmd, hoff])

@[simp] theorem State_writeHrdCmd_frame (s : State) (o : Origin) (x : Word) (hoff : Off wt [.hdr .sw, .page .sw 0x5, .page .sw 0xb, .page .sw 0x11, .page .sw 0x14, .page .sw 0x20, .page .sw 0x21, .log .sw, .ports .sw, .sync .sw, .core, .svc, .herds, .hrd, .sent]) :
    (State.writeHrdCmd s o x).1.view wt = s.view wt := by
  simp at hoff
  simp [State.writeHrdCmd, hoff, Chip.view, Chip.rest, Pool.view, Pool.rest, Svc.view, Svc.rest, Herds.view, Herds.rest, Dct.view, Dct.rest, Dct.held, Fw.view, Fw.rest, Fw.held]

@[simp] theorem State_readSvcClaim_frame (s : State) (o : Origin) (hoff : Off wt [.page .sw 0x22, .svc]) :
    (State.readSvcClaim s o).1.view wt = s.view wt := by
  simp at hoff
  unfold State.readSvcClaim; (try simp only [sw_beq_ep, ep_beq_sw, sw_beq_sw, ep_beq_ep, Bool.false_eq_true, Bool.true_and, Bool.false_and, if_true, if_false]); (repeat' split) <;> (try dsimp only) <;> first | contradiction | simp +decide [State.readSvcClaim, hoff, Chip.view, Chip.rest, Pool.view, Pool.rest, Svc.view, Svc.rest, Herds.view, Herds.rest, Dct.view, Dct.rest, Dct.held, Fw.view, Fw.rest, Fw.held]

theorem svcClaimRead_frame (o : Origin) (s : State) (hoff : Off wt [.page .sw 0x22, .svc, .sent]) :
    (svcClaimRead o s).view wt = s.view wt := by
  simp at hoff
  simp [svcClaimRead, hoff, Chip.view, Chip.rest, Pool.view, Pool.rest, Svc.view, Svc.rest, Herds.view, Herds.rest, Dct.view, Dct.rest, Dct.held, Fw.view, Fw.rest, Fw.held]

@[simp] theorem State_svcStageWrite_frame (s : State) (o : Origin) (f : State → Written) (hoff : Off wt [.hdr .sw, .page .sw 0x22, .svc]) (hf : ∀  s, (f  s).1.view wt = s.view wt) :
    (State.svcStageWrite s o f).1.view wt = s.view wt := by
  simp at hoff
  unfold State.svcStageWrite; (try simp only [sw_beq_ep, ep_beq_sw, sw_beq_sw, ep_beq_ep, Bool.false_eq_true, Bool.true_and, Bool.false_and, if_true, if_false]); (repeat' split) <;> (try dsimp only) <;> first | contradiction | simp +decide [State.svcStageWrite, hoff, hf, Chip.view, Chip.rest, Pool.view, Pool.rest, Svc.view, Svc.rest, Herds.view, Herds.rest, Dct.view, Dct.rest, Dct.held, Fw.view, Fw.rest, Fw.held]

@[simp] theorem State_svcDone_frame (s : State) (status detail : Nat) (instr : Nat) (hoff : Off wt [.page .sw 0x22, .svc]) :
    (State.svcDone s status detail instr).view wt = s.view wt := by
  simp at hoff
  simp [State.svcDone, hoff, Chip.view, Chip.rest, Pool.view, Pool.rest, Svc.view, Svc.rest, Herds.view, Herds.rest, Dct.view, Dct.rest, Dct.held, Fw.view, Fw.rest, Fw.held]

@[simp] theorem State_svcCmd_frame (s : State) (o : Origin) (f : State → State) (hoff : Off wt [.hdr .sw, .page .sw 0xb, .page .sw 0x22, .svc]) (hf : ∀  s, (f  s).view wt = s.view wt) :
    (State.svcCmd s o f).1.view wt = s.view wt := by
  simp at hoff
  simp [State.svcCmd, hoff, hf, Chip.view, Chip.rest, Pool.view, Pool.rest, Svc.view, Svc.rest, Herds.view, Herds.rest, Dct.view, Dct.rest, Dct.held, Fw.view, Fw.rest, Fw.held]

@[simp] theorem State_loadProgram_frame (s : State) (slot : Nat) (hoff : Off wt [.page .sw 0x7, .page .sw 0x22, .progs, .svc]) :
    (State.loadProgram s slot).view wt = s.view wt := by
  simp at hoff
  unfold State.loadProgram; (try simp only [sw_beq_ep, ep_beq_sw, sw_beq_sw, ep_beq_ep, Bool.false_eq_true, Bool.true_and, Bool.false_and, if_true, if_false]); (repeat' split) <;> (try dsimp only) <;> first | contradiction | simp +decide [State.loadProgram, hoff, Chip.view, Chip.rest, Pool.view, Pool.rest, Svc.view, Svc.rest, Herds.view, Herds.rest, Dct.view, Dct.rest, Dct.held, Fw.view, Fw.rest, Fw.held]

theorem svcLoad_frame (o : Origin) (slot : Nat) (s : State) (hoff : Off wt [.hdr .sw, .page .sw 0x7, .page .sw 0xb, .page .sw 0x22, .progs, .svc, .sent]) :
    (svcLoad o slot s).view wt = s.view wt := by
  simp at hoff
  unfold svcLoad; (try simp only [sw_beq_ep, ep_beq_sw, sw_beq_sw, ep_beq_ep, Bool.false_eq_true, Bool.true_and, Bool.false_and, if_true, if_false]); repeat' (first | contradiction | (simp +decide [svcLoad, hoff, Chip.view, Chip.rest, Pool.view, Pool.rest, Svc.view, Svc.rest, Herds.view, Herds.rest, Dct.view, Dct.rest, Dct.held, Fw.view, Fw.rest, Fw.held]; done) | (intros; split) | (intros; first | refine Eq.trans (State_svcCmd_frame _ _ _ (by simp [hoff]) (fun _ => ?_)) ?_ | refine Eq.trans (State_writeBy_ep_frame _ _ _ _ _ (by simp [hoff]) (fun _ => ?_)) ?_ | refine Eq.trans (State_writeBy_sw_frame _ _ _ _ _ (by simp [hoff]) (fun _ => ?_)) ?_ | refine Eq.trans (foldl_view _ _ _ fun _ _ => ?_) ?_ | refine Eq.trans (foldl_fst_view _ _ _ fun _ _ => ?_) ?_ | refine Eq.trans (when_view _ _ _ ?_) ?_) | dsimp only | simp +decide [svcLoad, hoff])

@[simp] theorem State_unloadProgram_frame (s : State) (slot : Nat) (hoff : Off wt [.page .sw 0x7, .page .sw 0x22, .progs, .svc]) :
    (State.unloadProgram s slot).view wt = s.view wt := by
  simp at hoff
  simp [State.unloadProgram, hoff, Chip.view, Chip.rest, Pool.view, Pool.rest, Svc.view, Svc.rest, Herds.view, Herds.rest, Dct.view, Dct.rest, Dct.held, Fw.view, Fw.rest, Fw.held]

theorem svcUnload_frame (o : Origin) (slot : Nat) (s : State) (hoff : Off wt [.hdr .sw, .page .sw 0x7, .page .sw 0xb, .page .sw 0x22, .progs, .svc, .sent]) :
    (svcUnload o slot s).view wt = s.view wt := by
  simp at hoff
  unfold svcUnload; (try simp only [sw_beq_ep, ep_beq_sw, sw_beq_sw, ep_beq_ep, Bool.false_eq_true, Bool.true_and, Bool.false_and, if_true, if_false]); repeat' (first | contradiction | (simp +decide [svcUnload, hoff, Chip.view, Chip.rest, Pool.view, Pool.rest, Svc.view, Svc.rest, Herds.view, Herds.rest, Dct.view, Dct.rest, Dct.held, Fw.view, Fw.rest, Fw.held]; done) | (intros; split) | (intros; first | refine Eq.trans (State_svcCmd_frame _ _ _ (by simp [hoff]) (fun _ => ?_)) ?_ | refine Eq.trans (State_writeBy_ep_frame _ _ _ _ _ (by simp [hoff]) (fun _ => ?_)) ?_ | refine Eq.trans (State_writeBy_sw_frame _ _ _ _ _ (by simp [hoff]) (fun _ => ?_)) ?_ | refine Eq.trans (foldl_view _ _ _ fun _ _ => ?_) ?_ | refine Eq.trans (foldl_fst_view _ _ _ fun _ _ => ?_) ?_ | refine Eq.trans (when_view _ _ _ ?_) ?_) | dsimp only | simp +decide [svcUnload, hoff])

@[simp] theorem State_attachHerd_frame (s : State) (i : Nat) (hoff : Off wt [.page .sw 0x22, .svc]) :
    (State.attachHerd s i).view wt = s.view wt := by
  simp at hoff
  simp [State.attachHerd, hoff, Chip.view, Chip.rest, Pool.view, Pool.rest, Svc.view, Svc.rest, Herds.view, Herds.rest, Dct.view, Dct.rest, Dct.held, Fw.view, Fw.rest, Fw.held]

theorem svcAttach_frame (o : Origin) (i : Nat) (s : State) (hoff : Off wt [.hdr .sw, .page .sw 0xb, .page .sw 0x22, .svc, .sent]) :
    (svcAttach o i s).view wt = s.view wt := by
  simp at hoff
  unfold svcAttach; (try simp only [sw_beq_ep, ep_beq_sw, sw_beq_sw, ep_beq_ep, Bool.false_eq_true, Bool.true_and, Bool.false_and, if_true, if_false]); repeat' (first | contradiction | (simp +decide [svcAttach, hoff, Chip.view, Chip.rest, Pool.view, Pool.rest, Svc.view, Svc.rest, Herds.view, Herds.rest, Dct.view, Dct.rest, Dct.held, Fw.view, Fw.rest, Fw.held]; done) | (intros; split) | (intros; first | refine Eq.trans (State_svcCmd_frame _ _ _ (by simp [hoff]) (fun _ => ?_)) ?_ | refine Eq.trans (State_writeBy_ep_frame _ _ _ _ _ (by simp [hoff]) (fun _ => ?_)) ?_ | refine Eq.trans (State_writeBy_sw_frame _ _ _ _ _ (by simp [hoff]) (fun _ => ?_)) ?_ | refine Eq.trans (foldl_view _ _ _ fun _ _ => ?_) ?_ | refine Eq.trans (foldl_fst_view _ _ _ fun _ _ => ?_) ?_ | refine Eq.trans (when_view _ _ _ ?_) ?_) | dsimp only | simp +decide [svcAttach, hoff])

@[simp] theorem State_detachHerd_frame (s : State) (i : Nat) (hoff : Off wt [.page .sw 0x22, .svc]) :
    (State.detachHerd s i).view wt = s.view wt := by
  simp at hoff
  simp [State.detachHerd, hoff, Chip.view, Chip.rest, Pool.view, Pool.rest, Svc.view, Svc.rest, Herds.view, Herds.rest, Dct.view, Dct.rest, Dct.held, Fw.view, Fw.rest, Fw.held]

theorem svcDetach_frame (o : Origin) (i : Nat) (s : State) (hoff : Off wt [.hdr .sw, .page .sw 0xb, .page .sw 0x22, .svc, .sent]) :
    (svcDetach o i s).view wt = s.view wt := by
  simp at hoff
  unfold svcDetach; (try simp only [sw_beq_ep, ep_beq_sw, sw_beq_sw, ep_beq_ep, Bool.false_eq_true, Bool.true_and, Bool.false_and, if_true, if_false]); repeat' (first | contradiction | (simp +decide [svcDetach, hoff, Chip.view, Chip.rest, Pool.view, Pool.rest, Svc.view, Svc.rest, Herds.view, Herds.rest, Dct.view, Dct.rest, Dct.held, Fw.view, Fw.rest, Fw.held]; done) | (intros; split) | (intros; first | refine Eq.trans (State_svcCmd_frame _ _ _ (by simp [hoff]) (fun _ => ?_)) ?_ | refine Eq.trans (State_writeBy_ep_frame _ _ _ _ _ (by simp [hoff]) (fun _ => ?_)) ?_ | refine Eq.trans (State_writeBy_sw_frame _ _ _ _ _ (by simp [hoff]) (fun _ => ?_)) ?_ | refine Eq.trans (foldl_view _ _ _ fun _ _ => ?_) ?_ | refine Eq.trans (foldl_fst_view _ _ _ fun _ _ => ?_) ?_ | refine Eq.trans (when_view _ _ _ ?_) ?_) | dsimp only | simp +decide [svcDetach, hoff])

@[simp] theorem State_stageConsts_frame (s : State) (i : Nat) (hoff : Off wt [.page .sw 0x22, .svc]) :
    (State.stageConsts s i).view wt = s.view wt := by
  simp at hoff
  simp [State.stageConsts, hoff, Chip.view, Chip.rest, Pool.view, Pool.rest, Svc.view, Svc.rest, Herds.view, Herds.rest, Dct.view, Dct.rest, Dct.held, Fw.view, Fw.rest, Fw.held]

theorem svcConst_frame (o : Origin) (i : Nat) (s : State) (hoff : Off wt [.hdr .sw, .page .sw 0xb, .page .sw 0x22, .svc, .sent]) :
    (svcConst o i s).view wt = s.view wt := by
  simp at hoff
  unfold svcConst; (try simp only [sw_beq_ep, ep_beq_sw, sw_beq_sw, ep_beq_ep, Bool.false_eq_true, Bool.true_and, Bool.false_and, if_true, if_false]); repeat' (first | contradiction | (simp +decide [svcConst, hoff, Chip.view, Chip.rest, Pool.view, Pool.rest, Svc.view, Svc.rest, Herds.view, Herds.rest, Dct.view, Dct.rest, Dct.held, Fw.view, Fw.rest, Fw.held]; done) | (intros; split) | (intros; first | refine Eq.trans (State_svcCmd_frame _ _ _ (by simp [hoff]) (fun _ => ?_)) ?_ | refine Eq.trans (State_writeBy_ep_frame _ _ _ _ _ (by simp [hoff]) (fun _ => ?_)) ?_ | refine Eq.trans (State_writeBy_sw_frame _ _ _ _ _ (by simp [hoff]) (fun _ => ?_)) ?_ | refine Eq.trans (foldl_view _ _ _ fun _ _ => ?_) ?_ | refine Eq.trans (foldl_fst_view _ _ _ fun _ _ => ?_) ?_ | refine Eq.trans (when_view _ _ _ ?_) ?_) | dsimp only | simp +decide [svcConst, hoff])

@[simp] theorem State_setCommitted_frame (s : State) (v : Word) (hoff : Off wt [.hdr .sw, .page .sw 0xb, .svc]) :
    (State.setCommitted s v).1.view wt = s.view wt := by
  simp at hoff
  simp [State.setCommitted, hoff, Chip.view, Chip.rest, Pool.view, Pool.rest, Svc.view, Svc.rest, Herds.view, Herds.rest, Dct.view, Dct.rest, Dct.held, Fw.view, Fw.rest, Fw.held]

theorem attCommitWrite_frame (path : Path) (v : Word) (s : State) (hoff : Off wt [.hdr .sw, .page .sw 0xb, .svc, .sent]) :
    (attCommitWrite path v s).view wt = s.view wt := by
  simp at hoff
  simp [attCommitWrite, hoff, Chip.view, Chip.rest, Pool.view, Pool.rest, Svc.view, Svc.rest, Herds.view, Herds.rest, Dct.view, Dct.rest, Dct.held, Fw.view, Fw.rest, Fw.held]

@[simp] theorem State_sealRegion_frame (s : State) (o : Origin) (g : Nat) (hoff : Off wt [.hdr .sw, .page .sw 0x5, .page .sw 0xb, .page .sw 0x11, .page .sw 0x13, .page .sw 0x14, .page .sw 0x20, .page .sw 0x21, .page .sw 0x22, .page .sw 0x30, .page .sw 0x31, .page .sw 0x32, .page .sw 0x40, .page .sw 0x50, .page .sw 0x300, .log .sw, .ports .sw, .sync .sw, .core, .mem, .pool, .svc, .herds, .hrd, .host, .sent, .free]) :
    (State.sealRegion s o g).view wt = s.view wt := by
  simp at hoff
  simp [State.sealRegion, hoff, Chip.view, Chip.rest, Pool.view, Pool.rest, Svc.view, Svc.rest, Herds.view, Herds.rest, Dct.view, Dct.rest, Dct.held, Fw.view, Fw.rest, Fw.held]

theorem svcSeal_frame (o : Origin) (g : Nat) (s : State) (hoff : Off wt [.hdr .sw, .page .sw 0x5, .page .sw 0xb, .page .sw 0x11, .page .sw 0x13, .page .sw 0x14, .page .sw 0x20, .page .sw 0x21, .page .sw 0x22, .page .sw 0x30, .page .sw 0x31, .page .sw 0x32, .page .sw 0x40, .page .sw 0x50, .page .sw 0x300, .log .sw, .ports .sw, .sync .sw, .core, .mem, .pool, .svc, .herds, .hrd, .host, .sent, .free]) :
    (svcSeal o g s).view wt = s.view wt := by
  simp at hoff
  unfold svcSeal; (try simp only [sw_beq_ep, ep_beq_sw, sw_beq_sw, ep_beq_ep, Bool.false_eq_true, Bool.true_and, Bool.false_and, if_true, if_false]); repeat' (first | contradiction | (simp +decide [svcSeal, hoff, Chip.view, Chip.rest, Pool.view, Pool.rest, Svc.view, Svc.rest, Herds.view, Herds.rest, Dct.view, Dct.rest, Dct.held, Fw.view, Fw.rest, Fw.held]; done) | (intros; split) | (intros; first | refine Eq.trans (State_svcCmd_frame _ _ _ (by simp [hoff]) (fun _ => ?_)) ?_ | refine Eq.trans (State_writeBy_ep_frame _ _ _ _ _ (by simp [hoff]) (fun _ => ?_)) ?_ | refine Eq.trans (State_writeBy_sw_frame _ _ _ _ _ (by simp [hoff]) (fun _ => ?_)) ?_ | refine Eq.trans (foldl_view _ _ _ fun _ _ => ?_) ?_ | refine Eq.trans (foldl_fst_view _ _ _ fun _ _ => ?_) ?_ | refine Eq.trans (when_view _ _ _ ?_) ?_) | dsimp only | simp +decide [svcSeal, hoff])

@[simp] theorem State_unsealRegion_frame (s : State) (g : Nat) (hoff : Off wt [.page .sw 0x7, .page .sw 0x22, .svc]) :
    (State.unsealRegion s g).view wt = s.view wt := by
  simp at hoff
  simp [State.unsealRegion, hoff, Chip.view, Chip.rest, Pool.view, Pool.rest, Svc.view, Svc.rest, Herds.view, Herds.rest, Dct.view, Dct.rest, Dct.held, Fw.view, Fw.rest, Fw.held]

theorem svcUnseal_frame (o : Origin) (g : Nat) (s : State) (hoff : Off wt [.hdr .sw, .page .sw 0x7, .page .sw 0xb, .page .sw 0x22, .svc, .sent]) :
    (svcUnseal o g s).view wt = s.view wt := by
  simp at hoff
  unfold svcUnseal; (try simp only [sw_beq_ep, ep_beq_sw, sw_beq_sw, ep_beq_ep, Bool.false_eq_true, Bool.true_and, Bool.false_and, if_true, if_false]); repeat' (first | contradiction | (simp +decide [svcUnseal, hoff, Chip.view, Chip.rest, Pool.view, Pool.rest, Svc.view, Svc.rest, Herds.view, Herds.rest, Dct.view, Dct.rest, Dct.held, Fw.view, Fw.rest, Fw.held]; done) | (intros; split) | (intros; first | refine Eq.trans (State_svcCmd_frame _ _ _ (by simp [hoff]) (fun _ => ?_)) ?_ | refine Eq.trans (State_writeBy_ep_frame _ _ _ _ _ (by simp [hoff]) (fun _ => ?_)) ?_ | refine Eq.trans (State_writeBy_sw_frame _ _ _ _ _ (by simp [hoff]) (fun _ => ?_)) ?_ | refine Eq.trans (foldl_view _ _ _ fun _ _ => ?_) ?_ | refine Eq.trans (foldl_fst_view _ _ _ fun _ _ => ?_) ?_ | refine Eq.trans (when_view _ _ _ ?_) ?_) | dsimp only | simp +decide [svcUnseal, hoff])

theorem regionHashDone_frame (bulk : List (Nat × List Byte)) (s : State) (hoff : Off wt [.hdr .sw, .page .sw 0x7, .page .sw 0xb, .svc]) :
    (regionHashDone bulk s).view wt = s.view wt := by
  simp at hoff
  unfold regionHashDone; (try simp only [sw_beq_ep, ep_beq_sw, sw_beq_sw, ep_beq_ep, Bool.false_eq_true, Bool.true_and, Bool.false_and, if_true, if_false]); (repeat' split) <;> (try dsimp only) <;> first | contradiction | simp +decide [regionHashDone, hoff, Chip.view, Chip.rest, Pool.view, Pool.rest, Svc.view, Svc.rest, Herds.view, Herds.rest, Dct.view, Dct.rest, Dct.held, Fw.view, Fw.rest, Fw.held]

@[simp] theorem State_setTable_frame (s : State) (o : Origin) (t : Nat) (hoff : Off wt [.page .sw 0x22, .svc]) :
    (State.setTable s o t).view wt = s.view wt := by
  simp at hoff
  simp [State.setTable, hoff, Chip.view, Chip.rest, Pool.view, Pool.rest, Svc.view, Svc.rest, Herds.view, Herds.rest, Dct.view, Dct.rest, Dct.held, Fw.view, Fw.rest, Fw.held]

theorem svcTableSet_frame (o : Origin) (t : Nat) (s : State) (hoff : Off wt [.hdr .sw, .page .sw 0xb, .page .sw 0x22, .svc, .sent]) :
    (svcTableSet o t s).view wt = s.view wt := by
  simp at hoff
  unfold svcTableSet; (try simp only [sw_beq_ep, ep_beq_sw, sw_beq_sw, ep_beq_ep, Bool.false_eq_true, Bool.true_and, Bool.false_and, if_true, if_false]); repeat' (first | contradiction | (simp +decide [svcTableSet, hoff, Chip.view, Chip.rest, Pool.view, Pool.rest, Svc.view, Svc.rest, Herds.view, Herds.rest, Dct.view, Dct.rest, Dct.held, Fw.view, Fw.rest, Fw.held]; done) | (intros; split) | (intros; first | refine Eq.trans (State_svcCmd_frame _ _ _ (by simp [hoff]) (fun _ => ?_)) ?_ | refine Eq.trans (State_writeBy_ep_frame _ _ _ _ _ (by simp [hoff]) (fun _ => ?_)) ?_ | refine Eq.trans (State_writeBy_sw_frame _ _ _ _ _ (by simp [hoff]) (fun _ => ?_)) ?_ | refine Eq.trans (foldl_view _ _ _ fun _ _ => ?_) ?_ | refine Eq.trans (foldl_fst_view _ _ _ fun _ _ => ?_) ?_ | refine Eq.trans (when_view _ _ _ ?_) ?_) | dsimp only | simp +decide [svcTableSet, hoff])

@[simp] theorem State_clearTable_frame (s : State) (t : Nat) (hoff : Off wt [.page .sw 0x22, .svc]) :
    (State.clearTable s t).view wt = s.view wt := by
  simp at hoff
  simp [State.clearTable, hoff, Chip.view, Chip.rest, Pool.view, Pool.rest, Svc.view, Svc.rest, Herds.view, Herds.rest, Dct.view, Dct.rest, Dct.held, Fw.view, Fw.rest, Fw.held]

theorem svcTableClr_frame (o : Origin) (t : Nat) (s : State) (hoff : Off wt [.hdr .sw, .page .sw 0xb, .page .sw 0x22, .svc, .sent]) :
    (svcTableClr o t s).view wt = s.view wt := by
  simp at hoff
  unfold svcTableClr; (try simp only [sw_beq_ep, ep_beq_sw, sw_beq_sw, ep_beq_ep, Bool.false_eq_true, Bool.true_and, Bool.false_and, if_true, if_false]); repeat' (first | contradiction | (simp +decide [svcTableClr, hoff, Chip.view, Chip.rest, Pool.view, Pool.rest, Svc.view, Svc.rest, Herds.view, Herds.rest, Dct.view, Dct.rest, Dct.held, Fw.view, Fw.rest, Fw.held]; done) | (intros; split) | (intros; first | refine Eq.trans (State_svcCmd_frame _ _ _ (by simp [hoff]) (fun _ => ?_)) ?_ | refine Eq.trans (State_writeBy_ep_frame _ _ _ _ _ (by simp [hoff]) (fun _ => ?_)) ?_ | refine Eq.trans (State_writeBy_sw_frame _ _ _ _ _ (by simp [hoff]) (fun _ => ?_)) ?_ | refine Eq.trans (foldl_view _ _ _ fun _ _ => ?_) ?_ | refine Eq.trans (foldl_fst_view _ _ _ fun _ _ => ?_) ?_ | refine Eq.trans (when_view _ _ _ ?_) ?_) | dsimp only | simp +decide [svcTableClr, hoff])

@[simp] theorem State_writeSvcCmd_frame (s : State) (o : Origin) (x : Word) (hoff : Off wt [.hdr .sw, .page .sw 0x5, .page .sw 0x7, .page .sw 0xb, .page .sw 0x11, .page .sw 0x13, .page .sw 0x14, .page .sw 0x20, .page .sw 0x21, .page .sw 0x22, .page .sw 0x30, .page .sw 0x31, .page .sw 0x32, .page .sw 0x40, .page .sw 0x50, .page .sw 0x300, .log .sw, .ports .sw, .sync .sw, .core, .mem, .pool, .progs, .svc, .herds, .hrd, .host, .sent, .free]) :
    (State.writeSvcCmd s o x).1.view wt = s.view wt := by
  simp at hoff
  simp [State.writeSvcCmd, hoff, Chip.view, Chip.rest, Pool.view, Pool.rest, Svc.view, Svc.rest, Herds.view, Herds.rest, Dct.view, Dct.rest, Dct.held, Fw.view, Fw.rest, Fw.held]

@[simp] theorem State_releaseChunk_frame (s : State) (i c : Nat) (hoff : Off wt [.page .sw 0x11, .page .sw 0x14, .page .sw 0x20, .page .sw 0x21, .sync .sw, .core, .svc, .herds, .hrd]) :
    (State.releaseChunk s i c).view wt = s.view wt := by
  simp at hoff
  unfold State.releaseChunk; (try simp only [sw_beq_ep, ep_beq_sw, sw_beq_sw, ep_beq_ep, Bool.false_eq_true, Bool.true_and, Bool.false_and, if_true, if_false]); (repeat' split) <;> (try dsimp only) <;> first | contradiction | simp +decide [State.releaseChunk, hoff, Chip.view, Chip.rest, Pool.view, Pool.rest, Svc.view, Svc.rest, Herds.view, Herds.rest, Dct.view, Dct.rest, Dct.held, Fw.view, Fw.rest, Fw.held]

@[simp] theorem State_runProgram_frame (s : State) (i c core : Nat) (h : Herd) (a : Attach) (p : Prog) (hoff : Off wt [.hdr .sw, .page .sw 0x5, .page .sw 0xb, .page .sw 0x11, .page .sw 0x13, .page .sw 0x14, .page .sw 0x20, .page .sw 0x21, .page .sw 0x30, .page .sw 0x31, .page .sw 0x32, .page .sw 0x40, .page .sw 0x50, .page .sw 0x300, .log .sw, .ports .sw, .sync .sw, .core, .mem, .pool, .svc, .herds, .hrd, .host, .sent, .free]) :
    (State.runProgram s i c core h a p).view wt = s.view wt := by
  simp at hoff
  simp [State.runProgram, hoff, Chip.view, Chip.rest, Pool.view, Pool.rest, Svc.view, Svc.rest, Herds.view, Herds.rest, Dct.view, Dct.rest, Dct.held, Fw.view, Fw.rest, Fw.held]

theorem programChunkDone_frame (i c core : Nat) (s : State) (hoff : Off wt [.hdr .sw, .page .sw 0x5, .page .sw 0xb, .page .sw 0x11, .page .sw 0x13, .page .sw 0x14, .page .sw 0x20, .page .sw 0x21, .page .sw 0x30, .page .sw 0x31, .page .sw 0x32, .page .sw 0x40, .page .sw 0x50, .page .sw 0x300, .log .sw, .ports .sw, .sync .sw, .core, .mem, .pool, .svc, .herds, .hrd, .host, .sent, .free]) :
    (programChunkDone i c core s).view wt = s.view wt := by
  simp at hoff
  unfold programChunkDone; (try simp only [sw_beq_ep, ep_beq_sw, sw_beq_sw, ep_beq_ep, Bool.false_eq_true, Bool.true_and, Bool.false_and, if_true, if_false]); (repeat' split) <;> (try dsimp only) <;> first | contradiction | simp +decide [programChunkDone, hoff, Chip.view, Chip.rest, Pool.view, Pool.rest, Svc.view, Svc.rest, Herds.view, Herds.rest, Dct.view, Dct.rest, Dct.held, Fw.view, Fw.rest, Fw.held]

end Sys2Proof.Machine
end

