-- ==== Sys2Proof/Laws/FrameEndpoint.lean ====
section
/-! SUPPORT. The components that each operation of the endpoint may change. -/

set_option Elab.async false
set_option linter.all false

namespace Sys2Proof.Machine

variable {wt : Comp → Bool}

@[simp] theorem State_tookId_frame (s : State) (hoff : Off wt [.ag]) :
    (State.tookId s).view wt = s.view wt := by
  simp at hoff
  simp [State.tookId, hoff, Chip.view, Chip.rest, Pool.view, Pool.rest, Svc.view, Svc.rest, Herds.view, Herds.rest, Dct.view, Dct.rest, Dct.held, Fw.view, Fw.rest, Fw.held]

@[simp] theorem State_accRead_frame (s : State) (for_ : AccFor) (addr len : Nat) (hoff : Off wt [.ag, .sent]) :
    (State.accRead s for_ addr len).view wt = s.view wt := by
  simp at hoff
  simp [State.accRead, hoff, Chip.view, Chip.rest, Pool.view, Pool.rest, Svc.view, Svc.rest, Herds.view, Herds.rest, Dct.view, Dct.rest, Dct.held, Fw.view, Fw.rest, Fw.held]

@[simp] theorem State_accWrite_frame (s : State) (addr : Nat) (data : List Byte) (hoff : Off wt [.sent]) :
    (State.accWrite s addr data).view wt = s.view wt := by
  simp at hoff
  simp [State.accWrite, hoff, Chip.view, Chip.rest, Pool.view, Pool.rest, Svc.view, Svc.rest, Herds.view, Herds.rest, Dct.view, Dct.rest, Dct.held, Fw.view, Fw.rest, Fw.held]

@[simp] theorem State_memCpl_frame (s : State) (id status : Nat) (data : List Byte) (hoff : Off wt [.sent]) :
    (State.memCpl s id status data).view wt = s.view wt := by
  simp at hoff
  simp [State.memCpl, hoff, Chip.view, Chip.rest, Pool.view, Pool.rest, Svc.view, Svc.rest, Herds.view, Herds.rest, Dct.view, Dct.rest, Dct.held, Fw.view, Fw.rest, Fw.held]

@[simp] theorem State_atcKeep_frame (s : State) (key : Nat) (e : Word) (hoff : Off wt [.ag, .free]) :
    (State.atcKeep s key e).view wt = s.view wt := by
  simp at hoff
  simp [State.atcKeep, hoff, Chip.view, Chip.rest, Pool.view, Pool.rest, Svc.view, Svc.rest, Herds.view, Herds.rest, Dct.view, Dct.rest, Dct.held, Fw.view, Fw.rest, Fw.held]

@[simp] theorem State_hotPage_frame (s : State) (page count range kind slot : Nat) (hoff : Off wt [.hdr .ep, .page .ep 0x32, .ag, .sent]) :
    (State.hotPage s page count range kind slot).view wt = s.view wt := by
  simp at hoff
  simp [State.hotPage, hoff, Chip.view, Chip.rest, Pool.view, Pool.rest, Svc.view, Svc.rest, Herds.view, Herds.rest, Dct.view, Dct.rest, Dct.held, Fw.view, Fw.rest, Fw.held]

@[simp] theorem State_acnRoll_frame (s : State) (hoff : Off wt [.page .ep 0x32, .ag]) :
    (State.acnRoll s).view wt = s.view wt := by
  simp at hoff
  simp [State.acnRoll, hoff, Chip.view, Chip.rest, Pool.view, Pool.rest, Svc.view, Svc.rest, Herds.view, Herds.rest, Dct.view, Dct.rest, Dct.held, Fw.view, Fw.rest, Fw.held]

@[simp] theorem State_acnHit_frame (s : State) (kind place page : Nat) (hoff : Off wt [.hdr .ep, .page .ep 0x32, .ag, .sent]) :
    (State.acnHit s kind place page).view wt = s.view wt := by
  simp at hoff
  unfold State.acnHit; (try simp only [sw_beq_ep, ep_beq_sw, sw_beq_sw, ep_beq_ep, Bool.false_eq_true, Bool.true_and, Bool.false_and, if_true, if_false]); (repeat' split) <;> (try dsimp only) <;> first | contradiction | simp +decide [State.acnHit, hoff, Chip.view, Chip.rest, Pool.view, Pool.rest, Svc.view, Svc.rest, Herds.view, Herds.rest, Dct.view, Dct.rest, Dct.held, Fw.view, Fw.rest, Fw.held]

@[simp] theorem State_acnSent_frame (s : State) (k : Packet) (hoff : Off wt [.hdr .ep, .page .ep 0x32, .ag, .sent]) :
    (State.acnSent s k).view wt = s.view wt := by
  simp at hoff
  unfold State.acnSent; (try simp only [sw_beq_ep, ep_beq_sw, sw_beq_sw, ep_beq_ep, Bool.false_eq_true, Bool.true_and, Bool.false_and, if_true, if_false]); (repeat' split) <;> (try dsimp only) <;> first | contradiction | simp +decide [State.acnSent, hoff, Chip.view, Chip.rest, Pool.view, Pool.rest, Svc.view, Svc.rest, Herds.view, Herds.rest, Dct.view, Dct.rest, Dct.held, Fw.view, Fw.rest, Fw.held]

@[simp] theorem State_tookTag_frame (s : State) (t : Nat) (hoff : Off wt [.ag]) :
    (State.tookTag s t).view wt = s.view wt := by
  simp at hoff
  simp [State.tookTag, hoff, Chip.view, Chip.rest, Pool.view, Pool.rest, Svc.view, Svc.rest, Herds.view, Herds.rest, Dct.view, Dct.rest, Dct.held, Fw.view, Fw.rest, Fw.held]

@[simp] theorem State_sendReq_frame (s : State) (for_ : ReqFor) (k : Packet) (tag : Nat) (hoff : Off wt [.hdr .ep, .page .ep 0x10, .page .ep 0x32, .page .ep 0x280, .ports .ep, .rly, .reqs, .ag, .sent]) :
    (State.sendReq s for_ k tag).view wt = s.view wt := by
  simp at hoff
  unfold State.sendReq
  dsimp only
  rw [State_epInject_frame _ _ (by simp [hoff]), reqs_view _ _ (by simp [hoff])]
  simp [hoff]

@[simp] theorem State_onEpReq_frame (s : State) (tag : Nat) (f : Req → Req) (hoff : Off wt [.reqs]) :
    (State.onEpReq s tag f).view wt = s.view wt := by
  simp at hoff
  unfold State.onEpReq; (try simp only [sw_beq_ep, ep_beq_sw, sw_beq_sw, ep_beq_ep, Bool.false_eq_true, Bool.true_and, Bool.false_and, if_true, if_false]); (repeat' split) <;> first | contradiction | simp +decide [State.onEpReq, hoff, State.view, SwState.view, EpState.view, -view_eta]

@[simp] theorem State_resendReq_frame (s : State) (r : Req) (hoff : Off wt [.hdr .ep, .page .ep 0x10, .page .ep 0x22, .page .ep 0x32, .page .ep 0x280, .ports .ep, .rly, .reqs, .ag, .sent]) :
    (State.resendReq s r).view wt = s.view wt := by
  simp at hoff
  simp [State.resendReq, hoff, Chip.view, Chip.rest, Pool.view, Pool.rest, Svc.view, Svc.rest, Herds.view, Herds.rest, Dct.view, Dct.rest, Dct.held, Fw.view, Fw.rest, Fw.held]

@[simp] theorem State_endReq_frame (s : State) (r : Req) (timedOut : Bool) (hoff : Off wt [.reqs, .ag]) :
    (State.endReq s r timedOut).view wt = s.view wt := by
  simp at hoff
  unfold State.endReq
  dsimp only
  refine Eq.trans (when_view _ _ _ ?_) (Eq.trans (when_view _ _ _ ?_) (reqs_view _ _ (by simp [hoff])))
  · simp [hoff]
  · simp [hoff]

@[simp] theorem State_cmdSettle_frame (s : State) (q i : Nat) (hoff : Off wt [.cmds]) :
    (State.cmdSettle s q i).view wt = s.view wt := by
  simp at hoff
  unfold State.cmdSettle; (try simp only [sw_beq_ep, ep_beq_sw, sw_beq_sw, ep_beq_ep, Bool.false_eq_true, Bool.true_and, Bool.false_and, if_true, if_false]); (repeat' split) <;> (try dsimp only) <;> first | contradiction | simp +decide [State.cmdSettle, hoff, Chip.view, Chip.rest, Pool.view, Pool.rest, Svc.view, Svc.rest, Herds.view, Herds.rest, Dct.view, Dct.rest, Dct.held, Fw.view, Fw.rest, Fw.held]

@[simp] theorem State_cmdTakes_frame (s : State) (q : Access) (status : Nat) (data : List Byte) (aux : Nat) (resent : Bool) (hoff : Off wt [.page .ep 0x4, .cmds, .ag, .sent]) :
    (State.cmdTakes s q status data aux resent).view wt = s.view wt := by
  simp at hoff
  unfold State.cmdTakes; (try simp only [sw_beq_ep, ep_beq_sw, sw_beq_sw, ep_beq_ep, Bool.false_eq_true, Bool.true_and, Bool.false_and, if_true, if_false]); (repeat' split) <;> (try dsimp only) <;> first | contradiction | simp +decide [State.cmdTakes, hoff, Chip.view, Chip.rest, Pool.view, Pool.rest, Svc.view, Svc.rest, Herds.view, Herds.rest, Dct.view, Dct.rest, Dct.held, Fw.view, Fw.rest, Fw.held]

@[simp] theorem State_dropAcc_frame (s : State) (id : Nat) (hoff : Off wt [.ag]) :
    (State.dropAcc s id).view wt = s.view wt := by
  simp at hoff
  simp [State.dropAcc, hoff, Chip.view, Chip.rest, Pool.view, Pool.rest, Svc.view, Svc.rest, Herds.view, Herds.rest, Dct.view, Dct.rest, Dct.held, Fw.view, Fw.rest, Fw.held]

@[simp] theorem State_finish_frame (s : State) (id status : Nat) (data : List Byte) (aux : Nat) (resent : Bool) (hoff : Off wt [.page .ep 0x4, .cmds, .ag, .sent]) :
    (State.finish s id status data aux resent).view wt = s.view wt := by
  simp at hoff
  unfold State.finish; (try simp only [sw_beq_ep, ep_beq_sw, sw_beq_sw, ep_beq_ep, Bool.false_eq_true, Bool.true_and, Bool.false_and, if_true, if_false]); (repeat' split) <;> (try dsimp only) <;> first | contradiction | simp +decide [State.finish, hoff, Chip.view, Chip.rest, Pool.view, Pool.rest, Svc.view, Svc.rest, Herds.view, Herds.rest, Dct.view, Dct.rest, Dct.held, Fw.view, Fw.rest, Fw.held]

@[simp] theorem State_onAcc_frame (s : State) (id : Nat) (f : Access → Access) (hoff : Off wt [.ag]) :
    (State.onAcc s id f).view wt = s.view wt := by
  simp at hoff
  simp [State.onAcc, hoff, Chip.view, Chip.rest, Pool.view, Pool.rest, Svc.view, Svc.rest, Herds.view, Herds.rest, Dct.view, Dct.rest, Dct.held, Fw.view, Fw.rest, Fw.held]

@[simp] theorem State_keepCopy_frame (s : State) (a : Word) (c : Copy) (hoff : Off wt [.ag]) :
    (State.keepCopy s a c).view wt = s.view wt := by
  simp at hoff
  simp [State.keepCopy, hoff, Chip.view, Chip.rest, Pool.view, Pool.rest, Svc.view, Svc.rest, Herds.view, Herds.rest, Dct.view, Dct.rest, Dct.held, Fw.view, Fw.rest, Fw.held]

@[simp] theorem State_localSync_frame (s : State) (q : Access) (hoff : Off wt [.page .ep 0x4, .page .ep 0x10, .page .ep 0x21, .page .ep 0x280, .ports .ep, .sync .ep, .rly, .cmds, .ag, .sent]) :
    (State.localSync s q).view wt = s.view wt := by
  simp at hoff
  simp [State.localSync, hoff, Chip.view, Chip.rest, Pool.view, Pool.rest, Svc.view, Svc.rest, Herds.view, Herds.rest, Dct.view, Dct.rest, Dct.held, Fw.view, Fw.rest, Fw.held]

@[simp] theorem State_sendAcc_frame (s : State) (q : Access) (op : Nat) (fab : Word) (len : Nat) (data : List Byte) (hoff : Off wt [.hdr .ep, .page .ep 0x4, .page .ep 0x10, .page .ep 0x32, .page .ep 0x280, .ports .ep, .rly, .reqs, .ag, .sent]) :
    (State.sendAcc s q op fab len data).view wt = s.view wt := by
  simp at hoff
  unfold State.sendAcc; (try simp only [sw_beq_ep, ep_beq_sw, sw_beq_sw, ep_beq_ep, Bool.false_eq_true, Bool.true_and, Bool.false_and, if_true, if_false]); (repeat' split) <;> (try dsimp only) <;> first | contradiction | simp +decide [State.sendAcc, hoff, Chip.view, Chip.rest, Pool.view, Pool.rest, Svc.view, Svc.rest, Herds.view, Herds.rest, Dct.view, Dct.rest, Dct.held, Fw.view, Fw.rest, Fw.held]

@[simp] theorem State_epWriteBack_frame (s : State) (q : Access) (e : Nat × Copy) (hoff : Off wt [.ag]) :
    (State.epWriteBack s q e).view wt = s.view wt := by
  simp at hoff
  simp [State.epWriteBack, hoff, Chip.view, Chip.rest, Pool.view, Pool.rest, Svc.view, Svc.rest, Herds.view, Herds.rest, Dct.view, Dct.rest, Dct.held, Fw.view, Fw.rest, Fw.held]

@[simp] theorem State_runCached_frame (s : State) (q : Access) (hoff : Off wt [.hdr .ep, .page .ep 0x4, .page .ep 0x10, .page .ep 0x32, .page .ep 0x280, .ports .ep, .rly, .cmds, .reqs, .ag, .sent]) :
    (State.runCached s q).view wt = s.view wt := by
  simp at hoff
  unfold State.runCached; (try simp only [sw_beq_ep, ep_beq_sw, sw_beq_sw, ep_beq_ep, Bool.false_eq_true, Bool.true_and, Bool.false_and, if_true, if_false]); (repeat' split) <;> (try dsimp only) <;> first | contradiction | simp +decide [State.runCached, hoff, Chip.view, Chip.rest, Pool.view, Pool.rest, Svc.view, Svc.rest, Herds.view, Herds.rest, Dct.view, Dct.rest, Dct.held, Fw.view, Fw.rest, Fw.held]

@[simp] theorem State_cachedAnswer_frame (s : State) (q : Access) (status : Nat) (data : List Byte) (uncached resent : Bool) (hoff : Off wt [.page .ep 0x4, .cmds, .ag, .sent]) :
    (State.cachedAnswer s q status data uncached resent).view wt = s.view wt := by
  simp at hoff
  unfold State.cachedAnswer; (try simp only [sw_beq_ep, ep_beq_sw, sw_beq_sw, ep_beq_ep, Bool.false_eq_true, Bool.true_and, Bool.false_and, if_true, if_false]); (repeat' split) <;> (try dsimp only) <;> first | contradiction | simp +decide [State.cachedAnswer, hoff, Chip.view, Chip.rest, Pool.view, Pool.rest, Svc.view, Svc.rest, Herds.view, Herds.rest, Dct.view, Dct.rest, Dct.held, Fw.view, Fw.rest, Fw.held]

@[simp] theorem State_driveOne_frame (s : State) (q : Access) (hoff : Off wt [.hdr .ep, .page .ep 0x4, .page .ep 0x10, .page .ep 0x21, .page .ep 0x32, .page .ep 0x280, .ports .ep, .sync .ep, .rly, .cmds, .reqs, .ag, .sent]) :
    (State.driveOne s q).view wt = s.view wt := by
  simp at hoff
  unfold State.driveOne; (try simp only [sw_beq_ep, ep_beq_sw, sw_beq_sw, ep_beq_ep, Bool.false_eq_true, Bool.true_and, Bool.false_and, if_true, if_false]); (repeat' split) <;> (try dsimp only) <;> first | contradiction | simp +decide [State.driveOne, hoff, Chip.view, Chip.rest, Pool.view, Pool.rest, Svc.view, Svc.rest, Herds.view, Herds.rest, Dct.view, Dct.rest, Dct.held, Fw.view, Fw.rest, Fw.held]

@[simp] theorem State_driveXlate_frame (s : State) (x : Xlate) (hoff : Off wt [.hdr .ep, .page .ep 0x10, .page .ep 0x31, .page .ep 0x32, .page .ep 0x280, .ports .ep, .rly, .reqs, .ag, .sent]) :
    (State.driveXlate s x).view wt = s.view wt := by
  simp at hoff
  unfold State.driveXlate; (try simp only [sw_beq_ep, ep_beq_sw, sw_beq_sw, ep_beq_ep, Bool.false_eq_true, Bool.true_and, Bool.false_and, if_true, if_false]); (repeat' split) <;> (try dsimp only) <;> first | contradiction | simp +decide [State.driveXlate, hoff, Chip.view, Chip.rest, Pool.view, Pool.rest, Svc.view, Svc.rest, Herds.view, Herds.rest, Dct.view, Dct.rest, Dct.held, Fw.view, Fw.rest, Fw.held]

@[simp] theorem State_drivePass_frame (s : State) (hoff : Off wt [.hdr .ep, .page .ep 0x4, .page .ep 0x10, .page .ep 0x21, .page .ep 0x31, .page .ep 0x32, .page .ep 0x280, .ports .ep, .sync .ep, .rly, .cmds, .reqs, .ag, .sent]) :
    (State.drivePass s).view wt = s.view wt := by
  simp at hoff
  unfold State.drivePass; (try simp only [sw_beq_ep, ep_beq_sw, sw_beq_sw, ep_beq_ep, Bool.false_eq_true, Bool.true_and, Bool.false_and, if_true, if_false]); repeat' (first | contradiction | (simp +decide [State.drivePass, hoff, Chip.view, Chip.rest, Pool.view, Pool.rest, Svc.view, Svc.rest, Herds.view, Herds.rest, Dct.view, Dct.rest, Dct.held, Fw.view, Fw.rest, Fw.held]; done) | (intros; split) | (intros; first | refine Eq.trans (foldl_view _ _ _ fun _ _ => ?_) ?_ | refine Eq.trans (foldl_fst_view _ _ _ fun _ _ => ?_) ?_ | refine Eq.trans (when_view _ _ _ ?_) ?_) | dsimp only | simp +decide [State.drivePass, hoff])

@[simp] theorem State_driveN_frame (x0 : Nat) (x1 : State) (hoff : Off wt [.hdr .ep, .page .ep 0x4, .page .ep 0x10, .page .ep 0x21, .page .ep 0x31, .page .ep 0x32, .page .ep 0x280, .ports .ep, .sync .ep, .rly, .cmds, .reqs, .ag, .sent]) :
    (State.driveN x0 x1).view wt = x1.view wt := by
  simp at hoff
  induction x0 generalizing x1 with
  | zero => rfl
  | succ n ih => unfold State.driveN; dsimp only; split <;> simp [ih, hoff]

@[simp] theorem State_drive_frame (s : State) (hoff : Off wt [.hdr .ep, .page .ep 0x4, .page .ep 0x10, .page .ep 0x21, .page .ep 0x31, .page .ep 0x32, .page .ep 0x280, .ports .ep, .sync .ep, .rly, .cmds, .reqs, .ag, .sent]) :
    (State.drive s).view wt = s.view wt := by
  simp at hoff
  simp [State.drive, hoff, Chip.view, Chip.rest, Pool.view, Pool.rest, Svc.view, Svc.rest, Herds.view, Herds.rest, Dct.view, Dct.rest, Dct.held, Fw.view, Fw.rest, Fw.held]

@[simp] theorem State_addAcc_frame (s : State) (q : Access) (hoff : Off wt [.ag]) :
    (State.addAcc s q).view wt = s.view wt := by
  simp at hoff
  simp [State.addAcc, hoff, Chip.view, Chip.rest, Pool.view, Pool.rest, Svc.view, Svc.rest, Herds.view, Herds.rest, Dct.view, Dct.rest, Dct.held, Fw.view, Fw.rest, Fw.held]

@[simp] theorem State_onMemb_frame (s : State) (q i : Nat) (f : Memb → Memb) (hoff : Off wt [.ag]) :
    (State.onMemb s q i f).view wt = s.view wt := by
  simp at hoff
  simp [State.onMemb, hoff, Chip.view, Chip.rest, Pool.view, Pool.rest, Svc.view, Svc.rest, Herds.view, Herds.rest, Dct.view, Dct.rest, Dct.held, Fw.view, Fw.rest, Fw.held]

@[simp] theorem State_membSend_frame (s : State) (m : Memb) (op : Nat) (pre : HerdPrefix) (data : List Byte) (hoff : Off wt [.page .ep 0x10, .page .ep 0x280, .ports .ep, .rly, .sent]) :
    (State.membSend s m op pre data).view wt = s.view wt := by
  simp at hoff
  simp [State.membSend, hoff, Chip.view, Chip.rest, Pool.view, Pool.rest, Svc.view, Svc.rest, Herds.view, Herds.rest, Dct.view, Dct.rest, Dct.held, Fw.view, Fw.rest, Fw.held]

@[simp] theorem State_membAsk_frame (s : State) (m : Memb) (reason : Nat) (hoff : Off wt [.page .ep 0x10, .page .ep 0x280, .ports .ep, .rly, .sent]) :
    (State.membAsk s m reason).view wt = s.view wt := by
  simp at hoff
  simp [State.membAsk, hoff, Chip.view, Chip.rest, Pool.view, Pool.rest, Svc.view, Svc.rest, Herds.view, Herds.rest, Dct.view, Dct.rest, Dct.held, Fw.view, Fw.rest, Fw.held]

@[simp] theorem State_readChunk_frame (s : State) (m : Memb) (c : Nat) (hoff : Off wt [.ag, .sent]) :
    (State.readChunk s m c).view wt = s.view wt := by
  simp at hoff
  simp [State.readChunk, hoff, Chip.view, Chip.rest, Pool.view, Pool.rest, Svc.view, Svc.rest, Herds.view, Herds.rest, Dct.view, Dct.rest, Dct.held, Fw.view, Fw.rest, Fw.held]

@[simp] theorem State_membStart_frame (s : State) (m : Memb) (first : Nat) (hoff : Off wt [.page .ep 0x10, .page .ep 0x280, .ports .ep, .rly, .ag, .sent]) :
    (State.membStart s m first).view wt = s.view wt := by
  simp at hoff
  simp [State.membStart, hoff, Chip.view, Chip.rest, Pool.view, Pool.rest, Svc.view, Svc.rest, Herds.view, Herds.rest, Dct.view, Dct.rest, Dct.held, Fw.view, Fw.rest, Fw.held]

@[simp] theorem State_a2aCheck_frame (s : State) (q i : Nat) (hoff : Off wt [.page .ep 0x10, .page .ep 0x280, .ports .ep, .rly, .ag, .sent]) :
    (State.a2aCheck s q i).view wt = s.view wt := by
  simp at hoff
  unfold State.a2aCheck; (try simp only [sw_beq_ep, ep_beq_sw, sw_beq_sw, ep_beq_ep, Bool.false_eq_true, Bool.true_and, Bool.false_and, if_true, if_false]); (repeat' split) <;> (try dsimp only) <;> first | contradiction | simp +decide [State.a2aCheck, hoff, Chip.view, Chip.rest, Pool.view, Pool.rest, Svc.view, Svc.rest, Herds.view, Herds.rest, Dct.view, Dct.rest, Dct.held, Fw.view, Fw.rest, Fw.held]

@[simp] theorem State_readRecords_frame (s : State) (m : Memb) (lists : List Nat) (hoff : Off wt [.ag, .sent]) :
    (State.readRecords s m lists).view wt = s.view wt := by
  simp at hoff
  unfold State.readRecords; (try simp only [sw_beq_ep, ep_beq_sw, sw_beq_sw, ep_beq_ep, Bool.false_eq_true, Bool.true_and, Bool.false_and, if_true, if_false]); repeat' (first | contradiction | (simp +decide [State.readRecords, hoff, Chip.view, Chip.rest, Pool.view, Pool.rest, Svc.view, Svc.rest, Herds.view, Herds.rest, Dct.view, Dct.rest, Dct.held, Fw.view, Fw.rest, Fw.held]; done) | (intros; split) | (intros; first | refine Eq.trans (foldl_view _ _ _ fun _ _ => ?_) ?_ | refine Eq.trans (foldl_fst_view _ _ _ fun _ _ => ?_) ?_ | refine Eq.trans (when_view _ _ _ ?_) ?_) | dsimp only | simp +decide [State.readRecords, hoff])

@[simp] theorem State_membData_frame (s : State) (q i kind a b : Nat) (data : List Byte) (hoff : Off wt [.page .ep 0x10, .page .ep 0x280, .ports .ep, .rly, .ag, .sent]) :
    (State.membData s q i kind a b data).view wt = s.view wt := by
  simp at hoff
  unfold State.membData; (try simp only [sw_beq_ep, ep_beq_sw, sw_beq_sw, ep_beq_ep, Bool.false_eq_true, Bool.true_and, Bool.false_and, if_true, if_false]); (repeat' split) <;> (try dsimp only) <;> first | contradiction | simp +decide [State.membData, hoff, Chip.view, Chip.rest, Pool.view, Pool.rest, Svc.view, Svc.rest, Herds.view, Herds.rest, Dct.view, Dct.rest, Dct.held, Fw.view, Fw.rest, Fw.held]

@[simp] theorem State_membFault_frame (s : State) (q i : Nat) (hoff : Off wt [.page .ep 0x10, .page .ep 0x280, .ports .ep, .rly, .ag, .sent]) :
    (State.membFault s q i).view wt = s.view wt := by
  simp at hoff
  unfold State.membFault; (try simp only [sw_beq_ep, ep_beq_sw, sw_beq_sw, ep_beq_ep, Bool.false_eq_true, Bool.true_and, Bool.false_and, if_true, if_false]); (repeat' split) <;> (try dsimp only) <;> first | contradiction | simp +decide [State.membFault, hoff, Chip.view, Chip.rest, Pool.view, Pool.rest, Svc.view, Svc.rest, Herds.view, Herds.rest, Dct.view, Dct.rest, Dct.held, Fw.view, Fw.rest, Fw.held]

@[simp] theorem State_dropReads_frame (s : State) (q i : Nat) (hoff : Off wt [.ag]) :
    (State.dropReads s q i).view wt = s.view wt := by
  simp at hoff
  simp [State.dropReads, hoff, Chip.view, Chip.rest, Pool.view, Pool.rest, Svc.view, Svc.rest, Herds.view, Herds.rest, Dct.view, Dct.rest, Dct.held, Fw.view, Fw.rest, Fw.held]

@[simp] theorem State_membDone_frame (s : State) (m : Memb) (record : List Byte) (hoff : Off wt [.cmds, .ag]) :
    (State.membDone s m record).view wt = s.view wt := by
  simp at hoff
  simp [State.membDone, hoff, Chip.view, Chip.rest, Pool.view, Pool.rest, Svc.view, Svc.rest, Herds.view, Herds.rest, Dct.view, Dct.rest, Dct.held, Fw.view, Fw.rest, Fw.held]

@[simp] theorem State_membAbort_frame (s : State) (m : Memb) (reason : Nat) (bits : Nat) (hoff : Off wt [.page .ep 0x10, .page .ep 0x21, .page .ep 0x280, .ports .ep, .sync .ep, .rly, .cmds, .ag, .sent]) :
    (State.membAbort s m reason bits).view wt = s.view wt := by
  simp at hoff
  simp [State.membAbort, hoff, Chip.view, Chip.rest, Pool.view, Pool.rest, Svc.view, Svc.rest, Herds.view, Herds.rest, Dct.view, Dct.rest, Dct.held, Fw.view, Fw.rest, Fw.held]

@[simp] theorem State_membSignal_frame (s : State) (m : Memb) (hoff : Off wt [.page .ep 0x4, .page .ep 0x10, .page .ep 0x21, .page .ep 0x280, .ports .ep, .sync .ep, .rly, .cmds, .ag, .sent]) :
    (State.membSignal s m).view wt = s.view wt := by
  simp at hoff
  simp [State.membSignal, hoff, Chip.view, Chip.rest, Pool.view, Pool.rest, Svc.view, Svc.rest, Herds.view, Herds.rest, Dct.view, Dct.rest, Dct.held, Fw.view, Fw.rest, Fw.held]

@[simp] theorem State_membApply_frame (s : State) (q i : Nat) (hoff : Off wt [.page .ep 0x4, .page .ep 0x10, .page .ep 0x21, .page .ep 0x280, .ports .ep, .sync .ep, .rly, .cmds, .ag, .sent]) :
    (State.membApply s q i).view wt = s.view wt := by
  simp at hoff
  unfold State.membApply; (try simp only [sw_beq_ep, ep_beq_sw, sw_beq_sw, ep_beq_ep, Bool.false_eq_true, Bool.true_and, Bool.false_and, if_true, if_false]); (repeat' split) <;> (try dsimp only) <;> first | contradiction | simp +decide [State.membApply, hoff, Chip.view, Chip.rest, Pool.view, Pool.rest, Svc.view, Svc.rest, Herds.view, Herds.rest, Dct.view, Dct.rest, Dct.held, Fw.view, Fw.rest, Fw.held]

@[simp] theorem State_membResult_frame (s : State) (m : Memb) (pre : HerdPrefix) (data : List Byte) (hoff : Off wt [.page .ep 0x4, .page .ep 0x10, .page .ep 0x21, .page .ep 0x280, .ports .ep, .sync .ep, .rly, .cmds, .ag, .sent]) :
    (State.membResult s m pre data).view wt = s.view wt := by
  simp at hoff
  simp [State.membResult, hoff, Chip.view, Chip.rest, Pool.view, Pool.rest, Svc.view, Svc.rest, Herds.view, Herds.rest, Dct.view, Dct.rest, Dct.held, Fw.view, Fw.rest, Fw.held]

@[simp] theorem State_a2aGranted_frame (s : State) (m : Memb) (data : List Byte) (hoff : Off wt [.page .ep 0x10, .page .ep 0x280, .ports .ep, .rly, .ag, .sent]) :
    (State.a2aGranted s m data).view wt = s.view wt := by
  simp at hoff
  simp [State.a2aGranted, hoff, Chip.view, Chip.rest, Pool.view, Pool.rest, Svc.view, Svc.rest, Herds.view, Herds.rest, Dct.view, Dct.rest, Dct.held, Fw.view, Fw.rest, Fw.held]

@[simp] theorem State_membCounts_frame (s : State) (m : Memb) (pre : HerdPrefix) (data : List Byte) (hoff : Off wt [.page .ep 0x10, .page .ep 0x280, .ports .ep, .rly, .ag, .sent]) :
    (State.membCounts s m pre data).view wt = s.view wt := by
  simp at hoff
  simp [State.membCounts, hoff, Chip.view, Chip.rest, Pool.view, Pool.rest, Svc.view, Svc.rest, Herds.view, Herds.rest, Dct.view, Dct.rest, Dct.held, Fw.view, Fw.rest, Fw.held]

@[simp] theorem State_membRecord_frame (s : State) (m : Memb) (pre : HerdPrefix) (data : List Byte) (hoff : Off wt [.page .ep 0x10, .page .ep 0x280, .ports .ep, .rly, .ag, .sent]) :
    (State.membRecord s m pre data).view wt = s.view wt := by
  simp at hoff
  simp [State.membRecord, hoff, Chip.view, Chip.rest, Pool.view, Pool.rest, Svc.view, Svc.rest, Herds.view, Herds.rest, Dct.view, Dct.rest, Dct.held, Fw.view, Fw.rest, Fw.held]

@[simp] theorem State_membFailover_frame (s : State) (m : Memb) (hoff : Off wt [.page .ep 0x10, .page .ep 0x21, .page .ep 0x280, .ports .ep, .sync .ep, .rly, .cmds, .ag, .sent]) :
    (State.membFailover s m).view wt = s.view wt := by
  simp at hoff
  simp [State.membFailover, hoff, Chip.view, Chip.rest, Pool.view, Pool.rest, Svc.view, Svc.rest, Herds.view, Herds.rest, Dct.view, Dct.rest, Dct.held, Fw.view, Fw.rest, Fw.held]

@[simp] theorem State_membersPath_frame (s : State) (hoff : Off wt [.page .ep 0x10, .page .ep 0x21, .page .ep 0x280, .ports .ep, .sync .ep, .rly, .cmds, .ag, .sent]) :
    (State.membersPath s).view wt = s.view wt := by
  simp at hoff
  simp [State.membersPath, hoff, Chip.view, Chip.rest, Pool.view, Pool.rest, Svc.view, Svc.rest, Herds.view, Herds.rest, Dct.view, Dct.rest, Dct.held, Fw.view, Fw.rest, Fw.held]

@[simp] theorem State_atcDropAll_frame (s : State) (hoff : Off wt [.ag]) :
    (State.atcDropAll s).view wt = s.view wt := by
  simp at hoff
  simp [State.atcDropAll, hoff, Chip.view, Chip.rest, Pool.view, Pool.rest, Svc.view, Svc.rest, Herds.view, Herds.rest, Dct.view, Dct.rest, Dct.held, Fw.view, Fw.rest, Fw.held]

@[simp] theorem State_epLinkLost_frame (s : State) (hoff : Off wt [.hdr .ep, .page .ep 0x4, .page .ep 0x10, .page .ep 0x21, .page .ep 0x31, .page .ep 0x32, .page .ep 0x280, .ports .ep, .sync .ep, .rly, .cmds, .reqs, .ag, .sent]) :
    (State.epLinkLost s).view wt = s.view wt := by
  simp at hoff
  simp [State.epLinkLost, hoff, Chip.view, Chip.rest, Pool.view, Pool.rest, Svc.view, Svc.rest, Herds.view, Herds.rest, Dct.view, Dct.rest, Dct.held, Fw.view, Fw.rest, Fw.held]

@[simp] theorem State_xlateDone_frame (s : State) (id status : Nat) (data : List Byte) (hoff : Off wt [.hdr .ep, .page .ep 0x4, .page .ep 0xb, .cmds, .ag, .sent, .free]) :
    (State.xlateDone s id status data).view wt = s.view wt := by
  simp at hoff
  unfold State.xlateDone; (try simp only [sw_beq_ep, ep_beq_sw, sw_beq_sw, ep_beq_ep, Bool.false_eq_true, Bool.true_and, Bool.false_and, if_true, if_false]); (repeat' split) <;> (try dsimp only) <;> first | contradiction | simp +decide [State.xlateDone, hoff, Chip.view, Chip.rest, Pool.view, Pool.rest, Svc.view, Svc.rest, Herds.view, Herds.rest, Dct.view, Dct.rest, Dct.held, Fw.view, Fw.rest, Fw.held]

@[simp] theorem State_completeReq_frame (s : State) (r : Req) (timedOut : Bool) (status : Nat) (data : List Byte) (aux : Nat) (uncached : Bool) (hoff : Off wt [.hdr .ep, .page .ep 0x4, .page .ep 0xb, .page .ep 0x10, .page .ep 0x21, .page .ep 0x31, .page .ep 0x32, .page .ep 0x280, .ports .ep, .sync .ep, .rly, .cmds, .reqs, .ag, .sent, .free]) :
    (State.completeReq s r timedOut status data aux uncached).view wt = s.view wt := by
  simp at hoff
  unfold State.completeReq; (try simp only [sw_beq_ep, ep_beq_sw, sw_beq_sw, ep_beq_ep, Bool.false_eq_true, Bool.true_and, Bool.false_and, if_true, if_false]); (repeat' split) <;> (try dsimp only) <;> first | contradiction | simp +decide [State.completeReq, hoff, Chip.view, Chip.rest, Pool.view, Pool.rest, Svc.view, Svc.rest, Herds.view, Herds.rest, Dct.view, Dct.rest, Dct.held, Fw.view, Fw.rest, Fw.held]

@[simp] theorem State_badAnswer_frame (s : State) (r : Req) (k : Packet) (hoff : Off wt [.hdr .ep, .page .ep 0x4, .page .ep 0xb, .page .ep 0x10, .page .ep 0x21, .page .ep 0x22, .page .ep 0x31, .page .ep 0x32, .page .ep 0x280, .log .ep, .ports .ep, .sync .ep, .rly, .cmds, .reqs, .ag, .sent, .free]) :
    (State.badAnswer s r k).view wt = s.view wt := by
  simp at hoff
  simp [State.badAnswer, hoff, Chip.view, Chip.rest, Pool.view, Pool.rest, Svc.view, Svc.rest, Herds.view, Herds.rest, Dct.view, Dct.rest, Dct.held, Fw.view, Fw.rest, Fw.held]

@[simp] theorem State_takeAnswer_frame (s : State) (r : Req) (k : Packet) (hoff : Off wt [.hdr .ep, .page .ep 0x4, .page .ep 0xb, .page .ep 0x10, .page .ep 0x21, .page .ep 0x22, .page .ep 0x31, .page .ep 0x32, .page .ep 0x280, .log .ep, .ports .ep, .sync .ep, .rly, .cmds, .reqs, .ag, .sent, .free]) :
    (State.takeAnswer s r k).view wt = s.view wt := by
  simp at hoff
  simp [State.takeAnswer, hoff, Chip.view, Chip.rest, Pool.view, Pool.rest, Svc.view, Svc.rest, Herds.view, Herds.rest, Dct.view, Dct.rest, Dct.held, Fw.view, Fw.rest, Fw.held]

@[simp] theorem State_reqExpire_frame (s : State) (r : Req) (hoff : Off wt [.hdr .ep, .page .ep 0x4, .page .ep 0xb, .page .ep 0x10, .page .ep 0x21, .page .ep 0x22, .page .ep 0x31, .page .ep 0x32, .page .ep 0x280, .ports .ep, .sync .ep, .rly, .cmds, .reqs, .ag, .sent, .free]) :
    (State.reqExpire s r).view wt = s.view wt := by
  simp at hoff
  simp [State.reqExpire, hoff, Chip.view, Chip.rest, Pool.view, Pool.rest, Svc.view, Svc.rest, Herds.view, Herds.rest, Dct.view, Dct.rest, Dct.held, Fw.view, Fw.rest, Fw.held]

@[simp] theorem State_strayAnswer_frame (s : State) (k : Packet) (hoff : Off wt [.hdr .ep]) :
    (State.strayAnswer s k).view wt = s.view wt := by
  simp at hoff
  simp [State.strayAnswer, hoff, Chip.view, Chip.rest, Pool.view, Pool.rest, Svc.view, Svc.rest, Herds.view, Herds.rest, Dct.view, Dct.rest, Dct.held, Fw.view, Fw.rest, Fw.held]

@[simp] theorem State_answerTo_frame (s : State) (k : Packet) (table : Bool) (hoff : Off wt [.hdr .ep, .page .ep 0x4, .page .ep 0xb, .page .ep 0x10, .page .ep 0x21, .page .ep 0x22, .page .ep 0x31, .page .ep 0x32, .page .ep 0x280, .log .ep, .ports .ep, .sync .ep, .rly, .cmds, .reqs, .ag, .sent, .free]) :
    (State.answerTo s k table).view wt = s.view wt := by
  simp at hoff
  unfold State.answerTo; (try simp only [sw_beq_ep, ep_beq_sw, sw_beq_sw, ep_beq_ep, Bool.false_eq_true, Bool.true_and, Bool.false_and, if_true, if_false]); (repeat' split) <;> (try dsimp only) <;> first | contradiction | simp +decide [State.answerTo, hoff, Chip.view, Chip.rest, Pool.view, Pool.rest, Svc.view, Svc.rest, Herds.view, Herds.rest, Dct.view, Dct.rest, Dct.held, Fw.view, Fw.rest, Fw.held]

theorem answerReceive_frame (k : Packet) (s : State) (hoff : Off wt [.hdr .ep, .page .ep 0x4, .page .ep 0xb, .page .ep 0x10, .page .ep 0x21, .page .ep 0x22, .page .ep 0x31, .page .ep 0x32, .page .ep 0x280, .log .ep, .ports .ep, .sync .ep, .rly, .cmds, .reqs, .ag, .sent, .free]) :
    (answerReceive k s).view wt = s.view wt := by
  simp at hoff
  unfold answerReceive; (try simp only [sw_beq_ep, ep_beq_sw, sw_beq_sw, ep_beq_ep, Bool.false_eq_true, Bool.true_and, Bool.false_and, if_true, if_false]); (repeat' split) <;> (try dsimp only) <;> first | contradiction | simp +decide [answerReceive, hoff, Chip.view, Chip.rest, Pool.view, Pool.rest, Svc.view, Svc.rest, Herds.view, Herds.rest, Dct.view, Dct.rest, Dct.held, Fw.view, Fw.rest, Fw.held]

theorem tableReadComplete_frame (k : Packet) (s : State) (hoff : Off wt [.hdr .ep, .page .ep 0x4, .page .ep 0xb, .page .ep 0x10, .page .ep 0x21, .page .ep 0x22, .page .ep 0x31, .page .ep 0x32, .page .ep 0x280, .log .ep, .ports .ep, .sync .ep, .rly, .cmds, .reqs, .ag, .sent, .free]) :
    (tableReadComplete k s).view wt = s.view wt := by
  simp at hoff
  unfold tableReadComplete; (try simp only [sw_beq_ep, ep_beq_sw, sw_beq_sw, ep_beq_ep, Bool.false_eq_true, Bool.true_and, Bool.false_and, if_true, if_false]); (repeat' split) <;> (try dsimp only) <;> first | contradiction | simp +decide [tableReadComplete, hoff, Chip.view, Chip.rest, Pool.view, Pool.rest, Svc.view, Svc.rest, Herds.view, Herds.rest, Dct.view, Dct.rest, Dct.held, Fw.view, Fw.rest, Fw.held]

theorem gatherRowReceive_frame (k : Packet) (s : State) (hoff : Off wt [.hdr .ep, .page .ep 0x4, .page .ep 0xb, .page .ep 0x10, .page .ep 0x21, .page .ep 0x22, .page .ep 0x31, .page .ep 0x32, .page .ep 0x280, .log .ep, .ports .ep, .sync .ep, .rly, .cmds, .reqs, .ag, .sent, .free]) :
    (gatherRowReceive k s).view wt = s.view wt := by
  simp at hoff
  unfold gatherRowReceive; (try simp only [sw_beq_ep, ep_beq_sw, sw_beq_sw, ep_beq_ep, Bool.false_eq_true, Bool.true_and, Bool.false_and, if_true, if_false]); (repeat' split) <;> (try dsimp only) <;> first | contradiction | simp +decide [gatherRowReceive, hoff, Chip.view, Chip.rest, Pool.view, Pool.rest, Svc.view, Svc.rest, Herds.view, Herds.rest, Dct.view, Dct.rest, Dct.held, Fw.view, Fw.rest, Fw.held]

theorem resendTimer_frame (tag : Nat) (s : State) (hoff : Off wt [.hdr .ep, .page .ep 0x4, .page .ep 0xb, .page .ep 0x10, .page .ep 0x21, .page .ep 0x22, .page .ep 0x31, .page .ep 0x32, .page .ep 0x280, .ports .ep, .sync .ep, .rly, .cmds, .reqs, .ag, .sent, .free]) :
    (resendTimer tag s).view wt = s.view wt := by
  simp at hoff
  unfold resendTimer; (try simp only [sw_beq_ep, ep_beq_sw, sw_beq_sw, ep_beq_ep, Bool.false_eq_true, Bool.true_and, Bool.false_and, if_true, if_false]); (repeat' split) <;> (try dsimp only) <;> first | contradiction | simp +decide [resendTimer, hoff, Chip.view, Chip.rest, Pool.view, Pool.rest, Svc.view, Svc.rest, Herds.view, Herds.rest, Dct.view, Dct.rest, Dct.held, Fw.view, Fw.rest, Fw.held]

theorem requestTimeout_frame (tag : Nat) (s : State) (hoff : Off wt [.hdr .ep, .page .ep 0x4, .page .ep 0xb, .page .ep 0x10, .page .ep 0x21, .page .ep 0x22, .page .ep 0x31, .page .ep 0x32, .page .ep 0x280, .ports .ep, .sync .ep, .rly, .cmds, .reqs, .ag, .sent, .free]) :
    (requestTimeout tag s).view wt = s.view wt := by
  simp at hoff
  unfold requestTimeout; (try simp only [sw_beq_ep, ep_beq_sw, sw_beq_sw, ep_beq_ep, Bool.false_eq_true, Bool.true_and, Bool.false_and, if_true, if_false]); (repeat' split) <;> (try dsimp only) <;> first | contradiction | simp +decide [requestTimeout, hoff, Chip.view, Chip.rest, Pool.view, Pool.rest, Svc.view, Svc.rest, Herds.view, Herds.rest, Dct.view, Dct.rest, Dct.held, Fw.view, Fw.rest, Fw.held]

theorem tagHoldExpiry_frame (tag : Nat) (s : State) (hoff : Off wt [.hdr .ep, .page .ep 0x4, .page .ep 0x10, .page .ep 0x21, .page .ep 0x31, .page .ep 0x32, .page .ep 0x280, .ports .ep, .sync .ep, .rly, .cmds, .reqs, .ag, .sent]) :
    (tagHoldExpiry tag s).view wt = s.view wt := by
  simp at hoff
  unfold tagHoldExpiry; (try simp only [sw_beq_ep, ep_beq_sw, sw_beq_sw, ep_beq_ep, Bool.false_eq_true, Bool.true_and, Bool.false_and, if_true, if_false]); (repeat' split) <;> (try dsimp only) <;> first | contradiction | simp +decide [tagHoldExpiry, hoff, Chip.view, Chip.rest, Pool.view, Pool.rest, Svc.view, Svc.rest, Herds.view, Herds.rest, Dct.view, Dct.rest, Dct.held, Fw.view, Fw.rest, Fw.held]

theorem outcomeReleaseSend_frame (kind target : Nat) (s : State) (hoff : Off wt [.page .ep 0x10, .page .ep 0x22, .page .ep 0x280, .ports .ep, .rly, .ag, .sent]) :
    (outcomeReleaseSend kind target s).view wt = s.view wt := by
  simp at hoff
  simp [outcomeReleaseSend, hoff, Chip.view, Chip.rest, Pool.view, Pool.rest, Svc.view, Svc.rest, Herds.view, Herds.rest, Dct.view, Dct.rest, Dct.held, Fw.view, Fw.rest, Fw.held]

theorem ddpRecordExpiry_frame (src tag : Nat) (s : State) (hoff : Off wt [.page .ep 0x22, .ddp]) :
    (ddpRecordExpiry src tag s).view wt = s.view wt := by
  simp at hoff
  unfold ddpRecordExpiry; (try simp only [sw_beq_ep, ep_beq_sw, sw_beq_sw, ep_beq_ep, Bool.false_eq_true, Bool.true_and, Bool.false_and, if_true, if_false]); (repeat' split) <;> (try dsimp only) <;> first | contradiction | simp +decide [ddpRecordExpiry, hoff, Chip.view, Chip.rest, Pool.view, Pool.rest, Svc.view, Svc.rest, Herds.view, Herds.rest, Dct.view, Dct.rest, Dct.held, Fw.view, Fw.rest, Fw.held]

theorem memReq_frame (id queue op addr len : Nat) (data : List Byte) (vol cached : Bool) (s : State) (hoff : Off wt [.hdr .ep, .page .ep 0x4, .page .ep 0x10, .page .ep 0x21, .page .ep 0x31, .page .ep 0x32, .page .ep 0x280, .ports .ep, .sync .ep, .rly, .cmds, .reqs, .ag, .sent]) :
    (memReq id queue op addr len data vol cached s).view wt = s.view wt := by
  simp at hoff
  simp [memReq, hoff, Chip.view, Chip.rest, Pool.view, Pool.rest, Svc.view, Svc.rest, Herds.view, Herds.rest, Dct.view, Dct.rest, Dct.held, Fw.view, Fw.rest, Fw.held]

@[simp] theorem State_epSnoopAnswer_frame (s : State) (k : Packet) (rsp : Nat) (data : List Byte) (hoff : Off wt [.page .ep 0x10, .page .ep 0x280, .ports .ep, .rly, .sent]) :
    (State.epSnoopAnswer s k rsp data).view wt = s.view wt := by
  simp at hoff
  simp [State.epSnoopAnswer, hoff, Chip.view, Chip.rest, Pool.view, Pool.rest, Svc.view, Svc.rest, Herds.view, Herds.rest, Dct.view, Dct.rest, Dct.held, Fw.view, Fw.rest, Fw.held]

theorem snoopReceive_frame (k : Packet) (s : State) (hoff : Off wt [.hdr .ep, .page .ep 0xb, .page .ep 0x10, .page .ep 0x280, .log .ep, .ports .ep, .rly, .ag, .sent]) :
    (snoopReceive k s).view wt = s.view wt := by
  simp at hoff
  unfold snoopReceive; (try simp only [sw_beq_ep, ep_beq_sw, sw_beq_sw, ep_beq_ep, Bool.false_eq_true, Bool.true_and, Bool.false_and, if_true, if_false]); (repeat' split) <;> (try dsimp only) <;> first | contradiction | simp +decide [snoopReceive, hoff, Chip.view, Chip.rest, Pool.view, Pool.rest, Svc.view, Svc.rest, Herds.view, Herds.rest, Dct.view, Dct.rest, Dct.held, Fw.view, Fw.rest, Fw.held]

@[simp] theorem State_atcDrop_frame (s : State) (f : Nat → Bool) (hoff : Off wt [.ag]) :
    (State.atcDrop s f).view wt = s.view wt := by
  simp at hoff
  simp [State.atcDrop, hoff, Chip.view, Chip.rest, Pool.view, Pool.rest, Svc.view, Svc.rest, Herds.view, Herds.rest, Dct.view, Dct.rest, Dct.held, Fw.view, Fw.rest, Fw.held]

theorem invalReceive_frame (k : Packet) (s : State) (hoff : Off wt [.hdr .ep, .page .ep 0x4, .page .ep 0xb, .page .ep 0x10, .page .ep 0x21, .page .ep 0x31, .page .ep 0x32, .page .ep 0x280, .log .ep, .ports .ep, .sync .ep, .rly, .cmds, .reqs, .ag, .sent]) :
    (invalReceive k s).view wt = s.view wt := by
  simp at hoff
  simp [invalReceive, hoff, Chip.view, Chip.rest, Pool.view, Pool.rest, Svc.view, Svc.rest, Herds.view, Herds.rest, Dct.view, Dct.rest, Dct.held, Fw.view, Fw.rest, Fw.held]

theorem invalAckSend_frame (s : State) (hoff : Off wt [.page .ep 0x10, .page .ep 0x280, .ports .ep, .rly, .ag, .sent]) :
    (invalAckSend s).view wt = s.view wt := by
  simp at hoff
  unfold invalAckSend; (try simp only [sw_beq_ep, ep_beq_sw, sw_beq_sw, ep_beq_ep, Bool.false_eq_true, Bool.true_and, Bool.false_and, if_true, if_false]); (repeat' split) <;> (try dsimp only) <;> first | contradiction | simp +decide [invalAckSend, hoff, Chip.view, Chip.rest, Pool.view, Pool.rest, Svc.view, Svc.rest, Herds.view, Herds.rest, Dct.view, Dct.rest, Dct.held, Fw.view, Fw.rest, Fw.held]

@[simp] theorem State_dropWin_frame (s : State) (id : Nat) (hoff : Off wt [.ag]) :
    (State.dropWin s id).view wt = s.view wt := by
  simp at hoff
  simp [State.dropWin, hoff, Chip.view, Chip.rest, Pool.view, Pool.rest, Svc.view, Svc.rest, Herds.view, Herds.rest, Dct.view, Dct.rest, Dct.held, Fw.view, Fw.rest, Fw.held]

@[simp] theorem State_winPerform_frame (s : State) (x : WinReq) (addr : Nat) (hoff : Off wt [.hdr .ep, .page .ep 0x10, .page .ep 0x22, .page .ep 0x32, .page .ep 0x280, .ports .ep, .rly, .ddp, .ag, .sent]) :
    (State.winPerform s x addr).view wt = s.view wt := by
  simp at hoff
  simp [State.winPerform, hoff, Chip.view, Chip.rest, Pool.view, Pool.rest, Svc.view, Svc.rest, Herds.view, Herds.rest, Dct.view, Dct.rest, Dct.held, Fw.view, Fw.rest, Fw.held]

@[simp] theorem State_subFill_frame (s : State) (key : Nat) (hoff : Off wt [.ag, .sent]) :
    (State.subFill s key).view wt = s.view wt := by
  simp at hoff
  simp [State.subFill, hoff, Chip.view, Chip.rest, Pool.view, Pool.rest, Svc.view, Svc.rest, Herds.view, Herds.rest, Dct.view, Dct.rest, Dct.held, Fw.view, Fw.rest, Fw.held]

theorem windowRequest_frame (k : Packet) (s : State) (hoff : Off wt [.hdr .ep, .page .ep 0xb, .page .ep 0x10, .page .ep 0x22, .page .ep 0x32, .page .ep 0x280, .log .ep, .ports .ep, .rly, .ddp, .ag, .sent]) :
    (windowRequest k s).view wt = s.view wt := by
  simp at hoff
  unfold windowRequest; (try simp only [sw_beq_ep, ep_beq_sw, sw_beq_sw, ep_beq_ep, Bool.false_eq_true, Bool.true_and, Bool.false_and, if_true, if_false]); repeat' (first | contradiction | (simp +decide [windowRequest, hoff, Chip.view, Chip.rest, Pool.view, Pool.rest, Svc.view, Svc.rest, Herds.view, Herds.rest, Dct.view, Dct.rest, Dct.held, Fw.view, Fw.rest, Fw.held]; done) | (intros; split) | (intros; first | refine Eq.trans (State_dedup_ep_frame _ _ _ (by simp [hoff]) (fun _ => ?_)) ?_ | refine Eq.trans (State_dedup_sw_frame _ _ _ (by simp [hoff]) (fun _ => ?_)) ?_ | refine Eq.trans (foldl_view _ _ _ fun _ _ => ?_) ?_ | refine Eq.trans (foldl_fst_view _ _ _ fun _ _ => ?_) ?_ | refine Eq.trans (when_view _ _ _ ?_) ?_) | dsimp only | simp +decide [windowRequest, hoff])

@[simp] theorem State_subDone_frame (s : State) (key : Nat) (entry : Option Word) (hoff : Off wt [.hdr .ep, .page .ep 0x10, .page .ep 0x22, .page .ep 0x32, .page .ep 0x280, .ports .ep, .rly, .ddp, .ag, .sent, .free]) :
    (State.subDone s key entry).view wt = s.view wt := by
  simp at hoff
  unfold State.subDone; (try simp only [sw_beq_ep, ep_beq_sw, sw_beq_sw, ep_beq_ep, Bool.false_eq_true, Bool.true_and, Bool.false_and, if_true, if_false]); repeat' (first | contradiction | (simp +decide [State.subDone, hoff, Chip.view, Chip.rest, Pool.view, Pool.rest, Svc.view, Svc.rest, Herds.view, Herds.rest, Dct.view, Dct.rest, Dct.held, Fw.view, Fw.rest, Fw.held]; done) | (intros; split) | (intros; first | refine Eq.trans (foldl_view _ _ _ fun _ _ => ?_) ?_ | refine Eq.trans (foldl_fst_view _ _ _ fun _ _ => ?_) ?_ | refine Eq.trans (when_view _ _ _ ?_) ?_) | dsimp only | simp +decide [State.subDone, hoff])

@[simp] theorem State_accDone_frame (s : State) (o : AccOp) (status : Nat) (data : List Byte) (hoff : Off wt [.hdr .ep, .page .ep 0x4, .page .ep 0x10, .page .ep 0x21, .page .ep 0x22, .page .ep 0x31, .page .ep 0x32, .page .ep 0x280, .ports .ep, .sync .ep, .rly, .cmds, .ddp, .reqs, .ag, .sent, .free]) :
    (State.accDone s o status data).view wt = s.view wt := by
  simp at hoff
  unfold State.accDone; (try simp only [sw_beq_ep, ep_beq_sw, sw_beq_sw, ep_beq_ep, Bool.false_eq_true, Bool.true_and, Bool.false_and, if_true, if_false]); (repeat' split) <;> (try dsimp only) <;> first | contradiction | simp +decide [State.accDone, hoff, Chip.view, Chip.rest, Pool.view, Pool.rest, Svc.view, Svc.rest, Herds.view, Herds.rest, Dct.view, Dct.rest, Dct.held, Fw.view, Fw.rest, Fw.held]

@[simp] theorem State_accExpire_frame (s : State) (o : AccOp) (hoff : Off wt [.hdr .ep, .page .ep 0x4, .page .ep 0xb, .page .ep 0x10, .page .ep 0x21, .page .ep 0x22, .page .ep 0x31, .page .ep 0x32, .page .ep 0x40, .page .ep 0x280, .log .ep, .ports .ep, .sync .ep, .rly, .cmds, .ddp, .reqs, .ag, .sent, .free]) :
    (State.accExpire s o).view wt = s.view wt := by
  simp at hoff
  simp [State.accExpire, hoff, Chip.view, Chip.rest, Pool.view, Pool.rest, Svc.view, Svc.rest, Herds.view, Herds.rest, Dct.view, Dct.rest, Dct.held, Fw.view, Fw.rest, Fw.held]

theorem accCpl_frame (id answer : Nat) (data : List Byte) (s : State) (hoff : Off wt [.hdr .ep, .page .ep 0x4, .page .ep 0xb, .page .ep 0x10, .page .ep 0x21, .page .ep 0x22, .page .ep 0x31, .page .ep 0x32, .page .ep 0x40, .page .ep 0x280, .log .ep, .ports .ep, .sync .ep, .rly, .cmds, .ddp, .reqs, .ag, .sent, .free]) :
    (accCpl id answer data s).view wt = s.view wt := by
  simp at hoff
  unfold accCpl; (try simp only [sw_beq_ep, ep_beq_sw, sw_beq_sw, ep_beq_ep, Bool.false_eq_true, Bool.true_and, Bool.false_and, if_true, if_false]); (repeat' split) <;> (try dsimp only) <;> first | contradiction | simp +decide [accCpl, hoff, Chip.view, Chip.rest, Pool.view, Pool.rest, Svc.view, Svc.rest, Herds.view, Herds.rest, Dct.view, Dct.rest, Dct.held, Fw.view, Fw.rest, Fw.held]

theorem accTimeout_frame (id : Nat) (s : State) (hoff : Off wt [.hdr .ep, .page .ep 0x4, .page .ep 0xb, .page .ep 0x10, .page .ep 0x21, .page .ep 0x22, .page .ep 0x31, .page .ep 0x32, .page .ep 0x40, .page .ep 0x280, .log .ep, .ports .ep, .sync .ep, .rly, .cmds, .ddp, .reqs, .ag, .sent, .free]) :
    (accTimeout id s).view wt = s.view wt := by
  simp at hoff
  unfold accTimeout; (try simp only [sw_beq_ep, ep_beq_sw, sw_beq_sw, ep_beq_ep, Bool.false_eq_true, Bool.true_and, Bool.false_and, if_true, if_false]); (repeat' split) <;> (try dsimp only) <;> first | contradiction | simp +decide [accTimeout, hoff, Chip.view, Chip.rest, Pool.view, Pool.rest, Svc.view, Svc.rest, Herds.view, Herds.rest, Dct.view, Dct.rest, Dct.held, Fw.view, Fw.rest, Fw.held]

theorem discardAck_frame (id : Nat) (s : State) (hoff : Off wt [.hdr .ep, .page .ep 0x4, .page .ep 0x10, .page .ep 0x21, .page .ep 0x31, .page .ep 0x32, .page .ep 0x280, .ports .ep, .sync .ep, .rly, .cmds, .reqs, .ag, .sent]) :
    (discardAck id s).view wt = s.view wt := by
  simp at hoff
  unfold discardAck; (try simp only [sw_beq_ep, ep_beq_sw, sw_beq_sw, ep_beq_ep, Bool.false_eq_true, Bool.true_and, Bool.false_and, if_true, if_false]); (repeat' split) <;> (try dsimp only) <;> first | contradiction | simp +decide [discardAck, hoff, Chip.view, Chip.rest, Pool.view, Pool.rest, Svc.view, Svc.rest, Herds.view, Herds.rest, Dct.view, Dct.rest, Dct.held, Fw.view, Fw.rest, Fw.held]

@[simp] theorem State_subDrop_frame (s : State) (f : Nat → Bool) (hoff : Off wt [.ag, .sent]) :
    (State.subDrop s f).view wt = s.view wt := by
  simp at hoff
  simp [State.subDrop, hoff, Chip.view, Chip.rest, Pool.view, Pool.rest, Svc.view, Svc.rest, Herds.view, Herds.rest, Dct.view, Dct.rest, Dct.held, Fw.view, Fw.rest, Fw.held]

@[simp] theorem State_closeWindow_frame (s : State) (w : Nat) (hoff : Off wt [.page .ep 0x10, .page .ep 0x30, .page .ep 0x280, .ports .ep, .rly, .ag, .sent]) :
    (State.closeWindow s w).view wt = s.view wt := by
  simp at hoff
  simp [State.closeWindow, hoff, Chip.view, Chip.rest, Pool.view, Pool.rest, Svc.view, Svc.rest, Herds.view, Herds.rest, Dct.view, Dct.rest, Dct.held, Fw.view, Fw.rest, Fw.held]

@[simp] theorem State_setWinCtl_frame (s : State) (v : Word) (hoff : Off wt [.hdr .ep, .page .ep 0xb, .page .ep 0x10, .page .ep 0x30, .page .ep 0x280, .ports .ep, .rly, .ag, .sent]) :
    (State.setWinCtl s v).1.view wt = s.view wt := by
  simp at hoff
  simp [State.setWinCtl, hoff, Chip.view, Chip.rest, Pool.view, Pool.rest, Svc.view, Svc.rest, Herds.view, Herds.rest, Dct.view, Dct.rest, Dct.held, Fw.view, Fw.rest, Fw.held]

theorem winValidSet_frame (path : Path) (v : Word) (s : State) (hoff : Off wt [.hdr .ep, .page .ep 0xb, .page .ep 0x10, .page .ep 0x30, .page .ep 0x280, .ports .ep, .rly, .ag, .sent]) :
    (winValidSet path v s).view wt = s.view wt := by
  simp at hoff
  simp [winValidSet, hoff, Chip.view, Chip.rest, Pool.view, Pool.rest, Svc.view, Svc.rest, Herds.view, Herds.rest, Dct.view, Dct.rest, Dct.held, Fw.view, Fw.rest, Fw.held]

theorem winValidClear_frame (path : Path) (v : Word) (s : State) (hoff : Off wt [.hdr .ep, .page .ep 0xb, .page .ep 0x10, .page .ep 0x30, .page .ep 0x280, .ports .ep, .rly, .ag, .sent]) :
    (winValidClear path v s).view wt = s.view wt := by
  simp at hoff
  simp [winValidClear, hoff, Chip.view, Chip.rest, Pool.view, Pool.rest, Svc.view, Svc.rest, Herds.view, Herds.rest, Dct.view, Dct.rest, Dct.held, Fw.view, Fw.rest, Fw.held]

@[simp] theorem State_setWinReg_frame (s : State) (r : Reg) (v : Word) (hoff : Off wt [.regs .ep]) :
    (State.setWinReg s r v).1.view wt = s.view wt := by
  simp at hoff
  unfold State.setWinReg; (try simp only [sw_beq_ep, ep_beq_sw, sw_beq_sw, ep_beq_ep, Bool.false_eq_true, Bool.true_and, Bool.false_and, if_true, if_false]); (repeat' split) <;> (try dsimp only) <;> first | contradiction | simp +decide [State.setWinReg, hoff, Chip.view, Chip.rest, Pool.view, Pool.rest, Svc.view, Svc.rest, Herds.view, Herds.rest, Dct.view, Dct.rest, Dct.held, Fw.view, Fw.rest, Fw.held]

@[simp] theorem State_setGrant_frame (s : State) (v : Word) (hoff : Off wt [.hdr .ep, .page .ep 0xb, .page .ep 0x30]) :
    (State.setGrant s v).1.view wt = s.view wt := by
  simp at hoff
  unfold State.setGrant; (try simp only [sw_beq_ep, ep_beq_sw, sw_beq_sw, ep_beq_ep, Bool.false_eq_true, Bool.true_and, Bool.false_and, if_true, if_false]); (repeat' split) <;> (try dsimp only) <;> first | contradiction | simp +decide [State.setGrant, hoff, Chip.view, Chip.rest, Pool.view, Pool.rest, Svc.view, Svc.rest, Herds.view, Herds.rest, Dct.view, Dct.rest, Dct.held, Fw.view, Fw.rest, Fw.held]

theorem gntValidSet_frame (path : Path) (v : Word) (s : State) (hoff : Off wt [.hdr .ep, .page .ep 0xb, .page .ep 0x30, .sent]) :
    (gntValidSet path v s).view wt = s.view wt := by
  simp at hoff
  simp [gntValidSet, hoff, Chip.view, Chip.rest, Pool.view, Pool.rest, Svc.view, Svc.rest, Herds.view, Herds.rest, Dct.view, Dct.rest, Dct.held, Fw.view, Fw.rest, Fw.held]

@[simp] theorem State_setWinInv_frame (s : State) (v : Word) (hoff : Off wt [.hdr .ep, .page .ep 0xb, .page .ep 0x30, .ag, .sent]) :
    (State.setWinInv s v).1.view wt = s.view wt := by
  simp at hoff
  simp [State.setWinInv, hoff, Chip.view, Chip.rest, Pool.view, Pool.rest, Svc.view, Svc.rest, Herds.view, Herds.rest, Dct.view, Dct.rest, Dct.held, Fw.view, Fw.rest, Fw.held]

theorem winInvWrite_frame (path : Path) (v : Word) (s : State) (hoff : Off wt [.hdr .ep, .page .ep 0xb, .page .ep 0x30, .ag, .sent]) :
    (winInvWrite path v s).view wt = s.view wt := by
  simp at hoff
  simp [winInvWrite, hoff, Chip.view, Chip.rest, Pool.view, Pool.rest, Svc.view, Svc.rest, Herds.view, Herds.rest, Dct.view, Dct.rest, Dct.held, Fw.view, Fw.rest, Fw.held]

@[simp] theorem State_setApCtl_frame (s : State) (n : Nat) (v : Word) (hoff : Off wt [.hdr .ep, .page .ep 0x4, .page .ep 0xb, .page .ep 0x10, .page .ep 0x21, .page .ep 0x31, .page .ep 0x32, .page .ep 0x280, .ports .ep, .sync .ep, .rly, .cmds, .reqs, .ag, .sent]) :
    (State.setApCtl s n v).1.view wt = s.view wt := by
  simp at hoff
  simp [State.setApCtl, hoff, Chip.view, Chip.rest, Pool.view, Pool.rest, Svc.view, Svc.rest, Herds.view, Herds.rest, Dct.view, Dct.rest, Dct.held, Fw.view, Fw.rest, Fw.held]

theorem apValidSet_frame (path : Path) (n : Nat) (v : Word) (s : State) (hoff : Off wt [.hdr .ep, .page .ep 0x4, .page .ep 0xb, .page .ep 0x10, .page .ep 0x21, .page .ep 0x31, .page .ep 0x32, .page .ep 0x280, .ports .ep, .sync .ep, .rly, .cmds, .reqs, .ag, .sent]) :
    (apValidSet path n v s).view wt = s.view wt := by
  simp at hoff
  simp [apValidSet, hoff, Chip.view, Chip.rest, Pool.view, Pool.rest, Svc.view, Svc.rest, Herds.view, Herds.rest, Dct.view, Dct.rest, Dct.held, Fw.view, Fw.rest, Fw.held]

theorem apValidClear_frame (path : Path) (n : Nat) (v : Word) (s : State) (hoff : Off wt [.hdr .ep, .page .ep 0x4, .page .ep 0xb, .page .ep 0x10, .page .ep 0x21, .page .ep 0x31, .page .ep 0x32, .page .ep 0x280, .ports .ep, .sync .ep, .rly, .cmds, .reqs, .ag, .sent]) :
    (apValidClear path n v s).view wt = s.view wt := by
  simp at hoff
  simp [apValidClear, hoff, Chip.view, Chip.rest, Pool.view, Pool.rest, Svc.view, Svc.rest, Herds.view, Herds.rest, Dct.view, Dct.rest, Dct.held, Fw.view, Fw.rest, Fw.held]

@[simp] theorem State_setApReg_frame (s : State) (n : Nat) (r : Reg) (v : Word) (hoff : Off wt [.regs .ep]) :
    (State.setApReg s n r v).1.view wt = s.view wt := by
  simp at hoff
  unfold State.setApReg; (try simp only [sw_beq_ep, ep_beq_sw, sw_beq_sw, ep_beq_ep, Bool.false_eq_true, Bool.true_and, Bool.false_and, if_true, if_false]); (repeat' split) <;> (try dsimp only) <;> first | contradiction | simp +decide [State.setApReg, hoff, Chip.view, Chip.rest, Pool.view, Pool.rest, Svc.view, Svc.rest, Herds.view, Herds.rest, Dct.view, Dct.rest, Dct.held, Fw.view, Fw.rest, Fw.held]

@[simp] theorem State_atcFlush_frame (s : State) (hoff : Off wt [.hdr .ep, .page .ep 0x4, .page .ep 0x10, .page .ep 0x21, .page .ep 0x31, .page .ep 0x32, .page .ep 0x280, .ports .ep, .sync .ep, .rly, .cmds, .reqs, .ag, .sent]) :
    (State.atcFlush s).view wt = s.view wt := by
  simp at hoff
  simp [State.atcFlush, hoff, Chip.view, Chip.rest, Pool.view, Pool.rest, Svc.view, Svc.rest, Herds.view, Herds.rest, Dct.view, Dct.rest, Dct.held, Fw.view, Fw.rest, Fw.held]

theorem atcFlush_frame (path : Path) (s : State) (hoff : Off wt [.hdr .ep, .page .ep 0x4, .page .ep 0xb, .page .ep 0x10, .page .ep 0x21, .page .ep 0x31, .page .ep 0x32, .page .ep 0x280, .ports .ep, .sync .ep, .rly, .cmds, .reqs, .ag, .sent]) :
    (atcFlush path s).view wt = s.view wt := by
  simp at hoff
  simp [atcFlush, hoff, Chip.view, Chip.rest, Pool.view, Pool.rest, Svc.view, Svc.rest, Herds.view, Herds.rest, Dct.view, Dct.rest, Dct.held, Fw.view, Fw.rest, Fw.held]

@[simp] theorem State_setAcnCtl_frame (s : State) (v : Word) (hoff : Off wt [.page .ep 0x32, .ag]) :
    (State.setAcnCtl s v).view wt = s.view wt := by
  simp at hoff
  simp [State.setAcnCtl, hoff, Chip.view, Chip.rest, Pool.view, Pool.rest, Svc.view, Svc.rest, Herds.view, Herds.rest, Dct.view, Dct.rest, Dct.held, Fw.view, Fw.rest, Fw.held]

theorem acnEnableWrite_frame (path : Path) (v : Word) (s : State) (hoff : Off wt [.hdr .ep, .page .ep 0xb, .page .ep 0x32, .ag, .sent]) :
    (acnEnableWrite path v s).view wt = s.view wt := by
  simp at hoff
  simp [acnEnableWrite, hoff, Chip.view, Chip.rest, Pool.view, Pool.rest, Svc.view, Svc.rest, Herds.view, Herds.rest, Dct.view, Dct.rest, Dct.held, Fw.view, Fw.rest, Fw.held]

theorem acnEpochExpiry_frame (s : State) (hoff : Off wt [.page .ep 0x32, .ag]) :
    (acnEpochExpiry s).view wt = s.view wt := by
  simp at hoff
  simp [acnEpochExpiry, hoff, Chip.view, Chip.rest, Pool.view, Pool.rest, Svc.view, Svc.rest, Herds.view, Herds.rest, Dct.view, Dct.rest, Dct.held, Fw.view, Fw.rest, Fw.held]

@[simp] theorem State_setRange_frame (s : State) (r : Nat) (v : Word) (hoff : Off wt [.hdr .ep, .page .ep 0xb, .page .ep 0x32]) :
    (State.setRange s r v).1.view wt = s.view wt := by
  simp at hoff
  simp [State.setRange, hoff, Chip.view, Chip.rest, Pool.view, Pool.rest, Svc.view, Svc.rest, Herds.view, Herds.rest, Dct.view, Dct.rest, Dct.held, Fw.view, Fw.rest, Fw.held]

theorem rangeValidSet_frame (path : Path) (r : Nat) (v : Word) (s : State) (hoff : Off wt [.hdr .ep, .page .ep 0xb, .page .ep 0x32, .sent]) :
    (rangeValidSet path r v s).view wt = s.view wt := by
  simp at hoff
  simp [rangeValidSet, hoff, Chip.view, Chip.rest, Pool.view, Pool.rest, Svc.view, Svc.rest, Herds.view, Herds.rest, Dct.view, Dct.rest, Dct.held, Fw.view, Fw.rest, Fw.held]

@[simp] theorem State_setQueueState_frame (s : State) (q st reason : Nat) (hoff : Off wt [.page .ep 0x20]) :
    (State.setQueueState s q st reason).view wt = s.view wt := by
  simp at hoff
  simp [State.setQueueState, hoff, Chip.view, Chip.rest, Pool.view, Pool.rest, Svc.view, Svc.rest, Herds.view, Herds.rest, Dct.view, Dct.rest, Dct.held, Fw.view, Fw.rest, Fw.held]

@[simp] theorem State_setTail_frame (s : State) (q v : Nat) (hoff : Off wt [.page .ep 0x20]) :
    (State.setTail s q v).view wt = s.view wt := by
  simp at hoff
  simp [State.setTail, hoff, Chip.view, Chip.rest, Pool.view, Pool.rest, Svc.view, Svc.rest, Herds.view, Herds.rest, Dct.view, Dct.rest, Dct.held, Fw.view, Fw.rest, Fw.held]

theorem doorbell_frame (q v : Nat) (s : State) (hoff : Off wt [.page .ep 0x20]) :
    (doorbell q v s).view wt = s.view wt := by
  simp at hoff
  simp [doorbell, hoff, Chip.view, Chip.rest, Pool.view, Pool.rest, Svc.view, Svc.rest, Herds.view, Herds.rest, Dct.view, Dct.rest, Dct.held, Fw.view, Fw.rest, Fw.held]

theorem qTailWrite_frame (path : Path) (v : Nat) (s : State) (hoff : Off wt [.hdr .ep, .page .ep 0xb, .page .ep 0x20, .sent]) :
    (qTailWrite path v s).view wt = s.view wt := by
  simp at hoff
  simp [qTailWrite, hoff, Chip.view, Chip.rest, Pool.view, Pool.rest, Svc.view, Svc.rest, Herds.view, Herds.rest, Dct.view, Dct.rest, Dct.held, Fw.view, Fw.rest, Fw.held]

@[simp] theorem State_setQueueCfg_frame (s : State) (v : Word) (hoff : Off wt [.hdr .ep, .page .ep 0xb, .page .ep 0x20]) :
    (State.setQueueCfg s v).1.view wt = s.view wt := by
  simp at hoff
  simp [State.setQueueCfg, hoff, Chip.view, Chip.rest, Pool.view, Pool.rest, Svc.view, Svc.rest, Herds.view, Herds.rest, Dct.view, Dct.rest, Dct.held, Fw.view, Fw.rest, Fw.held]

theorem qEnableWrite_frame (path : Path) (v : Word) (s : State) (hoff : Off wt [.hdr .ep, .page .ep 0xb, .page .ep 0x20, .sent]) :
    (qEnableWrite path v s).view wt = s.view wt := by
  simp at hoff
  simp [qEnableWrite, hoff, Chip.view, Chip.rest, Pool.view, Pool.rest, Svc.view, Svc.rest, Herds.view, Herds.rest, Dct.view, Dct.rest, Dct.held, Fw.view, Fw.rest, Fw.held]

@[simp] theorem State_setQueueReg_frame (s : State) (r : Reg) (v : Word) (hoff : Off wt [.regs .ep]) :
    (State.setQueueReg s r v).1.view wt = s.view wt := by
  simp at hoff
  unfold State.setQueueReg; (try simp only [sw_beq_ep, ep_beq_sw, sw_beq_sw, ep_beq_ep, Bool.false_eq_true, Bool.true_and, Bool.false_and, if_true, if_false]); (repeat' split) <;> (try dsimp only) <;> first | contradiction | simp +decide [State.setQueueReg, hoff, Chip.view, Chip.rest, Pool.view, Pool.rest, Svc.view, Svc.rest, Herds.view, Herds.rest, Dct.view, Dct.rest, Dct.held, Fw.view, Fw.rest, Fw.held]

@[simp] theorem State_askDesc_frame (s : State) (q : Nat) (hoff : Off wt [.ag, .sent]) :
    (State.askDesc s q).view wt = s.view wt := by
  simp at hoff
  simp [State.askDesc, hoff, Chip.view, Chip.rest, Pool.view, Pool.rest, Svc.view, Svc.rest, Herds.view, Herds.rest, Dct.view, Dct.rest, Dct.held, Fw.view, Fw.rest, Fw.held]

theorem descriptorFetch_frame (q : Nat) (desc : List Word) (s : State) (hoff : Off wt [.page .ep 0x20, .cmds, .ag, .sent]) :
    (descriptorFetch q desc s).view wt = s.view wt := by
  simp at hoff
  unfold descriptorFetch
  dsimp only
  split
  · rfl
  · rw [cmds_view _ _ (by simp [hoff])]
    simp [hoff]

theorem descriptorFetchFail_frame (q : Nat) (s : State) (hoff : Off wt [.page .ep 0x20, .ag, .sent]) :
    (descriptorFetchFail q s).view wt = s.view wt := by
  simp at hoff
  simp [descriptorFetchFail, hoff, Chip.view, Chip.rest, Pool.view, Pool.rest, Svc.view, Svc.rest, Herds.view, Herds.rest, Dct.view, Dct.rest, Dct.held, Fw.view, Fw.rest, Fw.held]

@[simp] theorem State_tookTurn_frame (s : State) (q : Nat) (hoff : Off wt [.ag]) :
    (State.tookTurn s q).view wt = s.view wt := by
  simp at hoff
  simp [State.tookTurn, hoff, Chip.view, Chip.rest, Pool.view, Pool.rest, Svc.view, Svc.rest, Herds.view, Herds.rest, Dct.view, Dct.rest, Dct.held, Fw.view, Fw.rest, Fw.held]

@[simp] theorem State_issue_frame (s : State) (q : Nat) (is : Cmd → Bool) (f : Cmd → State → State) (hoff : Off wt [.hdr .ep, .page .ep 0x4, .page .ep 0x10, .page .ep 0x21, .page .ep 0x31, .page .ep 0x32, .page .ep 0x280, .ports .ep, .sync .ep, .rly, .cmds, .reqs, .ag, .sent]) (hf : ∀ a0 s, (f a0 s).view wt = s.view wt) :
    (State.issue s q is f).view wt = s.view wt := by
  simp at hoff
  unfold State.issue; (try simp only [sw_beq_ep, ep_beq_sw, sw_beq_sw, ep_beq_ep, Bool.false_eq_true, Bool.true_and, Bool.false_and, if_true, if_false]); (repeat' split) <;> (try dsimp only) <;> first | contradiction | simp +decide [State.issue, hoff, hf, Chip.view, Chip.rest, Pool.view, Pool.rest, Svc.view, Svc.rest, Herds.view, Herds.rest, Dct.view, Dct.rest, Dct.held, Fw.view, Fw.rest, Fw.held]

@[simp] theorem State_cmdFail_frame (s : State) (c : Cmd) (status : Nat) (hoff : Off wt [.cmds]) :
    (State.cmdFail s c status).view wt = s.view wt := by
  simp at hoff
  simp [State.cmdFail, hoff, Chip.view, Chip.rest, Pool.view, Pool.rest, Svc.view, Svc.rest, Herds.view, Herds.rest, Dct.view, Dct.rest, Dct.held, Fw.view, Fw.rest, Fw.held]

@[simp] theorem State_addPkt_frame (s : State) (c : Cmd) (q : Access) (hoff : Off wt [.cmds, .ag]) :
    (State.addPkt s c q).view wt = s.view wt := by
  simp at hoff
  simp [State.addPkt, hoff, Chip.view, Chip.rest, Pool.view, Pool.rest, Svc.view, Svc.rest, Herds.view, Herds.rest, Dct.view, Dct.rest, Dct.held, Fw.view, Fw.rest, Fw.held]

@[simp] theorem State_addRead_frame (s : State) (c : Cmd) (q : Access) (addr len : Nat) (hoff : Off wt [.cmds, .ag, .sent]) :
    (State.addRead s c q addr len).view wt = s.view wt := by
  simp at hoff
  simp [State.addRead, hoff, Chip.view, Chip.rest, Pool.view, Pool.rest, Svc.view, Svc.rest, Herds.view, Herds.rest, Dct.view, Dct.rest, Dct.held, Fw.view, Fw.rest, Fw.held]

@[simp] theorem State_underCtx_frame (s : State) (c : Cmd) (f : Nat → Nat → State → State) (hoff : Off wt [.cmds]) (hf : ∀ a0 a1 s, (f a0 a1 s).view wt = s.view wt) :
    (State.underCtx s c f).view wt = s.view wt := by
  simp at hoff
  unfold State.underCtx; (try simp only [sw_beq_ep, ep_beq_sw, sw_beq_sw, ep_beq_ep, Bool.false_eq_true, Bool.true_and, Bool.false_and, if_true, if_false]); (repeat' split) <;> (try dsimp only) <;> first | contradiction | simp +decide [State.underCtx, hoff, hf, Chip.view, Chip.rest, Pool.view, Pool.rest, Svc.view, Svc.rest, Herds.view, Herds.rest, Dct.view, Dct.rest, Dct.held, Fw.view, Fw.rest, Fw.held]

theorem cmdNop_frame (q : Nat) (s : State) (hoff : Off wt [.hdr .ep, .page .ep 0x4, .page .ep 0x10, .page .ep 0x21, .page .ep 0x31, .page .ep 0x32, .page .ep 0x280, .ports .ep, .sync .ep, .rly, .cmds, .reqs, .ag, .sent]) :
    (cmdNop q s).view wt = s.view wt := by
  simp at hoff
  simp [cmdNop, hoff, Chip.view, Chip.rest, Pool.view, Pool.rest, Svc.view, Svc.rest, Herds.view, Herds.rest, Dct.view, Dct.rest, Dct.held, Fw.view, Fw.rest, Fw.held]

theorem cmdGet_frame (q : Nat) (s : State) (hoff : Off wt [.hdr .ep, .page .ep 0x4, .page .ep 0x10, .page .ep 0x21, .page .ep 0x31, .page .ep 0x32, .page .ep 0x280, .ports .ep, .sync .ep, .rly, .cmds, .reqs, .ag, .sent]) :
    (cmdGet q s).view wt = s.view wt := by
  simp at hoff
  unfold cmdGet; (try simp only [sw_beq_ep, ep_beq_sw, sw_beq_sw, ep_beq_ep, Bool.false_eq_true, Bool.true_and, Bool.false_and, if_true, if_false]); repeat' (first | contradiction | (simp +decide [cmdGet, hoff, Chip.view, Chip.rest, Pool.view, Pool.rest, Svc.view, Svc.rest, Herds.view, Herds.rest, Dct.view, Dct.rest, Dct.held, Fw.view, Fw.rest, Fw.held]; done) | (intros; split) | (intros; first | refine Eq.trans (State_underCtx_frame _ _ _ (by simp [hoff]) (fun _ _ _ => ?_)) ?_ | refine Eq.trans (State_issue_frame _ _ _ _ (by simp [hoff]) (fun _ _ => ?_)) ?_ | refine Eq.trans (foldl_view _ _ _ fun _ _ => ?_) ?_ | refine Eq.trans (foldl_fst_view _ _ _ fun _ _ => ?_) ?_ | refine Eq.trans (when_view _ _ _ ?_) ?_) | dsimp only | simp +decide [cmdGet, hoff])

theorem cmdPut_frame (q : Nat) (s : State) (hoff : Off wt [.hdr .ep, .page .ep 0x4, .page .ep 0x10, .page .ep 0x21, .page .ep 0x31, .page .ep 0x32, .page .ep 0x280, .ports .ep, .sync .ep, .rly, .cmds, .reqs, .ag, .sent]) :
    (cmdPut q s).view wt = s.view wt := by
  simp at hoff
  unfold cmdPut; (try simp only [sw_beq_ep, ep_beq_sw, sw_beq_sw, ep_beq_ep, Bool.false_eq_true, Bool.true_and, Bool.false_and, if_true, if_false]); repeat' (first | contradiction | (simp +decide [cmdPut, hoff, Chip.view, Chip.rest, Pool.view, Pool.rest, Svc.view, Svc.rest, Herds.view, Herds.rest, Dct.view, Dct.rest, Dct.held, Fw.view, Fw.rest, Fw.held]; done) | (intros; split) | (intros; first | refine Eq.trans (State_underCtx_frame _ _ _ (by simp [hoff]) (fun _ _ _ => ?_)) ?_ | refine Eq.trans (State_issue_frame _ _ _ _ (by simp [hoff]) (fun _ _ => ?_)) ?_ | refine Eq.trans (foldl_view _ _ _ fun _ _ => ?_) ?_ | refine Eq.trans (foldl_fst_view _ _ _ fun _ _ => ?_) ?_ | refine Eq.trans (when_view _ _ _ ?_) ?_) | dsimp only | simp +decide [cmdPut, hoff])

theorem cmdAtomic_frame (q : Nat) (s : State) (hoff : Off wt [.hdr .ep, .page .ep 0x4, .page .ep 0x10, .page .ep 0x21, .page .ep 0x31, .page .ep 0x32, .page .ep 0x280, .ports .ep, .sync .ep, .rly, .cmds, .reqs, .ag, .sent]) :
    (cmdAtomic q s).view wt = s.view wt := by
  simp at hoff
  unfold cmdAtomic; (try simp only [sw_beq_ep, ep_beq_sw, sw_beq_sw, ep_beq_ep, Bool.false_eq_true, Bool.true_and, Bool.false_and, if_true, if_false]); repeat' (first | contradiction | (simp +decide [cmdAtomic, hoff, Chip.view, Chip.rest, Pool.view, Pool.rest, Svc.view, Svc.rest, Herds.view, Herds.rest, Dct.view, Dct.rest, Dct.held, Fw.view, Fw.rest, Fw.held]; done) | (intros; split) | (intros; first | refine Eq.trans (State_underCtx_frame _ _ _ (by simp [hoff]) (fun _ _ _ => ?_)) ?_ | refine Eq.trans (State_issue_frame _ _ _ _ (by simp [hoff]) (fun _ _ => ?_)) ?_ | refine Eq.trans (foldl_view _ _ _ fun _ _ => ?_) ?_ | refine Eq.trans (foldl_fst_view _ _ _ fun _ _ => ?_) ?_ | refine Eq.trans (when_view _ _ _ ?_) ?_) | dsimp only | simp +decide [cmdAtomic, hoff])

@[simp] theorem State_syncPiece_frame (s : State) (c : Cmd) (op : Nat) (release : Bool) (data : List Byte) (aux ctx ptn : Nat) (hoff : Off wt [.cmds, .ag]) :
    (State.syncPiece s c op release data aux ctx ptn).view wt = s.view wt := by
  simp at hoff
  simp [State.syncPiece, hoff, Chip.view, Chip.rest, Pool.view, Pool.rest, Svc.view, Svc.rest, Herds.view, Herds.rest, Dct.view, Dct.rest, Dct.held, Fw.view, Fw.rest, Fw.held]

@[simp] theorem State_cmdRelease_frame (s : State) (q sub op aux : Nat) (hoff : Off wt [.hdr .ep, .page .ep 0x4, .page .ep 0x10, .page .ep 0x21, .page .ep 0x31, .page .ep 0x32, .page .ep 0x280, .ports .ep, .sync .ep, .rly, .cmds, .reqs, .ag, .sent]) :
    (State.cmdRelease s q sub op aux).view wt = s.view wt := by
  simp at hoff
  unfold State.cmdRelease; (try simp only [sw_beq_ep, ep_beq_sw, sw_beq_sw, ep_beq_ep, Bool.false_eq_true, Bool.true_and, Bool.false_and, if_true, if_false]); repeat' (first | contradiction | (simp +decide [State.cmdRelease, hoff, Chip.view, Chip.rest, Pool.view, Pool.rest, Svc.view, Svc.rest, Herds.view, Herds.rest, Dct.view, Dct.rest, Dct.held, Fw.view, Fw.rest, Fw.held]; done) | (intros; split) | (intros; first | refine Eq.trans (State_underCtx_frame _ _ _ (by simp [hoff]) (fun _ _ _ => ?_)) ?_ | refine Eq.trans (State_issue_frame _ _ _ _ (by simp [hoff]) (fun _ _ => ?_)) ?_ | refine Eq.trans (foldl_view _ _ _ fun _ _ => ?_) ?_ | refine Eq.trans (foldl_fst_view _ _ _ fun _ _ => ?_) ?_ | refine Eq.trans (when_view _ _ _ ?_) ?_) | dsimp only | simp +decide [State.cmdRelease, hoff])

theorem cmdSyncAdd_frame (q : Nat) (s : State) (hoff : Off wt [.hdr .ep, .page .ep 0x4, .page .ep 0x10, .page .ep 0x21, .page .ep 0x31, .page .ep 0x32, .page .ep 0x280, .ports .ep, .sync .ep, .rly, .cmds, .reqs, .ag, .sent]) :
    (cmdSyncAdd q s).view wt = s.view wt := by
  simp at hoff
  simp [cmdSyncAdd, hoff, Chip.view, Chip.rest, Pool.view, Pool.rest, Svc.view, Svc.rest, Herds.view, Herds.rest, Dct.view, Dct.rest, Dct.held, Fw.view, Fw.rest, Fw.held]

theorem cmdSyncSet_frame (q : Nat) (s : State) (hoff : Off wt [.hdr .ep, .page .ep 0x4, .page .ep 0x10, .page .ep 0x21, .page .ep 0x31, .page .ep 0x32, .page .ep 0x280, .ports .ep, .sync .ep, .rly, .cmds, .reqs, .ag, .sent]) :
    (cmdSyncSet q s).view wt = s.view wt := by
  simp at hoff
  simp [cmdSyncSet, hoff, Chip.view, Chip.rest, Pool.view, Pool.rest, Svc.view, Svc.rest, Herds.view, Herds.rest, Dct.view, Dct.rest, Dct.held, Fw.view, Fw.rest, Fw.held]

theorem cmdSyncSetClear_frame (q : Nat) (s : State) (hoff : Off wt [.hdr .ep, .page .ep 0x4, .page .ep 0x10, .page .ep 0x21, .page .ep 0x31, .page .ep 0x32, .page .ep 0x280, .ports .ep, .sync .ep, .rly, .cmds, .reqs, .ag, .sent]) :
    (cmdSyncSetClear q s).view wt = s.view wt := by
  simp at hoff
  simp [cmdSyncSetClear, hoff, Chip.view, Chip.rest, Pool.view, Pool.rest, Svc.view, Svc.rest, Herds.view, Herds.rest, Dct.view, Dct.rest, Dct.held, Fw.view, Fw.rest, Fw.held]

@[simp] theorem State_cmdAcquire_frame (s : State) (q sub : Nat) (wait : Bool) (hoff : Off wt [.hdr .ep, .page .ep 0x4, .page .ep 0x10, .page .ep 0x21, .page .ep 0x31, .page .ep 0x32, .page .ep 0x280, .ports .ep, .sync .ep, .rly, .cmds, .reqs, .ag, .sent]) :
    (State.cmdAcquire s q sub wait).view wt = s.view wt := by
  simp at hoff
  unfold State.cmdAcquire; (try simp only [sw_beq_ep, ep_beq_sw, sw_beq_sw, ep_beq_ep, Bool.false_eq_true, Bool.true_and, Bool.false_and, if_true, if_false]); repeat' (first | contradiction | (simp +decide [State.cmdAcquire, hoff, Chip.view, Chip.rest, Pool.view, Pool.rest, Svc.view, Svc.rest, Herds.view, Herds.rest, Dct.view, Dct.rest, Dct.held, Fw.view, Fw.rest, Fw.held]; done) | (intros; split) | (intros; first | refine Eq.trans (State_underCtx_frame _ _ _ (by simp [hoff]) (fun _ _ _ => ?_)) ?_ | refine Eq.trans (State_issue_frame _ _ _ _ (by simp [hoff]) (fun _ _ => ?_)) ?_ | refine Eq.trans (foldl_view _ _ _ fun _ _ => ?_) ?_ | refine Eq.trans (foldl_fst_view _ _ _ fun _ _ => ?_) ?_ | refine Eq.trans (when_view _ _ _ ?_) ?_) | dsimp only | simp +decide [State.cmdAcquire, hoff])

theorem cmdSyncRead_frame (q : Nat) (s : State) (hoff : Off wt [.hdr .ep, .page .ep 0x4, .page .ep 0x10, .page .ep 0x21, .page .ep 0x31, .page .ep 0x32, .page .ep 0x280, .ports .ep, .sync .ep, .rly, .cmds, .reqs, .ag, .sent]) :
    (cmdSyncRead q s).view wt = s.view wt := by
  simp at hoff
  simp [cmdSyncRead, hoff, Chip.view, Chip.rest, Pool.view, Pool.rest, Svc.view, Svc.rest, Herds.view, Herds.rest, Dct.view, Dct.rest, Dct.held, Fw.view, Fw.rest, Fw.held]

theorem cmdSyncWait_frame (q : Nat) (s : State) (hoff : Off wt [.hdr .ep, .page .ep 0x4, .page .ep 0x10, .page .ep 0x21, .page .ep 0x31, .page .ep 0x32, .page .ep 0x280, .ports .ep, .sync .ep, .rly, .cmds, .reqs, .ag, .sent]) :
    (cmdSyncWait q s).view wt = s.view wt := by
  simp at hoff
  simp [cmdSyncWait, hoff, Chip.view, Chip.rest, Pool.view, Pool.rest, Svc.view, Svc.rest, Herds.view, Herds.rest, Dct.view, Dct.rest, Dct.held, Fw.view, Fw.rest, Fw.held]

theorem localWaitTmo_frame (q : Nat) (s : State) (hoff : Off wt [.hdr .ep, .page .ep 0x4, .page .ep 0x10, .page .ep 0x21, .page .ep 0x31, .page .ep 0x32, .page .ep 0x280, .ports .ep, .sync .ep, .rly, .cmds, .reqs, .ag, .sent]) :
    (localWaitTmo q s).view wt = s.view wt := by
  simp at hoff
  unfold localWaitTmo; (try simp only [sw_beq_ep, ep_beq_sw, sw_beq_sw, ep_beq_ep, Bool.false_eq_true, Bool.true_and, Bool.false_and, if_true, if_false]); (repeat' split) <;> (try dsimp only) <;> first | contradiction | simp +decide [localWaitTmo, hoff, Chip.view, Chip.rest, Pool.view, Pool.rest, Svc.view, Svc.rest, Herds.view, Herds.rest, Dct.view, Dct.rest, Dct.held, Fw.view, Fw.rest, Fw.held]

theorem cmdGather_frame (q : Nat) (s : State) (hoff : Off wt [.hdr .ep, .page .ep 0x4, .page .ep 0x10, .page .ep 0x21, .page .ep 0x31, .page .ep 0x32, .page .ep 0x280, .ports .ep, .sync .ep, .rly, .cmds, .reqs, .ag, .sent]) :
    (cmdGather q s).view wt = s.view wt := by
  simp at hoff
  unfold cmdGather; (try simp only [sw_beq_ep, ep_beq_sw, sw_beq_sw, ep_beq_ep, Bool.false_eq_true, Bool.true_and, Bool.false_and, if_true, if_false]); repeat' (first | contradiction | (simp +decide [cmdGather, hoff, Chip.view, Chip.rest, Pool.view, Pool.rest, Svc.view, Svc.rest, Herds.view, Herds.rest, Dct.view, Dct.rest, Dct.held, Fw.view, Fw.rest, Fw.held]; done) | (intros; split) | (intros; first | refine Eq.trans (State_underCtx_frame _ _ _ (by simp [hoff]) (fun _ _ _ => ?_)) ?_ | refine Eq.trans (State_issue_frame _ _ _ _ (by simp [hoff]) (fun _ _ => ?_)) ?_ | refine Eq.trans (foldl_view _ _ _ fun _ _ => ?_) ?_ | refine Eq.trans (foldl_fst_view _ _ _ fun _ _ => ?_) ?_ | refine Eq.trans (when_view _ _ _ ?_) ?_) | dsimp only | simp +decide [cmdGather, hoff])

theorem cmdScatterAdd_frame (q : Nat) (s : State) (hoff : Off wt [.hdr .ep, .page .ep 0x4, .page .ep 0x10, .page .ep 0x21, .page .ep 0x31, .page .ep 0x32, .page .ep 0x280, .ports .ep, .sync .ep, .rly, .cmds, .reqs, .ag, .sent]) :
    (cmdScatterAdd q s).view wt = s.view wt := by
  simp at hoff
  unfold cmdScatterAdd; (try simp only [sw_beq_ep, ep_beq_sw, sw_beq_sw, ep_beq_ep, Bool.false_eq_true, Bool.true_and, Bool.false_and, if_true, if_false]); repeat' (first | contradiction | (simp +decide [cmdScatterAdd, hoff, Chip.view, Chip.rest, Pool.view, Pool.rest, Svc.view, Svc.rest, Herds.view, Herds.rest, Dct.view, Dct.rest, Dct.held, Fw.view, Fw.rest, Fw.held]; done) | (intros; split) | (intros; first | refine Eq.trans (State_underCtx_frame _ _ _ (by simp [hoff]) (fun _ _ _ => ?_)) ?_ | refine Eq.trans (State_issue_frame _ _ _ _ (by simp [hoff]) (fun _ _ => ?_)) ?_ | refine Eq.trans (foldl_view _ _ _ fun _ _ => ?_) ?_ | refine Eq.trans (foldl_fst_view _ _ _ fun _ _ => ?_) ?_ | refine Eq.trans (when_view _ _ _ ?_) ?_) | dsimp only | simp +decide [cmdScatterAdd, hoff])

theorem cmdKstart_frame (q : Nat) (s : State) (hoff : Off wt [.hdr .ep, .page .ep 0x4, .page .ep 0x10, .page .ep 0x21, .page .ep 0x31, .page .ep 0x32, .page .ep 0x280, .ports .ep, .sync .ep, .rly, .cmds, .reqs, .ag, .sent]) :
    (cmdKstart q s).view wt = s.view wt := by
  simp at hoff
  simp [cmdKstart, hoff, Chip.view, Chip.rest, Pool.view, Pool.rest, Svc.view, Svc.rest, Herds.view, Herds.rest, Dct.view, Dct.rest, Dct.held, Fw.view, Fw.rest, Fw.held]

theorem cmdKend_frame (q : Nat) (s : State) (hoff : Off wt [.hdr .ep, .page .ep 0x4, .page .ep 0x10, .page .ep 0x21, .page .ep 0x31, .page .ep 0x32, .page .ep 0x280, .ports .ep, .sync .ep, .rly, .cmds, .reqs, .ag, .sent]) :
    (cmdKend q s).view wt = s.view wt := by
  simp at hoff
  simp [cmdKend, hoff, Chip.view, Chip.rest, Pool.view, Pool.rest, Svc.view, Svc.rest, Herds.view, Herds.rest, Dct.view, Dct.rest, Dct.held, Fw.view, Fw.rest, Fw.held]

@[simp] theorem State_cmdSignal_frame (s : State) (c : Cmd) (hoff : Off wt [.ag]) :
    (State.cmdSignal s c).view wt = s.view wt := by
  simp at hoff
  simp [State.cmdSignal, hoff, Chip.view, Chip.rest, Pool.view, Pool.rest, Svc.view, Svc.rest, Herds.view, Herds.rest, Dct.view, Dct.rest, Dct.held, Fw.view, Fw.rest, Fw.held]

@[simp] theorem State_advanceDone_frame (s : State) (q : Nat) (hoff : Off wt [.page .ep 0x20, .sent]) :
    (State.advanceDone s q).view wt = s.view wt := by
  simp at hoff
  simp [State.advanceDone, hoff, Chip.view, Chip.rest, Pool.view, Pool.rest, Svc.view, Svc.rest, Herds.view, Herds.rest, Dct.view, Dct.rest, Dct.held, Fw.view, Fw.rest, Fw.held]

@[simp] theorem State_dropCmd_frame (s : State) (q i : Nat) (hoff : Off wt [.cmds]) :
    (State.dropCmd s q i).view wt = s.view wt := by
  simp at hoff
  unfold State.dropCmd; (try simp only [sw_beq_ep, ep_beq_sw, sw_beq_sw, ep_beq_ep, Bool.false_eq_true, Bool.true_and, Bool.false_and, if_true, if_false]); (repeat' split) <;> first | contradiction | simp +decide [State.dropCmd, hoff, State.view, SwState.view, EpState.view, -view_eta]

theorem commandComplete_frame (q : Nat) (s : State) (hoff : Off wt [.hdr .ep, .page .ep 0x4, .page .ep 0x10, .page .ep 0x20, .page .ep 0x21, .page .ep 0x31, .page .ep 0x32, .page .ep 0x280, .ports .ep, .sync .ep, .rly, .cmds, .reqs, .ag, .sent]) :
    (commandComplete q s).view wt = s.view wt := by
  simp at hoff
  unfold commandComplete; (try simp only [sw_beq_ep, ep_beq_sw, sw_beq_sw, ep_beq_ep, Bool.false_eq_true, Bool.true_and, Bool.false_and, if_true, if_false]); (repeat' split) <;> (try dsimp only) <;> first | contradiction | simp +decide [commandComplete, hoff, Chip.view, Chip.rest, Pool.view, Pool.rest, Svc.view, Svc.rest, Herds.view, Herds.rest, Dct.view, Dct.rest, Dct.held, Fw.view, Fw.rest, Fw.held]

@[simp] theorem State_stopQueues_frame (s : State) (hoff : Off wt [.page .ep 0x20]) :
    (State.stopQueues s).view wt = s.view wt := by
  simp at hoff
  simp [State.stopQueues, hoff, Chip.view, Chip.rest, Pool.view, Pool.rest, Svc.view, Svc.rest, Herds.view, Herds.rest, Dct.view, Dct.rest, Dct.held, Fw.view, Fw.rest, Fw.held]

@[simp] theorem State_winLost_frame (s : State) (x : WinReq) (hoff : Off wt [.page .ep 0x10, .page .ep 0x280, .ports .ep, .rly, .ddp, .sent]) :
    (State.winLost s x).view wt = s.view wt := by
  simp at hoff
  simp [State.winLost, hoff, Chip.view, Chip.rest, Pool.view, Pool.rest, Svc.view, Svc.rest, Herds.view, Herds.rest, Dct.view, Dct.rest, Dct.held, Fw.view, Fw.rest, Fw.held]

theorem ucieDown_frame (s : State) (hoff : Off wt [.hdr .ep, .page .ep 0x4, .page .ep 0xb, .page .ep 0x10, .page .ep 0x20, .page .ep 0x21, .page .ep 0x31, .page .ep 0x32, .page .ep 0x40, .page .ep 0x280, .log .ep, .ports .ep, .sync .ep, .rly, .cmds, .ddp, .reqs, .ag, .sent]) :
    (ucieDown s).view wt = s.view wt := by
  simp at hoff
  simp [ucieDown, hoff, Chip.view, Chip.rest, Pool.view, Pool.rest, Svc.view, Svc.rest, Herds.view, Herds.rest, Dct.view, Dct.rest, Dct.held, Fw.view, Fw.rest, Fw.held]

@[simp] theorem State_repairQueue_frame (s : State) (q : Nat) (hoff : Off wt [.page .ep 0x20, .cmds]) :
    (State.repairQueue s q).view wt = s.view wt := by
  simp at hoff
  unfold State.repairQueue
  dsimp only
  split
  · rfl
  · (repeat' split) <;> simp [hoff]

theorem ucieUp_frame (modules rate : Nat) (s : State) (hoff : Off wt [.hdr .ep, .page .ep 0x4, .page .ep 0x10, .page .ep 0x20, .page .ep 0x21, .page .ep 0x31, .page .ep 0x32, .page .ep 0x40, .page .ep 0x280, .ports .ep, .sync .ep, .rly, .cmds, .reqs, .ag, .sent]) :
    (ucieUp modules rate s).view wt = s.view wt := by
  simp at hoff
  simp [ucieUp, hoff, Chip.view, Chip.rest, Pool.view, Pool.rest, Svc.view, Svc.rest, Herds.view, Herds.rest, Dct.view, Dct.rest, Dct.held, Fw.view, Fw.rest, Fw.held]

theorem ucieDegrade_frame (modules rate : Nat) (s : State) (hoff : Off wt [.page .ep 0x40]) :
    (ucieDegrade modules rate s).view wt = s.view wt := by
  simp at hoff
  simp [ucieDegrade, hoff, Chip.view, Chip.rest, Pool.view, Pool.rest, Svc.view, Svc.rest, Herds.view, Herds.rest, Dct.view, Dct.rest, Dct.held, Fw.view, Fw.rest, Fw.held]

theorem cmdHerd_frame (q : Nat) (desc : List Word) (slot : Nat) (e0 e1 : Word) (nodes : List Nat) (role : HerdRole) (s : State) (hoff : Off wt [.hdr .ep, .page .ep 0x4, .page .ep 0x10, .page .ep 0x21, .page .ep 0x31, .page .ep 0x32, .page .ep 0x280, .ports .ep, .sync .ep, .rly, .cmds, .reqs, .ag, .sent]) :
    (cmdHerd q desc slot e0 e1 nodes role s).view wt = s.view wt := by
  simp at hoff
  unfold cmdHerd; (try simp only [sw_beq_ep, ep_beq_sw, sw_beq_sw, ep_beq_ep, Bool.false_eq_true, Bool.true_and, Bool.false_and, if_true, if_false]); repeat' (first | contradiction | (simp +decide [cmdHerd, hoff, Chip.view, Chip.rest, Pool.view, Pool.rest, Svc.view, Svc.rest, Herds.view, Herds.rest, Dct.view, Dct.rest, Dct.held, Fw.view, Fw.rest, Fw.held]; done) | (intros; split) | (intros; first | refine Eq.trans (State_underCtx_frame _ _ _ (by simp [hoff]) (fun _ _ _ => ?_)) ?_ | refine Eq.trans (State_issue_frame _ _ _ _ (by simp [hoff]) (fun _ _ => ?_)) ?_ | refine Eq.trans (foldl_view _ _ _ fun _ _ => ?_) ?_ | refine Eq.trans (foldl_fst_view _ _ _ fun _ _ => ?_) ?_ | refine Eq.trans (when_view _ _ _ ?_) ?_) | dsimp only | simp +decide [cmdHerd, hoff])

@[simp] theorem State_membTake_frame (s : State) (k : Packet) (m? : Option Memb) (f : Memb → State → State) (hoff : Off wt [.hdr .ep, .page .ep 0x4, .page .ep 0xb, .page .ep 0x10, .page .ep 0x21, .page .ep 0x31, .page .ep 0x32, .page .ep 0x280, .log .ep, .ports .ep, .sync .ep, .rly, .cmds, .reqs, .ag, .sent]) (hf : ∀ a0 s, (f a0 s).view wt = s.view wt) :
    (State.membTake s k m? f).view wt = s.view wt := by
  simp at hoff
  unfold State.membTake; (try simp only [sw_beq_ep, ep_beq_sw, sw_beq_sw, ep_beq_ep, Bool.false_eq_true, Bool.true_and, Bool.false_and, if_true, if_false]); (repeat' split) <;> (try dsimp only) <;> first | contradiction | simp +decide [State.membTake, hoff, hf, Chip.view, Chip.rest, Pool.view, Pool.rest, Svc.view, Svc.rest, Herds.view, Herds.rest, Dct.view, Dct.rest, Dct.held, Fw.view, Fw.rest, Fw.held]

@[simp] theorem State_membGuard_frame (s : State) (k : Packet) (f : Memb → State → State) (hoff : Off wt [.hdr .ep, .page .ep 0x4, .page .ep 0xb, .page .ep 0x10, .page .ep 0x21, .page .ep 0x31, .page .ep 0x32, .page .ep 0x280, .log .ep, .ports .ep, .sync .ep, .rly, .cmds, .reqs, .ag, .sent]) (hf : ∀ a0 s, (f a0 s).view wt = s.view wt) :
    (State.membGuard s k f).view wt = s.view wt := by
  simp at hoff
  unfold State.membGuard; (try simp only [sw_beq_ep, ep_beq_sw, sw_beq_sw, ep_beq_ep, Bool.false_eq_true, Bool.true_and, Bool.false_and, if_true, if_false]); (repeat' split) <;> (try dsimp only) <;> first | contradiction | simp +decide [State.membGuard, hoff, hf, Chip.view, Chip.rest, Pool.view, Pool.rest, Svc.view, Svc.rest, Herds.view, Herds.rest, Dct.view, Dct.rest, Dct.held, Fw.view, Fw.rest, Fw.held]

theorem herdResult_sw_frame (k : Packet) (s : State) (hoff : Off wt [.hdr .sw, .page .sw 0x5, .page .sw 0xb, .page .sw 0x11, .page .sw 0x14, .page .sw 0x20, .page .sw 0x21, .log .sw, .ports .sw, .sync .sw, .core, .svc, .herds, .hrd, .sent]) :
    (herdResult .sw k s).view wt = s.view wt := by
  simp at hoff
  simp [herdResult, hoff, Chip.view, Chip.rest, Pool.view, Pool.rest, Svc.view, Svc.rest, Herds.view, Herds.rest, Dct.view, Dct.rest, Dct.held, Fw.view, Fw.rest, Fw.held]

theorem herdResult_ep_frame (k : Packet) (s : State) (hoff : Off wt [.hdr .ep, .page .ep 0x4, .page .ep 0xb, .page .ep 0x10, .page .ep 0x21, .page .ep 0x31, .page .ep 0x32, .page .ep 0x280, .log .ep, .ports .ep, .sync .ep, .rly, .cmds, .reqs, .ag, .sent]) :
    (herdResult .ep k s).view wt = s.view wt := by
  simp at hoff
  simp [herdResult, hoff, Chip.view, Chip.rest, Pool.view, Pool.rest, Svc.view, Svc.rest, Herds.view, Herds.rest, Dct.view, Dct.rest, Dct.held, Fw.view, Fw.rest, Fw.held]

theorem herdCounts_sw_frame (k : Packet) (s : State) (hoff : Off wt [.hdr .sw, .page .sw 0x5, .page .sw 0xb, .page .sw 0x11, .page .sw 0x14, .page .sw 0x20, .page .sw 0x21, .log .sw, .ports .sw, .sync .sw, .core, .svc, .herds, .hrd, .sent]) :
    (herdCounts .sw k s).view wt = s.view wt := by
  simp at hoff
  simp [herdCounts, hoff, Chip.view, Chip.rest, Pool.view, Pool.rest, Svc.view, Svc.rest, Herds.view, Herds.rest, Dct.view, Dct.rest, Dct.held, Fw.view, Fw.rest, Fw.held]

theorem herdCounts_ep_frame (k : Packet) (s : State) (hoff : Off wt [.hdr .ep, .page .ep 0x4, .page .ep 0xb, .page .ep 0x10, .page .ep 0x21, .page .ep 0x31, .page .ep 0x32, .page .ep 0x280, .log .ep, .ports .ep, .sync .ep, .rly, .cmds, .reqs, .ag, .sent]) :
    (herdCounts .ep k s).view wt = s.view wt := by
  simp at hoff
  simp [herdCounts, hoff, Chip.view, Chip.rest, Pool.view, Pool.rest, Svc.view, Svc.rest, Herds.view, Herds.rest, Dct.view, Dct.rest, Dct.held, Fw.view, Fw.rest, Fw.held]

theorem herdRecord_frame (k : Packet) (s : State) (hoff : Off wt [.hdr .ep, .page .ep 0x4, .page .ep 0xb, .page .ep 0x10, .page .ep 0x21, .page .ep 0x31, .page .ep 0x32, .page .ep 0x280, .log .ep, .ports .ep, .sync .ep, .rly, .cmds, .reqs, .ag, .sent]) :
    (herdRecord k s).view wt = s.view wt := by
  simp at hoff
  simp [herdRecord, hoff, Chip.view, Chip.rest, Pool.view, Pool.rest, Svc.view, Svc.rest, Herds.view, Herds.rest, Dct.view, Dct.rest, Dct.held, Fw.view, Fw.rest, Fw.held]

theorem herdSignalReceive_frame (k : Packet) (s : State) (hoff : Off wt [.hdr .ep, .page .ep 0x4, .page .ep 0xb, .page .ep 0x10, .page .ep 0x21, .page .ep 0x31, .page .ep 0x32, .page .ep 0x280, .log .ep, .ports .ep, .sync .ep, .rly, .cmds, .reqs, .ag, .sent]) :
    (herdSignalReceive k s).view wt = s.view wt := by
  simp at hoff
  simp [herdSignalReceive, hoff, Chip.view, Chip.rest, Pool.view, Pool.rest, Svc.view, Svc.rest, Herds.view, Herds.rest, Dct.view, Dct.rest, Dct.held, Fw.view, Fw.rest, Fw.held]

theorem herdCplReceive_sw_frame (k : Packet) (s : State) (hoff : Off wt [.hdr .sw, .page .sw 0x5, .page .sw 0xb, .page .sw 0x11, .page .sw 0x14, .page .sw 0x20, .page .sw 0x21, .log .sw, .ports .sw, .sync .sw, .core, .svc, .herds, .hrd, .sent]) :
    (herdCplReceive .sw k s).view wt = s.view wt := by
  simp at hoff
  simp [herdCplReceive, hoff, Chip.view, Chip.rest, Pool.view, Pool.rest, Svc.view, Svc.rest, Herds.view, Herds.rest, Dct.view, Dct.rest, Dct.held, Fw.view, Fw.rest, Fw.held]

theorem herdCplReceive_ep_frame (k : Packet) (s : State) (hoff : Off wt [.hdr .ep, .page .ep 0x4, .page .ep 0xb, .page .ep 0x10, .page .ep 0x21, .page .ep 0x31, .page .ep 0x32, .page .ep 0x280, .log .ep, .ports .ep, .sync .ep, .rly, .cmds, .reqs, .ag, .sent]) :
    (herdCplReceive .ep k s).view wt = s.view wt := by
  simp at hoff
  simp [herdCplReceive, hoff, Chip.view, Chip.rest, Pool.view, Pool.rest, Svc.view, Svc.rest, Herds.view, Herds.rest, Dct.view, Dct.rest, Dct.held, Fw.view, Fw.rest, Fw.held]

@[simp] theorem State_membAck_frame (s : State) (k : Packet) (hoff : Off wt [.page .ep 0x10, .page .ep 0x280, .ports .ep, .rly, .sent]) :
    (State.membAck s k).view wt = s.view wt := by
  simp at hoff
  simp [State.membAck, hoff, Chip.view, Chip.rest, Pool.view, Pool.rest, Svc.view, Svc.rest, Herds.view, Herds.rest, Dct.view, Dct.rest, Dct.held, Fw.view, Fw.rest, Fw.held]

@[simp] theorem State_membAbortIn_frame (s : State) (k : Packet) (hoff : Off wt [.hdr .ep, .page .ep 0x4, .page .ep 0xb, .page .ep 0x10, .page .ep 0x21, .page .ep 0x31, .page .ep 0x32, .page .ep 0x280, .log .ep, .ports .ep, .sync .ep, .rly, .cmds, .reqs, .ag, .sent]) :
    (State.membAbortIn s k).view wt = s.view wt := by
  simp at hoff
  unfold State.membAbortIn; (try simp only [sw_beq_ep, ep_beq_sw, sw_beq_sw, ep_beq_ep, Bool.false_eq_true, Bool.true_and, Bool.false_and, if_true, if_false]); (repeat' split) <;> (try dsimp only) <;> first | contradiction | simp +decide [State.membAbortIn, hoff, Chip.view, Chip.rest, Pool.view, Pool.rest, Svc.view, Svc.rest, Herds.view, Herds.rest, Dct.view, Dct.rest, Dct.held, Fw.view, Fw.rest, Fw.held]

theorem herdAbortReceive_sw_frame (k : Packet) (s : State) (hoff : Off wt [.hdr .sw, .page .sw 0x5, .page .sw 0xb, .page .sw 0x11, .page .sw 0x14, .page .sw 0x20, .page .sw 0x21, .log .sw, .ports .sw, .sync .sw, .core, .svc, .herds, .hrd, .sent]) :
    (herdAbortReceive .sw k s).view wt = s.view wt := by
  simp at hoff
  simp [herdAbortReceive, hoff, Chip.view, Chip.rest, Pool.view, Pool.rest, Svc.view, Svc.rest, Herds.view, Herds.rest, Dct.view, Dct.rest, Dct.held, Fw.view, Fw.rest, Fw.held]

theorem herdAbortReceive_ep_frame (k : Packet) (s : State) (hoff : Off wt [.hdr .ep, .page .ep 0x4, .page .ep 0xb, .page .ep 0x10, .page .ep 0x21, .page .ep 0x31, .page .ep 0x32, .page .ep 0x280, .log .ep, .ports .ep, .sync .ep, .rly, .cmds, .reqs, .ag, .sent]) :
    (herdAbortReceive .ep k s).view wt = s.view wt := by
  simp at hoff
  simp [herdAbortReceive, hoff, Chip.view, Chip.rest, Pool.view, Pool.rest, Svc.view, Svc.rest, Herds.view, Herds.rest, Dct.view, Dct.rest, Dct.held, Fw.view, Fw.rest, Fw.held]

theorem herdSwapReceive_frame (k : Packet) (s : State) (hoff : Off wt [.hdr .ep, .page .ep 0x4, .page .ep 0xb, .page .ep 0x10, .page .ep 0x21, .page .ep 0x31, .page .ep 0x32, .page .ep 0x280, .log .ep, .ports .ep, .sync .ep, .rly, .cmds, .reqs, .ag, .sent]) :
    (herdSwapReceive k s).view wt = s.view wt := by
  simp at hoff
  unfold herdSwapReceive; (try simp only [sw_beq_ep, ep_beq_sw, sw_beq_sw, ep_beq_ep, Bool.false_eq_true, Bool.true_and, Bool.false_and, if_true, if_false]); (repeat' split) <;> (try dsimp only) <;> first | contradiction | simp +decide [herdSwapReceive, hoff, Chip.view, Chip.rest, Pool.view, Pool.rest, Svc.view, Svc.rest, Herds.view, Herds.rest, Dct.view, Dct.rest, Dct.held, Fw.view, Fw.rest, Fw.held]

theorem syncAdd_sw_frame (queue : Nat) (k : Packet) (s : State) (hoff : Off wt [.hdr .sw, .page .sw 0x5, .page .sw 0xb, .page .sw 0x11, .page .sw 0x13, .page .sw 0x14, .page .sw 0x21, .log .sw, .sync .sw, .core, .pool, .sent]) :
    (syncAdd .sw queue k s).view wt = s.view wt := by
  simp at hoff
  simp [syncAdd, syncSet, State.when, hoff]

theorem syncAdd_ep_frame (queue : Nat) (k : Packet) (s : State) (hoff : Off wt [.hdr .ep, .page .ep 0x4, .page .ep 0xb, .page .ep 0x10, .page .ep 0x21, .page .ep 0x22, .page .ep 0x31, .page .ep 0x32, .page .ep 0x280, .log .ep, .ports .ep, .sync .ep, .rly, .cmds, .ddp, .reqs, .ag, .sent]) :
    (syncAdd .ep queue k s).view wt = s.view wt := by
  simp at hoff
  simp [syncAdd, syncSet, State.when, hoff]

theorem syncSet_sw_frame (queue : Nat) (k : Packet) (s : State) (hoff : Off wt [.hdr .sw, .page .sw 0x5, .page .sw 0xb, .page .sw 0x11, .page .sw 0x13, .page .sw 0x14, .page .sw 0x21, .log .sw, .sync .sw, .core, .pool, .sent]) :
    (syncSet .sw queue k s).view wt = s.view wt := by
  simp at hoff
  simp [syncAdd, syncSet, State.when, hoff]

theorem syncSet_ep_frame (queue : Nat) (k : Packet) (s : State) (hoff : Off wt [.hdr .ep, .page .ep 0x4, .page .ep 0xb, .page .ep 0x10, .page .ep 0x21, .page .ep 0x22, .page .ep 0x31, .page .ep 0x32, .page .ep 0x280, .log .ep, .ports .ep, .sync .ep, .rly, .cmds, .ddp, .reqs, .ag, .sent]) :
    (syncSet .ep queue k s).view wt = s.view wt := by
  simp at hoff
  simp [syncAdd, syncSet, State.when, hoff]

theorem syncSetClear_sw_frame (queue : Nat) (k : Packet) (s : State) (hoff : Off wt [.hdr .sw, .page .sw 0x5, .page .sw 0xb, .page .sw 0x11, .page .sw 0x13, .page .sw 0x14, .page .sw 0x21, .log .sw, .sync .sw, .core, .pool, .sent]) :
    (syncSetClear .sw queue k s).view wt = s.view wt := by
  simp at hoff
  simp only [syncSetClear, sw_beq_ep, ep_beq_ep, State.when, Bool.false_eq_true, if_true, if_false]
  
  refine State_syncGuard_sw_frame _ _ _ _ (by simp [hoff]) fun s => ?_
  refine State_room_sw_frame _ _ _ (by simp [hoff]) fun s => ?_
  simp [hoff]

theorem syncSetClear_ep_frame (queue : Nat) (k : Packet) (s : State) (hoff : Off wt [.hdr .ep, .page .ep 0x4, .page .ep 0xb, .page .ep 0x10, .page .ep 0x21, .page .ep 0x22, .page .ep 0x31, .page .ep 0x32, .page .ep 0x280, .log .ep, .ports .ep, .sync .ep, .rly, .cmds, .ddp, .reqs, .ag, .sent]) :
    (syncSetClear .ep queue k s).view wt = s.view wt := by
  simp at hoff
  simp only [syncSetClear, sw_beq_ep, ep_beq_ep, State.when, Bool.false_eq_true, if_true, if_false]
  rw [State_drive_frame _ (by simp [hoff])]
  refine State_syncGuard_ep_frame _ _ _ _ (by simp [hoff]) fun s => ?_
  refine State_room_ep_frame _ _ _ (by simp [hoff]) fun s => ?_
  simp [hoff]

theorem syncRead_sw_frame (queue : Nat) (k : Packet) (s : State) (hoff : Off wt [.hdr .sw, .page .sw 0x5, .page .sw 0xb, .page .sw 0x11, .page .sw 0x13, .page .sw 0x14, .log .sw, .core, .pool, .sent]) :
    (syncRead .sw queue k s).view wt = s.view wt := by
  simp at hoff
  simp [syncRead, hoff, Chip.view, Chip.rest, Pool.view, Pool.rest, Svc.view, Svc.rest, Herds.view, Herds.rest, Dct.view, Dct.rest, Dct.held, Fw.view, Fw.rest, Fw.held]

theorem syncRead_ep_frame (queue : Nat) (k : Packet) (s : State) (hoff : Off wt [.hdr .ep, .page .ep 0xb, .page .ep 0x10, .page .ep 0x22, .page .ep 0x280, .log .ep, .ports .ep, .rly, .ddp, .sent]) :
    (syncRead .ep queue k s).view wt = s.view wt := by
  simp at hoff
  simp [syncRead, hoff, Chip.view, Chip.rest, Pool.view, Pool.rest, Svc.view, Svc.rest, Herds.view, Herds.rest, Dct.view, Dct.rest, Dct.held, Fw.view, Fw.rest, Fw.held]

theorem syncWait_sw_frame (queue : Nat) (k : Packet) (s : State) (hoff : Off wt [.hdr .sw, .page .sw 0x5, .page .sw 0xb, .page .sw 0x11, .page .sw 0x13, .page .sw 0x14, .page .sw 0x21, .log .sw, .sync .sw, .core, .pool, .sent]) :
    (syncWait .sw queue k s).view wt = s.view wt := by
  simp at hoff
  simp [syncWait, hoff, Chip.view, Chip.rest, Pool.view, Pool.rest, Svc.view, Svc.rest, Herds.view, Herds.rest, Dct.view, Dct.rest, Dct.held, Fw.view, Fw.rest, Fw.held]

theorem syncWait_ep_frame (queue : Nat) (k : Packet) (s : State) (hoff : Off wt [.hdr .ep, .page .ep 0xb, .page .ep 0x10, .page .ep 0x21, .page .ep 0x22, .page .ep 0x280, .log .ep, .ports .ep, .sync .ep, .rly, .ddp, .sent]) :
    (syncWait .ep queue k s).view wt = s.view wt := by
  simp at hoff
  simp [syncWait, hoff, Chip.view, Chip.rest, Pool.view, Pool.rest, Svc.view, Svc.rest, Herds.view, Herds.rest, Dct.view, Dct.rest, Dct.held, Fw.view, Fw.rest, Fw.held]

theorem syncWaitTimeout_sw_frame (src tag : Nat) (s : State) (hoff : Off wt [.page .sw 0x11, .page .sw 0x14, .sync .sw, .core]) :
    (syncWaitTimeout .sw src tag s).view wt = s.view wt := by
  simp at hoff
  unfold syncWaitTimeout; (try simp only [sw_beq_ep, ep_beq_sw, sw_beq_sw, ep_beq_ep, Bool.false_eq_true, Bool.true_and, Bool.false_and, if_true, if_false]); (repeat' split) <;> (try dsimp only) <;> first | contradiction | simp +decide [syncWaitTimeout, hoff, Chip.view, Chip.rest, Pool.view, Pool.rest, Svc.view, Svc.rest, Herds.view, Herds.rest, Dct.view, Dct.rest, Dct.held, Fw.view, Fw.rest, Fw.held]

theorem syncWaitTimeout_ep_frame (src tag : Nat) (s : State) (hoff : Off wt [.page .ep 0x10, .page .ep 0x280, .ports .ep, .sync .ep, .rly, .sent]) :
    (syncWaitTimeout .ep src tag s).view wt = s.view wt := by
  simp at hoff
  unfold syncWaitTimeout; (try simp only [sw_beq_ep, ep_beq_sw, sw_beq_sw, ep_beq_ep, Bool.false_eq_true, Bool.true_and, Bool.false_and, if_true, if_false]); (repeat' split) <;> (try dsimp only) <;> first | contradiction | simp +decide [syncWaitTimeout, hoff, Chip.view, Chip.rest, Pool.view, Pool.rest, Svc.view, Svc.rest, Herds.view, Herds.rest, Dct.view, Dct.rest, Dct.held, Fw.view, Fw.rest, Fw.held]

end Sys2Proof.Machine
end

