-- ==== Sys2Proof/Laws/FrameLinks.lean ====
section
/-! SUPPORT. The components that each operation of links, tack-up, the switch core and power may change. -/

set_option Elab.async false
set_option linter.all false

namespace Sys2Proof.Machine

variable {wt : Comp → Bool}

@[simp] theorem State_lanePut_sw_frame (s : State) (lane : Nat) (f : Fld) (v : Nat) (hreg : Off wt [(laneFld f lane).reg.comp .sw]) :
    (State.lanePut s .sw lane f v).view wt = s.view wt := by
  simp only [off_cons, off_nil, and_true] at hreg
  simp [State.lanePut, hreg, Chip.view, Chip.rest, Pool.view, Pool.rest, Svc.view, Svc.rest, Herds.view, Herds.rest, Dct.view, Dct.rest, Dct.held, Fw.view, Fw.rest, Fw.held]

@[simp] theorem State_lanePut_ep_frame (s : State) (lane : Nat) (f : Fld) (v : Nat) (hreg : Off wt [(laneFld f lane).reg.comp .ep]) :
    (State.lanePut s .ep lane f v).view wt = s.view wt := by
  simp only [off_cons, off_nil, and_true] at hreg
  simp [State.lanePut, hreg, Chip.view, Chip.rest, Pool.view, Pool.rest, Svc.view, Svc.rest, Herds.view, Herds.rest, Dct.view, Dct.rest, Dct.held, Fw.view, Fw.rest, Fw.held]

@[simp] theorem State_lanesTo_sw_frame (s : State) (n mask st : Nat) (hoff : Off wt [.page .sw 0x100]) :
    (State.lanesTo s .sw n mask st).view wt = s.view wt := by
  simp at hoff
  unfold State.lanesTo; (try simp only [sw_beq_ep, ep_beq_sw, sw_beq_sw, ep_beq_ep, Bool.false_eq_true, Bool.true_and, Bool.false_and, if_true, if_false]); repeat' (first | contradiction | (simp +decide [State.lanesTo, hoff, Chip.view, Chip.rest, Pool.view, Pool.rest, Svc.view, Svc.rest, Herds.view, Herds.rest, Dct.view, Dct.rest, Dct.held, Fw.view, Fw.rest, Fw.held]; done) | (intros; split) | (intros; first | refine Eq.trans (foldl_view _ _ _ fun _ _ => ?_) ?_ | refine Eq.trans (foldl_fst_view _ _ _ fun _ _ => ?_) ?_ | refine Eq.trans (when_view _ _ _ ?_) ?_) | dsimp only | simp +decide [State.lanesTo, hoff])

@[simp] theorem State_lanesTo_ep_frame (s : State) (n mask st : Nat) (hoff : Off wt [.page .ep 0x100]) :
    (State.lanesTo s .ep n mask st).view wt = s.view wt := by
  simp at hoff
  unfold State.lanesTo; (try simp only [sw_beq_ep, ep_beq_sw, sw_beq_sw, ep_beq_ep, Bool.false_eq_true, Bool.true_and, Bool.false_and, if_true, if_false]); repeat' (first | contradiction | (simp +decide [State.lanesTo, hoff, Chip.view, Chip.rest, Pool.view, Pool.rest, Svc.view, Svc.rest, Herds.view, Herds.rest, Dct.view, Dct.rest, Dct.held, Fw.view, Fw.rest, Fw.held]; done) | (intros; split) | (intros; first | refine Eq.trans (foldl_view _ _ _ fun _ _ => ?_) ?_ | refine Eq.trans (foldl_fst_view _ _ _ fun _ _ => ?_) ?_ | refine Eq.trans (when_view _ _ _ ?_) ?_) | dsimp only | simp +decide [State.lanesTo, hoff])

@[simp] theorem State_routeNotices_frame (s : State) (op port : Nat) (hoff : Off wt [.page .sw 0x11, .page .sw 0x14, .core]) :
    (State.routeNotices s op port).view wt = s.view wt := by
  simp at hoff
  simp [State.routeNotices, hoff, Chip.view, Chip.rest, Pool.view, Pool.rest, Svc.view, Svc.rest, Herds.view, Herds.rest, Dct.view, Dct.rest, Dct.held, Fw.view, Fw.rest, Fw.held]

@[simp] theorem State_leaveActive_frame (s : State) (n : Nat) (hoff : Off wt [.hdr .sw, .page .sw 0x5, .page .sw 0x8, .page .sw 0xb, .page .sw 0x11, .page .sw 0x13, .page .sw 0x14, .page .sw 0x20, .page .sw 0x21, .page .sw 0x30, .page .sw 0x31, .page .sw 0x32, .page .sw 0x40, .page .sw 0x50, .page .sw 0x300, .log .sw, .ports .sw, .sync .sw, .core, .mem, .pool, .svc, .herds, .hrd, .host, .dct, .sent, .free]) :
    (State.leaveActive s n).view wt = s.view wt := by
  simp at hoff
  unfold State.leaveActive
  simp only []
  refine Eq.trans (when_view _ _ _ (by simp [hoff])) ?_
  simp [hoff]

@[simp] theorem State_meshBind_frame (s : State) (hoff : Off wt [.page .ep 0x7, .page .ep 0xa, .rly]) :
    (State.meshBind s).view wt = s.view wt := by
  simp at hoff
  simp [State.meshBind, hoff, Chip.view, Chip.rest, Pool.view, Pool.rest, Svc.view, Svc.rest, Herds.view, Herds.rest, Dct.view, Dct.rest, Dct.held, Fw.view, Fw.rest, Fw.held]

@[simp] theorem State_leavePlane_frame (s : State) (link : Nat) (hoff : Off wt [.rly]) :
    (State.leavePlane s link).view wt = s.view wt := by
  simp at hoff
  simp [State.leavePlane, hoff, Chip.view, Chip.rest, Pool.view, Pool.rest, Svc.view, Svc.rest, Herds.view, Herds.rest, Dct.view, Dct.rest, Dct.held, Fw.view, Fw.rest, Fw.held]

@[simp] theorem State_linkLost_sw_frame (s : State) (n next : Nat) (fault : Option Nat) (esc : Bool) (hoff : Off wt [.hdr .sw, .page .sw 0x5, .page .sw 0x6, .page .sw 0x7, .page .sw 0x8, .page .sw 0xb, .page .sw 0x11, .page .sw 0x13, .page .sw 0x14, .page .sw 0x20, .page .sw 0x21, .page .sw 0x30, .page .sw 0x31, .page .sw 0x32, .page .sw 0x40, .page .sw 0x50, .page .sw 0x100, .page .sw 0x200, .page .sw 0x280, .page .sw 0x300, .log .sw, .ports .sw, .sync .sw, .chip .sw, .core, .mem, .pool, .svc, .herds, .hrd, .host, .dct, .sent, .free]) :
    (State.linkLost s .sw n next fault esc).view wt = s.view wt := by
  simp at hoff
  unfold State.linkLost
  cases fault <;> simp [hoff, Chip.view, Chip.rest]

@[simp] theorem State_linkLost_ep_frame (s : State) (n next : Nat) (fault : Option Nat) (esc : Bool) (hoff : Off wt [.hdr .ep, .page .ep 0x4, .page .ep 0x6, .page .ep 0x7, .page .ep 0xb, .page .ep 0x10, .page .ep 0x21, .page .ep 0x31, .page .ep 0x32, .page .ep 0x100, .page .ep 0x200, .page .ep 0x280, .log .ep, .ports .ep, .sync .ep, .chip .ep, .rly, .cmds, .reqs, .ag, .sent]) :
    (State.linkLost s .ep n next fault esc).view wt = s.view wt := by
  simp at hoff
  unfold State.linkLost
  cases fault <;> simp [hoff, Chip.view, Chip.rest]

@[simp] theorem State_startRetrain_sw_frame (s : State) (n : Nat) (send : Bool) (esc : Bool) (hoff : Off wt [.page .sw 0x100, .page .sw 0x200, .ports .sw, .sent]) :
    (State.startRetrain s .sw n send esc).view wt = s.view wt := by
  simp at hoff
  unfold State.startRetrain; (try simp only [sw_beq_ep, ep_beq_sw, sw_beq_sw, ep_beq_ep, Bool.false_eq_true, Bool.true_and, Bool.false_and, if_true, if_false]); (repeat' split) <;> (try dsimp only) <;> first | contradiction | simp +decide [State.startRetrain, hoff, Chip.view, Chip.rest, Pool.view, Pool.rest, Svc.view, Svc.rest, Herds.view, Herds.rest, Dct.view, Dct.rest, Dct.held, Fw.view, Fw.rest, Fw.held]

@[simp] theorem State_startRetrain_ep_frame (s : State) (n : Nat) (send : Bool) (esc : Bool) (hoff : Off wt [.page .ep 0x100, .page .ep 0x200, .ports .ep, .sent]) :
    (State.startRetrain s .ep n send esc).view wt = s.view wt := by
  simp at hoff
  unfold State.startRetrain; (try simp only [sw_beq_ep, ep_beq_sw, sw_beq_sw, ep_beq_ep, Bool.false_eq_true, Bool.true_and, Bool.false_and, if_true, if_false]); (repeat' split) <;> (try dsimp only) <;> first | contradiction | simp +decide [State.startRetrain, hoff, Chip.view, Chip.rest, Pool.view, Pool.rest, Svc.view, Svc.rest, Herds.view, Herds.rest, Dct.view, Dct.rest, Dct.held, Fw.view, Fw.rest, Fw.held]

@[simp] theorem State_replayFrom_sw_frame (s : State) (n seq : Nat) (hoff : Off wt [.page .sw 0x100, .page .sw 0x200, .page .sw 0x280, .ports .sw, .sent]) :
    (State.replayFrom s .sw n seq).view wt = s.view wt := by
  simp at hoff
  unfold State.replayFrom; (try simp only [sw_beq_ep, ep_beq_sw, sw_beq_sw, ep_beq_ep, Bool.false_eq_true, Bool.true_and, Bool.false_and, if_true, if_false]); (repeat' split) <;> (try dsimp only) <;> first | contradiction | simp +decide [State.replayFrom, hoff, Chip.view, Chip.rest, Pool.view, Pool.rest, Svc.view, Svc.rest, Herds.view, Herds.rest, Dct.view, Dct.rest, Dct.held, Fw.view, Fw.rest, Fw.held]

@[simp] theorem State_replayFrom_ep_frame (s : State) (n seq : Nat) (hoff : Off wt [.page .ep 0x100, .page .ep 0x200, .page .ep 0x280, .ports .ep, .sent]) :
    (State.replayFrom s .ep n seq).view wt = s.view wt := by
  simp at hoff
  unfold State.replayFrom; (try simp only [sw_beq_ep, ep_beq_sw, sw_beq_sw, ep_beq_ep, Bool.false_eq_true, Bool.true_and, Bool.false_and, if_true, if_false]); (repeat' split) <;> (try dsimp only) <;> first | contradiction | simp +decide [State.replayFrom, hoff, Chip.view, Chip.rest, Pool.view, Pool.rest, Svc.view, Svc.rest, Herds.view, Herds.rest, Dct.view, Dct.rest, Dct.held, Fw.view, Fw.rest, Fw.held]

@[simp] theorem State_takeAck_sw_frame (s : State) (n ack : Nat) (hoff : Off wt [.page .sw 0x280, .ports .sw]) :
    (State.takeAck s .sw n ack).view wt = s.view wt := by
  simp at hoff
  simp [State.takeAck, hoff, Chip.view, Chip.rest, Pool.view, Pool.rest, Svc.view, Svc.rest, Herds.view, Herds.rest, Dct.view, Dct.rest, Dct.held, Fw.view, Fw.rest, Fw.held]

@[simp] theorem State_takeAck_ep_frame (s : State) (n ack : Nat) (hoff : Off wt [.page .ep 0x280, .ports .ep]) :
    (State.takeAck s .ep n ack).view wt = s.view wt := by
  simp at hoff
  simp [State.takeAck, hoff, Chip.view, Chip.rest, Pool.view, Pool.rest, Svc.view, Svc.rest, Herds.view, Herds.rest, Dct.view, Dct.rest, Dct.held, Fw.view, Fw.rest, Fw.held]

@[simp] theorem State_takeCredit_sw_frame (s : State) (n crTc crLane cells : Nat) (hoff : Off wt [.ports .sw]) :
    (State.takeCredit s .sw n crTc crLane cells).view wt = s.view wt := by
  simp at hoff
  simp [State.takeCredit, hoff, Chip.view, Chip.rest, Pool.view, Pool.rest, Svc.view, Svc.rest, Herds.view, Herds.rest, Dct.view, Dct.rest, Dct.held, Fw.view, Fw.rest, Fw.held]

@[simp] theorem State_takeCredit_ep_frame (s : State) (n crTc crLane cells : Nat) (hoff : Off wt [.ports .ep]) :
    (State.takeCredit s .ep n crTc crLane cells).view wt = s.view wt := by
  simp at hoff
  simp [State.takeCredit, hoff, Chip.view, Chip.rest, Pool.view, Pool.rest, Svc.view, Svc.rest, Herds.view, Herds.rest, Dct.view, Dct.rest, Dct.held, Fw.view, Fw.rest, Fw.held]

@[simp] theorem State_packetIn_sw_frame (s : State) (n : Nat) (k : Packet) (hoff : Off wt [.hdr .sw, .page .sw 0x5, .page .sw 0xb, .page .sw 0x11, .page .sw 0x14, .page .sw 0x280, .log .sw, .ports .sw, .core, .sent]) :
    (State.packetIn s .sw n k).view wt = s.view wt := by
  simp at hoff
  simp [State.packetIn, hoff, Chip.view, Chip.rest, Pool.view, Pool.rest, Svc.view, Svc.rest, Herds.view, Herds.rest, Dct.view, Dct.rest, Dct.held, Fw.view, Fw.rest, Fw.held]

@[simp] theorem State_packetIn_ep_frame (s : State) (n : Nat) (k : Packet) (hoff : Off wt [.hdr .ep, .page .ep 0xb, .page .ep 0x10, .page .ep 0x280, .log .ep, .ports .ep, .rly, .sent]) :
    (State.packetIn s .ep n k).view wt = s.view wt := by
  simp at hoff
  simp [State.packetIn, hoff, Chip.view, Chip.rest, Pool.view, Pool.rest, Svc.view, Svc.rest, Herds.view, Herds.rest, Dct.view, Dct.rest, Dct.held, Fw.view, Fw.rest, Fw.held]

@[simp] theorem State_slotIn_sw_frame (s : State) (n : Nat) (start : Bool) (bs : List Byte) (hoff : Off wt [.hdr .sw, .page .sw 0x5, .page .sw 0xb, .page .sw 0x11, .page .sw 0x14, .page .sw 0x280, .log .sw, .ports .sw, .core, .sent]) :
    (State.slotIn s .sw n start bs).view wt = s.view wt := by
  simp at hoff
  simp [State.slotIn, hoff, Chip.view, Chip.rest, Pool.view, Pool.rest, Svc.view, Svc.rest, Herds.view, Herds.rest, Dct.view, Dct.rest, Dct.held, Fw.view, Fw.rest, Fw.held]

@[simp] theorem State_slotIn_ep_frame (s : State) (n : Nat) (start : Bool) (bs : List Byte) (hoff : Off wt [.hdr .ep, .page .ep 0xb, .page .ep 0x10, .page .ep 0x280, .log .ep, .ports .ep, .rly, .sent]) :
    (State.slotIn s .ep n start bs).view wt = s.view wt := by
  simp at hoff
  simp [State.slotIn, hoff, Chip.view, Chip.rest, Pool.view, Pool.rest, Svc.view, Svc.rest, Herds.view, Herds.rest, Dct.view, Dct.rest, Dct.held, Fw.view, Fw.rest, Fw.held]

@[simp] theorem State_flitContents_sw_frame (s : State) (n : Nat) (f : List Byte) (hoff : Off wt [.hdr .sw, .page .sw 0x5, .page .sw 0xb, .page .sw 0x11, .page .sw 0x14, .page .sw 0x280, .log .sw, .ports .sw, .core, .sent]) :
    (State.flitContents s .sw n f).view wt = s.view wt := by
  simp at hoff
  simp [State.flitContents, hoff, Chip.view, Chip.rest, Pool.view, Pool.rest, Svc.view, Svc.rest, Herds.view, Herds.rest, Dct.view, Dct.rest, Dct.held, Fw.view, Fw.rest, Fw.held]

@[simp] theorem State_flitContents_ep_frame (s : State) (n : Nat) (f : List Byte) (hoff : Off wt [.hdr .ep, .page .ep 0xb, .page .ep 0x10, .page .ep 0x280, .log .ep, .ports .ep, .rly, .sent]) :
    (State.flitContents s .ep n f).view wt = s.view wt := by
  simp at hoff
  simp [State.flitContents, hoff, Chip.view, Chip.rest, Pool.view, Pool.rest, Svc.view, Svc.rest, Herds.view, Herds.rest, Dct.view, Dct.rest, Dct.held, Fw.view, Fw.rest, Fw.held]

@[simp] theorem State_nakFor_sw_frame (s : State) (n : Nat) (hoff : Off wt [.page .sw 0x280, .ports .sw, .sent]) :
    (State.nakFor s .sw n).view wt = s.view wt := by
  simp at hoff
  simp [State.nakFor, hoff, Chip.view, Chip.rest, Pool.view, Pool.rest, Svc.view, Svc.rest, Herds.view, Herds.rest, Dct.view, Dct.rest, Dct.held, Fw.view, Fw.rest, Fw.held]

@[simp] theorem State_nakFor_ep_frame (s : State) (n : Nat) (hoff : Off wt [.page .ep 0x280, .ports .ep, .sent]) :
    (State.nakFor s .ep n).view wt = s.view wt := by
  simp at hoff
  simp [State.nakFor, hoff, Chip.view, Chip.rest, Pool.view, Pool.rest, Svc.view, Svc.rest, Herds.view, Herds.rest, Dct.view, Dct.rest, Dct.held, Fw.view, Fw.rest, Fw.held]

@[simp] theorem State_nakIn_sw_frame (s : State) (n ack : Nat) (hoff : Off wt [.page .sw 0x100, .page .sw 0x200, .page .sw 0x280, .ports .sw, .sent]) :
    (State.nakIn s .sw n ack).view wt = s.view wt := by
  simp at hoff
  simp [State.nakIn, hoff, Chip.view, Chip.rest, Pool.view, Pool.rest, Svc.view, Svc.rest, Herds.view, Herds.rest, Dct.view, Dct.rest, Dct.held, Fw.view, Fw.rest, Fw.held]

@[simp] theorem State_nakIn_ep_frame (s : State) (n ack : Nat) (hoff : Off wt [.page .ep 0x100, .page .ep 0x200, .page .ep 0x280, .ports .ep, .sent]) :
    (State.nakIn s .ep n ack).view wt = s.view wt := by
  simp at hoff
  simp [State.nakIn, hoff, Chip.view, Chip.rest, Pool.view, Pool.rest, Svc.view, Svc.rest, Herds.view, Herds.rest, Dct.view, Dct.rest, Dct.held, Fw.view, Fw.rest, Fw.held]

@[simp] theorem State_sealIn_sw_frame (s : State) (n : Nat) (tag : List Byte) (first count : Nat) (hoff : Off wt [.hdr .sw, .page .sw 0x5, .page .sw 0x6, .page .sw 0x7, .page .sw 0x8, .page .sw 0xb, .page .sw 0x11, .page .sw 0x13, .page .sw 0x14, .page .sw 0x20, .page .sw 0x21, .page .sw 0x30, .page .sw 0x31, .page .sw 0x32, .page .sw 0x40, .page .sw 0x50, .page .sw 0x100, .page .sw 0x200, .page .sw 0x280, .page .sw 0x300, .log .sw, .ports .sw, .sync .sw, .chip .sw, .core, .mem, .pool, .svc, .herds, .hrd, .host, .dct, .sent, .free]) :
    (State.sealIn s .sw n tag first count).view wt = s.view wt := by
  simp at hoff
  unfold State.sealIn; (try simp only [sw_beq_ep, ep_beq_sw, sw_beq_sw, ep_beq_ep, Bool.false_eq_true, Bool.true_and, Bool.false_and, if_true, if_false]); (repeat' split) <;> (try dsimp only) <;> first | contradiction | simp +decide [State.sealIn, hoff, Chip.view, Chip.rest, Pool.view, Pool.rest, Svc.view, Svc.rest, Herds.view, Herds.rest, Dct.view, Dct.rest, Dct.held, Fw.view, Fw.rest, Fw.held]

@[simp] theorem State_sealIn_ep_frame (s : State) (n : Nat) (tag : List Byte) (first count : Nat) (hoff : Off wt [.hdr .ep, .page .ep 0x4, .page .ep 0x6, .page .ep 0x7, .page .ep 0xb, .page .ep 0x10, .page .ep 0x21, .page .ep 0x31, .page .ep 0x32, .page .ep 0x100, .page .ep 0x200, .page .ep 0x280, .log .ep, .ports .ep, .sync .ep, .chip .ep, .rly, .cmds, .reqs, .ag, .sent]) :
    (State.sealIn s .ep n tag first count).view wt = s.view wt := by
  simp at hoff
  unfold State.sealIn; (try simp only [sw_beq_ep, ep_beq_sw, sw_beq_sw, ep_beq_ep, Bool.false_eq_true, Bool.true_and, Bool.false_and, if_true, if_false]); (repeat' split) <;> (try dsimp only) <;> first | contradiction | simp +decide [State.sealIn, hoff, Chip.view, Chip.rest, Pool.view, Pool.rest, Svc.view, Svc.rest, Herds.view, Herds.rest, Dct.view, Dct.rest, Dct.held, Fw.view, Fw.rest, Fw.held]

@[simp] theorem State_shedLanes_sw_frame (s : State) (n mask : Nat) (esc : Bool) (hoff : Off wt [.page .sw 0x100, .page .sw 0x200, .ports .sw, .sent]) :
    (State.shedLanes s .sw n mask esc).view wt = s.view wt := by
  simp at hoff
  simp [State.shedLanes, hoff, Chip.view, Chip.rest, Pool.view, Pool.rest, Svc.view, Svc.rest, Herds.view, Herds.rest, Dct.view, Dct.rest, Dct.held, Fw.view, Fw.rest, Fw.held]

@[simp] theorem State_shedLanes_ep_frame (s : State) (n mask : Nat) (esc : Bool) (hoff : Off wt [.page .ep 0x100, .page .ep 0x200, .ports .ep, .sent]) :
    (State.shedLanes s .ep n mask esc).view wt = s.view wt := by
  simp at hoff
  simp [State.shedLanes, hoff, Chip.view, Chip.rest, Pool.view, Pool.rest, Svc.view, Svc.rest, Herds.view, Herds.rest, Dct.view, Dct.rest, Dct.held, Fw.view, Fw.rest, Fw.held]

@[simp] theorem State_shedWindow_sw_frame (s : State) (n : Nat) (hoff : Off wt [.hdr .sw, .page .sw 0x5, .page .sw 0xb, .page .sw 0x11, .page .sw 0x14, .page .sw 0x20, .page .sw 0x21, .page .sw 0x100, .page .sw 0x200, .log .sw, .ports .sw, .sync .sw, .core, .svc, .herds, .hrd, .sent]) :
    (State.shedWindow s .sw n).view wt = s.view wt := by
  simp at hoff
  unfold State.shedWindow; (try simp only [sw_beq_ep, ep_beq_sw, sw_beq_sw, ep_beq_ep, Bool.false_eq_true, Bool.true_and, Bool.false_and, if_true, if_false]); (repeat' split) <;> (try dsimp only) <;> first | contradiction | simp +decide [State.shedWindow, hoff, Chip.view, Chip.rest, Pool.view, Pool.rest, Svc.view, Svc.rest, Herds.view, Herds.rest, Dct.view, Dct.rest, Dct.held, Fw.view, Fw.rest, Fw.held]

@[simp] theorem State_shedWindow_ep_frame (s : State) (n : Nat) (hoff : Off wt [.page .ep 0x100, .page .ep 0x200, .ports .ep, .sent]) :
    (State.shedWindow s .ep n).view wt = s.view wt := by
  simp at hoff
  unfold State.shedWindow; (try simp only [sw_beq_ep, ep_beq_sw, sw_beq_sw, ep_beq_ep, Bool.false_eq_true, Bool.true_and, Bool.false_and, if_true, if_false]); (repeat' split) <;> (try dsimp only) <;> first | contradiction | simp +decide [State.shedWindow, hoff, Chip.view, Chip.rest, Pool.view, Pool.rest, Svc.view, Svc.rest, Herds.view, Herds.rest, Dct.view, Dct.rest, Dct.held, Fw.view, Fw.rest, Fw.held]

@[simp] theorem State_countSymbols_sw_frame (s : State) (n : Nat) (places : List Nat) (hoff : Off wt [.page .sw 0x100, .ports .sw, .free]) :
    (State.countSymbols s .sw n places).view wt = s.view wt := by
  simp at hoff
  simp [State.countSymbols, hoff, Chip.view, Chip.rest, Pool.view, Pool.rest, Svc.view, Svc.rest, Herds.view, Herds.rest, Dct.view, Dct.rest, Dct.held, Fw.view, Fw.rest, Fw.held]

@[simp] theorem State_countSymbols_ep_frame (s : State) (n : Nat) (places : List Nat) (hoff : Off wt [.page .ep 0x100, .ports .ep, .free]) :
    (State.countSymbols s .ep n places).view wt = s.view wt := by
  simp at hoff
  simp [State.countSymbols, hoff, Chip.view, Chip.rest, Pool.view, Pool.rest, Svc.view, Svc.rest, Herds.view, Herds.rest, Dct.view, Dct.rest, Dct.held, Fw.view, Fw.rest, Fw.held]

@[simp] theorem State_flitGood_sw_frame (s : State) (n : Nat) (f : List Byte) (hoff : Off wt [.hdr .sw, .page .sw 0x5, .page .sw 0x6, .page .sw 0x7, .page .sw 0x8, .page .sw 0xb, .page .sw 0x11, .page .sw 0x13, .page .sw 0x14, .page .sw 0x20, .page .sw 0x21, .page .sw 0x30, .page .sw 0x31, .page .sw 0x32, .page .sw 0x40, .page .sw 0x50, .page .sw 0x100, .page .sw 0x200, .page .sw 0x280, .page .sw 0x300, .log .sw, .ports .sw, .sync .sw, .chip .sw, .core, .mem, .pool, .svc, .herds, .hrd, .host, .dct, .sent, .free]) :
    (State.flitGood s .sw n f).view wt = s.view wt := by
  simp at hoff
  simp [State.flitGood, hoff, Chip.view, Chip.rest, Pool.view, Pool.rest, Svc.view, Svc.rest, Herds.view, Herds.rest, Dct.view, Dct.rest, Dct.held, Fw.view, Fw.rest, Fw.held]

@[simp] theorem State_flitGood_ep_frame (s : State) (n : Nat) (f : List Byte) (hoff : Off wt [.hdr .ep, .page .ep 0x4, .page .ep 0x6, .page .ep 0x7, .page .ep 0xb, .page .ep 0x10, .page .ep 0x21, .page .ep 0x31, .page .ep 0x32, .page .ep 0x100, .page .ep 0x200, .page .ep 0x280, .log .ep, .ports .ep, .sync .ep, .chip .ep, .rly, .cmds, .reqs, .ag, .sent]) :
    (State.flitGood s .ep n f).view wt = s.view wt := by
  simp at hoff
  simp [State.flitGood, hoff, Chip.view, Chip.rest, Pool.view, Pool.rest, Svc.view, Svc.rest, Herds.view, Herds.rest, Dct.view, Dct.rest, Dct.held, Fw.view, Fw.rest, Fw.held]

@[simp] theorem State_flitIn_sw_frame (s : State) (n : Nat) (w : List Byte) (hoff : Off wt [.hdr .sw, .page .sw 0x5, .page .sw 0x6, .page .sw 0x7, .page .sw 0x8, .page .sw 0xb, .page .sw 0x11, .page .sw 0x13, .page .sw 0x14, .page .sw 0x20, .page .sw 0x21, .page .sw 0x30, .page .sw 0x31, .page .sw 0x32, .page .sw 0x40, .page .sw 0x50, .page .sw 0x100, .page .sw 0x200, .page .sw 0x280, .page .sw 0x300, .log .sw, .ports .sw, .sync .sw, .chip .sw, .core, .mem, .pool, .svc, .herds, .hrd, .host, .dct, .sent, .free]) :
    (State.flitIn s .sw n w).view wt = s.view wt := by
  simp at hoff
  unfold State.flitIn; (try simp only [sw_beq_ep, ep_beq_sw, sw_beq_sw, ep_beq_ep, Bool.false_eq_true, Bool.true_and, Bool.false_and, if_true, if_false]); repeat' (first | contradiction | (simp +decide [State.flitIn, hoff, Chip.view, Chip.rest, Pool.view, Pool.rest, Svc.view, Svc.rest, Herds.view, Herds.rest, Dct.view, Dct.rest, Dct.held, Fw.view, Fw.rest, Fw.held]; done) | (intros; split) | (intros; first | refine Eq.trans (foldl_view _ _ _ fun _ _ => ?_) ?_ | refine Eq.trans (foldl_fst_view _ _ _ fun _ _ => ?_) ?_ | refine Eq.trans (when_view _ _ _ ?_) ?_) | dsimp only | simp +decide [State.flitIn, hoff])

@[simp] theorem State_flitIn_ep_frame (s : State) (n : Nat) (w : List Byte) (hoff : Off wt [.hdr .ep, .page .ep 0x4, .page .ep 0x6, .page .ep 0x7, .page .ep 0xb, .page .ep 0x10, .page .ep 0x21, .page .ep 0x31, .page .ep 0x32, .page .ep 0x100, .page .ep 0x200, .page .ep 0x280, .log .ep, .ports .ep, .sync .ep, .chip .ep, .rly, .cmds, .reqs, .ag, .sent, .free]) :
    (State.flitIn s .ep n w).view wt = s.view wt := by
  simp at hoff
  unfold State.flitIn; (try simp only [sw_beq_ep, ep_beq_sw, sw_beq_sw, ep_beq_ep, Bool.false_eq_true, Bool.true_and, Bool.false_and, if_true, if_false]); repeat' (first | contradiction | (simp +decide [State.flitIn, hoff, Chip.view, Chip.rest, Pool.view, Pool.rest, Svc.view, Svc.rest, Herds.view, Herds.rest, Dct.view, Dct.rest, Dct.held, Fw.view, Fw.rest, Fw.held]; done) | (intros; split) | (intros; first | refine Eq.trans (foldl_view _ _ _ fun _ _ => ?_) ?_ | refine Eq.trans (foldl_fst_view _ _ _ fun _ _ => ?_) ?_ | refine Eq.trans (when_view _ _ _ ?_) ?_) | dsimp only | simp +decide [State.flitIn, hoff])

@[simp] theorem State_sendKex_sw_frame (s : State) (n : Nat) (resp : Bool) (m : KexMsg) (hoff : Off wt [.page .sw 0x280, .ports .sw, .sent]) :
    (State.sendKex s .sw n resp m).view wt = s.view wt := by
  simp at hoff
  simp [State.sendKex, hoff, Chip.view, Chip.rest, Pool.view, Pool.rest, Svc.view, Svc.rest, Herds.view, Herds.rest, Dct.view, Dct.rest, Dct.held, Fw.view, Fw.rest, Fw.held]

@[simp] theorem State_sendKex_ep_frame (s : State) (n : Nat) (resp : Bool) (m : KexMsg) (hoff : Off wt [.page .ep 0x280, .ports .ep, .sent]) :
    (State.sendKex s .ep n resp m).view wt = s.view wt := by
  simp at hoff
  simp [State.sendKex, hoff, Chip.view, Chip.rest, Pool.view, Pool.rest, Svc.view, Svc.rest, Herds.view, Herds.rest, Dct.view, Dct.rest, Dct.held, Fw.view, Fw.rest, Fw.held]

@[simp] theorem State_startKex_sw_frame (s : State) (n : Nat) (hoff : Off wt [.page .sw 0x280, .ports .sw, .sent, .free]) :
    (State.startKex s .sw n).view wt = s.view wt := by
  simp at hoff
  simp [State.startKex, hoff, Chip.view, Chip.rest, Pool.view, Pool.rest, Svc.view, Svc.rest, Herds.view, Herds.rest, Dct.view, Dct.rest, Dct.held, Fw.view, Fw.rest, Fw.held]

@[simp] theorem State_startKex_ep_frame (s : State) (n : Nat) (hoff : Off wt [.page .ep 0x280, .ports .ep, .sent, .free]) :
    (State.startKex s .ep n).view wt = s.view wt := by
  simp at hoff
  simp [State.startKex, hoff, Chip.view, Chip.rest, Pool.view, Pool.rest, Svc.view, Svc.rest, Herds.view, Herds.rest, Dct.view, Dct.rest, Dct.held, Fw.view, Fw.rest, Fw.held]

@[simp] theorem State_installKeys_sw_frame (s : State) (n : Nat) (ss h : List Byte) (hoff : Off wt [.page .sw 0x7, .page .sw 0x280, .ports .sw, .sent]) :
    (State.installKeys s .sw n ss h).view wt = s.view wt := by
  simp at hoff
  simp [State.installKeys, hoff, Chip.view, Chip.rest, Pool.view, Pool.rest, Svc.view, Svc.rest, Herds.view, Herds.rest, Dct.view, Dct.rest, Dct.held, Fw.view, Fw.rest, Fw.held]

@[simp] theorem State_installKeys_ep_frame (s : State) (n : Nat) (ss h : List Byte) (hoff : Off wt [.page .ep 0x7, .page .ep 0x280, .ports .ep, .sent]) :
    (State.installKeys s .ep n ss h).view wt = s.view wt := by
  simp at hoff
  simp [State.installKeys, hoff, Chip.view, Chip.rest, Pool.view, Pool.rest, Svc.view, Svc.rest, Herds.view, Herds.rest, Dct.view, Dct.rest, Dct.held, Fw.view, Fw.rest, Fw.held]

@[simp] theorem State_recordPeer_sw_frame (s : State) (n : Nat) (pub : List Byte) (hoff : Off wt [.page .sw 0x280]) :
    (State.recordPeer s .sw n pub).view wt = s.view wt := by
  simp at hoff
  simp [State.recordPeer, hoff, Chip.view, Chip.rest, Pool.view, Pool.rest, Svc.view, Svc.rest, Herds.view, Herds.rest, Dct.view, Dct.rest, Dct.held, Fw.view, Fw.rest, Fw.held]

@[simp] theorem State_recordPeer_ep_frame (s : State) (n : Nat) (pub : List Byte) (hoff : Off wt [.page .ep 0x280]) :
    (State.recordPeer s .ep n pub).view wt = s.view wt := by
  simp at hoff
  simp [State.recordPeer, hoff, Chip.view, Chip.rest, Pool.view, Pool.rest, Svc.view, Svc.rest, Herds.view, Herds.rest, Dct.view, Dct.rest, Dct.held, Fw.view, Fw.rest, Fw.held]

@[simp] theorem State_kexFailed_sw_frame (s : State) (n step : Nat) (hoff : Off wt [.hdr .sw, .page .sw 0x5, .page .sw 0x6, .page .sw 0x7, .page .sw 0x8, .page .sw 0xb, .page .sw 0x11, .page .sw 0x13, .page .sw 0x14, .page .sw 0x20, .page .sw 0x21, .page .sw 0x30, .page .sw 0x31, .page .sw 0x32, .page .sw 0x40, .page .sw 0x50, .page .sw 0x100, .page .sw 0x200, .page .sw 0x280, .page .sw 0x300, .log .sw, .ports .sw, .sync .sw, .chip .sw, .core, .mem, .pool, .svc, .herds, .hrd, .host, .dct, .sent, .free]) :
    (State.kexFailed s .sw n step).view wt = s.view wt := by
  simp at hoff
  simp [State.kexFailed, hoff, Chip.view, Chip.rest, Pool.view, Pool.rest, Svc.view, Svc.rest, Herds.view, Herds.rest, Dct.view, Dct.rest, Dct.held, Fw.view, Fw.rest, Fw.held]

@[simp] theorem State_kexFailed_ep_frame (s : State) (n step : Nat) (hoff : Off wt [.hdr .ep, .page .ep 0x4, .page .ep 0x6, .page .ep 0x7, .page .ep 0xb, .page .ep 0x10, .page .ep 0x21, .page .ep 0x31, .page .ep 0x32, .page .ep 0x100, .page .ep 0x200, .page .ep 0x280, .log .ep, .ports .ep, .sync .ep, .chip .ep, .rly, .cmds, .reqs, .ag, .sent]) :
    (State.kexFailed s .ep n step).view wt = s.view wt := by
  simp at hoff
  simp [State.kexFailed, hoff, Chip.view, Chip.rest, Pool.view, Pool.rest, Svc.view, Svc.rest, Herds.view, Herds.rest, Dct.view, Dct.rest, Dct.held, Fw.view, Fw.rest, Fw.held]

@[simp] theorem State_startRekey_sw_frame (s : State) (n : Nat) (hoff : Off wt [.page .sw 0x280, .ports .sw, .sent, .free]) :
    (State.startRekey s .sw n).view wt = s.view wt := by
  simp at hoff
  simp [State.startRekey, hoff, Chip.view, Chip.rest, Pool.view, Pool.rest, Svc.view, Svc.rest, Herds.view, Herds.rest, Dct.view, Dct.rest, Dct.held, Fw.view, Fw.rest, Fw.held]

@[simp] theorem State_startRekey_ep_frame (s : State) (n : Nat) (hoff : Off wt [.page .ep 0x280, .ports .ep, .sent, .free]) :
    (State.startRekey s .ep n).view wt = s.view wt := by
  simp at hoff
  simp [State.startRekey, hoff, Chip.view, Chip.rest, Pool.view, Pool.rest, Svc.view, Svc.rest, Herds.view, Herds.rest, Dct.view, Dct.rest, Dct.held, Fw.view, Fw.rest, Fw.held]

@[simp] theorem State_startTack_sw_frame (s : State) (n : Nat) (hoff : Off wt [.page .sw 0x100, .page .sw 0x200, .page .sw 0x280, .ports .sw]) :
    (State.startTack s .sw n).view wt = s.view wt := by
  simp at hoff
  simp [State.startTack, hoff, Chip.view, Chip.rest, Pool.view, Pool.rest, Svc.view, Svc.rest, Herds.view, Herds.rest, Dct.view, Dct.rest, Dct.held, Fw.view, Fw.rest, Fw.held]

@[simp] theorem State_startTack_ep_frame (s : State) (n : Nat) (hoff : Off wt [.page .ep 0x100, .page .ep 0x200, .page .ep 0x280, .ports .ep]) :
    (State.startTack s .ep n).view wt = s.view wt := by
  simp at hoff
  simp [State.startTack, hoff, Chip.view, Chip.rest, Pool.view, Pool.rest, Svc.view, Svc.rest, Herds.view, Herds.rest, Dct.view, Dct.rest, Dct.held, Fw.view, Fw.rest, Fw.held]

@[simp] theorem State_attemptFailed_sw_frame (s : State) (n code : Nat) (hoff : Off wt [.hdr .sw, .page .sw 0x5, .page .sw 0xb, .page .sw 0x100, .page .sw 0x200, .page .sw 0x280, .log .sw, .ports .sw, .sent]) :
    (State.attemptFailed s .sw n code).view wt = s.view wt := by
  simp at hoff
  simp [State.attemptFailed, hoff, Chip.view, Chip.rest, Pool.view, Pool.rest, Svc.view, Svc.rest, Herds.view, Herds.rest, Dct.view, Dct.rest, Dct.held, Fw.view, Fw.rest, Fw.held]

@[simp] theorem State_attemptFailed_ep_frame (s : State) (n code : Nat) (hoff : Off wt [.hdr .ep, .page .ep 0xb, .page .ep 0x100, .page .ep 0x200, .page .ep 0x280, .log .ep, .ports .ep, .sent]) :
    (State.attemptFailed s .ep n code).view wt = s.view wt := by
  simp at hoff
  simp [State.attemptFailed, hoff, Chip.view, Chip.rest, Pool.view, Pool.rest, Svc.view, Svc.rest, Herds.view, Herds.rest, Dct.view, Dct.rest, Dct.held, Fw.view, Fw.rest, Fw.held]

@[simp] theorem State_readyCheck_sw_frame (s : State) (hoff : Off wt [.page .sw 0x3]) :
    (State.readyCheck s .sw).view wt = s.view wt := by
  simp at hoff
  simp [State.readyCheck, hoff, Chip.view, Chip.rest, Pool.view, Pool.rest, Svc.view, Svc.rest, Herds.view, Herds.rest, Dct.view, Dct.rest, Dct.held, Fw.view, Fw.rest, Fw.held]

@[simp] theorem State_readyCheck_ep_frame (s : State) (hoff : Off wt [.page .ep 0x2]) :
    (State.readyCheck s .ep).view wt = s.view wt := by
  simp at hoff
  simp [State.readyCheck, hoff, Chip.view, Chip.rest, Pool.view, Pool.rest, Svc.view, Svc.rest, Herds.view, Herds.rest, Dct.view, Dct.rest, Dct.held, Fw.view, Fw.rest, Fw.held]

@[simp] theorem State_refuseLink_sw_frame (s : State) (n code : Nat) (tell : Bool) (e : Err) (d0 d1 : Nat) (hoff : Off wt [.hdr .sw, .page .sw 0x3, .page .sw 0x5, .page .sw 0xb, .page .sw 0x100, .page .sw 0x200, .page .sw 0x280, .log .sw, .ports .sw, .sent]) :
    (State.refuseLink s .sw n code tell e d0 d1).view wt = s.view wt := by
  simp at hoff
  simp [State.refuseLink, hoff, Chip.view, Chip.rest, Pool.view, Pool.rest, Svc.view, Svc.rest, Herds.view, Herds.rest, Dct.view, Dct.rest, Dct.held, Fw.view, Fw.rest, Fw.held]

@[simp] theorem State_refuseLink_ep_frame (s : State) (n code : Nat) (tell : Bool) (e : Err) (d0 d1 : Nat) (hoff : Off wt [.hdr .ep, .page .ep 0x2, .page .ep 0xb, .page .ep 0x100, .page .ep 0x200, .page .ep 0x280, .log .ep, .ports .ep, .sent]) :
    (State.refuseLink s .ep n code tell e d0 d1).view wt = s.view wt := by
  simp at hoff
  simp [State.refuseLink, hoff, Chip.view, Chip.rest, Pool.view, Pool.rest, Svc.view, Svc.rest, Herds.view, Herds.rest, Dct.view, Dct.rest, Dct.held, Fw.view, Fw.rest, Fw.held]

@[simp] theorem State_tackComplete_sw_frame (s : State) (n : Nat) (hoff : Off wt [.page .sw 0x3, .page .sw 0x7, .page .sw 0x14, .page .sw 0x200, .ports .sw]) :
    (State.tackComplete s .sw n).view wt = s.view wt := by
  simp at hoff
  simp [State.tackComplete, hoff, Chip.view, Chip.rest, Pool.view, Pool.rest, Svc.view, Svc.rest, Herds.view, Herds.rest, Dct.view, Dct.rest, Dct.held, Fw.view, Fw.rest, Fw.held]

@[simp] theorem State_tackComplete_ep_frame (s : State) (n : Nat) (hoff : Off wt [.page .ep 0x2, .page .ep 0x7, .page .ep 0xa, .page .ep 0x200, .ports .ep, .rly]) :
    (State.tackComplete s .ep n).view wt = s.view wt := by
  simp at hoff
  simp [State.tackComplete, hoff, Chip.view, Chip.rest, Pool.view, Pool.rest, Svc.view, Svc.rest, Herds.view, Herds.rest, Dct.view, Dct.rest, Dct.held, Fw.view, Fw.rest, Fw.held]

@[simp] theorem State_useLanes_sw_frame (s : State) (n mask : Nat) (hoff : Off wt [.page .sw 0x100, .page .sw 0x200, .ports .sw]) :
    (State.useLanes s .sw n mask).view wt = s.view wt := by
  simp at hoff
  simp [State.useLanes, hoff, Chip.view, Chip.rest, Pool.view, Pool.rest, Svc.view, Svc.rest, Herds.view, Herds.rest, Dct.view, Dct.rest, Dct.held, Fw.view, Fw.rest, Fw.held]

@[simp] theorem State_useLanes_ep_frame (s : State) (n mask : Nat) (hoff : Off wt [.page .ep 0x100, .page .ep 0x200, .ports .ep]) :
    (State.useLanes s .ep n mask).view wt = s.view wt := by
  simp at hoff
  simp [State.useLanes, hoff, Chip.view, Chip.rest, Pool.view, Pool.rest, Svc.view, Svc.rest, Herds.view, Herds.rest, Dct.view, Dct.rest, Dct.held, Fw.view, Fw.rest, Fw.held]

@[simp] theorem State_chooseLanes_sw_frame (s : State) (n : Nat) (hoff : Off wt [.hdr .sw, .page .sw 0x5, .page .sw 0xb, .page .sw 0x100, .page .sw 0x200, .page .sw 0x280, .log .sw, .ports .sw, .sent]) :
    (State.chooseLanes s .sw n).view wt = s.view wt := by
  simp at hoff
  unfold State.chooseLanes; (try simp only [sw_beq_ep, ep_beq_sw, sw_beq_sw, ep_beq_ep, Bool.false_eq_true, Bool.true_and, Bool.false_and, if_true, if_false]); (repeat' split) <;> (try dsimp only) <;> first | contradiction | simp +decide [State.chooseLanes, hoff, Chip.view, Chip.rest, Pool.view, Pool.rest, Svc.view, Svc.rest, Herds.view, Herds.rest, Dct.view, Dct.rest, Dct.held, Fw.view, Fw.rest, Fw.held]

@[simp] theorem State_chooseLanes_ep_frame (s : State) (n : Nat) (hoff : Off wt [.hdr .ep, .page .ep 0xb, .page .ep 0x100, .page .ep 0x200, .page .ep 0x280, .log .ep, .ports .ep, .sent]) :
    (State.chooseLanes s .ep n).view wt = s.view wt := by
  simp at hoff
  unfold State.chooseLanes; (try simp only [sw_beq_ep, ep_beq_sw, sw_beq_sw, ep_beq_ep, Bool.false_eq_true, Bool.true_and, Bool.false_and, if_true, if_false]); (repeat' split) <;> (try dsimp only) <;> first | contradiction | simp +decide [State.chooseLanes, hoff, Chip.view, Chip.rest, Pool.view, Pool.rest, Svc.view, Svc.rest, Herds.view, Herds.rest, Dct.view, Dct.rest, Dct.held, Fw.view, Fw.rest, Fw.held]

@[simp] theorem State_takePreamble_sw_frame (s : State) (n rates : Nat) (hoff : Off wt [.hdr .sw, .page .sw 0x5, .page .sw 0xb, .page .sw 0x100, .page .sw 0x200, .page .sw 0x280, .log .sw, .ports .sw, .sent]) :
    (State.takePreamble s .sw n rates).view wt = s.view wt := by
  simp at hoff
  unfold State.takePreamble; (try simp only [sw_beq_ep, ep_beq_sw, sw_beq_sw, ep_beq_ep, Bool.false_eq_true, Bool.true_and, Bool.false_and, if_true, if_false]); (repeat' split) <;> (try dsimp only) <;> first | contradiction | simp +decide [State.takePreamble, hoff, Chip.view, Chip.rest, Pool.view, Pool.rest, Svc.view, Svc.rest, Herds.view, Herds.rest, Dct.view, Dct.rest, Dct.held, Fw.view, Fw.rest, Fw.held]

@[simp] theorem State_takePreamble_ep_frame (s : State) (n rates : Nat) (hoff : Off wt [.hdr .ep, .page .ep 0xb, .page .ep 0x100, .page .ep 0x200, .page .ep 0x280, .log .ep, .ports .ep, .sent]) :
    (State.takePreamble s .ep n rates).view wt = s.view wt := by
  simp at hoff
  unfold State.takePreamble; (try simp only [sw_beq_ep, ep_beq_sw, sw_beq_sw, ep_beq_ep, Bool.false_eq_true, Bool.true_and, Bool.false_and, if_true, if_false]); (repeat' split) <;> (try dsimp only) <;> first | contradiction | simp +decide [State.takePreamble, hoff, Chip.view, Chip.rest, Pool.view, Pool.rest, Svc.view, Svc.rest, Herds.view, Herds.rest, Dct.view, Dct.rest, Dct.held, Fw.view, Fw.rest, Fw.held]

@[simp] theorem State_putPartner_sw_frame (s : State) (n : Nat) (m : CapMsg) (hoff : Off wt [.page .sw 0x200]) :
    (State.putPartner s .sw n m).view wt = s.view wt := by
  simp at hoff
  simp [State.putPartner, hoff, Chip.view, Chip.rest, Pool.view, Pool.rest, Svc.view, Svc.rest, Herds.view, Herds.rest, Dct.view, Dct.rest, Dct.held, Fw.view, Fw.rest, Fw.held]

@[simp] theorem State_putPartner_ep_frame (s : State) (n : Nat) (m : CapMsg) (hoff : Off wt [.page .ep 0x200]) :
    (State.putPartner s .ep n m).view wt = s.view wt := by
  simp at hoff
  simp [State.putPartner, hoff, Chip.view, Chip.rest, Pool.view, Pool.rest, Svc.view, Svc.rest, Herds.view, Herds.rest, Dct.view, Dct.rest, Dct.held, Fw.view, Fw.rest, Fw.held]

@[simp] theorem State_tryReady_sw_frame (s : State) (n : Nat) (hoff : Off wt [.page .sw 0x3, .page .sw 0x7, .page .sw 0x14, .page .sw 0x100, .page .sw 0x200, .page .sw 0x280, .ports .sw, .sent, .free]) :
    (State.tryReady s .sw n).view wt = s.view wt := by
  simp at hoff
  simp [State.tryReady, hoff, Chip.view, Chip.rest, Pool.view, Pool.rest, Svc.view, Svc.rest, Herds.view, Herds.rest, Dct.view, Dct.rest, Dct.held, Fw.view, Fw.rest, Fw.held]

@[simp] theorem State_tryReady_ep_frame (s : State) (n : Nat) (hoff : Off wt [.page .ep 0x2, .page .ep 0x7, .page .ep 0xa, .page .ep 0x100, .page .ep 0x200, .page .ep 0x280, .ports .ep, .rly, .sent, .free]) :
    (State.tryReady s .ep n).view wt = s.view wt := by
  simp at hoff
  simp [State.tryReady, hoff, Chip.view, Chip.rest, Pool.view, Pool.rest, Svc.view, Svc.rest, Herds.view, Herds.rest, Dct.view, Dct.rest, Dct.held, Fw.view, Fw.rest, Fw.held]

@[simp] theorem State_capIn_sw_frame (s : State) (n : Nat) (m : CapMsg) (hoff : Off wt [.hdr .sw, .page .sw 0x3, .page .sw 0x5, .page .sw 0x7, .page .sw 0xb, .page .sw 0x14, .page .sw 0x100, .page .sw 0x200, .page .sw 0x280, .log .sw, .ports .sw, .sent, .free]) :
    (State.capIn s .sw n m).view wt = s.view wt := by
  simp at hoff
  unfold State.capIn; (try simp only [sw_beq_ep, ep_beq_sw, sw_beq_sw, ep_beq_ep, Bool.false_eq_true, Bool.true_and, Bool.false_and, if_true, if_false]); (repeat' split) <;> (try dsimp only) <;> first | contradiction | simp +decide [State.capIn, hoff, Chip.view, Chip.rest, Pool.view, Pool.rest, Svc.view, Svc.rest, Herds.view, Herds.rest, Dct.view, Dct.rest, Dct.held, Fw.view, Fw.rest, Fw.held]

@[simp] theorem State_capIn_ep_frame (s : State) (n : Nat) (m : CapMsg) (hoff : Off wt [.hdr .ep, .page .ep 0x2, .page .ep 0x4, .page .ep 0x7, .page .ep 0xa, .page .ep 0xb, .page .ep 0x100, .page .ep 0x200, .page .ep 0x280, .log .ep, .ports .ep, .rly, .sent, .free]) :
    (State.capIn s .ep n m).view wt = s.view wt := by
  simp at hoff
  unfold State.capIn; (try simp only [sw_beq_ep, ep_beq_sw, sw_beq_sw, ep_beq_ep, Bool.false_eq_true, Bool.true_and, Bool.false_and, if_true, if_false]); (repeat' split) <;> (try dsimp only) <;> first | contradiction | simp +decide [State.capIn, hoff, Chip.view, Chip.rest, Pool.view, Pool.rest, Svc.view, Svc.rest, Herds.view, Herds.rest, Dct.view, Dct.rest, Dct.held, Fw.view, Fw.rest, Fw.held]

@[simp] theorem State_flitLocked_sw_frame (s : State) (n : Nat) (hoff : Off wt [.page .sw 0x200, .page .sw 0x280, .ports .sw, .sent]) :
    (State.flitLocked s .sw n).view wt = s.view wt := by
  simp at hoff
  simp [State.flitLocked, hoff, Chip.view, Chip.rest, Pool.view, Pool.rest, Svc.view, Svc.rest, Herds.view, Herds.rest, Dct.view, Dct.rest, Dct.held, Fw.view, Fw.rest, Fw.held]

@[simp] theorem State_flitLocked_ep_frame (s : State) (n : Nat) (hoff : Off wt [.page .ep 0x200, .page .ep 0x280, .ports .ep, .sent]) :
    (State.flitLocked s .ep n).view wt = s.view wt := by
  simp at hoff
  simp [State.flitLocked, hoff, Chip.view, Chip.rest, Pool.view, Pool.rest, Svc.view, Svc.rest, Herds.view, Herds.rest, Dct.view, Dct.rest, Dct.held, Fw.view, Fw.rest, Fw.held]

@[simp] theorem State_shedDone_sw_frame (s : State) (n : Nat) (hoff : Off wt [.hdr .sw, .page .sw 0x5, .page .sw 0xb, .page .sw 0x100, .page .sw 0x200, .page .sw 0x280, .log .sw, .ports .sw, .sent]) :
    (State.shedDone s .sw n).view wt = s.view wt := by
  simp at hoff
  unfold State.shedDone; (try simp only [sw_beq_ep, ep_beq_sw, sw_beq_sw, ep_beq_ep, Bool.false_eq_true, Bool.true_and, Bool.false_and, if_true, if_false]); (repeat' split) <;> (try dsimp only) <;> first | contradiction | simp +decide [State.shedDone, hoff, Chip.view, Chip.rest, Pool.view, Pool.rest, Svc.view, Svc.rest, Herds.view, Herds.rest, Dct.view, Dct.rest, Dct.held, Fw.view, Fw.rest, Fw.held]

@[simp] theorem State_shedDone_ep_frame (s : State) (n : Nat) (hoff : Off wt [.hdr .ep, .page .ep 0xb, .page .ep 0x100, .page .ep 0x200, .page .ep 0x280, .log .ep, .ports .ep, .sent]) :
    (State.shedDone s .ep n).view wt = s.view wt := by
  simp at hoff
  unfold State.shedDone; (try simp only [sw_beq_ep, ep_beq_sw, sw_beq_sw, ep_beq_ep, Bool.false_eq_true, Bool.true_and, Bool.false_and, if_true, if_false]); (repeat' split) <;> (try dsimp only) <;> first | contradiction | simp +decide [State.shedDone, hoff, Chip.view, Chip.rest, Pool.view, Pool.rest, Svc.view, Svc.rest, Herds.view, Herds.rest, Dct.view, Dct.rest, Dct.held, Fw.view, Fw.rest, Fw.held]

@[simp] theorem State_shedGo_sw_frame (s : State) (n : Nat) (hoff : Off wt [.hdr .sw, .page .sw 0x5, .page .sw 0xb, .page .sw 0x100, .page .sw 0x200, .page .sw 0x280, .log .sw, .ports .sw, .sent]) :
    (State.shedGo s .sw n).view wt = s.view wt := by
  simp at hoff
  unfold State.shedGo; (try simp only [sw_beq_ep, ep_beq_sw, sw_beq_sw, ep_beq_ep, Bool.false_eq_true, Bool.true_and, Bool.false_and, if_true, if_false]); (repeat' split) <;> (try dsimp only) <;> first | contradiction | simp +decide [State.shedGo, hoff, Chip.view, Chip.rest, Pool.view, Pool.rest, Svc.view, Svc.rest, Herds.view, Herds.rest, Dct.view, Dct.rest, Dct.held, Fw.view, Fw.rest, Fw.held]

@[simp] theorem State_shedGo_ep_frame (s : State) (n : Nat) (hoff : Off wt [.hdr .ep, .page .ep 0xb, .page .ep 0x100, .page .ep 0x200, .page .ep 0x280, .log .ep, .ports .ep, .sent]) :
    (State.shedGo s .ep n).view wt = s.view wt := by
  simp at hoff
  unfold State.shedGo; (try simp only [sw_beq_ep, ep_beq_sw, sw_beq_sw, ep_beq_ep, Bool.false_eq_true, Bool.true_and, Bool.false_and, if_true, if_false]); (repeat' split) <;> (try dsimp only) <;> first | contradiction | simp +decide [State.shedGo, hoff, Chip.view, Chip.rest, Pool.view, Pool.rest, Svc.view, Svc.rest, Herds.view, Herds.rest, Dct.view, Dct.rest, Dct.held, Fw.view, Fw.rest, Fw.held]

theorem tackupDetectProbe_sw_frame (n mask : Nat) (rates : Option Nat) (s : State) (hoff : Off wt [.hdr .sw, .page .sw 0x5, .page .sw 0xb, .page .sw 0x100, .page .sw 0x200, .page .sw 0x280, .log .sw, .ports .sw, .sent]) :
    (tackupDetectProbe .sw n mask rates s).view wt = s.view wt := by
  simp at hoff
  unfold tackupDetectProbe; (try simp only [sw_beq_ep, ep_beq_sw, sw_beq_sw, ep_beq_ep, Bool.false_eq_true, Bool.true_and, Bool.false_and, if_true, if_false]); (repeat' split) <;> (try dsimp only) <;> first | contradiction | simp +decide [tackupDetectProbe, hoff, Chip.view, Chip.rest, Pool.view, Pool.rest, Svc.view, Svc.rest, Herds.view, Herds.rest, Dct.view, Dct.rest, Dct.held, Fw.view, Fw.rest, Fw.held]

theorem tackupDetectProbe_ep_frame (n mask : Nat) (rates : Option Nat) (s : State) (hoff : Off wt [.hdr .ep, .page .ep 0xb, .page .ep 0x100, .page .ep 0x200, .page .ep 0x280, .log .ep, .ports .ep, .sent]) :
    (tackupDetectProbe .ep n mask rates s).view wt = s.view wt := by
  simp at hoff
  unfold tackupDetectProbe; (try simp only [sw_beq_ep, ep_beq_sw, sw_beq_sw, ep_beq_ep, Bool.false_eq_true, Bool.true_and, Bool.false_and, if_true, if_false]); (repeat' split) <;> (try dsimp only) <;> first | contradiction | simp +decide [tackupDetectProbe, hoff, Chip.view, Chip.rest, Pool.view, Pool.rest, Svc.view, Svc.rest, Herds.view, Herds.rest, Dct.view, Dct.rest, Dct.held, Fw.view, Fw.rest, Fw.held]

theorem tackupPreambleTmo_sw_frame (n : Nat) (s : State) (hoff : Off wt [.hdr .sw, .page .sw 0x5, .page .sw 0xb, .page .sw 0x100, .page .sw 0x200, .page .sw 0x280, .log .sw, .ports .sw, .sent]) :
    (tackupPreambleTmo .sw n s).view wt = s.view wt := by
  simp at hoff
  simp [tackupPreambleTmo, hoff, Chip.view, Chip.rest, Pool.view, Pool.rest, Svc.view, Svc.rest, Herds.view, Herds.rest, Dct.view, Dct.rest, Dct.held, Fw.view, Fw.rest, Fw.held]

theorem tackupPreambleTmo_ep_frame (n : Nat) (s : State) (hoff : Off wt [.hdr .ep, .page .ep 0xb, .page .ep 0x100, .page .ep 0x200, .page .ep 0x280, .log .ep, .ports .ep, .sent]) :
    (tackupPreambleTmo .ep n s).view wt = s.view wt := by
  simp at hoff
  simp [tackupPreambleTmo, hoff, Chip.view, Chip.rest, Pool.view, Pool.rest, Svc.view, Svc.rest, Herds.view, Herds.rest, Dct.view, Dct.rest, Dct.held, Fw.view, Fw.rest, Fw.held]

@[simp] theorem State_adaptLane_sw_frame (s : State) (l : Nat) (hoff : Off wt [.page .sw 0x100, .free]) :
    (State.adaptLane s .sw l).view wt = s.view wt := by
  simp at hoff
  simp [State.adaptLane, hoff, Chip.view, Chip.rest, Pool.view, Pool.rest, Svc.view, Svc.rest, Herds.view, Herds.rest, Dct.view, Dct.rest, Dct.held, Fw.view, Fw.rest, Fw.held]

@[simp] theorem State_adaptLane_ep_frame (s : State) (l : Nat) (hoff : Off wt [.page .ep 0x100, .free]) :
    (State.adaptLane s .ep l).view wt = s.view wt := by
  simp at hoff
  simp [State.adaptLane, hoff, Chip.view, Chip.rest, Pool.view, Pool.rest, Svc.view, Svc.rest, Herds.view, Herds.rest, Dct.view, Dct.rest, Dct.held, Fw.view, Fw.rest, Fw.held]

theorem laneEqPass_sw_frame (n lane snr : Nat) (inverted : Bool) (there farMin : Nat) (s : State) (hoff : Off wt [.hdr .sw, .page .sw 0x5, .page .sw 0xb, .page .sw 0x100, .page .sw 0x200, .page .sw 0x280, .log .sw, .ports .sw, .sent, .free]) :
    (laneEqPass .sw n lane snr inverted there farMin s).view wt = s.view wt := by
  simp at hoff
  simp [laneEqPass, hoff, Chip.view, Chip.rest, Pool.view, Pool.rest, Svc.view, Svc.rest, Herds.view, Herds.rest, Dct.view, Dct.rest, Dct.held, Fw.view, Fw.rest, Fw.held]

theorem laneEqPass_ep_frame (n lane snr : Nat) (inverted : Bool) (there farMin : Nat) (s : State) (hoff : Off wt [.hdr .ep, .page .ep 0xb, .page .ep 0x100, .page .ep 0x200, .page .ep 0x280, .log .ep, .ports .ep, .sent, .free]) :
    (laneEqPass .ep n lane snr inverted there farMin s).view wt = s.view wt := by
  simp at hoff
  simp [laneEqPass, hoff, Chip.view, Chip.rest, Pool.view, Pool.rest, Svc.view, Svc.rest, Herds.view, Herds.rest, Dct.view, Dct.rest, Dct.held, Fw.view, Fw.rest, Fw.held]

theorem eqTimerExpiry_sw_frame (n : Nat) (s : State) (hoff : Off wt [.hdr .sw, .page .sw 0x5, .page .sw 0xb, .page .sw 0x100, .page .sw 0x200, .page .sw 0x280, .log .sw, .ports .sw, .sent]) :
    (eqTimerExpiry .sw n s).view wt = s.view wt := by
  simp at hoff
  simp [eqTimerExpiry, hoff, Chip.view, Chip.rest, Pool.view, Pool.rest, Svc.view, Svc.rest, Herds.view, Herds.rest, Dct.view, Dct.rest, Dct.held, Fw.view, Fw.rest, Fw.held]

theorem eqTimerExpiry_ep_frame (n : Nat) (s : State) (hoff : Off wt [.hdr .ep, .page .ep 0xb, .page .ep 0x100, .page .ep 0x200, .page .ep 0x280, .log .ep, .ports .ep, .sent]) :
    (eqTimerExpiry .ep n s).view wt = s.view wt := by
  simp at hoff
  simp [eqTimerExpiry, hoff, Chip.view, Chip.rest, Pool.view, Pool.rest, Svc.view, Svc.rest, Herds.view, Herds.rest, Dct.view, Dct.rest, Dct.held, Fw.view, Fw.rest, Fw.held]

theorem flitLock_sw_frame (n : Nat) (s : State) (hoff : Off wt [.page .sw 0x200, .page .sw 0x280, .ports .sw, .sent]) :
    (flitLock .sw n s).view wt = s.view wt := by
  simp at hoff
  simp [flitLock, hoff, Chip.view, Chip.rest, Pool.view, Pool.rest, Svc.view, Svc.rest, Herds.view, Herds.rest, Dct.view, Dct.rest, Dct.held, Fw.view, Fw.rest, Fw.held]

theorem flitLock_ep_frame (n : Nat) (s : State) (hoff : Off wt [.page .ep 0x200, .page .ep 0x280, .ports .ep, .sent]) :
    (flitLock .ep n s).view wt = s.view wt := by
  simp at hoff
  simp [flitLock, hoff, Chip.view, Chip.rest, Pool.view, Pool.rest, Svc.view, Svc.rest, Herds.view, Herds.rest, Dct.view, Dct.rest, Dct.held, Fw.view, Fw.rest, Fw.held]

theorem lockTmo_sw_frame (n : Nat) (s : State) (hoff : Off wt [.hdr .sw, .page .sw 0x5, .page .sw 0xb, .page .sw 0x100, .page .sw 0x200, .page .sw 0x280, .log .sw, .ports .sw, .sent]) :
    (lockTmo .sw n s).view wt = s.view wt := by
  simp at hoff
  simp [lockTmo, hoff, Chip.view, Chip.rest, Pool.view, Pool.rest, Svc.view, Svc.rest, Herds.view, Herds.rest, Dct.view, Dct.rest, Dct.held, Fw.view, Fw.rest, Fw.held]

theorem lockTmo_ep_frame (n : Nat) (s : State) (hoff : Off wt [.hdr .ep, .page .ep 0xb, .page .ep 0x100, .page .ep 0x200, .page .ep 0x280, .log .ep, .ports .ep, .sent]) :
    (lockTmo .ep n s).view wt = s.view wt := by
  simp at hoff
  simp [lockTmo, hoff, Chip.view, Chip.rest, Pool.view, Pool.rest, Svc.view, Svc.rest, Herds.view, Herds.rest, Dct.view, Dct.rest, Dct.held, Fw.view, Fw.rest, Fw.held]

theorem capReceive_sw_frame (n : Nat) (m : CapMsg) (s : State) (hoff : Off wt [.hdr .sw, .page .sw 0x3, .page .sw 0x5, .page .sw 0x7, .page .sw 0xb, .page .sw 0x14, .page .sw 0x100, .page .sw 0x200, .page .sw 0x280, .log .sw, .ports .sw, .sent, .free]) :
    (capReceive .sw n m s).view wt = s.view wt := by
  simp at hoff
  simp [capReceive, hoff, Chip.view, Chip.rest, Pool.view, Pool.rest, Svc.view, Svc.rest, Herds.view, Herds.rest, Dct.view, Dct.rest, Dct.held, Fw.view, Fw.rest, Fw.held]

theorem capReceive_ep_frame (n : Nat) (m : CapMsg) (s : State) (hoff : Off wt [.hdr .ep, .page .ep 0x2, .page .ep 0x4, .page .ep 0x7, .page .ep 0xa, .page .ep 0xb, .page .ep 0x100, .page .ep 0x200, .page .ep 0x280, .log .ep, .ports .ep, .rly, .sent, .free]) :
    (capReceive .ep n m s).view wt = s.view wt := by
  simp at hoff
  simp [capReceive, hoff, Chip.view, Chip.rest, Pool.view, Pool.rest, Svc.view, Svc.rest, Herds.view, Herds.rest, Dct.view, Dct.rest, Dct.held, Fw.view, Fw.rest, Fw.held]

theorem refuseReceive_sw_frame (n code : Nat) (s : State) (hoff : Off wt [.hdr .sw, .page .sw 0x3, .page .sw 0x5, .page .sw 0xb, .page .sw 0x100, .page .sw 0x200, .page .sw 0x280, .log .sw, .ports .sw, .sent]) :
    (refuseReceive .sw n code s).view wt = s.view wt := by
  simp at hoff
  simp [refuseReceive, hoff, Chip.view, Chip.rest, Pool.view, Pool.rest, Svc.view, Svc.rest, Herds.view, Herds.rest, Dct.view, Dct.rest, Dct.held, Fw.view, Fw.rest, Fw.held]

theorem refuseReceive_ep_frame (n code : Nat) (s : State) (hoff : Off wt [.hdr .ep, .page .ep 0x2, .page .ep 0xb, .page .ep 0x100, .page .ep 0x200, .page .ep 0x280, .log .ep, .ports .ep, .sent]) :
    (refuseReceive .ep n code s).view wt = s.view wt := by
  simp at hoff
  simp [refuseReceive, hoff, Chip.view, Chip.rest, Pool.view, Pool.rest, Svc.view, Svc.rest, Herds.view, Herds.rest, Dct.view, Dct.rest, Dct.held, Fw.view, Fw.rest, Fw.held]

theorem pingReceive_sw_frame (n stamp : Nat) (s : State) (hoff : Off wt [.page .sw 0x280, .ports .sw, .sent]) :
    (pingReceive .sw n stamp s).view wt = s.view wt := by
  simp at hoff
  simp [pingReceive, hoff, Chip.view, Chip.rest, Pool.view, Pool.rest, Svc.view, Svc.rest, Herds.view, Herds.rest, Dct.view, Dct.rest, Dct.held, Fw.view, Fw.rest, Fw.held]

theorem pingReceive_ep_frame (n stamp : Nat) (s : State) (hoff : Off wt [.page .ep 0x280, .ports .ep, .sent]) :
    (pingReceive .ep n stamp s).view wt = s.view wt := by
  simp at hoff
  simp [pingReceive, hoff, Chip.view, Chip.rest, Pool.view, Pool.rest, Svc.view, Svc.rest, Herds.view, Herds.rest, Dct.view, Dct.rest, Dct.held, Fw.view, Fw.rest, Fw.held]

theorem pongReceive_sw_frame (n stamp : Nat) (s : State) (hoff : Off wt [.page .sw 0x3, .page .sw 0x7, .page .sw 0x14, .page .sw 0x100, .page .sw 0x200, .page .sw 0x280, .ports .sw, .sent, .free]) :
    (pongReceive .sw n stamp s).view wt = s.view wt := by
  simp at hoff
  simp [pongReceive, hoff, Chip.view, Chip.rest, Pool.view, Pool.rest, Svc.view, Svc.rest, Herds.view, Herds.rest, Dct.view, Dct.rest, Dct.held, Fw.view, Fw.rest, Fw.held]

theorem pongReceive_ep_frame (n stamp : Nat) (s : State) (hoff : Off wt [.page .ep 0x2, .page .ep 0x7, .page .ep 0xa, .page .ep 0x100, .page .ep 0x200, .page .ep 0x280, .ports .ep, .rly, .sent, .free]) :
    (pongReceive .ep n stamp s).view wt = s.view wt := by
  simp at hoff
  simp [pongReceive, hoff, Chip.view, Chip.rest, Pool.view, Pool.rest, Svc.view, Svc.rest, Herds.view, Herds.rest, Dct.view, Dct.rest, Dct.held, Fw.view, Fw.rest, Fw.held]

theorem readyReceive_sw_frame (n : Nat) (s : State) (hoff : Off wt [.page .sw 0x3, .page .sw 0x7, .page .sw 0x14, .page .sw 0x100, .page .sw 0x200, .page .sw 0x280, .ports .sw, .sent, .free]) :
    (readyReceive .sw n s).view wt = s.view wt := by
  simp at hoff
  simp [readyReceive, hoff, Chip.view, Chip.rest, Pool.view, Pool.rest, Svc.view, Svc.rest, Herds.view, Herds.rest, Dct.view, Dct.rest, Dct.held, Fw.view, Fw.rest, Fw.held]

theorem readyReceive_ep_frame (n : Nat) (s : State) (hoff : Off wt [.page .ep 0x2, .page .ep 0x7, .page .ep 0xa, .page .ep 0x100, .page .ep 0x200, .page .ep 0x280, .ports .ep, .rly, .sent, .free]) :
    (readyReceive .ep n s).view wt = s.view wt := by
  simp at hoff
  simp [readyReceive, hoff, Chip.view, Chip.rest, Pool.view, Pool.rest, Svc.view, Svc.rest, Herds.view, Herds.rest, Dct.view, Dct.rest, Dct.held, Fw.view, Fw.rest, Fw.held]

theorem capxTmo_sw_frame (n : Nat) (s : State) (hoff : Off wt [.hdr .sw, .page .sw 0x5, .page .sw 0xb, .page .sw 0x100, .page .sw 0x200, .page .sw 0x280, .log .sw, .ports .sw, .sent]) :
    (capxTmo .sw n s).view wt = s.view wt := by
  simp at hoff
  simp [capxTmo, hoff, Chip.view, Chip.rest, Pool.view, Pool.rest, Svc.view, Svc.rest, Herds.view, Herds.rest, Dct.view, Dct.rest, Dct.held, Fw.view, Fw.rest, Fw.held]

theorem capxTmo_ep_frame (n : Nat) (s : State) (hoff : Off wt [.hdr .ep, .page .ep 0xb, .page .ep 0x100, .page .ep 0x200, .page .ep 0x280, .log .ep, .ports .ep, .sent]) :
    (capxTmo .ep n s).view wt = s.view wt := by
  simp at hoff
  simp [capxTmo, hoff, Chip.view, Chip.rest, Pool.view, Pool.rest, Svc.view, Svc.rest, Herds.view, Herds.rest, Dct.view, Dct.rest, Dct.held, Fw.view, Fw.rest, Fw.held]

theorem tackRetryTimer_sw_frame (n : Nat) (s : State) (hoff : Off wt [.page .sw 0x100, .page .sw 0x200, .page .sw 0x280, .ports .sw]) :
    (tackRetryTimer .sw n s).view wt = s.view wt := by
  simp at hoff
  simp [tackRetryTimer, hoff, Chip.view, Chip.rest, Pool.view, Pool.rest, Svc.view, Svc.rest, Herds.view, Herds.rest, Dct.view, Dct.rest, Dct.held, Fw.view, Fw.rest, Fw.held]

theorem tackRetryTimer_ep_frame (n : Nat) (s : State) (hoff : Off wt [.page .ep 0x100, .page .ep 0x200, .page .ep 0x280, .ports .ep]) :
    (tackRetryTimer .ep n s).view wt = s.view wt := by
  simp at hoff
  simp [tackRetryTimer, hoff, Chip.view, Chip.rest, Pool.view, Pool.rest, Svc.view, Svc.rest, Herds.view, Herds.rest, Dct.view, Dct.rest, Dct.held, Fw.view, Fw.rest, Fw.held]

theorem partnerRedetect_sw_frame (n absent : Nat) (s : State) (hoff : Off wt [.page .sw 0x100, .page .sw 0x200, .page .sw 0x280, .ports .sw]) :
    (partnerRedetect .sw n absent s).view wt = s.view wt := by
  simp at hoff
  simp [partnerRedetect, hoff, Chip.view, Chip.rest, Pool.view, Pool.rest, Svc.view, Svc.rest, Herds.view, Herds.rest, Dct.view, Dct.rest, Dct.held, Fw.view, Fw.rest, Fw.held]

theorem partnerRedetect_ep_frame (n absent : Nat) (s : State) (hoff : Off wt [.page .ep 0x100, .page .ep 0x200, .page .ep 0x280, .ports .ep]) :
    (partnerRedetect .ep n absent s).view wt = s.view wt := by
  simp at hoff
  simp [partnerRedetect, hoff, Chip.view, Chip.rest, Pool.view, Pool.rest, Svc.view, Svc.rest, Herds.view, Herds.rest, Dct.view, Dct.rest, Dct.held, Fw.view, Fw.rest, Fw.held]

@[simp] theorem State_setNodeId_frame (s : State) (v : Nat) (hoff : Off wt [.hdr .ep, .page .ep 0x4, .page .ep 0xb, .page .ep 0x100, .page .ep 0x200, .page .ep 0x280, .ports .ep]) :
    (State.setNodeId s v).1.view wt = s.view wt := by
  simp at hoff
  unfold State.setNodeId; (try simp only [sw_beq_ep, ep_beq_sw, sw_beq_sw, ep_beq_ep, Bool.false_eq_true, Bool.true_and, Bool.false_and, if_true, if_false]); repeat' (first | contradiction | (simp +decide [State.setNodeId, hoff, Chip.view, Chip.rest, Pool.view, Pool.rest, Svc.view, Svc.rest, Herds.view, Herds.rest, Dct.view, Dct.rest, Dct.held, Fw.view, Fw.rest, Fw.held]; done) | (intros; split) | (intros; first | refine Eq.trans (foldl_view _ _ _ fun _ _ => ?_) ?_ | refine Eq.trans (foldl_fst_view _ _ _ fun _ _ => ?_) ?_ | refine Eq.trans (when_view _ _ _ ?_) ?_) | dsimp only | simp +decide [State.setNodeId, hoff])

theorem epcNodeIdWrite_frame (path : Path) (v : Nat) (s : State) (hoff : Off wt [.hdr .ep, .page .ep 0x4, .page .ep 0xb, .page .ep 0x100, .page .ep 0x200, .page .ep 0x280, .ports .ep, .sent]) :
    (epcNodeIdWrite path v s).view wt = s.view wt := by
  simp at hoff
  simp [epcNodeIdWrite, hoff, Chip.view, Chip.rest, Pool.view, Pool.rest, Svc.view, Svc.rest, Herds.view, Herds.rest, Dct.view, Dct.rest, Dct.held, Fw.view, Fw.rest, Fw.held]

@[simp] theorem State_portRestart_sw_frame (s : State) (n : Nat) (hoff : Off wt [.hdr .sw, .page .sw 0x5, .page .sw 0x6, .page .sw 0x7, .page .sw 0x8, .page .sw 0xb, .page .sw 0x11, .page .sw 0x13, .page .sw 0x14, .page .sw 0x20, .page .sw 0x21, .page .sw 0x30, .page .sw 0x31, .page .sw 0x32, .page .sw 0x40, .page .sw 0x50, .page .sw 0x100, .page .sw 0x200, .page .sw 0x280, .page .sw 0x300, .log .sw, .ports .sw, .sync .sw, .chip .sw, .core, .mem, .pool, .svc, .herds, .hrd, .host, .dct, .sent, .free]) :
    (State.portRestart s .sw n).view wt = s.view wt := by
  simp at hoff
  simp [State.portRestart, hoff, Chip.view, Chip.rest, Pool.view, Pool.rest, Svc.view, Svc.rest, Herds.view, Herds.rest, Dct.view, Dct.rest, Dct.held, Fw.view, Fw.rest, Fw.held]

@[simp] theorem State_portRestart_ep_frame (s : State) (n : Nat) (hoff : Off wt [.hdr .ep, .page .ep 0x4, .page .ep 0x6, .page .ep 0x7, .page .ep 0xb, .page .ep 0x10, .page .ep 0x21, .page .ep 0x31, .page .ep 0x32, .page .ep 0x100, .page .ep 0x200, .page .ep 0x280, .log .ep, .ports .ep, .sync .ep, .chip .ep, .rly, .cmds, .reqs, .ag, .sent]) :
    (State.portRestart s .ep n).view wt = s.view wt := by
  simp at hoff
  simp [State.portRestart, hoff, Chip.view, Chip.rest, Pool.view, Pool.rest, Svc.view, Svc.rest, Herds.view, Herds.rest, Dct.view, Dct.rest, Dct.held, Fw.view, Fw.rest, Fw.held]

theorem fptRestart_sw_frame (path : Path) (n : Nat) (s : State) (hoff : Off wt [.hdr .sw, .page .sw 0x5, .page .sw 0x6, .page .sw 0x7, .page .sw 0x8, .page .sw 0xb, .page .sw 0x11, .page .sw 0x13, .page .sw 0x14, .page .sw 0x20, .page .sw 0x21, .page .sw 0x30, .page .sw 0x31, .page .sw 0x32, .page .sw 0x40, .page .sw 0x50, .page .sw 0x100, .page .sw 0x200, .page .sw 0x280, .page .sw 0x300, .log .sw, .ports .sw, .sync .sw, .chip .sw, .core, .mem, .pool, .svc, .herds, .hrd, .host, .dct, .sent, .free]) :
    (fptRestart path .sw n s).view wt = s.view wt := by
  simp at hoff
  simp [fptRestart, hoff, Chip.view, Chip.rest, Pool.view, Pool.rest, Svc.view, Svc.rest, Herds.view, Herds.rest, Dct.view, Dct.rest, Dct.held, Fw.view, Fw.rest, Fw.held]

theorem fptRestart_ep_frame (path : Path) (n : Nat) (s : State) (hoff : Off wt [.hdr .ep, .page .ep 0x4, .page .ep 0x6, .page .ep 0x7, .page .ep 0xb, .page .ep 0x10, .page .ep 0x21, .page .ep 0x31, .page .ep 0x32, .page .ep 0x100, .page .ep 0x200, .page .ep 0x280, .log .ep, .ports .ep, .sync .ep, .chip .ep, .rly, .cmds, .reqs, .ag, .sent]) :
    (fptRestart path .ep n s).view wt = s.view wt := by
  simp at hoff
  simp [fptRestart, hoff, Chip.view, Chip.rest, Pool.view, Pool.rest, Svc.view, Svc.rest, Herds.view, Herds.rest, Dct.view, Dct.rest, Dct.held, Fw.view, Fw.rest, Fw.held]

theorem fptRetrain_sw_frame (path : Path) (n : Nat) (s : State) (hoff : Off wt [.hdr .sw, .page .sw 0xb, .page .sw 0x100, .page .sw 0x200, .ports .sw, .sent]) :
    (fptRetrain path .sw n s).view wt = s.view wt := by
  simp at hoff
  simp [fptRetrain, hoff, Chip.view, Chip.rest, Pool.view, Pool.rest, Svc.view, Svc.rest, Herds.view, Herds.rest, Dct.view, Dct.rest, Dct.held, Fw.view, Fw.rest, Fw.held]

theorem fptRetrain_ep_frame (path : Path) (n : Nat) (s : State) (hoff : Off wt [.hdr .ep, .page .ep 0xb, .page .ep 0x100, .page .ep 0x200, .ports .ep, .sent]) :
    (fptRetrain path .ep n s).view wt = s.view wt := by
  simp at hoff
  simp [fptRetrain, hoff, Chip.view, Chip.rest, Pool.view, Pool.rest, Svc.view, Svc.rest, Herds.view, Herds.rest, Dct.view, Dct.rest, Dct.held, Fw.view, Fw.rest, Fw.held]

@[simp] theorem State_portDisable_sw_frame (s : State) (n v : Nat) (hoff : Off wt [.hdr .sw, .page .sw 0x5, .page .sw 0x6, .page .sw 0x7, .page .sw 0x8, .page .sw 0xb, .page .sw 0x11, .page .sw 0x13, .page .sw 0x14, .page .sw 0x20, .page .sw 0x21, .page .sw 0x30, .page .sw 0x31, .page .sw 0x32, .page .sw 0x40, .page .sw 0x50, .page .sw 0x100, .page .sw 0x200, .page .sw 0x280, .page .sw 0x300, .log .sw, .ports .sw, .sync .sw, .chip .sw, .core, .mem, .pool, .svc, .herds, .hrd, .host, .dct, .sent, .free]) :
    (State.portDisable s .sw n v).view wt = s.view wt := by
  simp at hoff
  simp [State.portDisable, hoff, Chip.view, Chip.rest, Pool.view, Pool.rest, Svc.view, Svc.rest, Herds.view, Herds.rest, Dct.view, Dct.rest, Dct.held, Fw.view, Fw.rest, Fw.held]

@[simp] theorem State_portDisable_ep_frame (s : State) (n v : Nat) (hoff : Off wt [.hdr .ep, .page .ep 0x4, .page .ep 0x6, .page .ep 0x7, .page .ep 0xb, .page .ep 0x10, .page .ep 0x21, .page .ep 0x31, .page .ep 0x32, .page .ep 0x100, .page .ep 0x200, .page .ep 0x280, .log .ep, .ports .ep, .sync .ep, .chip .ep, .rly, .cmds, .reqs, .ag, .sent]) :
    (State.portDisable s .ep n v).view wt = s.view wt := by
  simp at hoff
  simp [State.portDisable, hoff, Chip.view, Chip.rest, Pool.view, Pool.rest, Svc.view, Svc.rest, Herds.view, Herds.rest, Dct.view, Dct.rest, Dct.held, Fw.view, Fw.rest, Fw.held]

theorem fptDisable_sw_frame (path : Path) (n v : Nat) (s : State) (hoff : Off wt [.hdr .sw, .page .sw 0x5, .page .sw 0x6, .page .sw 0x7, .page .sw 0x8, .page .sw 0xb, .page .sw 0x11, .page .sw 0x13, .page .sw 0x14, .page .sw 0x20, .page .sw 0x21, .page .sw 0x30, .page .sw 0x31, .page .sw 0x32, .page .sw 0x40, .page .sw 0x50, .page .sw 0x100, .page .sw 0x200, .page .sw 0x280, .page .sw 0x300, .log .sw, .ports .sw, .sync .sw, .chip .sw, .core, .mem, .pool, .svc, .herds, .hrd, .host, .dct, .sent, .free]) :
    (fptDisable path .sw n v s).view wt = s.view wt := by
  simp at hoff
  simp [fptDisable, hoff, Chip.view, Chip.rest, Pool.view, Pool.rest, Svc.view, Svc.rest, Herds.view, Herds.rest, Dct.view, Dct.rest, Dct.held, Fw.view, Fw.rest, Fw.held]

theorem fptDisable_ep_frame (path : Path) (n v : Nat) (s : State) (hoff : Off wt [.hdr .ep, .page .ep 0x4, .page .ep 0x6, .page .ep 0x7, .page .ep 0xb, .page .ep 0x10, .page .ep 0x21, .page .ep 0x31, .page .ep 0x32, .page .ep 0x100, .page .ep 0x200, .page .ep 0x280, .log .ep, .ports .ep, .sync .ep, .chip .ep, .rly, .cmds, .reqs, .ag, .sent]) :
    (fptDisable path .ep n v s).view wt = s.view wt := by
  simp at hoff
  simp [fptDisable, hoff, Chip.view, Chip.rest, Pool.view, Pool.rest, Svc.view, Svc.rest, Herds.view, Herds.rest, Dct.view, Dct.rest, Dct.held, Fw.view, Fw.rest, Fw.held]

theorem retrainSetReceive_sw_frame (n : Nat) (s : State) (hoff : Off wt [.page .sw 0x100, .page .sw 0x200, .ports .sw, .sent]) :
    (retrainSetReceive .sw n s).view wt = s.view wt := by
  simp at hoff
  simp [retrainSetReceive, hoff, Chip.view, Chip.rest, Pool.view, Pool.rest, Svc.view, Svc.rest, Herds.view, Herds.rest, Dct.view, Dct.rest, Dct.held, Fw.view, Fw.rest, Fw.held]

theorem retrainSetReceive_ep_frame (n : Nat) (s : State) (hoff : Off wt [.page .ep 0x100, .page .ep 0x200, .ports .ep, .sent]) :
    (retrainSetReceive .ep n s).view wt = s.view wt := by
  simp at hoff
  simp [retrainSetReceive, hoff, Chip.view, Chip.rest, Pool.view, Pool.rest, Svc.view, Svc.rest, Herds.view, Herds.rest, Dct.view, Dct.rest, Dct.held, Fw.view, Fw.rest, Fw.held]

theorem retrainComplete_sw_frame (n relocked : Nat) (s : State) (hoff : Off wt [.hdr .sw, .page .sw 0x5, .page .sw 0x6, .page .sw 0x7, .page .sw 0x8, .page .sw 0xb, .page .sw 0x11, .page .sw 0x13, .page .sw 0x14, .page .sw 0x20, .page .sw 0x21, .page .sw 0x30, .page .sw 0x31, .page .sw 0x32, .page .sw 0x40, .page .sw 0x50, .page .sw 0x100, .page .sw 0x200, .page .sw 0x280, .page .sw 0x300, .log .sw, .ports .sw, .sync .sw, .chip .sw, .core, .mem, .pool, .svc, .herds, .hrd, .host, .dct, .sent, .free]) :
    (retrainComplete .sw n relocked s).view wt = s.view wt := by
  simp at hoff
  unfold retrainComplete; (try simp only [sw_beq_ep, ep_beq_sw, sw_beq_sw, ep_beq_ep, Bool.false_eq_true, Bool.true_and, Bool.false_and, if_true, if_false]); (repeat' split) <;> (try dsimp only) <;> first | contradiction | simp +decide [retrainComplete, hoff, Chip.view, Chip.rest, Pool.view, Pool.rest, Svc.view, Svc.rest, Herds.view, Herds.rest, Dct.view, Dct.rest, Dct.held, Fw.view, Fw.rest, Fw.held]

theorem retrainComplete_ep_frame (n relocked : Nat) (s : State) (hoff : Off wt [.hdr .ep, .page .ep 0x4, .page .ep 0x6, .page .ep 0x7, .page .ep 0xb, .page .ep 0x10, .page .ep 0x21, .page .ep 0x31, .page .ep 0x32, .page .ep 0x100, .page .ep 0x200, .page .ep 0x280, .log .ep, .ports .ep, .sync .ep, .chip .ep, .rly, .cmds, .reqs, .ag, .sent]) :
    (retrainComplete .ep n relocked s).view wt = s.view wt := by
  simp at hoff
  unfold retrainComplete; (try simp only [sw_beq_ep, ep_beq_sw, sw_beq_sw, ep_beq_ep, Bool.false_eq_true, Bool.true_and, Bool.false_and, if_true, if_false]); (repeat' split) <;> (try dsimp only) <;> first | contradiction | simp +decide [retrainComplete, hoff, Chip.view, Chip.rest, Pool.view, Pool.rest, Svc.view, Svc.rest, Herds.view, Herds.rest, Dct.view, Dct.rest, Dct.held, Fw.view, Fw.rest, Fw.held]

theorem retrainTimeout_sw_frame (n : Nat) (s : State) (hoff : Off wt [.hdr .sw, .page .sw 0x5, .page .sw 0x6, .page .sw 0x7, .page .sw 0x8, .page .sw 0xb, .page .sw 0x11, .page .sw 0x13, .page .sw 0x14, .page .sw 0x20, .page .sw 0x21, .page .sw 0x30, .page .sw 0x31, .page .sw 0x32, .page .sw 0x40, .page .sw 0x50, .page .sw 0x100, .page .sw 0x200, .page .sw 0x280, .page .sw 0x300, .log .sw, .ports .sw, .sync .sw, .chip .sw, .core, .mem, .pool, .svc, .herds, .hrd, .host, .dct, .sent, .free]) :
    (retrainTimeout .sw n s).view wt = s.view wt := by
  simp at hoff
  unfold retrainTimeout; (try simp only [sw_beq_ep, ep_beq_sw, sw_beq_sw, ep_beq_ep, Bool.false_eq_true, Bool.true_and, Bool.false_and, if_true, if_false]); (repeat' split) <;> (try dsimp only) <;> first | contradiction | simp +decide [retrainTimeout, hoff, Chip.view, Chip.rest, Pool.view, Pool.rest, Svc.view, Svc.rest, Herds.view, Herds.rest, Dct.view, Dct.rest, Dct.held, Fw.view, Fw.rest, Fw.held]

theorem retrainTimeout_ep_frame (n : Nat) (s : State) (hoff : Off wt [.hdr .ep, .page .ep 0x4, .page .ep 0x6, .page .ep 0x7, .page .ep 0xb, .page .ep 0x10, .page .ep 0x21, .page .ep 0x31, .page .ep 0x32, .page .ep 0x100, .page .ep 0x200, .page .ep 0x280, .log .ep, .ports .ep, .sync .ep, .chip .ep, .rly, .cmds, .reqs, .ag, .sent]) :
    (retrainTimeout .ep n s).view wt = s.view wt := by
  simp at hoff
  unfold retrainTimeout; (try simp only [sw_beq_ep, ep_beq_sw, sw_beq_sw, ep_beq_ep, Bool.false_eq_true, Bool.true_and, Bool.false_and, if_true, if_false]); (repeat' split) <;> (try dsimp only) <;> first | contradiction | simp +decide [retrainTimeout, hoff, Chip.view, Chip.rest, Pool.view, Pool.rest, Svc.view, Svc.rest, Herds.view, Herds.rest, Dct.view, Dct.rest, Dct.held, Fw.view, Fw.rest, Fw.held]

theorem retrainBitlockTmo_sw_frame (n : Nat) (s : State) (hoff : Off wt [.hdr .sw, .page .sw 0x5, .page .sw 0x6, .page .sw 0x7, .page .sw 0x8, .page .sw 0xb, .page .sw 0x11, .page .sw 0x13, .page .sw 0x14, .page .sw 0x20, .page .sw 0x21, .page .sw 0x30, .page .sw 0x31, .page .sw 0x32, .page .sw 0x40, .page .sw 0x50, .page .sw 0x100, .page .sw 0x200, .page .sw 0x280, .page .sw 0x300, .log .sw, .ports .sw, .sync .sw, .chip .sw, .core, .mem, .pool, .svc, .herds, .hrd, .host, .dct, .sent, .free]) :
    (retrainBitlockTmo .sw n s).view wt = s.view wt := by
  simp at hoff
  unfold retrainBitlockTmo; (try simp only [sw_beq_ep, ep_beq_sw, sw_beq_sw, ep_beq_ep, Bool.false_eq_true, Bool.true_and, Bool.false_and, if_true, if_false]); (repeat' split) <;> (try dsimp only) <;> first | contradiction | simp +decide [retrainBitlockTmo, hoff, Chip.view, Chip.rest, Pool.view, Pool.rest, Svc.view, Svc.rest, Herds.view, Herds.rest, Dct.view, Dct.rest, Dct.held, Fw.view, Fw.rest, Fw.held]

theorem retrainBitlockTmo_ep_frame (n : Nat) (s : State) (hoff : Off wt [.hdr .ep, .page .ep 0x4, .page .ep 0x6, .page .ep 0x7, .page .ep 0xb, .page .ep 0x10, .page .ep 0x21, .page .ep 0x31, .page .ep 0x32, .page .ep 0x100, .page .ep 0x200, .page .ep 0x280, .log .ep, .ports .ep, .sync .ep, .chip .ep, .rly, .cmds, .reqs, .ag, .sent]) :
    (retrainBitlockTmo .ep n s).view wt = s.view wt := by
  simp at hoff
  unfold retrainBitlockTmo; (try simp only [sw_beq_ep, ep_beq_sw, sw_beq_sw, ep_beq_ep, Bool.false_eq_true, Bool.true_and, Bool.false_and, if_true, if_false]); (repeat' split) <;> (try dsimp only) <;> first | contradiction | simp +decide [retrainBitlockTmo, hoff, Chip.view, Chip.rest, Pool.view, Pool.rest, Svc.view, Svc.rest, Herds.view, Herds.rest, Dct.view, Dct.rest, Dct.held, Fw.view, Fw.rest, Fw.held]

theorem shedWindowExpiry_sw_frame (n : Nat) (s : State) (hoff : Off wt [.hdr .sw, .page .sw 0x5, .page .sw 0xb, .page .sw 0x11, .page .sw 0x14, .page .sw 0x20, .page .sw 0x21, .page .sw 0x100, .page .sw 0x200, .log .sw, .ports .sw, .sync .sw, .core, .svc, .herds, .hrd, .sent]) :
    (shedWindowExpiry .sw n s).view wt = s.view wt := by
  simp at hoff
  unfold shedWindowExpiry; (try simp only [sw_beq_ep, ep_beq_sw, sw_beq_sw, ep_beq_ep, Bool.false_eq_true, Bool.true_and, Bool.false_and, if_true, if_false]); (repeat' split) <;> (try dsimp only) <;> first | contradiction | simp +decide [shedWindowExpiry, hoff, Chip.view, Chip.rest, Pool.view, Pool.rest, Svc.view, Svc.rest, Herds.view, Herds.rest, Dct.view, Dct.rest, Dct.held, Fw.view, Fw.rest, Fw.held]

theorem shedWindowExpiry_ep_frame (n : Nat) (s : State) (hoff : Off wt [.page .ep 0x100, .page .ep 0x200, .ports .ep, .sent]) :
    (shedWindowExpiry .ep n s).view wt = s.view wt := by
  simp at hoff
  unfold shedWindowExpiry; (try simp only [sw_beq_ep, ep_beq_sw, sw_beq_sw, ep_beq_ep, Bool.false_eq_true, Bool.true_and, Bool.false_and, if_true, if_false]); (repeat' split) <;> (try dsimp only) <;> first | contradiction | simp +decide [shedWindowExpiry, hoff, Chip.view, Chip.rest, Pool.view, Pool.rest, Svc.view, Svc.rest, Herds.view, Herds.rest, Dct.view, Dct.rest, Dct.held, Fw.view, Fw.rest, Fw.held]

@[simp] theorem State_lockLost_sw_frame (s : State) (n lane : Nat) (hoff : Off wt [.page .sw 0x100]) :
    (State.lockLost s .sw n lane).view wt = s.view wt := by
  simp at hoff
  simp [State.lockLost, hoff, Chip.view, Chip.rest, Pool.view, Pool.rest, Svc.view, Svc.rest, Herds.view, Herds.rest, Dct.view, Dct.rest, Dct.held, Fw.view, Fw.rest, Fw.held]

@[simp] theorem State_lockLost_ep_frame (s : State) (n lane : Nat) (hoff : Off wt [.page .ep 0x100]) :
    (State.lockLost s .ep n lane).view wt = s.view wt := by
  simp at hoff
  simp [State.lockLost, hoff, Chip.view, Chip.rest, Pool.view, Pool.rest, Svc.view, Svc.rest, Herds.view, Herds.rest, Dct.view, Dct.rest, Dct.held, Fw.view, Fw.rest, Fw.held]

theorem laneLockLoss_sw_frame (n lane : Nat) (s : State) (hoff : Off wt [.hdr .sw, .page .sw 0x5, .page .sw 0x6, .page .sw 0x7, .page .sw 0x8, .page .sw 0xb, .page .sw 0x11, .page .sw 0x13, .page .sw 0x14, .page .sw 0x20, .page .sw 0x21, .page .sw 0x30, .page .sw 0x31, .page .sw 0x32, .page .sw 0x40, .page .sw 0x50, .page .sw 0x100, .page .sw 0x200, .page .sw 0x280, .page .sw 0x300, .log .sw, .ports .sw, .sync .sw, .chip .sw, .core, .mem, .pool, .svc, .herds, .hrd, .host, .dct, .sent, .free]) :
    (laneLockLoss .sw n lane s).view wt = s.view wt := by
  simp at hoff
  unfold laneLockLoss; (try simp only [sw_beq_ep, ep_beq_sw, sw_beq_sw, ep_beq_ep, Bool.false_eq_true, Bool.true_and, Bool.false_and, if_true, if_false]); (repeat' split) <;> (try dsimp only) <;> first | contradiction | simp +decide [laneLockLoss, hoff, Chip.view, Chip.rest, Pool.view, Pool.rest, Svc.view, Svc.rest, Herds.view, Herds.rest, Dct.view, Dct.rest, Dct.held, Fw.view, Fw.rest, Fw.held]

theorem laneLockLoss_ep_frame (n lane : Nat) (s : State) (hoff : Off wt [.hdr .ep, .page .ep 0x4, .page .ep 0x6, .page .ep 0x7, .page .ep 0xb, .page .ep 0x10, .page .ep 0x21, .page .ep 0x31, .page .ep 0x32, .page .ep 0x100, .page .ep 0x200, .page .ep 0x280, .log .ep, .ports .ep, .sync .ep, .chip .ep, .rly, .cmds, .reqs, .ag, .sent]) :
    (laneLockLoss .ep n lane s).view wt = s.view wt := by
  simp at hoff
  unfold laneLockLoss; (try simp only [sw_beq_ep, ep_beq_sw, sw_beq_sw, ep_beq_ep, Bool.false_eq_true, Bool.true_and, Bool.false_and, if_true, if_false]); (repeat' split) <;> (try dsimp only) <;> first | contradiction | simp +decide [laneLockLoss, hoff, Chip.view, Chip.rest, Pool.view, Pool.rest, Svc.view, Svc.rest, Herds.view, Herds.rest, Dct.view, Dct.rest, Dct.held, Fw.view, Fw.rest, Fw.held]

theorem shedReceive_sw_frame (n mask last : Nat) (s : State) (hoff : Off wt [.hdr .sw, .page .sw 0x5, .page .sw 0xb, .page .sw 0x100, .page .sw 0x200, .page .sw 0x280, .log .sw, .ports .sw, .sent]) :
    (shedReceive .sw n mask last s).view wt = s.view wt := by
  simp at hoff
  simp [shedReceive, hoff, Chip.view, Chip.rest, Pool.view, Pool.rest, Svc.view, Svc.rest, Herds.view, Herds.rest, Dct.view, Dct.rest, Dct.held, Fw.view, Fw.rest, Fw.held]

theorem shedReceive_ep_frame (n mask last : Nat) (s : State) (hoff : Off wt [.hdr .ep, .page .ep 0xb, .page .ep 0x100, .page .ep 0x200, .page .ep 0x280, .log .ep, .ports .ep, .sent]) :
    (shedReceive .ep n mask last s).view wt = s.view wt := by
  simp at hoff
  simp [shedReceive, hoff, Chip.view, Chip.rest, Pool.view, Pool.rest, Svc.view, Svc.rest, Herds.view, Herds.rest, Dct.view, Dct.rest, Dct.held, Fw.view, Fw.rest, Fw.held]

theorem shedAckReceive_sw_frame (n mask last : Nat) (s : State) (hoff : Off wt [.hdr .sw, .page .sw 0x5, .page .sw 0xb, .page .sw 0x100, .page .sw 0x200, .page .sw 0x280, .log .sw, .ports .sw, .sent]) :
    (shedAckReceive .sw n mask last s).view wt = s.view wt := by
  simp at hoff
  unfold shedAckReceive; (try simp only [sw_beq_ep, ep_beq_sw, sw_beq_sw, ep_beq_ep, Bool.false_eq_true, Bool.true_and, Bool.false_and, if_true, if_false]); (repeat' split) <;> (try dsimp only) <;> first | contradiction | simp +decide [shedAckReceive, hoff, Chip.view, Chip.rest, Pool.view, Pool.rest, Svc.view, Svc.rest, Herds.view, Herds.rest, Dct.view, Dct.rest, Dct.held, Fw.view, Fw.rest, Fw.held]

theorem shedAckReceive_ep_frame (n mask last : Nat) (s : State) (hoff : Off wt [.hdr .ep, .page .ep 0xb, .page .ep 0x100, .page .ep 0x200, .page .ep 0x280, .log .ep, .ports .ep, .sent]) :
    (shedAckReceive .ep n mask last s).view wt = s.view wt := by
  simp at hoff
  unfold shedAckReceive; (try simp only [sw_beq_ep, ep_beq_sw, sw_beq_sw, ep_beq_ep, Bool.false_eq_true, Bool.true_and, Bool.false_and, if_true, if_false]); (repeat' split) <;> (try dsimp only) <;> first | contradiction | simp +decide [shedAckReceive, hoff, Chip.view, Chip.rest, Pool.view, Pool.rest, Svc.view, Svc.rest, Herds.view, Herds.rest, Dct.view, Dct.rest, Dct.held, Fw.view, Fw.rest, Fw.held]

theorem shedGoReceive_sw_frame (n : Nat) (s : State) (hoff : Off wt [.hdr .sw, .page .sw 0x5, .page .sw 0xb, .page .sw 0x100, .page .sw 0x200, .page .sw 0x280, .log .sw, .ports .sw, .sent]) :
    (shedGoReceive .sw n s).view wt = s.view wt := by
  simp at hoff
  unfold shedGoReceive; (try simp only [sw_beq_ep, ep_beq_sw, sw_beq_sw, ep_beq_ep, Bool.false_eq_true, Bool.true_and, Bool.false_and, if_true, if_false]); (repeat' split) <;> (try dsimp only) <;> first | contradiction | simp +decide [shedGoReceive, hoff, Chip.view, Chip.rest, Pool.view, Pool.rest, Svc.view, Svc.rest, Herds.view, Herds.rest, Dct.view, Dct.rest, Dct.held, Fw.view, Fw.rest, Fw.held]

theorem shedGoReceive_ep_frame (n : Nat) (s : State) (hoff : Off wt [.hdr .ep, .page .ep 0xb, .page .ep 0x100, .page .ep 0x200, .page .ep 0x280, .log .ep, .ports .ep, .sent]) :
    (shedGoReceive .ep n s).view wt = s.view wt := by
  simp at hoff
  unfold shedGoReceive; (try simp only [sw_beq_ep, ep_beq_sw, sw_beq_sw, ep_beq_ep, Bool.false_eq_true, Bool.true_and, Bool.false_and, if_true, if_false]); (repeat' split) <;> (try dsimp only) <;> first | contradiction | simp +decide [shedGoReceive, hoff, Chip.view, Chip.rest, Pool.view, Pool.rest, Svc.view, Svc.rest, Herds.view, Herds.rest, Dct.view, Dct.rest, Dct.held, Fw.view, Fw.rest, Fw.held]

theorem fifoSlip_sw_frame (n : Nat) (s : State) (hoff : Off wt [.hdr .sw, .page .sw 0x3, .page .sw 0x5, .page .sw 0x6, .page .sw 0x7, .page .sw 0x8, .page .sw 0xb, .page .sw 0x11, .page .sw 0x13, .page .sw 0x14, .page .sw 0x20, .page .sw 0x21, .page .sw 0x30, .page .sw 0x31, .page .sw 0x32, .page .sw 0x40, .page .sw 0x50, .page .sw 0x100, .page .sw 0x200, .page .sw 0x280, .page .sw 0x300, .log .sw, .ports .sw, .sync .sw, .chip .sw, .core, .mem, .pool, .svc, .herds, .hrd, .host, .dct, .sent, .free]) :
    (fifoSlip .sw n s).view wt = s.view wt := by
  simp at hoff
  simp [fifoSlip, hoff, Chip.view, Chip.rest, Pool.view, Pool.rest, Svc.view, Svc.rest, Herds.view, Herds.rest, Dct.view, Dct.rest, Dct.held, Fw.view, Fw.rest, Fw.held]

theorem fifoSlip_ep_frame (n : Nat) (s : State) (hoff : Off wt [.hdr .ep, .page .ep 0x2, .page .ep 0x4, .page .ep 0x6, .page .ep 0x7, .page .ep 0xb, .page .ep 0x10, .page .ep 0x21, .page .ep 0x31, .page .ep 0x32, .page .ep 0x100, .page .ep 0x200, .page .ep 0x280, .log .ep, .ports .ep, .sync .ep, .chip .ep, .rly, .cmds, .reqs, .ag, .sent]) :
    (fifoSlip .ep n s).view wt = s.view wt := by
  simp at hoff
  simp [fifoSlip, hoff, Chip.view, Chip.rest, Pool.view, Pool.rest, Svc.view, Svc.rest, Herds.view, Herds.rest, Dct.view, Dct.rest, Dct.held, Fw.view, Fw.rest, Fw.held]

theorem signalLoss_sw_frame (n : Nat) (s : State) (hoff : Off wt [.hdr .sw, .page .sw 0x5, .page .sw 0x6, .page .sw 0x7, .page .sw 0x8, .page .sw 0xb, .page .sw 0x11, .page .sw 0x13, .page .sw 0x14, .page .sw 0x20, .page .sw 0x21, .page .sw 0x30, .page .sw 0x31, .page .sw 0x32, .page .sw 0x40, .page .sw 0x50, .page .sw 0x100, .page .sw 0x200, .page .sw 0x280, .page .sw 0x300, .log .sw, .ports .sw, .sync .sw, .chip .sw, .core, .mem, .pool, .svc, .herds, .hrd, .host, .dct, .sent, .free]) :
    (signalLoss .sw n s).view wt = s.view wt := by
  simp at hoff
  simp [signalLoss, hoff, Chip.view, Chip.rest, Pool.view, Pool.rest, Svc.view, Svc.rest, Herds.view, Herds.rest, Dct.view, Dct.rest, Dct.held, Fw.view, Fw.rest, Fw.held]

theorem signalLoss_ep_frame (n : Nat) (s : State) (hoff : Off wt [.hdr .ep, .page .ep 0x4, .page .ep 0x6, .page .ep 0x7, .page .ep 0xb, .page .ep 0x10, .page .ep 0x21, .page .ep 0x31, .page .ep 0x32, .page .ep 0x100, .page .ep 0x200, .page .ep 0x280, .log .ep, .ports .ep, .sync .ep, .chip .ep, .rly, .cmds, .reqs, .ag, .sent]) :
    (signalLoss .ep n s).view wt = s.view wt := by
  simp at hoff
  simp [signalLoss, hoff, Chip.view, Chip.rest, Pool.view, Pool.rest, Svc.view, Svc.rest, Herds.view, Herds.rest, Dct.view, Dct.rest, Dct.held, Fw.view, Fw.rest, Fw.held]

theorem patternCheckerLock_sw_frame (n lane : Nat) (s : State) (hoff : Off wt [.page .sw 0x100]) :
    (patternCheckerLock .sw n lane s).view wt = s.view wt := by
  simp at hoff
  simp [patternCheckerLock, hoff, Chip.view, Chip.rest, Pool.view, Pool.rest, Svc.view, Svc.rest, Herds.view, Herds.rest, Dct.view, Dct.rest, Dct.held, Fw.view, Fw.rest, Fw.held]

theorem patternCheckerLock_ep_frame (n lane : Nat) (s : State) (hoff : Off wt [.page .ep 0x100]) :
    (patternCheckerLock .ep n lane s).view wt = s.view wt := by
  simp at hoff
  simp [patternCheckerLock, hoff, Chip.view, Chip.rest, Pool.view, Pool.rest, Svc.view, Svc.rest, Herds.view, Herds.rest, Dct.view, Dct.rest, Dct.held, Fw.view, Fw.rest, Fw.held]

theorem nakReceive_sw_frame (n ack : Nat) (s : State) (hoff : Off wt [.page .sw 0x100, .page .sw 0x200, .page .sw 0x280, .ports .sw, .sent]) :
    (nakReceive .sw n ack s).view wt = s.view wt := by
  simp at hoff
  simp [nakReceive, hoff, Chip.view, Chip.rest, Pool.view, Pool.rest, Svc.view, Svc.rest, Herds.view, Herds.rest, Dct.view, Dct.rest, Dct.held, Fw.view, Fw.rest, Fw.held]

theorem nakReceive_ep_frame (n ack : Nat) (s : State) (hoff : Off wt [.page .ep 0x100, .page .ep 0x200, .page .ep 0x280, .ports .ep, .sent]) :
    (nakReceive .ep n ack s).view wt = s.view wt := by
  simp at hoff
  simp [nakReceive, hoff, Chip.view, Chip.rest, Pool.view, Pool.rest, Svc.view, Svc.rest, Herds.view, Herds.rest, Dct.view, Dct.rest, Dct.held, Fw.view, Fw.rest, Fw.held]

theorem replayTimerExpiry_sw_frame (n : Nat) (s : State) (hoff : Off wt [.page .sw 0x100, .page .sw 0x200, .page .sw 0x280, .ports .sw, .sent]) :
    (replayTimerExpiry .sw n s).view wt = s.view wt := by
  simp at hoff
  unfold replayTimerExpiry; (try simp only [sw_beq_ep, ep_beq_sw, sw_beq_sw, ep_beq_ep, Bool.false_eq_true, Bool.true_and, Bool.false_and, if_true, if_false]); (repeat' split) <;> (try dsimp only) <;> first | contradiction | simp +decide [replayTimerExpiry, hoff, Chip.view, Chip.rest, Pool.view, Pool.rest, Svc.view, Svc.rest, Herds.view, Herds.rest, Dct.view, Dct.rest, Dct.held, Fw.view, Fw.rest, Fw.held]

theorem replayTimerExpiry_ep_frame (n : Nat) (s : State) (hoff : Off wt [.page .ep 0x100, .page .ep 0x200, .page .ep 0x280, .ports .ep, .sent]) :
    (replayTimerExpiry .ep n s).view wt = s.view wt := by
  simp at hoff
  unfold replayTimerExpiry; (try simp only [sw_beq_ep, ep_beq_sw, sw_beq_sw, ep_beq_ep, Bool.false_eq_true, Bool.true_and, Bool.false_and, if_true, if_false]); (repeat' split) <;> (try dsimp only) <;> first | contradiction | simp +decide [replayTimerExpiry, hoff, Chip.view, Chip.rest, Pool.view, Pool.rest, Svc.view, Svc.rest, Herds.view, Herds.rest, Dct.view, Dct.rest, Dct.held, Fw.view, Fw.rest, Fw.held]

theorem groupClose_sw_frame (n : Nat) (s : State) (hoff : Off wt [.page .sw 0x280, .ports .sw, .sent]) :
    (groupClose .sw n s).view wt = s.view wt := by
  simp at hoff
  simp [groupClose, hoff, Chip.view, Chip.rest, Pool.view, Pool.rest, Svc.view, Svc.rest, Herds.view, Herds.rest, Dct.view, Dct.rest, Dct.held, Fw.view, Fw.rest, Fw.held]

theorem groupClose_ep_frame (n : Nat) (s : State) (hoff : Off wt [.page .ep 0x280, .ports .ep, .sent]) :
    (groupClose .ep n s).view wt = s.view wt := by
  simp at hoff
  simp [groupClose, hoff, Chip.view, Chip.rest, Pool.view, Pool.rest, Svc.view, Svc.rest, Herds.view, Herds.rest, Dct.view, Dct.rest, Dct.held, Fw.view, Fw.rest, Fw.held]

theorem sealReceive_sw_frame (n header : Nat) (tag : List Byte) (group : SealGroup) (s : State) (hoff : Off wt [.hdr .sw, .page .sw 0x5, .page .sw 0x6, .page .sw 0x7, .page .sw 0x8, .page .sw 0xb, .page .sw 0x11, .page .sw 0x13, .page .sw 0x14, .page .sw 0x20, .page .sw 0x21, .page .sw 0x30, .page .sw 0x31, .page .sw 0x32, .page .sw 0x40, .page .sw 0x50, .page .sw 0x100, .page .sw 0x200, .page .sw 0x280, .page .sw 0x300, .log .sw, .ports .sw, .sync .sw, .chip .sw, .core, .mem, .pool, .svc, .herds, .hrd, .host, .dct, .sent, .free]) :
    (sealReceive .sw n header tag group s).view wt = s.view wt := by
  simp at hoff
  simp [sealReceive, hoff, Chip.view, Chip.rest, Pool.view, Pool.rest, Svc.view, Svc.rest, Herds.view, Herds.rest, Dct.view, Dct.rest, Dct.held, Fw.view, Fw.rest, Fw.held]

theorem sealReceive_ep_frame (n header : Nat) (tag : List Byte) (group : SealGroup) (s : State) (hoff : Off wt [.hdr .ep, .page .ep 0x4, .page .ep 0x6, .page .ep 0x7, .page .ep 0xb, .page .ep 0x10, .page .ep 0x21, .page .ep 0x31, .page .ep 0x32, .page .ep 0x100, .page .ep 0x200, .page .ep 0x280, .log .ep, .ports .ep, .sync .ep, .chip .ep, .rly, .cmds, .reqs, .ag, .sent]) :
    (sealReceive .ep n header tag group s).view wt = s.view wt := by
  simp at hoff
  simp [sealReceive, hoff, Chip.view, Chip.rest, Pool.view, Pool.rest, Svc.view, Svc.rest, Herds.view, Herds.rest, Dct.view, Dct.rest, Dct.held, Fw.view, Fw.rest, Fw.held]

theorem kexInitReceive_sw_frame (n : Nat) (m : KexMsg) (s : State) (hoff : Off wt [.hdr .sw, .page .sw 0x3, .page .sw 0x5, .page .sw 0x6, .page .sw 0x7, .page .sw 0x8, .page .sw 0xb, .page .sw 0x11, .page .sw 0x13, .page .sw 0x14, .page .sw 0x20, .page .sw 0x21, .page .sw 0x30, .page .sw 0x31, .page .sw 0x32, .page .sw 0x40, .page .sw 0x50, .page .sw 0x100, .page .sw 0x200, .page .sw 0x280, .page .sw 0x300, .log .sw, .ports .sw, .sync .sw, .chip .sw, .core, .mem, .pool, .svc, .herds, .hrd, .host, .dct, .sent, .free]) :
    (kexInitReceive .sw n m s).view wt = s.view wt := by
  simp at hoff
  simp [kexInitReceive, hoff, Chip.view, Chip.rest, Pool.view, Pool.rest, Svc.view, Svc.rest, Herds.view, Herds.rest, Dct.view, Dct.rest, Dct.held, Fw.view, Fw.rest, Fw.held]

theorem kexInitReceive_ep_frame (n : Nat) (m : KexMsg) (s : State) (hoff : Off wt [.hdr .ep, .page .ep 0x2, .page .ep 0x4, .page .ep 0x6, .page .ep 0x7, .page .ep 0xa, .page .ep 0xb, .page .ep 0x10, .page .ep 0x21, .page .ep 0x31, .page .ep 0x32, .page .ep 0x100, .page .ep 0x200, .page .ep 0x280, .log .ep, .ports .ep, .sync .ep, .chip .ep, .rly, .cmds, .reqs, .ag, .sent, .free]) :
    (kexInitReceive .ep n m s).view wt = s.view wt := by
  simp at hoff
  simp [kexInitReceive, hoff, Chip.view, Chip.rest, Pool.view, Pool.rest, Svc.view, Svc.rest, Herds.view, Herds.rest, Dct.view, Dct.rest, Dct.held, Fw.view, Fw.rest, Fw.held]

theorem kexRespReceive_sw_frame (n : Nat) (m : KexMsg) (s : State) (hoff : Off wt [.hdr .sw, .page .sw 0x3, .page .sw 0x5, .page .sw 0x6, .page .sw 0x7, .page .sw 0x8, .page .sw 0xb, .page .sw 0x11, .page .sw 0x13, .page .sw 0x14, .page .sw 0x20, .page .sw 0x21, .page .sw 0x30, .page .sw 0x31, .page .sw 0x32, .page .sw 0x40, .page .sw 0x50, .page .sw 0x100, .page .sw 0x200, .page .sw 0x280, .page .sw 0x300, .log .sw, .ports .sw, .sync .sw, .chip .sw, .core, .mem, .pool, .svc, .herds, .hrd, .host, .dct, .sent, .free]) :
    (kexRespReceive .sw n m s).view wt = s.view wt := by
  simp at hoff
  simp [kexRespReceive, hoff, Chip.view, Chip.rest, Pool.view, Pool.rest, Svc.view, Svc.rest, Herds.view, Herds.rest, Dct.view, Dct.rest, Dct.held, Fw.view, Fw.rest, Fw.held]

theorem kexRespReceive_ep_frame (n : Nat) (m : KexMsg) (s : State) (hoff : Off wt [.hdr .ep, .page .ep 0x2, .page .ep 0x4, .page .ep 0x6, .page .ep 0x7, .page .ep 0xa, .page .ep 0xb, .page .ep 0x10, .page .ep 0x21, .page .ep 0x31, .page .ep 0x32, .page .ep 0x100, .page .ep 0x200, .page .ep 0x280, .log .ep, .ports .ep, .sync .ep, .chip .ep, .rly, .cmds, .reqs, .ag, .sent]) :
    (kexRespReceive .ep n m s).view wt = s.view wt := by
  simp at hoff
  simp [kexRespReceive, hoff, Chip.view, Chip.rest, Pool.view, Pool.rest, Svc.view, Svc.rest, Herds.view, Herds.rest, Dct.view, Dct.rest, Dct.held, Fw.view, Fw.rest, Fw.held]

theorem kexTimeout_sw_frame (n : Nat) (s : State) (hoff : Off wt [.hdr .sw, .page .sw 0x5, .page .sw 0x6, .page .sw 0x7, .page .sw 0x8, .page .sw 0xb, .page .sw 0x11, .page .sw 0x13, .page .sw 0x14, .page .sw 0x20, .page .sw 0x21, .page .sw 0x30, .page .sw 0x31, .page .sw 0x32, .page .sw 0x40, .page .sw 0x50, .page .sw 0x100, .page .sw 0x200, .page .sw 0x280, .page .sw 0x300, .log .sw, .ports .sw, .sync .sw, .chip .sw, .core, .mem, .pool, .svc, .herds, .hrd, .host, .dct, .sent, .free]) :
    (kexTimeout .sw n s).view wt = s.view wt := by
  simp at hoff
  simp [kexTimeout, hoff, Chip.view, Chip.rest, Pool.view, Pool.rest, Svc.view, Svc.rest, Herds.view, Herds.rest, Dct.view, Dct.rest, Dct.held, Fw.view, Fw.rest, Fw.held]

theorem kexTimeout_ep_frame (n : Nat) (s : State) (hoff : Off wt [.hdr .ep, .page .ep 0x4, .page .ep 0x6, .page .ep 0x7, .page .ep 0xb, .page .ep 0x10, .page .ep 0x21, .page .ep 0x31, .page .ep 0x32, .page .ep 0x100, .page .ep 0x200, .page .ep 0x280, .log .ep, .ports .ep, .sync .ep, .chip .ep, .rly, .cmds, .reqs, .ag, .sent]) :
    (kexTimeout .ep n s).view wt = s.view wt := by
  simp at hoff
  simp [kexTimeout, hoff, Chip.view, Chip.rest, Pool.view, Pool.rest, Svc.view, Svc.rest, Herds.view, Herds.rest, Dct.view, Dct.rest, Dct.held, Fw.view, Fw.rest, Fw.held]

@[simp] theorem State_rekeyRequest_sw_frame (s : State) (n : Nat) (hoff : Off wt [.page .sw 0x280, .ports .sw, .sent, .free]) :
    (State.rekeyRequest s .sw n).view wt = s.view wt := by
  simp at hoff
  simp [State.rekeyRequest, hoff, Chip.view, Chip.rest, Pool.view, Pool.rest, Svc.view, Svc.rest, Herds.view, Herds.rest, Dct.view, Dct.rest, Dct.held, Fw.view, Fw.rest, Fw.held]

@[simp] theorem State_rekeyRequest_ep_frame (s : State) (n : Nat) (hoff : Off wt [.page .ep 0x280, .ports .ep, .sent, .free]) :
    (State.rekeyRequest s .ep n).view wt = s.view wt := by
  simp at hoff
  simp [State.rekeyRequest, hoff, Chip.view, Chip.rest, Pool.view, Pool.rest, Svc.view, Svc.rest, Herds.view, Herds.rest, Dct.view, Dct.rest, Dct.held, Fw.view, Fw.rest, Fw.held]

@[simp] theorem rekeyRequestWrite_sw_frame (path : Path) (n : Nat) (s : State) (hoff : Off wt [.hdr .sw, .page .sw 0xb, .page .sw 0x280, .ports .sw, .sent, .free]) :
    (rekeyRequestWrite path .sw n s).view wt = s.view wt := by
  simp at hoff
  simp [rekeyRequestWrite, hoff, Chip.view, Chip.rest, Pool.view, Pool.rest, Svc.view, Svc.rest, Herds.view, Herds.rest, Dct.view, Dct.rest, Dct.held, Fw.view, Fw.rest, Fw.held]

@[simp] theorem rekeyRequestWrite_ep_frame (path : Path) (n : Nat) (s : State) (hoff : Off wt [.hdr .ep, .page .ep 0xb, .page .ep 0x280, .ports .ep, .sent, .free]) :
    (rekeyRequestWrite path .ep n s).view wt = s.view wt := by
  simp at hoff
  simp [rekeyRequestWrite, hoff, Chip.view, Chip.rest, Pool.view, Pool.rest, Svc.view, Svc.rest, Herds.view, Herds.rest, Dct.view, Dct.rest, Dct.held, Fw.view, Fw.rest, Fw.held]

theorem rekeySoftPoint_sw_frame (n : Nat) (s : State) (hoff : Off wt [.page .sw 0x280, .ports .sw, .sent, .free]) :
    (rekeySoftPoint .sw n s).view wt = s.view wt := by
  simp at hoff
  simp [rekeySoftPoint, hoff, Chip.view, Chip.rest, Pool.view, Pool.rest, Svc.view, Svc.rest, Herds.view, Herds.rest, Dct.view, Dct.rest, Dct.held, Fw.view, Fw.rest, Fw.held]

theorem rekeySoftPoint_ep_frame (n : Nat) (s : State) (hoff : Off wt [.page .ep 0x280, .ports .ep, .sent, .free]) :
    (rekeySoftPoint .ep n s).view wt = s.view wt := by
  simp at hoff
  simp [rekeySoftPoint, hoff, Chip.view, Chip.rest, Pool.view, Pool.rest, Svc.view, Svc.rest, Herds.view, Herds.rest, Dct.view, Dct.rest, Dct.held, Fw.view, Fw.rest, Fw.held]

theorem keyExhausted_sw_frame (n : Nat) (s : State) (hoff : Off wt [.hdr .sw, .page .sw 0x5, .page .sw 0x6, .page .sw 0x7, .page .sw 0x8, .page .sw 0xb, .page .sw 0x11, .page .sw 0x13, .page .sw 0x14, .page .sw 0x20, .page .sw 0x21, .page .sw 0x30, .page .sw 0x31, .page .sw 0x32, .page .sw 0x40, .page .sw 0x50, .page .sw 0x100, .page .sw 0x200, .page .sw 0x280, .page .sw 0x300, .log .sw, .ports .sw, .sync .sw, .chip .sw, .core, .mem, .pool, .svc, .herds, .hrd, .host, .dct, .sent, .free]) :
    (keyExhausted .sw n s).view wt = s.view wt := by
  simp at hoff
  simp [keyExhausted, hoff, Chip.view, Chip.rest, Pool.view, Pool.rest, Svc.view, Svc.rest, Herds.view, Herds.rest, Dct.view, Dct.rest, Dct.held, Fw.view, Fw.rest, Fw.held]

theorem keyExhausted_ep_frame (n : Nat) (s : State) (hoff : Off wt [.hdr .ep, .page .ep 0x4, .page .ep 0x6, .page .ep 0x7, .page .ep 0xb, .page .ep 0x10, .page .ep 0x21, .page .ep 0x31, .page .ep 0x32, .page .ep 0x100, .page .ep 0x200, .page .ep 0x280, .log .ep, .ports .ep, .sync .ep, .chip .ep, .rly, .cmds, .reqs, .ag, .sent]) :
    (keyExhausted .ep n s).view wt = s.view wt := by
  simp at hoff
  simp [keyExhausted, hoff, Chip.view, Chip.rest, Pool.view, Pool.rest, Svc.view, Svc.rest, Herds.view, Herds.rest, Dct.view, Dct.rest, Dct.held, Fw.view, Fw.rest, Fw.held]

@[simp] theorem State_setCgtEnable_frame (s : State) (v : Nat) (hoff : Off wt [.page .sw 0x12, .core]) :
    (State.setCgtEnable s v).view wt = s.view wt := by
  simp at hoff
  unfold State.setCgtEnable
  extract_lets s0 s1 s2 s3
  have h1 : s1.view wt = s.view wt := by simp [s1, hoff]
  have h2 : s2.view wt = s1.view wt := dropBank_view _ (by simp [hoff])
  have h3 : s3.view wt = s2.view wt := by simp [s3, hoff]
  clear_value s3 s2 s1
  split
  · rw [← h1, ← h2, ← h3]; simp [hoff]
  · exact h1

theorem cgtEnableWrite_frame (path : Path) (v : Nat) (s : State) (hoff : Off wt [.hdr .sw, .page .sw 0xb, .page .sw 0x12, .core, .sent]) :
    (cgtEnableWrite path v s).view wt = s.view wt := by
  simp at hoff
  simp [cgtEnableWrite, hoff, Chip.view, Chip.rest, Pool.view, Pool.rest, Svc.view, Svc.rest, Herds.view, Herds.rest, Dct.view, Dct.rest, Dct.held, Fw.view, Fw.rest, Fw.held]

@[simp] theorem telemetryWindowClose_frame (s : State) (hoff : Off wt [.page .sw 0x11, .page .sw 0x12, .page .sw 0x14, .ports .sw, .core]) :
    (telemetryWindowClose s).view wt = s.view wt := by
  simp at hoff
  unfold telemetryWindowClose
  extract_lets c len ports s1 s2 word s3 num s4 s5 old s6 dst pl
  have h1 : s1.view wt = s.view wt := dropBank_view _ (by simp [hoff])
  have h2 : s2.view wt = s1.view wt := by
    refine foldl_view _ _ _ fun s e => ?_
    dsimp only
    (repeat' split) <;> simp [hoff]
  have h3 : s3.view wt = s2.view wt := foldl_view _ _ _ fun s tc => foldl_view _ _ _ fun s k => by simp [hoff]
  have h4 : s4.view wt = s3.view wt := by simp [s4, hoff]
  have h5 : s5.view wt = s4.view wt := by simp [s5, hoff]
  have h6 : s6.view wt = s5.view wt := by simp [s6, hoff]
  clear_value pl s6 s5 s4 s3 s2
  split
  · rfl
  · rw [← h1, ← h2, ← h3, ← h4, ← h5]
    split
    · rw [State_swSend_frame _ _ _ _ (by simp [hoff]), h6]
    · rfl

@[simp] theorem State_teleRollN_frame (x0 : Nat) (x1 : State) (hoff : Off wt [.page .sw 0x11, .page .sw 0x12, .page .sw 0x14, .ports .sw, .core]) :
    (State.teleRollN x0 x1).view wt = x1.view wt := by
  simp at hoff
  induction x0 generalizing x1 with
  | zero => rfl
  | succ f ih => unfold State.teleRollN; split <;> simp [ih, hoff]

@[simp] theorem State_teleRoll_frame (s : State) (hoff : Off wt [.page .sw 0x11, .page .sw 0x12, .page .sw 0x14, .ports .sw, .core]) :
    (State.teleRoll s).view wt = s.view wt := by
  simp at hoff
  simp [State.teleRoll, hoff, Chip.view, Chip.rest, Pool.view, Pool.rest, Svc.view, Svc.rest, Herds.view, Herds.rest, Dct.view, Dct.rest, Dct.held, Fw.view, Fw.rest, Fw.held]

@[simp] theorem State_noteMarked_frame (s : State) (e : Egress) (tc : Nat) (hoff : Off wt [.page .sw 0x11, .page .sw 0x12, .page .sw 0x14, .ports .sw, .core]) :
    (State.noteMarked s e tc).view wt = s.view wt := by
  simp at hoff
  unfold State.noteMarked; (try simp only [sw_beq_ep, ep_beq_sw, sw_beq_sw, ep_beq_ep, Bool.false_eq_true, Bool.true_and, Bool.false_and, if_true, if_false]); (repeat' split) <;> (try dsimp only) <;> first | contradiction | simp +decide [State.noteMarked, hoff, Chip.view, Chip.rest, Pool.view, Pool.rest, Svc.view, Svc.rest, Herds.view, Herds.rest, Dct.view, Dct.rest, Dct.held, Fw.view, Fw.rest, Fw.held]

@[simp] theorem State_liveAdd_frame (s : State) (n tc ix k : Nat) (hoff : Off wt [.page .sw 0x11, .page .sw 0x12, .page .sw 0x14, .ports .sw, .core]) :
    (State.liveAdd s n tc ix k).view wt = s.view wt := by
  simp at hoff
  simp [State.liveAdd, hoff, Chip.view, Chip.rest, Pool.view, Pool.rest, Svc.view, Svc.rest, Herds.view, Herds.rest, Dct.view, Dct.rest, Dct.held, Fw.view, Fw.rest, Fw.held]

@[simp] theorem State_discardAt_frame (s : State) (n : Nat) (k : Packet) (f : Fld) (hoff : Off wt [.ports .sw]) (hreg : Off wt [f.reg.comp .sw]) :
    (State.discardAt s n k f).view wt = s.view wt := by
  simp only [off_cons, off_nil, and_true] at hreg
  simp at hoff
  simp [State.discardAt, hoff, hreg, Chip.view, Chip.rest, Pool.view, Pool.rest, Svc.view, Svc.rest, Herds.view, Herds.rest, Dct.view, Dct.rest, Dct.held, Fw.view, Fw.rest, Fw.held]

@[simp] theorem State_judgeAndQueue_frame (s : State) (n : Nat) (e : Egress) (k : Packet) (hoff : Off wt [.page .sw 0x11, .page .sw 0x12, .page .sw 0x14, .ports .sw, .core, .free]) :
    (State.judgeAndQueue s n e k).view wt = s.view wt := by
  simp at hoff
  unfold State.judgeAndQueue; (try simp only [sw_beq_ep, ep_beq_sw, sw_beq_sw, ep_beq_ep, Bool.false_eq_true, Bool.true_and, Bool.false_and, if_true, if_false]); (repeat' split) <;> (try dsimp only) <;> first | contradiction | simp +decide [State.judgeAndQueue, hoff, Chip.view, Chip.rest, Pool.view, Pool.rest, Svc.view, Svc.rest, Herds.view, Herds.rest, Dct.view, Dct.rest, Dct.held, Fw.view, Fw.rest, Fw.held]

@[simp] theorem State_reportDiscard_frame (s : State) (k : Packet) (hoff : Off wt [.page .sw 0x11, .page .sw 0x14, .core]) :
    (State.reportDiscard s k).view wt = s.view wt := by
  simp at hoff
  unfold State.reportDiscard; (try simp only [sw_beq_ep, ep_beq_sw, sw_beq_sw, ep_beq_ep, Bool.false_eq_true, Bool.true_and, Bool.false_and, if_true, if_false]); (repeat' split) <;> (try dsimp only) <;> first | contradiction | simp +decide [State.reportDiscard, hoff, Chip.view, Chip.rest, Pool.view, Pool.rest, Svc.view, Svc.rest, Herds.view, Herds.rest, Dct.view, Dct.rest, Dct.held, Fw.view, Fw.rest, Fw.held]

theorem switchPacketArrival_frame (n : Nat) (k : Packet) (s : State) (hoff : Off wt [.page .sw 0x11, .page .sw 0x12, .page .sw 0x14, .ports .sw, .core, .herds, .free]) :
    (switchPacketArrival n k s).view wt = s.view wt := by
  simp at hoff
  have hl : ∀ s, (switchPacketArrival.lost n k s).view wt = s.view wt := by
    intro s; simp [switchPacketArrival.lost, hoff]
  have hs : (s.sinkFor k).2.view wt = s.view wt := by
    unfold State.sinkFor; (repeat' split) <;> (try dsimp only) <;> (try split) <;> simp [hoff]
  unfold switchPacketArrival; dsimp only
  (repeat' split) <;> simp [hl, hs, hoff]

@[simp] theorem State_reserve_frame (s : State) (q : QEntry) (hoff : Off wt [.ports .sw, .core]) :
    (State.reserve s q).view wt = s.view wt := by
  simp at hoff
  unfold State.reserve; (try simp only [sw_beq_ep, ep_beq_sw, sw_beq_sw, ep_beq_ep, Bool.false_eq_true, Bool.true_and, Bool.false_and, if_true, if_false]); (repeat' split) <;> (try dsimp only) <;> first | contradiction | simp +decide [State.reserve, hoff, Chip.view, Chip.rest, Pool.view, Pool.rest, Svc.view, Svc.rest, Herds.view, Herds.rest, Dct.view, Dct.rest, Dct.held, Fw.view, Fw.rest, Fw.held]

theorem creditReserve_frame (id : Nat) (s : State) (hoff : Off wt [.ports .sw, .core]) :
    (creditReserve id s).view wt = s.view wt := by
  simp at hoff
  unfold creditReserve; (try simp only [sw_beq_ep, ep_beq_sw, sw_beq_sw, ep_beq_ep, Bool.false_eq_true, Bool.true_and, Bool.false_and, if_true, if_false]); (repeat' split) <;> (try dsimp only) <;> first | contradiction | simp +decide [creditReserve, hoff, Chip.view, Chip.rest, Pool.view, Pool.rest, Svc.view, Svc.rest, Herds.view, Herds.rest, Dct.view, Dct.rest, Dct.held, Fw.view, Fw.rest, Fw.held]

@[simp] theorem State_startOnLink_frame (s : State) (n : Nat) (q : QEntry) (d : Sched) (hoff : Off wt [.page .sw 0x11, .page .sw 0x12, .page .sw 0x14, .page .sw 0x280, .ports .sw, .core, .sent]) :
    (State.startOnLink s n q d).view wt = s.view wt := by
  simp at hoff
  simp [State.startOnLink, hoff, Chip.view, Chip.rest, Pool.view, Pool.rest, Svc.view, Svc.rest, Herds.view, Herds.rest, Dct.view, Dct.rest, Dct.held, Fw.view, Fw.rest, Fw.held]

@[simp] theorem State_depart_frame (s : State) (q : QEntry) (hoff : Off wt [.page .sw 0x11, .page .sw 0x12, .page .sw 0x14, .page .sw 0x280, .ports .sw, .core, .sent]) :
    (State.depart s q).view wt = s.view wt := by
  simp at hoff
  unfold State.depart; (try simp only [sw_beq_ep, ep_beq_sw, sw_beq_sw, ep_beq_ep, Bool.false_eq_true, Bool.true_and, Bool.false_and, if_true, if_false]); (repeat' split) <;> (try dsimp only) <;> first | contradiction | simp +decide [State.depart, hoff, Chip.view, Chip.rest, Pool.view, Pool.rest, Svc.view, Svc.rest, Herds.view, Herds.rest, Dct.view, Dct.rest, Dct.held, Fw.view, Fw.rest, Fw.held]

theorem egressPacketStart_frame (id : Nat) (s : State) (hoff : Off wt [.page .sw 0x11, .page .sw 0x12, .page .sw 0x14, .page .sw 0x280, .ports .sw, .core, .sent]) :
    (egressPacketStart id s).view wt = s.view wt := by
  simp at hoff
  unfold egressPacketStart; (try simp only [sw_beq_ep, ep_beq_sw, sw_beq_sw, ep_beq_ep, Bool.false_eq_true, Bool.true_and, Bool.false_and, if_true, if_false]); (repeat' split) <;> (try dsimp only) <;> first | contradiction | simp +decide [egressPacketStart, hoff, Chip.view, Chip.rest, Pool.view, Pool.rest, Svc.view, Svc.rest, Herds.view, Herds.rest, Dct.view, Dct.rest, Dct.held, Fw.view, Fw.rest, Fw.held]

theorem mcastCopySend_frame (id : Nat) (s : State) (hoff : Off wt [.page .sw 0x11, .page .sw 0x12, .page .sw 0x14, .page .sw 0x280, .ports .sw, .core, .sent]) :
    (mcastCopySend id s).view wt = s.view wt := by
  simp at hoff
  unfold mcastCopySend; (try simp only [sw_beq_ep, ep_beq_sw, sw_beq_sw, ep_beq_ep, Bool.false_eq_true, Bool.true_and, Bool.false_and, if_true, if_false]); (repeat' split) <;> (try dsimp only) <;> first | contradiction | simp +decide [mcastCopySend, hoff, Chip.view, Chip.rest, Pool.view, Pool.rest, Svc.view, Svc.rest, Herds.view, Herds.rest, Dct.view, Dct.rest, Dct.held, Fw.view, Fw.rest, Fw.held]

theorem lossyResidueExpiry_frame (group : Nat) (s : State) (hoff : Off wt [.page .sw 0x11, .page .sw 0x12, .page .sw 0x14, .ports .sw, .core]) :
    (lossyResidueExpiry group s).view wt = s.view wt := by
  simp at hoff
  unfold lossyResidueExpiry; (try simp only [sw_beq_ep, ep_beq_sw, sw_beq_sw, ep_beq_ep, Bool.false_eq_true, Bool.true_and, Bool.false_and, if_true, if_false]); (repeat' split) <;> (try dsimp only) <;> first | contradiction | simp +decide [lossyResidueExpiry, hoff, Chip.view, Chip.rest, Pool.view, Pool.rest, Svc.view, Svc.rest, Herds.view, Herds.rest, Dct.view, Dct.rest, Dct.held, Fw.view, Fw.rest, Fw.held]

@[simp] theorem State_fenceMid_frame (s : State) (b : Nat) (hoff : Off wt [.page .sw 0x10]) :
    (State.fenceMid s b).view wt = s.view wt := by
  simp at hoff
  unfold State.fenceMid; (try simp only [sw_beq_ep, ep_beq_sw, sw_beq_sw, ep_beq_ep, Bool.false_eq_true, Bool.true_and, Bool.false_and, if_true, if_false]); (repeat' split) <;> (try dsimp only) <;> first | contradiction | simp +decide [State.fenceMid, hoff, Chip.view, Chip.rest, Pool.view, Pool.rest, Svc.view, Svc.rest, Herds.view, Herds.rest, Dct.view, Dct.rest, Dct.held, Fw.view, Fw.rest, Fw.held]

@[simp] theorem State_setMidFence_frame (s : State) (hi : Bool) (v : Word) (hoff : Off wt [.page .sw 0x10]) :
    (State.setMidFence s hi v).view wt = s.view wt := by
  simp at hoff
  simp [State.setMidFence, hoff, Chip.view, Chip.rest, Pool.view, Pool.rest, Svc.view, Svc.rest, Herds.view, Herds.rest, Dct.view, Dct.rest, Dct.held, Fw.view, Fw.rest, Fw.held]

theorem midFenceSet_frame (path : Path) (hi : Bool) (v : Word) (s : State) (hoff : Off wt [.hdr .sw, .page .sw 0xb, .page .sw 0x10, .sent]) :
    (midFenceSet path hi v s).view wt = s.view wt := by
  simp at hoff
  simp [midFenceSet, hoff, Chip.view, Chip.rest, Pool.view, Pool.rest, Svc.view, Svc.rest, Herds.view, Herds.rest, Dct.view, Dct.rest, Dct.held, Fw.view, Fw.rest, Fw.held]

@[simp] theorem State_backlogTick_frame (s : State) (n tc : Nat) (hoff : Off wt [.page .sw 0x11, .page .sw 0x12, .page .sw 0x14, .ports .sw, .core, .free]) :
    (State.backlogTick s n tc).view wt = s.view wt := by
  simp at hoff
  simp [State.backlogTick, hoff, Chip.view, Chip.rest, Pool.view, Pool.rest, Svc.view, Svc.rest, Herds.view, Herds.rest, Dct.view, Dct.rest, Dct.held, Fw.view, Fw.rest, Fw.held]

theorem backlogAverageUpdate_frame (s : State) (hoff : Off wt [.page .sw 0x11, .page .sw 0x12, .page .sw 0x14, .ports .sw, .core, .free]) :
    (backlogAverageUpdate s).view wt = s.view wt := by
  simp at hoff
  unfold backlogAverageUpdate; (try simp only [sw_beq_ep, ep_beq_sw, sw_beq_sw, ep_beq_ep, Bool.false_eq_true, Bool.true_and, Bool.false_and, if_true, if_false]); repeat' (first | contradiction | (simp +decide [backlogAverageUpdate, hoff, Chip.view, Chip.rest, Pool.view, Pool.rest, Svc.view, Svc.rest, Herds.view, Herds.rest, Dct.view, Dct.rest, Dct.held, Fw.view, Fw.rest, Fw.held]; done) | (intros; split) | (intros; first | refine Eq.trans (foldl_view _ _ _ fun _ _ => ?_) ?_ | refine Eq.trans (foldl_fst_view _ _ _ fun _ _ => ?_) ?_ | refine Eq.trans (when_view _ _ _ ?_) ?_) | dsimp only | simp +decide [backlogAverageUpdate, hoff])

theorem congestionNoticeInterval_sw_frame (src tc : Nat) (s : State) (hoff : Off wt [.page .sw 0x11, .page .sw 0x14, .core]) :
    (congestionNoticeInterval .sw src tc s).view wt = s.view wt := by
  simp at hoff
  unfold congestionNoticeInterval; (try simp only [sw_beq_ep, ep_beq_sw, sw_beq_sw, ep_beq_ep, Bool.false_eq_true, Bool.true_and, Bool.false_and, if_true, if_false]); (repeat' split) <;> (try dsimp only) <;> first | contradiction | simp +decide [congestionNoticeInterval, hoff, Chip.view, Chip.rest, Pool.view, Pool.rest, Svc.view, Svc.rest, Herds.view, Herds.rest, Dct.view, Dct.rest, Dct.held, Fw.view, Fw.rest, Fw.held]

theorem congestionNoticeInterval_ep_frame (src tc : Nat) (s : State) (hoff : Off wt [.page .ep 0x10, .page .ep 0x280, .ports .ep, .rly, .sent]) :
    (congestionNoticeInterval .ep src tc s).view wt = s.view wt := by
  simp at hoff
  unfold congestionNoticeInterval; (try simp only [sw_beq_ep, ep_beq_sw, sw_beq_sw, ep_beq_ep, Bool.false_eq_true, Bool.true_and, Bool.false_and, if_true, if_false]); (repeat' split) <;> (try dsimp only) <;> first | contradiction | simp +decide [congestionNoticeInterval, hoff, Chip.view, Chip.rest, Pool.view, Pool.rest, Svc.view, Svc.rest, Herds.view, Herds.rest, Dct.view, Dct.rest, Dct.held, Fw.view, Fw.rest, Fw.held]

@[simp] theorem State_startFlip_frame (s : State) (axis buckets old : Nat) (coord : Option Nat) (hoff : Off wt [.page .ep 0x280, .ports .ep, .rly, .sent]) :
    (State.startFlip s axis buckets old coord).view wt = s.view wt := by
  simp at hoff
  simp [State.startFlip, hoff, Chip.view, Chip.rest, Pool.view, Pool.rest, Svc.view, Svc.rest, Herds.view, Herds.rest, Dct.view, Dct.rest, Dct.held, Fw.view, Fw.rest, Fw.held]

@[simp] theorem State_releaseHeld_frame (s : State) (hoff : Off wt [.page .ep 0x10, .page .ep 0x280, .ports .ep, .rly, .sent]) :
    (State.releaseHeld s).view wt = s.view wt := by
  simp at hoff
  simp [State.releaseHeld, hoff, Chip.view, Chip.rest, Pool.view, Pool.rest, Svc.view, Svc.rest, Herds.view, Herds.rest, Dct.view, Dct.rest, Dct.held, Fw.view, Fw.rest, Fw.held]

@[simp] theorem State_setPlaneMap_frame (s : State) (axis : Nat) (v : Word) (hoff : Off wt [.page .ep 0x10, .page .ep 0x280, .ports .ep, .rly, .sent]) :
    (State.setPlaneMap s axis v).view wt = s.view wt := by
  simp at hoff
  simp [State.setPlaneMap, hoff, Chip.view, Chip.rest, Pool.view, Pool.rest, Svc.view, Svc.rest, Herds.view, Herds.rest, Dct.view, Dct.rest, Dct.held, Fw.view, Fw.rest, Fw.held]

theorem pmapWrite_frame (path : Path) (axis : Nat) (v : Word) (s : State) (hoff : Off wt [.hdr .ep, .page .ep 0xb, .page .ep 0x10, .page .ep 0x280, .ports .ep, .rly, .sent]) :
    (pmapWrite path axis v s).view wt = s.view wt := by
  simp at hoff
  simp [pmapWrite, hoff, Chip.view, Chip.rest, Pool.view, Pool.rest, Svc.view, Svc.rest, Herds.view, Herds.rest, Dct.view, Dct.rest, Dct.held, Fw.view, Fw.rest, Fw.held]

theorem drainProbeReceive_frame (n : Nat) (k : Packet) (s : State) (hoff : Off wt [.page .sw 0x14, .ports .sw, .core]) :
    (drainProbeReceive n k s).view wt = s.view wt := by
  simp at hoff
  simp [drainProbeReceive, hoff, Chip.view, Chip.rest, Pool.view, Pool.rest, Svc.view, Svc.rest, Herds.view, Herds.rest, Dct.view, Dct.rest, Dct.held, Fw.view, Fw.rest, Fw.held]

theorem probeAnswer_frame (n tag : Nat) (s : State) (hoff : Off wt [.page .sw 0x11, .page .sw 0x14, .core]) :
    (probeAnswer n tag s).view wt = s.view wt := by
  simp at hoff
  unfold probeAnswer; (try simp only [sw_beq_ep, ep_beq_sw, sw_beq_sw, ep_beq_ep, Bool.false_eq_true, Bool.true_and, Bool.false_and, if_true, if_false]); (repeat' split) <;> (try dsimp only) <;> first | contradiction | simp +decide [probeAnswer, hoff, Chip.view, Chip.rest, Pool.view, Pool.rest, Svc.view, Svc.rest, Herds.view, Herds.rest, Dct.view, Dct.rest, Dct.held, Fw.view, Fw.rest, Fw.held]

theorem probeAckReceive_frame (k : Packet) (s : State) (hoff : Off wt [.rly]) :
    (probeAckReceive k s).view wt = s.view wt := by
  simp at hoff
  simp [probeAckReceive, hoff, Chip.view, Chip.rest, Pool.view, Pool.rest, Svc.view, Svc.rest, Herds.view, Herds.rest, Dct.view, Dct.rest, Dct.held, Fw.view, Fw.rest, Fw.held]

theorem flipSettleExpiry_frame (tag : Nat) (s : State) (hoff : Off wt [.page .ep 0x10, .page .ep 0x280, .ports .ep, .rly, .sent]) :
    (flipSettleExpiry tag s).view wt = s.view wt := by
  simp at hoff
  simp [flipSettleExpiry, hoff, Chip.view, Chip.rest, Pool.view, Pool.rest, Svc.view, Svc.rest, Herds.view, Herds.rest, Dct.view, Dct.rest, Dct.held, Fw.view, Fw.rest, Fw.held]

theorem routeDownReceive_frame (k : Packet) (s : State) (hoff : Off wt [.hdr .ep, .page .ep 0xb, .page .ep 0x10, .page .ep 0x21, .page .ep 0x280, .log .ep, .ports .ep, .sync .ep, .rly, .cmds, .ag, .sent]) :
    (routeDownReceive k s).view wt = s.view wt := by
  simp at hoff
  simp [routeDownReceive, hoff, Chip.view, Chip.rest, Pool.view, Pool.rest, Svc.view, Svc.rest, Herds.view, Herds.rest, Dct.view, Dct.rest, Dct.held, Fw.view, Fw.rest, Fw.held]

theorem routeUpReceive_frame (k : Packet) (s : State) (hoff : Off wt [.page .ep 0x10, .page .ep 0x280, .ports .ep, .rly, .sent]) :
    (routeUpReceive k s).view wt = s.view wt := by
  simp at hoff
  simp [routeUpReceive, hoff, Chip.view, Chip.rest, Pool.view, Pool.rest, Svc.view, Svc.rest, Herds.view, Herds.rest, Dct.view, Dct.rest, Dct.held, Fw.view, Fw.rest, Fw.held]

theorem portActiveReceive_frame (n : Nat) (s : State) (hoff : Off wt [.page .ep 0x2, .page .ep 0x280, .ports .ep, .rly, .sent]) :
    (portActiveReceive n s).view wt = s.view wt := by
  simp at hoff
  simp [portActiveReceive, hoff, Chip.view, Chip.rest, Pool.view, Pool.rest, Svc.view, Svc.rest, Herds.view, Herds.rest, Dct.view, Dct.rest, Dct.held, Fw.view, Fw.rest, Fw.held]

@[simp] theorem State_tryActivate_frame (s : State) (n : Nat) (hoff : Off wt [.page .sw 0x3, .page .sw 0x11, .page .sw 0x14, .core]) :
    (State.tryActivate s n).view wt = s.view wt := by
  simp at hoff
  simp [State.tryActivate, hoff, Chip.view, Chip.rest, Pool.view, Pool.rest, Svc.view, Svc.rest, Herds.view, Herds.rest, Dct.view, Dct.rest, Dct.held, Fw.view, Fw.rest, Fw.held]

@[simp] theorem State_setRouteOk_frame (s : State) (n : Nat) (hoff : Off wt [.page .sw 0x3, .page .sw 0x11, .page .sw 0x14, .core]) :
    (State.setRouteOk s n).view wt = s.view wt := by
  simp at hoff
  simp [State.setRouteOk, hoff, Chip.view, Chip.rest, Pool.view, Pool.rest, Svc.view, Svc.rest, Herds.view, Herds.rest, Dct.view, Dct.rest, Dct.held, Fw.view, Fw.rest, Fw.held]

theorem routeOkWrite_frame (path : Path) (s : State) (hoff : Off wt [.hdr .sw, .page .sw 0x3, .page .sw 0xb, .page .sw 0x11, .page .sw 0x14, .core, .sent]) :
    (routeOkWrite path s).view wt = s.view wt := by
  simp at hoff
  simp [routeOkWrite, hoff, Chip.view, Chip.rest, Pool.view, Pool.rest, Svc.view, Svc.rest, Herds.view, Herds.rest, Dct.view, Dct.rest, Dct.held, Fw.view, Fw.rest, Fw.held]

theorem partnerIdentityVerified_frame (n : Nat) (ok : Bool) (digest : List Byte) (s : State) (hoff : Off wt [.hdr .sw, .page .sw 0x3, .page .sw 0x5, .page .sw 0x6, .page .sw 0xb, .page .sw 0x11, .page .sw 0x14, .log .sw, .core, .sent]) :
    (partnerIdentityVerified n ok digest s).view wt = s.view wt := by
  simp at hoff
  simp [partnerIdentityVerified, hoff, Chip.view, Chip.rest, Pool.view, Pool.rest, Svc.view, Svc.rest, Herds.view, Herds.rest, Dct.view, Dct.rest, Dct.held, Fw.view, Fw.rest, Fw.held]

@[simp] theorem State_rteDisable_frame (s : State) (n v : Nat) (hoff : Off wt [.hdr .sw, .page .sw 0x5, .page .sw 0x6, .page .sw 0x7, .page .sw 0x8, .page .sw 0xb, .page .sw 0x11, .page .sw 0x13, .page .sw 0x14, .page .sw 0x20, .page .sw 0x21, .page .sw 0x30, .page .sw 0x31, .page .sw 0x32, .page .sw 0x40, .page .sw 0x50, .page .sw 0x100, .page .sw 0x200, .page .sw 0x280, .page .sw 0x300, .log .sw, .ports .sw, .sync .sw, .chip .sw, .core, .mem, .pool, .svc, .herds, .hrd, .host, .dct, .sent, .free]) :
    (State.rteDisable s n v).view wt = s.view wt := by
  simp at hoff
  simp [State.rteDisable, hoff, Chip.view, Chip.rest, Pool.view, Pool.rest, Svc.view, Svc.rest, Herds.view, Herds.rest, Dct.view, Dct.rest, Dct.held, Fw.view, Fw.rest, Fw.held]

theorem rtePortDisable_frame (path : Path) (v : Nat) (s : State) (hoff : Off wt [.hdr .sw, .page .sw 0x5, .page .sw 0x6, .page .sw 0x7, .page .sw 0x8, .page .sw 0xb, .page .sw 0x11, .page .sw 0x13, .page .sw 0x14, .page .sw 0x20, .page .sw 0x21, .page .sw 0x30, .page .sw 0x31, .page .sw 0x32, .page .sw 0x40, .page .sw 0x50, .page .sw 0x100, .page .sw 0x200, .page .sw 0x280, .page .sw 0x300, .log .sw, .ports .sw, .sync .sw, .chip .sw, .core, .mem, .pool, .svc, .herds, .hrd, .host, .dct, .sent, .free]) :
    (rtePortDisable path v s).view wt = s.view wt := by
  simp at hoff
  simp [rtePortDisable, hoff, Chip.view, Chip.rest, Pool.view, Pool.rest, Svc.view, Svc.rest, Herds.view, Herds.rest, Dct.view, Dct.rest, Dct.held, Fw.view, Fw.rest, Fw.held]

theorem congNoticeReceive_frame (k : Packet) (s : State) (hoff : Off wt [.page .ep 0x11, .rly]) :
    (congNoticeReceive k s).view wt = s.view wt := by
  simp at hoff
  unfold congNoticeReceive; (try simp only [sw_beq_ep, ep_beq_sw, sw_beq_sw, ep_beq_ep, Bool.false_eq_true, Bool.true_and, Bool.false_and, if_true, if_false]); (repeat' split) <;> (try dsimp only) <;> first | contradiction | simp +decide [congNoticeReceive, hoff, Chip.view, Chip.rest, Pool.view, Pool.rest, Svc.view, Svc.rest, Herds.view, Herds.rest, Dct.view, Dct.rest, Dct.held, Fw.view, Fw.rest, Fw.held]

theorem bridleIncrease_frame (ix : Nat) (s : State) (hoff : Off wt [.page .ep 0x11, .rly]) :
    (bridleIncrease ix s).view wt = s.view wt := by
  simp at hoff
  simp [bridleIncrease, hoff, Chip.view, Chip.rest, Pool.view, Pool.rest, Svc.view, Svc.rest, Herds.view, Herds.rest, Dct.view, Dct.rest, Dct.held, Fw.view, Fw.rest, Fw.held]

@[simp] theorem State_showLimit_frame (s : State) (hoff : Off wt [.page .sw 0x2]) :
    (State.showLimit s).view wt = s.view wt := by
  simp at hoff
  simp [State.showLimit, hoff, Chip.view, Chip.rest, Pool.view, Pool.rest, Svc.view, Svc.rest, Herds.view, Herds.rest, Dct.view, Dct.rest, Dct.held, Fw.view, Fw.rest, Fw.held]

@[simp] theorem State_setDuty_frame (s : State) (d : Nat) (hoff : Off wt [.page .sw 0x300]) :
    (State.setDuty s d).view wt = s.view wt := by
  simp at hoff
  simp [State.setDuty, hoff, Chip.view, Chip.rest, Pool.view, Pool.rest, Svc.view, Svc.rest, Herds.view, Herds.rest, Dct.view, Dct.rest, Dct.held, Fw.view, Fw.rest, Fw.held]

@[simp] theorem State_enterLevel_frame (s : State) (v pin : Nat) (hoff : Off wt [.hdr .sw, .page .sw 0x2, .page .sw 0x4, .page .sw 0x5, .page .sw 0xb, .page .sw 0x300, .log .sw, .core, .sent]) :
    (State.enterLevel s v pin).view wt = s.view wt := by
  simp at hoff
  simp [State.enterLevel, hoff, Chip.view, Chip.rest, Pool.view, Pool.rest, Svc.view, Svc.rest, Herds.view, Herds.rest, Dct.view, Dct.rest, Dct.held, Fw.view, Fw.rest, Fw.held]

@[simp] theorem State_holdOver_frame (s : State) (hoff : Off wt [.hdr .sw, .page .sw 0x2, .page .sw 0x4, .page .sw 0x5, .page .sw 0xb, .page .sw 0x300, .log .sw, .core, .sent]) :
    (State.holdOver s).view wt = s.view wt := by
  simp at hoff
  unfold State.holdOver; (try simp only [sw_beq_ep, ep_beq_sw, sw_beq_sw, ep_beq_ep, Bool.false_eq_true, Bool.true_and, Bool.false_and, if_true, if_false]); (repeat' split) <;> (try dsimp only) <;> first | contradiction | simp +decide [State.holdOver, hoff, Chip.view, Chip.rest, Pool.view, Pool.rest, Svc.view, Svc.rest, Herds.view, Herds.rest, Dct.view, Dct.rest, Dct.held, Fw.view, Fw.rest, Fw.held]

@[simp] theorem State_judgeDemand_frame (s : State) (pin : Nat) (hoff : Off wt [.hdr .sw, .page .sw 0x2, .page .sw 0x4, .page .sw 0x5, .page .sw 0xb, .page .sw 0x300, .log .sw, .core, .sent]) :
    (State.judgeDemand s pin).view wt = s.view wt := by
  simp at hoff
  simp [State.judgeDemand, hoff, Chip.view, Chip.rest, Pool.view, Pool.rest, Svc.view, Svc.rest, Herds.view, Herds.rest, Dct.view, Dct.rest, Dct.held, Fw.view, Fw.rest, Fw.held]

theorem pwrAlertAssert_frame (s : State) (hoff : Off wt [.hdr .sw, .page .sw 0x2, .page .sw 0x4, .page .sw 0x5, .page .sw 0xb, .page .sw 0x300, .log .sw, .core, .sent]) :
    (pwrAlertAssert s).view wt = s.view wt := by
  simp at hoff
  simp [pwrAlertAssert, hoff, Chip.view, Chip.rest, Pool.view, Pool.rest, Svc.view, Svc.rest, Herds.view, Herds.rest, Dct.view, Dct.rest, Dct.held, Fw.view, Fw.rest, Fw.held]

theorem pwrAlertDeassert_frame (s : State) (hoff : Off wt [.hdr .sw, .page .sw 0x2, .page .sw 0x4, .page .sw 0x5, .page .sw 0xb, .page .sw 0x300, .log .sw, .core, .sent]) :
    (pwrAlertDeassert s).view wt = s.view wt := by
  simp at hoff
  simp [pwrAlertDeassert, hoff, Chip.view, Chip.rest, Pool.view, Pool.rest, Svc.view, Svc.rest, Herds.view, Herds.rest, Dct.view, Dct.rest, Dct.held, Fw.view, Fw.rest, Fw.held]

theorem thermAlertAssert_frame (s : State) (hoff : Off wt [.hdr .sw, .page .sw 0x2, .page .sw 0x4, .page .sw 0x5, .page .sw 0xb, .page .sw 0x300, .log .sw, .core, .sent]) :
    (thermAlertAssert s).view wt = s.view wt := by
  simp at hoff
  simp [thermAlertAssert, hoff, Chip.view, Chip.rest, Pool.view, Pool.rest, Svc.view, Svc.rest, Herds.view, Herds.rest, Dct.view, Dct.rest, Dct.held, Fw.view, Fw.rest, Fw.held]

@[simp] theorem thermP3DelayExpiry_frame (s : State) (hoff : Off wt [.hdr .sw, .page .sw 0x2, .page .sw 0x4, .page .sw 0x5, .page .sw 0xb, .page .sw 0x300, .log .sw, .core, .sent]) :
    (thermP3DelayExpiry s).view wt = s.view wt := by
  simp at hoff
  unfold thermP3DelayExpiry; (try simp only [sw_beq_ep, ep_beq_sw, sw_beq_sw, ep_beq_ep, Bool.false_eq_true, Bool.true_and, Bool.false_and, if_true, if_false]); (repeat' split) <;> (try dsimp only) <;> first | contradiction | simp +decide [thermP3DelayExpiry, hoff, Chip.view, Chip.rest, Pool.view, Pool.rest, Svc.view, Svc.rest, Herds.view, Herds.rest, Dct.view, Dct.rest, Dct.held, Fw.view, Fw.rest, Fw.held]

theorem thermAlertDeassert_frame (s : State) (hoff : Off wt [.hdr .sw, .page .sw 0x2, .page .sw 0x4, .page .sw 0x5, .page .sw 0xb, .page .sw 0x300, .log .sw, .core, .sent]) :
    (thermAlertDeassert s).view wt = s.view wt := by
  simp at hoff
  simp [thermAlertDeassert, hoff, Chip.view, Chip.rest, Pool.view, Pool.rest, Svc.view, Svc.rest, Herds.view, Herds.rest, Dct.view, Dct.rest, Dct.held, Fw.view, Fw.rest, Fw.held]

theorem pwrCapChange_frame (cap : Nat) (s : State) (hoff : Off wt [.hdr .sw, .page .sw 0x2, .page .sw 0x4, .page .sw 0x5, .page .sw 0xb, .page .sw 0x300, .log .sw, .core, .sent]) :
    (pwrCapChange cap s).view wt = s.view wt := by
  simp at hoff
  simp [pwrCapChange, hoff, Chip.view, Chip.rest, Pool.view, Pool.rest, Svc.view, Svc.rest, Herds.view, Herds.rest, Dct.view, Dct.rest, Dct.held, Fw.view, Fw.rest, Fw.held]

@[simp] theorem State_setPwrCtl_frame (s : State) (x : Word) (hoff : Off wt [.hdr .sw, .page .sw 0x2, .page .sw 0x4, .page .sw 0x5, .page .sw 0xb, .page .sw 0x300, .log .sw, .core, .sent]) :
    (State.setPwrCtl s x).view wt = s.view wt := by
  simp at hoff
  simp [State.setPwrCtl, hoff, Chip.view, Chip.rest, Pool.view, Pool.rest, Svc.view, Svc.rest, Herds.view, Herds.rest, Dct.view, Dct.rest, Dct.held, Fw.view, Fw.rest, Fw.held]

theorem forceLevelWrite_frame (path : Path) (x : Word) (s : State) (hoff : Off wt [.hdr .sw, .page .sw 0x2, .page .sw 0x4, .page .sw 0x5, .page .sw 0xb, .page .sw 0x300, .log .sw, .core, .sent]) :
    (forceLevelWrite path x s).view wt = s.view wt := by
  simp at hoff
  simp [forceLevelWrite, hoff, Chip.view, Chip.rest, Pool.view, Pool.rest, Svc.view, Svc.rest, Herds.view, Herds.rest, Dct.view, Dct.rest, Dct.held, Fw.view, Fw.rest, Fw.held]

theorem throttleHoldExpiry_frame (s : State) (hoff : Off wt [.hdr .sw, .page .sw 0x2, .page .sw 0x4, .page .sw 0x5, .page .sw 0xb, .page .sw 0x300, .log .sw, .core, .sent]) :
    (throttleHoldExpiry s).view wt = s.view wt := by
  simp at hoff
  unfold throttleHoldExpiry; (try simp only [sw_beq_ep, ep_beq_sw, sw_beq_sw, ep_beq_ep, Bool.false_eq_true, Bool.true_and, Bool.false_and, if_true, if_false]); (repeat' split) <;> (try dsimp only) <;> first | contradiction | simp +decide [throttleHoldExpiry, hoff, Chip.view, Chip.rest, Pool.view, Pool.rest, Svc.view, Svc.rest, Herds.view, Herds.rest, Dct.view, Dct.rest, Dct.held, Fw.view, Fw.rest, Fw.held]

@[simp] theorem State_harder_frame (s : State) (hoff : Off wt [.page .sw 0x300, .core, .free]) :
    (State.harder s).view wt = s.view wt := by
  simp at hoff
  simp [State.harder, hoff, Chip.view, Chip.rest, Pool.view, Pool.rest, Svc.view, Svc.rest, Herds.view, Herds.rest, Dct.view, Dct.rest, Dct.held, Fw.view, Fw.rest, Fw.held]

@[simp] theorem State_easier_frame (s : State) (hoff : Off wt [.page .sw 0x300, .core, .free]) :
    (State.easier s).view wt = s.view wt := by
  simp at hoff
  simp [State.easier, hoff, Chip.view, Chip.rest, Pool.view, Pool.rest, Svc.view, Svc.rest, Herds.view, Herds.rest, Dct.view, Dct.rest, Dct.held, Fw.view, Fw.rest, Fw.held]

@[simp] theorem State_burnish_frame (s : State) (now avg rise : Nat) (hoff : Off wt [.page .sw 0x2, .page .sw 0x300, .core, .free]) :
    (State.burnish s now avg rise).view wt = s.view wt := by
  simp at hoff
  simp [State.burnish, hoff, Chip.view, Chip.rest, Pool.view, Pool.rest, Svc.view, Svc.rest, Herds.view, Herds.rest, Dct.view, Dct.rest, Dct.held, Fw.view, Fw.rest, Fw.held]

theorem powerControlSample_sw_frame (watts : Nat) (s : State) (hoff : Off wt [.page .sw 0x2, .page .sw 0x300, .core, .free]) :
    (powerControlSample .sw watts s).view wt = s.view wt := by
  simp at hoff
  simp [powerControlSample, hoff, Chip.view, Chip.rest, Pool.view, Pool.rest, Svc.view, Svc.rest, Herds.view, Herds.rest, Dct.view, Dct.rest, Dct.held, Fw.view, Fw.rest, Fw.held]

theorem powerControlSample_ep_frame (watts : Nat) (s : State) (hoff : Off wt [.page .ep 0x2]) :
    (powerControlSample .ep watts s).view wt = s.view wt := by
  simp at hoff
  simp [powerControlSample, hoff, Chip.view, Chip.rest, Pool.view, Pool.rest, Svc.view, Svc.rest, Herds.view, Herds.rest, Dct.view, Dct.rest, Dct.held, Fw.view, Fw.rest, Fw.held]

theorem hbmStackThrottle_frame (n celsius : Nat) (s : State) (hoff : Off wt [.page .sw 0x40]) :
    (hbmStackThrottle n celsius s).view wt = s.view wt := by
  simp at hoff
  simp [hbmStackThrottle, hoff, Chip.view, Chip.rest, Pool.view, Pool.rest, Svc.view, Svc.rest, Herds.view, Herds.rest, Dct.view, Dct.rest, Dct.held, Fw.view, Fw.rest, Fw.held]

@[simp] theorem State_herdPacketLost_frame (s : State) (k : Packet) (hoff : Off wt [.hdr .sw, .page .sw 0x5, .page .sw 0xb, .page .sw 0x11, .page .sw 0x14, .page .sw 0x20, .page .sw 0x21, .log .sw, .ports .sw, .sync .sw, .core, .svc, .herds, .hrd, .sent]) :
    (State.herdPacketLost s k).view wt = s.view wt := by
  simp at hoff
  simp [State.herdPacketLost, hoff, Chip.view, Chip.rest, Pool.view, Pool.rest, Svc.view, Svc.rest, Herds.view, Herds.rest, Dct.view, Dct.rest, Dct.held, Fw.view, Fw.rest, Fw.held]

theorem sramUncorrectable_frame (structure_ id : Nat) (mid : Option Nat) (s : State) (hoff : Off wt [.hdr .sw, .page .sw 0x5, .page .sw 0xb, .page .sw 0x10, .page .sw 0x11, .page .sw 0x14, .page .sw 0x20, .page .sw 0x21, .log .sw, .ports .sw, .sync .sw, .core, .svc, .herds, .hrd, .sent]) :
    (sramUncorrectable structure_ id mid s).view wt = s.view wt := by
  simp at hoff
  unfold sramUncorrectable; (try simp only [sw_beq_ep, ep_beq_sw, sw_beq_sw, ep_beq_ep, Bool.false_eq_true, Bool.true_and, Bool.false_and, if_true, if_false]); (repeat' split) <;> (try dsimp only) <;> first | contradiction | simp +decide [sramUncorrectable, hoff, Chip.view, Chip.rest, Pool.view, Pool.rest, Svc.view, Svc.rest, Herds.view, Herds.rest, Dct.view, Dct.rest, Dct.held, Fw.view, Fw.rest, Fw.held]

end Sys2Proof.Machine
end

