-- ==== Sys2Proof/Laws/FrameControl.lean ====
section
/-! SUPPORT. The components that each operation of CXL, dual control, SPDM and firmware may change. -/

set_option Elab.async false
set_option linter.all false

namespace Sys2Proof.Machine

variable {wt : Comp → Bool}

@[simp] theorem State_hostGuard_frame (s : State) (kind dpa : Nat) (f : Nat → Nat → State → State) (hoff : Off wt [.hdr .sw, .page .sw 0x5, .page .sw 0xb, .page .sw 0x11, .page .sw 0x13, .page .sw 0x14, .page .sw 0x20, .page .sw 0x21, .page .sw 0x30, .page .sw 0x31, .page .sw 0x32, .page .sw 0x40, .page .sw 0x50, .page .sw 0x300, .log .sw, .ports .sw, .sync .sw, .core, .mem, .pool, .svc, .herds, .hrd, .host, .sent, .free]) (hf : ∀ a0 a1 s, (f a0 a1 s).view wt = s.view wt) :
    (State.hostGuard s kind dpa f).view wt = s.view wt := by
  simp at hoff
  unfold State.hostGuard
  extract_lets a s1 st st2
  have h1 : s1.view wt = s.view wt := by
    simp only [s1]; split
    · exact option_elim_view _ _ _ fun _ => by simp [hoff]
    · rfl
  clear_value s1 st st2 a
  (repeat' split) <;> simp [hf, h1, hoff]

@[simp] theorem State_hostQueue_frame (s : State) (k : PKind) (p off n : Nat) (m : Member) (hoff : Off wt [.hdr .sw, .page .sw 0x5, .page .sw 0xb, .page .sw 0x11, .page .sw 0x13, .page .sw 0x14, .page .sw 0x20, .page .sw 0x21, .page .sw 0x30, .page .sw 0x31, .page .sw 0x32, .page .sw 0x40, .page .sw 0x50, .page .sw 0x300, .log .sw, .ports .sw, .sync .sw, .core, .mem, .pool, .svc, .herds, .hrd, .host, .sent, .free]) :
    (State.hostQueue s k p off n m).view wt = s.view wt := by
  simp at hoff
  simp [State.hostQueue, hoff, Chip.view, Chip.rest, Pool.view, Pool.rest, Svc.view, Svc.rest, Herds.view, Herds.rest, Dct.view, Dct.rest, Dct.held, Fw.view, Fw.rest, Fw.held]

theorem memRd_frame (dpa mv : Nat) (s : State) (hoff : Off wt [.hdr .sw, .page .sw 0x5, .page .sw 0xb, .page .sw 0x11, .page .sw 0x13, .page .sw 0x14, .page .sw 0x20, .page .sw 0x21, .page .sw 0x30, .page .sw 0x31, .page .sw 0x32, .page .sw 0x40, .page .sw 0x50, .page .sw 0x300, .log .sw, .ports .sw, .sync .sw, .core, .mem, .pool, .svc, .herds, .hrd, .host, .sent, .free]) :
    (memRd dpa mv s).view wt = s.view wt := by
  simp at hoff
  simp [memRd, hoff, Chip.view, Chip.rest, Pool.view, Pool.rest, Svc.view, Svc.rest, Herds.view, Herds.rest, Dct.view, Dct.rest, Dct.held, Fw.view, Fw.rest, Fw.held]

theorem memInv_frame (dpa : Nat) (s : State) (hoff : Off wt [.hdr .sw, .page .sw 0x5, .page .sw 0xb, .page .sw 0x11, .page .sw 0x13, .page .sw 0x14, .page .sw 0x20, .page .sw 0x21, .page .sw 0x30, .page .sw 0x31, .page .sw 0x32, .page .sw 0x40, .page .sw 0x50, .page .sw 0x300, .log .sw, .ports .sw, .sync .sw, .core, .mem, .pool, .svc, .herds, .hrd, .host, .sent, .free]) :
    (memInv dpa s).view wt = s.view wt := by
  simp at hoff
  simp [memInv, hoff, Chip.view, Chip.rest, Pool.view, Pool.rest, Svc.view, Svc.rest, Herds.view, Herds.rest, Dct.view, Dct.rest, Dct.held, Fw.view, Fw.rest, Fw.held]

@[simp] theorem State_hostWriteBack_frame (s : State) (p off mask : Nat) (data : List Byte) (hoff : Off wt [.hdr .sw, .page .sw 0x5, .page .sw 0xb, .page .sw 0x11, .page .sw 0x13, .page .sw 0x14, .page .sw 0x20, .page .sw 0x21, .page .sw 0x30, .page .sw 0x31, .page .sw 0x32, .page .sw 0x40, .page .sw 0x50, .page .sw 0x300, .log .sw, .ports .sw, .sync .sw, .core, .mem, .pool, .svc, .herds, .hrd, .host, .sent, .free]) :
    (State.hostWriteBack s p off mask data).view wt = s.view wt := by
  simp at hoff
  unfold State.hostWriteBack; (try simp only [sw_beq_ep, ep_beq_sw, sw_beq_sw, ep_beq_ep, Bool.false_eq_true, Bool.true_and, Bool.false_and, if_true, if_false]); (repeat' split) <;> (try dsimp only) <;> first | contradiction | simp +decide [State.hostWriteBack, hoff, Chip.view, Chip.rest, Pool.view, Pool.rest, Svc.view, Svc.rest, Herds.view, Herds.rest, Dct.view, Dct.rest, Dct.held, Fw.view, Fw.rest, Fw.held]

theorem memWr_frame (dpa mask : Nat) (data : List Byte) (s : State) (hoff : Off wt [.hdr .sw, .page .sw 0x5, .page .sw 0xb, .page .sw 0x11, .page .sw 0x13, .page .sw 0x14, .page .sw 0x20, .page .sw 0x21, .page .sw 0x30, .page .sw 0x31, .page .sw 0x32, .page .sw 0x40, .page .sw 0x50, .page .sw 0x300, .log .sw, .ports .sw, .sync .sw, .core, .mem, .pool, .svc, .herds, .hrd, .host, .sent, .free]) :
    (memWr dpa mask data s).view wt = s.view wt := by
  simp at hoff
  simp [memWr, hoff, Chip.view, Chip.rest, Pool.view, Pool.rest, Svc.view, Svc.rest, Herds.view, Herds.rest, Dct.view, Dct.rest, Dct.held, Fw.view, Fw.rest, Fw.held]

theorem memClnEvct_frame (dpa : Nat) (s : State) (hoff : Off wt [.hdr .sw, .page .sw 0x5, .page .sw 0xb, .page .sw 0x11, .page .sw 0x13, .page .sw 0x14, .page .sw 0x20, .page .sw 0x21, .page .sw 0x30, .page .sw 0x31, .page .sw 0x32, .page .sw 0x40, .page .sw 0x50, .page .sw 0x300, .log .sw, .ports .sw, .sync .sw, .core, .mem, .pool, .svc, .herds, .hrd, .host, .sent, .free]) :
    (memClnEvct dpa s).view wt = s.view wt := by
  simp at hoff
  simp [memClnEvct, hoff, Chip.view, Chip.rest, Pool.view, Pool.rest, Svc.view, Svc.rest, Herds.view, Herds.rest, Dct.view, Dct.rest, Dct.held, Fw.view, Fw.rest, Fw.held]

theorem memSpecRd_frame (dpa : Nat) (s : State) :
    (memSpecRd dpa s).view wt = s.view wt := by
  simp [memSpecRd, Chip.view, Chip.rest, Pool.view, Pool.rest, Svc.view, Svc.rest, Herds.view, Herds.rest, Dct.view, Dct.rest, Dct.held, Fw.view, Fw.rest, Fw.held]

theorem biRsp_frame (dpa : Nat) (shared : Bool) (s : State) (hoff : Off wt [.hdr .sw, .page .sw 0x5, .page .sw 0xb, .page .sw 0x11, .page .sw 0x13, .page .sw 0x14, .page .sw 0x20, .page .sw 0x21, .page .sw 0x30, .page .sw 0x31, .page .sw 0x32, .page .sw 0x40, .page .sw 0x50, .page .sw 0x300, .log .sw, .ports .sw, .sync .sw, .core, .mem, .pool, .svc, .herds, .hrd, .host, .sent, .free]) :
    (biRsp dpa shared s).view wt = s.view wt := by
  simp at hoff
  unfold biRsp
  extract_lets key s1
  have h1 : s1.view wt = s.view wt := by
    simp only [s1]; split
    · exact option_elim_view _ _ _ fun _ => by simp [hoff]
    · rfl
  clear_value s1 key
  dsimp only
  (repeat' split) <;> simp [h1, hoff, Pool.view, Pool.rest]

theorem biConflict_frame (dpa : Nat) (s : State) (hoff : Off wt [.sent]) :
    (biConflict dpa s).view wt = s.view wt := by
  simp at hoff
  simp [biConflict, hoff, Chip.view, Chip.rest, Pool.view, Pool.rest, Svc.view, Svc.rest, Herds.view, Herds.rest, Dct.view, Dct.rest, Dct.held, Fw.view, Fw.rest, Fw.held]

theorem hdmCommit_frame (dec hpa dpa size ways : Nat) (db : Bool) (s : State) (hoff : Off wt [.hdr .sw, .page .sw 0xb, .page .sw 0x50, .host, .sent]) :
    (hdmCommit dec hpa dpa size ways db s).view wt = s.view wt := by
  simp at hoff
  simp [hdmCommit, hoff, Chip.view, Chip.rest, Pool.view, Pool.rest, Svc.view, Svc.rest, Herds.view, Herds.rest, Dct.view, Dct.rest, Dct.held, Fw.view, Fw.rest, Fw.held]

@[simp] theorem State_fenceHost_frame (s : State) (cause : Nat) (hoff : Off wt [.hdr .sw, .page .sw 0x5, .page .sw 0xb, .page .sw 0x11, .page .sw 0x13, .page .sw 0x14, .page .sw 0x20, .page .sw 0x21, .page .sw 0x30, .page .sw 0x31, .page .sw 0x32, .page .sw 0x40, .page .sw 0x50, .page .sw 0x300, .log .sw, .ports .sw, .sync .sw, .core, .mem, .pool, .svc, .herds, .hrd, .host, .sent, .free]) :
    (State.fenceHost s cause).view wt = s.view wt := by
  simp at hoff
  unfold State.fenceHost; (try simp only [sw_beq_ep, ep_beq_sw, sw_beq_sw, ep_beq_ep, Bool.false_eq_true, Bool.true_and, Bool.false_and, if_true, if_false]); (repeat' split) <;> (try dsimp only) <;> first | contradiction | simp +decide [State.fenceHost, hoff, Chip.view, Chip.rest, Pool.view, Pool.rest, Svc.view, Svc.rest, Herds.view, Herds.rest, Dct.view, Dct.rest, Dct.held, Fw.view, Fw.rest, Fw.held]

@[simp] theorem State_setBiEn_frame (s : State) (v : Bool) (hoff : Off wt [.hdr .sw, .page .sw 0x5, .page .sw 0xb, .page .sw 0x11, .page .sw 0x13, .page .sw 0x14, .page .sw 0x20, .page .sw 0x21, .page .sw 0x30, .page .sw 0x31, .page .sw 0x32, .page .sw 0x40, .page .sw 0x50, .page .sw 0x300, .log .sw, .ports .sw, .sync .sw, .core, .mem, .pool, .svc, .herds, .hrd, .host, .sent, .free]) :
    (State.setBiEn s v).1.view wt = s.view wt := by
  simp at hoff
  simp [State.setBiEn, hoff, Chip.view, Chip.rest, Pool.view, Pool.rest, Svc.view, Svc.rest, Herds.view, Herds.rest, Dct.view, Dct.rest, Dct.held, Fw.view, Fw.rest, Fw.held]

theorem biEnWrite_frame (path : Path) (v : Bool) (s : State) (hoff : Off wt [.hdr .sw, .page .sw 0x5, .page .sw 0xb, .page .sw 0x11, .page .sw 0x13, .page .sw 0x14, .page .sw 0x20, .page .sw 0x21, .page .sw 0x30, .page .sw 0x31, .page .sw 0x32, .page .sw 0x40, .page .sw 0x50, .page .sw 0x300, .log .sw, .ports .sw, .sync .sw, .core, .mem, .pool, .svc, .herds, .hrd, .host, .sent, .free]) :
    (biEnWrite path v s).view wt = s.view wt := by
  simp at hoff
  simp [biEnWrite, hoff, Chip.view, Chip.rest, Pool.view, Pool.rest, Svc.view, Svc.rest, Herds.view, Herds.rest, Dct.view, Dct.rest, Dct.held, Fw.view, Fw.rest, Fw.held]

@[simp] theorem State_hostReset_frame (s : State) (hoff : Off wt [.page .sw 0x50, .chip .sw, .host]) :
    (State.hostReset s).view wt = s.view wt := by
  simp at hoff
  unfold State.hostReset
  dsimp only
  rw [invals_view _ _ (by simp [hoff])]
  simp [hoff, Chip.view, Chip.rest]

@[simp] theorem State_hostDown_frame (s : State) (cause : Nat) (hoff : Off wt [.hdr .sw, .page .sw 0x5, .page .sw 0xb, .page .sw 0x11, .page .sw 0x13, .page .sw 0x14, .page .sw 0x20, .page .sw 0x21, .page .sw 0x30, .page .sw 0x31, .page .sw 0x32, .page .sw 0x40, .page .sw 0x50, .page .sw 0x300, .log .sw, .ports .sw, .sync .sw, .chip .sw, .core, .mem, .pool, .svc, .herds, .hrd, .host, .sent, .free]) :
    (State.hostDown s cause).view wt = s.view wt := by
  simp at hoff
  simp [State.hostDown, hoff, Chip.view, Chip.rest, Pool.view, Pool.rest, Svc.view, Svc.rest, Herds.view, Herds.rest, Dct.view, Dct.rest, Dct.held, Fw.view, Fw.rest, Fw.held]

theorem hostLinkDown_frame (cause : Nat) (s : State) (hoff : Off wt [.hdr .sw, .page .sw 0x5, .page .sw 0xb, .page .sw 0x11, .page .sw 0x13, .page .sw 0x14, .page .sw 0x20, .page .sw 0x21, .page .sw 0x30, .page .sw 0x31, .page .sw 0x32, .page .sw 0x40, .page .sw 0x50, .page .sw 0x300, .log .sw, .ports .sw, .sync .sw, .chip .sw, .core, .mem, .pool, .svc, .herds, .hrd, .host, .sent, .free]) :
    (hostLinkDown cause s).view wt = s.view wt := by
  simp at hoff
  simp [hostLinkDown, hoff, Chip.view, Chip.rest, Pool.view, Pool.rest, Svc.view, Svc.rest, Herds.view, Herds.rest, Dct.view, Dct.rest, Dct.held, Fw.view, Fw.rest, Fw.held]

theorem hostLinkUp_frame (width rate : Nat) (cxl : Bool) (s : State) (hoff : Off wt [.page .sw 0x50]) :
    (hostLinkUp width rate cxl s).view wt = s.view wt := by
  simp at hoff
  simp [hostLinkUp, hoff, Chip.view, Chip.rest, Pool.view, Pool.rest, Svc.view, Svc.rest, Herds.view, Herds.rest, Dct.view, Dct.rest, Dct.held, Fw.view, Fw.rest, Fw.held]

theorem ideCheckFail_frame (s : State) (hoff : Off wt [.hdr .sw, .page .sw 0x5, .page .sw 0xb, .page .sw 0x11, .page .sw 0x13, .page .sw 0x14, .page .sw 0x20, .page .sw 0x21, .page .sw 0x30, .page .sw 0x31, .page .sw 0x32, .page .sw 0x40, .page .sw 0x50, .page .sw 0x300, .log .sw, .ports .sw, .sync .sw, .chip .sw, .core, .mem, .pool, .svc, .herds, .hrd, .host, .sent, .free]) :
    (ideCheckFail s).view wt = s.view wt := by
  simp at hoff
  simp [ideCheckFail, hoff, Chip.view, Chip.rest, Pool.view, Pool.rest, Svc.view, Svc.rest, Herds.view, Herds.rest, Dct.view, Dct.rest, Dct.held, Fw.view, Fw.rest, Fw.held]

@[simp] theorem State_writeInvRecord_frame (s : State) (tag status missing first ltc : Nat) (hoff : Off wt [.hdr .sw, .page .sw 0x5, .page .sw 0x50, .sent]) :
    (State.writeInvRecord s tag status missing first ltc).view wt = s.view wt := by
  simp at hoff
  simp [State.writeInvRecord, hoff, Chip.view, Chip.rest, Pool.view, Pool.rest, Svc.view, Svc.rest, Herds.view, Herds.rest, Dct.view, Dct.rest, Dct.held, Fw.view, Fw.rest, Fw.held]

@[simp] theorem State_endInval_frame (s : State) (v : Inval) (status : Nat) (missing : List Nat) (hoff : Off wt [.host]) :
    (State.endInval s v status missing).view wt = s.view wt := by
  simp at hoff
  unfold State.endInval; (try simp only [sw_beq_ep, ep_beq_sw, sw_beq_sw, ep_beq_ep, Bool.false_eq_true, Bool.true_and, Bool.false_and, if_true, if_false]); (repeat' split) <;> first | contradiction | simp +decide [State.endInval, hoff, State.view, SwState.view, EpState.view, -view_eta]

@[simp] theorem State_startInval_frame (s : State) (desc : List Byte) (tag p ctx : Nat) (hoff : Off wt [.page .sw 0x11, .page .sw 0x14, .core, .host]) :
    (State.startInval s desc tag p ctx).view wt = s.view wt := by
  simp at hoff
  unfold State.startInval
  dsimp only
  split <;> simp [hoff]

theorem invSubmit_frame (desc : List Byte) (s : State) (hoff : Off wt [.hdr .sw, .page .sw 0x5, .page .sw 0xb, .page .sw 0x11, .page .sw 0x14, .page .sw 0x50, .core, .host, .sent]) :
    (invSubmit desc s).view wt = s.view wt := by
  simp at hoff
  unfold invSubmit
  dsimp only
  (repeat' split) <;> first
  | rfl
  | exact hostBoth_view _ _ _ (by simp [hoff])
  | simp [hoff]

@[simp] theorem State_invalExpire_frame (s : State) (v : Inval) (hoff : Off wt [.host]) :
    (State.invalExpire s v).view wt = s.view wt := by
  simp at hoff
  simp [State.invalExpire, hoff, Chip.view, Chip.rest, Pool.view, Pool.rest, Svc.view, Svc.rest, Herds.view, Herds.rest, Dct.view, Dct.rest, Dct.held, Fw.view, Fw.rest, Fw.held]

theorem invalAckReceive_frame (k : Packet) (s : State) (hoff : Off wt [.hdr .sw, .page .sw 0x5, .page .sw 0xb, .page .sw 0x11, .page .sw 0x14, .log .sw, .core, .host, .sent]) :
    (invalAckReceive k s).view wt = s.view wt := by
  simp at hoff
  unfold invalAckReceive
  extract_lets s1
  have h1 : s1.view wt = s.view wt := by simp [s1, hoff]
  clear_value s1
  rw [← h1]
  (repeat' split) <;> first
  | (simp [hoff]; done)
  | (extract_lets v s2
     have h2 : s2.view wt = s1.view wt := invals_view _ _ (by simp [hoff])
     clear_value s2
     rw [← h2]
     split <;> simp [hoff])

theorem invalTimeout_frame (serial : Nat) (s : State) (hoff : Off wt [.host]) :
    (invalTimeout serial s).view wt = s.view wt := by
  simp at hoff
  unfold invalTimeout; (try simp only [sw_beq_ep, ep_beq_sw, sw_beq_sw, ep_beq_ep, Bool.false_eq_true, Bool.true_and, Bool.false_and, if_true, if_false]); (repeat' split) <;> (try dsimp only) <;> first | contradiction | simp +decide [invalTimeout, hoff, Chip.view, Chip.rest, Pool.view, Pool.rest, Svc.view, Svc.rest, Herds.view, Herds.rest, Dct.view, Dct.rest, Dct.held, Fw.view, Fw.rest, Fw.held]

theorem invRecordWrite_frame (s : State) (hoff : Off wt [.hdr .sw, .page .sw 0x5, .page .sw 0x50, .host, .sent]) :
    (invRecordWrite s).view wt = s.view wt := by
  simp at hoff
  unfold invRecordWrite
  dsimp only
  (repeat' split)
  · rfl
  · rw [State_writeInvRecord_frame _ _ _ _ _ _ (by simp [hoff]), invals_view _ _ (by simp [hoff])]
  · rfl

@[simp] theorem State_postEvent_frame (s : State) (p : Nat) (hoff : Off wt [.host, .sent]) :
    (State.postEvent s p).view wt = s.view wt := by
  simp at hoff
  simp [State.postEvent, hoff, Chip.view, Chip.rest, Pool.view, Pool.rest, Svc.view, Svc.rest, Herds.view, Herds.rest, Dct.view, Dct.rest, Dct.held, Fw.view, Fw.rest, Fw.held]

@[simp] theorem State_memDevCmd_frame (s : State) (f : State → State) (hf : ∀  s, (f  s).view wt = s.view wt) :
    (State.memDevCmd s f).view wt = s.view wt := by
  simp [State.memDevCmd, hf, Chip.view, Chip.rest, Pool.view, Pool.rest, Svc.view, Svc.rest, Herds.view, Herds.rest, Dct.view, Dct.rest, Dct.held, Fw.view, Fw.rest, Fw.held]

theorem identifyMemoryDevice_frame (s : State) (hoff : Off wt [.sent]) :
    (identifyMemoryDevice s).view wt = s.view wt := by
  simp at hoff
  simp [identifyMemoryDevice, hoff, Chip.view, Chip.rest, Pool.view, Pool.rest, Svc.view, Svc.rest, Herds.view, Herds.rest, Dct.view, Dct.rest, Dct.held, Fw.view, Fw.rest, Fw.held]

theorem getSupportedLogs_frame (s : State) (hoff : Off wt [.sent]) :
    (getSupportedLogs s).view wt = s.view wt := by
  simp at hoff
  simp [getSupportedLogs, hoff, Chip.view, Chip.rest, Pool.view, Pool.rest, Svc.view, Svc.rest, Herds.view, Herds.rest, Dct.view, Dct.rest, Dct.held, Fw.view, Fw.rest, Fw.held]

theorem getLog_frame (s : State) (hoff : Off wt [.sent]) :
    (getLog s).view wt = s.view wt := by
  simp at hoff
  simp [getLog, hoff, Chip.view, Chip.rest, Pool.view, Pool.rest, Svc.view, Svc.rest, Herds.view, Herds.rest, Dct.view, Dct.rest, Dct.held, Fw.view, Fw.rest, Fw.held]

theorem getEventRecords_frame (s : State) (hoff : Off wt [.sent]) :
    (getEventRecords s).view wt = s.view wt := by
  simp at hoff
  simp [getEventRecords, hoff, Chip.view, Chip.rest, Pool.view, Pool.rest, Svc.view, Svc.rest, Herds.view, Herds.rest, Dct.view, Dct.rest, Dct.held, Fw.view, Fw.rest, Fw.held]

theorem clearEventRecords_frame (all : Bool) (handles : List Nat) (s : State) (hoff : Off wt [.host, .sent]) :
    (clearEventRecords all handles s).view wt = s.view wt := by
  simp at hoff
  simp [clearEventRecords, hoff, Chip.view, Chip.rest, Pool.view, Pool.rest, Svc.view, Svc.rest, Herds.view, Herds.rest, Dct.view, Dct.rest, Dct.held, Fw.view, Fw.rest, Fw.held]

theorem getEventInterruptPolicy_frame (s : State) (hoff : Off wt [.sent]) :
    (getEventInterruptPolicy s).view wt = s.view wt := by
  simp at hoff
  simp [getEventInterruptPolicy, hoff, Chip.view, Chip.rest, Pool.view, Pool.rest, Svc.view, Svc.rest, Herds.view, Herds.rest, Dct.view, Dct.rest, Dct.held, Fw.view, Fw.rest, Fw.held]

theorem setEventInterruptPolicy_frame (v : Nat) (s : State) (hoff : Off wt [.host, .sent]) :
    (setEventInterruptPolicy v s).view wt = s.view wt := by
  simp at hoff
  simp [setEventInterruptPolicy, hoff, Chip.view, Chip.rest, Pool.view, Pool.rest, Svc.view, Svc.rest, Herds.view, Herds.rest, Dct.view, Dct.rest, Dct.held, Fw.view, Fw.rest, Fw.held]

theorem getHealthInfo_frame (s : State) (hoff : Off wt [.sent, .free]) :
    (getHealthInfo s).view wt = s.view wt := by
  simp at hoff
  simp [getHealthInfo, hoff, Chip.view, Chip.rest, Pool.view, Pool.rest, Svc.view, Svc.rest, Herds.view, Herds.rest, Dct.view, Dct.rest, Dct.held, Fw.view, Fw.rest, Fw.held]

theorem getTimestamp_frame (s : State) (hoff : Off wt [.sent]) :
    (getTimestamp s).view wt = s.view wt := by
  simp at hoff
  simp [getTimestamp, hoff, Chip.view, Chip.rest, Pool.view, Pool.rest, Svc.view, Svc.rest, Herds.view, Herds.rest, Dct.view, Dct.rest, Dct.held, Fw.view, Fw.rest, Fw.held]

theorem setTimestamp_frame (v : Nat) (s : State) (hoff : Off wt [.host, .sent]) :
    (setTimestamp v s).view wt = s.view wt := by
  simp at hoff
  simp [setTimestamp, hoff, Chip.view, Chip.rest, Pool.view, Pool.rest, Svc.view, Svc.rest, Herds.view, Herds.rest, Dct.view, Dct.rest, Dct.held, Fw.view, Fw.rest, Fw.held]

theorem memdevUnsupportedCommand_frame (s : State) (hoff : Off wt [.sent]) :
    (memdevUnsupportedCommand s).view wt = s.view wt := by
  simp at hoff
  simp [memdevUnsupportedCommand, hoff, Chip.view, Chip.rest, Pool.view, Pool.rest, Svc.view, Svc.rest, Herds.view, Herds.rest, Dct.view, Dct.rest, Dct.held, Fw.view, Fw.rest, Fw.held]

@[simp] theorem State_tspReq_frame (s : State) (f : State → State) (hf : ∀  s, (f  s).view wt = s.view wt) :
    (State.tspReq s f).view wt = s.view wt := by
  simp [State.tspReq, hf, Chip.view, Chip.rest, Pool.view, Pool.rest, Svc.view, Svc.rest, Herds.view, Herds.rest, Dct.view, Dct.rest, Dct.held, Fw.view, Fw.rest, Fw.held]

theorem tspGetVersion_frame (s : State) (hoff : Off wt [.sent]) :
    (tspGetVersion s).view wt = s.view wt := by
  simp at hoff
  simp [tspGetVersion, hoff, Chip.view, Chip.rest, Pool.view, Pool.rest, Svc.view, Svc.rest, Herds.view, Herds.rest, Dct.view, Dct.rest, Dct.held, Fw.view, Fw.rest, Fw.held]

theorem tspGetCapabilities_frame (s : State) (hoff : Off wt [.sent]) :
    (tspGetCapabilities s).view wt = s.view wt := by
  simp at hoff
  simp [tspGetCapabilities, hoff, Chip.view, Chip.rest, Pool.view, Pool.rest, Svc.view, Svc.rest, Herds.view, Herds.rest, Dct.view, Dct.rest, Dct.held, Fw.view, Fw.rest, Fw.held]

theorem tspSetConfig_frame (v : Nat) (s : State) (hoff : Off wt [.hdr .sw, .page .sw 0xb, .page .sw 0x50, .host, .sent]) :
    (tspSetConfig v s).view wt = s.view wt := by
  simp at hoff
  simp [tspSetConfig, hoff, Chip.view, Chip.rest, Pool.view, Pool.rest, Svc.view, Svc.rest, Herds.view, Herds.rest, Dct.view, Dct.rest, Dct.held, Fw.view, Fw.rest, Fw.held]

theorem tspLockConfig_frame (s : State) (hoff : Off wt [.page .sw 0x50, .sent]) :
    (tspLockConfig s).view wt = s.view wt := by
  simp at hoff
  simp [tspLockConfig, hoff, Chip.view, Chip.rest, Pool.view, Pool.rest, Svc.view, Svc.rest, Herds.view, Herds.rest, Dct.view, Dct.rest, Dct.held, Fw.view, Fw.rest, Fw.held]

theorem tspGetReport_frame (s : State) (hoff : Off wt [.sent]) :
    (tspGetReport s).view wt = s.view wt := by
  simp at hoff
  simp [tspGetReport, hoff, Chip.view, Chip.rest, Pool.view, Pool.rest, Svc.view, Svc.rest, Herds.view, Herds.rest, Dct.view, Dct.rest, Dct.held, Fw.view, Fw.rest, Fw.held]

theorem tspRefusedRequest_frame (s : State) (hoff : Off wt [.sent]) :
    (tspRefusedRequest s).view wt = s.view wt := by
  simp at hoff
  simp [tspRefusedRequest, hoff, Chip.view, Chip.rest, Pool.view, Pool.rest, Svc.view, Svc.rest, Herds.view, Herds.rest, Dct.view, Dct.rest, Dct.held, Fw.view, Fw.rest, Fw.held]

@[simp] theorem State_cxdBringUp_frame (s : State) (n : Nat) (hoff : Off wt [.hdr .sw, .page .sw 0x5, .page .sw 0xb, .page .sw 0x11, .page .sw 0x13, .page .sw 0x14, .page .sw 0x20, .page .sw 0x21, .page .sw 0x30, .page .sw 0x31, .page .sw 0x32, .page .sw 0x40, .page .sw 0x50, .page .sw 0x51, .page .sw 0x300, .log .sw, .ports .sw, .sync .sw, .core, .mem, .pool, .svc, .herds, .hrd, .host, .sent, .free]) :
    (State.cxdBringUp s n).view wt = s.view wt := by
  simp at hoff
  unfold State.cxdBringUp; (try simp only [sw_beq_ep, ep_beq_sw, sw_beq_sw, ep_beq_ep, Bool.false_eq_true, Bool.true_and, Bool.false_and, if_true, if_false]); (repeat' split) <;> (try dsimp only) <;> first | contradiction | simp +decide [State.cxdBringUp, hoff, Chip.view, Chip.rest, Pool.view, Pool.rest, Svc.view, Svc.rest, Herds.view, Herds.rest, Dct.view, Dct.rest, Dct.held, Fw.view, Fw.rest, Fw.held]

theorem cxdDeviceDetect_frame (n kind serial bytes : Nat) (ide : Bool) (width rate : Nat) (s : State) (hoff : Off wt [.hdr .sw, .page .sw 0x5, .page .sw 0xb, .page .sw 0x11, .page .sw 0x13, .page .sw 0x14, .page .sw 0x20, .page .sw 0x21, .page .sw 0x30, .page .sw 0x31, .page .sw 0x32, .page .sw 0x40, .page .sw 0x50, .page .sw 0x51, .page .sw 0x300, .log .sw, .ports .sw, .sync .sw, .core, .mem, .pool, .svc, .herds, .hrd, .host, .sent, .free]) :
    (cxdDeviceDetect n kind serial bytes ide width rate s).view wt = s.view wt := by
  simp at hoff
  simp [cxdDeviceDetect, hoff, Chip.view, Chip.rest, Pool.view, Pool.rest, Svc.view, Svc.rest, Herds.view, Herds.rest, Dct.view, Dct.rest, Dct.held, Fw.view, Fw.rest, Fw.held]

@[simp] theorem State_cxdRestartPort_frame (s : State) (n : Nat) (hoff : Off wt [.hdr .sw, .page .sw 0x5, .page .sw 0xb, .page .sw 0x11, .page .sw 0x13, .page .sw 0x14, .page .sw 0x20, .page .sw 0x21, .page .sw 0x30, .page .sw 0x31, .page .sw 0x32, .page .sw 0x40, .page .sw 0x50, .page .sw 0x51, .page .sw 0x300, .log .sw, .ports .sw, .sync .sw, .core, .mem, .pool, .svc, .herds, .hrd, .host, .sent, .free]) :
    (State.cxdRestartPort s n).view wt = s.view wt := by
  simp at hoff
  simp [State.cxdRestartPort, hoff, Chip.view, Chip.rest, Pool.view, Pool.rest, Svc.view, Svc.rest, Herds.view, Herds.rest, Dct.view, Dct.rest, Dct.held, Fw.view, Fw.rest, Fw.held]

theorem cxdRestart_frame (path : Path) (n : Nat) (s : State) (hoff : Off wt [.hdr .sw, .page .sw 0x5, .page .sw 0xb, .page .sw 0x11, .page .sw 0x13, .page .sw 0x14, .page .sw 0x20, .page .sw 0x21, .page .sw 0x30, .page .sw 0x31, .page .sw 0x32, .page .sw 0x40, .page .sw 0x50, .page .sw 0x51, .page .sw 0x300, .log .sw, .ports .sw, .sync .sw, .core, .mem, .pool, .svc, .herds, .hrd, .host, .sent, .free]) :
    (cxdRestart path n s).view wt = s.view wt := by
  simp at hoff
  simp [cxdRestart, hoff, Chip.view, Chip.rest, Pool.view, Pool.rest, Svc.view, Svc.rest, Herds.view, Herds.rest, Dct.view, Dct.rest, Dct.held, Fw.view, Fw.rest, Fw.held]

@[simp] theorem State_writeRecs_frame (s : State) (rs : List DctRec) (hoff : Off wt [.regs .sw]) :
    (State.writeRecs s rs).view wt = s.view wt := by
  simp at hoff
  unfold State.writeRecs
  refine foldl_view _ _ _ fun s r => ?_
  split <;> simp [hoff]

@[simp] theorem State_showPend_frame (s : State) (hoff : Off wt [.page .sw 0x8]) :
    (State.showPend s).view wt = s.view wt := by
  simp at hoff
  simp [State.showPend, hoff, Chip.view, Chip.rest, Pool.view, Pool.rest, Svc.view, Svc.rest, Herds.view, Herds.rest, Dct.view, Dct.rest, Dct.held, Fw.view, Fw.rest, Fw.held]

@[simp] theorem State_deliver'_frame (s : State) (n : Nat) (removals : List Nat) (hoff : Off wt [.page .sw 0x8, .dct, .sent]) :
    (State.deliver' s n removals).view wt = s.view wt := by
  simp at hoff
  simp [State.deliver', hoff, Chip.view, Chip.rest, Pool.view, Pool.rest, Svc.view, Svc.rest, Herds.view, Herds.rest, Dct.view, Dct.rest, Dct.held, Fw.view, Fw.rest, Fw.held]

@[simp] theorem State_deliverTo_frame (s : State) (node : Nat) (removals : List Nat) (hoff : Off wt [.page .sw 0x8, .dct, .sent]) :
    (State.deliverTo s node removals).view wt = s.view wt := by
  simp at hoff
  unfold State.deliverTo; (try simp only [sw_beq_ep, ep_beq_sw, sw_beq_sw, ep_beq_ep, Bool.false_eq_true, Bool.true_and, Bool.false_and, if_true, if_false]); (repeat' split) <;> (try dsimp only) <;> first | contradiction | simp +decide [State.deliverTo, hoff, Chip.view, Chip.rest, Pool.view, Pool.rest, Svc.view, Svc.rest, Herds.view, Herds.rest, Dct.view, Dct.rest, Dct.held, Fw.view, Fw.rest, Fw.held]

theorem bindingResendTimer_frame (n : Nat) (s : State) (hoff : Off wt [.page .sw 0x8, .dct, .sent]) :
    (bindingResendTimer n s).view wt = s.view wt := by
  simp at hoff
  unfold bindingResendTimer; (try simp only [sw_beq_ep, ep_beq_sw, sw_beq_sw, ep_beq_ep, Bool.false_eq_true, Bool.true_and, Bool.false_and, if_true, if_false]); (repeat' split) <;> (try dsimp only) <;> first | contradiction | simp +decide [bindingResendTimer, hoff, Chip.view, Chip.rest, Pool.view, Pool.rest, Svc.view, Svc.rest, Herds.view, Herds.rest, Dct.view, Dct.rest, Dct.held, Fw.view, Fw.rest, Fw.held]

theorem bindingAckReceive_frame (n : Nat) (s : State) (hoff : Off wt [.page .sw 0x8, .dct]) :
    (bindingAckReceive n s).view wt = s.view wt := by
  simp at hoff
  unfold bindingAckReceive; (try simp only [sw_beq_ep, ep_beq_sw, sw_beq_sw, ep_beq_ep, Bool.false_eq_true, Bool.true_and, Bool.false_and, if_true, if_false]); (repeat' split) <;> (try dsimp only) <;> first | contradiction | simp +decide [bindingAckReceive, hoff, Chip.view, Chip.rest, Pool.view, Pool.rest, Svc.view, Svc.rest, Herds.view, Herds.rest, Dct.view, Dct.rest, Dct.held, Fw.view, Fw.rest, Fw.held]

@[simp] theorem partnerVerified_sw_frame (n : Nat) (ok : Bool) (digest : List Byte) (s : State) (hoff : Off wt [.hdr .sw, .page .sw 0x3, .page .sw 0x5, .page .sw 0x6, .page .sw 0x8, .page .sw 0xb, .page .sw 0x11, .page .sw 0x14, .log .sw, .core, .dct, .sent]) :
    (partnerVerified .sw n ok digest s).view wt = s.view wt := by
  simp at hoff
  unfold partnerVerified
  dsimp only
  split
  · rfl
  · split <;> simp [hoff, partnerIdentityVerified_frame]

@[simp] theorem partnerVerified_ep_frame (n : Nat) (ok : Bool) (digest : List Byte) (s : State) (hoff : Off wt [.page .ep 0x6]) :
    (partnerVerified .ep n ok digest s).view wt = s.view wt := by
  simp at hoff
  simp [partnerVerified, hoff, Chip.view, Chip.rest, Pool.view, Pool.rest, Svc.view, Svc.rest, Herds.view, Herds.rest, Dct.view, Dct.rest, Dct.held, Fw.view, Fw.rest, Fw.held]

@[simp] theorem State_applySet_frame (s : State) (ctxs : List (Nat × Word)) (mask : Word) (hoff : Off wt [.page .ep 0xa, .page .ep 0x10, .page .ep 0x30, .page .ep 0x280, .ports .ep, .rly, .ag, .sent]) :
    (State.applySet s ctxs mask).view wt = s.view wt := by
  simp at hoff
  unfold State.applySet
  extract_lets isCtx s1 s2 s3
  have h1 : s1.view wt = s.view wt := dropRegs_view _ _ _ fun k v hw => by
    cases h : isCtx k
    · rfl
    · rw [regComp_at .ep k CTX_ENTRY (eq_of_beq h) (by decide)] at hw
      simp [hoff] at hw
  have h2 : s2.view wt = s1.view wt := foldl_view _ _ _ fun s e => by
    split <;> simp [hoff]
  have h3 : s3.view wt = s2.view wt := by simp [s3, hoff]
  clear_value s3 s2 s1
  rw [← h1, ← h2, ← h3]
  refine foldl_view _ _ _ fun s w => ?_
  split <;> simp [hoff]

theorem bindingSetReceive_frame (link sid : Nat) (seq : Word) (ctxs : List (Nat × Word)) (mask : Word) (digest : List Byte) (s : State) (hoff : Off wt [.hdr .ep, .page .ep 0x2, .page .ep 0x4, .page .ep 0x6, .page .ep 0x7, .page .ep 0xa, .page .ep 0x10, .page .ep 0x21, .page .ep 0x30, .page .ep 0x31, .page .ep 0x32, .page .ep 0x280, .ports .ep, .sync .ep, .rly, .cmds, .reqs, .ag, .sent]) :
    (bindingSetReceive link sid seq ctxs mask digest s).view wt = s.view wt := by
  simp at hoff
  simp [bindingSetReceive, hoff, Chip.view, Chip.rest, Pool.view, Pool.rest, Svc.view, Svc.rest, Herds.view, Herds.rest, Dct.view, Dct.rest, Dct.held, Fw.view, Fw.rest, Fw.held]

@[simp] theorem State_configChanged_frame (s : State) (hoff : Off wt [.page .sw 0x7, .page .sw 0x8]) :
    (State.configChanged s).view wt = s.view wt := by
  simp at hoff
  simp [State.configChanged, hoff, Chip.view, Chip.rest, Pool.view, Pool.rest, Svc.view, Svc.rest, Herds.view, Herds.rest, Dct.view, Dct.rest, Dct.held, Fw.view, Fw.rest, Fw.held]

theorem imageWriteDone_frame (s : State) (hoff : Off wt [.page .sw 0x8, .bindings]) :
    (imageWriteDone s).view wt = s.view wt := by
  simp at hoff
  simp [imageWriteDone, hoff, Chip.view, Chip.rest, Pool.view, Pool.rest, Svc.view, Svc.rest, Herds.view, Herds.rest, Dct.view, Dct.rest, Dct.held, Fw.view, Fw.rest, Fw.held]

@[simp] theorem State_commitAgents_frame (s old : State) (rs : List DctRec) (hoff : Off wt [.page .sw 0x31, .pool]) :
    (State.commitAgents s old rs).view wt = s.view wt := by
  simp at hoff
  simp [State.commitAgents, hoff, Chip.view, Chip.rest, Pool.view, Pool.rest, Svc.view, Svc.rest, Herds.view, Herds.rest, Dct.view, Dct.rest, Dct.held, Fw.view, Fw.rest, Fw.held]

@[simp] theorem State_assignMaps_frame (s : State) (p : Nat) (hoff : Off wt [.page .sw 0x30]) :
    (State.assignMaps s p).view wt = s.view wt := by
  simp at hoff
  simp [State.assignMaps, hoff, Chip.view, Chip.rest, Pool.view, Pool.rest, Svc.view, Svc.rest, Herds.view, Herds.rest, Dct.view, Dct.rest, Dct.held, Fw.view, Fw.rest, Fw.held]

@[simp] theorem State_hostSideChanged_frame (s old : State) (scope : Nat) (rs : List DctRec) (hoff : Off wt [.page .sw 0x50, .host, .sent]) :
    (State.hostSideChanged s old scope rs).view wt = s.view wt := by
  simp at hoff
  simp [State.hostSideChanged, hoff, Chip.view, Chip.rest, Pool.view, Pool.rest, Svc.view, Svc.rest, Herds.view, Herds.rest, Dct.view, Dct.rest, Dct.held, Fw.view, Fw.rest, Fw.held]

@[simp] theorem State_zeroBlk_frame (s : State) (p : Nat) (hoff : Off wt [.page .sw 0x32]) :
    (State.zeroBlk s p).view wt = s.view wt := by
  simp at hoff
  simp [State.zeroBlk, hoff, Chip.view, Chip.rest, Pool.view, Pool.rest, Svc.view, Svc.rest, Herds.view, Herds.rest, Dct.view, Dct.rest, Dct.held, Fw.view, Fw.rest, Fw.held]

@[simp] theorem State_commitPartition_frame (s old : State) (p : Nat) (hoff : Off wt [.hdr .sw, .page .sw 0x5, .page .sw 0xb, .page .sw 0x11, .page .sw 0x14, .page .sw 0x20, .page .sw 0x21, .page .sw 0x30, .page .sw 0x32, .log .sw, .ports .sw, .sync .sw, .core, .pool, .svc, .herds, .hrd, .host, .sent]) :
    (State.commitPartition s old p).view wt = s.view wt := by
  simp at hoff
  simp [State.commitPartition, hoff, Chip.view, Chip.rest, Pool.view, Pool.rest, Svc.view, Svc.rest, Herds.view, Herds.rest, Dct.view, Dct.rest, Dct.held, Fw.view, Fw.rest, Fw.held]

@[simp] theorem State_commitRoster_frame (s : State) (hoff : Off wt [.page .sw 0x3, .page .sw 0x11, .page .sw 0x14, .core]) :
    (State.commitRoster s).view wt = s.view wt := by
  simp at hoff
  simp [State.commitRoster, hoff, Chip.view, Chip.rest, Pool.view, Pool.rest, Svc.view, Svc.rest, Herds.view, Herds.rest, Dct.view, Dct.rest, Dct.held, Fw.view, Fw.rest, Fw.held]

@[simp] theorem State_endChange_frame (s : State) (status detail rec : Nat) (hoff : Off wt [.page .sw 0x8, .dct]) :
    (State.endChange s status detail rec).view wt = s.view wt := by
  simp at hoff
  simp [State.endChange, hoff, Chip.view, Chip.rest, Pool.view, Pool.rest, Svc.view, Svc.rest, Herds.view, Herds.rest, Dct.view, Dct.rest, Dct.held, Fw.view, Fw.rest, Fw.held]

@[simp] theorem State_applyChange_frame (s : State) (scope : Nat) (rs : List DctRec) (hoff : Off wt [.regs .sw, .log .sw, .ports .sw, .sync .sw, .core, .mem, .pool, .svc, .herds, .hrd, .host, .bindings, .dct, .sent, .free]) :
    (State.applyChange s scope rs).view wt = s.view wt := by
  simp at hoff
  simp [State.applyChange, hoff, Chip.view, Chip.rest, Pool.view, Pool.rest, Svc.view, Svc.rest, Herds.view, Herds.rest, Dct.view, Dct.rest, Dct.held, Fw.view, Fw.rest, Fw.held]

@[simp] theorem State_commitChange_frame (s : State) (hoff : Off wt [.regs .sw, .log .sw, .ports .sw, .sync .sw, .core, .mem, .pool, .svc, .herds, .hrd, .host, .bindings, .dct, .sent, .free]) :
    (State.commitChange s).view wt = s.view wt := by
  simp at hoff
  unfold State.commitChange; (try simp only [sw_beq_ep, ep_beq_sw, sw_beq_sw, ep_beq_ep, Bool.false_eq_true, Bool.true_and, Bool.false_and, if_true, if_false]); (repeat' split) <;> (try dsimp only) <;> first | contradiction | simp +decide [State.commitChange, hoff, Chip.view, Chip.rest, Pool.view, Pool.rest, Svc.view, Svc.rest, Herds.view, Herds.rest, Dct.view, Dct.rest, Dct.held, Fw.view, Fw.rest, Fw.held]

@[simp] theorem State_tryCommit_frame (s : State) (hoff : Off wt [.regs .sw, .log .sw, .ports .sw, .sync .sw, .core, .mem, .pool, .svc, .herds, .hrd, .host, .bindings, .dct, .sent, .free]) :
    (State.tryCommit s).view wt = s.view wt := by
  simp at hoff
  simp [State.tryCommit, hoff, Chip.view, Chip.rest, Pool.view, Pool.rest, Svc.view, Svc.rest, Herds.view, Herds.rest, Dct.view, Dct.rest, Dct.held, Fw.view, Fw.rest, Fw.held]

@[simp] theorem dctWindowExpiry_frame (s : State) (hoff : Off wt [.page .sw 0x8, .dct]) :
    (dctWindowExpiry s).view wt = s.view wt := by
  simp at hoff
  simp [dctWindowExpiry, hoff, Chip.view, Chip.rest, Pool.view, Pool.rest, Svc.view, Svc.rest, Herds.view, Herds.rest, Dct.view, Dct.rest, Dct.held, Fw.view, Fw.rest, Fw.held]

theorem sigVerifyDone_frame (s : State) (hoff : Off wt [.regs .sw, .log .sw, .ports .sw, .sync .sw, .core, .mem, .pool, .svc, .herds, .hrd, .host, .bindings, .dct, .sent, .free]) :
    (sigVerifyDone s).view wt = s.view wt := by
  simp at hoff
  unfold sigVerifyDone
  dsimp only
  (repeat' split) <;> first
  | rfl
  | simp [hoff, dctWindowExpiry_frame, Dct.view, Dct.rest, Dct.held]

@[simp] theorem State_dctBeginW_frame (s : State) (path : Path) (scope : Nat) (hoff : Off wt [.hdr .sw, .page .sw 0x8, .page .sw 0xb, .dct]) :
    (State.dctBeginW s path scope).1.view wt = s.view wt := by
  simp at hoff
  simp [State.dctBeginW, hoff, Chip.view, Chip.rest, Pool.view, Pool.rest, Svc.view, Svc.rest, Herds.view, Herds.rest, Dct.view, Dct.rest, Dct.held, Fw.view, Fw.rest, Fw.held]

theorem dctBegin_frame (path : Path) (scope : Nat) (s : State) (hoff : Off wt [.hdr .sw, .page .sw 0x8, .page .sw 0xb, .dct, .sent]) :
    (dctBegin path scope s).view wt = s.view wt := by
  simp at hoff
  simp [dctBegin, hoff, Chip.view, Chip.rest, Pool.view, Pool.rest, Svc.view, Svc.rest, Herds.view, Herds.rest, Dct.view, Dct.rest, Dct.held, Fw.view, Fw.rest, Fw.held]

@[simp] theorem State_dctW0_frame (s : State) (path : Path) (x : Word) (hoff : Off wt [.hdr .sw, .page .sw 0x8, .page .sw 0xb]) :
    (State.dctW0 s path x).1.view wt = s.view wt := by
  simp at hoff
  simp [State.dctW0, hoff, Chip.view, Chip.rest, Pool.view, Pool.rest, Svc.view, Svc.rest, Herds.view, Herds.rest, Dct.view, Dct.rest, Dct.held, Fw.view, Fw.rest, Fw.held]

@[simp] theorem State_dctW1_frame (s : State) (path : Path) (x : Word) (hoff : Off wt [.hdr .sw, .page .sw 0x8, .page .sw 0xb, .dct]) :
    (State.dctW1 s path x).1.view wt = s.view wt := by
  simp at hoff
  simp [State.dctW1, hoff, Chip.view, Chip.rest, Pool.view, Pool.rest, Svc.view, Svc.rest, Herds.view, Herds.rest, Dct.view, Dct.rest, Dct.held, Fw.view, Fw.rest, Fw.held]

theorem dctRecWrite_frame (path : Path) (x : Word) (s : State) (hoff : Off wt [.hdr .sw, .page .sw 0x8, .page .sw 0xb, .dct, .sent]) :
    (dctRecWrite path x s).view wt = s.view wt := by
  simp at hoff
  simp [dctRecWrite, hoff, Chip.view, Chip.rest, Pool.view, Pool.rest, Svc.view, Svc.rest, Herds.view, Herds.rest, Dct.view, Dct.rest, Dct.held, Fw.view, Fw.rest, Fw.held]

@[simp] theorem State_dctSealW_frame (s : State) (path : Path) (hoff : Off wt [.regs .sw, .log .sw, .ports .sw, .sync .sw, .core, .mem, .pool, .svc, .herds, .hrd, .host, .bindings, .dct, .sent, .free]) :
    (State.dctSealW s path).1.view wt = s.view wt := by
  simp at hoff
  simp [State.dctSealW, hoff, Chip.view, Chip.rest, Pool.view, Pool.rest, Svc.view, Svc.rest, Herds.view, Herds.rest, Dct.view, Dct.rest, Dct.held, Fw.view, Fw.rest, Fw.held]

theorem dctSeal_frame (path : Path) (s : State) (hoff : Off wt [.regs .sw, .log .sw, .ports .sw, .sync .sw, .core, .mem, .pool, .svc, .herds, .hrd, .host, .bindings, .dct, .sent, .free]) :
    (dctSeal path s).view wt = s.view wt := by
  simp at hoff
  simp [dctSeal, hoff, Chip.view, Chip.rest, Pool.view, Pool.rest, Svc.view, Svc.rest, Herds.view, Herds.rest, Dct.view, Dct.rest, Dct.held, Fw.view, Fw.rest, Fw.held]

@[simp] theorem State_dctCancelW_frame (s : State) (hoff : Off wt [.hdr .sw, .page .sw 0x8, .page .sw 0xb, .dct]) :
    (State.dctCancelW s).1.view wt = s.view wt := by
  simp at hoff
  simp [State.dctCancelW, hoff, Chip.view, Chip.rest, Pool.view, Pool.rest, Svc.view, Svc.rest, Herds.view, Herds.rest, Dct.view, Dct.rest, Dct.held, Fw.view, Fw.rest, Fw.held]

theorem dctCancel_frame (path : Path) (s : State) (hoff : Off wt [.hdr .sw, .page .sw 0x8, .page .sw 0xb, .dct, .sent]) :
    (dctCancel path s).view wt = s.view wt := by
  simp at hoff
  simp [dctCancel, hoff, Chip.view, Chip.rest, Pool.view, Pool.rest, Svc.view, Svc.rest, Herds.view, Herds.rest, Dct.view, Dct.rest, Dct.held, Fw.view, Fw.rest, Fw.held]

@[simp] theorem State_onBuf_frame (s : State) (path : Path) (f : List Byte → List Byte) (hoff : Off wt [.dct]) :
    (State.onBuf s path f).view wt = s.view wt := by
  simp at hoff
  unfold State.onBuf; (try simp only [sw_beq_ep, ep_beq_sw, sw_beq_sw, ep_beq_ep, Bool.false_eq_true, Bool.true_and, Bool.false_and, if_true, if_false]); (repeat' split) <;> (try dsimp only) <;> first | contradiction | simp +decide [State.onBuf, hoff, Chip.view, Chip.rest, Pool.view, Pool.rest, Svc.view, Svc.rest, Herds.view, Herds.rest, Dct.view, Dct.rest, Dct.held, Fw.view, Fw.rest, Fw.held]

@[simp] theorem State_sigStartW_frame (s : State) (path : Path) (role : Nat) (hoff : Off wt [.hdr .sw, .page .sw 0x8, .page .sw 0xb, .dct]) :
    (State.sigStartW s path role).1.view wt = s.view wt := by
  simp at hoff
  simp [State.sigStartW, hoff, Chip.view, Chip.rest, Pool.view, Pool.rest, Svc.view, Svc.rest, Herds.view, Herds.rest, Dct.view, Dct.rest, Dct.held, Fw.view, Fw.rest, Fw.held]

theorem sigStart_frame (path : Path) (role : Nat) (s : State) (hoff : Off wt [.hdr .sw, .page .sw 0x8, .page .sw 0xb, .dct, .sent]) :
    (sigStart path role s).view wt = s.view wt := by
  simp at hoff
  simp [sigStart, hoff, Chip.view, Chip.rest, Pool.view, Pool.rest, Svc.view, Svc.rest, Herds.view, Herds.rest, Dct.view, Dct.rest, Dct.held, Fw.view, Fw.rest, Fw.held]

@[simp] theorem State_sigDataW_frame (s : State) (path : Path) (x : Word) (hoff : Off wt [.hdr .sw, .page .sw 0xb, .dct]) :
    (State.sigDataW s path x).1.view wt = s.view wt := by
  simp at hoff
  simp [State.sigDataW, hoff, Chip.view, Chip.rest, Pool.view, Pool.rest, Svc.view, Svc.rest, Herds.view, Herds.rest, Dct.view, Dct.rest, Dct.held, Fw.view, Fw.rest, Fw.held]

theorem sigDataWrite_frame (path : Path) (x : Word) (s : State) (hoff : Off wt [.hdr .sw, .page .sw 0xb, .dct, .sent]) :
    (sigDataWrite path x s).view wt = s.view wt := by
  simp at hoff
  simp [sigDataWrite, hoff, Chip.view, Chip.rest, Pool.view, Pool.rest, Svc.view, Svc.rest, Herds.view, Herds.rest, Dct.view, Dct.rest, Dct.held, Fw.view, Fw.rest, Fw.held]

@[simp] theorem State_sigSubmitW_frame (s : State) (path : Path) (role : Nat) (hoff : Off wt [.hdr .sw, .page .sw 0x8, .page .sw 0xb, .dct]) :
    (State.sigSubmitW s path role).1.view wt = s.view wt := by
  simp at hoff
  simp [State.sigSubmitW, hoff, Chip.view, Chip.rest, Pool.view, Pool.rest, Svc.view, Svc.rest, Herds.view, Herds.rest, Dct.view, Dct.rest, Dct.held, Fw.view, Fw.rest, Fw.held]

theorem sigSubmit_frame (path : Path) (role : Nat) (s : State) (hoff : Off wt [.hdr .sw, .page .sw 0x8, .page .sw 0xb, .dct, .sent]) :
    (sigSubmit path role s).view wt = s.view wt := by
  simp at hoff
  simp [sigSubmit, hoff, Chip.view, Chip.rest, Pool.view, Pool.rest, Svc.view, Svc.rest, Herds.view, Herds.rest, Dct.view, Dct.rest, Dct.held, Fw.view, Fw.rest, Fw.held]

@[simp] theorem State_writeStageCtl_frame (s : State) (path : Path) (x : Word) (hoff : Off wt [.regs .sw, .log .sw, .ports .sw, .sync .sw, .core, .mem, .pool, .svc, .herds, .hrd, .host, .bindings, .dct, .sent, .free]) :
    (State.writeStageCtl s path x).1.view wt = s.view wt := by
  simp at hoff
  simp [State.writeStageCtl, hoff, Chip.view, Chip.rest, Pool.view, Pool.rest, Svc.view, Svc.rest, Herds.view, Herds.rest, Dct.view, Dct.rest, Dct.held, Fw.view, Fw.rest, Fw.held]

@[simp] theorem State_writeSigCtl_frame (s : State) (path : Path) (x : Word) (hoff : Off wt [.hdr .sw, .page .sw 0x8, .page .sw 0xb, .dct]) :
    (State.writeSigCtl s path x).1.view wt = s.view wt := by
  simp at hoff
  simp [State.writeSigCtl, hoff, Chip.view, Chip.rest, Pool.view, Pool.rest, Svc.view, Svc.rest, Herds.view, Herds.rest, Dct.view, Dct.rest, Dct.held, Fw.view, Fw.rest, Fw.held]

@[simp] theorem State_endHerd_frame (s : State) (i : Nat) (hoff : Off wt [.page .sw 0x20, .page .sw 0x21, .svc, .herds, .hrd]) :
    (State.endHerd s i).view wt = s.view wt := by
  simp at hoff
  simp [State.endHerd, hoff, Chip.view, Chip.rest, Pool.view, Pool.rest, Svc.view, Svc.rest, Herds.view, Herds.rest, Dct.view, Dct.rest, Dct.held, Fw.view, Fw.rest, Fw.held]

@[simp] theorem State_clearBindings_frame (s : State) (p : Nat) (hoff : Off wt [.page .sw 0x7, .page .sw 0x9, .page .sw 0xa, .page .sw 0x20, .page .sw 0x21, .page .sw 0x30, .progs, .svc, .herds, .hrd]) :
    (State.clearBindings s p).view wt = s.view wt := by
  simp at hoff
  unfold State.clearBindings
  extract_lets mine bound progs s1 s2 here gone s3 s4 s5
  have h1 : s1.view wt = s.view wt := foldl_view _ _ _ fun s e => by simp [hoff]
  have h2 : s2.view wt = s1.view wt := State_onSvc_frame _ _ fun v => by simp [hoff, Svc.view, Svc.rest]
  have h3 : s3.view wt = s2.view wt := dropRegs_view _ _ _ fun k v hw => by
    have e1 : here PTN_ENTRY k = false := offPlace .sw k _ hw (by decide) (by simp [hoff])
    have e2 : ((upTo 8).any fun i => here (PTN_TKEY.word i) k) = false := by
      refine List.any_eq_false.2 fun i hi => ?_
      rw [Bool.not_eq_true]
      exact offPlace .sw k _ hw (by simp only [upTo, List.mem_range] at hi; simp only [Reg.word, PTN_TKEY]; omega) (by simp [hoff])
    have e3 : here POL_MAP_ENTRY k = false := offPlace .sw k _ hw (by decide) (by simp [hoff])
    have e4 : here CTX_ENTRY k = false := offPlace .sw k _ hw (by decide) (by simp [hoff])
    simp only [gone, e1, e2, e3, e4, Bool.false_and, Bool.or_false, Bool.not_false]
  have h4 : s4.view wt = s3.view wt := mapRegs_view _ _ _ fun k v hw => by
    have e1 : here PTN_ROS_MASK k = false := offPlace .sw k _ hw (by decide) (by simp [hoff])
    rw [e1]; rfl
  clear_value s4 s3 s2 s1
  rw [← h1, ← h2, ← h3, ← h4]
  simp [s5, hoff]

@[simp] theorem State_clearSets_frame (s : State) (p : Nat) (hoff : Off wt [.page .sw 0x8, .bindings, .dct, .sent]) :
    (State.clearSets s p).view wt = s.view wt := by
  simp at hoff
  simp [State.clearSets, hoff, Chip.view, Chip.rest, Pool.view, Pool.rest, Svc.view, Svc.rest, Herds.view, Herds.rest, Dct.view, Dct.rest, Dct.held, Fw.view, Fw.rest, Fw.held]

theorem drainEnd_frame (p : Nat) (s : State) (hoff : Off wt [.hdr .sw, .page .sw 0x5, .page .sw 0x7, .page .sw 0x8, .page .sw 0x9, .page .sw 0xa, .page .sw 0xb, .page .sw 0x11, .page .sw 0x13, .page .sw 0x14, .page .sw 0x20, .page .sw 0x21, .page .sw 0x30, .page .sw 0x31, .page .sw 0x32, .page .sw 0x40, .page .sw 0x50, .page .sw 0x300, .log .sw, .ports .sw, .sync .sw, .core, .mem, .pool, .progs, .svc, .herds, .hrd, .host, .bindings, .dct, .sent, .free]) :
    (drainEnd p s).view wt = s.view wt := by
  simp at hoff
  unfold drainEnd; (try simp only [sw_beq_ep, ep_beq_sw, sw_beq_sw, ep_beq_ep, Bool.false_eq_true, Bool.true_and, Bool.false_and, if_true, if_false]); (repeat' split) <;> (try dsimp only) <;> first | contradiction | simp +decide [drainEnd, hoff, Chip.view, Chip.rest, Pool.view, Pool.rest, Svc.view, Svc.rest, Herds.view, Herds.rest, Dct.view, Dct.rest, Dct.held, Fw.view, Fw.rest, Fw.held]

@[simp] theorem State_putDigest_sw_frame (s : State) (r : Reg) (d : List Byte) (hreg : ∀ k, Off wt [(r.word k).comp .sw]) :
    (State.putDigest s .sw r d).view wt = s.view wt := by
  simp only [off_cons, off_nil, and_true] at hreg
  simp [State.putDigest, hreg, Chip.view, Chip.rest, Pool.view, Pool.rest, Svc.view, Svc.rest, Herds.view, Herds.rest, Dct.view, Dct.rest, Dct.held, Fw.view, Fw.rest, Fw.held]

@[simp] theorem State_putDigest_ep_frame (s : State) (r : Reg) (d : List Byte) (hreg : ∀ k, Off wt [(r.word k).comp .ep]) :
    (State.putDigest s .ep r d).view wt = s.view wt := by
  simp only [off_cons, off_nil, and_true] at hreg
  simp [State.putDigest, hreg, Chip.view, Chip.rest, Pool.view, Pool.rest, Svc.view, Svc.rest, Herds.view, Herds.rest, Dct.view, Dct.rest, Dct.held, Fw.view, Fw.rest, Fw.held]

@[simp] theorem State_deriveDevice_sw_frame (s : State) (hoff : Off wt [.page .sw 0x6, .chip .sw]) :
    (State.deriveDevice s .sw).view wt = s.view wt := by
  simp at hoff
  unfold State.deriveDevice; (try simp only [sw_beq_ep, ep_beq_sw, sw_beq_sw, ep_beq_ep, Bool.false_eq_true, Bool.true_and, Bool.false_and, if_true, if_false]); (repeat' split) <;> (try dsimp only) <;> first | contradiction | simp +decide [State.deriveDevice, hoff, Chip.view, Chip.rest, Pool.view, Pool.rest, Svc.view, Svc.rest, Herds.view, Herds.rest, Dct.view, Dct.rest, Dct.held, Fw.view, Fw.rest, Fw.held]

@[simp] theorem State_deriveDevice_ep_frame (s : State) (hoff : Off wt [.page .ep 0x6, .chip .ep]) :
    (State.deriveDevice s .ep).view wt = s.view wt := by
  simp at hoff
  unfold State.deriveDevice; (try simp only [sw_beq_ep, ep_beq_sw, sw_beq_sw, ep_beq_ep, Bool.false_eq_true, Bool.true_and, Bool.false_and, if_true, if_false]); (repeat' split) <;> (try dsimp only) <;> first | contradiction | simp +decide [State.deriveDevice, hoff, Chip.view, Chip.rest, Pool.view, Pool.rest, Svc.view, Svc.rest, Herds.view, Herds.rest, Dct.view, Dct.rest, Dct.held, Fw.view, Fw.rest, Fw.held]

@[simp] theorem State_deriveIdentity_sw_frame (s : State) (hoff : Off wt [.page .sw 0x6, .chip .sw]) :
    (State.deriveIdentity s .sw).view wt = s.view wt := by
  simp at hoff
  unfold State.deriveIdentity; (try simp only [sw_beq_ep, ep_beq_sw, sw_beq_sw, ep_beq_ep, Bool.false_eq_true, Bool.true_and, Bool.false_and, if_true, if_false]); (repeat' split) <;> (try dsimp only) <;> first | contradiction | simp +decide [State.deriveIdentity, hoff, Chip.view, Chip.rest, Pool.view, Pool.rest, Svc.view, Svc.rest, Herds.view, Herds.rest, Dct.view, Dct.rest, Dct.held, Fw.view, Fw.rest, Fw.held]

@[simp] theorem State_deriveIdentity_ep_frame (s : State) (hoff : Off wt [.page .ep 0x6, .chip .ep]) :
    (State.deriveIdentity s .ep).view wt = s.view wt := by
  simp at hoff
  unfold State.deriveIdentity; (try simp only [sw_beq_ep, ep_beq_sw, sw_beq_sw, ep_beq_ep, Bool.false_eq_true, Bool.true_and, Bool.false_and, if_true, if_false]); (repeat' split) <;> (try dsimp only) <;> first | contradiction | simp +decide [State.deriveIdentity, hoff, Chip.view, Chip.rest, Pool.view, Pool.rest, Svc.view, Svc.rest, Herds.view, Herds.rest, Dct.view, Dct.rest, Dct.held, Fw.view, Fw.rest, Fw.held]

@[simp] theorem State_spdmTo_sw_frame (s : State) (who level session : Nat) (hoff : Off wt [.chip .sw]) :
    (State.spdmTo s .sw who level session).view wt = s.view wt := by
  simp at hoff
  simp [State.spdmTo, hoff, Chip.view, Chip.rest, Pool.view, Pool.rest, Svc.view, Svc.rest, Herds.view, Herds.rest, Dct.view, Dct.rest, Dct.held, Fw.view, Fw.rest, Fw.held]

@[simp] theorem State_spdmTo_ep_frame (s : State) (who level session : Nat) (hoff : Off wt [.chip .ep]) :
    (State.spdmTo s .ep who level session).view wt = s.view wt := by
  simp at hoff
  simp [State.spdmTo, hoff, Chip.view, Chip.rest, Pool.view, Pool.rest, Svc.view, Svc.rest, Herds.view, Herds.rest, Dct.view, Dct.rest, Dct.held, Fw.view, Fw.rest, Fw.held]

@[simp] theorem State_sbMessage_frame (s : State) (hoff : Off wt [.page .sw 0x5]) :
    (State.sbMessage s).view wt = s.view wt := by
  simp at hoff
  simp [State.sbMessage, hoff, Chip.view, Chip.rest, Pool.view, Pool.rest, Svc.view, Svc.rest, Herds.view, Herds.rest, Dct.view, Dct.rest, Dct.held, Fw.view, Fw.rest, Fw.held]

@[simp] theorem State_spdmAnswer_sw_frame (s : State) (who req level : Nat) (session : Option Nat) (key : Bool) (body : State → State × Nat × List Byte) (hoff : Off wt [.page .sw 0x5, .sent]) (hbody : ∀  s, (body  s).1.view wt = s.view wt) :
    (State.spdmAnswer s .sw who req level session key body).view wt = s.view wt := by
  simp at hoff
  simp [State.spdmAnswer, hoff, hbody, Chip.view, Chip.rest, Pool.view, Pool.rest, Svc.view, Svc.rest, Herds.view, Herds.rest, Dct.view, Dct.rest, Dct.held, Fw.view, Fw.rest, Fw.held]

@[simp] theorem State_spdmAnswer_ep_frame (s : State) (who req level : Nat) (session : Option Nat) (key : Bool) (body : State → State × Nat × List Byte) (hoff : Off wt [.sent]) (hbody : ∀  s, (body  s).1.view wt = s.view wt) :
    (State.spdmAnswer s .ep who req level session key body).view wt = s.view wt := by
  simp at hoff
  unfold State.spdmAnswer
  simp only [ep_beq_sw, Bool.false_and, State.when, Bool.false_eq_true, if_false]
  (repeat' split) <;> simp [hoff, hbody]

theorem spdmGetVersion_sw_frame (who : Nat) (s : State) (hoff : Off wt [.page .sw 0x5, .chip .sw, .sent]) :
    (spdmGetVersion .sw who s).view wt = s.view wt := by
  simp at hoff
  simp [spdmGetVersion, hoff, Chip.view, Chip.rest, Pool.view, Pool.rest, Svc.view, Svc.rest, Herds.view, Herds.rest, Dct.view, Dct.rest, Dct.held, Fw.view, Fw.rest, Fw.held]

theorem spdmGetVersion_ep_frame (who : Nat) (s : State) (hoff : Off wt [.chip .ep, .sent]) :
    (spdmGetVersion .ep who s).view wt = s.view wt := by
  simp at hoff
  simp [spdmGetVersion, hoff, Chip.view, Chip.rest, Pool.view, Pool.rest, Svc.view, Svc.rest, Herds.view, Herds.rest, Dct.view, Dct.rest, Dct.held, Fw.view, Fw.rest, Fw.held]

theorem spdmGetCapabilities_sw_frame (who : Nat) (s : State) (hoff : Off wt [.page .sw 0x5, .chip .sw, .sent]) :
    (spdmGetCapabilities .sw who s).view wt = s.view wt := by
  simp at hoff
  simp [spdmGetCapabilities, hoff, Chip.view, Chip.rest, Pool.view, Pool.rest, Svc.view, Svc.rest, Herds.view, Herds.rest, Dct.view, Dct.rest, Dct.held, Fw.view, Fw.rest, Fw.held]

theorem spdmGetCapabilities_ep_frame (who : Nat) (s : State) (hoff : Off wt [.chip .ep, .sent]) :
    (spdmGetCapabilities .ep who s).view wt = s.view wt := by
  simp at hoff
  simp [spdmGetCapabilities, hoff, Chip.view, Chip.rest, Pool.view, Pool.rest, Svc.view, Svc.rest, Herds.view, Herds.rest, Dct.view, Dct.rest, Dct.held, Fw.view, Fw.rest, Fw.held]

theorem spdmNegotiateAlgorithms_sw_frame (who : Nat) (s : State) (hoff : Off wt [.page .sw 0x5, .chip .sw, .sent]) :
    (spdmNegotiateAlgorithms .sw who s).view wt = s.view wt := by
  simp at hoff
  simp [spdmNegotiateAlgorithms, hoff, Chip.view, Chip.rest, Pool.view, Pool.rest, Svc.view, Svc.rest, Herds.view, Herds.rest, Dct.view, Dct.rest, Dct.held, Fw.view, Fw.rest, Fw.held]

theorem spdmNegotiateAlgorithms_ep_frame (who : Nat) (s : State) (hoff : Off wt [.chip .ep, .sent]) :
    (spdmNegotiateAlgorithms .ep who s).view wt = s.view wt := by
  simp at hoff
  simp [spdmNegotiateAlgorithms, hoff, Chip.view, Chip.rest, Pool.view, Pool.rest, Svc.view, Svc.rest, Herds.view, Herds.rest, Dct.view, Dct.rest, Dct.held, Fw.view, Fw.rest, Fw.held]

theorem spdmGetDigests_sw_frame (who : Nat) (s : State) (hoff : Off wt [.page .sw 0x5, .sent]) :
    (spdmGetDigests .sw who s).view wt = s.view wt := by
  simp at hoff
  simp [spdmGetDigests, hoff, Chip.view, Chip.rest, Pool.view, Pool.rest, Svc.view, Svc.rest, Herds.view, Herds.rest, Dct.view, Dct.rest, Dct.held, Fw.view, Fw.rest, Fw.held]

theorem spdmGetDigests_ep_frame (who : Nat) (s : State) (hoff : Off wt [.sent]) :
    (spdmGetDigests .ep who s).view wt = s.view wt := by
  simp at hoff
  simp [spdmGetDigests, hoff, Chip.view, Chip.rest, Pool.view, Pool.rest, Svc.view, Svc.rest, Herds.view, Herds.rest, Dct.view, Dct.rest, Dct.held, Fw.view, Fw.rest, Fw.held]

theorem spdmGetCertificate_sw_frame (who slot offset length : Nat) (s : State) (hoff : Off wt [.page .sw 0x5, .sent]) :
    (spdmGetCertificate .sw who slot offset length s).view wt = s.view wt := by
  simp at hoff
  simp [spdmGetCertificate, hoff, Chip.view, Chip.rest, Pool.view, Pool.rest, Svc.view, Svc.rest, Herds.view, Herds.rest, Dct.view, Dct.rest, Dct.held, Fw.view, Fw.rest, Fw.held]

theorem spdmGetCertificate_ep_frame (who slot offset length : Nat) (s : State) (hoff : Off wt [.sent]) :
    (spdmGetCertificate .ep who slot offset length s).view wt = s.view wt := by
  simp at hoff
  simp [spdmGetCertificate, hoff, Chip.view, Chip.rest, Pool.view, Pool.rest, Svc.view, Svc.rest, Herds.view, Herds.rest, Dct.view, Dct.rest, Dct.held, Fw.view, Fw.rest, Fw.held]

theorem spdmChallenge_sw_frame (who slot : Nat) (nonce : List Byte) (s : State) (hoff : Off wt [.page .sw 0x5, .sent]) :
    (spdmChallenge .sw who slot nonce s).view wt = s.view wt := by
  simp at hoff
  simp [spdmChallenge, hoff, Chip.view, Chip.rest, Pool.view, Pool.rest, Svc.view, Svc.rest, Herds.view, Herds.rest, Dct.view, Dct.rest, Dct.held, Fw.view, Fw.rest, Fw.held]

theorem spdmChallenge_ep_frame (who slot : Nat) (nonce : List Byte) (s : State) (hoff : Off wt [.sent]) :
    (spdmChallenge .ep who slot nonce s).view wt = s.view wt := by
  simp at hoff
  simp [spdmChallenge, hoff, Chip.view, Chip.rest, Pool.view, Pool.rest, Svc.view, Svc.rest, Herds.view, Herds.rest, Dct.view, Dct.rest, Dct.held, Fw.view, Fw.rest, Fw.held]

theorem spdmGetMeasurements_sw_frame (who index : Nat) (raw : Bool) (nonce : List Byte) (s : State) (hoff : Off wt [.page .sw 0x5, .sent]) :
    (spdmGetMeasurements .sw who index raw nonce s).view wt = s.view wt := by
  simp at hoff
  simp [spdmGetMeasurements, hoff, Chip.view, Chip.rest, Pool.view, Pool.rest, Svc.view, Svc.rest, Herds.view, Herds.rest, Dct.view, Dct.rest, Dct.held, Fw.view, Fw.rest, Fw.held]

theorem spdmGetMeasurements_ep_frame (who index : Nat) (raw : Bool) (nonce : List Byte) (s : State) (hoff : Off wt [.sent]) :
    (spdmGetMeasurements .ep who index raw nonce s).view wt = s.view wt := by
  simp at hoff
  simp [spdmGetMeasurements, hoff, Chip.view, Chip.rest, Pool.view, Pool.rest, Svc.view, Svc.rest, Herds.view, Herds.rest, Dct.view, Dct.rest, Dct.held, Fw.view, Fw.rest, Fw.held]

theorem spdmKeyExchange_sw_frame (who : Nat) (exchange : List Byte) (s : State) (hoff : Off wt [.page .sw 0x5, .chip .sw, .sent, .free]) :
    (spdmKeyExchange .sw who exchange s).view wt = s.view wt := by
  simp at hoff
  simp [spdmKeyExchange, hoff, Chip.view, Chip.rest, Pool.view, Pool.rest, Svc.view, Svc.rest, Herds.view, Herds.rest, Dct.view, Dct.rest, Dct.held, Fw.view, Fw.rest, Fw.held]

theorem spdmKeyExchange_ep_frame (who : Nat) (exchange : List Byte) (s : State) (hoff : Off wt [.chip .ep, .sent, .free]) :
    (spdmKeyExchange .ep who exchange s).view wt = s.view wt := by
  simp at hoff
  simp [spdmKeyExchange, hoff, Chip.view, Chip.rest, Pool.view, Pool.rest, Svc.view, Svc.rest, Herds.view, Herds.rest, Dct.view, Dct.rest, Dct.held, Fw.view, Fw.rest, Fw.held]

theorem spdmFinish_sw_frame (who : Nat) (right : Bool) (s : State) (hoff : Off wt [.page .sw 0x5, .page .sw 0x6, .chip .sw, .sent]) :
    (spdmFinish .sw who right s).view wt = s.view wt := by
  simp at hoff
  simp [spdmFinish, hoff, Chip.view, Chip.rest, Pool.view, Pool.rest, Svc.view, Svc.rest, Herds.view, Herds.rest, Dct.view, Dct.rest, Dct.held, Fw.view, Fw.rest, Fw.held]

theorem spdmFinish_ep_frame (who : Nat) (right : Bool) (s : State) (hoff : Off wt [.page .ep 0x6, .chip .ep, .sent]) :
    (spdmFinish .ep who right s).view wt = s.view wt := by
  simp at hoff
  simp [spdmFinish, hoff, Chip.view, Chip.rest, Pool.view, Pool.rest, Svc.view, Svc.rest, Herds.view, Herds.rest, Dct.view, Dct.rest, Dct.held, Fw.view, Fw.rest, Fw.held]

theorem spdmEndSession_sw_frame (who : Nat) (s : State) (hoff : Off wt [.page .sw 0x5, .chip .sw, .sent]) :
    (spdmEndSession .sw who s).view wt = s.view wt := by
  simp at hoff
  simp [spdmEndSession, hoff, Chip.view, Chip.rest, Pool.view, Pool.rest, Svc.view, Svc.rest, Herds.view, Herds.rest, Dct.view, Dct.rest, Dct.held, Fw.view, Fw.rest, Fw.held]

theorem spdmEndSession_ep_frame (who : Nat) (s : State) (hoff : Off wt [.chip .ep, .sent]) :
    (spdmEndSession .ep who s).view wt = s.view wt := by
  simp at hoff
  simp [spdmEndSession, hoff, Chip.view, Chip.rest, Pool.view, Pool.rest, Svc.view, Svc.rest, Herds.view, Herds.rest, Dct.view, Dct.rest, Dct.held, Fw.view, Fw.rest, Fw.held]

theorem spdmVendorDefined_sw_frame (who : Nat) (ide : Option (Nat × Bool)) (s : State) (hoff : Off wt [.hdr .sw, .page .sw 0x5, .page .sw 0xb, .page .sw 0x50, .sent]) :
    (spdmVendorDefined .sw who ide s).view wt = s.view wt := by
  simp at hoff
  unfold spdmVendorDefined; (try simp only [sw_beq_ep, ep_beq_sw, sw_beq_sw, ep_beq_ep, Bool.false_eq_true, Bool.true_and, Bool.false_and, if_true, if_false]); (repeat' split) <;> (try dsimp only) <;> first | contradiction | simp +decide [spdmVendorDefined, hoff, Chip.view, Chip.rest, Pool.view, Pool.rest, Svc.view, Svc.rest, Herds.view, Herds.rest, Dct.view, Dct.rest, Dct.held, Fw.view, Fw.rest, Fw.held]

theorem spdmVendorDefined_ep_frame (who : Nat) (ide : Option (Nat × Bool)) (s : State) (hoff : Off wt [.sent]) :
    (spdmVendorDefined .ep who ide s).view wt = s.view wt := by
  simp at hoff
  unfold spdmVendorDefined; (try simp only [sw_beq_ep, ep_beq_sw, sw_beq_sw, ep_beq_ep, Bool.false_eq_true, Bool.true_and, Bool.false_and, if_true, if_false]); repeat' (first | contradiction | (simp +decide [spdmVendorDefined, hoff, Chip.view, Chip.rest, Pool.view, Pool.rest, Svc.view, Svc.rest, Herds.view, Herds.rest, Dct.view, Dct.rest, Dct.held, Fw.view, Fw.rest, Fw.held]; done) | (intros; split) | (intros; first | refine Eq.trans (State_spdmAnswer_ep_frame _ _ _ _ _ _ _ (by simp [hoff]) (fun _ => ?_)) ?_ | refine Eq.trans (State_spdmAnswer_sw_frame _ _ _ _ _ _ _ (by simp [hoff]) (fun _ => ?_)) ?_ | refine Eq.trans (foldl_view _ _ _ fun _ _ => ?_) ?_ | refine Eq.trans (foldl_fst_view _ _ _ fun _ _ => ?_) ?_ | refine Eq.trans (when_view _ _ _ ?_) ?_) | dsimp only | simp +decide [spdmVendorDefined, hoff])

theorem spdmRefusedRequest_sw_frame (who : Nat) (s : State) (hoff : Off wt [.page .sw 0x5, .sent]) :
    (spdmRefusedRequest .sw who s).view wt = s.view wt := by
  simp at hoff
  simp [spdmRefusedRequest, hoff, Chip.view, Chip.rest, Pool.view, Pool.rest, Svc.view, Svc.rest, Herds.view, Herds.rest, Dct.view, Dct.rest, Dct.held, Fw.view, Fw.rest, Fw.held]

theorem spdmRefusedRequest_ep_frame (who : Nat) (s : State) (hoff : Off wt [.sent]) :
    (spdmRefusedRequest .ep who s).view wt = s.view wt := by
  simp at hoff
  simp [spdmRefusedRequest, hoff, Chip.view, Chip.rest, Pool.view, Pool.rest, Svc.view, Svc.rest, Herds.view, Herds.rest, Dct.view, Dct.rest, Dct.held, Fw.view, Fw.rest, Fw.held]

@[simp] theorem State_setCpu_frame (s : State) (c v : Nat) (hoff : Off wt [.page .sw 0x4, .page .sw 0x5]) :
    (State.setCpu s c v).view wt = s.view wt := by
  simp at hoff
  simp [State.setCpu, hoff, Chip.view, Chip.rest, Pool.view, Pool.rest, Svc.view, Svc.rest, Herds.view, Herds.rest, Dct.view, Dct.rest, Dct.held, Fw.view, Fw.rest, Fw.held]

@[simp] theorem State_pet_frame (s : State) (c : Nat) (hoff : Off wt [.fw]) :
    (State.pet s c).view wt = s.view wt := by
  simp at hoff
  simp [State.pet, hoff, Chip.view, Chip.rest, Pool.view, Pool.rest, Svc.view, Svc.rest, Herds.view, Herds.rest, Dct.view, Dct.rest, Dct.held, Fw.view, Fw.rest, Fw.held]

@[simp] theorem State_cpuRuns_frame (s : State) (c : Nat) (hoff : Off wt [.page .sw 0x4, .page .sw 0x5, .fw]) :
    (State.cpuRuns s c).view wt = s.view wt := by
  simp at hoff
  simp [State.cpuRuns, hoff, Chip.view, Chip.rest, Pool.view, Pool.rest, Svc.view, Svc.rest, Herds.view, Herds.rest, Dct.view, Dct.rest, Dct.held, Fw.view, Fw.rest, Fw.held]

@[simp] theorem State_showFw_frame (s : State) (hoff : Off wt [.page .sw 0x4]) :
    (State.showFw s).view wt = s.view wt := by
  simp at hoff
  unfold State.showFw; (try simp only [sw_beq_ep, ep_beq_sw, sw_beq_sw, ep_beq_ep, Bool.false_eq_true, Bool.true_and, Bool.false_and, if_true, if_false]); (repeat' split) <;> (try dsimp only) <;> first | contradiction | simp +decide [State.showFw, hoff, Chip.view, Chip.rest, Pool.view, Pool.rest, Svc.view, Svc.rest, Herds.view, Herds.rest, Dct.view, Dct.rest, Dct.held, Fw.view, Fw.rest, Fw.held]

@[simp] theorem State_fwChanged_frame (s : State) (hoff : Off wt [.hdr .sw, .page .sw 0x4, .page .sw 0x5, .sent]) :
    (State.fwChanged s).view wt = s.view wt := by
  simp at hoff
  simp [State.fwChanged, hoff, Chip.view, Chip.rest, Pool.view, Pool.rest, Svc.view, Svc.rest, Herds.view, Herds.rest, Dct.view, Dct.rest, Dct.held, Fw.view, Fw.rest, Fw.held]

@[simp] theorem State_actTo_frame (s : State) (v : Nat) (hoff : Off wt [.hdr .sw, .page .sw 0x4, .page .sw 0x5, .fw, .sent]) :
    (State.actTo s v).view wt = s.view wt := by
  simp at hoff
  simp [State.actTo, hoff, Chip.view, Chip.rest, Pool.view, Pool.rest, Svc.view, Svc.rest, Herds.view, Herds.rest, Dct.view, Dct.rest, Dct.held, Fw.view, Fw.rest, Fw.held]

@[simp] theorem State_mbDone_frame (s : State) (status : Nat) (hoff : Off wt [.hdr .sw, .page .sw 0x4, .page .sw 0x5, .sent]) :
    (State.mbDone s status).view wt = s.view wt := by
  simp at hoff
  simp [State.mbDone, hoff, Chip.view, Chip.rest, Pool.view, Pool.rest, Svc.view, Svc.rest, Herds.view, Herds.rest, Dct.view, Dct.rest, Dct.held, Fw.view, Fw.rest, Fw.held]

@[simp] theorem State_mbRsp_frame (s : State) (k v : Nat) (hoff : Off wt [.page .sw 0x4]) :
    (State.mbRsp s k v).view wt = s.view wt := by
  simp at hoff
  simp [State.mbRsp, hoff, Chip.view, Chip.rest, Pool.view, Pool.rest, Svc.view, Svc.rest, Herds.view, Herds.rest, Dct.view, Dct.rest, Dct.held, Fw.view, Fw.rest, Fw.held]

@[simp] theorem State_stageEnd_frame (s : State) (status : Nat) (hoff : Off wt [.hdr .sw, .page .sw 0x4, .page .sw 0x5, .fw, .sent]) :
    (State.stageEnd s status).view wt = s.view wt := by
  simp at hoff
  unfold State.stageEnd; (try simp only [sw_beq_ep, ep_beq_sw, sw_beq_sw, ep_beq_ep, Bool.false_eq_true, Bool.true_and, Bool.false_and, if_true, if_false]); (repeat' split) <;> (try dsimp only) <;> first | contradiction | simp +decide [State.stageEnd, hoff, Chip.view, Chip.rest, Pool.view, Pool.rest, Svc.view, Svc.rest, Herds.view, Herds.rest, Dct.view, Dct.rest, Dct.held, Fw.view, Fw.rest, Fw.held]

@[simp] theorem State_abandonTacks_frame (s : State) (hoff : Off wt [.page .sw 0x100, .page .sw 0x200, .page .sw 0x280, .ports .sw]) :
    (State.abandonTacks s).view wt = s.view wt := by
  simp at hoff
  simp [State.abandonTacks, hoff, Chip.view, Chip.rest, Pool.view, Pool.rest, Svc.view, Svc.rest, Herds.view, Herds.rest, Dct.view, Dct.rest, Dct.held, Fw.view, Fw.rest, Fw.held]

@[simp] theorem State_cpuLeaves_frame (s : State) (c : Nat) (hoff : Off wt [.hdr .sw, .page .sw 0x4, .page .sw 0x5, .page .sw 0x20, .page .sw 0x100, .page .sw 0x200, .page .sw 0x280, .ports .sw, .herds, .hrd, .fw, .sent]) :
    (State.cpuLeaves s c).view wt = s.view wt := by
  simp at hoff
  unfold State.cpuLeaves; (try simp only [sw_beq_ep, ep_beq_sw, sw_beq_sw, ep_beq_ep, Bool.false_eq_true, Bool.true_and, Bool.false_and, if_true, if_false]); (repeat' split) <;> (try dsimp only) <;> first | contradiction | simp +decide [State.cpuLeaves, hoff, Chip.view, Chip.rest, Pool.view, Pool.rest, Svc.view, Svc.rest, Herds.view, Herds.rest, Dct.view, Dct.rest, Dct.held, Fw.view, Fw.rest, Fw.held]

@[simp] theorem State_takeOver_frame (s : State) (hoff : Off wt [.hdr .sw, .page .sw 0x4, .page .sw 0x5, .fw, .sent]) :
    (State.takeOver s).view wt = s.view wt := by
  simp at hoff
  simp [State.takeOver, hoff, Chip.view, Chip.rest, Pool.view, Pool.rest, Svc.view, Svc.rest, Herds.view, Herds.rest, Dct.view, Dct.rest, Dct.held, Fw.view, Fw.rest, Fw.held]

@[simp] theorem State_firmwareMeasured_frame (s : State) (hoff : Off wt [.page .sw 0x6, .page .sw 0x7, .chip .sw]) :
    (State.firmwareMeasured s).view wt = s.view wt := by
  simp at hoff
  simp [State.firmwareMeasured, hoff, Chip.view, Chip.rest, Pool.view, Pool.rest, Svc.view, Svc.rest, Herds.view, Herds.rest, Dct.view, Dct.rest, Dct.held, Fw.view, Fw.rest, Fw.held]

@[simp] theorem State_cpusRestart_frame (s : State) (hoff : Off wt [.hdr .sw, .page .sw 0x4, .page .sw 0x5, .page .sw 0x20, .page .sw 0x100, .page .sw 0x200, .page .sw 0x280, .ports .sw, .herds, .hrd, .fw, .sent]) :
    (State.cpusRestart s).view wt = s.view wt := by
  simp at hoff
  simp [State.cpusRestart, hoff, Chip.view, Chip.rest, Pool.view, Pool.rest, Svc.view, Svc.rest, Herds.view, Herds.rest, Dct.view, Dct.rest, Dct.held, Fw.view, Fw.rest, Fw.held]

@[simp] theorem State_revert_frame (s : State) (hoff : Off wt [.hdr .sw, .page .sw 0x4, .page .sw 0x5, .page .sw 0x6, .page .sw 0x7, .page .sw 0x20, .page .sw 0x100, .page .sw 0x200, .page .sw 0x280, .ports .sw, .chip .sw, .herds, .hrd, .fw, .sent]) :
    (State.revert s).view wt = s.view wt := by
  simp at hoff
  simp [State.revert, hoff, Chip.view, Chip.rest, Pool.view, Pool.rest, Svc.view, Svc.rest, Herds.view, Herds.rest, Dct.view, Dct.rest, Dct.held, Fw.view, Fw.rest, Fw.held]

@[simp] theorem State_wdtEvent_frame (s : State) (c : Nat) (hoff : Off wt [.page .sw 0x4]) :
    (State.wdtEvent s c).view wt = s.view wt := by
  simp at hoff
  simp [State.wdtEvent, hoff, Chip.view, Chip.rest, Pool.view, Pool.rest, Svc.view, Svc.rest, Herds.view, Herds.rest, Dct.view, Dct.rest, Dct.held, Fw.view, Fw.rest, Fw.held]

@[simp] theorem State_confirm_frame (s : State) (hoff : Off wt [.hdr .sw, .page .sw 0x4, .page .sw 0x5, .images, .fw, .sent]) :
    (State.confirm s).view wt = s.view wt := by
  simp at hoff
  simp [State.confirm, hoff, Chip.view, Chip.rest, Pool.view, Pool.rest, Svc.view, Svc.rest, Herds.view, Herds.rest, Dct.view, Dct.rest, Dct.held, Fw.view, Fw.rest, Fw.held]

@[simp] theorem trialConfirmTimer_frame (s : State) (hoff : Off wt [.hdr .sw, .page .sw 0x4, .page .sw 0x5, .images, .fw, .sent]) :
    (trialConfirmTimer s).view wt = s.view wt := by
  simp at hoff
  simp [trialConfirmTimer, hoff, Chip.view, Chip.rest, Pool.view, Pool.rest, Svc.view, Svc.rest, Herds.view, Herds.rest, Dct.view, Dct.rest, Dct.held, Fw.view, Fw.rest, Fw.held]

@[simp] theorem watchdogExpiry_frame (c : Nat) (s : State) (hoff : Off wt [.hdr .sw, .page .sw 0x4, .page .sw 0x5, .page .sw 0x6, .page .sw 0x7, .page .sw 0xb, .page .sw 0x20, .page .sw 0x100, .page .sw 0x200, .page .sw 0x280, .log .sw, .ports .sw, .chip .sw, .herds, .hrd, .images, .fw, .sent]) :
    (watchdogExpiry c s).view wt = s.view wt := by
  simp at hoff
  unfold watchdogExpiry
  extract_lets now s1 recent s2 s3
  have h1 : s1.view wt = s.view wt := by simp [s1, hoff]
  have h2 : s2.view wt = s1.view wt := by simp [s2, hoff, Fw.view, Fw.rest, Fw.held]
  have h3 : s3.view wt = s2.view wt := by simp [s3, hoff]
  clear_value s3 s2 s1 now recent
  split
  · rfl
  · split
    · simp [h1, h2, h3, hoff]
    · (repeat' split) <;> simp +zetaDelta [h1, h2, h3, hoff, Fw.view, Fw.rest, Fw.held]

theorem wdtPet_frame (c mask : Nat) (s : State) (hoff : Off wt [.hdr .sw, .page .sw 0x4, .page .sw 0x5, .page .sw 0x6, .page .sw 0x7, .page .sw 0xb, .page .sw 0x20, .page .sw 0x100, .page .sw 0x200, .page .sw 0x280, .log .sw, .ports .sw, .chip .sw, .herds, .hrd, .images, .fw, .sent]) :
    (wdtPet c mask s).view wt = s.view wt := by
  simp at hoff
  unfold wdtPet; (try simp only [sw_beq_ep, ep_beq_sw, sw_beq_sw, ep_beq_ep, Bool.false_eq_true, Bool.true_and, Bool.false_and, if_true, if_false]); (repeat' split) <;> (try dsimp only) <;> first | contradiction | simp +decide [wdtPet, hoff, Chip.view, Chip.rest, Pool.view, Pool.rest, Svc.view, Svc.rest, Herds.view, Herds.rest, Dct.view, Dct.rest, Dct.held, Fw.view, Fw.rest, Fw.held]

theorem secWatchdogExpiry_sw_frame (s : State) (hoff : Off wt [.hdr .sw, .page .sw 0x4, .page .sw 0x5, .page .sw 0xb, .log .sw, .sent]) :
    (secWatchdogExpiry .sw s).view wt = s.view wt := by
  simp at hoff
  simp [secWatchdogExpiry, hoff, Chip.view, Chip.rest, Pool.view, Pool.rest, Svc.view, Svc.rest, Herds.view, Herds.rest, Dct.view, Dct.rest, Dct.held, Fw.view, Fw.rest, Fw.held]

theorem secWatchdogExpiry_ep_frame (s : State) (hoff : Off wt [.hdr .ep, .page .ep 0xb, .log .ep, .sec, .sent]) :
    (secWatchdogExpiry .ep s).view wt = s.view wt := by
  simp at hoff
  unfold secWatchdogExpiry
  dsimp only
  (repeat' split)
  · rfl
  · rfl
  · rw [State_event_ep_frame _ _ _ _ _ _ _ _ _ _ (by simp [hoff])]
    exact sec_view _ _ (by simp [hoff])

theorem coreRestartDone_frame (c : Nat) (s : State) (hoff : Off wt [.page .sw 0x4, .page .sw 0x5, .page .sw 0x100, .page .sw 0x200, .page .sw 0x280, .ports .sw, .fw]) :
    (coreRestartDone c s).view wt = s.view wt := by
  simp at hoff
  simp [coreRestartDone, hoff, Chip.view, Chip.rest, Pool.view, Pool.rest, Svc.view, Svc.rest, Herds.view, Herds.rest, Dct.view, Dct.rest, Dct.held, Fw.view, Fw.rest, Fw.held]

@[simp] theorem State_orphanHost_frame (s : State) (hoff : Off wt [.hdr .sw, .page .sw 0x4, .page .sw 0x5, .page .sw 0xa, .page .sw 0xb, .page .sw 0x11, .page .sw 0x13, .page .sw 0x14, .page .sw 0x20, .page .sw 0x21, .page .sw 0x30, .page .sw 0x31, .page .sw 0x32, .page .sw 0x40, .page .sw 0x50, .page .sw 0x300, .log .sw, .ports .sw, .sync .sw, .core, .mem, .pool, .svc, .herds, .hrd, .host, .fw, .sent, .free]) :
    (State.orphanHost s).view wt = s.view wt := by
  simp at hoff
  unfold State.orphanHost
  extract_lets cs now s1 s2 s3 s4
  have h1 : s1.view wt = s.view wt := by simp [s1, hoff]
  have h2 : s2.view wt = s1.view wt := by simp [s2, hoff, Fw.view, Fw.rest, Fw.held]
  have h3 : s3.view wt = s2.view wt := foldl_view _ _ _ fun s c => by split <;> simp [hoff]
  have h4 : s4.view wt = s3.view wt := by simp [s4, hoff]
  clear_value s4 s3 s2 s1
  rw [← h1, ← h2, ← h3, ← h4]
  (repeat' split) <;> simp [hoff, Pool.view, Pool.rest]

@[simp] theorem State_windowClose_frame (s : State) (hoff : Off wt [.hdr .sw, .page .sw 0x4, .page .sw 0x5, .page .sw 0xa, .page .sw 0xb, .page .sw 0x11, .page .sw 0x13, .page .sw 0x14, .page .sw 0x20, .page .sw 0x21, .page .sw 0x30, .page .sw 0x31, .page .sw 0x32, .page .sw 0x40, .page .sw 0x50, .page .sw 0x300, .log .sw, .ports .sw, .sync .sw, .core, .mem, .pool, .svc, .herds, .hrd, .host, .fw, .sent, .free]) :
    (State.windowClose s).view wt = s.view wt := by
  simp at hoff
  unfold State.windowClose; (try simp only [sw_beq_ep, ep_beq_sw, sw_beq_sw, ep_beq_ep, Bool.false_eq_true, Bool.true_and, Bool.false_and, if_true, if_false]); (repeat' split) <;> (try dsimp only) <;> first | contradiction | simp +decide [State.windowClose, hoff, Chip.view, Chip.rest, Pool.view, Pool.rest, Svc.view, Svc.rest, Herds.view, Herds.rest, Dct.view, Dct.rest, Dct.held, Fw.view, Fw.rest, Fw.held]

@[simp] theorem State_hbFresh_frame (s : State) (hoff : Off wt [.hdr .sw, .page .sw 0x4, .page .sw 0x5, .page .sw 0xa, .page .sw 0xb, .page .sw 0x11, .page .sw 0x13, .page .sw 0x14, .page .sw 0x20, .page .sw 0x21, .page .sw 0x30, .page .sw 0x31, .page .sw 0x32, .page .sw 0x40, .page .sw 0x50, .page .sw 0x300, .log .sw, .ports .sw, .sync .sw, .core, .mem, .pool, .svc, .herds, .hrd, .host, .fw, .sent, .free]) :
    (State.hbFresh s).view wt = s.view wt := by
  simp at hoff
  simp [State.hbFresh, hoff, Chip.view, Chip.rest, Pool.view, Pool.rest, Svc.view, Svc.rest, Herds.view, Herds.rest, Dct.view, Dct.rest, Dct.held, Fw.view, Fw.rest, Fw.held]

@[simp] theorem State_beatW_frame (s : State) (id : Nat) (hoff : Off wt [.hdr .sw, .page .sw 0x4, .page .sw 0x5, .page .sw 0xa, .page .sw 0xb, .page .sw 0x11, .page .sw 0x13, .page .sw 0x14, .page .sw 0x20, .page .sw 0x21, .page .sw 0x30, .page .sw 0x31, .page .sw 0x32, .page .sw 0x40, .page .sw 0x50, .page .sw 0x300, .log .sw, .ports .sw, .sync .sw, .core, .mem, .pool, .svc, .herds, .hrd, .host, .fw, .sent, .free]) :
    (State.beatW s id).1.view wt = s.view wt := by
  simp at hoff
  simp [State.beatW, hoff, Chip.view, Chip.rest, Pool.view, Pool.rest, Svc.view, Svc.rest, Herds.view, Herds.rest, Dct.view, Dct.rest, Dct.held, Fw.view, Fw.rest, Fw.held]

@[simp] theorem State_strayBeat_sw_frame (s : State) (path : Path) (page off : Nat) (hoff : Off wt [.page .sw 0x4]) :
    (State.strayBeat s path .sw page off).view wt = s.view wt := by
  simp at hoff
  simp [State.strayBeat, hoff, Chip.view, Chip.rest, Pool.view, Pool.rest, Svc.view, Svc.rest, Herds.view, Herds.rest, Dct.view, Dct.rest, Dct.held, Fw.view, Fw.rest, Fw.held]

@[simp] theorem State_strayBeat_ep_frame (s : State) (path : Path) (page off : Nat) :
    (State.strayBeat s path .ep page off).view wt = s.view wt := by
  simp [State.strayBeat, State.when]

theorem hbBeat_frame (path : Path) (id : Nat) (s : State) (hoff : Off wt [.hdr .sw, .page .sw 0x4, .page .sw 0x5, .page .sw 0xa, .page .sw 0xb, .page .sw 0x11, .page .sw 0x13, .page .sw 0x14, .page .sw 0x20, .page .sw 0x21, .page .sw 0x30, .page .sw 0x31, .page .sw 0x32, .page .sw 0x40, .page .sw 0x50, .page .sw 0x300, .log .sw, .ports .sw, .sync .sw, .core, .mem, .pool, .svc, .herds, .hrd, .host, .fw, .sent, .free]) :
    (hbBeat path id s).view wt = s.view wt := by
  simp at hoff
  simp [hbBeat, hoff, Chip.view, Chip.rest, Pool.view, Pool.rest, Svc.view, Svc.rest, Herds.view, Herds.rest, Dct.view, Dct.rest, Dct.held, Fw.view, Fw.rest, Fw.held]

@[simp] theorem State_doHello_frame (s : State) (hoff : Off wt [.hdr .sw, .page .sw 0x4, .page .sw 0x5, .fw, .sent]) :
    (State.doHello s).view wt = s.view wt := by
  simp at hoff
  simp [State.doHello, hoff, Chip.view, Chip.rest, Pool.view, Pool.rest, Svc.view, Svc.rest, Herds.view, Herds.rest, Dct.view, Dct.rest, Dct.held, Fw.view, Fw.rest, Fw.held]

@[simp] theorem State_doGoodbye_frame (s : State) (hoff : Off wt [.hdr .sw, .page .sw 0x4, .page .sw 0x5, .page .sw 0xa, .page .sw 0xb, .page .sw 0x11, .page .sw 0x13, .page .sw 0x14, .page .sw 0x20, .page .sw 0x21, .page .sw 0x30, .page .sw 0x31, .page .sw 0x32, .page .sw 0x40, .page .sw 0x50, .page .sw 0x300, .log .sw, .ports .sw, .sync .sw, .core, .mem, .pool, .svc, .herds, .hrd, .host, .fw, .sent, .free]) :
    (State.doGoodbye s).view wt = s.view wt := by
  simp at hoff
  simp [State.doGoodbye, hoff, Chip.view, Chip.rest, Pool.view, Pool.rest, Svc.view, Svc.rest, Herds.view, Herds.rest, Dct.view, Dct.rest, Dct.held, Fw.view, Fw.rest, Fw.held]

@[simp] theorem State_reclaim_frame (s : State) (reset : Bool) (hoff : Off wt [.hdr .sw, .page .sw 0x4, .page .sw 0x5, .page .sw 0x7, .page .sw 0xa, .page .sw 0x20, .page .sw 0x21, .progs, .svc, .herds, .hrd, .sent]) :
    (State.reclaim s reset).view wt = s.view wt := by
  simp at hoff
  unfold State.reclaim; (try simp only [sw_beq_ep, ep_beq_sw, sw_beq_sw, ep_beq_ep, Bool.false_eq_true, Bool.true_and, Bool.false_and, if_true, if_false]); repeat' (first | contradiction | (simp +decide [State.reclaim, hoff, Chip.view, Chip.rest, Pool.view, Pool.rest, Svc.view, Svc.rest, Herds.view, Herds.rest, Dct.view, Dct.rest, Dct.held, Fw.view, Fw.rest, Fw.held]; done) | (intros; split) | (intros; first | refine Eq.trans (foldl_view _ _ _ fun _ _ => ?_) ?_ | refine Eq.trans (foldl_fst_view _ _ _ fun _ _ => ?_) ?_ | refine Eq.trans (when_view _ _ _ ?_) ?_) | dsimp only | simp +decide [State.reclaim, hoff])

theorem contextQuiesce_frame (s : State) (hoff : Off wt [.page .sw 0xa]) :
    (contextQuiesce s).view wt = s.view wt := by
  simp at hoff
  simp [contextQuiesce, hoff, Chip.view, Chip.rest, Pool.view, Pool.rest, Svc.view, Svc.rest, Herds.view, Herds.rest, Dct.view, Dct.rest, Dct.held, Fw.view, Fw.rest, Fw.held]

@[simp] theorem State_activate_frame (s : State) (hoff : Off wt [.hdr .sw, .page .sw 0x4, .page .sw 0x5, .fw, .sent]) :
    (State.activate s).1.view wt = s.view wt := by
  simp at hoff
  simp [State.activate, hoff, Chip.view, Chip.rest, Pool.view, Pool.rest, Svc.view, Svc.rest, Herds.view, Herds.rest, Dct.view, Dct.rest, Dct.held, Fw.view, Fw.rest, Fw.held]

@[simp] theorem State_cancelAct_frame (s : State) (hoff : Off wt [.hdr .sw, .page .sw 0x4, .page .sw 0x5, .fw, .sent]) :
    (State.cancelAct s).1.view wt = s.view wt := by
  simp at hoff
  simp [State.cancelAct, hoff, Chip.view, Chip.rest, Pool.view, Pool.rest, Svc.view, Svc.rest, Herds.view, Herds.rest, Dct.view, Dct.rest, Dct.held, Fw.view, Fw.rest, Fw.held]

theorem activationP0WaitExpiry_frame (s : State) (hoff : Off wt [.hdr .sw, .page .sw 0x4, .page .sw 0x5, .fw, .sent]) :
    (activationP0WaitExpiry s).view wt = s.view wt := by
  simp at hoff
  simp [activationP0WaitExpiry, hoff, Chip.view, Chip.rest, Pool.view, Pool.rest, Svc.view, Svc.rest, Herds.view, Herds.rest, Dct.view, Dct.rest, Dct.held, Fw.view, Fw.rest, Fw.held]

@[simp] theorem safePointTimeout_frame (s : State) (hoff : Off wt [.hdr .sw, .page .sw 0x4, .page .sw 0x5, .fw, .sent]) :
    (safePointTimeout s).view wt = s.view wt := by
  simp at hoff
  simp [safePointTimeout, hoff, Chip.view, Chip.rest, Pool.view, Pool.rest, Svc.view, Svc.rest, Herds.view, Herds.rest, Dct.view, Dct.rest, Dct.held, Fw.view, Fw.rest, Fw.held]

@[simp] theorem State_runStaged_frame (s : State) (hoff : Off wt [.fw]) :
    (State.runStaged s).view wt = s.view wt := by
  simp at hoff
  unfold State.runStaged; (try simp only [sw_beq_ep, ep_beq_sw, sw_beq_sw, ep_beq_ep, Bool.false_eq_true, Bool.true_and, Bool.false_and, if_true, if_false]); (repeat' split) <;> (try dsimp only) <;> first | contradiction | simp +decide [State.runStaged, hoff, Chip.view, Chip.rest, Pool.view, Pool.rest, Svc.view, Svc.rest, Herds.view, Herds.rest, Dct.view, Dct.rest, Dct.held, Fw.view, Fw.rest, Fw.held]

theorem safePointReached_frame (s : State) (hoff : Off wt [.hdr .sw, .page .sw 0x4, .page .sw 0x5, .page .sw 0x6, .page .sw 0x7, .page .sw 0x20, .page .sw 0x100, .page .sw 0x200, .page .sw 0x280, .ports .sw, .chip .sw, .herds, .hrd, .fw, .sent]) :
    (safePointReached s).view wt = s.view wt := by
  simp at hoff
  unfold safePointReached
  extract_lets s1
  have h1 : s1.view wt = s.view wt := by simp [s1, hoff]
  clear_value s1
  split <;> simp [h1, hoff]

@[simp] theorem State_tackAll_frame (s : State) (hoff : Off wt [.page .sw 0x100, .page .sw 0x200, .page .sw 0x280, .ports .sw]) :
    (State.tackAll s).view wt = s.view wt := by
  simp at hoff
  simp [State.tackAll, hoff, Chip.view, Chip.rest, Pool.view, Pool.rest, Svc.view, Svc.rest, Herds.view, Herds.rest, Dct.view, Dct.rest, Dct.held, Fw.view, Fw.rest, Fw.held]

theorem imageRestartDone_frame (s : State) (hoff : Off wt [.hdr .sw, .page .sw 0x4, .page .sw 0x5, .page .sw 0x6, .page .sw 0x7, .page .sw 0x20, .page .sw 0x100, .page .sw 0x200, .page .sw 0x280, .ports .sw, .chip .sw, .herds, .hrd, .fw, .sent]) :
    (imageRestartDone s).view wt = s.view wt := by
  simp at hoff
  unfold imageRestartDone; (try simp only [sw_beq_ep, ep_beq_sw, sw_beq_sw, ep_beq_ep, Bool.false_eq_true, Bool.true_and, Bool.false_and, if_true, if_false]); (repeat' split) <;> (try dsimp only) <;> first | contradiction | simp +decide [imageRestartDone, hoff, Chip.view, Chip.rest, Pool.view, Pool.rest, Svc.view, Svc.rest, Herds.view, Herds.rest, Dct.view, Dct.rest, Dct.held, Fw.view, Fw.rest, Fw.held]

theorem imageRestartTimeout_frame (s : State) (hoff : Off wt [.hdr .sw, .page .sw 0x4, .page .sw 0x5, .page .sw 0x6, .page .sw 0x7, .page .sw 0x20, .page .sw 0x100, .page .sw 0x200, .page .sw 0x280, .ports .sw, .chip .sw, .herds, .hrd, .fw, .sent]) :
    (imageRestartTimeout s).view wt = s.view wt := by
  simp at hoff
  simp [imageRestartTimeout, hoff, Chip.view, Chip.rest, Pool.view, Pool.rest, Svc.view, Svc.rest, Herds.view, Herds.rest, Dct.view, Dct.rest, Dct.held, Fw.view, Fw.rest, Fw.held]

@[simp] theorem State_confirmW_frame (s : State) (hoff : Off wt [.hdr .sw, .page .sw 0x4, .page .sw 0x5, .images, .fw, .sent]) :
    (State.confirmW s).1.view wt = s.view wt := by
  simp at hoff
  simp [State.confirmW, hoff, Chip.view, Chip.rest, Pool.view, Pool.rest, Svc.view, Svc.rest, Herds.view, Herds.rest, Dct.view, Dct.rest, Dct.held, Fw.view, Fw.rest, Fw.held]

theorem fwConfirmWrite_frame (s : State) (hoff : Off wt [.hdr .sw, .page .sw 0x4, .page .sw 0x5, .page .sw 0xb, .images, .fw, .sent]) :
    (fwConfirmWrite s).view wt = s.view wt := by
  simp at hoff
  simp [fwConfirmWrite, hoff, Chip.view, Chip.rest, Pool.view, Pool.rest, Svc.view, Svc.rest, Herds.view, Herds.rest, Dct.view, Dct.rest, Dct.held, Fw.view, Fw.rest, Fw.held]

@[simp] theorem State_doStage_frame (s : State) (hoff : Off wt [.hdr .sw, .page .sw 0x4, .page .sw 0x5, .fw, .sent]) :
    (State.doStage s).view wt = s.view wt := by
  simp at hoff
  simp [State.doStage, hoff, Chip.view, Chip.rest, Pool.view, Pool.rest, Svc.view, Svc.rest, Herds.view, Herds.rest, Dct.view, Dct.rest, Dct.held, Fw.view, Fw.rest, Fw.held]

@[simp] theorem State_mailbox_frame (s : State) (op : Nat) (hoff : Off wt [.hdr .sw, .page .sw 0x4, .page .sw 0x5, .page .sw 0x7, .page .sw 0xa, .page .sw 0xb, .page .sw 0x11, .page .sw 0x13, .page .sw 0x14, .page .sw 0x20, .page .sw 0x21, .page .sw 0x30, .page .sw 0x31, .page .sw 0x32, .page .sw 0x40, .page .sw 0x50, .page .sw 0x300, .log .sw, .ports .sw, .sync .sw, .core, .mem, .pool, .progs, .svc, .herds, .hrd, .host, .images, .fw, .sent, .free]) :
    (State.mailbox s op).1.view wt = s.view wt := by
  simp at hoff
  simp [State.mailbox, hoff, Chip.view, Chip.rest, Pool.view, Pool.rest, Svc.view, Svc.rest, Herds.view, Herds.rest, Dct.view, Dct.rest, Dct.held, Fw.view, Fw.rest, Fw.held]

@[simp] theorem State_mbWrite_frame (s : State) (op : Nat) (hoff : Off wt [.hdr .sw, .page .sw 0x4, .page .sw 0x5, .page .sw 0x7, .page .sw 0xa, .page .sw 0xb, .page .sw 0x11, .page .sw 0x13, .page .sw 0x14, .page .sw 0x20, .page .sw 0x21, .page .sw 0x30, .page .sw 0x31, .page .sw 0x32, .page .sw 0x40, .page .sw 0x50, .page .sw 0x300, .log .sw, .ports .sw, .sync .sw, .core, .mem, .pool, .progs, .svc, .herds, .hrd, .host, .images, .fw, .sent, .free]) :
    (State.mbWrite s op).view wt = s.view wt := by
  simp at hoff
  simp [State.mbWrite, hoff, Chip.view, Chip.rest, Pool.view, Pool.rest, Svc.view, Svc.rest, Herds.view, Herds.rest, Dct.view, Dct.rest, Dct.held, Fw.view, Fw.rest, Fw.held]

theorem hello_frame (s : State) (hoff : Off wt [.hdr .sw, .page .sw 0x4, .page .sw 0x5, .page .sw 0x7, .page .sw 0xa, .page .sw 0xb, .page .sw 0x11, .page .sw 0x13, .page .sw 0x14, .page .sw 0x20, .page .sw 0x21, .page .sw 0x30, .page .sw 0x31, .page .sw 0x32, .page .sw 0x40, .page .sw 0x50, .page .sw 0x300, .log .sw, .ports .sw, .sync .sw, .core, .mem, .pool, .progs, .svc, .herds, .hrd, .host, .images, .fw, .sent, .free]) :
    (hello s).view wt = s.view wt := by
  simp at hoff
  simp [hello, hoff, Chip.view, Chip.rest, Pool.view, Pool.rest, Svc.view, Svc.rest, Herds.view, Herds.rest, Dct.view, Dct.rest, Dct.held, Fw.view, Fw.rest, Fw.held]

theorem goodbye_frame (s : State) (hoff : Off wt [.hdr .sw, .page .sw 0x4, .page .sw 0x5, .page .sw 0x7, .page .sw 0xa, .page .sw 0xb, .page .sw 0x11, .page .sw 0x13, .page .sw 0x14, .page .sw 0x20, .page .sw 0x21, .page .sw 0x30, .page .sw 0x31, .page .sw 0x32, .page .sw 0x40, .page .sw 0x50, .page .sw 0x300, .log .sw, .ports .sw, .sync .sw, .core, .mem, .pool, .progs, .svc, .herds, .hrd, .host, .images, .fw, .sent, .free]) :
    (goodbye s).view wt = s.view wt := by
  simp at hoff
  simp [goodbye, hoff, Chip.view, Chip.rest, Pool.view, Pool.rest, Svc.view, Svc.rest, Herds.view, Herds.rest, Dct.view, Dct.rest, Dct.held, Fw.view, Fw.rest, Fw.held]

theorem ctxReclaim_frame (s : State) (hoff : Off wt [.hdr .sw, .page .sw 0x4, .page .sw 0x5, .page .sw 0x7, .page .sw 0xa, .page .sw 0xb, .page .sw 0x11, .page .sw 0x13, .page .sw 0x14, .page .sw 0x20, .page .sw 0x21, .page .sw 0x30, .page .sw 0x31, .page .sw 0x32, .page .sw 0x40, .page .sw 0x50, .page .sw 0x300, .log .sw, .ports .sw, .sync .sw, .core, .mem, .pool, .progs, .svc, .herds, .hrd, .host, .images, .fw, .sent, .free]) :
    (ctxReclaim s).view wt = s.view wt := by
  simp at hoff
  simp [ctxReclaim, hoff, Chip.view, Chip.rest, Pool.view, Pool.rest, Svc.view, Svc.rest, Herds.view, Herds.rest, Dct.view, Dct.rest, Dct.held, Fw.view, Fw.rest, Fw.held]

theorem ctxReset_frame (s : State) (hoff : Off wt [.hdr .sw, .page .sw 0x4, .page .sw 0x5, .page .sw 0x7, .page .sw 0xa, .page .sw 0xb, .page .sw 0x11, .page .sw 0x13, .page .sw 0x14, .page .sw 0x20, .page .sw 0x21, .page .sw 0x30, .page .sw 0x31, .page .sw 0x32, .page .sw 0x40, .page .sw 0x50, .page .sw 0x300, .log .sw, .ports .sw, .sync .sw, .core, .mem, .pool, .progs, .svc, .herds, .hrd, .host, .images, .fw, .sent, .free]) :
    (ctxReset s).view wt = s.view wt := by
  simp at hoff
  simp [ctxReset, hoff, Chip.view, Chip.rest, Pool.view, Pool.rest, Svc.view, Svc.rest, Herds.view, Herds.rest, Dct.view, Dct.rest, Dct.held, Fw.view, Fw.rest, Fw.held]

theorem fwStage_frame (s : State) (hoff : Off wt [.hdr .sw, .page .sw 0x4, .page .sw 0x5, .page .sw 0x7, .page .sw 0xa, .page .sw 0xb, .page .sw 0x11, .page .sw 0x13, .page .sw 0x14, .page .sw 0x20, .page .sw 0x21, .page .sw 0x30, .page .sw 0x31, .page .sw 0x32, .page .sw 0x40, .page .sw 0x50, .page .sw 0x300, .log .sw, .ports .sw, .sync .sw, .core, .mem, .pool, .progs, .svc, .herds, .hrd, .host, .images, .fw, .sent, .free]) :
    (fwStage s).view wt = s.view wt := by
  simp at hoff
  simp [fwStage, hoff, Chip.view, Chip.rest, Pool.view, Pool.rest, Svc.view, Svc.rest, Herds.view, Herds.rest, Dct.view, Dct.rest, Dct.held, Fw.view, Fw.rest, Fw.held]

theorem fwActivate_frame (s : State) (hoff : Off wt [.hdr .sw, .page .sw 0x4, .page .sw 0x5, .page .sw 0x7, .page .sw 0xa, .page .sw 0xb, .page .sw 0x11, .page .sw 0x13, .page .sw 0x14, .page .sw 0x20, .page .sw 0x21, .page .sw 0x30, .page .sw 0x31, .page .sw 0x32, .page .sw 0x40, .page .sw 0x50, .page .sw 0x300, .log .sw, .ports .sw, .sync .sw, .core, .mem, .pool, .progs, .svc, .herds, .hrd, .host, .images, .fw, .sent, .free]) :
    (fwActivate s).view wt = s.view wt := by
  simp at hoff
  simp [fwActivate, hoff, Chip.view, Chip.rest, Pool.view, Pool.rest, Svc.view, Svc.rest, Herds.view, Herds.rest, Dct.view, Dct.rest, Dct.held, Fw.view, Fw.rest, Fw.held]

theorem fwCancel_frame (s : State) (hoff : Off wt [.hdr .sw, .page .sw 0x4, .page .sw 0x5, .page .sw 0x7, .page .sw 0xa, .page .sw 0xb, .page .sw 0x11, .page .sw 0x13, .page .sw 0x14, .page .sw 0x20, .page .sw 0x21, .page .sw 0x30, .page .sw 0x31, .page .sw 0x32, .page .sw 0x40, .page .sw 0x50, .page .sw 0x300, .log .sw, .ports .sw, .sync .sw, .core, .mem, .pool, .progs, .svc, .herds, .hrd, .host, .images, .fw, .sent, .free]) :
    (fwCancel s).view wt = s.view wt := by
  simp at hoff
  simp [fwCancel, hoff, Chip.view, Chip.rest, Pool.view, Pool.rest, Svc.view, Svc.rest, Herds.view, Herds.rest, Dct.view, Dct.rest, Dct.held, Fw.view, Fw.rest, Fw.held]

theorem fwConfirm_frame (s : State) (hoff : Off wt [.hdr .sw, .page .sw 0x4, .page .sw 0x5, .page .sw 0x7, .page .sw 0xa, .page .sw 0xb, .page .sw 0x11, .page .sw 0x13, .page .sw 0x14, .page .sw 0x20, .page .sw 0x21, .page .sw 0x30, .page .sw 0x31, .page .sw 0x32, .page .sw 0x40, .page .sw 0x50, .page .sw 0x300, .log .sw, .ports .sw, .sync .sw, .core, .mem, .pool, .progs, .svc, .herds, .hrd, .host, .images, .fw, .sent, .free]) :
    (fwConfirm s).view wt = s.view wt := by
  simp at hoff
  simp [fwConfirm, hoff, Chip.view, Chip.rest, Pool.view, Pool.rest, Svc.view, Svc.rest, Herds.view, Herds.rest, Dct.view, Dct.rest, Dct.held, Fw.view, Fw.rest, Fw.held]

theorem stagingDone_frame (img : List Byte) (s : State) (hoff : Off wt [.hdr .sw, .page .sw 0x4, .page .sw 0x5, .images, .fw, .sent]) :
    (stagingDone img s).view wt = s.view wt := by
  simp at hoff
  unfold stagingDone; (try simp only [sw_beq_ep, ep_beq_sw, sw_beq_sw, ep_beq_ep, Bool.false_eq_true, Bool.true_and, Bool.false_and, if_true, if_false]); (repeat' split) <;> (try dsimp only) <;> first | contradiction | simp +decide [stagingDone, hoff, Chip.view, Chip.rest, Pool.view, Pool.rest, Svc.view, Svc.rest, Herds.view, Herds.rest, Dct.view, Dct.rest, Dct.held, Fw.view, Fw.rest, Fw.held]

@[simp] theorem State_pldmReq_frame (s : State) (req : Nat) (loader : Bool) (f : State → State) (hoff : Off wt [.page .sw 0x5, .sent]) (hf : ∀  s, (f  s).view wt = s.view wt) :
    (State.pldmReq s req loader f).view wt = s.view wt := by
  simp at hoff
  unfold State.pldmReq; (try simp only [sw_beq_ep, ep_beq_sw, sw_beq_sw, ep_beq_ep, Bool.false_eq_true, Bool.true_and, Bool.false_and, if_true, if_false]); (repeat' split) <;> (try dsimp only) <;> first | contradiction | simp +decide [State.pldmReq, hoff, hf, Chip.view, Chip.rest, Pool.view, Pool.rest, Svc.view, Svc.rest, Herds.view, Herds.rest, Dct.view, Dct.rest, Dct.held, Fw.view, Fw.rest, Fw.held]

theorem pldmFwUpdate_frame (len : Nat) (s : State) (hoff : Off wt [.hdr .sw, .page .sw 0x4, .page .sw 0x5, .fw, .sent]) :
    (pldmFwUpdate len s).view wt = s.view wt := by
  simp at hoff
  simp [pldmFwUpdate, hoff, Chip.view, Chip.rest, Pool.view, Pool.rest, Svc.view, Svc.rest, Herds.view, Herds.rest, Dct.view, Dct.rest, Dct.held, Fw.view, Fw.rest, Fw.held]

theorem pldmActivateFirmware_frame (s : State) (hoff : Off wt [.hdr .sw, .page .sw 0x4, .page .sw 0x5, .fw, .sent]) :
    (pldmActivateFirmware s).view wt = s.view wt := by
  simp at hoff
  simp [pldmActivateFirmware, hoff, Chip.view, Chip.rest, Pool.view, Pool.rest, Svc.view, Svc.rest, Herds.view, Herds.rest, Dct.view, Dct.rest, Dct.held, Fw.view, Fw.rest, Fw.held]

theorem pldmCancelUpdate_frame (s : State) (hoff : Off wt [.hdr .sw, .page .sw 0x4, .page .sw 0x5, .fw, .sent]) :
    (pldmCancelUpdate s).view wt = s.view wt := by
  simp at hoff
  simp [pldmCancelUpdate, hoff, Chip.view, Chip.rest, Pool.view, Pool.rest, Svc.view, Svc.rest, Herds.view, Herds.rest, Dct.view, Dct.rest, Dct.held, Fw.view, Fw.rest, Fw.held]

theorem i3cAddressAssign_frame (addr : Nat) (s : State) (hoff : Off wt [.page .sw 0x5]) :
    (i3cAddressAssign addr s).view wt = s.view wt := by
  simp at hoff
  simp [i3cAddressAssign, hoff, Chip.view, Chip.rest, Pool.view, Pool.rest, Svc.view, Svc.rest, Herds.view, Herds.rest, Dct.view, Dct.rest, Dct.held, Fw.view, Fw.rest, Fw.held]

theorem mctpControl_frame (intact : Bool) (s : State) (hoff : Off wt [.page .sw 0x5, .sent]) :
    (mctpControl intact s).view wt = s.view wt := by
  simp at hoff
  simp [mctpControl, hoff, Chip.view, Chip.rest, Pool.view, Pool.rest, Svc.view, Svc.rest, Herds.view, Herds.rest, Dct.view, Dct.rest, Dct.held, Fw.view, Fw.rest, Fw.held]

theorem pldmMonitoring_frame (s : State) (hoff : Off wt [.page .sw 0x5, .sent]) :
    (pldmMonitoring s).view wt = s.view wt := by
  simp at hoff
  simp [pldmMonitoring, hoff, Chip.view, Chip.rest, Pool.view, Pool.rest, Svc.view, Svc.rest, Herds.view, Herds.rest, Dct.view, Dct.rest, Dct.held, Fw.view, Fw.rest, Fw.held]

end Sys2Proof.Machine
end

