-- ==== Sys2Proof/Laws/FrameReset.lean ====
section
/-! SUPPORT. The components that each operation of resets, register accesses and the clock may change. -/

set_option Elab.async false
set_option linter.all false

namespace Sys2Proof.Machine

variable {wt : Comp → Bool}

@[simp] theorem State_resetChip_sw_frame (s : State) (regs : RegFile) (cold held : Bool) (step : Nat) (hoff : Off wt [.regs .sw, .ltc .sw, .log .sw, .ports .sw, .sync .sw, .chip .sw]) :
    (State.resetChip s .sw regs cold held step).view wt = s.view wt := by
  simp at hoff
  simp [State.resetChip, hoff, Chip.view, Chip.rest, Pool.view, Pool.rest, Svc.view, Svc.rest, Herds.view, Herds.rest, Dct.view, Dct.rest, Dct.held, Fw.view, Fw.rest, Fw.held]

@[simp] theorem State_resetChip_ep_frame (s : State) (regs : RegFile) (cold held : Bool) (step : Nat) (hoff : Off wt [.regs .ep, .ltc .ep, .log .ep, .ports .ep, .sync .ep, .chip .ep]) :
    (State.resetChip s .ep regs cold held step).view wt = s.view wt := by
  simp at hoff
  simp [State.resetChip, hoff, Chip.view, Chip.rest, Pool.view, Pool.rest, Svc.view, Svc.rest, Herds.view, Herds.rest, Dct.view, Dct.rest, Dct.held, Fw.view, Fw.rest, Fw.held]

@[simp] theorem State_resetSw_frame (s : State) (cold : Bool) (hoff : Off wt [.core, .mem, .pool, .progs, .svc, .herds, .hrd, .host, .bindings, .dct, .images, .fw]) :
    (State.resetSw s cold).view wt = s.view wt := by
  simp at hoff
  simp [State.resetSw, hoff, State.view, SwState.view, EpState.view, Chip.view, Chip.rest, Pool.view, Pool.rest, Svc.view, Svc.rest, Herds.view, Herds.rest, Dct.view, Dct.rest, Dct.held, Fw.view, Fw.rest, Fw.held, -view_eta]

@[simp] theorem State_resetHidden_sw_frame (s : State) (cold : Bool) (hoff : Off wt [.core, .mem, .pool, .progs, .svc, .herds, .hrd, .host, .bindings, .dct, .images, .fw]) :
    (State.resetHidden s .sw cold).view wt = s.view wt := by
  simp at hoff
  simp [State.resetHidden, hoff, Chip.view, Chip.rest, Pool.view, Pool.rest, Svc.view, Svc.rest, Herds.view, Herds.rest, Dct.view, Dct.rest, Dct.held, Fw.view, Fw.rest, Fw.held]

@[simp] theorem State_resetHidden_ep_frame (s : State) (cold : Bool) (hoff : Off wt [.rly, .cmds, .ddp, .reqs, .ag, .sec]) :
    (State.resetHidden s .ep cold).view wt = s.view wt := by
  simp at hoff
  unfold State.resetHidden; (try simp only [sw_beq_ep, ep_beq_sw, sw_beq_sw, ep_beq_ep, Bool.false_eq_true, Bool.true_and, Bool.false_and, if_true, if_false]); (repeat' split) <;> first | contradiction | simp +decide [State.resetHidden, hoff, State.view, SwState.view, EpState.view, -view_eta]

@[simp] theorem State_toStep_sw_frame (s : State) (n : Nat) (hoff : Off wt [.page .sw 0x3, .chip .sw]) :
    (State.toStep s .sw n).view wt = s.view wt := by
  simp at hoff
  simp [State.toStep, hoff, Chip.view, Chip.rest, Pool.view, Pool.rest, Svc.view, Svc.rest, Herds.view, Herds.rest, Dct.view, Dct.rest, Dct.held, Fw.view, Fw.rest, Fw.held]

@[simp] theorem State_toStep_ep_frame (s : State) (n : Nat) (hoff : Off wt [.chip .ep]) :
    (State.toStep s .ep n).view wt = s.view wt := by
  simp at hoff
  simp only [State.toStep, ep_beq_sw, State.when, Bool.false_eq_true, if_false]
  exact onChip_ep_view _ _ fun c => by simp [hoff, Chip.view, Chip.rest]

@[simp] theorem State_coldReset_sw_frame (s : State) (hoff : Off wt [.regs .sw, .ltc .sw, .log .sw, .ports .sw, .sync .sw, .chip .sw, .core, .mem, .pool, .progs, .svc, .herds, .hrd, .host, .bindings, .dct, .images, .fw, .sent]) :
    (State.coldReset s .sw).view wt = s.view wt := by
  simp at hoff
  simp [State.coldReset, hoff, Chip.view, Chip.rest, Pool.view, Pool.rest, Svc.view, Svc.rest, Herds.view, Herds.rest, Dct.view, Dct.rest, Dct.held, Fw.view, Fw.rest, Fw.held]

@[simp] theorem State_coldReset_ep_frame (s : State) (hoff : Off wt [.regs .ep, .ltc .ep, .log .ep, .ports .ep, .sync .ep, .chip .ep, .rly, .cmds, .ddp, .reqs, .ag, .sec, .sent]) :
    (State.coldReset s .ep).view wt = s.view wt := by
  simp at hoff
  simp only [State.coldReset, ep_beq_sw, State.when, Bool.false_eq_true, if_false]
  simp [hoff]

@[simp] theorem State_warmReset_sw_frame (s : State) (cause : Nat) (hoff : Off wt [.regs .sw, .ltc .sw, .log .sw, .ports .sw, .sync .sw, .chip .sw, .core, .mem, .pool, .progs, .svc, .herds, .hrd, .host, .bindings, .dct, .images, .fw, .sent, .free]) :
    (State.warmReset s .sw cause).view wt = s.view wt := by
  simp at hoff
  simp [State.warmReset, hoff, Chip.view, Chip.rest, Pool.view, Pool.rest, Svc.view, Svc.rest, Herds.view, Herds.rest, Dct.view, Dct.rest, Dct.held, Fw.view, Fw.rest, Fw.held]

@[simp] theorem State_warmReset_ep_frame (s : State) (cause : Nat) (hoff : Off wt [.regs .ep, .ltc .ep, .log .ep, .ports .ep, .sync .ep, .chip .ep, .rly, .cmds, .ddp, .reqs, .ag, .sec, .sent]) :
    (State.warmReset s .ep cause).view wt = s.view wt := by
  simp at hoff
  simp [State.warmReset, hoff, Chip.view, Chip.rest, Pool.view, Pool.rest, Svc.view, Svc.rest, Herds.view, Herds.rest, Dct.view, Dct.rest, Dct.held, Fw.view, Fw.rest, Fw.held]

@[simp] theorem State_toL7_sw_frame (s : State) (cause : Nat) (page : Nat) (hoff : Off wt [.regs .sw, .ltc .sw, .log .sw, .ports .sw, .sync .sw, .chip .sw, .core, .mem, .pool, .progs, .svc, .herds, .hrd, .host, .bindings, .dct, .images, .fw, .sent, .free]) :
    (State.toL7 s .sw cause page).view wt = s.view wt := by
  simp at hoff
  simp [State.toL7, hoff, Chip.view, Chip.rest, Pool.view, Pool.rest, Svc.view, Svc.rest, Herds.view, Herds.rest, Dct.view, Dct.rest, Dct.held, Fw.view, Fw.rest, Fw.held]

@[simp] theorem State_toL7_ep_frame (s : State) (cause : Nat) (page : Nat) (hoff : Off wt [.regs .ep, .ltc .ep, .log .ep, .ports .ep, .sync .ep, .chip .ep, .rly, .cmds, .ddp, .reqs, .ag, .sec, .sent]) :
    (State.toL7 s .ep cause page).view wt = s.view wt := by
  simp at hoff
  simp [State.toL7, hoff, Chip.view, Chip.rest, Pool.view, Pool.rest, Svc.view, Svc.rest, Herds.view, Herds.rest, Dct.view, Dct.rest, Dct.held, Fw.view, Fw.rest, Fw.held]

@[simp] theorem State_stopMain_sw_frame (s : State) (hoff : Off wt [.regs .sw, .ltc .sw, .log .sw, .ports .sw, .sync .sw, .chip .sw, .core, .mem, .pool, .progs, .svc, .herds, .hrd, .host, .bindings, .dct, .images, .fw, .sent]) :
    (State.stopMain s .sw).view wt = s.view wt := by
  simp at hoff
  simp [State.stopMain, hoff, Chip.view, Chip.rest, Pool.view, Pool.rest, Svc.view, Svc.rest, Herds.view, Herds.rest, Dct.view, Dct.rest, Dct.held, Fw.view, Fw.rest, Fw.held]

@[simp] theorem State_stopMain_ep_frame (s : State) (hoff : Off wt [.regs .ep, .ltc .ep, .log .ep, .ports .ep, .sync .ep, .chip .ep, .rly, .cmds, .ddp, .reqs, .ag, .sec, .sent]) :
    (State.stopMain s .ep).view wt = s.view wt := by
  simp at hoff
  simp only [State.stopMain, ep_beq_sw, State.when, Bool.false_eq_true, if_false]
  simp [hoff, Chip.view, Chip.rest]

theorem standbyPowerOn_sw_frame (samples : List Nat) (s : State) (hoff : Off wt [.hdr .sw, .page .sw 0x3, .page .sw 0x5, .page .sw 0xb, .log .sw, .chip .sw, .sent]) :
    (standbyPowerOn .sw samples s).view wt = s.view wt := by
  simp at hoff
  simp [standbyPowerOn, hoff, Chip.view, Chip.rest, Pool.view, Pool.rest, Svc.view, Svc.rest, Herds.view, Herds.rest, Dct.view, Dct.rest, Dct.held, Fw.view, Fw.rest, Fw.held]

theorem standbyPowerOn_ep_frame (samples : List Nat) (s : State) (hoff : Off wt [.chip .ep]) :
    (standbyPowerOn .ep samples s).view wt = s.view wt := by
  simp at hoff
  simp [standbyPowerOn, hoff, Chip.view, Chip.rest, Pool.view, Pool.rest, Svc.view, Svc.rest, Herds.view, Herds.rest, Dct.view, Dct.rest, Dct.held, Fw.view, Fw.rest, Fw.held]

theorem standbyPowerOff_sw_frame (s : State) (hoff : Off wt [.regs .sw, .log .sw, .chip .sw]) :
    (standbyPowerOff .sw s).view wt = s.view wt := by
  simp at hoff
  simp [standbyPowerOff, hoff, Chip.view, Chip.rest, Pool.view, Pool.rest, Svc.view, Svc.rest, Herds.view, Herds.rest, Dct.view, Dct.rest, Dct.held, Fw.view, Fw.rest, Fw.held]

theorem standbyPowerOff_ep_frame (s : State) (hoff : Off wt [.regs .ep, .log .ep, .chip .ep]) :
    (standbyPowerOff .ep s).view wt = s.view wt := by
  simp at hoff
  simp [standbyPowerOff, hoff, Chip.view, Chip.rest, Pool.view, Pool.rest, Svc.view, Svc.rest, Herds.view, Herds.rest, Dct.view, Dct.rest, Dct.held, Fw.view, Fw.rest, Fw.held]

theorem mainRailsLost_sw_frame (s : State) (hoff : Off wt [.regs .sw, .ltc .sw, .log .sw, .ports .sw, .sync .sw, .chip .sw, .core, .mem, .pool, .progs, .svc, .herds, .hrd, .host, .bindings, .dct, .images, .fw, .sent]) :
    (mainRailsLost .sw s).view wt = s.view wt := by
  simp at hoff
  simp [mainRailsLost, hoff, Chip.view, Chip.rest, Pool.view, Pool.rest, Svc.view, Svc.rest, Herds.view, Herds.rest, Dct.view, Dct.rest, Dct.held, Fw.view, Fw.rest, Fw.held]

theorem mainRailsLost_ep_frame (s : State) (hoff : Off wt [.regs .ep, .ltc .ep, .log .ep, .ports .ep, .sync .ep, .chip .ep, .rly, .cmds, .ddp, .reqs, .ag, .sec, .sent]) :
    (mainRailsLost .ep s).view wt = s.view wt := by
  simp at hoff
  simp only [mainRailsLost, ep_beq_sw, State.when, Bool.false_eq_true, if_false]
  split <;> simp [hoff, Chip.view, Chip.rest]

theorem mainRailsOn_sw_frame (s : State) (hoff : Off wt [.regs .sw, .ltc .sw, .log .sw, .ports .sw, .sync .sw, .chip .sw, .core, .mem, .pool, .progs, .svc, .herds, .hrd, .host, .bindings, .dct, .images, .fw, .sent]) :
    (mainRailsOn .sw s).view wt = s.view wt := by
  simp at hoff
  simp [mainRailsOn, hoff, Chip.view, Chip.rest, Pool.view, Pool.rest, Svc.view, Svc.rest, Herds.view, Herds.rest, Dct.view, Dct.rest, Dct.held, Fw.view, Fw.rest, Fw.held]

theorem mainRailsOn_ep_frame (s : State) (hoff : Off wt [.regs .ep, .ltc .ep, .log .ep, .ports .ep, .sync .ep, .chip .ep, .rly, .cmds, .ddp, .reqs, .ag, .sec, .sent]) :
    (mainRailsOn .ep s).view wt = s.view wt := by
  simp at hoff
  simp [mainRailsOn, hoff, Chip.view, Chip.rest, Pool.view, Pool.rest, Svc.view, Svc.rest, Herds.view, Herds.rest, Dct.view, Dct.rest, Dct.held, Fw.view, Fw.rest, Fw.held]

@[simp] theorem State_begin_sw_frame (s : State) (samples : List Nat) (hoff : Off wt [.hdr .sw, .page .sw 0x0, .page .sw 0x1, .page .sw 0x3, .page .sw 0x5, .page .sw 0xb, .log .sw, .chip .sw, .sent]) :
    (State.begin s .sw samples).view wt = s.view wt := by
  simp at hoff
  simp [State.begin, hoff, Chip.view, Chip.rest, Pool.view, Pool.rest, Svc.view, Svc.rest, Herds.view, Herds.rest, Dct.view, Dct.rest, Dct.held, Fw.view, Fw.rest, Fw.held]

@[simp] theorem State_begin_ep_frame (s : State) (samples : List Nat) (hoff : Off wt [.hdr .ep, .page .ep 0x0, .page .ep 0x1, .page .ep 0x4, .page .ep 0xb, .log .ep, .chip .ep, .sent]) :
    (State.begin s .ep samples).view wt = s.view wt := by
  simp at hoff
  simp [State.begin, hoff, Chip.view, Chip.rest, Pool.view, Pool.rest, Svc.view, Svc.rest, Herds.view, Herds.rest, Dct.view, Dct.rest, Dct.held, Fw.view, Fw.rest, Fw.held]

theorem resetRelease_sw_frame (samples : List Nat) (s : State) (hoff : Off wt [.hdr .sw, .page .sw 0x0, .page .sw 0x1, .page .sw 0x3, .page .sw 0x5, .page .sw 0xb, .log .sw, .chip .sw, .sent]) :
    (resetRelease .sw samples s).view wt = s.view wt := by
  simp at hoff
  simp [resetRelease, hoff, Chip.view, Chip.rest, Pool.view, Pool.rest, Svc.view, Svc.rest, Herds.view, Herds.rest, Dct.view, Dct.rest, Dct.held, Fw.view, Fw.rest, Fw.held]

theorem resetRelease_ep_frame (samples : List Nat) (s : State) (hoff : Off wt [.hdr .ep, .page .ep 0x0, .page .ep 0x1, .page .ep 0x4, .page .ep 0xb, .log .ep, .chip .ep, .sent]) :
    (resetRelease .ep samples s).view wt = s.view wt := by
  simp at hoff
  simp [resetRelease, hoff, Chip.view, Chip.rest, Pool.view, Pool.rest, Svc.view, Svc.rest, Herds.view, Herds.rest, Dct.view, Dct.rest, Dct.held, Fw.view, Fw.rest, Fw.held]

@[simp] theorem State_beginTack_frame (s : State) (hoff : Off wt [.regs .sw, .ports .sw]) :
    (State.beginTack s).view wt = s.view wt := by
  simp at hoff
  simp [State.beginTack, hoff, Chip.view, Chip.rest, Pool.view, Pool.rest, Svc.view, Svc.rest, Herds.view, Herds.rest, Dct.view, Dct.rest, Dct.held, Fw.view, Fw.rest, Fw.held]

@[simp] theorem State_boots_frame (s : State) (kind : Nat) (b : Nat × Bool) (hoff : Off wt [.fw]) :
    (State.boots s kind b).view wt = s.view wt := by
  simp at hoff
  simp [State.boots, hoff, Chip.view, Chip.rest, Pool.view, Pool.rest, Svc.view, Svc.rest, Herds.view, Herds.rest, Dct.view, Dct.rest, Dct.held, Fw.view, Fw.rest, Fw.held]

@[simp] theorem State_applyImage_frame (s : State) (c : CfgImage) (hoff : Off wt [.regs .sw, .core, .bindings]) :
    (State.applyImage s c).view wt = s.view wt := by
  simp at hoff
  unfold State.applyImage; (try simp only [sw_beq_ep, ep_beq_sw, sw_beq_sw, ep_beq_ep, Bool.false_eq_true, Bool.true_and, Bool.false_and, if_true, if_false]); repeat' (first | contradiction | (simp +decide [State.applyImage, hoff, Chip.view, Chip.rest, Pool.view, Pool.rest, Svc.view, Svc.rest, Herds.view, Herds.rest, Dct.view, Dct.rest, Dct.held, Fw.view, Fw.rest, Fw.held]; done) | (intros; split) | (intros; first | refine Eq.trans (foldl_view _ _ _ fun _ _ => ?_) ?_ | refine Eq.trans (foldl_fst_view _ _ _ fun _ _ => ?_) ?_ | refine Eq.trans (when_view _ _ _ ?_) ?_) | dsimp only | simp +decide [State.applyImage, hoff])

@[simp] theorem State_trainHbm_frame (s : State) (bad : List Nat) (hoff : Off wt [.hdr .sw, .page .sw 0x5, .page .sw 0xb, .page .sw 0x30, .page .sw 0x40, .log .sw, .pool, .sent, .free]) :
    (State.trainHbm s bad).view wt = s.view wt := by
  simp at hoff
  simp [State.trainHbm, hoff, Chip.view, Chip.rest, Pool.view, Pool.rest, Svc.view, Svc.rest, Herds.view, Herds.rest, Dct.view, Dct.rest, Dct.held, Fw.view, Fw.rest, Fw.held]

@[simp] theorem State_bringUpBulk_frame (s : State) (hoff : Off wt [.hdr .sw, .page .sw 0x5, .page .sw 0xb, .page .sw 0x11, .page .sw 0x13, .page .sw 0x14, .page .sw 0x20, .page .sw 0x21, .page .sw 0x30, .page .sw 0x31, .page .sw 0x32, .page .sw 0x40, .page .sw 0x50, .page .sw 0x51, .page .sw 0x300, .log .sw, .ports .sw, .sync .sw, .core, .mem, .pool, .svc, .herds, .hrd, .host, .sent, .free]) :
    (State.bringUpBulk s).view wt = s.view wt := by
  simp at hoff
  simp [State.bringUpBulk, hoff, Chip.view, Chip.rest, Pool.view, Pool.rest, Svc.view, Svc.rest, Herds.view, Herds.rest, Dct.view, Dct.rest, Dct.held, Fw.view, Fw.rest, Fw.held]

@[simp] theorem State_enterTen_frame (s : State) (hoff : Off wt [.regs .sw, .log .sw, .ports .sw, .sync .sw, .chip .sw, .core, .mem, .pool, .svc, .herds, .hrd, .host, .sent, .free]) :
    (State.enterTen s).view wt = s.view wt := by
  simp at hoff
  simp [State.enterTen, hoff, Chip.view, Chip.rest, Pool.view, Pool.rest, Svc.view, Svc.rest, Herds.view, Herds.rest, Dct.view, Dct.rest, Dct.held, Fw.view, Fw.rest, Fw.held]

theorem startupStepDone_frame (bad : List Nat) (imageOk : Bool) (s : State) (hoff : Off wt [.regs .sw, .log .sw, .ports .sw, .sync .sw, .chip .sw, .core, .mem, .pool, .svc, .herds, .hrd, .host, .bindings, .fw, .sent, .free]) :
    (startupStepDone bad imageOk s).view wt = s.view wt := by
  simp at hoff
  have hf : ∀ t : State, ((upTo 64).foldl (fun s c => (s.put .sw RDC_STS_STATE 2 0 c).put .sw RDC_SELFTEST_STS_BUSY 1 0 c) t).view wt = t.view wt :=
    fun t => foldl_view _ _ _ fun s c => by simp [hoff]
  have hc : ∀ t : State, ((upTo 4).foldl State.cpuRuns t).view wt = t.view wt := fun t => foldl_view _ _ _ fun s c => by simp [hoff]
  have hl : ∀ t : State, s.loadImage imageOk = some t → t.view wt = s.view wt := by
    intro t h
    unfold State.loadImage at h
    dsimp only at h
    (repeat' split at h) <;> simp only [Option.some.injEq, reduceCtorEq] at h
    · rw [← h]
    · rw [← h]; simp [hoff]
    · rw [← h, foldl_view _ _ _ fun s c => by simp [hoff]]; simp [hoff]
  unfold startupStepDone
  dsimp only
  (repeat' split) <;> first
    | rfl
    | (rename_i h; simp [hoff, hl _ h]; done)
    | simp [hf, hc, hoff]

@[simp] theorem State_setGroup_frame (s : State) (x : Word) (hoff : Off wt [.regs .sw, .ports .sw]) :
    (State.setGroup s x).1.view wt = s.view wt := by
  simp at hoff
  simp [State.setGroup, hoff, Chip.view, Chip.rest, Pool.view, Pool.rest, Svc.view, Svc.rest, Herds.view, Herds.rest, Dct.view, Dct.rest, Dct.held, Fw.view, Fw.rest, Fw.held]

theorem switchGroupWrite_frame (path : Path) (x : Word) (s : State) (hoff : Off wt [.regs .sw, .ports .sw, .sent]) :
    (switchGroupWrite path x s).view wt = s.view wt := by
  simp at hoff
  simp [switchGroupWrite, hoff, Chip.view, Chip.rest, Pool.view, Pool.rest, Svc.view, Svc.rest, Herds.view, Herds.rest, Dct.view, Dct.rest, Dct.held, Fw.view, Fw.rest, Fw.held]

@[simp] theorem State_setLayout_frame (s : State) (x : Word) (hoff : Off wt [.hdr .sw, .page .sw 0x0, .page .sw 0xb]) :
    (State.setLayout s x).1.view wt = s.view wt := by
  simp at hoff
  simp [State.setLayout, hoff, Chip.view, Chip.rest, Pool.view, Pool.rest, Svc.view, Svc.rest, Herds.view, Herds.rest, Dct.view, Dct.rest, Dct.held, Fw.view, Fw.rest, Fw.held]

theorem layoutWrite_frame (path : Path) (x : Word) (s : State) (hoff : Off wt [.hdr .sw, .page .sw 0x0, .page .sw 0xb, .sent]) :
    (layoutWrite path x s).view wt = s.view wt := by
  simp at hoff
  simp [layoutWrite, hoff, Chip.view, Chip.rest, Pool.view, Pool.rest, Svc.view, Svc.rest, Herds.view, Herds.rest, Dct.view, Dct.rest, Dct.held, Fw.view, Fw.rest, Fw.held]

theorem endpointStartupStepDone_frame (modules : Nat) (s : State) (hoff : Off wt [.page .ep 0x1, .page .ep 0x2, .page .ep 0x6, .page .ep 0x40, .page .ep 0x100, .page .ep 0x200, .page .ep 0x280, .ports .ep, .chip .ep]) :
    (endpointStartupStepDone modules s).view wt = s.view wt := by
  simp at hoff
  unfold endpointStartupStepDone; (try simp only [sw_beq_ep, ep_beq_sw, sw_beq_sw, ep_beq_ep, Bool.false_eq_true, Bool.true_and, Bool.false_and, if_true, if_false]); (repeat' split) <;> (try dsimp only) <;> first | contradiction | simp +decide [endpointStartupStepDone, hoff, Chip.view, Chip.rest, Pool.view, Pool.rest, Svc.view, Svc.rest, Herds.view, Herds.rest, Dct.view, Dct.rest, Dct.held, Fw.view, Fw.rest, Fw.held]

theorem rstNPulse_sw_frame (ns : Nat) (s : State) (hoff : Off wt [.regs .sw, .ltc .sw, .log .sw, .ports .sw, .sync .sw, .chip .sw, .core, .mem, .pool, .progs, .svc, .herds, .hrd, .host, .bindings, .dct, .images, .fw, .sent]) :
    (rstNPulse .sw ns s).view wt = s.view wt := by
  simp at hoff
  simp [rstNPulse, hoff, Chip.view, Chip.rest, Pool.view, Pool.rest, Svc.view, Svc.rest, Herds.view, Herds.rest, Dct.view, Dct.rest, Dct.held, Fw.view, Fw.rest, Fw.held]

theorem rstNPulse_ep_frame (ns : Nat) (s : State) (hoff : Off wt [.regs .ep, .ltc .ep, .log .ep, .ports .ep, .sync .ep, .chip .ep, .rly, .cmds, .ddp, .reqs, .ag, .sec, .sent]) :
    (rstNPulse .ep ns s).view wt = s.view wt := by
  simp at hoff
  simp [rstNPulse, hoff, Chip.view, Chip.rest, Pool.view, Pool.rest, Svc.view, Svc.rest, Herds.view, Herds.rest, Dct.view, Dct.rest, Dct.held, Fw.view, Fw.rest, Fw.held]

@[simp] theorem State_rstColdW_frame (s : State) (path : Path) (hoff : Off wt [.regs .sw, .ltc .sw, .log .sw, .ports .sw, .sync .sw, .chip .sw, .core, .mem, .pool, .progs, .svc, .herds, .hrd, .host, .bindings, .dct, .images, .fw, .sent]) :
    (State.rstColdW s path).1.view wt = s.view wt := by
  simp at hoff
  simp [State.rstColdW, hoff, Chip.view, Chip.rest, Pool.view, Pool.rest, Svc.view, Svc.rest, Herds.view, Herds.rest, Dct.view, Dct.rest, Dct.held, Fw.view, Fw.rest, Fw.held]

theorem rstCold_frame (path : Path) (s : State) (hoff : Off wt [.regs .sw, .ltc .sw, .log .sw, .ports .sw, .sync .sw, .chip .sw, .core, .mem, .pool, .progs, .svc, .herds, .hrd, .host, .bindings, .dct, .images, .fw, .sent]) :
    (rstCold path s).view wt = s.view wt := by
  simp at hoff
  simp [rstCold, hoff, Chip.view, Chip.rest, Pool.view, Pool.rest, Svc.view, Svc.rest, Herds.view, Herds.rest, Dct.view, Dct.rest, Dct.held, Fw.view, Fw.rest, Fw.held]

@[simp] theorem State_rstWarmW_frame (s : State) (hoff : Off wt [.regs .sw, .ltc .sw, .log .sw, .ports .sw, .sync .sw, .chip .sw, .core, .mem, .pool, .progs, .svc, .herds, .hrd, .host, .bindings, .dct, .images, .fw, .sent, .free]) :
    (State.rstWarmW s).1.view wt = s.view wt := by
  simp at hoff
  simp [State.rstWarmW, hoff, Chip.view, Chip.rest, Pool.view, Pool.rest, Svc.view, Svc.rest, Herds.view, Herds.rest, Dct.view, Dct.rest, Dct.held, Fw.view, Fw.rest, Fw.held]

theorem rstWarm_frame (path : Path) (s : State) (hoff : Off wt [.regs .sw, .ltc .sw, .log .sw, .ports .sw, .sync .sw, .chip .sw, .core, .mem, .pool, .progs, .svc, .herds, .hrd, .host, .bindings, .dct, .images, .fw, .sent, .free]) :
    (rstWarm path s).view wt = s.view wt := by
  simp at hoff
  simp [rstWarm, hoff, Chip.view, Chip.rest, Pool.view, Pool.rest, Svc.view, Svc.rest, Herds.view, Herds.rest, Dct.view, Dct.rest, Dct.held, Fw.view, Fw.rest, Fw.held]

@[simp] theorem State_clearFabric_sw_frame (s : State) (hoff : Off wt [.regs .sw, .ltc .sw, .log .sw, .ports .sw, .sync .sw, .chip .sw]) :
    (State.clearFabric s .sw).view wt = s.view wt := by
  simp at hoff
  simp [State.clearFabric, hoff, Chip.view, Chip.rest, Pool.view, Pool.rest, Svc.view, Svc.rest, Herds.view, Herds.rest, Dct.view, Dct.rest, Dct.held, Fw.view, Fw.rest, Fw.held]

@[simp] theorem State_clearFabric_ep_frame (s : State) (hoff : Off wt [.regs .ep, .ltc .ep, .log .ep, .ports .ep, .sync .ep, .chip .ep]) :
    (State.clearFabric s .ep).view wt = s.view wt := by
  simp at hoff
  simp [State.clearFabric, hoff, Chip.view, Chip.rest, Pool.view, Pool.rest, Svc.view, Svc.rest, Herds.view, Herds.rest, Dct.view, Dct.rest, Dct.held, Fw.view, Fw.rest, Fw.held]

@[simp] theorem State_fabricReset_sw_frame (s : State) (hoff : Off wt [.regs .sw, .ltc .sw, .log .sw, .ports .sw, .sync .sw, .chip .sw, .core, .mem, .pool, .svc, .herds, .hrd, .host, .dct, .sent, .free]) :
    (State.fabricReset s .sw).view wt = s.view wt := by
  simp at hoff
  simp [State.fabricReset, hoff, Chip.view, Chip.rest, Pool.view, Pool.rest, Svc.view, Svc.rest, Herds.view, Herds.rest, Dct.view, Dct.rest, Dct.held, Fw.view, Fw.rest, Fw.held]

@[simp] theorem State_fabricReset_ep_frame (s : State) (hoff : Off wt [.regs .ep, .ltc .ep, .log .ep, .ports .ep, .sync .ep, .chip .ep, .rly, .cmds, .reqs, .ag, .sent]) :
    (State.fabricReset s .ep).view wt = s.view wt := by
  simp at hoff
  simp [State.fabricReset, hoff, Chip.view, Chip.rest, Pool.view, Pool.rest, Svc.view, Svc.rest, Herds.view, Herds.rest, Dct.view, Dct.rest, Dct.held, Fw.view, Fw.rest, Fw.held]

@[simp] theorem State_rstFabricW_frame (s : State) (hoff : Off wt [.regs .sw, .ltc .sw, .log .sw, .ports .sw, .sync .sw, .chip .sw, .core, .mem, .pool, .svc, .herds, .hrd, .host, .dct, .sent, .free]) :
    (State.rstFabricW s).1.view wt = s.view wt := by
  simp at hoff
  simp [State.rstFabricW, hoff, Chip.view, Chip.rest, Pool.view, Pool.rest, Svc.view, Svc.rest, Herds.view, Herds.rest, Dct.view, Dct.rest, Dct.held, Fw.view, Fw.rest, Fw.held]

theorem rstFabric_frame (path : Path) (s : State) (hoff : Off wt [.regs .sw, .ltc .sw, .log .sw, .ports .sw, .sync .sw, .chip .sw, .core, .mem, .pool, .svc, .herds, .hrd, .host, .dct, .sent, .free]) :
    (rstFabric path s).view wt = s.view wt := by
  simp at hoff
  simp [rstFabric, hoff, Chip.view, Chip.rest, Pool.view, Pool.rest, Svc.view, Svc.rest, Herds.view, Herds.rest, Dct.view, Dct.rest, Dct.held, Fw.view, Fw.rest, Fw.held]

@[simp] theorem State_epWarmW_frame (s : State) (hoff : Off wt [.regs .ep, .ltc .ep, .log .ep, .ports .ep, .sync .ep, .chip .ep, .rly, .cmds, .ddp, .reqs, .ag, .sec, .sent]) :
    (State.epWarmW s).1.view wt = s.view wt := by
  simp at hoff
  simp [State.epWarmW, hoff, Chip.view, Chip.rest, Pool.view, Pool.rest, Svc.view, Svc.rest, Herds.view, Herds.rest, Dct.view, Dct.rest, Dct.held, Fw.view, Fw.rest, Fw.held]

theorem epRstWarm_frame (path : Path) (s : State) (hoff : Off wt [.regs .ep, .ltc .ep, .log .ep, .ports .ep, .sync .ep, .chip .ep, .rly, .cmds, .ddp, .reqs, .ag, .sec, .sent]) :
    (epRstWarm path s).view wt = s.view wt := by
  simp at hoff
  simp [epRstWarm, hoff, Chip.view, Chip.rest, Pool.view, Pool.rest, Svc.view, Svc.rest, Herds.view, Herds.rest, Dct.view, Dct.rest, Dct.held, Fw.view, Fw.rest, Fw.held]

@[simp] theorem State_epFabricW_frame (s : State) (hoff : Off wt [.regs .ep, .ltc .ep, .log .ep, .ports .ep, .sync .ep, .chip .ep, .rly, .cmds, .reqs, .ag, .sent]) :
    (State.epFabricW s).1.view wt = s.view wt := by
  simp at hoff
  simp [State.epFabricW, hoff, Chip.view, Chip.rest, Pool.view, Pool.rest, Svc.view, Svc.rest, Herds.view, Herds.rest, Dct.view, Dct.rest, Dct.held, Fw.view, Fw.rest, Fw.held]

theorem epRstFabric_frame (path : Path) (s : State) (hoff : Off wt [.regs .ep, .ltc .ep, .log .ep, .ports .ep, .sync .ep, .chip .ep, .rly, .cmds, .reqs, .ag, .sent]) :
    (epRstFabric path s).view wt = s.view wt := by
  simp at hoff
  simp [epRstFabric, hoff, Chip.view, Chip.rest, Pool.view, Pool.rest, Svc.view, Svc.rest, Herds.view, Herds.rest, Dct.view, Dct.rest, Dct.held, Fw.view, Fw.rest, Fw.held]

theorem tableEccFatal_frame (page : Nat) (s : State) (hoff : Off wt [.regs .sw, .ltc .sw, .log .sw, .ports .sw, .sync .sw, .chip .sw, .core, .mem, .pool, .progs, .svc, .herds, .hrd, .host, .bindings, .dct, .images, .fw, .sent, .free]) :
    (tableEccFatal page s).view wt = s.view wt := by
  simp at hoff
  simp [tableEccFatal, hoff, Chip.view, Chip.rest, Pool.view, Pool.rest, Svc.view, Svc.rest, Herds.view, Herds.rest, Dct.view, Dct.rest, Dct.held, Fw.view, Fw.rest, Fw.held]

theorem securityCoreFatalAlarm_frame (s : State) (hoff : Off wt [.regs .sw, .ltc .sw, .log .sw, .ports .sw, .sync .sw, .chip .sw, .core, .mem, .pool, .progs, .svc, .herds, .hrd, .host, .bindings, .dct, .images, .fw, .sent, .free]) :
    (securityCoreFatalAlarm s).view wt = s.view wt := by
  simp at hoff
  simp [securityCoreFatalAlarm, hoff, Chip.view, Chip.rest, Pool.view, Pool.rest, Svc.view, Svc.rest, Herds.view, Herds.rest, Dct.view, Dct.rest, Dct.held, Fw.view, Fw.rest, Fw.held]

theorem refLoss_sw_frame (s : State) (hoff : Off wt [.hdr .sw, .page .sw 0x1, .page .sw 0xb, .chip .sw, .free]) :
    (refLoss .sw s).view wt = s.view wt := by
  simp at hoff
  simp [refLoss, hoff, Chip.view, Chip.rest, Pool.view, Pool.rest, Svc.view, Svc.rest, Herds.view, Herds.rest, Dct.view, Dct.rest, Dct.held, Fw.view, Fw.rest, Fw.held]

theorem refLoss_ep_frame (s : State) (hoff : Off wt [.hdr .ep, .page .ep 0x1, .page .ep 0xb, .chip .ep, .free]) :
    (refLoss .ep s).view wt = s.view wt := by
  simp at hoff
  simp [refLoss, hoff, Chip.view, Chip.rest, Pool.view, Pool.rest, Svc.view, Svc.rest, Herds.view, Herds.rest, Dct.view, Dct.rest, Dct.held, Fw.view, Fw.rest, Fw.held]

theorem refReturn_sw_frame (ppm : Nat) (s : State) (hoff : Off wt [.page .sw 0x1, .chip .sw]) :
    (refReturn .sw ppm s).view wt = s.view wt := by
  simp at hoff
  unfold refReturn; (try simp only [sw_beq_ep, ep_beq_sw, sw_beq_sw, ep_beq_ep, Bool.false_eq_true, Bool.true_and, Bool.false_and, if_true, if_false]); (repeat' split) <;> (try dsimp only) <;> first | contradiction | simp +decide [refReturn, hoff, Chip.view, Chip.rest, Pool.view, Pool.rest, Svc.view, Svc.rest, Herds.view, Herds.rest, Dct.view, Dct.rest, Dct.held, Fw.view, Fw.rest, Fw.held]

theorem refReturn_ep_frame (ppm : Nat) (s : State) (hoff : Off wt [.page .ep 0x1, .chip .ep]) :
    (refReturn .ep ppm s).view wt = s.view wt := by
  simp at hoff
  unfold refReturn; (try simp only [sw_beq_ep, ep_beq_sw, sw_beq_sw, ep_beq_ep, Bool.false_eq_true, Bool.true_and, Bool.false_and, if_true, if_false]); (repeat' split) <;> (try dsimp only) <;> first | contradiction | simp +decide [refReturn, hoff, Chip.view, Chip.rest, Pool.view, Pool.rest, Svc.view, Svc.rest, Herds.view, Herds.rest, Dct.view, Dct.rest, Dct.held, Fw.view, Fw.rest, Fw.held]

theorem holdoverExpiry_sw_frame (s : State) (hoff : Off wt [.regs .sw, .ltc .sw, .log .sw, .ports .sw, .sync .sw, .chip .sw, .core, .mem, .pool, .progs, .svc, .herds, .hrd, .host, .bindings, .dct, .images, .fw, .sent, .free]) :
    (holdoverExpiry .sw s).view wt = s.view wt := by
  simp at hoff
  unfold holdoverExpiry; (try simp only [sw_beq_ep, ep_beq_sw, sw_beq_sw, ep_beq_ep, Bool.false_eq_true, Bool.true_and, Bool.false_and, if_true, if_false]); (repeat' split) <;> (try dsimp only) <;> first | contradiction | simp +decide [holdoverExpiry, hoff, Chip.view, Chip.rest, Pool.view, Pool.rest, Svc.view, Svc.rest, Herds.view, Herds.rest, Dct.view, Dct.rest, Dct.held, Fw.view, Fw.rest, Fw.held]

theorem holdoverExpiry_ep_frame (s : State) (hoff : Off wt [.regs .ep, .ltc .ep, .log .ep, .ports .ep, .sync .ep, .chip .ep, .rly, .cmds, .ddp, .reqs, .ag, .sec, .sent]) :
    (holdoverExpiry .ep s).view wt = s.view wt := by
  simp at hoff
  unfold holdoverExpiry; (try simp only [sw_beq_ep, ep_beq_sw, sw_beq_sw, ep_beq_ep, Bool.false_eq_true, Bool.true_and, Bool.false_and, if_true, if_false]); (repeat' split) <;> (try dsimp only) <;> first | contradiction | simp +decide [holdoverExpiry, hoff, Chip.view, Chip.rest, Pool.view, Pool.rest, Svc.view, Svc.rest, Herds.view, Herds.rest, Dct.view, Dct.rest, Dct.held, Fw.view, Fw.rest, Fw.held]

theorem pllLockLoss_sw_frame (s : State) (hoff : Off wt [.regs .sw, .ltc .sw, .log .sw, .ports .sw, .sync .sw, .chip .sw, .core, .mem, .pool, .progs, .svc, .herds, .hrd, .host, .bindings, .dct, .images, .fw, .sent, .free]) :
    (pllLockLoss .sw s).view wt = s.view wt := by
  simp at hoff
  simp [pllLockLoss, hoff, Chip.view, Chip.rest, Pool.view, Pool.rest, Svc.view, Svc.rest, Herds.view, Herds.rest, Dct.view, Dct.rest, Dct.held, Fw.view, Fw.rest, Fw.held]

theorem pllLockLoss_ep_frame (s : State) (hoff : Off wt [.regs .ep, .ltc .ep, .log .ep, .ports .ep, .sync .ep, .chip .ep, .rly, .cmds, .ddp, .reqs, .ag, .sec, .sent]) :
    (pllLockLoss .ep s).view wt = s.view wt := by
  simp at hoff
  simp [pllLockLoss, hoff, Chip.view, Chip.rest, Pool.view, Pool.rest, Svc.view, Svc.rest, Herds.view, Herds.rest, Dct.view, Dct.rest, Dct.held, Fw.view, Fw.rest, Fw.held]

@[simp] theorem State_trip_sw_frame (s : State) (hoff : Off wt [.regs .sw, .ltc .sw, .log .sw, .ports .sw, .sync .sw, .chip .sw, .core, .mem, .pool, .progs, .svc, .herds, .hrd, .host, .bindings, .dct, .images, .fw, .sent]) :
    (State.trip s .sw).view wt = s.view wt := by
  simp at hoff
  simp [State.trip, hoff, Chip.view, Chip.rest, Pool.view, Pool.rest, Svc.view, Svc.rest, Herds.view, Herds.rest, Dct.view, Dct.rest, Dct.held, Fw.view, Fw.rest, Fw.held]

@[simp] theorem State_trip_ep_frame (s : State) (hoff : Off wt [.regs .ep, .ltc .ep, .log .ep, .ports .ep, .sync .ep, .chip .ep, .rly, .cmds, .ddp, .reqs, .ag, .sec, .sent]) :
    (State.trip s .ep).view wt = s.view wt := by
  simp at hoff
  simp [State.trip, hoff, Chip.view, Chip.rest, Pool.view, Pool.rest, Svc.view, Svc.rest, Herds.view, Herds.rest, Dct.view, Dct.rest, Dct.held, Fw.view, Fw.rest, Fw.held]

theorem dieSensorSample_sw_frame (temps : List Nat) (s : State) (hoff : Off wt [.regs .sw, .ltc .sw, .log .sw, .ports .sw, .sync .sw, .chip .sw, .core, .mem, .pool, .progs, .svc, .herds, .hrd, .host, .bindings, .dct, .images, .fw, .sent]) :
    (dieSensorSample .sw temps s).view wt = s.view wt := by
  simp at hoff
  simp [dieSensorSample, hoff, Chip.view, Chip.rest, Pool.view, Pool.rest, Svc.view, Svc.rest, Herds.view, Herds.rest, Dct.view, Dct.rest, Dct.held, Fw.view, Fw.rest, Fw.held]

theorem dieSensorSample_ep_frame (temps : List Nat) (s : State) (hoff : Off wt [.regs .ep, .ltc .ep, .log .ep, .ports .ep, .sync .ep, .chip .ep, .rly, .cmds, .ddp, .reqs, .ag, .sec, .sent]) :
    (dieSensorSample .ep temps s).view wt = s.view wt := by
  simp at hoff
  simp [dieSensorSample, hoff, Chip.view, Chip.rest, Pool.view, Pool.rest, Svc.view, Svc.rest, Herds.view, Herds.rest, Dct.view, Dct.rest, Dct.held, Fw.view, Fw.rest, Fw.held]

@[simp] theorem State_tapTo_sw_frame (s : State) (i : TapInstr) (samples : List Nat) (hoff : Off wt [.hdr .sw, .page .sw 0x0, .page .sw 0x1, .page .sw 0x3, .page .sw 0x5, .page .sw 0xb, .log .sw, .chip .sw, .sent]) :
    (State.tapTo s .sw i samples).view wt = s.view wt := by
  simp at hoff
  simp [State.tapTo, hoff, Chip.view, Chip.rest, Pool.view, Pool.rest, Svc.view, Svc.rest, Herds.view, Herds.rest, Dct.view, Dct.rest, Dct.held, Fw.view, Fw.rest, Fw.held]

@[simp] theorem State_tapTo_ep_frame (s : State) (i : TapInstr) (samples : List Nat) (hoff : Off wt [.hdr .ep, .page .ep 0x0, .page .ep 0x1, .page .ep 0x4, .page .ep 0xb, .log .ep, .chip .ep, .sent]) :
    (State.tapTo s .ep i samples).view wt = s.view wt := by
  simp at hoff
  simp [State.tapTo, hoff, Chip.view, Chip.rest, Pool.view, Pool.rest, Svc.view, Svc.rest, Herds.view, Herds.rest, Dct.view, Dct.rest, Dct.held, Fw.view, Fw.rest, Fw.held]

theorem tapInstructionLoad_sw_frame (code : Nat) (samples : List Nat) (s : State) (hoff : Off wt [.hdr .sw, .page .sw 0x0, .page .sw 0x1, .page .sw 0x3, .page .sw 0x5, .page .sw 0xb, .log .sw, .chip .sw, .sent]) :
    (tapInstructionLoad .sw code samples s).view wt = s.view wt := by
  simp at hoff
  simp [tapInstructionLoad, hoff, Chip.view, Chip.rest, Pool.view, Pool.rest, Svc.view, Svc.rest, Herds.view, Herds.rest, Dct.view, Dct.rest, Dct.held, Fw.view, Fw.rest, Fw.held]

theorem tapInstructionLoad_ep_frame (code : Nat) (samples : List Nat) (s : State) (hoff : Off wt [.hdr .ep, .page .ep 0x0, .page .ep 0x1, .page .ep 0x4, .page .ep 0xb, .log .ep, .chip .ep, .sent]) :
    (tapInstructionLoad .ep code samples s).view wt = s.view wt := by
  simp at hoff
  simp [tapInstructionLoad, hoff, Chip.view, Chip.rest, Pool.view, Pool.rest, Svc.view, Svc.rest, Herds.view, Herds.rest, Dct.view, Dct.rest, Dct.held, Fw.view, Fw.rest, Fw.held]

theorem tapReset_sw_frame (samples : List Nat) (s : State) (hoff : Off wt [.hdr .sw, .page .sw 0x0, .page .sw 0x1, .page .sw 0x3, .page .sw 0x5, .page .sw 0xb, .log .sw, .chip .sw, .sent]) :
    (tapReset .sw samples s).view wt = s.view wt := by
  simp at hoff
  simp [tapReset, hoff, Chip.view, Chip.rest, Pool.view, Pool.rest, Svc.view, Svc.rest, Herds.view, Herds.rest, Dct.view, Dct.rest, Dct.held, Fw.view, Fw.rest, Fw.held]

theorem tapReset_ep_frame (samples : List Nat) (s : State) (hoff : Off wt [.hdr .ep, .page .ep 0x0, .page .ep 0x1, .page .ep 0x4, .page .ep 0xb, .log .ep, .chip .ep, .sent]) :
    (tapReset .ep samples s).view wt = s.view wt := by
  simp at hoff
  simp [tapReset, hoff, Chip.view, Chip.rest, Pool.view, Pool.rest, Svc.view, Svc.rest, Herds.view, Herds.rest, Dct.view, Dct.rest, Dct.held, Fw.view, Fw.rest, Fw.held]

@[simp] theorem State_rdcStsRead_frame (s : State) (c : Nat) (hoff : Off wt [.free]) :
    (State.rdcStsRead s c).1.view wt = s.view wt := by
  simp at hoff
  simp [State.rdcStsRead, hoff, Chip.view, Chip.rest, Pool.view, Pool.rest, Svc.view, Svc.rest, Herds.view, Herds.rest, Dct.view, Dct.rest, Dct.held, Fw.view, Fw.rest, Fw.held]

@[simp] theorem State_dropLog_sw_frame (s : State) (hoff : Off wt [.log .sw]) :
    (State.dropLog s .sw).view wt = s.view wt := by
  simp at hoff
  simp [State.dropLog, hoff, Chip.view, Chip.rest, Pool.view, Pool.rest, Svc.view, Svc.rest, Herds.view, Herds.rest, Dct.view, Dct.rest, Dct.held, Fw.view, Fw.rest, Fw.held]

@[simp] theorem State_dropLog_ep_frame (s : State) (hoff : Off wt [.log .ep]) :
    (State.dropLog s .ep).view wt = s.view wt := by
  simp at hoff
  simp [State.dropLog, hoff, Chip.view, Chip.rest, Pool.view, Pool.rest, Svc.view, Svc.rest, Herds.view, Herds.rest, Dct.view, Dct.rest, Dct.held, Fw.view, Fw.rest, Fw.held]

@[simp] theorem State_readReg_sw_frame (s : State) (o : Origin) (page : Nat) (l : RegPlace) (hoff : Off wt [.page .sw 0x20, .page .sw 0x21, .page .sw 0x22, .log .sw, .pool, .svc, .hrd, .free]) :
    (State.readReg s o .sw page l).1.view wt = s.view wt := by
  simp at hoff
  simp [State.readReg, hoff, Chip.view, Chip.rest, Pool.view, Pool.rest, Svc.view, Svc.rest, Herds.view, Herds.rest, Dct.view, Dct.rest, Dct.held, Fw.view, Fw.rest, Fw.held]

@[simp] theorem State_readReg_ep_frame (s : State) (o : Origin) (page : Nat) (l : RegPlace) (hoff : Off wt [.log .ep]) :
    (State.readReg s o .ep page l).1.view wt = s.view wt := by
  simp at hoff
  simp [State.readReg, hoff, Chip.view, Chip.rest, Pool.view, Pool.rest, Svc.view, Svc.rest, Herds.view, Herds.rest, Dct.view, Dct.rest, Dct.held, Fw.view, Fw.rest, Fw.held]

@[simp] theorem State_read4_sw_frame (s : State) (o : Origin) (page off : Nat) (hoff : Off wt [.page .sw 0x20, .page .sw 0x21, .page .sw 0x22, .log .sw, .pool, .svc, .hrd, .free]) :
    (State.read4 s o .sw page off).1.view wt = s.view wt := by
  simp at hoff
  unfold State.read4; (try simp only [sw_beq_ep, ep_beq_sw, sw_beq_sw, ep_beq_ep, Bool.false_eq_true, Bool.true_and, Bool.false_and, if_true, if_false]); (repeat' split) <;> (try dsimp only) <;> first | contradiction | simp +decide [State.read4, hoff, Chip.view, Chip.rest, Pool.view, Pool.rest, Svc.view, Svc.rest, Herds.view, Herds.rest, Dct.view, Dct.rest, Dct.held, Fw.view, Fw.rest, Fw.held]

@[simp] theorem State_read4_ep_frame (s : State) (o : Origin) (page off : Nat) (hoff : Off wt [.log .ep]) :
    (State.read4 s o .ep page off).1.view wt = s.view wt := by
  simp at hoff
  unfold State.read4; (try simp only [sw_beq_ep, ep_beq_sw, sw_beq_sw, ep_beq_ep, Bool.false_eq_true, Bool.true_and, Bool.false_and, if_true, if_false]); (repeat' split) <;> (try dsimp only) <;> first | contradiction | simp +decide [State.read4, hoff, Chip.view, Chip.rest, Pool.view, Pool.rest, Svc.view, Svc.rest, Herds.view, Herds.rest, Dct.view, Dct.rest, Dct.held, Fw.view, Fw.rest, Fw.held]

@[simp] theorem State_read8_sw_frame (s : State) (o : Origin) (page off : Nat) (hoff : Off wt [.page .sw 0x20, .page .sw 0x21, .page .sw 0x22, .log .sw, .pool, .svc, .hrd, .free]) :
    (State.read8 s o .sw page off).1.view wt = s.view wt := by
  simp at hoff
  unfold State.read8; (try simp only [sw_beq_ep, ep_beq_sw, sw_beq_sw, ep_beq_ep, Bool.false_eq_true, Bool.true_and, Bool.false_and, if_true, if_false]); (repeat' split) <;> (try dsimp only) <;> first | contradiction | simp +decide [State.read8, hoff, Chip.view, Chip.rest, Pool.view, Pool.rest, Svc.view, Svc.rest, Herds.view, Herds.rest, Dct.view, Dct.rest, Dct.held, Fw.view, Fw.rest, Fw.held]

@[simp] theorem State_read8_ep_frame (s : State) (o : Origin) (page off : Nat) (hoff : Off wt [.log .ep]) :
    (State.read8 s o .ep page off).1.view wt = s.view wt := by
  simp at hoff
  unfold State.read8; (try simp only [sw_beq_ep, ep_beq_sw, sw_beq_sw, ep_beq_ep, Bool.false_eq_true, Bool.true_and, Bool.false_and, if_true, if_false]); (repeat' split) <;> (try dsimp only) <;> first | contradiction | simp +decide [State.read8, hoff, Chip.view, Chip.rest, Pool.view, Pool.rest, Svc.view, Svc.rest, Herds.view, Herds.rest, Dct.view, Dct.rest, Dct.held, Fw.view, Fw.rest, Fw.held]

@[simp] theorem State_readBytes_sw_frame (s : State) (o : Origin) (page off size : Nat) (hoff : Off wt [.page .sw 0x20, .page .sw 0x21, .page .sw 0x22, .log .sw, .pool, .svc, .hrd, .free]) :
    (State.readBytes s o .sw page off size).1.view wt = s.view wt := by
  simp at hoff
  simp [State.readBytes, hoff, Chip.view, Chip.rest, Pool.view, Pool.rest, Svc.view, Svc.rest, Herds.view, Herds.rest, Dct.view, Dct.rest, Dct.held, Fw.view, Fw.rest, Fw.held]

@[simp] theorem State_readBytes_ep_frame (s : State) (o : Origin) (page off size : Nat) (hoff : Off wt [.log .ep]) :
    (State.readBytes s o .ep page off size).1.view wt = s.view wt := by
  simp at hoff
  simp [State.readBytes, hoff, Chip.view, Chip.rest, Pool.view, Pool.rest, Svc.view, Svc.rest, Herds.view, Herds.rest, Dct.view, Dct.rest, Dct.held, Fw.view, Fw.rest, Fw.held]

@[simp] theorem State_plainWrite_sw_frame (s : State) (page : Nat) (l : RegPlace) (x : Word) (hoff : Off wt [.regs .sw]) :
    (State.plainWrite s .sw page l x).1.view wt = s.view wt := by
  simp at hoff
  unfold State.plainWrite; (try simp only [sw_beq_ep, ep_beq_sw, sw_beq_sw, ep_beq_ep, Bool.false_eq_true, Bool.true_and, Bool.false_and, if_true, if_false]); (repeat' split) <;> (try dsimp only) <;> first | contradiction | simp +decide [State.plainWrite, hoff, Chip.view, Chip.rest, Pool.view, Pool.rest, Svc.view, Svc.rest, Herds.view, Herds.rest, Dct.view, Dct.rest, Dct.held, Fw.view, Fw.rest, Fw.held]

@[simp] theorem State_plainWrite_ep_frame (s : State) (page : Nat) (l : RegPlace) (x : Word) (hoff : Off wt [.regs .ep]) :
    (State.plainWrite s .ep page l x).1.view wt = s.view wt := by
  simp at hoff
  unfold State.plainWrite; (try simp only [sw_beq_ep, ep_beq_sw, sw_beq_sw, ep_beq_ep, Bool.false_eq_true, Bool.true_and, Bool.false_and, if_true, if_false]); (repeat' split) <;> (try dsimp only) <;> first | contradiction | simp +decide [State.plainWrite, hoff, Chip.view, Chip.rest, Pool.view, Pool.rest, Svc.view, Svc.rest, Herds.view, Herds.rest, Dct.view, Dct.rest, Dct.held, Fw.view, Fw.rest, Fw.held]

@[simp] theorem State_setGirth_frame (s : State) (x : Word) (hoff : Off wt [.hdr .sw, .page .sw 0xb, .page .sw 0x11]) :
    (State.setGirth s x).1.view wt = s.view wt := by
  simp at hoff
  simp [State.setGirth, hoff, Chip.view, Chip.rest, Pool.view, Pool.rest, Svc.view, Svc.rest, Herds.view, Herds.rest, Dct.view, Dct.rest, Dct.held, Fw.view, Fw.rest, Fw.held]

@[simp] theorem State_setPortCtl_frame (s : State) (x : Word) (hoff : Off wt [.hdr .sw, .page .sw 0x3, .page .sw 0x5, .page .sw 0x6, .page .sw 0x7, .page .sw 0x8, .page .sw 0xb, .page .sw 0x11, .page .sw 0x13, .page .sw 0x14, .page .sw 0x20, .page .sw 0x21, .page .sw 0x30, .page .sw 0x31, .page .sw 0x32, .page .sw 0x40, .page .sw 0x50, .page .sw 0x100, .page .sw 0x200, .page .sw 0x280, .page .sw 0x300, .log .sw, .ports .sw, .sync .sw, .chip .sw, .core, .mem, .pool, .svc, .herds, .hrd, .host, .dct, .sent, .free]) :
    (State.setPortCtl s x).1.view wt = s.view wt := by
  simp at hoff
  simp [State.setPortCtl, hoff, Chip.view, Chip.rest, Pool.view, Pool.rest, Svc.view, Svc.rest, Herds.view, Herds.rest, Dct.view, Dct.rest, Dct.held, Fw.view, Fw.rest, Fw.held]

@[simp] theorem State_setPortCfg_sw_frame (s : State) (page n : Nat) (l : RegPlace) (x : Word) (hoff : Off wt [.regs .sw]) :
    (State.setPortCfg s .sw page n l x).1.view wt = s.view wt := by
  simp at hoff
  simp [State.setPortCfg, hoff, Chip.view, Chip.rest, Pool.view, Pool.rest, Svc.view, Svc.rest, Herds.view, Herds.rest, Dct.view, Dct.rest, Dct.held, Fw.view, Fw.rest, Fw.held]

@[simp] theorem State_setPortCfg_ep_frame (s : State) (page n : Nat) (l : RegPlace) (x : Word) (hoff : Off wt [.regs .ep]) :
    (State.setPortCfg s .ep page n l x).1.view wt = s.view wt := by
  simp at hoff
  simp [State.setPortCfg, hoff, Chip.view, Chip.rest, Pool.view, Pool.rest, Svc.view, Svc.rest, Herds.view, Herds.rest, Dct.view, Dct.rest, Dct.held, Fw.view, Fw.rest, Fw.held]

@[simp] theorem State_setPortCommand_sw_frame (s : State) (n : Nat) (x : Word) (hoff : Off wt [.hdr .sw, .page .sw 0x5, .page .sw 0x6, .page .sw 0x7, .page .sw 0x8, .page .sw 0xb, .page .sw 0x11, .page .sw 0x13, .page .sw 0x14, .page .sw 0x20, .page .sw 0x21, .page .sw 0x30, .page .sw 0x31, .page .sw 0x32, .page .sw 0x40, .page .sw 0x50, .page .sw 0x100, .page .sw 0x200, .page .sw 0x280, .page .sw 0x300, .log .sw, .ports .sw, .sync .sw, .chip .sw, .core, .mem, .pool, .svc, .herds, .hrd, .host, .dct, .sent, .free]) :
    (State.setPortCommand s .sw n x).1.view wt = s.view wt := by
  simp at hoff
  simp [State.setPortCommand, hoff, Chip.view, Chip.rest, Pool.view, Pool.rest, Svc.view, Svc.rest, Herds.view, Herds.rest, Dct.view, Dct.rest, Dct.held, Fw.view, Fw.rest, Fw.held]

@[simp] theorem State_setPortCommand_ep_frame (s : State) (n : Nat) (x : Word) (hoff : Off wt [.hdr .ep, .page .ep 0x4, .page .ep 0x6, .page .ep 0x7, .page .ep 0xb, .page .ep 0x10, .page .ep 0x21, .page .ep 0x31, .page .ep 0x32, .page .ep 0x100, .page .ep 0x200, .page .ep 0x280, .log .ep, .ports .ep, .sync .ep, .chip .ep, .rly, .cmds, .reqs, .ag, .sent]) :
    (State.setPortCommand s .ep n x).1.view wt = s.view wt := by
  simp at hoff
  simp [State.setPortCommand, hoff, Chip.view, Chip.rest, Pool.view, Pool.rest, Svc.view, Svc.rest, Herds.view, Herds.rest, Dct.view, Dct.rest, Dct.held, Fw.view, Fw.rest, Fw.held]

@[simp] theorem State_setTxEq_sw_frame (s : State) (page : Nat) (l : RegPlace) (x : Word) (hoff : Off wt [.regs .sw]) :
    (State.setTxEq s .sw page l x).1.view wt = s.view wt := by
  simp at hoff
  simp [State.setTxEq, hoff, Chip.view, Chip.rest, Pool.view, Pool.rest, Svc.view, Svc.rest, Herds.view, Herds.rest, Dct.view, Dct.rest, Dct.held, Fw.view, Fw.rest, Fw.held]

@[simp] theorem State_setTxEq_ep_frame (s : State) (page : Nat) (l : RegPlace) (x : Word) (hoff : Off wt [.regs .ep]) :
    (State.setTxEq s .ep page l x).1.view wt = s.view wt := by
  simp at hoff
  simp [State.setTxEq, hoff, Chip.view, Chip.rest, Pool.view, Pool.rest, Svc.view, Svc.rest, Herds.view, Herds.rest, Dct.view, Dct.rest, Dct.held, Fw.view, Fw.rest, Fw.held]

@[simp] theorem State_setRekey_sw_frame (s : State) (page n : Nat) (l : RegPlace) (x : Word) (hoff : Off wt [.regs .sw, .ports .sw, .sent, .free]) :
    (State.setRekey s .sw page n l x).1.view wt = s.view wt := by
  simp at hoff
  simp [State.setRekey, hoff, Chip.view, Chip.rest, Pool.view, Pool.rest, Svc.view, Svc.rest, Herds.view, Herds.rest, Dct.view, Dct.rest, Dct.held, Fw.view, Fw.rest, Fw.held]

@[simp] theorem State_setRekey_ep_frame (s : State) (page n : Nat) (l : RegPlace) (x : Word) (hoff : Off wt [.regs .ep, .ports .ep, .sent, .free]) :
    (State.setRekey s .ep page n l x).1.view wt = s.view wt := by
  simp at hoff
  simp [State.setRekey, hoff, Chip.view, Chip.rest, Pool.view, Pool.rest, Svc.view, Svc.rest, Herds.view, Herds.rest, Dct.view, Dct.rest, Dct.held, Fw.view, Fw.rest, Fw.held]

@[simp] theorem State_setInvCfg_frame (s : State) (page : Nat) (l : RegPlace) (x : Word) (hoff : Off wt [.regs .sw]) :
    (State.setInvCfg s page l x).1.view wt = s.view wt := by
  simp at hoff
  simp [State.setInvCfg, hoff, Chip.view, Chip.rest, Pool.view, Pool.rest, Svc.view, Svc.rest, Herds.view, Herds.rest, Dct.view, Dct.rest, Dct.held, Fw.view, Fw.rest, Fw.held]

@[simp] theorem State_setSbpCfg_frame (s : State) (page : Nat) (l : RegPlace) (x : Word) (hoff : Off wt [.regs .sw]) :
    (State.setSbpCfg s page l x).1.view wt = s.view wt := by
  simp at hoff
  simp [State.setSbpCfg, hoff, Chip.view, Chip.rest, Pool.view, Pool.rest, Svc.view, Svc.rest, Herds.view, Herds.rest, Dct.view, Dct.rest, Dct.held, Fw.view, Fw.rest, Fw.held]

@[simp] theorem State_setAlert_frame (s : State) (x : Word) (hoff : Off wt [.page .sw 0x5, .sent]) :
    (State.setAlert s x).1.view wt = s.view wt := by
  simp at hoff
  unfold State.setAlert; (try simp only [sw_beq_ep, ep_beq_sw, sw_beq_sw, ep_beq_ep, Bool.false_eq_true, Bool.true_and, Bool.false_and, if_true, if_false]); (repeat' split) <;> (try dsimp only) <;> first | contradiction | simp +decide [State.setAlert, hoff, Chip.view, Chip.rest, Pool.view, Pool.rest, Svc.view, Svc.rest, Herds.view, Herds.rest, Dct.view, Dct.rest, Dct.held, Fw.view, Fw.rest, Fw.held]

@[simp] theorem State_setRate_frame (s : State) (x : Word) (hoff : Off wt [.page .ep 0x11, .rly]) :
    (State.setRate s x).1.view wt = s.view wt := by
  simp at hoff
  simp [State.setRate, hoff, Chip.view, Chip.rest, Pool.view, Pool.rest, Svc.view, Svc.rest, Herds.view, Herds.rest, Dct.view, Dct.rest, Dct.held, Fw.view, Fw.rest, Fw.held]

@[simp] theorem State_clearLog_sw_frame (s : State) (hoff : Off wt [.page .sw 0xb, .log .sw]) :
    (State.clearLog s .sw).view wt = s.view wt := by
  simp at hoff
  simp [State.clearLog, hoff, Chip.view, Chip.rest, Pool.view, Pool.rest, Svc.view, Svc.rest, Herds.view, Herds.rest, Dct.view, Dct.rest, Dct.held, Fw.view, Fw.rest, Fw.held]

@[simp] theorem State_clearLog_ep_frame (s : State) (hoff : Off wt [.page .ep 0xb, .log .ep]) :
    (State.clearLog s .ep).view wt = s.view wt := by
  simp at hoff
  simp [State.clearLog, hoff, Chip.view, Chip.rest, Pool.view, Pool.rest, Svc.view, Svc.rest, Herds.view, Herds.rest, Dct.view, Dct.rest, Dct.held, Fw.view, Fw.rest, Fw.held]

@[simp] theorem State_setRstCtl_frame (s : State) (path : Path) (x : Word) (hoff : Off wt [.regs .sw, .ltc .sw, .log .sw, .ports .sw, .sync .sw, .chip .sw, .core, .mem, .pool, .progs, .svc, .herds, .hrd, .host, .bindings, .dct, .images, .fw, .sent, .free]) :
    (State.setRstCtl s path x).1.view wt = s.view wt := by
  simp at hoff
  simp [State.setRstCtl, hoff, Chip.view, Chip.rest, Pool.view, Pool.rest, Svc.view, Svc.rest, Herds.view, Herds.rest, Dct.view, Dct.rest, Dct.held, Fw.view, Fw.rest, Fw.held]

@[simp] theorem State_setEpRst_frame (s : State) (x : Word) (hoff : Off wt [.regs .ep, .ltc .ep, .log .ep, .ports .ep, .sync .ep, .chip .ep, .rly, .cmds, .ddp, .reqs, .ag, .sec, .sent]) :
    (State.setEpRst s x).1.view wt = s.view wt := by
  simp at hoff
  simp [State.setEpRst, hoff, Chip.view, Chip.rest, Pool.view, Pool.rest, Svc.view, Svc.rest, Herds.view, Herds.rest, Dct.view, Dct.rest, Dct.held, Fw.view, Fw.rest, Fw.held]

@[simp] theorem State_setCoreCtl_frame (s : State) (c : Nat) (x : Word) (hoff : Off wt [.hdr .sw, .page .sw 0x5, .page .sw 0xb, .page .sw 0x11, .page .sw 0x14, .page .sw 0x20, .page .sw 0x21, .page .sw 0x300, .log .sw, .ports .sw, .sync .sw, .core, .svc, .herds, .hrd, .sent]) :
    (State.setCoreCtl s c x).1.view wt = s.view wt := by
  simp at hoff
  unfold State.setCoreCtl
  exact (Written_also_view _ _ _ fun s => by simp [hoff]).trans ((Written_also_view _ _ _ fun s => by simp [hoff]).trans
    (Written_also_view _ _ _ fun s => by simp [hoff]))

@[simp] theorem State_setAgtCtl_frame (s : State) (x : Word) (hoff : Off wt [.hdr .sw, .page .sw 0x5, .page .sw 0xb, .page .sw 0x11, .page .sw 0x13, .page .sw 0x14, .page .sw 0x20, .page .sw 0x21, .page .sw 0x30, .page .sw 0x31, .page .sw 0x32, .page .sw 0x40, .page .sw 0x50, .page .sw 0x300, .log .sw, .ports .sw, .sync .sw, .core, .mem, .pool, .svc, .herds, .hrd, .host, .sent, .free]) :
    (State.setAgtCtl s x).1.view wt = s.view wt := by
  simp at hoff
  unfold State.setAgtCtl
  exact (Written_also_view _ _ _ fun s => by simp [hoff]).trans (Written_also_view _ _ _ fun s => by simp [hoff])

@[simp] theorem State_setFwCfg_frame (s : State) (path : Path) (x : Word) (hoff : Off wt [.hdr .sw, .page .sw 0x4, .page .sw 0x5, .page .sw 0xb, .images, .fw, .sent]) :
    (State.setFwCfg s path x).1.view wt = s.view wt := by
  simp at hoff
  simp [State.setFwCfg, hoff, Chip.view, Chip.rest, Pool.view, Pool.rest, Svc.view, Svc.rest, Herds.view, Herds.rest, Dct.view, Dct.rest, Dct.held, Fw.view, Fw.rest, Fw.held]

@[simp] theorem State_unless_sw_frame (s : State) (busy : Bool) (page : Nat) (l : RegPlace) (x : Word) (hoff : Off wt [.regs .sw]) :
    (State.unless s busy .sw page l x).1.view wt = s.view wt := by
  simp at hoff
  simp [State.unless, hoff, Chip.view, Chip.rest, Pool.view, Pool.rest, Svc.view, Svc.rest, Herds.view, Herds.rest, Dct.view, Dct.rest, Dct.held, Fw.view, Fw.rest, Fw.held]

@[simp] theorem State_unless_ep_frame (s : State) (busy : Bool) (page : Nat) (l : RegPlace) (x : Word) (hoff : Off wt [.regs .ep]) :
    (State.unless s busy .ep page l x).1.view wt = s.view wt := by
  simp at hoff
  simp [State.unless, hoff, Chip.view, Chip.rest, Pool.view, Pool.rest, Svc.view, Svc.rest, Herds.view, Herds.rest, Dct.view, Dct.rest, Dct.held, Fw.view, Fw.rest, Fw.held]

@[simp] theorem State_setLateSum_frame (s : State) (x : Word) (hoff : Off wt [.herds]) :
    (State.setLateSum s x).1.view wt = s.view wt := by
  simp at hoff
  unfold State.setLateSum; (try simp only [sw_beq_ep, ep_beq_sw, sw_beq_sw, ep_beq_ep, Bool.false_eq_true, Bool.true_and, Bool.false_and, if_true, if_false]); (repeat' split) <;> (try dsimp only) <;> first | contradiction | simp +decide [State.setLateSum, hoff, Chip.view, Chip.rest, Pool.view, Pool.rest, Svc.view, Svc.rest, Herds.view, Herds.rest, Dct.view, Dct.rest, Dct.held, Fw.view, Fw.rest, Fw.held]

@[simp] theorem State_blockWrite_sw_frame (s : State) (o : Origin) (page : Nat) (l : RegPlace) (x : Word) (hoff : Off wt [.regs .sw, .ltc .sw, .log .sw, .ports .sw, .sync .sw, .chip .sw, .core, .mem, .pool, .progs, .svc, .herds, .hrd, .host, .bindings, .dct, .images, .fw, .sent, .free]) :
    (State.blockWrite s o .sw page l x).1.view wt = s.view wt := by
  simp at hoff
  unfold State.blockWrite
  extract_lets code off x' own
  clear_value code off x'
  have hB : ∀ w, s.ownWriteBoth .sw page code off l x' = some w → w.1.view wt = s.view wt := by
    intro w h
    unfold State.ownWriteBoth at h
    dsimp only at h
    (repeat' split at h) <;> cases h <;> simp [hoff]
  have ho : ∀ w, own = some w → w.1.view wt = s.view wt := by
    intro w h
    simp only [own] at h
    split at h
    · cases h; simp [hoff]
    cases hs : s.stagedWrite o page off l x' with
    | some v =>
      rw [hs] at h
      simp only [Option.orElse_some, Option.some.injEq] at h
      rw [← h]
      unfold State.stagedWrite at hs
      dsimp only at hs
      (repeat' split at hs) <;> simp only [Option.some.injEq, reduceCtorEq] at hs <;> (rw [← hs]; simp [hoff, Herds.view, Herds.rest])
    | none =>
      rw [hs] at h
      simp only [Option.orElse_none] at h
      unfold State.ownWriteSw at h
      (repeat' split at h) <;> cases h <;> simp [hoff]
  clear_value own
  split
  · rename_i w
    exact ho _ rfl
  · cases he : s.ownWriteBoth .sw page code off l x' with
    | some v => exact hB _ he
    | none => exact State_plainWrite_sw_frame _ _ _ _ (by simp [hoff])

@[simp] theorem State_blockWrite_ep_frame (s : State) (o : Origin) (page : Nat) (l : RegPlace) (x : Word) (hoff : Off wt [.regs .ep, .ltc .ep, .log .ep, .ports .ep, .sync .ep, .chip .ep, .rly, .cmds, .ddp, .reqs, .ag, .sec, .sent, .free]) :
    (State.blockWrite s o .ep page l x).1.view wt = s.view wt := by
  simp at hoff
  unfold State.blockWrite
  extract_lets code off x' own
  clear_value code off x'
  have hB : ∀ w, s.ownWriteBoth .ep page code off l x' = some w → w.1.view wt = s.view wt := by
    intro w h
    unfold State.ownWriteBoth at h
    dsimp only at h
    (repeat' split at h) <;> cases h <;> simp [hoff]
  have ho : ∀ w, own = some w → w.1.view wt = s.view wt := by
    intro w h
    simp only [own] at h
    unfold State.ownWriteEp at h
    try dsimp only at h
    (repeat' split at h) <;> cases h <;> simp [hoff]
  clear_value own
  split
  · rename_i w
    exact ho _ rfl
  · cases he : s.ownWriteBoth .ep page code off l x' with
    | some v => exact hB _ he
    | none => exact State_plainWrite_ep_frame _ _ _ _ (by simp [hoff])

@[simp] theorem State_resetFields_sw_frame (s : State) (page : Nat) (hoff : Off wt [.regs .sw]) :
    (State.resetFields s .sw page).view wt = s.view wt := by
  simp at hoff
  unfold State.resetFields
  simp only []
  first
    | exact setRegs_sw_view _ _ (by simp [hoff])
    | exact setRegs_ep_view _ _ (by simp [hoff])

@[simp] theorem State_resetFields_ep_frame (s : State) (page : Nat) (hoff : Off wt [.regs .ep]) :
    (State.resetFields s .ep page).view wt = s.view wt := by
  simp at hoff
  unfold State.resetFields
  simp only []
  first
    | exact setRegs_sw_view _ _ (by simp [hoff])
    | exact setRegs_ep_view _ _ (by simp [hoff])

@[simp] theorem State_beforeReset_sw_frame (s : State) (code : Nat) (hoff : Off wt [.hdr .sw, .page .sw 0x5, .page .sw 0xb, .page .sw 0x11, .page .sw 0x13, .page .sw 0x14, .page .sw 0x20, .page .sw 0x21, .page .sw 0x30, .page .sw 0x31, .page .sw 0x32, .page .sw 0x40, .page .sw 0x50, .page .sw 0x300, .log .sw, .ports .sw, .sync .sw, .core, .mem, .pool, .svc, .herds, .hrd, .host, .sent, .free]) :
    (State.beforeReset s .sw code).view wt = s.view wt := by
  simp at hoff
  simp [State.beforeReset, hoff, Chip.view, Chip.rest, Pool.view, Pool.rest, Svc.view, Svc.rest, Herds.view, Herds.rest, Dct.view, Dct.rest, Dct.held, Fw.view, Fw.rest, Fw.held]

@[simp] theorem State_beforeReset_ep_frame (s : State) (code : Nat) (hoff : Off wt [.page .ep 0x10, .page .ep 0x280, .ports .ep, .rly, .sent]) :
    (State.beforeReset s .ep code).view wt = s.view wt := by
  simp at hoff
  simp [State.beforeReset, hoff, Chip.view, Chip.rest, Pool.view, Pool.rest, Svc.view, Svc.rest, Herds.view, Herds.rest, Dct.view, Dct.rest, Dct.held, Fw.view, Fw.rest, Fw.held]

@[simp] theorem State_afterReset_sw_frame (s : State) (code inst : Nat) (freed : List Nat) (hoff : Off wt [.hdr .sw, .page .sw 0x5, .page .sw 0x6, .page .sw 0x7, .page .sw 0x8, .page .sw 0xb, .page .sw 0x11, .page .sw 0x13, .page .sw 0x14, .page .sw 0x20, .page .sw 0x21, .page .sw 0x30, .page .sw 0x31, .page .sw 0x32, .page .sw 0x40, .page .sw 0x50, .page .sw 0x51, .page .sw 0x100, .page .sw 0x200, .page .sw 0x280, .page .sw 0x300, .log .sw, .ports .sw, .sync .sw, .chip .sw, .core, .mem, .pool, .svc, .herds, .hrd, .host, .dct, .sent, .free]) :
    (State.afterReset s .sw code inst freed).view wt = s.view wt := by
  simp at hoff
  simp [State.afterReset, hoff, Chip.view, Chip.rest, Pool.view, Pool.rest, Svc.view, Svc.rest, Herds.view, Herds.rest, Dct.view, Dct.rest, Dct.held, Fw.view, Fw.rest, Fw.held]

@[simp] theorem State_afterReset_ep_frame (s : State) (code inst : Nat) (freed : List Nat) (hoff : Off wt [.hdr .ep, .page .ep 0x4, .page .ep 0x6, .page .ep 0x7, .page .ep 0xb, .page .ep 0x10, .page .ep 0x21, .page .ep 0x31, .page .ep 0x32, .page .ep 0x100, .page .ep 0x200, .page .ep 0x280, .log .ep, .ports .ep, .sync .ep, .chip .ep, .rly, .cmds, .reqs, .ag, .sent]) :
    (State.afterReset s .ep code inst freed).view wt = s.view wt := by
  simp at hoff
  simp [State.afterReset, hoff, Chip.view, Chip.rest, Pool.view, Pool.rest, Svc.view, Svc.rest, Herds.view, Herds.rest, Dct.view, Dct.rest, Dct.held, Fw.view, Fw.rest, Fw.held]

@[simp] theorem State_pageReset_sw_frame (s : State) (page : Nat) (hoff : Off wt [.regs .sw, .log .sw, .ports .sw, .sync .sw, .chip .sw, .core, .mem, .pool, .svc, .herds, .hrd, .host, .dct, .sent, .free]) :
    (State.pageReset s .sw page).view wt = s.view wt := by
  simp at hoff
  simp [State.pageReset, hoff, Chip.view, Chip.rest, Pool.view, Pool.rest, Svc.view, Svc.rest, Herds.view, Herds.rest, Dct.view, Dct.rest, Dct.held, Fw.view, Fw.rest, Fw.held]

@[simp] theorem State_pageReset_ep_frame (s : State) (page : Nat) (hoff : Off wt [.regs .ep, .log .ep, .ports .ep, .sync .ep, .chip .ep, .rly, .cmds, .reqs, .ag, .sent]) :
    (State.pageReset s .ep page).view wt = s.view wt := by
  simp at hoff
  simp [State.pageReset, hoff, Chip.view, Chip.rest, Pool.view, Pool.rest, Svc.view, Svc.rest, Herds.view, Herds.rest, Dct.view, Dct.rest, Dct.held, Fw.view, Fw.rest, Fw.held]

@[simp] theorem State_setEnable_sw_frame (s : State) (page v : Nat) (hoff : Off wt [.hdr .sw, .page .sw 0x5, .page .sw 0x6, .page .sw 0x7, .page .sw 0x8, .page .sw 0xb, .page .sw 0x11, .page .sw 0x13, .page .sw 0x14, .page .sw 0x20, .page .sw 0x21, .page .sw 0x30, .page .sw 0x31, .page .sw 0x32, .page .sw 0x40, .page .sw 0x50, .page .sw 0x51, .page .sw 0x100, .page .sw 0x200, .page .sw 0x280, .page .sw 0x300, .log .sw, .ports .sw, .sync .sw, .chip .sw, .core, .mem, .pool, .svc, .herds, .hrd, .host, .dct, .sent, .free]) :
    (State.setEnable s .sw page v).1.view wt = s.view wt := by
  simp at hoff
  simp [State.setEnable, hoff, Chip.view, Chip.rest, Pool.view, Pool.rest, Svc.view, Svc.rest, Herds.view, Herds.rest, Dct.view, Dct.rest, Dct.held, Fw.view, Fw.rest, Fw.held]

@[simp] theorem State_setEnable_ep_frame (s : State) (page v : Nat) (hoff : Off wt [.hdr .ep, .page .ep 0x4, .page .ep 0x6, .page .ep 0x7, .page .ep 0xb, .page .ep 0x10, .page .ep 0x21, .page .ep 0x31, .page .ep 0x32, .page .ep 0x100, .page .ep 0x200, .page .ep 0x280, .log .ep, .ports .ep, .sync .ep, .chip .ep, .rly, .cmds, .reqs, .ag, .sent]) :
    (State.setEnable s .ep page v).1.view wt = s.view wt := by
  simp at hoff
  simp [State.setEnable, hoff, Chip.view, Chip.rest, Pool.view, Pool.rest, Svc.view, Svc.rest, Herds.view, Herds.rest, Dct.view, Dct.rest, Dct.held, Fw.view, Fw.rest, Fw.held]

@[simp] theorem State_writePageCtl_sw_frame (s : State) (page : Nat) (x : Word) (hoff : Off wt [.regs .sw, .log .sw, .ports .sw, .sync .sw, .chip .sw, .core, .mem, .pool, .svc, .herds, .hrd, .host, .dct, .sent, .free]) :
    (State.writePageCtl s .sw page x).1.view wt = s.view wt := by
  simp at hoff
  simp [State.writePageCtl, hoff, Chip.view, Chip.rest, Pool.view, Pool.rest, Svc.view, Svc.rest, Herds.view, Herds.rest, Dct.view, Dct.rest, Dct.held, Fw.view, Fw.rest, Fw.held]

@[simp] theorem State_writePageCtl_ep_frame (s : State) (page : Nat) (x : Word) (hoff : Off wt [.regs .ep, .log .ep, .ports .ep, .sync .ep, .chip .ep, .rly, .cmds, .reqs, .ag, .sent]) :
    (State.writePageCtl s .ep page x).1.view wt = s.view wt := by
  simp at hoff
  simp [State.writePageCtl, hoff, Chip.view, Chip.rest, Pool.view, Pool.rest, Svc.view, Svc.rest, Herds.view, Herds.rest, Dct.view, Dct.rest, Dct.held, Fw.view, Fw.rest, Fw.held]

@[simp] theorem State_forceCauses_sw_frame (s : State) (page : Nat) (x : Word) (hoff : Off wt [.hdr .sw, .page .sw 0x5, .sent]) :
    (State.forceCauses s .sw page x).view wt = s.view wt := by
  simp at hoff
  simp [State.forceCauses, hoff, Chip.view, Chip.rest, Pool.view, Pool.rest, Svc.view, Svc.rest, Herds.view, Herds.rest, Dct.view, Dct.rest, Dct.held, Fw.view, Fw.rest, Fw.held]

@[simp] theorem State_forceCauses_ep_frame (s : State) (page : Nat) (x : Word) (hoff : Off wt [.hdr .ep, .sent]) :
    (State.forceCauses s .ep page x).view wt = s.view wt := by
  simp at hoff
  simp [State.forceCauses, hoff, Chip.view, Chip.rest, Pool.view, Pool.rest, Svc.view, Svc.rest, Herds.view, Herds.rest, Dct.view, Dct.rest, Dct.held, Fw.view, Fw.rest, Fw.held]

@[simp] theorem State_setErrCount_sw_frame (s : State) (page : Nat) (x : Word) (hoff : Off wt [.hdr .sw]) :
    (State.setErrCount s .sw page x).view wt = s.view wt := by
  simp at hoff
  simp [State.setErrCount, hoff, Chip.view, Chip.rest, Pool.view, Pool.rest, Svc.view, Svc.rest, Herds.view, Herds.rest, Dct.view, Dct.rest, Dct.held, Fw.view, Fw.rest, Fw.held]

@[simp] theorem State_setErrCount_ep_frame (s : State) (page : Nat) (x : Word) (hoff : Off wt [.hdr .ep]) :
    (State.setErrCount s .ep page x).view wt = s.view wt := by
  simp at hoff
  simp [State.setErrCount, hoff, Chip.view, Chip.rest, Pool.view, Pool.rest, Svc.view, Svc.rest, Herds.view, Herds.rest, Dct.view, Dct.rest, Dct.held, Fw.view, Fw.rest, Fw.held]

@[simp] theorem State_headerWrite_sw_frame (s : State) (page off : Nat) (x : Word) (hoff : Off wt [.regs .sw, .log .sw, .ports .sw, .sync .sw, .chip .sw, .core, .mem, .pool, .svc, .herds, .hrd, .host, .dct, .sent, .free]) :
    (State.headerWrite s .sw page off x).1.view wt = s.view wt := by
  simp at hoff
  simp [State.headerWrite, hoff, Chip.view, Chip.rest, Pool.view, Pool.rest, Svc.view, Svc.rest, Herds.view, Herds.rest, Dct.view, Dct.rest, Dct.held, Fw.view, Fw.rest, Fw.held]

@[simp] theorem State_headerWrite_ep_frame (s : State) (page off : Nat) (x : Word) (hoff : Off wt [.regs .ep, .log .ep, .ports .ep, .sync .ep, .chip .ep, .rly, .cmds, .reqs, .ag, .sent]) :
    (State.headerWrite s .ep page off x).1.view wt = s.view wt := by
  simp at hoff
  simp [State.headerWrite, hoff, Chip.view, Chip.rest, Pool.view, Pool.rest, Svc.view, Svc.rest, Herds.view, Herds.rest, Dct.view, Dct.rest, Dct.held, Fw.view, Fw.rest, Fw.held]

@[simp] theorem State_writeReg_sw_frame (s : State) (o : Origin) (page : Nat) (l : RegPlace) (x : Word) (hoff : Off wt [.regs .sw, .ltc .sw, .log .sw, .ports .sw, .sync .sw, .chip .sw, .core, .mem, .pool, .progs, .svc, .herds, .hrd, .host, .bindings, .dct, .images, .fw, .sent, .free]) :
    (State.writeReg s o .sw page l x).1.view wt = s.view wt := by
  simp at hoff
  simp [State.writeReg, hoff, Chip.view, Chip.rest, Pool.view, Pool.rest, Svc.view, Svc.rest, Herds.view, Herds.rest, Dct.view, Dct.rest, Dct.held, Fw.view, Fw.rest, Fw.held]

@[simp] theorem State_writeReg_ep_frame (s : State) (o : Origin) (page : Nat) (l : RegPlace) (x : Word) (hoff : Off wt [.regs .ep, .ltc .ep, .log .ep, .ports .ep, .sync .ep, .chip .ep, .rly, .cmds, .ddp, .reqs, .ag, .sec, .sent, .free]) :
    (State.writeReg s o .ep page l x).1.view wt = s.view wt := by
  simp at hoff
  simp [State.writeReg, hoff, Chip.view, Chip.rest, Pool.view, Pool.rest, Svc.view, Svc.rest, Herds.view, Herds.rest, Dct.view, Dct.rest, Dct.held, Fw.view, Fw.rest, Fw.held]

@[simp] theorem State_write4_sw_frame (s : State) (o : Origin) (page off : Nat) (x : Word) (hoff : Off wt [.regs .sw, .ltc .sw, .log .sw, .ports .sw, .sync .sw, .chip .sw, .core, .mem, .pool, .progs, .svc, .herds, .hrd, .host, .bindings, .dct, .images, .fw, .sent, .free]) :
    (State.write4 s o .sw page off x).1.view wt = s.view wt := by
  simp at hoff
  unfold State.write4; (try simp only [sw_beq_ep, ep_beq_sw, sw_beq_sw, ep_beq_ep, Bool.false_eq_true, Bool.true_and, Bool.false_and, if_true, if_false]); (repeat' split) <;> (try dsimp only) <;> first | contradiction | simp +decide [State.write4, hoff, Chip.view, Chip.rest, Pool.view, Pool.rest, Svc.view, Svc.rest, Herds.view, Herds.rest, Dct.view, Dct.rest, Dct.held, Fw.view, Fw.rest, Fw.held]

@[simp] theorem State_write4_ep_frame (s : State) (o : Origin) (page off : Nat) (x : Word) (hoff : Off wt [.regs .ep, .ltc .ep, .log .ep, .ports .ep, .sync .ep, .chip .ep, .rly, .cmds, .ddp, .reqs, .ag, .sec, .sent, .free]) :
    (State.write4 s o .ep page off x).1.view wt = s.view wt := by
  simp at hoff
  unfold State.write4; (try simp only [sw_beq_ep, ep_beq_sw, sw_beq_sw, ep_beq_ep, Bool.false_eq_true, Bool.true_and, Bool.false_and, if_true, if_false]); (repeat' split) <;> (try dsimp only) <;> first | contradiction | simp +decide [State.write4, hoff, Chip.view, Chip.rest, Pool.view, Pool.rest, Svc.view, Svc.rest, Herds.view, Herds.rest, Dct.view, Dct.rest, Dct.held, Fw.view, Fw.rest, Fw.held]

@[simp] theorem State_writeBytes_sw_frame (s : State) (o : Origin) (page off size : Nat) (x : Word) (hoff : Off wt [.regs .sw, .ltc .sw, .log .sw, .ports .sw, .sync .sw, .chip .sw, .core, .mem, .pool, .progs, .svc, .herds, .hrd, .host, .bindings, .dct, .images, .fw, .sent, .free]) :
    (State.writeBytes s o .sw page off size x).1.view wt = s.view wt := by
  simp at hoff
  unfold State.writeBytes; (try simp only [sw_beq_ep, ep_beq_sw, sw_beq_sw, ep_beq_ep, Bool.false_eq_true, Bool.true_and, Bool.false_and, if_true, if_false]); (repeat' split) <;> (try dsimp only) <;> first | contradiction | simp +decide [State.writeBytes, hoff, Chip.view, Chip.rest, Pool.view, Pool.rest, Svc.view, Svc.rest, Herds.view, Herds.rest, Dct.view, Dct.rest, Dct.held, Fw.view, Fw.rest, Fw.held]

@[simp] theorem State_writeBytes_ep_frame (s : State) (o : Origin) (page off size : Nat) (x : Word) (hoff : Off wt [.regs .ep, .ltc .ep, .log .ep, .ports .ep, .sync .ep, .chip .ep, .rly, .cmds, .ddp, .reqs, .ag, .sec, .sent, .free]) :
    (State.writeBytes s o .ep page off size x).1.view wt = s.view wt := by
  simp at hoff
  unfold State.writeBytes; (try simp only [sw_beq_ep, ep_beq_sw, sw_beq_sw, ep_beq_ep, Bool.false_eq_true, Bool.true_and, Bool.false_and, if_true, if_false]); (repeat' split) <;> (try dsimp only) <;> first | contradiction | simp +decide [State.writeBytes, hoff, Chip.view, Chip.rest, Pool.view, Pool.rest, Svc.view, Svc.rest, Herds.view, Herds.rest, Dct.view, Dct.rest, Dct.held, Fw.view, Fw.rest, Fw.held]

@[simp] theorem State_regAccess_sw_frame (s : State) (o : Origin) (write : Bool) (page off size : Nat) (x : Word) (hoff : Off wt [.regs .sw, .ltc .sw, .log .sw, .ports .sw, .sync .sw, .chip .sw, .core, .mem, .pool, .progs, .svc, .herds, .hrd, .host, .bindings, .dct, .images, .fw, .sent, .free]) :
    (State.regAccess s o .sw write page off size x).1.view wt = s.view wt := by
  simp at hoff
  simp [State.regAccess, hoff, Chip.view, Chip.rest, Pool.view, Pool.rest, Svc.view, Svc.rest, Herds.view, Herds.rest, Dct.view, Dct.rest, Dct.held, Fw.view, Fw.rest, Fw.held]

@[simp] theorem State_regAccess_ep_frame (s : State) (o : Origin) (write : Bool) (page off size : Nat) (x : Word) (hoff : Off wt [.regs .ep, .ltc .ep, .log .ep, .ports .ep, .sync .ep, .chip .ep, .rly, .cmds, .ddp, .reqs, .ag, .sec, .sent, .free]) :
    (State.regAccess s o .ep write page off size x).1.view wt = s.view wt := by
  simp at hoff
  simp [State.regAccess, hoff, Chip.view, Chip.rest, Pool.view, Pool.rest, Svc.view, Svc.rest, Herds.view, Herds.rest, Dct.view, Dct.rest, Dct.held, Fw.view, Fw.rest, Fw.held]

@[simp] theorem State_accessDone_sw_frame (s : State) (o : Origin) (write : Bool) (page off size : Nat) (x : Word) (hoff : Off wt [.regs .sw, .ltc .sw, .log .sw, .ports .sw, .sync .sw, .chip .sw, .core, .mem, .pool, .progs, .svc, .herds, .hrd, .host, .bindings, .dct, .images, .fw, .sent, .free]) :
    (State.accessDone s o .sw write page off size x).view wt = s.view wt := by
  simp at hoff
  simp [State.accessDone, hoff, Chip.view, Chip.rest, Pool.view, Pool.rest, Svc.view, Svc.rest, Herds.view, Herds.rest, Dct.view, Dct.rest, Dct.held, Fw.view, Fw.rest, Fw.held]

@[simp] theorem State_accessDone_ep_frame (s : State) (o : Origin) (write : Bool) (page off size : Nat) (x : Word) (hoff : Off wt [.regs .ep, .ltc .ep, .log .ep, .ports .ep, .sync .ep, .chip .ep, .rly, .cmds, .ddp, .reqs, .ag, .sec, .sent, .free]) :
    (State.accessDone s o .ep write page off size x).view wt = s.view wt := by
  simp at hoff
  simp [State.accessDone, hoff, Chip.view, Chip.rest, Pool.view, Pool.rest, Svc.view, Svc.rest, Herds.view, Herds.rest, Dct.view, Dct.rest, Dct.held, Fw.view, Fw.rest, Fw.held]

theorem csr_frame (write : Bool) (page off size : Nat) (x : Word) (s : State) (hoff : Off wt [.regs .ep, .ltc .ep, .log .ep, .ports .ep, .sync .ep, .chip .ep, .rly, .cmds, .ddp, .reqs, .ag, .sec, .sent, .free]) :
    (csr write page off size x s).view wt = s.view wt := by
  simp at hoff
  simp [csr, hoff, Chip.view, Chip.rest, Pool.view, Pool.rest, Svc.view, Svc.rest, Herds.view, Herds.rest, Dct.view, Dct.rest, Dct.held, Fw.view, Fw.rest, Fw.held]

theorem sbRegisterAccess_frame (write : Bool) (page off size : Nat) (x : Word) (s : State) (hoff : Off wt [.regs .sw, .ltc .sw, .log .sw, .ports .sw, .sync .sw, .chip .sw, .core, .mem, .pool, .progs, .svc, .herds, .hrd, .host, .bindings, .dct, .images, .fw, .sent, .free]) :
    (sbRegisterAccess write page off size x s).view wt = s.view wt := by
  simp at hoff
  simp [sbRegisterAccess, hoff, Chip.view, Chip.rest, Pool.view, Pool.rest, Svc.view, Svc.rest, Herds.view, Herds.rest, Dct.view, Dct.rest, Dct.held, Fw.view, Fw.rest, Fw.held]

@[simp] theorem State_control_sw_frame (s : State) (k : Packet) (write : Bool) (hoff : Off wt [.regs .sw, .ltc .sw, .log .sw, .ports .sw, .sync .sw, .chip .sw, .core, .mem, .pool, .progs, .svc, .herds, .hrd, .host, .bindings, .dct, .images, .fw, .sent, .free]) :
    (State.control s .sw k write).view wt = s.view wt := by
  simp at hoff
  unfold State.control; (try simp only [sw_beq_ep, ep_beq_sw, sw_beq_sw, ep_beq_ep, Bool.false_eq_true, Bool.true_and, Bool.false_and, if_true, if_false]); (repeat' split) <;> (try dsimp only) <;> first | contradiction | simp +decide [State.control, hoff, Chip.view, Chip.rest, Pool.view, Pool.rest, Svc.view, Svc.rest, Herds.view, Herds.rest, Dct.view, Dct.rest, Dct.held, Fw.view, Fw.rest, Fw.held]

@[simp] theorem State_control_ep_frame (s : State) (k : Packet) (write : Bool) (hoff : Off wt [.regs .ep, .ltc .ep, .log .ep, .ports .ep, .sync .ep, .chip .ep, .rly, .cmds, .ddp, .reqs, .ag, .sec, .sent, .free]) :
    (State.control s .ep k write).view wt = s.view wt := by
  simp at hoff
  unfold State.control; (try simp only [sw_beq_ep, ep_beq_sw, sw_beq_sw, ep_beq_ep, Bool.false_eq_true, Bool.true_and, Bool.false_and, if_true, if_false]); (repeat' split) <;> (try dsimp only) <;> first | contradiction | simp +decide [State.control, hoff, Chip.view, Chip.rest, Pool.view, Pool.rest, Svc.view, Svc.rest, Herds.view, Herds.rest, Dct.view, Dct.rest, Dct.held, Fw.view, Fw.rest, Fw.held]

theorem ctlRead_sw_frame (k : Packet) (s : State) (hoff : Off wt [.regs .sw, .ltc .sw, .log .sw, .ports .sw, .sync .sw, .chip .sw, .core, .mem, .pool, .progs, .svc, .herds, .hrd, .host, .bindings, .dct, .images, .fw, .sent, .free]) :
    (ctlRead .sw k s).view wt = s.view wt := by
  simp at hoff
  simp [ctlRead, hoff, Chip.view, Chip.rest, Pool.view, Pool.rest, Svc.view, Svc.rest, Herds.view, Herds.rest, Dct.view, Dct.rest, Dct.held, Fw.view, Fw.rest, Fw.held]

theorem ctlRead_ep_frame (k : Packet) (s : State) (hoff : Off wt [.regs .ep, .ltc .ep, .log .ep, .ports .ep, .sync .ep, .chip .ep, .rly, .cmds, .ddp, .reqs, .ag, .sec, .sent, .free]) :
    (ctlRead .ep k s).view wt = s.view wt := by
  simp at hoff
  simp [ctlRead, hoff, Chip.view, Chip.rest, Pool.view, Pool.rest, Svc.view, Svc.rest, Herds.view, Herds.rest, Dct.view, Dct.rest, Dct.held, Fw.view, Fw.rest, Fw.held]

theorem ctlWrite_sw_frame (k : Packet) (s : State) (hoff : Off wt [.regs .sw, .ltc .sw, .log .sw, .ports .sw, .sync .sw, .chip .sw, .core, .mem, .pool, .progs, .svc, .herds, .hrd, .host, .bindings, .dct, .images, .fw, .sent, .free]) :
    (ctlWrite .sw k s).view wt = s.view wt := by
  simp at hoff
  simp [ctlWrite, hoff, Chip.view, Chip.rest, Pool.view, Pool.rest, Svc.view, Svc.rest, Herds.view, Herds.rest, Dct.view, Dct.rest, Dct.held, Fw.view, Fw.rest, Fw.held]

theorem ctlWrite_ep_frame (k : Packet) (s : State) (hoff : Off wt [.regs .ep, .ltc .ep, .log .ep, .ports .ep, .sync .ep, .chip .ep, .rly, .cmds, .ddp, .reqs, .ag, .sec, .sent, .free]) :
    (ctlWrite .ep k s).view wt = s.view wt := by
  simp at hoff
  simp [ctlWrite, hoff, Chip.view, Chip.rest, Pool.view, Pool.rest, Svc.view, Svc.rest, Herds.view, Herds.rest, Dct.view, Dct.rest, Dct.held, Fw.view, Fw.rest, Fw.held]

theorem pageEnableWrite_sw_frame (path : Path) (page v : Nat) (s : State) (hoff : Off wt [.regs .sw, .log .sw, .ports .sw, .sync .sw, .chip .sw, .core, .mem, .pool, .svc, .herds, .hrd, .host, .dct, .sent, .free]) :
    (pageEnableWrite path .sw page v s).view wt = s.view wt := by
  simp at hoff
  simp [pageEnableWrite, hoff, Chip.view, Chip.rest, Pool.view, Pool.rest, Svc.view, Svc.rest, Herds.view, Herds.rest, Dct.view, Dct.rest, Dct.held, Fw.view, Fw.rest, Fw.held]

theorem pageEnableWrite_ep_frame (path : Path) (page v : Nat) (s : State) (hoff : Off wt [.regs .ep, .log .ep, .ports .ep, .sync .ep, .chip .ep, .rly, .cmds, .reqs, .ag, .sent]) :
    (pageEnableWrite path .ep page v s).view wt = s.view wt := by
  simp at hoff
  simp [pageEnableWrite, hoff, Chip.view, Chip.rest, Pool.view, Pool.rest, Svc.view, Svc.rest, Herds.view, Herds.rest, Dct.view, Dct.rest, Dct.held, Fw.view, Fw.rest, Fw.held]

theorem pageSoftReset_sw_frame (path : Path) (page : Nat) (s : State) (hoff : Off wt [.regs .sw, .log .sw, .ports .sw, .sync .sw, .chip .sw, .core, .mem, .pool, .svc, .herds, .hrd, .host, .dct, .sent, .free]) :
    (pageSoftReset path .sw page s).view wt = s.view wt := by
  simp at hoff
  simp [pageSoftReset, hoff, Chip.view, Chip.rest, Pool.view, Pool.rest, Svc.view, Svc.rest, Herds.view, Herds.rest, Dct.view, Dct.rest, Dct.held, Fw.view, Fw.rest, Fw.held]

theorem pageSoftReset_ep_frame (path : Path) (page : Nat) (s : State) (hoff : Off wt [.regs .ep, .log .ep, .ports .ep, .sync .ep, .chip .ep, .rly, .cmds, .reqs, .ag, .sent]) :
    (pageSoftReset path .ep page s).view wt = s.view wt := by
  simp at hoff
  simp [pageSoftReset, hoff, Chip.view, Chip.rest, Pool.view, Pool.rest, Svc.view, Svc.rest, Herds.view, Herds.rest, Dct.view, Dct.rest, Dct.held, Fw.view, Fw.rest, Fw.held]

theorem softResetDone_sw_frame (page : Nat) (s : State) (hoff : Off wt [.chip .sw]) :
    (softResetDone .sw page s).view wt = s.view wt := by
  simp at hoff
  simp [softResetDone, hoff, Chip.view, Chip.rest, Pool.view, Pool.rest, Svc.view, Svc.rest, Herds.view, Herds.rest, Dct.view, Dct.rest, Dct.held, Fw.view, Fw.rest, Fw.held]

theorem softResetDone_ep_frame (page : Nat) (s : State) (hoff : Off wt [.chip .ep]) :
    (softResetDone .ep page s).view wt = s.view wt := by
  simp at hoff
  simp [softResetDone, hoff, Chip.view, Chip.rest, Pool.view, Pool.rest, Svc.view, Svc.rest, Herds.view, Herds.rest, Dct.view, Dct.rest, Dct.held, Fw.view, Fw.rest, Fw.held]

theorem pageFence_sw_frame (path : Path) (page : Nat) (s : State) (hoff : Off wt [.regs .sw, .log .sw, .ports .sw, .sync .sw, .chip .sw, .core, .mem, .pool, .svc, .herds, .hrd, .host, .dct, .sent, .free]) :
    (pageFence path .sw page s).view wt = s.view wt := by
  simp at hoff
  simp [pageFence, hoff, Chip.view, Chip.rest, Pool.view, Pool.rest, Svc.view, Svc.rest, Herds.view, Herds.rest, Dct.view, Dct.rest, Dct.held, Fw.view, Fw.rest, Fw.held]

theorem pageFence_ep_frame (path : Path) (page : Nat) (s : State) (hoff : Off wt [.regs .ep, .log .ep, .ports .ep, .sync .ep, .chip .ep, .rly, .cmds, .reqs, .ag, .sent]) :
    (pageFence path .ep page s).view wt = s.view wt := by
  simp at hoff
  simp [pageFence, hoff, Chip.view, Chip.rest, Pool.view, Pool.rest, Svc.view, Svc.rest, Herds.view, Herds.rest, Dct.view, Dct.rest, Dct.held, Fw.view, Fw.rest, Fw.held]

theorem intForceWrite_sw_frame (path : Path) (page : Nat) (x : Word) (s : State) (hoff : Off wt [.hdr .sw, .page .sw 0x5, .page .sw 0xb, .sent]) :
    (intForceWrite path .sw page x s).view wt = s.view wt := by
  simp at hoff
  simp [intForceWrite, hoff, Chip.view, Chip.rest, Pool.view, Pool.rest, Svc.view, Svc.rest, Herds.view, Herds.rest, Dct.view, Dct.rest, Dct.held, Fw.view, Fw.rest, Fw.held]

theorem intForceWrite_ep_frame (path : Path) (page : Nat) (x : Word) (s : State) (hoff : Off wt [.hdr .ep, .page .ep 0xb, .sent]) :
    (intForceWrite path .ep page x s).view wt = s.view wt := by
  simp at hoff
  simp [intForceWrite, hoff, Chip.view, Chip.rest, Pool.view, Pool.rest, Svc.view, Svc.rest, Herds.view, Herds.rest, Dct.view, Dct.rest, Dct.held, Fw.view, Fw.rest, Fw.held]

theorem errCountWrite_sw_frame (path : Path) (page : Nat) (x : Word) (s : State) (hoff : Off wt [.hdr .sw, .page .sw 0xb, .sent]) :
    (errCountWrite path .sw page x s).view wt = s.view wt := by
  simp at hoff
  simp [errCountWrite, hoff, Chip.view, Chip.rest, Pool.view, Pool.rest, Svc.view, Svc.rest, Herds.view, Herds.rest, Dct.view, Dct.rest, Dct.held, Fw.view, Fw.rest, Fw.held]

theorem errCountWrite_ep_frame (path : Path) (page : Nat) (x : Word) (s : State) (hoff : Off wt [.hdr .ep, .page .ep 0xb, .sent]) :
    (errCountWrite path .ep page x s).view wt = s.view wt := by
  simp at hoff
  simp [errCountWrite, hoff, Chip.view, Chip.rest, Pool.view, Pool.rest, Svc.view, Svc.rest, Herds.view, Herds.rest, Dct.view, Dct.rest, Dct.held, Fw.view, Fw.rest, Fw.held]

theorem errLogClear_sw_frame (path : Path) (s : State) (hoff : Off wt [.hdr .sw, .page .sw 0xb, .log .sw, .sent]) :
    (errLogClear path .sw s).view wt = s.view wt := by
  simp at hoff
  simp [errLogClear, hoff, Chip.view, Chip.rest, Pool.view, Pool.rest, Svc.view, Svc.rest, Herds.view, Herds.rest, Dct.view, Dct.rest, Dct.held, Fw.view, Fw.rest, Fw.held]

theorem errLogClear_ep_frame (path : Path) (s : State) (hoff : Off wt [.hdr .ep, .page .ep 0xb, .log .ep, .sent]) :
    (errLogClear path .ep s).view wt = s.view wt := by
  simp at hoff
  simp [errLogClear, hoff, Chip.view, Chip.rest, Pool.view, Pool.rest, Svc.view, Svc.rest, Herds.view, Herds.rest, Dct.view, Dct.rest, Dct.held, Fw.view, Fw.rest, Fw.held]

theorem errLog3Read_sw_frame (path : Path) (s : State) (hoff : Off wt [.log .sw, .sent]) :
    (errLog3Read path .sw s).view wt = s.view wt := by
  simp at hoff
  simp [errLog3Read, hoff, Chip.view, Chip.rest, Pool.view, Pool.rest, Svc.view, Svc.rest, Herds.view, Herds.rest, Dct.view, Dct.rest, Dct.held, Fw.view, Fw.rest, Fw.held]

theorem errLog3Read_ep_frame (path : Path) (s : State) (hoff : Off wt [.log .ep, .sent]) :
    (errLog3Read path .ep s).view wt = s.view wt := by
  simp at hoff
  simp [errLog3Read, hoff, Chip.view, Chip.rest, Pool.view, Pool.rest, Svc.view, Svc.rest, Herds.view, Herds.rest, Dct.view, Dct.rest, Dct.held, Fw.view, Fw.rest, Fw.held]

theorem registerWrite_sw_frame (o : Origin) (page off size : Nat) (x : Word) (s : State) (hoff : Off wt [.regs .sw, .ltc .sw, .log .sw, .ports .sw, .sync .sw, .chip .sw, .core, .mem, .pool, .progs, .svc, .herds, .hrd, .host, .bindings, .dct, .images, .fw, .sent, .free]) :
    (registerWrite o .sw page off size x s).view wt = s.view wt := by
  simp at hoff
  simp [registerWrite, hoff, Chip.view, Chip.rest, Pool.view, Pool.rest, Svc.view, Svc.rest, Herds.view, Herds.rest, Dct.view, Dct.rest, Dct.held, Fw.view, Fw.rest, Fw.held]

theorem registerWrite_ep_frame (o : Origin) (page off size : Nat) (x : Word) (s : State) (hoff : Off wt [.regs .ep, .ltc .ep, .log .ep, .ports .ep, .sync .ep, .chip .ep, .rly, .cmds, .ddp, .reqs, .ag, .sec, .sent, .free]) :
    (registerWrite o .ep page off size x s).view wt = s.view wt := by
  simp at hoff
  simp [registerWrite, hoff, Chip.view, Chip.rest, Pool.view, Pool.rest, Svc.view, Svc.rest, Herds.view, Herds.rest, Dct.view, Dct.rest, Dct.held, Fw.view, Fw.rest, Fw.held]

@[simp] theorem State_tickPart_sw_frame (s : State) (hoff : Off wt [.ltc .sw]) :
    (State.tickPart s .sw).view wt = s.view wt := by
  simp at hoff
  simp [State.tickPart, hoff, Chip.view, Chip.rest, Pool.view, Pool.rest, Svc.view, Svc.rest, Herds.view, Herds.rest, Dct.view, Dct.rest, Dct.held, Fw.view, Fw.rest, Fw.held]

@[simp] theorem State_tickPart_ep_frame (s : State) (hoff : Off wt [.ltc .ep]) :
    (State.tickPart s .ep).view wt = s.view wt := by
  simp at hoff
  simp [State.tickPart, hoff, Chip.view, Chip.rest, Pool.view, Pool.rest, Svc.view, Svc.rest, Herds.view, Herds.rest, Dct.view, Dct.rest, Dct.held, Fw.view, Fw.rest, Fw.held]

@[simp] theorem State_stampReq_frame (s : State) (k : Packet) (hoff : Off wt [.reqs]) :
    (State.stampReq s k).view wt = s.view wt := by
  simp at hoff
  simp [State.stampReq, hoff, Chip.view, Chip.rest, Pool.view, Pool.rest, Svc.view, Svc.rest, Herds.view, Herds.rest, Dct.view, Dct.rest, Dct.held, Fw.view, Fw.rest, Fw.held]

@[simp] theorem State_serveBridles_frame (x0 : List Packet) (x1 : List Nat) (x2 : List Nat) (x3 : State) (hoff : Off wt [.page .ep 0x10, .page .ep 0x11, .page .ep 0x280, .ports .ep, .rly, .reqs, .sent]) :
    (State.serveBridles x0 x1 x2 x3).view wt = x3.view wt := by
  simp at hoff
  induction x0 generalizing x1 x2 x3 with
  | nil => exact foldl_view _ _ _ fun s ix => by simp [hoff]
  | cons k ks ih => unfold State.serveBridles; dsimp only; (repeat' split) <;> simp [ih, hoff]

@[simp] theorem State_linkTick_sw_frame (s : State) (n : Nat) (hoff : Off wt [.page .sw 0x280, .ports .sw, .sent]) :
    (State.linkTick s .sw n).view wt = s.view wt := by
  simp at hoff
  simp [State.linkTick, hoff, Chip.view, Chip.rest, Pool.view, Pool.rest, Svc.view, Svc.rest, Herds.view, Herds.rest, Dct.view, Dct.rest, Dct.held, Fw.view, Fw.rest, Fw.held]

@[simp] theorem State_linkTick_ep_frame (s : State) (n : Nat) (hoff : Off wt [.page .ep 0x280, .ports .ep, .sent]) :
    (State.linkTick s .ep n).view wt = s.view wt := by
  simp at hoff
  simp [State.linkTick, hoff, Chip.view, Chip.rest, Pool.view, Pool.rest, Svc.view, Svc.rest, Herds.view, Herds.rest, Dct.view, Dct.rest, Dct.held, Fw.view, Fw.rest, Fw.held]

@[simp] theorem State_patternTick_sw_frame (s : State) (n : Nat) (hoff : Off wt [.page .sw 0x100, .free]) :
    (State.patternTick s .sw n).view wt = s.view wt := by
  simp at hoff
  unfold State.patternTick
  split
  · rfl
  · refine foldl_view _ _ _ fun s i => ?_
    dsimp only
    split
    · rw [drawn_view _ (by simp [hoff])]
      first
      | rw [State_lanePut_sw_frame _ _ _ _ (by simp [hoff]), State_lanePut_sw_frame _ _ _ _ (by simp [hoff])]
      | rw [State_lanePut_ep_frame _ _ _ _ (by simp [hoff]), State_lanePut_ep_frame _ _ _ _ (by simp [hoff])]
    · rfl

@[simp] theorem State_patternTick_ep_frame (s : State) (n : Nat) (hoff : Off wt [.page .ep 0x100, .free]) :
    (State.patternTick s .ep n).view wt = s.view wt := by
  simp at hoff
  unfold State.patternTick
  split
  · rfl
  · refine foldl_view _ _ _ fun s i => ?_
    dsimp only
    split
    · rw [drawn_view _ (by simp [hoff])]
      first
      | rw [State_lanePut_sw_frame _ _ _ _ (by simp [hoff]), State_lanePut_sw_frame _ _ _ _ (by simp [hoff])]
      | rw [State_lanePut_ep_frame _ _ _ _ (by simp [hoff]), State_lanePut_ep_frame _ _ _ _ (by simp [hoff])]
    · rfl

@[simp] theorem State_linkTicks_sw_frame (s : State) (hoff : Off wt [.page .sw 0x100, .page .sw 0x280, .ports .sw, .sent, .free]) :
    (State.linkTicks s .sw).view wt = s.view wt := by
  simp at hoff
  simp [State.linkTicks, hoff, Chip.view, Chip.rest, Pool.view, Pool.rest, Svc.view, Svc.rest, Herds.view, Herds.rest, Dct.view, Dct.rest, Dct.held, Fw.view, Fw.rest, Fw.held]

@[simp] theorem State_linkTicks_ep_frame (s : State) (hoff : Off wt [.page .ep 0x100, .page .ep 0x280, .ports .ep, .sent, .free]) :
    (State.linkTicks s .ep).view wt = s.view wt := by
  simp at hoff
  simp [State.linkTicks, hoff, Chip.view, Chip.rest, Pool.view, Pool.rest, Svc.view, Svc.rest, Herds.view, Herds.rest, Dct.view, Dct.rest, Dct.held, Fw.view, Fw.rest, Fw.held]

@[simp] theorem State_tick_frame (s : State) (hoff : Off wt [.page .sw 0x10, .page .sw 0x100, .page .sw 0x280, .ltc .sw, .ports .sw, .page .ep 0x10, .page .ep 0x11, .page .ep 0x100, .page .ep 0x280, .ltc .ep, .ports .ep, .core, .rly, .reqs, .sent, .free]) :
    (State.tick s).view wt = s.view wt := by
  simp at hoff
  simp [State.tick, hoff, Chip.view, Chip.rest, Pool.view, Pool.rest, Svc.view, Svc.rest, Herds.view, Herds.rest, Dct.view, Dct.rest, Dct.held, Fw.view, Fw.rest, Fw.held]

end Sys2Proof.Machine
end

