-- ==== Sys2Proof/Laws/Memory.lean ====
section
/-! SUPPORT. The canonical form of sparse maps and of the pool's bytes: what each operation does to a lookup, that each keeps the form, and that two memories of the form that read alike are equal. -/

set_option Elab.async false

namespace Sys2Proof.Machine

theorem rising_cons {α : Type} (k : Nat) (v : α) (r : SMap α) :
    rising ((k, v) :: r) = true ↔ (∀ e ∈ r, k < e.1) ∧ rising r = true := by
  induction r generalizing k v with
  | nil => simp [rising]
  | cons e r ih =>
    obtain ⟨k', v'⟩ := e
    simp only [rising, Bool.and_eq_true, decide_eq_true_eq, List.mem_cons, forall_eq_or_imp]
    constructor
    · rintro ⟨hk, hr⟩
      exact ⟨⟨hk, fun e he => Nat.lt_trans hk (((ih k' v').1 hr).1 e he)⟩, hr⟩
    · rintro ⟨⟨hk, _⟩, hr⟩
      exact ⟨hk, hr⟩

theorem mem_insertAt {α : Type} (m : SMap α) (q : Nat) (x : α) (e : Nat × α) (h : e ∈ insertAt m q x) : e = (q, x) ∨ e ∈ m := by
  induction m with
  | nil => simpa [insertAt] using h
  | cons p r ih =>
    obtain ⟨k, v⟩ := p
    simp only [insertAt] at h
    split at h
    · simpa [List.mem_cons] using h
    · split at h
      · simp only [List.mem_cons] at h ⊢
        exact h.imp_right Or.inr
      · simp only [List.mem_cons] at h ⊢
        exact h.elim (fun h => Or.inr (Or.inl h)) fun h => (ih h).imp_right Or.inr

theorem mem_removeAt {α : Type} (m : SMap α) (q : Nat) (e : Nat × α) (h : e ∈ removeAt m q) : e ∈ m := by
  induction m with
  | nil => exact h
  | cons p r ih =>
    obtain ⟨k, v⟩ := p
    simp only [removeAt] at h
    split at h
    · exact List.mem_cons_of_mem _ h
    · simp only [List.mem_cons] at h ⊢
      exact h.imp_right ih

theorem rising_insertAt {α : Type} (m : SMap α) (q : Nat) (x : α) (h : rising m = true) : rising (insertAt m q x) = true := by
  induction m with
  | nil => rfl
  | cons p r ih =>
    obtain ⟨k, v⟩ := p
    obtain ⟨hk, hr⟩ := (rising_cons _ _ _).1 h
    simp only [insertAt]
    split
    · rename_i hq
      exact (rising_cons _ _ _).2 ⟨fun e he => by
        rcases List.mem_cons.1 he with rfl | he
        · exact hq
        · exact Nat.lt_trans hq (hk e he), h⟩
    · split
      · rename_i hq; subst hq
        exact (rising_cons _ _ _).2 ⟨hk, hr⟩
      · rename_i h1 h2
        exact (rising_cons _ _ _).2 ⟨fun e he => by
          rcases mem_insertAt _ _ _ _ he with rfl | he
          · show k < q; omega
          · exact hk e he, ih hr⟩

theorem rising_removeAt {α : Type} (m : SMap α) (q : Nat) (h : rising m = true) : rising (removeAt m q) = true := by
  induction m with
  | nil => rfl
  | cons p r ih =>
    obtain ⟨k, v⟩ := p
    obtain ⟨hk, hr⟩ := (rising_cons _ _ _).1 h
    simp only [removeAt]
    split
    · exact hr
    · exact (rising_cons _ _ _).2 ⟨fun e he => hk e (mem_removeAt _ _ _ he), ih hr⟩

theorem rising_keepIf {α : Type} (f : Nat → α → Bool) (m : SMap α) (h : rising m = true) : rising (keepIf f m) = true := by
  induction m with
  | nil => rfl
  | cons p r ih =>
    obtain ⟨k, v⟩ := p
    obtain ⟨hk, hr⟩ := (rising_cons _ _ _).1 h
    simp only [keepIf, List.filter_cons] at ih ⊢
    split
    · exact (rising_cons _ _ _).2 ⟨fun e he => hk e (List.mem_filter.1 he).1, ih hr⟩
    · exact ih hr

/-- A key below every key of a map is not listed. -/
theorem lookup_below {α : Type} (m : SMap α) (q : Nat) (h : ∀ e ∈ m, q < e.1) : lookup m q = none := by
  induction m with
  | nil => rfl
  | cons p r ih =>
    obtain ⟨k, v⟩ := p
    have hk : q < k := h _ (List.mem_cons_self ..)
    simp only [lookup]
    rw [if_neg (by omega)]
    exact ih fun e he => h e (List.mem_cons_of_mem _ he)

theorem lookup_removeAt {α : Type} (m : SMap α) (k q : Nat) (h : rising m = true) :
    lookup (removeAt m k) q = if q = k then none else lookup m q := by
  induction m with
  | nil => simp [removeAt, lookup]
  | cons p r ih =>
    obtain ⟨a, v⟩ := p
    obtain ⟨ha, hr⟩ := (rising_cons _ _ _).1 h
    simp only [removeAt]
    by_cases hk : k = a
    · subst hk
      simp only [if_true, lookup]
      by_cases hq : q = k
      · subst hq; simp [lookup_below _ _ ha]
      · simp [hq]
    · simp only [hk, if_false, lookup, ih hr]
      by_cases hq : q = a
      · subst hq; simp [Ne.symm hk]
      · simp [hq]

theorem wf_iff (m : List Host.Cell) : Memory.wf m = true ↔ rising m = true ∧ ∀ e ∈ m, e.2 ≠ Memory.unlisted := by
  simp [Memory.wf]

/-- Writing one byte keeps the canonical form. -/
theorem wf_writeByte (m : List Host.Cell) (a : Nat) (b : Byte) (h : Memory.wf m = true) : Memory.wf (Memory.writeByte m a b) = true := by
  obtain ⟨hr, hz⟩ := (wf_iff _).1 h
  unfold Memory.writeByte
  split
  · exact (wf_iff _).2 ⟨rising_removeAt _ _ hr, fun e he => hz e (mem_removeAt _ _ _ he)⟩
  · rename_i hb
    exact (wf_iff _).2 ⟨rising_insertAt _ _ _ hr, fun e he => by
      rcases mem_insertAt _ _ _ _ he with rfl | he
      · exact hb
      · exact hz e he⟩

/-- Writing bytes keeps the canonical form. -/
theorem wf_write (m : List Host.Cell) (a : Nat) (bs : List Byte) (h : Memory.wf m = true) : Memory.wf (Memory.write m a bs) = true := by
  induction bs generalizing m a with
  | nil => exact h
  | cons b bs ih => exact ih _ _ (wf_writeByte _ _ _ h)

/-- The zero scrub keeps the canonical form. -/
theorem wf_zero (m : List Host.Cell) (a n : Nat) (h : Memory.wf m = true) : Memory.wf (Memory.zero m a n) = true := by
  obtain ⟨hr, hz⟩ := (wf_iff _).1 h
  exact (wf_iff _).2 ⟨rising_keepIf _ _ hr, fun e he => hz e (List.mem_filter.1 he).1⟩

/-- The memory of a machine at reset has the canonical form. -/
theorem reset_wf : Memory.wf State.reset.sw.pool.mem = true := id rfl

/-- A byte reads as it was last written, and every other address as before. -/
theorem readByte_writeByte (m : List Host.Cell) (a c : Nat) (b : Byte) (h : Memory.wf m = true) :
    Memory.readByte (Memory.writeByte m a b) c = if c = a then b else Memory.readByte m c := by
  obtain ⟨hr, _⟩ := (wf_iff _).1 h
  unfold Memory.writeByte Memory.readByte
  split
  · rename_i hb
    rw [lookup_removeAt _ _ _ hr]
    split <;> simp [hb]
  · rw [lookup_insertAt]
    split <;> simp

/-- Bytes read as they were last written, and every address outside them as before. -/
theorem readByte_write (m : List Host.Cell) (a c : Nat) (bs : List Byte) (h : Memory.wf m = true) :
    Memory.readByte (Memory.write m a bs) c = if a ≤ c ∧ c < a + bs.length then bs.getD (c - a) 0 else Memory.readByte m c := by
  induction bs generalizing m a with
  | nil => simp only [Memory.write, List.length_nil]; rw [if_neg (by omega)]
  | cons b bs ih =>
    simp only [Memory.write, List.length_cons]
    rw [ih _ _ (wf_writeByte _ _ _ h), readByte_writeByte _ _ _ _ h]
    by_cases h1 : a + 1 ≤ c ∧ c < a + 1 + bs.length
    · rw [if_pos h1, if_pos (by omega)]
      obtain ⟨d, hd⟩ : ∃ d, c - a = d + 1 := ⟨c - a - 1, by omega⟩
      rw [hd, show c - (a + 1) = d by omega]
      simp
    · rw [if_neg h1]
      by_cases h2 : c = a
      · subst h2
        rw [if_pos rfl, if_pos (by omega)]
        simp
      · rw [if_neg h2, if_neg (by omega)]

/-- A zeroed range reads zero, and every address outside it as before. -/
theorem readByte_zero (m : List Host.Cell) (a n c : Nat) :
    Memory.readByte (Memory.zero m a n) c = if a ≤ c ∧ c < a + n then Memory.unlisted else Memory.readByte m c := by
  unfold Memory.readByte Memory.zero
  induction m with
  | nil => simp [keepIf, lookup]
  | cons p r ih =>
    obtain ⟨k, v⟩ := p
    simp only [keepIf, List.filter_cons] at ih ⊢
    by_cases hk : (k < a || a + n ≤ k) = true
    · rw [if_pos hk]
      simp only [lookup]
      by_cases hc : c = k
      · subst hc
        simp only [if_true]
        rw [if_neg (by simp at hk; omega)]
      · simp only [hc, if_false]; exact ih
    · rw [if_neg hk, ih]
      simp only [lookup]
      by_cases hc : c = k
      · subst hc
        simp at hk
        rw [if_pos (by omega), if_pos (by omega)]
      · simp [hc]

/-- Two memories of the canonical form that read alike are equal. -/
theorem memory_ext (m m' : List Host.Cell) (h : Memory.wf m = true) (h' : Memory.wf m' = true)
    (he : ∀ a, Memory.readByte m a = Memory.readByte m' a) : m = m' := by
  induction m generalizing m' with
  | nil =>
    cases m' with
    | nil => rfl
    | cons p r =>
      have := he p.1
      simp only [Memory.readByte, lookup, if_true, Option.getD_none, Option.getD_some] at this
      exact absurd this.symm (((wf_iff _).1 h').2 p (List.mem_cons_self ..))
  | cons p r ih =>
    obtain ⟨k, v⟩ := p
    obtain ⟨hr, hz⟩ := (wf_iff _).1 h
    obtain ⟨hk, hr⟩ := (rising_cons _ _ _).1 hr
    have hv : v ≠ Memory.unlisted := hz _ (List.mem_cons_self ..)
    cases m' with
    | nil =>
      have := he k
      simp only [Memory.readByte, lookup, if_true, Option.getD_none, Option.getD_some] at this
      exact absurd this hv
    | cons p' r' =>
      obtain ⟨k', v'⟩ := p'
      obtain ⟨ho', hz'⟩ := (wf_iff _).1 h'
      obtain ⟨hk', hr'⟩ := (rising_cons _ _ _).1 ho'
      have hv' : v' ≠ Memory.unlisted := hz' _ (List.mem_cons_self ..)
      have e1 := he k
      have e2 := he k'
      simp only [Memory.readByte, lookup, if_true, Option.getD_some] at e1 e2
      have hkk : k = k' := by
        rcases Nat.lt_trichotomy k k' with hlt | heq | hgt
        · rw [if_neg (by omega), lookup_below _ _ fun e he => Nat.lt_trans hlt (hk' e he)] at e1
          exact absurd e1 hv
        · exact heq
        · rw [if_neg (by omega), lookup_below _ _ fun e he => Nat.lt_trans hgt (hk e he)] at e2
          exact absurd e2.symm hv'
      subst hkk
      simp only [if_true, Option.getD_some] at e1
      subst e1
      congr 1
      refine ih r' ((wf_iff _).2 ⟨hr, fun e he => hz e (List.mem_cons_of_mem _ he)⟩)
        ((wf_iff _).2 ⟨hr', fun e he => hz' e (List.mem_cons_of_mem _ he)⟩) fun a => ?_
      have := he a
      simp only [Memory.readByte, lookup] at this ⊢
      by_cases ha : a = k
      · subst ha
        rw [lookup_below _ _ hk, lookup_below _ _ hk']
      · simpa [ha] using this

end Sys2Proof.Machine
end

