-- ==== Sys2Proof/Laws/Registers.lean ====
section
/-! SUPPORT. Registers read as they were last written: the bits of a word, one register, one field, and the fields beside it. -/

set_option Elab.async false

namespace Sys2Proof.Machine

theorem getBits_testBit (x : Word) (lo w i : Nat) : (getBits x lo w).testBit i = (decide (i < w) && x.getLsbD (lo + i)) := by
  simp [getBits, Nat.testBit_mod_two_pow, Nat.testBit_shiftRight, BitVec.testBit_toNat]

theorem setBits_getLsbD (x : Word) (lo w v i : Nat) :
    (setBits x lo w v).getLsbD i = (decide (i < 64) && if lo ≤ i ∧ i < lo + w then v.testBit (i - lo) else x.getLsbD i) := by
  simp only [setBits, BitVec.getLsbD_or, BitVec.getLsbD_and, BitVec.getLsbD_not, BitVec.getLsbD_ofNat, Nat.testBit_shiftLeft,
    Nat.testBit_two_pow_sub_one, Nat.testBit_mod_two_pow]
  by_cases h : i < 64
  · by_cases h1 : lo ≤ i
    · by_cases h2 : i < lo + w
      · have : i - lo < w := by omega
        simp [h, h1, h2, this]
      · have : ¬ i - lo < w := by omega
        simp [h, h1, h2, this]
    · simp [h, h1]
  · have hx : x.getLsbD i = false := BitVec.getLsbD_of_ge _ _ (by omega)
    simp [h]

/-- A field holds the bits stored in it. -/
theorem getBits_setBits (x : Word) (lo w v : Nat) (h : lo + w ≤ 64) : getBits (setBits x lo w v) lo w = v % 2 ^ w := by
  refine Nat.eq_of_testBit_eq fun i => ?_
  rw [getBits_testBit, setBits_getLsbD, Nat.testBit_mod_two_pow]
  by_cases hi : i < w
  · have h1 : lo + i < 64 := by omega
    have h2 : lo + i - lo = i := by omega
    simp [hi, h1, h2]
  · simp [hi]

/-- A field beside the stored one is left as it was. -/
theorem getBits_setBits_apart (x : Word) (lo w lo' w' v : Nat) (h : lo' + w' ≤ lo ∨ lo + w ≤ lo') :
    getBits (setBits x lo w v) lo' w' = getBits x lo' w' := by
  refine Nat.eq_of_testBit_eq fun i => ?_
  rw [getBits_testBit, getBits_testBit, setBits_getLsbD]
  by_cases hi : i < w'
  · rw [if_neg (by omega)]
    by_cases h1 : lo' + i < 64
    · simp [h1]
    · simp [h1, BitVec.getLsbD_of_ge x (lo' + i) (by omega)]
  · simp [hi]

/-- A register reads as it was written; every register with another key, and every register of the other part, reads as before. -/
theorem rd_wr (s : State) (p q : Part) (r r' : Reg) (x : Word) (b i b' i' : Nat) :
    (s.wr p r x b i).rd q r' b' i' = if q = p ∧ r'.key b' i' = r.key b i then x else s.rd q r' b' i' := by
  cases p <;> cases q <;> simp [State.rd, State.wr, State.onChip, State.chip, read_write]

@[simp] theorem rd_wr_same (s : State) (p : Part) (r : Reg) (x : Word) (b i : Nat) : (s.wr p r x b i).rd p r b i = x := by
  simp [rd_wr]

/-- A field reads as it was stored. -/
theorem get_put (s : State) (p : Part) (f : Fld) (v b i : Nat) (h : f.lo + f.w ≤ 64) : (s.put p f v b i).get p f b i = v % 2 ^ f.w := by
  simp [State.put, State.get, getBits_setBits _ _ _ _ h]

/-- A field of another register reads as before a store. -/
theorem get_put_reg (s : State) (p : Part) (f g : Fld) (v b i b' i' : Nat) (h : g.reg.key b' i' ≠ f.reg.key b i) :
    (s.put p f v b i).get p g b' i' = s.get p g b' i' := by
  simp [State.put, State.get, rd_wr, h]

/-- A field beside the stored one in the same register reads as before. -/
theorem get_put_apart (s : State) (p : Part) (f g : Fld) (v b i : Nat) (hr : g.reg = f.reg) (h : g.lo + g.w ≤ f.lo ∨ f.lo + f.w ≤ g.lo) :
    (s.put p f v b i).get p g b i = s.get p g b i := by
  simp [State.put, State.get, hr, getBits_setBits_apart _ _ _ _ _ _ h]

/-- A field of one part reads as before a store at the other. -/
theorem get_put_part (s : State) (p q : Part) (f g : Fld) (v b i b' i' : Nat) (h : q ≠ p) :
    (s.put p f v b i).get q g b' i' = s.get q g b' i' := by
  simp [State.put, State.get, rd_wr, h]

end Sys2Proof.Machine
end

