-- ==== Sys2Proof/Laws/State.lean ====
section
/-! SUPPORT. What each named update of the state does to each of its components: one lemma per component per update, true by unfolding. -/

set_option Elab.async false

namespace Sys2Proof.Machine

@[simp] theorem onCore_swc (s : State) (f : SwCore → SwCore) : (s.onCore f).swc = s.swc := id rfl
@[simp] theorem onCore_epc (s : State) (f : SwCore → SwCore) : (s.onCore f).epc = s.epc := id rfl
@[simp] theorem onCore_out (s : State) (f : SwCore → SwCore) : (s.onCore f).out = s.out := id rfl
@[simp] theorem onCore_free (s : State) (f : SwCore → SwCore) : (s.onCore f).free = s.free := id rfl
@[simp] theorem onCore_pending (s : State) (f : SwCore → SwCore) : (s.onCore f).pending = s.pending := id rfl
@[simp] theorem onCore_sw_core (s : State) (f : SwCore → SwCore) : (s.onCore f).sw.core = f s.sw.core := id rfl
@[simp] theorem onCore_sw_pool (s : State) (f : SwCore → SwCore) : (s.onCore f).sw.pool = s.sw.pool := id rfl
@[simp] theorem onCore_sw_svc (s : State) (f : SwCore → SwCore) : (s.onCore f).sw.svc = s.sw.svc := id rfl
@[simp] theorem onCore_sw_hrd (s : State) (f : SwCore → SwCore) : (s.onCore f).sw.hrd = s.sw.hrd := id rfl
@[simp] theorem onCore_sw_invals (s : State) (f : SwCore → SwCore) : (s.onCore f).sw.invals = s.sw.invals := id rfl
@[simp] theorem onCore_sw_cxl (s : State) (f : SwCore → SwCore) : (s.onCore f).sw.cxl = s.sw.cxl := id rfl
@[simp] theorem onCore_sw_dct (s : State) (f : SwCore → SwCore) : (s.onCore f).sw.dct = s.sw.dct := id rfl
@[simp] theorem onCore_sw_fw (s : State) (f : SwCore → SwCore) : (s.onCore f).sw.fw = s.sw.fw := id rfl
@[simp] theorem onCore_ep_rly (s : State) (f : SwCore → SwCore) : (s.onCore f).ep.rly = s.ep.rly := id rfl
@[simp] theorem onCore_ep_cmds (s : State) (f : SwCore → SwCore) : (s.onCore f).ep.cmds = s.ep.cmds := id rfl
@[simp] theorem onCore_ep_ddp (s : State) (f : SwCore → SwCore) : (s.onCore f).ep.ddp = s.ep.ddp := id rfl
@[simp] theorem onCore_ep_reqs (s : State) (f : SwCore → SwCore) : (s.onCore f).ep.reqs = s.ep.reqs := id rfl
@[simp] theorem onCore_ep_ag (s : State) (f : SwCore → SwCore) : (s.onCore f).ep.ag = s.ep.ag := id rfl
@[simp] theorem onCore_ep_secHalted (s : State) (f : SwCore → SwCore) : (s.onCore f).ep.secHalted = s.ep.secHalted := id rfl

@[simp] theorem onPool_swc (s : State) (f : Pool → Pool) : (s.onPool f).swc = s.swc := id rfl
@[simp] theorem onPool_epc (s : State) (f : Pool → Pool) : (s.onPool f).epc = s.epc := id rfl
@[simp] theorem onPool_out (s : State) (f : Pool → Pool) : (s.onPool f).out = s.out := id rfl
@[simp] theorem onPool_free (s : State) (f : Pool → Pool) : (s.onPool f).free = s.free := id rfl
@[simp] theorem onPool_pending (s : State) (f : Pool → Pool) : (s.onPool f).pending = s.pending := id rfl
@[simp] theorem onPool_sw_core (s : State) (f : Pool → Pool) : (s.onPool f).sw.core = s.sw.core := id rfl
@[simp] theorem onPool_sw_pool (s : State) (f : Pool → Pool) : (s.onPool f).sw.pool = f s.sw.pool := id rfl
@[simp] theorem onPool_sw_svc (s : State) (f : Pool → Pool) : (s.onPool f).sw.svc = s.sw.svc := id rfl
@[simp] theorem onPool_sw_hrd (s : State) (f : Pool → Pool) : (s.onPool f).sw.hrd = s.sw.hrd := id rfl
@[simp] theorem onPool_sw_invals (s : State) (f : Pool → Pool) : (s.onPool f).sw.invals = s.sw.invals := id rfl
@[simp] theorem onPool_sw_cxl (s : State) (f : Pool → Pool) : (s.onPool f).sw.cxl = s.sw.cxl := id rfl
@[simp] theorem onPool_sw_dct (s : State) (f : Pool → Pool) : (s.onPool f).sw.dct = s.sw.dct := id rfl
@[simp] theorem onPool_sw_fw (s : State) (f : Pool → Pool) : (s.onPool f).sw.fw = s.sw.fw := id rfl
@[simp] theorem onPool_ep_rly (s : State) (f : Pool → Pool) : (s.onPool f).ep.rly = s.ep.rly := id rfl
@[simp] theorem onPool_ep_cmds (s : State) (f : Pool → Pool) : (s.onPool f).ep.cmds = s.ep.cmds := id rfl
@[simp] theorem onPool_ep_ddp (s : State) (f : Pool → Pool) : (s.onPool f).ep.ddp = s.ep.ddp := id rfl
@[simp] theorem onPool_ep_reqs (s : State) (f : Pool → Pool) : (s.onPool f).ep.reqs = s.ep.reqs := id rfl
@[simp] theorem onPool_ep_ag (s : State) (f : Pool → Pool) : (s.onPool f).ep.ag = s.ep.ag := id rfl
@[simp] theorem onPool_ep_secHalted (s : State) (f : Pool → Pool) : (s.onPool f).ep.secHalted = s.ep.secHalted := id rfl

@[simp] theorem onSvc_swc (s : State) (f : Svc → Svc) : (s.onSvc f).swc = s.swc := id rfl
@[simp] theorem onSvc_epc (s : State) (f : Svc → Svc) : (s.onSvc f).epc = s.epc := id rfl
@[simp] theorem onSvc_out (s : State) (f : Svc → Svc) : (s.onSvc f).out = s.out := id rfl
@[simp] theorem onSvc_free (s : State) (f : Svc → Svc) : (s.onSvc f).free = s.free := id rfl
@[simp] theorem onSvc_pending (s : State) (f : Svc → Svc) : (s.onSvc f).pending = s.pending := id rfl
@[simp] theorem onSvc_sw_core (s : State) (f : Svc → Svc) : (s.onSvc f).sw.core = s.sw.core := id rfl
@[simp] theorem onSvc_sw_pool (s : State) (f : Svc → Svc) : (s.onSvc f).sw.pool = s.sw.pool := id rfl
@[simp] theorem onSvc_sw_svc (s : State) (f : Svc → Svc) : (s.onSvc f).sw.svc = f s.sw.svc := id rfl
@[simp] theorem onSvc_sw_hrd (s : State) (f : Svc → Svc) : (s.onSvc f).sw.hrd = s.sw.hrd := id rfl
@[simp] theorem onSvc_sw_invals (s : State) (f : Svc → Svc) : (s.onSvc f).sw.invals = s.sw.invals := id rfl
@[simp] theorem onSvc_sw_cxl (s : State) (f : Svc → Svc) : (s.onSvc f).sw.cxl = s.sw.cxl := id rfl
@[simp] theorem onSvc_sw_dct (s : State) (f : Svc → Svc) : (s.onSvc f).sw.dct = s.sw.dct := id rfl
@[simp] theorem onSvc_sw_fw (s : State) (f : Svc → Svc) : (s.onSvc f).sw.fw = s.sw.fw := id rfl
@[simp] theorem onSvc_ep_rly (s : State) (f : Svc → Svc) : (s.onSvc f).ep.rly = s.ep.rly := id rfl
@[simp] theorem onSvc_ep_cmds (s : State) (f : Svc → Svc) : (s.onSvc f).ep.cmds = s.ep.cmds := id rfl
@[simp] theorem onSvc_ep_ddp (s : State) (f : Svc → Svc) : (s.onSvc f).ep.ddp = s.ep.ddp := id rfl
@[simp] theorem onSvc_ep_reqs (s : State) (f : Svc → Svc) : (s.onSvc f).ep.reqs = s.ep.reqs := id rfl
@[simp] theorem onSvc_ep_ag (s : State) (f : Svc → Svc) : (s.onSvc f).ep.ag = s.ep.ag := id rfl
@[simp] theorem onSvc_ep_secHalted (s : State) (f : Svc → Svc) : (s.onSvc f).ep.secHalted = s.ep.secHalted := id rfl

@[simp] theorem onHrd_swc (s : State) (f : Herds → Herds) : (s.onHrd f).swc = s.swc := id rfl
@[simp] theorem onHrd_epc (s : State) (f : Herds → Herds) : (s.onHrd f).epc = s.epc := id rfl
@[simp] theorem onHrd_out (s : State) (f : Herds → Herds) : (s.onHrd f).out = s.out := id rfl
@[simp] theorem onHrd_free (s : State) (f : Herds → Herds) : (s.onHrd f).free = s.free := id rfl
@[simp] theorem onHrd_pending (s : State) (f : Herds → Herds) : (s.onHrd f).pending = s.pending := id rfl
@[simp] theorem onHrd_sw_core (s : State) (f : Herds → Herds) : (s.onHrd f).sw.core = s.sw.core := id rfl
@[simp] theorem onHrd_sw_pool (s : State) (f : Herds → Herds) : (s.onHrd f).sw.pool = s.sw.pool := id rfl
@[simp] theorem onHrd_sw_svc (s : State) (f : Herds → Herds) : (s.onHrd f).sw.svc = s.sw.svc := id rfl
@[simp] theorem onHrd_sw_hrd (s : State) (f : Herds → Herds) : (s.onHrd f).sw.hrd = f s.sw.hrd := id rfl
@[simp] theorem onHrd_sw_invals (s : State) (f : Herds → Herds) : (s.onHrd f).sw.invals = s.sw.invals := id rfl
@[simp] theorem onHrd_sw_cxl (s : State) (f : Herds → Herds) : (s.onHrd f).sw.cxl = s.sw.cxl := id rfl
@[simp] theorem onHrd_sw_dct (s : State) (f : Herds → Herds) : (s.onHrd f).sw.dct = s.sw.dct := id rfl
@[simp] theorem onHrd_sw_fw (s : State) (f : Herds → Herds) : (s.onHrd f).sw.fw = s.sw.fw := id rfl
@[simp] theorem onHrd_ep_rly (s : State) (f : Herds → Herds) : (s.onHrd f).ep.rly = s.ep.rly := id rfl
@[simp] theorem onHrd_ep_cmds (s : State) (f : Herds → Herds) : (s.onHrd f).ep.cmds = s.ep.cmds := id rfl
@[simp] theorem onHrd_ep_ddp (s : State) (f : Herds → Herds) : (s.onHrd f).ep.ddp = s.ep.ddp := id rfl
@[simp] theorem onHrd_ep_reqs (s : State) (f : Herds → Herds) : (s.onHrd f).ep.reqs = s.ep.reqs := id rfl
@[simp] theorem onHrd_ep_ag (s : State) (f : Herds → Herds) : (s.onHrd f).ep.ag = s.ep.ag := id rfl
@[simp] theorem onHrd_ep_secHalted (s : State) (f : Herds → Herds) : (s.onHrd f).ep.secHalted = s.ep.secHalted := id rfl

@[simp] theorem onDct_swc (s : State) (f : Dct → Dct) : (s.onDct f).swc = s.swc := id rfl
@[simp] theorem onDct_epc (s : State) (f : Dct → Dct) : (s.onDct f).epc = s.epc := id rfl
@[simp] theorem onDct_out (s : State) (f : Dct → Dct) : (s.onDct f).out = s.out := id rfl
@[simp] theorem onDct_free (s : State) (f : Dct → Dct) : (s.onDct f).free = s.free := id rfl
@[simp] theorem onDct_pending (s : State) (f : Dct → Dct) : (s.onDct f).pending = s.pending := id rfl
@[simp] theorem onDct_sw_core (s : State) (f : Dct → Dct) : (s.onDct f).sw.core = s.sw.core := id rfl
@[simp] theorem onDct_sw_pool (s : State) (f : Dct → Dct) : (s.onDct f).sw.pool = s.sw.pool := id rfl
@[simp] theorem onDct_sw_svc (s : State) (f : Dct → Dct) : (s.onDct f).sw.svc = s.sw.svc := id rfl
@[simp] theorem onDct_sw_hrd (s : State) (f : Dct → Dct) : (s.onDct f).sw.hrd = s.sw.hrd := id rfl
@[simp] theorem onDct_sw_invals (s : State) (f : Dct → Dct) : (s.onDct f).sw.invals = s.sw.invals := id rfl
@[simp] theorem onDct_sw_cxl (s : State) (f : Dct → Dct) : (s.onDct f).sw.cxl = s.sw.cxl := id rfl
@[simp] theorem onDct_sw_dct (s : State) (f : Dct → Dct) : (s.onDct f).sw.dct = f s.sw.dct := id rfl
@[simp] theorem onDct_sw_fw (s : State) (f : Dct → Dct) : (s.onDct f).sw.fw = s.sw.fw := id rfl
@[simp] theorem onDct_ep_rly (s : State) (f : Dct → Dct) : (s.onDct f).ep.rly = s.ep.rly := id rfl
@[simp] theorem onDct_ep_cmds (s : State) (f : Dct → Dct) : (s.onDct f).ep.cmds = s.ep.cmds := id rfl
@[simp] theorem onDct_ep_ddp (s : State) (f : Dct → Dct) : (s.onDct f).ep.ddp = s.ep.ddp := id rfl
@[simp] theorem onDct_ep_reqs (s : State) (f : Dct → Dct) : (s.onDct f).ep.reqs = s.ep.reqs := id rfl
@[simp] theorem onDct_ep_ag (s : State) (f : Dct → Dct) : (s.onDct f).ep.ag = s.ep.ag := id rfl
@[simp] theorem onDct_ep_secHalted (s : State) (f : Dct → Dct) : (s.onDct f).ep.secHalted = s.ep.secHalted := id rfl

@[simp] theorem onFw_swc (s : State) (f : Fw → Fw) : (s.onFw f).swc = s.swc := id rfl
@[simp] theorem onFw_epc (s : State) (f : Fw → Fw) : (s.onFw f).epc = s.epc := id rfl
@[simp] theorem onFw_out (s : State) (f : Fw → Fw) : (s.onFw f).out = s.out := id rfl
@[simp] theorem onFw_free (s : State) (f : Fw → Fw) : (s.onFw f).free = s.free := id rfl
@[simp] theorem onFw_pending (s : State) (f : Fw → Fw) : (s.onFw f).pending = s.pending := id rfl
@[simp] theorem onFw_sw_core (s : State) (f : Fw → Fw) : (s.onFw f).sw.core = s.sw.core := id rfl
@[simp] theorem onFw_sw_pool (s : State) (f : Fw → Fw) : (s.onFw f).sw.pool = s.sw.pool := id rfl
@[simp] theorem onFw_sw_svc (s : State) (f : Fw → Fw) : (s.onFw f).sw.svc = s.sw.svc := id rfl
@[simp] theorem onFw_sw_hrd (s : State) (f : Fw → Fw) : (s.onFw f).sw.hrd = s.sw.hrd := id rfl
@[simp] theorem onFw_sw_invals (s : State) (f : Fw → Fw) : (s.onFw f).sw.invals = s.sw.invals := id rfl
@[simp] theorem onFw_sw_cxl (s : State) (f : Fw → Fw) : (s.onFw f).sw.cxl = s.sw.cxl := id rfl
@[simp] theorem onFw_sw_dct (s : State) (f : Fw → Fw) : (s.onFw f).sw.dct = s.sw.dct := id rfl
@[simp] theorem onFw_sw_fw (s : State) (f : Fw → Fw) : (s.onFw f).sw.fw = f s.sw.fw := id rfl
@[simp] theorem onFw_ep_rly (s : State) (f : Fw → Fw) : (s.onFw f).ep.rly = s.ep.rly := id rfl
@[simp] theorem onFw_ep_cmds (s : State) (f : Fw → Fw) : (s.onFw f).ep.cmds = s.ep.cmds := id rfl
@[simp] theorem onFw_ep_ddp (s : State) (f : Fw → Fw) : (s.onFw f).ep.ddp = s.ep.ddp := id rfl
@[simp] theorem onFw_ep_reqs (s : State) (f : Fw → Fw) : (s.onFw f).ep.reqs = s.ep.reqs := id rfl
@[simp] theorem onFw_ep_ag (s : State) (f : Fw → Fw) : (s.onFw f).ep.ag = s.ep.ag := id rfl
@[simp] theorem onFw_ep_secHalted (s : State) (f : Fw → Fw) : (s.onFw f).ep.secHalted = s.ep.secHalted := id rfl

@[simp] theorem onCxl_swc (s : State) (f : Cxl → Cxl) : (s.onCxl f).swc = s.swc := id rfl
@[simp] theorem onCxl_epc (s : State) (f : Cxl → Cxl) : (s.onCxl f).epc = s.epc := id rfl
@[simp] theorem onCxl_out (s : State) (f : Cxl → Cxl) : (s.onCxl f).out = s.out := id rfl
@[simp] theorem onCxl_free (s : State) (f : Cxl → Cxl) : (s.onCxl f).free = s.free := id rfl
@[simp] theorem onCxl_pending (s : State) (f : Cxl → Cxl) : (s.onCxl f).pending = s.pending := id rfl
@[simp] theorem onCxl_sw_core (s : State) (f : Cxl → Cxl) : (s.onCxl f).sw.core = s.sw.core := id rfl
@[simp] theorem onCxl_sw_pool (s : State) (f : Cxl → Cxl) : (s.onCxl f).sw.pool = s.sw.pool := id rfl
@[simp] theorem onCxl_sw_svc (s : State) (f : Cxl → Cxl) : (s.onCxl f).sw.svc = s.sw.svc := id rfl
@[simp] theorem onCxl_sw_hrd (s : State) (f : Cxl → Cxl) : (s.onCxl f).sw.hrd = s.sw.hrd := id rfl
@[simp] theorem onCxl_sw_invals (s : State) (f : Cxl → Cxl) : (s.onCxl f).sw.invals = s.sw.invals := id rfl
@[simp] theorem onCxl_sw_cxl (s : State) (f : Cxl → Cxl) : (s.onCxl f).sw.cxl = f s.sw.cxl := id rfl
@[simp] theorem onCxl_sw_dct (s : State) (f : Cxl → Cxl) : (s.onCxl f).sw.dct = s.sw.dct := id rfl
@[simp] theorem onCxl_sw_fw (s : State) (f : Cxl → Cxl) : (s.onCxl f).sw.fw = s.sw.fw := id rfl
@[simp] theorem onCxl_ep_rly (s : State) (f : Cxl → Cxl) : (s.onCxl f).ep.rly = s.ep.rly := id rfl
@[simp] theorem onCxl_ep_cmds (s : State) (f : Cxl → Cxl) : (s.onCxl f).ep.cmds = s.ep.cmds := id rfl
@[simp] theorem onCxl_ep_ddp (s : State) (f : Cxl → Cxl) : (s.onCxl f).ep.ddp = s.ep.ddp := id rfl
@[simp] theorem onCxl_ep_reqs (s : State) (f : Cxl → Cxl) : (s.onCxl f).ep.reqs = s.ep.reqs := id rfl
@[simp] theorem onCxl_ep_ag (s : State) (f : Cxl → Cxl) : (s.onCxl f).ep.ag = s.ep.ag := id rfl
@[simp] theorem onCxl_ep_secHalted (s : State) (f : Cxl → Cxl) : (s.onCxl f).ep.secHalted = s.ep.secHalted := id rfl

@[simp] theorem onRly_swc (s : State) (f : Relay → Relay) : (s.onRly f).swc = s.swc := id rfl
@[simp] theorem onRly_epc (s : State) (f : Relay → Relay) : (s.onRly f).epc = s.epc := id rfl
@[simp] theorem onRly_out (s : State) (f : Relay → Relay) : (s.onRly f).out = s.out := id rfl
@[simp] theorem onRly_free (s : State) (f : Relay → Relay) : (s.onRly f).free = s.free := id rfl
@[simp] theorem onRly_pending (s : State) (f : Relay → Relay) : (s.onRly f).pending = s.pending := id rfl
@[simp] theorem onRly_sw_core (s : State) (f : Relay → Relay) : (s.onRly f).sw.core = s.sw.core := id rfl
@[simp] theorem onRly_sw_pool (s : State) (f : Relay → Relay) : (s.onRly f).sw.pool = s.sw.pool := id rfl
@[simp] theorem onRly_sw_svc (s : State) (f : Relay → Relay) : (s.onRly f).sw.svc = s.sw.svc := id rfl
@[simp] theorem onRly_sw_hrd (s : State) (f : Relay → Relay) : (s.onRly f).sw.hrd = s.sw.hrd := id rfl
@[simp] theorem onRly_sw_invals (s : State) (f : Relay → Relay) : (s.onRly f).sw.invals = s.sw.invals := id rfl
@[simp] theorem onRly_sw_cxl (s : State) (f : Relay → Relay) : (s.onRly f).sw.cxl = s.sw.cxl := id rfl
@[simp] theorem onRly_sw_dct (s : State) (f : Relay → Relay) : (s.onRly f).sw.dct = s.sw.dct := id rfl
@[simp] theorem onRly_sw_fw (s : State) (f : Relay → Relay) : (s.onRly f).sw.fw = s.sw.fw := id rfl
@[simp] theorem onRly_ep_rly (s : State) (f : Relay → Relay) : (s.onRly f).ep.rly = f s.ep.rly := id rfl
@[simp] theorem onRly_ep_cmds (s : State) (f : Relay → Relay) : (s.onRly f).ep.cmds = s.ep.cmds := id rfl
@[simp] theorem onRly_ep_ddp (s : State) (f : Relay → Relay) : (s.onRly f).ep.ddp = s.ep.ddp := id rfl
@[simp] theorem onRly_ep_reqs (s : State) (f : Relay → Relay) : (s.onRly f).ep.reqs = s.ep.reqs := id rfl
@[simp] theorem onRly_ep_ag (s : State) (f : Relay → Relay) : (s.onRly f).ep.ag = s.ep.ag := id rfl
@[simp] theorem onRly_ep_secHalted (s : State) (f : Relay → Relay) : (s.onRly f).ep.secHalted = s.ep.secHalted := id rfl

@[simp] theorem onAg_swc (s : State) (f : Traffic → Traffic) : (s.onAg f).swc = s.swc := id rfl
@[simp] theorem onAg_epc (s : State) (f : Traffic → Traffic) : (s.onAg f).epc = s.epc := id rfl
@[simp] theorem onAg_out (s : State) (f : Traffic → Traffic) : (s.onAg f).out = s.out := id rfl
@[simp] theorem onAg_free (s : State) (f : Traffic → Traffic) : (s.onAg f).free = s.free := id rfl
@[simp] theorem onAg_pending (s : State) (f : Traffic → Traffic) : (s.onAg f).pending = s.pending := id rfl
@[simp] theorem onAg_sw_core (s : State) (f : Traffic → Traffic) : (s.onAg f).sw.core = s.sw.core := id rfl
@[simp] theorem onAg_sw_pool (s : State) (f : Traffic → Traffic) : (s.onAg f).sw.pool = s.sw.pool := id rfl
@[simp] theorem onAg_sw_svc (s : State) (f : Traffic → Traffic) : (s.onAg f).sw.svc = s.sw.svc := id rfl
@[simp] theorem onAg_sw_hrd (s : State) (f : Traffic → Traffic) : (s.onAg f).sw.hrd = s.sw.hrd := id rfl
@[simp] theorem onAg_sw_invals (s : State) (f : Traffic → Traffic) : (s.onAg f).sw.invals = s.sw.invals := id rfl
@[simp] theorem onAg_sw_cxl (s : State) (f : Traffic → Traffic) : (s.onAg f).sw.cxl = s.sw.cxl := id rfl
@[simp] theorem onAg_sw_dct (s : State) (f : Traffic → Traffic) : (s.onAg f).sw.dct = s.sw.dct := id rfl
@[simp] theorem onAg_sw_fw (s : State) (f : Traffic → Traffic) : (s.onAg f).sw.fw = s.sw.fw := id rfl
@[simp] theorem onAg_ep_rly (s : State) (f : Traffic → Traffic) : (s.onAg f).ep.rly = s.ep.rly := id rfl
@[simp] theorem onAg_ep_cmds (s : State) (f : Traffic → Traffic) : (s.onAg f).ep.cmds = s.ep.cmds := id rfl
@[simp] theorem onAg_ep_ddp (s : State) (f : Traffic → Traffic) : (s.onAg f).ep.ddp = s.ep.ddp := id rfl
@[simp] theorem onAg_ep_reqs (s : State) (f : Traffic → Traffic) : (s.onAg f).ep.reqs = s.ep.reqs := id rfl
@[simp] theorem onAg_ep_ag (s : State) (f : Traffic → Traffic) : (s.onAg f).ep.ag = f s.ep.ag := id rfl
@[simp] theorem onAg_ep_secHalted (s : State) (f : Traffic → Traffic) : (s.onAg f).ep.secHalted = s.ep.secHalted := id rfl

@[simp] theorem emit_swc (s : State) (x : Out) : (s.emit x).swc = s.swc := id rfl
@[simp] theorem emit_epc (s : State) (x : Out) : (s.emit x).epc = s.epc := id rfl
@[simp] theorem emit_out (s : State) (x : Out) : (s.emit x).out = s.out ++ [x] := id rfl
@[simp] theorem emit_free (s : State) (x : Out) : (s.emit x).free = s.free := id rfl
@[simp] theorem emit_pending (s : State) (x : Out) : (s.emit x).pending = s.pending := id rfl
@[simp] theorem emit_sw_core (s : State) (x : Out) : (s.emit x).sw.core = s.sw.core := id rfl
@[simp] theorem emit_sw_pool (s : State) (x : Out) : (s.emit x).sw.pool = s.sw.pool := id rfl
@[simp] theorem emit_sw_svc (s : State) (x : Out) : (s.emit x).sw.svc = s.sw.svc := id rfl
@[simp] theorem emit_sw_hrd (s : State) (x : Out) : (s.emit x).sw.hrd = s.sw.hrd := id rfl
@[simp] theorem emit_sw_invals (s : State) (x : Out) : (s.emit x).sw.invals = s.sw.invals := id rfl
@[simp] theorem emit_sw_cxl (s : State) (x : Out) : (s.emit x).sw.cxl = s.sw.cxl := id rfl
@[simp] theorem emit_sw_dct (s : State) (x : Out) : (s.emit x).sw.dct = s.sw.dct := id rfl
@[simp] theorem emit_sw_fw (s : State) (x : Out) : (s.emit x).sw.fw = s.sw.fw := id rfl
@[simp] theorem emit_ep_rly (s : State) (x : Out) : (s.emit x).ep.rly = s.ep.rly := id rfl
@[simp] theorem emit_ep_cmds (s : State) (x : Out) : (s.emit x).ep.cmds = s.ep.cmds := id rfl
@[simp] theorem emit_ep_ddp (s : State) (x : Out) : (s.emit x).ep.ddp = s.ep.ddp := id rfl
@[simp] theorem emit_ep_reqs (s : State) (x : Out) : (s.emit x).ep.reqs = s.ep.reqs := id rfl
@[simp] theorem emit_ep_ag (s : State) (x : Out) : (s.emit x).ep.ag = s.ep.ag := id rfl
@[simp] theorem emit_ep_secHalted (s : State) (x : Out) : (s.emit x).ep.secHalted = s.ep.secHalted := id rfl

@[simp] theorem drawn_swc (s : State)  : (s.drawn).swc = s.swc := id rfl
@[simp] theorem drawn_epc (s : State)  : (s.drawn).epc = s.epc := id rfl
@[simp] theorem drawn_out (s : State)  : (s.drawn).out = s.out := id rfl
@[simp] theorem drawn_free (s : State)  : (s.drawn).free = s.free + 1 := id rfl
@[simp] theorem drawn_pending (s : State)  : (s.drawn).pending = s.pending := id rfl
@[simp] theorem drawn_sw_core (s : State)  : (s.drawn).sw.core = s.sw.core := id rfl
@[simp] theorem drawn_sw_pool (s : State)  : (s.drawn).sw.pool = s.sw.pool := id rfl
@[simp] theorem drawn_sw_svc (s : State)  : (s.drawn).sw.svc = s.sw.svc := id rfl
@[simp] theorem drawn_sw_hrd (s : State)  : (s.drawn).sw.hrd = s.sw.hrd := id rfl
@[simp] theorem drawn_sw_invals (s : State)  : (s.drawn).sw.invals = s.sw.invals := id rfl
@[simp] theorem drawn_sw_cxl (s : State)  : (s.drawn).sw.cxl = s.sw.cxl := id rfl
@[simp] theorem drawn_sw_dct (s : State)  : (s.drawn).sw.dct = s.sw.dct := id rfl
@[simp] theorem drawn_sw_fw (s : State)  : (s.drawn).sw.fw = s.sw.fw := id rfl
@[simp] theorem drawn_ep_rly (s : State)  : (s.drawn).ep.rly = s.ep.rly := id rfl
@[simp] theorem drawn_ep_cmds (s : State)  : (s.drawn).ep.cmds = s.ep.cmds := id rfl
@[simp] theorem drawn_ep_ddp (s : State)  : (s.drawn).ep.ddp = s.ep.ddp := id rfl
@[simp] theorem drawn_ep_reqs (s : State)  : (s.drawn).ep.reqs = s.ep.reqs := id rfl
@[simp] theorem drawn_ep_ag (s : State)  : (s.drawn).ep.ag = s.ep.ag := id rfl
@[simp] theorem drawn_ep_secHalted (s : State)  : (s.drawn).ep.secHalted = s.ep.secHalted := id rfl

@[simp] theorem onChip_chip (s : State) (p : Part) (f : Chip → Chip) : (s.onChip p f).chip p = f (s.chip p) := by cases p <;> rfl
theorem onChip_other (s : State) (p q : Part) (f : Chip → Chip) (h : q ≠ p) : (s.onChip p f).chip q = s.chip q := by
  cases p <;> cases q <;> first | rfl | exact absurd rfl h
@[simp] theorem onChip_sw (s : State) (p : Part) (f : Chip → Chip) : (s.onChip p f).sw = s.sw := by cases p <;> rfl
@[simp] theorem onChip_ep (s : State) (p : Part) (f : Chip → Chip) : (s.onChip p f).ep = s.ep := by cases p <;> rfl
@[simp] theorem onChip_out (s : State) (p : Part) (f : Chip → Chip) : (s.onChip p f).out = s.out := by cases p <;> rfl
@[simp] theorem onChip_free (s : State) (p : Part) (f : Chip → Chip) : (s.onChip p f).free = s.free := by cases p <;> rfl
@[simp] theorem onChip_pending (s : State) (p : Part) (f : Chip → Chip) : (s.onChip p f).pending = s.pending := by cases p <;> rfl

@[simp] theorem wr_sw (s : State) (p : Part) (r : Reg) (x : Word) (b i : Nat) : (s.wr p r x b i).sw = s.sw := by cases p <;> rfl
@[simp] theorem wr_ep (s : State) (p : Part) (r : Reg) (x : Word) (b i : Nat) : (s.wr p r x b i).ep = s.ep := by cases p <;> rfl
@[simp] theorem wr_out (s : State) (p : Part) (r : Reg) (x : Word) (b i : Nat) : (s.wr p r x b i).out = s.out := by cases p <;> rfl
@[simp] theorem wr_free (s : State) (p : Part) (r : Reg) (x : Word) (b i : Nat) : (s.wr p r x b i).free = s.free := by cases p <;> rfl
@[simp] theorem wr_pending (s : State) (p : Part) (r : Reg) (x : Word) (b i : Nat) : (s.wr p r x b i).pending = s.pending := by cases p <;> rfl

@[simp] theorem put_sw (s : State) (p : Part) (f : Fld) (v b i : Nat) : (s.put p f v b i).sw = s.sw := by cases p <;> rfl
@[simp] theorem put_ep (s : State) (p : Part) (f : Fld) (v b i : Nat) : (s.put p f v b i).ep = s.ep := by cases p <;> rfl
@[simp] theorem put_out (s : State) (p : Part) (f : Fld) (v b i : Nat) : (s.put p f v b i).out = s.out := by cases p <;> rfl
@[simp] theorem put_free (s : State) (p : Part) (f : Fld) (v b i : Nat) : (s.put p f v b i).free = s.free := by cases p <;> rfl
@[simp] theorem put_pending (s : State) (p : Part) (f : Fld) (v b i : Nat) : (s.put p f v b i).pending = s.pending := by cases p <;> rfl

@[simp] theorem onPort_sw (s : State) (p : Part) (n : Nat) (f : Port → Port) : (s.onPort p n f).sw = s.sw := by cases p <;> rfl
@[simp] theorem onPort_ep (s : State) (p : Part) (n : Nat) (f : Port → Port) : (s.onPort p n f).ep = s.ep := by cases p <;> rfl
@[simp] theorem onPort_out (s : State) (p : Part) (n : Nat) (f : Port → Port) : (s.onPort p n f).out = s.out := by cases p <;> rfl
@[simp] theorem onPort_free (s : State) (p : Part) (n : Nat) (f : Port → Port) : (s.onPort p n f).free = s.free := by cases p <;> rfl
@[simp] theorem onPort_pending (s : State) (p : Part) (n : Nat) (f : Port → Port) : (s.onPort p n f).pending = s.pending := by cases p <;> rfl

@[simp] theorem onSync_sw (s : State) (p : Part) (f : SyncSt → SyncSt) : (s.onSync p f).sw = s.sw := by cases p <;> rfl
@[simp] theorem onSync_ep (s : State) (p : Part) (f : SyncSt → SyncSt) : (s.onSync p f).ep = s.ep := by cases p <;> rfl
@[simp] theorem onSync_out (s : State) (p : Part) (f : SyncSt → SyncSt) : (s.onSync p f).out = s.out := by cases p <;> rfl
@[simp] theorem onSync_free (s : State) (p : Part) (f : SyncSt → SyncSt) : (s.onSync p f).free = s.free := by cases p <;> rfl
@[simp] theorem onSync_pending (s : State) (p : Part) (f : SyncSt → SyncSt) : (s.onSync p f).pending = s.pending := by cases p <;> rfl

@[simp] theorem wr_chip_ltc (s : State) (p q : Part) (r : Reg) (x : Word) (b i : Nat) : ((s.wr p r x b i).chip q).ltc = (s.chip q).ltc := by cases p <;> cases q <;> rfl
@[simp] theorem wr_chip_log (s : State) (p q : Part) (r : Reg) (x : Word) (b i : Nat) : ((s.wr p r x b i).chip q).log = (s.chip q).log := by cases p <;> cases q <;> rfl
@[simp] theorem wr_chip_ports (s : State) (p q : Part) (r : Reg) (x : Word) (b i : Nat) : ((s.wr p r x b i).chip q).ports = (s.chip q).ports := by cases p <;> cases q <;> rfl
@[simp] theorem wr_chip_sync (s : State) (p q : Part) (r : Reg) (x : Word) (b i : Nat) : ((s.wr p r x b i).chip q).sync = (s.chip q).sync := by cases p <;> cases q <;> rfl
@[simp] theorem wr_chip_pageResets (s : State) (p q : Part) (r : Reg) (x : Word) (b i : Nat) : ((s.wr p r x b i).chip q).pageResets = (s.chip q).pageResets := by cases p <;> cases q <;> rfl
@[simp] theorem wr_chip_spdm (s : State) (p q : Part) (r : Reg) (x : Word) (b i : Nat) : ((s.wr p r x b i).chip q).spdm = (s.chip q).spdm := by cases p <;> cases q <;> rfl
@[simp] theorem wr_chip_inReset (s : State) (p q : Part) (r : Reg) (x : Word) (b i : Nat) : ((s.wr p r x b i).chip q).inReset = (s.chip q).inReset := by cases p <;> cases q <;> rfl
@[simp] theorem wr_chip_step (s : State) (p q : Part) (r : Reg) (x : Word) (b i : Nat) : ((s.wr p r x b i).chip q).step = (s.chip q).step := by cases p <;> cases q <;> rfl
@[simp] theorem wr_chip_mainUp (s : State) (p q : Part) (r : Reg) (x : Word) (b i : Nat) : ((s.wr p r x b i).chip q).mainUp = (s.chip q).mainUp := by cases p <;> cases q <;> rfl
@[simp] theorem wr_chip_standbyUp (s : State) (p q : Part) (r : Reg) (x : Word) (b i : Nat) : ((s.wr p r x b i).chip q).standbyUp = (s.chip q).standbyUp := by cases p <;> cases q <;> rfl
@[simp] theorem wr_chip_holdover (s : State) (p q : Part) (r : Reg) (x : Word) (b i : Nat) : ((s.wr p r x b i).chip q).holdover = (s.chip q).holdover := by cases p <;> cases q <;> rfl
@[simp] theorem wr_chip_tap (s : State) (p q : Part) (r : Reg) (x : Word) (b i : Nat) : ((s.wr p r x b i).chip q).tap = (s.chip q).tap := by cases p <;> cases q <;> rfl

@[simp] theorem put_chip_ltc (s : State) (p q : Part) (f : Fld) (v b i : Nat) : ((s.put p f v b i).chip q).ltc = (s.chip q).ltc := by cases p <;> cases q <;> rfl
@[simp] theorem put_chip_log (s : State) (p q : Part) (f : Fld) (v b i : Nat) : ((s.put p f v b i).chip q).log = (s.chip q).log := by cases p <;> cases q <;> rfl
@[simp] theorem put_chip_ports (s : State) (p q : Part) (f : Fld) (v b i : Nat) : ((s.put p f v b i).chip q).ports = (s.chip q).ports := by cases p <;> cases q <;> rfl
@[simp] theorem put_chip_sync (s : State) (p q : Part) (f : Fld) (v b i : Nat) : ((s.put p f v b i).chip q).sync = (s.chip q).sync := by cases p <;> cases q <;> rfl
@[simp] theorem put_chip_pageResets (s : State) (p q : Part) (f : Fld) (v b i : Nat) : ((s.put p f v b i).chip q).pageResets = (s.chip q).pageResets := by cases p <;> cases q <;> rfl
@[simp] theorem put_chip_spdm (s : State) (p q : Part) (f : Fld) (v b i : Nat) : ((s.put p f v b i).chip q).spdm = (s.chip q).spdm := by cases p <;> cases q <;> rfl
@[simp] theorem put_chip_inReset (s : State) (p q : Part) (f : Fld) (v b i : Nat) : ((s.put p f v b i).chip q).inReset = (s.chip q).inReset := by cases p <;> cases q <;> rfl
@[simp] theorem put_chip_step (s : State) (p q : Part) (f : Fld) (v b i : Nat) : ((s.put p f v b i).chip q).step = (s.chip q).step := by cases p <;> cases q <;> rfl
@[simp] theorem put_chip_mainUp (s : State) (p q : Part) (f : Fld) (v b i : Nat) : ((s.put p f v b i).chip q).mainUp = (s.chip q).mainUp := by cases p <;> cases q <;> rfl
@[simp] theorem put_chip_standbyUp (s : State) (p q : Part) (f : Fld) (v b i : Nat) : ((s.put p f v b i).chip q).standbyUp = (s.chip q).standbyUp := by cases p <;> cases q <;> rfl
@[simp] theorem put_chip_holdover (s : State) (p q : Part) (f : Fld) (v b i : Nat) : ((s.put p f v b i).chip q).holdover = (s.chip q).holdover := by cases p <;> cases q <;> rfl
@[simp] theorem put_chip_tap (s : State) (p q : Part) (f : Fld) (v b i : Nat) : ((s.put p f v b i).chip q).tap = (s.chip q).tap := by cases p <;> cases q <;> rfl

@[simp] theorem onPort_port (s : State) (p : Part) (n : Nat) (f : Port → Port) : (s.onPort p n f).port p n = f (s.port p n) := by
  simp [State.port, State.onPort, lookup_insertAt]
theorem onPort_port_other (s : State) (p : Part) (n m : Nat) (f : Port → Port) (h : m ≠ n) : (s.onPort p n f).port p m = s.port p m := by
  simp [State.port, State.onPort, lookup_insertAt, h]
@[simp] theorem onPort_regs (s : State) (p q : Part) (n : Nat) (f : Port → Port) : ((s.onPort p n f).chip q).regs = (s.chip q).regs := by
  cases p <;> cases q <;> rfl
@[simp] theorem onSync_sync (s : State) (p : Part) (f : SyncSt → SyncSt) : ((s.onSync p f).chip p).sync = f (s.chip p).sync := by cases p <;> rfl
@[simp] theorem onSync_regs (s : State) (p q : Part) (f : SyncSt → SyncSt) : ((s.onSync p f).chip q).regs = (s.chip q).regs := by
  cases p <;> cases q <;> rfl

end Sys2Proof.Machine
end

