-- ==== Sys2Proof/Tests/Slice0.lean ====
section
/-! SUPPORT. Tests: terms that well-formedness refuses, worked examples of the spec, and for every statement with conditions a state and operands that meet them. -/

set_option Elab.async false
set_option maxRecDepth 100000
set_option linter.all false

namespace Sys2Proof.Machine.Tests

/-- Both parts run: the switch after its start-up, the endpoint after its own, with the main cores of the switch up. -/
def up : State := (((State.reset.onChip .sw fun c => { c with inReset := false, rstLow := false, step := 12 }).onChip .ep fun c => { c with inReset := false, rstLow := false, step := 5 }).wr .sw MGT_CORE_STS 0x55).put .sw RST_STRAPS_ROLE 1

/-- Each of these commands carries one operand out of range and is refused. -/
theorem test_wf_refuses_1 : ([
  .endpointStartupStepDone 9,
  .pwrCapChange 4,
  .powerControlSample .sw 65536,
  .hbmStackThrottle 6 0,
  .hbmStackThrottle 0 256,
  .tackupDetectProbe .sw 128 0 none,
  .tackupDetectProbe .ep 8 0 none,
  .tackupDetectProbe .sw 0 65536 none,
  .tackupPreambleTmo .sw 128,
  .tackupPreambleTmo .ep 8,
  .laneEqPass .sw 128 0 0 true 0 0,
  .laneEqPass .ep 8 0 0 true 0 0,
  .laneEqPass .sw 0 16 0 true 0 0,
  .laneEqPass .sw 0 0 256 true 0 0,
  .laneEqPass .sw 0 0 0 true 65536 0,
  .laneEqPass .sw 0 0 0 true 0 17,
  .eqTimerExpiry .sw 128,
  .eqTimerExpiry .ep 8,
  .flitLock .sw 128,
  .flitLock .ep 8,
  .lockTmo .sw 128,
  .lockTmo .ep 8,
  .capReceive .sw 128 { credits := List.replicate 14 0 },
  .capReceive .ep 8 { credits := List.replicate 14 0 },
  .capReceive .sw 0 {},
  .refuseReceive .sw 128 0,
  .refuseReceive .ep 8 0,
  .refuseReceive .sw 0 16,
  .pingReceive .sw 128 0,
  .pingReceive .ep 8 0,
  .pongReceive .sw 128 0,
  .pongReceive .ep 8 0,
  .readyReceive .sw 128,
  .readyReceive .ep 8,
  .capxTmo .sw 128,
  .capxTmo .ep 8,
  .tackRetryTimer .sw 128,
  .tackRetryTimer .ep 8,
  .partnerRedetect .sw 128 0,
  .partnerRedetect .ep 8 0] : List Instr).all (fun i => !i.wf) = true := by decide +kernel

/-- Each of these commands carries one operand out of range and is refused. -/
theorem test_wf_refuses_2 : ([
  .fptRestart .host .sw 128,
  .fptRestart .host .ep 8,
  .fptRetrain .host .sw 128,
  .fptRetrain .host .ep 8,
  .fptDisable .host .sw 128 0,
  .fptDisable .host .ep 8 0,
  .fptDisable .host .sw 0 2,
  .retrainSetReceive .sw 128,
  .retrainSetReceive .ep 8,
  .retrainComplete .sw 128 0,
  .retrainComplete .ep 8 0,
  .retrainComplete .sw 0 65536,
  .retrainTimeout .sw 128,
  .retrainTimeout .ep 8,
  .retrainBitlockTmo .sw 128,
  .retrainBitlockTmo .ep 8,
  .shedWindowExpiry .sw 128,
  .shedWindowExpiry .ep 8,
  .laneLockLoss .sw 128 0,
  .laneLockLoss .ep 8 0,
  .laneLockLoss .sw 0 16,
  .shedReceive .sw 128 0 0,
  .shedReceive .ep 8 0 0,
  .shedReceive .sw 0 65536 0,
  .shedReceive .sw 0 0 16384,
  .shedAckReceive .sw 128 0 0,
  .shedAckReceive .ep 8 0 0,
  .shedAckReceive .sw 0 65536 0,
  .shedAckReceive .sw 0 0 16384,
  .shedGoReceive .sw 128,
  .shedGoReceive .ep 8,
  .fifoSlip .sw 128,
  .fifoSlip .ep 8,
  .signalLoss .sw 128,
  .signalLoss .ep 8,
  .flitReceive .sw 128 (List.replicate 272 0),
  .flitReceive .ep 8 (List.replicate 272 0),
  .flitReceive .sw 0 [],
  .nakReceive .sw 128 0,
  .nakReceive .ep 8 0] : List Instr).all (fun i => !i.wf) = true := by decide +kernel

/-- Each of these commands carries one operand out of range and is refused. -/
theorem test_wf_refuses_3 : ([
  .nakReceive .sw 0 16384,
  .replayTimerExpiry .sw 128,
  .replayTimerExpiry .ep 8,
  .groupClose .sw 128,
  .groupClose .ep 8,
  .sealReceive .sw 128 0 (List.replicate 16 0) ⟨0, 0⟩,
  .sealReceive .ep 8 0 (List.replicate 16 0) ⟨0, 0⟩,
  .sealReceive .sw 0 (2 ^ 64) (List.replicate 16 0) ⟨0, 0⟩,
  .sealReceive .sw 0 0 [] ⟨0, 0⟩,
  .kexInitReceive .sw 128 { nonce := List.replicate 32 0 },
  .kexInitReceive .ep 8 { nonce := List.replicate 32 0 },
  .kexInitReceive .sw 0 {},
  .kexRespReceive .sw 128 { nonce := List.replicate 32 0 },
  .kexRespReceive .ep 8 { nonce := List.replicate 32 0 },
  .kexRespReceive .sw 0 {},
  .kexTimeout .sw 128,
  .kexTimeout .ep 8,
  .rekeyRequest .host .sw 128,
  .rekeyRequest .host .ep 8,
  .rekeySoftPoint .sw 128,
  .rekeySoftPoint .ep 8,
  .keyExhausted .sw 128,
  .keyExhausted .ep 8,
  .switchPacketArrival 128 {},
  .switchPacketArrival 0 { dst := 2 ^ 17 },
  .congNoticeReceive { dst := 2 ^ 17 },
  .combineWindowExpiry 64 0,
  .combineIssue 64 0,
  .outcomeRecordExpiry 131072 0,
  .outcomeRecordExpiry 0 65536,
  .outcomeReleaseReceive .sw { dst := 2 ^ 17 },
  .pmapWrite .host 0 0,
  .pmapWrite .host 4 0,
  .drainProbeReceive 128 {},
  .drainProbeReceive 0 { dst := 2 ^ 17 },
  .probeAnswer 128 0,
  .probeAnswer 0 65536,
  .probeAckReceive { dst := 2 ^ 17 },
  .flipSettleExpiry 65536,
  .routeDownReceive { dst := 2 ^ 17 }] : List Instr).all (fun i => !i.wf) = true := by decide +kernel

/-- Each of these commands carries one operand out of range and is refused. -/
theorem test_wf_refuses_4 : ([
  .routeUpReceive { dst := 2 ^ 17 },
  .portActiveReceive 8,
  .partnerIdentityVerified .sw 128 true (List.replicate 64 0),
  .partnerIdentityVerified .ep 8 true (List.replicate 64 0),
  .partnerIdentityVerified .sw 0 true [],
  .rtePortDisable .host 2,
  .cgtEnableWrite .host 2,
  .relayPacket none { dst := 2 ^ 17 },
  .memReq 0 256 0 0 0 [] true true,
  .memReq 0 0 256 0 0 [] true true,
  .memReq 0 0 0 4503599627370496 0 [] true true,
  .memReq 0 0 0 0 257 [] true true,
  .memReq 0 0 0 0 0 (List.replicate 257 0) true true,
  .doorbell 256 0,
  .doorbell 0 4294967296,
  .csr true 4096 0 0 0,
  .accCpl 0 3 [],
  .ucieUp 9 0,
  .ucieUp 0 4,
  .qTailWrite .host 4294967296,
  .descriptorFetch 256 (List.replicate 8 0),
  .descriptorFetch 0 [],
  .descriptorFetchFail 256,
  .cmdNop 256,
  .cmdGet 256,
  .cmdPut 256,
  .cmdAtomic 256,
  .cmdSyncAdd 256,
  .cmdSyncSet 256,
  .cmdSyncRead 256,
  .cmdSyncWait 256,
  .cmdSyncSetClear 256,
  .cmdHerd 256 (List.replicate 8 0) 0 0 0 [] ⟨true, true⟩,
  .cmdHerd 0 [] 0 0 0 [] ⟨true, true⟩,
  .cmdHerd 0 (List.replicate 8 0) 128 0 0 [] ⟨true, true⟩,
  .cmdGather 256,
  .cmdScatterAdd 256,
  .cmdKstart 256,
  .cmdKend 256,
  .localWaitTmo 256] : List Instr).all (fun i => !i.wf) = true := by decide +kernel

/-- Each of these commands carries one operand out of range and is refused. -/
theorem test_wf_refuses_5 : ([
  .commandComplete 256,
  .answerReceive { dst := 2 ^ 17 },
  .gatherRowReceive { dst := 2 ^ 17 },
  .resendTimer 65536,
  .requestTimeout 65536,
  .tagHoldExpiry 65536,
  .outcomeReleaseSend 0 131072,
  .ddpRecordExpiry 131072 0,
  .ddpRecordExpiry 0 65536,
  .bridleIncrease 12,
  .windowRequest { dst := 2 ^ 17 },
  .apValidSet .host 64 0,
  .apValidClear .host 64 0,
  .tableReadComplete { dst := 2 ^ 17 },
  .invalReceive { dst := 2 ^ 17 },
  .rangeValidSet .host 16 0,
  .epcNodeIdWrite .host 131072,
  .syncAdd .sw 256 {},
  .syncAdd .sw 0 { dst := 2 ^ 17 },
  .syncSet .sw 256 {},
  .syncSet .sw 0 { dst := 2 ^ 17 },
  .syncSetClear .sw 256 {},
  .syncSetClear .sw 0 { dst := 2 ^ 17 },
  .syncRead .sw 256 {},
  .syncRead .sw 0 { dst := 2 ^ 17 },
  .syncWait .sw 256 {},
  .syncWait .sw 0 { dst := 2 ^ 17 },
  .syncWaitTimeout .sw 131072 0,
  .syncWaitTimeout .sw 0 65536,
  .poolRead { dst := 2 ^ 17 } [],
  .poolWrite { dst := 2 ^ 17 } [],
  .poolAtomic { dst := 2 ^ 17 } [],
  .readShared { dst := 2 ^ 17 },
  .readOwn { dst := 2 ^ 17 },
  .upgrade { dst := 2 ^ 17 },
  .writeback { dst := 2 ^ 17 },
  .cleanEvict { dst := 2 ^ 17 },
  .snoopReceive { dst := 2 ^ 17 },
  .snpRspReceive { dst := 2 ^ 17 },
  .snoopTimeout 64] : List Instr).all (fun i => !i.wf) = true := by decide +kernel

/-- Each of these commands carries one operand out of range and is refused. -/
theorem test_wf_refuses_6 : ([
  .drainEnd 64,
  .scrubGranuleDone 262144,
  .hbmStackLost 6,
  .bulkPortDown 2,
  .bulkPortUp 2 0 0,
  .prefetchHint { dst := 2 ^ 17 } true,
  .gatherRequest { dst := 2 ^ 17 },
  .scatterAddRequest { dst := 2 ^ 17 },
  .ctlRead .sw { dst := 2 ^ 17 },
  .ctlWrite .sw { dst := 2 ^ 17 },
  .coreResidueFault 64 true none,
  .rdcFenceWrite .host 64,
  .rdcReadmitWrite .host 64,
  .rdcSelftestWrite .host 64,
  .selftestComplete 64 true 0,
  .selftestComplete 0 true 32,
  .hrdClaimRead { path := .remote, node := 2 ^ 17 },
  .herdCreate { path := .remote, node := 2 ^ 17 } 0,
  .herdCreate { path := .host } 4096,
  .herdDestroy { path := .remote, node := 2 ^ 17 } 0,
  .herdDestroy { path := .host } 4096,
  .herdAbortCmd { path := .remote, node := 2 ^ 17 } 0,
  .herdAbortCmd { path := .host } 4096,
  .herdSwapCmd { path := .remote, node := 2 ^ 17 } 0 0 0 true,
  .herdSwapCmd { path := .host } 4096 0 0 true,
  .herdSwapCmd { path := .host } 0 128 0 true,
  .herdSwapCmd { path := .host } 0 0 8 true,
  .herdContrib { dst := 2 ^ 17 },
  .herdPartial { dst := 2 ^ 17 },
  .herdResult .sw { dst := 2 ^ 17 },
  .herdJoin { dst := 2 ^ 17 },
  .herdCounts .sw { dst := 2 ^ 17 },
  .herdRecord { dst := 2 ^ 17 },
  .chunkReduced 4096 0 0,
  .chunkReduced 0 0 64,
  .herdSignalReceive { dst := 2 ^ 17 },
  .herdCplReceive .sw { dst := 2 ^ 17 },
  .herdAbortReceive .sw { dst := 2 ^ 17 },
  .herdSwapReceive { dst := 2 ^ 17 },
  .herdAckReceive { dst := 2 ^ 17 }] : List Instr).all (fun i => !i.wf) = true := by decide +kernel

/-- Each of these commands carries one operand out of range and is refused. -/
theorem test_wf_refuses_7 : ([
  .herdTimerExpiry 4096,
  .abortingTimeout 4096,
  .svcClaimRead { path := .remote, node := 2 ^ 17 },
  .svcLoad { path := .remote, node := 2 ^ 17 } 0,
  .svcLoad { path := .host } 256,
  .svcUnload { path := .remote, node := 2 ^ 17 } 0,
  .svcUnload { path := .host } 256,
  .svcAttach { path := .remote, node := 2 ^ 17 } 0,
  .svcAttach { path := .host } 4096,
  .svcDetach { path := .remote, node := 2 ^ 17 } 0,
  .svcDetach { path := .host } 4096,
  .svcConst { path := .remote, node := 2 ^ 17 } 0,
  .svcConst { path := .host } 4096,
  .svcSeal { path := .remote, node := 2 ^ 17 } 0,
  .svcSeal { path := .host } 256,
  .svcUnseal { path := .remote, node := 2 ^ 17 } 0,
  .svcUnseal { path := .host } 256,
  .svcTableSet { path := .remote, node := 2 ^ 17 } 0,
  .svcTableSet { path := .host } 64,
  .svcTableClr { path := .remote, node := 2 ^ 17 } 0,
  .svcTableClr { path := .host } 64,
  .programChunkDone 4096 0 0,
  .programChunkDone 0 0 64,
  .memRd (2 ^ 52) 0,
  .memRd 0 4,
  .memInv (2 ^ 52),
  .memWr (2 ^ 52) 0 (List.replicate 64 0),
  .memWr 0 18446744073709551616 (List.replicate 64 0),
  .memWr 0 0 [],
  .memClnEvct (2 ^ 52),
  .memSpecRd (2 ^ 52),
  .biRsp (2 ^ 52) true,
  .biConflict (2 ^ 52),
  .invSubmit [],
  .invalAckReceive { dst := 2 ^ 17 },
  .hdmCommit 32 0 0 0 0 true,
  .hdmCommit 0 0 (2 ^ 52) 0 0 true,
  .tspSetConfig 65536,
  .setEventInterruptPolicy 4294967296,
  .setTimestamp 18446744073709551616] : List Instr).all (fun i => !i.wf) = true := by decide +kernel

/-- Each of these commands carries one operand out of range and is refused. -/
theorem test_wf_refuses_8 : ([
  .cxdDeviceDetect 2 0 0 0 true 0 0,
  .cxdDeviceDetect 0 5 0 0 true 0 0,
  .cxdRestart .host 2,
  .dctBegin .host 128,
  .sigStart .host 2,
  .sigSubmit .host 2,
  .bindingSetReceive 8 0 0 [] 0 (List.replicate 64 0),
  .bindingSetReceive 0 65536 0 [] 0 (List.replicate 64 0),
  .bindingSetReceive 0 0 0 [] 0 [],
  .bindingAckReceive 128,
  .bindingResendTimer 128,
  .spdmGetVersion .sw 144,
  .spdmGetCapabilities .sw 144,
  .spdmNegotiateAlgorithms .sw 144,
  .spdmGetDigests .sw 144,
  .spdmGetCertificate .sw 144 0 0 0,
  .spdmGetCertificate .sw 0 8 0 0,
  .spdmChallenge .sw 144 0 [],
  .spdmChallenge .sw 0 8 [],
  .spdmGetMeasurements .sw 144 0 true [],
  .spdmKeyExchange .sw 144 [],
  .spdmFinish .sw 144 true,
  .spdmEndSession .sw 144,
  .spdmVendorDefined .sw 144 none,
  .spdmRefusedRequest .sw 144,
  .watchdogExpiry 4,
  .wdtPet 4 0,
  .wdtPet 0 16,
  .coreRestartDone 4,
  .pldmFwUpdate 4294967296,
  .hbBeat .host 4294967296,
  .i3cAddressAssign 128,
  .sbRegisterAccess true 4096 0 0 0,
  .pageEnableWrite .host .sw 4096 0,
  .pageEnableWrite .host .sw 0 2,
  .pageSoftReset .host .sw 4096,
  .softResetDone .sw 4096,
  .pageFence .host .sw 4096,
  .intForceWrite .host .sw 4096 0,
  .errCountWrite .host .sw 4096 0] : List Instr).all (fun i => !i.wf) = true := by decide +kernel

/-- Each of these commands carries one operand out of range and is refused. -/
theorem test_wf_refuses_9 : ([
  .registerWrite { path := .remote, node := 2 ^ 17 } .sw 0 0 0 0,
  .registerWrite { path := .host } .sw 4096 0 0 0,
  .tableEccFatal 4096,
  .patternCheckerLock .sw 128 0,
  .patternCheckerLock .ep 8 0,
  .patternCheckerLock .sw 0 16,
  .rekeyCtrlReceive .sw 128,
  .rekeyCtrlReceive .ep 8,
  .ucieDegrade 9 0,
  .ucieDegrade 0 4,
  .congestionNoticeInterval .sw 131072 0,
  .congestionNoticeInterval .sw 0 8] : List Instr).all (fun i => !i.wf) = true := by decide +kernel

/-- The same commands with that operand in range are accepted. -/
theorem test_wf_accepts_1 : ([
  .endpointStartupStepDone 0,
  .pwrCapChange 0,
  .powerControlSample .sw 0,
  .hbmStackThrottle 0 0,
  .tackupDetectProbe .sw 0 0 none,
  .tackupPreambleTmo .sw 0,
  .laneEqPass .sw 0 0 0 true 0 0,
  .eqTimerExpiry .sw 0,
  .flitLock .sw 0,
  .lockTmo .sw 0,
  .capReceive .sw 0 { credits := List.replicate 14 0 },
  .refuseReceive .sw 0 0,
  .pingReceive .sw 0 0,
  .pongReceive .sw 0 0,
  .readyReceive .sw 0,
  .capxTmo .sw 0,
  .tackRetryTimer .sw 0,
  .partnerRedetect .sw 0 0,
  .fptRestart .host .sw 0,
  .fptRetrain .host .sw 0,
  .fptDisable .host .sw 0 0,
  .retrainSetReceive .sw 0,
  .retrainComplete .sw 0 0,
  .retrainTimeout .sw 0,
  .retrainBitlockTmo .sw 0,
  .shedWindowExpiry .sw 0,
  .laneLockLoss .sw 0 0,
  .shedReceive .sw 0 0 0,
  .shedAckReceive .sw 0 0 0,
  .shedGoReceive .sw 0,
  .fifoSlip .sw 0,
  .signalLoss .sw 0,
  .flitReceive .sw 0 (List.replicate 272 0),
  .nakReceive .sw 0 0,
  .replayTimerExpiry .sw 0,
  .groupClose .sw 0,
  .sealReceive .sw 0 0 (List.replicate 16 0) ⟨0, 0⟩,
  .kexInitReceive .sw 0 { nonce := List.replicate 32 0 },
  .kexRespReceive .sw 0 { nonce := List.replicate 32 0 },
  .kexTimeout .sw 0] : List Instr).all (fun i => i.wf) = true := by decide +kernel

/-- The same commands with that operand in range are accepted. -/
theorem test_wf_accepts_2 : ([
  .rekeyRequest .host .sw 0,
  .rekeySoftPoint .sw 0,
  .keyExhausted .sw 0,
  .switchPacketArrival 0 {},
  .congNoticeReceive {},
  .combineWindowExpiry 0 0,
  .combineIssue 0 0,
  .outcomeRecordExpiry 0 0,
  .outcomeReleaseReceive .sw {},
  .pmapWrite .host 1 0,
  .drainProbeReceive 0 {},
  .probeAnswer 0 0,
  .probeAckReceive {},
  .flipSettleExpiry 0,
  .routeDownReceive {},
  .routeUpReceive {},
  .portActiveReceive 0,
  .partnerIdentityVerified .sw 0 true (List.replicate 64 0),
  .rtePortDisable .host 0,
  .cgtEnableWrite .host 0,
  .relayPacket none {},
  .memReq 0 0 0 0 0 [] true true,
  .doorbell 0 0,
  .csr true 0 0 0 0,
  .accCpl 0 0 [],
  .ucieUp 0 0,
  .qTailWrite .host 0,
  .descriptorFetch 0 (List.replicate 8 0),
  .descriptorFetchFail 0,
  .cmdNop 0,
  .cmdGet 0,
  .cmdPut 0,
  .cmdAtomic 0,
  .cmdSyncAdd 0,
  .cmdSyncSet 0,
  .cmdSyncRead 0,
  .cmdSyncWait 0,
  .cmdSyncSetClear 0,
  .cmdHerd 0 (List.replicate 8 0) 0 0 0 [] ⟨true, true⟩,
  .cmdGather 0] : List Instr).all (fun i => i.wf) = true := by decide +kernel

/-- The same commands with that operand in range are accepted. -/
theorem test_wf_accepts_3 : ([
  .cmdScatterAdd 0,
  .cmdKstart 0,
  .cmdKend 0,
  .localWaitTmo 0,
  .commandComplete 0,
  .answerReceive {},
  .gatherRowReceive {},
  .resendTimer 0,
  .requestTimeout 0,
  .tagHoldExpiry 0,
  .outcomeReleaseSend 0 0,
  .ddpRecordExpiry 0 0,
  .bridleIncrease 0,
  .windowRequest {},
  .apValidSet .host 0 0,
  .apValidClear .host 0 0,
  .tableReadComplete {},
  .invalReceive {},
  .rangeValidSet .host 0 0,
  .epcNodeIdWrite .host 0,
  .syncAdd .sw 0 {},
  .syncSet .sw 0 {},
  .syncSetClear .sw 0 {},
  .syncRead .sw 0 {},
  .syncWait .sw 0 {},
  .syncWaitTimeout .sw 0 0,
  .poolRead {} [],
  .poolWrite {} [],
  .poolAtomic {} [],
  .readShared {},
  .readOwn {},
  .upgrade {},
  .writeback {},
  .cleanEvict {},
  .snoopReceive {},
  .snpRspReceive {},
  .snoopTimeout 0,
  .drainEnd 0,
  .scrubGranuleDone 0,
  .hbmStackLost 0] : List Instr).all (fun i => i.wf) = true := by decide +kernel

/-- The same commands with that operand in range are accepted. -/
theorem test_wf_accepts_4 : ([
  .bulkPortDown 0,
  .bulkPortUp 0 0 0,
  .prefetchHint {} true,
  .gatherRequest {},
  .scatterAddRequest {},
  .ctlRead .sw {},
  .ctlWrite .sw {},
  .coreResidueFault 0 true none,
  .rdcFenceWrite .host 0,
  .rdcReadmitWrite .host 0,
  .rdcSelftestWrite .host 0,
  .selftestComplete 0 true 0,
  .hrdClaimRead { path := .host },
  .herdCreate { path := .host } 0,
  .herdDestroy { path := .host } 0,
  .herdAbortCmd { path := .host } 0,
  .herdSwapCmd { path := .host } 0 0 0 true,
  .herdContrib {},
  .herdPartial {},
  .herdResult .sw {},
  .herdJoin {},
  .herdCounts .sw {},
  .herdRecord {},
  .chunkReduced 0 0 0,
  .herdSignalReceive {},
  .herdCplReceive .sw {},
  .herdAbortReceive .sw {},
  .herdSwapReceive {},
  .herdAckReceive {},
  .herdTimerExpiry 0,
  .abortingTimeout 0,
  .svcClaimRead { path := .host },
  .svcLoad { path := .host } 0,
  .svcUnload { path := .host } 0,
  .svcAttach { path := .host } 0,
  .svcDetach { path := .host } 0,
  .svcConst { path := .host } 0,
  .svcSeal { path := .host } 0,
  .svcUnseal { path := .host } 0,
  .svcTableSet { path := .host } 0] : List Instr).all (fun i => i.wf) = true := by decide +kernel

/-- The same commands with that operand in range are accepted. -/
theorem test_wf_accepts_5 : ([
  .svcTableClr { path := .host } 0,
  .programChunkDone 0 0 0,
  .memRd 0 0,
  .memInv 0,
  .memWr 0 0 (List.replicate 64 0),
  .memClnEvct 0,
  .memSpecRd 0,
  .biRsp 0 true,
  .biConflict 0,
  .invSubmit (List.replicate 32 0),
  .invalAckReceive {},
  .hdmCommit 0 0 0 0 0 true,
  .tspSetConfig 0,
  .setEventInterruptPolicy 0,
  .setTimestamp 0,
  .cxdDeviceDetect 0 0 0 0 true 0 0,
  .cxdRestart .host 0,
  .dctBegin .host 0,
  .sigStart .host 0,
  .sigSubmit .host 0,
  .bindingSetReceive 0 0 0 [] 0 (List.replicate 64 0),
  .bindingAckReceive 0,
  .bindingResendTimer 0,
  .spdmGetVersion .sw 0,
  .spdmGetCapabilities .sw 0,
  .spdmNegotiateAlgorithms .sw 0,
  .spdmGetDigests .sw 0,
  .spdmGetCertificate .sw 0 0 0 0,
  .spdmChallenge .sw 0 0 [],
  .spdmGetMeasurements .sw 0 0 true [],
  .spdmKeyExchange .sw 0 [],
  .spdmFinish .sw 0 true,
  .spdmEndSession .sw 0,
  .spdmVendorDefined .sw 0 none,
  .spdmRefusedRequest .sw 0,
  .watchdogExpiry 0,
  .wdtPet 0 0,
  .coreRestartDone 0,
  .pldmFwUpdate 0,
  .hbBeat .host 0] : List Instr).all (fun i => i.wf) = true := by decide +kernel

/-- The same commands with that operand in range are accepted. -/
theorem test_wf_accepts_6 : ([
  .i3cAddressAssign 0,
  .sbRegisterAccess true 0 0 0 0,
  .pageEnableWrite .host .sw 0 0,
  .pageSoftReset .host .sw 0,
  .softResetDone .sw 0,
  .pageFence .host .sw 0,
  .intForceWrite .host .sw 0 0,
  .errCountWrite .host .sw 0 0,
  .registerWrite { path := .host } .sw 0 0 0 0,
  .tableEccFatal 0,
  .patternCheckerLock .sw 0 0,
  .rekeyCtrlReceive .sw 0,
  .ucieDegrade 0 0,
  .congestionNoticeInterval .sw 0 0] : List Instr).all (fun i => i.wf) = true := by decide +kernel

/-- A packet with any one field out of its width is refused. -/
theorem test_wf_packet : ([
  { dst := 2 ^ 17 },
  { src := 2 ^ 17 },
  { tc := 8 },
  { op := 256 },
  { tag := 2 ^ 16 },
  { len := 2 ^ 13 },
  { ctx := 1024 },
  { ptn := 64 },
  { scope := 4 },
  { colour := 4 },
  { status := 256 },
  { aux := 2 ^ 32 },
  { rsv := 2 ^ 20 },
  { payload := [0] }] : List Packet).all (fun k => !k.wf) = true ∧ ({ len := 1, payload := [0] } : Packet).wf = true := by decide +kernel

/-- A CAP message with any one field out of its width, an origin out of range and a nonce of the wrong length are refused. -/
theorem test_wf_parts : ([
  { kind := 8, credits := List.replicate 14 0 },
  { axis := 4, credits := List.replicate 14 0 },
  { plane := 2, credits := List.replicate 14 0 },
  { nodeId := 2 ^ 17, credits := List.replicate 14 0 },
  { switchId := 2 ^ 16, credits := List.replicate 14 0 },
  { port := 128, credits := List.replicate 14 0 },
  { lanesGood := 2 ^ 16, credits := List.replicate 14 0 },
  { rates := 8, credits := List.replicate 14 0 },
  { trained := 4, credits := List.replicate 14 0 },
  { credits := List.replicate 13 0 }] : List CapMsg).all (fun m => !m.wf) = true ∧ ({ path := .host, node := 2 ^ 17 } : Origin).wf = false ∧
  ({ path := .host, ctx := 1024 } : Origin).wf = false ∧ ({ nonce := List.replicate 31 0 } : KexMsg).wf = false := by decide +kernel

/-! ### Worked examples of the spec -/

/-- A window armed at tick 1,000,000 for 2 ms: 1,349,999 is its last tick (00_scope.md, the depot-volume forecast job). -/
theorem test_window_last_tick :
    (up.onChip .sw fun c => { c with ltc := 1349999 }).due .sw 1000000 350000 = false ∧
    (up.onChip .sw fun c => { c with ltc := 1350000 }).due .sw 1000000 350000 = true := by decide +kernel

/-- The landing endpoint of the route solver's read is (3.10.21) (01_fabric_shape.md, R31). -/
theorem test_landing : nodeOf 3 10 5 = 0x1945 ∧ landing 0xA075 0x1945 = 0x1955 ∧ nodeOf 7 40 21 = 0x3D15 := by decide +kernel

/-- The fabric addresses of the row read and of the result write (02_addresses_and_windows.md, R41). -/
theorem test_fabric_addresses :
    poolAddr 0xA075 5 (0x40000000 + 3000000 * 1024) = 0x681D4500F71B0000 ∧
    placeOf 0x681D4500F71B0000 = .pool 0xA075 5 0xF71B0000 ∧
    placeOf 0x07A2A0C200001000 = .window 0x3D15 12 0x200001000 ∧
    placeOf 0x819450000010B318 = .control 0 0x1945 0 0x10B318 := by decide +kernel

/-- The header words of the route solver's read and its first wire bytes (10_link_layer.md, R293). -/
theorem test_header_words :
    let k : Packet := { dst := 0x1955, src := 0x1945, op := opREAD, tag := 0x0123, addr := 0x681D4500F71B0000, len := 0x400, ctx := 37, ptn := 5 }
    (headerBytes k).take 8 = [0x55, 0x19, 0x8A, 0x32, 0x20, 0x60, 0x24, 0x00] ∧
    natAt (headerBytes k) 0 8 = 0x00246020328A1955 ∧ natAt (headerBytes k) 16 8 = 0x000000000284A400 := by decide +kernel

/-- FETCH_ADDs of 5, 7 and 9 on a counter of 100, combined in that order, give 100, 105 and 112 and leave 121 (03_memory_model.md). -/
theorem test_combined_adds :
    let k (n : Byte) : Member := ⟨{ op := opFETCH_ADD, len := 8, payload := [n, 0, 0, 0, 0, 0, 0, 0] }, .fabric, 0⟩
    let g := groupAtomic { id := 0, kind := .atomic, ptn := 0, off := 0, len := 8, members := [k 5, k 7, k 9] } 100
    g.1 = 121 ∧ g.2.map (·.2.1) = [leBytes 8 100, leBytes 8 105, leBytes 8 112] := by decide +kernel

/-- FADDs of 3.0 to the FP32 value 100,000,000: one after another they leave it, their combined operand 6.0 gives 100,000,008 (03_memory_model.md, R96). -/
theorem test_fadd_combined :
    atomicNew opFADD_FP32 4 0x4CBEBC20 0x40400000 0 = 0x4CBEBC20 ∧ atomicNew opFADD_FP32 4 0x4CBEBC20 0x40C00000 0 = 0x4CBEBC21 := by decide +kernel

/-- Offset 0x9A_1234_5680 of a BACKED partition with a share of 256 granules lies in share entry 161 with tag 9 (04_pool_memory.md, R112). -/
theorem test_backed_line :
    let s := (up.wr .sw PTN_ENTRY 1 12).put .sw PTN_ENTRY_SHARE_LOG2 8 12
    let line := 0x9A12345680 / 128
    line / 2 ^ 21 = 2465 ∧ line / 2 ^ 21 % 2 ^ s.get .sw PTN_ENTRY_SHARE_LOG2 12 = 161 ∧ s.lineTag 11 line = 9 ∧
    line % 2 ^ 21 * 128 = 0x2345680 := by decide +kernel

/-- The decoding examples of 05_reduction_arithmetic.md (R152, R153). -/
theorem test_decode_examples :
    fpEncode fp32 (fpDecode (fmtFp 0x08) 0x4B) = 0x40B00000 ∧ fpEncode fp32 (fpDecode (fmtFp 0x09) 0x83) = 0xB8400000 ∧
    fpEncode fp32 (roundFp fp32 false none (mxDecode 0x14 0x7C 0x7).1).v = 0x3F400000 ∧
    fpEncode fp32 (roundFp fp32 false none (mxDecode 0x15 0x81 0xC0).1).v = 0xC0800000 := by decide +kernel

/-- 2^24, 1, 1 and -2^24 in BF16 add up to 1.0 in the order of the tree (05_reduction_arithmetic.md, R156). -/
theorem test_tree_order :
    let m : ArithMode := ⟨0x0B, 0x0B, 0, false, false, false⟩
    (m.resultOf ⟨0x0B, false, none⟩ 0 (m.stage true 1 4 [some ([0x80, 0x4B], 0), some ([0x80, 0x3F], 0), some ([0x80, 0x3F], 0), some ([0x80, 0xCB], 0)])).1
      = [0x80, 0x3F] := by decide +kernel

/-- 700, 3.0 and -21 × 2^-11 in an MXFP8 block give scale 0x80 and elements 0x7B, 0x3C and 0x83 (05_reduction_arithmetic.md, R163). -/
theorem test_mx_block :
    let b := mxEncodeBlock 0x10 ([(.fin false 700 0, none), (.fin false 3 0, none), (.fin true 21 (-11), none)] ++ List.replicate 29 (.fin false 0 0, none))
    b.1 = 0x80 ∧ b.2.1.take 4 = [0x7B, 0x3C, 0x83, 0] := by decide +kernel

/-- Half-way between BF16 0x3F80 and 0x3F81: RNE gives the even one, SR follows bit 31 of its word (05_reduction_arithmetic.md, R164). -/
theorem test_stochastic_rounding :
    let v := fpDecode fp32 0x3F808000
    fpEncode bf16 (roundFp bf16 false none v).v = 0x3F80 ∧ fpEncode bf16 (roundFp bf16 false (some 0x80000000) v).v = 0x3F81 ∧
    fpEncode bf16 (roundFp bf16 false (some 0x7FFFFFFF) v).v = 0x3F80 := by decide +kernel

/-- 32 slots of INT8 100 sum to 3,200 and are output as 127 with SATURATE (05_reduction_arithmetic.md, R168). -/
theorem test_int_sum_saturates :
    let m : ArithMode := ⟨0, 0, 0, false, false, false⟩
    m.resultOf ⟨0, false, none⟩ 0 (m.stage true 1 32 (List.replicate 32 (some ([100], 0)))) = ([127], fSATURATE) := by decide +kernel

/-- The grants of ranks 0, 1 and 2 for rank 9 with CAP 100 are 40, 50 and 10 (06_herds.md, R199). -/
theorem test_grants : grantOf 100 40 0 = 40 ∧ grantOf 100 50 40 = 50 ∧ grantOf 100 30 90 = 10 := by decide +kernel

/-- P_NOM of a switch that runs eight of its ports, 128 lanes, in LONG reach is 1,038.4 W (19_package_electrical.md, R480). -/
theorem test_rated_power :
    let s := (up.wr .sw GLB_LAYOUT 0).onChip .sw fun c => { c with ports := (List.range 8).map fun n => (n, { cfg := setBits 0 FPT_CFG_REACH.lo FPT_CFG_REACH.w 1 }) }
    ((List.range 8).foldl (fun s n => (s.put .sw FPT_STS_LANES 0xFFFF 0 n).put .sw FPT_STS_STAGE 5 0 n) s).pNom = 10384 := by decide +kernel

/-- Register places: PAGE_STS of fabric port 5 is at 0x20500C of the switch, SYM_CE of lane 45 of an endpoint at 0x10B318, in sub-page 1 of quad 11 (00_scope.md, 18_register_pages.md). -/
theorem test_register_places :
    (placeAt .sw 0x205 0x0C).map (fun l => (l.desc.reg, l.inst)) = some (HDR_PAGE_STS, 0x205) ∧
    (placeAt .ep 0x10B 0x318).map (fun l => (l.desc.reg, l.inst, l.shift)) = some (QAD_LANE_SYM_CE, 11, 0x100) := by decide +kernel

/-- The identification registers read what R512 gives. -/
theorem test_identification : State.reset.rd .sw GLB_ID = 0x00100512 ∧ State.reset.rd .ep GLB_ID = 0x00010064 := by decide +kernel

/-! ### Conditions of the statements -/

/-- Something meets the conditions of each clause of `ResetRowsComplete`. -/
theorem witness_ResetRowsComplete :
    (∃ (p : Part) (samples : List Nat) (s : State), ((s.chip p).mainUp = true) ∧ ((s.chip p).inReset = true) ∧ ((s.chip p).tripLow = false) ∧ ((s.chip p).tap.drives = false)) ∧
    (∃ (samples : List Nat) (s : State), (s.swc.mainUp = true) ∧ (s.swc.inReset = true) ∧ (s.swc.tripLow = false) ∧ (s.swc.tap.drives = false) ∧ (allAgree samples = true)) ∧
    (∃ (p : Part) (samples : List Nat) (s : State), ((s.chip p).standbyUp = false)) ∧
    (∃ (samples : List Nat) (s : State), (s.swc.standbyUp = false)) ∧
    (∃ (p : Part) (s : State), ((s.chip p).mainUp = false) ∧ ((s.chip p).standbyUp = true)) ∧
    (∃ (p : Part) (s : State), ((s.chip p).mainUp = true)) ∧
    (∃ (p : Part) (s : State), ((s.chip p).mainUp = false) ∧ ((s.chip p).standbyUp = true)) ∧
    (∃ (bad : List Nat) (imageOk : Bool) (s : State), (s.swc.inReset = false) ∧ (s.swc.step = 3)) ∧
    (∃ (bad : List Nat) (imageOk : Bool) (s : State), (s.swc.inReset = false) ∧ (s.swc.step = 4)) ∧
    (∃ (bad : List Nat) (imageOk : Bool) (s : State), (s.swc.inReset = false) ∧ (s.swc.step = 8)) ∧
    (∃ (modules : Nat) (s : State), (s.epc.inReset = false) ∧ (s.epc.step = 1)) ∧
    (∃ (p : Part) (ns : Nat) (s : State), (1000 ≤ ns) ∧ ((s.chip p).mainUp = true)) ∧
    (∃ (s : State), (s.writeOpen .sideband .sw pgRst 0x40 = true)) ∧
    (∃ (path : Path) (s : State), (s.writeOpen path .sw pgRst 0x40 = true) ∧ (s.swc.inReset = false)) ∧
    (∃ (path : Path) (s : State), (s.writeOpen path .sw pgRst 0x40 = true) ∧ (s.swc.inReset = false)) ∧
    (∃ (path : Path) (s : State), (s.writeOpen path .ep pgPwr 0x80 = true) ∧ (s.epc.inReset = false)) ∧
    (∃ (path : Path) (s : State), (s.writeOpen path .ep pgPwr 0x80 = true) ∧ (s.epc.inReset = false)) :=
  ⟨⟨.sw, [1, 1, 1], State.reset, by first | decide +kernel | rfl, by first | decide +kernel | rfl, by first | decide +kernel | rfl, by first | decide +kernel | rfl⟩,
   ⟨[3, 3, 3], State.reset, by first | decide +kernel | rfl, by first | decide +kernel | rfl, by first | decide +kernel | rfl, by first | decide +kernel | rfl, by first | decide +kernel | rfl⟩,
   ⟨.sw, [], State.reset.onChip .sw fun c => { c with standbyUp := false }, by first | decide +kernel | rfl⟩,
   ⟨[7, 7, 7], State.reset.onChip .sw fun c => { c with standbyUp := false }, by first | decide +kernel | rfl⟩,
   ⟨.sw, State.reset.onChip .sw fun c => { c with mainUp := false }, by first | decide +kernel | rfl, by first | decide +kernel | rfl⟩,
   ⟨.sw, State.reset, by first | decide +kernel | rfl⟩,
   ⟨.sw, State.reset.onChip .sw fun c => { c with mainUp := false }, by first | decide +kernel | rfl, by first | decide +kernel | rfl⟩,
   ⟨[], true, up.onChip .sw fun c => { c with step := 3 }, by first | decide +kernel | rfl, by first | decide +kernel | rfl⟩,
   ⟨[], true, up.onChip .sw fun c => { c with step := 4 }, by first | decide +kernel | rfl, by first | decide +kernel | rfl⟩,
   ⟨[5], true, up.onChip .sw fun c => { c with step := 8 }, by first | decide +kernel | rfl, by first | decide +kernel | rfl⟩,
   ⟨0, up.onChip .ep fun c => { c with step := 1 }, by first | decide +kernel | rfl, by first | decide +kernel | rfl⟩,
   ⟨.sw, 1000, up, by first | decide +kernel | rfl, by first | decide +kernel | rfl⟩,
   ⟨up, by first | decide +kernel | rfl⟩,
   ⟨.host, up, by first | decide +kernel | rfl, by first | decide +kernel | rfl⟩,
   ⟨.host, up, by first | decide +kernel | rfl, by first | decide +kernel | rfl⟩,
   ⟨.csr, up, by first | decide +kernel | rfl, by first | decide +kernel | rfl⟩,
   ⟨.csr, up, by first | decide +kernel | rfl, by first | decide +kernel | rfl⟩⟩

/-- Something meets the conditions of each clause of `ClockRowsComplete`. -/
theorem witness_ClockRowsComplete :
    (∃ (p : Part) (s : State), ((s.chip p).inReset = false) ∧ ((s.chip p).holdover = none)) ∧
    (∃ (p : Part) (ppm : Nat) (u : Nat) (s : State), ((s.chip p).holdover = some u) ∧ (s.due p u 17500 = false)) ∧
    (∃ (p : Part) (u : Nat) (s : State), ((s.chip p).inReset = false) ∧ ((s.chip p).holdover = some u) ∧ (s.due p u 17500 = true)) ∧
    (∃ (p : Part) (s : State), ((s.chip p).inReset = false)) ∧
    (∃ (page : Nat) (s : State), (s.swc.inReset = false) ∧ (page ∈ [pgDir, pgPtn, pgCtx, pgRte, pgHrd])) ∧
    (∃ (s : State), (s.swc.inReset = false)) ∧
    (∃ (p : Part) (samples : List Nat) (s : State), ((s.chip p).startHeld = false)) ∧
    (∃ (p : Part) (samples : List Nat) (s : State), ((s.chip p).startHeld = false)) ∧
    (∃ (p : Part) (samples : List Nat) (s : State), ((s.chip p).startHeld = false) ∧ (s.get p SEC_STS_LIFECYCLE ≠ 0)) ∧
    (∃ (x : Word) (s : State), (s.writeOpen .sideband .sw pgGlb 0x58 = true) ∧ (s.swc.step < 10) ∧ (x.getLsbD 11 = false)) ∧
    (∃ (x : Word) (s : State), (s.writeOpen .sideband .sw pgGlb 0x60 = true)) ∧
    (∃ (p : Part) (n : Nat) (s : State), (s.stage p n = 4) ∧ (s.due p (s.port p n).timer 35000 = true)) ∧
    (∃ (p : Part) (n : Nat) (s : State), (s.stage p n = 0) ∧ ((s.port p n).attempts ≠ 0) ∧ (s.due p (s.port p n).timer 175000000 = true) ∧ (s.mayTack p n = true) ∧ (s.get p FPT_CTL_LPBK 0 n = 0)) ∧
    (∃ (p : Part) (n : Nat) (absent : Nat) (s : State), (s.stage p n = 6) ∧ (1750 ≤ absent) ∧ (s.mayTack p n = true) ∧ (s.get p FPT_CTL_LPBK 0 n = 0)) ∧
    (∃ (path : Path) (p : Part) (n : Nat) (s : State), (s.writeOpen path p (pgFpt + n) 0x48 = true) ∧ (s.stage p n = 0) ∧ (s.mayTack p n = true) ∧ (s.get p FPT_CTL_LPBK 0 n = 0)) ∧
    (∃ (path : Path) (p : Part) (n : Nat) (s : State), (s.writeOpen path p (pgFpt + n) 0x48 = true) ∧ (s.stage p n = 0)) ∧
    (∃ (path : Path) (n : Nat) (s : State), (s.writeOpen path .sw (pgFpt + n) 0x48 = true) ∧ (0 < s.stage .sw n)) ∧
    (∃ (path : Path) (p : Part) (n : Nat) (s : State), (s.writeOpen path p (pgFpt + n) 0x48 = true) ∧ (s.stage p n = 5) ∧ (s.flag p FPT_STS_RETRAINING 0 n = false) ∧ ((s.port p n).shed = none)) :=
  ⟨⟨.sw, up, by first | decide +kernel | rfl, by first | decide +kernel | rfl⟩,
   ⟨.sw, 20, 0, up.onChip .sw fun c => { c with holdover := some 0, ltc := 17499 }, by first | decide +kernel | rfl, by first | decide +kernel | rfl⟩,
   ⟨.sw, 0, up.onChip .sw fun c => { c with holdover := some 0, ltc := 17500 }, by first | decide +kernel | rfl, by first | decide +kernel | rfl, by first | decide +kernel | rfl⟩,
   ⟨.sw, up, by first | decide +kernel | rfl⟩,
   ⟨pgRte, up, by first | decide +kernel | rfl, by first | decide +kernel | rfl⟩,
   ⟨up, by first | decide +kernel | rfl⟩,
   ⟨.sw, [], up, by first | decide +kernel | rfl⟩,
   ⟨.sw, [], up, by first | decide +kernel | rfl⟩,
   ⟨.sw, [], up, by first | decide +kernel | rfl, by first | decide +kernel | rfl⟩,
   ⟨0x7FF, up.onChip .sw fun c => { c with step := 9 }, by first | decide +kernel | rfl, by first | decide +kernel | rfl, by first | decide +kernel | rfl⟩,
   ⟨1, up, by first | decide +kernel | rfl⟩,
   ⟨.ep, 0, (up.onChip .ep fun c => { c with ltc := 35000 }).put .ep FPT_STS_STAGE 4, by first | decide +kernel | rfl, by first | decide +kernel | rfl⟩,
   ⟨.ep, 0, (up.onChip .ep fun c => { c with ltc := 175000000 }).onPort .ep 0 fun pt => { pt with attempts := 3 }, by first | decide +kernel | rfl, by first | decide +kernel | rfl, by first | decide +kernel | rfl, by first | decide +kernel | rfl, by first | decide +kernel | rfl⟩,
   ⟨.ep, 0, 1750, up.put .ep FPT_STS_STAGE 6, by first | decide +kernel | rfl, by first | decide +kernel | rfl, by first | decide +kernel | rfl, by first | decide +kernel | rfl⟩,
   ⟨.csr, .ep, 0, up, by first | decide +kernel | rfl, by first | decide +kernel | rfl, by first | decide +kernel | rfl, by first | decide +kernel | rfl⟩,
   ⟨.csr, .ep, 0, up, by first | decide +kernel | rfl, by first | decide +kernel | rfl⟩,
   ⟨.host, 3, up.put .sw FPT_STS_STAGE 1 0 3, by first | decide +kernel | rfl, by first | decide +kernel | rfl⟩,
   ⟨.csr, .ep, 0, up.put .ep FPT_STS_STAGE 5, by first | decide +kernel | rfl, by first | decide +kernel | rfl, by first | decide +kernel | rfl, by first | decide +kernel | rfl⟩⟩

/-- Something meets the conditions of each clause of `PowerRowsComplete`. -/
theorem witness_PowerRowsComplete :
    (∃ (s : State), (s.powered = true)) ∧
    (∃ (s : State), (s.powered = true)) ∧
    (∃ (s : State), (s.powered = true) ∧ (s.flag .sw PWR_STS_THERM_ALERT = false)) ∧
    (∃ (s : State), (s.powered = true)) ∧
    (∃ (u : Nat) (s : State), (s.powered = true) ∧ (s.sw.core.thermFrom = some u) ∧ (s.flag .sw PWR_STS_THERM_ALERT = true) ∧ (s.due .sw u (s.get .sw PWR_THERM_CFG_P3_DELAY) = true)) ∧
    (∃ (cap : Nat) (s : State), (s.powered = true) ∧ (cap < 4)) ∧
    (∃ (path : Path) (x : Word) (s : State), (s.writeOpen path .sw pgPwr 0x50 = true) ∧ (s.powered = true)) ∧
    (∃ (u : Nat) (s : State), (s.powered = true) ∧ (s.sw.core.holdFrom = some u) ∧ (0 < s.get .sw PWR_STS_LEVEL) ∧ (s.due .sw u (s.get .sw PWR_HOLD_TICKS) = true)) ∧
    (∃ (watts : Nat) (s : State), (watts < 65536)) ∧
    (∃ (watts : Nat) (s : State), (watts < 65536) ∧ (s.powered = true)) ∧
    (∃ (temps : List Nat) (s : State), (s.epc.inReset = false) ∧ ((hottest (temps.take 4)).1 < 120)) ∧
    (∃ (p : Part) (temps : List Nat) (s : State), ((s.chip p).inReset = false) ∧ (120 ≤ (hottest (temps.take 4)).1)) ∧
    (∃ (n : Nat) (celsius : Nat) (s : State), (n < 6) ∧ (celsius < 256)) ∧
    (∃ (path : Path) (s : State), (s.writeOpen path .sw pgCgt 0x40 = true) ∧ (s.flag .sw CGT_CTL_ENABLE = true)) ∧
    (∃ (path : Path) (b : Nat) (s : State), (s.writeOpen path .sw pgCgt 0x40 = true) ∧ (s.flag .sw CGT_CTL_ENABLE = false)) ∧
    (∃ (s : State), (s.flag .sw CGT_CTL_ENABLE = true) ∧ (s.due .sw s.sw.core.liveOpen (s.get .sw CGT_WIN_LEN_TICKS) = true) ∧ (s.flag .sw CGT_PUSH_ENABLE = false)) :=
  ⟨⟨up, by first | decide +kernel | rfl⟩,
   ⟨up.put .sw PWR_STS_PWR_ALERT 1, by first | decide +kernel | rfl⟩,
   ⟨up, by first | decide +kernel | rfl, by first | decide +kernel | rfl⟩,
   ⟨up.put .sw PWR_STS_THERM_ALERT 1, by first | decide +kernel | rfl⟩,
   ⟨0, ((up.put .sw PWR_STS_THERM_ALERT 1).onCore fun c => { c with thermFrom := some 0 }).onChip .sw fun c => { c with ltc := 4000000000 }, by first | decide +kernel | rfl, by first | decide +kernel | rfl, by first | decide +kernel | rfl, by first | decide +kernel | rfl⟩,
   ⟨3, up, by first | decide +kernel | rfl, by first | decide +kernel | rfl⟩,
   ⟨.host, 3, up, by first | decide +kernel | rfl, by first | decide +kernel | rfl⟩,
   ⟨0, ((up.put .sw PWR_STS_LEVEL 3).onCore fun c => { c with holdFrom := some 0 }).onChip .sw fun c => { c with ltc := 4000000000 }, by first | decide +kernel | rfl, by first | decide +kernel | rfl, by first | decide +kernel | rfl, by first | decide +kernel | rfl⟩,
   ⟨65535, up, by first | decide +kernel | rfl⟩,
   ⟨1200, up.put .sw PWR_STS_LEVEL 3, by first | decide +kernel | rfl, by first | decide +kernel | rfl⟩,
   ⟨[40, 119], up, by first | decide +kernel | rfl, by first | decide +kernel | rfl⟩,
   ⟨.sw, [120], up, by first | decide +kernel | rfl, by first | decide +kernel | rfl⟩,
   ⟨5, 95, up, by first | decide +kernel | rfl, by first | decide +kernel | rfl⟩,
   ⟨.host, up.put .sw CGT_CTL_ENABLE 1, by first | decide +kernel | rfl, by first | decide +kernel | rfl⟩,
   ⟨.host, 9, up.put .sw CGT_HIST_TICKS 4 9, by first | decide +kernel | rfl, by first | decide +kernel | rfl⟩,
   ⟨(up.put .sw CGT_CTL_ENABLE 1).onChip .sw fun c => { c with ltc := 4000000000 }, by first | decide +kernel | rfl, by first | decide +kernel | rfl, by first | decide +kernel | rfl⟩⟩

/-- Something meets the conditions of each clause of `TackupRowsComplete`. -/
theorem witness_TackupRowsComplete :
    (∃ (p : Part) (n : Nat) (mask : Nat) (s : State), ((p = .sw → s.cpuUp 0 = true)) ∧ (s.stage p n = 1) ∧ (s.due p (s.port p n).timer 1750 = true) ∧ (s.minLanes p n ≤ popCount 16 (mask &&& s.allLanes p n))) ∧
    (∃ (p : Part) (n : Nat) (s : State), (s.stage p n = 2) ∧ ((s.port p n).preamble = true) ∧ (s.due p (s.port p n).timer 17500 = true)) ∧
    (∃ (p : Part) (n : Nat) (lane : Nat) (snr : Nat) (inverted : Bool) (there : Nat) (farMin : Nat) (s : State), (s.stage p n = 2) ∧ ((s.port p n).preamble = false) ∧ (s.due p (s.port p n).timer (s.get p FPT_TMO_EQ 0 n) = false) ∧ ((s.port p n).detected.testBit lane = true) ∧ (136 ≤ snr) ∧ (((s.port p n).passHere ||| 2 ^ lane) &&& ((s.port p n).passThere ||| there) &&& (s.port p n).detected ≠ (s.port p n).detected)) ∧
    (∃ (p : Part) (n : Nat) (s : State), (s.stage p n = 2) ∧ ((s.port p n).preamble = false) ∧ (s.due p (s.port p n).timer (s.get p FPT_TMO_EQ 0 n) = true) ∧ (max (s.minLanes p n) (s.port p n).farMin ≤ popCount 16 ((s.port p n).passHere &&& (s.port p n).passThere))) ∧
    (∃ (p : Part) (n : Nat) (s : State), (s.stage p n = 3) ∧ (s.due p (s.port p n).timer 17500 = false)) ∧
    (∃ (p : Part) (n : Nat) (s : State), (s.stage p n = 3) ∧ (s.due p (s.port p n).timer 17500 = true)) ∧
    (∃ (n : Nat) (m : CapMsg) (own : CapMsg) (s : State), (s.due .sw (s.port .sw n).timer 35000 = false) ∧ (s.stage .sw n = 4) ∧ ((s.port .sw n).capGot = none) ∧ ((s.port .sw n).capSent = some own) ∧ (own.farReq = false) ∧ (m.farReq = false) ∧ (capFault own m false none = none) ∧ ((s.port .sw n).pongs ≠ 16) ∧ ((s.port .sw n).readySent = false)) ∧
    (∃ (n : Nat) (m : CapMsg) (own : CapMsg) (code : Nat) (s : State), (s.due .sw (s.port .sw n).timer 35000 = false) ∧ (s.stage .sw n = 4) ∧ ((s.port .sw n).capGot = none) ∧ ((s.port .sw n).capSent = some own) ∧ (own.farReq = false) ∧ (m.farReq = false) ∧ (capFault own m false none = some code)) ∧
    (∃ (p : Part) (n : Nat) (code : Nat) (s : State), (s.stage p n = 4) ∧ (code < 16)) ∧
    (∃ (p : Part) (n : Nat) (stamp : Nat) (s : State), (s.stage p n = 4)) ∧
    (∃ (p : Part) (n : Nat) (stamp : Nat) (s : State), (s.stage p n = 4) ∧ (s.due p (s.port p n).timer 35000 = false) ∧ ((s.port p n).pongs < 15)) ∧
    (∃ (p : Part) (n : Nat) (s : State), (s.stage p n = 4) ∧ (s.due p (s.port p n).timer 35000 = false) ∧ ((s.port p n).readySent = true) ∧ ((s.port p n).encrypted = false)) :=
  ⟨⟨.ep, 0, 15, (up.onChip .ep fun c => { c with ltc := 1750 }).put .ep FPT_STS_STAGE 1, by first | decide +kernel | rfl, by first | decide +kernel | rfl, by first | decide +kernel | rfl, by first | decide +kernel | rfl⟩,
   ⟨.ep, 0, ((up.onChip .ep fun c => { c with ltc := 17500 }).put .ep FPT_STS_STAGE 2).onPort .ep 0 fun pt => { pt with preamble := true }, by first | decide +kernel | rfl, by first | decide +kernel | rfl, by first | decide +kernel | rfl⟩,
   ⟨.ep, 0, 1, 136, true, 2, 1, (up.put .ep FPT_STS_STAGE 2).onPort .ep 0 fun pt => { pt with detected := 3 }, by first | decide +kernel | rfl, by first | decide +kernel | rfl, by first | decide +kernel | rfl, by first | decide +kernel | rfl, by first | decide +kernel | rfl, by first | decide +kernel | rfl⟩,
   ⟨.ep, 0, ((up.onChip .ep fun c => { c with ltc := 4000000000 }).put .ep FPT_STS_STAGE 2).onPort .ep 0 fun pt => { pt with passHere := 15, passThere := 31, farMin := 1 }, by first | decide +kernel | rfl, by first | decide +kernel | rfl, by first | decide +kernel | rfl, by first | decide +kernel | rfl⟩,
   ⟨.ep, 0, up.put .ep FPT_STS_STAGE 3, by first | decide +kernel | rfl, by first | decide +kernel | rfl⟩,
   ⟨.ep, 0, (up.onChip .ep fun c => { c with ltc := 17500 }).put .ep FPT_STS_STAGE 3, by first | decide +kernel | rfl, by first | decide +kernel | rfl⟩,
   ⟨0, { kind := 0, credits := [1, 2, 3, 4, 5, 6, 7, 8, 9, 10, 11, 12, 13, 14] }, { kind := 2 }, (up.put .sw FPT_STS_STAGE 4).onPort .sw 0 fun pt => { pt with capSent := some { kind := 2 } }, by first | decide +kernel | rfl, by first | decide +kernel | rfl, by first | decide +kernel | rfl, by first | decide +kernel | rfl, by first | decide +kernel | rfl, by first | decide +kernel | rfl, by first | decide +kernel | rfl, by first | decide +kernel | rfl, by first | decide +kernel | rfl⟩,
   ⟨0, { kind := 2 }, { kind := 2 }, 6, (up.put .sw FPT_STS_STAGE 4).onPort .sw 0 fun pt => { pt with capSent := some { kind := 2 } }, by first | decide +kernel | rfl, by first | decide +kernel | rfl, by first | decide +kernel | rfl, by first | decide +kernel | rfl, by first | decide +kernel | rfl, by first | decide +kernel | rfl, by first | decide +kernel | rfl⟩,
   ⟨.ep, 0, 8, up.put .ep FPT_STS_STAGE 4, by first | decide +kernel | rfl, by first | decide +kernel | rfl⟩,
   ⟨.ep, 0, 9, up.put .ep FPT_STS_STAGE 4, by first | decide +kernel | rfl⟩,
   ⟨.ep, 0, 0, (up.put .ep FPT_STS_STAGE 4).onPort .ep 0 fun pt => { pt with pongs := 14 }, by first | decide +kernel | rfl, by first | decide +kernel | rfl, by first | decide +kernel | rfl⟩,
   ⟨.ep, 0, (up.put .ep FPT_STS_STAGE 4).onPort .ep 0 fun pt => { pt with readySent := true }, by first | decide +kernel | rfl, by first | decide +kernel | rfl, by first | decide +kernel | rfl, by first | decide +kernel | rfl⟩⟩

/-- Something meets the conditions of each clause of `LinkUpkeepRowsComplete`. -/
theorem witness_LinkUpkeepRowsComplete :
    (∃ (p : Part) (n : Nat) (s : State), (s.stage p n = 5) ∧ (s.flag p FPT_STS_RETRAINING 0 n = false) ∧ ((s.port p n).shed = none)) ∧
    (∃ (p : Part) (n : Nat) (relocked : Nat) (u : Nat) (s : State), ((s.port p n).retrain = some u) ∧ (s.due p u 2625 = false) ∧ (s.minLanes p n ≤ popCount 16 (s.get p FPT_STS_LANES 0 n &&& relocked))) ∧
    (∃ (n : Nat) (u : Nat) (s : State), ((s.port .sw n).retrain = some u) ∧ (s.due .sw u 2625 = true)) ∧
    (∃ (n : Nat) (u : Nat) (s : State), ((s.port .sw n).retrain = some u) ∧ (s.due .sw u 1050 = true)) ∧
    (∃ (n : Nat) (s : State), (s.stage .sw n = 5)) ∧
    (∃ (p : Part) (n : Nat) (s : State), (s.stage p n = 5) ∧ (s.due p (s.port p n).winOpen (s.get p FPT_SHED_CFG_WINDOW 0 n) = true) ∧ ((s.port p n).winCount = [])) ∧
    (∃ (p : Part) (n : Nat) (lane : Nat) (a : CapMsg) (b : CapMsg) (s : State), (s.stage p n = 5) ∧ ((s.get p FPT_STS_LANES 0 n).testBit lane = true) ∧ ((s.port p n).retrain = none) ∧ ((s.port p n).shed = none) ∧ ((s.port p n).capSent = some a) ∧ ((s.port p n).capGot = some b) ∧ (a.fShed = true) ∧ (b.fShed = true) ∧ ((s.port p n).cfg.getLsbD 17 = true) ∧ (s.minLanes p n ≤ popCount 16 (s.get p FPT_STS_LANES 0 n &&& (65535 ^^^ 2 ^ lane)))) ∧
    (∃ (p : Part) (n : Nat) (mask : Nat) (last : Nat) (s : State), (s.stage p n = 5) ∧ ((s.port p n).retrain = none) ∧ ((s.port p n).shed = none)) ∧
    (∃ (p : Part) (n : Nat) (mask : Nat) (last : Nat) (sh : Shed) (s : State), ((s.port p n).shed = some sh) ∧ (sh.sent = true) ∧ (sh.acked = false) ∧ (sh.gone = false)) ∧
    (∃ (p : Part) (n : Nat) (sh : Shed) (s : State), ((s.port p n).shed = some sh) ∧ (sh.gone = false)) ∧
    (∃ (p : Part) (n : Nat) (s : State), (s.stage p n = 5) ∧ ((s.port p n).slips.length < 7) ∧ (s.flag p FPT_STS_RETRAINING 0 n = false) ∧ ((s.port p n).retrain = none) ∧ ((s.port p n).escalate = false) ∧ ((s.port p n).shed = none)) ∧
    (∃ (p : Part) (n : Nat) (lane : Nat) (s : State), (s.stage p n = 7) ∧ (lane < s.width p n) ∧ (s.laneGet p (s.laneBase p n + lane) QAD_LANE_PAT_CTL_CHK ≠ 0)) :=
  ⟨⟨.ep, 0, up.put .ep FPT_STS_STAGE 5, by first | decide +kernel | rfl, by first | decide +kernel | rfl, by first | decide +kernel | rfl⟩,
   ⟨.ep, 0, 15, 0, ((up.put .ep FPT_STS_STAGE 5).put .ep FPT_STS_LANES 15).onPort .ep 0 fun pt => { pt with retrain := some 0 }, by first | decide +kernel | rfl, by first | decide +kernel | rfl, by first | decide +kernel | rfl⟩,
   ⟨3, 0, (((up.put .sw FPT_STS_STAGE 5 0 3).put .sw FPT_STS_LANES 15 0 3).onPort .sw 3 fun pt => { pt with retrain := some 0 }).onChip .sw fun c => { c with ltc := 2625 }, by first | decide +kernel | rfl, by first | decide +kernel | rfl⟩,
   ⟨3, 0, (((up.put .sw FPT_STS_STAGE 5 0 3).put .sw FPT_STS_LANES 15 0 3).onPort .sw 3 fun pt => { pt with retrain := some 0 }).onChip .sw fun c => { c with ltc := 1050 }, by first | decide +kernel | rfl, by first | decide +kernel | rfl⟩,
   ⟨3, (up.put .sw FPT_STS_STAGE 5 0 3).put .sw FPT_STS_LANES 15 0 3, by first | decide +kernel | rfl⟩,
   ⟨.ep, 0, (up.put .ep FPT_STS_STAGE 5).onChip .ep fun c => { c with ltc := 4000000000 }, by first | decide +kernel | rfl, by first | decide +kernel | rfl, by first | decide +kernel | rfl⟩,
   ⟨.ep, 0, 1, {}, {}, ((up.put .ep FPT_STS_STAGE 5).put .ep FPT_STS_LANES 31).onPort .ep 0 fun pt => { pt with capSent := some {}, capGot := some {}, cfg := 0x20000 }, by first | decide +kernel | rfl, by first | decide +kernel | rfl, by first | decide +kernel | rfl, by first | decide +kernel | rfl, by first | decide +kernel | rfl, by first | decide +kernel | rfl, by first | decide +kernel | rfl, by first | decide +kernel | rfl, by first | decide +kernel | rfl, by first | decide +kernel | rfl⟩,
   ⟨.ep, 0, 2, 5, (up.put .ep FPT_STS_STAGE 5).put .ep FPT_STS_LANES 15, by first | decide +kernel | rfl, by first | decide +kernel | rfl, by first | decide +kernel | rfl⟩,
   ⟨.ep, 0, 2, 5, { mask := 1, sent := true }, ((up.put .ep FPT_STS_STAGE 5).put .ep FPT_STS_LANES 15).onPort .ep 0 fun pt => { pt with shed := some { mask := 1, sent := true } }, by first | decide +kernel | rfl, by first | decide +kernel | rfl, by first | decide +kernel | rfl, by first | decide +kernel | rfl⟩,
   ⟨.ep, 0, { mask := 1 }, up.onPort .ep 0 fun pt => { pt with shed := some { mask := 1 } }, by first | decide +kernel | rfl, by first | decide +kernel | rfl⟩,
   ⟨.ep, 0, up.put .ep FPT_STS_STAGE 5, by first | decide +kernel | rfl, by first | decide +kernel | rfl, by first | decide +kernel | rfl, by first | decide +kernel | rfl, by first | decide +kernel | rfl, by first | decide +kernel | rfl⟩,
   ⟨.ep, 0, 3, (up.put .ep FPT_STS_STAGE 7).lanePut .ep 3 QAD_LANE_PAT_CTL_CHK 1, by first | decide +kernel | rfl, by first | decide +kernel | rfl, by first | decide +kernel | rfl⟩⟩

/-- Something meets the conditions of each clause of `LinkLayerRowsComplete`. -/
theorem witness_LinkLayerRowsComplete :
    (∃ (p : Part) (n : Nat) (w : List Byte) (s : State), (3 ≤ s.stage p n) ∧ (s.stage p n ≤ 5) ∧ ((s.port p n).shed = none) ∧ (fecDecode w = none)) ∧
    (∃ (p : Part) (n : Nat) (w : List Byte) (f : List Byte) (places : List Nat) (s : State), (3 ≤ s.stage p n) ∧ (s.stage p n ≤ 5) ∧ ((s.port p n).shed = none) ∧ (fecDecode w = some (f, places)) ∧ (crc64 (f.take 248) = BitVec.ofNat 64 (natAt f 248 8)) ∧ (bitsOf (natAt f 0 8) 0 4 = 0) ∧ (bitsOf (natAt f 0 8) 4 14 = (s.port p n).expect) ∧ ((s.port p n).expect < 16384) ∧ ((s.port p n).encrypted = false)) ∧
    (∃ (p : Part) (n : Nat) (ack : Nat) (s : State), (3 ≤ s.stage p n) ∧ (s.stage p n ≤ 5) ∧ ((s.port p n).replay.filter (fun f => seqDiff f.seq ((ack + 1) % 16384) < 8192) ≠ [])) ∧
    (∃ (p : Part) (n : Nat) (f : TxFlit) (fs : List TxFlit) (s : State), ((s.port p n).replay = f :: fs) ∧ (s.mute p n = false) ∧ (s.due p (s.port p n).ackAt (s.get p LNK_REPLAY_TMO_TICKS 0 n) = true)) ∧
    (∃ (p : Part) (n : Nat) (s : State), ((s.port p n).sealing = true) ∧ ((s.port p n).keys.groupCount = 64)) ∧
    (∃ (n : Nat) (header : Nat) (tag : List Byte) (group : SealGroup) (s : State), (s.receives .sw n = true) ∧ ((s.port .sw n).encrypted = true) ∧ ((s.port .sw n).keys.rx ≠ []) ∧ (seqDiff (bitsOf header 4 14) (s.port .sw n).expect = 0) ∧ (group.first < 2 ^ 64) ∧ ((s.port .sw n).keys.held ≠ []) ∧ (group.count % 256 ≠ (s.port .sw n).keys.held.length) ∧ ((s.port .sw n).keys.failedAt ≠ some group.first)) ∧
    (∃ (p : Part) (n : Nat) (header : Nat) (tag : List Byte) (group : SealGroup) (f : List Byte) (fs : List (List Byte)) (s : State), (s.receives p n = true) ∧ ((s.port p n).encrypted = true) ∧ ((s.port p n).keys.rx ≠ []) ∧ (seqDiff (bitsOf header 4 14) (s.port p n).expect = 0) ∧ (group.first < 2 ^ 64) ∧ ((s.port p n).keys.held = f :: fs) ∧ (group.count = (f :: fs).length) ∧ (group.count < 256) ∧ ((f :: fs).all (fun g => bitsOf (natAt g 0 8) 0 4 != 1) = true) ∧ (slice (Config.gcmTag (s.sealKey p n f).1 ((s.sealKey p n f).2 ++ leBytes 8 group.first) ((f :: fs).map (·.take 8)).flatten ((f :: fs).map fun g => slice g 8 240).flatten) 0 16 = tag)) ∧
    (∃ (n : Nat) (m : KexMsg) (s : State), (s.kexStage .sw n = true) ∧ (s.secHalted .sw = false) ∧ (s.flag .sw LNK_STS_INITIATOR 0 n = false) ∧ (((s.port .sw n).kex.running && s.due .sw (s.port .sw n).kex.start 350000) = false)) ∧
    (∃ (n : Nat) (m : KexMsg) (s : State), (s.kexStage .sw n = true) ∧ (s.secHalted .sw = false) ∧ (s.flag .sw LNK_STS_INITIATOR 0 n = true) ∧ ((s.port .sw n).kex.running = true) ∧ (s.due .sw (s.port .sw n).kex.start 350000 = false)) :=
  ⟨⟨.ep, 0, List.replicate 272 0xA5#8, up.put .ep FPT_STS_STAGE 5, by first | decide +kernel | rfl, by first | decide +kernel | rfl, by first | decide +kernel | rfl, by first | decide +kernel | rfl⟩,
   ⟨.ep, 0, flitBytes 0 0 16383 0 0 0 false [] ++ flitParity (flitBytes 0 0 16383 0 0 0 false []), flitBytes 0 0 16383 0 0 0 false [], [], up.put .ep FPT_STS_STAGE 5, by first | decide +kernel | rfl, by first | decide +kernel | rfl, by first | decide +kernel | rfl, by first | decide +kernel | rfl, by first | decide +kernel | rfl, by first | decide +kernel | rfl, by first | decide +kernel | rfl, by first | decide +kernel | rfl, by first | decide +kernel | rfl⟩,
   ⟨.ep, 0, 16383, (up.put .ep FPT_STS_STAGE 5).onPort .ep 0 fun pt => { pt with replay := [⟨0, []⟩] }, by first | decide +kernel | rfl, by first | decide +kernel | rfl, by first | decide +kernel | rfl⟩,
   ⟨.ep, 0, ⟨0, []⟩, [], ((up.put .ep FPT_STS_STAGE 5).onPort .ep 0 fun pt => { pt with replay := [⟨0, []⟩] }).onChip .ep fun c => { c with ltc := 4000000000 }, by first | decide +kernel | rfl, by first | decide +kernel | rfl, by first | decide +kernel | rfl⟩,
   ⟨.ep, 0, up.onPort .ep 0 fun pt => { pt with encrypted := true, keys := { pt.keys with tx := [1], groupCount := 64 } }, by first | decide +kernel | rfl, by first | decide +kernel | rfl⟩,
   ⟨0, 0, [], ⟨7, 2⟩, (up.put .sw FPT_STS_STAGE 5).onPort .sw 0 fun pt => { pt with encrypted := true, keys := { pt.keys with rx := [1], held := [List.replicate 256 0] } }, by first | decide +kernel | rfl, by first | decide +kernel | rfl, by first | decide +kernel | rfl, by first | decide +kernel | rfl, by first | decide +kernel | rfl, by first | decide +kernel | rfl, by first | decide +kernel | rfl, by first | decide +kernel | rfl⟩,
   ⟨.ep, 0, 0, slice (Config.gcmTag [1] ([] ++ leBytes 8 7) (List.replicate 8 0) (List.replicate 240 0)) 0 16, ⟨7, 1⟩, List.replicate 256 0, [], (up.put .ep FPT_STS_STAGE 5).onPort .ep 0 fun pt => { pt with encrypted := true, keys := { pt.keys with rx := [1], held := [List.replicate 256 0] } }, by first | decide +kernel | rfl, by first | decide +kernel | rfl, by first | decide +kernel | rfl, by first | decide +kernel | rfl, by first | decide +kernel | rfl, by first | decide +kernel | rfl, by first | decide +kernel | rfl, by first | decide +kernel | rfl, by first | decide +kernel | rfl, by first | decide +kernel | rfl⟩,
   ⟨3, {}, (up.put .sw FPT_STS_STAGE 5 0 3).put .sw LNK_STS_STATE 1 0 3, by first | decide +kernel | rfl, by first | decide +kernel | rfl, by first | decide +kernel | rfl, by first | decide +kernel | rfl⟩,
   ⟨3, {}, (((up.put .sw FPT_STS_STAGE 5 0 3).put .sw LNK_STS_STATE 1 0 3).put .sw LNK_STS_INITIATOR 1 0 3).onPort .sw 3 fun pt => { pt with kex := ⟨true, 0, 0, []⟩ }, by first | decide +kernel | rfl, by first | decide +kernel | rfl, by first | decide +kernel | rfl, by first | decide +kernel | rfl, by first | decide +kernel | rfl⟩⟩

/-- Something meets the conditions of each clause of `SwitchCoreRowsComplete`. -/
theorem witness_SwitchCoreRowsComplete :
    (∃ (n : Nat) (k : Packet) (s : State), (s.portState n = 2) ∧ (s.forSwitch k = true) ∧ (k.tc < 6) ∧ (s.sw.core.powerMark = 0)) ∧
    (∃ (n : Nat) (k : Packet) (s : State), (s.portState n = 2) ∧ (s.forSwitch k = false) ∧ ((addrSwitch k).any (fun sid => !swIdValid sid) = false) ∧ (s.egressOf k.dst = some n)) ∧
    (∃ (id : Nat) (q : QEntry) (s : State), (s.queued id = some q) ∧ (q.reserved = false) ∧ (q.waitsJoin = false) ∧ (s.hasCredit q = true) ∧ (s.residueRoom q = true)) ∧
    (∃ (id : Nat) (q : QEntry) (m : Nat) (s : State), (s.queued id = some q) ∧ (q.rel = q.cells) ∧ (q.egress = .inner m)) ∧
    (∃ (id : Nat) (q : QEntry) (m : Nat) (d : Sched) (s : State), (s.queued id = some q) ∧ ((s.startable m).any (fun x => x.id == q.id) = true) ∧ (s.egressPick m q = some d) ∧ (q.egress = .fabric m)) ∧
    (∃ (id : Nat) (q : QEntry) (m : Nat) (d : Sched) (s : State), (s.queued id = some q) ∧ (q.group.isSome = true) ∧ (q.waitsJoin = false) ∧ (q.reserved = true) ∧ ((s.startable m).any (fun x => x.id == q.id) = true) ∧ (s.egressPick m q = some d) ∧ (q.egress = .fabric m)) ∧
    (∃ (id : Nat) (q : QEntry) (s : State), (s.queued id = some q) ∧ (q.group.isSome = true) ∧ (q.waitsJoin = false) ∧ (q.reserved = false) ∧ (s.hasCredit q = true) ∧ (s.residueRoom q = true)) ∧
    (∃ (group : Nat) (s : State), (s.flag .sw CGT_CTL_ENABLE = false)) ∧
    (∃ (structure_ : Nat) (id : Nat) (q : QEntry) (s : State), (s.queued id = some q) ∧ (q.begun = false) ∧ (6 ≤ q.pkt.tc)) ∧
    (∃ (structure_ : Nat) (id : Nat) (q : QEntry) (m : Nat) (s : State), (s.queued id = some q) ∧ (q.begun = false) ∧ (q.pkt.tc < 6) ∧ (isHerdOp q.pkt.op = false) ∧ (isAsked q.pkt.op = true) ∧ (q.pkt.srcSw = false) ∧ (s.egressOf q.pkt.src = some m) ∧ (s.portState m = 2)) ∧
    (∃ (path : Path) (v : Word) (s : State), (s.writeOpen path .sw pgXbr 0x48 = true)) ∧
    (∃ (n : Nat) (tc : Nat) (s : State), (n ∈ s.portList .sw) ∧ (tc < 8) ∧ (0 < s.backlog (.fabric n) tc)) ∧
    (∃ (p : Part) (src : Nat) (tc : Nat) (u : Nat) (s : State), ((s.markCount p src tc).last = some u) ∧ (s.due p u 16 = true) ∧ ((s.markCount p src tc).marks ≠ 0)) :=
  ⟨⟨3, { op := opHERD_ABORT, tc := 4, dst := 5, src := 5, addr := targetForm 1 16384 0 }, up.put .sw RTE_PORT_STS_STATE 2 4, by first | decide +kernel | rfl, by first | decide +kernel | rfl, by first | decide +kernel | rfl, by first | decide +kernel | rfl⟩,
   ⟨0, { op := opCPL, tc := 4, dst := 0, addr := targetForm 0 0 0 }, up.put .sw RTE_PORT_STS_STATE 2 1, by first | decide +kernel | rfl, by first | decide +kernel | rfl, by first | decide +kernel | rfl, by first | decide +kernel | rfl⟩,
   ⟨0, { id := 0, origin := some 3, egress := .inner 64, pkt := { tc := 4 }, cells := 3, reserved := false, at_ := 0, group := none, waitsJoin := false }, up.onCore fun c => { c with queue := [{ id := 0, origin := some 3, egress := .inner 64, pkt := { tc := 4 }, cells := 3, reserved := false, at_ := 0, group := none, waitsJoin := false }] }, by first | decide +kernel | rfl, by first | decide +kernel | rfl, by first | decide +kernel | rfl, by first | decide +kernel | rfl, by first | decide +kernel | rfl⟩,
   ⟨0, { id := 0, origin := some 3, egress := .inner 64, pkt := { tc := 4 }, cells := 3, reserved := true, sent := 3, rel := 3, at_ := 0, group := none, waitsJoin := false }, 64, up.onCore fun c => { c with queue := [{ id := 0, origin := some 3, egress := .inner 64, pkt := { tc := 4 }, cells := 3, reserved := true, sent := 3, rel := 3, at_ := 0, group := none, waitsJoin := false }] }, by first | decide +kernel | rfl, by first | decide +kernel | rfl, by first | decide +kernel | rfl⟩,
   ⟨0, { id := 0, origin := some 3, egress := .fabric 2, pkt := { tc := 4 }, cells := 3, reserved := true, at_ := 0, group := some 1, waitsJoin := false, sent := 2, rel := 2 }, 2, ((up.onCore fun c => { c with queue := [{ id := 0, origin := some 3, egress := .fabric 2, pkt := { tc := 4 }, cells := 3, reserved := true, at_ := 0, group := some 1, waitsJoin := false, sent := 2, rel := 2 }] }).egressPick 2 { id := 0, origin := some 3, egress := .fabric 2, pkt := { tc := 4 }, cells := 3, reserved := true, at_ := 0, group := some 1, waitsJoin := false, sent := 2, rel := 2 }).getD {}, up.onCore fun c => { c with queue := [{ id := 0, origin := some 3, egress := .fabric 2, pkt := { tc := 4 }, cells := 3, reserved := true, at_ := 0, group := some 1, waitsJoin := false, sent := 2, rel := 2 }] }, by first | decide +kernel | rfl, by first | decide +kernel | rfl, by first | decide +kernel | rfl, by first | decide +kernel | rfl⟩,
   ⟨0, { id := 0, origin := some 3, egress := .fabric 2, pkt := { tc := 4 }, cells := 3, reserved := true, at_ := 0, group := some 1, waitsJoin := false, sent := 2, rel := 2 }, 2, ((up.onCore fun c => { c with queue := [{ id := 0, origin := some 3, egress := .fabric 2, pkt := { tc := 4 }, cells := 3, reserved := true, at_ := 0, group := some 1, waitsJoin := false, sent := 2, rel := 2 }] }).egressPick 2 { id := 0, origin := some 3, egress := .fabric 2, pkt := { tc := 4 }, cells := 3, reserved := true, at_ := 0, group := some 1, waitsJoin := false, sent := 2, rel := 2 }).getD {}, up.onCore fun c => { c with queue := [{ id := 0, origin := some 3, egress := .fabric 2, pkt := { tc := 4 }, cells := 3, reserved := true, at_ := 0, group := some 1, waitsJoin := false, sent := 2, rel := 2 }] }, by first | decide +kernel | rfl, by first | decide +kernel | rfl, by first | decide +kernel | rfl, by first | decide +kernel | rfl, by first | decide +kernel | rfl, by first | decide +kernel | rfl, by first | decide +kernel | rfl⟩,
   ⟨0, { id := 0, origin := some 3, egress := .inner 64, pkt := { tc := 4 }, cells := 3, reserved := false, at_ := 0, group := some 1, waitsJoin := false }, up.onCore fun c => { c with queue := [{ id := 0, origin := some 3, egress := .inner 64, pkt := { tc := 4 }, cells := 3, reserved := false, at_ := 0, group := some 1, waitsJoin := false }] }, by first | decide +kernel | rfl, by first | decide +kernel | rfl, by first | decide +kernel | rfl, by first | decide +kernel | rfl, by first | decide +kernel | rfl, by first | decide +kernel | rfl⟩,
   ⟨1, (up.onCore fun c => { c with queue := [{ id := 0, origin := none, egress := .fabric 2, pkt := { tc := 6 }, cells := 3, reserved := true, at_ := 0, group := some 1, waitsJoin := false }] }).onChip .sw fun c => { c with ltc := 1750 }, by first | decide +kernel | rfl⟩,
   ⟨0, 0, { id := 0, origin := none, egress := .fabric 2, pkt := { tc := 7 }, cells := 3, reserved := true, at_ := 0, group := none, waitsJoin := false }, up.onCore fun c => { c with queue := [{ id := 0, origin := none, egress := .fabric 2, pkt := { tc := 7 }, cells := 3, reserved := true, at_ := 0, group := none, waitsJoin := false }] }, by first | decide +kernel | rfl, by first | decide +kernel | rfl, by first | decide +kernel | rfl⟩,
   ⟨0, 0, { id := 0, origin := none, egress := .fabric 2, pkt := { tc := 1, op := opREAD, src := 1, tag := 5 }, cells := 3, reserved := true, at_ := 0, group := none, waitsJoin := false }, 1, (up.onCore fun c => { c with queue := [{ id := 0, origin := none, egress := .fabric 2, pkt := { tc := 1, op := opREAD, src := 1, tag := 5 }, cells := 3, reserved := true, at_ := 0, group := none, waitsJoin := false }] }).put .sw RTE_PORT_STS_STATE 2 2, by first | decide +kernel | rfl, by first | decide +kernel | rfl, by first | decide +kernel | rfl, by first | decide +kernel | rfl, by first | decide +kernel | rfl, by first | decide +kernel | rfl, by first | decide +kernel | rfl, by first | decide +kernel | rfl⟩,
   ⟨.host, 0x8000000000000001, up.wr .sw XBR_MID_FENCE0 2, by first | decide +kernel | rfl⟩,
   ⟨2, 4, up.onCore fun c => { c with queue := [{ id := 0, origin := some 3, egress := .fabric 2, pkt := { tc := 4 }, cells := 3, reserved := true, at_ := 0, group := some 1, waitsJoin := false, sent := 2, rel := 2 }] }, by first | decide +kernel | rfl, by first | decide +kernel | rfl, by first | decide +kernel | rfl⟩,
   ⟨.sw, 1, 1, 0, (up.onCore fun c => { c with marked := [(9, { marks := 2, last := some 0 })] }).onChip .sw fun c => { c with ltc := 16 }, by first | decide +kernel | rfl, by first | decide +kernel | rfl, by first | decide +kernel | rfl⟩⟩

/-- Something meets the conditions of each clause of `RoutingRowsComplete`. -/
theorem witness_RoutingRowsComplete :
    (∃ (path : Path) (axis : Nat) (v : Word) (s : State), (s.writeOpen path .ep pgRly (0x38 + 8 * axis) = true) ∧ (axis = 1 ∨ axis = 2 ∨ axis = 3)) ∧
    (∃ (n : Nat) (k : Packet) (s : State), (s.portState n = 2)) ∧
    (∃ (n : Nat) (k : Packet) (s : State), (s.portState n = 1)) ∧
    (∃ (n : Nat) (tag : Nat) (b : Probe) (s : State), (s.sw.core.probes.find? (fun b => b.port == n && b.pkt.tag == tag) = some b) ∧ (s.sw.core.queue.any (fun q => q.waiting && q.origin == some n && q.id < b.before) = false)) ∧
    (∃ (k : Packet) (f : Flip) (s : State), (f ∈ s.ep.rly.flips) ∧ (f.tag = k.tag) ∧ (f.awaiting = true)) ∧
    (∃ (tag : Nat) (f : Flip) (u : Nat) (s : State), (f ∈ s.ep.rly.flips) ∧ (f.tag = tag) ∧ (f.awaiting = false) ∧ (f.settleFrom = some u) ∧ (s.due .ep u f.settle = true)) ∧
    (∃ (k : Packet) (s : State), (s.ep.rly.heldPk = []) ∧ (s.ep.ag.membs = [])) ∧
    (∃ (n : Nat) (s : State), (s.stage .ep n = 5)) ∧
    (∃ (path : Path) (s : State), (s.writeOpen path .sw pgRte 0x4C = true) ∧ (s.portState (s.get .sw RTE_PORT_SEL_PORT) = 1) ∧ (s.flag .sw RTE_PORT_STS_ID_OK (s.get .sw RTE_PORT_SEL_PORT + 1) = true) ∧ (s.flag .sw RTE_PORT_STS_MEMBER_OK (s.get .sw RTE_PORT_SEL_PORT + 1) = true)) ∧
    (∃ (n : Nat) (digest : List Byte) (s : State), (s.cpuUp 0 = true) ∧ (s.secHalted .sw = false) ∧ (s.portState n = 1)) ∧
    (∃ (n : Nat) (digest : List Byte) (s : State), (s.cpuUp 0 = true) ∧ (s.secHalted .sw = false) ∧ (s.portState n = 1) ∧ (s.peerMatches n digest = true) ∧ (s.flag .sw RTE_PORT_STS_MEMBER_OK (n + 1) = false)) ∧
    (∃ (path : Path) (s : State), (s.writeOpen path .sw pgRte 0x4C = true) ∧ (s.stage .sw (s.get .sw RTE_PORT_SEL_PORT) = 0)) :=
  ⟨⟨.csr, 3, 5, up, by first | decide +kernel | rfl, by first | decide +kernel | rfl⟩,
   ⟨3, {}, up.put .sw RTE_PORT_STS_STATE 2 4, by first | decide +kernel | rfl⟩,
   ⟨3, {}, up.put .sw RTE_PORT_STS_STATE 1 4, by first | decide +kernel | rfl⟩,
   ⟨3, 7, ⟨3, { tag := 7 }, 0⟩, up.onCore fun c => { c with probes := [⟨3, { tag := 7 }, 0⟩] }, by first | decide +kernel | rfl, by first | decide +kernel | rfl⟩,
   ⟨{ tag := 7 }, ⟨1, 1, 0, 7, true, none, 0, none⟩, up.onRly fun r => { r with flips := [⟨1, 1, 0, 7, true, none, 0, none⟩] }, by first | decide +kernel | rfl, by first | decide +kernel | rfl, by first | decide +kernel | rfl⟩,
   ⟨7, ⟨1, 1, 0, 7, false, some 0, 100, none⟩, 0, (up.onRly fun r => { r with flips := [⟨1, 1, 0, 7, false, some 0, 100, none⟩] }).onChip .ep fun c => { c with ltc := 100 }, by first | decide +kernel | rfl, by first | decide +kernel | rfl, by first | decide +kernel | rfl, by first | decide +kernel | rfl, by first | decide +kernel | rfl⟩,
   ⟨{ aux := 0x1FD }, up, by first | decide +kernel | rfl, by first | decide +kernel | rfl⟩,
   ⟨5, up.put .ep FPT_STS_STAGE 5 0 5, by first | decide +kernel | rfl⟩,
   ⟨.host, (((up.put .sw RTE_PORT_SEL_PORT 3).put .sw RTE_PORT_STS_STATE 1 4).put .sw RTE_PORT_STS_ID_OK 1 4).put .sw RTE_PORT_STS_MEMBER_OK 1 4, by first | decide +kernel | rfl, by first | decide +kernel | rfl, by first | decide +kernel | rfl, by first | decide +kernel | rfl⟩,
   ⟨3, [], up.put .sw RTE_PORT_STS_STATE 1 4, by first | decide +kernel | rfl, by first | decide +kernel | rfl, by first | decide +kernel | rfl⟩,
   ⟨3, [], up.put .sw RTE_PORT_STS_STATE 1 4, by first | decide +kernel | rfl, by first | decide +kernel | rfl, by first | decide +kernel | rfl, by first | decide +kernel | rfl, by first | decide +kernel | rfl⟩,
   ⟨.host, up.put .sw RTE_PORT_SEL_PORT 127, by first | decide +kernel | rfl, by first | decide +kernel | rfl⟩⟩

/-- Something meets the conditions of each clause of `AcceleratorRowsComplete`. -/
theorem witness_AcceleratorRowsComplete :
    (∃ (id : Nat) (queue : Nat) (op : Nat) (addr : Nat) (len : Nat) (data : List Byte) (vol : Bool) (cached : Bool) (s : State), (s.uciUp = true) ∧ (op = opREAD ∨ (op = opWRITE ∧ data.length = len)) ∧ (1 ≤ len) ∧ (len ≤ 256) ∧ (addr / 256 = (addr + len - 1) / 256)) ∧
    (∃ (q : Nat) (v : Nat) (s : State), (s.uciUp = true)) ∧
    (∃ (id : Nat) (answer : Nat) (data : List Byte) (o : AccOp) (w : Nat) (x : WinReq) (s : State), (s.ep.ag.ops.find? (fun o => o.id == id) = some o) ∧ (o.for_ = .window w) ∧ (s.ep.ag.wins.find? (fun x => x.id == w) = some x)) ∧
    (∃ (id : Nat) (answer : Nat) (data : List Byte) (o : AccOp) (a : Nat) (s : State), (s.ep.ag.ops.find? (fun o => o.id == id) = some o) ∧ (o.for_ = .data a) ∧ (s.accLate o = false) ∧ (answer = 0)) ∧
    (∃ (id : Nat) (o : AccOp) (w : Nat) (x : WinReq) (s : State), (s.ep.ag.ops.find? (fun o => o.id == id) = some o) ∧ (o.for_ = .window w) ∧ (s.ep.ag.wins.find? (fun x => x.id == w) = some x) ∧ (s.due .ep o.at_ (s.get .ep UCI_CFG_ACC_TMO) = true)) ∧
    (∃ (id : Nat) (q : Nat) (i : Nat) (c : Cmd) (s : State), (lookup s.ep.ag.discards id = some (q, i)) ∧ (s.cmd q i = some c)) ∧
    (∃ (s : State), (s.uciUp = true)) ∧
    (∃ (modules : Nat) (rate : Nat) (s : State), (s.uciUp = false)) ∧
    (∃ (modules : Nat) (rate : Nat) (s : State), (s.uciUp = true)) ∧
    (∃ (q : Nat) (c : Cmd) (ptn : Nat) (s : State), (s.nextIssue q = some c) ∧ (s.cmd q c.index = some c) ∧ (c.op = 6) ∧ (s.epCtxPtn (s.queueCtx q) = some ptn) ∧ (1 ≤ c.length) ∧ (c.length ≤ 1024)) ∧
    (∃ (q : Nat) (c : Cmd) (ptn : Nat) (s : State), (s.nextIssue q = some c) ∧ (s.cmd q c.index = some c) ∧ (c.op = 7) ∧ (s.epCtxPtn (s.queueCtx q) = some ptn) ∧ (1 ≤ c.length) ∧ (c.length ≤ 4096)) ∧
    (∃ (q : Nat) (c : Cmd) (s : State), (s.nextIssue q = some c) ∧ (s.cmd q c.index = some c) ∧ (c.op = 8)) ∧
    (∃ (q : Nat) (c : Cmd) (s : State), (s.nextIssue q = some c) ∧ (s.cmd q c.index = some c) ∧ (c.op = 9)) :=
  ⟨⟨0, 3, opREAD, 4096, 8, [], true, true, (up.put .ep UCI_STS_UP 1), by first | decide +kernel | rfl, by first | decide +kernel | rfl, by first | decide +kernel | rfl, by first | decide +kernel | rfl, by first | decide +kernel | rfl⟩,
   ⟨3, 9, (up.put .ep UCI_STS_UP 1), by first | decide +kernel | rfl⟩,
   ⟨4, 0, [], ⟨4, .window 9, 0, 64, 8, 0⟩, 9, ⟨9, { op := opREAD, len := 8, src := 5 }, 1, none, false⟩, ((up.put .ep UCI_STS_UP 1).onAg fun a => { a with ops := [⟨4, .window 9, 0, 64, 8, 0⟩], wins := [⟨9, { op := opREAD, len := 8, src := 5 }, 1, none, false⟩] }), by first | decide +kernel | rfl, by first | decide +kernel | rfl, by first | decide +kernel | rfl⟩,
   ⟨4, 0, List.replicate 8 7, ⟨4, .data 9, 0, 64, 8, 0⟩, 9, ((up.put .ep UCI_STS_UP 1).onAg fun a => { a with ops := [⟨4, .data 9, 0, 64, 8, 0⟩] }), by first | decide +kernel | rfl, by first | decide +kernel | rfl, by first | decide +kernel | rfl, by first | decide +kernel | rfl⟩,
   ⟨4, ⟨4, .window 9, 0, 64, 8, 0⟩, 9, ⟨9, { op := opREAD, len := 8, src := 5 }, 1, none, false⟩, (((up.put .ep UCI_STS_UP 1).onAg fun a => { a with ops := [⟨4, .window 9, 0, 64, 8, 0⟩], wins := [⟨9, { op := opREAD, len := 8, src := 5 }, 1, none, false⟩] }).onChip .ep fun c => { c with ltc := 4000000000 }), by first | decide +kernel | rfl, by first | decide +kernel | rfl, by first | decide +kernel | rfl, by first | decide +kernel | rfl⟩,
   ⟨4, 3, 7, { queue := 3, index := 7, desc := [], stage := 1, phase := 1 }, ({ ((((up.put .ep UCI_STS_UP 1).put .ep QUE_Q_STS_STATE 1 4).put .ep QUE_Q_CFG_CTX 5 4).wr .ep CTX_ENTRY 5 6) with ep := { ((((up.put .ep UCI_STS_UP 1).put .ep QUE_Q_STS_STATE 1 4).put .ep QUE_Q_CFG_CTX 5 4).wr .ep CTX_ENTRY 5 6).ep with cmds := [{ queue := 3, index := 7, desc := [], stage := 1, phase := 1 }] } }.onAg fun a => { a with discards := [(4, (3, 7))] }), by first | decide +kernel | rfl, by first | decide +kernel | rfl⟩,
   ⟨((up.put .ep UCI_STS_UP 1).onAg fun a => { a with ops := [⟨4, .window 9, 0, 64, 8, 0⟩], wins := [⟨9, { op := opREAD, len := 8, src := 5 }, 1, none, false⟩] }), by first | decide +kernel | rfl⟩,
   ⟨4, 1, up, by first | decide +kernel | rfl⟩,
   ⟨3, 1, (up.put .ep UCI_STS_UP 1), by first | decide +kernel | rfl⟩,
   ⟨3, { queue := 3, index := 7, desc := [6, 64, 0, 3, 0, 4096, 0, 0] }, 2, { ((((up.put .ep UCI_STS_UP 1).put .ep QUE_Q_STS_STATE 1 4).put .ep QUE_Q_CFG_CTX 5 4).wr .ep CTX_ENTRY 5 6) with ep := { ((((up.put .ep UCI_STS_UP 1).put .ep QUE_Q_STS_STATE 1 4).put .ep QUE_Q_CFG_CTX 5 4).wr .ep CTX_ENTRY 5 6).ep with cmds := [{ queue := 3, index := 7, desc := [6, 64, 0, 3, 0, 4096, 0, 0] }] } }, by first | decide +kernel | rfl, by first | decide +kernel | rfl, by first | decide +kernel | rfl, by first | decide +kernel | rfl, by first | decide +kernel | rfl, by first | decide +kernel | rfl⟩,
   ⟨3, { queue := 3, index := 7, desc := [7, 64, 0, 4096, 0, 0, 0, 0] }, 2, { ((((up.put .ep UCI_STS_UP 1).put .ep QUE_Q_STS_STATE 1 4).put .ep QUE_Q_CFG_CTX 5 4).wr .ep CTX_ENTRY 5 6) with ep := { ((((up.put .ep UCI_STS_UP 1).put .ep QUE_Q_STS_STATE 1 4).put .ep QUE_Q_CFG_CTX 5 4).wr .ep CTX_ENTRY 5 6).ep with cmds := [{ queue := 3, index := 7, desc := [7, 64, 0, 4096, 0, 0, 0, 0] }] } }, by first | decide +kernel | rfl, by first | decide +kernel | rfl, by first | decide +kernel | rfl, by first | decide +kernel | rfl, by first | decide +kernel | rfl, by first | decide +kernel | rfl⟩,
   ⟨3, { queue := 3, index := 7, desc := [8, 0, 0, 0, 0, 0, 0, 0] }, { ((((up.put .ep UCI_STS_UP 1).put .ep QUE_Q_STS_STATE 1 4).put .ep QUE_Q_CFG_CTX 5 4).wr .ep CTX_ENTRY 5 6) with ep := { ((((up.put .ep UCI_STS_UP 1).put .ep QUE_Q_STS_STATE 1 4).put .ep QUE_Q_CFG_CTX 5 4).wr .ep CTX_ENTRY 5 6).ep with cmds := [{ queue := 3, index := 7, desc := [8, 0, 0, 0, 0, 0, 0, 0] }] } }, by first | decide +kernel | rfl, by first | decide +kernel | rfl, by first | decide +kernel | rfl⟩,
   ⟨3, { queue := 3, index := 7, desc := [9, 0, 0, 0, 0, 0, 0, 0] }, { ((((up.put .ep UCI_STS_UP 1).put .ep QUE_Q_STS_STATE 1 4).put .ep QUE_Q_CFG_CTX 5 4).wr .ep CTX_ENTRY 5 6) with ep := { ((((up.put .ep UCI_STS_UP 1).put .ep QUE_Q_STS_STATE 1 4).put .ep QUE_Q_CFG_CTX 5 4).wr .ep CTX_ENTRY 5 6).ep with cmds := [{ queue := 3, index := 7, desc := [9, 0, 0, 0, 0, 0, 0, 0] }] } }, by first | decide +kernel | rfl, by first | decide +kernel | rfl, by first | decide +kernel | rfl⟩⟩

/-- Something meets the conditions of each clause of `QueueRowsComplete`. -/
theorem witness_QueueRowsComplete :
    (∃ (path : Path) (v : Nat) (s : State), (s.writeOpen path .ep pgQue 0x68 = true)) ∧
    (∃ (path : Path) (v : Word) (s : State), (s.writeOpen path .ep pgQue 0x48 = true) ∧ (v.getLsbD 0 = true) ∧ (s.flag .ep QUE_Q_CFG_ENABLE (s.queueSel + 1) = false) ∧ ((s.epCtxPtn (getBits v 6 10)).isSome = true)) ∧
    (∃ (path : Path) (v : Word) (s : State), (s.writeOpen path .ep pgQue 0x48 = true) ∧ (v.getLsbD 0 = false) ∧ (s.flag .ep QUE_Q_CFG_ENABLE (s.queueSel + 1) = true)) ∧
    (∃ (q : Nat) (desc : List Word) (s : State), (s.mayFetch (q % 256) = true)) ∧
    (∃ (q : Nat) (s : State), (s.mayFetch (q % 256) = true)) ∧
    (∃ (q : Nat) (c : Cmd) (s : State), (s.ep.cmds.find? (fun c => c.queue == q && c.stage == 1 && c.phase == 2 && bitsOf (c.w 6) 0 34 != 0 && s.due .ep c.at_ (bitsOf (c.w 6) 0 34)) = some c) ∧ (s.cmd q c.index = some c)) ∧
    (∃ (q : Nat) (c : Cmd) (s : State), (s.ep.cmds.find? (fun c => c.queue == q && c.stage != 3) = some c) ∧ (c.stage = 2) ∧ (c.signalEn = false) ∧ (s.uciUp = true)) ∧
    (∃ (k : Packet) (m : Nat) (s : State), (s.split = false) ∧ (s.nativeHop k = .here)) ∧
    (∃ (k : Packet) (ix : Nat) (s : State), (k.srcSw = true) ∧ (bridleIx (natAt k.payload 0 4) 3 = some ix) ∧ ((s.bridleNow ix).rose.all (fun r => r.1 != s.now .ep) = true)) ∧
    (∃ (k : Packet) (ix : Nat) (r : Nat) (s : State), (k.srcSw = true) ∧ (bridleIx (natAt k.payload 0 4) 3 = some ix) ∧ ((s.bridleNow ix).rose = some (s.now .ep, r))) ∧
    (∃ (ix : Nat) (s : State), (ix < 12) ∧ (s.due .ep (s.bridleNow ix).incFrom (s.get .ep BRD_TIMING_INC_TICKS) = true)) :=
  ⟨⟨.csr, 9, up, by first | decide +kernel | rfl⟩,
   ⟨.csr, 0x80149, up.wr .ep CTX_ENTRY 5 6, by first | decide +kernel | rfl, by first | decide +kernel | rfl, by first | decide +kernel | rfl, by first | decide +kernel | rfl⟩,
   ⟨.csr, 0, (up.put .ep QUE_Q_CFG_ENABLE 1 1).put .ep QUE_Q_STS_STATE 1 1, by first | decide +kernel | rfl, by first | decide +kernel | rfl, by first | decide +kernel | rfl⟩,
   ⟨3, [1], (((((up.put .ep UCI_STS_UP 1).put .ep QUE_Q_STS_STATE 1 4).put .ep QUE_Q_CFG_CTX 5 4).wr .ep CTX_ENTRY 5 6).put .ep QUE_Q_TAIL_INDEX 2 4), by first | decide +kernel | rfl⟩,
   ⟨3, (((((up.put .ep UCI_STS_UP 1).put .ep QUE_Q_STS_STATE 1 4).put .ep QUE_Q_CFG_CTX 5 4).wr .ep CTX_ENTRY 5 6).put .ep QUE_Q_TAIL_INDEX 2 4), by first | decide +kernel | rfl⟩,
   ⟨3, { queue := 3, index := 7, desc := [4, 0, 0, 0, 0, 0, 10, 0], stage := 1, phase := 2 }, ({ ((((up.put .ep UCI_STS_UP 1).put .ep QUE_Q_STS_STATE 1 4).put .ep QUE_Q_CFG_CTX 5 4).wr .ep CTX_ENTRY 5 6) with ep := { ((((up.put .ep UCI_STS_UP 1).put .ep QUE_Q_STS_STATE 1 4).put .ep QUE_Q_CFG_CTX 5 4).wr .ep CTX_ENTRY 5 6).ep with cmds := [{ queue := 3, index := 7, desc := [4, 0, 0, 0, 0, 0, 10, 0], stage := 1, phase := 2 }] } }.onChip .ep fun c => { c with ltc := 11 }), by first | decide +kernel | rfl, by first | decide +kernel | rfl⟩,
   ⟨3, { queue := 3, index := 7, desc := [2], stage := 2, status := 3 }, { ((((up.put .ep UCI_STS_UP 1).put .ep QUE_Q_STS_STATE 1 4).put .ep QUE_Q_CFG_CTX 5 4).wr .ep CTX_ENTRY 5 6) with ep := { ((((up.put .ep UCI_STS_UP 1).put .ep QUE_Q_STS_STATE 1 4).put .ep QUE_Q_CFG_CTX 5 4).wr .ep CTX_ENTRY 5 6).ep with cmds := [{ queue := 3, index := 7, desc := [2], stage := 2, status := 3 }] } }, by first | decide +kernel | rfl, by first | decide +kernel | rfl, by first | decide +kernel | rfl, by first | decide +kernel | rfl⟩,
   ⟨{ op := opCPL, tc := 4 }, 2, up, by first | decide +kernel | rfl, by first | decide +kernel | rfl⟩,
   ⟨{ srcSw := true, payload := leBytes 4 0 ++ leBytes 4 2 }, 3, up, by first | decide +kernel | rfl, by first | decide +kernel | rfl, by first | decide +kernel | rfl⟩,
   ⟨{ srcSw := true, payload := leBytes 4 0 ++ leBytes 4 2 }, 3, 100, up.onRly fun r => { r with bridles := [(3, { rose := some (0, 100) })] }, by first | decide +kernel | rfl, by first | decide +kernel | rfl, by first | decide +kernel | rfl⟩,
   ⟨11, (up.onChip .ep fun c => { c with ltc := 4000000000 }).put .ep BRD_RATE_RATE 100 12, by first | decide +kernel | rfl, by first | decide +kernel | rfl⟩⟩

/-- Something meets the conditions of each clause of `CommandRowsComplete`. -/
theorem witness_CommandRowsComplete :
    (∃ (q : Nat) (c : Cmd) (s : State), (s.nextIssue q = some c) ∧ (s.cmd q c.index = some c) ∧ (c.op = 0) ∧ (c.open_ = 0) ∧ (c.phase = 0) ∧ (c.fails = [])) ∧
    (∃ (q : Nat) (c : Cmd) (ptn : Nat) (s : State), (s.nextIssue q = some c) ∧ (s.cmd q c.index = some c) ∧ (c.op = 1) ∧ (s.epCtxPtn (s.queueCtx q) = some ptn)) ∧
    (∃ (q : Nat) (c : Cmd) (ptn : Nat) (s : State), (s.nextIssue q = some c) ∧ (s.cmd q c.index = some c) ∧ (c.op = 2) ∧ (s.epCtxPtn (s.queueCtx q) = some ptn)) ∧
    (∃ (q : Nat) (c : Cmd) (ptn : Nat) (s : State), (s.nextIssue q = some c) ∧ (s.cmd q c.index = some c) ∧ (c.op = 3) ∧ (s.epCtxPtn (s.queueCtx q) = some ptn) ∧ (atomicSize c.subop (if c.subop == opCAS then 2 * c.length else c.length) = some c.length) ∧ (c.length ≠ 16)) ∧
    (∃ (q : Nat) (c : Cmd) (ptn : Nat) (s : State), (s.nextIssue q = some c) ∧ (s.cmd q c.index = some c) ∧ (c.op = 4) ∧ (c.subop = 0) ∧ (inControl (c.desc.getD 1 0) = true) ∧ (s.epCtxPtn (s.queueCtx q) = some ptn)) ∧
    (∃ (q : Nat) (c : Cmd) (ptn : Nat) (s : State), (s.nextIssue q = some c) ∧ (s.cmd q c.index = some c) ∧ (c.op = 4) ∧ (c.subop = 1) ∧ (inControl (c.desc.getD 1 0) = true) ∧ (s.epCtxPtn (s.queueCtx q) = some ptn)) ∧
    (∃ (q : Nat) (c : Cmd) (ptn : Nat) (s : State), (s.nextIssue q = some c) ∧ (s.cmd q c.index = some c) ∧ (c.op = 4) ∧ (c.subop = 4) ∧ (inControl (c.desc.getD 1 0) = true) ∧ (s.epCtxPtn (s.queueCtx q) = some ptn)) ∧
    (∃ (q : Nat) (c : Cmd) (ptn : Nat) (sid : Nat) (x : Nat) (y : Nat) (s : State), (s.nextIssue q = some c) ∧ (s.cmd q c.index = some c) ∧ (c.op = 4) ∧ (c.subop = 2) ∧ (inControl (c.desc.getD 1 0) = true) ∧ (placeOf (c.desc.getD 1 0) = .control 1 sid x y) ∧ (s.epCtxPtn (s.queueCtx q) = some ptn)) ∧
    (∃ (q : Nat) (c : Cmd) (ptn : Nat) (sid : Nat) (x : Nat) (y : Nat) (s : State), (s.nextIssue q = some c) ∧ (s.cmd q c.index = some c) ∧ (c.op = 4) ∧ (c.subop = 3) ∧ (inControl (c.desc.getD 1 0) = true) ∧ (placeOf (c.desc.getD 1 0) = .control 1 sid x y) ∧ (s.epCtxPtn (s.queueCtx q) = some ptn)) :=
  ⟨⟨3, { queue := 3, index := 7, desc := [0, 0, 0, 0, 0, 0, 0, 0] }, { ((((up.put .ep UCI_STS_UP 1).put .ep QUE_Q_STS_STATE 1 4).put .ep QUE_Q_CFG_CTX 5 4).wr .ep CTX_ENTRY 5 6) with ep := { ((((up.put .ep UCI_STS_UP 1).put .ep QUE_Q_STS_STATE 1 4).put .ep QUE_Q_CFG_CTX 5 4).wr .ep CTX_ENTRY 5 6).ep with cmds := [{ queue := 3, index := 7, desc := [0, 0, 0, 0, 0, 0, 0, 0] }] } }, by first | decide +kernel | rfl, by first | decide +kernel | rfl, by first | decide +kernel | rfl, by first | decide +kernel | rfl, by first | decide +kernel | rfl, by first | decide +kernel | rfl⟩,
   ⟨3, { queue := 3, index := 7, desc := [1, 4090, 0, 10, 0, 0, 0, 0] }, 2, { ((((up.put .ep UCI_STS_UP 1).put .ep QUE_Q_STS_STATE 1 4).put .ep QUE_Q_CFG_CTX 5 4).wr .ep CTX_ENTRY 5 6) with ep := { ((((up.put .ep UCI_STS_UP 1).put .ep QUE_Q_STS_STATE 1 4).put .ep QUE_Q_CFG_CTX 5 4).wr .ep CTX_ENTRY 5 6).ep with cmds := [{ queue := 3, index := 7, desc := [1, 4090, 0, 10, 0, 0, 0, 0] }] } }, by first | decide +kernel | rfl, by first | decide +kernel | rfl, by first | decide +kernel | rfl, by first | decide +kernel | rfl⟩,
   ⟨3, { queue := 3, index := 7, desc := [2, 4090, 0, 10, 0, 0, 0, 0] }, 2, { ((((up.put .ep UCI_STS_UP 1).put .ep QUE_Q_STS_STATE 1 4).put .ep QUE_Q_CFG_CTX 5 4).wr .ep CTX_ENTRY 5 6) with ep := { ((((up.put .ep UCI_STS_UP 1).put .ep QUE_Q_STS_STATE 1 4).put .ep QUE_Q_CFG_CTX 5 4).wr .ep CTX_ENTRY 5 6).ep with cmds := [{ queue := 3, index := 7, desc := [2, 4090, 0, 10, 0, 0, 0, 0] }] } }, by first | decide +kernel | rfl, by first | decide +kernel | rfl, by first | decide +kernel | rfl, by first | decide +kernel | rfl⟩,
   ⟨3, { queue := 3, index := 7, desc := [0x1003, 64, 0, 8, 5, 0, 0, 0] }, 2, { ((((up.put .ep UCI_STS_UP 1).put .ep QUE_Q_STS_STATE 1 4).put .ep QUE_Q_CFG_CTX 5 4).wr .ep CTX_ENTRY 5 6) with ep := { ((((up.put .ep UCI_STS_UP 1).put .ep QUE_Q_STS_STATE 1 4).put .ep QUE_Q_CFG_CTX 5 4).wr .ep CTX_ENTRY 5 6).ep with cmds := [{ queue := 3, index := 7, desc := [0x1003, 64, 0, 8, 5, 0, 0, 0] }] } }, by first | decide +kernel | rfl, by first | decide +kernel | rfl, by first | decide +kernel | rfl, by first | decide +kernel | rfl, by first | decide +kernel | rfl, by first | decide +kernel | rfl⟩,
   ⟨3, { queue := 3, index := 7, desc := [4, targetForm 1 9 6, 0, 0, 5, 0, 0, 0] }, 2, { ((((up.put .ep UCI_STS_UP 1).put .ep QUE_Q_STS_STATE 1 4).put .ep QUE_Q_CFG_CTX 5 4).wr .ep CTX_ENTRY 5 6) with ep := { ((((up.put .ep UCI_STS_UP 1).put .ep QUE_Q_STS_STATE 1 4).put .ep QUE_Q_CFG_CTX 5 4).wr .ep CTX_ENTRY 5 6).ep with cmds := [{ queue := 3, index := 7, desc := [4, targetForm 1 9 6, 0, 0, 5, 0, 0, 0] }] } }, by first | decide +kernel | rfl, by first | decide +kernel | rfl, by first | decide +kernel | rfl, by first | decide +kernel | rfl, by first | decide +kernel | rfl, by first | decide +kernel | rfl⟩,
   ⟨3, { queue := 3, index := 7, desc := [260, targetForm 1 9 6, 0, 0, 5, 0, 0, 0] }, 2, { ((((up.put .ep UCI_STS_UP 1).put .ep QUE_Q_STS_STATE 1 4).put .ep QUE_Q_CFG_CTX 5 4).wr .ep CTX_ENTRY 5 6) with ep := { ((((up.put .ep UCI_STS_UP 1).put .ep QUE_Q_STS_STATE 1 4).put .ep QUE_Q_CFG_CTX 5 4).wr .ep CTX_ENTRY 5 6).ep with cmds := [{ queue := 3, index := 7, desc := [260, targetForm 1 9 6, 0, 0, 5, 0, 0, 0] }] } }, by first | decide +kernel | rfl, by first | decide +kernel | rfl, by first | decide +kernel | rfl, by first | decide +kernel | rfl, by first | decide +kernel | rfl, by first | decide +kernel | rfl⟩,
   ⟨3, { queue := 3, index := 7, desc := [1028, targetForm 1 9 6, 0, 0, 5, 0, 0, 0] }, 2, { ((((up.put .ep UCI_STS_UP 1).put .ep QUE_Q_STS_STATE 1 4).put .ep QUE_Q_CFG_CTX 5 4).wr .ep CTX_ENTRY 5 6) with ep := { ((((up.put .ep UCI_STS_UP 1).put .ep QUE_Q_STS_STATE 1 4).put .ep QUE_Q_CFG_CTX 5 4).wr .ep CTX_ENTRY 5 6).ep with cmds := [{ queue := 3, index := 7, desc := [1028, targetForm 1 9 6, 0, 0, 5, 0, 0, 0] }] } }, by first | decide +kernel | rfl, by first | decide +kernel | rfl, by first | decide +kernel | rfl, by first | decide +kernel | rfl, by first | decide +kernel | rfl, by first | decide +kernel | rfl⟩,
   ⟨3, { queue := 3, index := 7, desc := [516, targetForm 1 9 6, 0, 0, 5, 0, 0, 0] }, 2, 9, 0, 6, { ((((up.put .ep UCI_STS_UP 1).put .ep QUE_Q_STS_STATE 1 4).put .ep QUE_Q_CFG_CTX 5 4).wr .ep CTX_ENTRY 5 6) with ep := { ((((up.put .ep UCI_STS_UP 1).put .ep QUE_Q_STS_STATE 1 4).put .ep QUE_Q_CFG_CTX 5 4).wr .ep CTX_ENTRY 5 6).ep with cmds := [{ queue := 3, index := 7, desc := [516, targetForm 1 9 6, 0, 0, 5, 0, 0, 0] }] } }, by first | decide +kernel | rfl, by first | decide +kernel | rfl, by first | decide +kernel | rfl, by first | decide +kernel | rfl, by first | decide +kernel | rfl, by first | decide +kernel | rfl, by first | decide +kernel | rfl⟩,
   ⟨3, { queue := 3, index := 7, desc := [772, targetForm 1 9 6, 0, 0, 5, 0, 0, 0] }, 2, 9, 0, 6, { ((((up.put .ep UCI_STS_UP 1).put .ep QUE_Q_STS_STATE 1 4).put .ep QUE_Q_CFG_CTX 5 4).wr .ep CTX_ENTRY 5 6) with ep := { ((((up.put .ep UCI_STS_UP 1).put .ep QUE_Q_STS_STATE 1 4).put .ep QUE_Q_CFG_CTX 5 4).wr .ep CTX_ENTRY 5 6).ep with cmds := [{ queue := 3, index := 7, desc := [772, targetForm 1 9 6, 0, 0, 5, 0, 0, 0] }] } }, by first | decide +kernel | rfl, by first | decide +kernel | rfl, by first | decide +kernel | rfl, by first | decide +kernel | rfl, by first | decide +kernel | rfl, by first | decide +kernel | rfl, by first | decide +kernel | rfl⟩⟩

/-- Something meets the conditions of each clause of `RequestRowsComplete`. -/
theorem witness_RequestRowsComplete :
    (∃ (k : Packet) (r : Req) (id : Nat) (m : Nat) (q : Access) (s : State), (k.mark = false) ∧ (s.reqOf k = some r) ∧ (s.reqLate r = false) ∧ (crcOk k = true) ∧ (k.status < 0xE) ∧ (r.for_ = .acc id) ∧ (s.access id = some q) ∧ (q.usesCopy = false) ∧ (q.mem = some m) ∧ (s.uciUp = true)) ∧
    (∃ (k : Packet) (r : Req) (id : Nat) (x : Xlate) (s : State), (k.mark = false) ∧ (s.reqOf k = some r) ∧ (s.reqLate r = false) ∧ (crcOk k = true) ∧ (k.status < 0xE) ∧ (k.status = stOK) ∧ (r.for_ = .xlate id) ∧ (s.ep.ag.xlates.find? (fun x => x.id == id) = some x) ∧ (x.again = false) ∧ (entryOk (BitVec.ofNat 64 (natAt k.payload 0 8)) = true)) ∧
    (∃ (k : Packet) (r : Req) (id : Nat) (q : Access) (c : Cmd) (s : State), (k.mark = false) ∧ (s.reqOf k = some r) ∧ (s.reqLate r = false) ∧ (crcOk k = true) ∧ (r.pkt.op = opGATHER) ∧ (r.for_ = .acc id) ∧ (s.access id = some q) ∧ (s.cmd q.queue q.index = some c) ∧ (s.uciUp = true) ∧ (k.payload ≠ [])) ∧
    (∃ (tag : Nat) (r : Req) (s : State), (s.ep.reqs.find? (fun r => r.tag == tag) = some r) ∧ (s.reqLate r = false) ∧ (s.unsent r = false) ∧ (r.times < 3) ∧ (s.due .ep r.first ((r.times + 1) * s.get .ep EPC_REQ_TMO_TICKS / 4) = true) ∧ (resendable r.pkt = true) ∧ (r.resends < 3)) ∧
    (∃ (tag : Nat) (r : Req) (s : State), (s.ep.reqs.find? (fun r => r.tag == tag) = some r) ∧ (s.unsent r = false) ∧ (s.due .ep r.first (s.get .ep EPC_REQ_TMO_TICKS) = true)) ∧
    (∃ (tag : Nat) (h : Nat) (s : State), (lookup s.ep.ag.held tag = some h) ∧ (s.due .ep h (2 * s.get .ep EPC_REQ_TMO_TICKS) = true)) ∧
    (∃ (kind : Nat) (target : Nat) (s : State), (s.ep.ag.releases.any (fun r => r.kind == kind && r.target == target) = true)) ∧
    (∃ (src : Nat) (tag : Nat) (o : Outcome) (s : State), (s.ep.ddp.find? (fun o => o.src == src && o.tag == tag) = some o) ∧ (s.due .ep o.at_ (s.get .ep DDP_CFG_HOLD) = true)) ∧
    (∃ (k : Packet) (c : Copy) (s : State), (k.mark = false) ∧ (s.uciUp = true) ∧ (crcOk k = true) ∧ (k.op = opSNP_INV) ∧ (lookup s.ep.ag.copies (epLine k.addr) = some c)) ∧
    (∃ (k : Packet) (s : State), (k.mark = false) ∧ (crcOk k = true)) ∧
    (∃ (e : Packet × Nat × List Nat) (s : State), (s.ep.ag.invals.find? (fun e => !s.anyLeft e.2.2) = some e)) :=
  ⟨⟨sealPkt { op := opCPL, tag := 6, addr := 64, payload := [7] }, { tag := 6, pkt := { op := opREAD, tag := 6, addr := 64, len := 8 }, for_ := .acc 4, first := 0, last := 0 }, 4, 2, { id := 4, queue := 3, ord := 1, mem := some 2, op := opREAD, fab := 64, stage := 4, len := 8 }, (({ (up.put .ep UCI_STS_UP 1) with ep := { (up.put .ep UCI_STS_UP 1).ep with reqs := [{ tag := 6, pkt := { op := opREAD, tag := 6, addr := 64, len := 8 }, for_ := .acc 4, first := 0, last := 0 }] } } : State).onAg fun a => { a with accs := [{ id := 4, queue := 3, ord := 1, mem := some 2, op := opREAD, fab := 64, stage := 4, len := 8 }] }), by first | decide +kernel | rfl, by first | decide +kernel | rfl, by first | decide +kernel | rfl, by first | decide +kernel | rfl, by first | decide +kernel | rfl, by first | decide +kernel | rfl, by first | decide +kernel | rfl, by first | decide +kernel | rfl, by first | decide +kernel | rfl, by first | decide +kernel | rfl⟩,
   ⟨sealPkt { op := opCPL, tag := 6, addr := 64, payload := [7] }, { tag := 6, pkt := { op := opREAD, tag := 6, addr := 64, len := 8 }, for_ := .xlate 12, first := 0, last := 0 }, 12, ⟨12, 9, 0, 3, false, true⟩, ((({ (up.put .ep UCI_STS_UP 1) with ep := { (up.put .ep UCI_STS_UP 1).ep with reqs := [{ tag := 6, pkt := { op := opREAD, tag := 6, addr := 64, len := 8 }, for_ := .xlate 12, first := 0, last := 0 }] } } : State).onAg fun a => { a with accs := [] }).onAg fun a => { a with xlates := [⟨12, 9, 0, 3, false, true⟩] }), by first | decide +kernel | rfl, by first | decide +kernel | rfl, by first | decide +kernel | rfl, by first | decide +kernel | rfl, by first | decide +kernel | rfl, by first | decide +kernel | rfl, by first | decide +kernel | rfl, by first | decide +kernel | rfl, by first | decide +kernel | rfl, by first | decide +kernel | rfl⟩,
   ⟨sealPkt { op := opGATHER_ROW, tag := 6, addr := 64, aux := 2, len := 4, payload := [1, 2, 3, 4] }, { tag := 6, pkt := { op := opGATHER, tag := 6, addr := 64, len := 8 }, for_ := .acc 4, first := 0, last := 0 }, 4, { id := 4, queue := 3, ord := 1, index := 7, op := opGATHER, fab := 64, stage := 4, len := 8 }, { queue := 3, index := 7, desc := [6, 0, 4096], stage := 1 }, (({ { ((((up.put .ep UCI_STS_UP 1).put .ep QUE_Q_STS_STATE 1 4).put .ep QUE_Q_CFG_CTX 5 4).wr .ep CTX_ENTRY 5 6) with ep := { ((((up.put .ep UCI_STS_UP 1).put .ep QUE_Q_STS_STATE 1 4).put .ep QUE_Q_CFG_CTX 5 4).wr .ep CTX_ENTRY 5 6).ep with cmds := [{ queue := 3, index := 7, desc := [6, 0, 4096], stage := 1 }] } } with ep := { { ((((up.put .ep UCI_STS_UP 1).put .ep QUE_Q_STS_STATE 1 4).put .ep QUE_Q_CFG_CTX 5 4).wr .ep CTX_ENTRY 5 6) with ep := { ((((up.put .ep UCI_STS_UP 1).put .ep QUE_Q_STS_STATE 1 4).put .ep QUE_Q_CFG_CTX 5 4).wr .ep CTX_ENTRY 5 6).ep with cmds := [{ queue := 3, index := 7, desc := [6, 0, 4096], stage := 1 }] } }.ep with reqs := [{ tag := 6, pkt := { op := opGATHER, tag := 6, addr := 64, len := 8 }, for_ := .acc 4, first := 0, last := 0 }] } } : State).onAg fun a => { a with accs := [{ id := 4, queue := 3, ord := 1, index := 7, op := opGATHER, fab := 64, stage := 4, len := 8 }] }), by first | decide +kernel | rfl, by first | decide +kernel | rfl, by first | decide +kernel | rfl, by first | decide +kernel | rfl, by first | decide +kernel | rfl, by first | decide +kernel | rfl, by first | decide +kernel | rfl, by first | decide +kernel | rfl, by first | decide +kernel | rfl, by first | decide +kernel | rfl⟩,
   ⟨6, { tag := 6, pkt := { op := opREAD, tag := 6, addr := 64, len := 8 }, for_ := .acc 4, first := 0, last := 0 }, ((({ (up.put .ep UCI_STS_UP 1) with ep := { (up.put .ep UCI_STS_UP 1).ep with reqs := [{ tag := 6, pkt := { op := opREAD, tag := 6, addr := 64, len := 8 }, for_ := .acc 4, first := 0, last := 0 }] } } : State).onAg fun a => { a with accs := [] }).onChip .ep fun c => { c with ltc := BitVec.ofNat 64 (up.get .ep EPC_REQ_TMO_TICKS / 2) }), by first | decide +kernel | rfl, by first | decide +kernel | rfl, by first | decide +kernel | rfl, by first | decide +kernel | rfl, by first | decide +kernel | rfl, by first | decide +kernel | rfl, by first | decide +kernel | rfl⟩,
   ⟨6, { tag := 6, pkt := { op := opREAD, tag := 6, addr := 64, len := 8 }, for_ := .acc 4, first := 0, last := 0 }, ((({ (up.put .ep UCI_STS_UP 1) with ep := { (up.put .ep UCI_STS_UP 1).ep with reqs := [{ tag := 6, pkt := { op := opREAD, tag := 6, addr := 64, len := 8 }, for_ := .acc 4, first := 0, last := 0 }] } } : State).onAg fun a => { a with accs := [{ id := 4, queue := 3, ord := 1, mem := some 2, op := opREAD, fab := 64, stage := 4, len := 8 }] }).onChip .ep fun c => { c with ltc := 4000000000 }), by first | decide +kernel | rfl, by first | decide +kernel | rfl, by first | decide +kernel | rfl⟩,
   ⟨6, 0, ((up.onAg fun a => { a with held := [(6, 0)] }).onChip .ep fun c => { c with ltc := 4000000000 }), by first | decide +kernel | rfl, by first | decide +kernel | rfl⟩,
   ⟨1, 9, (up.onAg fun a => { a with releases := [⟨1, 9, 40000, 0⟩, ⟨0, 9, 40001, 0⟩] }), by first | decide +kernel | rfl⟩,
   ⟨5, 6, ⟨5, 6, 0, [], 0, 0⟩, { (up.onChip .ep fun c => { c with ltc := 0x3FFFFFFFFFF }) with ep := { up.ep with ddp := [⟨5, 6, 0, [], 0, 0⟩] } }, by first | decide +kernel | rfl, by first | decide +kernel | rfl⟩,
   ⟨sealPkt { op := opSNP_INV, tag := 6, addr := 0x4000000000000080 }, ⟨true, true, [1]⟩, ((up.put .ep UCI_STS_UP 1).onAg fun a => { a with copies := [(0x80000000000001, ⟨true, true, [1]⟩)] }), by first | decide +kernel | rfl, by first | decide +kernel | rfl, by first | decide +kernel | rfl, by first | decide +kernel | rfl, by first | decide +kernel | rfl⟩,
   ⟨sealPkt { op := opINVAL, payload := leBytes 8 (2 ^ 32 + 2 ^ 33) }, (up.onAg fun a => { a with atc := [(3, 1)] }), by first | decide +kernel | rfl, by first | decide +kernel | rfl⟩,
   ⟨({}, 0, [4]), (up.onAg fun a => { a with invals := [({}, 0, [4])] }), by first | decide +kernel | rfl⟩⟩

/-- Something meets the conditions of each clause of `WindowRowsComplete`. -/
theorem witness_WindowRowsComplete :
    (∃ (k : Packet) (addr : Nat) (s : State), (k.mark = false) ∧ (s.uciUp = true) ∧ (crcOk k = true) ∧ (k.op = opREAD) ∧ (s.winRefusal k = none) ∧ (s.winLocal (getBits k.addr 36 9) (getBits k.addr 0 36) = some addr)) ∧
    (∃ (path : Path) (v : Word) (s : State), (s.writeOpen path .ep pgWin 0x48 = true) ∧ (s.flag .ep WIN_WIN_CTL_VALID (s.winSel + 1) = false) ∧ ((s.rd .ep CTX_PTN_MASK).getLsbD (getBits v 5 6) = true)) ∧
    (∃ (path : Path) (v : Word) (s : State), (s.writeOpen path .ep pgWin 0x48 = true) ∧ (s.flag .ep WIN_WIN_CTL_VALID (s.winSel + 1) = true)) ∧
    (∃ (path : Path) (v : Word) (s : State), (s.writeOpen path .ep pgWin 0x88 = true) ∧ (s.epc.regs.all (fun x => !(x.1 % 2 ^ 24 == WIN_GNT_ENTRY.page * 4096 + WIN_GNT_ENTRY.off && getBits x.2 0 1 == 1) || x.1 == WIN_GNT_ENTRY.key (s.get .ep WIN_GNT_SEL_ENTRY + 1) 0 || getBits x.2 4 19 != getBits v 4 19) = true)) ∧
    (∃ (path : Path) (v : Word) (s : State), (s.writeOpen path .ep pgWin 0xA0 = true) ∧ (s.winInvBusy = false)) ∧
    (∃ (path : Path) (n : Nat) (v : Word) (s : State), (n < 64) ∧ (s.writeOpen path .ep pgApt (apOff n 0) = true) ∧ (s.flag .ep (apF APT_AP_CTL_VALID n) = false) ∧ (s.apRefused n (v.getLsbD 1) = false)) ∧
    (∃ (path : Path) (n : Nat) (v : Word) (s : State), (n < 64) ∧ (s.writeOpen path .ep pgApt (apOff n 0) = true) ∧ (s.flag .ep (apF APT_AP_CTL_VALID n) = true)) ∧
    (∃ (path : Path) (s : State), (s.writeOpen path .ep pgApt 0x40 = true)) ∧
    (∃ (path : Path) (v : Word) (s : State), (s.writeOpen path .ep pgAcn 0x40 = true) ∧ (v.getLsbD 0 = true) ∧ (s.flag .ep ACN_ACN_CTL_ENABLE = false)) ∧
    (∃ (s : State), (s.get .ep ACN_ACN_EPOCH_LENGTH ≠ 0) ∧ (s.flag .ep ACN_ACN_CTL_ENABLE = true) ∧ (s.due .ep s.ep.ag.epochAt (s.get .ep ACN_ACN_EPOCH_LENGTH) = true)) ∧
    (∃ (path : Path) (r : Nat) (v : Word) (s : State), (r < 16) ∧ (s.writeOpen path .ep pgAcn (apOff r 0) = true) ∧ (s.rngRefused r (getBits v 1 1) = false)) ∧
    (∃ (path : Path) (v : Nat) (s : State), (s.writeOpen path .ep pgEpc 0x40 = true) ∧ (s.split = true) ∧ ((s.portList .ep).all (fun n => s.stage .ep n == 0) = true)) :=
  ⟨⟨sealPkt { op := opREAD, src := 5, tag := 6, len := 8, addr := 0x0000001000000000 }, 0, ((up.put .ep UCI_STS_UP 1).wr .ep WIN_WIN_CTL 5 2), by first | decide +kernel | rfl, by first | decide +kernel | rfl, by first | decide +kernel | rfl, by first | decide +kernel | rfl, by first | decide +kernel | rfl, by first | decide +kernel | rfl⟩,
   ⟨.csr, 0x3D, up.wr .ep CTX_PTN_MASK 2, by first | decide +kernel | rfl, by first | decide +kernel | rfl, by first | decide +kernel | rfl⟩,
   ⟨.csr, 0, (up.put .ep WIN_WIN_CTL_VALID 1 1).onAg fun a => { a with wcache := [(3, 1)] }, by first | decide +kernel | rfl, by first | decide +kernel | rfl⟩,
   ⟨.csr, 0x12F, up.wr .ep WIN_GNT_ENTRY 0x11F 9, by first | decide +kernel | rfl, by first | decide +kernel | rfl⟩,
   ⟨.csr, 0x4000000000000000, up.onAg fun a => { a with wcache := [(3, 1)] }, by first | decide +kernel | rfl, by first | decide +kernel | rfl⟩,
   ⟨.csr, 63, 0x14C, up, by first | decide +kernel | rfl, by first | decide +kernel | rfl, by first | decide +kernel | rfl, by first | decide +kernel | rfl⟩,
   ⟨.csr, 63, 0, up.put .ep (apF APT_AP_CTL_VALID 63) 1, by first | decide +kernel | rfl, by first | decide +kernel | rfl, by first | decide +kernel | rfl⟩,
   ⟨.csr, up.onAg fun a => { a with atc := [(3, 1)], flush := [4] }, by first | decide +kernel | rfl⟩,
   ⟨.csr, 7, (up.put .ep ACN_ACN_EPOCH_NUM_NUM 4).onAg fun a => { a with counts := [(1, 5)] }, by first | decide +kernel | rfl, by first | decide +kernel | rfl, by first | decide +kernel | rfl⟩,
   ⟨(up.put .ep ACN_ACN_CTL_ENABLE 1).onChip .ep fun c => { c with ltc := 0x3FFFFFFFFFF }, by first | decide +kernel | rfl, by first | decide +kernel | rfl, by first | decide +kernel | rfl⟩,
   ⟨.csr, 15, 0x14C, up, by first | decide +kernel | rfl, by first | decide +kernel | rfl, by first | decide +kernel | rfl⟩,
   ⟨.csr, 70000, up.put .ep EPC_ID_LINK_MODE 1, by first | decide +kernel | rfl, by first | decide +kernel | rfl, by first | decide +kernel | rfl⟩⟩

/-- Something meets the conditions of each clause of `SyncRowsComplete`. -/
theorem witness_SyncRowsComplete :
    (∃ (queue : Nat) (k : Packet) (s : State), (k.mark = false) ∧ (crcOk k = true) ∧ (s.synOwned .sw (synIx k) k.ptn = true) ∧ (s.recordsOpen .sw k = true) ∧ (s.flag .sw SYN_CFG_HERD_BOUND (synBank (synIx k)) = false) ∧ (s.synError .sw (synIx k) = false)) ∧
    (∃ (queue : Nat) (k : Packet) (s : State), (k.mark = false) ∧ (crcOk k = true) ∧ (s.synOwned .sw (synIx k) k.ptn = true) ∧ (s.recordsOpen .sw k = true) ∧ (s.flag .sw SYN_CFG_HERD_BOUND (synBank (synIx k)) = false) ∧ (s.synError .sw (synIx k) = false)) ∧
    (∃ (queue : Nat) (k : Packet) (s : State), (k.mark = false) ∧ (crcOk k = true) ∧ (s.synOwned .sw (synIx k) k.ptn = true) ∧ (s.recordsOpen .sw k = true) ∧ (s.flag .sw SYN_CFG_HERD_BOUND (synBank (synIx k)) = false)) ∧
    (∃ (queue : Nat) (k : Packet) (s : State), (k.mark = false) ∧ (crcOk k = true) ∧ (s.synOwned .ep (synIx k) k.ptn = true) ∧ (s.recordsOpen .ep k = true) ∧ (s.synError .ep (synIx k) = false)) ∧
    (∃ (queue : Nat) (k : Packet) (s : State), (k.mark = false) ∧ (crcOk k = true) ∧ (s.synOwned .ep (synIx k) k.ptn = true) ∧ (s.recordsOpen .ep k = true) ∧ (s.synError .ep (synIx k) = false)) ∧
    (∃ (queue : Nat) (k : Packet) (s : State), (k.mark = false) ∧ (crcOk k = true) ∧ (s.synOwned .ep (synIx k) k.ptn = true) ∧ (s.recordsOpen .ep k = true)) ∧
    (∃ (p : Part) (queue : Nat) (k : Packet) (s : State), (k.mark = false) ∧ (crcOk k = true) ∧ (s.synOwned p (synIx k) k.ptn = true) ∧ (s.synError p (synIx k) = false)) ∧
    (∃ (p : Part) (queue : Nat) (k : Packet) (s : State), (k.mark = false) ∧ (crcOk k = true) ∧ (s.synOwned p (synIx k) k.ptn = true) ∧ (s.synError p (synIx k) = false) ∧ (reached (s.synValue p (synIx k)) (BitVec.ofNat 64 (natAt k.payload 0 8)) = false) ∧ (s.remoteWaits p < (if p = .sw then 4096 else 1024))) ∧
    (∃ (p : Part) (src : Nat) (tag : Nat) (w : SyncWait) (k : Packet) (s : State), (w ∈ (s.chip p).sync.waits) ∧ (w.who = .remote k) ∧ (k.src = src) ∧ (k.tag = tag) ∧ (s.due p w.at_ (s.holdTmo p) = true)) ∧
    (∃ (path : Path) (s : State), (path = .host ∨ (path = .sideband ∧ s.mainServes = true))) ∧
    (∃ (path : Path) (v : Word) (s : State), (s.writeOpen path .sw pgSyn 0x60 = true) ∧ (s.flag .sw SYN_CFG_ENABLE (synBank (s.synSel .sw)) = true) ∧ (s.synError .sw (s.synSel .sw) = false) ∧ (s.sw.pool.adds = []) ∧ (s.hostBefore s.sw.pool.nextId = false)) ∧
    (∃ (path : Path) (v : Word) (s : State), (s.writeOpen path .sw pgSyn 0x60 = true) ∧ (s.flag .sw SYN_CFG_ENABLE (synBank (s.synSel .sw)) = true) ∧ (s.synError .sw (s.synSel .sw) = false) ∧ (s.sw.pool.adds = []) ∧ (s.hostBefore s.sw.pool.nextId = true)) ∧
    (∃ (path : Path) (p : Part) (s : State), (s.writeOpen path p pgSyn 0x68 = true)) :=
  ⟨⟨0, sealPkt { op := opSYNC_ADD, tc := 4, ptn := 2, src := 1, addr := targetForm 1 0x4000 6, payload := leBytes 8 5, scope := 3 }, (up.wr .sw SYN_CFG 5 7).wr .sw SYN_VALUE 7 7, by first | decide +kernel | rfl, by first | decide +kernel | rfl, by first | decide +kernel | rfl, by first | decide +kernel | rfl, by first | decide +kernel | rfl, by first | decide +kernel | rfl⟩,
   ⟨0, sealPkt { op := opSYNC_SET, tc := 4, ptn := 2, src := 1, addr := targetForm 1 0x4000 6, payload := leBytes 8 5, scope := 3 }, (up.wr .sw SYN_CFG 5 7), by first | decide +kernel | rfl, by first | decide +kernel | rfl, by first | decide +kernel | rfl, by first | decide +kernel | rfl, by first | decide +kernel | rfl, by first | decide +kernel | rfl⟩,
   ⟨0, sealPkt { op := opSYNC_SET, tc := 4, ptn := 2, src := 1, addr := targetForm 1 0x4000 6, payload := leBytes 8 5, scope := 3 }, (up.wr .sw SYN_CFG 5 7).put .sw SYN_STS_ERROR 1 7, by first | decide +kernel | rfl, by first | decide +kernel | rfl, by first | decide +kernel | rfl, by first | decide +kernel | rfl, by first | decide +kernel | rfl⟩,
   ⟨0, sealPkt { op := opSYNC_ADD, tc := 4, ptn := 2, src := 1, addr := targetForm 1 0x4000 6, payload := leBytes 8 5, scope := 3 }, (up.wr .ep SYN_CFG 5 7).wr .ep SYN_VALUE 7 7, by first | decide +kernel | rfl, by first | decide +kernel | rfl, by first | decide +kernel | rfl, by first | decide +kernel | rfl, by first | decide +kernel | rfl⟩,
   ⟨0, sealPkt { op := opSYNC_SET, tc := 4, ptn := 2, src := 1, addr := targetForm 1 0x4000 6, payload := leBytes 8 5, scope := 3 }, (up.wr .ep SYN_CFG 5 7), by first | decide +kernel | rfl, by first | decide +kernel | rfl, by first | decide +kernel | rfl, by first | decide +kernel | rfl, by first | decide +kernel | rfl⟩,
   ⟨0, sealPkt { op := opSYNC_SET, tc := 4, ptn := 2, src := 1, addr := targetForm 1 0x4000 6, payload := leBytes 8 5, scope := 3 }, (up.wr .ep SYN_CFG 5 7).put .ep SYN_STS_ERROR 1 7, by first | decide +kernel | rfl, by first | decide +kernel | rfl, by first | decide +kernel | rfl, by first | decide +kernel | rfl⟩,
   ⟨.sw, 0, sealPkt { op := opSYNC_READ, tc := 4, ptn := 2, src := 1, addr := targetForm 1 0x4000 6, payload := leBytes 8 5, scope := 3 }, (up.wr .sw SYN_CFG 5 7), by first | decide +kernel | rfl, by first | decide +kernel | rfl, by first | decide +kernel | rfl, by first | decide +kernel | rfl⟩,
   ⟨.sw, 0, sealPkt { op := opSYNC_WAIT, tc := 4, ptn := 2, src := 1, addr := targetForm 1 0x4000 6, payload := leBytes 8 5, scope := 3 }, (up.wr .sw SYN_CFG 5 7), by first | decide +kernel | rfl, by first | decide +kernel | rfl, by first | decide +kernel | rfl, by first | decide +kernel | rfl, by first | decide +kernel | rfl, by first | decide +kernel | rfl⟩,
   ⟨.sw, 1, 9, ⟨6, 0, 5, .remote { src := 1, tag := 9 }, 0⟩, { src := 1, tag := 9 }, (up.onSync .sw fun y => { y with waits := [⟨6, 0, 5, .remote { src := 1, tag := 9 }, 0⟩] }).onChip .sw fun c => { c with ltc := 4000000000 }, by first | decide +kernel | rfl, by first | decide +kernel | rfl, by first | decide +kernel | rfl, by first | decide +kernel | rfl, by first | decide +kernel | rfl⟩,
   ⟨.host, (up.wr .sw SYN_VALUE 7 7).put .sw SYN_SEL_INDEX 6, by first | decide +kernel | rfl⟩,
   ⟨.host, 3, (((up.wr .sw SYN_CFG 5 7)).wr .sw SYN_VALUE 7 7).put .sw SYN_SEL_INDEX 6, by first | decide +kernel | rfl, by first | decide +kernel | rfl, by first | decide +kernel | rfl, by first | decide +kernel | rfl, by first | decide +kernel | rfl⟩,
   ⟨.host, 3, ((((up.wr .sw SYN_CFG 5 7)).wr .sw SYN_VALUE 7 7).put .sw SYN_SEL_INDEX 6).onPool fun q => { q with nextId := 3, queue := [{ id := 1, kind := .write, ptn := 2, off := 0, len := 64, members := [⟨ownPkt, .host 4 0, 0⟩] }] }, by first | decide +kernel | rfl, by first | decide +kernel | rfl, by first | decide +kernel | rfl, by first | decide +kernel | rfl, by first | decide +kernel | rfl⟩,
   ⟨.csr, .ep, up.put .ep SYN_STS_ERROR 1 1, by first | decide +kernel | rfl⟩⟩

/-- Something meets the conditions of each clause of `PoolRequestRowsComplete`. -/
theorem witness_PoolRequestRowsComplete :
    (∃ (k : Packet) (media : List (Nat × Bool)) (p : Nat) (off : Nat) (s : State), (s.poolOpen k p off k.len = true) ∧ (k.op = opREAD) ∧ (s.goesAlone .read p off k.len k = true)) ∧
    (∃ (k : Packet) (media : List (Nat × Bool)) (p : Nat) (off : Nat) (s : State), (s.poolOpen k p off k.len = true) ∧ (k.op = opREAD) ∧ (combines k off k.len = true) ∧ ((s.sw.pool.queue.find? fun r => s.takes r .read p (off / 128 * 128) 128 opREAD) = none) ∧ (s.opens k = true) ∧ (s.combOpen < 8192)) ∧
    (∃ (k : Packet) (media : List (Nat × Bool)) (p : Nat) (off : Nat) (r : PReq) (s : State), (s.poolOpen k p off k.len = true) ∧ (k.op = opREAD) ∧ (combines k off k.len = true) ∧ ((s.sw.pool.queue.find? fun r => s.takes r .read p (off / 128 * 128) 128 opREAD) = some r)) ∧
    (∃ (k : Packet) (media : List (Nat × Bool)) (p : Nat) (off : Nat) (s : State), (s.poolOpen k p off k.len = true) ∧ (k.op = opWRITE) ∧ (s.sealedRange p off k.len = false) ∧ ((k.vol = true → s.recordsOpen .sw k = true))) ∧
    (∃ (k : Packet) (media : List (Nat × Bool)) (p : Nat) (off : Nat) (n : Nat) (s : State), (s.poolOpen k p off n = true) ∧ (isAtomic k.op = true) ∧ (atomicSize k.op k.len = some n) ∧ (0 < n) ∧ (off % n = 0) ∧ (s.sealedRange p off n = false) ∧ (s.recordsOpen .sw k = true) ∧ (s.goesAlone .atomic p off n k = true)) ∧
    (∃ (k : Packet) (p : Nat) (off : Nat) (s : State), (s.poolOpen k p off 128 = true) ∧ (k.op = opREAD_SHARED)) ∧
    (∃ (k : Packet) (p : Nat) (off : Nat) (s : State), (s.poolOpen k p off 128 = true) ∧ (k.op = opREAD_OWN) ∧ (s.sealedRange p (off / 128 * 128) 128 = false)) ∧
    (∃ (k : Packet) (p : Nat) (off : Nat) (s : State), (s.poolOpen k p off 128 = true) ∧ (k.op = opUPGRADE) ∧ (s.sealedRange p (off / 128 * 128) 128 = false)) ∧
    (∃ (k : Packet) (p : Nat) (off : Nat) (tb : Table) (l : Nat) (ls : List Nat) (s : State), (s.poolReach k p off = true) ∧ (s.poolCheck k.ctx k.ptn p off 0 = stOK) ∧ (s.powerHeld = false) ∧ (s.tableAt p off = some tb) ∧ (k.op = opGATHER) ∧ (tb.gather = true) ∧ (1 ≤ k.aux) ∧ (k.aux ≤ 1024) ∧ (4 * k.aux ≤ k.len) ∧ (gatherLines tb ((upTo k.aux).map fun i => natAt k.payload (4 * i) 4) = l :: ls)) ∧
    (∃ (k : Packet) (p : Nat) (off : Nat) (n : Nat) (tb : Table) (s : State), (s.poolReach k p off = true) ∧ (s.poolCheck k.ctx k.ptn p off 0 = stOK) ∧ (s.powerHeld = false) ∧ (s.tableAt p off = some tb) ∧ (k.op = opSCATTER_ADD) ∧ (tb.scatter = true) ∧ (scatterRows k.len tb.rowBytes = some n) ∧ (s.recordsOpen .sw k = true) ∧ ((upTo n).all (fun i => natAt k.payload (4 * i) 4 < tb.rows) = true) ∧ (0 < n)) :=
  ⟨⟨sealPkt { op := opREAD, src := 1, tag := 9, ctx := 5, ptn := 2, addr := poolAddr 0x4000 2 384, len := 8 }, [], 2, 384, ((((up.put .sw POL_PTN_STS_STATE 1 3).wr .sw CTX_ENTRY 5 6).wr .sw PTN_ENTRY 1 3).put .sw PTN_ENTRY_SIZE_M1 0 3).put .sw CMB_CFG_WINDOW 0, by first | decide +kernel | rfl, by first | decide +kernel | rfl, by first | decide +kernel | rfl⟩,
   ⟨sealPkt { op := opREAD, src := 1, tag := 9, ctx := 5, ptn := 2, addr := poolAddr 0x4000 2 384, len := 8 }, [], 2, 384, ((((((up.put .sw POL_PTN_STS_STATE 1 3).wr .sw CTX_ENTRY 5 6).wr .sw PTN_ENTRY 1 3).put .sw PTN_ENTRY_SIZE_M1 0 3).put .sw CMB_CFG_WINDOW 9).put .sw CMB_CFG_READ_EN 1), by first | decide +kernel | rfl, by first | decide +kernel | rfl, by first | decide +kernel | rfl, by first | decide +kernel | rfl, by first | decide +kernel | rfl, by first | decide +kernel | rfl⟩,
   ⟨sealPkt { op := opREAD, src := 1, tag := 9, ctx := 5, ptn := 2, addr := poolAddr 0x4000 2 384, len := 8 }, [], 2, 384, { id := 4, kind := .read, ptn := 2, off := 384, len := 128, comb := true, members := [], opened := 0, parked := true }, ((((((up.put .sw POL_PTN_STS_STATE 1 3).wr .sw CTX_ENTRY 5 6).wr .sw PTN_ENTRY 1 3).put .sw PTN_ENTRY_SIZE_M1 0 3).put .sw CMB_CFG_WINDOW 9).put .sw CMB_CFG_READ_EN 1).onPool fun q => { q with queue := [{ id := 4, kind := .read, ptn := 2, off := 384, len := 128, comb := true, members := [], opened := 0, parked := true }] }, by first | decide +kernel | rfl, by first | decide +kernel | rfl, by first | decide +kernel | rfl, by first | decide +kernel | rfl⟩,
   ⟨sealPkt { op := opWRITE, src := 1, tag := 9, ctx := 5, ptn := 2, addr := poolAddr 0x4000 2 384, len := 8, payload := [1, 2, 3, 4, 5, 6, 7, 8] }, [], 2, 384, ((((up.put .sw POL_PTN_STS_STATE 1 3).wr .sw CTX_ENTRY 5 6).wr .sw PTN_ENTRY 1 3).put .sw PTN_ENTRY_SIZE_M1 0 3).put .sw CMB_CFG_WINDOW 0, by first | decide +kernel | rfl, by first | decide +kernel | rfl, by first | decide +kernel | rfl, by first | decide +kernel | rfl⟩,
   ⟨sealPkt { op := opFETCH_XOR, src := 1, tag := 9, ctx := 5, ptn := 2, addr := poolAddr 0x4000 2 384, len := 8, payload := [1, 2, 3, 4, 5, 6, 7, 8] }, [], 2, 384, 8, ((((up.put .sw POL_PTN_STS_STATE 1 3).wr .sw CTX_ENTRY 5 6).wr .sw PTN_ENTRY 1 3).put .sw PTN_ENTRY_SIZE_M1 0 3).put .sw CMB_CFG_WINDOW 0, by first | decide +kernel | rfl, by first | decide +kernel | rfl, by first | decide +kernel | rfl, by first | decide +kernel | rfl, by first | decide +kernel | rfl, by first | decide +kernel | rfl, by first | decide +kernel | rfl, by first | decide +kernel | rfl⟩,
   ⟨sealPkt { op := opREAD_SHARED, src := 1, tag := 9, ctx := 5, ptn := 2, addr := poolAddr 0x4000 2 384, len := 128 }, 2, 384, ((((up.put .sw POL_PTN_STS_STATE 1 3).wr .sw CTX_ENTRY 5 6).wr .sw PTN_ENTRY 1 3).put .sw PTN_ENTRY_SIZE_M1 0 3).put .sw CMB_CFG_WINDOW 0, by first | decide +kernel | rfl, by first | decide +kernel | rfl⟩,
   ⟨sealPkt { op := opREAD_OWN, src := 1, tag := 9, ctx := 5, ptn := 2, addr := poolAddr 0x4000 2 384, len := 128 }, 2, 384, ((((up.put .sw POL_PTN_STS_STATE 1 3).wr .sw CTX_ENTRY 5 6).wr .sw PTN_ENTRY 1 3).put .sw PTN_ENTRY_SIZE_M1 0 3).put .sw CMB_CFG_WINDOW 0, by first | decide +kernel | rfl, by first | decide +kernel | rfl, by first | decide +kernel | rfl⟩,
   ⟨sealPkt { op := opUPGRADE, src := 1, tag := 9, ctx := 5, ptn := 2, addr := poolAddr 0x4000 2 384, len := 128 }, 2, 384, ((((up.put .sw POL_PTN_STS_STATE 1 3).wr .sw CTX_ENTRY 5 6).wr .sw PTN_ENTRY 1 3).put .sw PTN_ENTRY_SIZE_M1 0 3).put .sw CMB_CFG_WINDOW 0, by first | decide +kernel | rfl, by first | decide +kernel | rfl, by first | decide +kernel | rfl⟩,
   ⟨sealPkt { op := opGATHER, src := 1, tag := 9, ctx := 5, ptn := 2, addr := poolAddr 0x4000 2 0, len := 8, aux := 2, payload := leBytes 4 3 ++ leBytes 4 9 }, 2, 0, ⟨2, 0, 0, true, true, 1, 16⟩, 0, [1], (((((up.put .sw POL_PTN_STS_STATE 1 3).wr .sw CTX_ENTRY 5 6).wr .sw PTN_ENTRY 1 3).put .sw PTN_ENTRY_SIZE_M1 0 3).onSvc fun v => { v with tables := [(0, ⟨2, 0, 0, true, true, 1, 16⟩)] }), by first | decide +kernel | rfl, by first | decide +kernel | rfl, by first | decide +kernel | rfl, by first | decide +kernel | rfl, by first | decide +kernel | rfl, by first | decide +kernel | rfl, by first | decide +kernel | rfl, by first | decide +kernel | rfl, by first | decide +kernel | rfl, by first | decide +kernel | rfl⟩,
   ⟨sealPkt { op := opSCATTER_ADD, src := 1, tag := 9, ctx := 5, ptn := 2, addr := poolAddr 0x4000 2 0, len := 32, payload := leBytes 16 3 ++ leBytes 16 9 }, 2, 0, 1, ⟨2, 0, 0, true, true, 1, 16⟩, (((((up.put .sw POL_PTN_STS_STATE 1 3).wr .sw CTX_ENTRY 5 6).wr .sw PTN_ENTRY 1 3).put .sw PTN_ENTRY_SIZE_M1 0 3).onSvc fun v => { v with tables := [(0, ⟨2, 0, 0, true, true, 1, 16⟩)] }), by first | decide +kernel | rfl, by first | decide +kernel | rfl, by first | decide +kernel | rfl, by first | decide +kernel | rfl, by first | decide +kernel | rfl, by first | decide +kernel | rfl, by first | decide +kernel | rfl, by first | decide +kernel | rfl, by first | decide +kernel | rfl, by first | decide +kernel | rfl⟩⟩

/-- Something meets the conditions of each clause of `CoherenceRowsComplete`. -/
theorem witness_CoherenceRowsComplete :
    (∃ (k : Packet) (p : Nat) (off : Nat) (slot : Nat) (e : DirEntry) (s : State), (k.mark = false) ∧ (crcOk k = true) ∧ (placeOf k.addr = .pool s.switchId p off) ∧ (s.agentSlot k.src = some slot) ∧ (s.snoopsInTime slot = true) ∧ (s.returnCheck k.ctx k.ptn p (off / 128) (some slot) = stOK) ∧ (s.ownsLine (lineKey p (off / 128)) (some slot) = true) ∧ (s.dirAt (lineKey p (off / 128)) = some e) ∧ (e.recalling = none) ∧ (s.ptnBacked p = false)) ∧
    (∃ (k : Packet) (p : Nat) (off : Nat) (slot : Nat) (e : DirEntry) (s : State), (k.mark = false) ∧ (crcOk k = true) ∧ (placeOf k.addr = .pool s.switchId p off) ∧ (s.agentSlot k.src = some slot) ∧ (s.snoopsInTime slot = true) ∧ (s.returnCheck k.ctx k.ptn p (off / 128) (some slot) = stOK) ∧ (s.ownsLine (lineKey p (off / 128)) (some slot) = true) ∧ (s.dirAt (lineKey p (off / 128)) = some e) ∧ (e.recalling = none)) ∧
    (∃ (k : Packet) (sid : Nat) (p : Nat) (off : Nat) (slot : Nat) (e : DirEntry) (r : Recall) (s : State), (k.mark = false) ∧ (crcOk k = true) ∧ (k.op = opSNP_RSP) ∧ (k.aux % 4 = 1) ∧ (placeOf k.addr = .pool sid p off) ∧ (s.agentSlot k.src = some slot) ∧ (s.snoopsInTime slot = true) ∧ (s.dirAt (lineKey p (off / 128)) = some e) ∧ (e.recalling = some r) ∧ (r.inv = true) ∧ (r.wait.testBit slot = true) ∧ (r.unsent.testBit slot = false) ∧ (r.again.testBit slot = false)) ∧
    (∃ (slot : Nat) (s : State), (lookup s.sw.pool.recalls slot = none) ∧ (s.slotState slot = 1) ∧ (s.sw.pool.dir.any (fun e => e.2.recalling.any fun r => r.wait.testBit slot && !r.unsent.testBit slot && (lookup r.sent slot).any fun a => s.due .sw a (s.get .sw DIR_SNOOP_TMO_TICKS)) = true)) ∧
    (∃ (path : Path) (s : State), (s.writeOpen path .sw pgDir 0x50 = true) ∧ (s.slotState (s.get .sw DIR_AGT_SEL_SLOT) = 1)) ∧
    (∃ (path : Path) (s : State), (s.writeOpen path .sw pgDir 0x50 = true) ∧ (s.slotState (s.get .sw DIR_AGT_SEL_SLOT) = 3)) ∧
    (∃ (o : Origin) (v : Word) (s : State), (s.writeOpen o.path .sw pgDir 0xA0 = true) ∧ (s.controls o (getBits v 0 6) = true) ∧ (s.flag .sw DIR_OL_CLEAR_BUSY = false)) ∧
    (∃ (s : State), (s.flag .sw DIR_OL_CLEAR_BUSY = true)) ∧
    (∃ (path : Path) (s : State), (path = .host ∨ (path = .sideband ∧ s.mainServes = true))) ∧
    (∃ (dpa : Nat) (s : State), (s.cxlMem = true) ∧ (s.hostCheck (dpa / 64 * 64) = stOK) ∧ (s.hostSlot.all s.snoopsInTime = true) ∧ (s.ownsLine (lineKey (dpa / 64 * 64 / 2 ^ 40) ((dpa / 64 * 64 % 2 ^ 40) / 128)) s.hostSlot = true) ∧ (s.otherHalf (lineKey (dpa / 64 * 64 / 2 ^ 40) ((dpa / 64 * 64 % 2 ^ 40) / 128)) (dpa / 64 * 64 % 2 ^ 40) = 0) ∧ (((s.dirAt (lineKey (dpa / 64 * 64 / 2 ^ 40) ((dpa / 64 * 64 % 2 ^ 40) / 128))).bind (·.recalling)) = none)) :=
  ⟨⟨sealPkt { op := opWRITEBACK, src := 1, tag := 9, ctx := 5, ptn := 2, addr := poolAddr 0x4000 2 384, len := 128, payload := List.replicate 128 7 }, 2, 384, 3, { excl := true, sharers := 8, used := 0 }, (((((((up.put .sw POL_PTN_STS_STATE 1 3).wr .sw CTX_ENTRY 5 6).wr .sw PTN_ENTRY 1 3).put .sw PTN_ENTRY_SIZE_M1 0 3).wr .sw DIR_AGT_ENTRY 1 4).put .sw DIR_AGT_ENTRY_NODE 1 4).put .sw DIR_AGT_STS_STATE 1 4).onPool fun q => { q with dir := [(lineKey 2 3, { excl := true, sharers := 8, used := 0 })] }, by first | decide +kernel | rfl, by first | decide +kernel | rfl, by first | decide +kernel | rfl, by first | decide +kernel | rfl, by first | decide +kernel | rfl, by first | decide +kernel | rfl, by first | decide +kernel | rfl, by first | decide +kernel | rfl, by first | decide +kernel | rfl, by first | decide +kernel | rfl⟩,
   ⟨sealPkt { op := opCLEAN_EVICT, src := 1, tag := 9, ctx := 5, ptn := 2, addr := poolAddr 0x4000 2 384 }, 2, 384, 3, { excl := true, sharers := 8, used := 0 }, (((((((up.put .sw POL_PTN_STS_STATE 1 3).wr .sw CTX_ENTRY 5 6).wr .sw PTN_ENTRY 1 3).put .sw PTN_ENTRY_SIZE_M1 0 3).wr .sw DIR_AGT_ENTRY 1 4).put .sw DIR_AGT_ENTRY_NODE 1 4).put .sw DIR_AGT_STS_STATE 1 4).onPool fun q => { q with dir := [(lineKey 2 3, { excl := true, sharers := 8, used := 0 })] }, by first | decide +kernel | rfl, by first | decide +kernel | rfl, by first | decide +kernel | rfl, by first | decide +kernel | rfl, by first | decide +kernel | rfl, by first | decide +kernel | rfl, by first | decide +kernel | rfl, by first | decide +kernel | rfl, by first | decide +kernel | rfl⟩,
   ⟨sealPkt { op := opSNP_RSP, src := 1, tag := 9, ctx := 5, ptn := 2, addr := poolAddr 0x4000 2 384, aux := 1 }, 0x4000, 2, 384, 3, { excl := true, sharers := 8, used := 0, recalling := some { inv := true, wait := 8, sent := [(3, 0)] } }, { inv := true, wait := 8, sent := [(3, 0)] }, (((((((up.put .sw POL_PTN_STS_STATE 1 3).wr .sw CTX_ENTRY 5 6).wr .sw PTN_ENTRY 1 3).put .sw PTN_ENTRY_SIZE_M1 0 3).wr .sw DIR_AGT_ENTRY 1 4).put .sw DIR_AGT_ENTRY_NODE 1 4).put .sw DIR_AGT_STS_STATE 1 4).onPool fun q => { q with dir := [(lineKey 2 3, { excl := true, sharers := 8, used := 0, recalling := some { inv := true, wait := 8, sent := [(3, 0)] } })] }, by first | decide +kernel | rfl, by first | decide +kernel | rfl, by first | decide +kernel | rfl, by first | decide +kernel | rfl, by first | decide +kernel | rfl, by first | decide +kernel | rfl, by first | decide +kernel | rfl, by first | decide +kernel | rfl, by first | decide +kernel | rfl, by first | decide +kernel | rfl, by first | decide +kernel | rfl, by first | decide +kernel | rfl, by first | decide +kernel | rfl⟩,
   ⟨3, ((((((((up.put .sw POL_PTN_STS_STATE 1 3).wr .sw CTX_ENTRY 5 6).wr .sw PTN_ENTRY 1 3).put .sw PTN_ENTRY_SIZE_M1 0 3).wr .sw DIR_AGT_ENTRY 1 4).put .sw DIR_AGT_ENTRY_NODE 1 4).put .sw DIR_AGT_STS_STATE 1 4).onPool fun q => { q with dir := [(lineKey 2 3, { excl := true, sharers := 8, used := 0, recalling := some { inv := true, wait := 8, sent := [(3, 0)] } })] }).onChip .sw fun c => { c with ltc := 4000000000 }, by first | decide +kernel | rfl, by first | decide +kernel | rfl, by first | decide +kernel | rfl⟩,
   ⟨.host, (((((((up.put .sw POL_PTN_STS_STATE 1 3).wr .sw CTX_ENTRY 5 6).wr .sw PTN_ENTRY 1 3).put .sw PTN_ENTRY_SIZE_M1 0 3).wr .sw DIR_AGT_ENTRY 1 4).put .sw DIR_AGT_ENTRY_NODE 1 4).put .sw DIR_AGT_STS_STATE 1 4).put .sw DIR_AGT_SEL_SLOT 3, by first | decide +kernel | rfl, by first | decide +kernel | rfl⟩,
   ⟨.host, (up.put .sw DIR_AGT_SEL_SLOT 3).put .sw DIR_AGT_STS_STATE 3 4, by first | decide +kernel | rfl, by first | decide +kernel | rfl⟩,
   ⟨{ path := .host }, 0x1C2, up, by first | decide +kernel | rfl, by first | decide +kernel | rfl, by first | decide +kernel | rfl⟩,
   ⟨((up.put .sw DIR_OL_CLEAR_BUSY 1).put .sw DIR_OL_CLEAR_LINE 3).onPool fun q => { q with lost := [(3, 0), (lineKey 2 3, 0)] }, by first | decide +kernel | rfl⟩,
   ⟨.host, up.onPool fun q => { q with olLog := [⟨3, 1, 3, 9⟩, ⟨4, 1, 3, 9⟩] }, by first | decide +kernel | rfl⟩,
   ⟨2 * 2 ^ 40 + 384, ((((((((((((((((((up.put .sw POL_PTN_STS_STATE 1 3).wr .sw CTX_ENTRY 5 6).wr .sw PTN_ENTRY 1 3).put .sw PTN_ENTRY_SIZE_M1 0 3).put .sw CXU_STS_UP 1).put .sw CXU_STS_CXL_MODE 1).put .sw PTN_ENTRY_HOST_CTX 5 3).put .sw CTX_ENTRY_HOST 1 6).put .sw PTN_ENTRY_OWNER 0 3).put .sw PTN_ENTRY_CACHEABLE 1 3).put .sw CXU_STS_BI_EN 1).put .sw CXU_HDM_VIEW_COMMITTED 1 1).put .sw CXU_HDM_VIEW_DB 1 1).put .sw CXU_HDM_VIEW_PARTITION 2 1).put .sw CXU_HDM_VIEW_SLICES 1 1).put .sw DIR_AGT_STS_STATE 1 2).wr .sw DIR_AGT_ENTRY 3 2).onPool fun q => { q with dir := [(lineKey 2 3, { excl := true, sharers := 2, halves := 1, used := 0 })] }), by first | decide +kernel | rfl, by first | decide +kernel | rfl, by first | decide +kernel | rfl, by first | decide +kernel | rfl, by first | decide +kernel | rfl, by first | decide +kernel | rfl⟩⟩

/-- Something meets the conditions of each clause of `TierRowsComplete`. -/
theorem witness_TierRowsComplete :
    (∃ (path : Path) (s : State), (s.writeOpen path .sw pgPol 0x4C = true) ∧ (s.granState s.granSel = 1 ∨ s.granState s.granSel = 2)) ∧
    (∃ (p : Nat) (a : Nat) (d : Nat) (s : State), (lookup s.sw.pool.drains p = some (a, d)) ∧ (s.due .sw a d = true)) ∧
    (∃ (g : Nat) (s : State), (s.granState g = 3) ∧ (s.cpuUp 2 = true)) ∧
    (∃ (media : List (Nat × Bool)) (s : State), (s.get .sw POL_SCRUB_CTL_PATROL_HOURS ≠ 0) ∧ (s.cpuUp 2 = true)) ∧
    (∃ (n : Nat) (s : State), (n < 6)) ∧
    (∃ (id : Nat) (data : List Byte) (b : BulkOp) (hl : Nat) (s : State), (s.sw.pool.bulk.find? (fun b => b.id == id && !b.write) = some b) ∧ (s.bulkLate b = false) ∧ (b.slot = some hl) ∧ (s.ptnState b.ptn ≠ 0) ∧ (s.hbmLine b.ptn b.line = hl)) ∧
    (∃ (id : Nat) (b : BulkOp) (hl : Nat) (c : CacheSlot) (s : State), (s.sw.pool.bulk.find? (fun b => b.id == id && b.write) = some b) ∧ (s.bulkLate b = false) ∧ (b.slot = some hl) ∧ (lookup s.sw.pool.slots hl = some c) ∧ (c.ptn = b.ptn) ∧ (s.slotLine hl c = b.line) ∧ (s.hbmRead hl = b.data)) ∧
    (∃ (n : Nat) (s : State), (n < 2)) ∧
    (∃ (n : Nat) (serial : Nat) (bytes : Nat) (s : State), (n < 2) ∧ (s.bulkUp n = false) ∧ (s.flag .sw CXD_STS_FAULT_HELD 0 n = false) ∧ (lookup s.sw.pool.serials n = none ∨ lookup s.sw.pool.serials n = some serial)) ∧
    (∃ (id : Nat) (b : BulkOp) (s : State), (s.sw.pool.bulk.find? (fun b => b.id == id) = some b) ∧ (s.due .sw b.at_ (s.get .sw CXD_DEV_TMO_TICKS 0 b.port) = true) ∧ ((lookup s.sw.pool.devMiss b.port).getD 0 < 15)) ∧
    (∃ (k : Packet) (p : Nat) (off : Nat) (s : State), (k.mark = false) ∧ (crcOk k = true) ∧ (placeOf k.addr = .pool s.switchId p off) ∧ (s.poolCheck k.ctx k.ptn p off 0 = stOK) ∧ (off < s.ptnSize p) ∧ (s.flag .sw BLK_CFG_PREFETCH_EN = true) ∧ (s.ptnBacked p = true) ∧ (s.hitSlot p (off / 128) = none)) ∧
    (∃ (dpa : Nat) (slot : Nat) (e : DirEntry) (r : Recall) (s : State), (s.cxlMem = true) ∧ (s.hostSlot = some slot) ∧ (s.snoopsInTime slot = true) ∧ (s.sw.pool.spent.contains (lineKey (dpa / 2 ^ 40) (dpa % 2 ^ 40 / 128), slot) = false) ∧ (s.dirAt (lineKey (dpa / 2 ^ 40) (dpa % 2 ^ 40 / 128)) = some e) ∧ (e.recalling = some r) ∧ (r.inv = true) ∧ (r.wait.testBit slot = true) ∧ (r.unsent.testBit slot = false) ∧ (r.again.testBit slot = false)) ∧
    (∃ (dpa : Nat) (s : State), (s.cxlMem = true)) :=
  ⟨⟨.host, up.put .sw POL_GRAN_SEL_INDEX 7, by first | decide +kernel | rfl, by first | decide +kernel | rfl⟩,
   ⟨2, 0, 0, (((((up.put .sw POL_PTN_STS_STATE 1 3).wr .sw CTX_ENTRY 5 6).wr .sw PTN_ENTRY 1 3).put .sw PTN_ENTRY_SIZE_M1 0 3).put .sw POL_PTN_STS_STATE 2 3).onPool fun q => { q with drains := [(2, (0, 0))] }, by first | decide +kernel | rfl, by first | decide +kernel | rfl⟩,
   ⟨7, (up.put .sw POL_GRAN_STS_STATE 3 8).onPool fun q => { q with mem := [(7 * 2 ^ 28, 5), (8 * 2 ^ 28, 5)] }, by first | decide +kernel | rfl, by first | decide +kernel | rfl⟩,
   ⟨[(3, false)], up.put .sw POL_GRAN_STS_STATE 4 1, by first | decide +kernel | rfl, by first | decide +kernel | rfl⟩,
   ⟨5, ((((up.put .sw POL_PTN_STS_STATE 1 3).wr .sw CTX_ENTRY 5 6).wr .sw PTN_ENTRY 1 3).put .sw PTN_ENTRY_SIZE_M1 0 3), by first | decide +kernel | rfl⟩,
   ⟨4, List.replicate 128 9, ⟨4, 0, 2, 3, false, [], some 3, none, 0⟩, 3, ((((((((up.put .sw POL_PTN_STS_STATE 1 3).wr .sw CTX_ENTRY 5 6).wr .sw PTN_ENTRY 1 3).put .sw PTN_ENTRY_SIZE_M1 0 3).put .sw PTN_ENTRY_MODE 1 3).put .sw POL_MAP_ENTRY_GRANULE 0 (mapBank 2 1 0)).put .sw BLK_PORT_STS_UP0 1).put .sw BLK_PORT_STS_GRAN0 9).onPool fun q => { q with bulk := [⟨4, 0, 2, 3, false, [], some 3, none, 0⟩] }, by first | decide +kernel | rfl, by first | decide +kernel | rfl, by first | decide +kernel | rfl, by first | decide +kernel | rfl, by first | decide +kernel | rfl⟩,
   ⟨4, ⟨4, 0, 2, 3, true, List.replicate 128 0, some 3, none, 0⟩, 3, ⟨0, true, false, 2⟩, ((((((((up.put .sw POL_PTN_STS_STATE 1 3).wr .sw CTX_ENTRY 5 6).wr .sw PTN_ENTRY 1 3).put .sw PTN_ENTRY_SIZE_M1 0 3).put .sw PTN_ENTRY_MODE 1 3).put .sw POL_MAP_ENTRY_GRANULE 0 (mapBank 2 1 0)).put .sw BLK_PORT_STS_UP0 1).put .sw BLK_PORT_STS_GRAN0 9).onPool fun q => { q with bulk := [⟨4, 0, 2, 3, true, List.replicate 128 0, some 3, none, 0⟩], slots := [(3, ⟨0, true, false, 2⟩)] }, by first | decide +kernel | rfl, by first | decide +kernel | rfl, by first | decide +kernel | rfl, by first | decide +kernel | rfl, by first | decide +kernel | rfl, by first | decide +kernel | rfl, by first | decide +kernel | rfl⟩,
   ⟨0, ((((((((up.put .sw POL_PTN_STS_STATE 1 3).wr .sw CTX_ENTRY 5 6).wr .sw PTN_ENTRY 1 3).put .sw PTN_ENTRY_SIZE_M1 0 3).put .sw PTN_ENTRY_MODE 1 3).put .sw POL_MAP_ENTRY_GRANULE 0 (mapBank 2 1 0)).put .sw BLK_PORT_STS_UP0 1).put .sw BLK_PORT_STS_GRAN0 9), by first | decide +kernel | rfl⟩,
   ⟨1, 77, 0x40000000, ((((up.put .sw POL_PTN_STS_STATE 1 3).wr .sw CTX_ENTRY 5 6).wr .sw PTN_ENTRY 1 3).put .sw PTN_ENTRY_SIZE_M1 0 3), by first | decide +kernel | rfl, by first | decide +kernel | rfl, by first | decide +kernel | rfl, by first | decide +kernel | rfl⟩,
   ⟨4, ⟨4, 0, 2, 3, false, [], some 3, none, 0⟩, (((((((((up.put .sw POL_PTN_STS_STATE 1 3).wr .sw CTX_ENTRY 5 6).wr .sw PTN_ENTRY 1 3).put .sw PTN_ENTRY_SIZE_M1 0 3).put .sw PTN_ENTRY_MODE 1 3).put .sw POL_MAP_ENTRY_GRANULE 0 (mapBank 2 1 0)).put .sw BLK_PORT_STS_UP0 1).put .sw BLK_PORT_STS_GRAN0 9).onPool fun q => { q with bulk := [⟨4, 0, 2, 3, false, [], some 3, none, 0⟩] }).onChip .sw fun c => { c with ltc := 4000000000 }, by first | decide +kernel | rfl, by first | decide +kernel | rfl, by first | decide +kernel | rfl⟩,
   ⟨sealPkt { op := opPREFETCH, src := 1, tag := 9, ctx := 5, ptn := 2, addr := poolAddr 0x4000 2 384 }, 2, 384, ((((((((up.put .sw POL_PTN_STS_STATE 1 3).wr .sw CTX_ENTRY 5 6).wr .sw PTN_ENTRY 1 3).put .sw PTN_ENTRY_SIZE_M1 0 3).put .sw PTN_ENTRY_MODE 1 3).put .sw POL_MAP_ENTRY_GRANULE 0 (mapBank 2 1 0)).put .sw BLK_PORT_STS_UP0 1).put .sw BLK_PORT_STS_GRAN0 9).put .sw BLK_CFG_PREFETCH_EN 1, by first | decide +kernel | rfl, by first | decide +kernel | rfl, by first | decide +kernel | rfl, by first | decide +kernel | rfl, by first | decide +kernel | rfl, by first | decide +kernel | rfl, by first | decide +kernel | rfl, by first | decide +kernel | rfl⟩,
   ⟨2 * 2 ^ 40 + 384, 1, { excl := true, sharers := 2, halves := 1, used := 0, recalling := some { inv := true, wait := 2, sent := [(1, 0)] } }, { inv := true, wait := 2, sent := [(1, 0)] }, ((((((((((((((((((up.put .sw POL_PTN_STS_STATE 1 3).wr .sw CTX_ENTRY 5 6).wr .sw PTN_ENTRY 1 3).put .sw PTN_ENTRY_SIZE_M1 0 3).put .sw CXU_STS_UP 1).put .sw CXU_STS_CXL_MODE 1).put .sw PTN_ENTRY_HOST_CTX 5 3).put .sw CTX_ENTRY_HOST 1 6).put .sw PTN_ENTRY_OWNER 0 3).put .sw PTN_ENTRY_CACHEABLE 1 3).put .sw CXU_STS_BI_EN 1).put .sw CXU_HDM_VIEW_COMMITTED 1 1).put .sw CXU_HDM_VIEW_DB 1 1).put .sw CXU_HDM_VIEW_PARTITION 2 1).put .sw CXU_HDM_VIEW_SLICES 1 1).put .sw DIR_AGT_STS_STATE 1 2).wr .sw DIR_AGT_ENTRY 3 2).onPool fun q => { q with dir := [(lineKey 2 3, { excl := true, sharers := 2, halves := 1, used := 0, recalling := some { inv := true, wait := 2, sent := [(1, 0)] } })] }), by first | decide +kernel | rfl, by first | decide +kernel | rfl, by first | decide +kernel | rfl, by first | decide +kernel | rfl, by first | decide +kernel | rfl, by first | decide +kernel | rfl, by first | decide +kernel | rfl, by first | decide +kernel | rfl, by first | decide +kernel | rfl, by first | decide +kernel | rfl⟩,
   ⟨2 * 2 ^ 40 + 384, (((((((((up.put .sw POL_PTN_STS_STATE 1 3).wr .sw CTX_ENTRY 5 6).wr .sw PTN_ENTRY 1 3).put .sw PTN_ENTRY_SIZE_M1 0 3).put .sw CXU_STS_UP 1).put .sw CXU_STS_CXL_MODE 1).put .sw PTN_ENTRY_HOST_CTX 5 3).put .sw CTX_ENTRY_HOST 1 6).put .sw PTN_ENTRY_OWNER 0 3), by first | decide +kernel | rfl⟩⟩

/-- Something meets the conditions of each clause of `PoolAccessServed`. -/
theorem witness_PoolAccessServed :
    (∃ (k : Packet) (p : Nat) (off : Nat) (s : State), (s.poolOpen k p off k.len = true) ∧ (k.op = opREAD) ∧ (s.portUpTo k.src = true) ∧ (k.srcSw = false) ∧ (s.sw.pool.queue = []) ∧ (s.sw.pool.dir = []) ∧ (s.sw.pool.recalls = []) ∧ (s.sw.pool.lost = []) ∧ (s.sw.pool.decay = []) ∧ (s.ptnBacked p = false) ∧ (off / 128 = (off + k.len - 1) / 128) ∧ (0 < k.len)) ∧
    (∃ (k : Packet) (p : Nat) (off : Nat) (s : State), (s.poolOpen k p off k.len = true) ∧ (k.op = opWRITE) ∧ (k.vol = false) ∧ (s.sealedRange p off k.len = false) ∧ (k.payload.length = k.len) ∧ (s.sw.pool.queue = []) ∧ (s.sw.pool.dir = []) ∧ (s.sw.pool.recalls = []) ∧ (s.sw.pool.lost = []) ∧ (s.sw.pool.decay = []) ∧ (s.ptnBacked p = false) ∧ (off / 128 = (off + k.len - 1) / 128) ∧ (0 < k.len)) ∧
    (∃ (k : Packet) (p : Nat) (off : Nat) (n : Nat) (s : State), (s.poolOpen k p off n = true) ∧ (k.op = opFETCH_ADD) ∧ (atomicSize k.op k.len = some n) ∧ (off % n = 0) ∧ (s.sealedRange p off n = false) ∧ (s.recordsOpen .sw k = true) ∧ (s.portUpTo k.src = true) ∧ (k.srcSw = false) ∧ (s.sw.pool.queue = []) ∧ (s.sw.pool.dir = []) ∧ (s.sw.pool.recalls = []) ∧ (s.sw.pool.lost = []) ∧ (s.sw.pool.decay = []) ∧ (s.ptnBacked p = false) ∧ (off / 128 = (off + n - 1) / 128) ∧ (0 < n)) ∧
    (∃ (p : Nat) (line : Nat) (r : PReq) (s : State), (s.sw.pool.queue.find? (fun r => r.parked && bytesMeet r p (line * 128) 128) = some r) ∧ (s.blocked r = false)) ∧
    (∃ (id : Nat) (r : PReq) (s : State), (s.sw.pool.queue.find? (fun r => r.id == id) = some r) ∧ (r.members ≠ []) ∧ (r.members.all (fun m => m.asker == .fabric && s.due .sw m.at_ (s.get .sw CMB_REQ_TMO_TICKS)) = true)) ∧
    (∃ (src : Nat) (tag : Nat) (s : State), (s.sw.pool.outcomes.any (fun o => o.src == src && o.tag == tag && s.due .sw o.at_ (s.get .sw CMB_OUT_HOLD_TICKS)) = true)) ∧
    (∃ (p : Part) (k : Packet) (s : State), (k.mark = false) ∧ (crcOk k = true)) :=
  ⟨⟨sealPkt { op := opREAD, src := 1, tag := 9, ctx := 5, ptn := 2, addr := poolAddr 0x4000 2 384, len := 8 }, 2, 384, (((((up.put .sw POL_PTN_STS_STATE 1 3).wr .sw CTX_ENTRY 5 6).wr .sw PTN_ENTRY 1 3).put .sw PTN_ENTRY_SIZE_M1 0 3).put .sw RTE_PORT_STS_STATE 2 2).onPool fun q => { q with mem := [(384, 7)] }, by first | decide +kernel | rfl, by first | decide +kernel | rfl, by first | decide +kernel | rfl, by first | decide +kernel | rfl, by first | decide +kernel | rfl, by first | decide +kernel | rfl, by first | decide +kernel | rfl, by first | decide +kernel | rfl, by first | decide +kernel | rfl, by first | decide +kernel | rfl, by first | decide +kernel | rfl, by first | decide +kernel | rfl⟩,
   ⟨sealPkt { op := opWRITE, src := 1, tag := 9, ctx := 5, ptn := 2, addr := poolAddr 0x4000 2 384, len := 8, payload := [1, 2, 3, 4, 5, 6, 7, 8] }, 2, 384, ((((up.put .sw POL_PTN_STS_STATE 1 3).wr .sw CTX_ENTRY 5 6).wr .sw PTN_ENTRY 1 3).put .sw PTN_ENTRY_SIZE_M1 0 3), by first | decide +kernel | rfl, by first | decide +kernel | rfl, by first | decide +kernel | rfl, by first | decide +kernel | rfl, by first | decide +kernel | rfl, by first | decide +kernel | rfl, by first | decide +kernel | rfl, by first | decide +kernel | rfl, by first | decide +kernel | rfl, by first | decide +kernel | rfl, by first | decide +kernel | rfl, by first | decide +kernel | rfl, by first | decide +kernel | rfl⟩,
   ⟨sealPkt { op := opFETCH_ADD, src := 1, tag := 9, ctx := 5, ptn := 2, addr := poolAddr 0x4000 2 384, len := 8, payload := [255, 255, 255, 255, 255, 255, 255, 255] }, 2, 384, 8, (((((up.put .sw POL_PTN_STS_STATE 1 3).wr .sw CTX_ENTRY 5 6).wr .sw PTN_ENTRY 1 3).put .sw PTN_ENTRY_SIZE_M1 0 3).put .sw RTE_PORT_STS_STATE 2 2).onPool fun q => { q with mem := [(384, 7)] }, by first | decide +kernel | rfl, by first | decide +kernel | rfl, by first | decide +kernel | rfl, by first | decide +kernel | rfl, by first | decide +kernel | rfl, by first | decide +kernel | rfl, by first | decide +kernel | rfl, by first | decide +kernel | rfl, by first | decide +kernel | rfl, by first | decide +kernel | rfl, by first | decide +kernel | rfl, by first | decide +kernel | rfl, by first | decide +kernel | rfl, by first | decide +kernel | rfl, by first | decide +kernel | rfl, by first | decide +kernel | rfl⟩,
   ⟨2, 3, { id := 4, kind := .read, ptn := 2, off := 384, len := 128, comb := true, members := [], opened := 0, parked := true }, ((((up.put .sw POL_PTN_STS_STATE 1 3).wr .sw CTX_ENTRY 5 6).wr .sw PTN_ENTRY 1 3).put .sw PTN_ENTRY_SIZE_M1 0 3).onPool fun q => { q with queue := [{ id := 4, kind := .read, ptn := 2, off := 384, len := 128, comb := true, members := [], opened := 0, parked := true }] }, by first | decide +kernel | rfl, by first | decide +kernel | rfl⟩,
   ⟨4, { id := 4, kind := .read, ptn := 2, off := 384, len := 8, members := [⟨{ src := 1 }, .fabric, 0⟩] }, (((((up.put .sw POL_PTN_STS_STATE 1 3).wr .sw CTX_ENTRY 5 6).wr .sw PTN_ENTRY 1 3).put .sw PTN_ENTRY_SIZE_M1 0 3).onPool fun q => { q with queue := [{ id := 4, kind := .read, ptn := 2, off := 384, len := 8, members := [⟨{ src := 1 }, .fabric, 0⟩] }] }).onChip .sw fun c => { c with ltc := 4000000000 }, by first | decide +kernel | rfl, by first | decide +kernel | rfl, by first | decide +kernel | rfl⟩,
   ⟨5, 6, (up.onPool fun q => { q with outcomes := [⟨5, 6, 0, [], 0, 0⟩] }).onChip .sw fun c => { c with ltc := 0x3FFFFFFFFFF }, by first | decide +kernel | rfl⟩,
   ⟨.sw, sealPkt { op := opOUTCOME_RELEASE, src := 5, payload := leBytes 2 6 }, up.onPool fun q => { q with outcomes := [⟨5, 6, 0, [], 0, 0⟩] }, by first | decide +kernel | rfl, by first | decide +kernel | rfl⟩⟩

/-- Something meets the conditions of each clause of `RegisterRowsComplete`. -/
theorem witness_RegisterRowsComplete :
    (∃ (page : Nat) (off : Nat) (size : Nat) (x : Word) (l : RegPlace) (s : State), (s.writeOpen .csr .ep page off = true) ∧ (s.plainReg { path := .csr } .ep page off size l x = true)) ∧
    (∃ (page : Nat) (off : Nat) (size : Nat) (x : Word) (s : State), (sizeOk off size = true) ∧ (pageMapped .ep page = true)) ∧
    (∃ (page : Nat) (off : Nat) (size : Nat) (x : Word) (l : RegPlace) (s : State), (s.writeOpen .sideband .sw page off = true) ∧ (s.plainReg { path := .sideband } .sw page off size l x = true)) ∧
    (∃ (page : Nat) (off : Nat) (size : Nat) (x : Word) (s : State), (s.mainServes = true ∨ standbySubset page off = true) ∧ (sizeOk off size = true) ∧ (pageMapped .sw page = true)) ∧
    (∃ (o : Origin) (p : Part) (page : Nat) (off : Nat) (size : Nat) (x : Word) (l : RegPlace) (s : State), (s.writeOpen o.path p page off = true) ∧ (s.plainReg o p page off size l x = true)) ∧
    (∃ (p : Part) (k : Packet) (kind : Nat) (id : Nat) (mid : Nat) (off : Nat) (s : State), (k.mark = false) ∧ (crcOk k = true) ∧ (placeOf k.addr = .control kind id mid off) ∧ (ctlFormed kind id mid off k.len = true) ∧ (s.isTarget p kind id = true) ∧ ((p = .sw → s.orphaned k.ctx = false)) ∧ (s.ctlPriv p k.ctx = true)) ∧
    (∃ (p : Part) (k : Packet) (kind : Nat) (id : Nat) (mid : Nat) (off : Nat) (page : Nat) (x : Word) (l : RegPlace) (s : State), (k.mark = false) ∧ (crcOk k = true) ∧ (placeOf k.addr = .control kind id mid off) ∧ (ctlFormed kind id mid off k.len = true) ∧ (s.isTarget p kind id = true) ∧ ((p = .sw → s.orphaned k.ctx = false)) ∧ (s.ctlPriv p k.ctx = true) ∧ (page = off / 4096) ∧ (x = BitVec.ofNat 64 (natAt k.payload 0 k.len)) ∧ (s.writeOpen .remote p page (off % 4096) = true) ∧ (s.plainReg { path := .remote, node := k.src, ctx := k.ctx } p page (off % 4096) k.len l x = true)) ∧
    (∃ (path : Path) (p : Part) (page : Nat) (v : Nat) (s : State), (s.writeOpen path p page 0x08 = true) ∧ (pageCode p page = 0x60) ∧ (s.flag p HDR_PAGE_CTL_FENCE 0 page = false) ∧ (v % 2 = 1 ∨ s.get p QAD_STS_IN_USE 0 (pageInst p page) = 0)) ∧
    (∃ (path : Path) (p : Part) (page : Nat) (v : Nat) (s : State), (s.writeOpen path p page 0x08 = true) ∧ (pageCode p page = 0x61) ∧ (s.flag p HDR_PAGE_CTL_FENCE 0 page = false) ∧ (v % 2 = 1) ∧ (s.stage p (pageInst p page) ≠ 0)) :=
  ⟨⟨0x22, 0x40, 4, 0x5000, (placeAt .ep 0x22 0x40).getD ⟨⟨DDP_CFG, 1, false, .both, []⟩, 0, 0, 0, 0⟩, up, by first | decide +kernel | rfl, by first | decide +kernel | rfl⟩,
   ⟨0, 0x40, 4, 0, up, by first | decide +kernel | rfl, by first | decide +kernel | rfl⟩,
   ⟨0x13, 0x40, 4, 0x5000, (placeAt .sw 0x13 0x40).getD ⟨⟨CMB_CFG, 1, false, .both, []⟩, 0, 0, 0, 0⟩, up, by first | decide +kernel | rfl, by first | decide +kernel | rfl⟩,
   ⟨0, 0x40, 4, 0, up, by first | decide +kernel | rfl, by first | decide +kernel | rfl, by first | decide +kernel | rfl⟩,
   ⟨{ path := .host }, .sw, 0x13, 0x40, 4, 0x5000, (placeAt .sw 0x13 0x40).getD ⟨⟨CMB_CFG, 1, false, .both, []⟩, 0, 0, 0, 0⟩, up, by first | decide +kernel | rfl, by first | decide +kernel | rfl⟩,
   ⟨.sw, sealPkt { op := opCTL_READ, tc := 4, src := 1, ctx := 5, len := 4, addr := targetForm 1 0x4000 0x13040 }, 1, 0x4000, 0, 0x13040, (up.wr .sw CTX_ENTRY 0x81 6), by first | decide +kernel | rfl, by first | decide +kernel | rfl, by first | decide +kernel | rfl, by first | decide +kernel | rfl, by first | decide +kernel | rfl, by first | decide +kernel | rfl, by first | decide +kernel | rfl⟩,
   ⟨.sw, sealPkt { op := opCTL_WRITE, tc := 4, src := 1, ctx := 5, len := 4, addr := targetForm 1 0x4000 0x13040, payload := leBytes 4 0x5000 }, 1, 0x4000, 0, 0x13040, 0x13, 0x5000, (placeAt .sw 0x13 0x40).getD ⟨⟨CMB_CFG, 1, false, .both, []⟩, 0, 0, 0, 0⟩, (up.wr .sw CTX_ENTRY 0x81 6), by first | decide +kernel | rfl, by first | decide +kernel | rfl, by first | decide +kernel | rfl, by first | decide +kernel | rfl, by first | decide +kernel | rfl, by first | decide +kernel | rfl, by first | decide +kernel | rfl, by first | decide +kernel | rfl, by first | decide +kernel | rfl, by first | decide +kernel | rfl, by first | decide +kernel | rfl⟩,
   ⟨.csr, .ep, 0x103, 1, up, by first | decide +kernel | rfl, by first | decide +kernel | rfl, by first | decide +kernel | rfl, by first | decide +kernel | rfl⟩,
   ⟨.csr, .ep, 0x203, 1, up.put .ep FPT_STS_STAGE 5 0 3, by first | decide +kernel | rfl, by first | decide +kernel | rfl, by first | decide +kernel | rfl, by first | decide +kernel | rfl, by first | decide +kernel | rfl⟩⟩

/-- Something meets the conditions of each clause of `CoreRowsComplete`. -/
theorem witness_CoreRowsComplete :
    (∃ (c : Nat) (selfCheck : Bool) (work : Option (Nat × Nat)) (s : State), (s.coreActive c = true) ∧ (work = none)) ∧
    (∃ (path : Path) (c : Nat) (s : State), (c < 64) ∧ (s.writeOpen path .sw (pgRdc + c) 0x48 = true) ∧ (s.coreState c = 0)) ∧
    (∃ (path : Path) (c : Nat) (s : State), (c < 64) ∧ (s.writeOpen path .sw (pgRdc + c) 0x48 = true) ∧ (s.coreState c = 1) ∧ (s.flag .sw RDC_SELFTEST_STS_PASS 0 c = true) ∧ (s.flag .sw RDC_SELFTEST_STS_BUSY 0 c = false)) ∧
    (∃ (path : Path) (c : Nat) (s : State), (c < 64) ∧ (s.writeOpen path .sw (pgRdc + c) 0x48 = true) ∧ (s.coreState c = 1) ∧ (s.flag .sw RDC_SELFTEST_STS_BUSY 0 c = false)) ∧
    (∃ (c : Nat) (pass : Bool) (failFmt : Nat) (s : State), (c < 64) ∧ (s.flag .sw RDC_SELFTEST_STS_BUSY 0 c = true)) ∧
    (∃ (q : Nat) (desc : List Word) (slot : Nat) (e0 : Word) (e1 : Word) (nodes : List Nat) (role : HerdRole) (c : Cmd) (ptn : Nat) (s : State), (s.nextIssue q = some c) ∧ (s.cmd q c.index = some c) ∧ (c.op = 5) ∧ (s.epCtxPtn (s.queueCtx q) = some ptn) ∧ (c.open_ = 0) ∧ (s.synOwned .ep (bitsOf (c.w 1) 28 12) ptn = true) ∧ (s.swapNotice (bitsOf (c.w 1) 0 16) (bitsOf (c.w 1) 16 12) (bitsOf (c.w 4) 0 32) = none) ∧ (s.hasPath (bitsOf (c.w 1) 0 16) = true)) ∧
    (∃ (herd : Nat) (chunk : Nat) (core : Nat) (h : Herd) (s : State), (s.herd herd = some h) ∧ (s.herdInTime herd = true) ∧ (h.state = 2) ∧ (chunk < h.nChunks) ∧ (h.left chunk = false) ∧ ((h.chunk chunk).reduced = false) ∧ (h.inWindow chunk = true) ∧ (s.chunkReady herd h chunk = true) ∧ (s.attach herd = none) ∧ (h.isRoot = false) ∧ ((h.reducing = false ∨ (s.coreActive core = true ∧ (lookup h.cores chunk).all (· == core) = true ∧ s.inTurn core herd = true))) ∧ (h.op ≠ 6)) ∧
    (∃ (i : Nat) (c : Nat) (core : Nat) (h : Herd) (a : Attach) (s : State), (s.herd i = some h) ∧ (s.herdInTime i = true) ∧ (s.attach i = some a) ∧ (h.state = 2) ∧ (a.region = false) ∧ (c = h.base) ∧ ((h.chunk c).reduced = true) ∧ ((h.chunk c).waits = []) ∧ ((h.chunk c).stores = true) ∧ (h.ending = 0)) ∧
    (∃ (bulk : List (Nat × List Byte)) (g : Nat) (rest : List Nat) (r : Region) (s : State), (s.sw.svc.hashing = g :: rest) ∧ (lookup s.sw.svc.regions g = some r) ∧ (s.heldIn r = false) ∧ (s.sw.pool.lost.any (fun e => r.has e.1) = false) ∧ (((upTo (r.len / 128)).map (r.off / 128 + ·)).all (fun l => !s.hashWaits r l && !s.hashBad r l bulk) = true)) :=
  ⟨⟨63, false, none, up.put .sw RDC_STS_STATE 0 0 63, by first | decide +kernel | rfl, by first | decide +kernel | rfl⟩,
   ⟨.host, 5, up.put .sw RDC_STS_STATE 0 0 5, by first | decide +kernel | rfl, by first | decide +kernel | rfl, by first | decide +kernel | rfl⟩,
   ⟨.host, 5, ((up.put .sw RDC_STS_STATE 1 0 5).put .sw RDC_SELFTEST_STS_BUSY 0 0 5).put .sw RDC_SELFTEST_STS_PASS 1 0 5, by first | decide +kernel | rfl, by first | decide +kernel | rfl, by first | decide +kernel | rfl, by first | decide +kernel | rfl, by first | decide +kernel | rfl⟩,
   ⟨.host, 5, (up.put .sw RDC_STS_STATE 1 0 5).put .sw RDC_SELFTEST_STS_BUSY 0 0 5, by first | decide +kernel | rfl, by first | decide +kernel | rfl, by first | decide +kernel | rfl, by first | decide +kernel | rfl⟩,
   ⟨5, true, 0, (up.put .sw RDC_STS_STATE 2 0 5).put .sw RDC_SELFTEST_STS_BUSY 1 0 5, by first | decide +kernel | rfl, by first | decide +kernel | rfl⟩,
   ⟨3, [], 1, 0, 0, [], ⟨true, false⟩, { queue := 3, index := 7, desc := [5, 0x4000, 0, 0, 0, 0, 0, 0] }, 2, ((((({ ((((up.put .ep UCI_STS_UP 1).put .ep QUE_Q_STS_STATE 1 4).put .ep QUE_Q_CFG_CTX 5 4).wr .ep CTX_ENTRY 5 6) with ep := { ((((up.put .ep UCI_STS_UP 1).put .ep QUE_Q_STS_STATE 1 4).put .ep QUE_Q_CFG_CTX 5 4).wr .ep CTX_ENTRY 5 6).ep with cmds := [{ queue := 3, index := 7, desc := [5, 0x4000, 0, 0, 0, 0, 0, 0] }] } }.wr .ep SYN_CFG (1 + 2 * 2) 1).put .ep FPT_STS_STAGE 5 0 0).put .ep LNK_STS_STATE 2 0 0).onRly fun r => { r with opened := 255 }).put .ep EPC_ID_NODE_ID 0), by first | decide +kernel | rfl, by first | decide +kernel | rfl, by first | decide +kernel | rfl, by first | decide +kernel | rfl, by first | decide +kernel | rfl, by first | decide +kernel | rfl, by first | decide +kernel | rfl, by first | decide +kernel | rfl⟩,
   ⟨3, 0, 9, { state := 2, desc := [0 + 2 * 2 ^ 4 + 2 * 2 ^ 9 + 5 * 2 ^ 47, 0, 2 ^ 32, 1000, 8, 2 ^ 37 + 2 ^ 50, 0, 0], slots := [(0, (5, 0))], step := 7, work := [(0, { pieces := [(0, { pkts := [(0, [1, 2, 3, 4, 5, 6, 7, 8])], done := some 0 })] })] }, ((((((up.put .sw POL_PTN_STS_STATE 1 3).wr .sw CTX_ENTRY 5 6).wr .sw PTN_ENTRY 1 3).put .sw PTN_ENTRY_SIZE_M1 0 3).wr .sw SYN_CFG 5 1).onHrd fun x => { x with herds := [(3, { state := 2, desc := [0 + 2 * 2 ^ 4 + 2 * 2 ^ 9 + 5 * 2 ^ 47, 0, 2 ^ 32, 1000, 8, 2 ^ 37 + 2 ^ 50, 0, 0], slots := [(0, (5, 0))], step := 7, work := [(0, { pieces := [(0, { pkts := [(0, [1, 2, 3, 4, 5, 6, 7, 8])], done := some 0 })] })] })] }).put .sw RDC_STS_STATE 0 0 9, by first | decide +kernel | rfl, by first | decide +kernel | rfl, by first | decide +kernel | rfl, by first | decide +kernel | rfl, by first | decide +kernel | rfl, by first | decide +kernel | rfl, by first | decide +kernel | rfl, by first | decide +kernel | rfl, by first | decide +kernel | rfl, by first | decide +kernel | rfl, by first | decide +kernel | rfl, by first | decide +kernel | rfl⟩,
   ⟨3, 0, 0, { state := 2, desc := [0x400000 + 2 * 2 ^ 4 + 2 * 2 ^ 9 + 5 * 2 ^ 47, 0, 2 ^ 32, 1000, 8, 2 ^ 37 + 2 ^ 50, 0, 0], slots := [(0, (5, 0))], step := 7, work := [(0, { reduced := true, stores := true, pieces := [(0, { pkts := [(0, [1, 2, 3, 4, 5, 6, 7, 8])], done := some 0 })] })] }, { region := false, slot := 6, banked := false, streams := [], consts := [] }, ((((((up.put .sw POL_PTN_STS_STATE 1 3).wr .sw CTX_ENTRY 5 6).wr .sw PTN_ENTRY 1 3).put .sw PTN_ENTRY_SIZE_M1 0 3).wr .sw SYN_CFG 5 1).onHrd fun x => { x with herds := [(3, { state := 2, desc := [0x400000 + 2 * 2 ^ 4 + 2 * 2 ^ 9 + 5 * 2 ^ 47, 0, 2 ^ 32, 1000, 8, 2 ^ 37 + 2 ^ 50, 0, 0], slots := [(0, (5, 0))], step := 7, work := [(0, { reduced := true, stores := true, pieces := [(0, { pkts := [(0, [1, 2, 3, 4, 5, 6, 7, 8])], done := some 0 })] })] })] }).onSvc fun v => { v with atts := [(3, { region := false, slot := 6, banked := false, streams := [], consts := [] })] }, by first | decide +kernel | rfl, by first | decide +kernel | rfl, by first | decide +kernel | rfl, by first | decide +kernel | rfl, by first | decide +kernel | rfl, by first | decide +kernel | rfl, by first | decide +kernel | rfl, by first | decide +kernel | rfl, by first | decide +kernel | rfl, by first | decide +kernel | rfl⟩,
   ⟨[], 6, [7], { ptn := 2, off := 0, len := 256, done := false, ctx := 5 }, (((((up.put .sw POL_PTN_STS_STATE 1 3).wr .sw CTX_ENTRY 5 6).wr .sw PTN_ENTRY 1 3).put .sw PTN_ENTRY_SIZE_M1 0 3).wr .sw SYN_CFG 5 1).onSvc fun v => { v with regions := [(6, { ptn := 2, off := 0, len := 256, done := false, ctx := 5 })], hashing := [6, 7] }, by first | decide +kernel | rfl, by first | decide +kernel | rfl, by first | decide +kernel | rfl, by first | decide +kernel | rfl, by first | decide +kernel | rfl⟩⟩

/-- Something meets the conditions of each clause of `HerdStageRowsComplete`. -/
theorem witness_HerdStageRowsComplete :
    (∃ (o : Origin) (s : State), ((o.path = .host ∨ o.path = .remote ∨ (o.path = .sideband ∧ s.mainServes = true))) ∧ (s.sw.hrd.stage.claim = none)) ∧
    (∃ (s : State), (s.claimOver s.sw.hrd.stage = true)) ∧
    (∃ (o : Origin) (i : Nat) (s : State), (s.hrdOpen o = true) ∧ (s.createCheck (i % 4096) s.stagedHerd = (stOK, 0))) ∧
    (∃ (o : Origin) (i : Nat) (h : Herd) (s : State), (s.hrdOpen o = true) ∧ (s.herd (i % 4096) = some h) ∧ (h.state = 1)) ∧
    (∃ (o : Origin) (i : Nat) (h : Herd) (s : State), (s.hrdOpen o = true) ∧ (s.herd (i % 4096) = some h) ∧ (h.state = 2) ∧ (h.isRoot = false) ∧ (h.finished = false)) ∧
    (∃ (o : Origin) (i : Nat) (h : Herd) (s : State), (s.hrdOpen o = true) ∧ (s.herd (i % 4096) = some h) ∧ (h.state = 1)) ∧
    (∃ (o : Origin) (i : Nat) (h : Herd) (s : State), (s.hrdOpen o = true) ∧ (s.herd (i % 4096) = some h) ∧ (h.state = 2) ∧ (h.isRoot = false) ∧ (h.finished = false)) ∧
    (∃ (o : Origin) (i : Nat) (v : Nat) (k : Nat) (atStep : Bool) (h : Herd) (s : State), (s.hrdOpen o = true) ∧ (s.herd (i % 4096) = some h) ∧ (v % 128 < h.slotCount) ∧ (h.slotValid (v % 128) = true) ∧ (h.isChild (v % 128) = false) ∧ (h.slotValid (128 + k % 8) = true) ∧ (h.swap = none) ∧ ((h.state = 3 ∨ atStep = true))) ∧
    (∃ (o : Origin) (i : Nat) (v : Nat) (k : Nat) (atStep : Bool) (h : Herd) (s : State), (s.hrdOpen o = true) ∧ (s.herd (i % 4096) = some h) ∧ (v % 128 < h.slotCount) ∧ (h.slotValid (v % 128) = true) ∧ (h.isChild (v % 128) = false) ∧ (h.slotValid (128 + k % 8) = true) ∧ (h.swap = none) ∧ (h.state = 1) ∧ (atStep = false)) ∧
    (∃ (o : Origin) (i : Nat) (v : Nat) (k : Nat) (atStep : Bool) (h : Herd) (s : State), (s.hrdOpen o = true) ∧ (s.herd (i % 4096) = some h) ∧ (v % 128 < h.slotCount) ∧ (h.slotValid (v % 128) = true) ∧ (h.isChild (v % 128) = false) ∧ (h.slotValid (128 + k % 8) = true) ∧ (h.swap = none) ∧ (h.state = 2) ∧ (atStep = false)) ∧
    (∃ (o : Origin) (s : State), ((o.path = .host ∨ o.path = .remote ∨ (o.path = .sideband ∧ s.mainServes = true))) ∧ (s.sw.svc.stage.claim = none)) ∧
    (∃ (s : State), (s.claimOver s.sw.svc.stage = true)) ∧
    (∃ (path : Path) (v : Word) (h : Herd) (a : Attach) (s : State), (s.writeOpen path .sw pgSvc 0x68 = true) ∧ (s.herd (s.get .sw SVC_VIEW_SEL_HERD) = some h) ∧ (h.state = 1) ∧ (s.attach (s.get .sw SVC_VIEW_SEL_HERD) = some a)) :=
  ⟨⟨{ path := .host }, up, by first | decide +kernel | rfl, by first | decide +kernel | rfl⟩,
   ⟨(up.onHrd fun x => { x with stage := { claim := some (1, 0, 0) }, entries := [(0, (5, 0))] }).onChip .sw fun c => { c with ltc := 1750000 }, by first | decide +kernel | rfl⟩,
   ⟨{ path := .remote, node := 3, ctx := 5 }, 4099, ((((((((((up.put .sw POL_PTN_STS_STATE 1 3).wr .sw CTX_ENTRY 5 6).wr .sw PTN_ENTRY 1 3).put .sw PTN_ENTRY_SIZE_M1 0 3).wr .sw SYN_CFG 5 1).wr .sw (HRD_DESC.word 0) (5 + 0x400000 + 5 * 2 ^ 47)).wr .sw (HRD_DESC.word 2) (2 ^ 32)).wr .sw (HRD_DESC.word 5) (2 ^ 37 + 2 ^ 50))).onHrd fun x => { x with entries := [(0, (5, 0))], stage := { claim := some (0, 3, 5) } }), by first | decide +kernel | rfl, by first | decide +kernel | rfl⟩,
   ⟨{ path := .remote, node := 3, ctx := 5 }, 3, { state := 1, desc := [5 + 0x400000 + 5 * 2 ^ 47, 0, 2 ^ 32, 0, 0, 2 ^ 37 + 2 ^ 50, 0, 0], slots := [(0, (5, 0))], step := 7 }, ((((((up.put .sw POL_PTN_STS_STATE 1 3).wr .sw CTX_ENTRY 5 6).wr .sw PTN_ENTRY 1 3).put .sw PTN_ENTRY_SIZE_M1 0 3).wr .sw SYN_CFG 5 1).onHrd fun x => { x with herds := [(3, { state := 1, desc := [5 + 0x400000 + 5 * 2 ^ 47, 0, 2 ^ 32, 0, 0, 2 ^ 37 + 2 ^ 50, 0, 0], slots := [(0, (5, 0))], step := 7 })] }), by first | decide +kernel | rfl, by first | decide +kernel | rfl, by first | decide +kernel | rfl⟩,
   ⟨{ path := .remote, node := 3, ctx := 5 }, 3, { state := 2, desc := [5 + 5 * 2 ^ 47, 0, 2 ^ 32, 0, 0, 2 ^ 37 + 2 ^ 50, 0, 0], slots := [(0, (5, 0))], step := 7 }, ((((((up.put .sw POL_PTN_STS_STATE 1 3).wr .sw CTX_ENTRY 5 6).wr .sw PTN_ENTRY 1 3).put .sw PTN_ENTRY_SIZE_M1 0 3).wr .sw SYN_CFG 5 1).onHrd fun x => { x with herds := [(3, { state := 2, desc := [5 + 5 * 2 ^ 47, 0, 2 ^ 32, 0, 0, 2 ^ 37 + 2 ^ 50, 0, 0], slots := [(0, (5, 0))], step := 7 })] }), by first | decide +kernel | rfl, by first | decide +kernel | rfl, by first | decide +kernel | rfl, by first | decide +kernel | rfl, by first | decide +kernel | rfl⟩,
   ⟨{ path := .remote, node := 3, ctx := 5 }, 3, { state := 1, desc := [5 + 0x400000 + 5 * 2 ^ 47, 0, 2 ^ 32, 0, 0, 2 ^ 37 + 2 ^ 50, 0, 0], slots := [(0, (5, 0))], step := 7 }, ((((((up.put .sw POL_PTN_STS_STATE 1 3).wr .sw CTX_ENTRY 5 6).wr .sw PTN_ENTRY 1 3).put .sw PTN_ENTRY_SIZE_M1 0 3).wr .sw SYN_CFG 5 1).onHrd fun x => { x with herds := [(3, { state := 1, desc := [5 + 0x400000 + 5 * 2 ^ 47, 0, 2 ^ 32, 0, 0, 2 ^ 37 + 2 ^ 50, 0, 0], slots := [(0, (5, 0))], step := 7 })] }), by first | decide +kernel | rfl, by first | decide +kernel | rfl, by first | decide +kernel | rfl⟩,
   ⟨{ path := .remote, node := 3, ctx := 5 }, 3, { state := 2, desc := [5 + 5 * 2 ^ 47, 0, 2 ^ 32, 0, 0, 2 ^ 37 + 2 ^ 50, 0, 0], slots := [(0, (5, 0))], step := 7 }, ((((((up.put .sw POL_PTN_STS_STATE 1 3).wr .sw CTX_ENTRY 5 6).wr .sw PTN_ENTRY 1 3).put .sw PTN_ENTRY_SIZE_M1 0 3).wr .sw SYN_CFG 5 1).onHrd fun x => { x with herds := [(3, { state := 2, desc := [5 + 5 * 2 ^ 47, 0, 2 ^ 32, 0, 0, 2 ^ 37 + 2 ^ 50, 0, 0], slots := [(0, (5, 0))], step := 7 })] }), by first | decide +kernel | rfl, by first | decide +kernel | rfl, by first | decide +kernel | rfl, by first | decide +kernel | rfl, by first | decide +kernel | rfl⟩,
   ⟨{ path := .remote, node := 3, ctx := 5 }, 3, 0, 0, true, { state := 2, desc := [5 + 0x400000 + 5 * 2 ^ 47, 0, 2 ^ 32, 0, 0, 2 ^ 37 + 2 ^ 50, 0, 0], slots := [(0, (5, 0)), (128, (9, 0))], step := 7 }, ((((((up.put .sw POL_PTN_STS_STATE 1 3).wr .sw CTX_ENTRY 5 6).wr .sw PTN_ENTRY 1 3).put .sw PTN_ENTRY_SIZE_M1 0 3).wr .sw SYN_CFG 5 1).onHrd fun x => { x with herds := [(3, { state := 2, desc := [5 + 0x400000 + 5 * 2 ^ 47, 0, 2 ^ 32, 0, 0, 2 ^ 37 + 2 ^ 50, 0, 0], slots := [(0, (5, 0)), (128, (9, 0))], step := 7 })] }), by first | decide +kernel | rfl, by first | decide +kernel | rfl, by first | decide +kernel | rfl, by first | decide +kernel | rfl, by first | decide +kernel | rfl, by first | decide +kernel | rfl, by first | decide +kernel | rfl, by first | decide +kernel | rfl⟩,
   ⟨{ path := .remote, node := 3, ctx := 5 }, 3, 0, 0, false, { state := 1, desc := [5 + 0x400000 + 5 * 2 ^ 47, 0, 2 ^ 32, 0, 0, 2 ^ 37 + 2 ^ 50, 0, 0], slots := [(0, (5, 0)), (128, (9, 0))], step := 7 }, ((((((up.put .sw POL_PTN_STS_STATE 1 3).wr .sw CTX_ENTRY 5 6).wr .sw PTN_ENTRY 1 3).put .sw PTN_ENTRY_SIZE_M1 0 3).wr .sw SYN_CFG 5 1).onHrd fun x => { x with herds := [(3, { state := 1, desc := [5 + 0x400000 + 5 * 2 ^ 47, 0, 2 ^ 32, 0, 0, 2 ^ 37 + 2 ^ 50, 0, 0], slots := [(0, (5, 0)), (128, (9, 0))], step := 7 })] }), by first | decide +kernel | rfl, by first | decide +kernel | rfl, by first | decide +kernel | rfl, by first | decide +kernel | rfl, by first | decide +kernel | rfl, by first | decide +kernel | rfl, by first | decide +kernel | rfl, by first | decide +kernel | rfl, by first | decide +kernel | rfl⟩,
   ⟨{ path := .remote, node := 3, ctx := 5 }, 3, 0, 0, false, { state := 2, desc := [5 + 0x400000 + 5 * 2 ^ 47, 0, 2 ^ 32, 0, 0, 2 ^ 37 + 2 ^ 50, 0, 0], slots := [(0, (5, 0)), (128, (9, 0))], step := 7 }, ((((((up.put .sw POL_PTN_STS_STATE 1 3).wr .sw CTX_ENTRY 5 6).wr .sw PTN_ENTRY 1 3).put .sw PTN_ENTRY_SIZE_M1 0 3).wr .sw SYN_CFG 5 1).onHrd fun x => { x with herds := [(3, { state := 2, desc := [5 + 0x400000 + 5 * 2 ^ 47, 0, 2 ^ 32, 0, 0, 2 ^ 37 + 2 ^ 50, 0, 0], slots := [(0, (5, 0)), (128, (9, 0))], step := 7 })] }), by first | decide +kernel | rfl, by first | decide +kernel | rfl, by first | decide +kernel | rfl, by first | decide +kernel | rfl, by first | decide +kernel | rfl, by first | decide +kernel | rfl, by first | decide +kernel | rfl, by first | decide +kernel | rfl, by first | decide +kernel | rfl⟩,
   ⟨{ path := .remote, node := 3, ctx := 5 }, up, by first | decide +kernel | rfl, by first | decide +kernel | rfl⟩,
   ⟨(up.onSvc fun x => { x with stage := { claim := some (1, 0, 0) } }).onChip .sw fun c => { c with ltc := 1750000 }, by first | decide +kernel | rfl⟩,
   ⟨.host, 77, { state := 1, desc := [5 + 0x400000 + 5 * 2 ^ 47, 0, 2 ^ 32, 0, 0, 2 ^ 37 + 2 ^ 50, 0, 0], slots := [(0, (5, 0))], step := 7 }, { region := true, slot := 6, banked := false, streams := [], consts := [] }, (((((((up.put .sw POL_PTN_STS_STATE 1 3).wr .sw CTX_ENTRY 5 6).wr .sw PTN_ENTRY 1 3).put .sw PTN_ENTRY_SIZE_M1 0 3).wr .sw SYN_CFG 5 1).onHrd fun x => { x with herds := [(3, { state := 1, desc := [5 + 0x400000 + 5 * 2 ^ 47, 0, 2 ^ 32, 0, 0, 2 ^ 37 + 2 ^ 50, 0, 0], slots := [(0, (5, 0))], step := 7 })] }).onSvc fun v => { v with atts := [(3, { region := true, slot := 6, banked := false, streams := [], consts := [] })] }).put .sw SVC_VIEW_SEL_HERD 3, by first | decide +kernel | rfl, by first | decide +kernel | rfl, by first | decide +kernel | rfl, by first | decide +kernel | rfl⟩⟩

/-- Something meets the conditions of each clause of `ServiceStageRowsComplete`. -/
theorem witness_ServiceStageRowsComplete :
    (∃ (o : Origin) (slot : Nat) (s : State), (s.svcOpen o = true) ∧ (s.powerHeld = false) ∧ (lookup s.sw.svc.progs (slot % 256) = none) ∧ ((s.ctxPtn (getBits (s.stageWord 32) 0 10)).isSome = true) ∧ (firstBad s.stagedImage = none)) ∧
    (∃ (o : Origin) (slot : Nat) (s : State), (s.svcOpen o = true) ∧ (s.slotUsers (slot % 256) = 0)) ∧
    (∃ (o : Origin) (i : Nat) (s : State), (s.svcOpen o = true) ∧ (s.attachCheck (i % 4096) s.stagedAttach = (stOK, 0))) ∧
    (∃ (o : Origin) (i : Nat) (s : State), (s.svcOpen o = true) ∧ ((s.herd (i % 4096)).any (fun h => h.state != 1) = false)) ∧
    (∃ (o : Origin) (i : Nat) (a : Attach) (s : State), (s.svcOpen o = true) ∧ (s.powerHeld = false) ∧ (s.attach (i % 4096) = some a)) ∧
    (∃ (o : Origin) (g : Nat) (s : State), (s.svcOpen o = true) ∧ (s.powerHeld = false) ∧ (g % 256 < 64) ∧ (getBits (s.stageWord 1) 0 40 % 2 ^ 21 = 0) ∧ (getBits (s.stageWord 2) 0 41 % 2 ^ 21 = 0) ∧ (getBits (s.stageWord 2) 0 41 ≠ 0) ∧ (lookup s.sw.svc.regions (g % 256) = none) ∧ (getBits (s.stageWord 1) 0 40 + getBits (s.stageWord 2) 0 41 ≤ s.ptnSize (getBits (s.stageWord 0) 0 6)) ∧ (s.mayUse o (getBits (s.stageWord 0) 0 6) = true) ∧ (s.sw.svc.atts = []) ∧ (s.meetsRegion (getBits (s.stageWord 0) 0 6) (getBits (s.stageWord 1) 0 40, getBits (s.stageWord 2) 0 41) = false) ∧ (s.meetsScatter (getBits (s.stageWord 0) 0 6) (getBits (s.stageWord 1) 0 40, getBits (s.stageWord 2) 0 41) = false)) ∧
    (∃ (o : Origin) (g : Nat) (s : State), (s.svcOpen o = true) ∧ ((lookup s.sw.svc.regions (g % 256)).any (·.done) = true) ∧ (s.sw.svc.atts.any (fun e => e.2.region && e.2.slot == g % 256) = false)) ∧
    (∃ (o : Origin) (t : Nat) (s : State), (s.svcOpen o = true) ∧ (s.powerHeld = false) ∧ (lookup s.sw.svc.tables (t % 256) = none) ∧ (getBits (s.stageWord 1) 0 40 % 128 = 0) ∧ (getBits (s.stageWord 1) 0 40 + (getBits (s.stageWord 2) 0 32 * ({ ptn := 0, base := 0, fmt := getBits (s.stageWord 0) 6 2, gather := false, scatter := false, units := getBits (s.stageWord 0) 10 8, rows := 0 } : Table).rowBytes) ≤ s.ptnSize (getBits (s.stageWord 0) 0 6)) ∧ (s.mayUse o (getBits (s.stageWord 0) 0 6) = true) ∧ (((s.stageWord 0).getLsbD 9 = true → s.meetsRegion (getBits (s.stageWord 0) 0 6) (getBits (s.stageWord 1) 0 40, (getBits (s.stageWord 2) 0 32 * ({ ptn := 0, base := 0, fmt := getBits (s.stageWord 0) 6 2, gather := false, scatter := false, units := getBits (s.stageWord 0) 10 8, rows := 0 } : Table).rowBytes)) = false))) ∧
    (∃ (o : Origin) (t : Nat) (s : State), (s.svcOpen o = true)) :=
  ⟨⟨{ path := .remote, node := 3, ctx := 5 }, 300, ((((((up.put .sw POL_PTN_STS_STATE 1 3).wr .sw CTX_ENTRY 5 6).wr .sw PTN_ENTRY 1 3).put .sw PTN_ENTRY_SIZE_M1 0 3).wr .sw SYN_CFG 5 1).wr .sw (SVC_STAGE.word 32) 5).wr .sw (SVC_STAGE.word 0) 13, by first | decide +kernel | rfl, by first | decide +kernel | rfl, by first | decide +kernel | rfl, by first | decide +kernel | rfl, by first | decide +kernel | rfl⟩,
   ⟨{ path := .remote, node := 3, ctx := 5 }, 44, (((((up.put .sw POL_PTN_STS_STATE 1 3).wr .sw CTX_ENTRY 5 6).wr .sw PTN_ENTRY 1 3).put .sw PTN_ENTRY_SIZE_M1 0 3).wr .sw SYN_CFG 5 1).onSvc fun v => { v with progs := [(44, { image := List.replicate 64 0, ctx := 5, digest := [], ops := 0 })] }, by first | decide +kernel | rfl, by first | decide +kernel | rfl⟩,
   ⟨{ path := .remote, node := 3, ctx := 5 }, 3, (((((((up.put .sw POL_PTN_STS_STATE 1 3).wr .sw CTX_ENTRY 5 6).wr .sw PTN_ENTRY 1 3).put .sw PTN_ENTRY_SIZE_M1 0 3).wr .sw SYN_CFG 5 1).onHrd fun x => { x with herds := [(3, { state := 1, desc := [3 + 8 * 2 ^ 4 + 8 * 2 ^ 9 + 0x400000 + 5 * 2 ^ 47, 0, 2 ^ 32, 0, 8, 2 ^ 37 + 2 ^ 50, 0, 0], slots := [(0, (5, 0))], step := 7 })] }).wr .sw (SVC_STAGE.word 0) (256 + 6)).onSvc fun v => { v with regions := [(6, { ptn := 2, off := 0, len := 2 ^ 21, done := true, ctx := 5 })] }, by first | decide +kernel | rfl, by first | decide +kernel | rfl⟩,
   ⟨{ path := .remote, node := 3, ctx := 5 }, 3, ((((((up.put .sw POL_PTN_STS_STATE 1 3).wr .sw CTX_ENTRY 5 6).wr .sw PTN_ENTRY 1 3).put .sw PTN_ENTRY_SIZE_M1 0 3).wr .sw SYN_CFG 5 1).onHrd fun x => { x with herds := [(3, { state := 1, desc := [5 + 0x400000 + 5 * 2 ^ 47, 0, 2 ^ 32, 0, 0, 2 ^ 37 + 2 ^ 50, 0, 0], slots := [(0, (5, 0))], step := 7 })] }).onSvc fun v => { v with atts := [(3, { region := true, slot := 6, banked := false, streams := [], consts := [] })] }, by first | decide +kernel | rfl, by first | decide +kernel | rfl⟩,
   ⟨{ path := .remote, node := 3, ctx := 5 }, 3, { region := true, slot := 6, banked := false, streams := [], consts := [] }, ((((((up.put .sw POL_PTN_STS_STATE 1 3).wr .sw CTX_ENTRY 5 6).wr .sw PTN_ENTRY 1 3).put .sw PTN_ENTRY_SIZE_M1 0 3).wr .sw SYN_CFG 5 1).onHrd fun x => { x with herds := [(3, { state := 1, desc := [5 + 0x400000 + 5 * 2 ^ 47, 0, 2 ^ 32, 0, 0, 2 ^ 37 + 2 ^ 50, 0, 0], slots := [(0, (5, 0))], step := 7 })] }).onSvc fun v => { v with atts := [(3, { region := true, slot := 6, banked := false, streams := [], consts := [] })] }, by first | decide +kernel | rfl, by first | decide +kernel | rfl, by first | decide +kernel | rfl⟩,
   ⟨{ path := .remote, node := 3, ctx := 5 }, 63, ((((((((up.put .sw POL_PTN_STS_STATE 1 3).wr .sw CTX_ENTRY 5 6).wr .sw PTN_ENTRY 1 3).put .sw PTN_ENTRY_SIZE_M1 0 3).wr .sw SYN_CFG 5 1).wr .sw (SVC_STAGE.word 0) 2).wr .sw (SVC_STAGE.word 1) (2 ^ 21)).wr .sw (SVC_STAGE.word 2) (2 ^ 21)), by first | decide +kernel | rfl, by first | decide +kernel | rfl, by first | decide +kernel | rfl, by first | decide +kernel | rfl, by first | decide +kernel | rfl, by first | decide +kernel | rfl, by first | decide +kernel | rfl, by first | decide +kernel | rfl, by first | decide +kernel | rfl, by first | decide +kernel | rfl, by first | decide +kernel | rfl, by first | decide +kernel | rfl⟩,
   ⟨{ path := .remote, node := 3, ctx := 5 }, 6, (((((up.put .sw POL_PTN_STS_STATE 1 3).wr .sw CTX_ENTRY 5 6).wr .sw PTN_ENTRY 1 3).put .sw PTN_ENTRY_SIZE_M1 0 3).wr .sw SYN_CFG 5 1).onSvc fun v => { v with regions := [(6, { ptn := 2, off := 0, len := 2 ^ 21, done := true, ctx := 5 })] }, by first | decide +kernel | rfl, by first | decide +kernel | rfl, by first | decide +kernel | rfl⟩,
   ⟨{ path := .remote, node := 3, ctx := 5 }, 255, ((((((((up.put .sw POL_PTN_STS_STATE 1 3).wr .sw CTX_ENTRY 5 6).wr .sw PTN_ENTRY 1 3).put .sw PTN_ENTRY_SIZE_M1 0 3).wr .sw SYN_CFG 5 1).wr .sw (SVC_STAGE.word 0) (2 + 768 + 1024)).wr .sw (SVC_STAGE.word 1) 128).wr .sw (SVC_STAGE.word 2) 4), by first | decide +kernel | rfl, by first | decide +kernel | rfl, by first | decide +kernel | rfl, by first | decide +kernel | rfl, by first | decide +kernel | rfl, by first | decide +kernel | rfl, by first | decide +kernel | rfl⟩,
   ⟨{ path := .remote, node := 3, ctx := 5 }, 0, (((((up.put .sw POL_PTN_STS_STATE 1 3).wr .sw CTX_ENTRY 5 6).wr .sw PTN_ENTRY 1 3).put .sw PTN_ENTRY_SIZE_M1 0 3).onSvc fun v => { v with tables := [(0, ⟨2, 0, 0, true, true, 1, 16⟩)] }), by first | decide +kernel | rfl⟩⟩

/-- Something meets the conditions of each clause of `HerdArrivalRowsComplete`. -/
theorem witness_HerdArrivalRowsComplete :
    (∃ (k : Packet) (h : Herd) (v : Nat) (place : Nat) (q : Piece) (s : State), (s.memberTurn k h v place = true) ∧ (h.state = 2) ∧ ((lookup (h.chunk (herdPrefix k).chunk).pieces (pieceKey v place)).getD {} = q) ∧ (q.done = none) ∧ (q.dead = false) ∧ (place < 2) ∧ (lookup (h.chunk (herdPrefix k).chunk).pieces (pieceKey v (1 - place)) = none) ∧ ((herdPrefix k).chunk < h.nChunks) ∧ (s.contributes (herdIx k) h v = true) ∧ (h.ownsChunk k.src (herdPrefix k).chunk = true) ∧ (h.left (herdPrefix k).chunk = false) ∧ (h.inWindow (herdPrefix k).chunk = true)) ∧
    (∃ (k : Packet) (h : Herd) (v : Nat) (q : Piece) (s : State), (s.herdTurn k h = true) ∧ (h.childSlot k = some v) ∧ (h.state = 2) ∧ ((lookup (h.chunk (herdPrefix k).chunk).pieces (pieceKey v 0)).getD {} = q) ∧ (q.done = none) ∧ (q.dead = false) ∧ (lookup (h.chunk (herdPrefix k).chunk).pieces (pieceKey v 1) = none) ∧ ((herdPrefix k).chunk < h.nChunks) ∧ (h.left (herdPrefix k).chunk = false) ∧ (h.inWindow (herdPrefix k).chunk = true)) ∧
    (∃ (k : Packet) (h : Herd) (v : Nat) (place : Nat) (s : State), (k.srcSw = false) ∧ (s.memberTurn k h v place = true) ∧ (h.state = 2) ∧ (h.op ≠ 5) ∧ (h.op ≠ 6) ∧ (h.doneChunks < h.nChunks)) ∧
    (∃ (k : Packet) (h : Herd) (v : Nat) (place : Nat) (q : Piece) (s : State), (k.srcSw = false) ∧ (s.memberTurn k h v place = true) ∧ (h.state = 2) ∧ ((lookup (h.chunk 0).pieces (pieceKey v place)).getD {} = q) ∧ (q.done = none) ∧ (q.dead = false) ∧ (place < 2) ∧ (lookup (h.chunk 0).pieces (pieceKey v (1 - place)) = none) ∧ (h.op = 5) ∧ ((herdPrefix k).chunk = 0) ∧ (h.left 0 = false) ∧ (h.ownsChunk k.src 0 = true)) ∧
    (∃ (k : Packet) (h : Herd) (v : Nat) (q : Piece) (s : State), (s.herdTurn k h = true) ∧ (h.upLinkOf k = some v) ∧ (h.state = 2) ∧ ((herdPrefix k).chunk < h.nChunks) ∧ (h.left (herdPrefix k).chunk = false) ∧ ((lookup (h.chunk (herdPrefix k).chunk).down (herdPrefix k).shard).getD {} = q) ∧ (q.done = none) ∧ ((q.add (herdPrefix k).pkt (h.resultBytes (herdPrefix k).chunk (herdPrefix k).shard) (s.now .sw) (k.payload.drop 16)).done = none)) ∧
    (∃ (k : Packet) (h : Herd) (v : Nat) (place : Nat) (q : Piece) (s : State), (k.srcSw = false) ∧ (s.memberTurn k h v place = true) ∧ (h.state = 2) ∧ ((lookup (h.chunk 0).pieces (pieceKey v place)).getD {} = q) ∧ (q.done = none) ∧ (q.dead = false) ∧ (place < 2) ∧ (lookup (h.chunk 0).pieces (pieceKey v (1 - place)) = none) ∧ (h.op = 6) ∧ (h.left 0 = false) ∧ (h.ownsChunk k.src 0 = true)) :=
  ⟨⟨sealPkt { op := opHERD_CONTRIB, src := 1, ptn := 2, addr := targetForm 1 0x4000 3, payload := (HerdPrefix.mk 0 7 0 0 0).bytes ++ [1, 2, 3, 4, 5, 6, 7, 8] }, { state := 2, desc := [0 + 2 * 2 ^ 4 + 2 * 2 ^ 9 + 5 * 2 ^ 47, 0, 2 ^ 32, 1000, 8, 2 ^ 37 + 2 ^ 50, 0, 0], slots := [(0, (5, 0))], step := 7 }, 0, 0, {}, ((((((up.put .sw POL_PTN_STS_STATE 1 3).wr .sw CTX_ENTRY 5 6).wr .sw PTN_ENTRY 1 3).put .sw PTN_ENTRY_SIZE_M1 0 3).wr .sw SYN_CFG 5 1).onHrd fun x => { x with herds := [(3, { state := 2, desc := [0 + 2 * 2 ^ 4 + 2 * 2 ^ 9 + 5 * 2 ^ 47, 0, 2 ^ 32, 1000, 8, 2 ^ 37 + 2 ^ 50, 0, 0], slots := [(0, (5, 0))], step := 7 })] }), by first | decide +kernel | rfl, by first | decide +kernel | rfl, by first | decide +kernel | rfl, by first | decide +kernel | rfl, by first | decide +kernel | rfl, by first | decide +kernel | rfl, by first | decide +kernel | rfl, by first | decide +kernel | rfl, by first | decide +kernel | rfl, by first | decide +kernel | rfl, by first | decide +kernel | rfl, by first | decide +kernel | rfl⟩,
   ⟨sealPkt { op := opHERD_PARTIAL, src := 9, ptn := 2, addr := targetForm 1 0x4000 3, payload := (HerdPrefix.mk 0 7 0 0 0).bytes ++ [1, 2, 3], srcSw := true }, { state := 2, desc := [0x400000 + 2 * 2 ^ 4 + 2 * 2 ^ 9 + 5 * 2 ^ 47, 0, 2 ^ 32, 1000, 8, 2 ^ 37 + 2 ^ 50, 0, 0], slots := [(0, (3 + 4 + 9 * 2 ^ 31 + 4 * 2 ^ 47, 0))], step := 7 }, 0, {}, ((((((up.put .sw POL_PTN_STS_STATE 1 3).wr .sw CTX_ENTRY 5 6).wr .sw PTN_ENTRY 1 3).put .sw PTN_ENTRY_SIZE_M1 0 3).wr .sw SYN_CFG 5 1).onHrd fun x => { x with herds := [(3, { state := 2, desc := [0x400000 + 2 * 2 ^ 4 + 2 * 2 ^ 9 + 5 * 2 ^ 47, 0, 2 ^ 32, 1000, 8, 2 ^ 37 + 2 ^ 50, 0, 0], slots := [(0, (3 + 4 + 9 * 2 ^ 31 + 4 * 2 ^ 47, 0))], step := 7 })] }), by first | decide +kernel | rfl, by first | decide +kernel | rfl, by first | decide +kernel | rfl, by first | decide +kernel | rfl, by first | decide +kernel | rfl, by first | decide +kernel | rfl, by first | decide +kernel | rfl, by first | decide +kernel | rfl, by first | decide +kernel | rfl, by first | decide +kernel | rfl⟩,
   ⟨sealPkt { op := opHERD_JOIN, src := 1, ptn := 2, addr := targetForm 1 0x4000 3, payload := (HerdPrefix.mk 0 7 0 0 0).bytes }, { state := 2, desc := [0 + 2 * 2 ^ 4 + 2 * 2 ^ 9 + 5 * 2 ^ 47, 0, 2 ^ 32, 1000, 8, 2 ^ 37 + 2 ^ 50, 0, 0], slots := [(0, (5, 0))], step := 7 }, 0, 0, ((((((up.put .sw POL_PTN_STS_STATE 1 3).wr .sw CTX_ENTRY 5 6).wr .sw PTN_ENTRY 1 3).put .sw PTN_ENTRY_SIZE_M1 0 3).wr .sw SYN_CFG 5 1).onHrd fun x => { x with herds := [(3, { state := 2, desc := [0 + 2 * 2 ^ 4 + 2 * 2 ^ 9 + 5 * 2 ^ 47, 0, 2 ^ 32, 1000, 8, 2 ^ 37 + 2 ^ 50, 0, 0], slots := [(0, (5, 0))], step := 7 })] }), by first | decide +kernel | rfl, by first | decide +kernel | rfl, by first | decide +kernel | rfl, by first | decide +kernel | rfl, by first | decide +kernel | rfl, by first | decide +kernel | rfl⟩,
   ⟨sealPkt { op := opHERD_JOIN, src := 1, ptn := 2, addr := targetForm 1 0x4000 3, payload := (HerdPrefix.mk 0 7 0 0 0).bytes }, { state := 2, desc := [5 + 0x400000 + 5 * 2 ^ 47, 0, 2 ^ 32, 1000, 0, 2 ^ 37 + 2 ^ 50, 0, 0], slots := [(0, (5, 0))], step := 7 }, 0, 0, {}, ((((((up.put .sw POL_PTN_STS_STATE 1 3).wr .sw CTX_ENTRY 5 6).wr .sw PTN_ENTRY 1 3).put .sw PTN_ENTRY_SIZE_M1 0 3).wr .sw SYN_CFG 5 1).onHrd fun x => { x with herds := [(3, { state := 2, desc := [5 + 0x400000 + 5 * 2 ^ 47, 0, 2 ^ 32, 1000, 0, 2 ^ 37 + 2 ^ 50, 0, 0], slots := [(0, (5, 0))], step := 7 })] }), by first | decide +kernel | rfl, by first | decide +kernel | rfl, by first | decide +kernel | rfl, by first | decide +kernel | rfl, by first | decide +kernel | rfl, by first | decide +kernel | rfl, by first | decide +kernel | rfl, by first | decide +kernel | rfl, by first | decide +kernel | rfl, by first | decide +kernel | rfl, by first | decide +kernel | rfl, by first | decide +kernel | rfl⟩,
   ⟨sealPkt { op := opHERD_RESULT, src := 16640, ptn := 2, addr := targetForm 1 0x4000 24579, payload := (HerdPrefix.mk 0 7 0 1 0).bytes ++ List.replicate 16 1, srcSw := true }, { state := 2, desc := [0 + 2 * 2 ^ 4 + 2 * 2 ^ 9 + 5 * 2 ^ 47, 0, 2 ^ 32, 1000, 2 ^ 15, 2 ^ 37 + 2 ^ 50, 0, 0], slots := [(0, (5, 0x4100 * 2 ^ 7 + 6))], step := 7 }, 0, {}, ((((((up.put .sw POL_PTN_STS_STATE 1 3).wr .sw CTX_ENTRY 5 6).wr .sw PTN_ENTRY 1 3).put .sw PTN_ENTRY_SIZE_M1 0 3).wr .sw SYN_CFG 5 1).onHrd fun x => { x with herds := [(3, { state := 2, desc := [0 + 2 * 2 ^ 4 + 2 * 2 ^ 9 + 5 * 2 ^ 47, 0, 2 ^ 32, 1000, 2 ^ 15, 2 ^ 37 + 2 ^ 50, 0, 0], slots := [(0, (5, 0x4100 * 2 ^ 7 + 6))], step := 7 })] }), by first | decide +kernel | rfl, by first | decide +kernel | rfl, by first | decide +kernel | rfl, by first | decide +kernel | rfl, by first | decide +kernel | rfl, by first | decide +kernel | rfl, by first | decide +kernel | rfl, by first | decide +kernel | rfl⟩,
   ⟨sealPkt { op := opHERD_COUNTS, src := 1, ptn := 2, addr := targetForm 1 0x4000 3, payload := (HerdPrefix.mk 0 7 0 0 0).bytes ++ [1, 0, 2, 0] }, { state := 2, desc := [6 + 5 * 2 ^ 47, 0, 2 ^ 32, 1000, 0, 2 ^ 37 + 2 ^ 50, 2 ^ 17, 2 ^ 34], slots := [(0, (5, 0))], step := 7 }, 0, 0, {}, ((((((up.put .sw POL_PTN_STS_STATE 1 3).wr .sw CTX_ENTRY 5 6).wr .sw PTN_ENTRY 1 3).put .sw PTN_ENTRY_SIZE_M1 0 3).wr .sw SYN_CFG 5 1).onHrd fun x => { x with herds := [(3, { state := 2, desc := [6 + 5 * 2 ^ 47, 0, 2 ^ 32, 1000, 0, 2 ^ 37 + 2 ^ 50, 2 ^ 17, 2 ^ 34], slots := [(0, (5, 0))], step := 7 })] }), by first | decide +kernel | rfl, by first | decide +kernel | rfl, by first | decide +kernel | rfl, by first | decide +kernel | rfl, by first | decide +kernel | rfl, by first | decide +kernel | rfl, by first | decide +kernel | rfl, by first | decide +kernel | rfl, by first | decide +kernel | rfl, by first | decide +kernel | rfl, by first | decide +kernel | rfl⟩⟩

/-- Something meets the conditions of each clause of `HerdMemberRowsComplete`. -/
theorem witness_HerdMemberRowsComplete :
    (∃ (k : Packet) (sid : Nat) (m : Memb) (s : State), (k.mark = false) ∧ (crcOk k = true) ∧ (addrSwitch k = some sid) ∧ (s.membOf sid (herdIx k) (herdPrefix k).step = some m) ∧ (s.uciUp = true) ∧ (s.memb m.queue m.index = some m) ∧ (m.signals = []) ∧ (m.cpl = none)) ∧
    (∃ (k : Packet) (sid : Nat) (m : Memb) (s : State), (k.mark = false) ∧ (crcOk k = true) ∧ (addrSwitch k = some sid) ∧ (s.membOf sid (herdIx k) (herdPrefix k).step = some m) ∧ (s.memb m.queue m.index = some m) ∧ ((insertAt m.a2a.parts (herdPrefix k).pkt (k.payload.drop 16)).length < packetsOf (4 + 8 * m.geo.ranks))) ∧
    (∃ (k : Packet) (m : Memb) (s : State), (k.mark = false) ∧ (crcOk k = true) ∧ (s.recordMemb k = some m) ∧ (s.uciUp = true) ∧ (s.memb m.queue m.index = some m) ∧ (m.a2a.expect = none) ∧ (k.payload.drop 16 ≠ [])) ∧
    (∃ (k : Packet) (sid : Nat) (m : Memb) (s : State), (k.mark = false) ∧ (crcOk k = true) ∧ (addrSwitch k = some sid) ∧ (s.membOf sid (herdIx k) (herdPrefix k).step = some m) ∧ (s.memb m.queue m.index = some m) ∧ (m.applied.contains (herdPrefix k).chunk = false) ∧ (m.signals = []) ∧ (m.written (herdPrefix k).chunk < (herdPrefix k).pkt) ∧ (m.cpl = none)) ∧
    (∃ (k : Packet) (sid : Nat) (m : Memb) (s : State), (k.mark = false) ∧ (crcOk k = true) ∧ (addrSwitch k = some sid) ∧ (s.membOf sid (herdIx k) (herdPrefix k).step = some m) ∧ (s.memb m.queue m.index = some m) ∧ (m.applied.contains (herdPrefix k).chunk = false) ∧ (m.signals = []) ∧ ((herdPrefix k).pkt ≤ m.written (herdPrefix k).chunk) ∧ (m.cpl = none) ∧ (s.flag .ep SYN_CFG_ENABLE (synBank m.sync) = true) ∧ (s.synError .ep m.sync = false)) ∧
    (∃ (k : Packet) (sid : Nat) (m : Memb) (s : State), (k.mark = false) ∧ (crcOk k = true) ∧ (addrSwitch k = some sid) ∧ (s.membOf sid (herdIx k) (herdPrefix k).step = some m) ∧ (natAt k.payload 16 1 = stABORTED)) ∧
    (∃ (k : Packet) (sid : Nat) (m : Memb) (s : State), (k.mark = false) ∧ (crcOk k = true) ∧ (addrSwitch k = some sid) ∧ (s.membOf sid (herdIx k) (herdPrefix k).step = some m) ∧ (s.memb m.queue m.index = some m) ∧ (natAt k.payload 16 1 = stOK) ∧ (m.signals = [])) ∧
    (∃ (k : Packet) (m : Memb) (s : State), (k.mark = false) ∧ (crcOk k = true) ∧ (k.srcSw = true) ∧ (addrSwitch k = some k.src) ∧ (s.membOf k.src (herdIx k) (herdPrefix k).step = some m) ∧ ((herdPrefix k).chunk = 0)) ∧
    (∃ (k : Packet) (sid : Nat) (s : State), (k.mark = false) ∧ (crcOk k = true) ∧ (addrSwitch k = some sid) ∧ (s.membOf sid (herdIx k) (herdPrefix k).step = none)) :=
  ⟨⟨sealPkt { op := opHERD_RESULT, src := 1, ptn := 2, addr := targetForm 1 0x4000 3, payload := (HerdPrefix.mk 0 7 0 0 0).bytes ++ [1, 2, 3, 4, 5, 6, 7, 8] }, 0x4000, { queue := 3, index := 7, sid := 0x4000, herd := 3, step := 7, sync := 6, geo := { desc := [0 + 2 * 2 ^ 4 + 2 * 2 ^ 9 + 5 * 2 ^ 47, 0, 2 ^ 32, 1000, 8, 2 ^ 37 + 2 ^ 50, 0, 0], slots := [(0, (5, 0))] }, slot := 0, dst := 4096 }, ((up.put .ep UCI_STS_UP 1).onAg fun a => { a with membs := [{ queue := 3, index := 7, sid := 0x4000, herd := 3, step := 7, sync := 6, geo := { desc := [0 + 2 * 2 ^ 4 + 2 * 2 ^ 9 + 5 * 2 ^ 47, 0, 2 ^ 32, 1000, 8, 2 ^ 37 + 2 ^ 50, 0, 0], slots := [(0, (5, 0))] }, slot := 0, dst := 4096 }] }), by first | decide +kernel | rfl, by first | decide +kernel | rfl, by first | decide +kernel | rfl, by first | decide +kernel | rfl, by first | decide +kernel | rfl, by first | decide +kernel | rfl, by first | decide +kernel | rfl, by first | decide +kernel | rfl⟩,
   ⟨sealPkt { op := opHERD_COUNTS, src := 1, ptn := 2, addr := targetForm 1 0x4000 3, payload := (HerdPrefix.mk 0 7 0 1 0).bytes ++ List.replicate 16 0 }, 0x4000, { queue := 3, index := 7, sid := 0x4000, herd := 3, step := 7, sync := 6, geo := { desc := [6 + 5 * 2 ^ 47, 0, 2 ^ 32, 1000, 0, 2 ^ 37 + 2 ^ 50, 2 ^ 17, 2 ^ 34 * 1000], slots := [(0, (5, 0))] }, slot := 0, dst := 4096 }, ((up.put .ep UCI_STS_UP 1).onAg fun a => { a with membs := [{ queue := 3, index := 7, sid := 0x4000, herd := 3, step := 7, sync := 6, geo := { desc := [6 + 5 * 2 ^ 47, 0, 2 ^ 32, 1000, 0, 2 ^ 37 + 2 ^ 50, 2 ^ 17, 2 ^ 34 * 1000], slots := [(0, (5, 0))] }, slot := 0, dst := 4096 }] }), by first | decide +kernel | rfl, by first | decide +kernel | rfl, by first | decide +kernel | rfl, by first | decide +kernel | rfl, by first | decide +kernel | rfl, by first | decide +kernel | rfl⟩,
   ⟨sealPkt { op := opHERD_RECORD, src := 1, ptn := 2, addr := targetForm 1 0x4000 3, payload := (HerdPrefix.mk (chainSig [6 + 5 * 2 ^ 47, 0, 2 ^ 32, 1000, 0, 2 ^ 37 + 2 ^ 50, 2 ^ 17, 2 ^ 34]) 7 0 0 0).bytes ++ [1, 2] }, { queue := 3, index := 7, sid := 0x4000, herd := 3, step := 7, sync := 6, geo := { desc := [6 + 5 * 2 ^ 47, 0, 2 ^ 32, 1000, 0, 2 ^ 37 + 2 ^ 50, 2 ^ 17, 2 ^ 34], slots := [(0, (5, 0))] }, slot := 0, dst := 4096 }, ((up.put .ep UCI_STS_UP 1).onAg fun a => { a with membs := [{ queue := 3, index := 7, sid := 0x4000, herd := 3, step := 7, sync := 6, geo := { desc := [6 + 5 * 2 ^ 47, 0, 2 ^ 32, 1000, 0, 2 ^ 37 + 2 ^ 50, 2 ^ 17, 2 ^ 34], slots := [(0, (5, 0))] }, slot := 0, dst := 4096 }] }), by first | decide +kernel | rfl, by first | decide +kernel | rfl, by first | decide +kernel | rfl, by first | decide +kernel | rfl, by first | decide +kernel | rfl, by first | decide +kernel | rfl, by first | decide +kernel | rfl⟩,
   ⟨sealPkt { op := opHERD_SIGNAL, src := 1, ptn := 2, addr := targetForm 1 0x4000 3, payload := (HerdPrefix.mk 0 7 0 2 0).bytes }, 0x4000, { queue := 3, index := 7, sid := 0x4000, herd := 3, step := 7, sync := 6, geo := { desc := [0 + 2 * 2 ^ 4 + 2 * 2 ^ 9 + 5 * 2 ^ 47, 0, 2 ^ 32, 1000, 8, 2 ^ 37 + 2 ^ 50, 0, 0], slots := [(0, (5, 0))] }, slot := 0, dst := 4096 }, ((up.put .ep UCI_STS_UP 1).onAg fun a => { a with membs := [{ queue := 3, index := 7, sid := 0x4000, herd := 3, step := 7, sync := 6, geo := { desc := [0 + 2 * 2 ^ 4 + 2 * 2 ^ 9 + 5 * 2 ^ 47, 0, 2 ^ 32, 1000, 8, 2 ^ 37 + 2 ^ 50, 0, 0], slots := [(0, (5, 0))] }, slot := 0, dst := 4096 }] }), by first | decide +kernel | rfl, by first | decide +kernel | rfl, by first | decide +kernel | rfl, by first | decide +kernel | rfl, by first | decide +kernel | rfl, by first | decide +kernel | rfl, by first | decide +kernel | rfl, by first | decide +kernel | rfl, by first | decide +kernel | rfl⟩,
   ⟨sealPkt { op := opHERD_SIGNAL, src := 1, ptn := 2, addr := targetForm 1 0x4000 3, payload := (HerdPrefix.mk 0 7 0 2 0).bytes }, 0x4000, { queue := 3, index := 7, sid := 0x4000, herd := 3, step := 7, sync := 6, geo := { desc := [0 + 2 * 2 ^ 4 + 2 * 2 ^ 9 + 5 * 2 ^ 47, 0, 2 ^ 32, 1000, 8, 2 ^ 37 + 2 ^ 50, 0, 0], slots := [(0, (5, 0))] }, slot := 0, dst := 4096, got := [(0, 2)] }, ((up.put .ep UCI_STS_UP 1).onAg fun a => { a with membs := [{ queue := 3, index := 7, sid := 0x4000, herd := 3, step := 7, sync := 6, geo := { desc := [0 + 2 * 2 ^ 4 + 2 * 2 ^ 9 + 5 * 2 ^ 47, 0, 2 ^ 32, 1000, 8, 2 ^ 37 + 2 ^ 50, 0, 0], slots := [(0, (5, 0))] }, slot := 0, dst := 4096, got := [(0, 2)] }] }).wr .ep SYN_CFG 5 7, by first | decide +kernel | rfl, by first | decide +kernel | rfl, by first | decide +kernel | rfl, by first | decide +kernel | rfl, by first | decide +kernel | rfl, by first | decide +kernel | rfl, by first | decide +kernel | rfl, by first | decide +kernel | rfl, by first | decide +kernel | rfl, by first | decide +kernel | rfl, by first | decide +kernel | rfl⟩,
   ⟨sealPkt { op := opHERD_CPL, src := 1, ptn := 2, addr := targetForm 1 0x4000 3, payload := (HerdPrefix.mk 0 7 0 0 0).bytes ++ cplRecord stABORTED 0 2 false false 7 0 0 }, 0x4000, { queue := 3, index := 7, sid := 0x4000, herd := 3, step := 7, sync := 6, geo := { desc := [0 + 2 * 2 ^ 4 + 2 * 2 ^ 9 + 5 * 2 ^ 47, 0, 2 ^ 32, 1000, 8, 2 ^ 37 + 2 ^ 50, 0, 0], slots := [(0, (5, 0))] }, slot := 0, dst := 4096 }, ((up.put .ep UCI_STS_UP 1).onAg fun a => { a with membs := [{ queue := 3, index := 7, sid := 0x4000, herd := 3, step := 7, sync := 6, geo := { desc := [0 + 2 * 2 ^ 4 + 2 * 2 ^ 9 + 5 * 2 ^ 47, 0, 2 ^ 32, 1000, 8, 2 ^ 37 + 2 ^ 50, 0, 0], slots := [(0, (5, 0))] }, slot := 0, dst := 4096 }] }), by first | decide +kernel | rfl, by first | decide +kernel | rfl, by first | decide +kernel | rfl, by first | decide +kernel | rfl, by first | decide +kernel | rfl⟩,
   ⟨sealPkt { op := opHERD_CPL, src := 1, ptn := 2, addr := targetForm 1 0x4000 3, payload := (HerdPrefix.mk 0 7 0 0 0).bytes ++ cplRecord stOK 0 0 false false 7 0 0 }, 0x4000, { queue := 3, index := 7, sid := 0x4000, herd := 3, step := 7, sync := 6, geo := { desc := [0 + 2 * 2 ^ 4 + 2 * 2 ^ 9 + 5 * 2 ^ 47, 0, 2 ^ 32, 1000, 8, 2 ^ 37 + 2 ^ 50, 0, 0], slots := [(0, (5, 0))] }, slot := 0, dst := 4096 }, ((up.put .ep UCI_STS_UP 1).onAg fun a => { a with membs := [{ queue := 3, index := 7, sid := 0x4000, herd := 3, step := 7, sync := 6, geo := { desc := [0 + 2 * 2 ^ 4 + 2 * 2 ^ 9 + 5 * 2 ^ 47, 0, 2 ^ 32, 1000, 8, 2 ^ 37 + 2 ^ 50, 0, 0], slots := [(0, (5, 0))] }, slot := 0, dst := 4096 }] }), by first | decide +kernel | rfl, by first | decide +kernel | rfl, by first | decide +kernel | rfl, by first | decide +kernel | rfl, by first | decide +kernel | rfl, by first | decide +kernel | rfl, by first | decide +kernel | rfl⟩,
   ⟨sealPkt { op := opHERD_ABORT, src := 16384, ptn := 2, addr := targetForm 1 0x4000 3, payload := (HerdPrefix.mk 0 7 0 3 0).bytes, srcSw := true }, { queue := 3, index := 7, sid := 0x4000, herd := 3, step := 7, sync := 6, geo := { desc := [0 + 2 * 2 ^ 4 + 2 * 2 ^ 9 + 5 * 2 ^ 47, 0, 2 ^ 32, 1000, 8, 2 ^ 37 + 2 ^ 50, 0, 0], slots := [(0, (5, 0))] }, slot := 0, dst := 4096 }, ((up.put .ep UCI_STS_UP 1).onAg fun a => { a with membs := [{ queue := 3, index := 7, sid := 0x4000, herd := 3, step := 7, sync := 6, geo := { desc := [0 + 2 * 2 ^ 4 + 2 * 2 ^ 9 + 5 * 2 ^ 47, 0, 2 ^ 32, 1000, 8, 2 ^ 37 + 2 ^ 50, 0, 0], slots := [(0, (5, 0))] }, slot := 0, dst := 4096 }] }), by first | decide +kernel | rfl, by first | decide +kernel | rfl, by first | decide +kernel | rfl, by first | decide +kernel | rfl, by first | decide +kernel | rfl, by first | decide +kernel | rfl⟩,
   ⟨sealPkt { op := opHERD_SWAP, src := 1, ptn := 2, addr := targetForm 1 0x4000 3, payload := (HerdPrefix.mk 0 7 4 0 0).bytes }, 0x4000, up, by first | decide +kernel | rfl, by first | decide +kernel | rfl, by first | decide +kernel | rfl, by first | decide +kernel | rfl⟩⟩

/-- Something meets the conditions of each clause of `HostMemoryRowsComplete`. -/
theorem witness_HostMemoryRowsComplete :
    (∃ (dpa : Nat) (mv : Nat) (s : State), (s.cxlMem = true) ∧ (s.hostCheck (dpa / 64 * 64) = stOK) ∧ ((mv = 0 ∨ s.hostCaches ((dpa / 64 * 64 / 2 ^ 40) * 2 ^ 40 + (dpa / 64 * 64 % 2 ^ 40)) = false))) ∧
    (∃ (dpa : Nat) (mv : Nat) (s : State), (s.cxlMem = true) ∧ (s.hostCheck (dpa / 64 * 64) = stOK) ∧ (mv = 1) ∧ (s.hostCaches ((dpa / 64 * 64 / 2 ^ 40) * 2 ^ 40 + (dpa / 64 * 64 % 2 ^ 40)) = true)) ∧
    (∃ (dpa : Nat) (mv : Nat) (s : State), (s.cxlMem = true) ∧ (s.hostCheck (dpa / 64 * 64) = stOK) ∧ (2 ≤ mv) ∧ (s.hostCaches ((dpa / 64 * 64 / 2 ^ 40) * 2 ^ 40 + (dpa / 64 * 64 % 2 ^ 40)) = true) ∧ (s.sealedRange (dpa / 64 * 64 / 2 ^ 40) ((dpa / 64 * 64 % 2 ^ 40) / 128 * 128) 128 = false)) ∧
    (∃ (dpa : Nat) (s : State), (s.cxlMem = true) ∧ (s.hostCheck (dpa / 64 * 64) = stOK) ∧ (s.hostCaches ((dpa / 64 * 64 / 2 ^ 40) * 2 ^ 40 + (dpa / 64 * 64 % 2 ^ 40)) = true) ∧ (s.sealedRange (dpa / 64 * 64 / 2 ^ 40) ((dpa / 64 * 64 % 2 ^ 40) / 128 * 128) 128 = false)) ∧
    (∃ (dpa : Nat) (mask : Nat) (data : List Byte) (s : State), (s.cxlMem = true) ∧ (s.hostCheck (dpa / 64 * 64) = stOK) ∧ (s.hostSlot.all s.snoopsInTime = true) ∧ ((s.ownsLine (lineKey (dpa / 64 * 64 / 2 ^ 40) ((dpa / 64 * 64 % 2 ^ 40) / 128)) s.hostSlot && ((s.dirAt (lineKey (dpa / 64 * 64 / 2 ^ 40) ((dpa / 64 * 64 % 2 ^ 40) / 128))).elim 0 (·.halves)).testBit (bitsOf (dpa / 64 * 64 % 2 ^ 40) 6 1)) = false) ∧ (s.sealedRange (dpa / 64 * 64 / 2 ^ 40) (dpa / 64 * 64 % 2 ^ 40) 64 = false)) ∧
    (∃ (dpa : Nat) (mask : Nat) (data : List Byte) (s : State), (s.cxlMem = true) ∧ (s.hostCheck (dpa / 64 * 64) = stOK) ∧ (s.hostSlot.all s.snoopsInTime = true) ∧ ((s.ownsLine (lineKey (dpa / 64 * 64 / 2 ^ 40) ((dpa / 64 * 64 % 2 ^ 40) / 128)) s.hostSlot && ((s.dirAt (lineKey (dpa / 64 * 64 / 2 ^ 40) ((dpa / 64 * 64 % 2 ^ 40) / 128))).elim 0 (·.halves)).testBit (bitsOf (dpa / 64 * 64 % 2 ^ 40) 6 1)) = true) ∧ (s.ptnBacked (dpa / 64 * 64 / 2 ^ 40) = false) ∧ (lookup s.sw.pool.decay (s.hbmLine (dpa / 64 * 64 / 2 ^ 40) ((dpa / 64 * 64 % 2 ^ 40) / 128)) ≠ some true)) :=
  ⟨⟨2 * 2 ^ 40 + 384, 0, (((((((((up.put .sw POL_PTN_STS_STATE 1 3).wr .sw CTX_ENTRY 5 6).wr .sw PTN_ENTRY 1 3).put .sw PTN_ENTRY_SIZE_M1 0 3).put .sw CXU_STS_UP 1).put .sw CXU_STS_CXL_MODE 1).put .sw PTN_ENTRY_HOST_CTX 5 3).put .sw CTX_ENTRY_HOST 1 6).put .sw PTN_ENTRY_OWNER 0 3), by first | decide +kernel | rfl, by first | decide +kernel | rfl, by first | decide +kernel | rfl⟩,
   ⟨2 * 2 ^ 40 + 384, 1, (((((((((((((((((up.put .sw POL_PTN_STS_STATE 1 3).wr .sw CTX_ENTRY 5 6).wr .sw PTN_ENTRY 1 3).put .sw PTN_ENTRY_SIZE_M1 0 3).put .sw CXU_STS_UP 1).put .sw CXU_STS_CXL_MODE 1).put .sw PTN_ENTRY_HOST_CTX 5 3).put .sw CTX_ENTRY_HOST 1 6).put .sw PTN_ENTRY_OWNER 0 3).put .sw PTN_ENTRY_CACHEABLE 1 3).put .sw CXU_STS_BI_EN 1).put .sw CXU_HDM_VIEW_COMMITTED 1 1).put .sw CXU_HDM_VIEW_DB 1 1).put .sw CXU_HDM_VIEW_PARTITION 2 1).put .sw CXU_HDM_VIEW_SLICES 1 1).put .sw DIR_AGT_STS_STATE 1 2).wr .sw DIR_AGT_ENTRY 3 2), by first | decide +kernel | rfl, by first | decide +kernel | rfl, by first | decide +kernel | rfl, by first | decide +kernel | rfl⟩,
   ⟨2 * 2 ^ 40 + 384, 3, (((((((((((((((((up.put .sw POL_PTN_STS_STATE 1 3).wr .sw CTX_ENTRY 5 6).wr .sw PTN_ENTRY 1 3).put .sw PTN_ENTRY_SIZE_M1 0 3).put .sw CXU_STS_UP 1).put .sw CXU_STS_CXL_MODE 1).put .sw PTN_ENTRY_HOST_CTX 5 3).put .sw CTX_ENTRY_HOST 1 6).put .sw PTN_ENTRY_OWNER 0 3).put .sw PTN_ENTRY_CACHEABLE 1 3).put .sw CXU_STS_BI_EN 1).put .sw CXU_HDM_VIEW_COMMITTED 1 1).put .sw CXU_HDM_VIEW_DB 1 1).put .sw CXU_HDM_VIEW_PARTITION 2 1).put .sw CXU_HDM_VIEW_SLICES 1 1).put .sw DIR_AGT_STS_STATE 1 2).wr .sw DIR_AGT_ENTRY 3 2), by first | decide +kernel | rfl, by first | decide +kernel | rfl, by first | decide +kernel | rfl, by first | decide +kernel | rfl, by first | decide +kernel | rfl⟩,
   ⟨2 * 2 ^ 40 + 384, (((((((((((((((((up.put .sw POL_PTN_STS_STATE 1 3).wr .sw CTX_ENTRY 5 6).wr .sw PTN_ENTRY 1 3).put .sw PTN_ENTRY_SIZE_M1 0 3).put .sw CXU_STS_UP 1).put .sw CXU_STS_CXL_MODE 1).put .sw PTN_ENTRY_HOST_CTX 5 3).put .sw CTX_ENTRY_HOST 1 6).put .sw PTN_ENTRY_OWNER 0 3).put .sw PTN_ENTRY_CACHEABLE 1 3).put .sw CXU_STS_BI_EN 1).put .sw CXU_HDM_VIEW_COMMITTED 1 1).put .sw CXU_HDM_VIEW_DB 1 1).put .sw CXU_HDM_VIEW_PARTITION 2 1).put .sw CXU_HDM_VIEW_SLICES 1 1).put .sw DIR_AGT_STS_STATE 1 2).wr .sw DIR_AGT_ENTRY 3 2), by first | decide +kernel | rfl, by first | decide +kernel | rfl, by first | decide +kernel | rfl, by first | decide +kernel | rfl⟩,
   ⟨2 * 2 ^ 40 + 384, 1, [7], (((((((((up.put .sw POL_PTN_STS_STATE 1 3).wr .sw CTX_ENTRY 5 6).wr .sw PTN_ENTRY 1 3).put .sw PTN_ENTRY_SIZE_M1 0 3).put .sw CXU_STS_UP 1).put .sw CXU_STS_CXL_MODE 1).put .sw PTN_ENTRY_HOST_CTX 5 3).put .sw CTX_ENTRY_HOST 1 6).put .sw PTN_ENTRY_OWNER 0 3), by first | decide +kernel | rfl, by first | decide +kernel | rfl, by first | decide +kernel | rfl, by first | decide +kernel | rfl, by first | decide +kernel | rfl⟩,
   ⟨2 * 2 ^ 40 + 384, 1, [7], ((((((((((((((((((up.put .sw POL_PTN_STS_STATE 1 3).wr .sw CTX_ENTRY 5 6).wr .sw PTN_ENTRY 1 3).put .sw PTN_ENTRY_SIZE_M1 0 3).put .sw CXU_STS_UP 1).put .sw CXU_STS_CXL_MODE 1).put .sw PTN_ENTRY_HOST_CTX 5 3).put .sw CTX_ENTRY_HOST 1 6).put .sw PTN_ENTRY_OWNER 0 3).put .sw PTN_ENTRY_CACHEABLE 1 3).put .sw CXU_STS_BI_EN 1).put .sw CXU_HDM_VIEW_COMMITTED 1 1).put .sw CXU_HDM_VIEW_DB 1 1).put .sw CXU_HDM_VIEW_PARTITION 2 1).put .sw CXU_HDM_VIEW_SLICES 1 1).put .sw DIR_AGT_STS_STATE 1 2).wr .sw DIR_AGT_ENTRY 3 2).onPool fun q => { q with dir := [(lineKey 2 3, { excl := true, sharers := 2, halves := 1, used := 0 })] }), by first | decide +kernel | rfl, by first | decide +kernel | rfl, by first | decide +kernel | rfl, by first | decide +kernel | rfl, by first | decide +kernel | rfl, by first | decide +kernel | rfl⟩⟩

/-- Something meets the conditions of each clause of `HostPortRowsComplete`. -/
theorem witness_HostPortRowsComplete :
    (∃ (width : Nat) (rate : Nat) (cxl : Bool) (s : State), (s.swc.inReset = false) ∧ (9 ≤ s.swc.step) ∧ (s.flag .sw CXU_STS_UP = false) ∧ ([1, 2, 4, 8, 16].contains width = true)) ∧
    (∃ (cause : Nat) (s : State), (s.flag .sw CXU_STS_UP = true) ∧ (s.hostSlot = none)) ∧
    (∃ (cause : Nat) (i : Nat) (s : State), (s.flag .sw CXU_STS_UP = true) ∧ (s.hostSlot = some i) ∧ (s.slotState i = 1)) ∧
    (∃ (s : State), (s.flag .sw CXU_STS_UP = true) ∧ ((s.flag .sw CXU_STS_IDE_IO || s.flag .sw CXU_STS_IDE_CM) = true) ∧ (s.hostSlot = none)) ∧
    (∃ (dec : Nat) (hpa : Nat) (dpa : Nat) (size : Nat) (ways : Nat) (db : Bool) (s : State), (s.cxlMem = true) ∧ (dec < 32) ∧ (s.tspLocked = false) ∧ (s.hdmBad dpa size ways db = false)) ∧
    (∃ (path : Path) (v : Bool) (s : State), (s.writeOpen path .sw pgCxu 0x40 = true) ∧ (s.tspLocked = false) ∧ (v = true)) ∧
    (∃ (path : Path) (v : Bool) (s : State), (s.writeOpen path .sw pgCxu 0x40 = true) ∧ (s.tspLocked = false) ∧ (v = false) ∧ (s.anyDb = false)) ∧
    (∃ (desc : List Byte) (n : Nat) (ns : List Nat) (s : State), (s.flag .sw CXU_STS_UP = true) ∧ (desc.length = 32) ∧ (s.flag .sw HDR_PAGE_CTL_FENCE 0 pgCxu = false) ∧ (lookup s.swc.pageResets pgCxu = none) ∧ (s.flag .sw CXU_INV_CFG_ENABLE = true) ∧ (s.invOut < 64) ∧ ((bitsOf (leNat desc) 33 1 = 1 ∨ bitsOf (leNat desc) 128 32 ≠ 0)) ∧ (bitsOf (leNat desc) 34 30 = 0) ∧ (bitsOf (leNat desc) 64 21 = 0) ∧ (bitsOf (leNat desc) 116 12 = 0) ∧ (bitsOf (leNat desc) 160 96 = 0) ∧ (s.get .sw PTN_ENTRY_OWNER ((bitsOf (leNat desc) 16 6) + 1) ≠ 1) ∧ (s.ptnState (bitsOf (leNat desc) 16 6) = 1) ∧ (s.memberSet (bitsOf (leNat desc) 16 6) = n :: ns) ∧ ((n :: ns).all s.portUpTo = true)) ∧
    (∃ (desc : List Byte) (s : State), (s.flag .sw CXU_STS_UP = true) ∧ (desc.length = 32) ∧ (s.flag .sw HDR_PAGE_CTL_FENCE 0 pgCxu = false) ∧ (lookup s.swc.pageResets pgCxu = none) ∧ (s.flag .sw CXU_INV_CFG_ENABLE = true) ∧ (s.invOut < 64) ∧ ((bitsOf (leNat desc) 33 1 = 1 ∨ bitsOf (leNat desc) 128 32 ≠ 0)) ∧ (bitsOf (leNat desc) 34 30 = 0) ∧ (bitsOf (leNat desc) 64 21 = 0) ∧ (bitsOf (leNat desc) 116 12 = 0) ∧ (bitsOf (leNat desc) 160 96 = 0) ∧ (s.get .sw PTN_ENTRY_OWNER ((bitsOf (leNat desc) 16 6) + 1) ≠ 1) ∧ (s.ptnState (bitsOf (leNat desc) 16 6) = 2)) :=
  ⟨⟨16, 0, true, up, by first | decide +kernel | rfl, by first | decide +kernel | rfl, by first | decide +kernel | rfl, by first | decide +kernel | rfl⟩,
   ⟨0, up.put .sw CXU_STS_UP 1, by first | decide +kernel | rfl, by first | decide +kernel | rfl⟩,
   ⟨0, 1, (((((((((((((((((up.put .sw POL_PTN_STS_STATE 1 3).wr .sw CTX_ENTRY 5 6).wr .sw PTN_ENTRY 1 3).put .sw PTN_ENTRY_SIZE_M1 0 3).put .sw CXU_STS_UP 1).put .sw CXU_STS_CXL_MODE 1).put .sw PTN_ENTRY_HOST_CTX 5 3).put .sw CTX_ENTRY_HOST 1 6).put .sw PTN_ENTRY_OWNER 0 3).put .sw PTN_ENTRY_CACHEABLE 1 3).put .sw CXU_STS_BI_EN 1).put .sw CXU_HDM_VIEW_COMMITTED 1 1).put .sw CXU_HDM_VIEW_DB 1 1).put .sw CXU_HDM_VIEW_PARTITION 2 1).put .sw CXU_HDM_VIEW_SLICES 1 1).put .sw DIR_AGT_STS_STATE 1 2).wr .sw DIR_AGT_ENTRY 3 2), by first | decide +kernel | rfl, by first | decide +kernel | rfl, by first | decide +kernel | rfl⟩,
   ⟨(up.put .sw CXU_STS_UP 1).put .sw CXU_STS_IDE_CM 1, by first | decide +kernel | rfl, by first | decide +kernel | rfl, by first | decide +kernel | rfl⟩,
   ⟨31, 0, 2 * 2 ^ 40, 2 ^ 28, 1, false, (((((((((up.put .sw POL_PTN_STS_STATE 1 3).wr .sw CTX_ENTRY 5 6).wr .sw PTN_ENTRY 1 3).put .sw PTN_ENTRY_SIZE_M1 0 3).put .sw CXU_STS_UP 1).put .sw CXU_STS_CXL_MODE 1).put .sw PTN_ENTRY_HOST_CTX 5 3).put .sw CTX_ENTRY_HOST 1 6).put .sw PTN_ENTRY_OWNER 0 3), by first | decide +kernel | rfl, by first | decide +kernel | rfl, by first | decide +kernel | rfl, by first | decide +kernel | rfl⟩,
   ⟨.host, true, up, by first | decide +kernel | rfl, by first | decide +kernel | rfl, by first | decide +kernel | rfl⟩,
   ⟨.host, false, up.put .sw CXU_STS_BI_EN 1, by first | decide +kernel | rfl, by first | decide +kernel | rfl, by first | decide +kernel | rfl, by first | decide +kernel | rfl⟩,
   ⟨leBytes 32 (9 + 2 * 2 ^ 16 + 5 * 2 ^ 22 + 2 ^ 33), 1, [], ((((((((((((up.put .sw POL_PTN_STS_STATE 1 3).wr .sw CTX_ENTRY 5 6).wr .sw PTN_ENTRY 1 3).put .sw PTN_ENTRY_SIZE_M1 0 3).put .sw CXU_STS_UP 1).put .sw CXU_STS_CXL_MODE 1).put .sw PTN_ENTRY_HOST_CTX 5 3).put .sw CTX_ENTRY_HOST 1 6).put .sw PTN_ENTRY_OWNER 0 3).put .sw CXU_INV_CFG_ENABLE 1).wr .sw PTN_ROS_ENTRY 3 1).wr .sw PTN_ROS_MASK 4 1).put .sw RTE_PORT_STS_STATE 2 2, by first | decide +kernel | rfl, by first | decide +kernel | rfl, by first | decide +kernel | rfl, by first | decide +kernel | rfl, by first | decide +kernel | rfl, by first | decide +kernel | rfl, by first | decide +kernel | rfl, by first | decide +kernel | rfl, by first | decide +kernel | rfl, by first | decide +kernel | rfl, by first | decide +kernel | rfl, by first | decide +kernel | rfl, by first | decide +kernel | rfl, by first | decide +kernel | rfl, by first | decide +kernel | rfl⟩,
   ⟨leBytes 32 (9 + 2 * 2 ^ 16 + 5 * 2 ^ 22 + 2 ^ 33), ((((((((((up.put .sw POL_PTN_STS_STATE 1 3).wr .sw CTX_ENTRY 5 6).wr .sw PTN_ENTRY 1 3).put .sw PTN_ENTRY_SIZE_M1 0 3).put .sw CXU_STS_UP 1).put .sw CXU_STS_CXL_MODE 1).put .sw PTN_ENTRY_HOST_CTX 5 3).put .sw CTX_ENTRY_HOST 1 6).put .sw PTN_ENTRY_OWNER 0 3).put .sw CXU_INV_CFG_ENABLE 1).put .sw POL_PTN_STS_STATE 2 3, by first | decide +kernel | rfl, by first | decide +kernel | rfl, by first | decide +kernel | rfl, by first | decide +kernel | rfl, by first | decide +kernel | rfl, by first | decide +kernel | rfl, by first | decide +kernel | rfl, by first | decide +kernel | rfl, by first | decide +kernel | rfl, by first | decide +kernel | rfl, by first | decide +kernel | rfl, by first | decide +kernel | rfl, by first | decide +kernel | rfl⟩⟩

/-- Something meets the conditions of each clause of `HostFunctionRowsComplete`. -/
theorem witness_HostFunctionRowsComplete :
    (∃ (s : State), (s.flag .sw CXU_STS_UP = true)) ∧
    (∃ (s : State), (s.flag .sw CXU_STS_UP = true)) ∧
    (∃ (s : State), (s.flag .sw CXU_STS_UP = true)) ∧
    (∃ (s : State), (s.flag .sw CXU_STS_UP = true)) ∧
    (∃ (all : Bool) (handles : List Nat) (s : State), (s.flag .sw CXU_STS_UP = true)) ∧
    (∃ (s : State), (s.flag .sw CXU_STS_UP = true)) ∧
    (∃ (v : Nat) (s : State), (s.flag .sw CXU_STS_UP = true)) ∧
    (∃ (s : State), (s.flag .sw CXU_STS_UP = true)) ∧
    (∃ (s : State), (s.flag .sw CXU_STS_UP = true)) ∧
    (∃ (v : Nat) (s : State), (s.flag .sw CXU_STS_UP = true)) ∧
    (∃ (s : State), (s.flag .sw CXU_STS_UP = true)) ∧
    (∃ (s : State), (s.flag .sw CXU_STS_UP = true) ∧ ((lookup s.swc.spdm 0).any (·.2 == 2) = true)) ∧
    (∃ (s : State), (s.flag .sw CXU_STS_UP = true) ∧ ((lookup s.swc.spdm 0).any (·.2 == 2) = true)) ∧
    (∃ (v : Nat) (s : State), (s.flag .sw CXU_STS_UP = true) ∧ ((lookup s.swc.spdm 0).any (·.2 == 2) = true) ∧ (s.tspLocked = false)) ∧
    (∃ (s : State), (s.flag .sw CXU_STS_UP = true) ∧ ((lookup s.swc.spdm 0).any (·.2 == 2) = true) ∧ (s.get .sw CXU_STS_TSP = 0)) ∧
    (∃ (s : State), (s.flag .sw CXU_STS_UP = true) ∧ ((lookup s.swc.spdm 0).any (·.2 == 2) = true)) ∧
    (∃ (s : State), (s.flag .sw CXU_STS_UP = true) ∧ ((lookup s.swc.spdm 0).any (·.2 == 2) = true)) ∧
    (∃ (n : Nat) (serial : Nat) (bytes : Nat) (ide : Bool) (width : Nat) (rate : Nat) (s : State), (s.cxdMay n = true) ∧ (2 ^ 28 ≤ bytes) ∧ ((s.flag .sw CXD_CFG_IDE_REQUIRE 0 n = false ∨ ide = true)) ∧ (s.flag .sw CXD_STS_FAULT_HELD 0 n = false) ∧ ((lookup s.sw.pool.serials n = none ∨ lookup s.sw.pool.serials n = some serial)) ∧ (s.bulkUp n = false) ∧ (s.get .sw CXD_STS_FAULT 0 n ≠ 6)) ∧
    (∃ (path : Path) (n : Nat) (serial : Nat) (bytes : Nat) (ide : Nat) (width : Nat) (rate : Nat) (s : State), (s.writeOpen path .sw (pgCxd + n) 0x48 = true) ∧ (lookup s.sw.cxl.devices n = some [0, serial, bytes, ide, width, rate]) ∧ (s.bulkUp n = false) ∧ (s.cxdMay n = true) ∧ (2 ^ 28 ≤ bytes) ∧ ((s.flag .sw CXD_CFG_IDE_REQUIRE 0 n = false ∨ ide ≠ 0)) ∧ (s.flag .sw CXD_STS_FAULT_HELD 0 n = false) ∧ ((lookup s.sw.pool.serials n = none ∨ lookup s.sw.pool.serials n = some serial))) :=
  ⟨⟨up.put .sw CXU_STS_UP 1, by first | decide +kernel | rfl⟩,
   ⟨up.put .sw CXU_STS_UP 1, by first | decide +kernel | rfl⟩,
   ⟨up.put .sw CXU_STS_UP 1, by first | decide +kernel | rfl⟩,
   ⟨(up.put .sw CXU_STS_UP 1).onCxl fun c => { c with events := [(0, 3)] }, by first | decide +kernel | rfl⟩,
   ⟨false, [0], (up.put .sw CXU_STS_UP 1).onCxl fun c => { c with events := [(0, 3)] }, by first | decide +kernel | rfl⟩,
   ⟨up.put .sw CXU_STS_UP 1, by first | decide +kernel | rfl⟩,
   ⟨257, up.put .sw CXU_STS_UP 1, by first | decide +kernel | rfl⟩,
   ⟨up.put .sw CXU_STS_UP 1, by first | decide +kernel | rfl⟩,
   ⟨up.put .sw CXU_STS_UP 1, by first | decide +kernel | rfl⟩,
   ⟨5, up.put .sw CXU_STS_UP 1, by first | decide +kernel | rfl⟩,
   ⟨up.put .sw CXU_STS_UP 1, by first | decide +kernel | rfl⟩,
   ⟨(up.put .sw CXU_STS_UP 1).onChip .sw fun c => { c with spdm := [(0, (3, 2))] }, by first | decide +kernel | rfl, by first | decide +kernel | rfl⟩,
   ⟨(up.put .sw CXU_STS_UP 1).onChip .sw fun c => { c with spdm := [(0, (3, 2))] }, by first | decide +kernel | rfl, by first | decide +kernel | rfl⟩,
   ⟨6, ((up.put .sw CXU_STS_UP 1).onChip .sw fun c => { c with spdm := [(0, (3, 2))] }).put .sw CXU_STS_TSP 2, by first | decide +kernel | rfl, by first | decide +kernel | rfl, by first | decide +kernel | rfl⟩,
   ⟨(up.put .sw CXU_STS_UP 1).onChip .sw fun c => { c with spdm := [(0, (3, 2))] }, by first | decide +kernel | rfl, by first | decide +kernel | rfl, by first | decide +kernel | rfl⟩,
   ⟨(up.put .sw CXU_STS_UP 1).onChip .sw fun c => { c with spdm := [(0, (3, 2))] }, by first | decide +kernel | rfl, by first | decide +kernel | rfl⟩,
   ⟨(up.put .sw CXU_STS_UP 1).onChip .sw fun c => { c with spdm := [(0, (3, 2))] }, by first | decide +kernel | rfl, by first | decide +kernel | rfl⟩,
   ⟨1, 77, 2 ^ 30, true, 0, 0, ((((up.put .sw POL_PTN_STS_STATE 1 3).wr .sw CTX_ENTRY 5 6).wr .sw PTN_ENTRY 1 3).put .sw PTN_ENTRY_SIZE_M1 0 3), by first | decide +kernel | rfl, by first | decide +kernel | rfl, by first | decide +kernel | rfl, by first | decide +kernel | rfl, by first | decide +kernel | rfl, by first | decide +kernel | rfl, by first | decide +kernel | rfl⟩,
   ⟨.host, 1, 77, 2 ^ 30, 1, 4, 0, (((((up.put .sw POL_PTN_STS_STATE 1 3).wr .sw CTX_ENTRY 5 6).wr .sw PTN_ENTRY 1 3).put .sw PTN_ENTRY_SIZE_M1 0 3).onCxl fun c => { c with devices := [(1, [0, 77, 2 ^ 30, 1, 4, 0])] }), by first | decide +kernel | rfl, by first | decide +kernel | rfl, by first | decide +kernel | rfl, by first | decide +kernel | rfl, by first | decide +kernel | rfl, by first | decide +kernel | rfl, by first | decide +kernel | rfl, by first | decide +kernel | rfl⟩⟩

/-- Something meets the conditions of each clause of `StagingRowsComplete`. -/
theorem witness_StagingRowsComplete :
    (∃ (path : Path) (scope : Nat) (s : State), (s.writeOpen path .sw pgDct 0x50 = true) ∧ (s.dctState = 0) ∧ (scope % 128 ≤ 65) ∧ (s.secHalted .sw = false)) ∧
    (∃ (path : Path) (x : Word) (s : State), (s.writeOpen path .sw pgDct 0x68 = true) ∧ (s.mayStage path = true) ∧ (s.get .sw DCT_REC_IDX_INDEX < 1023) ∧ (s.recCount < 1024)) ∧
    (∃ (path : Path) (s : State), (s.writeOpen path .sw pgDct 0x50 = true) ∧ (s.mayStage path = true) ∧ (s.recCount ≠ 0) ∧ (s.sw.dct.scope < 64) ∧ (s.sigNeeded 1 = true) ∧ (s.sigOk 1 = false)) ∧
    (∃ (path : Path) (s : State), (s.writeOpen path .sw pgDct 0x50 = true) ∧ (s.dctState ≠ 0)) ∧
    (∃ (path : Path) (role : Nat) (s : State), (s.writeOpen path .sw pgDct 0xC0 = true) ∧ (rolePath (role % 2) path = true)) ∧
    (∃ (path : Path) (x : Word) (s : State), (s.writeOpen path .sw pgDct 0xC8 = true) ∧ (path = .host ∨ path = .sideband)) ∧
    (∃ (path : Path) (role : Nat) (s : State), (s.writeOpen path .sw pgDct 0xC0 = true) ∧ (rolePath (role % 2) path = true) ∧ (s.dctState = 2) ∧ (s.secHalted .sw = false) ∧ (s.sigOk (role % 2) = false) ∧ (s.windowOver = false)) ∧
    (∃ (g : Sig) (rest : List Sig) (s : State), (s.secHalted .sw = false) ∧ (s.sw.dct.sigs = g :: rest) ∧ (g.role < 2) ∧ (s.sigOk g.role = false) ∧ (s.dctState = 2) ∧ (s.sigNeeded (1 - g.role) = true) ∧ (s.sigOk (1 - g.role) = false) ∧ (s.get .sw DCT_STS_FAILS < 3) ∧ (s.windowOver = false)) ∧
    (∃ (s : State), (s.windowOver = true) ∧ (s.stillArriving = false)) :=
  ⟨⟨.host, 64, up, by first | decide +kernel | rfl, by first | decide +kernel | rfl, by first | decide +kernel | rfl, by first | decide +kernel | rfl⟩,
   ⟨.host, 5, (up.put .sw DCT_STS_STATE 1), by first | decide +kernel | rfl, by first | decide +kernel | rfl, by first | decide +kernel | rfl, by first | decide +kernel | rfl⟩,
   ⟨.host, ((up.put .sw DCT_STS_STATE 1).put .sw DCT_REC_IDX_COUNT 1), by first | decide +kernel | rfl, by first | decide +kernel | rfl, by first | decide +kernel | rfl, by first | decide +kernel | rfl, by first | decide +kernel | rfl, by first | decide +kernel | rfl⟩,
   ⟨.sideband, (up.put .sw DCT_STS_STATE 1), by first | decide +kernel | rfl, by first | decide +kernel | rfl⟩,
   ⟨.sideband, 3, up.onDct fun d => { d with bufBmc := [1] }, by first | decide +kernel | rfl, by first | decide +kernel | rfl⟩,
   ⟨.host, 5, up, by first | decide +kernel | rfl, by first | decide +kernel | rfl⟩,
   ⟨.host, 0, (up.put .sw DCT_STS_STATE 2).onDct fun d => { d with bufHost := [1] }, by first | decide +kernel | rfl, by first | decide +kernel | rfl, by first | decide +kernel | rfl, by first | decide +kernel | rfl, by first | decide +kernel | rfl, by first | decide +kernel | rfl⟩,
   ⟨⟨0, [], 0⟩, [], (up.put .sw DCT_STS_STATE 2).onDct fun d => { d with sigs := [⟨0, [], 0⟩], opKeys := [[1]] }, by first | decide +kernel | rfl, by first | decide +kernel | rfl, by first | decide +kernel | rfl, by first | decide +kernel | rfl, by first | decide +kernel | rfl, by first | decide +kernel | rfl, by first | decide +kernel | rfl, by first | decide +kernel | rfl, by first | decide +kernel | rfl⟩,
   ⟨(up.put .sw DCT_STS_STATE 2).onChip .sw fun c => { c with ltc := 0xFFFFFFFFFFF }, by first | decide +kernel | rfl, by first | decide +kernel | rfl⟩⟩

/-- Something meets the conditions of each clause of `BindingRowsComplete`. -/
theorem witness_BindingRowsComplete :
    (∃ (n : Nat) (d : Delivery) (s : State), (lookup s.sw.dct.pend n = some d) ∧ (s.due .sw d.at_ 175000 = true) ∧ (s.secHalted .sw = false)) ∧
    (∃ (n : Nat) (s : State), ((lookup s.sw.dct.pend n).isSome = true)) ∧
    (∃ (link : Nat) (sid : Nat) (seq : Word) (ctxs : List (Nat × Word)) (mask : Word) (digest : List Byte) (s : State), (s.ep.rly.mesh = false) ∧ (link = 0) ∧ (s.stage .ep 0 = 5) ∧ ((upTo 8).any (fun k => s.rd .ep (SEC_PEER.word k) 1 != 0) = true) ∧ ((upTo 8).all (fun k => s.rd .ep (SEC_PEER.word k) 1 == BitVec.ofNat 64 (natAt digest (8 * k) 8)) = true)) ∧
    (∃ (s : State), (s.flag .sw DCT_STS_IMG_STALE = true) ∧ (s.secHalted .sw = false)) ∧
    (∃ (path : Path) (p : Part) (page : Nat) (s : State), (s.writeOpen path p page 0x08 = true) ∧ (s.flag p HDR_PAGE_CTL_FENCE 0 page = false) ∧ (resetRefused (pageCode p page) = false)) ∧
    (∃ (path : Path) (p : Part) (page : Nat) (s : State), (s.writeOpen path p page 0x08 = true)) ∧
    (∃ (path : Path) (p : Part) (page : Nat) (x : Word) (s : State), (s.writeOpen path p page 0x18 = true)) ∧
    (∃ (path : Path) (p : Part) (page : Nat) (x : Word) (s : State), (s.writeOpen path p page 0x28 = true)) ∧
    (∃ (path : Path) (p : Part) (s : State), (s.writeOpen path p pgErr 0x48 = true)) ∧
    (∃ (path : Path) (p : Part) (s : State), (pathServes path p = true) ∧ (path ≠ .remote)) ∧
    (∃ (len : Nat) (s : State), (s.swc.standbyUp = true) ∧ (s.pldmServes true = none) ∧ (s.sw.fw.staging = none)) ∧
    (∃ (slot : Nat) (s : State), (s.swc.standbyUp = true) ∧ (s.pldmServes true = none) ∧ (s.actState = 0 ∨ s.actState = 5) ∧ (lookup s.sw.fw.staged 2 = some slot) ∧ (s.get .sw PWR_STS_LEVEL = 0)) ∧
    (∃ (s : State), (s.swc.standbyUp = true) ∧ (s.mainServes = true) ∧ (s.cpuUp 3 = true) ∧ (s.actState = 1 ∨ s.actState = 2)) ∧
    (∃ (s : State), (s.swc.standbyUp = true) ∧ (s.mainServes = true) ∧ (s.cpuServes 3 = true ∨ s.flag .sw MGT_CORE_STS_RECOVERY = true)) ∧
    (∃ (s : State), (s.swc.standbyUp = true) ∧ (s.mainServes = false)) :=
  ⟨⟨1, ⟨0, true, [3]⟩, (up.onDct fun d => { d with pend := [(1, ⟨0, true, [3]⟩)] }).onChip .sw fun c => { c with ltc := 175000 }, by first | decide +kernel | rfl, by first | decide +kernel | rfl, by first | decide +kernel | rfl⟩,
   ⟨1, up.onDct fun d => { d with pend := [(1, ⟨0, true, [3]⟩)] }, by first | decide +kernel | rfl⟩,
   ⟨0, 9, 7, [(3, 5)], 4, leBytes 64 5, (up.put .ep FPT_STS_STAGE 5 0 0).wr .ep (SEC_PEER.word 0) 5 1, by first | decide +kernel | rfl, by first | decide +kernel | rfl, by first | decide +kernel | rfl, by first | decide +kernel | rfl, by first | decide +kernel | rfl⟩,
   ⟨up.put .sw DCT_STS_IMG_STALE 1, by first | decide +kernel | rfl, by first | decide +kernel | rfl⟩,
   ⟨.host, .sw, 0x13, up.wr .sw HDR_INT_CAUSE 3 0 0x13, by first | decide +kernel | rfl, by first | decide +kernel | rfl, by first | decide +kernel | rfl⟩,
   ⟨.host, .sw, 0x13, up, by first | decide +kernel | rfl⟩,
   ⟨.host, .sw, 0x13, 0x80000001, up, by first | decide +kernel | rfl⟩,
   ⟨.host, .sw, 0x13, 0x80000001, up, by first | decide +kernel | rfl⟩,
   ⟨.host, .sw, up.put .sw ERR_LOG_STS_DROPS 4, by first | decide +kernel | rfl⟩,
   ⟨.host, .sw, up.onChip .sw fun c => { c with log := [⟨0x901, 2, none, false, 3, 0, 0, 9, 1, 2⟩] }, by first | decide +kernel | rfl, by first | decide +kernel | rfl⟩,
   ⟨9, up, by first | decide +kernel | rfl, by first | decide +kernel | rfl, by first | decide +kernel | rfl⟩,
   ⟨1, (((up.put .sw MGT_HB_STS_ARMED 1).wr .sw MGT_FEAT 15).onFw fun f => { f with staged := [(2, 1)] }), by first | decide +kernel | rfl, by first | decide +kernel | rfl, by first | decide +kernel | rfl, by first | decide +kernel | rfl, by first | decide +kernel | rfl⟩,
   ⟨up.put .sw MGT_FW_STS_ACT_STATE 2, by first | decide +kernel | rfl, by first | decide +kernel | rfl, by first | decide +kernel | rfl, by first | decide +kernel | rfl⟩,
   ⟨up, by first | decide +kernel | rfl, by first | decide +kernel | rfl, by first | decide +kernel | rfl⟩,
   ⟨up.onChip .sw fun c => { c with mainUp := false, inReset := true, rstLow := true }, by first | decide +kernel | rfl, by first | decide +kernel | rfl⟩⟩

/-- Something meets the conditions of each clause of `IdentityRowsComplete`. -/
theorem witness_IdentityRowsComplete :
    (∃ (p : Part) (who : Nat) (s : State), (s.spdmReach p who = true) ∧ (s.get p SEC_STS_LIFECYCLE ≠ 2) ∧ (s.secHalted p = false) ∧ ((s.chip p).inReset = false) ∧ ((who ≠ 1 ∨ s.mainServes = true))) ∧
    (∃ (p : Part) (who : Nat) (s : State), (s.spdmReach p who = true) ∧ (s.get p SEC_STS_LIFECYCLE ≠ 2) ∧ (s.secHalted p = false) ∧ ((s.chip p).inReset = false) ∧ ((who ≠ 1 ∨ s.mainServes = true)) ∧ (1 ≤ (s.spdmAt p who).1)) ∧
    (∃ (p : Part) (who : Nat) (s : State), (s.spdmReach p who = true) ∧ (s.get p SEC_STS_LIFECYCLE ≠ 2) ∧ (s.secHalted p = false) ∧ ((s.chip p).inReset = false) ∧ ((who ≠ 1 ∨ s.mainServes = true)) ∧ (2 ≤ (s.spdmAt p who).1)) ∧
    (∃ (p : Part) (who : Nat) (s : State), (s.spdmReach p who = true) ∧ (s.get p SEC_STS_LIFECYCLE ≠ 2) ∧ (s.secHalted p = false) ∧ ((s.chip p).inReset = false) ∧ ((who ≠ 1 ∨ s.mainServes = true)) ∧ (3 ≤ (s.spdmAt p who).1) ∧ (s.flag p SEC_STS_ALIAS_READY = true)) ∧
    (∃ (p : Part) (who : Nat) (offset : Nat) (length : Nat) (s : State), (s.spdmReach p who = true) ∧ (s.get p SEC_STS_LIFECYCLE ≠ 2) ∧ (s.secHalted p = false) ∧ ((s.chip p).inReset = false) ∧ ((who ≠ 1 ∨ s.mainServes = true)) ∧ (3 ≤ (s.spdmAt p who).1) ∧ (s.flag p SEC_STS_ALIAS_READY = true)) ∧
    (∃ (p : Part) (who : Nat) (nonce : List Byte) (s : State), (s.spdmReach p who = true) ∧ (s.get p SEC_STS_LIFECYCLE ≠ 2) ∧ (s.secHalted p = false) ∧ ((s.chip p).inReset = false) ∧ ((who ≠ 1 ∨ s.mainServes = true)) ∧ (3 ≤ (s.spdmAt p who).1) ∧ (s.flag p SEC_STS_ALIAS_READY = true)) ∧
    (∃ (p : Part) (who : Nat) (raw : Bool) (nonce : List Byte) (n : Nat) (s : State), (s.spdmReach p who = true) ∧ (s.get p SEC_STS_LIFECYCLE ≠ 2) ∧ (s.secHalted p = false) ∧ ((s.chip p).inReset = false) ∧ ((who ≠ 1 ∨ s.mainServes = true)) ∧ (3 ≤ (s.spdmAt p who).1) ∧ (s.flag p SEC_STS_ALIAS_READY = true) ∧ (n < 8) ∧ ((s.measure p n).isSome = true)) ∧
    (∃ (p : Part) (who : Nat) (exchange : List Byte) (s : State), (s.spdmReach p who = true) ∧ (s.get p SEC_STS_LIFECYCLE ≠ 2) ∧ (s.secHalted p = false) ∧ ((s.chip p).inReset = false) ∧ ((who ≠ 1 ∨ s.mainServes = true)) ∧ (3 ≤ (s.spdmAt p who).1) ∧ (s.flag p SEC_STS_ALIAS_READY = true)) ∧
    (∃ (p : Part) (who : Nat) (s : State), (s.spdmReach p who = true) ∧ (s.get p SEC_STS_LIFECYCLE ≠ 2) ∧ (s.secHalted p = false) ∧ ((s.chip p).inReset = false) ∧ ((who ≠ 1 ∨ s.mainServes = true)) ∧ (3 ≤ (s.spdmAt p who).1) ∧ ((s.spdmAt p who).2 = 1) ∧ (s.flag p SEC_STS_ALIAS_READY = true)) ∧
    (∃ (p : Part) (who : Nat) (s : State), (s.spdmReach p who = true) ∧ (s.get p SEC_STS_LIFECYCLE ≠ 2) ∧ (s.secHalted p = false) ∧ ((s.chip p).inReset = false) ∧ ((who ≠ 1 ∨ s.mainServes = true)) ∧ (3 ≤ (s.spdmAt p who).1) ∧ ((s.spdmAt p who).2 = 2) ∧ (s.flag p SEC_STS_ALIAS_READY = true)) :=
  ⟨⟨.ep, 16, (((up.put .ep FPT_STS_STAGE 5 0 0).put .ep SEC_STS_ALIAS_READY 1).onChip .ep fun c => { c with spdm := [(16, (0, 0))] }), by first | decide +kernel | rfl, by first | decide +kernel | rfl, by first | decide +kernel | rfl, by first | decide +kernel | rfl, by first | decide +kernel | rfl⟩,
   ⟨.ep, 16, (((up.put .ep FPT_STS_STAGE 5 0 0).put .ep SEC_STS_ALIAS_READY 1).onChip .ep fun c => { c with spdm := [(16, (1, 0))] }), by first | decide +kernel | rfl, by first | decide +kernel | rfl, by first | decide +kernel | rfl, by first | decide +kernel | rfl, by first | decide +kernel | rfl, by first | decide +kernel | rfl⟩,
   ⟨.ep, 16, (((up.put .ep FPT_STS_STAGE 5 0 0).put .ep SEC_STS_ALIAS_READY 1).onChip .ep fun c => { c with spdm := [(16, (2, 0))] }), by first | decide +kernel | rfl, by first | decide +kernel | rfl, by first | decide +kernel | rfl, by first | decide +kernel | rfl, by first | decide +kernel | rfl, by first | decide +kernel | rfl⟩,
   ⟨.ep, 16, (((up.put .ep FPT_STS_STAGE 5 0 0).put .ep SEC_STS_ALIAS_READY 1).onChip .ep fun c => { c with spdm := [(16, (3, 0))] }), by first | decide +kernel | rfl, by first | decide +kernel | rfl, by first | decide +kernel | rfl, by first | decide +kernel | rfl, by first | decide +kernel | rfl, by first | decide +kernel | rfl, by first | decide +kernel | rfl⟩,
   ⟨.ep, 16, 3, 9, (((up.put .ep FPT_STS_STAGE 5 0 0).put .ep SEC_STS_ALIAS_READY 1).onChip .ep fun c => { c with spdm := [(16, (3, 0))] }), by first | decide +kernel | rfl, by first | decide +kernel | rfl, by first | decide +kernel | rfl, by first | decide +kernel | rfl, by first | decide +kernel | rfl, by first | decide +kernel | rfl, by first | decide +kernel | rfl⟩,
   ⟨.ep, 16, [], (((up.put .ep FPT_STS_STAGE 5 0 0).put .ep SEC_STS_ALIAS_READY 1).onChip .ep fun c => { c with spdm := [(16, (3, 0))] }), by first | decide +kernel | rfl, by first | decide +kernel | rfl, by first | decide +kernel | rfl, by first | decide +kernel | rfl, by first | decide +kernel | rfl, by first | decide +kernel | rfl, by first | decide +kernel | rfl⟩,
   ⟨.ep, 16, false, [], 4, (((up.put .ep FPT_STS_STAGE 5 0 0).put .ep SEC_STS_ALIAS_READY 1).onChip .ep fun c => { c with spdm := [(16, (3, 0))] }), by first | decide +kernel | rfl, by first | decide +kernel | rfl, by first | decide +kernel | rfl, by first | decide +kernel | rfl, by first | decide +kernel | rfl, by first | decide +kernel | rfl, by first | decide +kernel | rfl, by first | decide +kernel | rfl, by first | decide +kernel | rfl⟩,
   ⟨.ep, 16, [], (((up.put .ep FPT_STS_STAGE 5 0 0).put .ep SEC_STS_ALIAS_READY 1).onChip .ep fun c => { c with spdm := [(16, (3, 0))] }), by first | decide +kernel | rfl, by first | decide +kernel | rfl, by first | decide +kernel | rfl, by first | decide +kernel | rfl, by first | decide +kernel | rfl, by first | decide +kernel | rfl, by first | decide +kernel | rfl⟩,
   ⟨.ep, 16, (((up.put .ep FPT_STS_STAGE 5 0 0).put .ep SEC_STS_ALIAS_READY 1).onChip .ep fun c => { c with spdm := [(16, (3, 1))] }), by first | decide +kernel | rfl, by first | decide +kernel | rfl, by first | decide +kernel | rfl, by first | decide +kernel | rfl, by first | decide +kernel | rfl, by first | decide +kernel | rfl, by first | decide +kernel | rfl, by first | decide +kernel | rfl⟩,
   ⟨.ep, 16, (((up.put .ep FPT_STS_STAGE 5 0 0).put .ep SEC_STS_ALIAS_READY 1).onChip .ep fun c => { c with spdm := [(16, (3, 2))] }), by first | decide +kernel | rfl, by first | decide +kernel | rfl, by first | decide +kernel | rfl, by first | decide +kernel | rfl, by first | decide +kernel | rfl, by first | decide +kernel | rfl, by first | decide +kernel | rfl, by first | decide +kernel | rfl⟩⟩

/-- Something meets the conditions of each clause of `CoreAndSessionRowsComplete`. -/
theorem witness_CoreAndSessionRowsComplete :
    (∃ (c : Nat) (s : State), (c < 4) ∧ (c ≠ 1) ∧ (s.cpuUp c = true) ∧ (s.due .sw ((lookup s.sw.fw.pets c).getD 0) (s.get .sw MGT_WDT_CFG_TIMEOUT) = true) ∧ (s.sw.fw.trials = []) ∧ (lookup s.sw.fw.expiries c = none) ∧ (s.sw.fw.staging = none) ∧ (s.flag .sw MGT_MB_STS_BUSY = false)) ∧
    (∃ (c : Nat) (s : State), (c = 2) ∧ (s.cpuUp c = true) ∧ (s.due .sw ((lookup s.sw.fw.pets c).getD 0) (s.get .sw MGT_WDT_CFG_TIMEOUT) = true) ∧ (s.sw.fw.trials = []) ∧ (2 ≤ (((lookup s.sw.fw.expiries c).getD []).filter fun t => s.now .sw < t + 175000000).length)) ∧
    (∃ (c : Nat) (mask : Nat) (s : State), (s.wdtLate c = false) ∧ (c < 4) ∧ (mask.testBit c = true) ∧ (s.cpuUp c = true)) ∧
    (∃ (s : State), (s.get .sw MGT_CORE_STS_SECURITY = 1)) ∧
    (∃ (s : State), (s.ep.secHalted = false) ∧ (s.epc.inReset = false) ∧ (3 ≤ s.epc.step)) ∧
    (∃ (c : Nat) (s : State), (c < 4) ∧ (c ≠ 0) ∧ (s.cpuState c = 2) ∧ (s.actState ≠ 3)) ∧
    (∃ (s : State), (s.writeOpen .host .sw pgMgt 0x80 = true) ∧ (s.flag .sw MGT_MB_STS_BUSY = false) ∧ (s.cpuServes 3 = true) ∧ (s.hbFresh = s) ∧ (bitsOf (s.mbReq 0) 16 16 = imgMajor s.firmware)) ∧
    (∃ (s : State), (s.writeOpen .host .sw pgMgt 0x80 = true) ∧ (s.flag .sw MGT_MB_STS_BUSY = false) ∧ (s.cpuServes 3 = true) ∧ (s.hbFresh = s) ∧ (s.inSession = true)) ∧
    (∃ (cs : List Nat) (s : State), (s.writeOpen .host .sw pgMgt 0x80 = true) ∧ (s.flag .sw MGT_MB_STS_BUSY = false) ∧ (s.cpuServes 3 = true) ∧ (s.hbFresh = s) ∧ (s.inSession = true) ∧ ((s.rd .sw MGT_FEAT).getLsbD 0 = true) ∧ (s.reclaimList = some cs) ∧ (cs.all (fun c => s.flag .sw CTX_STS_QUIESCED (c + 1)) = true)) ∧
    (∃ (cs : List Nat) (s : State), (s.writeOpen .host .sw pgMgt 0x80 = true) ∧ (s.flag .sw MGT_MB_STS_BUSY = false) ∧ (s.cpuServes 3 = true) ∧ (s.hbFresh = s) ∧ (s.inSession = true) ∧ ((s.rd .sw MGT_FEAT).getLsbD 0 = true) ∧ (s.reclaimList = some cs) ∧ (cs.all (fun c => s.flag .sw CTX_STS_QUIESCED (c + 1)) = true)) ∧
    (∃ (id : Nat) (s : State), (s.writeOpen .host .sw pgMgt 0x58 = true) ∧ (s.hbFresh = s) ∧ (s.inSession = true) ∧ (id = s.get .sw MGT_HB_STS_SESSION)) ∧
    (∃ (at_ : Nat) (len : Nat) (beat : Bool) (s : State), (s.sw.fw.beats = some (at_, len, beat)) ∧ (s.due .sw at_ len = true) ∧ ((beat = true ∨ s.get .sw MGT_HB_STS_MISSES < 2))) ∧
    (∃ (s : State), (s.sw.hrd.herds = []) ∧ (s.sw.pool.queue = []) ∧ (s.sw.pool.gathers = []) ∧ (s.sw.pool.recalls = []) ∧ (s.swc.sync.waits = [])) ∧
    (∃ (addr : Nat) (s : State), (s.swc.standbyUp = true) ∧ (s.flag .sw SBP_CFG_I3C_EN = true)) ∧
    (∃ (s : State), (s.swc.standbyUp = true)) :=
  ⟨⟨2, up.onChip .sw fun c => { c with ltc := 0xFFFFFFFFFFF }, by first | decide +kernel | rfl, by first | decide +kernel | rfl, by first | decide +kernel | rfl, by first | decide +kernel | rfl, by first | decide +kernel | rfl, by first | decide +kernel | rfl, by first | decide +kernel | rfl, by first | decide +kernel | rfl⟩,
   ⟨2, (up.onFw fun f => { f with expiries := [(2, [0xFFFFFFFFFF0, 0xFFFFFFFFFF1])] }).onChip .sw fun c => { c with ltc := 0xFFFFFFFFFFF }, by first | decide +kernel | rfl, by first | decide +kernel | rfl, by first | decide +kernel | rfl, by first | decide +kernel | rfl, by first | decide +kernel | rfl⟩,
   ⟨3, 8, up, by first | decide +kernel | rfl, by first | decide +kernel | rfl, by first | decide +kernel | rfl, by first | decide +kernel | rfl⟩,
   ⟨up.put .sw MGT_CORE_STS_SECURITY 1, by first | decide +kernel | rfl⟩,
   ⟨up, by first | decide +kernel | rfl, by first | decide +kernel | rfl, by first | decide +kernel | rfl⟩,
   ⟨3, up.wr .sw MGT_CORE_STS 0x95, by first | decide +kernel | rfl, by first | decide +kernel | rfl, by first | decide +kernel | rfl, by first | decide +kernel | rfl⟩,
   ⟨up.wr .sw (MGT_MB_REQ.word 1) 15, by first | decide +kernel | rfl, by first | decide +kernel | rfl, by first | decide +kernel | rfl, by first | decide +kernel | rfl, by first | decide +kernel | rfl⟩,
   ⟨((up.put .sw MGT_HB_STS_ARMED 1).wr .sw MGT_FEAT 15), by first | decide +kernel | rfl, by first | decide +kernel | rfl, by first | decide +kernel | rfl, by first | decide +kernel | rfl, by first | decide +kernel | rfl⟩,
   ⟨[5], ((((((up.put .sw MGT_HB_STS_ARMED 1).wr .sw MGT_FEAT 15).wr .sw CTX_ENTRY (5 + 256) 6).put .sw CTX_STS_ORPHANED 1 6).put .sw CTX_STS_QUIESCED 1 6).wr .sw (MGT_MB_REQ.word 0) 5), by first | decide +kernel | rfl, by first | decide +kernel | rfl, by first | decide +kernel | rfl, by first | decide +kernel | rfl, by first | decide +kernel | rfl, by first | decide +kernel | rfl, by first | decide +kernel | rfl, by first | decide +kernel | rfl⟩,
   ⟨[5], ((((((up.put .sw MGT_HB_STS_ARMED 1).wr .sw MGT_FEAT 15).wr .sw CTX_ENTRY (5 + 256) 6).put .sw CTX_STS_ORPHANED 1 6).put .sw CTX_STS_QUIESCED 1 6).wr .sw (MGT_MB_REQ.word 0) 5), by first | decide +kernel | rfl, by first | decide +kernel | rfl, by first | decide +kernel | rfl, by first | decide +kernel | rfl, by first | decide +kernel | rfl, by first | decide +kernel | rfl, by first | decide +kernel | rfl, by first | decide +kernel | rfl⟩,
   ⟨0, ((up.put .sw MGT_HB_STS_ARMED 1).wr .sw MGT_FEAT 15).onFw fun f => { f with beats := some (0, 100, false) }, by first | decide +kernel | rfl, by first | decide +kernel | rfl, by first | decide +kernel | rfl, by first | decide +kernel | rfl⟩,
   ⟨0, 5, false, (up.onFw fun f => { f with beats := some (0, 5, false) }).onChip .sw fun c => { c with ltc := 9 }, by first | decide +kernel | rfl, by first | decide +kernel | rfl, by first | decide +kernel | rfl⟩,
   ⟨(up.wr .sw CTX_ENTRY (5 + 256) 6).put .sw CTX_STS_ORPHANED 1 6, by first | decide +kernel | rfl, by first | decide +kernel | rfl, by first | decide +kernel | rfl, by first | decide +kernel | rfl, by first | decide +kernel | rfl⟩,
   ⟨9, up.put .sw SBP_CFG_I3C_EN 1, by first | decide +kernel | rfl, by first | decide +kernel | rfl⟩,
   ⟨up, by first | decide +kernel | rfl⟩⟩

/-- Something meets the conditions of each clause of `ImageRowsComplete`. -/
theorem witness_ImageRowsComplete :
    (∃ (s : State), (s.writeOpen .host .sw pgMgt 0x80 = true) ∧ (s.flag .sw MGT_MB_STS_BUSY = false) ∧ (s.cpuServes 3 = true) ∧ (s.hbFresh = s) ∧ (s.inSession = true) ∧ ((s.rd .sw MGT_FEAT).getLsbD 1 = true) ∧ (s.sw.fw.staging = none)) ∧
    (∃ (slot : Nat) (s : State), (s.writeOpen .host .sw pgMgt 0x80 = true) ∧ (s.flag .sw MGT_MB_STS_BUSY = false) ∧ (s.cpuServes 3 = true) ∧ (s.hbFresh = s) ∧ (s.inSession = true) ∧ ((s.rd .sw MGT_FEAT).getLsbD 1 = true) ∧ (s.actState = 0 ∨ s.actState = 5) ∧ (lookup s.sw.fw.staged 2 = some slot) ∧ (s.get .sw PWR_STS_LEVEL = 0)) ∧
    (∃ (slot : Nat) (s : State), (s.writeOpen .host .sw pgMgt 0x80 = true) ∧ (s.flag .sw MGT_MB_STS_BUSY = false) ∧ (s.cpuServes 3 = true) ∧ (s.hbFresh = s) ∧ (s.inSession = true) ∧ ((s.rd .sw MGT_FEAT).getLsbD 1 = true) ∧ (s.actState = 0 ∨ s.actState = 5) ∧ (lookup s.sw.fw.staged 2 = some slot) ∧ (s.get .sw PWR_STS_LEVEL ≠ 0)) ∧
    (∃ (s : State), (s.writeOpen .host .sw pgMgt 0x80 = true) ∧ (s.flag .sw MGT_MB_STS_BUSY = false) ∧ (s.cpuUp 3 = true) ∧ (s.hbFresh = s) ∧ (s.inSession = true) ∧ ((s.rd .sw MGT_FEAT).getLsbD 1 = true) ∧ (s.actState = 1 ∨ s.actState = 2)) ∧
    (∃ (slot : Nat) (at_ : Nat) (s : State), (s.writeOpen .host .sw pgMgt 0x80 = true) ∧ (s.flag .sw MGT_MB_STS_BUSY = false) ∧ (s.cpuServes 3 = true) ∧ (s.hbFresh = s) ∧ (s.inSession = true) ∧ ((s.rd .sw MGT_FEAT).getLsbD 1 = true) ∧ (s.sw.fw.trials = [(2, at_)]) ∧ (lookup s.sw.fw.running 2 = some slot) ∧ (s.actState = 4)) ∧
    (∃ (slot : Nat) (at_ : Nat) (s : State), (s.writeOpen .sideband .sw pgMgt 0x98 = true) ∧ (s.sw.fw.trials = [(2, at_)]) ∧ (lookup s.sw.fw.running 2 = some slot) ∧ (s.actState = 4)) ∧
    (∃ (slot : Nat) (at_ : Nat) (s : State), (s.flag .sw MGT_FW_CFG_MANUAL_CONFIRM = false) ∧ (s.due .sw at_ 10500000000 = true) ∧ (s.sw.fw.trials = [(2, at_)]) ∧ (lookup s.sw.fw.running 2 = some slot) ∧ (s.actState = 4)) ∧
    (∃ (img : List Byte) (who : Nat) (len : Nat) (s : State), (s.sw.fw.staging = some (who, len)) ∧ (s.secHalted .sw = false) ∧ (natAt img 4 1 = 2) ∧ (img.take 4 = asciiBytes "TRJO") ∧ (img.length ≤ 12 * 2 ^ 20) ∧ (len ≤ 12 * 2 ^ 20) ∧ (lookup s.sw.fw.trials 2 = none) ∧ (s.actState = 0)) ∧
    (∃ (s : State), (s.actState = 1) ∧ (s.get .sw PWR_STS_LEVEL = 0) ∧ (s.due .sw s.sw.core.p0From 175000000 = true)) ∧
    (∃ (slot : Nat) (s : State), (s.actState = 2) ∧ (s.due .sw s.sw.fw.actAt 175000000 = false) ∧ (s.safePoint = true) ∧ (s.sw.hrd.running = none) ∧ (lookup s.sw.fw.staged 2 = some slot)) ∧
    (∃ (s : State), (s.actState = 2) ∧ (s.due .sw s.sw.fw.actAt 175000000 = true)) ∧
    (∃ (slot : Nat) (s : State), (s.actState = 3) ∧ (s.due .sw s.sw.fw.actAt 175000000 = false) ∧ (lookup s.sw.fw.staged 2 = some slot)) ∧
    (∃ (s : State), (s.actState = 3) ∧ (s.due .sw s.sw.fw.actAt 175000000 = true)) :=
  ⟨⟨((up.put .sw MGT_HB_STS_ARMED 1).wr .sw MGT_FEAT 15), by first | decide +kernel | rfl, by first | decide +kernel | rfl, by first | decide +kernel | rfl, by first | decide +kernel | rfl, by first | decide +kernel | rfl, by first | decide +kernel | rfl, by first | decide +kernel | rfl⟩,
   ⟨1, (((up.put .sw MGT_HB_STS_ARMED 1).wr .sw MGT_FEAT 15).onFw fun f => { f with staged := [(2, 1)] }), by first | decide +kernel | rfl, by first | decide +kernel | rfl, by first | decide +kernel | rfl, by first | decide +kernel | rfl, by first | decide +kernel | rfl, by first | decide +kernel | rfl, by first | decide +kernel | rfl, by first | decide +kernel | rfl, by first | decide +kernel | rfl⟩,
   ⟨1, (((up.put .sw MGT_HB_STS_ARMED 1).wr .sw MGT_FEAT 15).onFw fun f => { f with staged := [(2, 1)] }).put .sw PWR_STS_LEVEL 1, by first | decide +kernel | rfl, by first | decide +kernel | rfl, by first | decide +kernel | rfl, by first | decide +kernel | rfl, by first | decide +kernel | rfl, by first | decide +kernel | rfl, by first | decide +kernel | rfl, by first | decide +kernel | rfl, by first | decide +kernel | rfl⟩,
   ⟨((up.put .sw MGT_HB_STS_ARMED 1).wr .sw MGT_FEAT 15).put .sw MGT_FW_STS_ACT_STATE 2, by first | decide +kernel | rfl, by first | decide +kernel | rfl, by first | decide +kernel | rfl, by first | decide +kernel | rfl, by first | decide +kernel | rfl, by first | decide +kernel | rfl, by first | decide +kernel | rfl⟩,
   ⟨1, 0, (((up.put .sw MGT_HB_STS_ARMED 1).wr .sw MGT_FEAT 15).onFw fun f => { f with trials := [(2, 0)], running := [(2, 1)], staged := [(2, 1)] }).put .sw MGT_FW_STS_ACT_STATE 4, by first | decide +kernel | rfl, by first | decide +kernel | rfl, by first | decide +kernel | rfl, by first | decide +kernel | rfl, by first | decide +kernel | rfl, by first | decide +kernel | rfl, by first | decide +kernel | rfl, by first | decide +kernel | rfl, by first | decide +kernel | rfl⟩,
   ⟨1, 0, (((up.put .sw MGT_HB_STS_ARMED 1).wr .sw MGT_FEAT 15).onFw fun f => { f with trials := [(2, 0)], running := [(2, 1)], staged := [(2, 1)] }).put .sw MGT_FW_STS_ACT_STATE 4, by first | decide +kernel | rfl, by first | decide +kernel | rfl, by first | decide +kernel | rfl, by first | decide +kernel | rfl⟩,
   ⟨1, 0, ((((up.put .sw MGT_HB_STS_ARMED 1).wr .sw MGT_FEAT 15).onFw fun f => { f with trials := [(2, 0)], running := [(2, 1)], staged := [(2, 1)] }).put .sw MGT_FW_STS_ACT_STATE 4).onChip .sw fun c => { c with ltc := 0xFFFFFFFFFF }, by first | decide +kernel | rfl, by first | decide +kernel | rfl, by first | decide +kernel | rfl, by first | decide +kernel | rfl, by first | decide +kernel | rfl⟩,
   ⟨asciiBytes "TRJO" ++ [2, 0, 1, 0], 0, 8, up.onFw fun f => { f with staging := some (0, 8) }, by first | decide +kernel | rfl, by first | decide +kernel | rfl, by first | decide +kernel | rfl, by first | decide +kernel | rfl, by first | decide +kernel | rfl, by first | decide +kernel | rfl, by first | decide +kernel | rfl, by first | decide +kernel | rfl⟩,
   ⟨(up.put .sw MGT_FW_STS_ACT_STATE 1).onChip .sw fun c => { c with ltc := 0xFFFFFFFFFF }, by first | decide +kernel | rfl, by first | decide +kernel | rfl, by first | decide +kernel | rfl⟩,
   ⟨1, (up.put .sw MGT_FW_STS_ACT_STATE 2).onFw fun f => { f with staged := [(2, 1)] }, by first | decide +kernel | rfl, by first | decide +kernel | rfl, by first | decide +kernel | rfl, by first | decide +kernel | rfl, by first | decide +kernel | rfl⟩,
   ⟨(up.put .sw MGT_FW_STS_ACT_STATE 2).onChip .sw fun c => { c with ltc := 0xFFFFFFFFFF }, by first | decide +kernel | rfl, by first | decide +kernel | rfl⟩,
   ⟨1, (up.put .sw MGT_FW_STS_ACT_STATE 3).onFw fun f => { f with staged := [(2, 1)] }, by first | decide +kernel | rfl, by first | decide +kernel | rfl, by first | decide +kernel | rfl⟩,
   ⟨(up.put .sw MGT_FW_STS_ACT_STATE 3).onChip .sw fun c => { c with ltc := 0xFFFFFFFFFF }, by first | decide +kernel | rfl, by first | decide +kernel | rfl⟩⟩

/-- Something meets the conditions of each clause of `PoolRequestsCheckedInOrder`. -/
theorem witness_PoolRequestsCheckedInOrder :
    (∃ (k : Packet) (media : List (Nat × Bool)) (sid : Nat) (p : Nat) (off : Nat) (v : Nat) (s : State), (placeOf k.addr = .pool sid p off) ∧ (crcOk k = true) ∧ (s.accepted k = false) ∧ ((nonIdempotent k = true → s.outcomeOf .sw k = none)) ∧ (inBlock off k.len = true) ∧ (firstFailing (s.poolChecks k sid p off k.len) = some v)) ∧
    (∃ (k : Packet) (media : List (Nat × Bool)) (sid : Nat) (p : Nat) (off : Nat) (v : Nat) (s : State), (placeOf k.addr = .pool sid p off) ∧ (crcOk k = true) ∧ (s.accepted k = false) ∧ ((nonIdempotent k = true → s.outcomeOf .sw k = none)) ∧ (inBlock off k.len = true) ∧ (firstFailing (s.poolChecks k sid p off k.len) = some v)) ∧
    (∃ (k : Packet) (media : List (Nat × Bool)) (sid : Nat) (p : Nat) (off : Nat) (v : Nat) (s : State), (placeOf k.addr = .pool sid p off) ∧ (crcOk k = true) ∧ (s.accepted k = false) ∧ ((nonIdempotent k = true → s.outcomeOf .sw k = none)) ∧ (inBlock off (max ((atomicSize k.op k.len).getD 0) 1) = true) ∧ (firstFailing (s.poolChecks k sid p off (max ((atomicSize k.op k.len).getD 0) 1)) = some v)) ∧
    (∃ (k : Packet) (sid : Nat) (p : Nat) (off : Nat) (v : Nat) (s : State), (placeOf k.addr = .pool sid p off) ∧ (crcOk k = true) ∧ (s.accepted k = false) ∧ ((nonIdempotent k = true → s.outcomeOf .sw k = none)) ∧ (inBlock off 128 = true) ∧ (firstFailing (s.poolChecks k sid p off 128) = some v)) ∧
    (∃ (k : Packet) (sid : Nat) (p : Nat) (off : Nat) (v : Nat) (s : State), (placeOf k.addr = .pool sid p off) ∧ (crcOk k = true) ∧ (s.accepted k = false) ∧ ((nonIdempotent k = true → s.outcomeOf .sw k = none)) ∧ (inBlock off 128 = true) ∧ (firstFailing (s.poolChecks k sid p off 128) = some v)) ∧
    (∃ (k : Packet) (sid : Nat) (p : Nat) (off : Nat) (v : Nat) (s : State), (placeOf k.addr = .pool sid p off) ∧ (crcOk k = true) ∧ (s.accepted k = false) ∧ ((nonIdempotent k = true → s.outcomeOf .sw k = none)) ∧ (inBlock off 128 = true) ∧ (firstFailing (s.poolChecks k sid p off 128) = some v)) ∧
    (∃ (k : Packet) (sid : Nat) (p : Nat) (off : Nat) (v : Nat) (s : State), (placeOf k.addr = .pool sid p off) ∧ (crcOk k = true) ∧ (s.accepted k = false) ∧ ((nonIdempotent k = true → s.outcomeOf .sw k = none)) ∧ (firstFailing (s.poolChecks k sid p off 0) = some v)) ∧
    (∃ (k : Packet) (sid : Nat) (p : Nat) (off : Nat) (v : Nat) (s : State), (placeOf k.addr = .pool sid p off) ∧ (crcOk k = true) ∧ (s.accepted k = false) ∧ ((nonIdempotent k = true → s.outcomeOf .sw k = none)) ∧ (firstFailing (s.poolChecks k sid p off 0) = some v)) :=
  ⟨⟨sealPkt { op := opREAD, src := 1, tag := 9, ctx := 5, ptn := 2, addr := poolAddr 0x4001 2 384, len := 8 }, [], 0x4001, 2, 384, stUNREACHABLE, ((((up.put .sw POL_PTN_STS_STATE 1 3).wr .sw CTX_ENTRY 5 6).wr .sw PTN_ENTRY 1 3).put .sw PTN_ENTRY_SIZE_M1 0 3), by first | decide +kernel | rfl, by first | decide +kernel | rfl, by first | decide +kernel | rfl, by first | decide +kernel | rfl, by first | decide +kernel | rfl, by first | decide +kernel | rfl⟩,
   ⟨sealPkt { op := opWRITE, src := 1, tag := 9, ctx := 5, ptn := 3, addr := poolAddr 0x4000 2 384, len := 8, payload := [1, 2, 3, 4, 5, 6, 7, 8] }, [], 0x4000, 2, 384, stPERMISSION, ((((up.put .sw POL_PTN_STS_STATE 1 3).wr .sw CTX_ENTRY 5 6).wr .sw PTN_ENTRY 1 3).put .sw PTN_ENTRY_SIZE_M1 0 3), by first | decide +kernel | rfl, by first | decide +kernel | rfl, by first | decide +kernel | rfl, by first | decide +kernel | rfl, by first | decide +kernel | rfl, by first | decide +kernel | rfl⟩,
   ⟨sealPkt { op := opFETCH_XOR, src := 1, tag := 9, ctx := 5, ptn := 2, addr := poolAddr 0x4000 2 384, len := 8, payload := [1, 2, 3, 4, 5, 6, 7, 8] }, [], 0x4000, 2, 384, stNO_MAPPING, ((((up.put .sw POL_PTN_STS_STATE 1 3).wr .sw CTX_ENTRY 5 6).wr .sw PTN_ENTRY 1 3).put .sw PTN_ENTRY_SIZE_M1 0 3).put .sw POL_PTN_STS_STATE 0 3, by first | decide +kernel | rfl, by first | decide +kernel | rfl, by first | decide +kernel | rfl, by first | decide +kernel | rfl, by first | decide +kernel | rfl, by first | decide +kernel | rfl⟩,
   ⟨sealPkt { op := opREAD_SHARED, src := 1, tag := 9, ctx := 6, ptn := 2, addr := poolAddr 0x4000 2 384, len := 128 }, 0x4000, 2, 384, stPERMISSION, ((((up.put .sw POL_PTN_STS_STATE 1 3).wr .sw CTX_ENTRY 5 6).wr .sw PTN_ENTRY 1 3).put .sw PTN_ENTRY_SIZE_M1 0 3), by first | decide +kernel | rfl, by first | decide +kernel | rfl, by first | decide +kernel | rfl, by first | decide +kernel | rfl, by first | decide +kernel | rfl, by first | decide +kernel | rfl⟩,
   ⟨sealPkt { op := opREAD_OWN, src := 1, tag := 9, ctx := 5, ptn := 2, addr := poolAddr 0x4000 2 384, len := 128 }, 0x4000, 2, 384, stPARTITION_CLOSING, (((((up.put .sw POL_PTN_STS_STATE 1 3).wr .sw CTX_ENTRY 5 6).wr .sw PTN_ENTRY 1 3).put .sw PTN_ENTRY_SIZE_M1 0 3).put .sw POL_PTN_STS_STATE 2 3), by first | decide +kernel | rfl, by first | decide +kernel | rfl, by first | decide +kernel | rfl, by first | decide +kernel | rfl, by first | decide +kernel | rfl, by first | decide +kernel | rfl⟩,
   ⟨sealPkt { op := opUPGRADE, src := 1, tag := 9, ctx := 5, ptn := 2, addr := poolAddr 0x4000 2 (2 ^ 28), len := 128 }, 0x4000, 2, (2 ^ 28), stNO_MAPPING, ((((up.put .sw POL_PTN_STS_STATE 1 3).wr .sw CTX_ENTRY 5 6).wr .sw PTN_ENTRY 1 3).put .sw PTN_ENTRY_SIZE_M1 0 3), by first | decide +kernel | rfl, by first | decide +kernel | rfl, by first | decide +kernel | rfl, by first | decide +kernel | rfl, by first | decide +kernel | rfl, by first | decide +kernel | rfl⟩,
   ⟨sealPkt { op := opGATHER, src := 1, tag := 9, ctx := 5, ptn := 2, addr := poolAddr 0x4000 2 384, len := 16 }, 0x4000, 2, 384, stPARTITION_CLOSING, (((((up.put .sw POL_PTN_STS_STATE 1 3).wr .sw CTX_ENTRY 5 6).wr .sw PTN_ENTRY 1 3).put .sw PTN_ENTRY_SIZE_M1 0 3).put .sw POL_PTN_STS_STATE 2 3), by first | decide +kernel | rfl, by first | decide +kernel | rfl, by first | decide +kernel | rfl, by first | decide +kernel | rfl, by first | decide +kernel | rfl⟩,
   ⟨sealPkt { op := opSCATTER_ADD, src := 1, tag := 9, ctx := 5, ptn := 2, addr := poolAddr 0x4000 2 384, len := 16 }, 0x4000, 2, 384, stPARTITION_CLOSING, (((((up.put .sw POL_PTN_STS_STATE 1 3).wr .sw CTX_ENTRY 5 6).wr .sw PTN_ENTRY 1 3).put .sw PTN_ENTRY_SIZE_M1 0 3).put .sw POL_PTN_STS_STATE 2 3), by first | decide +kernel | rfl, by first | decide +kernel | rfl, by first | decide +kernel | rfl, by first | decide +kernel | rfl, by first | decide +kernel | rfl⟩⟩

/-- Something meets the conditions of each clause of `WindowRequestsRejectedInOrder`. -/
theorem witness_WindowRequestsRejectedInOrder :
    (∃ (k : Packet) (n : Nat) (w : Nat) (off : Nat) (v : Nat) (s : State), (s.uciUp = true) ∧ (crcOk k = true) ∧ (placeOf k.addr = .window n w off) ∧ (inBlock off (touched k) = true) ∧ ((isAtomic k.op = true → off % touched k = 0)) ∧ ((nonIdempotent k = true → s.outcomeOf .ep k = none ∧ s.ep.ag.wins.any (fun x => x.pkt.src == k.src && x.pkt.tag == k.tag) = false)) ∧ (firstFailing (s.windowChecks k w off) = some v)) ∧
    (∃ (k : Packet) (n : Nat) (w : Nat) (off : Nat) (v : Nat) (s : State), (s.uciUp = true) ∧ (crcOk k = true) ∧ (placeOf k.addr = .window n w off) ∧ (inBlock off (touched k) = true) ∧ ((isAtomic k.op = true → off % touched k = 0)) ∧ ((nonIdempotent k = true → s.outcomeOf .ep k = none ∧ s.ep.ag.wins.any (fun x => x.pkt.src == k.src && x.pkt.tag == k.tag) = false)) ∧ (firstFailing (s.windowChecks k w off) = some v)) ∧
    (∃ (k : Packet) (n : Nat) (w : Nat) (off : Nat) (v : Nat) (s : State), (s.uciUp = true) ∧ (crcOk k = true) ∧ (placeOf k.addr = .window n w off) ∧ (inBlock off (touched k) = true) ∧ ((isAtomic k.op = true → off % touched k = 0)) ∧ ((nonIdempotent k = true → s.outcomeOf .ep k = none ∧ s.ep.ag.wins.any (fun x => x.pkt.src == k.src && x.pkt.tag == k.tag) = false)) ∧ (firstFailing (s.windowChecks k w off) = some v)) ∧
    (∃ (k : Packet) (v : Inval) (s : State), (k.mark = false) ∧ (crcOk k = true) ∧ (s.sw.invals.find? (fun v => v.serial == k.tag && v.done.isNone && v.waits.contains k.src) = some v) ∧ (s.invalLate v = false) ∧ (v.waits.filter (· != k.src) ≠ [])) ∧
    (∃ (k : Packet) (v : Inval) (s : State), (k.mark = false) ∧ (crcOk k = true) ∧ (s.sw.invals.find? (fun v => v.serial == k.tag && v.done.isNone && v.waits.contains k.src) = some v) ∧ (s.invalLate v = false) ∧ (v.waits.filter (· != k.src) = []) ∧ (v.silent = false)) ∧
    (∃ (serial : Nat) (v : Inval) (s : State), (s.sw.invals.find? (fun v => v.serial == serial && v.done.isNone) = some v) ∧ (v.silent = false) ∧ (s.due .sw v.at_ (s.get .sw CXU_INV_TMO_TICKS) = true)) ∧
    (∃ (v : Inval) (st : Nat) (miss : Nat) (low : Nat) (at_ : Nat) (s : State), (s.sw.invals = [v]) ∧ (v.done = some (st, miss, low, at_)) ∧ (s.invRoom = true) ∧ (s.flag .sw CXU_STS_UP = true)) :=
  ⟨⟨sealPkt { op := opREAD, src := 1, tag := 9, ctx := 5, ptn := 2, addr := BitVec.ofNat 64 (5 * 2 ^ 36 + 384), len := 8 }, 0, 5, 384, stPERMISSION, ((up.put .ep UCI_STS_UP 1).put .ep WIN_WIN_CTL_VALID 1 6), by first | decide +kernel | rfl, by first | decide +kernel | rfl, by first | decide +kernel | rfl, by first | decide +kernel | rfl, by first | decide +kernel | rfl, by first | decide +kernel | rfl, by first | decide +kernel | rfl⟩,
   ⟨sealPkt { op := opREAD, src := 1, tag := 9, ctx := 5, ptn := 2, addr := BitVec.ofNat 64 (5 * 2 ^ 36 + 384), len := 8 }, 0, 5, 384, stNO_MAPPING, (up.put .ep UCI_STS_UP 1), by first | decide +kernel | rfl, by first | decide +kernel | rfl, by first | decide +kernel | rfl, by first | decide +kernel | rfl, by first | decide +kernel | rfl, by first | decide +kernel | rfl, by first | decide +kernel | rfl⟩,
   ⟨sealPkt { op := opREAD_OWN, src := 1, tag := 9, ctx := 5, ptn := 2, addr := BitVec.ofNat 64 (5 * 2 ^ 36 + 384), len := 128 }, 0, 5, 384, stUNSUPPORTED, ((up.put .ep UCI_STS_UP 1).put .ep WIN_WIN_CTL_VALID 1 6), by first | decide +kernel | rfl, by first | decide +kernel | rfl, by first | decide +kernel | rfl, by first | decide +kernel | rfl, by first | decide +kernel | rfl, by first | decide +kernel | rfl, by first | decide +kernel | rfl⟩,
   ⟨sealPkt { op := opINVAL_ACK, src := 3, tag := 4 }, { serial := 4, tag := 9, ptn := 2, waits := [1, 3], unreach := [], at_ := 0 }, ({ up with sw := { up.sw with invals := [{ serial := 4, tag := 9, ptn := 2, waits := [1, 3], unreach := [], at_ := 0 }] } } : State), by first | decide +kernel | rfl, by first | decide +kernel | rfl, by first | decide +kernel | rfl, by first | decide +kernel | rfl, by first | decide +kernel | rfl⟩,
   ⟨sealPkt { op := opINVAL_ACK, src := 3, tag := 4 }, { serial := 4, tag := 9, ptn := 2, waits := [3], unreach := [], at_ := 0 }, ({ up with sw := { up.sw with invals := [{ serial := 4, tag := 9, ptn := 2, waits := [3], unreach := [], at_ := 0 }] } } : State), by first | decide +kernel | rfl, by first | decide +kernel | rfl, by first | decide +kernel | rfl, by first | decide +kernel | rfl, by first | decide +kernel | rfl, by first | decide +kernel | rfl⟩,
   ⟨4, { serial := 4, tag := 9, ptn := 2, waits := [1, 3], unreach := [], at_ := 0 }, ({ up with sw := { up.sw with invals := [{ serial := 4, tag := 9, ptn := 2, waits := [1, 3], unreach := [], at_ := 0 }] } } : State).onChip .sw fun c => { c with ltc := 4000000000 }, by first | decide +kernel | rfl, by first | decide +kernel | rfl, by first | decide +kernel | rfl⟩,
   ⟨{ serial := 4, tag := 9, ptn := 2, waits := [1, 3], unreach := [], at_ := 0, done := some (stTIMEOUT, 2, 1, 77) }, stTIMEOUT, 2, 1, 77, ({ (up.put .sw CXU_STS_UP 1) with sw := { (up.put .sw CXU_STS_UP 1).sw with invals := [{ serial := 4, tag := 9, ptn := 2, waits := [1, 3], unreach := [], at_ := 0, done := some (stTIMEOUT, 2, 1, 77) }] } } : State), by first | decide +kernel | rfl, by first | decide +kernel | rfl, by first | decide +kernel | rfl, by first | decide +kernel | rfl⟩⟩

/-- Something meets the conditions of each clause of `RefusedRegisterWritesOnlyRecord`. -/
theorem witness_RefusedRegisterWritesOnlyRecord :
    (∃ (page : Nat) (off : Nat) (size : Nat) (x : Word) (s : State), (size = 4) ∧ (off % 4 = 0) ∧ (0x40 ≤ off) ∧ (off < 4096) ∧ (pageMapped .ep page = true) ∧ (hostOnly .ep page off = false) ∧ (sidebandOnly .ep page off = false) ∧ (s.flag .ep HDR_PAGE_CTL_FENCE 0 page = true)) ∧
    (∃ (page : Nat) (off : Nat) (size : Nat) (x : Word) (l : RegPlace) (s : State), (size = 4) ∧ (off % 4 = 0) ∧ (off < 4096) ∧ (s.writeOpen .csr .ep page off = true) ∧ (placeAt .ep page off = some l) ∧ (l.desc.wide = true)) ∧
    (∃ (page : Nat) (off : Nat) (size : Nat) (x : Word) (s : State), (sizeOk off size = true) ∧ (pageMapped .ep page = false)) ∧
    (∃ (write : Bool) (page : Nat) (off : Nat) (size : Nat) (x : Word) (s : State), (sizeOk off size = false)) ∧
    (∃ (page : Nat) (off : Nat) (size : Nat) (x : Word) (s : State), (size = 4) ∧ (off % 4 = 0) ∧ (off < 4096) ∧ (pageMapped .ep page = true) ∧ (placeAt .ep page off = none)) ∧
    (∃ (page : Nat) (off : Nat) (size : Nat) (x : Word) (s : State), (s.mainServes = true) ∧ (size = 4) ∧ (off % 4 = 0) ∧ (0x40 ≤ off) ∧ (off < 4096) ∧ (pageMapped .sw page = true) ∧ (hostOnly .sw page off = false) ∧ (s.flag .sw HDR_PAGE_CTL_FENCE 0 page = true)) ∧
    (∃ (page : Nat) (off : Nat) (size : Nat) (x : Word) (l : RegPlace) (s : State), (s.mainServes = true) ∧ (size = 4) ∧ (off % 4 = 0) ∧ (off < 4096) ∧ (s.writeOpen .sideband .sw page off = true) ∧ (placeAt .sw page off = some l) ∧ (l.desc.wide = true)) ∧
    (∃ (page : Nat) (off : Nat) (size : Nat) (x : Word) (s : State), (s.mainServes = true) ∧ (sizeOk off size = true) ∧ (pageMapped .sw page = false)) ∧
    (∃ (write : Bool) (page : Nat) (off : Nat) (size : Nat) (x : Word) (s : State), (sizeOk off size = false)) ∧
    (∃ (page : Nat) (off : Nat) (size : Nat) (x : Word) (s : State), (s.mainServes = true) ∧ (size = 4) ∧ (off % 4 = 0) ∧ (off < 4096) ∧ (pageMapped .sw page = true) ∧ (placeAt .sw page off = none)) ∧
    (∃ (page : Nat) (off : Nat) (size : Nat) (x : Word) (s : State), (sizeOk off size = true) ∧ (pageMapped .ep page = false)) ∧
    (∃ (page : Nat) (off : Nat) (size : Nat) (x : Word) (s : State), (s.mainServes = true) ∧ (sizeOk off size = true) ∧ (pageMapped .sw page = false)) :=
  ⟨⟨0x22, 0x40, 4, 7, up.put .ep HDR_PAGE_CTL_FENCE 1 0 0x22, by first | decide +kernel | rfl, by first | decide +kernel | rfl, by first | decide +kernel | rfl, by first | decide +kernel | rfl, by first | decide +kernel | rfl, by first | decide +kernel | rfl, by first | decide +kernel | rfl, by first | decide +kernel | rfl⟩,
   ⟨0x31, 0x108, 4, 7, (placeAt .ep 0x31 0x108).getD ⟨⟨CMB_CFG, 1, false, .both, []⟩, 0, 0, 0, 0⟩, up, by first | decide +kernel | rfl, by first | decide +kernel | rfl, by first | decide +kernel | rfl, by first | decide +kernel | rfl, by first | decide +kernel | rfl, by first | decide +kernel | rfl⟩,
   ⟨0x3FF, 0x40, 4, 7, up, by first | decide +kernel | rfl, by first | decide +kernel | rfl⟩,
   ⟨true, 0x22, 0x41, 4, 0, up, by first | decide +kernel | rfl⟩,
   ⟨0x22, 0xFFC, 4, 0, up, by first | decide +kernel | rfl, by first | decide +kernel | rfl, by first | decide +kernel | rfl, by first | decide +kernel | rfl, by first | decide +kernel | rfl⟩,
   ⟨0x13, 0x40, 4, 7, up.put .sw HDR_PAGE_CTL_FENCE 1 0 0x13, by first | decide +kernel | rfl, by first | decide +kernel | rfl, by first | decide +kernel | rfl, by first | decide +kernel | rfl, by first | decide +kernel | rfl, by first | decide +kernel | rfl, by first | decide +kernel | rfl, by first | decide +kernel | rfl⟩,
   ⟨0x22, 0x58, 4, 7, (placeAt .sw 0x22 0x58).getD ⟨⟨CMB_CFG, 1, false, .both, []⟩, 0, 0, 0, 0⟩, up, by first | decide +kernel | rfl, by first | decide +kernel | rfl, by first | decide +kernel | rfl, by first | decide +kernel | rfl, by first | decide +kernel | rfl, by first | decide +kernel | rfl, by first | decide +kernel | rfl⟩,
   ⟨0x3FF, 0x40, 4, 7, up, by first | decide +kernel | rfl, by first | decide +kernel | rfl, by first | decide +kernel | rfl⟩,
   ⟨true, 0x13, 0x41, 4, 0, up, by first | decide +kernel | rfl⟩,
   ⟨0x13, 0xFFC, 4, 0, up, by first | decide +kernel | rfl, by first | decide +kernel | rfl, by first | decide +kernel | rfl, by first | decide +kernel | rfl, by first | decide +kernel | rfl, by first | decide +kernel | rfl⟩,
   ⟨0x3FF, 0x40, 8, 0, up, by first | decide +kernel | rfl, by first | decide +kernel | rfl⟩,
   ⟨0x3FF, 0x40, 8, 0, up, by first | decide +kernel | rfl, by first | decide +kernel | rfl, by first | decide +kernel | rfl⟩⟩

/-- Something meets the conditions of each clause of `PowerLevelP3Holds`. -/
theorem witness_PowerLevelP3Holds :
    (∃ (o : Origin) (i : Nat) (s : State), (s.hrdOpen o = true) ∧ (s.powerHeld = true)) ∧
    (∃ (o : Origin) (slot : Nat) (s : State), (s.svcOpen o = true) ∧ (s.powerHeld = true)) ∧
    (∃ (o : Origin) (i : Nat) (s : State), (s.svcOpen o = true) ∧ (s.powerHeld = true)) ∧
    (∃ (o : Origin) (i : Nat) (s : State), (s.svcOpen o = true) ∧ (s.powerHeld = true)) ∧
    (∃ (o : Origin) (g : Nat) (s : State), (s.svcOpen o = true) ∧ (s.powerHeld = true)) ∧
    (∃ (o : Origin) (t : Nat) (s : State), (s.svcOpen o = true) ∧ (s.powerHeld = true)) ∧
    (∃ (k : Packet) (p : Nat) (off : Nat) (s : State), (s.powerHeld = true) ∧ (k.mark = false) ∧ (crcOk k = true) ∧ (placeOf k.addr = .pool s.switchId p off) ∧ (s.accepted k = false) ∧ ((nonIdempotent k = true → s.outcomeOf .sw k = none)) ∧ (s.poolCheck k.ctx k.ptn p off 0 = stOK)) ∧
    (∃ (k : Packet) (p : Nat) (off : Nat) (s : State), (s.powerHeld = true) ∧ (k.mark = false) ∧ (crcOk k = true) ∧ (placeOf k.addr = .pool s.switchId p off) ∧ (s.accepted k = false) ∧ ((nonIdempotent k = true → s.outcomeOf .sw k = none)) ∧ (s.poolCheck k.ctx k.ptn p off 0 = stOK)) ∧
    (∃ (k : Packet) (h : Herd) (v : Nat) (s : State), (s.herdTurn k h = true) ∧ (h.upLinkOf k = some v) ∧ (h.state = 2) ∧ (natAt k.payload 16 1 = stOK) ∧ (h.doneChunks < h.nChunks)) ∧
    (∃ (k : Packet) (h : Herd) (v : Nat) (place : Nat) (s : State), (k.srcSw = false) ∧ (relayReport k = false) ∧ (s.memberTurn k h v place = true) ∧ (h.state = 2 ∨ (h.state = 1 ∧ h.swap = none)) ∧ (h.isRoot = false) ∧ ((h.state = 2 → h.finished = false))) ∧
    (∃ (k : Packet) (h : Herd) (v : Nat) (place : Nat) (s : State), (k.srcSw = false) ∧ (s.memberTurn k h v place = true) ∧ (h.state = 3) ∧ (s.allAcked { h with acked := if h.acked.contains k.src then h.acked else h.acked ++ [k.src] } = false)) ∧
    (∃ (k : Packet) (h : Herd) (v : Nat) (place : Nat) (s : State), (k.srcSw = false) ∧ (s.memberTurn k h v place = true) ∧ (h.state = 3) ∧ (h.decided.isSome = true) ∧ (h.ending = 0) ∧ (s.allAcked { h with acked := if h.acked.contains k.src then h.acked else h.acked ++ [k.src] } = true)) ∧
    (∃ (i : Nat) (h : Herd) (s : State), (s.herd i = some h) ∧ (h.state = 2) ∧ (s.due .sw h.timerFrom h.timeout = true) ∧ (h.isRoot = false) ∧ (h.finished = false)) ∧
    (∃ (i : Nat) (h : Herd) (s : State), (s.herd i = some h) ∧ (h.state = 3) ∧ (s.due .sw h.abortAt h.timeout = true) ∧ (h.decided.isSome = true) ∧ (h.ending = 0)) :=
  ⟨⟨{ path := .remote, node := 3, ctx := 5 }, 3, ((((((up.put .sw POL_PTN_STS_STATE 1 3).wr .sw CTX_ENTRY 5 6).wr .sw PTN_ENTRY 1 3).put .sw PTN_ENTRY_SIZE_M1 0 3).wr .sw SYN_CFG 5 1).put .sw PWR_STS_LEVEL 3), by first | decide +kernel | rfl, by first | decide +kernel | rfl⟩,
   ⟨{ path := .remote, node := 3, ctx := 5 }, 3, ((((((up.put .sw POL_PTN_STS_STATE 1 3).wr .sw CTX_ENTRY 5 6).wr .sw PTN_ENTRY 1 3).put .sw PTN_ENTRY_SIZE_M1 0 3).wr .sw SYN_CFG 5 1).put .sw PWR_STS_LEVEL 3), by first | decide +kernel | rfl, by first | decide +kernel | rfl⟩,
   ⟨{ path := .remote, node := 3, ctx := 5 }, 3, ((((((up.put .sw POL_PTN_STS_STATE 1 3).wr .sw CTX_ENTRY 5 6).wr .sw PTN_ENTRY 1 3).put .sw PTN_ENTRY_SIZE_M1 0 3).wr .sw SYN_CFG 5 1).put .sw PWR_STS_LEVEL 3), by first | decide +kernel | rfl, by first | decide +kernel | rfl⟩,
   ⟨{ path := .remote, node := 3, ctx := 5 }, 3, ((((((up.put .sw POL_PTN_STS_STATE 1 3).wr .sw CTX_ENTRY 5 6).wr .sw PTN_ENTRY 1 3).put .sw PTN_ENTRY_SIZE_M1 0 3).wr .sw SYN_CFG 5 1).put .sw PWR_STS_LEVEL 3), by first | decide +kernel | rfl, by first | decide +kernel | rfl⟩,
   ⟨{ path := .remote, node := 3, ctx := 5 }, 3, ((((((up.put .sw POL_PTN_STS_STATE 1 3).wr .sw CTX_ENTRY 5 6).wr .sw PTN_ENTRY 1 3).put .sw PTN_ENTRY_SIZE_M1 0 3).wr .sw SYN_CFG 5 1).put .sw PWR_STS_LEVEL 3), by first | decide +kernel | rfl, by first | decide +kernel | rfl⟩,
   ⟨{ path := .remote, node := 3, ctx := 5 }, 3, ((((((up.put .sw POL_PTN_STS_STATE 1 3).wr .sw CTX_ENTRY 5 6).wr .sw PTN_ENTRY 1 3).put .sw PTN_ENTRY_SIZE_M1 0 3).wr .sw SYN_CFG 5 1).put .sw PWR_STS_LEVEL 3), by first | decide +kernel | rfl, by first | decide +kernel | rfl⟩,
   ⟨sealPkt { op := opGATHER, src := 1, tag := 9, ctx := 5, ptn := 2, addr := poolAddr 0x4000 2 384, len := 16 }, 2, 384, ((((((up.put .sw POL_PTN_STS_STATE 1 3).wr .sw CTX_ENTRY 5 6).wr .sw PTN_ENTRY 1 3).put .sw PTN_ENTRY_SIZE_M1 0 3).wr .sw SYN_CFG 5 1).put .sw PWR_STS_LEVEL 3), by first | decide +kernel | rfl, by first | decide +kernel | rfl, by first | decide +kernel | rfl, by first | decide +kernel | rfl, by first | decide +kernel | rfl, by first | decide +kernel | rfl, by first | decide +kernel | rfl⟩,
   ⟨sealPkt { op := opSCATTER_ADD, src := 1, tag := 9, ctx := 5, ptn := 2, addr := poolAddr 0x4000 2 384, len := 16 }, 2, 384, ((((((up.put .sw POL_PTN_STS_STATE 1 3).wr .sw CTX_ENTRY 5 6).wr .sw PTN_ENTRY 1 3).put .sw PTN_ENTRY_SIZE_M1 0 3).wr .sw SYN_CFG 5 1).put .sw PWR_STS_LEVEL 3), by first | decide +kernel | rfl, by first | decide +kernel | rfl, by first | decide +kernel | rfl, by first | decide +kernel | rfl, by first | decide +kernel | rfl, by first | decide +kernel | rfl, by first | decide +kernel | rfl⟩,
   ⟨sealPkt { op := opHERD_CPL, src := 16640, ptn := 2, addr := targetForm 1 0x4000 24579, payload := (HerdPrefix.mk 0 7 0 0 0).bytes ++ cplRecord stOK 3 0 false false 7 0 0, srcSw := true }, { state := 2, desc := [0 + 2 * 2 ^ 4 + 2 * 2 ^ 9 + 5 * 2 ^ 47, 0, 2 ^ 32, 1000, 2 ^ 15, 2 ^ 37 + 2 ^ 50, 0, 0], slots := [(0, (5, 0x4100 * 2 ^ 7 + 6))], step := 7 }, 0, ((((((up.put .sw POL_PTN_STS_STATE 1 3).wr .sw CTX_ENTRY 5 6).wr .sw PTN_ENTRY 1 3).put .sw PTN_ENTRY_SIZE_M1 0 3).wr .sw SYN_CFG 5 1).onHrd fun x => { x with herds := [(3, { state := 2, desc := [0 + 2 * 2 ^ 4 + 2 * 2 ^ 9 + 5 * 2 ^ 47, 0, 2 ^ 32, 1000, 2 ^ 15, 2 ^ 37 + 2 ^ 50, 0, 0], slots := [(0, (5, 0x4100 * 2 ^ 7 + 6))], step := 7 })] }), by first | decide +kernel | rfl, by first | decide +kernel | rfl, by first | decide +kernel | rfl, by first | decide +kernel | rfl, by first | decide +kernel | rfl⟩,
   ⟨sealPkt { op := opHERD_ABORT, src := 1, ptn := 2, addr := targetForm 1 0x4000 3, payload := (HerdPrefix.mk 0 7 0 3 0).bytes }, { state := 2, desc := [0 + 2 * 2 ^ 4 + 2 * 2 ^ 9 + 5 * 2 ^ 47, 0, 2 ^ 32, 1000, 8, 2 ^ 37 + 2 ^ 50, 0, 0], slots := [(0, (5, 0))], step := 7 }, 0, 0, ((((((up.put .sw POL_PTN_STS_STATE 1 3).wr .sw CTX_ENTRY 5 6).wr .sw PTN_ENTRY 1 3).put .sw PTN_ENTRY_SIZE_M1 0 3).wr .sw SYN_CFG 5 1).onHrd fun x => { x with herds := [(3, { state := 2, desc := [0 + 2 * 2 ^ 4 + 2 * 2 ^ 9 + 5 * 2 ^ 47, 0, 2 ^ 32, 1000, 8, 2 ^ 37 + 2 ^ 50, 0, 0], slots := [(0, (5, 0))], step := 7 })] }), by first | decide +kernel | rfl, by first | decide +kernel | rfl, by first | decide +kernel | rfl, by first | decide +kernel | rfl, by first | decide +kernel | rfl, by first | decide +kernel | rfl⟩,
   ⟨sealPkt { op := opHERD_ACK, src := 1, ptn := 2, addr := targetForm 1 0x4000 3, payload := (HerdPrefix.mk 0 7 0 0 0).bytes }, { state := 3, desc := [0 + 2 * 2 ^ 4 + 2 * 2 ^ 9 + 5 * 2 ^ 47 + 2 ^ 26, 0, 2 ^ 32, 1000, 8, 2 ^ 37 + 2 ^ 50, 0, 0], slots := [(0, (5, 0)), (1, (9, 0))], step := 7 }, 0, 0, (((((((up.put .sw POL_PTN_STS_STATE 1 3).wr .sw CTX_ENTRY 5 6).wr .sw PTN_ENTRY 1 3).put .sw PTN_ENTRY_SIZE_M1 0 3).wr .sw SYN_CFG 5 1).onHrd fun x => { x with herds := [(3, { state := 3, desc := [0 + 2 * 2 ^ 4 + 2 * 2 ^ 9 + 5 * 2 ^ 47 + 2 ^ 26, 0, 2 ^ 32, 1000, 8, 2 ^ 37 + 2 ^ 50, 0, 0], slots := [(0, (5, 0)), (1, (9, 0))], step := 7 })] }).put .sw RTE_PORT_STS_STATE 2 2).put .sw RTE_PORT_STS_STATE 2 3, by first | decide +kernel | rfl, by first | decide +kernel | rfl, by first | decide +kernel | rfl, by first | decide +kernel | rfl⟩,
   ⟨sealPkt { op := opHERD_ACK, src := 1, ptn := 2, addr := targetForm 1 0x4000 3, payload := (HerdPrefix.mk 0 7 0 0 0).bytes }, { state := 3, desc := [0 + 2 * 2 ^ 4 + 2 * 2 ^ 9 + 5 * 2 ^ 47, 0, 2 ^ 32, 1000, 8, 2 ^ 37 + 2 ^ 50, 0, 0], slots := [(0, (5, 0))], step := 7, decided := some 2 }, 0, 0, ((((((up.put .sw POL_PTN_STS_STATE 1 3).wr .sw CTX_ENTRY 5 6).wr .sw PTN_ENTRY 1 3).put .sw PTN_ENTRY_SIZE_M1 0 3).wr .sw SYN_CFG 5 1).onHrd fun x => { x with herds := [(3, { state := 3, desc := [0 + 2 * 2 ^ 4 + 2 * 2 ^ 9 + 5 * 2 ^ 47, 0, 2 ^ 32, 1000, 8, 2 ^ 37 + 2 ^ 50, 0, 0], slots := [(0, (5, 0))], step := 7, decided := some 2 })] }), by first | decide +kernel | rfl, by first | decide +kernel | rfl, by first | decide +kernel | rfl, by first | decide +kernel | rfl, by first | decide +kernel | rfl, by first | decide +kernel | rfl⟩,
   ⟨3, { state := 2, desc := [0 + 2 * 2 ^ 4 + 2 * 2 ^ 9 + 5 * 2 ^ 47, 0, 2 ^ 32, 1000, 8, 2 ^ 37 + 2 ^ 50, 0, 0], slots := [(0, (5, 0))], step := 7 }, ((((((up.put .sw POL_PTN_STS_STATE 1 3).wr .sw CTX_ENTRY 5 6).wr .sw PTN_ENTRY 1 3).put .sw PTN_ENTRY_SIZE_M1 0 3).wr .sw SYN_CFG 5 1).onHrd fun x => { x with herds := [(3, { state := 2, desc := [0 + 2 * 2 ^ 4 + 2 * 2 ^ 9 + 5 * 2 ^ 47, 0, 2 ^ 32, 1000, 8, 2 ^ 37 + 2 ^ 50, 0, 0], slots := [(0, (5, 0))], step := 7 })] }).onChip .sw fun c => { c with ltc := 4000 }, by first | decide +kernel | rfl, by first | decide +kernel | rfl, by first | decide +kernel | rfl, by first | decide +kernel | rfl, by first | decide +kernel | rfl⟩,
   ⟨3, { state := 3, desc := [0 + 2 * 2 ^ 4 + 2 * 2 ^ 9 + 5 * 2 ^ 47, 0, 2 ^ 32, 1000, 8, 2 ^ 37 + 2 ^ 50, 0, 0], slots := [(0, (5, 0))], step := 7, decided := some 2 }, ((((((up.put .sw POL_PTN_STS_STATE 1 3).wr .sw CTX_ENTRY 5 6).wr .sw PTN_ENTRY 1 3).put .sw PTN_ENTRY_SIZE_M1 0 3).wr .sw SYN_CFG 5 1).onHrd fun x => { x with herds := [(3, { state := 3, desc := [0 + 2 * 2 ^ 4 + 2 * 2 ^ 9 + 5 * 2 ^ 47, 0, 2 ^ 32, 1000, 8, 2 ^ 37 + 2 ^ 50, 0, 0], slots := [(0, (5, 0))], step := 7, decided := some 2 })] }).onChip .sw fun c => { c with ltc := 4000 }, by first | decide +kernel | rfl, by first | decide +kernel | rfl, by first | decide +kernel | rfl, by first | decide +kernel | rfl, by first | decide +kernel | rfl⟩⟩

/-- Something meets the conditions of each clause of `HaltedSecurityCoreRefuses`. -/
theorem witness_HaltedSecurityCoreRefuses :
    (∃ (path : Path) (scope : Nat) (s : State), (s.writeOpen path .sw pgDct 0x50 = true) ∧ (s.windowOver = false) ∧ (s.secHalted .sw = true)) ∧
    (∃ (path : Path) (role : Nat) (s : State), (s.writeOpen path .sw pgDct 0xC0 = true) ∧ (s.windowOver = false) ∧ (s.secHalted .sw = true)) ∧
    (∃ (s : State), (s.secHalted .sw = true)) ∧
    (∃ (s : State), (s.secHalted .sw = true)) ∧
    (∃ (p : Part) (n : Nat) (s : State), (s.secHalted p = true)) ∧
    (∃ (p : Part) (n : Nat) (s : State), (s.secHalted p = true)) ∧
    (∃ (p : Part) (who : Nat) (s : State), (s.spdmReach p who = true) ∧ (s.secHalted p = true)) ∧
    (∃ (p : Part) (who : Nat) (s : State), (s.spdmReach p who = true) ∧ (s.secHalted p = true)) ∧
    (∃ (p : Part) (who : Nat) (s : State), (s.spdmReach p who = true) ∧ (s.secHalted p = true)) ∧
    (∃ (p : Part) (who : Nat) (s : State), (s.spdmReach p who = true) ∧ (s.secHalted p = true)) ∧
    (∃ (p : Part) (who : Nat) (slot : Nat) (offset : Nat) (length : Nat) (s : State), (s.spdmReach p who = true) ∧ (s.secHalted p = true)) ∧
    (∃ (p : Part) (who : Nat) (slot : Nat) (nonce : List Byte) (s : State), (s.spdmReach p who = true) ∧ (s.secHalted p = true)) ∧
    (∃ (p : Part) (who : Nat) (index : Nat) (raw : Bool) (nonce : List Byte) (s : State), (s.spdmReach p who = true) ∧ (s.secHalted p = true)) ∧
    (∃ (p : Part) (who : Nat) (exchange : List Byte) (s : State), (s.spdmReach p who = true) ∧ (s.secHalted p = true)) ∧
    (∃ (p : Part) (who : Nat) (right : Bool) (s : State), (s.spdmReach p who = true) ∧ (s.secHalted p = true)) ∧
    (∃ (p : Part) (who : Nat) (s : State), (s.spdmReach p who = true) ∧ (s.secHalted p = true)) ∧
    (∃ (p : Part) (who : Nat) (ide : Option (Nat × Bool)) (s : State), (s.spdmReach p who = true) ∧ (s.secHalted p = true)) ∧
    (∃ (p : Part) (who : Nat) (s : State), (s.spdmReach p who = true) ∧ (s.secHalted p = true)) :=
  ⟨⟨.sideband, 64, (up.put .sw MGT_CORE_STS_SECURITY 3), by first | decide +kernel | rfl, by first | decide +kernel | rfl, by first | decide +kernel | rfl⟩,
   ⟨.sideband, 0, (up.put .sw MGT_CORE_STS_SECURITY 3), by first | decide +kernel | rfl, by first | decide +kernel | rfl, by first | decide +kernel | rfl⟩,
   ⟨(up.put .sw MGT_CORE_STS_SECURITY 3).onDct fun d => { d with sigs := [⟨0, [], 0⟩] }, by first | decide +kernel | rfl⟩,
   ⟨(up.put .sw MGT_CORE_STS_SECURITY 3).put .sw DCT_STS_IMG_STALE 1, by first | decide +kernel | rfl⟩,
   ⟨.sw, 0, (up.put .sw MGT_CORE_STS_SECURITY 3), by first | decide +kernel | rfl⟩,
   ⟨.sw, 0, (up.put .sw MGT_CORE_STS_SECURITY 3), by first | decide +kernel | rfl⟩,
   ⟨.ep, 16, ({ up with ep := { up.ep with secHalted := true } }).put .ep FPT_STS_STAGE 5 0 0, by first | decide +kernel | rfl, by first | decide +kernel | rfl⟩,
   ⟨.ep, 16, ({ up with ep := { up.ep with secHalted := true } }).put .ep FPT_STS_STAGE 5 0 0, by first | decide +kernel | rfl, by first | decide +kernel | rfl⟩,
   ⟨.ep, 16, ({ up with ep := { up.ep with secHalted := true } }).put .ep FPT_STS_STAGE 5 0 0, by first | decide +kernel | rfl, by first | decide +kernel | rfl⟩,
   ⟨.ep, 16, ({ up with ep := { up.ep with secHalted := true } }).put .ep FPT_STS_STAGE 5 0 0, by first | decide +kernel | rfl, by first | decide +kernel | rfl⟩,
   ⟨.ep, 16, 0, 0, 0, ({ up with ep := { up.ep with secHalted := true } }).put .ep FPT_STS_STAGE 5 0 0, by first | decide +kernel | rfl, by first | decide +kernel | rfl⟩,
   ⟨.ep, 16, 0, [], ({ up with ep := { up.ep with secHalted := true } }).put .ep FPT_STS_STAGE 5 0 0, by first | decide +kernel | rfl, by first | decide +kernel | rfl⟩,
   ⟨.ep, 16, 0, true, [], ({ up with ep := { up.ep with secHalted := true } }).put .ep FPT_STS_STAGE 5 0 0, by first | decide +kernel | rfl, by first | decide +kernel | rfl⟩,
   ⟨.ep, 16, [], ({ up with ep := { up.ep with secHalted := true } }).put .ep FPT_STS_STAGE 5 0 0, by first | decide +kernel | rfl, by first | decide +kernel | rfl⟩,
   ⟨.ep, 16, true, ({ up with ep := { up.ep with secHalted := true } }).put .ep FPT_STS_STAGE 5 0 0, by first | decide +kernel | rfl, by first | decide +kernel | rfl⟩,
   ⟨.ep, 16, ({ up with ep := { up.ep with secHalted := true } }).put .ep FPT_STS_STAGE 5 0 0, by first | decide +kernel | rfl, by first | decide +kernel | rfl⟩,
   ⟨.ep, 16, none, ({ up with ep := { up.ep with secHalted := true } }).put .ep FPT_STS_STAGE 5 0 0, by first | decide +kernel | rfl, by first | decide +kernel | rfl⟩,
   ⟨.ep, 16, ({ up with ep := { up.ep with secHalted := true } }).put .ep FPT_STS_STAGE 5 0 0, by first | decide +kernel | rfl, by first | decide +kernel | rfl⟩⟩

/-- Something meets the conditions of each clause of `LockedTargetRefusesHostSetUp`. -/
theorem witness_LockedTargetRefusesHostSetUp :
    (∃ (dec : Nat) (hpa : Nat) (dpa : Nat) (size : Nat) (ways : Nat) (db : Bool) (s : State), (s.get .sw CXU_STS_TSP = 1) ∧ (s.cxlMem = true) ∧ (dec < 32)) ∧
    (∃ (path : Path) (v : Bool) (s : State), (s.get .sw CXU_STS_TSP = 1) ∧ (s.writeOpen path .sw pgCxu 0x40 = true)) ∧
    (∃ (stream : Nat) (on : Bool) (s : State), (s.get .sw CXU_STS_TSP = 1) ∧ (s.flag .sw CXU_STS_UP = true) ∧ (s.get .sw SEC_STS_LIFECYCLE ≠ 2) ∧ (s.secHalted .sw = false) ∧ (s.swc.inReset = false) ∧ (3 ≤ (s.spdmAt .sw 0).1) ∧ ((s.spdmAt .sw 0).2 = 2) ∧ (s.flag .sw SEC_STS_ALIAS_READY = true)) ∧
    (∃ (n : Nat) (s : State), (s.kexStage .sw n = true) ∧ ((s.port .sw n).kex.running = true) ∧ (s.due .sw (s.port .sw n).kex.start 350000 = true)) ∧
    (∃ (path : Path) (p : Part) (n : Nat) (s : State), (s.writeOpen path p (pgLnk + n) 0x58 = true) ∧ (s.get p LNK_STS_STATE 0 n = 3) ∧ (s.flag p LNK_STS_INITIATOR 0 n = false)) ∧
    (∃ (path : Path) (p : Part) (n : Nat) (s : State), (s.writeOpen path p (pgLnk + n) 0x58 = true) ∧ (s.get p LNK_STS_STATE 0 n = 3) ∧ (s.flag p LNK_STS_INITIATOR 0 n = true) ∧ (s.stage p n = 5) ∧ (s.secHalted p = false)) ∧
    (∃ (p : Part) (n : Nat) (s : State), (2 ^ s.get p LNK_REKEY_SOFT_LOG2 0 n ≤ max (s.port p n).keys.txCtr (s.port p n).keys.rxCtr) ∧ (s.get p LNK_STS_STATE 0 n = 3) ∧ (s.flag p LNK_STS_INITIATOR 0 n = true) ∧ (s.stage p n = 5) ∧ (s.secHalted p = false)) ∧
    (∃ (p : Part) (n : Nat) (s : State), (s.get p LNK_STS_STATE 0 n = 3) ∧ (s.flag p LNK_STS_INITIATOR 0 n = true) ∧ (s.stage p n = 5) ∧ (s.secHalted p = false)) ∧
    (∃ (n : Nat) (s : State), (s.stage .sw n = 5) ∧ (2 ^ 40 ≤ max (s.port .sw n).keys.txCtr (s.port .sw n).keys.rxCtr)) ∧
    (∃ (p : Part) (who : Nat) (s : State), (s.spdmReach p who = true) ∧ (s.get p SEC_STS_LIFECYCLE ≠ 2) ∧ (s.secHalted p = false) ∧ ((s.chip p).inReset = false) ∧ ((who ≠ 1 ∨ s.mainServes = true)) ∧ (3 ≤ (s.spdmAt p who).1)) ∧
    (∃ (stream : Nat) (on : Bool) (s : State), (s.flag .sw CXU_STS_UP = true) ∧ (s.get .sw SEC_STS_LIFECYCLE ≠ 2) ∧ (s.secHalted .sw = false) ∧ (s.swc.inReset = false) ∧ (3 ≤ (s.spdmAt .sw 0).1) ∧ ((s.spdmAt .sw 0).2 = 2) ∧ (s.flag .sw SEC_STS_ALIAS_READY = true) ∧ (s.tspLocked = false)) ∧
    (∃ (p : Part) (who : Nat) (s : State), (s.spdmReach p who = true) ∧ (s.get p SEC_STS_LIFECYCLE ≠ 2) ∧ (s.secHalted p = false) ∧ ((s.chip p).inReset = false) ∧ ((who ≠ 1 ∨ s.mainServes = true))) :=
  ⟨⟨3, 0, 0, 0, 1, true, ((up.put .sw CXU_STS_TSP 1).put .sw CXU_STS_UP 1).put .sw CXU_STS_CXL_MODE 1, by first | decide +kernel | rfl, by first | decide +kernel | rfl, by first | decide +kernel | rfl⟩,
   ⟨.host, true, up.put .sw CXU_STS_TSP 1, by first | decide +kernel | rfl, by first | decide +kernel | rfl⟩,
   ⟨1, true, (((up.put .sw CXU_STS_TSP 1).put .sw CXU_STS_UP 1).put .sw SEC_STS_ALIAS_READY 1).onChip .sw fun c => { c with spdm := [(0, (3, 2))] }, by first | decide +kernel | rfl, by first | decide +kernel | rfl, by first | decide +kernel | rfl, by first | decide +kernel | rfl, by first | decide +kernel | rfl, by first | decide +kernel | rfl, by first | decide +kernel | rfl, by first | decide +kernel | rfl⟩,
   ⟨3, (((up.put .sw FPT_STS_STAGE 5 0 3).put .sw LNK_STS_STATE 1 0 3).onPort .sw 3 fun pt => { pt with kex := ⟨true, 0, 0, []⟩ }).onChip .sw fun c => { c with ltc := 350000 }, by first | decide +kernel | rfl, by first | decide +kernel | rfl, by first | decide +kernel | rfl⟩,
   ⟨.csr, .ep, 0, up.put .ep LNK_STS_STATE 3, by first | decide +kernel | rfl, by first | decide +kernel | rfl, by first | decide +kernel | rfl⟩,
   ⟨.csr, .ep, 0, ((up.put .ep FPT_STS_STAGE 5).put .ep LNK_STS_STATE 3).put .ep LNK_STS_INITIATOR 1, by first | decide +kernel | rfl, by first | decide +kernel | rfl, by first | decide +kernel | rfl, by first | decide +kernel | rfl, by first | decide +kernel | rfl⟩,
   ⟨.ep, 0, (((up.put .ep FPT_STS_STAGE 5).put .ep LNK_STS_STATE 3).put .ep LNK_STS_INITIATOR 1).onPort .ep 0 fun pt => { pt with keys := { pt.keys with txCtr := 2 ^ 63 } }, by first | decide +kernel | rfl, by first | decide +kernel | rfl, by first | decide +kernel | rfl, by first | decide +kernel | rfl, by first | decide +kernel | rfl⟩,
   ⟨.ep, 0, ((up.put .ep FPT_STS_STAGE 5).put .ep LNK_STS_STATE 3).put .ep LNK_STS_INITIATOR 1, by first | decide +kernel | rfl, by first | decide +kernel | rfl, by first | decide +kernel | rfl, by first | decide +kernel | rfl⟩,
   ⟨3, ((up.put .sw FPT_STS_STAGE 5 0 3).put .sw FPT_STS_LANES 15 0 3).onPort .sw 3 fun pt => { pt with keys := { pt.keys with txCtr := 2 ^ 40 } }, by first | decide +kernel | rfl, by first | decide +kernel | rfl⟩,
   ⟨.ep, 16, (((up.put .ep FPT_STS_STAGE 5 0 0).put .ep SEC_STS_ALIAS_READY 1).onChip .ep fun c => { c with spdm := [(16, (3, 0))] }), by first | decide +kernel | rfl, by first | decide +kernel | rfl, by first | decide +kernel | rfl, by first | decide +kernel | rfl, by first | decide +kernel | rfl, by first | decide +kernel | rfl⟩,
   ⟨1, true, ((up.put .sw CXU_STS_UP 1).put .sw SEC_STS_ALIAS_READY 1).onChip .sw fun c => { c with spdm := [(0, (3, 2))] }, by first | decide +kernel | rfl, by first | decide +kernel | rfl, by first | decide +kernel | rfl, by first | decide +kernel | rfl, by first | decide +kernel | rfl, by first | decide +kernel | rfl, by first | decide +kernel | rfl, by first | decide +kernel | rfl⟩,
   ⟨.ep, 16, (((up.put .ep FPT_STS_STAGE 5 0 0).put .ep SEC_STS_ALIAS_READY 1).onChip .ep fun c => { c with spdm := [(16, (0, 0))] }), by first | decide +kernel | rfl, by first | decide +kernel | rfl, by first | decide +kernel | rfl, by first | decide +kernel | rfl, by first | decide +kernel | rfl⟩⟩

/-- Something meets the conditions of each clause of `IdleStepLetsTimePass`. -/
theorem witness_IdleStepLetsTimePass :
    (∃ s : State, s.pending = [] ∧ s.sw.core.queue = [] ∧ s.sw.core.mids = [] ∧ s.sw.core.reseq = []) :=
  ⟨State.reset, by decide⟩

/-- Something meets the conditions of each clause of `ResetLeavesTableValues`. -/
theorem witness_ResetLeavesTableValues :
    (∃ (r : Reg) (b i : Nat), r.key b i ≠ GLB_ID.key 0 0 ∧ r.key b i ≠ SEC_STS.key 0 0 ∧ r.key b i ≠ SBP_STS.key 0 0) ∧
    (∃ c, c < 256 ∧ ∃ d, d ∈ blockRegs c) :=
  ⟨⟨CMB_CFG, 0, 0, by decide +kernel⟩,
   ⟨0x13, by decide, (blockRegs 0x13).headD ⟨CMB_CFG, 0, false, .both, []⟩, by decide +kernel⟩⟩

/-- Something meets the conditions of each clause of `PacketRoundTrip`. -/
theorem witness_PacketRoundTrip :
    (∃ k : Packet, k.dst < 2 ^ 17 ∧ k.src < 2 ^ 17 ∧ k.tc < 8 ∧ k.op < 256 ∧ k.tag < 2 ^ 16 ∧ k.len < 2 ^ 13 ∧ k.ctx < 1024 ∧ k.ptn < 64 ∧ k.scope < 4 ∧
    k.colour < 4 ∧ k.status < 256 ∧ k.aux < 2 ^ 32 ∧ k.rsv = 0) :=
  ⟨{ dst := 2 ^ 17 - 1, src := 2 ^ 17 - 1, tc := 7, op := 255, tag := 2 ^ 16 - 1, addr := -1, len := 2 ^ 13 - 1, ctx := 1023, ptn := 63, scope := 3, colour := 3, lane := true, mark := true, vol := true, uncached := true, resend := true, srcSw := true, status := 255, aux := 2 ^ 32 - 1, crc := -1, payload := [255] }, by decide⟩

/-- Something meets the conditions of each clause of `HerdPrefixInItsPlace`. -/
theorem witness_HerdPrefixInItsPlace :
    (∃ h : HerdPrefix, h.sig < 2 ^ 32 ∧ h.step < 2 ^ 32 ∧ h.chunk < 2 ^ 32 ∧ h.pkt < 2 ^ 16 ∧ h.shard < 256) :=
  ⟨⟨2 ^ 32 - 1, 2 ^ 32 - 1, 2 ^ 32 - 1, 2 ^ 16 - 1, 255⟩, by decide⟩

/-- Something meets the conditions of each clause of `FabricAddressesTakenApart`. -/
theorem witness_FabricAddressesTakenApart :
    (∃ sid ptn off : Nat, sid < 2 ^ 16 ∧ ptn < 64 ∧ off < 2 ^ 40) ∧
    (∃ node w off : Nat, node < 2 ^ 17 ∧ w < 512 ∧ off < 2 ^ 36) ∧
    (∃ kind id low : Nat, kind < 2 ∧ id < 2 ^ 17 ∧ low < 2 ^ 44) ∧
    (∃ x : Nat, x < 2 ^ 62) :=
  ⟨⟨2 ^ 16 - 1, 63, 2 ^ 40 - 1, by decide⟩,
   ⟨2 ^ 17 - 1, 511, 2 ^ 36 - 1, by decide⟩,
   ⟨1, 2 ^ 17 - 1, 2 ^ 44 - 1, by decide⟩,
   ⟨2 ^ 62 - 1, by decide⟩⟩

/-- Something meets the conditions of each clause of `NodeIdsNameCoordinates`. -/
theorem witness_NodeIdsNameCoordinates :
    (∃ id : Nat, id < 2 ^ 17) ∧
    (∃ z y x : Nat, z < 64 ∧ y < 64 ∧ x < 32) :=
  ⟨⟨2 ^ 17 - 1, by decide⟩,
   ⟨63, 63, 31, by decide⟩⟩

/-- Something meets the conditions of each clause of `LandingKeepsTheAxisCoordinate`. -/
theorem witness_LandingKeepsTheAxisCoordinate :
    (∃ sid : Nat, swIdValid sid = true) ∧
    (∃ (sid a : Nat), swIdValid sid = true ∧ 1 ≤ a ∧ a ≤ 3 ∧ a ≠ swAxis sid) :=
  ⟨⟨0xA075, by decide⟩,
   ⟨0xA075, 3, by decide⟩⟩

/-- Something meets the conditions of each clause of `IntegerAtomicsExact`. -/
theorem witness_IntegerAtomicsExact :
    (∃ old a b : Nat, old < 2 ^ 32 ∧ a < 2 ^ 32 ∧ b < 2 ^ 32) ∧
    (∃ old a b : Nat, old < 2 ^ 64 ∧ a < 2 ^ 64 ∧ b < 2 ^ 64) :=
  ⟨⟨2 ^ 32 - 1, 2 ^ 31, 0, by decide⟩,
   ⟨2 ^ 64 - 1, 2 ^ 63, 0, by decide⟩⟩

/-- Something meets the conditions of each clause of `CombinedAddsMatchASerialOrder`. -/
theorem witness_CombinedAddsMatchASerialOrder :
    (∃ (r : PReq) (op old : Nat), r.members.all (fun m => m.pkt.op == op) = true ∧ r.members ≠ [] ∧ (op = opADD ∨ op = opFETCH_ADD) ∧ (r.len = 4 ∨ r.len = 8) ∧ old < 2 ^ (8 * r.len)) :=
  ⟨{ id := 0, kind := .atomic, ptn := 0, off := 0, len := 4, members := [⟨{ op := opFETCH_ADD, payload := [255, 255, 255, 255] }, .fabric, 0⟩, ⟨{ op := opFETCH_ADD, payload := [2, 0, 0, 0] }, .fabric, 1⟩] }, opFETCH_ADD, 2 ^ 32 - 1, by decide⟩

/-- Something meets the conditions of each clause of `ErrorHeaderKeepsTheFirst`. -/
theorem witness_ErrorHeaderKeepsTheFirst :
    (∃ (s : State) (p : Part) (page : Nat), s.flag p HDR_ERR_FIRST_VALID 0 page = true) ∧
    (∃ (s : State) (p : Part) (page : Nat), s.flag p HDR_ERR_FIRST_VALID 0 page = false) :=
  ⟨⟨State.reset.put .sw HDR_ERR_FIRST_VALID 1 0 3, .sw, 3, by decide +kernel⟩,
   ⟨State.reset, .ep, 0xFFF, by decide +kernel⟩⟩

/-- Something meets the conditions of each clause of `FieldsStoredByAccessType`. -/
theorem witness_FieldsStoredByAccessType :
    (∃ c, c < 256 ∧ ∃ d, d ∈ blockRegs c ∧ ∃ f, f ∈ d.fields) ∧
    (∃ c, c < 256 ∧ ∃ d, d ∈ blockRegs c ∧ ∃ i, i < 64 ∧ ∀ f, f ∈ d.fields → i < f.lo ∨ f.lo + f.w ≤ i) :=
  ⟨⟨0x13, by decide, (blockRegs 0x13).headD ⟨CMB_CFG, 0, false, .both, []⟩, by decide +kernel, ((blockRegs 0x13).headD ⟨CMB_CFG, 0, false, .both, []⟩).fields.headD ⟨0, 0, .ro, 0⟩, by decide +kernel⟩,
   ⟨0x86, by decide, (blockRegs 0x86).headD ⟨CMB_CFG, 0, false, .both, []⟩, by decide +kernel, 63, by decide, by decide +kernel⟩⟩

/-- Something meets the conditions of each clause of `ErrorLogKeepsItsForm`. -/
theorem witness_ErrorLogKeepsItsForm :
    (∃ (s : State) (p : Part), (s.chip p).log.length ≤ 256) ∧
    (∃ (s : State) (p : Part), (s.chip p).log.length = 2 ∧ (s.chip p).log.Pairwise (fun a b => recBefore a b = true)) ∧
    (∃ (s : State) (p : Part), (s.chip p).log.length < 256) ∧
    (∃ (s : State) (p : Part) (r : ErrRec), 256 ≤ (s.chip p).log.length ∧ r.sev < 4) ∧
    (∃ (s : State) (p : Part) (r : ErrRec), 256 ≤ (s.chip p).log.length ∧ r.sev = 4 ∧ ∀ x, x ∈ (s.chip p).log → x.sev ≤ 4) :=
  ⟨⟨State.reset, .sw, by decide⟩,
   ⟨State.reset.onChip .sw fun c => { c with log := [⟨0, 0, none, false, 3, 0, 0, 5, 0, 0⟩, ⟨0, 0, none, false, 4, 0, 0, 5, 0, 0⟩] }, .sw, by decide⟩,
   ⟨State.reset, .sw, by decide⟩,
   ⟨(State.reset.onChip .sw fun c => { c with log := List.replicate 256 ⟨0, 2, none, false, 3, 0, 0, 5, 0, 0⟩ }), .sw, ⟨0, 3, none, false, 3, 0, 0, 5, 0, 0⟩, by decide +kernel⟩,
   ⟨(State.reset.onChip .sw fun c => { c with log := List.replicate 256 ⟨0, 2, none, false, 3, 0, 0, 5, 0, 0⟩ }), .sw, ⟨0, 4, none, false, 3, 0, 0, 5, 0, 0⟩, by decide +kernel⟩⟩

/-- Something meets the conditions of each clause of `MinifloatCodesRoundTrip`. -/
theorem witness_MinifloatCodesRoundTrip :
    (∃ f c, f ∈ [fpE4M3, fpE5M2, fp16, bf16, fp32, fp64, fpE3M2, fpE2M3, fpE2M1] ∧ c < 2 ^ f.bits ∧ fpDecode f c ≠ .nan) ∧
    (∃ f c, f ∈ [fpE4M3, fpE5M2, fp16, bf16, fp32, fp64, fpE3M2, fpE2M3, fpE2M1] ∧ c < 2 ^ f.bits ∧ ∃ n m e, fpDecode f c = .fin n m e) :=
  ⟨⟨fp64, 2 ^ 63 + 1, by decide⟩,
   ⟨fpE2M1, 15, by decide, by decide, true, 3, 1, by decide⟩⟩

/-- Something meets the conditions of each clause of `IdentificationNeverChanges`. -/
theorem witness_IdentificationNeverChanges :
    (∃ s : State, s.IdentityOk ∧ ∃ t, step s = .next t) :=
  ⟨State.reset, by show State.reset.identity = _; decide +kernel, State.reset.tick, rfl⟩

/-- Something meets the conditions of each clause of `PoolMemoryKeepsItsForm`. -/
theorem witness_PoolMemoryKeepsItsForm :
    (∃ s : State, Memory.wf s.sw.pool.mem = true ∧ s.sw.pool.mem ≠ [] ∧ ∃ t, step s = .next t) :=
  ⟨State.reset.onPool fun p => { p with mem := [(5, 7)] }, by decide +kernel, by decide +kernel, _, rfl⟩

/-- Something meets the conditions of each clause of `OnlyListedComponentsChange`. -/
theorem witness_OnlyListedComponentsChange :
    (∃ (c : Instr) (s t : State) (x : Comp), exec c s = .next t ∧ (mayChange c).all (fun y => !y.meets x) = true ∧ x = .page .ep pgPwr) ∧
    (∃ (c : Instr) (s t : State) (x : Comp), exec c s = .next t ∧ (mayChange c).all (fun y => !y.meets x) = true ∧ x = .mem) :=
  ⟨⟨.tapReset .ep [], State.reset, _, .page .ep pgPwr, rfl, by decide, rfl⟩,
   ⟨.cmdNop 0, State.reset, _, .mem, rfl, by decide, rfl⟩⟩

end Sys2Proof.Machine.Tests
end

section
/-! SUPPORT. A frame of the Laws read one component at a time: what an operation writes none of, it leaves as it was; and the halves of the state that their components give back. -/

namespace Sys2Proof.Machine

/-- A component is part of another: the same, or among all the registers of a part. -/
def Comp.within (x y : Comp) : Bool :=
  match y with
  | .regs p => x.meets (.regs p)
  | y => x == y

theorem Comp.meets_self (x : Comp) : x.meets x = true := by
  cases x <;> simp [Comp.meets]

theorem Comp.meets_of_within {x y : Comp} (h : x.within y = true) : x.meets y = true := by
  unfold Comp.within at h
  split at h
  · exact h
  · rw [eq_of_beq h]; exact Comp.meets_self _

/-- A watch on one component does not see what has nothing in common with it. -/
theorem off1_within {d c : Comp} (h : d.meets c = false) : Off1 (·.within c) d := by
  have apart : ∀ x : Comp, x.meets c = false → x.within c = false := fun x hx =>
    Bool.eq_false_iff.2 fun hw => Bool.eq_false_iff.1 hx (Comp.meets_of_within hw)
  cases d with
  | regs p =>
    have hdr : (Comp.hdr p).within c = false := by cases c <;> simp_all [Comp.within, Comp.meets]
    have page : ∀ n, (Comp.page p n).within c = false := by cases c <;> simp_all [Comp.within, Comp.meets]
    exact ⟨hdr, page⟩
  | _ => exact apart _ h

/-- Two states that every watch off the components of `l` sees alike hold the same in a component apart from `l`. -/
theorem sameIn_of_frame {s t : State} {l : List Comp} (hf : ∀ {wt}, Off wt l → t.view wt = s.view wt) (c : Comp)
    (hl : l.all (fun d => !d.meets c) = true) : s.sameIn t c := by
  have off : Off (·.within c) l := off_of _ _ fun d hd => off1_within (by simpa using List.all_eq_true.1 hl d hd)
  refine view_sameIn s t (hf off) (fun p hp => ?_) c ?_
  · cases c <;> simp_all [Comp.within, Comp.meets]
  · cases c <;> simp [Comp.within, Comp.meets]

theorem chip_eq_of_rest {a b : Chip} (hlog : a.log = b.log) (hsync : a.sync = b.sync) (hrest : a.rest = b.rest) :
    a = { b with ltc := a.ltc, regs := a.regs, ports := a.ports } := by
  cases a; cases b; simp_all [Chip.rest]

theorem pool_eq_of_rest {a b : Pool} (hmem : a.mem = b.mem) (hrest : a.rest = b.rest) : a = b := by
  cases a; cases b; simp_all [Pool.rest]

theorem svc_eq_of_rest {a b : Svc} (hprogs : a.progs = b.progs) (hrest : a.rest = b.rest) : a = b := by
  cases a; cases b; simp_all [Svc.rest]

theorem herds_eq_of_rest {a b : Herds} (hherds : a.herds = b.herds) (hrest : a.rest = b.rest) : a = b := by
  cases a; cases b; simp_all [Herds.rest]

theorem dct_eq_of_rest {a b : Dct} (hheld : a.held = b.held) (hrest : a.rest = b.rest) : a = b := by
  cases a; cases b; simp_all [Dct.held, Dct.rest]

theorem fw_eq_of_rest {a b : Fw} (hheld : a.held = b.held) (hrest : a.rest = b.rest) : a = b := by
  cases a; cases b; simp_all [Fw.held, Fw.rest]

/-- The switch beyond its registers, its crossbar and queues left out. -/
def swComps : List Comp := [.mem, .pool, .progs, .svc, .herds, .hrd, .host, .bindings, .dct, .images, .fw]

theorem sw_eq_of_sameIn {s t : State} (h : ∀ c ∈ swComps, s.sameIn t c) : t.sw = { s.sw with core := t.sw.core } := by
  have pool : t.sw.pool = s.sw.pool := pool_eq_of_rest (h .mem (by decide)) (h .pool (by decide))
  have svc : t.sw.svc = s.sw.svc := svc_eq_of_rest (h .progs (by decide)) (h .svc (by decide))
  have hrd : t.sw.hrd = s.sw.hrd := herds_eq_of_rest (h .herds (by decide)) (h .hrd (by decide))
  have dct : t.sw.dct = s.sw.dct := dct_eq_of_rest (h .bindings (by decide)) (h .dct (by decide))
  have fw : t.sw.fw = s.sw.fw := fw_eq_of_rest (h .images (by decide)) (h .fw (by decide))
  obtain ⟨invals, cxl⟩ : t.sw.invals = s.sw.invals ∧ t.sw.cxl = s.sw.cxl := h .host (by decide)
  show t.sw = ⟨t.sw.core, s.sw.pool, s.sw.svc, s.sw.hrd, s.sw.invals, s.sw.cxl, s.sw.dct, s.sw.fw⟩
  rw [← pool, ← svc, ← hrd, ← invals, ← cxl, ← dct, ← fw]

end Sys2Proof.Machine
end

section
/-! A step on an empty queue (R9, R478): what a tick leaves of the switch, how far it takes the counters, and what it does to an empty crossbar. -/

namespace Sys2Proof.Machine

theorem step_of_pending_nil {s : State} (h : s.pending = []) : step s = .next s.tick := by
  simp only [step, h]

theorem tick_pending (s : State) : s.tick.pending = s.pending :=
  congrArg (fun k => k.2.2) (State_tick_keep s)

/-! ### The frame of a tick -/

theorem tick_sw (s : State) : s.tick.sw = { s.sw with core := s.tick.sw.core } :=
  sw_eq_of_sameIn fun c hc => sameIn_of_frame (State_tick_frame s) c (by revert c; decide)

theorem tick_swc (s : State) :
    s.tick.swc = { s.swc with ltc := s.tick.swc.ltc, regs := s.tick.swc.regs, ports := s.tick.swc.ports } :=
  have same (c : Comp) := sameIn_of_frame (State_tick_frame s) c
  chip_eq_of_rest (same (.log .sw) (by decide)) (same (.sync .sw) (by decide)) (same (.chip .sw) (by decide))

/-- The state once both counters have gone on, before the crossbar. -/
def State.clocked (s : State) : State := (s.tickPart .sw).tickPart .ep

/-- What the links and the bridles may change in a tick. -/
def linkComps : List Comp :=
  [.page .sw 0x100, .page .sw 0x280, .ports .sw, .page .ep 0x10, .page .ep 0x11, .page .ep 0x100, .page .ep 0x280, .ports .ep, .rly, .reqs, .sent, .free]

theorem tick_view_xbarTick (s : State) {wt : Comp → Bool} (hoff : Off wt linkComps) :
    s.tick.view wt = s.clocked.xbarTick.view wt := by
  simp only [linkComps, off_cons, off_nil] at hoff
  unfold State.tick
  dsimp only
  split <;> simp [State.clocked, hoff]

/-! ### The counters (R9, R478) -/

theorem tickStep_eq (s : State) (p : Part) :
    s.tickStep p = if (s.chip p).inReset ∨ (s.chip p).standbyUp = false then 0 else if s.get p CLK_STS_PLL_LOCK = 1 then 1 else 7 := by
  have bit : s.get p CLK_STS_PLL_LOCK < 2 := Nat.mod_lt _ (by decide)
  have lock : s.flag p CLK_STS_PLL_LOCK = true ↔ s.get p CLK_STS_PLL_LOCK = 1 := by
    simp only [State.flag, bne_iff_ne]; omega
  simp only [State.tickStep, lock, Bool.or_eq_true, Bool.not_eq_true']

theorem tickStep_congr {s t : State} {p : Part} (h : t.chip p = s.chip p) : t.tickStep p = s.tickStep p := by
  unfold State.tickStep State.flag State.get State.rd
  rw [h]

theorem tickPart_ltc (s : State) (p : Part) :
    ((s.tickPart p).chip p).ltc = (s.chip p).ltc + BitVec.ofNat 64 (s.tickStep p) := by
  simp [State.tickPart]

theorem tickPart_other (s : State) {p q : Part} (h : q ≠ p) : (s.tickPart p).chip q = s.chip q :=
  onChip_other _ _ _ _ h

theorem clocked_ltc (s : State) (p : Part) : (s.clocked.chip p).ltc = (s.chip p).ltc + BitVec.ofNat 64 (s.tickStep p) := by
  cases p with
  | sw => rw [State.clocked, tickPart_other _ (by decide), tickPart_ltc]
  | ep => rw [State.clocked, tickPart_ltc, tickStep_congr (tickPart_other s (by decide)), tickPart_other _ (by decide)]

theorem tick_ltc (s : State) (p : Part) : (s.tick.chip p).ltc = (s.chip p).ltc + BitVec.ofNat 64 (s.tickStep p) := by
  have links : s.clocked.xbarTick.sameIn s.tick (.ltc p) := sameIn_of_frame (tick_view_xbarTick s) _ (by cases p <;> decide)
  have xbar : s.clocked.sameIn s.clocked.xbarTick (.ltc p) := sameIn_of_frame (State_xbarTick_frame _) _ (by cases p <;> decide)
  calc (s.tick.chip p).ltc = (s.clocked.xbarTick.chip p).ltc := links
    _ = (s.clocked.chip p).ltc := xbar
    _ = _ := clocked_ltc s p

/-! ### An empty crossbar (R250 to R252) -/

/-- No packet waits at the crossbar and no cell is in it. -/
structure SwCore.Empty (c : SwCore) : Prop where
  queue : c.queue = []
  mids : c.mids = []
  reseq : c.reseq = []

/-- The run with nothing changed but the number of its cycle. -/
def XRun.wait (r : XRun) (k : Nat) : XRun := { r with core := { r.core with cycle := r.core.cycle + k } }

theorem XRun.cycle_of_empty (width fenced : Nat) (r : XRun) (h : r.core.Empty) : r.cycle width fenced = r.wait 1 := by
  obtain ⟨hqueue, hmids, hreseq⟩ := h
  simp [XRun.cycle, XRun.wait, hqueue, hmids, hreseq, cellsIn, fullest, SwCore.releaseN]

theorem XRun.cycles_of_empty (width fenced k : Nat) (r : XRun) (h : r.core.Empty) : r.cycles width fenced k = r.wait k := by
  induction k generalizing r with
  | zero => rfl
  | succ k ih =>
    have still : (r.wait 1).core.Empty := ⟨h.queue, h.mids, h.reseq⟩
    rw [XRun.cycles, XRun.cycle_of_empty _ _ _ h, ih _ still]
    simp only [XRun.wait, Nat.add_assoc, Nat.add_comm 1 k]

theorem xbarTick_core_of_empty (s : State) (h : s.sw.core.Empty) :
    s.xbarTick.sw.core = { s.sw.core with cycle := s.sw.core.cycle + if s.xbarRuns then 8 else 0 } := by
  have run (width fenced : Nat) : XRun.cycles width fenced 8 { core := s.sw.core } = XRun.wait { core := s.sw.core } 8 :=
    XRun.cycles_of_empty _ _ _ _ h
  unfold State.xbarTick
  cases hruns : s.xbarRuns with
  | false => simp
  | true => simp [run, XRun.wait, h.queue, State.addWrap, State.peak]

theorem tick_core_of_empty (s : State) (h : s.sw.core.Empty) :
    s.tick.sw.core = { s.sw.core with cycle := s.sw.core.cycle + if s.xbarRuns then 8 else 0 } := by
  have links : s.clocked.xbarTick.sameIn s.tick .core := sameIn_of_frame (tick_view_xbarTick s) _ (by decide)
  calc s.tick.sw.core = s.clocked.xbarTick.sw.core := links
    _ = _ := xbarTick_core_of_empty s.clocked h

/-- Settles O40: a step on an empty queue is the tick, whose frame, counters and crossbar the lemmas above give. -/
theorem idleStepLetsTimePass : Obligations.IdleStepLetsTimePass := by
  intro s hs
  refine ⟨s.tick, step_of_pending_nil hs, (tick_pending s).trans hs, tick_sw s, tick_swc s, ?_, ?_⟩
  · exact fun hqueue hmids hreseq => tick_core_of_empty s ⟨hqueue, hmids, hreseq⟩
  · intro p
    rw [tick_ltc, tickStep_eq]

end Sys2Proof.Machine
end

section
/-! Node IDs, coordinates and the landing endpoint (R14, R22, R31): what each coordinate of a node made from its coordinates is, and where a packet for a switch lands, axis by axis. -/

namespace Sys2Proof.Machine

/-! ### Bit fields -/

theorem bitsOf_eq (n lo w : Nat) : bitsOf n lo w = n / 2 ^ lo % 2 ^ w := by
  rw [bitsOf, Nat.shiftRight_eq_div_pow]

theorem bitsOf_lt (n lo w : Nat) : bitsOf n lo w < 2 ^ w := Nat.mod_lt _ (Nat.two_pow_pos w)

theorem bitsOf_bitsOf_zero (n k : Nat) {lo w : Nat} (h : lo + w ≤ k) : bitsOf (bitsOf n 0 k) lo w = bitsOf n lo w := by
  apply Nat.eq_of_testBit_eq
  intro i
  simp only [bitsOf, Nat.testBit_mod_two_pow, Nat.testBit_shiftRight, Nat.zero_add]
  by_cases hi : i < w
  · have hk : lo + i < k := by omega
    simp [hk]
  · simp [hi]

/-! ### Coordinates of a node (R14) -/

theorem coordOf_x (id : Nat) : coordOf 1 id = bitsOf id 0 5 := rfl

theorem coordOf_y (id : Nat) : coordOf 2 id = bitsOf id 5 6 := rfl

theorem coordOf_z (id : Nat) : coordOf 3 id = bitsOf id 11 6 := rfl

theorem coordOf_x_lt (id : Nat) : coordOf 1 id < 32 := bitsOf_lt id 0 5

theorem coordOf_y_lt (id : Nat) : coordOf 2 id < 64 := bitsOf_lt id 5 6

theorem coordOf_z_lt (id : Nat) : coordOf 3 id < 64 := bitsOf_lt id 11 6

theorem nodeOf_eq {z y x : Nat} (hz : z < 64) (hy : y < 64) (hx : x < 32) :
    nodeOf z y x = z * 2 ^ 11 + y * 2 ^ 5 + x := by
  simp [nodeOf, Nat.mod_eq_of_lt hz, Nat.mod_eq_of_lt hy, Nat.mod_eq_of_lt hx]

theorem coordOf_x_nodeOf (z y : Nat) {x : Nat} (hx : x < 32) : coordOf 1 (nodeOf z y x) = x := by
  rw [coordOf_x, bitsOf_eq, nodeOf]; omega

theorem coordOf_y_nodeOf (z x : Nat) {y : Nat} (hy : y < 64) : coordOf 2 (nodeOf z y x) = y := by
  rw [coordOf_y, bitsOf_eq, nodeOf]; omega

theorem coordOf_z_nodeOf (y x : Nat) {z : Nat} (hz : z < 64) : coordOf 3 (nodeOf z y x) = z := by
  rw [coordOf_z, bitsOf_eq, nodeOf]; omega

theorem nodeOf_lt (z y x : Nat) : nodeOf z y x < 2 ^ 17 := by
  rw [nodeOf]; omega

/-- A node ID is made from its own three fields: nothing of the 17 bits is left over. -/
theorem nodeOf_coordOf {id : Nat} (h : id < 2 ^ 17) : nodeOf (coordOf 3 id) (coordOf 2 id) (coordOf 1 id) = id := by
  rw [nodeOf_eq (coordOf_z_lt id) (coordOf_y_lt id) (coordOf_x_lt id), coordOf_x, coordOf_y, coordOf_z]
  simp only [bitsOf_eq]
  omega

/-- Settles O48: the node ID of a coordinate and the coordinates of a node ID undo each other. -/
theorem nodeIdsNameCoordinates : Obligations.NodeIdsNameCoordinates := by
  constructor
  · exact fun id hid => ⟨coordOf_x_lt id, coordOf_y_lt id, coordOf_z_lt id, nodeOf_coordOf hid⟩
  · exact fun z hz y hy x hx =>
      ⟨nodeOf_lt z y x, nodeOf_eq hz hy hx, coordOf_z_nodeOf y x hz, coordOf_y_nodeOf z x hy, coordOf_x_nodeOf z y hx⟩

/-! ### The landing endpoint (R22, R31) -/

/-- A valid switch stands on one of the three axes (R22, R23). -/
theorem swAxis_of_valid {sid : Nat} (h : swIdValid sid = true) : swAxis sid = 1 ∨ swAxis sid = 2 ∨ swAxis sid = 3 := by
  obtain ⟨⟨hne, -⟩, -⟩ : (swAxis sid ≠ 0 ∧ _) ∧ _ := by
    simpa only [swIdValid, Bool.and_eq_true, bne_iff_ne] using h
  have hlt : swAxis sid < 4 := bitsOf_lt sid 14 2
  omega

theorem landing_of_axis_x {sid : Nat} (h : swAxis sid = 1) (src : Nat) :
    landing sid src = nodeOf (bitsOf sid 6 6) (bitsOf sid 0 6) (coordOf 1 src) := by
  simp [landing, nodeAt, h, bitsOf_bitsOf_zero]

theorem landing_of_axis_y {sid : Nat} (h : swAxis sid = 2) (src : Nat) :
    landing sid src = nodeOf (bitsOf sid 5 6) (coordOf 2 src) (bitsOf sid 0 5) := by
  simp [landing, nodeAt, h, bitsOf_bitsOf_zero]

theorem landing_of_axis_z {sid : Nat} (h : swAxis sid = 3) (src : Nat) :
    landing sid src = nodeOf (coordOf 3 src) (bitsOf sid 5 6) (bitsOf sid 0 5) := by
  simp [landing, nodeAt, h, bitsOf_bitsOf_zero]

theorem coordOf_axis_landing {sid : Nat} (h : swIdValid sid = true) (src : Nat) :
    coordOf (swAxis sid) (landing sid src) = coordOf (swAxis sid) src := by
  obtain hx | hy | hz := swAxis_of_valid h
  · rw [landing_of_axis_x hx, hx, coordOf_x_nodeOf _ _ (coordOf_x_lt src)]
  · rw [landing_of_axis_y hy, hy, coordOf_y_nodeOf _ _ (coordOf_y_lt src)]
  · rw [landing_of_axis_z hz, hz, coordOf_z_nodeOf _ _ (coordOf_z_lt src)]

/-- The group of a switch on an axis `a` that is not its own (R22): its field of the switch ID. -/
def groupOn (sid a : Nat) : Nat :=
  if a = 3 then (if swAxis sid = 1 then bitsOf sid 6 6 else bitsOf sid 5 6)
  else if a = 2 then (if swAxis sid = 1 then bitsOf sid 0 6 else bitsOf sid 5 6) else bitsOf sid 0 5

theorem coordOf_other_landing {sid a : Nat} (h : swIdValid sid = true) (ha : a = 1 ∨ a = 2 ∨ a = 3) (hne : a ≠ swAxis sid)
    (src : Nat) : coordOf a (landing sid src) = groupOn sid a := by
  obtain hx | hy | hz := swAxis_of_valid h
  · rw [landing_of_axis_x hx]
    obtain rfl | rfl | rfl := ha
    · exact absurd hx.symm hne
    · simpa [groupOn, hx] using coordOf_y_nodeOf _ _ (bitsOf_lt sid 0 6)
    · simpa [groupOn, hx] using coordOf_z_nodeOf _ _ (bitsOf_lt sid 6 6)
  · rw [landing_of_axis_y hy]
    obtain rfl | rfl | rfl := ha
    · simpa [groupOn] using coordOf_x_nodeOf _ _ (bitsOf_lt sid 0 5)
    · exact absurd hy.symm hne
    · simpa [groupOn, hy] using coordOf_z_nodeOf _ _ (bitsOf_lt sid 5 6)
  · rw [landing_of_axis_z hz]
    obtain rfl | rfl | rfl := ha
    · simpa [groupOn] using coordOf_x_nodeOf _ _ (bitsOf_lt sid 0 5)
    · simpa [groupOn, hz] using coordOf_y_nodeOf _ _ (bitsOf_lt sid 5 6)
    · exact absurd hz.symm hne

/-- Settles O49: on its own axis the landing endpoint keeps the coordinate of the source, on the others it has the group; the worked example evaluates. -/
theorem landingKeepsTheAxisCoordinate : Obligations.LandingKeepsTheAxisCoordinate := by
  refine ⟨fun _ src h => coordOf_axis_landing h src, ?_, by decide⟩
  intro sid src a h hlo hhi hne
  have ha : a = 1 ∨ a = 2 ∨ a = 3 := by omega
  exact coordOf_other_landing h ha hne src

end Sys2Proof.Machine
end

section
/-! Integer atomics (R91, R93): the new value of each opcode, and what it is as a word of `8 * n` bits, for every size. -/

namespace Sys2Proof.Machine

/-! ### The new value of each opcode (R91) -/

theorem atomicNew_swap (n old a b : Nat) : atomicNew opSWAP n old a b = a := rfl

theorem atomicNew_cas (n old a b : Nat) : atomicNew opCAS n old a b = if old = a then b else old := by
  show (if old == a then b else old) = _
  simp only [beq_iff_eq]

theorem atomicNew_fetchAdd (n old a b : Nat) : atomicNew opFETCH_ADD n old a b = (old + a) % 2 ^ (8 * n) := rfl

theorem atomicNew_add (n old a b : Nat) : atomicNew opADD n old a b = (old + a) % 2 ^ (8 * n) := rfl

theorem atomicNew_and (n old a b : Nat) : atomicNew opFETCH_AND n old a b = old &&& a := rfl

theorem atomicNew_or (n old a b : Nat) : atomicNew opFETCH_OR n old a b = old ||| a := rfl

theorem atomicNew_xor (n old a b : Nat) : atomicNew opFETCH_XOR n old a b = old ^^^ a := rfl

theorem atomicNew_minS (n old a b : Nat) :
    atomicNew opFETCH_MIN_S n old a b = if signedOf n a < signedOf n old then a else old := rfl

theorem atomicNew_minU (n old a b : Nat) : atomicNew opFETCH_MIN_U n old a b = min old a := rfl

theorem atomicNew_maxS (n old a b : Nat) :
    atomicNew opFETCH_MAX_S n old a b = if signedOf n old < signedOf n a then a else old := rfl

theorem atomicNew_maxU (n old a b : Nat) : atomicNew opFETCH_MAX_U n old a b = max old a := rfl

/-! ### Words of `8 * n` bits (R93) -/

theorem toNat_ofNat_of_lt {w v : Nat} (hv : v < 2 ^ w) : (BitVec.ofNat w v).toNat = v := by
  rw [BitVec.toNat_ofNat, Nat.mod_eq_of_lt hv]

/-- The two's complement of the model is that of the bit vector. -/
theorem toInt_ofNat_eq_signedOf {n v : Nat} (hn : 0 < n) (hv : v < 2 ^ (8 * n)) :
    (BitVec.ofNat (8 * n) v).toInt = signedOf n v := by
  have half : 2 ^ (8 * n - 1) * 2 = 2 ^ (8 * n) := Nat.two_pow_pred_mul_two (by omega)
  rw [BitVec.toInt_eq_toNat_cond, toNat_ofNat_of_lt hv, signedOf]
  by_cases h : 2 ^ (8 * n - 1) ≤ v
  · rw [if_pos h, if_neg (by omega)]
    simp
  · rw [if_neg h, if_pos (by omega)]

theorem ofNat_fetchAdd (n old a b : Nat) :
    BitVec.ofNat (8 * n) (atomicNew opFETCH_ADD n old a b) = BitVec.ofNat (8 * n) old + BitVec.ofNat (8 * n) a := by
  rw [atomicNew_fetchAdd, BitVec.ofNat_add_ofNat]
  exact BitVec.eq_of_toNat_eq (by simp)

theorem signedOf_minS (n old a b : Nat) :
    signedOf n (atomicNew opFETCH_MIN_S n old a b) = min (signedOf n old) (signedOf n a) := by
  rw [atomicNew_minS]
  split <;> omega

theorem signedOf_maxS (n old a b : Nat) :
    signedOf n (atomicNew opFETCH_MAX_S n old a b) = max (signedOf n old) (signedOf n a) := by
  rw [atomicNew_maxS]
  split <;> omega

section
variable {n old a : Nat} (hold : old < 2 ^ (8 * n)) (ha : a < 2 ^ (8 * n))
include hold ha

theorem minS_lt (b : Nat) : atomicNew opFETCH_MIN_S n old a b < 2 ^ (8 * n) := by
  rw [atomicNew_minS]
  split <;> assumption

theorem maxS_lt (b : Nat) : atomicNew opFETCH_MAX_S n old a b < 2 ^ (8 * n) := by
  rw [atomicNew_maxS]
  split <;> assumption

theorem toInt_minS (hn : 0 < n) (b : Nat) :
    (BitVec.ofNat (8 * n) (atomicNew opFETCH_MIN_S n old a b)).toInt
      = min (BitVec.ofNat (8 * n) old).toInt (BitVec.ofNat (8 * n) a).toInt := by
  rw [toInt_ofNat_eq_signedOf hn (minS_lt hold ha b), toInt_ofNat_eq_signedOf hn hold, toInt_ofNat_eq_signedOf hn ha,
    signedOf_minS]

theorem toInt_maxS (hn : 0 < n) (b : Nat) :
    (BitVec.ofNat (8 * n) (atomicNew opFETCH_MAX_S n old a b)).toInt
      = max (BitVec.ofNat (8 * n) old).toInt (BitVec.ofNat (8 * n) a).toInt := by
  rw [toInt_ofNat_eq_signedOf hn (maxS_lt hold ha b), toInt_ofNat_eq_signedOf hn hold, toInt_ofNat_eq_signedOf hn ha,
    signedOf_maxS]

end

/-- The claim of `Obligations.IntegerAtomicsExact` for atomics of `n` bytes, on words of `8 * n` bits. -/
def IntegerAtomicsExactAt (n : Nat) : Prop :=
  ∀ old a b : Nat, old < 2 ^ (8 * n) → a < 2 ^ (8 * n) → b < 2 ^ (8 * n) →
    BitVec.ofNat (8 * n) (atomicNew opFETCH_ADD n old a b) = BitVec.ofNat (8 * n) old + BitVec.ofNat (8 * n) a ∧
    atomicNew opADD n old a b = atomicNew opFETCH_ADD n old a b ∧
    atomicNew opFETCH_ADD n old a b < 2 ^ (8 * n) ∧
    BitVec.ofNat (8 * n) (atomicNew opFETCH_AND n old a b) = BitVec.ofNat (8 * n) old &&& BitVec.ofNat (8 * n) a ∧
    BitVec.ofNat (8 * n) (atomicNew opFETCH_OR n old a b) = BitVec.ofNat (8 * n) old ||| BitVec.ofNat (8 * n) a ∧
    BitVec.ofNat (8 * n) (atomicNew opFETCH_XOR n old a b) = BitVec.ofNat (8 * n) old ^^^ BitVec.ofNat (8 * n) a ∧
    (BitVec.ofNat (8 * n) (atomicNew opFETCH_MIN_S n old a b)).toInt
      = min (BitVec.ofNat (8 * n) old).toInt (BitVec.ofNat (8 * n) a).toInt ∧
    (BitVec.ofNat (8 * n) (atomicNew opFETCH_MAX_S n old a b)).toInt
      = max (BitVec.ofNat (8 * n) old).toInt (BitVec.ofNat (8 * n) a).toInt ∧
    (BitVec.ofNat (8 * n) (atomicNew opFETCH_MIN_U n old a b)).toNat = min old a ∧
    (BitVec.ofNat (8 * n) (atomicNew opFETCH_MAX_U n old a b)).toNat = max old a ∧
    atomicNew opSWAP n old a b = a ∧
    atomicNew opCAS n old a b = (if old = a then b else old)

theorem integerAtomicsExactAt {n : Nat} (hn : 0 < n) : IntegerAtomicsExactAt n := by
  intro old a b hold ha _
  refine ⟨ofNat_fetchAdd n old a b, ?add, ?bound, ?and, ?or, ?xor, toInt_minS hold ha hn b, toInt_maxS hold ha hn b, ?minU,
    ?maxU, atomicNew_swap n old a b, atomicNew_cas n old a b⟩
  case add => rw [atomicNew_add, atomicNew_fetchAdd]
  case bound => exact Nat.mod_lt _ (Nat.two_pow_pos _)
  case and => rw [atomicNew_and, BitVec.ofNat_and]
  case or => rw [atomicNew_or, BitVec.ofNat_or]
  case xor => rw [atomicNew_xor, BitVec.ofNat_xor]
  case minU => exact toNat_ofNat_of_lt (Nat.lt_of_le_of_lt (Nat.min_le_left old a) hold)
  case maxU => exact toNat_ofNat_of_lt (Nat.max_lt.2 ⟨hold, ha⟩)

/-- Settles O50: the two word sizes are 4 and 8 bytes of the general fact. -/
theorem integerAtomicsExact : Obligations.IntegerAtomicsExact :=
  ⟨integerAtomicsExactAt (n := 4) (by decide), integerAtomicsExactAt (n := 8) (by decide)⟩

end Sys2Proof.Machine
end

section
/-! A combined group of integer adds (R99) as one fold over its members, which is the members' adds one after another. -/

namespace Sys2Proof.Machine

theorem atomicNew_of_add {op : Nat} (h : op = opADD ∨ op = opFETCH_ADD) (n old a b : Nat) :
    atomicNew op n old a b = (old + a) % 2 ^ (8 * n) := by
  obtain rfl | rfl := h
  · exact atomicNew_add n old a b
  · exact atomicNew_fetchAdd n old a b

theorem returnsOld_of_add {op : Nat} (h : op = opADD ∨ op = opFETCH_ADD) : returnsOld op = true ↔ op = opFETCH_ADD := by
  obtain rfl | rfl := h <;> decide

/-- The value after the atomics of the members, one after another in their order. -/
def serialValue (op n old : Nat) (ms : List Member) : Nat :=
  ms.foldl (fun v m => atomicNew op n v (atomicArgs m.pkt n).1 0) old

/-- What a member is given whose atomic finds `v`. -/
def addAnswer (op n v : Nat) : Nat × List Byte × Nat := (stOK, if returnsOld op then leBytes n v else [], 0)

/-- One member merged: the running total and the answers so far. -/
def mergeAdd (op n : Nat) (acc : Nat × List (Nat × List Byte × Nat)) (m : Member) : Nat × List (Nat × List Byte × Nat) :=
  ((acc.1 + (atomicArgs m.pkt n).1) % 2 ^ (8 * n), acc.2 ++ [addAnswer op n acc.1])

/-- The answers of the members one after another: member `k` finds what the `k` before it leave. -/
def serialAnswers (op n old : Nat) (ms : List Member) : List (Nat × List Byte × Nat) :=
  (List.range ms.length).map fun k => addAnswer op n (serialValue op n old (ms.take k))

theorem serialValue_cons (op n old : Nat) (m : Member) (ms : List Member) :
    serialValue op n old (m :: ms) = serialValue op n (atomicNew op n old (atomicArgs m.pkt n).1 0) ms := rfl

theorem serialAnswers_cons (op n old : Nat) (m : Member) (ms : List Member) :
    serialAnswers op n old (m :: ms)
      = addAnswer op n old :: serialAnswers op n (atomicNew op n old (atomicArgs m.pkt n).1 0) ms := by
  simp [serialAnswers, List.range_succ_eq_map, Function.comp_def, serialValue]

section
variable {op : Nat} (hop : op = opADD ∨ op = opFETCH_ADD)
include hop

theorem foldl_mergeAdd (n old : Nat) (ms : List Member) (done : List (Nat × List Byte × Nat)) :
    ms.foldl (mergeAdd op n) (old, done) = (serialValue op n old ms, done ++ serialAnswers op n old ms) := by
  induction ms generalizing old done with
  | nil => simp [serialValue, serialAnswers]
  | cons m ms ih =>
    rw [serialValue_cons, serialAnswers_cons, atomicNew_of_add hop, List.foldl_cons, mergeAdd, ih, List.append_assoc,
      List.singleton_append]

/-- The model merges a group of adds member by member; a group of one, which it treats apart, is no exception. -/
theorem groupAtomic_of_adds {r : PReq} (hall : r.members.all (fun m => m.pkt.op == op) = true) (hne : r.members ≠ [])
    (old : Nat) : groupAtomic r old = r.members.foldl (mergeAdd op r.len) (old, []) := by
  obtain ⟨m, ms, hms⟩ := List.exists_cons_of_ne_nil hne
  have head : m.pkt.op = op := eq_of_beq (List.all_eq_true.1 hall m (by simp [hms]))
  have test : (op == opADD || op == opFETCH_ADD) = true := by simpa using hop
  unfold groupAtomic
  rw [hms]
  cases ms with
  | nil => simp [head, mergeAdd, addAnswer, atomicNew_of_add hop]
  | cons m' ms =>
    simp only [List.map_cons, List.head?_cons, Option.map_some, Option.getD_some, head, test, if_true, List.foldl_cons,
      List.foldl_map]
    rfl

theorem groupAtomic_eq_serial {r : PReq} (hall : r.members.all (fun m => m.pkt.op == op) = true) (hne : r.members ≠ [])
    (old : Nat) : groupAtomic r old = (serialValue op r.len old r.members, serialAnswers op r.len old r.members) := by
  rw [groupAtomic_of_adds hop hall hne, foldl_mergeAdd hop, List.nil_append]

theorem addAnswer_of_add (n v : Nat) :
    addAnswer op n v = (stOK, if op = opFETCH_ADD then leBytes n v else [], 0) := by
  simp only [addAnswer, returnsOld_of_add hop]

end

/-- Settles O51: the group's one fold carries the serial value and the serial answers together. -/
theorem combinedAddsMatchASerialOrder : Obligations.CombinedAddsMatchASerialOrder := by
  intro r op old hall hne hop _ _
  rw [groupAtomic_eq_serial hop hall hne]
  refine ⟨rfl, by simp [serialAnswers], fun i hi => ?_⟩
  simp only [serialAnswers, List.getElem?_map, List.getElem?_range hi, Option.map_some, addAnswer_of_add hop, serialValue]

end Sys2Proof.Machine
end

section
/-! The pool's bytes (R102, R103) on a list of cells outside the canonical form. -/

namespace Sys2Proof.Machine

/-- Refutes O58: its read-back clause speaks of every list of cells. On one that names address 0 twice, a store of zero unlists the
first entry alone, and the second then shows. On a memory of the canonical form a stored byte does read back (`readByte_write`). -/
theorem not_poolMemoryKeepsItsForm : ¬ Obligations.PoolMemoryKeepsItsForm := by
  rintro ⟨-, readBack, -⟩
  have stored : Memory.readByte (Memory.write [(0, 1), (0, 2)] 0 [0]) 0 = 0 := readBack [(0, 1), (0, 2)] 0 0 [0]
  have shown : Memory.readByte (Memory.write [(0, 1), (0, 2)] 0 [0]) 0 = 2 := by decide
  exact absurd (stored.symm.trans shown) (by decide)

end Sys2Proof.Machine
end

section
/-! Frames read off registers and off the pool, and the register paths of a write and a read that no rule keeps away (R494 to R508). -/

namespace Sys2Proof.Machine

/-! ### What a frame leaves -/

theorem rd_of_sameIn {s t : State} {p : Part} {r : Reg} (h : s.sameIn t (r.comp p)) (b i : Nat) : t.rd p r b i = s.rd p r b i := by
  by_cases hk : r.key 0 0 % 2 ^ 24 < 0x40
  · have hc : r.comp p = .hdr p := by simp only [Reg.comp, regComp, if_pos hk]
    rw [hc] at h
    exact h r b i hc
  · have hc : r.comp p = .page p (r.key 0 0 % 2 ^ 24 / 4096) := by simp only [Reg.comp, regComp, if_neg hk]
    rw [hc] at h
    exact h r b i hc

/-- A register of a block apart from the components of `l` reads as before. -/
theorem rd_of_frame {s t : State} {l : List Comp} (hf : ∀ {wt}, Off wt l → t.view wt = s.view wt) {p : Part} {r : Reg} {c : Comp}
    (hc : r.comp p = c) (b i : Nat) (hl : l.all (fun d => !d.meets c) = true) : t.rd p r b i = s.rd p r b i :=
  rd_of_sameIn (hc ▸ sameIn_of_frame hf c hl) b i

theorem pool_of_frame {s t : State} {l : List Comp} (hf : ∀ {wt}, Off wt l → t.view wt = s.view wt)
    (hmem : l.all (fun d => !d.meets .mem) = true) (hpool : l.all (fun d => !d.meets .pool) = true) : t.sw.pool = s.sw.pool :=
  pool_eq_of_rest (sameIn_of_frame hf .mem hmem) (sameIn_of_frame hf .pool hpool)

theorem get_congr {s t : State} {p : Part} {f : Fld} {b i : Nat} (h : t.rd p f.reg b i = s.rd p f.reg b i) :
    t.get p f b i = s.get p f b i := by
  rw [State.get, State.get, h]

theorem key_ne_of_bank (r : Reg) {b b' : Nat} (h : b ≠ b') (i : Nat) : r.key b i ≠ r.key b' i := by
  simp only [Reg.key]
  omega

/-- What every step of a fold leaves as it was, the fold does. -/
theorem foldl_leaves {α β : Type} (part : State → β) (f : State → α → State) (h : ∀ s a, part (f s a) = part s) (l : List α)
    (s : State) : part (l.foldl f s) = part s := by
  induction l generalizing s with
  | nil => rfl
  | cons a l ih => rw [List.foldl_cons, ih, h]

theorem onPool_rd (s : State) (f : Pool → Pool) (p : Part) (r : Reg) (b i : Nat) : (s.onPool f).rd p r b i = s.rd p r b i := by
  cases p <;> rfl

theorem emit_rd (s : State) (o : Out) (p : Part) (r : Reg) (b i : Nat) : (s.emit o).rd p r b i = s.rd p r b i := by
  cases p <;> rfl

theorem regDone_rd (s : State) (q : Part) (path : Path) (st : Nat) (data : Word) (p : Part) (r : Reg) (b i : Nat) :
    (s.regDone q path st data).rd p r b i = s.rd p r b i := by
  cases path <;> cases p <;> rfl

theorem regDone_pool (s : State) (q : Part) (path : Path) (st : Nat) (data : Word) : (s.regDone q path st data).sw.pool = s.sw.pool := by
  cases path <;> rfl

/-! ### Writes and reads that reach their register -/

theorem resetting_of_isNone {s : State} {p : Part} {page : Nat} (h : (lookup (s.chip p).pageResets page).isNone = true) :
    s.resetting p page = false := by
  rw [State.resetting, Option.isNone_iff_eq_none.1 h, Option.any_none]

theorem writeBy_of_open {s : State} {path : Path} {p : Part} {page off : Nat} (h : s.writeOpen path p page off = true)
    (w : State → Written) :
    s.writeBy path p page off w = (w s).1.regDone p path (if (w s).2 then stOK else stPERMISSION) := by
  have frame : s.writeFrame path p page off w = ((w s).1, if (w s).2 then stOK else stPERMISSION) := by
    grind [State.writeOpen, State.writeFrame, resetting_of_isNone]
  have serves : pathServes path p = true := by grind [State.writeOpen]
  simp [State.writeBy, serves, frame]

theorem readBy_of_served {s : State} {path : Path} {page off : Nat} (h : path = .host ∨ (path = .sideband ∧ s.mainServes = true))
    (hpage : pageMapped .sw page = true) (f : State → State × Word) :
    s.readBy path .sw page off f = (f s).1.emit (.regDone .sw path stOK (f s).2) := by
  obtain rfl | ⟨rfl, hmain⟩ := h
  · simp [State.readBy, State.readFrame, pathServes, hpage]
  · simp [State.readBy, State.readFrame, pathServes, hpage, hmain]

end Sys2Proof.Machine
end

section
/-! The coherence rows of the pool (R123 to R134, R143, R380): what gives a line back, a snoop answer, and the agent slots. -/

namespace Sys2Proof.Machine

/-! ### Lines and arriving packets -/

theorem keyPtn_lineKey {p line : Nat} (h : line < 2 ^ 33) : keyPtn (lineKey p line) = p := by
  simp only [keyPtn, lineKey]; omega

theorem keyLine_lineKey {p line : Nat} (h : line < 2 ^ 33) : keyLine (lineKey p line) = line := by
  simp only [keyLine, lineKey]; omega

theorem placeOf_pool_line_lt {a : Word} {sid p off : Nat} (h : placeOf a = .pool sid p off) : off / 128 < 2 ^ 33 := by
  have hoff : off = getBits a 0 40 := by grind [placeOf]
  have : getBits a 0 40 < 2 ^ 40 := Nat.mod_lt _ (by decide)
  omega

theorem consume_of_unmarked {s : State} {k : Packet} (h : k.mark = false) (p : Part) : s.consume p k = s := by
  simp [State.consume, h]

theorem snoopTimeout_of_inTime {s : State} {slot : Nat} (h : s.snoopsInTime slot = true) : snoopTimeout slot s = s := by
  obtain ⟨hrecall, hlate⟩ : lookup s.sw.pool.recalls slot = none ∧ _ = false := by
    simpa only [State.snoopsInTime, Bool.and_eq_true, Option.isNone_iff_eq_none, Bool.not_eq_true'] using h
  simp only [snoopTimeout, hrecall, hlate, Bool.false_eq_true, if_false]

/-- A slot that no removal and no recall holds is lost at the snoop timeout with cause 3. -/
theorem snoopTimeout_of_late {s : State} {slot : Nat} (hrecall : lookup s.sw.pool.recalls slot = none)
    (hlate : s.sw.pool.dir.any (fun e => e.2.recalling.any fun r => r.wait.testBit slot && !r.unsent.testBit slot
      && (lookup r.sent slot).any fun a => s.due .sw a (s.get .sw DIR_SNOOP_TMO_TICKS)) = true) :
    snoopTimeout slot s = (s.fenceAgent slot 3).settle := by
  simp only [snoopTimeout, hrecall, hlate, if_true]

/-! ### The owner gives a line up -/

theorem putDir_of_no_sharers {e : DirEntry} (h : e.sharers = 0) (s : State) (key : Nat) :
    s.putDir key e = s.onPool fun q => { q with dir := removeAt q.dir key } := by
  simp [State.putDir, h]

section
variable {s : State} {key : Nat} {e : DirEntry} (hdir : s.dirAt key = some e) (hidle : e.recalling = none)
include hdir hidle

theorem ownerBack_of_idle (slot : Nat) : s.ownerBack key slot 0 = s.onPool fun q => { q with dir := removeAt q.dir key } := by
  simp [State.ownerBack, hdir, hidle, putDir_of_no_sharers]

theorem dropClean_of_idle : s.dropClean key 0 = s.onPool fun q => { q with dir := removeAt q.dir key } := by
  simp [State.dropClean, hdir, hidle, putDir_of_no_sharers]

end

/-- The data of an unBACKED line goes to its HBM line, and the WRITEBACK that brought it is answered. -/
theorem takeData_of_unbacked {s : State} {key : Nat} (h : s.ptnBacked (keyPtn key) = false) (slot : Nat) (bs : List Byte) (k : Packet) :
    s.takeData key slot bs (some k)
      = (s.hbmWrite (s.hbmLine (keyPtn key) (keyLine key)) bs).poolAnswer k stOK [] 0 false := by
  have backed : (s.hbmWrite (s.hbmLine (keyPtn key) (keyLine key)) bs).ptnBacked (keyPtn key) = false := h
  simp [State.takeData, State.backNow, h, backed]

theorem poolAnswer_pool (s : State) (k : Packet) (status : Nat) (data : List Byte) (aux : Nat) (uncached : Bool) :
    (s.poolAnswer k status data aux uncached).sw.pool = s.sw.pool :=
  pool_of_frame (State_poolAnswer_frame s k status data aux uncached) (by decide) (by decide)

theorem swAnswer_pool (s : State) (k : Packet) (status : Nat) : (s.swAnswer k status).sw.pool = s.sw.pool :=
  pool_of_frame (State_swAnswer_frame s k status [] 0) (by decide) (by decide)

theorem hostAnswer_pool (s : State) (kind dpa status : Nat) (data : List Byte) (uncached : Bool) :
    (s.hostAnswer kind dpa status data uncached).sw.pool = s.sw.pool :=
  pool_of_frame (State_hostAnswer_frame s kind dpa status data uncached) (by decide) (by decide)

/-- A packet with which an agent gives back a line that it owns passes all that R57, R13 and R126 ask of it. -/
structure State.OwnerReturns (s : State) (k : Packet) (p off slot : Nat) : Prop where
  unmarked : k.mark = false
  crc : crcOk k = true
  place : placeOf k.addr = .pool s.switchId p off
  agent : s.agentSlot k.src = some slot
  inTime : s.snoopsInTime slot = true
  passes : s.returnCheck k.ctx k.ptn p (off / 128) (some slot) = stOK
  owns : s.ownsLine (lineKey p (off / 128)) (some slot) = true

theorem returnGuard_of_owner {s : State} {k : Packet} {p off slot : Nat} (h : s.OwnerReturns k p off slot)
    (f : Nat → Nat → State → State) : s.returnGuard k f = f (lineKey p (off / 128)) slot s := by
  simp [State.returnGuard, consume_of_unmarked h.unmarked, h.crc, h.place, h.agent, snoopTimeout_of_inTime h.inTime, h.passes, h.owns]

theorem writeback_of_owner {s : State} {k : Packet} {p off slot : Nat} {e : DirEntry} (h : s.OwnerReturns k p off slot)
    (hdir : s.dirAt (lineKey p (off / 128)) = some e) (hidle : e.recalling = none) (hhbm : s.ptnBacked p = false) :
    writeback k s = (((s.onPool fun q => { q with dir := removeAt q.dir (lineKey p (off / 128)) }).hbmWrite
      (s.hbmLine p (off / 128)) (slice k.payload 0 128)).poolAnswer k stOK [] 0 false).settle := by
  have hline := placeOf_pool_line_lt h.place
  rw [writeback, returnGuard_of_owner h, ownerBack_of_idle hdir hidle, takeData_of_unbacked (by rw [keyPtn_lineKey hline]; exact hhbm),
    keyPtn_lineKey hline, keyLine_lineKey hline]
  rfl

theorem cleanEvict_of_owner {s : State} {k : Packet} {p off slot : Nat} {e : DirEntry} (h : s.OwnerReturns k p off slot)
    (hdir : s.dirAt (lineKey p (off / 128)) = some e) (hidle : e.recalling = none) :
    cleanEvict k s = ((s.onPool fun q => { q with dir := removeAt q.dir (lineKey p (off / 128)) }).swAnswer k stOK).settle := by
  rw [cleanEvict, returnGuard_of_owner h, dropClean_of_idle hdir hidle]

/-! ### A snoop answer (R123) -/

/-- A snoop that invalidates is outstanding to a slot, and its answer has not failed yet. -/
structure State.SnoopOut (s : State) (key slot : Nat) (e : DirEntry) (r : Recall) : Prop where
  entry : s.dirAt key = some e
  recalled : e.recalling = some r
  invalidates : r.inv = true
  waits : r.wait.testBit slot = true
  sent : r.unsent.testBit slot = false
  first : r.again.testBit slot = false

/-- An answer without data ends the wait for its slot; a MISS does when no write-back has answered the snoop before it. -/
theorem snoopAnswer_of_out {s : State} {key slot kind : Nat} {e : DirEntry} {r : Recall} (h : s.SnoopOut key slot e r)
    (hkind : kind = 1 ∨ kind = 0 ∧ (key, slot) ∉ s.sw.pool.spent) (bs : List Byte) :
    s.snoopAnswer key slot kind bs true
      = (s.onPool fun q => { q with spent := q.spent.erase (key, slot) }).putDir key
          ({ e.without slot (s.slotHost slot) with excl := false } : DirEntry).ended := by
  obtain ⟨entry, recalled, invalidates, waits, sent, first⟩ := h
  have entry' : (s.onPool fun q => { q with spent := q.spent.erase (key, slot) }).dirAt key = some e := entry
  have host : (s.onPool fun q => { q with spent := q.spent.erase (key, slot) }).slotHost slot = s.slotHost slot := rfl
  obtain rfl | ⟨rfl, unspent⟩ := hkind
  · simp [State.snoopAnswer, State.answered, entry', recalled, invalidates, waits, sent, first, host]
  · simp [State.snoopAnswer, State.answered, entry', recalled, invalidates, waits, sent, first, host, unspent]

/-! ### Agent slots (R130, R134) -/

theorem put_cause_slotState (s : State) (i c j : Nat) : (s.put .sw DIR_AGT_STS_CAUSE c (i + 1)).slotState j = s.slotState j := by
  by_cases h : j = i
  · subst h
    exact get_put_apart s .sw DIR_AGT_STS_CAUSE DIR_AGT_STS_STATE c (j + 1) 0 rfl (by decide)
  · exact get_put_reg s .sw DIR_AGT_STS_CAUSE DIR_AGT_STS_STATE c _ _ _ _ (key_ne_of_bank DIR_AGT_STS (by omega) 0)

theorem put_state_slotState (s : State) (i v : Nat) : (s.put .sw DIR_AGT_STS_STATE v (i + 1)).slotState i = v % 4 :=
  get_put s .sw DIR_AGT_STS_STATE v (i + 1) 0 (by decide)

section
variable {s : State} {i : Nat} (h : s.slotState i = 1) (c : Nat)
include h

theorem fenceAgent_slotState : (s.fenceAgent i c).slotState i = 3 := by
  simp [State.fenceAgent, h, put_cause_slotState, put_state_slotState]

theorem fenceAgent_cause : (s.fenceAgent i c).get .sw DIR_AGT_STS_CAUSE (i + 1) = c % 8 := by
  simp only [State.fenceAgent, h, beq_self_eq_true, Bool.true_or, if_true]
  exact get_put _ .sw DIR_AGT_STS_CAUSE c (i + 1) 0 (by decide)

end

theorem agtReadmit_of_fenced {s : State} (h : s.slotState (s.get .sw DIR_AGT_SEL_SLOT) = 3) :
    s.agtReadmit = (s.put .sw DIR_AGT_STS_STATE 1 (s.get .sw DIR_AGT_SEL_SLOT + 1), true) := by
  simp [State.agtReadmit, h]

theorem regDone_slotState (s : State) (path : Path) (st i : Nat) : (s.regDone .sw path st).slotState i = s.slotState i :=
  get_congr (regDone_rd ..)

/-! ### Owner-lost lines (R133, R143) -/

theorem getBits_mod (v : Word) (lo w : Nat) : getBits v lo w % 2 ^ w = getBits v lo w := Nat.mod_mod _ _

theorem olClear_fields {s : State} {o : Origin} {v : Word} (hbusy : s.flag .sw DIR_OL_CLEAR_BUSY = false)
    (hctl : s.controls o (getBits v 0 6) = true) :
    ∃ u, s.olClear o v = (u, true) ∧ u.get .sw DIR_OL_CLEAR_BUSY = 1 ∧ u.get .sw DIR_OL_CLEAR_LINE = getBits v 7 33
      ∧ u.get .sw DIR_OL_CLEAR_ALL = getBits v 6 1 := by
  simp only [State.olClear, hbusy, hctl, Bool.not_true, Bool.or_self, Bool.false_eq_true, if_false]
  refine ⟨_, rfl, get_put _ _ _ _ _ _ (by decide), ?line, ?all⟩
  case line =>
    exact (get_put_apart _ _ DIR_OL_CLEAR_BUSY DIR_OL_CLEAR_LINE _ _ _ rfl (by decide)).trans
      ((get_put _ _ DIR_OL_CLEAR_LINE _ _ _ (by decide)).trans (getBits_mod v 7 33))
  case all =>
    exact (get_put_apart _ _ DIR_OL_CLEAR_BUSY DIR_OL_CLEAR_ALL _ _ _ rfl (by decide)).trans
      ((get_put_apart _ _ DIR_OL_CLEAR_LINE DIR_OL_CLEAR_ALL _ _ _ rfl (by decide)).trans
        ((get_put _ _ DIR_OL_CLEAR_ALL _ _ _ (by decide)).trans (getBits_mod v 6 1)))

/-- The flags that OL_CLEAR names are gone: those of its partition, or that of its one line. -/
def State.lostLeft (s : State) : SMap Nat :=
  if s.flag .sw DIR_OL_CLEAR_ALL then keepIf (fun k _ => keyPtn k != s.get .sw DIR_OL_CLEAR_PARTITION) s.sw.pool.lost
  else removeAt s.sw.pool.lost (lineKey (s.get .sw DIR_OL_CLEAR_PARTITION) (s.get .sw DIR_OL_CLEAR_LINE))

theorem olClearDone_of_busy {s : State} (h : s.flag .sw DIR_OL_CLEAR_BUSY = true) :
    olClearDone s = ((s.onPool fun q => { q with lost := s.lostLeft }).put .sw DIR_OL_CLEAR_BUSY 0).settle := by
  unfold olClearDone State.lostLeft
  rw [h]
  split
  · contradiction
  · split <;> rfl

theorem getBits_one (v : Word) (i : Nat) : (getBits v i 1 != 0) = v.getLsbD i := by
  have bit := getBits_testBit v i 1 0
  have lt : getBits v i 1 < 2 := Nat.mod_lt _ (by decide)
  grind

/-! ### The host gives up a line (R126, R380) -/

/-- The line of a half line of the host, by its DPA. -/
def hostKey (a : Nat) : Nat := lineKey (a / 2 ^ 40) (a % 2 ^ 40 / 128)

theorem memClnEvct_of_owner {s : State} {dpa a : Nat} (ha : dpa / 64 * 64 = a) (hmem : s.cxlMem = true) (hcheck : s.hostCheck a = stOK)
    (htime : s.hostSlot.all s.snoopsInTime = true) (howns : s.ownsLine (hostKey a) s.hostSlot = true) :
    memClnEvct dpa s
      = ((s.dropClean (hostKey a) (s.otherHalf (hostKey a) (a % 2 ^ 40))).hostAnswer 5 (a / 2 ^ 40 * 2 ^ 40 + a % 2 ^ 40) stOK []
          false).settle := by
  have inTime : s.hostSlot.elim s (fun i => snoopTimeout i s) = s := by
    cases hslot : s.hostSlot with
    | none => rfl
    | some i => exact snoopTimeout_of_inTime (by simpa [hslot] using htime)
  have owns : s.ownsLine (lineKey (a / 2 ^ 40) (a % 2 ^ 40 / 128)) s.hostSlot = true := howns
  simp [memClnEvct, State.hostGuard, hmem, ha, inTime, hcheck, owns, hostKey, -Nat.reducePow]

theorem dirAt_of_ownsLine {s : State} {key : Nat} {slot : Option Nat} (h : s.ownsLine key slot = true) : ∃ e, s.dirAt key = some e := by
  cases slot with
  | none => simp [State.ownsLine] at h
  | some i => cases hdir : s.dirAt key with
    | none => simp [State.ownsLine, hdir] at h
    | some e => exact ⟨e, rfl⟩

/-- Settles O16: each command ends in its own effect, which the lemmas above give; the claims read it off the registers and the pool. -/
theorem coherenceRowsComplete : Obligations.CoherenceRowsComplete := by
  refine ⟨?writeback, ?cleanEvict, ?snpRspReceive, ?snoopTimeout, ?agtFenceWrite, ?agtReadmitWrite, ?olClearWrite, ?olClearDone,
    ?olRec1Read, ?memClnEvct⟩
  case writeback =>
    intro k p off slot e s hmark hcrc hplace hslot htime hcheck howns hdir hidle hhbm
    have returns : s.OwnerReturns k p off slot := ⟨hmark, hcrc, hplace, hslot, htime, hcheck, howns⟩
    refine ⟨_, congrArg Host.Outcome.next (writeback_of_owner returns hdir hidle hhbm), ?_⟩
    show _ ∧ _
    rw [poolAnswer_pool]
    exact ⟨rfl, rfl⟩
  case cleanEvict =>
    intro k p off slot e s hmark hcrc hplace hslot htime hcheck howns hdir hidle
    have returns : s.OwnerReturns k p off slot := ⟨hmark, hcrc, hplace, hslot, htime, hcheck, howns⟩
    refine ⟨_, congrArg Host.Outcome.next (cleanEvict_of_owner returns hdir hidle), ?_⟩
    show _ ∧ _
    rw [swAnswer_pool]
    exact ⟨rfl, rfl⟩
  case snpRspReceive =>
    intro k sid p off slot e r s hmark hcrc hop hack hplace hslot htime hdir hrec hinv hwait hsent hfirst
    refine ⟨_, congrArg Host.Outcome.next ?_, rfl⟩
    have isSnoop : (opSNP_RSP == opCPL) = false := by decide
    simp [snpRspReceive, consume_of_unmarked hmark, hop, isSnoop, hplace, hcrc, hslot, snoopTimeout_of_inTime htime, hack,
      snoopAnswer_of_out ⟨hdir, hrec, hinv, hwait, hsent, hfirst⟩]
  case snoopTimeout =>
    intro slot s hrecall hslot hlate
    exact ⟨_, congrArg Host.Outcome.next (snoopTimeout_of_late hrecall hlate), fenceAgent_slotState hslot 3, fenceAgent_cause hslot 3⟩
  case agtFenceWrite =>
    intro path s hopen hslot
    exact ⟨_, congrArg Host.Outcome.next (writeBy_of_open hopen _), _, rfl, fenceAgent_slotState hslot 4, fenceAgent_cause hslot 4⟩
  case agtReadmitWrite =>
    intro path s hopen hslot
    refine ⟨_, congrArg Host.Outcome.next (writeBy_of_open hopen _), ?_⟩
    show State.slotState _ _ = 1
    rw [regDone_slotState, agtReadmit_of_fenced hslot, put_state_slotState]
  case olClearWrite =>
    intro o v s hopen hctl hbusy
    obtain ⟨u, hu, busy, line, all⟩ := olClear_fields hbusy hctl
    refine ⟨_, congrArg Host.Outcome.next (writeBy_of_open hopen _), ?_⟩
    simp only [hu, State.flag, get_congr (regDone_rd ..), busy, line, all, getBits_one]
    decide
  case olClearDone =>
    intro s hbusy
    refine ⟨_, congrArg Host.Outcome.next (olClearDone_of_busy hbusy), ?busy, ?lost⟩
    case busy => simp [State.flag, get_put _ _ DIR_OL_CLEAR_BUSY _ _ _ (by decide)]
    case lost =>
      rw [put_sw, onPool_sw_pool]
      rfl
  case olRec1Read =>
    intro path s hpath
    refine ⟨_, congrArg Host.Outcome.next (readBy_of_served hpath (by decide) _), rfl, ?_⟩
    simp [State.readOlRec1]
  case memClnEvct =>
    intro dpa s hmem hcheck htime howns hhalf hidle
    obtain ⟨e, hdir⟩ := dirAt_of_ownsLine howns
    rw [hdir] at hidle
    refine ⟨_, congrArg Host.Outcome.next (memClnEvct_of_owner rfl hmem hcheck htime howns), ?_⟩
    show _ ∧ _
    rw [hostAnswer_pool, hostKey, hhalf, dropClean_of_idle hdir hidle]
    exact ⟨rfl, rfl⟩

end Sys2Proof.Machine
end

section
/-! The tier rows of the pool (R110 to R115, R136 to R142, R382, R392 to R394): granules and scrubs, a lost stack, and the bulk tier. -/

namespace Sys2Proof.Machine

/-! ### Granules (R110, R138, R142) -/

/-- The switch has a granule: one of its bulk ports offers it, or it is an HBM granule and no stack that failed training holds HBM back. -/
def State.granHere (s : State) (g : Nat) : Bool :=
  decide (if g.testBit 17 then bitsOf g 0 16 < s.bulkCount (bitsOf g 16 1) else bitsOf g 0 17 < 1788)
    && !(!g.testBit 17 && s.sw.pool.held)

theorem granState_eq (s : State) (g : Nat) :
    s.granState g = if s.granHere g then s.get .sw POL_GRAN_STS_STATE (granBank g) else 0 := rfl

theorem granHere_of_state {s : State} {g : Nat} (h : s.granState g ≠ 0) : s.granHere g = true := by
  by_cases hg : s.granHere g = true
  · exact hg
  · exact absurd ((granState_eq s g).trans (if_neg hg)) h

theorem bulkCount_congr {s t : State} (h : t.rd .sw BLK_PORT_STS = s.rd .sw BLK_PORT_STS) (n : Nat) : t.bulkCount n = s.bulkCount n := by
  rw [State.bulkCount, State.bulkCount, get_congr (f := BLK_PORT_STS_GRAN0) h, get_congr (f := BLK_PORT_STS_GRAN1) h]

theorem granHere_congr {s t : State} (hports : t.rd .sw BLK_PORT_STS = s.rd .sw BLK_PORT_STS) (hheld : t.sw.pool.held = s.sw.pool.held)
    (g : Nat) : t.granHere g = s.granHere g := by
  rw [State.granHere, State.granHere, bulkCount_congr hports, hheld]

/-- A state that reads the granule and the offers of the bulk ports alike has the granule in the same state. -/
theorem granState_congr {s t : State} {g : Nat} (hreg : t.rd .sw POL_GRAN_STS (granBank g) = s.rd .sw POL_GRAN_STS (granBank g))
    (hports : t.rd .sw BLK_PORT_STS = s.rd .sw BLK_PORT_STS) (hheld : t.sw.pool.held = s.sw.pool.held) :
    t.granState g = s.granState g := by
  rw [granState_eq, granState_eq, granHere_congr hports hheld, get_congr (f := POL_GRAN_STS_STATE) hreg]

theorem setGran_pool (s : State) (g st ptn index use : Nat) : (s.setGran g st ptn index use).sw.pool = s.sw.pool :=
  pool_of_frame (State_setGran_frame s g st ptn index use) (by decide) (by decide)

theorem setGran_rd_ports (s : State) (g st ptn index use : Nat) :
    (s.setGran g st ptn index use).rd .sw BLK_PORT_STS = s.rd .sw BLK_PORT_STS :=
  rd_of_frame (State_setGran_frame s g st ptn index use) (BLK_PORT_STS_comp .sw) 0 0 (by decide)

theorem setGran_rd_other (s : State) {g g' : Nat} (h : g' ≠ g) (st ptn index use : Nat) :
    (s.setGran g st ptn index use).rd .sw POL_GRAN_STS (granBank g') = s.rd .sw POL_GRAN_STS (granBank g') := by
  have apart : POL_GRAN_STS.key (granBank g') 0 ≠ POL_GRAN_STS.key (granBank g) 0 :=
    key_ne_of_bank _ (by simp only [granBank]; omega) 0
  have put_other (u : State) (f : Fld) (hf : f.reg = POL_GRAN_STS) (v : Nat) :
      (u.put .sw f v (granBank g)).rd .sw POL_GRAN_STS (granBank g') = u.rd .sw POL_GRAN_STS (granBank g') := by
    rw [State.put, rd_wr, hf, if_neg fun h => apart h.2]
  rw [State.setGran, put_other _ POL_GRAN_STS_USE rfl, put_other _ POL_GRAN_STS_INDEX rfl, put_other _ POL_GRAN_STS_PARTITION rfl,
    put_other _ POL_GRAN_STS_STATE rfl]

theorem setGran_granState_other (s : State) {g g' : Nat} (h : g' ≠ g) (st ptn index use : Nat) :
    (s.setGran g st ptn index use).granState g' = s.granState g' :=
  granState_congr (setGran_rd_other s h ..) (setGran_rd_ports ..) (by rw [setGran_pool])

theorem setGran_get_state (s : State) (g st ptn index use : Nat) :
    (s.setGran g st ptn index use).get .sw POL_GRAN_STS_STATE (granBank g) = st % 8 := by
  have apart (u : State) (f : Fld) (hf : f.reg = POL_GRAN_STS) (hlo : 3 ≤ f.lo) (v : Nat) :
      (u.put .sw f v (granBank g)).get .sw POL_GRAN_STS_STATE (granBank g) = u.get .sw POL_GRAN_STS_STATE (granBank g) :=
    get_put_apart u .sw f POL_GRAN_STS_STATE v _ _ hf.symm (.inl hlo)
  rw [State.setGran, apart _ POL_GRAN_STS_USE rfl (by decide), apart _ POL_GRAN_STS_INDEX rfl (by decide),
    apart _ POL_GRAN_STS_PARTITION rfl (by decide)]
  exact get_put _ _ POL_GRAN_STS_STATE _ _ _ (by decide)

theorem setGran_granState {s : State} {g : Nat} (h : s.granState g ≠ 0) (st ptn index use : Nat) :
    (s.setGran g st ptn index use).granState g = st % 8 := by
  have here : (s.setGran g st ptn index use).granHere g = true :=
    (granHere_congr (setGran_rd_ports ..) (by rw [setGran_pool]) g).trans (granHere_of_state h)
  rw [granState_eq, here, if_pos rfl, setGran_get_state]

theorem granRetire_of_free {s : State} (h : s.granState s.granSel = 1 ∨ s.granState s.granSel = 2) :
    State.granRetire s = (s.setGran s.granSel 5, true) := by
  obtain h | h := h <;> simp [State.granRetire, h]

/-! ### The zero scrub (R138) -/

theorem orElse_holds {P : Nat → Prop} {o : Option Nat} {f : Unit → Option Nat} (ho : ∀ g ∈ o, P g) (hf : ∀ g ∈ f (), P g) :
    ∀ g ∈ o.orElse f, P g := by
  cases o with
  | none => exact hf
  | some _ => exact ho

theorem firstDirty_dirty {s : State} {g : Nat} (h : s.firstDirty = some g) : s.granState g = 2 := by
  have port (n g : Nat) (hg : g ∈ if s.bulkUp n then ((upTo (s.bulkCount n)).find? fun i =>
      s.granState (2 ^ 17 + n * 2 ^ 16 + i) == 2).map (2 ^ 17 + n * 2 ^ 16 + ·) else none) : s.granState g = 2 := by
    split at hg
    · obtain ⟨i, hi, rfl⟩ := Option.map_eq_some_iff.1 hg
      simpa using List.find?_some hi
    · cases hg
  have hbm (g : Nat) (hg : g ∈ if s.sw.pool.stackLost then none else (upTo 1788).find? fun i => s.granState i == 2) :
      s.granState g = 2 := by
    split at hg
    · cases hg
    · simpa using List.find?_some hg
  exact orElse_holds hbm (orElse_holds (port 0) (port 1)) g h

theorem scrubNext_cases (s : State) : s.scrubNext = s ∨ ∃ g, s.granState g = 2 ∧ s.scrubNext = s.setGran g 3 := by
  cases hg : s.firstDirty with
  | none => exact .inl (by simp [State.scrubNext, hg])
  | some g => exact .inr ⟨g, firstDirty_dirty hg, by simp [State.scrubNext, hg]⟩

theorem scrubNext_pool (s : State) : s.scrubNext.sw.pool = s.sw.pool :=
  pool_of_frame (State_scrubNext_frame s false) (by decide) (by decide)

/-- The scrub moves on to a dirty granule; one that is not dirty stays as it is. -/
theorem scrubNext_granState {s : State} {g : Nat} (h : s.granState g ≠ 2) : s.scrubNext.granState g = s.granState g := by
  obtain hs | ⟨g', dirty, hs⟩ := scrubNext_cases s
  · rw [hs]
  · rw [hs, setGran_granState_other]
    rintro rfl
    exact h dirty

/-- A granule whose zeroing is done: a bulk device is told to write zeros, the bytes of an HBM granule are gone (R138). -/
def State.zeroed (s : State) (g : Nat) : State :=
  if g.testBit 17 then s.emit (.bulkZero (bitsOf g 16 1) (bitsOf g 0 16))
  else s.onPool fun p =>
    { p with mem := Memory.zero p.mem (g * 2 ^ 28) (2 ^ 28), decay := keepIf (fun l _ => l / 2 ^ 21 != g) p.decay,
             dead := removeAt p.dead g }

theorem scrubGranuleDone_of_scrubbing {s : State} {g : Nat} (h : s.granState g = 3) (hcpu : s.cpuUp 2 = true) :
    scrubGranuleDone g s = ((s.setGran g 1).zeroed g).scrubNext := by
  simp [scrubGranuleDone, State.zeroed, h, hcpu]

theorem zeroed_granState (s : State) (g g' : Nat) : (s.zeroed g).granState g' = s.granState g' := by
  unfold State.zeroed
  split
  · exact granState_congr (emit_rd ..) (emit_rd ..) rfl
  · exact granState_congr (onPool_rd ..) (onPool_rd ..) rfl

theorem zeroed_mem (s : State) (g : Nat) :
    (s.zeroed g).sw.pool.mem = if g.testBit 17 then s.sw.pool.mem else Memory.zero s.sw.pool.mem (g * 2 ^ 28) (2 ^ 28) := by
  unfold State.zeroed
  split <;> rfl

/-! ### The patrol (R139) and a lost stack (R141) -/

theorem eccRead_rd_scrub (s : State) (hl : Nat) : (s.eccRead hl).1.rd .sw POL_SCRUB_STS = s.rd .sw POL_SCRUB_STS :=
  rd_of_frame (State_eccRead_frame s hl) (POL_SCRUB_STS_comp .sw) 0 0 (by decide)

/-- The patrol reads one decayed line: an ASSIGNED one under ECC, and a corrected one is rewritten. -/
def State.patrolLine (s : State) (e : Nat × Bool) : State :=
  if s.granState (e.1 / 2 ^ 21) == 4 then
    if e.2 then (s.eccRead e.1).1 else (s.eccRead e.1).1.onPool fun p => { p with decay := removeAt p.decay e.1 }
  else s

theorem patrolLine_rd_scrub (s : State) (e : Nat × Bool) : (s.patrolLine e).rd .sw POL_SCRUB_STS = s.rd .sw POL_SCRUB_STS := by
  unfold State.patrolLine
  split
  · split <;> simp only [onPool_rd, eccRead_rd_scrub]
  · rfl

theorem patrolPass_of_on {s : State} (hon : s.get .sw POL_SCRUB_CTL_PATROL_HOURS ≠ 0) (hcpu : s.cpuUp 2 = true)
    (media : List (Nat × Bool)) :
    patrolPass media s
      = ((s.decayed media).sw.pool.decay.foldl State.patrolLine (s.decayed media)).addWrap .sw POL_SCRUB_STS_PATROL_PASSES := by
  simp only [patrolPass, hcpu]
  rw [if_neg (by simpa using hon)]
  rfl

theorem patrol_rd_scrub (s : State) (media : List (Nat × Bool)) :
    ((s.decayed media).sw.pool.decay.foldl State.patrolLine (s.decayed media)).rd .sw POL_SCRUB_STS = s.rd .sw POL_SCRUB_STS :=
  (foldl_leaves (fun u => u.rd .sw POL_SCRUB_STS) _ patrolLine_rd_scrub _ _).trans (onPool_rd ..)

theorem event_pool (s : State) (page : Nat) (e : Err) (d0 d1 : Nat) (sev rung : Option Nat) (esc : Bool) (status reason : Nat) :
    (s.event .sw page e d0 d1 sev rung esc status reason).sw.pool = s.sw.pool :=
  pool_of_frame (State_event_sw_frame s page e d0 d1 sev rung esc status reason) (by decide) (by decide)

theorem revokeHerds_pool (s : State) (p : Nat) : (s.revokeHerds p).sw.pool = s.sw.pool :=
  pool_of_frame (State_revokeHerds_frame s p) (by decide) (by decide)

theorem startDrain_stackLost (s : State) (p d : Nat) : (s.startDrain p d).sw.pool.stackLost = s.sw.pool.stackLost := by
  unfold State.startDrain
  simp only [revokeHerds_pool, onPool_sw_pool, put_sw]

theorem stopPartition_stackLost (s : State) (p cause : Nat) : (s.stopPartition p cause).sw.pool.stackLost = s.sw.pool.stackLost := by
  unfold State.stopPartition
  split
  · rfl
  · dsimp only
    split
    · rw [startDrain_stackLost, event_pool]
    · rw [onPool_sw_pool, event_pool]

theorem stopPartition_rd_trained (s : State) (p cause n : Nat) : (s.stopPartition p cause).rd .sw HBM_STS 0 n = s.rd .sw HBM_STS 0 n :=
  rd_of_frame (State_stopPartition_frame s p cause) (HBM_STS_comp .sw) 0 n (by decide)

theorem scrubStand_pool (s : State) : s.scrubStand.sw.pool = s.sw.pool :=
  pool_of_frame (State_scrubStand_frame s) (by decide) (by decide)

/-- A stack is lost, its page faults, and no partition has been stopped yet. -/
def State.stackGone (s : State) (n : Nat) : State :=
  ((((s.put .sw HBM_STS_TRAINED 0 0 n).put .sw HDR_PAGE_STS_FAULT 1 0 (pgHbm + n)).event .sw (pgHbm + n) .hbmStackLost n).onPool
    fun p => { p with stackLost := true }).scrubStand

theorem hbmStackLost_of_stack {n : Nat} (h : n < 6) (s : State) :
    hbmStackLost n s = ((upTo 64).foldl (fun s p => s.stopPartition p 2) (s.stackGone n)).settle := by
  unfold hbmStackLost
  rw [if_neg (by omega)]
  rfl

theorem stackGone_stackLost (s : State) (n : Nat) : (s.stackGone n).sw.pool.stackLost = true := by
  rw [State.stackGone, scrubStand_pool]
  rfl

theorem stackGone_untrained (s : State) (n : Nat) : (s.stackGone n).flag .sw HBM_STS_TRAINED 0 n = false := by
  have stand (u : State) : u.scrubStand.rd .sw HBM_STS 0 n = u.rd .sw HBM_STS 0 n :=
    rd_of_frame (State_scrubStand_frame u) (HBM_STS_comp .sw) 0 n (by decide)
  have event (u : State) : (u.event .sw (pgHbm + n) .hbmStackLost n).rd .sw HBM_STS 0 n = u.rd .sw HBM_STS 0 n :=
    rd_of_frame (State_event_sw_frame u (pgHbm + n) .hbmStackLost n 0 none none false 0 0) (HBM_STS_comp .sw) 0 n (by decide)
  have fault (u : State) : (u.put .sw HDR_PAGE_STS_FAULT 1 0 (pgHbm + n)).rd .sw HBM_STS 0 n = u.rd .sw HBM_STS 0 n := by
    refine (rd_wr ..).trans (if_neg fun h => ?_)
    have : HBM_STS.key 0 n = HDR_PAGE_STS.key 0 (pgHbm + n) := h.2
    simp only [Reg.key, HBM_STS, HDR_PAGE_STS] at this
    omega
  have same : (s.stackGone n).rd .sw HBM_STS 0 n = (s.put .sw HBM_STS_TRAINED 0 0 n).rd .sw HBM_STS 0 n := by
    rw [State.stackGone, stand, onPool_rd, event, fault]
  rw [State.flag, get_congr (f := HBM_STS_TRAINED) same, get_put _ _ HBM_STS_TRAINED _ _ _ (by decide)]
  rfl

end Sys2Proof.Machine
end

section
/-! The bulk tier (R113, R115, R392 to R394) and the host's BI responses (R382, R383); with them the tier rows are complete. -/

namespace Sys2Proof.Machine

/-! ### Accesses of the devices -/

theorem putSlot_some_slots (s : State) (hl : Nat) (c : CacheSlot) :
    lookup (s.putSlot hl (some c)).sw.pool.slots hl = some c := by
  simp [State.putSlot, lookup_insertAt]

/-- An answer in time takes an access off the list and its device has missed none in a row (R394). -/
def State.bulkDone (s : State) (b : BulkOp) : State := (s.bulkOff b).onPool fun p => { p with devMiss := removeAt p.devMiss b.port }

theorem bulkFillComplete_of_slot {s : State} {id hl : Nat} {data : List Byte} {b : BulkOp}
    (hfind : s.sw.pool.bulk.find? (fun b => b.id == id && !b.write) = some b) (htime : s.bulkLate b = false) (hslot : b.slot = some hl)
    (hptn : s.ptnState b.ptn ≠ 0) (hplace : s.hbmLine b.ptn b.line = hl) :
    bulkFillComplete id true data s
      = (((s.bulkDone b).hbmWrite hl (slice data 0 128)).putSlot hl (some ⟨s.lineTag b.ptn b.line, false, false, b.ptn⟩)).settle := by
  have defined : (s.bulkDone b).ptnState b.ptn ≠ 0 := hptn
  have place : (s.bulkDone b).hbmLine b.ptn b.line = hl := hplace
  have fills : ((s.bulkDone b).ptnState b.ptn != 0 && (s.bulkDone b).hbmLine b.ptn b.line == hl) = true := by simp [defined, place]
  simp only [bulkFillComplete, hfind, htime, hslot]
  exact congrArg State.settle (if_pos fills)

theorem bulkWritebackComplete_of_slot {s : State} {id hl : Nat} {b : BulkOp} {c : CacheSlot}
    (hfind : s.sw.pool.bulk.find? (fun b => b.id == id && b.write) = some b) (htime : s.bulkLate b = false) (hslot : b.slot = some hl)
    (hc : lookup s.sw.pool.slots hl = some c) (hptn : c.ptn = b.ptn) (hline : s.slotLine hl c = b.line) (hdata : s.hbmRead hl = b.data) :
    bulkWritebackComplete id true s = ((s.bulkDone b).putSlot hl (some { c with dirty := false, stuck := false })).settle := by
  have line : (s.bulkDone b).slotLine hl c = b.line := hline
  have data : (s.bulkDone b).hbmRead hl = b.data := hdata
  have same : (c.ptn == b.ptn && (s.bulkDone b).slotLine hl c == b.line && (s.bulkDone b).hbmRead hl == b.data) = true := by
    simp [hptn, line, data]
  have slot : lookup (s.bulkDone b).sw.pool.slots hl = some c := hc
  simp only [bulkWritebackComplete, hfind, htime, hslot]
  rw [show ((s.bulkOff b).onPool fun p => { p with devMiss := removeAt p.devMiss b.port }) = s.bulkDone b from rfl, slot]
  exact congrArg State.settle (if_pos same)

theorem bulkFail_bulk (s : State) (b : BulkOp) (st : Nat) (stick : Bool) :
    (s.bulkFail b st stick).sw.pool.bulk = s.sw.pool.bulk.filter fun x => x.id != b.id := by
  unfold State.bulkFail
  grind [State.bulkOff, State.putSlot, State.onReq, onPool_sw_pool]

theorem bulkErr_pool (s : State) (b : BulkOp) (kind : Nat) : (s.bulkErr b kind).sw.pool = s.sw.pool :=
  pool_of_frame (State_bulkErr_frame s b kind) (by decide) (by decide)

/-- An access has failed for want of an answer, and its device has missed so many in a row. -/
def State.bulkMissed (s : State) (b : BulkOp) : State :=
  ((s.bulkErr b 2).bulkFail b stINTEGRITY true).onPool fun p =>
    { p with devMiss := insertAt p.devMiss b.port ((lookup s.sw.pool.devMiss b.port).getD 0 + 1) }

theorem bulkDevTimeout_of_late {s : State} {id : Nat} {b : BulkOp} (hfind : s.sw.pool.bulk.find? (fun b => b.id == id) = some b)
    (hlate : s.bulkLate b = true) (hmiss : (lookup s.sw.pool.devMiss b.port).getD 0 < 15) :
    bulkDevTimeout id s = (s.bulkMissed b).settle := by
  have few : ¬ 16 ≤ (lookup s.sw.pool.devMiss b.port).getD 0 + 1 := by omega
  simp only [bulkDevTimeout, hfind, hlate, if_true, State.bulkExpire, few, if_false]
  rfl

/-! ### A port leaves and returns -/

/-- The field that says whether a downstream port is up. -/
def upFld (n : Nat) : Fld := if n == 0 then BLK_PORT_STS_UP0 else BLK_PORT_STS_UP1

theorem bulkUp_eq (s : State) (n : Nat) : s.bulkUp n = s.flag .sw (upFld n) := by
  unfold State.bulkUp upFld
  split <;> rfl

theorem bulkUp_congr {s t : State} (h : t.rd .sw BLK_PORT_STS = s.rd .sw BLK_PORT_STS) (n : Nat) : t.bulkUp n = s.bulkUp n := by
  have reg : (upFld n).reg = BLK_PORT_STS := by unfold upFld; split <;> rfl
  rw [bulkUp_eq, bulkUp_eq, State.flag, State.flag, get_congr (reg.symm ▸ h)]

theorem bulkUp_put (s : State) (n v : Nat) : (s.put .sw (upFld n) v).bulkUp n = (v % 2 != 0) := by
  have fits : (upFld n).lo + (upFld n).w ≤ 64 := by unfold upFld; split <;> decide
  have one : (upFld n).w = 1 := by unfold upFld; split <;> rfl
  rw [bulkUp_eq, State.flag, get_put _ _ _ _ _ _ fits, one, Nat.pow_one]

theorem put_cxd_rd_ports (s : State) {f : Fld} (hf : f.reg.page = 0x51) (v n : Nat) :
    (s.put .sw f v 0 n).rd .sw BLK_PORT_STS = s.rd .sw BLK_PORT_STS := by
  refine (rd_wr ..).trans (if_neg fun h => ?_)
  have : BLK_PORT_STS.key 0 0 = f.reg.key 0 n := h.2
  simp only [Reg.key, BLK_PORT_STS, hf] at this
  omega

/-- A port has gone from service, and what was on its way has failed. -/
def State.portGone (s : State) (n : Nat) : State :=
  let s := (s.put .sw (upFld n) 0).put .sw CXD_STS_UP 0 0 n
  (s.sw.pool.bulk.filter (·.port == n)).foldl (fun s b => s.bulkFail b stUNREACHABLE false) s

theorem bulkPortDown_of_port {n : Nat} (h : n < 2) (s : State) : bulkPortDown n s = (s.portGone n).settle := by
  unfold bulkPortDown
  rw [if_neg (by omega)]
  rfl

theorem bulkFail_rd_ports (s : State) (b : BulkOp) (st : Nat) (stick : Bool) :
    (s.bulkFail b st stick).rd .sw BLK_PORT_STS = s.rd .sw BLK_PORT_STS :=
  rd_of_frame (State_bulkFail_frame s b st stick) (BLK_PORT_STS_comp .sw) 0 0 (by decide)

theorem portGone_down (s : State) (n : Nat) : (s.portGone n).bulkUp n = false := by
  have ports : (s.portGone n).rd .sw BLK_PORT_STS = (s.put .sw (upFld n) 0).rd .sw BLK_PORT_STS :=
    (foldl_leaves (fun u => u.rd .sw BLK_PORT_STS) _ (fun u b => bulkFail_rd_ports u b _ _) _ _).trans (put_cxd_rd_ports _ rfl _ _)
  rw [bulkUp_congr ports, bulkUp_put]
  rfl

/-- What the return of a port keeps: which ports are up, and the serial numbers. -/
def State.portView (s : State) : Word × SMap Nat := (s.rd .sw BLK_PORT_STS, s.sw.pool.serials)

theorem writeBack_portView (s : State) (hl : Nat) (c : CacheSlot) : (s.writeBack hl c).portView = s.portView := by
  have ecc : (s.eccRead hl).1.portView = s.portView :=
    Prod.ext (rd_of_frame (State_eccRead_frame s hl) (BLK_PORT_STS_comp .sw) 0 0 (by decide))
      (congrArg Pool.serials (pool_of_frame (State_eccRead_frame s hl) (by decide) (by decide)))
  have count (u : State) (b : Nat) : (u.addWrap .sw BLK_VICTIMS_COUNT 1 b).portView = u.portView := by
    have apart : BLK_PORT_STS.key 0 0 ≠ BLK_VICTIMS.key b 0 := by
      simp only [Reg.key, BLK_PORT_STS, BLK_VICTIMS]
      omega
    have ports : (u.addWrap .sw BLK_VICTIMS_COUNT 1 b).rd .sw BLK_PORT_STS = u.rd .sw BLK_PORT_STS :=
      by rw [State.addWrap, State.put, rd_wr, if_neg fun h => apart h.2]
    exact Prod.ext ports (congrArg (fun w => w.pool.serials) (put_sw ..))
  unfold State.writeBack
  split
  · rfl
  · dsimp only
    split
    · exact ecc
    · exact (count _ _).trans ecc

theorem retryDirty_portView (s : State) (n : Nat) : (s.retryDirty n).portView = s.portView := by
  refine foldl_leaves State.portView _ (fun u e => ?_) _ _
  split
  · split
    · rfl
    · exact writeBack_portView _ _ _
  · rfl

theorem scrubWake_portView (s : State) : s.scrubWake.portView = s.portView :=
  Prod.ext (rd_of_frame (State_scrubWake_frame s) (BLK_PORT_STS_comp .sw) 0 0 (by decide))
    (congrArg Pool.serials (pool_of_frame (State_scrubWake_frame s) (by decide) (by decide)))

/-- A port that comes up with a serial number that it did not show before has every granule dirty (R393). -/
def State.portKnown (s : State) (n serial : Nat) : State :=
  s.when (lookup s.sw.pool.serials n != some serial) fun s =>
    (s.portDirty n).onPool fun p => { p with serials := insertAt p.serials n serial }

theorem portKnown_serial (s : State) (n serial : Nat) : lookup (s.portKnown n serial).sw.pool.serials n = some serial := by
  unfold State.portKnown State.when
  split
  · simp [lookup_insertAt]
  · simp_all

/-- The last steps of a bring-up before the dirty slots are written back (R392, R393). -/
def State.portBack (s : State) (n serial bytes : Nat) : State :=
  let s := s.portKnown n serial
  let s := (s.put .sw CXD_CAPACITY_BYTES bytes 0 n).put .sw CXD_SERIAL_SERIAL serial 0 n
  let s := (s.put .sw CXD_STS_FAULT_HELD 0 0 n).put .sw CXD_STS_FAULT 0 0 n
  let s := s.put .sw (if n == 0 then BLK_PORT_STS_GRAN0 else BLK_PORT_STS_GRAN1) (min (bytes / 2 ^ 28) 65536)
  ((s.put .sw (upFld n) 1).put .sw CXD_STS_UP 1 0 n).onPool fun p => { p with devMiss := removeAt p.devMiss n }

theorem portBack_up (s : State) (n serial bytes : Nat) : (s.portBack n serial bytes).bulkUp n = true := by
  unfold State.portBack
  rw [bulkUp_congr ((onPool_rd ..).trans (put_cxd_rd_ports _ rfl _ _)), bulkUp_put]
  rfl

theorem portBack_serial (s : State) (n serial bytes : Nat) : lookup (s.portBack n serial bytes).sw.pool.serials n = some serial := by
  simp only [State.portBack, onPool_sw_pool, put_sw]
  exact portKnown_serial s n serial

theorem bulkPortUp_of_known {s : State} {n serial : Nat} (h : n < 2) (hdown : s.bulkUp n = false)
    (hfault : s.flag .sw CXD_STS_FAULT_HELD 0 n = false)
    (hserial : lookup s.sw.pool.serials n = none ∨ lookup s.sw.pool.serials n = some serial) (bytes : Nat) :
    bulkPortUp n serial bytes s = (((s.portBack n serial bytes).retryDirty n).scrubWake).settle := by
  have known : (lookup s.sw.pool.serials n).any (· != serial) = false := by
    obtain h | h := hserial <;> simp [h]
  have goes : ¬ (2 ≤ n || s.bulkUp n || s.flag .sw CXD_STS_FAULT_HELD 0 n) = true := by simp [hdown, hfault, h]
  have same : ¬ ((lookup s.sw.pool.serials n).any (· != serial) && s.portAssigned n) = true := by simp [known]
  exact (if_neg goes).trans (if_neg same)

/-! ### The host's BI responses (R382) -/

theorem slotHost_of_hostSlot {s : State} {slot : Nat} (h : s.hostSlot = some slot) : s.slotHost slot = true := by
  have := List.find?_some h
  simp only [Bool.and_eq_true] at this
  exact this.2

theorem erase_unspent {s : State} {key slot : Nat} (h : (key, slot) ∉ s.sw.pool.spent) :
    (s.onPool fun q => { q with spent := q.spent.erase (key, slot) }) = s := by
  have : s.sw.pool.spent.erase (key, slot) = s.sw.pool.spent := List.erase_of_not_mem h
  simp [State.onPool, this]

theorem biRsp_of_out {s : State} {dpa slot : Nat} {e : DirEntry} {r : Recall} (hmem : s.cxlMem = true) (hhost : s.hostSlot = some slot)
    (htime : s.snoopsInTime slot = true) (hspent : (hostKey dpa, slot) ∉ s.sw.pool.spent) (hout : s.SnoopOut (hostKey dpa) slot e r) :
    biRsp dpa false s = (s.putDir (hostKey dpa) ({ e.without slot true with excl := false } : DirEntry).ended).settle := by
  have answer := snoopAnswer_of_out hout (.inr ⟨rfl, hspent⟩) []
  rw [erase_unspent hspent, slotHost_of_hostSlot hhost] at answer
  obtain ⟨entry, recalled, invalidates, waits, sent, -⟩ := hout
  rw [hostKey] at *
  unfold biRsp
  simp [hmem, hhost, snoopTimeout_of_inTime htime, entry, recalled, hspent, waits, sent, answer, invalidates,
    -Nat.reducePow]
  split <;> rfl

/-- Settles O17: each command ends in its own effect, which the lemmas above and those of the granules and scrubs give. -/
theorem tierRowsComplete : Obligations.TierRowsComplete := by
  refine ⟨?granRetire, ?drainEnd, ?scrubGranuleDone, ?patrolPass, ?hbmStackLost, ?bulkFillComplete, ?bulkWritebackComplete,
    ?bulkPortDown, ?bulkPortUp, ?bulkDevTimeout, ?prefetchHint, ?memSpecRd, ?biRsp, ?biConflict⟩
  case granRetire =>
    intro path s hopen hfree
    refine ⟨_, congrArg Host.Outcome.next (writeBy_of_open hopen _), ?_⟩
    show State.granState _ _ = 5
    have here : s.granState s.granSel ≠ 0 := by omega
    rw [granRetire_of_free hfree, granState_congr (regDone_rd ..) (regDone_rd ..) (congrArg Pool.held (regDone_pool ..)),
      setGran_granState here]
  case drainEnd =>
    intro p a d s hdrain hdue
    refine ⟨_, congrArg Host.Outcome.next ?_, rfl⟩
    simp [drainEnd, hdrain, hdue]
  case scrubGranuleDone =>
    intro g s hscrub hcpu
    refine ⟨_, congrArg Host.Outcome.next (scrubGranuleDone_of_scrubbing hscrub hcpu), ?clean, ?mem⟩
    case clean =>
      have clean : ((s.setGran g 1).zeroed g).granState g = 1 := by
        rw [zeroed_granState, setGran_granState (by omega)]
      rw [scrubNext_granState (by omega), clean]
    case mem => rw [scrubNext_pool, zeroed_mem, setGran_pool]
  case patrolPass =>
    intro media s hon hcpu
    refine ⟨_, congrArg Host.Outcome.next (patrolPass_of_on hon hcpu media), ?_⟩
    show State.get _ _ _ = _
    rw [State.addWrap, get_put _ _ _ _ _ _ (by decide), get_congr (f := POL_SCRUB_STS_PATROL_PASSES) (patrol_rd_scrub s media)]
  case hbmStackLost =>
    intro n s hn
    refine ⟨_, congrArg Host.Outcome.next (hbmStackLost_of_stack hn s), ?lost, ?untrained⟩
    case lost =>
      exact (foldl_leaves (fun u => u.sw.pool.stackLost) _ (fun u p => stopPartition_stackLost u p 2) _ _).trans (stackGone_stackLost s n)
    case untrained =>
      have trained := foldl_leaves (fun u => u.rd .sw HBM_STS 0 n) _ (fun u p => stopPartition_rd_trained u p 2 n) (upTo 64) (s.stackGone n)
      rw [State.flag, get_congr (f := HBM_STS_TRAINED) trained]
      exact stackGone_untrained s n
  case bulkFillComplete =>
    intro id data b hl s hfind htime hslot hptn hplace
    exact ⟨_, congrArg Host.Outcome.next (bulkFillComplete_of_slot hfind htime hslot hptn hplace), putSlot_some_slots .., rfl⟩
  case bulkWritebackComplete =>
    intro id b hl c s hfind htime hslot hc hptn hline hdata
    exact ⟨_, congrArg Host.Outcome.next (bulkWritebackComplete_of_slot hfind htime hslot hc hptn hline hdata), putSlot_some_slots ..⟩
  case bulkPortDown =>
    intro n s hn
    exact ⟨_, congrArg Host.Outcome.next (bulkPortDown_of_port hn s), portGone_down s n⟩
  case bulkPortUp =>
    intro n serial bytes s hn hdown hfault hserial
    have view := (scrubWake_portView _).trans (retryDirty_portView (s.portBack n serial bytes) n)
    refine ⟨_, congrArg Host.Outcome.next (bulkPortUp_of_known hn hdown hfault hserial bytes), ?up, ?serial⟩
    case up => exact (bulkUp_congr (congrArg Prod.fst view) n).trans (portBack_up s n serial bytes)
    case serial => exact (congrArg (fun v => lookup v.2 n) view).trans (portBack_serial s n serial bytes)
  case bulkDevTimeout =>
    intro id b s hfind hlate hmiss
    refine ⟨_, congrArg Host.Outcome.next (bulkDevTimeout_of_late hfind hlate hmiss), ?missed, ?off⟩
    case missed => simp [State.bulkMissed, lookup_insertAt]
    case off => simp [State.bulkMissed, bulkFail_bulk, bulkErr_pool]
  case prefetchHint =>
    intro k p off s hmark hcrc hplace hcheck hsize hen hbacked hmiss
    refine ⟨_, congrArg Host.Outcome.next ?_, rfl⟩
    simp [prefetchHint, consume_of_unmarked hmark, hcrc, hplace, hcheck, hsize, hen, hbacked, hmiss]
  case memSpecRd => exact fun dpa s => ⟨s, rfl, rfl⟩
  case biRsp =>
    intro dpa slot e r s hmem hhost htime hspent hdir hrec hinv hwait hsent hfirst
    have unspent : (hostKey dpa, slot) ∉ s.sw.pool.spent := by simpa [hostKey] using hspent
    have out : s.SnoopOut (hostKey dpa) slot e r := ⟨hdir, hrec, hinv, hwait, hsent, hfirst⟩
    exact ⟨_, congrArg Host.Outcome.next (biRsp_of_out hmem hhost htime unspent out), rfl⟩
  case biConflict =>
    intro dpa s hmem
    refine ⟨_, congrArg Host.Outcome.next (if_pos hmem), ?_⟩
    simp

end Sys2Proof.Machine
end

section
/-! Minifloat codes (R152, R161): a code as its sign, exponent and fraction, the magnitude that a finite code decodes to, and what rounding and encoding do to such a magnitude. -/

namespace Sys2Proof.Machine

/-! ### The fields of a code -/

/-- What the sign adds to a code. -/
def FpFmt.signCode (f : FpFmt) (s : Bool) : Nat := if s then 2 ^ (f.e + f.m) else 0

/-- The sign of a code. -/
def FpFmt.signOf (f : FpFmt) (c : Nat) : Bool := c.testBit (f.e + f.m)

/-- The magnitude of a code that is neither NaN nor an infinity: subnormal at exponent field 0, else with the leading bit. -/
def FpFmt.magOf (f : FpFmt) (c : Nat) : Nat × Int :=
  if bitsOf c f.m f.e = 0 then (bitsOf c 0 f.m, f.minExp) else (2 ^ f.m + bitsOf c 0 f.m, f.minExp + bitsOf c f.m f.e - 1)

theorem magOf_subnormal {f : FpFmt} {c : Nat} (h : bitsOf c f.m f.e = 0) : f.magOf c = (bitsOf c 0 f.m, f.minExp) := if_pos h

theorem magOf_normal {f : FpFmt} {c : Nat} (h : bitsOf c f.m f.e ≠ 0) :
    f.magOf c = (2 ^ f.m + bitsOf c 0 f.m, f.minExp + bitsOf c f.m f.e - 1) := if_neg h

theorem code_eq_fields {f : FpFmt} {c : Nat} (hc : c < 2 ^ f.bits) :
    c = f.signCode (f.signOf c) + bitsOf c f.m f.e * 2 ^ f.m + bitsOf c 0 f.m := by
  have top : c >>> f.m / 2 ^ f.e = (f.signOf c).toNat := by
    rw [Nat.shiftRight_eq_div_pow, Nat.div_div_eq_div_mul, ← Nat.pow_add, Nat.add_comm f.m, FpFmt.signOf, Nat.testBit_eq_decide_div_mod_eq]
    have bits : 2 ^ f.bits = 2 * 2 ^ (f.e + f.m) := by rw [FpFmt.bits, Nat.add_assoc, Nat.pow_add]
    have lt : c / 2 ^ (f.e + f.m) < 2 := (Nat.div_lt_iff_lt_mul (Nat.two_pow_pos _)).2 (bits ▸ hc)
    obtain h | h : c / 2 ^ (f.e + f.m) = 0 ∨ c / 2 ^ (f.e + f.m) = 1 := Nat.le_one_iff_eq_zero_or_eq_one.1 (Nat.le_of_lt_succ lt)
    · rw [h]; rfl
    · rw [h]; rfl
  have upper : c >>> f.m = 2 ^ f.e * (f.signOf c).toNat + bitsOf c f.m f.e := by
    rw [← top]
    exact (Nat.div_add_mod (c >>> f.m) (2 ^ f.e)).symm
  have sign : 2 ^ (f.e + f.m) * (f.signOf c).toNat = f.signCode (f.signOf c) := by
    cases f.signOf c <;> simp [FpFmt.signCode]
  calc c = 2 ^ f.m * (c >>> f.m) + bitsOf c 0 f.m := by
        rw [Nat.shiftRight_eq_div_pow]; exact (Nat.div_add_mod c (2 ^ f.m)).symm
    _ = f.signCode (f.signOf c) + bitsOf c f.m f.e * 2 ^ f.m + bitsOf c 0 f.m := by
        rw [upper, ← sign, Nat.pow_add, Nat.mul_add, ← Nat.mul_assoc, Nat.mul_comm (2 ^ f.m) (2 ^ f.e), Nat.mul_comm (2 ^ f.m)]

/-! ### What a code decodes to (R152) -/

theorem fpDecode_eq_inf {f : FpFmt} {c : Nat} {s : Bool} (h : fpDecode f c = .inf s) :
    s = f.signOf c ∧ bitsOf c f.m f.e = 2 ^ f.e - 1 ∧ bitsOf c 0 f.m = 0 := by
  unfold fpDecode at h
  cases hsp : f.sp <;> simp only [hsp] at h <;> grind [FpFmt.signOf]

/-- A finite code has the magnitude of its fields; below the codes that its format keeps for NaN and infinity. -/
theorem fpDecode_eq_fin {f : FpFmt} {c : Nat} {s : Bool} {man : Nat} {exp : Int} (h : fpDecode f c = .fin s man exp) :
    s = f.signOf c ∧ man = (f.magOf c).1 ∧ exp = (f.magOf c).2 ∧ (f.sp = .ieee → bitsOf c f.m f.e ≠ 2 ^ f.e - 1) ∧
      (f.sp = .e4m3 → bitsOf c f.m f.e = 2 ^ f.e - 1 → bitsOf c 0 f.m ≠ 2 ^ f.m - 1) := by
  unfold fpDecode at h
  cases hsp : f.sp <;> simp only [hsp] at h <;> grind [FpFmt.signOf, FpFmt.magOf]

/-! ### Magnitudes at a format's own spacing -/

/-- The magnitudes of a format at its own spacing: a subnormal one, or one with the leading bit. -/
def FpFmt.holds (f : FpFmt) (man : Nat) (exp : Int) : Prop :=
  (man < 2 ^ f.m ∧ exp = f.minExp) ∨ (2 ^ f.m ≤ man ∧ man < 2 ^ (f.m + 1) ∧ f.minExp ≤ exp)

theorem holds_magOf (f : FpFmt) (c : Nat) : f.holds (f.magOf c).1 (f.magOf c).2 := by
  have fr := bitsOf_lt c 0 f.m
  by_cases hex : bitsOf c f.m f.e = 0
  · rw [magOf_subnormal hex]
    exact .inl ⟨fr, rfl⟩
  · rw [magOf_normal hex]
    exact .inr ⟨by omega, by rw [Nat.pow_succ]; omega, by omega⟩

theorem spacing_of_holds {f : FpFmt} {man : Nat} {exp : Int} (h : f.holds man exp) (hman : man ≠ 0) : f.spacing man exp = exp := by
  obtain ⟨hlt, rfl⟩ | ⟨hge, hlt, hexp⟩ := h
  · have : msb man < f.m := (Nat.log2_lt hman).2 hlt
    simp only [FpFmt.spacing]; omega
  · have : msb man = f.m := (Nat.log2_eq_iff hman).2 ⟨hge, hlt⟩
    simp only [FpFmt.spacing, this]; omega

/-- A held magnitude is coded by its exponent, counted from that of the subnormals, and its fraction. -/
theorem fpEncode_of_holds {f : FpFmt} {man : Nat} {exp : Int} (h : f.holds man exp) (s : Bool) :
    fpEncode f (.fin s man exp) =
      f.signCode s + if man < 2 ^ f.m then man else (exp - f.minExp + 1).toNat * 2 ^ f.m + (man - 2 ^ f.m) := by
  cases man with
  | zero => simp [fpEncode, FpFmt.signCode]
  | succ n =>
    simp only [fpEncode, spacing_of_holds h n.succ_ne_zero, Int.sub_self, shiftTo, Int.le_refl, if_true, Int.toNat_zero,
      Nat.shiftLeft_zero, FpFmt.signCode]
    split <;> omega

/-- A held magnitude that is not past the largest finite one is its own rounding, by either rounding, and raises no flag. -/
theorem roundFp_of_holds {f : FpFmt} {man : Nat} {exp : Int} (h : f.holds man exp)
    (hmax : magLt f.maxFin.1 f.maxFin.2 man exp = false) (sat : Bool) (sr : Option Nat) (s : Bool) :
    roundFp f sat sr (.fin s man exp) = ⟨.fin s man exp, 0⟩ := by
  cases man with
  | zero =>
    obtain ⟨-, rfl⟩ | ⟨hge, -⟩ := h
    · rfl
    · exact absurd hge (by simp)
  | succ n =>
    have cut : cutAt (n + 1) exp exp = ⟨n + 1, exp, true, false, false, 0⟩ := by simp [cutAt]
    simp [roundFp, spacing_of_holds h, cut, Cut.rounded, hmax, flagIf]

theorem fpEncode_magOf {f : FpFmt} {c : Nat} (hc : c < 2 ^ f.bits) :
    fpEncode f (.fin (f.signOf c) (f.magOf c).1 (f.magOf c).2) = c := by
  refine Eq.trans ?_ (code_eq_fields hc).symm
  rw [fpEncode_of_holds (holds_magOf f c)]
  have fr := bitsOf_lt c 0 f.m
  by_cases hex : bitsOf c f.m f.e = 0
  · simp only [magOf_subnormal hex, hex, if_pos fr, Nat.zero_mul, Nat.add_zero]
  · have place : (f.minExp + bitsOf c f.m f.e - 1 - f.minExp + 1).toNat = bitsOf c f.m f.e := by omega
    simp only [magOf_normal hex, if_neg (Nat.not_lt_of_le (Nat.le_add_right (2 ^ f.m) _)), place, Nat.add_sub_cancel_left, Nat.add_assoc]

/-- In every format a code that is no NaN encodes back to itself. -/
theorem fpEncode_fpDecode {f : FpFmt} {c : Nat} (hc : c < 2 ^ f.bits) (h : fpDecode f c ≠ .nan) : fpEncode f (fpDecode f c) = c := by
  cases hv : fpDecode f c with
  | nan => exact absurd hv h
  | inf s =>
    obtain ⟨rfl, hex, hfr⟩ := fpDecode_eq_inf hv
    refine Eq.trans ?_ (code_eq_fields hc).symm
    rw [hex, hfr]
    rfl
  | fin s man exp =>
    obtain ⟨rfl, rfl, rfl, -⟩ := fpDecode_eq_fin hv
    exact fpEncode_magOf hc

/-! ### The largest finite magnitude -/

theorem maxFin_fst (f : FpFmt) : f.maxFin.1 = 2 ^ (f.m + 1) - if f.sp = .e4m3 then 2 else 1 := by
  cases hsp : f.sp <;> simp [FpFmt.maxFin, hsp]

/-- The exponents of a format: one is kept for infinity and NaN in an IEEE format, none in the others. -/
theorem maxFin_snd (f : FpFmt) : f.maxFin.2 = f.minExp + (2 ^ f.e : Nat) - if f.sp = .ieee then 3 else 2 := by
  cases hsp : f.sp <;> simp [FpFmt.maxFin, FpFmt.minExp, hsp] <;> omega

theorem magLt_eq_false {a b : Nat} {ea eb : Int} (hexp : eb ≤ ea) (h : b ≤ a * 2 ^ (ea - eb).toNat) : magLt a ea b eb = false := by
  simp only [magLt, Int.min_eq_right hexp, Int.sub_self, Int.toNat_zero, Nat.shiftLeft_eq, Nat.pow_zero, Nat.mul_one, decide_eq_false_iff_not]
  omega

/-- A magnitude at the largest exponent is compared by its significand; at a lower exponent twice the largest significand will do. -/
theorem magLt_maxFin_eq_false {f : FpFmt} {man : Nat} {exp : Int} (hexp : exp ≤ f.maxFin.2) (htop : exp = f.maxFin.2 → man ≤ f.maxFin.1)
    (hlow : man ≤ 2 * f.maxFin.1) : magLt f.maxFin.1 f.maxFin.2 man exp = false := by
  refine magLt_eq_false hexp ?_
  obtain hlt | rfl := Int.lt_or_eq_of_le hexp
  · calc man ≤ f.maxFin.1 * 2 ^ 1 := by omega
      _ ≤ f.maxFin.1 * 2 ^ (f.maxFin.2 - exp).toNat := Nat.mul_le_mul_left _ (Nat.pow_le_pow_right (by decide) (by omega))
  · simpa using htop rfl

/-- No finite code is past the largest finite magnitude of its format. -/
theorem magLt_maxFin_of_decode {f : FpFmt} (he : 2 ≤ f.e) (hm : 1 ≤ f.m) {c : Nat} {s : Bool} {man : Nat} {exp : Int}
    (h : fpDecode f c = .fin s man exp) : magLt f.maxFin.1 f.maxFin.2 man exp = false := by
  obtain ⟨-, rfl, rfl, hieee, he4m3⟩ := fpDecode_eq_fin h
  have fr := bitsOf_lt c 0 f.m
  have ex := bitsOf_lt c f.m f.e
  have he4 : 2 ^ 2 ≤ 2 ^ f.e := Nat.pow_le_pow_right (by decide) he
  have hm2 : 2 ^ 1 ≤ 2 ^ f.m := Nat.pow_le_pow_right (by decide) hm
  by_cases hex : bitsOf c f.m f.e = 0
  · rw [magOf_subnormal hex]
    apply magLt_maxFin_eq_false <;> grind [maxFin_fst, maxFin_snd, Nat.pow_succ]
  · rw [magOf_normal hex]
    apply magLt_maxFin_eq_false <;> grind [maxFin_fst, maxFin_snd, Nat.pow_succ]

/-! ### O55 -/

/-- Settles O55: a finite code is a magnitude at its format's own spacing and not past the largest one, so that rounding keeps it; the fields of a code give the code back. -/
theorem minifloatCodesRoundTrip : Obligations.MinifloatCodesRoundTrip := by
  have wide : ∀ f ∈ [fpE4M3, fpE5M2, fp16, bf16, fp32, fp64, fpE3M2, fpE2M3, fpE2M1], 2 ≤ f.e ∧ 1 ≤ f.m := by decide
  refine ⟨fun f _ c hc h => fpEncode_fpDecode hc h, ?_⟩
  rintro f hf c hc sat sr ⟨s, man, exp, hv⟩
  obtain ⟨he, hm⟩ := wide f hf
  have held : f.holds man exp := by
    obtain ⟨-, rfl, rfl, -⟩ := fpDecode_eq_fin hv
    exact holds_magOf f c
  have rounded : roundFp f sat sr (fpDecode f c) = ⟨fpDecode f c, 0⟩ := by
    rw [hv]
    exact roundFp_of_holds held (magLt_maxFin_of_decode he hm hv) sat sr s
  rw [rounded]
  exact ⟨fpEncode_fpDecode hc (by simp [hv]), rfl⟩

end Sys2Proof.Machine
end

section
/-! The hash of a region (R233): the end of a hash without fault, and the region that the engine begins on next. -/

namespace Sys2Proof.Machine

@[simp] theorem attested_sw (s : State) (p : Part) (block : Nat) : (s.attested p block).sw = s.sw := by
  simp [State.attested, State.count, State.addWrap]

/-! ### The engine begins on the head of its queue -/

theorem hashWake_hashing (s : State) : s.hashWake.sw.svc.hashing = s.sw.svc.hashing := by
  unfold State.hashWake
  repeat' split
  all_goals rfl

/-- The region at the head, not begun and with no line held in X, is begun at this tick. -/
theorem hashWake_of_head {s : State} {g : Nat} {rest : List Nat} {r : Region} (hq : s.sw.svc.hashing = g :: rest)
    (hr : lookup s.sw.svc.regions g = some r) (hfrom : r.from_ = none) (hheld : s.heldIn r = false) :
    lookup s.hashWake.sw.svc.regions g = some { r with from_ := some (s.now .sw) } := by
  simp [State.hashWake, hq, hr, hfrom, hheld, lookup_insertAt]

theorem hashWake_lookup_of_not_mem {s : State} {g : Nat} (h : g ∉ s.sw.svc.hashing) :
    lookup s.hashWake.sw.svc.regions g = lookup s.sw.svc.regions g := by
  unfold State.hashWake
  split
  · rfl
  case h_2 head rest hq =>
    have apart : g ≠ head := fun e => h (by simp [hq, e])
    split
    · split
      · rfl
      · simp [lookup_insertAt, apart]
    · rfl

/-! ### A hash that ends without fault -/

/-- The region as its hash leaves it: SEALED, with the digest of its lines. -/
def State.sealedRegion (s : State) (r : Region) (bulk : List (Nat × List Byte)) : Region :=
  { r with done := true, digest := Config.sha3 (((upTo (r.len / 128)).map fun l => s.hashLine r.ptn (r.off / 128 + l) bulk).flatten) }

/-- The state once region `g` is SEALED and off the queue, before the engine goes on to `rest`. -/
def State.regionSealed (s : State) (g : Nat) (rest : List Nat) (r : Region) (bulk : List (Nat × List Byte)) : State :=
  (s.onSvc fun v => { v with hashing := rest, regions := insertAt v.regions g (s.sealedRegion r bulk) }).attested .sw 6

section
variable {bulk : List (Nat × List Byte)} {g : Nat} {rest : List Nat} {r : Region} {s : State}
  (hq : s.sw.svc.hashing = g :: rest) (hr : lookup s.sw.svc.regions g = some r) (hheld : s.heldIn r = false)
  (hlost : s.sw.pool.lost.any (fun e => r.has e.1) = false)
  (hlines : ((upTo (r.len / 128)).map (r.off / 128 + ·)).all (fun l => !s.hashWaits r l && !s.hashBad r l bulk) = true)

include hq hr hheld hlost hlines

theorem regionHashDone_of_clean : regionHashDone bulk s = (s.regionSealed g rest r bulk).hashWake := by
  have line : ∀ l ∈ (upTo (r.len / 128)).map (r.off / 128 + ·), s.hashWaits r l = false ∧ s.hashBad r l bulk = false := fun l hl => by
    simpa using List.all_eq_true.1 hlines l hl
  have waits : ((upTo (r.len / 128)).map (r.off / 128 + ·)).any (s.hashWaits r) = false :=
    List.any_eq_false.2 fun l hl => by simp [line l hl]
  have bad : ((upTo (r.len / 128)).map (r.off / 128 + ·)).any (fun l => s.hashBad r l bulk) = false :=
    List.any_eq_false.2 fun l hl => by simp [line l hl]
  simp only [regionHashDone, hq, hr, hheld, hlost, waits, bad, Bool.or_false, Bool.and_false, Bool.false_eq_true, if_false, List.map_map]
  rfl

/-- With the region once in the queue, as SEAL puts it there, the end of its hash leaves it SEALED with its digest. -/
theorem regionHashDone_of_queued_once (hg : g ∉ rest) :
    lookup (regionHashDone bulk s).sw.svc.regions g = some (s.sealedRegion r bulk) ∧ (regionHashDone bulk s).sw.svc.hashing = rest := by
  rw [regionHashDone_of_clean hq hr hheld hlost hlines, hashWake_hashing]
  refine ⟨(hashWake_lookup_of_not_mem (by simpa [State.regionSealed] using hg)).trans ?_, by simp [State.regionSealed]⟩
  simp [State.regionSealed, lookup_insertAt]

/-- With the region twice in a row in the queue, the engine begins on it again as its hash ends. -/
theorem regionHashDone_of_queued_twice {later : List Nat} (hrest : rest = g :: later) (hfrom : r.from_ = none) :
    lookup (regionHashDone bulk s).sw.svc.regions g = some { s.sealedRegion r bulk with from_ := some (s.now .sw) } := by
  have now : (s.regionSealed g rest r bulk).now .sw = s.now .sw := rfl
  have held : (s.regionSealed g rest r bulk).heldIn (s.sealedRegion r bulk) = false := by
    simp only [State.heldIn, State.regionSealed, attested_sw, onSvc_sw_pool]
    exact hheld
  rw [regionHashDone_of_clean hq hr hheld hlost hlines, ← now]
  exact hashWake_of_head (rest := later) (by simp [State.regionSealed, hrest]) (by simp [State.regionSealed, lookup_insertAt]) hfrom held

end

/-! ### A region twice in the queue -/

/-- A region of two lines whose hash has not begun. -/
def unbegunRegion : Region := { ptn := 2, off := 0, len := 256, done := false, ctx := 5 }

/-- Reset with that region as number 6, twice in the queue of the hash engine. -/
def twiceQueued : State := State.reset.onSvc fun v => { v with regions := [(6, unbegunRegion)], hashing := [6, 6] }

/-- Refutes O20: its clause of the hashed region speaks of every queue of the hash engine. On one that names region 6 twice in a row, the
engine begins on the region again as its hash ends, and the region then holds the tick of that beginning, which the clause says is as
before. For a region once in the queue the clause holds (`regionHashDone_of_queued_once`). -/
theorem not_coreRowsComplete : ¬ Obligations.CoreRowsComplete := by
  rintro ⟨-, -, -, -, -, -, -, -, hashClause⟩
  have hlines : ((upTo (unbegunRegion.len / 128)).map (unbegunRegion.off / 128 + ·)).all
      (fun l => !twiceQueued.hashWaits unbegunRegion l && !twiceQueued.hashBad unbegunRegion l []) = true := by decide
  obtain ⟨X, hX, sealed, -⟩ := hashClause [] 6 [6] unbegunRegion twiceQueued rfl rfl rfl rfl hlines
  have hashed : regionHashDone [] twiceQueued = X := Host.Outcome.next.inj hX
  have again := regionHashDone_of_queued_twice (bulk := []) (s := twiceQueued) rfl rfl rfl rfl hlines rfl rfl
  rw [hashed, sealed] at again
  exact absurd (congrArg Region.from_ (Option.some.inj again)) (by decide)

end Sys2Proof.Machine
end

section
/-! Packets at a herd that runs (R182, R189, R190): the checks that a packet of the expected step passes, and the herd that its effect then finds. -/

namespace Sys2Proof.Machine

/-! ### The herds of the switch -/

@[simp] theorem putHerd_herd (s : State) (i : Nat) (h : Herd) : (s.putHerd i h).herd i = some h := by
  simp [State.putHerd, State.herd, lookup_insertAt]

theorem insertAt_insertAt {α : Type} (m : SMap α) (k : Nat) (x y : α) : insertAt (insertAt m k x) k y = insertAt m k y := by
  induction m with
  | nil => simp [insertAt]
  | cons p r ih =>
    obtain ⟨a, v⟩ := p
    by_cases below : k < a
    · simp [insertAt, below]
    · by_cases here : k = a
      · simp [insertAt, here]
      · simp [insertAt, below, here, ih]

@[simp] theorem putHerd_putHerd (s : State) (i : Nat) (g h : Herd) : (s.putHerd i g).putHerd i h = s.putHerd i h := by
  simp [State.putHerd, State.onHrd, insertAt_insertAt]

@[simp] theorem putHerd_now (s : State) (i : Nat) (h : Herd) (p : Part) : (s.putHerd i h).now p = s.now p := by
  cases p <;> rfl

theorem onHerd_of_herd {s : State} {i : Nat} {h : Herd} (hh : s.herd i = some h) (f : Herd → Herd) : s.onHerd i f = s.putHerd i (f h) := by
  simp only [State.onHerd, hh]

theorem onHerd_herd (s : State) (i : Nat) (f : Herd → Herd) : (s.onHerd i f).herd i = (s.herd i).map f := by
  unfold State.onHerd
  cases hh : s.herd i <;> simp [hh]

/-- An operation that does not change the herds leaves every herd as it was. -/
theorem herd_of_frame {s t : State} {l : List Comp} (hf : ∀ {wt}, Off wt l → t.view wt = s.view wt)
    (hl : l.all (fun d => !d.meets .herds) = true) (i : Nat) : t.herd i = s.herd i :=
  congrArg (lookup · i) (sameIn_of_frame hf .herds hl)

theorem herdDue_of_inTime {s : State} {i : Nat} (h : s.herdInTime i = true) : s.herdDue i = s := by
  unfold State.herdDue
  split
  · rfl
  case h_2 g hg =>
    have inTime : (g.state == 2 && s.due .sw g.timerFrom g.timeout) = false ∧ (g.state == 3 && s.due .sw g.abortAt g.timeout) = false := by
      simpa only [State.herdInTime, hg, Option.all_some, Bool.and_eq_true, Bool.not_eq_true'] using h
    rw [inTime.1, inTime.2]
    rfl

/-- A step begins at an IDLE herd alone. -/
theorem startStep_of_herd {s : State} {i : Nat} {h : Herd} (hh : s.herd i = some h) (hstate : h.state ≠ 1) (moved : Bool) :
    s.startStep i moved = s := by
  simp [State.startStep, hh, hstate]

/-! ### The checks of an arriving packet -/

/-- What `State.herdReach` asks of a packet and its herd. -/
structure State.Reaches (s : State) (k : Packet) (h : Herd) : Prop where
  unmarked : (!k.mark || k.srcSw) = true
  crc : crcOk k = true
  herd : s.herd (herdIx k) = some h
  inTime : s.herdInTime (herdIx k) = true
  free : h.standbyBusy k = false
  expected : (herdPrefix k).step = h.step

theorem reaches_of_herdReach {s : State} {k : Packet} {h : Herd} (hreach : s.herdReach k h = true) : s.Reaches k h := by
  simp only [State.herdReach, Bool.and_eq_true, beq_iff_eq, Bool.not_eq_true'] at hreach
  obtain ⟨⟨⟨⟨⟨unmarked, crc⟩, herd⟩, inTime⟩, free⟩, expected⟩ := hreach
  exact ⟨unmarked, crc, herd, inTime, free, expected⟩

theorem consume_of_reaches {s : State} {k : Packet} {h : Herd} (hr : s.Reaches k h) : s.consume .sw k = s := by
  have : (!k.mark || k.srcSw) = true := hr.unmarked
  simp only [State.consume, this, if_true]

/-- A herd that no swap waits for faces a packet of its expected step as it is. -/
theorem facing_of_expected {h : Herd} {k : Packet} (hstep : (herdPrefix k).step = h.step) (hswap : h.state = 1 → h.swap = none) :
    h.facing k = h := by
  unfold Herd.facing
  simp only [hstep, Nat.lt_irrefl, decide_false, Bool.and_false, Bool.false_eq_true, if_false]
  split
  case h_1 hsome =>
    have : h.state ≠ 1 := fun hidle => by simp [hswap hidle] at hsome
    simp [this]
  · rfl

theorem takeUp_of_expected {s : State} {k : Packet} {h : Herd} (hr : s.Reaches k h) :
    s.takeUp (herdIx k) k = s.putHerd (herdIx k) h := by
  simp [State.takeUp, onHerd_of_herd hr.herd, hr.expected]

/-- What `State.memberTurn` asks beyond the packet's reach. -/
structure State.MemberTurn (s : State) (k : Packet) (h : Herd) (v place : Nat) : Prop extends s.Reaches k h where
  sender : h.senderOf k.src = some (v, place)
  partition : s.ctxPtn h.ctx = some k.ptn
  owned : s.orphaned h.ctx = false

theorem memberTurn_of_true {s : State} {k : Packet} {h : Herd} {v place : Nat} (hturn : s.memberTurn k h v place = true) :
    s.MemberTurn k h v place := by
  simp only [State.memberTurn, Bool.and_eq_true, beq_iff_eq, Bool.not_eq_true'] at hturn
  obtain ⟨⟨⟨reach, sender⟩, partition⟩, owned⟩ := hturn
  exact { toReaches := reaches_of_herdReach reach, sender, partition, owned }

/-- A member's packet in its turn passes every check of R190. -/
theorem memberCheck_of_turn {s : State} {k : Packet} {h : Herd} {v place : Nat} (ht : s.MemberTurn k h v place)
    (hswap : h.state = 1 → h.swap = none) (f : Nat → Herd → Nat → Nat → State → State) :
    s.memberCheck k f = f (herdIx k) h v place (s.putHerd (herdIx k) h) := by
  have hr := ht.toReaches
  simp [State.memberCheck, consume_of_reaches hr, herdDue_of_inTime hr.inTime, hr.herd, facing_of_expected hr.expected hswap, ht.sender,
    ht.partition, ht.owned, hr.free, hr.expected, takeUp_of_expected hr]

/-- The herd once an endpoint's first packet of the step has come. -/
def Herd.join (h : Herd) (node : Nat) : Herd := { h with joined := if h.joined.contains node then h.joined else h.joined ++ [node] }

theorem memberJoins_herd {s : State} {i : Nat} {h : Herd} (hh : s.herd i = some h) (node : Nat) :
    (s.memberJoins i node).herd i = some (h.join node) := by
  refine (onHerd_herd _ i _).trans ?_
  show (s.herd i).map _ = _
  rw [hh, Option.map_some, Herd.join]
  split <;> rfl

theorem memberJoins_now (s : State) (i node : Nat) (p : Part) : (s.memberJoins i node).now p = s.now p :=
  congrArg BitVec.toNat (sameIn_of_frame (State_memberJoins_frame s i node) (.ltc p) (by cases p <;> decide))

theorem memberJoins_svc (s : State) (i node : Nat) : (s.memberJoins i node).sw.svc = s.sw.svc :=
  svc_eq_of_rest (sameIn_of_frame (State_memberJoins_frame s i node) .progs (by decide))
    (sameIn_of_frame (State_memberJoins_frame s i node) .svc (by decide))

/-- The state in which a member's packet takes effect at a running herd: its sender has joined. -/
def State.joinedBy (s : State) (i : Nat) (h : Herd) (node : Nat) : State := (s.putHerd i h).memberJoins i node

@[simp] theorem joinedBy_herd (s : State) (i : Nat) (h : Herd) (node : Nat) : (s.joinedBy i h node).herd i = some (h.join node) :=
  memberJoins_herd (putHerd_herd s i h) node

@[simp] theorem joinedBy_now (s : State) (i : Nat) (h : Herd) (node : Nat) (p : Part) : (s.joinedBy i h node).now p = s.now p := by
  rw [State.joinedBy, memberJoins_now, putHerd_now]

@[simp] theorem joinedBy_svc (s : State) (i : Nat) (h : Herd) (node : Nat) : (s.joinedBy i h node).sw.svc = s.sw.svc :=
  memberJoins_svc ..

/-- A member's packet in its turn takes effect at a running herd. -/
theorem memberGuard_of_turn {s : State} {k : Packet} {h : Herd} {v place : Nat} (ht : s.MemberTurn k h v place) (hrun : h.state = 2)
    (f : Nat → Nat → Nat → State → State) : s.memberGuard k f = f (herdIx k) v place (s.joinedBy (herdIx k) h k.src) := by
  have idle : h.state ≠ 1 := by omega
  rw [State.memberGuard, memberCheck_of_turn ht fun hidle => absurd hidle idle]
  simp [hrun, startStep_of_herd (putHerd_herd s _ h) idle, ht.crc, State.joinedBy]

/-- What `State.herdTurn` asks beyond the packet's reach. -/
structure State.HerdTurn (s : State) (k : Packet) (h : Herd) : Prop extends s.Reaches k h where
  ofSwitch : k.srcSw = true
  chain : (herdPrefix k).sig = h.sig

theorem herdTurn_of_true {s : State} {k : Packet} {h : Herd} (hturn : s.herdTurn k h = true) : s.HerdTurn k h := by
  simp only [State.herdTurn, Bool.and_eq_true, beq_iff_eq] at hturn
  obtain ⟨⟨ofSwitch, reach⟩, chain⟩ := hturn
  exact { toReaches := reaches_of_herdReach reach, ofSwitch, chain }

/-- A child herd's packet in its turn takes effect at a running herd. -/
theorem childGuard_of_turn {s : State} {k : Packet} {h : Herd} {v : Nat} (ht : s.HerdTurn k h) (hslot : h.childSlot k = some v)
    (hrun : h.state = 2) (f : Nat → Nat → State → State) : s.childGuard k f = f (herdIx k) v (s.putHerd (herdIx k) h) := by
  have hr := ht.toReaches
  have idle : h.state ≠ 1 := by omega
  simp [State.childGuard, consume_of_reaches hr, herdDue_of_inTime hr.inTime, hr.herd,
    facing_of_expected hr.expected fun hidle => absurd hidle idle, hslot, ht.chain, hr.free, hr.expected, hrun, takeUp_of_expected hr,
    startStep_of_herd (putHerd_herd s _ h) idle, hr.crc]

/-- The parent herd's packet in its turn takes effect at a running herd. -/
theorem parentGuard_of_turn {s : State} {k : Packet} {h : Herd} {u : Nat} (ht : s.HerdTurn k h) (hlink : h.upLinkOf k = some u)
    (hrun : h.state = 2) (starts : Bool) (f : Nat → Nat → State → State) : s.parentGuard k starts f = f (herdIx k) u s := by
  have hr := ht.toReaches
  have idle : h.state ≠ 1 := by omega
  simp [State.parentGuard, consume_of_reaches hr, herdDue_of_inTime hr.inTime, hr.herd, hlink, ht.chain, hr.expected, hrun,
    startStep_of_herd hr.herd idle, State.when, hr.crc]

end Sys2Proof.Machine
end

section
/-! What arrives at a running herd (R188 to R192, R199, R222): the piece of a contributor, the markers and counts of members, and the pieces of a shard's result. -/

namespace Sys2Proof.Machine

/-! ### The piece of a contributor -/

/-- The herd with the piece of a contributor, by its key, replaced in a chunk. -/
def Herd.withPiece (h : Herd) (c key : Nat) (q : Piece) : Herd :=
  { h with work := insertAt h.work c { h.chunk c with pieces := insertAt (h.chunk c).pieces key q } }

theorem withPiece_work (h : Herd) (c key : Nat) (q : Piece) :
    lookup (h.withPiece c key q).work c = some { h.chunk c with pieces := insertAt (h.chunk c).pieces key q } := by
  simp [Herd.withPiece, lookup_insertAt]

/-- The piece that a chunk holds under a key, empty before its first packet. -/
def Chunk.piece (x : Chunk) (key : Nat) : Piece := (lookup x.pieces key).getD {}

/-- A piece is still open, and the slot has brought nothing from its other place. -/
structure Chunk.Takes (x : Chunk) (v place : Nat) : Prop where
  started : (x.piece (pieceKey v place)).done = none
  used : (x.piece (pieceKey v place)).dead = false
  alone : lookup x.pieces (pieceKey v (1 - place)) = none

/-- A packet for an open piece whose twin has brought nothing joins it (R204). -/
theorem addPiece_of_takes {s : State} {i : Nat} {h : Herd} {v place c : Nat} (hh : s.herd i = some h) (ht : (h.chunk c).Takes v place)
    (ix node : Nat) (data : List Byte) :
    s.addPiece i v place c ix node data
      = s.putHerd i (h.withPiece c (pieceKey v place)
          (((h.chunk c).piece (pieceKey v place)).add ix (h.pieceBytes v c (h.chunk c).shard) (s.now .sw) data)) := by
  obtain ⟨started, used, alone⟩ := ht
  simp only [Chunk.piece] at started used ⊢
  simp [State.addPiece, hh, started, used, alone, onHerd_of_herd hh, State.when, Herd.withPiece]

/-! ### The window and the contributors -/

/-- A packet of a chunk that has not left and lies in the window does not wait in its queue (R193). -/
theorem beyondWindow_of_inWindow {s : State} {k : Packet} {h : Herd} (hh : s.herd (herdIx k) = some h) (hrun : h.state = 2)
    (hwin : h.inWindow (herdPrefix k).chunk = true) : s.beyondWindow k = false := by
  simp [State.beyondWindow, hh, hrun, hwin]

theorem contributes_congr {s t : State} (hsvc : t.sw.svc = s.sw.svc) (i : Nat) (h : Herd) (v : Nat) :
    t.contributes i h v = s.contributes i h v := by
  simp only [State.contributes, State.regionOf, State.attach, hsvc]

/-! ### Members (R188, R199) -/

@[simp] theorem join_op (h : Herd) (node : Nat) : (h.join node).op = h.op := rfl
@[simp] theorem join_nChunks (h : Herd) (node : Nat) : (h.join node).nChunks = h.nChunks := rfl
@[simp] theorem join_chunk (h : Herd) (node c : Nat) : (h.join node).chunk c = h.chunk c := rfl
@[simp] theorem join_left (h : Herd) (node c : Nat) : (h.join node).left c = h.left c := rfl
@[simp] theorem join_ownsChunk (h : Herd) (node n c : Nat) : (h.join node).ownsChunk n c = h.ownsChunk n c := rfl
@[simp] theorem join_pieceBytes (h : Herd) (node v c shard : Nat) : (h.join node).pieceBytes v c shard = h.pieceBytes v c shard := rfl

theorem contributes_join (s : State) (i : Nat) (h : Herd) (node v : Nat) : s.contributes i (h.join node) v = s.contributes i h v := rfl

/-- A step does not end before every chunk has left. -/
theorem tryEnd_of_more {s : State} {i : Nat} {h : Herd} (hh : s.herd i = some h) (hmore : h.doneChunks < h.nChunks) : s.tryEnd i = s := by
  simp [State.tryEnd, hh, Nat.not_le.2 hmore]

section
variable {s : State} {k : Packet} {h : Herd} {v place : Nat} (ht : s.MemberTurn k h v place) (hrun : h.state = 2)
include ht hrun

/-- A contribution of a chunk that counts and is in the window joins the piece of its sender. -/
theorem herdContrib_of_turn (hplace : place < 2) (hc : (herdPrefix k).chunk < h.nChunks) (hcon : s.contributes (herdIx k) h v = true)
    (hown : h.ownsChunk k.src (herdPrefix k).chunk = true) (hleft : h.left (herdPrefix k).chunk = false)
    (hwin : h.inWindow (herdPrefix k).chunk = true) :
    herdContrib k s
      = (s.joinedBy (herdIx k) h k.src).addPiece (herdIx k) v place (herdPrefix k).chunk (herdPrefix k).pkt k.src (k.payload.drop 16) := by
  have inTime := herdDue_of_inTime ht.inTime
  have counts : (s.joinedBy (herdIx k) h k.src).contributes (herdIx k) (h.join k.src) v = true := by
    rw [contributes_congr (joinedBy_svc ..), contributes_join, hcon]
  have near : place ≠ 2 := by omega
  simp [herdContrib, inTime, beyondWindow_of_inWindow ht.herd hrun hwin, memberGuard_of_turn ht hrun, counts, hown, hleft, near,
    Nat.not_le.2 hc]

/-- A join marker that brings nothing, in a step that does not end, joins its sender alone. -/
theorem herdJoin_of_marker (hmember : k.srcSw = false) (h5 : h.op ≠ 5) (h6 : h.op ≠ 6) (hmore : h.doneChunks < h.nChunks) :
    herdJoin k s = s.joinedBy (herdIx k) h k.src := by
  simp [herdJoin, hmember, memberGuard_of_turn ht hrun, h5, h6, tryEnd_of_more (joinedBy_herd ..) hmore]

/-- The join marker of a BARRIER is what its sender brings. -/
theorem herdJoin_of_barrier (hmember : k.srcSw = false) (hplace : place < 2) (h5 : h.op = 5) (hc : (herdPrefix k).chunk = 0)
    (hleft : h.left 0 = false) (hown : h.ownsChunk k.src 0 = true) :
    herdJoin k s = (s.joinedBy (herdIx k) h k.src).addPiece (herdIx k) v place 0 0 k.src [] := by
  have near : place ≠ 2 := by omega
  simp [herdJoin, hmember, memberGuard_of_turn ht hrun, h5, hc, hleft, hown, near]

/-- The counts of an ALL_TO_ALL join the piece of their sender. -/
theorem herdCounts_of_member (hmember : k.srcSw = false) (hplace : place < 2) (h6 : h.op = 6) (hleft : h.left 0 = false)
    (hown : h.ownsChunk k.src 0 = true) :
    herdCounts .sw k s
      = (s.joinedBy (herdIx k) h k.src).addPiece (herdIx k) v place 0 (herdPrefix k).pkt k.src (k.payload.drop 16) := by
  have near : place ≠ 2 := by omega
  simp [herdCounts, State.herdCountsSw, State.countsOfMember, hmember, memberGuard_of_turn ht hrun, h6, hleft, hown, near]

end

/-! ### Child and parent herds (R178, R192) -/

theorem Piece.eq_of_open {q : Piece} (h : q.done = none) : ({ q with done := none } : Piece) = q := by
  rw [← h]

/-- The herd with the shard of a chunk that a partial names. -/
def Herd.withShard (h : Herd) (c shard : Nat) : Herd := { h with work := insertAt h.work c { h.chunk c with shard := shard } }

@[simp] theorem withShard_chunk (h : Herd) (c shard : Nat) : (h.withShard c shard).chunk c = { h.chunk c with shard := shard } := by
  simp [Herd.withShard, Herd.chunk, lookup_insertAt]

@[simp] theorem withShard_pieceBytes (h : Herd) (c shard v c' shard' : Nat) :
    (h.withShard c shard).pieceBytes v c' shard' = h.pieceBytes v c' shard' := rfl

/-- The herd with the piece of a shard's result replaced in a chunk. -/
def Herd.withDown (h : Herd) (c shard : Nat) (q : Piece) : Herd :=
  { h with work := insertAt h.work c { h.chunk c with down := insertAt (h.chunk c).down shard q } }

theorem withDown_work (h : Herd) (c shard : Nat) (q : Piece) :
    lookup (h.withDown c shard q).work c = some { h.chunk c with down := insertAt (h.chunk c).down shard q } := by
  simp [Herd.withDown, lookup_insertAt]

section
variable {s : State} {k : Packet} {h : Herd} {v : Nat} (ht : s.HerdTurn k h) (hrun : h.state = 2)
  (hc : (herdPrefix k).chunk < h.nChunks) (hleft : h.left (herdPrefix k).chunk = false)
include ht hrun hc hleft

/-- A partial of a chunk in the window names its shard and joins the piece of its slot. -/
theorem herdPartial_of_turn (hslot : h.childSlot k = some v) (hwin : h.inWindow (herdPrefix k).chunk = true) :
    herdPartial k s
      = (s.putHerd (herdIx k) (h.withShard (herdPrefix k).chunk (herdPrefix k).shard)).addPiece (herdIx k) v 0 (herdPrefix k).chunk
          (herdPrefix k).pkt k.src (k.payload.drop 16) := by
  have inTime := herdDue_of_inTime ht.inTime
  simp [herdPartial, inTime, beyondWindow_of_inWindow ht.herd hrun hwin, childGuard_of_turn ht hslot hrun, State.addPartial, hleft,
    Nat.not_le.2 hc, Herd.withShard]

/-- A packet that does not complete a shard's result joins the piece of that shard. -/
theorem herdResult_of_turn {q : Piece} (hlink : h.upLinkOf k = some v)
    (hq : (lookup (h.chunk (herdPrefix k).chunk).down (herdPrefix k).shard).getD {} = q) (hopen : q.done = none)
    (hmore : (q.add (herdPrefix k).pkt (h.resultBytes (herdPrefix k).chunk (herdPrefix k).shard) (s.now .sw) (k.payload.drop 16)).done = none) :
    herdResult .sw k s
      = s.putHerd (herdIx k) (h.withDown (herdPrefix k).chunk (herdPrefix k).shard
          (q.add (herdPrefix k).pkt (h.resultBytes (herdPrefix k).chunk (herdPrefix k).shard) (s.now .sw) (k.payload.drop 16))) := by
  simp [herdResult, State.herdResultSw, parentGuard_of_turn ht hlink hrun, ht.herd, State.collectDown, hq, hopen, hmore, hleft,
    Nat.not_le.2 hc, Herd.withDown, Piece.eq_of_open hmore]

end

/-- Settles O23: each arrival has the effect that the lemmas above give; a claim reads the chunk off the herd that the effect leaves. -/
theorem herdArrivalRowsComplete : Obligations.HerdArrivalRowsComplete := by
  refine ⟨?contrib, ?shardPart, ?marker, ?barrier, ?result, ?counts⟩
  case contrib =>
    rintro k h v place q s hturn hrun rfl hopen hused hplace halone hc hcon hown hleft hwin
    have ht := memberTurn_of_true hturn
    have takes : ((h.join k.src).chunk (herdPrefix k).chunk).Takes v place := ⟨hopen, hused, halone⟩
    refine ⟨_, congrArg Host.Outcome.next (herdContrib_of_turn ht hrun hplace hc hcon hown hleft hwin), ?_⟩
    simp [addPiece_of_takes (joinedBy_herd ..) takes, withPiece_work, Chunk.piece]
  case shardPart =>
    rintro k h v q s hturn hslot hrun rfl hopen hused halone hc hleft hwin
    have ht := herdTurn_of_true hturn
    have takes : ((h.withShard (herdPrefix k).chunk (herdPrefix k).shard).chunk (herdPrefix k).chunk).Takes v 0 := by
      rw [withShard_chunk]
      exact ⟨hopen, hused, halone⟩
    refine ⟨_, congrArg Host.Outcome.next (herdPartial_of_turn ht hrun hc hleft hslot hwin), ?_⟩
    simp [addPiece_of_takes (putHerd_herd ..) takes, withPiece_work, Chunk.piece]
  case marker =>
    intro k h v place s hmember hturn hrun h5 h6 hmore
    refine ⟨_, congrArg Host.Outcome.next (herdJoin_of_marker (memberTurn_of_true hturn) hrun hmember h5 h6 hmore), ?_⟩
    simp [Herd.join]
  case barrier =>
    rintro k h v place q s hmember hturn hrun rfl hopen hused hplace halone h5 hc hleft hown
    have ht := memberTurn_of_true hturn
    have takes : ((h.join k.src).chunk 0).Takes v place := ⟨hopen, hused, halone⟩
    refine ⟨_, congrArg Host.Outcome.next (herdJoin_of_barrier ht hrun hmember hplace h5 hc hleft hown), ?_⟩
    simp [addPiece_of_takes (joinedBy_herd ..) takes, withPiece_work, Chunk.piece]
  case result =>
    intro k h v q s hturn hlink hrun hc hleft hq hopen hmore
    refine ⟨_, congrArg Host.Outcome.next (herdResult_of_turn (herdTurn_of_true hturn) hrun hc hleft hlink hq hopen hmore), ?_⟩
    simp [withDown_work]
  case counts =>
    rintro k h v place q s hmember hturn hrun rfl hopen hused hplace halone h6 hleft hown
    have ht := memberTurn_of_true hturn
    have takes : ((h.join k.src).chunk 0).Takes v place := ⟨hopen, hused, halone⟩
    refine ⟨_, congrArg Host.Outcome.next (herdCounts_of_member ht hrun hmember hplace h6 hleft hown), ?_⟩
    simp [addPiece_of_takes (joinedBy_herd ..) takes, withPiece_work, Chunk.piece]

end Sys2Proof.Machine
end

section
/-! Aborts of a herd (R205 to R209) and the completion from above (R196): what a herd that is no root holds once it has asked for an abort, how acknowledgements are noted, and how it leaves ABORTING. -/

namespace Sys2Proof.Machine

/-! ### What leaves the herds as they were -/

theorem askUp_herd (s : State) (h : Herd) (reason : Nat) (fo : Bool) (except : Option Nat) (i : Nat) :
    (s.askUp h reason fo except).herd i = s.herd i :=
  herd_of_frame (State_askUp_frame s h reason fo except) (by decide) i

theorem dropResidue_herd (s : State) (j i : Nat) : (s.dropResidue j).herd i = s.herd i :=
  herd_of_frame (State_dropResidue_frame s j) (by decide) i

/-! ### An abort is asked for (R206, R207) -/

/-- The herd that stops its chunks and asks up for an abort, at a tick. -/
def Herd.asking (h : Herd) (reason now : Nat) : Herd :=
  { h with state := 3, asked := some (reason, now), abortAt := now, work := [] }

section
variable {s : State} {i : Nat} {h : Herd} (hh : s.herd i = some h) (hroot : h.isRoot = false)
include hh hroot

/-- A condition at a running herd that is no root, with results still to leave, is asked up. -/
theorem herdCondition_of_running (hrun : h.state = 2) (hmore : h.finished = false) (reason : Nat) (path : Bool) :
    (s.herdCondition i reason path).herd i = some (h.asking reason (s.now .sw)) := by
  simp [State.herdCondition, hh, hrun, hroot, hmore, askUp_herd, dropResidue_herd, Herd.asking]

/-- A request is asked up by a running herd and by an IDLE one alike. -/
theorem requestAbort_of_herd (hstate : h.state = 2 ∧ h.finished = false ∨ h.state = 1) (reason : Nat) (fo : Bool) :
    (s.requestAbort i reason fo).herd i = some (h.asking reason (s.now .sw)) := by
  obtain ⟨hrun, hmore⟩ | hidle := hstate
  · simp [State.requestAbort, hh, hrun, herdCondition_of_running hh hroot hrun hmore]
  · simp [State.requestAbort, hh, hidle, hroot, askUp_herd, Herd.asking]

end

/-! ### The end of ABORTING (R209) -/

/-- A herd on which no command waits is IDLE at the next step once it leaves ABORTING. -/
theorem leaveAborting_of_unawaited {s : State} {i : Nat} {h : Herd} (hh : s.herd i = some h) (hnone : h.ending = 0) :
    ((s.leaveAborting i).herd i).map (fun g => (g.state, g.step, g.work)) = some (1, (h.step + 1) % 2 ^ 32, []) := by
  simp [State.leaveAborting, hh, hnone, State.when]

/-- The herd with an acknowledgement noted. -/
def Herd.ack (h : Herd) (n : Nat) : Herd := { h with acked := if h.acked.contains n then h.acked else h.acked ++ [n] }

theorem acknowledged_of_aborting {s : State} {i : Nat} {h : Herd} (hh : s.herd i = some h) (hstate : h.state = 3) (n : Nat) :
    s.acknowledged i n = (s.putHerd i (h.ack n)).checkAcked i := by
  simp [State.acknowledged, hh, hstate, Herd.ack]

/-- Whether every reachable slot has acknowledged is read off the ports, which the herds do not change. -/
theorem allAcked_putHerd (s : State) (i : Nat) (g h : Herd) : (s.putHerd i g).allAcked h = s.allAcked h := rfl

/-- An acknowledgement of a member in its turn is noted. -/
theorem herdAckReceive_of_turn {s : State} {k : Packet} {h : Herd} {v place : Nat} (ht : s.MemberTurn k h v place)
    (hmember : k.srcSw = false) (hstate : h.state = 3) :
    herdAckReceive k s = (s.putHerd (herdIx k) (h.ack k.src)).checkAcked (herdIx k) := by
  have notIdle : h.state = 1 → h.swap = none := fun hidle => by omega
  simp [herdAckReceive, hmember, memberCheck_of_turn ht notIdle, ht.crc, acknowledged_of_aborting (putHerd_herd ..) hstate]

/-! ### The timers (R205, R209) -/

theorem herdDue_of_running {s : State} {i : Nat} {h : Herd} (hh : s.herd i = some h) (hrun : h.state = 2)
    (hlate : s.due .sw h.timerFrom h.timeout = true) (hmore : h.finished = false) : s.herdDue i = s.herdCondition i rsTIMEOUT := by
  simp [State.herdDue, hh, hrun, hlate, hmore]

theorem herdDue_of_aborting {s : State} {i : Nat} {h : Herd} (hh : s.herd i = some h) (hstate : h.state = 3)
    (hlate : s.due .sw h.abortAt h.timeout = true) (hdecided : h.decided.isSome = true) : s.herdDue i = s.leaveAborting i := by
  obtain ⟨reason, hreason⟩ := Option.isSome_iff_exists.1 hdecided
  simp [State.herdDue, hh, hstate, hlate, hreason, State.when]

/-! ### The completion from above (R196) -/

/-- The first byte of a number of four is its low byte. -/
theorem natAt_low_byte (bs : List Byte) (k : Nat) : bitsOf (natAt bs k 4) 0 8 = natAt bs k 1 := by
  simp only [natAt, bitsOf_eq]
  cases bs.drop k with
  | nil => rfl
  | cons b r => simp [leNat]; omega

/-- The herd with the completion of an up-link noted, and the flags that came with it. -/
def Herd.completedAbove (h : Herd) (u flags : Nat) : Herd :=
  { h with flags := h.flags ||| flags, cpls := if h.cpls.contains u then h.cpls else h.cpls ++ [u] }

/-- A completion that finds chunks still to leave is noted, and the step goes on. -/
theorem herdCplReceive_of_turn {s : State} {k : Packet} {h : Herd} {u : Nat} (ht : s.HerdTurn k h) (hlink : h.upLinkOf k = some u)
    (hrun : h.state = 2) (hok : natAt k.payload 16 1 = stOK) (hmore : h.doneChunks < h.nChunks) :
    herdCplReceive .sw k s = s.putHerd (herdIx k) (h.completedAbove u (bitsOf (natAt k.payload 16 4) 8 8)) := by
  have notHeld : (stOK == stHELD) = false := by decide
  have goesOn : (s.putHerd (herdIx k) (h.completedAbove u (bitsOf (natAt k.payload 16 4) 8 8))).tryEnd (herdIx k) = _ :=
    tryEnd_of_more (putHerd_herd ..) hmore
  simp only [herdCplReceive, State.herdCplSw, parentGuard_of_turn ht hlink hrun, natAt_low_byte, hok, notHeld, Bool.false_eq_true, if_false,
    onHerd_of_herd ht.herd]
  exact goesOn

end Sys2Proof.Machine
end

section
/-! The commands of the herd stage and of the service stage (R183, R212, R238, R239): a command that is carried out, what its completion tells, and the commands that throttle level P3 holds back (R211). -/

namespace Sys2Proof.Machine

/-! ### A command that is carried out -/

/-- The state that a command of the herd stage finds: a claim that stands is touched (R183). -/
def State.hrdTouched (s : State) : State :=
  s.when s.sw.hrd.stage.claim.isSome fun s => s.onHrd fun x => { x with stage := { x.stage with at_ := s.now .sw } }

/-- The same of the service stage (R239). -/
def State.svcTouched (s : State) : State :=
  s.when s.sw.svc.stage.claim.isSome fun s => s.onSvc fun v => { v with stage := { v.stage with at_ := s.now .sw } }

theorem hrdTouched_rd (s : State) (p : Part) (r : Reg) (b i : Nat) : s.hrdTouched.rd p r b i = s.rd p r b i := by
  unfold State.hrdTouched State.when
  split
  · cases p <;> rfl
  · rfl

theorem svcTouched_rd (s : State) (p : Part) (r : Reg) (b i : Nat) : s.svcTouched.rd p r b i = s.rd p r b i := by
  unfold State.svcTouched State.when
  split
  · cases p <;> rfl
  · rfl

@[simp] theorem hrdTouched_herds (s : State) : s.hrdTouched.sw.hrd.herds = s.sw.hrd.herds := by
  unfold State.hrdTouched State.when
  split <;> rfl

/-- A touch of the service stage changes nothing of the services but the stage. -/
theorem svcTouched_svc (s : State) : s.svcTouched.sw.svc = { s.sw.svc with stage := s.svcTouched.sw.svc.stage } := by
  unfold State.svcTouched State.when
  split <;> rfl

/-- What `State.hrdOpen` asks, one condition each. -/
structure State.HrdOpen (s : State) (o : Origin) : Prop where
  reached : s.writeOpen o.path .sw pgHrd 0x48 = true
  ours : ∀ c, s.sw.hrd.stage.claim = some c → c = claimantOf o
  fresh : s.claimOver s.sw.hrd.stage = false
  ready : s.flag .sw HRD_CMD_STS_BUSY = false
  feature : o.path = .host → (s.rd .sw MGT_FEAT).getLsbD 2 = true
  serves : s.cpuServes 1 = true

theorem hrdOpen_of_true {s : State} {o : Origin} (h : s.hrdOpen o = true) : s.HrdOpen o := by
  simp only [State.hrdOpen, Bool.and_eq_true, Bool.not_eq_true', Option.all_eq_true, beq_iff_eq, Bool.or_eq_true, bne_iff_ne] at h
  obtain ⟨⟨⟨⟨⟨reached, ours⟩, fresh⟩, ready⟩, feature⟩, serves⟩ := h
  exact ⟨reached, ours, fresh, ready, fun hhost => feature.resolve_left (absurd hhost), serves⟩

theorem hrdStageWrite_of_open {s : State} {o : Origin} (h : s.HrdOpen o) (f : State → Written) : s.hrdStageWrite o f = f s.hrdTouched := by
  have fresh : s.hrdFresh = s := by simp [State.hrdFresh, h.fresh]
  simp only [State.hrdStageWrite, fresh, State.hrdTouched, State.when]
  cases hclaim : s.sw.hrd.stage.claim with
  | none => simp
  | some c => simp [h.ours c hclaim]

theorem hrdCmd_of_open {s : State} {o : Origin} (h : s.HrdOpen o) (f : State → State) : s.hrdCmd o f = (f s.hrdTouched, true) := by
  have ready : s.hrdTouched.flag .sw HRD_CMD_STS_BUSY = false := by
    simpa only [State.flag, State.get, hrdTouched_rd] using h.ready
  have serves : s.hrdTouched.cpuServes 1 = true := by
    simpa only [State.cpuServes, State.cpuUp, State.cpuState, State.get, hrdTouched_rd] using h.serves
  have feature : (o.path == .host && !(s.hrdTouched.rd .sw MGT_FEAT).getLsbD 2) = false := by
    rw [hrdTouched_rd, Bool.and_eq_false_imp]
    exact fun hhost => by simp [h.feature (eq_of_beq hhost)]
  simp only [State.hrdCmd, hrdStageWrite_of_open h, ready, feature, serves, Bool.not_true, Bool.false_eq_true, if_false]

/-- A command of the herd stage that is carried out acts on the stage as touched, and the write completes. -/
theorem writeBy_hrdCmd_of_open {s : State} {o : Origin} (h : s.hrdOpen o = true) (f : State → State) :
    s.writeBy o.path .sw pgHrd 0x48 (fun s => s.hrdCmd o f) = (f s.hrdTouched).regDone .sw o.path stOK := by
  have hopen := hrdOpen_of_true h
  rw [writeBy_of_open hopen.reached, hrdCmd_of_open hopen]
  rfl

/-- What `State.svcOpen` asks, one condition each. -/
structure State.SvcOpen (s : State) (o : Origin) : Prop where
  reached : s.writeOpen o.path .sw pgSvc 0x48 = true
  ours : ∀ c, s.sw.svc.stage.claim = some c → c = claimantOf o
  fresh : s.claimOver s.sw.svc.stage = false
  ready : s.flag .sw SVC_CMD_STS_BUSY = false
  feature : o.path = .host → (s.rd .sw MGT_FEAT).getLsbD 3 = true
  serves : s.cpuServes 1 = true

theorem svcOpen_of_true {s : State} {o : Origin} (h : s.svcOpen o = true) : s.SvcOpen o := by
  simp only [State.svcOpen, Bool.and_eq_true, Bool.not_eq_true', Option.all_eq_true, beq_iff_eq, Bool.or_eq_true, bne_iff_ne] at h
  obtain ⟨⟨⟨⟨⟨reached, ours⟩, fresh⟩, ready⟩, feature⟩, serves⟩ := h
  exact ⟨reached, ours, fresh, ready, fun hhost => feature.resolve_left (absurd hhost), serves⟩

theorem svcStageWrite_of_open {s : State} {o : Origin} (h : s.SvcOpen o) (f : State → Written) : s.svcStageWrite o f = f s.svcTouched := by
  have fresh : s.svcFresh = s := by simp [State.svcFresh, h.fresh]
  simp only [State.svcStageWrite, fresh, State.svcTouched, State.when]
  cases hclaim : s.sw.svc.stage.claim with
  | none => simp
  | some c => simp [h.ours c hclaim]

theorem svcCmd_of_open {s : State} {o : Origin} (h : s.SvcOpen o) (f : State → State) : s.svcCmd o f = (f s.svcTouched, true) := by
  have ready : s.svcTouched.flag .sw SVC_CMD_STS_BUSY = false := by
    simpa only [State.flag, State.get, svcTouched_rd] using h.ready
  have serves : s.svcTouched.cpuServes 1 = true := by
    simpa only [State.cpuServes, State.cpuUp, State.cpuState, State.get, svcTouched_rd] using h.serves
  have feature : (o.path == .host && !(s.svcTouched.rd .sw MGT_FEAT).getLsbD 3) = false := by
    rw [svcTouched_rd, Bool.and_eq_false_imp]
    exact fun hhost => by simp [h.feature (eq_of_beq hhost)]
  simp only [State.svcCmd, svcStageWrite_of_open h, ready, feature, serves, Bool.not_true, Bool.false_eq_true, if_false]

/-- A command of the service stage that is carried out acts on the stage as touched, and the write completes. -/
theorem writeBy_svcCmd_of_open {s : State} {o : Origin} (h : s.svcOpen o = true) (f : State → State) :
    s.writeBy o.path .sw pgSvc 0x48 (fun s => s.svcCmd o f) = (f s.svcTouched).regDone .sw o.path stOK := by
  have hopen := svcOpen_of_true h
  rw [writeBy_of_open hopen.reached, svcCmd_of_open hopen]
  rfl

/-! ### What a completion tells -/

theorem regDone_sw (s : State) (p : Part) (path : Path) (st : Nat) (data : Word) : (s.regDone p path st data).sw = s.sw := by
  cases path <;> rfl

/-- Clearing words of a register table leaves a register whose key is none of theirs. -/
theorem rd_clearWords (r r' : Reg) (b i : Nat) (l : List Nat) (hkey : ∀ k ∈ l, r'.key b i ≠ (r.word k).key 0 0) (s : State) :
    (l.foldl (fun s k => s.wr .sw (r.word k) 0) s).rd .sw r' b i = s.rd .sw r' b i := by
  induction l generalizing s with
  | nil => rfl
  | cons k l ih =>
    obtain ⟨hk, hl⟩ := List.forall_mem_cons.1 hkey
    rw [List.foldl_cons, ih hl, rd_wr, if_neg fun h => hk h.2]

theorem onHrd_rd (s : State) (f : Herds → Herds) (p : Part) (r : Reg) (b i : Nat) : (s.onHrd f).rd p r b i = s.rd p r b i := by
  cases p <;> rfl

theorem onSvc_rd (s : State) (f : Svc → Svc) (p : Part) (r : Reg) (b i : Nat) : (s.onSvc f).rd p r b i = s.rd p r b i := by
  cases p <;> rfl

/-- The completion of a herd command reads as its fields were stored: the stage words cleared after them are other registers. -/
theorem hrdDone_rd_sts (s : State) (status detail : Nat) :
    (s.hrdDone status detail).rd .sw HRD_CMD_STS
      = (((s.put .sw HRD_CMD_STS_STATUS status).put .sw HRD_CMD_STS_DETAIL detail).put .sw HRD_CMD_STS_BUSY 0).rd .sw HRD_CMD_STS := by
  have apart : ∀ k ∈ upTo 8, HRD_CMD_STS.key 0 0 ≠ (HRD_DESC.word k).key 0 0 := by decide
  simp only [State.hrdDone, onHrd_rd, rd_clearWords _ _ _ _ _ apart]

theorem hrdDone_status (s : State) (status detail : Nat) : (s.hrdDone status detail).get .sw HRD_CMD_STS_STATUS = status % 2 ^ 8 := by
  rw [get_congr (f := HRD_CMD_STS_STATUS) (hrdDone_rd_sts s status detail),
    get_put_apart _ _ HRD_CMD_STS_BUSY HRD_CMD_STS_STATUS _ _ _ rfl (by decide),
    get_put_apart _ _ HRD_CMD_STS_DETAIL HRD_CMD_STS_STATUS _ _ _ rfl (by decide)]
  exact get_put _ _ _ _ _ _ (by decide)

theorem hrdDone_detail (s : State) (status detail : Nat) : (s.hrdDone status detail).get .sw HRD_CMD_STS_DETAIL = detail % 2 ^ 8 := by
  rw [get_congr (f := HRD_CMD_STS_DETAIL) (hrdDone_rd_sts s status detail),
    get_put_apart _ _ HRD_CMD_STS_BUSY HRD_CMD_STS_DETAIL _ _ _ rfl (by decide)]
  exact get_put _ _ _ _ _ _ (by decide)

theorem hrdDone_herds (s : State) (status detail : Nat) : (s.hrdDone status detail).sw.hrd.herds = s.sw.hrd.herds :=
  sameIn_of_frame (State_hrdDone_frame s status detail) .herds (by decide)

/-- The completion of a service command reads as its fields were stored. -/
theorem svcDone_rd_sts (s : State) (status detail instr : Nat) :
    (s.svcDone status detail instr).rd .sw SVC_CMD_STS
      = (((s.put .sw SVC_CMD_STS_STATUS status).put .sw SVC_CMD_STS_DETAIL detail).put .sw SVC_CMD_STS_INSTR instr).rd .sw SVC_CMD_STS := by
  have apart : ∀ k ∈ upTo 64, SVC_CMD_STS.key 0 0 ≠ (SVC_STAGE.word k).key 0 0 := by decide
  simp only [State.svcDone, State.clearSvcStage, onSvc_rd, rd_clearWords _ _ _ _ _ apart]

theorem svcDone_status (s : State) (status detail instr : Nat) :
    (s.svcDone status detail instr).get .sw SVC_CMD_STS_STATUS = status % 2 ^ 8 := by
  rw [get_congr (f := SVC_CMD_STS_STATUS) (svcDone_rd_sts s status detail instr),
    get_put_apart _ _ SVC_CMD_STS_INSTR SVC_CMD_STS_STATUS _ _ _ rfl (by decide),
    get_put_apart _ _ SVC_CMD_STS_DETAIL SVC_CMD_STS_STATUS _ _ _ rfl (by decide)]
  exact get_put _ _ _ _ _ _ (by decide)

theorem svcDone_detail (s : State) (status detail instr : Nat) :
    (s.svcDone status detail instr).get .sw SVC_CMD_STS_DETAIL = detail % 2 ^ 8 := by
  rw [get_congr (f := SVC_CMD_STS_DETAIL) (svcDone_rd_sts s status detail instr),
    get_put_apart _ _ SVC_CMD_STS_INSTR SVC_CMD_STS_DETAIL _ _ _ rfl (by decide)]
  exact get_put _ _ _ _ _ _ (by decide)

/-- A completion changes nothing of the services but the stage. -/
theorem svcDone_svc (s : State) (status detail instr : Nat) : (s.svcDone status detail instr).sw.svc = { s.sw.svc with stage := {} } := by
  have cleared : ∀ (l : List Nat) (u : State), (l.foldl (fun s k => s.wr .sw (SVC_STAGE.word k) 0) u).sw = u.sw :=
    fun l u => foldl_leaves State.sw _ (fun s k => wr_sw ..) l u
  simp only [State.svcDone, State.clearSvcStage, onSvc_sw_svc, cleared, put_sw]

/-! ### Throttle level P3 (R211, R238) -/

/-- A command of the herd stage completes HELD and makes no herd. -/
theorem herdCreate_of_held {s : State} {o : Origin} (hopen : s.hrdOpen o = true) (hheld : s.powerHeld = true) (i : Nat) :
    herdCreate o i s = (s.hrdTouched.hrdDone stHELD 9).regDone .sw o.path stOK := by
  have held : s.hrdTouched.powerHeld = true := by
    simpa only [State.powerHeld, State.get, hrdTouched_rd] using hheld
  have notOk : (stHELD != stOK) = true := by decide
  rw [herdCreate, writeBy_hrdCmd_of_open hopen]
  simp [State.createHerd, State.createCheck, held, notOk]

theorem svcTouched_powerHeld {s : State} (h : s.powerHeld = true) : s.svcTouched.powerHeld = true := by
  simpa only [State.powerHeld, State.get, svcTouched_rd] using h

/-- A command of the service stage has completed HELD with DETAIL 9, and nothing of the services but the stage is other than before. -/
structure State.SvcHeld (s t : State) : Prop where
  status : t.get .sw SVC_CMD_STS_STATUS = stHELD
  detail : t.get .sw SVC_CMD_STS_DETAIL = 9
  svc : t.sw.svc = { s.sw.svc with stage := {} }

/-- A command of the service stage that is carried out and that its first check holds back completes HELD. -/
theorem svcHeld_of_open {s : State} {o : Origin} (hopen : s.svcOpen o = true) {f : State → State}
    (hf : f s.svcTouched = s.svcTouched.svcDone stHELD 9) : s.SvcHeld (s.writeBy o.path .sw pgSvc 0x48 fun s => s.svcCmd o f) := by
  rw [writeBy_svcCmd_of_open hopen, hf]
  refine ⟨?status, ?detail, ?svc⟩
  case status => exact (get_congr (regDone_rd ..)).trans (svcDone_status ..)
  case detail => exact (get_congr (regDone_rd ..)).trans (svcDone_detail ..)
  case svc =>
    rw [regDone_sw, svcDone_svc, svcTouched_svc]

/-- A gather or scatter-add that passes the checks of R57 is answered HELD, whatever it does with its table. -/
theorem tableGuard_of_held {s : State} {k : Packet} {p off : Nat} (hheld : s.powerHeld = true) (hmark : k.mark = false)
    (hcrc : crcOk k = true) (hplace : placeOf k.addr = .pool s.switchId p off) (hfirst : s.accepted k = false)
    (hnew : nonIdempotent k = true → s.outcomeOf .sw k = none) (hcheck : s.poolCheck k.ctx k.ptn p off 0 = stOK)
    (f : Table → State → State) : s.tableGuard k f = s.swAnswer k stHELD := by
  cases hkind : nonIdempotent k with
  | false => simp [State.tableGuard, State.poolGuard, consume_of_unmarked hmark, hcrc, hplace, hfirst, hcheck, hheld, hkind]
  | true =>
    simp [State.tableGuard, State.poolGuard, consume_of_unmarked hmark, hcrc, hplace, hfirst, hcheck, hheld, hkind, State.dedup, hnew hkind]

end Sys2Proof.Machine
end

section
/-! Throttle level P3 (R211, R238), and what ends the herds that run under it (R196, R205, R207, R209). -/

namespace Sys2Proof.Machine

/-- Settles O36: a command held back completes by the lemmas of its stage, a held request is answered at its first check, and a herd that
runs ends by the lemmas of its completion, its aborts and its timers. -/
theorem powerLevelP3Holds : Obligations.PowerLevelP3Holds := by
  refine ⟨?create, ?load, ?attach, ?const, ?sealing, ?tableSet, ?gather, ?scatter, ?completion, ?abortRequest, ?ackNoted, ?ackLast, ?timer,
    ?aborting⟩
  case create =>
    intro o i s hopen hheld
    refine ⟨_, congrArg Host.Outcome.next (herdCreate_of_held hopen hheld i), ?status, ?detail, ?herds⟩
    case status => exact (get_congr (regDone_rd ..)).trans (hrdDone_status ..)
    case detail => exact (get_congr (regDone_rd ..)).trans (hrdDone_detail ..)
    case herds => rw [regDone_sw, hrdDone_herds, hrdTouched_herds]
  case load =>
    intro o slot s hopen hheld
    have held := svcHeld_of_open (f := fun s => s.loadProgram (slot % 256)) hopen (by simp [State.loadProgram, svcTouched_powerHeld hheld])
    exact ⟨_, rfl, held.status, held.detail, (congrArg Svc.progs held.svc :)⟩
  case attach =>
    intro o i s hopen hheld
    have notOk : (stHELD != stOK) = true := by decide
    have held := svcHeld_of_open (f := fun s => s.attachHerd (i % 4096)) hopen
      (by simp [State.attachHerd, State.attachCheck, svcTouched_powerHeld hheld, notOk])
    exact ⟨_, rfl, held.status, held.detail, (congrArg Svc.atts held.svc :)⟩
  case const =>
    intro o i s hopen hheld
    have held := svcHeld_of_open (f := fun s => s.stageConsts (i % 4096)) hopen (by simp [State.stageConsts, svcTouched_powerHeld hheld])
    exact ⟨_, rfl, held.status, held.detail, (congrArg Svc.atts held.svc :)⟩
  case sealing =>
    intro o g s hopen hheld
    have held := svcHeld_of_open (f := fun s => s.sealRegion o (g % 256)) hopen (by simp [State.sealRegion, svcTouched_powerHeld hheld])
    exact ⟨_, rfl, held.status, held.detail, (congrArg Svc.regions held.svc :)⟩
  case tableSet =>
    intro o t s hopen hheld
    have held := svcHeld_of_open (f := fun s => s.setTable o (t % 256)) hopen (by simp [State.setTable, svcTouched_powerHeld hheld])
    exact ⟨_, rfl, held.status, held.detail, (congrArg Svc.tables held.svc :)⟩
  case gather =>
    intro k p off s hheld hmark hcrc hplace hfirst hnew hcheck
    exact ⟨_, rfl, tableGuard_of_held hheld hmark hcrc hplace hfirst hnew hcheck _⟩
  case scatter =>
    intro k p off s hheld hmark hcrc hplace hfirst hnew hcheck
    exact ⟨_, rfl, tableGuard_of_held hheld hmark hcrc hplace hfirst hnew hcheck _⟩
  case completion =>
    intro k h v s hturn hlink hrun hok hmore
    refine ⟨_, congrArg Host.Outcome.next (herdCplReceive_of_turn (herdTurn_of_true hturn) hlink hrun hok hmore), ?_⟩
    simp [Herd.completedAbove]
  case abortRequest =>
    intro k h v place s hmember hrelay hturn hstate hroot hmore
    have ht := memberTurn_of_true hturn
    have notSwapping : h.state = 1 → h.swap = none := fun hidle => by
      rcases hstate with hrun | ⟨-, hswap⟩
      · omega
      · exact hswap
    have asks : h.state = 2 ∧ h.finished = false ∨ h.state = 1 := hstate.imp (fun hrun => ⟨hrun, hmore hrun⟩) And.left
    have takes : herdAbortReceive .sw k s = (s.putHerd (herdIx k) h).requestAbort (herdIx k) ((herdPrefix k).pkt % 8) false := by
      simp [herdAbortReceive, State.herdAbortSw, hrelay, hmember, memberCheck_of_turn ht notSwapping, ht.crc]
    refine ⟨_, congrArg Host.Outcome.next takes, ?_⟩
    show Option.map _ _ = _
    rw [requestAbort_of_herd (putHerd_herd ..) hroot asks, putHerd_now]
    rfl
  case ackNoted =>
    intro k h v place s hmember hturn hstate hwait
    refine ⟨_, congrArg Host.Outcome.next (herdAckReceive_of_turn (memberTurn_of_true hturn) hmember hstate), ?_⟩
    have waits : (s.putHerd (herdIx k) (h.ack k.src)).allAcked (h.ack k.src) = false := (allAcked_putHerd ..).trans hwait
    simp only [State.checkAcked, putHerd_herd, waits, Bool.and_false, Bool.false_eq_true, if_false]
    rfl
  case ackLast =>
    intro k h v place s hmember hturn hstate hdecided hnone hall
    refine ⟨_, congrArg Host.Outcome.next (herdAckReceive_of_turn (memberTurn_of_true hturn) hmember hstate), ?_⟩
    have all : (s.putHerd (herdIx k) (h.ack k.src)).allAcked (h.ack k.src) = true := (allAcked_putHerd ..).trans hall
    have leaves : ((h.ack k.src).state == 3 && (h.ack k.src).decided.isSome) = true := by simp [Herd.ack, hstate, hdecided]
    simp only [State.checkAcked, putHerd_herd, leaves, all, Bool.and_self, if_true]
    exact leaveAborting_of_unawaited (h := h.ack k.src) (putHerd_herd ..) hnone
  case timer =>
    intro i h s hh hrun hlate hroot hmore
    have expires : herdTimerExpiry i s = s.herdCondition i rsTIMEOUT := by
      simp [herdTimerExpiry, hh, hrun, herdDue_of_running hh hrun hlate hmore]
    refine ⟨_, congrArg Host.Outcome.next expires, ?_⟩
    show Option.map _ _ = _
    rw [herdCondition_of_running hh hroot hrun hmore]
    rfl
  case aborting =>
    intro i h s hh hstate hlate hdecided hnone
    have leaves : abortingTimeout i s = s.leaveAborting i := by
      simp [abortingTimeout, hh, hstate, herdDue_of_aborting hh hstate hlate hdecided]
    exact ⟨_, congrArg Host.Outcome.next leaves, leaveAborting_of_unawaited hh hnone⟩

end Sys2Proof.Machine
end

section
/-! DESTROY of an IDLE herd (R186): which herd of its number is gone. -/

namespace Sys2Proof.Machine

@[simp] theorem hrdTouched_herd (s : State) (i : Nat) : s.hrdTouched.herd i = s.herd i :=
  congrArg (lookup · i) (hrdTouched_herds s)

/-- DESTROY of an IDLE herd, carried out, frees the herd and completes OK. -/
theorem herdDestroy_of_idle {s : State} {o : Origin} {i : Nat} {h : Herd} (hopen : s.hrdOpen o = true) (hh : s.herd (i % 4096) = some h)
    (hidle : h.state = 1) : herdDestroy o i s = ((s.hrdTouched.freeHerd (i % 4096)).hrdDone stOK 0).regDone .sw o.path stOK := by
  have touched : s.hrdTouched.herd (i % 4096) = some h := (hrdTouched_herd ..).trans hh
  rw [herdDestroy, writeBy_hrdCmd_of_open hopen]
  simp [State.destroyHerd, touched, hidle]

theorem freeHerd_herds {s : State} {i : Nat} {h : Herd} (hh : s.herd i = some h) :
    (s.freeHerd i).sw.hrd.herds = removeAt s.sw.hrd.herds i := by
  simp only [State.freeHerd, hh]
  rfl

/-- The herds after DESTROY of an IDLE herd: the first one listed under its number is gone. -/
theorem herdDestroy_herds_of_idle {s : State} {o : Origin} {i : Nat} {h : Herd} (hopen : s.hrdOpen o = true)
    (hh : s.herd (i % 4096) = some h) (hidle : h.state = 1) : (herdDestroy o i s).sw.hrd.herds = removeAt s.sw.hrd.herds (i % 4096) := by
  have touched : s.hrdTouched.herd (i % 4096) = some h := (hrdTouched_herd ..).trans hh
  rw [herdDestroy_of_idle hopen hh hidle, regDone_sw, hrdDone_herds, freeHerd_herds touched, hrdTouched_herds]

/-- On herds of the canonical form the herd is gone. -/
theorem herdDestroy_herd_of_rising {s : State} {o : Origin} {i : Nat} {h : Herd} (hopen : s.hrdOpen o = true)
    (hh : s.herd (i % 4096) = some h) (hidle : h.state = 1) (hform : rising s.sw.hrd.herds = true) :
    (herdDestroy o i s).herd (i % 4096) = none := by
  rw [State.herd, herdDestroy_herds_of_idle hopen hh hidle, lookup_removeAt _ _ _ hform, if_pos rfl]

/-- Reset with core 1 running and an IDLE herd listed twice under number 6. -/
def twiceListed : State := (State.reset.put .sw MGT_CORE_STS_CORE 4).onHrd fun x => { x with herds := [(6, {}), (6, {})] }

/-- Refutes O21: its clause of DESTROY on an IDLE herd speaks of every list of herds. On one that lists number 6 twice, the herd freed is
the first of the two alone, and the second then shows. On herds of the canonical form the herd is gone (`herdDestroy_herd_of_rising`). -/
theorem not_herdStageRowsComplete : ¬ Obligations.HerdStageRowsComplete := by
  rintro ⟨-, -, -, destroyClause, -⟩
  have hopen : twiceListed.hrdOpen { path := .remote } = true := by decide
  obtain ⟨t, ht, gone, -⟩ := destroyClause { path := .remote } 6 {} twiceListed hopen rfl rfl
  have destroyed : herdDestroy { path := .remote } 6 twiceListed = t := Host.Outcome.next.inj ht
  have left : t.sw.hrd.herds = [(6, {})] := destroyed ▸ herdDestroy_herds_of_idle hopen rfl rfl
  rw [State.herd, left] at gone
  exact absurd gone (by decide)

end Sys2Proof.Machine
end

section
/-! The cells of the sync objects (R88, R197, R198, R213): what a release, an answer and a record leave of them. -/

namespace Sys2Proof.Machine

/-! ### What leaves the SYN page as it was -/

section
variable {r : Reg} {p : Part} (hr : r.comp p = .page p 0x21) (s : State) (b : Nat)
include hr

theorem reply_rd_syn (k : Packet) (st : Nat) (data : List Byte) (aux : Nat) : (s.reply p k st data aux).rd p r b = s.rd p r b := by
  cases p with
  | sw => exact rd_of_frame (State_reply_sw_frame s k st data aux) hr b 0 (by decide)
  | ep => exact rd_of_frame (State_reply_ep_frame s k st data aux) hr b 0 (by decide)

theorem keepOutcome_rd_syn (k : Packet) (st : Nat) (data : List Byte) (aux : Nat) :
    (s.keepOutcome p k st data aux).rd p r b = s.rd p r b := by
  cases p with
  | sw => exact rd_of_frame (State_keepOutcome_sw_frame s k st data aux) hr b 0 (by decide)
  | ep => exact rd_of_frame (State_keepOutcome_ep_frame s k st data aux) hr b 0 (by decide)

theorem outExpire_rd_syn (src tag : Nat) : (s.outExpire p src tag).rd p r b = s.rd p r b := by
  cases p with
  | sw => exact rd_of_frame (State_outExpire_sw_frame s src tag) hr b 0 (by decide)
  | ep => exact rd_of_frame (State_outExpire_ep_frame s src tag) hr b 0 (by decide)

theorem wake_rd_syn (idx : Nat) : (s.wake p idx).rd p r b = s.rd p r b := by
  cases p with
  | sw => exact rd_of_frame (State_wake_sw_frame s idx) hr b 0 (by decide)
  | ep => exact rd_of_frame (State_wake_ep_frame s idx) hr b 0 (by decide)

end

theorem value_comp (p : Part) : SYN_VALUE.comp p = .page p 0x21 := by
  simp [Reg.comp, regComp, Reg.key, SYN_VALUE]

theorem sts_comp (p : Part) : SYN_STS.comp p = .page p 0x21 := by
  simp [Reg.comp, regComp, Reg.key, SYN_STS]

theorem onSync_rd (s : State) (q : Part) (f : SyncSt → SyncSt) (p : Part) (r : Reg) (b i : Nat) :
    (s.onSync q f).rd p r b i = s.rd p r b i := by
  cases q <;> cases p <;> rfl

/-! ### A release (R88, R197) -/

theorem value_key_ne_sts (b : Nat) : SYN_VALUE.key b 0 ≠ SYN_STS.key b 0 := by
  simp [Reg.key, SYN_VALUE, SYN_STS]

/-- The record of a release stands beside the value. -/
theorem setRelease_value (s : State) (p : Part) (idx scope : Nat) (a : Agent) :
    (s.setRelease p idx scope a).synValue p idx = s.synValue p idx := by
  have rel (f : Fld) (v : Nat) (hf : f.reg = SYN_STS) (u : State) : (u.put p f v (synBank idx)).synValue p idx = u.synValue p idx := by
    simp [State.synValue, State.put, rd_wr, hf, value_key_ne_sts]
  simp only [State.setRelease, State.synValue, onSync_rd]
  exact (rel SYN_STS_REL_QUEUE _ rfl _).trans ((rel SYN_STS_REL_NODE _ rfl _).trans ((rel SYN_STS_REL_KIND _ rfl _).trans
    (rel SYN_STS_REL_SCOPE _ rfl _)))

/-- The record of a release stands beside the error state. -/
theorem setRelease_error (s : State) (p : Part) (idx scope : Nat) (a : Agent) :
    (s.setRelease p idx scope a).synError p idx = s.synError p idx := by
  have rel (f : Fld) (v : Nat) (hf : SYN_STS_ERROR.reg = f.reg) (hlo : 1 ≤ f.lo) (u : State) :
      (u.put p f v (synBank idx)).synError p idx = u.synError p idx := by
    rw [State.synError, State.flag, get_put_apart _ _ f SYN_STS_ERROR _ _ _ hf (.inl hlo)]
    rfl
  have sync (u : State) (f : SyncSt → SyncSt) : (u.onSync p f).synError p idx = u.synError p idx :=
    congrArg (· != 0) (get_congr (f := SYN_STS_ERROR) (onSync_rd ..))
  simp only [State.setRelease, sync, rel SYN_STS_REL_QUEUE _ rfl (by decide), rel SYN_STS_REL_NODE _ rfl (by decide),
    rel SYN_STS_REL_KIND _ rfl (by decide), rel SYN_STS_REL_SCOPE _ rfl (by decide)]

/-- A release sets the value. -/
theorem release_value (s : State) (p : Part) (idx : Nat) (v : Word) (scope : Nat) (a : Agent) :
    (s.release p idx v scope a).synValue p idx = v := by
  rw [State.release, State.synValue, wake_rd_syn (value_comp p)]
  exact (setRelease_value ..).trans (rd_wr_same ..)

/-- A release leaves the error state as it was. -/
theorem release_error (s : State) (p : Part) (idx : Nat) (v : Word) (scope : Nat) (a : Agent) :
    (s.release p idx v scope a).synError p idx = s.synError p idx := by
  have written : (s.wr p SYN_VALUE v (synBank idx)).synError p idx = s.synError p idx :=
    congrArg (· != 0) (get_congr (f := SYN_STS_ERROR) (by
      rw [rd_wr, if_neg fun h => value_key_ne_sts _ h.2.symm]))
  have woken (u : State) : (u.wake p idx).synError p idx = u.synError p idx :=
    congrArg (· != 0) (get_congr (f := SYN_STS_ERROR) (wake_rd_syn (sts_comp p) ..))
  rw [State.release, woken, setRelease_error, written]

/-! ### The error state is left (R198) -/

theorem synClearError_reason (s : State) (p : Part) (idx : Nat) : (s.synClearError p idx).synReason p idx = 0 :=
  get_put _ _ SYN_STS_REASON _ _ _ (by decide)

theorem synClearError_error (s : State) (p : Part) (idx : Nat) : (s.synClearError p idx).synError p idx = false := by
  rw [State.synError, State.flag, State.synClearError, get_put_apart _ _ SYN_STS_REASON SYN_STS_ERROR _ _ _ rfl (by decide),
    get_put _ _ SYN_STS_ERROR _ _ _ (by decide)]
  rfl

/-! ### The record of a request (R97, R265, R359) -/

/-- The state that a request which can be recorded finds: the late record of its source and tag is gone. -/
def State.expired (s : State) (p : Part) (k : Packet) : State := s.when (s.outcomeOf p k).isSome fun s => s.outExpire p k.src k.tag

theorem expired_rd_syn {r : Reg} {p : Part} (hr : r.comp p = .page p 0x21) (s : State) (k : Packet) (b : Nat) :
    (s.expired p k).rd p r b = s.rd p r b := by
  unfold State.expired State.when
  split
  · exact outExpire_rd_syn hr ..
  · rfl

theorem outExpire_outHold (s : State) (p : Part) (src tag : Nat) : (s.outExpire p src tag).outHold p = s.outHold p := by
  cases p with
  | sw =>
    simp only [State.outHold, State.outExpire, State.count]
    rw [get_put_reg _ _ CMB_OUT_HITS_EXPIRED CMB_OUT_HOLD_TICKS _ 0 0 0 0 (by decide)]
    rfl
  | ep =>
    simp only [State.outHold, State.outExpire, State.count]
    rw [get_put_reg _ _ DDP_HITS_EXPIRED DDP_CFG_HOLD _ 0 0 0 0 (by decide)]
    rfl

/-- No more records are held once one has expired. -/
theorem outExpire_outHeld_le (s : State) (p : Part) (src tag : Nat) :
    ((s.outExpire p src tag).outHeld p).length ≤ (s.outHeld p).length := by
  have left : (s.outExpire p src tag).outcomes p = (s.outcomes p).filter fun o => !(o.src == src && o.tag == tag) := by cases p <;> rfl
  have now : (s.outExpire p src tag).now p = s.now p := by cases p <;> rfl
  simp only [State.outHeld, State.outLate, State.due, left, now, outExpire_outHold]
  exact (List.filter_sublist.filter _).length_le

theorem outExpire_owedRecords (s : State) (p : Part) (src tag : Nat) : (s.outExpire p src tag).owedRecords p = s.owedRecords p := by
  cases p <;> rfl

section
variable {s : State} {p : Part} {k : Packet} (h : s.recordsOpen p k = true)
include h

/-- A request that can be recorded is performed: no record answers it. -/
theorem dedup_of_recordsOpen (f : State → State) : s.dedup p k f = f (s.expired p k) := by
  obtain ⟨late, -⟩ := Bool.and_eq_true_iff.1 h
  unfold State.dedup State.expired State.when
  cases hrec : s.outcomeOf p k with
  | none => rfl
  | some o =>
    have hlate : s.outLate p o = true := by simpa [hrec] using late
    simp [hlate]

/-- There is room for the record. -/
theorem room_of_recordsOpen (f : State → State) : (s.expired p k).room p k f = f (s.expired p k) := by
  obtain ⟨-, fits⟩ := Bool.and_eq_true_iff.1 h
  have room : ((s.expired p k).outHeld p).length + (s.expired p k).owedRecords p < outcomeCap p := by
    unfold State.expired State.when
    split
    · rw [outExpire_owedRecords]
      exact Nat.lt_of_le_of_lt (Nat.add_le_add_right (outExpire_outHeld_le ..) _) (of_decide_eq_true fits)
    · exact of_decide_eq_true fits
  rw [State.room, if_neg (Nat.not_le.2 room)]

end

end Sys2Proof.Machine
end

section
/-! Sync objects are updated, read, waited on and judged (R88, R197, R198, R213, R266, R354). -/

namespace Sys2Proof.Machine

/-! ### An update by another part (R197, R354) -/

/-- An update of a sync object passes what R97, R197 and R313 ask of it. -/
structure State.Updates (s : State) (p : Part) (k : Packet) : Prop where
  unmarked : k.mark = false
  crc : crcOk k = true
  owned : s.synOwned p (synIx k) k.ptn = true
  records : s.recordsOpen p k = true
  unbound : p = .sw → s.flag .sw SYN_CFG_HERD_BOUND (synBank (synIx k)) = false

theorem cfg_comp (p : Part) : SYN_CFG.comp p = .page p 0x21 := by
  simp [Reg.comp, regComp, Reg.key, SYN_CFG]

section
variable {s : State} {p : Part} {k : Packet}

/-- What a late record leaves behind is not on the SYN page. -/
theorem expired_get_syn {f : Fld} (hf : f.reg.comp p = .page p 0x21) (b : Nat) : (s.expired p k).get p f b = s.get p f b :=
  get_congr (expired_rd_syn hf s k b)

theorem expired_value (idx : Nat) : (s.expired p k).synValue p idx = s.synValue p idx := expired_rd_syn (value_comp p) s k _

theorem expired_error (idx : Nat) : (s.expired p k).synError p idx = s.synError p idx :=
  congrArg (· != 0) (expired_get_syn (f := SYN_STS_ERROR) (sts_comp p) _)

theorem expired_synOwned (idx ptn : Nat) : (s.expired p k).synOwned p idx ptn = s.synOwned p idx ptn := by
  simp only [State.synOwned, State.flag, expired_get_syn (f := SYN_CFG_ENABLE) (cfg_comp p),
    expired_get_syn (f := SYN_CFG_PARTITION) (cfg_comp p)]

/-- An update that passes is performed on the state in which a late record of its tag is gone. -/
theorem syncGuard_of_updates (h : s.Updates p k) (f : State → State) : s.syncGuard p k true f = f (s.expired p k) := by
  have owned : (s.expired p k).synOwned p (synIx k) k.ptn = true := (expired_synOwned ..).trans h.owned
  have unbound : (p == .sw && (s.expired p k).flag .sw SYN_CFG_HERD_BOUND (synBank (synIx k))) = false := by
    rw [Bool.and_eq_false_imp]
    intro hsw
    obtain rfl := eq_of_beq hsw
    exact (congrArg (· != 0) (expired_get_syn (f := SYN_CFG_HERD_BOUND) (cfg_comp .sw) _)).trans (h.unbound rfl)
  simp only [State.syncGuard, consume_of_unmarked h.unmarked, h.crc, dedup_of_recordsOpen h.records, owned, unbound, Bool.true_and,
    Bool.not_true, Bool.false_eq_true, if_false, if_true]

/-- An update performed at an object: the release, its record and its answer. -/
def State.performed (s : State) (p : Part) (k : Packet) (queue : Nat) (v : Word) : State :=
  ((s.release p (synIx k) v k.scope (agentOf k queue)).keepOutcome p k stOK [] 0).reply p k stOK

theorem performed_value (queue : Nat) (v : Word) : (s.performed p k queue v).synValue p (synIx k) = v := by
  rw [State.performed, State.synValue, reply_rd_syn (value_comp p), keepOutcome_rd_syn (value_comp p)]
  exact release_value ..

theorem performed_error (queue : Nat) (v : Word) : (s.performed p k queue v).synError p (synIx k) = s.synError p (synIx k) := by
  have kept : (s.performed p k queue v).rd p SYN_STS (synBank (synIx k))
      = (s.release p (synIx k) v k.scope (agentOf k queue)).rd p SYN_STS (synBank (synIx k)) :=
    (reply_rd_syn (sts_comp p) ..).trans (keepOutcome_rd_syn (sts_comp p) ..)
  exact (congrArg (· != 0) (get_congr (f := SYN_STS_ERROR) kept)).trans (release_error ..)

theorem syncUpdate_of_updates (h : s.Updates p k) (herror : s.synError p (synIx k) = false) (queue : Nat) (v : Word → Word) :
    s.syncUpdate p k queue v = (s.expired p k).performed p k queue (v (s.synValue p (synIx k))) := by
  simp only [State.syncUpdate, syncGuard_of_updates h, expired_error, herror, Bool.false_eq_true, if_false,
    room_of_recordsOpen h.records, expired_value]
  rfl

/-- ADD and SET give the object its new value. -/
theorem syncUpdate_value (h : s.Updates p k) (herror : s.synError p (synIx k) = false) (queue : Nat) (v : Word → Word) :
    (s.syncUpdate p k queue v).synValue p (synIx k) = v (s.synValue p (synIx k)) := by
  rw [syncUpdate_of_updates h herror, performed_value]

/-- SET_CLEAR as performed: on the object whose error state has been left. -/
def State.setCleared (s : State) (p : Part) (k : Packet) (queue : Nat) : State :=
  ((s.expired p k).synClearError p (synIx k)).performed p k queue (BitVec.ofNat 64 (natAt k.payload 0 8))

theorem syncSetClear_of_updates (h : s.Updates p k) (queue : Nat) :
    syncSetClear p queue k s = (s.setCleared p k queue).when (p == .ep) State.drive := by
  simp only [syncSetClear, syncGuard_of_updates h, room_of_recordsOpen h.records]
  rfl

theorem setCleared_value (queue : Nat) : (s.setCleared p k queue).synValue p (synIx k) = BitVec.ofNat 64 (natAt k.payload 0 8) :=
  performed_value ..

theorem setCleared_error (queue : Nat) : (s.setCleared p k queue).synError p (synIx k) = false :=
  (performed_error ..).trans (synClearError_error ..)

end

/-! ### Reads and waits (R88, R197, R266) -/

/-- A read or a wait passes what R197 and R313 ask of it. -/
theorem syncGuard_of_owned {s : State} {p : Part} {k : Packet} (hmark : k.mark = false) (hcrc : crcOk k = true)
    (howned : s.synOwned p (synIx k) k.ptn = true) (f : State → State) : s.syncGuard p k false f = f s := by
  simp [State.syncGuard, consume_of_unmarked hmark, hcrc, howned]

theorem onSync_waits (s : State) (p : Part) (f : SyncSt → SyncSt) : ((s.onSync p f).chip p).sync.waits = (f (s.chip p).sync).waits := by
  cases p <;> rfl

theorem reply_sync (s : State) (p : Part) (k : Packet) (st : Nat) (data : List Byte) (aux : Nat) :
    ((s.reply p k st data aux).chip p).sync = (s.chip p).sync := by
  cases p with
  | sw => exact sameIn_of_frame (State_reply_sw_frame s k st data aux) (.sync .sw) (by decide)
  | ep => exact sameIn_of_frame (State_reply_ep_frame s k st data aux) (.sync .ep) (by decide)

/-- A wait whose value is not reached is held while the part has room for it. -/
theorem syncWait_of_held {s : State} {p : Part} {k : Packet} (hmark : k.mark = false) (hcrc : crcOk k = true)
    (howned : s.synOwned p (synIx k) k.ptn = true) (herror : s.synError p (synIx k) = false)
    (hwait : reached (s.synValue p (synIx k)) (BitVec.ofNat 64 (natAt k.payload 0 8)) = false)
    (hroom : s.remoteWaits p < (if p = .sw then 4096 else 1024)) (queue : Nat) :
    syncWait p queue k s = s.onSync p fun y =>
      { y with waits := y.waits ++ [⟨synIx k, queue, BitVec.ofNat 64 (natAt k.payload 0 8), .remote k, s.now p⟩] } := by
  have room : ¬ (if p == .sw then 4096 else 1024) ≤ s.remoteWaits p := by simpa using hroom
  simp only [syncWait, syncGuard_of_owned hmark hcrc howned, herror, hwait, if_neg room, Bool.false_eq_true, if_false]

/-- The wait that its timeout finds is taken off those held. -/
theorem syncWaitTimeout_waits {s : State} {p : Part} {w : SyncWait} {k : Packet} (hw : w ∈ (s.chip p).sync.waits)
    (hwho : w.who = .remote k) (hlate : s.due p w.at_ (s.holdTmo p) = true) :
    ((syncWaitTimeout p k.src k.tag s).chip p).sync.waits.length = (s.chip p).sync.waits.length - 1 := by
  unfold syncWaitTimeout
  dsimp only
  split
  next found hfound =>
    have held := List.mem_of_find?_eq_some hfound
    split
    · rw [reply_sync, onSync_waits, List.length_erase_of_mem held]
    · rw [onSync_waits, List.length_erase_of_mem held]
  next hnone => simpa [hwho, hlate] using List.find?_eq_none.1 hnone w hw

/-! ### The host's release (R83, R213) -/

/-- A release by the host at an object that takes it, with none before it still waiting, is the only one to consider. -/
theorem hostAdd_of_empty {s : State} (henable : s.flag .sw SYN_CFG_ENABLE (synBank (s.synSel .sw)) = true)
    (herror : s.synError .sw (s.synSel .sw) = false) (hnone : s.sw.pool.adds = []) (v : Word) :
    s.hostAdd v = ((s.onPool fun q => { q with
      adds := [⟨s.synSel .sw, v, s.get .sw SYN_HOST_SCOPE_SCOPE, s.sw.pool.nextId⟩] }).hostAdds, true) := by
  simp [State.hostAdd, henable, herror, hnone, State.onPool]

section
variable {s : State} {a : HostAdd} (hadds : s.sw.pool.adds = [a])
include hadds

/-- It waits while the home holds an access of the host before it. -/
theorem hostAdds_of_before (hbefore : s.hostBefore a.before = true) : s.hostAdds = s := by
  have noneGoes : (s.sw.pool.adds.takeWhile fun x => !s.hostBefore x.before) = [] := by simp [hadds, hbefore]
  simp only [State.hostAdds, noneGoes]
  rfl

/-- It is performed once none stands before it. -/
theorem hostAdds_of_first (hbefore : s.hostBefore a.before = false) : s.hostAdds = (s.onPool fun q => { q with adds := [] }).doAdd a := by
  simp [State.hostAdds, hadds, hbefore, State.onPool]

end

/-- A release by the host at an object that takes it adds to the value. -/
theorem doAdd_value {s : State} {a : HostAdd} (henable : s.flag .sw SYN_CFG_ENABLE (synBank a.idx) = true)
    (herror : s.synError .sw a.idx = false) : (s.doAdd a).synValue .sw a.idx = s.synValue .sw a.idx + a.value := by
  simp only [State.doAdd, henable, herror, Bool.not_true, Bool.or_self, Bool.false_eq_true, if_false]
  exact release_value ..

/-- Settles O14: an update that passes its guard is one release and its record, a read and a wait do one thing each to the object, and the
host's own release is performed or left waiting by the accesses before it. -/
theorem syncRowsComplete : Obligations.SyncRowsComplete := by
  refine ⟨?swAdd, ?swSet, ?swSetClear, ?epAdd, ?epSet, ?epSetClear, ?read, ?wait, ?waitTimeout, ?acquire, ?addNow, ?addLater, ?errorClear⟩
  case swAdd =>
    intro queue k s hmark hcrc howned hrecords hunbound herror
    exact ⟨_, rfl, syncUpdate_value ⟨hmark, hcrc, howned, hrecords, fun _ => hunbound⟩ herror queue (· + BitVec.ofNat 64 (natAt k.payload 0 8))⟩
  case swSet =>
    intro queue k s hmark hcrc howned hrecords hunbound herror
    exact ⟨_, rfl, syncUpdate_value ⟨hmark, hcrc, howned, hrecords, fun _ => hunbound⟩ herror queue fun _ => BitVec.ofNat 64 (natAt k.payload 0 8)⟩
  case swSetClear =>
    intro queue k s hmark hcrc howned hrecords hunbound
    have sets := syncSetClear_of_updates ⟨hmark, hcrc, howned, hrecords, fun _ => hunbound⟩ queue
    exact ⟨s.setCleared .sw k queue, congrArg Host.Outcome.next sets, setCleared_value queue, setCleared_error queue⟩
  case epAdd =>
    intro queue k s hmark hcrc howned hrecords herror
    exact ⟨_, rfl, syncUpdate_value ⟨hmark, hcrc, howned, hrecords, nofun⟩ herror queue (· + BitVec.ofNat 64 (natAt k.payload 0 8))⟩
  case epSet =>
    intro queue k s hmark hcrc howned hrecords herror
    exact ⟨_, rfl, syncUpdate_value ⟨hmark, hcrc, howned, hrecords, nofun⟩ herror queue fun _ => BitVec.ofNat 64 (natAt k.payload 0 8)⟩
  case epSetClear =>
    intro queue k s hmark hcrc howned hrecords
    have sets := syncSetClear_of_updates ⟨hmark, hcrc, howned, hrecords, nofun⟩ queue
    exact ⟨s.setCleared .ep k queue, congrArg Host.Outcome.next sets, setCleared_value queue, setCleared_error queue⟩
  case read =>
    intro p queue k s hmark hcrc howned herror
    refine ⟨_, rfl, ?_⟩
    simp only [syncRead, syncGuard_of_owned hmark hcrc howned, herror, Bool.false_eq_true, if_false]
    rfl
  case wait =>
    intro p queue k s hmark hcrc howned herror hwait hroom
    exact ⟨_, congrArg Host.Outcome.next (syncWait_of_held hmark hcrc howned herror hwait hroom queue), onSync_waits ..⟩
  case waitTimeout =>
    rintro p _ _ w k s hw hwho rfl rfl hlate
    exact ⟨_, rfl, syncWaitTimeout_waits hw hwho hlate⟩
  case acquire =>
    intro path s hpath
    refine ⟨_, congrArg Host.Outcome.next (readBy_of_served hpath (by decide) _), ?_⟩
    exact List.mem_append_right _ (List.mem_singleton_self _)
  case addNow =>
    intro path v s hopen henable herror hnone hfirst
    refine ⟨_, congrArg Host.Outcome.next (writeBy_of_open hopen _), (regDone_rd ..).trans ?_⟩
    rw [hostAdd_of_empty henable herror hnone]
    show (State.hostAdds _).synValue .sw _ = _
    rw [hostAdds_of_first rfl hfirst]
    exact doAdd_value henable herror
  case addLater =>
    intro path v s hopen henable herror hnone hbefore
    have waits : s.hostAdd v = (s.onPool fun q => { q with
        adds := [⟨s.synSel .sw, v, s.get .sw SYN_HOST_SCOPE_SCOPE, s.sw.pool.nextId⟩] }, true) := by
      rw [hostAdd_of_empty henable herror hnone, hostAdds_of_before rfl hbefore]
    refine ⟨_, congrArg Host.Outcome.next (writeBy_of_open hopen _), ?_, (regDone_rd ..).trans ?_⟩
    · rw [regDone_pool, waits]
      rfl
    · rw [waits]
      exact onPool_rd s _ .sw SYN_VALUE _ 0
  case errorClear =>
    intro path p s hopen
    have kept (u : State) : (u.regDone p path stOK).rd p SYN_STS (synBank (s.synSel p)) = u.rd p SYN_STS (synBank (s.synSel p)) :=
      regDone_rd ..
    refine ⟨_, congrArg Host.Outcome.next (writeBy_of_open hopen _), ?_, ?_⟩
    · exact (congrArg (· != 0) (get_congr (f := SYN_STS_ERROR) (kept _))).trans (synClearError_error ..)
    · exact (get_congr (f := SYN_STS_REASON) (kept _)).trans (synClearError_reason ..)

end Sys2Proof.Machine
end

section
/-! What the settling of the home leaves of the services (R123 to R130, R206 to R209, R233): attachments change with the herds that abort, and nothing else of the services does. -/

namespace Sys2Proof.Machine

/-! ### The services without the attachments -/

/-- The watch on the services. -/
def ofServices (c : Comp) : Bool := c == .progs || c == .svc

/-- The services but for the attachments: programs, regions and the queue of their hashes, tables, stage. -/
def State.services (s : State) : Svc := { s.sw.svc with atts := [] }

theorem services_of_view {s t : State} (h : t.view ofServices = s.view ofServices) : t.services = s.services := by
  obtain ⟨progs, rest⟩ : some t.sw.svc.progs = some s.sw.svc.progs ∧ some t.sw.svc.rest = some s.sw.svc.rest :=
    Prod.mk.inj (congrArg (fun v => v.2.2.1.2.2.1) h)
  rw [State.services, State.services, svc_eq_of_rest (Option.some.inj progs) (Option.some.inj rest)]

@[simp] theorem onPool_services (s : State) (f : Pool → Pool) : (s.onPool f).services = s.services := rfl

@[simp] theorem onPool_ofServices (s : State) (f : Pool → Pool) : (s.onPool f).view ofServices = s.view ofServices := rfl

theorem foldl_services {α : Type} {f : State → α → State} (h : ∀ s a, (f s a).services = s.services) (l : List α) (s : State) :
    (l.foldl f s).services = s.services :=
  foldl_leaves State.services f h l s

theorem when_services {f : State → State} (h : ∀ s, (f s).services = s.services) (s : State) (c : Bool) :
    (s.when c f).services = s.services := by
  cases c
  · rfl
  · exact h s

/-! ### Herds abort (R136, R206 to R209) -/

theorem onAttach_services (s : State) (i : Nat) (f : Attach → Attach) : (s.onAttach i f).services = s.services := by
  cases h : lookup s.sw.svc.atts i <;> simp [State.onAttach, State.services, h]

theorem freeHerd_services (s : State) (i : Nat) : (s.freeHerd i).services = s.services := by
  unfold State.freeHerd
  split
  · simp [State.services]
  · rfl

theorem leaveAborting_services (s : State) (i : Nat) : (s.leaveAborting i).services = s.services := by
  unfold State.leaveAborting
  split
  · dsimp only
    rw [services_of_view (when_view _ _ _ ?completes), when_services fun s => freeHerd_services s i]
    · exact services_of_view (by simp +decide)
    case completes => split <;> simp +decide
  · rfl

theorem checkAcked_services (s : State) (i : Nat) : (s.checkAcked i).services = s.services := by
  unfold State.checkAcked
  repeat' split
  · exact leaveAborting_services ..
  all_goals rfl

theorem keepStores_services (s : State) (i : Nat) : (s.keepStores i).services = s.services := by
  unfold State.keepStores
  repeat' split
  · exact onAttach_services ..
  all_goals rfl

theorem decideHerd_services (s : State) (i reason : Nat) (fo : Bool) (via : Option Nat) :
    (s.decideHerd i reason fo via).services = s.services := by
  unfold State.decideHerd
  split
  · rw [checkAcked_services, ← keepStores_services s i]
    exact services_of_view (by simp +decide)
  · rfl

theorem herdCondition_services (s : State) (i reason : Nat) (path : Bool) : (s.herdCondition i reason path).services = s.services := by
  unfold State.herdCondition
  split
  · split
    · rfl
    · split
      · split
        · exact decideHerd_services ..
        · exact services_of_view (by simp +decide)
      · split
        · exact services_of_view (by simp +decide)
        · rfl
  · rfl

theorem abortHerds_services (s : State) (reason : Nat) (f : Nat → Herd → Bool) : (s.abortHerds reason f).services = s.services := by
  refine foldl_services (fun s e => ?_) _ s
  split
  · exact herdCondition_services ..
  · rfl

theorem revokeHerds_services (s : State) (p : Nat) : (s.revokeHerds p).services = s.services := by
  refine (abortHerds_services ..).trans (foldl_services (fun s e => ?_) _ s)
  split
  · exact onAttach_services ..
  · rfl

theorem startDrain_services (s : State) (p d : Nat) : (s.startDrain p d).services = s.services :=
  (revokeHerds_services ..).trans (by simp [State.services])

theorem stopPartition_services (s : State) (p cause : Nat) : (s.stopPartition p cause).services = s.services := by
  have told (u : State) : (u.event .sw pgPol .partitionStop p cause (rung := some 6)).services = u.services :=
    services_of_view (by simp +decide)
  unfold State.stopPartition
  dsimp only
  split
  · rfl
  · split
    · rw [startDrain_services, told]
    · exact told s

/-! ### Lines are lost, agents fenced, snoops sent (R123, R130, R131) -/

theorem overflowLost_services (s : State) (key : Nat) : (s.overflowLost key).services = s.services := by
  unfold State.overflowLost
  split
  · rfl
  · exact stopPartition_services ..

theorem markLost_services (s : State) (key cause slot : Nat) : (s.markLost key cause slot).services = s.services := by
  have dropped (u : State) : (u.count .sw DIR_OL_DROP_COUNT).services = u.services := services_of_view (by simp +decide)
  simp [State.markLost, State.queueReq, apply_ite State.services, overflowLost_services, dropped]

theorem dropSlot_services (s : State) (i cause : Nat) : (s.dropSlot i cause).services = s.services := by
  refine foldl_services (fun s e => ?_) _ s
  split
  · split
    · exact markLost_services ..
    · exact services_of_view (by simp +decide)
  · rfl

theorem fenceAgent_services (s : State) (i cause : Nat) : (s.fenceAgent i cause).services = s.services := by
  unfold State.fenceAgent
  split
  · rw [← dropSlot_services s i cause]
    exact services_of_view (by simp +decide)
  · rfl

theorem endRemoval_services (s : State) (i : Nat) : (s.endRemoval i).services = s.services := by
  rw [← dropSlot_services s i 5]
  exact services_of_view (by simp +decide [State.endRemoval])

theorem sendSnoop_services (s : State) (key slot : Nat) : (s.sendSnoop key slot).services = s.services := by
  unfold State.sendSnoop
  split
  · rfl
  · simp only [apply_ite State.services, fenceAgent_services]
    split
    · rfl
    · split
      · split
        · exact services_of_view (by simp +decide)
        · rfl
      · split
        · exact services_of_view (by simp +decide)
        · rfl

theorem sendSnoops_services (s : State) (key : Nat) : (s.sendSnoops key).services = s.services := by
  unfold State.sendSnoops
  split
  · exact foldl_services (fun s i => sendSnoop_services s key i) _ s
  · rfl

theorem recallLine_services (s : State) (key : Nat) (inv : Bool) (who : Nat) : (s.recallLine key inv who).services = s.services := by
  unfold State.recallLine
  split
  · dsimp only
    split
    · rfl
    · rw [sendSnoops_services]
      exact services_of_view (by simp +decide)
  · rfl

theorem wayFree_services (s : State) (r : PReq) (key : Nat) : (s.wayFree r key).1.services = s.services := by
  unfold State.wayFree
  repeat' split
  case h_2 =>
    rw [recallLine_services]
    exact services_of_view (by simp +decide)
  all_goals rfl

/-! ### Requests of the home are answered -/

theorem streamDone_services (s : State) (herd at_ n status : Nat) (data : List Byte) :
    (s.streamDone herd at_ n status data).services = s.services := by
  unfold State.streamDone
  dsimp only
  split
  · split
    · exact services_of_view (by simp +decide)
    · exact herdCondition_services ..
  · exact when_services (fun s => onAttach_services ..) ..

theorem answerMember_services (s : State) (r : PReq) (m : Member) (status : Nat) (data : List Byte) (aux : Nat) (uncached : Bool) :
    (s.answerMember r m status data aux uncached).services = s.services := by
  unfold State.answerMember
  split
  case h_1 => exact services_of_view (by dsimp only; split <;> simp +decide)
  case h_2 => exact services_of_view (by simp +decide)
  case h_3 => exact services_of_view (by simp +decide)
  case h_4 => exact streamDone_services ..
  case h_5 => rfl
  case h_6 =>
    split
    · rfl
    · exact overflowLost_services ..
  case h_7 slot ans _ =>
    have answered (u : State) : (u.poolAnswer m.pkt status [] 0 false).services = u.services := services_of_view (by simp +decide)
    simp only [apply_ite State.services, answered, markLost_services, ite_self]

theorem finishReq_services (s : State) (r : PReq) (res : List (Nat × List Byte × Nat)) (uncached : Bool) :
    (s.finishReq r res uncached).services = s.services :=
  foldl_services (fun _ _ => answerMember_services ..) _ (s.onPool _)

theorem failReq_services (s : State) (r : PReq) (status : Nat) : (s.failReq r status).services = s.services := finishReq_services ..

theorem finishOrWait_services (s : State) (r : PReq) (res : List (Nat × List Byte × Nat)) (uncached : Bool) :
    (s.finishOrWait r res uncached).services = s.services := by
  unfold State.finishOrWait
  repeat' split
  · exact finishReq_services ..
  all_goals rfl

theorem performReq_services (s : State) (r : PReq) (kind : PKind) (ps : List (Nat × Pres)) :
    (s.performReq r kind ps).services = s.services := by
  unfold State.performReq
  dsimp only
  repeat' split
  all_goals simp only [finishReq_services, failReq_services, finishOrWait_services]
  all_goals exact services_of_view (by simp +decide)

theorem placeAndPerform_services (s : State) (r : PReq) (kind : PKind) : (s.placeAndPerform r kind).services = s.services := by
  unfold State.placeAndPerform
  dsimp only
  split
  · rw [failReq_services]
    exact services_of_view (by simp +decide)
  · split
    · exact services_of_view (by simp +decide)
    · rw [performReq_services]
      exact services_of_view (by simp +decide)

theorem failLost_services (s : State) (r : PReq) : (s.failLost r).services = s.services :=
  (failReq_services ..).trans (services_of_view (by simp +decide))

theorem tryReq_services (s : State) (r : PReq) : (s.tryReq r).services = s.services := by
  have recalled (needs : List (Nat × Bool × Nat)) : (needs.foldl (fun s n => s.recallLine n.1 n.2.1 n.2.2) s).services = s.services :=
    foldl_services (fun _ _ => recallLine_services ..) needs s
  unfold State.tryReq
  dsimp only
  repeat' split
  all_goals simp [failReq_services, finishReq_services, placeAndPerform_services, failLost_services, wayFree_services, recalled]

/-! ### The settling -/

theorem sweep_services (s : State) : s.sweep.services = s.services := by
  refine foldl_services (fun s e => ?_) _ s
  split
  · dsimp only
    split
    · exact sendSnoops_services ..
    · split
      · rfl
      · exact recallLine_services ..
  · rfl

theorem endRemovals_services (s : State) : s.endRemovals.services = s.services := by
  refine foldl_services (fun s c => ?_) _ s
  repeat' split
  case isFalse.isTrue => exact endRemoval_services ..
  all_goals rfl

theorem pass_services (s : State) : s.pass.services = s.services := by
  refine foldl_services (fun s q => ?_) _ s
  repeat' split
  case isFalse => exact tryReq_services ..
  all_goals rfl

theorem settleN_services (n : Nat) (s : State) : (s.settleN n).services = s.services := by
  induction n generalizing s with
  | zero => rfl
  | succ n ih =>
    unfold State.settleN
    split
    · exact endRemovals_services s
    · rw [ih, endRemovals_services, pass_services, sweep_services]

theorem hostAdds_services (s : State) : s.hostAdds.services = s.services := services_of_view (by simp +decide)

/-! ### The hash engine (R233) -/

/-- What SEAL settles of a region: its partition and range, that its hash is to come, its context. -/
def Region.extent (r : Region) : Nat × Nat × Nat × Bool × Nat := (r.ptn, r.off, r.len, r.done, r.ctx)

theorem hashWake_extent (s : State) (g : Nat) :
    (lookup s.hashWake.sw.svc.regions g).map Region.extent = (lookup s.sw.svc.regions g).map Region.extent := by
  unfold State.hashWake
  split
  · rfl
  next head rest _ =>
    split
    next r hr =>
      split
      · rfl
      · by_cases e : g = head
        · simp [lookup_insertAt, e, hr, Region.extent]
        · simp [lookup_insertAt, e]
    · rfl

theorem regions_of_services {s t : State} (h : t.services = s.services) : t.sw.svc.regions = s.sw.svc.regions :=
  (congrArg Svc.regions h :)

theorem hashing_of_services {s t : State} (h : t.services = s.services) : t.sw.svc.hashing = s.sw.svc.hashing :=
  (congrArg Svc.hashing h :)

/-- Before the hash engine goes on, the settling of the home changes nothing of the services but attachments. -/
theorem settled_services (s : State) (n : Nat) : (s.settleN n).hostAdds.services = s.services :=
  (hostAdds_services _).trans (settleN_services ..)

theorem settle_extent (s : State) (g : Nat) :
    (lookup s.settle.sw.svc.regions g).map Region.extent = (lookup s.sw.svc.regions g).map Region.extent := by
  rw [State.settle, hashWake_extent, regions_of_services (settled_services ..)]

theorem settle_hashing (s : State) : s.settle.sw.svc.hashing = s.sw.svc.hashing :=
  (hashWake_hashing _).trans (hashing_of_services (settled_services ..))

end Sys2Proof.Machine
end

section
/-! The commands of the service stage (R225 to R239): what each does once it is carried out and its checks pass. -/

namespace Sys2Proof.Machine

/-! ### A touched stage reads as before -/

/-- What does not look at the claim of the service stage is as it was before the touch. -/
theorem svcTouched_reads {α : Type} (part : State → α) {s : State}
    (h : ∀ x, part (s.onSvc fun v => { v with stage := x }) = part s) : part s.svcTouched = part s := by
  unfold State.svcTouched State.when
  split
  · exact h _
  · rfl

section
variable (s : State)

@[simp] theorem svcTouched_powerHeld_eq : s.svcTouched.powerHeld = s.powerHeld := svcTouched_reads _ fun _ => rfl
@[simp] theorem svcTouched_stageWord (k : Nat) : s.svcTouched.stageWord k = s.stageWord k := svcTouched_rd ..
@[simp] theorem svcTouched_stagedImage : s.svcTouched.stagedImage = s.stagedImage := svcTouched_reads _ fun _ => rfl
@[simp] theorem svcTouched_stagedConsts : s.svcTouched.stagedConsts = s.stagedConsts := svcTouched_reads _ fun _ => rfl
@[simp] theorem svcTouched_stagedAttach : s.svcTouched.stagedAttach = s.stagedAttach := svcTouched_reads _ fun _ => rfl
@[simp] theorem svcTouched_ctxPtn (ctx : Nat) : s.svcTouched.ctxPtn ctx = s.ctxPtn ctx := svcTouched_reads (·.ctxPtn ctx) fun _ => rfl
@[simp] theorem svcTouched_ptnSize (p : Nat) : s.svcTouched.ptnSize p = s.ptnSize p := svcTouched_reads (·.ptnSize p) fun _ => rfl
@[simp] theorem svcTouched_mayUse (o : Origin) (p : Nat) : s.svcTouched.mayUse o p = s.mayUse o p := svcTouched_reads (·.mayUse o p) fun _ => rfl
@[simp] theorem svcTouched_herd (i : Nat) : s.svcTouched.herd i = s.herd i := svcTouched_reads (·.herd i) fun _ => rfl
@[simp] theorem svcTouched_attach (i : Nat) : s.svcTouched.attach i = s.attach i := svcTouched_reads (·.attach i) fun _ => rfl
@[simp] theorem svcTouched_attachCheck (i : Nat) (a : Attach) : s.svcTouched.attachCheck i a = s.attachCheck i a :=
  svcTouched_reads (·.attachCheck i a) fun _ => rfl
@[simp] theorem svcTouched_slotUsers (slot : Nat) : s.svcTouched.slotUsers slot = s.slotUsers slot := svcTouched_reads (·.slotUsers slot) fun _ => rfl
@[simp] theorem svcTouched_meetsRegion (p : Nat) (r : Nat × Nat) : s.svcTouched.meetsRegion p r = s.meetsRegion p r :=
  svcTouched_reads (·.meetsRegion p r) fun _ => rfl
@[simp] theorem svcTouched_meetsScatter (p : Nat) (r : Nat × Nat) : s.svcTouched.meetsScatter p r = s.meetsScatter p r :=
  svcTouched_reads (·.meetsScatter p r) fun _ => rfl
@[simp] theorem svcTouched_progs : s.svcTouched.sw.svc.progs = s.sw.svc.progs := svcTouched_reads (·.sw.svc.progs) fun _ => rfl
@[simp] theorem svcTouched_atts : s.svcTouched.sw.svc.atts = s.sw.svc.atts := svcTouched_reads (·.sw.svc.atts) fun _ => rfl
@[simp] theorem svcTouched_regions : s.svcTouched.sw.svc.regions = s.sw.svc.regions := svcTouched_reads (·.sw.svc.regions) fun _ => rfl
@[simp] theorem svcTouched_hashing : s.svcTouched.sw.svc.hashing = s.sw.svc.hashing := svcTouched_reads (·.sw.svc.hashing) fun _ => rfl
@[simp] theorem svcTouched_tables : s.svcTouched.sw.svc.tables = s.sw.svc.tables := svcTouched_reads (·.sw.svc.tables) fun _ => rfl

end

/-! ### Commands that pass their checks -/

/-- A command of the service stage has completed OK and has left the services `v`, the stage cleared. -/
structure State.SvcMade (v : Svc) (t : State) : Prop where
  status : t.get .sw SVC_CMD_STS_STATUS = stOK
  svc : t.sw.svc = { v with stage := {} }

/-- A command that is carried out and that completes OK from `u` leaves the services of `u`. -/
theorem svcMade_of_open {s u : State} {o : Origin} (hopen : s.svcOpen o = true) {f : State → State}
    (hf : f s.svcTouched = u.svcDone stOK 0) : State.SvcMade u.sw.svc (s.writeBy o.path .sw pgSvc 0x48 fun s => s.svcCmd o f) := by
  rw [writeBy_svcCmd_of_open hopen, hf]
  refine ⟨?status, ?svc⟩
  case status => exact (get_congr (regDone_rd ..)).trans (svcDone_status ..)
  case svc => rw [regDone_sw, svcDone_svc]

/-- The program that LOAD makes of the stage (R230). -/
def State.stagedProg (s : State) : Prog :=
  { image := s.stagedImage, ctx := getBits (s.stageWord 32) 0 10, digest := Config.sha3 ((s.stagedImage.map (leBytes 4)).flatten),
    ops := laneOpsOf s.stagedImage }

/-- The region that SEAL makes of the stage (R232). -/
def State.stagedRegion (s : State) (o : Origin) : Region :=
  { ptn := getBits (s.stageWord 0) 0 6, off := getBits (s.stageWord 1) 0 40, len := getBits (s.stageWord 2) 0 41, done := false, ctx := o.ctx }

/-- The table that TABLE_SET makes of the stage (R235). -/
def State.stagedTable (s : State) : Table :=
  { ptn := getBits (s.stageWord 0) 0 6, base := getBits (s.stageWord 1) 0 40, fmt := getBits (s.stageWord 0) 6 2,
    gather := (s.stageWord 0).getLsbD 8, scatter := (s.stageWord 0).getLsbD 9, units := getBits (s.stageWord 0) 10 8,
    rows := getBits (s.stageWord 2) 0 32 }

/-- The state in which a region that SEAL takes is queued for its hash, and the lines of it held in X are recalled (R233). -/
def State.sealQueued (s : State) (g : Nat) (r : Region) : State :=
  let t := s.onSvc fun v => { v with regions := insertAt v.regions g r, hashing := v.hashing ++ [g] }
  (t.sw.pool.dir.filter fun e => e.2.excl && e.2.recalling.isNone && r.has e.1).foldl (fun s e => s.recallLine e.1 false e.2.sharers) t

theorem sealQueued_services (s : State) (g : Nat) (r : Region) :
    (s.sealQueued g r).services
      = (s.onSvc fun v => { v with regions := insertAt v.regions g r, hashing := v.hashing ++ [g] }).services :=
  foldl_services (fun _ _ => recallLine_services ..) _ _

section
variable {s : State} {o : Origin}

theorem loadProgram_of_free {slot : Nat} (hheld : s.powerHeld = false) (hfree : lookup s.sw.svc.progs slot = none)
    (hctx : (s.ctxPtn (getBits (s.stageWord 32) 0 10)).isSome = true) (himage : firstBad s.stagedImage = none) :
    s.loadProgram slot = ((s.onSvc fun v => { v with progs := insertAt v.progs slot s.stagedProg }).attested .sw 5).svcDone stOK 0 := by
  have bound : (s.ctxPtn (getBits (s.stageWord 32) 0 10)).isNone = false := by simpa using hctx
  simp [State.loadProgram, hheld, hfree, bound, himage, State.stagedProg]

theorem unloadProgram_of_unused {slot : Nat} (hunused : s.slotUsers slot = 0) :
    s.unloadProgram slot = ((s.onSvc fun v => { v with progs := removeAt v.progs slot }).attested .sw 5).svcDone stOK 0 := by
  simp [State.unloadProgram, hunused]

theorem attachHerd_of_checked {i : Nat} (hcheck : s.attachCheck i s.stagedAttach = (stOK, 0)) :
    s.attachHerd i = (s.onSvc fun v => { v with atts := insertAt v.atts i s.stagedAttach }).svcDone stOK 0 := by
  simp [State.attachHerd, hcheck]

theorem detachHerd_of_idle {i : Nat} (hidle : (s.herd i).any (fun h => h.state != 1) = false) :
    s.detachHerd i = (s.onSvc fun v => { v with atts := removeAt v.atts i }).svcDone stOK 0 := by
  rw [State.detachHerd, hidle]
  rfl

theorem stageConsts_of_attached {i : Nat} {a : Attach} (hheld : s.powerHeld = false) (ha : s.attach i = some a) :
    s.stageConsts i = (s.onAttach i fun a => { a with staged := some (getBits (s.stageWord 25) 0 32, s.stagedConsts) }).svcDone stOK 0 := by
  simp [State.stageConsts, hheld, ha]

theorem sealRegion_of_clear {g : Nat} (hheld : s.powerHeld = false) (hg : g < 64) (hoff : (s.stagedRegion o).off % 2 ^ 21 = 0)
    (hlen : (s.stagedRegion o).len % 2 ^ 21 = 0) (hpos : (s.stagedRegion o).len ≠ 0) (hfree : lookup s.sw.svc.regions g = none)
    (hsize : (s.stagedRegion o).off + (s.stagedRegion o).len ≤ s.ptnSize (s.stagedRegion o).ptn)
    (huse : s.mayUse o (s.stagedRegion o).ptn = true) (hatts : s.sw.svc.atts = [])
    (hregion : s.meetsRegion (s.stagedRegion o).ptn ((s.stagedRegion o).off, (s.stagedRegion o).len) = false)
    (hscatter : s.meetsScatter (s.stagedRegion o).ptn ((s.stagedRegion o).off, (s.stagedRegion o).len) = false) :
    s.sealRegion o g = (s.sealQueued g (s.stagedRegion o)).settle.svcDone stOK 0 := by
  have number : decide (63 < g) = false := decide_eq_false (by omega)
  have nonempty := beq_false_of_ne hpos
  simp only [State.stagedRegion] at hoff hlen nonempty hsize huse hregion hscatter
  simp only [State.sealRegion, hheld, number, hoff, hlen, nonempty, hfree, Nat.not_lt.2 hsize, huse, hatts, hregion, hscatter, bne_self_eq_false,
    Bool.or_self, Bool.not_true, Option.isSome_none, List.any_nil, Bool.false_eq_true, if_false]
  rfl

theorem unsealRegion_of_sealed {g : Nat} (hsealed : (lookup s.sw.svc.regions g).any (·.done) = true)
    (hfree : s.sw.svc.atts.any (fun e => e.2.region && e.2.slot == g) = false) :
    s.unsealRegion g = ((s.onSvc fun v => { v with regions := removeAt v.regions g }).attested .sw 6).svcDone stOK 0 := by
  simp only [State.unsealRegion, hsealed, hfree, Bool.not_false, Bool.and_self, if_true]

theorem setTable_of_clear {t : Nat} (hheld : s.powerHeld = false) (hfree : lookup s.sw.svc.tables t = none)
    (hbase : s.stagedTable.base % 128 = 0)
    (hsize : s.stagedTable.base + s.stagedTable.rows * s.stagedTable.rowBytes ≤ s.ptnSize s.stagedTable.ptn)
    (huse : s.mayUse o s.stagedTable.ptn = true)
    (hregion : s.stagedTable.scatter = true →
      s.meetsRegion s.stagedTable.ptn (s.stagedTable.base, s.stagedTable.rows * s.stagedTable.rowBytes) = false) :
    s.setTable o t = (s.onSvc fun v => { v with tables := insertAt v.tables t s.stagedTable }).svcDone stOK 0 := by
  have apart := Bool.and_eq_false_imp.2 hregion
  simp only [State.stagedTable] at hbase hsize huse apart
  simp only [State.setTable, hheld, hfree, hbase, Nat.not_lt.2 hsize, huse, apart, bne_self_eq_false, Bool.not_true, Option.isSome_none,
    Bool.false_eq_true, if_false]
  rfl

end

/-- Settles O22: a command that is carried out and passes its checks completes OK and leaves the services with what it makes or removes; of
SEAL, the recalls and the settling of the home that follow leave the region and the queue of the hash engine. -/
theorem serviceStageRowsComplete : Obligations.ServiceStageRowsComplete := by
  refine ⟨?load, ?unload, ?attach, ?detach, ?const, ?sealing, ?unsealing, ?tableSet, ?tableClr⟩
  case load =>
    intro o slot s hopen hheld hfree hctx himage
    have made := svcMade_of_open (f := fun s => s.loadProgram (slot % 256)) hopen (by apply loadProgram_of_free <;> simpa)
    refine ⟨_, rfl, ?_, made.status⟩
    rw [svcLoad, made.svc]
    simp [lookup_insertAt, State.stagedProg]
  case unload =>
    intro o slot s hopen hunused
    have made := svcMade_of_open (f := fun s => s.unloadProgram (slot % 256)) hopen (unloadProgram_of_unused (by simpa))
    exact ⟨_, rfl, (congrArg Svc.progs made.svc).trans (by simp), made.status⟩
  case attach =>
    intro o i s hopen hcheck
    have made := svcMade_of_open (f := fun s => s.attachHerd (i % 4096)) hopen (attachHerd_of_checked (by simpa))
    refine ⟨_, rfl, ?_, made.status⟩
    rw [svcAttach, State.attach, made.svc]
    simp [lookup_insertAt]
  case detach =>
    intro o i s hopen hidle
    have made := svcMade_of_open (f := fun s => s.detachHerd (i % 4096)) hopen (detachHerd_of_idle (by simpa using hidle))
    exact ⟨_, rfl, (congrArg Svc.atts made.svc).trans (by simp), made.status⟩
  case const =>
    intro o i a s hopen hheld ha
    have made := svcMade_of_open (f := fun s => s.stageConsts (i % 4096)) hopen (stageConsts_of_attached (a := a) (by simpa) (by simpa))
    refine ⟨_, rfl, ?_, made.status⟩
    rw [State.attach] at ha
    rw [svcConst, State.attach, made.svc]
    simp [State.onAttach, ha, lookup_insertAt]
  case sealing =>
    intro o g s hopen hheld hg hoff hlen hpos hfree hsize huse hatts hregion hscatter
    have made := svcMade_of_open (f := fun s => s.sealRegion o (g % 256)) hopen
      (by apply sealRegion_of_clear <;> simpa [State.stagedRegion])
    refine ⟨_, rfl, ?region, ?queue⟩
    case region =>
      rw [svcSeal, made.svc]
      refine (settle_extent _ _).trans ?_
      rw [regions_of_services (sealQueued_services ..)]
      simp [lookup_insertAt, Region.extent, State.stagedRegion]
    case queue =>
      rw [svcSeal, made.svc]
      refine (settle_hashing _).trans ((hashing_of_services (sealQueued_services ..)).trans ?_)
      simp
  case unsealing =>
    intro o g s hopen hsealed hfree
    have made := svcMade_of_open (f := fun s => s.unsealRegion (g % 256)) hopen
      (unsealRegion_of_sealed (by simpa using hsealed) (by simpa using hfree))
    exact ⟨_, rfl, (congrArg Svc.regions made.svc).trans (by simp), made.status⟩
  case tableSet =>
    intro o t s hopen hheld hfree hbase hsize huse hregion
    have made := svcMade_of_open (f := fun s => s.setTable o (t % 256)) hopen
      (by apply setTable_of_clear <;> simpa [State.stagedTable])
    refine ⟨_, rfl, ?_, made.status⟩
    rw [svcTableSet, made.svc]
    simp [lookup_insertAt, State.stagedTable]
  case tableClr =>
    intro o t s hopen
    have made := svcMade_of_open (f := fun s => s.clearTable (t % 256)) hopen rfl
    exact ⟨_, rfl, (congrArg Svc.tables made.svc).trans (by simp)⟩

end Sys2Proof.Machine
end

section
/-! The queues of the switch (R243, R248, R273): what an operation of the fabric leaves of them, and what arrival and credit make of them. -/

namespace Sys2Proof.Machine

/-! ### What leaves the queues as they were -/

theorem core_of_frame {s t : State} {l : List Comp} (hf : ∀ {wt}, Off wt l → t.view wt = s.view wt)
    (hcore : l.all (fun d => !d.meets .core) = true) : t.sw.core = s.sw.core :=
  sameIn_of_frame hf .core hcore

@[simp] theorem count_sw (s : State) (p : Part) (f : Fld) (n b i : Nat) : (s.count p f n b i).sw = s.sw := put_sw ..

@[simp] theorem peak_sw (s : State) (p : Part) (f : Fld) (n b i : Nat) : (s.peak p f n b i).sw = s.sw := put_sw ..

@[simp] theorem owe_sw (s : State) (p : Part) (n : Nat) (k : Packet) : (s.owe p n k).sw = s.sw := onPort_sw ..

@[simp] theorem unreserve_sw (s : State) (q : QEntry) : (s.unreserve q).sw = s.sw := by
  unfold State.unreserve
  split
  · unfold State.when
    split
    · exact onPort_sw ..
    · rfl
  · rfl

theorem onPort_rd (s : State) (p q : Part) (n : Nat) (f : Port → Port) (r : Reg) (b i : Nat) : (s.onPort p n f).rd q r b i = s.rd q r b i := by
  simp [State.rd]

theorem onCore_rd (s : State) (f : SwCore → SwCore) (p : Part) (r : Reg) (b i : Nat) : (s.onCore f).rd p r b i = s.rd p r b i := by
  cases p <;> rfl

/-- A counter reads one more after it has counted, and holds at all ones. -/
theorem get_count (s : State) (p : Part) (f : Fld) (n b i : Nat) (h : f.lo + f.w ≤ 64) :
    (s.count p f n b i).get p f b i = min (s.get p f b i + n) (2 ^ f.w - 1) := by
  have room := Nat.two_pow_pos f.w
  rw [State.count, get_put _ _ _ _ _ _ h, Nat.mod_eq_of_lt (by omega)]

/-! ### A packet is queued -/

/-- The entry that a packet takes in a queue. -/
def State.newEntry (s : State) (origin : Option Nat) (e : Egress) (k : Packet) (group : Option Nat) (waits : Bool) (inner : Nat) : QEntry :=
  { id := s.sw.core.nextId, origin := origin, egress := e, pkt := k, cells := cellsOf k.payload.length, reserved := false,
    at_ := s.swc.ltc.toNat, group := group, waitsJoin := waits, inner := inner }

theorem enqueue_core (s : State) (origin : Option Nat) (e : Egress) (k : Packet) (group : Option Nat) (waits : Bool) (inner : Nat) :
    (s.enqueue origin e k group waits inner).sw.core =
      { s.sw.core with queue := s.sw.core.queue ++ [s.newEntry origin e k group waits inner], nextId := s.sw.core.nextId + 1 } := by
  cases origin <;> cases e <;> simp [State.enqueue, State.newEntry]

/-- A packet that the switch sends is queued last, or discarded. -/
theorem swSend_cases (s : State) (k : Packet) (inner : Nat) (group : Option Nat) :
    s.swSend k inner group = s.count .sw RTE_DISC_NO_ROUTE ∨
      ∃ n, s.swSend k inner group = s.enqueue none (.fabric n) k group false inner := by
  unfold State.swSend
  split
  · exact .inl rfl
  next n _ =>
    split
    · exact .inr ⟨n, rfl⟩
    · exact .inl rfl

theorem swSend_of_active {s : State} {k : Packet} {n : Nat} (hroute : s.egressOf k.dst = some n) (hport : s.portState n = 2) (inner : Nat)
    (group : Option Nat) : s.swSend k inner group = s.enqueue none (.fabric n) k group false inner := by
  simp [State.swSend, hroute, State.portTakes, hport]

/-- What a discard does to the queues: the packets are gone, and their cells with them. -/
theorem dropQueued_core (s : State) (f : QEntry → Bool) :
    ∃ mids reseq, (s.dropQueued f).sw.core =
      { s.sw.core with queue := s.sw.core.queue.filter fun q => !f q, mids := mids, reseq := reseq } := by
  unfold State.dropQueued
  extract_lets l s1 gone sift
  have kept : s1.sw = s.sw := by
    refine foldl_leaves State.sw _ (fun s q => ?_) l s
    dsimp only
    split
    · cases q.waiting <;> simp
    · simp
  exact ⟨_, _, congrArg (fun w : SwState =>
    ({ w.core with queue := w.core.queue.filter fun q => !f q, mids := sift w.core.mids, reseq := sift w.core.reseq } : SwCore)) kept⟩

theorem dropQueued_queue (s : State) (f : QEntry → Bool) : (s.dropQueued f).sw.core.queue = s.sw.core.queue.filter fun q => !f q := by
  obtain ⟨_, _, h⟩ := dropQueued_core s f
  rw [h]

/-! ### Arrival (R273) -/

theorem onHerd_core (s : State) (i : Nat) (f : Herd → Herd) : (s.onHerd i f).sw.core = s.sw.core :=
  core_of_frame (State_onHerd_frame s i f) (by decide)

theorem sinkFor_core (s : State) (k : Packet) : (s.sinkFor k).2.sw.core = s.sw.core := by
  unfold State.sinkFor
  split
  · dsimp only
    split
    · rfl
    · exact onHerd_core ..
  · rfl

/-- A packet of TC0 to TC5 for an internal sink, no power marking in force, is queued as it came (R254 to R257, R483). -/
theorem judgeAndQueue_of_inner {s : State} {k : Packet} (htc : k.tc < 6) (hpower : s.sw.core.powerMark = 0) (n p : Nat) :
    s.judgeAndQueue n (.inner p) k = s.enqueue (some n) (.inner p) k := by
  have lossless : ¬ 6 ≤ k.tc := by omega
  simp [State.judgeAndQueue, hpower, lossless]

theorem switchPacketArrival_of_forSwitch {s : State} {n : Nat} {k : Packet} (hport : s.portState n = 2) (hfor : s.forSwitch k = true) :
    switchPacketArrival n k s = (s.sinkFor k).2.judgeAndQueue n (.inner (s.sinkFor k).1) k := by
  simp [switchPacketArrival, hport, hfor]

theorem switchPacketArrival_of_uturn {s : State} {n : Nat} {k : Packet} (hport : s.portState n = 2) (hfor : s.forSwitch k = false)
    (hvalid : (addrSwitch k).any (fun sid => !swIdValid sid) = false) (hback : s.egressOf k.dst = some n) :
    switchPacketArrival n k s = s.discardAt n k RTE_DISC_UTURN := by
  simp [switchPacketArrival, hport, hfor, hvalid, hback]

/-! ### Credit (R248, R260) -/

theorem reserve_queue (s : State) (q : QEntry) :
    (s.reserve q).sw.core.queue = s.sw.core.queue.map fun x => if x.id == q.id then { x with reserved := true } else x := by
  unfold State.reserve
  split <;> simp

theorem creditReserve_of_room {s : State} {id : Nat} {q : QEntry} (hq : s.queued id = some q) (hfree : q.reserved = false)
    (hjoined : q.waitsJoin = false) (hcredit : s.hasCredit q = true) (hroom : s.residueRoom q = true) :
    creditReserve id s = s.reserve q := by
  simp [creditReserve, hq, hfree, hjoined, hcredit, hroom]

theorem mcastCopySend_of_room {s : State} {id : Nat} {q : QEntry} (hq : s.queued id = some q) (hcopy : q.group.isSome = true)
    (hjoined : q.waitsJoin = false) (hfree : q.reserved = false) (hcredit : s.hasCredit q = true) (hroom : s.residueRoom q = true) :
    mcastCopySend id s = s.reserve q := by
  obtain ⟨g, hg⟩ := Option.isSome_iff_exists.1 hcopy
  simp [mcastCopySend, hq, hg, hjoined, hfree, hcredit, hroom]

end Sys2Proof.Machine
end

section
/-! Departure (R249, R259): a packet that starts on its link, or goes whole into its sink. -/

namespace Sys2Proof.Machine

/-! ### What a link sends is added to what has been sent -/

theorem wire_out (s : State) (p : Part) (n : Nat) (f : List Byte) : s.out ⊆ (s.wire p n f).out := by
  unfold State.wire
  cases s.mute p n <;> simp

theorem sendFlit_out (s : State) (p : Part) (n type start : Nat) (payload : List Byte) : s.out ⊆ (s.sendFlit p n type start payload).out := by
  unfold State.sendFlit
  refine List.Subset.trans (fun o sent => ?_) (wire_out ..)
  cases (s.port p n).sealing <;> simpa using sent

theorem closeGroup_out (s : State) (p : Part) (n : Nat) : s.out ⊆ (s.closeGroup p n).out := by
  unfold State.closeGroup
  dsimp only
  split
  · exact List.Subset.refl _
  · exact sendFlit_out ..

theorem sendGrouped_out (s : State) (p : Part) (n type start : Nat) (payload : List Byte) :
    s.out ⊆ (s.sendGrouped p n type start payload).out := by
  unfold State.sendGrouped
  dsimp only
  split
  · exact List.Subset.trans (sendFlit_out ..) (closeGroup_out ..)
  · exact sendFlit_out ..

theorem flushCtl_out (fuel : Nat) (p : Part) (n : Nat) (s : State) : s.out ⊆ (State.flushCtl fuel p n s).out := by
  induction fuel generalizing s with
  | zero => exact List.Subset.refl _
  | succ fuel ih =>
    unfold State.flushCtl
    split
    · exact List.Subset.refl _
    · split
      · exact fun o sent => ih _ (sendGrouped_out _ _ _ _ _ _ ((onPort_out s p n _).symm ▸ sent))
      · exact List.Subset.refl _

theorem feed_out (fuel : Nat) (p : Part) (n : Nat) (s : State) : s.out ⊆ (State.feed fuel p n s).out := by
  induction fuel generalizing s with
  | zero => exact List.Subset.refl _
  | succ fuel ih =>
    unfold State.feed
    dsimp only
    split
    · exact List.Subset.refl _
    · split
      · exact List.Subset.refl _
      · exact fun o sent => ih _ (sendGrouped_out _ _ _ _ _ _ ((onPort_out s p n _).symm ▸ sent))

/-- A link of the switch sends the packet in progress and no other. -/
theorem pump_sw (fuel n : Nat) (s : State) : State.pump (fuel + 1) .sw n s = s.feed ((s.port .sw n).cur.length) .sw n := by
  simp [State.pump]

theorem pumpAll_sw_out (s : State) (n : Nat) : s.out ⊆ (s.pumpAll .sw n).out := by
  rw [State.pumpAll, pump_sw]
  exact List.Subset.trans (flushCtl_out ..) (feed_out ..)

theorem pumpAll_sw_core (s : State) (n : Nat) : (s.pumpAll .sw n).sw.core = s.sw.core :=
  core_of_frame (State_pumpAll_sw_frame s n) (by decide)

/-! ### A packet starts or leaves -/

/-- What the start of a packet on a link does to the queues: the chooser has gone on, and the packet has left or is marked begun. -/
def SwCore.started (c : SwCore) (n : Nat) (q : QEntry) (d : Sched) : SwCore :=
  { c with outs := insertAt c.outs n d,
           queue := if q.rel == q.cells then c.queue.filter fun x => x.id != q.id
             else c.queue.map fun x => if x.id == q.id then { x with begun := true } else x }

theorem started_begun (c : SwCore) (n : Nat) (q : QEntry) (d : Sched) :
    (c.started n q d).queue.all (fun x => x.id != q.id || x.begun) = true := by
  rw [List.all_eq_true]
  intro x hx
  simp only [SwCore.started] at hx
  split at hx
  · simp [(List.mem_filter.1 hx).2]
  · obtain ⟨y, -, rfl⟩ := List.mem_map.1 hx
    by_cases hid : y.id = q.id <;> simp [hid]

theorem startOnLink_core (s : State) (n : Nat) (q : QEntry) (d : Sched) :
    (s.startOnLink n q d).sw.core = (s.liveAdd n q.pkt.tc 8 q.cells).sw.core.started n q d := by
  refine (pumpAll_sw_core _ n).trans ?_
  rw [State.loadPacket, onPort_sw, emit_sw_core, onCore_sw_core]
  cases q.pkt.op == opCGT_MAP && q.origin.isNone
  · rfl
  · rw [when_true, count_sw]
    rfl

theorem startOnLink_sent (s : State) (n : Nat) (q : QEntry) (d : Sched) : Out.packet .sw n q.pkt ∈ (s.startOnLink n q d).out := by
  refine pumpAll_sw_out _ n ?_
  rw [State.loadPacket, onPort_out, emit_out]
  exact List.mem_append_right _ (List.mem_singleton_self _)

/-- What the start of a packet on a link comes to. -/
def State.StartedOn (t : State) (m : Nat) (q : QEntry) (d : Sched) : Prop :=
  Out.packet .sw m q.pkt ∈ t.out ∧ t.sw.core.queue.all (fun x => x.id != q.id || x.begun) = true ∧ lookup t.sw.core.outs m = some d

theorem depart_startedOn {s : State} {q : QEntry} {m : Nat} {d : Sched} (hstart : (s.startable m).any (fun x => x.id == q.id) = true)
    (hpick : s.egressPick m q = some d) (hlink : q.egress = .fabric m) : (s.depart q).StartedOn m q d := by
  have start : s.depart q = s.startOnLink m q d := by simp only [State.depart, hlink, hstart, hpick, if_true]
  rw [start]
  refine ⟨startOnLink_sent s m q d, ?_, ?_⟩
  · rw [startOnLink_core]
    exact started_begun ..
  · rw [startOnLink_core]
    simp [SwCore.started, lookup_insertAt]

theorem depart_of_inner {s : State} {q : QEntry} {m : Nat} (hwhole : q.rel = q.cells) (hsink : q.egress = .inner m) :
    s.depart q = (s.onCore fun c => { c with queue := c.queue.filter fun x => x.id != q.id }).emit (.toSink m q.pkt) := by
  simp [State.depart, hsink, hwhole]

theorem egressPacketStart_of_queued {s : State} {id : Nat} {q : QEntry} (hq : s.queued id = some q) : egressPacketStart id s = s.depart q := by
  simp [egressPacketStart, hq]

theorem mcastCopySend_of_reserved {s : State} {id : Nat} {q : QEntry} (hq : s.queued id = some q) (hcopy : q.group.isSome = true)
    (hjoined : q.waitsJoin = false) (hreserved : q.reserved = true) : mcastCopySend id s = s.depart q := by
  obtain ⟨g, hg⟩ := Option.isSome_iff_exists.1 hcopy
  simp [mcastCopySend, hq, hg, hjoined, hreserved]

end Sys2Proof.Machine
end

section
/-! What is lost in the switch: residue of multicast packets (R260), uncorrectable cells (R253), and the fences of the middle stage (R269). -/

namespace Sys2Proof.Machine

/-! ### Lossy residue (R260) -/

/-- Residue of a multicast packet of TC6 or TC7 that has waited 1,750 ticks without a cell crossing. -/
def State.oldResidue (s : State) (group : Nat) (q : QEntry) : Bool :=
  q.group == some group && 6 ≤ q.pkt.tc && q.sent == 0 && s.due .sw q.at_ 1750

/-- The congestion maps told of each packet that is to be discarded (R289). -/
def State.residueNoted (s : State) (l : List QEntry) : State := l.foldl (fun s q => s.noteMarked q.egress q.pkt.tc) s

/-- With residue or without, what is old leaves the queue that the notes to the congestion maps have left. -/
theorem lossyResidueExpiry_queue (group : Nat) (s : State) :
    (lossyResidueExpiry group s).sw.core.queue =
      (s.residueNoted (s.sw.core.queue.filter (s.oldResidue group))).sw.core.queue.filter fun q => !s.oldResidue group q := by
  unfold lossyResidueExpiry
  dsimp only
  split
  next none_old =>
    have young : ∀ q ∈ s.sw.core.queue, ¬ s.oldResidue group q = true := List.filter_eq_nil_iff.1 none_old
    have rest : s.sw.core.queue.filter (s.oldResidue group) = [] := none_old
    rw [rest]
    exact (List.filter_eq_self.2 fun q hq => by simp [young q hq]).symm
  next =>
    rw [count_sw, dropQueued_queue]
    rfl

theorem noteMarked_of_disabled {s : State} (h : s.flag .sw CGT_CTL_ENABLE = false) (e : Egress) (tc : Nat) : s.noteMarked e tc = s := by
  cases e <;> simp [State.noteMarked, h]

theorem residueNoted_of_disabled {s : State} (h : s.flag .sw CGT_CTL_ENABLE = false) (l : List QEntry) : s.residueNoted l = s := by
  induction l with
  | nil => rfl
  | cons q l ih => rwa [State.residueNoted, List.foldl_cons, noteMarked_of_disabled h]

/-! ### Uncorrectable cells (R253) -/

/-- An uncorrectable cell of a packet that has not started: it is counted, and the packet leaves its queue. -/
def State.cellLost (s : State) (id : Nat) : State := (s.count .sw XBR_ECC_UE).dropQueued fun x => x.id == id

theorem cellLost_queue (s : State) (id : Nat) : (s.cellLost id).sw.core.queue = s.sw.core.queue.filter fun x => !(x.id == id) := by
  rw [State.cellLost, dropQueued_queue, count_sw]

theorem cellLost_count (s : State) (id : Nat) :
    (s.cellLost id).get .sw XBR_ECC_UE = min (s.get .sw XBR_ECC_UE + 1) (2 ^ XBR_ECC_UE.w - 1) := by
  have counter : (s.cellLost id).rd .sw XBR_ECC = (s.count .sw XBR_ECC_UE).rd .sw XBR_ECC :=
    rd_of_frame (State_dropQueued_frame _ _) (page_comp XBR_ECC .sw (by decide)) 0 0 (by decide)
  exact (get_congr (f := XBR_ECC_UE) counter).trans (get_count _ _ _ _ _ _ (by decide))

theorem sramUncorrectable_of_lossy {s : State} {id : Nat} {q : QEntry} (hq : s.queued id = some q) (hwaits : q.begun = false)
    (htc : 6 ≤ q.pkt.tc) (structure_ : Nat) : sramUncorrectable structure_ id none s = s.cellLost id := by
  have lossy : ¬ q.pkt.tc < 6 := by omega
  simp [sramUncorrectable, hq, hwaits, lossy, State.cellLost]

/-- The loss of a packet of TC0 to TC5 is recorded (R253, R472). -/
def State.lossRecorded (s : State) (structure_ : Nat) (k : Packet) : State :=
  s.event .sw pgXbr .sramUe structure_ (k.src + k.tag * 2 ^ 17)

/-- A request of an endpoint whose cell is uncorrectable is answered INTEGRITY. -/
theorem sramUncorrectable_of_request {s : State} {id : Nat} {q : QEntry} (hq : s.queued id = some q) (hwaits : q.begun = false)
    (htc : q.pkt.tc < 6) (hherd : isHerdOp q.pkt.op = false) (hasked : isAsked q.pkt.op = true) (structure_ : Nat) :
    sramUncorrectable structure_ id none s = ((s.cellLost id).lossRecorded structure_ q.pkt).swAnswer q.pkt stINTEGRITY := by
  simp [sramUncorrectable, hq, hwaits, htc, hherd, hasked, State.cellLost, State.lossRecorded]

/-- The loss and its record leave the registers of the straps, the layout and the routes as they were. -/
theorem lossRecorded_rd {r : Reg} (hr : r.comp .sw = .page .sw 0 ∨ r.comp .sw = .page .sw 0x3 ∨ r.comp .sw = .page .sw 0x14) (s : State)
    (id structure_ : Nat) (k : Packet) (b i : Nat) : ((s.cellLost id).lossRecorded structure_ k).rd .sw r b i = s.rd .sw r b i := by
  have frame {wt : Comp → Bool} (hoff : Off wt [.hdr .sw, .page .sw 0x5, .page .sw 0xb, .page .sw 0x10, .log .sw, .ports .sw, .core, .sent]) :
      ((s.cellLost id).lossRecorded structure_ k).view wt = s.view wt := by
    simp at hoff
    simp [State.lossRecorded, State.cellLost, hoff]
  obtain hr | hr | hr := hr <;> exact rd_of_frame frame hr b i (by decide)

theorem egressOf_congr {s t : State} (straps : t.rd .sw RST_STRAPS = s.rd .sw RST_STRAPS) (layout : t.rd .sw GLB_LAYOUT = s.rd .sw GLB_LAYOUT)
    (routes : ∀ b, t.rd .sw RTE_ROUTE b = s.rd .sw RTE_ROUTE b) : t.egressOf = s.egressOf := by
  funext dst
  have axis : t.swAxisNo = s.swAxisNo := get_congr (f := RST_STRAPS_ROLE) straps
  have split4 : t.x4 = s.x4 := congrArg (· != 0) (get_congr (f := GLB_LAYOUT_ACTIVE_X4) layout)
  have valid (b : Nat) : t.flag .sw RTE_ROUTE_VALID b = s.flag .sw RTE_ROUTE_VALID b :=
    congrArg (· != 0) (get_congr (f := RTE_ROUTE_VALID) (routes b))
  have port (b : Nat) : t.get .sw RTE_ROUTE_PORT b = s.get .sw RTE_ROUTE_PORT b := get_congr (f := RTE_ROUTE_PORT) (routes b)
  rw [State.egressOf, State.egressOf, axis, split4, valid, port]

theorem switchId_congr {s t : State} (straps : t.rd .sw RST_STRAPS = s.rd .sw RST_STRAPS)
    (group : t.rd .sw GLB_SWITCH_GROUP = s.rd .sw GLB_SWITCH_GROUP) : t.switchId = s.switchId := by
  have role : t.get .sw RST_STRAPS_ROLE = s.get .sw RST_STRAPS_ROLE := get_congr straps
  have plane : t.get .sw RST_STRAPS_PLANE_SEL = s.get .sw RST_STRAPS_PLANE_SEL := get_congr straps
  have active : t.get .sw GLB_SWITCH_GROUP_ACTIVE = s.get .sw GLB_SWITCH_GROUP_ACTIVE := get_congr group
  rw [State.switchId, State.switchId, role, plane, active]

/-- After the loss and its record, the answer to an endpoint leaves by the route and the port that stood before. -/
theorem lossRecorded_swAnswer {s : State} {k : Packet} {m : Nat} (hsrc : k.srcSw = false) (hroute : s.egressOf k.src = some m)
    (hport : s.portState m = 2) (id structure_ status : Nat) :
    ((s.cellLost id).lossRecorded structure_ k).swAnswer k status =
      ((s.cellLost id).lossRecorded structure_ k).enqueue none (.fabric m) (answer true s.switchId k status) none false (sinkOf k 0) := by
  have rd {r : Reg} (hr) := @lossRecorded_rd r hr s id structure_ k
  have straps := rd (r := RST_STRAPS) (by simp) 0 0
  have ident : ((s.cellLost id).lossRecorded structure_ k).switchId = s.switchId :=
    switchId_congr straps (rd (r := GLB_SWITCH_GROUP) (by simp) 0 0)
  have route : ((s.cellLost id).lossRecorded structure_ k).egressOf = s.egressOf :=
    egressOf_congr straps (rd (r := GLB_LAYOUT) (by simp) 0 0)
      fun b => rd (r := RTE_ROUTE) (.inr (.inr (page_comp RTE_ROUTE .sw (by decide)))) b 0
  have port : ((s.cellLost id).lossRecorded structure_ k).portState m = s.portState m :=
    get_congr (f := RTE_PORT_STS_STATE) (rd (r := RTE_PORT_STS) (by simp) (m + 1) 0)
  have dst : (answer true s.switchId k status).dst = k.src := by simp [answer, sealPkt, hsrc]
  rw [State.swAnswer, hsrc, if_neg Bool.false_ne_true, ident]
  exact swSend_of_active (by rw [dst, route, hroute]) (port.trans hport) _ _

/-! ### The fences of the middle stage (R269) -/

theorem fenceMid_rd (s : State) {b : Nat} (h : b < 64) : (s.fenceMid b).rd .sw XBR_MID_FENCE0 = setBits (s.rd .sw XBR_MID_FENCE0) b 1 1 := by
  have apart : XBR_MID_FENCE0.key 0 0 ≠ XBR_STS.key 0 0 := by decide
  simp [State.fenceMid, h, State.put, rd_wr, apart, XBR_STS_MID_FENCED, Nat.mod_eq_of_lt h]

theorem fenceMid_bit (s : State) {b : Nat} (h : b < 64) (j : Nat) :
    ((s.fenceMid b).rd .sw XBR_MID_FENCE0).getLsbD j = ((s.rd .sw XBR_MID_FENCE0).getLsbD j || j == b) := by
  rw [fenceMid_rd s h, setBits_getLsbD]
  by_cases hj : j = b
  · simp [hj, h]
  · rw [if_neg (by omega)]
    by_cases wide : j < 64
    · simp [hj, wide]
    · simp [hj, wide, BitVec.getLsbD_of_ge _ _ (Nat.le_of_not_lt wide)]

/-- The step of a write to MID_FENCE0 for one buffer: it is fenced when the word has its bit. -/
def State.fencedBy (v : Word) (s : State) (i : Nat) : State := if v.getLsbD i then s.fenceMid i else s

theorem fencedBy_bit (v : Word) (s : State) {i : Nat} (h : i < 64) (j : Nat) :
    ((s.fencedBy v i).rd .sw XBR_MID_FENCE0).getLsbD j = ((s.rd .sw XBR_MID_FENCE0).getLsbD j || (j == i && v.getLsbD i)) := by
  unfold State.fencedBy
  split
  next hv => rw [fenceMid_bit s h, hv, Bool.and_true]
  next hv => rw [eq_false_of_ne_true hv, Bool.and_false, Bool.or_false]

/-- The steps for a list of buffers set the bits of these that the word has, and no other. -/
theorem foldl_fencedBy_bit (v : Word) {l : List Nat} (hl : ∀ i ∈ l, i < 64) (s : State) (j : Nat) :
    ((l.foldl (State.fencedBy v) s).rd .sw XBR_MID_FENCE0).getLsbD j =
      ((s.rd .sw XBR_MID_FENCE0).getLsbD j || (l.contains j && v.getLsbD j)) := by
  induction l generalizing s with
  | nil => simp
  | cons i l ih =>
    rw [List.foldl_cons, ih fun a ha => hl a (List.mem_cons_of_mem _ ha), fencedBy_bit v s (hl i (List.mem_cons_self ..)), List.contains_cons]
    by_cases hj : j = i
    · subst hj
      cases v.getLsbD j <;> simp
    · simp [beq_eq_false_iff_ne.2 hj]

theorem setMidFence_rd (s : State) (v : Word) : (s.setMidFence false v).rd .sw XBR_MID_FENCE0 = s.rd .sw XBR_MID_FENCE0 ||| v := by
  have steps : s.setMidFence false v = (upTo 64).foldl (State.fencedBy v) s := rfl
  refine BitVec.eq_of_getLsbD_eq fun j hj => ?_
  rw [steps, foldl_fencedBy_bit v (l := upTo 64) (fun i hi => List.mem_range.1 hi)]
  simp [upTo, hj]

theorem midFenceSet_rd {s : State} {path : Path} (hopen : s.writeOpen path .sw pgXbr 0x48 = true) (v : Word) :
    (midFenceSet path false v s).rd .sw XBR_MID_FENCE0 = s.rd .sw XBR_MID_FENCE0 ||| v := by
  rw [midFenceSet, if_neg (by decide), writeBy_of_open hopen, regDone_rd, setMidFence_rd]

end Sys2Proof.Machine
end

section
/-! The moving averages of the backlogs (R255) and the congestion notices (R258). -/

namespace Sys2Proof.Machine

/-! ### What an average rests on -/

/-- What the averages of R255 rest on: the averages themselves, the queued packets that came in by a port, and the weight. -/
structure Averaging where
  avgs : SMap Dyad
  arrived : List QEntry
  weight : Nat

/-- What the averages of a state rest on. -/
def State.averaging (s : State) : Averaging :=
  ⟨s.sw.core.avgs, s.sw.core.queue.filter (·.origin.isSome), s.get .sw BUF_RED_CFG_WEIGHT⟩

/-- The backlog B of an egress and a class (R255). -/
def Averaging.backlog (a : Averaging) (e : Egress) (tc : Nat) : Nat :=
  ((a.arrived.filter fun q => q.waiting && q.egress == e && q.pkt.tc == tc).map (·.cells)).sum

theorem averaging_backlog (s : State) (e : Egress) (tc : Nat) : s.averaging.backlog e tc = s.backlog e tc := by
  simp only [Averaging.backlog, State.averaging, State.backlog, List.filter_filter]
  congr 3
  funext q
  cases q.origin.isSome <;> simp

theorem averaging_congr {s t : State} (hcore : t.sw.core = s.sw.core) (hrd : t.rd .sw BUF_RED_CFG = s.rd .sw BUF_RED_CFG) :
    t.averaging = s.averaging := by
  simp only [State.averaging, hcore, get_congr (f := BUF_RED_CFG_WEIGHT) hrd]

/-- Registers of different pages have different keys. -/
theorem key_ne_of_page {r r' : Reg} (h : r.page % 4096 ≠ r'.page % 4096) (b i b' i' : Nat) : r.key b i ≠ r'.key b' i' := by
  simp only [Reg.key]
  omega

theorem wr_averaging {r : Reg} (h : r.page % 4096 ≠ 0x11) (s : State) (x : Word) (b i : Nat) : (s.wr .sw r x b i).averaging = s.averaging :=
  averaging_congr (by rw [wr_sw]) ((rd_wr ..).trans (if_neg fun e => key_ne_of_page (Ne.symm h) _ _ _ _ e.2))

theorem put_averaging {f : Fld} (h : f.reg.page % 4096 ≠ 0x11) (s : State) (v b i : Nat) : (s.put .sw f v b i).averaging = s.averaging :=
  wr_averaging h ..

theorem count_averaging {f : Fld} (h : f.reg.page % 4096 ≠ 0x11) (s : State) (n b i : Nat) : (s.count .sw f n b i).averaging = s.averaging :=
  put_averaging h ..

theorem addWrap_averaging {f : Fld} (h : f.reg.page % 4096 ≠ 0x11) (s : State) (n b i : Nat) :
    (s.addWrap .sw f n b i).averaging = s.averaging :=
  put_averaging h ..

theorem when_averaging {f : State → State} (h : ∀ s, (f s).averaging = s.averaging) (s : State) (c : Bool) :
    (s.when c f).averaging = s.averaging := by
  cases c
  · rfl
  · exact h s

theorem onCore_averaging {f : SwCore → SwCore} (havgs : ∀ c, (f c).avgs = c.avgs) (hqueue : ∀ c, (f c).queue = c.queue) (s : State) :
    (s.onCore f).averaging = s.averaging := by
  simp only [State.averaging, onCore_sw_core, havgs, hqueue, get_congr (f := BUF_RED_CFG_WEIGHT) (onCore_rd s f .sw BUF_RED_CFG 0 0)]

theorem enqueue_averaging (s : State) (n : Nat) (k : Packet) (group : Option Nat) (inner : Nat) :
    (s.enqueue none (.fabric n) k group false inner).averaging = s.averaging := by
  have apart (b : Nat) : BUF_RED_CFG.key 0 0 ≠ BUF_OCC.key b 0 := by
    simp only [Reg.key, BUF_RED_CFG, BUF_OCC]
    omega
  have cfg : (s.enqueue none (.fabric n) k group false inner).rd .sw BUF_RED_CFG = s.rd .sw BUF_RED_CFG := by
    simp only [State.enqueue, State.peak, State.put, rd_wr, BUF_OCC_PEAK, apart, onCore_rd, and_false, if_false]
  simp [State.averaging, enqueue_core, get_congr (f := BUF_RED_CFG_WEIGHT) cfg, State.newEntry]

theorem swSend_averaging (s : State) (k : Packet) (inner : Nat) (group : Option Nat) : (s.swSend k inner group).averaging = s.averaging := by
  obtain h | ⟨n, h⟩ := swSend_cases s k inner group
  · rw [h, count_averaging (by decide)]
  · rw [h, enqueue_averaging]

/-- To discard packets of the switch's own leaves the averages what they rest on. -/
theorem dropQueued_averaging {f : QEntry → Bool} (hown : ∀ q, f q = true → q.origin = none) (s : State) :
    (s.dropQueued f).averaging = s.averaging := by
  have cfg : (s.dropQueued f).rd .sw BUF_RED_CFG = s.rd .sw BUF_RED_CFG :=
    rd_of_frame (State_dropQueued_frame s f) (BUF_RED_CFG_comp .sw) 0 0 (by decide)
  obtain ⟨_, _, hcore⟩ := dropQueued_core s f
  have arrived : (s.sw.core.queue.filter fun q => !f q).filter (·.origin.isSome) = s.sw.core.queue.filter (·.origin.isSome) := by
    rw [List.filter_filter]
    refine List.filter_congr fun q _ => ?_
    cases hf : f q
    · simp
    · simp [hown q hf]
  simp only [State.averaging, hcore, arrived, get_congr (f := BUF_RED_CFG_WEIGHT) cfg]

/-! ### The telemetry window -/

/-- The readable bank filled from a window that closes (R288, R289). -/
theorem telemetryWindowClose_averaging (s : State) : (telemetryWindowClose s).averaging = s.averaging := by
  unfold telemetryWindowClose
  extract_lets c len ports s1 s2 word s3 num s4 s5 old s6 dst pl
  have frame {wt : Comp → Bool} (hoff : Off wt [.page .sw 0x12]) : s1.view wt = s.view wt := by
    simp at hoff
    exact dropBank_view _ (by simp [hoff])
  have h1 : s1.averaging = s.averaging := averaging_congr rfl (rd_of_frame frame (BUF_RED_CFG_comp .sw) 0 0 (by decide))
  have h2 : s2.averaging = s1.averaging := by
    refine foldl_leaves State.averaging _ (fun s e => ?_) _ s1
    dsimp only
    split
    · exact put_averaging (by decide) ..
    · split <;> exact put_averaging (by decide) ..
  have h3 : s3.averaging = s2.averaging :=
    foldl_leaves State.averaging _ (fun s tc => foldl_leaves State.averaging _ (fun s k => wr_averaging (by rw [word_page]; decide) ..) _ s) _ s2
  have h4 : s4.averaging = s3.averaging := by
    simp only [s4, put_averaging (f := CGT_WIN_NUM_OPEN_TICK) (by decide), addWrap_averaging (f := CGT_WIN_NUM_NUM) (by decide)]
  have h5 : s5.averaging = s4.averaging := by
    refine onCore_averaging ?_ ?_ s4 <;> exact fun _ => rfl
  have h6 : s6.averaging = s5.averaging :=
    when_averaging (fun s => (count_averaging (by decide) ..).trans (dropQueued_averaging (fun q hq => by simp [old] at hq; exact hq.1.2) s)) _ _
  clear_value pl s6 s5 s4 s3 s2
  split
  · rfl
  · rw [← h1, ← h2, ← h3, ← h4, ← h5]
    split
    · rw [swSend_averaging, h6]
    · rfl

theorem teleRollN_averaging (fuel : Nat) (s : State) : (s.teleRollN fuel).averaging = s.averaging := by
  induction fuel generalizing s with
  | zero => rfl
  | succ fuel ih =>
    unfold State.teleRollN
    split
    · rw [ih, telemetryWindowClose_averaging]
    · rfl

theorem liveAdd_averaging (s : State) (n tc ix k : Nat) : (s.liveAdd n tc ix k).averaging = s.averaging := by
  unfold State.liveAdd
  refine when_averaging (fun s => ?_) s _
  refine (onCore_averaging ?_ ?_ _).trans (teleRollN_averaging _ s)
  · exact fun _ => rfl
  · exact fun _ => rfl

/-! ### One tick of the averages (R255) -/

/-- The average after a tick with some backlog. -/
def Averaging.next (a : Averaging) (n tc : Nat) : Dyad :=
  let old := (lookup a.avgs (n * 8 + tc)).getD {}
  ⟨old.num * (2 ^ a.weight - 1) + a.backlog (.fabric n) tc * 2 ^ old.exp, old.exp + a.weight⟩

theorem lookup_removeAt_of_ne {α : Type} (m : SMap α) {k q : Nat} (h : q ≠ k) : lookup (removeAt m k) q = lookup m q := by
  induction m with
  | nil => rfl
  | cons e r ih =>
    obtain ⟨a, v⟩ := e
    by_cases ha : k = a
    · subst ha; simp [removeAt, lookup, h]
    · simp [removeAt, lookup, ha, ih]

/-- The averages after a tick with this egress and class in it. -/
def Averaging.ticked (a : Averaging) (n tc : Nat) : SMap Dyad :=
  let new := if ((lookup a.avgs (n * 8 + tc)).getD {}).num == 0 && a.backlog (.fabric n) tc == 0 then {} else a.next n tc
  if new.num == 0 then removeAt a.avgs (n * 8 + tc) else insertAt a.avgs (n * 8 + tc) new

theorem backlogTick_averaging (s : State) (n tc : Nat) :
    (s.backlogTick n tc).averaging = { s.averaging with avgs := s.averaging.ticked n tc } := by
  unfold State.backlogTick
  extract_lets b a w a' s1 s2 held stalled free
  have h1 : s1.averaging = { s.averaging with avgs := s.averaging.ticked n tc } := by
    rw [Averaging.ticked, Averaging.next, averaging_backlog]
    rfl
  have h2 : s2.averaging = s1.averaging := (when_averaging (f := State.drawn) (fun _ => rfl) ..).trans (liveAdd_averaging ..)
  split
  · rw [when_averaging fun s => liveAdd_averaging .., h2, h1]
  · exact h1

/-- A tick of one egress and class leaves the average of every other as it was. -/
theorem ticked_other (a : Averaging) {n tc key : Nat} (h : key ≠ n * 8 + tc) : lookup (a.ticked n tc) key = lookup a.avgs key := by
  unfold Averaging.ticked
  extract_lets new
  split
  · exact lookup_removeAt_of_ne _ h
  · rw [lookup_insertAt, if_neg h]

/-- With some backlog the average goes on. -/
theorem ticked_same {a : Averaging} {n tc : Nat} (h : 0 < a.backlog (.fabric n) tc) :
    lookup (a.ticked n tc) (n * 8 + tc) = some (a.next n tc) := by
  have positive : 0 < (a.next n tc).num := Nat.lt_of_lt_of_le (Nat.mul_pos h (Nat.two_pow_pos _)) (Nat.le_add_left ..)
  unfold Averaging.ticked
  simp [lookup_insertAt, Nat.pos_iff_ne_zero.1 h, Nat.pos_iff_ne_zero.1 positive]

/-! ### One tick of all averages (R255) -/

/-- What every step of a fold over a list leaves as it was, the fold does. -/
theorem foldl_leaves_of_mem {α β : Type} {part : State → β} {f : State → α → State} {l : List α}
    (h : ∀ s, ∀ a ∈ l, part (f s a) = part s) (s : State) : part (l.foldl f s) = part s := by
  induction l generalizing s with
  | nil => rfl
  | cons a l ih => rw [List.foldl_cons, ih fun s b hb => h s b (List.mem_cons_of_mem _ hb), h s a (List.mem_cons_self ..)]

/-- A fold over a list without repeats, of whose steps that of `a` alone changes something, changes it as that step does. -/
theorem foldl_changes_once {α β : Type} {part : State → β} {f : State → α → State} {l : List α} {a : α} {v w : β}
    (hl : l.Nodup) (ha : a ∈ l) (hat : ∀ s, part s = v → part (f s a) = w) (hother : ∀ s, ∀ b ∈ l, b ≠ a → part (f s b) = part s) (s : State) (hs : part s = v) :
    part (l.foldl f s) = w := by
  obtain ⟨before, after, rfl⟩ := List.append_of_mem ha
  obtain ⟨-, tail, apart⟩ := List.nodup_append.1 hl
  obtain ⟨fresh, -⟩ := List.nodup_cons.1 tail
  rw [List.foldl_append, List.foldl_cons,
    foldl_leaves_of_mem fun s b hb => hother s b (List.mem_append_right _ (List.mem_cons_of_mem _ hb)) fun e => fresh (e ▸ hb)]
  refine hat _ ((foldl_leaves_of_mem (fun s b hb => hother s b (List.mem_append_left _ hb) ?_) s).trans hs)
  exact apart b hb a (List.mem_cons_self ..)

/-- What the average of one egress and class rests on. -/
def State.averageAt (s : State) (n tc : Nat) : Option Dyad × List QEntry × Nat :=
  (lookup s.averaging.avgs (n * 8 + tc), s.averaging.arrived, s.averaging.weight)

theorem backlogTick_averageAt_other (s : State) {n tc n' tc' : Nat} (h : n * 8 + tc ≠ n' * 8 + tc') :
    (s.backlogTick n' tc').averageAt n tc = s.averageAt n tc := by
  simp only [State.averageAt, backlogTick_averaging, ticked_other _ h]

theorem next_congr {s t : State} {n tc : Nat} (h : t.averageAt n tc = s.averageAt n tc) : t.averaging.next n tc = s.averaging.next n tc := by
  obtain ⟨avg, arrived, weight⟩ : _ ∧ _ ∧ _ := by simpa [State.averageAt] using h
  simp only [Averaging.next, Averaging.backlog, avg, arrived, weight]

/-- What the average of an egress and class rests on, once it has gone on from what it rested on in a state. -/
def State.averageNext (s : State) (n tc : Nat) : Option Dyad × List QEntry × Nat :=
  (some (s.averaging.next n tc), s.averaging.arrived, s.averaging.weight)

theorem backlogTick_averageAt_same {s t : State} {n tc : Nat} (hbacklog : 0 < s.averaging.backlog (.fabric n) tc)
    (h : t.averageAt n tc = s.averageAt n tc) : (t.backlogTick n tc).averageAt n tc = s.averageNext n tc := by
  obtain ⟨-, arrived, weight⟩ : _ ∧ _ ∧ _ := by simpa [State.averageAt] using h
  have backlog : 0 < t.averaging.backlog (.fabric n) tc := by rwa [Averaging.backlog, arrived]
  rw [State.averageAt, backlogTick_averaging, ticked_same backlog, next_congr h, arrived, weight]
  rfl

/-- The tick of the eight classes of one egress. -/
def State.portTick (s : State) (n : Nat) : State := (upTo 8).foldl (fun s tc => s.backlogTick n tc) s

theorem portTick_averageAt_other (s : State) {n tc n' : Nat} (htc : tc < 8) (h : n' ≠ n) :
    (s.portTick n').averageAt n tc = s.averageAt n tc :=
  foldl_leaves_of_mem (part := (·.averageAt n tc))
    (fun s tc' htc' => backlogTick_averageAt_other s (by have := List.mem_range.1 htc'; omega)) s

theorem portTick_averageAt_same {s t : State} {n tc : Nat} (htc : tc < 8) (hbacklog : 0 < s.averaging.backlog (.fabric n) tc)
    (h : t.averageAt n tc = s.averageAt n tc) : (t.portTick n).averageAt n tc = s.averageNext n tc :=
  foldl_changes_once (part := (·.averageAt n tc)) (f := fun s tc => s.backlogTick n tc) List.nodup_range (List.mem_range.2 htc)
    (fun _ h => backlogTick_averageAt_same hbacklog h) (fun s _ _ hne => backlogTick_averageAt_other s (by omega)) t h

/-- The average of an egress and class with some backlog goes on once in a tick. -/
theorem backlogAverageUpdate_avg {s : State} {n tc : Nat} (hport : n ∈ s.portList .sw) (htc : tc < 8) (hbacklog : 0 < s.backlog (.fabric n) tc) :
    lookup (backlogAverageUpdate s).sw.core.avgs (n * 8 + tc) = some (s.averaging.next n tc) := by
  rw [← averaging_backlog] at hbacklog
  have after : (backlogAverageUpdate s).averageAt n tc = s.averageNext n tc :=
    foldl_changes_once (part := (·.averageAt n tc)) (f := State.portTick) List.nodup_range hport
      (fun _ h => portTick_averageAt_same htc hbacklog h) (fun s _ _ hne => portTick_averageAt_other s htc hne) s rfl
  exact congrArg Prod.fst after

/-! ### Congestion notices (R258) -/

/-- The marks that a part has counted. -/
def State.marks (s : State) : Part → SMap MarkCount
  | .sw => s.sw.core.marked
  | .ep => s.ep.rly.marked

theorem markCount_eq (s : State) (p : Part) (src tc : Nat) : s.markCount p src tc = (lookup (s.marks p) (src * 8 + tc)).getD {} := by
  cases p <;> rfl

theorem swSend_marked (s : State) (k : Packet) (inner : Nat) (group : Option Nat) :
    (s.swSend k inner group).sw.core.marked = s.sw.core.marked := by
  obtain h | ⟨n, h⟩ := swSend_cases s k inner group
  · rw [h, count_sw]
  · rw [h, enqueue_core]

theorem transmit_rly (s : State) (n : Nat) (k : Packet) (arrived : Option Nat) : (s.transmit n k arrived).ep.rly = s.ep.rly :=
  sameIn_of_frame (State_transmit_frame s n k arrived) .rly (by decide)

/-- A packet on its way through the relay leaves the marks that the endpoint has counted. -/
theorem epRoute_marked (fuel : Nat) (arrived : Option Nat) (first : Bool) (k : Packet) (s : State) :
    (State.epRoute fuel arrived first k s).ep.rly.marked = s.ep.rly.marked := by
  induction fuel generalizing arrived first k s with
  | zero => rfl
  | succ fuel ih =>
    unfold State.epRoute
    extract_lets relays noRoute onto
    have relayed (s : State) : (relays s).ep.rly.marked = s.ep.rly.marked := by
      simp only [relays]
      cases first && arrived.isSome <;> simp [State.addWrap]
    have unrouted (s : State) : (noRoute s).ep.rly.marked = s.ep.rly.marked := by
      simp only [noRoute]
      (repeat' split) <;> simp [ih, State.count, transmit_rly]
    have sent (n axis : Nat) (s : State) : (onto n axis s).ep.rly.marked = s.ep.rly.marked := by
      simp only [onto]
      (repeat' split) <;> simp [State.count, transmit_rly, relayed]
    clear_value noRoute onto relays
    (repeat' split) <;> simp [unrouted, sent, relayed, State.count, transmit_rly]

theorem epForward_marked (fuel : Nat) (k : Packet) (s : State) : (s.epForward fuel none k).ep.rly.marked = s.ep.rly.marked :=
  epRoute_marked ..

theorem putMark_markCount (s : State) (p : Part) (src tc : Nat) (m : MarkCount) : (s.putMark p src tc m).markCount p src tc = m := by
  cases p <;> simp [State.putMark, State.markCount, lookup_insertAt]

theorem sendNotice_markCount (s : State) (p : Part) (src tc marks : Nat) :
    (s.sendNotice p src tc marks).markCount p src tc = { marks := 0, last := some (s.now p) } := by
  have kept : (s.sendNotice p src tc marks).marks p = (s.putMark p src tc { marks := 0, last := some (s.now p) }).marks p := by
    cases p with
    | sw => exact swSend_marked ..
    | ep => exact epForward_marked ..
  rw [markCount_eq, kept, ← markCount_eq, putMark_markCount]

theorem congestionNoticeInterval_of_due {s : State} {p : Part} {src tc u : Nat} (hlast : (s.markCount p src tc).last = some u)
    (hdue : s.due p u 16 = true) (hmarks : (s.markCount p src tc).marks ≠ 0) :
    congestionNoticeInterval p src tc s = s.sendNotice p src tc (s.markCount p src tc).marks := by
  simp [congestionNoticeInterval, hlast, hdue, hmarks]

end Sys2Proof.Machine
end

section
/-! The rows of the switch core: arrival, queueing, credits and departure (R248 to R273). -/

namespace Sys2Proof.Machine

/-- Settles O7: each command ends in its own effect, which the lemmas above give; the claims read it off the queue, the registers and what
has been sent. A closing telemetry window adds and drops packets of the switch's own alone, which no backlog counts, so that every average
of a tick rests on the backlog before it. -/
theorem switchCoreRowsComplete : Obligations.SwitchCoreRowsComplete := by
  unfold Obligations.SwitchCoreRowsComplete
  refine ⟨?arrival, ?uturn, ?reserve, ?sink, ?start, ?copyStart, ?copyReserve, ?residueGone, ?residueOnly, ?lossy, ?request, ?fence, ?average,
    ?notice⟩
  case arrival =>
    intro n k s hport hfor htc hpower
    have power : (s.sinkFor k).2.sw.core.powerMark = 0 := by rw [sinkFor_core, hpower]
    have queue : (switchPacketArrival n k s).sw.core.queue =
        s.sw.core.queue ++ [(s.sinkFor k).2.newEntry (some n) (.inner (s.sinkFor k).1) k none false 64] := by
      rw [switchPacketArrival_of_forSwitch hport hfor, judgeAndQueue_of_inner htc power, enqueue_core, sinkFor_core]
    refine ⟨_, rfl, (congrArg (List.map _) queue).trans ?_⟩
    rw [List.map_append]
    rfl
  case uturn =>
    intro n k s hport hfor hvalid hback
    refine ⟨_, rfl, ?_⟩
    rw [switchPacketArrival_of_uturn hport hfor hvalid hback, State.discardAt]
    refine ⟨?_, by rw [owe_sw, count_sw]⟩
    exact (get_congr (f := RTE_DISC_UTURN) (onPort_rd ..)).trans (get_count _ _ _ _ _ _ (by decide))
  case reserve =>
    intro id q s hq hfree hjoined hcredit hroom
    have reserved := creditReserve_of_room hq hfree hjoined hcredit hroom
    exact ⟨_, rfl, (congrArg (·.sw.core.queue) reserved).trans (reserve_queue s q)⟩
  case sink =>
    intro id q m s hq hwhole hsink
    refine ⟨_, rfl, ?_⟩
    rw [egressPacketStart_of_queued hq, depart_of_inner hwhole hsink]
    exact ⟨rfl, List.mem_append_right _ (List.mem_singleton_self _)⟩
  case start =>
    intro id q m d s hq hstart hpick hlink
    exact ⟨_, rfl, egressPacketStart_of_queued hq ▸ depart_startedOn hstart hpick hlink⟩
  case copyStart =>
    intro id q m d s hq hcopy hjoined hreserved hstart hpick hlink
    exact ⟨_, rfl, mcastCopySend_of_reserved hq hcopy hjoined hreserved ▸ depart_startedOn hstart hpick hlink⟩
  case copyReserve =>
    intro id q s hq hcopy hjoined hfree hcredit hroom
    have reserved := mcastCopySend_of_room hq hcopy hjoined hfree hcredit hroom
    exact ⟨_, rfl, (congrArg (·.sw.core.queue) reserved).trans (reserve_queue s q)⟩
  case residueGone =>
    intro group s
    refine ⟨_, rfl, List.all_eq_true.2 fun q hq => ?_⟩
    rw [lossyResidueExpiry_queue] at hq
    exact (List.mem_filter.1 hq).2
  case residueOnly =>
    intro group s hoff
    refine ⟨_, rfl, (lossyResidueExpiry_queue group s).trans ?_⟩
    rw [residueNoted_of_disabled hoff]
    rfl
  case lossy =>
    intro structure_ id q s hq hwaits htc
    refine ⟨_, rfl, ?_⟩
    rw [sramUncorrectable_of_lossy hq hwaits htc]
    exact ⟨cellLost_count s id, cellLost_queue s id⟩
  case request =>
    intro structure_ id q m s hq hwaits htc hherd hasked hsrc hroute hport
    have last : (sramUncorrectable structure_ id none s).sw.core.queue.getLast?.map (·.pkt) = some (answer true s.switchId q.pkt stINTEGRITY) := by
      rw [sramUncorrectable_of_request hq hwaits htc hherd hasked, lossRecorded_swAnswer hsrc hroute hport, enqueue_core,
        List.getLast?_concat]
      rfl
    exact ⟨_, rfl, last⟩
  case fence =>
    intro path v s hopen
    exact ⟨_, rfl, midFenceSet_rd hopen v⟩
  case average =>
    intro n tc s hport htc hbacklog
    refine ⟨_, rfl, (backlogAverageUpdate_avg hport htc hbacklog).trans ?_⟩
    rw [Averaging.next, averaging_backlog]
    rfl
  case notice =>
    intro p src tc u s hlast hdue hmarks
    have notice := congestionNoticeInterval_of_due hlast hdue hmarks
    exact ⟨_, rfl, (congrArg (·.markCount p src tc) notice).trans (sendNotice_markCount ..)⟩

end Sys2Proof.Machine
end

section
/-! What a packet on its way through the relay leaves (R274 to R287): the flips that run, the coordinates marked down and the endpoint's traffic. -/

namespace Sys2Proof.Machine

/-! ### Registers apart -/

/-- Registers at different places of their pages have different keys. -/
theorem key_ne_of_place {r r' : Reg} (h : r.key 0 0 % 2 ^ 24 ≠ r'.key 0 0 % 2 ^ 24) (b i b' i' : Nat) : r.key b i ≠ r'.key b' i' := by
  simp only [Reg.key] at h ⊢
  omega

theorem rd_wr_of_place {r r' : Reg} (h : r'.key 0 0 % 2 ^ 24 ≠ r.key 0 0 % 2 ^ 24) (s : State) (p q : Part) (x : Word) (b i b' i' : Nat) :
    (s.wr p r x b i).rd q r' b' i' = s.rd q r' b' i' :=
  (rd_wr ..).trans (if_neg fun e => key_ne_of_place h _ _ _ _ e.2)

theorem rd_put_of_place {f : Fld} {r : Reg} (h : r.key 0 0 % 2 ^ 24 ≠ f.reg.key 0 0 % 2 ^ 24) (s : State) (p q : Part) (v b i b' i' : Nat) :
    (s.put p f v b i).rd q r b' i' = s.rd q r b' i' :=
  rd_wr_of_place h ..

/-! ### The relay -/

/-- A part of the state that no step of a packet through the relay writes: it is apart from the counters of discards and of relayed packets,
from the links' transmitters, from what is sent, and from the packets that a flip holds. -/
structure OffRoute {β : Type} (part : State → β) : Prop where
  discards : ∀ s v, part (s.wr .ep RLY_DISC v) = part s
  relays : ∀ s v, part (s.wr .ep RLY_RELAYED v) = part s
  transmits : ∀ s n k arrived, part (s.transmit n k arrived) = part s
  sends : ∀ s o, part (s.emit o) = part s
  holds : ∀ (s : State) (l : Relay → List (Nat × Nat × Option Nat × Bool × Packet)), part (s.onRly fun r => { r with heldPk := l r }) = part s

theorem epRoute_leaves {β : Type} {part : State → β} (h : OffRoute part) (fuel : Nat) (arrived : Option Nat) (first : Bool) (k : Packet)
    (s : State) : part (State.epRoute fuel arrived first k s) = part s := by
  have lost (s : State) : part (s.count .ep RLY_DISC_NO_ROUTE) = part s := h.discards s _
  have turned (s : State) : part (s.count .ep RLY_DISC_LANE_TURN) = part s := h.discards s _
  induction fuel generalizing arrived first k s with
  | zero => rfl
  | succ fuel ih =>
    unfold State.epRoute
    extract_lets relays noRoute onto
    have relayed (s : State) : part (relays s) = part s := by
      simp only [relays]
      cases first && arrived.isSome
      · rfl
      · exact h.relays s _
    have unrouted (s : State) : part (noRoute s) = part s := by
      simp only [noRoute]
      (repeat' split) <;> simp only [ih, lost, h.transmits]
    have sent (n axis : Nat) (s : State) : part (onto n axis s) = part s := by
      simp only [onto]
      (repeat' split) <;> simp only [turned, relayed, h.transmits]
    clear_value noRoute onto relays
    (repeat' split) <;> simp only [unrouted, sent, turned, relayed, h.transmits, h.sends, h.holds]

/-! ### Flips, marks and traffic -/

/-- The flips that run, the coordinates marked down, and the endpoint's traffic. -/
def State.planes (s : State) : List Flip × (Nat → Word) × Traffic := (s.ep.rly.flips, fun b => s.rd .ep RLY_DOWN_MAP b, s.ep.ag)

theorem planes_of_frame {s t : State} {l : List Comp} (hf : ∀ {wt}, Off wt l → t.view wt = s.view wt)
    (hrly : l.all (fun d => !d.meets .rly) = true) (hmap : l.all (fun d => !d.meets (.page .ep 0x10)) = true)
    (hag : l.all (fun d => !d.meets .ag) = true) : t.planes = s.planes := by
  have rly : t.ep.rly = s.ep.rly := sameIn_of_frame hf .rly hrly
  have map (b : Nat) : t.rd .ep RLY_DOWN_MAP b = s.rd .ep RLY_DOWN_MAP b :=
    rd_of_frame hf (page_comp RLY_DOWN_MAP .ep (by decide)) b 0 hmap
  have ag : t.ep.ag = s.ep.ag := sameIn_of_frame hf .ag hag
  simp only [State.planes, rly, map, ag]

theorem wr_planes {r : Reg} (h : RLY_DOWN_MAP.key 0 0 % 2 ^ 24 ≠ r.key 0 0 % 2 ^ 24) (s : State) (x : Word) :
    (s.wr .ep r x).planes = s.planes := by
  have map (b : Nat) : (s.wr .ep r x).rd .ep RLY_DOWN_MAP b = s.rd .ep RLY_DOWN_MAP b := rd_wr_of_place h ..
  simp only [State.planes, wr_ep, map]

theorem planes_offRoute : OffRoute State.planes where
  discards := wr_planes (by decide)
  relays := wr_planes (by decide)
  transmits s n k arrived := planes_of_frame (State_transmit_frame s n k arrived) (by decide) (by decide) (by decide)
  sends _ _ := rfl
  holds _ _ := rfl

theorem epRoute_planes (fuel : Nat) (arrived : Option Nat) (first : Bool) (k : Packet) (s : State) :
    (State.epRoute fuel arrived first k s).planes = s.planes :=
  epRoute_leaves planes_offRoute ..

/-- The packets that no flip holds any longer leave without a change to the flips and the marks. -/
theorem releaseHeld_planes (s : State) : s.releaseHeld.planes = s.planes :=
  foldl_leaves State.planes _ (fun _ _ => epRoute_planes ..) _ _

/-! ### The end of a flip (R281) -/

/-- The settle of a flip has ended. -/
def State.settled (s : State) (f : Flip) : Prop := f.awaiting = false ∧ ∃ u, f.settleFrom = some u ∧ s.due .ep u f.settle = true

theorem flipSettleExpiry_ends {s : State} {f : Flip} (hf : f ∈ s.ep.rly.flips) (hsettled : s.settled f) :
    f ∉ (flipSettleExpiry f.tag s).ep.rly.flips := by
  obtain ⟨hacked, u, hfrom, hdue⟩ := hsettled
  unfold flipSettleExpiry
  extract_lets past
  have ended : past f = true := by simp [past, hacked, hfrom, hdue]
  rw [if_pos (List.any_eq_true.2 ⟨f, hf, ended⟩)]
  have kept := congrArg Prod.fst (releaseHeld_planes (s.onRly fun r => { r with flips := r.flips.filter fun f => !past f }))
  intro hmem
  have stays := List.mem_filter.1 ((congrArg (f ∈ ·) kept).mp hmem)
  simp [ended] at stays

/-- The acknowledgement of a flip's probe starts the flip's settle. -/
theorem probeAckReceive_settles {s : State} {k : Packet} {f : Flip} (hf : f ∈ s.ep.rly.flips) (htag : f.tag = k.tag) (hwaits : f.awaiting = true) :
    { f with awaiting := false, settleFrom := some (s.now .ep), settle := s.settleTicks (linkOf f.axis f.old) }
      ∈ (probeAckReceive k s).ep.rly.flips :=
  List.mem_map.2 ⟨f, hf, by simp [htag, hwaits]⟩

/-! ### Coordinates marked down (R286) -/

/-- A coordinate is marked down or its mark cleared. -/
def State.markCoord (s : State) (axis plane c v : Nat) : State :=
  s.wr .ep RLY_DOWN_MAP (setBits (s.rd .ep RLY_DOWN_MAP (downBank axis plane)) c 1 v) (downBank axis plane)

theorem markCoord_markedDown (s : State) (axis plane : Nat) {c : Nat} (hc : c < 64) (v : Nat) :
    (s.markCoord axis plane c v).markedDown axis plane c = v.testBit 0 := by
  rw [State.markedDown, State.markCoord, rd_wr_same, setBits_getLsbD, if_pos (by omega), Nat.sub_self, decide_eq_true hc, Bool.true_and]

theorem markedDown_congr {s t : State} (h : t.planes = s.planes) (axis plane c : Nat) : t.markedDown axis plane c = s.markedDown axis plane c := by
  have map : t.rd .ep RLY_DOWN_MAP (downBank axis plane) = s.rd .ep RLY_DOWN_MAP (downBank axis plane) :=
    congrFun (congrArg (·.2.1) h) _
  rw [State.markedDown, map, State.markedDown]

theorem membersPath_of_none {s : State} (h : s.ep.ag.membs = []) : s.membersPath = s := by
  simp [State.membersPath, h]

/-- The relay sends on what a ROUTE_DOWN frees, and the marks and the traffic stay as the notice's own mark made them. -/
theorem routeDownReceive_planes {s : State} (hmembs : s.ep.ag.membs = []) (k : Packet) :
    (routeDownReceive k s).planes = (s.markCoord (bitsOf k.aux 0 2) (bitsOf k.aux 2 1) (bitsOf k.aux 3 6) 1).planes := by
  unfold routeDownReceive
  extract_lets axis pl c b s1 s2 s3 n there go
  have marked : s1 = s.markCoord axis pl c 1 := rfl
  have recorded : s2.planes = s1.planes := planes_of_frame (State_event_ep_frame _ _ _ _ _ _ _ _ _ _) (by decide) (by decide) (by decide)
  have freed : s3.planes = s2.planes := releaseHeld_planes s2
  have pulled : (s3.pullTx n there).planes = s3.planes := planes_of_frame (State_pullTx_frame _ _ _) (by decide) (by decide) (by decide)
  have rerouted : (go.foldl (fun s x => State.epRoute 3 x.1 false x.2 s) (s3.pullTx n there)).planes = s1.planes :=
    (foldl_leaves State.planes _ (fun _ _ => epRoute_planes ..) _ _).trans (pulled.trans (freed.trans recorded))
  have traffic : s1.ep.ag = s.ep.ag := congrArg (·.ag) (wr_ep ..)
  rw [membersPath_of_none, rerouted, marked]
  exact (congrArg (·.2.2.membs) rerouted).trans ((congrArg (·.membs) traffic).trans hmembs)

theorem routeUpReceive_markedDown (k : Packet) (s : State) :
    (routeUpReceive k s).markedDown (bitsOf k.aux 0 2) (bitsOf k.aux 2 1) (bitsOf k.aux 3 6) = false := by
  unfold routeUpReceive
  extract_lets axis pl c b was s1
  have cleared : s1.markedDown axis pl c = false := markCoord_markedDown s axis pl (bitsOf_lt ..) 0
  have flipped (buckets old : Nat) (coord : Option Nat) : (s1.startFlip axis buckets old coord).markedDown axis pl c = s1.markedDown axis pl c := by
    have map : (s1.startFlip axis buckets old coord).rd .ep RLY_DOWN_MAP (downBank axis pl) = s1.rd .ep RLY_DOWN_MAP (downBank axis pl) :=
      rd_of_frame (State_startFlip_frame _ _ _ _ _) (page_comp RLY_DOWN_MAP .ep (by decide)) _ 0 (by decide)
    rw [State.markedDown, map, State.markedDown]
  unfold State.when
  split
  · rw [flipped, cleared]
  · exact cleared

/-! ### A plane map and an open link (R281, R285) -/

theorem planeMap_eq {axis : Nat} (h : axis = 1 ∨ axis = 2 ∨ axis = 3) (s : State) : s.planeMap axis = s.rd .ep (pmapReg axis) := by
  obtain rfl | rfl | rfl := h <;> rfl

theorem setPlaneMap_rd (s : State) (axis : Nat) (v : Word) : (s.setPlaneMap axis v).rd .ep (pmapReg axis) = v :=
  rd_wr_same ..

theorem pmapWrite_planeMap {s : State} {path : Path} {axis : Nat} (hopen : s.writeOpen path .ep pgRly (0x38 + 8 * axis) = true)
    (haxis : axis = 1 ∨ axis = 2 ∨ axis = 3) (v : Word) : (pmapWrite path axis v s).planeMap axis = v := by
  rw [planeMap_eq haxis, pmapWrite, writeBy_of_open hopen, regDone_rd, setPlaneMap_rd]

/-- The links that PORT_ACTIVE has opened are as they were after a flip has started. -/
theorem startFlip_opened (s : State) (axis buckets old : Nat) (coord : Option Nat) :
    (s.startFlip axis buckets old coord).ep.rly.opened = s.ep.rly.opened := by
  unfold State.startFlip
  extract_lets n tag sid k s1
  split
  · rfl
  · rw [transmit_rly, State.holdTx, State.pullTx, onPort_ep]
    rfl

theorem portActiveReceive_opened {s : State} {n : Nat} (h : s.stage .ep n = 5) : (portActiveReceive n s).ep.rly.opened.testBit n = true := by
  unfold portActiveReceive
  extract_lets was s1 s2
  have opened : s1.ep.rly.opened.testBit n = true := by simp [s1]
  have flipped : s2.ep.rly.opened = s1.ep.rly.opened := by
    simp only [s2, State.when]
    split
    · exact startFlip_opened ..
    · rfl
  have judged : (s2.readyCheck .ep).ep.rly = s2.ep.rly := sameIn_of_frame (State_readyCheck_ep_frame s2) .rly (by decide)
  rw [if_neg (by simp [h]), judged, flipped, opened]

end Sys2Proof.Machine
end

section
/-! The ports of the switch (R282, R284, R285, R291): drain probes, release, the partner's identity and DISABLE. -/

namespace Sys2Proof.Machine

/-! ### Drain probes (R273, R282) -/

theorem drainProbeReceive_of_active {s : State} {n : Nat} (h : s.portState n = 2) (k : Packet) :
    drainProbeReceive n k s = (s.onCore fun c => { c with probes := c.probes ++ [⟨n, k, c.nextId⟩] }).owe .sw n k := by
  simp [drainProbeReceive, h]

theorem drainProbeReceive_of_quarantined {s : State} {n : Nat} (h : s.portState n = 1) (k : Packet) :
    drainProbeReceive n k s = (s.count .sw RTE_DISC_QUARANTINE).owe .sw n k := by
  simp [drainProbeReceive, h, State.discardAt]

theorem swSend_probes (s : State) (k : Packet) (inner : Nat) (group : Option Nat) :
    (s.swSend k inner group).sw.core.probes = s.sw.core.probes := by
  obtain h | ⟨n, h⟩ := swSend_cases s k inner group
  · rw [h, count_sw]
  · rw [h, enqueue_core]

theorem swSend_rd_probes (s : State) (k : Packet) (inner : Nat) (group : Option Nat) :
    (s.swSend k inner group).rd .sw RTE_PROBES = s.rd .sw RTE_PROBES := by
  obtain h | ⟨n, h⟩ := swSend_cases s k inner group
  · rw [h]
    exact rd_put_of_place (by decide) ..
  · rw [h]
    exact rd_of_frame (State_enqueue_frame _ _ _ _ _ _ _) (page_comp RTE_PROBES .sw (by decide)) 0 0 (by decide)

/-- A probe whose port's earlier packets have all crossed stage one is answered: it is gone and counted. -/
theorem probeAnswer_of_crossed {s : State} {n tag : Nat} {b : Probe}
    (hprobe : s.sw.core.probes.find? (fun b => b.port == n && b.pkt.tag == tag) = some b)
    (hcrossed : s.sw.core.queue.any (fun q => q.waiting && q.origin == some n && q.id < b.before) = false) :
    ∃ a inner, probeAnswer n tag s =
      ((s.onCore fun c => { c with probes := c.probes.erase b }).swSend a inner).count .sw RTE_PROBES_ANSWERED := by
  simp only [probeAnswer, hprobe, hcrossed, Bool.false_eq_true, if_false]
  exact ⟨_, _, rfl⟩

/-! ### Release (R285) -/

theorem rd_portSts_of_frame {s t : State} {l : List Comp} (hf : ∀ {wt}, Off wt l → t.view wt = s.view wt)
    (h : l.all (fun d => !d.meets (.page .sw 0x14)) = true) (b : Nat) : t.rd .sw RTE_PORT_STS b = s.rd .sw RTE_PORT_STS b :=
  rd_of_frame hf (page_comp RTE_PORT_STS .sw (by decide)) b 0 h

theorem readyCheck_rd_portSts (s : State) (b : Nat) : (s.readyCheck .sw).rd .sw RTE_PORT_STS b = s.rd .sw RTE_PORT_STS b :=
  rd_portSts_of_frame (State_readyCheck_sw_frame s) (by decide) b

/-- The notices of a port change the state of none. -/
theorem routeNotices_rd_portSts (s : State) (op port b : Nat) : (s.routeNotices op port).rd .sw RTE_PORT_STS b = s.rd .sw RTE_PORT_STS b := by
  refine foldl_leaves (·.rd .sw RTE_PORT_STS b) _ (fun s m => ?_) _ s
  split
  · exact (rd_put_of_place (by decide) ..).trans (rd_portSts_of_frame (State_enqueue_frame _ _ _ _ _ _ _) (by decide) b)
  · rfl

/-- A port is QUARANTINED, and the three conditions of its release are met. -/
structure State.Releasable (s : State) (n : Nat) : Prop where
  quarantined : s.portState n = 1
  identity : s.flag .sw RTE_PORT_STS_ID_OK (n + 1) = true
  routes : s.flag .sw RTE_PORT_STS_ROUTE_OK (n + 1) = true
  member : s.flag .sw RTE_PORT_STS_MEMBER_OK (n + 1) = true

/-- A port that meets its conditions becomes ACTIVE; the notices that it sends change the state of none. -/
theorem tryActivate_rd_portSts {s : State} {n : Nat} (h : s.Releasable n) (b : Nat) :
    (s.tryActivate n).rd .sw RTE_PORT_STS b = (s.put .sw RTE_PORT_STS_STATE 2 (n + 1)).rd .sw RTE_PORT_STS b := by
  obtain ⟨quarantined, identity, routes, member⟩ := h
  simp only [State.tryActivate, quarantined, identity, routes, member, beq_self_eq_true, Bool.and_self, if_true]
  rw [readyCheck_rd_portSts, routeNotices_rd_portSts]
  exact rd_portSts_of_frame (State_enqueue_frame _ _ _ _ _ _ _) (by decide) b

theorem tryActivate_releases {s : State} {n : Nat} (h : s.Releasable n) :
    (s.tryActivate n).portState n = 2 ∧ (s.tryActivate n).flag .sw RTE_PORT_STS_ROUTE_OK (n + 1) = true := by
  have status := tryActivate_rd_portSts h (n + 1)
  constructor
  · exact (get_congr (f := RTE_PORT_STS_STATE) status).trans (get_put _ _ _ _ _ _ (by decide))
  · have routes : (s.put .sw RTE_PORT_STS_STATE 2 (n + 1)).get .sw RTE_PORT_STS_ROUTE_OK (n + 1) = s.get .sw RTE_PORT_STS_ROUTE_OK (n + 1) :=
      get_put_apart _ _ RTE_PORT_STS_STATE RTE_PORT_STS_ROUTE_OK _ _ _ rfl (by decide)
    rw [State.flag, get_congr (f := RTE_PORT_STS_ROUTE_OK) status, routes]
    exact h.routes

theorem tryActivate_of_no_member {s : State} {n : Nat} (h : s.flag .sw RTE_PORT_STS_MEMBER_OK (n + 1) = false) : s.tryActivate n = s := by
  simp [State.tryActivate, h]

/-- ROUTE_OK of a port is set, in its control and in its status. -/
def State.routesWritten (s : State) (n : Nat) : State :=
  (s.put .sw RTE_PORT_CTL_ROUTE_OK 1 (n + 1)).put .sw RTE_PORT_STS_ROUTE_OK 1 (n + 1)

theorem routesWritten_get {g : Fld} (hg : g.reg = RTE_PORT_STS) (h : g.lo + g.w ≤ 3 ∨ 4 ≤ g.lo) (s : State) (n : Nat) :
    (s.routesWritten n).get .sw g (n + 1) = s.get .sw g (n + 1) := by
  have control : (s.put .sw RTE_PORT_CTL_ROUTE_OK 1 (n + 1)).rd .sw g.reg (n + 1) = s.rd .sw g.reg (n + 1) := by
    rw [hg]
    exact rd_put_of_place (by decide) ..
  exact (get_put_apart _ _ RTE_PORT_STS_ROUTE_OK g _ _ _ hg h).trans (get_congr control)

/-- Routes that are written last complete the conditions of a port's release. -/
theorem routesWritten_releasable {s : State} {n : Nat} (hport : s.portState n = 1) (hid : s.flag .sw RTE_PORT_STS_ID_OK (n + 1) = true)
    (hmember : s.flag .sw RTE_PORT_STS_MEMBER_OK (n + 1) = true) : (s.routesWritten n).Releasable n where
  quarantined := (routesWritten_get (g := RTE_PORT_STS_STATE) rfl (by decide) s n).trans hport
  identity := (congrArg (· != 0) (routesWritten_get (g := RTE_PORT_STS_ID_OK) rfl (by decide) s n)).trans hid
  routes := congrArg (· != 0) (get_put _ _ RTE_PORT_STS_ROUTE_OK 1 (n + 1) 0 (by decide))
  member := (congrArg (· != 0) (routesWritten_get (g := RTE_PORT_STS_MEMBER_OK) rfl (by decide) s n)).trans hmember

/-! ### The partner's identity (R285) -/

/-- The identity of a port's partner is verified: ID_OK, and the partner's digest. -/
def State.identified (s : State) (n : Nat) (digest : List Byte) : State :=
  (upTo 8).foldl (fun s k => s.wr .sw (SEC_PEER.word k) (BitVec.ofNat 64 (natAt digest (8 * k) 8)) (n + 1)) (s.put .sw RTE_PORT_STS_ID_OK 1 (n + 1))

theorem identified_rd_portSts (s : State) (n : Nat) (digest : List Byte) (b : Nat) :
    (s.identified n digest).rd .sw RTE_PORT_STS b = (s.put .sw RTE_PORT_STS_ID_OK 1 (n + 1)).rd .sw RTE_PORT_STS b :=
  have other (k : Nat) : RTE_PORT_STS.page % 4096 ≠ (SEC_PEER.word k).page % 4096 := by
    rw [word_page]
    decide
  foldl_leaves (·.rd .sw RTE_PORT_STS b) _ (fun _ k => (rd_wr ..).trans (if_neg fun e => key_ne_of_page (other k) _ _ _ _ e.2)) _ _

theorem identified_get {g : Fld} (hg : g.reg = RTE_PORT_STS) (h : g.lo + g.w ≤ 2 ∨ 3 ≤ g.lo) (s : State) (n : Nat) (digest : List Byte) :
    (s.identified n digest).get .sw g (n + 1) = s.get .sw g (n + 1) := by
  have status : (s.identified n digest).rd .sw g.reg (n + 1) = (s.put .sw RTE_PORT_STS_ID_OK 1 (n + 1)).rd .sw g.reg (n + 1) := by
    rw [hg, identified_rd_portSts]
  exact (get_congr status).trans (get_put_apart _ _ RTE_PORT_STS_ID_OK g _ _ _ hg h)

theorem identified_idOk (s : State) (n : Nat) (digest : List Byte) : (s.identified n digest).get .sw RTE_PORT_STS_ID_OK (n + 1) = 1 :=
  (get_congr (f := RTE_PORT_STS_ID_OK) (identified_rd_portSts ..)).trans (get_put _ _ _ _ _ _ (by decide))

/-- A partner that the roster does not name yet stays QUARANTINED once it is verified. -/
theorem partnerIdentityVerified_of_no_member {s : State} {n : Nat} {digest : List Byte} (hport : s.portState n = 1)
    (hmatch : s.peerMatches n digest = true) (hmember : s.flag .sw RTE_PORT_STS_MEMBER_OK (n + 1) = false) :
    partnerIdentityVerified n true digest s = (s.identified n digest).readyCheck .sw := by
  have member : (s.identified n digest).flag .sw RTE_PORT_STS_MEMBER_OK (n + 1) = false :=
    (congrArg (· != 0) (identified_get (g := RTE_PORT_STS_MEMBER_OK) rfl (by decide) s n digest)).trans hmember
  rw [partnerIdentityVerified, if_neg (by simp [hport]), if_pos (by simp [hmatch])]
  exact congrArg (·.readyCheck .sw) (tryActivate_of_no_member member)

/-- The partner's binding set may go out once its identity is verified; it changes the state of no port. -/
theorem partnerVerified_rd_portSts {s : State} (hcpu : s.cpuUp 0 = true) (hsec : s.secHalted .sw = false) (n : Nat) (ok : Bool)
    (digest : List Byte) (b : Nat) :
    (partnerVerified .sw n ok digest s).rd .sw RTE_PORT_STS b = (partnerIdentityVerified n ok digest s).rd .sw RTE_PORT_STS b := by
  simp only [partnerVerified, hcpu, hsec, Bool.not_true, Bool.or_self, Bool.false_eq_true, if_false]
  split
  · exact rd_portSts_of_frame (State_deliver'_frame _ _ _) (by decide) b
  · rfl

/-- A failed SPDM exchange is counted and recorded (R285). -/
def State.identityFailed (s : State) (digest : List Byte) : State :=
  (s.count .sw SEC_EVENTS_SPDM_FAIL).event .sw pgRte .idFail (natAt digest 0 8) (natAt digest 8 8)

theorem identityFailed_rd {r : Reg} {code : Nat} (hr : r.comp .sw = .page .sw code) (hcode : code = 6 ∨ code = 0x14) (s : State) (digest : List Byte)
    (b : Nat) : (s.identityFailed digest).rd .sw r b = (s.count .sw SEC_EVENTS_SPDM_FAIL).rd .sw r b := by
  obtain rfl | rfl := hcode <;> exact rd_of_frame (State_event_sw_frame _ _ _ _ _ _ _ _ _ _) hr b 0 (by decide)

theorem identityFailed_portState (s : State) (digest : List Byte) (n : Nat) : (s.identityFailed digest).portState n = s.portState n :=
  get_congr (f := RTE_PORT_STS_STATE)
    ((identityFailed_rd (page_comp RTE_PORT_STS .sw (by decide)) (by decide) ..).trans (rd_put_of_place (by decide) ..))

theorem identityFailed_counted (s : State) (digest : List Byte) :
    (s.identityFailed digest).get .sw SEC_EVENTS_SPDM_FAIL = min (s.get .sw SEC_EVENTS_SPDM_FAIL + 1) (2 ^ SEC_EVENTS_SPDM_FAIL.w - 1) :=
  (get_congr (f := SEC_EVENTS_SPDM_FAIL) (identityFailed_rd (page_comp SEC_EVENTS .sw (by decide)) (by decide) ..)).trans
    (get_count _ _ _ _ _ _ (by decide))

theorem partnerVerified_of_failed {s : State} {n : Nat} (hcpu : s.cpuUp 0 = true) (hsec : s.secHalted .sw = false) (hport : s.portState n = 1)
    (digest : List Byte) : partnerVerified .sw n false digest s = s.identityFailed digest := by
  simp [partnerVerified, hcpu, hsec, partnerIdentityVerified, hport, State.identityFailed]

/-! ### DISABLE (R291) -/

theorem rteDisable_of_down {s : State} {n : Nat} (h : s.stage .sw n = 0) : s.rteDisable n 1 = s.put .sw RTE_PORT_CTL_DISABLE 1 (n + 1) := by
  have down : (s.put .sw RTE_PORT_CTL_DISABLE 1 (n + 1)).stage .sw n = 0 :=
    (get_congr (f := FPT_STS_STAGE) (rd_put_of_place (by decide) ..)).trans h
  simp [State.rteDisable, down]

end Sys2Proof.Machine
end

section
/-! The rows of routing: plane flips, notices and port release (R281 to R291). -/

namespace Sys2Proof.Machine

/-- Settles O8: each command ends in its own effect, which the lemmas above give. The claims rest on two facts: no packet that the relay
sends on changes a flip or a mark (`epRoute_planes`), and no notice that a port sends changes the state of a port (`routeNotices_rd_portSts`). -/
theorem routingRowsComplete : Obligations.RoutingRowsComplete := by
  unfold Obligations.RoutingRowsComplete
  refine ⟨?pmap, ?probe, ?probeLost, ?answer, ?ack, ?settle, ?down, ?up, ?opened, ?routeOk, ?idFailed, ?idOk, ?disable⟩
  case pmap =>
    intro path axis v s hopen haxis
    exact ⟨_, rfl, pmapWrite_planeMap hopen haxis v⟩
  case probe =>
    intro n k s hport
    exact ⟨_, rfl, congrArg (·.sw.core.probes) (drainProbeReceive_of_active hport k)⟩
  case probeLost =>
    intro n k s hport
    refine ⟨_, rfl, ?_⟩
    rw [drainProbeReceive_of_quarantined hport]
    refine ⟨?_, by rw [owe_sw, count_sw]⟩
    exact (get_congr (f := RTE_DISC_QUARANTINE) (onPort_rd ..)).trans (get_count _ _ _ _ _ _ (by decide))
  case answer =>
    intro n tag b s hprobe hcrossed
    obtain ⟨a, inner, answered⟩ := probeAnswer_of_crossed hprobe hcrossed
    refine ⟨_, rfl, ?_⟩
    rw [answered]
    refine ⟨by rw [count_sw, swSend_probes, onCore_sw_core], (get_count _ _ _ _ _ _ (by decide)).trans ?_⟩
    rw [get_congr (f := RTE_PROBES_ANSWERED) ((swSend_rd_probes ..).trans (onCore_rd ..))]
  case ack =>
    intro k f s hf htag hwaits
    exact ⟨_, rfl, probeAckReceive_settles hf htag hwaits⟩
  case settle =>
    rintro tag f u s hf rfl hacked hfrom hdue
    exact ⟨_, rfl, flipSettleExpiry_ends hf ⟨hacked, u, hfrom, hdue⟩⟩
  case down =>
    intro k s _ hmembs
    exact ⟨_, rfl, (markedDown_congr (routeDownReceive_planes hmembs k) ..).trans (markCoord_markedDown _ _ _ (bitsOf_lt ..) 1)⟩
  case up =>
    intro k s
    exact ⟨_, rfl, routeUpReceive_markedDown k s⟩
  case opened =>
    intro n s hstage
    exact ⟨_, rfl, portActiveReceive_opened hstage⟩
  case routeOk =>
    intro path s hopen hport hid hmember
    obtain ⟨active, routes⟩ := tryActivate_releases (routesWritten_releasable hport hid hmember)
    have written (f : Fld) (b : Nat) : (routeOkWrite path s).get .sw f b = (s.setRouteOk (s.get .sw RTE_PORT_SEL_PORT)).get .sw f b := by
      rw [routeOkWrite, writeBy_of_open hopen, get_congr (regDone_rd ..)]
    exact ⟨_, rfl, (written RTE_PORT_STS_STATE _).trans active, (congrArg (· != 0) (written RTE_PORT_STS_ROUTE_OK _)).trans routes⟩
  case idFailed =>
    intro n digest s hcpu hsec hport
    refine ⟨_, rfl, ?_⟩
    rw [partnerVerified_of_failed hcpu hsec hport]
    exact ⟨(identityFailed_portState s digest n).trans hport, identityFailed_counted s digest⟩
  case idOk =>
    intro n digest s hcpu hsec hport hmatch hmember
    have status : (partnerVerified .sw n true digest s).rd .sw RTE_PORT_STS (n + 1) = (s.identified n digest).rd .sw RTE_PORT_STS (n + 1) := by
      rw [partnerVerified_rd_portSts hcpu hsec, partnerIdentityVerified_of_no_member hport hmatch hmember, readyCheck_rd_portSts]
    refine ⟨_, rfl, ?_, ?_⟩
    · exact congrArg (· != 0) ((get_congr (f := RTE_PORT_STS_ID_OK) status).trans (identified_idOk s n digest))
    · exact (get_congr (f := RTE_PORT_STS_STATE) status).trans ((identified_get rfl (by decide) s n digest).trans hport)
  case disable =>
    intro path s hopen hstage
    have disabled : rtePortDisable path 1 s =
        (s.put .sw RTE_PORT_CTL_DISABLE 1 (s.get .sw RTE_PORT_SEL_PORT + 1)).regDone .sw path stOK := by
      rw [rtePortDisable, writeBy_of_open hopen, rteDisable_of_down hstage]
      rfl
    refine ⟨_, congrArg Host.Outcome.next disabled, ?_, ?_⟩
    · exact congrArg (· != 0) ((get_congr (f := RTE_PORT_CTL_DISABLE) (regDone_rd ..)).trans (get_put _ _ _ _ _ _ (by decide)))
    · exact (get_congr (f := FPT_STS_STAGE) ((regDone_rd ..).trans (rd_put_of_place (by decide) ..))).trans hstage

end Sys2Proof.Machine
end

section
/-! Numbers put together from fields, lowest first, and byte strings read as numbers: what a field of the number is, and which bits of a string a position of it holds. -/

namespace Sys2Proof.Machine

/-! ### Fields put together -/

/-- The number whose bits are the fields of a list, each of a width and a value, lowest first. -/
def pack : List (Nat × Nat) → Nat
  | [] => 0
  | (w, v) :: fs => v % 2 ^ w + 2 ^ w * pack fs

/-- The width of a list of fields. -/
def packWidth (fs : List (Nat × Nat)) : Nat := (fs.map Prod.fst).sum

theorem pack_lt (fs : List (Nat × Nat)) : pack fs < 2 ^ packWidth fs := by
  induction fs with
  | nil => exact Nat.one_pos
  | cons f fs ih =>
    obtain ⟨w, v⟩ := f
    calc v % 2 ^ w + 2 ^ w * pack fs < 2 ^ w * 1 + 2 ^ w * pack fs := by
          rw [Nat.mul_one]
          exact Nat.add_lt_add_right (Nat.mod_lt v (Nat.two_pow_pos w)) _
      _ = 2 ^ w * (1 + pack fs) := (Nat.mul_add ..).symm
      _ ≤ 2 ^ w * 2 ^ packWidth fs := Nat.mul_le_mul_left _ (by omega)
      _ = 2 ^ packWidth ((w, v) :: fs) := (Nat.pow_add ..).symm

theorem pack_append (fs gs : List (Nat × Nat)) : pack (fs ++ gs) = pack fs + 2 ^ packWidth fs * pack gs := by
  induction fs with
  | nil => simp [pack, packWidth]
  | cons f fs ih =>
    have split : 2 ^ packWidth (f :: fs) = 2 ^ f.1 * 2 ^ packWidth fs := Nat.pow_add ..
    rw [List.cons_append, pack, ih, split, pack, Nat.mul_add, Nat.mul_assoc, Nat.add_assoc]

/-- The fields of a list are in a number, each at the bits after the ones before it, the first at bit `lo`. -/
def FieldsAt (n : Nat) : Nat → List (Nat × Nat) → Prop
  | _, [] => True
  | lo, (w, v) :: fs => bitsOf n lo w = v % 2 ^ w ∧ FieldsAt n (lo + w) fs

theorem bitsOf_of_split {n low lo w v rest : Nat} (hlow : low < 2 ^ lo) (hn : n = low + 2 ^ lo * (v % 2 ^ w + 2 ^ w * rest)) :
    bitsOf n lo w = v % 2 ^ w := by
  rw [bitsOf_eq, hn, Nat.add_mul_div_left _ _ (Nat.two_pow_pos lo), Nat.div_eq_of_lt hlow, Nat.zero_add, Nat.add_mul_mod_self_left,
    Nat.mod_mod]

theorem fieldsAt_of_split {n low lo : Nat} {fs : List (Nat × Nat)} (hlow : low < 2 ^ lo) (hn : n = low + 2 ^ lo * pack fs) :
    FieldsAt n lo fs := by
  induction fs generalizing low lo with
  | nil => trivial
  | cons f fs ih =>
    obtain ⟨w, v⟩ := f
    have further : low + 2 ^ lo * (v % 2 ^ w) < 2 ^ (lo + w) := by
      calc low + 2 ^ lo * (v % 2 ^ w) < 2 ^ lo * 1 + 2 ^ lo * (v % 2 ^ w) := by omega
        _ = 2 ^ lo * (1 + v % 2 ^ w) := (Nat.mul_add ..).symm
        _ ≤ 2 ^ lo * 2 ^ w := Nat.mul_le_mul_left _ (by have := Nat.mod_lt v (Nat.two_pow_pos w); omega)
        _ = 2 ^ (lo + w) := (Nat.pow_add ..).symm
    refine ⟨bitsOf_of_split hlow hn, ih further ?_⟩
    rw [hn, pack, Nat.pow_add, Nat.mul_add, Nat.mul_assoc, Nat.add_assoc]

/-- What is put together from fields has them in their places. -/
theorem fieldsAt_pack (fs : List (Nat × Nat)) : FieldsAt (pack fs) 0 fs := fieldsAt_of_split Nat.one_pos (by omega)

/-! ### Bits of bits -/

theorem bitsOf_bitsOf (n a k : Nat) {lo w : Nat} (h : lo + w ≤ k) : bitsOf (bitsOf n a k) lo w = bitsOf n (a + lo) w := by
  rw [show bitsOf n a k = bitsOf (n >>> a) 0 k from rfl, bitsOf_bitsOf_zero _ _ h, bitsOf, bitsOf, Nat.shiftRight_add]

theorem testBit_eq_bitsOf (n i : Nat) : n.testBit i = decide (bitsOf n i 1 = 1) := by
  rw [Nat.testBit_eq_decide_div_mod_eq, bitsOf_eq, Nat.pow_one]

theorem decide_b2n_eq_one (b : Bool) : decide (b2n b = 1) = b := by cases b <;> rfl

theorem b2n_mod_two (b : Bool) : b2n b % 2 = b2n b := by cases b <;> rfl

/-! ### Byte strings as numbers (R6) -/

theorem length_leBytes (n v : Nat) : (leBytes n v).length = n := by
  induction n generalizing v with
  | zero => rfl
  | succ n ih => rw [leBytes, List.length_cons, ih]

theorem two_pow_bytes_succ (n : Nat) : 2 ^ (8 * (n + 1)) = 256 * 2 ^ (8 * n) := by
  rw [Nat.mul_succ, Nat.pow_add, Nat.mul_comm]

theorem leNat_cons_div (b : Byte) (bs : List Byte) : leNat (b :: bs) / 256 = leNat bs := by
  have := b.isLt
  rw [leNat]
  omega

theorem leNat_cons_mod (b : Byte) (bs : List Byte) : leNat (b :: bs) % 256 = b.toNat := by
  have := b.isLt
  rw [leNat]
  omega

theorem leNat_drop (bs : List Byte) (k : Nat) : leNat (bs.drop k) = leNat bs / 2 ^ (8 * k) := by
  induction k generalizing bs with
  | zero => simp
  | succ k ih =>
    cases bs with
    | nil => simp [leNat]
    | cons b bs => rw [List.drop_succ_cons, ih, two_pow_bytes_succ, ← Nat.div_div_eq_div_mul, leNat_cons_div]

theorem leNat_take (bs : List Byte) (n : Nat) : leNat (bs.take n) = leNat bs % 2 ^ (8 * n) := by
  induction n generalizing bs with
  | zero => simp [leNat, Nat.mod_one]
  | succ n ih =>
    cases bs with
    | nil => simp [leNat]
    | cons b bs => rw [List.take_succ_cons, leNat, ih, two_pow_bytes_succ, Nat.mod_mul, leNat_cons_div, leNat_cons_mod]

theorem leNat_leBytes_append (n v : Nat) (bs : List Byte) : leNat (leBytes n v ++ bs) = v % 2 ^ (8 * n) + 2 ^ (8 * n) * leNat bs := by
  induction n generalizing v with
  | zero => simp [leBytes, Nat.mod_one]
  | succ n ih =>
    have byte : (BitVec.ofNat 8 v).toNat = v % 256 := BitVec.toNat_ofNat v 8
    rw [leBytes, List.cons_append, leNat, ih, byte, two_pow_bytes_succ, Nat.mod_mul, Nat.mul_add, Nat.mul_assoc, Nat.add_assoc]

/-- The bytes of a number in front of a string are the field below the string's. -/
theorem leNat_field_append {bs : List Byte} {gs : List (Nat × Nat)} (hbs : leNat bs = pack gs) (n v : Nat) :
    leNat (leBytes n v ++ bs) = pack ((8 * n, v) :: gs) := by
  rw [leNat_leBytes_append, hbs, pack]

/-- The bytes of a word of fields in front of a string are the fields below the string's. -/
theorem leNat_pack_append {fs gs : List (Nat × Nat)} {bs : List Byte} (hbs : leNat bs = pack gs) {n : Nat} (hwidth : packWidth fs = 8 * n) :
    leNat (leBytes n (pack fs) ++ bs) = pack (fs ++ gs) := by
  rw [leNat_leBytes_append, ← hwidth, Nat.mod_eq_of_lt (pack_lt fs), hbs, pack_append]

theorem leNat_field (n v : Nat) : leNat (leBytes n v) = pack [(8 * n, v)] := by
  rw [← leNat_field_append (bs := []) (gs := []) rfl, List.append_nil]

/-- The number of some bytes of a string is read off the number of any longer part of it. -/
theorem natAt_eq_bitsOf (bs : List Byte) {k n m : Nat} (h : k + n ≤ m) : natAt bs k n = bitsOf (leNat (bs.take m)) (8 * k) (8 * n) := by
  have cut : bitsOf (leNat bs % 2 ^ (8 * m)) (8 * k) (8 * n) = bitsOf (leNat bs) (8 * k) (8 * n) :=
    bitsOf_bitsOf_zero (leNat bs) (8 * m) (by omega)
  rw [leNat_take, cut, bitsOf_eq, natAt, leNat_take, leNat_drop]

end Sys2Proof.Machine
end

section
/-! The header of a packet (R293, R294) and the prefix of a herd packet (R297) as lists of fields: every field in its place, and packets read back from their bytes. -/

namespace Sys2Proof.Machine

/-! ### The layout of the header -/

/-- Word 0 of the header (R293). -/
def headerWord0 (k : Packet) : List (Nat × Nat) := [(17, k.dst), (17, k.src), (3, k.tc), (8, k.op), (16, k.tag), (3, 0)]

/-- Word 2 of the header (R293), with the flags of R294. -/
def headerWord2 (k : Packet) : List (Nat × Nat) :=
  [(13, k.len), (10, k.ctx), (6, k.ptn), (2, k.scope), (2, k.colour), (1, b2n k.lane), (1, b2n k.mark), (1, b2n k.vol), (1, b2n k.uncached),
   (1, b2n k.resend), (1, b2n k.srcSw), (8, 0), (8, k.status), (9, 0)]

/-- The whole header: words 0 to 2, and word 3 with AUX and E2E_CRC. -/
def headerLayout (k : Packet) : List (Nat × Nat) :=
  headerWord0 k ++ (64, k.addr.toNat) :: (headerWord2 k ++ [(32, k.aux), (32, k.crc.toNat)])

theorem pack_headerWord0 (k : Packet) :
    pack (headerWord0 k) =
      k.dst % 2 ^ 17 + (k.src % 2 ^ 17) * 2 ^ 17 + (k.tc % 8) * 2 ^ 34 + (k.op % 256) * 2 ^ 37 + (k.tag % 2 ^ 16) * 2 ^ 45 := by
  simp only [headerWord0, pack]
  omega

theorem pack_headerWord2 (k : Packet) :
    pack (headerWord2 k) =
      k.len % 2 ^ 13 + (k.ctx % 1024) * 2 ^ 13 + (k.ptn % 64) * 2 ^ 23 + (k.scope % 4) * 2 ^ 29 + (flagsOf k) * 2 ^ 31
        + (k.status % 256) * 2 ^ 47 := by
  simp only [headerWord2, pack, flagsOf, Nat.pow_one, b2n_mod_two]
  omega

theorem headerBytes_eq (k : Packet) :
    headerBytes k = leBytes 8 (pack (headerWord0 k)) ++ leBytes 8 k.addr.toNat ++ leBytes 8 (pack (headerWord2 k)) ++ leBytes 4 k.aux := by
  rw [pack_headerWord0, pack_headerWord2]
  rfl

theorem packetBytes_eq (k : Packet) : packetBytes k = (headerBytes k ++ leBytes 4 k.crc.toNat) ++ k.payload := rfl

theorem length_header (k : Packet) : (headerBytes k ++ leBytes 4 k.crc.toNat).length = 32 := by
  simp only [headerBytes_eq, List.length_append, length_leBytes]

theorem take_packetBytes (k : Packet) : (packetBytes k).take 32 = headerBytes k ++ leBytes 4 k.crc.toNat :=
  List.take_left' (length_header k)

theorem drop_packetBytes (k : Packet) : (packetBytes k).drop 32 = k.payload :=
  List.drop_left' (length_header k)

/-- The first 32 bytes of a packet are the fields of the layout, one after another. -/
theorem leNat_header (k : Packet) : leNat ((packetBytes k).take 32) = pack (headerLayout k) := by
  have word3 := leNat_field_append (leNat_field 4 k.crc.toNat) 4 k.aux
  have word2 := leNat_pack_append word3 (fs := headerWord2 k) (n := 8) rfl
  have word1 := leNat_field_append word2 8 k.addr.toNat
  have word0 := leNat_pack_append word1 (fs := headerWord0 k) (n := 8) rfl
  simp only [take_packetBytes, headerBytes_eq, List.append_assoc]
  exact word0

theorem fieldsAt_header (k : Packet) : FieldsAt (leNat ((packetBytes k).take 32)) 0 (headerLayout k) := by
  rw [leNat_header]
  exact fieldsAt_pack _

/-- Settles O45: the fields of the layout, each at the bits after the ones before it, are the places of R293 and R294. -/
theorem headerFieldsInTheirPlaces : Obligations.HeaderFieldsInTheirPlaces := by
  intro k
  have length : (packetBytes k).length = 32 + k.payload.length := by rw [packetBytes_eq, List.length_append, length_header]
  refine ⟨length, drop_packetBytes k, ?_⟩
  simpa only [headerLayout, headerWord0, headerWord2, List.cons_append, List.nil_append, FieldsAt, Nat.reduceAdd, Nat.zero_mod, Nat.pow_one,
    b2n_mod_two, Nat.mod_eq_of_lt k.addr.isLt, Nat.mod_eq_of_lt k.crc.isLt, and_true] using fieldsAt_header k

/-! ### A packet read back -/

/-- A packet read back is the packet with each field cut to its place and the reserved bits zero. -/
theorem packetOfBytes_packetBytes (k : Packet) :
    packetOfBytes (packetBytes k) =
      { k with dst := k.dst % 2 ^ 17, src := k.src % 2 ^ 17, tc := k.tc % 2 ^ 3, op := k.op % 2 ^ 8, tag := k.tag % 2 ^ 16,
               len := k.len % 2 ^ 13, ctx := k.ctx % 2 ^ 10, ptn := k.ptn % 2 ^ 6, scope := k.scope % 2 ^ 2, colour := k.colour % 2 ^ 2,
               status := k.status % 2 ^ 8, aux := k.aux % 2 ^ 32, rsv := 0 } := by
  obtain ⟨-, payload, dst, src, tc, op, tag, rsv0, addr, len, ctx, ptn, scope, colour, lane, mark, vol, uncached, resend, srcSw, rsvFlags,
    status, rsv2, aux, crc⟩ := headerFieldsInTheirPlaces k
  have word {a n : Nat} (h : a + n ≤ 32) := natAt_eq_bitsOf (packetBytes k) h
  simp only [packetOfBytes, word, bitsOf_bitsOf, testBit_eq_bitsOf, Nat.reduceLeDiff, Nat.reduceMul, Nat.reduceAdd, payload, dst, src, tc, op,
    tag, rsv0, addr, len, ctx, ptn, scope, colour, lane, mark, vol, uncached, resend, srcSw, rsvFlags, status, rsv2, aux, crc,
    decide_b2n_eq_one, BitVec.ofNat_toNat, BitVec.setWidth_eq]

/-- Settles O44: a packet read back has every field cut to its place, which leaves a field that fits as it is. -/
theorem packetRoundTrip : Obligations.PacketRoundTrip := by
  intro k hdst hsrc htc hop htag hlen hctx hptn hscope hcolour hstatus haux hrsv
  have fits {v w : Nat} (h : v < 2 ^ w) : v % 2 ^ w = v := Nat.mod_eq_of_lt h
  rw [packetOfBytes_packetBytes, fits hdst, fits hsrc, fits (w := 3) htc, fits (w := 8) hop, fits htag, fits hlen, fits (w := 10) hctx,
    fits (w := 6) hptn, fits (w := 2) hscope, fits (w := 2) hcolour, fits (w := 8) hstatus, fits haux, ← hrsv]

/-! ### The prefix of a herd packet -/

/-- The layout of R297. -/
def prefixLayout (h : HerdPrefix) : List (Nat × Nat) := [(32, h.sig), (32, h.step), (32, h.chunk), (16, h.pkt), (8, h.shard), (8, 0)]

theorem length_prefix (h : HerdPrefix) : h.bytes.length = 16 := by
  simp only [HerdPrefix.bytes, List.length_append, length_leBytes, List.length_singleton]

theorem leNat_prefix (h : HerdPrefix) : leNat h.bytes = pack (prefixLayout h) := by
  have end_ : leNat [0] = pack [(8, 0)] := rfl
  have packet := leNat_field_append (leNat_field_append end_ 1 h.shard) 2 h.pkt
  have whole := leNat_field_append (leNat_field_append (leNat_field_append packet 4 h.chunk) 4 h.step) 4 h.sig
  simp only [HerdPrefix.bytes, List.append_assoc]
  exact whole

theorem fieldsAt_prefix (h : HerdPrefix) (data : List Byte) : FieldsAt (leNat ((h.bytes ++ data).take 16)) 0 (prefixLayout h) := by
  rw [List.take_left' (length_prefix h), leNat_prefix]
  exact fieldsAt_pack _

/-- The bytes of a prefix in front of some data read as its fields, each cut to its place, with byte 15 zero. -/
theorem natAt_prefix (h : HerdPrefix) (data : List Byte) :
    natAt (h.bytes ++ data) 0 4 = h.sig % 2 ^ 32 ∧ natAt (h.bytes ++ data) 4 4 = h.step % 2 ^ 32 ∧
    natAt (h.bytes ++ data) 8 4 = h.chunk % 2 ^ 32 ∧ natAt (h.bytes ++ data) 12 2 = h.pkt % 2 ^ 16 ∧
    natAt (h.bytes ++ data) 14 1 = h.shard % 2 ^ 8 ∧ natAt (h.bytes ++ data) 15 1 = 0 := by
  have place {a n : Nat} (hin : a + n ≤ 16) := natAt_eq_bitsOf (h.bytes ++ data) hin
  simpa only [place, Nat.reduceLeDiff, Nat.reduceMul, Nat.reduceAdd, prefixLayout, FieldsAt, Nat.zero_mod, and_true] using fieldsAt_prefix h data

/-- Settles O46: a field that fits its place is what its bytes read as. -/
theorem herdPrefixInItsPlace : Obligations.HerdPrefixInItsPlace := by
  intro h k data hsig hstep hchunk hpkt hshard
  obtain ⟨sig, step, chunk, pkt, shard, zero⟩ := natAt_prefix h data
  refine ⟨?_, length_prefix h, zero, List.drop_left' (length_prefix h)⟩
  rw [Nat.mod_eq_of_lt hsig] at sig
  rw [Nat.mod_eq_of_lt hstep] at step
  rw [Nat.mod_eq_of_lt hchunk] at chunk
  rw [Nat.mod_eq_of_lt hpkt] at pkt
  rw [Nat.mod_eq_of_lt (b := 2 ^ 8) hshard] at shard
  simp only [herdPrefix, sig, step, chunk, pkt, shard]

end Sys2Proof.Machine
end

section
/-! The check codes (R298, R305): their check values, and the coverage of E2E_CRC. -/

namespace Sys2Proof.Machine

theorem crc32c_check_value : crc32c [0x31, 0x32, 0x33, 0x34, 0x35, 0x36, 0x37, 0x38, 0x39] = 0xE3069283 := by
  simp [crc32c, crcByte, crcBit]

theorem crc64_check_value : crc64 [0x31, 0x32, 0x33, 0x34, 0x35, 0x36, 0x37, 0x38, 0x39] = 0x995DC9BBDF1939FA := by
  simp [crc64, crcByte, crcBit]

/-- E2E_CRC is computed with LANE and MARK as zero, whatever they are. -/
theorem e2eCrc_lane_mark (k : Packet) (lane mark : Bool) : e2eCrc { k with lane := lane, mark := mark } = e2eCrc k := rfl

/-- E2E_CRC does not cover the place that it is stored in. -/
theorem e2eCrc_sealPkt (k : Packet) : e2eCrc (sealPkt k) = e2eCrc k := rfl

/-- Whether a packet passes the check does not depend on LANE and MARK. -/
theorem crcOk_lane_mark (k : Packet) (lane mark : Bool) : crcOk { k with lane := lane, mark := mark } = crcOk k := by
  rw [crcOk, e2eCrc_lane_mark, crcOk]

theorem crcOk_sealPkt (k : Packet) : crcOk (sealPkt k) = true := by
  rw [crcOk, e2eCrc_sealPkt, sealPkt, beq_self_eq_true]

/-- Settles O43: the check values are computed, and a sealed packet passes the check, which LANE and MARK do not enter. -/
theorem checkCodesMatchTheSpec : Obligations.CheckCodesMatchTheSpec :=
  ⟨crc32c_check_value, crc64_check_value, e2eCrc_lane_mark, fun k lane mark => (crcOk_lane_mark (sealPkt k) lane mark).trans (crcOk_sealPkt k)⟩

end Sys2Proof.Machine
end

section
/-! NAKs during a shed (R309, R337): a part that discards what it receives replays nothing. -/

namespace Sys2Proof.Machine

/-- From SHED or SHED_ACK until the partner's SHED_GO a NAK is discarded with every other flit. -/
theorem nakReceive_of_shedding {s : State} {p : Part} {n : Nat} {sh : Shed} (hshed : (s.port p n).shed = some sh)
    (hwaits : sh.partnerGone = false) (ack : Nat) : nakReceive p n ack s = s := by
  simp [nakReceive, hshed, hwaits]

/-- Link 0 of an endpoint, ACTIVE, that has sent SHED for lane 0 and holds one unacknowledged flit. -/
def sheddingLink : State :=
  (State.reset.put .ep FPT_STS_STAGE 5).onPort .ep 0 fun pt => { pt with shed := some { mask := 1, sent := true }, replay := [⟨0, []⟩] }

theorem sheddingLink_stage : sheddingLink.stage .ep 0 = 5 := rfl

theorem sheddingLink_port :
    sheddingLink.port .ep 0 = { ({} : Port) with shed := some { mask := 1, sent := true }, replay := [⟨0, []⟩] } := rfl

theorem sheddingLink_replays : sheddingLink.get .ep LNK_RETRY_REPLAYS = 0 := rfl

/-- Refutes O6: its NAK clause asks for a replay in stages 3 to 5 whatever shed is in progress. A link that has sent SHED discards the
flits that it receives (R337), NAKs among them, so that a NAK for the flit it holds starts no replay and counts none. -/
theorem not_linkLayerRowsComplete : ¬ Obligations.LinkLayerRowsComplete := by
  rintro ⟨-, -, nak, -⟩
  obtain ⟨t, hrun, hcounted⟩ := nak .ep 0 16383 sheddingLink (by rw [sheddingLink_stage]; decide)
    (Nat.le_of_eq sheddingLink_stage) (by rw [sheddingLink_port]; decide)
  obtain rfl : nakReceive .ep 0 16383 sheddingLink = t := Host.Outcome.next.inj hrun
  rw [nakReceive_of_shedding (congrArg Port.shed sheddingLink_port) rfl, sheddingLink_replays] at hcounted
  exact absurd hcounted (by decide)

end Sys2Proof.Machine
end

section
/-! What every command does alike: it answers a next state, it leaves the identification and the queue as they were, and it writes no component beyond those listed for it. -/

namespace Sys2Proof.Machine

/-- The state that a command leads to. -/
def nextState (c : Instr) (s : State) : State :=
  match exec c s with
  | .next t => t
  | _ => s

theorem exec_eq_next (c : Instr) (s : State) : exec c s = .next (nextState c s) := by
  cases c <;> rfl

theorem eq_nextState {c : Instr} {s t : State} (h : exec c s = .next t) : t = nextState c s :=
  Host.Outcome.next.inj (h.symm.trans (exec_eq_next c s))

/-- Settles O59: every arm of `exec` answers a next state. -/
theorem everyCommandRuns : Obligations.EveryCommandRuns :=
  fun c s => ⟨nextState c s, exec_eq_next c s⟩

/-- Settles O39: the front command of the queue is the one that a step takes. -/
theorem stepRunsTheFrontCommand : Obligations.StepRunsTheFrontCommand := by
  intro c q s
  simp only [step]

/-- Each command keeps the identification words and the queue, as the lemma about its effect says. -/
theorem nextState_keep : ∀ (c : Instr) (s : State), (nextState c s).keep = s.keep
  | .resetRelease .., _ => resetRelease_keep ..
  | .standbyPowerOn .., _ => standbyPowerOn_keep ..
  | .startupStepDone .., _ => startupStepDone_keep ..
  | .endpointStartupStepDone .., _ => endpointStartupStepDone_keep ..
  | .rstNPulse .., _ => rstNPulse_keep ..
  | .rstCold .., _ => rstCold_keep ..
  | .rstWarm .., _ => rstWarm_keep ..
  | .rstFabric .., _ => rstFabric_keep ..
  | .epRstWarm .., _ => epRstWarm_keep ..
  | .epRstFabric .., _ => epRstFabric_keep ..
  | .mainRailsLost .., _ => mainRailsLost_keep ..
  | .layoutWrite .., _ => layoutWrite_keep ..
  | .switchGroupWrite .., _ => switchGroupWrite_keep ..
  | .refLoss .., _ => refLoss_keep ..
  | .refReturn .., _ => refReturn_keep ..
  | .holdoverExpiry .., _ => holdoverExpiry_keep ..
  | .pllLockLoss .., _ => pllLockLoss_keep ..
  | .pwrAlertAssert .., _ => pwrAlertAssert_keep ..
  | .pwrAlertDeassert .., _ => pwrAlertDeassert_keep ..
  | .thermAlertAssert .., _ => thermAlertAssert_keep ..
  | .thermAlertDeassert .., _ => thermAlertDeassert_keep ..
  | .thermP3DelayExpiry .., _ => thermP3DelayExpiry_keep ..
  | .pwrCapChange .., _ => pwrCapChange_keep ..
  | .forceLevelWrite .., _ => forceLevelWrite_keep ..
  | .throttleHoldExpiry .., _ => throttleHoldExpiry_keep ..
  | .powerControlSample .., _ => powerControlSample_keep ..
  | .dieSensorSample .., _ => dieSensorSample_keep ..
  | .hbmStackThrottle .., _ => hbmStackThrottle_keep ..
  | .tackupDetectProbe .., _ => tackupDetectProbe_keep ..
  | .tackupPreambleTmo .., _ => tackupPreambleTmo_keep ..
  | .laneEqPass .., _ => laneEqPass_keep ..
  | .eqTimerExpiry .., _ => eqTimerExpiry_keep ..
  | .flitLock .., _ => flitLock_keep ..
  | .lockTmo .., _ => lockTmo_keep ..
  | .capReceive .., _ => capReceive_keep ..
  | .refuseReceive .., _ => refuseReceive_keep ..
  | .pingReceive .., _ => pingReceive_keep ..
  | .pongReceive .., _ => pongReceive_keep ..
  | .readyReceive .., _ => readyReceive_keep ..
  | .capxTmo .., _ => capxTmo_keep ..
  | .tackRetryTimer .., _ => tackRetryTimer_keep ..
  | .partnerRedetect .., _ => partnerRedetect_keep ..
  | .fptRestart .., _ => fptRestart_keep ..
  | .fptRetrain .., _ => fptRetrain_keep ..
  | .fptDisable .., _ => fptDisable_keep ..
  | .retrainSetReceive .., _ => retrainSetReceive_keep ..
  | .retrainComplete .., _ => retrainComplete_keep ..
  | .retrainTimeout .., _ => retrainTimeout_keep ..
  | .retrainBitlockTmo .., _ => retrainBitlockTmo_keep ..
  | .shedWindowExpiry .., _ => shedWindowExpiry_keep ..
  | .laneLockLoss .., _ => laneLockLoss_keep ..
  | .shedReceive .., _ => shedReceive_keep ..
  | .shedAckReceive .., _ => shedAckReceive_keep ..
  | .shedGoReceive .., _ => shedGoReceive_keep ..
  | .fifoSlip .., _ => fifoSlip_keep ..
  | .signalLoss .., _ => signalLoss_keep ..
  | .flitReceive .., _ => State_flitIn_keep ..
  | .nakReceive .., _ => nakReceive_keep ..
  | .replayTimerExpiry .., _ => replayTimerExpiry_keep ..
  | .groupClose .., _ => groupClose_keep ..
  | .sealReceive .., _ => sealReceive_keep ..
  | .kexInitReceive .., _ => kexInitReceive_keep ..
  | .kexRespReceive .., _ => kexRespReceive_keep ..
  | .kexTimeout .., _ => kexTimeout_keep ..
  | .rekeyRequest .., _ => rekeyRequestWrite_keep ..
  | .rekeySoftPoint .., _ => rekeySoftPoint_keep ..
  | .keyExhausted .., _ => keyExhausted_keep ..
  | .switchPacketArrival .., _ => switchPacketArrival_keep ..
  | .creditReserve .., _ => creditReserve_keep ..
  | .egressPacketStart .., _ => egressPacketStart_keep ..
  | .sramUncorrectable .., _ => sramUncorrectable_keep ..
  | .midFenceSet .., _ => midFenceSet_keep ..
  | .congNoticeReceive .., _ => congNoticeReceive_keep ..
  | .mcastCopySend .., _ => mcastCopySend_keep ..
  | .lossyResidueExpiry .., _ => lossyResidueExpiry_keep ..
  | .combineWindowExpiry .., _ => combineWindowExpiry_keep ..
  | .combineIssue .., _ => combineIssue_keep ..
  | .switchReqTimeout .., _ => switchReqTimeout_keep ..
  | .outcomeRecordExpiry .., _ => outcomeRecordExpiry_keep ..
  | .outcomeReleaseReceive .., _ => outcomeReleaseReceive_keep ..
  | .pmapWrite .., _ => pmapWrite_keep ..
  | .drainProbeReceive .., _ => drainProbeReceive_keep ..
  | .probeAnswer .., _ => probeAnswer_keep ..
  | .probeAckReceive .., _ => probeAckReceive_keep ..
  | .flipSettleExpiry .., _ => flipSettleExpiry_keep ..
  | .routeDownReceive .., _ => routeDownReceive_keep ..
  | .routeUpReceive .., _ => routeUpReceive_keep ..
  | .portActiveReceive .., _ => portActiveReceive_keep ..
  | .routeOkWrite .., _ => routeOkWrite_keep ..
  | .partnerIdentityVerified .., _ => partnerVerified_keep ..
  | .rtePortDisable .., _ => rtePortDisable_keep ..
  | .cgtEnableWrite .., _ => cgtEnableWrite_keep ..
  | .telemetryWindowClose .., _ => telemetryWindowClose_keep ..
  | .relayPacket arrived k, s => by
    show (if arrived.isSome then s.epForward 3 arrived k else s.epInject k).keep = s.keep
    split
    · exact State_epForward_keep ..
    · exact State_epInject_keep ..
  | .memReq .., _ => memReq_keep ..
  | .doorbell .., _ => doorbell_keep ..
  | .csr .., _ => csr_keep ..
  | .accCpl .., _ => accCpl_keep ..
  | .accTimeout .., _ => accTimeout_keep ..
  | .discardAck .., _ => discardAck_keep ..
  | .ucieDown .., _ => ucieDown_keep ..
  | .ucieUp .., _ => ucieUp_keep ..
  | .qTailWrite .., _ => qTailWrite_keep ..
  | .qEnableWrite .., _ => qEnableWrite_keep ..
  | .descriptorFetch .., _ => descriptorFetch_keep ..
  | .descriptorFetchFail .., _ => descriptorFetchFail_keep ..
  | .cmdNop .., _ => cmdNop_keep ..
  | .cmdGet .., _ => cmdGet_keep ..
  | .cmdPut .., _ => cmdPut_keep ..
  | .cmdAtomic .., _ => cmdAtomic_keep ..
  | .cmdSyncAdd .., _ => cmdSyncAdd_keep ..
  | .cmdSyncSet .., _ => cmdSyncSet_keep ..
  | .cmdSyncRead .., _ => cmdSyncRead_keep ..
  | .cmdSyncWait .., _ => cmdSyncWait_keep ..
  | .cmdSyncSetClear .., _ => cmdSyncSetClear_keep ..
  | .cmdHerd .., _ => cmdHerd_keep ..
  | .cmdGather .., _ => cmdGather_keep ..
  | .cmdScatterAdd .., _ => cmdScatterAdd_keep ..
  | .cmdKstart .., _ => cmdKstart_keep ..
  | .cmdKend .., _ => cmdKend_keep ..
  | .localWaitTmo .., _ => localWaitTmo_keep ..
  | .commandComplete .., _ => commandComplete_keep ..
  | .answerReceive .., _ => answerReceive_keep ..
  | .gatherRowReceive .., _ => gatherRowReceive_keep ..
  | .resendTimer .., _ => resendTimer_keep ..
  | .requestTimeout .., _ => requestTimeout_keep ..
  | .tagHoldExpiry .., _ => tagHoldExpiry_keep ..
  | .outcomeReleaseSend .., _ => outcomeReleaseSend_keep ..
  | .ddpRecordExpiry .., _ => ddpRecordExpiry_keep ..
  | .bridleIncrease .., _ => bridleIncrease_keep ..
  | .windowRequest .., _ => windowRequest_keep ..
  | .winInvWrite .., _ => winInvWrite_keep ..
  | .winValidSet .., _ => winValidSet_keep ..
  | .winValidClear .., _ => winValidClear_keep ..
  | .gntValidSet .., _ => gntValidSet_keep ..
  | .apValidSet .., _ => apValidSet_keep ..
  | .apValidClear .., _ => apValidClear_keep ..
  | .atcFlush .., _ => atcFlush_keep ..
  | .tableReadComplete .., _ => tableReadComplete_keep ..
  | .invalReceive .., _ => invalReceive_keep ..
  | .invalAckSend .., _ => invalAckSend_keep ..
  | .acnEnableWrite .., _ => acnEnableWrite_keep ..
  | .acnEpochExpiry .., _ => acnEpochExpiry_keep ..
  | .rangeValidSet .., _ => rangeValidSet_keep ..
  | .epcNodeIdWrite .., _ => epcNodeIdWrite_keep ..
  | .syncAdd .., _ => syncAdd_keep ..
  | .syncSet .., _ => syncSet_keep ..
  | .syncSetClear .., _ => syncSetClear_keep ..
  | .syncRead .., _ => syncRead_keep ..
  | .syncWait .., _ => syncWait_keep ..
  | .syncWaitTimeout .., _ => syncWaitTimeout_keep ..
  | .synAcqRead .., _ => synAcqRead_keep ..
  | .synAddWrite .., _ => synAddWrite_keep ..
  | .synErrorClear .., _ => synErrorClear_keep ..
  | .poolRead .., _ => poolRead_keep ..
  | .poolWrite .., _ => poolWrite_keep ..
  | .poolAtomic .., _ => poolAtomic_keep ..
  | .readShared .., _ => readShared_keep ..
  | .readOwn .., _ => readOwn_keep ..
  | .upgrade .., _ => upgrade_keep ..
  | .writeback .., _ => writeback_keep ..
  | .cleanEvict .., _ => cleanEvict_keep ..
  | .snoopReceive .., _ => snoopReceive_keep ..
  | .snpRspReceive .., _ => snpRspReceive_keep ..
  | .snoopTimeout .., _ => snoopTimeout_keep ..
  | .agtFenceWrite .., _ => agtFenceWrite_keep ..
  | .agtReadmitWrite .., _ => agtReadmitWrite_keep ..
  | .olClearWrite .., _ => olClearWrite_keep ..
  | .olRec1Read .., _ => olRec1Read_keep ..
  | .granRetire .., _ => granRetire_keep ..
  | .drainEnd .., _ => drainEnd_keep ..
  | .scrubGranuleDone .., _ => scrubGranuleDone_keep ..
  | .patrolPass .., _ => patrolPass_keep ..
  | .hbmStackLost .., _ => hbmStackLost_keep ..
  | .bulkFillComplete .., _ => bulkFillComplete_keep ..
  | .bulkWritebackComplete .., _ => bulkWritebackComplete_keep ..
  | .bulkPortDown .., _ => bulkPortDown_keep ..
  | .bulkPortUp .., _ => bulkPortUp_keep ..
  | .prefetchHint .., _ => prefetchHint_keep ..
  | .bulkDevTimeout .., _ => bulkDevTimeout_keep ..
  | .gatherRequest .., _ => gatherRequest_keep ..
  | .scatterAddRequest .., _ => scatterAddRequest_keep ..
  | .ctlRead .., _ => ctlRead_keep ..
  | .ctlWrite .., _ => ctlWrite_keep ..
  | .coreResidueFault .., _ => coreResidueFault_keep ..
  | .rdcFenceWrite .., _ => rdcFenceWrite_keep ..
  | .rdcReadmitWrite .., _ => rdcReadmitWrite_keep ..
  | .rdcSelftestWrite .., _ => rdcSelftestWrite_keep ..
  | .selftestComplete .., _ => selftestComplete_keep ..
  | .hrdClaimRead .., _ => hrdClaimRead_keep ..
  | .stageClaimTimeout .., _ => stageClaimTimeout_keep ..
  | .herdCreate .., _ => herdCreate_keep ..
  | .herdDestroy .., _ => herdDestroy_keep ..
  | .herdAbortCmd .., _ => herdAbortCmd_keep ..
  | .herdSwapCmd .., _ => herdSwapCmd_keep ..
  | .herdContrib .., _ => herdContrib_keep ..
  | .herdPartial .., _ => herdPartial_keep ..
  | .herdResult .., _ => herdResult_keep ..
  | .herdJoin .., _ => herdJoin_keep ..
  | .herdCounts .., _ => herdCounts_keep ..
  | .herdRecord .., _ => herdRecord_keep ..
  | .chunkReduced .., _ => chunkReduced_keep ..
  | .herdSignalReceive .., _ => herdSignalReceive_keep ..
  | .herdCplReceive .., _ => herdCplReceive_keep ..
  | .herdAbortReceive .., _ => herdAbortReceive_keep ..
  | .herdSwapReceive .., _ => herdSwapReceive_keep ..
  | .herdAckReceive .., _ => herdAckReceive_keep ..
  | .herdTimerExpiry .., _ => herdTimerExpiry_keep ..
  | .abortingTimeout .., _ => abortingTimeout_keep ..
  | .svcClaimRead .., _ => svcClaimRead_keep ..
  | .svcLoad .., _ => svcLoad_keep ..
  | .svcUnload .., _ => svcUnload_keep ..
  | .svcAttach .., _ => svcAttach_keep ..
  | .svcDetach .., _ => svcDetach_keep ..
  | .svcConst .., _ => svcConst_keep ..
  | .svcSeal .., _ => svcSeal_keep ..
  | .svcUnseal .., _ => svcUnseal_keep ..
  | .svcTableSet .., _ => svcTableSet_keep ..
  | .svcTableClr .., _ => svcTableClr_keep ..
  | .programChunkDone .., _ => programChunkDone_keep ..
  | .regionHashDone .., _ => regionHashDone_keep ..
  | .attCommitWrite .., _ => attCommitWrite_keep ..
  | .memRd .., _ => memRd_keep ..
  | .memInv .., _ => memInv_keep ..
  | .memWr .., _ => memWr_keep ..
  | .memClnEvct .., _ => memClnEvct_keep ..
  | .memSpecRd dpa, s => memSpecRd_keep dpa s
  | .biRsp .., _ => biRsp_keep ..
  | .biConflict .., _ => biConflict_keep ..
  | .invSubmit .., _ => invSubmit_keep ..
  | .invalAckReceive .., _ => invalAckReceive_keep ..
  | .invalTimeout .., _ => invalTimeout_keep ..
  | .invRecordWrite .., _ => invRecordWrite_keep ..
  | .hostLinkDown .., _ => hostLinkDown_keep ..
  | .hdmCommit .., _ => hdmCommit_keep ..
  | .biEnWrite .., _ => biEnWrite_keep ..
  | .ideCheckFail .., _ => ideCheckFail_keep ..
  | .tspGetVersion .., _ => tspGetVersion_keep ..
  | .tspGetCapabilities .., _ => tspGetCapabilities_keep ..
  | .tspSetConfig .., _ => tspSetConfig_keep ..
  | .tspLockConfig .., _ => tspLockConfig_keep ..
  | .tspGetReport .., _ => tspGetReport_keep ..
  | .identifyMemoryDevice .., _ => identifyMemoryDevice_keep ..
  | .getSupportedLogs .., _ => getSupportedLogs_keep ..
  | .getLog .., _ => getLog_keep ..
  | .getEventRecords .., _ => getEventRecords_keep ..
  | .clearEventRecords .., _ => clearEventRecords_keep ..
  | .getEventInterruptPolicy .., _ => getEventInterruptPolicy_keep ..
  | .setEventInterruptPolicy .., _ => setEventInterruptPolicy_keep ..
  | .getHealthInfo .., _ => getHealthInfo_keep ..
  | .getTimestamp .., _ => getTimestamp_keep ..
  | .setTimestamp .., _ => setTimestamp_keep ..
  | .cxdDeviceDetect .., _ => cxdDeviceDetect_keep ..
  | .cxdRestart .., _ => cxdRestart_keep ..
  | .dctBegin .., _ => dctBegin_keep ..
  | .dctRecWrite .., _ => dctRecWrite_keep ..
  | .dctSeal .., _ => dctSeal_keep ..
  | .dctCancel .., _ => dctCancel_keep ..
  | .sigStart .., _ => sigStart_keep ..
  | .sigDataWrite .., _ => sigDataWrite_keep ..
  | .sigSubmit .., _ => sigSubmit_keep ..
  | .sigVerifyDone .., _ => sigVerifyDone_keep ..
  | .dctWindowExpiry .., _ => dctWindowExpiry_keep ..
  | .bindingSetReceive .., _ => bindingSetReceive_keep ..
  | .bindingAckReceive .., _ => bindingAckReceive_keep ..
  | .bindingResendTimer .., _ => bindingResendTimer_keep ..
  | .imageWriteDone .., _ => imageWriteDone_keep ..
  | .spdmGetVersion .., _ => spdmGetVersion_keep ..
  | .spdmGetCapabilities .., _ => spdmGetCapabilities_keep ..
  | .spdmNegotiateAlgorithms .., _ => spdmNegotiateAlgorithms_keep ..
  | .spdmGetDigests .., _ => spdmGetDigests_keep ..
  | .spdmGetCertificate .., _ => spdmGetCertificate_keep ..
  | .spdmChallenge .., _ => spdmChallenge_keep ..
  | .spdmGetMeasurements .., _ => spdmGetMeasurements_keep ..
  | .spdmKeyExchange .., _ => spdmKeyExchange_keep ..
  | .spdmFinish .., _ => spdmFinish_keep ..
  | .spdmEndSession .., _ => spdmEndSession_keep ..
  | .spdmVendorDefined .., _ => spdmVendorDefined_keep ..
  | .spdmRefusedRequest .., _ => spdmRefusedRequest_keep ..
  | .watchdogExpiry .., _ => watchdogExpiry_keep ..
  | .wdtPet .., _ => wdtPet_keep ..
  | .secWatchdogExpiry .., _ => secWatchdogExpiry_keep ..
  | .coreRestartDone .., _ => coreRestartDone_keep ..
  | .hello .., _ => hello_keep ..
  | .goodbye .., _ => goodbye_keep ..
  | .ctxReclaim .., _ => ctxReclaim_keep ..
  | .ctxReset .., _ => ctxReset_keep ..
  | .fwStage .., _ => fwStage_keep ..
  | .fwActivate .., _ => fwActivate_keep ..
  | .fwCancel .., _ => fwCancel_keep ..
  | .fwConfirm .., _ => fwConfirm_keep ..
  | .fwConfirmWrite .., _ => fwConfirmWrite_keep ..
  | .pldmFwUpdate .., _ => pldmFwUpdate_keep ..
  | .pldmActivateFirmware .., _ => pldmActivateFirmware_keep ..
  | .pldmCancelUpdate .., _ => pldmCancelUpdate_keep ..
  | .stagingDone .., _ => stagingDone_keep ..
  | .activationP0WaitExpiry .., _ => activationP0WaitExpiry_keep ..
  | .safePointReached .., _ => safePointReached_keep ..
  | .safePointTimeout .., _ => safePointTimeout_keep ..
  | .imageRestartDone .., _ => imageRestartDone_keep ..
  | .trialConfirmTimer .., _ => trialConfirmTimer_keep ..
  | .hbBeat .., _ => hbBeat_keep ..
  | .hbWindowClose .., _ => State_windowClose_keep ..
  | .contextQuiesce .., _ => contextQuiesce_keep ..
  | .i3cAddressAssign .., _ => i3cAddressAssign_keep ..
  | .sbRegisterAccess .., _ => sbRegisterAccess_keep ..
  | .mctpControl .., _ => mctpControl_keep ..
  | .pldmMonitoring .., _ => pldmMonitoring_keep ..
  | .pageEnableWrite .., _ => pageEnableWrite_keep ..
  | .pageSoftReset .., _ => pageSoftReset_keep ..
  | .softResetDone .., _ => softResetDone_keep ..
  | .pageFence .., _ => pageFence_keep ..
  | .intForceWrite .., _ => intForceWrite_keep ..
  | .errCountWrite .., _ => errCountWrite_keep ..
  | .errLogClear .., _ => errLogClear_keep ..
  | .errLog3Read .., _ => errLog3Read_keep ..
  | .registerWrite .., _ => registerWrite_keep ..
  | .hostLinkUp .., _ => hostLinkUp_keep ..
  | .imageRestartTimeout .., _ => imageRestartTimeout_keep ..
  | .tableEccFatal .., _ => tableEccFatal_keep ..
  | .securityCoreFatalAlarm .., _ => securityCoreFatalAlarm_keep ..
  | .mainRailsOn .., _ => mainRailsOn_keep ..
  | .standbyPowerOff .., _ => standbyPowerOff_keep ..
  | .patternCheckerLock .., _ => patternCheckerLock_keep ..
  | .rekeyCtrlReceive .., _ => State_startRekey_keep ..
  | .tapInstructionLoad .., _ => tapInstructionLoad_keep ..
  | .tapReset .., _ => tapReset_keep ..
  | .ucieDegrade .., _ => ucieDegrade_keep ..
  | .backlogAverageUpdate .., _ => backlogAverageUpdate_keep ..
  | .olClearDone .., _ => olClearDone_keep ..
  | .tspRefusedRequest .., _ => tspRefusedRequest_keep ..
  | .memdevUnsupportedCommand .., _ => memdevUnsupportedCommand_keep ..
  | .congestionNoticeInterval .., _ => congestionNoticeInterval_keep ..

/-- Settles O57: the queue is among what every command keeps. -/
theorem commandsLeaveTheQueueAlone : Obligations.CommandsLeaveTheQueueAlone := by
  intro c s t h
  rw [eq_nextState h]
  exact congrArg (fun k => k.2.2) (nextState_keep c s)

theorem identity_of_keep {s t : State} (h : t.keep = s.keep) : t.identity = s.identity :=
  congrArg (fun k => (k.1, k.2.1)) h

/-- A step on an empty queue is a tick, any other step is a command; both keep the identification words. -/
theorem step_identity {s t : State} (h : step s = .next t) : t.identity = s.identity := by
  unfold step at h
  split at h
  case h_1 => exact Host.Outcome.next.inj h ▸ identity_of_keep (State_tick_keep s)
  case h_2 c rest _ => rw [eq_nextState h]; exact (identity_of_keep (nextState_keep c _)).trans rfl

/-- Settles O56: no step writes an identification register, whatever the state. -/
theorem identificationNeverChanges : Obligations.IdentificationNeverChanges := by
  refine ⟨fun s t hs h => (step_identity h).trans hs, fun s t h => ?_⟩
  exact ⟨congrArg Prod.fst (step_identity h), congrArg Prod.snd (step_identity h)⟩

/-- A watch off the components that a command may change sees nothing of it. -/
theorem nextState_view {wt : Comp → Bool} : ∀ (c : Instr) (s : State), Off wt (mayChange c) → (nextState c s).view wt = s.view wt
  | .resetRelease .sw _, _, hoff => resetRelease_sw_frame (hoff := hoff) ..
  | .resetRelease .ep _, _, hoff => resetRelease_ep_frame (hoff := hoff) ..
  | .standbyPowerOn .sw samples, s, hoff => standbyPowerOn_sw_frame samples s hoff
  | .standbyPowerOn .ep samples, s, hoff => standbyPowerOn_ep_frame samples s hoff
  | .startupStepDone .., _, hoff => startupStepDone_frame (hoff := hoff) ..
  | .endpointStartupStepDone .., _, hoff => endpointStartupStepDone_frame (hoff := hoff) ..
  | .rstNPulse .sw _, _, hoff => rstNPulse_sw_frame (hoff := hoff) ..
  | .rstNPulse .ep _, _, hoff => rstNPulse_ep_frame (hoff := hoff) ..
  | .rstCold .., _, hoff => rstCold_frame (hoff := hoff) ..
  | .rstWarm .., _, hoff => rstWarm_frame (hoff := hoff) ..
  | .rstFabric .., _, hoff => rstFabric_frame (hoff := hoff) ..
  | .epRstWarm .., _, hoff => epRstWarm_frame (hoff := hoff) ..
  | .epRstFabric .., _, hoff => epRstFabric_frame (hoff := hoff) ..
  | .mainRailsLost .sw, _, hoff => mainRailsLost_sw_frame (hoff := hoff) ..
  | .mainRailsLost .ep, _, hoff => mainRailsLost_ep_frame (hoff := hoff) ..
  | .layoutWrite .., _, hoff => layoutWrite_frame (hoff := hoff) ..
  | .switchGroupWrite .., _, hoff => switchGroupWrite_frame (hoff := hoff) ..
  | .refLoss .sw, _, hoff => refLoss_sw_frame (hoff := hoff) ..
  | .refLoss .ep, _, hoff => refLoss_ep_frame (hoff := hoff) ..
  | .refReturn .sw _, _, hoff => refReturn_sw_frame (hoff := hoff) ..
  | .refReturn .ep _, _, hoff => refReturn_ep_frame (hoff := hoff) ..
  | .holdoverExpiry .sw, _, hoff => holdoverExpiry_sw_frame (hoff := hoff) ..
  | .holdoverExpiry .ep, _, hoff => holdoverExpiry_ep_frame (hoff := hoff) ..
  | .pllLockLoss .sw, _, hoff => pllLockLoss_sw_frame (hoff := hoff) ..
  | .pllLockLoss .ep, _, hoff => pllLockLoss_ep_frame (hoff := hoff) ..
  | .pwrAlertAssert .., _, hoff => pwrAlertAssert_frame (hoff := hoff) ..
  | .pwrAlertDeassert .., _, hoff => pwrAlertDeassert_frame (hoff := hoff) ..
  | .thermAlertAssert .., _, hoff => thermAlertAssert_frame (hoff := hoff) ..
  | .thermAlertDeassert .., _, hoff => thermAlertDeassert_frame (hoff := hoff) ..
  | .thermP3DelayExpiry .., _, hoff => thermP3DelayExpiry_frame (hoff := hoff) ..
  | .pwrCapChange .., _, hoff => pwrCapChange_frame (hoff := hoff) ..
  | .forceLevelWrite .., _, hoff => forceLevelWrite_frame (hoff := hoff) ..
  | .throttleHoldExpiry .., _, hoff => throttleHoldExpiry_frame (hoff := hoff) ..
  | .powerControlSample .sw _, _, hoff => powerControlSample_sw_frame (hoff := hoff) ..
  | .powerControlSample .ep _, _, hoff => powerControlSample_ep_frame (hoff := hoff) ..
  | .dieSensorSample .sw _, _, hoff => dieSensorSample_sw_frame (hoff := hoff) ..
  | .dieSensorSample .ep _, _, hoff => dieSensorSample_ep_frame (hoff := hoff) ..
  | .hbmStackThrottle .., _, hoff => hbmStackThrottle_frame (hoff := hoff) ..
  | .tackupDetectProbe .sw _ _ _, _, hoff => tackupDetectProbe_sw_frame (hoff := hoff) ..
  | .tackupDetectProbe .ep _ _ _, _, hoff => tackupDetectProbe_ep_frame (hoff := hoff) ..
  | .tackupPreambleTmo .sw _, _, hoff => tackupPreambleTmo_sw_frame (hoff := hoff) ..
  | .tackupPreambleTmo .ep _, _, hoff => tackupPreambleTmo_ep_frame (hoff := hoff) ..
  | .laneEqPass .sw _ _ _ _ _ _, _, hoff => laneEqPass_sw_frame (hoff := hoff) ..
  | .laneEqPass .ep _ _ _ _ _ _, _, hoff => laneEqPass_ep_frame (hoff := hoff) ..
  | .eqTimerExpiry .sw _, _, hoff => eqTimerExpiry_sw_frame (hoff := hoff) ..
  | .eqTimerExpiry .ep _, _, hoff => eqTimerExpiry_ep_frame (hoff := hoff) ..
  | .flitLock .sw _, _, hoff => flitLock_sw_frame (hoff := hoff) ..
  | .flitLock .ep _, _, hoff => flitLock_ep_frame (hoff := hoff) ..
  | .lockTmo .sw _, _, hoff => lockTmo_sw_frame (hoff := hoff) ..
  | .lockTmo .ep _, _, hoff => lockTmo_ep_frame (hoff := hoff) ..
  | .capReceive .sw _ _, _, hoff => capReceive_sw_frame (hoff := hoff) ..
  | .capReceive .ep _ _, _, hoff => capReceive_ep_frame (hoff := hoff) ..
  | .refuseReceive .sw _ _, _, hoff => refuseReceive_sw_frame (hoff := hoff) ..
  | .refuseReceive .ep _ _, _, hoff => refuseReceive_ep_frame (hoff := hoff) ..
  | .pingReceive .sw _ _, _, hoff => pingReceive_sw_frame (hoff := hoff) ..
  | .pingReceive .ep _ _, _, hoff => pingReceive_ep_frame (hoff := hoff) ..
  | .pongReceive .sw _ _, _, hoff => pongReceive_sw_frame (hoff := hoff) ..
  | .pongReceive .ep _ _, _, hoff => pongReceive_ep_frame (hoff := hoff) ..
  | .readyReceive .sw _, _, hoff => readyReceive_sw_frame (hoff := hoff) ..
  | .readyReceive .ep _, _, hoff => readyReceive_ep_frame (hoff := hoff) ..
  | .capxTmo .sw _, _, hoff => capxTmo_sw_frame (hoff := hoff) ..
  | .capxTmo .ep _, _, hoff => capxTmo_ep_frame (hoff := hoff) ..
  | .tackRetryTimer .sw _, _, hoff => tackRetryTimer_sw_frame (hoff := hoff) ..
  | .tackRetryTimer .ep _, _, hoff => tackRetryTimer_ep_frame (hoff := hoff) ..
  | .partnerRedetect .sw _ _, _, hoff => partnerRedetect_sw_frame (hoff := hoff) ..
  | .partnerRedetect .ep _ _, _, hoff => partnerRedetect_ep_frame (hoff := hoff) ..
  | .fptRestart _ .sw _, _, hoff => fptRestart_sw_frame (hoff := hoff) ..
  | .fptRestart _ .ep _, _, hoff => fptRestart_ep_frame (hoff := hoff) ..
  | .fptRetrain _ .sw _, _, hoff => fptRetrain_sw_frame (hoff := hoff) ..
  | .fptRetrain _ .ep _, _, hoff => fptRetrain_ep_frame (hoff := hoff) ..
  | .fptDisable _ .sw _ _, _, hoff => fptDisable_sw_frame (hoff := hoff) ..
  | .fptDisable _ .ep _ _, _, hoff => fptDisable_ep_frame (hoff := hoff) ..
  | .retrainSetReceive .sw _, _, hoff => retrainSetReceive_sw_frame (hoff := hoff) ..
  | .retrainSetReceive .ep _, _, hoff => retrainSetReceive_ep_frame (hoff := hoff) ..
  | .retrainComplete .sw _ _, _, hoff => retrainComplete_sw_frame (hoff := hoff) ..
  | .retrainComplete .ep _ _, _, hoff => retrainComplete_ep_frame (hoff := hoff) ..
  | .retrainTimeout .sw _, _, hoff => retrainTimeout_sw_frame (hoff := hoff) ..
  | .retrainTimeout .ep _, _, hoff => retrainTimeout_ep_frame (hoff := hoff) ..
  | .retrainBitlockTmo .sw _, _, hoff => retrainBitlockTmo_sw_frame (hoff := hoff) ..
  | .retrainBitlockTmo .ep _, _, hoff => retrainBitlockTmo_ep_frame (hoff := hoff) ..
  | .shedWindowExpiry .sw _, _, hoff => shedWindowExpiry_sw_frame (hoff := hoff) ..
  | .shedWindowExpiry .ep _, _, hoff => shedWindowExpiry_ep_frame (hoff := hoff) ..
  | .laneLockLoss .sw _ _, _, hoff => laneLockLoss_sw_frame (hoff := hoff) ..
  | .laneLockLoss .ep _ _, _, hoff => laneLockLoss_ep_frame (hoff := hoff) ..
  | .shedReceive .sw _ _ _, _, hoff => shedReceive_sw_frame (hoff := hoff) ..
  | .shedReceive .ep _ _ _, _, hoff => shedReceive_ep_frame (hoff := hoff) ..
  | .shedAckReceive .sw _ _ _, _, hoff => shedAckReceive_sw_frame (hoff := hoff) ..
  | .shedAckReceive .ep _ _ _, _, hoff => shedAckReceive_ep_frame (hoff := hoff) ..
  | .shedGoReceive .sw _, _, hoff => shedGoReceive_sw_frame (hoff := hoff) ..
  | .shedGoReceive .ep _, _, hoff => shedGoReceive_ep_frame (hoff := hoff) ..
  | .fifoSlip .sw _, _, hoff => fifoSlip_sw_frame (hoff := hoff) ..
  | .fifoSlip .ep _, _, hoff => fifoSlip_ep_frame (hoff := hoff) ..
  | .signalLoss .sw _, _, hoff => signalLoss_sw_frame (hoff := hoff) ..
  | .signalLoss .ep _, _, hoff => signalLoss_ep_frame (hoff := hoff) ..
  | .flitReceive .sw _ _, _, hoff => State_flitIn_sw_frame (hoff := hoff) ..
  | .flitReceive .ep _ _, _, hoff => State_flitIn_ep_frame (hoff := hoff) ..
  | .nakReceive .sw _ _, _, hoff => nakReceive_sw_frame (hoff := hoff) ..
  | .nakReceive .ep _ _, _, hoff => nakReceive_ep_frame (hoff := hoff) ..
  | .replayTimerExpiry .sw _, _, hoff => replayTimerExpiry_sw_frame (hoff := hoff) ..
  | .replayTimerExpiry .ep _, _, hoff => replayTimerExpiry_ep_frame (hoff := hoff) ..
  | .groupClose .sw _, _, hoff => groupClose_sw_frame (hoff := hoff) ..
  | .groupClose .ep _, _, hoff => groupClose_ep_frame (hoff := hoff) ..
  | .sealReceive .sw _ _ _ _, _, hoff => sealReceive_sw_frame (hoff := hoff) ..
  | .sealReceive .ep _ _ _ _, _, hoff => sealReceive_ep_frame (hoff := hoff) ..
  | .kexInitReceive .sw _ _, _, hoff => kexInitReceive_sw_frame (hoff := hoff) ..
  | .kexInitReceive .ep _ _, _, hoff => kexInitReceive_ep_frame (hoff := hoff) ..
  | .kexRespReceive .sw _ _, _, hoff => kexRespReceive_sw_frame (hoff := hoff) ..
  | .kexRespReceive .ep _ _, _, hoff => kexRespReceive_ep_frame (hoff := hoff) ..
  | .kexTimeout .sw _, _, hoff => kexTimeout_sw_frame (hoff := hoff) ..
  | .kexTimeout .ep _, _, hoff => kexTimeout_ep_frame (hoff := hoff) ..
  | .rekeyRequest _ .sw _, _, hoff => rekeyRequestWrite_sw_frame (hoff := hoff) ..
  | .rekeyRequest _ .ep _, _, hoff => rekeyRequestWrite_ep_frame (hoff := hoff) ..
  | .rekeySoftPoint .sw _, _, hoff => rekeySoftPoint_sw_frame (hoff := hoff) ..
  | .rekeySoftPoint .ep _, _, hoff => rekeySoftPoint_ep_frame (hoff := hoff) ..
  | .keyExhausted .sw _, _, hoff => keyExhausted_sw_frame (hoff := hoff) ..
  | .keyExhausted .ep _, _, hoff => keyExhausted_ep_frame (hoff := hoff) ..
  | .switchPacketArrival .., _, hoff => switchPacketArrival_frame (hoff := hoff) ..
  | .creditReserve .., _, hoff => creditReserve_frame (hoff := hoff) ..
  | .egressPacketStart .., _, hoff => egressPacketStart_frame (hoff := hoff) ..
  | .sramUncorrectable .., _, hoff => sramUncorrectable_frame (hoff := hoff) ..
  | .midFenceSet .., _, hoff => midFenceSet_frame (hoff := hoff) ..
  | .congNoticeReceive .., _, hoff => congNoticeReceive_frame (hoff := hoff) ..
  | .mcastCopySend .., _, hoff => mcastCopySend_frame (hoff := hoff) ..
  | .lossyResidueExpiry .., _, hoff => lossyResidueExpiry_frame (hoff := hoff) ..
  | .combineWindowExpiry .., _, hoff => combineWindowExpiry_frame (hoff := hoff) ..
  | .combineIssue .., _, hoff => combineIssue_frame (hoff := hoff) ..
  | .switchReqTimeout .., _, hoff => switchReqTimeout_frame (hoff := hoff) ..
  | .outcomeRecordExpiry .., _, hoff => outcomeRecordExpiry_frame (hoff := hoff) ..
  | .outcomeReleaseReceive .sw _, _, hoff => outcomeReleaseReceive_sw_frame (hoff := hoff) ..
  | .outcomeReleaseReceive .ep _, _, hoff => outcomeReleaseReceive_ep_frame (hoff := hoff) ..
  | .pmapWrite .., _, hoff => pmapWrite_frame (hoff := hoff) ..
  | .drainProbeReceive .., _, hoff => drainProbeReceive_frame (hoff := hoff) ..
  | .probeAnswer .., _, hoff => probeAnswer_frame (hoff := hoff) ..
  | .probeAckReceive .., _, hoff => probeAckReceive_frame (hoff := hoff) ..
  | .flipSettleExpiry .., _, hoff => flipSettleExpiry_frame (hoff := hoff) ..
  | .routeDownReceive .., _, hoff => routeDownReceive_frame (hoff := hoff) ..
  | .routeUpReceive .., _, hoff => routeUpReceive_frame (hoff := hoff) ..
  | .portActiveReceive .., _, hoff => portActiveReceive_frame (hoff := hoff) ..
  | .routeOkWrite .., _, hoff => routeOkWrite_frame (hoff := hoff) ..
  | .partnerIdentityVerified .sw _ _ _, _, hoff => partnerVerified_sw_frame (hoff := hoff) ..
  | .partnerIdentityVerified .ep _ _ _, _, hoff => partnerVerified_ep_frame (hoff := hoff) ..
  | .rtePortDisable .., _, hoff => rtePortDisable_frame (hoff := hoff) ..
  | .cgtEnableWrite .., _, hoff => cgtEnableWrite_frame (hoff := hoff) ..
  | .telemetryWindowClose .., _, hoff => telemetryWindowClose_frame (hoff := hoff) ..
  | .relayPacket arrived k, s, hoff => by
    show (if arrived.isSome then s.epForward 3 arrived k else s.epInject k).view wt = s.view wt
    split
    · exact State_epForward_frame _ _ _ _ hoff
    · exact State_epInject_frame _ _ hoff
  | .memReq .., _, hoff => memReq_frame (hoff := hoff) ..
  | .doorbell .., _, hoff => doorbell_frame (hoff := hoff) ..
  | .csr .., _, hoff => csr_frame (hoff := hoff) ..
  | .accCpl .., _, hoff => accCpl_frame (hoff := hoff) ..
  | .accTimeout .., _, hoff => accTimeout_frame (hoff := hoff) ..
  | .discardAck .., _, hoff => discardAck_frame (hoff := hoff) ..
  | .ucieDown .., _, hoff => ucieDown_frame (hoff := hoff) ..
  | .ucieUp .., _, hoff => ucieUp_frame (hoff := hoff) ..
  | .qTailWrite .., _, hoff => qTailWrite_frame (hoff := hoff) ..
  | .qEnableWrite .., _, hoff => qEnableWrite_frame (hoff := hoff) ..
  | .descriptorFetch .., _, hoff => descriptorFetch_frame (hoff := hoff) ..
  | .descriptorFetchFail .., _, hoff => descriptorFetchFail_frame (hoff := hoff) ..
  | .cmdNop .., _, hoff => cmdNop_frame (hoff := hoff) ..
  | .cmdGet .., _, hoff => cmdGet_frame (hoff := hoff) ..
  | .cmdPut .., _, hoff => cmdPut_frame (hoff := hoff) ..
  | .cmdAtomic .., _, hoff => cmdAtomic_frame (hoff := hoff) ..
  | .cmdSyncAdd .., _, hoff => cmdSyncAdd_frame (hoff := hoff) ..
  | .cmdSyncSet .., _, hoff => cmdSyncSet_frame (hoff := hoff) ..
  | .cmdSyncRead .., _, hoff => cmdSyncRead_frame (hoff := hoff) ..
  | .cmdSyncWait .., _, hoff => cmdSyncWait_frame (hoff := hoff) ..
  | .cmdSyncSetClear .., _, hoff => cmdSyncSetClear_frame (hoff := hoff) ..
  | .cmdHerd .., _, hoff => cmdHerd_frame (hoff := hoff) ..
  | .cmdGather .., _, hoff => cmdGather_frame (hoff := hoff) ..
  | .cmdScatterAdd .., _, hoff => cmdScatterAdd_frame (hoff := hoff) ..
  | .cmdKstart .., _, hoff => cmdKstart_frame (hoff := hoff) ..
  | .cmdKend .., _, hoff => cmdKend_frame (hoff := hoff) ..
  | .localWaitTmo .., _, hoff => localWaitTmo_frame (hoff := hoff) ..
  | .commandComplete .., _, hoff => commandComplete_frame (hoff := hoff) ..
  | .answerReceive .., _, hoff => answerReceive_frame (hoff := hoff) ..
  | .gatherRowReceive .., _, hoff => gatherRowReceive_frame (hoff := hoff) ..
  | .resendTimer .., _, hoff => resendTimer_frame (hoff := hoff) ..
  | .requestTimeout .., _, hoff => requestTimeout_frame (hoff := hoff) ..
  | .tagHoldExpiry .., _, hoff => tagHoldExpiry_frame (hoff := hoff) ..
  | .outcomeReleaseSend .., _, hoff => outcomeReleaseSend_frame (hoff := hoff) ..
  | .ddpRecordExpiry .., _, hoff => ddpRecordExpiry_frame (hoff := hoff) ..
  | .bridleIncrease .., _, hoff => bridleIncrease_frame (hoff := hoff) ..
  | .windowRequest .., _, hoff => windowRequest_frame (hoff := hoff) ..
  | .winInvWrite .., _, hoff => winInvWrite_frame (hoff := hoff) ..
  | .winValidSet .., _, hoff => winValidSet_frame (hoff := hoff) ..
  | .winValidClear .., _, hoff => winValidClear_frame (hoff := hoff) ..
  | .gntValidSet .., _, hoff => gntValidSet_frame (hoff := hoff) ..
  | .apValidSet .., _, hoff => apValidSet_frame (hoff := hoff) ..
  | .apValidClear .., _, hoff => apValidClear_frame (hoff := hoff) ..
  | .atcFlush .., _, hoff => atcFlush_frame (hoff := hoff) ..
  | .tableReadComplete .., _, hoff => tableReadComplete_frame (hoff := hoff) ..
  | .invalReceive .., _, hoff => invalReceive_frame (hoff := hoff) ..
  | .invalAckSend .., _, hoff => invalAckSend_frame (hoff := hoff) ..
  | .acnEnableWrite .., _, hoff => acnEnableWrite_frame (hoff := hoff) ..
  | .acnEpochExpiry .., _, hoff => acnEpochExpiry_frame (hoff := hoff) ..
  | .rangeValidSet .., _, hoff => rangeValidSet_frame (hoff := hoff) ..
  | .epcNodeIdWrite .., _, hoff => epcNodeIdWrite_frame (hoff := hoff) ..
  | .syncAdd .sw _ _, _, hoff => syncAdd_sw_frame (hoff := hoff) ..
  | .syncAdd .ep _ _, _, hoff => syncAdd_ep_frame (hoff := hoff) ..
  | .syncSet .sw _ _, _, hoff => syncSet_sw_frame (hoff := hoff) ..
  | .syncSet .ep _ _, _, hoff => syncSet_ep_frame (hoff := hoff) ..
  | .syncSetClear .sw _ _, _, hoff => syncSetClear_sw_frame (hoff := hoff) ..
  | .syncSetClear .ep _ _, _, hoff => syncSetClear_ep_frame (hoff := hoff) ..
  | .syncRead .sw _ _, _, hoff => syncRead_sw_frame (hoff := hoff) ..
  | .syncRead .ep _ _, _, hoff => syncRead_ep_frame (hoff := hoff) ..
  | .syncWait .sw _ _, _, hoff => syncWait_sw_frame (hoff := hoff) ..
  | .syncWait .ep _ _, _, hoff => syncWait_ep_frame (hoff := hoff) ..
  | .syncWaitTimeout .sw _ _, _, hoff => syncWaitTimeout_sw_frame (hoff := hoff) ..
  | .syncWaitTimeout .ep _ _, _, hoff => syncWaitTimeout_ep_frame (hoff := hoff) ..
  | .synAcqRead .., _, hoff => synAcqRead_frame (hoff := hoff) ..
  | .synAddWrite .., _, hoff => synAddWrite_frame (hoff := hoff) ..
  | .synErrorClear _ .sw, _, hoff => synErrorClear_sw_frame (hoff := hoff) ..
  | .synErrorClear _ .ep, _, hoff => synErrorClear_ep_frame (hoff := hoff) ..
  | .poolRead .., _, hoff => poolRead_frame (hoff := hoff) ..
  | .poolWrite .., _, hoff => poolWrite_frame (hoff := hoff) ..
  | .poolAtomic .., _, hoff => poolAtomic_frame (hoff := hoff) ..
  | .readShared .., _, hoff => readShared_frame (hoff := hoff) ..
  | .readOwn .., _, hoff => readOwn_frame (hoff := hoff) ..
  | .upgrade .., _, hoff => upgrade_frame (hoff := hoff) ..
  | .writeback .., _, hoff => writeback_frame (hoff := hoff) ..
  | .cleanEvict .., _, hoff => cleanEvict_frame (hoff := hoff) ..
  | .snoopReceive .., _, hoff => snoopReceive_frame (hoff := hoff) ..
  | .snpRspReceive .., _, hoff => snpRspReceive_frame (hoff := hoff) ..
  | .snoopTimeout .., _, hoff => snoopTimeout_frame (hoff := hoff) ..
  | .agtFenceWrite .., _, hoff => agtFenceWrite_frame (hoff := hoff) ..
  | .agtReadmitWrite .., _, hoff => agtReadmitWrite_frame (hoff := hoff) ..
  | .olClearWrite .., _, hoff => olClearWrite_frame (hoff := hoff) ..
  | .olRec1Read .., _, hoff => olRec1Read_frame (hoff := hoff) ..
  | .granRetire .., _, hoff => granRetire_frame (hoff := hoff) ..
  | .drainEnd .., _, hoff => drainEnd_frame (hoff := hoff) ..
  | .scrubGranuleDone .., _, hoff => scrubGranuleDone_frame (hoff := hoff) ..
  | .patrolPass .., _, hoff => patrolPass_frame (hoff := hoff) ..
  | .hbmStackLost .., _, hoff => hbmStackLost_frame (hoff := hoff) ..
  | .bulkFillComplete .., _, hoff => bulkFillComplete_frame (hoff := hoff) ..
  | .bulkWritebackComplete .., _, hoff => bulkWritebackComplete_frame (hoff := hoff) ..
  | .bulkPortDown .., _, hoff => bulkPortDown_frame (hoff := hoff) ..
  | .bulkPortUp .., _, hoff => bulkPortUp_frame (hoff := hoff) ..
  | .prefetchHint .., _, hoff => prefetchHint_frame (hoff := hoff) ..
  | .bulkDevTimeout .., _, hoff => bulkDevTimeout_frame (hoff := hoff) ..
  | .gatherRequest .., _, hoff => gatherRequest_frame (hoff := hoff) ..
  | .scatterAddRequest .., _, hoff => scatterAddRequest_frame (hoff := hoff) ..
  | .ctlRead .sw _, _, hoff => ctlRead_sw_frame (hoff := hoff) ..
  | .ctlRead .ep _, _, hoff => ctlRead_ep_frame (hoff := hoff) ..
  | .ctlWrite .sw _, _, hoff => ctlWrite_sw_frame (hoff := hoff) ..
  | .ctlWrite .ep _, _, hoff => ctlWrite_ep_frame (hoff := hoff) ..
  | .coreResidueFault .., _, hoff => coreResidueFault_frame (hoff := hoff) ..
  | .rdcFenceWrite .., _, hoff => rdcFenceWrite_frame (hoff := hoff) ..
  | .rdcReadmitWrite .., _, hoff => rdcReadmitWrite_frame (hoff := hoff) ..
  | .rdcSelftestWrite .., _, hoff => rdcSelftestWrite_frame (hoff := hoff) ..
  | .selftestComplete .., _, hoff => selftestComplete_frame (hoff := hoff) ..
  | .hrdClaimRead .., _, hoff => hrdClaimRead_frame (hoff := hoff) ..
  | .stageClaimTimeout .., _, hoff => stageClaimTimeout_frame (hoff := hoff) ..
  | .herdCreate .., _, hoff => herdCreate_frame (hoff := hoff) ..
  | .herdDestroy .., _, hoff => herdDestroy_frame (hoff := hoff) ..
  | .herdAbortCmd .., _, hoff => herdAbortCmd_frame (hoff := hoff) ..
  | .herdSwapCmd .., _, hoff => herdSwapCmd_frame (hoff := hoff) ..
  | .herdContrib .., _, hoff => herdContrib_frame (hoff := hoff) ..
  | .herdPartial .., _, hoff => herdPartial_frame (hoff := hoff) ..
  | .herdResult .sw _, _, hoff => herdResult_sw_frame (hoff := hoff) ..
  | .herdResult .ep _, _, hoff => herdResult_ep_frame (hoff := hoff) ..
  | .herdJoin .., _, hoff => herdJoin_frame (hoff := hoff) ..
  | .herdCounts .sw _, _, hoff => herdCounts_sw_frame (hoff := hoff) ..
  | .herdCounts .ep _, _, hoff => herdCounts_ep_frame (hoff := hoff) ..
  | .herdRecord .., _, hoff => herdRecord_frame (hoff := hoff) ..
  | .chunkReduced .., _, hoff => chunkReduced_frame (hoff := hoff) ..
  | .herdSignalReceive .., _, hoff => herdSignalReceive_frame (hoff := hoff) ..
  | .herdCplReceive .sw _, _, hoff => herdCplReceive_sw_frame (hoff := hoff) ..
  | .herdCplReceive .ep _, _, hoff => herdCplReceive_ep_frame (hoff := hoff) ..
  | .herdAbortReceive .sw _, _, hoff => herdAbortReceive_sw_frame (hoff := hoff) ..
  | .herdAbortReceive .ep _, _, hoff => herdAbortReceive_ep_frame (hoff := hoff) ..
  | .herdSwapReceive .., _, hoff => herdSwapReceive_frame (hoff := hoff) ..
  | .herdAckReceive .., _, hoff => herdAckReceive_frame (hoff := hoff) ..
  | .herdTimerExpiry .., _, hoff => herdTimerExpiry_frame (hoff := hoff) ..
  | .abortingTimeout .., _, hoff => abortingTimeout_frame (hoff := hoff) ..
  | .svcClaimRead .., _, hoff => svcClaimRead_frame (hoff := hoff) ..
  | .svcLoad .., _, hoff => svcLoad_frame (hoff := hoff) ..
  | .svcUnload .., _, hoff => svcUnload_frame (hoff := hoff) ..
  | .svcAttach .., _, hoff => svcAttach_frame (hoff := hoff) ..
  | .svcDetach .., _, hoff => svcDetach_frame (hoff := hoff) ..
  | .svcConst .., _, hoff => svcConst_frame (hoff := hoff) ..
  | .svcSeal .., _, hoff => svcSeal_frame (hoff := hoff) ..
  | .svcUnseal .., _, hoff => svcUnseal_frame (hoff := hoff) ..
  | .svcTableSet .., _, hoff => svcTableSet_frame (hoff := hoff) ..
  | .svcTableClr .., _, hoff => svcTableClr_frame (hoff := hoff) ..
  | .programChunkDone .., _, hoff => programChunkDone_frame (hoff := hoff) ..
  | .regionHashDone .., _, hoff => regionHashDone_frame (hoff := hoff) ..
  | .attCommitWrite .., _, hoff => attCommitWrite_frame (hoff := hoff) ..
  | .memRd .., _, hoff => memRd_frame (hoff := hoff) ..
  | .memInv .., _, hoff => memInv_frame (hoff := hoff) ..
  | .memWr .., _, hoff => memWr_frame (hoff := hoff) ..
  | .memClnEvct .., _, hoff => memClnEvct_frame (hoff := hoff) ..
  | .memSpecRd dpa, s, _ => memSpecRd_frame dpa s
  | .biRsp .., _, hoff => biRsp_frame (hoff := hoff) ..
  | .biConflict .., _, hoff => biConflict_frame (hoff := hoff) ..
  | .invSubmit .., _, hoff => invSubmit_frame (hoff := hoff) ..
  | .invalAckReceive .., _, hoff => invalAckReceive_frame (hoff := hoff) ..
  | .invalTimeout .., _, hoff => invalTimeout_frame (hoff := hoff) ..
  | .invRecordWrite .., _, hoff => invRecordWrite_frame (hoff := hoff) ..
  | .hostLinkDown .., _, hoff => hostLinkDown_frame (hoff := hoff) ..
  | .hdmCommit .., _, hoff => hdmCommit_frame (hoff := hoff) ..
  | .biEnWrite .., _, hoff => biEnWrite_frame (hoff := hoff) ..
  | .ideCheckFail .., _, hoff => ideCheckFail_frame (hoff := hoff) ..
  | .tspGetVersion .., _, hoff => tspGetVersion_frame (hoff := hoff) ..
  | .tspGetCapabilities .., _, hoff => tspGetCapabilities_frame (hoff := hoff) ..
  | .tspSetConfig .., _, hoff => tspSetConfig_frame (hoff := hoff) ..
  | .tspLockConfig .., _, hoff => tspLockConfig_frame (hoff := hoff) ..
  | .tspGetReport .., _, hoff => tspGetReport_frame (hoff := hoff) ..
  | .identifyMemoryDevice .., _, hoff => identifyMemoryDevice_frame (hoff := hoff) ..
  | .getSupportedLogs .., _, hoff => getSupportedLogs_frame (hoff := hoff) ..
  | .getLog .., _, hoff => getLog_frame (hoff := hoff) ..
  | .getEventRecords .., _, hoff => getEventRecords_frame (hoff := hoff) ..
  | .clearEventRecords .., _, hoff => clearEventRecords_frame (hoff := hoff) ..
  | .getEventInterruptPolicy .., _, hoff => getEventInterruptPolicy_frame (hoff := hoff) ..
  | .setEventInterruptPolicy .., _, hoff => setEventInterruptPolicy_frame (hoff := hoff) ..
  | .getHealthInfo .., _, hoff => getHealthInfo_frame (hoff := hoff) ..
  | .getTimestamp .., _, hoff => getTimestamp_frame (hoff := hoff) ..
  | .setTimestamp .., _, hoff => setTimestamp_frame (hoff := hoff) ..
  | .cxdDeviceDetect .., _, hoff => cxdDeviceDetect_frame (hoff := hoff) ..
  | .cxdRestart .., _, hoff => cxdRestart_frame (hoff := hoff) ..
  | .dctBegin .., _, hoff => dctBegin_frame (hoff := hoff) ..
  | .dctRecWrite .., _, hoff => dctRecWrite_frame (hoff := hoff) ..
  | .dctSeal .., _, hoff => dctSeal_frame (hoff := hoff) ..
  | .dctCancel .., _, hoff => dctCancel_frame (hoff := hoff) ..
  | .sigStart .., _, hoff => sigStart_frame (hoff := hoff) ..
  | .sigDataWrite .., _, hoff => sigDataWrite_frame (hoff := hoff) ..
  | .sigSubmit .., _, hoff => sigSubmit_frame (hoff := hoff) ..
  | .sigVerifyDone .., _, hoff => sigVerifyDone_frame (hoff := hoff) ..
  | .dctWindowExpiry .., _, hoff => dctWindowExpiry_frame (hoff := hoff) ..
  | .bindingSetReceive .., _, hoff => bindingSetReceive_frame (hoff := hoff) ..
  | .bindingAckReceive .., _, hoff => bindingAckReceive_frame (hoff := hoff) ..
  | .bindingResendTimer .., _, hoff => bindingResendTimer_frame (hoff := hoff) ..
  | .imageWriteDone .., _, hoff => imageWriteDone_frame (hoff := hoff) ..
  | .spdmGetVersion .sw _, _, hoff => spdmGetVersion_sw_frame (hoff := hoff) ..
  | .spdmGetVersion .ep _, _, hoff => spdmGetVersion_ep_frame (hoff := hoff) ..
  | .spdmGetCapabilities .sw _, _, hoff => spdmGetCapabilities_sw_frame (hoff := hoff) ..
  | .spdmGetCapabilities .ep _, _, hoff => spdmGetCapabilities_ep_frame (hoff := hoff) ..
  | .spdmNegotiateAlgorithms .sw _, _, hoff => spdmNegotiateAlgorithms_sw_frame (hoff := hoff) ..
  | .spdmNegotiateAlgorithms .ep _, _, hoff => spdmNegotiateAlgorithms_ep_frame (hoff := hoff) ..
  | .spdmGetDigests .sw _, _, hoff => spdmGetDigests_sw_frame (hoff := hoff) ..
  | .spdmGetDigests .ep _, _, hoff => spdmGetDigests_ep_frame (hoff := hoff) ..
  | .spdmGetCertificate .sw _ _ _ _, _, hoff => spdmGetCertificate_sw_frame (hoff := hoff) ..
  | .spdmGetCertificate .ep _ _ _ _, _, hoff => spdmGetCertificate_ep_frame (hoff := hoff) ..
  | .spdmChallenge .sw _ _ _, _, hoff => spdmChallenge_sw_frame (hoff := hoff) ..
  | .spdmChallenge .ep _ _ _, _, hoff => spdmChallenge_ep_frame (hoff := hoff) ..
  | .spdmGetMeasurements .sw _ _ _ _, _, hoff => spdmGetMeasurements_sw_frame (hoff := hoff) ..
  | .spdmGetMeasurements .ep _ _ _ _, _, hoff => spdmGetMeasurements_ep_frame (hoff := hoff) ..
  | .spdmKeyExchange .sw _ _, _, hoff => spdmKeyExchange_sw_frame (hoff := hoff) ..
  | .spdmKeyExchange .ep _ _, _, hoff => spdmKeyExchange_ep_frame (hoff := hoff) ..
  | .spdmFinish .sw _ _, _, hoff => spdmFinish_sw_frame (hoff := hoff) ..
  | .spdmFinish .ep _ _, _, hoff => spdmFinish_ep_frame (hoff := hoff) ..
  | .spdmEndSession .sw _, _, hoff => spdmEndSession_sw_frame (hoff := hoff) ..
  | .spdmEndSession .ep _, _, hoff => spdmEndSession_ep_frame (hoff := hoff) ..
  | .spdmVendorDefined .sw _ _, _, hoff => spdmVendorDefined_sw_frame (hoff := hoff) ..
  | .spdmVendorDefined .ep _ _, _, hoff => spdmVendorDefined_ep_frame (hoff := hoff) ..
  | .spdmRefusedRequest .sw _, _, hoff => spdmRefusedRequest_sw_frame (hoff := hoff) ..
  | .spdmRefusedRequest .ep _, _, hoff => spdmRefusedRequest_ep_frame (hoff := hoff) ..
  | .watchdogExpiry .., _, hoff => watchdogExpiry_frame (hoff := hoff) ..
  | .wdtPet .., _, hoff => wdtPet_frame (hoff := hoff) ..
  | .secWatchdogExpiry .sw, _, hoff => secWatchdogExpiry_sw_frame (hoff := hoff) ..
  | .secWatchdogExpiry .ep, _, hoff => secWatchdogExpiry_ep_frame (hoff := hoff) ..
  | .coreRestartDone .., _, hoff => coreRestartDone_frame (hoff := hoff) ..
  | .hello .., _, hoff => hello_frame (hoff := hoff) ..
  | .goodbye .., _, hoff => goodbye_frame (hoff := hoff) ..
  | .ctxReclaim .., _, hoff => ctxReclaim_frame (hoff := hoff) ..
  | .ctxReset .., _, hoff => ctxReset_frame (hoff := hoff) ..
  | .fwStage .., _, hoff => fwStage_frame (hoff := hoff) ..
  | .fwActivate .., _, hoff => fwActivate_frame (hoff := hoff) ..
  | .fwCancel .., _, hoff => fwCancel_frame (hoff := hoff) ..
  | .fwConfirm .., _, hoff => fwConfirm_frame (hoff := hoff) ..
  | .fwConfirmWrite .., _, hoff => fwConfirmWrite_frame (hoff := hoff) ..
  | .pldmFwUpdate .., _, hoff => pldmFwUpdate_frame (hoff := hoff) ..
  | .pldmActivateFirmware .., _, hoff => pldmActivateFirmware_frame (hoff := hoff) ..
  | .pldmCancelUpdate .., _, hoff => pldmCancelUpdate_frame (hoff := hoff) ..
  | .stagingDone .., _, hoff => stagingDone_frame (hoff := hoff) ..
  | .activationP0WaitExpiry .., _, hoff => activationP0WaitExpiry_frame (hoff := hoff) ..
  | .safePointReached .., _, hoff => safePointReached_frame (hoff := hoff) ..
  | .safePointTimeout .., _, hoff => safePointTimeout_frame (hoff := hoff) ..
  | .imageRestartDone .., _, hoff => imageRestartDone_frame (hoff := hoff) ..
  | .trialConfirmTimer .., _, hoff => trialConfirmTimer_frame (hoff := hoff) ..
  | .hbBeat .., _, hoff => hbBeat_frame (hoff := hoff) ..
  | .hbWindowClose .., _, hoff => State_windowClose_frame (hoff := hoff) ..
  | .contextQuiesce .., _, hoff => contextQuiesce_frame (hoff := hoff) ..
  | .i3cAddressAssign .., _, hoff => i3cAddressAssign_frame (hoff := hoff) ..
  | .sbRegisterAccess .., _, hoff => sbRegisterAccess_frame (hoff := hoff) ..
  | .mctpControl .., _, hoff => mctpControl_frame (hoff := hoff) ..
  | .pldmMonitoring .., _, hoff => pldmMonitoring_frame (hoff := hoff) ..
  | .pageEnableWrite _ .sw _ _, _, hoff => pageEnableWrite_sw_frame (hoff := hoff) ..
  | .pageEnableWrite _ .ep _ _, _, hoff => pageEnableWrite_ep_frame (hoff := hoff) ..
  | .pageSoftReset _ .sw _, _, hoff => pageSoftReset_sw_frame (hoff := hoff) ..
  | .pageSoftReset _ .ep _, _, hoff => pageSoftReset_ep_frame (hoff := hoff) ..
  | .softResetDone .sw _, _, hoff => softResetDone_sw_frame (hoff := hoff) ..
  | .softResetDone .ep _, _, hoff => softResetDone_ep_frame (hoff := hoff) ..
  | .pageFence _ .sw _, _, hoff => pageFence_sw_frame (hoff := hoff) ..
  | .pageFence _ .ep _, _, hoff => pageFence_ep_frame (hoff := hoff) ..
  | .intForceWrite _ .sw _ _, _, hoff => intForceWrite_sw_frame (hoff := hoff) ..
  | .intForceWrite _ .ep _ _, _, hoff => intForceWrite_ep_frame (hoff := hoff) ..
  | .errCountWrite _ .sw _ _, _, hoff => errCountWrite_sw_frame (hoff := hoff) ..
  | .errCountWrite _ .ep _ _, _, hoff => errCountWrite_ep_frame (hoff := hoff) ..
  | .errLogClear _ .sw, _, hoff => errLogClear_sw_frame (hoff := hoff) ..
  | .errLogClear _ .ep, _, hoff => errLogClear_ep_frame (hoff := hoff) ..
  | .errLog3Read _ .sw, _, hoff => errLog3Read_sw_frame (hoff := hoff) ..
  | .errLog3Read _ .ep, _, hoff => errLog3Read_ep_frame (hoff := hoff) ..
  | .registerWrite _ .sw _ _ _ _, _, hoff => registerWrite_sw_frame (hoff := hoff) ..
  | .registerWrite _ .ep _ _ _ _, _, hoff => registerWrite_ep_frame (hoff := hoff) ..
  | .hostLinkUp .., _, hoff => hostLinkUp_frame (hoff := hoff) ..
  | .imageRestartTimeout .., _, hoff => imageRestartTimeout_frame (hoff := hoff) ..
  | .tableEccFatal .., _, hoff => tableEccFatal_frame (hoff := hoff) ..
  | .securityCoreFatalAlarm .., _, hoff => securityCoreFatalAlarm_frame (hoff := hoff) ..
  | .mainRailsOn .sw, _, hoff => mainRailsOn_sw_frame (hoff := hoff) ..
  | .mainRailsOn .ep, _, hoff => mainRailsOn_ep_frame (hoff := hoff) ..
  | .standbyPowerOff .sw, _, hoff => standbyPowerOff_sw_frame (hoff := hoff) ..
  | .standbyPowerOff .ep, _, hoff => standbyPowerOff_ep_frame (hoff := hoff) ..
  | .patternCheckerLock .sw _ _, _, hoff => patternCheckerLock_sw_frame (hoff := hoff) ..
  | .patternCheckerLock .ep _ _, _, hoff => patternCheckerLock_ep_frame (hoff := hoff) ..
  | .rekeyCtrlReceive .sw _, _, hoff => State_startRekey_sw_frame (hoff := hoff) ..
  | .rekeyCtrlReceive .ep _, _, hoff => State_startRekey_ep_frame (hoff := hoff) ..
  | .tapInstructionLoad .sw _ _, _, hoff => tapInstructionLoad_sw_frame (hoff := hoff) ..
  | .tapInstructionLoad .ep _ _, _, hoff => tapInstructionLoad_ep_frame (hoff := hoff) ..
  | .tapReset .sw _, _, hoff => tapReset_sw_frame (hoff := hoff) ..
  | .tapReset .ep _, _, hoff => tapReset_ep_frame (hoff := hoff) ..
  | .ucieDegrade .., _, hoff => ucieDegrade_frame (hoff := hoff) ..
  | .backlogAverageUpdate .., _, hoff => backlogAverageUpdate_frame (hoff := hoff) ..
  | .olClearDone .., _, hoff => olClearDone_frame (hoff := hoff) ..
  | .tspRefusedRequest .., _, hoff => tspRefusedRequest_frame (hoff := hoff) ..
  | .memdevUnsupportedCommand .., _, hoff => memdevUnsupportedCommand_frame (hoff := hoff) ..
  | .congestionNoticeInterval .sw _ _, _, hoff => congestionNoticeInterval_sw_frame (hoff := hoff) ..
  | .congestionNoticeInterval .ep _ _, _, hoff => congestionNoticeInterval_ep_frame (hoff := hoff) ..

/-- Settles O60: a component apart from those listed is the same before and after, since a watch on it alone sees no change. -/
theorem onlyListedComponentsChange : Obligations.OnlyListedComponentsChange := by
  intro c s t h x hx
  rw [eq_nextState h]
  exact sameIn_of_frame (fun hoff => nextState_view c s hoff) x hx

end Sys2Proof.Machine
end

section
/-! The registers: what they read at cold reset (R487, R497), and what a plain write stores field by field (R503). -/

namespace Sys2Proof.Machine

/-! ### Cold reset -/

theorem read_nil (r : Reg) (b i : Nat) : RegFile.read [] r b i = BitVec.ofNat 64 r.reset := rfl

theorem read_write_other (m : RegFile) {r q : Reg} {b i c j : Nat} (h : q.key c j ≠ r.key b i) (x : Word) :
    (m.write r b i x).read q c j = m.read q c j := by
  rw [read_write, if_neg h]

theorem reset_rd {r : Reg} {b i : Nat} (hid : r.key b i ≠ GLB_ID.key 0 0) (hsec : r.key b i ≠ SEC_STS.key 0 0)
    (hsbp : r.key b i ≠ SBP_STS.key 0 0) : ∀ p, State.reset.rd p r b i = BitVec.ofNat 64 r.reset
  | .sw => by
    simp only [State.rd, State.chip, State.reset, State.resetSwRegs]
    rw [read_write_other _ hsbp, read_write_other _ hsec, read_write_other _ hid, read_nil]
  | .ep => by
    simp only [State.rd, State.chip, State.reset, State.resetEpRegs]
    rw [read_write_other _ hsec, read_write_other _ hid, read_nil]

/-- The reset value of a register put together from its fields. -/
def RegDesc.resetWord (d : RegDesc) : Word := d.fields.foldl (fun m f => setBits m f.lo f.w f.reset) 0

/-- The tables agree with themselves: each reset value is the one that its fields give. -/
theorem tables_resetWord : ((List.range 256).all fun c => (blockRegs c).all fun d => d.resetWord == BitVec.ofNat 64 d.reg.reset) = true := by
  decide +kernel

theorem resetWord_of_mem {c : Nat} (hc : c < 256) {d : RegDesc} (hd : d ∈ blockRegs c) : d.resetWord = BitVec.ofNat 64 d.reg.reset :=
  eq_of_beq (List.all_eq_true.1 (List.all_eq_true.1 tables_resetWord c (List.mem_range.2 hc)) d hd)

/-- Settles O41: cold reset lists three registers, and any other reads its table's value; that value is computed from the fields. -/
theorem resetLeavesTableValues : Obligations.ResetLeavesTableValues := by
  refine ⟨fun p r b i hid hsec hsbp => reset_rd hid hsec hsbp p, fun c hc d hd => resetWord_of_mem hc hd, fun p => ?_, rfl, rfl, rfl, rfl⟩
  cases p <;> exact ⟨rfl, rfl, rfl, rfl⟩

theorem reset_identity : State.reset.identity = (0x00100512, 0x00010064) := by
  decide

/-- Settles O42: the registers listed at reset hold the identification of both parts. -/
theorem resetShowsTheIdentification : Obligations.ResetShowsTheIdentification := reset_identity

/-! ### A plain write -/

/-- What a write makes of a field, or none where it leaves the field as it was. -/
def FieldDesc.written (f : FieldDesc) (old x : Word) : Option Nat :=
  match f.acc with
  | .rw | .rws => some (getBits x f.lo f.w)
  | .rw1c => some (getBits old f.lo f.w &&& (2 ^ f.w - 1 - getBits x f.lo f.w))
  | .rw1s => some (getBits old f.lo f.w ||| getBits x f.lo f.w)
  | .ro | .wo | .rwl => none

/-- A word with a field as a write makes it. -/
def FieldDesc.store (old x m : Word) (f : FieldDesc) : Word := (f.written old x).elim m (setBits m f.lo f.w)

theorem stored_eq_foldl (d : RegDesc) (old x : Word) : d.stored old x = d.fields.foldl (FieldDesc.store old x) old := by
  refine congrArg (d.fields.foldl · old) (funext fun m => funext fun f => ?_)
  simp only [FieldDesc.store, FieldDesc.written]
  cases f.acc <;> rfl

/-- Two fields have no bit in common. -/
def FieldDesc.apart (f g : FieldDesc) : Prop := f.lo + f.w ≤ g.lo ∨ g.lo + g.w ≤ f.lo

/-- A table is laid out: its fields lie in the word and have no bit in common. -/
def RegDesc.laidOut (d : RegDesc) : Bool :=
  d.fields.all (fun f => f.lo + f.w ≤ 64) && decide (d.fields.Pairwise fun f g => f.lo + f.w ≤ g.lo ∨ g.lo + g.w ≤ f.lo)

theorem tables_laidOut : ((List.range 256).all fun c => (blockRegs c).all RegDesc.laidOut) = true := by
  decide +kernel

theorem laidOut_of_mem {c : Nat} (hc : c < 256) {d : RegDesc} (hd : d ∈ blockRegs c) :
    (∀ f ∈ d.fields, f.lo + f.w ≤ 64) ∧ d.fields.Pairwise FieldDesc.apart := by
  have laid := List.all_eq_true.1 (List.all_eq_true.1 tables_laidOut c (List.mem_range.2 hc)) d hd
  simp only [RegDesc.laidOut, Bool.and_eq_true, List.all_eq_true, decide_eq_true_eq] at laid
  exact laid

theorem getBits_store_apart {f g : FieldDesc} (h : f.apart g) (old x m : Word) :
    getBits (FieldDesc.store old x m g) f.lo f.w = getBits m f.lo f.w := by
  unfold FieldDesc.store
  cases g.written old x with
  | none => rfl
  | some v => exact getBits_setBits_apart _ _ _ _ _ _ h

theorem getBits_foldl_apart {f : FieldDesc} (old x : Word) {l : List FieldDesc} (h : ∀ g ∈ l, f.apart g) (m : Word) :
    getBits (l.foldl (FieldDesc.store old x) m) f.lo f.w = getBits m f.lo f.w := by
  induction l generalizing m with
  | nil => rfl
  | cons g l ih =>
    rw [List.foldl_cons, ih fun k hk => h k (List.mem_cons_of_mem _ hk), getBits_store_apart (h g (List.mem_cons_self ..))]

theorem apart_comm {f g : FieldDesc} (h : f.apart g) : g.apart f := Or.symm h

/-- Of fields that have no bit in common each ends as its own access type makes it. -/
theorem getBits_foldl_store {l : List FieldDesc} (hl : l.Pairwise FieldDesc.apart) {f : FieldDesc} (hf : f ∈ l) (hw : f.lo + f.w ≤ 64)
    (old x m : Word) :
    getBits (l.foldl (FieldDesc.store old x) m) f.lo f.w = (f.written old x).elim (getBits m f.lo f.w) (· % 2 ^ f.w) := by
  obtain ⟨a, b, rfl⟩ := List.append_of_mem hf
  obtain ⟨-, later, before⟩ := List.pairwise_append.1 hl
  have hb : ∀ g ∈ b, f.apart g := (List.pairwise_cons.1 later).1
  have ha : ∀ g ∈ a, f.apart g := fun g hg => apart_comm (before g hg f (List.mem_cons_self ..))
  rw [List.foldl_append, List.foldl_cons, getBits_foldl_apart old x hb]
  unfold FieldDesc.store
  cases f.written old x with
  | none => exact getBits_foldl_apart old x ha m
  | some v => exact getBits_setBits _ _ _ _ hw

theorem getBits_lt (x : Word) (lo w : Nat) : getBits x lo w < 2 ^ w := Nat.mod_lt _ (Nat.two_pow_pos w)

theorem getBits_clear (old x : Word) (lo w : Nat) :
    getBits old lo w &&& (2 ^ w - 1 - getBits x lo w) = getBits (old &&& ~~~x) lo w := by
  refine Nat.eq_of_testBit_eq fun i => ?_
  rw [Nat.testBit_and, Nat.sub_sub, Nat.add_comm 1, Nat.testBit_two_pow_sub_succ (getBits_lt x lo w)]
  simp only [getBits_testBit, BitVec.getLsbD_and, BitVec.getLsbD_not]
  by_cases hi : i < w
  · by_cases hlo : lo + i < 64
    · simp [hi, hlo]
    · simp [BitVec.getLsbD_of_ge old (lo + i) (by omega)]
  · simp [hi]

theorem getBits_or (old x : Word) (lo w : Nat) : getBits old lo w ||| getBits x lo w = getBits (old ||| x) lo w := by
  refine Nat.eq_of_testBit_eq fun i => ?_
  simp only [Nat.testBit_or, getBits_testBit, BitVec.getLsbD_or, Bool.and_or_distrib_left]

/-- What a write makes of a field, as R503 gives it by access type. -/
theorem written_eq (f : FieldDesc) (old x : Word) :
    (f.written old x).elim (getBits old f.lo f.w) (· % 2 ^ f.w) = (match f.acc with
      | .rw | .rws => getBits x f.lo f.w
      | .rw1c => getBits (old &&& ~~~x) f.lo f.w
      | .rw1s => getBits (old ||| x) f.lo f.w
      | .ro | .wo | .rwl => getBits old f.lo f.w) := by
  unfold FieldDesc.written
  cases f.acc with
  | rw | rws => exact getBits_mod x _ _
  | rw1c => exact (congrArg (· % 2 ^ f.w) (getBits_clear old x _ _)).trans (getBits_mod _ _ _)
  | rw1s => exact (congrArg (· % 2 ^ f.w) (getBits_or old x _ _)).trans (getBits_mod _ _ _)
  | ro | wo | rwl => rfl

theorem store_getLsbD_outside {f : FieldDesc} {i : Nat} (h : i < f.lo ∨ f.lo + f.w ≤ i) (hi : i < 64) (old x m : Word) :
    (FieldDesc.store old x m f).getLsbD i = m.getLsbD i := by
  unfold FieldDesc.store
  cases f.written old x with
  | none => rfl
  | some v =>
    rw [Option.elim_some, setBits_getLsbD, if_neg (by omega)]
    simp [hi]

theorem foldl_store_getLsbD_outside {i : Nat} (hi : i < 64) (old x : Word) {l : List FieldDesc}
    (h : ∀ f ∈ l, i < f.lo ∨ f.lo + f.w ≤ i) (m : Word) : (l.foldl (FieldDesc.store old x) m).getLsbD i = m.getLsbD i := by
  induction l generalizing m with
  | nil => rfl
  | cons f l ih =>
    rw [List.foldl_cons, ih fun k hk => h k (List.mem_cons_of_mem _ hk), store_getLsbD_outside (h f (List.mem_cons_self ..)) hi]

/-- Settles O53: the fields of a table have no bit in common, so that each keeps what its own access type stores; no field holds the
other bits. -/
theorem fieldsStoredByAccessType : Obligations.FieldsStoredByAccessType := by
  refine ⟨fun c hc d hd f hf old x => ?_, fun c hc d hd i hi hout old x => ?_⟩
  · obtain ⟨room, apart⟩ := laidOut_of_mem hc hd
    rw [stored_eq_foldl, getBits_foldl_store apart hf (room f hf)]
    exact written_eq f old x
  · rw [stored_eq_foldl, foldl_store_getLsbD_outside hi old x hout]

end Sys2Proof.Machine
end

section
/-! The account of an event in the header of its page (R498), and the error log (R471). -/

namespace Sys2Proof.Machine

/-! ### What raising a cause and writing a record leave -/

theorem when_leaves {β : Type} {part : State → β} {f : State → State} (h : ∀ s, part (f s) = part s) (c : Bool) (s : State) :
    part (s.when c f) = part s := by
  cases c
  · rfl
  · exact h s

/-- The delivery of an interrupt writes no register of a page's header. -/
theorem deliver_rd_hdr {r : Reg} {p : Part} (hr : r.comp p = .hdr p) (s : State) (page b i : Nat) :
    (s.deliver p page).rd p r b i = s.rd p r b i := by
  cases p
  · exact rd_of_frame (State_deliver_sw_frame s page) hr b i (by decide)
  · exact rd_of_frame (State_deliver_ep_frame s page) hr b i (by decide)

theorem withCauses_rd_hdr {r : Reg} {p : Part} (hr : r.comp p = .hdr p) (s : State) (page : Nat) (f : State → State) (b i : Nat) :
    (s.withCauses p page f).rd p r b i = (f s).rd p r b i :=
  when_leaves (part := (·.rd p r b i)) (fun t => deliver_rd_hdr hr t page b i) _ _

/-- Raising a cause writes of a page's header INT_CAUSE alone. -/
theorem cause_rd_hdr {r : Reg} {p : Part} (hr : r.comp p = .hdr p) (hcause : r.key 0 0 % 2 ^ 24 ≠ 0x10) (s : State) (page bit b i : Nat) :
    (s.cause p page bit).rd p r b i = s.rd p r b i :=
  (withCauses_rd_hdr hr ..).trans (rd_wr_of_place hcause ..)

theorem comp_hdr {r : Reg} (h : r.key 0 0 % 2 ^ 24 < 0x40) (p : Part) : r.comp p = .hdr p := if_pos h

theorem cause_rd_cause (s : State) (p : Part) (page bit : Nat) :
    (s.cause p page bit).rd p HDR_INT_CAUSE 0 page = setBits (s.rd p HDR_INT_CAUSE 0 page) bit 1 1 :=
  (withCauses_rd_hdr (comp_hdr (by decide) p) ..).trans (rd_wr_same ..)

theorem cause_log (s : State) (p : Part) (page bit : Nat) : ((s.cause p page bit).chip p).log = (s.chip p).log := by
  cases p
  · exact sameIn_of_frame (State_cause_sw_frame s page bit) (.log .sw) (by decide)
  · exact sameIn_of_frame (State_cause_ep_frame s page bit) (.log .ep) (by decide)

theorem onChip_rd_of_regs {f : Chip → Chip} (h : ∀ c, (f c).regs = c.regs) (s : State) (p q : Part) (r : Reg) (b i : Nat) :
    (s.onChip p f).rd q r b i = s.rd q r b i := by
  cases p <;> cases q <;> simp [State.onChip, State.rd, State.chip, h]

/-- The state with another error log. -/
def State.withLog (s : State) (p : Part) (l : List ErrRec) : State := s.onChip p fun c => { c with log := l }

theorem withLog_rd (s : State) (p : Part) (l : List ErrRec) (q : Part) (r : Reg) (b i : Nat) : (s.withLog p l).rd q r b i = s.rd q r b i :=
  onChip_rd_of_regs (f := fun c => { c with log := l }) (fun _ => rfl) ..

@[simp] theorem withLog_log (s : State) (p : Part) (l : List ErrRec) : ((s.withLog p l).chip p).log = l := by
  cases p <;> rfl

/-- A record that the log keeps raises the cause of its severity, from RECOVERED upwards. -/
def State.kept (s : State) (p : Part) (r : ErrRec) : State := s.when (2 ≤ r.sev) fun s => s.cause p pgErr (r.sev - 2)

theorem kept_log (s : State) (p : Part) (r : ErrRec) : ((s.kept p r).chip p).log = (s.chip p).log :=
  when_leaves (part := fun s => (s.chip p).log) (fun s => cause_log s p pgErr _) _ s

theorem logRec_of_room {s : State} {p : Part} (h : (s.chip p).log.length < 256) (r : ErrRec) :
    s.logRec p r = (s.withLog p (placeRec r (s.chip p).log)).kept p r := by
  simp [State.logRec, State.kept, State.when, State.withLog, h]

theorem logRec_of_full {s : State} {p : Part} (h : 256 ≤ (s.chip p).log.length) {r : ErrRec} (hr : r.sev < 4) :
    s.logRec p r = (s.count p ERR_LOG_STS_DROPS).cause p pgErr 3 := by
  simp [State.logRec, hr, Nat.not_lt.2 h, Nat.not_le.2 hr]

theorem logRec_of_fatal {s : State} {p : Part} (h : 256 ≤ (s.chip p).log.length) {r : ErrRec} (hr : 4 ≤ r.sev) :
    s.logRec p r = (s.withLog p (placeRec r (dropOldest (lowestSev (s.chip p).log) (s.chip p).log))).kept p r := by
  simp [State.logRec, State.kept, State.when, State.withLog, hr, Nat.not_lt.2 h, Nat.not_lt.2 hr]

/-- Writing a record touches of the headers INT_CAUSE alone. -/
theorem logRec_rd_hdr {r : Reg} {p : Part} (hr : r.comp p = .hdr p) (hcause : r.key 0 0 % 2 ^ 24 ≠ 0x10)
    (hdrops : r.key 0 0 % 2 ^ 24 ≠ ERR_LOG_STS_DROPS.reg.key 0 0 % 2 ^ 24) (s : State) (x : ErrRec) (b i : Nat) :
    (s.logRec p x).rd p r b i = s.rd p r b i := by
  have kept : ∀ l, ((s.withLog p l).kept p x).rd p r b i = s.rd p r b i := fun l =>
    (when_leaves (part := (·.rd p r b i)) (fun t => cause_rd_hdr hr hcause t pgErr _ b i) _ _).trans (withLog_rd ..)
  by_cases room : (s.chip p).log.length < 256
  · rw [logRec_of_room room, kept]
  · by_cases low : x.sev < 4
    · rw [logRec_of_full (Nat.not_lt.1 room) low, cause_rd_hdr hr hcause]
      exact rd_put_of_place hdrops ..
    · rw [logRec_of_fatal (Nat.not_lt.1 room) (Nat.not_lt.1 low), kept]

/-! ### The error log -/

theorem length_placeRec (r : ErrRec) (l : List ErrRec) : (placeRec r l).length = l.length + 1 := by
  induction l with
  | nil => rfl
  | cons x xs ih =>
    unfold placeRec
    split
    · rw [List.length_cons, ih, List.length_cons]
    · rfl

theorem dropOldest_of_absent {v : Nat} {l : List ErrRec} (h : ∀ x ∈ l, x.sev ≠ v) : dropOldest v l = l := by
  induction l with
  | nil => rfl
  | cons x xs ih =>
    rw [dropOldest, if_neg (by simpa using h x (List.mem_cons_self ..)), ih fun y hy => h y (List.mem_cons_of_mem _ hy)]

theorem lowestSev_of_high {l : List ErrRec} (h : ∀ x ∈ l, 4 ≤ x.sev) : lowestSev l = 4 := by
  unfold lowestSev
  induction l with
  | nil => rfl
  | cons x xs ih =>
    rw [List.foldl_cons, Nat.min_eq_left (h x (List.mem_cons_self ..))]
    exact ih fun y hy => h y (List.mem_cons_of_mem _ hy)

/-- A full log of records above FATAL has no record of the lowest severity of R470 to give up, so that one more is added to it. -/
theorem logRec_length_of_high {s : State} {p : Part} (hfull : 256 ≤ (s.chip p).log.length) (h : ∀ x ∈ (s.chip p).log, 4 < x.sev)
    {r : ErrRec} (hr : 4 ≤ r.sev) : ((s.logRec p r).chip p).log.length = (s.chip p).log.length + 1 := by
  rw [logRec_of_fatal hfull hr, kept_log, withLog_log, length_placeRec, lowestSev_of_high fun x hx => (h x hx).le,
    dropOldest_of_absent fun x hx => (h x hx).ne']

/-- A record of a severity that R470 does not give. -/
def highRecord : ErrRec :=
  { code := 0, sev := 5, rung := none, esc := false, page := 0, status := 0, reason := 0, ltc := 0, d0 := 0, d1 := 0 }

/-- A part whose log is full of records of that severity. -/
def highLog : State := State.reset.withLog .sw (List.replicate 256 highRecord)

/-- Refutes O54: its bound of 256 speaks of every log, also of one whose records are above FATAL. Full of such records the log holds none
of severity 4 or less to give up, and a FATAL record makes it 257. -/
theorem not_errorLogKeepsItsForm : ¬ Obligations.ErrorLogKeepsItsForm := by
  rintro ⟨bound, -⟩
  have full : (highLog.swc.log).length = 256 := List.length_replicate
  have high : ∀ x ∈ highLog.swc.log, 4 < x.sev := fun x hx => List.eq_of_mem_replicate hx ▸ by decide
  have held : ((highLog.logRec .sw highRecord).chip .sw).log.length ≤ 256 := bound highLog .sw highRecord full.le
  have grown : ((highLog.logRec .sw highRecord).chip .sw).log.length = 257 :=
    (logRec_length_of_high (p := .sw) full.ge high (by decide)).trans (congrArg (· + 1) full)
  omega

/-! ### The account of an event -/

/-- ERR_FIRST takes the code and the tick of an event. -/
def State.firstNoted (s : State) (p : Part) (page code tick : Nat) : State :=
  ((s.put p HDR_ERR_FIRST_CODE code 0 page).put p HDR_ERR_FIRST_VALID 1 0 page).put p HDR_ERR_FIRST_TICK tick 0 page

theorem firstNoted_code (s : State) (p : Part) (page code tick : Nat) :
    (s.firstNoted p page code tick).get p HDR_ERR_FIRST_CODE 0 page = code % 2 ^ 16 := by
  rw [State.firstNoted, get_put_apart _ _ HDR_ERR_FIRST_TICK HDR_ERR_FIRST_CODE _ _ _ rfl (by decide),
    get_put_apart _ _ HDR_ERR_FIRST_VALID HDR_ERR_FIRST_CODE _ _ _ rfl (by decide), get_put _ _ _ _ _ _ (by decide)]
  rfl

theorem firstNoted_valid (s : State) (p : Part) (page code tick : Nat) :
    (s.firstNoted p page code tick).flag p HDR_ERR_FIRST_VALID 0 page = true := by
  rw [State.flag, State.firstNoted, get_put_apart _ _ HDR_ERR_FIRST_TICK HDR_ERR_FIRST_VALID _ _ _ rfl (by decide),
    get_put _ _ _ _ _ _ (by decide)]
  rfl

theorem firstNoted_tick (s : State) (p : Part) (page code tick : Nat) :
    (s.firstNoted p page code tick).get p HDR_ERR_FIRST_TICK 0 page = tick % 2 ^ HDR_ERR_FIRST_TICK.w := by
  rw [State.firstNoted, get_put _ _ _ _ _ _ (by decide)]

theorem firstNoted_rd {r : Reg} (h : r.key 0 0 % 2 ^ 24 ≠ HDR_ERR_FIRST.key 0 0 % 2 ^ 24) (s : State) (p : Part) (page code tick b i : Nat) :
    (s.firstNoted p page code tick).rd p r b i = s.rd p r b i := by
  rw [State.firstNoted, rd_put_of_place (f := HDR_ERR_FIRST_TICK) h, rd_put_of_place (f := HDR_ERR_FIRST_VALID) h,
    rd_put_of_place (f := HDR_ERR_FIRST_CODE) h]

/-- ERR.LATEST takes the code, the page and the tick of an event. -/
def State.latestNoted (s : State) (p : Part) (page code tick : Nat) : State :=
  ((s.put p ERR_LATEST_CODE code).put p ERR_LATEST_PAGE page).put p ERR_LATEST_TICK tick

theorem latestNoted_rd {r : Reg} (h : r.key 0 0 % 2 ^ 24 ≠ ERR_LATEST.key 0 0 % 2 ^ 24) (s : State) (p : Part) (page code tick b i : Nat) :
    (s.latestNoted p page code tick).rd p r b i = s.rd p r b i := by
  rw [State.latestNoted, rd_put_of_place (f := ERR_LATEST_TICK) h, rd_put_of_place (f := ERR_LATEST_PAGE) h,
    rd_put_of_place (f := ERR_LATEST_CODE) h]

theorem note_eq (s : State) (p : Part) (page code : Nat) :
    s.note p page code = ((s.count p HDR_ERR_COUNT_COUNT 1 0 page).when (!s.flag p HDR_ERR_FIRST_VALID 0 page)
      fun t => t.firstNoted p page code (s.now p)).latestNoted p page code (s.now p) := by
  have valid : (s.count p HDR_ERR_COUNT_COUNT 1 0 page).flag p HDR_ERR_FIRST_VALID 0 page = s.flag p HDR_ERR_FIRST_VALID 0 page :=
    congrArg (· != 0) (get_congr (rd_put_of_place (f := HDR_ERR_COUNT_COUNT) (by decide) ..))
  simp only [State.note, State.latestNoted, State.firstNoted, valid]

/-- What R498 asks of the header of a page after an event with a code. -/
structure State.Accounted (s t : State) (p : Part) (page code : Nat) : Prop where
  count : t.get p HDR_ERR_COUNT_COUNT 0 page = min (s.get p HDR_ERR_COUNT_COUNT 0 page + 1) (2 ^ 32 - 1)
  keeps : s.flag p HDR_ERR_FIRST_VALID 0 page = true → t.rd p HDR_ERR_FIRST 0 page = s.rd p HDR_ERR_FIRST 0 page
  valid : s.flag p HDR_ERR_FIRST_VALID 0 page = false → t.flag p HDR_ERR_FIRST_VALID 0 page = true
  code : s.flag p HDR_ERR_FIRST_VALID 0 page = false → t.get p HDR_ERR_FIRST_CODE 0 page = code % 2 ^ 16
  tick : s.flag p HDR_ERR_FIRST_VALID 0 page = false → t.get p HDR_ERR_FIRST_TICK 0 page = s.now p % 2 ^ HDR_ERR_FIRST_TICK.w

/-- What leaves ERR_COUNT and ERR_FIRST as they are leaves the account of an event standing. -/
theorem State.Accounted.of_rd {s t u : State} {p : Part} {page code : Nat} (h : s.Accounted t p page code)
    (hcount : u.rd p HDR_ERR_COUNT 0 page = t.rd p HDR_ERR_COUNT 0 page)
    (hfirst : u.rd p HDR_ERR_FIRST 0 page = t.rd p HDR_ERR_FIRST 0 page) : s.Accounted u p page code where
  count := (get_congr (f := HDR_ERR_COUNT_COUNT) hcount).trans h.count
  keeps hv := hfirst.trans (h.keeps hv)
  valid hv := (congrArg (· != 0) (get_congr (f := HDR_ERR_FIRST_VALID) hfirst)).trans (h.valid hv)
  code hv := (get_congr (f := HDR_ERR_FIRST_CODE) hfirst).trans (h.code hv)
  tick hv := (get_congr (f := HDR_ERR_FIRST_TICK) hfirst).trans (h.tick hv)

theorem note_accounted (s : State) (p : Part) (page code : Nat) : s.Accounted (s.note p page code) p page code := by
  have counted := get_count s p HDR_ERR_COUNT_COUNT 1 0 page (by decide)
  have first : (s.count p HDR_ERR_COUNT_COUNT 1 0 page).rd p HDR_ERR_FIRST 0 page = s.rd p HDR_ERR_FIRST 0 page :=
    rd_put_of_place (f := HDR_ERR_COUNT_COUNT) (by decide) ..
  rw [note_eq]
  refine State.Accounted.of_rd ?_ (latestNoted_rd (by decide) ..) (latestNoted_rd (by decide) ..)
  cases hv : s.flag p HDR_ERR_FIRST_VALID 0 page with
  | true =>
    have no {P : Prop} : s.flag p HDR_ERR_FIRST_VALID 0 page = false → P := fun h => absurd (hv.symm.trans h) (by decide)
    exact ⟨counted, fun _ => first, no, no, no⟩
  | false =>
    have no {P : Prop} : s.flag p HDR_ERR_FIRST_VALID 0 page = true → P := fun h => absurd (hv.symm.trans h) (by decide)
    exact ⟨(get_congr (f := HDR_ERR_COUNT_COUNT) (firstNoted_rd (by decide) ..)).trans counted, no, fun _ => firstNoted_valid ..,
      fun _ => firstNoted_code .., fun _ => firstNoted_tick ..⟩

theorem event_accounted (s : State) (p : Part) (page d0 d1 status reason : Nat) (e : Err) (sev rung : Option Nat) (esc : Bool) :
    s.Accounted (s.event p page e d0 d1 sev rung esc status reason) p page e.code := by
  unfold State.event
  dsimp only
  split
  · exact note_accounted ..
  · exact (note_accounted ..).of_rd (logRec_rd_hdr (comp_hdr (by decide) p) (by decide) (by decide) ..)
      (logRec_rd_hdr (comp_hdr (by decide) p) (by decide) (by decide) ..)

theorem code_lt (e : Err) : e.code % 2 ^ 16 = e.code := by
  cases e <;> rfl

/-- Settles O52: the account is made first, and neither the log nor the interrupt that may follow writes ERR_COUNT or ERR_FIRST. -/
theorem errorHeaderKeepsTheFirst : Obligations.ErrorHeaderKeepsTheFirst := by
  refine ⟨fun s p page d0 d1 status reason e sev rung esc => ?_, fun s p page => ?_⟩
  · have h := event_accounted s p page d0 d1 status reason e sev rung esc
    exact ⟨h.count, h.keeps, fun hv => ⟨h.valid hv, (h.code hv).trans (code_lt e), h.tick hv⟩⟩
  · have h := note_accounted s p page Err.writeRefused.code
    exact ⟨h.count, h.keeps, fun hv => ⟨h.valid hv, h.code hv, h.tick hv⟩⟩

end Sys2Proof.Machine
end

section
/-! Accesses of the CSR and side-band paths that a rule refuses or that meet no register (R494, R495, R502, R533). -/

namespace Sys2Proof.Machine

/-- A path from which a part serves any register now: the side-band reaches those beyond the standby subset only by the main side (R507). -/
def State.reaches (s : State) (path : Path) : Prop := path = .sideband → s.mainServes = true

theorem unreachable_eq_false {s : State} {path : Path} (h : s.reaches path) (page off : Nat) :
    (path == .sideband && !s.mainServes && !standbySubset page off) = false := by
  by_cases hpath : path = .sideband
  · simp [h hpath]
  · simp [hpath]

/-- No stray beat is counted but at the beat's own register, which the host alone may write. -/
theorem strayBeat_of_not_hostOnly {p : Part} {page off : Nat} (h : hostOnly p page off = false) (s : State) (path : Path) :
    s.strayBeat path p page off = s := by
  have away : (p == .sw && page == pgMgt && off == 0x58) = false := by grind [hostOnly]
  simp only [State.strayBeat, away, Bool.false_and, State.when, Bool.false_eq_true, if_false]

theorem strayBeat_of_unmapped {p : Part} {page : Nat} (h : pageMapped p page = false) (s : State) (path : Path) (off : Nat) :
    s.strayBeat path p page off = s := by
  refine strayBeat_of_not_hostOnly ?_ s path
  cases p with
  | ep => rfl
  | sw =>
    have hmgt : page ≠ pgMgt := fun e => absurd (e ▸ h) (by decide)
    have hcxu : page ≠ pgCxu := fun e => absurd (e ▸ h) (by decide)
    have hsyn : page ≠ pgSyn := fun e => absurd (e ▸ h) (by decide)
    simp [hostOnly, hmgt, hcxu, hsyn]

/-! ### The frame of a write that does not get through -/

theorem writeFrame_of_unmapped {s : State} {path : Path} {p : Part} {page : Nat} (hpath : s.reaches path) (h : pageMapped p page = false)
    (off : Nat) (w : State → Written) : s.writeFrame path p page off w = (s, stPERMISSION) := by
  simp only [State.writeFrame, unreachable_eq_false hpath, h, Bool.false_eq_true, if_false, Bool.not_false, if_true]

theorem writeFrame_of_fence {s : State} {path : Path} {p : Part} {page off : Nat} (hpath : s.reaches path) (hremote : path ≠ .remote)
    (hpage : pageMapped p page = true) (hhost : hostOnly p page off = false) (hside : sidebandOnly p page off = true → path = .sideband)
    (hoff : 0x40 ≤ off) (h : s.flag p HDR_PAGE_CTL_FENCE 0 page = true) (w : State → Written) :
    s.writeFrame path p page off w = (s.refuse p page, stPERMISSION) := by
  have side : (sidebandOnly p page off && path != .sideband) = false := by grind
  simp only [State.writeFrame, unreachable_eq_false hpath, hpage, beq_eq_false_iff_ne.2 hremote, hhost, side, h, decide_eq_true hoff,
    Bool.false_eq_true, Bool.false_and, Bool.and_true, Bool.not_true, if_false, if_true]

theorem writeFrame_of_open {s : State} {path : Path} {p : Part} {page off : Nat} (h : s.writeOpen path p page off = true)
    (w : State → Written) : s.writeFrame path p page off w = ((w s).1, if (w s).2 then stOK else stPERMISSION) := by
  grind [State.writeOpen, State.writeFrame, resetting_of_isNone]

theorem not_hostOnly_of_open {s : State} {path : Path} {p : Part} {page off : Nat} (h : s.writeOpen path p page off = true)
    (hpath : path ≠ .host) : hostOnly p page off = false := by
  grind [State.writeOpen]

/-! ### A write of four or eight bytes -/

theorem write4_of_fence {s : State} {o : Origin} {p : Part} {page off : Nat} (hpath : s.reaches o.path) (hremote : o.path ≠ .remote)
    (hpage : pageMapped p page = true) (hhost : hostOnly p page off = false) (hside : sidebandOnly p page off = true → o.path = .sideband)
    (hoff : 0x40 ≤ off) (h : s.flag p HDR_PAGE_CTL_FENCE 0 page = true) (x : Word) :
    s.write4 o p page off x = (s.refuse p page, stPERMISSION) := by
  rw [State.write4, strayBeat_of_not_hostOnly hhost, writeFrame_of_fence hpath hremote hpage hhost hside hoff h]

theorem write4_of_wide {s : State} {o : Origin} {p : Part} {page off : Nat} (h : s.writeOpen o.path p page off = true)
    (hpath : o.path ≠ .host) {l : RegPlace} (hl : placeAt p page off = some l) (hwide : l.desc.wide = true) (x : Word) :
    s.write4 o p page off x = (s.refuse p page, stPERMISSION) := by
  rw [State.write4, strayBeat_of_not_hostOnly (not_hostOnly_of_open h hpath), writeFrame_of_open h]
  simp only [hl, hwide, if_true, State.refused, Bool.false_eq_true, if_false]

theorem write4_of_unmapped {s : State} {o : Origin} {p : Part} {page : Nat} (hpath : s.reaches o.path) (h : pageMapped p page = false)
    (off : Nat) (x : Word) : s.write4 o p page off x = (s, stPERMISSION) := by
  rw [State.write4, strayBeat_of_unmapped h, writeFrame_of_unmapped hpath h]

theorem writeBytes_of_unmapped {s : State} {o : Origin} {p : Part} {page : Nat} (hpath : s.reaches o.path) (h : pageMapped p page = false)
    (off size : Nat) (x : Word) : s.writeBytes o p page off size x = (s, stPERMISSION) := by
  have one := write4_of_unmapped hpath h
  simp only [State.writeBytes, one]
  split
  · rfl
  · split
    · split
      · exact writeFrame_of_unmapped hpath h ..
      · rfl
    · rfl

/-! ### An access and its completion -/

theorem sizeOk_four {off : Nat} (halign : off % 4 = 0) (hoff : off < 4096) : sizeOk off 4 = true := by
  simp [sizeOk, halign, hoff]

theorem accessDone_write {o : Origin} {off size : Nat} (hsize : sizeOk off size = true) {s t : State} {p : Part} {page st : Nat} {x : Word}
    (h : s.writeBytes o p page off size x = (t, st)) : s.accessDone o p true page off size x = t.regDone p o.path st := by
  simp [State.accessDone, State.regAccess, hsize, h]

theorem accessDone_write4 {o : Origin} {off : Nat} (halign : off % 4 = 0) (hoff : off < 4096) {s t : State} {p : Part} {page st : Nat} {x : Word}
    (h : s.write4 o p page off x = (t, st)) : s.accessDone o p true page off 4 x = t.regDone p o.path st :=
  accessDone_write (sizeOk_four halign hoff) h

theorem accessDone_of_bad_size {o : Origin} (hpath : o.path ≠ .host) {off size : Nat} (h : sizeOk off size = false) (s : State) (p : Part)
    (write : Bool) (page : Nat) (x : Word) : s.accessDone o p write page off size x = s.regDone p o.path stUNSUPPORTED := by
  simp [State.accessDone, State.regAccess, h, hpath]

theorem accessDone_read {o : Origin} {off size : Nat} (hsize : sizeOk off size = true) (s : State) (p : Part) (page : Nat) (x : Word) :
    s.accessDone o p false page off size x = (s.readFrame o.path p page off fun s => s.readBytes o p page off size).1.regDone p o.path
      (s.readFrame o.path p page off fun s => s.readBytes o p page off size).2.1
      (s.readFrame o.path p page off fun s => s.readBytes o p page off size).2.2 := by
  simp [State.accessDone, State.regAccess, hsize]

/-- A read of four bytes where no register is reads zero. -/
theorem readBytes_of_absent {p : Part} {page off : Nat} (h : placeAt p page off = none) (s : State) (o : Origin) :
    s.readBytes o p page off 4 = (s, 0) := by
  simp [State.readBytes, State.read4, h]

theorem readFrame_of_mapped {s : State} {path : Path} {p : Part} {page off : Nat} (hpath : s.reaches path) (hremote : path ≠ .remote)
    (hpage : pageMapped p page = true) (f : State → State × Word) : s.readFrame path p page off f = ((f s).1, stOK, (f s).2) := by
  simp only [State.readFrame, unreachable_eq_false hpath, hpage, beq_eq_false_iff_ne.2 hremote, Bool.false_eq_true, Bool.false_and,
    Bool.not_true, if_false]

theorem readFrame_of_unmapped {s : State} {path : Path} {p : Part} {page off : Nat} (hpath : s.reaches path)
    (hpage : pageMapped p page = false) (f : State → State × Word) :
    s.readFrame path p page off f = (s, if path == .host || path == .csr then stOK else stPERMISSION, 0) := by
  simp only [State.readFrame, unreachable_eq_false hpath, hpage, Bool.false_eq_true, Bool.not_false, if_false, if_true]

theorem accessDone_read_of_absent {s : State} {o : Origin} (hpath : s.reaches o.path) (hremote : o.path ≠ .remote) {p : Part} {page off : Nat}
    (halign : off % 4 = 0) (hoff : off < 4096) (hpage : pageMapped p page = true) (h : placeAt p page off = none) (x : Word) :
    s.accessDone o p false page off 4 x = s.regDone p o.path stOK := by
  rw [accessDone_read (sizeOk_four halign hoff), readFrame_of_mapped hpath hremote hpage, readBytes_of_absent h]

theorem accessDone_read_of_unmapped {s : State} {o : Origin} (hpath : s.reaches o.path) {p : Part} {page off size : Nat}
    (hsize : sizeOk off size = true) (hpage : pageMapped p page = false) (x : Word) :
    s.accessDone o p false page off size x = s.regDone p o.path (if o.path == .host || o.path == .csr then stOK else stPERMISSION) := by
  rw [accessDone_read hsize, readFrame_of_unmapped hpath hpage]

/-- Settles O35: on each of the two paths the frame of the write refuses, the register is too wide, or there is none; the access completes
with the status of that case. -/
theorem refusedRegisterWritesOnlyRecord : Obligations.RefusedRegisterWritesOnlyRecord := by
  have csr (s : State) : s.reaches .csr := nofun
  have sideband {s : State} (h : s.mainServes = true) : s.reaches .sideband := fun _ => h
  refine ⟨?csrFence, ?csrWide, ?csrUnmapped, ?csrSize, ?csrAbsent, ?sbFence, ?sbWide, ?sbUnmapped, ?sbSize, ?sbAbsent, ?csrReadUnmapped,
    ?sbReadUnmapped⟩
  case csrFence =>
    rintro page off size x s rfl halign h40 hoff hpage hhost hside hfence
    exact ⟨_, rfl, accessDone_write4 halign hoff
      (write4_of_fence (o := { path := .csr }) (csr s) (by decide) hpage hhost (fun h => absurd (hside.symm.trans h) (by decide)) h40 hfence x)⟩
  case csrWide =>
    rintro page off size x l s rfl halign hoff hopen hl hwide
    exact ⟨_, rfl, accessDone_write4 halign hoff (write4_of_wide (o := { path := .csr }) hopen (by decide) hl hwide x)⟩
  case csrUnmapped =>
    intro page off size x s hsize hpage
    exact ⟨_, rfl, accessDone_write hsize (writeBytes_of_unmapped (csr s) hpage off size x)⟩
  case csrSize =>
    intro write page off size x s hsize
    exact ⟨_, rfl, accessDone_of_bad_size (by decide) hsize ..⟩
  case csrAbsent =>
    rintro page off size x s rfl halign hoff hpage hplace
    exact ⟨_, rfl, accessDone_read_of_absent (csr s) (by decide) halign hoff hpage hplace x⟩
  case sbFence =>
    rintro page off size x s hmain rfl halign h40 hoff hpage hhost hfence
    exact ⟨_, rfl, accessDone_write4 halign hoff
      (write4_of_fence (o := { path := .sideband }) (sideband hmain) (by decide) hpage hhost (fun _ => rfl) h40 hfence x)⟩
  case sbWide =>
    rintro page off size x l s - rfl halign hoff hopen hl hwide
    exact ⟨_, rfl, accessDone_write4 halign hoff (write4_of_wide (o := { path := .sideband }) hopen (by decide) hl hwide x)⟩
  case sbUnmapped =>
    intro page off size x s hmain hsize hpage
    exact ⟨_, rfl, accessDone_write hsize (writeBytes_of_unmapped (sideband hmain) hpage off size x)⟩
  case sbSize =>
    intro write page off size x s hsize
    exact ⟨_, rfl, accessDone_of_bad_size (by decide) hsize ..⟩
  case sbAbsent =>
    rintro page off size x s hmain rfl halign hoff hpage hplace
    exact ⟨_, rfl, accessDone_read_of_absent (sideband hmain) (by decide) halign hoff hpage hplace x⟩
  case csrReadUnmapped =>
    intro page off size x s hsize hpage
    exact ⟨_, rfl, accessDone_read_of_unmapped (csr s) hsize hpage x⟩
  case sbReadUnmapped =>
    intro page off size x s hmain hsize hpage
    exact ⟨_, rfl, accessDone_read_of_unmapped (sideband hmain) hsize hpage x⟩

end Sys2Proof.Machine
end

section
/-! Two links that the rows of tack-up do not reach as their statements ask: a switch port whose own CAP says split mode (R35, R333), and a
port whose latest RESTART took a loopback (R329, R339). -/

namespace Sys2Proof.Machine

/-- The CAP of an endpoint in split mode. -/
def splitCap : CapMsg := { kind := 1 }

/-- The CAP of a switch port of four lanes. -/
def x4Cap : CapMsg := { kind := 3 }

/-- A switch on the X axis whose port 0, of sixteen lanes, has sent the first and awaits its partner's CAP; a control flit waits on it. -/
def splitPort : State :=
  ((State.reset.put .sw RST_STRAPS_ROLE 1).put .sw FPT_STS_STAGE 4).onPort .sw 0 fun pt =>
    { pt with capSent := some splitCap, ctl := [(4, [])] }

theorem splitPort_port : splitPort.port .sw 0 = { ({} : Port) with capSent := some splitCap, ctl := [(4, [])] } := rfl

/-- R35 refuses the second on a port wider than four lanes, so that no CAP is taken. -/
theorem capReceive_splitPort : ((capReceive .sw 0 x4Cap splitPort).port .sw 0).capGot = none := by
  decide +kernel

/-- Refutes O4: its clause of a CAP that R333 accepts speaks also of a switch port whose own CAP is one of split mode. A port of sixteen
lanes with such a CAP refuses the CAP of a switch port of four lanes, which `capFault` alone accepts, and stores none. -/
theorem not_tackupRowsComplete : ¬ Obligations.TackupRowsComplete := by
  rintro ⟨-, -, -, -, -, -, capAccepted, -⟩
  obtain ⟨t, ht, hgot, -⟩ := capAccepted 0 x4Cap splitCap splitPort (by decide) (by decide) (by rw [splitPort_port]) (by rw [splitPort_port])
    rfl rfl rfl (by rw [splitPort_port]; decide) (by rw [splitPort_port])
  obtain rfl : capReceive .sw 0 x4Cap splitPort = t := Host.Outcome.next.inj ht
  exact absurd (hgot.symm.trans capReceive_splitPort) nofun

/-- An endpoint whose port 0 waits after a failed attempt, with the loopback that its latest RESTART took. -/
def loopedPort : State :=
  { State.reset with epc := { State.reset.epc with inReset := false, step := 4, ltc := 175000000, ports := [(0, { attempts := 1, loop := 1 })] } }

theorem tackRetryTimer_loopedPort : (tackRetryTimer .ep 0 loopedPort).stage .ep 0 = 7 := by
  decide +kernel

/-- Refutes O2: its clause of the retry timer asks CTL.LPBK to be clear, while the loopback of a port is the one that the latest RESTART took.
An endpoint's port that took one goes to stage 7 when the timer expires. -/
theorem not_clockRowsComplete : ¬ Obligations.ClockRowsComplete := by
  rintro ⟨-, -, -, -, -, -, -, -, -, -, -, -, retry, -⟩
  obtain ⟨t, ht, hstage⟩ := retry .ep 0 loopedPort (by decide) (by decide) (by decide) (by decide) (by decide)
  obtain rfl : tackRetryTimer .ep 0 loopedPort = t := Host.Outcome.next.inj ht
  exact absurd (hstage.symm.trans tackRetryTimer_loopedPort) (by decide)

end Sys2Proof.Machine
end

section
/-! A stopped queue whose ENABLE reads clear (R348): writing ENABLE does not take it out of the state. -/

namespace Sys2Proof.Machine

/-- The endpoint with context 0 bound and queue 0 in the state STOPPED, ENABLE clear. -/
def stoppedQueue : State := (State.reset.put .ep QUE_Q_STS_STATE 2 1).put .ep CTX_ENTRY_VALID 1 1

theorem qEnableWrite_stoppedQueue : (qEnableWrite .csr 1 stoppedQueue).queueState 0 = 2 := by
  decide +kernel

/-- Refutes O10: its clause of a write of ENABLE asks for RUNNING of every queue that reads ENABLE clear. A queue that is STOPPED with ENABLE
clear stays STOPPED (R348 lets only a write of 0 take it out of the state). -/
theorem not_queueRowsComplete : ¬ Obligations.QueueRowsComplete := by
  rintro ⟨-, enable, -⟩
  obtain ⟨t, ht, hstate, -⟩ := enable .csr 1 stoppedQueue (by decide +kernel) (by decide) (by decide +kernel) (by decide +kernel)
  obtain rfl : qEnableWrite .csr 1 stoppedQueue = t := Host.Outcome.next.inj ht
  exact absurd (hstate.symm.trans qEnableWrite_stoppedQueue) (by decide)

end Sys2Proof.Machine
end

section
/-! A CANCEL that comes after the window of the sealed change (R13, R419), and an image staged over a slot list that names its kind twice. -/

namespace Sys2Proof.Machine

/-- A sealed change whose window, of no ticks, has ended with no signature on the way. -/
def lapsedChange : State := (State.reset.put .sw DCT_STS_STATE 2).put .sw DCT_WINDOW_TICKS 0

theorem dctCancel_lapsedChange : (dctCancel .host lapsedChange).get .sw DCT_RESULT_STATUS = stTIMEOUT := by
  decide +kernel

/-- Refutes O28: its clause of CANCEL asks for ABORTED of every change that is not IDLE. The window of a sealed change that has passed ends
the change first, as TIMEOUT (R13), and the CANCEL meets IDLE. -/
theorem not_stagingRowsComplete : ¬ Obligations.StagingRowsComplete := by
  rintro ⟨-, -, -, cancel, -⟩
  obtain ⟨t, ht, -, hstatus, -⟩ := cancel .host lapsedChange (by decide +kernel) (by decide +kernel)
  obtain rfl : dctCancel .host lapsedChange = t := Host.Outcome.next.inj ht
  exact absurd (hstatus.symm.trans dctCancel_lapsedChange) (by decide)

/-- The first five bytes of a firmware image: MAGIC and KIND. -/
def imageHead : List Byte := [0x54, 0x52, 0x4A, 0x4F, 2]

/-- An image without a body is not signed. -/
theorem imgSigned_imageHead : imgSigned imageHead = false := by
  have short : decide (8192 + natAt imageHead 0x0C 4 ≤ imageHead.length) = false := by decide
  simp only [imgSigned, short, Bool.and_false, Bool.false_and]

/-- A switch that stages an image while its list of STAGED slots names firmware twice. -/
def twiceStaged : State := State.reset.onFw fun f => { f with staging := some (1, 0), staged := [(2, 0), (2, 1)] }

/-- A staging of an image in good form that is not signed writes the slot, STAGES nothing more and ends INTEGRITY (R444). -/
theorem stagingDone_of_unsigned {img : List Byte} {s : State} {who len : Nat} (hstaging : s.sw.fw.staging = some (who, len))
    (hsec : s.secHalted .sw = false)
    (hform : (natAt img 4 1 == 0 || 3 < natAt img 4 1 || img.take 4 != asciiBytes "TRJO" || slotSize (natAt img 4 1) < max img.length len) = false)
    (hidle : ((lookup s.sw.fw.trials (natAt img 4 1)).isSome
      || (natAt img 4 1 == 2 && 1 ≤ (s.put .sw MGT_FW_STS_STAGED_KIB (ceilDiv img.length 1024)).actState
          && (s.put .sw MGT_FW_STS_STAGED_KIB (ceilDiv img.length 1024)).actState ≤ 4)) = false)
    (hsigned : imgSigned img = false) :
    stagingDone img s = ((s.put .sw MGT_FW_STS_STAGED_KIB (ceilDiv img.length 1024)).onFw fun f =>
      { f with flash := insertAt f.flash (natAt img 4 1 * 2 + (1 - s.activeSlot (natAt img 4 1))) img,
               staged := removeAt f.staged (natAt img 4 1) }).stageEnd stINTEGRITY := by
  have htrials : (s.put .sw MGT_FW_STS_STAGED_KIB (ceilDiv img.length 1024)).sw.fw.trials = s.sw.fw.trials := rfl
  simp only [stagingDone, hstaging, hsec, hform, htrials, hidle, hsigned, Bool.false_eq_true, Bool.not_false, if_false, if_true]
  rfl

theorem stagingDone_twiceStaged : lookup (stagingDone imageHead twiceStaged).sw.fw.staged 2 = some 1 := by
  rw [stagingDone_of_unsigned (s := twiceStaged) rfl (by decide +kernel) (by decide) (by decide +kernel) imgSigned_imageHead]
  decide +kernel

/-- Refutes O32: its clause of STAGING_DONE asks that an image that is not signed leave no slot of its kind STAGED. Removing a key takes one
entry away, so that a list with two entries for the kind still names a slot. -/
theorem not_imageRowsComplete : ¬ Obligations.ImageRowsComplete := by
  rintro ⟨-, -, -, -, -, -, -, staging, -⟩
  obtain ⟨t, ht, -, -, hstaged, -⟩ := staging imageHead 1 0 twiceStaged rfl (by decide +kernel) (by decide) (by decide) (by decide) (by decide) rfl
    (by decide +kernel)
  obtain rfl : stagingDone imageHead twiceStaged = t := Host.Outcome.next.inj ht
  rw [stagingDone_twiceStaged, imgSigned_imageHead] at hstaged
  simp at hstaged

end Sys2Proof.Machine
end

section
/-! The SPDM responder (R401 to R404, R434, R449): what an answer is when the security core is halted, and when the request comes at its place. -/

namespace Sys2Proof.Machine

/-! ### The message counted -/

/-- The state with the message of a requester counted where it came by the side-band (R453). -/
def State.heard (s : State) (p : Part) (who : Nat) : State := s.when (p == .sw && who == 1) State.sbMessage

theorem heard_leaves {β : Type} {part : State → β} (h : ∀ s, part (State.sbMessage s) = part s) (s : State) (p : Part) (who : Nat) :
    part (s.heard p who) = part s :=
  when_leaves h _ s

@[simp] theorem heard_out (s : State) (p : Part) (who : Nat) : (s.heard p who).out = s.out := heard_leaves (fun _ => rfl) ..

@[simp] theorem heard_free (s : State) (p : Part) (who : Nat) : (s.heard p who).free = s.free := heard_leaves (fun _ => rfl) ..

@[simp] theorem heard_sw (s : State) (p : Part) (who : Nat) : (s.heard p who).sw = s.sw := heard_leaves (fun _ => count_sw ..) ..

@[simp] theorem heard_ep (s : State) (p : Part) (who : Nat) : (s.heard p who).ep = s.ep := heard_leaves (fun _ => rfl) ..

@[simp] theorem heard_inReset (s : State) (p : Part) (who : Nat) (q : Part) : ((s.heard p who).chip q).inReset = (s.chip q).inReset :=
  heard_leaves (part := fun t => (t.chip q).inReset) (fun _ => by cases q <;> rfl) ..

@[simp] theorem heard_spdm (s : State) (p : Part) (who : Nat) (q : Part) : ((s.heard p who).chip q).spdm = (s.chip q).spdm :=
  heard_leaves (part := fun t => (t.chip q).spdm) (fun _ => by cases q <;> rfl) ..

@[simp] theorem heard_idSeed (s : State) (p : Part) (who : Nat) (q : Part) : ((s.heard p who).chip q).idSeed = (s.chip q).idSeed :=
  heard_leaves (part := fun t => (t.chip q).idSeed) (fun _ => by cases q <;> rfl) ..

@[simp] theorem heard_mainServes (s : State) (p : Part) (who : Nat) : (s.heard p who).mainServes = s.mainServes :=
  heard_leaves (fun _ => rfl) ..

/-- Every register but the side-band's message counter reads as before. -/
theorem sbMessage_rd {r : Reg} (h : r.key 0 0 % 2 ^ 24 ≠ SBP_COUNTS.key 0 0 % 2 ^ 24) (s : State) (q : Part) (b i : Nat) :
    s.sbMessage.rd q r b i = s.rd q r b i :=
  rd_put_of_place (f := SBP_COUNTS_MESSAGES) h s .sw q _ 0 0 b i

theorem heard_rd {r : Reg} (h : r.key 0 0 % 2 ^ 24 ≠ SBP_COUNTS.key 0 0 % 2 ^ 24) (s : State) (p : Part) (who : Nat) (q : Part) (b i : Nat) :
    (s.heard p who).rd q r b i = s.rd q r b i :=
  heard_leaves (part := fun t => t.rd q r b i) (fun t => sbMessage_rd h t q b i) ..

theorem heard_get {f : Fld} (h : f.reg.key 0 0 % 2 ^ 24 ≠ SBP_COUNTS.key 0 0 % 2 ^ 24) (s : State) (p : Part) (who : Nat) (q : Part) (b i : Nat) :
    (s.heard p who).get q f b i = s.get q f b i :=
  get_congr (f := f) (heard_rd h ..)

@[simp] theorem heard_lifecycle (s : State) (p : Part) (who : Nat) (q : Part) :
    (s.heard p who).get q SEC_STS_LIFECYCLE = s.get q SEC_STS_LIFECYCLE :=
  heard_get (f := SEC_STS_LIFECYCLE) (by decide) ..

@[simp] theorem heard_aliasReady (s : State) (p : Part) (who : Nat) (q : Part) :
    (s.heard p who).flag q SEC_STS_ALIAS_READY = s.flag q SEC_STS_ALIAS_READY := by
  rw [State.flag, State.flag, heard_get (f := SEC_STS_ALIAS_READY) (by decide)]

@[simp] theorem heard_secHalted (s : State) (p : Part) (who : Nat) (q : Part) : (s.heard p who).secHalted q = s.secHalted q := by
  cases q with
  | sw => rw [State.secHalted, State.secHalted, heard_get (f := MGT_CORE_STS_SECURITY) (by decide)]
  | ep => rw [State.secHalted, State.secHalted, heard_ep]

@[simp] theorem heard_spdmAt (s : State) (p : Part) (who : Nat) (q : Part) (w : Nat) : (s.heard p who).spdmAt q w = s.spdmAt q w := by
  rw [State.spdmAt, State.spdmAt, heard_spdm]

@[simp] theorem heard_sign (s : State) (p : Part) (who : Nat) (q : Part) (d : List Byte) : (s.heard p who).sign q d = s.sign q d := by
  rw [State.sign, State.sign, heard_idSeed]

/-! ### Measurements that the count leaves -/

theorem keepIf_insertAt_of_dropped {α : Type} {f : Nat → α → Bool} {k : Nat} (h : ∀ x, f k x = false) (m : SMap α) (x : α) :
    keepIf f (insertAt m k x) = keepIf f m := by
  induction m with
  | nil => simp [insertAt, keepIf, h]
  | cons e m ih =>
    obtain ⟨q, y⟩ := e
    simp only [keepIf] at ih
    simp only [insertAt]
    split
    · simp [keepIf, h]
    · split
      · next hq => subst hq; simp [keepIf, h]
      · simp [keepIf, List.filter_cons, ih]

theorem sbMessage_config (s : State) : s.sbMessage.config = s.config := by
  have regs : s.sbMessage.config.regs = s.config.regs :=
    keepIf_insertAt_of_dropped (f := fun k v => imageKey k && v != 0) (k := SBP_COUNTS.key 0 0) (fun x => by
      have : imageKey (SBP_COUNTS.key 0 0) = false := by decide
      simp [this]) _ _
  have seq : s.sbMessage.rd .sw DCT_SEQ = s.rd .sw DCT_SEQ := sbMessage_rd (by decide) ..
  have sets : s.sbMessage.sw.dct.sets = s.sw.dct.sets := congrArg (·.dct.sets) (count_sw ..)
  calc s.sbMessage.config = ⟨s.sbMessage.config.regs, s.sbMessage.sw.dct.sets, s.sbMessage.rd .sw DCT_SEQ⟩ := rfl
    _ = s.config := by rw [regs, seq, sets]; rfl

theorem heard_config (s : State) (p : Part) (who : Nat) : (s.heard p who).config = s.config := heard_leaves sbMessage_config ..

theorem heard_configBody (s : State) (p : Part) (who : Nat) : (s.heard p who).configBody = s.configBody := by
  simp only [State.configBody, heard_config, heard_sw]

theorem heard_boundBytes (s : State) (p : Part) (who : Nat) : (s.heard p who).boundBytes = s.boundBytes :=
  heard_leaves (fun _ => rfl) ..

theorem heard_runningImage (s : State) (p : Part) (who kind : Nat) : (s.heard p who).runningImage kind = s.runningImage kind := by
  simp only [State.runningImage, heard_sw]

theorem heard_widths (s : State) (p : Part) (who : Nat) (q : Part) : (s.heard p who).widths q = s.widths q := by
  cases q with
  | sw =>
    have axis := heard_get (f := RST_STRAPS_ROLE) (by decide) s p who .sw 0 0
    have layout := heard_get (f := GLB_LAYOUT_ACTIVE_X4) (by decide) s p who .sw 0 0
    simp only [State.widths, State.swAxisNo, State.x4, State.flag, axis, layout]
    rfl
  | ep => simp only [State.widths, heard_get (f := EPC_ID_LINK_MODE) (by decide) s]

theorem heard_linkManifest (s : State) (p : Part) (who : Nat) (q : Part) : (s.heard p who).linkManifest q = s.linkManifest q := by
  have state (n : Nat) := heard_get (f := LNK_STS_STATE) (by decide) s p who q 0 n
  have epoch (n : Nat) := heard_get (f := LNK_STS_KEY_EPOCH) (by decide) s p who q 0 n
  have peer (n : Nat) : (s.heard p who).digestAt q LNK_PEER_ID 0 n = s.digestAt q LNK_PEER_ID 0 n := by
    have place : ∀ k ∈ upTo 8, (LNK_PEER_ID.word k).key 0 0 % 2 ^ 24 ≠ SBP_COUNTS.key 0 0 % 2 ^ 24 := by decide
    exact congrArg List.flatten (List.map_congr_left fun k hk => by rw [heard_rd (place k hk)])
  simp only [State.linkManifest, State.portList, heard_widths, state, epoch, peer]

@[simp] theorem heard_manifest (s : State) (p : Part) (who : Nat) (q : Part) (n : Nat) : (s.heard p who).manifest q n = s.manifest q n := by
  simp only [State.manifest, State.progManifest, State.regionManifest, heard_linkManifest, heard_sw]

@[simp] theorem heard_measure (s : State) (p : Part) (who : Nat) (q : Part) (n : Nat) : (s.heard p who).measure q n = s.measure q n := by
  simp only [State.measure, heard_manifest, heard_runningImage, heard_configBody, heard_boundBytes]

@[simp] theorem heard_chain (s : State) (p : Part) (who : Nat) (q : Part) : (s.heard p who).chain q = s.chain q := by
  simp only [State.chain, State.measured, State.idKey, heard_measure, heard_idSeed]

@[simp] theorem heard_reportBlock (s : State) (p : Part) (who : Nat) (q : Part) (raw : Bool) (n : Nat) :
    (s.heard p who).reportBlock q raw n = s.reportBlock q raw n := by
  simp only [State.reportBlock, heard_measure, heard_manifest]

/-! ### The answers -/

theorem spdmAnswer_of_halted {s : State} {p : Part} {who : Nat} (hreach : s.spdmReach p who = true) (hhalt : s.secHalted p = true)
    (req level : Nat) (session : Option Nat) (key : Bool) (body : State → State × Nat × List Byte) :
    s.spdmAnswer p who req level session key body = (s.heard p who).emit (.spdm p who req 3 []) := by
  have halted : (s.heard p who).secHalted p = true := (heard_secHalted ..).trans hhalt
  simp only [State.heard] at halted
  simp [State.spdmAnswer, hreach, halted, State.heard]

/-- A part answers SPDM requests of a requester: it is reached, its lifecycle and its security core allow it, and the side-band has the main side. -/
structure State.SpdmServes (s : State) (p : Part) (who : Nat) : Prop where
  reach : s.spdmReach p who = true
  lifecycle : s.get p SEC_STS_LIFECYCLE ≠ 2
  running : s.secHalted p = false
  awake : (s.chip p).inReset = false
  served : who ≠ 1 ∨ s.mainServes = true

/-- A request that comes at its place, with the key where it needs one, is answered by its body. -/
theorem spdmAnswer_of_serves {s : State} {p : Part} {who : Nat} (h : s.SpdmServes p who) {req level : Nat} {session : Option Nat} {key : Bool}
    (hlevel : level ≤ (s.spdmAt p who).1) (hsession : session.all (· == (s.spdmAt p who).2) = true)
    (hkey : key = true → s.flag p SEC_STS_ALIAS_READY = true) (body : State → State × Nat × List Byte) :
    s.spdmAnswer p who req level session key body
      = (body (s.heard p who)).1.emit (.spdm p who req (body (s.heard p who)).2.1 (body (s.heard p who)).2.2) := by
  obtain ⟨hreach, hlife, hrun, hawake, hserved⟩ := h
  have refused : ((s.heard p who).get p SEC_STS_LIFECYCLE == 2 || (s.heard p who).secHalted p || ((s.heard p who).chip p).inReset
      || (who == 1 && !(s.heard p who).mainServes)) = false := by
    simp only [heard_lifecycle, heard_secHalted, heard_inReset, heard_mainServes]
    grind
  have early : (decide (((s.heard p who).spdmAt p who).1 < level) || session.any (· != ((s.heard p who).spdmAt p who).2)) = false := by
    rw [heard_spdmAt]
    cases session <;> simp_all
  have keyless : (key && !(s.heard p who).flag p SEC_STS_ALIAS_READY) = false := by
    rw [heard_aliasReady]
    cases key <;> simp_all
  simp only [State.spdmAnswer, hreach, Bool.not_true, Bool.false_eq_true, if_false]
  rw [← State.heard]
  simp only [refused, early, keyless, Bool.false_eq_true, if_false]

end Sys2Proof.Machine
end

section
/-! The negotiation in its order (R402, R403), and what a halted security core refuses (R434). -/

namespace Sys2Proof.Machine

theorem mem_out_emit (s : State) (o : Out) : o ∈ (s.emit o).out := List.mem_append_right _ (List.mem_singleton_self o)

theorem emit_spdmAt (s : State) (o : Out) (p : Part) (who : Nat) : (s.emit o).spdmAt p who = s.spdmAt p who := by
  cases p <;> rfl

theorem spdmTo_spdmAt (s : State) (p : Part) (who level session : Nat) : (s.spdmTo p who level session).spdmAt p who = (level, session) := by
  cases p <;> simp [State.spdmAt, State.spdmTo, State.onChip, State.chip, lookup_insertAt]

/-- A request that comes at its place does what its body and its answer hold. -/
theorem does_of_spdmServes {c : Instr} {s : State} {p : Part} {who req level : Nat} {session : Option Nat} {key : Bool}
    {body : State → State × Nat × List Byte} {claim : State → Prop} (hexec : exec c s = .next (s.spdmAnswer p who req level session key body))
    (h : s.SpdmServes p who) (hlevel : level ≤ (s.spdmAt p who).1) (hsession : session.all (· == (s.spdmAt p who).2) = true)
    (hkey : key = true → s.flag p SEC_STS_ALIAS_READY = true)
    (hclaim : claim ((body (s.heard p who)).1.emit (.spdm p who req (body (s.heard p who)).2.1 (body (s.heard p who)).2.2))) : Does c s claim :=
  ⟨_, hexec, spdmAnswer_of_serves h hlevel hsession hkey body ▸ hclaim⟩

/-- A request whose body only moves the requester's negotiation on, and answers. -/
theorem does_spdmMove {c : Instr} {s : State} {p : Part} {who req level : Nat} {session : Option Nat} {key : Bool} {level' session' status : Nat}
    {answer : List Byte}
    (hexec : exec c s = .next (s.spdmAnswer p who req level session key fun s => (s.spdmTo p who level' session', status, answer)))
    (h : s.SpdmServes p who) (hlevel : level ≤ (s.spdmAt p who).1) (hsession : session.all (· == (s.spdmAt p who).2) = true)
    (hkey : key = true → s.flag p SEC_STS_ALIAS_READY = true) :
    Does c s fun t => t.spdmAt p who = (level', session') ∧ Out.spdm p who req status answer ∈ t.out :=
  does_of_spdmServes hexec h hlevel hsession hkey ⟨(emit_spdmAt ..).trans (spdmTo_spdmAt ..), mem_out_emit ..⟩

/-- Settles O30: each request is an answer of the responder whose body moves the negotiation on or gives what the claim names; the message
counted leaves what the answers are made of. -/
theorem identityRowsComplete : Obligations.IdentityRowsComplete := by
  refine ⟨?version, ?capabilities, ?algorithms, ?digests, ?certificate, ?challenge, ?measurements, ?keyExchange, ?finish, ?endSession⟩
  case version =>
    intro p who s hreach hlife hrun hawake hserved
    exact does_spdmMove rfl ⟨hreach, hlife, hrun, hawake, hserved⟩ (Nat.zero_le _) rfl nofun
  case capabilities =>
    intro p who s hreach hlife hrun hawake hserved hlevel
    exact does_spdmMove rfl ⟨hreach, hlife, hrun, hawake, hserved⟩ hlevel rfl nofun
  case algorithms =>
    intro p who s hreach hlife hrun hawake hserved hlevel
    exact does_spdmMove rfl ⟨hreach, hlife, hrun, hawake, hserved⟩ hlevel rfl nofun
  case digests =>
    intro p who s hreach hlife hrun hawake hserved hlevel hkey
    refine does_of_spdmServes rfl ⟨hreach, hlife, hrun, hawake, hserved⟩ hlevel rfl (fun _ => hkey) ?_
    simpa only [heard_chain] using mem_out_emit ..
  case certificate =>
    intro p who offset length s hreach hlife hrun hawake hserved hlevel hkey
    refine does_of_spdmServes rfl ⟨hreach, hlife, hrun, hawake, hserved⟩ hlevel rfl (fun _ => hkey) ?_
    simp only [heard_chain, beq_self_eq_true, if_true]
    exact mem_out_emit ..
  case challenge =>
    intro p who nonce s hreach hlife hrun hawake hserved hlevel hkey
    refine does_of_spdmServes rfl ⟨hreach, hlife, hrun, hawake, hserved⟩ hlevel rfl (fun _ => hkey) ?_
    simp only [heard_chain, heard_sign, beq_self_eq_true, if_true]
    exact mem_out_emit ..
  case measurements =>
    intro p who raw nonce n s hreach hlife hrun hawake hserved hlevel hkey hn hpresent
    refine does_of_spdmServes rfl ⟨hreach, hlife, hrun, hawake, hserved⟩ hlevel rfl (fun _ => hkey) ?_
    have listed : ((upTo 8).filter fun n => (s.measure p n).isSome).contains n = true := by
      simpa [upTo] using ⟨hn, hpresent⟩
    have first : (n + 1 == 0) = false := rfl
    have last : (n + 1 == 255) = false := by simp; omega
    simp only [heard_measure, heard_reportBlock, heard_sign, first, last, Nat.add_sub_cancel, listed, Bool.false_eq_true, if_false, if_true]
    exact mem_out_emit ..
  case keyExchange =>
    intro p who exchange s hreach hlife hrun hawake hserved hlevel hkey
    refine does_of_spdmServes rfl ⟨hreach, hlife, hrun, hawake, hserved⟩ hlevel rfl (fun _ => hkey)
      ⟨(emit_spdmAt ..).trans (spdmTo_spdmAt ..), ?_⟩
    have sign (d : List Byte) : (s.heard p who).drawn.sign p d = s.drawn.sign p d :=
      heard_leaves (part := fun t => t.drawn.sign p d) (fun _ => by cases p <;> rfl) ..
    simpa only [heard_free, sign] using mem_out_emit ..
  case finish =>
    intro p who s hreach hlife hrun hawake hserved hlevel hsession hkey
    exact does_spdmMove rfl ⟨hreach, hlife, hrun, hawake, hserved⟩ hlevel (by simp [hsession]) (fun _ => hkey)
  case endSession =>
    intro p who s hreach hlife hrun hawake hserved hlevel hsession hkey
    exact does_spdmMove rfl ⟨hreach, hlife, hrun, hawake, hserved⟩ hlevel (by simp [hsession]) (fun _ => hkey)

theorem does_of_spdmHalted {c : Instr} {s : State} {p : Part} {who req level : Nat} {session : Option Nat} {key : Bool}
    {body : State → State × Nat × List Byte} (hexec : exec c s = .next (s.spdmAnswer p who req level session key body))
    (hreach : s.spdmReach p who = true) (hhalt : s.secHalted p = true) :
    Does c s fun t => t = (s.when (p == .sw && who == 1) State.sbMessage).emit (.spdm p who req 3 []) :=
  ⟨_, hexec, spdmAnswer_of_halted hreach hhalt ..⟩

theorem startRekey_of_halted {s : State} {p : Part} (h : s.secHalted p = true) (n : Nat) : s.startRekey p n = s := by
  simp [State.startRekey, h]

/-- A change whose window has not ended is left as it is by the end of windows. -/
theorem dctWindowExpiry_of_open {s : State} (h : s.windowOver = false) : dctWindowExpiry s = s := by
  simp [dctWindowExpiry, h]

theorem dctBeginW_of_halted {s : State} (hwindow : s.windowOver = false) (hhalt : s.secHalted .sw = true) (path : Path) (scope : Nat) :
    s.dctBeginW path scope = s.refused .sw pgDct := by
  simp [State.dctBeginW, dctWindowExpiry_of_open hwindow, hhalt]

theorem sigSubmitW_of_halted {s : State} (hwindow : s.windowOver = false) (hhalt : s.secHalted .sw = true) (path : Path) (role : Nat) :
    s.sigSubmitW path role = s.refused .sw pgDct := by
  simp [State.sigSubmitW, dctWindowExpiry_of_open hwindow, hhalt]

theorem spdmVendorDefined_none (p : Part) (who : Nat) (s : State) :
    spdmVendorDefined p who none s = s.spdmAnswer p who 10 3 none false fun s => (s, 0, []) := rfl

theorem spdmVendorDefined_some (p : Part) (who stream : Nat) (on : Bool) (s : State) :
    spdmVendorDefined p who (some (stream, on)) s = s.spdmAnswer p who 10 3 (some 2) true fun s =>
      if p == .ep || who != 0 then (s, 3, [])
      else if s.tspLocked then (s.refuse .sw pgCxu, 3, [])
      else (s.put .sw (if stream == 0 then CXU_STS_IDE_IO else CXU_STS_IDE_CM) (b2n on), 0, []) := rfl

/-- Settles O37: every row that needs the security core asks first whether it runs. -/
theorem haltedSecurityCoreRefuses : Obligations.HaltedSecurityCoreRefuses := by
  refine ⟨?begin, ?submit, ?verify, ?image, ?softPoint, ?ctrl, ?version, ?capabilities, ?algorithms, ?digests, ?certificate, ?challenge,
    ?measurements, ?keyExchange, ?finish, ?endSession, ?vendor, ?refused⟩
  case begin =>
    intro path scope s hopen hwindow hhalt
    refine ⟨_, rfl, ?_⟩
    rw [dctBegin, writeBy_of_open hopen, dctBeginW_of_halted hwindow hhalt]
    rfl
  case submit =>
    intro path role s hopen hwindow hhalt
    refine ⟨_, rfl, ?_⟩
    rw [sigSubmit, writeBy_of_open hopen, sigSubmitW_of_halted hwindow hhalt]
    rfl
  case verify =>
    intro s hhalt
    exact ⟨_, rfl, by simp [sigVerifyDone, hhalt]⟩
  case image =>
    intro s hhalt
    exact ⟨_, rfl, by simp [imageWriteDone, hhalt]⟩
  case softPoint =>
    intro p n s hhalt
    exact ⟨_, rfl, by simp [rekeySoftPoint, startRekey_of_halted hhalt]⟩
  case ctrl =>
    intro p n s hhalt
    exact ⟨_, rfl, startRekey_of_halted hhalt n⟩
  case vendor =>
    intro p who ide s hreach hhalt
    cases ide with
    | none => exact does_of_spdmHalted (congrArg Host.Outcome.next (spdmVendorDefined_none ..)) hreach hhalt
    | some request => exact does_of_spdmHalted (congrArg Host.Outcome.next (spdmVendorDefined_some ..)) hreach hhalt
  all_goals
    intros
    exact does_of_spdmHalted rfl ‹_› ‹_›

end Sys2Proof.Machine
end

section
/-! Throttle demands and levels (R481 to R486, R520), the sensors (R140, R485), and the telemetry windows (R288). -/

namespace Sys2Proof.Machine

/-! ### What the throttle rests on -/

/-- What the switch judges its throttle by: the level in force and the level demanded as PWR.STS shows them, the pins and fields that raise
demands, and whether it evaluates them. -/
@[ext] structure Throttle where
  level : Nat
  shown : Nat
  cap : Nat
  pwrAlert : Nat
  thermAlert : Nat
  force : Nat
  sensor : Nat
  thermFrom : Option Nat
  powered : Bool

/-- The throttle of a state. -/
def State.throttle (s : State) : Throttle where
  level := s.get .sw PWR_STS_LEVEL
  shown := s.get .sw PWR_STS_DEMAND
  cap := s.get .sw PWR_STS_CAP
  pwrAlert := s.get .sw PWR_STS_PWR_ALERT
  thermAlert := s.get .sw PWR_STS_THERM_ALERT
  force := s.get .sw PWR_CTL_FORCE_LEVEL
  sensor := s.sw.core.sensorDemand
  thermFrom := s.sw.core.thermFrom
  powered := s.powered

/-- The highest level demanded (R481). -/
def Throttle.demand (h : Throttle) : Nat :=
  [h.cap, if h.pwrAlert != 0 then 3 else 0, if h.thermAlert != 0 then (if h.thermFrom.isSome then 2 else 3) else 0, min 3 h.sensor,
   h.force].foldl max 0

theorem demand_eq_throttle (s : State) : s.demand = s.throttle.demand := rfl

theorem get_lt (s : State) (p : Part) (f : Fld) (b i : Nat) : s.get p f b i < 2 ^ f.w := getBits_lt ..

theorem demand_lt (s : State) : s.demand < 4 := by
  have cap : s.get .sw PWR_STS_CAP < 4 := get_lt ..
  have force : s.get .sw PWR_CTL_FORCE_LEVEL < 4 := get_lt ..
  simp only [State.demand, State.thermDemand, List.foldl_cons, List.foldl_nil]
  grind

theorem throttle_of_frame {s t : State} {l : List Comp} (hf : ∀ {wt}, Off wt l → t.view wt = s.view wt)
    (hl : l.all (fun d => !d.meets (.page .sw 2) && !d.meets .core && !d.meets (.chip .sw)) = true) : t.throttle = s.throttle := by
  have avoids (c : Comp) (h : c = .page .sw 2 ∨ c = .core ∨ c = .chip .sw) : l.all (fun d => !d.meets c) = true := by
    simp only [List.all_eq_true, Bool.and_eq_true] at hl ⊢
    grind
  have sts : t.rd .sw PWR_STS = s.rd .sw PWR_STS := rd_of_frame hf (PWR_STS_comp .sw) 0 0 (avoids _ (by simp))
  have ctl : t.rd .sw PWR_CTL = s.rd .sw PWR_CTL := rd_of_frame hf (PWR_CTL_comp .sw) 0 0 (avoids _ (by simp))
  have core : t.sw.core = s.sw.core := sameIn_of_frame hf .core (avoids _ (by simp))
  have rest : t.swc.rest = s.swc.rest := sameIn_of_frame hf (.chip .sw) (avoids _ (by simp))
  have powered := congrArg (fun c : Chip => c.mainUp && !c.inReset && decide (4 ≤ c.step)) rest
  exact Throttle.ext (get_congr (f := PWR_STS_LEVEL) sts) (get_congr (f := PWR_STS_DEMAND) sts) (get_congr (f := PWR_STS_CAP) sts)
    (get_congr (f := PWR_STS_PWR_ALERT) sts) (get_congr (f := PWR_STS_THERM_ALERT) sts) (get_congr (f := PWR_CTL_FORCE_LEVEL) ctl)
    (congrArg (·.sensorDemand) core) (congrArg (·.thermFrom) core) powered

/-- A store in a register other than PWR.STS and PWR.CTL leaves the throttle. -/
theorem put_throttle {f : Fld} (hsts : PWR_STS.key 0 0 % 2 ^ 24 ≠ f.reg.key 0 0 % 2 ^ 24) (hctl : PWR_CTL.key 0 0 % 2 ^ 24 ≠ f.reg.key 0 0 % 2 ^ 24)
    (s : State) (v b i : Nat) : (s.put .sw f v b i).throttle = s.throttle := by
  have sts : (s.put .sw f v b i).rd .sw PWR_STS = s.rd .sw PWR_STS := rd_put_of_place hsts ..
  have ctl : (s.put .sw f v b i).rd .sw PWR_CTL = s.rd .sw PWR_CTL := rd_put_of_place hctl ..
  exact Throttle.ext (get_congr (f := PWR_STS_LEVEL) sts) (get_congr (f := PWR_STS_DEMAND) sts) (get_congr (f := PWR_STS_CAP) sts)
    (get_congr (f := PWR_STS_PWR_ALERT) sts) (get_congr (f := PWR_STS_THERM_ALERT) sts) (get_congr (f := PWR_CTL_FORCE_LEVEL) ctl) rfl rfl rfl

/-- FORCE_LEVEL lies in another register than the fields of PWR.STS. -/
theorem put_sts_force {f : Fld} (hf : f.reg = PWR_STS) (s : State) (v : Nat) :
    (s.put .sw f v).get .sw PWR_CTL_FORCE_LEVEL = s.get .sw PWR_CTL_FORCE_LEVEL :=
  get_congr (f := PWR_CTL_FORCE_LEVEL) (rd_put_of_place (f := f) (r := PWR_CTL) (by rw [hf]; decide) ..)

theorem put_level_throttle (s : State) (v : Nat) : (s.put .sw PWR_STS_LEVEL v).throttle = { s.throttle with level := v % 4 } :=
  Throttle.ext (get_put _ _ _ _ _ _ (by decide)) (get_put_apart _ _ PWR_STS_LEVEL PWR_STS_DEMAND _ _ _ rfl (by decide))
    (get_put_apart _ _ PWR_STS_LEVEL PWR_STS_CAP _ _ _ rfl (by decide)) (get_put_apart _ _ PWR_STS_LEVEL PWR_STS_PWR_ALERT _ _ _ rfl (by decide))
    (get_put_apart _ _ PWR_STS_LEVEL PWR_STS_THERM_ALERT _ _ _ rfl (by decide)) (put_sts_force (f := PWR_STS_LEVEL) rfl ..) rfl rfl rfl

theorem put_shown_throttle (s : State) (v : Nat) : (s.put .sw PWR_STS_DEMAND v).throttle = { s.throttle with shown := v % 4 } :=
  Throttle.ext (get_put_apart _ _ PWR_STS_DEMAND PWR_STS_LEVEL _ _ _ rfl (by decide)) (get_put _ _ _ _ _ _ (by decide))
    (get_put_apart _ _ PWR_STS_DEMAND PWR_STS_CAP _ _ _ rfl (by decide)) (get_put_apart _ _ PWR_STS_DEMAND PWR_STS_PWR_ALERT _ _ _ rfl (by decide))
    (get_put_apart _ _ PWR_STS_DEMAND PWR_STS_THERM_ALERT _ _ _ rfl (by decide)) (put_sts_force (f := PWR_STS_DEMAND) rfl ..) rfl rfl rfl

theorem put_cap_throttle (s : State) (v : Nat) : (s.put .sw PWR_STS_CAP v).throttle = { s.throttle with cap := v % 4 } :=
  Throttle.ext (get_put_apart _ _ PWR_STS_CAP PWR_STS_LEVEL _ _ _ rfl (by decide)) (get_put_apart _ _ PWR_STS_CAP PWR_STS_DEMAND _ _ _ rfl (by decide))
    (get_put _ _ _ _ _ _ (by decide)) (get_put_apart _ _ PWR_STS_CAP PWR_STS_PWR_ALERT _ _ _ rfl (by decide))
    (get_put_apart _ _ PWR_STS_CAP PWR_STS_THERM_ALERT _ _ _ rfl (by decide)) (put_sts_force (f := PWR_STS_CAP) rfl ..) rfl rfl rfl

theorem put_pwrAlert_throttle (s : State) (v : Nat) : (s.put .sw PWR_STS_PWR_ALERT v).throttle = { s.throttle with pwrAlert := v % 2 } :=
  Throttle.ext (get_put_apart _ _ PWR_STS_PWR_ALERT PWR_STS_LEVEL _ _ _ rfl (by decide))
    (get_put_apart _ _ PWR_STS_PWR_ALERT PWR_STS_DEMAND _ _ _ rfl (by decide)) (get_put_apart _ _ PWR_STS_PWR_ALERT PWR_STS_CAP _ _ _ rfl (by decide))
    (get_put _ _ _ _ _ _ (by decide)) (get_put_apart _ _ PWR_STS_PWR_ALERT PWR_STS_THERM_ALERT _ _ _ rfl (by decide))
    (put_sts_force (f := PWR_STS_PWR_ALERT) rfl ..) rfl rfl rfl

theorem put_thermAlert_throttle (s : State) (v : Nat) : (s.put .sw PWR_STS_THERM_ALERT v).throttle = { s.throttle with thermAlert := v % 2 } :=
  Throttle.ext (get_put_apart _ _ PWR_STS_THERM_ALERT PWR_STS_LEVEL _ _ _ rfl (by decide))
    (get_put_apart _ _ PWR_STS_THERM_ALERT PWR_STS_DEMAND _ _ _ rfl (by decide))
    (get_put_apart _ _ PWR_STS_THERM_ALERT PWR_STS_CAP _ _ _ rfl (by decide))
    (get_put_apart _ _ PWR_STS_THERM_ALERT PWR_STS_PWR_ALERT _ _ _ rfl (by decide)) (get_put _ _ _ _ _ _ (by decide))
    (put_sts_force (f := PWR_STS_THERM_ALERT) rfl ..) rfl rfl rfl

theorem put_filling_throttle (s : State) (v : Nat) : (s.put .sw PWR_STS_FILLING v).throttle = s.throttle :=
  Throttle.ext (get_put_apart _ _ PWR_STS_FILLING PWR_STS_LEVEL _ _ _ rfl (by decide))
    (get_put_apart _ _ PWR_STS_FILLING PWR_STS_DEMAND _ _ _ rfl (by decide)) (get_put_apart _ _ PWR_STS_FILLING PWR_STS_CAP _ _ _ rfl (by decide))
    (get_put_apart _ _ PWR_STS_FILLING PWR_STS_PWR_ALERT _ _ _ rfl (by decide))
    (get_put_apart _ _ PWR_STS_FILLING PWR_STS_THERM_ALERT _ _ _ rfl (by decide)) (put_sts_force (f := PWR_STS_FILLING) rfl ..) rfl rfl rfl

theorem onCore_throttle {f : SwCore → SwCore} (hsensor : ∀ c, (f c).sensorDemand = c.sensorDemand) (htherm : ∀ c, (f c).thermFrom = c.thermFrom)
    (s : State) : (s.onCore f).throttle = s.throttle :=
  Throttle.ext rfl rfl rfl rfl rfl rfl (hsensor _) (htherm _) rfl

theorem when_throttle {f : State → State} (h : ∀ s, (f s).throttle = s.throttle) (c : Bool) (s : State) : (s.when c f).throttle = s.throttle :=
  when_leaves h c s

/-! ### The level in force -/

theorem setDuty_throttle (s : State) (d : Nat) : (s.setDuty d).throttle = s.throttle :=
  throttle_of_frame (State_setDuty_frame s d) (by decide)

theorem showLimit_throttle (s : State) : s.showLimit.throttle = s.throttle :=
  (put_throttle (f := PWR_DRAW_LIMIT) (by decide) (by decide) ..).trans (put_throttle (f := PWR_DRAW_P_NOM) (by decide) (by decide) ..)

theorem event_throttle (s : State) (page d0 d1 status reason : Nat) (e : Err) (sev rung : Option Nat) (esc : Bool) :
    (s.event .sw page e d0 d1 sev rung esc status reason).throttle = s.throttle :=
  throttle_of_frame (State_event_sw_frame s page e d0 d1 sev rung esc status reason) (by decide)

theorem cause_throttle (s : State) (page bit : Nat) : (s.cause .sw page bit).throttle = s.throttle :=
  throttle_of_frame (State_cause_sw_frame s page bit) (by decide)

/-- The switch enters a level: of all that the throttle rests on, the level in force alone changes. -/
theorem enterLevel_throttle (s : State) (v pin : Nat) : (s.enterLevel v pin).throttle = { s.throttle with level := v % 4 } := by
  unfold State.enterLevel
  extract_lets old now s1 s2 s3 s4 s5 s6 s7 s8
  have h3 : s3.throttle = s2.throttle := by
    unfold s3
    split
    · exact put_throttle (f := PWR_EVENTS_P1) (by decide) (by decide) ..
    · split
      · exact put_throttle (f := PWR_EVENTS_P2) (by decide) (by decide) ..
      · split
        · exact put_throttle (f := PWR_EVENTS_P3) (by decide) (by decide) ..
        · rfl
  calc s8.showLimit.throttle = s8.throttle := showLimit_throttle s8
    _ = s7.throttle := when_throttle (fun s => (cause_throttle ..).trans (put_throttle (f := MGT_FW_STS_ACT_STATE) (by decide) (by decide) ..)) ..
    _ = s6.throttle := when_throttle (fun s => put_filling_throttle s 0) ..
    _ = s5.throttle := onCore_throttle (fun _ => rfl) (fun _ => rfl) s5
    _ = s4.throttle := when_throttle (fun s => setDuty_throttle s 64) ..
    _ = s3.throttle := when_throttle (fun s => setDuty_throttle s 8) ..
    _ = s2.throttle := h3
    _ = s1.throttle := event_throttle ..
    _ = _ := put_level_throttle s v

/-- The hold over changes no more of it than the level. -/
theorem holdOver_throttle (s : State) : ∃ l, s.holdOver.throttle = { s.throttle with level := l } := by
  unfold State.holdOver
  split
  · extract_lets l now s1
    split
    · refine ⟨_, (onCore_throttle ?_ ?_ s1).trans (enterLevel_throttle s _ 0)⟩
      · exact fun _ => rfl
      · exact fun _ => rfl
    · exact ⟨s.throttle.level, rfl⟩
  · exact ⟨s.throttle.level, rfl⟩

/-- The demands judged by a switch that evaluates them: the highest is shown, and the level in force is no lower. -/
theorem judgeDemand_throttle {s : State} (h : s.powered = true) (pin : Nat) :
    ∃ l, (s.judgeDemand pin).throttle = { s.throttle with level := l, shown := s.demand } ∧ s.demand ≤ l := by
  obtain ⟨l, hold⟩ := holdOver_throttle s
  have demand : s.holdOver.demand = s.demand := by rw [demand_eq_throttle, hold]; rfl
  have level : s.holdOver.get .sw PWR_STS_LEVEL = l := congrArg Throttle.level hold
  have shown : (s.holdOver.put .sw PWR_STS_DEMAND s.demand).throttle = { s.throttle with level := l, shown := s.demand } := by
    rw [put_shown_throttle, hold, Nat.mod_eq_of_lt (demand_lt s)]
  unfold State.judgeDemand
  simp only [h, Bool.not_true, Bool.false_eq_true, if_false, demand, level]
  split
  · refine ⟨s.demand, (onCore_throttle ?_ ?_ _).trans ?_, Nat.le_refl _⟩
    · exact fun _ => rfl
    · exact fun _ => rfl
    · rw [enterLevel_throttle, shown, Nat.mod_eq_of_lt (demand_lt s)]
  · next hle =>
    refine ⟨l, ?_, Nat.not_lt.1 hle⟩
    split
    all_goals
      refine (onCore_throttle ?_ ?_ _).trans shown
      · exact fun _ => rfl
      · exact fun _ => rfl

/-- A switch that does not evaluate its demands judges none. -/
theorem judgeDemand_of_unpowered {s : State} (h : s.powered = false) (pin : Nat) : s.judgeDemand pin = s := by
  simp [State.judgeDemand, h]

/-- All but the level and the demand shown, judged or not. -/
theorem judgeDemand_pins (s : State) (pin : Nat) :
    ∃ l d, (s.judgeDemand pin).throttle = { s.throttle with level := l, shown := d } := by
  cases h : s.powered
  · exact ⟨_, _, by rw [judgeDemand_of_unpowered h]⟩
  · obtain ⟨l, hjudge, -⟩ := judgeDemand_throttle h pin
    exact ⟨_, _, hjudge⟩

/-- With a demand of P3 the level is P3 at once. -/
theorem judgeDemand_of_three {s : State} (h : s.powered = true) (hd : s.demand = 3) (pin : Nat) :
    (s.judgeDemand pin).throttle = { s.throttle with level := 3, shown := 3 } := by
  obtain ⟨l, hjudge, hle⟩ := judgeDemand_throttle h pin
  have level : (s.judgeDemand pin).get .sw PWR_STS_LEVEL = l := congrArg Throttle.level hjudge
  have top : l < 4 := level ▸ get_lt ..
  obtain rfl : l = 3 := by omega
  rw [hjudge, hd]

/-- A demand is at least what each of its sources asks. -/
theorem cap_le_demand (h : Throttle) : h.cap ≤ h.demand := by
  simp only [Throttle.demand, List.foldl_cons, List.foldl_nil]; omega

theorem force_le_demand (h : Throttle) : h.force ≤ h.demand := by
  simp only [Throttle.demand, List.foldl_cons, List.foldl_nil]; omega

theorem pwrAlert_le_demand {h : Throttle} (ha : h.pwrAlert = 1) : 3 ≤ h.demand := by
  simp [Throttle.demand, ha]

theorem thermAlert_le_demand {h : Throttle} (ha : h.thermAlert ≠ 0) : (if h.thermFrom.isSome then 2 else 3) ≤ h.demand := by
  simp [Throttle.demand, ha]

theorem put_force_throttle (s : State) (v : Nat) : (s.put .sw PWR_CTL_FORCE_LEVEL v).throttle = { s.throttle with force := v % 4 } := by
  have sts : (s.put .sw PWR_CTL_FORCE_LEVEL v).rd .sw PWR_STS = s.rd .sw PWR_STS :=
    rd_put_of_place (f := PWR_CTL_FORCE_LEVEL) (r := PWR_STS) (by decide) ..
  exact Throttle.ext (get_congr (f := PWR_STS_LEVEL) sts) (get_congr (f := PWR_STS_DEMAND) sts) (get_congr (f := PWR_STS_CAP) sts)
    (get_congr (f := PWR_STS_PWR_ALERT) sts) (get_congr (f := PWR_STS_THERM_ALERT) sts) (get_put _ _ _ _ _ _ (by decide)) rfl rfl rfl

theorem put_burnish_throttle (s : State) (v : Nat) : (s.put .sw PWR_CTL_BURNISH_EN v).throttle = s.throttle := by
  have sts : (s.put .sw PWR_CTL_BURNISH_EN v).rd .sw PWR_STS = s.rd .sw PWR_STS :=
    rd_put_of_place (f := PWR_CTL_BURNISH_EN) (r := PWR_STS) (by decide) ..
  exact Throttle.ext (get_congr (f := PWR_STS_LEVEL) sts) (get_congr (f := PWR_STS_DEMAND) sts) (get_congr (f := PWR_STS_CAP) sts)
    (get_congr (f := PWR_STS_PWR_ALERT) sts) (get_congr (f := PWR_STS_THERM_ALERT) sts)
    (get_put_apart _ _ PWR_CTL_BURNISH_EN PWR_CTL_FORCE_LEVEL _ _ _ rfl (by decide)) rfl rfl rfl

theorem regDone_throttle (s : State) (q : Part) (path : Path) (st : Nat) (data : Word) : (s.regDone q path st data).throttle = s.throttle := by
  cases path <;> rfl

/-- A write of PWR.CTL stores FORCE_LEVEL, and the demands are judged with it. -/
theorem setPwrCtl_throttle {s : State} (h : s.powered = true) (x : Word) :
    ∃ l d, (s.setPwrCtl x).throttle = { s.throttle with level := l, shown := d, force := getBits x 0 2 } ∧ getBits x 0 2 ≤ l := by
  unfold State.setPwrCtl
  extract_lets s1
  have stored : s1.throttle = { s.throttle with force := getBits x 0 2 } := by
    rw [put_burnish_throttle, put_force_throttle, Nat.mod_eq_of_lt (b := 4) (getBits_lt x 0 2)]
  have filled := (when_throttle (fun s => put_filling_throttle s 0) (!s1.flag .sw PWR_CTL_BURNISH_EN) s1).trans stored
  obtain ⟨l, hjudge, hle⟩ := judgeDemand_throttle ((congrArg Throttle.powered filled).trans h) 4
  refine ⟨l, _, hjudge.trans (by rw [filled]), Nat.le_trans ?_ hle⟩
  rw [demand_eq_throttle, filled]
  exact force_le_demand { s.throttle with force := getBits x 0 2 }

/-- THERM_ALERT_N and its delay end with the alert. -/
theorem thermAlertDeassert_throttle (s : State) : (thermAlertDeassert s).throttle.thermAlert = 0 ∧ (thermAlertDeassert s).throttle.thermFrom = none := by
  obtain ⟨l, d, hjudge⟩ := judgeDemand_pins (((thermP3DelayExpiry s).put .sw PWR_STS_THERM_ALERT 0).onCore fun c => { c with thermFrom := none }) 2
  rw [thermAlertDeassert, hjudge]
  exact ⟨congrArg Throttle.thermAlert (put_thermAlert_throttle (thermP3DelayExpiry s) 0), rfl⟩

/-! ### The draw (R483) -/

theorem drawn_rd (s : State) (p : Part) (r : Reg) (b i : Nat) : s.drawn.rd p r b i = s.rd p r b i := by
  cases p <;> rfl

theorem burnish_draw (s : State) (now avg rise : Nat) : (s.burnish now avg rise).rd .sw PWR_DRAW = s.rd .sw PWR_DRAW := by
  have duty (t : State) (d : Nat) : (t.setDuty d).rd .sw PWR_DRAW = t.rd .sw PWR_DRAW :=
    rd_of_frame (State_setDuty_frame t d) (PWR_DRAW_comp .sw) 0 0 (by decide)
  have filling (t : State) (v : Nat) : (t.put .sw PWR_STS_FILLING v).rd .sw PWR_DRAW = t.rd .sw PWR_DRAW :=
    rd_put_of_place (f := PWR_STS_FILLING) (r := PWR_DRAW) (by decide) ..
  have counted (t : State) : (t.count .sw PWR_EVENTS_FILLER_US).rd .sw PWR_DRAW = t.rd .sw PWR_DRAW :=
    rd_put_of_place (f := PWR_EVENTS_FILLER_US) (r := PWR_DRAW) (by decide) t .sw .sw _ 0 0 0 0
  unfold State.burnish
  extract_lets fill s1 t s2 s3
  have h1 : s1.rd .sw PWR_DRAW = s.rd .sw PWR_DRAW := filling s (b2n (decide fill))
  have h2 : s2.rd .sw PWR_DRAW = s1.rd .sw PWR_DRAW := when_leaves (part := fun t => t.rd .sw PWR_DRAW) counted _ s1
  have h3 : s3.rd .sw PWR_DRAW = s.rd .sw PWR_DRAW := (onCore_rd s2 _ .sw PWR_DRAW 0 0).trans (h2.trans h1)
  have slope (t : State) (d : Nat) (f : SwCore → SwCore) : ((t.setDuty d).drawn.onCore f).drawn.rd .sw PWR_DRAW = t.rd .sw PWR_DRAW := by
    rw [drawn_rd, onCore_rd, drawn_rd, duty]
  have steady (t : State) (d : Nat) (f : SwCore → SwCore) : ((t.setDuty d).onCore f).rd .sw PWR_DRAW = t.rd .sw PWR_DRAW :=
    (onCore_rd (t.setDuty d) f .sw PWR_DRAW 0 0).trans (duty t d)
  clear_value s3
  split
  · rw [steady, filling]
  · split
    · rw [slope, h3]
    · rw [steady, h3]

theorem showLimit_now (s : State) : s.showLimit.get .sw PWR_DRAW_NOW = s.get .sw PWR_DRAW_NOW :=
  (get_put_apart _ _ PWR_DRAW_LIMIT PWR_DRAW_NOW _ _ _ rfl (by decide)).trans
    (get_put_apart _ _ PWR_DRAW_P_NOM PWR_DRAW_NOW _ _ _ rfl (by decide))

/-- A measured draw is shown. -/
theorem powerControlSample_now {s : State} (h : s.powered = true) {watts : Nat} (hw : watts < 65536) :
    (powerControlSample .sw watts s).get .sw PWR_DRAW_NOW = watts := by
  unfold powerControlSample
  extract_lets before l list avg s1 s2 s3 past full s4
  have h2 : s2.get .sw PWR_DRAW_NOW = watts := by
    have stored : (s1.put .sw PWR_DRAW_NOW watts).get .sw PWR_DRAW_NOW = watts :=
      (get_put _ _ _ _ _ _ (by decide)).trans (Nat.mod_eq_of_lt hw)
    exact (get_put_apart _ _ PWR_DRAW_AVG PWR_DRAW_NOW _ _ _ rfl (by decide)).trans stored
  have h3 : s3.get .sw PWR_DRAW_NOW = watts := (showLimit_now s2).trans h2
  have limited (v : Nat) : (s3.put .sw PWR_STS_OVER_LIMIT v).get .sw PWR_DRAW_NOW = watts :=
    (get_congr (f := PWR_DRAW_NOW) (rd_put_of_place (f := PWR_STS_OVER_LIMIT) (r := PWR_DRAW) (by decide) ..)).trans h3
  simp only [h, Bool.not_true, Bool.false_eq_true, if_false]
  split
  · exact (get_congr (f := PWR_DRAW_NOW) (burnish_draw ..)).trans (limited 0)
  · split
    · split
      · exact limited _
      · exact (get_congr (f := PWR_DRAW_NOW) (rd_of_frame (State_harder_frame s4) (PWR_DRAW_comp .sw) 0 0 (by decide))).trans (limited _)
    · exact (get_congr (f := PWR_DRAW_NOW) (rd_of_frame (State_easier_frame s4) (PWR_DRAW_comp .sw) 0 0 (by decide))).trans (limited _)

/-! ### The sensors (R140, R485) -/

theorem foldl_max_le {l : List Nat} {a m : Nat} (ha : a ≤ m) (h : ∀ x ∈ l, x ≤ m) : l.foldl max a ≤ m := by
  induction l generalizing a with
  | nil => exact ha
  | cons x l ih =>
    exact ih (Nat.max_le.2 ⟨ha, h x (List.mem_cons_self ..)⟩) fun y hy => h y (List.mem_cons_of_mem _ hy)

theorem le_foldl_max {l : List Nat} {a x : Nat} (hx : x ≤ a ∨ x ∈ l) : x ≤ l.foldl max a := by
  induction l generalizing a with
  | nil => simpa using hx
  | cons y l ih =>
    rw [List.foldl_cons]
    obtain hx | hx := hx
    · exact ih (.inl (Nat.le_trans hx (Nat.le_max_left ..)))
    · obtain rfl | hx := List.mem_cons.1 hx
      · exact ih (.inl (Nat.le_max_right ..))
      · exact ih (.inr hx)

/-- More sensors are never cooler. -/
theorem hottest_take_le {m n : Nat} (h : m ≤ n) (temps : List Nat) : (hottest (temps.take m)).1 ≤ (hottest (temps.take n)).1 :=
  foldl_max_le (Nat.zero_le _) fun _ hx => le_foldl_max (.inr ((List.take_subset_take_left temps h) hx))

theorem stopMain_tripLow (s : State) (p : Part) : ((s.stopMain p).chip p).tripLow = (s.chip p).tripLow := by
  cases p <;> rfl

theorem stopMain_inReset (s : State) (p : Part) : ((s.stopMain p).chip p).inReset = true := by
  cases p <;> rfl

theorem trip_chip (s : State) (p : Part) : ((s.trip p).chip p).tripLow = true ∧ ((s.trip p).chip p).inReset = true :=
  ⟨(stopMain_tripLow ..).trans (by cases p <;> rfl), stopMain_inReset ..⟩

theorem hbmStackThrottle_temp {n celsius : Nat} (hn : n < 6) (hc : celsius < 256) (s : State) :
    (hbmStackThrottle n celsius s).get .sw HBM_STS_TEMP 0 n = celsius := by
  have temp : (s.put .sw HBM_STS_TEMP celsius 0 n).get .sw HBM_STS_TEMP 0 n = celsius :=
    (get_put _ _ _ _ _ _ (by decide)).trans (Nat.mod_eq_of_lt hc)
  have throttled (v : Nat) := (get_put_apart (s.put .sw HBM_STS_TEMP celsius 0 n) .sw HBM_STS_THROTTLED HBM_STS_TEMP v 0 n rfl (by decide)).trans temp
  simp only [hbmStackThrottle, Nat.not_le.2 hn, if_false]
  split
  · exact throttled 1
  · split
    · exact throttled 0
    · exact temp

theorem hbmStackThrottle_throttled {n celsius : Nat} (hn : n < 6) (s : State) :
    (hbmStackThrottle n celsius s).flag .sw HBM_STS_THROTTLED 0 n
      = if 95 ≤ celsius then true else if celsius < 90 then false else s.flag .sw HBM_STS_THROTTLED 0 n := by
  simp only [hbmStackThrottle, Nat.not_le.2 hn, if_false]
  split
  · rw [State.flag, get_put _ _ _ _ _ _ (by decide)]; rfl
  · split
    · rw [State.flag, get_put _ _ _ _ _ _ (by decide)]; rfl
    · rw [State.flag, State.flag, get_put_apart _ _ HBM_STS_TEMP HBM_STS_THROTTLED _ _ _ rfl (by decide)]

end Sys2Proof.Machine
end

section
/-! The telemetry of the switch turned on and its windows (R288), and the rows of power (R140, R481 to R486, R520). -/

namespace Sys2Proof.Machine

/-! ### The readable bank -/

theorem lookup_keepIf_of_dropped {α : Type} {f : Nat → α → Bool} {q : Nat} (h : ∀ v, f q v = false) (m : SMap α) :
    lookup (keepIf f m) q = none := by
  induction m with
  | nil => rfl
  | cons e m ih =>
    obtain ⟨k, v⟩ := e
    simp only [keepIf] at ih
    by_cases hq : q = k
    · subst hq; simp [keepIf, h, ih]
    · cases hf : f k v <;> simp [keepIf, lookup, hf, hq, ih]

/-- A register file without the readable bank, as the state's registers. -/
def State.bankDropped (s : State) : State := s.onChip .sw fun c => { c with regs := dropBank c.regs }

/-- The places of the readable bank. -/
def bankPlaces : List Nat := [CGT_HIST.key 0 0, CGT_CELLS.key 0 0] ++ (upTo 4).map fun k => (CGT_MAP.word k).key 0 0

theorem dropBank_eq (m : RegFile) : dropBank m = keepIf (fun k _ => !bankPlaces.contains (k % 2 ^ 24)) m := by
  unfold dropBank
  extract_lets at_ gone
  have places : gone = bankPlaces := by decide
  rw [places]

theorem key_mod (r : Reg) (b i : Nat) : r.key b i % 2 ^ 24 = r.key 0 0 % 2 ^ 24 := by
  simp only [Reg.key]; omega

theorem bankDropped_rd {r : Reg} (h : bankPlaces.contains (r.key 0 0 % 2 ^ 24) = false) (s : State) (b i : Nat) :
    s.bankDropped.rd .sw r b i = s.rd .sw r b i := by
  have kept : lookup (dropBank s.swc.regs) (r.key b i) = lookup s.swc.regs (r.key b i) := by
    rw [dropBank_eq]
    exact lookup_keepIf _ _ _ fun _ => by rw [key_mod, h]; rfl
  exact congrArg (fun o : Option Word => o.getD (BitVec.ofNat 64 r.reset)) kept

theorem bankDropped_hist (s : State) (b : Nat) : s.bankDropped.rd .sw CGT_HIST b = 0 := by
  have gone : lookup (dropBank s.swc.regs) (CGT_HIST.key b 0) = none := by
    rw [dropBank_eq]
    exact lookup_keepIf_of_dropped (fun _ => by rw [key_mod]; decide) _
  exact congrArg (fun o : Option Word => o.getD (BitVec.ofNat 64 CGT_HIST.reset)) gone

/-! ### CGT.CTL.ENABLE -/

theorem setCgtEnable_again {s : State} (h : s.flag .sw CGT_CTL_ENABLE = true) : s.setCgtEnable 1 = s.put .sw CGT_CTL_ENABLE 1 := by
  simp [State.setCgtEnable, h]

/-- Telemetry turned on opens window 0 with both banks empty. -/
theorem setCgtEnable_anew {s : State} (h : s.flag .sw CGT_CTL_ENABLE = false) :
    s.setCgtEnable 1 = ((s.put .sw CGT_CTL_ENABLE 1).bankDropped.onCore fun c =>
      { c with live := [], liveMarked := [], liveOpen := s.now .sw }).wr .sw CGT_WIN_NUM 0 := by
  simp only [State.setCgtEnable, h]
  rfl

theorem put_enable_flag (s : State) : (s.put .sw CGT_CTL_ENABLE 1).flag .sw CGT_CTL_ENABLE = true := by
  rw [State.flag, get_put _ _ _ _ _ _ (by decide)]
  rfl

theorem setCgtEnable_flag (s : State) : (s.setCgtEnable 1).flag .sw CGT_CTL_ENABLE = true := by
  cases h : s.flag .sw CGT_CTL_ENABLE
  · have same : (s.setCgtEnable 1).rd .sw CGT_CTL = (s.put .sw CGT_CTL_ENABLE 1).rd .sw CGT_CTL := by
      rw [setCgtEnable_anew h, rd_wr_of_place (by decide), onCore_rd, bankDropped_rd (by decide)]
    rw [State.flag, get_congr (f := CGT_CTL_ENABLE) same]
    exact put_enable_flag s
  · rw [setCgtEnable_again h]
    exact put_enable_flag s

theorem setCgtEnable_hist {s : State} (h : s.flag .sw CGT_CTL_ENABLE = false) (b : Nat) :
    (s.setCgtEnable 1).get .sw CGT_HIST_TICKS b = 0 := by
  have empty : (s.setCgtEnable 1).rd .sw CGT_HIST b = 0 := by
    rw [setCgtEnable_anew h, rd_wr_of_place (by decide), onCore_rd, bankDropped_hist]
  rw [State.get, show CGT_HIST_TICKS.reg = CGT_HIST from rfl, empty]
  rfl

theorem setCgtEnable_window {s : State} (h : s.flag .sw CGT_CTL_ENABLE = false) : (s.setCgtEnable 1).get .sw CGT_WIN_NUM_NUM = 0 := by
  rw [setCgtEnable_anew h, State.get, show CGT_WIN_NUM_NUM.reg = CGT_WIN_NUM from rfl, rd_wr_same]
  rfl

theorem setCgtEnable_live {s : State} (h : s.flag .sw CGT_CTL_ENABLE = false) :
    (s.setCgtEnable 1).sw.core.live = [] ∧ (s.setCgtEnable 1).sw.core.liveOpen = s.now .sw := by
  rw [setCgtEnable_anew h]
  exact ⟨rfl, rfl⟩

theorem regDone_get (s : State) (q : Part) (path : Path) (st : Nat) (data : Word) (p : Part) (f : Fld) (b i : Nat) :
    (s.regDone q path st data).get p f b i = s.get p f b i :=
  get_congr (f := f) (regDone_rd ..)

theorem regDone_flag (s : State) (q : Part) (path : Path) (st : Nat) (data : Word) (p : Part) (f : Fld) (b i : Nat) :
    (s.regDone q path st data).flag p f b i = s.flag p f b i := by
  rw [State.flag, State.flag, regDone_get]

theorem regDone_core (s : State) (q : Part) (path : Path) (st : Nat) (data : Word) : (s.regDone q path st data).sw.core = s.sw.core := by
  cases path <;> rfl

/-! ### A window closes -/

/-- A window that closes without a push counts itself and opens the next one. -/
theorem telemetryWindowClose_of_due {s : State} (hen : s.flag .sw CGT_CTL_ENABLE = true)
    (hdue : s.due .sw s.sw.core.liveOpen (s.get .sw CGT_WIN_LEN_TICKS) = true) (hpush : s.flag .sw CGT_PUSH_ENABLE = false) :
    (telemetryWindowClose s).get .sw CGT_WIN_NUM_NUM = (s.get .sw CGT_WIN_NUM_NUM + 1) % 2 ^ CGT_WIN_NUM_NUM.w
      ∧ (telemetryWindowClose s).sw.core.live = []
      ∧ (telemetryWindowClose s).sw.core.liveOpen = s.sw.core.liveOpen + s.get .sw CGT_WIN_LEN_TICKS := by
  unfold telemetryWindowClose
  extract_lets c len ports s1 s2 word s3 num s4 s5 old s6 dst pl
  have bank {r : Reg} (h : bankPlaces.contains (r.key 0 0 % 2 ^ 24) = false) : s3.rd .sw r = s.rd .sw r := by
    have hist : r.key 0 0 % 2 ^ 24 ≠ CGT_HIST.key 0 0 % 2 ^ 24 := fun e => absurd (e ▸ h) (by decide)
    have cells : r.key 0 0 % 2 ^ 24 ≠ CGT_CELLS.key 0 0 % 2 ^ 24 := fun e => absurd (e ▸ h) (by decide)
    have map : ∀ k ∈ upTo 4, r.key 0 0 % 2 ^ 24 ≠ (CGT_MAP.word k).key 0 0 % 2 ^ 24 := fun k hk e => by
      have all : ∀ k ∈ upTo 4, bankPlaces.contains ((CGT_MAP.word k).key 0 0 % 2 ^ 24) = true := by decide
      exact Bool.noConfusion ((all k hk).symm.trans (e ▸ h))
    have h2 : s2.rd .sw r = s1.rd .sw r := by
      refine foldl_leaves (fun s => s.rd .sw r) _ (fun s e => ?_) _ s1
      dsimp only
      split
      · exact rd_put_of_place (f := CGT_HIST_TICKS) hist ..
      · split
        · exact rd_put_of_place (f := CGT_CELLS_SENT) cells ..
        · exact rd_put_of_place (f := CGT_CELLS_STALLED) cells ..
    have h3 : s3.rd .sw r = s2.rd .sw r :=
      foldl_leaves (fun s => s.rd .sw r) _ (fun s tc => foldl_leaves_of_mem (part := fun s => s.rd .sw r)
        (fun s k hk => rd_wr_of_place (map k hk) s .sw .sw _ (tc + 1) 0 0 0) s) _ s2
    rw [h3, h2]
    exact bankDropped_rd h s 0 0
  have core : s3.sw = s.sw := by
    have h2 : s2.sw = s1.sw := by
      refine foldl_leaves (·.sw) _ (fun s e => ?_) _ s1
      dsimp only
      split
      · exact put_sw ..
      · exact put_sw ..
    exact (foldl_leaves (·.sw) _ (fun s tc => foldl_leaves (·.sw) _ (fun s k => wr_sw ..) _ s) _ s2).trans h2
  clear_value s3
  have h4 {r : Reg} (h : r.key 0 0 % 2 ^ 24 ≠ CGT_WIN_NUM.key 0 0 % 2 ^ 24) : s4.rd .sw r = s3.rd .sw r :=
    (rd_put_of_place (f := CGT_WIN_NUM_OPEN_TICK) h (s3.addWrap .sw CGT_WIN_NUM_NUM) .sw .sw _ 0 0 0 0).trans
      (rd_put_of_place (f := CGT_WIN_NUM_NUM) h s3 .sw .sw _ 0 0 0 0)
  have num5 : s5.get .sw CGT_WIN_NUM_NUM = (s.get .sw CGT_WIN_NUM_NUM + 1) % 2 ^ CGT_WIN_NUM_NUM.w :=
    calc s5.get .sw CGT_WIN_NUM_NUM = s4.get .sw CGT_WIN_NUM_NUM := get_congr (f := CGT_WIN_NUM_NUM) (onCore_rd s4 _ .sw CGT_WIN_NUM 0 0)
      _ = (s3.addWrap .sw CGT_WIN_NUM_NUM).get .sw CGT_WIN_NUM_NUM :=
        get_put_apart _ _ CGT_WIN_NUM_OPEN_TICK CGT_WIN_NUM_NUM _ _ _ rfl (by decide)
      _ = (s3.get .sw CGT_WIN_NUM_NUM + 1) % 2 ^ CGT_WIN_NUM_NUM.w := get_put _ _ _ _ _ _ (by decide)
      _ = _ := by rw [get_congr (f := CGT_WIN_NUM_NUM) (bank (r := CGT_WIN_NUM) (by decide))]
  have push5 : s5.flag .sw CGT_PUSH_ENABLE = false := by
    have same : s5.rd .sw CGT_PUSH = s.rd .sw CGT_PUSH :=
      (onCore_rd s4 _ .sw CGT_PUSH 0 0).trans ((h4 (by decide)).trans (bank (r := CGT_PUSH) (by decide)))
    rw [State.flag, get_congr (f := CGT_PUSH_ENABLE) same]
    exact hpush
  have open4 : s4.sw.core.liveOpen = s.sw.core.liveOpen := congrArg (·.core.liveOpen) ((put_sw ..).trans ((put_sw ..).trans core))
  have open5 : s5.sw.core.liveOpen = s.sw.core.liveOpen + len := congrArg (· + len) open4
  have live5 : s5.sw.core.live = [] := rfl
  have run : (!s.flag .sw CGT_CTL_ENABLE || !s.due .sw c.liveOpen len) = false := by
    rw [hen]
    exact congrArg (!·) hdue
  clear_value s5
  simp only [run, push5, Bool.false_and, Bool.false_eq_true, if_false]
  exact ⟨num5, live5, open5⟩

/-! ### The rows -/

/-- A state whose throttle shows a new alert of THERM_ALERT_N. -/
theorem thermAlertAssert_throttle {s : State} (h : s.powered = true) (hno : s.flag .sw PWR_STS_THERM_ALERT = false) :
    ∃ l d, (thermAlertAssert s).throttle = { s.throttle with level := l, shown := d, thermAlert := 1, thermFrom := some (s.now .sw) } ∧ 2 ≤ l := by
  have pins : ((s.put .sw PWR_STS_THERM_ALERT 1).onCore fun c => { c with thermFrom := some (s.now .sw) }).throttle
      = { s.throttle with thermAlert := 1, thermFrom := some (s.now .sw) } := by
    exact congrArg (fun h : Throttle => { h with thermFrom := some (s.now .sw) }) (put_thermAlert_throttle s 1)
  obtain ⟨l, judged, hle⟩ := judgeDemand_throttle ((congrArg Throttle.powered pins).trans h) 2
  have low : 2 ≤ Throttle.demand { s.throttle with thermAlert := 1, thermFrom := some (s.now .sw) } :=
    thermAlert_le_demand (h := { s.throttle with thermAlert := 1, thermFrom := some (s.now .sw) }) Nat.one_ne_zero
  rw [demand_eq_throttle, pins] at judged hle
  refine ⟨l, Throttle.demand { s.throttle with thermAlert := 1, thermFrom := some (s.now .sw) }, ?_, Nat.le_trans low hle⟩
  rw [thermAlertAssert, if_neg (by rw [hno]; decide)]
  exact judged

/-- With the delay over THERM_ALERT_N demands P3. -/
theorem thermP3DelayExpiry_throttle {s : State} {u : Nat} (h : s.powered = true) (hfrom : s.sw.core.thermFrom = some u)
    (halert : s.flag .sw PWR_STS_THERM_ALERT = true) (hdue : s.due .sw u (s.get .sw PWR_THERM_CFG_P3_DELAY) = true) :
    (thermP3DelayExpiry s).throttle = { s.throttle with level := 3, shown := 3, thermFrom := none } := by
  have pins : (s.onCore fun c => { c with thermFrom := none }).throttle = { s.throttle with thermFrom := none } := rfl
  have alert : s.throttle.thermAlert ≠ 0 := bne_iff_ne.1 halert
  have low : 3 ≤ Throttle.demand { s.throttle with thermFrom := none } := thermAlert_le_demand (h := { s.throttle with thermFrom := none }) alert
  have top := demand_lt (s.onCore fun c => { c with thermFrom := none })
  rw [demand_eq_throttle, pins] at top
  have three : (s.onCore fun c => { c with thermFrom := none }).demand = 3 := by
    rw [demand_eq_throttle, pins]
    omega
  simp only [thermP3DelayExpiry, hfrom, halert, hdue, Bool.and_self, if_true]
  exact judgeDemand_of_three (s := s.onCore fun c => { c with thermFrom := none }) h three 2

theorem holdOver_level {s : State} {u : Nat} (h : s.powered = true) (hfrom : s.sw.core.holdFrom = some u)
    (hlevel : 0 < s.get .sw PWR_STS_LEVEL) (hdue : s.due .sw u (s.get .sw PWR_HOLD_TICKS) = true) :
    s.holdOver.get .sw PWR_STS_LEVEL = s.get .sw PWR_STS_LEVEL - 1 := by
  have top : s.get .sw PWR_STS_LEVEL < 4 := get_lt ..
  simp only [State.holdOver, hfrom, h, decide_eq_true hlevel, hdue, Bool.and_self, if_true]
  refine (get_congr (f := PWR_STS_LEVEL) (onCore_rd ..)).trans ((congrArg Throttle.level (enterLevel_throttle ..)).trans ?_)
  exact Nat.mod_eq_of_lt (by omega)

theorem dieSensorSample_ep {s : State} {temps : List Nat} (hawake : s.epc.inReset = false) (hcool : (hottest (temps.take 4)).1 < 120) :
    (dieSensorSample .ep temps s).get .ep PWR_TEMP_DIE_MAX = (hottest (temps.take 4)).1 := by
  have awake : (s.chip .ep).inReset = false := hawake
  have sensors : temps.take (if (Part.ep == .sw) = true then 16 else 4) = temps.take 4 := rfl
  have stored (v : Nat) : ((s.put .ep PWR_TEMP_DIE_MAX (hottest (temps.take 4)).1).put .ep PWR_TEMP_SENSOR v).get .ep PWR_TEMP_DIE_MAX
      = (hottest (temps.take 4)).1 :=
    (get_put_apart _ _ PWR_TEMP_SENSOR PWR_TEMP_DIE_MAX _ _ _ rfl (by decide)).trans
      ((get_put _ _ _ _ _ _ (by decide)).trans (Nat.mod_eq_of_lt (Nat.lt_trans hcool (by decide))))
  simp only [dieSensorSample, awake, sensors, Nat.not_le.2 hcool, Bool.false_eq_true, if_false]
  split
  · exact (get_congr (f := PWR_TEMP_DIE_MAX) (rd_of_frame (State_deliver_ep_frame _ _) (PWR_TEMP_comp .ep) 0 0 (by decide))).trans (stored _)
  · exact stored _

theorem dieSensorSample_trip {s : State} {p : Part} {temps : List Nat} (hawake : (s.chip p).inReset = false)
    (hhot : 120 ≤ (hottest (temps.take 4)).1) :
    ((dieSensorSample p temps s).chip p).tripLow = true ∧ ((dieSensorSample p temps s).chip p).inReset = true := by
  have hot : 120 ≤ (hottest (temps.take (if p == .sw then 16 else 4))).1 :=
    Nat.le_trans hhot (hottest_take_le (by split <;> decide) temps)
  simp only [dieSensorSample, hawake, hot, Bool.false_eq_true, if_false, if_true]
  exact trip_chip ..

/-- Settles O3: an alert, a cap or a forced level raises the demand, which the level in force meets at once; the samples and the telemetry
are shown in their registers. -/
theorem powerRowsComplete : Obligations.PowerRowsComplete := by
  refine ⟨?pwrAssert, ?pwrDeassert, ?thermAssert, ?thermDeassert, ?p3Delay, ?cap, ?force, ?hold, ?drawEp, ?drawSw, ?dieEp, ?trip, ?stack,
    ?telemetryAgain, ?telemetryAnew, ?window⟩
  case pwrAssert =>
    intro s h
    have pins := put_pwrAlert_throttle s 1
    have top : (s.put .sw PWR_STS_PWR_ALERT 1).demand = 3 := by
      have lt := demand_lt (s.put .sw PWR_STS_PWR_ALERT 1)
      have le := pwrAlert_le_demand (h := (s.put .sw PWR_STS_PWR_ALERT 1).throttle) (by rw [pins])
      rw [demand_eq_throttle] at *
      omega
    have judged := judgeDemand_of_three (s := s.put .sw PWR_STS_PWR_ALERT 1) h top 1
    rw [pins] at judged
    exact ⟨_, rfl, congrArg (fun h : Throttle => h.pwrAlert != 0) judged, congrArg Throttle.shown judged, congrArg Throttle.level judged⟩
  case pwrDeassert =>
    intro s h
    obtain ⟨l, d, judged⟩ := judgeDemand_pins (s.put .sw PWR_STS_PWR_ALERT 0) 1
    rw [put_pwrAlert_throttle] at judged
    exact ⟨_, rfl, congrArg (fun h : Throttle => h.pwrAlert != 0) judged⟩
  case thermAssert =>
    intro s h hno
    obtain ⟨l, d, judged, hle⟩ := thermAlertAssert_throttle h hno
    have level : (thermAlertAssert s).get .sw PWR_STS_LEVEL = l := congrArg Throttle.level judged
    exact ⟨_, rfl, congrArg (fun h : Throttle => h.thermAlert != 0) judged, congrArg Throttle.thermFrom judged, level ▸ hle⟩
  case thermDeassert =>
    intro s h
    obtain ⟨alert, since⟩ := thermAlertDeassert_throttle s
    exact ⟨_, rfl, congrArg (· != 0) alert, since⟩
  case p3Delay =>
    intro u s h hfrom halert hdue
    have judged := thermP3DelayExpiry_throttle h hfrom halert hdue
    exact ⟨_, rfl, congrArg Throttle.level judged, congrArg Throttle.shown judged⟩
  case cap =>
    intro cap s h hcap
    obtain ⟨l, judged, hle⟩ := judgeDemand_throttle (s := s.put .sw PWR_STS_CAP cap) h 3
    have stored : (s.put .sw PWR_STS_CAP cap).throttle.cap = cap := by
      rw [put_cap_throttle]
      exact Nat.mod_eq_of_lt hcap
    have asked : cap ≤ (s.put .sw PWR_STS_CAP cap).demand := Nat.le_trans (Nat.le_of_eq stored.symm) (cap_le_demand _)
    have level : (pwrCapChange cap s).get .sw PWR_STS_LEVEL = l := congrArg Throttle.level judged
    exact ⟨_, rfl, (congrArg Throttle.cap judged).trans stored, level ▸ Nat.le_trans asked hle⟩
  case force =>
    intro path x s hopen h
    obtain ⟨l, d, judged, hle⟩ := setPwrCtl_throttle h x
    have level : (s.setPwrCtl x).get .sw PWR_STS_LEVEL = l := congrArg Throttle.level judged
    refine ⟨_, rfl, ?_⟩
    simp only [forceLevelWrite, writeBy_of_open hopen, regDone_get, level]
    exact ⟨congrArg Throttle.force judged, hle⟩
  case hold =>
    intro u s h hfrom hlevel hdue
    exact ⟨_, rfl, holdOver_level h hfrom hlevel hdue⟩
  case drawEp =>
    intro watts s hw
    exact ⟨_, rfl, (get_put _ _ _ _ _ _ (by decide)).trans (Nat.mod_eq_of_lt hw)⟩
  case drawSw =>
    intro watts s hw h
    exact ⟨_, rfl, powerControlSample_now h hw⟩
  case dieEp =>
    intro temps s hawake hcool
    exact ⟨_, rfl, dieSensorSample_ep hawake hcool⟩
  case trip =>
    intro p temps s hawake hhot
    exact ⟨_, rfl, dieSensorSample_trip hawake hhot⟩
  case stack =>
    intro n celsius s hn hc
    exact ⟨_, rfl, hbmStackThrottle_temp hn hc s, hbmStackThrottle_throttled hn s⟩
  case telemetryAgain =>
    intro path s hopen hen
    refine ⟨_, rfl, ?_⟩
    simp only [cgtEnableWrite, writeBy_of_open hopen, regDone_flag, regDone_core, setCgtEnable_again hen, put_sw, Nat.reduceMod]
    exact ⟨put_enable_flag s, trivial⟩
  case telemetryAnew =>
    intro path b s hopen hen
    refine ⟨_, rfl, ?_⟩
    simp only [cgtEnableWrite, writeBy_of_open hopen, regDone_flag, regDone_core, regDone_get, Nat.reduceMod]
    exact ⟨setCgtEnable_flag s, setCgtEnable_window hen, (setCgtEnable_live hen).1, (setCgtEnable_live hen).2, setCgtEnable_hist hen b⟩
  case window =>
    intro s hen hdue hpush
    exact ⟨_, rfl, telemetryWindowClose_of_due hen hdue hpush⟩

end Sys2Proof.Machine
end

section
/-! The control complex: what its shared steps leave and store (R431 to R440). -/

namespace Sys2Proof.Machine

/-- A step whose frame names nothing of the switch beyond its registers leaves all of it. -/
theorem sw_of_frame {s t : State} {l : List Comp} (hf : ∀ {wt}, Off wt l → t.view wt = s.view wt)
    (hl : (Comp.core :: swComps).all (fun c => l.all fun d => !d.meets c) = true) : t.sw = s.sw := by
  have same (c : Comp) (hc : c ∈ Comp.core :: swComps) : s.sameIn t c := sameIn_of_frame hf c (List.all_eq_true.1 hl c hc)
  have core : t.sw.core = s.sw.core := same .core (List.mem_cons_self ..)
  have rest := sw_eq_of_sameIn fun c hc => same c (List.mem_cons_of_mem _ hc)
  rw [rest, core]

theorem cause_sw (s : State) (page bit : Nat) : (s.cause .sw page bit).sw = s.sw :=
  sw_of_frame (State_cause_sw_frame s page bit) (by decide)

theorem event_sw (s : State) (page d0 d1 status reason : Nat) (e : Err) (sev rung : Option Nat) (esc : Bool) :
    (s.event .sw page e d0 d1 sev rung esc status reason).sw = s.sw :=
  sw_of_frame (State_event_sw_frame s page e d0 d1 sev rung esc status reason) (by decide)

theorem fwChanged_sw (s : State) : s.fwChanged.sw = s.sw := sw_of_frame (State_fwChanged_frame s) (by decide)

/-- Causes and events leave the registers of every page but the side-band's and the log's. -/
theorem cause_rd {r : Reg} {page : Nat} (hr : r.comp .sw = .page .sw page) (h5 : page ≠ 5) (s : State) (pg bit b i : Nat) :
    (s.cause .sw pg bit).rd .sw r b i = s.rd .sw r b i :=
  rd_of_frame (State_cause_sw_frame s pg bit) hr b i (by simp [Comp.meets, Ne.symm h5])

theorem event_rd {r : Reg} {page : Nat} (hr : r.comp .sw = .page .sw page) (h5 : page ≠ 5) (hlog : page ≠ 0xb) (s : State)
    (pg d0 d1 status reason : Nat) (e : Err) (sev rung : Option Nat) (esc : Bool) (b i : Nat) :
    (s.event .sw pg e d0 d1 sev rung esc status reason).rd .sw r b i = s.rd .sw r b i :=
  rd_of_frame (State_event_sw_frame s pg e d0 d1 sev rung esc status reason) hr b i (by simp [Comp.meets, Ne.symm h5, Ne.symm hlog])

/-! ### The mailbox -/

theorem mbDone_sw (s : State) (status : Nat) : (s.mbDone status).sw = s.sw := sw_of_frame (State_mbDone_frame s status) (by decide)

/-- A completion leaves every register of the control complex but the status of the mailbox. -/
theorem mbDone_mgt {r : Reg} (hr : r.comp .sw = .page .sw 4) (h : r.key 0 0 % 2 ^ 24 ≠ MGT_MB_STS.key 0 0 % 2 ^ 24) (s : State) (status b i : Nat) :
    (s.mbDone status).rd .sw r b i = s.rd .sw r b i :=
  (cause_rd hr (by decide) ..).trans ((rd_put_of_place (f := MGT_MB_STS_BUSY) h ..).trans (rd_put_of_place (f := MGT_MB_STS_STATUS) h ..))

/-- It leaves the registers of other blocks. -/
theorem mbDone_rd {r : Reg} {page : Nat} (hr : r.comp .sw = .page .sw page) (h4 : page ≠ 4) (h5 : page ≠ 5) (s : State) (status b i : Nat) :
    (s.mbDone status).rd .sw r b i = s.rd .sw r b i :=
  rd_of_frame (State_mbDone_frame s status) hr b i (by simp [Comp.meets, Ne.symm h4, Ne.symm h5])

theorem mbDone_status (s : State) {status : Nat} (h : status < 256) : (s.mbDone status).get .sw MGT_MB_STS_STATUS = status := by
  refine (get_congr (f := MGT_MB_STS_STATUS) (cause_rd (MGT_MB_STS_comp .sw) (by decide) ..)).trans ?_
  rw [get_put_apart _ _ MGT_MB_STS_BUSY MGT_MB_STS_STATUS _ _ _ rfl (by decide), get_put _ _ _ _ _ _ (by decide)]
  exact Nat.mod_eq_of_lt h

/-- The response of the mailbox cleared for a command. -/
def State.mbCleared (s : State) : State := (upTo 16).foldl (fun s k => s.mbRsp k 0) s

theorem mbCleared_sw (s : State) : s.mbCleared.sw = s.sw := foldl_leaves (·.sw) _ (fun _ _ => wr_sw ..) _ s

/-- The places of the words of the response. -/
def responsePlaces : List Nat := (upTo 16).map fun k => (MGT_MB_RSP.word k).key 0 0 % 2 ^ 24

theorem mbRsp_rd {r : Reg} (h : responsePlaces.contains (r.key 0 0 % 2 ^ 24) = false) {k : Nat} (hk : k < 16) (s : State) (v b i : Nat) :
    (s.mbRsp k v).rd .sw r b i = s.rd .sw r b i := by
  refine rd_wr_of_place (fun e => ?_) ..
  have : (MGT_MB_RSP.word k).key 0 0 % 2 ^ 24 ∈ responsePlaces := List.mem_map.2 ⟨k, by simpa [upTo] using hk, rfl⟩
  simp_all

theorem mbCleared_rd {r : Reg} (h : responsePlaces.contains (r.key 0 0 % 2 ^ 24) = false) (s : State) (b i : Nat) :
    s.mbCleared.rd .sw r b i = s.rd .sw r b i :=
  foldl_leaves_of_mem (part := fun t => t.rd .sw r b i) (fun s k hk => mbRsp_rd h (by simpa [upTo] using hk) s 0 b i) s

theorem mbCleared_get {f : Fld} (h : responsePlaces.contains (f.reg.key 0 0 % 2 ^ 24) = false) (s : State) (b i : Nat) :
    s.mbCleared.get .sw f b i = s.get .sw f b i :=
  get_congr (f := f) (mbCleared_rd h ..)

theorem mbCleared_flag {f : Fld} (h : responsePlaces.contains (f.reg.key 0 0 % 2 ^ 24) = false) (s : State) (b i : Nat) :
    s.mbCleared.flag .sw f b i = s.flag .sw f b i := by
  rw [State.flag, State.flag, mbCleared_get h]

theorem mbCleared_mbReq (s : State) {k : Nat} (hk : k < 16) : s.mbCleared.mbReq k = s.mbReq k := by
  have places : ∀ k < 16, responsePlaces.contains ((MGT_MB_REQ.word k).key 0 0 % 2 ^ 24) = false := by decide
  rw [State.mbReq, State.mbReq, mbCleared_rd (places k hk)]

theorem mbCleared_inSession (s : State) : s.mbCleared.inSession = s.inSession := mbCleared_flag (f := MGT_HB_STS_ARMED) (by decide) ..

theorem mbCleared_cpuUp (s : State) (c : Nat) : s.mbCleared.cpuUp c = s.cpuUp c := by
  rw [State.cpuUp, State.cpuUp, State.cpuState, State.cpuState, mbCleared_rd (by decide)]

theorem mbCleared_actState (s : State) : s.mbCleared.actState = s.actState := mbCleared_get (f := MGT_FW_STS_ACT_STATE) (by decide) ..

theorem mbCleared_cpuServes (s : State) (c : Nat) : s.mbCleared.cpuServes c = s.cpuServes c := by
  rw [State.cpuServes, State.cpuServes, mbCleared_cpuUp, ← State.actState, mbCleared_actState]
  rfl

theorem mbCleared_firmware (s : State) : s.mbCleared.firmware = s.firmware := by
  simp only [State.firmware, State.runningImage, mbCleared_sw]

/-- A mailbox command reaches core 3: none runs, the windows of the heartbeat that have ended are closed, and core 3 takes commands. -/
structure State.MailboxReady (s : State) : Prop where
  idle : s.flag .sw MGT_MB_STS_BUSY = false
  fresh : s.hbFresh = s
  serves : s.cpuServes 3 = true

theorem mailbox_hello {s : State} (h : s.MailboxReady) : s.mailbox 1 = (s.mbCleared.doHello, true) := by
  obtain ⟨idle, fresh, serves⟩ := h
  have cleared := (mbCleared_cpuServes s 3).trans serves
  simp only [State.mbCleared] at cleared
  simp [State.mailbox, idle, fresh, cleared, State.mbCleared]

/-- A command of a host in session reaches core 3 with the feature that it needs agreed. -/
structure State.MailboxAgreed (s : State) (feature : Nat) : Prop extends s.MailboxReady where
  session : s.inSession = true
  agreed : (s.rd .sw MGT_FEAT).getLsbD feature = true

theorem mailbox_goodbye {s : State} (h : s.MailboxReady) (hsession : s.inSession = true) : s.mailbox 2 = (s.mbCleared.doGoodbye, true) := by
  obtain ⟨idle, fresh, serves⟩ := h
  have cleared := (mbCleared_cpuServes s 3).trans serves
  have session := (mbCleared_inSession s).trans hsession
  simp only [State.mbCleared] at cleared session
  simp [State.mailbox, idle, fresh, cleared, session, State.mbCleared, mbFeature]

theorem mailbox_reclaim {s : State} (h : s.MailboxAgreed 0) {op : Nat} (hop : op = 3 ∨ op = 4) :
    s.mailbox op = (s.mbCleared.reclaim (op == 4), true) := by
  obtain ⟨⟨idle, fresh, serves⟩, hsession, hagreed⟩ := h
  have cleared := (mbCleared_cpuServes s 3).trans serves
  have session := (mbCleared_inSession s).trans hsession
  have agreed : (s.mbCleared.rd .sw MGT_FEAT).getLsbD 0 = true := by rw [mbCleared_rd (by decide), hagreed]
  simp only [State.mbCleared] at cleared session agreed
  obtain rfl | rfl := hop
  · simp [State.mailbox, idle, fresh, cleared, session, agreed, State.mbCleared, mbFeature]
  · simp [State.mailbox, idle, fresh, cleared, session, agreed, State.mbCleared, mbFeature]

/-! ### HELLO and GOODBYE (R437, R438) -/

/-- HELLO of the major version that runs opens the next session with the features that both sides know. -/
theorem doHello_of_major {s : State} (h : bitsOf (s.mbReq 0) 16 16 = imgMajor s.firmware) :
    s.doHello.inSession = true ∧ s.doHello.get .sw MGT_HB_STS_SESSION = (s.sw.fw.session + 1) % 2 ^ 32
      ∧ s.doHello.rd .sw MGT_FEAT = BitVec.ofNat 64 (s.mbReq 1 &&& imgFeatures s.firmware) ∧ s.doHello.get .sw MGT_MB_STS_STATUS = stOK := by
  unfold State.doHello
  extract_lets i major minor id agreed live now len s1 s2 s3 s4
  have other : (major != imgMajor i) = false := by simpa [major, i] using h
  simp only [other, Bool.false_eq_true, if_false]
  have shown {r : Reg} (hr : r.comp .sw = .page .sw 4) (hsts : r.key 0 0 % 2 ^ 24 ≠ MGT_MB_STS.key 0 0 % 2 ^ 24)
      (hrsp : responsePlaces.contains (r.key 0 0 % 2 ^ 24) = false) (a b c st : Nat) :
      ((((s4.mbRsp 0 a).mbRsp 1 b).mbRsp 2 c).mbDone st).rd .sw r = s4.rd .sw r := by
    rw [mbDone_mgt hr hsts, mbRsp_rd hrsp (by decide), mbRsp_rd hrsp (by decide), mbRsp_rd hrsp (by decide)]
  have renewed (t : State) : ((t.put .sw MGT_HB_STS_MISSES 0).put .sw MGT_HB_STS_ORPHANED 0).get .sw MGT_HB_STS_ARMED = t.get .sw MGT_HB_STS_ARMED
      ∧ ((t.put .sw MGT_HB_STS_MISSES 0).put .sw MGT_HB_STS_ORPHANED 0).get .sw MGT_HB_STS_SESSION = t.get .sw MGT_HB_STS_SESSION
      ∧ ((t.put .sw MGT_HB_STS_MISSES 0).put .sw MGT_HB_STS_ORPHANED 0).rd .sw MGT_FEAT = t.rd .sw MGT_FEAT := by
    refine ⟨?_, ?_, ?_⟩
    · rw [get_put_apart _ _ MGT_HB_STS_ORPHANED MGT_HB_STS_ARMED _ _ _ rfl (by decide),
        get_put_apart _ _ MGT_HB_STS_MISSES MGT_HB_STS_ARMED _ _ _ rfl (by decide)]
    · rw [get_put_apart _ _ MGT_HB_STS_ORPHANED MGT_HB_STS_SESSION _ _ _ rfl (by decide),
        get_put_apart _ _ MGT_HB_STS_MISSES MGT_HB_STS_SESSION _ _ _ rfl (by decide)]
    · rw [rd_put_of_place (f := MGT_HB_STS_ORPHANED) (r := MGT_FEAT) (by decide),
        rd_put_of_place (f := MGT_HB_STS_MISSES) (r := MGT_FEAT) (by decide)]
  have armed3 : s3.get .sw MGT_HB_STS_ARMED = 1 := get_put _ _ _ _ _ _ (by decide)
  have session3 : s3.get .sw MGT_HB_STS_SESSION = id := by
    have stored : s2.get .sw MGT_HB_STS_SESSION = id := (get_put _ _ _ _ _ _ (by decide)).trans (Nat.mod_mod ..)
    exact (get_put_apart _ _ MGT_HB_STS_ARMED MGT_HB_STS_SESSION _ _ _ rfl (by decide)).trans stored
  have feat3 : s3.rd .sw MGT_FEAT = BitVec.ofNat 64 agreed :=
    (rd_put_of_place (f := MGT_HB_STS_ARMED) (r := MGT_FEAT) (by decide) ..).trans
      ((rd_put_of_place (f := MGT_HB_STS_SESSION) (r := MGT_FEAT) (by decide) ..).trans (rd_wr_same ..))
  have armed4 : s4.get .sw MGT_HB_STS_ARMED = 1 :=
    (when_leaves (part := fun t => t.get .sw MGT_HB_STS_ARMED) (fun t => (renewed t).1) _ s3).trans armed3
  have session4 : s4.get .sw MGT_HB_STS_SESSION = id :=
    (when_leaves (part := fun t => t.get .sw MGT_HB_STS_SESSION) (fun t => (renewed t).2.1) _ s3).trans session3
  have feat4 : s4.rd .sw MGT_FEAT = BitVec.ofNat 64 agreed :=
    (when_leaves (part := fun t => t.rd .sw MGT_FEAT) (fun t => (renewed t).2.2) _ s3).trans feat3
  clear_value s4
  have sts := shown (MGT_HB_STS_comp .sw) (by decide) (by decide)
  refine ⟨?_, (get_congr (f := MGT_HB_STS_SESSION) (sts ..)).trans session4, (shown (MGT_FEAT_comp .sw) (by decide) (by decide) ..).trans feat4,
    mbDone_status _ (by decide)⟩
  rw [State.inSession, State.flag, get_congr (f := MGT_HB_STS_ARMED) (sts ..), armed4]
  rfl

theorem onFw_rd (s : State) (f : Fw → Fw) (p : Part) (r : Reg) (b i : Nat) : (s.onFw f).rd p r b i = s.rd p r b i := by
  cases p <;> rfl

/-- An orphaned host has no session, and its heartbeat is not watched. -/
theorem orphanHost_session (s : State) :
    s.orphanHost.inSession = false ∧ s.orphanHost.flag .sw MGT_HB_STS_ORPHANED = true ∧ s.orphanHost.sw.fw.beats = none := by
  unfold State.orphanHost
  extract_lets cs now s1 s2 s3 s4
  have armed1 : s1.get .sw MGT_HB_STS_ARMED = 0 := get_put _ _ _ _ _ _ (by decide)
  clear_value s1 cs now
  have armed2 : s2.get .sw MGT_HB_STS_ARMED = 0 := by
    rw [get_congr (f := MGT_HB_STS_ARMED) (onFw_rd ..), get_put_apart _ _ MGT_HB_STS_ORPHANED MGT_HB_STS_ARMED _ _ _ rfl (by decide),
      get_put_apart _ _ MGT_HB_STS_MISSES MGT_HB_STS_ARMED _ _ _ rfl (by decide), armed1]
  have orphaned2 : s2.get .sw MGT_HB_STS_ORPHANED = 1 := by
    rw [get_congr (f := MGT_HB_STS_ORPHANED) (onFw_rd ..), get_put _ _ _ _ _ _ (by decide)]
    rfl
  have beats2 : s2.sw.fw.beats = none := rfl
  clear_value s2
  have h3 : s3.rd .sw MGT_HB_STS = s2.rd .sw MGT_HB_STS ∧ s3.sw = s2.sw := by
    refine ⟨foldl_leaves (fun t => t.rd .sw MGT_HB_STS) _ (fun t c => ?_) cs s2, foldl_leaves (·.sw) _ (fun t c => ?_) cs s2⟩
    · split
      · rfl
      · exact (rd_put_of_place (f := CTX_STS_QUIESCED) (r := MGT_HB_STS) (by decide) ..).trans
          (rd_put_of_place (f := CTX_STS_ORPHANED) (r := MGT_HB_STS) (by decide) ..)
    · split
      · rfl
      · exact (put_sw ..).trans (put_sw ..)
  have h4 : s4.rd .sw MGT_HB_STS = s2.rd .sw MGT_HB_STS ∧ s4.sw.fw.beats = s2.sw.fw.beats := by
    have fw : s4.sw.fw.rest = s3.sw.fw.rest := sameIn_of_frame (State_abortHerds_frame s3 rsFENCED _) .fw (by decide)
    exact ⟨(rd_of_frame (State_abortHerds_frame s3 rsFENCED _) (MGT_HB_STS_comp .sw) 0 0 (by decide)).trans h3.1,
      (congrArg Fw.beats fw).trans (congrArg (·.fw.beats) h3.2)⟩
  obtain ⟨sts4, fw4⟩ := h4
  clear_value s4
  have done {t : State} (hsts : t.rd .sw MGT_HB_STS = s4.rd .sw MGT_HB_STS) (hfw : t.sw.fw.beats = s4.sw.fw.beats) :
      t.inSession = false ∧ t.flag .sw MGT_HB_STS_ORPHANED = true ∧ t.sw.fw.beats = none := by
    refine ⟨?_, ?_, hfw.trans (fw4.trans beats2)⟩
    · rw [State.inSession, State.flag, get_congr (f := MGT_HB_STS_ARMED) (hsts.trans sts4), armed2]
      rfl
    · rw [State.flag, get_congr (f := MGT_HB_STS_ORPHANED) (hsts.trans sts4), orphaned2]
      rfl
  have recalled (f : Pool → Pool) : (s4.onPool f).settle.rd .sw MGT_HB_STS = s4.rd .sw MGT_HB_STS
      ∧ (s4.onPool f).settle.sw.fw.beats = s4.sw.fw.beats := by
    have fw : (s4.onPool f).settle.sw.fw.rest = s4.sw.fw.rest := sameIn_of_frame (State_settle_frame (s4.onPool f)) .fw (by decide)
    have beats := congrArg Fw.beats fw
    exact ⟨(rd_of_frame (State_settle_frame _) (MGT_HB_STS_comp .sw) 0 0 (by decide)).trans (onPool_rd ..), beats⟩
  split
  · split
    · exact done (recalled _).1 (recalled _).2
    · exact done rfl rfl
  · exact done rfl rfl

theorem doGoodbye_session (s : State) :
    s.doGoodbye.inSession = false ∧ s.doGoodbye.flag .sw MGT_HB_STS_ORPHANED = true ∧ s.doGoodbye.sw.fw.beats = none
      ∧ s.doGoodbye.get .sw MGT_MB_STS_STATUS = stOK := by
  obtain ⟨session, orphaned, beats⟩ := orphanHost_session s
  have sts : s.doGoodbye.rd .sw MGT_HB_STS = s.orphanHost.rd .sw MGT_HB_STS := mbDone_mgt (MGT_HB_STS_comp .sw) (by decide) ..
  refine ⟨?_, ?_, ?_, mbDone_status _ (by decide)⟩
  · rw [← session, State.inSession, State.inSession, State.flag, State.flag, get_congr (f := MGT_HB_STS_ARMED) sts]
  · rw [← orphaned, State.flag, State.flag, get_congr (f := MGT_HB_STS_ORPHANED) sts]
  · rw [State.doGoodbye, mbDone_sw, beats]

/-! ### CTX_RECLAIM and CTX_RESET (R440) -/

theorem flag_congr {s t : State} {p : Part} {f : Fld} {b i : Nat} (h : t.rd p f.reg b i = s.rd p f.reg b i) : t.flag p f b i = s.flag p f b i := by
  rw [State.flag, State.flag, get_congr (f := f) h]

theorem mbCleared_reclaimList (s : State) : s.mbCleared.reclaimList = s.reclaimList := by
  have valid (c : Nat) := mbCleared_flag (f := CTX_ENTRY_VALID) (by decide) s (c + 1) 0
  have host (c : Nat) := mbCleared_flag (f := CTX_ENTRY_HOST) (by decide) s (c + 1) 0
  have orphaned (c : Nat) : s.mbCleared.orphaned c = s.orphaned c := mbCleared_flag (f := CTX_STS_ORPHANED) (by decide) ..
  have named : s.mbCleared.orphaned = s.orphaned := funext orphaned
  simp only [State.reclaimList, State.hostCtxs, valid, host, named, mbCleared_mbReq s (show 0 < 16 by decide)]
  rfl

/-- The contexts of a list read no state once each has been cleared. -/
theorem ctxCleared_rd {cs : List Nat} {c : Nat} (h : c ∈ cs) (s : State) :
    (cs.foldl (fun s c => s.wr .sw CTX_STS 0 (c + 1)) s).rd .sw CTX_STS (c + 1) = 0 := by
  induction cs generalizing s with
  | nil => cases h
  | cons a cs ih =>
    rw [List.foldl_cons]
    by_cases hin : c ∈ cs
    · exact ih hin _
    · obtain rfl : c = a := (List.mem_cons.1 h).resolve_right hin
      refine (foldl_leaves_of_mem (part := fun t => t.rd .sw CTX_STS (c + 1)) (fun t a ha => ?_) _).trans (rd_wr_same ..)
      have apart : CTX_STS.key (c + 1) 0 ≠ CTX_STS.key (a + 1) 0 := key_ne_of_bank CTX_STS (fun e => hin (by simp_all)) 0
      rw [rd_wr, if_neg (fun e => apart e.2)]

/-- The herds and the programs of a list of contexts gone, before a reset brings the contexts back. -/
def State.ctxsEnded (s : State) (cs : List Nat) : State :=
  let s := (s.sw.hrd.herds.filter fun e => cs.contains e.2.ctx).foldl (fun s e => s.endHerd e.1) s
  let some' := s.sw.svc.progs.any fun e => cs.contains e.2.ctx
  (s.onSvc fun v => { v with progs := keepIf (fun _ (g : Prog) => !cs.contains g.ctx) v.progs }).when some' fun s => s.attested .sw 5

theorem ctxsEnded_progs (s : State) (cs : List Nat) : ∀ e ∈ (s.ctxsEnded cs).sw.svc.progs, e.2.ctx ∉ cs := by
  unfold State.ctxsEnded
  extract_lets t some'
  have kept : ((t.onSvc fun v => { v with progs := keepIf (fun _ (g : Prog) => !cs.contains g.ctx) v.progs }).when some'
      fun s => s.attested .sw 5).sw.svc.progs = keepIf (fun _ (g : Prog) => !cs.contains g.ctx) t.sw.svc.progs :=
    when_leaves (part := fun t => t.sw.svc.progs) (fun u => congrArg (·.svc.progs) ((put_sw ..).trans (count_sw ..))) _ _
  clear_value t some'
  intro e he
  rw [kept] at he
  simpa using (List.mem_filter.1 he).2

theorem reclaim_eq {s : State} {cs : List Nat} (hlist : s.reclaimList = some cs)
    (hquiet : cs.all (fun c => s.flag .sw CTX_STS_QUIESCED (c + 1)) = true) (reset : Bool) :
    s.reclaim reset = ((cs.foldl (fun s c => s.wr .sw CTX_STS 0 (c + 1)) (s.when reset fun s => s.ctxsEnded cs)).mbRsp 0 cs.length).mbDone stOK := by
  have ready : (cs.any fun c => !s.flag .sw CTX_STS_QUIESCED (c + 1)) = false := by simpa using hquiet
  simp only [State.reclaim, hlist, ready, Bool.false_eq_true, if_false, State.ctxsEnded]

/-- A reclaim of contexts that are all quiesced brings each back; with their herds and programs gone first where it resets them. -/
theorem reclaim_of_quiesced {s : State} {cs : List Nat} (hlist : s.reclaimList = some cs)
    (hquiet : cs.all (fun c => s.flag .sw CTX_STS_QUIESCED (c + 1)) = true) (reset : Bool) :
    (∀ c ∈ cs, (s.reclaim reset).orphaned c = false) ∧ (s.reclaim reset).get .sw MGT_MB_STS_STATUS = stOK
      ∧ (reset = true → ∀ e ∈ (s.reclaim reset).sw.svc.progs, e.2.ctx ∉ cs) := by
  rw [reclaim_eq hlist hquiet]
  refine ⟨fun c hc => ?_, mbDone_status _ (by decide), fun hreset => ?_⟩
  · have cleared : (((cs.foldl (fun s c => s.wr .sw CTX_STS 0 (c + 1)) (s.when reset fun s => s.ctxsEnded cs)).mbRsp 0 cs.length).mbDone stOK).rd
        .sw CTX_STS (c + 1) = 0 := by
      rw [mbDone_rd (CTX_STS_comp .sw) (by decide) (by decide), mbRsp_rd (by decide) (by decide), ctxCleared_rd hc]
    rw [State.orphaned, State.flag, State.get, show CTX_STS_ORPHANED.reg = CTX_STS from rfl, cleared]
    rfl
  · have svc : (((cs.foldl (fun s c => s.wr .sw CTX_STS 0 (c + 1)) (s.when reset fun s => s.ctxsEnded cs)).mbRsp 0 cs.length).mbDone stOK).sw
        = (s.ctxsEnded cs).sw := by
      rw [mbDone_sw, State.mbRsp, wr_sw, foldl_leaves (·.sw) _ (fun _ _ => wr_sw ..) _ _, hreset, when_true]
    rw [svc]
    exact ctxsEnded_progs s cs

end Sys2Proof.Machine
end

section
/-! The control cores, the heartbeat and the side-band port (R431 to R440, R448, R449). -/

namespace Sys2Proof.Machine

/-! ### The state of a core -/

theorem setCpu_sw (s : State) (c v : Nat) : (s.setCpu c v).sw = s.sw :=
  (when_leaves (part := (·.sw)) (fun _ => put_sw ..) _ _).trans (wr_sw ..)

theorem setCpu_now (s : State) (c v : Nat) : (s.setCpu c v).now .sw = s.now .sw :=
  when_leaves (part := fun t => t.now .sw) (f := fun s => s.put .sw SBP_STS_FW_UP (b2n (v == 1))) (fun _ => rfl) _ _

/-- A core's state leaves the registers of the control complex but its own. -/
theorem setCpu_mgt {r : Reg} (hr : r.comp .sw = .page .sw 4) (s : State) (c v b i : Nat) :
    (s.setCpu c v).rd .sw r b i = (s.wr .sw MGT_CORE_STS (setBits (s.rd .sw MGT_CORE_STS) (2 * c) 2 v)).rd .sw r b i := by
  have sbp (t : State) (x : Nat) : (t.put .sw SBP_STS_FW_UP x).rd .sw r b i = t.rd .sw r b i :=
    rd_of_frame (l := [.page .sw 5]) (fun hoff => put_sw_view t SBP_STS_FW_UP x 0 0 (SBP_STS_comp .sw ▸ hoff)) hr b i (by decide)
  exact when_leaves (part := fun t => t.rd .sw r b i) (fun t => sbp t _) _ _

theorem setCpu_cpuState {c : Nat} (hc : c < 4) (s : State) (v : Nat) : (s.setCpu c v).cpuState c = v % 4 := by
  rw [State.cpuState, setCpu_mgt (MGT_CORE_STS_comp .sw), rd_wr_same]
  exact getBits_setBits _ _ _ _ (by omega)

theorem cpuState_congr {s t : State} (h : t.rd .sw MGT_CORE_STS = s.rd .sw MGT_CORE_STS) (c : Nat) : t.cpuState c = s.cpuState c := by
  rw [State.cpuState, State.cpuState, h]

/-! ### Watchdogs (R431 to R434) -/

theorem wdtEvent_sw (s : State) (c : Nat) : (s.wdtEvent c).sw = s.sw := sw_of_frame (State_wdtEvent_frame s c) (by decide)

/-- An expiry recorded leaves every register but its own. -/
theorem wdtEvent_rd {r : Reg} (h : r.key 0 0 % 2 ^ 24 ≠ MGT_WDT_EVT.key 0 0 % 2 ^ 24) (s : State) (c b i : Nat) :
    (s.wdtEvent c).rd .sw r b i = s.rd .sw r b i :=
  (rd_put_of_place (f := MGT_WDT_EVT_TICK) h ..).trans ((rd_put_of_place (f := MGT_WDT_EVT_LAST_CORE) h ..).trans
    (rd_put_of_place (f := MGT_WDT_EVT_COUNT) h ..))

theorem wdtEvent_tick (s : State) (c : Nat) : (s.wdtEvent c).get .sw MGT_WDT_EVT_TICK = s.now .sw % 2 ^ 32 :=
  (get_put _ _ _ _ _ _ (by decide)).trans (Nat.mod_mod ..)

/-- With no image in trial there is none to confirm. -/
theorem trialConfirmTimer_of_none {s : State} (h : s.sw.fw.trials = []) : trialConfirmTimer s = s := by
  simp [trialConfirmTimer, h]

/-- A core other than the herd core with no command in progress leaves the switch and the control complex as they were when it is reset. -/
theorem cpuLeaves_of_idle {s : State} {c : Nat} (hc : c ≠ 1) (hstaging : c = 3 → s.sw.fw.staging = none)
    (hbusy : c = 3 → s.flag .sw MGT_MB_STS_BUSY = false) :
    (s.cpuLeaves c).sw = s.sw ∧ ∀ r, r.comp .sw = .page .sw 4 → (s.cpuLeaves c).rd .sw r = s.rd .sw r := by
  unfold State.cpuLeaves
  split
  · exact ⟨sw_of_frame (State_abandonTacks_frame s) (by decide), fun r hr => rd_of_frame (State_abandonTacks_frame s) hr 0 0 (by decide)⟩
  · split
    · next h1 => exact absurd (eq_of_beq h1) hc
    · split
      · next h3 => simp [hstaging (eq_of_beq h3), hbusy (eq_of_beq h3)]
      · exact ⟨rfl, fun _ _ => rfl⟩

/-- The expiries of a core within the last second. -/
def State.recentExpiries (s : State) (c : Nat) : List Nat := ((lookup s.sw.fw.expiries c).getD []).filter fun t => s.now .sw < t + 175000000

/-- The state of a core whose watchdog has expired, before it restarts or halts. -/
def State.coreExpired (s : State) (c : Nat) : State :=
  ((s.wdtEvent c).onFw fun f => { f with expiries := insertAt f.expiries c (s.recentExpiries c ++ [s.now .sw]) }).cpuLeaves c

theorem wdtEvent_now (s : State) (c : Nat) : (s.wdtEvent c).now .sw = s.now .sw := rfl

/-- With no image in trial a third expiry within a second halts the core. -/
theorem watchdogExpiry_of_halt {s : State} {c : Nat} (hlate : s.wdtLate c = true) (htrials : s.sw.fw.trials = [])
    (hfw : (s.coreExpired c).sw.fw.trials = []) (h : 2 ≤ (s.recentExpiries c).length) :
    watchdogExpiry c s = (((s.coreExpired c).setCpu c 3).event .sw pgMgt .coreHalt c).cause .sw pgMgt 1 := by
  have recent : ((lookup (s.wdtEvent c).sw.fw.expiries c).getD []).filter (fun t => s.now .sw < t + 175000000) = s.recentExpiries c := by
    rw [wdtEvent_sw, State.recentExpiries]
  simp only [State.coreExpired] at hfw ⊢
  simp only [watchdogExpiry, hlate, trialConfirmTimer_of_none htrials, recent, h, hfw, Bool.not_true, Bool.false_eq_true, if_false, decide_true,
    List.isEmpty_nil, Bool.and_self, if_true]

/-- With no image in trial any other expiry restarts it. -/
theorem watchdogExpiry_of_restart {s : State} {c : Nat} (hlate : s.wdtLate c = true) (htrials : s.sw.fw.trials = [])
    (hfw : (s.coreExpired c).sw.fw.trials = []) (h : (s.recentExpiries c).length < 2) :
    watchdogExpiry c s = (((s.coreExpired c).setCpu c 2).event .sw pgMgt .wdtRestart c).cause .sw pgMgt 0 := by
  have recent : ((lookup (s.wdtEvent c).sw.fw.expiries c).getD []).filter (fun t => s.now .sw < t + 175000000) = s.recentExpiries c := by
    rw [wdtEvent_sw, State.recentExpiries]
  have after : ((((s.coreExpired c).setCpu c 2).event .sw pgMgt .wdtRestart c).cause .sw pgMgt 0).sw.fw.trials = [] := by
    rw [cause_sw, event_sw, setCpu_sw, hfw]
  simp only [State.coreExpired] at after ⊢
  simp only [watchdogExpiry, hlate, trialConfirmTimer_of_none htrials, recent, Nat.not_le.2 h, after, Bool.not_true, Bool.false_eq_true, if_false,
    decide_false, Bool.false_and, List.isEmpty_nil, if_true]

/-- What a core's expiry leaves at the switch and shows of itself, where the core has no command in progress. -/
theorem coreExpired_of_idle {s : State} {c : Nat} (hc : c ≠ 1) (hstaging : c = 3 → s.sw.fw.staging = none)
    (hbusy : c = 3 → s.flag .sw MGT_MB_STS_BUSY = false) :
    (s.coreExpired c).sw.fw = { s.sw.fw with expiries := insertAt s.sw.fw.expiries c (s.recentExpiries c ++ [s.now .sw]) }
      ∧ (s.coreExpired c).get .sw MGT_WDT_EVT_TICK = s.now .sw % 2 ^ 32 := by
  have busy : c = 3 → ((s.wdtEvent c).onFw fun f => { f with expiries := insertAt f.expiries c (s.recentExpiries c ++ [s.now .sw]) }).flag
      .sw MGT_MB_STS_BUSY = false := fun h3 => by
    rw [← hbusy h3]
    exact flag_congr (f := MGT_MB_STS_BUSY) ((onFw_rd ..).trans (wdtEvent_rd (by decide) ..))
  obtain ⟨sw, mgt⟩ := cpuLeaves_of_idle hc (s := (s.wdtEvent c).onFw fun f => { f with expiries := insertAt f.expiries c (s.recentExpiries c ++ [s.now .sw]) })
    (fun h3 => (congrArg (·.fw.staging) (wdtEvent_sw s c)).trans (hstaging h3)) busy
  constructor
  · rw [State.coreExpired, sw, onFw_sw_fw, wdtEvent_sw]
  · rw [State.coreExpired, get_congr (f := MGT_WDT_EVT_TICK) (mgt _ (MGT_WDT_EVT_comp .sw)), get_congr (f := MGT_WDT_EVT_TICK) (onFw_rd ..), wdtEvent_tick]

theorem coreExpired_trials {s : State} {c : Nat} (hc : c ≠ 1) (hstaging : c = 3 → s.sw.fw.staging = none)
    (hbusy : c = 3 → s.flag .sw MGT_MB_STS_BUSY = false) (htrials : s.sw.fw.trials = []) : (s.coreExpired c).sw.fw.trials = [] := by
  rw [(coreExpired_of_idle hc hstaging hbusy).1, htrials]

/-- After its cause and record a core is in the state that its expiry gave it. -/
theorem cause_event_mgt {r : Reg} (hr : r.comp .sw = .page .sw 4) (s : State) (e : Err) (c bit : Nat) :
    ((s.event .sw pgMgt e c).cause .sw pgMgt bit).rd .sw r = s.rd .sw r :=
  (cause_rd hr (by decide) ..).trans (event_rd hr (by decide) (by decide) ..)

theorem pet_pets (s : State) (c : Nat) : lookup (s.pet c).sw.fw.pets c = some (s.now .sw) := by
  simp [State.pet, lookup_insertAt]

theorem secWatchdogExpiry_sw {s : State} (h : s.get .sw MGT_CORE_STS_SECURITY = 1) : (secWatchdogExpiry .sw s).secHalted .sw = true := by
  have running : s.secHalted .sw = false := by rw [State.secHalted, h]; rfl
  have halted : (secWatchdogExpiry .sw s).get .sw MGT_CORE_STS_SECURITY = 3 := by
    simp only [secWatchdogExpiry, running, h, Bool.false_eq_true, if_false, beq_self_eq_true, if_true]
    rw [get_congr (f := MGT_CORE_STS_SECURITY) (event_rd (MGT_CORE_STS_comp .sw) (by decide) (by decide) ..),
      get_congr (f := MGT_CORE_STS_SECURITY) (wdtEvent_rd (by decide) ..), get_put _ _ _ _ _ _ (by decide)]
    rfl
  rw [State.secHalted, halted]
  rfl

theorem secWatchdogExpiry_ep {s : State} (hrun : s.ep.secHalted = false) (hawake : s.epc.inReset = false) (hstep : 3 ≤ s.epc.step) :
    (secWatchdogExpiry .ep s).ep.secHalted = true := by
  have running : s.secHalted .ep = false := hrun
  simp only [secWatchdogExpiry, running, hawake, Nat.not_lt.2 hstep, Bool.false_eq_true, if_false, decide_false, Bool.or_self]
  exact sameIn_of_frame (State_event_ep_frame { s with ep := { s.ep with secHalted := true } } pgSec .secCoreHalt 0 0 (some 4) none false 0 0) .sec (by decide)

theorem coreRestartDone_of_halted {s : State} {c : Nat} (hc : c < 4) (h0 : c ≠ 0) (hstate : s.cpuState c = 2) (hact : s.actState ≠ 3) :
    coreRestartDone c s = s.cpuRuns c := by
  simp [coreRestartDone, hc, h0, hstate, hact]

/-! ### The heartbeat (R438, R439) -/

theorem beatW_of_session {s : State} (hfresh : s.hbFresh = s) (hsession : s.inSession = true) :
    s.beatW (s.get .sw MGT_HB_STS_SESSION) = (s.onFw fun f => { f with beats := f.beats.map fun b => (b.1, b.2.1, true) }, true) := by
  simp [State.beatW, hfresh, hsession]

/-- A window that closes with a beat, or with a miss that is not the third. -/
theorem windowClose_of_due {s : State} {at_ len : Nat} {beat : Bool} (hbeats : s.sw.fw.beats = some (at_, len, beat)) (hdue : s.due .sw at_ len = true)
    (h : beat = true ∨ s.get .sw MGT_HB_STS_MISSES < 2) :
    s.windowClose.sw.fw.beats = some (at_ + len, s.get .sw MGT_HB_CFG_PERIOD, false)
      ∧ s.windowClose.get .sw MGT_HB_STS_MISSES = if beat then 0 else s.get .sw MGT_HB_STS_MISSES + 1 := by
  have misses (t : State) (f : Fw → Fw) : (t.onFw f).get .sw MGT_HB_STS_MISSES = t.get .sw MGT_HB_STS_MISSES :=
    get_congr (f := MGT_HB_STS_MISSES) (onFw_rd ..)
  simp only [State.windowClose, hbeats, hdue, Bool.not_true, Bool.false_eq_true, if_false]
  cases beat with
  | true => exact ⟨congrArg (·.fw.beats) (put_sw ..), get_put _ _ _ _ _ _ (by decide)⟩
  | false =>
    have low : s.get .sw MGT_HB_STS_MISSES < 2 := h.resolve_left nofun
    simp only [misses, Nat.not_le.2 low, Bool.false_eq_true, if_false]
    refine ⟨congrArg (·.fw.beats) (put_sw ..), (get_put _ _ _ _ _ _ (by decide)).trans (Nat.mod_eq_of_lt ?_)⟩
    exact Nat.lt_of_lt_of_le (Nat.succ_lt_succ low) (by decide)

/-- Nothing of a context is in flight in a switch whose queues are empty. -/
theorem ctxBusy_of_empty {s : State} (hqueue : s.sw.pool.queue = []) (hgathers : s.sw.pool.gathers = []) (hwaits : s.swc.sync.waits = []) (c : Nat) :
    s.ctxBusy c = false := by
  simp [State.ctxBusy, hqueue, hgathers, hwaits]

theorem quiesced_flag {cs : List Nat} {c : Nat} (h : c ∈ cs) (s : State) :
    (cs.foldl (fun s c => s.put .sw CTX_STS_QUIESCED 1 (c + 1)) s).flag .sw CTX_STS_QUIESCED (c + 1) = true := by
  induction cs generalizing s with
  | nil => cases h
  | cons a cs ih =>
    rw [List.foldl_cons]
    by_cases hin : c ∈ cs
    · exact ih hin _
    · obtain rfl : c = a := (List.mem_cons.1 h).resolve_right hin
      refine (foldl_leaves_of_mem (part := fun t => t.flag .sw CTX_STS_QUIESCED (c + 1)) (fun t a ha => ?_) _).trans ?_
      · have apart : CTX_STS.key (c + 1) 0 ≠ CTX_STS.key (a + 1) 0 := key_ne_of_bank CTX_STS (fun e => hin (by simp_all)) 0
        exact flag_congr (f := CTX_STS_QUIESCED) ((rd_wr ..).trans (if_neg (fun e => apart e.2)))
      · rw [State.flag, get_put _ _ _ _ _ _ (by decide)]
        rfl

theorem contextQuiesce_of_empty {s : State} (hherds : s.sw.hrd.herds = []) (hqueue : s.sw.pool.queue = []) (hgathers : s.sw.pool.gathers = [])
    (hrecalls : s.sw.pool.recalls = []) (hwaits : s.swc.sync.waits = []) :
    contextQuiesce s = (s.hostCtxs.filter s.orphaned).foldl (fun s c => s.put .sw CTX_STS_QUIESCED 1 (c + 1)) s := by
  have recalling : (s.hostSlot.any fun i => (lookup s.sw.pool.recalls i).isSome) = false := by
    rw [hrecalls]
    cases s.hostSlot <;> rfl
  have busy : (s.hostCtxs.filter s.orphaned).any s.ctxBusy = false := by
    rw [funext (ctxBusy_of_empty hqueue hgathers hwaits)]
    simp
  simp only [contextQuiesce, hherds, recalling, busy, List.any_nil, Bool.or_self, Bool.false_eq_true, if_false]

/-! ### The rows -/

/-- Settles O31: the expiries and resumptions show in the state of the core, the session moves by the mailbox and by the windows of its
heartbeat, and the side-band port stores its address and answers. -/
theorem coreAndSessionRowsComplete : Obligations.CoreAndSessionRowsComplete := by
  refine ⟨?restart, ?halt, ?pet, ?secSw, ?secEp, ?resume, ?hello, ?goodbye, ?reclaim, ?reset, ?beat, ?window, ?quiesce, ?address, ?control⟩
  case restart =>
    intro c s hc h1 hup hdue htrials hexp hstaging hbusy
    have late : s.wdtLate c = true := by simp [State.wdtLate, hc, hup, hdue]
    have recent : s.recentExpiries c = [] := by rw [State.recentExpiries, hexp]; rfl
    obtain ⟨fw, tick⟩ := coreExpired_of_idle h1 (fun _ => hstaging) (fun _ => hbusy)
    refine ⟨_, rfl, ?_⟩
    simp only [watchdogExpiry_of_restart late htrials (coreExpired_trials h1 (fun _ => hstaging) (fun _ => hbusy) htrials) (by rw [recent]; decide)]
    refine ⟨?_, ?_, ?_⟩
    · rw [cpuState_congr (cause_event_mgt (MGT_CORE_STS_comp .sw) ..), setCpu_cpuState hc]
    · rw [cause_sw, event_sw, setCpu_sw, fw, recent]
      simp [lookup_insertAt]
    · rw [get_congr (f := MGT_WDT_EVT_TICK) (cause_event_mgt (MGT_WDT_EVT_comp .sw) ..), get_congr (f := MGT_WDT_EVT_TICK)
        ((setCpu_mgt (MGT_WDT_EVT_comp .sw) ..).trans (rd_wr_of_place (by decide) ..)), tick]
  case halt =>
    rintro c s rfl hup hdue htrials hrecent
    have late : s.wdtLate 2 = true := by simp [State.wdtLate, hup, hdue]
    refine ⟨_, rfl, ?_⟩
    simp only [watchdogExpiry_of_halt late htrials (coreExpired_trials (by decide) nofun nofun htrials) hrecent]
    rw [cpuState_congr (cause_event_mgt (MGT_CORE_STS_comp .sw) ..), setCpu_cpuState (by decide)]
  case pet =>
    intro c mask s hlate hc hmask hup
    refine ⟨_, rfl, ?_⟩
    simp only [wdtPet, hlate, hc, hmask, hup, Bool.false_eq_true, if_false, decide_true, Bool.and_self, if_true]
    exact pet_pets s c
  case secSw =>
    intro s h
    exact ⟨_, rfl, secWatchdogExpiry_sw h⟩
  case secEp =>
    intro s hrun hawake hstep
    exact ⟨_, rfl, secWatchdogExpiry_ep hrun hawake hstep⟩
  case resume =>
    intro c s hc h0 hstate hact
    refine ⟨_, rfl, ?_⟩
    simp only [coreRestartDone_of_halted hc h0 hstate hact]
    refine ⟨(cpuState_congr (onFw_rd ..) c).trans (setCpu_cpuState hc s 1), (pet_pets ..).trans (congrArg some (setCpu_now s c 1))⟩
  case hello =>
    intro s hopen hidle hserves hfresh hmajor
    have major : bitsOf (s.mbCleared.mbReq 0) 16 16 = imgMajor s.mbCleared.firmware := by
      rw [mbCleared_mbReq s (by decide), mbCleared_firmware, hmajor]
    have done := doHello_of_major major
    rw [mbCleared_sw, mbCleared_mbReq s (by decide), mbCleared_firmware] at done
    refine ⟨_, rfl, ?_⟩
    simp only [hello, State.mbWrite, writeBy_of_open hopen, mailbox_hello ⟨hidle, hfresh, hserves⟩, State.inSession, regDone_flag, regDone_get, regDone_rd]
    exact done
  case goodbye =>
    intro s hopen hidle hserves hfresh hsession
    refine ⟨_, rfl, ?_⟩
    simp only [goodbye, State.mbWrite, writeBy_of_open hopen, mailbox_goodbye ⟨hidle, hfresh, hserves⟩ hsession, State.inSession, regDone_flag,
      regDone_get, regDone_sw]
    exact doGoodbye_session s.mbCleared
  case reclaim =>
    intro cs s hopen hidle hserves hfresh hsession hagreed hlist hquiet
    have quiet : cs.all (fun c => s.mbCleared.flag .sw CTX_STS_QUIESCED (c + 1)) = true := by
      simpa only [mbCleared_flag (f := CTX_STS_QUIESCED) (show responsePlaces.contains (CTX_STS.key 0 0 % 2 ^ 24) = false by decide)] using hquiet
    obtain ⟨orphaned, status, -⟩ := reclaim_of_quiesced ((mbCleared_reclaimList s).trans hlist) quiet false
    refine ⟨_, rfl, fun c hc => ?_⟩
    simp only [ctxReclaim, State.mbWrite, writeBy_of_open hopen, mailbox_reclaim ⟨⟨hidle, hfresh, hserves⟩, hsession, hagreed⟩ (.inl rfl),
      State.orphaned, regDone_flag, regDone_get]
    exact ⟨orphaned c hc, status⟩
  case reset =>
    intro cs s hopen hidle hserves hfresh hsession hagreed hlist hquiet
    have quiet : cs.all (fun c => s.mbCleared.flag .sw CTX_STS_QUIESCED (c + 1)) = true := by
      simpa only [mbCleared_flag (f := CTX_STS_QUIESCED) (show responsePlaces.contains (CTX_STS.key 0 0 % 2 ^ 24) = false by decide)] using hquiet
    obtain ⟨orphaned, status, progs⟩ := reclaim_of_quiesced ((mbCleared_reclaimList s).trans hlist) quiet true
    refine ⟨_, rfl, fun c hc => ?_⟩
    simp only [ctxReset, State.mbWrite, writeBy_of_open hopen, mailbox_reclaim ⟨⟨hidle, hfresh, hserves⟩, hsession, hagreed⟩ (.inr rfl),
      State.orphaned, regDone_flag, regDone_get, regDone_sw]
    exact ⟨orphaned c hc, fun e he => ⟨progs rfl e he, status⟩⟩
  case beat =>
    rintro _ s hopen hfresh hsession rfl
    refine ⟨_, rfl, ?_⟩
    simp only [hbBeat, writeBy_of_open hopen, beatW_of_session hfresh hsession]
    rfl
  case window =>
    intro at_ len beat s hbeats hdue h
    exact ⟨_, rfl, windowClose_of_due hbeats hdue h⟩
  case quiesce =>
    intro s hherds hqueue hgathers hrecalls hwaits
    refine ⟨_, rfl, fun c hc horphaned => ?_⟩
    rw [contextQuiesce_of_empty hherds hqueue hgathers hrecalls hwaits]
    exact quiesced_flag (List.mem_filter.2 ⟨hc, horphaned⟩) s
  case address =>
    intro addr s hstandby hen
    refine ⟨_, rfl, ?_⟩
    simp only [i3cAddressAssign, hstandby, hen, Bool.and_self, if_true]
    refine ⟨?_, get_put _ _ _ _ _ _ (by decide)⟩
    rw [get_put_apart _ _ SBP_STS_DYN_ADDR SBP_STS_MODE _ _ _ rfl (by decide), get_put _ _ _ _ _ _ (by decide)]
    rfl
  case control =>
    intro s hstandby
    refine ⟨_, rfl, ?_⟩
    simp only [mctpControl, hstandby, Bool.not_true, Bool.false_eq_true, if_false, if_true]
    exact ⟨mem_out_emit .., (get_congr (f := SBP_COUNTS_MESSAGES) (emit_rd ..)).trans (get_count _ _ _ _ _ _ (by decide))⟩

end Sys2Proof.Machine
end

section
/-! The host's memory requests at the home (R380, R385): what the home takes of a request that passes its checks, and the half line that the host gives back. -/

namespace Sys2Proof.Machine

theorem hostGuard_of_taken {s : State} {kind dpa : Nat} (hmem : s.cxlMem = true) (hcheck : s.hostCheck (dpa / 64 * 64) = stOK)
    (htime : kind < 4 ∨ s.hostSlot.all s.snoopsInTime = true) (f : Nat → Nat → State → State) :
    s.hostGuard kind dpa f = f (dpa / 64 * 64 / 2 ^ 40) (dpa / 64 * 64 % 2 ^ 40) s := by
  have timely : (if 4 ≤ kind then s.hostSlot.elim s fun i => snoopTimeout i s else s) = s := by
    split
    next hgive =>
      have hall := htime.resolve_left (by omega)
      cases hslot : s.hostSlot with
      | none => rfl
      | some i => exact snoopTimeout_of_inTime (by simpa [hslot] using hall)
    next => rfl
  have ok : (if (stOK == stPARTITION_CLOSING && s.hostReturns kind (dpa / 64 * 64)) = true then stOK else stOK) = stOK := ite_self _
  simp only [State.hostGuard, hmem, Bool.not_true, Bool.false_eq_true, if_false, timely, hcheck, ok, bne_self_eq_false]

/-! ### Reads, invalidates and writes that enter the home -/

section
variable {s : State} {dpa : Nat} (hmem : s.cxlMem = true) (hcheck : s.hostCheck (dpa / 64 * 64) = stOK)
include hmem hcheck

theorem memRd_uncached {mv : Nat}
    (h : mv = 0 ∨ s.hostCaches (dpa / 64 * 64 / 2 ^ 40 * 2 ^ 40 + dpa / 64 * 64 % 2 ^ 40) = false) :
    memRd dpa mv s = s.hostQueue .read (dpa / 64 * 64 / 2 ^ 40) (dpa / 64 * 64 % 2 ^ 40) 64 (s.hostMember 0 (dpa / 64 * 64 % 2 ^ 40) 0 []) := by
  have reads : (mv == 0 || !s.hostCaches (dpa / 64 * 64 / 2 ^ 40 * 2 ^ 40 + dpa / 64 * 64 % 2 ^ 40)) = true := by simpa using h
  simp only [memRd, hostGuard_of_taken hmem hcheck (.inl (show min mv 2 < 4 by omega)), reads, if_true]

theorem memRd_shared (h : s.hostCaches (dpa / 64 * 64 / 2 ^ 40 * 2 ^ 40 + dpa / 64 * 64 % 2 ^ 40) = true) :
    memRd dpa 1 s = s.hostQueue .readShared (dpa / 64 * 64 / 2 ^ 40) (dpa / 64 * 64 % 2 ^ 40 / 128 * 128) 128
      (s.hostMember 1 (dpa / 64 * 64 % 2 ^ 40) 0 []) := by
  have low : min 1 2 = 1 := rfl
  simp only [memRd, low, hostGuard_of_taken hmem hcheck (.inl (show 1 < 4 by decide)), h, Nat.reduceBEq, Bool.not_true, Bool.or_self,
    Bool.false_eq_true, if_false, if_true]

theorem memRd_own {mv : Nat} (hmv : 2 ≤ mv) (h : s.hostCaches (dpa / 64 * 64 / 2 ^ 40 * 2 ^ 40 + dpa / 64 * 64 % 2 ^ 40) = true)
    (hseal : s.sealedRange (dpa / 64 * 64 / 2 ^ 40) (dpa / 64 * 64 % 2 ^ 40 / 128 * 128) 128 = false) :
    memRd dpa mv s = s.hostQueue .readOwn (dpa / 64 * 64 / 2 ^ 40) (dpa / 64 * 64 % 2 ^ 40 / 128 * 128) 128
      (s.hostMember 2 (dpa / 64 * 64 % 2 ^ 40) 0 []) := by
  have none : (mv == 0) = false := beq_false_of_ne (by omega)
  have shared : (mv == 1) = false := beq_false_of_ne (by omega)
  simp only [memRd, Nat.min_eq_right hmv, hostGuard_of_taken hmem hcheck (.inl (show 2 < 4 by decide)), h, hseal, none, shared,
    Bool.not_true, Bool.or_self, Bool.false_eq_true, if_false]

theorem memInv_cached (h : s.hostCaches (dpa / 64 * 64 / 2 ^ 40 * 2 ^ 40 + dpa / 64 * 64 % 2 ^ 40) = true)
    (hseal : s.sealedRange (dpa / 64 * 64 / 2 ^ 40) (dpa / 64 * 64 % 2 ^ 40 / 128 * 128) 128 = false) :
    memInv dpa s = s.hostQueue .upgrade (dpa / 64 * 64 / 2 ^ 40) (dpa / 64 * 64 % 2 ^ 40 / 128 * 128) 128
      (s.hostMember 3 (dpa / 64 * 64 % 2 ^ 40) 0 []) := by
  simp only [memInv, hostGuard_of_taken hmem hcheck (.inl (show 3 < 4 by decide)), h, hseal, Bool.not_true, Bool.false_eq_true, if_false]

section
variable (htime : s.hostSlot.all s.snoopsInTime = true)
include htime

theorem memWr_uncached {mask : Nat} {data : List Byte}
    (h : (s.ownsLine (lineKey (dpa / 64 * 64 / 2 ^ 40) (dpa / 64 * 64 % 2 ^ 40 / 128)) s.hostSlot
      && ((s.dirAt (lineKey (dpa / 64 * 64 / 2 ^ 40) (dpa / 64 * 64 % 2 ^ 40 / 128))).elim 0 (·.halves)).testBit (bitsOf (dpa / 64 * 64 % 2 ^ 40) 6 1)) = false)
    (hseal : s.sealedRange (dpa / 64 * 64 / 2 ^ 40) (dpa / 64 * 64 % 2 ^ 40) 64 = false) :
    memWr dpa mask data s = s.hostQueue .write (dpa / 64 * 64 / 2 ^ 40) (dpa / 64 * 64 % 2 ^ 40) 64
      (s.hostMember 4 (dpa / 64 * 64 % 2 ^ 40) mask data) := by
  simp only [memWr, hostGuard_of_taken hmem hcheck (.inr htime), h, hseal, Bool.false_eq_true, if_false]

theorem memWr_returned {mask : Nat} {data : List Byte}
    (h : (s.ownsLine (lineKey (dpa / 64 * 64 / 2 ^ 40) (dpa / 64 * 64 % 2 ^ 40 / 128)) s.hostSlot
      && ((s.dirAt (lineKey (dpa / 64 * 64 / 2 ^ 40) (dpa / 64 * 64 % 2 ^ 40 / 128))).elim 0 (·.halves)).testBit (bitsOf (dpa / 64 * 64 % 2 ^ 40) 6 1)) = true) :
    memWr dpa mask data s = s.hostWriteBack (dpa / 64 * 64 / 2 ^ 40) (dpa / 64 * 64 % 2 ^ 40) mask data := by
  simp only [memWr, hostGuard_of_taken hmem hcheck (.inr htime), h, if_true]

end
end

/-! ### The half line given back (R125, R127, R380) -/

/-- What a write under a mask of 64 bytes leaves of a half line. -/
def mergedHalf (old data : List Byte) (off mask : Nat) : List Byte :=
  (upTo 64).map fun i => if mask.testBit i then data.getD i 0 else old.getD (off % 128 + i) 0

/-- A line of a partition's granules stands where it stood when the maps and the partition's entry read as before. -/
theorem hbmLine_of_rd {s t : State} (hptn : ∀ b, t.rd .sw PTN_ENTRY b 0 = s.rd .sw PTN_ENTRY b 0)
    (hmap : ∀ b, t.rd .sw POL_MAP_ENTRY b 0 = s.rd .sw POL_MAP_ENTRY b 0) (p line : Nat) : t.hbmLine p line = s.hbmLine p line := by
  have backed : t.ptnBacked p = s.ptnBacked p := congrArg (· != 0) (get_congr (f := PTN_ENTRY_MODE) (hptn _))
  simp only [State.hbmLine, State.granuleOf, backed, get_congr (f := PTN_ENTRY_SHARE_LOG2) (hptn _), get_congr (f := POL_MAP_ENTRY_GRANULE) (hmap _)]

theorem putDir_decay (s : State) (key : Nat) (e : DirEntry) : (s.putDir key e).sw.pool.decay = s.sw.pool.decay := rfl

theorem answeredByBack_decay (s : State) (key slot : Nat) : (s.answeredByBack key slot).sw.pool.decay = s.sw.pool.decay := by
  unfold State.answeredByBack
  repeat' split
  all_goals rfl

theorem ownerBack_decay (s : State) (key slot keep : Nat) : (s.ownerBack key slot keep).sw.pool.decay = s.sw.pool.decay := by
  unfold State.ownerBack
  repeat' split
  all_goals first | rfl | exact answeredByBack_decay ..

theorem ownerBack_mem (s : State) (key slot keep : Nat) : (s.ownerBack key slot keep).sw.pool.mem = s.sw.pool.mem :=
  sameIn_of_frame (State_ownerBack_frame s key slot keep) .mem (by decide)

theorem eccRead_pool (s : State) (hl : Nat) : (s.eccRead hl).1.sw.pool = s.sw.pool :=
  pool_of_frame (State_eccRead_frame s hl) (by decide) (by decide)

theorem eccRead_correctable {s : State} {hl : Nat} (h : lookup s.sw.pool.decay hl ≠ some true) : (s.eccRead hl).2 = false := by
  unfold State.eccRead
  split
  next => rfl
  next ue hue => cases ue with
    | false => rfl
    | true => exact absurd hue h

/-- The home when the host has given up its half of a line. -/
def State.givenUp (s : State) (p off : Nat) : State :=
  s.ownerBack (lineKey p (off / 128)) (s.hostSlot.getD 0) (s.otherHalf (lineKey p (off / 128)) off)

/-- The home when the line has then been read under ECC. -/
def State.readBack (s : State) (p off : Nat) : State := ((s.givenUp p off).eccRead (s.hbmLine p (off / 128))).1

/-- The home when the half has been merged into the line. -/
def State.halfMerged (s : State) (p off mask : Nat) (data : List Byte) : State :=
  (s.readBack p off).hbmWrite (s.hbmLine p (off / 128)) (patch (s.hbmRead (s.hbmLine p (off / 128))) (off % 128)
    (mergedHalf (s.hbmRead (s.hbmLine p (off / 128))) data off mask))

theorem givenUp_rd {r : Reg} {c : Comp} (hc : r.comp .sw = c) (h : [Comp.pool].all (fun d => !d.meets c) = true) (s : State) (p off b : Nat) :
    (s.givenUp p off).rd .sw r b 0 = s.rd .sw r b 0 :=
  rd_of_frame (State_ownerBack_frame s _ _ _) hc b 0 h

theorem readBack_rd {r : Reg} {c : Comp} (hc : r.comp .sw = c)
    (h : [Comp.pool, .hdr .sw, .page .sw 0x5, .page .sw 0xb, .page .sw 0x40, .log .sw, .sent].all (fun d => !d.meets c) = true)
    (s : State) (p off b : Nat) : (s.readBack p off).rd .sw r b 0 = s.rd .sw r b 0 := by
  rw [List.all_cons, Bool.and_eq_true] at h
  exact (rd_of_frame (State_eccRead_frame _ _) hc b 0 h.2).trans (givenUp_rd hc (by simpa using h.1) ..)

theorem givenUp_hbmLine (s : State) (p off line : Nat) : (s.givenUp p off).hbmLine p line = s.hbmLine p line :=
  hbmLine_of_rd (fun _ => givenUp_rd (PTN_ENTRY_comp .sw) (by decide) ..) (fun _ => givenUp_rd (POL_MAP_ENTRY_comp .sw) (by decide) ..) ..

theorem givenUp_ptnBacked (s : State) (p off q : Nat) : (s.givenUp p off).ptnBacked q = s.ptnBacked q :=
  congrArg (· != 0) (get_congr (f := PTN_ENTRY_MODE) (givenUp_rd (PTN_ENTRY_comp .sw) (by decide) ..))

theorem givenUp_hbmRead (s : State) (p off hl : Nat) : (s.givenUp p off).hbmRead hl = s.hbmRead hl :=
  congrArg (Memory.read · _ _) (ownerBack_mem ..)

theorem readBack_hbmLine (s : State) (p off line : Nat) : (s.readBack p off).hbmLine p line = s.hbmLine p line :=
  hbmLine_of_rd (fun _ => readBack_rd (PTN_ENTRY_comp .sw) (by decide) ..) (fun _ => readBack_rd (POL_MAP_ENTRY_comp .sw) (by decide) ..) ..

theorem readBack_ptnBacked (s : State) (p off q : Nat) : (s.readBack p off).ptnBacked q = s.ptnBacked q :=
  congrArg (· != 0) (get_congr (f := PTN_ENTRY_MODE) (readBack_rd (PTN_ENTRY_comp .sw) (by decide) ..))

theorem readBack_mem (s : State) (p off : Nat) : (s.readBack p off).sw.pool.mem = s.sw.pool.mem := by
  rw [State.readBack, eccRead_pool, State.givenUp, ownerBack_mem]

theorem halfMerged_up (s : State) (p off mask : Nat) (data : List Byte) :
    (s.halfMerged p off mask data).flag .sw CXU_STS_UP = s.flag .sw CXU_STS_UP :=
  congrArg (· != 0) (get_congr (f := CXU_STS_UP) (readBack_rd (CXU_STS_comp .sw) (by decide) s p off 0))

theorem halfMerged_mem (s : State) (p off mask : Nat) (data : List Byte) :
    (s.halfMerged p off mask data).sw.pool.mem = Memory.write s.sw.pool.mem (s.hbmLine p (off / 128) * 128)
      (patch (s.hbmRead (s.hbmLine p (off / 128))) (off % 128) (mergedHalf (s.hbmRead (s.hbmLine p (off / 128))) data off mask)) :=
  congrArg (fun m => Memory.write m _ _) (readBack_mem s p off)

theorem readBack_takeData {s : State} {p off : Nat} (hoff : off / 128 < 2 ^ 33) (hhbm : s.ptnBacked p = false) (slot : Nat) (bs : List Byte) :
    (s.readBack p off).takeData (lineKey p (off / 128)) slot bs none = (s.readBack p off).hbmWrite (s.hbmLine p (off / 128)) bs := by
  have now : (s.readBack p off).ptnBacked p = false := (readBack_ptnBacked ..).trans hhbm
  have after : ((s.readBack p off).hbmWrite (s.hbmLine p (off / 128)) bs).ptnBacked p = false := now
  simp [State.takeData, State.backNow, keyPtn_lineKey hoff, keyLine_lineKey hoff, now, readBack_hbmLine, after]

/-- In HBM, and correctable, the half is merged into its line at once. -/
theorem hostWriteBack_of_hbm {s : State} {p off mask : Nat} {data : List Byte} (hoff : off / 128 < 2 ^ 33) (hhbm : s.ptnBacked p = false)
    (hecc : lookup s.sw.pool.decay (s.hbmLine p (off / 128)) ≠ some true) :
    s.hostWriteBack p off mask data = ((s.halfMerged p off mask data).hostAnswer 4 (p * 2 ^ 40 + off) stOK [] false).settle := by
  have readable : ((s.givenUp p off).eccRead (s.hbmLine p (off / 128))).2 = false :=
    eccRead_correctable (by rw [State.givenUp, ownerBack_decay]; exact hecc)
  have owner : s.ownerBack (lineKey p (off / 128)) (s.hostSlot.getD 0) (s.otherHalf (lineKey p (off / 128)) off) = s.givenUp p off := rfl
  have read : ((s.givenUp p off).eccRead (s.hbmLine p (off / 128))).1 = s.readBack p off := rfl
  simp only [State.hostWriteBack, owner, givenUp_ptnBacked, hhbm, Bool.not_false, Bool.true_or, if_true, givenUp_hbmLine, readable,
    Bool.false_eq_true, if_false, givenUp_hbmRead, read, readBack_takeData hoff hhbm]
  rfl

theorem hostAnswer_of_ok {s : State} (h : s.flag .sw CXU_STS_UP = true) (dpa : Nat) :
    s.hostAnswer 4 dpa stOK [] false = s.emit (.hostMem dpa 0 []) := by
  simp [State.hostAnswer, h]

/-- Settles O25: the guard of a request that passes its checks is its continuation, and the half line given back is merged into a line that the home has only read. -/
theorem hostMemoryRowsComplete : Obligations.HostMemoryRowsComplete := by
  refine ⟨fun dpa mv s hmem hcheck h => ?uncached, fun dpa mv s hmem hcheck hmv h => ?shared, fun dpa mv s hmem hcheck hmv h hseal => ?own,
    fun dpa s hmem hcheck h hseal => ?inv, fun dpa mask data s hmem hcheck htime h hseal => ?write,
    fun dpa mask data s hmem hcheck htime howns hhbm hecc => ?back⟩
  case uncached => exact ⟨_, congrArg _ (memRd_uncached hmem hcheck h), rfl⟩
  case shared =>
    subst hmv
    exact ⟨_, congrArg _ (memRd_shared hmem hcheck h), rfl⟩
  case own => exact ⟨_, congrArg _ (memRd_own hmem hcheck hmv h hseal), rfl⟩
  case inv => exact ⟨_, congrArg _ (memInv_cached hmem hcheck h hseal), rfl⟩
  case write => exact ⟨_, congrArg _ (memWr_uncached hmem hcheck htime h hseal), rfl⟩
  case back =>
    have up : s.flag .sw CXU_STS_UP = true := by rw [State.cxlMem, Bool.and_eq_true] at hmem; exact hmem.1
    have hoff : dpa / 64 * 64 % 2 ^ 40 / 128 < 2 ^ 33 := by omega
    have place : dpa / 64 * 64 / 2 ^ 40 * 2 ^ 40 + dpa / 64 * 64 % 2 ^ 40 = dpa / 64 * 64 := Nat.div_add_mod' ..
    refine ⟨_, congrArg _ ((memWr_returned hmem hcheck htime howns).trans (hostWriteBack_of_hbm hoff hhbm hecc)), ?_, ?_⟩
    · rw [hostAnswer_pool]
      exact halfMerged_mem ..
    · rw [hostAnswer_of_ok ((halfMerged_up ..).trans up), place]
      exact mem_out_emit ..

end Sys2Proof.Machine
end

section
/-! Binding sets, the configuration image, the common header of a page, and PLDM's firmware commands (R422, R425, R444, R445, R497 to R502). -/

namespace Sys2Proof.Machine

/-! ### The delivery of a binding set (R422) -/

theorem deliver'_sends (s : State) (n : Nat) (removals : List Nat) :
    Out.binding n (s.partnerOf n) (s.rd .sw DCT_SEQ) (s.epSet (s.partnerOf n)).ctxs (s.epSet (s.partnerOf n)).mask ∈ (s.deliver' n removals).out :=
  mem_out_emit ..

theorem deliver'_pend (s : State) (n : Nat) (removals : List Nat) :
    (lookup (s.deliver' n removals).sw.dct.pend n).map (·.at_) = some (s.now .sw) :=
  congrArg (Option.map Delivery.at_) ((lookup_insertAt ..).trans (if_pos rfl))

theorem bindingAckReceive_of_pending {n : Nat} {s : State} (h : (lookup s.sw.dct.pend n).isSome = true) :
    bindingAckReceive n s = ((s.onDct fun d => { d with pend := removeAt d.pend n }).count .sw DCT_PEND_DELIVERED).showPend := by
  obtain ⟨d, hd⟩ := Option.isSome_iff_exists.1 h
  rw [bindingAckReceive, hd]

/-! ### A binding set arrives (R407, R423) -/

/-- The endpoint with a set applied and acknowledged. -/
def State.setApplied (s : State) (link sid : Nat) (seq : Word) (ctxs : List (Nat × Word)) (mask : Word) : State :=
  ((((((s.applySet ctxs mask).wr .ep CTX_APPLIED_SEQ seq).put .ep CTX_APPLIED_SW_SWITCH sid).put .ep HDR_LOCK_SEQ_LOW (seq.toNat % 2 ^ 16) 0 pgCtx).attested .ep 4).onRly
    fun r => { r with bound := true }).emit (.bindingAck link seq)

theorem bindingSetReceive_of_known {link sid : Nat} {seq mask : Word} {ctxs : List (Nat × Word)} {digest : List Byte} {s : State}
    (hmesh : s.ep.rly.mesh = false) (hlink : link = 0) (hstage : s.stage .ep 0 = 5)
    (hany : (upTo 8).any (fun k => s.rd .ep (SEC_PEER.word k) 1 != 0) = true)
    (hall : (upTo 8).all (fun k => s.rd .ep (SEC_PEER.word k) 1 == BitVec.ofNat 64 (natAt digest (8 * k) 8)) = true) :
    bindingSetReceive link sid seq ctxs mask digest s = ((s.setApplied link sid seq ctxs mask).readyCheck .ep).drive := by
  subst hlink
  simp only [bindingSetReceive, hmesh, hstage, Nat.zero_add, hany, hall, Bool.and_self, Bool.not_true, bne_self_eq_false, Bool.or_self,
    Bool.false_eq_true, if_false]
  rfl

theorem onRly_rd (s : State) (f : Relay → Relay) (p : Part) (r : Reg) (b i : Nat) : (s.onRly f).rd p r b i = s.rd p r b i := by
  cases p <;> rfl

theorem applySet_mask (s : State) (ctxs : List (Nat × Word)) (mask : Word) : (s.applySet ctxs mask).rd .ep CTX_PTN_MASK = mask := by
  unfold State.applySet
  refine (foldl_leaves (·.rd .ep CTX_PTN_MASK) _ (fun t w => ?_) _ _).trans (rd_wr_same ..)
  split
  · exact rd_of_frame (State_closeWindow_frame t w) (CTX_PTN_MASK_comp .ep) 0 0 (by decide)
  · rfl

/-- Of the context page the rest of a set's application writes APPLIED_SEQ and APPLIED_SW. -/
theorem setApplied_rd {r : Reg} (hr : r.comp .ep = .page .ep 0xa) (hplace : r.key 0 0 % 2 ^ 24 ≠ CTX_APPLIED_SW.key 0 0 % 2 ^ 24)
    (hlock : r.key 0 0 % 2 ^ 24 ≠ HDR_LOCK.key 0 0 % 2 ^ 24) (s : State) (link sid : Nat) (seq : Word) (ctxs : List (Nat × Word)) (mask : Word) :
    ((s.setApplied link sid seq ctxs mask).readyCheck .ep).rd .ep r = ((s.applySet ctxs mask).wr .ep CTX_APPLIED_SEQ seq).rd .ep r := by
  have ready : ((s.setApplied link sid seq ctxs mask).readyCheck .ep).rd .ep r = (s.setApplied link sid seq ctxs mask).rd .ep r :=
    rd_of_frame (State_readyCheck_ep_frame (s.setApplied link sid seq ctxs mask)) hr 0 0 (by decide)
  have attests (t : State) : (t.attested .ep 4).rd .ep r = t.rd .ep r := rd_of_frame (State_attested_ep_frame t 4) hr 0 0 (by decide)
  rw [ready, State.setApplied, emit_rd, onRly_rd, attests, rd_put_of_place (f := HDR_LOCK_SEQ_LOW) hlock, rd_put_of_place (f := CTX_APPLIED_SW_SWITCH) hplace]

theorem setApplied_bound (s : State) (link sid : Nat) (seq : Word) (ctxs : List (Nat × Word)) (mask : Word) :
    ((s.setApplied link sid seq ctxs mask).readyCheck .ep).ep.rly.bound = true := by
  have rly : ((s.setApplied link sid seq ctxs mask).readyCheck .ep).ep.rly = (s.setApplied link sid seq ctxs mask).ep.rly :=
    sameIn_of_frame (State_readyCheck_ep_frame _) .rly (by decide)
  rw [rly]
  rfl

theorem setApplied_acknowledges (s : State) (link sid : Nat) (seq : Word) (ctxs : List (Nat × Word)) (mask : Word) :
    Out.bindingAck link seq ∈ ((s.setApplied link sid seq ctxs mask).readyCheck .ep).out := by
  have out : ((s.setApplied link sid seq ctxs mask).readyCheck .ep).out = (s.setApplied link sid seq ctxs mask).out :=
    sameIn_of_frame (State_readyCheck_ep_frame _) .sent (by decide)
  rw [out]
  exact mem_out_emit ..

/-! ### The header of a page (R497 to R502) -/

theorem ctlWith_enable (s : State) (p : Part) (page : Nat) {bit : Nat} (h : 0 < bit) :
    getBits (s.ctlWith p page bit) 0 1 = s.get p HDR_PAGE_CTL_ENABLE 0 page := by
  obtain ⟨b, rfl⟩ : ∃ b, bit = b + 1 := ⟨bit - 1, by omega⟩
  have enable : s.get p HDR_PAGE_CTL_ENABLE 0 page < 2 := get_lt ..
  simp only [getBits, State.ctlWith, BitVec.toNat_ofNat, Nat.shiftRight_zero, Nat.pow_succ]
  omega

/-- A write of PAGE_CTL that leaves ENABLE as it stands, and sets SOFT_RESET or FENCE. -/
theorem ctlWith_reset (s : State) (p : Part) (page : Nat) :
    (s.ctlWith p page 1).getLsbD 1 = true ∧ (s.ctlWith p page 1).getLsbD 2 = false := by
  have enable : s.get p HDR_PAGE_CTL_ENABLE 0 page < 2 := get_lt ..
  rw [State.ctlWith]
  generalize s.get p HDR_PAGE_CTL_ENABLE 0 page = e at enable
  obtain rfl | rfl : e = 0 ∨ e = 1 := by omega
  all_goals decide

theorem ctlWith_fence (s : State) (p : Part) (page : Nat) :
    (s.ctlWith p page 2).getLsbD 1 = false ∧ (s.ctlWith p page 2).getLsbD 2 = true := by
  have enable : s.get p HDR_PAGE_CTL_ENABLE 0 page < 2 := get_lt ..
  rw [State.ctlWith]
  generalize s.get p HDR_PAGE_CTL_ENABLE 0 page = e at enable
  obtain rfl | rfl : e = 0 ∨ e = 1 := by omega
  all_goals decide

/-- A write of PAGE_CTL that leaves ENABLE as it stands, and sets SOFT_RESET or FENCE. -/
theorem writePageCtl_reset {s : State} {p : Part} {page : Nat} (hfence : s.flag p HDR_PAGE_CTL_FENCE 0 page = false)
    (hmay : resetRefused (pageCode p page) = false) : s.writePageCtl p page (s.ctlWith p page 1) = (s.pageReset p page, true) := by
  obtain ⟨reset, fence⟩ := ctlWith_reset s p page
  simp [State.writePageCtl, hfence, hmay, ctlWith_enable, reset, fence, State.when, -BitVec.getLsbD_eq_getElem]

theorem writePageCtl_fence (s : State) (p : Part) (page : Nat) :
    s.writePageCtl p page (s.ctlWith p page 2) = (s.put p HDR_PAGE_CTL_FENCE 1 0 page, true) := by
  obtain ⟨reset, fence⟩ := ctlWith_fence s p page
  simp [State.writePageCtl, ctlWith_enable, reset, fence, State.when, -BitVec.getLsbD_eq_getElem]

/-! A page reset leaves the clock of its part. -/

theorem beforeReset_now (s : State) (p : Part) (code : Nat) : (s.beforeReset p code).now p = s.now p := by
  cases p with
  | sw => exact congrArg BitVec.toNat (sameIn_of_frame (State_beforeReset_sw_frame s code) (.ltc .sw) (by decide))
  | ep => exact congrArg BitVec.toNat (sameIn_of_frame (State_beforeReset_ep_frame s code) (.ltc .ep) (by decide))

theorem afterReset_now (s : State) (p : Part) (code inst : Nat) (freed : List Nat) : (s.afterReset p code inst freed).now p = s.now p := by
  cases p with
  | sw => exact congrArg BitVec.toNat (sameIn_of_frame (State_afterReset_sw_frame s code inst freed) (.ltc .sw) (by decide))
  | ep => exact congrArg BitVec.toNat (sameIn_of_frame (State_afterReset_ep_frame s code inst freed) (.ltc .ep) (by decide))

theorem deliver_now (s : State) (p : Part) (page : Nat) : (s.deliver p page).now p = s.now p := by
  cases p with
  | sw => exact congrArg BitVec.toNat (sameIn_of_frame (State_deliver_sw_frame s page) (.ltc .sw) (by decide))
  | ep => exact congrArg BitVec.toNat (sameIn_of_frame (State_deliver_ep_frame s page) (.ltc .ep) (by decide))

theorem withCauses_now (s : State) (p : Part) (page : Nat) (f : State → State) : (s.withCauses p page f).now p = (f s).now p :=
  when_leaves (part := (·.now p)) (fun t => deliver_now t p page) _ _

theorem wr_now (s : State) (p : Part) (r : Reg) (x : Word) (b i : Nat) : (s.wr p r x b i).now p = s.now p := by
  cases p <;> rfl

theorem resetFields_now (s : State) (p : Part) (page : Nat) : (s.resetFields p page).now p = s.now p := by
  cases p <;> rfl

/-- A page that begins its reset is marked with the tick of its start. -/
theorem pageReset_marks (s : State) (p : Part) (page : Nat) : lookup ((s.pageReset p page).chip p).pageResets page = some (s.now p) := by
  unfold State.pageReset
  extract_lets code freed t1 t2 t3 t4 now
  have begins : now = s.now p :=
    calc t4.now p = t3.now p := afterReset_now ..
      _ = t2.now p := (withCauses_now ..).trans (wr_now ..)
      _ = t1.now p := when_leaves (part := (·.now p)) (fun t => wr_now ..) _ _
      _ = (s.beforeReset p code).now p := resetFields_now ..
      _ = s.now p := beforeReset_now ..
  rw [onChip_chip, lookup_insertAt, if_pos rfl, begins]

theorem regDone_chip (s : State) (q : Part) (path : Path) (st : Nat) (data : Word) (p : Part) : (s.regDone q path st data).chip p = s.chip p := by
  cases path <;> cases p <;> rfl

theorem forceCauses_cause (s : State) (p : Part) (page : Nat) (x : Word) :
    (s.forceCauses p page x).rd p HDR_INT_CAUSE 0 page = s.rd p HDR_INT_CAUSE 0 page ||| BitVec.ofNat 64 (getBits x 0 32) :=
  (withCauses_rd_hdr (HDR_INT_CAUSE_comp p) ..).trans (rd_wr_same ..)

theorem deliver_log (s : State) (p : Part) (page : Nat) : ((s.deliver p page).chip p).log = (s.chip p).log := by
  cases p with
  | sw => exact sameIn_of_frame (State_deliver_sw_frame s page) (.log .sw) (by decide)
  | ep => exact sameIn_of_frame (State_deliver_ep_frame s page) (.log .ep) (by decide)

theorem forceCauses_log (s : State) (p : Part) (page : Nat) (x : Word) : ((s.forceCauses p page x).chip p).log = (s.chip p).log := by
  refine (when_leaves (part := fun t => (t.chip p).log) (fun t => deliver_log t p page) _ _).trans ?_
  cases p <;> rfl

theorem setErrCount_count (s : State) (p : Part) (page : Nat) (x : Word) :
    (s.setErrCount p page x).get p HDR_ERR_COUNT_COUNT 0 page = getBits x 0 32 := by
  rw [State.setErrCount, get_congr (f := HDR_ERR_COUNT_COUNT) (rd_put_of_place (f := HDR_ERR_FIRST_VALID) (by decide) ..), get_put _ _ _ _ _ _ (by decide)]
  exact getBits_mod ..

theorem setErrCount_valid (s : State) (p : Part) (page : Nat) (x : Word) :
    (s.setErrCount p page x).flag p HDR_ERR_FIRST_VALID 0 page = false := by
  rw [State.flag, State.setErrCount, get_put _ _ _ _ _ _ (by decide)]
  rfl

/-- On a path that serves the part, and carries its completion, the read of the log's last word takes the oldest record. -/
theorem errLog3Read_of_served {s : State} {path : Path} {p : Part} (hserves : pathServes path p = true) (hpath : path ≠ .remote) :
    errLog3Read path p s = (s.dropLog p).emit (.regDone p path stOK (s.logWord3 p)) := by
  have mapped : pageMapped p pgErr = true := by cases p <;> decide
  have standby : standbySubset pgErr 0x98 = true := by decide
  have remote : (path == .remote) = false := beq_false_of_ne hpath
  simp [errLog3Read, State.readBy, State.readFrame, hserves, mapped, standby, remote]

/-! ### PLDM (R444, R445, R447, R449) -/

/-- Of the firmware status, `showFw` writes the anti-rollback numbers and STAGED. -/
theorem showFw_get {f : Fld} (hreg : f.reg = MGT_FW_STS) (h : 1 ≤ f.lo) (hlo : f.lo + f.w ≤ 13 ∨ 29 ≤ f.lo) (s : State) :
    s.showFw.get .sw f = s.get .sw f := by
  have version (g : Fld) (hg : g.reg = MGT_FW_VER ∨ g.reg = MGT_CORE_STS) (t : State) (v : Nat) : (t.put .sw g v).get .sw f = t.get .sw f :=
    get_congr (f := f) (rd_put_of_place (f := g) (by rw [hreg]; obtain hg | hg := hg <;> rw [hg] <;> decide) ..)
  have beside (g : Fld) (hg : g.reg = MGT_FW_STS) (hapart : f.lo + f.w ≤ g.lo ∨ g.lo + g.w ≤ f.lo) (t : State) (v : Nat) :
      (t.put .sw g v).get .sw f = t.get .sw f := get_put_apart _ _ g f _ _ _ (hreg.trans hg.symm) hapart
  unfold State.showFw
  extract_lets i t1 t2
  have common : t2.get .sw f = s.get .sw f := by
    rw [version MGT_CORE_STS_SLOT (.inr rfl), version MGT_FW_VER_RUNNING (.inl rfl),
      beside MGT_FW_STS_FUSED_SVN rfl (hlo.imp (·.trans (by decide)) id), beside MGT_FW_STS_RUN_SVN rfl (hlo.imp id (Nat.le_trans (by decide)))]
  split
  all_goals rw [version MGT_FW_VER_STAGED (.inl rfl), beside MGT_FW_STS_STAGED rfl (.inr h), common]

theorem fwChanged_get {f : Fld} (hreg : f.reg = MGT_FW_STS) (h : 1 ≤ f.lo) (hlo : f.lo + f.w ≤ 13 ∨ 29 ≤ f.lo) (s : State) :
    s.fwChanged.get .sw f = s.get .sw f :=
  (get_congr (f := f) (cause_rd (by rw [hreg]; exact MGT_FW_STS_comp .sw) (by decide) ..)).trans (showFw_get hreg h hlo s)

theorem actTo_actState (s : State) {v : Nat} (h : v < 8) : (s.actTo v).actState = v := by
  refine (fwChanged_get (f := MGT_FW_STS_ACT_STATE) rfl (by decide) (.inl (by decide)) _).trans ?_
  exact (get_congr (f := MGT_FW_STS_ACT_STATE) (onFw_rd ..)).trans ((get_put _ _ _ _ _ _ (by decide)).trans (Nat.mod_eq_of_lt h))

/-! A message counts itself and leaves what the control core is asked. -/

theorem sbMessage_get {f : Fld} (h : f.reg.key 0 0 % 2 ^ 24 ≠ SBP_COUNTS.key 0 0 % 2 ^ 24) (s : State) (b i : Nat) :
    s.sbMessage.get .sw f b i = s.get .sw f b i :=
  get_congr (f := f) (sbMessage_rd h ..)

theorem sbMessage_recovery (s : State) : s.sbMessage.flag .sw MGT_CORE_STS_RECOVERY = s.flag .sw MGT_CORE_STS_RECOVERY :=
  congrArg (· != 0) (sbMessage_get (f := MGT_CORE_STS_RECOVERY) (by decide) ..)

theorem sbMessage_actState (s : State) : s.sbMessage.actState = s.actState := sbMessage_get (f := MGT_FW_STS_ACT_STATE) (by decide) ..

theorem sbMessage_cpuUp (s : State) (c : Nat) : s.sbMessage.cpuUp c = s.cpuUp c := by
  rw [State.cpuUp, State.cpuUp, State.cpuState, State.cpuState, sbMessage_rd (by decide)]

theorem sbMessage_cpuServes (s : State) (c : Nat) : s.sbMessage.cpuServes c = s.cpuServes c := by
  rw [State.cpuServes, State.cpuServes, sbMessage_cpuUp, sbMessage_get (f := MGT_FW_STS_ACT_STATE) (by decide)]

theorem sbMessage_pldmServes (s : State) (loader : Bool) : s.sbMessage.pldmServes loader = s.pldmServes loader := by
  have main : s.sbMessage.mainServes = s.mainServes := rfl
  rw [State.pldmServes, State.pldmServes, main, sbMessage_cpuServes, sbMessage_recovery]

theorem pldmReq_of_served {s : State} {loader : Bool} (hup : s.swc.standbyUp = true) (h : s.pldmServes loader = none) (req : Nat)
    (f : State → State) : s.pldmReq req loader f = f s.sbMessage := by
  simp only [State.pldmReq, hup, sbMessage_pldmServes, h, Bool.not_true, Bool.false_eq_true, if_false]

theorem activate_at_once {s : State} {slot : Nat} (hact : s.actState = 0 ∨ s.actState = 5) (hstaged : lookup s.sw.fw.staged 2 = some slot)
    (hlevel : s.get .sw PWR_STS_LEVEL = 0) : s.activate = (s.actTo 2, stOK) := by
  have idle : (s.actState != 0 && s.actState != 5) = false := by obtain h | h := hact <;> rw [h] <;> rfl
  simp [State.activate, idle, hstaged, hlevel]

theorem cancelAct_of_waiting {s : State} (hact : s.actState = 1 ∨ s.actState = 2) : s.cancelAct = (s.actTo 0, stOK) := by
  have waits : (s.actState == 1 || s.actState == 2) = true := by obtain h | h := hact <;> rw [h] <;> rfl
  simp [State.cancelAct, waits]

/-! ### The claims of O29 -/

theorem bindingResendTimer_of_due {n : Nat} {d : Delivery} {s : State} (hpend : lookup s.sw.dct.pend n = some d)
    (hdue : s.due .sw d.at_ 175000 = true) (hsec : s.secHalted .sw = false) : bindingResendTimer n s = s.deliver' n [] := by
  simp only [bindingResendTimer, hpend, hdue, hsec, Bool.not_false, Bool.and_self, if_true]

theorem pldmFwUpdate_of_served {s : State} (len : Nat) (hup : s.swc.standbyUp = true) (hserves : s.pldmServes true = none)
    (hidle : s.sw.fw.staging = none) : pldmFwUpdate len s
      = ((s.sbMessage.onFw fun f => { f with staging := some (1, len) }).put .sw MGT_FW_STS_STAGE_BUSY 1).fwChanged := by
  have idle : s.sbMessage.sw.fw.staging = none := hidle
  rw [pldmFwUpdate, pldmReq_of_served hup hserves, idle]
  rfl

theorem pldmActivateFirmware_of_staged {s : State} {slot : Nat} (hup : s.swc.standbyUp = true) (hserves : s.pldmServes true = none)
    (hact : s.actState = 0 ∨ s.actState = 5) (hstaged : lookup s.sw.fw.staged 2 = some slot) (hlevel : s.get .sw PWR_STS_LEVEL = 0) :
    pldmActivateFirmware s = (s.sbMessage.actTo 2).emit (.pldm 3 0 [stOK]) := by
  have act := activate_at_once (s := s.sbMessage) (by rw [sbMessage_actState]; exact hact) (slot := slot) hstaged
    ((sbMessage_get (f := PWR_STS_LEVEL) (by decide) ..).trans hlevel)
  rw [pldmActivateFirmware, pldmReq_of_served hup hserves]
  simp only [act]
  rfl

theorem pldmCancelUpdate_of_waiting {s : State} (hup : s.swc.standbyUp = true) (hmain : s.mainServes = true) (hcpu : s.cpuUp 3 = true)
    (hact : s.actState = 1 ∨ s.actState = 2) : pldmCancelUpdate s = (s.sbMessage.actTo 0).emit (.pldm 4 0 [stOK]) := by
  have cancel := cancelAct_of_waiting (s := s.sbMessage) (by rw [sbMessage_actState]; exact hact)
  simp only [pldmCancelUpdate, hup, hmain, hcpu, Bool.and_self, if_true, cancel, beq_self_eq_true]

/-- The ports of a switch follow from its role and its layout. -/
theorem portList_congr {s t : State} (hlayout : t.x4 = s.x4) (hrole : t.swAxisNo = s.swAxisNo) : t.portList .sw = s.portList .sw := by
  simp only [State.portList, State.widths, hlayout, hrole]

/-- With the main side up the answer of the monitors is built from the state as it stands: the message counts itself alone. -/
theorem pldmMonitoring_of_served {s : State} (hup : s.swc.standbyUp = true) (hmain : s.mainServes = true)
    (h : s.cpuServes 3 = true ∨ s.flag .sw MGT_CORE_STS_RECOVERY = true) :
    pldmMonitoring s = s.sbMessage.emit (.pldm 1 0 ([b2n s.swc.tripLow, s.get .sw PWR_TEMP_DIE_MAX, s.get .sw PWR_DRAW_NOW, s.get .sw PWR_STS_LEVEL]
      ++ (s.portList .sw).map s.portState)) := by
  have serves : (s.cpuServes 3 || s.flag .sw MGT_CORE_STS_RECOVERY) = true := by rwa [Bool.or_eq_true]
  have main : s.sbMessage.mainServes = true := hmain
  have trip : s.sbMessage.swc.tripLow = s.swc.tripLow := rfl
  have ports : s.sbMessage.portList .sw = s.portList .sw := 
    portList_congr (congrArg (· != 0) (sbMessage_get (f := GLB_LAYOUT_ACTIVE_X4) (by decide) ..)) (sbMessage_get (f := RST_STRAPS_ROLE) (by decide) ..)
  have states : s.sbMessage.portState = s.portState := funext fun n => sbMessage_get (f := RTE_PORT_STS_STATE) (by decide) ..
  simp only [pldmMonitoring, hup, main, sbMessage_cpuServes, sbMessage_recovery, serves, trip, ports, states, Bool.not_true, Bool.false_eq_true, if_false, if_true,
    sbMessage_get (f := PWR_TEMP_DIE_MAX) (by decide), sbMessage_get (f := PWR_DRAW_NOW) (by decide), sbMessage_get (f := PWR_STS_LEVEL) (by decide)]

theorem pldmMonitoring_of_standby {s : State} (hup : s.swc.standbyUp = true) (hmain : s.mainServes = false) :
    pldmMonitoring s = s.sbMessage.emit (.pldm 1 0 [b2n s.swc.tripLow]) := by
  have main : s.sbMessage.mainServes = false := hmain
  have trip : s.sbMessage.swc.tripLow = s.swc.tripLow := rfl
  simp only [pldmMonitoring, hup, main, trip, Bool.not_true, Bool.not_false, Bool.false_eq_true, if_false, if_true]

/-- Settles O29: each command is brought to the step that its conditions choose; what the claims name is written by that step, and what the
step does after it (a cause, a count, an answer) leaves it. -/
theorem bindingRowsComplete : Obligations.BindingRowsComplete := by
  refine ⟨fun n d s hpend hdue hsec => ?resend, fun n s hpend => ?ack, fun link sid seq ctxs mask digest s hmesh hlink hstage hany hall => ?set,
    fun s hstale hsec => ?image, fun path p page s hopen hfence hmay => ?reset, fun p page s => ?resetDone, fun path p page s hopen => ?fence,
    fun path p page x s hopen => ?force, fun path p page x s hopen => ?errCount, fun path p s hopen => ?clear, fun path p s hserves hpath => ?read,
    fun len s hup hserves hidle => ?update, fun slot s hup hserves hact hstaged hlevel => ?activate, fun s hup hmain hcpu hact => ?cancel,
    fun s hup hmain h => ?monitor, fun s hup hmain => ?standby⟩
  case resend => exact ⟨_, congrArg Host.Outcome.next (bindingResendTimer_of_due hpend hdue hsec), deliver'_sends .., deliver'_pend ..⟩
  case ack =>
    refine ⟨_, congrArg Host.Outcome.next (bindingAckReceive_of_pending hpend), rfl, ?_⟩
    refine (get_put_apart _ _ DCT_PEND_PENDING DCT_PEND_DELIVERED _ _ _ rfl (by decide)).trans ?_
    exact get_count _ _ DCT_PEND_DELIVERED _ _ _ (by decide)
  case set =>
    refine ⟨_, congrArg Host.Outcome.next (bindingSetReceive_of_known hmesh hlink hstage hany hall), ?_, ?_, setApplied_bound .., setApplied_acknowledges ..⟩
    · rw [setApplied_rd (CTX_PTN_MASK_comp .ep) (by decide) (by decide), rd_wr_of_place (by decide), applySet_mask]
    · rw [setApplied_rd (CTX_APPLIED_SEQ_comp .ep) (by decide) (by decide), rd_wr_same]
  case image =>
    have written : imageWriteDone s = (s.onDct fun d => { d with image := some s.config }).put .sw DCT_STS_IMG_STALE 0 := by
      simp only [imageWriteDone, hstale, hsec, Bool.not_false, Bool.and_self, if_true]
    exact ⟨_, congrArg Host.Outcome.next written, rfl, congrArg (· != 0) (get_put _ _ DCT_STS_IMG_STALE 0 0 0 (by decide))⟩
  case reset =>
    have written := (writeBy_of_open hopen fun s => s.writePageCtl p page (s.ctlWith p page 1)).trans
      (congrArg (fun w : Written => w.1.regDone p path (if w.2 then stOK else stPERMISSION)) (writePageCtl_reset hfence hmay))
    exact ⟨_, congrArg Host.Outcome.next written, by simp only [regDone_chip, pageReset_marks]⟩
  case resetDone => exact ⟨_, rfl, by simp only [softResetDone, onChip_chip]⟩
  case fence =>
    have written := (writeBy_of_open hopen fun s => s.writePageCtl p page (s.ctlWith p page 2)).trans
      (congrArg (fun w : Written => w.1.regDone p path (if w.2 then stOK else stPERMISSION)) (writePageCtl_fence s p page))
    exact ⟨_, congrArg Host.Outcome.next written, (regDone_flag ..).trans (congrArg (· != 0) (get_put _ _ HDR_PAGE_CTL_FENCE 1 0 page (by decide)))⟩
  case force =>
    exact ⟨_, congrArg Host.Outcome.next (writeBy_of_open hopen _), (regDone_rd ..).trans (forceCauses_cause ..), by simp only [regDone_chip, forceCauses_log]⟩
  case errCount =>
    exact ⟨_, congrArg Host.Outcome.next (writeBy_of_open hopen _), (regDone_get (f := HDR_ERR_COUNT_COUNT) ..).trans (setErrCount_count ..),
      (regDone_flag ..).trans (setErrCount_valid ..)⟩
  case clear =>
    refine ⟨_, congrArg Host.Outcome.next (writeBy_of_open hopen _), ?_, (regDone_get (f := ERR_LOG_STS_DROPS) ..).trans (get_put _ _ ERR_LOG_STS_DROPS 0 0 0 (by decide))⟩
    simp only [regDone_chip]
    cases p <;> rfl
  case read =>
    refine ⟨_, congrArg Host.Outcome.next (errLog3Read_of_served hserves hpath), ?_, mem_out_emit ..⟩
    cases p <;> rfl
  case update =>
    refine ⟨_, congrArg Host.Outcome.next (pldmFwUpdate_of_served len hup hserves hidle), ?_, ?_⟩
    · rw [fwChanged_sw]
      rfl
    · refine congrArg (· != 0) (a₂ := 1) ((fwChanged_get (f := MGT_FW_STS_STAGE_BUSY) rfl (by decide) (.inl (by decide)) _).trans ?_)
      exact get_put _ _ MGT_FW_STS_STAGE_BUSY 1 0 0 (by decide)
  case activate => exact ⟨_, congrArg Host.Outcome.next (pldmActivateFirmware_of_staged hup hserves hact hstaged hlevel), actTo_actState _ (by decide), mem_out_emit ..⟩
  case cancel => exact ⟨_, congrArg Host.Outcome.next (pldmCancelUpdate_of_waiting hup hmain hcpu hact), actTo_actState _ (by decide), mem_out_emit ..⟩
  case monitor => exact ⟨_, congrArg Host.Outcome.next (pldmMonitoring_of_served hup hmain h), mem_out_emit ..⟩
  case standby => exact ⟨_, congrArg Host.Outcome.next (pldmMonitoring_of_standby hup hmain), mem_out_emit ..⟩

end Sys2Proof.Machine
end

section
/-! What a link's transmitter changes (R302, R307, R317, R322): its own part of a port, two registers and the replay buffer's fill. -/

namespace Sys2Proof.Machine

/-- A port without what its transmitter keeps: sequence, replay, credit, keys, scramblers and what waits to be sent. -/
def Port.still (pt : Port) : Port :=
  { pt with seq := 0, replay := [], ackAt := 0, replayFirst := 0, replayRuns := 0, owed := [], credit := [], crNext := 0, keys := {}, scr := [],
            ctl := [], cur := [], ready := 0, head := false, txq := [] }

/-- The registers that a transmitter counts in. -/
def txRegs : List Reg := [LNK_STS, LNK_TX_CTR, LNK_RETRY]

/-- A state that differs from another by what links have sent, or taken back of their queues. -/
structure State.Sends (s t : State) : Prop where
  port : ∀ p n, (t.port p n).still = (s.port p n).still
  rd : ∀ p r b i, (txRegs.all fun x => x.key 0 0 % 2 ^ 24 != r.key 0 0 % 2 ^ 24) = true → t.rd p r b i = s.rd p r b i
  sts : ∀ p f b i, f.reg = LNK_STS → f.lo + f.w ≤ 6 ∨ 19 ≤ f.lo → t.get p f b i = s.get p f b i
  now : ∀ p, t.now p = s.now p
  out : s.out ⊆ t.out

/-- A field beside the stored one reads as before in every bank, index and part. -/
theorem get_put_beside {f g : Fld} (hr : f.reg = g.reg) (h : g.lo + g.w ≤ f.lo ∨ f.lo + f.w ≤ g.lo) (s : State) (p q : Part) (v b i b' i' : Nat) :
    (s.put p f v b i).get q g b' i' = s.get q g b' i' := by
  by_cases same : q = p ∧ g.reg.key b' i' = f.reg.key b i
  · have old : s.rd q g.reg b' i' = s.rd p f.reg b i := by rw [State.rd, State.rd, RegFile.read, RegFile.read, same.1, same.2, hr]
    rw [State.put, State.get, State.get, rd_wr, if_pos same, old, getBits_setBits_apart _ _ _ _ _ _ h]
  · rw [State.put, State.get, State.get, rd_wr, if_neg same]

theorem put_now (s : State) (p q : Part) (f : Fld) (v b i : Nat) : (s.put p f v b i).now q = s.now q := by cases p <;> cases q <;> rfl

theorem put_port (s : State) (p q : Part) (f : Fld) (v b i n : Nat) : (s.put p f v b i).port q n = s.port q n := by cases p <;> cases q <;> rfl

namespace State.Sends

theorem refl (s : State) : s.Sends s := ⟨fun _ _ => rfl, fun _ _ _ _ _ => rfl, fun _ _ _ _ _ _ => rfl, fun _ => rfl, List.Subset.refl _⟩

theorem trans {s t u : State} (h : s.Sends t) (h' : t.Sends u) : s.Sends u where
  port p n := (h'.port p n).trans (h.port p n)
  rd p r b i hr := (h'.rd p r b i hr).trans (h.rd p r b i hr)
  sts p f b i hf hlo := (h'.sts p f b i hf hlo).trans (h.sts p f b i hf hlo)
  now p := (h'.now p).trans (h.now p)
  out := List.Subset.trans h.out h'.out

theorem kex {s t : State} (h : s.Sends t) (p : Part) (n : Nat) : (t.port p n).kex = (s.port p n).kex := by
  have same := congrArg Port.kex (h.port p n)
  exact same

theorem foldl {α : Type} {f : State → α → State} (h : ∀ (s : State) a, s.Sends (f s a)) (l : List α) (s : State) : s.Sends (l.foldl f s) := by
  induction l generalizing s with
  | nil => exact refl s
  | cons a l ih => exact (h s a).trans (ih _)

theorem when {f : State → State} (h : ∀ s : State, s.Sends (f s)) (c : Bool) (s : State) : s.Sends (s.when c f) := by
  cases c
  · exact refl s
  · exact h s

theorem onPort {f : Port → Port} (s : State) (p : Part) (n : Nat) (h : ∀ pt, (f pt).still = pt.still := by exact fun _ => rfl) : s.Sends (s.onPort p n f) where
  port q m := by
    by_cases hq : q = p
    · subst hq
      by_cases hm : m = n
      · rw [hm, onPort_port, h]
      · rw [onPort_port_other _ _ _ _ _ hm]
    · have other : (s.onPort p n f).chip q = s.chip q := by cases p <;> cases q <;> first | rfl | exact absurd rfl hq
      rw [State.port, State.port, other]
  rd _ _ _ _ _ := onPort_rd ..
  sts _ f _ _ _ _ := get_congr (f := f) (onPort_rd ..)
  now q := by cases p <;> cases q <;> rfl
  out := by rw [onPort_out]; exact List.Subset.refl _

theorem emit (s : State) (o : Out) : s.Sends (s.emit o) where
  port p n := by cases p <;> rfl
  rd _ _ _ _ _ := emit_rd ..
  sts _ f _ _ _ _ := get_congr (f := f) (emit_rd ..)
  now p := by cases p <;> rfl
  out := List.subset_append_left _ _

theorem put {f : Fld} (h : f.reg = LNK_TX_CTR ∨ f.reg = LNK_RETRY ∨ f = LNK_STS_REPLAY_FILL) (s : State) (p : Part) (v b i : Nat) :
    s.Sends (s.put p f v b i) where
  port q n := congrArg Port.still (put_port ..)
  rd q r b' i' hr := by
    simp only [txRegs, List.all_cons, List.all_nil, Bool.and_true, Bool.and_eq_true, bne_iff_ne, ne_eq] at hr
    obtain ⟨hsts, htx, hretry⟩ := hr
    refine rd_put_of_place ?_ ..
    obtain h | h | rfl := h
    · rw [h]; exact Ne.symm htx
    · rw [h]; exact Ne.symm hretry
    · exact Ne.symm hsts
  sts q g b' i' hg hlo := by
    obtain h | h | rfl := h
    · exact get_congr (f := g) (rd_put_of_place (by rw [h, hg]; decide) ..)
    · exact get_congr (f := g) (rd_put_of_place (by rw [h, hg]; decide) ..)
    · exact get_put_beside hg.symm hlo ..
  now q := put_now ..
  out := by rw [put_out]; exact List.Subset.refl _

theorem count {f : Fld} (h : f.reg = LNK_RETRY) (s : State) (p : Part) (n b i : Nat) : s.Sends (s.count p f n b i) := put (.inr (.inl h)) ..

/-! ### The steps of the transmitter -/

theorem seedLanes (s : State) (p : Part) (n : Nat) : s.Sends (s.seedLanes p n) := by
  unfold State.seedLanes
  exact onPort ..

theorem wire (s : State) (p : Part) (n : Nat) (f : List Byte) : s.Sends (s.wire p n f) := by
  refine when (fun t => ?_) _ s
  exact trans (emit ..) (onPort ..)

theorem sendFlit (s : State) (p : Part) (n type start : Nat) (payload : List Byte) : s.Sends (s.sendFlit p n type start payload) := by
  refine trans (trans (trans ?port (put (.inr (.inr rfl)) ..)) (when (fun t => put (.inl rfl) t ..) ..)) (wire ..)
  exact onPort ..

theorem closeGroup (s : State) (p : Part) (n : Nat) : s.Sends (s.closeGroup p n) := by
  unfold State.closeGroup
  extract_lets k iv tag
  split
  · exact refl s
  · exact sendFlit ..

theorem sendGrouped (s : State) (p : Part) (n type start : Nat) (payload : List Byte) : s.Sends (s.sendGrouped p n type start payload) := by
  unfold State.sendGrouped
  extract_lets t
  split
  · exact (sendFlit ..).trans (closeGroup ..)
  · exact sendFlit ..

theorem sendNak (s : State) (p : Part) (n : Nat) : s.Sends (s.sendNak p n) := trans (count rfl ..) (wire ..)

theorem sendControl (s : State) (p : Part) (n type : Nat) (payload : List Byte) : s.Sends (s.sendControl p n type payload) := by
  unfold State.sendControl
  split
  · exact sendGrouped ..
  · exact onPort ..

theorem flushCtl (fuel : Nat) (p : Part) (n : Nat) (s : State) : s.Sends (State.flushCtl fuel p n s) := by
  induction fuel generalizing s with
  | zero => exact refl s
  | succ fuel ih =>
    unfold State.flushCtl
    split
    · exact refl s
    · split
      · refine trans (trans ?_ (sendGrouped ..)) (ih _)
        exact onPort ..
      · exact refl s

theorem feed (fuel : Nat) (p : Part) (n : Nat) (s : State) : s.Sends (State.feed fuel p n s) := by
  induction fuel generalizing s with
  | zero => exact refl s
  | succ fuel ih =>
    unfold State.feed
    extract_lets pt
    split
    · exact refl s
    · split
      · exact refl s
      · refine trans (trans ?_ (sendGrouped ..)) (ih _)
        exact onPort ..

theorem loadPacket (s : State) (p : Part) (n : Nat) (k : Packet) (ready : Nat) : s.Sends (s.loadPacket p n k ready) := onPort ..

theorem pump (fuel : Nat) (p : Part) (n : Nat) (s : State) : s.Sends (State.pump fuel p n s) := by
  induction fuel generalizing s with
  | zero => exact refl s
  | succ fuel ih =>
    unfold State.pump
    extract_lets t
    have fed : s.Sends t := feed ..
    split
    · exact fed
    · split
      · exact fed
      · refine trans (trans (trans fed ?_) (loadPacket ..)) (ih _)
        exact onPort ..

theorem pumpAll (s : State) (p : Part) (n : Nat) : s.Sends (s.pumpAll p n) := trans (flushCtl ..) (pump ..)

theorem sendCtrl (s : State) (p : Part) (n kind value : Nat) : s.Sends (s.sendCtrl p n kind value) := trans (sendControl ..) (emit ..)

theorem sendKex (s : State) (p : Part) (n : Nat) (resp : Bool) (m : KexMsg) : s.Sends (s.sendKex p n resp m) :=
  trans (foldl (fun t x => sendControl t p n 5 x) _ s) (emit ..)

/-! ### Packets taken out of the switch's queues -/

theorem owe (s : State) (p : Part) (n : Nat) (k : Packet) : s.Sends (s.owe p n k) := onPort ..

theorem onCore (s : State) (f : SwCore → SwCore) : s.Sends (s.onCore f) where
  port p n := by cases p <;> rfl
  rd _ _ _ _ _ := onCore_rd ..
  sts _ f _ _ _ _ := get_congr (f := f) (onCore_rd ..)
  now p := by cases p <;> rfl
  out := List.Subset.refl _

theorem unreserve (s : State) (q : QEntry) : s.Sends (s.unreserve q) := by
  unfold State.unreserve
  split
  · refine when (fun t => ?_) _ s
    exact onPort ..
  · exact refl s

theorem dropQueued (s : State) (f : QEntry → Bool) : s.Sends (s.dropQueued f) := by
  unfold State.dropQueued
  extract_lets l t
  refine trans (foldl (fun t q => ?_) l s) (onCore ..)
  split
  · refine trans (unreserve t q) (when (fun u => ?_) ..)
    exact owe ..
  · exact unreserve t q

end State.Sends

end Sys2Proof.Machine
end

section
/-! The link of a port is lost (R312, R315, R321, R335): what the port and its registers hold after it. -/

namespace Sys2Proof.Machine

/-- The counter and the rekey of a link cleared, with the identity of its partner. -/
def State.peerCleared (s : State) (n : Nat) : State :=
  let s := (s.wr .sw LNK_TX_CTR 0 0 n).put .sw LNK_REKEY_BUSY 0 0 n
  let s := (upTo 8).foldl (fun s k => s.wr .sw (LNK_PEER_ID.word k) 0 0 n) s
  let s := (upTo 8).foldl (fun s k => s.wr .sw (SEC_PEER.word k) 0 (n + 1)) s
  s.onChip .sw fun c => { c with spdm := removeAt c.spdm (16 + n) }

/-- The registers of a link cleared when it is lost. -/
def State.linkCleared (s : State) (n : Nat) : State :=
  ((((s.put .sw FPT_STS_SHEDDING 0 0 n).wr .sw FPT_PARTNER 0 0 n).put .sw FPT_RTT_NS 0 0 n).wr .sw LNK_STS 0 0 n).peerCleared n

/-- The port's record begun anew, and its status. -/
def State.portCleared (s : State) (n next : Nat) : State :=
  let s := s.onPort .sw n fun pt =>
    { ({} : Port) with timer := s.now .sw, attempts := pt.attempts, slips := pt.slips, loop := pt.loop,
                       cfg := if next == 1 then s.rd .sw FPT_CFG 0 n else 0, encCfg := if next == 1 then s.rd .sw LNK_CFG 0 n else 0 }
  ((s.put .sw FPT_STS_STAGE next 0 n).put .sw FPT_STS_WIDTH 0 0 n).put .sw FPT_STS_LANES 0 0 n |>.put .sw FPT_STS_RETRAINING 0 0 n

/-- The fault shown, with its record where the link was up. -/
def State.linkFaulted (s : State) (n : Nat) (fault : Option Nat) (esc : Bool) : State :=
  match fault with
  | some f =>
    let t := s.put .sw FPT_STS_FAULT f 0 n
    if s.stage .sw n == 5 then t.event .sw (pgFpt + n) .linkDown f (s.get .sw FPT_STS_LANES 0 n) (sev := some (t.linkDownSev .sw n)) (rung := some 3) (esc := esc) else t
  | none => s

theorem linkLost_sw (s : State) (n next : Nat) (fault : Option Nat) (esc : Bool) :
    s.linkLost .sw n next fault esc
      = ((((((s.linkFaulted n fault esc).leaveActive n).lanesTo .sw n (((s.linkFaulted n fault esc).leaveActive n).allLanes .sw n)
          (if next == 1 then 1 else 0)).portCleared n next).linkCleared n).when (s.stage .sw n == 5) fun s => s.attested .sw 7) := by
  have part : (Part.sw == Part.ep) = false := rfl
  have never (t : State) (f : State → State) : t.when false f = t := rfl
  have always (t : State) (f : State → State) : t.when true f = f t := rfl
  have self : (Part.sw == Part.sw) = true := rfl
  unfold State.linkLost State.linkFaulted State.portCleared State.linkCleared State.peerCleared
  simp only [part, self, Bool.false_and, never, always] <;> cases fault <;> rfl

/-- The registers that the clearing of a partner writes. -/
def peerRegs : List Reg := LNK_TX_CTR :: LNK_REKEY :: ((upTo 8).map LNK_PEER_ID.word ++ (upTo 8).map SEC_PEER.word)

theorem peerCleared_rd {r : Reg} (h : (peerRegs.all fun x => r.key 0 0 % 2 ^ 24 != x.key 0 0 % 2 ^ 24) = true) (s : State) (n b i : Nat) :
    (s.peerCleared n).rd .sw r b i = s.rd .sw r b i := by
  have wrote {r' : Reg} (hr : r' ∈ peerRegs) (t : State) (x : Word) (b' i' : Nat) : (t.wr .sw r' x b' i').rd .sw r b i = t.rd .sw r b i :=
    rd_wr_of_place (by simpa using List.all_eq_true.1 h _ hr) ..
  have words {r' : Reg} (hr : ∀ k ∈ upTo 8, r'.word k ∈ peerRegs) (t : State) (b' i' : Nat) :
      ((upTo 8).foldl (fun s k => s.wr .sw (r'.word k) 0 b' i') t).rd .sw r b i = t.rd .sw r b i :=
    foldl_leaves_of_mem (part := (·.rd .sw r b i)) (fun u k hk => wrote (hr k hk) u 0 b' i') t
  have identity : ∀ k ∈ upTo 8, LNK_PEER_ID.word k ∈ peerRegs := fun k hk =>
    List.mem_cons_of_mem _ (List.mem_cons_of_mem _ (List.mem_append_left _ (List.mem_map_of_mem hk)))
  have alias_ : ∀ k ∈ upTo 8, SEC_PEER.word k ∈ peerRegs := fun k hk =>
    List.mem_cons_of_mem _ (List.mem_cons_of_mem _ (List.mem_append_right _ (List.mem_map_of_mem hk)))
  unfold State.peerCleared
  extract_lets t1 t2 t3
  rw [onChip_rd_of_regs (by exact fun _ => rfl)]
  calc t3.rd .sw r b i = t2.rd .sw r b i := words alias_ ..
    _ = t1.rd .sw r b i := words identity ..
    _ = (s.wr .sw LNK_TX_CTR 0 0 n).rd .sw r b i := wrote (r' := LNK_REKEY) (List.mem_cons_of_mem _ (List.mem_cons_self ..)) ..
    _ = s.rd .sw r b i := wrote (List.mem_cons_self ..) ..

/-- Of FPT_STS the clearing writes SHEDDING alone. -/
theorem linkCleared_sts {f : Fld} (hf : f.reg = FPT_STS) (hlo : f.lo + f.w ≤ 7 ∨ 8 ≤ f.lo) (s : State) (n : Nat) :
    (s.linkCleared n).get .sw f 0 n = s.get .sw f 0 n := by
  have wrote {r : Reg} (h : FPT_STS.key 0 0 % 2 ^ 24 ≠ r.key 0 0 % 2 ^ 24) (t : State) (x : Word) (b i : Nat) :
      (t.wr .sw r x b i).get .sw f 0 n = t.get .sw f 0 n := get_congr (f := f) (rd_wr_of_place (by rw [hf]; exact h) ..)
  have peer (t : State) : (t.peerCleared n).get .sw f 0 n = t.get .sw f 0 n := get_congr (f := f) (peerCleared_rd (by rw [hf]; decide) ..)
  have rtt (t : State) : (t.put .sw FPT_RTT_NS 0 0 n).get .sw f 0 n = t.get .sw f 0 n := wrote (r := FPT_RTT) (by decide) ..
  rw [State.linkCleared, peer, wrote (by decide), rtt, wrote (by decide)]
  exact get_put_beside (f := FPT_STS_SHEDDING) hf.symm hlo ..

theorem linkCleared_state (s : State) (n : Nat) : (s.linkCleared n).get .sw LNK_STS_STATE 0 n = 0 := by
  rw [State.linkCleared, get_congr (f := LNK_STS_STATE) (peerCleared_rd (by decide) ..)]
  exact congrArg (getBits · 0 3) (rd_wr_same ..)

theorem onChip_port {f : Chip → Chip} (h : ∀ c, (f c).ports = c.ports) (s : State) (p : Part) (m : Nat) : (s.onChip p f).port p m = s.port p m := by
  rw [State.port, onChip_chip, h, State.port]

theorem wr_port (s : State) (p q : Part) (r : Reg) (x : Word) (b i m : Nat) : (s.wr p r x b i).port q m = s.port q m := by
  cases p <;> cases q <;> rfl

theorem peerCleared_port (s : State) (n m : Nat) : (s.peerCleared n).port .sw m = s.port .sw m := by
  have words (r : Reg) (t : State) (b i : Nat) : ((upTo 8).foldl (fun s k => s.wr .sw (r.word k) 0 b i) t).port .sw m = t.port .sw m :=
    foldl_leaves (·.port .sw m) _ (fun t k => wr_port ..) _ t
  unfold State.peerCleared
  extract_lets t1 t2 t3
  rw [onChip_port (by exact fun _ => rfl)]
  calc t3.port .sw m = t2.port .sw m := words ..
    _ = t1.port .sw m := words ..
    _ = s.port .sw m := (put_port ..).trans (wr_port ..)

theorem linkCleared_port (s : State) (n m : Nat) : (s.linkCleared n).port .sw m = s.port .sw m := by
  rw [State.linkCleared, peerCleared_port, wr_port, put_port, wr_port, put_port]

theorem portCleared_sts (s : State) (n : Nat) {next : Nat} (h : next < 8) :
    (s.portCleared n next).get .sw FPT_STS_STAGE 0 n = next ∧ (s.portCleared n next).get .sw FPT_STS_LANES 0 n = 0
      ∧ (s.portCleared n next).get .sw FPT_STS_FAULT 0 n = s.get .sw FPT_STS_FAULT 0 n := by
  have beside {f g : Fld} (hf : f.reg = FPT_STS) (hg : g.reg = FPT_STS) (ha : g.lo + g.w ≤ f.lo ∨ f.lo + f.w ≤ g.lo) (t : State) (v : Nat) :
      (t.put .sw f v 0 n).get .sw g 0 n = t.get .sw g 0 n := get_put_beside (hf.trans hg.symm) ha ..
  refine ⟨?_, ?_, ?_⟩
  · rw [State.portCleared, beside rfl rfl (.inl (by decide)), beside rfl rfl (.inl (by decide)), beside rfl rfl (.inl (by decide)),
      get_put _ _ FPT_STS_STAGE _ _ _ (by decide)]
    exact Nat.mod_eq_of_lt h
  · rw [State.portCleared, beside rfl rfl (.inr (by decide)), get_put _ _ FPT_STS_LANES _ _ _ (by decide)]
    rfl
  · rw [State.portCleared, beside rfl rfl (.inr (by decide)), beside rfl rfl (.inl (by decide)), beside rfl rfl (.inr (by decide)),
      beside rfl rfl (.inr (by decide))]
    exact get_congr (f := FPT_STS_FAULT) (onPort_rd ..)

theorem portCleared_replay (s : State) (n next : Nat) : ((s.portCleared n next).port .sw n).replay = [] := by
  rw [State.portCleared]
  rw [put_port, put_port, put_port, put_port, onPort_port]

/-- What a link that is lost leaves at a port: its stage, no lane, nothing to replay, and the link layer down. -/
structure State.LinkDown (s : State) (n next fault : Nat) : Prop where
  stage : s.stage .sw n = next
  fault : s.get .sw FPT_STS_FAULT 0 n = fault
  lanes : s.get .sw FPT_STS_LANES 0 n = 0
  replay : (s.port .sw n).replay = []
  state : s.get .sw LNK_STS_STATE 0 n = 0

/-- The queues, the herds and the agents that a lost link concerns stand apart from the port's status. -/
theorem linkFaulted_fault (s : State) (n : Nat) {fault : Nat} (h : fault < 16) (esc : Bool) :
    ∀ mask st, (((s.linkFaulted n (some fault) esc).leaveActive n).lanesTo .sw n mask st).get .sw FPT_STS_FAULT 0 n = fault := by
  intro mask st
  have lanes := rd_of_frame (State_lanesTo_sw_frame ((s.linkFaulted n (some fault) esc).leaveActive n) n mask st) (FPT_STS_comp .sw) 0 n (by decide)
  have queues := rd_of_frame (State_leaveActive_frame (s.linkFaulted n (some fault) esc) n) (FPT_STS_comp .sw) 0 n (by decide)
  have shown : (s.linkFaulted n (some fault) esc).rd .sw FPT_STS 0 n = (s.put .sw FPT_STS_FAULT fault 0 n).rd .sw FPT_STS 0 n := by
    unfold State.linkFaulted
    dsimp only
    split
    · exact event_rd (FPT_STS_comp .sw) (by decide) (by decide) ..
    · rfl
  rw [get_congr (f := FPT_STS_FAULT) (lanes.trans (queues.trans shown)), get_put _ _ FPT_STS_FAULT _ _ _ (by decide)]
  exact Nat.mod_eq_of_lt h

theorem linkLost_down (s : State) (n : Nat) {next fault : Nat} (hnext : next < 8) (hfault : fault < 16) (esc : Bool) :
    (s.linkLost .sw n next (some fault) esc).LinkDown n next fault := by
  rw [linkLost_sw]
  generalize hu : ((s.linkFaulted n (some fault) esc).leaveActive n).lanesTo .sw n _ _ = u
  have shown : u.get .sw FPT_STS_FAULT 0 n = fault := hu ▸ linkFaulted_fault s n hfault esc _ _
  obtain ⟨stage, lanes, kept⟩ := portCleared_sts u n hnext
  have attests (t : State) (r : Reg) {page : Nat} (hr : r.comp .sw = .page .sw page) (hp : page ≠ 7) :
      (t.when (s.stage .sw n == 5) fun s => s.attested .sw 7).rd .sw r 0 n = t.rd .sw r 0 n :=
    when_leaves (part := (·.rd .sw r 0 n)) (fun t => rd_of_frame (State_attested_sw_frame t 7) hr 0 n (by simp [Comp.meets, Ne.symm hp])) _ t
  have ports (t : State) : (t.when (s.stage .sw n == 5) fun s => s.attested .sw 7).port .sw n = t.port .sw n :=
    when_leaves (part := (·.port .sw n)) (fun t => by
      have same : (t.attested .sw 7).swc.ports = t.swc.ports := sameIn_of_frame (State_attested_sw_frame t 7) (.ports .sw) (by decide)
      rw [State.port, State.port, State.chip, State.chip, same]) _ t
  have sts {f : Fld} (hf : f.reg = FPT_STS) (hlo : f.lo + f.w ≤ 7 ∨ 8 ≤ f.lo) :
      (((u.portCleared n next).linkCleared n).when (s.stage .sw n == 5) fun s => s.attested .sw 7).get .sw f 0 n = (u.portCleared n next).get .sw f 0 n :=
    (get_congr (f := f) (attests _ _ (by rw [hf]; exact FPT_STS_comp .sw) (by decide))).trans (linkCleared_sts hf hlo ..)
  exact {
    stage := (sts (f := FPT_STS_STAGE) rfl (by decide)).trans stage
    fault := (sts (f := FPT_STS_FAULT) rfl (by decide)).trans (kept.trans shown)
    lanes := (sts (f := FPT_STS_LANES) rfl (by decide)).trans lanes
    replay := by rw [ports, linkCleared_port, portCleared_replay]
    state := (get_congr (f := LNK_STS_STATE) (attests _ _ (LNK_STS_comp .sw) (by decide))).trans (linkCleared_state ..) }

end Sys2Proof.Machine
end

section
/-! Link keys and what a locked target refuses (R315, R316, R320, R321, R388, R390). -/

namespace Sys2Proof.Machine

/-! ### A rekey starts (R320) -/

/-- What a rekey that has started shows. -/
def State.RekeyRuns (s : State) (p : Part) (n : Nat) : Prop :=
  s.get p LNK_STS_STATE 0 n = 4 ∧ s.flag p LNK_REKEY_BUSY 0 n = true ∧ (s.port p n).kex.running = true

theorem drawn_port (s : State) (p : Part) (n : Nat) : s.drawn.port p n = s.port p n := by
  cases p <;> rfl

theorem startKex_sends {s : State} {p : Part} (hsec : s.secHalted p = false) (n : Nat) :
    ∃ kex m, kex.running = true ∧ s.startKex p n = (s.onPort p n fun pt => { pt with kex := kex }).drawn.sendKex p n false m := by
  unfold State.startKex
  rw [if_neg (by rw [hsec]; exact Bool.false_ne_true)]
  exact ⟨_, _, rfl, rfl⟩

/-- The first message of an exchange, with its draw and its port's record, changes of the registers only what a transmitter counts. -/
theorem startKex_runs {s : State} {p : Part} {n : Nat} (hsec : s.secHalted p = false) (hstate : s.get p LNK_STS_STATE 0 n = 4)
    (hbusy : s.flag p LNK_REKEY_BUSY 0 n = true) : (s.startKex p n).RekeyRuns p n := by
  obtain ⟨kex, m, runs, hstart⟩ := startKex_sends hsec n
  rw [hstart]
  have drew (r : Reg) : (s.onPort p n fun pt => { pt with kex := kex }).drawn.rd p r 0 n = s.rd p r 0 n := (drawn_rd ..).trans (onPort_rd ..)
  have now : ((s.onPort p n fun pt => { pt with kex := kex }).drawn.port p n).kex = kex := by
    rw [drawn_port, onPort_port]
  generalize (s.onPort p n fun pt => { pt with kex := kex }).drawn = u at drew now
  have sent := State.Sends.sendKex u p n false m
  refine ⟨?_, ?_, ?_⟩
  · exact (sent.sts p LNK_STS_STATE 0 n rfl (.inl (by decide))).trans ((get_congr (f := LNK_STS_STATE) (drew _)).trans hstate)
  · exact (flag_congr (f := LNK_REKEY_BUSY) ((sent.rd p LNK_REKEY 0 n (by decide)).trans (drew _))).trans hbusy
  · rw [sent.kex, now, runs]

theorem startRekey_runs {s : State} {p : Part} {n : Nat} (hstate : s.get p LNK_STS_STATE 0 n = 3) (hinit : s.flag p LNK_STS_INITIATOR 0 n = true)
    (hstage : s.stage p n = 5) (hsec : s.secHalted p = false) : (s.startRekey p n).RekeyRuns p n := by
  have starts : s.startRekey p n = ((s.put p LNK_STS_STATE 4 0 n).put p LNK_REKEY_BUSY 1 0 n).startKex p n := by
    simp only [State.startRekey, hstate, hinit, hstage, hsec, beq_self_eq_true, Bool.not_false, Bool.and_self, if_true]
  have halted : ((s.put p LNK_STS_STATE 4 0 n).put p LNK_REKEY_BUSY 1 0 n).secHalted p = false := by
    cases p with
    | sw =>
      have kept : ((s.put .sw LNK_STS_STATE 4 0 n).put .sw LNK_REKEY_BUSY 1 0 n).get .sw MGT_CORE_STS_SECURITY = s.get .sw MGT_CORE_STS_SECURITY :=
        get_congr (f := MGT_CORE_STS_SECURITY)
          ((rd_put_of_place (f := LNK_REKEY_BUSY) (by decide) ..).trans (rd_put_of_place (f := LNK_STS_STATE) (by decide) ..))
      exact (congrArg (· == 3) kept).trans hsec
    | ep => exact hsec
  rw [starts]
  refine startKex_runs halted ?_ (congrArg (· != 0) (get_put _ _ LNK_REKEY_BUSY 1 0 n (by decide)))
  exact (get_congr (f := LNK_STS_STATE) (rd_put_of_place (f := LNK_REKEY_BUSY) (by decide) ..)).trans (get_put _ _ LNK_STS_STATE 4 0 n (by decide))

theorem regDone_port (s : State) (q : Part) (path : Path) (st : Nat) (data : Word) (p : Part) (n : Nat) :
    (s.regDone q path st data).port p n = s.port p n := by
  rw [State.port, State.port, regDone_chip]

theorem regDone_rekeyRuns {s : State} {p : Part} {n : Nat} (h : s.RekeyRuns p n) (path : Path) (st : Nat) : (s.regDone p path st).RekeyRuns p n := by
  obtain ⟨state, busy, runs⟩ := h
  exact ⟨(regDone_get (f := LNK_STS_STATE) ..).trans state, (regDone_flag ..).trans busy, by rwa [regDone_port]⟩

theorem regDone_out (s : State) (p : Part) (path : Path) (st : Nat) (data : Word) : s.out ⊆ (s.regDone p path st data).out := by
  cases path
  case csr | sideband => exact List.subset_append_left _ _
  case host | remote => exact List.Subset.refl _

/-! ### A key exchange fails (R315) -/

/-- The stage that a failed exchange leads to: a first one counts as an attempt, and the last attempt gives the port up. -/
def State.kexNext (s : State) (n : Nat) : Nat :=
  if s.get .sw LNK_STS_STATE 0 n = 1 ∧ max 1 (getBits (s.port .sw n).cfg 12 4) ≤ (s.port .sw n).attempts + 1 then 0 else 1

theorem kexNext_lt (s : State) (n : Nat) : s.kexNext n < 8 := by
  unfold State.kexNext
  split <;> decide

theorem kexFailed_down (s : State) (n step : Nat) : (s.kexFailed .sw n step).LinkDown n (s.kexNext n) 9 := by
  unfold State.kexFailed
  extract_lets t u
  have state : t.get .sw LNK_STS_STATE 0 n = s.get .sw LNK_STS_STATE 0 n :=
    get_congr (f := LNK_STS_STATE) (event_rd (LNK_STS_comp .sw) (by decide) (by decide) ..)
  have ports : t.swc.ports = s.swc.ports :=
    sameIn_of_frame (State_event_sw_frame s (pgLnk + n) .kexFail step 0 none none false 0 0) (.ports .sw) (by decide)
  have port : t.port .sw n = s.port .sw n := by rw [State.port, State.port, State.chip, State.chip, ports]
  split
  next first =>
    rw [state, beq_iff_eq] at first
    have counted : u.port .sw n = { s.port .sw n with attempts := (s.port .sw n).attempts + 1 } := by
      rw [onPort_port, State.count, put_port, port]
    have next : (if (u.port .sw n).attempts < max 1 (getBits (u.port .sw n).cfg 12 4) then 1 else 0) = s.kexNext n := by
      rw [counted, State.kexNext]
      dsimp only
      split <;> split <;> omega
    rw [next]
    exact linkLost_down u n (kexNext_lt s n) (by decide) false
  next later =>
    rw [state, beq_iff_eq] at later
    have next : s.kexNext n = 1 := if_neg fun h => later h.1
    rw [next]
    exact linkLost_down t n (by decide) (by decide) false

theorem kexTimeout_of_due {s : State} {n : Nat} (hstage : s.kexStage .sw n = true) (hrun : (s.port .sw n).kex.running = true)
    (hdue : s.due .sw (s.port .sw n).kex.start 350000 = true) : kexTimeout .sw n s = s.kexFailed .sw n 3 := by
  simp only [kexTimeout, hstage, hrun, hdue, Bool.and_self, if_true]

theorem keyExhausted_of_spent {s : State} {n : Nat} (hstage : s.stage .sw n = 5)
    (hctr : 2 ^ 40 ≤ max (s.port .sw n).keys.txCtr (s.port .sw n).keys.rxCtr) :
    keyExhausted .sw n s = s.linkLost .sw n 1 (some (s.get .sw FPT_STS_FAULT 0 n)) := by
  have spent : decide (2 ^ 40 ≤ max (s.port .sw n).keys.txCtr (s.port .sw n).keys.rxCtr) = true := decide_eq_true hctr
  simp only [keyExhausted, hstage, spent, beq_self_eq_true, Bool.and_self, if_true]

theorem rekeySoftPoint_of_past {s : State} {p : Part} {n : Nat}
    (h : 2 ^ s.get p LNK_REKEY_SOFT_LOG2 0 n ≤ max (s.port p n).keys.txCtr (s.port p n).keys.rxCtr) :
    rekeySoftPoint p n s = s.startRekey p n := if_pos h

/-! ### A write of REKEY by the host (R320) -/

theorem rekeyRequest_of_initiator {s : State} {p : Part} {n : Nat} (hstate : s.get p LNK_STS_STATE 0 n = 3)
    (hinit : s.flag p LNK_STS_INITIATOR 0 n = true) : s.rekeyRequest p n = s.startRekey p n := by
  simp only [State.rekeyRequest, hstate, hinit, bne_self_eq_false, Bool.false_eq_true, if_false, if_true]

theorem rekeyRequest_of_responder {s : State} {p : Part} {n : Nat} (hstate : s.get p LNK_STS_STATE 0 n = 3)
    (hinit : s.flag p LNK_STS_INITIATOR 0 n = false) : s.rekeyRequest p n = s.sendCtrl p n 5 0 := by
  simp only [State.rekeyRequest, hstate, hinit, bne_self_eq_false, Bool.false_eq_true, if_false]

/-! ### The locked target (R390) -/

theorem tspLocked_of_one {s : State} (h : s.get .sw CXU_STS_TSP = 1) : s.tspLocked = true := by
  rw [State.tspLocked, h]
  rfl

theorem hdmCommit_of_locked {s : State} {dec : Nat} (hmem : s.cxlMem = true) (hdec : dec < 32) (h : s.tspLocked = true) (hpa dpa size ways : Nat)
    (db : Bool) : hdmCommit dec hpa dpa size ways db s = s.refuse .sw pgCxu := by
  have room : decide (32 ≤ dec) = false := decide_eq_false (by omega)
  simp only [hdmCommit, hmem, room, h, Bool.not_true, Bool.or_self, Bool.false_eq_true, if_false, if_true]

theorem setBiEn_of_locked {s : State} (h : s.tspLocked = true) (v : Bool) : s.setBiEn v = (s.refuse .sw pgCxu, false) := by
  simp only [State.setBiEn, h, if_true, State.refused]

/-- The host reaches the responder over its upstream port, which counts no message. -/
theorem spdmServes_host {s : State} (hup : s.flag .sw CXU_STS_UP = true) (hlife : s.get .sw SEC_STS_LIFECYCLE ≠ 2) (hsec : s.secHalted .sw = false)
    (hawake : s.swc.inReset = false) : s.SpdmServes .sw 0 where
  reach := by simp [State.spdmReach, hup]
  lifecycle := hlife
  running := hsec
  awake := hawake
  served := .inl (by decide)

theorem flag_put_bool {f : Fld} (s : State) (p : Part) (hlo : f.lo + f.w ≤ 64) (hw : 0 < f.w) (v : Bool) : (s.put p f (b2n v)).flag p f = v := by
  have room : 1 < 2 ^ f.w := Nat.one_lt_two_pow (by omega)
  rw [State.flag, get_put _ _ _ _ _ _ hlo]
  cases v with
  | false => rw [show b2n false = 0 from rfl, Nat.zero_mod]; rfl
  | true => rw [show b2n true = 1 from rfl, Nat.mod_eq_of_lt room]; rfl

/-- Settles O38: a locked target refuses before it looks at the request; a link that loses its keys is down; a rekey that starts changes of the
link's registers what it stores and what the transmitter counts. -/
theorem lockedTargetRefusesHostSetUp : Obligations.LockedTargetRefusesHostSetUp := by
  refine ⟨fun dec hpa dpa size ways db s htsp hmem hdec => ?hdm, fun path v s htsp hopen => ?bi,
    fun stream on s htsp hup hlife hsec hawake hlevel hsession hkey => ?ideLocked, fun n s hstage hrun hdue => ?timeout,
    fun path p n s hopen hstate hinit => ?ask, fun path p n s hopen hstate hinit hstage hsec => ?begin_,
    fun p n s hpast hstate hinit hstage hsec => ?soft, fun p n s hstate hinit hstage hsec => ?asked, fun n s hstage hctr => ?spent,
    fun p who s hreach hlife hsec hawake hserved hlevel => ?vendor,
    fun stream on s hup hlife hsec hawake hlevel hsession hkey hopen => ?ide,
    fun p who s hreach hlife hsec hawake hserved => ?refused⟩
  case hdm => exact ⟨_, congrArg Host.Outcome.next (hdmCommit_of_locked hmem hdec (tspLocked_of_one htsp) ..), rfl⟩
  case bi =>
    refine ⟨_, congrArg Host.Outcome.next (writeBy_of_open hopen _), ?_⟩
    simp only [setBiEn_of_locked (tspLocked_of_one htsp)]
    rfl
  case ideLocked =>
    have locked := tspLocked_of_one htsp
    have heard : s.heard .sw 0 = s := rfl
    refine does_of_spdmServes (congrArg Host.Outcome.next (spdmVendorDefined_some ..)) (spdmServes_host hup hlife hsec hawake) hlevel
      (by simp [hsession]) (fun _ => hkey) ?_
    simp [heard, locked]
  case timeout =>
    have down := kexFailed_down s n 3
    exact ⟨_, congrArg Host.Outcome.next (kexTimeout_of_due hstage hrun hdue), down.stage, down.fault, down.lanes, down.replay, down.state⟩
  case ask =>
    refine ⟨_, congrArg Host.Outcome.next (writeBy_of_open hopen _), regDone_out _ _ _ _ _ ?_⟩
    rw [rekeyRequest_of_responder hstate hinit]
    exact mem_out_emit ..
  case begin_ =>
    refine ⟨_, congrArg Host.Outcome.next (writeBy_of_open hopen _), ?_⟩
    rw [rekeyRequest_of_initiator hstate hinit]
    exact regDone_rekeyRuns (startRekey_runs hstate hinit hstage hsec) ..
  case soft => exact ⟨_, congrArg Host.Outcome.next (rekeySoftPoint_of_past hpast), startRekey_runs hstate hinit hstage hsec⟩
  case asked => exact ⟨_, rfl, startRekey_runs hstate hinit hstage hsec⟩
  case spent =>
    have down := linkLost_down s n (next := 1) (by decide) (get_lt s .sw FPT_STS_FAULT 0 n) false
    exact ⟨_, congrArg Host.Outcome.next (keyExhausted_of_spent hstage hctr), down.stage, down.lanes, down.replay, down.state⟩
  case vendor =>
    refine does_of_spdmServes (congrArg Host.Outcome.next (spdmVendorDefined_none ..)) ⟨hreach, hlife, hsec, hawake, hserved⟩ hlevel rfl nofun ?_
    exact mem_out_emit ..
  case ide =>
    have heard : s.heard .sw 0 = s := rfl
    refine does_of_spdmServes (congrArg Host.Outcome.next (spdmVendorDefined_some ..)) (spdmServes_host hup hlife hsec hawake) hlevel
      (by simp [hsession]) (fun _ => hkey) ?_
    have guards : (Part.sw == Part.ep || (0 : Nat) != 0) = false := rfl
    simp only [heard, guards, hopen, Bool.false_eq_true, if_false, beq_iff_eq]
    refine (flag_congr (emit_rd ..)).trans ?_
    split <;> exact flag_put_bool _ _ (by decide) (by decide) on
  case refused =>
    refine does_of_spdmServes rfl ⟨hreach, hlife, hsec, hawake, hserved⟩ (Nat.zero_le _) rfl nofun ⟨mem_out_emit .., ?_⟩
    rw [emit_spdmAt, heard_spdmAt]

end Sys2Proof.Machine
end

section
/-! The upkeep of a link (R327, R335 to R337, R340, R456, R457): what its steps leave of a port, of its status and of what has been sent. -/

namespace Sys2Proof.Machine

theorem port_of_frame {s t : State} {l : List Comp} (hf : ∀ {wt}, Off wt l → t.view wt = s.view wt) {p : Part}
    (hl : l.all (fun d => !d.meets (.ports p)) = true) (n : Nat) : t.port p n = s.port p n := by
  have ports : (t.chip p).ports = (s.chip p).ports := sameIn_of_frame hf (.ports p) hl
  rw [State.port, State.port, ports]

/-! ### What has been sent stays sent -/

theorem when_out {f : State → State} (h : ∀ s, s.out ⊆ (f s).out) (c : Bool) (s : State) : s.out ⊆ (s.when c f).out := by
  cases c
  · exact List.Subset.refl _
  · exact h s

theorem emit_out_subset (s : State) (o : Out) : s.out ⊆ (s.emit o).out := List.subset_append_left _ _

theorem alertSideband_out (s : State) (page : Nat) : s.out ⊆ (s.alertSideband page).out := by
  unfold State.alertSideband
  split
  · exact List.Subset.refl _
  · extract_lets t
    have same : t.out = s.out := (put_out ..).trans (put_out ..)
    rw [← same]
    split
    · split
      · exact emit_out_subset ..
      · exact List.Subset.refl _
    · split
      · exact emit_out_subset ..
      · exact List.Subset.refl _

theorem deliver_out (s : State) (p : Part) (page : Nat) : s.out ⊆ (s.deliver p page).out := by
  refine List.Subset.trans (when_out (fun t => ?_) _ s) (when_out (fun t => alertSideband_out t page) _ _)
  exact emit_out_subset ..

theorem cause_out (s : State) (p : Part) (page bit : Nat) : s.out ⊆ (s.cause p page bit).out := by
  refine List.Subset.trans ?_ (when_out (fun t => deliver_out t p page) _ _)
  rw [wr_out]
  exact List.Subset.refl _

theorem count_out (s : State) (p : Part) (f : Fld) (n b i : Nat) : (s.count p f n b i).out = s.out := put_out ..

theorem logRec_out (s : State) (p : Part) (r : ErrRec) : s.out ⊆ (s.logRec p r).out := by
  unfold State.logRec
  extract_lets l t kept
  have stored : s.out ⊆ t.out := by
    subst t
    split
    · rw [onChip_out]
      exact List.Subset.refl _
    · split
      · exact List.Subset.trans (by rw [count_out]; exact List.Subset.refl _) (cause_out ..)
      · rw [onChip_out]
        exact List.Subset.refl _
  split
  · exact List.Subset.trans stored (cause_out ..)
  · exact stored

theorem note_out (s : State) (p : Part) (page code : Nat) : (s.note p page code).out = s.out := by
  unfold State.note
  extract_lets now t u
  have first : u.out = t.out := when_leaves (part := State.out) (fun v => (put_out ..).trans ((put_out ..).trans (put_out ..))) _ _
  exact (put_out ..).trans ((put_out ..).trans ((put_out ..).trans (first.trans (count_out ..))))

theorem event_out (s : State) (p : Part) (page d0 d1 status reason : Nat) (e : Err) (sev rung : Option Nat) (esc : Bool) :
    s.out ⊆ (s.event p page e d0 d1 sev rung esc status reason).out := by
  have noted : s.out ⊆ (s.note p page e.code).out := by rw [note_out]; exact List.Subset.refl _
  unfold State.event
  extract_lets v r t
  split
  · exact noted
  · exact List.Subset.trans noted (logRec_out ..)

/-! ### Steps that leave ports, their status and the clock -/

/-- A state that holds another's ports and port pages, at the same tick, and has sent what the other has sent. -/
structure State.Upholds (s t : State) : Prop where
  port : ∀ p n, t.port p n = s.port p n
  rd : ∀ p r b i, r.comp p = .page p 0x200 → t.rd p r b i = s.rd p r b i
  now : ∀ p, t.now p = s.now p
  out : s.out ⊆ t.out

namespace State.Upholds

theorem refl (s : State) : s.Upholds s := ⟨fun _ _ => rfl, fun _ _ _ _ _ => rfl, fun _ => rfl, List.Subset.refl _⟩

theorem trans {s t u : State} (h : s.Upholds t) (h' : t.Upholds u) : s.Upholds u where
  port p n := (h'.port p n).trans (h.port p n)
  rd p r b i hr := (h'.rd p r b i hr).trans (h.rd p r b i hr)
  now p := (h'.now p).trans (h.now p)
  out := List.Subset.trans h.out h'.out

theorem foldl {α : Type} {f : State → α → State} (h : ∀ (s : State) a, s.Upholds (f s a)) (l : List α) (s : State) : s.Upholds (l.foldl f s) := by
  induction l generalizing s with
  | nil => exact refl s
  | cons a l ih => exact (h s a).trans (ih _)

theorem when {f : State → State} (h : ∀ s : State, s.Upholds (f s)) (c : Bool) (s : State) : s.Upholds (s.when c f) := by
  cases c
  · exact refl s
  · exact h s

/-- A step is such a one when its frame names none of this and it takes back nothing that was sent. -/
theorem of_frame {s t : State} {l : List Comp} (hf : ∀ {wt}, Off wt l → t.view wt = s.view wt)
    (hl : ([.ports .sw, .ports .ep, .page .sw 0x200, .page .ep 0x200, .ltc .sw, .ltc .ep].all fun c => l.all fun d => !d.meets c) = true)
    (hout : s.out ⊆ t.out) : s.Upholds t where
  port p n := port_of_frame hf (List.all_eq_true.1 hl _ (by cases p <;> simp)) n
  rd p r b i hr := rd_of_frame hf hr b i (List.all_eq_true.1 hl _ (by cases p <;> simp))
  now p := congrArg BitVec.toNat (sameIn_of_frame hf (.ltc p) (List.all_eq_true.1 hl _ (by cases p <;> simp)))
  out := hout

theorem emit (s : State) (o : Out) : s.Upholds (s.emit o) where
  port p n := by cases p <;> rfl
  rd _ _ _ _ _ := emit_rd ..
  now p := by cases p <;> rfl
  out := emit_out_subset ..

theorem put {f : Fld} (h : ∀ p, f.reg.comp p ≠ .page p 0x200) (s : State) (p : Part) (v b i : Nat) : s.Upholds (s.put p f v b i) where
  port _ _ := put_port ..
  rd q r b' i' hr := rd_put_of_place (fun e => h q (by rw [← hr, Reg.comp, Reg.comp, regComp, regComp, e])) ..
  now _ := put_now ..
  out := by rw [put_out]; exact List.Subset.refl _

theorem lanePut {f : Fld} (h : f.reg.page = 0x100) (s : State) (p : Part) (lane v : Nat) : s.Upholds (s.lanePut p lane f v) := by
  refine put (fun q e => ?_) ..
  rw [laneFld, shift_comp f _ q (by rw [h]; decide), h] at e
  cases e

theorem lanesTo (s : State) (p : Part) (n mask st : Nat) : s.Upholds (s.lanesTo p n mask st) := by
  cases p with
  | sw =>
    have out : (s.lanesTo .sw n mask st).out = s.out := sameIn_of_frame (State_lanesTo_sw_frame s n mask st) .sent (by decide)
    exact of_frame (State_lanesTo_sw_frame s n mask st) (by decide) (by rw [out]; exact List.Subset.refl _)
  | ep =>
    have out : (s.lanesTo .ep n mask st).out = s.out := sameIn_of_frame (State_lanesTo_ep_frame s n mask st) .sent (by decide)
    exact of_frame (State_lanesTo_ep_frame s n mask st) (by decide) (by rw [out]; exact List.Subset.refl _)

theorem lockLost (s : State) (p : Part) (n lane : Nat) : s.Upholds (s.lockLost p n lane) := lanePut rfl ..

theorem event (s : State) (p : Part) (page d0 d1 status reason : Nat) (e : Err) (sev rung : Option Nat) (esc : Bool) :
    s.Upholds (s.event p page e d0 d1 sev rung esc status reason) := by
  cases p with
  | sw => exact of_frame (State_event_sw_frame s page e d0 d1 sev rung esc status reason) (by decide) (event_out ..)
  | ep => exact of_frame (State_event_ep_frame s page e d0 d1 sev rung esc status reason) (by decide) (event_out ..)

end State.Upholds

theorem stage_of_upholds {s t : State} (h : s.Upholds t) (p : Part) (n : Nat) : t.stage p n = s.stage p n :=
  get_congr (f := FPT_STS_STAGE) (h.rd _ _ _ _ (FPT_STS_comp p))

theorem sts_of_upholds {s t : State} (h : s.Upholds t) {f : Fld} (hf : f.reg = FPT_STS) (p : Part) (n : Nat) : t.get p f 0 n = s.get p f 0 n :=
  get_congr (f := f) (h.rd _ _ _ _ (by rw [hf]; exact FPT_STS_comp p))

/-! ### A retrain begins (R335) -/

/-- The state in which a retrain has begun. -/
def State.retrainBegun (s : State) (p : Part) (n : Nat) (esc : Bool) : State :=
  (s.onPort p n fun pt => { pt with retrain := some (s.now p), escalate := pt.escalate || esc }).put p FPT_STS_RETRAINING 1 0 n

theorem startRetrain_of_up {s : State} {p : Part} {n : Nat} (hstage : s.stage p n = 5) (hflag : s.flag p FPT_STS_RETRAINING 0 n = false)
    (hshed : (s.port p n).shed = none) (send esc : Bool) :
    s.startRetrain p n send esc = ((s.retrainBegun p n esc).lanesTo p n ((s.retrainBegun p n esc).get p FPT_STS_LANES 0 n) 3).when send fun s =>
      s.emit (.ordSet p n .retrain) := by
  have up : (s.stage p n != 5 || s.flag p FPT_STS_RETRAINING 0 n) = false := by rw [hstage, hflag]; rfl
  simp only [State.startRetrain, up, Bool.false_eq_true, if_false, hshed]
  rfl

theorem retrainBegun_port (s : State) (p : Part) (n : Nat) (esc : Bool) :
    (s.retrainBegun p n esc).port p n = { s.port p n with retrain := some (s.now p), escalate := (s.port p n).escalate || esc } := by
  rw [State.retrainBegun, put_port, onPort_port]

/-- From a port that is up, not in a retrain and not in a shed, a retrain starts at this tick. -/
theorem startRetrain_runs {s : State} {p : Part} {n : Nat} (hstage : s.stage p n = 5) (hflag : s.flag p FPT_STS_RETRAINING 0 n = false)
    (hshed : (s.port p n).shed = none) (send esc : Bool) :
    (s.retrainBegun p n esc).Upholds (s.startRetrain p n send esc) := by
  rw [startRetrain_of_up hstage hflag hshed]
  exact (State.Upholds.lanesTo ..).trans (State.Upholds.when (fun t => State.Upholds.emit t _) ..)

theorem lanesTo_out (s : State) (p : Part) (n mask st : Nat) : (s.lanesTo p n mask st).out = s.out := by
  cases p with
  | sw => exact sameIn_of_frame (State_lanesTo_sw_frame s n mask st) .sent (by decide)
  | ep => exact sameIn_of_frame (State_lanesTo_ep_frame s n mask st) .sent (by decide)

theorem startRetrain_silent {s : State} {p : Part} {n : Nat} (hstage : s.stage p n = 5) (hflag : s.flag p FPT_STS_RETRAINING 0 n = false)
    (hshed : (s.port p n).shed = none) (esc : Bool) : (s.startRetrain p n false esc).out = s.out := by
  rw [startRetrain_of_up hstage hflag hshed]
  exact (lanesTo_out ..).trans ((put_out ..).trans (onPort_out ..))

theorem retrainBegun_flag (s : State) (p : Part) (n : Nat) (esc : Bool) : (s.retrainBegun p n esc).flag p FPT_STS_RETRAINING 0 n = true :=
  congrArg (· != 0) (get_put _ _ FPT_STS_RETRAINING 1 0 n (by decide))

/-! ### A retrain completes (R335) -/

/-- The port on the lanes that relocked, its retrain over. -/
def State.relocked (s : State) (p : Part) (n left t : Nat) : State :=
  let s := ((s.useLanes p n left).lanesTo p n left 4).put p FPT_STS_RETRAINING 0 0 n
  let s := (s.count p FPT_EVENTS_RETRAINS 1 0 n).put p FPT_TIMES_RETRAIN_TICKS (s.now p - t) 0 n
  s.onPort p n fun pt => { pt with retrain := none, escalate := false, replayRuns := 0, ackAt := s.now p }

theorem relocked_lanes (s : State) (p : Part) (n : Nat) {left : Nat} (h : left < 2 ^ 16) (t : Nat) :
    (s.relocked p n left t).get p FPT_STS_LANES 0 n = left := by
  have counted (u : State) (v : Nat) : (u.put p FPT_EVENTS_RETRAINS v 0 n).get p FPT_STS_LANES 0 n = u.get p FPT_STS_LANES 0 n :=
    get_congr (f := FPT_STS_LANES) (rd_put_of_place (f := FPT_EVENTS_RETRAINS) (by decide) ..)
  have timed (u : State) (v : Nat) : (u.put p FPT_TIMES_RETRAIN_TICKS v 0 n).get p FPT_STS_LANES 0 n = u.get p FPT_STS_LANES 0 n :=
    get_congr (f := FPT_STS_LANES) (rd_put_of_place (f := FPT_TIMES_RETRAIN_TICKS) (by decide) ..)
  have ended (u : State) : (u.put p FPT_STS_RETRAINING 0 0 n).get p FPT_STS_LANES 0 n = u.get p FPT_STS_LANES 0 n :=
    get_put_beside (f := FPT_STS_RETRAINING) (g := FPT_STS_LANES) rfl (.inr (by decide)) ..
  have used : (s.useLanes p n left).get p FPT_STS_LANES 0 n = left := by
    rw [State.useLanes, get_congr (f := FPT_STS_LANES) ((State.Sends.seedLanes _ p n).rd p FPT_STS 0 n (by decide)),
      get_put_beside (f := FPT_STS_WIDTH) (g := FPT_STS_LANES) rfl (.inr (by decide)), get_put _ _ FPT_STS_LANES _ _ _ (by decide)]
    exact Nat.mod_eq_of_lt h
  unfold State.relocked
  extract_lets u v
  rw [get_congr (f := FPT_STS_LANES) (onPort_rd ..)]
  calc v.get p FPT_STS_LANES 0 n = u.get p FPT_STS_LANES 0 n := (timed ..).trans (counted ..)
    _ = ((s.useLanes p n left).lanesTo p n left 4).get p FPT_STS_LANES 0 n := ended ..
    _ = (s.useLanes p n left).get p FPT_STS_LANES 0 n := sts_of_upholds (State.Upholds.lanesTo ..) (f := FPT_STS_LANES) rfl ..
    _ = left := used

theorem relocked_retrain (s : State) (p : Part) (n left t : Nat) : ((s.relocked p n left t).port p n).retrain = none := by
  unfold State.relocked
  extract_lets u v
  rw [onPort_port]

theorem retrainComplete_of_enough {s : State} {p : Part} {n relocked t : Nat} (hretrain : (s.port p n).retrain = some t) (hdue : s.due p t 2625 = false)
    (hlanes : s.minLanes p n ≤ popCount 16 (s.get p FPT_STS_LANES 0 n &&& relocked)) :
    ∃ u, (s.relocked p n (s.get p FPT_STS_LANES 0 n &&& relocked) t).Upholds u ∧ u.Sends (retrainComplete p n relocked s) := by
  simp only [retrainComplete, hretrain, hdue, hlanes, Bool.false_eq_true, if_false, if_true]
  exact ⟨_, State.Upholds.event _ p (pgFpt + n) _ _ 0 0 .linkRetrain none (some 2) _, (State.Sends.sendNak ..).trans (State.Sends.pumpAll ..)⟩

end Sys2Proof.Machine
end

section
/-! Sheds, slips, signal loss and the pattern checker (R336, R337, R340, R456, R457, R463). -/

namespace Sys2Proof.Machine

/-! ### A third fault leaves what ports hold beyond their transmitters (R463) -/

/-- The links of the switch, without what their transmitters keep, are those of another state. -/
structure State.SameLinks (s t : State) : Prop where
  still : ∀ n, (t.port .sw n).still = (s.port .sw n).still

theorem State.SameLinks.of_frame {s t : State} {l : List Comp} (hf : ∀ {wt}, Off wt l → t.view wt = s.view wt)
    (hl : l.all (fun d => !d.meets (.ports .sw)) = true) : s.SameLinks t := ⟨fun n => congrArg Port.still (port_of_frame hf hl n)⟩

theorem State.SameLinks.trans {s t u : State} (h : s.SameLinks t) (h' : t.SameLinks u) : s.SameLinks u := ⟨fun n => (h'.still n).trans (h.still n)⟩

theorem State.SameLinks.when {f : State → State} (h : ∀ s : State, s.SameLinks (f s)) (c : Bool) (s : State) : s.SameLinks (s.when c f) := by
  cases c
  · exact ⟨fun _ => rfl⟩
  · exact h s

theorem dropResidue_sameLinks (s : State) (i : Nat) : s.SameLinks (s.dropResidue i) := ⟨(State.Sends.dropQueued s _).port .sw⟩

theorem decideHerd_sameLinks (s : State) (i reason : Nat) (fo : Bool) (via : Option Nat) : s.SameLinks (s.decideHerd i reason fo via) := by
  unfold State.decideHerd
  split
  next h hherd =>
    extract_lets now h' t1 t2 t3 t4 t5
    have decided : s.SameLinks t1 := State.SameLinks.trans (State.SameLinks.trans (State.SameLinks.of_frame (State_keepStores_frame s i) (by decide))
      (State.SameLinks.of_frame (State_putHerd_frame _ i h') (by decide))) (dropResidue_sameLinks ..)
    have errored : t1.SameLinks t2 := State.SameLinks.when (fun u => State.SameLinks.of_frame (State_synEnterError_sw_frame u h.hsync reason) (by decide)) ..
    have logged : t2.SameLinks t3 :=
      ⟨fun n => congrArg Port.still ((State.Upholds.event t2 .sw pgHrd _ _ _ _ _ _ _ _).port .sw n)⟩
    have told : t3.SameLinks t4 := State.SameLinks.of_frame (State_tellDown_frame t3 i h reason fo) (by decide)
    have asked : t4.SameLinks t5 := State.SameLinks.when (fun u => State.SameLinks.of_frame (State_askUp_frame u h reason fo via) (by decide)) ..
    have ended : t5.SameLinks (t5.checkAcked i) := State.SameLinks.of_frame (State_checkAcked_frame t5 i) (by decide)
    exact decided.trans (errored.trans (logged.trans (told.trans (asked.trans ended))))
  next => exact ⟨fun _ => rfl⟩

theorem herdCondition_sameLinks (s : State) (i reason : Nat) (path : Bool) : s.SameLinks (s.herdCondition i reason path) := by
  unfold State.herdCondition
  split
  next h hherd =>
    split
    · exact ⟨fun _ => rfl⟩
    · split
      · split
        · exact decideHerd_sameLinks ..
        · extract_lets t
          exact State.SameLinks.trans (State.SameLinks.trans (State.SameLinks.of_frame (State_putHerd_frame s i _) (by decide)) (dropResidue_sameLinks ..))
            (State.SameLinks.of_frame (State_askUp_frame _ h reason _ none) (by decide))
      · split
        · exact State.SameLinks.of_frame (State_restate_frame s i reason) (by decide)
        · exact ⟨fun _ => rfl⟩
  next => exact ⟨fun _ => rfl⟩

theorem abortHerds_sameLinks (s : State) (reason : Nat) (f : Nat → Herd → Bool) : s.SameLinks (s.abortHerds reason f) := by
  refine ⟨fun n => ?_⟩
  refine foldl_leaves (fun t => (t.port .sw n).still) _ (fun t e => ?_) _ s
  split
  · exact (herdCondition_sameLinks t e.1 reason false).still n
  · rfl

theorem thirdFault_port (s : State) (p : Part) (n : Nat) : ((s.thirdFault p n).port p n).still = (s.port p n).still := by
  cases p with
  | sw => exact (abortHerds_sameLinks s _ _).still n
  | ep => rfl

/-! ### A lane that loses its lock is shed (R327, R336, R337) -/

theorem widths_of_rd {s t : State} (hlayout : t.rd .sw GLB_LAYOUT = s.rd .sw GLB_LAYOUT) (hstraps : t.rd .sw RST_STRAPS = s.rd .sw RST_STRAPS)
    (hid : t.rd .ep EPC_ID = s.rd .ep EPC_ID) (p : Part) : t.widths p = s.widths p := by
  have layout : t.x4 = s.x4 := flag_congr (f := GLB_LAYOUT_ACTIVE_X4) hlayout
  have role : t.swAxisNo = s.swAxisNo := get_congr (f := RST_STRAPS_ROLE) hstraps
  have mode : t.get .ep EPC_ID_LINK_MODE = s.get .ep EPC_ID_LINK_MODE := get_congr (f := EPC_ID_LINK_MODE) hid
  cases p with
  | sw => simp only [State.widths, layout, role]
  | ep => simp only [State.widths, mode]

/-- What a shed looks at: the port beyond its transmitter, its lanes, and the widths of the ports. -/
structure State.ShedsAs (s t : State) (p : Part) (n : Nat) : Prop where
  still : (t.port p n).still = (s.port p n).still
  lanes : t.get p FPT_STS_LANES 0 n = s.get p FPT_STS_LANES 0 n
  widths : t.widths p = s.widths p

theorem State.ShedsAs.trans {s t u : State} {p : Part} {n : Nat} (h : s.ShedsAs t p n) (h' : t.ShedsAs u p n) : s.ShedsAs u p n :=
  ⟨h'.still.trans h.still, h'.lanes.trans h.lanes, h'.widths.trans h.widths⟩

theorem State.ShedsAs.minLanes {s t : State} {p : Part} {n : Nat} (h : s.ShedsAs t p n) : t.minLanes p n = s.minLanes p n := by
  have cfg := congrArg Port.cfg h.still
  replace cfg : (t.port p n).cfg = (s.port p n).cfg := cfg
  rw [State.minLanes, State.minLanes, State.width, State.width, cfg, h.widths]

theorem lockLost_shedsAs (s : State) (p : Part) (n lane : Nat) : s.ShedsAs (s.lockLost p n lane) p n where
  still := congrArg Port.still ((State.Upholds.lockLost ..).port p n)
  lanes := sts_of_upholds (State.Upholds.lockLost ..) (f := FPT_STS_LANES) rfl ..
  widths := by
    have apart {r : Reg} {c : Nat} (q : Part) (hr : r.comp q = .page q c) (hc : c ≠ 0x100) : (s.lockLost p n lane).rd q r = s.rd q r := by
      refine rd_put_of_place (f := laneFld QAD_LANE_LOCK_LOSS_COUNT (s.laneBase p n + lane)) (fun e => ?_) ..
      have lanePage : (laneFld QAD_LANE_LOCK_LOSS_COUNT (s.laneBase p n + lane)).reg.comp q = .page q 0x100 := shift_comp _ _ q (by decide)
      have same : r.comp q = (laneFld QAD_LANE_LOCK_LOSS_COUNT (s.laneBase p n + lane)).reg.comp q := by
        rw [Reg.comp, Reg.comp, regComp, regComp, e]
      rw [hr, lanePage] at same
      exact hc (Comp.page.inj same).2
    exact widths_of_rd (apart .sw (GLB_LAYOUT_comp .sw) (by decide)) (apart .sw (RST_STRAPS_comp .sw) (by decide))
      (apart .ep (EPC_ID_comp .ep) (by decide)) p

theorem thirdFault_shedsAs (s : State) (p : Part) (n : Nat) : s.ShedsAs (s.thirdFault p n) p n := by
  cases p with
  | ep => exact ⟨rfl, rfl, rfl⟩
  | sw =>
    have hf {wt : Comp → Bool} := State_thirdFault_sw_frame (wt := wt) s n
    exact { still := thirdFault_port ..
            lanes := get_congr (f := FPT_STS_LANES) (rd_of_frame hf (FPT_STS_comp .sw) 0 n (by decide))
            widths := widths_of_rd (rd_of_frame hf (GLB_LAYOUT_comp .sw) 0 0 (by decide)) (rd_of_frame hf (RST_STRAPS_comp .sw) 0 0 (by decide))
              (rd_of_frame hf (EPC_ID_comp .ep) 0 0 (by decide)) .sw }

/-- The port with its lane's lock lost, and the herds that a third fault aborts. -/
def State.laneFaulted (s : State) (p : Part) (n lane : Nat) : State :=
  (s.lockLost p n lane).when ((s.lockLost p n lane).port p n).escalate fun s => s.thirdFault p n

theorem laneFaulted_shedsAs (s : State) (p : Part) (n lane : Nat) : s.ShedsAs (s.laneFaulted p n lane) p n := by
  refine (lockLost_shedsAs s p n lane).trans ?_
  unfold State.laneFaulted
  cases ((s.lockLost p n lane).port p n).escalate
  · exact ⟨rfl, rfl, rfl⟩
  · exact thirdFault_shedsAs ..

/-- The port with a shed begun. -/
def State.shedBegun (s : State) (p : Part) (n mask : Nat) : State :=
  (s.put p FPT_STS_SHEDDING 1 0 n).onPort p n fun pt => { pt with shed := some { mask := mask, sent := true }, escalate := false }

/-- Lanes that a port may do without are shed. -/
theorem shedLanes_of_agreed {s : State} {p : Part} {n mask : Nat} {a b : CapMsg} (hsent : (s.port p n).capSent = some a)
    (hgot : (s.port p n).capGot = some b) (ha : a.fShed = true) (hb : b.fShed = true) (hcfg : (s.port p n).cfg.getLsbD 17 = true)
    (hlanes : s.minLanes p n ≤ popCount 16 (s.get p FPT_STS_LANES 0 n &&& (65535 ^^^ mask))) :
    (s.shedBegun p n mask).Upholds (s.shedLanes p n mask) := by
  have enough : decide (s.minLanes p n ≤ popCount 16 (s.get p FPT_STS_LANES 0 n &&& (65535 ^^^ mask))) = true := decide_eq_true hlanes
  simp only [State.shedLanes, hsent, hgot, ha, hb, hcfg, enough, Bool.and_self, if_true]
  exact State.Upholds.emit ..

theorem shedBegun_shed (s : State) (p : Part) (n mask : Nat) : ((s.shedBegun p n mask).port p n).shed = some { mask := mask, sent := true } := by
  rw [State.shedBegun, onPort_port]

theorem shedBegun_flag (s : State) (p : Part) (n mask : Nat) : (s.shedBegun p n mask).flag p FPT_STS_SHEDDING 0 n = true :=
  (flag_congr (f := FPT_STS_SHEDDING) (onPort_rd ..)).trans (congrArg (· != 0) (get_put _ _ FPT_STS_SHEDDING 1 0 n (by decide)))

theorem laneLockLoss_of_up {s : State} {p : Part} {n lane : Nat} (hstage : s.stage p n = 5) (hlane : (s.get p FPT_STS_LANES 0 n).testBit lane = true)
    (hretrain : (s.port p n).retrain = none) (hshed : (s.port p n).shed = none) :
    laneLockLoss p n lane s = (s.laneFaulted p n lane).shedLanes p n (2 ^ lane) := by
  have port : (s.lockLost p n lane).port p n = s.port p n := (State.Upholds.lockLost ..).port ..
  have retrain : ((s.lockLost p n lane).port p n).retrain.isSome = false := by rw [port, hretrain]; rfl
  have shed : ((s.lockLost p n lane).port p n).shed = none := by rw [port, hshed]
  simp only [laneLockLoss, hstage, hlane, beq_self_eq_true, Bool.and_self, if_true, retrain, Bool.false_eq_true, if_false, shed]
  rfl

/-! ### A window passes (R327) -/

theorem foldl_or_of_none {l : List Nat} {f : Nat → Nat → Nat} (h : ∀ m i, f m i = m) (m : Nat) : l.foldl f m = m := by
  induction l generalizing m with
  | nil => rfl
  | cons i l ih => rw [List.foldl_cons, h, ih]

/-- The window of a port begun again, whole windows later. -/
def Port.windowPassed (pt : Port) (later : Nat) : Port := { pt with winCount := [], winOpen := pt.winOpen + later }

theorem shedWindow_quiet {s : State} {p : Part} {n : Nat} (hstage : s.stage p n = 5)
    (hdue : s.due p (s.port p n).winOpen (s.get p FPT_SHED_CFG_WINDOW 0 n) = true) (hcount : (s.port p n).winCount = []) :
    ∃ u, s.Upholds u ∧ s.shedWindow p n = u.onPort p n fun pt => pt.windowPassed
      ((s.now p - (s.port p n).winOpen) / max 1 (s.get p FPT_SHED_CFG_WINDOW 0 n) * s.get p FPT_SHED_CFG_WINDOW 0 n) := by
  have quiet (thr : Nat) : (s.activeLanes p n).foldl (fun m i => if thr < (lookup ([] : SMap Nat) i).getD 0 then m ||| 2 ^ i else m) 0 = 0 :=
    foldl_or_of_none (fun m i => if_neg (Nat.not_lt_zero _)) 0
  unfold State.shedWindow
  simp only [hstage, hdue, hcount, beq_self_eq_true, Bool.and_self, if_true, quiet, Bool.true_or]
  exact ⟨_, State.Upholds.foldl (fun t i => State.Upholds.lanePut (f := QAD_LANE_SYM_CE_WIN_LAST) rfl t p _ _) _ s, rfl⟩

/-! ### The ordered sets of a shed (R337) -/

theorem startRetrain_out (s : State) (p : Part) (n : Nat) (send esc : Bool) : s.out ⊆ (s.startRetrain p n send esc).out := by
  unfold State.startRetrain
  split
  · exact List.Subset.refl _
  · split
    · rw [onPort_out]
      exact List.Subset.refl _
    · extract_lets t u v
      have same : v.out = s.out := (lanesTo_out ..).trans ((put_out ..).trans (onPort_out ..))
      rw [← same]
      exact when_out (fun w => emit_out_subset w _) _ v

theorem replayFrom_out (s : State) (p : Part) (n seq : Nat) : s.out ⊆ (s.replayFrom p n seq).out := by
  unfold State.replayFrom
  extract_lets pt fs t
  clear_value fs
  cases fs with
  | nil => exact List.Subset.refl _
  | cons f fs =>
    dsimp only
    have same (g : Port → Port) : (t.onPort p n g).out = s.out := (onPort_out ..).trans (count_out ..)
    refine List.Subset.trans ?_ (when_out (fun w => startRetrain_out w ..) _ _)
    refine List.Subset.trans ?_ (State.Sends.foldl (fun w f => State.Sends.wire w p n _) _ _).out
    rw [same]
    exact List.Subset.refl _

theorem shedDone_out (s : State) (p : Part) (n : Nat) : s.out ⊆ (s.shedDone p n).out := by
  unfold State.shedDone
  split
  · exact List.Subset.refl _
  · split
    · extract_lets t esc u v w
      have same : v.out = s.out := (count_out ..).trans ((onPort_out ..).trans (put_out ..))
      have logged : v.out ⊆ w.out := event_out ..
      rw [← same]
      split
      · exact List.Subset.trans logged (startRetrain_out ..)
      · exact List.Subset.trans logged (State.Sends.pumpAll ..).out
    · exact List.Subset.refl _

/-- The lanes of a shed gone from the port. -/
def State.lanesGone (s : State) (p : Part) (n : Nat) (sh : Shed) : State :=
  let lanes := s.get p FPT_STS_LANES 0 n &&& (65535 ^^^ sh.mask)
  let s := s.lanesTo p n sh.mask 5
  let s := ((s.put p FPT_STS_LANES lanes 0 n).put p FPT_STS_WIDTH (popCount 16 lanes) 0 n).seedLanes p n
  s.onPort p n fun pt => { pt with shed := some { sh with gone := true } }

theorem lanesGone_out (s : State) (p : Part) (n : Nat) (sh : Shed) : (s.lanesGone p n sh).out = s.out :=
  (onPort_out ..).trans ((onPort_out ..).trans ((put_out ..).trans ((put_out ..).trans (lanesTo_out ..))))

theorem shedGo_of_agreed {s : State} {p : Part} {n : Nat} {sh : Shed} (hshed : (s.port p n).shed = some sh) (hgone : sh.gone = false)
    (hacked : sh.sent = false ∨ sh.acked = true) :
    s.shedGo p n = (((s.lanesGone p n sh).emit (.ordSet p n .shedGo)).replayFrom p n ((sh.partnerLast + 1) % 16384)).shedDone p n := by
  have may : (sh.gone || (sh.sent && !sh.acked)) = false := by obtain h | h := hacked <;> simp [hgone, h]
  simp only [State.shedGo, hshed, may, Bool.false_eq_true, if_false]
  rfl

/-- A port whose shed may go says so, and what it has sent before stays sent. -/
theorem shedGo_sends {s : State} {p : Part} {n : Nat} {sh : Shed} (hshed : (s.port p n).shed = some sh) (hgone : sh.gone = false)
    (hacked : sh.sent = false ∨ sh.acked = true) : Out.ordSet p n .shedGo ∈ (s.shedGo p n).out ∧ s.out ⊆ (s.shedGo p n).out := by
  have grows : ((s.lanesGone p n sh).emit (.ordSet p n .shedGo)).out ⊆ (s.shedGo p n).out := by
    rw [shedGo_of_agreed hshed hgone hacked]
    exact List.Subset.trans (replayFrom_out ..) (shedDone_out ..)
  refine ⟨grows (mem_out_emit ..), List.Subset.trans (List.Subset.trans ?_ (emit_out_subset ..)) grows⟩
  rw [lanesGone_out]
  exact List.Subset.refl _

theorem shedDone_of_waiting {s : State} {p : Part} {n : Nat} {sh : Shed} (hshed : (s.port p n).shed = some sh) (hgone : sh.gone = false) :
    s.shedDone p n = s := by
  simp only [State.shedDone, hshed, hgone, Bool.false_and, Bool.false_eq_true, if_false]

/-! ### A FIFO slips (R456) -/

/-- The slips of a port that count at this tick. -/
def State.slipsNow (s : State) (p : Part) (n : Nat) : List Nat := ((s.port p n).slips.filter fun t => s.now p < t + 175000000) ++ [s.now p]

/-- The port with its slip recorded, and the lanes' locks lost. -/
def State.slipped (s : State) (p : Part) (n : Nat) : State :=
  let t := (s.onPort p n fun pt => { pt with slips := s.slipsNow p n }).event p (pgFpt + n) .fifoSlip (s.slipsNow p n).length
  (t.activeLanes p n).foldl (fun s i => s.lockLost p n i) t

theorem slipped_upholds (s : State) (p : Part) (n : Nat) : (s.onPort p n fun pt => { pt with slips := s.slipsNow p n }).Upholds (s.slipped p n) :=
  (State.Upholds.event ..).trans (State.Upholds.foldl (fun t i => State.Upholds.lockLost t p n i) _ _)

/-- What follows a slip: the third fault of a port, and its loss or its retrain. -/
def State.slipActs (s : State) (p : Part) (n slips : Nat) : State :=
  let s := s.when (s.port p n).escalate fun s => s.thirdFault p n
  if 8 ≤ slips then (s.linkLost p n 6 (some 11)).readyCheck p
  else if (s.port p n).retrain.isSome then s.linkLost p n 1 (some 14) (esc := true)
  else s.startRetrain p n true (s.port p n).shed.isSome

theorem fifoSlip_of_up {s : State} {p : Part} {n : Nat} (hstage : s.stage p n = 5) :
    fifoSlip p n s = (s.slipped p n).slipActs p n (s.slipsNow p n).length := by
  unfold fifoSlip
  rw [if_pos (by rw [hstage]; rfl)]
  rfl

theorem slipsNow_length (s : State) (p : Part) (n : Nat) : (s.slipsNow p n).length ≤ (s.port p n).slips.length + 1 := by
  have kept := List.length_filter_le (fun t => decide (s.now p < t + 175000000)) (s.port p n).slips
  rw [State.slipsNow, List.length_append, List.length_singleton]
  omega

theorem slipActs_of_few {s : State} {p : Part} {n slips : Nat} (hfew : slips < 8) (hretrain : (s.port p n).retrain = none)
    (hesc : (s.port p n).escalate = false) (hshed : (s.port p n).shed = none) : s.slipActs p n slips = s.startRetrain p n true false := by
  have calm : (s.when (s.port p n).escalate fun s => s.thirdFault p n) = s := by rw [hesc]; rfl
  have few : ¬ 8 ≤ slips := by omega
  simp only [State.slipActs, calm, few, if_false, hretrain, hshed, Option.isSome_none, Bool.false_eq_true]

/-! ### The claims of O5 -/

theorem retrainTimeout_of_due {s : State} {p : Part} {n u : Nat} (hretrain : (s.port p n).retrain = some u) (hdue : s.due p u 2625 = true) :
    retrainTimeout p n s = s.linkLost p n 1 (some 10) := by
  simp only [retrainTimeout, hretrain, hdue, if_true]

theorem retrainBitlockTmo_of_due {s : State} {p : Part} {n u : Nat} (hretrain : (s.port p n).retrain = some u) (hdue : s.due p u 1050 = true) :
    retrainBitlockTmo p n s = s.linkLost p n 1 (some 10) := by
  simp only [retrainBitlockTmo, hretrain, hdue, if_true]

theorem signalLoss_of_up {s : State} {p : Part} {n : Nat} (hstage : s.stage p n = 5) :
    signalLoss p n s = (s.when (s.port p n).escalate fun s => s.thirdFault p n).linkLost p n 1 (some 13) := by
  rw [signalLoss, if_pos (by rw [hstage]; rfl)]

theorem shedReceive_of_up {s : State} {p : Part} {n mask last : Nat} (hstage : s.stage p n = 5) (hretrain : (s.port p n).retrain = none)
    (hshed : (s.port p n).shed = none) :
    shedReceive p n mask last s = (((s.put p FPT_STS_SHEDDING 1 0 n).onPort p n fun pt =>
      { pt with shed := some { mask := 0 ||| mask, partnerLast := last } }).emit
        (.ordSet p n (.shedAck (0 ||| mask) (((s.port p n).base + 16383) % 16384)))).shedGo p n := by
  have up : (s.stage p n == 5 && (s.port p n).retrain.isNone) = true := by rw [hstage, hretrain]; rfl
  simp only [shedReceive, up, if_true, hshed, Option.getD_none]

theorem shedAckReceive_of_sent {s : State} {p : Part} {n : Nat} {sh : Shed} (hshed : (s.port p n).shed = some sh) (hsent : sh.sent = true)
    (hacked : sh.acked = false) (mask last : Nat) :
    shedAckReceive p n mask last s = (s.onPort p n fun pt =>
      { pt with shed := some { sh with mask := sh.mask ||| mask, acked := true, partnerLast := last } }).shedGo p n := by
  simp only [shedAckReceive, hshed, hsent, hacked, Bool.not_false, Bool.and_self, if_true]

theorem shedGoReceive_of_shed {s : State} {p : Part} {n : Nat} {sh : Shed} (hshed : (s.port p n).shed = some sh) :
    shedGoReceive p n s = (s.onPort p n fun pt => { pt with shed := some { sh with partnerGone := true } }).shedDone p n := by
  simp only [shedGoReceive, hshed]

theorem patternCheckerLock_of_loopback {s : State} {p : Part} {n lane : Nat} (hstage : s.stage p n = 7) (hlane : lane < s.width p n)
    (hcheck : s.laneGet p (s.laneBase p n + lane) QAD_LANE_PAT_CTL_CHK ≠ 0) :
    patternCheckerLock p n lane s = s.lanePut p (s.laneBase p n + lane) QAD_LANE_PAT_CTL_CHK_LOCK 1 := by
  have checks : (s.laneGet p (s.laneBase p n + lane) QAD_LANE_PAT_CTL_CHK != 0) = true := bne_iff_ne.2 hcheck
  simp only [patternCheckerLock, hstage, hlane, checks, beq_self_eq_true, decide_true, Bool.and_self, if_true]

theorem onPort_now (s : State) (p q : Part) (n : Nat) (f : Port → Port) : (s.onPort p n f).now q = s.now q := by
  cases p <;> cases q <;> rfl

theorem slips_of_retrain {s : State} {p : Part} {n : Nat} (hstage : s.stage p n = 5) (hfew : (s.port p n).slips.length < 7)
    (hflag : s.flag p FPT_STS_RETRAINING 0 n = false) (hretrain : (s.port p n).retrain = none) (hesc : (s.port p n).escalate = false)
    (hshed : (s.port p n).shed = none) :
    s.now p ∈ ((fifoSlip p n s).port p n).slips ∧ ((fifoSlip p n s).port p n).retrain = some (s.now p) := by
  have slip := slipped_upholds s p n
  have port : (s.slipped p n).port p n = { s.port p n with slips := s.slipsNow p n } := (slip.port p n).trans (onPort_port ..)
  have now : (s.slipped p n).now p = s.now p := (slip.now p).trans (onPort_now ..)
  have count := slipsNow_length s p n
  have stage : (s.slipped p n).stage p n = 5 := (stage_of_upholds slip p n).trans ((get_congr (f := FPT_STS_STAGE) (onPort_rd ..)).trans hstage)
  have flag : (s.slipped p n).flag p FPT_STS_RETRAINING 0 n = false :=
    (flag_congr (f := FPT_STS_RETRAINING) (slip.rd _ _ _ _ (FPT_STS_comp p))).trans
      ((flag_congr (f := FPT_STS_RETRAINING) (onPort_rd ..)).trans hflag)
  have shed : ((s.slipped p n).port p n).shed = none := by rw [port]; exact hshed
  have runs := startRetrain_runs stage flag shed true false
  rw [fifoSlip_of_up hstage, slipActs_of_few (by omega) (by rw [port]; exact hretrain) (by rw [port]; exact hesc) shed, runs.port, retrainBegun_port,
    port, now]
  exact ⟨List.mem_append_right _ (List.mem_singleton_self _), rfl⟩

/-- Settles O5: each command is brought to the step that its conditions choose, and what the claims name is written by that step; lanes, events
and the transmitter leave it. -/
theorem linkUpkeepRowsComplete : Obligations.LinkUpkeepRowsComplete := by
  refine ⟨fun p n s hstage hflag hshed => ?begun, fun p n relocked u s hretrain hdue hlanes => ?complete, fun n u s hretrain hdue => ?timeout,
    fun n u s hretrain hdue => ?bitlock, fun n s hstage => ?loss, fun p n s hstage hdue hcount => ?window,
    fun p n lane a b s hstage hlane hretrain hshed hsent hgot ha hb hcfg hlanes => ?lane, fun p n mask last s hstage hretrain hshed => ?shed,
    fun p n mask last sh s hshed hsent hacked hgone => ?ack, fun p n sh s hshed hgone => ?go,
    fun p n s hstage hfew hflag hretrain hesc hshed => ?slip, fun p n lane s hstage hlane hcheck => ?pattern⟩
  case begun =>
    have runs := startRetrain_runs hstage hflag hshed false false
    refine ⟨_, rfl, ?_, (flag_congr (f := FPT_STS_RETRAINING) (runs.rd _ _ _ _ (FPT_STS_comp p))).trans (retrainBegun_flag ..),
      startRetrain_silent hstage hflag hshed false⟩
    exact (congrArg Port.retrain (runs.port p n)).trans (congrArg Port.retrain (retrainBegun_port ..))
  case complete =>
    obtain ⟨v, logged, sent⟩ := retrainComplete_of_enough hretrain hdue hlanes
    have left : s.get p FPT_STS_LANES 0 n &&& relocked < 2 ^ 16 := Nat.lt_of_le_of_lt Nat.and_le_left (get_lt s p FPT_STS_LANES 0 n)
    have retrain := congrArg Port.retrain (sent.port p n)
    refine ⟨_, rfl, retrain.trans ((congrArg Port.retrain (logged.port p n)).trans (relocked_retrain ..)), ?_⟩
    exact (get_congr (f := FPT_STS_LANES) (sent.rd p FPT_STS 0 n (by decide))).trans
      ((sts_of_upholds logged (f := FPT_STS_LANES) rfl p n).trans (relocked_lanes s p n left u))
  case timeout =>
    have down := linkLost_down s n (next := 1) (fault := 10) (by decide) (by decide) false
    exact ⟨_, congrArg Host.Outcome.next (retrainTimeout_of_due hretrain hdue), down.stage, down.lanes, down.replay, down.state⟩
  case bitlock =>
    have down := linkLost_down s n (next := 1) (fault := 10) (by decide) (by decide) false
    exact ⟨_, congrArg Host.Outcome.next (retrainBitlockTmo_of_due hretrain hdue), down.stage, down.lanes, down.replay, down.state⟩
  case loss =>
    have down := linkLost_down (s.when (s.port .sw n).escalate fun s => s.thirdFault .sw n) n (next := 1) (fault := 13) (by decide) (by decide) false
    exact ⟨_, congrArg Host.Outcome.next (signalLoss_of_up hstage), down.stage, down.lanes, down.replay, down.state⟩
  case window =>
    obtain ⟨u, kept, passed⟩ := shedWindow_quiet hstage hdue hcount
    refine ⟨_, congrArg Host.Outcome.next passed, ?_⟩
    simp only [onPort_port, kept.port]
    exact ⟨rfl, rfl, rfl⟩
  case lane =>
    have as := laneFaulted_shedsAs s p n lane
    have field {β : Type} (g : Port → β) (hg : ∀ pt : Port, g pt.still = g pt) : g ((s.laneFaulted p n lane).port p n) = g (s.port p n) := by
      rw [← hg, as.still, hg]
    have sheds := shedLanes_of_agreed (s := s.laneFaulted p n lane) (p := p) (n := n) (mask := 2 ^ lane) ((field Port.capSent fun _ => rfl).trans hsent)
      ((field Port.capGot fun _ => rfl).trans hgot) ha hb ((congrArg (BitVec.getLsbD · 17) (field Port.cfg fun _ => rfl)).trans hcfg)
      (by rw [as.minLanes, as.lanes]; exact hlanes)
    refine ⟨_, congrArg Host.Outcome.next (laneLockLoss_of_up hstage hlane hretrain hshed), ?_,
      (flag_congr (f := FPT_STS_SHEDDING) (sheds.rd _ _ _ _ (FPT_STS_comp p))).trans (shedBegun_flag ..)⟩
    exact (congrArg Port.shed (sheds.port p n)).trans (shedBegun_shed ..)
  case shed =>
    have go := shedGo_sends (s := ((s.put p FPT_STS_SHEDDING 1 0 n).onPort p n fun pt =>
      { pt with shed := some { mask := 0 ||| mask, partnerLast := last } }).emit
        (.ordSet p n (.shedAck (0 ||| mask) (((s.port p n).base + 16383) % 16384)))) (p := p) (n := n) (sh := { mask := 0 ||| mask, partnerLast := last })
      (congrArg Port.shed (((State.Upholds.emit ..).port p n).trans (onPort_port ..))) rfl (.inl rfl)
    refine ⟨_, congrArg Host.Outcome.next (shedReceive_of_up hstage hretrain hshed), go.2 ?_, go.1⟩
    rw [Nat.zero_or]
    exact mem_out_emit ..
  case ack =>
    exact ⟨_, congrArg Host.Outcome.next (shedAckReceive_of_sent hshed hsent hacked mask last),
      (shedGo_sends (sh := { sh with mask := sh.mask ||| mask, acked := true, partnerLast := last }) (congrArg Port.shed (onPort_port ..)) hgone (.inr rfl)).1⟩
  case go =>
    have shed : ((s.onPort p n fun pt => { pt with shed := some { sh with partnerGone := true } }).port p n).shed
      = some { sh with partnerGone := true } := by rw [onPort_port]
    refine ⟨_, congrArg Host.Outcome.next (shedGoReceive_of_shed hshed), ?_⟩
    simp only [shedDone_of_waiting shed hgone, shed]
  case slip => exact ⟨_, rfl, slips_of_retrain hstage hfew hflag hretrain hesc hshed⟩
  case pattern =>
    exact ⟨_, congrArg Host.Outcome.next (patternCheckerLock_of_loopback hstage hlane hcheck),
      get_put _ _ (laneFld QAD_LANE_PAT_CTL_CHK_LOCK _) _ _ _ (show (5 : Nat) ≤ 64 by decide)⟩

end Sys2Proof.Machine
end

section
/-! Rails, the release of reset and start-up (R469, R479, R487, R488, R490, R518, R521): what O1 says of them. -/

namespace Sys2Proof.Machine

/-! ### What stores and events leave of a part's half -/

theorem put_rest (s : State) (p q : Part) (f : Fld) (v b i : Nat) : ((s.put p f v b i).chip q).rest = (s.chip q).rest := by
  cases p <;> cases q <;> rfl

theorem event_rest (s : State) (p : Part) (page d0 d1 status reason : Nat) (e : Err) (sev rung : Option Nat) (esc : Bool) :
    ((s.event p page e d0 d1 sev rung esc status reason).chip p).rest = (s.chip p).rest := by
  cases p with
  | sw => exact sameIn_of_frame (State_event_sw_frame s page e d0 d1 sev rung esc status reason) (.chip .sw) (by decide)
  | ep => exact sameIn_of_frame (State_event_ep_frame s page e d0 d1 sev rung esc status reason) (.chip .ep) (by decide)

/-- Parts whose halves agree but for registers, clock, log, ports and sync objects agree in what bring-up reads. -/
theorem inReset_of_rest {a b : Chip} (h : a.rest = b.rest) : a.inReset = b.inReset :=
  show a.rest.inReset = b.rest.inReset from congrArg Chip.inReset h

theorem rstLow_of_rest {a b : Chip} (h : a.rest = b.rest) : a.rstLow = b.rstLow :=
  show a.rest.rstLow = b.rest.rstLow from congrArg Chip.rstLow h

theorem mainUp_of_rest {a b : Chip} (h : a.rest = b.rest) : a.mainUp = b.mainUp :=
  show a.rest.mainUp = b.rest.mainUp from congrArg Chip.mainUp h

theorem tripLow_of_rest {a b : Chip} (h : a.rest = b.rest) : a.tripLow = b.tripLow :=
  show a.rest.tripLow = b.rest.tripLow from congrArg Chip.tripLow h

theorem standbyUp_of_rest {a b : Chip} (h : a.rest = b.rest) : a.standbyUp = b.standbyUp :=
  show a.rest.standbyUp = b.rest.standbyUp from congrArg Chip.standbyUp h

theorem step_of_rest {a b : Chip} (h : a.rest = b.rest) : a.step = b.step :=
  show a.rest.step = b.rest.step from congrArg Chip.step h

/-- An event leaves GLB.STS of its part. -/
theorem event_glbSts (s : State) (p : Part) (page d0 d1 status reason : Nat) (e : Err) (sev rung : Option Nat) (esc : Bool) (b i : Nat) :
    (s.event p page e d0 d1 sev rung esc status reason).rd p GLB_STS b i = s.rd p GLB_STS b i := by
  cases p with
  | sw => exact rd_of_frame (State_event_sw_frame s page e d0 d1 sev rung esc status reason) (GLB_STS_comp .sw) b i (by decide)
  | ep => exact rd_of_frame (State_event_ep_frame s page e d0 d1 sev rung esc status reason) (GLB_STS_comp .ep) b i (by decide)

/-! ### An event alerts the side-band controller and leaves SBP.STS (R453) -/

theorem alertSideband_sbpSts (s : State) (page b i : Nat) : (s.alertSideband page).rd .sw SBP_STS b i = s.rd .sw SBP_STS b i := by
  have raised : ((s.put .sw SBP_ALERT_PAGE page).put .sw SBP_ALERT_PENDING 1).rd .sw SBP_STS b i = s.rd .sw SBP_STS b i :=
    (rd_put_of_place (f := SBP_ALERT_PENDING) (by decide) ..).trans (rd_put_of_place (f := SBP_ALERT_PAGE) (by decide) ..)
  unfold State.alertSideband
  extract_lets t
  split
  · rfl
  · split
    · split
      · exact (emit_rd ..).trans raised
      · exact raised
    · split
      · exact (emit_rd ..).trans raised
      · exact raised

theorem deliver_sbpSts (s : State) (page b i : Nat) : (s.deliver .sw page).rd .sw SBP_STS b i = s.rd .sw SBP_STS b i :=
  (when_leaves (part := (·.rd .sw SBP_STS b i)) (fun t => alertSideband_sbpSts t page b i) _ _).trans
    (when_leaves (part := (·.rd .sw SBP_STS b i)) (fun t => emit_rd t _ .sw SBP_STS b i) _ s)

theorem cause_sbpSts (s : State) (page bit b i : Nat) : (s.cause .sw page bit).rd .sw SBP_STS b i = s.rd .sw SBP_STS b i :=
  (when_leaves (part := (·.rd .sw SBP_STS b i)) (fun t => deliver_sbpSts t page b i) _ _).trans (rd_wr_of_place (by decide) ..)

theorem logRec_sbpSts (s : State) (r : ErrRec) (b i : Nat) : (s.logRec .sw r).rd .sw SBP_STS b i = s.rd .sw SBP_STS b i := by
  have logged (l : List ErrRec) : (s.onChip .sw fun c => { c with log := l }).rd .sw SBP_STS b i = s.rd .sw SBP_STS b i := rfl
  unfold State.logRec
  extract_lets l t kept
  have stored : t.rd .sw SBP_STS b i = s.rd .sw SBP_STS b i := by
    unfold t
    split
    · exact logged _
    · split
      · exact (cause_sbpSts ..).trans (rd_put_of_place (f := ERR_LOG_STS_DROPS) (by decide) ..)
      · exact logged _
  split
  · exact (cause_sbpSts ..).trans stored
  · exact stored

theorem event_sbpSts (s : State) (page d0 d1 status reason : Nat) (e : Err) (sev rung : Option Nat) (esc : Bool) (b i : Nat) :
    (s.event .sw page e d0 d1 sev rung esc status reason).rd .sw SBP_STS b i = s.rd .sw SBP_STS b i := by
  have noted : (s.note .sw page e.code).rd .sw SBP_STS b i = s.rd .sw SBP_STS b i :=
    rd_of_frame (State_note_sw_frame s page e.code) (SBP_STS_comp .sw) b i (by decide)
  unfold State.event
  extract_lets v r t
  split
  · exact noted
  · exact (logRec_sbpSts ..).trans noted

/-! ### The rails (R469, R479, R518, R521) -/

/-- The value that the samples of SB_ADDR give. -/
def strapAddr (samples : List Nat) : Nat := if allAgree samples then samples.headD 0 % 8 else 0

/-- The switch with its standby rail up and its address taken from the samples. -/
def State.addressed (s : State) (samples : List Nat) : State :=
  ((s.onChip .sw fun c => { c with standbyUp := true }).put .sw RST_STRAPS_SB_ADDR (strapAddr samples)).put .sw SBP_STS_STATIC_ADDR
    (0x58 + strapAddr samples)

theorem standbyPowerOn_sw {s : State} (h : s.swc.standbyUp = false) (samples : List Nat) : standbyPowerOn .sw samples s
    = if allAgree samples then s.addressed samples else (s.addressed samples).event .sw pgSbp .strapFault (packSamples samples) := by
  rw [standbyPowerOn, if_neg (by exact Bool.eq_false_iff.1 h)]
  rfl

theorem standbyPowerOn_up {p : Part} {s : State} (h : (s.chip p).standbyUp = false) (samples : List Nat) :
    ((standbyPowerOn p samples s).chip p).standbyUp = true := by
  cases p with
  | ep =>
    rw [standbyPowerOn, if_neg (by exact Bool.eq_false_iff.1 h)]
    rfl
  | sw =>
    rw [standbyPowerOn_sw h]
    split
    · rfl
    · exact standbyUp_of_rest (event_rest ..)

theorem strapAddr_lt (samples : List Nat) : strapAddr samples < 8 := by
  unfold strapAddr
  split
  · exact Nat.mod_lt _ (by decide)
  · decide

theorem standbyPowerOn_straps {s : State} (h : s.swc.standbyUp = false) (samples : List Nat) :
    (standbyPowerOn .sw samples s).get .sw RST_STRAPS_SB_ADDR = strapAddr samples
    ∧ (standbyPowerOn .sw samples s).get .sw SBP_STS_STATIC_ADDR = 0x58 + strapAddr samples := by
  have small := strapAddr_lt samples
  have addr : (s.addressed samples).get .sw RST_STRAPS_SB_ADDR = strapAddr samples :=
    (get_congr (f := RST_STRAPS_SB_ADDR) (rd_put_of_place (f := SBP_STS_STATIC_ADDR) (by decide) ..)).trans
      ((get_put _ _ RST_STRAPS_SB_ADDR _ _ _ (by decide)).trans (Nat.mod_eq_of_lt small))
  have static : (s.addressed samples).get .sw SBP_STS_STATIC_ADDR = 0x58 + strapAddr samples :=
    (get_put _ _ SBP_STS_STATIC_ADDR _ _ _ (by decide)).trans (Nat.mod_eq_of_lt (show 0x58 + strapAddr samples < 128 by omega))
  rw [standbyPowerOn_sw h]
  split
  · exact ⟨addr, static⟩
  · exact ⟨(get_congr (f := RST_STRAPS_SB_ADDR) (event_rd (RST_STRAPS_comp .sw) (by decide) (by decide) ..)).trans addr,
      (get_congr (f := SBP_STS_STATIC_ADDR) (event_sbpSts ..)).trans static⟩

theorem fixedRegs_ident (s : State) (p : Part) : (s.fixedRegs p).read GLB_ID 0 0 = (s.chip p).regs.read GLB_ID 0 0 := by
  rw [State.fixedRegs, read_write, if_neg (by decide), read_write, if_pos rfl]

theorem standbyPowerOff_down {p : Part} {s : State} (hmain : (s.chip p).mainUp = false) (hstandby : (s.chip p).standbyUp = true) :
    ((standbyPowerOff p s).chip p).standbyUp = false ∧ ((standbyPowerOff p s).chip p).log = []
    ∧ (standbyPowerOff p s).rd p GLB_ID = s.rd p GLB_ID := by
  have result : standbyPowerOff p s = s.onChip p fun c => { c with standbyUp := false, regs := s.fixedRegs p, log := [], tripLow := false } := by
    simp [standbyPowerOff, hmain, hstandby]
  simp only [result, State.rd, onChip_chip]
  exact ⟨trivial, trivial, fixedRegs_ident s p⟩

theorem when_put_rest (s : State) (c : Bool) (p q : Part) (f : Fld) (v : State → Nat) :
    ((s.when c fun s => s.put p f (v s)).chip q).rest = (s.chip q).rest :=
  when_leaves (part := fun t => (t.chip q).rest) (fun t => put_rest t p q f (v t) 0 0) c s

theorem mainRailsLost_down {p : Part} {s : State} (h : (s.chip p).mainUp = true) :
    ((mainRailsLost p s).chip p).mainUp = false ∧ ((mainRailsLost p s).chip p).inReset = true ∧ ((mainRailsLost p s).chip p).ports = [] := by
  let t := (s.onChip p fun c => { c with mainUp := false }).stopMain p
  have result : mainRailsLost p s = t.when (p == .sw) fun s => s.put .sw SBP_STS_MAIN_UP 0 := by simp [mainRailsLost, h, t]
  have ports : (t.chip p).ports = [] := by cases p <;> rfl
  have main : (t.chip p).mainUp = false := by cases p <;> rfl
  have held : (t.chip p).inReset = true := stopMain_inReset ..
  have rest := when_put_rest t (p == .sw) .sw p SBP_STS_MAIN_UP fun _ => 0
  rw [result]
  exact ⟨(mainUp_of_rest rest).trans main, (inReset_of_rest rest).trans held,
    (when_leaves (part := fun u => (u.chip p).ports) (fun u => put_chip_ports u .sw p SBP_STS_MAIN_UP 0 0 0) _ t).trans ports⟩

/-- What a cold reset sets of its part's half (R487). -/
theorem coldReset_sets (s : State) (p : Part) : ((s.coldReset p).chip p).inReset = true ∧ ((s.coldReset p).chip p).ltc = 0
    ∧ ((s.coldReset p).chip p).log = [] ∧ ((s.coldReset p).chip p).step = firstStep p := by
  cases p <;> exact ⟨rfl, rfl, rfl, rfl⟩

/-- A part's half after a reset. -/
theorem resetChip_chip (s : State) (p : Part) (regs : RegFile) (cold held : Bool) (n : Nat) : ((s.resetChip p regs cold held n).resetHidden p cold).chip p
    = { s.chip p with regs := regs, ltc := if cold then 0 else (s.chip p).ltc, log := if cold then [] else (s.chip p).log, ports := [], pageResets := [],
                      sync := {}, spdm := [], idSeed := [], cdi1 := [], holdover := none, inReset := held, step := n, startHeld := false } := by
  cases p <;> rfl

/-- The rails and the levels of the pins outlive a cold reset. -/
theorem coldReset_leaves (s : State) (p : Part) : ((s.coldReset p).chip p).mainUp = (s.chip p).mainUp
    ∧ ((s.coldReset p).chip p).rstLow = (s.chip p).rstLow ∧ ((s.coldReset p).chip p).tripLow = (s.chip p).tripLow := by
  let u := s.emit (.silence p)
  have kept : u.chip p = s.chip p := by cases p <;> rfl
  have rest := when_put_rest ((u.resetChip p (u.coldRegs p) true true (firstStep p)).resetHidden p true) (p == .sw) .sw p SBP_STS_MAIN_UP
    fun t => b2n t.swc.mainUp
  rw [resetChip_chip, kept] at rest
  exact ⟨(mainUp_of_rest rest).trans rfl, (rstLow_of_rest rest).trans rfl, (tripLow_of_rest rest).trans rfl⟩

theorem mainRailsOn_up {p : Part} {s : State} (hmain : (s.chip p).mainUp = false) (hstandby : (s.chip p).standbyUp = true) :
    ((mainRailsOn p s).chip p).mainUp = true ∧ ((mainRailsOn p s).chip p).rstLow = true ∧ ((mainRailsOn p s).chip p).inReset = true
    ∧ ((mainRailsOn p s).chip p).tripLow = false ∧ ((mainRailsOn p s).chip p).ltc = 0 := by
  let u := s.onChip p fun c => { c with mainUp := true, rstLow := true }
  let t := u.when (u.chip p).tripLow fun s => (s.onChip p fun c => { c with tripLow := false }).emit (.thermTrip p false)
  have result : mainRailsOn p s = t.coldReset p := by simp [mainRailsOn, hmain, hstandby, t, u]
  have risen : (u.chip p).mainUp = true ∧ (u.chip p).rstLow = true := by simp [u, onChip_chip]
  obtain ⟨hup, hlow⟩ := risen
  have released : (t.chip p).mainUp = true ∧ (t.chip p).rstLow = true ∧ (t.chip p).tripLow = false := by
    simp only [t, State.when]
    split
    · have kept : ∀ v : State, ((v.onChip p fun c => { c with tripLow := false }).emit (.thermTrip p false)).chip p = { v.chip p with tripLow := false } := by
        intro v; cases p <;> rfl
      rw [kept]
      exact ⟨hup, hlow, rfl⟩
    next still => exact ⟨hup, hlow, Bool.eq_false_iff.2 still⟩
  obtain ⟨main, low, trip⟩ := released
  obtain ⟨held, ltc, -, -⟩ := coldReset_sets t p
  obtain ⟨keptMain, keptLow, keptTrip⟩ := coldReset_leaves t p
  rw [result]
  exact ⟨keptMain.trans main, keptLow.trans low, held, keptTrip.trans trip, ltc⟩

/-! ### The release of reset (R488, R490, R517 to R519) -/

/-- The straps taken where the samples agree or not: the state that `begin` leaves but for the record of a strap fault. -/
theorem begin_sw (s : State) (samples : List Nat) :
    ∃ u : State, u.swc.rest = ({ s.swc with inReset := false, startHeld := false } : Chip).rest ∧ u.flag .sw GLB_STS_MAIN_UP = true
      ∧ u.get .sw RST_STRAPS_ROLE = (if allAgree samples then samples.headD 0 % 8 % 4 else 0)
      ∧ s.begin .sw samples = if allAgree samples then u else u.event .sw pgRst .strapFault (packSamples samples) := by
  let t := s.onChip .sw fun c => { c with inReset := false, startHeld := false }
  let v := samples.headD 0 % 8
  let clocked := ((t.put .sw GLB_STS_MAIN_UP 1).put .sw CLK_STS_REF_PRESENT 1).put .sw CLK_STS_PLL_LOCK 1
  let role := if allAgree samples then v % 4 else 0
  let plane := if allAgree samples then v / 4 else 0
  let u := (clocked.put .sw RST_STRAPS_ROLE role).put .sw RST_STRAPS_PLANE_SEL plane
  have up : clocked.flag .sw GLB_STS_MAIN_UP = true :=
    (flag_congr (f := GLB_STS_MAIN_UP) ((rd_put_of_place (f := CLK_STS_PLL_LOCK) (by decide) ..).trans
      (rd_put_of_place (f := CLK_STS_REF_PRESENT) (by decide) ..))).trans (flag_put_bool t .sw (by decide) (by decide) true)
  have small : role < 4 := by unfold role; split <;> omega
  refine ⟨u, rfl, ?_, ?_, rfl⟩
  · exact (flag_congr (f := GLB_STS_MAIN_UP) ((rd_put_of_place (f := RST_STRAPS_PLANE_SEL) (by decide) ..).trans
      (rd_put_of_place (f := RST_STRAPS_ROLE) (by decide) ..))).trans up
  · exact (get_put_beside (f := RST_STRAPS_PLANE_SEL) (g := RST_STRAPS_ROLE) rfl (.inl (by decide)) ..).trans
      ((get_put _ _ RST_STRAPS_ROLE _ _ _ (by decide)).trans (Nat.mod_eq_of_lt small))

theorem begin_ep (s : State) (samples : List Nat) :
    ∃ u : State, u.epc.rest = ({ s.epc with inReset := false, startHeld := false } : Chip).rest ∧ u.flag .ep GLB_STS_MAIN_UP = true
      ∧ (s.begin .ep samples = u ∨ ∃ v, s.begin .ep samples = u.event .ep pgGlb .strapFault v) := by
  let t := s.onChip .ep fun c => { c with inReset := false, startHeld := false }
  let v := if allAgree samples then samples.headD 0 % 8 else 7
  let u := (((t.put .ep GLB_STS_MAIN_UP 1).put .ep CLK_STS_REF_PRESENT 1).put .ep CLK_STS_PLL_LOCK 1).put .ep EPC_ID_LINK_MODE v
  have up : u.flag .ep GLB_STS_MAIN_UP = true :=
    (flag_congr (f := GLB_STS_MAIN_UP) ((rd_put_of_place (f := EPC_ID_LINK_MODE) (by decide) ..).trans
      ((rd_put_of_place (f := CLK_STS_PLL_LOCK) (by decide) ..).trans (rd_put_of_place (f := CLK_STS_REF_PRESENT) (by decide) ..)))).trans
      (flag_put_bool t .ep (by decide) (by decide) true)
  have result : s.begin .ep samples = if v == 7 then (u.put .ep GLB_STS_STRAP_FAULT 1).event .ep pgGlb .strapFault v else u := rfl
  rw [result]
  split
  · refine ⟨u.put .ep GLB_STS_STRAP_FAULT 1, rfl, ?_, .inr ⟨v, rfl⟩⟩
    have beside := get_put_beside (f := GLB_STS_STRAP_FAULT) (g := GLB_STS_MAIN_UP) rfl (.inr (by decide)) u .ep .ep 1 0 0 0 0
    rw [State.flag, beside]
    exact up
  · exact ⟨u, rfl, up, .inl rfl⟩

theorem begin_started (s : State) (p : Part) (samples : List Nat) :
    ((s.begin p samples).chip p).rest = ({ s.chip p with inReset := false, startHeld := false } : Chip).rest
    ∧ (s.begin p samples).flag p GLB_STS_MAIN_UP = true := by
  cases p with
  | sw =>
    obtain ⟨u, rest, up, -, result⟩ := begin_sw s samples
    rw [result]
    split
    · exact ⟨rest, up⟩
    · exact ⟨(event_rest ..).trans rest, (flag_congr (f := GLB_STS_MAIN_UP) (event_glbSts ..)).trans up⟩
  | ep =>
    obtain ⟨u, rest, up, result | ⟨v, result⟩⟩ := begin_ep s samples
    · rw [result]; exact ⟨rest, up⟩
    · rw [result]
      exact ⟨(event_rest ..).trans rest, (flag_congr (f := GLB_STS_MAIN_UP) (event_glbSts ..)).trans up⟩

theorem resetRelease_begins {p : Part} {s : State} (hmain : (s.chip p).mainUp = true) (hreset : (s.chip p).inReset = true)
    (htrip : (s.chip p).tripLow = false) (htap : (s.chip p).tap.drives = false) (samples : List Nat) :
    resetRelease p samples s = (s.onChip p fun c => { c with rstLow := false }).begin p samples := by
  simp [resetRelease, hmain, hreset, htrip, htap]

/-! ### The steps of start-up (R488, R490) -/

theorem toStep_chip (s : State) (p : Part) (n : Nat) : ((s.toStep p n).chip p).step = n := by cases p <;> rfl

theorem toStep_shown (s : State) {n : Nat} (h : n < 16) : (s.toStep .sw n).get .sw RST_STS_STEP = n :=
  (get_put (s.onChip .sw fun c => { c with step := n }) .sw RST_STS_STEP n 0 0 (by decide)).trans (Nat.mod_eq_of_lt h)

theorem startupStepDone_three {s : State} (hreset : s.swc.inReset = false) (h : s.swc.step = 3) (bad : List Nat) (imageOk : Bool) :
    (startupStepDone bad imageOk s).swc.step = 4 := by
  let t := s.toStep .sw 4
  let u := t.when (t.flag .sw PWR_STS_THERM_ALERT) fun u => u.onCore fun c => { c with thermFrom := some (s.now .sw) }
  have result : startupStepDone bad imageOk s = u.judgeDemand 0 := by simp [startupStepDone, hreset, h, u, t]
  have judged : (u.judgeDemand 0).swc.rest = u.swc.rest := sameIn_of_frame (State_judgeDemand_frame u 0) (.chip .sw) (by decide)
  have dated : u.swc = t.swc :=
    when_leaves (part := (·.swc)) (f := fun u => u.onCore fun c => { c with thermFrom := some (s.now .sw) }) (fun _ => rfl) _ t
  rw [result]
  exact (step_of_rest judged).trans ((congrArg Chip.step dated).trans (toStep_chip s .sw 4))

theorem startupStepDone_four {s : State} (hreset : s.swc.inReset = false) (h : s.swc.step = 4) (bad : List Nat) (imageOk : Bool) :
    ∃ t : State, startupStepDone bad imageOk s = t.toStep .sw 5 := by
  simp only [startupStepDone, hreset, h, Bool.false_eq_true, if_false]
  exact ⟨_, rfl⟩

theorem startupStepDone_eight {s : State} (hreset : s.swc.inReset = false) (h : s.swc.step = 8) (bad : List Nat) (imageOk : Bool) :
    startupStepDone bad imageOk s = (s.trainHbm bad).toStep .sw 9 := by
  simp [startupStepDone, hreset, h]

theorem endpointStartupStepDone_one {s : State} (hreset : s.epc.inReset = false) (h : s.epc.step = 1) (modules : Nat) :
    endpointStartupStepDone modules s = s.toStep .ep 2 := by
  simp [endpointStartupStepDone, hreset, h]

end Sys2Proof.Machine

end

section
/-! The resets of the switch and the warm reset of the endpoint (R487, R492, R493, R519): what O1 says of them. -/

namespace Sys2Proof.Machine

theorem rstNPulse_resets {p : Part} {ns : Nat} {s : State} (hns : 1000 ≤ ns) (hmain : (s.chip p).mainUp = true) :
    rstNPulse p ns s = (s.onChip p fun c => { c with rstLow := true }).coldReset p := by
  simp [rstNPulse, hmain, Nat.not_lt.2 hns]

theorem rstCold_resets {s : State} (hopen : s.writeOpen .sideband .sw pgRst 0x40 = true) :
    rstCold .sideband s = (s.coldReset .sw).regDone .sw .sideband stOK := writeBy_of_open hopen _

/-! ### The warm reset of the switch -/

/-- What a warm reset of the switch shows in its registers. -/
def State.warmShown (s : State) (cause : Nat) : State :=
  let s := (s.put .sw RST_CAUSE_LAST cause).count .sw RST_CAUSE_WARM_COUNT
  let s := s.put .sw RST_STS_LAST_LEVEL 1
  let s := (s.put .sw GLB_SWITCH_GROUP_ACTIVE (s.get .sw GLB_SWITCH_GROUP_GROUP)).put .sw GLB_SWITCH_GROUP_PENDING 0
  let s := (s.put .sw GLB_LAYOUT_ACTIVE_X4 (s.get .sw GLB_LAYOUT_X4)).put .sw GLB_LAYOUT_PENDING 0
  (s.put .sw GLB_STS_MAIN_UP 1).put .sw SBP_STS_FW_UP 0

/-- The switch cleared and at step 4. -/
def State.warmCleared (s : State) : State := ((s.resetChip .sw (s.warmRegs .sw) false false 4).resetHidden .sw false).toStep .sw 4

theorem warmReset_sw (s : State) (cause : Nat) :
    s.warmReset .sw cause = (((((s.emit (.silence .sw)).hostDown 0).warmCleared).warmShown cause).judgeDemand 0) := rfl

theorem warmShown_rest (s : State) (cause : Nat) : (s.warmShown cause).swc.rest = s.swc.rest := by
  simp only [State.warmShown, State.count]
  repeat rw [show ∀ t : State, t.swc = t.chip .sw from fun _ => rfl]
  simp only [put_rest]

theorem warmShown_ports (s : State) (cause : Nat) : (s.warmShown cause).swc.ports = s.swc.ports := rfl

theorem warmShown_ltc (s : State) (cause : Nat) : (s.warmShown cause).swc.ltc = s.swc.ltc := rfl

theorem warmShown_cause (s : State) {cause : Nat} (h : cause < 8) : (s.warmShown cause).get .sw RST_CAUSE_LAST = cause := by
  have apart {f : Fld} (hf : RST_CAUSE.key 0 0 % 2 ^ 24 ≠ f.reg.key 0 0 % 2 ^ 24) (t : State) (v : Nat) :
      (t.put .sw f v).get .sw RST_CAUSE_LAST = t.get .sw RST_CAUSE_LAST :=
    get_congr (f := RST_CAUSE_LAST) (rd_put_of_place hf ..)
  unfold State.warmShown
  rw [apart (by decide), apart (by decide), apart (by decide), apart (by decide), apart (by decide), apart (by decide), apart (by decide)]
  exact (get_put_beside (f := RST_CAUSE_WARM_COUNT) (g := RST_CAUSE_LAST) rfl (.inl (by decide)) ..).trans
    ((get_put _ _ RST_CAUSE_LAST _ _ _ (by decide)).trans (Nat.mod_eq_of_lt h))

theorem warmCleared_chip (s : State) : s.warmCleared.swc.inReset = false ∧ s.warmCleared.swc.step = 4 ∧ s.warmCleared.swc.ports = []
    ∧ s.warmCleared.swc.ltc = s.swc.ltc := ⟨rfl, rfl, rfl, rfl⟩

theorem warmReset_sw_holds (s : State) {cause : Nat} (h : cause < 8) :
    (s.warmReset .sw cause).swc.inReset = false ∧ (s.warmReset .sw cause).swc.step = 4 ∧ (s.warmReset .sw cause).swc.ports = []
    ∧ (s.warmReset .sw cause).swc.ltc = s.swc.ltc ∧ (s.warmReset .sw cause).get .sw RST_CAUSE_LAST = cause := by
  let quiet := s.emit (.silence .sw)
  let u := (quiet.hostDown 0).warmCleared
  obtain ⟨awake, step, ports, ltc⟩ := warmCleared_chip (quiet.hostDown 0)
  have host : (quiet.hostDown 0).swc.ltc = quiet.swc.ltc := sameIn_of_frame (State_hostDown_frame quiet 0) (.ltc .sw) (by decide)
  have judged (c : Comp) := sameIn_of_frame (State_judgeDemand_frame (u.warmShown cause) 0) c
  have rest : ((u.warmShown cause).judgeDemand 0).swc.rest = u.swc.rest := (judged (.chip .sw) (by decide)).trans (warmShown_rest u cause)
  rw [warmReset_sw]
  refine ⟨(inReset_of_rest rest).trans awake, (step_of_rest rest).trans step, ?_, ?_, ?_⟩
  · exact (judged (.ports .sw) (by decide)).trans ((warmShown_ports u cause).trans ports)
  · exact (judged (.ltc .sw) (by decide)).trans ((warmShown_ltc u cause).trans (ltc.trans host))
  · exact (get_congr (f := RST_CAUSE_LAST) (rd_of_frame (State_judgeDemand_frame (u.warmShown cause) 0) (RST_CAUSE_comp .sw) 0 0 (by decide))).trans
      (warmShown_cause u h)

theorem rstWarm_resets {s : State} {path : Path} (hopen : s.writeOpen path .sw pgRst 0x40 = true) (hreset : s.swc.inReset = false) :
    rstWarm path s = ((s.event .sw pgRst .switchReset 4 0 (rung := some 7)).warmReset .sw 4).regDone .sw path stOK := by
  rw [rstWarm, writeBy_of_open hopen, State.rstWarmW, State.toL7, if_neg (by exact Bool.eq_false_iff.1 hreset)]
  rfl

/-! ### The fabric reset of the switch -/

/-- What a fabric reset of the switch shows in its registers. -/
def State.fabricShown (s : State) : State :=
  let s := ((s.put .sw RST_STS_FABRIC_READY 0).put .sw RST_STS_READY_TICK 0).put .sw RST_STS_LAST_LEVEL 2
  if 10 ≤ s.swc.step then s.toStep .sw 10 else s

theorem fabricReset_sw {s : State} (h : s.swc.inReset = false) : ∃ u : State, s.fabricReset .sw = u.fabricShown.tackAll := by
  rw [State.fabricReset, if_neg (by exact Bool.eq_false_iff.1 h)]
  exact ⟨_, rfl⟩

theorem fabricShown_holds (s : State) : s.fabricShown.get .sw RST_STS_LAST_LEVEL = 2 ∧ s.fabricShown.flag .sw RST_STS_FABRIC_READY = false := by
  let t := ((s.put .sw RST_STS_FABRIC_READY 0).put .sw RST_STS_READY_TICK 0).put .sw RST_STS_LAST_LEVEL 2
  have level : t.get .sw RST_STS_LAST_LEVEL = 2 := get_put _ _ RST_STS_LAST_LEVEL _ _ _ (by decide)
  have ready : t.get .sw RST_STS_FABRIC_READY = 0 :=
    (get_put_beside (f := RST_STS_LAST_LEVEL) (g := RST_STS_FABRIC_READY) rfl (.inl (by decide)) ..).trans
      ((get_put_beside (f := RST_STS_READY_TICK) (g := RST_STS_FABRIC_READY) rfl (.inl (by decide)) ..).trans
        (get_put s .sw RST_STS_FABRIC_READY 0 0 0 (by decide)))
  have stepped {g : Fld} (hr : RST_STS = g.reg) (hg : g.lo + g.w ≤ 0 ∨ 4 ≤ g.lo) : (t.toStep .sw 10).get .sw g = t.get .sw g :=
    get_put_beside (f := RST_STS_STEP) hr hg (t.onChip .sw fun c => { c with step := 10 }) .sw .sw 10 0 0 0 0
  have result : s.fabricShown = if 10 ≤ t.swc.step then t.toStep .sw 10 else t := rfl
  rw [result]
  split
  · exact ⟨(stepped rfl (.inr (by decide))).trans level, by rw [State.flag, stepped (g := RST_STS_FABRIC_READY) rfl (.inr (by decide)), ready]; rfl⟩
  · exact ⟨level, by rw [State.flag, ready]; rfl⟩

theorem fabricReset_sw_holds {s : State} (h : s.swc.inReset = false) :
    (s.fabricReset .sw).get .sw RST_STS_LAST_LEVEL = 2 ∧ (s.fabricReset .sw).flag .sw RST_STS_FABRIC_READY = false := by
  obtain ⟨u, result⟩ := fabricReset_sw h
  obtain ⟨level, ready⟩ := fabricShown_holds u
  have tacked : u.fabricShown.tackAll.rd .sw RST_STS 0 0 = u.fabricShown.rd .sw RST_STS 0 0 :=
    rd_of_frame (State_tackAll_frame u.fabricShown) (RST_STS_comp .sw) 0 0 (by decide)
  rw [result]
  exact ⟨(get_congr (f := RST_STS_LAST_LEVEL) tacked).trans level, (flag_congr (f := RST_STS_FABRIC_READY) tacked).trans ready⟩

/-! ### The warm reset of the endpoint -/

theorem warmReset_ep_holds (s : State) (cause : Nat) : (s.warmReset .ep cause).epc.step = 2 ∧ (s.warmReset .ep cause).epc.ports = []
    ∧ (s.warmReset .ep cause).flag .ep GLB_STS_MAIN_UP = true :=
  ⟨rfl, rfl, flag_put_bool _ .ep (f := GLB_STS_MAIN_UP) (by decide) (by decide) true⟩

theorem epRstWarm_resets {s : State} {path : Path} (hopen : s.writeOpen path .ep pgPwr 0x80 = true) (hreset : s.epc.inReset = false) :
    epRstWarm path s = (s.warmReset .ep 0).regDone .ep path stOK := by
  rw [epRstWarm, writeBy_of_open hopen, State.epWarmW, if_neg (by exact Bool.eq_false_iff.1 hreset)]
  rfl

end Sys2Proof.Machine

end

section
/-! The identity of the endpoint outlasts the accesses that move, and a fabric reset releases its node ID (R487): what O1 says of it. -/

namespace Sys2Proof.Machine

/-- The register that holds the endpoint's node ID. -/
def State.idWord (s : State) : Word := s.rd .ep EPC_ID

/-! ### Stores and steps that leave it -/

theorem idWord_of_frame {s t : State} {l : List Comp} (hf : ∀ {wt}, Off wt l → t.view wt = s.view wt)
    (hl : l.all (fun d => !d.meets (.page .ep 4)) = true) : t.idWord = s.idWord :=
  rd_of_frame hf (EPC_ID_comp .ep) 0 0 hl

theorem wr_idWord {r : Reg} (h : EPC_ID.key 0 0 % 2 ^ 24 ≠ r.key 0 0 % 2 ^ 24) (s : State) (x : Word) (b i : Nat) :
    (s.wr .ep r x b i).idWord = s.idWord := rd_wr_of_place h ..

theorem put_idWord {f : Fld} (h : EPC_ID.key 0 0 % 2 ^ 24 ≠ f.reg.key 0 0 % 2 ^ 24) (s : State) (v b i : Nat) :
    (s.put .ep f v b i).idWord = s.idWord := rd_put_of_place h ..

theorem onCmd_idWord (s : State) (q i : Nat) (f : Cmd → Cmd) : (s.onCmd q i f).idWord = s.idWord := idWord_of_frame (State_onCmd_frame s q i f) (by decide)

theorem onAg_idWord (s : State) (f : Traffic → Traffic) : (s.onAg f).idWord = s.idWord := rfl

theorem onAcc_idWord (s : State) (id : Nat) (f : Access → Access) : (s.onAcc id f).idWord = s.idWord := rfl

theorem onRly_idWord (s : State) (f : Relay → Relay) : (s.onRly f).idWord = s.idWord := rfl

theorem acquireDone_idWord (s : State) (q i : Nat) (value : Word) (verdict : Bool) : (s.acquireDone q i value verdict).idWord = s.idWord :=
  idWord_of_frame (State_acquireDone_frame s q i value verdict) (by decide)

theorem accWrite_idWord (s : State) (addr : Nat) (data : List Byte) : (s.accWrite addr data).idWord = s.idWord :=
  idWord_of_frame (State_accWrite_frame s addr data) (by decide)

theorem cmdSettle_idWord (s : State) (q i : Nat) : (s.cmdSettle q i).idWord = s.idWord := idWord_of_frame (State_cmdSettle_frame s q i) (by decide)

theorem sendReq_idWord (s : State) (who : ReqFor) (k : Packet) (tag : Nat) : (s.sendReq who k tag).idWord = s.idWord :=
  idWord_of_frame (State_sendReq_frame s who k tag) (by decide)

/-! ### The sync objects -/

/-- The registers of a mismatch of scopes (R90). -/
def mismatchRegs : List Reg := [EPC_SCOPE_MM_CNT, EPC_SCOPE_MM_LAST0, EPC_SCOPE_MM_LAST1]

theorem epMismatch_idWord (s : State) (rel : Nat × Agent) (acqScope acqQueue idx kind id : Nat) :
    (s.epMismatch rel acqScope acqQueue idx kind id).idWord = s.idWord := by
  have apart : ∀ r ∈ mismatchRegs, EPC_ID.key 0 0 % 2 ^ 24 ≠ r.key 0 0 % 2 ^ 24 := by decide
  have shown {f : Fld} (h : f.reg ∈ mismatchRegs) (t : State) (v : Nat) : (t.put .ep f v).idWord = t.idWord := put_idWord (apart _ h) ..
  unfold State.epMismatch
  iterate 11 refine (shown (by decide) ..).trans ?_
  exact shown (by decide) ..

theorem ownAcquire_idWord (s : State) (idx q i : Nat) : (s.ownAcquire idx q i).idWord = s.idWord :=
  (acquireDone_idWord ..).trans (when_leaves (part := State.idWord) (fun t => epMismatch_idWord t ..) _ s)

theorem satisfy_idWord (s : State) (w : SyncWait) : (s.satisfy .ep w).idWord = s.idWord := by
  unfold State.satisfy
  split
  next k _ => exact idWord_of_frame (State_acquireAnswer_ep_frame s w.idx k w.queue) (by decide)
  next => exact ownAcquire_idWord ..

theorem wake_idWord (s : State) (idx : Nat) : (s.wake .ep idx).idWord = s.idWord := by
  unfold State.wake
  extract_lets v hit go t
  exact foldl_leaves State.idWord _ satisfy_idWord go t

theorem release_idWord (s : State) (idx : Nat) (v : Word) (scope : Nat) (a : Agent) : (s.release .ep idx v scope a).idWord = s.idWord :=
  (wake_idWord ..).trans ((idWord_of_frame (State_setRelease_ep_frame _ idx scope a) (by decide)).trans (wr_idWord (by decide) ..))

/-! ### Commands and accesses -/

theorem cmdTakes_idWord (s : State) (q : Access) (status : Nat) (data : List Byte) (aux : Nat) (resent : Bool) :
    (s.cmdTakes q status data aux resent).idWord = s.idWord := by
  unfold State.cmdTakes
  extract_lets t
  have counted : t.idWord = s.idWord := onCmd_idWord ..
  split
  next => exact counted
  next c _ =>
    extract_lets u v
    have taken : u.idWord = s.idWord := by
      refine Eq.trans ?_ counted
      unfold u
      split
      · exact onCmd_idWord ..
      · split
        · rfl
        · split
          · exact accWrite_idWord ..
          · split
            · exact (when_leaves (part := State.idWord) (fun t => accWrite_idWord t ..) _ _).trans (onCmd_idWord ..)
            · rfl
    split
    · split
      · exact (cmdSettle_idWord ..).trans taken
      · exact (acquireDone_idWord ..).trans ((when_leaves (part := State.idWord) (fun t => epMismatch_idWord t ..) _ u).trans taken)
    · exact (cmdSettle_idWord ..).trans taken

theorem finish_idWord (s : State) (id status : Nat) (data : List Byte) (aux : Nat) (resent : Bool) :
    (s.finish id status data aux resent).idWord = s.idWord := by
  have dropped : (s.dropAcc id).idWord = s.idWord := rfl
  unfold State.finish
  split
  · rfl
  · extract_lets t
    split
    next m _ => exact (idWord_of_frame (State_memCpl_frame t m status _) (by decide)).trans dropped
    next =>
      split
      · exact dropped
      · exact (cmdTakes_idWord ..).trans dropped

theorem localSync_idWord (s : State) (q : Access) : (s.localSync q).idWord = s.idWord := by
  unfold State.localSync
  extract_lets idx me x clear value t v
  split
  · exact finish_idWord ..
  · split
    · exact finish_idWord ..
    · exact (finish_idWord ..).trans ((onCmd_idWord ..).trans ((release_idWord ..).trans
        (when_leaves (part := State.idWord) (fun u => idWord_of_frame (State_synClearError_ep_frame u idx) (by decide)) clear s)))

theorem sendAcc_idWord (s : State) (q : Access) (op : Nat) (fab : Word) (len : Nat) (data : List Byte) :
    (s.sendAcc q op fab len data).idWord = s.idWord := by
  unfold State.sendAcc
  extract_lets k
  split
  · exact (sendReq_idWord ..).trans (onAcc_idWord ..)
  · split
    · rfl
    · exact put_idWord (f := EPC_INJ_STS_TAG_WAITS) (by decide) ..

theorem runCached_idWord (s : State) (q : Access) : (s.runCached q).idWord = s.idWord := by
  unfold State.runCached
  extract_lets off
  split
  next c _ =>
    split
    · exact finish_idWord ..
    · split
      · split
        · exact finish_idWord ..
        · exact (when_leaves (part := State.idWord) (fun t => onAg_idWord t _) _ _).trans (sendAcc_idWord ..)
      · split
        · exact finish_idWord ..
        · exact sendAcc_idWord ..
  next =>
    split
    · exact finish_idWord ..
    · exact sendAcc_idWord ..

theorem driveOne_idWord (s : State) (q : Access) : (s.driveOne q).idWord = s.idWord := by
  unfold State.driveOne
  split
  · -- a new access is translated
    split
    · rfl
    · split
      · split
        · exact finish_idWord ..
        · rfl
      · split
        next => exact finish_idWord ..
        next =>
          split
          · exact finish_idWord ..
          · rfl
        next =>
          extract_lets t
          split
          · rfl
          · rfl
  · split
    · -- one that waits for its translation
      split
      · rfl
      · rfl
    · split
      · rfl
      · split
        · rfl
        · split
          · -- a release that is held, or writes its lines back first
            split
            · rfl
            · exact foldl_leaves State.idWord _ (fun t e => idWord_of_frame (State_epWriteBack_frame t q e) (by decide)) _ s
          · split
            · exact finish_idWord ..
            · split
              · exact localSync_idWord ..
              · split
                · exact runCached_idWord ..
                · split
                  · exact finish_idWord ..
                  · exact sendAcc_idWord ..

theorem drivePass_idWord (s : State) : s.drivePass.idWord = s.idWord := by
  unfold State.drivePass
  extract_lets t
  have accesses : t.idWord = s.idWord := by
    refine foldl_leaves State.idWord _ (fun u id => ?_) _ s
    split
    · exact driveOne_idWord ..
    · rfl
  exact (foldl_leaves State.idWord _ (fun u x => idWord_of_frame (State_driveXlate_frame u x) (by decide)) _ t).trans accesses

theorem driveN_idWord (fuel : Nat) (s : State) : (State.driveN fuel s).idWord = s.idWord := by
  induction fuel generalizing s with
  | zero => rfl
  | succ fuel ih =>
    unfold State.driveN
    extract_lets t
    split
    · exact drivePass_idWord s
    · exact (ih t).trans (drivePass_idWord s)

theorem drive_idWord (s : State) : s.drive.idWord = s.idWord := driveN_idWord _ s

/-! ### The fabric reset of the endpoint (R487) -/

/-- The endpoint without its node ID and its bindings. -/
def State.unbound (s : State) : State :=
  let s := ((s.put .ep EPC_ID_NODE_ID 0).put .ep EPC_ID_NODE_VALID 0).put .ep PWR_EP_RST_READY 0
  let s := (s.applySet [] 0).wr .ep CTX_APPLIED_SEQ 0
  let s := ((s.wr .ep CTX_APPLIED_SW 0).put .ep HDR_LOCK_SEQ_LOW 0 0 pgCtx).attested .ep 4
  s.onRly fun r => { bridles := r.bridles, bridled := r.bridled, marked := r.marked }

/-- Start-up and tack-up begin again. -/
def State.retacked (s : State) : State :=
  let s := if 4 ≤ s.epc.step then s.toStep .ep 4 else s
  (s.portList .ep).foldl (fun s n => s.startTack .ep n) s

theorem fabricReset_ep {s : State} (h : s.epc.inReset = false) : ∃ u : State, s.fabricReset .ep = u.unbound.retacked.drive := by
  rw [State.fabricReset, if_neg (by exact Bool.eq_false_iff.1 h)]
  exact ⟨_, rfl⟩

theorem retacked_idWord (s : State) : s.retacked.idWord = s.idWord := by
  unfold State.retacked
  extract_lets t
  have stepped : t.idWord = s.idWord := by
    unfold t
    split
    · exact idWord_of_frame (State_toStep_ep_frame s 4) (by decide)
    · rfl
  exact (foldl_leaves State.idWord _ (fun u n => idWord_of_frame (State_startTack_ep_frame u n) (by decide)) _ t).trans stepped

theorem node_of_idWord {s t : State} (h : t.idWord = s.idWord) : t.get .ep EPC_ID_NODE_ID = s.get .ep EPC_ID_NODE_ID := get_congr (f := EPC_ID_NODE_ID) h

theorem unbound_node (s : State) : s.unbound.get .ep EPC_ID_NODE_ID = 0 := by
  let cleared := (s.put .ep EPC_ID_NODE_ID 0).put .ep EPC_ID_NODE_VALID 0
  have node : cleared.get .ep EPC_ID_NODE_ID = 0 :=
    (get_put_beside (f := EPC_ID_NODE_VALID) (g := EPC_ID_NODE_ID) rfl (.inl (by decide)) ..).trans (get_put s .ep EPC_ID_NODE_ID 0 0 0 (by decide))
  let waiting := cleared.put .ep PWR_EP_RST_READY 0
  have waits : waiting.idWord = cleared.idWord := put_idWord (by decide) ..
  let applied := (waiting.applySet [] 0).wr .ep CTX_APPLIED_SEQ 0
  have applies : applied.idWord = waiting.idWord :=
    (wr_idWord (by decide) ..).trans (idWord_of_frame (State_applySet_frame waiting [] 0) (by decide))
  let shown := (applied.wr .ep CTX_APPLIED_SW 0).put .ep HDR_LOCK_SEQ_LOW 0 0 pgCtx
  have shows : shown.idWord = applied.idWord := (put_idWord (by decide) ..).trans (wr_idWord (by decide) ..)
  have result : s.unbound = (shown.attested .ep 4).onRly fun r => { bridles := r.bridles, bridled := r.bridled, marked := r.marked } := rfl
  have ends : (shown.attested .ep 4).idWord = shown.idWord := idWord_of_frame (State_attested_ep_frame shown 4) (by decide)
  rw [result]
  exact (node_of_idWord ((onRly_idWord ..).trans (ends.trans (shows.trans (applies.trans waits))))).trans node

theorem fabricReset_ep_node {s : State} (h : s.epc.inReset = false) : (s.fabricReset .ep).get .ep EPC_ID_NODE_ID = 0 := by
  obtain ⟨u, result⟩ := fabricReset_ep h
  rw [result]
  exact (node_of_idWord ((drive_idWord _).trans (retacked_idWord _))).trans (unbound_node u)

/-! ### The rows of the resets -/

/-- Settles O1: each row is the composition that its rule gives, and what follows the stores of the rule (events, demands, tack-up, accesses that move) leaves what they hold. -/
theorem resetRowsComplete : Obligations.ResetRowsComplete := by
  unfold Obligations.ResetRowsComplete
  refine ⟨?_, ?_, ?_, ?_, ?_, ?_, ?_, ?_, ?_, ?_, ?_, ?_, ?_, ?_, ?_, ?_, ?_⟩
  case refine_1 =>
    intro p samples s hmain hreset htrip htap
    obtain ⟨rest, up⟩ := begin_started (s.onChip p fun c => { c with rstLow := false }) p samples
    rw [onChip_chip] at rest
    exact ⟨_, congrArg Host.Outcome.next (resetRelease_begins hmain hreset htrip htap samples),
      (inReset_of_rest rest).trans rfl, (rstLow_of_rest rest).trans rfl, up⟩
  case refine_2 =>
    intro samples s hmain hreset htrip htap hagree
    obtain ⟨u, -, -, role, result⟩ := begin_sw (s.onChip .sw fun c => { c with rstLow := false }) samples
    rw [if_pos hagree] at role result
    refine ⟨u, congrArg Host.Outcome.next ((resetRelease_begins (p := .sw) hmain hreset htrip htap samples).trans result), role.trans ?_⟩
    exact Nat.mod_mod_of_dvd _ (by decide)
  case refine_3 => exact fun p samples s hdown => ⟨_, rfl, standbyPowerOn_up hdown samples⟩
  case refine_4 => exact fun samples s hdown => ⟨_, rfl, standbyPowerOn_straps hdown samples⟩
  case refine_5 => exact fun p s hmain hstandby => ⟨_, rfl, standbyPowerOff_down hmain hstandby⟩
  case refine_6 => exact fun p s hmain => ⟨_, rfl, mainRailsLost_down hmain⟩
  case refine_7 => exact fun p s hmain hstandby => ⟨_, rfl, mainRailsOn_up hmain hstandby⟩
  case refine_8 => exact fun bad imageOk s hreset hstep => ⟨_, rfl, startupStepDone_three hreset hstep bad imageOk⟩
  case refine_9 =>
    intro bad imageOk s hreset hstep
    obtain ⟨t, result⟩ := startupStepDone_four hreset hstep bad imageOk
    exact ⟨_, congrArg Host.Outcome.next result, toStep_chip t .sw 5, toStep_shown t (by decide)⟩
  case refine_10 =>
    intro bad imageOk s hreset hstep
    exact ⟨_, congrArg Host.Outcome.next (startupStepDone_eight hreset hstep bad imageOk), toStep_chip _ .sw 9, toStep_shown _ (by decide)⟩
  case refine_11 =>
    intro modules s hreset hstep
    exact ⟨_, congrArg Host.Outcome.next (endpointStartupStepDone_one hreset hstep modules), toStep_chip s .ep 2⟩
  case refine_12 =>
    intro p ns s hns hmain
    let low := s.onChip p fun c => { c with rstLow := true }
    have driven : (low.chip p).rstLow = true := by simp [low, onChip_chip]
    obtain ⟨held, ltc, log, step⟩ := coldReset_sets low p
    obtain ⟨-, kept, -⟩ := coldReset_leaves low p
    exact ⟨_, congrArg Host.Outcome.next (rstNPulse_resets hns hmain), kept.trans driven, held, ltc, log, step⟩
  case refine_13 =>
    intro s hopen
    have sets := coldReset_sets s .sw
    rw [← regDone_chip (s.coldReset .sw) .sw .sideband stOK 0 .sw] at sets
    exact ⟨_, congrArg Host.Outcome.next (rstCold_resets hopen), sets⟩
  case refine_14 =>
    intro path s hopen hreset
    let logged := s.event .sw pgRst .switchReset 4 0 (rung := some 7)
    have clock : logged.swc.ltc = s.swc.ltc := sameIn_of_frame (State_event_sw_frame s pgRst .switchReset 4 0 none (some 7) false 0 0) (.ltc .sw) (by decide)
    obtain ⟨awake, step, ports, ltc, cause⟩ := warmReset_sw_holds logged (cause := 4) (by decide)
    have chip := regDone_chip (logged.warmReset .sw 4) .sw path stOK 0 .sw
    exact ⟨_, congrArg Host.Outcome.next (rstWarm_resets hopen hreset), (congrArg Chip.inReset chip).trans awake, (congrArg Chip.step chip).trans step,
      (congrArg Chip.ports chip).trans ports, (congrArg Chip.ltc chip).trans (ltc.trans clock), (regDone_get ..).trans cause⟩
  case refine_15 =>
    intro path s hopen hreset
    obtain ⟨level, ready⟩ := fabricReset_sw_holds hreset
    exact ⟨_, congrArg Host.Outcome.next (writeBy_of_open hopen State.rstFabricW), (regDone_get ..).trans level, (regDone_flag ..).trans ready⟩
  case refine_16 =>
    intro path s hopen hreset
    obtain ⟨step, ports, up⟩ := warmReset_ep_holds s 0
    have chip := regDone_chip (s.warmReset .ep 0) .ep path stOK 0 .ep
    exact ⟨_, congrArg Host.Outcome.next (epRstWarm_resets hopen hreset), (congrArg Chip.step chip).trans step, (congrArg Chip.ports chip).trans ports,
      (regDone_flag ..).trans up⟩
  case refine_17 =>
    intro path s hopen hreset
    exact ⟨_, congrArg Host.Outcome.next (writeBy_of_open hopen State.epFabricW), (regDone_get ..).trans (fabricReset_ep_node hreset)⟩

end Sys2Proof.Machine

end
